-- ==== Sys2Proof/Word.lean ====
section
/-! DEFINITION. The word types of the manual (R6): a word is 32 data bits; a byte is 8; registers are 32 or 64 bits wide (R11). -/

namespace Sys2Proof

/-- A word is 32 data bits (R6). -/
abbrev Word := BitVec 32

/-- A byte of memory, of a frame, of a packet or of flash. -/
abbrev Byte := BitVec 8

/-- The value of a register of either width (R11): a 32-bit register holds zero in bits [63:32]. -/
abbrev RegVal := BitVec 64

end Sys2Proof
end

