-- ==== Sys2Proof/Syntax.lean ====
section
/-! DEFINITION. The commands of the block: one constructor per row of spec/opcode_table.json, with the operands its rule names, and the small types of those operands. -/

namespace Sys2Proof

/-- Who issues an access or a write (R10, R32, R186): a management core, the Ixzento firmware, the debug port, an access port p of
logical cluster lc of region r of this package, or a port (numbered lp) of region r of another package. -/
inductive Issuer where
  | core (c : Nat)
  | ixz
  | debug
  | port (r lc p : Nat)
  | remote (pkg r lp : Nat)
  deriving DecidableEq, Repr

/-- R11, R393: how wide an access of the core view is, in bits. -/
inductive Width where
  | b8 | b16 | b32 | b64
  deriving DecidableEq, Repr

/-- R23: a token is 32 data bits with the sideband bits P and F. -/
structure Tok where
  d : Word := 0
  p : Bool := false
  f : Bool := false
  deriving DecidableEq, Repr

/-- R136, R139, R140: a link of the access plane, in one direction: between two switches of a region mesh; from a region's switch 19 to its
switch of the die mesh, and back; between the die-mesh switches of two regions of a die, numbered 0..7; a seam from die d to die e; and a
die's base seam, to the base die and from it. -/
inductive PlaneLink where
  | mesh (r a b : Nat)
  | out (r : Nat)
  | into (r : Nat)
  | die (d a b : Nat)
  | seam (d e : Nat)
  | toBase (d : Nat)
  | fromBase (d : Nat)
  deriving DecidableEq, Repr

/-- One move of TOKEN_MOVE (R124): a token crosses from its stage into the next one with room. -/
inductive Move where
  /-- Across one link of the access plane: the access or answer that its switch serves next (R137). -/
  | lane (l : PlaneLink)
  /-- From the selected source of a physical cluster into one of its sinks, numbered as `Sink` numbers them. -/
  | sink (g : Fin 544) (k : Fin 305)
  /-- From stage i of a stream channel to stage i + 1; the channel is named by its source endpoint word (R356). -/
  | stage (ch : Word) (i : Nat)
  /-- From the last stage of a channel, or from the broadcast line it selects, into a pin cell's MT (false) or MC (true) input. -/
  | pin (p : Fin 768) (mc : Bool)
  /-- From a pin cell's capture output to the first stage of its channel. -/
  | cap (p : Fin 768)
  /-- From a STREAM hopper's consumer side to the first stage of its channel. -/
  | hopOut (h : Fin 256) (hits : BitVec 35) (glitch : Bool)
  /-- From a down-ferry to the first stage of its channel. -/
  | down (n : Fin 128)
  /-- From a receiving serial group to the first stage of its channel. -/
  | serial (b : Fin 24) (i : Fin 2)
  deriving DecidableEq, Repr

/-- Where a stalled stage stands (R126): at a cluster port's channel, or in a region's mesh or seams. -/
inductive StallPlace where
  | port (g : Fin 544) (p : Fin 4)
  | mesh (r : Fin 32)
  deriving DecidableEq, Repr

/-- R317, R318: how the hidden checks of a step came out: clean; an element check bit or a residue that failed once and passed on
its retry; or one that failed twice. -/
inductive Check where
  | clean
  | transient
  | lasting (residue : Bool)
  deriving DecidableEq, Repr

/-- What a closed gate refuses (R148): an access in flight, by number, or the stream token at the gate of a channel. -/
inductive Refused where
  | flight (id : Nat)
  | stream (ch : Word)
  deriving DecidableEq, Repr

/-- R202: where a pushed word comes from: a write to PUSH, in flight under a number, or the channel of a STREAM producer side. -/
inductive PushFrom where
  | flight (id : Nat)
  | stream (h : Fin 256)
  deriving DecidableEq, Repr

/-- R209: what asks for a flush: a FLUSH command, in flight under a number, or a write of HOP_CTL.FLUSH. -/
inductive FlushFrom where
  | flight (id : Nat)
  | ctl (iss : Issuer) (h : Fin 256)
  deriving DecidableEq, Repr

/-- A ferry of R457, or a debug token tap (R456). -/
inductive FerryRef where
  | up (n : Fin 128)
  | dn (n : Fin 128)
  | tap (t : Fin 4)
  deriving DecidableEq, Repr

/-- R299: what the forwarding stage takes next: the first message of a class received on a link, or an access of this package to another
one. -/
inductive Forward where
  | link (l : Fin 32) (cls : Fin 4)
  | flight (id : Nat)
  deriving DecidableEq, Repr

/-- R362: how the read-back after a frame write compared: equal; unequal once; unequal twice, in a pair's member A or B. -/
inductive Verify where
  | good
  | transient
  | lasting (memberB : Bool)
  deriving DecidableEq, Repr

/-- R345, R435: where a load takes its image from: a flash slot, or what a host pushed for staging. -/
inductive Source where
  | slot (i : Fin 4)
  | staged
  deriving DecidableEq, Repr

/-- R317, R318: a configuration latch that has flipped: bit `bit` of a frame's payload, in a physical cluster, a region mesh or a region's
pin cells. -/
inductive CfgPlace where
  | cluster (g : Fin 544) (index : Fin 18) (bit : Fin 4096)
  | mesh (r : Fin 32) (index : Fin 8) (bit : Fin 4096)
  | pin (r : Fin 32) (bit : Fin 4096)
  deriving DecidableEq, Repr

/-- R470 to R472, R473: what a fed instruction asks of the part; the cores' own registers and instruction set are the RISC-V standard's. -/
inductive FedEffect where
  /-- Nothing outside the core. -/
  | inside
  /-- A load from an address of the core view. -/
  | load (addr : Nat) (w : Width)
  /-- A store. -/
  | store (addr : Nat) (w : Width) (v : BitVec 64)
  /-- dscratch0 written. -/
  | scratch (v : BitVec 64)
  /-- An exception. -/
  | trap
  deriving DecidableEq, Repr

/-- R10, R393: a register access: one in flight, by number, or one of a core, the firmware or the debug port to an address of the core view. -/
inductive RegAccess where
  | flight (id : Nat)
  | direct (iss : Issuer) (addr : Nat) (w : Width)
  deriving DecidableEq, Repr

/-- R395, R428: a transport endpoint: a UDP source address and port, a package over Choval, an open handle of the mailbox, or UART0, on which the
boot ROM listens in recovery. -/
inductive Endpoint where
  | udp (addr : BitVec 128) (port : BitVec 16)
  | choval (pkg : Nat)
  | mailbox (handle : Nat)
  | uart
  deriving DecidableEq, Repr

/-- R425 to R427: a packet that reaches Ixzento: a UDP datagram with whether its checksum field is zero, a write to the mailbox, the oldest
packet put together from MGMT messages, or a packet over UART0 (R395). -/
inductive Arrival where
  | udp (addr : BitVec 128) (port : BitVec 16) (noSum : Bool) (b : List Byte)
  | mailbox (handle : Nat) (b : List Byte)
  | choval
  | uart (b : List Byte)
  deriving DecidableEq, Repr

/-- R125: what a token arrives at, and the groups of its code that are seen there with more than one wire high. -/
structure Coded (α : Type) where
  val : α
  bad : BitVec 17
  deriving DecidableEq, Repr

/-- R36: the Tally sample from which a level is seen, and in how many samples in a row. -/
structure Seen where
  ts : Nat
  held : Nat
  deriving DecidableEq, Repr

/-- R253, R264: the level a pad takes, and what the outside drives from then on. -/
structure PadIn where
  level : Bool
  ext : Option Bool
  deriving DecidableEq, Repr

/-- R268: the invalid headers among the last 64 of a lane, and how many of them were in no frame received. -/
structure LostHeaders where
  bad : Fin 65
  fresh : Fin 65
  deriving DecidableEq, Repr

/-- R268, R276: a received frame's invalid sync headers on each lane, and whether the peer sent it as a first replay. -/
structure FrameHeads where
  bad0 : Fin 9
  bad1 : Fin 9
  again : Bool
  deriving DecidableEq, Repr

/-- R268, R289: a received training frame, and its invalid sync headers on each lane. -/
structure TrainIn where
  ws : List Word
  bad0 : Fin 9
  bad1 : Fin 9
  deriving DecidableEq, Repr

/-- R336, R340: the elements that fail the power-up sweep, by kind and index, and those that fail its first run only. -/
structure SweepFails where
  lasting : List (Nat × Nat)
  once : List (Nat × Nat)
  deriving DecidableEq, Repr

/-- The commands. Each docstring gives the rule of spec/ that governs the row. -/
inductive Instr where
  /-- POWER_ON_RESET (R483): VIN first rises past 10.4 V for 1 ms, or falls below 3.0 V, and every register returns to its Reset value except fields kept on VBAT. -/
  | powerOnReset (rise vbat : Bool)
  /-- VIN_DIP_PACKAGE_RESET (R483): VIN falls below 9.8 V for more than 2 µs while staying above 3.0 V; the package resets, the always-on part survives, and boot restarts on recovery. -/
  | vinDipPackageReset
  /-- PRST_N_ASSERT (R484): PRST_N is held low for at least 1 µs, with the same effect as package reset. -/
  | prstNAssert
  /-- THERMAL_TRIP (R485): A die's temperature sensor reads 122 °C or more; the package resets and every domain is held Cold. -/
  | thermalTrip (d : Fin 4) (t : BitVec 9)
  /-- THERMAL_TRIP_RELEASE (R485): Every die reads below 100 °C after a thermal trip, and the boot restarts. -/
  | thermalTripRelease
  /-- BOOT_SEQUENCE (R395): After reset is released, the boot ROM on core 0 checks the strap record, verifies and runs the first-stage firmware, or enters recovery. -/
  | bootSequence (fails : SweepFails)
  /-- REGISTER_WRITE (R10): A write to a register that has no row of its own performs its RW, WO and W1C fields, or is ignored, or is counted as a forbidden access. -/
  | registerWrite (w : RegAccess) (v : BitVec 64)
  /-- CALRUN (R61): A write of 1 to TLY_CTL.CALRUN starts a spine calibration at once. -/
  | calrun (iss : Issuer)
  /-- SPINE_CALIBRATION (R61): Each CALPER period the spine receivers measure and compensate seam delay and update SKEW. -/
  | spineCalibration (skew : Fin 301)
  /-- REFLOCK (R61): The 200 MHz multiplier locks to the 50 MHz reference and the Tally clock starts. -/
  | reflock
  /-- PHASE_INPUT_EDGE (R39): A filtered edge on a phase input pin is accepted, timestamped and counted as NUM/DEN pu for a counting or zero-crossing source. -/
  | phaseInputEdge (p : Fin 16) (lv : BitVec 4) (ts : Seen) (two : Bool)
  /-- INDEX_EDGE (R56): A rising Z edge compares the position fraction with ZREF and acts on a mismatch according to ZMODE. -/
  | indexEdge (p : Fin 16) (ts : Seen)
  /-- SSI_REQUEST (R42): Every REQ × 100 ns an SSI port sends a burst of BITS clock pulses. -/
  | ssiRequest (p : Fin 16) (ts : Nat) (dataHigh : Bool)
  /-- SSI_FRAME (R42): A complete SSI frame is read, Gray-decoded if set, and used as a timestamped measurement. -/
  | ssiFrame (p : Fin 16) (bits : Word) (returned : Bool)
  /-- FABRIC_STREAM_MEASUREMENT (R45): The Tally takes a phase short from its fabric-stream ferry as a measurement, or discards a poisoned one and sets POISON. -/
  | fabricStreamMeasurement (n : Fin 128) (ts : Nat)
  /-- TLY_PORT_CFG_WRITE (R47): A write to a phase port register changes fields only while EN = 0; otherwise it is ignored and counted. -/
  | tlyPortCfgWrite (iss : Issuer) (p : Fin 16) (off : Fin 9) (v : Word)
  /-- TLY_DIFF_WRITE (R493): A write to TLY_DIFF pairs ports n and n + 8, and is ignored and counted for a pair with an enabled port. -/
  | tlyDiffWrite (iss : Issuer) (v : Word)
  /-- SPINE_TICK (R49): Every 5 ns each phase line's estimator updates from the latest measurement and the Tally emits the spine frame 40 ns ahead. -/
  | spineTick
  /-- STANDSTILL_TIMEOUT (R53): No count for STILL µs sets STILL and zeroes velocity and acceleration. -/
  | standstillTimeout (l : Fin 8)
  /-- MISSING_PULSE (R57): No zero-crossing pulse by the tolerance time inserts a count, sets MISS and COAST. -/
  | missingPulse (l : Fin 8)
  /-- SPINE_FRAME_ARRIVAL (R58): A region receives the spine frame for an interval and its cells and pin cells use it from tk. -/
  | spineFrameArrival (r : Fin 32) (k : Nat)
  /-- SPINE_FRAME_MISSING (R60): A region has no frame by tk, predicts the value with VALID = 0 and reports a stall. -/
  | spineFrameMissing (r : Fin 32) (lasting : Bool)
  /-- LINE_ENABLE (R50): A write of TLY_PLn_CTL.EN enables or disables a phase line at the next interval. -/
  | lineEnable (iss : Issuer) (l : Fin 8) (v : Word)
  /-- COMMIT (R65): A write of 1 to CTL.COMMIT requests that every staged line value be applied. -/
  | commit (iss : Issuer) (l : Fin 8)
  /-- COMMIT_APPLY (R65): At the first interval boundary after COMMIT reaches the Tally, the staged values apply together. -/
  | commitApply (l : Fin 8)
  /-- HOLD (R66): A write of TLY_PLn_HOLD freezes or releases the readable line state. -/
  | hold (iss : Issuer) (l : Fin 8) (v : Word)
  /-- TOKEN_ARRIVAL (R69): A token arrives at a cell input port and is stored in its empty operand slot. -/
  | tokenArrival (x : Fin 34816) (i : Fin 4) (bad : BitVec 17)
  /-- NOP (R109): The cell steps with result zero, consuming named ports and carrying a lone fence. -/
  | nop (x : Fin 34816) (ck : Check)
  /-- MOV (R109): The cell steps with r = a. -/
  | mov (x : Fin 34816) (ck : Check)
  /-- MOVH (R109): The cell steps with r = (i << 16) OR a[15:0]. -/
  | movh (x : Fin 34816) (ck : Check)
  /-- SEL (R109): The cell selects b if CP = 1, else a, with the selected operand's P OR CPP. -/
  | sel (x : Fin 34816) (ck : Check)
  /-- PTST (R109): The cell writes CP from the P bit of a, with CPP = 0 and an unpoisoned result. -/
  | ptst (x : Fin 34816) (ck : Check)
  /-- FTST (R109): The cell writes CP from the F bit of a, with CPP = 0. -/
  | ftst (x : Fin 34816) (ck : Check)
  /-- ADD (R110): The cell steps with r = a + b and carry out of bit 31. -/
  | add (x : Fin 34816) (ck : Check)
  /-- ADC (R110): The cell reads the carry link and steps with r = a + b + cin, writing the carry to CP. -/
  | adc (x : Fin 34816) (ck : Check)
  /-- SUB (R110): The cell steps with r = a + NOT b + 1. -/
  | sub (x : Fin 34816) (ck : Check)
  /-- SBC (R110): The cell reads the carry link and steps with r = a + NOT b + cin, writing the carry to CP. -/
  | sbc (x : Fin 34816) (ck : Check)
  /-- NEG (R110): The cell steps with r = 0 − a, wrapping. -/
  | neg (x : Fin 34816) (ck : Check)
  /-- ABS (R110): The cell steps with r = |a|, saturating 0x8000_0000. -/
  | abs (x : Fin 34816) (ck : Check)
  /-- ADDS (R110): The cell adds a and b with signed saturation. -/
  | adds (x : Fin 34816) (ck : Check)
  /-- SUBS (R110): The cell subtracts b from a with signed saturation. -/
  | subs (x : Fin 34816) (ck : Check)
  /-- ADDU (R110): The cell adds a and b with unsigned saturation. -/
  | addu (x : Fin 34816) (ck : Check)
  /-- SUBU (R110): The cell subtracts b from a with unsigned saturation at zero. -/
  | subu (x : Fin 34816) (ck : Check)
  /-- MIN (R111): The cell returns the smaller of a and b, signed. -/
  | min (x : Fin 34816) (ck : Check)
  /-- MAX (R111): The cell returns the larger of a and b, signed. -/
  | max (x : Fin 34816) (ck : Check)
  /-- MINU (R111): The cell returns the smaller of a and b, unsigned. -/
  | minu (x : Fin 34816) (ck : Check)
  /-- MAXU (R111): The cell returns the larger of a and b, unsigned. -/
  | maxu (x : Fin 34816) (ck : Check)
  /-- SATS (R111): The cell limits a to a signed n-bit range with n from b. -/
  | sats (x : Fin 34816) (ck : Check)
  /-- SATU (R111): The cell limits signed a to 0..2^n − 1. -/
  | satu (x : Fin 34816) (ck : Check)
  /-- CLAMP (R111): The cell limits a to −L..L with L = |b| saturated. -/
  | clamp (x : Fin 34816) (ck : Check)
  /-- AND (R112): The cell steps with r = a AND b. -/
  | andOp (x : Fin 34816) (ck : Check)
  /-- OR (R112): The cell steps with r = a OR b. -/
  | orOp (x : Fin 34816) (ck : Check)
  /-- XOR (R112): The cell steps with r = a XOR b. -/
  | xorOp (x : Fin 34816) (ck : Check)
  /-- ANDN (R112): The cell steps with r = a AND NOT b. -/
  | andn (x : Fin 34816) (ck : Check)
  /-- SHL (R112): The cell shifts a left by b[4:0], with the bits shifted out as link word. -/
  | shl (x : Fin 34816) (ck : Check)
  /-- SHR (R112): The cell shifts a right logically by b[4:0]. -/
  | shr (x : Fin 34816) (ck : Check)
  /-- SAR (R112): The cell shifts a right arithmetically by b[4:0]. -/
  | sar (x : Fin 34816) (ck : Check)
  /-- ROL (R112): The cell rotates a left by b[4:0]. -/
  | rol (x : Fin 34816) (ck : Check)
  /-- ROR (R112): The cell rotates a right by b[4:0]. -/
  | ror (x : Fin 34816) (ck : Check)
  /-- SHLC (R112): The cell reads the carry link and steps with r = (a << n) OR win. -/
  | shlc (x : Fin 34816) (ck : Check)
  /-- FSHR (R112): The cell returns bits [31:0] of b:a shifted right by i[4:0]. -/
  | fshr (x : Fin 34816) (ck : Check)
  /-- CLZ (R112): The cell returns the number of leading zeros of a. -/
  | clz (x : Fin 34816) (ck : Check)
  /-- MUL (R113): The cell returns the low word of a × b in a class M step. -/
  | mul (x : Fin 34816) (ck : Check)
  /-- MULH (R113): The cell returns the signed high word of a × b. -/
  | mulh (x : Fin 34816) (ck : Check)
  /-- MULHU (R113): The cell returns the unsigned high word of a × b. -/
  | mulhu (x : Fin 34816) (ck : Check)
  /-- MULSH (R113): The cell forms the signed product, optionally rounds, shifts right by s and saturates. -/
  | mulsh (x : Fin 34816) (ck : Check)
  /-- CEQ (R114): The cell sets CP when a = b. -/
  | ceq (x : Fin 34816) (ck : Check)
  /-- CNE (R114): The cell sets CP when a ≠ b. -/
  | cne (x : Fin 34816) (ck : Check)
  /-- CLT (R114): The cell sets CP when a < b, signed. -/
  | clt (x : Fin 34816) (ck : Check)
  /-- CLE (R114): The cell sets CP when a ≤ b, signed. -/
  | cle (x : Fin 34816) (ck : Check)
  /-- CGT (R114): The cell sets CP when a > b, signed. -/
  | cgt (x : Fin 34816) (ck : Check)
  /-- CGE (R114): The cell sets CP when a ≥ b, signed. -/
  | cge (x : Fin 34816) (ck : Check)
  /-- CLTU (R114): The cell sets CP when a < b, unsigned. -/
  | cltu (x : Fin 34816) (ck : Check)
  /-- CLEU (R114): The cell sets CP when a ≤ b, unsigned. -/
  | cleu (x : Fin 34816) (ck : Check)
  /-- CGTU (R114): The cell sets CP when a > b, unsigned. -/
  | cgtu (x : Fin 34816) (ck : Check)
  /-- CGEU (R114): The cell sets CP when a ≥ b, unsigned. -/
  | cgeu (x : Fin 34816) (ck : Check)
  /-- TST (R114): The cell sets CP when a AND b is nonzero. -/
  | tst (x : Fin 34816) (ck : Check)
  /-- PLT (R114): The cell sets CP when a is earlier than b under half-range ordering. -/
  | plt (x : Fin 34816) (ck : Check)
  /-- PGE (R114): The cell sets CP when a equals or is later than b under half-range ordering. -/
  | pge (x : Fin 34816) (ck : Check)
  /-- PWIN (R114): The cell sets CP when a lies in the half-open window [b, b + i). -/
  | pwin (x : Fin 34816) (ck : Check)
  /-- RD (R115): The cell emits a read access word built from IMM and a[23:0]. -/
  | rd (x : Fin 34816) (ck : Check)
  /-- WR (R115): The cell emits a write access word on OX and the write data b on OY. -/
  | wr (x : Fin 34816) (ck : Check)
  /-- MARK (R119): The cell emits a target phase short on OX and a pin-cell command word on OY as one pair. -/
  | mark (x : Fin 34816) (ck : Check)
  /-- RESERVED_OPCODE (R105): A slot with a reserved opcode behaves in every respect as a skipped step. -/
  | reservedOpcode (x : Fin 34816) (ck : Check)
  /-- SKIPPED_STEP (R76): A PRED step with CP = CPP = 0 consumes its operands, writes nothing, places a zero carry if CARRY, and advances. -/
  | skippedStep (x : Fin 34816) (ck : Check)
  /-- CELL_STALL (R94): A fired step has not completed after 64 spine intervals; the cell sets STALL and reports to its Tinker. -/
  | cellStall (x : Fin 34816) (lasting : Bool)
  /-- TOKEN_MOVE (R124): A token crosses one handshake stage into a receiving stage that has room, at event 2. -/
  | tokenMove (m : Move) (bad : BitVec 17)
  /-- STAGE_STALL (R126): A stage with a half-arrived codeword or incomplete spacer for 320 ns sets STALL and reports. -/
  | stageStall (w : StallPlace) (lasting : Bool)
  /-- ACCESS_WORD (R132): An access port takes an access word from REQ, with DATA for a write, forms the global address and sends it on the access plane. -/
  | accessWordSent (lp : Fin 2048)
  /-- ACCESS_REPLY (R117): A read reply token returns to its issuing port and is delivered on REPLY in order. -/
  | accessReply (id : Nat)
  /-- ACCESS_COMPLETION_REPORT (R157): A completion or refusal report reaches the issuing port and lowers its outstanding counts. -/
  | accessCompletionReport (id : Nat)
  /-- BROADCAST_TOKEN (R143): A broadcast line delivers a token to every selecting tap of lit clusters and frees it when all have taken it. -/
  | broadcastToken (r : Fin 32) (b : Coded (Fin 8))
  /-- BDUP (R145): An upset sets a second broadcast driver enable; the line stays with the first source and BDUP is set. -/
  | bdup (r : Fin 32) (b : Fin 8) (lc : Fin 16)
  /-- GATE_CLOSE (R147): A region's gate closes for a load or Ash, refusing new traffic and draining accepted traffic. -/
  | gateClose (r : Fin 32)
  /-- GATE_DRAIN_COMPLETE (R147): Accepted traffic has drained, cells are held and break tokens are sent on outbound stream channels. -/
  | gateDrainComplete (r : Fin 32)
  /-- GATE_REFUSAL (R148): Traffic reaching a closed gate is refused, counted in TNK_MESH_REFUSE and answered with QUARANTINED. -/
  | gateRefusal (w : Refused)
  /-- CORE_FABRIC_LOAD (R394): A core issues a blocking load to fabric space as requester 17 and receives the reply. -/
  | coreFabricLoad (c : Fin 4) (addr : BitVec 64) (w : Width)
  /-- CORE_FABRIC_STORE (R160): A core posts a store to fabric space, which retires before it is performed. -/
  | coreFabricStore (c : Fin 4) (addr : BitVec 64) (w : Width) (v : BitVec 64)
  /-- CORE_FENCE (R160): A core FENCE with I and O in its predecessor set completes after every earlier fabric access is performed. -/
  | coreFence (c : Fin 4)
  /-- FTMO (R394): A fabric load without reply within FTMO µs returns zero and sets FTMO. -/
  | ftmo (c : Fin 4)
  /-- BM_READ (R167): A block memory port reads an entry and returns it on REPLY. -/
  | bmRead (q : Fin 2176) (hits : List (Fin 8 × Fin 9)) (glitch : Bool)
  /-- BM_WRITE (R167): A block memory port takes its DATA tokens and stores the entry as one operation. -/
  | bmWrite (q : Fin 2176)
  /-- BM_INIT_DONE (R173): A block memory finishes its ZERO clear or DATA initialisation and sets INITDONE. -/
  | bmInitDone (b : Fin 1088)
  /-- SCRATCH_READ (R176): A granted read returns a scratch word through any view. -/
  | scratchRead (id : Nat) (hits g1 g2 : BitVec 39)
  /-- SCRATCH_WRITE (R176): A granted normal-view write stores a word with fresh check bits. -/
  | scratchWrite (id : Nat)
  /-- SET_ALIAS_WRITE (R178): A set-alias write ORs data into a word as one atomic read-modify-write. -/
  | setAliasWrite (id : Nat) (hits g1 g2 : BitVec 39)
  /-- CLEAR_ALIAS_WRITE (R178): A clear-alias write ANDs NOT data into a word as one atomic read-modify-write. -/
  | clearAliasWrite (id : Nat) (hits g1 g2 : BitVec 39)
  /-- BANK_ROUND (R188): A round is granted to a bank, and the Porter decides the winner of the following round. -/
  | bankRound (b : Fin 128)
  /-- SCRUB_VISIT (R182): Every INTERVAL × 10 ns the scrub reads a word and rewrites it if correction is needed. -/
  | scrubVisit (b : Fin 128) (hits g1 g2 : BitVec 39)
  /-- HANDOVER (R185): A write to SCR_HAND with GO = 1 starts a change of bank owner. -/
  | handover (iss : Issuer) (b : Fin 128) (v : Word)
  /-- HDONE (R185): The old owner's requests and blocking lock are done; OWNER changes, OGEN advances and HDONE is set. -/
  | hdone (b : Fin 128)
  /-- PRT_REQ_WRITE (R190): A write to PRT_REQn sets PRI, WLIM and VEN, refusing a third VEN with VENFULL. -/
  | prtReqWrite (iss : Issuer) (b : Fin 128) (n : Fin 20) (v : Word)
  /-- BANK_CLEAR (R198): A write of 1 to SCR_CTL.CLEAR on an unowned bank starts writing zero to every word. -/
  | bankClear (iss : Issuer) (b : Fin 128)
  /-- CLRDONE (R198): A bank clear completes and sets CLRDONE. -/
  | clrdone (b : Fin 128)
  /-- HOPPER_PUSH (R205): A word is pushed into a hopper with F OR FPEND, raising OCC. -/
  | hopperPush (w : Coded PushFrom)
  /-- PENDING_PUSH_ACCEPTED (R205): A push that waited for space is accepted once space is freed. -/
  | pendingPushAccepted (id : Nat)
  /-- HOPPER_POP (R205): A read of POP delivers word[CUR], releasing it in plain mode. -/
  | hopperPop (id : Nat) (hits : BitVec 35) (glitch : Bool)
  /-- PENDING_POP_SERVED (R207): A pop held on an empty hopper takes the next word once it is stored. -/
  | pendingPopServed (h : Fin 256) (hits : BitVec 35) (glitch : Bool)
  /-- HOPPER_MARK (R206): A MARK command sets MPOS to CUR. -/
  | hopperMark (id : Nat)
  /-- REWIND (R206): A REWIND command sets CUR to MPOS. -/
  | rewind (id : Nat)
  /-- RELEASE (R206): A RELEASE command frees every popped word. -/
  | release (id : Nat)
  /-- RELEASEM (R206): A RELEASEM command frees the words before the mark. -/
  | releasem (id : Nat)
  /-- FLUSH (R209): A FLUSH command or HOP_CTL.FLUSH discards every stored word, clears the pointers and sets FPEND. -/
  | flush (w : FlushFrom)
  /-- HOPPER_CMD_NOP (R206): A NOP command word written to POP does nothing. -/
  | hopperCmdNop (id : Nat)
  /-- HOPPER_RESERVED_CMD (R206): A command word with CMD 0x6..0xF is ignored and counted in HOP_VIOL. -/
  | hopperReservedCmd (id : Nat)
  /-- HOP_WM_WRITE (R213): A write to HOP_WM changes the watermarks and re-evaluates the state at once. -/
  | hopWmWrite (iss : Issuer) (h : Fin 256) (v : Word)
  /-- MARK_NOP (R225): A pair with ACT NOP is consumed at arrival. -/
  | markNop (p : Fin 768)
  /-- MARK_LOW (R225): A pair with ACT LOW arms a mark that drives the pin low. -/
  | markLow (p : Fin 768)
  /-- MARK_HIGH (R225): A pair with ACT HIGH arms a mark that drives the pin high. -/
  | markHigh (p : Fin 768)
  /-- MARK_TOGGLE (R225): A pair with ACT TOGGLE arms a mark that inverts the driven level. -/
  | markToggle (p : Fin 768)
  /-- MARK_FLOAT (R225): A pair with ACT FLOAT arms a mark that releases the pin to its pull. -/
  | markFloat (p : Fin 768)
  /-- MARK_PARK (R225): A pair with ACT PARK arms a mark that drives the PARK value without alarm. -/
  | markPark (p : Fin 768)
  /-- WOPEN (R234): A WOPEN pair stages the window's open bound. -/
  | wopen (p : Fin 768)
  /-- WCLOSE (R234): A WCLOSE pair sets the close bound and commits both bounds together. -/
  | wclose (p : Fin 768)
  /-- CANCEL (R225): A CANCEL pair discards every armed mark. -/
  | cancel (p : Fin 768)
  /-- MARK_RESERVED_ACT (R225): A pair with a reserved ACT is consumed as a NOP and counted in PIN_VIOL. -/
  | markReservedAct (p : Fin 768)
  /-- POISONED_PAIR (R243): A pair with P = 1 parks the pin, discards armed marks, sets POISON and raises the alarm. -/
  | poisonedPair (p : Fin 768)
  /-- MARK_EVALUATION (R227): In a spine interval the head mark is tested against the swept range and fires with its edge placed on the 250 ps grid. -/
  | markEvaluation (p : Fin 768) (m : Fin 20)
  /-- CAPTURE_EDGE (R238): A selected pad edge is located on the grid, timestamped, tested against the window and queued for CAP. -/
  | captureEdge (p : Fin 768) (level : PadIn) (n : Fin 20) (before slow : Bool)
  /-- FPARK (R245): A write of PIN_CTL.FPARK forces or releases park of the pin. -/
  | fpark (iss : Issuer) (p : Fin 768) (on : Bool)
  /-- PIN_CTL_CANCEL (R225): A write of 1 to PIN_CTL.CANCEL discards every armed mark. -/
  | pinCtlCancel (iss : Issuer) (p : Fin 768)
  /-- WCLR (R234): A write of 1 to PIN_CTL.WCLR commits an empty window and clears the staged bound. -/
  | wclr (iss : Issuer) (p : Fin 768)
  /-- SUPPLY (R251): A bank rail outside ±5 % for more than 1 µs turns the drivers off and sets SUPPLY. -/
  | supply (b : Fin 24)
  /-- SERIAL_FRAME_RECEIVED (R257): A receiving serial group takes a 36-bit frame and delivers a word as a token, or discards an idle frame. -/
  | serialFrameReceived (n : Fin 48) (f : BitVec 36)
  /-- ALIGN (R258): A receiving group sees 16 consecutive valid headers and sets ALIGN. -/
  | align (n : Fin 48)
  /-- SYNCERR (R258): A group sees 4 consecutive invalid headers, loses alignment and sets SYNCERR. -/
  | syncerr (n : Fin 48)
  /-- SERIAL_WORD_TRANSMIT (R257): A transmitting group takes a token and sends it as a word frame, or sends idle frames. -/
  | serialWordTransmit (n : Coded (Fin 48))
  /-- PAD_SWITCH_COMPLETE (R264): After 16 ns of keeper hold, the new function takes the pad in a break-before-make change. -/
  | padSwitchComplete (p : Fin 768)
  /-- BLOCK_LOCK (R268): A lane gains block lock after 64 valid sync headers. -/
  | blockLock (l : Fin 32) (k : Fin 2)
  /-- BLOCK_LOCK_LOSS (R268): A lane loses block lock when 16 of 64 blocks carry invalid headers. -/
  | blockLockLoss (l : Fin 32) (k : Fin 2) (bad : LostHeaders)
  /-- FRAME_RECEIVE (R274): A whole frame is checked and accepted, discarded or answered with NAK, with its ACK and credits used. -/
  | frameReceive (l : Fin 32) (ws : List Word) (hdrBad : FrameHeads) (ts : Nat)
  /-- REPLAY_TIMEOUT (R275): The oldest unacknowledged frame has waited RTMO and the transmitter replays without a NAK. -/
  | replayTimeout (l : Fin 32)
  /-- FRAME_BOUNDARY (R279): At each frame boundary the transmitter chooses a replay, Vermilion, weighted class or IDLE frame. -/
  | frameBoundary (l : Fin 32) (ts : Nat)
  /-- READ_MESSAGE (R283): A READ message is performed at the target as requester 16 and answered with RDRSP. -/
  | readMessage (l : Fin 32) (cls : Fin 4)
  /-- WRITE_MESSAGE (R283): A WRITE message is performed at the target and answered with WRDONE. -/
  | writeMessage (l : Fin 32) (cls : Fin 4)
  /-- RDRSP (R283): A RDRSP message completes a remote read at the issuing port. -/
  | rdrsp (l : Fin 32) (cls : Fin 4)
  /-- WRDONE (R283): A WRDONE message completes a remote write at the issuing port. -/
  | wrdone (l : Fin 32) (cls : Fin 4)
  /-- STREAM_MESSAGE (R284): A STREAM message delivers its tokens onto the mapped base-seam channel. -/
  | streamMessage (l : Fin 32) (cls : Fin 4)
  /-- PHASE_MESSAGE (R311): A PHASE message is stamped at arrival and gives a round-trip and a phase measurement. -/
  | phaseMessage (l : Fin 32)
  /-- MGMT_MESSAGE (R426): A MGMT message part is reassembled into an Ixzento packet. -/
  | mgmtMessage (l : Fin 32)
  /-- MGMT_REASSEMBLY_TIMEOUT (R426): A packet whose parts are not complete within 10 ms is discarded. -/
  | mgmtReassemblyTimeout (pkg : Fin 4096)
  /-- LINK_ENABLE (R287): A write of CHV_CTL.EN = 1 moves the link from DOWN to DETECT. -/
  | linkEnable (iss : Issuer) (l : Fin 32)
  /-- LINK_DISABLE (R294): Clearing CHV_CTL.EN sends the link to DOWN, keeping nothing and handing back held messages. -/
  | linkDisable (iss : Issuer) (l : Fin 32)
  /-- SIGNAL_DETECT (R287): Signal appears on a permitted lane and the link enters LOCK. -/
  | signalDetect (l : Fin 32) (lanes : BitVec 2)
  /-- LOCK_TIMEOUT (R287): Block lock is not complete after 1 ms in LOCK; the link proceeds or returns to DETECT. -/
  | lockTimeout (l : Fin 32)
  /-- ALIGN_COMPLETE (R287): Lane identity, polarity and skew are found and the link enters NEGOTIATE. -/
  | alignComplete (l : Fin 32) (pol : BitVec 2) (swap : Bool)
  /-- ALIGN_LIMIT (R287): ALIGN reaches its 100 µs limit and the link returns to DETECT. -/
  | alignLimit (l : Fin 32)
  /-- TRAIN_FRAME_RECEIVED (R289): A TRAIN frame from the peer updates negotiation and moves the link to ACTIVE when three agree. -/
  | trainFrameReceived (l : Fin 32) (ws : TrainIn)
  /-- NEGOTIATE_TIMEOUT (R287): NEGOTIATE does not complete in 100 µs and the link returns to DETECT. -/
  | negotiateTimeout (l : Fin 32)
  /-- RETRAIN (R287): A write of CHV_CTL.RETRAIN starts a retrain from ACTIVE or FAILED. -/
  | retrain (iss : Issuer) (l : Fin 32) (readmit : Bool)
  /-- LANE_TEST_COMPLETE (R288): A retrain lane test ends after 4,096 blocks, passing the lane or retiring it. -/
  | laneTestComplete (l : Fin 32) (k : Fin 2) (pass : Bool)
  /-- DOWNTMO (R287): A retrain exceeds DOWNTMO and the link enters FAILED. -/
  | downtmo (l : Fin 32)
  /-- SYSID_WRITE (R297): A write of CHV_SYSID is accepted only while every link is DOWN. -/
  | sysidWrite (iss : Issuer) (v : Word)
  /-- FORWARDING (R299): The forwarding stage looks up a message's DPKG and sends it on the selected link or delivers it locally. -/
  | forwarding (w : Forward)
  /-- REMOTE_TIMEOUT (R305): A remote request without reply within REMTMO is answered UNREACHABLE and counted. -/
  | remoteTimeout (id : Nat)
  /-- PHASE_SEND (R310): Every PPER µs a link sends PHASE messages for its lines, or an echo message. -/
  | phaseSend (l : Fin 32)
  /-- PHASE_COAST (R312): No system phase measurement for 16 × PPER sets COAST. -/
  | phaseCoast (n : Fin 8)
  /-- HOLDOVER_EXPIRY (R312): Measurements are still absent after HOLDOVER ms and the line unlocks. -/
  | holdoverExpiry (n : Fin 8)
  /-- CONFIG_CHECK_ERROR (R318): A configuration check group reports a flip and is checked again after 10 ns. -/
  | configCheckError (w : CfgPlace) (again : Bool)
  /-- COMPARE_STAGE (R321): Twin tokens meet at a compare stage and one goes on when they agree, or they are sampled again. -/
  | compareStage (r : Fin 32) (j : Fin 8) (k : Fin 41) (glitch late : Bool)
  /-- MISSING_TWIN (R322): A twin is missing after two SKEWTMO waits and the mismatch becomes lasting. -/
  | missingTwin (r : Fin 32) (j : Fin 8) (k : Fin 41)
  /-- EVIDENCE_WINDOW_EXPIRY (R323): 80 ns pass after a lasting mismatch with no cluster-fault report and the mismatch is attributed. -/
  | evidenceWindowExpiry (r : Fin 32) (j : Fin 8)
  /-- SPARE_FRAMES_WRITTEN (R327): The frame engine finishes writing a pair's frames into the spare. -/
  | spareFramesWritten (r : Fin 32)
  /-- MEMORY_COPY_COMPLETE (R327): Both block memories are copied from the trusted member to the spare. -/
  | memoryCopyComplete (r : Fin 32)
  /-- SYNCHRONISATION_HOLD (R327): The trusted member is held, its state is copied, the spare is mapped in and SPARE becomes INUSE. -/
  | synchronisationHold (r : Fin 32)
  /-- UNPAIRED_SWAP (R330): A cluster fault in an unpaired region with UNPSWAP moves the cluster onto the spare, or the region enters Ash. -/
  | unpairedSwap (r : Fin 32)
  /-- TNK_ASH (R332): A write of 1 to TNK_CTL.ASH puts the region into Ash. -/
  | tnkAsh (iss : Issuer) (r : Fin 32)
  /-- FRAME_SCRUB (R334): Every PERIOD ms the Tinker reads each frame back and checks it against its CRC. -/
  | frameScrub (r : Fin 32) (glitch : Bool)
  /-- SLICE_REQUEST (R336): A write of ASY_REQ.GO starts a slice of the named kind, or counts an ineligible element. -/
  | sliceRequest (iss : Issuer) (kind : Fin 8) (index : Fin 1024)
  /-- SLICE_COMPLETE (R338): A slice finishes and its signature passes, or fails and is run again or marked FAILED. -/
  | sliceComplete (kind : Fin 8) (index : Fin 1024) (sig : Word)
  /-- SLICE_BUDGET_EXCEEDED (R337): A slice that exceeds its budget fails. -/
  | sliceBudgetExceeded (kind : Fin 8) (index : Fin 1024) (sig : Word)
  /-- SLICE_ABANDON (R339): A background slice on a needed spare is abandoned within 1 µs. -/
  | sliceAbandon (g : Fin 544)
  /-- BACKGROUND_SLICE (R340): Every GAP ms the background sweep starts a slice on the next eligible element. -/
  | backgroundSlice
  /-- FULL_LOAD (R365): A full load closes every gate, checks and stages the image, and maps clusters. -/
  | fullLoad (src : Source)
  /-- PARTIAL_LOAD (R372): A partial load quarantines one region and checks the image against its window. -/
  | partialLoad (r : Fin 32) (src : Source)
  /-- STAGING_COMPLETE (R360): Staging, length, signature and key checks complete and frame writing begins, or the load is rejected. -/
  | stagingComplete
  /-- FRAME_WRITE (R362): The engine checks, writes and verifies one frame, mapping to the spare or ending on a lasting failure. -/
  | frameWrite (v : Verify)
  /-- MEMORY_INIT_COMPLETE (R365): Every memory shows INITDONE and channel records are matched. -/
  | memoryInitComplete
  /-- START_UP_SEQUENCE (R368): The image's start-up steps run in order in every loaded region and gates open. -/
  | startUpSequence
  /-- STARTUP_WAIT_LOCK (R368): The WAIT step completes when every named line shows LOCK. -/
  | startupWaitLock
  /-- STARTUP_TIMEOUT (R369): The lock wait limit passes and the load ends with STARTUP_TIMEOUT. -/
  | startupTimeout
  /-- CMP_ABORT (R361): A write of CMP_CTL.ABORT ends the running load with ABORTED after the frame in progress. -/
  | cmpAbort (iss : Issuer)
  /-- KCMD_WRITE (R377): LSM_KCMD WRITE stores the key from LSM_KLOAD in a slot and clears LSM_KLOAD. -/
  | kcmdWrite (iss : Issuer) (slot : Fin 8)
  /-- KCMD_ERASE (R377): LSM_KCMD ERASE empties a battery-backed slot. -/
  | kcmdErase (iss : Issuer) (slot : Fin 8)
  /-- KCMD_REVOKE (R377): LSM_KCMD REVOKE revokes a filled or BAD eFuse slot. -/
  | kcmdRevoke (iss : Issuer) (slot : Fin 8)
  /-- KCMD_OWNER (R377): LSM_KCMD OWNER programs an owner digest into an owner slot. -/
  | kcmdOwner (iss : Issuer) (slot : Fin 8)
  /-- KCMD_REVOKE_OWNER (R377): LSM_KCMD 0x5 revokes a programmed owner slot. -/
  | kcmdRevokeOwner (iss : Issuer) (slot : Fin 8)
  /-- KCMD_RESERVED (R377): A key command with a reserved CMD is ignored and counted in LSM_VIOL. -/
  | kcmdReserved (iss : Issuer) (k : Fin 11) (slot : Fin 8)
  /-- EFUSE_PROGRAM_COMPLETE (R377): Programming of an eFuse slot completes and BUSY clears. -/
  | efuseProgramComplete
  /-- TAMPER (R380): TAMPER_N stays high for 1 µs; slots 4..7 are erased and TAMPER is set. -/
  | tamper
  /-- NOTARY_SIGN_COMPLETE (R387): The Notary finishes signing an attestation report and returns it. -/
  | notarySignComplete
  /-- MSIP_WRITE (R395): A write of MGT_MSIPc raises a software interrupt and releases a waiting core. -/
  | msipWrite (iss : Issuer) (c : Fin 4) (v : Word)
  /-- GPIO_SET (R399): A write to GPI_PxSET sets the written OUT bits. -/
  | gpioSet (iss : Issuer) (x : Fin 4) (v : Word)
  /-- GPIO_CLR (R399): A write to GPI_PxCLR clears the written OUT bits. -/
  | gpioClr (iss : Issuer) (x : Fin 4) (v : Word)
  /-- PRIVSET (R400): A private-port store sets OUT of owned pins within one core cycle. -/
  | privset (c : Fin 4) (v : BitVec 64)
  /-- PRIVCLR (R400): A private-port store clears OUT of owned pins. -/
  | privclr (c : Fin 4) (v : BitVec 64)
  /-- PRIVOUT (R400): A private-port write sets OUT of owned pins. -/
  | privout (c : Fin 4) (v : BitVec 64)
  /-- GPIO_FUNC_CHANGE (R403): A change of GPI_PxFUNC moves a pin to a new function, break-before-make. -/
  | gpioFuncChange (iss : Issuer) (x : Fin 4) (v : Word)
  /-- GPIO_LEVEL_CHANGE (R398): A change of GPI_CFG LEVEL holds the port's drivers off for 50 µs while the rail moves. -/
  | gpioLevelChange (iss : Issuer) (v : Word)
  /-- PIN_INTERRUPT_EDGE (R404): A filtered edge on a watched GPIO pin sets pending bit n and records its time. -/
  | pinInterruptEdge (n : Fin 16) (level : Bool) (ago : Fin 64)
  /-- MACHINE_TIMER (R406): MGT_MTIME reaches MGT_MTIMECMPc and core c receives a timer interrupt. -/
  | machineTimer (c : Fin 4)
  /-- WATCHDOG_ENABLE (R408): A write of EN = 1 starts a watchdog counting down from LOAD. -/
  | watchdogEnable (iss : Issuer) (i : Fin 5) (v : Word)
  /-- WATCHDOG_KICK (R408): 0x5A then 0xA5 written to KICK reloads CNT; other sequences are counted. -/
  | watchdogKick (iss : Issuer) (i : Fin 5) (key : BitVec 8)
  /-- WATCHDOG_WARN (R408): CNT reaches WARN, the warning bit is set and source 30 is raised. -/
  | watchdogWarn (i : Fin 5)
  /-- WATCHDOG_EXPIRY (R409): A watchdog reaches zero and resets its core, the management complex or the package. -/
  | watchdogExpiry (i : Fin 5)
  /-- PTP_STEP (R413): STEPGO adds the signed PTPSTEP to the 1588 clock at the next tick and marks the step to the Tally. -/
  | ptpStep (iss : Issuer)
  /-- PPS_OUTPUT (R415): At each whole second of the 1588 clock PB0 rises for 100 ms. -/
  | ppsOutput
  /-- PPS_INPUT_CAPTURE (R415): A rising edge on PB1 records the 1588 clock and raises source 24. -/
  | ppsInputCapture (err : Fin 11)
  /-- PTP_EVENT_TIMESTAMP (R414): The MAC timestamps an IEEE 1588 event message it sends or receives. -/
  | ptpEventTimestamp (err : Fin 33)
  /-- DOWNSHIFT (R412): Three failed 1000BASE-T attempts downshift the PHY to 100BASE-TX. -/
  | downshift
  /-- PHY_RESTART (R412): A write of PHYCTL.RESTART restarts auto-negotiation. -/
  | phyRestart (iss : Issuer)
  /-- HELLO (R435): Ixzento returns versions, family, stepping, package and DEVID. -/
  | ixHello (a : Arrival)
  /-- OPEN (R428): Ixzento opens a session, agrees a version and grants or challenges a mode. -/
  | ixOpen (a : Arrival)
  /-- PROVE (R430): A signature over the challenge grants CONTROL, or the session closes. -/
  | ixProve (a : Arrival)
  /-- CLOSE (R428): The session is closed. -/
  | ixClose (a : Arrival)
  /-- KEEPALIVE (R428): The session's idle timer is renewed. -/
  | ixKeepalive (a : Arrival)
  /-- RELAY (R436): An inner packet is sent to another package and its reply returned. -/
  | ixRelay (a : Arrival)
  /-- RELAY_TIMEOUT (R434): A RELAY receives no reply within 1 s and answers UNREACHED. -/
  | relayTimeout (sid : BitVec 16)
  /-- IDENTITY (R435): Ixzento returns identity, firmware and version information. -/
  | ixIdentity (a : Arrival)
  /-- HEALTH (R435): Ixzento returns region summaries and status registers. -/
  | ixHealth (a : Arrival)
  /-- VIOL_READ (R435): Ixzento lists nonzero violation counters from index FIRST. -/
  | ixViolRead (a : Arrival)
  /-- VIOL_CLEAR (R435): Ixzento clears every violation counter. -/
  | ixViolClear (a : Arrival)
  /-- LOAD (R436): Ixzento runs a full, partial or check-only load and reports the Compositor status. -/
  | ixLoad (a : Arrival)
  /-- PUSH_BEGIN (R436): Ixzento opens a push of an image or firmware toward a destination. -/
  | ixPushBegin (a : Arrival)
  /-- PUSH_DATA (R436): Ixzento stores pushed bytes at an offset. -/
  | ixPushData (a : Arrival)
  /-- PUSH_END (R436): Ixzento checks the digest and image, then programs flash or leaves the image staged. -/
  | ixPushEnd (a : Arrival)
  /-- ABORT (R435): Ixzento aborts the running load. -/
  | ixAbort (a : Arrival)
  /-- RECORD_WRITE (R437): Ixzento fills a record buffer at an offset. -/
  | ixRecordWrite (a : Arrival)
  /-- RECORD_COMMIT (R437): Ixzento appends the CRC and programs the record into flash. -/
  | ixRecordCommit (a : Arrival)
  /-- RECORD_READ (R437): Ixzento returns bytes of a record. -/
  | ixRecordRead (a : Arrival)
  /-- POWER_SET (R443): Ixzento requests a state for a power domain. -/
  | ixPowerSet (a : Arrival)
  /-- POWER_GET (R435): Ixzento returns the states of a range of domains. -/
  | ixPowerGet (a : Arrival)
  /-- RAIL_SET (R448): Ixzento sets a die's fabric rail. -/
  | ixRailSet (a : Arrival)
  /-- PORT_SET (R436): Ixzento clears EN, writes every port field and then writes CFG. -/
  | ixPortSet (a : Arrival)
  /-- LINE_SET (R436): Ixzento writes line fields, commits them and then sets EN. -/
  | ixLineSet (a : Arrival)
  /-- LINE_GET (R436): Ixzento reads a line under HOLD and returns its port counts from a saturating copy. -/
  | ixLineGet (a : Arrival)
  /-- WAIT_LOCK (R436): Ixzento waits until the named lines lock or LIMIT passes. -/
  | ixWaitLock (a : Arrival)
  /-- WAIT_LOCK_DONE (R436): Every named line shows LOCK and WAIT_LOCK replies OK. -/
  | waitLockDone (sid : BitVec 16)
  /-- WAIT_LOCK_LIMIT (R436): The WAIT_LOCK limit passes and Ixzento replies TIMEOUT. -/
  | waitLockLimit (sid : BitVec 16)
  /-- FAULT_READ (R435): Ixzento returns the Assayer fault maps. -/
  | ixFaultRead (a : Arrival)
  /-- FAULT_CLEAR (R338): Ixzento clears an element's FAILED mark and edits the fault record. -/
  | ixFaultClear (a : Arrival)
  /-- SLICE_RUN (R435): Ixzento runs a slice and returns its result and signature. -/
  | ixSliceRun (a : Arrival)
  /-- ASH (R435): Ixzento puts a region into Ash. -/
  | ixAsh (a : Arrival)
  /-- RESET (R436): Ixzento replies and schedules a reset of the management complex or package. -/
  | ixReset (a : Arrival)
  /-- RESET_DELAY_EXPIRY (R436): 10 ms after a RESET reply the requested reset acts. -/
  | resetDelayExpiry
  /-- LINK_CTL (R435): Ixzento enables, disables or retrains a link. -/
  | ixLinkCtl (a : Arrival)
  /-- READ (R435): Ixzento reads registers or fabric words and returns data with P bits. -/
  | ixRead (a : Arrival)
  /-- WRITE (R435): Ixzento writes registers or fabric words after range checks. -/
  | ixWrite (a : Arrival)
  /-- HOP_POP (R436): Ixzento pops up to OCC − CUR words from a hopper. -/
  | ixHopPop (a : Arrival)
  /-- HOP_PUSH (R436): Ixzento pushes up to 64 − OCC words into a hopper. -/
  | ixHopPush (a : Arrival)
  /-- HOP_CMD (R435): Ixzento writes a hopper command word. -/
  | ixHopCmd (a : Arrival)
  /-- ATTEST (R387): Ixzento has the Notary assemble and sign a report over a nonce. -/
  | ixAttest (a : Arrival)
  /-- CERT (R435): Ixzento returns bytes of the device certificate chain. -/
  | ixCert (a : Arrival)
  /-- KEY_STATUS (R435): Ixzento returns Locksmith status, fuses and slot states. -/
  | ixKeyStatus (a : Arrival)
  /-- KEY_WRITE (R435): Ixzento writes a key to a slot over the mailbox only. -/
  | ixKeyWrite (a : Arrival)
  /-- KEY_CMD (R435): Ixzento issues an erase, revoke or owner key command. -/
  | ixKeyCmd (a : Arrival)
  /-- SVN_RAISE (R435): Ixzento blows FWSVN bits up to TARGET within the allowed range. -/
  | ixSvnRaise (a : Arrival)
  /-- SESSION_IDLE_TIMEOUT (R428): A session without a valid packet for 30 s closes. -/
  | sessionIdleTimeout (sid : BitVec 16)
  /-- SEQUENCE_GAP_TIMEOUT (R433): Held requests are discarded when a SEQ gap stays open for 1 s. -/
  | sequenceGapTimeout (sid : BitVec 16)
  /-- DOMAIN_REQUEST (R442): A write of LMP_DOMn.REQ, or an internal request, starts a power-state change of a domain. -/
  | domainRequest (iss : Issuer) (n : Fin 748) (v : Word)
  /-- DOMAIN_CHANGE_COMPLETE (R442): A domain reaches its new state and BUSY clears, applying any waiting request. -/
  | domainChangeComplete (n : Fin 748)
  /-- LMP_RREQ (R446): A region writes LMP_RREQ to light or bank logical clusters. -/
  | lmpRreq (iss : Issuer) (r : Fin 32) (v : Word)
  /-- RAIL_WRITE (R448): A write of LMP_RAILd.SET moves a die rail at 10 mV/µs toward the rounded target. -/
  | railWrite (iss : Issuer) (d : Fin 4) (v : Word)
  /-- RAIL_SETTLED (R448): A moving rail reaches its target and MOVING clears. -/
  | railSettled (d : Fin 4) (mv : BitVec 10)
  /-- POWER_MEASURE (R451): Every 100 µs the input power is measured and PLIMHIT set above PLIM. -/
  | powerMeasure (p : BitVec 16)
  /-- TEMPERATURE_MEASURE (R451): Every 1 ms each die's temperature is read and HOT set at 115 °C. -/
  | temperatureMeasure (d : Fin 4) (t : BitVec 9)
  /-- UP_FERRY_TOKEN (R460): A token arrives at an up-ferry and crosses to its clocked receiver as a word or stream entry. -/
  | upFerryToken (n : Coded (Fin 128))
  /-- FERRY_TRANSFER_COMPLETE (R463): A ferry transfer completes its round trip and the next value may be acknowledged. -/
  | ferryTransferComplete (w : FerryRef)
  /-- UNSETTLED (R459): Eight consecutive disagreeing sample pairs keep the last value and set UNSETTLED. -/
  | unsettled (w : FerryRef)
  /-- PULSE_TOKEN (R462): A token at a pulse up-ferry starts a transfer or adds to CNT, setting OVERRUN at 15. -/
  | pulseToken (n : Coded (Fin 128))
  /-- PULSE_WRITE (R462): A write of 1 to FRY_DNn_PULSE sends one pulse toward the fabric. -/
  | pulseWrite (iss : Issuer) (n : Fin 128) (v : Word)
  /-- RX_READ (R464): A read of FRY_UPn_RX returns the word and pops it except in latest-value mode. -/
  | rxRead (iss : Issuer) (n : Fin 128)
  /-- TX_WRITE (R464): A write of FRY_DNn_TX queues a token, overwrites it, or sets TXFULL. -/
  | txWrite (iss : Issuer) (n : Fin 128) (v : BitVec 64)
  /-- FERRY_CFG_WRITE (R458): A write to a ferry CFG is applied only under the DEST, EN and port rules, otherwise counted. -/
  | ferryCfgWrite (iss : Issuer) (w : FerryRef) (v : Word)
  /-- TAP_INSTRUCTION (R468): The TAP loads an instruction, selecting a data register and boundary-scan control of pads. -/
  | tapInstruction (ir : BitVec 8)
  /-- TRST_N (R478): TRST_N low resets the TAP and clears ATTACHED. -/
  | trstN
  /-- DBGACC_READ (R470): A DBGACC quiet read of the core view starts at Update-DR. -/
  | dbgaccRead (addr : BitVec 64) (w64 : Bool)
  /-- DBGACC_WRITE (R470): A DBGACC write to the core view starts at Update-DR. -/
  | dbgaccWrite (addr : BitVec 64) (w64 : Bool) (v : BitVec 64)
  /-- DBGACC_CONSUMING_READ (R471): A DBGACC consuming read acts as a core read would, without waiting. -/
  | dbgaccConsumingRead (addr : BitVec 64) (w64 : Bool)
  /-- DBGACC_TIMEOUT (R470): A debug access not complete within ATMO µs ends with TIMEOUT. -/
  | dbgaccTimeout
  /-- HALT (R472): A halt request or trigger stops a core at the next instruction boundary. -/
  | halt (c : Fin 4) (cause : Fin 8)
  /-- RESUME (R472): RESUME leaves Debug Mode at dpc, or executes one instruction with STEP. -/
  | resume (iss : Issuer) (c : Fin 4)
  /-- FEED (R473): A FEED write executes one instruction on a halted core. -/
  | feed (iss : Issuer) (c : Fin 4) (insn : Word) (eff : FedEffect)
  /-- BREAK_LOCK (R474): DBG_BRKLOCK GO breaks the lock on a scratch bank or sets NOLOCK. -/
  | breakLock (iss : Issuer) (r : Fin 32) (b : Fin 4)
  /-- FREEZE (R475): A write of DBG_FREEZE freezes or resumes regions. -/
  | freeze (iss : Issuer) (v : Word)
  /-- FREEZE_COMPLETE (R475): Every cell of a frozen region is held and its DBG_FRZSTAT bit rises. -/
  | freezeComplete (r : Fin 32)
  /-- DETACH (R478): DETACH releases freezes and halts, disables taps and probes and makes emulated states real. -/
  | detach (iss : Issuer)
  /-- REGISTER_READ (R10): A non-debug read of a register that has no row of its own returns its fields and clears every RC field it reaches, including the reads that clear interrupt sources 18 and 19. -/
  | registerRead (w : RegAccess)
  /-- VBAT_LOSS (R379): VBAT fails while the 12 V input is absent, so the battery-backed key slots lose their contents and the tamper input stops being monitored. -/
  | vbatLoss
  /-- FLASH_PROGRAM_COMPLETE (R436): Flash programming of a pushed image or firmware, or of a committed record, ends, succeeding or failing with FLASH_FAIL, and Ixzento sends its reply. -/
  | flashProgramComplete (good : Bool)
  /-- MANAGEMENT_PORT_LINK (R412): The management port's link comes up after auto-negotiation, or drops, updating LINK, SPEED and MDIX. -/
  | managementPortLink (up gig mdix : Bool)
  /-- GPIO_LEVEL_HOLD_END (R398): 50 µs after a change of a GPIO port's LEVEL, the rail has moved and the port's drivers are enabled again. -/
  | gpioLevelHoldEnd (x : Fin 4)
  /-- DROPPED (R423): An arriving Ixzento packet that is too short, has a bad MAGIC or HCRC, or carries REPLY = 1 is discarded without a reply and counted in DROPPED. -/
  | ixDropped (a : Arrival)
  /-- BAD_OPCODE (R435): An Ixzento packet whose opcode is unlisted, or is not in the agreed version, receives a BAD_OPCODE reply. -/
  | ixBadOpcode (a : Arrival)
  /-- BOUNDARY_REGISTER_UPDATE (R469): Under EXTEST, an Update-DR of the boundary register drives the pads with the newly shifted values; under SAMPLE/PRELOAD it captures them. -/
  | boundaryRegisterUpdate (v : BitVec 2592)
  deriving DecidableEq, Repr

end Sys2Proof
end

