-- ==== Sys2Proof/Decode.lean ====
section
/-! DEFINITION. The commands a word of the opcode table spells. The table gives no row any bits, so no word spells a command. -/

namespace Sys2Proof

/-- The command a word spells by the bits of spec/opcode_table.json. No row of the table has bits: none. -/
def decodeTableWord (_nbits _w : Nat) : Option Instr := none

end Sys2Proof
end

