-- ==== Sys2Proof/Config.lean ====
section
/-! DEFINITION. What the manual leaves open: free values, each an opaque constant with no body, so that nothing can be proved of it (log entries 2 and 3). -/

namespace Sys2Proof.Config

/-- R407: what an access to the kernel's registers asks of the serial peripherals: the settings of one (a UART's rate, data bits, parity,
stop bits and use of RTS and CTS; SPI0's clock mode, rate and word length; an I2C unit's role, rate, address length and address), a character,
word or byte to send, or the oldest received. -/
inductive SerialOp where
  | uartSet (n : Fin 2) (baud bits : Nat) (parity : Option Bool) (stops : Nat) (flow : Bool)
  | uartPut (n : Fin 2) (c : Byte)
  | uartGet (n : Fin 2)
  | spiSet (mode : Fin 4) (hz bits : Nat)
  | spiPut (cs : Fin 3) (w : Word)
  | spiGet
  | i2cSet (n : Fin 2) (target : Bool) (hz : Nat) (ten : Bool) (addr : BitVec 10)
  | i2cPut (n : Fin 2) (b : Byte)
  | i2cGet (n : Fin 2)
  | nothing
  deriving DecidableEq, Repr, Inhabited

/-- R393, R396: the kernel's register map of the serial peripherals, which the manual does not give: what a read, or a write of a value, at an
offset asks. -/
opaque serialRead : Nat → SerialOp
opaque serialWrite : Nat → BitVec 64 → SerialOp

/-- R407: what the outside and the passing of time have done on a serial peripheral's lines between two accesses; by the counter `free` and an
index. -/
opaque serialLine : Nat → Nat → Nat

/-- R407: whether a level at CTS lets UART0 send. -/
opaque ctsSends : Bool → Bool

/-- R401: the level a peripheral gives its output pin of PA or PB, by pin (16 for PB0) and the counter `free`. -/
opaque altLevel : Nat → Nat → Bool

/-- R405: whether the kernel's own interrupt source (22, 23, 25 to 29) is pending, by source and the counter `free`. -/
opaque kernelSource : Nat → Nat → Bool

/-- A value the manual leaves open, numbered by the counter `free` of State; every use takes the next number. -/
opaque freeVal : Nat → BitVec 64

/-- The content of an addressed memory that nothing has written, by memory kind, power-up number and address. -/
opaque freeCell : Nat → Nat → Nat → BitVec 64

/-- Which of its two neighbours an inexact quotient is stored as, where the manual names no rounding; by numerator and denominator. -/
opaque roundsUp : Int → Nat → Bool

/-- A quotient whose divisor is zero or negative, where the manual states no result. -/
opaque openQuot : Int → Int → Int

/-- What the scratch code makes of an error of three or more stored bits (R179): 0 clean, 1..39 a single bit, else uncorrectable. -/
opaque wideError : BitVec 39 → Nat

/-- R386: DEVID, a number unique to each part. -/
opaque devid : BitVec 64

/-- R421: MACADDR, of the part's factory record. -/
opaque macAddr : BitVec 48

/-- R386, R387: the identity key's signature of a digest; the private key has no read path. -/
opaque identitySig : List Byte → BitVec 3072

/-- R386: the DER chain kept in flash: its length and bytes. -/
opaque certLen : Nat
opaque certByte : Nat → Byte

/-- R337: the reference signature of a slice kind, stored in flash for this stepping. -/
opaque sliceRef : Nat → Word

/-- R179: SCR_INFO.REPAIRED, fixed per part. -/
opaque repaired : Nat → Fin 33

/-- R384: what the boot ROM finds in a firmware image under Trelvel key A, or B: if its signature verifies, its SVN, its version, and the
SHA-256 of it and of the system it starts. The manual gives no format of firmware. -/
opaque firmware : Bool → List Byte → Option (Fin 64 × Word × BitVec 256 × BitVec 256)

/-- R337: the references of slices are found in flash. -/
opaque sliceRefs : Bool

/-- What pushed bytes and record bytes that were never written hold. -/
opaque blank : Nat → Nat → Byte

end Sys2Proof.Config
end

