-- ==== Sys2Proof/Machine/Bits.lean ====
section
/-! DEFINITION. Bit fields (R4), half-range phase order (R8), saturating counts, byte order (R5) and the two CRCs the manual names (R271, R348, R422). -/

namespace Sys2Proof.Machine

/-- Field NAME[lo+len-1:lo] of a value, as a number (R4). -/
def fld {n : Nat} (v : BitVec n) (lo len : Nat) : Nat := (v.toNat >>> lo) % 2 ^ len

/-- The single bit NAME[i] (R4). -/
def bit {n : Nat} (v : BitVec n) (i : Nat) : Bool := v.getLsbD i

/-- The mask with ones in bits [lo+len-1:lo]. -/
def maskOf (n lo len : Nat) : BitVec n := BitVec.ofNat n ((2 ^ len - 1) <<< lo)

/-- The value with field [lo+len-1:lo] replaced by `x` modulo the field's size. -/
def setFld {n : Nat} (v : BitVec n) (lo len x : Nat) : BitVec n :=
  (v &&& ~~~(maskOf n lo len)) ||| BitVec.ofNat n ((x % 2 ^ len) <<< lo)

/-- The value with bit i set to `b`. -/
def setBit {n : Nat} (v : BitVec n) (i : Nat) (b : Bool) : BitVec n := setFld v i 1 (if b then 1 else 0)

/-- A one-bit field as a number. -/
def b2n (b : Bool) : Nat := if b then 1 else 0

/-- A field value put at its place, for building a register image. -/
def put (lo x : Nat) : RegVal := BitVec.ofNat 64 (x <<< lo)

/-- One bit put at its place. -/
def putB (i : Nat) (b : Bool) : RegVal := put i (b2n b)

/-- Counting that saturates at `top`. -/
def satAdd (top a b : Nat) : Nat := if a + b ≤ top then a + b else top

/-- A signed number limited to the signed 32-bit range and written in two's complement (R3, R67). -/
def satS32 (x : Int) : Word :=
  if x < -2147483648 then 0x80000000#32 else if x > 2147483647 then 0x7FFFFFFF#32 else BitVec.ofInt 32 x

/-- "a 0 acts as 1" of many fields. -/
def atLeast1 (n : Nat) : Nat := if n = 0 then 1 else n

/-- R8: d = (a - b) mod 2^32. -/
def phaseDiff (a b : Word) : Word := a - b

/-- R8: a is later than b when d lies in 1..0x7FFF_FFFF. -/
def phaseLater (a b : Word) : Bool := decide ((phaseDiff a b).toNat ≠ 0) && decide ((phaseDiff a b).toNat < 0x80000000)

/-- R8: a is earlier than b when it neither equals b nor is later, the half range 0x8000_0000 included. -/
def phaseEarlier (a b : Word) : Bool := decide (0x80000000 ≤ (phaseDiff a b).toNat)

/-- R8 on a ring of 2^bits units: the signed difference in -2^(bits-1)..2^(bits-1)-1. -/
def halfRange (bits : Nat) (d : Int) : Int :=
  let m := d % (2 ^ bits : Int)
  if m < 2 ^ (bits - 1) then m else m - 2 ^ bits

/-- Division of an integer rounded to the nearest, a value exactly halfway toward plus infinity (R59). -/
def roundDiv (x : Int) (d : Nat) : Int := (2 * x + d) / (2 * (d : Int))

/-- R5: bytes of a little-endian number, least significant first. -/
def leBytes : Nat → Nat → List Byte
  | 0, _ => []
  | k + 1, x => BitVec.ofNat 8 x :: leBytes k (x / 256)

/-- R5: the number little-endian bytes hold. -/
def ofLE : List Byte → Nat
  | [] => 0
  | b :: t => b.toNat + 256 * ofLE t

/-- R5: bytes of a big-endian number, most significant first. -/
def beBytes (k x : Nat) : List Byte := (leBytes k x).reverse

/-- R5: the number big-endian bytes hold. -/
def ofBE (l : List Byte) : Nat := ofLE l.reverse

/-- `len` bytes from offset `off`, as many as there are. -/
def slice (l : List Byte) (off len : Nat) : List Byte := (l.drop off).take len

/-- A little-endian field of a byte string. -/
def leAt (l : List Byte) (off len : Nat) : Nat := ofLE (slice l off len)

/-- A big-endian field of a byte string. -/
def beAt (l : List Byte) (off len : Nat) : Nat := ofBE (slice l off len)

/-- The list filled with zero bytes (or cut) to the given length. -/
def padTo (n : Nat) (l : List Byte) : List Byte := (l ++ List.replicate (n - l.length) 0#8).take n

/-- One bit step of the reflected CRC-32. -/
def crc32Bit (c : Word) : Word := if c.getLsbD 0 then (c >>> 1) ^^^ 0xEDB88320#32 else c >>> 1

/-- The step function applied k times. -/
def iter {α : Type} (f : α → α) : Nat → α → α
  | 0, x => x
  | k + 1, x => iter f k (f x)

/-- CRC-32 of IEEE 802.3 (R271): polynomial 0x04C1_1DB7, initial value all ones, result complemented; its
reflected form, as the standard sends each byte least significant bit first. PRESUMED: the reflection is the standard's. -/
def crc32 (l : List Byte) : Word :=
  ~~~(l.foldl (fun c b => iter crc32Bit 8 (c ^^^ b.setWidth 32)) 0xFFFFFFFF#32)

/-- One bit step of the CRC-16 of R422, not reflected. -/
def crc16Bit (c : BitVec 16) : BitVec 16 := if c.getLsbD 15 then (c <<< 1) ^^^ 0x1021#16 else c <<< 1

/-- CRC-16 of R422: polynomial 0x1021, initial value 0xFFFF, no reflection, no final XOR. -/
def crc16 (l : List Byte) : BitVec 16 :=
  l.foldl (fun c b => iter crc16Bit 8 (c ^^^ BitVec.shiftLeft (b.setWidth 16) 8)) 0xFFFF#16

/-- Number of ones. -/
def popCount {n : Nat} (v : BitVec n) : Nat := ((List.range n).filter (fun i => v.getLsbD i)).length

/-- The entry at an index of a list, or the default. -/
def nth {α : Type} (d : α) (l : List α) (i : Nat) : α := (l[i]?).getD d

/-- The list with entry `i` replaced, and unchanged where it has none. -/
def setNth {α : Type} (l : List α) (i : Nat) (x : α) : List α := l.set i x

/-- The list with entry `i` taken out. -/
def dropNth {α : Type} (l : List α) (i : Nat) : List α := l.eraseIdx i

end Sys2Proof.Machine
end

