-- ==== Sys2Proof/Machine/Store.lean ====
section
/-! DEFINITION. Sparse data by key, in one canonical form: keys strictly rising, and no entry equal to what an unlisted key reads as. Equal contents are then equal data. -/

namespace Sys2Proof.Machine

/-- Entries by key, rising. A byte memory is a `Store Byte`, which is a list of `Host.Cell`. -/
abbrev Store (α : Type) := List (Nat × α)

/-- What a key reads as; an unlisted key reads as the default `d`. -/
def Store.get {α : Type} (d : α) : Store α → Nat → α
  | [], _ => d
  | (k, v) :: t, i => if i = k then v else Store.get d t i

/-- The entries with key `i` taken out. -/
def Store.erase {α : Type} : Store α → Nat → Store α
  | [], _ => []
  | (k, v) :: t, i => if i = k then Store.erase t i else (k, v) :: Store.erase t i

/-- An entry with key `i` added before the first greater key. -/
def Store.insert {α : Type} : Store α → Nat → α → Store α
  | [], i, x => [(i, x)]
  | (k, v) :: t, i, x => if i < k then (i, x) :: (k, v) :: t else (k, v) :: Store.insert t i x

/-- A write, keeping the canonical form: the key's entry goes, and one with the new value comes unless that is the default. -/
def Store.put {α : Type} [DecidableEq α] (d : α) (m : Store α) (i : Nat) (x : α) : Store α :=
  if x = d then Store.erase m i else Store.insert (Store.erase m i) i x

/-- The keys rise strictly from above `lo`. -/
def Store.rising {α : Type} : Option Nat → Store α → Bool
  | _, [] => true
  | none, (k, _) :: t => Store.rising (some k) t
  | some p, (k, _) :: t => decide (p < k) && Store.rising (some k) t

/-- The canonical form: rising keys and no entry equal to the default. -/
def Store.wf {α : Type} [DecidableEq α] (d : α) (m : Store α) : Bool :=
  Store.rising none m && m.all (fun e => decide (e.2 ≠ d))

/-- Bytes at `i`, `i+1`, ...: the written list, one byte after another. -/
def Store.putBytes : Store Byte → Nat → List Byte → Store Byte
  | m, _, [] => m
  | m, i, b :: t => Store.putBytes (Store.put 0#8 m i b) (i + 1) t

/-- `n` bytes from `i`. -/
def Store.getBytes (m : Store Byte) (i : Nat) : Nat → List Byte
  | 0 => []
  | n + 1 => Store.get 0#8 m i :: Store.getBytes m (i + 1) n

/-- The entries whose key the test keeps. -/
def Store.keep {α : Type} (p : Nat → Bool) (m : Store α) : Store α := m.filter (fun e => p e.1)

/-- Every listed entry changed by `f`, the canonical form kept. -/
def Store.mapVals {α : Type} [DecidableEq α] (d : α) (f : Nat → α → α) (m : Store α) : Store α :=
  (m.map (fun e => (e.1, f e.1 e.2))).filter (fun e => decide (e.2 ≠ d))

/-- The keys listed. -/
def Store.keys {α : Type} (m : Store α) : List Nat := m.map (fun e => e.1)

end Sys2Proof.Machine
end

