-- ==== Sys2Proof/Machine/Regs.lean ====
section
/-! DEFINITION. The register maps of the manual: every block with its base address (R19, R67, R96, R150, R175, R200, R203, R220, R248, R266, R296, R342 to R344, R375, R391, R393, R417 to R421, R454, R455, R467, R480, R493), and for every register its width, its fields by access code (R10) and its reset value. A register the maps do not list is reserved (R12). -/

namespace Sys2Proof.Machine

/-- The register blocks. An index names the instance: region r = DIE * 8 + REGION, scratch bank r * 4 + b, hopper r * 8 + h,
package pin number, cell (r * 17 + c) * 64 + n, cluster port (r * 17 + c) * 4 + p, block memory (r * 17 + c) * 2 + m. -/
inductive Blk where
  | gpio | lmp | tly | tlyPi | tlyPl | cmp | lsm | nty | tnkBase | asy | chv | chvL | mac
  | fry | fryUp | fryDn | pinBank | dbg | dbgCore | dbgTap | dbgProbe | wdg | irq
  | tnk | sbank | hop | rreq | mesh | pin | cell | port | bm
  deriving DecidableEq, Repr

/-- A register: its block, the instance, and its offset in the block. -/
structure Reg where
  blk : Blk
  idx : Nat := 0
  off : Nat
  deriving DecidableEq, Repr

/-- A register's fields by access code (R10): masks of its RW, W1C, RC, WO and RO fields, and its reset value. Where the
Reset column shows a dash or a value fixed per part, `rst` is zero there and the log says so. -/
structure RegInfo where
  w64 : Bool := false
  rw  : RegVal := 0
  w1c : RegVal := 0
  rc  : RegVal := 0
  wo  : RegVal := 0
  ro  : RegVal := 0
  rst : RegVal := 0
  deriving DecidableEq, Repr

/-- R11: the width of an access that a register accepts. -/
def RegInfo.width (i : RegInfo) : Width := if i.w64 then .b64 else .b32

/-- Bytes of an access. -/
def widthBytes : Width → Nat
  | .b8 => 1
  | .b16 => 2
  | .b32 => 4
  | .b64 => 8

/-- The width of an access of 64 bits or 32. -/
def width64 (w64 : Bool) : Width := if w64 then .b64 else .b32

/-- Base of region r's window in the core view (R19). -/
def winBase (r : Nat) : Nat := 0x100000000 + 0x10000000 * (r / 8) + 0x1000000 * (r % 8)

/-- Address of the instance `i` of a block in the core view. -/
def Blk.base (b : Blk) (i : Nat) : Nat :=
  match b with
  | .gpio => 0x20000000 | .lmp => 0x20010000 | .tly => 0x20020000
  | .tlyPi => 0x20020100 + 0x40 * i | .tlyPl => 0x20020800 + 0x40 * i
  | .cmp => 0x20030000 | .lsm => 0x20040000 | .nty => 0x20048000
  | .tnkBase => 0x20050000 | .asy => 0x20060000
  | .chv => 0x20070000 | .chvL => 0x20070100 + 0x40 * i
  | .mac => 0x20080000 | .fry => 0x20090000
  | .fryUp => 0x20091000 + 0x20 * i | .fryDn => 0x20092000 + 0x20 * i
  | .pinBank => 0x20098000 + 0x40 * i
  | .dbg => 0x200A0000 | .dbgCore => 0x200A0040 + 0x20 * i | .dbgTap => 0x200A0100 + 0x10 * i
  | .dbgProbe => 0x200A0200 + 8 * i | .wdg => 0x200C0000 | .irq => 0x200D0000
  | .tnk => 0x800000 + winBase i
  | .sbank => 0x801000 + winBase (i / 4) + 0x100 * (i % 4)
  | .hop => 0x802000 + winBase (i / 8) + 0x40 * (i % 8)
  | .rreq => 0x803000 + winBase i
  | .mesh => 0x804000 + winBase i
  | .pin => 0x806000 + winBase (i / 24) + 0x40 * (i % 24)
  | .cell => 0xA00000 + winBase (i / 1088) + 0x2000 * (i % 1088 / 64) + 0x80 * (i % 64)
  | .port => 0xA40000 + winBase (i / 68) + 0x100 * (i % 68 / 4) + 0x40 * (i % 4)
  | .bm => 0xA50000 + winBase (i / 34) + 0x100 * (i % 34 / 2) + 0x40 * (i % 2)

/-- Address of a register in the core view. -/
def Reg.addr (g : Reg) : Nat := g.blk.base g.idx + g.off

/-- R417: the GPIO block. -/
def infoGpio (off : Nat) : Option RegInfo :=
  if off < 0x80 then
    let x := off / 0x20
    match off % 0x20 with
    | 0x00 => some { rw := 0xFFFF } | 0x04 => some { wo := 0xFFFF } | 0x08 => some { wo := 0xFFFF }
    | 0x0C => some { ro := 0xFFFF } | 0x10 => some { rw := 0xFFFF } | 0x14 => some { rw := 0xFFFFFFFF }
    | 0x18 => some { rw := 0xFFFFFFFF, rst := if x = 0 then 0x5 else 0 }
    | 0x1C => some { rw := 0xFFFFFFFF, rst := if x = 0 then 0xAAAAAAA5 else 0xAAAAAAAA }
    | _ => none
  else if off = 0x80 then some { rw := 0xFF, rst := 0xAA }
  else if 0x100 ≤ off && off < 0x140 && off % 4 == 0 then some { rw := 0xF30000FF }
  else if 0x140 ≤ off && off < 0x180 && off % 4 == 0 then some { ro := 0xFFFFFFFF }
  else if off = 0x180 then some { w1c := 0xFFFF }
  else if off = 0x184 then some { ro := 0xFFFF }
  else none

/-- R454: the Lamplighter. After reset every cluster, scratch bank and link domain is Cold and the base-die and spine
domains are Lit; an I/O bank domain is Cold until the strap record is applied (R261). -/
def infoLmp (off : Nat) : Option RegInfo :=
  if off = 0 then some { rw := 0xFFFF0001, rst := 0x19000001 }
  else if off = 4 then some { w1c := 0xE0000000 }
  else if off = 8 then some { ro := 0xFFFF }
  else if off = 0xC then some { ro := 0xFFFF }
  else if 0x10 ≤ off && off < 0x20 && off % 4 == 0 then some { rw := 0x03FF0000, ro := 0x800003FF, rst := 0x02EE0000 }
  else if 0x20 ≤ off && off < 0x30 && off % 4 == 0 then some { w1c := 0x80000000, ro := 0x1FF }
  else if 0x1000 ≤ off && off < 0x1000 + 748 * 4 && off % 4 == 0 then
    let n := (off - 0x1000) / 4
    some { rw := 0x38000000, ro := 0xC6000000, rst := if 728 ≤ n then 0 else 0xA0000000 }
  else none

/-- R67, R493: the Tally's own registers. -/
def infoTly (off : Nat) : Option RegInfo :=
  match off with
  | 0x0 => some { rw := 0x3, wo := 0x100 }
  | 0x4 => some { ro := 0xFFFF0003 }
  | 0x8 => some { ro := 0xFFFF }
  | 0xC => some { rw := 0xFFFF }
  | _ => none

/-- R67: a phase input port. -/
def infoTlyPi (off : Nat) : Option RegInfo :=
  match off with
  | 0x00 => some { rw := 0x8F0FF0FF }
  | 0x04 => some { rw := 0xFFFF3F3F, rst := 0x00010000 }
  | 0x08 => some { rw := 0xFFFFFFFF, rst := 1 }
  | 0x0C => some { rw := 0xFFFFFFFF }
  | 0x10 => some { rw := 0xFFFFFFBF, rst := 0x00640919 }
  | 0x14 => some { rw := 0xFFFF }
  | 0x18 => some { rw := 0xFFFFFFFF, rst := 0x000F4240 }
  | 0x1C => some { rw := 0xFFFFFFFF }
  | 0x20 => some { rw := 0xFFFFFFFF }
  | 0x24 => some { w1c := 0xFE00, ro := 0xF }
  | 0x28 => some { rc := 0xFFFFFFFF }
  | 0x2C => some { ro := 0xFFFFFFFF }
  | _ => none

/-- R67: a phase line. -/
def infoTlyPl (off : Nat) : Option RegInfo :=
  match off with
  | 0x00 => some { rw := 0x8FC00000, wo := 0x40000000, rst := 0x00400000 }
  | 0x04 => some { rw := 0x001F1F1F, rst := 0x001F0602 }
  | 0x08 => some { rw := 0xFFFFFFFF, rst := 0x00101004 }
  | 0x0C => some { rw := 0xFFFFFFFF, rst := 0x20032710 }
  | 0x10 => some { rw := 0xFFFFFFFF }
  | 0x14 => some { rw := 0xFFFF, rst := 0x0100 }
  | 0x18 => some { ro := 0xFFFFFFFF }
  | 0x1C => some { ro := 0xFFFF }
  | 0x20 => some { ro := 0xFFFFFFFF }
  | 0x24 => some { ro := 0xFFFFFFFF }
  | 0x28 => some { ro := 0xFFFFFFFF }
  | 0x2C => some { w1c := 0xE000, ro := 0x1F }
  | 0x30 => some { rw := 0x1 }
  | _ => none

/-- R375: the Compositor. -/
def infoCmp (off : Nat) : Option RegInfo :=
  match off with
  | 0x00 => some { ro := 0xFFFCFFFF }
  | 0x04 => some { wo := 0x80000000 }
  | 0x08 => some { ro := 0xFFFFFFFF }
  | 0x0C => some { ro := 0xFFFF }
  | 0x10 => some { ro := 0xFFFFFFFF }
  | 0x14 => some { ro := 0xFFFFFFFF }
  | 0x18 => some { ro := 0xFFFFFFFF }
  | 0x1C => some { ro := 0xFFFFFFFF }
  | 0x20 => some { ro := 0xFFFFFFFF }
  | 0x24 => some { rc := 0xFFFFFFFF }
  | 0x28 => some { ro := 0xFFFF }
  | _ => none

/-- R391: the Locksmith. OPEN, the fuses and the slots are shown live from the fuse state. -/
def infoLsm (off : Nat) : Option RegInfo :=
  if off = 0 then some { w1c := 0xC0000000, ro := 0x30000000 }
  else if off = 4 then some { rw := 0xC0000000, rst := 0x80000000 }
  else if off = 8 then some { wo := 0xFFFFFFFF }
  else if off = 0xC then some { ro := 0xFF000F0F }
  else if off = 0x10 then some { ro := 0xFFFF }
  else if 0x20 ≤ off && off < 0x40 && off % 4 == 0 then some { wo := 0xFFFFFFFF }
  else if 0x40 ≤ off && off < 0x60 && off % 4 == 0 then some { ro := 0xC0FFFFFF }
  else none

/-- R391: the Notary. -/
def infoNty (off : Nat) : Option RegInfo :=
  match off with
  | 0x0 => some { ro := 0xC0000000 }
  | 0x4 => some { ro := 0xFFFFFFFF }
  | 0x8 => some { ro := 0xFFFFFFFF }
  | 0xC => some { ro := 0xFFFFFFFF }
  | 0x10 => some { ro := 0xFFFF }
  | _ => none

/-- R343: the Tinker's base-die block. TNK_SUMr is shown live. -/
def infoTnkBase (off : Nat) : Option RegInfo :=
  if off < 0x80 && off % 4 == 0 then some { ro := 0xFC000000 }
  else if off = 0x80 then some { w1c := 0xFFFFFFFF }
  else if off = 0x84 then some { w1c := 0xFFFFFFFF }
  else if off = 0x88 then some { ro := 0xFFFF }
  else if off = 0x8C then some { w1c := 0xFFFFFFFF }
  else none

/-- R344: the Assayer. -/
def infoAsy (off : Nat) : Option RegInfo :=
  if off = 0 then some { rw := 0xC000FFFF, rst := 0xC000000A }
  else if off = 4 then some { rw := 0x700003FF, wo := 0x80000000 }
  else if off = 8 then some { ro := 0xC000001F }
  else if off = 0xC then some { ro := 0xF80003FF }
  else if off = 0x10 then some { ro := 0xFFFFFFFF }
  else if off = 0x14 then some { rc := 0xFFFFFFFF }
  else if off = 0x18 then some { ro := 0xFFFF }
  else if 0x100 ≤ off && off ≤ 0x140 && off % 4 == 0 then some { w1c := 0xFFFFFFFF }
  else if 0x180 ≤ off && off ≤ 0x18C && off % 4 == 0 then some { w1c := 0xFFFFFFFF }
  else if off = 0x190 then some { w1c := 0xFFFFFFFF }
  else if off = 0x194 then some { w1c := 0x00FFFFFF }
  else none

/-- R296 and Joining Packages into a System: Choval registers of the package. -/
def infoChv (off : Nat) : Option RegInfo :=
  if off = 0 then some { ro := 0xFFFF, rst := 0x0101 }
  else if off = 4 then some { ro := 0xFFFF }
  else if off = 0x900 then some { rw := 0xFFF }
  else if off = 0x904 then some { rw := 0xFFFF0000, rst := 0x03E80000 }
  else if off = 0x908 then some { w1c := 0xE0000000, ro := 0x1F000FFF }
  else if off = 0x90C then some { rc := 0xFFFFFFFF }
  else if 0x980 ≤ off && off < 0xA00 && off % 4 == 0 then some { rw := 0xFFFFFFFF, rst := 0x000A0000 }
  else if 0xA00 ≤ off && off < 0xA80 && off % 4 == 0 then some { ro := 0x80FFFFFF }
  else if 0xA80 ≤ off && off < 0xAC0 && off % 4 == 0 then some { rw := 0xFFFF0007, rst := 0x000A0000 }
  else if 0x4000 ≤ off && off < 0x8000 && off % 4 == 0 then some { rw := 0xC0001F1F }
  else none

/-- R296: a Choval link. -/
def infoChvL (off : Nat) : Option RegInfo :=
  match off with
  | 0x00 => some { rw := 0x8300FFFF, wo := 0x60000000, rst := 0x03000A14 }
  | 0x04 => some { w1c := 0xFC000000, ro := 0x000F03C7 }
  | 0x08 => some { ro := 0xFFFF80FF }
  | 0x0C => some { rw := 0x00FFFFFF, rst := 0x00080401 }
  | 0x10 => some { ro := 0xFFFFFFFF }
  | 0x14 => some { rc := 0xFFFFFFFF }
  | 0x18 => some { rc := 0x00FF00FF, ro := 0xE000E000 }
  | 0x1C => some { ro := 0xFFFFFFFF }
  | _ => none

/-- R421: MAC and 1588 clock. MACADDR is the factory record's value. -/
def infoMac (off : Nat) : Option RegInfo :=
  match off with
  | 0x00 => some { ro := 0xF8000000 }
  | 0x04 => some { rw := 0x80000000, wo := 0x40000000, rst := 0x80000000 }
  | 0x08 => some { ro := 0xFFFFFFFF }
  | 0x0C => some { ro := 0xFFFF }
  | 0x10 => some { w64 := true, ro := 0xFFFFFFFFFFFFFFFF }
  | 0x18 => some { w64 := true, rw := 0xFFFFFFFFFFFFFFFF, rst := 0x0000000500000000 }
  | 0x20 => some { w64 := true, wo := 0xFFFFFFFFFFFFFFFF }
  | 0x28 => some { rw := 0x60000000, wo := 0x80000000 }
  | 0x30 => some { w64 := true, ro := 0xFFFFFFFFFFFFFFFF }
  | 0x38 => some { ro := 0xFFFF }
  | _ => none

/-- R467: the ferry block's own registers. FRY_SUM is shown live. -/
def infoFry (off : Nat) : Option RegInfo :=
  match off with
  | 0x0 => some { ro := 0xFF }
  | 0x4 => some { ro := 0xFFFF }
  | _ => none

/-- R467: an up-ferry. -/
def infoFryUp (off : Nat) : Option RegInfo :=
  match off with
  | 0x0 => some { rw := 0xFC0F0000 }
  | 0x4 => some { w1c := 0xC0000000, ro := 0xFF }
  | 0x8 => some { w64 := true, rc := 0x0000007FFFFFFFFF }
  | _ => none

/-- R467: a down-ferry. PORT reads zero and TX, PULSE are WO. -/
def infoFryDn (off : Nat) : Option RegInfo :=
  match off with
  | 0x0 => some { rw := 0xFC000000 }
  | 0x4 => some { w1c := 0xE0000000, ro := 0xFF }
  | 0x8 => some { w64 := true, wo := 0xFFFFFFFFFFFFFFFF }
  | 0x10 => some { wo := 0x1 }
  | _ => none

/-- R266: an I/O bank. LEVEL and the pulls come from the strap record (R260). -/
def infoPinBank (off : Nat) : Option RegInfo :=
  match off with
  | 0x00 => some { ro := 0x738, rst := 0x18 }
  | 0x04 => some { ro := 0xFFFFFFFF }
  | 0x08 => some { ro := 0xFFFF }
  | 0x0C => some { ro := 0xFFC0FFC0 }
  | 0x10 => some { ro := 0xFFFFFFFF }
  | 0x14 => some { ro := 0xFFFFFFFF }
  | 0x18 => some { ro := 0xFFFFFFFF }
  | 0x1C => some { w1c := 0xF8000000, ro := 0x07000003 }
  | 0x20 => some { rc := 0xFFFF }
  | 0x24 => some { ro := 0xFFFF }
  | _ => none

/-- R480: the debug block's own registers. -/
def infoDbg (off : Nat) : Option RegInfo :=
  match off with
  | 0x00 => some { rw := 0xC000FFFF, wo := 0x20000000, rst := 0xC00003E8 }
  | 0x04 => some { ro := 0x8000000F }
  | 0x08 => some { ro := 0xFFFF }
  | 0x10 => some { rw := 0xFFFFFFFF }
  | 0x14 => some { ro := 0xFFFFFFFF }
  | 0x18 => some { rw := 0x7F, wo := 0x80000000, ro := 0x40000000 }
  | _ => none

/-- R480: a core's debug registers. -/
def infoDbgCore (off : Nat) : Option RegInfo :=
  match off with
  | 0x00 => some { rw := 0x30000000, wo := 0xC0000000 }
  | 0x04 => some { w1c := 0x40000000, ro := 0xA0000007 }
  | 0x08 => some { wo := 0xFFFFFFFF }
  | 0x10 => some { w64 := true, rw := 0xFFFFFFFFFFFFFFFF }
  | _ => none

/-- R480: a token tap. -/
def infoDbgTap (off : Nat) : Option RegInfo :=
  match off with
  | 0x0 => some { rw := 0x8FFFF800 }
  | 0x8 => some { w64 := true, ro := 0x0000FF07FFFFFFFF }
  | _ => none

/-- R480: a probe. -/
def infoDbgProbe (off : Nat) : Option RegInfo :=
  match off with
  | 0x0 => some { rw := 0xFFFFF83F }
  | 0x4 => some { rw := 0x83FFFFFF, w1c := 0x20000000, ro := 0x40000000 }
  | _ => none

/-- R420: watchdogs 0..3 of the cores and 4 of the system; ACT exists in watchdog 4 alone. -/
def infoWdg (off : Nat) : Option RegInfo :=
  if off < 0x50 then
    match off % 0x10 with
    | 0x0 => some { rw := if off = 0x40 then 0xC0FFFFFF else 0x80FFFFFF, rst := 0x0F4240 }
    | 0x4 => some { wo := 0xFF }
    | 0x8 => some { ro := 0xFFFFFF }
    | 0xC => some { rw := 0xFFFFFF }
    | _ => none
  else if off = 0x80 then some { w1c := 0x3FF }
  else if off = 0x84 then some { ro := 0xFFFF }
  else none

/-- R419: the interrupt controller. -/
def infoIrq (off : Nat) : Option RegInfo :=
  if off = 0 then some { ro := 0xFFFFFFFF }
  else if 0x10 ≤ off && off < 0x20 && off % 4 == 0 then some { rw := 0xFFFFFFFF }
  else if 0x20 ≤ off && off < 0x30 && off % 4 == 0 then some { rw := 0x1 }
  else if off = 0x30 then some { rw := 0xFFFF, rst := 100 }
  else if off = 0x34 then some { w1c := 0xC0000000, ro := 0x30000000 }
  else if off = 0x38 then some { ro := 0xFFFF }
  else if off = 0x100 then some { w64 := true, ro := 0xFFFFFFFFFFFFFFFF }
  else if 0x108 ≤ off && off < 0x128 && off % 8 == 0 then
    some { w64 := true, rw := 0xFFFFFFFFFFFFFFFF, rst := 0xFFFFFFFFFFFFFFFF }
  else none

/-- R342: a region's Tinker. -/
def infoTnk (off : Nat) : Option RegInfo :=
  match off with
  | 0x00 => some { ro := 0xFF000000, rst := 0x08000000 }
  | 0x04 => some { w1c := 0x00C00000, ro := 0xFF0003FF, rst := 0x80000010 }
  | 0x08 => some { rw := 0x40000000, wo := 0x80000000, rst := 0x40000000 }
  | 0x0C => some { ro := 0xFFFE0003 }
  | 0x10 => some { rc := 0xFFFFFFFF }
  | 0x14 => some { rw := 0xFFFF0000, ro := 0xFFFF, rst := 0x00640000 }
  | 0x18 => some { ro := 0x1F1F1F1F, rst := 0x03020100 }
  | 0x1C => some { ro := 0x1F1F1F1F, rst := 0x07060504 }
  | 0x20 => some { ro := 0x1F1F1F1F, rst := 0x0B0A0908 }
  | 0x24 => some { ro := 0x1F1F1F1F, rst := 0x0F0E0D0C }
  | 0x28 => some { ro := 0xFFFF }
  | 0x2C => some { rc := 0xFFFFFFFF }
  | _ => none

/-- R186: PRI after reset, by requester. -/
def priReset (n : Nat) : Nat := if n < 17 then 3 else if n = 17 then 4 else 0

/-- R200: a scratch bank and its Porter. -/
def infoSbank (off : Nat) : Option RegInfo :=
  if off = 0x00 then some { ro := 0xE0FFFF8F }
  else if off = 0x04 then some { rw := 0x1CFFFF8F, wo := 0xC0000000, ro := 0x20000000 }
  else if off = 0x08 then some { rw := 0x5, wo := 0x2, rst := 0x5 }
  else if off = 0x0C then some { w1c := 0xF4000000, ro := 0x0B00FFFF }
  else if off = 0x10 then some { rc := 0xFFFFFFFF }
  else if off = 0x14 then some { ro := 0x7FFFF }
  else if off = 0x18 then some { rw := 0xFFFF0000, ro := 0xFFFF, rst := 0x00640000 }
  else if off = 0x1C then some { ro := 0x1F }
  else if off = 0x20 then some { w1c := 0x40000000, ro := 0xBEC0FFFF }
  else if off = 0x24 then some { ro := 0xFFF8FFFF }
  else if off = 0x28 then some { w1c := 0xC0000000, rc := 0xFFFF, ro := 0x3E000000 }
  else if off = 0x2C then some { ro := 0xFFFF }
  else if 0x80 ≤ off && off < 0xD0 && off % 4 == 0 then
    some { rw := 0x80003F07, ro := 0x403F0000, rst := BitVec.ofNat 64 (0x1000 + priReset ((off - 0x80) / 4)) }
  else none

/-- R220: a hopper. -/
def infoHop (off : Nat) : Option RegInfo :=
  match off with
  | 0x00 => some { ro := 0x7 }
  | 0x04 => some { wo := 0x80000000 }
  | 0x08 => some { w1c := 0x7C000000, ro := 0x03FFFFFF }
  | 0x0C => some { rw := 0x007F007F, rst := 0x00300010 }
  | 0x10 => some { ro := 0xC000001F }
  | 0x14 => some { rc := 0x00FFFFFF }
  | 0x18 => some { ro := 0xFFFF }
  | _ => none

/-- R455: a region's power request block. LMP_RSTAT is shown live. -/
def infoRreq (off : Nat) : Option RegInfo :=
  match off with
  | 0x0 => some { wo := 0xC000FFFF }
  | 0x4 => some { ro := 0xFFFFFFFF }
  | 0x8 => some { ro := 0xFFFF }
  | _ => none

/-- R150: the region mesh. GATE, DRAIN and BENk are shown live. -/
def infoMesh (off : Nat) : Option RegInfo :=
  match off with
  | 0x00 => some { w1c := 0xE0000000, ro := 0x1C00000C }
  | 0x04 => some { rc := 0xFFFF }
  | 0x08 => some { rc := 0xFFFF }
  | 0x0C => some { ro := 0xFFFF }
  | 0x10 => some { ro := 0xFFFFFFFF }
  | 0x14 => some { ro := 0xFFFFFFFF }
  | 0x18 => some { ro := 0xFFFFFFFF }
  | 0x1C => some { ro := 0xFFFFFFFF }
  | _ => none

/-- R248: a pin cell. PIN_CFG holds its reset value until the region's frame is written. -/
def infoPin (off : Nat) : Option RegInfo :=
  match off with
  | 0x00 => some { ro := 0xFFFE0000, rst := 0x02400000 }
  | 0x04 => some { rw := 0x80000000, wo := 0x60000000 }
  | 0x08 => some { w1c := 0xFE000000, ro := 0x010000FF }
  | 0x0C => some { ro := 0xFFFFFFFF }
  | 0x10 => some { ro := 0xFFFF }
  | 0x14 => some { ro := 0xFFFFFFFF }
  | 0x18 => some { ro := 0xFFFFFFFF }
  | 0x1C => some { ro := 0xFFFFFFFF }
  | 0x20 => some { rc := 0xFFFFFFFF }
  | 0x24 => some { ro := 0xFFFF }
  | _ => none

/-- R99: a cell's status window; all but the sticky bits are shown live. -/
def infoCell (off : Nat) : Option RegInfo :=
  if off = 0x00 then some { w1c := 0xF0000000, ro := 0x00070C87 }
  else if off = 0x18 then some { ro := 0xF }
  else if off = 0x2C then some { ro := 0xFFF }
  else if off = 0x30 then some { ro := 0x7 }
  else if off ≤ 0x34 && off % 4 == 0 then some { ro := 0xFFFFFFFF }
  else none

/-- R150: a cluster port. -/
def infoPort (off : Nat) : Option RegInfo :=
  match off with
  | 0x0 => some { w1c := 0xE0000000, ro := 0x03303F1F }
  | 0x4 => some { rc := 0xFFFF }
  | _ => none

/-- R175: a block memory. BLK_CFG is shown live from the frame. -/
def infoBm (off : Nat) : Option RegInfo :=
  match off with
  | 0x0 => some { ro := 0xC3F }
  | 0x4 => some { w1c := 0xE0000000, ro := 0x10003FFF }
  | 0x8 => some { rc := 0xFFFF }
  | 0xC => some { ro := 0xFFFF }
  | _ => none

/-- The map's entry for a register; none for a reserved offset (R12). -/
def Reg.info (g : Reg) : Option RegInfo :=
  match g.blk with
  | .gpio => infoGpio g.off | .lmp => infoLmp g.off | .tly => infoTly g.off
  | .tlyPi => infoTlyPi g.off | .tlyPl => infoTlyPl g.off | .cmp => infoCmp g.off
  | .lsm => infoLsm g.off | .nty => infoNty g.off | .tnkBase => infoTnkBase g.off
  | .asy => infoAsy g.off | .chv => infoChv g.off | .chvL => infoChvL g.off | .mac => infoMac g.off
  | .fry => infoFry g.off | .fryUp => infoFryUp g.off | .fryDn => infoFryDn g.off
  | .pinBank => infoPinBank g.off | .dbg => infoDbg g.off | .dbgCore => infoDbgCore g.off
  | .dbgTap => infoDbgTap g.off | .dbgProbe => infoDbgProbe g.off | .wdg => infoWdg g.off
  | .irq => infoIrq g.off | .tnk => infoTnk g.off | .sbank => infoSbank g.off | .hop => infoHop g.off
  | .rreq => infoRreq g.off | .mesh => infoMesh g.off | .pin => infoPin g.off | .cell => infoCell g.off
  | .port => infoPort g.off | .bm => infoBm g.off

/-- A register's reset value; a reserved register reads zero (R12). -/
def Reg.reset (g : Reg) : RegVal := match g.info with | some i => i.rst | none => 0

/-- Where an address of the core view leads (R393, R19). -/
inductive Place where
  | reg (g : Reg)                       -- a register a map lists
  | rsvd (b : Blk) (i : Nat)            -- reserved space of a block (R12)
  | scratch (bank view off : Nat)       -- scratch bank, view 0 normal, 1 set, 2 clear, byte offset in the bank (R176)
  | hopPort (h : Nat) (pop : Bool)      -- a hopper's PUSH or POP (R203)
  | readback (r : Nat) (off : Nat)      -- a region's frame readback window (R359)
  | win (r : Nat)                       -- reserved space of region r's window (R19)
  | priv (off : Nat)                    -- the core's private GPIO port (R418)
  | rom | sram (off : Nat) | dram (off : Nat) | staging | kernel
  | serial (off : Nat)                  -- UART, SPI and I2C (R407)
  | nowhere                             -- reserved space of the core view (R393)
  deriving DecidableEq, Repr

/-- A register of a block, or reserved space of it. -/
def Place.ofReg (g : Reg) : Place := if g.info.isSome then .reg g else .rsvd g.blk g.idx

/-- An offset in the window of region r (R19). -/
def placeWin (r o : Nat) : Place :=
  if o < 0x600000 then .scratch (r * 4 + o % 0x200000 / 0x80000) (o / 0x200000) (o % 0x80000)
  else if 0x800000 ≤ o && o < 0x801000 then .ofReg ⟨.tnk, r, o - 0x800000⟩
  else if 0x801000 ≤ o && o < 0x801400 then .ofReg ⟨.sbank, r * 4 + (o - 0x801000) / 0x100, o % 0x100⟩
  else if 0x802000 ≤ o && o < 0x802200 then .ofReg ⟨.hop, r * 8 + (o - 0x802000) / 0x40, o % 0x40⟩
  else if 0x803000 ≤ o && o < 0x803100 then .ofReg ⟨.rreq, r, o - 0x803000⟩
  else if 0x804000 ≤ o && o < 0x804100 then .ofReg ⟨.mesh, r, o - 0x804000⟩
  else if 0x806000 ≤ o && o < 0x806600 then .ofReg ⟨.pin, r * 24 + (o - 0x806000) / 0x40, o % 0x40⟩
  else if 0x900000 ≤ o && o < 0x900800 && (o % 0x100 == 0 || o % 0x100 == 4) then
    .hopPort (r * 8 + (o - 0x900000) / 0x100) (o % 0x100 == 4)
  else if 0xA00000 ≤ o && o < 0xA22000 then
    .ofReg ⟨.cell, (r * 17 + (o - 0xA00000) / 0x2000) * 64 + (o % 0x2000) / 0x80, o % 0x80⟩
  else if 0xA40000 ≤ o && o < 0xA41100 then
    .ofReg ⟨.port, (r * 17 + (o - 0xA40000) / 0x100) * 4 + (o % 0x100) / 0x40, o % 0x40⟩
  else if 0xA50000 ≤ o && o < 0xA51100 && o % 0x100 < 0x80 then
    .ofReg ⟨.bm, (r * 17 + (o - 0xA50000) / 0x100) * 2 + (o % 0x100) / 0x40, o % 0x40⟩
  else if 0xC00000 ≤ o && o < 0x1000000 then .readback r (o - 0xC00000)
  else .win r

/-- An address of the peripheral space 0x2000_0000..0x200D_FFFF (R393). -/
def placeMgt (a : Nat) : Place :=
  let o := a % 0x10000
  match (a - 0x20000000) / 0x10000 with
  | 0x0 => .ofReg ⟨.gpio, 0, o⟩
  | 0x1 => .ofReg ⟨.lmp, 0, o⟩
  | 0x2 =>
    if 0x100 ≤ o && o < 0x500 then .ofReg ⟨.tlyPi, (o - 0x100) / 0x40, o % 0x40⟩
    else if 0x800 ≤ o && o < 0xA00 then .ofReg ⟨.tlyPl, (o - 0x800) / 0x40, o % 0x40⟩
    else .ofReg ⟨.tly, 0, o⟩
  | 0x3 => .ofReg ⟨.cmp, 0, o⟩
  | 0x4 => if 0x8000 ≤ o then .ofReg ⟨.nty, 0, o - 0x8000⟩ else .ofReg ⟨.lsm, 0, o⟩
  | 0x5 => .ofReg ⟨.tnkBase, 0, o⟩
  | 0x6 => .ofReg ⟨.asy, 0, o⟩
  | 0x7 => if 0x100 ≤ o && o < 0x900 then .ofReg ⟨.chvL, (o - 0x100) / 0x40, o % 0x40⟩ else .ofReg ⟨.chv, 0, o⟩
  | 0x8 => if 0x100 ≤ o then .kernel else .ofReg ⟨.mac, 0, o⟩
  | 0x9 =>
    if 0x1000 ≤ o && o < 0x2000 then .ofReg ⟨.fryUp, (o - 0x1000) / 0x20, o % 0x20⟩
    else if 0x2000 ≤ o && o < 0x3000 then .ofReg ⟨.fryDn, (o - 0x2000) / 0x20, o % 0x20⟩
    else if 0x8000 ≤ o && o < 0x8600 then .ofReg ⟨.pinBank, (o - 0x8000) / 0x40, o % 0x40⟩
    else .ofReg ⟨.fry, 0, o⟩
  | 0xA =>
    if 0x40 ≤ o && o < 0xC0 then .ofReg ⟨.dbgCore, (o - 0x40) / 0x20, o % 0x20⟩
    else if 0x100 ≤ o && o < 0x140 then .ofReg ⟨.dbgTap, (o - 0x100) / 0x10, o % 0x10⟩
    else if 0x200 ≤ o && o < 0x280 then .ofReg ⟨.dbgProbe, (o - 0x200) / 8, o % 8⟩
    else .ofReg ⟨.dbg, 0, o⟩
  | 0xB => .serial o
  | 0xC => .ofReg ⟨.wdg, 0, o⟩
  | _ => .ofReg ⟨.irq, 0, o⟩

/-- The core view (R393). -/
def placeOf (a : Nat) : Place :=
  if a < 0x10000 then .rom
  else if 0x0F000000 ≤ a && a < 0x0F000020 then .priv (a - 0x0F000000)
  else if 0x10000000 ≤ a && a < 0x10800000 then .sram (a - 0x10000000)
  else if 0x20000000 ≤ a && a < 0x200E0000 then placeMgt a
  else if 0x40000000 ≤ a && a < 0x5C000000 then .dram (a - 0x40000000)
  else if 0x5C000000 ≤ a && a < 0x60000000 then .staging
  else if 0x100000000 ≤ a && a < 0x140000000 && a % 0x10000000 < 0x8000000 then
    placeWin ((a - 0x100000000) / 0x10000000 * 8 + a % 0x10000000 / 0x1000000) (a % 0x1000000)
  else .nowhere

/-- The violation counter of a block (R33); hopper ports, windows and the rest name theirs where they are used. -/
def violOf (b : Blk) (i : Nat) : Reg :=
  match b with
  | .gpio => ⟨.gpio, 0, 0x184⟩ | .lmp => ⟨.lmp, 0, 0xC⟩
  | .tly => ⟨.tly, 0, 8⟩ | .tlyPi => ⟨.tly, 0, 8⟩ | .tlyPl => ⟨.tly, 0, 8⟩
  | .cmp => ⟨.cmp, 0, 0x28⟩ | .lsm => ⟨.lsm, 0, 0x10⟩ | .nty => ⟨.nty, 0, 0x10⟩
  | .tnkBase => ⟨.tnkBase, 0, 0x88⟩ | .asy => ⟨.asy, 0, 0x18⟩
  | .chv => ⟨.chv, 0, 4⟩ | .chvL => ⟨.chv, 0, 4⟩ | .mac => ⟨.mac, 0, 0x38⟩
  | .fry => ⟨.fry, 0, 4⟩ | .fryUp => ⟨.fry, 0, 4⟩ | .fryDn => ⟨.fry, 0, 4⟩
  | .pinBank => ⟨.pinBank, i, 0x24⟩
  | .dbg => ⟨.dbg, 0, 8⟩ | .dbgCore => ⟨.dbg, 0, 8⟩ | .dbgTap => ⟨.dbg, 0, 8⟩ | .dbgProbe => ⟨.dbg, 0, 8⟩
  | .wdg => ⟨.wdg, 0, 0x84⟩ | .irq => ⟨.irq, 0, 0x38⟩
  | .tnk => ⟨.tnk, i, 0x28⟩ | .sbank => ⟨.sbank, i, 0x2C⟩ | .hop => ⟨.hop, i, 0x18⟩
  | .rreq => ⟨.rreq, i, 8⟩ | .mesh => ⟨.mesh, i, 0xC⟩ | .pin => ⟨.pin, i, 0x24⟩
  | .cell => ⟨.tnk, i / 1088, 0x28⟩ | .port => ⟨.mesh, i / 68, 0xC⟩ | .bm => ⟨.bm, i, 0xC⟩

/-- The violation counters of R33, in ascending address order, as VIOL_READ lists them (R435). -/
def violAll : List Reg :=
  [violOf .gpio 0, violOf .lmp 0, violOf .tly 0, violOf .cmp 0, violOf .lsm 0, violOf .nty 0, violOf .tnkBase 0,
   violOf .asy 0, violOf .chv 0, violOf .mac 0, violOf .fry 0] ++
  (List.range 24).map (violOf .pinBank) ++ [violOf .dbg 0, violOf .wdg 0, violOf .irq 0] ++
  (List.range 32).flatMap (fun r =>
    [violOf .tnk r] ++ (List.range 4).map (fun b => violOf .sbank (r * 4 + b)) ++
    (List.range 8).map (fun h => violOf .hop (r * 8 + h)) ++ [violOf .rreq r, violOf .mesh r] ++
    (List.range 24).map (fun p => violOf .pin (r * 24 + p)) ++
    (List.range 34).map (fun m => violOf .bm (r * 34 + m)))

end Sys2Proof.Machine
end

