-- ==== Sys2Proof/Machine/State.lean ====
section
/-! DEFINITION. The state of the block as plain data, and the machine right after reset. Every field's default is its value in State.reset. -/

namespace Sys2Proof.Machine

/-- A measurement of a port (R36, R39 to R46): value in 2^-16 pu, timestamp in samples of 1.25 ns, direction (true: decreasing),
and
whether it carries a count or a changed sample (R53). -/
structure Meas where
  m : Int := 0
  ts : Int := 0
  down : Bool := false
  moved : Bool := true
  deriving DecidableEq, Repr

/-- A phase input port's state behind its registers: filtered pin levels before POL (R36), pin 0 of an SSI port as the port drives it (R35), the position in whole pu and a
remainder in 1/DEN pu (R39), the index correction (R56), raw count (R67), direction of the last count, the last absolute
sample (R40), the first falling clock edge of the SSI burst under way and whether the data line was low at its start (R42). -/
structure TPort where
  lv : BitVec 4 := 0
  pos : Int := 0
  rem : Nat := 0
  zcorr : Int := 0
  count : Word := 0
  down : Bool := false
  word : Int := 0
  first : Bool := true
  burst : Option Int := none
  low : Bool := false
  deriving DecidableEq, Repr

/-- What the readable state of a line shows (R66). -/
structure LineView where
  pos : Word := 0
  posh : Word := 0
  vel : Word := 0
  acc : Word := 0
  innov : Word := 0
  stat : Word := 0
  deriving DecidableEq, Repr

/-- A phase line (R48 to R60): whether it runs, the committed values of its staged registers (R65), the estimate
(theta in 2^-16 pu modulo 2^64, omega in 2^-48 pu per tick, alpha in 2^-48 pu per tick², log entry 11), the acquisition stage
(0 none, 1 one timing measurement, 2 acquired), the last measurement and its timestamp, the clamp (position and time of the
last edge, one count, R52), lock counts (R51), the pulses inserted or discarded (R57), the ZMODE 3 correction still to slew
(R56), the number of jumps published (R310), the latest measurement since the last tick (R49), the
published value of the interval decided last in 1/256 pu with its flags (R59), and the HOLD snapshot (R66). -/
structure TLine where
  run : Bool := false
  ctl : RegVal := 0x00400000
  gain : RegVal := 0x001F0602
  lock : RegVal := 0x00101004
  still : RegVal := 0x20032710
  offs : RegVal := 0
  slew : RegVal := 0x0100
  commit : Bool := false
  theta : BitVec 64 := 0
  omega : Int := 0
  alpha : Int := 0
  acq : Nat := 0
  m1 : Int := 0
  tsLast : Int := 0
  edge : Option Int := none
  edgeTs : Int := 0
  oneCount : Int := 0
  down : Bool := false
  innov : Int := 0
  inTol : Nat := 0
  outTol : Nat := 0
  misses : Nat := 0
  mcnt : Int := 0
  slewLeft : Int := 0
  valid : Bool := false
  locked : Bool := false
  stillF : Bool := false
  coast : Bool := false
  jump : Bool := false
  jumps : Nat := 0
  meas : Option Meas := none
  pub : BitVec 56 := 0
  pubFlags : Nat := 0
  held : Option LineView := none
  deriving DecidableEq, Repr

/-- R58: one line's part of a spine frame: PHASE and SUB as one 40-bit value in 1/256 pu, STEP, and the flags. -/
structure LFrame where
  ph : BitVec 40 := 0
  step : BitVec 16 := 0
  valid : Bool := false
  lock : Bool := false
  still : Bool := false
  dir : Bool := false
  jump : Bool := false
  deriving DecidableEq, Repr

/-- R58: a spine frame: the interval number (its low 8 bits are INTERVAL) and the eight lines. -/
structure Frame where
  interval : Nat := 0
  lines : List LFrame := []
  deriving DecidableEq, Repr

/-- R127: an output stage: the token it holds and the sinks (by number) that have taken it (R129). -/
structure OStage where
  tok : Option Tok := none
  taken : List Nat := []
  deriving DecidableEq, Repr

/-- R85: the value on a carry link out. -/
structure Link where
  c : Bool := false
  w : Word := 0
  p : Bool := false
  deriving DecidableEq, Repr

/-- R68: a cell: W0..W3 with their P bits, the operand slots S0..S3, CP and CPP, the slot pointer, the step counter, the carry
link out, and the output stages of OX and OY (R127). Its program, initial values and enable bit stand in the configuration
latches. -/
structure Cell where
  w0 : Word := 0
  w1 : Word := 0
  w2 : Word := 0
  w3 : Word := 0
  wp : BitVec 4 := 0
  s0 : Option Tok := none
  s1 : Option Tok := none
  s2 : Option Tok := none
  s3 : Option Tok := none
  cp : Bool := false
  cpp : Bool := false
  slot : Nat := 0
  steps : Word := 0
  link : Option Link := none
  ox : OStage := {}
  oy : OStage := {}
  deriving DecidableEq, Repr

/-- A region's switches: gate closed (R147, R150), accepted traffic draining, cells held by the closed gate, set-reset applied
(R91), frozen by the debugger and fully held (R475), outputs
released by the start-up sequence (R26, R245), whether a load has filled it (R444), and whether its ports perform writes (R368). -/
structure Region where
  gate : Bool := true
  drain : Bool := false
  held : Bool := false
  reset : Bool := true
  frozen : Bool := false
  frozenDone : Bool := false
  out : Bool := false
  loaded : Bool := false
  writes : Bool := false
  deriving DecidableEq, Repr

/-- A physical cluster's switches: held by the Tinker (R327), and set-reset of this cluster alone (R444). -/
structure Clu where
  hold : Bool := false
  reset : Bool := false
  deriving DecidableEq, Repr

/-- R131, R357: a connected stream channel: its sink endpoint word, its stages from source to sink, which sinks have taken the
token in the last stage (R129, R321), whether the region's closing has ended it (R147), whether its break token is still to
enter the first stage, and how many of its stages stand before the gate of the sink's region (0: it passes none). -/
structure Chan where
  snk : Word := 0
  stages : List (Option Tok) := []
  gate : Nat := 0
  taken : List Nat := []
  broken : Bool := false
  owes : Bool := false
  deriving DecidableEq, Repr

/-- R132, R134: a logical access port's REQ and DATA inputs and its REPLY stage. -/
structure APort where
  req : Option Tok := none
  data : Option Tok := none
  rep : OStage := {}
  deriving DecidableEq, Repr

/-- R143, R145: a broadcast line: the token it presents, the taps still to take it, and the source the line is granted to. -/
structure BLine where
  tok : Option Tok := none
  wait : List Nat := []
  src : Option Nat := none
  deriving DecidableEq, Repr

/-- R165: a block memory port: its REQ input, the DATA tokens taken, and its REPLY tokens in order with the sinks that have taken
the first. -/
structure BPort where
  req : Option Tok := none
  data : List Tok := []
  rep : List Tok := []
  taken : List Nat := []
  deriving DecidableEq, Repr

/-- What became of an access (R148, R157, R283). -/
inductive Answer where
  | word (t : Tok)
  | done
  | quarantined
  | unreachable
  deriving DecidableEq, Repr

/-- What an access does when performed: a read, a normal write, or a push or command by its address. -/
inductive AKind where
  | read
  | write
  deriving DecidableEq, Repr

/-- An access in flight on the access plane (R132, R134, R156): who issued it (a logical port lp, a core, or the Choval inbound
path with the remote package and number), for a port the cell that feeds it and the distance class, what it asks, and its
answer once it has one. -/
structure Flight where
  id : Nat := 0
  iss : Issuer := .debug
  lp : Nat := 0
  cell : Option Nat := none
  cls : Nat := 1
  tc : Nat := 1
  kind : AKind := .read
  lock : Bool := false
  poison : Bool := false
  pkg : Option Nat := none
  addr : Nat := 0
  data : Tok := {}
  /-- An access from another package: its package, the H1 of its message, and the link it arrived on (R282, R283). -/
  from_ : Option (Nat × Word × Nat) := none
  /-- An access to another package that has left: the link it is queued on or left on, and its TAG (R282, R305). -/
  sent : Option (Nat × Nat) := none
  ans : Option Answer := none
  /-- R11: how wide it is; only the core view can ask for another width than 32 bits. -/
  w : Width := .b32
  /-- R10, R471: a read of the debug port that consumes nothing. -/
  quiet : Bool := false
  /-- R136: the links of the access plane still to cross; none at the end of its way. -/
  path : List PlaneLink := []
  /-- R136: the link whose lane's stage it waits in; none at its source and at the end of its way. -/
  here : Option PlaneLink := none
  /-- When it came to the end of its way, in the count of `nextId`. -/
  arr : Nat := 0
  /-- R353: issued by a design that its region no longer holds: its reply reaches no route. -/
  orphan : Bool := false
  deriving DecidableEq, Repr

/-- R137: what one access-plane output of a switch served last: a class of Madder, Umber and Sepia (1, 2, 3), and the input of a Vermilion
token (inputKey). -/
structure LaneArb where
  turn : Nat := 0
  vin : Nat := 0
  deriving DecidableEq, Repr

/-- R321 to R327: a pair of a paired region: the member it runs single on (0 A, 1 B), a lasting mismatch waiting for evidence (the
compare sink, and the member that offered a token when its twin was missing), whether both members are held for the vote, and
whether the spare has the pair's frames and its memories. -/
structure PairSt where
  trusted : Option Nat := none
  mism : Option Nat := none
  offered : Option Nat := none
  vote : Bool := false
  frames : Bool := false
  copied : Bool := false
  deriving DecidableEq, Repr

/-- A block memory's contents behind its registers: what an unwritten byte reads as (0 zero; n > 0 arbitrary, power-up number n),
whether its INIT mode runs, and whether it has been Cold since it last ran (R173). -/
structure BMem where
  base : Nat := 0
  busy : Bool := false
  cold : Bool := false
  deriving DecidableEq, Repr

/-- Who holds a round of a bank (R186): an access in flight, the scrub, or an Assayer slice. -/
inductive Grantee where
  | flight (id : Nat)
  | scrub
  | slice
  deriving DecidableEq, Repr

/-- R189: a decision: who won, as which requester, with which class, at which e. -/
structure Win where
  who : Grantee
  req : Nat := 0
  tc : Nat := 0
  e : Nat := 0
  deriving DecidableEq, Repr

/-- A scratch bank and its Porter behind their registers: what an unwritten word reads as (0 zero, n > 0 arbitrary), the round in
progress and the one decided (R188), the last winner at each e (R189), each requester's class served last (R186), the port that
holds the lock (R192) and the link a remote holder's accesses arrive on (R308), whether the next grant follows a broken lock (R194), the accesses that wait from before a handover and
its FORCE (R185), a clear under way and the owner it will be given (R198), the scrub's position, queue and offer (R182), whether
a slice offers (R336), and whether AUTOWAKE has asked already (R197). -/
structure Bank where
  base : Nat := 0
  cur : Option Win := none
  next : Option Win := none
  last : Store Nat := []
  classRot : Store Nat := []
  lock : Option Issuer := none
  lockIn : Option Nat := none
  broke : Bool := false
  before : List Nat := []
  force : Bool := false
  clearing : Bool := false
  setOwn : Option Word := none
  clearPos : Nat := 0
  zeroRows : Nat := 0
  testPos : Nat := 0
  testBad : Nat := 0
  scrubPos : Nat := 0
  scrubQ : List Nat := []
  scrubOffer : Bool := false
  waking : Bool := false
  deriving DecidableEq, Repr

/-- R201: a stored word: data, P, F, and whether its stored parity is wrong. -/
structure HWord where
  d : Word := 0
  p : Bool := false
  f : Bool := false
  bad : Bool := false
  deriving DecidableEq, Repr

/-- R205, R207, R213: a hopper: its words, oldest first (OCC is their number), CUR, MPOS, FPEND, the watermark state, and the pops
it holds, in arrival order. -/
structure Hop where
  words : List HWord := []
  cur : Nat := 0
  mpos : Nat := 0
  fpend : Bool := false
  high : Bool := false
  pops : List Nat := []
  deriving DecidableEq, Repr

/-- R226: an armed mark: target, command word, and whether it has been evaluated once (R230). -/
structure Mark where
  target : Word := 0
  cmd : BitVec 16 := 0
  seen : Bool := false
  deriving DecidableEq, Repr

/-- What a pin cell drives: low, high, nothing (the pull acts), or the last level on the keeper (R225, R248). -/
inductive Drive where
  | low | high | float | keep
  deriving DecidableEq, Repr

/-- R221 to R245: a pin cell behind its registers: the tokens at MT and MC, the queue of armed marks, the staged open bound and
the committed window, the captures that wait for CAP (each its timestamp and tokens), SEQ, what the pin drives, the level it drove
last, whether it drives the park value, whether an invalid line has parked it (R244), the flow output's level (R215), the pad's
level, the position of the last edge in 250 ps grid steps, what the outside drives onto the pad as far as it does (R253), and the broadcast lines that MT and MC select (R143, log entry 23). -/
structure Pin where
  mt : Option Tok := none
  mc : Option Tok := none
  ext : Option Bool := none
  mtLine : Option Nat := none
  mcLine : Option Nat := none
  q : List Mark := []
  staged : Option Word := none
  wopen : Word := 0
  wclose : Word := 0
  caps : List (Word × List Tok) := []
  seq : Nat := 0
  drv : Drive := .float
  lvl : Bool := false
  parked : Bool := false
  inv : Bool := false
  flow : Bool := false
  pad : Bool := false
  edge : Option Nat := none
  deriving DecidableEq, Repr

/-- What owns a pad (R245, R261 to R264): nothing but the bank's park state, its pin cell, a serial group, or probe k. -/
inductive Owner where
  | park | cell | group | probe (k : Nat)
  deriving DecidableEq, Repr

/-- R264: a package pin's pad: its owner, the owner a break-before-make change is bringing, and the level its keeper holds. -/
structure Pad where
  owner : Owner := .park
  coming : Option Owner := none
  kept : Bool := false
  deriving DecidableEq, Repr

/-- R257 to R259: a serial group: received words waiting (at most 2), consecutive valid and invalid headers, and the frame sent
last (36 bits; none before the first). -/
structure Group where
  rx : List Tok := []
  valid : Nat := 0
  invalid : Nat := 0
  sent : Option (BitVec 36) := none
  deriving DecidableEq, Repr

/-- R281: a message: MTYPE, destination and source package, H1, the words after it, and the link it arrived on, if it is in transit (R303). -/
structure Msg where
  typ : Nat := 0
  dpkg : Nat := 0
  spkg : Nat := 0
  h1 : Word := 0
  words : List Word := []
  inl : Option Nat := none
  deriving DecidableEq, Repr

/-- R277, R311: a received frame in its buffer: class, the messages not yet taken onward, and the Tally time of its arrival. -/
structure RxFrame where
  cls : Nat := 0
  msgs : List Msg := []
  rx : Nat := 0
  deriving DecidableEq, Repr

/-- R273: a MSG frame in the retry buffer: SEQ, class, its 13 message words, and whether it has been replayed. -/
structure TxFrame where
  seq : Nat := 0
  cls : Nat := 0
  words : List Word := []
  again : Bool := false
  deriving DecidableEq, Repr

/-- R267 to R295, R310, R311: a Choval link behind its registers: messages ready to send with their classes, in the order they became
ready; the retry buffer, oldest first; the next SEQ to give and the next expected; the SEQ a replay in progress sends next and the one
it began at; whether a NAK is owed (1) or was sent (2) since the last accepted frame, and the failures of the expected frame (R276);
the peer's last running counts and its own (R278); received frames, oldest first; the class in turn, less one, and its frames (R279); the lanes
with signal (R287); the phase of a retrain (0 none, 2 lane test, 3 align, 4 negotiate) and the lanes that passed the test; own RESUME,
the peer's TRAIN frame last received and how many identical ones; isolation (R298); the frame sent last, and lane 1's own in ALIGN (R289); the TX times of the last 16
PHASE messages, the last accepted echo (its TX time and arrival), the last 16 round trips, and the jumps each line had published at its
last message. -/
structure CLink where
  txq : List (Nat × Msg) := []
  retry : List TxFrame := []
  nextSeq : Nat := 0
  rxSeq : Nat := 0
  replay : Option (Nat × Nat) := none
  nak : Nat := 0
  fails : Nat := 0
  peerFreed : Word := 0
  freed : Word := 0
  rx : List RxFrame := []
  turn : Fin 3 := 0
  turnUsed : Nat := 0
  signal : BitVec 2 := 0
  rephase : Nat := 0
  passed : BitVec 2 := 0
  resume : Bool := false
  train : List Word := []
  same : Nat := 0
  isolated : Bool := false
  tx : List Word := []
  tx1 : List Word := []
  sentTx : List Nat := []
  echo : Option (Nat × Nat) := none
  rtts : List Nat := []
  jumps : Store Nat := []
  deriving DecidableEq, Repr

/-- R426: a packet being put together from the MGMT messages of one package: its length, the next FRAG and the bytes so far. -/
structure Reasm where
  plen : Nat := 0
  next : Nat := 0
  bytes : List Byte := []
  deriving DecidableEq, Repr

/-- R336 to R339: a slice under way: its kind and element, whether its first run failed, and the region whose swap it confirms (R329). -/
structure Slice where
  kind : Nat := 0
  index : Nat := 0
  again : Bool := false
  confirm : Option Nat := none
  /-- A background or boot slice, which the Tinker may abandon (R339). -/
  background : Bool := false
  deriving DecidableEq, Repr

/-- R360 to R374: the load under way: the region of a partial load; whether it is the boot's, of the golden image, by the boot ROM's
serial loader (R371); the image with its body decrypted; the frames done; the engine's phase (1 header, 2 staging, 3 frames,
4 initialisation, 5 start-up); the regions whose first frame was written; the regions it cannot map (R366); the start-up codes still to
run; the frames to be written again on a spare, each with its physical cluster (R362). -/
structure Load where
  part : Option Nat := none
  boot : Bool := false
  golden : Bool := false
  serial : Bool := false
  image : List Byte := []
  next : Nat := 0
  phase : Nat := 1
  started : List Nat := []
  noSpare : List Nat := []
  steps : List Nat := []
  redo : List (Nat × Nat) := []
  deriving DecidableEq, Repr

/-- R376, R391: a key slot: 0 empty, 1 filled, 2 revoked, 3 BAD; and its key. -/
structure KSlot where
  st : Nat := 0
  key : BitVec 256 := 0
  deriving DecidableEq, Repr

/-- R385: an eFuse owner slot: programmed, revoked, and the digest of a key. -/
structure OSlot where
  prog : Bool := false
  rev : Bool := false
  digest : BitVec 256 := 0
  deriving DecidableEq, Repr

/-- R377: an eFuse programme under way: the command, its slot, and the key or digest. -/
structure KCmd where
  cmd : Nat
  slot : Nat
  data : BitVec 256
  deriving DecidableEq, Repr

/-- R384, R387: what the boot ROM knows of a firmware it ran: its SVN and version, and the digests of it and of the system it started. -/
structure Firmware where
  svn : Nat := 0
  ver : Word := 0
  hash : List Byte := []
  os : List Byte := []
  deriving DecidableEq, Repr

/-- R394, R395, R406, R472: a management core as the block sees it: released from its wait after reset; the fabric load that blocks it, as
an access in flight; a FENCE that waits; a timer interrupt received; a halt asked for. -/
structure Core where
  started : Bool := false
  load : Option Nat := none
  fence : Bool := false
  timer : Bool := false
  haltReq : Bool := false
  deriving DecidableEq, Repr

/-- R408: a watchdog: what is left of its count, in ticks of 5 ns, and whether 0x5A was the last write to KICK. -/
structure Wdg where
  left : Nat := 0
  armed : Bool := false
  deriving DecidableEq, Repr

/-- R407: a UART: rate in bit/s (0: not set up), data bits, parity (odd if true), stop bits, RTS and CTS in use, and the characters that wait to be
sent and to be read. -/
structure Uart where
  baud : Nat := 0
  bits : Nat := 0
  parity : Option Bool := none
  stops : Nat := 0
  flow : Bool := false
  tx : List Byte := []
  rx : List Byte := []
  deriving DecidableEq, Repr

/-- R407: SPI0: clock mode, SCK rate in Hz (0: not set up), word length, the words to be sent with their chip selects, the words received. -/
structure Spi where
  mode : Nat := 0
  hz : Nat := 0
  bits : Nat := 0
  tx : List (Nat × Word) := []
  rx : List Word := []
  deriving DecidableEq, Repr

/-- R407: an I2C unit: target or controller, rate in Hz (0: not set up), 10-bit addresses or 7-bit, the address, the bytes to be sent, those received. -/
structure I2c where
  target : Bool := false
  hz : Nat := 0
  ten : Bool := false
  addr : BitVec 10 := 0
  tx : List Byte := []
  rx : List Byte := []
  deriving DecidableEq, Repr

/-- R436: what a hopper opcode does once it has read HOP_STAT: pop, push, or show it. -/
inductive HopTodo where
  | pop (n : Nat)
  | push (words : List Word)
  | show (refused : Bool)
  deriving DecidableEq, Repr

/-- What a request of Ixzento that is still running waits for (R433, R436): the load it started; its flash programme; a slice; the lock of
lines; a signature; a domain; an eFuse programme (of key slot i, or of an owner slot); the reply of a package to the inner packet with a
SEQ; an access in flight of a READ, with the address after it, how many values are left after it and those read so far; the accesses in flight of a WRITE, with
the values performed so far; the read of a hopper's HOP_STAT before what a hopper opcode does; a pop, with how many are left after it and
those popped; a push, with the words left after it and how many are pushed; and a write to a POP or a TNK_CTL, of hopper or region n. -/
inductive IxWait where
  | load
  | flash
  | slice (kind index : Nat)
  | lock (lines : Nat)
  | sign
  | domain (n : Nat)
  | fuse (slot : Nat) (owner : Bool)
  | relay (pkg : Nat) (seq : Nat)
  | read (id addr : Nat) (w64 : Bool) (left : Nat) (got : List (BitVec 64 × Bool)) (refused : Bool)
  | write (ids : List Nat) (done : Nat) (refused : Bool)
  | hopStat (id h : Nat) (todo : HopTodo)
  | hopPop (id h left : Nat) (got : List Tok)
  | hopPush (id h : Nat) (left : List Word) (done : Nat)
  | hopCmd (id h : Nat)
  | ash (id r : Nat)
  deriving DecidableEq, Repr

/-- A request that is still running: its opcode, its SEQ and what it waits for. -/
structure Running where
  op : Nat
  seq : Word
  wait : IxWait
  deriving DecidableEq, Repr

/-- R428 to R433: a session: its value, endpoint, mode (CONTROL, or OBSERVE), agreed minor version, next SEQ expected, the challenge that
PROVE answers and whether it takes over, the last replies by SEQ, newest first, the requests held for a gap, and the one that runs. -/
structure Session where
  id : Nat
  ep : Endpoint
  control : Bool := false
  minor : Nat := 0
  expect : Word := 0
  challenge : Option (List Byte) := none
  takeover : Bool := false
  replies : List (Word × List Byte) := []
  held : List (List Byte) := []
  run : Option Running := none
  deriving DecidableEq, Repr

/-- R436: the push that is open: its session, destination and length; its bytes, by offset. -/
structure Push where
  session : Nat
  dest : Nat
  total : Nat
  bytes : Store (Option Byte) := []
  deriving DecidableEq, Repr

/-- R436, R437: a flash programme under way: the session it answers, the flash offset, and the bytes. -/
structure FlashJob where
  session : Nat
  offset : Nat
  bytes : List Byte
  deriving DecidableEq, Repr

/-- What the Ixzento firmware keeps between commands (R423 to R439); a management complex reset loses it all. -/
structure Ix where
  sessions : List Session := []
  /-- R428: the session values of the last 65,534 openings, newest first. -/
  used : List Nat := []
  dropped : Nat := 0
  push : Option Push := none
  jobs : List FlashJob := []
  /-- R437: record buffers, key ID * 65536 + offset. -/
  recs : Store (Option Byte) := []
  /-- R436: the saturating copies of TLY_PIn_LOST. -/
  lost : Store RegVal := []
  /-- R387: the sessions that wait for reports, in arrival order. -/
  signQ : List Nat := []
  /-- R436: a reset that waits its 10 ms: 0 management complex, 1 package. -/
  resetDue : Option Nat := none
  deriving DecidableEq, Repr

/-- R442: a power domain's change in progress (the state it goes to) and the request that waits. -/
structure DomSt where
  target : Option Nat := none
  wait : Option Nat := none
  deriving DecidableEq, Repr

/-- R460, R462: a ferry of R457: the words waiting in it, oldest first; a pulse transfer in progress (COUNT and P); whether a pulse
counted for the next transfer had P = 1; and, in a down-ferry, whether the head word or the transfer has crossed and stands before the
channel's first stage. CNT stands in its STAT register, an up-ferry's accepted word in RX. -/
structure Ferry where
  q : List Tok := []
  xfer : Option (Nat × Bool) := none
  cntP : Bool := false
  crossed : Bool := false
  deriving DecidableEq, Repr

/-- R477: a probe's output behind its registers: the level that token events toggle, the token its serial frame carries, when that
frame began (Tally samples), and the token that waits. -/
structure Probe where
  lvl : Bool := false
  tok : Option Tok := none
  since : Nat := 0
  wait : Option Tok := none
  deriving DecidableEq, Repr

/-- R470: a debug access that waits: whether it is a read, and its number as an access in flight. -/
structure DbgAcc where
  read : Bool
  id : Nat
  deriving DecidableEq, Repr

/-- The machine. -/
structure State where
  /-- The commands that wait, first in, first out. -/
  pending : List Instr := []
  /-- The model's own counter of free values (log entry 2). -/
  free : Nat := 0
  /-- R36: the Tally's time in samples of 1.25 ns; SPINE_TICK advances it by one tick of four samples. -/
  time : Nat := 0
  /-- Every register of the maps, by address in the core view; an unlisted register reads as its Reset value (R10). -/
  regs : Store RegVal := []
  /-- What the last read by a core, the firmware or the debug port returned (the model's own; log entry 4). -/
  rdata : RegVal := 0
  /-- R35 to R47: phase input ports -/
  tports : Store TPort := []
  /-- R48 to R66: phase lines -/
  tlines : Store TLine := []
  /-- R413: the 1588 clock in 2^-32 ns, modulo 2^96. -/
  ptp : Nat := 0
  /-- R413: STEPGO was written and the step is added at the next tick. -/
  ptpGo : Bool := false
  /-- R44, R413: the steps, in ns, the MAC has marked to the Tally at this tick. -/
  ptpMark : Int := 0
  /-- R61: a calibration asked for by CALRUN and not yet complete. -/
  calReq : Bool := false
  /-- R58, R60: number of the next frame; its low 8 bits are INTERVAL. -/
  interval : Nat := 0
  /-- R58, R60: the frames emitted last, newest first, that are on their way to the regions. -/
  frames : List Frame := []
  /-- R58, R62: the frame of the interval current in a region -/
  spine : Store Frame := []
  /-- R68: cells, key (region * 17 + physical cluster) * 64 + n -/
  cells : Store Cell := []
  /-- R147, R91: regions -/
  regions : Store Region := []
  /-- Physical clusters, key region * 17 + cluster -/
  clus : Store Clu := []
  /-- R351 to R358: the configuration latches, by frame kind, element, index and byte (cfgKey). -/
  cfg : Store Byte := []
  /-- R356: stream channels, key source endpoint word -/
  chans : Store Chan := []
  /-- R132: access ports, key (region * 16 + logical cluster) * 4 + port -/
  aports : Store APort := []
  /-- R143: broadcast lines, key region * 8 + line -/
  blines : Store BLine := []
  /-- R143: the driver stage of a logical cluster's broadcast source, key region * 16 + cluster -/
  bsrcs : Store (Option Tok) := []
  /-- R164: block memory ports, key (cluster * 2 + memory) * 2 + (0 A, 1 B) -/
  bports : Store BPort := []
  /-- R321: tokens waiting at the compare stages, key cluster * 305 + sink -/
  twins : Store (Option Tok) := []
  /-- R137: the access-plane outputs, key PlaneLink.key -/
  lanes : Store LaneArb := []
  /-- R132: accesses in flight, oldest first. -/
  flights : List Flight := []
  /-- The model's own number of the next access in flight. -/
  nextId : Nat := 0
  /-- R320: pairs, key region * 8 + pair -/
  pairs : Store PairSt := []
  /-- R318: stages whose last token had a code error, waiting for the next token through them (moveKey). -/
  codePend : List Nat := []
  /-- R327: the regions that wait for spare frames, in the order of their lasting decisions. -/
  spareQ : List Nat := []
  /-- R330: the physical cluster of a cluster fault that waits for UNPAIRED_SWAP, by region -/
  swapWant : Store (Option Nat) := []
  /-- R164: block memories, key cluster * 2 + memory -/
  bmems : Store BMem := []
  /-- R164, R170: block memory bytes with whether the stored parity is wrong, key (cluster * 2 + memory) * 16384 + offset; unlisted reads as the memory's base -/
  bbytes : Store (Option (Byte × Bool)) := []
  /-- R176: scratch banks, key region * 4 + bank -/
  banks : Store Bank := []
  /-- R179: scratch words with the error pattern over their 39 stored bits, key bank * 131072 + word; unlisted reads as the bank's base -/
  swords : Store (Option (Word × BitVec 39)) := []
  /-- R201: hoppers, key region * 8 + hopper -/
  hops : Store Hop := []
  /-- R221: pin cells, key package pin number -/
  pins : Store Pin := []
  /-- R231: the frame of the interval before the current one in a region -/
  spinePrevs : Store Frame := []
  /-- R253, R264: pads, key package pin -/
  pads : Store Pad := []
  /-- R256: serial groups, key bank * 2 + group -/
  groups : Store Group := []
  /-- R267: Choval links -/
  links : Store CLink := []
  /-- R426: packets being put together, by source package -/
  reasms : Store Reasm := []
  /-- R426: whole packets that arrived over Choval and wait for Ixzento, with their source package. -/
  mgmtIn : List (Nat × List Byte) := []
  /-- R305: requests of this package answered UNREACHABLE whose replies may still come, as port and TAG, oldest first. -/
  lateTags : List (Nat × Nat) := []
  /-- R336 to R340: the slices under way, oldest first. -/
  slices : List Slice := []
  /-- R340: the element the background sweep looks at next, by kind and index in one numbering. -/
  sweep : Nat := 0
  /-- R405: a slice has finished since ASY_RES was last read. -/
  asyNews : Bool := false
  /-- R336, R344: the last slice asked for by ASY_REQ or Ixzento has ended, until Ixzento has taken note of it. -/
  sliceEnded : Bool := false
  /-- R360 to R374: the load under way. -/
  load : Option Load := none
  /-- R345, R260, R338, R433: the flash die, by offset; an unlisted byte is zero (log entry 30). -/
  flash : Store Byte := []
  /-- R346: the decrypted frames of every loaded region, by frame kind, logical element, index and byte (cfgKey). -/
  gold : Store Byte := []
  /-- R348, R365: the configuration park state in force at a package pin -/
  cparks : Store Nat := []
  /-- R334, R362: CRC-32 of the frame last written and verified, by frame key (cfgKey of byte 0) -/
  crcs : Store (Option Word) := []
  /-- R361: the code of the load that ended last, until Ixzento has taken note of it. -/
  loadEnded : Option Nat := none
  /-- R387: the digest that check 4 verified for the last full image; empty if none. -/
  imgHash : List Byte := []
  /-- R387: IMGID of the image that last loaded a region -/
  rimgs : Store Nat := []
  /-- R346, R436: the image a host pushed for staging only. -/
  staged : Option (List Byte) := none
  /-- R252, R260: a load has been asked for since package reset, so that the strap record applies no more. -/
  loadAsked : Bool := false
  /-- R374: the lasting cluster faults reported in a region under load (physical cluster, source, cell), until the Tinker acts on them. -/
  toldFaults : List (Nat × Nat × Nat) := []
  /-- R376: key slots -/
  kslots : Store KSlot := []
  /-- R385: eFuse owner slots -/
  oslots : Store OSlot := []
  /-- R377: the key command under way. -/
  kcmd : Option KCmd := none
  /-- R378, R504: eFuse key slots whose programme a reset cut short, until the next boot marks them BAD. -/
  cutSlots : List Nat := []
  /-- R384: eFuse bit TKREV. -/
  tkrev : Bool := false
  /-- R384: blown bits of eFuse field FWSVN. -/
  fwsvn : Nat := 0
  /-- R384, R387: the firmware that booted; none before a boot or in recovery. -/
  fw : Option Firmware := none
  /-- R395, R438: the boot ROM waits in recovery. -/
  recovery : Bool := false
  /-- R387: attestation reports that wait to be signed, oldest first: their bytes before SIG. -/
  reports : List (List Byte) := []
  /-- R387: the report signed last, until it has been returned. -/
  signed : Option (List Byte) := none
  /-- R387: COUNTER: reports signed since package reset. -/
  attests : Nat := 0
  /-- R407: the UARTs -/
  uarts : Store Uart := []
  /-- R407: SPI0. -/
  spi : Spi := {}
  /-- R407: the I2C units -/
  i2cs : Store I2c := []
  /-- R392: management cores -/
  cores : Store Core := []
  /-- R408: watchdogs, 0..3 of the cores and 4 of the system -/
  wdgs : Store Wdg := []
  /-- R398: the level the outside drives at a GPIO pad, key port * 16 + pin; none where nothing does -/
  gexts : Store (Option Bool) := []
  /-- R253: the level a GPIO pad's keeper holds -/
  gkeeps : Store Bool := []
  /-- R404: the level a pin-interrupt line accepted last -/
  glines : Store (Option Bool) := []
  /-- R398: the GPIO ports whose drivers a change of LEVEL holds off. -/
  gheld : List Nat := []
  /-- R405: a Compositor load has ended and Ixzento has not read CMP_STAT since. -/
  cmpNews : Bool := false
  /-- R405, R415: a 1588 event has been captured. -/
  ptpNews : Bool := false
  /-- R414: the timestamp of the last event message. -/
  ptpStamp : Option Nat := none
  /-- R415: the whole second of the 1588 clock, in ns, at which PB0 last rose. -/
  ppsAt : Option Nat := none
  /-- R393: bytes of management SRAM and DRAM, by address in the core view; an unlisted byte has an arbitrary content (log entry 3) -/
  mem : Store (Option Byte) := []
  /-- R397: the number of the last event after which SRAM and DRAM hold nothing certain (log entry 3). -/
  memEpoch : Nat := 0
  /-- R423 to R439: what the Ixzento firmware keeps. -/
  ix : Ix := {}
  /-- R424 to R427: the packets Ixzento has sent over UDP, the mailbox and UART0, oldest first. -/
  ixOut : List (Endpoint × List Byte) := []
  /-- R440, R442: power domains -/
  doms : Store DomSt := []
  /-- The number of the last power-up of a memory, which tells its arbitrary contents apart (log entry 3). -/
  epoch : Nat := 0
  /-- R457: up-ferries -/
  ups : Store Ferry := []
  /-- R457: down-ferries -/
  dns : Store Ferry := []
  /-- R477: probes -/
  probes : Store Probe := []
  /-- R468: the TAP's instruction; IDCODE in Test-Logic-Reset. -/
  tapIr : BitVec 8 := 2
  /-- R469: the boundary register: for each pad with cells its input, output and output enable (log entry 36). -/
  bscan : BitVec 2592 := 0
  /-- R470: the debug access that has not completed. -/
  dbgAcc : Option DbgAcc := none
  /-- R470: what the next Capture-DR returns: STATUS, P and DATA. -/
  dbgStatus : Nat := 0
  /-- R470: P of the last debug read. -/
  dbgP : Bool := false
  /-- R470: DATA of the last debug read. -/
  dbgData : BitVec 64 := 0
  /-- R469: what the last capture into the boundary register found, for TDO. -/
  bcap : BitVec 2592 := 0
  /-- R483: the 12 V input is present. -/
  vin : Bool := true
  /-- R379: VBAT is present. -/
  vbat : Bool := true
  /-- R379: the battery-backed slots lost their contents, until the next boot sets BBLOST. -/
  bbGone : Bool := false
  /-- R485: a thermal trip holds every domain Cold. -/
  hot : Bool := false
  /-- R395: a reset has been released and the boot has not run yet. -/
  bootDue : Bool := true
  deriving DecidableEq, Repr

/-- R35 to R47: phase input ports: the entry of a key. -/
def State.tport (s : State) (i : Nat) : TPort := Store.get {} s.tports i

/-- R35 to R47: phase input ports: the entry of a key replaced. -/
def State.setTport (s : State) (i : Nat) (x : TPort) : State := { s with tports := Store.put {} s.tports i x }

/-- R48 to R66: phase lines: the entry of a key. -/
def State.tline (s : State) (i : Nat) : TLine := Store.get {} s.tlines i

/-- R48 to R66: phase lines: the entry of a key replaced. -/
def State.setTline (s : State) (i : Nat) (x : TLine) : State := { s with tlines := Store.put {} s.tlines i x }

/-- R58, R62: the frame of the interval current in a region: the entry of a key. -/
def State.spineOf (s : State) (i : Nat) : Frame := Store.get {} s.spine i

/-- R58, R62: the frame of the interval current in a region: the entry of a key replaced. -/
def State.setSpine (s : State) (i : Nat) (x : Frame) : State := { s with spine := Store.put {} s.spine i x }

/-- R68: cells, key (region * 17 + physical cluster) * 64 + n: the entry of a key. -/
def State.cell (s : State) (i : Nat) : Cell := Store.get {} s.cells i

/-- R68: cells, key (region * 17 + physical cluster) * 64 + n: the entry of a key replaced. -/
def State.setCell (s : State) (i : Nat) (x : Cell) : State := { s with cells := Store.put {} s.cells i x }

/-- R147, R91: regions: the entry of a key. -/
def State.region (s : State) (i : Nat) : Region := Store.get {} s.regions i

/-- R147, R91: regions: the entry of a key replaced. -/
def State.setRegion (s : State) (i : Nat) (x : Region) : State := { s with regions := Store.put {} s.regions i x }

/-- Physical clusters, key region * 17 + cluster: the entry of a key. -/
def State.clu (s : State) (i : Nat) : Clu := Store.get {} s.clus i

/-- Physical clusters, key region * 17 + cluster: the entry of a key replaced. -/
def State.setClu (s : State) (i : Nat) (x : Clu) : State := { s with clus := Store.put {} s.clus i x }

/-- R356: stream channels, key source endpoint word: the entry of a key. -/
def State.chan (s : State) (i : Nat) : Chan := Store.get {} s.chans i

/-- R356: stream channels, key source endpoint word: the entry of a key replaced. -/
def State.setChan (s : State) (i : Nat) (x : Chan) : State := { s with chans := Store.put {} s.chans i x }

/-- R132: access ports, key (region * 16 + logical cluster) * 4 + port: the entry of a key. -/
def State.aport (s : State) (i : Nat) : APort := Store.get {} s.aports i

/-- R132: access ports, key (region * 16 + logical cluster) * 4 + port: the entry of a key replaced. -/
def State.setAport (s : State) (i : Nat) (x : APort) : State := { s with aports := Store.put {} s.aports i x }

/-- R143: broadcast lines, key region * 8 + line: the entry of a key. -/
def State.bline (s : State) (i : Nat) : BLine := Store.get {} s.blines i

/-- R143: broadcast lines, key region * 8 + line: the entry of a key replaced. -/
def State.setBline (s : State) (i : Nat) (x : BLine) : State := { s with blines := Store.put {} s.blines i x }

/-- R143: the driver stage of a logical cluster's broadcast source, key region * 16 + cluster: the entry of a key. -/
def State.bsrc (s : State) (i : Nat) : Option Tok := Store.get none s.bsrcs i

/-- R143: the driver stage of a logical cluster's broadcast source, key region * 16 + cluster: the entry of a key replaced. -/
def State.setBsrc (s : State) (i : Nat) (x : Option Tok) : State := { s with bsrcs := Store.put none s.bsrcs i x }

/-- R164: block memory ports, key (cluster * 2 + memory) * 2 + (0 A, 1 B): the entry of a key. -/
def State.bport (s : State) (i : Nat) : BPort := Store.get {} s.bports i

/-- R164: block memory ports, key (cluster * 2 + memory) * 2 + (0 A, 1 B): the entry of a key replaced. -/
def State.setBport (s : State) (i : Nat) (x : BPort) : State := { s with bports := Store.put {} s.bports i x }

/-- R321: tokens waiting at the compare stages, key cluster * 305 + sink: the entry of a key. -/
def State.twin (s : State) (i : Nat) : Option Tok := Store.get none s.twins i

/-- R321: tokens waiting at the compare stages, key cluster * 305 + sink: the entry of a key replaced. -/
def State.setTwin (s : State) (i : Nat) (x : Option Tok) : State := { s with twins := Store.put none s.twins i x }

/-- R137: the access-plane outputs, key PlaneLink.key: the entry of a key. -/
def State.laneArb (s : State) (i : Nat) : LaneArb := Store.get {} s.lanes i

/-- R137: the access-plane outputs, key PlaneLink.key: the entry of a key replaced. -/
def State.setLaneArb (s : State) (i : Nat) (x : LaneArb) : State := { s with lanes := Store.put {} s.lanes i x }

/-- R320: pairs, key region * 8 + pair: the entry of a key. -/
def State.pair (s : State) (i : Nat) : PairSt := Store.get {} s.pairs i

/-- R320: pairs, key region * 8 + pair: the entry of a key replaced. -/
def State.setPair (s : State) (i : Nat) (x : PairSt) : State := { s with pairs := Store.put {} s.pairs i x }

/-- R330: the physical cluster of a cluster fault that waits for UNPAIRED_SWAP, by region: the entry of a key. -/
def State.swapOf (s : State) (i : Nat) : Option Nat := Store.get none s.swapWant i

/-- R330: the physical cluster of a cluster fault that waits for UNPAIRED_SWAP, by region: the entry of a key replaced. -/
def State.setSwap (s : State) (i : Nat) (x : Option Nat) : State := { s with swapWant := Store.put none s.swapWant i x }

/-- R164: block memories, key cluster * 2 + memory: the entry of a key. -/
def State.bmem (s : State) (i : Nat) : BMem := Store.get {} s.bmems i

/-- R164: block memories, key cluster * 2 + memory: the entry of a key replaced. -/
def State.setBmem (s : State) (i : Nat) (x : BMem) : State := { s with bmems := Store.put {} s.bmems i x }

/-- R164, R170: block memory bytes with whether the stored parity is wrong, key (cluster * 2 + memory) * 16384 + offset; unlisted reads as the memory's base: the entry of a key. -/
def State.bbyte (s : State) (i : Nat) : Option (Byte × Bool) := Store.get none s.bbytes i

/-- R164, R170: block memory bytes with whether the stored parity is wrong, key (cluster * 2 + memory) * 16384 + offset; unlisted reads as the memory's base: the entry of a key replaced. -/
def State.setBbyte (s : State) (i : Nat) (x : Option (Byte × Bool)) : State := { s with bbytes := Store.put none s.bbytes i x }

/-- R176: scratch banks, key region * 4 + bank: the entry of a key. -/
def State.bank (s : State) (i : Nat) : Bank := Store.get {} s.banks i

/-- R176: scratch banks, key region * 4 + bank: the entry of a key replaced. -/
def State.setBank (s : State) (i : Nat) (x : Bank) : State := { s with banks := Store.put {} s.banks i x }

/-- R179: scratch words with the error pattern over their 39 stored bits, key bank * 131072 + word; unlisted reads as the bank's base: the entry of a key. -/
def State.sword (s : State) (i : Nat) : Option (Word × BitVec 39) := Store.get none s.swords i

/-- R179: scratch words with the error pattern over their 39 stored bits, key bank * 131072 + word; unlisted reads as the bank's base: the entry of a key replaced. -/
def State.setSword (s : State) (i : Nat) (x : Option (Word × BitVec 39)) : State := { s with swords := Store.put none s.swords i x }

/-- R201: hoppers, key region * 8 + hopper: the entry of a key. -/
def State.hop (s : State) (i : Nat) : Hop := Store.get {} s.hops i

/-- R201: hoppers, key region * 8 + hopper: the entry of a key replaced. -/
def State.setHop (s : State) (i : Nat) (x : Hop) : State := { s with hops := Store.put {} s.hops i x }

/-- R221: pin cells, key package pin number: the entry of a key. -/
def State.pin (s : State) (i : Nat) : Pin := Store.get {} s.pins i

/-- R221: pin cells, key package pin number: the entry of a key replaced. -/
def State.setPin (s : State) (i : Nat) (x : Pin) : State := { s with pins := Store.put {} s.pins i x }

/-- R231: the frame of the interval before the current one in a region: the entry of a key. -/
def State.spinePrev (s : State) (i : Nat) : Frame := Store.get {} s.spinePrevs i

/-- R231: the frame of the interval before the current one in a region: the entry of a key replaced. -/
def State.setSpinePrev (s : State) (i : Nat) (x : Frame) : State := { s with spinePrevs := Store.put {} s.spinePrevs i x }

/-- R253, R264: pads, key package pin: the entry of a key. -/
def State.padOf (s : State) (i : Nat) : Pad := Store.get {} s.pads i

/-- R253, R264: pads, key package pin: the entry of a key replaced. -/
def State.setPad (s : State) (i : Nat) (x : Pad) : State := { s with pads := Store.put {} s.pads i x }

/-- R256: serial groups, key bank * 2 + group: the entry of a key. -/
def State.group (s : State) (i : Nat) : Group := Store.get {} s.groups i

/-- R256: serial groups, key bank * 2 + group: the entry of a key replaced. -/
def State.setGroup (s : State) (i : Nat) (x : Group) : State := { s with groups := Store.put {} s.groups i x }

/-- R267: Choval links: the entry of a key. -/
def State.clink (s : State) (i : Nat) : CLink := Store.get {} s.links i

/-- R267: Choval links: the entry of a key replaced. -/
def State.setClink (s : State) (i : Nat) (x : CLink) : State := { s with links := Store.put {} s.links i x }

/-- R426: packets being put together, by source package: the entry of a key. -/
def State.reasm (s : State) (i : Nat) : Reasm := Store.get {} s.reasms i

/-- R426: packets being put together, by source package: the entry of a key replaced. -/
def State.setReasm (s : State) (i : Nat) (x : Reasm) : State := { s with reasms := Store.put {} s.reasms i x }

/-- R348, R365: the configuration park state in force at a package pin: the entry of a key. -/
def State.cpark (s : State) (i : Nat) : Nat := Store.get 0 s.cparks i

/-- R348, R365: the configuration park state in force at a package pin: the entry of a key replaced. -/
def State.setCpark (s : State) (i : Nat) (x : Nat) : State := { s with cparks := Store.put 0 s.cparks i x }

/-- R334, R362: CRC-32 of the frame last written and verified, by frame key (cfgKey of byte 0): the entry of a key. -/
def State.crcOf (s : State) (i : Nat) : Option Word := Store.get none s.crcs i

/-- R334, R362: CRC-32 of the frame last written and verified, by frame key (cfgKey of byte 0): the entry of a key replaced. -/
def State.setCrc (s : State) (i : Nat) (x : Option Word) : State := { s with crcs := Store.put none s.crcs i x }

/-- R387: IMGID of the image that last loaded a region: the entry of a key. -/
def State.rimg (s : State) (i : Nat) : Nat := Store.get 0 s.rimgs i

/-- R387: IMGID of the image that last loaded a region: the entry of a key replaced. -/
def State.setRimg (s : State) (i : Nat) (x : Nat) : State := { s with rimgs := Store.put 0 s.rimgs i x }

/-- R376: key slots: the entry of a key. -/
def State.kslot (s : State) (i : Nat) : KSlot := Store.get {} s.kslots i

/-- R376: key slots: the entry of a key replaced. -/
def State.setKslot (s : State) (i : Nat) (x : KSlot) : State := { s with kslots := Store.put {} s.kslots i x }

/-- R385: eFuse owner slots: the entry of a key. -/
def State.oslot (s : State) (i : Nat) : OSlot := Store.get {} s.oslots i

/-- R385: eFuse owner slots: the entry of a key replaced. -/
def State.setOslot (s : State) (i : Nat) (x : OSlot) : State := { s with oslots := Store.put {} s.oslots i x }

/-- R407: the UARTs: the entry of a key. -/
def State.uart (s : State) (i : Nat) : Uart := Store.get {} s.uarts i

/-- R407: the UARTs: the entry of a key replaced. -/
def State.setUart (s : State) (i : Nat) (x : Uart) : State := { s with uarts := Store.put {} s.uarts i x }

/-- R407: the I2C units: the entry of a key. -/
def State.i2c (s : State) (i : Nat) : I2c := Store.get {} s.i2cs i

/-- R407: the I2C units: the entry of a key replaced. -/
def State.setI2c (s : State) (i : Nat) (x : I2c) : State := { s with i2cs := Store.put {} s.i2cs i x }

/-- R392: management cores: the entry of a key. -/
def State.core (s : State) (i : Nat) : Core := Store.get {} s.cores i

/-- R392: management cores: the entry of a key replaced. -/
def State.setCore (s : State) (i : Nat) (x : Core) : State := { s with cores := Store.put {} s.cores i x }

/-- R408: watchdogs, 0..3 of the cores and 4 of the system: the entry of a key. -/
def State.wdg (s : State) (i : Nat) : Wdg := Store.get {} s.wdgs i

/-- R408: watchdogs, 0..3 of the cores and 4 of the system: the entry of a key replaced. -/
def State.setWdg (s : State) (i : Nat) (x : Wdg) : State := { s with wdgs := Store.put {} s.wdgs i x }

/-- R398: the level the outside drives at a GPIO pad, key port * 16 + pin; none where nothing does: the entry of a key. -/
def State.gext (s : State) (i : Nat) : Option Bool := Store.get none s.gexts i

/-- R398: the level the outside drives at a GPIO pad, key port * 16 + pin; none where nothing does: the entry of a key replaced. -/
def State.setGext (s : State) (i : Nat) (x : Option Bool) : State := { s with gexts := Store.put none s.gexts i x }

/-- R253: the level a GPIO pad's keeper holds: the entry of a key. -/
def State.gkeep (s : State) (i : Nat) : Bool := Store.get false s.gkeeps i

/-- R253: the level a GPIO pad's keeper holds: the entry of a key replaced. -/
def State.setGkeep (s : State) (i : Nat) (x : Bool) : State := { s with gkeeps := Store.put false s.gkeeps i x }

/-- R404: the level a pin-interrupt line accepted last: the entry of a key. -/
def State.gline (s : State) (i : Nat) : Option Bool := Store.get none s.glines i

/-- R404: the level a pin-interrupt line accepted last: the entry of a key replaced. -/
def State.setGline (s : State) (i : Nat) (x : Option Bool) : State := { s with glines := Store.put none s.glines i x }

/-- R393: bytes of management SRAM and DRAM, by address in the core view; an unlisted byte has an arbitrary content (log entry 3): the entry of a key. -/
def State.memByte (s : State) (i : Nat) : Option Byte := Store.get none s.mem i

/-- R393: bytes of management SRAM and DRAM, by address in the core view; an unlisted byte has an arbitrary content (log entry 3): the entry of a key replaced. -/
def State.setMemByte (s : State) (i : Nat) (x : Option Byte) : State := { s with mem := Store.put none s.mem i x }

/-- R440, R442: power domains: the entry of a key. -/
def State.domSt (s : State) (i : Nat) : DomSt := Store.get {} s.doms i

/-- R440, R442: power domains: the entry of a key replaced. -/
def State.setDomSt (s : State) (i : Nat) (x : DomSt) : State := { s with doms := Store.put {} s.doms i x }

/-- R457: up-ferries: the entry of a key. -/
def State.upf (s : State) (i : Nat) : Ferry := Store.get {} s.ups i

/-- R457: up-ferries: the entry of a key replaced. -/
def State.setUpf (s : State) (i : Nat) (x : Ferry) : State := { s with ups := Store.put {} s.ups i x }

/-- R457: down-ferries: the entry of a key. -/
def State.dnf (s : State) (i : Nat) : Ferry := Store.get {} s.dns i

/-- R457: down-ferries: the entry of a key replaced. -/
def State.setDnf (s : State) (i : Nat) (x : Ferry) : State := { s with dns := Store.put {} s.dns i x }

/-- R477: probes: the entry of a key. -/
def State.probe (s : State) (i : Nat) : Probe := Store.get {} s.probes i

/-- R477: probes: the entry of a key replaced. -/
def State.setProbe (s : State) (i : Nat) (x : Probe) : State := { s with probes := Store.put {} s.probes i x }

/-- Why a step can stop with a fault: no reason. The manual gives every operation and event of the block an effect, so the
type has no constructor. -/
inductive Fault where
  deriving DecidableEq, Repr

/-- Why a step can be refused. -/
inductive Refusal where
  /-- A command that has no meaning yet, by mnemonic; raised by Dispatch alone; safe. -/
  | notModelled (mnemonic : String)
  deriving DecidableEq, Repr

/-- The machine right after reset: every register at its Reset value (an unlisted register reads as it), every memory with
nothing listed, no command waiting. -/
def State.reset : State := {}

end Sys2Proof.Machine
end

