-- ==== Sys2Proof/Machine/Ops.lean ====
section
/-! DEFINITION. The named operations on registers that every meaning uses: reading, writing, fields, sticky bits, saturating counters, violation counters (R33), free values, and roundings the manual leaves open. -/

namespace Sys2Proof.Machine

/-- The outcome of a meaning. -/
abbrev Out := Host.Outcome State Fault Refusal

/-- The stored value of a register, without its live fields. -/
def State.rget (s : State) (g : Reg) : RegVal := Store.get g.reset s.regs g.addr

/-- A register's stored value replaced. -/
def State.rput (s : State) (g : Reg) (v : RegVal) : State := { s with regs := Store.put g.reset s.regs g.addr v }

/-- Field [lo+len-1:lo] of a register. -/
def State.rf (s : State) (g : Reg) (lo len : Nat) : Nat := fld (s.rget g) lo len

/-- Bit i of a register. -/
def State.rb (s : State) (g : Reg) (i : Nat) : Bool := bit (s.rget g) i

/-- Field [lo+len-1:lo] of a register written. -/
def State.rsetf (s : State) (g : Reg) (lo len x : Nat) : State := s.rput g (setFld (s.rget g) lo len x)

/-- Bit i of a register written. -/
def State.rsetb (s : State) (g : Reg) (i : Nat) (b : Bool) : State := s.rput g (setBit (s.rget g) i b)

/-- A sticky bit set. -/
def State.sticky (s : State) (g : Reg) (i : Nat) : State := s.rsetb g i true

/-- A saturating counter in field [lo+len-1:lo] raised by n. -/
def State.count (s : State) (g : Reg) (lo len n : Nat) : State :=
  s.rsetf g lo len (satAdd (2 ^ len - 1) (s.rf g lo len) n)

/-- R33: a forbidden access counted in the violation counter at `g`, which saturates at 0xFFFF. -/
def State.violAt (s : State) (g : Reg) : State := s.count g 0 16 1

/-- R33: a forbidden access counted in the counter of a block. -/
def State.viol (s : State) (b : Blk) (i : Nat) : State := s.violAt (violOf b i)

/-- The next free value (log entry 2), of at most 64 bits. -/
def State.freeNow (s : State) : BitVec 64 := Config.freeVal s.free

/-- The counter of free values advanced, after one was used. -/
def State.bumpFree (s : State) : State := { s with free := s.free + 1 }

/-- R10: the masks of a write by an accepted issuer: RW fields take the value, W1C bits written 1 clear, the rest stays. -/
def RegInfo.write (i : RegInfo) (old v : RegVal) : RegVal :=
  ((old &&& ~~~i.rw) ||| (v &&& i.rw)) &&& ~~~(v &&& i.w1c)

/-- R10: what a read shows of the stored value: every field but the WO ones, which read zero. -/
def RegInfo.shown (i : RegInfo) (v : RegVal) : RegVal := v &&& (i.rw ||| i.w1c ||| i.rc ||| i.ro)

/-- R10: what a consuming read leaves: its RC fields cleared. -/
def RegInfo.consumed (i : RegInfo) (v : RegVal) : RegVal := v &&& ~~~i.rc

/-- The plain effect of an accepted write on a register (R10): RW, W1C; WO actions are the callers'. -/
def State.writePlain (s : State) (g : Reg) (v : RegVal) : State :=
  match g.info with
  | some i => s.rput g (i.write (s.rget g) v)
  | none => s

/-- x / d stored in whole units: exact where it divides, else one of the two neighbours, open (log entry 12). -/
def roundOpen (x : Int) (d : Nat) : Int :=
  if x % (d : Int) = 0 then x / (d : Int)
  else if Config.roundsUp x d then x / (d : Int) + 1 else x / (d : Int)

/-- x / d as above; a divisor that is not positive leaves the result open. -/
def quotOpen (x d : Int) : Int := if 0 < d then roundOpen x d.toNat else Config.openQuot x d

/-- A natural number as a fraction-free magnitude. -/
def iabs (x : Int) : Int := if x < 0 then -x else x

/-- The Tally's register block accepts writes from the management complex and the debug port (R10). -/
def mgmtIssuer : Issuer → Bool
  | .core _ => true
  | .ixz => true
  | .debug => true
  | .port _ _ _ => false
  | .remote _ _ _ => false

/-- R10, R31: a write to a block from an issuer it does not accept is ignored and counted, else it is done. -/
def State.guarded (s : State) (iss : Issuer) (b : Blk) (i : Nat) (f : State → State) : State :=
  if mgmtIssuer iss then f s else s.viol b i

/-- A step that answers a next state. -/
abbrev ok (s : State) : Out := .next s

/-- Apply `f` for every listed index, in order. -/
def State.each {α : Type} (s : State) (l : List α) (f : State → α → State) : State := l.foldl f s

end Sys2Proof.Machine
end

