-- ==== Sys2Proof/Machine/Operands.lean ====
section
/-! DEFINITION. The configuration latches (R351 to R355), the cell's instruction word (R100 to R104), the sinks of a cluster and their source selects (R128, R355), and the maps between logical and physical clusters (R138, R320, R342). -/

namespace Sys2Proof.Machine

/-- Key of a latch byte: frame kind, element (physical cluster, region, bank or die), index and byte of the frame. -/
def cfgKey (kind elem index byte : Nat) : Nat := 512 * (64 * (1024 * kind + elem) + index) + byte

/-- `n` latch bytes of a frame from byte `b`. -/
def State.cfgBytes (s : State) (kind elem index b n : Nat) : List Byte := Store.getBytes s.cfg (cfgKey kind elem index b) n

/-- A little-endian number of `n` latch bytes. -/
def State.cfgLE (s : State) (kind elem index b n : Nat) : Nat := ofLE (s.cfgBytes kind elem index b n)

/-- Region, physical cluster and number of a cell (R96). -/
def cellG (x : Nat) : Nat := x / 64

/-- R354: byte `b` of cell x's record, and `n` of them as a number. -/
def State.cellLE (s : State) (x b n : Nat) : Nat :=
  s.cfgLE 0 (x / 64) (x % 64 / 4) (x % 4 * 128 + b) n

/-- R73: the cell's enable bit. -/
def State.cellEn (s : State) (x : Nat) : Bool := (s.cellLE x 0x40 1).testBit 0

/-- R100: the fields of an instruction word. -/
structure Slot where
  op : Nat
  sa : Nat
  sb : Nat
  dst : Nat
  ox : Bool
  oy : Bool
  fence : Nat
  pl : Nat
  carry : Bool
  pred : Bool
  last : Bool
  hold : Bool
  imm : BitVec 16
  deriving DecidableEq, Repr

/-- R100: an instruction word read by its fields. -/
def slotOf (w : BitVec 48) : Slot :=
  ⟨fld w 40 8, fld w 36 4, fld w 32 4, fld w 28 4, bit w 27, bit w 26, fld w 23 3, fld w 20 3, bit w 19, bit w 18, bit w 17, bit w 16,
   BitVec.ofNat 16 (fld w 0 16)⟩

/-- The instruction in slot k of cell x. -/
def State.slotAt (s : State) (x k : Nat) : Slot := slotOf (BitVec.ofNat 48 (s.cellLE x (6 * k) 6))

/-- R71, R91: the initial values of W0..W3. -/
def State.initW (s : State) (x k : Nat) : Word := BitVec.ofNat 32 (s.cellLE x (0x30 + 4 * k) 4)

/-- R104: IMM extended, signed or with zeros. -/
def extImm (signed : Bool) (i : BitVec 16) : Word := if signed then i.signExtend 32 else i.setWidth 32

/-- R85: the opcodes that read the carry link. -/
def opReadsLink (op : Nat) : Bool := decide (op = 0x11 ∨ op = 0x13 ∨ op = 0x39)

/-- R85, R107: the step reads the carry link in. -/
def Slot.readsLink (i : Slot) : Bool := opReadsLink i.op || decide (i.sa = 10 ∨ i.sb = 10)

/-- R105: the opcodes the tables list. -/
def opDefined (op : Nat) : Bool :=
  decide (op ≤ 0x05 ∨ (0x10 ≤ op ∧ op ≤ 0x19) ∨ (0x20 ≤ op ∧ op ≤ 0x26) ∨ (0x30 ≤ op ∧ op ≤ 0x3B) ∨
    (0x40 ≤ op ∧ op ≤ 0x43) ∨ (0x50 ≤ op ∧ op ≤ 0x5A) ∨ (0x5C ≤ op ∧ op ≤ 0x5E) ∨ (0x60 ≤ op ∧ op ≤ 0x62))

/-- R128, R354: the sinks of a cluster, numbered: 4n + i input i of cell n; 256..263 block memory REQ and DATA; 264 + 2p and
265 + 2p REQ and DATA of access port p; 272 + 8p + k outbound channel k of port p; 304 the broadcast source. This is the byte of
each one's source select: frame index and offset. -/
def selPlace (k : Nat) : Nat × Nat :=
  if k < 256 then (k / 16, k / 4 % 4 * 128 + 0x41 + k % 4)
  else if k < 304 then (16, k - 256)
  else (16, 0x30)

/-- R355: the source a sink of physical cluster g selects. -/
def State.sel (s : State) (g k : Nat) : Nat := let (i, b) := selPlace k; s.cfgLE 0 g i b 1

/-- The sinks of physical cluster g that select a source code. -/
def State.sinksOf (s : State) (g code : Nat) : List Nat := (List.range 305).filter (fun k => decide (s.sel g k = code))

/-- R131, R133: MODE of a port of physical cluster g. -/
def State.portMode (s : State) (g p : Nat) : Nat := s.cfgLE 0 g 16 (0x3C + p) 1 % 4

/-- R133: CLASS of a port. -/
def State.portClass (s : State) (g p : Nat) : Nat := s.cfgLE 0 g 16 (0x3C + p) 1 / 16 % 4

/-- R175: BLK_CFG of memory m of physical cluster g. -/
def State.blkCfg (s : State) (g m : Nat) : Nat := s.cfgLE 0 g 16 (0x34 + 4 * m) 4 % 4096

/-- R342: the physical cluster (0..16) of logical cluster lc of region r. -/
def State.physOf (s : State) (r lc : Nat) : Nat := s.rf ⟨.tnk, r, 0x18 + 4 * (lc / 4)⟩ (8 * (lc % 4)) 5

/-- Key of the physical cluster of a logical one. -/
def State.gOf (s : State) (r lc : Nat) : Nat := r * 17 + s.physOf r lc

/-- R138: the logical cluster a physical one serves, if any. -/
def State.logicalOf (s : State) (g : Nat) : Option Nat :=
  (List.range 16).find? (fun lc => decide (s.physOf (g / 17) lc = g % 17))

/-- R320: the region runs paired. -/
def State.paired (s : State) (r : Nat) : Bool := s.rb ⟨.tnk, r, 0⟩ 31

/-- R320: the logical number that names a cluster: its pair's even number in a paired region. -/
def State.lead (s : State) (r lc : Nat) : Nat := if s.paired r then lc - lc % 2 else lc

/-- R321, R324: the physical clusters that serve logical number lc: both members of a pair, or the trusted one, or one cluster. -/
def State.members (s : State) (r lc : Nat) : List Nat :=
  if s.paired r then
    match (s.pair (r * 8 + lc / 2)).trusted with
    | some 0 => [s.gOf r (lc - lc % 2)]
    | some _ => [s.gOf r (lc - lc % 2 + 1)]
    | none => [s.gOf r (lc - lc % 2), s.gOf r (lc - lc % 2 + 1)]
  else [s.gOf r lc]

/-- R324: physical cluster g is the retired member of a pair: its legs are dropped. -/
def State.retired (s : State) (g : Nat) : Bool :=
  match s.logicalOf g with
  | some lc => s.paired (g / 17) && (match (s.pair (g / 17 * 8 + lc / 2)).trusted with
    | some m => m != lc % 2
    | none => false)
  | none => false

/-- R442, R454: a domain's state: 0 Lit, 1 Banked, 2 Cold. A state the debugger emulates acts as the requested one (R478). -/
def State.dom (s : State) (n : Nat) : Nat := s.rf ⟨.lmp, 0, 0x1000 + 4 * n⟩ 30 2

/-- Physical cluster g is Lit. -/
def State.cluLit (s : State) (g : Nat) : Bool := decide (s.dom g = 0)

/-- R92, R442: a change of domain n away from Lit has been accepted and is under way. -/
def State.domLeaves (s : State) (n : Nat) : Bool := match (s.domSt n).target with | some t => t != 0 | none => false

/-- R92, R93, R147, R324, R475: the cells of physical cluster g are held: from the moment a change to Banked or Cold is accepted, too. -/
def State.cluHeld (s : State) (g : Nat) : Bool :=
  let r := s.region (g / 17)
  !s.cluLit g || s.domLeaves g || r.held || r.reset || r.frozen || (s.clu g).hold || (s.clu g).reset

/-- R62: a phase line as a region sees it now: PHASE, or none while VALID = 0. -/
def State.phaseOf (s : State) (r l : Nat) : Option Word :=
  match (s.spineOf r).lines[l]? with
  | some f => if f.valid then some (f.ph.extractLsb' 8 32) else none
  | none => none

/-- CHV_SYSID's package number (R297). -/
def State.ownPkg (s : State) : Nat := s.rf ⟨.chv, 0, 0x900⟩ 0 12

end Sys2Proof.Machine
end

