-- ==== Sys2Proof/Machine/Flags.lean ====
section
/-! DEFINITION. What each cell opcode computes (R109 to R115) with its carry, link word and predicate, and the rules of P and F (R81 to R83, R106). -/

namespace Sys2Proof.Machine

/-- What an opcode computes from: operands a and b with their P and F, the IMM field, the carry link in, and CP. -/
structure ExecIn where
  a : Word
  b : Word
  pa : Bool := false
  fa : Bool := false
  i : BitVec 16 := 0
  cin : Bool := false
  win : Word := 0
  cp : Bool := false
  deriving DecidableEq, Repr

/-- What an opcode gives: the result, OY's word where it is another one, the carry-out and link word, CP's new value if it writes
it, the operand a selection took (true: b), and whether it is a sideband test or a NOP. -/
structure ExecRes where
  r : Word
  oy : Option Word := none
  c : Bool := false
  lw : Word := 0
  cp : Option Bool := none
  took : Option Bool := none
  clean : Bool := false
  mute : Bool := false
  deriving DecidableEq, Repr

/-- R107: a result whose link word is itself and whose carry-out is 0. -/
def plain (r : Word) : ExecRes := { r := r, lw := r }

/-- R108: a predicate opcode's result. -/
def verdict (b : Bool) : ExecRes := let r : Word := if b then 1 else 0
  { r := r, lw := r, cp := some b }

/-- The sum x + y + c with its carry out of bit 31. -/
def sumC (x y : Word) (c : Bool) : Word × Bool :=
  let n := x.toNat + y.toNat + b2n c
  (BitVec.ofNat 32 n, decide (2 ^ 32 ≤ n))

/-- A signed 32-bit value limited to a range. -/
def limit (x lo hi : Int) : Word := BitVec.ofInt 32 (if x < lo then lo else if hi < x then hi else x)

/-- R111: n of SATS and SATU: b[5:0], with 0 and values above 32 acting as 32. -/
def satN (b : Word) : Nat := let n := fld b 0 6; if n = 0 ∨ 32 < n then 32 else n

def aluNop (_ : ExecIn) : ExecRes := { r := 0, mute := true }
def aluMov (x : ExecIn) : ExecRes := plain x.a
def aluMovh (x : ExecIn) : ExecRes := plain ((x.i.setWidth 32 <<< 16) ||| (x.a &&& 0xFFFF))
def aluSel (x : ExecIn) : ExecRes := { plain (if x.cp then x.b else x.a) with took := some x.cp }
def aluPtst (x : ExecIn) : ExecRes := { verdict x.pa with clean := true }
def aluFtst (x : ExecIn) : ExecRes := { verdict x.fa with clean := true }
def aluAdd (x : ExecIn) : ExecRes := let (r, c) := sumC x.a x.b false; { r := r, lw := r, c := c }
def aluAdc (x : ExecIn) : ExecRes := let (r, c) := sumC x.a x.b x.cin; { r := r, lw := r, c := c, cp := some c }
def aluSub (x : ExecIn) : ExecRes := let (r, c) := sumC x.a (~~~x.b) true; { r := r, lw := r, c := c }
def aluSbc (x : ExecIn) : ExecRes := let (r, c) := sumC x.a (~~~x.b) x.cin; { r := r, lw := r, c := c, cp := some c }
def aluNeg (x : ExecIn) : ExecRes := plain (0 - x.a)
def aluAbs (x : ExecIn) : ExecRes :=
  plain (if x.a = 0x80000000#32 then 0x7FFFFFFF#32 else if bit x.a 31 then 0 - x.a else x.a)
def aluAdds (x : ExecIn) : ExecRes := plain (satS32 (x.a.toInt + x.b.toInt))
def aluSubs (x : ExecIn) : ExecRes := plain (satS32 (x.a.toInt - x.b.toInt))
def aluAddu (x : ExecIn) : ExecRes := plain (BitVec.ofNat 32 (satAdd 0xFFFFFFFF x.a.toNat x.b.toNat))
def aluSubu (x : ExecIn) : ExecRes := plain (BitVec.ofNat 32 (x.a.toNat - x.b.toNat))
def aluMin (x : ExecIn) : ExecRes := plain (if x.a.toInt ≤ x.b.toInt then x.a else x.b)
def aluMax (x : ExecIn) : ExecRes := plain (if x.a.toInt ≤ x.b.toInt then x.b else x.a)
def aluMinu (x : ExecIn) : ExecRes := plain (if x.a.toNat ≤ x.b.toNat then x.a else x.b)
def aluMaxu (x : ExecIn) : ExecRes := plain (if x.a.toNat ≤ x.b.toNat then x.b else x.a)
def aluSats (x : ExecIn) : ExecRes := plain (limit x.a.toInt (-(2 ^ (satN x.b - 1))) (2 ^ (satN x.b - 1) - 1))
def aluSatu (x : ExecIn) : ExecRes := plain (limit x.a.toInt 0 (2 ^ satN x.b - 1))
def aluClamp (x : ExecIn) : ExecRes :=
  let l : Int := if x.b = 0x80000000#32 then 0x7FFFFFFF else iabs x.b.toInt
  plain (limit x.a.toInt (-l) l)
def aluAnd (x : ExecIn) : ExecRes := plain (x.a &&& x.b)
def aluOr (x : ExecIn) : ExecRes := plain (x.a ||| x.b)
def aluXor (x : ExecIn) : ExecRes := plain (x.a ^^^ x.b)
def aluAndn (x : ExecIn) : ExecRes := plain (x.a &&& ~~~x.b)
/-- R112: the bits a left shift moves out, the link word of SHL and SHLC. -/
def shiftedOut (a : Word) (n : Nat) : Word := if n = 0 then 0 else a >>> (32 - n)
def aluShl (x : ExecIn) : ExecRes := let n := fld x.b 0 5; { r := x.a <<< n, lw := shiftedOut x.a n }
def aluShr (x : ExecIn) : ExecRes := plain (x.a >>> fld x.b 0 5)
def aluSar (x : ExecIn) : ExecRes := plain (x.a.sshiftRight (fld x.b 0 5))
def aluRol (x : ExecIn) : ExecRes := plain (x.a.rotateLeft (fld x.b 0 5))
def aluRor (x : ExecIn) : ExecRes := plain (x.a.rotateRight (fld x.b 0 5))
def aluShlc (x : ExecIn) : ExecRes := let n := fld x.b 0 5; { r := (x.a <<< n) ||| x.win, lw := shiftedOut x.a n }
def aluFshr (x : ExecIn) : ExecRes := plain (((x.b ++ x.a) >>> fld x.i 0 5).setWidth 32)
def aluClz (x : ExecIn) : ExecRes := plain (BitVec.ofNat 32 (if x.a = 0 then 32 else 31 - x.a.toNat.log2))
def aluMul (x : ExecIn) : ExecRes := plain (x.a * x.b)
def aluMulh (x : ExecIn) : ExecRes := plain (BitVec.ofInt 32 (x.a.toInt * x.b.toInt / 2 ^ 32))
def aluMulhu (x : ExecIn) : ExecRes := plain (BitVec.ofNat 32 (x.a.toNat * x.b.toNat / 2 ^ 32))
/-- R113: MULSH. The rounding bit is added to the exact product; the manual does not say what an addition that leaves 64 bits does (log entry 148). -/
def aluMulsh (x : ExecIn) : ExecRes :=
  let k := fld x.i 0 6
  let p := x.a.toInt * x.b.toInt + (if bit x.i 6 && decide (0 < k) then 2 ^ (k - 1) else 0)
  plain (satS32 (p / 2 ^ k))
def aluCeq (x : ExecIn) : ExecRes := verdict (decide (x.a = x.b))
def aluCne (x : ExecIn) : ExecRes := verdict (decide (x.a ≠ x.b))
def aluClt (x : ExecIn) : ExecRes := verdict (decide (x.a.toInt < x.b.toInt))
def aluCle (x : ExecIn) : ExecRes := verdict (decide (x.a.toInt ≤ x.b.toInt))
def aluCgt (x : ExecIn) : ExecRes := verdict (decide (x.b.toInt < x.a.toInt))
def aluCge (x : ExecIn) : ExecRes := verdict (decide (x.b.toInt ≤ x.a.toInt))
def aluCltu (x : ExecIn) : ExecRes := verdict (decide (x.a.toNat < x.b.toNat))
def aluCleu (x : ExecIn) : ExecRes := verdict (decide (x.a.toNat ≤ x.b.toNat))
def aluCgtu (x : ExecIn) : ExecRes := verdict (decide (x.b.toNat < x.a.toNat))
def aluCgeu (x : ExecIn) : ExecRes := verdict (decide (x.b.toNat ≤ x.a.toNat))
def aluTst (x : ExecIn) : ExecRes := verdict (decide (x.a &&& x.b ≠ 0))
def aluPlt (x : ExecIn) : ExecRes := verdict (phaseEarlier x.a x.b)
def aluPge (x : ExecIn) : ExecRes := verdict (decide (x.a = x.b) || phaseLater x.a x.b)
def aluPwin (x : ExecIn) : ExecRes := verdict (decide ((x.a - x.b).toNat < x.i.toNat))
/-- R116: the access word RD and WR form. -/
def accessWord (op : Nat) (i : BitVec 16) (a : Word) : Word :=
  BitVec.ofNat 32 (op * 2 ^ 30 + fld i 5 1 * 2 ^ 29 + fld i 0 5 * 2 ^ 24 + fld a 0 24)
def aluRd (x : ExecIn) : ExecRes := plain (accessWord 0 x.i x.a)
def aluWr (x : ExecIn) : ExecRes := { plain (accessWord 1 x.i x.a) with oy := some x.b }
def aluMark (x : ExecIn) : ExecRes := { plain x.a with oy := some (x.i.setWidth 32) }

/-- An operand as its source delivers it (R80): data, P, F. -/
structure Opnd where
  d : Word := 0
  p : Bool := false
  f : Bool := false
  deriving DecidableEq, Repr

/-- A token as an operand. -/
def opndOf (t : Tok) : Opnd := ⟨t.d, t.p, t.f⟩

/-- The token in operand slot k. -/
def Cell.port (c : Cell) (k : Nat) : Option Tok :=
  match k with
  | 0 => c.s0
  | 1 => c.s1
  | 2 => c.s2
  | _ => c.s3

/-- Operand slot k replaced. -/
def Cell.setPort (c : Cell) (k : Nat) (t : Option Tok) : Cell :=
  match k with
  | 0 => { c with s0 := t }
  | 1 => { c with s1 := t }
  | 2 => { c with s2 := t }
  | _ => { c with s3 := t }

/-- Register Wk. -/
def Cell.wreg (c : Cell) (k : Nat) : Word :=
  match k with
  | 0 => c.w0
  | 1 => c.w1
  | 2 => c.w2
  | _ => c.w3

/-- R82: Wk with its P bit written. -/
def Cell.setW (c : Cell) (k : Nat) (v : Word) (p : Bool) : Cell :=
  let c := { c with wp := setBit c.wp k p }
  match k with
  | 0 => { c with w0 := v }
  | 1 => { c with w1 := v }
  | 2 => { c with w2 := v }
  | _ => { c with w3 := v }

/-- R85: the carry link in of cell x: column 0 always holds C = 0, a zero word and P = 0. -/
def State.linkIn (s : State) (x : Nat) : Option Link := if x % 8 = 0 then some {} else (s.cell (x - 1)).link

/-- R80: the operand a source code delivers. `signed` is how IMM is extended. -/
def State.opnd (s : State) (x : Nat) (i : Slot) (signed : Bool) (code : Nat) : Opnd :=
  let c := s.cell x
  match code with
  | 0 => opndOf (c.s0.getD {})
  | 1 => opndOf (c.s1.getD {})
  | 2 => opndOf (c.s2.getD {})
  | 3 => opndOf (c.s3.getD {})
  | 4 => ⟨c.w0, bit c.wp 0, false⟩
  | 5 => ⟨c.w1, bit c.wp 1, false⟩
  | 6 => ⟨c.w2, bit c.wp 2, false⟩
  | 7 => ⟨c.w3, bit c.wp 3, false⟩
  | 8 => ⟨extImm signed i.imm, false, false⟩
  | 9 => match s.phaseOf (x / 1088) i.pl with
    | some p => ⟨p, false, false⟩
    | none => ⟨0, true, false⟩
  | 10 => let l := (s.linkIn x).getD {}
    ⟨l.w, l.p, false⟩
  | 12 => ⟨c.steps, false, false⟩
  | _ => {}

/-- R81, R106: the P bit of a result; that of a selection is the P of the selected operand or CPP, and nothing else counts. -/
def resultP (i : Slot) (e : ExecRes) (pa pb link cpp : Bool) : Bool :=
  if e.clean then false
  else match e.took with
    | some true => pb || cpp
    | some false => pa || cpp
    | none => pa || pb || link || (i.pred && cpp)

end Sys2Proof.Machine
end

