-- ==== Sys2Proof/Machine/Pads.lean ====
section
/-! DEFINITION. Pads (R249 to R264): banks and pairs, serial groups' places, what a pin cell does with its pad, and changes of owner. A pad's key is its package pin number; its bank is the number div 32. -/

namespace Sys2Proof.Machine

/-- A bank's registers. -/
def bankReg (b off : Nat) : Reg := ⟨.pinBank, b, off⟩

/-- The region of a package pin (R221). -/
def pinRegion (p : Nat) : Nat := p / 24

/-- R266: the 16 bits of group g's settings: EN [15], DIR [14], WIDTH [13:12], RATE [11:6]. Groups are numbered bank * 2 + g. -/
def State.serCfg (s : State) (n : Nat) : Nat := s.rf (bankReg (n / 2) 0xC) (16 * (n % 2)) 16

/-- R256: the number of data pairs of a group. -/
def State.serWidth (s : State) (n : Nat) : Nat :=
  match s.serCfg n / 4096 % 4 with
  | 0 => 1
  | 1 => 2
  | _ => 4

/-- The first package pin of a group. -/
def groupPin (n : Nat) : Nat := n * 16

/-- R257: the region that holds a group. -/
def groupRegion (n : Nat) : Nat := pinRegion (groupPin n)

/-- R256: an enabled group's pairs lie in two regions. -/
def State.groupSplit (s : State) (n : Nat) : Bool :=
  (s.serCfg n).testBit 15 && decide (pinRegion (groupPin n + 2 * s.serWidth n + 1) ≠ groupRegion n)

/-- R256: a group is enabled. -/
def State.groupOn (s : State) (n : Nat) : Bool := (s.serCfg n).testBit 15 && !s.groupSplit n

/-- R255, R266: MODE of the pair a package pin belongs to. -/
def State.pairMode (s : State) (p : Nat) : Nat := s.rf (bankReg (p / 32) 4) (p % 32 / 2 * 2) 2

/-- R255, R256: how the pair of package pin p acts: 0 SE, 1 DIFF, 2 SER. MODE 0b11, the pairs of a split group, and those of an enabled group
beyond its clock and data act as SE. -/
def State.pairKind (s : State) (p : Nat) : Nat :=
  let n := p / 16
  match s.pairMode p with
  | 1 => 1
  | 2 => if s.groupSplit n || (s.groupOn n && decide (2 * s.serWidth n + 2 ≤ p % 16)) then 0 else 2
  | _ => 0

/-- R256: package pin p carries the clock or data of an enabled group. -/
def State.inGroup (s : State) (p : Nat) : Bool := s.groupOn (p / 16) && s.pairKind p == 2

/-- R222, R255: what pin cell p does: a reserved FUNC, the complement of a DIFF pair and a SER pair act as Off. -/
def State.pinFunc (s : State) (p : Nat) : Nat :=
  let f := s.rf ⟨.pin, p, 0⟩ 29 3
  if 4 < f then 0
  else if s.pairKind p = 1 ∧ p % 2 = 1 then 0
  else if s.pairKind p = 2 then 0
  else f

/-- R469: a boundary-scan instruction has every pad with cells: EXTEST, HIGHZ or CLAMP. -/
def State.scanned (s : State) : Bool := s.tapIr == 0 || s.tapIr == 3 || s.tapIr == 4

/-- R250, R251, R469: the bank's drivers work: it is Lit, no supply fault holds them off, and no boundary scan has the pads. -/
def State.driversOn (s : State) (p : Nat) : Bool :=
  s.dom (672 + p / 32) == 0 && !s.rb (bankReg (p / 32) 0x1C) 31 && !s.scanned

/-- R255: package pin p transmits as a pair in a bank below 2.5 V, where it drives nothing. -/
def State.lowPair (s : State) (p : Nat) : Bool := decide (s.pairKind p ≠ 0) && decide (s.rf (bankReg (p / 32) 0) 8 3 < 3)

/-- R251 to R255: the pad of package pin p follows the pin cell's driver: the cell owns it, the drivers work, and it is no LVDS transmitter
below 2.5 V. -/
def State.padFollows (s : State) (p : Nat) : Bool :=
  let d := s.padOf p
  decide (d.owner = .cell ∧ d.coming = none) && s.driversOn p && !s.lowPair p

/-- R254: the level a driver set to `d` gives; an open-drain pin does not drive a high. -/
def State.drivenLevel (s : State) (p : Nat) (d : Drive) : Option Bool :=
  match d with
  | .low => some false
  | .high => if s.rb (bankReg (p / 32) 0x10) (p % 32) then none else some true
  | .float => none
  | .keep => none

/-- R255: the cell that drives pad p: of a DIFF pair the true pin's. -/
def State.driverCell (s : State) (p : Nat) : Nat := if s.pairKind p = 1 then p - p % 2 else p

/-- R253 to R255: the level the pin cells drive onto pad p, if they do: the complement of a DIFF pair takes the other level. -/
def State.cellDrives (s : State) (p : Nat) : Option Bool :=
  let q := s.driverCell p
  if s.padFollows p then (s.drivenLevel q (s.pin q).drv).map (fun l => l != decide (q ≠ p)) else none

/-- R253, R261, R348: the bias of pad p when no function drives it: 1 pull-up, 2 pull-down, else none that acts; in the configuration park
state the image's CPARK may name another than the strap's. -/
def State.pullOf (s : State) (p : Nat) : Nat :=
  let strap := s.rf (bankReg (p / 32) (if p % 32 < 16 then 0x14 else 0x18)) (p % 16 * 2) 2
  if (s.padOf p).owner = .park then
    match s.cpark p with
    | 1 => 2
    | 2 => 1
    | 3 => 3
    | _ => strap
  else strap

/-- R253, R255: the level of pad p when no function drives it: what the outside drives; else, at a Lit bank, the pull, or 1 at the receiver of a
terminated pair; else the level it had. -/
def State.restLevel (s : State) (p : Nat) : Bool :=
  match (s.pin p).ext with
  | some l => l
  | none =>
    if s.dom (672 + p / 32) ≠ 0 then (s.pin p).pad
    else if s.pairKind p ≠ 0 ∧ p % 2 = 0 ∧ s.rb (bankReg (p / 32) 8) (p % 32 / 2) then true
    else match s.pullOf p with
      | 1 => true
      | 2 => false
      | _ => (s.pin p).pad

/-- R253, R264: the pad of package pin p takes the level it is driven to, or rests at; during a change of owner, or with the boundary register in
charge, it stays. -/
def State.padFollow (s : State) (p : Nat) : State :=
  if (s.padOf p).coming.isSome || s.scanned then s
  else s.setPin p { s.pin p with pad := (s.cellDrives p).getD (s.restLevel p) }

/-- The pads of a list of pins, as something they depend on has changed. -/
def State.padsFollow (s : State) (l : List Nat) : State := s.each l State.padFollow

/-- Pin cell p drives d; `parked` says that this is the park value. -/
def State.drivePin (s : State) (p : Nat) (d : Drive) (parked : Bool) : State :=
  let c := s.pin p
  let s1 := (s.setPin p { c with drv := d, parked := parked,
                                 lvl := match d with | .low => false | .high => true | _ => c.lvl }).padFollow p
  if s1.pairKind p = 1 ∧ p % 2 = 0 then s1.padFollow (p + 1) else s1

/-- R232: the edge of pin p stands at grid position `pos`, or 1.0 ns after the previous edge; a mark or flow edge that is moved so sets CROWD. -/
def State.edgeAt (s : State) (p pos : Nat) (mark : Bool) : State :=
  let c := s.pin p
  let lim := match c.edge with | some e => e + 4 | none => 0
  let s1 := s.setPin p { c with edge := some (max pos lim) }
  if mark && decide (pos < lim) then s1.sticky ⟨.pin, p, 8⟩ 27 else s1

/-- R215, R232, R508: pin cell p drives d at the next placement opportunity, whose grid step is open (log entry 165). -/
def State.driveSoon (s : State) (p : Nat) (d : Drive) (parked mark : Bool) : State :=
  if (s.pin p).drv = d then s.drivePin p d parked
  else ((s.edgeAt p ((s.spineOf (pinRegion p)).interval * 20 + s.freeNow.toNat % 20) mark).bumpFree).drivePin p d parked

/-- The park value of a pin cell, PIN_CFG.PARK (R248). -/
def State.parkOf (s : State) (p : Nat) : Drive :=
  match s.rf ⟨.pin, p, 0⟩ 24 2 with
  | 0 => .low
  | 1 => .high
  | 2 => .float
  | _ => .keep

/-- A pin cell drives its PARK value and its armed marks are discarded (R243 to R245). -/
def State.parkPin (s : State) (p : Nat) : State :=
  (s.setPin p { s.pin p with q := [] }).driveSoon p (s.parkOf p) true false

end Sys2Proof.Machine
end

