-- ==== Sys2Proof/Machine/Plane.lean ====
section
/-! DEFINITION. The access plane's ways (R135, R136, R139, R140): switches and links, the path between two places, and where an access starts and ends. -/

namespace Sys2Proof.Machine

/-- Where traffic starts or ends: a switch of a region's mesh, a region's switch of the die mesh, or the base die beyond a die's base seam. -/
inductive PNode where
  | sw (r a : Nat)
  | die (r : Nat)
  | base (d : Nat)
  deriving DecidableEq, Repr

/-- R135, R136: the links from switch `a` to switch `b` of region r's mesh, along the row first. -/
def meshPath (r b : Nat) : Nat → Nat → List PlaneLink
  | 0, _ => []
  | k + 1, a =>
    if a = b then []
    else
      let n := if a % 5 < b % 5 then a + 1 else if b % 5 < a % 5 then a - 1 else if a < b then a + 5 else a - 5
      .mesh r a n :: meshPath r b k n

/-- R139: the links from region `a` to region `b` (0..7) of die d's mesh, along the row first. -/
def diePath (d b : Nat) : Nat → Nat → List PlaneLink
  | 0, _ => []
  | k + 1, a =>
    if a = b then []
    else
      let n := if a % 4 < b % 4 then a + 1 else if b % 4 < a % 4 then a - 1 else if a < b then a + 4 else a - 4
      .die d a n :: diePath d b k n

/-- R139, R140: the links between the die-mesh switches of regions a and b (0..31). -/
def ringPath (a b : Nat) : List PlaneLink :=
  let da := a / 8
  let db := b / 8
  let m := (da + 1) % 4
  if da = db then diePath da (b % 8) 4 (a % 8)
  else if db = m then diePath da 3 4 (a % 8) ++ .seam da db :: diePath db (b % 8) 4 4
  else if da = (db + 1) % 4 then diePath da 4 4 (a % 8) ++ .seam da db :: diePath db (b % 8) 4 3
  else diePath da 3 4 (a % 8) ++ .seam da m :: diePath m 3 4 4 ++ .seam m db :: diePath db (b % 8) 4 4

/-- R136, R139, R140: the links from one place to another. The base seam of die d stands at region 0. -/
def planePath (x y : PNode) : List PlaneLink :=
  let up (r a : Nat) : List PlaneLink := meshPath r 19 8 a ++ [.out r]
  let down (r a : Nat) : List PlaneLink := .into r :: meshPath r a 8 19
  match x, y with
  | .sw r a, .sw q b => if r = q then meshPath r b 8 a else up r a ++ ringPath r q ++ down q b
  | .sw r a, .die q => up r a ++ ringPath r q
  | .sw r a, .base d => up r a ++ ringPath r (8 * d) ++ [.toBase d]
  | .die r, .sw q b => ringPath r q ++ down q b
  | .die r, .die q => ringPath r q
  | .die r, .base d => ringPath r (8 * d) ++ [.toBase d]
  | .base d, .sw q b => .fromBase d :: ringPath (8 * d) q ++ down q b
  | .base d, .die q => .fromBase d :: ringPath (8 * d) q
  | .base _, .base _ => []

/-- The regions that own a link's stages (R140, R150): a seam has a transmit and a receive stage (R16). -/
def linkRegions : PlaneLink → List Nat
  | .mesh r _ _ => [r]
  | .out r => [r]
  | .into r => [r]
  | .die d _ b => [8 * d + b]
  | .seam d e => if e = (d + 1) % 4 then [8 * d + 3, 8 * e + 4] else [8 * d + 4, 8 * e + 3]
  | .toBase d => [8 * d, 8 * d]
  | .fromBase d => [8 * d, 8 * d]

/-- The number of a link. -/
def linkKey : PlaneLink → Nat
  | .mesh r a b => 400 * r + 20 * a + b
  | .out r => 12800 + r
  | .into r => 12832 + r
  | .die d a b => 12864 + 64 * d + 8 * a + b
  | .seam d e => 13120 + 4 * d + e
  | .toBase d => 13136 + d
  | .fromBase d => 13140 + d

/-- R139, R445: the dies whose mesh a link lies in. -/
def linkDies : PlaneLink → List Nat
  | .mesh r _ _ => [r / 8]
  | .out r => [r / 8]
  | .into r => [r / 8]
  | .die d _ _ => [d]
  | .seam d e => [d, e]
  | .toBase d => [d]
  | .fromBase d => [d]

/-- The region an address of the core view lies in. -/
def addrRegion (a : Nat) : Nat := (a - 0x100000000) / 0x10000000 * 8 + a % 0x10000000 / 0x1000000

/-- R135: where an access to an address of the core view is performed: at a region's scratch gate, at its register gate, or, outside the fabric,
nowhere on the plane. -/
def targetNode (a : Nat) : Option PNode :=
  match placeOf a with
  | .scratch b _ _ => some (.sw (b / 4) 17)
  | _ => if 0x100000000 ≤ a ∧ a < 0x140000000 then some (.sw (addrRegion a) 18) else none

/-- R133, R138, R140: where an access starts, and its answer ends: at the switch of the port's cluster, or on the base die, at the base seam of
the die that holds the target. -/
def State.issuerNode (s : State) (f : Flight) : PNode :=
  match f.iss with
  | .port r lc _ => .sw r (nth (s.physOf r lc) ((s.members r (s.lead r lc)).map (· % 17)) 0)
  | _ => .base (addrRegion f.addr / 8)

/-- Where an access goes: to its target, or to the base seam of its own die for another package (R140). -/
def State.flightEnd (s : State) (f : Flight) : PNode :=
  match f.pkg, f.iss with
  | none, _ => (targetNode f.addr).getD (s.issuerNode f)
  | some _, .port r _ _ => .base (r / 8)
  | some _, _ => s.issuerNode f

end Sys2Proof.Machine
end

