-- ==== Sys2Proof/Machine/Faults.lean ====
section
/-! DEFINITION. What the Tinker records and does about faults (R27, R317 to R335, R507), accesses in flight and their answers, lock breaks (R193, R194), and closing a region's gate (R147, R217, R245, R332). -/

namespace Sys2Proof.Machine

/-- TNK_HEALTH, TNK_EVENT, TNK_ERR of a region. -/
def tnkHealth (r : Nat) : Reg := ⟨.tnk, r, 4⟩
def tnkEvent (r : Nat) : Reg := ⟨.tnk, r, 0xC⟩
def tnkErr (r : Nat) : Reg := ⟨.tnk, r, 0x10⟩
def tnkPois (r : Nat) : Reg := ⟨.tnk, r, 0x2C⟩
def tnkAlarm : Reg := ⟨.tnkBase, 0, 0x80⟩
def tnkPalarm : Reg := ⟨.tnkBase, 0, 0x8C⟩

/-- The sources of a poison alarm (R507). -/
inductive PoisonSrc where
  | pin | blk | scr | hopReg
  deriving DecidableEq, Repr

/-- The low bit of a poison source's counter in TNK_POIS. -/
def PoisonSrc.lo : PoisonSrc → Nat
  | .pin => 24
  | .blk => 16
  | .scr => 8
  | .hopReg => 0

/-- R507: a poison alarm in region r: counted, sticky in TNK_HEALTH, raised in TNK_PALARM. -/
def State.poison (s : State) (r : Nat) (src : PoisonSrc) : State :=
  ((s.count (tnkPois r) src.lo 8 1).sticky (tnkHealth r) 22).sticky tnkPalarm r

/-- R27: a transient error of region r. -/
def State.transient (s : State) (r : Nat) : State := s.count (tnkErr r) 16 16 1

/-- R342: TNK_EVENT after a lasting fault, TNK_ERR.LASTING counted, and the alarm of the region (R343). -/
def State.lasting (s : State) (r src phys cell outcome : Nat) : State :=
  ((s.rput (tnkEvent r) (put 28 src + put 23 phys + put 17 cell + put 0 outcome)).count (tnkErr r) 8 8 1).sticky tnkAlarm r

/-- R342, R374: a lasting fault noted with its outcome: counted when it is reported, and not again where the Tinker acts on it later. -/
def State.noteFault (s : State) (first : Bool) (r src phys cell outcome : Nat) : State :=
  if first then s.lasting r src phys cell outcome
  else s.rput (tnkEvent r) (put 28 src + put 23 phys + put 17 cell + put 0 outcome)

/-- R318: a shared fault: reported only. -/
def State.sharedFault (s : State) (r src : Nat) : State := s.lasting r src 31 0 3

/-- TNK_HEALTH.STATE: 0 Celadon, 1 Amber, 2 Ash. -/
def State.health (s : State) (r : Nat) : Nat := s.rf (tnkHealth r) 30 2

/-- TNK_HEALTH.SPARE: 0 FREE, 1 SYNC, 2 INUSE, 3 VOTE, 4 FAILED. -/
def State.spareSt (s : State) (r : Nat) : Nat := s.rf (tnkHealth r) 27 3

/-- TNK_HEALTH.SPAREPHY. -/
def State.sparePhy (s : State) (r : Nat) : Nat := s.rf (tnkHealth r) 0 5

/-- The access in flight with a number. -/
def State.flight (s : State) (id : Nat) : Option Flight := s.flights.find? (fun f => f.id == id)

/-- An access in flight changed. -/
def State.mapFlight (s : State) (id : Nat) (f : Flight → Flight) : State :=
  { s with flights := s.flights.map (fun x => if x.id == id then f x else x) }

/-- An access's answer, which starts back from `n` (R136, R157). -/
def State.answerFrom (s : State) (id : Nat) (a : Answer) (n : PNode) : State :=
  s.mapFlight id (fun f => { f with ans := some a, path := planePath n (s.issuerNode f), here := none })

/-- An access's answer: its reply token, its completion or its refusal (R157), which starts back from its target. -/
def State.answer (s : State) (id : Nat) (a : Answer) : State :=
  s.mapFlight id (fun f => { f with ans := some a, path := planePath (s.flightEnd f) (s.issuerNode f), here := none })

/-- An access taken out of flight. -/
def State.dropFlight (s : State) (id : Nat) : State := { s with flights := s.flights.filter (fun f => f.id != id) }

/-- R31, R32: the answer of a forbidden access: a zero token, or an acknowledgement. -/
def zeroAnswer (k : AKind) : Answer := match k with | .read => .word {} | .write => .done

/-- R118: the answer of a refused poisoned access. -/
def poisonAnswer (k : AKind) : Answer := match k with | .read => .word { p := true } | .write => .done

/-- A new access sets out from its issuer (R136). -/
def State.launch (s : State) (f : Flight) : State :=
  { s with flights := s.flights ++ [{ f with id := s.nextId, path := planePath (s.issuerNode f) (s.flightEnd f) }], nextId := s.nextId + 1 }

/-- Registers of a scratch bank. -/
def sb (b off : Nat) : Reg := ⟨.sbank, b, off⟩

/-- The lock of bank b is free (R192). -/
def State.freeLock (s : State) (b : Nat) : State :=
  (s.setBank b { s.bank b with lock := none }).rsetb (sb b 0x20) 31 false

/-- R194: a held lock of bank b is broken. -/
def State.breakLock (s : State) (b : Nat) : State :=
  match (s.bank b).lock with
  | none => s
  | some _ =>
    let s1 := ((s.freeLock b).sticky (sb b 0x20) 30).count (sb b 0x28) 8 8 1
    s1.setBank b { s1.bank b with broke := true }

/-- R193: every lock whose holder the test names is broken. -/
def State.breakLocks (s : State) (p : Issuer → Bool) : State :=
  s.each (List.range 128) (fun s b => match (s.bank b).lock with | some i => if p i then s.breakLock b else s | none => s)

/-- The holder is a port of region r of this package. -/
def portOfRegion (r : Nat) : Issuer → Bool
  | .port r' _ _ => r' == r
  | _ => false

/-- The holder is a port of a logical cluster. -/
def portOfCluster (r lc : Nat) : Issuer → Bool
  | .port r' c _ => r' == r && c == lc
  | _ => false

/-- R217: hopper h answers the pops it holds with a zero token with P = 1; pushes that wait for space are dropped. Each is refused
with QUARANTINED. -/
def State.hopRefuse (s : State) (h : Nat) : State :=
  let s1 := s.each (s.hop h).pops (fun s id => s.answer id .quarantined)
  s1.setHop h { s1.hop h with pops := [] }

/-- R262: a serial group stops: what it received and its alignment go. -/
def State.groupStop (s : State) (n : Nat) : State := (s.setGroup n {}).rsetb (bankReg (n / 2) 0x1C) (n % 2) false

/-- R147, R193, R217, R247: region r's gate closes: new traffic is refused, accepted traffic drains, the locks its clusters hold
break, its hoppers refuse what would wait, armed marks and waiting captures are discarded, its serial groups stop (R262). -/
def State.closeGate (s : State) (r : Nat) : State :=
  let s1 := s.setRegion r { s.region r with gate := true, drain := true, out := false }
  let s2 := s1.breakLocks (portOfRegion r)
  let s3 := s2.each (List.range 8) (fun s h => s.hopRefuse (r * 8 + h))
  let s4 := s3.each (List.range 24) (fun s p => s.setPin (r * 24 + p) { s.pin (r * 24 + p) with q := [], caps := [] })
  s4.each ((List.range 48).filter (fun n => decide (groupRegion n = r))) State.groupStop

/-- R331: TNK_HEALTH.STATE set. -/
def State.setHealth (s : State) (r h : Nat) : State := s.rsetf (tnkHealth r) 30 2 h

/-- TNK_HEALTH.SPARE set. -/
def State.setSpare (s : State) (r x : Nat) : State := s.rsetf (tnkHealth r) 27 3 x

/-- R332: region r enters Ash: its pins drive PARK, its gate closes, a recovery stops, and the alarm is raised. -/
def State.enterAsh (s : State) (r : Nat) : State :=
  let s1 := (s.setHealth r 2).closeGate r
  let s2 := s1.each (List.range 24) (fun s p => s.parkPin (r * 24 + p))
  let s3 := s2.each (List.range 8) (fun s j =>
    s.setPair (r * 8 + j) { s.pair (r * 8 + j) with mism := none, offered := none, vote := false, frames := false, copied := false })
  ({ s3 with spareQ := s3.spareQ.filter (· != r) }.setSwap r none).sticky tnkAlarm r

/-- R324: the tokens that wait at the compare stages of physical cluster g are dropped from them; their sources are acknowledged by the mesh. -/
def State.dropLegs (s : State) (g : Nat) : State := { s with twins := s.twins.filter (fun e => e.1 / 305 != g) }

/-- R509: region r is under load. -/
def State.underLoad (s : State) (r : Nat) : Bool :=
  match s.load with
  | some l => match l.part with
    | some r' => r' == r
    | none => true
  | none => false

/-- R324, R331, R333: the member g of pair j of region r (0 A, 1 B) is retired: held, its legs dropped; the pair runs single on
the other; Amber, SPARE SYNC. -/
def State.retire (s : State) (first : Bool) (r j member src cell : Nat) : State :=
  let g := s.gOf r (2 * j + member)
  let s1 := s.noteFault first r src (g % 17) cell 0
  let s2 := (s1.setClu g { s1.clu g with hold := true }).dropLegs g
  let s3 := s2.setPair (r * 8 + j) { s2.pair (r * 8 + j) with trusted := some (1 - member), mism := none, offered := none, vote := false }
  let other := s3.gOf r (2 * j + (1 - member))
  let s4 := s3.setClu other { s3.clu other with hold := false }
  let h := s4.rget (tnkHealth r)
  { s4 with spareQ := if (s4.pair (r * 8 + j)).frames then s4.spareQ else s4.spareQ ++ [r] }.rput (tnkHealth r) (setFld (setFld (setFld (setFld h 30 2 1) 27 3 1) 24 3 j) 5 5 (g % 17))

/-- R318, R323, R324, R330, R331, R333: what the Tinker does about a lasting cluster fault of physical cluster g found by source `src` at a
cell. A second one while a recovery or a vote runs or the spare is in use takes the region to Ash. In a paired region the member is retired; in
another the cluster is held for UNPAIRED_SWAP while UNPSWAP = 1 and the spare is free, else the region enters Ash at once. A spare that serves no
logical cluster is FAILED (log entry 172). -/
def State.clusterAct (s : State) (first : Bool) (g src cell : Nat) : State :=
  let r := g / 17
  let note (s : State) (outcome : Nat) : State := s.noteFault first r src (g % 17) cell outcome
  if s.health r = 2 then note s 3
  else if s.health r ≠ 0 ∨ (s.spareSt r ≠ 0 ∧ s.spareSt r ≠ 4) then (note s 2).enterAsh r
  else match s.logicalOf g with
    | none => (note s 3).setSpare r 4 |>.setHealth r 1
    | some lc =>
      if s.paired r then s.retire first r (lc / 2) (lc % 2) src cell
      else if s.rb ⟨.tnk, r, 0⟩ 30 ∧ s.spareSt r = 0 then
        let s1 := note s 1
        let s2 := ({ s1 with spareQ := s1.spareQ ++ [r] }.setClu g { s1.clu g with hold := true }).setSwap r (some (g % 17))
        s2.rput (tnkHealth r) (setFld (setFld (setFld (s2.rget (tnkHealth r)) 30 2 1) 27 3 1) 5 5 (g % 17))
      else (note s 2).enterAsh r

/-- R374: a lasting cluster fault reported: in a region under load it is recorded, and acted on after the region's start-up sequence. -/
def State.clusterFault (s : State) (g src cell : Nat) : State :=
  if s.underLoad (g / 17) then { s.lasting (g / 17) src (g % 17) cell 3 with toldFaults := s.toldFaults ++ [(g, src, cell)] }
  else s.clusterAct true g src cell

/-- R374: the faults recorded in region r while it was under load are acted on. -/
def State.actTold (s : State) (r : Nat) : State :=
  { s with toldFaults := s.toldFaults.filter (fun (e : Nat × Nat × Nat) => e.1 / 17 != r) }.each (s.toldFaults.filter (fun (e : Nat × Nat × Nat) => e.1 / 17 == r))
    (fun s (e : Nat × Nat × Nat) => s.clusterAct false e.1 e.2.1 e.2.2)

end Sys2Proof.Machine
end

