-- ==== Sys2Proof/Machine/Route.lean ====
section
/-! DEFINITION. Tokens on routes (R123 to R149): sources and sinks of a cluster, fan-out, stream channels and their stages, code errors, the addresses access ports form (R132), and the accesses outstanding for a cell (R156). -/

namespace Sys2Proof.Machine

/-- A global sink number: physical cluster g, sink k. -/
def gsink (g k : Nat) : Nat := g * 305 + k

/-- R129, R321: the sinks that select a source of logical cluster lc in the clusters that serve it. -/
def State.wanted (s : State) (gs : List Nat) (code : Nat) : List Nat :=
  gs.flatMap (fun g => (s.sinksOf g code).map (gsink g))

/-- R356: the endpoint word of channel k of port p of logical cluster lc of region r. -/
def epPort (r lc p k : Nat) : Word :=
  BitVec.ofNat 32 (2 ^ 28 + r / 8 * 2 ^ 26 + r % 8 * 2 ^ 23 + lc * 2 ^ 19 + p * 2 ^ 17 + k * 2 ^ 14)

/-- The endpoint word of a pin cell: which is 0 MT, 1 MC, 2 CAP. -/
def epPin (r p which : Nat) : Word :=
  BitVec.ofNat 32 (2 * 2 ^ 28 + r / 8 * 2 ^ 26 + r % 8 * 2 ^ 23 + p * 2 ^ 18 + which * 2 ^ 16)

/-- The endpoint word of a hopper's side. -/
def epHop (r h : Nat) (consumer : Bool) : Word :=
  BitVec.ofNat 32 (3 * 2 ^ 28 + r / 8 * 2 ^ 26 + r % 8 * 2 ^ 23 + h * 2 ^ 20 + b2n consumer * 2 ^ 19)

/-- The endpoint word of a die's base-seam channel. -/
def epSeam (d c : Nat) : Word := BitVec.ofNat 32 (4 * 2 ^ 28 + d * 2 ^ 26 + c * 2 ^ 18)

/-- The endpoint word of a serial group of a bank. -/
def epSer (r b g : Nat) : Word :=
  BitVec.ofNat 32 (5 * 2 ^ 28 + r / 8 * 2 ^ 26 + r % 8 * 2 ^ 23 + b * 2 ^ 18 + g * 2 ^ 17)

/-- The region an endpoint word names. -/
def epRegion (w : Word) : Nat := fld w 26 2 * 8 + fld w 23 3

/-- R135, R138: the switch of the region mesh an endpoint attaches to. -/
def State.epSwitch (s : State) (w : Word) : Nat :=
  match fld w 28 4 with
  | 1 => s.physOf (epRegion w) (fld w 19 4)
  | 3 => 18
  | _ => 19

/-- The endpoint lies on the base die, beyond the base seam. -/
def epBase (w : Word) : Bool := decide (fld w 28 4 = 4)

/-- Where an endpoint attaches. -/
def State.epNode (s : State) (w : Word) : PNode := if epBase w then .base (fld w 26 2) else .sw (epRegion w) (s.epSwitch w)

/-- R136, R141: the regions of a channel's stages from source to sink: one where it enters the mesh, and those of every link (log entry 21). -/
def State.chanRegions (s : State) (src snk : Word) : List Nat :=
  (if epBase src then [] else [epRegion src]) ++ (planePath (s.epNode src) (s.epNode snk)).flatMap linkRegions

/-- R147: the stages of a channel before the gate of its sink's region; none where it does not pass it. -/
def State.chanGate (s : State) (src snk : Word) : Nat :=
  let path := planePath (s.epNode src) (s.epNode snk)
  if path.contains (.into (epRegion snk)) && !epBase snk then
    (if epBase src then 0 else 1) + ((path.takeWhile (· != .into (epRegion snk))).flatMap linkRegions).length
  else 0

/-- R131: a channel at its connection: every stage empty. -/
def State.newChan (s : State) (src snk : Word) : Chan :=
  { snk := snk, stages := List.replicate (s.chanRegions src snk).length none, gate := s.chanGate src snk }

/-- A list of stages with their tokens moved up to the sink's end, in a number of stages; never fewer than its tokens. -/
def packStages (n : Nat) (l : List (Option Tok)) : List (Option Tok) :=
  let t := l.filter Option.isSome
  List.replicate (n - t.length) none ++ t

/-- R138, R149: a channel laid again along another way: it keeps its tokens in order, on their side of the gate. -/
def Chan.relaid (c fresh : Chan) : Chan :=
  let a := packStages fresh.gate (c.stages.take c.gate)
  { c with stages := a ++ packStages (fresh.stages.length - fresh.gate) (c.stages.drop c.gate), gate := a.length }

/-- The key of a channel. -/
def chKey (w : Word) : Nat := w.toNat

/-- R357: a channel is connected. -/
def Chan.connected (c : Chan) : Bool := !c.stages.isEmpty

/-- R138: after a change of region r's map, its channels with an end at a cluster port run to the switch that now serves the logical cluster. -/
def State.relay (s : State) (r : Nat) : State :=
  let atPort (w : Word) : Bool := decide (fld w 28 4 = 1 ∧ epRegion w = r)
  s.each (Store.keys s.chans) (fun s k =>
    let c := s.chan k
    let src := BitVec.ofNat 32 k
    if c.connected && (atPort src || atPort c.snk) then s.setChan k (c.relaid (s.newChan src c.snk)) else s)

/-- The connected channel that ends at a sink endpoint. -/
def State.chanInto (s : State) (snk : Word) : Option Nat :=
  (s.chans.find? (fun e => decide (e.2.snk = snk) && e.2.connected)).map (·.1)

/-- The token in a channel's last stage. -/
def Chan.last (c : Chan) : Option Tok := (c.stages.getLast?).getD none

/-- A channel's first stage has room. -/
def Chan.room (c : Chan) : Bool := match c.stages with | none :: _ => true | _ => false

/-- A channel with a token entering its first stage. -/
def Chan.push (c : Chan) (t : Tok) : Chan := { c with stages := match c.stages with | none :: r => some t :: r | l => l }

/-- R147: the break token enters a channel that owes it as soon as the first stage has room. -/
def Chan.settle (c : Chan) : Chan :=
  if c.owes && c.room then { c.push { p := true } with owes := false } else c

/-- A channel with its last stage emptied. -/
def Chan.pop (c : Chan) : Chan := Chan.settle { c with stages := c.stages.dropLast ++ [none], taken := [] }

/-- A token's move from stage i of a channel to stage i + 1. -/
def Chan.shift (c : Chan) (i : Nat) : Chan :=
  Chan.settle { c with stages := (c.stages.set (i + 1) ((c.stages[i]?).getD none)).set i none }

/-- R357: a token given to a channel: an unconnected channel discards it. None where the first stage has no room, or where a
break token has closed the channel (R147). -/
def State.feed (s : State) (src : Word) (t : Tok) : Option State :=
  let c := s.chan (chKey src)
  if !c.connected then some s
  else if c.broken || !c.room then none
  else some (s.setChan (chKey src) (c.push t))

/-- Whether a stage keyed `k` had a code error before (R318). -/
def State.codePending (s : State) (k : Nat) : Bool := s.codePend.contains k

/-- R125: a token as the receiver stores it: each bit pair of a group with more than one wire high is undefined, and P = 1. -/
def garble (bad : BitVec 17) (free : BitVec 64) (t : Tok) : Tok :=
  if bad = 0 then t
  else
    let d := (List.range 16).foldl (fun d g => if bit bad g then setFld d (2 * g) 2 (fld free (2 * g) 2) else d) t.d
    ⟨d, true, if bit bad 16 then bit free 32 else t.f⟩

/-- R125, R318: the report of a token received at stage `key` of region r: a code error is counted; the next token through the
stage decides whether it was transient or lasting, unless the region runs paired. `g` is the cluster the stage lies in, if any. -/
def State.codeReport (s : State) (bad : BitVec 17) (key r : Nat) (g port : Option Nat) : State :=
  if bad ≠ 0 then
    let s1 := ((s.sticky ⟨.mesh, r, 0⟩ 30).count ⟨.mesh, r, 8⟩ 0 16 1).bumpFree
    let s2 := match port with | some p => s1.sticky ⟨.port, p, 0⟩ 30 | none => s1
    if s2.paired r && g.isSome then s2
    else if s2.codePending key then
      let s3 := { s2 with codePend := s2.codePend.filter (· != key) }
      match g with | some g => s3.clusterFault g 7 0 | none => s3.sharedFault r 7
    else { s2 with codePend := key :: s2.codePend }
  else if s.codePending key then { s.transient r with codePend := s.codePend.filter (· != key) }
  else s

/-- R125, R150: the port of physical cluster g whose channel feeds sink k, or that sink k belongs to, as cluster * 4 + port. -/
def State.portOfSink (s : State) (g k : Nat) : Option Nat :=
  let code := s.sel g k
  if 264 ≤ k ∧ k < 304 then some (g * 4 + (if k < 272 then (k - 264) / 2 else (k - 272) / 8))
  else if 128 ≤ code ∧ code < 160 then some (g * 4 + (code - 128) / 8)
  else none

/-- The code-report key of a place that is no cluster sink. -/
def placeKey (kind i : Nat) : Nat := 200000 + 8 * i + kind

/-- R124, R125, R357: a token given to a channel's first stage, whose receiver checks its code. -/
def State.feedBad (s : State) (src : Word) (t : Tok) (bad : BitVec 17) : Option State :=
  (s.feed src (garble bad s.freeNow t)).map (fun s => s.codeReport bad (placeKey 2 (chKey src)) (epRegion src) none none)

/-- R132: entry e of the target table of port p of physical cluster g. -/
def State.target (s : State) (g p e : Nat) : Word := BitVec.ofNat 32 (s.cfgLE 0 g 17 (0x80 * p + 4 * e) 4)

/-- Where an access word leads from a port (R116, R132): the package (none: this one) and the address in the core view of the
package it names; none where the entry is empty or OP is reserved. -/
def State.route (s : State) (g p : Nat) (w : Word) : Option (Option Nat × Nat) :=
  let e := s.target g p (fld w 24 5)
  if 2 ≤ fld w 30 2 ∨ !bit e 31 then none
  else
    let a := winBase (fld e 3 2 * 8 + fld e 0 3) + fld w 0 24
    some (if bit e 30 || decide (fld e 5 12 = s.ownPkg) then none else some (fld e 5 12), a)

/-- R155, R156: the distance class of a target from region r: 1 own region, 2 own die, 3 own package, 4 another package. -/
def distance (r : Nat) (t : Option Nat × Nat) : Nat :=
  match t.1 with
  | some _ => 4
  | none =>
    let q := (t.2 - 0x100000000) / 0x10000000 * 8 + t.2 % 0x10000000 / 0x1000000
    if q = r then 1 else if q / 8 = r / 8 then 2 else 3

/-- The output stage of cell x, OX (false) or OY. -/
def State.ostage (s : State) (x : Nat) (oy : Bool) : OStage := if oy then (s.cell x).oy else (s.cell x).ox

/-- R70: a route leaves the output. -/
def State.routed (s : State) (x : Nat) (oy : Bool) : Bool :=
  !(s.sinksOf (x / 64) (2 * (x % 64) + b2n oy)).isEmpty

/-- R156, R169: the distance classes of the accesses cell x has emitted and not seen performed, over one output: those still in
its output stage or in the REQ input, and those in flight. -/
def State.outOn (s : State) (x : Nat) (oy : Bool) : List Nat :=
  let g := x / 64
  let r := g / 17
  let code := 2 * (x % 64) + b2n oy
  let st := s.ostage x oy
  let bms := (List.range 4).flatMap (fun q =>
    let k := 256 + 2 * q
    if s.sel g k = code then
      (if st.tok.isSome && !st.taken.contains (gsink g k) then [0] else []) ++
      (if (s.bport (g * 4 + q)).req.isSome then [0] else [])
    else [])
  let ports := match s.logicalOf g with
    | none => []
    | some lc =>
      (List.range 4).flatMap (fun p =>
        let k := 264 + 2 * p
        let cls (t : Option Tok) : List Nat := match t with
          | some t => match s.route g p t.d with
            | some q => [distance r q]
            | none => []
          | none => []
        if s.sel g k = code then
          let lp := (r * 16 + s.lead r lc) * 4 + p
          (if st.taken.contains (gsink g k) then [] else cls st.tok) ++ cls (s.twin (gsink g k)) ++ cls (s.aport lp).req ++
          (s.flights.filter (fun f => f.lp == lp && f.cell == some (x % 64 * 2 + b2n oy))).map (·.cls)
        else [])
  bms ++ ports

/-- R120, R155, R156: a fence of scope n (FENCE code) of cell x is done: no access in a class it covers is outstanding. -/
def State.fenceDone (s : State) (x n : Nat) : Bool :=
  n == 0 || (s.outOn x false ++ s.outOn x true).all (fun c => decide ((if 5 ≤ n then 5 else n) ≤ c))

/-- R132: the physical sinks of REQ and DATA of a logical port lp, and its region, cluster and port numbers. -/
def lpR (lp : Nat) : Nat := lp / 64
def lpC (lp : Nat) : Nat := lp / 4 % 16
def lpP (lp : Nat) : Nat := lp % 4

/-- The issuer a logical port is. -/
def lpIssuer (lp : Nat) : Issuer := .port (lpR lp) (lpC lp) (lpP lp)

/-- R324: the physical cluster whose latches set what logical port lp does: the trusted member of a pair that runs single. -/
def State.portG (s : State) (lp : Nat) : Nat := nth (s.gOf (lpR lp) (lpC lp)) (s.members (lpR lp) (lpC lp)) 0

/-- R134: reads and writes a port has outstanding. -/
def State.outReads (s : State) (lp : Nat) : Nat :=
  (s.flights.filter (fun f => f.iss == lpIssuer lp && f.kind == .read)).length
def State.outWrites (s : State) (lp : Nat) : Nat :=
  (s.flights.filter (fun f => f.iss == lpIssuer lp && f.kind == .write)).length

/-- R131: port p of physical cluster g is a stream port, or an access port. -/
def State.streamPort (s : State) (g p : Nat) : Bool := s.portMode g p == 1
def State.accessPort (s : State) (g p : Nat) : Bool := s.portMode g p == 2

/-- R131, R355: the channel that ends at inbound code `code` (128..159) of physical cluster g; none where the port is no stream port. -/
def State.inbound (s : State) (g code : Nat) : Option Nat :=
  let p := (code - 128) / 8
  match s.logicalOf g with
  | none => none
  | some lc => if s.streamPort g p then s.chanInto (epPort (g / 17) (s.lead (g / 17) lc) p (code % 8)) else none

/-- R128, R355: the token a source code of physical cluster g offers to sink k, which has not taken it yet. -/
def State.offered (s : State) (g k : Nat) : Option Tok :=
  let me := gsink g k
  let code := s.sel g k
  let fresh (o : OStage) : Option Tok := if o.taken.contains me then none else o.tok
  if code < 128 then fresh (s.ostage (g * 64 + code / 2) (code % 2 == 1))
  else if code < 160 then
    match s.inbound g code with
    | some ch => let c := s.chan ch; if c.taken.contains me then none else c.last
    | none => none
  else if 168 ≤ code ∧ code < 172 then
    match s.logicalOf g with
    | some lc => fresh (s.aport ((g / 17 * 16 + s.lead (g / 17) lc) * 4 + (code - 168))).rep
    | none => none
  else if 172 ≤ code ∧ code < 176 then
    let b := s.bport (g * 4 + (code - 172))
    if b.taken.contains me then none else b.rep.head?
  else none

/-- R477: a probe's serial frame of 36 bits at 100 Mbit/s has run its 288 samples: the waiting token follows. -/
def Probe.advance (p : Probe) (now : Nat) : Probe :=
  match p.tok with
  | some _ => if p.since + 288 ≤ now then { p with tok := p.wait, since := p.since + 288, wait := none } else p
  | none => p

/-- R477: a token event at a probe of kinds 1 and 3: the state after it and whether a waiting token was replaced. -/
def Probe.event (p : Probe) (kind now : Nat) (t : Tok) : Probe × Bool :=
  if kind = 1 then ({ p with lvl := !p.lvl }, false)
  else if kind = 3 then
    let p1 := (p.advance now).advance now
    if p1.tok.isNone then ({ p1 with tok := some t, since := now }, false)
    else ({ p1 with wait := some t }, p1.wait.isSome)
  else (p, false)

/-- R476, R477: a SEL register, enabled, names the stage with a source code of logical cluster lc of region r. -/
def selNames (v : RegVal) (r lc code : Nat) : Bool :=
  bit v 31 && decide (fld v 26 2 * 8 + fld v 23 3 = r) && decide (fld v 11 8 = code) &&
    (decide (160 ≤ code) || decide (fld v 19 4 = lc))

/-- R476, R477: taps and probes see a token leave a stage. Taps update while a debugger is attached and runs TCK. -/
def State.seen (s : State) (r lc code : Nat) (t : Tok) : State :=
  let s1 := s.each ((List.range 4).filter (fun k => s.rb ⟨.dbg, 0, 4⟩ 31 && selNames (s.rget ⟨.dbgTap, k, 0⟩) r lc code)) (fun s k =>
    let d : Reg := ⟨.dbgTap, k, 8⟩
    s.rput d (put 40 ((s.rf d 40 8 + 1) % 256) + putB 34 true + putB 33 t.f + putB 32 t.p + t.d.setWidth 64))
  s1.each ((List.range 16).filter (fun k => selNames (s.rget ⟨.dbgProbe, k, 0⟩) r lc code)) (fun s k =>
    let (p, skip) := (s.probe k).event (s.rf ⟨.dbgProbe, k, 0⟩ 28 3) s.time t
    let s2 := s.setProbe k p
    if skip then s2.sticky ⟨.dbgProbe, k, 4⟩ 29 else s2)

/-- An output stage after a sink took its token: freed once every wanted sink has (R129). -/
def OStage.took (o : OStage) (me : Nat) (wanted : List Nat) : OStage :=
  let t := me :: o.taken
  if wanted.all (fun k => t.contains k) then {} else { o with taken := t }

/-- R124, R129: sink k of physical cluster g completes event 2 with its source. -/
def State.takeFrom (s : State) (g k : Nat) : State :=
  let me := gsink g k
  let code := s.sel g k
  if code < 128 then
    let x := g * 64 + code / 2
    let c := s.cell x
    let w := s.wanted [g] code
    let o := s.ostage x (code % 2 == 1)
    let s1 := match o.tok, (o.took me w).tok, s.logicalOf g with
      | some t, none, some lc => s.seen (g / 17) lc code t
      | _, _, _ => s
    s1.setCell x (if code % 2 = 0 then { c with ox := c.ox.took me w } else { c with oy := c.oy.took me w })
  else
    match s.logicalOf g with
    | none => s
    | some lc0 =>
      let r := g / 17
      let lc := s.lead r lc0
      let w := s.wanted (s.members r lc) code
      if code < 160 then
        match s.inbound g code with
        | some ch =>
          let c := s.chan ch
          let t := me :: c.taken
          if w.all (fun k => t.contains k) then
            (match c.last with
              | some x => (s.seen r lc0 code x).setChan ch c.pop
              | none => s.setChan ch c.pop)
          else s.setChan ch { c with taken := t }
        | none => s
      else if 168 ≤ code ∧ code < 172 then
        let lp := (r * 16 + lc) * 4 + (code - 168)
        let a := s.aport lp
        s.setAport lp { a with rep := a.rep.took me w }
      else if 172 ≤ code ∧ code < 176 then
        let q := g * 4 + (code - 172)
        let b := s.bport q
        let t := me :: b.taken
        let w1 := s.wanted [g] code
        s.setBport q (if w1.all (fun k => t.contains k) then { b with rep := b.rep.drop 1, taken := [] } else { b with taken := t })
      else s

end Sys2Proof.Machine
end

