-- ==== Sys2Proof/Machine/Cell.lean ====
section
/-! DEFINITION. The cell: token arrival, the slot sequencer (R74 to R79), the step of every opcode (R105 to R120), the skipped step (R76), the checks behind a step (R317 to R319) and the stall monitor (R94). -/

namespace Sys2Proof.Machine

/-- The cell's status register. -/
def cellStat (x : Nat) : Reg := ⟨.cell, x, 0⟩

/-- R91: set-reset applied to cell x. -/
def State.resetCell (s : State) (x : Nat) : State :=
  s.setCell x { w0 := s.initW x 0, w1 := s.initW x 1, w2 := s.initW x 2, w3 := s.initW x 3 }

/-- TOKEN_ARRIVAL (R69, R70, R73, R92): the token that input i of cell x selects is stored in its operand slot, if the slot is
empty and the cell is enabled and not held. `bad` marks groups with more than one wire high (R125). -/
def execTokenArrival (x : Fin 34816) (i : Fin 4) (bad : BitVec 17) (s : State) : Out :=
  let x := x.val
  let g := x / 64
  let k := 4 * (x % 64) + i.val
  let c := s.cell x
  if !s.cellEn x || s.cluHeld g || (c.port i.val).isSome then ok s
  else match s.offered g k with
    | none => ok s
    | some t =>
      let s1 := s.takeFrom g k
      let t := garble bad s.freeNow t
      let s2 := s1.setCell x ((s1.cell x).setPort i.val (some t))
      ok (s2.codeReport bad (gsink g k) (g / 17) (some g) none)

/-- R75: every port the slot names as a source holds a token. -/
def Cell.portsPresent (c : Cell) (i : Slot) : Bool :=
  [i.sa, i.sb].all (fun k => decide (4 ≤ k) || (c.port k).isSome)

/-- R85: the carry link out can take a value: it is empty, or the cell stands in column 7, where values are discarded. -/
def Cell.linkFree (c : Cell) (x : Nat) : Bool := x % 8 == 7 || c.link.isNone

/-- R75: the conditions a step and a skipped step both wait for. -/
def State.operandsReady (s : State) (x : Nat) (i : Slot) : Bool :=
  let c := s.cell x
  s.cellEn x && !s.cluHeld (x / 64) && c.portsPresent i && (!i.readsLink || (s.linkIn x).isSome) &&
    (!i.carry || c.linkFree x)

/-- R70, R75: the selected outputs are free. A NOP selects none (R109). -/
def State.outputsFree (s : State) (x : Nat) (i : Slot) : Bool :=
  i.op == 0 || [(i.ox, false), (i.oy, true)].all (fun (o, y) => !o || !s.routed x y || (s.ostage x y).tok.isNone)

/-- The slot cell x evaluates. -/
def State.slotNow (s : State) (x : Nat) : Slot := s.slotAt x (s.cell x).slot

/-- R75: the step is carried out, not skipped. -/
def Cell.runs (c : Cell) (i : Slot) : Bool := !i.pred || c.cp || c.cpp

/-- R77, R78: the ports the slot consumes, none with HOLD. -/
def Slot.consumes (i : Slot) : List Nat :=
  if i.hold then [] else ([i.sa, i.sb].filter (· < 4)).dedup

/-- R75: consumption, the carry value sent on (C, word, P), and the advance of slot and step counter, with the sticky bits PRECV and
FRECV (R84). -/
def State.advance (s : State) (x : Nat) (i : Slot) (out : Option Link) : State :=
  let c := s.cell x
  let eaten := i.consumes.filterMap c.port
  let c1 := i.consumes.foldl (fun c k => c.setPort k none) c
  let c2 := { c1 with slot := if i.last || decide (7 ≤ c.slot) then 0 else c.slot + 1, steps := c.steps + 1,
                      link := if i.carry && x % 8 != 7 then out else c.link }
  let s1 := s.setCell x c2
  let s2 := if i.readsLink && decide (x % 8 ≠ 0) then s1.setCell (x - 1) { s1.cell (x - 1) with link := none } else s1
  let s3 := if eaten.any (·.p) then s2.sticky (cellStat x) 29 else s2
  if eaten.any (·.f) then s3.sticky (cellStat x) 28 else s3

/-- A token offered on an output: into its output stage, or discarded where no route leaves (R70). -/
def State.emit (s : State) (x : Nat) (oy : Bool) (t : Tok) : State :=
  if s.routed x oy then
    let c := s.cell x
    s.setCell x (if oy then { c with oy := { tok := some t } } else { c with ox := { tok := some t } })
  else s

/-- R75, R81 to R83, R106 to R108, R115: what a carried-out step writes and emits. -/
def State.perform (s : State) (x : Nat) (i : Slot) (signed : Bool) (f : ExecIn → ExecRes) : State :=
  let c := s.cell x
  let a := s.opnd x i signed i.sa
  let b := s.opnd x i signed i.sb
  let l := (s.linkIn x).getD {}
  let e := f ⟨a.d, b.d, a.p, a.f, i.imm, i.readsLink && l.c, if i.readsLink then l.w else 0, c.cp⟩
  let p := resultP i e a.p b.p (i.readsLink && l.p) c.cpp
  let fl := a.f || b.f
  let c1 := if !e.mute && decide (4 ≤ i.dst ∧ i.dst ≤ 7) then c.setW (i.dst - 4) e.r p else c
  let c2 := match e.cp with | some v => { c1 with cp := v, cpp := p } | none => c1
  let s1 := s.setCell x c2
  let ox := i.ox && !e.mute
  let oy := i.oy && !e.mute
  let s2 := if ox then s1.emit x false ⟨e.r, p, fl⟩ else s1
  let s3 := if oy then s2.emit x true ⟨e.oy.getD e.r, p, fl⟩ else s2
  let s4 := if p && (ox || oy || i.carry) then s3.sticky (cellStat x) 30 else s3
  s4.advance x i (some ⟨e.c, e.lw, p⟩)

/-- R317 to R319: what a step's hidden checks decide: a clean step is carried out; one that passes on its retry is counted and
carried out; one that fails twice commits nothing and is a cluster fault. -/
def State.checked (s : State) (x : Nat) (ck : Check) (f : State → State) : State :=
  match ck with
  | .clean => f s
  | .transient => (f s).transient (x / 1088)
  | .lasting res => s.clusterFault (x / 64) (if res then 3 else 2) (x % 64)

/-- R74 to R76, R105: cell x's step when its slot holds this opcode and every condition it waits for is met; the step waits
otherwise, and a slot whose PRED skips it is SKIPPED_STEP's. -/
def State.cellStep (s : State) (x : Nat) (ck : Check) (op : Nat) (signed : Bool) (f : ExecIn → ExecRes) : State :=
  let i := s.slotNow x
  if i.op = op && s.operandsReady x i && (s.cell x).runs i && s.outputsFree x i && s.fenceDone x i.fence
  then s.checked x ck (fun s => s.perform x i signed f) else s

/-- R76: a skipped step: operands and the carry link in are consumed, C = 0, a zero word and P = 0 go out with CARRY. -/
def State.skip (s : State) (x : Nat) (i : Slot) : State := s.advance x i (some {})

/-- SKIPPED_STEP (R76): a PRED step with CP = CPP = 0. -/
def execSkippedStep (x : Fin 34816) (ck : Check) (s : State) : Out :=
  let x := x.val
  let i := s.slotNow x
  if opDefined i.op && !(s.cell x).runs i && s.operandsReady x i then ok (s.checked x ck (fun s => s.skip x i)) else ok s

/-- RESERVED_OPCODE (R105): a reserved opcode behaves as a skipped step, whatever PRED, CP and CPP say. -/
def execReservedOpcode (x : Fin 34816) (ck : Check) (s : State) : Out :=
  let x := x.val
  let i := s.slotNow x
  if !opDefined i.op && s.operandsReady x i then ok (s.checked x ck (fun s => s.skip x i)) else ok s

/-- R75, R76, R94: the step of cell x has fired: every condition it waits for is met. A skipped step and a reserved opcode wait for fewer. -/
def State.fired (s : State) (x : Nat) : Bool :=
  let i := s.slotNow x
  s.operandsReady x i && (!opDefined i.op || !(s.cell x).runs i || (s.outputsFree x i && s.fenceDone x i.fence))

/-- CELL_STALL (R94, R318): a step fired and did not complete after 64 spine intervals: STALL and a report. The retry is a second
wait of 64 intervals; `lasting` says that it passed too. A step that waits has not fired and is no stall. -/
def execCellStall (x : Fin 34816) (lasting : Bool) (s : State) : Out :=
  let x := x.val
  let g := x / 64
  let s1 := s.sticky (cellStat x) 31
  if !s.fired x then ok s
  else ok (if lasting then s1.clusterFault g 6 (x % 64) else s1.transient (g / 17))

/-- R109: a step of opcode 0x00. -/
def execNop (x : Fin 34816) (ck : Check) (s : State) : Out :=
  ok (s.cellStep x.val ck 0x00 false aluNop)

/-- R109: a step of opcode 0x01. -/
def execMov (x : Fin 34816) (ck : Check) (s : State) : Out :=
  ok (s.cellStep x.val ck 0x01 true aluMov)

/-- R109: a step of opcode 0x02. -/
def execMovh (x : Fin 34816) (ck : Check) (s : State) : Out :=
  ok (s.cellStep x.val ck 0x02 false aluMovh)

/-- R109: a step of opcode 0x03. -/
def execSel (x : Fin 34816) (ck : Check) (s : State) : Out :=
  ok (s.cellStep x.val ck 0x03 true aluSel)

/-- R109: a step of opcode 0x04. -/
def execPtst (x : Fin 34816) (ck : Check) (s : State) : Out :=
  ok (s.cellStep x.val ck 0x04 false aluPtst)

/-- R109: a step of opcode 0x05. -/
def execFtst (x : Fin 34816) (ck : Check) (s : State) : Out :=
  ok (s.cellStep x.val ck 0x05 false aluFtst)

/-- R110: a step of opcode 0x10. -/
def execAdd (x : Fin 34816) (ck : Check) (s : State) : Out :=
  ok (s.cellStep x.val ck 0x10 true aluAdd)

/-- R110: a step of opcode 0x11. -/
def execAdc (x : Fin 34816) (ck : Check) (s : State) : Out :=
  ok (s.cellStep x.val ck 0x11 true aluAdc)

/-- R110: a step of opcode 0x12. -/
def execSub (x : Fin 34816) (ck : Check) (s : State) : Out :=
  ok (s.cellStep x.val ck 0x12 true aluSub)

/-- R110: a step of opcode 0x13. -/
def execSbc (x : Fin 34816) (ck : Check) (s : State) : Out :=
  ok (s.cellStep x.val ck 0x13 true aluSbc)

/-- R110: a step of opcode 0x14. -/
def execNeg (x : Fin 34816) (ck : Check) (s : State) : Out :=
  ok (s.cellStep x.val ck 0x14 true aluNeg)

/-- R110: a step of opcode 0x15. -/
def execAbs (x : Fin 34816) (ck : Check) (s : State) : Out :=
  ok (s.cellStep x.val ck 0x15 true aluAbs)

/-- R110: a step of opcode 0x16. -/
def execAdds (x : Fin 34816) (ck : Check) (s : State) : Out :=
  ok (s.cellStep x.val ck 0x16 true aluAdds)

/-- R110: a step of opcode 0x17. -/
def execSubs (x : Fin 34816) (ck : Check) (s : State) : Out :=
  ok (s.cellStep x.val ck 0x17 true aluSubs)

/-- R110: a step of opcode 0x18. -/
def execAddu (x : Fin 34816) (ck : Check) (s : State) : Out :=
  ok (s.cellStep x.val ck 0x18 false aluAddu)

/-- R110: a step of opcode 0x19. -/
def execSubu (x : Fin 34816) (ck : Check) (s : State) : Out :=
  ok (s.cellStep x.val ck 0x19 false aluSubu)

/-- R111: a step of opcode 0x20. -/
def execMin (x : Fin 34816) (ck : Check) (s : State) : Out :=
  ok (s.cellStep x.val ck 0x20 true aluMin)

/-- R111: a step of opcode 0x21. -/
def execMax (x : Fin 34816) (ck : Check) (s : State) : Out :=
  ok (s.cellStep x.val ck 0x21 true aluMax)

/-- R111: a step of opcode 0x22. -/
def execMinu (x : Fin 34816) (ck : Check) (s : State) : Out :=
  ok (s.cellStep x.val ck 0x22 false aluMinu)

/-- R111: a step of opcode 0x23. -/
def execMaxu (x : Fin 34816) (ck : Check) (s : State) : Out :=
  ok (s.cellStep x.val ck 0x23 false aluMaxu)

/-- R111: a step of opcode 0x24. -/
def execSats (x : Fin 34816) (ck : Check) (s : State) : Out :=
  ok (s.cellStep x.val ck 0x24 false aluSats)

/-- R111: a step of opcode 0x25. -/
def execSatu (x : Fin 34816) (ck : Check) (s : State) : Out :=
  ok (s.cellStep x.val ck 0x25 false aluSatu)

/-- R111: a step of opcode 0x26. -/
def execClamp (x : Fin 34816) (ck : Check) (s : State) : Out :=
  ok (s.cellStep x.val ck 0x26 true aluClamp)

/-- R112: a step of opcode 0x30. -/
def execAndOp (x : Fin 34816) (ck : Check) (s : State) : Out :=
  ok (s.cellStep x.val ck 0x30 false aluAnd)

/-- R112: a step of opcode 0x31. -/
def execOrOp (x : Fin 34816) (ck : Check) (s : State) : Out :=
  ok (s.cellStep x.val ck 0x31 false aluOr)

/-- R112: a step of opcode 0x32. -/
def execXorOp (x : Fin 34816) (ck : Check) (s : State) : Out :=
  ok (s.cellStep x.val ck 0x32 false aluXor)

/-- R112: a step of opcode 0x33. -/
def execAndn (x : Fin 34816) (ck : Check) (s : State) : Out :=
  ok (s.cellStep x.val ck 0x33 false aluAndn)

/-- R112: a step of opcode 0x34. -/
def execShl (x : Fin 34816) (ck : Check) (s : State) : Out :=
  ok (s.cellStep x.val ck 0x34 false aluShl)

/-- R112: a step of opcode 0x35. -/
def execShr (x : Fin 34816) (ck : Check) (s : State) : Out :=
  ok (s.cellStep x.val ck 0x35 false aluShr)

/-- R112: a step of opcode 0x36. -/
def execSar (x : Fin 34816) (ck : Check) (s : State) : Out :=
  ok (s.cellStep x.val ck 0x36 false aluSar)

/-- R112: a step of opcode 0x37. -/
def execRol (x : Fin 34816) (ck : Check) (s : State) : Out :=
  ok (s.cellStep x.val ck 0x37 false aluRol)

/-- R112: a step of opcode 0x38. -/
def execRor (x : Fin 34816) (ck : Check) (s : State) : Out :=
  ok (s.cellStep x.val ck 0x38 false aluRor)

/-- R112: a step of opcode 0x39. -/
def execShlc (x : Fin 34816) (ck : Check) (s : State) : Out :=
  ok (s.cellStep x.val ck 0x39 false aluShlc)

/-- R112: a step of opcode 0x3A. -/
def execFshr (x : Fin 34816) (ck : Check) (s : State) : Out :=
  ok (s.cellStep x.val ck 0x3A false aluFshr)

/-- R112: a step of opcode 0x3B. -/
def execClz (x : Fin 34816) (ck : Check) (s : State) : Out :=
  ok (s.cellStep x.val ck 0x3B false aluClz)

/-- R113: a step of opcode 0x40. -/
def execMul (x : Fin 34816) (ck : Check) (s : State) : Out :=
  ok (s.cellStep x.val ck 0x40 true aluMul)

/-- R113: a step of opcode 0x41. -/
def execMulh (x : Fin 34816) (ck : Check) (s : State) : Out :=
  ok (s.cellStep x.val ck 0x41 true aluMulh)

/-- R113: a step of opcode 0x42. -/
def execMulhu (x : Fin 34816) (ck : Check) (s : State) : Out :=
  ok (s.cellStep x.val ck 0x42 false aluMulhu)

/-- R113: a step of opcode 0x43. -/
def execMulsh (x : Fin 34816) (ck : Check) (s : State) : Out :=
  ok (s.cellStep x.val ck 0x43 false aluMulsh)

/-- R114: a step of opcode 0x50. -/
def execCeq (x : Fin 34816) (ck : Check) (s : State) : Out :=
  ok (s.cellStep x.val ck 0x50 true aluCeq)

/-- R114: a step of opcode 0x51. -/
def execCne (x : Fin 34816) (ck : Check) (s : State) : Out :=
  ok (s.cellStep x.val ck 0x51 true aluCne)

/-- R114: a step of opcode 0x52. -/
def execClt (x : Fin 34816) (ck : Check) (s : State) : Out :=
  ok (s.cellStep x.val ck 0x52 true aluClt)

/-- R114: a step of opcode 0x53. -/
def execCle (x : Fin 34816) (ck : Check) (s : State) : Out :=
  ok (s.cellStep x.val ck 0x53 true aluCle)

/-- R114: a step of opcode 0x54. -/
def execCgt (x : Fin 34816) (ck : Check) (s : State) : Out :=
  ok (s.cellStep x.val ck 0x54 true aluCgt)

/-- R114: a step of opcode 0x55. -/
def execCge (x : Fin 34816) (ck : Check) (s : State) : Out :=
  ok (s.cellStep x.val ck 0x55 true aluCge)

/-- R114: a step of opcode 0x56. -/
def execCltu (x : Fin 34816) (ck : Check) (s : State) : Out :=
  ok (s.cellStep x.val ck 0x56 false aluCltu)

/-- R114: a step of opcode 0x57. -/
def execCleu (x : Fin 34816) (ck : Check) (s : State) : Out :=
  ok (s.cellStep x.val ck 0x57 false aluCleu)

/-- R114: a step of opcode 0x58. -/
def execCgtu (x : Fin 34816) (ck : Check) (s : State) : Out :=
  ok (s.cellStep x.val ck 0x58 false aluCgtu)

/-- R114: a step of opcode 0x59. -/
def execCgeu (x : Fin 34816) (ck : Check) (s : State) : Out :=
  ok (s.cellStep x.val ck 0x59 false aluCgeu)

/-- R114: a step of opcode 0x5A. -/
def execTst (x : Fin 34816) (ck : Check) (s : State) : Out :=
  ok (s.cellStep x.val ck 0x5A false aluTst)

/-- R114: a step of opcode 0x5C. -/
def execPlt (x : Fin 34816) (ck : Check) (s : State) : Out :=
  ok (s.cellStep x.val ck 0x5C false aluPlt)

/-- R114: a step of opcode 0x5D. -/
def execPge (x : Fin 34816) (ck : Check) (s : State) : Out :=
  ok (s.cellStep x.val ck 0x5D false aluPge)

/-- R114: a step of opcode 0x5E. -/
def execPwin (x : Fin 34816) (ck : Check) (s : State) : Out :=
  ok (s.cellStep x.val ck 0x5E false aluPwin)

/-- R115, R116: a step of opcode 0x60. -/
def execRd (x : Fin 34816) (ck : Check) (s : State) : Out :=
  ok (s.cellStep x.val ck 0x60 false aluRd)

/-- R115, R116: a step of opcode 0x61. -/
def execWr (x : Fin 34816) (ck : Check) (s : State) : Out :=
  ok (s.cellStep x.val ck 0x61 false aluWr)

/-- R115, R119: a step of opcode 0x62. -/
def execMark (x : Fin 34816) (ck : Check) (s : State) : Out :=
  ok (s.cellStep x.val ck 0x62 false aluMark)

end Sys2Proof.Machine
end

