-- ==== Sys2Proof/Machine/Access.lean ====
section
/-! DEFINITION. Access ports (R116, R132 to R134), the region's gate (R147, R148, R445), broadcast lines (R143 to R145), stage stalls (R126). -/

namespace Sys2Proof.Machine

/-- The region mesh's registers. -/
def meshReg (r off : Nat) : Reg := ⟨.mesh, r, off⟩

/-- R148, R445: an access in flight that must pass the gate of its target region to reach it. -/
def Flight.external (f : Flight) : Bool :=
  match f.iss with
  | .port r _ _ => r != addrRegion f.addr
  | _ => true

/-- R445: the spine-and-mesh domain of a die. -/
def dieDom (d : Nat) : Nat := 728 + d

/-- R136, R147, R148, R445: an access may be performed at its target: it stands at the end of its way, so that the gate, if it passed it, has
accepted it; and the die's spine-and-mesh domain is not Cold. -/
def State.enters (s : State) (f : Flight) : Bool :=
  f.pkg.isNone && f.ans.isNone && f.path.isEmpty && decide (s.dom (dieDom (addrRegion f.addr / 8)) = 0)

/-- R136: access `x` came to the end of its way before `f`. -/
def Flight.ahead (x f : Flight) : Bool := decide (x.arr < f.arr) || (x.arr == f.arr && decide (x.id < f.id))

/-- The cell output that feeds REQ of a logical port, as cell * 2 + (0 OX, 1 OY), if an output stage does (R156). -/
def State.feeder (s : State) (lp : Nat) : Option Nat :=
  let c := s.sel (s.portG lp) (264 + 2 * lpP lp)
  if c < 128 then some c else none

/-! The access plane (R136, R137). -/

/-- The input of a switch that an access or answer waits at: the link it came over, or the port, register gate, Porter or base die it starts
from. -/
def Flight.inputKey (f : Flight) : Nat :=
  match f.here with
  | some l => 1 + linkKey l
  | none => match f.iss, f.ans with
    | .port _ _ _, none => 20000 + f.lp
    | _, _ => 14000

/-- R147, R148: the access stands before a closed gate. An answer to an access of the region itself is no traffic that the gate refuses. -/
def State.atShutGate (s : State) (f : Flight) : Bool :=
  match f.path with
  | .into r :: _ => (s.region r).gate && f.ans.isNone
  | _ => false

/-- R136: `f` may cross link l now: it is its next one, the stage of its class lane there holds nothing, no closed gate stands before it, and the
meshes at the link are powered. -/
def State.mayCross (s : State) (l : PlaneLink) (f : Flight) : Bool :=
  f.path.head? == some l && !s.flights.any (fun x => x.here == some l && x.tc == f.tc) && !s.atShutGate f &&
    (linkDies l).all (fun d => decide (s.dom (dieDom d) = 0))

/-- R137: the first after input `last` in the rotation of a switch's inputs; of one input, the oldest. -/
def nextInput (last : Nat) : List Flight → Option Flight
  | [] => none
  | f :: l => some (l.foldl (fun a x => if (x.inputKey + 65535 - last) % 65536 < (a.inputKey + 65535 - last) % 65536 then x else a) f)

/-- R137: what the switch at link l serves next: a Vermilion token, its inputs in rotation, else Madder, Umber and Sepia in rotation. -/
def State.laneNext (s : State) (l : PlaneLink) : Option Flight :=
  let a := s.laneArb (linkKey l)
  let ready := s.flights.filter (s.mayCross l)
  match nextInput a.vin (ready.filter (fun f => decide (f.tc = 0))) with
  | some f => some f
  | none => [a.turn % 3 + 1, (a.turn + 1) % 3 + 1, (a.turn + 2) % 3 + 1].findSome? (fun c => ready.find? (fun f => f.tc == c))

/-- R125: what crosses with a faulty code goes on poisoned: an access is refused at its target (R118), a reply is delivered with P = 1. -/
def Flight.garbled (f : Flight) (bad : BitVec 17) (free : BitVec 64) : Flight :=
  if bad = 0 then f
  else match f.ans with
    | none => { f with poison := true, data := garble bad free f.data }
    | some (.word t) => { f with ans := some (.word (garble bad free t)) }
    | some _ => f

/-- TOKEN_MOVE over link l of the access plane (R124, R125, R136, R137): an access with its data, or an answer, crosses; at the end of its way
it leaves the lane for its target or port. -/
def State.laneMove (s : State) (l : PlaneLink) (bad : BitVec 17) : State :=
  match s.laneNext l with
  | none => s
  | some f =>
    let rest := f.path.drop 1
    let a := s.laneArb (linkKey l)
    let s1 := s.mapFlight f.id (fun x =>
      { x.garbled bad s.freeNow with path := rest, here := if rest.isEmpty then none else some l, arr := if rest.isEmpty then s.nextId else x.arr })
    let s2 := s1.setLaneArb (linkKey l) (if f.tc = 0 then { a with vin := f.inputKey } else { a with turn := f.tc % 3 })
    { s2 with nextId := s.nextId + 1 }.codeReport bad (placeKey 4 (4 * linkKey l + f.tc)) (nth 0 (linkRegions l).reverse 0) none none

/-- A port's REPLY stage holds a token for the sinks that select it; with none, it is discarded (R70). -/
def State.putReply (s : State) (lp : Nat) (t : Tok) : State :=
  if (s.wanted (s.members (lpR lp) (lpC lp)) (168 + lpP lp)).isEmpty then s
  else s.setAport lp { s.aport lp with rep := { tok := some t } }

/-- R116, R118: an access with no target is answered by the port itself: a zero token, P = 1 if the access is poisoned; one that is not
poisoned is counted in TNK_MESH_VIOL. -/
def State.answerAtPort (s : State) (lp : Nat) (k : AKind) (poisoned : Bool) : State :=
  let s1 := if poisoned then s else s.viol .mesh (lpR lp)
  match k with
  | .read => s1.putReply lp { p := poisoned }
  | .write => s1

/-- ACCESS_WORD (R132, R134): logical port lp takes its access word, with its data for a write, and sends the access. A port at its
limit of 16 reads or 32 writes, a write without its data or before the start-up step WRITES (R368), or a read with no target while REPLY
holds a token or an earlier read is outstanding (R117, R134, log entry 149), waits. -/
def execAccessWordSent (lp : Fin 2048) (s : State) : Out :=
  let lp := lp.val
  let a := s.aport lp
  let g := s.portG lp
  match a.req with
  | none => ok s
  | some w =>
    let isW := decide (fld w.d 30 2 = 1)
    let kind : AKind := if isW then .write else .read
    let data : Tok := if isW then a.data.getD {} else {}
    let poisoned := w.p || (isW && data.p)
    if isW && (a.data.isNone || !(s.region (lpR lp)).writes) then ok s
    else
      let s1 := s.setAport lp { a with req := none, data := if isW then none else a.data }
      match s.route g (lpP lp) w.d with
      | none =>
        if !isW && (a.rep.tok.isSome || decide (0 < s.outReads lp)) then ok s else ok (s1.answerAtPort lp kind poisoned)
      | some (pkg, addr) =>
        if (isW && decide (32 ≤ s.outWrites lp)) || (!isW && decide (16 ≤ s.outReads lp)) then ok s
        else ok (s1.launch { iss := lpIssuer lp, lp := lp, cell := s.feeder lp, cls := distance (lpR lp) (pkg, addr),
                             tc := s.portClass g (lpP lp), kind := kind, lock := bit w.d 29, poison := poisoned,
                             pkg := pkg, addr := addr, data := data })

/-- STAGE_STALL (R126, R318): a half-arrived codeword or incomplete spacer for 64 spine intervals; `lasting` says that the second wait
passed as well. -/
def execStageStall (w : StallPlace) (lasting : Bool) (s : State) : Out :=
  match w with
  | .port g p =>
    let s1 := s.sticky ⟨.port, g.val * 4 + p.val, 0⟩ 29
    ok (if lasting then s1.clusterFault g.val 6 0 else s1.transient (g.val / 17))
  | .mesh r =>
    let s1 := s.sticky (meshReg r.val 0) 31
    ok (if lasting then s1.sharedFault r.val 6 else s1.transient r.val)

/-- R144, R150: the driver enable of logical cluster lc on line b of region r, as the line uses it. -/
def State.benBit (s : State) (r b lc : Nat) : Bool := s.rb (meshReg r (0x10 + 4 * (b / 2))) (b % 2 * 16 + lc)

/-- R143: the number of a tap that is an input of package pin p's cell, above those of the clusters' sinks: MT, or MC. -/
def pinTap (p : Nat) (mc : Bool) : Nat := 544 * 305 + 2 * p + b2n mc

/-- R143: the taps of line b: in Lit clusters that serve a logical number, and of the region's pin cells. -/
def State.taps (s : State) (r b : Nat) : List Nat :=
  ((List.range 16).map (s.gOf r)).flatMap (fun g =>
    if s.cluLit g then ((s.sinksOf g (160 + b)).filter (· < 264)).map (gsink g) else []) ++
  ((List.range 24).map (24 * r + ·)).flatMap (fun p =>
    (if (s.pin p).mtLine = some b then [pinTap p false] else []) ++ (if (s.pin p).mcLine = some b then [pinTap p true] else []))

/-- Whether a block memory port's input (sink k of cluster g) takes a token now (R165, R174): no new access word in a quarantined region. -/
def State.bmRoom (s : State) (g k : Nat) : Bool :=
  let q := (k - 256) / 2
  let b := s.bport (g * 4 + q)
  let cfg := s.blkCfg g (q / 2)
  let width := if q % 2 = 0 then cfg % 4 else cfg / 4 % 4
  if !cfg.testBit (4 + q % 2) then false
  else if k % 2 = 0 then b.req.isNone && !s.cluHeld g && !s.rb ⟨.cmp, 0, 0x18⟩ (g / 17)
  else match b.req with
    | some w => decide (fld w.d 30 2 = 1) && decide (b.data.length < (if width = 3 then 2 else 1)) && s.cluLit g
    | none => false

/-- A token into a block memory port's input. -/
def State.bmTake (s : State) (g k : Nat) (t : Tok) : State :=
  let q := g * 4 + (k - 256) / 2
  let b := s.bport q
  s.setBport q (if k % 2 = 0 then { b with req := some t } else { b with data := b.data ++ [t] })

/-- A tap takes the line's token if it has room; a pin cell's once its region's outputs are released (R368). -/
def State.tapPut (s : State) (t : Tok) (n : Nat) : Option State :=
  let g := n / 305
  let k := n % 305
  if 544 ≤ g then
    let p := (n - 544 * 305) / 2
    let c := s.pin p
    if !(s.region (pinRegion p)).out then none
    else if n % 2 = 0 then (if c.mt.isSome then none else some (s.setPin p { c with mt := some t }))
    else (if c.mc.isSome then none else some (s.setPin p { c with mc := some t }))
  else if k < 256 then
    let x := g * 64 + k / 4
    let c := s.cell x
    if !s.cellEn x || s.cluHeld g || (c.port (k % 4)).isSome then none
    else some (s.setCell x (c.setPort (k % 4) (some t)))
  else if s.bmRoom g k then some (s.bmTake g k t) else none

/-- A tap takes the line's token, its receiver checking the code (R125). -/
def State.tapTake (s : State) (t : Tok) (bad : BitVec 17) (n : Nat) : Option State :=
  let g := n / 305
  (s.tapPut (garble bad s.freeNow t) n).map (fun s =>
    if 544 ≤ g then s.codeReport bad (placeKey 1 (n - 544 * 305)) (pinRegion ((n - 544 * 305) / 2)) none none
    else s.codeReport bad n (g / 17) (some g) none)

/-- R143, R324: a tap left out of the line's completion: in a cluster that is not Lit, or of a retired member. -/
def State.tapOut (s : State) (n : Nat) : Bool := decide (n < 544 * 305) && (!s.cluLit (n / 305) || s.retired (n / 305))

/-- Every waiting tap that has room takes the token, but for those left out. -/
def State.tapsTake (s : State) (t : Tok) (bad : BitVec 17) : List Nat → State × List Nat
  | [] => (s, [])
  | n :: l =>
    if s.tapOut n then s.tapsTake t bad l
    else match s.tapTake t bad n with
      | some s1 => s1.tapsTake t bad l
      | none => let (s1, w) := s.tapsTake t bad l; (s1, n :: w)

/-- R144, R145: the enabled sources of a line that offer a token. -/
def State.lineOffers (s : State) (r b : Nat) : List Nat :=
  (List.range 16).filter (fun c => s.benBit r b c && (s.bsrc (r * 16 + c)).isSome)

/-- R145: the source a line serves: the one it is granted to while that one is enabled, else the first enabled that offers; of two that offer
already, whichever the mutual-exclusion element takes (log entry 150). -/
def State.lineSource (s : State) (r b : Nat) : Option Nat :=
  let free : Option Nat := match s.lineOffers r b with
    | [] => none
    | [c] => some c
    | l => some (nth 0 l (s.freeNow.toNat % l.length))
  match (s.bline (r * 8 + b)).src with
  | some c => if s.benBit r b c then some c else free
  | none => free

/-- BROADCAST_TOKEN (R143): a free line takes the next token of its source; every tap with room takes it; the line frees it once
all have. `b.bad` is the line's code as the taps that take it now see it (R125). -/
def execBroadcastToken (r : Fin 32) (b : Coded (Fin 8)) (s : State) : Out :=
  let r := r.val
  let bad := b.bad
  let b := b.val.val
  let n := r * 8 + b
  let l := s.bline n
  let go (s : State) (t : Tok) (wait : List Nat) (src : Option Nat) : State :=
    let (s0, w) := s.tapsTake t bad wait
    let s1 := if w.isEmpty then s0.seen r 0 (160 + b) t else s0
    s1.setBline n { tok := if w.isEmpty then none else some t, wait := w, src := src }
  match l.tok with
  | some t => ok (go s t l.wait l.src)
  | none =>
    match s.lineSource r b with
    | none => ok s
    | some c =>
      match s.bsrc (r * 16 + c) with
      | none => ok s
      | some t => ok (go ((if 1 < (s.lineOffers r b).length then s.bumpFree else s).setBsrc (r * 16 + c) none) t (s.taps r b) (some c))

/-- R145: the latch of the driver enable of logical cluster lc on line b of region r, in mesh frame 0, flipped on (R356). -/
def State.benUpset (s : State) (r b lc : Nat) : State :=
  let k := cfgKey 2 r 0 (2 * b + lc / 8)
  { s with cfg := Store.put 0 s.cfg k (Store.get 0 s.cfg k ||| ((1 : Byte) <<< (lc % 8))) }.rsetb (meshReg r (0x10 + 4 * (b / 2))) (b % 2 * 16 + lc) true

/-- BDUP (R145): an upset sets the driver enable of cluster lc on line b. If another is set, BDUP records the line; a line that presents a token
stays with its source, and one that does not goes to the first source that offers. -/
def execBdup (r : Fin 32) (b : Fin 8) (lc : Fin 16) (s : State) : Out :=
  let r := r.val
  let b := b.val
  let s1 := s.benUpset r b lc.val
  if (List.range 16).any (fun c => c != lc.val && s.benBit r b c) then
    let l := s1.bline (r * 8 + b)
    let s2 := if l.tok.isSome then s1 else s1.setBline (r * 8 + b) { l with src := none }
    ok ((s2.sticky (meshReg r 0) 29).rsetf (meshReg r 0) 26 3 b)
  else ok s1

/-- R147 step 3: the channels that lead out of region r get their break token and carry nothing more. -/
def State.breakChans (s : State) (r : Nat) : State :=
  s.each (Store.keys s.chans) (fun s k =>
    let c := s.chan k
    let w := BitVec.ofNat 32 k
    if decide (epRegion w = r) && !epBase w && (decide (epRegion c.snk ≠ r) || epBase c.snk) && c.connected && !c.broken then
      s.setChan k (Chan.settle { c with broken := true, owes := true })
    else s)

/-- R91, R193: set-reset applied to every cell of region r, until the start-up sequence releases it; the locks its clusters hold break. -/
def State.applyReset (s : State) (r : Nat) : State :=
  ((s.each (List.range 1088) (fun s n => s.resetCell (1088 * r + n))).setRegion r { s.region r with reset := true }).breakLocks (portOfRegion r)

/-- R147 step 2: an access from outside that the gate of region r has accepted is still to be performed. -/
def State.gateBusy (s : State) (r : Nat) : Bool :=
  s.flights.any (fun f => f.pkg.isNone && f.ans.isNone && f.external && addrRegion f.addr == r && !f.path.contains (.into r))

/-- R147 step 3, R365, R372: the accepted traffic of region r has drained: its cells are held, its channels break, and for a load
(CMP_QUAR) its cells are put under set-reset. -/
def State.drained (s : State) (r : Nat) : State :=
  let g := s.region r
  if g.gate && g.drain && !s.gateBusy r then
    let s1 := (s.setRegion r { g with drain := false, held := true }).breakChans r
    if s1.rb ⟨.cmp, 0, 0x18⟩ r then s1.applyReset r else s1
  else s

/-- GATE_DRAIN_COMPLETE (R147 step 3): the accepted traffic of region r has drained. -/
def execGateDrainComplete (r : Fin 32) (s : State) : Out := ok (s.drained r.val)

/-- R148: a refusal is noted at the sending cluster port. -/
def State.refuseAtPort (s : State) (r lc p : Nat) : State :=
  s.each (s.members r lc) (fun s g => (s.sticky ⟨.port, g * 4 + p, 0⟩ 31).count ⟨.port, g * 4 + p, 4⟩ 0 16 1)

/-- GATE_REFUSAL (R148, R445): traffic at a closed gate is refused, counted, and answered with QUARANTINED. An access the gate has accepted is
not (R147). -/
def execGateRefusal (w : Refused) (s : State) : Out :=
  match w with
  | .flight id =>
    match s.flight id with
    | none => ok s
    | some f =>
      let r := addrRegion f.addr
      if f.pkg.isNone && f.ans.isNone && f.external && s.atShutGate f then
        ok ((s.answerFrom id .quarantined (.die r)).count (meshReg r 4) 0 16 1)
      else if f.pkg.isNone && f.ans.isNone && f.external && decide (s.dom (dieDom (r / 8)) ≠ 0) then
        ok ((s.answerFrom id .quarantined (.base (r / 8))).count (meshReg r 4) 0 16 1)
      else ok s
  | .stream ch =>
    let c := s.chan (chKey ch)
    let r := epRegion c.snk
    if c.connected && decide (0 < c.gate) && (s.region r).gate && ((c.stages[c.gate - 1]?).getD none).isSome then
      let s1 := (s.setChan (chKey ch) (Chan.settle { c with stages := c.stages.set (c.gate - 1) none })).count (meshReg r 4) 0 16 1
      ok (if fld ch 28 4 = 1 then s1.refuseAtPort (epRegion ch) (fld ch 19 4) (fld ch 17 2) else s1)
    else ok s

end Sys2Proof.Machine
end

