-- ==== Sys2Proof/Machine/BlockMem.lean ====
section
/-! DEFINITION. Block memories (R164 to R175), parity and repair (R170, R328), contending ports (R172). Memories are numbered cluster * 2 + m, their ports cluster * 4 + 2m + (0 A, 1 B). -/

namespace Sys2Proof.Machine

/-- A block memory's registers. -/
def bmReg (b off : Nat) : Reg := ⟨.bm, b, off⟩

/-- A stored byte with whether its parity is wrong; an unwritten one reads as the memory's base (R173, R174). -/
def State.bmGet (s : State) (b o : Nat) : Byte × Bool :=
  match s.bbyte (16384 * b + o) with
  | some v => v
  | none =>
    let e := (s.bmem b).base
    if e = 0 then (0, false)
    else let v := Config.freeCell 0 e (16384 * b + o); (v.setWidth 8, bit v 8)

/-- A byte stored with its parity right or wrong, the canonical form kept. -/
def State.bmPut (s : State) (b o : Nat) (v : Byte) (bad : Bool) : State :=
  s.setBbyte (16384 * b + o) (if (s.bmem b).base = 0 ∧ v = 0 ∧ bad = false then none else some (v, bad))

/-- The bytes of a list stored from offset o, with right parity. -/
def State.bmStore (s : State) (b : Nat) : Nat → List Byte → State
  | _, [] => s
  | o, v :: t => (s.bmPut b o v false).bmStore b (o + 1) t

/-- Bytes stored from offset o as another memory holds them, their parity with them. -/
def State.bmStoreRaw (s : State) (b : Nat) : Nat → List (Byte × Bool) → State
  | _, [] => s
  | o, v :: t => (s.bmPut b o v.1 v.2).bmStoreRaw b (o + 1) t

/-- A flip of one of the nine stored bits of a byte (8 is its parity bit). -/
def State.bmHit (s : State) (b o k : Nat) : State :=
  let (v, bad) := s.bmGet b o
  s.bmPut b o (if k < 8 then v ^^^ (1 <<< k) else v) (!bad)

/-- R164: log2 of a port's width in bytes. -/
def State.bmWidth (s : State) (q : Nat) : Nat :=
  let c := s.blkCfg (q / 4) (q % 4 / 2)
  if q % 2 = 0 then c % 4 else c / 4 % 4

/-- R166: an access is forbidden: a reserved OP, an offset beyond the memory, or one that is no multiple of the width. -/
def bmForbidden (w : Word) (lg : Nat) : Bool :=
  decide (2 ≤ fld w 30 2 ∨ fld w 14 10 ≠ 0 ∨ fld w 0 24 % 2 ^ lg ≠ 0)

/-- R70, R165: replies go to the REPLY sinks, or nowhere. -/
def State.bmReply (s : State) (q : Nat) (l : List Tok) : State :=
  let b := s.bport q
  s.setBport q { b with req := none, data := [],
                        rep := if (s.sinksOf (q / 4) (172 + q % 4)).isEmpty then [] else l, taken := [] }

/-- R118, R171: a poisoned access is refused: PDROP and the poison alarm. -/
def State.bmPoison (s : State) (q : Nat) : State :=
  (s.sticky (bmReg (q / 2) 4) 29).poison (q / 68) .blk

/-- The twin member's cluster of a paired region's cluster (R328), while the pair runs on both. -/
def State.twinOf (s : State) (g : Nat) : Option Nat :=
  match s.logicalOf g with
  | some lc =>
    if s.paired (g / 17) && (s.pair (g / 17 * 8 + lc / 2)).trusted.isNone then
      some (s.gOf (g / 17) (if lc % 2 = 0 then lc + 1 else lc - 1))
    else none
  | none => none

/-- The n entries of memory b from offset o. -/
def State.bmEntry (s : State) (b o n : Nat) : List (Byte × Bool) := (List.range n).map (fun i => s.bmGet b (o + i))

/-- A reply token of up to four bytes, P = 1 when one of them fails (R167, R170). -/
def bmToken (l : List (Byte × Bool)) : Tok := ⟨BitVec.ofNat 32 (ofLE (l.map (·.1))), l.any (·.2), false⟩

/-- R167: the reply tokens of an entry: one, or two at ×64. -/
def bmTokens (l : List (Byte × Bool)) : List Tok :=
  if l.length ≤ 4 then [bmToken l] else [bmToken (l.take 4), bmToken (l.drop 4)]

/-- R170: the counts, sticky bit and report of a lasting parity error at offset o. -/
def State.bmLasting (s : State) (b o : Nat) (delivered : Bool) : State :=
  let s1 := (s.count (bmReg b 8) 8 8 1).rsetf (bmReg b 4) 0 14 o
  if delivered then (s1.sticky (bmReg b 4) 30).lasting (b / 34) 8 (b / 2 % 17) 0 3 else s1

/-- R167, R170, R328: a read of an entry: the state after it, and its reply tokens. Where the twin's entry fails too, the entry as copied from it
is read again, so that both members reply alike. An error repaired from the twin is counted but not delivered (log entry 151). -/
def State.bmReadEntry (s : State) (q o lg : Nat) (glitch : Bool) : State × List Tok :=
  let b := q / 2
  let n := 2 ^ lg
  let e := s.bmEntry b o n
  if e.any (·.2) then
    match s.twinOf (q / 4) with
    | some g' =>
      let b' := g' * 2 + b % 2
      let e' := s.bmEntry b' o n
      if e'.any (·.2) then ((s.bmStoreRaw b o e').bmLasting b o true, bmTokens e')
      else
        let s1 := ((s.bmStore b o (e'.map (·.1))).bmLasting b o false).count (tnkErr (b / 34)) 0 4 1
        (s1, bmTokens e')
    | none => (s.bmLasting b o true, bmTokens e)
  else (if glitch then s.count (bmReg b 8) 0 8 1 else s, bmTokens e)

/-- BM_READ (R166, R167, R170, R171): port q answers the read at its REQ input. `hits` are flips of stored bits of the entry's bytes
since they were last used; `glitch` is an upset of the first read alone. -/
def execBmRead (q : Fin 2176) (hits : List (Fin 8 × Fin 9)) (glitch : Bool) (s : State) : Out :=
  let q := q.val
  let b := s.bport q
  match b.req with
  | none => ok s
  | some w =>
    let lg := s.bmWidth q
    let twice (t : Tok) : List Tok := if lg = 3 then [t, t] else [t]
    if decide (fld w.d 30 2 = 1) || !b.rep.isEmpty then ok s
    else if w.p then ok ((s.bmPoison q).bmReply q (twice { p := true }))
    else if bmForbidden w.d lg then ok ((s.viol .bm (q / 2)).bmReply q (twice {}))
    else
      let o := fld w.d 0 14
      let s1 := s.each (hits.filter (fun h => decide (h.1.val < 2 ^ lg))) (fun s h => s.bmHit (q / 2) (o + h.1.val) h.2.val)
      let (s2, l) := s1.bmReadEntry q o lg glitch
      ok (s2.bmReply q l)

/-- A port's complete write: offset, bytes; none while its data has not come, or if it will be refused. -/
def State.bmPending (s : State) (q : Nat) : Option (Nat × List Byte) :=
  let b := s.bport q
  let lg := s.bmWidth q
  match b.req with
  | some w =>
    if fld w.d 30 2 = 1 ∧ b.data.length = (if lg = 3 then 2 else 1) ∧ !w.p ∧ !(b.data.any (·.p)) ∧ !(bmForbidden w.d lg) then
      some (fld w.d 0 14, (b.data.flatMap (fun t => leBytes 4 t.d.toNat)).take (2 ^ lg))
    else none
  | none => none

/-- R172: the read a port has waiting: offset and width in bytes. -/
def State.bmPendingRead (s : State) (q : Nat) : Option (Nat × Nat) :=
  match (s.bport q).req with
  | some w =>
    let lg := s.bmWidth q
    if fld w.d 30 2 ≠ 1 ∧ !w.p ∧ !(bmForbidden w.d lg) then some (fld w.d 0 14, 2 ^ lg) else none
  | none => none

/-- The other port of the same memory. -/
def otherPort (q : Nat) : Nat := if q % 2 = 0 then q + 1 else q - 1

/-- R172: some byte both writes cover differs. -/
def collide (o : Nat) (l : List Byte) (o' : Nat) (l' : List Byte) : Bool :=
  (List.range l.length).any (fun i => decide (o' ≤ o + i) && decide (o + i < o' + l'.length) && decide (nth 0 l i ≠ nth 0 l' (o + i - o')))

/-- R327: the spare's cluster that mirrors a trusted member's writes while the pair is brought back. -/
def State.mirror (s : State) (g : Nat) : Option Nat :=
  let r := g / 17
  match s.logicalOf g with
  | some lc =>
    let p := s.pair (r * 8 + lc / 2)
    if s.paired r && s.spareSt r == 1 && p.trusted == some (lc % 2) && p.copied then some (r * 17 + s.sparePhy r) else none
  | none => none

/-- R167, R171, R172: port q stores the write whose data has come. A read of the other port that contends goes first; a contending write of other
data sets WCOL. -/
def State.bmWriteNow (s : State) (q : Nat) : State :=
  let b := s.bport q
  let lg := s.bmWidth q
  match b.req with
  | none => s
  | some w =>
    let clear (s : State) : State := s.setBport q { s.bport q with req := none, data := [] }
    if decide (fld w.d 30 2 ≠ 1) || decide (b.data.length < (if lg = 3 then 2 else 1)) then s
    else if w.p || b.data.any (·.p) then clear (s.bmPoison q)
    else match s.bmPending q with
      | none => clear (s.viol .bm (q / 2))
      | some (o, l) =>
        let first := match s.bmPendingRead (otherPort q) with
          | some (o', n) => decide (o < o' + n) && decide (o' < o + l.length)
          | none => false
        if first then s
        else
          let s1 := match s.bmPending (otherPort q) with
            | some (o', l') => if collide o l o' l' then s.sticky (bmReg (q / 2) 4) 31 else s
            | none => s
          let s2 := s1.bmStore (q / 2) o l
          let s3 := match s.mirror (q / 4) with
            | some g' => s2.bmStore (g' * 2 + q % 4 / 2) o l
            | none => s2
          clear s3

/-- BM_WRITE (R167, R171, R172): port q performs the write it has taken, from the start-up step WRITES on (R368) and until the region's frames are
rewritten (R174). -/
def execBmWrite (q : Fin 2176) (s : State) : Out :=
  ok (if (s.region (q.val / 68)).writes then s.bmWriteNow q.val else s)

/-- R173: memory b holds zero everywhere with right parity. -/
def State.bmZero (s : State) (b : Nat) : State :=
  let s1 := s.setBmem b { s.bmem b with base := 0 }
  { s1 with bbytes := s1.bbytes.filter (fun e => e.1 / 16384 != b) }

/-- R173: a memory's INIT mode clears it: ZERO, the reserved mode, and KEEP after the cluster was Cold. -/
def State.bmClears (s : State) (b : Nat) : Bool :=
  let m := s.blkCfg (b / 2) (b % 2) / 1024 % 4
  decide (m = 1 ∨ m = 3) || (decide (m = 2) && (s.bmem b).cold)

/-- R444: set-reset of a restored cluster is released once both its memories have run their INIT modes. -/
def State.freeCluster (s : State) (g : Nat) : State :=
  if (s.clu g).reset && !(s.bmem (2 * g)).busy && !(s.bmem (2 * g + 1)).busy then
    (s.each (List.range 64) (fun s n => s.resetCell (g * 64 + n))).setClu g { s.clu g with reset := false }
  else s

/-- BM_INIT_DONE (R173): the running initialisation of memory b ends. -/
def execBmInitDone (b : Fin 1088) (s : State) : Out :=
  let b := b.val
  if (s.bmem b).busy then
    let s1 := if s.bmClears b then s.bmZero b else s
    ok (((s1.setBmem b { s1.bmem b with busy := false, cold := false }).sticky (bmReg b 4) 28).freeCluster (b / 2))
  else ok s

end Sys2Proof.Machine
end

