-- ==== Sys2Proof/Machine/Crypto.lean ====
section
/-! DEFINITION. The published algorithms of R382: SHA-256 (FIPS 180-4), AES-256 (FIPS 197) in GCM (SP 800-38D), RSA-3072 signatures
(RFC 8017). PRESUMED: their tables and steps are the standards', which the manual names and does not copy (log entry 33). -/

namespace Sys2Proof.Machine

/-- FIPS 180-4: the round constants. -/
def shaK : List Word :=
  [0x428A2F98, 0x71374491, 0xB5C0FBCF, 0xE9B5DBA5, 0x3956C25B, 0x59F111F1, 0x923F82A4, 0xAB1C5ED5,
   0xD807AA98, 0x12835B01, 0x243185BE, 0x550C7DC3, 0x72BE5D74, 0x80DEB1FE, 0x9BDC06A7, 0xC19BF174,
   0xE49B69C1, 0xEFBE4786, 0x0FC19DC6, 0x240CA1CC, 0x2DE92C6F, 0x4A7484AA, 0x5CB0A9DC, 0x76F988DA,
   0x983E5152, 0xA831C66D, 0xB00327C8, 0xBF597FC7, 0xC6E00BF3, 0xD5A79147, 0x06CA6351, 0x14292967,
   0x27B70A85, 0x2E1B2138, 0x4D2C6DFC, 0x53380D13, 0x650A7354, 0x766A0ABB, 0x81C2C92E, 0x92722C85,
   0xA2BFE8A1, 0xA81A664B, 0xC24B8B70, 0xC76C51A3, 0xD192E819, 0xD6990624, 0xF40E3585, 0x106AA070,
   0x19A4C116, 0x1E376C08, 0x2748774C, 0x34B0BCB5, 0x391C0CB3, 0x4ED8AA4A, 0x5B9CCA4F, 0x682E6FF3,
   0x748F82EE, 0x78A5636F, 0x84C87814, 0x8CC70208, 0x90BEFFFA, 0xA4506CEB, 0xBEF9A3F7, 0xC67178F2]

/-- FIPS 180-4: the initial hash value. -/
def shaH : List Word := [0x6A09E667, 0xBB67AE85, 0x3C6EF372, 0xA54FF53A, 0x510E527F, 0x9B05688C, 0x1F83D9AB, 0x5BE0CD19]

/-- FIPS 180-4: the message followed by a one bit, zeros, and its length in bits. -/
def shaPad (l : List Byte) : List Byte :=
  l ++ [0x80#8] ++ List.replicate ((119 - l.length % 64) % 64) 0#8 ++ beBytes 8 (8 * l.length)

/-- Big-endian words of a byte string. -/
def beWords : Nat → List Byte → List Word
  | 0, _ => []
  | k + 1, l => BitVec.ofNat 32 (beAt l 0 4) :: beWords k (l.drop 4)

/-- FIPS 180-4: one more word of the message schedule, newest first. -/
def shaNext (r : List Word) : List Word :=
  let w (i : Nat) : Word := nth 0 r i
  let s0 := (w 14).rotateRight 7 ^^^ (w 14).rotateRight 18 ^^^ (w 14 >>> 3)
  let s1 := (w 1).rotateRight 17 ^^^ (w 1).rotateRight 19 ^^^ (w 1 >>> 10)
  (s1 + w 6 + s0 + w 15) :: r

/-- FIPS 180-4: one round on the eight working variables. -/
def shaRound (v : List Word) (kw : Word) : List Word :=
  match v with
  | [a, b, c, d, e, f, g, h] =>
    let t1 := h + (e.rotateRight 6 ^^^ e.rotateRight 11 ^^^ e.rotateRight 25) + ((e &&& f) ^^^ (~~~e &&& g)) + kw
    let t2 := (a.rotateRight 2 ^^^ a.rotateRight 13 ^^^ a.rotateRight 22) + ((a &&& b) ^^^ (a &&& c) ^^^ (b &&& c))
    [t1 + t2, a, b, c, d + t1, e, f, g]
  | _ => v

/-- FIPS 180-4: one block of 64 bytes. -/
def shaBlock (h : List Word) (blk : List Byte) : List Word :=
  let w := (iter shaNext 48 (beWords 16 blk).reverse).reverse
  let v := (w.zip shaK).foldl (fun v e => shaRound v (e.1 + e.2)) h
  (h.zip v).map (fun e => e.1 + e.2)

/-- All the blocks of a padded message. -/
def shaBlocks : Nat → List Word → List Byte → List Word
  | 0, h, _ => h
  | k + 1, h, l => shaBlocks k (shaBlock h (l.take 64)) (l.drop 64)

/-- SHA-256: the digest's 32 bytes. -/
def sha256 (l : List Byte) : List Byte :=
  let p := shaPad l
  (shaBlocks (p.length / 64) shaH p).flatMap (fun w => beBytes 4 w.toNat)

/-- FIPS 197: the substitution table, part 1. -/
def aesSA : List Byte :=
  [0x63, 0x7C, 0x77, 0x7B, 0xF2, 0x6B, 0x6F, 0xC5, 0x30, 0x01, 0x67, 0x2B, 0xFE, 0xD7, 0xAB, 0x76,
   0xCA, 0x82, 0xC9, 0x7D, 0xFA, 0x59, 0x47, 0xF0, 0xAD, 0xD4, 0xA2, 0xAF, 0x9C, 0xA4, 0x72, 0xC0,
   0xB7, 0xFD, 0x93, 0x26, 0x36, 0x3F, 0xF7, 0xCC, 0x34, 0xA5, 0xE5, 0xF1, 0x71, 0xD8, 0x31, 0x15,
   0x04, 0xC7, 0x23, 0xC3, 0x18, 0x96, 0x05, 0x9A, 0x07, 0x12, 0x80, 0xE2, 0xEB, 0x27, 0xB2, 0x75]

/-- FIPS 197: the substitution table, part 2. -/
def aesSB : List Byte :=
  [0x09, 0x83, 0x2C, 0x1A, 0x1B, 0x6E, 0x5A, 0xA0, 0x52, 0x3B, 0xD6, 0xB3, 0x29, 0xE3, 0x2F, 0x84,
   0x53, 0xD1, 0x00, 0xED, 0x20, 0xFC, 0xB1, 0x5B, 0x6A, 0xCB, 0xBE, 0x39, 0x4A, 0x4C, 0x58, 0xCF,
   0xD0, 0xEF, 0xAA, 0xFB, 0x43, 0x4D, 0x33, 0x85, 0x45, 0xF9, 0x02, 0x7F, 0x50, 0x3C, 0x9F, 0xA8,
   0x51, 0xA3, 0x40, 0x8F, 0x92, 0x9D, 0x38, 0xF5, 0xBC, 0xB6, 0xDA, 0x21, 0x10, 0xFF, 0xF3, 0xD2]

/-- FIPS 197: the substitution table, part 3. -/
def aesSC : List Byte :=
  [0xCD, 0x0C, 0x13, 0xEC, 0x5F, 0x97, 0x44, 0x17, 0xC4, 0xA7, 0x7E, 0x3D, 0x64, 0x5D, 0x19, 0x73,
   0x60, 0x81, 0x4F, 0xDC, 0x22, 0x2A, 0x90, 0x88, 0x46, 0xEE, 0xB8, 0x14, 0xDE, 0x5E, 0x0B, 0xDB,
   0xE0, 0x32, 0x3A, 0x0A, 0x49, 0x06, 0x24, 0x5C, 0xC2, 0xD3, 0xAC, 0x62, 0x91, 0x95, 0xE4, 0x79,
   0xE7, 0xC8, 0x37, 0x6D, 0x8D, 0xD5, 0x4E, 0xA9, 0x6C, 0x56, 0xF4, 0xEA, 0x65, 0x7A, 0xAE, 0x08]

/-- FIPS 197: the substitution table, part 4. -/
def aesSD : List Byte :=
  [0xBA, 0x78, 0x25, 0x2E, 0x1C, 0xA6, 0xB4, 0xC6, 0xE8, 0xDD, 0x74, 0x1F, 0x4B, 0xBD, 0x8B, 0x8A,
   0x70, 0x3E, 0xB5, 0x66, 0x48, 0x03, 0xF6, 0x0E, 0x61, 0x35, 0x57, 0xB9, 0x86, 0xC1, 0x1D, 0x9E,
   0xE1, 0xF8, 0x98, 0x11, 0x69, 0xD9, 0x8E, 0x94, 0x9B, 0x1E, 0x87, 0xE9, 0xCE, 0x55, 0x28, 0xDF,
   0x8C, 0xA1, 0x89, 0x0D, 0xBF, 0xE6, 0x42, 0x68, 0x41, 0x99, 0x2D, 0x0F, 0xB0, 0x54, 0xBB, 0x16]

/-- FIPS 197: the substitution of a byte. -/
def subByte (b : Byte) : Byte := nth 0 (aesSA ++ (aesSB ++ (aesSC ++ aesSD))) b.toNat

/-- FIPS 197: a word's bytes substituted. -/
def subWord (w : Word) : Word := BitVec.ofNat 32 (ofBE ((beBytes 4 w.toNat).map subByte))

/-- FIPS 197: multiplication by x. -/
def xtime (b : Byte) : Byte := if b.getLsbD 7 then (b <<< 1) ^^^ 0x1B#8 else b <<< 1

/-- FIPS 197: key word i of an AES-256 key schedule from those before it, newest first. -/
def aesNext (r : List Word) (rcon : Byte) : List Word :=
  let i := r.length
  let t := nth 0 r 0
  let x := if i % 8 = 0 then subWord (t.rotateLeft 8) ^^^ (rcon.setWidth 32 <<< 24)
    else if i % 8 = 4 then subWord t else t
  (nth 0 r 7 ^^^ x) :: r

/-- FIPS 197: the 60 words of the key schedule; the key's 32 bytes in order. -/
def aesKeys (key : List Byte) : List Word :=
  ((List.range 52).foldl (fun s _ =>
    let (r, rc) := s
    (aesNext r rc, if r.length % 8 = 0 then xtime rc else rc)) ((beWords 8 key).reverse, 1#8)).1.reverse

/-- FIPS 197: ShiftRows on the 16 bytes of a block. -/
def shiftRows (b : List Byte) : List Byte := (List.range 16).map (fun i => nth 0 b ((i + 4 * (i % 4)) % 16))

/-- FIPS 197: MixColumns. -/
def mixColumns (b : List Byte) : List Byte :=
  (List.range 16).map (fun i =>
    let c := i / 4 * 4
    let a (k : Nat) : Byte := nth 0 b (c + (i + k) % 4)
    xtime (a 0) ^^^ (xtime (a 1) ^^^ a 1) ^^^ a 2 ^^^ a 3)

/-- Two byte strings combined bit by bit. -/
def xorBytes (a b : List Byte) : List Byte := (a.zip b).map (fun e => e.1 ^^^ e.2)

/-- FIPS 197: the bytes of round key k. -/
def roundKey (ks : List Word) (k : Nat) : List Byte := ((ks.drop (4 * k)).take 4).flatMap (fun w => beBytes 4 w.toNat)

/-- FIPS 197: AES-256 encryption of one block under an expanded key. -/
def aesBlock (ks : List Word) (b : List Byte) : List Byte :=
  let s := (List.range 13).foldl (fun s k => xorBytes (mixColumns (shiftRows (s.map subByte))) (roundKey ks (k + 1)))
    (xorBytes b (roundKey ks 0))
  xorBytes (shiftRows (s.map subByte)) (roundKey ks 14)

/-- R378: the check value of a key: bits [23:0] of AES-256 of a zero block, the block read as a number of 128 bits, most significant byte
first (log entry 33). -/
def kcvOf (key : BitVec 256) : Nat := ofBE (aesBlock (aesKeys (beBytes 32 key.toNat)) (List.replicate 16 0)) % 2 ^ 24

/-- SP 800-38D: multiplication of blocks. -/
def gmul (x y : BitVec 128) : BitVec 128 :=
  ((List.range 128).foldl (fun s i =>
    let (z, v) := s
    (if x.getLsbD (127 - i) then z ^^^ v else z,
     if v.getLsbD 0 then (v >>> 1) ^^^ ((0xE1#128) <<< 120) else v >>> 1)) ((0#128), y)).1

/-- SP 800-38D: GHASH of whole blocks, the last filled with zeros. -/
def ghash (h : BitVec 128) : Nat → BitVec 128 → List Byte → BitVec 128
  | 0, y, _ => y
  | k + 1, y, l => ghash h k (gmul (y ^^^ BitVec.ofNat 128 (ofBE (padTo 16 (l.take 16)))) h) (l.drop 16)

/-- Blocks of 16 bytes that a byte string takes. -/
def blocks16 (l : List Byte) : Nat := (l.length + 15) / 16

/-- SP 800-38D: counter mode from counter c. -/
def gctr (ks : List Word) (iv : List Byte) : Nat → Nat → List Byte → List Byte
  | 0, _, _ => []
  | k + 1, c, l => xorBytes (l.take 16) (aesBlock ks (iv ++ beBytes 4 c)) ++ gctr ks iv k (c + 1) (l.drop 16)

/-- SP 800-38D: the 16 bytes of the tag of a ciphertext with its additional data, under a 96-bit IV. -/
def gcmTag (key : BitVec 256) (iv aad ct : List Byte) : List Byte :=
  let ks := aesKeys (beBytes 32 key.toNat)
  let h := BitVec.ofNat 128 (ofBE (aesBlock ks (List.replicate 16 0)))
  let y := ghash h (blocks16 ct) (ghash h (blocks16 aad) 0 aad) ct
  let z := gmul (y ^^^ BitVec.ofNat 128 (8 * aad.length * 2 ^ 64 + 8 * ct.length)) h
  xorBytes (beBytes 16 z.toNat) (aesBlock ks (iv ++ beBytes 4 1))

/-- SP 800-38D: the plaintext of a ciphertext. -/
def gcmPlain (key : BitVec 256) (iv ct : List Byte) : List Byte :=
  gctr (aesKeys (beBytes 32 key.toNat)) iv (blocks16 ct) 2 ct

/-- RFC 8017: the encoded message of EMSA-PKCS1-v1_5 with SHA-256, 384 bytes, as a number. -/
def emsaOf (digest : List Byte) : Nat :=
  ofBE ([0#8, 1#8] ++ List.replicate 330 0xFF#8 ++ [0#8] ++
    [0x30, 0x31, 0x30, 0x0D, 0x06, 0x09, 0x60, 0x86, 0x48, 0x01, 0x65, 0x03, 0x04, 0x02, 0x01, 0x05, 0x00, 0x04, 0x20] ++ digest)

/-- RFC 8017: a signature, as a number, verifies under modulus n with exponent 65,537. -/
def rsaOk (n sig : Nat) (digest : List Byte) : Bool :=
  decide (0 < n) && decide (sig < n) && decide (iter (fun x => x * x % n) 16 sig * sig % n = emsaOf digest)

end Sys2Proof.Machine
end

