-- ==== Sys2Proof/Machine/Ferries.lean ====
section
/-! DEFINITION. Ferries between handshake and clock (R456 to R467): the up-ferries and down-ferries of the base seams, and their registers. -/

namespace Sys2Proof.Machine

/-- A ferry's registers. -/
def upReg (n off : Nat) : Reg := ⟨.fryUp, n, off⟩
def dnReg (n off : Nat) : Reg := ⟨.fryDn, n, off⟩

/-- R457, R462: what a ferry's CFG makes of it. -/
inductive FKind where
  | off | word | latest | pulse | stream
  deriving DecidableEq, Repr

/-- The kind a CFG selects; DEST = 0b11 makes a latest-value word ferry of an up-ferry, and is Off in a down-ferry (R456, R457). A ferry
that is not enabled acts as Off. -/
def kindOf (cfg : RegVal) (up : Bool) : FKind :=
  let dest := fld cfg 29 2
  if !bit cfg 31 then .off
  else match dest with
    | 0 => .off
    | 3 => if up then .latest else .off
    | _ => match fld cfg 27 2 with
      | 1 => .pulse
      | 2 => .stream
      | _ => if bit cfg 26 then .latest else .word

/-- Entries of a ferry that blocks (R460). -/
def FKind.room : FKind → Nat
  | .stream => 8
  | .word => 1
  | _ => 0

/-- The channel that ends at up-ferry n, with a token in its last stage. -/
def State.upHead (s : State) (n : Nat) : Option (Nat × Tok) :=
  match s.chanInto (epSeam (n / 32) (n % 32)) with
  | some ch => (s.chan ch).last.map (fun t => (ch, t))
  | none => none

/-- R125: the report of a token that up-ferry n takes at the base seam of its die (R140). -/
def State.ferryCode (s : State) (n : Nat) (bad : BitVec 17) : State := s.codeReport bad (placeKey 5 n) (n / 32 * 8) none none

/-- UP_FERRY_TOKEN (R457, R460): the token at the end of the channel is taken: discarded by an Off ferry, overwriting the held value in
latest-value mode, waiting for room in a blocking one. Pulse ferries take PULSE_TOKEN. `n.bad` is of its code (R125). -/
def execUpFerryToken (n : Coded (Fin 128)) (s : State) : Out :=
  let bad := n.bad
  let n := n.val.val
  match s.upHead n with
  | none => ok s
  | some (ch, t0) =>
    let f := s.upf n
    let t := garble bad s.freeNow t0
    let taken := (s.setChan ch (s.chan ch).pop).ferryCode n bad
    match kindOf (s.rget (upReg n 0)) true with
    | .off => ok taken
    | .pulse => ok s
    | .latest => ok (taken.setUpf n { f with q := [t] })
    | k => if f.q.length < k.room then ok (taken.setUpf n { f with q := f.q ++ [t] }) else ok s

/-- R462: one pulse at a ferry: a transfer starts, or CNT counts it, or it is lost with OVERRUN. -/
def pulseIn (s : State) (f : Ferry) (stat : Reg) (p : Bool) (set : State → Ferry → State) : State :=
  match f.xfer with
  | none => set s { f with xfer := some (1, p) }
  | some _ =>
    if s.rf stat 0 4 = 15 then s.sticky stat 30
    else set (s.rsetf stat 0 4 (s.rf stat 0 4 + 1)) { f with cntP := f.cntP || p }

/-- PULSE_TOKEN (R462): a token at an up-ferry with KIND = pulse is one pulse. -/
def execPulseToken (n : Coded (Fin 128)) (s : State) : Out :=
  let bad := n.bad
  let n := n.val.val
  match s.upHead n with
  | none => ok s
  | some (ch, t) =>
    if kindOf (s.rget (upReg n 0)) true = .pulse then
      ok (pulseIn ((s.setChan ch (s.chan ch).pop).ferryCode n bad) (s.upf n) (upReg n 4) (t.p || bad != 0) (fun s f => s.setUpf n f))
    else ok s

/-- R462: the transfer of a pulse ferry has been accepted: the next starts at once with CNT. -/
def pulseNext (s : State) (f : Ferry) (stat : Reg) (set : State → Ferry → State) : State :=
  let c := s.rf stat 0 4
  if c = 0 then set s { f with xfer := none, crossed := false }
  else set (s.rsetf stat 0 4 0) { f with xfer := some (c, f.cntP), cntP := false, crossed := false }

/-- FRY_UPn_RX with a word, or a count, and VALID (R467). -/
def rxWord (t : Tok) : RegVal := putB 34 true + putB 33 t.f + putB 32 t.p + t.d.setWidth 64
def rxCount (c : Nat) (p : Bool) : RegVal := put 35 c + putB 34 true + putB 32 p

/-- R460, R462: a word, a stream entry or a count crosses into RX. -/
def State.upCross (s : State) (n : Nat) : State :=
  let f := s.upf n
  let c := s.rget (upReg n 0)
  let empty := !s.rb (upReg n 8) 34
  if fld c 29 2 ≠ 1 then s
  else match kindOf c true, f.q, f.xfer with
    | .latest, t :: _, _ => (s.setUpf n { f with q := [] }).rput (upReg n 8) (rxWord t)
    | .pulse, _, some (k, p) =>
      if empty then pulseNext (s.rput (upReg n 8) (rxCount k p)) f (upReg n 4) (fun s f => s.setUpf n f) else s
    | .word, t :: q, _ => if empty then (s.setUpf n { f with q := q }).rput (upReg n 8) (rxWord t) else s
    | .stream, t :: q, _ => if empty then (s.setUpf n { f with q := q }).rput (upReg n 8) (rxWord t) else s
    | _, _, _ => s

/-- A value of a down-ferry has crossed and stands before the first stage of its channel. -/
def State.dnCross (s : State) (n : Nat) : State :=
  let f := s.dnf n
  if f.q.isEmpty && f.xfer.isNone then s else s.setDnf n { f with crossed := true }

/-- FERRY_TRANSFER_COMPLETE (R460, R463). -/
def execFerryTransferComplete (w : FerryRef) (s : State) : Out :=
  match w with
  | .up n => ok (s.upCross n.val)
  | .dn n => ok (s.dnCross n.val)
  | .tap _ => ok s

/-- UNSETTLED (R459): eight disagreeing pairs in a row, which only a latest-value ferry can meet; a tap has no bit to show it. -/
def execUnsettled (w : FerryRef) (s : State) : Out :=
  match w with
  | .up n => if kindOf (s.rget (upReg n.val 0)) true = .latest then ok (s.sticky (upReg n.val 4) 31) else ok s
  | .dn n => if kindOf (s.rget (dnReg n.val 0)) false = .latest then ok (s.sticky (dnReg n.val 4) 31) else ok s
  | .tap _ => ok s

/-- R462: a write to FRY_DNn_PULSE. -/
def State.pulseGo (s : State) (n : Nat) (v : Word) : State :=
  let c := s.rget (dnReg n 0)
  if bit v 0 && kindOf c false == .pulse && fld c 29 2 == 1 then
    pulseIn s (s.dnf n) (dnReg n 4) false (fun s f => s.setDnf n f)
  else s

/-- PULSE_WRITE (R462, R467). -/
def execPulseWrite (iss : Issuer) (n : Fin 128) (v : Word) (s : State) : Out :=
  ok (s.guarded iss .fryDn n.val (fun s => s.pulseGo n.val v))

/-- R464: a read of RX that is not quiet pops the word, but for latest-value mode. -/
def State.rxPop (s : State) (n : Nat) : State :=
  if kindOf (s.rget (upReg n 0)) true = .latest then s else s.rput (upReg n 8) 0

/-- RX_READ (R464): any issuer may read; a debug read is quiet (R10). -/
def execRxRead (iss : Issuer) (n : Fin 128) (s : State) : Out :=
  let s1 := { s with rdata := s.rget (upReg n.val 8) }
  ok (if iss = .debug then s1 else s1.rxPop n.val)

/-- R464: a write to FRY_DNn_TX. -/
def State.txPut (s : State) (n : Nat) (v : BitVec 64) : State :=
  let c := s.rget (dnReg n 0)
  let f := s.dnf n
  let t : Tok := ⟨v.setWidth 32, bit v 32, bit v 33⟩
  if fld c 29 2 ≠ 1 then s
  else match kindOf c false with
    | .latest => s.setDnf n { f with q := [t] }
    | .word => if f.q.length < 1 then s.setDnf n { f with q := f.q ++ [t] } else s.sticky (dnReg n 4) 29
    | .stream => if f.q.length < 8 then s.setDnf n { f with q := f.q ++ [t] } else s.sticky (dnReg n 4) 29
    | _ => s

/-- TX_WRITE (R464, R467). -/
def execTxWrite (iss : Issuer) (n : Fin 128) (v : BitVec 64) (s : State) : Out :=
  ok (s.guarded iss .fryDn n.val (fun s => s.txPut n.val v))

/-- R458: a write of value v to a CFG that holds `old` is applied: the image does not own the ferry, DEST is not written 0b10, EN = 0 or only
EN changes. -/
def cfgAllowed (old new : RegVal) : Bool :=
  decide (fld old 29 2 ≠ 2) && decide (fld new 29 2 ≠ 2) &&
    (!bit old 31 || decide (setBit new 31 true = old))

/-- R458: another enabled up-ferry names the Tally port that the value names. -/
def State.portTaken (s : State) (n : Nat) (new : RegVal) : Bool :=
  decide (fld new 29 2 = 3) && (List.range 128).any (fun m =>
    let c := s.rget (upReg m 0)
    m != n && bit c 31 && decide (fld c 29 2 = 3) && decide (fld c 16 4 = fld new 16 4))

/-- R458: writes to a CFG. -/
def State.upCfg (s : State) (n : Nat) (v : Word) : State :=
  let g := upReg n 0
  let new : RegVal := v.setWidth 64 &&& 0xFC0F0000
  if cfgAllowed (s.rget g) new && !s.portTaken n new then s.rput g new else s.viol .fryUp n
def State.dnCfg (s : State) (n : Nat) (v : Word) : State :=
  let g := dnReg n 0
  let new : RegVal := v.setWidth 64 &&& 0xFC000000
  if cfgAllowed (s.rget g) new then s.rput g new else s.viol .fryDn n

/-- FERRY_CFG_WRITE (R458, R467). -/
def execFerryCfgWrite (iss : Issuer) (w : FerryRef) (v : Word) (s : State) : Out :=
  ok (s.guarded iss .fry 0 (fun s => match w with
    | .up n => s.upCfg n.val v
    | .dn n => s.dnCfg n.val v
    | .tap _ => s))

end Sys2Proof.Machine
end

