-- ==== Sys2Proof/Machine/Pin.lean ====
section
/-! DEFINITION. Pin cells (R221 to R248): pairs and their actions, the mark queue and its evaluation, windows, captures, parking, and the spine frame as a region takes it (R58, R60, R244). -/

namespace Sys2Proof.Machine

/-- A pin cell's registers. -/
def pinReg (p off : Nat) : Reg := ⟨.pin, p, off⟩

/-- PIN_CTL.FPARK (R245). -/
def State.fparked (s : State) (p : Nat) : Bool := s.rb (pinReg p 4) 31

/-- The part of the frame current in the pin cell's region that belongs to its line. -/
def State.pinLine (s : State) (p : Nat) : LFrame := nth {} (s.spineOf (pinRegion p)).lines (s.rf (pinReg p 0) 26 3)

/-- The same of the interval before. -/
def State.pinLinePrev (s : State) (p : Nat) : LFrame := nth {} (s.spinePrev (pinRegion p)).lines (s.rf (pinReg p 0) 26 3)

/-- R223, R226, R368: the pair a pin cell takes now: both tokens present, outputs released, and fewer than four marks armed. -/
def State.pairAt (s : State) (p : Nat) : Option (Tok × Tok) :=
  let c := s.pin p
  match c.mt, c.mc with
  | some t, some m => if (s.region (pinRegion p)).out && decide (c.q.length < 4) then some (t, m) else none
  | _, _ => none

/-- R224: ACT of a command word. -/
def actOf (m : Tok) : Nat := fld m.d 12 4

/-- The pair is consumed. -/
def State.eatPair (s : State) (p : Nat) : State := s.setPin p { s.pin p with mt := none, mc := none }

/-- A pair with an action the test names is taken: discarded and counted where FUNC takes no such pair (R222), else `f` acts on its
tokens. -/
def State.pairDo (s : State) (p : Nat) (act : Nat → Bool) (f : State → Tok → Tok → State) : State :=
  match s.pairAt p with
  | none => s
  | some (t, m) =>
    if t.p || m.p || !act (actOf m) then s
    else
      let s1 := s.eatPair p
      let fn := s.pinFunc p
      if fn = 0 ∨ fn = 4 ∨ (fn = 2 ∧ actOf m ≠ 8 ∧ actOf m ≠ 9) then s1.viol .pin p else f s1 t m

/-- R226, R244, R245: a mark is armed; with FPARK = 1 it is discarded; on an invalid line with PARKINV = 1 it is discarded and counted
in LATECNT. -/
def State.arm (s : State) (p : Nat) (t m : Tok) : State :=
  if s.fparked p then s
  else if s.rb (pinReg p 0) 22 && !(s.pinLine p).valid then s.count (pinReg p 0x20) 24 8 1
  else s.setPin p { s.pin p with q := (s.pin p).q ++ [⟨t.d, m.d.setWidth 16, false⟩] }

/-- MARK_NOP (R225). -/
def execMarkNop (p : Fin 768) (s : State) : Out := ok (s.pairDo p.val (· == 0) (fun s _ _ => s))

/-- MARK_LOW (R225, R226). -/
def execMarkLow (p : Fin 768) (s : State) : Out := ok (s.pairDo p.val (· == 1) (fun s t m => s.arm p.val t m))

/-- MARK_HIGH (R225, R226). -/
def execMarkHigh (p : Fin 768) (s : State) : Out := ok (s.pairDo p.val (· == 2) (fun s t m => s.arm p.val t m))

/-- MARK_TOGGLE (R225, R226). -/
def execMarkToggle (p : Fin 768) (s : State) : Out := ok (s.pairDo p.val (· == 3) (fun s t m => s.arm p.val t m))

/-- MARK_FLOAT (R225, R226). -/
def execMarkFloat (p : Fin 768) (s : State) : Out := ok (s.pairDo p.val (· == 4) (fun s t m => s.arm p.val t m))

/-- MARK_PARK (R225, R226). -/
def execMarkPark (p : Fin 768) (s : State) : Out := ok (s.pairDo p.val (· == 5) (fun s t m => s.arm p.val t m))

/-- R234: an open bound staged or not, as PIN_STAT.WSTAGED shows. -/
def State.stage (s : State) (p : Nat) (b : Option Word) : State := s.setPin p { s.pin p with staged := b }

/-- WOPEN (R234). -/
def execWopen (p : Fin 768) (s : State) : Out := ok (s.pairDo p.val (· == 8) (fun s t _ => s.stage p.val (some t.d)))

/-- WCLOSE (R234): both bounds commit together; with nothing staged, the committed open stays. -/
def execWclose (p : Fin 768) (s : State) : Out :=
  ok (s.pairDo p.val (· == 9) (fun s t _ =>
    let c := s.pin p.val
    s.setPin p.val { c with wopen := c.staged.getD c.wopen, wclose := t.d, staged := none }))

/-- Every armed mark is discarded. -/
def State.cancelMarks (s : State) (p : Nat) : State := s.setPin p { s.pin p with q := [] }

/-- CANCEL (R225). -/
def execCancel (p : Fin 768) (s : State) : Out := ok (s.pairDo p.val (· == 10) (fun s _ _ => s.cancelMarks p.val))

/-- MARK_RESERVED_ACT (R225): a pair with a reserved ACT is consumed as a NOP and counted. -/
def execMarkReservedAct (p : Fin 768) (s : State) : Out :=
  ok (s.pairDo p.val (fun a => a == 6 || a == 7 || decide (10 < a)) (fun s _ _ => s.viol .pin p.val))

/-- POISONED_PAIR (R243): the pin drives PARK, armed marks are discarded, POISON is set and counted, the alarm is raised. In Capture no
function drives the pad; pairs that FUNC discards are counted instead (R222). -/
def execPoisonedPair (p : Fin 768) (s : State) : Out :=
  let p := p.val
  match s.pairAt p with
  | none => ok s
  | some (t, m) =>
    if !(t.p || m.p) then ok s
    else
      let s1 := s.eatPair p
      let fn := s.pinFunc p
      if fn = 0 ∨ fn = 4 ∨ (fn = 2 ∧ actOf m ≠ 8 ∧ actOf m ≠ 9) then ok (s1.viol .pin p)
      else
        let s2 := ((s1.sticky (pinReg p 8) 31).count (pinReg p 0x20) 0 8 1).poison (pinRegion p) .pin
        ok (if fn = 2 then s2.cancelMarks p else s2.parkPin p)

/-- R235: a phase lies inside the committed window; with WEN = 0 no window gates anything. -/
def State.inWindow (s : State) (p : Nat) (x : Word) : Bool :=
  let c := s.pin p
  !s.rb (pinReg p 0) 17 || decide ((x - c.wopen).toNat < (c.wclose - c.wopen).toNat)

/-- A phase in 1/256 pu. -/
def ph256 (x : Word) : Int := 256 * (x.toNat : Int)

/-- R227: the signed sweep of an interval, in 1/256 pu. -/
def LFrame.sweep (f : LFrame) : Int := f.step.toInt

/-- R224, R227: DIR of a command allows motion in a direction (true: reverse). -/
def dirAllows (cmd : BitVec 16) (rev : Bool) : Bool :=
  match fld cmd 8 2 with
  | 1 => !rev
  | 2 => rev
  | _ => true

/-- R227, R228: the grid step within the interval at which the swept range reaches target x, if it does: the range includes its start and
excludes its end. -/
def LFrame.reach (f : LFrame) (x : Word) : Option Nat :=
  let step := f.sweep
  let d := halfRange 40 (ph256 x - (f.ph.toNat : Int))
  if 0 < step then (if 0 ≤ d ∧ d < step then some (((d * 20 + step - 1) / step).toNat) else none)
  else if step < 0 then (if d ≤ 0 ∧ step < d then some ((((-d) * 20 + (-step) - 1) / (-step)).toNat) else none)
  else none

/-- R230: target x lies behind P(k) in the direction of motion the frame's DIR gives. -/
def LFrame.behind (f : LFrame) (x : Word) : Bool :=
  let d := halfRange 40 (ph256 x - (f.ph.toNat : Int))
  if f.dir then decide (0 < d) else decide (d < 0)

/-- R231: target x lies in the range a jump skipped, and DIR allows the jump's direction. -/
def LFrame.skipped (f prev : LFrame) (x : Word) (cmd : BitVec 16) : Bool :=
  let expect : Int := (prev.ph.toNat : Int) + prev.sweep
  let d := halfRange 40 ((f.ph.toNat : Int) - expect)
  let o := halfRange 40 (ph256 x - expect)
  f.jump && decide (d ≠ 0) && dirAllows cmd (decide (d < 0)) &&
    (if 0 < d then decide (0 ≤ o ∧ o < d) else decide (d < o ∧ o ≤ 0))

/-- R225: what a fired mark does to the pin. -/
def State.fireAct (s : State) (p : Nat) (act : Nat) : State :=
  match act with
  | 1 => s.drivePin p .low false
  | 2 => s.drivePin p .high false
  | 3 => s.drivePin p (if (s.pin p).lvl then .low else .high) false
  | 4 => s.drivePin p .float false
  | _ => s.drivePin p (s.parkOf p) true

/-- R232: the head mark fires with its edge at grid position `pos`, or 1.0 ns after the previous edge, with CROWD. -/
def State.fire (s : State) (p : Nat) (m : Mark) (pos : Nat) : State :=
  let c := s.pin p
  ((s.setPin p { c with q := c.q.drop 1 }).edgeAt p pos true).fireAct p (fld m.cmd 12 4)

/-- The head mark is dropped. -/
def State.dropHead (s : State) (p : Nat) : State := s.setPin p { s.pin p with q := (s.pin p).q.drop 1 }

/-- R237: a mark with GATE = 1 is tested as it acts, at phase x; outside the window it is dropped with GATED. -/
def State.gated (s : State) (p : Nat) (m : Mark) (x : Word) (pos : Nat) : State :=
  if bit m.cmd 7 && !s.inWindow p x then (s.dropHead p).sticky (pinReg p 8) 28 else s.fire p m pos

/-- MARK_EVALUATION (R226 to R233, R237): the head mark of pin cell p is tested against the interval current in its region, once; a new
head in the same interval is another evaluation. `m` is the next placement opportunity, for marks that do not wait for a target. -/
def execMarkEvaluation (p : Fin 768) (m : Fin 20) (s : State) : Out :=
  let p := p.val
  let c := s.pin p
  let f := s.pinLine p
  let fn := s.pinFunc p
  let k := (s.spineOf (pinRegion p)).interval
  if !(s.region (pinRegion p)).out || !(fn == 1 || fn == 3) then ok s
  else match c.q with
    | [] => ok s
    | h :: _ =>
      if bit h.cmd 11 then ok (s.gated p h (f.ph.extractLsb' 8 32) (k * 20 + m.val))
      else if !f.valid then ok s
      else
        let jumped := f.skipped (s.pinLinePrev p) h.target h.cmd
        let late := !h.seen && dirAllows h.cmd f.dir && f.behind h.target
        if jumped || late then
          let s1 := s.sticky (pinReg p 8) 29
          if bit h.cmd 10 then ok (s1.gated p h h.target (k * 20 + (if jumped then 0 else m.val)))
          else ok ((s1.count (pinReg p 0x20) 24 8 1).dropHead p)
        else match (if dirAllows h.cmd (decide (f.sweep < 0)) then f.reach h.target else none) with
          | some g => ok (s.gated p h h.target (k * 20 + g))
          | none => ok (s.setPin p { c with q := { h with seen := true } :: c.q.drop 1 })

/-- R238: the timestamp of grid point n of an interval, rounded down to a whole pu. -/
def LFrame.stamp (f : LFrame) (n : Nat) : Word :=
  BitVec.ofInt 32 ((20 * (f.ph.toNat : Int) + f.sweep * (n : Int)) / 5120)

/-- R240: the tokens of a capture. -/
def captureTokens (fmt : Nat) (ts : Word) (level amb : Bool) (seq : Nat) : List Tok :=
  let tag : Word := BitVec.ofNat 32 (b2n amb * 2 ^ 31 + b2n level * 2 ^ 30 + seq * 2 ^ 24)
  match fmt with
  | 1 => [{ d := tag ||| (ts &&& 0xFFFFFF#32) }]
  | 2 => [{ d := ts }, { d := tag }]
  | _ => [{ d := ts }]

/-- CAPTURE_EDGE (R236, R238 to R242, R253, R264): the pad of pin p takes a new level at grid point n of the interval, and the outside drives `level.ext`
from then on; `before` says that the element located the edge at the point before, `slow` that it took longer than 1.0 ns. During a
change of owner nothing is captured. -/
def execCaptureEdge (p : Fin 768) (level : PadIn) (n : Fin 20) (before slow : Bool) (s : State) : Out :=
  let p := p.val
  let s0 := s.setPin p { s.pin p with pad := level.level, ext := level.ext }
  let fn := s.pinFunc p
  let edges := s.rf (pinReg p 0) 20 2
  if !(s.region (pinRegion p)).out || !(fn == 2 || fn == 3) || !edges.testBit (if level.level then 0 else 1) || (s.padOf p).coming.isSome then ok s0
  else
    let f := s.pinLine p
    let invalid := !f.valid
    let ts := if before then (if n.val = 0 then (s.pinLinePrev p).stamp 19 else f.stamp (n.val - 1)) else f.stamp n.val
    let sA := if slow then (s0.sticky (pinReg p 8) 25).count (pinReg p 0x20) 16 8 1 else s0
    let s1 := if invalid then sA.sticky (pinReg p 8) 30 else sA
    if !invalid && !s1.inWindow p ts then ok s1
    else
      let c := s1.pin p
      let seq := (c.seq + 1) % 64
      let s2 := s1.setPin p { c with seq := seq }
      if 4 ≤ c.caps.length then ok ((s2.sticky (pinReg p 8) 26).count (pinReg p 0x20) 8 8 1)
      else
        let fmt := s.rf (pinReg p 0) 18 2
        let toks := if invalid then (captureTokens fmt 0 false false 0).map (fun _ => { p := true }) else captureTokens fmt ts level.level slow seq
        ok (s2.setPin p { s2.pin p with caps := c.caps ++ [(if invalid then 0 else ts, toks)] })

/-- R222: what pin cell p drives where nothing parks it: a Capture pin is an input, a Flow pin has its hopper's level; a marked pin keeps its
level until its next action. -/
def State.ownDrive (s : State) (p : Nat) : State :=
  match s.pinFunc p with
  | 2 => s.driveSoon p .float false false
  | 4 => s.driveSoon p (if (s.pin p).flow then .high else .low) false true
  | _ => s

/-- R245, R248: FPARK set or cleared: the pin parks and armed marks go; a pin released takes its function's pad back. -/
def State.fparkSet (s : State) (p : Nat) (on : Bool) : State :=
  let s1 := s.rsetb (pinReg p 4) 31 on
  let out := (s.region (pinRegion p)).out
  if on && !s.fparked p then (if out then s1.parkPin p else s1.cancelMarks p)
  else if !on && s.fparked p && out && !(s.pin p).inv then s1.ownDrive p
  else s1

/-- R234: an empty window is committed and nothing is staged. -/
def State.windowClear (s : State) (p : Nat) : State := s.setPin p { s.pin p with wopen := 0, wclose := 0, staged := none }

/-- R248: a write to PIN_CTL. -/
def State.pinCtlWrite (s : State) (p : Nat) (v : Word) : State :=
  let s1 := s.fparkSet p (bit v 31)
  let s2 := if bit v 30 then s1.cancelMarks p else s1
  if bit v 29 then s2.windowClear p else s2

/-- FPARK (R245). -/
def execFpark (iss : Issuer) (p : Fin 768) (on : Bool) (s : State) : Out :=
  ok (s.guarded iss .pin p.val (fun s => s.fparkSet p.val on))

/-- PIN_CTL_CANCEL (R225, R248). -/
def execPinCtlCancel (iss : Issuer) (p : Fin 768) (s : State) : Out :=
  ok (s.guarded iss .pin p.val (fun s => s.cancelMarks p.val))

/-- WCLR (R234, R248). -/
def execWclr (iss : Issuer) (p : Fin 768) (s : State) : Out :=
  ok (s.guarded iss .pin p.val (fun s => s.windowClear p.val))

/-- R215: hopper flow reaches pin cell p: in Flow the pin drives it at the next placement opportunity. -/
def State.flowPin (s : State) (p : Nat) (level : Bool) : State :=
  let s1 := s.setPin p { s.pin p with flow := level }
  if (s.region (pinRegion p)).out && s.pinFunc p == 4 && !s.fparked p && !(s.pin p).inv then
    s1.driveSoon p (if level then .high else .low) false true
  else s1

/-- R244: an interval in which the line of pin cell p is or is not valid: with PARKINV = 1 an invalid one parks the pin, discards its marks, sets
INVALID and raises the alarm; of an Off cell there is nothing to park (log entry 126). A Capture or Flow pin takes its pad back when the
line is valid again. -/
def State.invalidPin (s : State) (p : Nat) : State :=
  if (s.pinLine p).valid then
    (if (s.pin p).inv then
      let s1 := s.setPin p { s.pin p with inv := false }
      if s1.fparked p then s1 else s1.ownDrive p
    else s)
  else if (s.region (pinRegion p)).out && s.rb (pinReg p 0) 22 && s.pinFunc p != 0 then
    let s1 := ((s.setPin p { s.pin p with inv := true }).sticky (pinReg p 8) 30).poison (pinRegion p) .pin
    s1.parkPin p
  else s

/-- R244: the same for every pin cell of region r. -/
def State.invalidPark (s : State) (r : Nat) : State := s.each ((List.range 24).map (r * 24 + ·)) State.invalidPin

/-- A new frame is current in region r. -/
def State.takeFrame (s : State) (r : Nat) (f : Frame) : State :=
  ((s.setSpinePrev r (s.spineOf r)).setSpine r f).invalidPark r

/-- SPINE_FRAME_ARRIVAL (R58, R60): region r holds the frame of interval k, and uses it from tk. -/
def execSpineFrameArrival (r : Fin 32) (k : Nat) (s : State) : Out :=
  let cur := s.spineOf r.val
  match s.frames.find? (fun f => f.interval == k) with
  | some f => if cur.lines.isEmpty || decide (cur.interval < k) then ok (s.takeFrame r.val f) else ok s
  | none => ok s

/-- R60: the value a region without a frame uses: P(k - 1) + STEP(k - 1) with VALID = 0. -/
def LFrame.predicted (f : LFrame) : LFrame :=
  { f with ph := f.ph + f.step.signExtend 40, valid := false, jump := false }

/-- SPINE_FRAME_MISSING (R60): no frame by tk; the stall monitor reports to the Tinker, and `lasting` says that its second wait passed
as well (R318). -/
def execSpineFrameMissing (r : Fin 32) (lasting : Bool) (s : State) : Out :=
  let cur := s.spineOf r.val
  let s1 := s.takeFrame r.val ⟨cur.interval + 1, cur.lines.map LFrame.predicted⟩
  let s2 := s1.sticky (meshReg r.val 0) 31
  ok (if lasting then s2.sharedFault r.val 6 else s2.transient r.val)

end Sys2Proof.Machine
end

