-- ==== Sys2Proof/Machine/Power.lean ====
section
/-! DEFINITION. Requests to the Lamplighter (R440 to R455): domains and the states they take, requests that are refused, ignored or wait, the fabric rails, and the measurements. The change itself is in Machine/PowerChange.lean. -/

namespace Sys2Proof.Machine

/-- The Lamplighter's registers, and a domain's. -/
def lmpReg (off : Nat) : Reg := ⟨.lmp, 0, off⟩
def lmpDom (n : Nat) : Reg := ⟨.lmp, 0, 0x1000 + 4 * n⟩

/-- R478: a debugger is attached and power states are emulated. -/
def State.emulates (s : State) : Bool := s.rb ⟨.dbg, 0, 4⟩ 31 && s.rb ⟨.dbg, 0, 0⟩ 30

/-- R441: a pin of I/O bank n has been released. -/
def State.bankReleased (s : State) (n : Nat) : Bool :=
  (List.range 32).any (fun i => decide ((s.padOf (32 * n + i)).owner ≠ .park))

/-- R441, R447: the states a base-die domain takes. -/
def baseAllows (k st : Nat) : Bool :=
  if st = 0 then true
  else if (1 ≤ k ∧ k ≤ 3) ∨ k = 11 then decide (st ≤ 2)
  else if k = 5 ∨ k = 6 ∨ k = 8 then decide (st = 1)
  else decide (k = 10 ∧ st = 2)

/-- R445: every cluster, scratch bank and I/O bank domain of the package is Cold. -/
def State.fabricCold (s : State) : Bool := (List.range 696).all (fun n => decide (s.dom n = 2))

/-- R250: the LEVEL of bank n is a reserved one, which keeps the bank Cold. -/
def State.levelReserved (s : State) (n : Nat) : Bool := decide (4 < s.rf ⟨.pinBank, n, 0⟩ 8 3)

/-- R338: the domain of a bank the Assayer marked FAILED, which is kept Cold. -/
def State.domFailed (s : State) (n : Nat) : Bool :=
  if n < 544 then false
  else if n < 672 then s.rb ⟨.asy, 0, 0x180 + 4 * ((n - 544) / 32)⟩ ((n - 544) % 32)
  else if n < 696 then s.rb ⟨.asy, 0, 0x194⟩ (n - 672)
  else false

/-- R29: the spine-and-mesh domain that must be Lit while cluster or bank domain n is powered. -/
def meshOf (n : Nat) : Option Nat :=
  if n < 544 then some (728 + n / 136) else if n < 672 then some (728 + (n - 544) / 32) else none

/-- R29, R441, R445, R447: domain n takes state st now. -/
def State.domAllows (s : State) (n st : Nat) : Bool :=
  if n < 672 then decide (st ≤ 2) && (st == 2 || (!s.domFailed n && (meshOf n).all (fun m => decide (s.dom m = 0))))
  else if n < 696 then (st == 0 && !s.levelReserved (n - 672) && !s.domFailed n) || (st == 2 && !s.bankReleased (n - 672))
  else if n < 728 then decide (st ≤ 2)
  else if n < 732 then st == 0 || (st == 2 && s.fabricCold)
  else baseAllows (n - 732) st

/-- R327, R332, R341: a spare swap is under way in a region; in Ash none goes on. -/
def State.swapping (s : State) (r : Nat) : Bool :=
  s.health r != 2 && ((s.swapOf r).isSome || s.spareSt r == 1)

/-- R341, R374, R453: a request for state st of domain n waits for a load or a recovery to end. -/
def State.domHeld (s : State) (n st : Nat) : Bool :=
  if st = 0 then false
  else if n < 544 then s.underLoad (n / 17) || s.swapping (n / 17)
  else if n < 672 then s.underLoad ((n - 544) / 4)
  else false

/-- R442: the Lamplighter accepts a change of domain n to state st; nothing changes where the domain is in it already. -/
def State.domBegin (s : State) (n st : Nat) : State :=
  if s.dom n = st then s.setDomSt n {}
  else (s.setDomSt n { target := some st }).rsetb (lmpDom n) 26 true

/-- R441, R442: a request for state st of domain n: refused, waiting, or accepted. -/
def State.domRequest (s : State) (n st : Nat) : State :=
  if !s.domAllows n st then (s.sticky (lmpReg 4) 29).viol .lmp 0
  else
    let s1 := s.rsetf (lmpDom n) 28 2 st
    let d := s1.domSt n
    if d.target.isSome || s1.domHeld n st then s1.setDomSt n { d with wait := some st }
    else s1.domBegin n st

/-- R443: a request of the fabric or of AUTOWAKE, which HOLDM ignores, counts in the given counter, and sets REFUSED. -/
def State.domAsk (s : State) (n st : Nat) (count : Reg) : State :=
  if s.rb (lmpDom n) 27 then (s.sticky (lmpReg 4) 29).violAt count else s.domRequest n st

/-- R447: domain n of the base die is Lit at an access or a request of the block it serves, whose wait for it is left out. -/
def State.wakeBase (s : State) (n : Nat) : State :=
  if s.dom n = 0 then s
  else ((s.setDomSt n {}).rsetb (lmpDom n) 26 false).rsetf (lmpDom n) 30 2 0 |>.rsetb (lmpDom n) 25 false

/-- R447: the flash die is Lit on access. -/
def State.flashOn (s : State) : State := s.wakeBase 738

/-- R447: the frame engine is Lit on a load or restore. -/
def State.engineOn (s : State) : State := s.wakeBase 740

/-- R447: the DRAM die, which holds the staging area, is Lit; else its accesses wait. -/
def State.dramLit (s : State) : Bool := decide (s.dom 737 = 0)

/-- R374, R509: the requests that waited for a region's load or recovery are applied. -/
def State.domRelease (s : State) (n : Nat) : State :=
  let d := s.domSt n
  match d.wait with
  | some st => if d.target.isNone && !s.domHeld n st then s.domBegin n st else s
  | none => s

/-- The domains of region r's clusters and scratch banks. -/
def regionDoms (r : Nat) : List Nat := (List.range 17).map (r * 17 + ·) ++ (List.range 4).map (544 + r * 4 + ·)

/-- Every waiting request of region r that nothing holds any more. -/
def State.domReleaseAll (s : State) (r : Nat) : State := s.each (regionDoms r) State.domRelease

/-- R443, R454: a write to LMP_DOMn: HOLDM, then the request. -/
def State.domWrite (s : State) (n : Nat) (v : Word) : State :=
  (s.rsetb (lmpDom n) 27 (bit v 27)).domRequest n (fld v 28 2)

/-- R446: the physical clusters a bit of LMP_RREQ reaches: a retired member of a pair is not one. -/
def State.rreqReach (s : State) (r k : Nat) : List Nat :=
  (if s.paired r then [s.gOf r k, s.gOf r (k + 1)] else [s.gOf r k]).filter (fun g => !s.retired g)

/-- R446: one bit of LMP_RREQ. -/
def State.rreqOne (s : State) (r st k : Nat) : State :=
  let c : Reg := violOf .rreq r
  if s.paired r ∧ k % 2 = 1 then s.violAt c
  else s.each (s.rreqReach r k) (fun s g => s.domAsk g st c)

/-- R446: a write to LMP_RREQ: Cold and the reserved state are ignored and counted. -/
def State.rreqWrite (s : State) (r : Nat) (v : Word) : State :=
  if 2 ≤ fld v 30 2 then s.viol .rreq r
  else s.each ((List.range 16).filter (fun k => bit v k)) (fun s k => s.rreqOne r (fld v 30 2) k)

/-- R455: LMP_RREQ accepts the management complex, the debug port, and the region's own access ports while FABREQ = 1. -/
def State.rreqAccepts (s : State) (iss : Issuer) (r : Nat) : Bool :=
  mgmtIssuer iss || match iss with
    | .port r' _ _ => r' == r && s.rb (lmpReg 0) 0
    | _ => false

/-- LMP_RREQ (R446, R455). -/
def execLmpRreq (iss : Issuer) (r : Fin 32) (v : Word) (s : State) : Out :=
  ok (if s.rreqAccepts iss r.val then s.rreqWrite r.val v else s.viol .rreq r.val)

/-- R448: a write to LMP_RAILd: SET rounded down to a multiple of 5 mV; a value out of range is ignored and counted. -/
def State.railSet (s : State) (d : Nat) (mv : Nat) : State :=
  let g := lmpReg (0x10 + 4 * d)
  if 550 ≤ mv ∧ mv ≤ 850 then
    let x := mv - mv % 5
    (s.rsetf g 16 10 x).rsetb g 31 (decide (s.rf g 0 10 ≠ x))
  else s.viol .lmp 0

/-- RAIL_WRITE (R448, R454). -/
def execRailWrite (iss : Issuer) (d : Fin 4) (v : Word) (s : State) : Out :=
  ok (s.guarded iss .lmp 0 (fun s => s.railSet d.val (fld v 16 10)))

/-- RAIL_SETTLED (R448): the rail has reached SET; MEAS shows the measured value, held within 10 mV of SET. -/
def execRailSettled (d : Fin 4) (mv : BitVec 10) (s : State) : Out :=
  let g := lmpReg (0x10 + 4 * d.val)
  let x := s.rf g 16 10
  if x ≤ mv.toNat + 10 ∧ mv.toNat ≤ x + 10 then ok ((s.rsetf g 0 10 mv.toNat).rsetb g 31 false) else ok s

/-- POWER_MEASURE (R451): the input power in 10 mW units. -/
def execPowerMeasure (p : BitVec 16) (s : State) : Out :=
  let s1 := s.rsetf (lmpReg 8) 0 16 p.toNat
  ok (if s.rf (lmpReg 0) 16 16 < p.toNat then s1.sticky (lmpReg 4) 31 else s1)

/-- TEMPERATURE_MEASURE (R451): die d's reading in °C, signed. -/
def execTemperatureMeasure (d : Fin 4) (t : BitVec 9) (s : State) : Out :=
  let g := lmpReg (0x20 + 4 * d.val)
  let s1 := s.rsetf g 0 9 t.toNat
  ok (if 115 ≤ t.toInt then (s1.sticky g 31).sticky (lmpReg 4) 30 else s1)

end Sys2Proof.Machine
end

