-- ==== Sys2Proof/Machine/Scratch.lean ====
section
/-! DEFINITION. Scratch banks and their Porters (R176 to R200): stored words and their code, ownership, the Porter's input and decisions, locks, handover, scrub and clear. -/

namespace Sys2Proof.Machine

/-- R336: the region an element lies in; links and I/O banks have none. -/
def sliceRegion (kind index : Nat) : Option Nat := match kind with | 0 => some (index / 17) | 1 => some (index / 4) | 2 => some (index / 4) | _ => none

/-- R336, R339: of the slices asked for, oldest first, those that run: at most 16, at most one a region, and of clusters none in a region under
load. -/
def runningOf (n : Nat) (used : List Nat) : List Slice → List Slice
  | [] => []
  | x :: l =>
    if n = 0 then []
    else match sliceRegion x.kind x.index with
      | some r => if used.contains r then runningOf n used l else x :: runningOf (n - 1) (r :: used) l
      | none => x :: runningOf (n - 1) used l
def State.running (s : State) : List Slice :=
  runningOf 16 [] (s.slices.filter (fun x => !(x.kind == 0 && s.underLoad (x.index / 17))))

/-- The slice that runs on an element. -/
def State.runningOn (s : State) (kind index : Nat) : Option Slice := s.running.find? (fun x => x.kind == kind && x.index == index)

/-- A new power-up of a memory (log entry 3). -/
def State.powerUp (s : State) : State := { s with epoch := s.epoch + 1 }

/-- A bank's domain (R440). -/
def bankDom (b : Nat) : Nat := 544 + b

/-- R183: an owner field group of SCR_OWN or SCR_HAND, its code at bit `lo`, permits an issuer at a bank of region r. Debug accesses are
always permitted (R184). -/
def State.permits (s : State) (own : RegVal) (lo r : Nat) (iss : Issuer) : Bool :=
  let code := fld own lo 3
  match iss with
  | .debug => true
  | .core _ => code == 4
  | .ixz => code == 4
  | .port r' lc _ =>
    if r' = r then code == 1 || (code == 2 && lc == fld own 0 4)
    else code == 3 && fld own 12 12 == s.ownPkg && fld own 10 2 * 8 + fld own 7 3 == r'
  | .remote pkg r' _ =>
    code == 3 && fld own 12 12 == pkg && fld own 10 2 * 8 + fld own 7 3 == r' && pkg != s.ownPkg

/-- The present owner of bank b permits an issuer. -/
def State.ownerPermits (s : State) (b : Nat) (iss : Issuer) : Bool := s.permits (s.rget (sb b 0)) 29 (b / 4) iss

/-- The next owner of a pending handover permits an issuer. -/
def State.nextPermits (s : State) (b : Nat) (iss : Issuer) : Bool := s.permits (s.rget (sb b 4)) 26 (b / 4) iss

/-- R185: a handover is in progress. -/
def State.handing (s : State) (b : Nat) : Bool := s.rb (sb b 4) 29

/-- R186: the requester an issuer is at a bank of region r. -/
def requesterOf (r : Nat) : Issuer → Nat
  | .port r' lc _ => if r' = r then lc else 16
  | .remote _ _ _ => 16
  | _ => 17

/-- R176: the bank, view (0 normal, 1 set, 2 clear) and byte offset an access leads to. -/
def Flight.scratch (f : Flight) : Option (Nat × Nat × Nat) :=
  match placeOf f.addr with
  | .scratch b v o => some (b, v, o)
  | _ => none

/-- What the Porter's input does with an access (R181, R184, R185, R197). -/
inductive AtInput where
  | poisoned | forbidden | cold | held | offered
  deriving DecidableEq, Repr

/-- R177, R181, R184, R185, R197: an access at the input of bank b; poison is tested before ownership and alignment. -/
def State.atInput (s : State) (b off : Nat) (f : Flight) : AtInput :=
  if f.poison then .poisoned
  else if off % 4 ≠ 0 ∨ f.w ≠ .b32 then .forbidden
  else
    let now := s.ownerPermits b f.iss
    if s.handing b && !(s.bank b).before.contains f.id then
      if s.nextPermits b f.iss then (if now then (if s.dom (bankDom b) = 2 then .cold else .offered) else .held) else .forbidden
    else if !now then .forbidden
    else if s.dom (bankDom b) = 2 then .cold
    else .offered

/-- The accesses at the Porter of bank b, oldest first, but for those that have won a round. -/
def State.waiting (s : State) (b : Nat) : List Flight :=
  let won (w : Option Win) (id : Nat) : Bool := match w with | some w => w.who == .flight id | none => false
  s.flights.filter (fun f =>
    s.enters f && (match f.scratch with | some (b', _, _) => b' == b | none => false) &&
    !won (s.bank b).cur f.id && !won (s.bank b).next f.id)

/-- R136: of several accesses, the one that came first. -/
def firstCome : List Flight → Option Flight
  | [] => none
  | f :: l => some (l.foldl (fun a x => if x.ahead a then x else a) f)

/-- R186: the head of a requester's lane of class tc, in order of arrival, among the accesses the test keeps: the refused ones are answered
before any decision. -/
def State.laneHead (s : State) (b n tc : Nat) (only : Flight → Bool) : Option Flight :=
  match firstCome ((s.waiting b).filter (fun f =>
      requesterOf (b / 4) f.iss == n && f.tc == tc && only f &&
      (match f.scratch with
        | some (_, _, o) => match s.atInput b o f with
          | .offered => true
          | .held => true
          | _ => false
        | none => false))) with
  | some f => match f.scratch with
    | some (_, _, o) => if s.atInput b o f = .held then none else some f
    | none => none
  | none => none

/-- R186: the head requester n offers: its Vermilion one, else the next of its other classes in rotation. -/
def State.headOf (s : State) (b n : Nat) (only : Flight → Bool) : Option Flight :=
  let rot := Store.get 0 (s.bank b).classRot n
  match s.laneHead b n 0 only with
  | some f => some f
  | none => [rot % 3 + 1, (rot + 1) % 3 + 1, (rot + 2) % 3 + 1].findSome? (fun tc => s.laneHead b n tc only)

/-- R182: the word the scrub visits next: a queued one first, then the walk's while SCRUBEN = 1. -/
def State.scrubWord (s : State) (b : Nat) : Option (Nat × Bool) :=
  match (s.bank b).scrubQ with
  | w :: _ => some (w, true)
  | [] => if s.rb (sb b 8) 0 then some ((s.bank b).scrubPos, false) else none

/-- What requester 19 works on at a bank (R186): a clear (R198), the march of a kind 1 slice, the reads of a kind 2 one (R336). -/
inductive Maint where
  | clear | march | read
  deriving DecidableEq, Repr

/-- R198, R336: requester 19's work at bank b; a slice that writes stands while the bank has an owner. -/
def State.maint (s : State) (b : Nat) : Option Maint :=
  if (s.bank b).clearing then some .clear
  else if (s.runningOn 2 b).isSome then some .read
  else if (s.runningOn 1 b).isSome && decide (s.rf (sb b 0) 29 3 = 0) then some .march
  else none

/-- R198, R336: the rounds that work still takes (log entry 164): a clear writes a word of each of the 8 sub-banks at once. -/
def State.maintLeft (s : State) (b : Nat) : Nat :=
  match s.maint b with
  | some .clear => 16384 - (s.bank b).clearPos
  | some _ => 131072 - (s.bank b).testPos
  | none => 0

/-- The round in progress or decided is this grantee's. -/
def State.inRound (s : State) (b : Nat) (g : Grantee) : Bool :=
  ((s.bank b).cur.map (·.who)) == some g || ((s.bank b).next.map (·.who)) == some g

/-- What requester n offers beside the rounds it has (R186), of accesses those the test keeps: an access, the scrub's visit, or a round of its
work for requester 19, the last two while the bank is Lit (R182, R197). -/
def State.headFor (s : State) (b n : Nat) (only : Flight → Bool) : Option (Grantee × Nat) :=
  if n < 18 then (s.headOf b n only).map (fun f => (.flight f.id, f.tc))
  else if s.dom (bankDom b) ≠ 0 then none
  else if n = 18 then (if (s.bank b).scrubOffer && (s.scrubWord b).isSome && !s.inRound b .scrub then some (.scrub, 3) else none)
  else (if b2n (s.inRound b .slice) < s.maintLeft b then some (.slice, 3) else none)

/-- R188, R192: who holds the lock once the round in progress is done: the holder's access with LOCK = 0 ends it. -/
def State.lockNext (s : State) (b : Nat) : Option Issuer :=
  match (s.bank b).lock, (s.bank b).cur with
  | some h, some w => match w.who with
    | .flight id => match s.flight id with
      | some f => if f.iss = h ∧ !f.lock then none else some h
      | none => some h
    | _ => some h
  | l, _ => l

/-- R192: what requester n offers for the next round: while a lock is held, only the holder's port's accesses count. -/
def State.offerOf (s : State) (b n : Nat) : Option (Grantee × Nat) :=
  match s.lockNext b with
  | some h => if n < 18 then s.headFor b n (fun f => f.iss == h) else none
  | none => s.headFor b n (fun _ => true)

/-- R189: requester n offers a head, whoever holds the lock. -/
def State.offersAny (s : State) (b n : Nat) : Bool := (s.headFor b n (fun _ => true)).isSome

/-- PRT_REQn of bank b. -/
def prtReq (b n : Nat) : Reg := sb b (0x80 + 4 * n)

/-- R189: the rank of requester n offering a head of class tc. -/
def State.rankOf (s : State) (b n tc : Nat) : Nat :=
  let v := s.rget (prtReq b n)
  if tc = 0 ∧ n < 18 ∧ bit v 31 then 14
  else if atLeast1 (fld v 8 6) ≤ fld v 16 6 then 13
  else 2 * fld v 0 3

/-- The first of two candidates at the same e after the last winner there, counting upward and wrapping from 19 to 0 (R189). -/
def afterLast (last a b : Nat) : Bool := decide ((a + 19 - last) % 20 < (b + 19 - last) % 20)

/-- R189: the better of two candidates. -/
def State.better (s : State) (b : Nat) (x y : Win) : Win :=
  if x.e < y.e then y
  else if y.e < x.e then x
  else if afterLast (Store.get 19 (s.bank b).last x.e) y.req x.req then y
  else x

/-- R189: the candidates of a decision, by requester. -/
def State.candidates (s : State) (b : Nat) : List Win :=
  (List.range 20).filterMap (fun n => (s.offerOf b n).map (fun (g, tc) => ⟨g, n, tc, s.rankOf b n tc⟩))

/-- R189, R190: a decision of bank b's Porter: the winner, the wait counts, the last winner at its e, its class; a Vermilion head
without VEN sets VDEMOTE. -/
def State.decision (s : State) (b : Nat) : State × Option Win :=
  match s.candidates b with
  | [] => (s, none)
  | c :: cs =>
    let w := cs.foldl (s.better b) c
    let s1 := if (c :: cs).any (fun x => x.tc == 0 && decide (x.req < 18) && x.e != 14) then s.sticky (sb b 0x28) 31 else s
    let s2 := s1.each (List.range 20) (fun t n =>
      if n = w.req then t.rsetf (prtReq b n) 16 6 0
      else if s.offersAny b n then t.count (prtReq b n) 16 6 1 else t)
    let k := s2.bank b
    (s2.setBank b { k with last := Store.put 19 k.last w.e w.req,
                           classRot := if w.tc = 0 ∨ 18 ≤ w.req then k.classRot else Store.put 0 k.classRot w.req (w.tc % 3) }, some w)

/-- R192: a granted access with LOCK = 1 takes the free lock for its port. -/
def State.lockBy (s : State) (b : Nat) (f : Flight) : State :=
  let k := s.bank b
  if f.lock && f.iss != .debug && k.lock.isNone then
    let s1 := s.setBank b { k with lock := some f.iss, lockIn := f.from_.map (·.2.2) }
    let v := s1.rget (sb b 0x20)
    let hp := match f.iss with | .port r _ p => if r = b / 4 then p else 0 | _ => 0
    s1.rput (sb b 0x20) (setFld (setFld (setFld (setBit v 31 true) 25 5 (requesterOf (b / 4) f.iss)) 22 2 hp) 0 16 (fld v 0 16 + 1))
  else s

/-- R192: the holder's access with LOCK = 0, performed inside the lock, ends it. -/
def State.unlockBy (s : State) (b : Nat) (f : Flight) : State :=
  if (s.bank b).lock = some f.iss ∧ !f.lock then s.freeLock b else s

/-- R188, R194, R197: the grant of a round: PRT_GRANT, the first grant after a broken lock, the lock, and AUTOWAKE. -/
def State.grant (s : State) (b : Nat) (w : Win) : State :=
  let k := s.bank b
  let f := match w.who with | .flight id => s.flight id | _ => none
  let locked := match f with | some f => f.lock && f.iss != .debug | none => false
  let g := s.rget (sb b 0x24)
  let s1 := s.rput (sb b 0x24) (putB 31 k.broke + putB 30 locked + put 25 w.req + put 23 w.tc + putB 22 (w.e == 13) + put 19 (w.e / 2) +
    put 0 ((fld g 0 16 + 1) % 65536))
  let s2 := if k.broke then s1.rsetf (sb b 0x28) 25 5 w.req else s1
  let s3 := if w.e = 13 then s2.count (sb b 0x28) 0 8 1 else s2
  let s4 := s3.setBank b { s3.bank b with cur := some w, next := none, broke := false }
  let s5 := match f with | some f => s4.lockBy b f | none => s4
  if s5.dom (bankDom b) = 1 ∧ s5.rb (sb b 8) 2 ∧ w.req < 18 ∧ !(s5.bank b).waking then
    (s5.setBank b { s5.bank b with waking := true }).domAsk (bankDom b) 0 (violOf .lmp 0)
  else s5

/-- The winner decided a round ahead, while what it names is still there (R182, R197). -/
def State.nextWin (s : State) (b : Nat) : Option Win :=
  match (s.bank b).next with
  | some w => match w.who with
    | .flight id => if (match s.flight id with | some f => f.ans.isNone | none => false) then some w else none
    | .scrub => if s.dom (bankDom b) = 0 ∧ (s.bank b).scrubOffer ∧ (s.scrubWord b).isSome then some w else none
    | .slice => if s.dom (bankDom b) = 0 ∧ 0 < s.maintLeft b then some w else none
  | none => none

/-- R179: what a pattern of flipped stored bits looks like to the code. -/
inductive Syn where
  | clean
  | single (i : Nat)
  | uncorrectable
  deriving DecidableEq, Repr

/-- R179: every single-bit error is corrected and every double-bit error detected; of three bits or more, nothing is said. -/
def synOf (p : BitVec 39) : Syn :=
  match popCount p with
  | 0 => .clean
  | 1 => .single (p.toNat.log2)
  | 2 => .uncorrectable
  | _ => let k := Config.wideError p
    if k = 0 then .clean else if k ≤ 39 then .single (k - 1) else .uncorrectable

/-- What the unlisted words of row w of a bank read as (R197): rows that a clear has passed read zero. -/
def State.swBase (s : State) (b w : Nat) : Nat := if w % 16384 < (s.bank b).zeroRows then 0 else (s.bank b).base

/-- A stored word and the error pattern over its 39 bits; an unwritten one reads as the bank's base (R197). -/
def State.swGet (s : State) (b w : Nat) : Word × BitVec 39 :=
  match s.sword (131072 * b + w) with
  | some v => v
  | none =>
    let e := s.swBase b w
    if e = 0 then (0, 0)
    else ((Config.freeCell 1 e (131072 * b + w)).setWidth 32, (Config.freeCell 2 e (131072 * b + w)).setWidth 39)

/-- A word stored, the canonical form kept. -/
def State.swPut (s : State) (b w : Nat) (d : Word) (e : BitVec 39) : State :=
  s.setSword (131072 * b + w) (if s.swBase b w = 0 ∧ d = 0 ∧ e = 0 then none else some (d, e))

/-- The round in progress ends. -/
def State.roundOver (s : State) (b : Nat) : State := s.setBank b { s.bank b with cur := none }

/-- A word queued for the scrub (R180, R337). -/
def State.queueWord (s : State) (b w : Nat) : State :=
  let k := s.bank b
  s.setBank b { k with scrubQ := if k.scrubQ.contains w then k.scrubQ else k.scrubQ ++ [w] }

/-- R198, R336, R337: a round of requester 19 at a Lit bank: a clear writes zero with right check bits to a word of each sub-bank; the march, whose
patterns the manual does not give, leaves the words open until it ends; a kind 2 slice reads a word, counts a nonzero syndrome and queues a
single-bit error. -/
def State.maintRound (s : State) (b : Nat) : State :=
  let k := s.bank b
  match s.maint b with
  | some .clear =>
    let s1 := s.setBank b { k with clearPos := k.clearPos + 1, zeroRows := max k.zeroRows (k.clearPos + 1) }
    { s1 with swords := s1.swords.filter (fun e => !(e.1 / 131072 == b && e.1 % 16384 == k.clearPos)) }
  | some .march =>
    if k.testPos = 0 then
      let s1 := s.powerUp.setBank b { k with base := s.epoch + 1, zeroRows := 0, testPos := 1 }
      { s1 with swords := s1.swords.filter (fun e => e.1 / 131072 != b) }
    else s.setBank b { k with testPos := k.testPos + 1 }
  | some .read =>
    let y := synOf (s.swGet b k.testPos).2
    let s1 := s.setBank b { k with testPos := k.testPos + 1, testBad := k.testBad + b2n (y != .clean) }
    match y with
    | .single _ => s1.queueWord b k.testPos
    | _ => s1
  | none => s

/-- A round of requester 19 in progress is done and over. -/
def State.maintOver (s : State) (b : Nat) : State :=
  if ((s.bank b).cur.map (·.who)) = some .slice then (if s.dom (bankDom b) = 0 then s.maintRound b else s).roundOver b else s

/-- BANK_ROUND (R188, R189): the round after the one just performed is granted to the winner decided, or, when the bank is idle, to the
winner of a decision made at once; and the round after it is decided. A round of requester 19 is done by then. -/
def execBankRound (b : Fin 128) (s : State) : Out :=
  let b := b.val
  let s := s.maintOver b
  if (s.bank b).cur.isSome then ok s
  else
    let (s1, w) := match s.nextWin b with
      | some w => (s, some w)
      | none => (s.setBank b { s.bank b with next := none }).decision b
    match w with
    | none => ok s1
    | some w =>
      let (s2, n) := (s1.grant b w).decision b
      ok (s2.setBank b { s2.bank b with next := n })

/-- A read's outcome: the word, and whether it was corrected or is uncorrectable. -/
structure ReadRes where
  d : Word
  fixed : Bool := false
  bad : Bool := false
  deriving DecidableEq, Repr

/-- R180: a read of word w of bank b with its one retry. `hits` flips stored bits before it; `g1` and `g2` are upsets of the two reads. -/
def State.swRead (s : State) (b w : Nat) (hits g1 g2 : BitVec 39) : State × ReadRes :=
  let (d, e0) := s.swGet b w
  let e := e0 ^^^ hits
  let s0 := if hits = 0 then s else s.swPut b w d e
  let seen (p : BitVec 39) : Word := d ^^^ p.setWidth 32
  let p1 := e ^^^ g1
  let p2 := e ^^^ g2
  let tell (s : State) (stat lo : Nat) : State :=
    (((s.sticky (sb b 0xC) stat).count (sb b 0x10) lo 8 1).rsetf (sb b 0x14) 0 19 (4 * w)).sharedFault (b / 4) 9
  match synOf p1 with
  | .clean => (s0, ⟨seen p1, false, false⟩)
  | y1 =>
    match synOf p2 with
    | .clean => (s0.count (sb b 0x10) 0 16 1, ⟨seen p2, false, false⟩)
    | .single i =>
      if y1 = .single i then
        ((tell s0 30 16).queueWord b w, ⟨seen (p2 ^^^ (1 <<< i)), true, false⟩)
      else (tell s0 31 24, ⟨seen p2, false, true⟩)
    | .uncorrectable => (tell s0 31 24, ⟨seen p2, false, true⟩)

/-- R181, R184, R197: an access answered at the Porter's input, if it is to be. -/
def State.refuseScratch (s : State) (b off : Nat) (f : Flight) : Option State :=
  match s.atInput b off f with
  | .poisoned => some (((s.sticky (sb b 0xC) 29).poison (b / 4) .scr).answer f.id (poisonAnswer f.kind))
  | .forbidden => some ((s.viol .sbank b).answer f.id (zeroAnswer f.kind))
  | .cold => some ((s.sticky (sb b 0xC) 28).answer f.id (poisonAnswer f.kind))
  | .held => none
  | .offered => none

/-- Access `id`, if it is one of this kind and view at a scratch bank: refused at the input, or, once granted and with the bank Lit,
performed by `f`; it waits otherwise. -/
def State.scratchDo (s : State) (id : Nat) (isRead : Bool) (view : Option Nat) (f : State → Nat → Nat → Flight → State) : State :=
  match s.flight id with
  | none => s
  | some fl =>
    match fl.scratch with
    | none => s
    | some (b, v, off) =>
      if !s.enters fl || (fl.kind == .read) != isRead || (match view with | some x => x != v | none => false) then s
      else if ((s.bank b).cur.map (·.who)) = some (.flight id) then
        (if s.dom (bankDom b) = 2 then
          (((s.sticky (sb b 0xC) 28).answer id (poisonAnswer fl.kind))).roundOver b
        else if s.dom (bankDom b) = 0 then ((f s b (off / 4) fl).unlockBy b fl).roundOver b
        else s)
      else if ((s.bank b).next.map (·.who)) = some (.flight id) then s
      else (s.refuseScratch b off fl).getD s

/-- SCRATCH_READ (R176, R180, R181, R184, R197). -/
def execScratchRead (id : Nat) (hits g1 g2 : BitVec 39) (s : State) : Out :=
  ok (s.scratchDo id true none (fun s b w f =>
    let (s1, r) := s.swRead b w hits g1 g2
    s1.answer f.id (.word { d := r.d, p := r.bad })))

/-- SCRATCH_WRITE (R176, R180): a normal-view write stores the word with fresh check bits. -/
def execScratchWrite (id : Nat) (s : State) : Out :=
  ok (s.scratchDo id false (some 0) (fun s b w f => (s.swPut b w f.data.d 0).answer f.id .done))

/-- R178, R180: an alias write: a read, the operation and a write in one grant; not performed on an uncorrectable word. -/
def State.aliasWrite (s : State) (b w : Nat) (f : Flight) (hits g1 g2 : BitVec 39) (op : Word → Word → Word) : State :=
  let (s1, r) := s.swRead b w hits g1 g2
  (if r.bad then s1 else s1.swPut b w (op r.d f.data.d) 0).answer f.id .done

/-- SET_ALIAS_WRITE (R178). -/
def execSetAliasWrite (id : Nat) (hits g1 g2 : BitVec 39) (s : State) : Out :=
  ok (s.scratchDo id false (some 1) (fun s b w f => s.aliasWrite b w f hits g1 g2 (· ||| ·)))

/-- CLEAR_ALIAS_WRITE (R178). -/
def execClearAliasWrite (id : Nat) (hits g1 g2 : BitVec 39) (s : State) : Out :=
  ok (s.scratchDo id false (some 2) (fun s b w f => s.aliasWrite b w f hits g1 g2 (fun x d => x &&& ~~~d)))

/-- R182: a granted scrub visit: the read with its retry, and the rewrite of a corrected word. -/
def State.scrubDo (s : State) (b w : Nat) (queued : Bool) (hits g1 g2 : BitVec 39) : State :=
  let (s1, r) := s.swRead b w hits g1 g2
  let s2 := if r.fixed then s1.swPut b w r.d 0 else s1
  let k := s2.bank b
  let s3 := s2.setBank b { k with cur := none, scrubOffer := false, scrubQ := k.scrubQ.filter (· != w),
                                  scrubPos := if queued then k.scrubPos else (w + 1) % 131072 }
  if !queued && w == 131071 then s3.rsetf (sb b 0x18) 0 16 (s3.rf (sb b 0x18) 0 16 + 1) else s3

/-- SCRUB_VISIT (R182): the scrub offers its visit as requester 18, and performs it once the round is granted. While the bank is
Banked or Cold it offers none. A visit granted before SCRUBEN was cleared is made. -/
def execScrubVisit (b : Fin 128) (hits g1 g2 : BitVec 39) (s : State) : Out :=
  let b := b.val
  let k := s.bank b
  if s.dom (bankDom b) ≠ 0 then ok s
  else if (k.cur.map (·.who)) = some .scrub then
    (let (w, q) := (s.scrubWord b).getD (k.scrubPos, false)
     ok (s.scrubDo b w q hits g1 g2))
  else ok (s.setBank b { k with scrubOffer := (s.scrubWord b).isSome })

/-- R200: the issuers whose writes to SCR_HAND, SCR_CTL, SCR_SCRUB and PRT_REQn a bank accepts. -/
def State.bankAccepts (s : State) (b : Nat) (iss : Issuer) : Bool := mgmtIssuer iss || s.ownerPermits b iss

/-- R185: a write to SCR_HAND: ignored and counted with GO = 0, a reserved NOWNER, or PEND = 1; else the handover starts. With FORCE
a lock whose holder the next owner does not permit is broken. -/
def State.handWrite (s : State) (b : Nat) (v : Word) : State :=
  if !bit v 31 || decide (4 < fld v 26 3) || s.handing b then s.viol .sbank b
  else
    let s1 := s.rput (sb b 4) ((v.setWidth 64 &&& 0x1CFFFF8F) ||| 0x20000000)
    let k := s1.bank b
    let inRound := [k.cur, k.next].filterMap (fun w => match w with
      | some w => match w.who with | .flight id => some id | _ => none
      | none => none)
    let s2 := s1.setBank b { k with before := inRound ++ (s.waiting b).map (·.id), force := bit v 30 }
    match k.lock with
    | some h => if bit v 30 && !s2.nextPermits b h then s2.breakLock b else s2
    | none => s2

/-- HANDOVER (R185). -/
def execHandover (iss : Issuer) (b : Fin 128) (v : Word) (s : State) : Out :=
  ok (if s.bankAccepts b.val iss then s.handWrite b.val v else s.viol .sbank b.val)

/-- R185 step 5: OWNER takes a new value (its fields as in SCR_OWN), OGEN advances, HDONE is set. -/
def State.newOwner (s : State) (b : Nat) (own : RegVal) : State :=
  let st := s.rget (sb b 0xC)
  (s.rput (sb b 0) own).rput (sb b 0xC) (setFld (setBit st 26 true) 0 16 (fld st 0 16 + 1))

/-- SCR_OWN's layout of the owner that SCR_HAND names. -/
def ownOfHand (v : RegVal) : RegVal := (v &&& 0xFFFF8F) ||| put 29 (fld v 26 3)

/-- R185 steps 2 and 4: the accesses from before the write that the present owner permits are done, and no lock stands in the way. -/
def State.handReady (s : State) (b : Nat) : Bool :=
  let k := s.bank b
  k.before.all (fun id => match s.flight id with
    | some f => f.ans.isSome || !s.ownerPermits b f.iss
    | none => true) &&
  (match k.lock with
    | some h => s.nextPermits b h || k.force
    | none => true)

/-- HDONE (R185 step 5): the handover completes; with FORCE a lock that blocks it is broken first. -/
def execHdone (b : Fin 128) (s : State) : Out :=
  let b := b.val
  if s.handing b && s.handReady b then
    let s1 := match (s.bank b).lock with
      | some h => if s.nextPermits b h then s else s.breakLock b
      | none => s
    let s2 := (s1.newOwner b (ownOfHand (s1.rget (sb b 4)))).rsetb (sb b 4) 29 false
    ok (s2.setBank b { s2.bank b with before := [], force := false })
  else ok s

/-- R190: a write to PRT_REQn: PRI 7 is stored as 6; a third VEN is refused. -/
def State.prtWrite (s : State) (b n : Nat) (v : Word) : State :=
  let full := bit v 31 && decide (2 ≤ ((List.range 20).filter (fun m => m != n && s.rb (prtReq b m) 31)).length)
  if full then (s.sticky (sb b 0x28) 30).viol .sbank b
  else
    let g := prtReq b n
    s.rput g (setFld (setFld (setBit (s.rget g) 31 (bit v 31)) 8 6 (fld v 8 6)) 0 3 (if fld v 0 3 = 7 then 6 else fld v 0 3))

/-- PRT_REQ_WRITE (R190, R191, R200). -/
def execPrtReqWrite (iss : Issuer) (b : Fin 128) (n : Fin 20) (v : Word) (s : State) : Out :=
  ok (if s.bankAccepts b.val iss then s.prtWrite b.val n.val v else s.viol .sbank b.val)

/-- R198: a clear of bank b starts. -/
def State.startClear (s : State) (b : Nat) : State :=
  (s.setBank b { s.bank b with clearing := true, clearPos := 0 }).rsetb (sb b 0xC) 27 false

/-- R198, R200: a write to SCR_CTL; CLEAR on a bank with an owner is ignored and counted. -/
def State.scrCtlWrite (s : State) (b : Nat) (v : Word) : State :=
  if bit v 1 then
    (if s.rf (sb b 0) 29 3 = 0 then (s.writePlain (sb b 8) (v.setWidth 64)).startClear b else s.viol .sbank b)
  else s.writePlain (sb b 8) (v.setWidth 64)

/-- BANK_CLEAR (R198): CLEAR written 1, the other fields as they stand. -/
def execBankClear (iss : Issuer) (b : Fin 128) (s : State) : Out :=
  let b := b.val
  ok (if s.bankAccepts b iss then s.scrCtlWrite b (BitVec.ofNat 32 (s.rf (sb b 8) 0 3 ||| 2)) else s.viol .sbank b)

/-- R198: every word of bank b is zero with right check bits. -/
def State.zeroBank (s : State) (b : Nat) : State :=
  let s1 := s.setBank b { s.bank b with base := 0, zeroRows := 0, clearing := false }
  { s1 with swords := s1.swords.filter (fun e => e.1 / 131072 != b) }

/-- R198, R373: the owner a load's SETOWN names is given to the bank, which stands at NONE; a SETOWN that names NONE changes nothing more. -/
def State.applySetOwn (s : State) (b : Nat) : State :=
  match (s.bank b).setOwn with
  | some w =>
    let s1 := s.setBank b { s.bank b with setOwn := none }
    let v := w.setWidth 64 &&& 0xE0FFFF8F
    if fld v 29 3 = 0 then s1 else s1.newOwner b v
  | none => s

/-- CLRDONE (R198): the clear of a Lit bank ends when requester 19 has written every word; an owner the load gives it is applied. What a
debug access has written behind it stays. -/
def execClrdone (b : Fin 128) (s : State) : Out :=
  let b := b.val
  let s1 := s.maintOver b
  let k := s1.bank b
  if k.clearing && decide (16384 ≤ k.clearPos) && s1.dom (bankDom b) == 0 then
    ok (((s1.setBank b { k with base := 0, zeroRows := 0, clearing := false }).rsetb (sb b 0xC) 27 true).applySetOwn b)
  else ok s

end Sys2Proof.Machine
end

