-- ==== Sys2Proof/Machine/Hopper.lean ====
section
/-! DEFINITION. Hoppers (R201 to R220): pushes, pops, commands, flush, parity, watermarks and the flow output. -/

namespace Sys2Proof.Machine

/-- A hopper's registers. -/
def hopReg (h off : Nat) : Reg := ⟨.hop, h, off⟩

/-- HOP_CFG: MODE, CSIDE, PSIDE (R220). -/
def State.hopHeld (s : State) (h : Nat) : Bool := s.rb (hopReg h 0) 2 && !s.rb (hopReg h 0) 1
def State.hopCStream (s : State) (h : Nat) : Bool := s.rb (hopReg h 0) 1
def State.hopPStream (s : State) (h : Nat) : Bool := s.rb (hopReg h 0) 0

/-- The hopper port an access leads to: hopper, and whether it is POP. -/
def Flight.hopper (f : Flight) : Option (Nat × Bool) :=
  match placeOf f.addr with
  | .hopPort h pop => some (h, pop)
  | _ => none

/-- The access leads to the register gate of a region (R136). -/
def Flight.atGate (f : Flight) : Bool := f.pkg.isNone && f.scratch.isNone

/-- R207: the access is a pop that finds four pops held already: it stays at the head of its class lane. -/
def State.fifthPop (s : State) (f : Flight) : Bool :=
  match f.hopper with
  | some (h, true) =>
    let k := s.hop h
    f.kind == .read && !f.poison && f.iss != .debug && !s.hopCStream h && f.w == .b32 && f.ans.isNone && !k.pops.contains f.id &&
      decide (4 ≤ k.pops.length) && !(s.region (addrRegion f.addr)).gate
  | _ => false

/-- R207: the access is a pop that its hopper holds. -/
def State.heldPop (s : State) (f : Flight) : Bool :=
  match f.hopper with
  | some (h, true) => (s.hop h).pops.contains f.id
  | _ => false

/-- R24, R133, R136, R207: nothing ahead of access `f` in its class lane holds it back at the register gate: no access of its own issuer still to
be performed there, and no fifth pop. A pop that its hopper holds has left the lane. -/
def State.gateReady (s : State) (f : Flight) : Bool :=
  s.enters f &&
  s.flights.all (fun x =>
    !(s.enters x && x.atGate && decide (addrRegion x.addr = addrRegion f.addr) && x.tc == f.tc && x.ahead f) ||
      s.heldPop x || (x.iss != f.iss && !s.fifthPop x))

/-- The access in flight `id`, if it stands ready at the port of a hopper. -/
def State.hopAccess (s : State) (id : Nat) (k : AKind) (pop : Bool) : Option (Flight × Nat) :=
  match s.flight id with
  | some f => match f.hopper with
    | some (h, p) => if f.kind == k && p == pop && s.gateReady f && !(s.hop h).pops.contains id then some (f, h) else none
    | none => none
  | none => none

/-- R213: the watermarks as they act. -/
def State.hwm (s : State) (h : Nat) : Nat := let x := atLeast1 (s.rf (hopReg h 0xC) 16 7); if 64 < x then 64 else x
def State.lwm (s : State) (h : Nat) : Nat := let x := s.rf (hopReg h 0xC) 0 7; if s.hwm h ≤ x then s.hwm h - 1 else x

/-- R215: the flow output as the pin cell it drives sees it. -/
def State.flowOut (s : State) (h : Nat) : State :=
  let v := s.rget (hopReg h 0x10)
  if bit v 31 && decide (fld v 0 5 < 24) then s.flowPin (h / 8 * 24 + fld v 0 5) ((s.hop h).high != bit v 30) else s

/-- R213, R214: the watermark state after a change of OCC or of the watermarks. -/
def State.hopMarks (s : State) (h : Nat) : State :=
  let k := s.hop h
  let n := k.words.length
  if !k.high && decide (s.hwm h ≤ n) then ((s.setHop h { k with high := true }).sticky (hopReg h 8) 28).flowOut h
  else if k.high && decide (n ≤ s.lwm h) then (s.setHop h { k with high := false }).flowOut h
  else s

/-- R205, R210, R214: a word accepted into a hopper with room. -/
def State.hopStore (s : State) (h : Nat) (t : Tok) : State :=
  let k := s.hop h
  let s1 := s.setHop h { k with words := k.words ++ [⟨t.d, t.p, t.f || k.fpend, false⟩], fpend := false }
  (if k.words.length = 63 then s1.sticky (hopReg h 8) 27 else s1).hopMarks h

/-- R211: a poisoned push, pop or command refused. -/
def State.hopPoison (s : State) (h : Nat) : State := (s.sticky (hopReg h 8) 29).poison (h / 8) .hopReg

/-- R202, R205, R211, R217: a PUSH write: forbidden on a STREAM side, refused when poisoned, stored when there is room; with the gate
closed a push that would wait is dropped. -/
def State.pushAccess (s : State) (id : Nat) : State :=
  match s.hopAccess id .write false with
  | none => s
  | some (f, h) =>
    if f.poison then (s.hopPoison h).answer id .done
    else if s.hopPStream h || f.w != .b32 then (s.viol .hop h).answer id .done
    else if (s.hop h).words.length < 64 then (s.hopStore h f.data).answer id .done
    else if (s.region (h / 8)).gate then s.answer id .quarantined
    else s

/-- R202, R209: a STREAM producer side takes the token at the end of its channel. -/
def State.pushStream (s : State) (h : Nat) (bad : BitVec 17) : State :=
  match s.chanInto (epHop (h / 8) (h % 8) false) with
  | none => s
  | some ch => match (s.chan ch).last with
    | none => s
    | some t =>
      if s.hopPStream h && decide ((s.hop h).words.length < 64) then 
        ((s.setChan ch (s.chan ch).pop).hopStore h (garble bad s.freeNow t)).codeReport bad (placeKey 3 h) (h / 8) none none else s

/-- HOPPER_PUSH (R202, R203, R205). `w.bad` is of a stream token's code (R125). -/
def execHopperPush (w : Coded PushFrom) (s : State) : Out :=
  match w.val with
  | .flight id => ok (s.pushAccess id)
  | .stream h => ok (s.pushStream h.val w.bad)

/-- PENDING_PUSH_ACCEPTED (R205): a push that waited for space. -/
def execPendingPushAccepted (id : Nat) (s : State) : Out := ok (s.pushAccess id)

/-- R201, R212: a stored word after flips of its bits: data [31:0], P 32, F 33, parity 34. -/
def HWord.hit (w : HWord) (hits : BitVec 35) : HWord :=
  { d := w.d ^^^ hits.setWidth 32, p := w.p != bit hits 32, f := w.f != bit hits 33, bad := w.bad != (popCount hits % 2 == 1) }

/-- R205, R212: delivery of word[CUR]: the state after it and the token. `hits` flips stored bits before it; `glitch` is an upset of the
first read alone. -/
def State.hopDeliver (s : State) (h : Nat) (hits : BitVec 35) (glitch : Bool) : State × Tok :=
  let k := s.hop h
  let w := (nth {} k.words k.cur).hit hits
  let s1 := s.setHop h { k with words := setNth k.words k.cur w }
  let s2 := if w.bad then (((s1.sticky (hopReg h 8) 30).count (hopReg h 0x14) 8 8 1).sharedFault (h / 8) 9)
    else if glitch then s1.count (hopReg h 0x14) 0 8 1 else s1
  let k2 := s2.hop h
  let s3 := if s2.hopHeld h then s2.setHop h { k2 with cur := k2.cur + 1 }
    else (s2.setHop h { k2 with words := k2.words.drop 1, cur := 0 }).hopMarks h
  (s3, ⟨w.d, w.p || w.bad, w.f⟩)

/-- R212, R218: a quiet read of POP gives word[CUR], read twice as a delivery is, and takes nothing; it counts and reports nothing. -/
def State.popPeek (s : State) (h : Nat) (hits : BitVec 35) : State × Tok :=
  let k := s.hop h
  if k.cur < k.words.length then
    let w := (nth {} k.words k.cur).hit hits
    (s.setHop h { k with words := setNth k.words k.cur w }, ⟨w.d, w.p || w.bad, w.f⟩)
  else (s, {})

/-- HOPPER_POP (R202, R205, R207, R211, R217, R218, R471): a pop is answered, or held on an empty hopper, at most four at once. A debug read
never waits for a word. -/
def execHopperPop (id : Nat) (hits : BitVec 35) (glitch : Bool) (s : State) : Out :=
  match s.hopAccess id .read true with
  | none => ok s
  | some (f, h) =>
    let k := s.hop h
    if f.poison then ok ((s.hopPoison h).answer id (.word { p := true }))
    else if s.hopCStream h || f.w != .b32 then ok ((s.viol .hop h).answer id (.word {}))
    else if f.quiet then
      let (s1, t) := s.popPeek h hits
      ok (s1.answer id (.word t))
    else if k.pops.isEmpty && decide (k.cur < k.words.length) then
      let (s1, t) := s.hopDeliver h hits glitch
      ok (s1.answer id (.word t))
    else if f.iss = .debug ∧ k.words.length ≤ k.cur then ok (s.answer id (.word {}))
    else if (s.region (h / 8)).gate then ok (s.answer id .quarantined)
    else if k.pops.length < 4 then ok (s.setHop h { k with pops := k.pops ++ [id] })
    else ok s

/-- PENDING_POP_SERVED (R207): the first pop held takes the next word. -/
def execPendingPopServed (h : Fin 256) (hits : BitVec 35) (glitch : Bool) (s : State) : Out :=
  let h := h.val
  let k := s.hop h
  match k.pops with
  | [] => ok s
  | id :: rest =>
    if k.cur < k.words.length then
      let (s1, t) := (s.setHop h { k with pops := rest }).hopDeliver h hits glitch
      ok (s1.answer id (.word t))
    else ok s

/-- R206, R207, R211: a command word written to POP, whose CMD the test names: refused when poisoned, forbidden on a STREAM side, behind its
issuer's own held pops; `f` applies it. -/
def State.hopCmd (s : State) (id : Nat) (cmd : Nat → Bool) (f : State → Nat → State) : State :=
  match s.hopAccess id .write true with
  | none => s
  | some (fl, h) =>
    if !cmd (fld fl.data.d 28 4) || (s.hop h).pops.any (fun i => match s.flight i with | some x => x.iss == fl.iss | none => false) then s
    else if fl.poison then (s.hopPoison h).answer id .done
    else if s.hopCStream h || fl.w != .b32 then (s.viol .hop h).answer id .done
    else (f s h).answer id .done

/-- R204: in plain mode the command is ignored and counted. -/
def State.inHeld (s : State) (h : Nat) (f : Hop → Hop) : State :=
  if s.hopHeld h then (s.setHop h (f (s.hop h))).hopMarks h else s.viol .hop h

/-- HOPPER_MARK (R205, R206). -/
def execHopperMark (id : Nat) (s : State) : Out :=
  ok (s.hopCmd id (· == 1) (fun s h => s.inHeld h (fun k => { k with mpos := k.cur })))

/-- REWIND (R205, R206). -/
def execRewind (id : Nat) (s : State) : Out :=
  ok (s.hopCmd id (· == 2) (fun s h => s.inHeld h (fun k => { k with cur := k.mpos })))

/-- RELEASE (R205, R206). -/
def execRelease (id : Nat) (s : State) : Out :=
  ok (s.hopCmd id (· == 3) (fun s h => s.inHeld h (fun k => { k with words := k.words.drop k.cur, cur := 0, mpos := 0 })))

/-- RELEASEM (R205, R206). -/
def execReleasem (id : Nat) (s : State) : Out :=
  ok (s.hopCmd id (· == 4) (fun s h => s.inHeld h (fun k =>
    { k with words := k.words.drop k.mpos, cur := k.cur - k.mpos, mpos := 0 })))

/-- R205, R209, R210: a flush; it leaves the watermark state LOW (R213). -/
def State.hopFlush (s : State) (h : Nat) : State :=
  let k := s.hop h
  let s1 := s.setHop h { k with words := [], cur := 0, mpos := 0, fpend := true }
  ((s1.sticky (hopReg h 8) 26).count (hopReg h 0x14) 16 8 1).hopMarks h

/-- R220: a write to HOP_CTL. -/
def State.hopCtlWrite (s : State) (h : Nat) (v : Word) : State := if bit v 31 then s.hopFlush h else s

/-- FLUSH (R206, R209, R220). -/
def execFlush (w : FlushFrom) (s : State) : Out :=
  match w with
  | .flight id => ok (s.hopCmd id (· == 5) State.hopFlush)
  | .ctl iss h => ok (s.guarded iss .hop h.val (fun s => s.hopFlush h.val))

/-- HOPPER_CMD_NOP (R206). -/
def execHopperCmdNop (id : Nat) (s : State) : Out := ok (s.hopCmd id (· == 0) (fun s _ => s))

/-- HOPPER_RESERVED_CMD (R206). -/
def execHopperReservedCmd (id : Nat) (s : State) : Out :=
  ok (s.hopCmd id (fun c => decide (6 ≤ c)) (fun s h => s.viol .hop h))

/-- R213, R220: a write to HOP_WM. -/
def State.hopWmSet (s : State) (h : Nat) (v : Word) : State := (s.writePlain (hopReg h 0xC) (v.setWidth 64)).hopMarks h

/-- HOP_WM_WRITE (R213, R220). -/
def execHopWmWrite (iss : Issuer) (h : Fin 256) (v : Word) (s : State) : Out :=
  ok (s.guarded iss .hop h.val (fun s => s.hopWmSet h.val v))

end Sys2Proof.Machine
end

