-- ==== Sys2Proof/Machine/Tally.lean ====
section
/-! DEFINITION. The Tally: phase input ports, phase lines with their estimators, publication, and the spine (R35 to R67, R413, R493). -/

namespace Sys2Proof.Machine

/-- A register of port p. -/
def piReg (p off : Nat) : Reg := ⟨.tlyPi, p, off⟩

/-- A register of line l. -/
def plReg (l off : Nat) : Reg := ⟨.tlyPl, l, off⟩

/-- TLY_STAT. -/
def tlyStat : Reg := ⟨.tly, 0, 4⟩

/-- TLY_DIFF (R493). -/
def tlyDiff : Reg := ⟨.tly, 0, 0xC⟩

/-- TYPE of a port (R38). -/
def State.piType (s : State) (p : Nat) : Nat := s.rf (piReg p 0) 24 4

/-- CFG.EN of a port. -/
def State.piEn (s : State) (p : Nat) : Bool := s.rb (piReg p 0) 31

/-- R493: port n + 8 of a differential pair is held off whatever its CFG says. -/
def State.piHeldOff (s : State) (p : Nat) : Bool := decide (8 ≤ p) && s.rb tlyDiff (p - 8)

/-- A port that samples its source. -/
def State.piActive (s : State) (p : Nat) : Bool := s.piEn p && !s.piHeldOff p && decide (s.piType p ≠ 0)

/-- The scale NUM (R39). -/
def State.piNum (s : State) (p : Nat) : Nat := s.rf (piReg p 8) 0 32

/-- The scale DEN, 0 acting as 1 (R39). -/
def State.piDen (s : State) (p : Nat) : Nat := atLeast1 (s.rf (piReg p 4) 16 16)

/-- R36: LAT, in samples; a port of TYPE 8 ignores it. -/
def State.piLat (s : State) (p : Nat) : Nat := if s.piType p = 8 then 0 else s.rf (piReg p 0x14) 0 16

/-- R38: a counting source. -/
def isCounting (t : Nat) : Bool := decide (1 ≤ t ∧ t ≤ 3)

/-- R38: a timing source. -/
def isTiming (t : Nat) : Bool := decide (t = 4 ∨ t = 7 ∨ t = 8)

/-- R38: a sampled source. -/
def isSampled (t : Nat) : Bool := decide (t = 5 ∨ t = 6)

/-- The levels of a port's pins after POL (R41). -/
def State.piLevels (s : State) (p : Nat) (lv : BitVec 4) : BitVec 4 :=
  lv ^^^ BitVec.ofNat 4 (s.rf (piReg p 0) 16 4)

/-- R41: the direction of a quadrature transition, true for backward. (A, B) = 00, 10, 11, 01 counts forward. -/
def quadBack (a b a' b' : Bool) : Bool :=
  match a, b, a', b' with
  | false, false, true, false => false
  | true, false, true, true => false
  | true, true, false, true => false
  | false, true, false, false => false
  | _, _, _, _ => true

/-- R39: n signed counts added to a port's position, exactly n * NUM / DEN pu with the remainder carried, and to its raw count. -/
def State.piCount (s : State) (p : Nat) (n : Int) : State :=
  let t := s.tport p
  let x := (t.rem : Int) + n * s.piNum p
  let d : Int := s.piDen p
  s.setTport p { t with pos := t.pos + x / d, rem := (x % d).toNat, count := t.count + BitVec.ofInt 32 n,
                        down := if n = 0 then t.down else decide (n < 0) }

/-- R39, R56: the position a port reports, its index correction included and `n` further counts added (R57), in 2^-16 pu. -/
def State.piPosBy (s : State) (p : Nat) (n : Int) : Int :=
  let t := s.tport p
  roundOpen (((t.pos + t.zcorr) * (s.piDen p : Int) + (t.rem : Int) + n * s.piNum p) * 65536) (s.piDen p)

/-- R39, R56: the position a port reports, its index correction included, in 2^-16 pu. -/
def State.piPos (s : State) (p : Nat) : Int := s.piPosBy p 0

/-- R61: the Tally's clock runs: the multiplier has locked. -/
def State.tallyRuns (s : State) : Bool := s.rb tlyStat 0

/-- The lines that run on a port (R48). -/
def State.linesOf (s : State) (p : Nat) : List Nat :=
  (List.range 8).filter (fun l => (s.tline l).run && decide (fld (s.tline l).ctl 24 4 = p))

/-- Give a measurement to every line of the port; the latest before a tick is the one used (R49). -/
def State.deliver (s : State) (p : Nat) (m : Meas) : State :=
  s.each (s.linesOf p) (fun s l => s.setTline l { s.tline l with meas := some m })

/-- R57: does this pulse come earlier than T × (1 - MISSTOL/256) after the line's last one? T is one count's advance at the
present velocity; a line that is not locked, or stands, expects none. -/
def State.pulseEarly (s : State) (p l : Nat) (ts : Int) : Bool :=
  let n := s.tline l
  n.locked && decide (n.omega ≠ 0) &&
    decide ((ts - n.edgeTs) * iabs n.omega * (s.piDen p : Int) * 256
      < 4 * (s.piNum p : Int) * 2 ^ 48 * (256 - (fld n.still 24 8 : Int)))

/-- R57: a pulse of a zero-crossing port. Every line that does not find it early clears COAST and uses it; a port all of whose lines find it early
discards it and counts nothing. Where only some do, the port counts it and those leave it out of what they measure (log entry 142). -/
def State.zeroCross (s : State) (p n : Nat) (ts : Int) : State :=
  let ls := s.linesOf p
  let early := ls.filter (fun l => s.pulseEarly p l ts)
  if !early.isEmpty && decide (early = ls) then (s.count (piReg p 0x28) 16 8 1).sticky (piReg p 0x24) 11
  else
    let s1 := s.piCount p n
    let s2 := s1.each ls (fun s l =>
      let k := s.tline l
      if early.contains l then s.setTline l { k with mcnt := k.mcnt - n }
      else s.setTline l { k with meas := some ⟨s1.piPosBy p k.mcnt, ts, false, true⟩, coast := false, misses := 0, edgeTs := ts })
    if early.isEmpty then s2
    else ((s2.count (piReg p 0x28) 16 8 1).sticky (piReg p 0x24) 11)

/-- A counting source's counts (R39, R54): the position moves and every line gets the measurement. -/
def State.counts (s : State) (p : Nat) (n : Int) (ts : Int) : State :=
  let s1 := s.piCount p n
  s1.deliver p ⟨s1.piPos p, ts, decide (n < 0), true⟩

/-- R37: whether the second of two edges in one accepted sample also counts is open: a free bit. -/
def State.secondEdge (s : State) : Nat := 1 + b2n (bit s.freeNow 0)

/-- R36: the samples in a row a new level of pin k is seen in before it is accepted: ZFLEN on the index pin, FLEN on the others. -/
def State.piFilter (s : State) (p k : Nat) : Nat :=
  if k = 2 ∧ s.piType p = 1 then s.rf (piReg p 4) 8 6 else s.rf (piReg p 4) 0 6

/-- R35: pin 0 of an SSI port is an output: the port drives the SSI clock on it. -/
def State.piDrives (s : State) (p : Nat) : Bool := s.piActive p && decide (s.piType p = 5)

/-- R36: the levels after the filter, of pins seen at `lv` in `held` samples in a row. -/
def State.piAccept (s : State) (p : Nat) (lv : BitVec 4) (held : Nat) : BitVec 4 :=
  (List.range 4).foldl (fun x k =>
    if s.piFilter p k ≤ held ∧ ¬ (k = 0 ∧ s.piDrives p = true) then setBit x k (bit lv k) else x) (s.tport p).lv

/-- PHASE_INPUT_EDGE (R36 to R43, R54, R55, R57): the four pins of port p are seen at the levels `lv` from the sample `ts` on, in a row; a level seen for shorter than the filter is not accepted. `two` says that two counting edges fell into the same accepted sample. -/
def execPhaseInputEdge (p : Fin 16) (lv : BitVec 4) (ts : Seen) (two : Bool) (s : State) : Out :=
  let p := p.val
  let t := s.tport p
  let acc := s.piAccept p lv ts.held
  let two := two && decide (s.rf (piReg p 4) 0 6 ≤ ts.held)
  let old := s.piLevels p t.lv
  let new := s.piLevels p acc
  let s0 := s.setTport p { t with lv := acc }
  let tsl : Int := (ts.ts : Int) - s.piLat p
  let back (b : Bool) : Bool := b != s.rb (piReg p 0) 13
  let rise (i : Nat) : Bool := !bit old i && bit new i
  if !s.tallyRuns then ok s
  else if !s.piActive p then ok s0
  else
    match s.piType p with
    | 1 =>
      let a := bit old 0; let b := bit old 1; let a' := bit new 0; let b' := bit new 1
      if (a != a' && b != b') || two then
        let s1 := ((s0.sticky (piReg p 0x24) 15).sticky (piReg p 0x24) 14).count (piReg p 0x28) 8 8 2
        ok ((s1.count (piReg p 0x28) 0 8 2).counts p (if t.down then -2 else 2) tsl)
      else if a != a' || b != b' then ok (s0.counts p (if back (quadBack a b a' b') then -1 else 1) tsl)
      else ok s0
    | 2 =>
      let n : Int := if back (!bit new 1) then -1 else 1
      if two then ok (((s0.sticky (piReg p 0x24) 15).counts p (n * (s.secondEdge : Int)) tsl).bumpFree)
      else if rise 0 then ok (s0.counts p n tsl)
      else ok s0
    | 3 =>
      if two then ok (((s0.sticky (piReg p 0x24) 15).counts p (s.secondEdge : Int) tsl).bumpFree)
      else if rise 0 then ok (s0.counts p 1 tsl)
      else ok s0
    | 4 =>
      if two then ok (((s0.sticky (piReg p 0x24) 15).zeroCross p s.secondEdge tsl).bumpFree)
      else if rise 0 || (s.rb (piReg p 0) 12 && bit old 0 && !bit new 0) then ok (s0.zeroCross p 1 tsl)
      else ok s0
    | _ => ok s0

/-- R51: a line unlocks: LOCK goes, LOCKLOST is set if it was locked, the counts to lock start again. -/
def State.unlock (s : State) (l : Nat) : State :=
  let n := s.tline l
  let s1 := if n.locked then s.sticky (plReg l 0x2C) 15 else s
  s1.setTline l { n with locked := false, inTol := 0, outTol := 0 }

/-- R50: acquisition begins again: VALID clears until the first measurement. -/
def State.acquire (s : State) (l : Nat) : State :=
  let s1 := s.unlock l
  s1.setTline l { s1.tline l with acq := 0, valid := false, stillF := false, coast := false, edge := none, slewLeft := 0,
                                  misses := 0, meas := none }

/-- R56: the measurement a line has not used yet includes the port's correction too. -/
def TLine.measBy (n : TLine) (d : Int) : Option Meas := n.meas.map (fun x => { x with m := x.m + d })

/-- A line follows its port's sign: INV reverses it (R48). -/
def TLine.inv (n : TLine) (x : Int) : Int := if bit n.ctl 23 then -x else x

/-- INDEX_EDGE (R56): the Z pin of a quadrature port rises, and is seen high as `ts` says; the ZFLEN filter may not accept it. A
tie in the rounding of the lost counts goes up (log entry 143). -/
def execIndexEdge (p : Fin 16) (ts : Seen) (s : State) : Out :=
  let p := p.val
  let zm := s.rf (piReg p 0) 14 2
  if !s.tallyRuns || !s.piActive p || decide (s.piType p ≠ 1) || decide (ts.held < s.piFilter p 2) then ok s
  else
    let s := s.setTport p { s.tport p with lv := setBit (s.tport p).lv 2 (!s.rb (piReg p 0) 18) }
    let t := s.tport p
    if zm = 0 then ok s else
    let d := halfRange 16 ((s.rf (piReg p 0xC) 0 16 : Int) - (t.pos + t.zcorr) % 65536)
    if iabs d ≤ (s.rf (piReg p 0xC) 16 16 : Int) then ok s
    else
      let num : Int := s.piNum p
      let x := iabs d * s.piDen p
      let lost : Nat := if num = 0 then (Config.openQuot x 0).toNat else ((2 * x + num) / (2 * num)).toNat
      let s1 := (s.sticky (piReg p 0x24) 13).count (piReg p 0x28) 0 8 lost
      match zm with
      | 1 => ok (s1.each (s.linesOf p) State.unlock)
      | 2 =>
        let s2 := s1.setTport p { s1.tport p with zcorr := t.zcorr + d }
        ok (s2.each (s.linesOf p) (fun s l =>
          let n := s.tline l
          let dd := n.inv (d * 65536)
          s.setTline l { n with theta := n.theta + BitVec.ofInt 64 dd, edge := n.edge.map (· + dd), jump := true, meas := n.measBy (d * 65536) }))
      | _ =>
        let s2 := s1.setTport p { s1.tport p with zcorr := t.zcorr + d }
        ok (s2.each (s.linesOf p) (fun s l =>
          let n := s.tline l
          let dd := n.inv (d * 65536)
          s.setTline l { n with slewLeft := n.slewLeft + dd, edge := n.edge.map (· + dd), meas := n.measBy (d * 65536) }))

/-- R42: the frame length an SSI port samples with, if it does. -/
def State.ssiBits (s : State) (p : Nat) : Option Nat :=
  let b := s.rf (piReg p 0x10) 0 6
  if 8 ≤ b ∧ b ≤ 32 then some b else none

/-- R35, R42: the SSI clock of port p, on its pin 0, at a level taken after POL. It idles high (log entry 144). -/
def State.ssiClock (s : State) (p : Nat) (high : Bool) : State :=
  s.setTport p { s.tport p with lv := setBit (s.tport p).lv 0 (high != s.rb (piReg p 0) 16) }

/-- SSI_REQUEST (R42): a burst of BITS clock pulses begins; `ts` is its first falling clock edge, `dataHigh` the data line then. -/
def execSsiRequest (p : Fin 16) (ts : Nat) (dataHigh : Bool) (s : State) : Out :=
  let p := p.val
  if s.tallyRuns && s.piDrives p && (s.ssiBits p).isSome then
    let s1 := (s.ssiClock p false).setTport p { (s.ssiClock p false).tport p with burst := some ((ts : Int) - s.piLat p), low := !dataHigh }
    ok (if dataHigh then s1 else s1.sticky (piReg p 0x24) 9)
  else ok s

/-- Gray code to binary: each bit the exclusive OR of itself and every higher bit. -/
def grayDecode (v : Word) : Word :=
  let a := v ^^^ (v >>> 1)
  let b := a ^^^ (a >>> 2)
  let c := b ^^^ (b >>> 4)
  let d := c ^^^ (c >>> 8)
  d ^^^ (d >>> 16)

/-- R40: an absolute sample scaled to a phase short, extended to a phase word by half-range differences, and delivered. The first sample after
EN is set has no measurement before it: its upper turns are 0 (log entry 145). -/
def State.sample (s : State) (p : Nat) (raw : Word) (ts : Int) : State :=
  let t := s.tport p
  let short : Int := roundOpen ((raw.toNat : Int) * s.piNum p) (s.piDen p) % 2 ^ 32
  let word := if t.first then short else t.word + halfRange 32 (short - t.word)
  let s1 := s.setTport p { t with word := word, first := false }
  s1.deliver p ⟨word * 65536, ts, false, t.first || decide (word ≠ t.word)⟩

/-- SSI_FRAME (R42): the burst's data bits, most significant first and right-aligned; `returned` says that the data line
went high again within 64 clock periods. COUNT shows the frame's value after any conversion from Gray code (log entry 146). -/
def execSsiFrame (p : Fin 16) (bits : Word) (returned : Bool) (s : State) : Out :=
  let p := p.val
  match (s.tport p).burst, s.ssiBits p with
  | some ts, some nb =>
    let t := s.tport p
    let s0 := (s.ssiClock p true).setTport p { (s.ssiClock p true).tport p with burst := none, low := false }
    if !s.tallyRuns || !s.piDrives p then ok s
    else if t.low then ok s0
    else if !returned then ok (s0.sticky (piReg p 0x24) 9)
    else
      let v := bits &&& BitVec.ofNat 32 (2 ^ nb - 1)
      let v := if s.rb (piReg p 0x10) 7 then grayDecode v else v
      ok ((s0.setTport p { s0.tport p with count := v }).sample p v ts)
  | _, _ => ok s

/-- FABRIC_STREAM_MEASUREMENT (R45): the token that up-ferry n, enabled and naming a port with DEST = 0b11, holds is accepted at `ts`. -/
def execFabricStreamMeasurement (n : Fin 128) (ts : Nat) (s : State) : Out :=
  let c : Reg := ⟨.fryUp, n.val, 0⟩
  let p := s.rf c 16 4
  match (s.upf n.val).q with
  | [] => ok s
  | t :: _ =>
    if s.rb c 31 && decide (s.rf c 29 2 = 3) && s.tallyRuns then
      let s1 := s.setUpf n.val { s.upf n.val with q := [] }
      if s.piActive p && decide (s.piType p = 6) then
        if t.p then ok (s1.sticky (piReg p 0x24) 10)
        else ok (s1.sample p t.d ((ts : Int) - s.piLat p))
      else ok s1
    else ok s

/-- R38: a reserved TYPE is stored as 0. -/
def cfgTypeFix (v : Word) : Word := if 9 ≤ fld v 24 4 then setFld v 24 4 0 else v

/-- R47, R50, R51: a write to a register of port p, `off` its offset. Every field but EN is written only while EN = 0. A change of EN clears
the remainder and the SSI burst; the position, the raw count and the index correction stay (log entries 9 and 147). -/
def State.piWrite (s : State) (p off : Nat) (v : Word) : State :=
  let g := piReg p off
  let gated : RegVal := if off = 0 then ~~~0x80000000 else ~~~0
  let v := if off = 0 then cfgTypeFix v else v
  let i := (g.info).getD {}
  let new := i.write (s.rget g) (v.setWidth 64)
  if off = 0x24 then s.writePlain g (v.setWidth 64)
  else if s.piEn p && decide (new &&& gated ≠ s.rget g &&& gated) then s.viol .tlyPi p
  else
    let s1 := s.rput g new
    if off = 0 && (bit v 31 != s.piEn p) then
      let s2 := s1.setTport p { s1.tport p with rem := 0, first := true, burst := none, low := false }
      let s3 := if s2.piDrives p then s2.ssiClock p true else s2
      s3.each (s3.linesOf p) State.acquire
    else s1

/-- TLY_PORT_CFG_WRITE (R47): the register at offset 4 * off of port p (CFG, COND, SCALE, ZREF, SSI, LAT, PERIOD, EPOCHL, EPOCHH). -/
def execTlyPortCfgWrite (iss : Issuer) (p : Fin 16) (off : Fin 9) (v : Word) (s : State) : Out :=
  ok (s.guarded iss .tlyPi p.val (fun s => s.piWrite p.val (4 * off.val) v))

/-- R493: a write to TLY_DIFF: each bit pair n (DIFF n, TERM n) is taken unless port n or n + 8 has EN = 1. -/
def State.diffWrite (s : State) (v : Word) : State :=
  s.each (List.range 8) (fun s n =>
    if s.piEn n || s.piEn (n + 8) then s.viol .tly 0
    else (s.rsetb tlyDiff n (bit v n)).rsetb tlyDiff (n + 8) (bit v (n + 8)))

/-- TLY_DIFF_WRITE (R493). -/
def execTlyDiffWrite (iss : Issuer) (v : Word) (s : State) : Out :=
  ok (s.guarded iss .tly 0 (fun s => s.diffWrite v))

/-- R61: a write to TLY_CTL: CALPER is stored, CALRUN asks for a calibration. -/
def State.tlyCtlWrite (s : State) (v : Word) : State :=
  let s1 := s.writePlain ⟨.tly, 0, 0⟩ (v.setWidth 64)
  if bit v 8 then { s1 with calReq := true } else s1

/-- CALRUN (R61): CALRUN written 1, CALPER as it stands. -/
def execCalrun (iss : Issuer) (s : State) : Out :=
  ok (s.guarded iss .tly 0 (fun s => s.tlyCtlWrite (BitVec.ofNat 32 (0x100 + s.rf ⟨.tly, 0, 0⟩ 0 2))))

/-- REFLOCK (R61): the multiplier locks and the Tally's clock starts. -/
def execReflock (s : State) : Out := ok (s.sticky tlyStat 0)

/-- SPINE_CALIBRATION (R61): the receivers measure and compensate the seam delay; `skew` is the largest residual found, in ps.
Before REFLOCK there is no strobe to calibrate. With CALPER = 0b11 one runs at power-up and where CALRUN asked for it. -/
def execSpineCalibration (skew : Fin 301) (s : State) : Out :=
  if s.tallyRuns && (!s.rb tlyStat 1 || s.calReq || decide (s.rf ⟨.tly, 0, 0⟩ 0 2 ≠ 3)) then
    ok { ((s.rsetf tlyStat 16 16 skew.val).sticky tlyStat 1) with calReq := false }
  else ok s

/-- 2^-53 pu, the unit the estimator's sums are exact in; 2^101 of them make the ring of the phase word. -/
def ring53 : Nat := 101

/-- R8: estimator differences are taken half-range modulo 2^32 pu, which is 2^85 of those units (log entry 141). -/
def shortDiff (x : Int) : Int := halfRange 85 x

/-- R48: the quotient x * 2^-k / d; a shift of 31 makes the gain zero. -/
def gained (x : Int) (k : Nat) (d : Int) : Int := if k = 31 then 0 else quotOpen x (d * 2 ^ k)

/-- A line's estimate in 2^-53 pu. -/
def TLine.theta53 (n : TLine) : Int := (n.theta.toNat : Int) * 2 ^ 37

/-- The estimate stored with its 16 fraction bits. -/
def storeTheta (x : Int) : BitVec 64 := BitVec.ofInt 64 (roundOpen x (2 ^ 37))

/-- R51: the lock counts after a measurement with difference e (2^-53 pu); answers the line and whether it unlocked. -/
def TLine.lockStep (n : TLine) (e : Int) : TLine × Bool :=
  let tol : Int := (fld n.lock 16 16 : Int) * 2 ^ 53
  let inT := if iabs e ≤ tol then n.inTol + 1 else 0
  let outT := if 2 * tol < iabs e then n.outTol + 1 else 0
  if n.locked then
    if atLeast1 (fld n.lock 0 8) ≤ outT then ({ n with locked := false, inTol := 0, outTol := 0 }, true)
    else ({ n with inTol := inT, outTol := outT }, false)
  else
    ({ n with inTol := inT, outTol := 0, locked := decide (atLeast1 (fld n.lock 8 8) ≤ inT) }, false)

/-- R48, R49: the integration of one tick: theta + omega + alpha / 2 in 2^-53 pu, and omega + alpha. -/
def TLine.integrate (n : TLine) : Int × Int :=
  (n.theta53 + n.omega * 32 + n.alpha * 16, n.omega + n.alpha)

/-- What a tick makes of a measurement (R49, R50, R54): the line (theta stored), whether it unlocked, and whether it reversed.
`now` is the tick's time in samples, `typ` the source type of the line's port, `one` one count in 2^-16 pu. -/
def TLine.measure (n : TLine) (m : Meas) (now : Int) (typ : Nat) (one : Int) : TLine × Bool × Bool :=
  let (th, om) := n.integrate
  let v := (n.inv m.m - n.slewLeft) * 2 ^ 37
  let down := m.down != bit n.ctl 23
  let age := now - m.ts
  let base : TLine := { n with tsLast := m.ts, meas := none,
                               stillF := n.stillF && !m.moved,
                               edge := if isCounting typ then some (n.inv m.m) else none,
                               edgeTs := m.ts, oneCount := one,
                               down := if isCounting typ then down else false }
  if n.acq = 0 then
    ({ base with theta := storeTheta v, omega := 0, alpha := 0, valid := true, jump := true, m1 := v,
                 acq := if isTiming typ then 1 else 2 }, false, false)
  else if n.acq = 1 then
    let d := shortDiff (v - n.m1)
    let om' := quotOpen (d * 4) ((m.ts - n.tsLast) * 32)
    ({ base with omega := om', alpha := 0, acq := 2, theta := storeTheta (v + om' * age * 8) }, false, false)
  else if (typ = 1 ∨ typ = 2) ∧ down ≠ n.down then
    ({ base with theta := storeTheta v, omega := 0, alpha := 0 }, false, true)
  else
    let pred := th - om * age * 8 + n.alpha * age * age
    let e := shortDiff (v - pred)
    let dt := m.ts - n.tsLast
    let om' := om + gained (e * 4) (fld n.gain 8 5) (dt * 32)
    let (l, un) := { base with
      theta := storeTheta (th + (if fld n.gain 0 5 = 31 then 0 else quotOpen e (2 ^ fld n.gain 0 5))),
      omega := om',
      alpha := n.alpha + gained (e * 16) (fld n.gain 16 5) (dt * dt * 32),
      innov := e }.lockStep e
    (l, un, false)

/-- R52: the standstill clamp of a line on a counting source. -/
def TLine.clamp (n : TLine) (now : Int) (typ : Nat) : TLine :=
  match isCounting typ, n.edge with
  | true, some e =>
    let sg : Int := if n.down then -1 else 1
    let past := sg * halfRange 48 ((n.theta.toNat : Int) - (e - n.slewLeft))
    if n.oneCount < past then
      { n with theta := BitVec.ofInt 64 (e - n.slewLeft + sg * n.oneCount),
               omega := sg * quotOpen (n.oneCount * 2 ^ 34) (now - n.edgeTs), alpha := 0 }
    else n
  | _, _ => n

/-- R58: DIR of a timing or sampled line says that its estimate decreases; that of a counting line, which way its last count went. -/
def TLine.dirTick (n : TLine) (typ : Nat) : TLine := if isCounting typ then n else { n with down := decide (n.omega < 0) }

/-- R56: one tick's part of a ZMODE 3 correction, at most SLEW/256 pu, 0 acting as 1. -/
def TLine.slewTick (n : TLine) : TLine :=
  if n.slewLeft = 0 then n
  else
    let lim : Int := (atLeast1 (fld n.slew 0 16) : Int) * 256
    let d := if iabs n.slewLeft ≤ lim then n.slewLeft else if n.slewLeft < 0 then -lim else lim
    { n with theta := n.theta + BitVec.ofInt 64 d, slewLeft := n.slewLeft - d }

/-- est(k + 8) of R49 in 2^-53 pu: theta + 8 omega + 32 alpha + OFFS. -/
def TLine.est (n : TLine) : Int :=
  n.theta53 + 8 * n.omega * 32 + 32 * n.alpha * 32 + (BitVec.ofNat 32 (fld n.offs 0 32)).toInt * 2 ^ 53

/-- R59: publication. Answers the line, the STEP of the interval published last (none where the manual states no value for
it: the difference lies outside the STEP range, log entry 19) and whether the next value jumps. -/
def TLine.publish (n : TLine) : TLine × Option Int × Bool :=
  let diff := halfRange ring53 (n.est - (n.pub.toNat : Int) * 2 ^ 45)
  let step := roundDiv diff (2 ^ 45)
  let fits := decide (-32768 ≤ step ∧ step ≤ 32767)
  let jumps := n.valid && (n.jump || !fits)
  let pub := if jumps then BitVec.ofInt 56 (roundDiv n.est (2 ^ 45)) else n.pub + BitVec.ofInt 56 step
  let fl := b2n n.valid + 2 * b2n n.locked + 4 * b2n n.stillF + 8 * b2n n.down + 16 * b2n jumps
  ({ n with pub := pub, pubFlags := fl, jump := n.jump && !n.valid, jumps := n.jumps + b2n jumps }, if fits then some step else none, jumps)

/-- The frame part of the interval a line published last, with the STEP that leads to the next. -/
def TLine.frame (n : TLine) (step : BitVec 16) : LFrame :=
  ⟨n.pub.setWidth 40, step, n.pubFlags.testBit 0, n.pubFlags.testBit 1, n.pubFlags.testBit 2, n.pubFlags.testBit 3, n.pubFlags.testBit 4⟩

/-- R44: the measurement of a TYPE 7 port at this tick. -/
def State.ptpMeas (s : State) (p : Nat) : Meas :=
  let per := atLeast1 (s.rf (piReg p 0x18) 0 32)
  let ep : Int := (s.rf (piReg p 0x1C) 0 32 : Int) + (s.rf (piReg p 0x20) 0 32 : Int) * 2 ^ 32
  let d := halfRange 64 (((s.ptp / 2 ^ 32 : Nat) : Int) - ep)
  ⟨d * 2 ^ 32 / (per : Int), (s.time : Int) - s.piLat p, false, true⟩

/-- R413: a tick of the 1588 clock: PTPADD, limited to ±1,000 ppm of nominal, and the step STEPGO asked for. -/
def State.ptpTick (s : State) : State :=
  let add := (s.rget ⟨.mac, 0, 0x18⟩).toNat
  let nom := 0x500000000
  let add := if add < nom - nom / 1000 then nom - nom / 1000 else if nom + nom / 1000 < add then nom + nom / 1000 else add
  let st : Int := if s.ptpGo then (s.rget ⟨.mac, 0, 0x20⟩).toInt else 0
  { s with ptp := (((s.ptp : Int) + add + st * 2 ^ 32) % 2 ^ 96).toNat, ptpGo := false, ptpMark := st }

/-- One line's part of a tick: R49 to R56, R59. Answers its part of the frame as well. -/
def State.lineTick (s : State) (l : Nat) : State × LFrame :=
  let s := if s.rb (plReg l 0) 31 != (s.tline l).run then
      (let s1 := (s.setTline l { s.tline l with locked := false }).acquire l
       s1.setTline l { s1.tline l with run := s.rb (plReg l 0) 31 })
    else s
  let n := s.tline l
  let p := fld n.ctl 24 4
  let typ := s.piType p
  let now : Int := s.time
  let one := roundOpen ((s.piNum p : Int) * 65536) (s.piDen p)
  let meas := if typ = 7 && s.piActive p then some (s.ptpMeas p) else n.meas
  let (n1, un, rev) :=
    if !n.run then (n, false, false)
    else match meas with
      | none =>
        if n.acq = 0 then (n, false, false)
        else
          let (th, om) := n.integrate
          ({ n with theta := storeTheta th, omega := om }, false, false)
      | some m =>
        if n.coast then ({ n with meas := none, theta := storeTheta n.integrate.1, omega := n.integrate.2 }, false, false)
        else if typ = 7 && decide (s.ptpMark ≠ 0) && decide (n.acq ≠ 0) then
          let per := atLeast1 (s.rf (piReg p 0x18) 0 32)
          let d := n.inv (s.ptpMark * 2 ^ 32 / (per : Int))
          ({ n with theta := storeTheta n.integrate.1 + BitVec.ofInt 64 d, omega := n.integrate.2, tsLast := m.ts,
                    m1 := n.m1 + d * 2 ^ 37, jump := true, meas := none }, false, false)
        else n.measure m now typ one
  let n2 := if n.run then ((n1.clamp now typ).slewTick).dirTick typ else n1
  let (n3, step, jumps) := n2.publish
  let fr := n2.frame (match step with | some x => BitVec.ofInt 16 x | none => s.freeNow.setWidth 16)
  let s1 := s.setTline l n3
  let s1 := if step.isNone then s1.bumpFree else s1
  let s1 := if un then s1.sticky (plReg l 0x2C) 15 else s1
  let s1 := if rev then s1.sticky (plReg l 0x2C) 14 else s1
  let s1 := if jumps then s1.sticky (plReg l 0x2C) 13 else s1
  (s1, fr)

/-- The eight lines in order, with their frame parts. -/
def State.linesTick (s : State) : List Nat → State × List LFrame
  | [] => (s, [])
  | l :: t =>
    let (s1, f) := s.lineTick l
    let (s2, fs) := s1.linesTick t
    (s2, f :: fs)

/-- A watchdog's registers. -/
def wdgReg (i off : Nat) : Reg := ⟨.wdg, 0, 0x10 * i + off⟩

/-- R472: core c is halted. -/
def State.coreHalted (s : State) (c : Nat) : Bool := s.rb ⟨.dbg, 0, 4⟩ c

/-- R408, R410: watchdog i counts. -/
def State.wdgRuns (s : State) (i : Nat) : Bool :=
  s.rb (wdgReg i 0) 31 &&
    (if i < 4 then !s.coreHalted i && decide (s.dom (732 + i) ≠ 1)
     else !(s.rb ⟨.dbg, 0, 0⟩ 31 && (List.range 4).any s.coreHalted))

/-- R408: 5 ns of the watchdogs' counts; the last is left to WATCHDOG_EXPIRY. -/
def State.wdgTick (s : State) : State :=
  s.each (List.range 5) (fun s i =>
    let w := s.wdg i
    if s.wdgRuns i && decide (1 < w.left) then s.setWdg i { w with left := w.left - 1 } else s)

/-- SPINE_TICK (R49, R58 to R60, R413): the Tally's time advances by 5 ns, the 1588 clock and the watchdogs tick, each line updates and publishes,
and the frame of the interval seven ahead, whose STEP the new estimate completes, is emitted (log entry 13). The Tally's
clock is stopped until REFLOCK (R61). -/
def execSpineTick (s : State) : Out :=
  if s.tallyRuns then
    let s1 := ({ s with time := s.time + 4 }).ptpTick.wdgTick
    let (s2, fs) := s1.linesTick (List.range 8)
    ok { s2 with interval := s2.interval + 1, ptpMark := 0,
                 frames := (⟨s2.interval, fs⟩ :: s2.frames).take 8 }
  else ok s

/-- STANDSTILL_TIMEOUT (R53, R51): no count (or no changed sample) for STILL µs on line l. -/
def execStandstillTimeout (l : Fin 8) (s : State) : Out :=
  let l := l.val
  let n := s.tline l
  let typ := s.piType (fld n.ctl 24 4)
  if s.tallyRuns && n.run && decide (n.acq ≠ 0) && (isCounting typ || isSampled typ) && decide (fld n.still 0 16 ≠ 0) then
    let s1 := s.setTline l { n with stillF := true, omega := 0, alpha := 0, down := n.down && isCounting typ }
    ok (if bit n.ctl 22 then s1 else s1.unlock l)
  else ok s

/-- R57: the count that line l inserts for a missed pulse: into its port, or, where other lines follow the port too, into what it alone measures
(log entry 142). -/
def State.insertCount (s : State) (p l : Nat) : State :=
  if s.linesOf p = [l] then s.piCount p 1 else s.setTline l { s.tline l with mcnt := (s.tline l).mcnt + 1 }

/-- MISSING_PULSE (R57, R51): no pulse by the tolerance time on locked line l. One count is inserted as if the pulse had come. -/
def execMissingPulse (l : Fin 8) (s : State) : Out :=
  let l := l.val
  let n := s.tline l
  let p := fld n.ctl 24 4
  if s.tallyRuns && n.run && n.locked && s.piActive p && decide (s.piType p = 4) then
    let t := quotOpen ((s.piNum p : Int) * 2 ^ 50) (iabs n.omega * s.piDen p)
    let s0 := s.insertCount p l
    let s1 := s0.setTline l { s0.tline l with coast := true, misses := n.misses + 1, edgeTs := n.edgeTs + t }
    let s2 := (s1.sticky (piReg p 0x24) 12).count (piReg p 0x28) 24 8 1
    ok (if atLeast1 (fld n.still 16 8) ≤ n.misses + 1 then s2.unlock l else s2)
  else ok s

/-- LINE_ENABLE, COMMIT (R65, R50): a write to CTL of line l: EN and the staged fields are stored, COMMIT asks for their
application. EN is taken by the next tick. -/
def State.plCtlWrite (s : State) (l : Nat) (v : Word) : State :=
  let s1 := s.writePlain (plReg l 0) (v.setWidth 64)
  if bit v 30 then s1.setTline l { s1.tline l with commit := true } else s1

/-- LINE_ENABLE (R50, R65): TLY_PLl_CTL written with v. -/
def execLineEnable (iss : Issuer) (l : Fin 8) (v : Word) (s : State) : Out :=
  ok (s.guarded iss .tlyPl l.val (fun s => s.plCtlWrite l.val v))

/-- COMMIT (R65): TLY_PLl_CTL written with COMMIT = 1 and its stored fields as they stand. -/
def execCommit (iss : Issuer) (l : Fin 8) (s : State) : Out :=
  ok (s.guarded iss .tlyPl l.val (fun s =>
    s.plCtlWrite l.val (BitVec.ofNat 32 (0x40000000 + (s.rget (plReg l.val 0) &&& 0x8FC00000).toNat))))

/-- R65: the staged values of line l take effect. A change of SRC or INV starts acquisition; a change of OFFS jumps. -/
def State.applyStaged (s : State) (l : Nat) : State :=
  let n := s.tline l
  let ctl := s.rget (plReg l 0)
  let offs := s.rget (plReg l 0x10)
  let n1 : TLine := { n with ctl := ctl, gain := s.rget (plReg l 4), lock := s.rget (plReg l 8), still := s.rget (plReg l 0xC),
                             offs := offs, slew := s.rget (plReg l 0x14), commit := false,
                             jump := n.jump || decide (offs ≠ n.offs),
                             mcnt := if fld ctl 24 4 = fld n.ctl 24 4 then n.mcnt else 0 }
  let s1 := s.setTline l n1
  if fld ctl 24 4 ≠ fld n.ctl 24 4 ∨ bit ctl 23 ≠ bit n.ctl 23 then s1.acquire l else s1

/-- COMMIT_APPLY (R65): the first interval boundary after a COMMIT of line l. -/
def execCommitApply (l : Fin 8) (s : State) : Out :=
  if s.tallyRuns && (s.tline l.val).commit then ok (s.applyStaged l.val) else ok s

/-- The readable state of a line as it stands (R66, R67). -/
def State.lineView (s : State) (l : Nat) : LineView :=
  let n := s.tline l
  ⟨n.pub.extractLsb' 8 32, (n.pub.extractLsb' 40 16).setWidth 32, satS32 (roundDiv n.omega (2 ^ 24)), satS32 (roundDiv n.alpha (2 ^ 8)),
   satS32 (roundDiv n.innov (2 ^ 45)),
   BitVec.ofNat 32 (b2n n.valid + 2 * b2n n.locked + 4 * b2n n.stillF + 8 * b2n n.down + 16 * b2n n.coast)⟩

/-- R66: a write to HOLD: the readable state freezes, or is live again. -/
def State.holdWrite (s : State) (l : Nat) (v : Word) : State :=
  let n := s.tline l
  let s1 := s.writePlain (plReg l 0x30) (v.setWidth 64)
  s1.setTline l { n with held := if bit v 0 then some (n.held.getD (s.lineView l)) else none }

/-- HOLD (R66). -/
def execHold (iss : Issuer) (l : Fin 8) (v : Word) (s : State) : Out :=
  ok (s.guarded iss .tlyPl l.val (fun s => s.holdWrite l.val v))

/-- What the readable registers of a line show (R66). -/
def State.lineShown (s : State) (l : Nat) : LineView := ((s.tline l).held).getD (s.lineView l)

end Sys2Proof.Machine
end

