-- ==== Sys2Proof/Machine/Choval.lean ====
section
/-! DEFINITION. Choval messages and the forwarding stage (R280 to R286, R297 to R312): parsing and routing, remote accesses and their records, replies, links handing back what they hold, streams, phase and management messages. -/

namespace Sys2Proof.Machine

/-- A link's registers, and the package's. -/
def chl (l off : Nat) : Reg := ⟨.chvL, l, off⟩
def chvReg (off : Nat) : Reg := ⟨.chv, 0, off⟩
def sysStat : Reg := chvReg 0x908
def sysErr : Reg := chvReg 0x90C

/-- CHV_STAT.STATE (R287): 0 DOWN, 1 DETECT, 2 LOCK, 3 ALIGN, 4 NEGOTIATE, 5 ACTIVE, 6 RETRAIN, 7 FAILED. -/
def State.lstate (s : State) (l : Nat) : Nat := s.rf (chl l 4) 0 3

/-- R300: a link can carry messages: ACTIVE or in RETRAIN, and not isolated (R298). -/
def State.linkUsable (s : State) (l : Nat) : Bool := (s.lstate l == 5 || s.lstate l == 6) && !(s.clink l).isolated

/-- R299, R300: where the route table leads. -/
inductive Lookup where
  | invalid
  | unreachable
  | via (l : Nat)
  deriving DecidableEq, Repr

/-- R299, R300: the entry of package p. ALT serves while LINK is DOWN or FAILED. -/
def State.lookup (s : State) (p : Nat) : Lookup :=
  let e := s.rget (chvReg (0x4000 + 4 * p))
  let l := fld e 0 5
  let down := s.lstate l == 0 || s.lstate l == 7 || (s.clink l).isolated
  if !bit e 31 then .invalid
  else if s.linkUsable l then .via l
  else if down && bit e 30 && s.linkUsable (fld e 8 5) then .via (fld e 8 5)
  else .unreachable

/-- R301, R306: an UNREACHABLE reply is generated here. -/
def State.unreach (s : State) : State := (s.sticky sysStat 30).count sysErr 0 8 1

/-- R303, R304, R306: a message discarded. -/
def State.dropMsg (s : State) : State := s.count sysErr 8 8 1

/-- A message ready on a link in a class. -/
def State.queueMsg (s : State) (l cls : Nat) (m : Msg) : State :=
  s.setClink l { s.clink l with txq := (s.clink l).txq ++ [(cls, m)] }

/-- A message made in this package. -/
def Msg.of (typ dpkg spkg : Nat) (h1 : Word) (words : List Word) : Msg := { typ := typ, dpkg := dpkg, spkg := spkg, h1 := h1, words := words }

/-- STATUS of a reply (R282), and an answer's reply words. -/
def Answer.status : Answer → Nat
  | .word _ => 0
  | .done => 0
  | .quarantined => 1
  | .unreachable => 2

/-- R282, R283: the reply to a request of package `dpkg` with port word h1. -/
def replyMsg (own dpkg : Nat) (h1 : Word) (k : AKind) (a : Answer) : Msg :=
  let (d, p) := match a with
    | .word t => (t.d, t.p)
    | .done => (0, false)
    | _ => (0, true)
  let h := (h1 &&& 0xFFEFF000#32) ||| BitVec.ofNat 32 (a.status * 256)
  match k with
  | .read => .of 3 dpkg own (if p then h ||| 0x00100000#32 else h) [d]
  | .write => .of 4 dpkg own h []

/-- R282: the port a port word names, as the region and the number region * 64 + cluster * 4 + port. -/
def portWordLp (h : Word) : Nat := (fld h 30 2 * 8 + fld h 27 3) * 64 + fld h 23 4 * 4 + fld h 21 2

/-- The port word of a logical port and a TAG. -/
def portWord (lp tag : Nat) (p : Bool) : Word :=
  BitVec.ofNat 32 (lpR lp / 8 * 2 ^ 30 + lpR lp % 8 * 2 ^ 27 + lpC lp * 2 ^ 23 + lpP lp * 2 ^ 21 + b2n p * 2 ^ 20 + tag * 2 ^ 12)

/-- R305: the record a reply answers: an access of this package that has left, by port, TAG and kind. -/
def State.recordOf (s : State) (h : Word) (k : AKind) : Option Flight :=
  s.flights.find? (fun f => f.ans.isNone && f.pkg.isSome && f.kind == k && f.lp == portWordLp h &&
    (match f.sent with | some (_, t) => t == fld h 12 8 | none => false))

/-- R283, R305: a reply for this package completes the access it answers; with no record it is late. -/
def State.takeReply (s : State) (m : Msg) (k : AKind) : State :=
  match s.recordOf m.h1 k with
  | none => { s.count sysErr 24 8 1 with lateTags := s.lateTags.erase (portWordLp m.h1, fld m.h1 12 8) }
  | some f => s.answer f.id (match fld m.h1 8 4 with
      | 1 => .quarantined
      | 2 => .unreachable
      | _ => match k with
        | .read => .word { d := nth 0 m.words 0, p := bit m.h1 20 }
        | .write => .done)

/-- R299, R301, R306: a reply generated here goes toward package m.dpkg; a reply that cannot be sent is discarded. -/
def State.sendReply (s : State) (cls : Nat) (m : Msg) : State :=
  if m.dpkg = s.ownPkg then s.takeReply m (if m.typ = 3 then .read else .write)
  else match s.lookup m.dpkg with
    | .via l => s.queueMsg l cls m
    | .unreachable => s.dropMsg
    | .invalid => s.viol .chv 0

/-- A message is a READ or a WRITE. -/
def Msg.isRequest (m : Msg) : Bool := m.typ == 1 || m.typ == 2
def Msg.akind (m : Msg) : AKind := if m.typ = 1 then .read else .write

/-- R306: a message that is not sent: a request is answered UNREACHABLE, any other is discarded. -/
def State.notSent (s : State) (cls : Nat) (m : Msg) : State :=
  if m.isRequest then (s.unreach).sendReply cls (replyMsg s.ownPkg m.spkg m.h1 m.akind .unreachable) else s.dropMsg

/-- R299 to R303, R306: a message for another package, arrived on `inl` or held back by a link. -/
def State.forward (s : State) (inl : Option Nat) (cls : Nat) (m : Msg) : State :=
  match s.lookup m.dpkg with
  | .invalid =>
    let s1 := s.viol .chv 0
    if m.isRequest then s1.sendReply cls (replyMsg s.ownPkg m.spkg m.h1 m.akind (zeroAnswer m.akind)) else s1
  | .unreachable => s.notSent cls m
  | .via l => if inl = some l then s.dropMsg else s.queueMsg l cls { m with inl := inl }

/-- R305: a TAG of port lp that none of its records uses. -/
def State.tagFree (s : State) (lp t : Nat) : Bool := !s.flights.any (fun f => f.lp == lp && (f.sent.map (·.2)) == some t)

/-- R282, R305: the TAG a port gives its next request: the first that no record of its uses and no late reply may carry. -/
def State.freeTag (s : State) (lp : Nat) : Nat :=
  let free := (List.range 256).filter (s.tagFree lp)
  ((free.find? (fun t => !s.lateTags.contains (lp, t))).or free.head?).getD 0

/-- R305, R306: a request of this package that has left is answered UNREACHABLE here; a reply to it that comes later is discarded. -/
def State.giveUp (s : State) (f : Flight) : State :=
  let s1 := (s.unreach).answer f.id .unreachable
  match f.sent with
  | some (_, t) => { s1 with lateTags := s1.lateTags ++ [(f.lp, t)] }
  | none => s1

/-- R305: records in use. -/
def State.records (s : State) : Nat := (s.flights.filter (fun f => f.sent.isSome && f.ans.isNone)).length

/-- R282: the address word of an access. -/
def addrWord (f : Flight) : Word :=
  BitVec.ofNat 32 (b2n f.lock * 2 ^ 31 + addrRegion f.addr / 8 * 2 ^ 29 + addrRegion f.addr % 8 * 2 ^ 26 + f.addr % 2 ^ 24)

/-- R282: the message of an access to another package. -/
def requestMsg (own : Nat) (f : Flight) (pkg tag : Nat) : Msg :=
  match f.kind with
  | .read => .of 1 pkg own (portWord f.lp tag f.poison) [addrWord f]
  | .write => .of 2 pkg own (portWord f.lp tag f.poison) [addrWord f, f.data.d]

/-- R24, R302: an access that reached the same base seam before `f`, in its class and for the same link, has not left yet. -/
def State.seamAhead (s : State) (f : Flight) (l : Nat) : Bool :=
  s.flights.any (fun x => x.ahead f && x.path.isEmpty && x.ans.isNone && x.sent.isNone && x.tc == f.tc && lpR x.lp / 8 == lpR f.lp / 8 &&
    (match x.pkg with | some p => s.lookup p == .via l | none => false))

/-- R299 to R302, R305: an access of this package to another one, arrived at the base seam, leaves in its turn, or is answered here. -/
def State.forwardFlight (s : State) (id : Nat) : State :=
  match s.flight id with
  | none => s
  | some f =>
    match f.pkg with
    | none => s
    | some p =>
      if f.ans.isSome || f.sent.isSome || !f.path.isEmpty then s
      else match s.lookup p with
        | .invalid => (s.viol .chv 0).answer id (zeroAnswer f.kind)
        | .unreachable => (s.unreach).answer id .unreachable
        | .via l =>
          if s.seamAhead f l || decide (2048 ≤ s.records) then s
          else
            let t := s.freeTag f.lp
            ({ s with lateTags := s.lateTags.erase (f.lp, t) }.mapFlight id (fun f => { f with sent := some (l, t) })).queueMsg l f.tc (requestMsg s.ownPkg f p t)

/-- R281: LEN lies in its type's range, and the class is one the type is allowed in (R280). -/
def msgOk (typ len cls : Nat) : Bool :=
  match typ with
  | 1 => len == 1
  | 2 => len == 2
  | 3 => len == 1
  | 4 => len == 0
  | 5 => decide (1 ≤ len ∧ len ≤ 10)
  | 6 => len == 8 && cls == 0
  | 7 => decide (1 ≤ len ∧ len ≤ 11) && cls == 3
  | _ => false

/-- R281: the messages of a frame's message words, each with whether it is in order; a message that runs past the frame's end is not. -/
def parseMsgs (cls : Nat) : Nat → List Word → List (Msg × Bool)
  | 0, _ => []
  | k + 1, h0 :: h1 :: rest =>
    if h0 = 0 then []
    else
      let len := fld h0 24 4
      let m : Msg := .of (fld h0 28 4) (fld h0 12 12) (fld h0 0 12) h1 (rest.take len)
      (m, msgOk m.typ len cls && decide (len ≤ rest.length)) :: parseMsgs cls k (rest.drop len)
  | _ + 1, h0 :: [] => if h0 = 0 then [] else [({}, false)]
  | _ + 1, [] => []

/-- R281: the words of a message. -/
def Msg.encode (m : Msg) : List Word :=
  BitVec.ofNat 32 (m.typ * 2 ^ 28 + m.words.length * 2 ^ 24 + m.dpkg * 2 ^ 12 + m.spkg) :: m.h1 :: m.words

/-- The first message of class cls received on link l, with its frame's arrival. -/
def State.front (s : State) (l cls : Nat) : Option (Msg × Nat) :=
  match (s.clink l).rx.find? (fun f => f.cls == cls) with
  | some f => f.msgs.head?.map (fun m => (m, f.rx))
  | none => none

/-- R277, R278: a count of freed buffers of class cls raised by one, modulo 256. -/
def freeOne (w : Word) (cls : Nat) : Word := setFld w (24 - 8 * cls) 8 (fld w (24 - 8 * cls) 8 + 1)

/-- The first frame of class cls with its messages changed by `f`; it is freed once it holds none (R277). -/
def RxFrame.pop (cls : Nat) (f : List Msg → List Msg) : List RxFrame → List RxFrame × Bool
  | [] => ([], false)
  | x :: t =>
    if x.cls = cls then
      let ms := f x.msgs
      if ms.isEmpty then (t, true) else ({ x with msgs := ms } :: t, false)
    else let (t', b) := RxFrame.pop cls f t; (x :: t', b)

/-- The front message of a class taken onward, or replaced by what is left of it. -/
def State.popMsg (s : State) (l cls : Nat) (left : Option Msg) : State :=
  let k := s.clink l
  let (rx, gone) := RxFrame.pop cls (fun ms => match left with | some m => m :: ms.drop 1 | none => ms.drop 1) k.rx
  s.setClink l { k with rx := rx, freed := if gone then freeOne k.freed cls else k.freed }

/-- R283: the access of a READ or WRITE message, as requester 16 of its package and port. An address with nonzero reserved bits leads to a reserved
offset of the region's window, where it is answered silently and counted (R19, R31, log entry 167). -/
def Msg.flight (m : Msg) (cls l : Nat) : Flight :=
  let a := nth 0 m.words 0
  { iss := .remote m.spkg (portWordLp m.h1 / 64) (portWordLp m.h1), lp := 4096, tc := cls, kind := m.akind, lock := bit a 31,
    poison := bit m.h1 20, addr := winBase (fld a 29 2 * 8 + fld a 26 3) + (if fld a 24 2 = 0 then fld a 0 24 else 0x600000),
    data := { d := nth 0 m.words 1 }, from_ := some (m.spkg, m.h1, l) }

/-- R284, R358: the stream-map word of channel c of link l: direction 0 outbound, 1 inbound. -/
def State.streamMap (s : State) (l c d : Nat) : Word :=
  let o := 4 * (32 * l + 2 * c + d)
  BitVec.ofNat 32 (s.cfgLE 10 0 (o / 512) (o % 512) 4)

/-- The base-seam ferry a stream-map word names (R457). -/
def mapFerry (w : Word) : Nat := fld w 27 2 * 32 + fld w 22 5

/-- R284: tokens of a STREAM message given to a down-ferry while it has room; answers what is left, with its P and F bits. -/
def State.streamTake (s : State) (n : Nat) : List Word → Word → State × List Word × Word
  | [], sbits => (s, [], sbits)
  | w :: t, sbits =>
    let f := s.dnf n
    let k := kindOf (s.rget (dnReg n 0)) false
    if k = .latest ∨ f.q.length < k.room then
      let tok : Tok := ⟨w, bit sbits 0, bit sbits 1⟩
      (s.setDnf n { f with q := if k = .latest then [tok] else f.q ++ [tok] }).streamTake n t (sbits >>> 2)
    else (s, w :: t, sbits)

/-- R284: a STREAM message for this package: its tokens onto the mapped base-seam channel; an unmapped channel discards it, with PROT. -/
def State.streamMsg (s : State) (l cls : Nat) (m : Msg) : State :=
  let w := s.streamMap l (fld m.h1 28 4) 1
  if !bit w 31 then (s.popMsg l cls none).sticky (chl l 4) 27
  else
    let (s1, left, sbits) := s.streamTake (mapFerry w) m.words (m.h1 &&& 0xFFFFF#32)
    s1.popMsg l cls (if left.isEmpty then none
      else some { m with words := left, h1 := (m.h1 &&& 0xF0000000#32) ||| (sbits &&& 0xFFFFF#32) })

/-- A 64-bit time of two words. -/
def time64 (lo hi : Word) : Nat := hi.toNat * 2 ^ 32 + lo.toNat

/-- R311: the averaged one-way delay: half the mean of the last 16 round trips, in ps. -/
def CLink.delayPs (k : CLink) : Int := roundOpen ((k.rtts.foldl (· + ·) 0 : Nat) * 625) 16

/-- R310, R311: a measurement for every TYPE 8 port that takes this line from this link; it clears COAST (R312). -/
def State.phaseMeasure (s : State) (l line : Nat) (m ts : Int) : State :=
  if !s.tallyRuns then s
  else s.each ((List.range 16).filter (fun p => s.piActive p && s.piType p == 8 && s.rf (piReg p 0) 0 8 == l && s.rf (chvReg (0xA80 + 4 * p)) 0 3 == line))
    (fun s p => s.each (s.linesOf p) (fun s n =>
      s.setTline n { s.tline n with meas := some ⟨m, ts, false, true⟩, coast := false, edgeTs := ts }))

/-- R285, R311: a PHASE message for this package, arrived at rx. -/
def State.phaseMsg (s : State) (l : Nat) (m : Msg) (rx : Nat) : State :=
  let w (i : Nat) : Word := nth 0 m.words i
  let tx := time64 (w 3) (w 4)
  let echo := time64 (w 5) (w 6)
  let hold := (w 7).toNat
  let k := s.clink l
  let good := w 7 != 0xFFFFFFFF#32 && k.sentTx.contains echo
  let rtts := if good then (k.rtts ++ [((rx : Int) - (echo : Int) - (hold : Int)).toNat]).drop (k.rtts.length + 1 - 16) else k.rtts
  let k1 := { k with echo := some (tx, rx), rtts := rtts }
  let full := decide (rtts.length = 16)
  let s1 := s.setClink l k1
  let dly := k1.delayPs
  let s2 := if good then s1.rput (chvReg (0xA00 + 4 * l)) (putB 31 full + put 0 (dly.toNat % 2 ^ 24)) else s1
  if bit m.h1 28 && s.rb (chvReg (0xA00 + 4 * l)) 31 then
    let asym : Int := (BitVec.ofNat 16 (s2.rf (chvReg (0x980 + 4 * l)) 0 16)).toInt
    let din := roundOpen ((k1.rtts.foldl (· + ·) 0 : Nat) * 625 + 16 * asym) 20000
    s2.phaseMeasure l (fld m.h1 29 3) (((w 0).toNat * 65536 + fld (w 1) 16 16 : Nat) * 65536) ((rx : Int) - din)
  else s2

/-- R286, R426: a part of a packet: parts come in order, full but the last, and make up PLEN; else the packet is discarded. -/
def State.mgmtMsg (s : State) (m : Msg) : State :=
  let r := s.reasm m.spkg
  let plen := fld m.h1 16 16
  let frag := fld m.h1 8 8
  let last := bit m.h1 7
  let r0 : Reasm := if frag = 0 then { plen := plen } else r
  let part := m.words.flatMap (fun w => leBytes 4 w.toNat)
  let need := plen - r0.bytes.length
  let inOrder := decide (frag = r0.next) && decide (plen = r0.plen)
  if !inOrder then s.setReasm m.spkg {}
  else if last then
    (if need ≤ part.length && decide (part.length < need + 4) then
      { s.setReasm m.spkg {} with mgmtIn := s.mgmtIn ++ [(m.spkg, r0.bytes ++ part.take need)] }
    else s.setReasm m.spkg {})
  else if part.length = 44 then s.setReasm m.spkg { plen := plen, next := frag + 1, bytes := r0.bytes ++ part }
  else s.setReasm m.spkg {}

/-- R299, R304: a message for this package is delivered by its type. -/
def State.deliverMsg (s : State) (l cls : Nat) (m : Msg) (rx : Nat) : State :=
  match m.typ with
  | 1 => (s.launch (m.flight cls l)).popMsg l cls none
  | 2 => (s.launch (m.flight cls l)).popMsg l cls none
  | 3 => (s.takeReply m .read).popMsg l cls none
  | 4 => (s.takeReply m .write).popMsg l cls none
  | 5 => s.streamMsg l cls m
  | 6 => (s.phaseMsg l m rx).popMsg l cls none
  | 7 => (s.mgmtMsg m).popMsg l cls none
  | _ => s.popMsg l cls none

/-- R298 to R304: the forwarding stage takes the front message of a class: an isolated link's is discarded; one for this package is
delivered; a STREAM or PHASE for another is discarded and counted; any other is sent on. -/
def State.forwardFront (s : State) (l cls : Nat) : State :=
  match s.front l cls with
  | none => s
  | some (m, rx) =>
    if (s.clink l).isolated then s.popMsg l cls none
    else if m.dpkg = s.ownPkg then s.deliverMsg l cls m rx
    else if m.typ = 5 ∨ m.typ = 6 then (s.dropMsg).popMsg l cls none
    else (s.forward (some l) cls m).popMsg l cls none

/-- The front message of a class, if it is for this package and of this type, delivered. -/
def State.deliverFront (s : State) (l cls typ : Nat) : State :=
  match s.front l cls with
  | some (m, rx) => if m.typ = typ ∧ m.dpkg = s.ownPkg ∧ !(s.clink l).isolated then s.deliverMsg l cls m rx else s
  | none => s

/-- READ_MESSAGE (R283): performed at the target as an access of requester 16; ACCESS_REPLY sends its RDRSP. -/
def execReadMessage (l : Fin 32) (cls : Fin 4) (s : State) : Out := ok (s.deliverFront l.val cls.val 1)

/-- WRITE_MESSAGE (R283): as READ_MESSAGE; ACCESS_COMPLETION_REPORT sends its WRDONE. -/
def execWriteMessage (l : Fin 32) (cls : Fin 4) (s : State) : Out := ok (s.deliverFront l.val cls.val 2)

/-- RDRSP (R283, R305). -/
def execRdrsp (l : Fin 32) (cls : Fin 4) (s : State) : Out := ok (s.deliverFront l.val cls.val 3)

/-- WRDONE (R283, R305). -/
def execWrdone (l : Fin 32) (cls : Fin 4) (s : State) : Out := ok (s.deliverFront l.val cls.val 4)

/-- STREAM_MESSAGE (R284). -/
def execStreamMessage (l : Fin 32) (cls : Fin 4) (s : State) : Out := ok (s.deliverFront l.val cls.val 5)

/-- PHASE_MESSAGE (R285, R311). -/
def execPhaseMessage (l : Fin 32) (s : State) : Out := ok (s.deliverFront l.val 0 6)

/-- MGMT_REASSEMBLY_TIMEOUT (R426): a packet not complete within 10 ms is discarded. -/
def execMgmtReassemblyTimeout (pkg : Fin 4096) (s : State) : Out := ok (s.setReasm pkg.val {})

/-- REMOTE_TIMEOUT (R305): no reply within REMTMO: the request is answered UNREACHABLE. -/
def execRemoteTimeout (id : Nat) (s : State) : Out :=
  match s.flight id with
  | some f =>
    if f.sent.isSome && f.ans.isNone then
      ok (((s.sticky sysStat 29).count sysErr 16 8 1).giveUp f)
    else ok s
  | none => ok s

/-- R297: a write to CHV_SYSID is accepted only while every link is in DOWN. -/
def State.sysidSet (s : State) (v : Word) : State :=
  if (List.range 32).all (fun l => s.lstate l == 0) then s.writePlain (chvReg 0x900) (v.setWidth 64) else s.viol .chv 0

/-- SYSID_WRITE (R297). -/
def execSysidWrite (iss : Issuer) (v : Word) (s : State) : Out := ok (s.guarded iss .chv 0 (fun s => s.sysidSet v))

/-- R310: the message of line n; the link fills in the times and the phase as it assembles the frame (R285). -/
def State.phaseOut (s : State) (l n : Nat) (valid : Bool) : State :=
  let t := s.tline n
  let k := s.clink l
  let jumped := decide (Store.get 0 k.jumps n ≠ t.jumps)
  let h : Word := BitVec.ofNat 32 (n * 2 ^ 29 + b2n (valid && t.valid) * 2 ^ 28 + b2n t.locked * 2 ^ 27 + b2n jumped * 2 ^ 26)
  (s.setClink l { k with jumps := Store.put 0 k.jumps n t.jumps }).queueMsg l 0
    (.of 6 (s.rf (chl l 8) 20 12) s.ownPkg h (List.replicate 8 0))

/-- PHASE_SEND (R310): a PHASE message for each line of CHV_PTXl.LINES, or a PL0 message with VALID = 0 when LINES = 0 and ECHO = 1. -/
def execPhaseSend (l : Fin 32) (s : State) : Out :=
  let l := l.val
  let c := s.rget (chvReg (0x980 + 4 * l))
  if s.lstate l ≠ 5 ∨ (s.clink l).isolated then ok s
  else if fld c 24 8 = 0 then (if bit c 23 then ok (s.phaseOut l 0 false) else ok s)
  else ok (s.each ((List.range 8).filter (fun n => bit c (24 + n))) (fun s n => s.phaseOut l n true))

/-- A line that follows a TYPE 8 port. -/
def State.systemLine (s : State) (n : Nat) : Bool :=
  s.tallyRuns && (s.tline n).run && s.piType (fld (s.tline n).ctl 24 4) == 8

/-- PHASE_COAST (R312): no measurement for 16 × PPER, or the port's link is not ACTIVE: the line runs on prediction. -/
def execPhaseCoast (n : Fin 8) (s : State) : Out :=
  if s.systemLine n.val then ok (s.setTline n.val { s.tline n.val with coast := true }) else ok s

/-- HOLDOVER_EXPIRY (R312): measurements are still absent: the line unlocks. -/
def execHoldoverExpiry (n : Fin 8) (s : State) : Out :=
  if s.systemLine n.val && (s.tline n.val).coast then ok (s.unlock n.val) else ok s

end Sys2Proof.Machine
end

