-- ==== Sys2Proof/Machine/Links.lean ====
section
/-! DEFINITION. One Choval link (R267 to R295): frames, acknowledgement and retry, credits and scheduling, the states of R287, training, and what a link that goes down hands back (R306). -/

namespace Sys2Proof.Machine

/-- A link's power domain, and the registers of its STAT and LANE. -/
def linkDom (l : Nat) : Nat := 696 + l
def State.linkLit (s : State) (l : Nat) : Bool := decide (s.dom (linkDom l) = 0)

/-- R338: the Assayer marked link l FAILED; it stays DOWN. -/
def State.linkBad (s : State) (l : Nat) : Bool := s.rb ⟨.asy, 0, 0x190⟩ l

/-- CHV_STAT.STATE set; VER is 0 but in ACTIVE. -/
def State.setLstate (s : State) (l st : Nat) : State :=
  let s1 := s.rsetf (chl l 4) 0 3 st
  if st = 5 then s1 else s1.rsetf (chl l 4) 16 4 0

/-- R271: the bytes of a frame's first n words. -/
def frameBytes (ws : List Word) (n : Nat) : List Byte := (List.range n).flatMap (fun i => leBytes 4 (nth 0 ws i).toNat)

/-- R271: word 15 is the CRC-32 of bytes 0..59. -/
def frameCrc (ws : List Word) : Word := crc32 (frameBytes ws 15)
def crcOk (ws : List Word) : Bool := decide (frameCrc ws = nth 0 ws 15)

/-- Fifteen words and their CRC. -/
def withCrc (ws : List Word) : List Word := let w := (ws ++ List.replicate (15 - ws.length) 0).take 15; w ++ [frameCrc w]

/-- R273: sequence numbers are modulo 4,096; `a` is at or after `b` within half of them. -/
def seqAfter (a b : Nat) : Bool := decide ((a + 4096 - b % 4096) % 4096 < 2048)

/-- The lanes of physical numbers 0 and 1 this side can use: permitted and not retired (R288). -/
def State.usable (s : State) (l : Nat) : BitVec 2 :=
  BitVec.ofNat 2 (s.rf (chl l 0) 24 2) &&& ~~~(BitVec.ofNat 2 (s.rf (chl l 4) 6 2))

/-- The lanes that hold block lock. -/
def State.locked (s : State) (l : Nat) : BitVec 2 :=
  BitVec.ofNat 2 (b2n (s.rb (chl l 0x18) 15) + 2 * b2n (s.rb (chl l 0x18) 31))

/-- R277: the buffers of each class, as a credit word. -/
def allCredits : Word := 0x08303010#32

/-- R277, R289: the buffers of this side that hold no frame, as a credit word. -/
def CLink.unspent (k : CLink) : Word :=
  BitVec.ofNat 32 ((List.range 4).foldl (fun a c =>
    a + ((fld allCredits (24 - 8 * c) 8 - (k.rx.filter (fun f => f.cls == c)).length) % 256) * 2 ^ (24 - 8 * c)) 0)

/-! What a link that goes down hands back. -/

/-- R303, R306: a message not yet placed in a frame is routed again, but not onto the link it arrived on; an access of this package is then recorded on its new link. -/
def State.reroute (s : State) (l cls : Nat) (m : Msg) : State :=
  let s1 := s.forward m.inl cls m
  if m.isRequest && m.spkg == s.ownPkg then
    match s.lookup m.dpkg with
    | .via l2 => { s1 with flights := s1.flights.map (fun f =>
        if f.ans.isNone && f.kind == m.akind && f.lp == portWordLp m.h1 && f.sent == some (l, fld m.h1 12 8)
        then { f with sent := some (l2, fld m.h1 12 8) } else f) }
    | _ => s1
  else s1

/-- R306: link l, now in DOWN or FAILED or starting afresh (R290), hands back what it held and keeps nothing: messages not yet placed are
routed again, records of this package whose request left on it are answered UNREACHABLE, requests of others in the retry buffer too, the
rest is discarded; the locks whose holder's accesses arrive on it break (R308). -/
def State.handBack (s : State) (l : Nat) : State :=
  let k := s.clink l
  let s1 := (s.setClink l { isolated := k.isolated, jumps := k.jumps }).rput (chl l 0x10) 0
  let s2 := s1.each k.txq (fun s e => s.reroute l e.1 e.2)
  let mine := s2.flights.filter (fun f => f.ans.isNone && (f.sent.map (·.1)) == some l && !k.txq.any (fun e =>
    e.2.isRequest && e.2.spkg == s.ownPkg && portWordLp e.2.h1 == f.lp && e.2.akind == f.kind && some (l, fld e.2.h1 12 8) == f.sent))
  let s3 := s2.each mine State.giveUp
  let s4 := s3.each k.retry (fun s f => s.each (parseMsgs f.cls 13 f.words) (fun s e =>
    if e.1.isRequest && e.1.spkg == s.ownPkg then s else s.notSent f.cls e.1))
  let s5 := s4.each (List.range 128) (fun s b => if (s.bank b).lockIn = some l then s.breakLock b else s)
  s5.rsetb (chvReg (0xA00 + 4 * l)) 31 false

/-- R287, R294, R306: link l enters DOWN (0) or FAILED (7). -/
def State.linkStop (s : State) (l st : Nat) : State :=
  let was := s.lstate l
  let s1 := (s.setLstate l st).rsetf (chl l 4) 8 2 0
  let s2 := if was = 5 ∨ was = 6 then s1.sticky (chl l 4) 26 else s1
  let s3 := (s2.rsetb (chl l 0x18) 15 false).rsetb (chl l 0x18) 31 false
  s3.handBack l

/-- R287: link l enters DETECT; a training from DOWN takes retired lanes back (R288). -/
def State.toDetect (s : State) (l : Nat) : State :=
  let s0 := if s.lstate l = 0 then s.rsetf (chl l 4) 6 2 0 else s
  let s1 := ((s0.setLstate l 1).rsetb (chl l 0x18) 15 false).rsetb (chl l 0x18) 31 false
  s1.setClink l { s1.clink l with signal := 0, train := [], same := 0, isolated := false }

/-- R287: a link in DOWN leaves it when EN = 1 and its domain is Lit. -/
def State.linkStart (s : State) (l : Nat) : State :=
  if s.lstate l = 0 && s.rb (chl l 0) 31 && s.linkLit l && !s.linkBad l then s.toDetect l else s

/-- R276, R288, R295: link l enters RETRAIN, or starts it again from LOCK. -/
def State.toRetrain (s : State) (l : Nat) : State :=
  let s1 := (s.setLstate l 6).count (chl l 0x14) 24 8 1
  s1.setClink l { s1.clink l with rephase := 2, passed := 0, resume := true, train := [], same := 0, replay := none }

/-- R276: a lasting frame fault. -/
def State.lastingFrame (s : State) (l : Nat) : State :=
  ((s.sticky (chl l 4) 30).count (chl l 0x14) 16 8 1).toRetrain l

/-! Frames received. -/

/-- R275: an acknowledgement drops the retry buffer's frames up to and including ACK. -/
def CLink.acked (k : CLink) (a : Nat) : CLink :=
  if k.retry.any (fun f => f.seq == a) then
    let r := (k.retry.dropWhile (fun f => f.seq != a)).drop 1
    let rp := match k.replay, r with
      | some (n, st), f :: _ => if r.any (fun g => g.seq == n) then some (n, st) else some (f.seq, st)
      | _, _ => none
    { k with retry := r, replay := rp }
  else k

/-- R275: a replay from the oldest unacknowledged frame. -/
def CLink.startReplay (k : CLink) : CLink :=
  match k.retry with
  | f :: _ => { k with replay := some (f.seq, f.seq) }
  | [] => k

/-- R275: NAK = 1: a replay from ACK + 1, unless one in progress began at or before it. -/
def CLink.naked (k : CLink) (a : Nat) : CLink :=
  match k.replay with
  | some (_, st) => if seqAfter ((a + 1) % 4096) st then k else k.startReplay
  | none => k.startReplay

/-- R278: the credits the peer's running counts return. -/
def State.takeCredits (s : State) (l : Nat) (w : Word) : State :=
  let old := (s.clink l).peerFreed
  let s1 := s.each (List.range 4) (fun s c =>
    let lo := 24 - 8 * c
    s.rsetf (chl l 0x10) lo 8 (s.rf (chl l 0x10) lo 8 + (fld w lo 8 + 256 - fld old lo 8) % 256))
  s1.setClink l { s1.clink l with peerFreed := w }

/-- R274: a NAK is owed, unless one was sent since the last accepted frame. -/
def CLink.oweNak (k : CLink) : CLink := { k with nak := if k.nak = 2 then 2 else 1 }

/-- R274, R276: a damaged frame: a NAK is owed; where it is the first replay of a frame that has failed already, the fault is lasting. -/
def State.badFrame (s : State) (l : Nat) (again : Bool) : State :=
  let s1 := s.sticky (chl l 4) 31
  let k := s1.clink l
  if again && decide (1 ≤ k.fails) then (s1.setClink l { k.oweNak with fails := 0 }).lastingFrame l
  else s1.setClink l { k.oweNak with fails := 1 }

/-- R268: the invalid sync headers of a frame's blocks, counted for each lane. -/
def State.badHeaders (s : State) (l bad0 bad1 : Nat) : State := (s.count (chl l 0x18) 0 8 bad0).count (chl l 0x18) 16 8 bad1

/-- R274, R277, R280, R281: a MSG frame accepted: its messages wait in a buffer of its class; one that is not in order sets PROT.
One that failed and comes as its first replay was a transient error (R276). A NAK that is owed still stands. -/
def State.acceptFrame (s : State) (l : Nat) (ws : List Word) (again : Bool) (ts : Nat) : State :=
  let cls := fld (nth 0 ws 0) 0 2
  let ms := parseMsgs cls 13 ((ws.drop 2).take 13)
  let good := (ms.filter (·.2)).map (·.1)
  let k := s.clink l
  let k1 := { k with rxSeq := (k.rxSeq + 1) % 4096, nak := if k.nak = 1 then 1 else 0, fails := 0,
                     rx := if good.isEmpty then k.rx else k.rx ++ [⟨cls, good, ts⟩],
                     freed := if good.isEmpty then freeOne k.freed cls else k.freed }
  let s1 := s.setClink l k1
  let s2 := if again && k.fails == 1 then s1.count (chl l 0x14) 0 16 1 else s1
  if ms.all (·.2) then s2 else s2.sticky (chl l 4) 27

/-- R271 to R278: a frame received in ACTIVE; a Banked link's lanes are stopped (R294). TRAIN frames are TRAIN_FRAME_RECEIVED's. -/
def State.frameIn (s : State) (l : Nat) (ws : List Word) (hdrBad again : Bool) (ts : Nat) : State :=
  let w0 := nth 0 ws 0
  let ft := fld w0 28 4
  if s.lstate l ≠ 5 ∨ !s.linkLit l then s
  else if hdrBad || !crcOk ws then s.badFrame l again
  else if ft = 15 then s
  else
    let a := fld w0 4 12
    let k := (s.clink l).acked a
    let k1 := if bit w0 3 then k.naked a else k
    let s1 := (s.setClink l k1).takeCredits l (nth 0 ws 1)
    if ft = 0 then s1
    else if ft = 1 then
      let seq := fld w0 16 12
      if seq = k1.rxSeq then s1.acceptFrame l ws again ts
      else if seqAfter seq k1.rxSeq then s1.setClink l (s1.clink l).oweNak
      else s1
    else s1.sticky (chl l 4) 27

/-- FRAME_RECEIVE (R268, R274, R276): a whole frame of 16 words, its invalid sync headers as `hdrBad` says, arrived at Tally time ts. -/
def execFrameReceive (l : Fin 32) (ws : List Word) (hdrBad : FrameHeads) (ts : Nat) (s : State) : Out :=
  let l := l.val
  if s.lstate l = 5 ∧ s.linkLit l then
    ok ((s.badHeaders l hdrBad.bad0.val hdrBad.bad1.val).frameIn l ws (decide (hdrBad.bad0.val + hdrBad.bad1.val ≠ 0)) hdrBad.again ts)
  else ok s

/-- REPLAY_TIMEOUT (R275, R276): the oldest unacknowledged frame has waited RTMO: it is replayed; if it was replayed already, the fault is
lasting. -/
def execReplayTimeout (l : Fin 32) (s : State) : Out :=
  let l := l.val
  let k := s.clink l
  if (s.lstate l ≠ 5 ∧ s.lstate l ≠ 6) ∨ !s.linkLit l then ok s
  else match k.retry with
    | [] => ok s
    | f :: _ =>
      if f.again then ok (s.lastingFrame l)
      else if s.lstate l = 5 && k.replay.isNone then ok (s.setClink l k.startReplay)
      else ok s

/-! Frames sent. -/

/-- R284, R298: up to 10 tokens of the up-ferry a stream channel maps to, as a STREAM message, when no message of the channel waits. -/
def State.pullStream (s : State) (l c : Nat) : State :=
  let w := s.streamMap l c 0
  let n := mapFerry w
  let f := s.upf n
  let cls := s.rf (chl l 0x1C) (2 * c) 2
  let busy := (s.clink l).txq.any (fun e => e.2.typ == 5 && fld e.2.h1 28 4 == c)
  if !bit w 31 || f.q.isEmpty || busy || (s.clink l).isolated || kindOf (s.rget (upReg n 0)) true == .off then s
  else
    let ts := f.q.take 10
    let sb := (ts.zip (List.range 10)).foldl (fun a e => a + (b2n e.1.p + 2 * b2n e.1.f) * 4 ^ e.2) 0
    (s.setUpf n { f with q := f.q.drop 10 }).queueMsg l cls
      (.of 5 (s.rf (chl l 8) 20 12) s.ownPkg (BitVec.ofNat 32 (c * 2 ^ 28 + sb)) (ts.map (·.d)))

/-- R310: the estimate of line n at Tally time ts, before OFFS, in whole pu modulo 2^48. -/
def State.phaseAt (s : State) (n ts : Nat) : Nat :=
  let t := s.tline n
  let d : Int := (ts : Int) - (s.time : Int)
  ((roundOpen (t.theta53 + t.omega * d * 8 + t.alpha * d * d) (2 ^ 53)) % (2 ^ 48)).toNat

/-- R285: a PHASE message as the frame carries it, the frame's first block leaving at Tally time ts. -/
def State.fillPhase (s : State) (l ts : Nat) (m : Msg) : Msg :=
  if m.typ = 6 then
    let n := fld m.h1 29 3
    let x := s.phaseAt n ts
    let (e, h) := match (s.clink l).echo with
      | some (t, a) => (t, BitVec.ofNat 32 (ts - a))
      | none => (0, 0xFFFFFFFF#32)
    let w (v : Nat) : Word := BitVec.ofNat 32 v
    { m with words := [w (x / 65536), w (x % 65536 * 65536), satS32 (roundDiv (s.tline n).omega (2 ^ 24)), w ts, w (ts / 2 ^ 32),
                       w e, w (e / 2 ^ 32), h] }
  else m

/-- R272, R281: the messages of a class that fit a frame, in order, and the messages left. -/
def packMsgs (cls : Nat) : Nat → List (Nat × Msg) → List Msg × List (Nat × Msg)
  | _, [] => ([], [])
  | room, (c, m) :: t =>
    if c ≠ cls then let (a, b) := packMsgs cls room t; (a, (c, m) :: b)
    else if 2 + m.words.length ≤ room then let (a, b) := packMsgs cls (room - (2 + m.words.length)) t; (m :: a, b)
    else ([], (c, m) :: t)

/-- R271, R274: words 0 and 1 of a frame: ACK of the last frame accepted, a NAK that is owed, the running counts. -/
def CLink.header (k : CLink) (ftype seq cls : Nat) : List Word :=
  [BitVec.ofNat 32 (ftype * 2 ^ 28 + seq % 4096 * 2 ^ 16 + ((k.rxSeq + 4095) % 4096) * 16 + b2n (decide (k.nak = 1)) * 8 + cls), k.freed]

/-- A frame leaves: a NAK it carried was sent. -/
def State.sendWords (s : State) (l ftype seq cls : Nat) (body : List Word) : State :=
  let k := s.clink l
  s.setClink l { k with tx := withCrc (k.header ftype seq cls ++ body), nak := if k.nak = 1 then 2 else k.nak }

/-- R279: class c has a message and a credit, and the retry buffer has room (R273). -/
def State.classReady (s : State) (l c : Nat) : Bool :=
  (s.clink l).txq.any (fun e => e.1 == c) && decide (0 < s.rf (chl l 0x10) (24 - 8 * c) 8) && decide ((s.clink l).retry.length < 128)

/-- R279: frames per turn of class c, from CHV_WGT. -/
def State.weight (s : State) (l c : Nat) : Nat := atLeast1 (s.rf (chl l 0xC) (24 - 8 * c) 8)

/-- R279: the class of the next new frame, with the class in turn and its frames after it. -/
def State.nextClass (s : State) (l : Nat) : Option (Nat × Fin 3 × Nat) :=
  let k := s.clink l
  let c := k.turn.val + 1
  if s.classReady l 0 then some (0, k.turn, k.turnUsed)
  else if k.turnUsed < s.weight l c && s.classReady l c then some (c, k.turn, k.turnUsed + 1)
  else match [k.turn + 1, k.turn + 2, k.turn].find? (fun j => s.classReady l (j.val + 1)) with
    | some j => some (j.val + 1, j, 1)
    | none => none

/-- R272, R273, R277: a new MSG frame of class c. -/
def State.sendNew (s : State) (l c ts : Nat) : State :=
  let k := s.clink l
  let (ms, rest) := packMsgs c 13 k.txq
  let ms1 := ms.map (s.fillPhase l ts)
  let body := let b := ms1.flatMap Msg.encode; b ++ List.replicate (13 - b.length) 0
  let sent := if ms1.any (fun m => m.typ == 6) then (k.sentTx ++ [ts]).drop (k.sentTx.length + 1 - 16) else k.sentTx
  let s1 := s.setClink l { k with txq := rest, retry := k.retry ++ [⟨k.nextSeq, c, body, false⟩], nextSeq := (k.nextSeq + 1) % 4096,
                                  sentTx := sent }
  let s2 := s1.rsetf (chl l 0x10) (24 - 8 * c) 8 (s1.rf (chl l 0x10) (24 - 8 * c) 8 - 1)
  s2.sendWords l 1 k.nextSeq c body

/-- R275: the next frame of a replay. -/
def State.sendReplay (s : State) (l n st : Nat) : State :=
  let k := s.clink l
  match k.retry.find? (fun f => f.seq == n) with
  | none => s.setClink l { k with replay := none }
  | some f =>
    let n1 := (n + 1) % 4096
    let s1 := s.setClink l { k with retry := k.retry.map (fun g => if g.seq == n then { g with again := true } else g),
                                    replay := if n1 = k.nextSeq then none else some (n1, st) }
    s1.sendWords l 1 n f.cls f.words

/-- R289: the TRAIN frame a link sends on lane `lane`, which it names in ALIGN. -/
def State.trainFrame (s : State) (l lane : Nat) : List Word :=
  let k := s.clink l
  let st := s.lstate l
  let base := if st = 6 then k.rephase else st
  let ready := decide (base = 4) && !k.train.isEmpty
  let vmax := s.rf (chvReg 0) 8 8
  let vmin := s.rf (chvReg 0) 0 8
  let vsel := if k.train.isEmpty then 0 else min vmax (fld (nth 0 k.train 1) 24 8)
  let w (x : Nat) : Word := BitVec.ofNat 32 x
  withCrc [w (15 * 2 ^ 28 + (if ready then 5 else base) * 2 ^ 24 + min k.same 255 * 2 ^ 16 + b2n (k.resume && st == 6) * 2 ^ 15),
    w (vmax * 2 ^ 24 + vmin * 2 ^ 16 + vsel * 2 ^ 8),
    w (s.ownPkg * 2 ^ 20 + l * 2 ^ 15 + (s.usable l).toNat * 2 ^ 13 + (if base = 3 then lane * 2 ^ 12 else 0)),
    if st = 6 ∧ k.resume then k.unspent else allCredits,
    w (k.rxSeq * 2 ^ 20)]

/-- A Lit link in ALIGN or NEGOTIATE, or in that phase of a retrain (R287, R294). -/
def State.inPhase (s : State) (l ph : Nat) : Bool :=
  s.linkLit l && (s.lstate l == ph || (s.lstate l == 6 && (s.clink l).rephase == ph))

/-- FRAME_BOUNDARY (R279, R272, R287): the next frame, whose first block leaves at Tally time ts: in ACTIVE a replay, a Vermilion frame, the
class in turn, or IDLE; in training a TRAIN frame, in ALIGN one for each lane. -/
def execFrameBoundary (l : Fin 32) (ts : Nat) (s : State) : Out :=
  let l := l.val
  let st := s.lstate l
  if !s.linkLit l || st == 0 || st == 7 then ok s
  else if st ≠ 5 then ok (s.setClink l { s.clink l with tx := s.trainFrame l 0, tx1 := if s.inPhase l 3 then s.trainFrame l 1 else [] })
  else
    let s1 := (s.setClink l { s.clink l with tx1 := [] }).each (List.range 16) (fun s c => s.pullStream l c)
    match (s1.clink l).replay with
    | some (n, st) => ok (s1.sendReplay l n st)
    | none => match s1.nextClass l with
      | some (c, turn, used) => ok ((s1.setClink l { s1.clink l with turn := turn, turnUsed := used }).sendNew l c ts)
      | none => ok (s1.sendWords l 0 0 0 [])

/-! Lanes and training. -/

/-- R287: in LOCK, with every lane that shows signal locked, the link goes to ALIGN. -/
def State.lockDone (s : State) (l : Nat) : State :=
  let sig := (s.clink l).signal
  if s.lstate l = 2 ∧ sig ≠ 0 ∧ sig &&& s.locked l = sig then s.setLstate l 3 else s

/-- BLOCK_LOCK (R268, R287): a lane gains block lock. -/
def execBlockLock (l : Fin 32) (k : Fin 2) (s : State) : Out :=
  let l := l.val
  let st := s.lstate l
  if st = 0 ∨ st = 7 ∨ !s.linkLit l then ok s
  else ok ((s.rsetb (chl l 0x18) (15 + 16 * k.val) true).lockDone l)

/-- BLOCK_LOCK_LOSS (R268, R287): of the last 64 headers of a lane some were invalid; those in no frame received count now (a frame counts its own), and
with 16 the lane loses block lock, and a lane in use takes the link from ACTIVE to RETRAIN. -/
def execBlockLockLoss (l : Fin 32) (k : Fin 2) (bad : LostHeaders) (s : State) : Out :=
  let l := l.val
  let st := s.lstate l
  if st = 0 ∨ st = 7 ∨ !s.linkLit l then ok s
  else
    let s1 := s.count (chl l 0x18) (16 * k.val) 8 bad.fresh.val
    if bad.bad.val < 16 then ok s1
    else
      let s2 := s1.rsetb (chl l 0x18) (15 + 16 * k.val) false
      if st = 5 && s2.rb (chl l 4) (8 + k.val) then ok (s2.toRetrain l) else ok s2

/-- SIGNAL_DETECT (R287): the lanes that show signal: with a permitted one DETECT goes to LOCK, which waits for each that shows it. -/
def execSignalDetect (l : Fin 32) (lanes : BitVec 2) (s : State) : Out :=
  let l := l.val
  let sig := lanes &&& s.usable l
  if !s.linkLit l then ok s
  else if s.lstate l = 1 ∧ sig ≠ 0 then
    let s1 := s.setLstate l 2
    ok ((s1.setClink l { s1.clink l with signal := sig }).lockDone l)
  else if s.lstate l = 2 then ok ((s.setClink l { s.clink l with signal := sig }).lockDone l)
  else ok s

/-- LOCK_TIMEOUT (R287): 1 ms in LOCK: on to ALIGN with the lanes that locked, else back to DETECT. -/
def execLockTimeout (l : Fin 32) (s : State) : Out :=
  let l := l.val
  if s.lstate l = 2 ∧ s.linkLit l then ok (if s.locked l &&& (s.clink l).signal = 0 then s.toDetect l else s.setLstate l 3)
  else ok s

/-- ALIGN_COMPLETE (R270, R287): lane identity, polarity and skew found. -/
def execAlignComplete (l : Fin 32) (pol : BitVec 2) (swap : Bool) (s : State) : Out :=
  let l := l.val
  if s.inPhase l 3 then
    let g := chl l 0x18
    let s1 := (((s.rsetb g 14 (bit pol 0)).rsetb g 30 (bit pol 1)).rsetb g 13 swap).rsetb g 29 swap
    let s2 := if s1.lstate l = 6 then s1 else s1.setLstate l 4
    ok (s2.setClink l { s2.clink l with rephase := if s1.lstate l = 6 then 4 else 0, train := [], same := 0 })
  else ok s

/-- R287: a training that does not complete falls back to DETECT; a retrain to its lane test, until DOWNTMO. -/
def State.fallBack (s : State) (l : Nat) : State :=
  if s.lstate l = 6 then s.setClink l { s.clink l with rephase := 2, passed := 0, train := [], same := 0 } else s.toDetect l

/-- ALIGN_LIMIT (R287): 100 µs in ALIGN. -/
def execAlignLimit (l : Fin 32) (s : State) : Out := if s.inPhase l.val 3 then ok (s.fallBack l.val) else ok s

/-- NEGOTIATE_TIMEOUT (R287): 100 µs in NEGOTIATE. -/
def execNegotiateTimeout (l : Fin 32) (s : State) : Out := if s.inPhase l.val 4 then ok (s.fallBack l.val) else ok s

/-- R290: the peer's NEXTSEQ lies in this side's retry window. -/
def CLink.windowHolds (k : CLink) (n : Nat) : Bool :=
  let o := match k.retry with | f :: _ => f.seq | [] => k.nextSeq
  decide ((n + 4096 - o) % 4096 ≤ (k.nextSeq + 4096 - o) % 4096)

/-- R298: the peer reports this package's own ID: the link is isolated, DUPID set, the locks of holders on it break (R308),
and the messages that wait for it are routed as without it. -/
def State.dupCheck (s : State) (l pkg : Nat) : State :=
  let dup := decide (pkg = s.ownPkg)
  let s1 := s.setClink l { s.clink l with isolated := dup }
  if dup then
    let s2 := ((s1.sticky sysStat 31).rsetf sysStat 24 5 l).each (List.range 128)
      (fun s b => if (s.bank b).lockIn = some l then s.breakLock b else s)
    let q := (s2.clink l).txq
    (s2.setClink l { s2.clink l with txq := [] }).each q (fun s e => s.reroute l e.1 e.2)
  else s1

/-- R287 to R290: link l enters ACTIVE with the peer's frame `t`: resumed from the peer's NEXTSEQ, or afresh, handing back what it held. -/
def State.toActive (s : State) (l : Nat) (t : List Word) : State :=
  let k := s.clink l
  let mine := s.lstate l == 6 && k.resume
  let theirs := bit (nth 0 t 0) 15
  let next := fld (nth 0 t 4) 20 12
  let pl := BitVec.ofNat 2 (fld (nth 0 t 2) 13 2)
  let pl1 := if s.rb (chl l 0x18) 13 then BitVec.ofNat 2 (b2n (bit pl 1) + 2 * b2n (bit pl 0)) else pl
  let lanes := s.usable l &&& pl1 &&& s.locked l
  let vsel := min (s.rf (chvReg 0) 8 8) (fld (nth 0 t 1) 24 8)
  if lanes = 0 then s.linkStop l 7
  else
    let s1 :=
      if mine && theirs then
        let r := k.retry.dropWhile (fun f => f.seq != next)
        let k1 := { k with retry := r, replay := none, nak := 0, fails := 0, freed := 0, peerFreed := 0, echo := none, sentTx := [],
                           rephase := 0, train := [], same := 0, turn := 0, turnUsed := 0 }
        let s1 := s.setClink l k1.startReplay
        let held (c : Nat) : Nat := (r.filter (fun f => f.cls == c)).length
        s1.rsetf (chl l 0x10) 0 32 ((List.range 4).foldl (fun a c =>
          a + ((fld (nth 0 t 3) (24 - 8 * c) 8 - held c) % 256) * 2 ^ (24 - 8 * c)) 0)
      else
        let s1 := if s.lstate l = 6 ∨ theirs then s.sticky (chl l 4) 26 else s
        (s1.handBack l).rsetf (chl l 0x10) 0 32 (nth 0 t 3).toNat
    ((s1.setLstate l 5).rsetf (chl l 4) 16 4 vsel).rsetf (chl l 4) 8 2 lanes.toNat

/-- R287, R289: a good TRAIN frame in ALIGN or NEGOTIATE: the peer's identity and version are taken; in NEGOTIATE identical frames are
counted, all but TCOUNT, and three with TSTATE = 5 and the same VSEL end training. -/
def State.trainIn (s : State) (l : Nat) (ws : List Word) : State :=
  let w (i : Nat) : Word := nth 0 ws i
  let pkg := fld (w 2) 20 12
  let vmax := s.rf (chvReg 0) 8 8
  let vmin := s.rf (chvReg 0) 0 8
  let vsel := min vmax (fld (w 1) 24 8)
  let s1 := (s.rput (chl l 8) (put 20 pkg + put 15 (fld (w 2) 15 5) + put 0 (fld (w 1) 24 8))).dupCheck l pkg
  if fld (w 0) 24 4 = 1 then s1.fallBack l
  else if !s1.inPhase l 4 then s1
  else if vsel < max vmin (fld (w 1) 16 8) then (s1.sticky (chl l 4) 28).linkStop l 7
  else
    let t := setFld (w 0) 16 8 0 :: (ws.drop 1).take 14
    let k := s1.clink l
    let same := if k.train = t then k.same + 1 else 1
    let keep := k.resume && k.windowHolds (fld (w 4) 20 12) && (bit (w 0) 15 || s1.lstate l != 6)
    let s2 := s1.setClink l { k with train := t, same := same, resume := keep }
    if 3 ≤ same ∧ fld (w 0) 24 4 = 5 ∧ fld (w 1) 8 8 = vsel then s2.toActive l t else s2

/-- TRAIN_FRAME_RECEIVED (R268, R274, R287 to R291, R298). -/
def execTrainFrameReceived (l : Fin 32) (ws : TrainIn) (s : State) : Out :=
  let l := l.val
  if !(s.inPhase l 3 || s.inPhase l 4) then ok s
  else
    let s1 := s.badHeaders l ws.bad0.val ws.bad1.val
    if ws.bad0.val + ws.bad1.val ≠ 0 ∨ !crcOk ws.ws then ok (s1.sticky (chl l 4) 31)
    else if fld (nth 0 ws.ws 0) 28 4 ≠ 15 then ok s1
    else ok (s1.trainIn l ws.ws)

/-- LANE_TEST_COMPLETE (R288): a lane's 4,096 blocks passed, or the lane is retired, and the Tinker told; with no lane left, FAILED. -/
def execLaneTestComplete (l : Fin 32) (k : Fin 2) (pass : Bool) (s : State) : Out :=
  let l := l.val
  if s.lstate l ≠ 6 ∨ (s.clink l).rephase ≠ 2 ∨ !bit (s.usable l) k.val ∨ !s.linkLit l then ok s
  else
    let s1 := if pass then s.setClink l { s.clink l with passed := setBit (s.clink l).passed k.val true }
      else ((s.rsetb (chl l 4) (6 + k.val) true).sticky (chl l 4) 29).sticky ⟨.tnkBase, 0, 0x84⟩ l
    let u := s1.usable l
    if u = 0 then ok (s1.linkStop l 7)
    else if u &&& (s1.clink l).passed = u then ok (s1.setClink l { s1.clink l with rephase := 3 })
    else ok s1

/-- DOWNTMO (R287): the retrain limit passes: FAILED. -/
def execDowntmo (l : Fin 32) (s : State) : Out := if s.lstate l.val = 6 ∧ s.linkLit l.val then ok (s.linkStop l.val 7) else ok s

/-- R287, R296: CHV_CTL.RETRAIN written: a retrain from ACTIVE, a training from FAILED; READMIT takes retired lanes back. -/
def State.retrainGo (s : State) (l : Nat) (readmit : Bool) : State :=
  let st := s.lstate l
  if st ≠ 5 ∧ st ≠ 7 then s
  else
    let s1 := if readmit then s.rsetf (chl l 4) 6 2 0 else s
    if st = 5 then s1.toRetrain l else if s1.linkLit l && !s1.linkBad l then s1.toDetect l else s1

/-- R287, R296: a write to CHV_CTL. -/
def State.linkCtl (s : State) (l : Nat) (v : Word) : State :=
  let s1 := s.writePlain (chl l 0) (v.setWidth 64)
  if !bit v 31 then (if s1.lstate l = 0 then s1 else s1.linkStop l 0)
  else if bit v 30 then (s1.linkStart l).retrainGo l (bit v 29)
  else s1.linkStart l

/-- CHV_CTL as a write that changes only EN would carry it. -/
def State.linkCtlNow (s : State) (l : Nat) (en : Bool) : Word := (setBit (s.rget (chl l 0)) 31 en).setWidth 32

/-- LINK_ENABLE (R287): CHV_CTL.EN written 1. -/
def execLinkEnable (iss : Issuer) (l : Fin 32) (s : State) : Out :=
  ok (s.guarded iss .chvL l.val (fun s => s.linkCtl l.val (s.linkCtlNow l.val true)))

/-- LINK_DISABLE (R287, R294): CHV_CTL.EN written 0: the link enters DOWN and keeps nothing. -/
def execLinkDisable (iss : Issuer) (l : Fin 32) (s : State) : Out :=
  ok (s.guarded iss .chvL l.val (fun s => s.linkCtl l.val (s.linkCtlNow l.val false)))

/-- RETRAIN (R287, R296): CHV_CTL written with RETRAIN = 1, its other fields unchanged. -/
def execRetrain (iss : Issuer) (l : Fin 32) (readmit : Bool) (s : State) : Out :=
  ok (s.guarded iss .chvL l.val (fun s => s.retrainGo l.val readmit))

end Sys2Proof.Machine
end

