-- ==== Sys2Proof/Machine/IoBank.lean ====
section
/-! DEFINITION. I/O banks and serial groups (R250 to R266). Groups are numbered bank * 2 + g. -/

namespace Sys2Proof.Machine

/-- SUPPLY (R251): a bank's rail leaves its band: drivers off until SUPPLY is cleared, and an alarm in each region with pins there. -/
def execSupply (b : Fin 24) (s : State) : Out :=
  if s.dom (672 + b.val) ≠ 0 then ok s
  else
    let s1 := (s.sticky (bankReg b.val 0x1C) 31).padsFollow ((List.range 32).map (32 * b.val + ·))
    ok (s1.each ((List.range 32).filter (fun r => decide (r * 24 < 32 * b.val + 32) && decide (32 * b.val < r * 24 + 24)))
      (fun s r => s.sticky tnkAlarm r))

/-- R262, R368: a group runs: enabled, its region released, its bank Lit; `tx` names the direction. -/
def State.groupRuns (s : State) (n : Nat) (tx : Bool) : Bool :=
  s.groupOn n && (s.serCfg n).testBit 14 == tx && (s.region (groupRegion n)).out && s.dom (672 + n / 2) == 0

/-- R258: ALIGN of a group. -/
def State.aligned (s : State) (n : Nat) : Bool := s.rb (bankReg (n / 2) 0x1C) (n % 2)

/-- SERIAL_FRAME_RECEIVED (R257 to R259): a frame: header [35:34], P, F, data. A word that finds two waiting is lost. -/
def execSerialFrameReceived (n : Fin 48) (f : BitVec 36) (s : State) : Out :=
  let n := n.val
  let g := s.group n
  let h := fld f 34 2
  if !s.groupRuns n false then ok s
  else if h = 0 ∨ h = 3 then ok (s.setGroup n { g with valid := 0, invalid := g.invalid + 1 })
  else
    let g1 : Group := { g with valid := g.valid + 1, invalid := 0 }
    if h = 1 || !s.aligned n then ok (s.setGroup n g1)
    else if 2 ≤ g.rx.length then
      ok (((s.setGroup n g1).sticky (bankReg (n / 2) 0x1C) (29 + n % 2)).count (bankReg (n / 2) 0x20) 0 8 1)
    else ok (s.setGroup n { g1 with rx := g.rx ++ [⟨f.setWidth 32, bit f 33, bit f 32⟩] })

/-- ALIGN (R258): 16 consecutive frames with a valid header. -/
def execAlign (n : Fin 48) (s : State) : Out :=
  let n := n.val
  if s.groupRuns n false && decide (16 ≤ (s.group n).valid) then ok (s.rsetb (bankReg (n / 2) 0x1C) (n % 2) true) else ok s

/-- SYNCERR (R258): four consecutive invalid headers end alignment. -/
def execSyncerr (n : Fin 48) (s : State) : Out :=
  let n := n.val
  if s.groupRuns n false && s.aligned n && decide (4 ≤ (s.group n).invalid) then
    let g := bankReg (n / 2) 0x1C
    ok (((s.rsetb g (n % 2) false).sticky g (27 + n % 2)).count (bankReg (n / 2) 0x20) 8 8 1)
  else ok s

/-- R356: the endpoint word of a group. -/
def epGroup (n : Nat) : Word := epSer (groupRegion n) (n / 2) (n % 2)

/-- R251, R255: the group's pads carry the frame it sends; else the frame reaches no pad (log entry 166). -/
def State.sends (s : State) (n : Nat) (f : BitVec 36) : State :=
  let p := groupPin n + 2
  s.setGroup n { s.group n with sent := if s.driversOn p && !s.lowPair p then some f else none }

/-- SERIAL_WORD_TRANSMIT (R257, R262): a transmitting group sends a word for the token at the end of its channel, or an idle frame, whose other
bits the manual leaves open; a group stopped by quarantine or Ash sends idle frames. -/
def execSerialWordTransmit (n : Coded (Fin 48)) (s : State) : Out :=
  let bad := n.bad
  let n := n.val.val
  if !s.groupOn n || !(s.serCfg n).testBit 14 || s.dom (672 + n / 2) != 0 then ok s
  else
    let idle : State := (s.sends n ((1#2 ++ (s.freeNow.setWidth 34)).setWidth 36)).bumpFree
    if !s.groupRuns n true then ok idle
    else match s.chanInto (epGroup n) with
    | none => ok idle
    | some ch => match (s.chan ch).last with
      | none => ok idle
      | some t0 =>
        let t := garble bad s.freeNow t0
        ok (((s.setChan ch (s.chan ch).pop).sends n ((2#2 ++ (BitVec.ofBool t.p ++ (BitVec.ofBool t.f ++ t.d))).setWidth 36)).codeReport
          bad (placeKey 6 n) (groupRegion n) none none)

/-- PAD_SWITCH_COMPLETE (R264): 16 ns after the change began, the new owner takes the pad, which stood at the level its keeper held. -/
def execPadSwitchComplete (p : Fin 768) (s : State) : Out :=
  let d := s.padOf p.val
  match d.coming with
  | some o => ok (((s.setPin p.val { s.pin p.val with pad := d.kept }).setPad p.val { d with owner := o, coming := none }).padFollow p.val)
  | none => ok s

end Sys2Proof.Machine
end

