-- ==== Sys2Proof/Machine/Moves.lean ====
section
/-! DEFINITION. One move of a token on the route plane (R124 to R131, R143, R204, R257, R321, R368): from a source into a sink, from stage to stage, and into and out of pin cells, hoppers, ferries and serial groups. -/

namespace Sys2Proof.Machine

/-- R174: the ports of physical cluster g take no new access words. -/
def State.portsShut (s : State) (g : Nat) : Bool := s.cluHeld g

/-- R131, R132, R144: a token for sink k (264..304) of a physical cluster, delivered to what the sink is of the logical cluster it serves;
none while it has no room. -/
def State.deliverOut (s : State) (g k : Nat) (t : Tok) : Option State :=
  match s.logicalOf g with
  | none => none
  | some lc0 =>
    let r := g / 17
    let lc := s.lead r lc0
    if k < 272 then
      let p := (k - 264) / 2
      let lp := (r * 16 + lc) * 4 + p
      let a := s.aport lp
      if !s.accessPort g p then none
      else if k % 2 = 0 then
        (if a.req.isNone && !s.portsShut g then some (s.setAport lp { a with req := some t }) else none)
      else if a.data.isNone then some (s.setAport lp { a with data := some t })
      else none
    else if k < 304 then
      let p := (k - 272) / 8
      if s.streamPort g p then s.feed (epPort r lc p ((k - 272) % 8)) t else none
    else
      let n := r * 16 + lc
      if (s.bsrc n).isNone then some (s.setBsrc n (some t)) else none

/-- R321: the tokens of both members of a pair are compared at every sink where they leave the pair. -/
def State.compares (s : State) (g : Nat) : Bool :=
  match s.logicalOf g with
  | some lc => s.paired (g / 17) && (s.pair (g / 17 * 8 + lc / 2)).trusted.isNone
  | none => false

/-- A token at sink k of physical cluster g: stored, waiting at the compare stage, or none while there is no room, or while the cluster is not
Lit (R149). -/
def State.intoSink (s : State) (g k : Nat) (t : Tok) : Option State :=
  if k < 256 ∨ !s.cluLit g then none
  else if k < 264 then (if s.bmRoom g k then some (s.bmTake g k t) else none)
  else if s.retired g then none
  else if s.compares g || (s.twin (gsink g k)).isSome then
    (if (s.twin (gsink g k)).isNone then some (s.setTwin (gsink g k) (some t)) else none)
  else s.deliverOut g k t

/-- R124, R125: sink k of physical cluster g takes the token its source offers; a compare stage samples it, and acknowledges nothing before it
goes on (R321). For a retired member the mesh acknowledges a delivery and stores nothing (R324). -/
def State.sinkTake (s : State) (g k : Nat) (bad : BitVec 17) : State :=
  match s.offered g k with
  | none => s
  | some t0 =>
    if s.retired g && decide (128 ≤ s.sel g k) then s.takeFrom g k
    else match s.intoSink g k (garble bad s.freeNow t0) with
    | none => s
    | some s1 => (if s.compares g && decide (264 ≤ k) then s1 else s1.takeFrom g k).codeReport bad (gsink g k) (g / 17) (some g) (s.portOfSink g k)

/-- R124, R148: a token moves from stage i of a channel to stage i + 1, if there is room; it does not pass the closed gate of the sink's
region. -/
def State.stageMove (s : State) (ch : Word) (i : Nat) (bad : BitVec 17) : State :=
  let c := s.chan (chKey ch)
  let r := epRegion c.snk
  let shut := (s.region r).gate && decide (i + 1 = c.gate)
  match c.stages[i]?, c.stages[i + 1]? with
  | some (some t), some none =>
    if shut then s
    else
      let c1 := { c with stages := c.stages.set i (some (garble bad s.freeNow t)) }
      (s.setChan (chKey ch) (c1.shift i)).codeReport bad (placeKey 0 (64 * chKey ch + i)) (nth (epRegion ch) (s.chanRegions ch c.snk) (i + 1)) none none
  | _, _ => s

/-- R222, R368: MT or MC of pin cell p takes the token at the end of its channel, once the region's outputs are released. -/
def State.pinTake (s : State) (p : Nat) (mc : Bool) (bad : BitVec 17) : State :=
  let c := s.pin p
  let r := pinRegion p
  match s.chanInto (epPin r (p % 24) (b2n mc)) with
  | none => s
  | some ch => match (s.chan ch).last with
    | none => s
    | some t0 =>
      if !(s.region r).out || (if mc then c.mc else c.mt).isSome then s
      else
        let t := garble bad s.freeNow t0
        let s1 := s.setChan ch (s.chan ch).pop
        let s2 := s1.setPin p (if mc then { c with mc := some t } else { c with mt := some t })
        s2.codeReport bad (placeKey 1 (2 * p + b2n mc)) r none none

/-- R240, R241: CAP gives the next token of the oldest capture; PIN_CAPT shows its timestamp. -/
def State.capGive (s : State) (p : Nat) (bad : BitVec 17) : State :=
  let c := s.pin p
  match c.caps with
  | (ts, t :: more) :: rest =>
    match s.feedBad (epPin (pinRegion p) (p % 24) 2) t bad with
    | none => s
    | some s1 =>
      (s1.setPin p { c with caps := if more.isEmpty then rest else (ts, more) :: rest }).rput (pinReg p 0x1C) (ts.setWidth 64)
  | _ => s

/-- R204, R212: a STREAM consumer side delivers word[CUR] into its channel and releases it; `hits` and `glitch` as hopDeliver has them. -/
def State.hopGive (s : State) (h : Nat) (hits : BitVec 35) (glitch : Bool) (bad : BitVec 17) : State :=
  let k := s.hop h
  if !s.hopCStream h || decide (k.words.length ≤ k.cur) then s
  else
    let (s1, t) := s.hopDeliver h hits glitch
    match s1.feedBad (epHop (h / 8) (h % 8) true) t bad with
    | none => s
    | some s2 => s2

/-- R457, R462, R464: a down-ferry's value that has crossed enters the first stage of its channel. -/
def State.dnGive (s : State) (n : Nat) (bad : BitVec 17) : State :=
  let f := s.dnf n
  let k := kindOf (s.rget (dnReg n 0)) false
  if !f.crossed || k == .off then s
  else match f.xfer, f.q with
    | some (c, _), _ =>
      (match s.feedBad (epSeam (n / 32) (n % 32)) { d := BitVec.ofNat 32 c } bad with
        | some s1 => pulseNext s1 f (dnReg n 4) (fun s f => s.setDnf n f)
        | none => s)
    | none, t :: q =>
      (match s.feedBad (epSeam (n / 32) (n % 32)) t bad with
        | some s1 => s1.setDnf n { f with q := q, crossed := false }
        | none => s)
    | none, [] => s

/-- R257 to R259: a receiving group's word enters its channel, while the group is aligned. -/
def State.serialGive (s : State) (n : Nat) (bad : BitVec 17) : State :=
  let g := s.group n
  if !s.aligned n then s
  else match g.rx with
  | [] => s
  | t :: rest => match s.feedBad (epGroup n) t bad with
    | some s1 => s1.setGroup n { g with rx := rest }
    | none => s

/-- TOKEN_MOVE (R124): one token crosses from its stage into the next one with room; `bad` marks the groups of its code with more than one
wire high (R125). -/
def execTokenMove (m : Move) (bad : BitVec 17) (s : State) : Out :=
  match m with
  | .lane l => ok (s.laneMove l bad)
  | .sink g k => ok (s.sinkTake g.val k.val bad)
  | .stage ch i => ok (s.stageMove ch i bad)
  | .pin p mc => ok (s.pinTake p.val mc bad)
  | .cap p => ok (s.capGive p.val bad)
  | .hopOut h hits glitch => ok (s.hopGive h.val hits glitch bad)
  | .down n => ok (s.dnGive n.val bad)
  | .serial b i => ok (s.serialGive (2 * b.val + i.val) bad)

end Sys2Proof.Machine
end

