-- ==== Sys2Proof/Machine/Probes.lean ====
section
/-! DEFINITION. Probes and what they show (R263, R477), the level at a user pad (R253), changes of a pad's owner (R264), and the closing of a region's gate for a load. -/

namespace Sys2Proof.Machine

/-- The registers of probe k. -/
def probeSel (k : Nat) : Reg := ⟨.dbgProbe, k, 0⟩
def probePin (k : Nat) : Reg := ⟨.dbgProbe, k, 4⟩

/-- A link is ACTIVE. -/
def State.linkActive (s : State) (l : Nat) : Bool := decide (s.lstate l = 5)

/-- R477: the level of a status line; reserved lines read low. -/
def State.statusLine (s : State) (n : Nat) : Bool :=
  if n < 0x20 then (s.region n).gate
  else if n < 0x40 then decide (s.health (n - 0x20) ≠ 0)
  else if n < 0x48 then (s.lineShown (n - 0x40)).stat.getLsbD 1
  else if n < 0x50 then (s.lineShown (n - 0x48)).stat.getLsbD 0
  else if n = 0x50 then decide (s.interval % 2 = 1)
  else if 0x100 ≤ n ∧ n < 0x400 then (s.pin (n - 0x100)).parked
  else if 0x400 ≤ n ∧ n < 0x404 then s.coreHalted (n - 0x400)
  else if 0x410 ≤ n ∧ n < 0x415 then s.rb ⟨.wdg, 0, 0x80⟩ (if n = 0x414 then 9 else 5 + (n - 0x410))
  else if 0x500 ≤ n ∧ n < 0x520 then s.linkActive (n - 0x500)
  else false

/-- R476, R355: the token that the stage with a source code of logical cluster lc of region r holds. -/
def State.stageToken (s : State) (r lc code : Nat) : Option Tok :=
  let g := s.gOf r lc
  if code < 128 then (s.ostage (g * 64 + code / 2) (code % 2 == 1)).tok
  else if code < 160 then
    match s.chanInto (epPort r (s.lead r lc) ((code - 128) / 8) (code % 8)) with
    | some ch => (s.chan ch).last
    | none => none
  else if code < 168 then (s.bline (r * 8 + (code - 160))).tok
  else none

/-- R477: which probes a selection allows: BADSEL is set outside these rules. -/
def State.probeBad (s : State) (k : Nat) : Bool :=
  let v := s.rget (probeSel k)
  let w := s.rget (probePin k)
  let kind := fld v 28 3
  let line := fld w 0 16
  let pin := fld w 16 10
  let die := fld v 26 2
  let dieOfLine := if line < 0x40 then line % 0x20 / 8 else (line - 0x100) / 192
  if bit w 31 then
    decide (64 ≤ pin) || decide (kind ≠ 0) || !(decide (0x40 ≤ line ∧ line ≤ 0x50) || decide (0x400 ≤ line ∧ line ≤ 0x51F))
  else
    decide (768 ≤ pin) || decide (4 ≤ kind) || (if kind = 0 then
      (decide (line < 0x40 ∨ 0x100 ≤ line ∧ line < 0x400) && decide (dieOfLine ≠ pin / 192))
    else decide (die ≠ pin / 192) || decide (168 ≤ fld v 11 8))

/-- R477: the level probe k drives; none where it drives nothing. -/
def State.probeLevel (s : State) (k : Nat) : Option Bool :=
  let v := s.rget (probeSel k)
  if !bit v 31 || s.probeBad k then none
  else match fld v 28 3 with
    | 0 => some (s.statusLine (s.rf (probePin k) 0 16))
    | 1 => some (s.probe k).lvl
    | 2 => (match s.stageToken (fld v 26 2 * 8 + fld v 23 3) (fld v 19 4) (fld v 11 8) with
        | some t => some (match fld v 0 6 with | 32 => t.p | 33 => t.f | i => t.d.getLsbD i)
        | none => some false)
    | 3 =>
      let p := ((s.probe k).advance s.time).advance s.time
      (match p.tok with
        | none => some true
        | some t =>
          let i := (s.time - p.since) / 8
          some (match i with
            | 0 => false
            | 33 => t.p
            | 34 => t.f
            | 35 => true
            | _ => t.d.getLsbD (i - 1)))
    | _ => none

/-- R263: a user pin that a probe may drive. -/
def State.sparePin (s : State) (p : Nat) : Bool := s.pinFunc p == 0 && decide (s.pairKind p = 0)

/-- R251, R253, R254, R263: the level at user pad p, PIN_STAT.LEVEL: a probe drives its own, unless the pin's region is parked or quarantined. -/
def State.padLevel (s : State) (p : Nat) : Bool :=
  let d := s.padOf p
  match d.coming with
  | some _ => d.kept
  | none => match d.owner with
    | .probe k =>
      if s.scanned then (s.pin p).pad
      else if !s.driversOn p || (s.region (pinRegion p)).gate || decide (s.health (pinRegion p) = 2) then s.restLevel p
      else match s.probeLevel k with
        | some l => (s.drivenLevel p (if l then .high else .low)).getD (s.restLevel p)
        | none => s.restLevel p
    | _ => (s.pin p).pad

/-- R264: a pad begins a change of owner, the keeper holding its level; nothing changes where the owner stays. -/
def State.padTo (s : State) (p : Nat) (o : Owner) : State :=
  let d := s.padOf p
  if d.owner = o ∧ d.coming = none then s
  else s.setPad p { d with coming := some o, kept := s.padLevel p }

/-- R245, R262: region r's pads go to the configuration park state. -/
def State.parkPads (s : State) (r : Nat) : State := s.each (List.range 24) (fun s p => s.padTo (r * 24 + p) .park)

/-- GATE_CLOSE (R147 steps 1 and 2, R247, R262): the gate of a region closes for a load; its pads return to the configuration park state. -/
def execGateClose (r : Fin 32) (s : State) : Out :=
  if (s.region r.val).gate then ok s else ok ((s.closeGate r.val).parkPads r.val)

/-- The user pin that probe k has. -/
def State.probeHas (s : State) (k : Nat) : Option Nat :=
  (List.range 768).find? (fun p => decide ((s.padOf p).owner = .probe k) || decide ((s.padOf p).coming = some (.probe k)))

/-- R263, R477: the user pin that probe k names, if it may have it. -/
def State.probeWants (s : State) (k : Nat) : Option Nat :=
  let v := s.rget (probeSel k)
  let w := s.rget (probePin k)
  if bit v 31 && !s.probeBad k && !bit w 31 && s.sparePin (fld w 16 10) then some (fld w 16 10) else none

/-- R263: the probe that names user pin p. -/
def State.probeOn (s : State) (p : Nat) : Option Nat := (List.range 16).find? (fun k => s.probeWants k == some p)

/-- R263: what a pad that a probe leaves goes to. -/
def State.probeOff (s : State) (p : Nat) : State := s.padTo p (if (s.region (pinRegion p)).out then .cell else .park)

/-- R263, R477: probe k after its registers changed: it leaves the pin it had and takes the one it names. -/
def State.probeMove (s : State) (k : Nat) : State :=
  let want := s.probeWants k
  let s1 := s.rsetb (probePin k) 30 (s.rb (probeSel k) 31 && s.probeBad k)
  if s1.probeHas k = want then s1
  else
    let s2 := match s1.probeHas k with | some p => s1.probeOff p | none => s1
    match want with | some p => s2.padTo p (.probe k) | none => s2

end Sys2Proof.Machine
end

