-- ==== Sys2Proof/Machine/PowerChange.lean ====
section
/-! DEFINITION. What a change of a power domain does (R93, R174, R197, R294, R441 to R447, R478), restoring a cluster from the staging copy included, and the frame operations it shares with the Compositor. -/

namespace Sys2Proof.Machine

/-- The entries of a store but those in n keys from `lo`. -/
def Store.without {α : Type} (m : Store α) (lo n : Nat) : Store α := m.filter (fun e => !(decide (lo ≤ e.1) && decide (e.1 < lo + n)))

/-- The entries with key modulo `m` in block `i` taken out. -/
def Store.withoutBlock {α : Type} (m : Store α) (size i : Nat) : Store α := m.filter (fun e => e.1 / size != i)

/-- `n` bytes of `src` from `lo`, copied to `dst` from `dest`. -/
def Store.copyRange (src : Store Byte) (lo n : Nat) (dst : Store Byte) (dest : Nat) : Store Byte :=
  (src.filter (fun e => decide (lo ≤ e.1) && decide (e.1 < lo + n))).foldl
    (fun d e => Store.put 0#8 d (e.1 - lo + dest) e.2) (dst.without dest n)

/-- The number of a cluster's latch keys: one frame kind and element (cfgKey). -/
def elemKeys : Nat := 64 * 512

/-- R346: the staging copy's element of logical cluster lc of region r: a pair's frames name its even cluster (R353). -/
def State.goldElem (s : State) (r lc : Nat) : Nat := r * 17 + s.lead r lc

/-- R353, R93: physical cluster g holds no frame: every cell disabled, every source select none. The empty selects are those the clearing
to zero leaves: 0 selects output OX of cell 0, which an empty cluster never fills. -/
def State.clearLatches (s : State) (g : Nat) : State := { s with cfg := s.cfg.without (cfgKey 0 g 0 0) elemKeys }

/-- R353: the tokens of physical cluster g are discarded: operand slots, output stages, carry links, block memory ports, compare stages, and
writes still waiting for DATA (R174). -/
def State.emptyCluster (s : State) (g : Nat) : State :=
  { s with cells := s.cells.withoutBlock 64 g, bports := s.bports.withoutBlock 4 g, twins := s.twins.withoutBlock 305 g }

/-- The access port and broadcast stages of a logical cluster emptied. -/
def State.emptyPorts (s : State) (r lc : Nat) : State :=
  (s.each (List.range 4) (fun s p => s.setAport ((r * 16 + lc) * 4 + p) {})).setBsrc (r * 16 + lc) none

/-- R362: the bytes of a frame stored in the latches of an element. -/
def State.latch (s : State) (kind elem index : Nat) (b : List Byte) : State :=
  { s with cfg := Store.putBytes s.cfg (cfgKey kind elem index 0) b }

/-- R351: block memory data frame `index` of physical cluster g: memory index div 32, 512 bytes from (index mod 32) * 512, with right
parity. -/
def State.bmFrame (s : State) (g index : Nat) (b : List Byte) : State :=
  s.bmStore (2 * g + index / 32) (index % 32 * 512) b

/-- R96: the sticky bits of cell x cleared. -/
def State.cellUnstick (s : State) (x : Nat) : State := s.rput (cellStat x) (s.rget (cellStat x) &&& ~~~0xF0000000)

/-- R91: what writing cell x's frame does beside the latches. -/
def State.cellFramed (s : State) (x : Nat) : State :=
  let s1 := s.cellUnstick x
  if (s1.region (x / 1088)).reset || (s1.clu (x / 64)).reset then s1.resetCell x else s1

/-- R91, R327, R444: the cluster logic frames of a logical cluster written to physical cluster g from the staging copy. -/
def State.restoreLatches (s : State) (r lc g : Nat) : State :=
  { s with cfg := Store.copyRange s.gold (cfgKey 0 (s.goldElem r lc) 0 0) elemKeys s.cfg (cfgKey 0 g 0 0) }.engineOn.each (List.range 64)
    (fun s n => s.cellFramed (g * 64 + n))

/-- R444: the block memory data frames the image carried, for the memories whose INIT mode is DATA. -/
def State.restoreData (s : State) (r lc g : Nat) : State :=
  let el := s.goldElem r lc
  s.each (List.range 64) (fun s i =>
    if (s.crcOf (cfgKey 1 el i 0)).isSome && decide (s.blkCfg g (i / 32) / 1024 % 4 = 0) then
      s.bmFrame g i (Store.getBytes s.gold (cfgKey 1 el i 0) 512)
    else s)

/-- R444 steps 1 to 3 for cluster g of a loaded region: its frames from the staging copy, its memories at their INIT modes, itself under
set-reset until they are done. -/
def State.restoreCluster (s : State) (g : Nat) : State :=
  match s.logicalOf g with
  | none => s
  | some lc =>
    let r := g / 17
    if (s.region r).loaded && !s.underLoad r then
      let s1 := ((s.setClu g { s.clu g with reset := true }).restoreLatches r lc g).restoreData r lc g
      s1.each [2 * g, 2 * g + 1] (fun s b => (s.setBmem b { s.bmem b with busy := true }).rsetb (bmReg b 4) 28 false)
    else s

/-- R193: the locks whose holders are ports of the logical cluster that physical cluster g serves break. -/
def State.breakOf (s : State) (g : Nat) : State :=
  match s.logicalOf g with
  | some lc => if (s.members (g / 17) lc).contains g then s.breakLocks (portOfCluster (g / 17) (s.lead (g / 17) lc)) else s
  | none => s

/-- R143: the taps of a cluster that goes dark are left out of what its region's lines present now. -/
def State.dropTaps (s : State) (g : Nat) : State :=
  s.each (List.range 8) (fun s b =>
    let n := g / 17 * 8 + b
    let l := s.bline n
    if l.tok.isSome then s.setBline n { l with wait := l.wait.filter (fun t => decide (t / 305 ≠ g)) } else s)

/-- R93, R174, R441: cluster g changes from one state to another. -/
def State.cluChange (s : State) (g was st : Nat) : State :=
  let s1 := if st ≠ 0 ∧ was = 0 then (s.breakOf g).dropTaps g else s
  if st = 2 then
    let s0 := ((s1.clearLatches g).emptyCluster g).each (List.range 64) (fun s n => s.cellUnstick (g * 64 + n))
    let s2 := s0.each [2 * g, 2 * g + 1] (fun s b =>
      { (s.setBmem b { cold := true }).rsetb (bmReg b 4) 28 false with bbytes := s.bbytes.withoutBlock 16384 b })
    let s3 := match s2.logicalOf g with
      | some lc => if s2.lead (g / 17) lc = lc && s2.members (g / 17) lc == [g] then s2.emptyPorts (g / 17) lc else s2
      | none => s2
    s3.setClu g { s3.clu g with reset := false }
  else if was = 2 then
    let s2 := s1.powerUp
    (s2.each [2 * g, 2 * g + 1] (fun s b => s.setBmem b { base := s2.epoch, cold := true })).restoreCluster g
  else s1

/-- R197, R199, R441: scratch bank b changes state. A round of requester 19 in progress is done first; what was decided for a bank that goes
Cold takes no round, and a clear begins again. -/
def State.bankChange (s : State) (b was st : Nat) : State :=
  let s1 := s.maintOver b
  let k := s1.bank b
  let s2 := s1.setBank b { k with waking := false }
  if st = 2 then
    let cur := match k.cur with | some w => (match w.who with | .flight _ => some w | _ => none) | none => none
    { s2.setBank b { k with waking := false, cur := cur, next := none, clearPos := 0 } with swords := s2.swords.withoutBlock 131072 b }
  else if was = 2 then
    let s3 := s2.powerUp
    s3.setBank b { s3.bank b with base := s3.epoch, zeroRows := 0 }
  else s2

/-- R199: the round in progress at a Lit scratch bank is an access's or the scrub's: it completes before the bank's domain changes. -/
def State.bankBusy (s : State) (n : Nat) : Bool :=
  decide (544 ≤ n ∧ n < 672) && s.dom n == 0 && (match (s.bank (n - 544)).cur with | some w => w.who != .slice | none => false)

/-- R441, R261: I/O bank n changes state: a Cold bank's groups stop; at a Lit one the pulls act again. -/
def State.ioChange (s : State) (n st : Nat) : State :=
  if st = 2 then s.each [2 * n, 2 * n + 1] State.groupStop else s.padsFollow ((List.range 32).map (32 * n + ·))

/-- R294, R441: link l changes state; the domain already shows the new one. -/
def State.linkChange (s : State) (l was st : Nat) : State :=
  if st = 2 then (if s.lstate l = 0 then s else s.linkStop l 0)
  else if st = 1 then (s.rsetb (chl l 0x18) 15 false).rsetb (chl l 0x18) 31 false
  else if was = 1 ∧ (s.lstate l = 5 ∨ s.lstate l = 6) then s.toRetrain l
  else if was = 1 ∧ 1 ≤ s.lstate l ∧ s.lstate l ≤ 4 then s.toDetect l
  else s.linkStart l

/-- The registers of the blocks that lie in a die's spine-and-mesh domain, but for the violation counters, which only VIOL_CLEAR and package reset
clear (R33). -/
def regOfDie (d a : Nat) : Bool :=
  decide (winBase (8 * d) ≤ a) && decide (a < winBase (8 * d) + 0x8000000) && !violAll.any (fun g => g.addr == a)

/-- R29, R441, R445: the spine-and-mesh domain of die d goes Cold: its region meshes, Porters, hoppers and pin cells keep nothing, and its
regions are unloaded. The manual states nothing of what they hold when lit again; the model gives them their reset values (log entry 31). -/
def State.dieCold (s : State) (d : Nat) : State :=
  let rs := (List.range 8).map (8 * d + ·)
  let ofDie (k : Nat) : Bool := (12800 ≤ k && k < 12832 && (k - 12800) / 8 == d) || (12832 ≤ k && k < 12864 && (k - 12832) / 8 == d) ||
    k / 3200 == d || (12864 ≤ k && k < 13120 && (k - 12864) / 64 == d) || k == 13136 + d || k == 13140 + d
  let inDie (r : Nat) : Bool := r / 8 == d
  let s1 := s.each rs (fun s r => s.breakLocks (portOfRegion r))
  let s2 := { s1 with
    regs := s1.regs.filter (fun e => !regOfDie d e.1), regions := s1.regions.filter (fun e => !inDie e.1),
    spine := s1.spine.filter (fun e => !inDie e.1), spinePrevs := s1.spinePrevs.filter (fun e => !inDie e.1),
    chans := s1.chans.filter (fun e => !inDie (epRegion (BitVec.ofNat 32 e.1)) && !inDie (epRegion e.2.snk)),
    aports := s1.aports.filter (fun e => !inDie (e.1 / 64)), blines := s1.blines.filter (fun e => !inDie (e.1 / 8)),
    bsrcs := s1.bsrcs.filter (fun e => !inDie (e.1 / 16)), pairs := s1.pairs.filter (fun e => !inDie (e.1 / 8)),
    swapWant := s1.swapWant.filter (fun e => !inDie e.1), clus := s1.clus.filter (fun e => !inDie (e.1 / 17)),
    lanes := s1.lanes.filter (fun e => !ofDie e.1), hops := s1.hops.filter (fun e => !inDie (e.1 / 8)), pins := s1.pins.filter (fun e => !inDie (e.1 / 24)) }
  s2.each ((List.range 32).map (32 * d + ·)) (fun s b => s.setBank b {})

/-- R397, R447: the serial peripherals as after reset. -/
def State.serialReset (s : State) : State := { s with uarts := [], spi := {}, i2cs := [] }

/-- R410, R447: a base-die domain changes state: a Cold core is reset, with its watchdog; a Cold MAC drops the link and undisciplines the
1588 clock (log entry 32); Cold serial peripherals keep nothing. -/
def State.baseChange (s : State) (k st : Nat) : State :=
  if st = 2 ∧ 1 ≤ k ∧ k ≤ 3 then
    (({ s with regs := s.regs.without (0x200C0000 + 16 * k) 16 }.setCore k {}).rsetb ⟨.dbg, 0, 4⟩ k false).rsetb ⟨.dbgCore, k, 4⟩ 31 false
  else if st = 2 ∧ k = 10 then { s with regs := (s.regs.without 0x20080000 4).without 0x20080018 8 }
  else if st = 2 ∧ k = 11 then s.serialReset
  else s

/-- R442: domain n takes state st, with all that the change does. -/
def State.domApply (s : State) (n st : Nat) : State :=
  let was := s.dom n
  let s1 := (s.rsetf (lmpDom n) 30 2 st).rsetb (lmpDom n) 25 (s.emulates && decide (st ≠ 0))
  if was = st then s1
  else if n < 544 then s1.cluChange n was st
  else if n < 672 then s1.bankChange (n - 544) was st
  else if n < 696 then s1.ioChange (n - 672) st
  else if n < 728 then s1.linkChange (n - 696) was st
  else if n < 732 then (if st = 2 then s1.dieCold (n - 728) else s1)
  else s1.baseChange (n - 732) st

/-- R444, R447: cluster g, Cold in a loaded region, is to be restored from the staging area, whose die is not Lit. -/
def State.restoreWaits (s : State) (n : Nat) : Bool :=
  decide (n < 544) && s.dom n == 2 && (s.region (n / 17)).loaded && !s.dramLit

/-- R442: the change in progress of domain n completes, and the request that waits is applied next; a scratch bank finishes its round
first, and an I/O bank that a frame has given a reserved LEVEL meanwhile stays Cold (R250). -/
def State.domDone (s : State) (n : Nat) : State :=
  let d := s.domSt n
  match d.target with
  | none => s
  | some st =>
    if s.bankBusy n || s.restoreWaits n then s
    else if 672 ≤ n ∧ n < 696 ∧ st = 0 ∧ s.levelReserved (n - 672) then
      ((s.rsetb (lmpDom n) 26 false).setDomSt n { d with target := none }).domRelease n
    else
      let s1 := (s.rsetb (lmpDom n) 26 false).domApply n st
      (s1.setDomSt n { d with target := none }).domRelease n

/-- R443: a domain lit at once by the Compositor, the Tinker or the Assayer, which wait for it; a change or request pending ends. -/
def State.lightOne (s : State) (n : Nat) : State :=
  if s.dom n = 0 ∨ s.domFailed n then s else ((s.setDomSt n {}).rsetb (lmpDom n) 26 false).domApply n 0

/-- R29, R250, R443: the same, the die's spine and mesh first; an I/O bank with a reserved LEVEL stays Cold. -/
def State.light (s : State) (n : Nat) : State :=
  if 672 ≤ n ∧ n < 696 ∧ s.levelReserved (n - 672) then s
  else match meshOf n with
    | some m => (s.lightOne m).lightOne n
    | none => s.lightOne n

end Sys2Proof.Machine
end

