-- ==== Sys2Proof/Machine/Image.lean ====
section
/-! DEFINITION. The fabric image (R345 to R351) and the checks a load makes (R360): header, device, length, signature, key, and each frame's address and content. -/

namespace Sys2Proof.Machine

/-- A flash offset's bytes. -/
def State.flashBytes (s : State) (off n : Nat) : List Byte := Store.getBytes s.flash off n

/-- R437: where the records lie in flash; the manual gives only their range (log entry 34). -/
def recordBase (id : Nat) : Nat := 0x04000000 + 0x10000 * id

/-- R437: the length of a record's layout. -/
def recordLen (id : Nat) : Nat := match id with | 0 => 288 | 1 => 16448 | 2 => 1536 | _ => 92

/-- R437: the record with an identifier, if its CRC-32 is right. -/
def State.record (s : State) (id : Nat) : Option (List Byte) :=
  let b := s.flashBytes (recordBase id) (recordLen id)
  if (crc32 b).toNat = leAt (s.flashBytes (recordBase id + recordLen id) 4) 0 4 then some b else none

/-- R345: the offset of an image slot. -/
def slotBase (i : Nat) : Nat := 0x08000000 + 0x02000000 * i

/-! Header fields (R348). -/
def imgEnc (b : List Byte) : Bool := (leAt b 0x0B 1).testBit 0
def imgFrames (b : List Byte) : Nat := leAt b 0x20 4
def imgStartup (b : List Byte) : Nat := leAt b 0x10 4
def imgLockwait (b : List Byte) : Nat := leAt b 0x14 4
def imgCpark (b : List Byte) : Nat := leAt b 0x18 8
def imgId (b : List Byte) : Nat := leAt b 0x34 8

/-- R347: where the trailer stands. -/
def imgTrailer (b : List Byte) : Nat := 0x80 + 520 * imgFrames b + (if imgEnc b then 16 else 0)

/-- R345, R360: the bytes of a flash slot's image, as far as its header says and no further than the slot. -/
def State.slotImage (s : State) (i : Nat) : List Byte :=
  let h := s.flashBytes (slotBase i) 128
  let n := imgTrailer h + 392
  s.flashBytes (slotBase i) (if n ≤ 0x02000000 then n else 128)

/-- R367: the four start-up codes, slot 0 first. -/
def startupCodes (x : Nat) : List Nat := (List.range 4).map (fun i => x / 4 ^ i % 4)

/-- R360 checks 1 and 2, for the kind of load asked for: the code of the first that fails. -/
def imgHeader (b : List Byte) (part : Option Nat) : Option Nat :=
  let codes := startupCodes (imgStartup b)
  let kindOk : Bool := match part with
    | none => leAt b 0x0A 1 == 0 && leAt b 0x0C 4 == 0
    | some r => leAt b 0x0A 1 == 1 && leAt b 0x0C 4 == r
  if slice b 0 4 ≠ [0x58, 0x4E, 0x49, 0x4D] ∨ leAt b 4 2 ≠ 1 ∨ (crc32 (slice b 0 0x7C)).toNat ≠ leAt b 0x7C 4 then some 0x10
  else if !kindOk then some 0x10
  else if 256 ≤ imgStartup b ∨ !(List.range 4).all (fun c => codes.contains c) then some 0x10
  else if leAt b 6 2 ≠ 0x32 ∨ leAt b 8 1 ≠ 4 ∨ leAt b 9 1 ≠ 0xA1 then some 0x11
  else none

/-- R385: the owner image keys that check 4 and PROVE accept, as moduli. -/
def State.ownerKeys (s : State) : List Nat :=
  (s.record 2).elim [] (fun b =>
    let keys := ((List.range 4).map (fun i => slice b (384 * i) 384)).filter (fun k => ofLE k ≠ 0)
    let open_ := (List.range 4).all (fun i => !(s.oslot i).prog)
    (keys.filter (fun k => open_ || (List.range 4).any (fun i =>
      (s.oslot i).prog && !(s.oslot i).rev && (s.oslot i).digest.toNat == ofBE (sha256 k)))).map ofLE)

/-- R376, R385: LSM_STAT.OPEN. -/
def State.lsmOpen (s : State) : Bool := (List.range 4).all (fun i => !(s.oslot i).prog)

/-- R376: the key of a filled slot. -/
def State.keyOf (s : State) (i : Nat) : Option (BitVec 256) :=
  if i < 8 ∧ (s.kslot i).st = 1 then some (s.kslot i).key else none

/-- R360 checks 3, 4 and 5: the code of the first that fails. -/
def State.imgChecks (s : State) (b : List Byte) : Option Nat :=
  let t := imgTrailer b
  let n := t + 392
  if b.length < n ∨ 0x02000000 < n ∨ slice b t 4 ≠ [0x58, 0x4E, 0x53, 0x47] ∨ leAt b (t + 4) 4 ≠ n then some 0x12
  else if !s.ownerKeys.any (fun k => rsaOk k (leAt b (t + 8) 384) (sha256 (b.take (n - 384)))) then some 0x13
  else if imgEnc b then
    match s.keyOf (leAt b 0x24 1) with
    | none => some 0x14
    | some k =>
      if gcmTag k (slice b 0x28 12) (slice b 0 128) (slice b 0x80 (520 * imgFrames b)) = slice b (t - 16) 16 then none else some 0x14
  else none

/-- R349: the image with its body in plaintext. -/
def State.imgPlain (s : State) (b : List Byte) : List Byte :=
  match imgEnc b, s.keyOf (leAt b 0x24 1) with
  | true, some k => b.take 0x80 ++ gcmPlain k (slice b 0x28 12) (slice b 0x80 (520 * imgFrames b)) ++ b.drop (imgTrailer b)
  | _, _ => b

/-! Frames (R349, R351). -/

/-- The address and payload of frame i. -/
def frameAddr (b : List Byte) (i : Nat) : Word := BitVec.ofNat 32 (leAt b (0x80 + 520 * i) 4)
def framePay (b : List Byte) (i : Nat) : List Byte := slice b (0x80 + 520 * i + 8) 512

/-- R351: the fields of a frame address. -/
def faKind (a : Word) : Nat := fld a 28 4
def faRegion (a : Word) : Nat := fld a 26 2 * 8 + fld a 23 3
def faClus (a : Word) : Nat := fld a 19 4
def faIndex (a : Word) : Nat := fld a 0 6

/-- R352: the frame lies in a region. -/
def faInRegion (a : Word) : Bool := decide (faKind a ≤ 4)

/-- R351: a frame address with a kind of the table, an index in its range, and zeros in the fields its kind does not use. -/
def faOk (a : Word) : Bool :=
  decide (fld a 6 13 = 0) && match faKind a with
    | 0 => decide (faIndex a ≤ 17)
    | 1 => true
    | 2 => decide (faIndex a ≤ 7 ∧ faClus a = 0)
    | 3 => decide (faIndex a = 0 ∧ faClus a = 0)
    | 4 => decide (faIndex a = 0 ∧ faClus a = 0)
    | 8 => decide (faIndex a < 24 ∧ fld a 6 22 = 0)
    | 9 => decide (faIndex a ≤ 1 ∧ fld a 6 20 = 0)
    | 10 => decide (faIndex a ≤ 7 ∧ fld a 6 22 = 0)
    | _ => false

/-- The frame addresses of an image, in order. -/
def imgAddrs (b : List Byte) : List Word := (List.range (imgFrames b)).map (frameAddr b)

/-- R320, R356: the image's control frame of region r sets PAIRED. -/
def imgPaired (b : List Byte) (r : Nat) : Bool :=
  (List.range (imgFrames b)).any (fun i => decide (faKind (frameAddr b i) = 4 ∧ faRegion (frameAddr b i) = r) &&
    (leAt (framePay b i) 3 1).testBit 7)

/-- R365, R366: the regions an image describes. -/
def imgRegions (b : List Byte) : List Nat :=
  (List.range 32).filter (fun r => (imgAddrs b).any (fun a => faInRegion a && decide (faRegion a = r)))

/-- R354: the source selects a cluster frame holds. -/
def frameSels (idx : Nat) (p : List Byte) : List Nat :=
  if idx < 16 then (List.range 16).map (fun k => leAt p (128 * (k / 4) + 0x41 + k % 4) 1)
  else if idx = 16 then (List.range 49).map (fun k => leAt p k 1)
  else []

/-- All bytes of a range are zero. -/
def zeroAt (p : List Byte) (off n : Nat) : Bool := (slice p off n).all (fun b => decide (b = 0))

/-- R354, R132: the bytes and bits of a cluster frame that the layout gives as zero are zero. -/
def frameZeros (idx : Nat) (p : List Byte) : Bool :=
  if idx < 16 then (List.range 4).all (fun k => decide (leAt p (128 * k + 0x40) 1 < 2) && zeroAt p (128 * k + 0x45) 59)
  else if idx = 16 then
    zeroAt p 0x31 3 && zeroAt p 0x40 0x1C0 && decide (leAt p 0x34 4 < 4096 ∧ leAt p 0x38 4 < 4096) &&
      (List.range 4).all (fun k => decide (leAt p (0x3C + k) 1 &&& 0xCC = 0))
  else (List.range 128).all (fun e => decide (leAt p (4 * e) 4 / 2 ^ 17 % 2 ^ 13 = 0))

/-- R129, R355: with the frames of its cluster before it in the image, frame i makes no source feed more than 8 sinks. What the cluster held
before the load is cleared (R353). -/
def fanOk (b : List Byte) (i : Nat) : Bool :=
  let a := frameAddr b i
  let mine := (List.range (i + 1)).filter (fun k =>
    decide (faKind (frameAddr b k) = 0 ∧ faRegion (frameAddr b k) = faRegion a ∧ faClus (frameAddr b k) = faClus a))
  let sels := mine.flatMap (fun k => frameSels (faIndex (frameAddr b k)) (framePay b k))
  (List.range 176).all (fun c => decide ((sels.filter (· == c)).length ≤ 8))

/-- R215: a control frame gives no two hoppers one flow pin. -/
def flowOk (p : List Byte) : Bool :=
  let pins := (List.range 8).filterMap (fun h =>
    let v := leAt p (12 + 12 * h) 4
    if v.testBit 31 ∧ v % 32 < 24 then some (v % 32) else none)
  decide pins.Nodup

/-- R183: a control frame that sets SETOWN gives a defined OWNER. -/
def ownsOk (p : List Byte) : Bool :=
  (List.range 4).all (fun b => !(leAt p (0x84 + 8 * b) 4).testBit 31 || decide (leAt p (0x80 + 8 * b) 4 / 2 ^ 29 ≤ 4))

/-- R360 check 6 of frame i of a load's image: the code of what fails. A region whose control frame the image leaves out is not PAIRED (R353). -/
def frameCheck (l : Load) (i : Nat) : Option Nat :=
  let a := frameAddr l.image i
  let p := framePay l.image i
  let r := faRegion a
  let before := (imgAddrs l.image).take i
  if !faOk a || before.contains a then some 0x22
  else if (match l.part with | some w => !faInRegion a || decide (r ≠ w) | none => false) then some 0x20
  else if faKind a = 4 ∧ before.any (fun x => faInRegion x && decide (faRegion x = r)) then some 0x22
  else match faKind a with
    | 0 =>
      if imgPaired l.image r ∧ faClus a % 2 = 1 then some 0x22
      else if !frameZeros (faIndex a) p || !fanOk l.image i then some 0x22
      else if faIndex a = 16 ∧ 128 ≤ leAt p 0x30 1 ∧ leAt p 0x30 1 ≠ 255 then some 0x22
      else none
    | 1 => if imgPaired l.image r ∧ faClus a % 2 = 1 then some 0x22 else none
    | 2 =>
      if faIndex a = 0 ∧ (List.range 8).any (fun n => decide (1 < popCount (BitVec.ofNat 16 (leAt p (2 * n) 2)))) then some 0x21 else none
    | 4 => if !flowOk p || !ownsOk p then some 0x22 else none
    | _ => none

end Sys2Proof.Machine
end

