-- ==== Sys2Proof/Machine/Compositor.lean ====
section
/-! DEFINITION. The Compositor (R345 to R375, R509): quarantine, mapping and lighting, writing frames, matching channels, start-up, and how loads end. The rows that Ixzento may wait for are in Machine/LoadRows.lean. -/

namespace Sys2Proof.Machine

/-- The Compositor's registers. -/
def cmpReg (off : Nat) : Reg := ⟨.cmp, 0, off⟩

/-- CMP_STAT.PHASE. -/
def State.setPhase (s : State) (p : Nat) : State := s.rsetf (cmpReg 0) 24 4 p

/-- R338: the Assayer marked cluster g FAILED. -/
def State.cluFailed (s : State) (g : Nat) : Bool := s.rb ⟨.asy, 0, 0x100 + 4 * (g / 32)⟩ (g % 32)

/-- R336, R341: a recovery running in region r stops, and the slices on its clusters with it. -/
def State.stopRecovery (s : State) (r : Nat) : State :=
  let s1 := { s with spareQ := s.spareQ.filter (· != r),
                     slices := s.slices.filter (fun x => !(x.kind == 0 && x.index / 17 == r)) }
  (s1.each (List.range 8) (fun s j => s.setPair (r * 8 + j) {})).setSwap r none

/-- R365 step 1, R372 step 2: region r's gate closes for a load, its pads go to the configuration park state. Where the gate was closed and
drained already, set-reset applies at once. -/
def State.quarantine (s : State) (r : Nat) : State :=
  let s1 := (if (s.region r).gate then s else s.closeGate r).stopRecovery r
  let s2 := (s1.parkPads r).rsetb (cmpReg 0x18) r true
  let s3 := s2.setRegion r { s2.region r with out := false }
  if (s3.region r).drain then s3 else s3.applyReset r

/-- R217, R372: region r's hoppers empty: FPEND = 0, the watermark state LOW. -/
def State.emptyHoppers (s : State) (r : Nat) : State := s.each (List.range 8) (fun s h => s.setHop (r * 8 + h) {})

/-- R346, R381: the staging copy of region r erased. -/
def State.dropGold (s : State) (r : Nat) : State :=
  let clus (e : Nat) : Bool := decide (e / (1024 * elemKeys) ≤ 1) && decide (e / elemKeys % 1024 / 17 = r)
  let reg (e : Nat) : Bool := decide (2 ≤ e / (1024 * elemKeys) ∧ e / (1024 * elemKeys) ≤ 4) && decide (e / elemKeys % 1024 = r)
  { s with gold := s.gold.filter (fun e => !clus e.1 && !reg e.1), crcs := s.crcs.filter (fun e => !clus e.1 && !reg e.1) }

/-- R183, R198, R373: what a control frame does to bank b: scrub and AUTOWAKE, Porter settings, and CLEAR and SETOWN, before either of which a bank with
an owner is handed to NONE. -/
def State.putBank (s : State) (b : Nat) (p : List Byte) : State :=
  let i := b % 4
  let own : RegVal := BitVec.ofNat 64 (leAt p (0x80 + 8 * i) 4) &&& 0xE0FFFF8F
  let fl := leAt p (0x84 + 8 * i) 4
  let s1 := s.rput (sb b 8) (put 2 (fl / 2 ^ 28 % 2) + put 0 (fl / 2 ^ 29 % 2))
  let s2 := s1.each (List.range 20) (fun s n => s.rsetb (prtReq b n) 31 false)
  let s3 := s2.each (List.range 20) (fun s n => s.prtWrite b n (BitVec.ofNat 32 (leAt p (0xA0 + 80 * i + 4 * n) 4)))
  let none_ (s : State) : State :=
    let s1 := s.breakLock b
    if s1.rf (sb b 0) 29 3 = 0 then s1 else s1.newOwner b 0
  let setown : Option Word := if fl.testBit 31 then some (own.setWidth 32) else none
  let s4 := (s3.rsetb (sb b 4) 29 false).setBank b { s3.bank b with before := [], force := false }
  if fl.testBit 30 then
    let s5 := (none_ s4).startClear b
    s5.setBank b { s5.bank b with setOwn := setown }
  else if fl.testBit 31 then
    let s5 := none_ s4
    (s5.setBank b { s5.bank b with setOwn := setown }).applySetOwn b
  else s3

/-- R356: a region control frame. -/
def State.putControl (s : State) (r : Nat) (p : List Byte) : State :=
  let s1 := s.rput ⟨.tnk, r, 0⟩ (put 24 (leAt p 3 1))
  let s2 := s1.each (List.range 8) (fun s h =>
    let w (k : Nat) : RegVal := BitVec.ofNat 64 (leAt p (4 + 12 * h + 4 * k) 4)
    ((s.rput (hopReg (r * 8 + h) 0) (w 0 &&& 7)).rput (hopReg (r * 8 + h) 0xC) (w 1 &&& 0x007F007F)).rput
      (hopReg (r * 8 + h) 0x10) (w 2 &&& 0xC000001F))
  s2.each (List.range 4) (fun s b => s.putBank (r * 4 + b) p)

/-- R356: pin cell and driver-enable frames. -/
def State.putPins (s : State) (r : Nat) (p : List Byte) : State :=
  s.each (List.range 24) (fun s i => s.rput (pinReg (r * 24 + i) 0) (BitVec.ofNat 64 (leAt p (16 * i) 4) &&& 0xFFFE0000))
def State.putBen (s : State) (r : Nat) (p : List Byte) : State :=
  s.each (List.range 4) (fun s k => s.rput (meshReg r (0x10 + 4 * k)) (BitVec.ofNat 64 (leAt p (4 * k) 4)))

/-- R356: the frames that place region r's design cleared: no channel record, no driver enable, pin cells Off. -/
def State.clearPlan (s : State) (r : Nat) : State :=
  let zero : List Byte := List.replicate 512 0
  let s1 := s.each [2, 3] (fun s k => { s with cfg := s.cfg.without (cfgKey k r 0 0) elemKeys })
  (s1.putBen r zero).putPins r zero

/-- R353, R356: region r's control frame cleared: the settings of the Tinker, the hoppers and the Porters zero. -/
def State.clearControl (s : State) (r : Nat) : State :=
  { s with cfg := s.cfg.without (cfgKey 4 r 0 0) elemKeys }.putControl r (List.replicate 512 0)

/-- R353, R366: region r's design gone: its frames cleared, every cluster emptied, and with it the stages in the region of the channels
that end in it, its hoppers (R217) and pin cells (R234). What its channels to the outside hold goes on, their break tokens last (R147). -/
def State.clearDesign (s : State) (r : Nat) (enc : Bool) : State :=
  let s0 := s.each (List.range 68) (fun s q => s.bmWriteNow (r * 68 + q))
  let s1 := s0.each (List.range 17) (fun s c => (s.clearLatches (r * 17 + c)).emptyCluster (r * 17 + c))
  let s2 := s1.clearPlan r
  let s3 := s2.each (List.range 16) (fun s lc => s.emptyPorts r lc)
  let s4 := (s3.each (List.range 8) (fun s i => s.setBline (r * 8 + i) {})).emptyHoppers r
  let s5 := s4.each (List.range 24) (fun s p =>
    let c := s.pin (r * 24 + p)
    s.setPin (r * 24 + p) { c with mt := none, mc := none, q := [], staged := none, wopen := 0, wclose := 0, caps := [], seq := 0, inv := false })
  let cut (_ : Nat) (c : Chan) : Chan :=
    if !epBase c.snk && epRegion c.snk = r then
      { c with stages := c.stages.take c.gate ++ (c.stages.drop c.gate).map (fun _ => none), taken := [] }
    else c
  let s6 := { s5 with chans := Store.mapVals {} cut s5.chans,
                      flights := s5.flights.map (fun (f : Flight) => match f.iss with
                        | .port r' _ _ => if r' = r then { f with orphan := true, cell := none } else f
                        | _ => f) }
  let s7 := (s6.dropGold r).setRegion r { s6.region r with loaded := false, writes := false }
  s7.rsetb (cmpReg 0x14) r enc

/-- R353: before the first frame of region r, all it held is cleared, its settings with it. -/
def State.clearRegion (s : State) (r : Nat) (enc : Bool) : State := (s.clearDesign r enc).clearControl r

/-- R366, R370: region r unloaded: no design, Ash, its clusters Cold; its gate stays closed. The settings of its Tinker, hoppers and Porters
stand until a load brings others (log entry 173). -/
def State.unloadRegion (s : State) (r : Nat) : State :=
  let s1 := (s.clearDesign r false).setHealth r 2
  s1.each (List.range 17) (fun s c =>
    if s.dom (r * 17 + c) = 2 then s else ((s.setDomSt (r * 17 + c) {}).rsetb (lmpDom (r * 17 + c)) 26 false).domApply (r * 17 + c) 2)

/-- TNK_MAPk: logical cluster lc of region r runs on physical cluster c. -/
def State.setMap (s : State) (r lc c : Nat) : State := s.rsetf ⟨.tnk, r, 0x18 + 4 * (lc / 4)⟩ (8 * (lc % 4)) 5 c

/-- TNK_HEALTH's SPARE, SPAREPHY and RETIRED. -/
def State.setSpares (s : State) (r spare phy : Nat) : State :=
  let h := s.rget (tnkHealth r)
  s.rput (tnkHealth r) (setFld (setFld (setFld h 27 3 spare) 0 5 phy) 24 3 0)

/-- R366, R373, R338: the map of region r for a load, skipping clusters marked FAILED: identity for a full load, the present one for a
partial. None where no spare is left. -/
def State.mapRegion (s : State) (r : Nat) (full : Bool) : Option State :=
  let cur (lc : Nat) : Nat := if full then lc else s.physOf r lc
  let u := ((List.range 17).find? (fun c => (List.range 16).all (fun lc => decide (cur lc ≠ c)))).getD 16
  let s1 := s.each (List.range 16) (fun s lc => s.setMap r lc (cur lc))
  let s2 := s1.each (List.range 17) (fun s c => s.setClu (r * 17 + c) { s.clu (r * 17 + c) with hold := false, reset := false })
  match (List.range 16).filter (fun lc => s.cluFailed (r * 17 + cur lc)) with
  | [] => some (s2.setSpares r (if s.cluFailed (r * 17 + u) then 4 else 0) u)
  | [lc] =>
    if s.cluFailed (r * 17 + u) then none
    else some (((s2.setMap r lc u).setSpares r 2 u).rsetf (tnkHealth r) 5 5 (cur lc))
  | _ => none

/-- R365 step 4: the domains of region r that the image uses: the clusters its frames name, both of a pair, a paired region's free spare
(R327), and the banks whose control frame sets SETOWN or CLEAR (log entry 35). -/
def State.usedDoms (s : State) (img : List Byte) (r : Nat) : List Nat :=
  let paired := imgPaired img r
  let named := (imgAddrs img).filter (fun a => decide (faKind a ≤ 1) && decide (faRegion a = r))
  let lcs := (List.range 16).filter (fun lc => named.any (fun a => decide (faClus a = lc) || (paired && decide (faClus a + 1 = lc ∧ lc % 2 = 1))))
  let spare := if paired && s.spareSt r == 0 then [r * 17 + s.sparePhy r] else []
  let banks := (List.range (imgFrames img)).flatMap (fun i =>
    if faKind (frameAddr img i) = 4 ∧ faRegion (frameAddr img i) = r then
      (List.range 4).filter (fun b => decide (leAt (framePay img i) (0x84 + 8 * b) 4 / 2 ^ 30 ≠ 0))
    else [])
  lcs.map (s.gOf r) ++ spare ++ banks.map (fun b => bankDom (r * 4 + b))

/-- The I/O bank domains whose frames the image carries, with a LEVEL that is not reserved. -/
def usedBanks (img : List Byte) : List Nat :=
  (List.range (imgFrames img)).filterMap (fun i =>
    let a := frameAddr img i
    if faKind a = 8 ∧ leAt (framePay img i) 1 1 % 8 ≤ 4 then some (672 + faIndex a) else none)

/-- R365, R348: the header's CPARK applies to the given pins. -/
def State.applyCpark (s : State) (img : List Byte) (pins : List Nat) : State :=
  s.each pins (fun s p => (s.setCpark p (imgCpark img / 4 ^ (p / 32) % 4)).padFollow p)

/-! Channels (R357). -/

/-- The channel records of a mesh or die-mesh frame: the first all-zero one ends the list. -/
def recordsOf : Nat → List Byte → List (Word × Word)
  | 0, _ => []
  | k + 1, p => if leAt p 0 8 = 0 then [] else (BitVec.ofNat 32 (leAt p 0 4), BitVec.ofNat 32 (leAt p 4 4)) :: recordsOf k (p.drop 8)

/-- The records region r's mesh frames carry, and die d's die-mesh frames. -/
def State.meshRecords (s : State) (r : Nat) : List (Word × Word) :=
  (List.range 7).flatMap (fun i => recordsOf 64 (s.cfgBytes 2 r (i + 1) 0 512))
def State.dieRecords (s : State) (d : Nat) : List (Word × Word) :=
  (List.range 2).flatMap (fun i => recordsOf 64 (s.cfgBytes 9 d i 0 512))

/-- R357, R358, R140: the dies whose die-mesh frames must carry a record: those of every ring or base seam it crosses. -/
def recordDies (c : Word × Word) : List Nat :=
  let a := fld c.1 26 2
  let b := fld c.2 26 2
  (if epBase c.1 then [a] else []) ++ (if epBase c.2 then [b] else []) ++
    (if a = b then [] else if (b + 4 - a) % 4 = 2 then [a, (a + 1) % 4, b] else [a, b])

/-- R357: all the frames that should carry a record carry it. -/
def State.matched (s : State) (c : Word × Word) : Bool :=
  (epBase c.1 || (s.meshRecords (epRegion c.1)).contains c) && (epBase c.2 || (s.meshRecords (epRegion c.2)).contains c) &&
    (recordDies c).all (fun d => (s.dieRecords d).contains c)

/-- R147, R353: a channel connected again by the same record after a load: `n` of its first stages lie in a loaded region that holds its source
alone, where tokens of the old design are discarded but the break token still to leave stays; before the gate of a loaded region that holds
its sink alone, tokens stay. -/
def Chan.renew (c fresh : Chan) (n : Nat) (srcIn snkIn : Bool) : Chan :=
  if srcIn == snkIn || decide (c.stages.length ≠ fresh.stages.length) then fresh
  else if srcIn then
    let brk := c.owes || (c.stages.take n).any Option.isSome
    { fresh with stages := List.replicate (n - 1) none ++ (if n = 0 then [] else [if brk then some { p := true } else none]) ++ c.stages.drop n,
                 taken := c.taken }
  else { fresh with stages := c.stages.take c.gate ++ fresh.stages.drop c.gate }

/-- R357: the records of every region and die are matched; a matched one is connected, keeping its tokens where no region of the load holds
an end, and the rest are counted. -/
def State.matchChannels (s : State) (l : Load) : State :=
  let all := ((List.range 32).flatMap s.meshRecords ++ (List.range 4).flatMap s.dieRecords).eraseDups
  let good := all.filter s.matched
  let s1 := { s with chans := s.chans.filter (fun e => good.contains (BitVec.ofNat 32 e.1, e.2.snk)) }
  let s2 := s1.each good (fun s c =>
    let old := s.chan (chKey c.1)
    let mine (w : Word) : Bool := !epBase w && l.started.contains (epRegion w)
    let n := ((s.chanRegions c.1 c.2).takeWhile (fun r => decide (r = epRegion c.1))).length
    if old.connected && decide (old.snk = c.2) then
      (if mine c.1 || mine c.2 then s.setChan (chKey c.1) (old.renew (s.newChan c.1 c.2) n (mine c.1) (mine c.2)) else s)
    else s.setChan (chKey c.1) (s.newChan c.1 c.2))
  s2.rsetf (cmpReg 0x24) 0 16 (min (all.length - good.length) 0xFFFF)

/-! Endings (R361, R365 step 9, R366, R369, R370, R374). -/

/-- The regions a load puts under load (R509). -/
def Load.scope (l : Load) : List Nat := match l.part with | some r => [r] | none => List.range 32

/-- The regions a load loads. -/
def Load.live (l : Load) : List Nat :=
  (match l.part with | some r => [r] | none => l.started).filter (fun r => !l.noSpare.contains r)

/-- The load is over with a code, at a frame or at none; requests that waited for it are applied (R509). -/
def State.loadOver (s : State) (l : Load) (code : Nat) (fa : Word) : State :=
  let s1 := ({ s with load := none, loadEnded := some code, cmpNews := true }).rsetb (cmpReg 0) 31 false
  let s2 := ((s1.setPhase 0).rsetf (cmpReg 0) 0 8 code).rput (cmpReg 8) (if 0x20 ≤ code ∧ code ≤ 0x24 then fa.setWidth 64 else 0)
  let s3 := if l.boot && !l.golden then s2.rsetf (cmpReg 0) 8 8 code else s2
  s3.each l.scope State.domReleaseAll

/-- R365 step 9, R372 step 7, R374: the load completed: gates open, health follows R331, and the faults recorded meanwhile are acted on. -/
def State.loadDone (s : State) (l : Load) : State :=
  let code := if l.noSpare.isEmpty then 0 else 0x24
  let s1 := s.each l.live (fun s r =>
    let s1 := s.setRegion r { s.region r with gate := false, drain := false, held := false, loaded := true }
    let s2 := (s1.setHealth r (if s1.spareSt r = 0 then 0 else 1)).rsetb (cmpReg 0x18) r false
    s2.setRimg r (imgId l.image))
  let s2 := match l.part with
    | some _ => s1
    | none =>
      let s2 := ((s1.rput (cmpReg 0x18) 0).rput (cmpReg 0x1C) (BitVec.ofNat 64 (imgId l.image % 2 ^ 32))).rput (cmpReg 0x20)
        (BitVec.ofNat 64 (imgId l.image / 2 ^ 32))
      ((s2.rsetb (cmpReg 0) 30 l.golden).rsetb (cmpReg 0) 29 l.serial).rsetb (cmpReg 0) 28 false
  (s2.loadOver l code 0).each l.live State.actTold

/-- R370: the fabric unconfigured. -/
def State.unconfigure (s : State) : State :=
  let s1 := s.each (List.range 32) State.unloadRegion
  ((s1.rput (cmpReg 0x18) 0).rsetb (cmpReg 0) 30 false).rsetb (cmpReg 0) 28 true

/-- R370: the regions a load had begun hold no loaded design when it ends early. -/
def State.loadStop (s : State) (l : Load) : State :=
  s.each l.started (fun s r => (s.setRegion r { s.region r with loaded := false }).dropGold r)

/-- R369, R370, R374: a load that ends with a status other than OK and starts nothing else. The channel records are matched as at the end of
every load (R357). -/
def State.loadFail (s : State) (l : Load) (code : Nat) (fa : Word) : State :=
  let s1 := if code = 0x30 then s else s.loadStop l
  let s2 := if l.part.isNone && decide (0x10 ≤ code ∧ code ≤ 0x23) then s1.unconfigure else s1
  (if l.phase < 5 then s2.matchChannels l else s2).loadOver l code fa

/-- R365 step 1, R372 steps 1 and 2: a load begins: its regions are quarantined and the frame engine is Lit (R447). -/
def State.loadBegin (s : State) (l : Load) : State :=
  let s1 := (({ s with load := some l, loadAsked := true }).engineOn).rsetb (cmpReg 0) 31 true
  let s2 := ((s1.setPhase 1).rput (cmpReg 8) 0).rput (cmpReg 0xC) 0
  let s3 := match l.part with
    | some r => (s2.rsetb (cmpReg 0) 23 true).rsetf (cmpReg 0) 18 5 r
    | none => s2.rsetb (cmpReg 0) 23 false
  let s4 := s3.each l.scope State.quarantine
  match l.part with | some r => s4.emptyHoppers r | none => s4

/-- Checks 1 and 2 passed: the new CPARK applies and staging begins. -/
def State.loadStage (s : State) (l : Load) : State :=
  let pins := match l.part with | some r => (List.range 24).map (r * 24 + ·) | none => List.range 768
  ({ s with load := some { l with phase := 2 } }.applyCpark l.image pins).setPhase 2

/-- R370: the golden image loaded as a full load after the primary failed; no more fallback. -/
def State.loadGolden (s : State) : State :=
  let l : Load := { boot := true, golden := true, image := s.slotImage 1 }
  let s1 := s.flashOn.loadBegin l
  match imgHeader l.image none with
  | some c => s1.loadFail l c 0
  | none => s1.loadStage l

/-- R361, R370: a load ends with a code other than OK: at boot a primary image that failed gives way to the golden one. -/
def State.loadEnd (s : State) (l : Load) (code : Nat) (fa : Word) : State :=
  if l.boot && !l.golden && decide (0x10 ≤ code ∧ code ≤ 0x23) then
    (((s.loadStop l).matchChannels l).rsetf (cmpReg 0) 8 8 code).loadGolden
  else s.loadFail l code fa

/-- A load is requested: nothing changes while one runs (R361 BUSY). -/
def State.loadStart (s : State) (l : Load) : State :=
  if s.load.isSome then s
  else
    let s1 := s.loadBegin l
    match imgHeader l.image l.part with
    | some c => s1.loadEnd l c 0
    | none => s1.loadStage l

/-- R345, R436: the bytes a source holds; a load from flash takes the staging area from a pushed image. -/
def State.sourceImage (s : State) : Source → List Byte
  | .slot i => s.slotImage i.val
  | .staged => s.staged.getD []
def State.sourceUsed (s : State) : Source → State
  | .slot _ => { s with staged := none }.flashOn
  | .staged => s

/-- FULL_LOAD and LOAD KIND 0 (R365). -/
def State.fullLoad (s : State) (src : Source) : State :=
  if s.load.isSome then s else (s.sourceUsed src).loadStart { image := s.sourceImage src }

/-- PARTIAL_LOAD and LOAD KIND 1 (R372). -/
def State.partialLoad (s : State) (r : Nat) (src : Source) : State :=
  if s.load.isSome then s else (s.sourceUsed src).loadStart { part := some r, image := s.sourceImage src }

/-! Staging, mapping and frames. -/

/-- R365 step 6, R173: every frame is written; the memories of the loaded regions run their INIT modes. -/
def State.framesDone (s : State) (l : Load) : State :=
  let s1 := ({ s with load := some { l with phase := 4 } }).setPhase 4
  s1.each l.live (fun s r => s.each (List.range 16) (fun s lc =>
    s.each [2 * s.gOf r lc, 2 * s.gOf r lc + 1] (fun s b =>
      if s.cluLit (b / 2) then (s.setBmem b { s.bmem b with busy := true }).rsetb (bmReg b 4) 28 false else s)))

/-- R365 steps 3 and 4: a region of the load is mapped and what the image uses of it is lit; a region that cannot be mapped is unloaded. -/
def State.prepare (s : State) (l : Load) (r : Nat) : State × Bool :=
  let s0 := s.drained r
  match s0.mapRegion r l.part.isNone with
  | none => (s0.unloadRegion r, false)
  | some s1 => (s1.each (s1.usedDoms l.image r) State.light, true)

/-- The regions of a load prepared; answers those that could not be. -/
def State.prepareAll (s : State) (l : Load) : List Nat → State × List Nat
  | [] => (s, [])
  | r :: t =>
    let (s1, good) := s.prepare l r
    let (s2, bad) := s1.prepareAll l t
    (s2, if good then bad else r :: bad)

/-- R147, R365 step 1, R372 step 2, R447: a region of the load still drains what its gate had accepted, or the staging area's die is not Lit. -/
def State.loadDrains (s : State) (l : Load) : Bool := !s.dramLit || l.scope.any (fun r => (s.region r).drain && s.gateBusy r)

/-- STAGING_COMPLETE (R360 checks 3 to 5, R365 steps 3 and 4, R366), once the gates the load closed have drained. -/
def State.stageDone (s : State) : State :=
  match s.load with
  | none => s
  | some l =>
    if l.phase ≠ 2 ∨ s.loadDrains l then s
    else match s.imgChecks l.image with
      | some c => s.loadEnd l c 0
      | none =>
        let img := s.imgPlain l.image
        let s0 := match l.part with
          | some _ => s
          | none => { s with imgHash := sha256 (l.image.take (imgTrailer l.image + 8)) }
        let rs := match l.part with | some r => [r] | none => imgRegions img
        let s1 := s0.each (l.scope.filter (fun r => !rs.contains r)) (fun s r => (s.drained r).unloadRegion r)
        let (s2, bad) := s1.prepareAll { l with image := img } rs
        let s3 := s2.each (usedBanks img) State.light
        let l1 : Load := { l with image := img, phase := 3, noSpare := bad }
        if imgFrames img = 0 then s3.framesDone l1 else ({ s3 with load := some l1 }).setPhase 3

/-- R346, R334: a frame kept in the staging copy, with its CRC-32 for the scrub. -/
def State.stash (s : State) (kind elem index : Nat) (p : List Byte) : State :=
  ({ s with gold := Store.putBytes s.gold (cfgKey kind elem index 0) p }).setCrc (cfgKey kind elem index 0) (some (crc32 p))

/-- The physical clusters a frame of logical cluster lc goes to: both members of a pair (R320). -/
def State.targets (s : State) (r lc : Nat) : List Nat := if s.paired r then [s.gOf r lc, s.gOf r (lc + 1)] else [s.gOf r lc]

/-- R91, R354: a cluster logic frame written: the latches of its physical cluster; the sticky bits of its cells are cleared, and under set-reset
W0..W3 stand at the frame's values. -/
def State.putLogic (s : State) (g idx : Nat) (p : List Byte) : State :=
  let s1 := s.latch 0 g idx p
  if idx < 16 then (s1.each (List.range 4) (fun s k => s.cellFramed (g * 64 + 4 * idx + k))) else s1

/-- R358, R250, R261: a bank frame; a reserved LEVEL keeps the bank Cold, and the frame's pulls apply. -/
def State.putIoBank (s : State) (n : Nat) (p : List Byte) : State :=
  let s1 := s.each (List.range 7) (fun s k =>
    let g := bankReg n (4 * k)
    match g.info with
    | some i => s.rput g (BitVec.ofNat 64 (leAt p (4 * k) 4) &&& i.ro)
    | none => s)
  if s1.levelReserved n && s1.dom (672 + n) == 0 then s1.domApply (672 + n) 2 else s1.padsFollow ((List.range 32).map (32 * n + ·))

/-- R284, R358: the ferries that VALID stream-map words name: up-ferries for direction 0, down-ferries for 1. -/
def State.mapped (s : State) (d : Nat) : List Nat :=
  (List.range 512).filterMap (fun k =>
    let w := s.streamMap (k / 16) (k % 16) d
    if bit w 31 then some (mapFerry w) else none)

/-- R458, R465: a ferry after the stream map changed: one a VALID word of frame `idx` names takes DEST = 0b10 and EN = 1, empty; one no word
names any more returns to EN = 0 and DEST = 0b00, empty. -/
def ferryCfg (old : RegVal) (named now : Bool) : Option RegVal :=
  if named then some (setFld (setBit old 31 true) 29 2 2)
  else if fld old 29 2 = 2 && !now then some (setFld (setBit old 31 false) 29 2 0)
  else none

/-- R358, R465: a stream-map frame: latched; CHV_SCLS of its four links and the ferries follow. -/
def State.putStreams (s : State) (idx : Nat) (p : List Byte) : State :=
  let s1 := s.latch 10 0 idx p
  let s2 := s1.each (List.range 4) (fun s i =>
    let l := 4 * idx + i
    s.rput (chl l 0x1C) ((List.range 16).foldl (fun a c => a + put (2 * c) (fld (s.streamMap l c 0) 29 2)) 0))
  let named (d : Nat) : List Nat := (List.range 64).filterMap (fun k =>
    let w := s2.streamMap (4 * idx + k / 16) (k % 16) d
    if bit w 31 then some (mapFerry w) else none)
  let ups := s2.mapped 0
  let dns := s2.mapped 1
  let nu := named 0
  let nd := named 1
  let s3 := s2.each (List.range 128) (fun s n => match ferryCfg (s.rget (upReg n 0)) (nu.contains n) (ups.contains n) with
    | some v => (s.rput (upReg n 0) v).setUpf n {}
    | none => s)
  s3.each (List.range 128) (fun s n => match ferryCfg (s.rget (dnReg n 0)) (nd.contains n) (dns.contains n) with
    | some v => (s.rput (dnReg n 0) v).setDnf n {}
    | none => s)

/-- R354, R351: the content of a cluster's frame written to physical cluster g. -/
def State.putCluster (s : State) (g : Nat) (a : Word) (p : List Byte) : State :=
  if faKind a = 0 then s.putLogic g (faIndex a) p else s.bmFrame g (faIndex a) p

/-- R351 to R358: the effect of a frame written. -/
def State.putFrame (s : State) (a : Word) (p : List Byte) : State :=
  let r := faRegion a
  let i := faIndex a
  match faKind a with
  | 0 => (s.each (s.targets r (faClus a)) (fun s g => s.putCluster g a p)).stash 0 (r * 17 + faClus a) i p
  | 1 => (s.each (s.targets r (faClus a)) (fun s g => s.putCluster g a p)).stash 1 (r * 17 + faClus a) i p
  | 2 => ((if i = 0 then s.putBen r p else s).latch 2 r i p).stash 2 r i p
  | 3 => ((s.putPins r p).latch 3 r 0 p).stash 3 r 0 p
  | 4 => ((s.putControl r p).latch 4 r 0 p).stash 4 r 0 p
  | 8 => (s.putIoBank i p).latch 8 0 i p
  | 9 => s.latch 9 (fld a 26 2) i p
  | 10 => s.putStreams i p
  | _ => s

/-- R329, R362: a cluster slice on a physical cluster that failed, to confirm the fault. -/
def State.confirmSlice (s : State) (g : Nat) : State :=
  if s.rb ⟨.asy, 0, 8⟩ 30 then s
  else { s with slices := s.slices ++ [{ kind := 0, index := g, confirm := some (g / 17) }] }

/-- R366: region r has no cluster left for the load: it is unloaded, and its frames are passed over. -/
def State.noneLeft (s : State) (l : Load) (r : Nat) : State × Load :=
  (s.unloadRegion r, { l with noSpare := r :: l.noSpare, started := l.started.filter (· != r), redo := [] })

/-- R362, R366: a lasting verify failure in a cluster's frame: the logical cluster goes to the region's free spare, where its frames so far are
written again, or the region has none left. -/
def State.verifySwap (s : State) (l : Load) (a : Word) (memberB : Bool) : State × Load :=
  let r := faRegion a
  let lc := faClus a + b2n (memberB && s.paired r)
  let old := s.physOf r lc
  let new := s.sparePhy r
  if s.spareSt r = 0 then
    let s1 := (((s.setMap r lc new).setSpares r 2 new).rsetf (tnkHealth r) 5 5 old).light (r * 17 + new)
    let s2 := ((s1.clearLatches (r * 17 + old)).confirmSlice (r * 17 + old)).setHealth r 1
    let again := (List.range (l.next + 1)).filter (fun i =>
      let x := frameAddr l.image i
      decide (faKind x ≤ 1 ∧ faRegion x = r ∧ faClus x = faClus a))
    (s2, { l with redo := again.map (fun i => (i, r * 17 + new)) })
  else s.noneLeft l r

/-- R362, R365 step 6: the load goes on to its next frame, or has written all. -/
def State.frameNext (s : State) (l : Load) : State :=
  if l.redo.isEmpty && decide (imgFrames l.image ≤ l.next) then s.framesDone l else { s with load := some l }

/-- R362: one of the frames of a cluster moved to the spare, written again there; a lasting failure leaves its region none. -/
def State.frameAgain (s : State) (l : Load) (i g : Nat) (v : Verify) : State :=
  let a := frameAddr l.image i
  let s1 := s.putCluster g a (framePay l.image i)
  match v with
  | .good => s1.frameNext l
  | .transient => (s1.count (cmpReg 0x24) 16 8 1).frameNext l
  | .lasting _ =>
    let (s2, l2) := (s1.count (cmpReg 0x24) 24 8 1).noneLeft l (faRegion a)
    s2.frameNext l2

/-- R31, R33, R360: a frame that check 6 turns away ends the load; one outside a partial image's window is a violation too. -/
def State.frameRefused (s : State) (l : Load) (code : Nat) (a : Word) : State :=
  (if code = 0x20 then s.viol .cmp 0 else s).loadEnd l code a

/-- R360, R362, R365 step 5, R372 step 4: the next frame of the image checked, written and verified. -/
def State.frameStep (s : State) (l : Load) (v : Verify) : State :=
  let a := frameAddr l.image l.next
  let r := faRegion a
  let up : Load := { l with next := l.next + 1 }
  if faInRegion a && l.noSpare.contains r then s.frameNext up
  else match frameCheck l l.next with
    | some c => s.frameRefused l c a
    | none =>
      let first := faInRegion a && !l.started.contains r
      let l1 := if first then { l with started := l.started ++ [r] } else l
      let s1 := (if first then s.clearRegion r (imgEnc l.image) else s).putFrame a (framePay l.image l.next)
      let s2 := s1.rsetf (cmpReg 0xC) 0 16 (s1.rf (cmpReg 0xC) 0 16 + 1)
      match v with
      | .good => s2.frameNext { l1 with next := l.next + 1 }
      | .transient => (s2.count (cmpReg 0x24) 16 8 1).frameNext { l1 with next := l.next + 1 }
      | .lasting b =>
        let s3 := s2.count (cmpReg 0x24) 24 8 1
        if faKind a ≤ 1 then (let (s4, l2) := s3.verifySwap l1 a b; s4.frameNext { l2 with next := l.next + 1 })
        else (s3.rput (cmpReg 0xC) (s.rget (cmpReg 0xC))).loadEnd l1 0x23 a

/-- FRAME_WRITE (R360 checks 6 and 7, R362, R365 step 5, R372 step 4): a frame to be written again on a spare comes first. -/
def State.frameWrite (s : State) (v : Verify) : State :=
  match s.load with
  | none => s
  | some l =>
    if l.phase ≠ 3 ∨ !s.dramLit then s
    else match l.redo with
      | (i, g) :: t => s.frameAgain { l with redo := t } i g v
      | [] => s.frameStep l v

/-- R365 step 6: no memory of the loaded regions still initialises, and no bank of theirs still clears. -/
def State.initDone (s : State) (l : Load) : Bool :=
  l.live.all (fun r =>
    (List.range 16).all (fun lc => !(s.bmem (2 * s.gOf r lc)).busy && !(s.bmem (2 * s.gOf r lc + 1)).busy) &&
    (List.range 4).all (fun b => !(s.bank (r * 4 + b)).clearing))

/-- MEMORY_INIT_COMPLETE (R365 steps 6 and 7). -/
def State.memoryInit (s : State) : State :=
  match s.load with
  | none => s
  | some l =>
    if l.phase = 4 ∧ s.initDone l then
      let s1 := s.matchChannels l
      let s2 := s1.each l.live (fun s r => s.setRegion r { s.region r with loaded := true })
      ({ s2 with load := some { l with phase := 5, steps := startupCodes (imgStartup l.image) } }).setPhase 5
    else s

/-! Start-up (R367 to R369). -/

/-- R368 WAIT: every line LOCKWAIT names shows LOCK in the spine frames of the load's regions. -/
def State.linesLocked (s : State) (l : Load) : Bool :=
  (List.range 8).all (fun n => !(imgLockwait l.image / 2 ^ 24).testBit n ||
    l.live.all (fun r => (nth {} (s.spineOf r).lines n).lock))

/-- R222, R244, R245, R263, R264, R368 OUTPUTS: pin cell p takes its pad, or its serial group or the probe that names a spare pin does; with
PARKINV = 1 a pin whose line is invalid parks at once. -/
def State.releasePin (s : State) (p : Nat) : State :=
  let s0 := s.padTo p (match s.probeOn p with
    | some k => .probe k
    | none => if s.inGroup p then .group else .cell)
  let init : Drive := if s0.rb (pinReg p 0) 23 then .high else .low
  if s0.fparked p then s0.parkPin p
  else match s0.pinFunc p with
    | 1 => (s0.driveSoon p init false false).invalidPin p
    | 3 => (s0.driveSoon p init false false).invalidPin p
    | 2 => (s0.driveSoon p .float false false).invalidPin p
    | 4 => (s0.driveSoon p (if (s0.pin p).flow then .high else .low) false false).invalidPin p
    | _ => s0.parkPin p

/-- R263, R265: the probes that name a pin which a load gives a function are detached; the load wins. -/
def State.dropProbe (s : State) (p : Nat) : State :=
  if s.sparePin p then s
  else s.each ((List.range 16).filter (fun k => s.rb (probeSel k) 31 && !s.rb (probePin k) 31 && decide (s.rf (probePin k) 16 10 = p)))
    (fun s k => s.rsetb (probeSel k) 31 false)

/-- R368: one start-up step in region r. -/
def State.startStep (s : State) (code r : Nat) : State :=
  match code with
  | 1 =>
    let s1 := s.setRegion r { s.region r with out := true }
    let s2 := s1.each (List.range 8) (fun s h => s.flowOut (r * 8 + h))
    let s3 := s2.each (List.range 24) (fun s p => (s.dropProbe (r * 24 + p)).releasePin (r * 24 + p))
    s3.each ((List.range 48).filter (fun n => decide (groupRegion n = r))) State.groupStop
  | 2 => (s.applyReset r).setRegion r { s.region r with reset := false, held := false }
  | 3 => s.setRegion r { s.region r with writes := true }
  | _ => s

/-- R368: the start-up codes in order, up to a WAIT that does not complete. -/
def State.runSteps (s : State) (l : Load) : List Nat → State × List Nat
  | [] => (s, [])
  | c :: t =>
    if c = 0 ∧ !s.linesLocked l then (s, c :: t)
    else (s.each l.live (fun s r => s.startStep c r)).runSteps l t

/-- START_UP_SEQUENCE, STARTUP_WAIT_LOCK (R368, R365 steps 8 and 9). -/
def State.startUp (s : State) : State :=
  match s.load with
  | none => s
  | some l =>
    if l.phase ≠ 5 then s
    else
      let (s1, left) := s.runSteps l l.steps
      if left.isEmpty then s1.loadDone l else { s1 with load := some { l with steps := left } }

/-- STARTUP_TIMEOUT (R369). -/
def State.startTimeout (s : State) : State :=
  match s.load with
  | none => s
  | some l =>
    if l.phase = 5 ∧ l.steps.head? = some 0 ∧ !s.linesLocked l ∧ imgLockwait l.image % 2 ^ 16 ≠ 0 then s.loadEnd l 0x30 0 else s

/-- R361, R374: the running load ends ABORTED. -/
def State.loadAbort (s : State) : State := match s.load with | some l => s.loadEnd l 2 0 | none => s

/-- R375: a write to CMP_CTL. -/
def State.cmpCtl (s : State) (v : Word) : State := if bit v 31 then s.loadAbort else s

end Sys2Proof.Machine
end

