-- ==== Sys2Proof/Machine/Tinker.lean ====
section
/-! DEFINITION. The Tinker and the Assayer (R317 to R344): configuration checks, compare stages and identification, bringing the spare in, unpaired swaps, the frame scrub, and slices. -/

namespace Sys2Proof.Machine

/-! Configuration checks (R317, R318, R335). -/

/-- Bit `i` of a frame's latches flipped. -/
def State.flipLatch (s : State) (kind elem index i : Nat) : State :=
  let k := cfgKey kind elem index (i / 8)
  { s with cfg := Store.put 0 s.cfg k (Store.get 0 s.cfg k ^^^ BitVec.ofNat 8 (2 ^ (i % 8))) }

/-- R335: the Compositor rewrites a frame of a region mesh or pin cell group from the staging copy, the driver enables with it. -/
def State.rewrite (s : State) (kind r index : Nat) : State :=
  let p := Store.getBytes s.gold (cfgKey kind r index 0) 512
  if (s.crcOf (cfgKey kind r index 0)).isNone then s
  else
    let s1 := s.latch kind r index p
    if kind = 2 ∧ index = 0 then s1.putBen r p else if kind = 3 then s1.putPins r p else s1

/-- CONFIG_CHECK_ERROR (R317, R318, R335): a check group reports a flip; `again` says that it still does after 10 ns: the latch has flipped,
which is a cluster fault, or a shared fault that the Tinker repairs in place. -/
def execConfigCheckError (w : CfgPlace) (again : Bool) (s : State) : Out :=
  match w with
  | .cluster g i b =>
    ok (if again then (s.flipLatch 0 g.val i.val b.val).clusterFault g.val 4 (if i.val < 16 then 4 * i.val + b.val / 1024 else 0)
        else s.transient (g.val / 17))
  | .mesh r i b =>
    ok (if again then ((s.flipLatch 2 r.val i.val b.val).sharedFault r.val 4).rewrite 2 r.val i.val else s.transient r.val)
  | .pin r b =>
    ok (if again then ((s.flipLatch 3 r.val 0 b.val).sharedFault r.val 4).rewrite 3 r.val 0 else s.transient r.val)

/-! Paired mode (R320 to R327). -/

/-- The physical cluster of member m (0 A, 1 B) of pair j of region r. -/
def State.memberOf (s : State) (r j m : Nat) : Nat := s.gOf r (2 * j + m)

/-- R321: the token of member m at compare sink k of pair j goes on, and the members that sent it are acknowledged. -/
def State.comparePass (s : State) (r j k : Nat) (from_ : List Nat) (m : Nat) (t : Tok) : State :=
  match s.deliverOut (s.memberOf r j m) k t with
  | some s1 => s1.each from_ (fun s m =>
      let g := s.memberOf r j m
      (s.setTwin (gsink g k) none).takeFrom g k)
  | none => s

/-- COMPARE_STAGE (R321, R322, R324): twin tokens meet at compare sink 264 + k of a pair, their senders holding them. Equal ones go on as one;
`glitch` says that only the first samples differed, `late` that the later twin came in the second SKEWTMO wait: both are transient. Where the
samples differ, what the senders hold is sampled again; a difference that stays is a lasting mismatch. A pair that runs single passes on
what the trusted member has there. -/
def execCompareStage (r : Fin 32) (j : Fin 8) (k : Fin 41) (glitch late : Bool) (s : State) : Out :=
  let r := r.val
  let j := j.val
  let p := s.pair (r * 8 + j)
  let key := 264 + k.val
  let g (m : Nat) : Nat := s.memberOf r j m
  if !s.paired r then ok s
  else match p.trusted with
    | some m =>
      (match s.twin (gsink (g m) key) with
        | some t => ok (s.comparePass r j key [m] m t)
        | none => ok s)
    | none =>
      if p.mism.isSome then ok s
      else match s.twin (gsink (g 0) key), s.twin (gsink (g 1) key) with
        | some a, some b =>
          if a = b then ok ((if glitch || late then s.transient r else s).comparePass r j key [0, 1] 0 a)
          else (match s.offered (g 0) key, s.offered (g 1) key with
            | some a2, some b2 =>
              if a2 = b2 then ok ((s.transient r).comparePass r j key [0, 1] 0 a2)
              else ok (s.setPair (r * 8 + j) { p with mism := some key, offered := none })
            | _, _ => ok (s.setPair (r * 8 + j) { p with mism := some key, offered := none }))
        | _, _ => ok s

/-- MISSING_TWIN (R322): one twin waits, and the other has not come after two waits of SKEWTMO. -/
def execMissingTwin (r : Fin 32) (j : Fin 8) (k : Fin 41) (s : State) : Out :=
  let r := r.val
  let p := s.pair (r * 8 + j.val)
  let at_ (m : Nat) : Bool := (s.twin (gsink (s.memberOf r j.val m) (264 + k.val))).isSome
  if s.paired r && !(s.region r).frozen && p.trusted.isNone && p.mism.isNone && at_ 0 != at_ 1 then
    ok (s.setPair (r * 8 + j.val) { p with mism := some (264 + k.val), offered := some (if at_ 0 then 0 else 1) })
  else ok s

/-- Both members of pair j held or let go. -/
def State.holdPair (s : State) (r j : Nat) (h : Bool) : State :=
  s.each [s.memberOf r j 0, s.memberOf r j 1] (fun s g => s.setClu g { s.clu g with hold := h })

/-- R333: a mismatch in a region that is not Celadon, or whose spare is not free, is a second cluster fault. -/
def State.mismatchAsh (s : State) (r src phys : Nat) : State := (s.lasting r src phys 0 2).enterAsh r

/-- EVIDENCE_WINDOW_EXPIRY (R323, R325): 80 ns after a lasting mismatch no member has reported a fault: of a missing twin, the member that
offered a token is trusted; else the spare votes. -/
def execEvidenceWindowExpiry (r : Fin 32) (j : Fin 8) (s : State) : Out :=
  let r := r.val
  let j := j.val
  let p := s.pair (r * 8 + j)
  let first := decide (s.health r = 0 ∧ s.spareSt r = 0)
  if p.mism.isNone || p.vote || decide (s.health r = 2) then ok s
  else
    let src := b2n p.offered.isSome
    match p.offered with
    | some m =>
      ok (if first then s.retire true r j (1 - m) src 0 else s.mismatchAsh r src (s.memberOf r j (1 - m) % 17))
    | none =>
      if !first then ok ((s.bumpFree).mismatchAsh r src (fld s.freeNow 0 5))
      else
        let s1 := ((s.setPair (r * 8 + j) { p with vote := true }).holdPair r j true).setSpare r 3
        let s2 := (s1.rsetf (tnkHealth r) 24 3 j).count (tnkErr r) 4 4 1
        ok ({ s2 with spareQ := s2.spareQ ++ [r] }.light (r * 17 + s2.sparePhy r))

/-- R325: the configurations of two physical clusters agree, frame by frame. -/
def State.sameFrames (s : State) (g g' : Nat) : Bool :=
  (List.range 18).all (fun i => s.cfgBytes 0 g i 0 512 == s.cfgBytes 0 g' i 0 512)

/-- R325: the vote: the one member that differs from the spare is retired, or the region enters Ash with UNDEC set. -/
def State.voteDone (s : State) (r j : Nat) : State :=
  let sp := r * 17 + s.sparePhy r
  let a := s.sameFrames (s.memberOf r j 0) sp
  let b := s.sameFrames (s.memberOf r j 1) sp
  if a = b then
    (((s.bumpFree).lasting r 0 (fld s.freeNow 0 5) 0 2).sticky (tnkHealth r) 23).enterAsh r
  else (s.setPair (r * 8 + j) { s.pair (r * 8 + j) with frames := true }).retire true r j (if a then 1 else 0) 0 0

/-- SPARE_FRAMES_WRITTEN (R325, R327 event 2): the frame engine has written the pair's frames into the spare of the region whose turn it is. A
slice on the spare is over before it (R339). -/
def execSpareFramesWritten (r : Fin 32) (s : State) : Out :=
  let r := r.val
  let sp := r * 17 + s.sparePhy r
  let j := s.rf (tnkHealth r) 24 3
  let p := s.pair (r * 8 + j)
  if s.spareQ.head? ≠ some r || !s.dramLit || s.slices.any (fun x => x.kind == 0 && x.index == sp) then ok s
  else if s.spareSt r = 3 ∧ p.vote then
    ok ({ s with spareQ := s.spareQ.drop 1 }.restoreLatches r (2 * j) sp |>.voteDone r j)
  else if s.spareSt r = 1 ∧ p.trusted.isSome ∧ !p.frames then
    let s1 := ({ s with spareQ := s.spareQ.drop 1 }.light sp).restoreLatches r (2 * j) sp
    ok (s1.setPair (r * 8 + j) { p with frames := true })
  else ok s

/-- The entries of a store in n keys from `lo` copied to n keys from `dest`, in place of what was there. -/
def Store.dup {α : Type} [DecidableEq α] (d : α) (m : Store α) (lo n dest : Nat) : Store α :=
  (m.filter (fun e => decide (lo ≤ e.1) && decide (e.1 < lo + n))).foldl (fun x e => Store.put d x (e.1 - lo + dest) e.2) (m.without dest n)

/-- R327 event 3: both block memories of physical cluster g copied to cluster t. -/
def State.copyMems (s : State) (g t : Nat) : State :=
  let s1 := s.each [0, 1] (fun s m => s.setBmem (2 * t + m) { s.bmem (2 * g + m) with busy := false })
  { s1 with bbytes := Store.dup none s1.bbytes (2 * g * 16384) 32768 (2 * t * 16384) }

/-- The sinks of cluster g in a list of sinks, as the same sinks of cluster t. -/
def sinksFor (g t : Nat) (l : List Nat) : List Nat := (l.filter (fun n => n / 305 == g)).map (fun n => gsink t (n % 305))

/-- R327 event 4: the cell state, output stages, carry links and port inputs of cluster g copied to cluster t, and what its sinks have taken
of tokens that both are to take. -/
def State.copyCells (s : State) (g t : Nat) : State :=
  let s1 := { s with cells := Store.dup {} s.cells (64 * g) 64 (64 * t), bports := Store.dup {} s.bports (4 * g) 4 (4 * t),
                     twins := (s.twins.withoutBlock 305 g).withoutBlock 305 t }
  let both (l : List Nat) : List Nat := l.filter (fun n => n / 305 != t) ++ sinksFor g t l
  let st (o : OStage) : OStage := { o with taken := sinksFor g t o.taken }
  let s2 := s1.each (List.range 64) (fun s n =>
    let c := s.cell (64 * t + n)
    s.setCell (64 * t + n) { c with ox := st c.ox, oy := st c.oy })
  let s3 := s2.each (List.range 4) (fun s p => let b := s.bport (4 * t + p); s.setBport (4 * t + p) { b with taken := sinksFor g t b.taken })
  { s3 with
    chans := Store.mapVals {} (fun _ c => { c with taken := both c.taken }) s3.chans,
    blines := Store.mapVals {} (fun _ b => { b with wait := both b.wait }) s3.blines,
    aports := Store.mapVals {} (fun _ a => { a with rep := { a.rep with taken := both a.rep.taken } }) s3.aports }

/-- The pair under recovery in a region, with its trusted and its retired physical cluster. -/
def State.recovering (s : State) (r : Nat) : Option (Nat × Nat × Nat) :=
  let j := s.rf (tnkHealth r) 24 3
  match (s.pair (r * 8 + j)).trusted with
  | some m => if s.health r ≠ 2 ∧ s.spareSt r = 1 ∧ (s.pair (r * 8 + j)).frames then some (j, s.memberOf r j m, s.memberOf r j (1 - m)) else none
  | none => none

/-- MEMORY_COPY_COMPLETE (R327 event 3). -/
def execMemoryCopyComplete (r : Fin 32) (s : State) : Out :=
  match s.recovering r.val with
  | none => ok s
  | some (j, g, _) =>
    let k := r.val * 8 + j
    ok ((s.copyMems g (r.val * 17 + s.sparePhy r.val)).setPair k { s.pair k with copied := true })

/-- SYNCHRONISATION_HOLD (R327 events 4 and 5, R329, R341): the trusted member's state is copied, its writes to the memories since the copy
with it, the spare takes the retired number, SPARE is INUSE, and the retired cluster is tested. A token that waits at a compare stage of the
trusted member goes on before the hold. -/
def syncHold (r : Fin 32) (s : State) : Out :=
  let r := r.val
  match s.recovering r with
  | none => ok s
  | some (j, g, old) =>
    let p := s.pair (r * 8 + j)
    let sp := s.sparePhy r
    if !p.copied || (List.range 41).any (fun k => (s.twin (gsink g (264 + k))).isSome) then ok s
    else
      let lc := (s.logicalOf old).getD 0
      let s1 := ((s.copyMems g (r * 17 + sp)).copyCells g (r * 17 + sp)).setClu (r * 17 + sp) {}
      let s2 := ((s1.setMap r lc sp).setPair (r * 8 + j) {}).setSpare r 2
      ok (((s2.relay r).confirmSlice old).domReleaseAll r)

/-! Unpaired regions (R330). -/

/-- UNPAIRED_SWAP (R193, R330): the held cluster's number goes to the spare, with its frames, memories and cell state. -/
def unpairedSwap (r : Fin 32) (s : State) : Out :=
  let r := r.val
  match s.swapOf r with
  | none => ok s
  | some c =>
    let g := r * 17 + c
    let sp := s.sparePhy r
    match s.logicalOf g with
    | none => ok s
    | some lc =>
      if s.spareQ.head? ≠ some r || !s.dramLit || s.slices.any (fun x => x.kind == 0 && x.index == r * 17 + sp) then ok s
      else
        let s1 := ({ s with spareQ := s.spareQ.drop 1 }.light (r * 17 + sp)).restoreLatches r lc (r * 17 + sp)
        let s2 := ((s1.copyMems g (r * 17 + sp)).copyCells g (r * 17 + sp)).setClu (r * 17 + sp) {}
        let s3 := (((s2.breakLocks (portOfCluster r lc)).setMap r lc sp).relay r).setSwap r none
        ok (((s3.setSpare r 2).confirmSlice g).domReleaseAll r)

/-- TNK_ASH (R331, R332, R341, R342): a write of 1 to TNK_CTL.ASH. -/
def execTnkAsh (iss : Issuer) (r : Fin 32) (s : State) : Out :=
  ok (s.guarded iss .tnk r.val (fun s => s.enterAsh r.val))

/-! The frame scrub (R334). -/

/-- The frames of region r whose CRC-32 is kept, with the latches each is held in: kind, staging element, index, latch element. -/
def State.scrubFrames (s : State) (r : Nat) : List (Nat × Nat × Nat × Nat) :=
  (List.range 16).flatMap (fun lc =>
    let e := s.goldElem r lc
    let g := s.gOf r lc
    if s.cluLit g && !s.retired g && !(s.clu g).hold then (List.range 18).map (fun i => (0, e, i, g)) else []) ++
  (List.range 8).map (fun i => (2, r, i, r)) ++ [(3, r, 0, r), (4, r, 0, r)]

/-- R334: one frame read back; a mismatch stands when it is read again. -/
def State.scrubOne (s : State) (r : Nat) (f : Nat × Nat × Nat × Nat) : State :=
  let (kind, e, i, x) := f
  match s.crcOf (cfgKey kind e i 0) with
  | none => s
  | some c =>
    if crc32 (s.cfgBytes kind x i 0 512) = c then s
    else if kind = 0 then s.clusterFault x 5 0
    else (s.sharedFault r 5).rewrite kind r i

/-- FRAME_SCRUB (R334, R335): one pass over region r; `glitch` is a read that fails once and passes again. Data frames of block memories are
memory contents and are not scrubbed. -/
def execFrameScrub (r : Fin 32) (glitch : Bool) (s : State) : Out :=
  let r := r.val
  if !s.rb ⟨.tnk, r, 8⟩ 30 then ok s
  else
    let s1 := if glitch then s.transient r else s
    let s2 := if (s.region r).loaded && !s.underLoad r then s1.each (s1.scrubFrames r) (fun s f => s.scrubOne r f) else s1
    ok (s2.rsetf ⟨.tnk, r, 0x14⟩ 0 16 (s2.rf ⟨.tnk, r, 0x14⟩ 0 16 + 1))

/-! The Assayer (R336 to R340, R344). -/

/-- The Assayer's registers. -/
def asyReg (off : Nat) : Reg := ⟨.asy, 0, off⟩

/-- R336: how many elements a kind has. -/
def sliceCount (kind : Nat) : Nat := match kind with | 0 => 544 | 1 => 128 | 2 => 128 | 3 => 32 | 4 => 24 | _ => 0

/-- The register and bit of an element's FAILED mark. -/
def failBit (kind index : Nat) : Reg × Nat :=
  match kind with
  | 0 => (asyReg (0x100 + 4 * (index / 32)), index % 32)
  | 1 => (asyReg (0x180 + 4 * (index / 32)), index % 32)
  | 2 => (asyReg (0x180 + 4 * (index / 32)), index % 32)
  | 3 => (asyReg 0x190, index)
  | _ => (asyReg 0x194, index)

/-- R336: a slice of this kind may run on this element. -/
def State.sliceEligible (s : State) (kind index : Nat) : Bool :=
  decide (index < sliceCount kind) && (match kind with
    | 0 => s.cluLit index && !s.underLoad (index / 17) && !((s.region (index / 17)).loaded && (s.logicalOf index).isSome)
    | 1 => decide (s.rf (sb index 0) 29 3 = 0)
    | 2 => true
    | 3 => decide (s.lstate index = 0) && decide (s.dom (696 + index) = 0)
    | _ => !s.bankReleased index && (List.range 32).all (fun i => match (s.padOf (32 * index + i)).owner with | .probe _ => false | _ => true))

/-- R337: NOREF keeps slices of kinds 0, 1, 3 and 4 from running. -/
def State.sliceRuns (s : State) (kind : Nat) : Bool := kind == 2 || !s.rb (asyReg 8) 30

/-- R336: a run of a slice on a scratch bank begins at its first word. -/
def State.testBegin (s : State) (kind index : Nat) : State :=
  if kind = 1 ∨ kind = 2 then s.setBank index { s.bank index with testPos := 0, testBad := 0 } else s

/-- A slice taken on; a bank or I/O bank is lit for it (R443). -/
def State.sliceStart (s : State) (x : Slice) : State :=
  let s1 := match x.kind with
    | 1 => s.light (bankDom x.index)
    | 2 => s
    | 4 => s.light (672 + x.index)
    | _ => s
  { s1 with slices := s1.slices ++ [x], sliceEnded := if x.background then s1.sliceEnded else false }.testBegin x.kind x.index

/-- R336, R337, R344: a slice is asked for; an element that is not eligible is counted. -/
def State.sliceAsk (s : State) (kind index : Nat) : State :=
  if !s.sliceEligible kind index then s.viol .asy 0
  else if !s.sliceRuns kind then s
  else s.sliceStart { kind := kind, index := index }

/-- SLICE_REQUEST (R336, R344): a write to ASY_REQ with GO = 1. -/
def execSliceRequest (iss : Issuer) (kind : Fin 8) (index : Fin 1024) (s : State) : Out :=
  ok (s.guarded iss .asy 0 (fun s => (s.rput (asyReg 4) (put 28 kind.val + put 0 index.val)).sliceAsk kind.val index.val))

/-- R339: what a slice leaves of its element. -/
def State.sliceLeaves (s : State) (kind index : Nat) : State :=
  match kind with
  | 0 =>
    let s1 := ((s.clearLatches index).emptyCluster index).powerUp
    { s1.each [2 * index, 2 * index + 1] (fun s b => s.setBmem b { base := s.epoch, cold := true }) with
      bbytes := Store.without s1.bbytes (2 * index * 16384) 32768 }
  | 1 => s.zeroBank index
  | 2 => s
  | 3 => s
  | _ => s.each (List.range 32) (fun s i => s.padTo (32 * index + i) .park)

/-- R437: a record written to flash with its CRC-32. -/
def State.putRecord (s : State) (id : Nat) (b : List Byte) : State :=
  let c := (crc32 b).toNat
  { s with flash := Store.putBytes s.flash (recordBase id) (b ++ (List.range 4).map (fun i => BitVec.ofNat 8 (c / 256 ^ i))) }.flashOn

/-- R437: a slice kind's bit in the fault record, which lists FAILC, FAILS, FAILL and FAILB in order. -/
def faultBit (kind index : Nat) : Nat := match kind with | 0 => index | 1 => 544 + index | 2 => 544 + index | 3 => 672 + index | _ => 704 + index

/-- R338: Ixzento sets or clears an element's mark in the fault record. -/
def State.faultMark (s : State) (kind index : Nat) (set : Bool) : State :=
  let old := (s.record 3).getD (List.replicate 92 0#8)
  let n := faultBit kind index
  let b := nth 0#8 old (n / 8)
  let m := BitVec.ofNat 8 (2 ^ (n % 8))
  s.putRecord 3 (old.set (n / 8) (if set then b ||| m else b &&& ~~~m))

/-- R331, R338: what an element marked FAILED brings with it, its Tinker told. -/
def State.markFailed (s : State) (kind index : Nat) : State :=
  let (g, i) := failBit kind index
  let s1 := (s.sticky g i).faultMark kind index true
  match kind with
  | 0 =>
    let r := index / 17
    let s2 := s1.lasting r 11 (index % 17) 0 3
    if s2.sparePhy r = index % 17 ∧ s2.spareSt r = 0 then
      (if s2.health r = 0 then (s2.setSpare r 4).setHealth r 1 else s2.setSpare r 4)
    else s2
  | 1 => (s1.sharedFault (index / 4) 11).domApply (bankDom index) 2
  | 2 => (s1.sharedFault (index / 4) 11).domApply (bankDom index) 2
  | 3 => s1
  | _ => s1.domApply (672 + index) 2

/-- R329: the confirmation slice of a retired cluster passed: it is the spare again. -/
def State.spareBack (s : State) (g : Nat) : State :=
  let r := g / 17
  let s1 := s.setClu g {}
  if s1.spareSt r = 2 ∧ s1.health r = 1 then (s1.setSpares r 0 (g % 17)).setHealth r 0 else s1

/-- A slice ends with a result (0 pass, 1 transient, 2 lasting, 3 abandoned) and a signature (R344). -/
def State.sliceOver (s : State) (x : Slice) (res : Nat) (sig : Word) : State :=
  let s1 := { s with slices := s.slices.filter (· != x), asyNews := true, sliceEnded := s.sliceEnded || (!x.background && x.confirm.isNone) }
  (s1.rput (asyReg 0xC) (put 30 res + put 27 x.kind + put 0 x.index)).rput (asyReg 0x10) (sig.setWidth 64)

/-- R337, R338: a run of slice x ended, and passed or failed: a first failure runs again. -/
def State.sliceRun (s : State) (x : Slice) (pass : Bool) (sig : Word) : State :=
  if !pass && !x.again then { s with slices := s.slices.map (fun y => if y = x then { x with again := true } else y) }.testBegin x.kind x.index
  else
    let s1 := (s.sliceLeaves x.kind x.index).sliceOver x (if !pass then 2 else b2n x.again) sig
    if pass then
      let s2 := if x.again then s1.count (asyReg 0x14) 0 16 1 else s1
      if x.confirm.isSome then s2.spareBack x.index else s2
    else (s1.count (asyReg 0x14) 16 16 1).markFailed x.kind x.index

/-- R337: the signature of a run of kind 2 is the count of nonzero syndromes it met, with reference 0. -/
def State.sliceSig (s : State) (kind index : Nat) (sig : Word) : Word :=
  if kind = 2 then BitVec.ofNat 32 (s.bank index).testBad else sig

/-- R336: a run on a scratch bank has still words to visit. -/
def State.testLeft (s : State) (kind index : Nat) : Bool :=
  decide (kind = 1 ∨ kind = 2) && decide ((s.bank index).testPos < 131072)

/-- A run of slice `kind` on element `index` ended with a signature; past its budget it fails. A kind 1 slice whose bank has taken an owner runs
no longer (R336): it ends abandoned (log entry 164). -/
def State.sliceEnd (s : State) (kind index : Nat) (sig : Word) (late : Bool) : State :=
  match s.runningOn kind index with
  | none => s
  | some x =>
    let s1 := if kind = 1 ∨ kind = 2 then s.maintOver index else s
    if kind = 1 ∧ s.rf (sb index 0) 29 3 ≠ 0 then (s1.sliceOver x 3 (s.freeNow.setWidth 32)).bumpFree
    else if !late && s1.testLeft kind index then s1
    else
      let sg := s1.sliceSig kind index sig
      s1.sliceRun x (!late && sg == (if kind = 2 then 0 else Config.sliceRef kind)) sg

/-- R339: a background slice on a spare that a swap needs is abandoned. -/
def State.sliceDrop (s : State) (g : Nat) : State :=
  match s.runningOn 0 g with
  | none => s
  | some x =>
    let r := g / 17
    if x.background && s.sparePhy r == g % 17 && ((s.swapOf r).isSome || s.spareSt r == 1 || s.spareSt r == 3) then
      ((s.sliceLeaves 0 g).sliceOver x 3 (s.freeNow.setWidth 32)).bumpFree
    else s

/-- SLICE_ABANDON (R339). -/
def execSliceAbandon (g : Fin 544) (s : State) : Out := ok (s.sliceDrop g.val)

/-- R340: the elements of the background sweep in index order, kind by kind. -/
def sweepList : List (Nat × Nat) := (List.range 5).flatMap (fun k => (List.range (sliceCount k)).map (fun i => (k, i)))

/-- R340: the spare that a recovery or a vote is filling is in use. -/
def State.spareBusy (s : State) (e : Nat × Nat) : Bool :=
  let r := e.2 / 17
  e.1 == 0 && s.sparePhy r == e.2 % 17 && (s.spareSt r == 1 || s.spareSt r == 3)

/-- R340: the element may take a background slice: eligible, not marked, not in use, and none there already. -/
def State.sweepable (s : State) (e : Nat × Nat) : Bool :=
  s.sliceEligible e.1 e.2 && s.sliceRuns e.1 && !s.spareBusy e && !s.rb (failBit e.1 e.2).1 (failBit e.1 e.2).2 &&
    !s.slices.any (fun x => x.kind == e.1 && x.index == e.2) &&
    (match sliceRegion e.1 e.2 with | some r => !s.slices.any (fun x => sliceRegion x.kind x.index == some r) | none => true)

/-- BACKGROUND_SLICE (R340): with BGEN = 1, a slice starts on the next eligible element. -/
def execBackgroundSlice (s : State) : Out :=
  if !s.rb (asyReg 0) 30 || decide (16 ≤ s.running.length) then ok s
  else
    let n := sweepList.length
    match ((List.range n).map (fun i => (s.sweep + i) % n)).find? (fun i => s.sweepable (nth (0, 0) sweepList i)) with
    | none => ok s
    | some i =>
      let e := nth (0, 0) sweepList i
      ok ({ s with sweep := (i + 1) % n }.sliceStart { kind := e.1, index := e.2, background := true })

/-- R340: the power-up sweep over every element not marked, of kinds 0, 1, 3 and 4; the elements in `fails` fail both runs, those in `once`
the first. -/
def State.powerUpSweep (s : State) (fails once : List (Nat × Nat)) : State :=
  let s1 := s.each ((sweepList.filter (fun e => e.1 != 2))) (fun s e =>
    if s.rb (failBit e.1 e.2).1 (failBit e.1 e.2).2 || !s.sliceRuns e.1 then s
    else
      let x : Slice := { kind := e.1, index := e.2, again := true, background := true }
      if fails.contains e then (s.sliceRun x false (s.freeNow.setWidth 32)).bumpFree
      else s.sliceRun { x with again := once.contains e } true (Config.sliceRef e.1))
  s1.rsetb (asyReg 8) 31 true

end Sys2Proof.Machine
end

