-- ==== Sys2Proof/Machine/Locksmith.lean ====
section
/-! DEFINITION. The Locksmith and the Notary (R376 to R391): key commands, tamper erase, and attestation reports. -/

namespace Sys2Proof.Machine

/-- The registers of the Locksmith and of the Notary. -/
def lsmReg (off : Nat) : Reg := ⟨.lsm, 0, off⟩
def ntyReg (off : Nat) : Reg := ⟨.nty, 0, off⟩

/-- R377, R391: writes to the key registers come from the management complex only. -/
def complexIssuer : Issuer → Bool
  | .core _ => true
  | .ixz => true
  | .debug => false
  | .port _ _ _ => false
  | .remote _ _ _ => false

/-- R377: the value in LSM_KLOAD0..7, register n in bits [32n+31:32n]. -/
def State.kload (s : State) : BitVec 256 := BitVec.ofNat 256 ((List.range 8).foldl (fun a n => a + s.rf (lsmReg (0x20 + 4 * n)) 0 32 * 2 ^ (32 * n)) 0)

/-- R377: every command clears the LSM_KLOAD registers. -/
def State.clearKload (s : State) : State := s.each (List.range 8) (fun s n => s.rput (lsmReg (0x20 + 4 * n)) 0)

/-- R377: the slot is that of a load that is running. -/
def State.loadSlot (s : State) (i : Nat) : Bool :=
  match s.load with
  | some l => imgEnc l.image && decide (leAt l.image 0x24 1 = i)
  | none => false

/-- R377: whether key command `cmd` naming a slot is performed; while another is in progress none is. -/
def State.kcmdOk (s : State) (cmd i : Nat) : Bool :=
  s.kcmd.isNone && (match cmd with
    | 1 => !s.loadSlot i && (decide (4 ≤ i) || decide ((s.kslot i).st = 0))
    | 2 => !s.loadSlot i && decide (4 ≤ i)
    | 3 => !s.loadSlot i && decide (i < 4) && (decide ((s.kslot i).st = 1) || decide ((s.kslot i).st = 3))
    | 4 => !(s.oslot (i % 4)).prog
    | 5 => (s.oslot (i % 4)).prog && !(s.oslot (i % 4)).rev
    | _ => false)

/-- R377: a write of LSM_KCMD by the management complex: performed, or ignored and counted; an eFuse slot takes its programming time. -/
def State.kcmdDo (s : State) (cmd i : Nat) : State :=
  let k := s.kload
  let s1 := s.clearKload
  if !s.kcmdOk cmd i then s1.viol .lsm 0
  else match cmd with
    | 1 => if i < 4 then { s1 with kcmd := some ⟨1, i, k⟩ } else s1.setKslot i { st := 1, key := k }
    | 2 => s1.setKslot i {}
    | 3 => s1.setKslot i { st := 2 }
    | 4 => { s1 with kcmd := some ⟨4, i % 4, k⟩ }
    | _ => s1.setOslot (i % 4) { s1.oslot (i % 4) with rev := true }

/-- A write of LSM_KCMD (R377). -/
def State.kcmdBy (s : State) (iss : Issuer) (cmd i : Nat) : State :=
  if complexIssuer iss then s.kcmdDo cmd i else s.viol .lsm 0

/-- KCMD_WRITE (R377). -/
def execKcmdWrite (iss : Issuer) (slot : Fin 8) (s : State) : Out := ok (s.kcmdBy iss 1 slot.val)

/-- KCMD_ERASE (R376, R377). -/
def execKcmdErase (iss : Issuer) (slot : Fin 8) (s : State) : Out := ok (s.kcmdBy iss 2 slot.val)

/-- KCMD_REVOKE (R376, R377). -/
def execKcmdRevoke (iss : Issuer) (slot : Fin 8) (s : State) : Out := ok (s.kcmdBy iss 3 slot.val)

/-- KCMD_OWNER (R377, R385): the digest in LSM_KLOAD goes to owner slot SLOT[1:0]. -/
def execKcmdOwner (iss : Issuer) (slot : Fin 8) (s : State) : Out := ok (s.kcmdBy iss 4 slot.val)

/-- KCMD_REVOKE_OWNER (R377, R385). -/
def execKcmdRevokeOwner (iss : Issuer) (slot : Fin 8) (s : State) : Out := ok (s.kcmdBy iss 5 slot.val)

/-- KCMD_RESERVED (R377): the reserved CMD values, 0 and 6..15. -/
def execKcmdReserved (iss : Issuer) (k : Fin 11) (slot : Fin 8) (s : State) : Out :=
  ok (s.kcmdBy iss (if k.val = 0 then 0 else k.val + 5) slot.val)

/-- R376, R377, R385: the eFuse programme under way completes; a fuse that is blown stays blown. -/
def State.efuseDone (s : State) : State :=
  match s.kcmd with
  | none => s
  | some c =>
    let s1 := { s with kcmd := none }
    if c.cmd = 1 then (if (s.kslot c.slot).st = 2 then s1 else s1.setKslot c.slot { st := 1, key := c.data })
    else s1.setOslot c.slot { s.oslot c.slot with prog := true, digest := c.data }

/-- The battery-backed slots hold nothing any more (R379, R380). -/
def State.eraseSlots (s : State) : State := s.each [4, 5, 6, 7] (fun s i => s.setKslot i {})

/-- R380, R381, R374: the tamper erase. -/
def State.tamperErase (s : State) : State :=
  let s1 := s.eraseSlots.sticky (lsmReg 0) 31
  if s.vin then
    let s2 := match s1.load with
      | some l => if imgEnc l.image then s1.loadEnd l 0x14 0 else s1
      | none => s1
    if s.rb (lsmReg 4) 30 then
      s2.each ((List.range 32).filter (fun r => s.rb (cmpReg 0x14) r)) (fun s r => (s.dropGold r).enterAsh r)
    else s2
  else s1

/-! Attestation (R387, R388). -/

/-- A number as big-endian bytes. -/
def be (n x : Nat) : List Byte := beBytes n x

/-- R387: FLAGS of a report. -/
def State.reportFlags (s : State) : Nat :=
  b2n (s.rb (ntyReg 0) 31) + 2 * b2n s.lsmOpen + 4 * b2n (s.rb (lsmReg 0) 31) + 8 * b2n (s.rb (cmpReg 0) 30) +
    16 * b2n (s.rb (cmpReg 0) 28) + 32 * b2n (s.rb (cmpReg 0) 29) + 64 * b2n (s.rb (lsmReg 0) 30)

/-- CMP_LOADED (R375): the regions that run a design. -/
def State.loadedBits (s : State) : Nat := (List.range 32).foldl (fun a r => a + (if (s.region r).loaded then 2 ^ r else 0)) 0

/-- The digest a report carries: the given bytes, or zeros. -/
def digestOr (l : List Byte) : List Byte := if l.length = 32 then l else List.replicate 32 0

/-- R387: the 448 bytes of a report that are signed, as the flags and registers stand now; COUNTER is the given value. -/
def State.report (s : State) (nonce : List Byte) (counter : Nat) : List Byte :=
  let fw := s.fw.getD {}
  [0x58, 0x4E, 0x41, 0x54] ++ be 2 1 ++ be 2 0x0340 ++ (nonce ++ List.replicate 32 0#8).take 32 ++ be 8 Config.devid.toNat ++ be 2 s.ownPkg ++ be 1 0xA1 ++ be 1 0 ++
    be 4 fw.ver.toNat ++ be 4 s.fwsvn ++ be 4 s.reportFlags ++ be 8 counter ++ digestOr fw.hash ++ digestOr fw.os ++ digestOr s.imgHash ++
    be 4 s.loadedBits ++ be 4 (s.rf (cmpReg 0x14) 0 32) ++ be 4 (s.rf (cmpReg 0x18) 0 32) ++
    be 4 ((List.range 32).foldl (fun a r => a + (if s.health r = 2 then 2 ^ r else 0)) 0) ++
    (List.range 32).flatMap (fun r => be 8 (s.rimg r)) ++ be 8 0

/-- R387: a report is assembled and waits for the signing engine. -/
def State.attest (s : State) (nonce : List Byte) : State :=
  let n := s.attests + 1
  ({ s with attests := n, reports := s.reports ++ [s.report nonce n] }.rsetb (ntyReg 0) 30 true).rput (ntyReg 0xC) (BitVec.ofNat 64 (n % 2 ^ 32))

/-- R386, R387: the report at the front is signed. -/
def State.signDone (s : State) : State :=
  match s.reports with
  | [] => s
  | b :: rest =>
    { s with reports := rest, signed := some (b ++ beBytes 384 (Config.identitySig (sha256 b)).toNat) }.rsetb (ntyReg 0) 30 (!rest.isEmpty)

/-- R388: DEBUG_SEEN. -/
def State.debugSeen (s : State) : State := s.rsetb (ntyReg 0) 31 true

end Sys2Proof.Machine
end

