-- ==== Sys2Proof/Machine/Gpio.lean ====
section
/-! DEFINITION. GPIO pins, their private ports and interrupt lines (R398 to R404), the sources of the interrupt controller (R405) and timers (R406). -/

namespace Sys2Proof.Machine

/-- The GPIO block's registers; port x at 0x20 * x. -/
def gpioReg (off : Nat) : Reg := ⟨.gpio, 0, off⟩
def portReg (x off : Nat) : Reg := gpioReg (0x20 * x + off)

/-- R406: MGT_MTIME. -/
def State.mtime (s : State) : Nat := s.time / 4 % 2 ^ 64

/-! GPIO (R398 to R403). -/

/-- R401: what pin q of port x does: 0 GPIO, 1 its alternate signal, 2 a probe. -/
def State.gfunc (s : State) (x q : Nat) : Nat :=
  match s.rf (portReg x 0x18) (2 * q) 2 with
  | 1 => if x = 0 ∨ (x = 1 ∧ q < 4) then 1 else 0
  | 2 => 2
  | _ => 0

/-- R415: PB0 is high for 100 ms from each whole second. -/
def State.ppsHigh (s : State) : Bool :=
  match s.ppsAt with
  | some t => s.rb ⟨.mac, 0, 0x28⟩ 30 && decide ((s.ptp / 2 ^ 32 + 2 ^ 64 - t) % 2 ^ 64 < 100000000)
  | none => false

/-- R401: pin q of port x is an output of its peripheral; an I2C pin is open-drain. -/
def altOut (x q : Nat) : Bool := (x == 0 && [0, 2, 4, 6, 7, 9, 10, 11].contains q) || (x == 1 && q == 3)
def altOpenDrain (x q : Nat) : Bool := x == 0 && 12 ≤ q

/-- R398 to R401, R407, R477: the level a GPIO pad is driven to, if it is; a peripheral other than the 1588 pulse and the link indicator gives its
output a free level, on an open-drain pin low or none. -/
def State.gdrive (s : State) (x q : Nat) : Option Bool :=
  if s.gheld.contains x || s.scanned then none
  else match s.gfunc x q with
    | 0 => if s.rb (portReg x 0x10) q then some (s.rb (portReg x 0) q) else none
    | 1 => if x = 1 ∧ q = 0 then some s.ppsHigh else if x = 1 ∧ q = 2 then some (s.rb ⟨.mac, 0, 0⟩ 31)
      else if altOut x q then some (Config.altLevel (16 * x + q) s.free)
      else if altOpenDrain x q && !Config.altLevel q s.free then some false else none
    | _ => ((List.range 16).find? (fun k => s.rb (probeSel k) 31 && s.rb (probePin k) 31 && decide (s.rf (probePin k) 16 10 = 16 * x + q))).bind
        s.probeLevel

/-- R469: the level the boundary register drives at pad cells `i` (input, output, enable), under EXTEST or CLAMP. -/
def State.scanDrive (s : State) (i : Nat) : Option Bool :=
  if (s.tapIr == 0 || s.tapIr == 4) && s.bscan.getLsbD (i + 2) then some (s.bscan.getLsbD (i + 1)) else none

/-- R253, R399: the level at a GPIO pad: driven, from outside, or its pull's; without either, the keeper's. -/
def State.gpad (s : State) (x q : Nat) : Bool :=
  let i := 16 * x + q
  match (if s.scanned then s.scanDrive (2304 + 3 * i) else s.gdrive x q), s.gext i with
  | some b, _ => b
  | none, some b => b
  | none, none => match s.rf (portReg x 0x1C) (2 * q) 2 with
    | 1 => true
    | 2 => false
    | _ => s.gkeep i

/-- GPI_PxIN. -/
def State.gpioIn (s : State) (x : Nat) : Nat := (List.range 16).foldl (fun a q => a + (if s.gpad x q then 2 ^ q else 0)) 0

/-- A change of the GPIO block: each keeper holds the level its pad had. -/
def State.gpioDo (s : State) (f : State → State) : State :=
  let s1 := f s
  s1.each (List.range 64) (fun t i => if (s.gdrive (i / 16) (i % 16)).isSome then t.setGkeep i (s.gpad (i / 16) (i % 16)) else t)

/-- GPIO_SET (R399). -/
def execGpioSet (iss : Issuer) (x : Fin 4) (v : Word) (s : State) : Out :=
  ok (s.guarded iss .gpio 0 (fun s => s.gpioDo (fun s => s.rput (portReg x.val 0) (s.rget (portReg x.val 0) ||| (v.setWidth 64 &&& 0xFFFF)))))

/-- GPIO_CLR (R399). -/
def execGpioClr (iss : Issuer) (x : Fin 4) (v : Word) (s : State) : Out :=
  ok (s.guarded iss .gpio 0 (fun s => s.gpioDo (fun s => s.rput (portReg x.val 0) (s.rget (portReg x.val 0) &&& ~~~(v.setWidth 64 &&& 0xFFFF)))))

/-- R400: the pins that core c owns, of port x. -/
def State.owned (s : State) (c x : Nat) : RegVal :=
  BitVec.ofNat 64 ((List.range 16).foldl (fun a q => a + (if s.rf (portReg x 0x14) (2 * q) 2 = c then 2 ^ q else 0)) 0)

/-- R400, R418: a private write by core c: the owned bits of each port's OUT become f of the old ones and the written ones. -/
def State.privDo (s : State) (c : Nat) (v : BitVec 64) (f : RegVal → RegVal → RegVal) : State :=
  s.gpioDo (fun s => s.each (List.range 4) (fun s x =>
    let old := s.rget (portReg x 0)
    let m := s.owned c x
    s.rput (portReg x 0) ((old &&& ~~~m) ||| (f old (BitVec.ofNat 64 (fld v (16 * x) 16)) &&& m))))

/-- PRIVSET (R400). -/
def execPrivset (c : Fin 4) (v : BitVec 64) (s : State) : Out := ok (s.privDo c.val v (· ||| ·))

/-- PRIVCLR (R400). -/
def execPrivclr (c : Fin 4) (v : BitVec 64) (s : State) : Out := ok (s.privDo c.val v (fun o w => o &&& ~~~w))

/-- PRIVOUT (R400). -/
def execPrivout (c : Fin 4) (v : BitVec 64) (s : State) : Out := ok (s.privDo c.val v (fun _ w => w))

/-- R401, R403: a write to GPI_PxFUNC; the 16 ns in which the keeper holds the pad are over when the step is. -/
def State.gpioFunc (s : State) (x : Nat) (v : Word) : State := s.gpioDo (fun s => s.writePlain (portReg x 0x18) (v.setWidth 64))

/-- GPIO_FUNC_CHANGE (R401, R403). -/
def execGpioFuncChange (iss : Issuer) (x : Fin 4) (v : Word) (s : State) : Out := ok (s.guarded iss .gpio 0 (fun s => s.gpioFunc x.val v))

/-- R398: a write to GPI_CFG: 0b11 stores 0b10; a port whose LEVEL changes has its drivers held off. -/
def State.gpioLevel (s : State) (v : Word) : State :=
  s.gpioDo (fun s =>
    let new := (List.range 4).foldl (fun a x => a + put (2 * x) (min (fld v (2 * x) 2) 2)) (0 : RegVal)
    let moved := (List.range 4).filter (fun x => decide (fld new (2 * x) 2 ≠ s.rf (gpioReg 0x80) (2 * x) 2))
    { s.rput (gpioReg 0x80) new with gheld := (s.gheld ++ moved).eraseDups })

/-- GPIO_LEVEL_CHANGE (R398). -/
def execGpioLevelChange (iss : Issuer) (v : Word) (s : State) : Out := ok (s.guarded iss .gpio 0 (fun s => s.gpioLevel v))

/-- GPIO_LEVEL_HOLD_END (R398): 50 µs later the port's drivers are enabled again. -/
def execGpioLevelHoldEnd (x : Fin 4) (s : State) : Out := ok { s with gheld := s.gheld.filter (· != x.val) }

/-! Interrupts (R404, R405). -/

/-- GPI_INTn. -/
def intReg (n : Nat) : Reg := gpioReg (0x100 + 4 * n)

/-- R404: the level that makes a line of a level mode pending, if the line has one and it holds now. -/
def State.lineHolds (s : State) (n : Nat) : Bool :=
  s.rb (intReg n) 31 && (match s.rf (intReg n) 28 3, s.gline n with
    | 3, some l => l
    | 4, some l => !l
    | _, _ => false)

/-- PIN_INTERRUPT_EDGE (R404): line n accepts a new level of its pin, first sampled `ago` counts of MGT_MTIME before. -/
def execPinInterruptEdge (n : Fin 16) (level : Bool) (ago : Fin 64) (s : State) : Out :=
  let n := n.val
  let mode := s.rf (intReg n) 28 3
  let s1 := s.setGext (16 * s.rf (intReg n) 24 2 + n) (some level)
  if !s.rb (intReg n) 31 || decide (5 ≤ mode) then ok s1
  else
    let s2 := s1.setGline n (some level)
    let hit := match mode with | 0 => level | 1 => !level | 2 => true | 3 => level | _ => !level
    let s3 := if hit then
        (s2.rput (gpioReg (0x140 + 4 * n)) (BitVec.ofNat 64 ((s.mtime - ago.val) % 2 ^ 32))).rsetb (gpioReg 0x180) n true
      else if 3 ≤ mode then s2.rsetb (gpioReg 0x180) n false
      else s2
    ok s3

/-- R404: a write to GPI_INTn; a change of PORT or MODE starts the line anew. -/
def State.intWrite (s : State) (n : Nat) (v : Word) : State :=
  let old := s.rget (intReg n)
  let s1 := s.writePlain (intReg n) (v.setWidth 64)
  if fld old 24 7 = fld (s1.rget (intReg n)) 24 7 then s1 else s1.setGline n none

/-- R404: a W1C write to GPI_INTPEND has no effect on a line whose level holds. -/
def State.pendClear (s : State) (v : Word) : State :=
  let keep := (List.range 16).foldl (fun a n => a + (if s.lineHolds n then put n 1 else 0)) (0 : RegVal)
  s.writePlain (gpioReg 0x180) (v.setWidth 64 &&& ~~~keep)

/-- A register with a W1C bit set. -/
def State.w1cSet (s : State) (g : Reg) : Bool :=
  match g.info with
  | some i => decide (s.rget g &&& i.w1c ≠ 0)
  | none => false

/-- R467: FRY_SUM. -/
def State.frySum (s : State) : Nat :=
  (List.range 4).foldl (fun a d =>
    let f (i : Nat) : Bool := (List.range 32).any (fun c => s.rb ⟨.fryUp, 32 * d + c, 4⟩ i || s.rb ⟨.fryDn, 32 * d + c, 4⟩ i)
    a + (if f 30 then 2 ^ d else 0) + (if f 31 then 2 ^ (4 + d) else 0)) 0

/-- R405: source k is pending; the conditions of the kernel's own peripherals (22, 23, 25 to 29) are free values. -/
def State.source (s : State) (k : Nat) : Bool :=
  if k < 16 then s.rb (gpioReg 0x180) k
  else match k with
    | 16 => decide (s.rget tnkAlarm ≠ 0)
    | 17 => decide (s.rget ⟨.tnkBase, 0, 0x84⟩ ≠ 0)
    | 18 => s.cmpNews
    | 19 => s.asyNews
    | 20 => (List.range 32).any (fun l => s.w1cSet ⟨.chvL, l, 4⟩)
    | 21 => s.w1cSet sysStat
    | 24 => s.ptpNews
    | 30 => decide (s.rf ⟨.wdg, 0, 0x80⟩ 5 5 ≠ 0) || decide (s.rf ⟨.wdg, 0, 0x80⟩ 0 4 ≠ 0)
    | 31 => (List.range 16).any (fun p => s.w1cSet (piReg p 0x24)) || (List.range 8).any (fun l => s.w1cSet (plReg l 0x2C)) ||
        s.w1cSet (lmpReg 4) || decide (s.rget tnkPalarm ≠ 0) || decide (s.frySum ≠ 0)
    | _ => Config.kernelSource k s.free

/-- MGT_IPEND. -/
def State.ipend (s : State) : Nat := (List.range 32).foldl (fun a k => a + (if s.source k then 2 ^ k else 0)) 0

/-- The interrupt controller's registers. -/
def irqReg (off : Nat) : Reg := ⟨.irq, 0, off⟩

/-- R406: MGT_MTIME has reached MGT_MTIMECMPc. -/
def State.timerDue (s : State) (c : Nat) : Bool := decide ((s.rget (irqReg (0x108 + 8 * c))).toNat ≤ s.mtime)

/-- MACHINE_TIMER (R406): core c receives its timer interrupt. -/
def execMachineTimer (c : Fin 4) (s : State) : Out := ok (s.setCore c.val { s.core c.val with timer := s.timerDue c.val })

/-- R395, R419: a write to MGT_MSIPc; a 1 releases a core that waits after reset. -/
def State.msip (s : State) (c : Nat) (v : Word) : State :=
  let s1 := s.writePlain (irqReg (0x20 + 4 * c)) (v.setWidth 64)
  if bit v 0 then s1.setCore c { s1.core c with started := true } else s1

/-- MSIP_WRITE (R395, R406). -/
def execMsipWrite (iss : Issuer) (c : Fin 4) (v : Word) (s : State) : Out := ok (s.guarded iss .irq 0 (fun s => s.msip c.val v))

end Sys2Proof.Machine
end

