-- ==== Sys2Proof/Machine/Serial.lean ====
section
/-! DEFINITION. The serial peripherals (R407): UART0, UART1, SPI0, I2C0 and I2C1. Their register map is the kernel's (R396) and the manual does not give it: what an access asks is a free value of the address and the value written, and what comes in on the lines between accesses is one too (log entry 95). -/

namespace Sys2Proof.Machine

/-- R407: the entries of a UART's or SPI0's FIFO, each way. -/
def serialDepth : Nat := 64

/-- R407: UART settings within what the peripheral offers take effect; RTS and CTS are UART0's. -/
def Uart.set (u : Uart) (n baud bits : Nat) (parity : Option Bool) (stops : Nat) (flow : Bool) : Uart :=
  if 300 ≤ baud ∧ baud ≤ 12500000 ∧ 5 ≤ bits ∧ bits ≤ 8 ∧ 1 ≤ stops ∧ stops ≤ 2 then
    { u with baud := baud, bits := bits, parity := parity, stops := stops, flow := flow && decide (n = 0) }
  else u

/-- R407: SPI0 settings within what it offers take effect. -/
def Spi.set (p : Spi) (mode hz bits : Nat) : Spi :=
  if 0 < hz ∧ hz ≤ 50000000 ∧ 8 ≤ bits ∧ bits ≤ 32 then { p with mode := mode, hz := hz, bits := bits } else p

/-- R407: I2C settings within what the unit offers take effect; an address of 7 bits keeps 7. -/
def I2c.set (i : I2c) (target : Bool) (hz : Nat) (ten : Bool) (addr : BitVec 10) : I2c :=
  if hz = 100000 ∨ hz = 400000 ∨ hz = 1000000 then
    { i with target := target, hz := hz, ten := ten, addr := if ten then addr else addr &&& 0x7F }
  else i

/-- R407: an entry put into a FIFO that has room for it; one with none is lost. -/
def fifoPut {α : Type} (q : List α) (x : α) : List α := if q.length < serialDepth then q ++ [x] else q

/-- The entries that come in, as many as there is room for. -/
def fifoFill {α : Type} (q xs : List α) : List α := q ++ xs.take (serialDepth - q.length)

/-- R401: peripheral pin q of port PA is given to its peripheral. -/
def State.serialPin (s : State) (q : Nat) : Bool := s.gfunc 0 q == 1

/-- R407: UART n goes on: of its characters some are sent, while CTS lets it where it is in use, and some come in at its data bits. -/
def State.uartRun (s : State) (n : Nat) : State :=
  let u := s.uart n
  let go := decide (u.baud ≠ 0) && (!u.flow || Config.ctsSends (s.gpad 0 3))
  let sent := if go then Config.serialLine s.free (4 * n) else 0
  let came := if decide (u.baud ≠ 0) && s.serialPin (if n = 0 then 1 else 5) then Config.serialLine s.free (4 * n + 1) else 0
  let chars := (List.range came).map (fun i => (BitVec.ofNat 8 (Config.serialLine (s.free + 1) (8 * i + n) % 2 ^ u.bits)))
  { s with free := s.free + 2 }.setUart n { u with tx := u.tx.drop sent, rx := fifoFill u.rx chars }

/-- R407: SPI0 goes on: each word sent brings one back, of the same length. -/
def State.spiRun (s : State) : State :=
  let p := s.spi
  let sent := if p.hz = 0 then 0 else min p.tx.length (Config.serialLine s.free 8)
  let back := (List.range sent).map (fun i => (BitVec.ofNat 32 (Config.serialLine (s.free + 1) (8 * i + 2) % 2 ^ p.bits)))
  { s with free := s.free + 2, spi := { p with tx := p.tx.drop sent, rx := fifoFill p.rx back } }

/-- R407: I2C unit n goes on, with its two pins: bytes are sent and received. -/
def State.i2cRun (s : State) (n : Nat) : State :=
  let u := s.i2c n
  let on := decide (u.hz ≠ 0) && s.serialPin (12 + 2 * n) && s.serialPin (13 + 2 * n)
  let sent := if on then Config.serialLine s.free (9 + 2 * n) else 0
  let came := if on then Config.serialLine s.free (10 + 2 * n) else 0
  let bytes := (List.range came).map (fun i => (BitVec.ofNat 8 (Config.serialLine (s.free + 1) (8 * i + 3 + n))))
  { s with free := s.free + 2 }.setI2c n { u with tx := u.tx.drop sent, rx := u.rx ++ bytes }

/-- R447: the domain of the serial peripherals is Lit; Banked they stand still and keep what they hold. -/
def State.serialLit (s : State) : Bool := decide (s.dom 743 = 0)

/-- The serial peripherals have gone on by themselves since the last access. -/
def State.serialRun (s : State) : State :=
  if s.serialLit then ((((s.uartRun 0).uartRun 1).spiRun).i2cRun 0).i2cRun 1 else s

/-- R407: what an access asks of the serial peripherals is done; the second part is what it takes out, if it takes something. -/
def State.serialDo (s : State) : Config.SerialOp → State × Option Nat
  | .uartSet n baud bits parity stops flow => (s.setUart n.val ((s.uart n.val).set n.val baud bits parity stops flow), none)
  | .uartPut n c =>
    let u := s.uart n.val
    (s.setUart n.val { u with tx := fifoPut u.tx (c &&& BitVec.ofNat 8 (2 ^ u.bits - 1)) }, none)
  | .uartGet n =>
    let u := s.uart n.val
    (s.setUart n.val { u with rx := u.rx.drop 1 }, u.rx.head?.map BitVec.toNat)
  | .spiSet mode hz bits => ({ s with spi := s.spi.set mode.val hz bits }, none)
  | .spiPut cs w => ({ s with spi := { s.spi with tx := fifoPut s.spi.tx (cs.val, w) } }, none)
  | .spiGet => ({ s with spi := { s.spi with rx := s.spi.rx.drop 1 } }, s.spi.rx.head?.map BitVec.toNat)
  | .i2cSet n target hz ten addr => (s.setI2c n.val ((s.i2c n.val).set target hz ten addr), none)
  | .i2cPut n b => (s.setI2c n.val { s.i2c n.val with tx := (s.i2c n.val).tx ++ [b] }, none)
  | .i2cGet n =>
    let u := s.i2c n.val
    (s.setI2c n.val { u with rx := u.rx.drop 1 }, u.rx.head?.map BitVec.toNat)
  | .nothing => (s, none)

/-- R393, R407: a read at offset o of the serial peripherals: the value taken out, or a free value. A quiet one takes nothing (R10). -/
def State.serialRead (s : State) (o : Nat) (w : Width) (quiet : Bool) : State × BitVec 64 :=
  let value (x : Option Nat) (s : State) : State × BitVec 64 :=
    (s.bumpFree, BitVec.ofNat 64 ((x.getD s.freeNow.toNat) % 256 ^ widthBytes w))
  if quiet || !s.serialLit then value none s
  else
    let (s1, x) := s.serialRun.serialDo (Config.serialRead o)
    value x s1

/-- R393, R407: a write at offset o of the serial peripherals. -/
def State.serialWrite (s : State) (o : Nat) (v : BitVec 64) : State :=
  if s.serialLit then (s.serialRun.serialDo (Config.serialWrite o v)).1 else s

end Sys2Proof.Machine
end

