-- ==== Sys2Proof/Machine/Resets.lean ====
section
/-! DEFINITION. Resets (R10, R397, R408, R483 to R485, R504), the watchdogs (R408 to R411), and the management port and 1588 clock (R412 to R415). -/

namespace Sys2Proof.Machine

/-- R378, R504: an eFuse programme that a reset cuts short: a key slot reads BAD at the next boot; of an owner slot the manual says nothing
(log entry 2). -/
def State.cutFuse (s : State) : State :=
  match s.kcmd with
  | none => s
  | some c =>
    if c.cmd = 1 then { s with kcmd := none, cutSlots := c.slot :: s.cutSlots }
    else ({ s with kcmd := none }.setOslot c.slot { s.oslot c.slot with prog := (s.oslot c.slot).prog || bit s.freeNow 0, digest := (s.freeNow.setWidth 256) }).bumpFree

/-- R504: a flash programme that a reset cuts short leaves arbitrary bytes; a record among them fails its CRC. -/
def State.cutFlash (s : State) : State :=
  s.each s.ix.jobs (fun s j =>
    { s with epoch := s.epoch + 1,
             flash := Store.putBytes s.flash j.offset ((List.range j.bytes.length).map (fun i =>
               let b := (Config.freeCell 5 (s.epoch + 1) i).setWidth 8
               if i + 4 = j.bytes.length ∧ 0x04000000 ≤ j.offset ∧ j.offset < 0x08000000 then
                 (nth 0 j.bytes i) ^^^ 0xFF else if 0x04000000 ≤ j.offset ∧ j.offset < 0x08000000 then nth 0 j.bytes i else b)) })

/-- R485: every domain is held Cold. -/
def State.allCold (s : State) : State := s.each (List.range 748) (fun s n => s.rsetf (lmpDom n) 30 2 2)

/-- What outlives a reset: the flash, the fuses, the pads, the supplies, and the model's own counters; every other field is at its reset
value (R10 to R12), and what has no reset value is open again. -/
def State.afterReset (s0 : State) : State := {
    pending := s0.pending, free := s0.free, rdata := s0.rdata, flash := s0.flash, epoch := s0.epoch + 1, memEpoch := s0.memEpoch + 1,
    kslots := s0.kslots, oslots := s0.oslots, cutSlots := s0.cutSlots, tkrev := s0.tkrev, fwsvn := s0.fwsvn,
    vin := s0.vin, vbat := s0.vbat, bbGone := s0.bbGone, hot := s0.hot, gexts := s0.gexts, ixOut := s0.ixOut,
    pins := Store.mapVals {} (fun _ c => { pad := c.pad, ext := c.ext }) s0.pins }

/-- R10, R483: every register at its Reset value, every memory but flash and fuses lost, the boot due; what lies outside the package stays.
`por` says that it is a power-on reset, which the always-on part does not survive. -/
def State.resetTo (s : State) (por : Bool) : State :=
  let s0 := s.cutFuse.cutFlash
  let s1 := s0.afterReset
  let s2 := (s1.rsetb (lsmReg 0) 31 (s.rb (lsmReg 0) 31)).rsetb (lsmReg 4) 31 (s.rb (lsmReg 4) 31)
  let s3 := if por then s2 else s2.rput ⟨.wdg, 0, 0x80⟩ (s.rget ⟨.wdg, 0, 0x80⟩)
  if s3.hot then s3.allCold else s3

/-- R10: package reset. -/
def State.packageReset (s : State) : State := s.resetTo false

/-- R379: the 12 V supply and VBAT are both absent: the battery-backed slots and what is kept on VBAT are lost. -/
def State.batteryLost (s : State) : State :=
  ({ s.eraseSlots with bbGone := true }.rsetb (lsmReg 0) 31 false).rsetb (lsmReg 4) 31 true

/-- POWER_ON_RESET (R10, R379, R483): VIN has fallen below 3.0 V, or has risen; `vbat` says whether VBAT is present. -/
def execPowerOnReset (rise vbat : Bool) (s : State) : Out :=
  let s1 := { s with vin := rise, vbat := vbat, hot := false }.resetTo true
  ok (if rise || vbat then s1 else s1.batteryLost)

/-- VIN_DIP_PACKAGE_RESET (R483). -/
def execVinDipPackageReset (s : State) : Out := ok s.packageReset

/-- PRST_N_ASSERT (R484, R504): a thermal hold goes on. -/
def execPrstNAssert (s : State) : Out := ok s.packageReset

/-- THERMAL_TRIP (R485): die d reads 122 °C or more. -/
def execThermalTrip (_d : Fin 4) (t : BitVec 9) (s : State) : Out :=
  ok (if 122 ≤ t.toInt then { s with hot := true }.packageReset else s)

/-- THERMAL_TRIP_RELEASE (R485): the domains return to their reset states and the boot restarts. -/
def execThermalTripRelease (s : State) : Out :=
  ok (if s.hot then { s with hot := false, regs := s.regs.without (lmpDom 0).addr (748 * 4), bootDue := true } else s)

/-- VBAT_LOSS (R379, R504): with the 12 V supply present nothing is lost. -/
def execVbatLoss (s : State) : Out :=
  let s1 := { s with vbat := false }
  ok (if s.vin then s1 else s1.batteryLost)

/-! The management complex (R394, R397, R408 to R411). -/

/-- R193: an access of requester 17: a core, Ixzento or the debug port. -/
def isRequester17 : Issuer → Bool
  | .core _ => true
  | .ixz => true
  | .debug => true
  | .port _ _ _ => false
  | .remote _ _ _ => false

/-- R472: core c in Debug Mode, or not. -/
def State.setHalted (s : State) (c : Nat) (h : Bool) : State :=
  (s.rsetb ⟨.dbg, 0, 4⟩ c h).rsetb ⟨.dbgCore, c, 4⟩ 31 h

/-- R388, R472: core c halts with a cause as dcsr.cause has it. -/
def State.haltCore (s : State) (c cause : Nat) : State :=
  (((s.setHalted c true).rsetf ⟨.dbgCore, c, 4⟩ 0 3 cause).setCore c { s.core c with haltReq := false }).debugSeen

/-- R395, R397, R409, R478: core c starts at its reset vector; with HALTRESET = 1 it halts there. The version 0.13.2 of the debug standard
leaves the cause to be a halt request or a reset halt (log entry 2). -/
def State.coreReset (s : State) (c : Nat) : State :=
  let s1 := (s.setCore c {}).setHalted c false
  if s.rb ⟨.dbgCore, c, 0⟩ 28 then (s1.haltCore c (if bit s.freeNow 0 then 5 else 3)).bumpFree else s1

/-- A block of registers at its Reset values, but for those listed by offset. -/
def State.blockReset (s : State) (base size : Nat) (keep : List Nat) : State :=
  { s with regs := s.regs.filter (fun e => !(decide (base ≤ e.1) && decide (e.1 < base + size)) || keep.contains (e.1 - base)) }

/-- R408: watchdog i at its reset values. -/
def State.wdgReset (s : State) (i : Nat) : State := (s.blockReset (0x200C0000 + 0x10 * i) 0x10 []).setWdg i {}

/-- R397: a management complex reset. -/
def State.complexReset (s : State) : State :=
  let s1 := s.loadAbort
  let s2 := s1.breakLocks isRequester17
  let s3 := (s2.gpioDo (fun s => s.blockReset 0x20000000 0x10000 [0x184]))
  let s4 := ((s3.blockReset 0x200D0000 0x10000 [0x38]).blockReset 0x20080000 0x10000 [0x18, 0x38]).each (List.range 5) State.wdgReset
  let s5 := (List.range 4).foldl State.coreReset s4.serialReset
  { s5 with ix := { signQ := s5.reports.map (fun _ => 0) }, ppsAt := none, ptpNews := false, ptpStamp := none, ptpGo := false, glines := [], gheld := [], mem := [],
            memEpoch := s5.memEpoch + 1, fw := none, recovery := false, bootDue := true }

/-- The bits of WDG_STAT: the warning and the expiry of watchdog i. -/
def warnBit (i : Nat) : Nat := if i = 4 then 9 else 5 + i
def wdgStat : Reg := ⟨.wdg, 0, 0x80⟩

/-- R408: the issuers a watchdog accepts writes from: its core (Ixzento runs on core 0), any core for the system's, and the debug port. -/
def wdgAccepts (i : Nat) : Issuer → Bool
  | .core c => c == i || i == 4
  | .ixz => i == 0 || i == 4
  | .debug => true
  | .port _ _ _ => false
  | .remote _ _ _ => false

/-- R408: CNT reloaded from LOAD. -/
def State.wdgLoad (s : State) (i : Nat) : State :=
  s.setWdg i { s.wdg i with left := 200 * atLeast1 (s.rf (wdgReg i 0) 0 24) }

/-- R408: a write to WDG_iCTL: EN once set stays. -/
def State.wdgCtl (s : State) (i : Nat) (v : Word) : State :=
  let on := s.rb (wdgReg i 0) 31
  let s1 := (s.writePlain (wdgReg i 0) (v.setWidth 64)).rsetb (wdgReg i 0) 31 (on || bit v 31)
  if !on && bit v 31 then s1.wdgLoad i else s1

/-- WATCHDOG_ENABLE (R408): a write of EN = 1. -/
def execWatchdogEnable (iss : Issuer) (i : Fin 5) (v : Word) (s : State) : Out :=
  ok (if wdgAccepts i.val iss then s.wdgCtl i.val (setBit (v.setWidth 64) 31 true |>.setWidth 32) else s.viol .wdg 0)

/-- R408: a write to WDG_iKICK. -/
def State.wdgKick (s : State) (i key : Nat) : State :=
  let w := s.wdg i
  if key = 0x5A then s.setWdg i { w with armed := true }
  else if key = 0xA5 ∧ w.armed then ((s.setWdg i { w with armed := false }).wdgLoad i)
  else (s.setWdg i { w with armed := false }).viol .wdg 0

/-- WATCHDOG_KICK (R408). -/
def execWatchdogKick (iss : Issuer) (i : Fin 5) (key : BitVec 8) (s : State) : Out :=
  ok (if wdgAccepts i.val iss then s.wdgKick i.val key.toNat else s.viol .wdg 0)

/-- WATCHDOG_WARN (R408): CNT reaches WARN. -/
def execWatchdogWarn (i : Fin 5) (s : State) : Out :=
  let w := s.rf (wdgReg i.val 0xC) 0 24
  ok (if s.wdgRuns i.val ∧ w ≠ 0 then (s.setWdg i.val { s.wdg i.val with left := 200 * w }).sticky wdgStat (warnBit i.val) else s)

/-- R409: watchdog i reaches zero. -/
def State.wdgExpire (s : State) (i : Nat) : State :=
  let s1 := s.sticky wdgStat i
  if i = 0 then s1.complexReset
  else if i < 4 then (s1.coreReset i).wdgReset i
  else if s.rb (wdgReg 4 0) 30 then s1.packageReset
  else s1.complexReset

/-- WATCHDOG_EXPIRY (R409). -/
def execWatchdogExpiry (i : Fin 5) (s : State) : Out := ok (if s.wdgRuns i.val then s.wdgExpire i.val else s)

/-! The management port and the 1588 clock (R412 to R415). -/

/-- The MAC's registers. -/
def macReg (off : Nat) : Reg := ⟨.mac, 0, off⟩

/-- R447: the domain of the MAC and the PHY is Lit. -/
def State.macLit (s : State) : Bool := decide (s.dom 742 = 0)

/-- MANAGEMENT_PORT_LINK (R412, R447): the link comes up, at 1000BASE-T (`gig`) only where it is offered and not downshifted, or drops. -/
def execManagementPortLink (up gig mdix : Bool) (s : State) : Out :=
  let st := s.rget (macReg 0)
  if !up then ok (s.rput (macReg 0) (putB 27 (bit st 27)))
  else if !s.macLit || (gig && (!s.rb (macReg 4) 31 || bit st 27)) then ok s
  else ok (s.rput (macReg 0) (putB 31 true + put 29 (if gig then 2 else 1) + putB 28 mdix + putB 27 (bit st 27)))

/-- DOWNSHIFT (R412): three 1000BASE-T attempts have failed. -/
def execDownshift (s : State) : Out :=
  ok (if s.macLit && s.rb (macReg 4) 31 then s.rput (macReg 0) (putB 27 true) else s)

/-- R412: auto-negotiation begins again: the link drops, and a downshift is over. -/
def State.phyRestart (s : State) : State := s.rput (macReg 0) 0

/-- PHY_RESTART (R412, R421). -/
def execPhyRestart (iss : Issuer) (s : State) : Out := ok (s.guarded iss .mac 0 State.phyRestart)

/-- PTP_STEP (R413): STEPGO written 1; the step in MGT_PTPSTEP is added at the next tick. -/
def execPtpStep (iss : Issuer) (s : State) : Out := ok (s.guarded iss .mac 0 (fun s => { s with ptpGo := true }))

/-- The 1588 clock in ns. -/
def State.ptpNs (s : State) : Nat := s.ptp / 2 ^ 32 % 2 ^ 64

/-- PPS_OUTPUT (R415): a whole second of the 1588 clock. -/
def execPpsOutput (s : State) : Out :=
  ok (if s.rb (macReg 0x28) 30 then { s with ppsAt := some (s.ptpNs - s.ptpNs % 1000000000) } else s)

/-- PPS_INPUT_CAPTURE (R401, R415): a rising edge on PB1, whose FUNC gives it the event input; the clock is recorded to within 5 ns, `err` - 5. -/
def execPpsInputCapture (err : Fin 11) (s : State) : Out :=
  let s1 := s.setGext 17 (some true)
  ok (if s.rb (macReg 0x28) 29 && s.gfunc 1 1 == 1 then
    { s1.rput (macReg 0x30) (BitVec.ofInt 64 ((s.ptpNs : Int) + err.val - 5)) with ptpNews := true }
  else s1)

/-- PTP_EVENT_TIMESTAMP (R414): the start of an event message, to within 4 ns at 1000BASE-T and 16 ns at 100BASE-TX, `err` - 16. -/
def execPtpEventTimestamp (err : Fin 33) (s : State) : Out :=
  let e : Int := (err.val : Int) - 16
  let e := if s.rf (macReg 0) 29 2 = 2 then (if e < -4 then -4 else if 4 < e then 4 else e) else e
  ok (if s.rb (macReg 0) 31 then
    { s with ptpStamp := some (((s.ptpNs : Int) + e) % 2 ^ 64).toNat }
  else s)

end Sys2Proof.Machine
end

