-- ==== Sys2Proof/Machine/DebugOps.lean ====
section
/-! DEFINITION. What the debug block's registers do (R472 to R475, R478, R480): halts, resumes, fed instructions, lock breaks, freezes and detaching. -/

namespace Sys2Proof.Machine

/-- The debug block's registers, and a core's. -/
def dbgReg (off : Nat) : Reg := ⟨.dbg, 0, off⟩
def dbgCore (c off : Nat) : Reg := ⟨.dbgCore, c, off⟩

/-- R480: the block is written from the debug port alone. -/
def State.debugOnly (s : State) (iss : Issuer) (f : State → State) : State := if iss = .debug then f s else s.viol .dbg 0

/-- R394, R410, R447: core c runs: released from its wait after reset, not halted, its domain Lit. -/
def State.coreRuns (s : State) (c : Nat) : Bool :=
  (c == 0 || (s.core c).started) && !s.coreHalted c && decide (s.dom (732 + c) = 0)

/-- R472: a halt of core c that was asked for, or that an ebreak (1) or a trigger (2) causes, at an instruction boundary. -/
def State.haltNow (s : State) (c cause : Nat) : State :=
  if s.coreHalted c || (s.core c).load.isSome || decide (s.dom (732 + c) ≠ 0) then s
  else if cause = 3 then (if (s.core c).haltReq then s.haltCore c 3 else s)
  else if cause = 1 ∨ cause = 2 then s.haltCore c cause
  else s

/-- R473: core c leaves Debug Mode; with STEP = 1 it executes one instruction and halts again, with the cause of a step (4). -/
def State.resume (s : State) (c : Nat) : State :=
  if !s.coreHalted c then s
  else if s.rb (dbgCore c 0) 29 then s.haltCore c 4
  else s.setHalted c false

/-- R473, R480: a write to DBG_COREc_CTL. -/
def State.coreCtl (s : State) (c : Nat) (v : Word) : State :=
  let s1 := s.writePlain (dbgCore c 0) (v.setWidth 64)
  let s2 := if bit v 31 && !s1.coreHalted c then s1.setCore c { s1.core c with haltReq := true } else s1
  if bit v 30 then s2.resume c else s2

/-- R473: an instruction that a halted core may not be fed: it transfers control, or is WFI, ECALL, EBREAK, MRET, SRET or DRET; in 32 bits or
compressed. PRESUMED: the encodings are the RISC-V standard's. -/
def fedBarred (i : Word) : Bool :=
  if fld i 0 2 = 3 then
    decide (fld i 0 7 = 0x6F ∨ fld i 0 7 = 0x67 ∨ fld i 0 7 = 0x63) ||
      (fld i 0 7 == 0x73 && fld i 12 3 == 0 && [0, 1, 0x102, 0x105, 0x302, 0x7B2].contains (fld i 20 12))
  else if fld i 0 2 = 1 then decide (5 ≤ fld i 13 3)
  else fld i 0 2 == 2 && fld i 13 3 == 4 && fld i 2 5 == 0 && (decide (fld i 7 5 ≠ 0) || bit i 12)

/-- R473: a FEED write: the state after it, and whether the instruction executes. -/
def State.feedStart (s : State) (c : Nat) (i : Word) (traps : Bool) : State × Bool :=
  if !s.coreHalted c || s.rb (dbgCore c 4) 29 then (s.viol .dbg 0, false)
  else if traps || fedBarred i then (s.sticky (dbgCore c 4) 30, false)
  else (s, true)

/-- R474: the lock of bank b breaks; with none held NOLOCK is set. -/
def State.breakLockCmd (s : State) (b : Nat) : State :=
  let none_ := (s.bank b).lock.isNone
  (s.breakLock b).rsetb (dbgReg 0x18) 30 none_

/-- R474, R480: a write to DBG_BRKLOCK. -/
def State.brkWrite (s : State) (v : Word) : State :=
  let s1 := s.writePlain (dbgReg 0x18) (v.setWidth 64)
  if bit v 31 then s1.breakLockCmd (fld v 2 5 * 4 + fld v 0 2) else s1

/-- R475, R479: a freeze of region r waits: its gate is closed, or it is under load or recovery. -/
def State.freezeWaits (s : State) (r : Nat) : Bool := (s.region r).gate || s.underLoad r || s.swapping r

/-- R475: a region frozen, or resumed. -/
def State.setFrozen (s : State) (r : Nat) (on done : Bool) : State :=
  s.setRegion r { s.region r with frozen := on, frozenDone := done }

/-- R475: a write to DBG_FREEZE. -/
def State.freezeWrite (s : State) (v : Word) : State :=
  (s.writePlain (dbgReg 0x10) (v.setWidth 64)).each (List.range 32) (fun s r =>
    if bit v r then (if s.freezeWaits r || (s.region r).frozen then s else s.setFrozen r true false)
    else s.setFrozen r false false)

/-- R475: every cell of a frozen region is held. -/
def State.freezeDone (s : State) (r : Nat) : State :=
  if s.rb (dbgReg 0x10) r && ((s.region r).frozen || !s.freezeWaits r) then s.setFrozen r true true else s

/-- R478, R479: freezes and halts are released, the result of an access that runs is discarded, taps and probes disabled, emulated states real. -/
def State.detach (s : State) : State :=
  let s1 := ({ s with dbgAcc := none }.rsetb (dbgReg 4) 31 false).rput (dbgReg 0x10) 0
  let s2 := s1.each (List.range 32) (fun s r => s.setFrozen r false false)
  let s3 := s2.each (List.range 4) (fun s c => (s.setHalted c false).setCore c { s.core c with haltReq := false })
  let s4 := s3.each (List.range 4) (fun s t => s.rsetb ⟨.dbgTap, t, 0⟩ 31 false)
  let s5 := s4.each (List.range 16) (fun s k => (s.rsetb (probeSel k) 31 false).probeMove k)
  s5.each (List.range 748) (fun s n => s.rsetb (lmpDom n) 25 false)

/-- R478, R480: a write to DBG_CTL. -/
def State.dbgCtl (s : State) (v : Word) : State :=
  let s1 := s.writePlain (dbgReg 0) (v.setWidth 64)
  if bit v 29 then s1.detach else s1

/-- HALT (R472). -/
def execHalt (c : Fin 4) (cause : Fin 8) (s : State) : Out := ok (s.haltNow c.val cause.val)

/-- BREAK_LOCK (R474): DBG_BRKLOCK written with GO = 1. -/
def execBreakLock (iss : Issuer) (r : Fin 32) (b : Fin 4) (s : State) : Out :=
  ok (s.debugOnly iss (fun s => s.brkWrite (BitVec.ofNat 32 (2 ^ 31 + 4 * r.val + b.val))))

/-- FREEZE (R475). -/
def execFreeze (iss : Issuer) (v : Word) (s : State) : Out := ok (s.debugOnly iss (fun s => s.freezeWrite v))

/-- FREEZE_COMPLETE (R475). -/
def execFreezeComplete (r : Fin 32) (s : State) : Out := ok (s.freezeDone r.val)

end Sys2Proof.Machine
end

