-- ==== Sys2Proof/Machine/Live.lean ====
section
/-! DEFINITION. What a read of a register shows: its stored value and the fields that show the machine as it stands (R67, R99, R150, R175, R200, R220, R248, R266, R296, R342 to R344, R375, R391, R417 to R421, R454, R455, R467, R480). -/

namespace Sys2Proof.Machine

/-- A bit per index. -/
def bitsOf (n : Nat) (f : Nat → Bool) : RegVal := (List.range n).foldl (fun a i => a + putB i (f i)) 0

/-- R99: TNK_CELL_STAT.WAIT of cell x. A skipped step, and a reserved opcode with it, waits for no output and no fence (R76, R105). A disabled cell shows 0b111 and a held one 0b110 whatever else it waits for (R475). -/
def State.cellWait (s : State) (x : Nat) : Nat :=
  let c := s.cell x
  let i := s.slotNow x
  if !s.cellEn x then 7
  else if s.cluHeld (x / 64) then 6
  else if !c.portsPresent i then 1
  else if i.readsLink && (s.linkIn x).isNone then 2
  else if i.carry && !c.linkFree x then 3
  else if opDefined i.op && c.runs i && !s.outputsFree x i then 4
  else if opDefined i.op && c.runs i && !s.fenceDone x i.fence then 5
  else 0

/-- R99: a cell's status window. -/
def State.liveCell (s : State) (x off : Nat) (v : RegVal) : RegVal :=
  let c := s.cell x
  let slots := [c.s0, c.s1, c.s2, c.s3]
  match off with
  | 0x00 => v + put 16 (s.cellWait x) + putB 11 c.cpp + putB 10 c.cp + putB 7 (s.cellEn x) + put 0 (c.slot % 8)
  | 0x04 => c.steps.setWidth 64
  | 0x18 => c.wp.setWidth 64
  | 0x2C => bitsOf 4 (fun k => (nth none slots k).isSome) + put 4 ((bitsOf 4 (fun k => ((nth none slots k).getD {}).p)).toNat) +
      put 8 ((bitsOf 4 (fun k => ((nth none slots k).getD {}).f)).toNat)
  | 0x30 => match c.link with
    | some l => putB 2 true + putB 1 l.c + putB 0 l.p
    | none => 0
  | 0x34 => match c.link with
    | some l => l.w.setWidth 64
    | none => 0
  | o => if o < 0x18 then (c.wreg ((o - 8) / 4)).setWidth 64
    else ((c.port ((o - 0x1C) / 4)).getD {}).d.setWidth 64

/-- R150: TNK_PORT_STAT of port q = g * 4 + p. -/
def State.livePort (s : State) (q : Nat) (v : RegVal) : RegVal :=
  let g := q / 4
  let lp := match s.logicalOf g with
    | some lc => (g / 17 * 16 + s.lead (g / 17) lc) * 4 + q % 4
    | none => 4096
  v + put 24 (s.portClass g (q % 4)) + put 20 (s.portMode g (q % 4)) + put 8 (s.outWrites lp) + put 0 (s.outReads lp)

/-- R220: HOP_STAT. -/
def State.liveHop (s : State) (h : Nat) (v : RegVal) : RegVal :=
  let k := s.hop h
  (v &&& 0x7C000000) + putB 25 k.high + putB 24 k.fpend + put 21 k.pops.length + put 14 k.mpos + put 7 k.cur + put 0 k.words.length

/-- R248: a pin cell's registers. -/
def State.livePin (s : State) (p off : Nat) (v : RegVal) : RegVal :=
  let c := s.pin p
  match off with
  | 0x08 => (v &&& 0xFE000000) + putB 24 c.staged.isSome + putB 7 c.parked + putB 6 (s.padLevel p) + put 3 c.caps.length + put 0 c.q.length
  | 0x0C => match c.q with
    | m :: _ => m.target.setWidth 64
    | [] => 0
  | 0x10 => match c.q with
    | m :: _ => m.cmd.setWidth 64
    | [] => 0
  | 0x14 => c.wopen.setWidth 64
  | 0x18 => c.wclose.setWidth 64
  | _ => v

/-- R391: the Locksmith's registers. -/
def State.liveLsm (s : State) (off : Nat) (v : RegVal) : RegVal :=
  if off = 0 then (v &&& 0xC0000000) + putB 29 s.lsmOpen + putB 28 s.kcmd.isSome
  else if off = 0xC then putB 31 s.tkrev + put 24 s.fwsvn + put 8 (bitsOf 4 (fun k => (s.oslot k).rev)).toNat + bitsOf 4 (fun k => (s.oslot k).prog)
  else if 0x40 ≤ off then
    let k := s.kslot ((off - 0x40) / 4)
    put 30 k.st + put 0 (if k.st = 1 then kcvOf k.key else 0)
  else v

/-- R67: a phase line's readable state. -/
def State.liveLine (s : State) (l off : Nat) (v : RegVal) : RegVal :=
  let x := s.lineShown l
  match off with
  | 0x18 => x.pos.setWidth 64
  | 0x1C => x.posh.setWidth 64
  | 0x20 => x.vel.setWidth 64
  | 0x24 => x.acc.setWidth 64
  | 0x28 => x.innov.setWidth 64
  | 0x2C => (v &&& 0xE000) + x.stat.setWidth 64
  | _ => v

/-- R467: OCC of an up-ferry and ROOM of a down-ferry. -/
def State.ferryRoom (s : State) (n : Nat) : Nat :=
  let k := kindOf (s.rget (dnReg n 0)) false
  if k = .latest then 1 else k.room - (s.dnf n).q.length

/-- The value of a register as a read finds it, before the access codes act. -/
def State.live (s : State) (g : Reg) : RegVal :=
  let v := s.rget g
  let i := g.idx
  match g.blk with
  | .gpio => if g.off < 0x80 ∧ g.off % 0x20 = 0xC then put 0 (s.gpioIn (g.off / 0x20)) else v
  | .tlyPi => match g.off with
    | 0x24 => (v &&& 0xFE00) + (s.tport i).lv.setWidth 64
    | 0x2C => (s.tport i).count.setWidth 64
    | _ => v
  | .tlyPl => s.liveLine i g.off v
  | .cmp => if g.off = 0x10 then put 0 s.loadedBits else v
  | .lsm => s.liveLsm g.off v
  | .nty => match g.off with
    | 4 => put 0 (fld Config.devid 0 32)
    | 8 => put 0 (fld Config.devid 32 32)
    | _ => v
  | .tnkBase => if g.off < 0x80 then put 30 (s.health (g.off / 4)) + put 27 (s.spareSt (g.off / 4)) + putB 26 (s.paired (g.off / 4)) else v
  | .asy => if g.off = 8 then (v &&& 0xC0000000) + put 0 s.running.length else v
  | .chv => if g.off = 0x908 then (v &&& 0xFFFFF000) + put 0 s.records else v
  | .mac => match g.off with
    | 0x08 => put 0 (fld Config.macAddr 0 32)
    | 0x0C => put 0 (fld Config.macAddr 32 16)
    | 0x10 => put 0 s.ptpNs
    | _ => v
  | .fry => if g.off = 0 then put 0 s.frySum else v
  | .fryUp => if g.off = 4 then (v &&& 0xC000000F) + put 4 (s.upf i).q.length else v
  | .fryDn => if g.off = 4 then (v &&& 0xE000000F) + put 4 (s.ferryRoom i) else v
  | .pinBank => if g.off = 0x1C then
      (v &&& 0xF8000003) + putB 26 (s.groupSplit (2 * i) || s.groupSplit (2 * i + 1)) + put 24 (s.dom (672 + i)) else v
  | .dbg => if g.off = 0x14 then bitsOf 32 (fun r => (s.region r).frozenDone) else v
  | .wdg => if g.off < 0x50 ∧ g.off % 0x10 = 8 then put 0 (((s.wdg (g.off / 0x10)).left + 199) / 200) else v
  | .irq => match g.off with
    | 0 => put 0 s.ipend
    | 0x100 => put 0 s.mtime
    | _ => v
  | .sbank => match g.off with
    | 0x0C => (v &&& 0xFC00FFFF) + put 24 (s.dom (bankDom i))
    | 0x1C => put 0 (Config.repaired i).val
    | o => if 0x80 ≤ o then v + putB 30 (s.offersAny i ((o - 0x80) / 4)) else v
  | .hop => if g.off = 8 then s.liveHop i v else v
  | .rreq => if g.off = 4 then (List.range 16).foldl (fun a k => a + put (2 * k) (s.dom (s.gOf i k))) 0 else v
  | .mesh => if g.off = 0 then v + putB 3 (s.region i).drain + putB 2 (s.region i).gate else v
  | .pin => s.livePin i g.off v
  | .cell => s.liveCell i g.off v
  | .port => if g.off = 0 then s.livePort i v else v
  | .bm => if g.off = 0 then put 0 (s.blkCfg (i / 2) (i % 2)) else v
  | _ => v

/-- R10: what a read shows. -/
def State.shown (s : State) (g : Reg) : RegVal :=
  match g.info with
  | some i => i.shown (s.live g)
  | none => 0

/-- R10, R405, R464: what a read that is not quiet leaves: RC fields cleared, a ferry's word popped, and interrupt sources 18 (Ixzento's read
of CMP_STAT), 19 (ASY_RES) and 24 (MGT_PTPPPSIN) cleared. -/
def State.readDone (s : State) (iss : Issuer) (g : Reg) : State :=
  match g.blk, g.off with
  | .fryUp, 8 => s.rxPop g.idx
  | .asy, 0xC => { s with asyNews := false }
  | .cmp, 0 => if iss = .ixz then { s with cmpNews := false } else s
  | .mac, 0x30 => { s with ptpNews := false }
  | _, _ => match g.info with
    | some i => if i.rc = 0 then s else s.rput g (i.consumed (s.rget g))
    | none => s

/-- R389: an LSM_KLOAD register read by the debug port, a halted core or Ixzento is counted. -/
def State.keyRead (s : State) (iss : Issuer) (g : Reg) : Bool :=
  g.blk == .lsm && decide (0x20 ≤ g.off) && decide (g.off < 0x40) && (match iss with
    | .core c => s.coreHalted c
    | .ixz => true
    | .debug => true
    | .port _ _ _ => false
    | .remote _ _ _ => false)

/-- R10, R11: a read of a register that a map lists, `w` wide; `quiet` is a debug read. -/
def State.regRead (s : State) (iss : Issuer) (g : Reg) (w : Width) (quiet : Bool) : State × RegVal :=
  match g.info with
  | none => (s, 0)
  | some i =>
    if i.width != w || s.keyRead iss g then (s.viol g.blk g.idx, 0)
    else (if quiet then s else s.readDone iss g, s.shown g)

end Sys2Proof.Machine
end

