-- ==== Sys2Proof/Machine/Bus.lean ====
section
/-! DEFINITION. What a write to each register does (R10 to R12 and the register section of each block), and reads and writes of the core view (R19, R393) by Ixzento, a core and the debug port. -/

namespace Sys2Proof.Machine

/-- R417: a write in the GPIO block. -/
def State.gpioWrite (s : State) (off : Nat) (v : Word) : State :=
  let x := off / 0x20
  if off < 0x80 then match off % 0x20 with
    | 0x04 => s.gpioDo (fun s => s.rput (portReg x 0) (s.rget (portReg x 0) ||| (v.setWidth 64 &&& 0xFFFF)))
    | 0x08 => s.gpioDo (fun s => s.rput (portReg x 0) (s.rget (portReg x 0) &&& ~~~(v.setWidth 64 &&& 0xFFFF)))
    | 0x18 => s.gpioFunc x v
    | _ => s.gpioDo (fun s => s.writePlain (gpioReg off) (v.setWidth 64))
  else if off = 0x80 then s.gpioLevel v
  else if 0x100 ≤ off ∧ off < 0x140 then s.intWrite ((off - 0x100) / 4) v
  else if off = 0x180 then s.pendClear v
  else s.writePlain (gpioReg off) (v.setWidth 64)

/-- R454: a write in the Lamplighter's block. -/
def State.lmpWrite (s : State) (off : Nat) (v : Word) : State :=
  if 0x10 ≤ off ∧ off < 0x20 then s.railSet ((off - 0x10) / 4) (fld v 16 10)
  else if 0x1000 ≤ off then s.domWrite ((off - 0x1000) / 4) v
  else s.writePlain (lmpReg off) (v.setWidth 64)

/-- R391, R377: a write in the Locksmith's block. -/
def State.lsmWrite (s : State) (off : Nat) (v : Word) : State :=
  if off = 8 then s.kcmdDo (fld v 28 4) (fld v 0 3)
  else if 0x20 ≤ off ∧ off < 0x40 then s.rput (lsmReg off) (v.setWidth 64)
  else s.writePlain (lsmReg off) (v.setWidth 64)

/-- R344: a write in the Assayer's block. -/
def State.asyWrite (s : State) (off : Nat) (v : Word) : State :=
  if off = 4 then
    let s1 := s.rput (asyReg 4) (v.setWidth 64 &&& 0x700003FF)
    if bit v 31 then s1.sliceAsk (fld v 28 3) (fld v 0 10) else s1
  else s.writePlain (asyReg off) (v.setWidth 64)

/-- R421: a write in the MAC block. -/
def State.macWrite (s : State) (off : Nat) (v : BitVec 64) : State :=
  match off with
  | 4 => let s1 := s.writePlain (macReg 4) v
    if bit v 30 then s1.phyRestart else s1
  | 0x20 => s.rput (macReg 0x20) v
  | 0x28 => let s1 := s.writePlain (macReg 0x28) v
    if bit v 31 then { s1 with ptpGo := true } else s1
  | _ => s.writePlain (macReg off) v

/-- R266, R251: a W1C write to a bank; clearing SUPPLY lets its drivers on again. -/
def State.bankW1c (s : State) (b off : Nat) (v : Word) : State :=
  let s1 := s.writePlain (bankReg b off) (v.setWidth 64)
  if off = 0x1C ∧ s.rb (bankReg b 0x1C) 31 ∧ bit v 31 then s1.padsFollow ((List.range 32).map (32 * b + ·)) else s1

/-- R420: a write in the watchdog block, whose issuer the rule of R408 allows. -/
def State.wdgWrite (s : State) (off : Nat) (v : Word) : State :=
  if off < 0x50 then match off % 0x10 with
    | 0 => s.wdgCtl (off / 0x10) v
    | 4 => s.wdgKick (off / 0x10) (fld v 0 8)
    | _ => s.writePlain ⟨.wdg, 0, off⟩ (v.setWidth 64)
  else s.writePlain ⟨.wdg, 0, off⟩ (v.setWidth 64)

/-- R419: a write in the interrupt controller. -/
def State.irqWrite (s : State) (off : Nat) (v : BitVec 64) : State :=
  if 0x20 ≤ off ∧ off < 0x30 then s.msip ((off - 0x20) / 4) (v.setWidth 32) else s.writePlain (irqReg off) v

/-- R342: a write in a region's Tinker block. -/
def State.tnkWrite (s : State) (r off : Nat) (v : Word) : State :=
  let s1 := s.writePlain ⟨.tnk, r, off⟩ (v.setWidth 64)
  if off = 8 ∧ bit v 31 then s1.enterAsh r else s1

/-- R200: a write in a scratch bank's block. -/
def State.sbankWrite (s : State) (iss : Issuer) (b off : Nat) (v : Word) : State :=
  let own (f : State → State) : State := if s.bankAccepts b iss then f s else s.viol .sbank b
  if off = 4 then own (fun s => s.handWrite b v)
  else if off = 8 then own (fun s => s.scrCtlWrite b v)
  else if off = 0x18 then own (fun s => s.writePlain (sb b 0x18) (v.setWidth 64))
  else if 0x80 ≤ off then own (fun s => s.prtWrite b ((off - 0x80) / 4) v)
  else s.guarded iss .sbank b (fun s => s.writePlain (sb b off) (v.setWidth 64))

/-- R220: a write in a hopper's block. -/
def State.hopWrite (s : State) (h off : Nat) (v : Word) : State :=
  match off with
  | 4 => s.hopCtlWrite h v
  | 0xC => s.hopWmSet h v
  | _ => s.writePlain (hopReg h off) (v.setWidth 64)

/-- R467: writes to ferries. -/
def State.upWrite (s : State) (n off : Nat) (v : Word) : State :=
  if off = 0 then s.upCfg n v else s.writePlain (upReg n off) (v.setWidth 64)
def State.dnWrite (s : State) (n off : Nat) (v : BitVec 64) : State :=
  match off with
  | 0 => s.dnCfg n (v.setWidth 32)
  | 8 => s.txPut n v
  | 0x10 => s.pulseGo n (v.setWidth 32)
  | _ => s.writePlain (dnReg n off) v

/-- R480: a write in the debug block. A FEED write here does the checks of R473; the FEED command carries what the instruction does. -/
def State.dbgWrite (s : State) (g : Reg) (v : BitVec 64) : State :=
  let w := v.setWidth 32
  match g.blk, g.off with
  | .dbg, 0 => s.dbgCtl w
  | .dbg, 0x10 => s.freezeWrite w
  | .dbg, 0x18 => s.brkWrite w
  | .dbgCore, 0 => s.coreCtl g.idx w
  | .dbgCore, 8 => (s.feedStart g.idx w false).1
  | .dbgProbe, _ => (s.writePlain g v).probeMove g.idx
  | _, _ => s.writePlain g v

/-- R10, R12: a write of the right width to a register that a map lists: performed for an issuer its block accepts, else ignored and counted. -/
def State.regPut (s : State) (iss : Issuer) (g : Reg) (v : BitVec 64) : State :=
  let w := v.setWidth 32
  let i := g.idx
  let mg (f : State → State) : State := s.guarded iss g.blk i f
  match g.blk with
  | .gpio => mg (fun s => s.gpioWrite g.off w)
  | .lmp => mg (fun s => s.lmpWrite g.off w)
  | .tly => mg (fun s => if g.off = 0 then s.tlyCtlWrite w else if g.off = 0xC then s.diffWrite w else s.writePlain g v)
  | .tlyPi => mg (fun s => if g.off < 0x24 then s.piWrite i g.off w else s.writePlain g v)
  | .tlyPl => mg (fun s => if g.off = 0 then s.plCtlWrite i w else if g.off = 0x30 then s.holdWrite i w else s.writePlain g v)
  | .cmp => mg (fun s => if g.off = 4 then s.cmpCtl w else s.writePlain g v)
  | .lsm => if complexIssuer iss then s.lsmWrite g.off w else s.viol .lsm 0
  | .nty => if complexIssuer iss then s.writePlain g v else s.viol .nty 0
  | .tnkBase => mg (fun s => s.writePlain g v)
  | .asy => mg (fun s => s.asyWrite g.off w)
  | .chv => mg (fun s => if g.off = 0x900 then s.sysidSet w else s.writePlain g v)
  | .chvL => mg (fun s => if g.off = 0 then s.linkCtl i w else s.writePlain g v)
  | .mac => mg (fun s => s.macWrite g.off v)
  | .fry => mg (fun s => s.writePlain g v)
  | .fryUp => mg (fun s => s.upWrite i g.off w)
  | .fryDn => mg (fun s => s.dnWrite i g.off v)
  | .pinBank => mg (fun s => s.bankW1c i g.off w)
  | .dbg => s.debugOnly iss (fun s => s.dbgWrite g v)
  | .dbgCore => s.debugOnly iss (fun s => s.dbgWrite g v)
  | .dbgTap => s.debugOnly iss (fun s => s.dbgWrite g v)
  | .dbgProbe => s.debugOnly iss (fun s => s.dbgWrite g v)
  | .wdg => if (if g.off < 0x50 then wdgAccepts (g.off / 0x10) iss else mgmtIssuer iss) then s.wdgWrite g.off w else s.viol .wdg 0
  | .irq => mg (fun s => s.irqWrite g.off v)
  | .tnk => mg (fun s => s.tnkWrite i g.off w)
  | .sbank => s.sbankWrite iss i g.off w
  | .hop => mg (fun s => s.hopWrite i g.off w)
  | .rreq => if g.off = 0 then (if s.rreqAccepts iss i then s.rreqWrite i w else s.viol .rreq i) else mg (fun s => s.writePlain g v)
  | .mesh => mg (fun s => s.writePlain g v)
  | .pin => mg (fun s => if g.off = 4 then s.pinCtlWrite i w else s.writePlain g v)
  | .cell => mg (fun s => s.writePlain g v)
  | .port => mg (fun s => s.writePlain g v)
  | .bm => mg (fun s => s.writePlain g v)

/-- R11: a write of the wrong width is ignored and counted. -/
def State.regWrite (s : State) (iss : Issuer) (g : Reg) (w : Width) (v : BitVec 64) : State :=
  match g.info with
  | none => s
  | some i => if i.width != w then s.viol g.blk g.idx else s.regPut iss g v

/-! The core view. -/

/-- The region whose window holds a place. -/
def Place.region : Place → Option Nat
  | .reg g => match g.blk with
    | .tnk => some g.idx | .sbank => some (g.idx / 4) | .hop => some (g.idx / 8) | .rreq => some g.idx | .mesh => some g.idx
    | .pin => some (g.idx / 24) | .cell => some (g.idx / 1088) | .port => some (g.idx / 68) | .bm => some (g.idx / 34)
    | _ => none
  | .rsvd b i => match b with
    | .tnk => some i | .sbank => some (i / 4) | .hop => some (i / 8) | .rreq => some i | .mesh => some i
    | .pin => some (i / 24) | .cell => some (i / 1088) | .port => some (i / 68) | .bm => some (i / 34)
    | _ => none
  | .scratch b _ _ => some (b / 4)
  | .hopPort h _ => some (h / 8)
  | .readback r _ => some r
  | .win r => some r
  | _ => none

/-- R12, R19, R31: an access to reserved space of a block: counted in the region's TNK_VIOL in a region's window, but for writes whose block
counts every write it does not accept, and in the block's own counter elsewhere. -/
def State.rsvdViol (s : State) (b : Blk) (i : Nat) (iss : Issuer) (write : Bool) : State :=
  match (Place.rsvd b i).region with
  | none => s.viol b i
  | some r =>
    let own := match b with
      | .sbank => write
      | .hop => write
      | .pin => write
      | .rreq => write
      | .bm => write
      | _ => write && !mgmtIssuer iss
    if own then s.viol b i else s.viol .tnk r

/-- R356, R359: a word of region r's control frame as its latches stand: the Tinker's, hoppers' and Porters' settings, and each bank's owner,
SCRUBEN and AUTOWAKE; the commands SETOWN and CLEAR no latch holds. -/
def State.controlWord (s : State) (r b : Nat) : Word :=
  let lo (g : Reg) (mask : RegVal) : Word := (s.rget g &&& mask).setWidth 32
  if b = 0 then lo ⟨.tnk, r, 0⟩ 0xFF000000
  else if b < 100 then
    let h := r * 8 + (b - 4) / 12
    match (b - 4) / 4 % 3 with
    | 0 => lo (hopReg h 0) 7
    | 1 => lo (hopReg h 0xC) 0x007F007F
    | _ => lo (hopReg h 0x10) 0xC000001F
  else if b < 0x80 then 0
  else if b < 0xA0 then
    let k := r * 4 + (b - 0x80) / 8
    if b / 4 % 2 = 0 then lo (sb k 0) 0xE0FFFF8F
    else BitVec.ofNat 32 (b2n (s.rb (sb k 8) 0) * 2 ^ 29 + b2n (s.rb (sb k 8) 2) * 2 ^ 28)
  else if b < 0x1E0 then lo (prtReq (r * 4 + (b - 0xA0) / 80) ((b - 0xA0) % 80 / 4)) 0x80003F07
  else 0

/-- R359: a word of the frame readback window: the live latches or memory of the physical cluster now mapped. Bits no latch holds are zero. -/
def State.readbackWord (s : State) (r off : Nat) : Tok :=
  let k := off / 0x80000
  let c := off % 0x80000 / 0x8000
  let i := off % 0x8000 / 0x200
  let b := off % 0x200
  let g := s.gOf r c
  match k with
  | 0 => { d := if i < 18 then BitVec.ofNat 32 (s.cfgLE 0 g i b 4) else 0 }
  | 1 => bmToken (s.bmEntry (2 * g + i / 32) (i % 32 * 512 + b) 4)
  | 2 => { d := if c ≠ 0 ∨ 8 ≤ i then 0 else if 0 < i then BitVec.ofNat 32 (s.cfgLE 2 r i b 4)
      else if b < 16 then (s.rget (meshReg r (0x10 + b))).setWidth 32 else 0 }
  | 3 => { d := if c ≠ 0 ∨ i ≠ 0 ∨ 384 ≤ b ∨ b % 16 ≠ 0 then 0 else (s.rget (pinReg (r * 24 + b / 16) 0) &&& 0xFFFE0000).setWidth 32 }
  | _ => { d := if c ≠ 0 ∨ i ≠ 0 then 0 else s.controlWord r b }

/-- R359, R31: a read of the readback window: forbidden at an encrypted design, outside the frame kinds, and at the wrong width or alignment. -/
def State.readbackRead (s : State) (r off : Nat) (w : Width) : State × Tok :=
  if w != .b32 || decide (off % 4 ≠ 0) || decide (5 ≤ off / 0x80000) || s.rb (cmpReg 0x14) r then (s.viol .tnk r, {})
  else (s, s.readbackWord r off)

/-- R203: a read of PUSH: the free entries. -/
def State.pushRead (s : State) (h : Nat) (w : Width) : State × Tok :=
  if s.hopPStream h || w != .b32 then (s.viol .hop h, {}) else (s, { d := BitVec.ofNat 32 (64 - (s.hop h).words.length) })

/-- A byte of management SRAM or DRAM, by its address in the core view; one that nothing has written is arbitrary (log entry 3). -/
def State.memGet (s : State) (a : Nat) : Byte := (s.memByte a).getD ((Config.freeCell 3 s.memEpoch a).setWidth 8)

/-- `n` bytes of memory as a little-endian number. -/
def State.memRead (s : State) (a n : Nat) : Nat := ofLE ((List.range n).map (fun i => s.memGet (a + i)))

/-- `n` bytes of a number written to memory. -/
def State.memWrite (s : State) (a n v : Nat) : State := s.each (List.range n) (fun s i => s.setMemByte (a + i) (some (BitVec.ofNat 8 (v / 256 ^ i))))

/-- R10: a debug read without OP consuming. -/
def quietRead (iss : Issuer) (consume : Bool) : Bool := iss == .debug && !consume

/-- The core whose own private port an access of this issuer reaches: Ixzento runs on core 0 (R396). -/
def privCore : Issuer → Option Nat
  | .core c => some c
  | .ixz => some 0
  | .debug => none
  | .port _ _ _ => none
  | .remote _ _ _ => none

/-- R418: a read of the private GPIO port. -/
def State.privRead (s : State) (off : Nat) : BitVec 64 :=
  match off with
  | 0x10 => (List.range 4).foldl (fun a x => a + put (16 * x) (s.rf (portReg x 0) 0 16)) 0
  | 0x18 => (List.range 4).foldl (fun a x => a + put (16 * x) (s.gpioIn x)) 0
  | _ => 0

/-- R400, R418: a write of the private GPIO port by core c. -/
def State.privWrite (s : State) (c off : Nat) (v : BitVec 64) : State :=
  match off with
  | 0x00 => s.privDo c v (· ||| ·)
  | 0x08 => s.privDo c v (fun o w => o &&& ~~~w)
  | 0x10 => s.privDo c v (fun _ w => w)
  | _ => s

/-- R136, R394: an address whose accesses cross the fabric. -/
def inFabric (addr : Nat) : Bool := (placeOf addr).region.isSome

/-- A read of the base die by Ixzento, a core or the debug port; `consume` asks the debug port's read to consume (R471). An address of the fabric
is not read here. -/
def State.busRead (s : State) (iss : Issuer) (addr : Nat) (w : Width) (consume : Bool) : State × BitVec 64 :=
  match placeOf addr with
  | .reg g => if inFabric addr then (s, 0) else s.regRead iss g w (quietRead iss consume)
  | .rsvd b i => if inFabric addr then (s, 0) else (s.rsvdViol b i iss false, 0)
  | .scratch _ _ _ => (s, 0)
  | .hopPort _ _ => (s, 0)
  | .readback _ _ => (s, 0)
  | .win _ => (s, 0)
  | .priv off => if (privCore iss).isSome && w == .b64 && decide (off % 8 = 0) then (s, s.privRead off) else (s.viol .irq 0, 0)
  | .rom => (s, Config.freeCell 6 0 addr)
  | .sram _ => (s, BitVec.ofNat 64 (s.memRead addr (widthBytes w)))
  | .dram _ => (s, BitVec.ofNat 64 (s.memRead addr (widthBytes w)))
  | .staging => (s.viol .irq 0, 0)
  | .kernel => (s.bumpFree, BitVec.ofNat 64 (s.freeNow.toNat % 256 ^ widthBytes w))
  | .serial o => s.serialRead o w (quietRead iss consume)
  | .nowhere => (s.viol .irq 0, 0)

/-- A write of the base die by Ixzento, a core or the debug port. The boot ROM takes it without an effect. An address of the fabric is not
written here. -/
def State.busWrite (s : State) (iss : Issuer) (addr : Nat) (w : Width) (v : BitVec 64) : State :=
  match placeOf addr with
  | .reg g => if inFabric addr then s else s.regWrite iss g w v
  | .rsvd b i => if inFabric addr then s else s.rsvdViol b i iss true
  | .scratch _ _ _ => s
  | .hopPort _ _ => s
  | .readback _ _ => s
  | .win _ => s
  | .priv off => match privCore iss with
    | some c => if w == .b64 && decide (off % 8 = 0) then s.privWrite c off v else s.viol .irq 0
    | none => s.viol .irq 0
  | .rom => s
  | .sram _ => s.memWrite addr (widthBytes w) v.toNat
  | .dram _ => s.memWrite addr (widthBytes w) v.toNat
  | .staging => s.viol .irq 0
  | .kernel => s
  | .serial o => s.serialWrite o v
  | .nowhere => s.viol .irq 0

/-! Accesses in flight that end at the register gate of a region (R136), or at a hopper's PUSH. -/

/-- R118, R507: the register gate refuses a poisoned access. -/
def State.gatePoison (s : State) (r : Nat) (f : Flight) : State := (s.poison r .hopReg).answer f.id (poisonAnswer f.kind)

/-- REGISTER_READ of an access in flight. -/
def State.flightRead (s : State) (f : Flight) : State :=
  let ans (x : State × Tok) : State := x.1.answer f.id (.word x.2)
  let pl := placeOf f.addr
  match pl, pl.region with
  | .hopPort h false, _ => if f.poison then (s.hopPoison h).answer f.id (.word { p := true }) else ans (s.pushRead h f.w)
  | .hopPort _ true, _ => s
  | .scratch _ _ _, _ => s
  | .readback r off, _ => if f.poison then s.gatePoison r f else ans (s.readbackRead r off f.w)
  | .reg g, some r => if f.poison then s.gatePoison r f
    else let (s1, v) := s.regRead f.iss g f.w f.quiet
      ans (s1, { d := v.setWidth 32 })
  | .rsvd b i, some r => if f.poison then s.gatePoison r f else ans (s.rsvdViol b i f.iss false, {})
  | .win r, _ => if f.poison then s.gatePoison r f else ans (s.viol .tnk r, {})
  | _, _ => s

/-- REGISTER_WRITE of an access in flight. -/
def State.flightWrite (s : State) (f : Flight) : State :=
  let pl := placeOf f.addr
  match pl, pl.region with
  | .readback r _, _ => if f.poison then s.gatePoison r f else (s.viol .tnk r).answer f.id .done
  | .reg g, some r => if f.poison then s.gatePoison r f else (s.regWrite f.iss g f.w (f.data.d.setWidth 64)).answer f.id .done
  | .rsvd b i, some r => if f.poison then s.gatePoison r f else (s.rsvdViol b i f.iss true).answer f.id .done
  | .win r, _ => if f.poison then s.gatePoison r f else (s.viol .tnk r).answer f.id .done
  | _, _ => s

/-- An access of requester 17 sets out for the fabric, in the Sepia class (R186, R394, R435, R471); `quiet` is a debug read that consumes
nothing. -/
def State.toFabric (s : State) (iss : Issuer) (addr : Nat) (w : Width) (k : AKind) (v : Word) (quiet : Bool) : State :=
  s.launch { iss := iss, lp := 4096, tc := 3, kind := k, addr := addr, data := { d := v }, w := w, quiet := quiet }

/-- R393: an address of the DRAM. -/
def isDram (addr : Nat) : Bool := decide (0x40000000 ≤ addr ∧ addr < 0x60000000)

/-- The issuers of a direct access: a core to the base die, Ixzento, and the debug port; an access of a core to the fabric is CORE_FABRIC_LOAD's
or CORE_FABRIC_STORE's (R394). One to the DRAM waits until its die is Lit (R447). -/
def State.directOk (s : State) (iss : Issuer) (addr : Nat) : Bool :=
  (s.dramLit || !isDram addr) && match iss with
  | .core _ => decide (addr < 0x100000000)
  | .ixz => true
  | .debug => true
  | .port _ _ _ => false
  | .remote _ _ _ => false

/-- REGISTER_READ (R10): the value goes to the access's reply, or to `rdata`; a direct access to the fabric sets out for it. -/
def execRegisterRead (w : RegAccess) (s : State) : Out :=
  match w with
  | .flight id => match s.flight id with
    | some f => ok (if f.kind = .read ∧ s.gateReady f then s.flightRead f else s)
    | none => ok s
  | .direct iss addr w =>
    if iss = .debug ∨ !s.directOk iss addr then ok s
    else if inFabric addr then ok (s.toFabric iss addr w .read 0 false)
    else
      let (s1, d) := s.busRead iss addr w false
      ok { s1 with rdata := d }

/-- R10: a register write by an access in flight, or direct; a direct one to the fabric sets out for it. -/
def State.registerWrite (s : State) (w : RegAccess) (v : BitVec 64) : State :=
  match w with
  | .flight id => match s.flight id with
    | some f => if f.kind = .write ∧ s.gateReady f then s.flightWrite f else s
    | none => s
  | .direct iss addr w =>
    if !s.directOk iss addr then s
    else if inFabric addr then s.toFabric iss addr w .write (v.setWidth 32) false
    else s.busWrite iss addr w v

/-! Replies and reports (R117, R134, R157), and the cores' fabric accesses (R160, R394). -/

/-- R134: no read of the port that left REQ earlier is still to be answered. -/
def State.firstRead (s : State) (f : Flight) : Bool :=
  (s.flights.takeWhile (fun x => x.id != f.id)).all (fun x => x.orphan || !(x.kind == .read && x.iss == f.iss))

/-- R149, R163: the reports of a port whose cluster is held wait in the last mesh stage. -/
def State.portTakes (s : State) (lp : Nat) : Bool := (s.members (lpR lp) (lpC lp)).all (fun g => !s.portsShut g)

/-- R160, R396: a fabric access of core c; Ixzento runs on core 0. -/
def ofCore (c : Nat) (f : Flight) : Bool := f.iss == .core c || (c == 0 && f.iss == .ixz)

/-- R160: a waiting FENCE of core c is done once none of its accesses is in flight. -/
def State.fenceCheck (s : State) (c : Nat) : State :=
  if (s.core c).fence && s.flights.all (fun f => !ofCore c f) then s.setCore c { s.core c with fence := false } else s

/-- R394, R472, R473: the fabric load that blocks core c returns; a halt asked for takes effect, and a fed load is complete. -/
def State.coreLoadEnd (s : State) (c : Nat) (d : RegVal) : State :=
  let s1 := ({ s with rdata := d }.setCore c { s.core c with load := none }).rsetb (dbgCore c 4) 29 false
  if (s1.core c).haltReq then s1.haltNow c 3 else s1

/-- R394: MGT_FSTAT records an event of core c. -/
def State.fstat (s : State) (c i : Nat) : State := (s.sticky (irqReg 0x34) i).rsetf (irqReg 0x34) 28 2 c

/-- The token of a read's answer. -/
def Answer.tok : Answer → Tok
  | .word t => t
  | .done => {}
  | .quarantined => { p := true }
  | .unreachable => { p := true }

/-- R117, R134, R148, R394: the reply of read `id` reaches its issuer; Ixzento's are in Machine/IxRows.lean. -/
def accessReply (id : Nat) (s : State) : Out :=
  match s.flight id with
  | none => ok s
  | some f => if !f.path.isEmpty then ok s else match f.kind, f.ans with
    | .read, some a => match f.iss with
      | .port r lc p =>
        if f.orphan then ok (s.dropFlight id)
        else if !s.firstRead f || (s.aport f.lp).rep.tok.isSome || !s.portTakes f.lp then ok s
        else
          let s1 := (s.dropFlight id).putReply f.lp a.tok
          ok (if a = .quarantined then s1.refuseAtPort r lc p else s1)
      | .core c =>
        let s1 := s.dropFlight id
        if (s.core c).load = some id then
          let s2 := if a.tok.p then s1.fstat c 30 else s1
          ok ((s2.coreLoadEnd c (a.tok.d.setWidth 64)).fenceCheck c)
        else ok (s1.fenceCheck c)
      | .remote _ _ _ => match f.from_ with
        | some (pkg, h1, _) => ok ((s.dropFlight id).sendReply f.tc (replyMsg s.ownPkg pkg h1 .read a))
        | none => ok (s.dropFlight id)
      | .ixz => ok (s.dropFlight id)
      | .debug => ok (s.dropFlight id)
    | _, _ => ok s

/-- R157: the report of write `id` reaches its issuer. -/
def State.completionReport (s : State) (id : Nat) : State :=
  match s.flight id with
  | none => s
  | some f => if !f.path.isEmpty then s else match f.kind, f.ans with
    | .write, some a => match f.iss with
      | .port r lc p =>
        if f.orphan then s.dropFlight id
        else if !s.portTakes f.lp then s
        else if a = .quarantined then (s.dropFlight id).refuseAtPort r lc p else s.dropFlight id
      | .core c => (s.dropFlight id).fenceCheck c
      | .remote _ _ _ => match f.from_ with
        | some (pkg, h1, _) => (s.dropFlight id).sendReply f.tc (replyMsg s.ownPkg pkg h1 .write a)
        | none => s.dropFlight id
      | .ixz => s.dropFlight id
      | .debug => s.dropFlight id
    | _, _ => s

/-- The core is free to issue: it runs, no load blocks it, no FENCE waits. -/
def State.coreFree (s : State) (c : Nat) : Bool := s.coreRuns c && (s.core c).load.isNone && !(s.core c).fence

/-- R393, R394: a fabric load by core c; outside the fabric's windows it is reserved space of the core view (R393). -/
def State.coreLoad (s : State) (c addr : Nat) (w : Width) : State :=
  if !inFabric addr then { (s.viol .irq 0) with rdata := 0 }
  else (s.toFabric (.core c) addr w .read 0 false).setCore c { s.core c with load := some s.nextId }

/-- R160, R394: a fabric store by core c; while 16 are posted the core waits. -/
def State.coreStore (s : State) (c addr : Nat) (w : Width) (v : BitVec 64) : State :=
  if !inFabric addr then s.viol .irq 0
  else if 16 ≤ (s.flights.filter (fun f => f.iss == .core c && f.kind == .write)).length then s
  else s.toFabric (.core c) addr w .write (v.setWidth 32) false

/-- CORE_FABRIC_LOAD (R394). -/
def execCoreFabricLoad (c : Fin 4) (addr : BitVec 64) (w : Width) (s : State) : Out :=
  ok (if s.coreFree c.val && decide (0x100000000 ≤ addr.toNat) then s.coreLoad c.val addr.toNat w else s)

/-- CORE_FABRIC_STORE (R160, R394). -/
def execCoreFabricStore (c : Fin 4) (addr : BitVec 64) (w : Width) (v : BitVec 64) (s : State) : Out :=
  ok (if s.coreFree c.val && decide (0x100000000 ≤ addr.toNat) then s.coreStore c.val addr.toNat w v else s)

/-- CORE_FENCE (R160): the core waits while an earlier fabric access of its own is in flight. -/
def execCoreFence (c : Fin 4) (s : State) : Out :=
  ok (if s.coreFree c.val && s.flights.any (ofCore c.val) then s.setCore c.val { s.core c.val with fence := true } else s)

/-- R394: no reply within MGT_FCTL.FTMO µs: the load returns zero; a later reply is discarded. -/
def State.loadTimeout (s : State) (c : Nat) : State := (s.fstat c 31).coreLoadEnd c 0

/-- FEED (R473): a fed instruction on a halted core, with what it does outside the core. -/
def State.feedIn (s : State) (c : Nat) (insn : Word) (eff : FedEffect) : State :=
  let (s1, go) := s.feedStart c insn (eff = .trap)
  if !go then s1
  else match eff with
    | .inside => s1
    | .trap => s1
    | .load addr w =>
      if 0x100000000 ≤ addr then
        let s2 := s1.coreLoad c addr w
        s2.rsetb (dbgCore c 4) 29 (s2.core c).load.isSome
      else let (s2, d) := s1.busRead (.core c) addr w false
        { s2 with rdata := d }
    | .store addr w v => if 0x100000000 ≤ addr then s1.coreStore c addr w v else s1.busWrite (.core c) addr w v
    | .scratch v => s1.rput (dbgCore c 0x10) v

end Sys2Proof.Machine
end

