-- ==== Sys2Proof/Machine/IxPacket.lean ====
section
/-! DEFINITION. Ixzento's packets, transports, sessions and replies (R422 to R434): what every opcode shares. -/

namespace Sys2Proof.Machine

/-- R422: a packet: its header fields and the bytes that follow the header. -/
structure Pkt where
  vmaj : Nat
  vmin : Nat
  op : Nat
  flags : Nat
  seq : Word
  len : Nat
  sid : Nat
  params : List Byte
  deriving DecidableEq, Repr

/-- R423 step 1: a packet of 16 bytes or more with the right MAGIC and HCRC. -/
def parsePkt (b : List Byte) : Option Pkt :=
  if b.length < 16 ∨ slice b 0 2 ≠ [0x58, 0x4E] ∨ (crc16 (b.take 14)).toNat ≠ beAt b 14 2 then none
  else some ⟨beAt b 2 1, beAt b 3 1, beAt b 4 1, beAt b 5 1, BitVec.ofNat 32 (beAt b 6 4), beAt b 10 2, beAt b 12 2, b.drop 16⟩

/-- R422: REPLY. -/
def Pkt.isReply (k : Pkt) : Bool := decide (128 ≤ k.flags)

/-- R422: a packet's bytes; `ver` is the major version times 256 plus the minor. -/
def mkPkt (ver op flags : Nat) (seq : Word) (sid : Nat) (p : List Byte) : List Byte :=
  let h := [0x58#8, 0x4E#8] ++ be 2 ver ++ be 1 op ++ be 1 flags ++ be 4 seq.toNat ++ be 2 p.length ++ be 2 sid
  h ++ be 2 (crc16 h).toNat ++ p

/-- R424: a reply's bytes: the status prefix, then the results. -/
def replyPkt (ver op : Nat) (seq : Word) (sid st det : Nat) (res : List Byte) : List Byte :=
  mkPkt ver op 0x80 seq sid (be 1 st ++ be 1 det ++ be 2 0 ++ res)

/-- R434: the codes of STATUS. -/
abbrev stOk : Nat := 0x00
abbrev stInProgress : Nat := 0x01
abbrev stBusy : Nat := 0x02
abbrev stBadVersion : Nat := 0x03
abbrev stBadOpcode : Nat := 0x04
abbrev stBadLength : Nat := 0x05
abbrev stBadParam : Nat := 0x06
abbrev stNoSession : Nat := 0x07
abbrev stSessionFull : Nat := 0x08
abbrev stSequence : Nat := 0x09
abbrev stDenied : Nat := 0x0A
abbrev stTimeout : Nat := 0x0B
abbrev stUnreached : Nat := 0x0C
abbrev stFlashFail : Nat := 0x0D
abbrev stLoadFail : Nat := 0x10
abbrev stQuarantined : Nat := 0x11
abbrev stCheckFail : Nat := 0x12
abbrev stKeyFail : Nat := 0x13

/-- R435: an opcode's minor version and who may use it: 0 session 0 too, 1 OBSERVE or CONTROL, 2 CONTROL. -/
def ixTable : List (Nat × Nat × Nat) :=
  [(0x00, 0, 0), (0x01, 0, 0), (0x02, 0, 1), (0x03, 0, 1), (0x04, 0, 1), (0x08, 2, 2),
   (0x10, 0, 1), (0x11, 0, 1), (0x12, 0, 1), (0x13, 0, 2),
   (0x30, 0, 2), (0x31, 0, 2), (0x32, 0, 2), (0x33, 0, 2), (0x34, 0, 2), (0x36, 0, 2), (0x37, 0, 2), (0x38, 0, 1),
   (0x50, 0, 2), (0x51, 0, 1), (0x52, 0, 2), (0x60, 0, 2), (0x61, 0, 2), (0x62, 0, 1), (0x64, 1, 1),
   (0x70, 0, 1), (0x71, 0, 2), (0x72, 0, 2), (0x73, 0, 2), (0x74, 0, 2), (0x75, 0, 2),
   (0x80, 0, 1), (0x81, 0, 2), (0x83, 1, 2), (0x84, 1, 2), (0x85, 1, 2),
   (0x90, 0, 1), (0x91, 0, 1), (0x92, 0, 1), (0x93, 0, 2), (0x94, 0, 2), (0x95, 2, 2)]
def ixEntry (op : Nat) : Option (Nat × Nat) := (ixTable.find? (fun e => e.1 == op)).map (·.2)

/-- R438: the opcodes of the boot ROM's recovery; PUSH_BEGIN only to a firmware slot. -/
def recoveryOp (k : Pkt) : Bool :=
  [0x00, 0x01, 0x02, 0x03, 0x04, 0x10, 0x32, 0x33, 0x74].contains k.op || (k.op == 0x31 && (beAt k.params 0 1 == 0x10 || beAt k.params 0 1 == 0x11))

/-- R432, R435, R438: the opcode is listed, in the minor version, and in recovery one of its subset. -/
def State.opKnown (s : State) (k : Pkt) (minor : Nat) : Bool :=
  (match ixEntry k.op with
    | some e => decide (e.1 ≤ minor)
    | none => false) && (!s.recovery || recoveryOp k)

/-- R435: the parameter bytes each opcode takes, from and up to. -/
def ixLens : List (Nat × Nat × Nat) :=
  [(0x01, 8, 8), (0x02, 384, 384), (0x08, 20, 1436), (0x12, 4, 4), (0x30, 4, 4), (0x31, 8, 8), (0x32, 4, 1028), (0x33, 32, 32),
   (0x36, 8, 1032), (0x37, 8, 8), (0x38, 12, 12), (0x50, 4, 4), (0x51, 4, 4), (0x52, 4, 4), (0x60, 40, 40), (0x61, 28, 28), (0x62, 4, 4),
   (0x64, 4, 4), (0x71, 4, 4), (0x72, 4, 4), (0x73, 4, 4), (0x74, 4, 4), (0x75, 4, 4), (0x80, 12, 12), (0x81, 12, 1036), (0x83, 4, 4),
   (0x84, 4, 260), (0x85, 4, 4), (0x90, 32, 32), (0x91, 8, 8), (0x93, 36, 36), (0x94, 36, 36), (0x95, 4, 4)]
def lenOk (op n : Nat) : Bool :=
  match ixLens.find? (fun e => e.1 == op) with
  | some e => decide (e.2.1 ≤ n) && decide (n ≤ e.2.2)
  | none => n == 0

/-- R431: the highest version: 1.2, or 1.0 in recovery (R438). -/
def State.ixTop (s : State) : Nat := if s.recovery then 0x0100 else 0x0102

/-- R395, R396, R472: Ixzento, or the boot ROM in recovery, runs on core 0. -/
def State.ixRuns (s : State) : Bool :=
  (s.fw.isSome || s.recovery) && !s.bootDue && !s.hot && s.vin && s.coreRuns 0

/-! Sending (R425 to R427). -/

/-- R286, R426: the parts of a packet as MGMT messages. -/
def mgmtParts (own pkg plen : Nat) : Nat → Nat → List Byte → List Msg
  | 0, _, _ => []
  | k + 1, frag, b =>
    let part := b.take 44
    let words := (List.range ((part.length + 3) / 4)).map (fun i => BitVec.ofNat 32 (leAt part (4 * i) 4))
    let last := decide (b.length ≤ 44)
    Msg.of 7 pkg own (BitVec.ofNat 32 (plen * 2 ^ 16 + frag * 2 ^ 8 + b2n last * 2 ^ 7)) words ::
      (if last then [] else mgmtParts own pkg plen k (frag + 1) (b.drop 44))

/-- R426: a packet to a package; one to this package itself arrives here. -/
def State.sendMgmt (s : State) (pkg : Nat) (b : List Byte) : State :=
  if pkg = s.ownPkg then { s with mgmtIn := s.mgmtIn ++ [(pkg, b)] }
  else s.each (mgmtParts s.ownPkg pkg b.length 34 0 b) (fun s m => s.forward none 3 m)

/-- R395, R425 to R427: a packet to an endpoint. -/
def State.ixSend (s : State) (ep : Endpoint) (b : List Byte) : State :=
  match ep with
  | .udp a p => { s with ixOut := s.ixOut ++ [(.udp a p, b)] }
  | .mailbox h => { s with ixOut := s.ixOut ++ [(.mailbox h, b)] }
  | .uart => { s with ixOut := s.ixOut ++ [(.uart, b)] }
  | .choval pkg => s.sendMgmt pkg b

/-! Sessions (R428 to R433). -/

/-- The open session with a value. -/
def State.session (s : State) (sid : Nat) : Option Session := s.ix.sessions.find? (fun x => x.id == sid)

/-- An open session replaced. -/
def State.setSession (s : State) (x : Session) : State :=
  { s with ix := { s.ix with sessions := s.ix.sessions.map (fun y => if y.id = x.id then x else y) } }

/-- R428, R436, R439: a session closes: its open push is abandoned, the requests it holds are not performed, and the reply of the one that runs
is discarded. -/
def State.closeSession (s : State) (sid : Nat) : State :=
  { s with ix := { s.ix with
      sessions := s.ix.sessions.filter (fun x => x.id != sid),
      push := match s.ix.push with
        | some p => if p.session = sid then none else some p
        | none => none } }

/-- R429: the CONTROL session. -/
def State.controller (s : State) : Option Session := s.ix.sessions.find? (fun x => x.control)

/-- A request being performed: its session (0 for none), its endpoint, opcode, SEQ, agreed minor version and parameters. -/
structure Req where
  sid : Nat := 0
  ep : Endpoint
  op : Nat
  seq : Word
  minor : Nat := 0
  p : List Byte := []
  deriving DecidableEq, Repr

/-- R431, R434: what a reply carries after the status: BAD_VERSION the versions served. -/
def State.versions (s : State) : List Byte := be 2 0x0100 ++ be 2 s.ixTop

/-- R424, R433: the reply of a request: stored in its session, whose next request may run; discarded if the session has closed (R439). -/
def State.ixReply (s : State) (q : Req) (st det : Nat) (res : List Byte) : State :=
  match s.session q.sid with
  | some x =>
    let b := replyPkt (if st = stBadVersion then 0x0100 else 0x0100 + x.minor) q.op q.seq q.sid st det res
    (s.setSession { x with replies := ((q.seq, b) :: x.replies).take 16, run := none }).ixSend x.ep b
  | none => if q.sid = 0 then s.ixSend q.ep (replyPkt 0x0100 q.op q.seq 0 st det res) else s

/-- A reply that is not a request's own: nothing is stored. -/
def State.ixTell (s : State) (ep : Endpoint) (ver : Nat) (k : Pkt) (st : Nat) (res : List Byte) : State :=
  s.ixSend ep (replyPkt ver k.op k.seq k.sid st 0 res)

/-- A request goes on running. -/
def State.ixWait (s : State) (q : Req) (w : IxWait) : State :=
  match s.session q.sid with
  | some x => s.setSession { x with run := some ⟨q.op, q.seq, w⟩ }
  | none => s

/-- The request that runs in a session. -/
def Session.req (x : Session) (r : Running) : Req := ⟨x.id, x.ep, r.op, r.seq, x.minor, []⟩

/-- R423: a packet discarded without a reply. -/
def State.ixDrop (s : State) : State := { s with ix := { s.ix with dropped := satAdd 0xFFFFFFFF s.ix.dropped 1 } }

/-! Register accesses (R435): as requester 17, not as debug reads. -/

/-- R436: what a read of TLY_PIn_LOST found, added to the saturating copy. -/
def State.addLost (s : State) (p : Nat) (v : RegVal) : State :=
  let old := Store.get 0 s.ix.lost p
  let new := (List.range 4).foldl (fun a i => a + put (8 * i) (satAdd 255 (fld old (8 * i) 8) (fld v (8 * i) 8))) (0 : RegVal)
  { s with ix := { s.ix with lost := Store.put 0 s.ix.lost p new } }

/-- A read of a register of 32 bits. -/
def State.ixRead (s : State) (g : Reg) : State × Nat :=
  let (s1, v) := s.regRead .ixz g .b32 false
  (if g.blk = .tlyPi ∧ g.off = 0x28 then s1.addLost g.idx v else s1, v.toNat)

/-- Reads of registers, their values as they stand in a reply. -/
def State.ixReads (s : State) : List Reg → State × List Byte
  | [] => (s, [])
  | g :: t =>
    let (s1, v) := s.ixRead g
    let (s2, b) := s1.ixReads t
    (s2, be 4 v ++ b)

/-- A write of a register of 32 bits. -/
def State.ixPut (s : State) (g : Reg) (v : Nat) : State := s.regWrite .ixz g .b32 (BitVec.ofNat 64 (v % 2 ^ 32))

/-- A reply that ends with the values of registers. -/
def State.ixReplyRegs (s : State) (q : Req) (st det : Nat) (gs : List Reg) : State :=
  let (s1, b) := s.ixReads gs
  s1.ixReply q st det b

/-- BAD_PARAM at an offset. -/
def State.badParam (s : State) (q : Req) (off : Nat) : State := s.ixReply q stBadParam off []

/-- A read of the base die. -/
def State.ixBusRead (s : State) (addr : Nat) (w64 : Bool) : State × BitVec 64 :=
  let (s1, d) := s.busRead .ixz addr (width64 w64) false
  (match placeOf addr with
    | .reg g => if g.blk = .tlyPi ∧ g.off = 0x28 then s1.addLost g.idx d else s1
    | _ => s1, d)

end Sys2Proof.Machine
end

