-- ==== Sys2Proof/Machine/IxOps.lean ====
section
/-! DEFINITION. What Ixzento's opcodes do (R430, R431, R435 to R437), one operation each. The commands that bring them are in Machine/IxRows.lean. -/

namespace Sys2Proof.Machine

/-! Session group (R428 to R431). -/

/-- HELLO. -/
def State.ixHello (s : State) (q : Req) : State :=
  s.ixReply q stOk 0 (s.versions ++ be 2 0x0032 ++ be 1 0xA1 ++ be 1 0 ++ be 2 s.ownPkg ++ be 2 0 ++ be 8 Config.devid.toNat)

/-- R428: a session value: nonzero and not one of the last 65,534 openings; which of them is open (log entry 2). -/
def freshId (used : List Nat) : Nat → Nat → Nat
  | 0, x => x
  | k + 1, x => if x = 0 ∨ used.contains x then freshId used k ((x + 1) % 65536) else x

/-- R430: the key record holds no key. -/
def State.noKeys (s : State) : Bool :=
  (s.record 2).elim true (fun b => decide (ofLE b = 0))

/-- R430, R438: CONTROL on this endpoint needs proof; on UART0 as on UDP (log entry 174). -/
def State.needsProof (s : State) : Endpoint → Bool
  | .udp _ _ => !(s.lsmOpen && s.noKeys)
  | .choval _ => false
  | .mailbox _ => false
  | .uart => !(s.lsmOpen && s.noKeys)

/-- R429: session sid has CONTROL; with takeover, the session that had it closes. -/
def State.grantControl (s : State) (sid : Nat) : State :=
  let s1 := match s.controller with
    | some c => if c.id = sid then s else s.closeSession c.id
    | none => s
  match s1.session sid with
  | some x => s1.setSession { x with control := true, challenge := none, takeover := false }
  | none => s1

/-- R430: 32 bytes of a challenge; open (log entry 2). -/
def State.challengeBytes (s : State) : List Byte := (List.range 4).flatMap (fun i => be 8 (Config.freeVal (s.free + i)).toNat)

/-- R397, R438: sessions that may be open at once. -/
def State.maxSessions (s : State) : Nat := if s.recovery then 1 else 8

/-- A session is added, its number taken, and the free values its challenge is made of are used up (R405, R408). -/
def State.addSession (s : State) (x : Session) : State :=
  { s with free := s.free + 4,
           ix := { s.ix with sessions := s.ix.sessions ++ [x], used := (x.id :: s.ix.used).take 65534 } }

/-- OPEN. -/
def State.ixOpen (s : State) (q : Req) : State :=
  let hvmin := beAt q.p 0 2
  let hvmax := beAt q.p 2 2
  let mode := beAt q.p 4 1
  let agreed := min hvmax s.ixTop
  if agreed < max hvmin 0x0100 then s.ixReply q stBadVersion 0 s.versions
  else if 2 < mode then s.badParam q 4
  else if mode = 1 ∧ s.controller.isSome then s.ixReply q stBusy 0 []
  else if s.maxSessions ≤ s.ix.sessions.length then s.ixReply q stSessionFull 0 []
  else
    let id := freshId s.ix.used 65536 (s.freeNow.toNat % 65536)
    let s1 := s.bumpFree
    let proof := decide (mode ≠ 0) && s.needsProof q.ep
    let x : Session := { id := id, ep := q.ep, minor := agreed % 256, expect := q.seq + 1, takeover := decide (mode = 2),
                         challenge := if proof then some s1.challengeBytes else none }
    let s3 := s1.addSession x
    let s4 := if decide (mode ≠ 0) && !proof then s3.grantControl id else s3
    let granted := b2n (decide (mode ≠ 0) && !proof)
    s4.ixReply q stOk 0 (be 2 id ++ be 2 agreed ++ be 1 granted ++ be 3 0 ++ (x.challenge.getD (List.replicate 32 0)))

/-- PROVE. -/
def State.ixProve (s : State) (q : Req) : State :=
  match s.session q.sid with
  | none => s
  | some x => match x.challenge with
    | none => s.ixReply q stOk 0 (be 1 (b2n x.control) ++ be 3 0)
    | some c =>
      let s := s.flashOn
      let digest := sha256 (c ++ be 8 Config.devid.toNat ++ be 2 q.sid)
      if !s.ownerKeys.any (fun k => rsaOk k (beAt q.p 0 384) digest) then (s.ixReply q stDenied 0 []).closeSession q.sid
      else if s.controller.isSome && !x.takeover then s.ixReply q stBusy 0 []
      else (s.grantControl q.sid).ixReply q stOk 0 (be 1 1 ++ be 3 0)

/-- CLOSE. -/
def State.ixClose (s : State) (q : Req) : State := (s.ixReply q stOk 0 []).closeSession q.sid

/-- KEEPALIVE. -/
def State.ixKeepalive (s : State) (q : Req) : State := s.ixReply q stOk 0 []

/-- RELAY (R436): the inner packet goes to its package; the reply is waited for. -/
def State.ixRelay (s : State) (q : Req) : State :=
  let pkg := beAt q.p 0 2
  if 4096 ≤ pkg then s.badParam q 0
  else (s.ixWait q (.relay pkg (beAt q.p 10 4))).sendMgmt pkg (q.p.drop 4)

/-! Query group. -/

/-- IDENTITY. -/
def State.ixIdentity (s : State) (q : Req) : State :=
  let fw := s.fw.getD {}
  s.ixReply q stOk 0 (be 2 0x0032 ++ be 1 0xA1 ++ be 1 0 ++ be 4 fw.ver.toNat ++ be 4 s.fwsvn ++ be 8 Config.devid.toNat ++
    be 2 s.ownPkg ++ be 2 0 ++ be 6 Config.macAddr.toNat ++ be 2 0 ++ s.versions ++ be 1 1 ++ be 1 (s.rf (chvReg 0) 0 8) ++
    be 1 (s.rf (chvReg 0) 8 8) ++ be 1 0)

/-- HEALTH. -/
def State.ixHealth (s : State) (q : Req) : State :=
  let (s1, b) := s.ixReads ((List.range 32).map (fun r => (⟨.tnkBase, 0, 4 * r⟩ : Reg)) ++
    [cmpReg 0, cmpReg 0x10, cmpReg 0x18, cmpReg 0x14, asyReg 8, lsmReg 0, ntyReg 0, wdgStat])
  s1.ixReply q stOk 0 (b ++ be 4 s1.ix.dropped)

/-- R435: the violation counters that are not zero, in address order. -/
def State.violations (s : State) : List (Nat × Nat) :=
  (violAll.map (fun g => (g.addr, s.rf g 0 16))).filter (fun e => decide (e.2 ≠ 0))

/-- VIOL_READ. -/
def State.ixViolRead (s : State) (q : Req) : State :=
  let first := beAt q.p 0 4
  let all := s.violations
  let part := (all.drop first).take 100
  let next := if first + part.length < all.length then first + part.length else 0
  s.ixReply q stOk 0 (be 4 next ++ be 2 part.length ++ be 2 0 ++ part.flatMap (fun e => be 8 e.1 ++ be 2 e.2 ++ be 2 0))

/-- VIOL_CLEAR. -/
def State.ixViolClear (s : State) (q : Req) : State := (s.each violAll (fun s g => s.rsetf g 0 16 0)).ixReply q stOk 0 []

/-! Configuration group (R436). -/

/-- The registers a LOAD returns. -/
def loadRegs : List Reg := [cmpReg 0, cmpReg 8, cmpReg 0xC, cmpReg 0x10, cmpReg 0x18]

/-- R436: checks 1 to 5 of an image for a kind of load. -/
def State.imgCode (s : State) (b : List Byte) (part : Option Nat) : Nat :=
  match imgHeader b part with
  | some c => c
  | none => (s.imgChecks b).getD 0

/-- LOAD. -/
def State.ixLoad (s : State) (q : Req) : State :=
  let kind := beAt q.p 0 1
  let src := beAt q.p 1 1
  let r := beAt q.p 2 1
  let flags := beAt q.p 3 1
  if 1 < kind then s.badParam q 0
  else if 3 < src ∧ src ≠ 0xFF then s.badParam q 1
  else if kind = 1 ∧ 31 < r then s.badParam q 2
  else if 1 < flags then s.badParam q 3
  else if s.load.isSome then s.ixReplyRegs q stBusy 1 loadRegs
  else
    let so : Source := if h : src < 4 then .slot ⟨src, h⟩ else .staged
    let part : Option Nat := if kind = 1 then some r else none
    if flags = 1 then
      let c := s.imgCode (s.sourceImage so) part
      (s.sourceUsed so).ixReplyRegs q (if c = 0 then stOk else stLoadFail) c loadRegs
    else
      let s1 := { s with loadEnded := none }
      (if kind = 1 then s1.partialLoad r so else s1.fullLoad so).ixWait q .load

/-- PUSH_BEGIN. -/
def State.ixPushBegin (s : State) (q : Req) : State :=
  let dest := beAt q.p 0 1
  let total := beAt q.p 4 4
  if !(decide (dest ≤ 3) || dest == 0x10 || dest == 0x11 || dest == 0xFF) then s.badParam q 0
  else if 0x02000000 < total then s.badParam q 4
  else if s.ix.push.isSome then s.ixReply q stBusy 0 []
  else ({ s.powerUp with staged := none, ix := { s.ix with push := some { session := q.sid, dest := dest, total := total } } }).ixReply q stOk 0 []

/-- Bytes put at an offset of a push or of the record buffers. -/
def putAt (m : Store (Option Byte)) (off : Nat) (b : List Byte) : Store (Option Byte) :=
  ((List.range b.length).zip b).foldl (fun m e => Store.put none m (off + e.1) (some e.2)) m

/-- PUSH_DATA. -/
def State.ixPushData (s : State) (q : Req) : State :=
  let off := beAt q.p 0 4
  let b := q.p.drop 4
  match s.ix.push with
  | some p =>
    if p.session ≠ q.sid ∨ p.total < off + b.length then s.badParam q 0
    else ({ s with ix := { s.ix with push := some { p with bytes := putAt p.bytes off b } } }).ixReply q stOk 0 []
  | none => s.badParam q 0

/-- The bytes pushed; one that was never sent is arbitrary. -/
def State.pushBytes (s : State) (p : Push) : List Byte :=
  (List.range p.total).map (fun i => (Store.get none p.bytes i).getD (Config.blank s.epoch i))

/-- R384: the firmware in a byte string, if its signature and SVN pass. -/
def State.firmwareOf (s : State) (b : List Byte) : Option Firmware :=
  match Config.firmware s.tkrev b with
  | some (svn, ver, hash, os) => if s.fwsvn ≤ svn.val then some ⟨svn.val, ver, beBytes 32 hash.toNat, beBytes 32 os.toNat⟩ else none
  | none => none

/-- The flash offset of a push destination. -/
def destBase (dest : Nat) : Nat := if dest < 4 then slotBase dest else if dest = 0x10 then 0 else 0x02000000

/-- A flash programme begins. -/
def State.program (s : State) (q : Req) (off : Nat) (b : List Byte) : State :=
  { s with ix := { s.ix with jobs := s.ix.jobs ++ [FlashJob.mk q.sid off b] } }.flashOn.ixWait q .flash

/-- An image is held in staging memory. -/
def State.stageImage (s : State) (b : List Byte) : State := { s with staged := some b }

/-- The push ends. -/
def State.endPush (s : State) : State := { s with ix := { s.ix with push := none } }

/-- PUSH_END. -/
def State.ixPushEnd (s : State) (q : Req) : State :=
  match s.ix.push with
  | none => s.badParam q 0
  | some p =>
    let b := s.pushBytes p
    if p.session ≠ q.sid then s.badParam q 0
    else if sha256 b ≠ q.p then s.ixReply q stCheckFail 0 []
    else
      let s1 := s.endPush
      if p.dest = 0x10 ∨ p.dest = 0x11 then
        (if (s.firmwareOf b).isSome then s1.program q (destBase p.dest) b
        else (s1.ixReplyRegs q stLoadFail (s.freeNow.toNat % 256) [cmpReg 0]).bumpFree)
      else
        let c := s.imgCode b (if leAt b 0x0A 1 = 1 then some (leAt b 0x0C 4 % 32) else none)
        if c ≠ 0 then s1.ixReplyRegs q stLoadFail c [cmpReg 0]
        else if p.dest = 0xFF then (s1.stageImage b).ixReplyRegs q stOk 0 [cmpReg 0]
        else s1.program q (destBase p.dest) b

/-- ABORT. -/
def State.ixAbort (s : State) (q : Req) : State := (s.ixPut (cmpReg 4) 0x80000000).ixReplyRegs q stOk 0 [cmpReg 0]

/-- RECORD_WRITE. -/
def State.ixRecordWrite (s : State) (q : Req) : State :=
  let id := beAt q.p 0 1
  let off := beAt q.p 4 4
  let b := q.p.drop 8
  if 3 < id then s.badParam q 0
  else if id = 3 then s.ixReply q stDenied 0 []
  else if recordLen id < off + b.length then s.badParam q 4
  else ({ s with ix := { s.ix with recs := putAt s.ix.recs (65536 * id + off) b } }).ixReply q stOk 0 []

/-- The bytes of a record buffer; one that was never written is arbitrary. -/
def State.recordBuffer (s : State) (id : Nat) : List Byte :=
  (List.range (recordLen id)).map (fun i => (Store.get none s.ix.recs (65536 * id + i)).getD (Config.blank s.memEpoch (65536 * id + i)))

/-- RECORD_COMMIT: the whole layout with its CRC-32 is programmed. -/
def State.ixRecordCommit (s : State) (q : Req) : State :=
  let id := beAt q.p 0 1
  if 3 < id then s.badParam q 0
  else if id = 3 then s.ixReply q stDenied 0 []
  else if beAt q.p 4 4 ≠ recordLen id then s.badParam q 4
  else
    let b := s.recordBuffer id
    s.program q (recordBase id) (b ++ leBytes 4 (crc32 b).toNat)

/-- RECORD_READ. -/
def State.ixRecordRead (s : State) (q : Req) : State :=
  let id := beAt q.p 0 1
  let off := beAt q.p 4 4
  let n := beAt q.p 8 2
  if 3 < id then s.badParam q 0
  else if recordLen id < off then s.badParam q 4
  else if 1024 < n ∨ recordLen id < off + n then s.badParam q 8
  else s.flashOn.ixReply q stOk 0 (s.flashBytes (recordBase id + off) n)

/-! Power group. -/

/-- POWER_SET: HOLDM stays; the reply waits for the change. -/
def State.ixPowerSet (s : State) (q : Req) : State :=
  let n := beAt q.p 0 2
  let st := beAt q.p 2 1
  if 748 ≤ n then s.badParam q 0
  else if 2 < st then s.badParam q 2
  else (s.ixPut (lmpDom n) (b2n (s.rb (lmpDom n) 27) * 2 ^ 27 + st * 2 ^ 28)).ixWait q (.domain n)

/-- Two bits a domain, the first in the top bits of the first byte. -/
def packStates : Nat → List Nat → List Byte
  | 0, _ => []
  | k + 1, l => BitVec.ofNat 8 (64 * nth 0 l 0 + 16 * nth 0 l 1 + 4 * nth 0 l 2 + nth 0 l 3) :: packStates k (l.drop 4)

/-- POWER_GET. -/
def State.ixPowerGet (s : State) (q : Req) : State :=
  let first := beAt q.p 0 2
  let n := beAt q.p 2 2
  if 748 ≤ first then s.badParam q 0
  else if 748 < first + n then s.badParam q 2
  else s.ixReply q stOk 0 (packStates ((n + 3) / 4) ((List.range n).map (fun i => s.dom (first + i))))

/-- RAIL_SET. -/
def State.ixRailSet (s : State) (q : Req) : State :=
  let d := beAt q.p 0 1
  let mv := beAt q.p 2 2
  if 3 < d then s.badParam q 0
  else if mv < 550 ∨ 850 < mv then s.badParam q 2
  else
    let s1 := s.ixPut (lmpReg (0x10 + 4 * d)) (mv * 2 ^ 16)
    s1.ixReply q stOk 0 (be 2 (s1.rf (lmpReg (0x10 + 4 * d)) 16 10) ++ be 2 0)

/-! Phase group. -/

/-- Word i of a request's parameters. -/
def Req.word (q : Req) (i : Nat) : Nat := beAt q.p (4 * i) 4

/-- PORT_SET: EN cleared, every field written, then CFG. -/
def State.ixPortSet (s : State) (q : Req) : State :=
  let n := beAt q.p 0 1
  if 15 < n then s.badParam q 0
  else
    let s1 := s.ixPut (piReg n 0) ((s.rget (piReg n 0)).toNat % 2 ^ 31)
    let s2 := s1.each [(4, 2), (8, 3), (0xC, 4), (0x10, 5), (0x14, 6), (0x18, 7), (0x20, 8), (0x1C, 9)]
      (fun s e => s.ixPut (piReg n e.1) (q.word e.2))
    (s2.ixPut (piReg n 0) (q.word 1)).ixReplyRegs q stOk 0 [piReg n 0x24]

/-- LINE_SET: the staged fields and CTL with EN = 0, then COMMIT, then EN as given. -/
def State.ixLineSet (s : State) (q : Req) : State :=
  let n := beAt q.p 0 1
  if 7 < n then s.badParam q 0
  else
    let s1 := s.each [(4, 2), (8, 3), (0xC, 4), (0x10, 5), (0x14, 6)] (fun s e => s.ixPut (plReg n e.1) (q.word e.2))
    let base := q.word 1 % 2 ^ 30
    let s2 := (s1.ixPut (plReg n 0) base).ixPut (plReg n 0) (base + 2 ^ 30)
    (s2.ixPut (plReg n 0) (base + q.word 1 / 2 ^ 31 * 2 ^ 31)).ixReplyRegs q stOk 0 [plReg n 0x2C]

/-- LINE_GET: the line's values under HOLD; then its port's STAT, the copy of LOST, and COUNT. -/
def State.ixLineGet (s : State) (q : Req) : State :=
  let n := beAt q.p 0 1
  if 7 < n then s.badParam q 0
  else
    let p := fld (s.tline n).ctl 24 4
    let (s1, b1) := (s.ixPut (plReg n 0x30) 1).ixReads [plReg n 0x18, plReg n 0x1C, plReg n 0x20, plReg n 0x24, plReg n 0x28, plReg n 0x2C]
    let (s2, st) := (s1.ixPut (plReg n 0x30) 0).ixRead (piReg p 0x24)
    let (s3, _) := s2.ixRead (piReg p 0x28)
    let (s4, ct) := s3.ixRead (piReg p 0x2C)
    let lost := (Store.get 0 s4.ix.lost p).toNat
    let s5 := if (beAt q.p 1 1).testBit 0 then
        let s5 := s4.ixPut (piReg p 0x24) 0xFE00
        { s5 with ix := { s5.ix with lost := Store.put 0 s5.ix.lost p 0 } }
      else s4
    s5.ixReply q stOk 0 (b1 ++ be 4 st ++ be 4 lost ++ be 4 ct)

/-- Of the lines named, those locked. -/
def State.lockedOf (s : State) (lines : Nat) : Nat :=
  (List.range 8).foldl (fun a l => a + (if lines.testBit l && (s.tline l).locked then 2 ^ l else 0)) 0

/-- WAIT_LOCK. -/
def State.ixWaitLock (s : State) (q : Req) : State :=
  let limit := beAt q.p 2 2
  if limit = 0 ∨ 60000 < limit then s.badParam q 2 else s.ixWait q (.lock (beAt q.p 0 1))

/-! Fault and test group. -/

/-- FAULT_READ. -/
def State.ixFaultRead (s : State) (q : Req) : State :=
  s.ixReplyRegs q stOk 0 ((List.range 17).map (fun i => asyReg (0x100 + 4 * i)) ++ (List.range 4).map (fun i => asyReg (0x180 + 4 * i)) ++
    [asyReg 0x190, asyReg 0x194])

/-- FAULT_CLEAR: the mark of an element, and its place in the fault record. -/
def State.ixFaultClear (s : State) (q : Req) : State :=
  let kind := beAt q.p 0 1
  let i := beAt q.p 2 2
  if 4 < kind then s.badParam q 0
  else if sliceCount kind ≤ i then s.badParam q 2
  else
    let (g, b) := failBit kind i
    ((s.ixPut g (2 ^ b)).faultMark kind i false).ixReply q stOk 0 []

/-- SLICE_RUN. -/
def State.ixSliceRun (s : State) (q : Req) : State :=
  let kind := beAt q.p 0 1
  let i := beAt q.p 2 2
  if 4 < kind ∨ !s.sliceRuns kind then s.badParam q 0
  else if !s.sliceEligible kind i then s.badParam q 2
  else if s.slices.any (fun x => !x.background && x.confirm.isNone) then s.ixReply q stBusy 0 []
  else (s.ixPut (asyReg 4) (2 ^ 31 + kind * 2 ^ 28 + i)).ixWait q (.slice kind i)

/-- R434: QUARANTINED where an access was refused. -/
def quarStatus (refused : Bool) : Nat := if refused then stQuarantined else stOk

/-- ASH: TNK_CTL written with ASH = 1; the reply waits for the write (R160). -/
def State.ixAsh (s : State) (q : Req) : State :=
  let r := beAt q.p 0 1
  if 31 < r then s.badParam q 0
  else
    let g : Reg := ⟨.tnk, r, 8⟩
    (s.toFabric .ixz g.addr .b32 .write (BitVec.ofNat 32 (2 ^ 31 + b2n (s.rb g 30) * 2 ^ 30)) false).ixWait q (.ash s.nextId r)

/-- RESET: it acts 10 ms later. -/
def State.ixReset (s : State) (q : Req) : State :=
  let t := beAt q.p 0 1
  if 1 < t then s.badParam q 0
  else { s with ix := { s.ix with resetDue := some t } }.ixReply q stOk 0 []

/-- LINK_CTL: 0 disable, 1 enable, 2 retrain, 3 retrain with READMIT. -/
def State.ixLinkCtl (s : State) (q : Req) : State :=
  let l := beAt q.p 0 1
  let act := beAt q.p 1 1
  if 31 < l then s.badParam q 0
  else if 3 < act then s.badParam q 1
  else
    let c := (s.rget (chl l 0)).toNat % 2 ^ 29
    let en := b2n (s.rb (chl l 0) 31) * 2 ^ 31
    let v := match act with
      | 0 => c
      | 1 => c + 2 ^ 31
      | 2 => c + en + 2 ^ 30
      | _ => c + en + 2 ^ 30 + 2 ^ 29
    (s.ixPut (chl l 0) v).ixReplyRegs q stOk 0 [chl l 4]

/-! Memory and hopper group (R435, R436). -/

/-- R435: an access of `n` bytes reaches only the peripheral blocks and the local fabric. -/
def ixReach (a n : Nat) : Bool :=
  decide (0x20000000 ≤ a ∧ a + n ≤ 0x200E0000) || decide (0x100000000 ≤ a ∧ a + n ≤ 0x140000000)

/-- What reading values one after another came to: all, or those read before an access that crosses the fabric. -/
structure ReadRun where
  st : State
  got : List (BitVec 64 × Bool)
  /-- The number of the access that waits, and the values left after it. -/
  waits : Option (Nat × Nat) := none

/-- READ: values read one after another. -/
def State.readRun (s : State) (addr : Nat) (w64 : Bool) : Nat → List (BitVec 64 × Bool) → ReadRun
  | 0, got => ⟨s, got, none⟩
  | k + 1, got =>
    if inFabric addr then ⟨s.toFabric .ixz addr (width64 w64) .read 0 false, got, some (s.nextId, k)⟩
    else
      let (s1, d) := s.ixBusRead addr w64
      s1.readRun (addr + if w64 then 8 else 4) w64 k (got ++ [(d, false)])

/-- The values of a READ's reply, and PMASK. -/
def readBytes (w64 : Bool) (got : List (BitVec 64 × Bool)) : List Byte :=
  got.flatMap (fun e => be (if w64 then 8 else 4) e.1.toNat) ++
    be 32 (((List.range got.length).zip got).foldl (fun a e => a + (if e.2.2 then 2 ^ e.1 else 0)) 0)

/-- READ goes on from an address: it replies, or waits for an access. -/
def State.ixReadOn (s : State) (q : Req) (addr : Nat) (w64 : Bool) (n : Nat) (got : List (BitVec 64 × Bool)) (refused : Bool) : State :=
  let o := s.readRun addr w64 n got
  match o.waits with
  | none => o.st.ixReply q (quarStatus refused) 0 (readBytes w64 o.got)
  | some (id, left) => o.st.ixWait q (.read id (addr + (n - left) * (if w64 then 8 else 4)) w64 left o.got refused)

/-- READ. -/
def State.ixReadCmd (s : State) (q : Req) : State :=
  let a := beAt q.p 0 8
  let w := beAt q.p 8 1
  let n := beAt q.p 10 2
  if w ≠ 4 ∧ w ≠ 8 then s.badParam q 8
  else if 1024 < n * w then s.badParam q 10
  else if !ixReach a (max 1 (n * w)) then s.badParam q 0
  else s.ixReadOn q a (w == 8) n [] false

/-- WRITE: values written one after another; answers the accesses that cross the fabric, and the values performed. -/
def State.writeRun (s : State) (w64 : Bool) : Nat → Nat → List Byte → List Nat × Nat → State × (List Nat × Nat)
  | 0, _, _, acc => (s, acc)
  | k + 1, addr, b, (ids, done) =>
    let w := if w64 then 8 else 4
    let v := BitVec.ofNat 64 (beAt b 0 w)
    if inFabric addr then
      (s.toFabric .ixz addr (width64 w64) .write (v.setWidth 32) false).writeRun w64 k (addr + w) (b.drop w) (s.nextId :: ids, done)
    else (s.busWrite .ixz addr (width64 w64) v).writeRun w64 k (addr + w) (b.drop w) (ids, done + 1)

/-- WRITE. -/
def State.ixWriteCmd (s : State) (q : Req) : State :=
  let a := beAt q.p 0 8
  let w := beAt q.p 8 1
  let b := q.p.drop 12
  if w ≠ 4 ∧ w ≠ 8 then s.badParam q 8
  else if b.length % w ≠ 0 then s.badParam q 12
  else if !ixReach a (max 1 b.length) then s.badParam q 0
  else if a < 0x20050000 ∧ 0x20040000 < a + b.length then s.ixReply q stDenied 0 []
  else
    let (s1, acc) := s.writeRun (w == 8) (b.length / w) a b ([], 0)
    s1.ixWait q (.write acc.1 acc.2 false)

/-- R435: DIE, REGION and HOP of a hopper opcode: the offset of the first that is out of range, or the hopper. -/
def Req.hop (q : Req) : Nat ⊕ Nat :=
  let d := beAt q.p 0 1
  let r := beAt q.p 1 1
  let h := beAt q.p 2 1
  if 3 < d then .inl 0 else if 7 < r then .inl 1 else if 7 < h then .inl 2 else .inr ((d * 8 + r) * 8 + h)

/-- R436: a hopper opcode reads HOP_STAT first. -/
def State.hopFirst (s : State) (q : Req) (h : Nat) (t : HopTodo) : State :=
  (s.toFabric .ixz (hopReg h 8).addr .b32 .read 0 false).ixWait q (.hopStat s.nextId h t)

/-- A bit per token. -/
def tokMask (f : Tok → Bool) (l : List Tok) : Nat := ((List.range l.length).zip l).foldl (fun a e => a + (if f e.2 then 2 ^ e.1 else 0)) 0

/-- The address of a hopper's PUSH, or of its POP (R203). -/
def hopAddr (h : Nat) (pop : Bool) : Nat := winBase (h / 8) + 0x900000 + 0x100 * (h % 8) + (if pop then 4 else 0)

/-- HOP_POP's reply. -/
def State.hopPopped (s : State) (q : Req) (refused : Bool) (got : List Tok) : State :=
  s.ixReply q (quarStatus refused) 0 (be 1 got.length ++ be 3 0 ++ got.flatMap (fun t => be 4 t.d.toNat) ++
    be 8 (tokMask (·.p) got) ++ be 8 (tokMask (·.f) got))

/-- HOP_POP goes on with `n` pops to make. -/
def State.hopPopOn (s : State) (q : Req) (h n : Nat) (got : List Tok) : State :=
  if n = 0 then s.hopPopped q false got
  else (s.toFabric .ixz (hopAddr h true) .b32 .read 0 false).ixWait q (.hopPop s.nextId h (n - 1) got)

/-- HOP_POP. -/
def State.ixHopPop (s : State) (q : Req) : State :=
  let n := beAt q.p 3 1
  match q.hop with
  | .inl o => s.badParam q o
  | .inr h => if n = 0 ∨ 64 < n then s.badParam q 3 else s.hopFirst q h (.pop n)

/-- HOP_PUSH's reply. -/
def State.hopPushed (s : State) (q : Req) (refused : Bool) (n : Nat) : State := s.ixReply q (quarStatus refused) 0 (be 1 n ++ be 3 0)

/-- HOP_PUSH goes on with words to push. -/
def State.hopPushOn (s : State) (q : Req) (h : Nat) (words : List Word) (done : Nat) : State :=
  match words with
  | [] => s.hopPushed q false done
  | w :: rest => (s.toFabric .ixz (hopAddr h false) .b32 .write w false).ixWait q (.hopPush s.nextId h rest done)

/-- HOP_PUSH. -/
def State.ixHopPush (s : State) (q : Req) : State :=
  let b := q.p.drop 4
  match q.hop with
  | .inl o => s.badParam q o
  | .inr h =>
    if b.length % 4 ≠ 0 then s.badParam q 4
    else s.hopFirst q h (.push ((List.range (b.length / 4)).map (fun i => BitVec.ofNat 32 (beAt b (4 * i) 4))))

/-- HOP_CMD: the command word is written to POP, then HOP_STAT is read. -/
def State.ixHopCmd (s : State) (q : Req) : State :=
  let c := beAt q.p 3 1
  match q.hop with
  | .inl o => s.badParam q o
  | .inr h =>
    if 15 < c then s.badParam q 3
    else (s.toFabric .ixz (hopAddr h true) .b32 .write (BitVec.ofNat 32 (c * 2 ^ 28)) false).ixWait q (.hopCmd s.nextId h)

/-- R436: HOP_STAT has been read: at most OCC − CUR words are popped, and at most 64 − OCC pushed. -/
def State.hopStatRead (s : State) (q : Req) (h : Nat) (t : HopTodo) (st : Nat) (refused : Bool) : State :=
  match t with
  | .pop n => if refused then s.hopPopped q true [] else s.hopPopOn q h (min n (st % 128 - st / 128 % 128)) []
  | .push words => if refused then s.hopPushed q true 0 else s.hopPushOn q h (words.take (64 - st % 128)) 0
  | .show earlier => s.ixReply q (quarStatus (refused || earlier)) 0 (be 4 st)

/-- R202, R436: the answer of one of Ixzento's accesses, at number `id`: its request goes on. A pop or push on a side bound to STREAM was
forbidden, and ends the opcode. -/
def State.ixGoOn (s : State) (q : Req) (w : IxWait) (a : Answer) : State :=
  let refused := a == .quarantined
  match w with
  | .read _ addr w64 left got ref => s.ixReadOn q addr w64 left (got ++ [(a.tok.d.setWidth 64, a.tok.p)]) (ref || refused)
  | .hopStat _ h t => s.hopStatRead q h t a.tok.d.toNat refused
  | .hopPop _ h left got =>
    if refused || s.hopCStream h then s.hopPopped q refused got else s.hopPopOn q h left (got ++ [a.tok])
  | .hopPush _ h left n => if refused || s.hopPStream h then s.hopPushed q refused n else s.hopPushOn q h left (n + 1)
  | .hopCmd _ h => s.hopFirst q h (.show refused)
  | .ash _ r => s.ixReplyRegs q (quarStatus refused) 0 [⟨.tnkBase, 0, 4 * r⟩]
  | _ => s

/-! Security and attestation group. -/

/-- ATTEST: the report is assembled and waits for the signing engine. -/
def State.ixAttest (s : State) (q : Req) : State :=
  let s1 := s.attest q.p
  { s1 with ix := { s1.ix with signQ := s1.ix.signQ ++ [q.sid] } }.ixWait q .sign

/-- CERT. -/
def State.ixCert (s : State) (q : Req) : State :=
  let off := beAt q.p 0 4
  let n := beAt q.p 4 2
  if Config.certLen < off then s.badParam q 0
  else if 1024 < n then s.badParam q 4
  else s.flashOn.ixReply q stOk 0 (be 4 Config.certLen ++ (List.range (min n (Config.certLen - off))).map (fun i => Config.certByte (off + i)))

/-- KEY_STATUS. -/
def State.ixKeyStatus (s : State) (q : Req) : State :=
  s.ixReplyRegs q stOk 0 ([lsmReg 0, lsmReg 0xC] ++ (List.range 8).map (fun i => lsmReg (0x40 + 4 * i)))

/-- A key or digest written to LSM_KLOAD0..7. -/
def State.kloadPut (s : State) (x : Nat) : State := s.each (List.range 8) (fun s n => s.ixPut (lsmReg (0x20 + 4 * n)) (x / 2 ^ (32 * n)))

/-- R377, R434: a key command of Ixzento: KEY_FAIL where the Locksmith ignores it. -/
def State.ixKcmd (s : State) (q : Req) (cmd slot : Nat) : State :=
  let good := s.kcmdOk cmd slot
  let s1 := s.ixPut (lsmReg 8) (cmd * 2 ^ 28 + slot)
  if good then s1.ixWait q (.fuse slot (decide (cmd = 4 ∨ cmd = 5))) else s1.ixReply q stKeyFail (s.kslot slot).st []

/-- R427, R435: the session runs on the mailbox. -/
def isMailbox : Endpoint → Bool
  | .udp _ _ => false
  | .choval _ => false
  | .mailbox _ => true
  | .uart => false

/-- KEY_WRITE: on the mailbox only. -/
def State.ixKeyWrite (s : State) (q : Req) : State :=
  let slot := beAt q.p 0 1
  if !isMailbox q.ep then s.ixReply q stDenied 0 []
  else if 7 < slot then s.badParam q 0
  else (s.kloadPut (beAt q.p 4 32)).ixKcmd q 1 slot

/-- KEY_CMD. -/
def State.ixKeyCmd (s : State) (q : Req) : State :=
  let cmd := beAt q.p 0 1
  let slot := beAt q.p 1 1
  if cmd < 2 ∨ 5 < cmd then s.badParam q 0
  else if 7 < slot then s.badParam q 1
  else (if cmd = 4 then s.kloadPut (beAt q.p 4 32) else s).ixKcmd q cmd slot

/-- SVN_RAISE: FWSVN bits blown, never past the SVN of the firmware that runs. -/
def State.ixSvnRaise (s : State) (q : Req) : State :=
  let t := beAt q.p 0 1
  if t = 0 ∨ 63 < t ∨ (s.fw.getD {}).svn < t then s.badParam q 0
  else if beAt q.p 1 1 ≠ 255 - t then s.badParam q 1
  else { s with fwsvn := max s.fwsvn t }.ixReplyRegs q stOk 0 [lsmReg 0xC]

end Sys2Proof.Machine
end

