-- ==== Sys2Proof/Machine/IxRows.lean ====
section
/-! DEFINITION. The commands that bring a packet to Ixzento (R423 to R439), its timeouts, and the order in which its requests run. -/

namespace Sys2Proof.Machine

/-- The opcodes of R435. -/
def State.ixPerform (s : State) (q : Req) : State :=
  match q.op with
  | 0x00 => s.ixHello q
  | 0x01 => s.ixOpen q
  | 0x02 => s.ixProve q
  | 0x03 => s.ixClose q
  | 0x04 => s.ixKeepalive q
  | 0x08 => s.ixRelay q
  | 0x10 => s.ixIdentity q
  | 0x11 => s.ixHealth q
  | 0x12 => s.ixViolRead q
  | 0x13 => s.ixViolClear q
  | 0x30 => s.ixLoad q
  | 0x31 => s.ixPushBegin q
  | 0x32 => s.ixPushData q
  | 0x33 => s.ixPushEnd q
  | 0x34 => s.ixAbort q
  | 0x36 => s.ixRecordWrite q
  | 0x37 => s.ixRecordCommit q
  | 0x38 => s.ixRecordRead q
  | 0x50 => s.ixPowerSet q
  | 0x51 => s.ixPowerGet q
  | 0x52 => s.ixRailSet q
  | 0x60 => s.ixPortSet q
  | 0x61 => s.ixLineSet q
  | 0x62 => s.ixLineGet q
  | 0x64 => s.ixWaitLock q
  | 0x70 => s.ixFaultRead q
  | 0x71 => s.ixFaultClear q
  | 0x72 => s.ixSliceRun q
  | 0x73 => s.ixAsh q
  | 0x74 => s.ixReset q
  | 0x75 => s.ixLinkCtl q
  | 0x80 => s.ixReadCmd q
  | 0x81 => s.ixWriteCmd q
  | 0x83 => s.ixHopPop q
  | 0x84 => s.ixHopPush q
  | 0x85 => s.ixHopCmd q
  | 0x90 => s.ixAttest q
  | 0x91 => s.ixCert q
  | 0x92 => s.ixKeyStatus q
  | 0x93 => s.ixKeyWrite q
  | 0x94 => s.ixKeyCmd q
  | 0x95 => s.ixSvnRaise q
  | _ => s

/-- R429, R432, R434: a request in turn: its opcode, its mode and its length are checked, then it is performed. -/
def State.ixRequest (s : State) (q : Req) (k : Pkt) (control : Bool) : State :=
  match ixEntry k.op with
  | none => s.ixReply q stBadOpcode 0 []
  | some (_, mode) =>
    if !s.opKnown k q.minor then s.ixReply q stBadOpcode 0 []
    else if mode = 2 ∧ !control then s.ixReply q stDenied 0 []
    else if !lenOk k.op k.params.length then s.ixReply q stBadLength 0 []
    else s.ixPerform q

/-- R433: the requests of a session that are next in turn, one after another, up to one that goes on running. -/
def State.ixDrain (s : State) (sid : Nat) : Nat → State
  | 0 => s
  | n + 1 => match s.session sid with
    | none => s
    | some x =>
      if x.run.isSome then s
      else match x.held.find? (fun b => decide (BitVec.ofNat 32 (beAt b 6 4) = x.expect)) with
        | none => s
        | some b => match parsePkt b with
          | none => s
          | some k =>
            let s1 := s.setSession { x with held := x.held.filter (· != b), expect := x.expect + 1 }
            (s1.ixRequest ⟨sid, x.ep, k.op, k.seq, x.minor, k.params⟩ k x.control).ixDrain sid n

/-- R433: a request of an open session, by its SEQ: taken in turn, answered again, in progress, or out of the window. -/
def State.ixSeq (s : State) (x : Session) (b : List Byte) (k : Pkt) : State :=
  let d := (k.seq - x.expect).toNat
  let tell (st : Nat) : State := s.ixTell x.ep (0x0100 + x.minor) k st []
  if d < 8 then
    (if x.held.any (fun h => beAt h 6 4 == k.seq.toNat) then s else (s.setSession { x with held := x.held ++ [b] }).ixDrain x.id 9)
  else if 2 ^ 32 - 16 ≤ d then
    match x.replies.find? (fun e => e.1 == k.seq) with
    | some e => s.ixSend x.ep e.2
    | none => match x.run with
      | some r => tell (if r.seq = k.seq then stInProgress else stSequence)
      | none => tell stSequence
  else tell stSequence

/-- R423, R428, R431: a packet from an endpoint, checked in the order of R423. -/
def State.ixTake (s : State) (ep : Endpoint) (b : List Byte) : State :=
  match parsePkt b with
  | none => s.ixDrop
  | some k =>
    let x : Option Session := match s.session k.sid with
      | some x => if x.ep = ep then some x else none
      | none => none
    let ver := match x with
      | some x => 0x0100 + x.minor
      | none => 0x0100
    if k.vmaj ≠ 1 then s.ixTell ep 0x0100 k stBadVersion s.versions
    else if k.len ≠ k.params.length ∨ 1436 < k.len then s.ixTell ep ver k stBadLength []
    else if k.isReply then s.ixDrop
    else if k.sid = 0 then
      (if !s.opKnown k 2 then s.ixTell ep 0x0100 k stBadOpcode []
      else if 2 ≤ k.op then s.ixTell ep 0x0100 k stNoSession []
      else s.ixRequest ⟨0, ep, k.op, k.seq, 0, k.params⟩ k false)
    else match x with
      | none => s.ixTell ep 0x0100 k stNoSession []
      | some x => if k.vmin ≠ x.minor then s.ixTell ep 0x0100 k stBadVersion s.versions else s.ixSeq x b k

/-! Requests that go on running (R433, R436). -/

/-- R436: the reply that a RELAY waits for, at the front of the packets from other packages. -/
def State.relayReply (s : State) (pkg seq : Nat) : Option (List Byte) :=
  match s.mgmtIn with
  | (p, b) :: _ => match parsePkt b with
    | some k => if k.isReply && p == pkg && k.seq.toNat == seq && k.len == k.params.length then some b else none
    | none => none
  | [] => none

/-- What a running request waits for has happened: the state after its reply. -/
def State.ixDone (s : State) (x : Session) (r : Running) : Option State :=
  let q := x.req r
  match r.wait with
  | .load => match s.loadEnded with
    | some c => some ({ s with loadEnded := none }.ixReplyRegs q (if c = 0 then stOk else stLoadFail) c loadRegs)
    | none => none
  | .flash => none
  | .slice k i =>
    if s.slices.any (fun y => y.kind == k && y.index == i && !y.background && y.confirm.isNone) then none
    else some (s.ixReplyRegs q stOk 0 [asyReg 0xC, asyReg 0x10])
  | .lock n => if s.lockedOf n = n then some (s.ixReply q stOk 0 (be 1 n ++ be 3 0)) else none
  | .sign => none
  | .domain n =>
    if (s.domSt n).target.isSome || (s.domSt n).wait.isSome then none
    else some (s.ixReply q stOk 0 (be 1 (s.dom n) ++ be 3 0))
  | .fuse slot owner =>
    if s.kcmd.isSome then none else some (s.ixReplyRegs q stOk 0 [lsmReg (if owner then 0xC else 0x40 + 4 * slot)])
  | .relay pkg seq => match s.relayReply pkg seq with
    | some b =>
      let s1 := { s with mgmtIn := s.mgmtIn.drop 1 }
      some (if b.length ≤ 1432 then s1.ixReply q stOk 0 b else s1.ixReply q stBadLength 0 [])
    | none => none
  | .read _ _ _ _ _ _ => none
  | .hopStat _ _ _ => none
  | .hopPop _ _ _ _ => none
  | .hopPush _ _ _ _ => none
  | .hopCmd _ _ => none
  | .ash _ _ => none
  | .write ids done refused => if ids.isEmpty then some (s.ixReply q (quarStatus refused) 0 (be 2 done ++ be 2 0)) else none

/-- One session: its running request answered if it is done, and the next ones run. -/
def State.ixSettleOne (s : State) (sid : Nat) : State :=
  let s1 := match s.session sid with
    | some x => match x.run with
      | some r => (s.ixDone x r).getD s
      | none => s
    | none => s
  s1.ixDrain sid 9

/-- Every session in turn. -/
def State.ixPass (s : State) : State := s.each (s.ix.sessions.map (·.id)) State.ixSettleOne

/-- R433, R436: Ixzento takes note of what has ended and answers; as often as there can be requests. -/
def State.ixSettle (s : State) : State := if s.ixRuns then iter State.ixPass 80 s else s

/-- A command's outcome, of which Ixzento takes note. -/
def settled (o : Out) : Out :=
  match o with
  | .next s => .next s.ixSettle
  | .fault f => .fault f
  | .refused r => .refused r

/-! The commands that bring a packet. -/

/-- R425 to R427, R438: the endpoint and bytes of an arrival that Ixzento takes, and the state without it; none where nothing arrives, Ixzento
does not run, or a UDP datagram has a zero checksum. In recovery the boot ROM listens on the management port and on UART0 alone (R395). -/
def State.ixArrival (s : State) (a : Arrival) : Option (Endpoint × List Byte × State) :=
  if !s.ixRuns then none
  else match a with
    | .udp addr port noSum b => if noSum then none else some (.udp addr port, b, s)
    | .mailbox h b => if s.recovery then none else some (.mailbox h, b, s)
    | .uart b => if s.recovery && s.serialLit && s.serialPin 0 && s.serialPin 1 then some (.uart, b, s) else none
    | .choval => if s.recovery then none else match s.mgmtIn with
      | (p, b) :: rest => some (.choval p, b, { s with mgmtIn := rest })
      | [] => none

/-- R423: the packet is discarded without a reply. -/
def pktDropped (b : List Byte) : Bool :=
  match parsePkt b with
  | none => true
  | some k => k.vmaj == 1 && k.len == k.params.length && decide (k.len ≤ 1436) && k.isReply

/-- The packet's opcode, if it is not discarded. -/
def pktOp (b : List Byte) : Option Nat := if pktDropped b then none else (parsePkt b).map (·.op)

/-- R432, R435, R438: the opcode of a packet is unlisted, or not in the version of its session or of the recovery. -/
def State.pktUnknown (s : State) (b : List Byte) : Bool :=
  match parsePkt b with
  | none => false
  | some k => !pktDropped b && !s.opKnown k (match s.session k.sid with
    | some x => x.minor
    | none => 2)

/-- A packet with opcode `op` arrives and is taken. -/
def State.ixRow (s : State) (op : Nat) (a : Arrival) : Out :=
  match s.ixArrival a with
  | none => ok s
  | some (ep, b, s1) => if pktOp b = some op then ok (s1.ixTake ep b).ixSettle else ok s

/-- HELLO (R435, R436): a packet with opcode 0x00. -/
def execIxHello (a : Arrival) (s : State) : Out := s.ixRow 0x00 a

/-- OPEN (R428, R430, R431): a packet with opcode 0x01. -/
def execIxOpen (a : Arrival) (s : State) : Out := s.ixRow 0x01 a

/-- PROVE (R430): a packet with opcode 0x02. -/
def execIxProve (a : Arrival) (s : State) : Out := s.ixRow 0x02 a

/-- CLOSE (R428, R439): a packet with opcode 0x03. -/
def execIxClose (a : Arrival) (s : State) : Out := s.ixRow 0x03 a

/-- KEEPALIVE (R435, R436): a packet with opcode 0x04. -/
def execIxKeepalive (a : Arrival) (s : State) : Out := s.ixRow 0x04 a

/-- RELAY (R436): a packet with opcode 0x08. -/
def execIxRelay (a : Arrival) (s : State) : Out := s.ixRow 0x08 a

/-- IDENTITY (R435, R436): a packet with opcode 0x10. -/
def execIxIdentity (a : Arrival) (s : State) : Out := s.ixRow 0x10 a

/-- HEALTH (R435, R436): a packet with opcode 0x11. -/
def execIxHealth (a : Arrival) (s : State) : Out := s.ixRow 0x11 a

/-- VIOL_READ (R435, R436): a packet with opcode 0x12. -/
def execIxViolRead (a : Arrival) (s : State) : Out := s.ixRow 0x12 a

/-- VIOL_CLEAR (R435, R436): a packet with opcode 0x13. -/
def execIxViolClear (a : Arrival) (s : State) : Out := s.ixRow 0x13 a

/-- LOAD (R435, R436): a packet with opcode 0x30. -/
def execIxLoad (a : Arrival) (s : State) : Out := s.ixRow 0x30 a

/-- PUSH_BEGIN (R435, R436): a packet with opcode 0x31. -/
def execIxPushBegin (a : Arrival) (s : State) : Out := s.ixRow 0x31 a

/-- PUSH_DATA (R435, R436): a packet with opcode 0x32. -/
def execIxPushData (a : Arrival) (s : State) : Out := s.ixRow 0x32 a

/-- PUSH_END (R435, R436): a packet with opcode 0x33. -/
def execIxPushEnd (a : Arrival) (s : State) : Out := s.ixRow 0x33 a

/-- ABORT (R435, R436): a packet with opcode 0x34. -/
def execIxAbort (a : Arrival) (s : State) : Out := s.ixRow 0x34 a

/-- RECORD_WRITE (R435, R436): a packet with opcode 0x36. -/
def execIxRecordWrite (a : Arrival) (s : State) : Out := s.ixRow 0x36 a

/-- RECORD_COMMIT (R435, R436): a packet with opcode 0x37. -/
def execIxRecordCommit (a : Arrival) (s : State) : Out := s.ixRow 0x37 a

/-- RECORD_READ (R435, R436): a packet with opcode 0x38. -/
def execIxRecordRead (a : Arrival) (s : State) : Out := s.ixRow 0x38 a

/-- POWER_SET (R435, R436): a packet with opcode 0x50. -/
def execIxPowerSet (a : Arrival) (s : State) : Out := s.ixRow 0x50 a

/-- POWER_GET (R435, R436): a packet with opcode 0x51. -/
def execIxPowerGet (a : Arrival) (s : State) : Out := s.ixRow 0x51 a

/-- RAIL_SET (R435, R436): a packet with opcode 0x52. -/
def execIxRailSet (a : Arrival) (s : State) : Out := s.ixRow 0x52 a

/-- PORT_SET (R435, R436): a packet with opcode 0x60. -/
def execIxPortSet (a : Arrival) (s : State) : Out := s.ixRow 0x60 a

/-- LINE_SET (R435, R436): a packet with opcode 0x61. -/
def execIxLineSet (a : Arrival) (s : State) : Out := s.ixRow 0x61 a

/-- LINE_GET (R435, R436): a packet with opcode 0x62. -/
def execIxLineGet (a : Arrival) (s : State) : Out := s.ixRow 0x62 a

/-- WAIT_LOCK (R435, R436): a packet with opcode 0x64. -/
def execIxWaitLock (a : Arrival) (s : State) : Out := s.ixRow 0x64 a

/-- FAULT_READ (R435, R436): a packet with opcode 0x70. -/
def execIxFaultRead (a : Arrival) (s : State) : Out := s.ixRow 0x70 a

/-- FAULT_CLEAR (R435, R436): a packet with opcode 0x71. -/
def execIxFaultClear (a : Arrival) (s : State) : Out := s.ixRow 0x71 a

/-- SLICE_RUN (R435, R436): a packet with opcode 0x72. -/
def execIxSliceRun (a : Arrival) (s : State) : Out := s.ixRow 0x72 a

/-- ASH (R435, R436): a packet with opcode 0x73. -/
def execIxAsh (a : Arrival) (s : State) : Out := s.ixRow 0x73 a

/-- RESET (R435, R436): a packet with opcode 0x74. -/
def execIxReset (a : Arrival) (s : State) : Out := s.ixRow 0x74 a

/-- LINK_CTL (R435, R436): a packet with opcode 0x75. -/
def execIxLinkCtl (a : Arrival) (s : State) : Out := s.ixRow 0x75 a

/-- READ (R435, R436): a packet with opcode 0x80. -/
def execIxRead (a : Arrival) (s : State) : Out := s.ixRow 0x80 a

/-- WRITE (R435, R436): a packet with opcode 0x81. -/
def execIxWrite (a : Arrival) (s : State) : Out := s.ixRow 0x81 a

/-- HOP_POP (R435, R436): a packet with opcode 0x83. -/
def execIxHopPop (a : Arrival) (s : State) : Out := s.ixRow 0x83 a

/-- HOP_PUSH (R435, R436): a packet with opcode 0x84. -/
def execIxHopPush (a : Arrival) (s : State) : Out := s.ixRow 0x84 a

/-- HOP_CMD (R435, R436): a packet with opcode 0x85. -/
def execIxHopCmd (a : Arrival) (s : State) : Out := s.ixRow 0x85 a

/-- ATTEST (R435, R436): a packet with opcode 0x90. -/
def execIxAttest (a : Arrival) (s : State) : Out := s.ixRow 0x90 a

/-- CERT (R435, R436): a packet with opcode 0x91. -/
def execIxCert (a : Arrival) (s : State) : Out := s.ixRow 0x91 a

/-- KEY_STATUS (R435, R436): a packet with opcode 0x92. -/
def execIxKeyStatus (a : Arrival) (s : State) : Out := s.ixRow 0x92 a

/-- KEY_WRITE (R435, R436): a packet with opcode 0x93. -/
def execIxKeyWrite (a : Arrival) (s : State) : Out := s.ixRow 0x93 a

/-- KEY_CMD (R435, R436): a packet with opcode 0x94. -/
def execIxKeyCmd (a : Arrival) (s : State) : Out := s.ixRow 0x94 a

/-- SVN_RAISE (R435, R436): a packet with opcode 0x95. -/
def execIxSvnRaise (a : Arrival) (s : State) : Out := s.ixRow 0x95 a

/-- DROPPED (R423): a packet that is too short, has a wrong MAGIC or HCRC, or carries REPLY = 1. -/
def execIxDropped (a : Arrival) (s : State) : Out :=
  match s.ixArrival a with
  | none => ok s
  | some (_, b, s1) => if pktDropped b then ok s1.ixDrop.ixSettle else ok s

/-- BAD_OPCODE (R432, R435). -/
def execIxBadOpcode (a : Arrival) (s : State) : Out :=
  match s.ixArrival a with
  | none => ok s
  | some (ep, b, s1) => if s.pktUnknown b then ok (s1.ixTake ep b).ixSettle else ok s

/-! Timeouts and completions. -/

/-- SESSION_IDLE_TIMEOUT (R428, R439, R473): 30 s without a valid packet, core 0 halted or not. -/
def execSessionIdleTimeout (sid : BitVec 16) (s : State) : Out := ok (s.closeSession sid.toNat)

/-- R433: the held requests that stand before any gap. -/
def noGap (held : List (List Byte)) : Nat → Word → List (List Byte)
  | 0, _ => []
  | n + 1, e => match held.find? (fun b => decide (BitVec.ofNat 32 (beAt b 6 4) = e)) with
    | some b => b :: noGap held n (e + 1)
    | none => []

/-- SEQUENCE_GAP_TIMEOUT (R433): the gap of a session is still open after 1 s. -/
def execSequenceGapTimeout (sid : BitVec 16) (s : State) : Out :=
  match s.session sid.toNat with
  | some x => ok (if s.ixRuns then s.setSession { x with held := noGap x.held 8 x.expect } else s)
  | none => ok s

/-- The request that runs in a session, if it waits for what the test accepts. -/
def State.ixWaiting (s : State) (sid : Nat) (f : IxWait → Bool) : Option Req :=
  match s.session sid with
  | some x => match x.run with
    | some r => if f r.wait then some (x.req r) else none
    | none => none
  | none => none

/-- RELAY_TIMEOUT (R434): no reply within 1 s. -/
def execRelayTimeout (sid : BitVec 16) (s : State) : Out :=
  match s.ixWaiting sid.toNat (fun w => match w with | .relay _ _ => true | _ => false) with
  | some q => ok (if s.ixRuns then (s.ixReply q stUnreached 0 []).ixSettle else s)
  | none => ok s

/-- The lines a WAIT_LOCK of a session names. -/
def State.lockLines (s : State) (sid : Nat) : Nat :=
  match s.session sid with
  | some x => match x.run with
    | some r => match r.wait with
      | .lock n => n
      | _ => 0
    | none => 0
  | none => 0

/-- A request waits for lines to lock. -/
def isLockWait : IxWait → Bool
  | .lock _ => true
  | _ => false

/-- WAIT_LOCK_DONE (R436): every line named shows LOCK. -/
def execWaitLockDone (sid : BitVec 16) (s : State) : Out :=
  match s.ixWaiting sid.toNat isLockWait with
  | some q =>
    let n := s.lockLines sid.toNat
    ok (if s.ixRuns && decide (s.lockedOf n = n) then (s.ixReply q stOk 0 (be 1 n ++ be 3 0)).ixSettle else s)
  | none => ok s

/-- WAIT_LOCK_LIMIT (R436): LIMIT passes first. -/
def execWaitLockLimit (sid : BitVec 16) (s : State) : Out :=
  match s.ixWaiting sid.toNat isLockWait with
  | some q => ok (if s.ixRuns then (s.ixReply q stTimeout 0 (be 1 (s.lockedOf (s.lockLines sid.toNat)) ++ be 3 0)).ixSettle else s)
  | none => ok s

/-- RESET_DELAY_EXPIRY (R436): 10 ms after the reply of RESET. -/
def execResetDelayExpiry (s : State) : Out :=
  match s.ix.resetDue with
  | none => ok s
  | some t =>
    let s1 := { s with ix := { s.ix with resetDue := none } }
    ok (if !s.ixRuns then s else if t = 0 then s1.complexReset else s1.packageReset)

/-- A flash job's bytes are in the flash, in an epoch of their own. -/
def State.flashPut (s : State) (off : Nat) (b : List Byte) : State :=
  { s with epoch := s.epoch + 1, flash := Store.putBytes s.flash off b }

/-- The flash jobs left. -/
def State.setJobs (s : State) (l : List FlashJob) : State := { s with ix := { s.ix with jobs := l } }

/-- R395, R436: the end of a flash programme of a push or of a record; a firmware pushed in recovery resets the package. -/
def State.flashDone (s : State) (good : Bool) : State :=
  match s.ix.jobs with
  | [] => s
  | j :: rest =>
    let s1 := s.setJobs rest
    let bytes := if good then j.bytes else (List.range j.bytes.length).map (fun i => (Config.freeCell 5 (s.epoch + 1) i).setWidth 8)
    let s2 := s1.flashPut j.offset bytes
    let s3 := match s2.ixWaiting j.session (fun w => match w with | .flash => true | _ => false) with
      | none => s2
      | some q =>
        if !good then s2.ixReply q stFlashFail 0 []
        else if q.op = 0x33 then s2.ixReplyRegs q stOk 0 [cmpReg 0]
        else s2.ixReply q stOk 0 (be 4 (leAt j.bytes (j.bytes.length - 4) 4))
    if good && s.recovery then s3.packageReset else s3.ixSettle

/-- FLASH_PROGRAM_COMPLETE (R436, R437). -/
def execFlashProgramComplete (good : Bool) (s : State) : Out := ok (s.flashDone good)

/-- The head of the queue of signing sessions leaves it. -/
def State.signNext (s : State) : State := { s with ix := { s.ix with signQ := s.ix.signQ.drop 1 } }

/-- The signed report is taken. -/
def State.takeSigned (s : State) : State := { s with signed := none }

/-- R387: a report is signed and returned to the session that asked for it. -/
def State.signEnd (s : State) : State :=
  if s.reports.isEmpty then s
  else
    let s1 := s.signDone
    let sid := nth 0 s.ix.signQ 0
    let s2 := s1.signNext
    match s2.ixWaiting sid (fun w => match w with | .sign => true | _ => false), s2.signed with
    | some q, some b => s2.takeSigned.ixReply q stOk 0 b
    | _, _ => s2

/-- NOTARY_SIGN_COMPLETE (R386, R387). -/
def execNotarySignComplete (s : State) : Out := ok s.signEnd.ixSettle

/-! Accesses of Ixzento that waited (R160, R394, R435). -/

/-- The access of the fabric that a request waits for, and whether it is a read (a WRITE's are apart). -/
def IxWait.access : IxWait → Option (Nat × Bool)
  | .read id _ _ _ _ _ => some (id, true)
  | .hopStat id _ _ => some (id, true)
  | .hopPop id _ _ _ => some (id, true)
  | .hopPush id _ _ _ => some (id, false)
  | .hopCmd id _ => some (id, false)
  | .ash id _ => some (id, false)
  | _ => none

/-- The session whose request waits for access `id`. -/
def State.waiter (s : State) (id : Nat) : Option (Session × Running) :=
  match s.ix.sessions.find? (fun x => match x.run with
    | some r => (r.wait.access.map (·.1)) == some id
    | none => false) with
  | some x => x.run.map (fun r => (x, r))
  | none => none

/-- An access of Ixzento has its answer, and the request that waits for it goes on. -/
def State.ixAnswer (s : State) (id : Nat) (a : Answer) : State :=
  match s.waiter id with
  | some (x, r) => s.ixGoOn (x.req r) r.wait a
  | none => s

/-- A WRITE's access has been performed or refused. -/
def writeAnswer (id : Nat) (refused : Bool) (w : IxWait) : IxWait :=
  match w with
  | .write ids n ref =>
    if ids.contains id then .write (ids.filter (· != id)) (if refused then n else n + 1) (ref || refused) else .write ids n ref
  | w => w
def State.writeDone (s : State) (id : Nat) (refused : Bool) : State :=
  { s with ix := { s.ix with sessions := s.ix.sessions.map (fun x =>
      { x with run := x.run.map (fun r => { r with wait := writeAnswer id refused r.wait }) }) } }

/-- R470: the debug access that waits has its outcome; its result is discarded once it has timed out (R470) or the debugger has detached (R479). -/
def State.dbgAnswer (s : State) (id : Nat) (a : Answer) : State :=
  match s.dbgAcc with
  | some x =>
    if x.id ≠ id then s
    else
      let st := if a = .quarantined then 3 else 0
      if x.read then { s with dbgAcc := none, dbgStatus := st, dbgP := a.tok.p, dbgData := a.tok.d.setWidth 64 }
      else { s with dbgAcc := none, dbgStatus := st }
  | none => s

/-- ACCESS_REPLY (R117, R134, R148, R394): the reply of read `id` reaches its issuer. -/
def execAccessReply (id : Nat) (s : State) : Out :=
  match s.flight id with
  | none => ok s
  | some f => if !f.path.isEmpty then ok s else match f.iss, f.kind, f.ans with
    | .ixz, .read, some a =>
      let s0 := s.dropFlight id
      let s1 := if a.tok.p then s0.fstat 0 30 else s0
      ok ((if (s.waiter id).isSome then s1 else { s1 with rdata := a.tok.d.setWidth 64 }).ixAnswer id a).ixSettle
    | .debug, .read, some a => ok ((s.dropFlight id).dbgAnswer id a)
    | _, _, _ => settled (accessReply id s)

/-- ACCESS_COMPLETION_REPORT (R157, R160): the report of write `id` reaches its issuer. -/
def execAccessCompletionReport (id : Nat) (s : State) : Out :=
  match s.flight id with
  | none => ok s
  | some f => if !f.path.isEmpty then ok s else match f.iss, f.kind, f.ans with
    | .ixz, .write, some a => ok (((s.dropFlight id).writeDone id (a == .quarantined)).ixAnswer id a).ixSettle
    | .debug, .write, some a => ok ((s.dropFlight id).dbgAnswer id a)
    | _, _, _ => ok (s.completionReport id).ixSettle

/-- FTMO (R394): core c's load, or on core 0 an access that Ixzento's READ waits for, has no reply within MGT_FCTL.FTMO µs. -/
def execFtmo (c : Fin 4) (s : State) : Out :=
  if (s.core c.val).load.isSome then ok (s.loadTimeout c.val).ixSettle
  else if c.val ≠ 0 then ok s
  else match s.ix.sessions.findSome? (fun x => x.run.bind (fun r => match r.wait.access with | some (i, true) => some i | _ => none)) with
    | some id => ok ((s.fstat 0 31).ixAnswer id (.word {})).ixSettle
    | none => ok s

end Sys2Proof.Machine
end

