-- ==== Sys2Proof/Machine/LoadRows.lean ====
section
/-! DEFINITION. The commands whose end a request of Ixzento may wait for: loads, slices, domains, eFuse programmes, MGMT messages, register writes. Each does its part, and Ixzento takes note. -/

namespace Sys2Proof.Machine

/-- REGISTER_WRITE (R10): a write by an access in flight, or direct. -/
def execRegisterWrite (w : RegAccess) (v : BitVec 64) (s : State) : Out := ok (s.registerWrite w v).ixSettle

/-- FULL_LOAD (R365). -/
def execFullLoad (src : Source) (s : State) : Out := ok (s.fullLoad src).ixSettle

/-- PARTIAL_LOAD (R372). -/
def execPartialLoad (r : Fin 32) (src : Source) (s : State) : Out := ok (s.partialLoad r.val src).ixSettle

/-- STAGING_COMPLETE (R360, R365). -/
def execStagingComplete (s : State) : Out := ok s.stageDone.ixSettle

/-- FRAME_WRITE (R360, R362). -/
def execFrameWrite (v : Verify) (s : State) : Out := ok (s.frameWrite v).ixSettle

/-- MEMORY_INIT_COMPLETE (R365 step 6). -/
def execMemoryInitComplete (s : State) : Out := ok s.memoryInit.ixSettle

/-- START_UP_SEQUENCE (R367, R368): the start-up codes in order, up to a WAIT. -/
def execStartUpSequence (s : State) : Out := ok s.startUp.ixSettle

/-- STARTUP_WAIT_LOCK (R368): the lines that a WAIT names are locked, and the sequence goes on. -/
def execStartupWaitLock (s : State) : Out :=
  match s.load with
  | some l => ok (if l.steps.head? = some 0 ∧ s.linesLocked l then s.startUp.ixSettle else s)
  | none => ok s

/-- STARTUP_TIMEOUT (R369). -/
def execStartupTimeout (s : State) : Out := ok s.startTimeout.ixSettle

/-- CMP_ABORT (R361, R374): CMP_CTL.ABORT written 1. -/
def execCmpAbort (iss : Issuer) (s : State) : Out := ok (s.guarded iss .cmp 0 State.loadAbort).ixSettle

/-- SLICE_COMPLETE (R337, R338). -/
def execSliceComplete (kind : Fin 8) (index : Fin 1024) (sig : Word) (s : State) : Out := ok (s.sliceEnd kind.val index.val sig false).ixSettle

/-- SLICE_BUDGET_EXCEEDED (R337): the run fails. -/
def execSliceBudgetExceeded (kind : Fin 8) (index : Fin 1024) (sig : Word) (s : State) : Out := ok (s.sliceEnd kind.val index.val sig true).ixSettle

/-- SYNCHRONISATION_HOLD (R327 events 4 and 5, R329, R341). -/
def execSynchronisationHold (r : Fin 32) (s : State) : Out := settled (syncHold r s)

/-- UNPAIRED_SWAP (R193, R330). -/
def execUnpairedSwap (r : Fin 32) (s : State) : Out := settled (unpairedSwap r s)

/-- EFUSE_PROGRAM_COMPLETE (R377). -/
def execEfuseProgramComplete (s : State) : Out := ok s.efuseDone.ixSettle

/-- TAMPER (R380): with TEN = 1 and a supply, TAMPER_N was high for 1 µs. -/
def execTamper (s : State) : Out := ok (if s.rb (lsmReg 4) 31 && (s.vin || s.vbat) then s.tamperErase.ixSettle else s)

/-- DOMAIN_REQUEST (R442, R443, R454): LMP_DOMn written. -/
def execDomainRequest (iss : Issuer) (n : Fin 748) (v : Word) (s : State) : Out := ok (s.guarded iss .lmp 0 (fun s => s.domWrite n.val v)).ixSettle

/-- DOMAIN_CHANGE_COMPLETE (R442). -/
def execDomainChangeComplete (n : Fin 748) (s : State) : Out := ok (s.domDone n.val).ixSettle

/-- MGMT_MESSAGE (R286, R426). -/
def execMgmtMessage (l : Fin 32) (s : State) : Out := ok (s.deliverFront l.val 3 7).ixSettle

/-- FORWARDING (R299). -/
def execForwarding (w : Forward) (s : State) : Out :=
  match w with
  | .link l c => ok (s.forwardFront l.val c.val).ixSettle
  | .flight id => ok (s.forwardFlight id).ixSettle

/-- RESUME (R473). -/
def execResume (iss : Issuer) (c : Fin 4) (s : State) : Out := ok (s.debugOnly iss (fun s => s.resume c.val)).ixSettle

/-- DETACH (R478). -/
def execDetach (iss : Issuer) (s : State) : Out := ok (s.debugOnly iss State.detach).ixSettle

end Sys2Proof.Machine
end

