-- ==== Sys2Proof/Machine/Boot.lean ====
section
/-! DEFINITION. The boot (R395): the strap record, the Locksmith's checks, the firmware or recovery, and what Ixzento restores before the first load. -/

namespace Sys2Proof.Machine

/-- R252, R397: no load has been asked for since package reset. -/
def State.fresh (s : State) : Bool := !s.loadAsked

/-- R260, R261: the strap record applied; with a wrong CRC every bank stays Cold. -/
def State.applyStraps (s : State) : State :=
  (s.record 0).elim s (fun b => s.each (List.range 24) (fun s n =>
    let s1 := s.rsetf (bankReg n 0) 8 3 (leAt b (12 * n) 1)
    let s2 := (s1.rput (bankReg n 0x14) (BitVec.ofNat 64 (leAt b (12 * n + 4) 4))).rput (bankReg n 0x18) (BitVec.ofNat 64 (leAt b (12 * n + 8) 4))
    if leAt b (12 * n + 1) 1 = 1 ∧ s2.domAllows (672 + n) 0 then s2.domApply (672 + n) 0 else s2))

/-- R378, R379: at every boot a slot whose programme was cut short reads BAD, and BBLOST is set where the battery-backed slots lost theirs. -/
def State.keyCheck (s : State) : State :=
  let s1 := s.each s.cutSlots (fun s i => if (s.kslot i).st = 2 then s else s.setKslot i { st := 3 })
  let s2 := if s.bbGone then s1.sticky (lsmReg 0) 30 else s1
  { s2 with cutSlots := [], bbGone := false }

/-- R384, R395: the firmware of slot A, or of slot B. -/
def State.bootFirmware (s : State) : Option Firmware :=
  match s.firmwareOf (s.flashBytes 0 0x02000000) with
  | some f => some f
  | none => s.firmwareOf (s.flashBytes 0x02000000 0x02000000)

/-- R338: the fault record restored; a bank it marks is Cold. -/
def State.restoreFaults (s : State) : State :=
  (s.record 3).elim s (fun b =>
    let regs := (List.range 17).map (fun i => 0x100 + 4 * i) ++ (List.range 4).map (fun i => 0x180 + 4 * i) ++ [0x190, 0x194]
    let s1 := s.each ((List.range 23).zip regs) (fun s e =>
      s.rput (asyReg e.2) (s.rget (asyReg e.2) ||| (BitVec.ofNat 64 (leAt b (4 * e.1) 4) &&& (if e.2 = 0x194 then 0x00FFFFFF else 0xFFFFFFFF))))
    s1.each ((List.range 152).map (544 + ·)) (fun s n => if s.domFailed n && s.dom n != 2 then s.domApply n 2 else s))

/-- R437: the system record: PKG while every link is DOWN (R297), REMTMO, the route table, then the links that LINKEN names. -/
def State.applySystem (s : State) : State :=
  (s.record 1).elim s (fun b =>
    let down := (List.range 32).all (fun l => decide (s.lstate l = 0))
    let s1 := if down then s.ixPut (chvReg 0x900) (leAt b 0 2) else s
    let s2 := s1.ixPut (chvReg 0x904) (leAt b 2 2 * 2 ^ 16)
    let s3 := s2.each (List.range 4096) (fun s p => s.ixPut (chvReg (0x4000 + 4 * p)) (leAt b (0x40 + 4 * p) 4))
    s3.each (List.range 32) (fun s l =>
      if (leAt b 4 4).testBit l && !s.rb (chl l 0) 31 then s.ixPut (chl l 0) (s.linkCtlNow l true).toNat else s))

/-- R474, R475: the straps and the keys are read, and the boot sequence has begun. -/
def State.bootChecks (s : State) : State :=
  let s1 := if s.fresh then s.applyStraps else s
  { s1.keyCheck with bootDue := false }

/-- R395: in recovery the boot ROM listens on UART0: 115,200 baud, 8 data bits, no parity, 1 stop bit. -/
def State.recoveryUart (s : State) : State := s.setUart 0 ((s.uart 0).set 0 115200 8 none 1 false)

/-- BOOT_SEQUENCE (R395, R340, R370, R371): from the release of a reset to the start of the first load; `fails` are the elements that fail the
power-up sweep. -/
def execBootSequence (fails : SweepFails) (s : State) : Out :=
  if !s.bootDue || s.hot || !s.vin || !s.coreRuns 0 then ok s
  else
    let toLoad := s.fresh || s.rb (cmpReg 0) 28
    let s2 := s.flashOn.bootChecks
    match s2.bootFirmware with
    | none =>
      let s3 := { s2 with recovery := true }.recoveryUart
      ok (if toLoad then s3.loadStart { boot := true, golden := true, serial := true, image := s3.slotImage 1 } else s3)
    | some f =>
      let s3 := ({ s2 with fw := some f }).restoreFaults.applySystem
      let s4 := s3.rsetb (asyReg 8) 30 (!Config.sliceRefs)
      let s5 := if toLoad && s4.rb (asyReg 0) 31 then s4.powerUpSweep fails.lasting fails.once else s4
      ok (if toLoad then s5.loadStart { boot := true, image := s5.slotImage 0 } else s5)

end Sys2Proof.Machine
end

