-- ==== Sys2Proof/Machine/Debug.lean ====
section
/-! DEFINITION. The test access port (R468 to R471, R478): its instructions, the boundary register, and debug accesses; and instructions fed to a halted core (R473). -/

namespace Sys2Proof.Machine

/-! The boundary register (R469, log entry 36). -/

/-- The level an instruction that drives pads gives the pad of user pin p, whose bank is Lit. -/
def State.scanPad (s : State) (p : Nat) : State :=
  if s.dom (672 + p / 32) ≠ 0 then s
  else match s.scanDrive (3 * p) with
    | some b => s.setPin p { s.pin p with pad := b }
    | none => s

/-- R469: pads with cells return to their function, break-before-make. -/
def State.scanBack (s : State) (p : Nat) : State :=
  if s.dom (672 + p / 32) ≠ 0 then s
  else
    let d := s.padOf p
    s.setPad p { d with coming := some (d.coming.getD d.owner), kept := s.padLevel p }

/-- What a user pad's function drives: its output cell and its enable cell. -/
def State.scanOut (s : State) (p : Nat) : Bool × Bool :=
  let d := s.padOf p
  match d.coming, d.owner with
  | none, .cell => match s.cellDrives p with
    | some b => (b, true)
    | none => ((s.pin (s.driverCell p)).lvl, false)
  | none, .probe _ => (s.padLevel p, true)
  | none, .group => (s.padLevel p, (s.serCfg (p / 16)).testBit 14)
  | _, _ => (s.padLevel p, false)

/-- R469: the cells of the boundary register as a capture finds them; PIn.0 has three cells and PIn.1 to PIn.3 one each, and what PIn.0's clock
output stands at is open (log entry 2). -/
def State.scanCell (s : State) (i : Nat) : Bool :=
  if i < 2304 then
    let p := i / 3
    (match i % 3 with | 0 => s.padLevel p | 1 => (s.scanOut p).1 | _ => (s.scanOut p).2)
  else if i < 2496 then
    let g := (i - 2304) / 3
    (match i % 3, s.gdrive (g / 16) (g % 16) with
      | 0, _ => s.gpad (g / 16) (g % 16)
      | 1, some b => b
      | 1, none => s.rb (portReg (g / 16) 0) (g % 16)
      | _, d => d.isSome)
  else
    let n := (i - 2496) / 6
    match (i - 2496) % 6 with
    | 0 => (s.tport n).lv.getLsbD 0
    | 1 => bit s.freeNow n
    | 2 => bit s.freeNow (16 + n)
    | k => (s.tport n).lv.getLsbD (k - 2)

/-- R469: the boundary register's cells captured. -/
def State.scanCapture (s : State) : State :=
  { s with bcap := BitVec.ofNat 2592 ((List.range 2592).foldl (fun a i => a + (if s.scanCell i then 2 ^ i else 0)) 0) }.bumpFree

/-- R469: the TAP selects an instruction, and pads leave their functions or return to them. -/
def State.tapTo (s : State) (ir : BitVec 8) : State :=
  let was := s.scanned
  let s1 := s.gpioDo (fun s => { s with tapIr := ir })
  if s1.scanned then s1.each (List.range 768) State.scanPad
  else if was then s1.each (List.range 768) State.scanBack
  else s1

/-- TAP_INSTRUCTION (R468, R469, R478). -/
def execTapInstruction (ir : BitVec 8) (s : State) : Out :=
  let s1 := s.tapTo ir
  ok (if ir = 0x02 ∨ ir = 0xFF then s1 else (s1.rsetb (dbgReg 4) 31 true).debugSeen)

/-- TRST_N (R468, R478): low: Test-Logic-Reset, which selects IDCODE. -/
def execTrstN (s : State) : Out := ok ((s.tapTo 0x02).rsetb (dbgReg 4) 31 false)

/-- BOUNDARY_REGISTER_UPDATE (R469): a scan of the boundary register captured the pads and left `v` in it. -/
def execBoundaryRegisterUpdate (v : BitVec 2592) (s : State) : Out :=
  if s.tapIr = 1 then ok { s.scanCapture with bscan := v }
  else if s.tapIr = 0 then
    let s1 := s.scanCapture.gpioDo (fun s => { s with bscan := v })
    ok (s1.each (List.range 768) State.scanPad)
  else ok s

/-! Debug accesses (R470, R471). -/

/-- An access with DBGACC may start: the instruction is selected, and no access is still to complete. One to the DRAM waits until its die is Lit
(R447). -/
def State.dbgFree (s : State) (addr : Nat) : Bool := decide (s.tapIr = 0x10) && s.dbgAcc.isNone && (s.dramLit || !isDram addr)

/-- R470, R471: an access to the fabric has set out and is still to complete. -/
def State.dbgWait (s : State) (addr : Nat) (w64 : Bool) (k : AKind) (v : Word) (quiet : Bool) : State :=
  { s.toFabric .debug addr (width64 w64) k v quiet with dbgAcc := some ⟨k == .read, s.nextId⟩, dbgStatus := 1 }

/-- R470: a read with DBGACC. -/
def State.dbgRead (s : State) (addr : Nat) (w64 consume : Bool) : State :=
  if !s.dbgFree addr then s
  else if inFabric addr then s.dbgWait addr w64 .read 0 (!consume)
  else
    let (s1, d) := s.busRead .debug addr (width64 w64) consume
    { s1 with dbgStatus := 0, dbgP := false, dbgData := d }

/-- DBGACC_READ (R470, R471): a quiet read. ADDR has 36 bits. -/
def execDbgaccRead (addr : BitVec 64) (w64 : Bool) (s : State) : Out := ok (s.dbgRead (addr.toNat % 2 ^ 36) w64 false)

/-- DBGACC_CONSUMING_READ (R470, R471). -/
def execDbgaccConsumingRead (addr : BitVec 64) (w64 : Bool) (s : State) : Out := ok (s.dbgRead (addr.toNat % 2 ^ 36) w64 true).ixSettle

/-- DBGACC_WRITE (R470, R471). -/
def execDbgaccWrite (addr : BitVec 64) (w64 : Bool) (v : BitVec 64) (s : State) : Out :=
  if !s.dbgFree (addr.toNat % 2 ^ 36) then ok s
  else if inFabric (addr.toNat % 2 ^ 36) then ok (s.dbgWait (addr.toNat % 2 ^ 36) w64 .write (v.setWidth 32) false)
  else ok { s.busWrite .debug (addr.toNat % 2 ^ 36) (width64 w64) v with dbgStatus := 0 }.ixSettle

/-- DBGACC_TIMEOUT (R470): the access does not complete within DBG_CTL.ATMO µs. -/
def execDbgaccTimeout (s : State) : Out :=
  ok (if s.dbgAcc.isSome then { s with dbgAcc := none, dbgStatus := 2, dbgP := false, dbgData := 0 } else s)

/-- FEED (R473): DBG_COREc_FEED written; `eff` says what the instruction asks of the part outside the core. -/
def execFeed (iss : Issuer) (c : Fin 4) (insn : Word) (eff : FedEffect) (s : State) : Out :=
  ok (s.debugOnly iss (fun s => s.feedIn c.val insn eff)).ixSettle

end Sys2Proof.Machine
end

