-- ==== Sys2Proof/Machine/Dispatch.lean ====
section
/-! DEFINITION. One arm per command: one direct call of its meaning. -/

namespace Sys2Proof.Machine

def exec (i : Instr) (s : State) : Host.Outcome State Fault Refusal :=
  match i with
  | .powerOnReset rise vbat => Sys2Proof.Machine.execPowerOnReset rise vbat s
  | .vinDipPackageReset => Sys2Proof.Machine.execVinDipPackageReset s
  | .prstNAssert => Sys2Proof.Machine.execPrstNAssert s
  | .thermalTrip d t => Sys2Proof.Machine.execThermalTrip d t s
  | .thermalTripRelease => Sys2Proof.Machine.execThermalTripRelease s
  | .bootSequence fails => Sys2Proof.Machine.execBootSequence fails s
  | .registerWrite w v => Sys2Proof.Machine.execRegisterWrite w v s
  | .calrun iss => Sys2Proof.Machine.execCalrun iss s
  | .spineCalibration skew => Sys2Proof.Machine.execSpineCalibration skew s
  | .reflock => Sys2Proof.Machine.execReflock s
  | .phaseInputEdge p lv ts two => Sys2Proof.Machine.execPhaseInputEdge p lv ts two s
  | .indexEdge p ts => Sys2Proof.Machine.execIndexEdge p ts s
  | .ssiRequest p ts dataHigh => Sys2Proof.Machine.execSsiRequest p ts dataHigh s
  | .ssiFrame p bits returned => Sys2Proof.Machine.execSsiFrame p bits returned s
  | .fabricStreamMeasurement n ts => Sys2Proof.Machine.execFabricStreamMeasurement n ts s
  | .tlyPortCfgWrite iss p off v => Sys2Proof.Machine.execTlyPortCfgWrite iss p off v s
  | .tlyDiffWrite iss v => Sys2Proof.Machine.execTlyDiffWrite iss v s
  | .spineTick => Sys2Proof.Machine.execSpineTick s
  | .standstillTimeout l => Sys2Proof.Machine.execStandstillTimeout l s
  | .missingPulse l => Sys2Proof.Machine.execMissingPulse l s
  | .spineFrameArrival r k => Sys2Proof.Machine.execSpineFrameArrival r k s
  | .spineFrameMissing r lasting => Sys2Proof.Machine.execSpineFrameMissing r lasting s
  | .lineEnable iss l v => Sys2Proof.Machine.execLineEnable iss l v s
  | .commit iss l => Sys2Proof.Machine.execCommit iss l s
  | .commitApply l => Sys2Proof.Machine.execCommitApply l s
  | .hold iss l v => Sys2Proof.Machine.execHold iss l v s
  | .tokenArrival x j bad => Sys2Proof.Machine.execTokenArrival x j bad s
  | .nop x ck => Sys2Proof.Machine.execNop x ck s
  | .mov x ck => Sys2Proof.Machine.execMov x ck s
  | .movh x ck => Sys2Proof.Machine.execMovh x ck s
  | .sel x ck => Sys2Proof.Machine.execSel x ck s
  | .ptst x ck => Sys2Proof.Machine.execPtst x ck s
  | .ftst x ck => Sys2Proof.Machine.execFtst x ck s
  | .add x ck => Sys2Proof.Machine.execAdd x ck s
  | .adc x ck => Sys2Proof.Machine.execAdc x ck s
  | .sub x ck => Sys2Proof.Machine.execSub x ck s
  | .sbc x ck => Sys2Proof.Machine.execSbc x ck s
  | .neg x ck => Sys2Proof.Machine.execNeg x ck s
  | .abs x ck => Sys2Proof.Machine.execAbs x ck s
  | .adds x ck => Sys2Proof.Machine.execAdds x ck s
  | .subs x ck => Sys2Proof.Machine.execSubs x ck s
  | .addu x ck => Sys2Proof.Machine.execAddu x ck s
  | .subu x ck => Sys2Proof.Machine.execSubu x ck s
  | .min x ck => Sys2Proof.Machine.execMin x ck s
  | .max x ck => Sys2Proof.Machine.execMax x ck s
  | .minu x ck => Sys2Proof.Machine.execMinu x ck s
  | .maxu x ck => Sys2Proof.Machine.execMaxu x ck s
  | .sats x ck => Sys2Proof.Machine.execSats x ck s
  | .satu x ck => Sys2Proof.Machine.execSatu x ck s
  | .clamp x ck => Sys2Proof.Machine.execClamp x ck s
  | .andOp x ck => Sys2Proof.Machine.execAndOp x ck s
  | .orOp x ck => Sys2Proof.Machine.execOrOp x ck s
  | .xorOp x ck => Sys2Proof.Machine.execXorOp x ck s
  | .andn x ck => Sys2Proof.Machine.execAndn x ck s
  | .shl x ck => Sys2Proof.Machine.execShl x ck s
  | .shr x ck => Sys2Proof.Machine.execShr x ck s
  | .sar x ck => Sys2Proof.Machine.execSar x ck s
  | .rol x ck => Sys2Proof.Machine.execRol x ck s
  | .ror x ck => Sys2Proof.Machine.execRor x ck s
  | .shlc x ck => Sys2Proof.Machine.execShlc x ck s
  | .fshr x ck => Sys2Proof.Machine.execFshr x ck s
  | .clz x ck => Sys2Proof.Machine.execClz x ck s
  | .mul x ck => Sys2Proof.Machine.execMul x ck s
  | .mulh x ck => Sys2Proof.Machine.execMulh x ck s
  | .mulhu x ck => Sys2Proof.Machine.execMulhu x ck s
  | .mulsh x ck => Sys2Proof.Machine.execMulsh x ck s
  | .ceq x ck => Sys2Proof.Machine.execCeq x ck s
  | .cne x ck => Sys2Proof.Machine.execCne x ck s
  | .clt x ck => Sys2Proof.Machine.execClt x ck s
  | .cle x ck => Sys2Proof.Machine.execCle x ck s
  | .cgt x ck => Sys2Proof.Machine.execCgt x ck s
  | .cge x ck => Sys2Proof.Machine.execCge x ck s
  | .cltu x ck => Sys2Proof.Machine.execCltu x ck s
  | .cleu x ck => Sys2Proof.Machine.execCleu x ck s
  | .cgtu x ck => Sys2Proof.Machine.execCgtu x ck s
  | .cgeu x ck => Sys2Proof.Machine.execCgeu x ck s
  | .tst x ck => Sys2Proof.Machine.execTst x ck s
  | .plt x ck => Sys2Proof.Machine.execPlt x ck s
  | .pge x ck => Sys2Proof.Machine.execPge x ck s
  | .pwin x ck => Sys2Proof.Machine.execPwin x ck s
  | .rd x ck => Sys2Proof.Machine.execRd x ck s
  | .wr x ck => Sys2Proof.Machine.execWr x ck s
  | .mark x ck => Sys2Proof.Machine.execMark x ck s
  | .reservedOpcode x ck => Sys2Proof.Machine.execReservedOpcode x ck s
  | .skippedStep x ck => Sys2Proof.Machine.execSkippedStep x ck s
  | .cellStall x lasting => Sys2Proof.Machine.execCellStall x lasting s
  | .tokenMove m bad => Sys2Proof.Machine.execTokenMove m bad s
  | .stageStall w lasting => Sys2Proof.Machine.execStageStall w lasting s
  | .accessWordSent lp => Sys2Proof.Machine.execAccessWordSent lp s
  | .accessReply id => Sys2Proof.Machine.execAccessReply id s
  | .accessCompletionReport id => Sys2Proof.Machine.execAccessCompletionReport id s
  | .broadcastToken r b => Sys2Proof.Machine.execBroadcastToken r b s
  | .bdup r b lc => Sys2Proof.Machine.execBdup r b lc s
  | .gateClose r => Sys2Proof.Machine.execGateClose r s
  | .gateDrainComplete r => Sys2Proof.Machine.execGateDrainComplete r s
  | .gateRefusal w => Sys2Proof.Machine.execGateRefusal w s
  | .coreFabricLoad c addr w => Sys2Proof.Machine.execCoreFabricLoad c addr w s
  | .coreFabricStore c addr w v => Sys2Proof.Machine.execCoreFabricStore c addr w v s
  | .coreFence c => Sys2Proof.Machine.execCoreFence c s
  | .ftmo c => Sys2Proof.Machine.execFtmo c s
  | .bmRead q hits glitch => Sys2Proof.Machine.execBmRead q hits glitch s
  | .bmWrite q => Sys2Proof.Machine.execBmWrite q s
  | .bmInitDone b => Sys2Proof.Machine.execBmInitDone b s
  | .scratchRead id hits g1 g2 => Sys2Proof.Machine.execScratchRead id hits g1 g2 s
  | .scratchWrite id => Sys2Proof.Machine.execScratchWrite id s
  | .setAliasWrite id hits g1 g2 => Sys2Proof.Machine.execSetAliasWrite id hits g1 g2 s
  | .clearAliasWrite id hits g1 g2 => Sys2Proof.Machine.execClearAliasWrite id hits g1 g2 s
  | .bankRound b => Sys2Proof.Machine.execBankRound b s
  | .scrubVisit b hits g1 g2 => Sys2Proof.Machine.execScrubVisit b hits g1 g2 s
  | .handover iss b v => Sys2Proof.Machine.execHandover iss b v s
  | .hdone b => Sys2Proof.Machine.execHdone b s
  | .prtReqWrite iss b n v => Sys2Proof.Machine.execPrtReqWrite iss b n v s
  | .bankClear iss b => Sys2Proof.Machine.execBankClear iss b s
  | .clrdone b => Sys2Proof.Machine.execClrdone b s
  | .hopperPush w => Sys2Proof.Machine.execHopperPush w s
  | .pendingPushAccepted id => Sys2Proof.Machine.execPendingPushAccepted id s
  | .hopperPop id hits glitch => Sys2Proof.Machine.execHopperPop id hits glitch s
  | .pendingPopServed h hits glitch => Sys2Proof.Machine.execPendingPopServed h hits glitch s
  | .hopperMark id => Sys2Proof.Machine.execHopperMark id s
  | .rewind id => Sys2Proof.Machine.execRewind id s
  | .release id => Sys2Proof.Machine.execRelease id s
  | .releasem id => Sys2Proof.Machine.execReleasem id s
  | .flush w => Sys2Proof.Machine.execFlush w s
  | .hopperCmdNop id => Sys2Proof.Machine.execHopperCmdNop id s
  | .hopperReservedCmd id => Sys2Proof.Machine.execHopperReservedCmd id s
  | .hopWmWrite iss h v => Sys2Proof.Machine.execHopWmWrite iss h v s
  | .markNop p => Sys2Proof.Machine.execMarkNop p s
  | .markLow p => Sys2Proof.Machine.execMarkLow p s
  | .markHigh p => Sys2Proof.Machine.execMarkHigh p s
  | .markToggle p => Sys2Proof.Machine.execMarkToggle p s
  | .markFloat p => Sys2Proof.Machine.execMarkFloat p s
  | .markPark p => Sys2Proof.Machine.execMarkPark p s
  | .wopen p => Sys2Proof.Machine.execWopen p s
  | .wclose p => Sys2Proof.Machine.execWclose p s
  | .cancel p => Sys2Proof.Machine.execCancel p s
  | .markReservedAct p => Sys2Proof.Machine.execMarkReservedAct p s
  | .poisonedPair p => Sys2Proof.Machine.execPoisonedPair p s
  | .markEvaluation p m => Sys2Proof.Machine.execMarkEvaluation p m s
  | .captureEdge p level n before slow => Sys2Proof.Machine.execCaptureEdge p level n before slow s
  | .fpark iss p on => Sys2Proof.Machine.execFpark iss p on s
  | .pinCtlCancel iss p => Sys2Proof.Machine.execPinCtlCancel iss p s
  | .wclr iss p => Sys2Proof.Machine.execWclr iss p s
  | .supply b => Sys2Proof.Machine.execSupply b s
  | .serialFrameReceived n f => Sys2Proof.Machine.execSerialFrameReceived n f s
  | .align n => Sys2Proof.Machine.execAlign n s
  | .syncerr n => Sys2Proof.Machine.execSyncerr n s
  | .serialWordTransmit n => Sys2Proof.Machine.execSerialWordTransmit n s
  | .padSwitchComplete p => Sys2Proof.Machine.execPadSwitchComplete p s
  | .blockLock l k => Sys2Proof.Machine.execBlockLock l k s
  | .blockLockLoss l k bad => Sys2Proof.Machine.execBlockLockLoss l k bad s
  | .frameReceive l ws hdrBad ts => Sys2Proof.Machine.execFrameReceive l ws hdrBad ts s
  | .replayTimeout l => Sys2Proof.Machine.execReplayTimeout l s
  | .frameBoundary l ts => Sys2Proof.Machine.execFrameBoundary l ts s
  | .readMessage l cls => Sys2Proof.Machine.execReadMessage l cls s
  | .writeMessage l cls => Sys2Proof.Machine.execWriteMessage l cls s
  | .rdrsp l cls => Sys2Proof.Machine.execRdrsp l cls s
  | .wrdone l cls => Sys2Proof.Machine.execWrdone l cls s
  | .streamMessage l cls => Sys2Proof.Machine.execStreamMessage l cls s
  | .phaseMessage l => Sys2Proof.Machine.execPhaseMessage l s
  | .mgmtMessage l => Sys2Proof.Machine.execMgmtMessage l s
  | .mgmtReassemblyTimeout pkg => Sys2Proof.Machine.execMgmtReassemblyTimeout pkg s
  | .linkEnable iss l => Sys2Proof.Machine.execLinkEnable iss l s
  | .linkDisable iss l => Sys2Proof.Machine.execLinkDisable iss l s
  | .signalDetect l lanes => Sys2Proof.Machine.execSignalDetect l lanes s
  | .lockTimeout l => Sys2Proof.Machine.execLockTimeout l s
  | .alignComplete l pol swap => Sys2Proof.Machine.execAlignComplete l pol swap s
  | .alignLimit l => Sys2Proof.Machine.execAlignLimit l s
  | .trainFrameReceived l ws => Sys2Proof.Machine.execTrainFrameReceived l ws s
  | .negotiateTimeout l => Sys2Proof.Machine.execNegotiateTimeout l s
  | .retrain iss l readmit => Sys2Proof.Machine.execRetrain iss l readmit s
  | .laneTestComplete l k pass => Sys2Proof.Machine.execLaneTestComplete l k pass s
  | .downtmo l => Sys2Proof.Machine.execDowntmo l s
  | .sysidWrite iss v => Sys2Proof.Machine.execSysidWrite iss v s
  | .forwarding w => Sys2Proof.Machine.execForwarding w s
  | .remoteTimeout id => Sys2Proof.Machine.execRemoteTimeout id s
  | .phaseSend l => Sys2Proof.Machine.execPhaseSend l s
  | .phaseCoast n => Sys2Proof.Machine.execPhaseCoast n s
  | .holdoverExpiry n => Sys2Proof.Machine.execHoldoverExpiry n s
  | .configCheckError w again => Sys2Proof.Machine.execConfigCheckError w again s
  | .compareStage r j k glitch late => Sys2Proof.Machine.execCompareStage r j k glitch late s
  | .missingTwin r j k => Sys2Proof.Machine.execMissingTwin r j k s
  | .evidenceWindowExpiry r j => Sys2Proof.Machine.execEvidenceWindowExpiry r j s
  | .spareFramesWritten r => Sys2Proof.Machine.execSpareFramesWritten r s
  | .memoryCopyComplete r => Sys2Proof.Machine.execMemoryCopyComplete r s
  | .synchronisationHold r => Sys2Proof.Machine.execSynchronisationHold r s
  | .unpairedSwap r => Sys2Proof.Machine.execUnpairedSwap r s
  | .tnkAsh iss r => Sys2Proof.Machine.execTnkAsh iss r s
  | .frameScrub r glitch => Sys2Proof.Machine.execFrameScrub r glitch s
  | .sliceRequest iss kind index => Sys2Proof.Machine.execSliceRequest iss kind index s
  | .sliceComplete kind index sig => Sys2Proof.Machine.execSliceComplete kind index sig s
  | .sliceBudgetExceeded kind index sig => Sys2Proof.Machine.execSliceBudgetExceeded kind index sig s
  | .sliceAbandon g => Sys2Proof.Machine.execSliceAbandon g s
  | .backgroundSlice => Sys2Proof.Machine.execBackgroundSlice s
  | .fullLoad src => Sys2Proof.Machine.execFullLoad src s
  | .partialLoad r src => Sys2Proof.Machine.execPartialLoad r src s
  | .stagingComplete => Sys2Proof.Machine.execStagingComplete s
  | .frameWrite v => Sys2Proof.Machine.execFrameWrite v s
  | .memoryInitComplete => Sys2Proof.Machine.execMemoryInitComplete s
  | .startUpSequence => Sys2Proof.Machine.execStartUpSequence s
  | .startupWaitLock => Sys2Proof.Machine.execStartupWaitLock s
  | .startupTimeout => Sys2Proof.Machine.execStartupTimeout s
  | .cmpAbort iss => Sys2Proof.Machine.execCmpAbort iss s
  | .kcmdWrite iss slot => Sys2Proof.Machine.execKcmdWrite iss slot s
  | .kcmdErase iss slot => Sys2Proof.Machine.execKcmdErase iss slot s
  | .kcmdRevoke iss slot => Sys2Proof.Machine.execKcmdRevoke iss slot s
  | .kcmdOwner iss slot => Sys2Proof.Machine.execKcmdOwner iss slot s
  | .kcmdRevokeOwner iss slot => Sys2Proof.Machine.execKcmdRevokeOwner iss slot s
  | .kcmdReserved iss k slot => Sys2Proof.Machine.execKcmdReserved iss k slot s
  | .efuseProgramComplete => Sys2Proof.Machine.execEfuseProgramComplete s
  | .tamper => Sys2Proof.Machine.execTamper s
  | .notarySignComplete => Sys2Proof.Machine.execNotarySignComplete s
  | .msipWrite iss c v => Sys2Proof.Machine.execMsipWrite iss c v s
  | .gpioSet iss x v => Sys2Proof.Machine.execGpioSet iss x v s
  | .gpioClr iss x v => Sys2Proof.Machine.execGpioClr iss x v s
  | .privset c v => Sys2Proof.Machine.execPrivset c v s
  | .privclr c v => Sys2Proof.Machine.execPrivclr c v s
  | .privout c v => Sys2Proof.Machine.execPrivout c v s
  | .gpioFuncChange iss x v => Sys2Proof.Machine.execGpioFuncChange iss x v s
  | .gpioLevelChange iss v => Sys2Proof.Machine.execGpioLevelChange iss v s
  | .pinInterruptEdge n level ago => Sys2Proof.Machine.execPinInterruptEdge n level ago s
  | .machineTimer c => Sys2Proof.Machine.execMachineTimer c s
  | .watchdogEnable iss j v => Sys2Proof.Machine.execWatchdogEnable iss j v s
  | .watchdogKick iss j key => Sys2Proof.Machine.execWatchdogKick iss j key s
  | .watchdogWarn j => Sys2Proof.Machine.execWatchdogWarn j s
  | .watchdogExpiry j => Sys2Proof.Machine.execWatchdogExpiry j s
  | .ptpStep iss => Sys2Proof.Machine.execPtpStep iss s
  | .ppsOutput => Sys2Proof.Machine.execPpsOutput s
  | .ppsInputCapture err => Sys2Proof.Machine.execPpsInputCapture err s
  | .ptpEventTimestamp err => Sys2Proof.Machine.execPtpEventTimestamp err s
  | .downshift => Sys2Proof.Machine.execDownshift s
  | .phyRestart iss => Sys2Proof.Machine.execPhyRestart iss s
  | .ixHello a => Sys2Proof.Machine.execIxHello a s
  | .ixOpen a => Sys2Proof.Machine.execIxOpen a s
  | .ixProve a => Sys2Proof.Machine.execIxProve a s
  | .ixClose a => Sys2Proof.Machine.execIxClose a s
  | .ixKeepalive a => Sys2Proof.Machine.execIxKeepalive a s
  | .ixRelay a => Sys2Proof.Machine.execIxRelay a s
  | .relayTimeout sid => Sys2Proof.Machine.execRelayTimeout sid s
  | .ixIdentity a => Sys2Proof.Machine.execIxIdentity a s
  | .ixHealth a => Sys2Proof.Machine.execIxHealth a s
  | .ixViolRead a => Sys2Proof.Machine.execIxViolRead a s
  | .ixViolClear a => Sys2Proof.Machine.execIxViolClear a s
  | .ixLoad a => Sys2Proof.Machine.execIxLoad a s
  | .ixPushBegin a => Sys2Proof.Machine.execIxPushBegin a s
  | .ixPushData a => Sys2Proof.Machine.execIxPushData a s
  | .ixPushEnd a => Sys2Proof.Machine.execIxPushEnd a s
  | .ixAbort a => Sys2Proof.Machine.execIxAbort a s
  | .ixRecordWrite a => Sys2Proof.Machine.execIxRecordWrite a s
  | .ixRecordCommit a => Sys2Proof.Machine.execIxRecordCommit a s
  | .ixRecordRead a => Sys2Proof.Machine.execIxRecordRead a s
  | .ixPowerSet a => Sys2Proof.Machine.execIxPowerSet a s
  | .ixPowerGet a => Sys2Proof.Machine.execIxPowerGet a s
  | .ixRailSet a => Sys2Proof.Machine.execIxRailSet a s
  | .ixPortSet a => Sys2Proof.Machine.execIxPortSet a s
  | .ixLineSet a => Sys2Proof.Machine.execIxLineSet a s
  | .ixLineGet a => Sys2Proof.Machine.execIxLineGet a s
  | .ixWaitLock a => Sys2Proof.Machine.execIxWaitLock a s
  | .waitLockDone sid => Sys2Proof.Machine.execWaitLockDone sid s
  | .waitLockLimit sid => Sys2Proof.Machine.execWaitLockLimit sid s
  | .ixFaultRead a => Sys2Proof.Machine.execIxFaultRead a s
  | .ixFaultClear a => Sys2Proof.Machine.execIxFaultClear a s
  | .ixSliceRun a => Sys2Proof.Machine.execIxSliceRun a s
  | .ixAsh a => Sys2Proof.Machine.execIxAsh a s
  | .ixReset a => Sys2Proof.Machine.execIxReset a s
  | .resetDelayExpiry => Sys2Proof.Machine.execResetDelayExpiry s
  | .ixLinkCtl a => Sys2Proof.Machine.execIxLinkCtl a s
  | .ixRead a => Sys2Proof.Machine.execIxRead a s
  | .ixWrite a => Sys2Proof.Machine.execIxWrite a s
  | .ixHopPop a => Sys2Proof.Machine.execIxHopPop a s
  | .ixHopPush a => Sys2Proof.Machine.execIxHopPush a s
  | .ixHopCmd a => Sys2Proof.Machine.execIxHopCmd a s
  | .ixAttest a => Sys2Proof.Machine.execIxAttest a s
  | .ixCert a => Sys2Proof.Machine.execIxCert a s
  | .ixKeyStatus a => Sys2Proof.Machine.execIxKeyStatus a s
  | .ixKeyWrite a => Sys2Proof.Machine.execIxKeyWrite a s
  | .ixKeyCmd a => Sys2Proof.Machine.execIxKeyCmd a s
  | .ixSvnRaise a => Sys2Proof.Machine.execIxSvnRaise a s
  | .sessionIdleTimeout sid => Sys2Proof.Machine.execSessionIdleTimeout sid s
  | .sequenceGapTimeout sid => Sys2Proof.Machine.execSequenceGapTimeout sid s
  | .domainRequest iss n v => Sys2Proof.Machine.execDomainRequest iss n v s
  | .domainChangeComplete n => Sys2Proof.Machine.execDomainChangeComplete n s
  | .lmpRreq iss r v => Sys2Proof.Machine.execLmpRreq iss r v s
  | .railWrite iss d v => Sys2Proof.Machine.execRailWrite iss d v s
  | .railSettled d mv => Sys2Proof.Machine.execRailSettled d mv s
  | .powerMeasure p => Sys2Proof.Machine.execPowerMeasure p s
  | .temperatureMeasure d t => Sys2Proof.Machine.execTemperatureMeasure d t s
  | .upFerryToken n => Sys2Proof.Machine.execUpFerryToken n s
  | .ferryTransferComplete w => Sys2Proof.Machine.execFerryTransferComplete w s
  | .unsettled w => Sys2Proof.Machine.execUnsettled w s
  | .pulseToken n => Sys2Proof.Machine.execPulseToken n s
  | .pulseWrite iss n v => Sys2Proof.Machine.execPulseWrite iss n v s
  | .rxRead iss n => Sys2Proof.Machine.execRxRead iss n s
  | .txWrite iss n v => Sys2Proof.Machine.execTxWrite iss n v s
  | .ferryCfgWrite iss w v => Sys2Proof.Machine.execFerryCfgWrite iss w v s
  | .tapInstruction ir => Sys2Proof.Machine.execTapInstruction ir s
  | .trstN => Sys2Proof.Machine.execTrstN s
  | .dbgaccRead addr w64 => Sys2Proof.Machine.execDbgaccRead addr w64 s
  | .dbgaccWrite addr w64 v => Sys2Proof.Machine.execDbgaccWrite addr w64 v s
  | .dbgaccConsumingRead addr w64 => Sys2Proof.Machine.execDbgaccConsumingRead addr w64 s
  | .dbgaccTimeout => Sys2Proof.Machine.execDbgaccTimeout s
  | .halt c cause => Sys2Proof.Machine.execHalt c cause s
  | .resume iss c => Sys2Proof.Machine.execResume iss c s
  | .feed iss c insn eff => Sys2Proof.Machine.execFeed iss c insn eff s
  | .breakLock iss r b => Sys2Proof.Machine.execBreakLock iss r b s
  | .freeze iss v => Sys2Proof.Machine.execFreeze iss v s
  | .freezeComplete r => Sys2Proof.Machine.execFreezeComplete r s
  | .detach iss => Sys2Proof.Machine.execDetach iss s
  | .registerRead w => Sys2Proof.Machine.execRegisterRead w s
  | .vbatLoss => Sys2Proof.Machine.execVbatLoss s
  | .flashProgramComplete good => Sys2Proof.Machine.execFlashProgramComplete good s
  | .managementPortLink up gig mdix => Sys2Proof.Machine.execManagementPortLink up gig mdix s
  | .gpioLevelHoldEnd x => Sys2Proof.Machine.execGpioLevelHoldEnd x s
  | .ixDropped a => Sys2Proof.Machine.execIxDropped a s
  | .ixBadOpcode a => Sys2Proof.Machine.execIxBadOpcode a s
  | .boundaryRegisterUpdate v => Sys2Proof.Machine.execBoundaryRegisterUpdate v s

end Sys2Proof.Machine
end

