-- ==== Sys2Proof/Safety.lean ====
section
/-! DEFINITION. The words the statements use: a safe step, the fields of the state and what a command may change (Only), the canonical form of every store, and what no command may undo. -/

namespace Sys2Proof

open Machine

/-- A step from this state answers a next state: the block has no fault, and no command is refused. -/
def Safe (s : State) : Prop := ∃ t, step s = .next t

/-- The fields of the state, by name. -/
inductive Field where
  | pending | free | time | regs | rdata | tports | tlines | ptp
  | ptpGo | ptpMark | calReq | interval | frames | spine | cells | regions
  | clus | cfg | chans | aports | blines | bsrcs | bports | twins
  | lanes | flights | nextId | pairs | codePend | spareQ | swapWant | bmems
  | bbytes | banks | swords | hops | pins | spinePrevs | pads | groups
  | links | reasms | mgmtIn | lateTags | slices | sweep | asyNews | sliceEnded
  | load | flash | gold | cparks | crcs | loadEnded | imgHash | rimgs
  | staged | loadAsked | toldFaults | kslots | oslots | kcmd | cutSlots | tkrev
  | fwsvn | fw | recovery | reports | signed | attests | uarts | spi
  | i2cs | cores | wdgs | gexts | gkeeps | glines | gheld | cmpNews
  | ptpNews | ptpStamp | ppsAt | mem | memEpoch | ix | ixOut | doms
  | epoch | ups | dns | probes | tapIr | bscan | dbgAcc | dbgStatus
  | dbgP | dbgData | bcap | vin | vbat | bbGone | hot | bootDue
  deriving DecidableEq, Repr

/-- Two states hold the same in a field. -/
def Field.same (s t : State) : Field → Prop
  | .pending => t.pending = s.pending
  | .free => t.free = s.free
  | .time => t.time = s.time
  | .regs => t.regs = s.regs
  | .rdata => t.rdata = s.rdata
  | .tports => t.tports = s.tports
  | .tlines => t.tlines = s.tlines
  | .ptp => t.ptp = s.ptp
  | .ptpGo => t.ptpGo = s.ptpGo
  | .ptpMark => t.ptpMark = s.ptpMark
  | .calReq => t.calReq = s.calReq
  | .interval => t.interval = s.interval
  | .frames => t.frames = s.frames
  | .spine => t.spine = s.spine
  | .cells => t.cells = s.cells
  | .regions => t.regions = s.regions
  | .clus => t.clus = s.clus
  | .cfg => t.cfg = s.cfg
  | .chans => t.chans = s.chans
  | .aports => t.aports = s.aports
  | .blines => t.blines = s.blines
  | .bsrcs => t.bsrcs = s.bsrcs
  | .bports => t.bports = s.bports
  | .twins => t.twins = s.twins
  | .lanes => t.lanes = s.lanes
  | .flights => t.flights = s.flights
  | .nextId => t.nextId = s.nextId
  | .pairs => t.pairs = s.pairs
  | .codePend => t.codePend = s.codePend
  | .spareQ => t.spareQ = s.spareQ
  | .swapWant => t.swapWant = s.swapWant
  | .bmems => t.bmems = s.bmems
  | .bbytes => t.bbytes = s.bbytes
  | .banks => t.banks = s.banks
  | .swords => t.swords = s.swords
  | .hops => t.hops = s.hops
  | .pins => t.pins = s.pins
  | .spinePrevs => t.spinePrevs = s.spinePrevs
  | .pads => t.pads = s.pads
  | .groups => t.groups = s.groups
  | .links => t.links = s.links
  | .reasms => t.reasms = s.reasms
  | .mgmtIn => t.mgmtIn = s.mgmtIn
  | .lateTags => t.lateTags = s.lateTags
  | .slices => t.slices = s.slices
  | .sweep => t.sweep = s.sweep
  | .asyNews => t.asyNews = s.asyNews
  | .sliceEnded => t.sliceEnded = s.sliceEnded
  | .load => t.load = s.load
  | .flash => t.flash = s.flash
  | .gold => t.gold = s.gold
  | .cparks => t.cparks = s.cparks
  | .crcs => t.crcs = s.crcs
  | .loadEnded => t.loadEnded = s.loadEnded
  | .imgHash => t.imgHash = s.imgHash
  | .rimgs => t.rimgs = s.rimgs
  | .staged => t.staged = s.staged
  | .loadAsked => t.loadAsked = s.loadAsked
  | .toldFaults => t.toldFaults = s.toldFaults
  | .kslots => t.kslots = s.kslots
  | .oslots => t.oslots = s.oslots
  | .kcmd => t.kcmd = s.kcmd
  | .cutSlots => t.cutSlots = s.cutSlots
  | .tkrev => t.tkrev = s.tkrev
  | .fwsvn => t.fwsvn = s.fwsvn
  | .fw => t.fw = s.fw
  | .recovery => t.recovery = s.recovery
  | .reports => t.reports = s.reports
  | .signed => t.signed = s.signed
  | .attests => t.attests = s.attests
  | .uarts => t.uarts = s.uarts
  | .spi => t.spi = s.spi
  | .i2cs => t.i2cs = s.i2cs
  | .cores => t.cores = s.cores
  | .wdgs => t.wdgs = s.wdgs
  | .gexts => t.gexts = s.gexts
  | .gkeeps => t.gkeeps = s.gkeeps
  | .glines => t.glines = s.glines
  | .gheld => t.gheld = s.gheld
  | .cmpNews => t.cmpNews = s.cmpNews
  | .ptpNews => t.ptpNews = s.ptpNews
  | .ptpStamp => t.ptpStamp = s.ptpStamp
  | .ppsAt => t.ppsAt = s.ppsAt
  | .mem => t.mem = s.mem
  | .memEpoch => t.memEpoch = s.memEpoch
  | .ix => t.ix = s.ix
  | .ixOut => t.ixOut = s.ixOut
  | .doms => t.doms = s.doms
  | .epoch => t.epoch = s.epoch
  | .ups => t.ups = s.ups
  | .dns => t.dns = s.dns
  | .probes => t.probes = s.probes
  | .tapIr => t.tapIr = s.tapIr
  | .bscan => t.bscan = s.bscan
  | .dbgAcc => t.dbgAcc = s.dbgAcc
  | .dbgStatus => t.dbgStatus = s.dbgStatus
  | .dbgP => t.dbgP = s.dbgP
  | .dbgData => t.dbgData = s.dbgData
  | .bcap => t.bcap = s.bcap
  | .vin => t.vin = s.vin
  | .vbat => t.vbat = s.vbat
  | .bbGone => t.bbGone = s.bbGone
  | .hot => t.hot = s.hot
  | .bootDue => t.bootDue = s.bootDue

/-- Of the state `s`, `t` differs in the listed fields alone: every other field, with every memory and register in it, is as it was. -/
def Only (l : List Field) (s t : State) : Prop := ∀ f, f ∉ l → f.same s t

/-- Every store of the state is in its canonical form (Machine/Store.lean): keys strictly rising and no entry that says what an unlisted key
says already. An unlisted register reads as its own Reset value, so of the registers' store the order of the keys is asked. -/
structure Canonical (s : State) : Prop where
  regs : Store.rising none s.regs = true
  cfg : Store.wf 0#8 s.cfg = true
  flash : Store.wf 0#8 s.flash = true
  gold : Store.wf 0#8 s.gold = true
  tports : Store.wf {} s.tports = true
  tlines : Store.wf {} s.tlines = true
  spine : Store.wf {} s.spine = true
  cells : Store.wf {} s.cells = true
  regions : Store.wf {} s.regions = true
  clus : Store.wf {} s.clus = true
  chans : Store.wf {} s.chans = true
  aports : Store.wf {} s.aports = true
  blines : Store.wf {} s.blines = true
  bsrcs : Store.wf none s.bsrcs = true
  bports : Store.wf {} s.bports = true
  twins : Store.wf none s.twins = true
  lanes : Store.wf {} s.lanes = true
  pairs : Store.wf {} s.pairs = true
  swapWant : Store.wf none s.swapWant = true
  bmems : Store.wf {} s.bmems = true
  bbytes : Store.wf none s.bbytes = true
  banks : Store.wf {} s.banks = true
  swords : Store.wf none s.swords = true
  hops : Store.wf {} s.hops = true
  pins : Store.wf {} s.pins = true
  spinePrevs : Store.wf {} s.spinePrevs = true
  pads : Store.wf {} s.pads = true
  groups : Store.wf {} s.groups = true
  links : Store.wf {} s.links = true
  reasms : Store.wf {} s.reasms = true
  cparks : Store.wf 0 s.cparks = true
  crcs : Store.wf none s.crcs = true
  rimgs : Store.wf 0 s.rimgs = true
  kslots : Store.wf {} s.kslots = true
  oslots : Store.wf {} s.oslots = true
  uarts : Store.wf {} s.uarts = true
  i2cs : Store.wf {} s.i2cs = true
  cores : Store.wf {} s.cores = true
  wdgs : Store.wf {} s.wdgs = true
  gexts : Store.wf none s.gexts = true
  gkeeps : Store.wf false s.gkeeps = true
  glines : Store.wf none s.glines = true
  mem : Store.wf none s.mem = true
  doms : Store.wf {} s.doms = true
  ups : Store.wf {} s.ups = true
  dns : Store.wf {} s.dns = true
  probes : Store.wf {} s.probes = true

/-- What no command undoes: the model's counters of free values and of power-ups do not run back, a blown fuse stays blown (R384, R385), and
a revoked eFuse key slot stays revoked (R376). -/
structure Irrevocable (s t : State) : Prop where
  free : s.free ≤ t.free
  epoch : s.epoch ≤ t.epoch
  memEpoch : s.memEpoch ≤ t.memEpoch
  fwsvn : s.fwsvn ≤ t.fwsvn
  tkrev : s.tkrev = true → t.tkrev = true
  programmed : ∀ i, (s.oslot i).prog = true → (t.oslot i).prog = true
  ownerRevoked : ∀ i, (s.oslot i).rev = true → (t.oslot i).rev = true
  keyRevoked : ∀ i, i < 4 → (s.kslot i).st = 2 → (t.kslot i).st = 2

/-- A command answers a next state, and `P` holds of it. -/
def Does (c : Instr) (s : State) (P : State → Prop) : Prop := ∃ t, exec c s = .next t ∧ P t

/-- A command's own effect `P`, of which Ixzento then takes note: it answers the requests that have ended and goes on with the next ones
(R433, R436). With no session open it does nothing. -/
def DoesThen (c : Instr) (s : State) (P : State → Prop) : Prop := ∃ u, P u ∧ exec c s = .next u.ixSettle

/-- Every register but the listed ones reads after as before. -/
def KeepRegs (l : List Reg) (s t : State) : Prop := ∀ g : Reg, (∀ x ∈ l, g.addr ≠ x.addr) → t.rget g = s.rget g

/-- The entries of a keyed part of the state whose key `p` does not name are after as before. -/
def KeepKeys {α : Type} (get : State → Nat → α) (p : Nat → Prop) (s t : State) : Prop := ∀ k, ¬ p k → get t k = get s k

/-- R75: what a cell's slot waits for before its step is carried out: the opcode stands in the slot, the ports it names hold tokens, the
carry link in holds a value if it is read and the carry link out is empty if CARRY is set, PRED lets it run, its outputs are free and its
fence is done; the cell is enabled (R73) and not held (R91 to R93). -/
def StepReady (s : State) (x op : Nat) : Prop :=
  (s.slotNow x).op = op ∧ s.operandsReady x (s.slotNow x) = true ∧ (s.cell x).runs (s.slotNow x) = true ∧
  s.outputsFree x (s.slotNow x) = true ∧ s.fenceDone x (s.slotNow x).fence = true

/-- What a step leaves: the result, OY's word, the carry-out and the link word, P and F of the result, CP's new value if the opcode writes
it, and whether the step is mute (a NOP writes and emits nothing, R109). -/
structure CellEffect where
  r : Word
  oy : Word
  c : Bool := false
  lw : Word
  p : Bool
  f : Bool
  cp : Option Bool := none
  mute : Bool := false

/-- A step that emits on OY what it emits on OX and places its result as the link word with C = 0 (R107, R108). -/
def CellEffect.of (r : Word) (p f : Bool) : CellEffect := { r := r, oy := r, lw := r, p := p, f := f }

/-- R108: a predicate opcode's step: r is 1 or 0. -/
def CellEffect.test (b p f : Bool) : CellEffect := { CellEffect.of (if b then 1 else 0) p f with cp := some b }

/-- R75 to R83: the state `t` is what a carried-out step of cell `x` with slot `i` and effect `e` makes of `s`. -/
structure Stepped (s t : State) (x : Nat) (i : Slot) (e : CellEffect) : Prop where
  word : ∀ k < 4, (t.cell x).wreg k = if e.mute = false ∧ i.dst = 4 + k then e.r else (s.cell x).wreg k
  wordP : ∀ k < 4, bit (t.cell x).wp k = if e.mute = false ∧ i.dst = 4 + k then e.p else bit (s.cell x).wp k
  cp : (t.cell x).cp = e.cp.getD (s.cell x).cp
  cpp : (t.cell x).cpp = if e.cp.isSome then e.p else (s.cell x).cpp
  steps : (t.cell x).steps = (s.cell x).steps + 1
  slot : (t.cell x).slot = if i.last = true ∨ 7 ≤ (s.cell x).slot then 0 else (s.cell x).slot + 1
  ports : ∀ k < 4, (t.cell x).port k = if i.hold = false ∧ (i.sa = k ∨ i.sb = k) then none else (s.cell x).port k
  link : (t.cell x).link = if i.carry = true ∧ x % 8 ≠ 7 then some ⟨e.c, e.lw, e.p⟩ else (s.cell x).link
  ox : (t.cell x).ox = if i.ox = true ∧ e.mute = false ∧ s.routed x false = true then { tok := some ⟨e.r, e.p, e.f⟩ } else (s.cell x).ox
  oy : (t.cell x).oy = if i.oy = true ∧ e.mute = false ∧ s.routed x true = true then { tok := some ⟨e.oy, e.p, e.f⟩ } else (s.cell x).oy
  west : x % 8 ≠ 0 → t.cell (x - 1) = if i.readsLink = true then { s.cell (x - 1) with link := none } else s.cell (x - 1)
  others : ∀ y, y ≠ x → (x % 8 = 0 ∨ y + 1 ≠ x) → t.cell y = s.cell y
  precv : t.rb (cellStat x) 29 = (s.rb (cellStat x) 29 || (i.hold == false && [i.sa, i.sb].any (fun k => decide (k < 4) && (((s.cell x).port k).getD {}).p)))
  frecv : t.rb (cellStat x) 28 = (s.rb (cellStat x) 28 || (i.hold == false && [i.sa, i.sb].any (fun k => decide (k < 4) && (((s.cell x).port k).getD {}).f)))
  pemit : t.rb (cellStat x) 30 = (s.rb (cellStat x) 30 || (e.p && ((!e.mute && (i.ox || i.oy)) || i.carry)))
  stat : ∀ b, b ≠ 28 → b ≠ 29 → b ≠ 30 → t.rb (cellStat x) b = s.rb (cellStat x) b
  regs : KeepRegs [cellStat x] s t
  only : Only [.cells, .regs] s t

/-- R81, R83: P of a result of an opcode that uses both operands, whatever they are: the operands' P, the P of the carry link in if it is
read, and CPP if PRED is set. -/
def poisonOf (s : State) (x : Nat) (signed : Bool) : Bool :=
  let i := s.slotNow x
  (s.opnd x i signed i.sa).p || (s.opnd x i signed i.sb).p || (i.readsLink && ((s.linkIn x).getD {}).p) || (i.pred && (s.cell x).cpp)

/-- R83: F of a result: the F of the port operands it reads. -/
def flagOf (s : State) (x : Nat) (signed : Bool) : Bool :=
  let i := s.slotNow x
  (s.opnd x i signed i.sa).f || (s.opnd x i signed i.sb).f

/-- Operands a and b of cell `x`'s slot, with how IMM is extended. -/
def opA (s : State) (x : Nat) (signed : Bool) : Word := (s.opnd x (s.slotNow x) signed (s.slotNow x).sa).d
def opB (s : State) (x : Nat) (signed : Bool) : Word := (s.opnd x (s.slotNow x) signed (s.slotNow x).sb).d

/-- Cell `x`'s command `c`, whenever its slot is ready for opcode `op`, makes the step whose effect the operands give. -/
def Steps (op : Nat) (signed : Bool) (c : Fin 34816 → Check → Instr) (eff : State → Nat → Word → Word → Bool → Bool → CellEffect) : Prop :=
  ∀ (x : Fin 34816) (s : State), StepReady s x op →
    Does (c x .clean) s (fun t => Stepped s t x (s.slotNow x) (eff s x (opA s x signed) (opB s x signed) (poisonOf s x signed) (flagOf s x signed)))

end Sys2Proof
end

