-- ==== Sys2Proof/Certificates/Slice0/Obligations.lean ====
section
/-! DEFINITION. The statements for the provers, family by family: what the commands do, in the words of Safety.lean (Does, KeepRegs, Stepped, ...). A clause that rests on a choice of the model, not on a rule, names the log entry. -/

open Sys2Proof Sys2Proof.Machine

/-- The block's step, in place of fetching: a step takes the command at the front of the queue and answers what `exec` answers for it with the queue's
rest; with no command waiting the block idles (log entry 1, the model's choice). -/
def Obligations.StepTakesTheFront : Prop :=
  (∀ (c : Instr) (q : List Instr) (s : State), s.pending = c :: q → step s = exec c { s with pending := q }) ∧
  (∀ s : State, s.pending = [] → step s = .next s)

/-- R10: the machine right after reset. Every register reads its Reset value (a field with none as the model's log says), every store has its canonical
form, no command waits, no design is loaded, no load runs, no Ixzento session is open and no access is in flight. Choices and readings of the model
that it rests on: log entries 38, 39, 40. -/
def Obligations.ResetState : Prop :=
  Canonical State.reset ∧ State.reset.pending = [] ∧ (∀ g : Reg, State.reset.rget g = g.reset) ∧
  (∀ r : Nat, (State.reset.region r).loaded = false) ∧ State.reset.ix.sessions = [] ∧ State.reset.load = none ∧ State.reset.flights = []

/-- R31, R34: no command faults and none is refused: whatever the state, every command answers a next state; the queue is moved by the step alone. Choices
and readings of the model that it rests on: log entry 5. -/
def Obligations.CommandsAnswer : Prop :=
  ∀ (c : Instr) (s : State), Does c s (fun t => t.pending = s.pending)

/-- An invariant of the model: a step from any state whose stores are all in their canonical form leaves them so, so that equal contents are equal data. -/
def Obligations.StepsKeepForm : Prop :=
  ∀ s t : State, Canonical s → step s = .next t → Canonical t

/-- R376, R384, R385: what is irrevocable. From any state, a step does not lower the count of blown FWSVN fuses, does not take back the revocation of the
Trelvel keys, the programming or revocation of an owner slot, or the revocation of an eFuse key slot. Choices and readings of the model that it rests
on: log entries 86, 136. -/
def Obligations.FusesStayBlown : Prop :=
  ∀ s t : State, step s = .next t → s.fwsvn ≤ t.fwsvn ∧ (s.tkrev = true → t.tkrev = true) ∧
    (∀ i : Nat, ((s.oslot i).prog = true → (t.oslot i).prog = true) ∧ ((s.oslot i).rev = true → (t.oslot i).rev = true)) ∧
    (∀ i < 4, (s.kslot i).st = 2 → (t.kslot i).st = 2)

namespace Sys2Proof

/-- Of the state `s`, `t` differs in one register alone: its 16-bit violation counter at `g`, one more, saturating at 0xFFFF (R33). -/
def CountedAt (g : Reg) (fields : List Field) (s t : State) : Prop :=
  t.rf g 0 16 = min 0xFFFF (s.rf g 0 16 + 1) ∧ KeepRegs [g] s t ∧ Only fields s t

/-- R10: what a write of `v` by an accepted issuer makes of a register with plain fields: RW fields take the value, W1C bits written 1 clear. -/
def WrittenBits (i : RegInfo) (old v new : RegVal) : Prop :=
  ∀ j < 64, bit new j = ((if bit i.rw j then bit v j else bit old j) && !(bit i.w1c j && bit v j))

/-- R10: what a read shows: every field but the write-only ones; and what it leaves: RC fields cleared. -/
def ReadBits (i : RegInfo) (live old value new : RegVal) : Prop :=
  (∀ j < 64, bit value j = (bit live j && (bit i.rw j || bit i.w1c j || bit i.rc j || bit i.ro j))) ∧ (∀ j < 64, bit new j = (bit old j && !bit i.rc j))

/-- R10: which direct accesses are taken: Ixzento's and a management core's to the base die (a core's to the fabric is CORE_FABRIC_LOAD's or
CORE_FABRIC_STORE's, R394), the debug port's writes (its reads are DEBUG_READ's); one to the DRAM while its die is Lit (R447). -/
def DirectTaken (s : State) (iss : Issuer) (addr : Nat) (debug : Bool) : Prop :=
  (iss = .ixz ∨ (debug = true ∧ iss = .debug) ∨ ∃ c, iss = .core c ∧ addr < 0x100000000) ∧
  (s.dramLit = true ∨ ¬ (0x40000000 ≤ addr ∧ addr < 0x60000000))

/-- R136, R186: a new access sets out on the access plane: it is the last in flight, with the fields of `f`, a number of its own and the links
from its issuer's place to its target's before it. -/
def SetsOut (f : Flight) (s t : State) : Prop :=
  t.flights = s.flights ++ [{ f with id := s.nextId, path := planePath (s.issuerNode f) (s.flightEnd f) }] ∧ t.nextId = s.nextId + 1

/-- R157: access `id` has its answer `a`, which starts back from its target; the other accesses in flight are as they were. -/
def Answered (id : Nat) (a : Answer) (s t : State) : Prop :=
  t.flights = s.flights.map (fun x => if x.id == id then { x with ans := some a, path := planePath (s.flightEnd x) (s.issuerNode x), here := none } else x)

end Sys2Proof

/-- R10 to R12, R19, R31 to R33, R118, R136, R393, R394: register accesses (REGISTER_READ, REGISTER_WRITE). A direct access to the base die is performed;
one to the fabric sets out on the access plane in the Sepia class. A read shows all but the write-only fields and clears RC fields; a write performs
RW and W1C fields; an access of the wrong width, of reserved space or from an issuer the block does not accept reads zero or is ignored, is
acknowledged, and is counted; a poisoned access is refused and counted as poison. Commands: REGISTER_READ, REGISTER_WRITE. Choices and readings of the
model that it rests on: log entries 4, 97, 98, 101, 105, 117, 188. -/
def Obligations.RegisterAccesses : Prop :=
  (∀ (iss : Issuer) (addr : Nat) (w : Width) (s : State),
    let c := Instr.registerRead (.direct iss addr w)
    (¬ DirectTaken s iss addr false → exec c s = .next s) ∧
    (DirectTaken s iss addr false → ((placeOf addr).region).isSome = true → Does c s (fun t =>
      SetsOut { iss := iss, lp := 4096, tc := 3, kind := .read, addr := addr, data := {}, w := w } s t ∧ Only [.flights, .nextId] s t)) ∧
    (DirectTaken s iss addr false → placeOf addr = .nowhere → Does c s (fun t => t.rdata = 0 ∧ CountedAt (irqReg 0x38) [.regs, .rdata] s t)) ∧
    (DirectTaken s iss addr false → ∀ g i, placeOf addr = .reg g → (placeOf addr).region = none → g.info = some i →
      (w ≠ i.width → Does c s (fun t => t.rdata = 0 ∧ CountedAt (violOf g.blk g.idx) [.regs, .rdata] s t)) ∧
      (w = i.width → s.keyRead iss g = true → Does c s (fun t => t.rdata = 0 ∧ CountedAt (lsmReg 0x10) [.regs, .rdata] s t)) ∧
      (w = i.width → s.keyRead iss g = false → g.blk ≠ .fryUp → (g.blk, g.off) ≠ (.asy, 0xC) → (g.blk, g.off) ≠ (.cmp, 0) → (g.blk, g.off) ≠ (.mac, 0x30) →
        Does c s (fun t => ReadBits i (s.live g) (s.rget g) t.rdata (t.rget g) ∧ KeepRegs [g] s t ∧ Only [.regs, .rdata] s t)))) ∧
  (∀ (iss : Issuer) (addr : Nat) (w : Width) (v : BitVec 64) (s : State),
    let c := Instr.registerWrite (.direct iss addr w) v
    (¬ DirectTaken s iss addr true → DoesThen c s (fun t => t = s)) ∧
    (DirectTaken s iss addr true → ((placeOf addr).region).isSome = true → DoesThen c s (fun t =>
      SetsOut { iss := iss, lp := 4096, tc := 3, kind := .write, addr := addr, data := { d := v.setWidth 32 }, w := w } s t ∧ Only [.flights, .nextId] s t)) ∧
    (DirectTaken s iss addr true → placeOf addr = .nowhere → DoesThen c s (CountedAt (irqReg 0x38) [.regs] s)) ∧
    (DirectTaken s iss addr true → ∀ g i, placeOf addr = .reg g → (placeOf addr).region = none → g.info = some i →
      (w ≠ i.width → DoesThen c s (CountedAt (violOf g.blk g.idx) [.regs] s)) ∧
      (w = i.width → g.blk ∈ [Blk.tnkBase, .fry] → DoesThen c s (fun t => WrittenBits i (s.rget g) v (t.rget g) ∧ KeepRegs [g] s t ∧ Only [.regs] s t)))) ∧
  (∀ (id : Nat) (s : State) (f : Flight), s.flight id = some f →
    (¬ (f.kind = .read ∧ s.gateReady f = true) → exec (.registerRead (.flight id)) s = .next s) ∧
    (∀ v : BitVec 64, ¬ (f.kind = .write ∧ s.gateReady f = true) → DoesThen (.registerWrite (.flight id) v) s (fun t => t = s)) ∧
    (∀ r : Nat, placeOf f.addr = .win r → f.poison = false → s.gateReady f = true →
      (f.kind = .read → Does (.registerRead (.flight id)) s (fun t => Answered id (.word {}) s t ∧ CountedAt ⟨.tnk, r, 0x28⟩ [.regs, .flights] s t)) ∧
      (∀ v : BitVec 64, f.kind = .write → DoesThen (.registerWrite (.flight id) v) s (fun t => Answered id .done s t ∧ CountedAt ⟨.tnk, r, 0x28⟩ [.regs, .flights] s t))) ∧
    (∀ (g : Reg) (i : RegInfo) (r : Nat), placeOf f.addr = .reg g → g.info = some i → (placeOf f.addr).region = some r →
      (f.kind = .read → s.gateReady f = true →
        (f.poison = true → Does (.registerRead (.flight id)) s (fun t => Answered id (.word { p := true }) s t ∧ KeepRegs [tnkPois r, tnkHealth r, tnkPalarm] s t ∧ Only [.regs, .flights] s t)) ∧
        (f.poison = false → f.w ≠ i.width → Does (.registerRead (.flight id)) s (fun t => Answered id (.word {}) s t ∧ CountedAt (violOf g.blk g.idx) [.regs, .flights] s t)) ∧
        (f.poison = false → f.w = i.width → Does (.registerRead (.flight id)) s (fun t => ∃ v new, ReadBits i (s.live g) (s.rget g) v new ∧ Answered id (.word { d := v.setWidth 32 }) s t ∧
          t.rget g = (if f.quiet then s.rget g else new) ∧ KeepRegs [g] s t ∧ Only [.regs, .flights] s t))) ∧
      (∀ v : BitVec 64, f.kind = .write → s.gateReady f = true → f.poison = false → g.blk ∈ [Blk.mesh, .port, .bm, .cell] →
        (f.w ≠ i.width ∨ mgmtIssuer f.iss = false → DoesThen (.registerWrite (.flight id) v) s (fun t => Answered id .done s t ∧ CountedAt (violOf g.blk g.idx) [.regs, .flights] s t)) ∧
        (f.w = i.width → mgmtIssuer f.iss = true → DoesThen (.registerWrite (.flight id) v) s (fun t => WrittenBits i (s.rget g) (f.data.d.setWidth 64) (t.rget g) ∧ Answered id .done s t ∧ KeepRegs [g] s t ∧ Only [.regs, .flights] s t)))))

/-- R111: minimum, maximum and the limits; n of SATS and SATU is b[5:0], where 0 and more than 32 act as 32. The class of an opcode is a time, which the
model leaves out. Commands: MIN, MAX, MINU, MAXU, SATS, SATU, CLAMP. -/
def Obligations.LimitOpcodes : Prop :=
  let n (b : Word) : Nat := if b.toNat % 64 = 0 ∨ 32 < b.toNat % 64 then 32 else b.toNat % 64
  let lim (x lo hi : Int) : Word := BitVec.ofInt 32 (if x < lo then lo else if hi < x then hi else x)
  Steps 0x20 true .min (fun _ _ a b p f => .of (if b.toInt < a.toInt then b else a) p f) ∧
  Steps 0x21 true .max (fun _ _ a b p f => .of (if a.toInt < b.toInt then b else a) p f) ∧
  Steps 0x22 false .minu (fun _ _ a b p f => .of (if b.toNat < a.toNat then b else a) p f) ∧
  Steps 0x23 false .maxu (fun _ _ a b p f => .of (if a.toNat < b.toNat then b else a) p f) ∧
  Steps 0x24 false .sats (fun _ _ a b p f => .of (lim a.toInt (-(2 : Int) ^ (n b - 1)) ((2 : Int) ^ (n b - 1) - 1)) p f) ∧
  Steps 0x25 false .satu (fun _ _ a b p f => .of (lim a.toInt 0 ((2 : Int) ^ n b - 1)) p f) ∧
  Steps 0x26 true .clamp (fun _ _ a b p f =>
    let l : Int := if b = 0x80000000#32 then 0x7FFFFFFF else if b.toInt < 0 then -b.toInt else b.toInt
    .of (lim a.toInt (-l) l) p f)

/-- R112: logic, shifts and the count of leading zeros; a shift uses b[4:0], and SHL and SHLC send the bits shifted out as the link word. The class of an
opcode is a time, which the model leaves out. Commands: AND, OR, XOR, ANDN, SHL, SHR, SAR, ROL, ROR, SHLC, FSHR, CLZ. -/
def Obligations.LogicOpcodes : Prop :=
  let n (b : Word) : Nat := b.toNat % 32
  let out (a : Word) (n : Nat) : Word := BitVec.ofNat 32 (a.toNat * 2 ^ n / 2 ^ 32)
  Steps 0x30 false .andOp (fun _ _ a b p f => .of (a &&& b) p f) ∧
  Steps 0x31 false .orOp (fun _ _ a b p f => .of (a ||| b) p f) ∧
  Steps 0x32 false .xorOp (fun _ _ a b p f => .of (a ^^^ b) p f) ∧
  Steps 0x33 false .andn (fun _ _ a b p f => .of (a &&& ~~~b) p f) ∧
  Steps 0x34 false .shl (fun _ _ a b p f => { CellEffect.of (a <<< n b) p f with lw := out a (n b) }) ∧
  Steps 0x35 false .shr (fun _ _ a b p f => .of (a >>> n b) p f) ∧
  Steps 0x36 false .sar (fun _ _ a b p f => .of (a.sshiftRight (n b)) p f) ∧
  Steps 0x37 false .rol (fun _ _ a b p f => .of ((a <<< n b) ||| (a >>> (32 - n b))) p f) ∧
  Steps 0x38 false .ror (fun _ _ a b p f => .of ((a >>> n b) ||| (a <<< (32 - n b))) p f) ∧
  Steps 0x39 false .shlc (fun s x a b p f => { CellEffect.of ((a <<< n b) ||| ((s.linkIn x).getD {}).w) p f with lw := out a (n b) }) ∧
  Steps 0x3A false .fshr (fun s x a b p f =>
    .of (BitVec.ofNat 32 ((b.toNat * 2 ^ 32 + a.toNat) / 2 ^ ((s.slotNow x).imm.toNat % 32))) p f) ∧
  Steps 0x3B false .clz (fun _ _ a _ p f => .of (BitVec.ofNat 32 (if a = 0 then 32 else 31 - a.toNat.log2)) p f)

/-- R110 and R113, with R75 to R83: addition and subtraction, with the carry of bit 31 on the carry link, CP of ADC and SBC, and saturation; and the
multiplications: MULSH shifts the signed product by i[5:0], rounds half up if i[6] = 1, and saturates. The class of an opcode is a time, which the
model leaves out. Commands: ADD, ADC, SUB, SBC, NEG, ABS, ADDS, SUBS, ADDU, SUBU, MUL, MULH, MULHU, MULSH. Choices and readings of the model that it
rests on: log entry 148. -/
def Obligations.ArithmeticOpcodes : Prop :=
  (
  Steps 0x10 true .add (fun _ _ a b p f => { CellEffect.of (a + b) p f with c := decide (2 ^ 32 ≤ a.toNat + b.toNat) }) ∧
  Steps 0x11 true .adc (fun s x a b p f =>
    let cin := b2n ((s.linkIn x).getD {}).c
    let c := decide (2 ^ 32 ≤ a.toNat + b.toNat + cin)
    { CellEffect.of (a + b + BitVec.ofNat 32 cin) p f with c := c, cp := some c }) ∧
  Steps 0x12 true .sub (fun _ _ a b p f => { CellEffect.of (a - b) p f with c := decide (b.toNat ≤ a.toNat) }) ∧
  Steps 0x13 true .sbc (fun s x a b p f =>
    let cin := b2n ((s.linkIn x).getD {}).c
    let c := decide (b.toNat + 1 ≤ a.toNat + cin)
    { CellEffect.of (a - b - 1 + BitVec.ofNat 32 cin) p f with c := c, cp := some c }) ∧
  Steps 0x14 true .neg (fun _ _ a _ p f => .of (0 - a) p f) ∧
  Steps 0x15 true .abs (fun _ _ a _ p f => .of (if a = 0x80000000#32 then 0x7FFFFFFF#32 else if a.toInt < 0 then 0 - a else a) p f) ∧
  Steps 0x16 true .adds (fun _ _ a b p f => .of (satS32 (a.toInt + b.toInt)) p f) ∧
  Steps 0x17 true .subs (fun _ _ a b p f => .of (satS32 (a.toInt - b.toInt)) p f) ∧
  Steps 0x18 false .addu (fun _ _ a b p f => .of (if a.toNat + b.toNat < 2 ^ 32 then a + b else 0xFFFFFFFF#32) p f) ∧
  Steps 0x19 false .subu (fun _ _ a b p f => .of (if b.toNat ≤ a.toNat then a - b else 0) p f)) ∧
  (
  Steps 0x40 true .mul (fun _ _ a b p f => .of (a * b) p f) ∧
  Steps 0x41 true .mulh (fun _ _ a b p f => .of (BitVec.ofInt 32 (a.toInt * b.toInt / 2 ^ 32)) p f) ∧
  Steps 0x42 false .mulhu (fun _ _ a b p f => .of (BitVec.ofNat 32 (a.toNat * b.toNat / 2 ^ 32)) p f) ∧
  Steps 0x43 false .mulsh (fun s x a b p f =>
    let i := (s.slotNow x).imm.toNat
    let k := i % 64
    let half : Int := if i / 64 % 2 = 1 ∧ 0 < k then (2 : Int) ^ (k - 1) else 0
    .of (satS32 ((a.toInt * b.toInt + half) / (2 : Int) ^ k)) p f))

/-- R114 with R8: the compare and phase opcodes write CP, and their result is 1 or 0. 0x5B and 0x5F are reserved. The class of an opcode is a time, which
the model leaves out. Commands: CEQ, CNE, CLT, CLE, CGT, CGE, CLTU, CLEU, CGTU, CGEU, TST, PLT, PGE, PWIN. -/
def Obligations.CompareOpcodes : Prop :=
  Steps 0x50 true .ceq (fun _ _ a b p f => .test (decide (a = b)) p f) ∧
  Steps 0x51 true .cne (fun _ _ a b p f => .test (decide (a ≠ b)) p f) ∧
  Steps 0x52 true .clt (fun _ _ a b p f => .test (decide (a.toInt < b.toInt)) p f) ∧
  Steps 0x53 true .cle (fun _ _ a b p f => .test (decide (a.toInt ≤ b.toInt)) p f) ∧
  Steps 0x54 true .cgt (fun _ _ a b p f => .test (decide (a.toInt > b.toInt)) p f) ∧
  Steps 0x55 true .cge (fun _ _ a b p f => .test (decide (a.toInt ≥ b.toInt)) p f) ∧
  Steps 0x56 false .cltu (fun _ _ a b p f => .test (decide (a.toNat < b.toNat)) p f) ∧
  Steps 0x57 false .cleu (fun _ _ a b p f => .test (decide (a.toNat ≤ b.toNat)) p f) ∧
  Steps 0x58 false .cgtu (fun _ _ a b p f => .test (decide (a.toNat > b.toNat)) p f) ∧
  Steps 0x59 false .cgeu (fun _ _ a b p f => .test (decide (a.toNat ≥ b.toNat)) p f) ∧
  Steps 0x5A false .tst (fun _ _ a b p f => .test (decide (a &&& b ≠ 0)) p f) ∧
  Steps 0x5C false .plt (fun _ _ a b p f => .test (decide (a ≠ b ∧ ¬ (1 ≤ (a - b).toNat ∧ (a - b).toNat ≤ 0x7FFFFFFF))) p f) ∧
  Steps 0x5D false .pge (fun _ _ a b p f => .test (decide (a = b ∨ (1 ≤ (a - b).toNat ∧ (a - b).toNat ≤ 0x7FFFFFFF))) p f) ∧
  Steps 0x5E false .pwin (fun s x a b p f => .test (decide ((a - b).toNat < (s.slotNow x).imm.toNat)) p f) ∧
  opDefined 0x5B = false ∧ opDefined 0x5F = false

/-- R109, with R75 to R83 and R106 to R108: the move, select and sideband-test opcodes, each with its result, its CP, the sideband of its result, and
everything else a step does and leaves alone. NOP writes and emits nothing; SEL uses the operand CP selects and CPP; PTST and FTST write CP from P and
F of operand a with CPP = 0. R115, R116: RD and WR form an access word on OX from LOCK = i[5], TGT = i[4:0] and OFFSET = a[23:0]; OY carries the same
word, or the write data b; MARK sends a on OX and the command word i on OY. Each writes the first word to DST. Commands: NOP, MOV, MOVH, SEL, PTST,
FTST, RD, WR, MARK. -/
def Obligations.MoveAndPairOpcodes : Prop :=
  (
  Steps 0x00 false .nop (fun _ _ _ _ p f => { CellEffect.of 0 p f with mute := true }) ∧
  Steps 0x01 true .mov (fun _ _ a _ p f => .of a p f) ∧
  Steps 0x02 false .movh (fun s x a _ p f => .of (((s.slotNow x).imm.setWidth 32 <<< 16) ||| (a &&& 0xFFFF#32)) p f) ∧
  Steps 0x03 true .sel (fun s x a b _ f =>
    let i := s.slotNow x
    let q := s.opnd x i true (if (s.cell x).cp then i.sb else i.sa)
    .of (if (s.cell x).cp then b else a) (q.p || (s.cell x).cpp) f) ∧
  Steps 0x04 false .ptst (fun s x _ _ _ f => .test (s.opnd x (s.slotNow x) false (s.slotNow x).sa).p false f) ∧
  Steps 0x05 false .ftst (fun s x _ _ _ f => .test (s.opnd x (s.slotNow x) false (s.slotNow x).sa).f false f)) ∧
  (
  let acc (op : Nat) (i : BitVec 16) (a : Word) : Word :=
    BitVec.ofNat 32 (op * 2 ^ 30 + i.toNat / 32 % 2 * 2 ^ 29 + i.toNat % 32 * 2 ^ 24 + a.toNat % 2 ^ 24)
  Steps 0x60 false .rd (fun s x a _ p f => .of (acc 0 (s.slotNow x).imm a) p f) ∧
  Steps 0x61 false .wr (fun s x a b p f => { CellEffect.of (acc 1 (s.slotNow x).imm a) p f with oy := b }) ∧
  Steps 0x62 false .mark (fun s x a _ p f => { CellEffect.of a p f with oy := (s.slotNow x).imm.setWidth 32 }))

namespace Sys2Proof

/-- The opcodes of R109 to R115, each with the command that steps it. -/
def cellOps : List (Nat × (Fin 34816 → Check → Instr)) :=
  [(0x00, .nop), (0x01, .mov), (0x02, .movh), (0x03, .sel), (0x04, .ptst), (0x05, .ftst), (0x10, .add), (0x11, .adc), (0x12, .sub),
   (0x13, .sbc), (0x14, .neg), (0x15, .abs), (0x16, .adds), (0x17, .subs), (0x18, .addu), (0x19, .subu), (0x20, .min), (0x21, .max),
   (0x22, .minu), (0x23, .maxu), (0x24, .sats), (0x25, .satu), (0x26, .clamp)] ++
  [(0x30, .andOp), (0x31, .orOp), (0x32, .xorOp), (0x33, .andn), (0x34, .shl), (0x35, .shr), (0x36, .sar), (0x37, .rol), (0x38, .ror),
   (0x39, .shlc), (0x3A, .fshr), (0x3B, .clz), (0x40, .mul), (0x41, .mulh), (0x42, .mulhu), (0x43, .mulsh)] ++
  [(0x50, .ceq), (0x51, .cne), (0x52, .clt), (0x53, .cle), (0x54, .cgt), (0x55, .cge), (0x56, .cltu), (0x57, .cleu), (0x58, .cgtu),
   (0x59, .cgeu), (0x5A, .tst), (0x5C, .plt), (0x5D, .pge), (0x5E, .pwin), (0x60, .rd), (0x61, .wr), (0x62, .mark)]

end Sys2Proof

/-- R75, R317 to R319: for every opcode, a step that is not ready waits and changes nothing; one whose hidden checks failed once and passed on the retry
does what a clean one does and is counted in TNK_ERR.TRANSIENT (R27); one whose checks failed twice commits nothing: its cell keeps its registers,
operands and outputs. R69, R70, R76, R94, R105, R125: a token that arrives fills its empty operand slot, its P set by a code error; the first routing
stage is freed for that sink; a reserved opcode and a step whose PRED skips it consume and advance, write nothing and emit nothing; a stall sets STALL
and is reported. Commands: TOKEN_ARRIVAL, SKIPPED_STEP, RESERVED_OPCODE, CELL_STALL, NOP, MOV, MOVH, SEL, PTST, FTST, ADD, ADC, SUB, SBC, NEG, ABS,
ADDS, SUBS, ADDU, SUBU, MIN, MAX, MINU, MAXU, SATS, SATU, CLAMP, AND, OR, XOR, ANDN, SHL, SHR, SAR, ROL, ROR, SHLC, FSHR, CLZ, MUL, MULH, MULHU,
MULSH, CEQ, CNE, CLT, CLE, CGT, CGE, CLTU, CLEU, CGTU, CGEU, TST, PLT, PGE, PWIN, RD, WR, MARK. Choices and readings of the model that it rests on:
log entries 5, 6. -/
def Obligations.CellEvents : Prop :=
  (
  ∀ e ∈ cellOps, ∀ (x : Fin 34816) (s : State),
    (∀ ck, ¬ StepReady s x e.1 → exec (e.2 x ck) s = .next s) ∧
    (∀ t, exec (e.2 x .clean) s = .next t → StepReady s x e.1 →
      exec (e.2 x .transient) s = .next (t.count (tnkErr (x / 1088)) 16 16 1)) ∧
    (∀ res, StepReady s x e.1 → Does (e.2 x (.lasting res)) s (fun t => t.cells = s.cells ∧ t.chans = s.chans ∧ t.aports = s.aports))) ∧
  (
  (∀ (x : Fin 34816) (i : Fin 4) (s : State) (t : Tok), s.cellEn x = true → s.cluHeld (x / 64) = false → (s.cell x).port i = none →
    s.offered (x / 64) (4 * (x % 64) + i) = some t →
    Does (.tokenArrival x i 0) s (fun u => (u.cell x).port i = some t ∧ (∀ k < 4, k ≠ i.val → (u.cell x).port k = (s.cell x).port k) ∧
      (∀ k < 4, (u.cell x).wreg k = (s.cell x).wreg k) ∧ (u.cell x).slot = (s.cell x).slot ∧ (u.cell x).steps = (s.cell x).steps)) ∧
  (∀ (x : Fin 34816) (s : State), s.operandsReady x (s.slotNow x) = true → opDefined (s.slotNow x).op = true →
    (s.cell x).runs (s.slotNow x) = false →
    Does (.skippedStep x .clean) s (fun t => Stepped s t x (s.slotNow x) { CellEffect.of 0 false false with mute := true })) ∧
  (∀ (x : Fin 34816) (s : State), s.operandsReady x (s.slotNow x) = true → opDefined (s.slotNow x).op = false →
    Does (.reservedOpcode x .clean) s (fun t => Stepped s t x (s.slotNow x) { CellEffect.of 0 false false with mute := true })) ∧
  (∀ (x : Fin 34816) (s : State),
    let i := s.slotNow x
    let fired : Prop := s.operandsReady x i = true ∧ (opDefined i.op = true → (s.cell x).runs i = true → s.outputsFree x i = true ∧ s.fenceDone x i.fence = true)
    (fired → Does (.cellStall x false) s (fun t => t.rb (cellStat x) 31 = true ∧
      t.rf (tnkErr (x / 1088)) 16 16 = min 0xFFFF (s.rf (tnkErr (x / 1088)) 16 16 + 1) ∧ KeepRegs [cellStat x, tnkErr (x / 1088)] s t ∧ Only [.regs] s t)) ∧
    (∀ lasting : Bool, ¬ fired → exec (.cellStall x lasting) s = .next s)))

namespace Sys2Proof

/-- R39, R40: NUM and DEN of a port, a DEN of 0 acting as 1. -/
def portNum (s : State) (p : Nat) : Int := (s.rf (piReg p 8) 0 32 : Int)

def portDen (s : State) (p : Nat) : Int := let d := s.rf (piReg p 4) 16 16; if d = 0 then 1 else (d : Int)

/-- R39: n signed counts: the position moves by exactly n * NUM / DEN pu, its remainder carried below one pu, and the raw count by n. -/
def Counted (s t : State) (p : Nat) (n : Int) : Prop :=
  (t.tport p).pos * portDen s p + (t.tport p).rem = (s.tport p).pos * portDen s p + (s.tport p).rem + n * portNum s p ∧
  ((t.tport p).rem : Int) < portDen s p ∧ (t.tport p).count = (s.tport p).count + BitVec.ofInt 32 n ∧ (t.tport p).zcorr = (s.tport p).zcorr

/-- R49: each running line that follows port p takes the port's position as its latest measurement; no other line changes. -/
def Delivered (s t : State) (p : Nat) (ts : Int) (n : Int) : Prop :=
  ∀ l, t.tline l = if l < 8 ∧ (s.tline l).run = true ∧ fld (s.tline l).ctl 24 4 = p
    then { s.tline l with meas := some ⟨t.piPos p, ts, decide (n < 0), true⟩ } else s.tline l

/-- R57: line l finds a pulse of zero-crossing port p at `ts` early: it is locked and moves, and the pulse comes earlier after its last one than
T times (1 - MISSTOL/256), T being one count's advance at the line's velocity. -/
def PulseIsEarly (s : State) (p l : Nat) (ts : Int) : Prop :=
  let n := s.tline l
  n.locked = true ∧ n.omega ≠ 0 ∧ (ts - n.edgeTs) * (n.omega.natAbs : Int) * portDen s p * 256 < 4 * portNum s p * 2 ^ 48 * (256 - (fld n.still 24 8 : Int))

/-- R36: the levels a port accepts of pins seen at `lv` in `held` samples in a row: a pin's new level once its filter has seen it so long (ZFLEN
for the index pin, FLEN for the others); pin 0 of an SSI port is the port's own (R35). -/
def Accepted (s : State) (p : Nat) (lv : BitVec 4) (held : Nat) (acc : BitVec 4) : Prop :=
  ∀ k < 4, bit acc k = if s.rf (piReg p 4) (if k = 2 ∧ s.piType p = 1 then 8 else 0) 6 ≤ held ∧ ¬ (k = 0 ∧ s.piActive p = true ∧ s.piType p = 5)
    then bit lv k else bit (s.tport p).lv k

end Sys2Proof

/-- R36 to R39, R41, R43, R49, R54, R55, R57, R61: PHASE_INPUT_EDGE at a port of TYPE 1, 2 or 3, and at a zero-crossing port, while the Tally's clock
runs: which levels the filters accept, what counts and in which direction, after POL and DIRINV; the measurement its lines get, timestamped less LAT;
an illegal quadrature transition counts two in the direction of the previous count and is reported; of two edges in one accepted sample it is open
whether the second counts. A pulse that every line finds early is discarded and reported. The other ports, and every line of another port, are left
alone. R36, R51, R56, R61: INDEX_EDGE at a quadrature port: the Z pin reads high once ZFLEN accepts it; with ZMODE 0, or a difference within ZTOL,
nothing more; a larger one sets ZERR, adds the lost counts to LOSTCNT, rounded to the nearest, and by ZMODE unlocks the port's lines, corrects them at
once with JUMP, or leaves the correction to the slew; under ZMODE 2 and 3 the port, and a measurement that still waits for its tick, report the
correction from then on, and COUNT does not move. Commands: PHASE_INPUT_EDGE, INDEX_EDGE. Choices and readings of the model that it rests on: log
entries 9, 12, 14, 16, 18, 142, 143, 147, 155. -/
def Obligations.PhaseEdges : Prop :=
  (∀ (p : Fin 16) (lv : BitVec 4) (ts held : Nat) (s : State),
  (s.rb tlyStat 0 = false → ∀ two, exec (.phaseInputEdge p lv ⟨ts, held⟩ two) s = .next s) ∧
  (s.rb tlyStat 0 = true → ∀ acc : BitVec 4, Accepted s p lv held acc →
  let a := bit (s.piLevels p (s.tport p).lv) 0
  let b := bit (s.piLevels p (s.tport p).lv) 1
  let a' := bit (s.piLevels p acc) 0
  let b' := bit (s.piLevels p acc) 1
  let inv := s.rb (piReg p 0) 13
  let at_ : Int := (ts : Int) - s.rf (piReg p 0x14) 0 16
  let dir (back : Bool) : Int := if back != inv then -1 else 1
  let on (l : Nat) : Prop := l < 8 ∧ (s.tline l).run = true ∧ fld (s.tline l).ctl 24 4 = p
  let after (P : State → Prop) := Does (.phaseInputEdge p lv ⟨ts, held⟩ false) s (fun t => (t.tport p).lv = acc ∧ (∀ q, q ≠ p.val → t.tport q = s.tport q) ∧
    Only [.tports, .tlines, .regs] s t ∧ P t)
  let twice (P : State → Prop) := s.rf (piReg p 4) 0 6 ≤ held → Does (.phaseInputEdge p lv ⟨ts, held⟩ true) s (fun t => (t.tport p).lv = acc ∧
    (∀ q, q ≠ p.val → t.tport q = s.tport q) ∧ t.rb (piReg p 0x24) 15 = true ∧ Only [.tports, .tlines, .regs, .free] s t ∧ P t)
  let illegal (t : State) : Prop :=
    let n : Int := if (s.tport p).down then -2 else 2
    Counted s t p n ∧ Delivered s t p at_ n ∧ t.rb (piReg p 0x24) 14 = true ∧ t.rb (piReg p 0x24) 15 = true ∧
        t.rf (piReg p 0x28) 8 8 = min 255 (s.rf (piReg p 0x28) 8 8 + 2) ∧ t.rf (piReg p 0x28) 0 8 = min 255 (s.rf (piReg p 0x28) 0 8 + 2) ∧
        KeepRegs [piReg p 0x24, piReg p 0x28] s t
  (s.piActive p = false ∨ s.piType p = 0 ∨ 5 ≤ s.piType p ∨ (s.piType p = 1 ∧ a = a' ∧ b = b') ∨
      ((s.piType p = 2 ∨ s.piType p = 3) ∧ ¬ (a = false ∧ a' = true)) ∨
      (s.piType p = 4 ∧ ¬ (a = false ∧ a' = true) ∧ ¬ (s.rb (piReg p 0) 12 = true ∧ a = true ∧ a' = false)) →
    after (fun t => (∀ l, t.tline l = s.tline l) ∧ KeepRegs [] s t ∧ t.tport p = { s.tport p with lv := acc })) ∧
  (s.piActive p = true →
    (s.piType p = 1 → (a ≠ a' ∧ b = b') ∨ (a = a' ∧ b ≠ b') →
      let n := dir (decide ((a, b, a', b') ∉ [(false, false, true, false), (true, false, true, true), (true, true, false, true), (false, true, false, false)]))
      after (fun t => Counted s t p n ∧ Delivered s t p at_ n ∧ KeepRegs [] s t)) ∧
    (s.piType p = 1 → (a ≠ a' ∧ b ≠ b' → after illegal) ∧ twice illegal) ∧
    (s.piType p = 2 → (a = false → a' = true → after (fun t => Counted s t p (dir (!b')) ∧ Delivered s t p at_ (dir (!b')) ∧ KeepRegs [] s t)) ∧
      twice (fun t => ∃ k : Int, (k = 1 ∨ k = 2) ∧ Counted s t p (dir (!b') * k) ∧ Delivered s t p at_ (dir (!b') * k) ∧ KeepRegs [piReg p 0x24] s t)) ∧
    (s.piType p = 3 → (a = false → a' = true → after (fun t => Counted s t p 1 ∧ Delivered s t p at_ 1 ∧ KeepRegs [] s t)) ∧
      twice (fun t => ∃ k : Int, (k = 1 ∨ k = 2) ∧ Counted s t p k ∧ Delivered s t p at_ k ∧ KeepRegs [piReg p 0x24] s t)) ∧
    (s.piType p = 4 → twice (fun t => KeepRegs [piReg p 0x24, piReg p 0x28] s t)) ∧
    (s.piType p = 4 → (a = false ∧ a' = true) ∨ (s.rb (piReg p 0) 12 = true ∧ a = true ∧ a' = false) →
      ((∃ l, on l ∧ PulseIsEarly s p l at_) ∧ (∀ l, on l → PulseIsEarly s p l at_) →
        after (fun t => t.tport p = { s.tport p with lv := acc } ∧ (∀ l, t.tline l = s.tline l) ∧ t.rb (piReg p 0x24) 11 = true ∧
          t.rf (piReg p 0x28) 16 8 = min 255 (s.rf (piReg p 0x28) 16 8 + 1) ∧ KeepRegs [piReg p 0x24, piReg p 0x28] s t)) ∧
      ((∀ l, ¬ on l) ∨ (∃ l, on l ∧ ¬ PulseIsEarly s p l at_) →
        after (fun t => Counted s t p 1 ∧ (∀ l, ¬ on l → t.tline l = s.tline l) ∧
          (∀ l, on l → PulseIsEarly s p l at_ → t.tline l = { s.tline l with mcnt := (s.tline l).mcnt - 1 }) ∧
          (∀ l, on l → ¬ PulseIsEarly s p l at_ → t.tline l =
            { s.tline l with coast := false, misses := 0, edgeTs := at_, meas := some ⟨t.piPosBy p (s.tline l).mcnt, at_, false, true⟩ }) ∧
          ((∀ l, on l → ¬ PulseIsEarly s p l at_) → KeepRegs [] s t) ∧ KeepRegs [piReg p 0x24, piReg p 0x28] s t)))))) ∧
  (∀ (p : Fin 16) (ts held : Nat) (s : State),
  let taken : Prop := s.rb tlyStat 0 = true ∧ s.piActive p = true ∧ s.piType p = 1 ∧ s.rf (piReg p 4) 8 6 ≤ held
  let zm := s.rf (piReg p 0) 14 2
  let d := halfRange 16 ((s.rf (piReg p 0xC) 0 16 : Int) - ((s.tport p).pos + (s.tport p).zcorr) % 65536)
  let on (l : Nat) : Prop := l < 8 ∧ (s.tline l).run = true ∧ fld (s.tline l).ctl 24 4 = p
  let sgn (l : Nat) : Int := if bit (s.tline l).ctl 23 then -1 else 1
  (¬ taken → exec (.indexEdge p ⟨ts, held⟩) s = .next s) ∧
  (taken → Does (.indexEdge p ⟨ts, held⟩) s (fun t => Only [.tports, .tlines, .regs] s t ∧
    t.tport p = { s.tport p with lv := (t.tport p).lv, zcorr := (t.tport p).zcorr } ∧
    (∀ k < 4, bit (s.piLevels p (t.tport p).lv) k = (decide (k = 2) || bit (s.piLevels p (s.tport p).lv) k)) ∧
    (∀ q, q ≠ p.val → t.tport q = s.tport q) ∧ (∀ l, ¬ on l → t.tline l = s.tline l) ∧
    (zm = 0 ∨ d.natAbs ≤ s.rf (piReg p 0xC) 16 16 → KeepRegs [] s t ∧ (t.tport p).zcorr = (s.tport p).zcorr ∧ ∀ l, t.tline l = s.tline l) ∧
    (zm ≠ 0 → s.rf (piReg p 0xC) 16 16 < d.natAbs → t.rb (piReg p 0x24) 13 = true ∧
      (0 < portNum s p → ∃ n : Nat, 2 * ((n * portNum s p - d.natAbs * portDen s p).natAbs : Int) ≤ portNum s p ∧
        t.rf (piReg p 0x28) 0 8 = min 255 (s.rf (piReg p 0x28) 0 8 + n)) ∧
      (t.tport p).zcorr = (s.tport p).zcorr + (if zm = 1 then 0 else d) ∧
      KeepRegs ([piReg p 0x24, piReg p 0x28] ++ (List.range 8).map (fun l => plReg l 0x2C)) s t ∧
      (∀ l, on l → (t.tline l).locked = (decide (zm ≠ 1) && (s.tline l).locked) ∧ (t.tline l).valid = (s.tline l).valid ∧
        (zm = 1 → t.rb (plReg l 0x2C) 15 = (s.rb (plReg l 0x2C) 15 || (s.tline l).locked)) ∧
        (zm ≠ 1 → (t.tline l).meas = (s.tline l).meas.map (fun x => { x with m := x.m + d * 65536 })) ∧
        (zm = 2 → (t.tline l).theta = (s.tline l).theta + BitVec.ofInt 64 (sgn l * (d * 65536)) ∧ (t.tline l).jump = true) ∧
        (zm = 3 → (t.tline l).theta = (s.tline l).theta ∧ (t.tline l).slewLeft = (s.tline l).slewLeft + sgn l * (d * 65536)))))))

namespace Sys2Proof

/-- R40: a sample of `raw` at port p: its phase short is raw * NUM / DEN, to a whole number beside it where it is none; the phase word grows by the
half-range difference, or is the short itself at the first sample; the port's running lines get it with timestamp `ts`. -/
def Sampled (s t : State) (p : Nat) (raw : Word) (ts : Int) : Prop :=
  ∃ w short : Int, (short * portDen s p - (raw.toNat : Int) * portNum s p).natAbs < (portDen s p).natAbs ∧ (w - short) % 2 ^ 32 = 0 ∧
    (if (s.tport p).first then 0 ≤ w ∧ w < 2 ^ 32 else -(2 ^ 31) ≤ w - (s.tport p).word ∧ w - (s.tport p).word < 2 ^ 31) ∧
    (t.tport p).word = w ∧ (t.tport p).first = false ∧
    ∀ l, t.tline l = if l < 8 ∧ (s.tline l).run = true ∧ fld (s.tline l).ctl 24 4 = p
      then { s.tline l with meas := some ⟨w * 65536, ts, false, (s.tport p).first || decide (w ≠ (s.tport p).word)⟩ } else s.tline l

end Sys2Proof

/-- R35, R40, R42, R45, R61: the sampled sources (SSI_REQUEST, SSI_FRAME, FABRIC_STREAM_MEASUREMENT) while the Tally's clock runs. An SSI burst begins
with its first falling clock edge, which the port drives on its pin 0, and reports a low data line; its frame, converted from Gray code if set, is the
raw value in COUNT, scaled to a measurement that its lines get with the burst's timestamp; a frame whose data line was low, or did not return, sets
SSIERR and is discarded. A fabric-stream token leaves its ferry and is a measurement of its port; a poisoned one sets POISON and is none. Commands:
SSI_REQUEST, SSI_FRAME, FABRIC_STREAM_MEASUREMENT. Choices and readings of the model that it rests on: log entries 12, 17, 20, 132, 144, 145, 146. -/
def Obligations.SampledSources : Prop :=
  (∀ (p : Fin 16) (ts : Nat) (high : Bool) (s : State),
    let runs : Prop := s.rb tlyStat 0 = true ∧ s.piActive p = true ∧ s.piType p = 5 ∧ 8 ≤ s.rf (piReg p 0x10) 0 6 ∧ s.rf (piReg p 0x10) 0 6 ≤ 32
    (¬ runs → exec (.ssiRequest p ts high) s = .next s) ∧
    (runs → Does (.ssiRequest p ts high) s (fun t =>
      t.tport p = { s.tport p with lv := (t.tport p).lv, burst := some ((ts : Int) - s.rf (piReg p 0x14) 0 16), low := !high } ∧
      (∀ k < 4, bit (s.piLevels p (t.tport p).lv) k = (decide (k ≠ 0) && bit (s.piLevels p (s.tport p).lv) k)) ∧ (∀ q, q ≠ p.val → t.tport q = s.tport q) ∧
      t.rb (piReg p 0x24) 9 = (s.rb (piReg p 0x24) 9 || !high) ∧ (∀ b, b ≠ 9 → t.rb (piReg p 0x24) b = s.rb (piReg p 0x24) b) ∧
      KeepRegs [piReg p 0x24] s t ∧ Only [.tports, .regs] s t))) ∧
  (∀ (p : Fin 16) (bits : Word) (back : Bool) (s : State) (ts : Int),
    let n := s.rf (piReg p 0x10) 0 6
    let runs : Prop := s.rb tlyStat 0 = true ∧ s.piActive p = true ∧ s.piType p = 5 ∧ 8 ≤ n ∧ n ≤ 32 ∧ (s.tport p).burst = some ts
    ((s.tport p).burst = none → exec (.ssiFrame p bits back) s = .next s) ∧
    (runs → Does (.ssiFrame p bits back) s (fun t => (t.tport p).burst = none ∧ (t.tport p).low = false ∧
      (∀ k < 4, bit (s.piLevels p (t.tport p).lv) k = (decide (k = 0) || bit (s.piLevels p (s.tport p).lv) k)) ∧
      (∀ q, q ≠ p.val → t.tport q = s.tport q) ∧ KeepRegs [piReg p 0x24] s t ∧ Only [.tports, .tlines, .regs] s t ∧
      ((s.tport p).low = true ∨ back = false → t.tlines = s.tlines ∧ (t.tport p).count = (s.tport p).count ∧ (t.tport p).word = (s.tport p).word ∧
        t.rb (piReg p 0x24) 9 = (s.rb (piReg p 0x24) 9 || !(s.tport p).low)) ∧
      ((s.tport p).low = false → back = true → KeepRegs [] s t ∧ Sampled s t p (t.tport p).count ts ∧
        (t.tport p).count.toNat < 2 ^ n ∧ (let v := (t.tport p).count
          (if s.rb (piReg p 0x10) 7 then v ^^^ (v >>> 1) else v).toNat = bits.toNat % 2 ^ n))))) ∧
  (∀ (n : Fin 128) (ts : Nat) (s : State),
    let accepts : Prop := s.rb ⟨.fryUp, n, 0⟩ 31 = true ∧ s.rf ⟨.fryUp, n, 0⟩ 29 2 = 3 ∧ s.rb tlyStat 0 = true
    let p := s.rf ⟨.fryUp, n, 0⟩ 16 4
    ((s.upf n).q = [] ∨ ¬ accepts → exec (.fabricStreamMeasurement n ts) s = .next s) ∧
    (accepts → ∀ (k : Tok) (rest : List Tok), (s.upf n).q = k :: rest → Does (.fabricStreamMeasurement n ts) s (fun t => t.upf n = { s.upf n with q := [] } ∧
      (∀ m, m ≠ n.val → t.upf m = s.upf m) ∧ Only [.tports, .tlines, .regs, .ups] s t ∧
      (¬ (s.piActive p = true ∧ s.piType p = 6) → KeepRegs [] s t ∧ t.tlines = s.tlines ∧ t.tports = s.tports) ∧
      (s.piActive p = true → s.piType p = 6 →
        (k.p = true → t.rb (piReg p 0x24) 10 = true ∧ KeepRegs [piReg p 0x24] s t ∧ t.tlines = s.tlines ∧ t.tports = s.tports) ∧
        (k.p = false → KeepRegs [] s t ∧ Sampled s t p k.d ((ts : Int) - s.rf (piReg p 0x14) 0 16) ∧ (∀ q, q ≠ p → t.tport q = s.tport q))))))

/-- R10, R31, R47, R61, R493: the Tally's port registers, TLY_DIFF, calibration and REFLOCK. A field of a port other than EN changes only while EN = 0: a
write that would change one is ignored and counted. A pair of TLY_DIFF is taken only while both its ports are off. CALRUN asks for a calibration,
which sets CALDONE and SKEW, as each CALPER period does and power-up; REFLOCK reads 1 once the multiplier locks. (TLY_PORT_CFG_WRITE, TLY_DIFF_WRITE,
CALRUN, SPINE_CALIBRATION, REFLOCK.) Commands: TLY_PORT_CFG_WRITE, TLY_DIFF_WRITE, CALRUN, SPINE_CALIBRATION, REFLOCK. Choices and readings of the
model that it rests on: log entries 9, 144, 147. -/
def Obligations.TallyPortRegisters : Prop :=
  (∀ (iss : Issuer) (p : Fin 16) (off : Fin 9) (v : Word) (s : State), mgmtIssuer iss = true → s.piEn p = false →
    let g := piReg p (4 * off.val)
    Does (.tlyPortCfgWrite iss p off v) s (fun t => Only [.regs, .tports, .tlines] s t ∧
      (off.val ≠ 0 → KeepRegs [g] s t ∧ t.rget g = ((g.info).getD {}).write (s.rget g) (v.setWidth 64)) ∧
      (off.val = 0 → t.piEn p = bit v 31 ∧ t.rf g 24 4 = (if 9 ≤ fld v 24 4 then 0 else fld v 24 4) ∧
        t.rf g 12 8 = fld v 12 8 ∧ t.rf g 0 8 = fld v 0 8 ∧
        (bit v 31 = true → (t.tport p).rem = 0 ∧ (t.tport p).first = true ∧ (t.tport p).burst = none ∧ (t.tport p).pos = (s.tport p).pos ∧
          (t.tport p).count = (s.tport p).count ∧ (t.tport p).zcorr = (s.tport p).zcorr)))) ∧
  (∀ (iss : Issuer) (p : Fin 16) (off : Fin 9) (v : Word) (s : State), mgmtIssuer iss = true → s.piEn p = true → off.val ≠ 0 →
    let g := piReg p (4 * off.val)
    Does (.tlyPortCfgWrite iss p off v) s (fun t => KeepRegs [violOf .tlyPi p] s t ∧ Only [.regs, .tports, .tlines] s t ∧
      (((g.info).getD {}).write (s.rget g) (v.setWidth 64) ≠ s.rget g → t = s.viol .tlyPi p))) ∧
  (∀ (iss : Issuer) (v : Word) (s : State), mgmtIssuer iss = true →
    Does (.tlyDiffWrite iss v) s (fun t => Only [.regs] s t ∧ KeepRegs [tlyDiff, violOf .tly 0] s t ∧
      ∀ n < 8, (s.piEn n = true ∨ s.piEn (n + 8) = true → t.rb tlyDiff n = s.rb tlyDiff n ∧ t.rb tlyDiff (n + 8) = s.rb tlyDiff (n + 8)) ∧
        (s.piEn n = false → s.piEn (n + 8) = false → t.rb tlyDiff n = bit v n ∧ t.rb tlyDiff (n + 8) = bit v (n + 8)))) ∧
  (∀ (iss : Issuer) (s : State), mgmtIssuer iss = true → Does (.calrun iss) s (fun t => t.calReq = true ∧ KeepRegs [] s t ∧ Only [.regs, .calReq] s t)) ∧
  (∀ (skew : Fin 301) (s : State),
    let runs : Prop := s.rb tlyStat 0 = true ∧ (s.rb tlyStat 1 = false ∨ s.calReq = true ∨ s.rf ⟨.tly, 0, 0⟩ 0 2 ≠ 3)
    (¬ runs → exec (.spineCalibration skew) s = .next s) ∧
    (runs → Does (.spineCalibration skew) s (fun t => t.rf tlyStat 16 16 = skew.val ∧ t.rb tlyStat 1 = true ∧
      t.rb tlyStat 0 = true ∧ t.calReq = false ∧ KeepRegs [tlyStat] s t ∧ Only [.regs, .calReq] s t))) ∧
  (∀ s : State, Does .reflock s (fun t => t.rb tlyStat 0 = true ∧ (∀ j, j ≠ 0 → t.rb tlyStat j = s.rb tlyStat j) ∧ KeepRegs [tlyStat] s t ∧ Only [.regs] s t))

/-- R10, R31, R50, R65, R66: a line's registers. A write to CTL stores EN and the staged fields and, with COMMIT, asks for their application; the running
line goes on with its old values until the next interval boundary applies every staged value together, where a change of SRC or INV starts acquisition
again and a change of OFFS jumps. HOLD freezes the readable state of one interval, or lets it go. An issuer that is neither the management complex nor
the debug port is counted in TLY_VIOL and changes nothing else, here and in the other Tally registers. Commands: LINE_ENABLE, COMMIT, COMMIT_APPLY,
HOLD, TLY_PORT_CFG_WRITE, TLY_DIFF_WRITE, CALRUN. Choices and readings of the model that it rests on: log entry 15. -/
def Obligations.TallyLineRegisters : Prop :=
  (∀ (iss : Issuer) (l : Fin 8) (v : Word) (s : State), mgmtIssuer iss = true →
    Does (.lineEnable iss l v) s (fun t => t.rb (plReg l 0) 31 = bit v 31 ∧ t.rf (plReg l 0) 24 4 = fld v 24 4 ∧
      t.rb (plReg l 0) 23 = bit v 23 ∧ t.rb (plReg l 0) 22 = bit v 22 ∧
      (∀ k, t.tline k = if k = l then { s.tline k with commit := (s.tline l).commit || bit v 30 } else s.tline k) ∧
      KeepRegs [plReg l 0] s t ∧ Only [.regs, .tlines] s t)) ∧
  (∀ (iss : Issuer) (l : Fin 8) (s : State), mgmtIssuer iss = true →
    Does (.commit iss l) s (fun t => (∀ k, t.tline k = if k = l then { s.tline k with commit := true } else s.tline k) ∧
      KeepRegs [plReg l 0] s t ∧ t.rf (plReg l 0) 22 6 = s.rf (plReg l 0) 22 6 ∧ t.rb (plReg l 0) 31 = s.rb (plReg l 0) 31 ∧ Only [.regs, .tlines] s t)) ∧
  (∀ (l : Fin 8) (s : State), ((s.tline l).commit = false ∨ s.rb tlyStat 0 = false → exec (.commitApply l) s = .next s) ∧
    (s.rb tlyStat 0 = true → (s.tline l).commit = true → Does (.commitApply l) s (fun t =>
      let n := s.tline l
      let m := t.tline l
      let restarts : Prop := s.rf (plReg l 0) 24 4 ≠ fld n.ctl 24 4 ∨ s.rb (plReg l 0) 23 ≠ bit n.ctl 23
      m.ctl = s.rget (plReg l 0) ∧ m.gain = s.rget (plReg l 4) ∧ m.lock = s.rget (plReg l 8) ∧ m.still = s.rget (plReg l 0xC) ∧
      m.offs = s.rget (plReg l 0x10) ∧ m.slew = s.rget (plReg l 0x14) ∧ m.commit = false ∧ m.run = n.run ∧ m.theta = n.theta ∧ m.pub = n.pub ∧
      (n.offs ≠ s.rget (plReg l 0x10) → m.jump = true) ∧ (restarts → m.acq = 0 ∧ m.valid = false ∧ m.locked = false) ∧
      (¬ restarts → m.acq = n.acq ∧ m.valid = n.valid ∧ m.locked = n.locked ∧ KeepRegs [] s t) ∧
      (∀ k, k ≠ l.val → t.tline k = s.tline k) ∧ KeepRegs [plReg l 0x2C] s t ∧ Only [.regs, .tlines] s t))) ∧
  (∀ (iss : Issuer) (l : Fin 8) (v : Word) (s : State), mgmtIssuer iss = true →
    Does (.hold iss l v) s (fun t => (bit v 0 = false → (t.tline l).held = none) ∧
      (bit v 0 = true → (s.tline l).held = none → t.lineShown l = s.lineView l) ∧ (∀ x, bit v 0 = true → (s.tline l).held = some x → t.lineShown l = x) ∧
      t.rb (plReg l 0x30) 0 = bit v 0 ∧ (∀ k, k ≠ l.val → t.tline k = s.tline k) ∧ (t.tline l).theta = (s.tline l).theta ∧ KeepRegs [plReg l 0x30] s t ∧
      Only [.regs, .tlines] s t)) ∧
  (∀ (iss : Issuer) (s : State), mgmtIssuer iss = false →
    (∀ p off v, exec (.tlyPortCfgWrite iss p off v) s = .next (s.viol .tlyPi p.val)) ∧ (∀ v, exec (.tlyDiffWrite iss v) s = .next (s.viol .tly 0)) ∧
    exec (.calrun iss) s = .next (s.viol .tly 0) ∧ (∀ l v, exec (.lineEnable iss l v) s = .next (s.viol .tlyPl l.val)) ∧
    (∀ l, exec (.commit iss l) s = .next (s.viol .tlyPl l.val)) ∧ (∀ l v, exec (.hold iss l v) s = .next (s.viol .tlyPl l.val)))

/-- R49 to R53, R57, R59: what a spine tick makes of one line (SPINE_TICK, STANDSTILL_TIMEOUT, MISSING_PULSE). A line without a measurement runs on its
velocity and acceleration; the first measurement of an acquiring line sets its position, with no velocity, makes it valid and jumps. A line that
stands for STILL µs, or misses a pulse, keeps its estimate: standstill stops it and unlocks it unless LOCKSTILL is set; a missed pulse inserts one
count, sets COAST and MISS, and unlocks the line when it is the MISSMAX-th. R58 to R61: the spine (SPINE_TICK, SPINE_FRAME_ARRIVAL,
SPINE_FRAME_MISSING). While the multiplier is not locked the Tally stands. A tick advances its time by 5 ns (four samples) and the interval by one,
and emits one frame whose part for each line gives the value published for the interval and the STEP to the next; the next value is the last plus STEP
unless it jumps, and lies within 1/512 pu of the estimate. A region takes a frame that arrives; without one it goes on with the value plus STEP and
VALID = 0, and its stall monitor reports, as a shared fault if the frame stays away. Commands: SPINE_TICK, STANDSTILL_TIMEOUT, MISSING_PULSE,
SPINE_FRAME_ARRIVAL, SPINE_FRAME_MISSING. Choices and readings of the model that it rests on: log entries 8, 10, 11, 12, 13, 14, 19, 127, 141. -/
def Obligations.LinesAndSpine : Prop :=
  (
  (∀ (l : Fin 8) (s : State), s.rb tlyStat 0 = true → (s.tline l).run = true → s.rb (plReg l 0) 31 = true → (s.tline l).meas = none →
    (s.tline l).slewLeft = 0 → isSampled (s.piType (fld (s.tline l).ctl 24 4)) = true →
    Does .spineTick s (fun t =>
      ((s.tline l).acq = 0 → (t.tline l).theta = (s.tline l).theta ∧ (t.tline l).omega = (s.tline l).omega ∧ (t.tline l).valid = (s.tline l).valid) ∧
      ((s.tline l).acq ≠ 0 → (∃ k : Int, (k * 2 ^ 37 - (((s.tline l).theta.toNat : Int) * 2 ^ 37 + (s.tline l).omega * 32 + (s.tline l).alpha * 16)).natAbs < 2 ^ 37 ∧
          (t.tline l).theta = BitVec.ofInt 64 k) ∧ (t.tline l).omega = (s.tline l).omega + (s.tline l).alpha ∧ (t.tline l).alpha = (s.tline l).alpha ∧
        (t.tline l).valid = (s.tline l).valid ∧ (t.tline l).locked = (s.tline l).locked ∧ (t.tline l).acq = (s.tline l).acq))) ∧
  (∀ (l : Fin 8) (s : State) (m : Meas), s.rb tlyStat 0 = true → (s.tline l).run = true → s.rb (plReg l 0) 31 = true → (s.tline l).meas = some m →
    (s.tline l).acq = 0 → (s.tline l).slewLeft = 0 → (s.tline l).coast = false → isSampled (s.piType (fld (s.tline l).ctl 24 4)) = true →
    Does .spineTick s (fun t =>
      (t.tline l).theta = BitVec.ofInt 64 (if bit (s.tline l).ctl 23 then -m.m else m.m) ∧ (t.tline l).omega = 0 ∧ (t.tline l).alpha = 0 ∧
      (t.tline l).valid = true ∧ (t.tline l).meas = none ∧ t.rb (plReg l 0x2C) 13 = true)) ∧
  (∀ (l : Fin 8) (s : State), let n := s.tline l
    let typ := s.piType (fld n.ctl 24 4)
    let stands : Prop := s.rb tlyStat 0 = true ∧ n.run = true ∧ n.acq ≠ 0 ∧ (isCounting typ = true ∨ isSampled typ = true) ∧ fld n.still 0 16 ≠ 0
    (¬ stands → exec (.standstillTimeout l) s = .next s) ∧
    (stands → Does (.standstillTimeout l) s (fun t => t.tline l =
        { n with stillF := true, omega := 0, alpha := 0, down := n.down && isCounting typ, locked := n.locked && bit n.ctl 22, inTol := if bit n.ctl 22 then n.inTol else 0, outTol := if bit n.ctl 22 then n.outTol else 0 } ∧
      t.rb (plReg l 0x2C) 15 = (s.rb (plReg l 0x2C) 15 || (n.locked && !bit n.ctl 22)) ∧
      (∀ k, k ≠ l.val → t.tline k = s.tline k) ∧ KeepRegs [plReg l 0x2C] s t ∧ Only [.regs, .tlines] s t))) ∧
  (∀ (l : Fin 8) (s : State), let n := s.tline l
    let p := fld n.ctl 24 4
    let on (k : Nat) : Prop := k < 8 ∧ (s.tline k).run = true ∧ fld (s.tline k).ctl 24 4 = p
    let supervised : Prop := s.rb tlyStat 0 = true ∧ n.run = true ∧ n.locked = true ∧ s.piActive p = true ∧ s.piType p = 4
    (¬ supervised → exec (.missingPulse l) s = .next s) ∧
    (supervised → Does (.missingPulse l) s (fun t => (t.tline l).coast = true ∧ (t.tline l).misses = n.misses + 1 ∧
      ((∀ k, on k → k = l.val) → Counted s t p 1 ∧ (t.tline l).mcnt = n.mcnt) ∧ ((∃ k, on k ∧ k ≠ l.val) → t.tports = s.tports ∧ (t.tline l).mcnt = n.mcnt + 1) ∧
      (n.omega ≠ 0 → (((t.tline l).edgeTs - n.edgeTs) * ((n.omega.natAbs : Int) * portDen s p) - portNum s p * 2 ^ 50).natAbs < n.omega.natAbs * (portDen s p).natAbs) ∧
      (∀ q, q ≠ p → t.tport q = s.tport q) ∧
      (t.tline l).locked = decide (n.misses + 1 < atLeast1 (fld n.still 16 8)) ∧ (t.tline l).valid = n.valid ∧ (t.tline l).theta = n.theta ∧
      t.rb (piReg p 0x24) 12 = true ∧ t.rf (piReg p 0x28) 24 8 = min 255 (s.rf (piReg p 0x28) 24 8 + 1) ∧
      (∀ k, k ≠ l.val → t.tline k = s.tline k) ∧ KeepRegs [plReg l 0x2C, piReg p 0x24, piReg p 0x28] s t ∧ Only [.regs, .tlines, .tports] s t)))) ∧
  (
  (∀ s : State, s.rb tlyStat 0 = false → exec .spineTick s = .next s) ∧
  (∀ s : State, s.rb tlyStat 0 = true → Does .spineTick s (fun t => t.time = s.time + 4 ∧ t.interval = s.interval + 1 ∧
    (∃ fs, t.frames = (⟨s.interval, fs⟩ :: s.frames).take 8 ∧ fs.length = 8 ∧
      ∀ l (f : LFrame), fs[l]? = some f → f.ph = (s.tline l).pub.setWidth 40 ∧ f.valid = (s.tline l).pubFlags.testBit 0 ∧
        f.lock = (s.tline l).pubFlags.testBit 1 ∧
        ((t.tline l).valid = true → (t.tline l).pubFlags.testBit 4 = false → (t.tline l).pub = (s.tline l).pub + f.step.signExtend 56) ∧
        ((t.tline l).valid = true → 2 * (halfRange 101 ((t.tline l).est - ((t.tline l).pub.toNat : Int) * 2 ^ 45)).natAbs ≤ 2 ^ 45)) ∧
    (∀ l < 8, (t.tline l).pubFlags.testBit 0 = (t.tline l).valid ∧ (t.tline l).pubFlags.testBit 1 = (t.tline l).locked) ∧
    KeepRegs ((List.range 8).map (fun l => plReg l 0x2C)) s t ∧
    Only [.free, .time, .regs, .tlines, .ptp, .ptpGo, .ptpMark, .interval, .frames, .wdgs] s t)) ∧
  (∀ (r : Fin 32) (k : Nat) (s : State) (f : Frame), s.frames.find? (fun f => f.interval == k) = some f → (s.spineOf r).interval < k →
    Does (.spineFrameArrival r k) s (fun t => t.spineOf r = f ∧ t.spinePrev r = s.spineOf r ∧ (∀ q, q ≠ r.val → t.spineOf q = s.spineOf q ∧ t.spinePrev q = s.spinePrev q) ∧
      KeepKeys State.pin (fun q => q / 24 = r.val) s t ∧ Only [.free, .regs, .spine, .pins, .spinePrevs] s t)) ∧
  (∀ (r : Fin 32) (k : Nat) (s : State), s.frames.find? (fun f => f.interval == k) = none ∨ ((s.spineOf r).lines ≠ [] ∧ k ≤ (s.spineOf r).interval) →
    exec (.spineFrameArrival r k) s = .next s) ∧
  (∀ (r : Fin 32) (lasting : Bool) (s : State), Does (.spineFrameMissing r lasting) s (fun t =>
    t.spineOf r = ⟨(s.spineOf r).interval + 1, (s.spineOf r).lines.map (fun f => { f with ph := f.ph + f.step.signExtend 40, valid := false, jump := false })⟩ ∧
    t.rb (meshReg r 0) 31 = true ∧ (∀ q, q ≠ r.val → t.spineOf q = s.spineOf q) ∧ KeepKeys State.pin (fun q => q / 24 = r.val) s t ∧
    Only [.free, .regs, .spine, .pins, .spinePrevs] s t ∧ (lasting = true → t.rb tnkAlarm r = true) ∧
    (lasting = false → t.rf (tnkErr r) 16 16 = min 0xFFFF (s.rf (tnkErr r) 16 16 + 1)))))

/-- R124, R125, R129, R131, R136, R137, R148, R357: one TOKEN_MOVE. On a stream channel a token leaves its stage and enters the next, which was empty; it
does not pass the closed gate of the sink's region. A code with two wires high is stored with P = 1 and counted in the region of the stage. From a Lit
cluster, the token enters its channel, and its output stage is free once every selecting sink has taken it. Over a link of the access plane crosses
the access or answer that the switch serves next: a Vermilion one if any may cross, into its class lane's stage there, which held nothing; at the end
of its way it leaves the lane; with a faulty code an access goes on poisoned. Commands: TOKEN_MOVE. Choices and readings of the model that it rests
on: log entries 21, 24, 158, 160. -/
def Obligations.RouteMoves : Prop :=
  (∀ (ch : Word) (i : Nat) (bad : BitVec 17) (s : State) (t : Tok),
    let c := s.chan (chKey ch)
    let shut : Prop := (s.region (epRegion c.snk)).gate = true ∧ i + 1 = c.gate
    let rr := ((s.chanRegions ch c.snk)[i + 1]?).getD (epRegion ch)
    c.stages[i]? = some (some t) → c.stages[i + 1]? = some none →
    (shut → exec (.tokenMove (.stage ch i) bad) s = .next s) ∧
    (¬ shut → Does (.tokenMove (.stage ch i) bad) s (fun u =>
      (∃ t', (u.chan (chKey ch)).stages[i + 1]? = some (some t') ∧ (bad = 0 → t' = t) ∧ (bad ≠ 0 → t'.p = true)) ∧
      (i ≠ 0 ∨ c.owes = false → (u.chan (chKey ch)).stages[i]? = some none) ∧
      (∀ j, j ≠ 0 → j ≠ i → j ≠ i + 1 → (u.chan (chKey ch)).stages[j]? = c.stages[j]?) ∧ (∀ k, k ≠ chKey ch → u.chan k = s.chan k) ∧
      (bad ≠ 0 → u.rb (meshReg rr 0) 30 = true ∧ u.rf (meshReg rr 8) 0 16 = min 0xFFFF (s.rf (meshReg rr 8) 0 16 + 1)) ∧
      (bad = 0 → KeepRegs [tnkErr rr] s u ∧ Only [.regs, .chans, .codePend] s u)))) ∧
  (∀ (g : Fin 544) (p : Fin 4) (j : Fin 8) (s : State) (t : Tok) (lc : Nat) (rest : List (Option Tok)),
    let k : Fin 305 := ⟨272 + 8 * p.val + j.val, by omega⟩
    let key := chKey (epPort (g.val / 17) lc p j)
    let code := s.sel g k
    s.cluLit g = true → s.logicalOf g = some lc → s.paired (g.val / 17) = false → s.portMode g p = 1 → s.twin (gsink g k) = none → s.offered g k = some t →
    code < 128 →
    (s.chan key).stages = none :: rest → (s.chan key).broken = false →
    Does (.tokenMove (.sink g k) 0) s (fun u =>
      (u.chan key).stages = some t :: rest ∧ (∀ q, q ≠ key → u.chan q = s.chan q) ∧
      u.ostage (g * 64 + code / 2) (code % 2 == 1) =
        (if (s.sinksOf g code).all (fun n => n == k || (s.ostage (g * 64 + code / 2) (code % 2 == 1)).taken.contains (gsink g n)) then {}
         else { s.ostage (g * 64 + code / 2) (code % 2 == 1) with
                taken := gsink g k :: (s.ostage (g * 64 + code / 2) (code % 2 == 1)).taken }) ∧
      (∀ x, x ≠ g * 64 + code / 2 → u.cell x = s.cell x))) ∧
  (∀ (g : Fin 544) (k : Fin 305) (bad : BitVec 17) (s : State), s.offered g k = none → exec (.tokenMove (.sink g k) bad) s = .next s) ∧
  (∀ (l : PlaneLink) (bad : BitVec 17) (s : State),
    ((∀ x ∈ s.flights, s.mayCross l x = false) → exec (.tokenMove (.lane l) bad) s = .next s) ∧
    (∀ x : Flight, s.mayCross l x = true ↔ x.path.head? = some l ∧ (∀ y ∈ s.flights, y.here = some l → y.tc ≠ x.tc) ∧
      (∀ q, l = .into q → (s.region q).gate = true → x.ans ≠ none) ∧ ∀ d ∈ linkDies l, s.dom (dieDom d) = 0) ∧
    (∀ f : Flight, s.laneNext l = some f → f ∈ s.flights ∧ s.mayCross l f = true ∧ (f.tc = 0 ∨ ∀ x ∈ s.flights, s.mayCross l x = true → x.tc ≠ 0) ∧
      let there := (f.path.drop 1).isEmpty
      Does (.tokenMove (.lane l) bad) s (fun u => u.nextId = s.nextId + 1 ∧
        (∀ x ∈ u.flights, x.id = f.id → x.path = f.path.drop 1) ∧
        (bad = 0 → u.flights = s.flights.map (fun x => if x.id == f.id then
            { x with path := f.path.drop 1, here := if there then none else some l, arr := if there then s.nextId else x.arr } else x) ∧
          Only [.flights, .nextId, .lanes, .regs, .codePend] s u) ∧
        (bad ≠ 0 → f.ans = none → ∃ x ∈ u.flights, x.id = f.id ∧ x.poison = true))))

/-- R116 to R118, R132, R134, R136, R148, R156: an access port (ACCESS_WORD, ACCESS_REPLY, ACCESS_COMPLETION_REPORT) takes its access word, with the next
DATA token for a write and none for a read, and sends one access to the target its table names, by the class of its frame; at 16 reads or 32 writes
outstanding, or without a write's data, it waits. A word with no target is answered by the port, a read in its turn, and counted unless it is
poisoned. A reply that has come back leaves on REPLY in the order of the reads; a refusal answers with P = 1 and is noted at the port. Commands:
ACCESS_WORD, ACCESS_REPLY, ACCESS_COMPLETION_REPORT. Choices and readings of the model that it rests on: log entries 22, 25, 99, 133, 149, 157, 158. -/
def Obligations.AccessPorts : Prop :=
  (∀ (lp : Fin 2048) (s : State) (w : Tok),
    let a := s.aport lp
    let g := s.portG lp
    let isW : Bool := decide (fld w.d 30 2 = 1)
    let d : Tok := if isW then a.data.getD {} else {}
    let taken : APort := { a with req := none, data := if isW then none else a.data }
    a.req = some w →
    (isW = true → a.data = none ∨ (s.region (lpR lp)).writes = false → exec (.accessWordSent lp) s = .next s) ∧
    ((isW = true → a.data.isSome = true ∧ (s.region (lpR lp)).writes = true) →
      (∀ pkg addr, s.route g (lpP lp) w.d = some (pkg, addr) →
        (if isW then 32 ≤ s.outWrites lp else 16 ≤ s.outReads lp) → exec (.accessWordSent lp) s = .next s) ∧
      (∀ pkg addr, s.route g (lpP lp) w.d = some (pkg, addr) → ¬ (if isW then 32 ≤ s.outWrites lp else 16 ≤ s.outReads lp) →
        Does (.accessWordSent lp) s (fun t => t.aport lp = taken ∧
          SetsOut { iss := lpIssuer lp, lp := lp, cell := s.feeder lp, cls := distance (lpR lp) (pkg, addr), tc := s.portClass g (lpP lp), kind := if isW then .write else .read, lock := bit w.d 29, poison := w.p || (isW && d.p), pkg := pkg, addr := addr, data := d } s t ∧
          (∀ q, q ≠ lp.val → t.aport q = s.aport q) ∧ KeepRegs [] s t ∧ Only [.aports, .flights, .nextId] s t)) ∧
      (s.route g (lpP lp) w.d = none → isW = false → a.rep.tok.isSome = true ∨ 0 < s.outReads lp → exec (.accessWordSent lp) s = .next s) ∧
      (s.route g (lpP lp) w.d = none → isW = true ∨ (a.rep.tok = none ∧ s.outReads lp = 0) →
        Does (.accessWordSent lp) s (fun t => t.flights = s.flights ∧ (t.aport lp).req = none ∧
          (isW = true → (t.aport lp).rep = a.rep) ∧
          (isW = false → s.wanted (s.members (lpR lp) (lpC lp)) (168 + lpP lp) ≠ [] → (t.aport lp).rep = { tok := some { p := w.p } }) ∧
          KeepRegs [violOf .mesh (lpR lp)] s t ∧
          t.rf (violOf .mesh (lpR lp)) 0 16 = (if w.p || (isW && d.p) then s.rf (violOf .mesh (lpR lp)) 0 16 else min 0xFFFF (s.rf (violOf .mesh (lpR lp)) 0 16 + 1)) ∧
          Only [.regs, .aports, .flights, .nextId] s t)))) ∧
  (∀ (id r lc p : Nat) (s : State) (f : Flight) (a : Answer), s.flight id = some f → f.iss = .port r lc p → f.kind = .read → f.ans = some a →
    f.path = [] → f.orphan = false → s.firstRead f = true → (s.aport f.lp).rep.tok = none → s.portTakes f.lp = true →
    s.wanted (s.members (lpR f.lp) (lpC f.lp)) (168 + lpP f.lp) ≠ [] →
    DoesThen (.accessReply id) s (fun t => t.flights = s.flights.filter (fun x => x.id != id) ∧ (t.aport f.lp).rep = { tok := some a.tok } ∧
      (∀ q, q ≠ f.lp → t.aport q = s.aport q) ∧
      (a ≠ .quarantined → KeepRegs [] s t) ∧
      (a = .quarantined → a.tok = { p := true } ∧ ∀ g ∈ s.members r lc, t.rb ⟨.port, g * 4 + p, 0⟩ 31 = true) ∧ Only [.regs, .aports, .flights] s t)) ∧
  (∀ (id r lc p : Nat) (s : State) (f : Flight) (a : Answer), s.flight id = some f → f.iss = .port r lc p → f.kind = .write → f.ans = some a →
    f.path = [] → f.orphan = false → s.portTakes f.lp = true →
    DoesThen (.accessCompletionReport id) s (fun t => t.flights = s.flights.filter (fun x => x.id != id) ∧ (a ≠ .quarantined → KeepRegs [] s t) ∧
      (a = .quarantined → ∀ g ∈ s.members r lc, t.rb ⟨.port, g * 4 + p, 0⟩ 31 = true) ∧ Only [.regs, .flights] s t)) ∧
  (∀ (id : Nat) (s : State) (f : Flight), s.flight id = some f → f.path ≠ [] → exec (.accessReply id) s = .next s ∧ exec (.accessCompletionReport id) s = .next s) ∧
  (∀ s : State, s.ix.sessions = [] → s.ixSettle = s)

/-- R126, R143 to R145, R147, R148, R445: the region's gate and its broadcast lines (GATE_CLOSE, GATE_DRAIN_COMPLETE, GATE_REFUSAL, BROADCAST_TOKEN, BDUP,
STAGE_STALL). Closing the gate refuses new traffic, drains what it accepted and discards armed marks and captures; once every access the gate had
accepted is performed it has drained: the cells are held and every channel that leads out of the region gets a break token. Refused traffic is counted
and answered with QUARANTINED. A free line takes its source's token; an upset that enables a second driver leaves a line that presents a token with
its source, gives the line else to the first that offers, and sets BDUP; a stall is reported. Commands: GATE_CLOSE, GATE_DRAIN_COMPLETE, GATE_REFUSAL,
BROADCAST_TOKEN, BDUP, STAGE_STALL. Choices and readings of the model that it rests on: log entries 23, 24, 25, 134, 150, 159, 179. -/
def Obligations.GatesAndLines : Prop :=
  (∀ (r : Fin 32) (s : State), ((s.region r).gate = true → exec (.gateClose r) s = .next s) ∧
    ((s.region r).gate = false → Does (.gateClose r) s (fun t => t.region r = { s.region r with gate := true, drain := true, out := false } ∧
      (∀ q, q ≠ r.val → t.region q = s.region q) ∧ (∀ p < 24, (t.pin (r * 24 + p)).q = [] ∧ (t.pin (r * 24 + p)).caps = []) ∧
      (∀ h < 8, (t.hop (r * 8 + h)).pops = []) ∧
      Only [.regs, .regions, .flights, .banks, .hops, .pins, .pads, .groups] s t))) ∧
  (∀ (r : Fin 32) (s : State), let g := s.region r
    let busy : Prop := ∃ f ∈ s.flights, f.pkg = none ∧ f.ans = none ∧ f.external = true ∧ addrRegion f.addr = r ∧ .into r.val ∉ f.path
    (g.gate = false ∨ g.drain = false ∨ busy → exec (.gateDrainComplete r) s = .next s) ∧
    (g.gate = true → g.drain = true → ¬ busy → Does (.gateDrainComplete r) s (fun t =>
      (t.region r).drain = false ∧ (t.region r).held = true ∧ (t.region r).gate = true ∧
      (t.region r).reset = (g.reset || s.rb ⟨.cmp, 0, 0x18⟩ r) ∧ (∀ q, q ≠ r.val → t.region q = s.region q) ∧
      (s.rb ⟨.cmp, 0, 0x18⟩ r = false → t.cells = s.cells ∧ KeepRegs [] s t ∧ t.banks = s.banks) ∧
      (s.rb ⟨.cmp, 0, 0x18⟩ r = true → ∀ b < 128, ∀ lc p, (t.bank b).lock ≠ some (.port r lc p)) ∧ Only [.regs, .cells, .regions, .chans, .banks] s t))) ∧
  (∀ (id : Nat) (s : State) (f : Flight), s.flight id = some f →
    let q := addrRegion f.addr
    let shut : Prop := ∃ e rest, f.path = .into e :: rest ∧ (s.region e).gate = true
    let outside : Prop := f.pkg = none ∧ f.ans = none ∧ f.external = true
    let refused (n : PNode) (t : State) : Prop :=
      t.flights = s.flights.map (fun x => if x.id == id then { x with ans := some .quarantined, path := planePath n (s.issuerNode x), here := none } else x) ∧
      t.rf (meshReg q 4) 0 16 = min 0xFFFF (s.rf (meshReg q 4) 0 16 + 1) ∧ KeepRegs [meshReg q 4] s t ∧ Only [.regs, .flights] s t
    (outside → shut → Does (.gateRefusal (.flight id)) s (refused (.die q))) ∧
    (outside → ¬ shut → s.dom (dieDom (q / 8)) ≠ 0 → Does (.gateRefusal (.flight id)) s (refused (.base (q / 8)))) ∧
    (¬ outside ∨ (¬ shut ∧ s.dom (dieDom (q / 8)) = 0) → exec (.gateRefusal (.flight id)) s = .next s)) ∧
  (∀ (ch : Word) (s : State), let c := s.chan (chKey ch)
    let i := c.gate
    c.connected = true → 0 < i → (s.region (epRegion c.snk)).gate = true → (∃ t, c.stages[i - 1]? = some (some t)) →
    Does (.gateRefusal (.stream ch)) s (fun u =>
      (i ≠ 1 ∨ c.owes = false → (u.chan (chKey ch)).stages[i - 1]? = some none) ∧ (∀ j, j ≠ 0 → j ≠ i - 1 → (u.chan (chKey ch)).stages[j]? = c.stages[j]?) ∧
      (∀ k, k ≠ chKey ch → u.chan k = s.chan k) ∧
      u.rf (meshReg (epRegion c.snk) 4) 0 16 = min 0xFFFF (s.rf (meshReg (epRegion c.snk) 4) 0 16 + 1) ∧
      (fld ch 28 4 = 1 → ∀ g ∈ s.members (epRegion ch) (fld ch 19 4), u.rb ⟨.port, g * 4 + fld ch 17 2, 0⟩ 31 = true) ∧ Only [.regs, .chans] s u)) ∧
  (∀ (r : Fin 32) (b : Fin 8) (s : State), (s.bline (r * 8 + b)).tok = none →
    (s.lineSource r b = none → ∀ bad, exec (.broadcastToken r ⟨b, bad⟩) s = .next s) ∧
    (∀ c, s.lineSource r b = some c → s.bsrc (r * 16 + c) = none → ∀ bad, exec (.broadcastToken r ⟨b, bad⟩) s = .next s) ∧
    (∀ c t, s.lineSource r b = some c → s.bsrc (r * 16 + c) = some t → Does (.broadcastToken r ⟨b, 0⟩) s (fun u =>
      (u.bsrc (r * 16 + c)) = none ∧ (∀ k, k ≠ r * 16 + c → u.bsrc k = s.bsrc k) ∧ (u.bline (r * 8 + b)).src = some c ∧
      (u.bline (r * 8 + b)).tok = (if (u.bline (r * 8 + b)).wait = [] then none else some t) ∧
      (∀ n ∈ (u.bline (r * 8 + b)).wait, n ∈ s.taps r b ∧ (n < 544 * 305 → s.cluLit (n / 305) = true)) ∧
      (∀ k, k ≠ r * 8 + b.val → u.bline k = s.bline k) ∧ Only [.free, .regs, .cells, .blines, .bsrcs, .bports, .probes, .pins, .codePend] s u))) ∧
  (∀ (r : Fin 32) (b : Fin 8) (s : State) (t : Tok), (s.bline (r * 8 + b)).tok = some t → Does (.broadcastToken r ⟨b, 0⟩) s (fun u =>
      (u.bline (r * 8 + b)).src = (s.bline (r * 8 + b)).src ∧ (u.bline (r * 8 + b)).tok = (if (u.bline (r * 8 + b)).wait = [] then none else some t) ∧
      (∀ n ∈ (u.bline (r * 8 + b)).wait, n ∈ (s.bline (r * 8 + b)).wait ∧ (n < 544 * 305 → s.cluLit (n / 305) = true)) ∧
      (∀ k, k ≠ r * 8 + b.val → u.bline k = s.bline k) ∧ Only [.regs, .cells, .blines, .bports, .probes, .pins, .codePend] s u)) ∧
  (∀ (r : Fin 32) (b : Fin 8) (lc : Fin 16) (s : State), let others := (List.range 16).filter (fun c => c != lc.val && s.benBit r b c)
    Does (.bdup r b lc) s (fun t => t.benBit r b lc = true ∧ (∀ c < 16, c ≠ lc.val → t.benBit r b c = s.benBit r b c) ∧
      bit (Store.get 0 t.cfg (cfgKey 2 r 0 (2 * b + lc / 8))) (lc % 8) = true ∧
      (others = [] → KeepRegs [meshReg r (0x10 + 4 * (b / 2))] s t ∧ t.blines = s.blines) ∧
      (others ≠ [] → t.rb (meshReg r 0) 29 = true ∧ t.rf (meshReg r 0) 26 3 = b.val ∧
        ((s.bline (r * 8 + b)).tok.isSome = true → t.blines = s.blines) ∧
        ((s.bline (r * 8 + b)).tok = none → t.bline (r * 8 + b) = { s.bline (r * 8 + b) with src := none } ∧ ∀ k, k ≠ r * 8 + b.val → t.bline k = s.bline k)) ∧
      KeepRegs [meshReg r (0x10 + 4 * (b / 2)), meshReg r 0] s t ∧ Only [.regs, .blines, .cfg] s t)) ∧
  (∀ (g : Fin 544) (p : Fin 4) (s : State), Does (.stageStall (.port g p) false) s (fun t => t.rb ⟨.port, g * 4 + p, 0⟩ 29 = true ∧
    t.rf (tnkErr (g / 17)) 16 16 = min 0xFFFF (s.rf (tnkErr (g / 17)) 16 16 + 1) ∧ KeepRegs [⟨.port, g * 4 + p, 0⟩, tnkErr (g / 17)] s t ∧
    t.cells = s.cells ∧ t.aports = s.aports ∧ t.chans = s.chans)) ∧
  (∀ (r : Fin 32) (lasting : Bool) (s : State), Does (.stageStall (.mesh r) lasting) s (fun t => t.rb (meshReg r 0) 31 = true ∧
    (lasting = false → t.rf (tnkErr r) 16 16 = min 0xFFFF (s.rf (tnkErr r) 16 16 + 1)) ∧ (lasting = true → t.rb tnkAlarm r = true) ∧
    t.cells = s.cells ∧ t.aports = s.aports ∧ t.chans = s.chans))

/-- R136, R160, R393, R394, R396: a management core's accesses to the fabric (CORE_FABRIC_LOAD, CORE_FABRIC_STORE, CORE_FENCE, FTMO, ACCESS_REPLY). A load
is sent and blocks the core until its reply; a store is posted, up to sixteen at once; a FENCE waits while one of the core's accesses is in flight, on
core 0 Ixzento's too; an address of the core view that no window of the fabric holds is reserved space, which reads zero and is counted in MGT_VIOL. A
load without a reply in time returns zero and is noted in MGT_FSTAT. Commands: CORE_FABRIC_LOAD, CORE_FABRIC_STORE, CORE_FENCE, FTMO, ACCESS_REPLY.
Choices and readings of the model that it rests on: log entries 4, 101, 105, 157. -/
def Obligations.CoreFabricAccesses : Prop :=
  (∀ (c : Fin 4) (addr : BitVec 64) (w : Width) (s : State), 0x100000000 ≤ addr.toNat → s.coreFree c = true →
    ((placeOf addr.toNat).region = none → Does (.coreFabricLoad c addr w) s (fun t => t.rdata = 0 ∧
      t.rf (violOf .irq 0) 0 16 = min 0xFFFF (s.rf (violOf .irq 0) 0 16 + 1) ∧ KeepRegs [violOf .irq 0] s t ∧ Only [.regs, .rdata] s t)) ∧
    ((placeOf addr.toNat).region.isSome = true → Does (.coreFabricLoad c addr w) s (fun t =>
      SetsOut { iss := .core c, lp := 4096, tc := 3, kind := .read, addr := addr.toNat, w := w } s t ∧
      t.core c = { s.core c with load := some s.nextId } ∧ (∀ k, k ≠ c.val → t.core k = s.core k) ∧ Only [.flights, .nextId, .cores] s t))) ∧
  (∀ (c : Fin 4) (addr v : BitVec 64) (w : Width) (s : State), 0x100000000 ≤ addr.toNat → s.coreFree c = true →
    let posted := (s.flights.filter (fun f => f.iss == .core c && f.kind == .write)).length
    ((placeOf addr.toNat).region = none → exec (.coreFabricStore c addr w v) s = .next (s.viol .irq 0)) ∧
    ((placeOf addr.toNat).region.isSome = true → 16 ≤ posted → exec (.coreFabricStore c addr w v) s = .next s) ∧
    ((placeOf addr.toNat).region.isSome = true → posted < 16 → Does (.coreFabricStore c addr w v) s (fun t =>
      SetsOut { iss := .core c, lp := 4096, tc := 3, kind := .write, addr := addr.toNat, data := { d := v.setWidth 32 }, w := w } s t ∧
      Only [.flights, .nextId] s t))) ∧
  (∀ (c : Fin 4) (s : State), s.coreFree c = true → Does (.coreFence c) s (fun t =>
    t.core c = { s.core c with fence := s.flights.any (fun f => f.iss == .core c || (c.val == 0 && f.iss == .ixz)) } ∧ (∀ k, k ≠ c.val → t.core k = s.core k) ∧ Only [.cores] s t)) ∧
  (∀ (c : Fin 4) (s : State), s.coreFree c = false →
    (∀ addr w, exec (.coreFabricLoad c addr w) s = .next s) ∧ (∀ addr w v, exec (.coreFabricStore c addr w v) s = .next s) ∧
    exec (.coreFence c) s = .next s) ∧
  (∀ (c : Fin 4) (s : State), (s.core c).load.isSome = true → (s.core c).haltReq = false → DoesThen (.ftmo c) s (fun t => t.rdata = 0 ∧ (t.core c).load = none ∧
    t.rb (irqReg 0x34) 31 = true ∧ t.rf (irqReg 0x34) 28 2 = c.val ∧ t.flights = s.flights ∧ (∀ k, k ≠ c.val → t.core k = s.core k) ∧
    KeepRegs [irqReg 0x34, dbgCore c 4] s t ∧ Only [.regs, .rdata, .cores] s t)) ∧
  (∀ (c : Fin 4) (id : Nat) (s : State) (f : Flight) (w : Tok), s.flight id = some f → f.iss = .core c → f.kind = .read → f.ans = some (.word w) → f.path = [] →
    (s.core c).load = some id → (s.core c).haltReq = false → DoesThen (.accessReply id) s (fun t => t.rdata = w.d.setWidth 64 ∧ (t.core c).load = none ∧
      (w.p = true → t.rb (irqReg 0x34) 30 = true) ∧ t.flights = s.flights.filter (fun x => x.id != id)))

/-- R166, R167, R170, R171, R328: BM_READ: a block memory port answers the read at its REQ input once its REPLY stage is empty: with the entry's bytes, in
one token, or two at ×64; a poisoned read is refused with P = 1, PDROP and the poison alarm; a forbidden one answers zero and is counted. An upset of
the read path alone is counted as transient; a byte whose stored parity is wrong gives P = 1 and is a lasting error; a pair repairs it from the twin,
or, where the twin's fails too, both reply the twin's bytes with P = 1. R166, R167, R171 to R173, R368: BM_WRITE and BM_INIT_DONE: a block memory
stores a write once its data have come and the start-up step WRITES has passed, all bytes of the entry at once, after a read of the other port that
waits for one of them; a waiting write of the other port with other data sets WCOL. A poisoned or a forbidden write takes its data and stores nothing.
When the initialisation ends, the contents are as INIT says and INITDONE is set. Commands: BM_READ, BM_WRITE, BM_INIT_DONE. Choices and readings of
the model that it rests on: log entries 26, 27, 56, 151, 152, 153, 154. -/
def Obligations.BlockMemory : Prop :=
  (∀ (q : Fin 2176) (glitch : Bool) (s : State) (w : Tok),
  let lg := s.bmWidth q
  let o := fld w.d 0 14
  let e := s.bmEntry (q / 2) o (2 ^ lg)
  let zero (p : Bool) : List Tok := if lg = 3 then [{ p := p }, { p := p }] else [{ p := p }]
  let answers (t : State) (l : List Tok) : Prop :=
    t.bport q = { s.bport q with req := none, data := [], taken := [], rep := if (s.sinksOf (q / 4) (172 + q % 4)).isEmpty then [] else l } ∧
    ∀ k, k ≠ q.val → t.bport k = s.bport k
  (s.bport q).req = some w → fld w.d 30 2 ≠ 1 → (s.bport q).rep = [] →
  (w.p = true → Does (.bmRead q [] glitch) s (fun t => answers t (zero true) ∧ t.rb (bmReg (q / 2) 4) 29 = true ∧ t.rb tnkPalarm (q / 68) = true ∧
    t.rf (tnkPois (q / 68)) 16 8 = min 255 (s.rf (tnkPois (q / 68)) 16 8 + 1) ∧
    KeepRegs [bmReg (q / 2) 4, tnkPois (q / 68), tnkHealth (q / 68), tnkPalarm] s t ∧ Only [.regs, .bports] s t)) ∧
  (w.p = false → bmForbidden w.d lg = true → Does (.bmRead q [] glitch) s (fun t => answers t (zero false) ∧
    t.rf (bmReg (q / 2) 0xC) 0 16 = min 0xFFFF (s.rf (bmReg (q / 2) 0xC) 0 16 + 1) ∧ KeepRegs [bmReg (q / 2) 0xC] s t ∧ Only [.regs, .bports] s t)) ∧
  (w.p = false → bmForbidden w.d lg = false →
    (∀ (i : Fin 8) (k : Fin 9), i.val < 2 ^ lg → exec (.bmRead q [(i, k)] glitch) s = exec (.bmRead q [] glitch) (s.bmHit (q / 2) (o + i) k)) ∧
    ((e.any (·.2)) = false → Does (.bmRead q [] glitch) s (fun t => answers t (bmTokens e) ∧
      t.rf (bmReg (q / 2) 8) 0 8 = (if glitch then min 255 (s.rf (bmReg (q / 2) 8) 0 8 + 1) else s.rf (bmReg (q / 2) 8) 0 8) ∧
      KeepRegs [bmReg (q / 2) 8] s t ∧ Only [.regs, .bports] s t)) ∧
    ((e.any (·.2)) = true → s.twinOf (q / 4) = none → Does (.bmRead q [] glitch) s (fun t => answers t (bmTokens e) ∧
      t.rb (bmReg (q / 2) 4) 30 = true ∧ t.rf (bmReg (q / 2) 4) 0 14 = o ∧ t.rf (bmReg (q / 2) 8) 8 8 = min 255 (s.rf (bmReg (q / 2) 8) 8 8 + 1) ∧
      t.rb tnkAlarm (q / 68) = true ∧ Only [.regs, .bports] s t)) ∧
    (∀ g', (e.any (·.2)) = true → s.twinOf (q / 4) = some g' → ((s.bmEntry (g' * 2 + q / 2 % 2) o (2 ^ lg)).any (·.2)) = false →
      Does (.bmRead q [] glitch) s (fun t => answers t (bmTokens (s.bmEntry (g' * 2 + q / 2 % 2) o (2 ^ lg))) ∧
        (∀ i < 2 ^ lg, t.bmGet (q / 2) (o + i) = s.bmGet (g' * 2 + q / 2 % 2) (o + i)) ∧ t.rf (bmReg (q / 2) 8) 8 8 = min 255 (s.rf (bmReg (q / 2) 8) 8 8 + 1) ∧
        t.rb (bmReg (q / 2) 4) 30 = s.rb (bmReg (q / 2) 4) 30 ∧ KeepRegs [bmReg (q / 2) 4, bmReg (q / 2) 8, tnkErr (q / 68)] s t ∧ Only [.regs, .bports, .bbytes] s t)) ∧
    (∀ g', (e.any (·.2)) = true → s.twinOf (q / 4) = some g' → ((s.bmEntry (g' * 2 + q / 2 % 2) o (2 ^ lg)).any (·.2)) = true →
      Does (.bmRead q [] glitch) s (fun t => answers t (bmTokens (s.bmEntry (g' * 2 + q / 2 % 2) o (2 ^ lg))) ∧ t.rb (bmReg (q / 2) 4) 30 = true ∧
        t.rf (bmReg (q / 2) 8) 8 8 = min 255 (s.rf (bmReg (q / 2) 8) 8 8 + 1) ∧ t.rb tnkAlarm (q / 68) = true ∧ Only [.regs, .bports, .bbytes] s t)))) ∧
  (
  (∀ (q : Fin 2176) (s : State) (w : Tok),
    let lg := s.bmWidth q
    let dat := (s.bport q).data
    let cleared (t : State) : Prop := t.bport q = { s.bport q with req := none, data := [] } ∧ ∀ k, k ≠ q.val → t.bport k = s.bport k
    let full : Prop := (if lg = 3 then 2 else 1) ≤ dat.length ∧ (s.region (q / 68)).writes = true
    (s.bport q).req = some w → fld w.d 30 2 = 1 →
    (¬ full → exec (.bmWrite q) s = .next s) ∧
    (full → (w.p = true ∨ dat.any (·.p) = true) → Does (.bmWrite q) s (fun t => cleared t ∧ t.rb (bmReg (q / 2) 4) 29 = true ∧
      t.rb tnkPalarm (q / 68) = true ∧ Only [.regs, .bports] s t)) ∧
    (full → w.p = false → dat.any (·.p) = false → bmForbidden w.d lg = true → Does (.bmWrite q) s (fun t => cleared t ∧
      t.rf (bmReg (q / 2) 0xC) 0 16 = min 0xFFFF (s.rf (bmReg (q / 2) 0xC) 0 16 + 1) ∧ KeepRegs [bmReg (q / 2) 0xC] s t ∧ Only [.regs, .bports] s t)) ∧
    let readsFirst : Prop := ∃ o n, s.bmPendingRead (otherPort q) = some (o, n) ∧ fld w.d 0 14 < o + n ∧ o < fld w.d 0 14 + 2 ^ lg
    (full → w.p = false → dat.any (·.p) = false → bmForbidden w.d lg = false → dat.length = (if lg = 3 then 2 else 1) → readsFirst → exec (.bmWrite q) s = .next s) ∧
    (full → w.p = false → dat.any (·.p) = false → bmForbidden w.d lg = false → dat.length = (if lg = 3 then 2 else 1) → ¬ readsFirst →
      Does (.bmWrite q) s (fun t => cleared t ∧
        (∀ i < 2 ^ lg, t.bmGet (q / 2) (fld w.d 0 14 + i) = (nth 0 (dat.flatMap (fun k => leBytes 4 k.d.toNat)) i, false)) ∧
        (∀ a < 16384, a < fld w.d 0 14 ∨ fld w.d 0 14 + 2 ^ lg ≤ a → t.bmGet (q / 2) a = s.bmGet (q / 2) a) ∧
        (∀ b a, a < 16384 → b ≠ q.val / 2 → (∀ g', s.mirror (q / 4) = some g' → b ≠ g' * 2 + q.val % 4 / 2) → t.bmGet b a = s.bmGet b a) ∧
        (s.bmPending (otherPort q) = none → KeepRegs [] s t) ∧
        (∀ o' l', s.bmPending (otherPort q) = some (o', l') →
          t.rb (bmReg (q / 2) 4) 31 = (s.rb (bmReg (q / 2) 4) 31 || collide (fld w.d 0 14) ((dat.flatMap (fun k => leBytes 4 k.d.toNat)).take (2 ^ lg)) o' l')) ∧
        Only [.regs, .bports, .bbytes] s t))) ∧
  (∀ (b : Fin 1088) (s : State), ((s.bmem b).busy = false → exec (.bmInitDone b) s = .next s) ∧
    ((s.bmem b).busy = true → Does (.bmInitDone b) s (fun t => (t.bmem b).busy = false ∧ (t.bmem b).cold = false ∧ t.rb (bmReg b 4) 28 = true ∧
      (∀ a < 16384, t.bmGet b a = if s.bmClears b then (0, false) else s.bmGet b a) ∧
      (∀ c a, a < 16384 → c ≠ b.val → t.bmGet c a = s.bmGet c a ∧ t.bmem c = s.bmem c) ∧
      (∀ g, g ≠ b.val / 2 → t.clu g = s.clu g) ∧ KeepRegs [bmReg b 4] s t ∧ Only [.regs, .cells, .clus, .bmems, .bbytes] s t))))

namespace Sys2Proof

/-- An access in flight of a scratch bank that the command is for: bank b, word off / 4, in the given view; it passes the gate. -/
def AtBank (s : State) (id : Nat) (f : Flight) (kind : AKind) (b view off : Nat) : Prop :=
  s.flight id = some f ∧ f.scratch = some (b, view, off) ∧ s.enters f = true ∧ f.kind = kind

/-- The access holds the round that is performed now, and the bank is Lit. -/
def GrantedLit (s : State) (id b : Nat) : Prop := ((s.bank b).cur.map (·.who)) = some (.flight id) ∧ s.dom (bankDom b) = 0

/-- R192: what an access that was performed in its round leaves of bank b's lock: the holder's access with LOCK = 0 ends it. -/
def Unlocks (s t : State) (b : Nat) (f : Flight) : Prop :=
  (t.bank b).lock = (if (s.bank b).lock = some f.iss ∧ f.lock = false then none else (s.bank b).lock) ∧
  t.rb (sb b 0x20) 31 = (if (s.bank b).lock = some f.iss ∧ f.lock = false then false else s.rb (sb b 0x20) 31)

end Sys2Proof

/-- R176, R178 to R181, R184, R192, R197: scratch accesses (SCRATCH_READ, SCRATCH_WRITE, SET_ALIAS_WRITE, CLEAR_ALIAS_WRITE). In its round, at a Lit bank,
a read answers the stored word, a normal write stores its data with right check bits, and the set and clear aliases store the word OR the data and the
word AND NOT the data, as one operation; the round ends, and with it a lock that the access held without LOCK. A first syndrome that the retry does
not see is a transient error; one single-bit error seen twice is corrected and queued for the scrub; anything else within two bits is uncorrectable,
is read with P = 1, and stops an alias write. At the Porter's input a poisoned access is refused with P = 1, and one the owner does not permit, or
that is not a word, reads zero and is counted; neither takes a round. Commands: SCRATCH_READ, SCRATCH_WRITE, SET_ALIAS_WRITE, CLEAR_ALIAS_WRITE.
Choices and readings of the model that it rests on: log entries 26, 53, 101. -/
def Obligations.ScratchAccesses : Prop :=
  (∀ (id b view off : Nat) (f : Flight) (hits g1 g2 : BitVec 39) (s : State), AtBank s id f .read b view off → GrantedLit s id b →
    let d := (s.swGet b (off / 4)).1
    let e := (s.swGet b (off / 4)).2 ^^^ hits
    let tells (t : State) (stat lo : Nat) : Prop := t.rb (sb b 0xC) stat = true ∧ t.rf (sb b 0x10) lo 8 = min 255 (s.rf (sb b 0x10) lo 8 + 1) ∧
      t.rf (sb b 0x14) 0 19 = 4 * (off / 4) ∧ t.rb tnkAlarm (b / 4) = true
    Does (.scratchRead id hits g1 g2) s (fun t => (t.bank b).cur = none ∧ Unlocks s t b f ∧ t.swGet b (off / 4) = (d, e) ∧
      (∀ w < 131072, w ≠ off / 4 → t.swGet b w = s.swGet b w) ∧ Only [.regs, .flights, .banks, .swords] s t ∧
      (popCount (e ^^^ g1) = 0 → Answered id (.word { d := d }) s t ∧ KeepRegs [sb b 0x20] s t) ∧
      (1 ≤ popCount (e ^^^ g1) → popCount (e ^^^ g1) ≤ 2 → popCount (e ^^^ g2) = 0 → Answered id (.word { d := d }) s t ∧
        t.rf (sb b 0x10) 0 16 = min 0xFFFF (s.rf (sb b 0x10) 0 16 + 1) ∧ KeepRegs [sb b 0x10, sb b 0x20] s t) ∧
      (popCount (e ^^^ g1) = 1 → e ^^^ g2 = e ^^^ g1 → Answered id (.word { d := d }) s t ∧ tells t 30 16 ∧ off / 4 ∈ (t.bank b).scrubQ) ∧
      (1 ≤ popCount (e ^^^ g1) → popCount (e ^^^ g1) ≤ 2 → (popCount (e ^^^ g2) = 2 ∨ (popCount (e ^^^ g2) = 1 ∧ e ^^^ g2 ≠ e ^^^ g1)) →
        (∃ x, Answered id (.word { d := x, p := true }) s t) ∧ tells t 31 24))) ∧
  (∀ (id b off : Nat) (f : Flight) (s : State), AtBank s id f .write b 0 off → GrantedLit s id b →
    Does (.scratchWrite id) s (fun t => (t.bank b).cur = none ∧ Unlocks s t b f ∧ t.swGet b (off / 4) = (f.data.d, 0) ∧ Answered id .done s t ∧
      (∀ w < 131072, w ≠ off / 4 → t.swGet b w = s.swGet b w) ∧ KeepRegs [sb b 0x20] s t ∧ Only [.regs, .flights, .banks, .swords] s t)) ∧
  (∀ (id b off : Nat) (f : Flight) (hits g1 g2 : BitVec 39) (s : State), AtBank s id f .write b 1 off → GrantedLit s id b →
    let d := (s.swGet b (off / 4)).1
    let e := (s.swGet b (off / 4)).2 ^^^ hits
    Does (.setAliasWrite id hits g1 g2) s (fun t => (t.bank b).cur = none ∧ Unlocks s t b f ∧ Answered id .done s t ∧
      (popCount (e ^^^ g1) = 0 → t.swGet b (off / 4) = (d ||| f.data.d, 0)) ∧ (popCount (e ^^^ g1) = 2 → e ^^^ g2 = e ^^^ g1 → t.swGet b (off / 4) = (d, e)) ∧
      (∀ w < 131072, w ≠ off / 4 → t.swGet b w = s.swGet b w) ∧ Only [.regs, .flights, .banks, .swords] s t)) ∧
  (∀ (id b off : Nat) (f : Flight) (hits g1 g2 : BitVec 39) (s : State), AtBank s id f .write b 2 off → GrantedLit s id b →
    let d := (s.swGet b (off / 4)).1
    let e := (s.swGet b (off / 4)).2 ^^^ hits
    Does (.clearAliasWrite id hits g1 g2) s (fun t => (t.bank b).cur = none ∧ Unlocks s t b f ∧ Answered id .done s t ∧
      (popCount (e ^^^ g1) = 0 → t.swGet b (off / 4) = (d &&& ~~~f.data.d, 0)) ∧ (popCount (e ^^^ g1) = 2 → e ^^^ g2 = e ^^^ g1 → t.swGet b (off / 4) = (d, e)) ∧
      (∀ w < 131072, w ≠ off / 4 → t.swGet b w = s.swGet b w) ∧ Only [.regs, .flights, .banks, .swords] s t)) ∧
  (∀ (id b view off : Nat) (f : Flight) (s : State), AtBank s id f .read b view off →
    ((s.bank b).cur.map (·.who)) ≠ some (.flight id) → ((s.bank b).next.map (·.who)) ≠ some (.flight id) → ∀ hits g1 g2,
    (f.poison = true → Does (.scratchRead id hits g1 g2) s (fun t => Answered id (.word { p := true }) s t ∧ t.rb (sb b 0xC) 29 = true ∧
      t.rb tnkPalarm (b / 4) = true ∧ t.banks = s.banks ∧ t.swords = s.swords)) ∧
    (f.poison = false → off % 4 ≠ 0 ∨ f.w ≠ .b32 ∨ (s.handing b = false ∧ s.ownerPermits b f.iss = false) → Does (.scratchRead id hits g1 g2) s (fun t =>
      Answered id (.word {}) s t ∧ t.rf (violOf .sbank b) 0 16 = min 0xFFFF (s.rf (violOf .sbank b) 0 16 + 1) ∧ KeepRegs [violOf .sbank b] s t ∧
      t.banks = s.banks ∧ t.swords = s.swords)) ∧
    (f.poison = false → off % 4 = 0 → f.w = .b32 → s.handing b = false → s.ownerPermits b f.iss = true → s.dom (bankDom b) ≠ 2 →
      exec (.scratchRead id hits g1 g2) s = .next s))

/-- R182, R188, R189, R192, R198: the Porter's rounds and the scrub (BANK_ROUND, SCRUB_VISIT). A round in progress is not overtaken; a round already
decided is granted; an idle bank decides at once, for a candidate of the highest e. The grant shows its requester and class, and a granted access with
LOCK takes the free lock for its port. A round of requester 19 that a clear uses writes zero with right check bits to the next word of each sub-bank.
The scrub offers a visit while the bank is Lit and a word is due, and in its round rewrites a word that needs correction. Commands: BANK_ROUND,
SCRUB_VISIT. Choices and readings of the model that it rests on: log entries 123, 164. -/
def Obligations.PorterRounds : Prop :=
  (∀ (b : Fin 128) (s : State), (∀ w, (s.bank b).cur = some w → w.who ≠ .slice → exec (.bankRound b) s = .next s) ∧
    (∀ w, (s.bank b).cur = none → s.nextWin b = some w → w.req < 20 → w.tc < 4 → w.e < 16 → Does (.bankRound b) s (fun t => (t.bank b).cur = some w ∧
      t.rf (sb b 0x24) 25 5 = w.req ∧ t.rf (sb b 0x24) 23 2 = w.tc ∧ t.rf (sb b 0x24) 19 3 = w.e / 2 ∧ t.rf (sb b 0x24) 0 16 = (s.rf (sb b 0x24) 0 16 + 1) % 65536 ∧
      t.rb (sb b 0x24) 31 = (s.bank b).broke ∧ (t.bank b).broke = false ∧ (∀ k, k ≠ b.val → t.bank k = s.bank k))) ∧
    ((s.bank b).cur = none → s.nextWin b = none →
      let u := s.setBank b { s.bank b with next := none }
      (u.candidates b = [] → Does (.bankRound b) s (fun t => (t.bank b).cur = none ∧ KeepRegs [] s t ∧ Only [.banks] s t)) ∧
      (u.candidates b ≠ [] → Does (.bankRound b) s (fun t => ∃ w, (t.bank b).cur = some w ∧ w ∈ u.candidates b ∧ ∀ c ∈ u.candidates b, c.e ≤ w.e)))) ∧
  (∀ (b : Fin 128) (s : State) (w : Win) (id : Nat) (f : Flight), (s.bank b).cur = none → s.nextWin b = some w → w.who = .flight id →
    s.flight id = some f → f.iss ≠ .debug → (s.bank b).lock = none →
    Does (.bankRound b) s (fun t => (t.bank b).lock = (if f.lock then some f.iss else none) ∧ t.rb (sb b 0x20) 31 = (f.lock || s.rb (sb b 0x20) 31))) ∧
  (∀ (b : Fin 128) (s : State), s.dom (bankDom b) = 0 → ((s.bank b).cur.map (·.who)) = some .slice → (s.bank b).clearing = true →
    (s.bank b).clearPos < 16384 → (s.bank b).clearPos ≤ (s.bank b).zeroRows →
    Does (.bankRound b) s (fun t => (t.bank b).clearPos = (s.bank b).clearPos + 1 ∧
      (∀ w < 131072, t.swGet b w = if w % 16384 = (s.bank b).clearPos then (0, 0) else s.swGet b w) ∧
      (∀ c w, c ≠ b.val → w < 131072 → t.swGet c w = s.swGet c w))) ∧
  (∀ (b : Fin 128) (hits g1 g2 : BitVec 39) (s : State), (s.dom (bankDom b) ≠ 0 → exec (.scrubVisit b hits g1 g2) s = .next s) ∧
    (s.dom (bankDom b) = 0 → ((s.bank b).cur.map (·.who)) ≠ some .scrub → Does (.scrubVisit b hits g1 g2) s (fun t =>
      t.bank b = { s.bank b with scrubOffer := (t.bank b).scrubOffer } ∧
      ((t.bank b).scrubOffer = true ↔ (s.bank b).scrubQ ≠ [] ∨ s.rb (sb b 8) 0 = true) ∧
      (∀ k, k ≠ b.val → t.bank k = s.bank k) ∧ KeepRegs [] s t ∧ Only [.banks] s t)) ∧
    (∀ w q, s.dom (bankDom b) = 0 → ((s.bank b).cur.map (·.who)) = some .scrub → (s.scrubWord b).getD ((s.bank b).scrubPos, false) = (w, q) → w < 131072 →
      let d := (s.swGet b w).1
      let e := (s.swGet b w).2 ^^^ hits
      Does (.scrubVisit b hits g1 g2) s (fun t => (t.bank b).cur = none ∧ (t.bank b).scrubOffer = false ∧ w ∉ (t.bank b).scrubQ ∧
        (q = false → (t.bank b).scrubPos = (w + 1) % 131072) ∧
        (popCount (e ^^^ g1) = 1 → e ^^^ g2 = e ^^^ g1 → t.swGet b w = (d, 0)) ∧ (popCount (e ^^^ g1) = 0 → t.swGet b w = (d, e)) ∧
        (∀ k < 131072, k ≠ w → t.swGet b k = s.swGet b k) ∧ Only [.regs, .banks, .swords] s t)))

/-- R183 to R185, R190, R191, R198, R200: the bank's controls (HANDOVER, HDONE, PRT_REQ_WRITE, BANK_CLEAR, CLRDONE). An issuer the bank accepts starts a
handover with GO, a defined next owner and none pending; it completes when the accesses from before are done and no lock stands in the way: OWNER
takes the next owner, OGEN advances and HDONE is set. A priority of 7 is stored as 6 and a third VEN is refused. A clear starts only without an owner,
and ends at a Lit bank once every row is written; an owner that a load left for it is applied then. Anything else is ignored and counted in SCR_VIOL.
Commands: HANDOVER, HDONE, PRT_REQ_WRITE, BANK_CLEAR, CLRDONE. Choices and readings of the model that it rests on: log entries 69, 123, 164. -/
def Obligations.BankControls : Prop :=
  (∀ (iss : Issuer) (b : Fin 128) (v : Word) (s : State),
    let good : Prop := s.bankAccepts b iss = true ∧ bit v 31 = true ∧ fld v 26 3 ≤ 4 ∧ s.handing b = false
    (¬ good → exec (.handover iss b v) s = .next (s.viol .sbank b)) ∧
    (good → Does (.handover iss b v) s (fun t => t.handing b = true ∧ t.rf (sb b 4) 26 3 = fld v 26 3 ∧ t.rf (sb b 4) 12 12 = fld v 12 12 ∧
      t.rf (sb b 4) 10 2 = fld v 10 2 ∧ t.rf (sb b 4) 7 3 = fld v 7 3 ∧ t.rf (sb b 4) 0 4 = fld v 0 4 ∧ t.rget (sb b 0) = s.rget (sb b 0) ∧
      (bit v 30 = false → (t.bank b).lock = (s.bank b).lock) ∧ (∀ h, (s.bank b).lock = some h → bit v 30 = true → t.nextPermits b h = false → (t.bank b).lock = none) ∧
      (∀ f ∈ s.waiting b, f.id ∈ (t.bank b).before) ∧ Only [.regs, .banks] s t))) ∧
  (∀ (b : Fin 128) (s : State), (s.handing b = false ∨ s.handReady b = false → exec (.hdone b) s = .next s) ∧
    (s.handing b = true → s.handReady b = true → Does (.hdone b) s (fun t => t.handing b = false ∧ t.rb (sb b 0xC) 26 = true ∧
      t.rf (sb b 0xC) 0 16 = (s.rf (sb b 0xC) 0 16 + 1) % 65536 ∧ t.rf (sb b 0) 29 3 = s.rf (sb b 4) 26 3 ∧ t.rf (sb b 0) 12 12 = s.rf (sb b 4) 12 12 ∧
      t.rf (sb b 0) 10 2 = s.rf (sb b 4) 10 2 ∧ t.rf (sb b 0) 7 3 = s.rf (sb b 4) 7 3 ∧ t.rf (sb b 0) 0 4 = s.rf (sb b 4) 0 4 ∧
      (∀ h, (t.bank b).lock = some h → s.nextPermits b h = true) ∧ (t.bank b).before = [] ∧ Only [.regs, .banks] s t))) ∧
  (∀ (iss : Issuer) (b : Fin 128) (n : Fin 20) (v : Word) (s : State), s.bankAccepts b iss = true →
    let third : Prop := bit v 31 = true ∧ 2 ≤ ((List.range 20).filter (fun m => m != n.val && s.rb (prtReq b m) 31)).length
    (third → Does (.prtReqWrite iss b n v) s (fun t => t.rb (sb b 0x28) 30 = true ∧ t.rget (prtReq b n) = s.rget (prtReq b n) ∧
      t.rf (violOf .sbank b) 0 16 = min 0xFFFF (s.rf (violOf .sbank b) 0 16 + 1) ∧ KeepRegs [sb b 0x28, violOf .sbank b] s t ∧ Only [.regs] s t)) ∧
    (¬ third → Does (.prtReqWrite iss b n v) s (fun t => t.rb (prtReq b n) 31 = bit v 31 ∧ t.rf (prtReq b n) 8 6 = fld v 8 6 ∧
      t.rf (prtReq b n) 0 3 = min 6 (fld v 0 3) ∧ t.rf (prtReq b n) 16 6 = s.rf (prtReq b n) 16 6 ∧ KeepRegs [prtReq b n] s t ∧ Only [.regs] s t))) ∧
  (∀ (iss : Issuer) (b : Fin 128) (s : State), s.bankAccepts b iss = true →
    (s.rf (sb b 0) 29 3 ≠ 0 → exec (.bankClear iss b) s = .next (s.viol .sbank b)) ∧
    (s.rf (sb b 0) 29 3 = 0 → Does (.bankClear iss b) s (fun t => (t.bank b).clearing = true ∧ (t.bank b).clearPos = 0 ∧ t.rb (sb b 0xC) 27 = false ∧
      t.rb (sb b 8) 0 = s.rb (sb b 8) 0 ∧ t.rb (sb b 8) 2 = s.rb (sb b 8) 2 ∧ KeepRegs [sb b 8, sb b 0xC] s t ∧ Only [.regs, .banks] s t))) ∧
  (∀ (b : Fin 128) (s : State), let k := s.bank b
    let slice : Prop := (k.cur.map (·.who)) = some .slice
    (k.clearing = false ∨ s.dom (bankDom b) ≠ 0 ∨ (¬ slice ∧ k.clearPos < 16384) → exec (.clrdone b) s = .next s) ∧
    (k.clearing = true → s.dom (bankDom b) = 0 → 16384 ≤ (if ((k.cur.map (·.who)) == some .slice) = true then k.clearPos + 1 else k.clearPos) → Does (.clrdone b) s (fun t =>
      (t.bank b).clearing = false ∧ t.rb (sb b 0xC) 27 = true ∧
      (¬ slice → 16384 ≤ k.zeroRows → ∀ w < 131072, t.swGet b w = s.swGet b w) ∧ (∀ c w, c ≠ b.val → w < 131072 → t.swGet c w = s.swGet c w) ∧
      (k.setOwn = none → KeepRegs [sb b 0xC] s t) ∧
      (∀ w, k.setOwn = some w → (t.bank b).setOwn = none ∧ (fld w 29 3 ≠ 0 → t.rf (sb b 0) 29 3 = fld w 29 3 ∧ t.rb (sb b 0xC) 26 = true)) ∧
      Only [.regs, .banks, .swords] s t))) ∧
  (∀ (iss : Issuer) (b : Fin 128) (s : State), s.bankAccepts b iss = false →
    (∀ n v, exec (.prtReqWrite iss b n v) s = .next (s.viol .sbank b)) ∧ exec (.bankClear iss b) s = .next (s.viol .sbank b))

namespace Sys2Proof

/-- R213: the watermark state a hopper has after its occupancy or its watermarks have changed. -/
def Marked (s t : State) (h : Nat) : Prop :=
  (t.hop h).high = (if (s.hop h).high then decide (t.lwm h < (t.hop h).words.length) else decide (t.hwm h ≤ (t.hop h).words.length))

/-- R205, R212: hopper h delivers word[CUR], which is now `w`: held mode advances CUR, plain mode releases it. A word whose stored parity is wrong
is a lasting error; an upset of the first read alone a transient one. -/
def HopDelivers (s t : State) (h : Nat) (w : HWord) (glitch : Bool) : Prop :=
  let k := s.hop h
  (t.hop h).words = (if s.hopHeld h then k.words.set k.cur w else (k.words.set k.cur w).drop 1) ∧
  (t.hop h).cur = (if s.hopHeld h then k.cur + 1 else 0) ∧ (t.hop h).mpos = k.mpos ∧ (t.hop h).fpend = k.fpend ∧
  (∀ j, j ≠ h → t.hop j = s.hop j) ∧ (s.hopHeld h = false → Marked s t h) ∧ (s.hopHeld h = true → (t.hop h).high = k.high) ∧
  (w.bad = true → t.rb (hopReg h 8) 30 = true ∧ t.rf (hopReg h 0x14) 8 8 = min 255 (s.rf (hopReg h 0x14) 8 8 + 1) ∧ t.rb tnkAlarm (h / 8) = true) ∧
  (w.bad = false → glitch = true → t.rf (hopReg h 0x14) 0 8 = min 255 (s.rf (hopReg h 0x14) 0 8 + 1))

end Sys2Proof

/-- R202, R203, R205, R207, R211, R212, R217, R471: pushes and pops (HOPPER_PUSH, PENDING_PUSH_ACCEPTED, HOPPER_POP, PENDING_POP_SERVED, TOKEN_MOVE from a
STREAM consumer side). A push is stored behind the others, with F = 1 if FPEND, and answered; it waits while 64 words are stored. A pop takes
word[CUR]; on an empty hopper up to four wait, and are served in order. Poisoned accesses are refused with the alarm, accesses to a STREAM side
counted; with the gate closed what would wait is refused. A debug read never waits for a word, and one that consumes nothing takes none. A STREAM side
takes from its channel, and a token with a faulty code is stored with P = 1. Commands: HOPPER_PUSH, PENDING_PUSH_ACCEPTED, HOPPER_POP,
PENDING_POP_SERVED, TOKEN_MOVE. Choices and readings of the model that it rests on: log entry 156. -/
def Obligations.HopperPushPop : Prop :=
  (∀ (id h : Nat) (f : Flight) (s : State), s.hopAccess id .write false = some (f, h) → ∀ bad, ∀ c ∈ [Instr.hopperPush ⟨.flight id, bad⟩, .pendingPushAccepted id],
    (f.poison = true → Does c s (fun t => Answered id .done s t ∧ t.rb (hopReg h 8) 29 = true ∧ t.rb tnkPalarm (h / 8) = true ∧ t.hops = s.hops ∧
      Only [.free, .regs, .flights, .hops, .pins] s t)) ∧
    (f.poison = false → s.hopPStream h = true → Does c s (fun t => Answered id .done s t ∧
      t.rf (hopReg h 0x18) 0 16 = min 0xFFFF (s.rf (hopReg h 0x18) 0 16 + 1) ∧ KeepRegs [hopReg h 0x18] s t ∧ t.hops = s.hops ∧ t.pins = s.pins)) ∧
    (f.poison = false → s.hopPStream h = false → f.w = .b32 →
      ((s.hop h).words.length < 64 → Does c s (fun t => Answered id .done s t ∧
        (t.hop h).words = (s.hop h).words ++ [⟨f.data.d, f.data.p, f.data.f || (s.hop h).fpend, false⟩] ∧ (t.hop h).fpend = false ∧
        (t.hop h).cur = (s.hop h).cur ∧ (t.hop h).mpos = (s.hop h).mpos ∧ Marked s t h ∧ (∀ j, j ≠ h → t.hop j = s.hop j) ∧
        ((s.hop h).words.length = 63 → t.rb (hopReg h 8) 27 = true) ∧ Only [.free, .regs, .flights, .hops, .pins] s t)) ∧
      (64 ≤ (s.hop h).words.length → (s.region (h / 8)).gate = false → exec c s = .next s) ∧
      (64 ≤ (s.hop h).words.length → (s.region (h / 8)).gate = true → Does c s (fun t => Answered id .quarantined s t ∧ Only [.flights] s t)))) ∧
  (∀ (h : Fin 256) (ch : Nat) (t0 : Tok) (s : State), s.chanInto (epHop (h / 8) (h % 8) false) = some ch → (s.chan ch).last = some t0 →
    s.hopPStream h = true →
    ((s.hop h).words.length < 64 → Does (.hopperPush ⟨.stream h, 0⟩) s (fun t => t.chan ch = (s.chan ch).pop ∧ (∀ k, k ≠ ch → t.chan k = s.chan k) ∧
      (t.hop h).words = (s.hop h).words ++ [⟨t0.d, t0.p, t0.f || (s.hop h).fpend, false⟩] ∧ (t.hop h).fpend = false ∧ (∀ j, j ≠ h.val → t.hop j = s.hop j) ∧
      Only [.free, .regs, .chans, .hops, .pins, .codePend] s t)) ∧
    (∀ bad, bad ≠ 0 → (s.hop h).words.length < 64 → Does (.hopperPush ⟨.stream h, bad⟩) s (fun t => t.chan ch = (s.chan ch).pop ∧
      (∃ w : HWord, w.p = true ∧ (t.hop h).words = (s.hop h).words ++ [w]) ∧ t.rb (meshReg (h / 8) 0) 30 = true)) ∧
    (∀ bad, 64 ≤ (s.hop h).words.length → exec (.hopperPush ⟨.stream h, bad⟩) s = .next s)) ∧
  (∀ (id h : Nat) (f : Flight) (hits : BitVec 35) (glitch : Bool) (s : State), s.hopAccess id .read true = some (f, h) →
    let k := s.hop h
    let w := (nth {} k.words k.cur).hit hits
    (f.poison = true → Does (.hopperPop id hits glitch) s (fun t => Answered id (.word { p := true }) s t ∧ t.rb (hopReg h 8) 29 = true ∧
      t.rb tnkPalarm (h / 8) = true ∧ t.hops = s.hops)) ∧
    (f.poison = false → s.hopCStream h = true → Does (.hopperPop id hits glitch) s (fun t => Answered id (.word {}) s t ∧
      t.rf (hopReg h 0x18) 0 16 = min 0xFFFF (s.rf (hopReg h 0x18) 0 16 + 1) ∧ KeepRegs [hopReg h 0x18] s t ∧ t.hops = s.hops)) ∧
    (f.poison = false → s.hopCStream h = false → f.w = .b32 → f.quiet = true →
      (k.cur < k.words.length → Does (.hopperPop id hits glitch) s (fun t => Answered id (.word ⟨w.d, w.p || w.bad, w.f⟩) s t ∧
        t.hop h = { k with words := k.words.set k.cur w } ∧ (∀ j, j ≠ h → t.hop j = s.hop j) ∧ Only [.flights, .hops] s t)) ∧
      (k.words.length ≤ k.cur → Does (.hopperPop id hits glitch) s (fun t => Answered id (.word {}) s t ∧ Only [.flights] s t))) ∧
    (f.poison = false → s.hopCStream h = false → f.w = .b32 → f.quiet = false → f.iss = .debug → k.words.length ≤ k.cur →
      Does (.hopperPop id hits glitch) s (fun t => Answered id (.word {}) s t ∧ Only [.flights] s t)) ∧
    (f.poison = false → s.hopCStream h = false → f.w = .b32 → f.quiet = false → (f.iss = .debug → k.cur < k.words.length) →
      (k.pops = [] → k.cur < k.words.length → Does (.hopperPop id hits glitch) s (fun t => Answered id (.word ⟨w.d, w.p || w.bad, w.f⟩) s t ∧
        HopDelivers s t h w glitch ∧ Only [.free, .regs, .flights, .hops, .pins] s t)) ∧
      (k.pops ≠ [] ∨ k.words.length ≤ k.cur →
        ((s.region (h / 8)).gate = true → Does (.hopperPop id hits glitch) s (fun t => Answered id .quarantined s t ∧ Only [.flights] s t)) ∧
        ((s.region (h / 8)).gate = false → k.pops.length < 4 → Does (.hopperPop id hits glitch) s (fun t => t.hop h = { k with pops := k.pops ++ [id] } ∧
          (∀ j, j ≠ h → t.hop j = s.hop j) ∧ Only [.hops] s t)) ∧
        ((s.region (h / 8)).gate = false → 4 ≤ k.pops.length → exec (.hopperPop id hits glitch) s = .next s)))) ∧
  (∀ (h : Fin 256) (hits : BitVec 35) (glitch : Bool) (s : State),
    let k := s.hop h
    let w := (nth {} k.words k.cur).hit hits
    (k.pops = [] ∨ k.words.length ≤ k.cur → exec (.pendingPopServed h hits glitch) s = .next s) ∧
    (∀ id rest, k.pops = id :: rest → k.cur < k.words.length → Does (.pendingPopServed h hits glitch) s (fun t =>
      Answered id (.word ⟨w.d, w.p || w.bad, w.f⟩) s t ∧ (t.hop h).pops = rest ∧ HopDelivers s t h w glitch ∧ Only [.free, .regs, .flights, .hops, .pins] s t))) ∧
  (∀ (h : Fin 256) (hits : BitVec 35) (glitch : Bool) (s : State) (rest : List (Option Tok)), let key := chKey (epHop (h / 8) (h % 8) true)
    let w := (nth {} (s.hop h).words (s.hop h).cur).hit hits
    s.hopCStream h = true → (s.hop h).cur < (s.hop h).words.length → (s.chan key).stages = none :: rest → (s.chan key).broken = false →
    Does (.tokenMove (.hopOut h hits glitch) 0) s (fun t => (t.chan key).stages = some ⟨w.d, w.p || w.bad, w.f⟩ :: rest ∧ HopDelivers s t h w glitch ∧
      (∀ c, c ≠ key → t.chan c = s.chan c)))

namespace Sys2Proof

/-- The commands a write to POP carries (R206), with their CMD. -/
def hopCmds : List (Nat × (Nat → Instr)) :=
  [(0, .hopperCmdNop), (1, .hopperMark), (2, .rewind), (3, .release), (4, .releasem), (5, fun id => .flush (.flight id)), (6, .hopperReservedCmd), (15, .hopperReservedCmd)]

/-- A command word at the POP port of hopper h, with nothing of its issuer's waiting ahead of it (R207), not poisoned, on an ACCESS side. -/
def AtPop (s : State) (id h cmd : Nat) (f : Flight) : Prop :=
  s.hopAccess id .write true = some (f, h) ∧ fld f.data.d 28 4 = cmd ∧
  ((s.hop h).pops.any (fun i => match s.flight i with | some x => x.iss == f.iss | none => false)) = false ∧
  f.poison = false ∧ s.hopCStream h = false ∧ f.w = .b32

/-- R205, R209, R210: hopper h holds no word and no mark; its counts start again, the next word pushed gets F = 1, and FLUSHED and FLUSHCNT say so. -/
def Flushed (s t : State) (h : Nat) : Prop :=
  (t.hop h).words = [] ∧ (t.hop h).cur = 0 ∧ (t.hop h).mpos = 0 ∧ (t.hop h).fpend = true ∧ (t.hop h).high = false ∧ (t.hop h).pops = (s.hop h).pops ∧
  t.rb (hopReg h 8) 26 = true ∧ t.rf (hopReg h 0x14) 16 8 = min 255 (s.rf (hopReg h 0x14) 16 8 + 1) ∧ (∀ j, j ≠ h → t.hop j = s.hop j) ∧
  Only [.free, .regs, .flights, .hops, .pins] s t

end Sys2Proof

/-- R204 to R206, R209 to R211, R213, R220: hopper commands (HOPPER_MARK, REWIND, RELEASE, RELEASEM, FLUSH, HOPPER_CMD_NOP, HOPPER_RESERVED_CMD,
HOP_WM_WRITE). In held mode MARK marks CUR, REWIND goes back to the mark, RELEASE and RELEASEM free the words before CUR or before the mark; in plain
mode each of the four is ignored and counted, as a reserved CMD is. FLUSH discards every word, clears the counts and sets FPEND and FLUSHED. A command
with P = 1 is refused with the alarm; one on a STREAM side is counted. HOP_WM is evaluated at once. Commands: HOPPER_MARK, REWIND, RELEASE, RELEASEM,
HOPPER_CMD_NOP, HOPPER_RESERVED_CMD, FLUSH, HOP_WM_WRITE. Choices and readings of the model that it rests on: log entry 124. -/
def Obligations.HopperCommands : Prop :=
  (∀ (id h : Nat) (f : Flight) (s : State), s.hopHeld h = true →
    let k := s.hop h
    let does (c : Instr) (k' : Hop) : Prop := Does c s (fun t => Answered id .done s t ∧ (t.hop h).words = k'.words ∧ (t.hop h).cur = k'.cur ∧
      (t.hop h).mpos = k'.mpos ∧ (t.hop h).pops = k.pops ∧ (t.hop h).fpend = k.fpend ∧ Marked s t h ∧ (∀ j, j ≠ h → t.hop j = s.hop j) ∧
      Only [.free, .regs, .flights, .hops, .pins] s t)
    (AtPop s id h 1 f → does (.hopperMark id) { k with mpos := k.cur }) ∧ (AtPop s id h 2 f → does (.rewind id) { k with cur := k.mpos }) ∧
    (AtPop s id h 3 f → does (.release id) { k with words := k.words.drop k.cur, cur := 0, mpos := 0 }) ∧
    (AtPop s id h 4 f → does (.releasem id) { k with words := k.words.drop k.mpos, cur := k.cur - k.mpos, mpos := 0 })) ∧
  (∀ (id h : Nat) (f : Flight) (s : State), s.hopHeld h = false → ∀ e ∈ hopCmds, 1 ≤ e.1 → e.1 ≤ 4 → AtPop s id h e.1 f →
    Does (e.2 id) s (fun t => Answered id .done s t ∧ t.hops = s.hops ∧ t.rf (hopReg h 0x18) 0 16 = min 0xFFFF (s.rf (hopReg h 0x18) 0 16 + 1) ∧
      KeepRegs [hopReg h 0x18] s t ∧ Only [.free, .regs, .flights, .hops, .pins] s t)) ∧
  (∀ (id h : Nat) (f : Flight) (s : State), AtPop s id h 0 f → Does (.hopperCmdNop id) s (fun t => Answered id .done s t ∧ Only [.flights] s t)) ∧
  (∀ (id h n : Nat) (f : Flight) (s : State), 6 ≤ n → AtPop s id h n f → Does (.hopperReservedCmd id) s (fun t => Answered id .done s t ∧
    t.rf (hopReg h 0x18) 0 16 = min 0xFFFF (s.rf (hopReg h 0x18) 0 16 + 1) ∧ KeepRegs [hopReg h 0x18] s t ∧ Only [.regs, .flights] s t)) ∧
  (∀ (id h : Nat) (f : Flight) (s : State), AtPop s id h 5 f → Does (.flush (.flight id)) s (fun t => Answered id .done s t ∧ Flushed s t h)) ∧
  (∀ (iss : Issuer) (h : Fin 256) (s : State), mgmtIssuer iss = true → Does (.flush (.ctl iss h)) s (fun t => Flushed s t h ∧ t.flights = s.flights)) ∧
  (∀ (iss : Issuer) (h : Fin 256) (v : Word) (s : State), mgmtIssuer iss = true → Does (.hopWmWrite iss h v) s (fun t =>
    t.rf (hopReg h 0xC) 16 7 = fld v 16 7 ∧ t.rf (hopReg h 0xC) 0 7 = fld v 0 7 ∧ Marked s t h ∧ (t.hop h).words = (s.hop h).words ∧
    (∀ j, j ≠ h.val → t.hop j = s.hop j) ∧ Only [.free, .regs, .hops, .pins] s t)) ∧
  (∀ (iss : Issuer) (h : Fin 256) (v : Word) (s : State), mgmtIssuer iss = false →
    exec (.flush (.ctl iss h)) s = .next (s.viol .hop h) ∧ exec (.hopWmWrite iss h v) s = .next (s.viol .hop h)) ∧
  (∀ (id h : Nat) (f : Flight) (s : State), ∀ e ∈ hopCmds, s.hopAccess id .write true = some (f, h) → fld f.data.d 28 4 = e.1 →
    (((s.hop h).pops.any (fun i => match s.flight i with | some x => x.iss == f.iss | none => false)) = true → exec (e.2 id) s = .next s) ∧
    (((s.hop h).pops.any (fun i => match s.flight i with | some x => x.iss == f.iss | none => false)) = false → f.poison = true →
      Does (e.2 id) s (fun t => Answered id .done s t ∧ t.rb (hopReg h 8) 29 = true ∧ t.rb tnkPalarm (h / 8) = true ∧ t.hops = s.hops)))

/-- R251, R253, R264: SUPPLY and PAD_SWITCH_COMPLETE. SUPPLY of a Lit bank is set, its pads are let go, and each region with pins in it gets an alarm; a
bank that is not Lit has no rail to leave its band. At the end of a change of owner the new function takes the pad: it is driven by its pin cell if
that is the owner and nothing holds the drivers off; else what drives it from outside sets it, else its pull, else it stands at the level the keeper
held. R125, R251, R255, R257 to R259, R262: serial groups (SERIAL_FRAME_RECEIVED, ALIGN, SYNCERR, SERIAL_WORD_TRANSMIT, TOKEN_MOVE from a receiving
group). A receiving group that runs notes each header; an aligned one keeps a word (header 0b10), with the frame's P and F, while fewer than two wait,
and loses it, with SOVF, while two do. 16 valid headers in a row align it; four invalid ones in a row end the alignment. Its oldest word enters its
channel while it is aligned and that has room. A transmitting group sends the token at the end of its channel as a word, or an idle frame (header
0b01), which a stopped one sends too; with its drivers off no frame reaches a pad. A group that is off, or of a bank that is not Lit, does nothing.
Commands: SUPPLY, PAD_SWITCH_COMPLETE, SERIAL_FRAME_RECEIVED, ALIGN, SYNCERR, SERIAL_WORD_TRANSMIT, TOKEN_MOVE. Choices and readings of the model that
it rests on: log entries 128, 129, 134, 166, 168, 169. -/
def Obligations.IoBanks : Prop :=
  (
  (∀ (b : Fin 24) (s : State), s.dom (672 + b) = 0 → Does (.supply b) s (fun u => u.rb (bankReg b 0x1C) 31 = true ∧
    (∀ i, i ≠ 31 → u.rb (bankReg b 0x1C) i = s.rb (bankReg b 0x1C) i) ∧ (∀ p : Fin 768, p.val / 32 = b → u.rb tnkAlarm (p.val / 24) = true) ∧
    (∀ r < 32, (∀ p : Fin 768, p.val / 32 = b → p.val / 24 ≠ r) → u.rb tnkAlarm r = s.rb tnkAlarm r) ∧
    (∀ p : Fin 768, p.val / 32 = b → u.padFollows p = false ∧ u.pin p = { s.pin p with pad := (u.pin p).pad } ∧
      ((s.padOf p).coming = none → s.scanned = false → (u.pin p).pad = s.restLevel p)) ∧
    KeepKeys State.pin (fun p => p / 32 = b.val) s u ∧ KeepRegs [bankReg b 0x1C, tnkAlarm] s u ∧ Only [.regs, .pins] s u)) ∧
  (∀ (b : Fin 24) (s : State), s.dom (672 + b) ≠ 0 → exec (.supply b) s = .next s) ∧
  (∀ (p : Fin 768) (s : State) (o : Owner), (s.padOf p).coming = some o → Does (.padSwitchComplete p) s (fun u =>
    u.padOf p = { s.padOf p with owner := o, coming := none } ∧ (∀ q, q ≠ p.val → u.padOf q = s.padOf q ∧ u.pin q = s.pin q) ∧
    u.pin p = { s.pin p with pad := (u.pin p).pad } ∧
    (s.scanned = true → (u.pin p).pad = (s.padOf p).kept) ∧
    (s.scanned = false → (∀ l, u.cellDrives p = some l → (u.pin p).pad = l) ∧
      (u.cellDrives p = none → (∀ l, (s.pin p).ext = some l → (u.pin p).pad = l) ∧
        ((s.pin p).ext = none → ¬ (s.pairKind p ≠ 0 ∧ p.val % 2 = 0 ∧ s.rb (bankReg (p / 32) 8) (p % 32 / 2) = true) →
          (u.pin p).pad = (if s.dom (672 + p / 32) ≠ 0 then (s.padOf p).kept else if u.pullOf p = 1 then true else if u.pullOf p = 2 then false else (s.padOf p).kept)))) ∧
    KeepRegs [] s u ∧ Only [.pins, .pads] s u)) ∧
  (∀ (p : Fin 768) (s : State), (s.padOf p).coming = none → exec (.padSwitchComplete p) s = .next s)) ∧
  (
  (∀ (n : Fin 48) (f : BitVec 36) (s : State), s.groupRuns n false = true →
    let g := s.group n
    let h := fld f 34 2
    let becomes (k : Group) : Prop := Does (.serialFrameReceived n f) s (fun u => u.group n = k ∧ (∀ m, m ≠ n.val → u.group m = s.group m) ∧ KeepRegs [] s u ∧ Only [.regs, .groups] s u)
    (h = 0 ∨ h = 3 → becomes { g with valid := 0, invalid := g.invalid + 1 }) ∧
    (h = 1 ∨ (h = 2 ∧ s.aligned n = false) → becomes { g with valid := g.valid + 1, invalid := 0 }) ∧
    (h = 2 → s.aligned n = true → g.rx.length < 2 →
      becomes { g with valid := g.valid + 1, invalid := 0, rx := g.rx ++ [{ d := f.extractLsb' 0 32, p := bit f 33, f := bit f 32 }] }) ∧
    (h = 2 → s.aligned n = true → 2 ≤ g.rx.length → Does (.serialFrameReceived n f) s (fun u =>
      u.group n = { g with valid := g.valid + 1, invalid := 0 } ∧ (∀ m, m ≠ n.val → u.group m = s.group m) ∧ u.rb (bankReg (n / 2) 0x1C) (29 + n % 2) = true ∧
      u.rf (bankReg (n / 2) 0x20) 0 8 = min 255 (s.rf (bankReg (n / 2) 0x20) 0 8 + 1) ∧
      KeepRegs [bankReg (n / 2) 0x1C, bankReg (n / 2) 0x20] s u ∧ Only [.regs, .groups] s u))) ∧
  (∀ (n : Fin 48) (s : State), s.groupRuns n false = true →
    (16 ≤ (s.group n).valid → Does (.align n) s (fun u => u.aligned n = true ∧ (∀ i, i ≠ n % 2 → u.rb (bankReg (n / 2) 0x1C) i = s.rb (bankReg (n / 2) 0x1C) i) ∧
      KeepRegs [bankReg (n / 2) 0x1C] s u ∧ Only [.regs] s u)) ∧
    ((s.group n).valid < 16 → exec (.align n) s = .next s) ∧
    (s.aligned n = true → 4 ≤ (s.group n).invalid → Does (.syncerr n) s (fun u => u.aligned n = false ∧ u.rb (bankReg (n / 2) 0x1C) (27 + n % 2) = true ∧
      u.rf (bankReg (n / 2) 0x20) 8 8 = min 255 (s.rf (bankReg (n / 2) 0x20) 8 8 + 1) ∧
      KeepRegs [bankReg (n / 2) 0x1C, bankReg (n / 2) 0x20] s u ∧ Only [.regs] s u)) ∧
    (s.aligned n = false ∨ (s.group n).invalid < 4 → exec (.syncerr n) s = .next s)) ∧
  (∀ (n : Fin 48) (bad : BitVec 17) (s : State),
    let sends : Prop := s.groupOn n = true ∧ (s.serCfg n).testBit 14 = true ∧ s.dom (672 + n / 2) = 0
    let reaches : Prop := s.driversOn (groupPin n + 2) = true ∧ s.lowPair (groupPin n + 2) = false
    (¬ sends → exec (.serialWordTransmit ⟨n, bad⟩) s = .next s) ∧
    (∀ ch t, sends → (s.region (groupRegion n)).out = true → s.chanInto (epGroup n) = some ch → (s.chan ch).last = some t →
      Does (.serialWordTransmit ⟨n, bad⟩) s (fun u => u.chan ch = (s.chan ch).pop ∧ (∀ k, k ≠ ch → u.chan k = s.chan k) ∧ (∀ m, m ≠ n.val → u.group m = s.group m) ∧
        u.group n = { s.group n with sent := (u.group n).sent } ∧ (¬ reaches → (u.group n).sent = none) ∧
        (reaches → ∃ f : BitVec 36, (u.group n).sent = some f ∧ fld f 34 2 = 2 ∧ (bad = 0 → bit f 33 = t.p ∧ bit f 32 = t.f ∧ f.extractLsb' 0 32 = t.d) ∧
          (bad ≠ 0 → bit f 33 = true)) ∧
        (bad = 0 → Only [.regs, .chans, .groups, .codePend] s u))) ∧
    (sends → (s.region (groupRegion n)).out = false ∨ (∀ ch, s.chanInto (epGroup n) = some ch → (s.chan ch).last = none) →
      Does (.serialWordTransmit ⟨n, bad⟩) s (fun u => u.group n = { s.group n with sent := (u.group n).sent } ∧ (¬ reaches → (u.group n).sent = none) ∧
        (reaches → ∃ f : BitVec 36, (u.group n).sent = some f ∧ fld f 34 2 = 1) ∧ (∀ m, m ≠ n.val → u.group m = s.group m) ∧ Only [.free, .groups] s u))) ∧
  (∀ (n : Fin 48) (f : BitVec 36) (s : State), s.groupRuns n false = false →
    exec (.serialFrameReceived n f) s = .next s ∧ exec (.align n) s = .next s ∧ exec (.syncerr n) s = .next s) ∧
  (∀ (b : Fin 24) (g : Fin 2) (bad : BitVec 17) (s : State), s.aligned (2 * b.val + g.val) = false → exec (.tokenMove (.serial b g) bad) s = .next s) ∧
  (∀ (b : Fin 24) (g : Fin 2) (s : State) (t : Tok) (rest : List Tok) (more : List (Option Tok)),
    let n := 2 * b.val + g.val
    let key := chKey (epGroup n)
    s.aligned n = true → (s.group n).rx = t :: rest → (s.chan key).stages = none :: more → (s.chan key).broken = false →
    Does (.tokenMove (.serial b g) 0) s (fun u => u.group n = { s.group n with rx := rest } ∧ (u.chan key).stages = some t :: more ∧
      (∀ k, k ≠ key → u.chan k = s.chan k) ∧ (∀ m, m ≠ n → u.group m = s.group m))))

namespace Sys2Proof

/-- The actions of R225 with their ACT. -/
def pinActs : List (Nat × (Fin 768 → Instr)) :=
  [(0, .markNop), (1, .markLow), (2, .markHigh), (3, .markToggle), (4, .markFloat), (5, .markPark), (8, .wopen), (9, .wclose), (10, .cancel)]

/-- R222: the pin cell takes pairs of this action; in Off and Flow it discards every pair, in Capture all but window pairs. -/
def takesPair (fn act : Nat) : Bool := fn == 1 || fn == 3 || (fn == 2 && (act == 8 || act == 9))

/-- The pin cells other than p are as they were, but that the pad of p's complement follows where p is the true pin of a DIFF pair (R255). -/
def OthersStay (s u : State) (p : Nat) : Prop :=
  ∀ q, q ≠ p → u.pin q = { s.pin q with pad := (u.pin q).pad } ∧ (¬ (s.pairKind p = 1 ∧ q = p + 1) → u.pin q = s.pin q)

end Sys2Proof

/-- R222 to R226, R234, R243 to R245: a pair at MT and MC (MARK_NOP, MARK_LOW, MARK_HIGH, MARK_TOGGLE, MARK_FLOAT, MARK_PARK, WOPEN, WCLOSE, CANCEL,
MARK_RESERVED_ACT, POISONED_PAIR, and TOKEN_MOVE into a pin cell). A clean one is consumed. LOW, HIGH, TOGGLE, FLOAT and PARK arm a mark behind the
others, unless FPARK discards it or an invalid line with PARKINV discards and counts it; NOP does nothing, WOPEN stages a bound, WCLOSE commits both
bounds, CANCEL discards every armed mark, a reserved ACT is counted. A function that takes no such pair discards and counts it. A poisoned pair parks
the pin, discards its marks, sets POISON and raises the alarm. With no pair, or another action, nothing happens. Commands: MARK_RESERVED_ACT,
POISONED_PAIR, TOKEN_MOVE, MARK_NOP, MARK_LOW, MARK_HIGH, MARK_TOGGLE, MARK_FLOAT, MARK_PARK, WOPEN, WCLOSE, CANCEL. Choices and readings of the model
that it rests on: log entry 29. -/
def Obligations.MarkPairs : Prop :=
  (∀ (p : Fin 768) (s : State) (t m : Tok), s.pairAt p = some (t, m) → t.p = false → m.p = false → ∀ e ∈ pinActs, actOf m = e.1 →
    let c := s.pin p
    let eaten : Pin := { c with mt := none, mc := none }
    let becomes (k : Pin) : Prop := Does (e.2 p) s (fun u => u.pin p = k ∧ (∀ q, q ≠ p.val → u.pin q = s.pin q) ∧ KeepRegs [] s u ∧ Only [.regs, .pins] s u)
    (takesPair (s.pinFunc p) e.1 = false → Does (e.2 p) s (fun u => u.pin p = eaten ∧ u.rf (pinReg p 0x24) 0 16 = min 0xFFFF (s.rf (pinReg p 0x24) 0 16 + 1) ∧
      KeepRegs [pinReg p 0x24] s u ∧ (∀ q, q ≠ p.val → u.pin q = s.pin q) ∧ Only [.regs, .pins] s u)) ∧
    (takesPair (s.pinFunc p) e.1 = true →
      (e.1 = 0 → becomes eaten) ∧ (e.1 = 8 → becomes { eaten with staged := some t.d }) ∧
      (e.1 = 9 → becomes { eaten with wopen := c.staged.getD c.wopen, wclose := t.d, staged := none }) ∧ (e.1 = 10 → becomes { eaten with q := [] }) ∧
      (1 ≤ e.1 → e.1 ≤ 5 →
        (s.fparked p = true → becomes eaten) ∧
        (s.fparked p = false → s.rb (pinReg p 0) 22 = true → (s.pinLine p).valid = false → Does (e.2 p) s (fun u => u.pin p = eaten ∧
          u.rf (pinReg p 0x20) 24 8 = min 255 (s.rf (pinReg p 0x20) 24 8 + 1) ∧ KeepRegs [pinReg p 0x20] s u ∧ Only [.regs, .pins] s u)) ∧
        (s.fparked p = false → s.rb (pinReg p 0) 22 = false ∨ (s.pinLine p).valid = true →
          becomes { eaten with q := c.q ++ [⟨t.d, m.d.setWidth 16, false⟩] })))) ∧
  (∀ (p : Fin 768) (s : State) (t m : Tok), s.pairAt p = some (t, m) → t.p = false → m.p = false → actOf m = 6 ∨ actOf m = 7 ∨ 10 < actOf m →
    Does (.markReservedAct p) s (fun u => u.pin p = { s.pin p with mt := none, mc := none } ∧
      u.rf (pinReg p 0x24) 0 16 = min 0xFFFF (s.rf (pinReg p 0x24) 0 16 + 1) ∧ KeepRegs [pinReg p 0x24] s u ∧ Only [.regs, .pins] s u)) ∧
  (∀ (p : Fin 768) (s : State) (t m : Tok), s.pairAt p = some (t, m) → t.p = true ∨ m.p = true →
    (s.pinFunc p = 1 ∨ s.pinFunc p = 3 → Does (.poisonedPair p) s (fun u => (u.pin p).mt = none ∧ (u.pin p).mc = none ∧ (u.pin p).q = [] ∧
      (u.pin p).drv = s.parkOf p ∧ (u.pin p).parked = true ∧ (u.pin p).wopen = (s.pin p).wopen ∧ (u.pin p).wclose = (s.pin p).wclose ∧
      (u.pin p).staged = (s.pin p).staged ∧ u.rb (pinReg p 8) 31 = true ∧ u.rf (pinReg p 0x20) 0 8 = min 255 (s.rf (pinReg p 0x20) 0 8 + 1) ∧
      u.rb tnkPalarm (pinRegion p) = true ∧ OthersStay s u p ∧ Only [.free, .regs, .pins] s u)) ∧
    (s.pinFunc p = 0 ∨ s.pinFunc p = 4 ∨ (s.pinFunc p = 2 ∧ actOf m ≠ 8 ∧ actOf m ≠ 9) → Does (.poisonedPair p) s (fun u => u.pin p = { s.pin p with mt := none, mc := none } ∧
      u.rf (pinReg p 0x24) 0 16 = min 0xFFFF (s.rf (pinReg p 0x24) 0 16 + 1) ∧ KeepRegs [pinReg p 0x24] s u ∧ Only [.regs, .pins] s u)) ∧
    (s.pinFunc p = 2 → actOf m = 8 ∨ actOf m = 9 → Does (.poisonedPair p) s (fun u => u.pin p = { s.pin p with mt := none, mc := none, q := [] } ∧
      u.rb (pinReg p 8) 31 = true ∧ u.rb tnkPalarm (pinRegion p) = true ∧ Only [.regs, .pins] s u)) ∧
    (∀ e ∈ pinActs, exec (e.2 p) s = .next s)) ∧
  (∀ (p : Fin 768) (s : State), s.pairAt p = none → (∀ e ∈ pinActs, exec (e.2 p) s = .next s) ∧ exec (.poisonedPair p) s = .next s ∧ exec (.markReservedAct p) s = .next s) ∧
  (∀ (p : Fin 768) (mc : Bool) (s : State) (ch : Nat) (t : Tok), s.chanInto (epPin (pinRegion p) (p % 24) (b2n mc)) = some ch → (s.chan ch).last = some t →
    (s.region (pinRegion p)).out = true → (if mc then (s.pin p).mc else (s.pin p).mt) = none →
    Does (.tokenMove (.pin p mc) 0) s (fun u => u.pin p = (if mc then { s.pin p with mc := some t } else { s.pin p with mt := some t }) ∧
      u.chan ch = (s.chan ch).pop ∧ (∀ q, q ≠ p.val → u.pin q = s.pin q) ∧ (∀ k, k ≠ ch → u.chan k = s.chan k)))

namespace Sys2Proof

/-- R232: the head mark leaves the queue and its edge is placed at grid position `pos`, or 1.0 ns (four points) after the edge before, with CROWD;
the pin drives what its ACT says (R225). -/
def Fires (s u : State) (p : Nat) (h : Mark) (pos : Nat) : Prop :=
  let c := s.pin p
  let lim := match c.edge with | some e => e + 4 | none => 0
  (u.pin p).q = c.q.drop 1 ∧ (u.pin p).edge = some (max pos lim) ∧ (pos < lim → u.rb (pinReg p 8) 27 = true) ∧
  (u.pin p).drv = (match fld h.cmd 12 4 with | 1 => .low | 2 => .high | 3 => if c.lvl then .low else .high | 4 => .float | _ => s.parkOf p) ∧
  OthersStay s u p

end Sys2Proof

/-- R226 to R233, R237: MARK_EVALUATION: the evaluation of the head mark of a released Mark pin. An immediate mark acts at the next placement opportunity;
a target that the interval's sweep reaches, in a direction DIR allows, acts at the grid point of the crossing; one that lies behind at its first
evaluation, or in the range a jump skipped, is passed, sets LATE, and is dropped and counted, or acts at once with LATE = 1. With GATE = 1 a mark that
acts outside the committed window is dropped with GATED. Any other mark waits. Commands: MARK_EVALUATION. Choices and readings of the model that it
rests on: log entries 12, 125, 165. -/
def Obligations.MarkEvaluations : Prop := ∀ (p : Fin 768) (m : Fin 20) (s : State),
  let c := s.pin p
  let f := s.pinLine p
  let k := (s.spineOf (pinRegion p)).interval
  let acts (h : Mark) (x : Word) (pos : Nat) : Prop :=
    (bit h.cmd 7 = false ∨ s.inWindow p x = true → Does (.markEvaluation p m) s (fun u => Fires s u p h pos ∧ Only [.regs, .pins] s u)) ∧
    (bit h.cmd 7 = true → s.inWindow p x = false → Does (.markEvaluation p m) s (fun u => u.pin p = { c with q := c.q.drop 1 } ∧ u.rb (pinReg p 8) 28 = true ∧
      (∀ q, q ≠ p.val → u.pin q = s.pin q) ∧ Only [.regs, .pins] s u))
  ((s.region (pinRegion p)).out = false ∨ (s.pinFunc p ≠ 1 ∧ s.pinFunc p ≠ 3) ∨ c.q = [] → exec (.markEvaluation p m) s = .next s) ∧
  (∀ h rest, (s.region (pinRegion p)).out = true → s.pinFunc p = 1 ∨ s.pinFunc p = 3 → c.q = h :: rest →
    let jumped := f.skipped (s.pinLinePrev p) h.target h.cmd
    let late := !h.seen && dirAllows h.cmd f.dir && f.behind h.target
    let d := halfRange 40 (256 * (h.target.toNat : Int) - (f.ph.toNat : Int))
    (bit h.cmd 11 = true → acts h (f.ph.extractLsb' 8 32) (k * 20 + m.val)) ∧
    (bit h.cmd 11 = false → f.valid = false → exec (.markEvaluation p m) s = .next s) ∧
    (bit h.cmd 11 = false → f.valid = true →
      (jumped = true ∨ late = true →
        (bit h.cmd 10 = true → acts h h.target (k * 20 + (if jumped then 0 else m.val))) ∧
        (bit h.cmd 10 = false → Does (.markEvaluation p m) s (fun u => u.pin p = { c with q := rest } ∧ u.rb (pinReg p 8) 29 = true ∧
          u.rf (pinReg p 0x20) 24 8 = min 255 (s.rf (pinReg p 0x20) 24 8 + 1) ∧ KeepRegs [pinReg p 8, pinReg p 0x20] s u ∧ Only [.regs, .pins] s u))) ∧
      (jumped = false → late = false →
        (∀ g : Nat, 0 < f.step.toInt → dirAllows h.cmd false = true → 0 ≤ d → d < f.step.toInt → (g : Int) * f.step.toInt ≥ 20 * d → ((g : Int) - 1) * f.step.toInt < 20 * d →
          acts h h.target (k * 20 + g)) ∧
        (∀ g : Nat, f.step.toInt < 0 → dirAllows h.cmd true = true → d ≤ 0 → f.step.toInt < d → (g : Int) * f.step.toInt ≤ 20 * d → ((g : Int) - 1) * f.step.toInt > 20 * d →
          acts h h.target (k * 20 + g)) ∧
        (dirAllows h.cmd (decide (f.step.toInt < 0)) = false ∨ f.reach h.target = none →
          Does (.markEvaluation p m) s (fun u => u.pin p = { c with q := { h with seen := true } :: rest } ∧ KeepRegs [] s u ∧ Only [.regs, .pins] s u)))))

/-- R222, R225, R234, R236, R238 to R242, R245, R248, R253, R264: captures, and the pin cell's controls (CAPTURE_EDGE, FPARK, PIN_CTL_CANCEL, WCLR, and
TOKEN_MOVE from CAP). An edge that CEDGE selects, inside the window if WEN is set, is stamped at its grid point, rounded down, and waits for CAP as
CFMT says, with the next SEQ; with four waiting it is lost and counted; on an invalid line it delivers 0 with P = 1. During a change of the pad's
owner nothing is captured. FPARK parks the pin and discards its marks, and cleared gives a Capture or Flow pin its pad back; CANCEL discards them;
WCLR commits an empty window. Commands: CAPTURE_EDGE, TOKEN_MOVE, FPARK, PIN_CTL_CANCEL, WCLR. Choices and readings of the model that it rests on: log
entries 126, 134, 137, 165, 168, 176. -/
def Obligations.CapturesAndControls : Prop :=
  (∀ (p : Fin 768) (level : Bool) (n : Fin 20) (before slow : Bool) (ext : Option Bool) (s : State),
    let c : Pin := { s.pin p with pad := level, ext := ext }
    let f := s.pinLine p
    let stamp (x : LFrame) (k : Nat) : Word := BitVec.ofInt 32 ((20 * (x.ph.toNat : Int) + x.step.toInt * k) / 5120)
    let ts : Word := if before then (if n.val = 0 then stamp (s.pinLinePrev p) 19 else stamp f (n.val - 1)) else stamp f n.val
    let wanted : Prop := (s.region (pinRegion p)).out = true ∧ (s.pinFunc p = 2 ∨ s.pinFunc p = 3) ∧ (s.rf (pinReg p 0) 20 2).testBit (if level then 0 else 1) = true ∧
      (s.padOf p).coming = none
    let tells (u : State) : Prop := slow = true → u.rb (pinReg p 8) 25 = true ∧ u.rf (pinReg p 0x20) 16 8 = min 255 (s.rf (pinReg p 0x20) 16 8 + 1)
    (¬ wanted → Does (.captureEdge p ⟨level, ext⟩ n before slow) s (fun u => u.pin p = c ∧ KeepRegs [] s u ∧ (∀ q, q ≠ p.val → u.pin q = s.pin q) ∧ Only [.pins] s u)) ∧
    (wanted → f.valid = true → s.inWindow p ts = false → Does (.captureEdge p ⟨level, ext⟩ n before slow) s (fun u => u.pin p = c ∧ tells u ∧ (slow = false → KeepRegs [] s u) ∧
      (∀ q, q ≠ p.val → u.pin q = s.pin q) ∧ Only [.regs, .pins] s u)) ∧
    (wanted → f.valid = true → s.inWindow p ts = true → 4 ≤ c.caps.length → Does (.captureEdge p ⟨level, ext⟩ n before slow) s (fun u =>
      u.pin p = { c with seq := (c.seq + 1) % 64 } ∧ tells u ∧ u.rb (pinReg p 8) 26 = true ∧
      u.rf (pinReg p 0x20) 8 8 = min 255 (s.rf (pinReg p 0x20) 8 8 + 1) ∧ Only [.regs, .pins] s u)) ∧
    (wanted → f.valid = true → s.inWindow p ts = true → c.caps.length < 4 → Does (.captureEdge p ⟨level, ext⟩ n before slow) s (fun u =>
      u.pin p = { c with seq := (c.seq + 1) % 64, caps := c.caps ++ [(ts, captureTokens (s.rf (pinReg p 0) 18 2) ts level slow ((c.seq + 1) % 64))] } ∧
      tells u ∧ (slow = false → KeepRegs [] s u) ∧
      Only [.regs, .pins] s u)) ∧
    (wanted → f.valid = false → 4 ≤ c.caps.length → Does (.captureEdge p ⟨level, ext⟩ n before slow) s (fun u => u.pin p = { c with seq := (c.seq + 1) % 64 } ∧
      u.rb (pinReg p 8) 30 = true ∧ u.rb (pinReg p 8) 26 = true ∧ u.rf (pinReg p 0x20) 8 8 = min 255 (s.rf (pinReg p 0x20) 8 8 + 1))) ∧
    (wanted → f.valid = false → c.caps.length < 4 → Does (.captureEdge p ⟨level, ext⟩ n before slow) s (fun u => u.rb (pinReg p 8) 30 = true ∧
      (u.pin p).seq = (c.seq + 1) % 64 ∧ (∃ l, (u.pin p).caps = c.caps ++ [(0, l)] ∧ l ≠ [] ∧ ∀ t ∈ l, t = { p := true })))) ∧
  (∀ (ts : Word) (level amb : Bool) (seq : Nat), seq < 64 → let tag : Word := BitVec.ofNat 32 (b2n amb * 2 ^ 31 + b2n level * 2 ^ 30 + seq * 2 ^ 24)
    captureTokens 0 ts level amb seq = [{ d := ts }] ∧ captureTokens 1 ts level amb seq = [{ d := tag ||| (ts &&& 0xFFFFFF#32) }] ∧
    captureTokens 2 ts level amb seq = [{ d := ts }, { d := tag }] ∧ captureTokens 3 ts level amb seq = [{ d := ts }]) ∧
  (∀ (p : Fin 768) (s : State) (ts : Word) (t : Tok) (more : List Tok) (rest : List (Word × List Tok)) (st : List (Option Tok)),
    let key := chKey (epPin (pinRegion p) (p % 24) 2)
    (s.pin p).caps = (ts, t :: more) :: rest → (s.chan key).stages = none :: st → (s.chan key).broken = false →
    Does (.tokenMove (.cap p) 0) s (fun u => (u.chan key).stages = some t :: st ∧ u.rget (pinReg p 0x1C) = ts.setWidth 64 ∧
      (u.pin p).caps = (if more = [] then rest else (ts, more) :: rest) ∧ KeepRegs [pinReg p 0x1C, tnkErr (pinRegion p)] s u ∧ (∀ k, k ≠ key → u.chan k = s.chan k))) ∧
  (∀ (iss : Issuer) (p : Fin 768) (on : Bool) (s : State), mgmtIssuer iss = true → Does (.fpark iss p on) s (fun u => u.fparked p = on ∧
    (on = true → s.fparked p = false → (u.pin p).q = []) ∧
    (on = true → s.fparked p = false → (s.region (pinRegion p)).out = true → (u.pin p).drv = s.parkOf p ∧ (u.pin p).parked = true) ∧
    (on = s.fparked p ∨ (on = false ∧ ((s.region (pinRegion p)).out = false ∨ (s.pin p).inv = true)) → u.pins = s.pins) ∧
    (on = false → s.fparked p = true → (s.region (pinRegion p)).out = true → (s.pin p).inv = false →
      (s.pinFunc p = 2 → (u.pin p).drv = .float ∧ (u.pin p).parked = false) ∧
      (s.pinFunc p = 4 → (u.pin p).drv = (if (s.pin p).flow then .high else .low) ∧ (u.pin p).parked = false) ∧
      (s.pinFunc p ≠ 2 → s.pinFunc p ≠ 4 → u.pins = s.pins)) ∧
    KeepRegs [pinReg p 4, pinReg p 8] s u ∧ OthersStay s u p ∧ Only [.free, .regs, .pins] s u)) ∧
  (∀ (iss : Issuer) (p : Fin 768) (s : State), mgmtIssuer iss = true →
    Does (.pinCtlCancel iss p) s (fun u => u.pin p = { s.pin p with q := [] } ∧ (∀ q, q ≠ p.val → u.pin q = s.pin q) ∧ KeepRegs [] s u ∧ Only [.regs, .pins] s u) ∧
    Does (.wclr iss p) s (fun u => u.pin p = { s.pin p with wopen := 0, wclose := 0, staged := none } ∧ (∀ q, q ≠ p.val → u.pin q = s.pin q) ∧
      KeepRegs [] s u ∧ Only [.regs, .pins] s u)) ∧
  (∀ (iss : Issuer) (p : Fin 768) (s : State), mgmtIssuer iss = false → (∀ on, exec (.fpark iss p on) s = .next (s.viol .pin p)) ∧
    exec (.pinCtlCancel iss p) s = .next (s.viol .pin p) ∧ exec (.wclr iss p) s = .next (s.viol .pin p))

namespace Sys2Proof

/-- R33: nothing happens but that the violation counter at `g` goes up by one, to at most 0xFFFF. -/
def CountsAt (g : Reg) (s u : State) : Prop :=
  u.rf g 0 16 = min 0xFFFF (s.rf g 0 16 + 1) ∧ (∀ i, 16 ≤ i → u.rb g i = s.rb g i) ∧ KeepRegs [g] s u ∧ Only [.regs] s u

/-- R462: one pulse, with this P, at a ferry `f` whose STAT is `stat`, which is `k` after (`more` names the registers the move itself may touch): it starts a transfer with COUNT = 1, or CNT counts it,
or it is lost with OVERRUN. -/
def Pulsed (s u : State) (f k : Ferry) (stat : Reg) (more : List Reg) (p : Bool) : Prop :=
  (f.xfer = none → k = { f with xfer := some (1, p) } ∧ KeepRegs more s u) ∧
  (f.xfer ≠ none → s.rf stat 0 4 < 15 → k = { f with cntP := f.cntP || p } ∧ u.rf stat 0 4 = s.rf stat 0 4 + 1 ∧ u.rb stat 30 = s.rb stat 30 ∧ KeepRegs (stat :: more) s u) ∧
  (f.xfer ≠ none → s.rf stat 0 4 = 15 → k = f ∧ u.rf stat 0 4 = 15 ∧ u.rb stat 30 = true ∧ KeepRegs (stat :: more) s u)

/-- R462: the transfer of a pulse ferry `f` is accepted: the next starts at once with COUNT = CNT and CNT returns to 0; with CNT = 0 none starts. -/
def NextPulse (s u : State) (f k : Ferry) (stat : Reg) : Prop :=
  (s.rf stat 0 4 = 0 → k = { f with xfer := none, crossed := false }) ∧
  (s.rf stat 0 4 ≠ 0 → k = { f with xfer := some (s.rf stat 0 4, f.cntP), cntP := false, crossed := false }) ∧ u.rf stat 0 4 = 0

end Sys2Proof

/-- R457, R460 to R464: a down-ferry of destination management. TX gives it a word: in latest-value mode it overwrites the held one; else it takes the
last entry or, with no room, sets TXFULL. PULSE counts pulses. What has crossed enters the first stage of its channel once that has room, a count as a
token with data COUNT. A ferry of another destination takes nothing. Writes of other issuers are counted. Commands: TX_WRITE, PULSE_WRITE,
FERRY_TRANSFER_COMPLETE, TOKEN_MOVE, UNSETTLED. Choices and readings of the model that it rests on: log entry 49. -/
def Obligations.DownFerries : Prop :=
  (∀ (iss : Issuer) (n : Fin 128) (v : BitVec 64) (s : State), mgmtIssuer iss = true →
    let f := s.dnf n
    let k := kindOf (s.rget (dnReg n 0)) false
    let t : Tok := { d := v.extractLsb' 0 32, p := bit v 32, f := bit v 33 }
    let mgt : Prop := s.rf (dnReg n 0) 29 2 = 1
    let holds (q : List Tok) : Prop := Does (.txWrite iss n v) s (fun u => u.dnf n = { f with q := q } ∧ (∀ m, m ≠ n.val → u.dnf m = s.dnf m) ∧
      KeepRegs [] s u ∧ Only [.regs, .dns] s u)
    (¬ mgt ∨ k = .off ∨ k = .pulse → exec (.txWrite iss n v) s = .next s) ∧ (mgt → k = .latest → holds [t]) ∧
    (mgt → k = .word ∨ k = .stream → f.q.length < (if k = .word then 1 else 8) → holds (f.q ++ [t])) ∧
    (mgt → k = .word ∨ k = .stream → (if k = .word then 1 else 8) ≤ f.q.length → Does (.txWrite iss n v) s (fun u => u.rb (dnReg n 4) 29 = true ∧
      (∀ i, i ≠ 29 → u.rb (dnReg n 4) i = s.rb (dnReg n 4) i) ∧ KeepRegs [dnReg n 4] s u ∧ Only [.regs] s u)) ∧
    (∀ w : Word, mgt → k = .pulse → bit w 0 = true → Does (.pulseWrite iss n w) s (fun u => Pulsed s u f (u.dnf n) (dnReg n 4) [] false ∧
      (∀ m, m ≠ n.val → u.dnf m = s.dnf m) ∧ Only [.regs, .dns] s u)) ∧
    (∀ w : Word, ¬ mgt ∨ k ≠ .pulse ∨ bit w 0 = false → exec (.pulseWrite iss n w) s = .next s)) ∧
  (∀ (iss : Issuer) (n : Fin 128) (v : BitVec 64) (w : Word) (s : State), mgmtIssuer iss = false →
    Does (.txWrite iss n v) s (CountsAt ⟨.fry, 0, 4⟩ s) ∧ Does (.pulseWrite iss n w) s (CountsAt ⟨.fry, 0, 4⟩ s)) ∧
  (∀ (n : Fin 128) (s : State), (s.dnf n).q ≠ [] ∨ (s.dnf n).xfer ≠ none → Does (.ferryTransferComplete (.dn n)) s (fun u =>
    u.dnf n = { s.dnf n with crossed := true } ∧ (∀ m, m ≠ n.val → u.dnf m = s.dnf m) ∧ Only [.dns] s u)) ∧
  (∀ (n : Fin 128) (s : State) (more : List (Option Tok)),
    let f := s.dnf n
    let key := chKey (epSeam (n.val / 32) (n.val % 32))
    let sends (u : State) (t : Tok) : Prop := (u.chan key).stages = some t :: more ∧ (∀ k, k ≠ key → u.chan k = s.chan k) ∧ (∀ m, m ≠ n.val → u.dnf m = s.dnf m)
    f.crossed = true → kindOf (s.rget (dnReg n 0)) false ≠ .off → (s.chan key).stages = none :: more → (s.chan key).broken = false →
    (∀ x p, f.xfer = some (x, p) → Does (.tokenMove (.down n) 0) s (fun u => sends u { d := BitVec.ofNat 32 x } ∧
      NextPulse s u f (u.dnf n) (dnReg n 4) ∧ KeepRegs [dnReg n 4, tnkErr (n.val / 32 * 8)] s u)) ∧
    (∀ t q, f.xfer = none → f.q = t :: q → Does (.tokenMove (.down n) 0) s (fun u => sends u t ∧ u.dnf n = { f with q := q, crossed := false } ∧ KeepRegs [tnkErr (n.val / 32 * 8)] s u))) ∧
  (∀ (n : Fin 128) (s : State), (s.dnf n).crossed = false → ∀ bad, exec (.tokenMove (.down n) bad) s = .next s) ∧
  (∀ (n : Fin 128) (s : State), (kindOf (s.rget (dnReg n 0)) false = .latest → Does (.unsettled (.dn n)) s (fun u => u.rb (dnReg n 4) 31 = true ∧
      (∀ i, i ≠ 31 → u.rb (dnReg n 4) i = s.rb (dnReg n 4) i) ∧ KeepRegs [dnReg n 4] s u ∧ Only [.regs] s u)) ∧
    (kindOf (s.rget (dnReg n 0)) false ≠ .latest → exec (.unsettled (.dn n)) s = .next s)) ∧
  (∀ (x : Fin 4) (s : State), exec (.ferryTransferComplete (.tap x)) s = .next s ∧ exec (.unsettled (.tap x)) s = .next s)

/-- R457 to R460, R462, R464: an up-ferry. The token at the end of its channel is discarded by an Off ferry, overwrites the held value in latest-value
mode, and waits for room (1 entry, or 8) in a word or stream ferry; a pulse ferry counts it. A clean token of a place that had a code error before
counts one transient error (R125); a token with a code error has P, and a pulse with one starts its transfer with P. A value crosses into RX, with P,
F and VALID, once RX is empty, or at once in latest-value mode; a count likewise, with COUNT. A read of RX pops it, but not in latest-value mode and
not for the debug port. UNSETTLED is set only in latest-value mode. R458, R467: a write to a ferry's CFG from the management complex or the debug
port. It is ignored and counted in FRY_VIOL where the image owns the channel (DEST = 0b10), where it writes DEST = 0b10, where it changes a field
other than EN while EN = 1, and where it names a Tally port that another enabled up-ferry names. Any other write is taken; PORT is held in up-ferries
only and reserved bits stay zero. Other issuers' writes are counted. Commands: UP_FERRY_TOKEN, PULSE_TOKEN, FERRY_TRANSFER_COMPLETE, RX_READ,
UNSETTLED, FERRY_CFG_WRITE. Choices and readings of the model that it rests on: log entry 130. -/
def Obligations.UpFerries : Prop :=
  (
  (∀ (n : Fin 128) (s : State) (ch : Nat) (t : Tok), s.upHead n = some (ch, t) →
    let f := s.upf n
    let k := kindOf (s.rget (upReg n 0)) true
    let takes (c : Instr) (g : Ferry) : Prop := Does c s (fun u => u.chan ch = (s.chan ch).pop ∧ (∀ q, q ≠ ch → u.chan q = s.chan q) ∧ u.upf n = g ∧
      (∀ m, m ≠ n.val → u.upf m = s.upf m) ∧ KeepRegs [tnkErr (n.val / 32 * 8)] s u ∧ Only [.regs, .chans, .ups, .codePend] s u)
    (k = .off → takes (.upFerryToken ⟨n, 0⟩) f) ∧ (k = .latest → takes (.upFerryToken ⟨n, 0⟩) { f with q := [t] }) ∧
    (k = .word ∨ k = .stream → f.q.length < (if k = .word then 1 else 8) → takes (.upFerryToken ⟨n, 0⟩) { f with q := f.q ++ [t] }) ∧
    (k = .word ∨ k = .stream → (if k = .word then 1 else 8) ≤ f.q.length → ∀ bad, exec (.upFerryToken ⟨n, bad⟩) s = .next s) ∧
    (k = .pulse → (∀ bad, exec (.upFerryToken ⟨n, bad⟩) s = .next s) ∧ Does (.pulseToken ⟨n, 0⟩) s (fun u => u.chan ch = (s.chan ch).pop ∧ (∀ q, q ≠ ch → u.chan q = s.chan q) ∧
      Pulsed s u f (u.upf n) (upReg n 4) [tnkErr (n.val / 32 * 8)] t.p ∧ (∀ m, m ≠ n.val → u.upf m = s.upf m) ∧ Only [.regs, .chans, .ups, .codePend] s u) ∧
      (∀ bad, bad ≠ 0 → f.xfer = none → Does (.pulseToken ⟨n, bad⟩) s (fun u => (u.upf n).xfer = some (1, true)))) ∧
    (k ≠ .pulse → ∀ bad, exec (.pulseToken ⟨n, bad⟩) s = .next s)) ∧
  (∀ (n : Fin 128) (s : State), s.upHead n = none → ∀ bad, exec (.upFerryToken ⟨n, bad⟩) s = .next s ∧ exec (.pulseToken ⟨n, bad⟩) s = .next s) ∧
  (∀ (n : Fin 128) (s : State),
    let f := s.upf n
    let k := kindOf (s.rget (upReg n 0)) true
    let rx := upReg n 8
    let c := Instr.ferryTransferComplete (.up n)
    let shows (u : State) (d : Word) (p fl : Bool) (cnt : Nat) : Prop := u.rf rx 0 32 = d.toNat ∧ u.rb rx 32 = p ∧ u.rb rx 33 = fl ∧ u.rb rx 34 = true ∧ u.rf rx 35 4 = cnt ∧
      (∀ m, m ≠ n.val → u.upf m = s.upf m) ∧ Only [.regs, .ups] s u
    (s.rf (upReg n 0) 29 2 ≠ 1 → exec c s = .next s) ∧
    (s.rf (upReg n 0) 29 2 = 1 →
      (∀ t q, f.q = t :: q → k = .latest → Does c s (fun u => shows u t.d t.p t.f 0 ∧ u.upf n = { f with q := [] } ∧ KeepRegs [rx] s u)) ∧
      (∀ t q, f.q = t :: q → k = .word ∨ k = .stream → s.rb rx 34 = false → Does c s (fun u => shows u t.d t.p t.f 0 ∧ u.upf n = { f with q := q } ∧ KeepRegs [rx] s u)) ∧
      (∀ x p, x < 16 → f.xfer = some (x, p) → k = .pulse → s.rb rx 34 = false →
        Does c s (fun u => shows u 0 p false x ∧ NextPulse s u f (u.upf n) (upReg n 4) ∧ KeepRegs [rx, upReg n 4] s u)) ∧
      (k ≠ .latest → s.rb rx 34 = true → exec c s = .next s))) ∧
  (∀ (iss : Issuer) (n : Fin 128) (s : State), Does (.rxRead iss n) s (fun u => u.rdata = s.rget (upReg n 8) ∧ KeepRegs [upReg n 8] s u ∧ Only [.regs, .rdata] s u ∧
    u.rget (upReg n 8) = (if iss = .debug ∨ kindOf (s.rget (upReg n 0)) true = .latest then s.rget (upReg n 8) else 0))) ∧
  (∀ (n : Fin 128) (s : State), (kindOf (s.rget (upReg n 0)) true = .latest → Does (.unsettled (.up n)) s (fun u => u.rb (upReg n 4) 31 = true ∧
      (∀ i, i ≠ 31 → u.rb (upReg n 4) i = s.rb (upReg n 4) i) ∧ KeepRegs [upReg n 4] s u ∧ Only [.regs] s u)) ∧
    (kindOf (s.rget (upReg n 0)) true ≠ .latest → exec (.unsettled (.up n)) s = .next s))) ∧
  (
  (∀ (iss : Issuer) (n : Fin 128) (v : Word) (s : State), mgmtIssuer iss = true →
    let fits (g : Reg) (mask : RegVal) : Prop := s.rf g 29 2 ≠ 2 ∧ fld v 29 2 ≠ 2 ∧
      (s.rb g 31 = true → ∀ i, i ≠ 31 → s.rb g i = bit (v.setWidth 64 &&& mask) i)
    let named : Prop := fld v 29 2 = 3 ∧ ∃ m : Fin 128, m ≠ n ∧ s.rb (upReg m 0) 31 = true ∧ s.rf (upReg m 0) 29 2 = 3 ∧ s.rf (upReg m 0) 16 4 = fld v 16 4
    let upd (w : FerryRef) (g : Reg) (mask : RegVal) : Prop := Does (.ferryCfgWrite iss w v) s (fun u => u.rget g = v.setWidth 64 &&& mask ∧ KeepRegs [g] s u ∧ Only [.regs] s u)
    (fits (upReg n 0) 0xFC0F0000 → ¬ named → upd (.up n) (upReg n 0) 0xFC0F0000) ∧
    (¬ fits (upReg n 0) 0xFC0F0000 ∨ named → Does (.ferryCfgWrite iss (.up n) v) s (CountsAt ⟨.fry, 0, 4⟩ s)) ∧
    (fits (dnReg n 0) 0xFC000000 → upd (.dn n) (dnReg n 0) 0xFC000000) ∧
    (¬ fits (dnReg n 0) 0xFC000000 → Does (.ferryCfgWrite iss (.dn n) v) s (CountsAt ⟨.fry, 0, 4⟩ s))) ∧
  (∀ (iss : Issuer) (w : FerryRef) (v : Word) (s : State), mgmtIssuer iss = false → Does (.ferryCfgWrite iss w v) s (CountsAt ⟨.fry, 0, 4⟩ s)))

namespace Sys2Proof

/-- R275, R276, R288: link l enters RETRAIN, from LOCK, and counts it; of what it holds, `k`, everything but the training in progress stays. -/
def Retrains (s u : State) (l : Nat) (k : CLink) : Prop :=
  u.lstate l = 6 ∧ u.rf (chl l 0x14) 24 8 = min 255 (s.rf (chl l 0x14) 24 8 + 1) ∧
  u.clink l = { k with rephase := 2, passed := 0, resume := true, train := [], same := 0, replay := none }

/-- R287: link l is in DETECT, its lanes unlocked. -/
def Detects (s u : State) (l : Nat) : Prop :=
  u.lstate l = 1 ∧ u.locked l = 0 ∧ u.clink l = { s.clink l with signal := 0, train := [], same := 0, isolated := false }

/-- R287, R294, R305, R306: link l enters DOWN (0) or FAILED (7), keeps no lane and no message, and every record of this package whose request left on it,
with no reply yet, is answered UNREACHABLE (those not yet placed in a frame are routed again; with none such, all). Its credits are gone. DOWNED is set if it was ACTIVE or in RETRAIN. -/
def StopsLink (s u : State) (l st : Nat) : Prop :=
  u.lstate l = st ∧ u.rf (chl l 4) 8 2 = 0 ∧ u.locked l = 0 ∧ (s.lstate l = 5 ∨ s.lstate l = 6 → u.rb (chl l 4) 26 = true) ∧
  (u.clink l).txq = [] ∧ (u.clink l).retry = [] ∧ (u.clink l).rx = [] ∧ (u.clink l).nextSeq = 0 ∧ (u.clink l).rxSeq = 0 ∧
  u.rb (chvReg (0xA00 + 4 * l)) 31 = false ∧ u.rf (chl l 0x10) 0 32 = 0 ∧
  ((s.clink l).txq = [] → ∀ f ∈ s.flights, f.ans = none → (∃ t, f.sent = some (l, t)) → ∃ g ∈ u.flights, g.id = f.id ∧ g.ans = some .unreachable)

end Sys2Proof

/-- R268, R271 to R278, R280, R281: a whole frame received while the link is ACTIVE and Lit. Each invalid sync header counts in its lane's SHERR. A bad
CRC or header discards the frame, sets CRCERR and owes a NAK; where the first replay of a frame that failed before fails (`again`), the fault is
lasting and the link enters RETRAIN. A good frame's ACK empties the retry buffer up to that SEQ, its NAK starts a replay, and its running counts
return credits. A MSG frame with the SEQ expected is accepted, once: its messages wait in a buffer of its class. One beyond it owes a NAK; one before
it is discarded. A reserved FTYPE, or a message out of order, sets PROT. Commands: FRAME_RECEIVE. Choices and readings of the model that it rests on:
log entries 43, 44, 46, 171. -/
def Obligations.FramesReceived : Prop :=
  (∀ (l : Fin 32) (ws : List Word) (bad0 bad1 : Fin 9) (again : Bool) (ts : Nat) (s : State), s.lstate l = 5 → s.linkLit l = true →
    let k := s.clink l
    let w0 := nth 0 ws 0
    let c := Instr.frameReceive l ws ⟨bad0, bad1, again⟩ ts
    let good : Prop := bad0 = 0 ∧ bad1 = 0 ∧ crcOk ws = true
    let others (u : State) : Prop := (∀ m, m ≠ l.val → u.clink m = s.clink m) ∧ KeepRegs [chl l 4, chl l 0x10, chl l 0x14, chl l 0x18] s u ∧ Only [.regs, .links] s u ∧
      u.rf (chl l 0x18) 0 8 = min 255 (s.rf (chl l 0x18) 0 8 + bad0.val) ∧ u.rf (chl l 0x18) 16 8 = min 255 (s.rf (chl l 0x18) 16 8 + bad1.val) ∧
      (∀ i, 8 ≤ i → i < 16 ∨ 24 ≤ i → u.rb (chl l 0x18) i = s.rb (chl l 0x18) i)
    (¬ good → Does c s (fun u => u.rb (chl l 4) 31 = true ∧ others u ∧
      (again = false ∨ k.fails = 0 → u.lstate l = 5 ∧ u.clink l = { k with nak := if k.nak = 2 then 2 else 1, fails := 1 }) ∧
      (again = true → k.fails ≠ 0 → u.rb (chl l 4) 30 = true ∧ u.rf (chl l 0x14) 16 8 = min 255 (s.rf (chl l 0x14) 16 8 + 1) ∧
        Retrains s u l { k with nak := if k.nak = 2 then 2 else 1, fails := 0 }))) ∧
    (good → fld w0 28 4 = 15 → Does c s (fun u => u.clink l = k ∧ others u)) ∧
    (good → fld w0 28 4 ≠ 15 → Does c s (fun u =>
      let a := fld w0 4 12
      let seq := fld w0 16 12
      let cls := fld w0 0 2
      let ms := parseMsgs cls 13 ((ws.drop 2).take 13)
      others u ∧ u.lstate l = 5 ∧ (u.clink l).peerFreed = nth 0 ws 1 ∧ (u.clink l).nextSeq = k.nextSeq ∧ (u.clink l).txq = k.txq ∧
      (∀ q < 4, u.rf (chl l 0x10) (8 * q) 8 = (s.rf (chl l 0x10) (8 * q) 8 + (fld (nth 0 ws 1) (8 * q) 8 + 256 - fld k.peerFreed (8 * q) 8)) % 256) ∧
      (∀ pre f post, k.retry = pre ++ f :: post → f.seq = a → (∀ g ∈ pre, g.seq ≠ a) → (u.clink l).retry = post) ∧
      ((∀ f ∈ k.retry, f.seq ≠ a) → (u.clink l).retry = k.retry) ∧
      (bit w0 3 = true → k.replay = none → ∀ f rest, (u.clink l).retry = f :: rest → (u.clink l).replay = some (f.seq, f.seq)) ∧
      (bit w0 3 = true → (∀ f ∈ k.retry, f.seq ≠ a) → ∀ n st, k.replay = some (n, st) → seqAfter ((a + 1) % 4096) st = true → (u.clink l).replay = some (n, st)) ∧
      (bit w0 3 = false → k.replay = none → (u.clink l).replay = none) ∧
      (2 ≤ fld w0 28 4 → u.rb (chl l 4) 27 = true ∧ (u.clink l).rx = k.rx ∧ (u.clink l).rxSeq = k.rxSeq) ∧
      (fld w0 28 4 = 0 → u.rb (chl l 4) 27 = s.rb (chl l 4) 27 ∧ (u.clink l).rx = k.rx ∧ (u.clink l).rxSeq = k.rxSeq ∧ (u.clink l).nak = k.nak) ∧
      (fld w0 28 4 = 1 → seq = k.rxSeq → (u.clink l).rxSeq = (k.rxSeq + 1) % 4096 ∧ (u.clink l).nak = (if k.nak = 1 then 1 else 0) ∧ (u.clink l).fails = 0 ∧
        ((∀ m ∈ ms, m.2 = true) → ms ≠ [] → (u.clink l).rx = k.rx ++ [⟨cls, ms.map (·.1), ts⟩] ∧ (u.clink l).freed = k.freed ∧ u.rb (chl l 4) 27 = s.rb (chl l 4) 27) ∧
        ((∀ m ∈ ms, m.2 = false) → (u.clink l).rx = k.rx ∧ (u.clink l).freed = freeOne k.freed cls) ∧
        ((∃ m ∈ ms, m.2 = false) → u.rb (chl l 4) 27 = true) ∧
        u.rf (chl l 0x14) 0 16 = (if again = true ∧ k.fails = 1 then min 0xFFFF (s.rf (chl l 0x14) 0 16 + 1) else s.rf (chl l 0x14) 0 16)) ∧
      (fld w0 28 4 = 1 → seq ≠ k.rxSeq → (u.clink l).rxSeq = k.rxSeq ∧ (u.clink l).rx = k.rx ∧
        (u.clink l).nak = (if seqAfter seq k.rxSeq = true ∧ k.nak ≠ 2 then 1 else k.nak))))) ∧
  (∀ (l : Fin 32) (ws : List Word) (bad0 bad1 : Fin 9) (again : Bool) (ts : Nat) (s : State), s.lstate l ≠ 5 ∨ s.linkLit l = false →
    exec (.frameReceive l ws ⟨bad0, bad1, again⟩ ts) s = .next s)

/-- R271 to R273, R275 to R279, R284, R289: what a link sends at a frame boundary, and a replay that times out. In ACTIVE: the next frame of a replay,
which spends no credit; else a new frame of the first ready class (Vermilion first, then the class in turn while its weight lasts, then the next
ones), which takes the next SEQ and one credit and waits in the retry buffer; else an IDLE frame. Every frame carries ACK, an owed NAK once, the
running counts and a CRC. A link in training sends a TRAIN frame, in ALIGN one on each lane, with its LANEID; one in DOWN or FAILED, or not Lit, sends
nothing. A mapped up-ferry first gives up to 10 tokens as a STREAM message, but not onto an isolated link (R298). Commands: FRAME_BOUNDARY,
REPLAY_TIMEOUT. Choices and readings of the model that it rests on: log entries 46, 170. -/
def Obligations.FramesSent : Prop :=
  (∀ (l : Fin 32) (ts : Nat) (s : State), s.linkLit l = false ∨ s.lstate l = 0 ∨ s.lstate l = 7 → exec (.frameBoundary l ts) s = .next s) ∧
  (∀ (l : Fin 32) (ts : Nat) (s : State), s.linkLit l = true → s.lstate l ∈ [1, 2, 3, 4, 6] →
    let k := s.clink l
    let base := if s.lstate l = 6 then k.rephase else s.lstate l
    Does (.frameBoundary l ts) s (fun u => (∀ m, m ≠ l.val → u.clink m = s.clink m) ∧ KeepRegs [] s u ∧ Only [.regs, .links, .ups] s u ∧
      let ws := (u.clink l).tx
      u.clink l = { k with tx := ws, tx1 := (u.clink l).tx1 } ∧ (s.inPhase l 3 = false → (u.clink l).tx1 = []) ∧ bit (nth 0 ws 2) 12 = false ∧
      (s.inPhase l 3 = true → let w1 := (u.clink l).tx1
        w1.length = 16 ∧ crcOk w1 = true ∧ bit (nth 0 w1 2) 12 = true ∧ ∀ i < 15, i ≠ 2 → nth 0 w1 i = nth 0 ws i) ∧ ws.length = 16 ∧ crcOk ws = true ∧
      (base ≤ 4 → fld (nth 0 ws 0) 28 4 = 15 ∧ fld (nth 0 ws 0) 24 4 = if base = 4 ∧ k.train ≠ [] then 5 else base) ∧ bit (nth 0 ws 0) 15 = (k.resume && s.lstate l == 6) ∧
      fld (nth 0 ws 1) 24 8 = s.rf (chvReg 0) 8 8 ∧ fld (nth 0 ws 1) 16 8 = s.rf (chvReg 0) 0 8 ∧
      fld (nth 0 ws 1) 8 8 = (if k.train = [] then 0 else min (s.rf (chvReg 0) 8 8) (fld (nth 0 k.train 1) 24 8)) ∧
      fld (nth 0 ws 2) 20 12 = s.ownPkg ∧ fld (nth 0 ws 2) 15 5 = l ∧ fld (nth 0 ws 2) 13 2 = (s.usable l).toNat ∧
      nth 0 ws 3 = (if s.lstate l = 6 ∧ k.resume then k.unspent else 0x08303010#32) ∧ fld (nth 0 ws 4) 20 12 = k.rxSeq % 4096)) ∧
  (∀ (l : Fin 32) (ts : Nat) (s : State), s.linkLit l = true → s.lstate l = 5 →
    (∀ c < 16, bit (s.streamMap l c 0) 31 = false ∨ (s.upf (mapFerry (s.streamMap l c 0))).q = []) →
    let k := s.clink l
    let sends (u : State) (ftype seq cls : Nat) : Prop := (∀ m, m ≠ l.val → u.clink m = s.clink m) ∧ KeepRegs [chl l 0x10] s u ∧ Only [.regs, .links, .ups] s u ∧
      let ws := (u.clink l).tx
      (u.clink l).tx1 = [] ∧ ws.length = 16 ∧ crcOk ws = true ∧ fld (nth 0 ws 0) 28 4 = ftype ∧ fld (nth 0 ws 0) 16 12 = seq % 4096 ∧
      fld (nth 0 ws 0) 4 12 = (k.rxSeq + 4095) % 4096 ∧ bit (nth 0 ws 0) 3 = decide (k.nak = 1) ∧ fld (nth 0 ws 0) 0 2 = cls ∧ nth 0 ws 1 = k.freed ∧
      (u.clink l).nak = if k.nak = 1 then 2 else k.nak
    let newOf (c : Nat) : Prop := c < 4 ∧ s.classReady l c = true ∧
      (c = 0 ∨ (s.classReady l 0 = false ∧ (c = k.turn.val + 1 ∧ k.turnUsed < s.weight l c ∨
        (¬ (k.turnUsed < s.weight l (k.turn.val + 1) ∧ s.classReady l (k.turn.val + 1) = true) ∧ ∃ j ∈ [1, 2, 3], c = (k.turn.val + j) % 3 + 1 ∧
          ∀ i ∈ [1, 2, 3], i < j → s.classReady l ((k.turn.val + i) % 3 + 1) = false))))
    (∀ f n st, k.replay = some (n, st) → k.retry.find? (fun f => f.seq == n) = some f → f.cls < 4 → Does (.frameBoundary l ts) s (fun u => sends u 1 n f.cls ∧
      KeepRegs [] s u ∧ (u.clink l).nextSeq = k.nextSeq ∧ (u.clink l).replay = (if (n + 1) % 4096 = k.nextSeq then none else some ((n + 1) % 4096, st)) ∧
      (u.clink l).retry = k.retry.map (fun g => if g.seq = n then { g with again := true } else g))) ∧
    (∀ c, k.replay = none → newOf c → Does (.frameBoundary l ts) s (fun u => sends u 1 k.nextSeq c ∧
      (u.clink l).nextSeq = (k.nextSeq + 1) % 4096 ∧ (∃ body, (u.clink l).retry = k.retry ++ [⟨k.nextSeq, c, body, false⟩]) ∧
      u.rf (chl l 0x10) (24 - 8 * c) 8 = s.rf (chl l 0x10) (24 - 8 * c) 8 - 1)) ∧
    (k.replay = none → (∀ c < 4, s.classReady l c = false) → Does (.frameBoundary l ts) s (fun u => sends u 0 0 0 ∧
      KeepRegs [] s u ∧ (u.clink l).retry = k.retry ∧ (u.clink l).nextSeq = k.nextSeq ∧ (u.clink l).txq = k.txq))) ∧
  (∀ (l : Fin 32) (ts c : Nat) (s : State), s.linkLit l = true → s.lstate l = 5 → (s.clink l).isolated = false → c < 16 → bit (s.streamMap l c 0) 31 = true →
    let n := mapFerry (s.streamMap l c 0)
    kindOf (s.rget (upReg n 0)) true ≠ .off → (∀ e ∈ (s.clink l).txq, e.2.typ ≠ 5 ∨ fld e.2.h1 28 4 ≠ c) →
    (∀ d < 16, d ≠ c → bit (s.streamMap l d 0) 31 = true → mapFerry (s.streamMap l d 0) ≠ n) →
    Does (.frameBoundary l ts) s (fun u => (u.upf n).q = (s.upf n).q.drop 10)) ∧
  (∀ (l : Fin 32) (ts : Nat) (s : State), s.linkLit l = true → s.lstate l = 5 → (s.clink l).isolated = true →
    Does (.frameBoundary l ts) s (fun u => ∀ n, u.upf n = s.upf n)) ∧
  (∀ (l : Fin 32) (s : State),
    let k := s.clink l
    (s.lstate l ≠ 5 ∧ s.lstate l ≠ 6 ∨ s.linkLit l = false ∨ k.retry = [] → exec (.replayTimeout l) s = .next s) ∧
    (∀ f rest, s.lstate l = 5 ∨ s.lstate l = 6 → s.linkLit l = true → k.retry = f :: rest →
      (f.again = true → Does (.replayTimeout l) s (fun u => u.rb (chl l 4) 30 = true ∧ u.rf (chl l 0x14) 16 8 = min 255 (s.rf (chl l 0x14) 16 8 + 1) ∧
        Retrains s u l k ∧ (∀ m, m ≠ l.val → u.clink m = s.clink m) ∧ KeepRegs [chl l 4, chl l 0x14] s u ∧ Only [.regs, .links] s u)) ∧
      (f.again = false → s.lstate l = 5 → k.replay = none → Does (.replayTimeout l) s (fun u => u.clink l = { k with replay := some (f.seq, f.seq) } ∧
        (∀ m, m ≠ l.val → u.clink m = s.clink m) ∧ KeepRegs [] s u ∧ Only [.regs, .links] s u)) ∧
      (f.again = false → s.lstate l ≠ 5 ∨ k.replay ≠ none → exec (.replayTimeout l) s = .next s)))

/-- R268, R270, R287, R288: the events of training. Signal takes DETECT to LOCK; block lock on every lane that shows signal, or 1 ms, takes LOCK to ALIGN,
and to DETECT if no lane locked, at once where every one that shows it is locked already; ALIGN ends in NEGOTIATE with polarity and swap found, and at
its limit falls back; NEGOTIATE falls back at its limit. Within a retrain the same phases follow the lane test, where a lane that fails is retired;
with no lane left, or at DOWNTMO, the link enters FAILED. 16 invalid headers of 64 lose block lock, and take an ACTIVE link that uses the lane to
RETRAIN. Nothing of this happens while the link's domain is not Lit (R294). Commands: SIGNAL_DETECT, BLOCK_LOCK, BLOCK_LOCK_LOSS, LOCK_TIMEOUT,
ALIGN_COMPLETE, ALIGN_LIMIT, NEGOTIATE_TIMEOUT, LANE_TEST_COMPLETE, DOWNTMO. Choices and readings of the model that it rests on: log entries 41, 45,
171. -/
def Obligations.LinkTraining : Prop := ∀ (l : Fin 32) (s : State),
  let st := s.lstate l
  let k := s.clink l
  let lane := chl l 0x18
  let here (u : State) (regs : List Reg) : Prop := (∀ m, m ≠ l.val → u.clink m = s.clink m) ∧ KeepRegs regs s u ∧ Only [.regs, .links] s u
  let back (c : Instr) : Prop := (st = 6 → Does c s (fun u => u.clink l = { k with rephase := 2, passed := 0, train := [], same := 0 } ∧ here u [])) ∧
    (st ≠ 6 → Does c s (fun u => Detects s u l ∧ here u [chl l 4, lane]))
  (s.linkLit l = false → ∀ (lanes pol : BitVec 2) (swap pass : Bool) (j : Fin 2) (bad fresh : Fin 65), ∀ c ∈ [Instr.signalDetect l lanes, .blockLock l j, .blockLockLoss l j ⟨bad, fresh⟩,
    .lockTimeout l, .alignComplete l pol swap, .alignLimit l, .negotiateTimeout l, .laneTestComplete l j pass, .downtmo l], exec c s = .next s) ∧
  (s.linkLit l = true →
  (∀ lanes : BitVec 2, let sig := lanes &&& s.usable l
    (st = 1 ∧ sig ≠ 0 ∨ st = 2 → Does (.signalDetect l lanes) s (fun u => u.lstate l = (if sig ≠ 0 ∧ sig &&& s.locked l = sig then 3 else 2) ∧ u.locked l = s.locked l ∧
      u.clink l = { k with signal := sig } ∧ here u [chl l 4])) ∧
    (st ≠ 2 → st ≠ 1 ∨ sig = 0 → exec (.signalDetect l lanes) s = .next s)) ∧
  (∀ j : Fin 2, (st = 0 ∨ st = 7 → exec (.blockLock l j) s = .next s) ∧
    (st ≠ 0 → st ≠ 7 → Does (.blockLock l j) s (fun u => bit (u.locked l) j = true ∧ (∀ i : Fin 2, i ≠ j → bit (u.locked l) i = bit (s.locked l) i) ∧ u.clink l = k ∧ here u [chl l 4, lane] ∧
      u.lstate l = if st = 2 ∧ k.signal ≠ 0 ∧ k.signal &&& u.locked l = k.signal then 3 else st))) ∧
  (∀ (j : Fin 2) (bad fresh : Fin 65), (st = 0 ∨ st = 7 → exec (.blockLockLoss l j ⟨bad, fresh⟩) s = .next s) ∧
    (st ≠ 0 → st ≠ 7 → Does (.blockLockLoss l j ⟨bad, fresh⟩) s (fun u => u.rf lane (16 * j.val) 8 = min 255 (s.rf lane (16 * j.val) 8 + fresh.val) ∧ here u [chl l 4, chl l 0x14, lane] ∧
      bit (u.locked l) j = (if 16 ≤ bad.val then false else bit (s.locked l) j) ∧ (∀ i : Fin 2, i ≠ j → bit (u.locked l) i = bit (s.locked l) i) ∧
      (16 ≤ bad.val → st = 5 → s.rb (chl l 4) (8 + j.val) = true → Retrains s u l k) ∧
      (bad.val < 16 ∨ st ≠ 5 ∨ s.rb (chl l 4) (8 + j.val) = false → u.lstate l = st ∧ u.clink l = k)))) ∧
  (st ≠ 2 → exec (.lockTimeout l) s = .next s) ∧
  (st = 2 → s.locked l &&& k.signal = 0 → Does (.lockTimeout l) s (fun u => Detects s u l ∧ here u [chl l 4, lane])) ∧
  (st = 2 → s.locked l &&& k.signal ≠ 0 → Does (.lockTimeout l) s (fun u => u.lstate l = 3 ∧ u.clink l = k ∧ u.locked l = s.locked l ∧ here u [chl l 4])) ∧
  (∀ (pol : BitVec 2) (swap : Bool), (s.inPhase l 3 = true → Does (.alignComplete l pol swap) s (fun u => u.rb lane 14 = bit pol 0 ∧ u.rb lane 30 = bit pol 1 ∧ u.rb lane 13 = swap ∧ u.rb lane 29 = swap ∧
      u.locked l = s.locked l ∧ u.lstate l = (if st = 6 then 6 else 4) ∧ u.clink l = { k with rephase := if st = 6 then 4 else 0, train := [], same := 0 } ∧ here u [chl l 4, lane])) ∧
    (s.inPhase l 3 = false → exec (.alignComplete l pol swap) s = .next s)) ∧
  (s.inPhase l 3 = true → back (.alignLimit l)) ∧ (s.inPhase l 3 = false → exec (.alignLimit l) s = .next s) ∧
  (s.inPhase l 4 = true → back (.negotiateTimeout l)) ∧ (s.inPhase l 4 = false → exec (.negotiateTimeout l) s = .next s) ∧
  (∀ j : Fin 2, let testing : Prop := st = 6 ∧ k.rephase = 2 ∧ bit (s.usable l) j = true
    (∀ pass, ¬ testing → exec (.laneTestComplete l j pass) s = .next s) ∧
    (testing → Does (.laneTestComplete l j true) s (fun u =>
      let done := setBit k.passed j true
      u.clink l = { k with passed := done, rephase := if s.usable l &&& done = s.usable l then 3 else 2 } ∧ here u [])) ∧
    (testing → Does (.laneTestComplete l j false) s (fun u => u.rb (chl l 4) (6 + j.val) = true ∧ u.rb (chl l 4) 29 = true ∧ u.rb ⟨.tnkBase, 0, 0x84⟩ l = true ∧ bit (u.usable l) j = false ∧
      (u.usable l = 0 → StopsLink s u l 7) ∧
      (u.usable l ≠ 0 → u.lstate l = 6 ∧ u.clink l = { k with rephase := if u.usable l &&& k.passed = u.usable l then 3 else 2 } ∧ here u [chl l 4, ⟨.tnkBase, 0, 0x84⟩])))) ∧
  (st = 6 → Does (.downtmo l) s (fun u => StopsLink s u l 7)) ∧ (st ≠ 6 → exec (.downtmo l) s = .next s))

/-- R287, R289 to R291, R294, R296, R298: TRAIN frames and CHV_CTL. A good TRAIN frame shows the peer's ID, link and version; the own ID isolates the link
and sets DUPID. A peer back in DETECT takes the link back with it. No common version sets VERFAIL and FAILED. Three identical frames with TSTATE = 5
and the same VSEL end training: with RESUME on both sides the retry buffer goes on from the peer's NEXTSEQ, else all starts afresh with the peer's
credits. EN written 1 starts a link in DOWN whose domain is Lit; EN written 0 stops it; RETRAIN acts from ACTIVE and FAILED only. Commands:
TRAIN_FRAME_RECEIVED, LINK_ENABLE, LINK_DISABLE, RETRAIN. Choices and readings of the model that it rests on: log entries 41, 42, 45, 47, 50, 170. -/
def Obligations.LinkNegotiationAndControl : Prop :=
  (∀ (l : Fin 32) (ws : List Word) (s : State),
    let st := s.lstate l
    let k := s.clink l
    let c := Instr.trainFrameReceived l ⟨ws, 0, 0⟩
    let inTrain : Prop := s.inPhase l 3 = true ∨ s.inPhase l 4 = true
    let w (i : Nat) : Word := nth 0 ws i
    let pkg := fld (w 2) 20 12
    let vsel := min (s.rf (chvReg 0) 8 8) (fld (w 1) 24 8)
    let shows (u : State) : Prop := u.rf (chl l 8) 20 12 = pkg ∧ u.rf (chl l 8) 15 5 = fld (w 2) 15 5 ∧ u.rf (chl l 8) 0 8 = fld (w 1) 24 8
    let t := setFld (w 0) 16 8 0 :: (ws.drop 1).take 14
    let same := if k.train = t then k.same + 1 else 1
    let common : Prop := max (s.rf (chvReg 0) 0 8) (fld (w 1) 16 8) ≤ vsel
    let ends : Prop := common ∧ 3 ≤ same ∧ fld (w 0) 24 4 = 5 ∧ fld (w 1) 8 8 = vsel
    (¬ inTrain → ∀ bad0 bad1, exec (.trainFrameReceived l ⟨ws, bad0, bad1⟩) s = .next s) ∧
    (∀ bad0 bad1 : Fin 9, inTrain → bad0.val + bad1.val ≠ 0 ∨ crcOk ws = false → Does (.trainFrameReceived l ⟨ws, bad0, bad1⟩) s (fun u => u.rb (chl l 4) 31 = true ∧
      u.rf (chl l 0x18) 0 8 = min 255 (s.rf (chl l 0x18) 0 8 + bad0.val) ∧ u.rf (chl l 0x18) 16 8 = min 255 (s.rf (chl l 0x18) 16 8 + bad1.val) ∧
      KeepRegs [chl l 4, chl l 0x18] s u ∧ Only [.regs] s u)) ∧
    (inTrain → crcOk ws = true → fld (w 0) 28 4 ≠ 15 → Does c s (fun u => KeepRegs [] s u ∧ Only [.regs] s u)) ∧
    (inTrain → crcOk ws = true → fld (w 0) 28 4 = 15 →
      Does c s (fun u => shows u ∧ (pkg = s.ownPkg → u.rb sysStat 31 = true ∧ u.rf sysStat 24 5 = l)) ∧
      (fld (w 0) 24 4 = 1 → st ≠ 6 → Does c s (fun u => u.lstate l = 1)) ∧
      (fld (w 0) 24 4 = 1 → st = 6 → Does c s (fun u => (u.clink l).rephase = 2 ∧ u.lstate l = 6)) ∧
      (fld (w 0) 24 4 ≠ 1 → s.inPhase l 4 = false → Does c s (fun u => (u.clink l).isolated = decide (pkg = s.ownPkg) ∧ u.lstate l = st ∧
        (pkg ≠ s.ownPkg ∨ k.txq = [] → u.clink l = { k with isolated := decide (pkg = s.ownPkg) }))) ∧
      (fld (w 0) 24 4 ≠ 1 → s.inPhase l 4 = true → ¬ common → Does c s (fun u => u.rb (chl l 4) 28 = true ∧ u.lstate l = 7)) ∧
      (fld (w 0) 24 4 ≠ 1 → s.inPhase l 4 = true → common → ¬ ends → Does c s (fun u => u.lstate l = st ∧ (u.clink l).train = t ∧ (u.clink l).same = same)) ∧
      (s.inPhase l 4 = true → ends → s.usable l &&& (if s.rb (chl l 0x18) 13 then BitVec.ofNat 2 (b2n (bit (w 2) 14) + 2 * b2n (bit (w 2) 13)) else (w 2).extractLsb' 13 2) &&& s.locked l ≠ 0 →
        let on := st == 6 && k.resume && k.windowHolds (fld (w 4) 20 12) && bit (w 0) 15
        Does c s (fun u => u.lstate l = 5 ∧ u.rf (chl l 4) 16 4 = vsel % 16 ∧
          (on = true → (u.clink l).retry = k.retry.dropWhile (fun f => f.seq != fld (w 4) 20 12) ∧ (u.clink l).nextSeq = k.nextSeq ∧ (u.clink l).rxSeq = k.rxSeq ∧
            (pkg ≠ s.ownPkg → (u.clink l).txq = k.txq) ∧ (u.clink l).rx = k.rx ∧ (∀ f rest, (u.clink l).retry = f :: rest → (u.clink l).replay = some (f.seq, f.seq))) ∧
          (on = false → (u.clink l).retry = [] ∧ (u.clink l).nextSeq = 0 ∧ (u.clink l).rxSeq = 0 ∧ (u.clink l).replay = none ∧ u.rf (chl l 0x10) 0 32 = (w 3).toNat ∧
            (st = 6 ∨ bit (w 0) 15 = true → u.rb (chl l 4) 26 = true)))))) ∧
  (∀ (iss : Issuer) (l : Fin 32) (s : State), mgmtIssuer iss = true →
    let st := s.lstate l
    let may : Prop := s.linkLit l = true ∧ s.linkBad l = false
    (st = 0 → Does (.linkEnable iss l) s (fun u => u.rb (chl l 0) 31 = true ∧ (may → Detects s u l) ∧ (¬ may → u.lstate l = 0 ∧ u.clink l = s.clink l) ∧ Only [.regs, .links] s u)) ∧
    (st ≠ 0 → s.rb (chl l 0) 30 = false → Does (.linkEnable iss l) s (fun u => u.rb (chl l 0) 31 = true ∧ u.lstate l = st ∧ u.clink l = s.clink l ∧ KeepRegs [chl l 0] s u ∧ Only [.regs, .links] s u)) ∧
    (st = 0 → Does (.linkDisable iss l) s (fun u => u.rb (chl l 0) 31 = false ∧ u.lstate l = 0 ∧ u.clink l = s.clink l ∧ KeepRegs [chl l 0] s u ∧ Only [.regs] s u)) ∧
    (st ≠ 0 → Does (.linkDisable iss l) s (fun u => u.rb (chl l 0) 31 = false ∧ StopsLink s u l 0)) ∧
    (∀ readmit, (st = 5 → Does (.retrain iss l readmit) s (fun u => Retrains s u l (s.clink l) ∧ (readmit = true → u.rf (chl l 4) 6 2 = 0) ∧ (readmit = false → u.rf (chl l 4) 6 2 = s.rf (chl l 4) 6 2) ∧
        KeepRegs [chl l 4, chl l 0x14] s u ∧ Only [.regs, .links] s u)) ∧
      (st = 7 → may → Does (.retrain iss l readmit) s (fun u => Detects s u l ∧ (readmit = true → u.rf (chl l 4) 6 2 = 0) ∧ Only [.regs, .links] s u)) ∧
      (st ≠ 5 → st ≠ 7 → exec (.retrain iss l readmit) s = .next s))) ∧
  (∀ (iss : Issuer) (l : Fin 32) (s : State), mgmtIssuer iss = false → Does (.linkEnable iss l) s (CountsAt (chvReg 4) s) ∧ Does (.linkDisable iss l) s (CountsAt (chvReg 4) s) ∧
    ∀ readmit, Does (.retrain iss l readmit) s (CountsAt (chvReg 4) s))

namespace Sys2Proof

/-- The first message of class `c` received on link l is `m`, of a frame that arrived at `ts`; with it taken onward the link holds `rx` and its
running counts are `freed`: a frame with no message left frees its buffer (R277). -/
def AtFront (s : State) (l c : Nat) (m : Msg) (ts : Nat) (rx : List RxFrame) (freed : Word) : Prop :=
  ∃ pre f post ms, (s.clink l).rx = pre ++ f :: post ∧ (∀ g ∈ pre, g.cls ≠ c) ∧ f.cls = c ∧ f.msgs = m :: ms ∧ f.rx = ts ∧
    rx = pre ++ (if ms = [] then [] else [{ f with msgs := ms }]) ++ post ∧ freed = if ms = [] then freeOne (s.clink l).freed c else (s.clink l).freed

/-- R282, R283: `q` answers the request `m`, from this package: its port and TAG, a STATUS, and for a READ one data word with this P. -/
def Answers (s : State) (m q : Msg) (status : Nat) (d : Word) (p : Bool) : Prop :=
  q.typ = (if m.typ = 1 then 3 else 4) ∧ q.dpkg = m.spkg ∧ q.spkg = s.ownPkg ∧ fld q.h1 8 4 = status ∧ fld q.h1 12 8 = fld m.h1 12 8 ∧
  fld q.h1 21 11 = fld m.h1 21 11 ∧ fld q.h1 0 8 = 0 ∧ bit q.h1 20 = (decide (m.typ = 1) && p) ∧ q.words = if m.typ = 1 then [d] else []

end Sys2Proof

/-- R282 to R284, R305, R316: messages for this package, taken from the front of their class. A READ or WRITE becomes an access of requester 16 with the
package and port of its port word; one whose reserved address bits are not zero leads to a reserved offset (log entry 167). An RDRSP or WRDONE
completes the access it answers, by port, TAG and kind; with none it is late and counted. A STREAM message's tokens enter the mapped base-seam ferry
while it has room, with their P and F, and the rest waits; an unmapped channel sets PROT. A request with no reply in REMTMO is answered UNREACHABLE,
and its port gives its TAG to no other request while it has one that no late reply may carry (log entry 175). Commands: READ_MESSAGE, WRITE_MESSAGE,
RDRSP, WRDONE, STREAM_MESSAGE, REMOTE_TIMEOUT. Choices and readings of the model that it rests on: log entries 51, 52, 53, 167, 175. -/
def Obligations.RemoteMessages : Prop :=
  (∀ (l : Fin 32) (c : Fin 4) (s : State) (m : Msg) (ts : Nat) (rx : List RxFrame) (freed : Word), AtFront s l c m ts rx freed → m.dpkg = s.ownPkg → (s.clink l).isolated = false →
    let k := s.clink l
    let a := nth 0 m.words 0
    let taken (u : State) : Prop := u.clink l = { k with rx := rx, freed := freed } ∧ (∀ j, j ≠ l.val → u.clink j = s.clink j)
    let done (u : State) (f : Flight) (ans : Answer) : Prop := Answered f.id ans s u ∧ taken u ∧ KeepRegs [] s u
    let late (u : State) : Prop := u.flights = s.flights ∧ u.lateTags = s.lateTags.erase (portWordLp m.h1, fld m.h1 12 8) ∧ taken u ∧ u.rf sysErr 24 8 = min 255 (s.rf sysErr 24 8 + 1) ∧ KeepRegs [sysErr] s u
    let issued (u : State) (kind : AKind) : Prop := taken u ∧ KeepRegs [] s u ∧
      SetsOut { iss := .remote m.spkg (fld m.h1 30 2 * 8 + fld m.h1 27 3) (portWordLp m.h1), lp := 4096, tc := c, kind := kind, lock := bit a 31, poison := bit m.h1 20, addr := 0x100000000 + 0x10000000 * fld a 29 2 + 0x1000000 * fld a 26 3 + (if fld a 24 2 = 0 then fld a 0 24 else 0x600000), data := { d := nth 0 m.words 1 }, from_ := some (m.spkg, m.h1, l.val) } s u
    (m.typ = 1 → Does (.readMessage l c) s (fun u => issued u .read)) ∧ (m.typ = 2 → Does (.writeMessage l c) s (fun u => issued u .write)) ∧
    (∀ f, m.typ = 3 → s.recordOf m.h1 .read = some f → Does (.rdrsp l c) s (fun u => done u f
      (if fld m.h1 8 4 = 1 then .quarantined else if fld m.h1 8 4 = 2 then .unreachable else .word { d := nth 0 m.words 0, p := bit m.h1 20 }))) ∧
    (∀ f, m.typ = 4 → s.recordOf m.h1 .write = some f → Does (.wrdone l c) s (fun u => done u f
      (if fld m.h1 8 4 = 1 then .quarantined else if fld m.h1 8 4 = 2 then .unreachable else .done))) ∧
    (m.typ = 3 → s.recordOf m.h1 .read = none → Does (.rdrsp l c) s late) ∧ (m.typ = 4 → s.recordOf m.h1 .write = none → Does (.wrdone l c) s late) ∧
    (m.typ = 5 →
      let w := s.streamMap l (fld m.h1 28 4) 1
      let n := mapFerry w
      let q := (s.dnf n).q
      let toks : List Tok := (m.words.zip (List.range 10)).map (fun e => { d := e.1, p := bit m.h1 (2 * e.2), f := bit m.h1 (2 * e.2 + 1) })
      (bit w 31 = false → Does (.streamMessage l c) s (fun u => taken u ∧ u.rb (chl l 4) 27 = true ∧ KeepRegs [chl l 4] s u ∧ Only [.regs, .links] s u)) ∧
      (bit w 31 = true → m.words.length ≤ 10 → kindOf (s.rget (dnReg n 0)) false = .stream →
        (q.length + m.words.length ≤ 8 → Does (.streamMessage l c) s (fun u => taken u ∧ u.dnf n = { s.dnf n with q := q ++ toks } ∧ KeepRegs [] s u ∧ Only [.links, .dns] s u)) ∧
        (q.length ≤ 8 → 8 < q.length + m.words.length → Does (.streamMessage l c) s (fun u => u.dnf n = { s.dnf n with q := q ++ toks.take (8 - q.length) } ∧ KeepRegs [] s u ∧ Only [.links, .dns] s u ∧
          ∃ m', s.front l c = some (m, ts) ∧ u.front l c = some (m', ts) ∧ m'.words = m.words.drop (8 - q.length) ∧ fld m'.h1 28 4 = fld m.h1 28 4 ∧ m'.dpkg = m.dpkg ∧ m'.typ = 5 ∧
            ∀ i, i + 2 * (8 - q.length) < 20 → bit m'.h1 i = bit m.h1 (i + 2 * (8 - q.length))))) ∧
      (bit w 31 = true → kindOf (s.rget (dnReg n 0)) false = .latest → m.words.length ≤ 10 → ∀ t, toks.getLast? = some t →
        Does (.streamMessage l c) s (fun u => taken u ∧ u.dnf n = { s.dnf n with q := [t] } ∧ Only [.links, .dns] s u)))) ∧
  (∀ (l : Fin 32) (c : Fin 4) (s : State), (∀ m ts, s.front l c = some (m, ts) → m.dpkg ≠ s.ownPkg ∨ (s.clink l).isolated = true) →
    exec (.readMessage l c) s = .next s ∧ exec (.writeMessage l c) s = .next s ∧ exec (.rdrsp l c) s = .next s ∧ exec (.wrdone l c) s = .next s ∧ exec (.streamMessage l c) s = .next s) ∧
  (∀ (id : Nat) (s : State) (f : Flight), s.flight id = some f → f.sent.isSome = true → f.ans = none → Does (.remoteTimeout id) s (fun u =>
    Answered id .unreachable s u ∧ (∀ l t, f.sent = some (l, t) → u.lateTags = s.lateTags ++ [(f.lp, t)]) ∧ u.rb sysStat 29 = true ∧ u.rb sysStat 30 = true ∧
    u.rf sysErr 16 8 = min 255 (s.rf sysErr 16 8 + 1) ∧ KeepRegs [sysStat, sysErr] s u ∧ Only [.regs, .flights, .lateTags] s u)) ∧
  (∀ (id : Nat) (s : State), (∀ f, s.flight id = some f → f.sent = none ∨ f.ans ≠ none) → exec (.remoteTimeout id) s = .next s)

/-- R286, R297 to R306, R426: the forwarding stage, MGMT messages and CHV_SYSID. A message or access for another package leaves on LINK of its route entry
while that is ACTIVE or in RETRAIN, on ALT while LINK is DOWN or FAILED, and else is unreachable. An invalid entry answers a request with zeros,
STATUS OK, and counts. Nothing goes back on the link it came from; STREAM and PHASE go no further; an isolated link's messages are discarded. An
access that has come to the base seam leaves in its turn: not before one of its class, die and link that came there earlier (R302). It takes a TAG and
one of 2,048 records. The parts of a packet are put together in order. CHV_SYSID is written only while every link is in DOWN. Commands: FORWARDING,
READ_MESSAGE, WRITE_MESSAGE, MGMT_MESSAGE, MGMT_REASSEMBLY_TIMEOUT, SYSID_WRITE. Choices and readings of the model that it rests on: log entries 48,
52, 175, 177. -/
def Obligations.Forwarding : Prop :=
  (∀ (s : State) (p : Nat),
    let e := s.rget (chvReg (0x4000 + 4 * p))
    let up (l : Nat) : Prop := (s.lstate l = 5 ∨ s.lstate l = 6) ∧ (s.clink l).isolated = false
    let dead (l : Nat) : Prop := s.lstate l = 0 ∨ s.lstate l = 7 ∨ (s.clink l).isolated = true
    (bit e 31 = false → s.lookup p = .invalid) ∧ (bit e 31 = true → up (fld e 0 5) → s.lookup p = .via (fld e 0 5)) ∧
    (bit e 31 = true → dead (fld e 0 5) → bit e 30 = true → up (fld e 8 5) → s.lookup p = .via (fld e 8 5)) ∧
    (bit e 31 = true → ¬ up (fld e 0 5) → ¬ (dead (fld e 0 5) ∧ bit e 30 = true ∧ up (fld e 8 5)) → s.lookup p = .unreachable)) ∧
  (∀ (l : Fin 32) (c : Fin 4) (s : State) (m : Msg) (ts : Nat) (rx : List RxFrame) (freed : Word), AtFront s l c m ts rx freed →
    let k := s.clink l
    let cmd := Instr.forwarding (.link l c)
    let gone (u : State) : Prop := (u.clink l).rx = rx ∧ (u.clink l).freed = freed
    let only (u : State) : Prop := u.clink l = { k with rx := rx, freed := freed } ∧ ∀ j, j ≠ l.val → u.clink j = s.clink j
    let drops (u : State) : Prop := only u ∧ u.rf sysErr 8 8 = min 255 (s.rf sysErr 8 8 + 1) ∧ KeepRegs [sysErr] s u ∧ Only [.regs, .links] s u
    let req : Prop := m.typ = 1 ∨ m.typ = 2
    (k.isolated = true → DoesThen cmd s (fun u => only u ∧ Only [.links] s u)) ∧
    (k.isolated = false → m.dpkg = s.ownPkg → m.typ = 1 → DoesThen cmd s (fun u => exec (.readMessage l c) s = .next u)) ∧
    (k.isolated = false → m.dpkg = s.ownPkg → m.typ = 2 → DoesThen cmd s (fun u => exec (.writeMessage l c) s = .next u)) ∧
    (k.isolated = false → m.dpkg ≠ s.ownPkg →
      (m.typ = 5 ∨ m.typ = 6 → DoesThen cmd s drops) ∧
      (m.typ ≠ 5 → m.typ ≠ 6 →
        (s.lookup m.dpkg = .via l → DoesThen cmd s drops) ∧
        (∀ l2, s.lookup m.dpkg = .via l2 → l2 ≠ l.val → DoesThen cmd s (fun u => gone u ∧ u.clink l2 = { s.clink l2 with txq := (s.clink l2).txq ++ [(c.val, { m with inl := some l.val })] } ∧
          (∀ j, j ≠ l.val → j ≠ l2 → u.clink j = s.clink j) ∧ KeepRegs [] s u ∧ Only [.regs, .links] s u)) ∧
        (s.lookup m.dpkg = .unreachable → ¬ req → DoesThen cmd s drops) ∧
        (s.lookup m.dpkg = .invalid → ¬ req → DoesThen cmd s (fun u => only u ∧ u.rf (chvReg 4) 0 16 = min 0xFFFF (s.rf (chvReg 4) 0 16 + 1) ∧ KeepRegs [chvReg 4] s u ∧ Only [.regs, .links] s u)) ∧
        (∀ l3, m.spkg ≠ s.ownPkg → m.spkg < 4096 → s.lookup m.spkg = .via l3 → req →
          (s.lookup m.dpkg = .invalid → DoesThen cmd s (fun u => gone u ∧ (∃ q, (u.clink l3).txq = (s.clink l3).txq ++ [(c.val, q)] ∧ Answers s m q 0 0 false) ∧
            u.rf (chvReg 4) 0 16 = min 0xFFFF (s.rf (chvReg 4) 0 16 + 1) ∧ KeepRegs [chvReg 4] s u)) ∧
          (s.lookup m.dpkg = .unreachable → DoesThen cmd s (fun u => gone u ∧ (∃ q, (u.clink l3).txq = (s.clink l3).txq ++ [(c.val, q)] ∧ Answers s m q 2 0 true) ∧
            u.rb sysStat 30 = true ∧ u.rf sysErr 0 8 = min 255 (s.rf sysErr 0 8 + 1) ∧ KeepRegs [sysStat, sysErr] s u)))))) ∧
  (∀ (id p : Nat) (s : State) (f : Flight), s.flight id = some f → f.ans = none → f.sent = none → f.path = [] → f.pkg = some p →
    let answered (u : State) (a : Answer) : Prop := Answered id a s u ∧ u.links = s.links
    let ahead (l : Nat) : Prop := ∃ x ∈ s.flights, (x.arr < f.arr ∨ x.arr = f.arr ∧ x.id < f.id) ∧ x.path = [] ∧ x.ans = none ∧ x.sent = none ∧ x.tc = f.tc ∧
      lpR x.lp / 8 = lpR f.lp / 8 ∧ ∃ q, x.pkg = some q ∧ s.lookup q = .via l
    let unused (t : Nat) : Prop := t < 256 ∧ ∀ g ∈ s.flights, g.lp = f.lp → ∀ x, g.sent = some x → x.2 ≠ t
    (s.lookup p = .invalid → DoesThen (.forwarding (.flight id)) s (fun u => answered u (zeroAnswer f.kind) ∧ u.rf (chvReg 4) 0 16 = min 0xFFFF (s.rf (chvReg 4) 0 16 + 1) ∧ KeepRegs [chvReg 4] s u)) ∧
    (s.lookup p = .unreachable → DoesThen (.forwarding (.flight id)) s (fun u => answered u .unreachable ∧ u.rb sysStat 30 = true ∧ u.rf sysErr 0 8 = min 255 (s.rf sysErr 0 8 + 1) ∧ KeepRegs [sysStat, sysErr] s u)) ∧
    (∀ l, s.lookup p = .via l → 2048 ≤ s.records ∨ ahead l → DoesThen (.forwarding (.flight id)) s (fun u => u = s)) ∧
    (∀ l, s.lookup p = .via l → s.records < 2048 → ¬ ahead l → DoesThen (.forwarding (.flight id)) s (fun u => ∃ tag m, tag < 256 ∧
      ((∃ t, unused t) → unused tag) ∧ ((∃ t, unused t ∧ (f.lp, t) ∉ s.lateTags) → (f.lp, tag) ∉ s.lateTags) ∧ u.lateTags = s.lateTags.erase (f.lp, tag) ∧
      u.flights = s.flights.map (fun g => if g.id = id then { g with sent := some (l, tag) } else g) ∧
      (u.clink l).txq = (s.clink l).txq ++ [(f.tc, m)] ∧ (∀ j, j ≠ l → u.clink j = s.clink j) ∧ m.typ = (match f.kind with | .read => 1 | .write => 2) ∧ m.dpkg = p ∧ m.spkg = s.ownPkg ∧
      fld m.h1 12 8 = tag ∧ (f.lp < 2048 → portWordLp m.h1 = f.lp) ∧ bit m.h1 20 = f.poison ∧
      m.words = (match f.kind with | .read => [addrWord f] | .write => [addrWord f, f.data.d]) ∧ bit (addrWord f) 31 = f.lock ∧ fld (addrWord f) 0 24 = f.addr % 2 ^ 24 ∧ KeepRegs [] s u))) ∧
  (∀ (id : Nat) (s : State) (f : Flight), s.flight id = some f → f.ans ≠ none ∨ f.sent ≠ none ∨ f.path ≠ [] ∨ f.pkg = none → DoesThen (.forwarding (.flight id)) s (fun u => u = s)) ∧
  (∀ (l : Fin 32) (s : State) (m : Msg) (ts : Nat) (rx : List RxFrame) (freed : Word), AtFront s l 3 m ts rx freed → m.dpkg = s.ownPkg → (s.clink l).isolated = false → m.typ = 7 →
    let r : Reasm := if fld m.h1 8 8 = 0 then { plen := fld m.h1 16 16 } else s.reasm m.spkg
    let part := m.words.flatMap (fun w => leBytes 4 w.toNat)
    let need := r.plen - r.bytes.length
    let ordered : Prop := fld m.h1 8 8 = r.next ∧ fld m.h1 16 16 = r.plen
    let now (u : State) (x : Reasm) (ins : List (Nat × List Byte)) : Prop := u.reasm m.spkg = x ∧ (∀ p, p ≠ m.spkg → u.reasm p = s.reasm p) ∧ u.mgmtIn = ins ∧
      u.clink l = { s.clink l with rx := rx, freed := freed } ∧ KeepRegs [] s u
    (ordered → bit m.h1 7 = true → need ≤ part.length → part.length < need + 4 → DoesThen (.mgmtMessage l) s (fun u => now u {} (s.mgmtIn ++ [(m.spkg, r.bytes ++ part.take need)]))) ∧
    (ordered → bit m.h1 7 = false → part.length = 44 → DoesThen (.mgmtMessage l) s (fun u => now u { plen := r.plen, next := r.next + 1, bytes := r.bytes ++ part } s.mgmtIn)) ∧
    (¬ ordered ∨ (bit m.h1 7 = true ∧ ¬ (need ≤ part.length ∧ part.length < need + 4)) ∨ (bit m.h1 7 = false ∧ part.length ≠ 44) → DoesThen (.mgmtMessage l) s (fun u => now u {} s.mgmtIn))) ∧
  (∀ (p : Fin 4096) (s : State), Does (.mgmtReassemblyTimeout p) s (fun u => u.reasm p = {} ∧ (∀ q, q ≠ p.val → u.reasm q = s.reasm q) ∧ KeepRegs [] s u ∧ Only [.reasms] s u)) ∧
  (∀ (iss : Issuer) (v : Word) (s : State),
    (mgmtIssuer iss = true → (∀ l < 32, s.lstate l = 0) → Does (.sysidWrite iss v) s (fun u => u.ownPkg = fld v 0 12 ∧ KeepRegs [chvReg 0x900] s u ∧ Only [.regs] s u)) ∧
    (mgmtIssuer iss = false ∨ (∃ l < 32, s.lstate l ≠ 0) → Does (.sysidWrite iss v) s (CountsAt (chvReg 4) s)))

/-- R285, R310 to R312: the system phase lines. A PHASE message is kept as the echo to return; one with a valid echo gives a round trip, and the mean of
the last 16 the delay in CHV_DLY. One with VALID, that arrives when 16 round trips stand, measures every line of an active TYPE 8 port that takes its
LINE from this link, at its arrival less the delay, and ends COAST. PHASE_SEND makes one message ready for each line of LINES, or a PL0 message with
VALID = 0 for ECHO alone. A line with no measurement coasts, and unlocks after HOLDOVER. Commands: PHASE_MESSAGE, PHASE_SEND, PHASE_COAST,
HOLDOVER_EXPIRY. -/
def Obligations.SystemPhase : Prop :=
  (∀ (l : Fin 32) (s : State) (m : Msg) (rx : Nat) (fs : List RxFrame) (freed : Word), AtFront s l 0 m rx fs freed → m.dpkg = s.ownPkg → (s.clink l).isolated = false → m.typ = 6 →
    let k := s.clink l
    let w (i : Nat) : Nat := (nth 0 m.words i).toNat
    let echo := w 5 + 2 ^ 32 * w 6
    let good : Prop := w 7 ≠ 0xFFFFFFFF ∧ echo ∈ k.sentTx
    let trips (u : State) : List Nat := (u.clink l).rtts
    let sum (u : State) : Nat := (trips u).foldl (· + ·) 0
    let dly := chvReg (0xA00 + 4 * l.val)
    Does (.phaseMessage l) s (fun u => (u.clink l).rx = fs ∧ (u.clink l).freed = freed ∧ (u.clink l).echo = some (w 3 + 2 ^ 32 * w 4, rx) ∧ (∀ j, j ≠ l.val → u.clink j = s.clink j) ∧ KeepRegs [dly] s u ∧
      (good → trips u = (k.rtts ++ [((rx : Int) - (echo : Int) - (w 7 : Int)).toNat]).drop (k.rtts.length + 1 - 16) ∧ u.rb dly 31 = decide ((trips u).length = 16) ∧
        ((sum u * 625) / 16 + 1 < 2 ^ 24 → (sum u * 625) / 16 ≤ u.rf dly 0 24 ∧ u.rf dly 0 24 ≤ (sum u * 625 + 15) / 16)) ∧
      (¬ good → trips u = k.rtts ∧ KeepRegs [] s u) ∧
      (bit m.h1 28 = false ∨ s.rb dly 31 = false → ∀ n, u.tline n = s.tline n) ∧
      (bit m.h1 28 = true → s.rb dly 31 = true → ∀ n < 8,
        let p := fld (s.tline n).ctl 24 4
        let mine : Prop := s.tallyRuns = true ∧ (s.tline n).run = true ∧ s.piActive p = true ∧ s.piType p = 8 ∧ s.rf (piReg p 0) 0 8 = l ∧ s.rf (chvReg (0xA80 + 4 * p)) 0 3 = fld m.h1 29 3
        let asym : Int := (BitVec.ofNat 16 (s.rf (chvReg (0x980 + 4 * l.val)) 0 16)).toInt
        (¬ mine → u.tline n = s.tline n) ∧
        (mine → (u.tline n).coast = false ∧ (u.tline n).theta53 = (s.tline n).theta53 ∧ ∃ x, (u.tline n).meas = some x ∧ x.m = ((w 0 * 65536 + w 1 / 65536 : Nat) : Int) * 65536 ∧
          ((rx : Int) - x.ts) * 20000 ≤ (sum u : Int) * 625 + 16 * asym + 20000 ∧ (sum u : Int) * 625 + 16 * asym ≤ ((rx : Int) - x.ts) * 20000 + 20000)))) ∧
  (∀ (l : Fin 32) (s : State), (∀ m ts, s.front l 0 = some (m, ts) → m.typ ≠ 6 ∨ m.dpkg ≠ s.ownPkg ∨ (s.clink l).isolated = true) → exec (.phaseMessage l) s = .next s) ∧
  (∀ (l : Fin 32) (s : State),
    let c := s.rget (chvReg (0x980 + 4 * l.val))
    let k := s.clink l
    let lines := (List.range 8).filter (fun n => bit c (24 + n))
    let tells (n : Nat) (valid : Bool) (e : Nat × Msg) : Prop := e.1 = 0 ∧ e.2.typ = 6 ∧ e.2.dpkg = s.rf (chl l 8) 20 12 ∧ e.2.spkg = s.ownPkg ∧ fld e.2.h1 29 3 = n ∧
      bit e.2.h1 28 = (valid && (s.tline n).valid) ∧ bit e.2.h1 27 = (s.tline n).locked ∧ bit e.2.h1 26 = decide (Store.get 0 k.jumps n ≠ (s.tline n).jumps)
    let same (u : State) : Prop := (∀ j, j ≠ l.val → u.clink j = s.clink j) ∧ KeepRegs [] s u ∧ Only [.links] s u
    (s.lstate l ≠ 5 ∨ k.isolated = true ∨ (lines = [] ∧ bit c 23 = false) → exec (.phaseSend l) s = .next s) ∧
    (s.lstate l = 5 → k.isolated = false → lines ≠ [] → Does (.phaseSend l) s (fun u => same u ∧ ∃ ms : List (Nat × Msg), (u.clink l).txq = k.txq ++ ms ∧ ms.length = lines.length ∧
      ∀ (j n : Nat), lines[j]? = some n → ∃ e : Nat × Msg, ms[j]? = some e ∧ tells n true e)) ∧
    (s.lstate l = 5 → k.isolated = false → lines = [] → bit c 23 = true → Does (.phaseSend l) s (fun u => same u ∧ ∃ e, (u.clink l).txq = k.txq ++ [e] ∧ tells 0 false e))) ∧
  (∀ (n : Fin 8) (s : State),
    let t := s.tline n
    let sys : Prop := s.tallyRuns = true ∧ t.run = true ∧ s.piType (fld t.ctl 24 4) = 8
    let others (u : State) : Prop := ∀ m, m ≠ n.val → u.tline m = s.tline m
    (sys → Does (.phaseCoast n) s (fun u => u.tline n = { t with coast := true } ∧ others u ∧ KeepRegs [] s u ∧ Only [.tlines] s u)) ∧ (¬ sys → exec (.phaseCoast n) s = .next s) ∧
    (sys → t.coast = true → Does (.holdoverExpiry n) s (fun u => (u.tline n).locked = false ∧ (u.tline n).valid = t.valid ∧ (u.tline n).coast = true ∧ others u ∧
      u.rb (plReg n 0x2C) 15 = (s.rb (plReg n 0x2C) 15 || t.locked) ∧ KeepRegs [plReg n 0x2C] s u ∧ Only [.regs, .tlines] s u)) ∧
    (¬ sys ∨ t.coast = false → exec (.holdoverExpiry n) s = .next s))

namespace Sys2Proof

/-- R318, R342, R343: the record of a lasting fault in region r: TNK_EVENT, TNK_ERR.LASTING, TNK_ALARM. -/
def Faulted (s u : State) (r src phys cell outcome : Nat) : Prop :=
  u.rf (tnkEvent r) 28 4 = src ∧ u.rf (tnkEvent r) 23 5 = phys ∧ u.rf (tnkEvent r) 17 6 = cell ∧ u.rf (tnkEvent r) 0 2 = outcome ∧
  u.rf (tnkErr r) 8 8 = min 255 (s.rf (tnkErr r) 8 8 + 1) ∧ u.rb tnkAlarm r = true

/-- R324: member m of pair j of region r is retired: held, the pair runs single on the other, which goes on; Amber, SPARE SYNC. -/
def Retired (s u : State) (r j m : Nat) : Prop :=
  (s.memberOf r j (1 - m) ≠ s.memberOf r j m → (u.clu (s.memberOf r j m)).hold = true ∧ (u.clu (s.memberOf r j (1 - m))).hold = false) ∧ (u.pair (r * 8 + j)).trusted = some (1 - m) ∧
  (u.pair (r * 8 + j)).mism = none ∧ (u.pair (r * 8 + j)).vote = false ∧ u.health r = 1 ∧ u.spareSt r = 1 ∧ u.rf (tnkHealth r) 24 3 = j % 8 ∧ u.rf (tnkHealth r) 5 5 = s.memberOf r j m % 17

/-- R332: region r is in Ash: its gate closed, its pins at PARK with no mark armed, no recovery, the alarm raised. -/
def Ashes (s u : State) (r : Nat) : Prop :=
  u.health r = 2 ∧ (u.region r).gate = true ∧ (u.region r).out = false ∧ (∀ p < 24, (u.pin (r * 24 + p)).q = [] ∧ (u.pin (r * 24 + p)).drv = s.parkOf (r * 24 + p) ∧ (u.pin (r * 24 + p)).parked = true) ∧
  (∀ j < 8, (u.pair (r * 8 + j)).mism = none ∧ (u.pair (r * 8 + j)).vote = false ∧ (u.pair (r * 8 + j)).frames = false ∧ (u.pair (r * 8 + j)).copied = false) ∧ u.swapOf r = none ∧ r ∉ u.spareQ ∧ u.rb tnkAlarm r = true

end Sys2Proof

/-- R317, R318, R321 to R325, R330 to R335, R374: what finds faults and what they cost. A configuration check error that clears is transient; one that
stays is a cluster fault, or a shared fault that is reported and rewritten. Equal twins go on as one token, and only then are their senders
acknowledged; unequal ones are sampled again, and if they differ still, or one is missing, that is a lasting mismatch, and nothing of the pair goes on
until it is settled: by 80 ns the member that offered the token is trusted, or the spare votes. A cluster fault retires a member of a paired region,
holds a cluster for a swap in one with UNPSWAP and a free spare, and is Ash in another, in a region not Celadon, and in one whose spare is in use. In
a region under load it is recorded until the load is over. A free spare that fails is FAILED (log entry 172, the model's choice). A scrub pass counts,
and a frame that fails it is a fault. Commands: CONFIG_CHECK_ERROR, COMPARE_STAGE, MISSING_TWIN, EVIDENCE_WINDOW_EXPIRY, TNK_ASH, FRAME_SCRUB. Choices
and readings of the model that it rests on: log entries 27, 28, 74, 75, 76, 172, 178, 179, 184. -/
def Obligations.FaultsFound : Prop :=
  (∀ (w : CfgPlace) (s : State),
    let r := match w with | .cluster g _ _ => g.val / 17 | .mesh r _ _ => r.val | .pin r _ => r.val
    Does (.configCheckError w false) s (fun u => u.rf (tnkErr r) 16 16 = min 0xFFFF (s.rf (tnkErr r) 16 16 + 1) ∧ KeepRegs [tnkErr r] s u ∧ Only [.regs] s u)) ∧
  (∀ (g : Fin 544) (i : Fin 18) (b : Fin 4096) (s : State),
    let r := g.val / 17
    let cell := if i.val < 16 then 4 * i.val + b.val / 1024 else 0
    let c := Instr.configCheckError (.cluster g i b) true
    let calm : Prop := s.health r = 0 ∧ (s.spareSt r = 0 ∨ s.spareSt r = 4)
    let can : Prop := s.rb ⟨.tnk, r, 0⟩ 30 = true ∧ s.spareSt r = 0
    let F (u : State) (outcome : Nat) : Prop := Faulted s u r 4 (g.val % 17) cell outcome
    (s.underLoad r = true → Does c s (fun u => F u 3 ∧ u.toldFaults = s.toldFaults ++ [(g.val, 4, cell)] ∧ u.health r = s.health r ∧ (u.clu g).hold = (s.clu g).hold)) ∧
    (s.underLoad r = false →
    (s.health r = 2 → Does c s (fun u => F u 3 ∧ u.health r = 2)) ∧
    (s.health r ≠ 2 → ¬ calm → Does c s (fun u => F u 2 ∧ Ashes s u r)) ∧
    (∀ lc, calm → s.logicalOf g = some lc → s.paired r = true → lc < 16 → s.memberOf r (lc / 2) (lc % 2) = g.val → Does c s (fun u => F u 0 ∧ Retired s u r (lc / 2) (lc % 2))) ∧
    (∀ lc, calm → s.logicalOf g = some lc → s.paired r = false →
      (can → Does c s (fun u => F u 1 ∧ (u.clu g).hold = true ∧ u.swapOf r = some (g.val % 17) ∧ u.health r = 1 ∧ u.spareSt r = 1 ∧ u.rf (tnkHealth r) 5 5 = g.val % 17 ∧
        u.spareQ = s.spareQ ++ [r])) ∧
      (¬ can → Does c s (fun u => F u 2 ∧ Ashes s u r))) ∧
    (calm → s.logicalOf g = none → Does c s (fun u => F u 3 ∧ u.health r = 1 ∧ u.spareSt r = 4)))) ∧
  (∀ (r : Fin 32) (i : Fin 8) (b : Fin 4096) (s : State), (s.crcOf (cfgKey 2 r i 0)).isSome = true → Does (.configCheckError (.mesh r i b) true) s (fun u => Faulted s u r 4 31 0 3 ∧ u.health r = s.health r ∧
    u.cfgBytes 2 r i 0 512 = Store.getBytes s.gold (cfgKey 2 r i 0) 512)) ∧
  (∀ (r : Fin 32) (b : Fin 4096) (s : State), (s.crcOf (cfgKey 3 r 0 0)).isSome = true → Does (.configCheckError (.pin r b) true) s (fun u => Faulted s u r 4 31 0 3 ∧ u.health r = s.health r ∧
    u.cfgBytes 3 r 0 0 512 = Store.getBytes s.gold (cfgKey 3 r 0 0) 512)) ∧
  (∀ (r : Fin 32) (j : Fin 8) (k : Fin 41) (glitch late : Bool) (s : State),
    let p := s.pair (r * 8 + j)
    let key := 264 + k.val
    let ka := gsink (s.memberOf r j 0) key
    let kb := gsink (s.memberOf r j 1) key
    let c := Instr.compareStage r j k glitch late
    let mism (u : State) (who : Option Nat) : Prop := u.pair (r * 8 + j) = { p with mism := some key, offered := who } ∧ (∀ q : Nat, q ≠ r * 8 + j → u.pair q = s.pair q) ∧ KeepRegs [] s u ∧ Only [.pairs] s u
    let passes (u s1 : State) (ms : List Nat) (err : Bool) : Prop := (∀ m ∈ ms, u.twin (gsink (s.memberOf r j m) key) = none) ∧ u.bsrcs = s1.bsrcs ∧
      (∀ n, (u.aport n).req = (s1.aport n).req ∧ (u.aport n).data = (s1.aport n).data) ∧ (∀ m ∈ ms, s.sel (s.memberOf r j m) key < 128 → u.offered (s.memberOf r j m) key = none) ∧
      ((∀ m ∈ ms, s.sel (s.memberOf r j m) key < 128) → u.chans = s1.chans ∧ u.aports = s1.aports) ∧
      u.rf (tnkErr r) 16 16 = (if err then min 0xFFFF (s.rf (tnkErr r) 16 16 + 1) else s.rf (tnkErr r) 16 16) ∧ u.pairs = s.pairs
    let from0 (err : Bool) (t : Tok) (s1 : State) : Prop := (if err then s.transient r else s).deliverOut (s.memberOf r j 0) key t = some s1
    (s.paired r = false → exec c s = .next s ∧ exec (.missingTwin r j k) s = .next s) ∧
    (s.paired r = true → p.trusted = none → p.mism = none →
      (∀ a s1, s.twin ka = some a → s.twin kb = some a → from0 (glitch || late) a s1 → Does c s (fun u => passes u s1 [0, 1] (glitch || late))) ∧
      (∀ a, s.twin ka = some a → s.twin kb = some a → (∀ s1, ¬ from0 (glitch || late) a s1) → Does c s (fun u => u.twins = s.twins ∧ Only [.regs] s u)) ∧
      (∀ a b t s1, s.twin ka = some a → s.twin kb = some b → a ≠ b → s.offered (s.memberOf r j 0) key = some t → s.offered (s.memberOf r j 1) key = some t → from0 true t s1 →
        Does c s (fun u => passes u s1 [0, 1] true)) ∧
      (∀ a b, s.twin ka = some a → s.twin kb = some b → a ≠ b → (∀ t, ¬ (s.offered (s.memberOf r j 0) key = some t ∧ s.offered (s.memberOf r j 1) key = some t)) → Does c s (fun u => mism u none)) ∧
      ((s.region r).frozen = false → (∀ a, s.twin ka = some a → s.twin kb = none → Does (.missingTwin r j k) s (fun u => mism u (some 0))) ∧
        (∀ b, s.twin ka = none → s.twin kb = some b → Does (.missingTwin r j k) s (fun u => mism u (some 1)))) ∧
      ((s.region r).frozen = true → exec (.missingTwin r j k) s = .next s)) ∧
    (s.paired r = true → p.trusted = none → p.mism ≠ none → exec c s = .next s ∧ exec (.missingTwin r j k) s = .next s) ∧
    (∀ m t s1, s.paired r = true → p.trusted = some m → s.twin (gsink (s.memberOf r j m) key) = some t → s.deliverOut (s.memberOf r j m) key t = some s1 →
      Does c s (fun u => passes u s1 [m] false))) ∧
  (∀ (r : Fin 32) (j : Fin 8) (s : State),
    let p := s.pair (r * 8 + j)
    let c := Instr.evidenceWindowExpiry r j
    let first : Prop := s.health r = 0 ∧ s.spareSt r = 0
    (p.mism = none ∨ p.vote = true ∨ s.health r = 2 → exec c s = .next s) ∧
    (s.health r ≠ 2 →
    (∀ m, m < 2 → p.mism ≠ none → p.vote = false → p.offered = some m → (first → Does c s (fun u => Faulted s u r 1 (s.memberOf r j (1 - m) % 17) 0 0 ∧ Retired s u r j (1 - m))) ∧
      (¬ first → Does c s (fun u => Faulted s u r 1 (s.memberOf r j (1 - m) % 17) 0 2 ∧ Ashes s u r))) ∧
    (p.mism ≠ none → p.vote = false → p.offered = none → (¬ first → Does c s (fun u => Ashes s u r ∧ u.rf (tnkEvent r) 28 4 = 0 ∧ u.rf (tnkEvent r) 0 2 = 2)) ∧
      (first → s.dom (r * 17 + s.sparePhy r) = 0 → s.dom (dieDom (r / 8)) = 0 → Does c s (fun u => u.pair (r * 8 + j) = { p with vote := true } ∧ (u.clu (s.memberOf r j 0)).hold = true ∧ (u.clu (s.memberOf r j 1)).hold = true ∧
        u.spareSt r = 3 ∧ u.rf (tnkHealth r) 24 3 = j ∧ u.rf (tnkErr r) 4 4 = min 15 (s.rf (tnkErr r) 4 4 + 1) ∧ u.spareQ = s.spareQ ++ [r.val] ∧ u.health r = 0))))) ∧
  (∀ (iss : Issuer) (r : Fin 32) (s : State), (mgmtIssuer iss = true → Does (.tnkAsh iss r) s (Ashes s · r)) ∧ (mgmtIssuer iss = false → Does (.tnkAsh iss r) s (CountsAt ⟨.tnk, r, 0x28⟩ s))) ∧
  (∀ (r : Fin 32) (glitch : Bool) (s : State),
    let ctl : Reg := ⟨.tnk, r, 8⟩
    let scrub : Reg := ⟨.tnk, r, 0x14⟩
    let bad (f : Nat × Nat × Nat × Nat) : Prop := ∃ c, s.crcOf (cfgKey f.1 f.2.1 f.2.2.1 0) = some c ∧ crc32 (s.cfgBytes f.1 f.2.2.2 f.2.2.1 0 512) ≠ c
    let runs : Prop := (s.region r).loaded = true ∧ s.underLoad r = false
    (s.rb ctl 30 = false → exec (.frameScrub r glitch) s = .next s) ∧
    (s.rb ctl 30 = true → Does (.frameScrub r glitch) s (fun u => u.rf scrub 0 16 = (s.rf scrub 0 16 + 1) % 65536 ∧ u.rf scrub 16 16 = s.rf scrub 16 16 ∧
      u.rf (tnkErr r) 16 16 = (if glitch then min 0xFFFF (s.rf (tnkErr r) 16 16 + 1) else s.rf (tnkErr r) 16 16) ∧
      (¬ runs ∨ (∀ f ∈ s.scrubFrames r, ¬ bad f) → KeepRegs [scrub, tnkErr r] s u ∧ Only [.regs] s u) ∧ (runs → (∃ f ∈ s.scrubFrames r, bad f) → u.rb tnkAlarm r = true))))

/-- R325, R327, R329, R330, R341: bringing the spare in. When its turn comes the spare, kept Lit, takes the pair's frames; after a vote the one member
that differs from it is retired, and if both or neither differ the region enters Ash with UNDEC. Then the memories of the trusted member are copied,
and the synchronisation hold copies its cells and its writes since, gives the spare the retired number, sets SPARE INUSE and asks for the confirmation
slice. In an unpaired region the spare takes the number of the held cluster, with its frames, memories and cells, and its locks break (R193). The
staging copy is read from a Lit DRAM (R447). Commands: SPARE_FRAMES_WRITTEN, MEMORY_COPY_COMPLETE, SYNCHRONISATION_HOLD, UNPAIRED_SWAP. Choices and
readings of the model that it rests on: log entries 75, 77, 78, 178. -/
def Obligations.SpareRecovery : Prop :=
  (∀ (r : Fin 32) (s : State),
    let j := s.rf (tnkHealth r) 24 3
    let p := s.pair (r * 8 + j)
    let sp := r * 17 + s.sparePhy r
    let t := s.restoreLatches r (2 * j) sp
    let c := Instr.spareFramesWritten r
    let turn : Prop := s.spareQ.head? = some r.val ∧ s.dramLit = true ∧ (∀ x ∈ s.slices, x.kind ≠ 0 ∨ x.index ≠ sp)
    let free (m : Nat) : Bool := t.sameFrames (s.memberOf r j m) sp
    (¬ turn → exec c s = .next s) ∧
    (turn → s.spareSt r = 3 → p.vote = true →
      (free 0 ≠ free 1 → Does c s (fun u => Retired s u r j (if free 0 then 1 else 0) ∧ (u.pair (r * 8 + j)).frames = true ∧ u.spareQ = s.spareQ.drop 1 ∧ u.cfg = t.cfg)) ∧
      (free 0 = free 1 → Does c s (fun u => Ashes s u r ∧ u.rb (tnkHealth r) 23 = true))) ∧
    (turn → s.spareSt r = 1 → p.trusted ≠ none → p.frames = false → s.dom sp = 0 → s.dom (dieDom (r / 8)) = 0 → Does c s (fun u => u.pair (r * 8 + j) = { p with frames := true } ∧ u.spareQ = s.spareQ.drop 1 ∧ u.cfg = t.cfg ∧
      (∀ q : Nat, q ≠ r * 8 + j → u.pair q = s.pair q) ∧ (∀ n < 64, u.rf (cellStat (sp * 64 + n)) 28 4 = 0) ∧
      KeepRegs (lmpDom 740 :: (List.range 64).map (fun n => cellStat (sp * 64 + n))) s u)) ∧
    (turn → ¬ (s.spareSt r = 3 ∧ p.vote = true) → ¬ (s.spareSt r = 1 ∧ p.trusted ≠ none ∧ p.frames = false) → exec c s = .next s)) ∧
  (∀ (r : Fin 32) (s : State),
    let sp := r * 17 + s.sparePhy r
    (s.recovering r = none → exec (.memoryCopyComplete r) s = .next s ∧ DoesThen (.synchronisationHold r) s (fun u => u = s)) ∧
    (∀ j g old, s.recovering r = some (j, g, old) → g ≠ sp → Canonical s →
      let p := s.pair (r * 8 + j)
      Does (.memoryCopyComplete r) s (fun u => u.pair (r * 8 + j) = { p with copied := true } ∧ (∀ m < 2, u.bmem (2 * sp + m) = { s.bmem (2 * g + m) with busy := false } ∧
        ∀ o < 16384, u.bbyte ((2 * sp + m) * 16384 + o) = s.bbyte ((2 * g + m) * 16384 + o)) ∧ (∀ x o, o < 16384 → x / 2 ≠ sp → u.bbyte (x * 16384 + o) = s.bbyte (x * 16384 + o)) ∧ KeepRegs [] s u ∧ Only [.pairs, .bmems, .bbytes] s u) ∧
      (p.copied = false ∨ (∃ k < 41, s.twin (gsink g (264 + k)) ≠ none) → DoesThen (.synchronisationHold r) s (fun u => u = s)) ∧
      (∀ lc, p.copied = true → (∀ k < 41, s.twin (gsink g (264 + k)) = none) → s.logicalOf old = some lc → lc < 16 → DoesThen (.synchronisationHold r) s (fun u =>
        u.pair (r * 8 + j) = {} ∧ u.spareSt r = 2 ∧ u.physOf r lc = s.sparePhy r ∧ u.clu sp = {} ∧ (∀ n < 64, (u.cell (64 * sp + n)).w0 = (s.cell (64 * g + n)).w0 ∧ (u.cell (64 * sp + n)).slot = (s.cell (64 * g + n)).slot ∧
          (u.cell (64 * sp + n)).link = (s.cell (64 * g + n)).link ∧ (u.cell (64 * sp + n)).ox.tok = (s.cell (64 * g + n)).ox.tok) ∧
        u.slices = (if s.rb (asyReg 8) 30 then s.slices else s.slices ++ [{ kind := 0, index := old, confirm := some (old / 17) }]))))) ∧
  (∀ (r : Fin 32) (s : State),
    let sp := r * 17 + s.sparePhy r
    let turn : Prop := s.spareQ.head? = some r.val ∧ s.dramLit = true ∧ (∀ x ∈ s.slices, x.kind ≠ 0 ∨ x.index ≠ sp)
    (s.swapOf r = none ∨ ¬ turn → DoesThen (.unpairedSwap r) s (fun u => u = s)) ∧
    (∀ c lc, s.swapOf r = some c → s.logicalOf (r * 17 + c) = some lc → lc < 16 → turn → s.dom sp = 0 → s.dom (dieDom (r / 8)) = 0 → DoesThen (.unpairedSwap r) s (fun u =>
      u.health r = s.health r ∧ u.spareSt r = 2 ∧ u.physOf r lc = s.sparePhy r ∧ u.swapOf r = none ∧ u.clu sp = {} ∧ u.spareQ = s.spareQ.drop 1 ∧ u.cfg = (s.restoreLatches r lc sp).cfg ∧
      (∀ b < 128, ∀ i, (s.bank b).lock = some i → portOfCluster r lc i = true → (u.bank b).lock = none) ∧
      u.slices = (if s.rb (asyReg 8) 30 then s.slices else s.slices ++ [{ kind := 0, index := r * 17 + c, confirm := some r.val }]))))

/-- R336 to R340, R344: slices. A request for an eligible element, with a reference, waits its turn; one not eligible is counted. A run that passes ends
the slice; a first failure runs it again; a pass then is transient, a second failure lasting: counted and the element marked FAILED. A run past its
budget fails. A run on a bank is over once every word was visited; one of kind 2 fails on the nonzero syndromes it met, and one of kind 1 whose bank
took an owner is abandoned (log entry 164). ASY_RES and ASY_SIG show the result. A background slice on a spare that a swap needs is abandoned. With
BGEN = 1 a background slice goes to the next eligible element not marked. Commands: SLICE_REQUEST, SLICE_COMPLETE, SLICE_BUDGET_EXCEEDED,
SLICE_ABANDON, BACKGROUND_SLICE. Choices and readings of the model that it rests on: log entries 79, 80, 81, 82, 83, 164. -/
def Obligations.AssayerSlices : Prop :=
  (∀ (iss : Issuer) (kind : Fin 8) (index : Fin 1024) (s : State),
    let c := Instr.sliceRequest iss kind index
    let asked (u : State) : Prop := u.rf (asyReg 4) 28 3 = kind ∧ u.rf (asyReg 4) 0 10 = index
    (mgmtIssuer iss = false → Does c s (CountsAt (asyReg 0x18) s)) ∧
    (mgmtIssuer iss = true → s.sliceEligible kind index = false → Does c s (fun u => asked u ∧ u.rf (asyReg 0x18) 0 16 = min 0xFFFF (s.rf (asyReg 0x18) 0 16 + 1) ∧ KeepRegs [asyReg 4, asyReg 0x18] s u ∧ Only [.regs] s u)) ∧
    (mgmtIssuer iss = true → s.sliceEligible kind index = true → s.sliceRuns kind = false → Does c s (fun u => asked u ∧ KeepRegs [asyReg 4] s u ∧ Only [.regs] s u)) ∧
    (mgmtIssuer iss = true → s.sliceEligible kind index = true → s.sliceRuns kind = true → Does c s (fun u => asked u ∧ u.slices = s.slices ++ [{ kind := kind, index := index }] ∧
      (kind ≠ 1 → kind ≠ 4 → KeepRegs [asyReg 4] s u ∧ Only [.regs, .slices, .sliceEnded, .banks] s u)))) ∧
  (∀ (kind : Fin 8) (index : Fin 1024) (sig : Word) (s : State),
    let fin (late : Bool) (c : Instr) : Prop :=
      let sg : Word := if kind.val = 2 then BitVec.ofNat 32 (s.bank index).testBad else sig
      let pass : Prop := late = false ∧ sg = (if kind.val = 2 then 0 else Config.sliceRef kind)
      let onBank : Prop := kind.val = 1 ∨ kind.val = 2
      let owned : Prop := kind.val = 1 ∧ s.rf (sb index 0) 29 3 ≠ 0
      let left : Prop := late = false ∧ onBank ∧ (s.bank index).testPos < 131072
      (s.runningOn kind index = none → DoesThen c s (fun u => u = s)) ∧
      (∀ x, s.runningOn kind index = some x → (onBank → ((s.bank index).cur.map (·.who)) ≠ some .slice) →
        let shows (u : State) (res : Nat) : Prop := u.rf (asyReg 0xC) 30 2 = res ∧ u.rf (asyReg 0xC) 27 3 = x.kind % 8 ∧ u.rf (asyReg 0xC) 0 10 = x.index % 1024 ∧
          u.slices = s.slices.filter (fun y => y != x) ∧ u.asyNews = true
        let signs (u : State) : Prop := u.rf (asyReg 0x10) 0 32 = sg.toNat
        (owned → DoesThen c s (fun u => shows u 3 ∧ KeepRegs [asyReg 0xC, asyReg 0x10] s u)) ∧
        (¬ owned → left → DoesThen c s (fun u => u = s)) ∧
        (¬ owned → ¬ left →
        (¬ pass → x.again = false → DoesThen c s (fun u => u.slices = s.slices.map (fun y => if y = x then { x with again := true } else y) ∧ KeepRegs [] s u ∧ Only [.slices, .banks] s u ∧
          (onBank → (u.bank index).testPos = 0 ∧ (u.bank index).testBad = 0))) ∧
        (pass → x.kind < 8 → x.confirm = none → DoesThen c s (fun u => shows u (if x.again then 1 else 0) ∧ signs u ∧
          u.rf (asyReg 0x14) 0 16 = (if x.again then min 0xFFFF (s.rf (asyReg 0x14) 0 16 + 1) else s.rf (asyReg 0x14) 0 16) ∧ u.rf (asyReg 0x14) 16 16 = s.rf (asyReg 0x14) 16 16)) ∧
        (pass → x.kind = 0 → x.confirm ≠ none → s.spareSt (x.index / 17) = 2 → s.health (x.index / 17) = 1 → DoesThen c s (fun u => shows u (if x.again then 1 else 0) ∧ signs u ∧ u.health (x.index / 17) = 0 ∧
          u.spareSt (x.index / 17) = 0 ∧ u.sparePhy (x.index / 17) = x.index % 17 ∧ u.clu x.index = {})) ∧
        (¬ pass → x.index < sliceCount x.kind → x.again = true → DoesThen c s (fun u => shows u 2 ∧ signs u ∧ u.rf (asyReg 0x14) 16 16 = min 0xFFFF (s.rf (asyReg 0x14) 16 16 + 1) ∧ u.rb (failBit x.kind x.index).1 (failBit x.kind x.index).2 = true))))
    fin false (.sliceComplete kind index sig) ∧ fin true (.sliceBudgetExceeded kind index sig)) ∧
  (∀ (g : Fin 544) (s : State),
    let r := g.val / 17
    let needed : Prop := s.sparePhy r = g.val % 17 ∧ ((s.swapOf r).isSome = true ∨ s.spareSt r = 1 ∨ s.spareSt r = 3)
    (∀ x, s.runningOn 0 g = some x → x.background = true → needed → x.kind = 0 → x.index = g.val → Does (.sliceAbandon g) s (fun u => u.slices = s.slices.filter (fun y => y != x) ∧ u.rf (asyReg 0xC) 30 2 = 3 ∧
      u.rf (asyReg 0xC) 27 3 = 0 ∧ u.rf (asyReg 0xC) 0 10 = g ∧ u.rget (asyReg 0x14) = s.rget (asyReg 0x14))) ∧
    ((∀ x, s.runningOn 0 g = some x → x.background = false ∨ ¬ needed) → exec (.sliceAbandon g) s = .next s)) ∧
  (∀ s : State,
    let n := sweepList.length
    let at_ (k : Nat) : Nat × Nat := nth (0, 0) sweepList ((s.sweep + k) % n)
    (s.rb (asyReg 0) 30 = false ∨ 16 ≤ s.running.length ∨ (∀ k < n, s.sweepable (at_ k) = false) → exec .backgroundSlice s = .next s) ∧
    (∀ k < n, s.rb (asyReg 0) 30 = true → s.running.length < 16 → s.sweepable (at_ k) = true → (∀ i < k, s.sweepable (at_ i) = false) →
      Does .backgroundSlice s (fun u => u.slices = s.slices ++ [{ kind := (at_ k).1, index := (at_ k).2, background := true }] ∧ u.sweep = ((s.sweep + k) % n + 1) % n)))

namespace Sys2Proof

/-- A load has ended with a code, at frame address `fa` (R361, R365, R375): no load runs, CMP_STAT shows CODE with BUSY = 0 and PHASE 0, and CMP_FADDR holds `fa`. -/
def Ended (u : State) (code : Nat) (fa : Word) : Prop :=
  u.load = none ∧ u.loadEnded = some code ∧ u.rf (cmpReg 0) 0 8 = code ∧ u.rb (cmpReg 0) 31 = false ∧ u.rf (cmpReg 0) 24 4 = 0 ∧ u.rget (cmpReg 8) = fa.setWidth 64

/-- A load of `img` has begun and stages (R365 steps 1 and 2, R372 steps 1 to 3, R375): BUSY, PHASE 2, no frame yet, the frame engine Lit. -/
def Staging (u : State) (l : Load) : Prop :=
  u.load = some l ∧ u.rb (cmpReg 0) 31 = true ∧ u.rf (cmpReg 0) 24 4 = 2 ∧ u.rget (cmpReg 8) = 0 ∧ u.rget (cmpReg 0xC) = 0 ∧ u.dom 740 = 0

/-- Region r is quarantined for a load (R147, R365, R372): its gate is closed, its pins are off, CMP_QUAR shows it, and once what the gate had accepted has
drained its cells are under set-reset. -/
def Quarantined (u : State) (r : Nat) : Prop :=
  (u.region r).gate = true ∧ (u.region r).out = false ∧ u.rb (cmpReg 0x18) r = true ∧ ((u.region r).drain = false → (u.region r).reset = true)

end Sys2Proof

/-- R360, R361, R365 to R374: how loads begin and end. A request while a load runs changes nothing. Otherwise its regions are quarantined and checks 1 and
2 are made: the image stages, or the load ends with their code: a full load leaves the fabric unconfigured, a partial one its region quarantined.
Staging waits for the gates to drain and for the DRAM (R147, R447). Checks 3 to 5 end a load in the same way, but a primary image at boot gives way to
the golden one. An abort ends a load ABORTED, and the lock wait limit STARTUP_TIMEOUT. Commands: FULL_LOAD, PARTIAL_LOAD, STAGING_COMPLETE, CMP_ABORT,
STARTUP_TIMEOUT. Choices and readings of the model that it rests on: log entries 61, 62, 63, 64, 67, 72, 181. -/
def Obligations.LoadRequests : Prop :=
  (∀ (src : Source) (s : State),
    let b := s.sourceImage src
    let used (u : State) : Prop := ∀ i, src = .slot i → u.staged = none
    (s.load.isSome = true → DoesThen (.fullLoad src) s (fun u => u = s)) ∧
    (s.load = none → imgHeader b none = none → DoesThen (.fullLoad src) s (fun u => Staging u { image := b, phase := 2 } ∧ u.rb (cmpReg 0) 23 = false ∧ (∀ r < 32, Quarantined u r) ∧ used u)) ∧
    (∀ c, s.load = none → imgHeader b none = some c → DoesThen (.fullLoad src) s (fun u => Ended u c 0 ∧ u.rb (cmpReg 0) 28 = true ∧ u.rget (cmpReg 0x18) = 0 ∧
      (∀ r < 32, (u.region r).gate = true ∧ (u.region r).loaded = false ∧ u.health r = 2) ∧ used u)) ∧
    (∀ r : Fin 32,
      (s.load.isSome = true → DoesThen (.partialLoad r src) s (fun u => u = s)) ∧
      (s.load = none → imgHeader b (some r) = none → DoesThen (.partialLoad r src) s (fun u => Staging u { part := some r, image := b, phase := 2 } ∧ u.rb (cmpReg 0) 23 = true ∧ u.rf (cmpReg 0) 18 5 = r ∧
        Quarantined u r ∧ (∀ q : Nat, q ≠ r → u.region q = s.region q) ∧ used u)) ∧
      (∀ c, s.load = none → imgHeader b (some r) = some c → DoesThen (.partialLoad r src) s (fun u => Ended u c 0 ∧ Quarantined u r ∧ (∀ q : Nat, q ≠ r → u.region q = s.region q) ∧ used u)))) ∧
  (∀ s : State,
    ((∀ l, s.load = some l → l.phase ≠ 2 ∨ s.loadDrains l = true) → DoesThen .stagingComplete s (fun u => u = s)) ∧
    (∀ l c, s.load = some l → l.phase = 2 → s.loadDrains l = false → s.imgChecks l.image = some c →
      (l.boot = false ∨ l.golden = true → DoesThen .stagingComplete s (fun u => Ended u c 0 ∧ (l.part = none → u.rb (cmpReg 0) 28 = true ∧ ∀ r < 32, (u.region r).loaded = false))) ∧
      (l.boot = true → l.golden = false → imgHeader (s.slotImage 1) none = none → DoesThen .stagingComplete s (fun u => Staging u { boot := true, golden := true, image := s.slotImage 1, phase := 2 } ∧
        u.rf (cmpReg 0) 8 8 = c ∧ ∀ r < 32, Quarantined u r)) ∧
      (l.boot = true → l.golden = false → ∀ d, imgHeader (s.slotImage 1) none = some d → DoesThen .stagingComplete s (fun u => Ended u d 0 ∧ u.rf (cmpReg 0) 8 8 = c ∧ u.rb (cmpReg 0) 28 = true))) ∧
    (∀ l, s.load = some l → l.phase = 2 → s.loadDrains l = false → s.imgChecks l.image = none →
      let img := s.imgPlain l.image
      DoesThen .stagingComplete s (fun u => (∃ k, u.load = some k ∧ k.image = img ∧ k.next = l.next ∧ k.part = l.part ∧ k.started = l.started ∧ k.phase = (if imgFrames img = 0 then 4 else 3)) ∧
        u.rf (cmpReg 0) 24 4 = (if imgFrames img = 0 then 4 else 3) ∧ u.imgHash = (if l.part = none then sha256 (l.image.take (imgTrailer l.image + 8)) else s.imgHash)))) ∧
  (∀ (iss : Issuer) (s : State),
    (mgmtIssuer iss = false → DoesThen (.cmpAbort iss) s (CountedAt (cmpReg 0x28) [.regs] s)) ∧
    (mgmtIssuer iss = true → s.load = none → DoesThen (.cmpAbort iss) s (fun u => u = s)) ∧
    (mgmtIssuer iss = true → ∀ l, s.load = some l → DoesThen (.cmpAbort iss) s (fun u => Ended u 2 0 ∧ (∀ q ∈ l.started, (u.region q).loaded = false) ∧ ∀ q, (u.region q).gate = (s.region q).gate ∧ u.rb (cmpReg 0x18) q = s.rb (cmpReg 0x18) q))) ∧
  (∀ s : State,
    let due (l : Load) : Prop := l.phase = 5 ∧ l.steps.head? = some 0 ∧ s.linesLocked l = false ∧ imgLockwait l.image % 2 ^ 16 ≠ 0
    ((∀ l, s.load = some l → ¬ due l) → DoesThen .startupTimeout s (fun u => u = s)) ∧
    (∀ l, s.load = some l → due l → DoesThen .startupTimeout s (fun u => Ended u 0x30 0 ∧ u.regions = s.regions)))

/-- R345 to R347, R360 checks 6 and 7, R362, R365 steps 5 to 9, R367, R368: the steps of a load. A frame is checked, written, kept in the staging copy
with its CRC-32, read back, and counted; a transient mismatch is counted; a lasting one in a cluster's frame moves the cluster to the free spare,
where its frames are written again, or leaves its region unloaded; one in another frame ends the load with WRITE_FAIL, and a frame that fails its
check ends it with its code and address; an address outside a partial image's region is counted besides (R33). After the last frame the memories
initialise, channels match, and the start-up codes run, each in every region of the load; then its gates open. Commands: FRAME_WRITE,
MEMORY_INIT_COMPLETE, START_UP_SEQUENCE, STARTUP_WAIT_LOCK. Choices and readings of the model that it rests on: log entries 65, 66, 68, 69, 70, 71,
153, 162, 180, 181, 182, 184. -/
def Obligations.LoadSteps : Prop :=
  (∀ (v : Verify) (s : State),
    ((∀ l, s.load = some l → l.phase ≠ 3 ∨ s.dramLit = false) → DoesThen (.frameWrite v) s (fun u => u = s)) ∧
    (∀ (l : Load) (i g : Nat) (rest : List (Nat × Nat)), s.load = some l → l.phase = 3 → s.dramLit = true → l.redo = (i, g) :: rest →
      let a := frameAddr l.image i
      let p := framePay l.image i
      let l1 : Load := { l with redo := rest }
      let on (u : State) : Prop := (rest ≠ [] ∨ l.next < imgFrames l.image → u.load = some l1) ∧ (rest = [] → imgFrames l.image ≤ l.next → u.load = some { l1 with phase := 4 }) ∧
        (faKind a = 0 → p.length = 512 → u.cfgBytes 0 g (faIndex a) 0 512 = p)
      (v = .good → DoesThen (.frameWrite v) s on) ∧
      (v = .transient → DoesThen (.frameWrite v) s (fun u => on u ∧ u.rf (cmpReg 0x24) 16 8 = min 255 (s.rf (cmpReg 0x24) 16 8 + 1))) ∧
      (∀ b, v = .lasting b → DoesThen (.frameWrite v) s (fun u => u.rf (cmpReg 0x24) 24 8 = min 255 (s.rf (cmpReg 0x24) 24 8 + 1) ∧ (u.region (faRegion a)).loaded = false ∧
        u.health (faRegion a) = 2 ∧ (l.next < imgFrames l.image → ∃ k, u.load = some k ∧ k.next = l.next ∧ k.redo = [] ∧ faRegion a ∈ k.noSpare ∧ faRegion a ∉ k.started)))) ∧
    (∀ l, s.load = some l → l.phase = 3 → s.dramLit = true → l.redo = [] →
      let a := frameAddr l.image l.next
      let p := framePay l.image l.next
      let r := faRegion a
      let k := faKind a
      let i := faIndex a
      let skip : Prop := faInRegion a = true ∧ r ∈ l.noSpare
      let more : Prop := l.next + 1 < imgFrames l.image
      let first : Bool := faInRegion a && !l.started.contains r
      let on (u : State) : Prop := (more → u.load = some { l with next := l.next + 1, started := if first then l.started ++ [r] else l.started }) ∧
        (¬ more → u.load = some { l with next := l.next + 1, started := (if first then l.started ++ [r] else l.started), phase := 4 } ∧ u.rf (cmpReg 0) 24 4 = 4)
      let kept (u : State) : Prop := p.length = 512 →
        (k ≤ 4 → let key := cfgKey k (if k ≤ 1 then r * 17 + faClus a else r) i 0
          u.crcOf key = some (crc32 p) ∧ Store.getBytes u.gold key 512 = p) ∧
        (2 ≤ k → u.cfgBytes k (if k ≤ 4 then r else if k = 9 then fld a 26 2 else 0) i 0 512 = p)
      (skip → more → DoesThen (.frameWrite v) s (fun u => u.load = some { l with next := l.next + 1 } ∧ Only [.load] s u)) ∧
      (∀ c, ¬ skip → frameCheck l l.next = some c → l.boot = false ∨ l.golden = true → DoesThen (.frameWrite v) s (fun u => Ended u c a ∧
        u.rf (cmpReg 0x28) 0 16 = if c = 0x20 then min 0xFFFF (s.rf (cmpReg 0x28) 0 16 + 1) else s.rf (cmpReg 0x28) 0 16)) ∧
      (¬ skip → frameCheck l l.next = none →
        (v = .good → DoesThen (.frameWrite v) s (fun u => on u ∧ kept u ∧ u.rf (cmpReg 0xC) 0 16 = (s.rf (cmpReg 0xC) 0 16 + 1) % 65536)) ∧
        (v = .transient → DoesThen (.frameWrite v) s (fun u => on u ∧ kept u ∧ u.rf (cmpReg 0x24) 16 8 = min 255 (s.rf (cmpReg 0x24) 16 8 + 1))) ∧
        (∀ b, v = .lasting b → 2 ≤ k → l.boot = false ∨ l.golden = true → DoesThen (.frameWrite v) s (fun u => Ended u 0x23 a ∧ u.rget (cmpReg 0xC) = s.rget (cmpReg 0xC) ∧
          u.rf (cmpReg 0x24) 24 8 = min 255 (s.rf (cmpReg 0x24) 24 8 + 1))) ∧
        (∀ b, v = .lasting b → k ≤ 1 → first = false →
          let lc := faClus a + (if b = true ∧ s.paired r = true then 1 else 0)
          let old := s.physOf r lc
          let sp := s.sparePhy r
          (s.spareSt r = 0 → lc < 16 → DoesThen (.frameWrite v) s (fun u => u.physOf r lc = sp ∧ u.spareSt r = 2 ∧ u.health r = 1 ∧ u.rf (tnkHealth r) 5 5 = old ∧
            u.rf (cmpReg 0x24) 24 8 = min 255 (s.rf (cmpReg 0x24) 24 8 + 1) ∧
            u.slices = (if s.rb (asyReg 8) 30 then s.slices else s.slices ++ [{ kind := 0, index := r * 17 + old, confirm := some ((r * 17 + old) / 17) }]) ∧
            u.load = some { l with next := l.next + 1, redo := ((List.range (l.next + 1)).filter (fun n =>
              let x := frameAddr l.image n
              decide (faKind x ≤ 1 ∧ faRegion x = r ∧ faClus x = faClus a))).map (fun n => (n, r * 17 + sp)) })) ∧
          (s.spareSt r ≠ 0 → DoesThen (.frameWrite v) s (fun u => (u.region r).loaded = false ∧ u.health r = 2 ∧ u.rf (cmpReg 0x24) 24 8 = min 255 (s.rf (cmpReg 0x24) 24 8 + 1) ∧
            (more → u.load = some { l with next := l.next + 1, noSpare := r :: l.noSpare, started := l.started.filter (· != r), redo := [] }))))))) ∧
  (∀ s : State,
    ((∀ l, s.load = some l → ¬ (l.phase = 4 ∧ s.initDone l = true)) → DoesThen .memoryInitComplete s (fun u => u = s)) ∧
    (∀ l, s.load = some l → l.phase = 4 → s.initDone l = true → DoesThen .memoryInitComplete s (fun u =>
      u.load = some { l with phase := 5, steps := (List.range 4).map (fun i => imgStartup l.image / 4 ^ i % 4) } ∧ u.rf (cmpReg 0) 24 4 = 5 ∧ (∀ r ∈ l.live, (u.region r).loaded = true) ∧
      Only [.regs, .regions, .chans, .load] s u))) ∧
  (∀ s : State,
    ((∀ l, s.load = some l → l.phase ≠ 5) → DoesThen .startUpSequence s (fun u => u = s)) ∧
    (∀ l t, s.load = some l → l.phase = 5 → l.steps = 0 :: t → s.linesLocked l = false → DoesThen .startUpSequence s (fun u => u = s)) ∧
    (∀ l c, s.load = some l → l.phase = 5 → s.linesLocked l = true → (∀ e ∈ s.toldFaults, e.1 / 17 ∉ l.live) → c = .startUpSequence ∨ (l.steps.head? = some 0 ∧ c = .startupWaitLock) → DoesThen c s (fun u => Ended u (if l.noSpare = [] then 0 else 0x24) 0 ∧
      (∀ r ∈ l.live, (u.region r).gate = false ∧ (u.region r).loaded = true ∧ (1 ∈ l.steps → (u.region r).out = true) ∧ (2 ∈ l.steps → (u.region r).reset = false) ∧
        (3 ∈ l.steps → (u.region r).writes = true) ∧ (r < 32 → u.rb (cmpReg 0x18) r = false)))) ∧
    ((∀ l, s.load = some l → ¬ (l.steps.head? = some 0 ∧ s.linesLocked l = true)) → exec .startupWaitLock s = .next s))

/-- R376, R377, R379 to R381, R385 to R387, R391: keys and reports. A key command of the management complex clears LSM_KLOAD; one that the slot's state, a
programme in progress or a running load forbids, or a reserved CMD, is ignored and counted. A battery slot takes its key at once, an eFuse slot and an
owner slot when their programme completes; a revoked slot stays revoked. The tamper erase empties the battery slots, ends a load of an encrypted image
and, with TSTOP, puts regions of encrypted designs in Ash. A report goes, signed, to the session that asked. Commands: KCMD_WRITE, KCMD_ERASE,
KCMD_REVOKE, KCMD_OWNER, KCMD_REVOKE_OWNER, KCMD_RESERVED, EFUSE_PROGRAM_COMPLETE, TAMPER, NOTARY_SIGN_COMPLETE. Choices and readings of the model
that it rests on: log entries 33, 84, 85, 86, 87, 88. -/
def Obligations.KeysAndReports : Prop :=
  (∀ (iss : Issuer) (slot : Fin 8) (k : Fin 11) (s : State),
    let kl : List Reg := (List.range 8).map (fun n => lsmReg (0x20 + 4 * n))
    let cleared (u : State) : Prop := ∀ g ∈ kl, u.rget g = 0
    let refused (c : Instr) : Prop := Does c s (fun u => cleared u ∧ u.rf (lsmReg 0x10) 0 16 = min 0xFFFF (s.rf (lsmReg 0x10) 0 16 + 1) ∧ KeepRegs (lsmReg 0x10 :: kl) s u ∧ Only [.regs] s u)
    let done (c : Instr) (l : List Field) (p : State → Prop) : Prop := Does c s (fun u => cleared u ∧ p u ∧ KeepRegs kl s u ∧ Only (.regs :: l) s u)
    let x := s.kslot slot
    let o := s.oslot (slot % 4)
    let idle : Prop := s.kcmd = none ∧ s.loadSlot slot = false
    let only (u : State) (y : KSlot) : Prop := u.kslot slot = y ∧ ∀ j : Nat, j ≠ slot → u.kslot j = s.kslot j
    (complexIssuer iss = false → ∀ c ∈ [Instr.kcmdWrite iss slot, .kcmdErase iss slot, .kcmdRevoke iss slot, .kcmdOwner iss slot, .kcmdRevokeOwner iss slot, .kcmdReserved iss k slot], Does c s (CountedAt (lsmReg 0x10) [.regs] s)) ∧
    (complexIssuer iss = true →
      refused (.kcmdReserved iss k slot) ∧
      (¬ (idle ∧ (4 ≤ slot.val ∨ x.st = 0)) → refused (.kcmdWrite iss slot)) ∧ (¬ (idle ∧ 4 ≤ slot.val) → refused (.kcmdErase iss slot)) ∧
      (¬ (idle ∧ slot.val < 4 ∧ (x.st = 1 ∨ x.st = 3)) → refused (.kcmdRevoke iss slot)) ∧
      (¬ (s.kcmd = none ∧ o.prog = false) → refused (.kcmdOwner iss slot)) ∧ (¬ (s.kcmd = none ∧ o.prog = true ∧ o.rev = false) → refused (.kcmdRevokeOwner iss slot)) ∧
      (idle → 4 ≤ slot.val → done (.kcmdWrite iss slot) [.kslots] (only · { st := 1, key := s.kload }) ∧ done (.kcmdErase iss slot) [.kslots] (only · {})) ∧
      (idle → slot.val < 4 → x.st = 0 → done (.kcmdWrite iss slot) [.kcmd] (fun u => u.kcmd = some ⟨1, slot, s.kload⟩)) ∧
      (idle → slot.val < 4 → x.st = 1 ∨ x.st = 3 → done (.kcmdRevoke iss slot) [.kslots] (only · { st := 2 })) ∧
      (s.kcmd = none → o.prog = false → done (.kcmdOwner iss slot) [.kcmd] (fun u => u.kcmd = some ⟨4, slot % 4, s.kload⟩)) ∧
      (s.kcmd = none → o.prog = true → o.rev = false → done (.kcmdRevokeOwner iss slot) [.oslots] (fun u => u.oslot (slot % 4) = { o with rev := true } ∧ ∀ j, j ≠ slot.val % 4 → u.oslot j = s.oslot j)))) ∧
  (∀ s : State,
    (s.kcmd = none → DoesThen .efuseProgramComplete s (fun u => u = s)) ∧
    (∀ c, s.kcmd = some c → c.cmd = 1 → DoesThen .efuseProgramComplete s (fun u => u.kcmd = none ∧ u.kslot c.slot = (if (s.kslot c.slot).st = 2 then s.kslot c.slot else { st := 1, key := c.data }) ∧
      (∀ j, j ≠ c.slot → u.kslot j = s.kslot j) ∧ Only [.kcmd, .kslots] s u)) ∧
    (∀ c, s.kcmd = some c → c.cmd ≠ 1 → DoesThen .efuseProgramComplete s (fun u => u.kcmd = none ∧ u.oslot c.slot = { s.oslot c.slot with prog := true, digest := c.data } ∧
      (∀ j, j ≠ c.slot → u.oslot j = s.oslot j) ∧ Only [.kcmd, .oslots] s u))) ∧
  (∀ s : State,
    let on : Prop := s.rb (lsmReg 4) 31 = true ∧ (s.vin = true ∨ s.vbat = true)
    let erased (u : State) : Prop := (∀ i < 8, u.kslot i = if 4 ≤ i then {} else s.kslot i) ∧ u.rb (lsmReg 0) 31 = true
    (¬ on → exec .tamper s = .next s) ∧
    (on → s.vin = false → DoesThen .tamper s (fun u => erased u ∧ KeepRegs [lsmReg 0] s u ∧ Only [.regs, .kslots] s u)) ∧
    (on → s.vin = true → s.rb (lsmReg 4) 30 = false → (∀ l, s.load = some l → imgEnc l.image = false) → DoesThen .tamper s (fun u => erased u ∧ KeepRegs [lsmReg 0] s u ∧ Only [.regs, .kslots] s u)) ∧
    (on → s.vin = true → ∀ l, s.load = some l → imgEnc l.image = true → l.boot = false ∨ l.golden = true → DoesThen .tamper s (fun u => erased u ∧ Ended u 0x14 0)) ∧
    (on → s.vin = true → s.rb (lsmReg 4) 30 = true → s.load = none → DoesThen .tamper s (fun u => erased u ∧ ∀ r < 32, s.rb (cmpReg 0x14) r = true → u.health r = 2 ∧ (u.region r).gate = true))) ∧
  (∀ s : State,
    let sid := nth 0 s.ix.signQ 0
    (s.reports = [] → DoesThen .notarySignComplete s (fun u => u = s)) ∧
    (∀ b rest, s.reports = b :: rest →
      let out := b ++ beBytes 384 (Config.identitySig (sha256 b)).toNat
      ((∀ x r, s.session sid = some x → x.run = some r → r.wait ≠ .sign) → DoesThen .notarySignComplete s (fun u => u.reports = rest ∧ u.signed = some out ∧ u.ix = { s.ix with signQ := s.ix.signQ.drop 1 } ∧
        u.rb (ntyReg 0) 30 = !rest.isEmpty ∧ KeepRegs [ntyReg 0] s u ∧ Only [.regs, .reports, .signed, .ix] s u)) ∧
      (∀ x r, s.session sid = some x → x.run = some r → r.wait = .sign → DoesThen .notarySignComplete s (fun u => u.reports = rest ∧ u.signed = none ∧ ∃ y, u.session sid = some y ∧ y.run = none ∧
        y.replies.head? = some (r.seq, replyPkt (0x0100 + x.minor) r.op r.seq sid 0 0 out)))))

namespace Sys2Proof

/-- R10, R12, R378, R483, R504: `t` is what a reset leaves of `s`: every field at its reset value but the flash, the fuses, the supplies, the level outside the pads and the model's own counters; every register at its Reset value but
those kept: TAMPER and TEN (on VBAT), and WDG_STAT after a package reset; an eFuse programme that the reset cuts short is noted; in a thermal hold every domain is Cold (R485). -/
structure AfterReset (por : Bool) (s t : State) : Prop where
  only : Only [.pending, .free, .regs, .rdata, .flash, .epoch, .memEpoch, .kslots, .oslots, .cutSlots, .tkrev, .fwsvn, .vin, .vbat, .bbGone, .hot, .gexts, .ixOut, .pins] State.reset t
  kept : t.pending = s.pending ∧ t.rdata = s.rdata ∧ t.kslots = s.kslots ∧ t.tkrev = s.tkrev ∧ t.fwsvn = s.fwsvn ∧ t.vin = s.vin ∧ t.vbat = s.vbat ∧ t.bbGone = s.bbGone ∧ t.hot = s.hot ∧ t.gexts = s.gexts ∧ t.ixOut = s.ixOut
  flash : s.ix.jobs = [] → t.flash = s.flash
  cut : (∀ c, s.kcmd = some c → c.cmd = 1 → t.cutSlots = c.slot :: s.cutSlots) ∧ (s.kcmd = none → t.cutSlots = s.cutSlots ∧ t.oslots = s.oslots)
  pins : ∀ p, t.pin p = { pad := (s.pin p).pad, ext := (s.pin p).ext }
  lsm : t.rb (lsmReg 0) 31 = s.rb (lsmReg 0) 31 ∧ t.rb (lsmReg 4) 31 = s.rb (lsmReg 4) 31 ∧ (∀ b, b ≠ 31 → t.rb (lsmReg 0) b = bit (lsmReg 0).reset b ∧ t.rb (lsmReg 4) b = bit (lsmReg 4).reset b)
  wdg : t.rget wdgStat = if por then wdgStat.reset else s.rget wdgStat
  doms : ∀ n < 748, t.dom n = if s.hot then 2 else State.reset.dom n
  regs : ∀ g : Reg, g.addr ≠ (lsmReg 0).addr → g.addr ≠ (lsmReg 4).addr → g.addr ≠ wdgStat.addr → (s.hot = true → ∀ n < 748, g.addr ≠ (lmpDom n).addr) → t.rget g = g.reset

/-- R379: with the 12 V supply and VBAT both absent the battery-backed slots and what VBAT keeps are lost: TAMPER reads 0, TEN 1, and the loss is noted. -/
def BatteryLost (u : State) : Prop :=
  (∀ i, 4 ≤ i → i < 8 → u.kslot i = {}) ∧ u.bbGone = true ∧ u.rb (lsmReg 0) 31 = false ∧ u.rb (lsmReg 4) 31 = true

/-- R395, R397, R408: what a management complex reset leaves: the sessions, the memory and the firmware that ran are gone, a load has ended, the GPIO block and the watchdogs
are at their reset values, each core starts anew (with HALTRESET = 1 it halts, R473), and the boot is due; flash and reports stay. -/
def ComplexReset (s t : State) : Prop :=
  t.ix = { signQ := s.reports.map (fun _ => 0) } ∧ t.reports = s.reports ∧ t.flash = s.flash ∧ t.mem = [] ∧ t.fw = none ∧ t.recovery = false ∧ t.bootDue = true ∧
  (s.load = none → t.load = none) ∧ t.uarts = [] ∧ t.spi = {} ∧ t.i2cs = [] ∧ (∀ b < 128, ∀ i, (s.bank b).lock = some i → isRequester17 i = true → (t.bank b).lock = none) ∧ (∀ l, s.load = some l → Ended t 2 0) ∧
  (∀ off, off < 0x10000 → off ≠ 0x184 → t.rget (gpioReg off) = (gpioReg off).reset) ∧ (∀ i < 5, t.wdg i = {} ∧ t.rget (wdgReg i 0) = (wdgReg i 0).reset ∧ t.rget (wdgReg i 0xC) = 0) ∧
  (∀ c < 4, t.core c = {} ∧ (s.rb (dbgCore c 0) 28 = false → t.coreHalted c = false) ∧ (s.rb (dbgCore c 0) 28 = true → t.coreHalted c = true ∧ (t.rf (dbgCore c 4) 0 3 = 3 ∨ t.rf (dbgCore c 4) 0 3 = 5)))

end Sys2Proof

/-- R10, R379, R483 to R485, R395, R370, R371, R504: supplies, resets and the boot. A power-on reset and a package reset leave the reset values; with no
supply at all what VBAT keeps is lost. A die at 122 °C or more resets the package and holds every domain Cold until its release. The boot runs once a
reset is released and core 0 runs: it takes the firmware of slot A or B, or with neither waits in recovery, and it begins the first load: the first
since a package reset, or while the fabric is not configured. In recovery UART0 is set for 115,200 baud, 8 bits, no parity, 1 stop bit. Commands:
POWER_ON_RESET, VIN_DIP_PACKAGE_RESET, PRST_N_ASSERT, THERMAL_TRIP, THERMAL_TRIP_RELEASE, VBAT_LOSS, BOOT_SEQUENCE. Choices and readings of the model
that it rests on: log entries 31, 32, 38, 40, 91, 93, 94, 121, 122. -/
def Obligations.ResetsAndBoot : Prop :=
  (∀ (rise vbat : Bool) (s : State),
    let s0 := { s with vin := rise, vbat := vbat, hot := false }
    (rise = true ∨ vbat = true → Does (.powerOnReset rise vbat) s (AfterReset true s0)) ∧
    (rise = false → vbat = false → Does (.powerOnReset rise vbat) s (fun t => BatteryLost t ∧ t.vin = false ∧ t.vbat = false ∧ t.ix = {} ∧ t.load = none ∧ t.fwsvn = s.fwsvn ∧
      ∀ g : Reg, g.addr ≠ (lsmReg 0).addr → g.addr ≠ (lsmReg 4).addr → t.rget g = g.reset))) ∧
  (∀ s : State, Does .vinDipPackageReset s (AfterReset false s) ∧ Does .prstNAssert s (AfterReset false s)) ∧
  (∀ (d : Fin 4) (c : BitVec 9) (s : State), (c.toInt < 122 → exec (.thermalTrip d c) s = .next s) ∧ (122 ≤ c.toInt → Does (.thermalTrip d c) s (AfterReset false { s with hot := true }))) ∧
  (∀ s : State,
    (s.hot = false → exec .thermalTripRelease s = .next s) ∧
    (s.hot = true → Does .thermalTripRelease s (fun t => t.hot = false ∧ t.bootDue = true ∧ (∀ n < 748, t.rget (lmpDom n) = (lmpDom n).reset) ∧ (∀ g : Reg, g.addr < (lmpDom 0).addr ∨ (lmpDom 748).addr ≤ g.addr → t.rget g = s.rget g) ∧ Only [.regs, .hot, .bootDue] s t)) ∧
    (s.vin = true → Does .vbatLoss s (fun t => t.vbat = false ∧ Only [.vbat] s t)) ∧
    (s.vin = false → Does .vbatLoss s (fun t => t.vbat = false ∧ BatteryLost t ∧ KeepRegs [lsmReg 0, lsmReg 4] s t ∧ Only [.regs, .vbat, .kslots, .bbGone] s t))) ∧
  (∀ (fails once : List (Nat × Nat)) (s : State),
    let ready : Prop := s.bootDue = true ∧ s.hot = false ∧ s.vin = true ∧ s.coreRuns 0 = true
    let first : Prop := s.loadAsked = false ∨ s.rb (cmpReg 0) 28 = true
    (¬ ready → exec (.bootSequence ⟨fails, once⟩) s = .next s) ∧
    (ready → Does (.bootSequence ⟨fails, once⟩) s (fun t => t.bootDue = false ∧ t.cutSlots = [] ∧ t.bbGone = false ∧ (∀ i ∈ s.cutSlots, (s.kslot i).st ≠ 2 → s.bootFirmware = none → t.kslot i = { st := 3 }) ∧
      (∀ f, s.bootFirmware = some f → t.fw = some f ∧ t.recovery = s.recovery) ∧ (s.bootFirmware = none → t.recovery = true ∧ t.fw = s.fw ∧ t.uart 0 = { s.uart 0 with baud := 115200, bits := 8, parity := none, stops := 1, flow := false }))) ∧
    (ready → first → s.load = none → s.bootFirmware = none → imgHeader (s.slotImage 1) none = none →
      Does (.bootSequence ⟨fails, once⟩) s (fun t => Staging t { boot := true, golden := true, serial := true, image := s.slotImage 1, phase := 2 } ∧ ∀ r < 32, Quarantined t r)) ∧
    (ready → ¬ first → s.bootFirmware = none → Does (.bootSequence ⟨fails, once⟩) s (fun t => t.load = s.load ∧ t.regions = s.regions)))

/-- R397, R408 to R411: the watchdogs. EN once set stays, and setting it loads CNT; 0x5A then 0xA5 reloads it, and any other key is counted; the warning
and the expiry set their bits. Watchdog 0 resets the management complex, 1 to 3 their core, and 4 the complex or, with RST = 1, the package. Commands:
WATCHDOG_ENABLE, WATCHDOG_KICK, WATCHDOG_WARN, WATCHDOG_EXPIRY. Choices and readings of the model that it rests on: log entry 89. -/
def Obligations.Watchdogs : Prop :=
  (∀ (iss : Issuer) (i : Fin 5) (v : Word) (s : State),
    let g := wdgReg i 0
    (wdgAccepts i iss = false → Does (.watchdogEnable iss i v) s (CountedAt ⟨.wdg, 0, 0x84⟩ [.regs] s)) ∧
    (wdgAccepts i iss = true → Does (.watchdogEnable iss i v) s (fun t => t.rb g 31 = true ∧ (∀ j < 64, j ≠ 31 → t.rb g j = if j < 24 ∨ (j = 30 ∧ i.val = 4) then v.getLsbD j else s.rb g j) ∧
      t.wdg i = (if s.rb g 31 then s.wdg i else { s.wdg i with left := 200 * max 1 (v.toNat % 2 ^ 24) }) ∧ (∀ k : Nat, k ≠ i → t.wdg k = s.wdg k) ∧ KeepRegs [g] s t ∧ Only [.regs, .wdgs] s t))) ∧
  (∀ (iss : Issuer) (i : Fin 5) (key : BitVec 8) (s : State),
    let c := Instr.watchdogKick iss i key
    let set (w : Wdg) (t : State) : Prop := t.wdg i = w ∧ ∀ k : Nat, k ≠ i → t.wdg k = s.wdg k
    (wdgAccepts i iss = false → Does c s (CountedAt ⟨.wdg, 0, 0x84⟩ [.regs] s)) ∧
    (wdgAccepts i iss = true → key = 0x5A → Does c s (fun t => set { s.wdg i with armed := true } t ∧ Only [.wdgs] s t)) ∧
    (wdgAccepts i iss = true → key = 0xA5 → (s.wdg i).armed = true → Does c s (fun t => set { armed := false, left := 200 * max 1 (s.rf (wdgReg i 0) 0 24) } t ∧ Only [.wdgs] s t)) ∧
    (wdgAccepts i iss = true → key ≠ 0x5A → ¬ (key = 0xA5 ∧ (s.wdg i).armed = true) → Does c s (fun t => set { s.wdg i with armed := false } t ∧ CountedAt ⟨.wdg, 0, 0x84⟩ [.regs, .wdgs] s t))) ∧
  (∀ (i : Fin 5) (s : State),
    let w := s.rf (wdgReg i 0xC) 0 24
    let s1 := s.sticky wdgStat i
    (¬ (s.wdgRuns i = true ∧ w ≠ 0) → exec (.watchdogWarn i) s = .next s) ∧
    (s.wdgRuns i = true → w ≠ 0 → Does (.watchdogWarn i) s (fun t => (t.wdg i).left = 200 * w ∧ t.rb wdgStat (5 + i) = true ∧ (∀ b, b ≠ 5 + i.val → t.rb wdgStat b = s.rb wdgStat b) ∧ KeepRegs [wdgStat] s t ∧ Only [.regs, .wdgs] s t)) ∧
    (s.wdgRuns i = false → exec (.watchdogExpiry i) s = .next s) ∧
    (s.wdgRuns i = true → i.val = 0 ∨ (i.val = 4 ∧ s.rb (wdgReg 4 0) 30 = false) → Does (.watchdogExpiry i) s (fun t => ComplexReset s t ∧ t.rb wdgStat i = true)) ∧
    (s.wdgRuns i = true → i.val = 4 → s.rb (wdgReg 4 0) 30 = true → Does (.watchdogExpiry i) s (fun t => AfterReset false s1 t ∧ t.rb wdgStat 4 = true)) ∧
    (s.wdgRuns i = true → i.val ≠ 0 → i.val ≠ 4 → Does (.watchdogExpiry i) s (fun t => t.rb wdgStat i = true ∧ t.core i = {} ∧ (∀ c : Nat, c ≠ i → t.core c = s.core c) ∧ t.wdg i = {} ∧ t.rget (wdgReg i 0) = (wdgReg i 0).reset ∧
      (s.rb (dbgCore i 0) 28 = false → t.coreHalted i = false ∧ Only [.regs, .cores, .wdgs] s t) ∧ (s.rb (dbgCore i 0) 28 = true → t.coreHalted i = true))))

namespace Sys2Proof

/-- R253, R398: what a change of the GPIO block leaves in the keepers: the level a pad was driven to until then, and where nothing drove it the level kept before. -/
def KeepersFollow (s t : State) : Prop :=
  ∀ i < 64, match s.gdrive (i / 16) (i % 16) with | some b => t.gkeep i = b | none => t.gkeep i = s.gkeep i

end Sys2Proof

/-- R398 to R401, R403 to R406, R417 to R419: GPIO, its private ports, its interrupt lines, the machine timers and MGT_MSIP. SET and CLR change the bits
written 1; a private write changes the bits of pins its core owns; a port whose LEVEL changes has its drivers held off until the hold ends. An edge is
stamped and made pending as the line's MODE says, and a level mode follows its level. Commands: GPIO_SET, GPIO_CLR, GPIO_FUNC_CHANGE,
GPIO_LEVEL_CHANGE, PRIVSET, PRIVCLR, PRIVOUT, GPIO_LEVEL_HOLD_END, PIN_INTERRUPT_EDGE, MACHINE_TIMER, MSIP_WRITE. Choices and readings of the model
that it rests on: log entries 90, 95, 104, 186. -/
def Obligations.GpioAndInterrupts : Prop :=
  (∀ (iss : Issuer) (x : Fin 4) (v : Word) (s : State),
    let out := portReg x 0
    (mgmtIssuer iss = false → ∀ c ∈ [Instr.gpioSet iss x v, .gpioClr iss x v, .gpioFuncChange iss x v, .gpioLevelChange iss v], Does c s (CountedAt (gpioReg 0x184) [.regs] s)) ∧
    (mgmtIssuer iss = true →
      Does (.gpioSet iss x v) s (fun t => (∀ j < 64, t.rb out j = (s.rb out j || (decide (j < 16) && v.getLsbD j))) ∧ KeepersFollow s t ∧ KeepRegs [out] s t ∧ Only [.regs, .gkeeps] s t) ∧
      Does (.gpioClr iss x v) s (fun t => (∀ j < 64, t.rb out j = (s.rb out j && !(decide (j < 16) && v.getLsbD j))) ∧ KeepersFollow s t ∧ KeepRegs [out] s t ∧ Only [.regs, .gkeeps] s t) ∧
      Does (.gpioFuncChange iss x v) s (fun t => (∀ j < 64, t.rb (portReg x 0x18) j = if j < 32 then v.getLsbD j else s.rb (portReg x 0x18) j) ∧ KeepersFollow s t ∧ KeepRegs [portReg x 0x18] s t ∧ Only [.regs, .gkeeps] s t) ∧
      Does (.gpioLevelChange iss v) s (fun t => (∀ p < 4, t.rf (gpioReg 0x80) (2 * p) 2 = min (fld v (2 * p) 2) 2) ∧
        (∀ p : Nat, p ∈ t.gheld ↔ p ∈ s.gheld ∨ (p < 4 ∧ min (fld v (2 * p) 2) 2 ≠ s.rf (gpioReg 0x80) (2 * p) 2)) ∧ KeepersFollow s t ∧ KeepRegs [gpioReg 0x80] s t ∧ Only [.regs, .gkeeps, .gheld] s t))) ∧
  (∀ (c : Fin 4) (v : BitVec 64) (s : State),
    let owns (x j : Nat) : Prop := s.rf (portReg x 0x14) (2 * j) 2 = c
    let priv (i : Instr) (f : Bool → Bool → Bool) : Prop := Does i s (fun t => (∀ x < 4, ∀ j < 16, (owns x j → t.rb (portReg x 0) j = f (s.rb (portReg x 0) j) (v.getLsbD (16 * x + j))) ∧
      (¬ owns x j → t.rb (portReg x 0) j = s.rb (portReg x 0) j)) ∧ KeepersFollow s t ∧ KeepRegs [portReg 0 0, portReg 1 0, portReg 2 0, portReg 3 0] s t ∧ Only [.regs, .gkeeps] s t)
    priv (.privset c v) (fun o w => o || w) ∧ priv (.privclr c v) (fun o w => o && !w) ∧ priv (.privout c v) (fun _ w => w)) ∧
  (∀ (x : Fin 4) (s : State), Does (.gpioLevelHoldEnd x) s (fun t => t.gheld = s.gheld.filter (· != x.val) ∧ Only [.gheld] s t)) ∧
  (∀ (n : Fin 16) (level : Bool) (ago : Fin 64) (s : State),
    let c := Instr.pinInterruptEdge n level ago
    let pin := 16 * s.rf (intReg n) 24 2 + n
    let mode := s.rf (intReg n) 28 3
    let stamp := gpioReg (0x140 + 4 * n)
    let pend := gpioReg 0x180
    let hit : Prop := (level = true ∧ (mode = 0 ∨ mode = 3)) ∨ (level = false ∧ (mode = 1 ∨ mode = 4)) ∨ mode = 2
    let seen (t : State) : Prop := t.gext pin = some level ∧ ∀ i, i ≠ pin → t.gext i = s.gext i
    let took (t : State) : Prop := seen t ∧ t.gline n = some level ∧ (∀ k : Nat, k ≠ n → t.gline k = s.gline k) ∧ (∀ b, b ≠ n.val → t.rb pend b = s.rb pend b)
    (s.rb (intReg n) 31 = false ∨ 5 ≤ mode → Does c s (fun t => seen t ∧ Only [.gexts] s t)) ∧
    (s.rb (intReg n) 31 = true → mode < 5 → hit → Does c s (fun t => took t ∧ t.rb pend n = true ∧ (t.rget stamp).toNat = (s.mtime - ago) % 2 ^ 32 ∧ KeepRegs [stamp, pend] s t ∧ Only [.regs, .gexts, .glines] s t)) ∧
    (s.rb (intReg n) 31 = true → mode < 5 → ¬ hit → Does c s (fun t => took t ∧ t.rb pend n = (s.rb pend n && decide (mode < 3)) ∧ KeepRegs [pend] s t ∧ Only [.regs, .gexts, .glines] s t))) ∧
  (∀ (c : Fin 4) (s : State), Does (.machineTimer c) s (fun t => t.core c = { s.core c with timer := decide ((s.rget (irqReg (0x108 + 8 * c))).toNat ≤ s.mtime) } ∧ (∀ k : Nat, k ≠ c → t.core k = s.core k) ∧ Only [.cores] s t)) ∧
  (∀ (iss : Issuer) (c : Fin 4) (v : Word) (s : State),
    let g := irqReg (0x20 + 4 * c)
    (mgmtIssuer iss = false → Does (.msipWrite iss c v) s (CountedAt (irqReg 0x38) [.regs] s)) ∧
    (mgmtIssuer iss = true → Does (.msipWrite iss c v) s (fun t => t.rb g 0 = v.getLsbD 0 ∧ t.core c = { s.core c with started := (s.core c).started || v.getLsbD 0 } ∧ (∀ k : Nat, k ≠ c → t.core k = s.core k) ∧
      KeepRegs [g] s t ∧ Only [.regs, .cores] s t)))

/-- R412 to R415, R421: the management port and the 1588 clock. The link comes up only at a speed that is offered, and 1000BASE-T is withdrawn by a
downshift until auto-negotiation restarts; nothing of it happens while its domain is not Lit. A whole second raises the pulse, an edge on PB1 whose
FUNC is ALT (log entry 183) and the start of an event message record the clock to within their stated error. Commands: MANAGEMENT_PORT_LINK,
DOWNSHIFT, PHY_RESTART, PTP_STEP, PPS_OUTPUT, PPS_INPUT_CAPTURE, PTP_EVENT_TIMESTAMP. Choices and readings of the model that it rests on: log entries
32, 187. -/
def Obligations.ManagementPort : Prop :=
  (∀ (up gig mdix : Bool) (s : State),
    let st := macReg 0
    let c := Instr.managementPortLink up gig mdix
    let refused : Prop := s.dom 742 ≠ 0 ∨ (gig = true ∧ (s.rb (macReg 4) 31 = false ∨ s.rb st 27 = true))
    (up = false → Does c s (fun t => (∀ b, t.rb st b = (decide (b = 27) && s.rb st 27)) ∧ KeepRegs [st] s t ∧ Only [.regs] s t)) ∧
    (up = true → refused → exec c s = .next s) ∧
    (up = true → ¬ refused → Does c s (fun t => t.rb st 31 = true ∧ t.rf st 29 2 = (if gig then 2 else 1) ∧ t.rb st 28 = mdix ∧ t.rb st 27 = s.rb st 27 ∧ t.rf st 0 27 = 0 ∧ KeepRegs [st] s t ∧ Only [.regs] s t)) ∧
    (s.dom 742 = 0 → s.rb (macReg 4) 31 = true → Does .downshift s (fun t => (∀ b, t.rb st b = decide (b = 27)) ∧ KeepRegs [st] s t ∧ Only [.regs] s t)) ∧
    (s.dom 742 ≠ 0 ∨ s.rb (macReg 4) 31 = false → exec .downshift s = .next s)) ∧
  (∀ (iss : Issuer) (s : State),
    (mgmtIssuer iss = false → Does (.phyRestart iss) s (CountedAt (macReg 0x38) [.regs] s) ∧ Does (.ptpStep iss) s (CountedAt (macReg 0x38) [.regs] s)) ∧
    (mgmtIssuer iss = true → Does (.phyRestart iss) s (fun t => t.rget (macReg 0) = 0 ∧ KeepRegs [macReg 0] s t ∧ Only [.regs] s t) ∧ Does (.ptpStep iss) s (fun t => t.ptpGo = true ∧ Only [.ptpGo] s t))) ∧
  (∀ s : State,
    (s.rb (macReg 0x28) 30 = false → exec .ppsOutput s = .next s) ∧
    (s.rb (macReg 0x28) 30 = true → Does .ppsOutput s (fun t => (∃ sec, t.ppsAt = some (1000000000 * sec) ∧ 1000000000 * sec ≤ s.ptpNs ∧ s.ptpNs < 1000000000 * (sec + 1)) ∧ Only [.ppsAt] s t))) ∧
  (∀ (err : Fin 11) (s : State),
    (s.rb (macReg 0x28) 29 = false ∨ s.rf (portReg 1 0x18) 2 2 ≠ 1 → Does (.ppsInputCapture err) s (fun t => t.gext 17 = some true ∧ (∀ i, i ≠ 17 → t.gext i = s.gext i) ∧ Only [.gexts] s t)) ∧
    (s.rb (macReg 0x28) 29 = true → s.rf (portReg 1 0x18) 2 2 = 1 → 5 ≤ s.ptpNs → s.ptpNs + 5 < 2 ^ 64 → Does (.ppsInputCapture err) s (fun t => (t.rget (macReg 0x30)).toNat + 5 = s.ptpNs + err ∧ t.ptpNews = true ∧ t.gext 17 = some true ∧
      (∀ i, i ≠ 17 → t.gext i = s.gext i) ∧ KeepRegs [macReg 0x30] s t ∧ Only [.regs, .gexts, .ptpNews] s t))) ∧
  (∀ (err : Fin 33) (s : State),
    (s.rb (macReg 0) 31 = false → exec (.ptpEventTimestamp err) s = .next s) ∧
    (s.rb (macReg 0) 31 = true → 16 ≤ s.ptpNs → s.ptpNs + 16 < 2 ^ 64 → Does (.ptpEventTimestamp err) s (fun t => (∃ x, t.ptpStamp = some x ∧ s.ptpNs ≤ x + 16 ∧ x ≤ s.ptpNs + 16 ∧
      (s.rf (macReg 0) 29 2 = 2 → s.ptpNs ≤ x + 4 ∧ x ≤ s.ptpNs + 4)) ∧ Only [.ptpStamp] s t)))

namespace Sys2Proof

/-- R441 to R443, R453, R509: a request for state `st` of domain n, in full: one that the domain does not allow sets REFUSED and is counted; any other shows in STATE's request field, and waits while a change is in
progress or a load or a recovery holds it; a domain in that state already has nothing to do, and else BUSY is set and the change is in progress. -/
def Requested (s u : State) (n st : Nat) : Prop :=
  let waits : Prop := (s.domSt n).target ≠ none ∨ s.domHeld n st = true
  u.dom n = s.dom n ∧ (∀ k : Nat, k ≠ n → u.domSt k = s.domSt k) ∧ KeepRegs [lmpDom n, lmpReg 4, lmpReg 0xC] s u ∧ Only [.regs, .doms] s u ∧
  (s.domAllows n st = false → u.rb (lmpReg 4) 29 = true ∧ u.rf (lmpReg 0xC) 0 16 = min 0xFFFF (s.rf (lmpReg 0xC) 0 16 + 1) ∧ u.domSt n = s.domSt n) ∧
  (s.domAllows n st = true → u.rf (lmpDom n) 28 2 = st ∧ u.rget (lmpReg 4) = s.rget (lmpReg 4) ∧ u.rget (lmpReg 0xC) = s.rget (lmpReg 0xC) ∧
    (waits → u.domSt n = { s.domSt n with wait := some st } ∧ u.rb (lmpDom n) 26 = s.rb (lmpDom n) 26) ∧
    (¬ waits → s.dom n = st → u.domSt n = {} ∧ u.rb (lmpDom n) 26 = s.rb (lmpDom n) 26) ∧
    (¬ waits → s.dom n ≠ st → u.domSt n = { target := some st } ∧ u.rb (lmpDom n) 26 = true))

end Sys2Proof

/-- R441 to R446, R448, R451, R453 to R455, R197, R93: the Lamplighter. A request of the management complex is applied as its domain allows; a region's
own ask for its clusters, which HOLDM ignores. A change that completes shows the new state: a Cold cluster or bank holds nothing. A change waits while
the bank's round is an access's or the scrub's, and a restore while the DRAM is not Lit; an I/O bank with a reserved LEVEL stays Cold. A rail takes
550 to 850 mV in steps of 5, and settles within 10 mV of SET. A power over LIMIT and a die at 115 °C raise their alarms. Commands: DOMAIN_REQUEST,
DOMAIN_CHANGE_COMPLETE, LMP_RREQ, RAIL_WRITE, RAIL_SETTLED, POWER_MEASURE, TEMPERATURE_MEASURE. Choices and readings of the model that it rests on:
log entries 54, 55, 56, 57, 58, 59, 60, 161, 187. -/
def Obligations.PowerDomainsAndRails : Prop :=
  (∀ (iss : Issuer) (n : Fin 748) (v : Word) (s : State),
    let c := Instr.domainRequest iss n v
    (mgmtIssuer iss = false → DoesThen c s (CountedAt (lmpReg 0xC) [.regs] s)) ∧
    (mgmtIssuer iss = true → DoesThen c s (fun u => u.rb (lmpDom n) 27 = v.getLsbD 27 ∧ Requested s u n (fld v 28 2)))) ∧
  (∀ (n : Fin 748) (s : State),
    let c := Instr.domainChangeComplete n
    let d := s.domSt n
    (d.target = none → DoesThen c s (fun u => u = s)) ∧
    let busy : Prop := 544 ≤ n.val ∧ n.val < 672 ∧ s.dom n = 0 ∧ ∃ w, (s.bank (n - 544)).cur = some w ∧ w.who ≠ .slice
    let waits : Prop := n.val < 544 ∧ s.dom n = 2 ∧ (s.region (n / 17)).loaded = true ∧ s.dom 737 ≠ 0
    let bars (st : Nat) : Prop := 672 ≤ n.val ∧ n.val < 696 ∧ st = 0 ∧ s.levelReserved (n - 672) = true
    (busy ∨ waits → DoesThen c s (fun u => u = s)) ∧
    (∀ st, d.target = some st → bars st → d.wait = none → DoesThen c s (fun u => u.dom n = s.dom n ∧ u.domSt n = {} ∧ u.rb (lmpDom n) 26 = false ∧ KeepRegs [lmpDom n] s u ∧ Only [.regs, .doms] s u)) ∧
    (∀ st, d.target = some st → st < 4 → ¬ busy → ¬ waits → ¬ bars st → DoesThen c s (fun u => u.dom n = st ∧ (d.wait = none → u.domSt n = {} ∧ u.rb (lmpDom n) 26 = false) ∧
      (∀ k : Nat, k ≠ n → (n.val < 544 → k ≠ 740) → u.domSt k = s.domSt k ∧ u.dom k = s.dom k) ∧
      (n.val < 544 → st = 2 → s.dom n ≠ 2 → (∀ x, x / 64 = n.val → u.cell x = {} ∧ u.rf (cellStat x) 28 4 = 0) ∧ (∀ m, m / 2 = n.val → u.bmem m = { cold := true } ∧ u.rb (bmReg m 4) 28 = false) ∧
        (∀ i b, u.cfgLE 0 n i b 1 = 0 ∨ 64 ≤ i ∨ 512 ≤ b) ∧ (u.clu n).reset = false) ∧
      (n.val < 544 → st ≠ 2 → s.dom n ≠ 2 → u.cells = s.cells ∧ u.cfg = s.cfg) ∧
      (∀ b, n.val = 544 + b → b < 128 → st = 2 → s.dom n ≠ 2 → (∀ k, k / 131072 = b → u.sword k = none) ∧ (u.bank b).next = none)))) ∧
  (∀ (iss : Issuer) (r : Fin 32) (v : Word) (s : State),
    let c := Instr.lmpRreq iss r v
    let takes : Prop := mgmtIssuer iss = true ∨ (s.rb (lmpReg 0) 0 = true ∧ ∃ lc p, iss = .port r lc p)
    let one (k : Nat) : Prop := k < 16 ∧ fld v 0 16 = 2 ^ k ∧ fld v 30 2 < 2
    let g (k : Nat) := s.gOf r k
    (¬ takes → Does c s (CountedAt ⟨.rreq, r, 8⟩ [.regs] s)) ∧
    (takes → 2 ≤ fld v 30 2 → Does c s (CountedAt ⟨.rreq, r, 8⟩ [.regs] s)) ∧
    (takes → fld v 30 2 < 2 → fld v 0 16 = 0 → exec c s = .next s) ∧
    (takes → ∀ k, one k → s.paired r = false → s.retired (g k) = false →
      (s.rb (lmpDom (g k)) 27 = false → Does c s (Requested s · (g k) (fld v 30 2))) ∧
      (s.rb (lmpDom (g k)) 27 = true → Does c s (fun t => t.rb (lmpReg 4) 29 = true ∧ t.rf ⟨.rreq, r, 8⟩ 0 16 = min 0xFFFF (s.rf ⟨.rreq, r, 8⟩ 0 16 + 1) ∧ KeepRegs [lmpReg 4, ⟨.rreq, r, 8⟩] s t ∧ Only [.regs] s t))) ∧
    (takes → ∀ k, one k → s.paired r = true → k % 2 = 1 → Does c s (CountedAt ⟨.rreq, r, 8⟩ [.regs] s)) ∧
    (takes → ∀ k, one k → s.paired r = true → k % 2 = 0 → g k ≠ g (k + 1) →
      (∀ h ∈ [g k, g (k + 1)], h < 544 ∧ s.retired h = false ∧ s.rb (lmpDom h) 27 = false ∧ s.domAllows h (fld v 30 2) = true ∧ (s.domSt h).target = none ∧ s.domHeld h (fld v 30 2) = false ∧ s.dom h ≠ fld v 30 2) →
      Does c s (fun t => ∀ h ∈ [g k, g (k + 1)], t.domSt h = { target := some (fld v 30 2) } ∧ t.rb (lmpDom h) 26 = true)) ∧
    (takes → ∀ k, one k → s.paired r = true → k % 2 = 0 → ∀ h h', (h = g k ∧ h' = g (k + 1)) ∨ (h = g (k + 1) ∧ h' = g k) → s.retired h = true → s.retired h' = false → s.rb (lmpDom h') 27 = false →
      Does c s (Requested s · h' (fld v 30 2)))) ∧
  (∀ (iss : Issuer) (d : Fin 4) (v : Word) (s : State),
    let c := Instr.railWrite iss d v
    let mv := fld v 16 10
    let g := lmpReg (0x10 + 4 * d)
    (mgmtIssuer iss = false ∨ mv < 550 ∨ 850 < mv → Does c s (CountedAt (lmpReg 0xC) [.regs] s)) ∧
    (mgmtIssuer iss = true → 550 ≤ mv → mv ≤ 850 → Does c s (fun t => (∃ x, t.rf g 16 10 = 5 * x ∧ 5 * x ≤ mv ∧ mv < 5 * x + 5) ∧ t.rf g 0 10 = s.rf g 0 10 ∧ t.rb g 31 = decide (t.rf g 16 10 ≠ s.rf g 0 10) ∧ KeepRegs [g] s t ∧ Only [.regs] s t))) ∧
  (∀ (d : Fin 4) (mv : BitVec 10) (s : State),
    let g := lmpReg (0x10 + 4 * d)
    let near : Prop := s.rf g 16 10 ≤ mv.toNat + 10 ∧ mv.toNat ≤ s.rf g 16 10 + 10
    (near → Does (.railSettled d mv) s (fun t => t.rf g 0 10 = mv.toNat ∧ t.rb g 31 = false ∧ t.rf g 16 10 = s.rf g 16 10 ∧ KeepRegs [g] s t ∧ Only [.regs] s t)) ∧
    (¬ near → exec (.railSettled d mv) s = .next s)) ∧
  (∀ (p : BitVec 16) (s : State), Does (.powerMeasure p) s (fun t => t.rf (lmpReg 8) 0 16 = p.toNat ∧ t.rb (lmpReg 4) 31 = (s.rb (lmpReg 4) 31 || decide (s.rf (lmpReg 0) 16 16 < p.toNat)) ∧
    (∀ b, b ≠ 31 → t.rb (lmpReg 4) b = s.rb (lmpReg 4) b) ∧ KeepRegs [lmpReg 8, lmpReg 4] s t ∧ Only [.regs] s t)) ∧
  (∀ (d : Fin 4) (c : BitVec 9) (s : State),
    let g := lmpReg (0x20 + 4 * d)
    Does (.temperatureMeasure d c) s (fun t => t.rf g 0 9 = c.toNat ∧ t.rb g 31 = (s.rb g 31 || decide (115 ≤ c.toInt)) ∧ t.rb (lmpReg 4) 30 = (s.rb (lmpReg 4) 30 || decide (115 ≤ c.toInt)) ∧
      KeepRegs [g, lmpReg 4] s t ∧ Only [.regs] s t))

namespace Sys2Proof

/-- R388, R472: core c has halted with a cause as dcsr.cause has it, and DEBUG_SEEN is set. -/
def Halted (s t : State) (c cause : Nat) : Prop :=
  t.coreHalted c = true ∧ t.rb (dbgCore c 4) 31 = true ∧ t.rf (dbgCore c 4) 0 3 = cause ∧ t.core c = { s.core c with haltReq := false } ∧ t.rb (ntyReg 0) 31 = true ∧
  (∀ k, k ≠ c → t.core k = s.core k ∧ t.coreHalted k = s.coreHalted k) ∧ KeepRegs [dbgReg 4, dbgCore c 4, ntyReg 0] s t ∧ Only [.regs, .cores] s t

end Sys2Proof

/-- R468 to R471, R478: the test access port. An instruction other than IDCODE and BYPASS attaches a debugger; EXTEST, HIGHZ and CLAMP take every Lit pad
with cells, and the rest give them back; a scan of the boundary register captures the pads. A debug access waits for the one before, and one of the
DRAM for its die; one to the fabric sets out on the access plane in the Sepia class, and its answer ends it (a closed gate's is QUARANTINED); at the
base die a quiet read leaves RC fields and a consuming one clears them. A timeout ends it. Commands: TAP_INSTRUCTION, TRST_N,
BOUNDARY_REGISTER_UPDATE, DBGACC_READ, DBGACC_CONSUMING_READ, DBGACC_WRITE, ACCESS_REPLY, ACCESS_COMPLETION_REPORT, DBGACC_TIMEOUT. Choices and
readings of the model that it rests on: log entries 36, 101, 106, 107, 108, 188. -/
def Obligations.TestAccessPort : Prop :=
  (∀ (ir : BitVec 8) (s : State),
    let scan (s t : State) : Prop := ∀ p < 768, s.dom (672 + p / 32) = 0 → (t.pin p).pad = (t.scanDrive (3 * p)).getD (s.pin p).pad
    let back (s t : State) : Prop := ∀ p < 768, s.dom (672 + p / 32) = 0 → (t.padOf p).coming = some ((s.padOf p).coming.getD (s.padOf p).owner)
    let moved (s t : State) : Prop := (t.scanned = true → scan s t ∧ t.pads = s.pads) ∧ (t.scanned = false → s.scanned = true → back s t ∧ t.pins = s.pins) ∧ (t.scanned = false → s.scanned = false → t.pads = s.pads ∧ t.pins = s.pins)
    Does (.tapInstruction ir) s (fun t => t.tapIr = ir ∧ moved s t ∧ KeepersFollow s t ∧ (ir = 0x02 ∨ ir = 0xFF → KeepRegs [] s t) ∧ (ir ≠ 0x02 → ir ≠ 0xFF → t.rb (dbgReg 4) 31 = true ∧ t.rb (ntyReg 0) 31 = true) ∧
      KeepRegs [dbgReg 4, ntyReg 0] s t ∧ Only [.regs, .pins, .pads, .gkeeps, .tapIr] s t) ∧
    Does .trstN s (fun t => t.tapIr = 0x02 ∧ moved s t ∧ t.rb (dbgReg 4) 31 = false ∧ KeepRegs [dbgReg 4] s t ∧ Only [.regs, .pins, .pads, .gkeeps, .tapIr] s t)) ∧
  (∀ (v : BitVec 2592) (s : State),
    let c := Instr.boundaryRegisterUpdate v
    let took (t : State) : Prop := t.bscan = v ∧ (∀ i < 2592, t.bcap.getLsbD i = s.scanCell i)
    (s.tapIr = 1 → Does c s (fun t => took t ∧ Only [.free, .bscan, .bcap] s t)) ∧
    (s.tapIr = 0 → Does c s (fun t => took t ∧ (∀ p < 768, s.dom (672 + p / 32) = 0 → (t.pin p).pad = if v.getLsbD (3 * p + 2) then v.getLsbD (3 * p + 1) else (s.pin p).pad) ∧ Only [.free, .bscan, .bcap, .pins, .gkeeps] s t)) ∧
    (s.tapIr ≠ 0 → s.tapIr ≠ 1 → exec c s = .next s)) ∧
  (∀ (addr : BitVec 64) (w64 : Bool) (v : BitVec 64) (s : State),
    let a := addr.toNat % 2 ^ 36
    let w := if w64 then Width.b64 else Width.b32
    let free : Prop := s.tapIr = 0x10 ∧ s.dbgAcc = none ∧ (s.dramLit = true ∨ ¬ (0x40000000 ≤ a ∧ a < 0x60000000))
    let gives (d : BitVec 64) (t : State) : Prop := t.dbgStatus = 0 ∧ t.dbgP = false ∧ t.dbgData = d ∧ t.dbgAcc = none
    let result : List Field := [.dbgStatus, .dbgP, .dbgData]
    let goes (k : AKind) (d : Word) (quiet : Bool) (t : State) : Prop := SetsOut { iss := .debug, lp := 4096, tc := 3, kind := k, addr := a, data := { d := d }, w := w, quiet := quiet } s t ∧
      t.dbgAcc = some ⟨k == .read, s.nextId⟩ ∧ t.dbgStatus = 1 ∧ Only [.flights, .nextId, .dbgAcc, .dbgStatus] s t
    (¬ free → exec (.dbgaccRead addr w64) s = .next s ∧ DoesThen (.dbgaccConsumingRead addr w64) s (fun u => u = s) ∧ exec (.dbgaccWrite addr w64 v) s = .next s) ∧
    (free → ((placeOf a).region).isSome = true → Does (.dbgaccRead addr w64) s (goes .read 0 true) ∧ DoesThen (.dbgaccConsumingRead addr w64) s (goes .read 0 false) ∧
      Does (.dbgaccWrite addr w64 v) s (goes .write (v.setWidth 32) false)) ∧
    (free → placeOf a = .nowhere →
      Does (.dbgaccRead addr w64) s (fun t => gives 0 t ∧ CountedAt (irqReg 0x38) (.regs :: result) s t) ∧
      DoesThen (.dbgaccWrite addr w64 v) s (fun t => t.dbgStatus = 0 ∧ CountedAt (irqReg 0x38) [.regs, .dbgStatus] s t)) ∧
    (free → ∀ g i, placeOf a = .reg g → (placeOf a).region = none → g.info = some i →
      (w ≠ i.width → Does (.dbgaccRead addr w64) s (fun t => gives 0 t ∧ CountedAt (violOf g.blk g.idx) (.regs :: result) s t)) ∧
      (w = i.width → s.keyRead .debug g = true → Does (.dbgaccRead addr w64) s (fun t => gives 0 t ∧ CountedAt (lsmReg 0x10) (.regs :: result) s t)) ∧
      (w = i.width → s.keyRead .debug g = false →
        Does (.dbgaccRead addr w64) s (fun t => ∃ d e, ReadBits i (s.live g) (s.rget g) d e ∧ gives d t ∧ Only result s t) ∧
        (g.blk ≠ .fryUp → (g.blk, g.off) ≠ (.asy, 0xC) → (g.blk, g.off) ≠ (.cmp, 0) → (g.blk, g.off) ≠ (.mac, 0x30) → DoesThen (.dbgaccConsumingRead addr w64) s (fun t => ∃ d, ReadBits i (s.live g) (s.rget g) d (t.rget g) ∧ gives d t ∧ KeepRegs [g] s t ∧ Only (.regs :: result) s t))) ∧
      (w = i.width → g.blk ∈ [Blk.tnkBase, .fry] → DoesThen (.dbgaccWrite addr w64 v) s (fun t => WrittenBits i (s.rget g) v (t.rget g) ∧ t.dbgStatus = 0 ∧ KeepRegs [g] s t ∧ Only [.regs, .dbgStatus] s t)))) ∧
  (∀ (id : Nat) (s : State) (f : Flight) (a : Answer), s.flight id = some f → f.path = [] → f.iss = .debug → f.ans = some a →
    let gone (t : State) : Prop := t.flights = s.flights.filter (fun x => x.id != id)
    let st : Nat := if a = .quarantined then 3 else 0
    (f.kind = .read →
      (s.dbgAcc = some ⟨true, id⟩ → Does (.accessReply id) s (fun t => gone t ∧ t.dbgAcc = none ∧ t.dbgStatus = st ∧ t.dbgP = a.tok.p ∧ t.dbgData = a.tok.d.setWidth 64 ∧ Only [.flights, .dbgAcc, .dbgStatus, .dbgP, .dbgData] s t)) ∧
      ((∀ x, s.dbgAcc = some x → x.id ≠ id) → Does (.accessReply id) s (fun t => gone t ∧ Only [.flights] s t))) ∧
    (f.kind = .write →
      (s.dbgAcc = some ⟨false, id⟩ → Does (.accessCompletionReport id) s (fun t => gone t ∧ t.dbgAcc = none ∧ t.dbgStatus = st ∧ Only [.flights, .dbgAcc, .dbgStatus] s t)) ∧
      ((∀ x, s.dbgAcc = some x → x.id ≠ id) → Does (.accessCompletionReport id) s (fun t => gone t ∧ Only [.flights] s t)))) ∧
  (∀ s : State, (s.dbgAcc = none → exec .dbgaccTimeout s = .next s) ∧
    (s.dbgAcc ≠ none → Does .dbgaccTimeout s (fun t => t.dbgAcc = none ∧ t.dbgStatus = 2 ∧ t.dbgP = false ∧ t.dbgData = 0 ∧ Only [.dbgAcc, .dbgStatus, .dbgP, .dbgData] s t)))

/-- R472 to R475, R478 to R480, R192, R193: halting, feeding and freezing. A core halts at an instruction boundary for a request, an ebreak or a trigger;
it is fed instructions, but not those that transfer control, which set FEEDERR; it resumes, with STEP = 1 for one instruction. A lock broken sets
NOLOCK where none was held. A region frozen waits for its load or recovery. Only the debug port may write here; detaching lets all go. Commands: HALT,
RESUME, FEED, DETACH, BREAK_LOCK, FREEZE, FREEZE_COMPLETE. Choices and readings of the model that it rests on: log entries 92, 102, 103, 188. -/
def Obligations.HaltsAndFreezes : Prop :=
  (∀ (c : Fin 4) (cause : Fin 8) (s : State),
    let can : Prop := s.coreHalted c = false ∧ (s.core c).load = none ∧ s.dom (732 + c) = 0 ∧ ((cause.val = 3 ∧ (s.core c).haltReq = true) ∨ cause.val = 1 ∨ cause.val = 2)
    (can → Does (.halt c cause) s (Halted s · c cause)) ∧ (¬ can → exec (.halt c cause) s = .next s)) ∧
  (∀ (iss : Issuer) (c : Fin 4) (insn : Word) (eff : FedEffect) (r : Fin 32) (b : Fin 4) (v : Word) (s : State), iss ≠ .debug →
    DoesThen (.resume iss c) s (CountedAt (dbgReg 8) [.regs] s) ∧ DoesThen (.feed iss c insn eff) s (CountedAt (dbgReg 8) [.regs] s) ∧ DoesThen (.detach iss) s (CountedAt (dbgReg 8) [.regs] s) ∧
    Does (.breakLock iss r b) s (CountedAt (dbgReg 8) [.regs] s) ∧ Does (.freeze iss v) s (CountedAt (dbgReg 8) [.regs] s)) ∧
  (∀ (c : Fin 4) (s : State),
    (s.coreHalted c = false → DoesThen (.resume .debug c) s (fun u => u = s)) ∧
    (s.coreHalted c = true → s.rb (dbgCore c 0) 29 = true → DoesThen (.resume .debug c) s (Halted s · c 4)) ∧
    (s.coreHalted c = true → s.rb (dbgCore c 0) 29 = false → DoesThen (.resume .debug c) s (fun u => u.coreHalted c = false ∧ u.rb (dbgCore c 4) 31 = false ∧ (∀ k, k ≠ c.val → u.coreHalted k = s.coreHalted k) ∧
      KeepRegs [dbgReg 4, dbgCore c 4] s u ∧ Only [.regs] s u))) ∧
  (∀ (c : Fin 4) (insn : Word) (eff : FedEffect) (s : State),
    let f := Instr.feed .debug c insn eff
    let ready : Prop := s.coreHalted c = true ∧ s.rb (dbgCore c 4) 29 = false
    let runs : Prop := ready ∧ fedBarred insn = false
    (¬ ready → DoesThen f s (CountedAt (dbgReg 8) [.regs] s)) ∧
    (ready → eff = .trap ∨ fedBarred insn = true → DoesThen f s (fun u => u.rb (dbgCore c 4) 30 = true ∧ (∀ j, j ≠ 30 → u.rb (dbgCore c 4) j = s.rb (dbgCore c 4) j) ∧ KeepRegs [dbgCore c 4] s u ∧ Only [.regs] s u)) ∧
    (runs → eff = .inside → DoesThen f s (fun u => u = s)) ∧
    (runs → ∀ x, eff = .scratch x → DoesThen f s (fun u => u.rget (dbgCore c 0x10) = x ∧ KeepRegs [dbgCore c 0x10] s u ∧ Only [.regs] s u)) ∧
    (runs → ∀ a w s1 x, eff = .load a w → a < 0x100000000 → s.busRead (.core c) a w false = (s1, x) → DoesThen f s (fun u => u.rdata = x ∧ Only [.rdata] s1 u)) ∧
    (runs → ∀ a w x, eff = .store a w x → a < 0x100000000 → DoesThen f s (fun u => u = s.busWrite (.core c) a w x)) ∧
    (runs → ∀ a w, eff = .load a w → 0x100000000 ≤ a → ((placeOf a).region).isSome = true → DoesThen f s (fun u => u.rb (dbgCore c 4) 29 = true ∧
      SetsOut { iss := .core c, lp := 4096, tc := 3, kind := .read, addr := a, data := {}, w := w } s u ∧ u.core c = { s.core c with load := some s.nextId } ∧ KeepRegs [dbgCore c 4] s u)) ∧
    (runs → ∀ a w x, eff = .store a w x → 0x100000000 ≤ a → ((placeOf a).region).isSome = true → (s.flights.filter (fun f => f.iss == .core c && f.kind == .write)).length < 16 →
      DoesThen f s (fun u => SetsOut { iss := .core c, lp := 4096, tc := 3, kind := .write, addr := a, data := { d := x.setWidth 32 }, w := w } s u ∧ Only [.flights, .nextId] s u))) ∧
  (∀ (r : Fin 32) (b : Fin 4) (s : State),
    let n := r * 4 + b.val
    Does (.breakLock .debug r b) s (fun t => t.rf (dbgReg 0x18) 0 7 = 4 * r + b ∧ t.rb (dbgReg 0x18) 30 = (s.bank n).lock.isNone ∧ (t.bank n).lock = none ∧ (∀ k : Nat, k ≠ n → t.bank k = s.bank k) ∧
      ((s.bank n).lock = none → t.bank n = s.bank n ∧ KeepRegs [dbgReg 0x18] s t) ∧ ((s.bank n).lock ≠ none → (t.bank n).broke = true ∧ t.rb (sb n 0x20) 30 = true) ∧ Only [.regs, .banks] s t)) ∧
  (∀ (v : Word) (s : State),
    let g := dbgReg 0x10
    Does (.freeze .debug v) s (fun t => t.rf g 0 32 = v.toNat ∧ (∀ r < 32, t.region r = (if v.getLsbD r then (if s.freezeWaits r || (s.region r).frozen then s.region r else { s.region r with frozen := true, frozenDone := false })
      else { s.region r with frozen := false, frozenDone := false })) ∧ (∀ r, 32 ≤ r → t.region r = s.region r) ∧ KeepRegs [g] s t ∧ Only [.regs, .regions] s t)) ∧
  (∀ (r : Fin 32) (s : State),
    let held : Prop := s.rb (dbgReg 0x10) r = true ∧ ((s.region r).frozen = true ∨ s.freezeWaits r = false)
    (held → Does (.freezeComplete r) s (fun t => t.region r = { s.region r with frozen := true, frozenDone := true } ∧ (∀ q : Nat, q ≠ r → t.region q = s.region q) ∧ Only [.regions] s t)) ∧
    (¬ held → exec (.freezeComplete r) s = .next s)) ∧
  (∀ s : State, DoesThen (.detach .debug) s (fun u => u.dbgAcc = none ∧ u.rb (dbgReg 4) 31 = false ∧ u.rget (dbgReg 0x10) = 0 ∧ (∀ r < 32, (u.region r).frozen = false ∧ (u.region r).frozenDone = false) ∧
    (∀ c < 4, u.coreHalted c = false ∧ (u.core c).haltReq = false) ∧ (∀ k < 4, u.rb ⟨.dbgTap, k, 0⟩ 31 = false) ∧ (∀ k < 16, u.rb (probeSel k) 31 = false) ∧ (∀ n < 748, u.rb (lmpDom n) 25 = false)))

namespace Sys2Proof

/-- R424, R433: request `q` is answered with `res` after the status prefix: the reply is stored in its session, whose next request may run, and sent to its endpoint; it carries the session's version,
or 1.0 for session 0 and for BAD_VERSION. Nothing else of `w` changes. -/
def Replied (w : State) (q : Req) (st det : Nat) (res : List Byte) (u : State) : Prop :=
  let b := replyPkt (if st = stBadVersion then 0x0100 else 0x0100 + q.minor) q.op q.seq q.sid st det res
  ∃ v : State, u = v.ixSend q.ep b ∧ Only [.ix] w v ∧ v.ix = { w.ix with sessions := v.ix.sessions } ∧ (∀ j, j ≠ q.sid → v.session j = w.session j) ∧
    (∀ x, w.session q.sid = some x → v.session q.sid = some { x with replies := ((q.seq, b) :: x.replies).take 16, run := none }) ∧ (w.session q.sid = none → v = w)

/-- R424, R435: a reply whose results are registers: each in four bytes, as a read shows it; a read of CMP_STAT or ASY_RES clears its interrupt source. -/
def RepliedRegs (v : State) (q : Req) (st det : Nat) (gs : List Reg) (extra : List Byte) (u : State) : Prop :=
  ∃ w, Only [.cmpNews, .asyNews] v w ∧ Replied w q st det (gs.flatMap (fun g => be 4 (v.shown g).toNat) ++ extra) u

/-- R433: request `q` goes on running, and its reply waits for what `wt` names; nothing else of `w` changes. -/
def Waits (w : State) (q : Req) (wt : IxWait) (u : State) : Prop :=
  Only [.ix] w u ∧ u.ix = { w.ix with sessions := u.ix.sessions } ∧ (∀ j, j ≠ q.sid → u.session j = w.session j) ∧ ∀ x, w.session q.sid = some x → u.session q.sid = some { x with run := some ⟨q.op, q.seq, wt⟩ }

/-- R447: the flash die is Lit at an access of it; of the domains and their registers no other changes. -/
def FlashLit (v w : State) (l : List Field) : Prop :=
  w.dom 738 = 0 ∧ (∀ n, n ≠ 738 → w.domSt n = v.domSt n) ∧ KeepRegs [lmpDom 738] v w ∧ Only (.regs :: .doms :: l) v w

/-- R434: BAD_PARAM with the offset of the first bad parameter. -/
def BadParam (v : State) (q : Req) (off : Nat) (u : State) : Prop := Replied v q stBadParam off [] u

/-- R423, R428, R431, R433: the arrival is a request that Ixzento takes in turn: it arrives at an endpoint, its header is right, it names the open session `x`, bound to that endpoint, in its version, with the next SEQ
expected, and none of the session's requests runs or is held; `s1` is the state without the arrival. -/
def InTurn (s : State) (a : Arrival) (op : Nat) (s1 : State) (x : Session) (k : Pkt) : Prop :=
  ∃ b, s.ixArrival a = some (x.ep, b, s1) ∧ parsePkt b = some k ∧ k.op = op ∧ k.vmaj = 1 ∧ k.vmin = x.minor ∧ k.len = k.params.length ∧ k.len ≤ 1436 ∧ k.isReply = false ∧ k.sid ≠ 0 ∧
    s1.session k.sid = some x ∧ k.seq = x.expect ∧ x.run = none ∧ x.held = []

/-- The state in which a request taken in turn is performed (E has advanced), and the request. -/
def turned (s1 : State) (x : Session) : State := s1.setSession { x with expect := x.expect + 1 }

def reqOf (x : Session) (k : Pkt) : Req := ⟨k.sid, x.ep, k.op, k.seq, x.minor, k.params⟩

/-- R429, R432, R435: an opcode's row: its number, the minor version it is in since, its mode (0 session 0 too, 1 OBSERVE or CONTROL, 2 CONTROL), how many parameter bytes it takes, and what performing it does. A request
of that opcode taken in turn is performed when all of it fits, and else answered BAD_OPCODE, DENIED or BAD_LENGTH, and nothing is performed. -/
def Row (c : Arrival → Instr) (op since mode lo hi : Nat) (P : State → Req → State → Prop) : Prop :=
  ∀ (a : Arrival) (s s1 : State) (x : Session) (k : Pkt), InTurn s a op s1 x k →
    let known : Prop := since ≤ x.minor ∧ (s1.recovery = true → recoveryOp k = true)
    let v := turned s1 x
    let q := reqOf x k
    (known → (mode = 2 → x.control = true) → lo ≤ k.params.length → k.params.length ≤ hi → DoesThen (c a) s (P v q)) ∧
    (¬ known → DoesThen (c a) s (Replied v q stBadOpcode 0 [])) ∧
    (known → mode = 2 → x.control = false → DoesThen (c a) s (Replied v q stDenied 0 [])) ∧
    (known → (mode = 2 → x.control = true) → k.params.length < lo ∨ hi < k.params.length → DoesThen (c a) s (Replied v q stBadLength 0 []))

/-- The same of a request of session 0, which HELLO and OPEN alone accept (R428). -/
def Row0 (c : Arrival → Instr) (op n : Nat) (P : State → Req → State → Prop) : Prop :=
  ∀ (a : Arrival) (s s1 : State) (ep : Endpoint) (b : List Byte) (k : Pkt), s.ixArrival a = some (ep, b, s1) → parsePkt b = some k → k.op = op → k.vmaj = 1 → k.len = k.params.length → k.isReply = false → k.sid = 0 →
    s1.session 0 = none → k.params.length = n → DoesThen (c a) s (P s1 ⟨0, ep, op, k.seq, 0, k.params⟩)

end Sys2Proof

/-- R422 to R428, R433, R434, R438, R439: packets, sequence and timeouts. A packet too short, with a wrong MAGIC or HCRC, or a reply is discarded and
counted; an opcode unlisted, or not in the version, is answered BAD_OPCODE. In a session the next seven SEQs are held, one answered already gets its
stored reply again, one that runs IN_PROGRESS, and any other SEQUENCE. A session idle for 30 s closes and its push is abandoned; a gap open for 1 s
drops what is held behind it. A request that goes on running is answered once what it waits for has ended. A relay, a lock wait, a flash programme and
a delayed reset end as R434 and R436 say. Commands: DROPPED, BAD_OPCODE, HELLO, KEEPALIVE, SEQUENCE_GAP_TIMEOUT, SESSION_IDLE_TIMEOUT, RELAY_TIMEOUT,
WAIT_LOCK_LIMIT, WAIT_LOCK_DONE, RESET_DELAY_EXPIRY, FLASH_PROGRAM_COMPLETE. Choices and readings of the model that it rests on: log entries 5, 109,
110, 113, 140, 183. -/
def Obligations.PacketsAndTimeouts : Prop :=
  (∀ (a : Arrival) (s : State), (s.ixArrival a = none → exec (.ixDropped a) s = .next s ∧ exec (.ixBadOpcode a) s = .next s ∧ exec (.ixHello a) s = .next s ∧ exec (.ixKeepalive a) s = .next s) ∧
    (s.ixRuns = false → s.ixArrival a = none)) ∧
  (∀ (addr : BitVec 128) (port : BitVec 16) (noSum : Bool) (h : Nat) (b : List Byte) (s : State), s.ixRuns = true →
    s.ixArrival (.udp addr port noSum b) = (if noSum then none else some (.udp addr port, b, s)) ∧
    s.ixArrival (.mailbox h b) = (if s.recovery then none else some (.mailbox h, b, s)) ∧
    (s.recovery = false ∨ s.dom 743 ≠ 0 → s.ixArrival (.uart b) = none) ∧
    (s.recovery = true → s.dom 743 = 0 → s.serialPin 0 = true → s.serialPin 1 = true → s.ixArrival (.uart b) = some (.uart, b, s)) ∧
    (s.recovery = true ∨ s.mgmtIn = [] → s.ixArrival .choval = none) ∧
    (∀ e rest, s.recovery = false → s.mgmtIn = e :: rest → s.ixArrival .choval = some (.choval e.1, e.2, { s with mgmtIn := rest }))) ∧
  (∀ (a : Arrival) (s s1 : State) (ep : Endpoint) (b : List Byte), s.ixArrival a = some (ep, b, s1) →
    let counted (u : State) : Prop := u.ix = { s1.ix with dropped := min 0xFFFFFFFF (s1.ix.dropped + 1) } ∧ Only [.ix] s1 u
    (b.length < 16 ∨ slice b 0 2 ≠ [0x58, 0x4E] ∨ (crc16 (b.take 14)).toNat ≠ beAt b 14 2 → DoesThen (.ixDropped a) s counted) ∧
    (∀ k, parsePkt b = some k → k.vmaj = 1 → k.len = k.params.length → k.len ≤ 1436 →
      (128 ≤ k.flags → DoesThen (.ixDropped a) s counted) ∧
      (k.flags < 128 → exec (.ixDropped a) s = .next s) ∧
      (k.flags < 128 → k.sid = 0 → s1.session 0 = none → ixEntry k.op = none → DoesThen (.ixBadOpcode a) s (fun u => u = s1.ixSend ep (replyPkt 0x0100 k.op k.seq 0 stBadOpcode 0 []))) ∧
      (k.flags < 128 → ∀ x, InTurn s a k.op s1 x k → ixEntry k.op = none → DoesThen (.ixBadOpcode a) s (Replied (turned s1 x) (reqOf x k) stBadOpcode 0 []))) ∧
    (∀ k, parsePkt b = some k → k.op = 4 → k.vmaj ≠ 1 → DoesThen (.ixKeepalive a) s (fun u => u = s1.ixSend ep (replyPkt 0x0100 4 k.seq k.sid stBadVersion 0 (be 2 0x0100 ++ be 2 s1.ixTop)))) ∧
    (∀ k, parsePkt b = some k → k.op = 4 → k.vmaj = 1 → k.len = k.params.length → k.len ≤ 1436 → k.flags < 128 → k.sid ≠ 0 →
      (∀ x, s1.session k.sid = some x → x.ep ≠ ep) → DoesThen (.ixKeepalive a) s (fun u => u = s1.ixSend ep (replyPkt 0x0100 4 k.seq k.sid stNoSession 0 []))) ∧
    (∀ k x, parsePkt b = some k → k.op = 4 → k.vmaj = 1 → k.len = k.params.length → k.len ≤ 1436 → k.flags < 128 → k.sid ≠ 0 → s1.session k.sid = some x → x.ep = ep →
      let d := (k.seq - x.expect).toNat
      let tell (st : Nat) : Prop := DoesThen (.ixKeepalive a) s (fun u => u = s1.ixSend ep (replyPkt (0x0100 + x.minor) 4 k.seq k.sid st 0 []))
      (k.vmin ≠ x.minor → DoesThen (.ixKeepalive a) s (fun u => u = s1.ixSend ep (replyPkt 0x0100 4 k.seq k.sid stBadVersion 0 (be 2 0x0100 ++ be 2 s1.ixTop)))) ∧
      (k.vmin = x.minor →
        (1 ≤ d → d ≤ 7 → x.held = [] → DoesThen (.ixKeepalive a) s (fun u => Only [.ix] s1 u ∧ u.session k.sid = some { x with held := [b] } ∧ u.ix = { s1.ix with sessions := u.ix.sessions })) ∧
        (8 ≤ d → d < 2 ^ 32 - 16 → tell stSequence) ∧
        (2 ^ 32 - 16 ≤ d →
          (∀ e, x.replies.find? (fun e => e.1 == k.seq) = some e → DoesThen (.ixKeepalive a) s (fun u => u = s1.ixSend ep e.2)) ∧
          (x.replies.find? (fun e => e.1 == k.seq) = none → ∀ r, x.run = some r → tell (if r.seq = k.seq then stInProgress else stSequence)) ∧
          (x.replies.find? (fun e => e.1 == k.seq) = none → x.run = none → tell stSequence))))) ∧
  (∀ (addr : BitVec 128) (port : BitVec 16) (h pkg : Nat) (b : List Byte) (s : State),
    (s.ixSend (.udp addr port) b).ixOut = s.ixOut ++ [(.udp addr port, b)] ∧ (s.ixSend (.mailbox h) b).ixOut = s.ixOut ++ [(.mailbox h, b)] ∧
    (s.ixSend .uart b).ixOut = s.ixOut ++ [(.uart, b)] ∧
    (pkg = s.ownPkg → s.ixSend (.choval pkg) b = { s with mgmtIn := s.mgmtIn ++ [(pkg, b)] })) ∧
  (∀ (sid : BitVec 16) (s : State),
    (s.ixRuns = false → exec (.sequenceGapTimeout sid) s = .next s) ∧
    (Does (.sessionIdleTimeout sid) s (fun t => t.session sid.toNat = none ∧ (∀ j, j ≠ sid.toNat → t.session j = s.session j) ∧
      t.ix.push = (if (s.ix.push.map (·.session)) = some sid.toNat then none else s.ix.push) ∧ Only [.ix] s t)) ∧
    (s.session sid.toNat = none → exec (.sequenceGapTimeout sid) s = .next s) ∧
    (s.ixRuns = true → ∀ x, s.session sid.toNat = some x → Does (.sequenceGapTimeout sid) s (fun t => Only [.ix] s t ∧ (∀ j, j ≠ sid.toNat → t.session j = s.session j) ∧
      ∃ l, t.session sid.toNat = some { x with held := l } ∧ (∀ b ∈ l, b ∈ x.held) ∧ ((∀ b ∈ x.held, BitVec.ofNat 32 (beAt b 6 4) ≠ x.expect) → l = []))) ∧
    (∀ x r, s.ixRuns = true → s.session sid.toNat = some x → x.run = some r →
      let q := x.req r
      (∀ p sq, r.wait = .relay p sq → DoesThen (.relayTimeout sid) s (Replied s q stUnreached 0 [])) ∧
      (∀ n, r.wait = .lock n → DoesThen (.waitLockLimit sid) s (Replied s q stTimeout 0 (be 1 (s.lockedOf n) ++ be 3 0)) ∧
        (s.lockedOf n = n → DoesThen (.waitLockDone sid) s (Replied s q stOk 0 (be 1 n ++ be 3 0))) ∧ (s.lockedOf n ≠ n → exec (.waitLockDone sid) s = .next s)) ∧
      ((∀ p sq, r.wait ≠ .relay p sq) → exec (.relayTimeout sid) s = .next s) ∧
      ((∀ n, r.wait ≠ .lock n) → exec (.waitLockDone sid) s = .next s ∧ exec (.waitLockLimit sid) s = .next s))) ∧
  (∀ s : State,
    (s.ix.resetDue = none ∨ s.ixRuns = false → exec .resetDelayExpiry s = .next s) ∧
    (s.ixRuns = true → s.ix.resetDue = some 0 → Does .resetDelayExpiry s (ComplexReset s)) ∧
    (∀ t, s.ixRuns = true → s.ix.resetDue = some t → t ≠ 0 → Does .resetDelayExpiry s (AfterReset false s))) ∧
  (∀ (good : Bool) (s : State),
    (s.ix.jobs = [] → exec (.flashProgramComplete good) s = .next s) ∧
    (∀ j rest, s.ix.jobs = j :: rest → good = true → s.recovery = true → Does (.flashProgramComplete good) s (fun t => t.flash = Store.putBytes s.flash j.offset j.bytes ∧
      ∃ v, v.flash = t.flash ∧ v.ix.jobs = rest ∧ AfterReset false v t)) ∧
    (∀ j rest, s.ix.jobs = j :: rest → good = false ∨ s.recovery = false →
      let wrote (v : State) : Prop := v.ix = { s.ix with jobs := rest } ∧ v.epoch = s.epoch + 1 ∧ (good = true → v.flash = Store.putBytes s.flash j.offset j.bytes) ∧ Only [.ix, .epoch, .flash] s v
      ((∀ x r, s.session j.session = some x → x.run = some r → r.wait ≠ .flash) → DoesThen (.flashProgramComplete good) s wrote) ∧
      (∀ x r, s.session j.session = some x → x.run = some r → r.wait = .flash →
        (good = false → DoesThen (.flashProgramComplete good) s (fun u => ∃ v, wrote v ∧ Replied v (x.req r) stFlashFail 0 [] u)) ∧
        (good = true → r.op = 0x33 → DoesThen (.flashProgramComplete good) s (fun u => ∃ v, wrote v ∧ RepliedRegs v (x.req r) stOk 0 [cmpReg 0] [] u)) ∧
        (good = true → r.op ≠ 0x33 → DoesThen (.flashProgramComplete good) s (fun u => ∃ v, wrote v ∧ Replied v (x.req r) stOk 0 (be 4 (leAt j.bytes (j.bytes.length - 4) 4)) u))))) ∧
  (∀ s : State, (s.ixRuns = false ∨ s.ix.sessions = [] → s.ixSettle = s)) ∧
  (∀ (s : State) (x : Session) (r : Running), s.ixRuns = true → s.ix.sessions = [x] → x.held = [] → x.run = some r →
    let q := x.req r
    let v := s.ixSettle
    let loaded : List Reg := [cmpReg 0, cmpReg 8, cmpReg 0xC, cmpReg 0x10, cmpReg 0x18]
    (∀ c, r.wait = .load → s.loadEnded = some c → ∃ w, w.loadEnded = none ∧ Only [.loadEnded] s w ∧ RepliedRegs w q (if c = 0 then stOk else stLoadFail) c loaded [] v) ∧
    (r.wait = .load → s.loadEnded = none → v = s) ∧
    (∀ k i, r.wait = .slice k i → (∀ y ∈ s.slices, ¬ (y.kind = k ∧ y.index = i ∧ y.background = false ∧ y.confirm = none)) → RepliedRegs s q stOk 0 [asyReg 0xC, asyReg 0x10] [] v) ∧
    (∀ n, r.wait = .domain n → (s.domSt n).target = none → (s.domSt n).wait = none → Replied s q stOk 0 (be 1 (s.dom n) ++ be 3 0) v) ∧
    (∀ slot owner, r.wait = .fuse slot owner → s.kcmd = none → RepliedRegs s q stOk 0 [lsmReg (if owner then 0xC else 0x40 + 4 * slot)] [] v) ∧
    (∀ n b, r.wait = .write [] n b → Replied s q (if b then stQuarantined else stOk) 0 (be 2 n ++ be 2 0) v) ∧
    (∀ p sq e rest k, r.wait = .relay p sq → s.mgmtIn = (p, e) :: rest → parsePkt e = some k → 128 ≤ k.flags → k.seq.toNat = sq → k.len = k.params.length →
      (e.length ≤ 1432 → ∃ w, w.mgmtIn = rest ∧ Only [.mgmtIn] s w ∧ Replied w q stOk 0 e v) ∧ (1432 < e.length → ∃ w, w.mgmtIn = rest ∧ Only [.mgmtIn] s w ∧ Replied w q stBadLength 0 [] v)))

namespace Sys2Proof

/-- The highest version served (R431, R438). -/
def topOf (v : State) : Nat := if v.recovery then 0x0100 else 0x0102

/-- R428 to R431: what OPEN does. The version agreed is the lower of HVMAX and the device's; a version out of range, a reserved MODE, a CONTROL session that exists, and too many sessions are refused. Else a session is
added, bound to the endpoint, its first request SEQ + 1; CONTROL is granted at once where no proof is needed, closing the old session in a takeover, and else a 32-byte challenge is sent. -/
def Opens (v : State) (q : Req) (u : State) : Prop :=
  let hvmax := beAt q.p 2 2
  let mode := beAt q.p 4 1
  let agreed := min hvmax (topOf v)
  let low : Prop := agreed < max (beAt q.p 0 2) 0x0100
  let busy : Prop := mode = 1 ∧ (v.ix.sessions.find? (·.control)).isSome = true
  let full : Prop := (if v.recovery then 1 else 8) ≤ v.ix.sessions.length
  let id := freshId v.ix.used 65536 (v.freeNow.toNat % 65536)
  let proof : Bool := match q.ep with | .udp _ _ => !(v.lsmOpen && v.noKeys) | .uart => !(v.lsmOpen && v.noKeys) | _ => false
  let y : Session := { id := id, ep := q.ep, minor := agreed % 256, expect := q.seq + 1 }
  let added (w : State) : Prop := w.free = v.free + 5 ∧ w.ix.used = (id :: v.ix.used).take 65534 ∧ Only [.free, .ix] v w
  let reply (w : State) (g : Nat) (c : List Byte) : Prop := Replied w q stOk 0 (be 2 id ++ be 2 agreed ++ be 1 g ++ be 3 0 ++ c) u
  (low → Replied v q stBadVersion 0 (be 2 0x0100 ++ be 2 (topOf v)) u) ∧
  (¬ low → 2 < mode → BadParam v q 4 u) ∧
  (¬ low → busy → Replied v q stBusy 0 [] u) ∧
  (¬ low → mode ≤ 2 → ¬ busy → full → Replied v q stSessionFull 0 [] u) ∧
  (¬ low → mode ≤ 2 → ¬ busy → ¬ full → id ≠ 0 → v.session id = none → id ≠ q.sid →
    (mode = 0 → ∃ w, added w ∧ w.ix.sessions = v.ix.sessions ++ [y] ∧ reply w 0 (List.replicate 32 0)) ∧
    (1 ≤ mode → proof = true → ∃ w c, added w ∧ w.ix.sessions = v.ix.sessions ++ [{ y with takeover := decide (mode = 2), challenge := some c }] ∧ c.length = 32 ∧ reply w 0 c) ∧
    (1 ≤ mode → proof = false → (v.ix.sessions.find? (·.control)) = none → ∃ w, added w ∧ w.ix.sessions = v.ix.sessions ++ [{ y with control := true }] ∧ reply w 1 (List.replicate 32 0)))

end Sys2Proof

/-- R428 to R432, R435, R436: the session and query opcodes. HELLO and IDENTITY say what the package is; OPEN, PROVE and CLOSE make, raise and end a
session; a wrong proof closes it. RELAY sends its packet on and waits. HEALTH and VIOL_READ return registers and the counters that are not zero;
VIOL_CLEAR clears them. Commands: HELLO, OPEN, PROVE, CLOSE, KEEPALIVE, RELAY, IDENTITY, HEALTH, VIOL_READ, VIOL_CLEAR. Choices and readings of the
model that it rests on: log entries 2, 111, 112, 119, 120, 174, 187. -/
def Obligations.SessionsAndQueries : Prop :=
  let hello (v : State) (q : Req) (u : State) : Prop := Replied v q stOk 0 (be 2 0x0100 ++ be 2 (topOf v) ++ be 2 0x0032 ++ be 1 0xA1 ++ be 1 0 ++ be 2 v.ownPkg ++ be 2 0 ++ be 8 Config.devid.toNat) u
  Row0 .ixHello 0x00 0 hello ∧ Row .ixHello 0x00 0 0 0 0 hello ∧ Row0 .ixOpen 0x01 8 Opens ∧ Row .ixOpen 0x01 0 0 8 8 Opens ∧
  Row .ixProve 0x02 0 1 384 384 (fun v q u => ∀ y, v.session q.sid = some y →
    (y.challenge = none → Replied v q stOk 0 (be 1 (if y.control then 1 else 0) ++ be 3 0) u) ∧
    (∀ c, y.challenge = some c →
      let good : Prop := ∃ k ∈ v.ownerKeys, rsaOk k (beAt q.p 0 384) (sha256 (c ++ be 8 Config.devid.toNat ++ be 2 q.sid)) = true
      let other := v.ix.sessions.find? (·.control)
      (¬ good → ∃ v1 w, FlashLit v v1 [] ∧ Replied v1 q stDenied 0 [] w ∧ u = w.closeSession q.sid ∧ u.session q.sid = none) ∧
      (good → other.isSome = true → y.takeover = false → ∃ v1, FlashLit v v1 [] ∧ Replied v1 q stBusy 0 [] u) ∧
      (good → other = none → ∃ w, FlashLit v w [.ix] ∧ w.session q.sid = some { y with control := true, challenge := none, takeover := false } ∧ (∀ j, j ≠ q.sid → w.session j = v.session j) ∧ Replied w q stOk 0 (be 1 1 ++ be 3 0) u) ∧
      (∀ o, good → other = some o → y.takeover = true → o.id ≠ q.sid → ∃ w, FlashLit v w [.ix] ∧ w.session o.id = none ∧ w.session q.sid = some { y with control := true, challenge := none, takeover := false } ∧ Replied w q stOk 0 (be 1 1 ++ be 3 0) u))) ∧
  Row .ixClose 0x03 0 1 0 0 (fun v q u => ∃ w, Replied v q stOk 0 [] w ∧ u.session q.sid = none ∧ (∀ j, j ≠ q.sid → u.session j = w.session j) ∧
    u.ix.push = (if (w.ix.push.map (·.session)) = some q.sid then none else w.ix.push) ∧ Only [.ix] w u) ∧
  Row .ixKeepalive 0x04 0 1 0 0 (fun v q u => Replied v q stOk 0 [] u) ∧
  Row .ixRelay 0x08 2 2 20 1436 (fun v q u => (4096 ≤ beAt q.p 0 2 → BadParam v q 0 u) ∧ (beAt q.p 0 2 < 4096 → ∃ w, Waits v q (.relay (beAt q.p 0 2) (beAt q.p 10 4)) w ∧ u = w.sendMgmt (beAt q.p 0 2) (q.p.drop 4))) ∧
  Row .ixIdentity 0x10 0 1 0 0 (fun v q u => let f := v.fw.getD {}; Replied v q stOk 0 (be 2 0x0032 ++ be 1 0xA1 ++ be 1 0 ++ be 4 f.ver.toNat ++ be 4 v.fwsvn ++ be 8 Config.devid.toNat ++ be 2 v.ownPkg ++ be 2 0 ++
    be 6 Config.macAddr.toNat ++ be 2 0 ++ be 2 0x0100 ++ be 2 (topOf v) ++ be 1 1 ++ be 1 (v.rf (chvReg 0) 0 8) ++ be 1 (v.rf (chvReg 0) 8 8) ++ be 1 0) u) ∧
  Row .ixHealth 0x11 0 1 0 0 (fun v q u => RepliedRegs v q stOk 0 ((List.range 32).map (fun r => (⟨.tnkBase, 0, 4 * r⟩ : Reg)) ++ [cmpReg 0, cmpReg 0x10, cmpReg 0x18, cmpReg 0x14, asyReg 8, lsmReg 0, ntyReg 0, wdgStat]) (be 4 v.ix.dropped) u) ∧
  Row .ixViolRead 0x12 0 1 4 4 (fun v q u =>
    let all := (violAll.map (fun g => (g.addr, v.rf g 0 16))).filter (fun e => decide (e.2 ≠ 0))
    let first := beAt q.p 0 4
    let part := (all.drop first).take 100
    Replied v q stOk 0 (be 4 (if first + part.length < all.length then first + part.length else 0) ++ be 2 part.length ++ be 2 0 ++ part.flatMap (fun e => be 8 e.1 ++ be 2 e.2 ++ be 2 0)) u) ∧
  Row .ixViolClear 0x13 0 2 0 0 (fun v q u => ∃ w, (∀ g ∈ violAll, w.rf g 0 16 = 0) ∧ KeepRegs violAll v w ∧ Only [.regs] v w ∧ Replied w q stOk 0 [] u)

namespace Sys2Proof

/-- Register writes of Ixzento, in order, as requester 17 (R435). -/
def IxWrites (v : State) (l : List (Reg × Nat)) (w : State) : Prop := w = l.foldl (fun s e => s.regWrite .ixz e.1 .b32 (BitVec.ofNat 64 (e.2 % 2 ^ 32))) v

end Sys2Proof

/-- R345, R384, R435 to R437: the configuration opcodes. LOAD refuses while a load runs, checks without loading with CHECKONLY, or begins a load and waits
for it. A push takes bytes at any offset; its end checks the digest, then the image, then programs flash or stages. A record is written to a buffer,
committed with its CRC-32, and read from flash; the fault record is read-only. Commands: LOAD, PUSH_BEGIN, PUSH_DATA, PUSH_END, ABORT, RECORD_WRITE,
RECORD_COMMIT, RECORD_READ. Choices and readings of the model that it rests on: log entries 34, 61, 114, 115, 116, 187. -/
def Obligations.LoadsPushesAndRecords : Prop :=
  let src (b : Nat) : Source := if h : b < 4 then .slot ⟨b, h⟩ else .staged
  Row .ixLoad 0x30 0 2 4 4 (fun v q u =>
    let kind := beAt q.p 0 1
    let so := beAt q.p 1 1
    let r := beAt q.p 2 1
    let flags := beAt q.p 3 1
    let part : Option Nat := if kind = 1 then some r else none
    let img := v.sourceImage (src so)
    let fits : Prop := kind ≤ 1 ∧ (so ≤ 3 ∨ so = 0xFF) ∧ (kind = 1 → r ≤ 31) ∧ flags ≤ 1
    (1 < kind → BadParam v q 0 u) ∧ (kind ≤ 1 → 3 < so → so ≠ 0xFF → BadParam v q 1 u) ∧ (kind = 1 → so ≤ 3 ∨ so = 0xFF → 31 < r → BadParam v q 2 u) ∧
    (kind ≤ 1 → so ≤ 3 ∨ so = 0xFF → (kind = 1 → r ≤ 31) → 1 < flags → BadParam v q 3 u) ∧
    (fits → v.load.isSome = true → RepliedRegs v q stBusy 1 loadRegs [] u) ∧
    (fits → v.load = none → flags = 1 → ∀ c, v.imgCode img part = c → ∃ w, (so ≤ 3 → w.staged = none ∧ FlashLit v w [.staged]) ∧ (so = 0xFF → w = v) ∧ RepliedRegs w q (if c = 0 then stOk else stLoadFail) c loadRegs [] u) ∧
    (fits → v.load = none → flags = 0 → imgHeader img part = none → ∃ w, Staging w { part := part, image := img, phase := 2 } ∧ w.loadEnded = none ∧ w.ix = v.ix ∧ Waits w q .load u) ∧
    (∀ c, fits → v.load = none → flags = 0 → imgHeader img part = some c → ∃ w, Ended w c 0 ∧ w.ix = v.ix ∧ Waits w q .load u)) ∧
  Row .ixPushBegin 0x31 0 2 8 8 (fun v q u =>
    let d := beAt q.p 0 1
    let n := beAt q.p 4 4
    let known : Prop := d ≤ 3 ∨ d = 0x10 ∨ d = 0x11 ∨ d = 0xFF
    (¬ known → BadParam v q 0 u) ∧ (known → 0x02000000 < n → BadParam v q 4 u) ∧ (known → n ≤ 0x02000000 → v.ix.push.isSome = true → Replied v q stBusy 0 [] u) ∧
    (known → n ≤ 0x02000000 → v.ix.push = none → ∃ w, w.staged = none ∧ w.ix = { v.ix with push := some { session := q.sid, dest := d, total := n } } ∧ w.epoch = v.epoch + 1 ∧ Only [.staged, .ix, .epoch] v w ∧ Replied w q stOk 0 [] u)) ∧
  Row .ixPushData 0x32 0 2 4 1028 (fun v q u =>
    let off := beAt q.p 0 4
    let b := q.p.drop 4
    ((∀ p, v.ix.push = some p → p.session ≠ q.sid ∨ p.total < off + b.length) → BadParam v q 0 u) ∧
    (∀ p, v.ix.push = some p → p.session = q.sid → off + b.length ≤ p.total → ∃ w p', w.ix = { v.ix with push := some p' } ∧ p' = { p with bytes := p'.bytes } ∧
      (∀ i, Store.get none p'.bytes i = if off ≤ i ∧ i < off + b.length then some (nth 0 b (i - off)) else Store.get none p.bytes i) ∧ Only [.ix] v w ∧ Replied w q stOk 0 [] u)) ∧
  Row .ixPushEnd 0x33 0 2 32 32 (fun v q u =>
    ((∀ p, v.ix.push = some p → p.session ≠ q.sid) → BadParam v q 0 u) ∧
    (∀ p, v.ix.push = some p → p.session = q.sid →
      let b := (List.range p.total).map (fun i => (Store.get none p.bytes i).getD (Config.blank v.epoch i))
      let fw : Prop := p.dest = 0x10 ∨ p.dest = 0x11
      let c := v.imgCode b (if leAt b 0x0A 1 = 1 then some (leAt b 0x0C 4 % 32) else none)
      let ended (w : State) : Prop := w.ix = { v.ix with push := none } ∧ Only [.ix] v w
      let programs (off : Nat) : Prop := ∃ w, w.ix = { v.ix with push := none, jobs := v.ix.jobs ++ [⟨q.sid, off, b⟩] } ∧ FlashLit v w [.ix] ∧ Waits w q .flash u
      (sha256 b ≠ q.p → Replied v q stCheckFail 0 [] u) ∧
      (sha256 b = q.p → fw → (v.firmwareOf b).isSome = true → programs (if p.dest = 0x10 then 0 else 0x02000000)) ∧
      (sha256 b = q.p → fw → v.firmwareOf b = none → ∃ w z x, ended w ∧ x < 256 ∧ RepliedRegs w q stLoadFail x [cmpReg 0] [] z ∧ u = z.bumpFree) ∧
      (sha256 b = q.p → ¬ fw → c ≠ 0 → ∃ w, ended w ∧ RepliedRegs w q stLoadFail c [cmpReg 0] [] u) ∧
      (sha256 b = q.p → ¬ fw → c = 0 → p.dest = 0xFF → ∃ w, w.ix = { v.ix with push := none } ∧ w.staged = some b ∧ Only [.ix, .staged] v w ∧ RepliedRegs w q stOk 0 [cmpReg 0] [] u) ∧
      (sha256 b = q.p → c = 0 → p.dest ≤ 3 → programs (0x08000000 + 0x02000000 * p.dest)))) ∧
  Row .ixAbort 0x34 0 2 0 0 (fun v q u => (v.load = none → RepliedRegs v q stOk 0 [cmpReg 0] [] u) ∧ (∀ l, v.load = some l → ∃ w, Ended w 2 0 ∧ RepliedRegs w q stOk 0 [cmpReg 0] [] u)) ∧
  Row .ixRecordWrite 0x36 0 2 8 1032 (fun v q u =>
    let id := beAt q.p 0 1
    let off := beAt q.p 4 4
    let b := q.p.drop 8
    let len := nth 0 [288, 16448, 1536] id
    (3 < id → BadParam v q 0 u) ∧ (id = 3 → Replied v q stDenied 0 [] u) ∧ (id < 3 → len < off + b.length → BadParam v q 4 u) ∧
    (id < 3 → off + b.length ≤ len → ∃ w, w.ix = { v.ix with recs := w.ix.recs } ∧ Only [.ix] v w ∧ Replied w q stOk 0 [] u ∧
      ∀ i, Store.get none w.ix.recs i = if 65536 * id + off ≤ i ∧ i < 65536 * id + off + b.length then some (nth 0 b (i - (65536 * id + off))) else Store.get none v.ix.recs i)) ∧
  Row .ixRecordCommit 0x37 0 2 8 8 (fun v q u =>
    let id := beAt q.p 0 1
    let len := nth 0 [288, 16448, 1536] id
    let b := (List.range len).map (fun i => (Store.get none v.ix.recs (65536 * id + i)).getD (Config.blank v.memEpoch (65536 * id + i)))
    (3 < id → BadParam v q 0 u) ∧ (id = 3 → Replied v q stDenied 0 [] u) ∧ (id < 3 → beAt q.p 4 4 ≠ len → BadParam v q 4 u) ∧
    (id < 3 → beAt q.p 4 4 = len → ∃ w, w.ix = { v.ix with jobs := v.ix.jobs ++ [⟨q.sid, recordBase id, b ++ leBytes 4 (crc32 b).toNat⟩] } ∧ FlashLit v w [.ix] ∧ Waits w q .flash u)) ∧
  Row .ixRecordRead 0x38 0 1 12 12 (fun v q u =>
    let id := beAt q.p 0 1
    let off := beAt q.p 4 4
    let n := beAt q.p 8 2
    let len := nth 92 [288, 16448, 1536] id
    (3 < id → BadParam v q 0 u) ∧ (id ≤ 3 → len < off → BadParam v q 4 u) ∧ (id ≤ 3 → off ≤ len → 1024 < n ∨ len < off + n → BadParam v q 8 u) ∧
    (id ≤ 3 → n ≤ 1024 → off + n ≤ len → ∃ w, FlashLit v w [] ∧ Replied w q stOk 0 (v.flashBytes (recordBase id + off) n) u))

namespace Sys2Proof

/-- R136, R160, R186, R435: an access of Ixzento to the fabric sets out, in the Sepia class, from requester 17. -/
def IxSends (v : State) (addr : Nat) (wd : Width) (k : AKind) (d : Word) (w : State) : Prop :=
  SetsOut { iss := .ixz, lp := 4096, tc := 3, kind := k, addr := addr, data := { d := d }, w := wd } v w ∧ Only [.flights, .nextId] v w

/-- R203, R436: the address of a hopper's PUSH, at offset 0, or of its POP, at 4. -/
def hopAt (h off : Nat) : Nat := 0x100000000 + 0x10000000 * (h / 64) + 0x1000000 * (h / 8 % 8) + 0x900000 + 0x100 * (h % 8) + off

end Sys2Proof

/-- R47, R65, R66, R435, R436, R443, R448: the power, phase and fault opcodes. POWER_SET asks for a domain's state, keeping HOLDM, and waits; POWER_GET
packs states two bits each. PORT_SET and LINE_SET write their registers in the order given. LINE_GET adds what it reads of LOST to its copy, which
CLEAR zeroes. FAULT_CLEAR clears a mark, SLICE_RUN asks for a slice and waits, ASH parks a region, RESET acts later, and LINK_CTL disables, enables or
retrains a link. Commands: POWER_SET, POWER_GET, RAIL_SET, PORT_SET, LINE_SET, LINE_GET, WAIT_LOCK, FAULT_READ, FAULT_CLEAR, SLICE_RUN, ASH, RESET,
LINK_CTL. Choices and readings of the model that it rests on: log entries 54, 114, 118, 187. -/
def Obligations.PowerPhaseAndFaultOpcodes : Prop :=
  Row .ixPowerSet 0x50 0 2 4 4 (fun v q u =>
    let n := beAt q.p 0 2
    let st := beAt q.p 2 1
    (748 ≤ n → BadParam v q 0 u) ∧ (n < 748 → 2 < st → BadParam v q 2 u) ∧
    (n < 748 → st ≤ 2 → ∃ w, Requested v w n st ∧ w.rb (lmpDom n) 27 = v.rb (lmpDom n) 27 ∧ Waits w q (.domain n) u)) ∧
  Row .ixPowerGet 0x51 0 1 4 4 (fun v q u =>
    let first := beAt q.p 0 2
    let n := beAt q.p 2 2
    (748 ≤ first → BadParam v q 0 u) ∧ (first < 748 → 748 < first + n → BadParam v q 2 u) ∧
    (first < 748 → first + n ≤ 748 → ∃ res, Replied v q stOk 0 res u ∧ res.length = (n + 3) / 4 ∧ ∀ i < n, (nth 0 res (i / 4)).toNat / 4 ^ (3 - i % 4) % 4 = v.dom (first + i))) ∧
  Row .ixRailSet 0x52 0 2 4 4 (fun v q u =>
    let d := beAt q.p 0 1
    let mv := beAt q.p 2 2
    let g := lmpReg (0x10 + 4 * d)
    (3 < d → BadParam v q 0 u) ∧ (d ≤ 3 → mv < 550 ∨ 850 < mv → BadParam v q 2 u) ∧
    (d ≤ 3 → 550 ≤ mv → mv ≤ 850 → ∃ w, w.rf g 16 10 = mv - mv % 5 ∧ KeepRegs [g] v w ∧ Only [.regs] v w ∧ Replied w q stOk 0 (be 2 (mv - mv % 5) ++ be 2 0) u)) ∧
  Row .ixPortSet 0x60 0 2 40 40 (fun v q u =>
    let n := beAt q.p 0 1
    let p (i : Nat) : Nat := beAt q.p (4 * i) 4
    (15 < n → BadParam v q 0 u) ∧
    (n ≤ 15 → ∃ w, IxWrites v [(piReg n 0, (v.rget (piReg n 0)).toNat % 2 ^ 31), (piReg n 4, p 2), (piReg n 8, p 3), (piReg n 0xC, p 4), (piReg n 0x10, p 5), (piReg n 0x14, p 6), (piReg n 0x18, p 7), (piReg n 0x20, p 8),
      (piReg n 0x1C, p 9), (piReg n 0, p 1)] w ∧ RepliedRegs w q stOk 0 [piReg n 0x24] [] u)) ∧
  Row .ixLineSet 0x61 0 2 28 28 (fun v q u =>
    let n := beAt q.p 0 1
    let p (i : Nat) : Nat := beAt q.p (4 * i) 4
    let ctl := p 1 % 2 ^ 30
    (7 < n → BadParam v q 0 u) ∧
    (n ≤ 7 → ∃ w, IxWrites v [(plReg n 4, p 2), (plReg n 8, p 3), (plReg n 0xC, p 4), (plReg n 0x10, p 5), (plReg n 0x14, p 6), (plReg n 0, ctl), (plReg n 0, ctl + 2 ^ 30), (plReg n 0, ctl + p 1 / 2 ^ 31 * 2 ^ 31)] w ∧
      RepliedRegs w q stOk 0 [plReg n 0x2C] [] u)) ∧
  Row .ixLineGet 0x62 0 1 4 4 (fun v q u =>
    let n := beAt q.p 0 1
    let port := fld (v.tline n).ctl 24 4
    let old := Store.get 0 v.ix.lost port
    let sum (i : Nat) : Nat := min 255 (fld old (8 * i) 8 + fld (v.rget (piReg port 0x28)) (8 * i) 8)
    (7 < n → BadParam v q 0 u) ∧
    (n ≤ 7 → ∃ w head stat cnt lost, Replied w q stOk 0 (head ++ be 4 stat ++ be 4 lost ++ be 4 cnt) u ∧ head.length = 24 ∧ lost = sum 0 + 2 ^ 8 * sum 1 + 2 ^ 16 * sum 2 + 2 ^ 24 * sum 3 ∧
      w.rf (piReg port 0x28) 0 32 = 0 ∧ (Store.get 0 w.ix.lost port).toNat = (if (beAt q.p 1 1) % 2 = 1 then 0 else lost))) ∧
  Row .ixWaitLock 0x64 1 1 4 4 (fun v q u =>
    let limit := beAt q.p 2 2
    (limit = 0 ∨ 60000 < limit → BadParam v q 2 u) ∧ (limit ≠ 0 → limit ≤ 60000 → Waits v q (.lock (beAt q.p 0 1)) u)) ∧
  Row .ixFaultRead 0x70 0 1 0 0 (fun v q u => RepliedRegs v q stOk 0 ((List.range 17).map (fun i => asyReg (0x100 + 4 * i)) ++ (List.range 4).map (fun i => asyReg (0x180 + 4 * i)) ++ [asyReg 0x190, asyReg 0x194]) [] u) ∧
  Row .ixFaultClear 0x71 0 2 4 4 (fun v q u =>
    let kind := beAt q.p 0 1
    let i := beAt q.p 2 2
    let g := (failBit kind i).1
    let b := (failBit kind i).2
    (4 < kind → BadParam v q 0 u) ∧ (kind ≤ 4 → sliceCount kind ≤ i → BadParam v q 2 u) ∧
    (kind ≤ 4 → i < sliceCount kind → ∃ w, w.rb g b = false ∧ (∀ j, j ≠ b → w.rb g j = v.rb g j) ∧ w.dom 738 = 0 ∧ KeepRegs [g, lmpDom 738] v w ∧ Only [.regs, .flash, .doms] v w ∧ Replied w q stOk 0 [] u)) ∧
  Row .ixSliceRun 0x72 0 2 4 4 (fun v q u =>
    let kind := beAt q.p 0 1
    let i := beAt q.p 2 2
    let can : Prop := kind ≤ 4 ∧ v.sliceRuns kind = true
    let busy : Prop := ∃ x ∈ v.slices, x.background = false ∧ x.confirm = none
    (¬ can → BadParam v q 0 u) ∧ (can → v.sliceEligible kind i = false → BadParam v q 2 u) ∧ (can → v.sliceEligible kind i = true → busy → Replied v q stBusy 0 [] u) ∧
    (can → v.sliceEligible kind i = true → ¬ busy → ∃ w, w.slices = v.slices ++ [{ kind := kind, index := i }] ∧ w.rf (asyReg 4) 28 3 = kind ∧ w.rf (asyReg 4) 0 10 = i ∧ Waits w q (.slice kind i) u)) ∧
  Row .ixAsh 0x73 0 2 4 4 (fun v q u =>
    let r := beAt q.p 0 1
    (31 < r → BadParam v q 0 u) ∧
    (r ≤ 31 → ∃ w, IxSends v (⟨.tnk, r, 8⟩ : Reg).addr .b32 .write (BitVec.ofNat 32 (2 ^ 31 + (if v.rb ⟨.tnk, r, 8⟩ 30 then 2 ^ 30 else 0))) w ∧ Waits w q (.ash v.nextId r) u)) ∧
  Row .ixReset 0x74 0 2 4 4 (fun v q u =>
    let t := beAt q.p 0 1
    (1 < t → BadParam v q 0 u) ∧ (t ≤ 1 → ∃ w, w.ix = { v.ix with resetDue := some t } ∧ Only [.ix] v w ∧ Replied w q stOk 0 [] u)) ∧
  Row .ixLinkCtl 0x75 0 2 4 4 (fun v q u =>
    let l := beAt q.p 0 1
    let act := beAt q.p 1 1
    let g := chl l 0
    (31 < l → BadParam v q 0 u) ∧ (l ≤ 31 → 3 < act → BadParam v q 1 u) ∧
    (l ≤ 31 → act ≤ 3 → ∃ w x, IxWrites v [(g, x)] w ∧ x < 2 ^ 32 ∧ x % 2 ^ 29 = (v.rget g).toNat % 2 ^ 29 ∧ (x / 2 ^ 31 = 1 ↔ act = 1 ∨ (2 ≤ act ∧ v.rb g 31 = true)) ∧ (x / 2 ^ 30 % 2 = 1 ↔ 2 ≤ act) ∧ (x / 2 ^ 29 % 2 = 1 ↔ act = 3) ∧
      RepliedRegs w q stOk 0 [chl l 4] [] u))

namespace Sys2Proof

/-- R436: HOP_POP's reply: the number of words, the words, and the masks of their P and F. -/
def Popped (v : State) (q : Req) (st : Nat) (l : List Tok) (u : State) : Prop :=
  ∃ p f : Nat, (∀ i, p.testBit i = (l[i]?.map (·.p)).getD false ∧ f.testBit i = (l[i]?.map (·.f)).getD false) ∧
    Replied v q st 0 (be 1 l.length ++ be 3 0 ++ l.flatMap (fun t => be 4 t.d.toNat) ++ be 8 p ++ be 8 f) u

/-- R148, R160, R202, R206, R394, R435, R436: the answer `a` of access `id` of Ixzento, for which request `r` of session `x` waits. A READ takes the value and goes on to the next, or replies; a hopper opcode that has read HOP_STAT pops at most OCC - CUR
words and pushes at most 64 - OCC, one access after another, and ends at a refusal or at a side bound to STREAM; HOP_CMD then reads HOP_STAT; ASH replies. An answer with P = 1 sets MGT_FSTAT (R394). A request refused at a closed gate is answered
QUARANTINED. A load without a reply in time gives 0, and MGT_FSTAT.TMO is set. -/
def IxAnswers (id : Nat) (s : State) (f : Flight) (a : Answer) (x : Session) (r : Running) : Prop :=
  let q := x.req r
  let quar : Prop := a = .quarantined
  let code (b : Bool) : Nat := if b || a == .quarantined then stQuarantined else stOk
  let gone (v : State) : Prop := v.flights = s.flights.filter (fun y => y.id != id)
  let reads (P : State → State → Prop) : Prop := f.kind = .read → DoesThen (.accessReply id) s (fun u => ∃ v, gone v ∧ (a.tok.p = true → v.rb (irqReg 0x34) 30 = true) ∧
    KeepRegs (if a.tok.p then [irqReg 0x34] else []) s v ∧ Only [.flights, .regs] s v ∧ P v u)
  let written (P : State → State → Prop) : Prop := f.kind = .write → (∀ y ∈ s.ix.sessions, ∀ p ids n b, y.run = some p → p.wait = .write ids n b → id ∉ ids) →
    DoesThen (.accessCompletionReport id) s (fun u => ∃ v, gone v ∧ Only [.flights] s v ∧ P v u)
  (∀ addr w64 n got ref, r.wait = .read id addr w64 n got ref →
    let w := if w64 then 8 else 4
    let all := got ++ [(a.tok.d.setWidth 64, a.tok.p)]
    reads (fun v u =>
      (n = 0 → ∃ m : Nat, (∀ i, m.testBit i = (all[i]?.map (·.2)).getD false) ∧ Replied v q (code ref) 0 (all.flatMap (fun e => be w e.1.toNat) ++ be 32 m) u) ∧
      (1 ≤ n → ((placeOf addr).region).isSome = true → ∃ t, IxSends v addr (if w64 then .b64 else .b32) .read 0 t ∧ Waits t q (.read v.nextId (addr + w) w64 (n - 1) all (ref || a == .quarantined)) u))) ∧
  (∀ h d, r.wait = .hopStat id h d →
    let occ := a.tok.d.toNat % 128
    let cur := a.tok.d.toNat / 128 % 128
    (∀ n, d = .pop n → reads (fun v u =>
      (quar ∨ min n (occ - cur) = 0 → Popped v q (code false) [] u) ∧
      (¬ quar → 1 ≤ min n (occ - cur) → ∃ t, IxSends v (hopAt h 4) .b32 .read 0 t ∧ Waits t q (.hopPop v.nextId h (min n (occ - cur) - 1) []) u))) ∧
    (∀ l, d = .push l → reads (fun v u =>
      (quar ∨ l.take (64 - occ) = [] → Replied v q (code false) 0 (be 1 0 ++ be 3 0) u) ∧
      (¬ quar → ∀ e rest, l.take (64 - occ) = e :: rest → ∃ t, IxSends v (hopAt h 0) .b32 .write e t ∧ Waits t q (.hopPush v.nextId h rest 0) u))) ∧
    (∀ b, d = .show b → reads (fun v u => Replied v q (code b) 0 (be 4 a.tok.d.toNat) u))) ∧
  (∀ h n got, r.wait = .hopPop id h n got → reads (fun v u =>
    (quar ∨ s.hopCStream h = true → Popped v q (code false) got u) ∧
    (¬ quar → s.hopCStream h = false → n = 0 → Popped v q stOk (got ++ [a.tok]) u) ∧
    (¬ quar → s.hopCStream h = false → 1 ≤ n → ∃ t, IxSends v (hopAt h 4) .b32 .read 0 t ∧ Waits t q (.hopPop v.nextId h (n - 1) (got ++ [a.tok])) u))) ∧
  (∀ h l n, r.wait = .hopPush id h l n → written (fun v u =>
    (quar ∨ s.hopPStream h = true → Replied v q (code false) 0 (be 1 n ++ be 3 0) u) ∧
    (¬ quar → s.hopPStream h = false → l = [] → Replied v q stOk 0 (be 1 (n + 1) ++ be 3 0) u) ∧
    (¬ quar → s.hopPStream h = false → ∀ e rest, l = e :: rest → ∃ t, IxSends v (hopAt h 0) .b32 .write e t ∧ Waits t q (.hopPush v.nextId h rest (n + 1)) u))) ∧
  (∀ h, r.wait = .hopCmd id h → written (fun v u => ∃ t, IxSends v (hopReg h 8).addr .b32 .read 0 t ∧ Waits t q (.hopStat v.nextId h (.show (a == .quarantined))) u)) ∧
  (∀ k, r.wait = .ash id k → written (fun v u => RepliedRegs v q (code false) 0 [⟨.tnkBase, 0, 4 * k⟩] [] u)) ∧
  (∀ addr w64 got ref, r.wait = .read id addr w64 0 got ref → s.ix.sessions = [x] → (s.core 0).load = none → DoesThen (.ftmo 0) s (fun u => ∃ v st res, v.rb (irqReg 0x34) 31 = true ∧ KeepRegs [irqReg 0x34] s v ∧ Only [.regs] s v ∧
    st = (if ref then stQuarantined else stOk) ∧ res.take (got.length * (if w64 then 8 else 4)) = got.flatMap (fun e => be (if w64 then 8 else 4) e.1.toNat) ∧ (∀ i < (if w64 then 8 else 4), nth 1 res (got.length * (if w64 then 8 else 4) + i) = 0) ∧ Replied v q st 0 res u))

end Sys2Proof

/-- R148, R202, R205, R206, R377, R380, R384, R385, R387, R435, R436: the memory, hopper and security opcodes. READ and WRITE reach the peripheral blocks
and the local fabric alone, never the Locksmith by a write, and a closed gate answers QUARANTINED. A hopper bound to STREAM gives nothing. ATTEST
waits for the signature. A key enters by the mailbox alone; a key command that the Locksmith ignores is KEY_FAIL. SVN_RAISE never lowers the count nor
passes the SVN of the firmware that runs. What crosses the fabric waits for its answer (ACCESS_REPLY, ACCESS_COMPLETION_REPORT, FTMO), and then goes
on (IxAnswers). Commands: READ, WRITE, HOP_POP, HOP_PUSH, HOP_CMD, ATTEST, CERT, KEY_STATUS, KEY_WRITE, KEY_CMD, SVN_RAISE, ACCESS_COMPLETION_REPORT,
ACCESS_REPLY. Choices and readings of the model that it rests on: log entries 33, 85, 101, 117, 187. -/
def Obligations.MemoryAndSecurityOpcodes : Prop :=
  let wide (w : Nat) : Width := if w = 8 then .b64 else .b32
  let reach (a n : Nat) : Prop := (0x20000000 ≤ a ∧ a + n ≤ 0x200E0000) ∨ (0x100000000 ≤ a ∧ a + n ≤ 0x140000000)
  let bad (q : Req) (o : Nat) : Prop := (3 < beAt q.p 0 1 ∧ o = 0) ∨ (beAt q.p 0 1 ≤ 3 ∧ 7 < beAt q.p 1 1 ∧ o = 1) ∨ (beAt q.p 0 1 ≤ 3 ∧ beAt q.p 1 1 ≤ 7 ∧ 7 < beAt q.p 2 1 ∧ o = 2)
  let good (q : Req) (h : Nat) : Prop := beAt q.p 0 1 ≤ 3 ∧ beAt q.p 1 1 ≤ 7 ∧ beAt q.p 2 1 ≤ 7 ∧ h = (beAt q.p 0 1 * 8 + beAt q.p 1 1) * 8 + beAt q.p 2 1
  Row .ixRead 0x80 0 1 12 12 (fun v q u =>
    let a := beAt q.p 0 8
    let w := beAt q.p 8 1
    let n := beAt q.p 10 2
    (w ≠ 4 → w ≠ 8 → BadParam v q 8 u) ∧ (w = 4 ∨ w = 8 → 1024 < n * w → BadParam v q 10 u) ∧ (w = 4 ∨ w = 8 → n * w ≤ 1024 → ¬ reach a (max 1 (n * w)) → BadParam v q 0 u) ∧
    (w = 4 ∨ w = 8 → reach a 1 → n = 0 → Replied v q stOk 0 (be 32 0) u) ∧
    (w = 4 ∨ w = 8 → n * w ≤ 1024 → reach a (n * w) → 1 ≤ n → ((placeOf a).region).isSome = true →
      ∃ t, IxSends v a (wide w) .read 0 t ∧ Waits t q (.read v.nextId (a + w) (w == 8) (n - 1) [] false) u) ∧
    (w = 4 ∨ w = 8 → reach a w → n = 1 →
      (∀ g i, placeOf a = .reg g → g.info = some i → (placeOf a).region = none → i.width = wide w → v.keyRead .ixz g = false →
        g.blk ≠ .fryUp → g.blk ≠ .asy → g.blk ≠ .cmp → g.blk ≠ .mac → g.blk ≠ .tlyPi →
        ∃ t d, ReadBits i (v.live g) (v.rget g) d (t.rget g) ∧ KeepRegs [g] v t ∧ Only [.regs] v t ∧ Replied t q stOk 0 (be w d.toNat ++ be 32 0) u))) ∧
  Row .ixWrite 0x81 0 2 12 1036 (fun v q u =>
    let a := beAt q.p 0 8
    let w := beAt q.p 8 1
    let b := q.p.drop 12
    (w ≠ 4 → w ≠ 8 → BadParam v q 8 u) ∧ (w = 4 ∨ w = 8 → b.length % w ≠ 0 → BadParam v q 12 u) ∧ (w = 4 ∨ w = 8 → b.length % w = 0 → ¬ reach a (max 1 b.length) → BadParam v q 0 u) ∧
    (w = 4 ∨ w = 8 → b.length % w = 0 → reach a (max 1 b.length) → a < 0x20050000 → 0x20040000 < a + b.length → Replied v q stDenied 0 [] u) ∧
    (w = 4 ∨ w = 8 → b.length = w → reach a w → ¬ (a < 0x20050000 ∧ 0x20040000 < a + w) →
      (((placeOf a).region).isSome = true → ∃ t, IxSends v a (wide w) .write (BitVec.ofNat 32 (beAt b 0 w)) t ∧ Waits t q (.write [v.nextId] 0 false) u) ∧
      (∀ g i, placeOf a = .reg g → g.info = some i → (placeOf a).region = none → i.width = wide w → g.blk ∈ [Blk.tnkBase, .fry] →
        ∃ t, WrittenBits i (v.rget g) (BitVec.ofNat 64 (beAt b 0 w)) (t.rget g) ∧ KeepRegs [g] v t ∧ Only [.regs] v t ∧ Waits t q (.write [] 1 false) u))) ∧
  Row .ixHopPop 0x83 1 2 4 4 (fun v q u =>
    let n := beAt q.p 3 1
    (∀ o, bad q o → BadParam v q o u) ∧ (∀ h, good q h → n = 0 ∨ 64 < n → BadParam v q 3 u) ∧
    (∀ h, good q h → 1 ≤ n → n ≤ 64 → ∃ t, IxSends v (hopReg h 8).addr .b32 .read 0 t ∧ Waits t q (.hopStat v.nextId h (.pop n)) u)) ∧
  Row .ixHopPush 0x84 1 2 4 260 (fun v q u =>
    let b := q.p.drop 4
    (∀ o, bad q o → BadParam v q o u) ∧ (∀ h, good q h → b.length % 4 ≠ 0 → BadParam v q 4 u) ∧
    (∀ h, good q h → b.length % 4 = 0 → ∃ t l, IxSends v (hopReg h 8).addr .b32 .read 0 t ∧ Waits t q (.hopStat v.nextId h (.push l)) u ∧
      l.length = b.length / 4 ∧ ∀ i < l.length, nth 0 l i = BitVec.ofNat 32 (beAt b (4 * i) 4))) ∧
  Row .ixHopCmd 0x85 1 2 4 4 (fun v q u =>
    let c := beAt q.p 3 1
    (∀ o, bad q o → BadParam v q o u) ∧ (∀ h, good q h → 15 < c → BadParam v q 3 u) ∧
    (∀ h, good q h → c ≤ 15 → ∃ t, IxSends v (hopAt h 4) .b32 .write (BitVec.ofNat 32 (c * 2 ^ 28)) t ∧ Waits t q (.hopCmd v.nextId h) u)) ∧
  Row .ixAttest 0x90 0 1 32 32 (fun v q u => ∃ w, w.attests = v.attests + 1 ∧ w.reports = v.reports ++ [v.report q.p (v.attests + 1)] ∧ w.rb (ntyReg 0) 30 = true ∧ w.rf (ntyReg 0xC) 0 32 = (v.attests + 1) % 2 ^ 32 ∧
    w.ix = { v.ix with signQ := v.ix.signQ ++ [q.sid] } ∧ KeepRegs [ntyReg 0, ntyReg 0xC] v w ∧ Only [.regs, .reports, .attests, .ix] v w ∧ Waits w q .sign u) ∧
  Row .ixCert 0x91 0 1 8 8 (fun v q u =>
    let off := beAt q.p 0 4
    let n := beAt q.p 4 2
    (Config.certLen < off → BadParam v q 0 u) ∧ (off ≤ Config.certLen → 1024 < n → BadParam v q 4 u) ∧
    (off ≤ Config.certLen → n ≤ 1024 → ∃ w, FlashLit v w [] ∧ Replied w q stOk 0 (be 4 Config.certLen ++ (List.range (min n (Config.certLen - off))).map (fun i => Config.certByte (off + i))) u)) ∧
  Row .ixKeyStatus 0x92 0 1 0 0 (fun v q u => RepliedRegs v q stOk 0 ([lsmReg 0, lsmReg 0xC] ++ (List.range 8).map (fun i => lsmReg (0x40 + 4 * i))) [] u) ∧
  Row .ixKeyWrite 0x93 0 2 36 36 (fun v q u =>
    let slot := beAt q.p 0 1
    let key : BitVec 256 := BitVec.ofNat 256 (beAt q.p 4 32)
    let box : Prop := ∃ h, q.ep = .mailbox h
    (¬ box → Replied v q stDenied 0 [] u) ∧ (box → 7 < slot → BadParam v q 0 u) ∧
    (box → slot ≤ 7 → v.kcmdOk 1 slot = false → ∃ w, w.rf (lsmReg 0x10) 0 16 = min 0xFFFF (v.rf (lsmReg 0x10) 0 16 + 1) ∧ Only [.regs] v w ∧ Replied w q stKeyFail (v.kslot slot).st [] u) ∧
    (box → slot ≤ 7 → v.kcmdOk 1 slot = true → ∃ w, (4 ≤ slot → w.kslot slot = { st := 1, key := key }) ∧ (slot < 4 → w.kcmd = some ⟨1, slot, key⟩) ∧ (∀ j < 8, w.rget (lsmReg (0x20 + 4 * j)) = 0) ∧ Only [.regs, .kslots, .kcmd] v w ∧
      Waits w q (.fuse slot false) u)) ∧
  Row .ixKeyCmd 0x94 0 2 36 36 (fun v q u =>
    let cmd := beAt q.p 0 1
    let slot := beAt q.p 1 1
    let fits : Prop := 2 ≤ cmd ∧ cmd ≤ 5 ∧ slot ≤ 7
    (cmd < 2 ∨ 5 < cmd → BadParam v q 0 u) ∧ (2 ≤ cmd → cmd ≤ 5 → 7 < slot → BadParam v q 1 u) ∧
    (fits → v.kcmdOk cmd slot = false → ∃ w, w.rf (lsmReg 0x10) 0 16 = min 0xFFFF (v.rf (lsmReg 0x10) 0 16 + 1) ∧ Only [.regs] v w ∧ Replied w q stKeyFail (v.kslot slot).st [] u) ∧
    (fits → v.kcmdOk cmd slot = true → ∃ w, (cmd = 2 → w.kslot slot = {}) ∧ (cmd = 3 → w.kslot slot = { st := 2 }) ∧ (cmd = 4 → w.kcmd = some ⟨4, slot % 4, BitVec.ofNat 256 (beAt q.p 4 32)⟩) ∧
      (cmd = 5 → w.oslot (slot % 4) = { v.oslot (slot % 4) with rev := true }) ∧ Only [.regs, .kslots, .kcmd, .oslots] v w ∧ Waits w q (.fuse slot (decide (cmd = 4 ∨ cmd = 5))) u)) ∧
  Row .ixSvnRaise 0x95 2 2 4 4 (fun v q u =>
    let t := beAt q.p 0 1
    let out : Prop := t = 0 ∨ 63 < t ∨ (v.fw.getD {}).svn < t
    (out → BadParam v q 0 u) ∧ (¬ out → beAt q.p 1 1 ≠ 255 - t → BadParam v q 1 u) ∧
    (¬ out → beAt q.p 1 1 = 255 - t → ∃ w, w.fwsvn = max v.fwsvn t ∧ Only [.fwsvn] v w ∧ RepliedRegs w q stOk 0 [lsmReg 0xC] [] u)) ∧
  (∀ (id : Nat) (s : State) (f : Flight) (a : Answer), s.flight id = some f → f.path = [] → f.iss = .ixz → f.ans = some a →
    (∀ x r, s.waiter id = some (x, r) → s.session x.id = some x → x.run = some r → IxAnswers id s f a x r) ∧
    (f.kind = .write → s.waiter id = none → DoesThen (.accessCompletionReport id) s (fun u => u.flights = s.flights.filter (fun y => y.id != id) ∧ u.ix = { s.ix with sessions := u.ix.sessions } ∧ Only [.flights, .ix] s u ∧
      ∀ j x r ids n b, s.session j = some x → x.run = some r → r.wait = .write ids n b → id ∈ ids →
        u.session j = some { x with run := some { r with wait := .write (ids.filter (· != id)) (if a = .quarantined then n else n + 1) (b || a == .quarantined) } })) ∧
    (f.kind = .read → s.waiter id = none → DoesThen (.accessReply id) s (fun u => u.flights = s.flights.filter (fun y => y.id != id) ∧ u.rdata = a.tok.d.setWidth 64 ∧
      KeepRegs (if a.tok.p then [irqReg 0x34] else []) s u ∧ Only [.flights, .regs, .rdata] s u)))

/-- R428: a session value is nonzero, has 16 bits, and is not one of those in use by the last openings, as long as these are fewer than the values there
are. Choices and readings of the model that it rests on: log entries 2, 119. -/
def Obligations.SessionValuesFresh : Prop :=
  ∀ (used : List Nat) (x : Nat), used.length ≤ 65534 → x < 65536 →
    let i := freshId used 65536 x
    i ≠ 0 ∧ i < 65536 ∧ i ∉ used

/-- R422 to R424: what is built is read back: a packet with its header fields in their ranges parses to those fields and the bytes that follow, its HCRC
right. -/
def Obligations.PacketsReadBack : Prop :=
  ∀ (ver op flags sid : Nat) (seq : Word) (p : List Byte), ver < 65536 → op < 256 → flags < 256 → sid < 65536 → p.length < 65536 →
    parsePkt (mkPkt ver op flags seq sid p) = some ⟨ver / 256, ver % 256, op, flags, seq, p.length, sid, p⟩
end

