-- ==== Sys2Proof/Laws/Store.lean ====
section
/-! SUPPORT. Laws of sparse data: what a key reads as after each operation, and that every operation keeps the canonical form. -/

namespace Sys2Proof.Machine.Store

variable {α : Type}

@[simp] theorem get_nil (d : α) (i : Nat) : Store.get d [] i = d := rfl

@[simp] theorem get_erase_same (d : α) (m : Store α) (i : Nat) : Store.get d (Store.erase m i) i = d := by
  induction m with
  | nil => rfl
  | cons e t ih =>
    obtain ⟨k, v⟩ := e
    by_cases h : i = k <;> simp [Store.erase, Store.get, h] <;> simpa [h] using ih

theorem get_erase_ne (d : α) (m : Store α) {i j : Nat} (h : j ≠ i) : Store.get d (Store.erase m i) j = Store.get d m j := by
  induction m with
  | nil => rfl
  | cons e t ih =>
    obtain ⟨k, v⟩ := e
    by_cases hk : i = k
    · subst hk; simp [Store.erase, Store.get, h, ih]
    · simp [Store.erase, Store.get, hk, ih]

theorem get_insert_ne (d : α) (m : Store α) {i j : Nat} (x : α) (h : j ≠ i) : Store.get d (Store.insert m i x) j = Store.get d m j := by
  induction m with
  | nil => simp [Store.insert, Store.get, h]
  | cons e t ih =>
    obtain ⟨k, v⟩ := e
    by_cases hk : i < k <;> simp [Store.insert, Store.get, hk, h, ih]

theorem get_insert_erase (d : α) (m : Store α) (i : Nat) (x : α) : Store.get d (Store.insert (Store.erase m i) i x) i = x := by
  induction m with
  | nil => simp [Store.erase, Store.insert, Store.get]
  | cons e t ih =>
    obtain ⟨k, v⟩ := e
    by_cases hk : i = k
    · simpa [Store.erase, hk] using (hk ▸ ih)
    · by_cases hl : i < k <;> simp [Store.erase, Store.insert, Store.get, hk, hl, ih]

/-- A read after a write to the same key gives the value written. -/
@[simp] theorem get_put_same [DecidableEq α] (d : α) (m : Store α) (i : Nat) (x : α) : Store.get d (Store.put d m i x) i = x := by
  unfold Store.put
  split
  · next h => simp [h]
  · exact get_insert_erase d m i x

/-- A write leaves every other key alone, whatever an unlisted key reads as there. -/
theorem get_put_ne [DecidableEq α] {d' : α} (d : α) (m : Store α) {i j : Nat} (x : α) (h : j ≠ i) :
    Store.get d' (Store.put d m i x) j = Store.get d' m j := by
  unfold Store.put
  split
  · exact get_erase_ne d' m h
  · rw [get_insert_ne d' _ x h, get_erase_ne d' m h]

/-- What any key reads as after a write. -/
theorem get_put [DecidableEq α] (d : α) (m : Store α) (i j : Nat) (x : α) :
    Store.get d (Store.put d m i x) j = if j = i then x else Store.get d m j := by
  split
  · next h => subst h; exact get_put_same d m j x
  · next h => exact get_put_ne d m x h

/-! The canonical form. -/

/-- Strictly rising keys, as a proposition: every key lies above the bound and the tail rises from it. -/
theorem rising_cons (lo : Option Nat) (k : Nat) (v : α) (t : Store α) :
    Store.rising lo ((k, v) :: t) = (lo.all (· < k) && Store.rising (some k) t) := by
  cases lo <;> simp [Store.rising]

theorem rising_weaken {a b : Nat} (h : a ≤ b) {m : Store α} (hm : Store.rising (some b) m = true) : Store.rising (some a) m = true := by
  cases m with
  | nil => rfl
  | cons e t =>
    obtain ⟨k, v⟩ := e
    simp [Store.rising] at hm ⊢
    exact ⟨by omega, hm.2⟩

theorem rising_none {b : Nat} {m : Store α} (hm : Store.rising (some b) m = true) : Store.rising none m = true := by
  cases m with
  | nil => rfl
  | cons e t => obtain ⟨k, v⟩ := e; simp [Store.rising] at hm ⊢; exact hm.2

theorem rising_erase {m : Store α} {lo : Option Nat} (i : Nat) (hm : Store.rising lo m = true) : Store.rising lo (Store.erase m i) = true := by
  induction m generalizing lo with
  | nil => rfl
  | cons e t ih =>
    obtain ⟨k, v⟩ := e
    rw [rising_cons] at hm
    simp only [Bool.and_eq_true] at hm
    by_cases hk : i = k
    · simp only [Store.erase, hk, if_true]
      have := ih hm.2
      rw [← hk] at this ⊢
      cases lo with
      | none => exact rising_none (b := i) (by simpa [hk] using this)
      | some a =>
        have ha : a < k := by simpa using hm.1
        exact rising_weaken (b := i) (by omega) (by simpa [hk] using this)
    · simp only [Store.erase, hk, if_false, rising_cons, Bool.and_eq_true]
      exact ⟨hm.1, ih hm.2⟩

theorem mem_erase_ne {m : Store α} {i : Nat} {e : Nat × α} (h : e ∈ Store.erase m i) : e ∈ m ∧ e.1 ≠ i := by
  induction m with
  | nil => simp [Store.erase] at h
  | cons a t ih =>
    obtain ⟨k, v⟩ := a
    by_cases hk : i = k
    · simp only [Store.erase, hk, if_true] at h
      have := ih (hk ▸ h)
      exact ⟨List.mem_cons_of_mem _ this.1, this.2⟩
    · simp only [Store.erase, hk, if_false, List.mem_cons] at h
      rcases h with rfl | h
      · exact ⟨List.mem_cons_self, fun h => hk h.symm⟩
      · exact ⟨List.mem_cons_of_mem _ (ih h).1, (ih h).2⟩

theorem rising_insert {m : Store α} {lo : Option Nat} {i : Nat} (x : α) (hm : Store.rising lo m = true) (hlo : lo.all (· < i) = true)
    (hne : ∀ e ∈ m, e.1 ≠ i) : Store.rising lo (Store.insert m i x) = true := by
  induction m generalizing lo with
  | nil => simp [Store.insert, rising_cons, hlo, Store.rising]
  | cons a t ih =>
    obtain ⟨k, v⟩ := a
    rw [rising_cons, Bool.and_eq_true] at hm
    by_cases hk : i < k
    · simp [Store.insert, hk, rising_cons, hlo, hm.2]
    · have hki : k < i := by
        have := hne (k, v) List.mem_cons_self
        simp at this; omega
      simp only [Store.insert, hk, if_false, rising_cons, Bool.and_eq_true]
      exact ⟨hm.1, ih hm.2 (by simpa using hki) (fun e he => hne e (List.mem_cons_of_mem _ he))⟩

/-- A write keeps the keys rising. -/
theorem rising_put [DecidableEq α] (d : α) {m : Store α} (i : Nat) (x : α) (hm : Store.rising none m = true) :
    Store.rising none (Store.put d m i x) = true := by
  unfold Store.put
  split
  · exact rising_erase i hm
  · exact rising_insert x (rising_erase i hm) rfl (fun e he => (mem_erase_ne he).2)

theorem mem_insert {m : Store α} {i : Nat} {x : α} {e : Nat × α} (h : e ∈ Store.insert m i x) : e = (i, x) ∨ e ∈ m := by
  induction m with
  | nil => simpa [Store.insert] using h
  | cons a t ih =>
    obtain ⟨k, v⟩ := a
    by_cases hk : i < k
    · simpa [Store.insert, hk] using h
    · simp only [Store.insert, hk, if_false, List.mem_cons] at h ⊢
      rcases h with rfl | h
      · exact .inr (.inl rfl)
      · exact (ih h).imp_right .inr

@[simp] theorem wf_nil [DecidableEq α] (d : α) : Store.wf d [] = true := rfl

theorem wf_iff [DecidableEq α] {d : α} {m : Store α} : Store.wf d m = true ↔ Store.rising none m = true ∧ ∀ e ∈ m, e.2 ≠ d := by
  simp [Store.wf]

/-- A write keeps the canonical form. -/
theorem wf_put [DecidableEq α] (d : α) {m : Store α} (i : Nat) (x : α) (hm : Store.wf d m = true) : Store.wf d (Store.put d m i x) = true := by
  rw [wf_iff] at hm ⊢
  refine ⟨rising_put d i x hm.1, fun e he => ?_⟩
  unfold Store.put at he
  split at he
  · exact hm.2 e (mem_erase_ne he).1
  · next hx =>
    rcases mem_insert he with rfl | h
    · exact hx
    · exact hm.2 e (mem_erase_ne h).1

/-- Keeping some entries keeps the keys rising. -/
theorem rising_filter {m : Store α} {lo : Option Nat} (p : Nat × α → Bool) (hm : Store.rising lo m = true) :
    Store.rising lo (m.filter p) = true := by
  induction m generalizing lo with
  | nil => rfl
  | cons e t ih =>
    obtain ⟨k, v⟩ := e
    rw [rising_cons, Bool.and_eq_true] at hm
    by_cases hp : p (k, v) = true
    · simp only [List.filter_cons, hp, if_true, rising_cons, Bool.and_eq_true]
      exact ⟨hm.1, ih hm.2⟩
    · simp only [List.filter_cons, hp]
      have := ih hm.2
      cases lo with
      | none => exact rising_none this
      | some a => exact rising_weaken (le_of_lt (by simpa using hm.1)) this

theorem wf_filter [DecidableEq α] (d : α) {m : Store α} (p : Nat × α → Bool) (hm : Store.wf d m = true) : Store.wf d (m.filter p) = true := by
  rw [wf_iff] at hm ⊢
  exact ⟨rising_filter _ hm.1, fun e he => hm.2 e (List.mem_filter.mp he).1⟩

theorem wf_keep [DecidableEq α] (d : α) {m : Store α} (p : Nat → Bool) (hm : Store.wf d m = true) : Store.wf d (Store.keep p m) = true := by
  rw [wf_iff] at hm ⊢
  exact ⟨rising_filter _ hm.1, fun e he => hm.2 e (List.mem_filter.mp he).1⟩

theorem rising_map {β : Type} {m : Store α} {lo : Option Nat} (f : Nat → α → β) (hm : Store.rising lo m = true) :
    Store.rising lo (m.map (fun e => (e.1, f e.1 e.2))) = true := by
  induction m generalizing lo with
  | nil => rfl
  | cons e t ih =>
    obtain ⟨k, v⟩ := e
    rw [rising_cons, Bool.and_eq_true] at hm
    simp only [List.map_cons, rising_cons, Bool.and_eq_true]
    exact ⟨hm.1, ih hm.2⟩

theorem wf_mapVals [DecidableEq α] (d : α) {m : Store α} (f : Nat → α → α) (hm : Store.rising none m = true) :
    Store.wf d (Store.mapVals d f m) = true := by
  rw [wf_iff]
  refine ⟨rising_filter _ (rising_map f hm), fun e he => ?_⟩
  simpa using (List.mem_filter.mp he).2

theorem wf_putBytes {m : Store Byte} (b : List Byte) (i : Nat) (hm : Store.wf 0#8 m = true) : Store.wf 0#8 (Store.putBytes m i b) = true := by
  induction b generalizing m i with
  | nil => exact hm
  | cons x t ih => exact ih (i + 1) (wf_put 0#8 i x hm)

theorem wf_foldl_put [DecidableEq α] (d : α) {β : Type} (l : List β) (k : β → Nat) (v : β → α) {m : Store α} (hm : Store.wf d m = true) :
    Store.wf d (l.foldl (fun x e => Store.put d x (k e) (v e)) m) = true := by
  induction l generalizing m with
  | nil => exact hm
  | cons e t ih => exact ih (wf_put d _ _ hm)

theorem wf_copyRange {src dst : Store Byte} (lo n : Nat) (hm : Store.wf 0#8 dst = true) (dest : Nat) :
    Store.wf 0#8 (Store.copyRange src lo n dst dest) = true :=
  wf_foldl_put 0#8 _ _ _ (wf_filter 0#8 _ hm)

theorem wf_dup [DecidableEq α] (d : α) {m : Store α} (lo n dest : Nat) (hm : Store.wf d m = true) :
    Store.wf d (Store.dup d m lo n dest) = true :=
  wf_foldl_put d _ _ _ (wf_filter d _ hm)

/-- A byte outside the written ones reads as before. -/
theorem get_putBytes_outside {m : Store Byte} (b : List Byte) {i j : Nat} (h : j < i ∨ i + b.length ≤ j) :
    Store.get 0#8 (Store.putBytes m i b) j = Store.get 0#8 m j := by
  induction b generalizing m i with
  | nil => rfl
  | cons x t ih =>
    simp only [Store.putBytes]
    rw [ih (by simp at h; omega), get_put_ne _ _ _ (by simp at h; omega)]

end Sys2Proof.Machine.Store
end

