-- ==== Sys2Proof/Laws/State.lean ====
section
/-! SUPPORT. The small lemmas of State: what the entry of a key reads as after a write, and that a write to one field leaves every other field alone. -/

namespace Sys2Proof.Machine

@[simp] theorem State.setTport_tports (s : State) (i : Nat) (x : TPort) : (s.setTport i x).tports = Store.put {} s.tports i x := rfl
@[simp] theorem State.tport_setTport_same (s : State) (i : Nat) (x : TPort) : (s.setTport i x).tport i = x := Store.get_put_same _ _ _ _
theorem State.tport_setTport_ne (s : State) (i j : Nat) (x : TPort) (h : j ≠ i) : (s.setTport i x).tport j = s.tport j := Store.get_put_ne _ _ _ h
@[simp] theorem State.setTport_pending (s : State) (i : Nat) (x : TPort) : (s.setTport i x).pending = s.pending := rfl
@[simp] theorem State.setTport_free (s : State) (i : Nat) (x : TPort) : (s.setTport i x).free = s.free := rfl
@[simp] theorem State.setTport_time (s : State) (i : Nat) (x : TPort) : (s.setTport i x).time = s.time := rfl
@[simp] theorem State.setTport_regs (s : State) (i : Nat) (x : TPort) : (s.setTport i x).regs = s.regs := rfl
@[simp] theorem State.setTport_rdata (s : State) (i : Nat) (x : TPort) : (s.setTport i x).rdata = s.rdata := rfl
@[simp] theorem State.setTport_tlines (s : State) (i : Nat) (x : TPort) : (s.setTport i x).tlines = s.tlines := rfl
@[simp] theorem State.setTport_ptp (s : State) (i : Nat) (x : TPort) : (s.setTport i x).ptp = s.ptp := rfl
@[simp] theorem State.setTport_ptpGo (s : State) (i : Nat) (x : TPort) : (s.setTport i x).ptpGo = s.ptpGo := rfl
@[simp] theorem State.setTport_ptpMark (s : State) (i : Nat) (x : TPort) : (s.setTport i x).ptpMark = s.ptpMark := rfl
@[simp] theorem State.setTport_calReq (s : State) (i : Nat) (x : TPort) : (s.setTport i x).calReq = s.calReq := rfl
@[simp] theorem State.setTport_interval (s : State) (i : Nat) (x : TPort) : (s.setTport i x).interval = s.interval := rfl
@[simp] theorem State.setTport_frames (s : State) (i : Nat) (x : TPort) : (s.setTport i x).frames = s.frames := rfl
@[simp] theorem State.setTport_spine (s : State) (i : Nat) (x : TPort) : (s.setTport i x).spine = s.spine := rfl
@[simp] theorem State.setTport_cells (s : State) (i : Nat) (x : TPort) : (s.setTport i x).cells = s.cells := rfl
@[simp] theorem State.setTport_regions (s : State) (i : Nat) (x : TPort) : (s.setTport i x).regions = s.regions := rfl
@[simp] theorem State.setTport_clus (s : State) (i : Nat) (x : TPort) : (s.setTport i x).clus = s.clus := rfl
@[simp] theorem State.setTport_cfg (s : State) (i : Nat) (x : TPort) : (s.setTport i x).cfg = s.cfg := rfl
@[simp] theorem State.setTport_chans (s : State) (i : Nat) (x : TPort) : (s.setTport i x).chans = s.chans := rfl
@[simp] theorem State.setTport_aports (s : State) (i : Nat) (x : TPort) : (s.setTport i x).aports = s.aports := rfl
@[simp] theorem State.setTport_blines (s : State) (i : Nat) (x : TPort) : (s.setTport i x).blines = s.blines := rfl
@[simp] theorem State.setTport_bsrcs (s : State) (i : Nat) (x : TPort) : (s.setTport i x).bsrcs = s.bsrcs := rfl
@[simp] theorem State.setTport_bports (s : State) (i : Nat) (x : TPort) : (s.setTport i x).bports = s.bports := rfl
@[simp] theorem State.setTport_twins (s : State) (i : Nat) (x : TPort) : (s.setTport i x).twins = s.twins := rfl
@[simp] theorem State.setTport_lanes (s : State) (i : Nat) (x : TPort) : (s.setTport i x).lanes = s.lanes := rfl
@[simp] theorem State.setTport_flights (s : State) (i : Nat) (x : TPort) : (s.setTport i x).flights = s.flights := rfl
@[simp] theorem State.setTport_nextId (s : State) (i : Nat) (x : TPort) : (s.setTport i x).nextId = s.nextId := rfl
@[simp] theorem State.setTport_pairs (s : State) (i : Nat) (x : TPort) : (s.setTport i x).pairs = s.pairs := rfl
@[simp] theorem State.setTport_codePend (s : State) (i : Nat) (x : TPort) : (s.setTport i x).codePend = s.codePend := rfl
@[simp] theorem State.setTport_spareQ (s : State) (i : Nat) (x : TPort) : (s.setTport i x).spareQ = s.spareQ := rfl
@[simp] theorem State.setTport_swapWant (s : State) (i : Nat) (x : TPort) : (s.setTport i x).swapWant = s.swapWant := rfl
@[simp] theorem State.setTport_bmems (s : State) (i : Nat) (x : TPort) : (s.setTport i x).bmems = s.bmems := rfl
@[simp] theorem State.setTport_bbytes (s : State) (i : Nat) (x : TPort) : (s.setTport i x).bbytes = s.bbytes := rfl
@[simp] theorem State.setTport_banks (s : State) (i : Nat) (x : TPort) : (s.setTport i x).banks = s.banks := rfl
@[simp] theorem State.setTport_swords (s : State) (i : Nat) (x : TPort) : (s.setTport i x).swords = s.swords := rfl
@[simp] theorem State.setTport_hops (s : State) (i : Nat) (x : TPort) : (s.setTport i x).hops = s.hops := rfl
@[simp] theorem State.setTport_pins (s : State) (i : Nat) (x : TPort) : (s.setTport i x).pins = s.pins := rfl
@[simp] theorem State.setTport_spinePrevs (s : State) (i : Nat) (x : TPort) : (s.setTport i x).spinePrevs = s.spinePrevs := rfl
@[simp] theorem State.setTport_pads (s : State) (i : Nat) (x : TPort) : (s.setTport i x).pads = s.pads := rfl
@[simp] theorem State.setTport_groups (s : State) (i : Nat) (x : TPort) : (s.setTport i x).groups = s.groups := rfl
@[simp] theorem State.setTport_links (s : State) (i : Nat) (x : TPort) : (s.setTport i x).links = s.links := rfl
@[simp] theorem State.setTport_reasms (s : State) (i : Nat) (x : TPort) : (s.setTport i x).reasms = s.reasms := rfl
@[simp] theorem State.setTport_mgmtIn (s : State) (i : Nat) (x : TPort) : (s.setTport i x).mgmtIn = s.mgmtIn := rfl
@[simp] theorem State.setTport_lateTags (s : State) (i : Nat) (x : TPort) : (s.setTport i x).lateTags = s.lateTags := rfl
@[simp] theorem State.setTport_slices (s : State) (i : Nat) (x : TPort) : (s.setTport i x).slices = s.slices := rfl
@[simp] theorem State.setTport_sweep (s : State) (i : Nat) (x : TPort) : (s.setTport i x).sweep = s.sweep := rfl
@[simp] theorem State.setTport_asyNews (s : State) (i : Nat) (x : TPort) : (s.setTport i x).asyNews = s.asyNews := rfl
@[simp] theorem State.setTport_sliceEnded (s : State) (i : Nat) (x : TPort) : (s.setTport i x).sliceEnded = s.sliceEnded := rfl
@[simp] theorem State.setTport_load (s : State) (i : Nat) (x : TPort) : (s.setTport i x).load = s.load := rfl
@[simp] theorem State.setTport_flash (s : State) (i : Nat) (x : TPort) : (s.setTport i x).flash = s.flash := rfl
@[simp] theorem State.setTport_gold (s : State) (i : Nat) (x : TPort) : (s.setTport i x).gold = s.gold := rfl
@[simp] theorem State.setTport_cparks (s : State) (i : Nat) (x : TPort) : (s.setTport i x).cparks = s.cparks := rfl
@[simp] theorem State.setTport_crcs (s : State) (i : Nat) (x : TPort) : (s.setTport i x).crcs = s.crcs := rfl
@[simp] theorem State.setTport_loadEnded (s : State) (i : Nat) (x : TPort) : (s.setTport i x).loadEnded = s.loadEnded := rfl
@[simp] theorem State.setTport_imgHash (s : State) (i : Nat) (x : TPort) : (s.setTport i x).imgHash = s.imgHash := rfl
@[simp] theorem State.setTport_rimgs (s : State) (i : Nat) (x : TPort) : (s.setTport i x).rimgs = s.rimgs := rfl
@[simp] theorem State.setTport_staged (s : State) (i : Nat) (x : TPort) : (s.setTport i x).staged = s.staged := rfl
@[simp] theorem State.setTport_loadAsked (s : State) (i : Nat) (x : TPort) : (s.setTport i x).loadAsked = s.loadAsked := rfl
@[simp] theorem State.setTport_toldFaults (s : State) (i : Nat) (x : TPort) : (s.setTport i x).toldFaults = s.toldFaults := rfl
@[simp] theorem State.setTport_kslots (s : State) (i : Nat) (x : TPort) : (s.setTport i x).kslots = s.kslots := rfl
@[simp] theorem State.setTport_oslots (s : State) (i : Nat) (x : TPort) : (s.setTport i x).oslots = s.oslots := rfl
@[simp] theorem State.setTport_kcmd (s : State) (i : Nat) (x : TPort) : (s.setTport i x).kcmd = s.kcmd := rfl
@[simp] theorem State.setTport_cutSlots (s : State) (i : Nat) (x : TPort) : (s.setTport i x).cutSlots = s.cutSlots := rfl
@[simp] theorem State.setTport_tkrev (s : State) (i : Nat) (x : TPort) : (s.setTport i x).tkrev = s.tkrev := rfl
@[simp] theorem State.setTport_fwsvn (s : State) (i : Nat) (x : TPort) : (s.setTport i x).fwsvn = s.fwsvn := rfl
@[simp] theorem State.setTport_fw (s : State) (i : Nat) (x : TPort) : (s.setTport i x).fw = s.fw := rfl
@[simp] theorem State.setTport_recovery (s : State) (i : Nat) (x : TPort) : (s.setTport i x).recovery = s.recovery := rfl
@[simp] theorem State.setTport_reports (s : State) (i : Nat) (x : TPort) : (s.setTport i x).reports = s.reports := rfl
@[simp] theorem State.setTport_signed (s : State) (i : Nat) (x : TPort) : (s.setTport i x).signed = s.signed := rfl
@[simp] theorem State.setTport_attests (s : State) (i : Nat) (x : TPort) : (s.setTport i x).attests = s.attests := rfl
@[simp] theorem State.setTport_uarts (s : State) (i : Nat) (x : TPort) : (s.setTport i x).uarts = s.uarts := rfl
@[simp] theorem State.setTport_spi (s : State) (i : Nat) (x : TPort) : (s.setTport i x).spi = s.spi := rfl
@[simp] theorem State.setTport_i2cs (s : State) (i : Nat) (x : TPort) : (s.setTport i x).i2cs = s.i2cs := rfl
@[simp] theorem State.setTport_cores (s : State) (i : Nat) (x : TPort) : (s.setTport i x).cores = s.cores := rfl
@[simp] theorem State.setTport_wdgs (s : State) (i : Nat) (x : TPort) : (s.setTport i x).wdgs = s.wdgs := rfl
@[simp] theorem State.setTport_gexts (s : State) (i : Nat) (x : TPort) : (s.setTport i x).gexts = s.gexts := rfl
@[simp] theorem State.setTport_gkeeps (s : State) (i : Nat) (x : TPort) : (s.setTport i x).gkeeps = s.gkeeps := rfl
@[simp] theorem State.setTport_glines (s : State) (i : Nat) (x : TPort) : (s.setTport i x).glines = s.glines := rfl
@[simp] theorem State.setTport_gheld (s : State) (i : Nat) (x : TPort) : (s.setTport i x).gheld = s.gheld := rfl
@[simp] theorem State.setTport_cmpNews (s : State) (i : Nat) (x : TPort) : (s.setTport i x).cmpNews = s.cmpNews := rfl
@[simp] theorem State.setTport_ptpNews (s : State) (i : Nat) (x : TPort) : (s.setTport i x).ptpNews = s.ptpNews := rfl
@[simp] theorem State.setTport_ptpStamp (s : State) (i : Nat) (x : TPort) : (s.setTport i x).ptpStamp = s.ptpStamp := rfl
@[simp] theorem State.setTport_ppsAt (s : State) (i : Nat) (x : TPort) : (s.setTport i x).ppsAt = s.ppsAt := rfl
@[simp] theorem State.setTport_mem (s : State) (i : Nat) (x : TPort) : (s.setTport i x).mem = s.mem := rfl
@[simp] theorem State.setTport_memEpoch (s : State) (i : Nat) (x : TPort) : (s.setTport i x).memEpoch = s.memEpoch := rfl
@[simp] theorem State.setTport_ix (s : State) (i : Nat) (x : TPort) : (s.setTport i x).ix = s.ix := rfl
@[simp] theorem State.setTport_ixOut (s : State) (i : Nat) (x : TPort) : (s.setTport i x).ixOut = s.ixOut := rfl
@[simp] theorem State.setTport_doms (s : State) (i : Nat) (x : TPort) : (s.setTport i x).doms = s.doms := rfl
@[simp] theorem State.setTport_epoch (s : State) (i : Nat) (x : TPort) : (s.setTport i x).epoch = s.epoch := rfl
@[simp] theorem State.setTport_ups (s : State) (i : Nat) (x : TPort) : (s.setTport i x).ups = s.ups := rfl
@[simp] theorem State.setTport_dns (s : State) (i : Nat) (x : TPort) : (s.setTport i x).dns = s.dns := rfl
@[simp] theorem State.setTport_probes (s : State) (i : Nat) (x : TPort) : (s.setTport i x).probes = s.probes := rfl
@[simp] theorem State.setTport_tapIr (s : State) (i : Nat) (x : TPort) : (s.setTport i x).tapIr = s.tapIr := rfl
@[simp] theorem State.setTport_bscan (s : State) (i : Nat) (x : TPort) : (s.setTport i x).bscan = s.bscan := rfl
@[simp] theorem State.setTport_dbgAcc (s : State) (i : Nat) (x : TPort) : (s.setTport i x).dbgAcc = s.dbgAcc := rfl
@[simp] theorem State.setTport_dbgStatus (s : State) (i : Nat) (x : TPort) : (s.setTport i x).dbgStatus = s.dbgStatus := rfl
@[simp] theorem State.setTport_dbgP (s : State) (i : Nat) (x : TPort) : (s.setTport i x).dbgP = s.dbgP := rfl
@[simp] theorem State.setTport_dbgData (s : State) (i : Nat) (x : TPort) : (s.setTport i x).dbgData = s.dbgData := rfl
@[simp] theorem State.setTport_bcap (s : State) (i : Nat) (x : TPort) : (s.setTport i x).bcap = s.bcap := rfl
@[simp] theorem State.setTport_vin (s : State) (i : Nat) (x : TPort) : (s.setTport i x).vin = s.vin := rfl
@[simp] theorem State.setTport_vbat (s : State) (i : Nat) (x : TPort) : (s.setTport i x).vbat = s.vbat := rfl
@[simp] theorem State.setTport_bbGone (s : State) (i : Nat) (x : TPort) : (s.setTport i x).bbGone = s.bbGone := rfl
@[simp] theorem State.setTport_hot (s : State) (i : Nat) (x : TPort) : (s.setTport i x).hot = s.hot := rfl
@[simp] theorem State.setTport_bootDue (s : State) (i : Nat) (x : TPort) : (s.setTport i x).bootDue = s.bootDue := rfl

@[simp] theorem State.setTline_tlines (s : State) (i : Nat) (x : TLine) : (s.setTline i x).tlines = Store.put {} s.tlines i x := rfl
@[simp] theorem State.tline_setTline_same (s : State) (i : Nat) (x : TLine) : (s.setTline i x).tline i = x := Store.get_put_same _ _ _ _
theorem State.tline_setTline_ne (s : State) (i j : Nat) (x : TLine) (h : j ≠ i) : (s.setTline i x).tline j = s.tline j := Store.get_put_ne _ _ _ h
@[simp] theorem State.setTline_pending (s : State) (i : Nat) (x : TLine) : (s.setTline i x).pending = s.pending := rfl
@[simp] theorem State.setTline_free (s : State) (i : Nat) (x : TLine) : (s.setTline i x).free = s.free := rfl
@[simp] theorem State.setTline_time (s : State) (i : Nat) (x : TLine) : (s.setTline i x).time = s.time := rfl
@[simp] theorem State.setTline_regs (s : State) (i : Nat) (x : TLine) : (s.setTline i x).regs = s.regs := rfl
@[simp] theorem State.setTline_rdata (s : State) (i : Nat) (x : TLine) : (s.setTline i x).rdata = s.rdata := rfl
@[simp] theorem State.setTline_tports (s : State) (i : Nat) (x : TLine) : (s.setTline i x).tports = s.tports := rfl
@[simp] theorem State.setTline_ptp (s : State) (i : Nat) (x : TLine) : (s.setTline i x).ptp = s.ptp := rfl
@[simp] theorem State.setTline_ptpGo (s : State) (i : Nat) (x : TLine) : (s.setTline i x).ptpGo = s.ptpGo := rfl
@[simp] theorem State.setTline_ptpMark (s : State) (i : Nat) (x : TLine) : (s.setTline i x).ptpMark = s.ptpMark := rfl
@[simp] theorem State.setTline_calReq (s : State) (i : Nat) (x : TLine) : (s.setTline i x).calReq = s.calReq := rfl
@[simp] theorem State.setTline_interval (s : State) (i : Nat) (x : TLine) : (s.setTline i x).interval = s.interval := rfl
@[simp] theorem State.setTline_frames (s : State) (i : Nat) (x : TLine) : (s.setTline i x).frames = s.frames := rfl
@[simp] theorem State.setTline_spine (s : State) (i : Nat) (x : TLine) : (s.setTline i x).spine = s.spine := rfl
@[simp] theorem State.setTline_cells (s : State) (i : Nat) (x : TLine) : (s.setTline i x).cells = s.cells := rfl
@[simp] theorem State.setTline_regions (s : State) (i : Nat) (x : TLine) : (s.setTline i x).regions = s.regions := rfl
@[simp] theorem State.setTline_clus (s : State) (i : Nat) (x : TLine) : (s.setTline i x).clus = s.clus := rfl
@[simp] theorem State.setTline_cfg (s : State) (i : Nat) (x : TLine) : (s.setTline i x).cfg = s.cfg := rfl
@[simp] theorem State.setTline_chans (s : State) (i : Nat) (x : TLine) : (s.setTline i x).chans = s.chans := rfl
@[simp] theorem State.setTline_aports (s : State) (i : Nat) (x : TLine) : (s.setTline i x).aports = s.aports := rfl
@[simp] theorem State.setTline_blines (s : State) (i : Nat) (x : TLine) : (s.setTline i x).blines = s.blines := rfl
@[simp] theorem State.setTline_bsrcs (s : State) (i : Nat) (x : TLine) : (s.setTline i x).bsrcs = s.bsrcs := rfl
@[simp] theorem State.setTline_bports (s : State) (i : Nat) (x : TLine) : (s.setTline i x).bports = s.bports := rfl
@[simp] theorem State.setTline_twins (s : State) (i : Nat) (x : TLine) : (s.setTline i x).twins = s.twins := rfl
@[simp] theorem State.setTline_lanes (s : State) (i : Nat) (x : TLine) : (s.setTline i x).lanes = s.lanes := rfl
@[simp] theorem State.setTline_flights (s : State) (i : Nat) (x : TLine) : (s.setTline i x).flights = s.flights := rfl
@[simp] theorem State.setTline_nextId (s : State) (i : Nat) (x : TLine) : (s.setTline i x).nextId = s.nextId := rfl
@[simp] theorem State.setTline_pairs (s : State) (i : Nat) (x : TLine) : (s.setTline i x).pairs = s.pairs := rfl
@[simp] theorem State.setTline_codePend (s : State) (i : Nat) (x : TLine) : (s.setTline i x).codePend = s.codePend := rfl
@[simp] theorem State.setTline_spareQ (s : State) (i : Nat) (x : TLine) : (s.setTline i x).spareQ = s.spareQ := rfl
@[simp] theorem State.setTline_swapWant (s : State) (i : Nat) (x : TLine) : (s.setTline i x).swapWant = s.swapWant := rfl
@[simp] theorem State.setTline_bmems (s : State) (i : Nat) (x : TLine) : (s.setTline i x).bmems = s.bmems := rfl
@[simp] theorem State.setTline_bbytes (s : State) (i : Nat) (x : TLine) : (s.setTline i x).bbytes = s.bbytes := rfl
@[simp] theorem State.setTline_banks (s : State) (i : Nat) (x : TLine) : (s.setTline i x).banks = s.banks := rfl
@[simp] theorem State.setTline_swords (s : State) (i : Nat) (x : TLine) : (s.setTline i x).swords = s.swords := rfl
@[simp] theorem State.setTline_hops (s : State) (i : Nat) (x : TLine) : (s.setTline i x).hops = s.hops := rfl
@[simp] theorem State.setTline_pins (s : State) (i : Nat) (x : TLine) : (s.setTline i x).pins = s.pins := rfl
@[simp] theorem State.setTline_spinePrevs (s : State) (i : Nat) (x : TLine) : (s.setTline i x).spinePrevs = s.spinePrevs := rfl
@[simp] theorem State.setTline_pads (s : State) (i : Nat) (x : TLine) : (s.setTline i x).pads = s.pads := rfl
@[simp] theorem State.setTline_groups (s : State) (i : Nat) (x : TLine) : (s.setTline i x).groups = s.groups := rfl
@[simp] theorem State.setTline_links (s : State) (i : Nat) (x : TLine) : (s.setTline i x).links = s.links := rfl
@[simp] theorem State.setTline_reasms (s : State) (i : Nat) (x : TLine) : (s.setTline i x).reasms = s.reasms := rfl
@[simp] theorem State.setTline_mgmtIn (s : State) (i : Nat) (x : TLine) : (s.setTline i x).mgmtIn = s.mgmtIn := rfl
@[simp] theorem State.setTline_lateTags (s : State) (i : Nat) (x : TLine) : (s.setTline i x).lateTags = s.lateTags := rfl
@[simp] theorem State.setTline_slices (s : State) (i : Nat) (x : TLine) : (s.setTline i x).slices = s.slices := rfl
@[simp] theorem State.setTline_sweep (s : State) (i : Nat) (x : TLine) : (s.setTline i x).sweep = s.sweep := rfl
@[simp] theorem State.setTline_asyNews (s : State) (i : Nat) (x : TLine) : (s.setTline i x).asyNews = s.asyNews := rfl
@[simp] theorem State.setTline_sliceEnded (s : State) (i : Nat) (x : TLine) : (s.setTline i x).sliceEnded = s.sliceEnded := rfl
@[simp] theorem State.setTline_load (s : State) (i : Nat) (x : TLine) : (s.setTline i x).load = s.load := rfl
@[simp] theorem State.setTline_flash (s : State) (i : Nat) (x : TLine) : (s.setTline i x).flash = s.flash := rfl
@[simp] theorem State.setTline_gold (s : State) (i : Nat) (x : TLine) : (s.setTline i x).gold = s.gold := rfl
@[simp] theorem State.setTline_cparks (s : State) (i : Nat) (x : TLine) : (s.setTline i x).cparks = s.cparks := rfl
@[simp] theorem State.setTline_crcs (s : State) (i : Nat) (x : TLine) : (s.setTline i x).crcs = s.crcs := rfl
@[simp] theorem State.setTline_loadEnded (s : State) (i : Nat) (x : TLine) : (s.setTline i x).loadEnded = s.loadEnded := rfl
@[simp] theorem State.setTline_imgHash (s : State) (i : Nat) (x : TLine) : (s.setTline i x).imgHash = s.imgHash := rfl
@[simp] theorem State.setTline_rimgs (s : State) (i : Nat) (x : TLine) : (s.setTline i x).rimgs = s.rimgs := rfl
@[simp] theorem State.setTline_staged (s : State) (i : Nat) (x : TLine) : (s.setTline i x).staged = s.staged := rfl
@[simp] theorem State.setTline_loadAsked (s : State) (i : Nat) (x : TLine) : (s.setTline i x).loadAsked = s.loadAsked := rfl
@[simp] theorem State.setTline_toldFaults (s : State) (i : Nat) (x : TLine) : (s.setTline i x).toldFaults = s.toldFaults := rfl
@[simp] theorem State.setTline_kslots (s : State) (i : Nat) (x : TLine) : (s.setTline i x).kslots = s.kslots := rfl
@[simp] theorem State.setTline_oslots (s : State) (i : Nat) (x : TLine) : (s.setTline i x).oslots = s.oslots := rfl
@[simp] theorem State.setTline_kcmd (s : State) (i : Nat) (x : TLine) : (s.setTline i x).kcmd = s.kcmd := rfl
@[simp] theorem State.setTline_cutSlots (s : State) (i : Nat) (x : TLine) : (s.setTline i x).cutSlots = s.cutSlots := rfl
@[simp] theorem State.setTline_tkrev (s : State) (i : Nat) (x : TLine) : (s.setTline i x).tkrev = s.tkrev := rfl
@[simp] theorem State.setTline_fwsvn (s : State) (i : Nat) (x : TLine) : (s.setTline i x).fwsvn = s.fwsvn := rfl
@[simp] theorem State.setTline_fw (s : State) (i : Nat) (x : TLine) : (s.setTline i x).fw = s.fw := rfl
@[simp] theorem State.setTline_recovery (s : State) (i : Nat) (x : TLine) : (s.setTline i x).recovery = s.recovery := rfl
@[simp] theorem State.setTline_reports (s : State) (i : Nat) (x : TLine) : (s.setTline i x).reports = s.reports := rfl
@[simp] theorem State.setTline_signed (s : State) (i : Nat) (x : TLine) : (s.setTline i x).signed = s.signed := rfl
@[simp] theorem State.setTline_attests (s : State) (i : Nat) (x : TLine) : (s.setTline i x).attests = s.attests := rfl
@[simp] theorem State.setTline_uarts (s : State) (i : Nat) (x : TLine) : (s.setTline i x).uarts = s.uarts := rfl
@[simp] theorem State.setTline_spi (s : State) (i : Nat) (x : TLine) : (s.setTline i x).spi = s.spi := rfl
@[simp] theorem State.setTline_i2cs (s : State) (i : Nat) (x : TLine) : (s.setTline i x).i2cs = s.i2cs := rfl
@[simp] theorem State.setTline_cores (s : State) (i : Nat) (x : TLine) : (s.setTline i x).cores = s.cores := rfl
@[simp] theorem State.setTline_wdgs (s : State) (i : Nat) (x : TLine) : (s.setTline i x).wdgs = s.wdgs := rfl
@[simp] theorem State.setTline_gexts (s : State) (i : Nat) (x : TLine) : (s.setTline i x).gexts = s.gexts := rfl
@[simp] theorem State.setTline_gkeeps (s : State) (i : Nat) (x : TLine) : (s.setTline i x).gkeeps = s.gkeeps := rfl
@[simp] theorem State.setTline_glines (s : State) (i : Nat) (x : TLine) : (s.setTline i x).glines = s.glines := rfl
@[simp] theorem State.setTline_gheld (s : State) (i : Nat) (x : TLine) : (s.setTline i x).gheld = s.gheld := rfl
@[simp] theorem State.setTline_cmpNews (s : State) (i : Nat) (x : TLine) : (s.setTline i x).cmpNews = s.cmpNews := rfl
@[simp] theorem State.setTline_ptpNews (s : State) (i : Nat) (x : TLine) : (s.setTline i x).ptpNews = s.ptpNews := rfl
@[simp] theorem State.setTline_ptpStamp (s : State) (i : Nat) (x : TLine) : (s.setTline i x).ptpStamp = s.ptpStamp := rfl
@[simp] theorem State.setTline_ppsAt (s : State) (i : Nat) (x : TLine) : (s.setTline i x).ppsAt = s.ppsAt := rfl
@[simp] theorem State.setTline_mem (s : State) (i : Nat) (x : TLine) : (s.setTline i x).mem = s.mem := rfl
@[simp] theorem State.setTline_memEpoch (s : State) (i : Nat) (x : TLine) : (s.setTline i x).memEpoch = s.memEpoch := rfl
@[simp] theorem State.setTline_ix (s : State) (i : Nat) (x : TLine) : (s.setTline i x).ix = s.ix := rfl
@[simp] theorem State.setTline_ixOut (s : State) (i : Nat) (x : TLine) : (s.setTline i x).ixOut = s.ixOut := rfl
@[simp] theorem State.setTline_doms (s : State) (i : Nat) (x : TLine) : (s.setTline i x).doms = s.doms := rfl
@[simp] theorem State.setTline_epoch (s : State) (i : Nat) (x : TLine) : (s.setTline i x).epoch = s.epoch := rfl
@[simp] theorem State.setTline_ups (s : State) (i : Nat) (x : TLine) : (s.setTline i x).ups = s.ups := rfl
@[simp] theorem State.setTline_dns (s : State) (i : Nat) (x : TLine) : (s.setTline i x).dns = s.dns := rfl
@[simp] theorem State.setTline_probes (s : State) (i : Nat) (x : TLine) : (s.setTline i x).probes = s.probes := rfl
@[simp] theorem State.setTline_tapIr (s : State) (i : Nat) (x : TLine) : (s.setTline i x).tapIr = s.tapIr := rfl
@[simp] theorem State.setTline_bscan (s : State) (i : Nat) (x : TLine) : (s.setTline i x).bscan = s.bscan := rfl
@[simp] theorem State.setTline_dbgAcc (s : State) (i : Nat) (x : TLine) : (s.setTline i x).dbgAcc = s.dbgAcc := rfl
@[simp] theorem State.setTline_dbgStatus (s : State) (i : Nat) (x : TLine) : (s.setTline i x).dbgStatus = s.dbgStatus := rfl
@[simp] theorem State.setTline_dbgP (s : State) (i : Nat) (x : TLine) : (s.setTline i x).dbgP = s.dbgP := rfl
@[simp] theorem State.setTline_dbgData (s : State) (i : Nat) (x : TLine) : (s.setTline i x).dbgData = s.dbgData := rfl
@[simp] theorem State.setTline_bcap (s : State) (i : Nat) (x : TLine) : (s.setTline i x).bcap = s.bcap := rfl
@[simp] theorem State.setTline_vin (s : State) (i : Nat) (x : TLine) : (s.setTline i x).vin = s.vin := rfl
@[simp] theorem State.setTline_vbat (s : State) (i : Nat) (x : TLine) : (s.setTline i x).vbat = s.vbat := rfl
@[simp] theorem State.setTline_bbGone (s : State) (i : Nat) (x : TLine) : (s.setTline i x).bbGone = s.bbGone := rfl
@[simp] theorem State.setTline_hot (s : State) (i : Nat) (x : TLine) : (s.setTline i x).hot = s.hot := rfl
@[simp] theorem State.setTline_bootDue (s : State) (i : Nat) (x : TLine) : (s.setTline i x).bootDue = s.bootDue := rfl

@[simp] theorem State.setSpine_spine (s : State) (i : Nat) (x : Frame) : (s.setSpine i x).spine = Store.put {} s.spine i x := rfl
@[simp] theorem State.spineOf_setSpine_same (s : State) (i : Nat) (x : Frame) : (s.setSpine i x).spineOf i = x := Store.get_put_same _ _ _ _
theorem State.spineOf_setSpine_ne (s : State) (i j : Nat) (x : Frame) (h : j ≠ i) : (s.setSpine i x).spineOf j = s.spineOf j := Store.get_put_ne _ _ _ h
@[simp] theorem State.setSpine_pending (s : State) (i : Nat) (x : Frame) : (s.setSpine i x).pending = s.pending := rfl
@[simp] theorem State.setSpine_free (s : State) (i : Nat) (x : Frame) : (s.setSpine i x).free = s.free := rfl
@[simp] theorem State.setSpine_time (s : State) (i : Nat) (x : Frame) : (s.setSpine i x).time = s.time := rfl
@[simp] theorem State.setSpine_regs (s : State) (i : Nat) (x : Frame) : (s.setSpine i x).regs = s.regs := rfl
@[simp] theorem State.setSpine_rdata (s : State) (i : Nat) (x : Frame) : (s.setSpine i x).rdata = s.rdata := rfl
@[simp] theorem State.setSpine_tports (s : State) (i : Nat) (x : Frame) : (s.setSpine i x).tports = s.tports := rfl
@[simp] theorem State.setSpine_tlines (s : State) (i : Nat) (x : Frame) : (s.setSpine i x).tlines = s.tlines := rfl
@[simp] theorem State.setSpine_ptp (s : State) (i : Nat) (x : Frame) : (s.setSpine i x).ptp = s.ptp := rfl
@[simp] theorem State.setSpine_ptpGo (s : State) (i : Nat) (x : Frame) : (s.setSpine i x).ptpGo = s.ptpGo := rfl
@[simp] theorem State.setSpine_ptpMark (s : State) (i : Nat) (x : Frame) : (s.setSpine i x).ptpMark = s.ptpMark := rfl
@[simp] theorem State.setSpine_calReq (s : State) (i : Nat) (x : Frame) : (s.setSpine i x).calReq = s.calReq := rfl
@[simp] theorem State.setSpine_interval (s : State) (i : Nat) (x : Frame) : (s.setSpine i x).interval = s.interval := rfl
@[simp] theorem State.setSpine_frames (s : State) (i : Nat) (x : Frame) : (s.setSpine i x).frames = s.frames := rfl
@[simp] theorem State.setSpine_cells (s : State) (i : Nat) (x : Frame) : (s.setSpine i x).cells = s.cells := rfl
@[simp] theorem State.setSpine_regions (s : State) (i : Nat) (x : Frame) : (s.setSpine i x).regions = s.regions := rfl
@[simp] theorem State.setSpine_clus (s : State) (i : Nat) (x : Frame) : (s.setSpine i x).clus = s.clus := rfl
@[simp] theorem State.setSpine_cfg (s : State) (i : Nat) (x : Frame) : (s.setSpine i x).cfg = s.cfg := rfl
@[simp] theorem State.setSpine_chans (s : State) (i : Nat) (x : Frame) : (s.setSpine i x).chans = s.chans := rfl
@[simp] theorem State.setSpine_aports (s : State) (i : Nat) (x : Frame) : (s.setSpine i x).aports = s.aports := rfl
@[simp] theorem State.setSpine_blines (s : State) (i : Nat) (x : Frame) : (s.setSpine i x).blines = s.blines := rfl
@[simp] theorem State.setSpine_bsrcs (s : State) (i : Nat) (x : Frame) : (s.setSpine i x).bsrcs = s.bsrcs := rfl
@[simp] theorem State.setSpine_bports (s : State) (i : Nat) (x : Frame) : (s.setSpine i x).bports = s.bports := rfl
@[simp] theorem State.setSpine_twins (s : State) (i : Nat) (x : Frame) : (s.setSpine i x).twins = s.twins := rfl
@[simp] theorem State.setSpine_lanes (s : State) (i : Nat) (x : Frame) : (s.setSpine i x).lanes = s.lanes := rfl
@[simp] theorem State.setSpine_flights (s : State) (i : Nat) (x : Frame) : (s.setSpine i x).flights = s.flights := rfl
@[simp] theorem State.setSpine_nextId (s : State) (i : Nat) (x : Frame) : (s.setSpine i x).nextId = s.nextId := rfl
@[simp] theorem State.setSpine_pairs (s : State) (i : Nat) (x : Frame) : (s.setSpine i x).pairs = s.pairs := rfl
@[simp] theorem State.setSpine_codePend (s : State) (i : Nat) (x : Frame) : (s.setSpine i x).codePend = s.codePend := rfl
@[simp] theorem State.setSpine_spareQ (s : State) (i : Nat) (x : Frame) : (s.setSpine i x).spareQ = s.spareQ := rfl
@[simp] theorem State.setSpine_swapWant (s : State) (i : Nat) (x : Frame) : (s.setSpine i x).swapWant = s.swapWant := rfl
@[simp] theorem State.setSpine_bmems (s : State) (i : Nat) (x : Frame) : (s.setSpine i x).bmems = s.bmems := rfl
@[simp] theorem State.setSpine_bbytes (s : State) (i : Nat) (x : Frame) : (s.setSpine i x).bbytes = s.bbytes := rfl
@[simp] theorem State.setSpine_banks (s : State) (i : Nat) (x : Frame) : (s.setSpine i x).banks = s.banks := rfl
@[simp] theorem State.setSpine_swords (s : State) (i : Nat) (x : Frame) : (s.setSpine i x).swords = s.swords := rfl
@[simp] theorem State.setSpine_hops (s : State) (i : Nat) (x : Frame) : (s.setSpine i x).hops = s.hops := rfl
@[simp] theorem State.setSpine_pins (s : State) (i : Nat) (x : Frame) : (s.setSpine i x).pins = s.pins := rfl
@[simp] theorem State.setSpine_spinePrevs (s : State) (i : Nat) (x : Frame) : (s.setSpine i x).spinePrevs = s.spinePrevs := rfl
@[simp] theorem State.setSpine_pads (s : State) (i : Nat) (x : Frame) : (s.setSpine i x).pads = s.pads := rfl
@[simp] theorem State.setSpine_groups (s : State) (i : Nat) (x : Frame) : (s.setSpine i x).groups = s.groups := rfl
@[simp] theorem State.setSpine_links (s : State) (i : Nat) (x : Frame) : (s.setSpine i x).links = s.links := rfl
@[simp] theorem State.setSpine_reasms (s : State) (i : Nat) (x : Frame) : (s.setSpine i x).reasms = s.reasms := rfl
@[simp] theorem State.setSpine_mgmtIn (s : State) (i : Nat) (x : Frame) : (s.setSpine i x).mgmtIn = s.mgmtIn := rfl
@[simp] theorem State.setSpine_lateTags (s : State) (i : Nat) (x : Frame) : (s.setSpine i x).lateTags = s.lateTags := rfl
@[simp] theorem State.setSpine_slices (s : State) (i : Nat) (x : Frame) : (s.setSpine i x).slices = s.slices := rfl
@[simp] theorem State.setSpine_sweep (s : State) (i : Nat) (x : Frame) : (s.setSpine i x).sweep = s.sweep := rfl
@[simp] theorem State.setSpine_asyNews (s : State) (i : Nat) (x : Frame) : (s.setSpine i x).asyNews = s.asyNews := rfl
@[simp] theorem State.setSpine_sliceEnded (s : State) (i : Nat) (x : Frame) : (s.setSpine i x).sliceEnded = s.sliceEnded := rfl
@[simp] theorem State.setSpine_load (s : State) (i : Nat) (x : Frame) : (s.setSpine i x).load = s.load := rfl
@[simp] theorem State.setSpine_flash (s : State) (i : Nat) (x : Frame) : (s.setSpine i x).flash = s.flash := rfl
@[simp] theorem State.setSpine_gold (s : State) (i : Nat) (x : Frame) : (s.setSpine i x).gold = s.gold := rfl
@[simp] theorem State.setSpine_cparks (s : State) (i : Nat) (x : Frame) : (s.setSpine i x).cparks = s.cparks := rfl
@[simp] theorem State.setSpine_crcs (s : State) (i : Nat) (x : Frame) : (s.setSpine i x).crcs = s.crcs := rfl
@[simp] theorem State.setSpine_loadEnded (s : State) (i : Nat) (x : Frame) : (s.setSpine i x).loadEnded = s.loadEnded := rfl
@[simp] theorem State.setSpine_imgHash (s : State) (i : Nat) (x : Frame) : (s.setSpine i x).imgHash = s.imgHash := rfl
@[simp] theorem State.setSpine_rimgs (s : State) (i : Nat) (x : Frame) : (s.setSpine i x).rimgs = s.rimgs := rfl
@[simp] theorem State.setSpine_staged (s : State) (i : Nat) (x : Frame) : (s.setSpine i x).staged = s.staged := rfl
@[simp] theorem State.setSpine_loadAsked (s : State) (i : Nat) (x : Frame) : (s.setSpine i x).loadAsked = s.loadAsked := rfl
@[simp] theorem State.setSpine_toldFaults (s : State) (i : Nat) (x : Frame) : (s.setSpine i x).toldFaults = s.toldFaults := rfl
@[simp] theorem State.setSpine_kslots (s : State) (i : Nat) (x : Frame) : (s.setSpine i x).kslots = s.kslots := rfl
@[simp] theorem State.setSpine_oslots (s : State) (i : Nat) (x : Frame) : (s.setSpine i x).oslots = s.oslots := rfl
@[simp] theorem State.setSpine_kcmd (s : State) (i : Nat) (x : Frame) : (s.setSpine i x).kcmd = s.kcmd := rfl
@[simp] theorem State.setSpine_cutSlots (s : State) (i : Nat) (x : Frame) : (s.setSpine i x).cutSlots = s.cutSlots := rfl
@[simp] theorem State.setSpine_tkrev (s : State) (i : Nat) (x : Frame) : (s.setSpine i x).tkrev = s.tkrev := rfl
@[simp] theorem State.setSpine_fwsvn (s : State) (i : Nat) (x : Frame) : (s.setSpine i x).fwsvn = s.fwsvn := rfl
@[simp] theorem State.setSpine_fw (s : State) (i : Nat) (x : Frame) : (s.setSpine i x).fw = s.fw := rfl
@[simp] theorem State.setSpine_recovery (s : State) (i : Nat) (x : Frame) : (s.setSpine i x).recovery = s.recovery := rfl
@[simp] theorem State.setSpine_reports (s : State) (i : Nat) (x : Frame) : (s.setSpine i x).reports = s.reports := rfl
@[simp] theorem State.setSpine_signed (s : State) (i : Nat) (x : Frame) : (s.setSpine i x).signed = s.signed := rfl
@[simp] theorem State.setSpine_attests (s : State) (i : Nat) (x : Frame) : (s.setSpine i x).attests = s.attests := rfl
@[simp] theorem State.setSpine_uarts (s : State) (i : Nat) (x : Frame) : (s.setSpine i x).uarts = s.uarts := rfl
@[simp] theorem State.setSpine_spi (s : State) (i : Nat) (x : Frame) : (s.setSpine i x).spi = s.spi := rfl
@[simp] theorem State.setSpine_i2cs (s : State) (i : Nat) (x : Frame) : (s.setSpine i x).i2cs = s.i2cs := rfl
@[simp] theorem State.setSpine_cores (s : State) (i : Nat) (x : Frame) : (s.setSpine i x).cores = s.cores := rfl
@[simp] theorem State.setSpine_wdgs (s : State) (i : Nat) (x : Frame) : (s.setSpine i x).wdgs = s.wdgs := rfl
@[simp] theorem State.setSpine_gexts (s : State) (i : Nat) (x : Frame) : (s.setSpine i x).gexts = s.gexts := rfl
@[simp] theorem State.setSpine_gkeeps (s : State) (i : Nat) (x : Frame) : (s.setSpine i x).gkeeps = s.gkeeps := rfl
@[simp] theorem State.setSpine_glines (s : State) (i : Nat) (x : Frame) : (s.setSpine i x).glines = s.glines := rfl
@[simp] theorem State.setSpine_gheld (s : State) (i : Nat) (x : Frame) : (s.setSpine i x).gheld = s.gheld := rfl
@[simp] theorem State.setSpine_cmpNews (s : State) (i : Nat) (x : Frame) : (s.setSpine i x).cmpNews = s.cmpNews := rfl
@[simp] theorem State.setSpine_ptpNews (s : State) (i : Nat) (x : Frame) : (s.setSpine i x).ptpNews = s.ptpNews := rfl
@[simp] theorem State.setSpine_ptpStamp (s : State) (i : Nat) (x : Frame) : (s.setSpine i x).ptpStamp = s.ptpStamp := rfl
@[simp] theorem State.setSpine_ppsAt (s : State) (i : Nat) (x : Frame) : (s.setSpine i x).ppsAt = s.ppsAt := rfl
@[simp] theorem State.setSpine_mem (s : State) (i : Nat) (x : Frame) : (s.setSpine i x).mem = s.mem := rfl
@[simp] theorem State.setSpine_memEpoch (s : State) (i : Nat) (x : Frame) : (s.setSpine i x).memEpoch = s.memEpoch := rfl
@[simp] theorem State.setSpine_ix (s : State) (i : Nat) (x : Frame) : (s.setSpine i x).ix = s.ix := rfl
@[simp] theorem State.setSpine_ixOut (s : State) (i : Nat) (x : Frame) : (s.setSpine i x).ixOut = s.ixOut := rfl
@[simp] theorem State.setSpine_doms (s : State) (i : Nat) (x : Frame) : (s.setSpine i x).doms = s.doms := rfl
@[simp] theorem State.setSpine_epoch (s : State) (i : Nat) (x : Frame) : (s.setSpine i x).epoch = s.epoch := rfl
@[simp] theorem State.setSpine_ups (s : State) (i : Nat) (x : Frame) : (s.setSpine i x).ups = s.ups := rfl
@[simp] theorem State.setSpine_dns (s : State) (i : Nat) (x : Frame) : (s.setSpine i x).dns = s.dns := rfl
@[simp] theorem State.setSpine_probes (s : State) (i : Nat) (x : Frame) : (s.setSpine i x).probes = s.probes := rfl
@[simp] theorem State.setSpine_tapIr (s : State) (i : Nat) (x : Frame) : (s.setSpine i x).tapIr = s.tapIr := rfl
@[simp] theorem State.setSpine_bscan (s : State) (i : Nat) (x : Frame) : (s.setSpine i x).bscan = s.bscan := rfl
@[simp] theorem State.setSpine_dbgAcc (s : State) (i : Nat) (x : Frame) : (s.setSpine i x).dbgAcc = s.dbgAcc := rfl
@[simp] theorem State.setSpine_dbgStatus (s : State) (i : Nat) (x : Frame) : (s.setSpine i x).dbgStatus = s.dbgStatus := rfl
@[simp] theorem State.setSpine_dbgP (s : State) (i : Nat) (x : Frame) : (s.setSpine i x).dbgP = s.dbgP := rfl
@[simp] theorem State.setSpine_dbgData (s : State) (i : Nat) (x : Frame) : (s.setSpine i x).dbgData = s.dbgData := rfl
@[simp] theorem State.setSpine_bcap (s : State) (i : Nat) (x : Frame) : (s.setSpine i x).bcap = s.bcap := rfl
@[simp] theorem State.setSpine_vin (s : State) (i : Nat) (x : Frame) : (s.setSpine i x).vin = s.vin := rfl
@[simp] theorem State.setSpine_vbat (s : State) (i : Nat) (x : Frame) : (s.setSpine i x).vbat = s.vbat := rfl
@[simp] theorem State.setSpine_bbGone (s : State) (i : Nat) (x : Frame) : (s.setSpine i x).bbGone = s.bbGone := rfl
@[simp] theorem State.setSpine_hot (s : State) (i : Nat) (x : Frame) : (s.setSpine i x).hot = s.hot := rfl
@[simp] theorem State.setSpine_bootDue (s : State) (i : Nat) (x : Frame) : (s.setSpine i x).bootDue = s.bootDue := rfl

@[simp] theorem State.setCell_cells (s : State) (i : Nat) (x : Cell) : (s.setCell i x).cells = Store.put {} s.cells i x := rfl
@[simp] theorem State.cell_setCell_same (s : State) (i : Nat) (x : Cell) : (s.setCell i x).cell i = x := Store.get_put_same _ _ _ _
theorem State.cell_setCell_ne (s : State) (i j : Nat) (x : Cell) (h : j ≠ i) : (s.setCell i x).cell j = s.cell j := Store.get_put_ne _ _ _ h
@[simp] theorem State.setCell_pending (s : State) (i : Nat) (x : Cell) : (s.setCell i x).pending = s.pending := rfl
@[simp] theorem State.setCell_free (s : State) (i : Nat) (x : Cell) : (s.setCell i x).free = s.free := rfl
@[simp] theorem State.setCell_time (s : State) (i : Nat) (x : Cell) : (s.setCell i x).time = s.time := rfl
@[simp] theorem State.setCell_regs (s : State) (i : Nat) (x : Cell) : (s.setCell i x).regs = s.regs := rfl
@[simp] theorem State.setCell_rdata (s : State) (i : Nat) (x : Cell) : (s.setCell i x).rdata = s.rdata := rfl
@[simp] theorem State.setCell_tports (s : State) (i : Nat) (x : Cell) : (s.setCell i x).tports = s.tports := rfl
@[simp] theorem State.setCell_tlines (s : State) (i : Nat) (x : Cell) : (s.setCell i x).tlines = s.tlines := rfl
@[simp] theorem State.setCell_ptp (s : State) (i : Nat) (x : Cell) : (s.setCell i x).ptp = s.ptp := rfl
@[simp] theorem State.setCell_ptpGo (s : State) (i : Nat) (x : Cell) : (s.setCell i x).ptpGo = s.ptpGo := rfl
@[simp] theorem State.setCell_ptpMark (s : State) (i : Nat) (x : Cell) : (s.setCell i x).ptpMark = s.ptpMark := rfl
@[simp] theorem State.setCell_calReq (s : State) (i : Nat) (x : Cell) : (s.setCell i x).calReq = s.calReq := rfl
@[simp] theorem State.setCell_interval (s : State) (i : Nat) (x : Cell) : (s.setCell i x).interval = s.interval := rfl
@[simp] theorem State.setCell_frames (s : State) (i : Nat) (x : Cell) : (s.setCell i x).frames = s.frames := rfl
@[simp] theorem State.setCell_spine (s : State) (i : Nat) (x : Cell) : (s.setCell i x).spine = s.spine := rfl
@[simp] theorem State.setCell_regions (s : State) (i : Nat) (x : Cell) : (s.setCell i x).regions = s.regions := rfl
@[simp] theorem State.setCell_clus (s : State) (i : Nat) (x : Cell) : (s.setCell i x).clus = s.clus := rfl
@[simp] theorem State.setCell_cfg (s : State) (i : Nat) (x : Cell) : (s.setCell i x).cfg = s.cfg := rfl
@[simp] theorem State.setCell_chans (s : State) (i : Nat) (x : Cell) : (s.setCell i x).chans = s.chans := rfl
@[simp] theorem State.setCell_aports (s : State) (i : Nat) (x : Cell) : (s.setCell i x).aports = s.aports := rfl
@[simp] theorem State.setCell_blines (s : State) (i : Nat) (x : Cell) : (s.setCell i x).blines = s.blines := rfl
@[simp] theorem State.setCell_bsrcs (s : State) (i : Nat) (x : Cell) : (s.setCell i x).bsrcs = s.bsrcs := rfl
@[simp] theorem State.setCell_bports (s : State) (i : Nat) (x : Cell) : (s.setCell i x).bports = s.bports := rfl
@[simp] theorem State.setCell_twins (s : State) (i : Nat) (x : Cell) : (s.setCell i x).twins = s.twins := rfl
@[simp] theorem State.setCell_lanes (s : State) (i : Nat) (x : Cell) : (s.setCell i x).lanes = s.lanes := rfl
@[simp] theorem State.setCell_flights (s : State) (i : Nat) (x : Cell) : (s.setCell i x).flights = s.flights := rfl
@[simp] theorem State.setCell_nextId (s : State) (i : Nat) (x : Cell) : (s.setCell i x).nextId = s.nextId := rfl
@[simp] theorem State.setCell_pairs (s : State) (i : Nat) (x : Cell) : (s.setCell i x).pairs = s.pairs := rfl
@[simp] theorem State.setCell_codePend (s : State) (i : Nat) (x : Cell) : (s.setCell i x).codePend = s.codePend := rfl
@[simp] theorem State.setCell_spareQ (s : State) (i : Nat) (x : Cell) : (s.setCell i x).spareQ = s.spareQ := rfl
@[simp] theorem State.setCell_swapWant (s : State) (i : Nat) (x : Cell) : (s.setCell i x).swapWant = s.swapWant := rfl
@[simp] theorem State.setCell_bmems (s : State) (i : Nat) (x : Cell) : (s.setCell i x).bmems = s.bmems := rfl
@[simp] theorem State.setCell_bbytes (s : State) (i : Nat) (x : Cell) : (s.setCell i x).bbytes = s.bbytes := rfl
@[simp] theorem State.setCell_banks (s : State) (i : Nat) (x : Cell) : (s.setCell i x).banks = s.banks := rfl
@[simp] theorem State.setCell_swords (s : State) (i : Nat) (x : Cell) : (s.setCell i x).swords = s.swords := rfl
@[simp] theorem State.setCell_hops (s : State) (i : Nat) (x : Cell) : (s.setCell i x).hops = s.hops := rfl
@[simp] theorem State.setCell_pins (s : State) (i : Nat) (x : Cell) : (s.setCell i x).pins = s.pins := rfl
@[simp] theorem State.setCell_spinePrevs (s : State) (i : Nat) (x : Cell) : (s.setCell i x).spinePrevs = s.spinePrevs := rfl
@[simp] theorem State.setCell_pads (s : State) (i : Nat) (x : Cell) : (s.setCell i x).pads = s.pads := rfl
@[simp] theorem State.setCell_groups (s : State) (i : Nat) (x : Cell) : (s.setCell i x).groups = s.groups := rfl
@[simp] theorem State.setCell_links (s : State) (i : Nat) (x : Cell) : (s.setCell i x).links = s.links := rfl
@[simp] theorem State.setCell_reasms (s : State) (i : Nat) (x : Cell) : (s.setCell i x).reasms = s.reasms := rfl
@[simp] theorem State.setCell_mgmtIn (s : State) (i : Nat) (x : Cell) : (s.setCell i x).mgmtIn = s.mgmtIn := rfl
@[simp] theorem State.setCell_lateTags (s : State) (i : Nat) (x : Cell) : (s.setCell i x).lateTags = s.lateTags := rfl
@[simp] theorem State.setCell_slices (s : State) (i : Nat) (x : Cell) : (s.setCell i x).slices = s.slices := rfl
@[simp] theorem State.setCell_sweep (s : State) (i : Nat) (x : Cell) : (s.setCell i x).sweep = s.sweep := rfl
@[simp] theorem State.setCell_asyNews (s : State) (i : Nat) (x : Cell) : (s.setCell i x).asyNews = s.asyNews := rfl
@[simp] theorem State.setCell_sliceEnded (s : State) (i : Nat) (x : Cell) : (s.setCell i x).sliceEnded = s.sliceEnded := rfl
@[simp] theorem State.setCell_load (s : State) (i : Nat) (x : Cell) : (s.setCell i x).load = s.load := rfl
@[simp] theorem State.setCell_flash (s : State) (i : Nat) (x : Cell) : (s.setCell i x).flash = s.flash := rfl
@[simp] theorem State.setCell_gold (s : State) (i : Nat) (x : Cell) : (s.setCell i x).gold = s.gold := rfl
@[simp] theorem State.setCell_cparks (s : State) (i : Nat) (x : Cell) : (s.setCell i x).cparks = s.cparks := rfl
@[simp] theorem State.setCell_crcs (s : State) (i : Nat) (x : Cell) : (s.setCell i x).crcs = s.crcs := rfl
@[simp] theorem State.setCell_loadEnded (s : State) (i : Nat) (x : Cell) : (s.setCell i x).loadEnded = s.loadEnded := rfl
@[simp] theorem State.setCell_imgHash (s : State) (i : Nat) (x : Cell) : (s.setCell i x).imgHash = s.imgHash := rfl
@[simp] theorem State.setCell_rimgs (s : State) (i : Nat) (x : Cell) : (s.setCell i x).rimgs = s.rimgs := rfl
@[simp] theorem State.setCell_staged (s : State) (i : Nat) (x : Cell) : (s.setCell i x).staged = s.staged := rfl
@[simp] theorem State.setCell_loadAsked (s : State) (i : Nat) (x : Cell) : (s.setCell i x).loadAsked = s.loadAsked := rfl
@[simp] theorem State.setCell_toldFaults (s : State) (i : Nat) (x : Cell) : (s.setCell i x).toldFaults = s.toldFaults := rfl
@[simp] theorem State.setCell_kslots (s : State) (i : Nat) (x : Cell) : (s.setCell i x).kslots = s.kslots := rfl
@[simp] theorem State.setCell_oslots (s : State) (i : Nat) (x : Cell) : (s.setCell i x).oslots = s.oslots := rfl
@[simp] theorem State.setCell_kcmd (s : State) (i : Nat) (x : Cell) : (s.setCell i x).kcmd = s.kcmd := rfl
@[simp] theorem State.setCell_cutSlots (s : State) (i : Nat) (x : Cell) : (s.setCell i x).cutSlots = s.cutSlots := rfl
@[simp] theorem State.setCell_tkrev (s : State) (i : Nat) (x : Cell) : (s.setCell i x).tkrev = s.tkrev := rfl
@[simp] theorem State.setCell_fwsvn (s : State) (i : Nat) (x : Cell) : (s.setCell i x).fwsvn = s.fwsvn := rfl
@[simp] theorem State.setCell_fw (s : State) (i : Nat) (x : Cell) : (s.setCell i x).fw = s.fw := rfl
@[simp] theorem State.setCell_recovery (s : State) (i : Nat) (x : Cell) : (s.setCell i x).recovery = s.recovery := rfl
@[simp] theorem State.setCell_reports (s : State) (i : Nat) (x : Cell) : (s.setCell i x).reports = s.reports := rfl
@[simp] theorem State.setCell_signed (s : State) (i : Nat) (x : Cell) : (s.setCell i x).signed = s.signed := rfl
@[simp] theorem State.setCell_attests (s : State) (i : Nat) (x : Cell) : (s.setCell i x).attests = s.attests := rfl
@[simp] theorem State.setCell_uarts (s : State) (i : Nat) (x : Cell) : (s.setCell i x).uarts = s.uarts := rfl
@[simp] theorem State.setCell_spi (s : State) (i : Nat) (x : Cell) : (s.setCell i x).spi = s.spi := rfl
@[simp] theorem State.setCell_i2cs (s : State) (i : Nat) (x : Cell) : (s.setCell i x).i2cs = s.i2cs := rfl
@[simp] theorem State.setCell_cores (s : State) (i : Nat) (x : Cell) : (s.setCell i x).cores = s.cores := rfl
@[simp] theorem State.setCell_wdgs (s : State) (i : Nat) (x : Cell) : (s.setCell i x).wdgs = s.wdgs := rfl
@[simp] theorem State.setCell_gexts (s : State) (i : Nat) (x : Cell) : (s.setCell i x).gexts = s.gexts := rfl
@[simp] theorem State.setCell_gkeeps (s : State) (i : Nat) (x : Cell) : (s.setCell i x).gkeeps = s.gkeeps := rfl
@[simp] theorem State.setCell_glines (s : State) (i : Nat) (x : Cell) : (s.setCell i x).glines = s.glines := rfl
@[simp] theorem State.setCell_gheld (s : State) (i : Nat) (x : Cell) : (s.setCell i x).gheld = s.gheld := rfl
@[simp] theorem State.setCell_cmpNews (s : State) (i : Nat) (x : Cell) : (s.setCell i x).cmpNews = s.cmpNews := rfl
@[simp] theorem State.setCell_ptpNews (s : State) (i : Nat) (x : Cell) : (s.setCell i x).ptpNews = s.ptpNews := rfl
@[simp] theorem State.setCell_ptpStamp (s : State) (i : Nat) (x : Cell) : (s.setCell i x).ptpStamp = s.ptpStamp := rfl
@[simp] theorem State.setCell_ppsAt (s : State) (i : Nat) (x : Cell) : (s.setCell i x).ppsAt = s.ppsAt := rfl
@[simp] theorem State.setCell_mem (s : State) (i : Nat) (x : Cell) : (s.setCell i x).mem = s.mem := rfl
@[simp] theorem State.setCell_memEpoch (s : State) (i : Nat) (x : Cell) : (s.setCell i x).memEpoch = s.memEpoch := rfl
@[simp] theorem State.setCell_ix (s : State) (i : Nat) (x : Cell) : (s.setCell i x).ix = s.ix := rfl
@[simp] theorem State.setCell_ixOut (s : State) (i : Nat) (x : Cell) : (s.setCell i x).ixOut = s.ixOut := rfl
@[simp] theorem State.setCell_doms (s : State) (i : Nat) (x : Cell) : (s.setCell i x).doms = s.doms := rfl
@[simp] theorem State.setCell_epoch (s : State) (i : Nat) (x : Cell) : (s.setCell i x).epoch = s.epoch := rfl
@[simp] theorem State.setCell_ups (s : State) (i : Nat) (x : Cell) : (s.setCell i x).ups = s.ups := rfl
@[simp] theorem State.setCell_dns (s : State) (i : Nat) (x : Cell) : (s.setCell i x).dns = s.dns := rfl
@[simp] theorem State.setCell_probes (s : State) (i : Nat) (x : Cell) : (s.setCell i x).probes = s.probes := rfl
@[simp] theorem State.setCell_tapIr (s : State) (i : Nat) (x : Cell) : (s.setCell i x).tapIr = s.tapIr := rfl
@[simp] theorem State.setCell_bscan (s : State) (i : Nat) (x : Cell) : (s.setCell i x).bscan = s.bscan := rfl
@[simp] theorem State.setCell_dbgAcc (s : State) (i : Nat) (x : Cell) : (s.setCell i x).dbgAcc = s.dbgAcc := rfl
@[simp] theorem State.setCell_dbgStatus (s : State) (i : Nat) (x : Cell) : (s.setCell i x).dbgStatus = s.dbgStatus := rfl
@[simp] theorem State.setCell_dbgP (s : State) (i : Nat) (x : Cell) : (s.setCell i x).dbgP = s.dbgP := rfl
@[simp] theorem State.setCell_dbgData (s : State) (i : Nat) (x : Cell) : (s.setCell i x).dbgData = s.dbgData := rfl
@[simp] theorem State.setCell_bcap (s : State) (i : Nat) (x : Cell) : (s.setCell i x).bcap = s.bcap := rfl
@[simp] theorem State.setCell_vin (s : State) (i : Nat) (x : Cell) : (s.setCell i x).vin = s.vin := rfl
@[simp] theorem State.setCell_vbat (s : State) (i : Nat) (x : Cell) : (s.setCell i x).vbat = s.vbat := rfl
@[simp] theorem State.setCell_bbGone (s : State) (i : Nat) (x : Cell) : (s.setCell i x).bbGone = s.bbGone := rfl
@[simp] theorem State.setCell_hot (s : State) (i : Nat) (x : Cell) : (s.setCell i x).hot = s.hot := rfl
@[simp] theorem State.setCell_bootDue (s : State) (i : Nat) (x : Cell) : (s.setCell i x).bootDue = s.bootDue := rfl

@[simp] theorem State.setRegion_regions (s : State) (i : Nat) (x : Region) : (s.setRegion i x).regions = Store.put {} s.regions i x := rfl
@[simp] theorem State.region_setRegion_same (s : State) (i : Nat) (x : Region) : (s.setRegion i x).region i = x := Store.get_put_same _ _ _ _
theorem State.region_setRegion_ne (s : State) (i j : Nat) (x : Region) (h : j ≠ i) : (s.setRegion i x).region j = s.region j := Store.get_put_ne _ _ _ h
@[simp] theorem State.setRegion_pending (s : State) (i : Nat) (x : Region) : (s.setRegion i x).pending = s.pending := rfl
@[simp] theorem State.setRegion_free (s : State) (i : Nat) (x : Region) : (s.setRegion i x).free = s.free := rfl
@[simp] theorem State.setRegion_time (s : State) (i : Nat) (x : Region) : (s.setRegion i x).time = s.time := rfl
@[simp] theorem State.setRegion_regs (s : State) (i : Nat) (x : Region) : (s.setRegion i x).regs = s.regs := rfl
@[simp] theorem State.setRegion_rdata (s : State) (i : Nat) (x : Region) : (s.setRegion i x).rdata = s.rdata := rfl
@[simp] theorem State.setRegion_tports (s : State) (i : Nat) (x : Region) : (s.setRegion i x).tports = s.tports := rfl
@[simp] theorem State.setRegion_tlines (s : State) (i : Nat) (x : Region) : (s.setRegion i x).tlines = s.tlines := rfl
@[simp] theorem State.setRegion_ptp (s : State) (i : Nat) (x : Region) : (s.setRegion i x).ptp = s.ptp := rfl
@[simp] theorem State.setRegion_ptpGo (s : State) (i : Nat) (x : Region) : (s.setRegion i x).ptpGo = s.ptpGo := rfl
@[simp] theorem State.setRegion_ptpMark (s : State) (i : Nat) (x : Region) : (s.setRegion i x).ptpMark = s.ptpMark := rfl
@[simp] theorem State.setRegion_calReq (s : State) (i : Nat) (x : Region) : (s.setRegion i x).calReq = s.calReq := rfl
@[simp] theorem State.setRegion_interval (s : State) (i : Nat) (x : Region) : (s.setRegion i x).interval = s.interval := rfl
@[simp] theorem State.setRegion_frames (s : State) (i : Nat) (x : Region) : (s.setRegion i x).frames = s.frames := rfl
@[simp] theorem State.setRegion_spine (s : State) (i : Nat) (x : Region) : (s.setRegion i x).spine = s.spine := rfl
@[simp] theorem State.setRegion_cells (s : State) (i : Nat) (x : Region) : (s.setRegion i x).cells = s.cells := rfl
@[simp] theorem State.setRegion_clus (s : State) (i : Nat) (x : Region) : (s.setRegion i x).clus = s.clus := rfl
@[simp] theorem State.setRegion_cfg (s : State) (i : Nat) (x : Region) : (s.setRegion i x).cfg = s.cfg := rfl
@[simp] theorem State.setRegion_chans (s : State) (i : Nat) (x : Region) : (s.setRegion i x).chans = s.chans := rfl
@[simp] theorem State.setRegion_aports (s : State) (i : Nat) (x : Region) : (s.setRegion i x).aports = s.aports := rfl
@[simp] theorem State.setRegion_blines (s : State) (i : Nat) (x : Region) : (s.setRegion i x).blines = s.blines := rfl
@[simp] theorem State.setRegion_bsrcs (s : State) (i : Nat) (x : Region) : (s.setRegion i x).bsrcs = s.bsrcs := rfl
@[simp] theorem State.setRegion_bports (s : State) (i : Nat) (x : Region) : (s.setRegion i x).bports = s.bports := rfl
@[simp] theorem State.setRegion_twins (s : State) (i : Nat) (x : Region) : (s.setRegion i x).twins = s.twins := rfl
@[simp] theorem State.setRegion_lanes (s : State) (i : Nat) (x : Region) : (s.setRegion i x).lanes = s.lanes := rfl
@[simp] theorem State.setRegion_flights (s : State) (i : Nat) (x : Region) : (s.setRegion i x).flights = s.flights := rfl
@[simp] theorem State.setRegion_nextId (s : State) (i : Nat) (x : Region) : (s.setRegion i x).nextId = s.nextId := rfl
@[simp] theorem State.setRegion_pairs (s : State) (i : Nat) (x : Region) : (s.setRegion i x).pairs = s.pairs := rfl
@[simp] theorem State.setRegion_codePend (s : State) (i : Nat) (x : Region) : (s.setRegion i x).codePend = s.codePend := rfl
@[simp] theorem State.setRegion_spareQ (s : State) (i : Nat) (x : Region) : (s.setRegion i x).spareQ = s.spareQ := rfl
@[simp] theorem State.setRegion_swapWant (s : State) (i : Nat) (x : Region) : (s.setRegion i x).swapWant = s.swapWant := rfl
@[simp] theorem State.setRegion_bmems (s : State) (i : Nat) (x : Region) : (s.setRegion i x).bmems = s.bmems := rfl
@[simp] theorem State.setRegion_bbytes (s : State) (i : Nat) (x : Region) : (s.setRegion i x).bbytes = s.bbytes := rfl
@[simp] theorem State.setRegion_banks (s : State) (i : Nat) (x : Region) : (s.setRegion i x).banks = s.banks := rfl
@[simp] theorem State.setRegion_swords (s : State) (i : Nat) (x : Region) : (s.setRegion i x).swords = s.swords := rfl
@[simp] theorem State.setRegion_hops (s : State) (i : Nat) (x : Region) : (s.setRegion i x).hops = s.hops := rfl
@[simp] theorem State.setRegion_pins (s : State) (i : Nat) (x : Region) : (s.setRegion i x).pins = s.pins := rfl
@[simp] theorem State.setRegion_spinePrevs (s : State) (i : Nat) (x : Region) : (s.setRegion i x).spinePrevs = s.spinePrevs := rfl
@[simp] theorem State.setRegion_pads (s : State) (i : Nat) (x : Region) : (s.setRegion i x).pads = s.pads := rfl
@[simp] theorem State.setRegion_groups (s : State) (i : Nat) (x : Region) : (s.setRegion i x).groups = s.groups := rfl
@[simp] theorem State.setRegion_links (s : State) (i : Nat) (x : Region) : (s.setRegion i x).links = s.links := rfl
@[simp] theorem State.setRegion_reasms (s : State) (i : Nat) (x : Region) : (s.setRegion i x).reasms = s.reasms := rfl
@[simp] theorem State.setRegion_mgmtIn (s : State) (i : Nat) (x : Region) : (s.setRegion i x).mgmtIn = s.mgmtIn := rfl
@[simp] theorem State.setRegion_lateTags (s : State) (i : Nat) (x : Region) : (s.setRegion i x).lateTags = s.lateTags := rfl
@[simp] theorem State.setRegion_slices (s : State) (i : Nat) (x : Region) : (s.setRegion i x).slices = s.slices := rfl
@[simp] theorem State.setRegion_sweep (s : State) (i : Nat) (x : Region) : (s.setRegion i x).sweep = s.sweep := rfl
@[simp] theorem State.setRegion_asyNews (s : State) (i : Nat) (x : Region) : (s.setRegion i x).asyNews = s.asyNews := rfl
@[simp] theorem State.setRegion_sliceEnded (s : State) (i : Nat) (x : Region) : (s.setRegion i x).sliceEnded = s.sliceEnded := rfl
@[simp] theorem State.setRegion_load (s : State) (i : Nat) (x : Region) : (s.setRegion i x).load = s.load := rfl
@[simp] theorem State.setRegion_flash (s : State) (i : Nat) (x : Region) : (s.setRegion i x).flash = s.flash := rfl
@[simp] theorem State.setRegion_gold (s : State) (i : Nat) (x : Region) : (s.setRegion i x).gold = s.gold := rfl
@[simp] theorem State.setRegion_cparks (s : State) (i : Nat) (x : Region) : (s.setRegion i x).cparks = s.cparks := rfl
@[simp] theorem State.setRegion_crcs (s : State) (i : Nat) (x : Region) : (s.setRegion i x).crcs = s.crcs := rfl
@[simp] theorem State.setRegion_loadEnded (s : State) (i : Nat) (x : Region) : (s.setRegion i x).loadEnded = s.loadEnded := rfl
@[simp] theorem State.setRegion_imgHash (s : State) (i : Nat) (x : Region) : (s.setRegion i x).imgHash = s.imgHash := rfl
@[simp] theorem State.setRegion_rimgs (s : State) (i : Nat) (x : Region) : (s.setRegion i x).rimgs = s.rimgs := rfl
@[simp] theorem State.setRegion_staged (s : State) (i : Nat) (x : Region) : (s.setRegion i x).staged = s.staged := rfl
@[simp] theorem State.setRegion_loadAsked (s : State) (i : Nat) (x : Region) : (s.setRegion i x).loadAsked = s.loadAsked := rfl
@[simp] theorem State.setRegion_toldFaults (s : State) (i : Nat) (x : Region) : (s.setRegion i x).toldFaults = s.toldFaults := rfl
@[simp] theorem State.setRegion_kslots (s : State) (i : Nat) (x : Region) : (s.setRegion i x).kslots = s.kslots := rfl
@[simp] theorem State.setRegion_oslots (s : State) (i : Nat) (x : Region) : (s.setRegion i x).oslots = s.oslots := rfl
@[simp] theorem State.setRegion_kcmd (s : State) (i : Nat) (x : Region) : (s.setRegion i x).kcmd = s.kcmd := rfl
@[simp] theorem State.setRegion_cutSlots (s : State) (i : Nat) (x : Region) : (s.setRegion i x).cutSlots = s.cutSlots := rfl
@[simp] theorem State.setRegion_tkrev (s : State) (i : Nat) (x : Region) : (s.setRegion i x).tkrev = s.tkrev := rfl
@[simp] theorem State.setRegion_fwsvn (s : State) (i : Nat) (x : Region) : (s.setRegion i x).fwsvn = s.fwsvn := rfl
@[simp] theorem State.setRegion_fw (s : State) (i : Nat) (x : Region) : (s.setRegion i x).fw = s.fw := rfl
@[simp] theorem State.setRegion_recovery (s : State) (i : Nat) (x : Region) : (s.setRegion i x).recovery = s.recovery := rfl
@[simp] theorem State.setRegion_reports (s : State) (i : Nat) (x : Region) : (s.setRegion i x).reports = s.reports := rfl
@[simp] theorem State.setRegion_signed (s : State) (i : Nat) (x : Region) : (s.setRegion i x).signed = s.signed := rfl
@[simp] theorem State.setRegion_attests (s : State) (i : Nat) (x : Region) : (s.setRegion i x).attests = s.attests := rfl
@[simp] theorem State.setRegion_uarts (s : State) (i : Nat) (x : Region) : (s.setRegion i x).uarts = s.uarts := rfl
@[simp] theorem State.setRegion_spi (s : State) (i : Nat) (x : Region) : (s.setRegion i x).spi = s.spi := rfl
@[simp] theorem State.setRegion_i2cs (s : State) (i : Nat) (x : Region) : (s.setRegion i x).i2cs = s.i2cs := rfl
@[simp] theorem State.setRegion_cores (s : State) (i : Nat) (x : Region) : (s.setRegion i x).cores = s.cores := rfl
@[simp] theorem State.setRegion_wdgs (s : State) (i : Nat) (x : Region) : (s.setRegion i x).wdgs = s.wdgs := rfl
@[simp] theorem State.setRegion_gexts (s : State) (i : Nat) (x : Region) : (s.setRegion i x).gexts = s.gexts := rfl
@[simp] theorem State.setRegion_gkeeps (s : State) (i : Nat) (x : Region) : (s.setRegion i x).gkeeps = s.gkeeps := rfl
@[simp] theorem State.setRegion_glines (s : State) (i : Nat) (x : Region) : (s.setRegion i x).glines = s.glines := rfl
@[simp] theorem State.setRegion_gheld (s : State) (i : Nat) (x : Region) : (s.setRegion i x).gheld = s.gheld := rfl
@[simp] theorem State.setRegion_cmpNews (s : State) (i : Nat) (x : Region) : (s.setRegion i x).cmpNews = s.cmpNews := rfl
@[simp] theorem State.setRegion_ptpNews (s : State) (i : Nat) (x : Region) : (s.setRegion i x).ptpNews = s.ptpNews := rfl
@[simp] theorem State.setRegion_ptpStamp (s : State) (i : Nat) (x : Region) : (s.setRegion i x).ptpStamp = s.ptpStamp := rfl
@[simp] theorem State.setRegion_ppsAt (s : State) (i : Nat) (x : Region) : (s.setRegion i x).ppsAt = s.ppsAt := rfl
@[simp] theorem State.setRegion_mem (s : State) (i : Nat) (x : Region) : (s.setRegion i x).mem = s.mem := rfl
@[simp] theorem State.setRegion_memEpoch (s : State) (i : Nat) (x : Region) : (s.setRegion i x).memEpoch = s.memEpoch := rfl
@[simp] theorem State.setRegion_ix (s : State) (i : Nat) (x : Region) : (s.setRegion i x).ix = s.ix := rfl
@[simp] theorem State.setRegion_ixOut (s : State) (i : Nat) (x : Region) : (s.setRegion i x).ixOut = s.ixOut := rfl
@[simp] theorem State.setRegion_doms (s : State) (i : Nat) (x : Region) : (s.setRegion i x).doms = s.doms := rfl
@[simp] theorem State.setRegion_epoch (s : State) (i : Nat) (x : Region) : (s.setRegion i x).epoch = s.epoch := rfl
@[simp] theorem State.setRegion_ups (s : State) (i : Nat) (x : Region) : (s.setRegion i x).ups = s.ups := rfl
@[simp] theorem State.setRegion_dns (s : State) (i : Nat) (x : Region) : (s.setRegion i x).dns = s.dns := rfl
@[simp] theorem State.setRegion_probes (s : State) (i : Nat) (x : Region) : (s.setRegion i x).probes = s.probes := rfl
@[simp] theorem State.setRegion_tapIr (s : State) (i : Nat) (x : Region) : (s.setRegion i x).tapIr = s.tapIr := rfl
@[simp] theorem State.setRegion_bscan (s : State) (i : Nat) (x : Region) : (s.setRegion i x).bscan = s.bscan := rfl
@[simp] theorem State.setRegion_dbgAcc (s : State) (i : Nat) (x : Region) : (s.setRegion i x).dbgAcc = s.dbgAcc := rfl
@[simp] theorem State.setRegion_dbgStatus (s : State) (i : Nat) (x : Region) : (s.setRegion i x).dbgStatus = s.dbgStatus := rfl
@[simp] theorem State.setRegion_dbgP (s : State) (i : Nat) (x : Region) : (s.setRegion i x).dbgP = s.dbgP := rfl
@[simp] theorem State.setRegion_dbgData (s : State) (i : Nat) (x : Region) : (s.setRegion i x).dbgData = s.dbgData := rfl
@[simp] theorem State.setRegion_bcap (s : State) (i : Nat) (x : Region) : (s.setRegion i x).bcap = s.bcap := rfl
@[simp] theorem State.setRegion_vin (s : State) (i : Nat) (x : Region) : (s.setRegion i x).vin = s.vin := rfl
@[simp] theorem State.setRegion_vbat (s : State) (i : Nat) (x : Region) : (s.setRegion i x).vbat = s.vbat := rfl
@[simp] theorem State.setRegion_bbGone (s : State) (i : Nat) (x : Region) : (s.setRegion i x).bbGone = s.bbGone := rfl
@[simp] theorem State.setRegion_hot (s : State) (i : Nat) (x : Region) : (s.setRegion i x).hot = s.hot := rfl
@[simp] theorem State.setRegion_bootDue (s : State) (i : Nat) (x : Region) : (s.setRegion i x).bootDue = s.bootDue := rfl

@[simp] theorem State.setClu_clus (s : State) (i : Nat) (x : Clu) : (s.setClu i x).clus = Store.put {} s.clus i x := rfl
@[simp] theorem State.clu_setClu_same (s : State) (i : Nat) (x : Clu) : (s.setClu i x).clu i = x := Store.get_put_same _ _ _ _
theorem State.clu_setClu_ne (s : State) (i j : Nat) (x : Clu) (h : j ≠ i) : (s.setClu i x).clu j = s.clu j := Store.get_put_ne _ _ _ h
@[simp] theorem State.setClu_pending (s : State) (i : Nat) (x : Clu) : (s.setClu i x).pending = s.pending := rfl
@[simp] theorem State.setClu_free (s : State) (i : Nat) (x : Clu) : (s.setClu i x).free = s.free := rfl
@[simp] theorem State.setClu_time (s : State) (i : Nat) (x : Clu) : (s.setClu i x).time = s.time := rfl
@[simp] theorem State.setClu_regs (s : State) (i : Nat) (x : Clu) : (s.setClu i x).regs = s.regs := rfl
@[simp] theorem State.setClu_rdata (s : State) (i : Nat) (x : Clu) : (s.setClu i x).rdata = s.rdata := rfl
@[simp] theorem State.setClu_tports (s : State) (i : Nat) (x : Clu) : (s.setClu i x).tports = s.tports := rfl
@[simp] theorem State.setClu_tlines (s : State) (i : Nat) (x : Clu) : (s.setClu i x).tlines = s.tlines := rfl
@[simp] theorem State.setClu_ptp (s : State) (i : Nat) (x : Clu) : (s.setClu i x).ptp = s.ptp := rfl
@[simp] theorem State.setClu_ptpGo (s : State) (i : Nat) (x : Clu) : (s.setClu i x).ptpGo = s.ptpGo := rfl
@[simp] theorem State.setClu_ptpMark (s : State) (i : Nat) (x : Clu) : (s.setClu i x).ptpMark = s.ptpMark := rfl
@[simp] theorem State.setClu_calReq (s : State) (i : Nat) (x : Clu) : (s.setClu i x).calReq = s.calReq := rfl
@[simp] theorem State.setClu_interval (s : State) (i : Nat) (x : Clu) : (s.setClu i x).interval = s.interval := rfl
@[simp] theorem State.setClu_frames (s : State) (i : Nat) (x : Clu) : (s.setClu i x).frames = s.frames := rfl
@[simp] theorem State.setClu_spine (s : State) (i : Nat) (x : Clu) : (s.setClu i x).spine = s.spine := rfl
@[simp] theorem State.setClu_cells (s : State) (i : Nat) (x : Clu) : (s.setClu i x).cells = s.cells := rfl
@[simp] theorem State.setClu_regions (s : State) (i : Nat) (x : Clu) : (s.setClu i x).regions = s.regions := rfl
@[simp] theorem State.setClu_cfg (s : State) (i : Nat) (x : Clu) : (s.setClu i x).cfg = s.cfg := rfl
@[simp] theorem State.setClu_chans (s : State) (i : Nat) (x : Clu) : (s.setClu i x).chans = s.chans := rfl
@[simp] theorem State.setClu_aports (s : State) (i : Nat) (x : Clu) : (s.setClu i x).aports = s.aports := rfl
@[simp] theorem State.setClu_blines (s : State) (i : Nat) (x : Clu) : (s.setClu i x).blines = s.blines := rfl
@[simp] theorem State.setClu_bsrcs (s : State) (i : Nat) (x : Clu) : (s.setClu i x).bsrcs = s.bsrcs := rfl
@[simp] theorem State.setClu_bports (s : State) (i : Nat) (x : Clu) : (s.setClu i x).bports = s.bports := rfl
@[simp] theorem State.setClu_twins (s : State) (i : Nat) (x : Clu) : (s.setClu i x).twins = s.twins := rfl
@[simp] theorem State.setClu_lanes (s : State) (i : Nat) (x : Clu) : (s.setClu i x).lanes = s.lanes := rfl
@[simp] theorem State.setClu_flights (s : State) (i : Nat) (x : Clu) : (s.setClu i x).flights = s.flights := rfl
@[simp] theorem State.setClu_nextId (s : State) (i : Nat) (x : Clu) : (s.setClu i x).nextId = s.nextId := rfl
@[simp] theorem State.setClu_pairs (s : State) (i : Nat) (x : Clu) : (s.setClu i x).pairs = s.pairs := rfl
@[simp] theorem State.setClu_codePend (s : State) (i : Nat) (x : Clu) : (s.setClu i x).codePend = s.codePend := rfl
@[simp] theorem State.setClu_spareQ (s : State) (i : Nat) (x : Clu) : (s.setClu i x).spareQ = s.spareQ := rfl
@[simp] theorem State.setClu_swapWant (s : State) (i : Nat) (x : Clu) : (s.setClu i x).swapWant = s.swapWant := rfl
@[simp] theorem State.setClu_bmems (s : State) (i : Nat) (x : Clu) : (s.setClu i x).bmems = s.bmems := rfl
@[simp] theorem State.setClu_bbytes (s : State) (i : Nat) (x : Clu) : (s.setClu i x).bbytes = s.bbytes := rfl
@[simp] theorem State.setClu_banks (s : State) (i : Nat) (x : Clu) : (s.setClu i x).banks = s.banks := rfl
@[simp] theorem State.setClu_swords (s : State) (i : Nat) (x : Clu) : (s.setClu i x).swords = s.swords := rfl
@[simp] theorem State.setClu_hops (s : State) (i : Nat) (x : Clu) : (s.setClu i x).hops = s.hops := rfl
@[simp] theorem State.setClu_pins (s : State) (i : Nat) (x : Clu) : (s.setClu i x).pins = s.pins := rfl
@[simp] theorem State.setClu_spinePrevs (s : State) (i : Nat) (x : Clu) : (s.setClu i x).spinePrevs = s.spinePrevs := rfl
@[simp] theorem State.setClu_pads (s : State) (i : Nat) (x : Clu) : (s.setClu i x).pads = s.pads := rfl
@[simp] theorem State.setClu_groups (s : State) (i : Nat) (x : Clu) : (s.setClu i x).groups = s.groups := rfl
@[simp] theorem State.setClu_links (s : State) (i : Nat) (x : Clu) : (s.setClu i x).links = s.links := rfl
@[simp] theorem State.setClu_reasms (s : State) (i : Nat) (x : Clu) : (s.setClu i x).reasms = s.reasms := rfl
@[simp] theorem State.setClu_mgmtIn (s : State) (i : Nat) (x : Clu) : (s.setClu i x).mgmtIn = s.mgmtIn := rfl
@[simp] theorem State.setClu_lateTags (s : State) (i : Nat) (x : Clu) : (s.setClu i x).lateTags = s.lateTags := rfl
@[simp] theorem State.setClu_slices (s : State) (i : Nat) (x : Clu) : (s.setClu i x).slices = s.slices := rfl
@[simp] theorem State.setClu_sweep (s : State) (i : Nat) (x : Clu) : (s.setClu i x).sweep = s.sweep := rfl
@[simp] theorem State.setClu_asyNews (s : State) (i : Nat) (x : Clu) : (s.setClu i x).asyNews = s.asyNews := rfl
@[simp] theorem State.setClu_sliceEnded (s : State) (i : Nat) (x : Clu) : (s.setClu i x).sliceEnded = s.sliceEnded := rfl
@[simp] theorem State.setClu_load (s : State) (i : Nat) (x : Clu) : (s.setClu i x).load = s.load := rfl
@[simp] theorem State.setClu_flash (s : State) (i : Nat) (x : Clu) : (s.setClu i x).flash = s.flash := rfl
@[simp] theorem State.setClu_gold (s : State) (i : Nat) (x : Clu) : (s.setClu i x).gold = s.gold := rfl
@[simp] theorem State.setClu_cparks (s : State) (i : Nat) (x : Clu) : (s.setClu i x).cparks = s.cparks := rfl
@[simp] theorem State.setClu_crcs (s : State) (i : Nat) (x : Clu) : (s.setClu i x).crcs = s.crcs := rfl
@[simp] theorem State.setClu_loadEnded (s : State) (i : Nat) (x : Clu) : (s.setClu i x).loadEnded = s.loadEnded := rfl
@[simp] theorem State.setClu_imgHash (s : State) (i : Nat) (x : Clu) : (s.setClu i x).imgHash = s.imgHash := rfl
@[simp] theorem State.setClu_rimgs (s : State) (i : Nat) (x : Clu) : (s.setClu i x).rimgs = s.rimgs := rfl
@[simp] theorem State.setClu_staged (s : State) (i : Nat) (x : Clu) : (s.setClu i x).staged = s.staged := rfl
@[simp] theorem State.setClu_loadAsked (s : State) (i : Nat) (x : Clu) : (s.setClu i x).loadAsked = s.loadAsked := rfl
@[simp] theorem State.setClu_toldFaults (s : State) (i : Nat) (x : Clu) : (s.setClu i x).toldFaults = s.toldFaults := rfl
@[simp] theorem State.setClu_kslots (s : State) (i : Nat) (x : Clu) : (s.setClu i x).kslots = s.kslots := rfl
@[simp] theorem State.setClu_oslots (s : State) (i : Nat) (x : Clu) : (s.setClu i x).oslots = s.oslots := rfl
@[simp] theorem State.setClu_kcmd (s : State) (i : Nat) (x : Clu) : (s.setClu i x).kcmd = s.kcmd := rfl
@[simp] theorem State.setClu_cutSlots (s : State) (i : Nat) (x : Clu) : (s.setClu i x).cutSlots = s.cutSlots := rfl
@[simp] theorem State.setClu_tkrev (s : State) (i : Nat) (x : Clu) : (s.setClu i x).tkrev = s.tkrev := rfl
@[simp] theorem State.setClu_fwsvn (s : State) (i : Nat) (x : Clu) : (s.setClu i x).fwsvn = s.fwsvn := rfl
@[simp] theorem State.setClu_fw (s : State) (i : Nat) (x : Clu) : (s.setClu i x).fw = s.fw := rfl
@[simp] theorem State.setClu_recovery (s : State) (i : Nat) (x : Clu) : (s.setClu i x).recovery = s.recovery := rfl
@[simp] theorem State.setClu_reports (s : State) (i : Nat) (x : Clu) : (s.setClu i x).reports = s.reports := rfl
@[simp] theorem State.setClu_signed (s : State) (i : Nat) (x : Clu) : (s.setClu i x).signed = s.signed := rfl
@[simp] theorem State.setClu_attests (s : State) (i : Nat) (x : Clu) : (s.setClu i x).attests = s.attests := rfl
@[simp] theorem State.setClu_uarts (s : State) (i : Nat) (x : Clu) : (s.setClu i x).uarts = s.uarts := rfl
@[simp] theorem State.setClu_spi (s : State) (i : Nat) (x : Clu) : (s.setClu i x).spi = s.spi := rfl
@[simp] theorem State.setClu_i2cs (s : State) (i : Nat) (x : Clu) : (s.setClu i x).i2cs = s.i2cs := rfl
@[simp] theorem State.setClu_cores (s : State) (i : Nat) (x : Clu) : (s.setClu i x).cores = s.cores := rfl
@[simp] theorem State.setClu_wdgs (s : State) (i : Nat) (x : Clu) : (s.setClu i x).wdgs = s.wdgs := rfl
@[simp] theorem State.setClu_gexts (s : State) (i : Nat) (x : Clu) : (s.setClu i x).gexts = s.gexts := rfl
@[simp] theorem State.setClu_gkeeps (s : State) (i : Nat) (x : Clu) : (s.setClu i x).gkeeps = s.gkeeps := rfl
@[simp] theorem State.setClu_glines (s : State) (i : Nat) (x : Clu) : (s.setClu i x).glines = s.glines := rfl
@[simp] theorem State.setClu_gheld (s : State) (i : Nat) (x : Clu) : (s.setClu i x).gheld = s.gheld := rfl
@[simp] theorem State.setClu_cmpNews (s : State) (i : Nat) (x : Clu) : (s.setClu i x).cmpNews = s.cmpNews := rfl
@[simp] theorem State.setClu_ptpNews (s : State) (i : Nat) (x : Clu) : (s.setClu i x).ptpNews = s.ptpNews := rfl
@[simp] theorem State.setClu_ptpStamp (s : State) (i : Nat) (x : Clu) : (s.setClu i x).ptpStamp = s.ptpStamp := rfl
@[simp] theorem State.setClu_ppsAt (s : State) (i : Nat) (x : Clu) : (s.setClu i x).ppsAt = s.ppsAt := rfl
@[simp] theorem State.setClu_mem (s : State) (i : Nat) (x : Clu) : (s.setClu i x).mem = s.mem := rfl
@[simp] theorem State.setClu_memEpoch (s : State) (i : Nat) (x : Clu) : (s.setClu i x).memEpoch = s.memEpoch := rfl
@[simp] theorem State.setClu_ix (s : State) (i : Nat) (x : Clu) : (s.setClu i x).ix = s.ix := rfl
@[simp] theorem State.setClu_ixOut (s : State) (i : Nat) (x : Clu) : (s.setClu i x).ixOut = s.ixOut := rfl
@[simp] theorem State.setClu_doms (s : State) (i : Nat) (x : Clu) : (s.setClu i x).doms = s.doms := rfl
@[simp] theorem State.setClu_epoch (s : State) (i : Nat) (x : Clu) : (s.setClu i x).epoch = s.epoch := rfl
@[simp] theorem State.setClu_ups (s : State) (i : Nat) (x : Clu) : (s.setClu i x).ups = s.ups := rfl
@[simp] theorem State.setClu_dns (s : State) (i : Nat) (x : Clu) : (s.setClu i x).dns = s.dns := rfl
@[simp] theorem State.setClu_probes (s : State) (i : Nat) (x : Clu) : (s.setClu i x).probes = s.probes := rfl
@[simp] theorem State.setClu_tapIr (s : State) (i : Nat) (x : Clu) : (s.setClu i x).tapIr = s.tapIr := rfl
@[simp] theorem State.setClu_bscan (s : State) (i : Nat) (x : Clu) : (s.setClu i x).bscan = s.bscan := rfl
@[simp] theorem State.setClu_dbgAcc (s : State) (i : Nat) (x : Clu) : (s.setClu i x).dbgAcc = s.dbgAcc := rfl
@[simp] theorem State.setClu_dbgStatus (s : State) (i : Nat) (x : Clu) : (s.setClu i x).dbgStatus = s.dbgStatus := rfl
@[simp] theorem State.setClu_dbgP (s : State) (i : Nat) (x : Clu) : (s.setClu i x).dbgP = s.dbgP := rfl
@[simp] theorem State.setClu_dbgData (s : State) (i : Nat) (x : Clu) : (s.setClu i x).dbgData = s.dbgData := rfl
@[simp] theorem State.setClu_bcap (s : State) (i : Nat) (x : Clu) : (s.setClu i x).bcap = s.bcap := rfl
@[simp] theorem State.setClu_vin (s : State) (i : Nat) (x : Clu) : (s.setClu i x).vin = s.vin := rfl
@[simp] theorem State.setClu_vbat (s : State) (i : Nat) (x : Clu) : (s.setClu i x).vbat = s.vbat := rfl
@[simp] theorem State.setClu_bbGone (s : State) (i : Nat) (x : Clu) : (s.setClu i x).bbGone = s.bbGone := rfl
@[simp] theorem State.setClu_hot (s : State) (i : Nat) (x : Clu) : (s.setClu i x).hot = s.hot := rfl
@[simp] theorem State.setClu_bootDue (s : State) (i : Nat) (x : Clu) : (s.setClu i x).bootDue = s.bootDue := rfl

@[simp] theorem State.setChan_chans (s : State) (i : Nat) (x : Chan) : (s.setChan i x).chans = Store.put {} s.chans i x := rfl
@[simp] theorem State.chan_setChan_same (s : State) (i : Nat) (x : Chan) : (s.setChan i x).chan i = x := Store.get_put_same _ _ _ _
theorem State.chan_setChan_ne (s : State) (i j : Nat) (x : Chan) (h : j ≠ i) : (s.setChan i x).chan j = s.chan j := Store.get_put_ne _ _ _ h
@[simp] theorem State.setChan_pending (s : State) (i : Nat) (x : Chan) : (s.setChan i x).pending = s.pending := rfl
@[simp] theorem State.setChan_free (s : State) (i : Nat) (x : Chan) : (s.setChan i x).free = s.free := rfl
@[simp] theorem State.setChan_time (s : State) (i : Nat) (x : Chan) : (s.setChan i x).time = s.time := rfl
@[simp] theorem State.setChan_regs (s : State) (i : Nat) (x : Chan) : (s.setChan i x).regs = s.regs := rfl
@[simp] theorem State.setChan_rdata (s : State) (i : Nat) (x : Chan) : (s.setChan i x).rdata = s.rdata := rfl
@[simp] theorem State.setChan_tports (s : State) (i : Nat) (x : Chan) : (s.setChan i x).tports = s.tports := rfl
@[simp] theorem State.setChan_tlines (s : State) (i : Nat) (x : Chan) : (s.setChan i x).tlines = s.tlines := rfl
@[simp] theorem State.setChan_ptp (s : State) (i : Nat) (x : Chan) : (s.setChan i x).ptp = s.ptp := rfl
@[simp] theorem State.setChan_ptpGo (s : State) (i : Nat) (x : Chan) : (s.setChan i x).ptpGo = s.ptpGo := rfl
@[simp] theorem State.setChan_ptpMark (s : State) (i : Nat) (x : Chan) : (s.setChan i x).ptpMark = s.ptpMark := rfl
@[simp] theorem State.setChan_calReq (s : State) (i : Nat) (x : Chan) : (s.setChan i x).calReq = s.calReq := rfl
@[simp] theorem State.setChan_interval (s : State) (i : Nat) (x : Chan) : (s.setChan i x).interval = s.interval := rfl
@[simp] theorem State.setChan_frames (s : State) (i : Nat) (x : Chan) : (s.setChan i x).frames = s.frames := rfl
@[simp] theorem State.setChan_spine (s : State) (i : Nat) (x : Chan) : (s.setChan i x).spine = s.spine := rfl
@[simp] theorem State.setChan_cells (s : State) (i : Nat) (x : Chan) : (s.setChan i x).cells = s.cells := rfl
@[simp] theorem State.setChan_regions (s : State) (i : Nat) (x : Chan) : (s.setChan i x).regions = s.regions := rfl
@[simp] theorem State.setChan_clus (s : State) (i : Nat) (x : Chan) : (s.setChan i x).clus = s.clus := rfl
@[simp] theorem State.setChan_cfg (s : State) (i : Nat) (x : Chan) : (s.setChan i x).cfg = s.cfg := rfl
@[simp] theorem State.setChan_aports (s : State) (i : Nat) (x : Chan) : (s.setChan i x).aports = s.aports := rfl
@[simp] theorem State.setChan_blines (s : State) (i : Nat) (x : Chan) : (s.setChan i x).blines = s.blines := rfl
@[simp] theorem State.setChan_bsrcs (s : State) (i : Nat) (x : Chan) : (s.setChan i x).bsrcs = s.bsrcs := rfl
@[simp] theorem State.setChan_bports (s : State) (i : Nat) (x : Chan) : (s.setChan i x).bports = s.bports := rfl
@[simp] theorem State.setChan_twins (s : State) (i : Nat) (x : Chan) : (s.setChan i x).twins = s.twins := rfl
@[simp] theorem State.setChan_lanes (s : State) (i : Nat) (x : Chan) : (s.setChan i x).lanes = s.lanes := rfl
@[simp] theorem State.setChan_flights (s : State) (i : Nat) (x : Chan) : (s.setChan i x).flights = s.flights := rfl
@[simp] theorem State.setChan_nextId (s : State) (i : Nat) (x : Chan) : (s.setChan i x).nextId = s.nextId := rfl
@[simp] theorem State.setChan_pairs (s : State) (i : Nat) (x : Chan) : (s.setChan i x).pairs = s.pairs := rfl
@[simp] theorem State.setChan_codePend (s : State) (i : Nat) (x : Chan) : (s.setChan i x).codePend = s.codePend := rfl
@[simp] theorem State.setChan_spareQ (s : State) (i : Nat) (x : Chan) : (s.setChan i x).spareQ = s.spareQ := rfl
@[simp] theorem State.setChan_swapWant (s : State) (i : Nat) (x : Chan) : (s.setChan i x).swapWant = s.swapWant := rfl
@[simp] theorem State.setChan_bmems (s : State) (i : Nat) (x : Chan) : (s.setChan i x).bmems = s.bmems := rfl
@[simp] theorem State.setChan_bbytes (s : State) (i : Nat) (x : Chan) : (s.setChan i x).bbytes = s.bbytes := rfl
@[simp] theorem State.setChan_banks (s : State) (i : Nat) (x : Chan) : (s.setChan i x).banks = s.banks := rfl
@[simp] theorem State.setChan_swords (s : State) (i : Nat) (x : Chan) : (s.setChan i x).swords = s.swords := rfl
@[simp] theorem State.setChan_hops (s : State) (i : Nat) (x : Chan) : (s.setChan i x).hops = s.hops := rfl
@[simp] theorem State.setChan_pins (s : State) (i : Nat) (x : Chan) : (s.setChan i x).pins = s.pins := rfl
@[simp] theorem State.setChan_spinePrevs (s : State) (i : Nat) (x : Chan) : (s.setChan i x).spinePrevs = s.spinePrevs := rfl
@[simp] theorem State.setChan_pads (s : State) (i : Nat) (x : Chan) : (s.setChan i x).pads = s.pads := rfl
@[simp] theorem State.setChan_groups (s : State) (i : Nat) (x : Chan) : (s.setChan i x).groups = s.groups := rfl
@[simp] theorem State.setChan_links (s : State) (i : Nat) (x : Chan) : (s.setChan i x).links = s.links := rfl
@[simp] theorem State.setChan_reasms (s : State) (i : Nat) (x : Chan) : (s.setChan i x).reasms = s.reasms := rfl
@[simp] theorem State.setChan_mgmtIn (s : State) (i : Nat) (x : Chan) : (s.setChan i x).mgmtIn = s.mgmtIn := rfl
@[simp] theorem State.setChan_lateTags (s : State) (i : Nat) (x : Chan) : (s.setChan i x).lateTags = s.lateTags := rfl
@[simp] theorem State.setChan_slices (s : State) (i : Nat) (x : Chan) : (s.setChan i x).slices = s.slices := rfl
@[simp] theorem State.setChan_sweep (s : State) (i : Nat) (x : Chan) : (s.setChan i x).sweep = s.sweep := rfl
@[simp] theorem State.setChan_asyNews (s : State) (i : Nat) (x : Chan) : (s.setChan i x).asyNews = s.asyNews := rfl
@[simp] theorem State.setChan_sliceEnded (s : State) (i : Nat) (x : Chan) : (s.setChan i x).sliceEnded = s.sliceEnded := rfl
@[simp] theorem State.setChan_load (s : State) (i : Nat) (x : Chan) : (s.setChan i x).load = s.load := rfl
@[simp] theorem State.setChan_flash (s : State) (i : Nat) (x : Chan) : (s.setChan i x).flash = s.flash := rfl
@[simp] theorem State.setChan_gold (s : State) (i : Nat) (x : Chan) : (s.setChan i x).gold = s.gold := rfl
@[simp] theorem State.setChan_cparks (s : State) (i : Nat) (x : Chan) : (s.setChan i x).cparks = s.cparks := rfl
@[simp] theorem State.setChan_crcs (s : State) (i : Nat) (x : Chan) : (s.setChan i x).crcs = s.crcs := rfl
@[simp] theorem State.setChan_loadEnded (s : State) (i : Nat) (x : Chan) : (s.setChan i x).loadEnded = s.loadEnded := rfl
@[simp] theorem State.setChan_imgHash (s : State) (i : Nat) (x : Chan) : (s.setChan i x).imgHash = s.imgHash := rfl
@[simp] theorem State.setChan_rimgs (s : State) (i : Nat) (x : Chan) : (s.setChan i x).rimgs = s.rimgs := rfl
@[simp] theorem State.setChan_staged (s : State) (i : Nat) (x : Chan) : (s.setChan i x).staged = s.staged := rfl
@[simp] theorem State.setChan_loadAsked (s : State) (i : Nat) (x : Chan) : (s.setChan i x).loadAsked = s.loadAsked := rfl
@[simp] theorem State.setChan_toldFaults (s : State) (i : Nat) (x : Chan) : (s.setChan i x).toldFaults = s.toldFaults := rfl
@[simp] theorem State.setChan_kslots (s : State) (i : Nat) (x : Chan) : (s.setChan i x).kslots = s.kslots := rfl
@[simp] theorem State.setChan_oslots (s : State) (i : Nat) (x : Chan) : (s.setChan i x).oslots = s.oslots := rfl
@[simp] theorem State.setChan_kcmd (s : State) (i : Nat) (x : Chan) : (s.setChan i x).kcmd = s.kcmd := rfl
@[simp] theorem State.setChan_cutSlots (s : State) (i : Nat) (x : Chan) : (s.setChan i x).cutSlots = s.cutSlots := rfl
@[simp] theorem State.setChan_tkrev (s : State) (i : Nat) (x : Chan) : (s.setChan i x).tkrev = s.tkrev := rfl
@[simp] theorem State.setChan_fwsvn (s : State) (i : Nat) (x : Chan) : (s.setChan i x).fwsvn = s.fwsvn := rfl
@[simp] theorem State.setChan_fw (s : State) (i : Nat) (x : Chan) : (s.setChan i x).fw = s.fw := rfl
@[simp] theorem State.setChan_recovery (s : State) (i : Nat) (x : Chan) : (s.setChan i x).recovery = s.recovery := rfl
@[simp] theorem State.setChan_reports (s : State) (i : Nat) (x : Chan) : (s.setChan i x).reports = s.reports := rfl
@[simp] theorem State.setChan_signed (s : State) (i : Nat) (x : Chan) : (s.setChan i x).signed = s.signed := rfl
@[simp] theorem State.setChan_attests (s : State) (i : Nat) (x : Chan) : (s.setChan i x).attests = s.attests := rfl
@[simp] theorem State.setChan_uarts (s : State) (i : Nat) (x : Chan) : (s.setChan i x).uarts = s.uarts := rfl
@[simp] theorem State.setChan_spi (s : State) (i : Nat) (x : Chan) : (s.setChan i x).spi = s.spi := rfl
@[simp] theorem State.setChan_i2cs (s : State) (i : Nat) (x : Chan) : (s.setChan i x).i2cs = s.i2cs := rfl
@[simp] theorem State.setChan_cores (s : State) (i : Nat) (x : Chan) : (s.setChan i x).cores = s.cores := rfl
@[simp] theorem State.setChan_wdgs (s : State) (i : Nat) (x : Chan) : (s.setChan i x).wdgs = s.wdgs := rfl
@[simp] theorem State.setChan_gexts (s : State) (i : Nat) (x : Chan) : (s.setChan i x).gexts = s.gexts := rfl
@[simp] theorem State.setChan_gkeeps (s : State) (i : Nat) (x : Chan) : (s.setChan i x).gkeeps = s.gkeeps := rfl
@[simp] theorem State.setChan_glines (s : State) (i : Nat) (x : Chan) : (s.setChan i x).glines = s.glines := rfl
@[simp] theorem State.setChan_gheld (s : State) (i : Nat) (x : Chan) : (s.setChan i x).gheld = s.gheld := rfl
@[simp] theorem State.setChan_cmpNews (s : State) (i : Nat) (x : Chan) : (s.setChan i x).cmpNews = s.cmpNews := rfl
@[simp] theorem State.setChan_ptpNews (s : State) (i : Nat) (x : Chan) : (s.setChan i x).ptpNews = s.ptpNews := rfl
@[simp] theorem State.setChan_ptpStamp (s : State) (i : Nat) (x : Chan) : (s.setChan i x).ptpStamp = s.ptpStamp := rfl
@[simp] theorem State.setChan_ppsAt (s : State) (i : Nat) (x : Chan) : (s.setChan i x).ppsAt = s.ppsAt := rfl
@[simp] theorem State.setChan_mem (s : State) (i : Nat) (x : Chan) : (s.setChan i x).mem = s.mem := rfl
@[simp] theorem State.setChan_memEpoch (s : State) (i : Nat) (x : Chan) : (s.setChan i x).memEpoch = s.memEpoch := rfl
@[simp] theorem State.setChan_ix (s : State) (i : Nat) (x : Chan) : (s.setChan i x).ix = s.ix := rfl
@[simp] theorem State.setChan_ixOut (s : State) (i : Nat) (x : Chan) : (s.setChan i x).ixOut = s.ixOut := rfl
@[simp] theorem State.setChan_doms (s : State) (i : Nat) (x : Chan) : (s.setChan i x).doms = s.doms := rfl
@[simp] theorem State.setChan_epoch (s : State) (i : Nat) (x : Chan) : (s.setChan i x).epoch = s.epoch := rfl
@[simp] theorem State.setChan_ups (s : State) (i : Nat) (x : Chan) : (s.setChan i x).ups = s.ups := rfl
@[simp] theorem State.setChan_dns (s : State) (i : Nat) (x : Chan) : (s.setChan i x).dns = s.dns := rfl
@[simp] theorem State.setChan_probes (s : State) (i : Nat) (x : Chan) : (s.setChan i x).probes = s.probes := rfl
@[simp] theorem State.setChan_tapIr (s : State) (i : Nat) (x : Chan) : (s.setChan i x).tapIr = s.tapIr := rfl
@[simp] theorem State.setChan_bscan (s : State) (i : Nat) (x : Chan) : (s.setChan i x).bscan = s.bscan := rfl
@[simp] theorem State.setChan_dbgAcc (s : State) (i : Nat) (x : Chan) : (s.setChan i x).dbgAcc = s.dbgAcc := rfl
@[simp] theorem State.setChan_dbgStatus (s : State) (i : Nat) (x : Chan) : (s.setChan i x).dbgStatus = s.dbgStatus := rfl
@[simp] theorem State.setChan_dbgP (s : State) (i : Nat) (x : Chan) : (s.setChan i x).dbgP = s.dbgP := rfl
@[simp] theorem State.setChan_dbgData (s : State) (i : Nat) (x : Chan) : (s.setChan i x).dbgData = s.dbgData := rfl
@[simp] theorem State.setChan_bcap (s : State) (i : Nat) (x : Chan) : (s.setChan i x).bcap = s.bcap := rfl
@[simp] theorem State.setChan_vin (s : State) (i : Nat) (x : Chan) : (s.setChan i x).vin = s.vin := rfl
@[simp] theorem State.setChan_vbat (s : State) (i : Nat) (x : Chan) : (s.setChan i x).vbat = s.vbat := rfl
@[simp] theorem State.setChan_bbGone (s : State) (i : Nat) (x : Chan) : (s.setChan i x).bbGone = s.bbGone := rfl
@[simp] theorem State.setChan_hot (s : State) (i : Nat) (x : Chan) : (s.setChan i x).hot = s.hot := rfl
@[simp] theorem State.setChan_bootDue (s : State) (i : Nat) (x : Chan) : (s.setChan i x).bootDue = s.bootDue := rfl

@[simp] theorem State.setAport_aports (s : State) (i : Nat) (x : APort) : (s.setAport i x).aports = Store.put {} s.aports i x := rfl
@[simp] theorem State.aport_setAport_same (s : State) (i : Nat) (x : APort) : (s.setAport i x).aport i = x := Store.get_put_same _ _ _ _
theorem State.aport_setAport_ne (s : State) (i j : Nat) (x : APort) (h : j ≠ i) : (s.setAport i x).aport j = s.aport j := Store.get_put_ne _ _ _ h
@[simp] theorem State.setAport_pending (s : State) (i : Nat) (x : APort) : (s.setAport i x).pending = s.pending := rfl
@[simp] theorem State.setAport_free (s : State) (i : Nat) (x : APort) : (s.setAport i x).free = s.free := rfl
@[simp] theorem State.setAport_time (s : State) (i : Nat) (x : APort) : (s.setAport i x).time = s.time := rfl
@[simp] theorem State.setAport_regs (s : State) (i : Nat) (x : APort) : (s.setAport i x).regs = s.regs := rfl
@[simp] theorem State.setAport_rdata (s : State) (i : Nat) (x : APort) : (s.setAport i x).rdata = s.rdata := rfl
@[simp] theorem State.setAport_tports (s : State) (i : Nat) (x : APort) : (s.setAport i x).tports = s.tports := rfl
@[simp] theorem State.setAport_tlines (s : State) (i : Nat) (x : APort) : (s.setAport i x).tlines = s.tlines := rfl
@[simp] theorem State.setAport_ptp (s : State) (i : Nat) (x : APort) : (s.setAport i x).ptp = s.ptp := rfl
@[simp] theorem State.setAport_ptpGo (s : State) (i : Nat) (x : APort) : (s.setAport i x).ptpGo = s.ptpGo := rfl
@[simp] theorem State.setAport_ptpMark (s : State) (i : Nat) (x : APort) : (s.setAport i x).ptpMark = s.ptpMark := rfl
@[simp] theorem State.setAport_calReq (s : State) (i : Nat) (x : APort) : (s.setAport i x).calReq = s.calReq := rfl
@[simp] theorem State.setAport_interval (s : State) (i : Nat) (x : APort) : (s.setAport i x).interval = s.interval := rfl
@[simp] theorem State.setAport_frames (s : State) (i : Nat) (x : APort) : (s.setAport i x).frames = s.frames := rfl
@[simp] theorem State.setAport_spine (s : State) (i : Nat) (x : APort) : (s.setAport i x).spine = s.spine := rfl
@[simp] theorem State.setAport_cells (s : State) (i : Nat) (x : APort) : (s.setAport i x).cells = s.cells := rfl
@[simp] theorem State.setAport_regions (s : State) (i : Nat) (x : APort) : (s.setAport i x).regions = s.regions := rfl
@[simp] theorem State.setAport_clus (s : State) (i : Nat) (x : APort) : (s.setAport i x).clus = s.clus := rfl
@[simp] theorem State.setAport_cfg (s : State) (i : Nat) (x : APort) : (s.setAport i x).cfg = s.cfg := rfl
@[simp] theorem State.setAport_chans (s : State) (i : Nat) (x : APort) : (s.setAport i x).chans = s.chans := rfl
@[simp] theorem State.setAport_blines (s : State) (i : Nat) (x : APort) : (s.setAport i x).blines = s.blines := rfl
@[simp] theorem State.setAport_bsrcs (s : State) (i : Nat) (x : APort) : (s.setAport i x).bsrcs = s.bsrcs := rfl
@[simp] theorem State.setAport_bports (s : State) (i : Nat) (x : APort) : (s.setAport i x).bports = s.bports := rfl
@[simp] theorem State.setAport_twins (s : State) (i : Nat) (x : APort) : (s.setAport i x).twins = s.twins := rfl
@[simp] theorem State.setAport_lanes (s : State) (i : Nat) (x : APort) : (s.setAport i x).lanes = s.lanes := rfl
@[simp] theorem State.setAport_flights (s : State) (i : Nat) (x : APort) : (s.setAport i x).flights = s.flights := rfl
@[simp] theorem State.setAport_nextId (s : State) (i : Nat) (x : APort) : (s.setAport i x).nextId = s.nextId := rfl
@[simp] theorem State.setAport_pairs (s : State) (i : Nat) (x : APort) : (s.setAport i x).pairs = s.pairs := rfl
@[simp] theorem State.setAport_codePend (s : State) (i : Nat) (x : APort) : (s.setAport i x).codePend = s.codePend := rfl
@[simp] theorem State.setAport_spareQ (s : State) (i : Nat) (x : APort) : (s.setAport i x).spareQ = s.spareQ := rfl
@[simp] theorem State.setAport_swapWant (s : State) (i : Nat) (x : APort) : (s.setAport i x).swapWant = s.swapWant := rfl
@[simp] theorem State.setAport_bmems (s : State) (i : Nat) (x : APort) : (s.setAport i x).bmems = s.bmems := rfl
@[simp] theorem State.setAport_bbytes (s : State) (i : Nat) (x : APort) : (s.setAport i x).bbytes = s.bbytes := rfl
@[simp] theorem State.setAport_banks (s : State) (i : Nat) (x : APort) : (s.setAport i x).banks = s.banks := rfl
@[simp] theorem State.setAport_swords (s : State) (i : Nat) (x : APort) : (s.setAport i x).swords = s.swords := rfl
@[simp] theorem State.setAport_hops (s : State) (i : Nat) (x : APort) : (s.setAport i x).hops = s.hops := rfl
@[simp] theorem State.setAport_pins (s : State) (i : Nat) (x : APort) : (s.setAport i x).pins = s.pins := rfl
@[simp] theorem State.setAport_spinePrevs (s : State) (i : Nat) (x : APort) : (s.setAport i x).spinePrevs = s.spinePrevs := rfl
@[simp] theorem State.setAport_pads (s : State) (i : Nat) (x : APort) : (s.setAport i x).pads = s.pads := rfl
@[simp] theorem State.setAport_groups (s : State) (i : Nat) (x : APort) : (s.setAport i x).groups = s.groups := rfl
@[simp] theorem State.setAport_links (s : State) (i : Nat) (x : APort) : (s.setAport i x).links = s.links := rfl
@[simp] theorem State.setAport_reasms (s : State) (i : Nat) (x : APort) : (s.setAport i x).reasms = s.reasms := rfl
@[simp] theorem State.setAport_mgmtIn (s : State) (i : Nat) (x : APort) : (s.setAport i x).mgmtIn = s.mgmtIn := rfl
@[simp] theorem State.setAport_lateTags (s : State) (i : Nat) (x : APort) : (s.setAport i x).lateTags = s.lateTags := rfl
@[simp] theorem State.setAport_slices (s : State) (i : Nat) (x : APort) : (s.setAport i x).slices = s.slices := rfl
@[simp] theorem State.setAport_sweep (s : State) (i : Nat) (x : APort) : (s.setAport i x).sweep = s.sweep := rfl
@[simp] theorem State.setAport_asyNews (s : State) (i : Nat) (x : APort) : (s.setAport i x).asyNews = s.asyNews := rfl
@[simp] theorem State.setAport_sliceEnded (s : State) (i : Nat) (x : APort) : (s.setAport i x).sliceEnded = s.sliceEnded := rfl
@[simp] theorem State.setAport_load (s : State) (i : Nat) (x : APort) : (s.setAport i x).load = s.load := rfl
@[simp] theorem State.setAport_flash (s : State) (i : Nat) (x : APort) : (s.setAport i x).flash = s.flash := rfl
@[simp] theorem State.setAport_gold (s : State) (i : Nat) (x : APort) : (s.setAport i x).gold = s.gold := rfl
@[simp] theorem State.setAport_cparks (s : State) (i : Nat) (x : APort) : (s.setAport i x).cparks = s.cparks := rfl
@[simp] theorem State.setAport_crcs (s : State) (i : Nat) (x : APort) : (s.setAport i x).crcs = s.crcs := rfl
@[simp] theorem State.setAport_loadEnded (s : State) (i : Nat) (x : APort) : (s.setAport i x).loadEnded = s.loadEnded := rfl
@[simp] theorem State.setAport_imgHash (s : State) (i : Nat) (x : APort) : (s.setAport i x).imgHash = s.imgHash := rfl
@[simp] theorem State.setAport_rimgs (s : State) (i : Nat) (x : APort) : (s.setAport i x).rimgs = s.rimgs := rfl
@[simp] theorem State.setAport_staged (s : State) (i : Nat) (x : APort) : (s.setAport i x).staged = s.staged := rfl
@[simp] theorem State.setAport_loadAsked (s : State) (i : Nat) (x : APort) : (s.setAport i x).loadAsked = s.loadAsked := rfl
@[simp] theorem State.setAport_toldFaults (s : State) (i : Nat) (x : APort) : (s.setAport i x).toldFaults = s.toldFaults := rfl
@[simp] theorem State.setAport_kslots (s : State) (i : Nat) (x : APort) : (s.setAport i x).kslots = s.kslots := rfl
@[simp] theorem State.setAport_oslots (s : State) (i : Nat) (x : APort) : (s.setAport i x).oslots = s.oslots := rfl
@[simp] theorem State.setAport_kcmd (s : State) (i : Nat) (x : APort) : (s.setAport i x).kcmd = s.kcmd := rfl
@[simp] theorem State.setAport_cutSlots (s : State) (i : Nat) (x : APort) : (s.setAport i x).cutSlots = s.cutSlots := rfl
@[simp] theorem State.setAport_tkrev (s : State) (i : Nat) (x : APort) : (s.setAport i x).tkrev = s.tkrev := rfl
@[simp] theorem State.setAport_fwsvn (s : State) (i : Nat) (x : APort) : (s.setAport i x).fwsvn = s.fwsvn := rfl
@[simp] theorem State.setAport_fw (s : State) (i : Nat) (x : APort) : (s.setAport i x).fw = s.fw := rfl
@[simp] theorem State.setAport_recovery (s : State) (i : Nat) (x : APort) : (s.setAport i x).recovery = s.recovery := rfl
@[simp] theorem State.setAport_reports (s : State) (i : Nat) (x : APort) : (s.setAport i x).reports = s.reports := rfl
@[simp] theorem State.setAport_signed (s : State) (i : Nat) (x : APort) : (s.setAport i x).signed = s.signed := rfl
@[simp] theorem State.setAport_attests (s : State) (i : Nat) (x : APort) : (s.setAport i x).attests = s.attests := rfl
@[simp] theorem State.setAport_uarts (s : State) (i : Nat) (x : APort) : (s.setAport i x).uarts = s.uarts := rfl
@[simp] theorem State.setAport_spi (s : State) (i : Nat) (x : APort) : (s.setAport i x).spi = s.spi := rfl
@[simp] theorem State.setAport_i2cs (s : State) (i : Nat) (x : APort) : (s.setAport i x).i2cs = s.i2cs := rfl
@[simp] theorem State.setAport_cores (s : State) (i : Nat) (x : APort) : (s.setAport i x).cores = s.cores := rfl
@[simp] theorem State.setAport_wdgs (s : State) (i : Nat) (x : APort) : (s.setAport i x).wdgs = s.wdgs := rfl
@[simp] theorem State.setAport_gexts (s : State) (i : Nat) (x : APort) : (s.setAport i x).gexts = s.gexts := rfl
@[simp] theorem State.setAport_gkeeps (s : State) (i : Nat) (x : APort) : (s.setAport i x).gkeeps = s.gkeeps := rfl
@[simp] theorem State.setAport_glines (s : State) (i : Nat) (x : APort) : (s.setAport i x).glines = s.glines := rfl
@[simp] theorem State.setAport_gheld (s : State) (i : Nat) (x : APort) : (s.setAport i x).gheld = s.gheld := rfl
@[simp] theorem State.setAport_cmpNews (s : State) (i : Nat) (x : APort) : (s.setAport i x).cmpNews = s.cmpNews := rfl
@[simp] theorem State.setAport_ptpNews (s : State) (i : Nat) (x : APort) : (s.setAport i x).ptpNews = s.ptpNews := rfl
@[simp] theorem State.setAport_ptpStamp (s : State) (i : Nat) (x : APort) : (s.setAport i x).ptpStamp = s.ptpStamp := rfl
@[simp] theorem State.setAport_ppsAt (s : State) (i : Nat) (x : APort) : (s.setAport i x).ppsAt = s.ppsAt := rfl
@[simp] theorem State.setAport_mem (s : State) (i : Nat) (x : APort) : (s.setAport i x).mem = s.mem := rfl
@[simp] theorem State.setAport_memEpoch (s : State) (i : Nat) (x : APort) : (s.setAport i x).memEpoch = s.memEpoch := rfl
@[simp] theorem State.setAport_ix (s : State) (i : Nat) (x : APort) : (s.setAport i x).ix = s.ix := rfl
@[simp] theorem State.setAport_ixOut (s : State) (i : Nat) (x : APort) : (s.setAport i x).ixOut = s.ixOut := rfl
@[simp] theorem State.setAport_doms (s : State) (i : Nat) (x : APort) : (s.setAport i x).doms = s.doms := rfl
@[simp] theorem State.setAport_epoch (s : State) (i : Nat) (x : APort) : (s.setAport i x).epoch = s.epoch := rfl
@[simp] theorem State.setAport_ups (s : State) (i : Nat) (x : APort) : (s.setAport i x).ups = s.ups := rfl
@[simp] theorem State.setAport_dns (s : State) (i : Nat) (x : APort) : (s.setAport i x).dns = s.dns := rfl
@[simp] theorem State.setAport_probes (s : State) (i : Nat) (x : APort) : (s.setAport i x).probes = s.probes := rfl
@[simp] theorem State.setAport_tapIr (s : State) (i : Nat) (x : APort) : (s.setAport i x).tapIr = s.tapIr := rfl
@[simp] theorem State.setAport_bscan (s : State) (i : Nat) (x : APort) : (s.setAport i x).bscan = s.bscan := rfl
@[simp] theorem State.setAport_dbgAcc (s : State) (i : Nat) (x : APort) : (s.setAport i x).dbgAcc = s.dbgAcc := rfl
@[simp] theorem State.setAport_dbgStatus (s : State) (i : Nat) (x : APort) : (s.setAport i x).dbgStatus = s.dbgStatus := rfl
@[simp] theorem State.setAport_dbgP (s : State) (i : Nat) (x : APort) : (s.setAport i x).dbgP = s.dbgP := rfl
@[simp] theorem State.setAport_dbgData (s : State) (i : Nat) (x : APort) : (s.setAport i x).dbgData = s.dbgData := rfl
@[simp] theorem State.setAport_bcap (s : State) (i : Nat) (x : APort) : (s.setAport i x).bcap = s.bcap := rfl
@[simp] theorem State.setAport_vin (s : State) (i : Nat) (x : APort) : (s.setAport i x).vin = s.vin := rfl
@[simp] theorem State.setAport_vbat (s : State) (i : Nat) (x : APort) : (s.setAport i x).vbat = s.vbat := rfl
@[simp] theorem State.setAport_bbGone (s : State) (i : Nat) (x : APort) : (s.setAport i x).bbGone = s.bbGone := rfl
@[simp] theorem State.setAport_hot (s : State) (i : Nat) (x : APort) : (s.setAport i x).hot = s.hot := rfl
@[simp] theorem State.setAport_bootDue (s : State) (i : Nat) (x : APort) : (s.setAport i x).bootDue = s.bootDue := rfl

@[simp] theorem State.setBline_blines (s : State) (i : Nat) (x : BLine) : (s.setBline i x).blines = Store.put {} s.blines i x := rfl
@[simp] theorem State.bline_setBline_same (s : State) (i : Nat) (x : BLine) : (s.setBline i x).bline i = x := Store.get_put_same _ _ _ _
theorem State.bline_setBline_ne (s : State) (i j : Nat) (x : BLine) (h : j ≠ i) : (s.setBline i x).bline j = s.bline j := Store.get_put_ne _ _ _ h
@[simp] theorem State.setBline_pending (s : State) (i : Nat) (x : BLine) : (s.setBline i x).pending = s.pending := rfl
@[simp] theorem State.setBline_free (s : State) (i : Nat) (x : BLine) : (s.setBline i x).free = s.free := rfl
@[simp] theorem State.setBline_time (s : State) (i : Nat) (x : BLine) : (s.setBline i x).time = s.time := rfl
@[simp] theorem State.setBline_regs (s : State) (i : Nat) (x : BLine) : (s.setBline i x).regs = s.regs := rfl
@[simp] theorem State.setBline_rdata (s : State) (i : Nat) (x : BLine) : (s.setBline i x).rdata = s.rdata := rfl
@[simp] theorem State.setBline_tports (s : State) (i : Nat) (x : BLine) : (s.setBline i x).tports = s.tports := rfl
@[simp] theorem State.setBline_tlines (s : State) (i : Nat) (x : BLine) : (s.setBline i x).tlines = s.tlines := rfl
@[simp] theorem State.setBline_ptp (s : State) (i : Nat) (x : BLine) : (s.setBline i x).ptp = s.ptp := rfl
@[simp] theorem State.setBline_ptpGo (s : State) (i : Nat) (x : BLine) : (s.setBline i x).ptpGo = s.ptpGo := rfl
@[simp] theorem State.setBline_ptpMark (s : State) (i : Nat) (x : BLine) : (s.setBline i x).ptpMark = s.ptpMark := rfl
@[simp] theorem State.setBline_calReq (s : State) (i : Nat) (x : BLine) : (s.setBline i x).calReq = s.calReq := rfl
@[simp] theorem State.setBline_interval (s : State) (i : Nat) (x : BLine) : (s.setBline i x).interval = s.interval := rfl
@[simp] theorem State.setBline_frames (s : State) (i : Nat) (x : BLine) : (s.setBline i x).frames = s.frames := rfl
@[simp] theorem State.setBline_spine (s : State) (i : Nat) (x : BLine) : (s.setBline i x).spine = s.spine := rfl
@[simp] theorem State.setBline_cells (s : State) (i : Nat) (x : BLine) : (s.setBline i x).cells = s.cells := rfl
@[simp] theorem State.setBline_regions (s : State) (i : Nat) (x : BLine) : (s.setBline i x).regions = s.regions := rfl
@[simp] theorem State.setBline_clus (s : State) (i : Nat) (x : BLine) : (s.setBline i x).clus = s.clus := rfl
@[simp] theorem State.setBline_cfg (s : State) (i : Nat) (x : BLine) : (s.setBline i x).cfg = s.cfg := rfl
@[simp] theorem State.setBline_chans (s : State) (i : Nat) (x : BLine) : (s.setBline i x).chans = s.chans := rfl
@[simp] theorem State.setBline_aports (s : State) (i : Nat) (x : BLine) : (s.setBline i x).aports = s.aports := rfl
@[simp] theorem State.setBline_bsrcs (s : State) (i : Nat) (x : BLine) : (s.setBline i x).bsrcs = s.bsrcs := rfl
@[simp] theorem State.setBline_bports (s : State) (i : Nat) (x : BLine) : (s.setBline i x).bports = s.bports := rfl
@[simp] theorem State.setBline_twins (s : State) (i : Nat) (x : BLine) : (s.setBline i x).twins = s.twins := rfl
@[simp] theorem State.setBline_lanes (s : State) (i : Nat) (x : BLine) : (s.setBline i x).lanes = s.lanes := rfl
@[simp] theorem State.setBline_flights (s : State) (i : Nat) (x : BLine) : (s.setBline i x).flights = s.flights := rfl
@[simp] theorem State.setBline_nextId (s : State) (i : Nat) (x : BLine) : (s.setBline i x).nextId = s.nextId := rfl
@[simp] theorem State.setBline_pairs (s : State) (i : Nat) (x : BLine) : (s.setBline i x).pairs = s.pairs := rfl
@[simp] theorem State.setBline_codePend (s : State) (i : Nat) (x : BLine) : (s.setBline i x).codePend = s.codePend := rfl
@[simp] theorem State.setBline_spareQ (s : State) (i : Nat) (x : BLine) : (s.setBline i x).spareQ = s.spareQ := rfl
@[simp] theorem State.setBline_swapWant (s : State) (i : Nat) (x : BLine) : (s.setBline i x).swapWant = s.swapWant := rfl
@[simp] theorem State.setBline_bmems (s : State) (i : Nat) (x : BLine) : (s.setBline i x).bmems = s.bmems := rfl
@[simp] theorem State.setBline_bbytes (s : State) (i : Nat) (x : BLine) : (s.setBline i x).bbytes = s.bbytes := rfl
@[simp] theorem State.setBline_banks (s : State) (i : Nat) (x : BLine) : (s.setBline i x).banks = s.banks := rfl
@[simp] theorem State.setBline_swords (s : State) (i : Nat) (x : BLine) : (s.setBline i x).swords = s.swords := rfl
@[simp] theorem State.setBline_hops (s : State) (i : Nat) (x : BLine) : (s.setBline i x).hops = s.hops := rfl
@[simp] theorem State.setBline_pins (s : State) (i : Nat) (x : BLine) : (s.setBline i x).pins = s.pins := rfl
@[simp] theorem State.setBline_spinePrevs (s : State) (i : Nat) (x : BLine) : (s.setBline i x).spinePrevs = s.spinePrevs := rfl
@[simp] theorem State.setBline_pads (s : State) (i : Nat) (x : BLine) : (s.setBline i x).pads = s.pads := rfl
@[simp] theorem State.setBline_groups (s : State) (i : Nat) (x : BLine) : (s.setBline i x).groups = s.groups := rfl
@[simp] theorem State.setBline_links (s : State) (i : Nat) (x : BLine) : (s.setBline i x).links = s.links := rfl
@[simp] theorem State.setBline_reasms (s : State) (i : Nat) (x : BLine) : (s.setBline i x).reasms = s.reasms := rfl
@[simp] theorem State.setBline_mgmtIn (s : State) (i : Nat) (x : BLine) : (s.setBline i x).mgmtIn = s.mgmtIn := rfl
@[simp] theorem State.setBline_lateTags (s : State) (i : Nat) (x : BLine) : (s.setBline i x).lateTags = s.lateTags := rfl
@[simp] theorem State.setBline_slices (s : State) (i : Nat) (x : BLine) : (s.setBline i x).slices = s.slices := rfl
@[simp] theorem State.setBline_sweep (s : State) (i : Nat) (x : BLine) : (s.setBline i x).sweep = s.sweep := rfl
@[simp] theorem State.setBline_asyNews (s : State) (i : Nat) (x : BLine) : (s.setBline i x).asyNews = s.asyNews := rfl
@[simp] theorem State.setBline_sliceEnded (s : State) (i : Nat) (x : BLine) : (s.setBline i x).sliceEnded = s.sliceEnded := rfl
@[simp] theorem State.setBline_load (s : State) (i : Nat) (x : BLine) : (s.setBline i x).load = s.load := rfl
@[simp] theorem State.setBline_flash (s : State) (i : Nat) (x : BLine) : (s.setBline i x).flash = s.flash := rfl
@[simp] theorem State.setBline_gold (s : State) (i : Nat) (x : BLine) : (s.setBline i x).gold = s.gold := rfl
@[simp] theorem State.setBline_cparks (s : State) (i : Nat) (x : BLine) : (s.setBline i x).cparks = s.cparks := rfl
@[simp] theorem State.setBline_crcs (s : State) (i : Nat) (x : BLine) : (s.setBline i x).crcs = s.crcs := rfl
@[simp] theorem State.setBline_loadEnded (s : State) (i : Nat) (x : BLine) : (s.setBline i x).loadEnded = s.loadEnded := rfl
@[simp] theorem State.setBline_imgHash (s : State) (i : Nat) (x : BLine) : (s.setBline i x).imgHash = s.imgHash := rfl
@[simp] theorem State.setBline_rimgs (s : State) (i : Nat) (x : BLine) : (s.setBline i x).rimgs = s.rimgs := rfl
@[simp] theorem State.setBline_staged (s : State) (i : Nat) (x : BLine) : (s.setBline i x).staged = s.staged := rfl
@[simp] theorem State.setBline_loadAsked (s : State) (i : Nat) (x : BLine) : (s.setBline i x).loadAsked = s.loadAsked := rfl
@[simp] theorem State.setBline_toldFaults (s : State) (i : Nat) (x : BLine) : (s.setBline i x).toldFaults = s.toldFaults := rfl
@[simp] theorem State.setBline_kslots (s : State) (i : Nat) (x : BLine) : (s.setBline i x).kslots = s.kslots := rfl
@[simp] theorem State.setBline_oslots (s : State) (i : Nat) (x : BLine) : (s.setBline i x).oslots = s.oslots := rfl
@[simp] theorem State.setBline_kcmd (s : State) (i : Nat) (x : BLine) : (s.setBline i x).kcmd = s.kcmd := rfl
@[simp] theorem State.setBline_cutSlots (s : State) (i : Nat) (x : BLine) : (s.setBline i x).cutSlots = s.cutSlots := rfl
@[simp] theorem State.setBline_tkrev (s : State) (i : Nat) (x : BLine) : (s.setBline i x).tkrev = s.tkrev := rfl
@[simp] theorem State.setBline_fwsvn (s : State) (i : Nat) (x : BLine) : (s.setBline i x).fwsvn = s.fwsvn := rfl
@[simp] theorem State.setBline_fw (s : State) (i : Nat) (x : BLine) : (s.setBline i x).fw = s.fw := rfl
@[simp] theorem State.setBline_recovery (s : State) (i : Nat) (x : BLine) : (s.setBline i x).recovery = s.recovery := rfl
@[simp] theorem State.setBline_reports (s : State) (i : Nat) (x : BLine) : (s.setBline i x).reports = s.reports := rfl
@[simp] theorem State.setBline_signed (s : State) (i : Nat) (x : BLine) : (s.setBline i x).signed = s.signed := rfl
@[simp] theorem State.setBline_attests (s : State) (i : Nat) (x : BLine) : (s.setBline i x).attests = s.attests := rfl
@[simp] theorem State.setBline_uarts (s : State) (i : Nat) (x : BLine) : (s.setBline i x).uarts = s.uarts := rfl
@[simp] theorem State.setBline_spi (s : State) (i : Nat) (x : BLine) : (s.setBline i x).spi = s.spi := rfl
@[simp] theorem State.setBline_i2cs (s : State) (i : Nat) (x : BLine) : (s.setBline i x).i2cs = s.i2cs := rfl
@[simp] theorem State.setBline_cores (s : State) (i : Nat) (x : BLine) : (s.setBline i x).cores = s.cores := rfl
@[simp] theorem State.setBline_wdgs (s : State) (i : Nat) (x : BLine) : (s.setBline i x).wdgs = s.wdgs := rfl
@[simp] theorem State.setBline_gexts (s : State) (i : Nat) (x : BLine) : (s.setBline i x).gexts = s.gexts := rfl
@[simp] theorem State.setBline_gkeeps (s : State) (i : Nat) (x : BLine) : (s.setBline i x).gkeeps = s.gkeeps := rfl
@[simp] theorem State.setBline_glines (s : State) (i : Nat) (x : BLine) : (s.setBline i x).glines = s.glines := rfl
@[simp] theorem State.setBline_gheld (s : State) (i : Nat) (x : BLine) : (s.setBline i x).gheld = s.gheld := rfl
@[simp] theorem State.setBline_cmpNews (s : State) (i : Nat) (x : BLine) : (s.setBline i x).cmpNews = s.cmpNews := rfl
@[simp] theorem State.setBline_ptpNews (s : State) (i : Nat) (x : BLine) : (s.setBline i x).ptpNews = s.ptpNews := rfl
@[simp] theorem State.setBline_ptpStamp (s : State) (i : Nat) (x : BLine) : (s.setBline i x).ptpStamp = s.ptpStamp := rfl
@[simp] theorem State.setBline_ppsAt (s : State) (i : Nat) (x : BLine) : (s.setBline i x).ppsAt = s.ppsAt := rfl
@[simp] theorem State.setBline_mem (s : State) (i : Nat) (x : BLine) : (s.setBline i x).mem = s.mem := rfl
@[simp] theorem State.setBline_memEpoch (s : State) (i : Nat) (x : BLine) : (s.setBline i x).memEpoch = s.memEpoch := rfl
@[simp] theorem State.setBline_ix (s : State) (i : Nat) (x : BLine) : (s.setBline i x).ix = s.ix := rfl
@[simp] theorem State.setBline_ixOut (s : State) (i : Nat) (x : BLine) : (s.setBline i x).ixOut = s.ixOut := rfl
@[simp] theorem State.setBline_doms (s : State) (i : Nat) (x : BLine) : (s.setBline i x).doms = s.doms := rfl
@[simp] theorem State.setBline_epoch (s : State) (i : Nat) (x : BLine) : (s.setBline i x).epoch = s.epoch := rfl
@[simp] theorem State.setBline_ups (s : State) (i : Nat) (x : BLine) : (s.setBline i x).ups = s.ups := rfl
@[simp] theorem State.setBline_dns (s : State) (i : Nat) (x : BLine) : (s.setBline i x).dns = s.dns := rfl
@[simp] theorem State.setBline_probes (s : State) (i : Nat) (x : BLine) : (s.setBline i x).probes = s.probes := rfl
@[simp] theorem State.setBline_tapIr (s : State) (i : Nat) (x : BLine) : (s.setBline i x).tapIr = s.tapIr := rfl
@[simp] theorem State.setBline_bscan (s : State) (i : Nat) (x : BLine) : (s.setBline i x).bscan = s.bscan := rfl
@[simp] theorem State.setBline_dbgAcc (s : State) (i : Nat) (x : BLine) : (s.setBline i x).dbgAcc = s.dbgAcc := rfl
@[simp] theorem State.setBline_dbgStatus (s : State) (i : Nat) (x : BLine) : (s.setBline i x).dbgStatus = s.dbgStatus := rfl
@[simp] theorem State.setBline_dbgP (s : State) (i : Nat) (x : BLine) : (s.setBline i x).dbgP = s.dbgP := rfl
@[simp] theorem State.setBline_dbgData (s : State) (i : Nat) (x : BLine) : (s.setBline i x).dbgData = s.dbgData := rfl
@[simp] theorem State.setBline_bcap (s : State) (i : Nat) (x : BLine) : (s.setBline i x).bcap = s.bcap := rfl
@[simp] theorem State.setBline_vin (s : State) (i : Nat) (x : BLine) : (s.setBline i x).vin = s.vin := rfl
@[simp] theorem State.setBline_vbat (s : State) (i : Nat) (x : BLine) : (s.setBline i x).vbat = s.vbat := rfl
@[simp] theorem State.setBline_bbGone (s : State) (i : Nat) (x : BLine) : (s.setBline i x).bbGone = s.bbGone := rfl
@[simp] theorem State.setBline_hot (s : State) (i : Nat) (x : BLine) : (s.setBline i x).hot = s.hot := rfl
@[simp] theorem State.setBline_bootDue (s : State) (i : Nat) (x : BLine) : (s.setBline i x).bootDue = s.bootDue := rfl

@[simp] theorem State.setBsrc_bsrcs (s : State) (i : Nat) (x : Option Tok) : (s.setBsrc i x).bsrcs = Store.put none s.bsrcs i x := rfl
@[simp] theorem State.bsrc_setBsrc_same (s : State) (i : Nat) (x : Option Tok) : (s.setBsrc i x).bsrc i = x := Store.get_put_same _ _ _ _
theorem State.bsrc_setBsrc_ne (s : State) (i j : Nat) (x : Option Tok) (h : j ≠ i) : (s.setBsrc i x).bsrc j = s.bsrc j := Store.get_put_ne _ _ _ h
@[simp] theorem State.setBsrc_pending (s : State) (i : Nat) (x : Option Tok) : (s.setBsrc i x).pending = s.pending := rfl
@[simp] theorem State.setBsrc_free (s : State) (i : Nat) (x : Option Tok) : (s.setBsrc i x).free = s.free := rfl
@[simp] theorem State.setBsrc_time (s : State) (i : Nat) (x : Option Tok) : (s.setBsrc i x).time = s.time := rfl
@[simp] theorem State.setBsrc_regs (s : State) (i : Nat) (x : Option Tok) : (s.setBsrc i x).regs = s.regs := rfl
@[simp] theorem State.setBsrc_rdata (s : State) (i : Nat) (x : Option Tok) : (s.setBsrc i x).rdata = s.rdata := rfl
@[simp] theorem State.setBsrc_tports (s : State) (i : Nat) (x : Option Tok) : (s.setBsrc i x).tports = s.tports := rfl
@[simp] theorem State.setBsrc_tlines (s : State) (i : Nat) (x : Option Tok) : (s.setBsrc i x).tlines = s.tlines := rfl
@[simp] theorem State.setBsrc_ptp (s : State) (i : Nat) (x : Option Tok) : (s.setBsrc i x).ptp = s.ptp := rfl
@[simp] theorem State.setBsrc_ptpGo (s : State) (i : Nat) (x : Option Tok) : (s.setBsrc i x).ptpGo = s.ptpGo := rfl
@[simp] theorem State.setBsrc_ptpMark (s : State) (i : Nat) (x : Option Tok) : (s.setBsrc i x).ptpMark = s.ptpMark := rfl
@[simp] theorem State.setBsrc_calReq (s : State) (i : Nat) (x : Option Tok) : (s.setBsrc i x).calReq = s.calReq := rfl
@[simp] theorem State.setBsrc_interval (s : State) (i : Nat) (x : Option Tok) : (s.setBsrc i x).interval = s.interval := rfl
@[simp] theorem State.setBsrc_frames (s : State) (i : Nat) (x : Option Tok) : (s.setBsrc i x).frames = s.frames := rfl
@[simp] theorem State.setBsrc_spine (s : State) (i : Nat) (x : Option Tok) : (s.setBsrc i x).spine = s.spine := rfl
@[simp] theorem State.setBsrc_cells (s : State) (i : Nat) (x : Option Tok) : (s.setBsrc i x).cells = s.cells := rfl
@[simp] theorem State.setBsrc_regions (s : State) (i : Nat) (x : Option Tok) : (s.setBsrc i x).regions = s.regions := rfl
@[simp] theorem State.setBsrc_clus (s : State) (i : Nat) (x : Option Tok) : (s.setBsrc i x).clus = s.clus := rfl
@[simp] theorem State.setBsrc_cfg (s : State) (i : Nat) (x : Option Tok) : (s.setBsrc i x).cfg = s.cfg := rfl
@[simp] theorem State.setBsrc_chans (s : State) (i : Nat) (x : Option Tok) : (s.setBsrc i x).chans = s.chans := rfl
@[simp] theorem State.setBsrc_aports (s : State) (i : Nat) (x : Option Tok) : (s.setBsrc i x).aports = s.aports := rfl
@[simp] theorem State.setBsrc_blines (s : State) (i : Nat) (x : Option Tok) : (s.setBsrc i x).blines = s.blines := rfl
@[simp] theorem State.setBsrc_bports (s : State) (i : Nat) (x : Option Tok) : (s.setBsrc i x).bports = s.bports := rfl
@[simp] theorem State.setBsrc_twins (s : State) (i : Nat) (x : Option Tok) : (s.setBsrc i x).twins = s.twins := rfl
@[simp] theorem State.setBsrc_lanes (s : State) (i : Nat) (x : Option Tok) : (s.setBsrc i x).lanes = s.lanes := rfl
@[simp] theorem State.setBsrc_flights (s : State) (i : Nat) (x : Option Tok) : (s.setBsrc i x).flights = s.flights := rfl
@[simp] theorem State.setBsrc_nextId (s : State) (i : Nat) (x : Option Tok) : (s.setBsrc i x).nextId = s.nextId := rfl
@[simp] theorem State.setBsrc_pairs (s : State) (i : Nat) (x : Option Tok) : (s.setBsrc i x).pairs = s.pairs := rfl
@[simp] theorem State.setBsrc_codePend (s : State) (i : Nat) (x : Option Tok) : (s.setBsrc i x).codePend = s.codePend := rfl
@[simp] theorem State.setBsrc_spareQ (s : State) (i : Nat) (x : Option Tok) : (s.setBsrc i x).spareQ = s.spareQ := rfl
@[simp] theorem State.setBsrc_swapWant (s : State) (i : Nat) (x : Option Tok) : (s.setBsrc i x).swapWant = s.swapWant := rfl
@[simp] theorem State.setBsrc_bmems (s : State) (i : Nat) (x : Option Tok) : (s.setBsrc i x).bmems = s.bmems := rfl
@[simp] theorem State.setBsrc_bbytes (s : State) (i : Nat) (x : Option Tok) : (s.setBsrc i x).bbytes = s.bbytes := rfl
@[simp] theorem State.setBsrc_banks (s : State) (i : Nat) (x : Option Tok) : (s.setBsrc i x).banks = s.banks := rfl
@[simp] theorem State.setBsrc_swords (s : State) (i : Nat) (x : Option Tok) : (s.setBsrc i x).swords = s.swords := rfl
@[simp] theorem State.setBsrc_hops (s : State) (i : Nat) (x : Option Tok) : (s.setBsrc i x).hops = s.hops := rfl
@[simp] theorem State.setBsrc_pins (s : State) (i : Nat) (x : Option Tok) : (s.setBsrc i x).pins = s.pins := rfl
@[simp] theorem State.setBsrc_spinePrevs (s : State) (i : Nat) (x : Option Tok) : (s.setBsrc i x).spinePrevs = s.spinePrevs := rfl
@[simp] theorem State.setBsrc_pads (s : State) (i : Nat) (x : Option Tok) : (s.setBsrc i x).pads = s.pads := rfl
@[simp] theorem State.setBsrc_groups (s : State) (i : Nat) (x : Option Tok) : (s.setBsrc i x).groups = s.groups := rfl
@[simp] theorem State.setBsrc_links (s : State) (i : Nat) (x : Option Tok) : (s.setBsrc i x).links = s.links := rfl
@[simp] theorem State.setBsrc_reasms (s : State) (i : Nat) (x : Option Tok) : (s.setBsrc i x).reasms = s.reasms := rfl
@[simp] theorem State.setBsrc_mgmtIn (s : State) (i : Nat) (x : Option Tok) : (s.setBsrc i x).mgmtIn = s.mgmtIn := rfl
@[simp] theorem State.setBsrc_lateTags (s : State) (i : Nat) (x : Option Tok) : (s.setBsrc i x).lateTags = s.lateTags := rfl
@[simp] theorem State.setBsrc_slices (s : State) (i : Nat) (x : Option Tok) : (s.setBsrc i x).slices = s.slices := rfl
@[simp] theorem State.setBsrc_sweep (s : State) (i : Nat) (x : Option Tok) : (s.setBsrc i x).sweep = s.sweep := rfl
@[simp] theorem State.setBsrc_asyNews (s : State) (i : Nat) (x : Option Tok) : (s.setBsrc i x).asyNews = s.asyNews := rfl
@[simp] theorem State.setBsrc_sliceEnded (s : State) (i : Nat) (x : Option Tok) : (s.setBsrc i x).sliceEnded = s.sliceEnded := rfl
@[simp] theorem State.setBsrc_load (s : State) (i : Nat) (x : Option Tok) : (s.setBsrc i x).load = s.load := rfl
@[simp] theorem State.setBsrc_flash (s : State) (i : Nat) (x : Option Tok) : (s.setBsrc i x).flash = s.flash := rfl
@[simp] theorem State.setBsrc_gold (s : State) (i : Nat) (x : Option Tok) : (s.setBsrc i x).gold = s.gold := rfl
@[simp] theorem State.setBsrc_cparks (s : State) (i : Nat) (x : Option Tok) : (s.setBsrc i x).cparks = s.cparks := rfl
@[simp] theorem State.setBsrc_crcs (s : State) (i : Nat) (x : Option Tok) : (s.setBsrc i x).crcs = s.crcs := rfl
@[simp] theorem State.setBsrc_loadEnded (s : State) (i : Nat) (x : Option Tok) : (s.setBsrc i x).loadEnded = s.loadEnded := rfl
@[simp] theorem State.setBsrc_imgHash (s : State) (i : Nat) (x : Option Tok) : (s.setBsrc i x).imgHash = s.imgHash := rfl
@[simp] theorem State.setBsrc_rimgs (s : State) (i : Nat) (x : Option Tok) : (s.setBsrc i x).rimgs = s.rimgs := rfl
@[simp] theorem State.setBsrc_staged (s : State) (i : Nat) (x : Option Tok) : (s.setBsrc i x).staged = s.staged := rfl
@[simp] theorem State.setBsrc_loadAsked (s : State) (i : Nat) (x : Option Tok) : (s.setBsrc i x).loadAsked = s.loadAsked := rfl
@[simp] theorem State.setBsrc_toldFaults (s : State) (i : Nat) (x : Option Tok) : (s.setBsrc i x).toldFaults = s.toldFaults := rfl
@[simp] theorem State.setBsrc_kslots (s : State) (i : Nat) (x : Option Tok) : (s.setBsrc i x).kslots = s.kslots := rfl
@[simp] theorem State.setBsrc_oslots (s : State) (i : Nat) (x : Option Tok) : (s.setBsrc i x).oslots = s.oslots := rfl
@[simp] theorem State.setBsrc_kcmd (s : State) (i : Nat) (x : Option Tok) : (s.setBsrc i x).kcmd = s.kcmd := rfl
@[simp] theorem State.setBsrc_cutSlots (s : State) (i : Nat) (x : Option Tok) : (s.setBsrc i x).cutSlots = s.cutSlots := rfl
@[simp] theorem State.setBsrc_tkrev (s : State) (i : Nat) (x : Option Tok) : (s.setBsrc i x).tkrev = s.tkrev := rfl
@[simp] theorem State.setBsrc_fwsvn (s : State) (i : Nat) (x : Option Tok) : (s.setBsrc i x).fwsvn = s.fwsvn := rfl
@[simp] theorem State.setBsrc_fw (s : State) (i : Nat) (x : Option Tok) : (s.setBsrc i x).fw = s.fw := rfl
@[simp] theorem State.setBsrc_recovery (s : State) (i : Nat) (x : Option Tok) : (s.setBsrc i x).recovery = s.recovery := rfl
@[simp] theorem State.setBsrc_reports (s : State) (i : Nat) (x : Option Tok) : (s.setBsrc i x).reports = s.reports := rfl
@[simp] theorem State.setBsrc_signed (s : State) (i : Nat) (x : Option Tok) : (s.setBsrc i x).signed = s.signed := rfl
@[simp] theorem State.setBsrc_attests (s : State) (i : Nat) (x : Option Tok) : (s.setBsrc i x).attests = s.attests := rfl
@[simp] theorem State.setBsrc_uarts (s : State) (i : Nat) (x : Option Tok) : (s.setBsrc i x).uarts = s.uarts := rfl
@[simp] theorem State.setBsrc_spi (s : State) (i : Nat) (x : Option Tok) : (s.setBsrc i x).spi = s.spi := rfl
@[simp] theorem State.setBsrc_i2cs (s : State) (i : Nat) (x : Option Tok) : (s.setBsrc i x).i2cs = s.i2cs := rfl
@[simp] theorem State.setBsrc_cores (s : State) (i : Nat) (x : Option Tok) : (s.setBsrc i x).cores = s.cores := rfl
@[simp] theorem State.setBsrc_wdgs (s : State) (i : Nat) (x : Option Tok) : (s.setBsrc i x).wdgs = s.wdgs := rfl
@[simp] theorem State.setBsrc_gexts (s : State) (i : Nat) (x : Option Tok) : (s.setBsrc i x).gexts = s.gexts := rfl
@[simp] theorem State.setBsrc_gkeeps (s : State) (i : Nat) (x : Option Tok) : (s.setBsrc i x).gkeeps = s.gkeeps := rfl
@[simp] theorem State.setBsrc_glines (s : State) (i : Nat) (x : Option Tok) : (s.setBsrc i x).glines = s.glines := rfl
@[simp] theorem State.setBsrc_gheld (s : State) (i : Nat) (x : Option Tok) : (s.setBsrc i x).gheld = s.gheld := rfl
@[simp] theorem State.setBsrc_cmpNews (s : State) (i : Nat) (x : Option Tok) : (s.setBsrc i x).cmpNews = s.cmpNews := rfl
@[simp] theorem State.setBsrc_ptpNews (s : State) (i : Nat) (x : Option Tok) : (s.setBsrc i x).ptpNews = s.ptpNews := rfl
@[simp] theorem State.setBsrc_ptpStamp (s : State) (i : Nat) (x : Option Tok) : (s.setBsrc i x).ptpStamp = s.ptpStamp := rfl
@[simp] theorem State.setBsrc_ppsAt (s : State) (i : Nat) (x : Option Tok) : (s.setBsrc i x).ppsAt = s.ppsAt := rfl
@[simp] theorem State.setBsrc_mem (s : State) (i : Nat) (x : Option Tok) : (s.setBsrc i x).mem = s.mem := rfl
@[simp] theorem State.setBsrc_memEpoch (s : State) (i : Nat) (x : Option Tok) : (s.setBsrc i x).memEpoch = s.memEpoch := rfl
@[simp] theorem State.setBsrc_ix (s : State) (i : Nat) (x : Option Tok) : (s.setBsrc i x).ix = s.ix := rfl
@[simp] theorem State.setBsrc_ixOut (s : State) (i : Nat) (x : Option Tok) : (s.setBsrc i x).ixOut = s.ixOut := rfl
@[simp] theorem State.setBsrc_doms (s : State) (i : Nat) (x : Option Tok) : (s.setBsrc i x).doms = s.doms := rfl
@[simp] theorem State.setBsrc_epoch (s : State) (i : Nat) (x : Option Tok) : (s.setBsrc i x).epoch = s.epoch := rfl
@[simp] theorem State.setBsrc_ups (s : State) (i : Nat) (x : Option Tok) : (s.setBsrc i x).ups = s.ups := rfl
@[simp] theorem State.setBsrc_dns (s : State) (i : Nat) (x : Option Tok) : (s.setBsrc i x).dns = s.dns := rfl
@[simp] theorem State.setBsrc_probes (s : State) (i : Nat) (x : Option Tok) : (s.setBsrc i x).probes = s.probes := rfl
@[simp] theorem State.setBsrc_tapIr (s : State) (i : Nat) (x : Option Tok) : (s.setBsrc i x).tapIr = s.tapIr := rfl
@[simp] theorem State.setBsrc_bscan (s : State) (i : Nat) (x : Option Tok) : (s.setBsrc i x).bscan = s.bscan := rfl
@[simp] theorem State.setBsrc_dbgAcc (s : State) (i : Nat) (x : Option Tok) : (s.setBsrc i x).dbgAcc = s.dbgAcc := rfl
@[simp] theorem State.setBsrc_dbgStatus (s : State) (i : Nat) (x : Option Tok) : (s.setBsrc i x).dbgStatus = s.dbgStatus := rfl
@[simp] theorem State.setBsrc_dbgP (s : State) (i : Nat) (x : Option Tok) : (s.setBsrc i x).dbgP = s.dbgP := rfl
@[simp] theorem State.setBsrc_dbgData (s : State) (i : Nat) (x : Option Tok) : (s.setBsrc i x).dbgData = s.dbgData := rfl
@[simp] theorem State.setBsrc_bcap (s : State) (i : Nat) (x : Option Tok) : (s.setBsrc i x).bcap = s.bcap := rfl
@[simp] theorem State.setBsrc_vin (s : State) (i : Nat) (x : Option Tok) : (s.setBsrc i x).vin = s.vin := rfl
@[simp] theorem State.setBsrc_vbat (s : State) (i : Nat) (x : Option Tok) : (s.setBsrc i x).vbat = s.vbat := rfl
@[simp] theorem State.setBsrc_bbGone (s : State) (i : Nat) (x : Option Tok) : (s.setBsrc i x).bbGone = s.bbGone := rfl
@[simp] theorem State.setBsrc_hot (s : State) (i : Nat) (x : Option Tok) : (s.setBsrc i x).hot = s.hot := rfl
@[simp] theorem State.setBsrc_bootDue (s : State) (i : Nat) (x : Option Tok) : (s.setBsrc i x).bootDue = s.bootDue := rfl

@[simp] theorem State.setBport_bports (s : State) (i : Nat) (x : BPort) : (s.setBport i x).bports = Store.put {} s.bports i x := rfl
@[simp] theorem State.bport_setBport_same (s : State) (i : Nat) (x : BPort) : (s.setBport i x).bport i = x := Store.get_put_same _ _ _ _
theorem State.bport_setBport_ne (s : State) (i j : Nat) (x : BPort) (h : j ≠ i) : (s.setBport i x).bport j = s.bport j := Store.get_put_ne _ _ _ h
@[simp] theorem State.setBport_pending (s : State) (i : Nat) (x : BPort) : (s.setBport i x).pending = s.pending := rfl
@[simp] theorem State.setBport_free (s : State) (i : Nat) (x : BPort) : (s.setBport i x).free = s.free := rfl
@[simp] theorem State.setBport_time (s : State) (i : Nat) (x : BPort) : (s.setBport i x).time = s.time := rfl
@[simp] theorem State.setBport_regs (s : State) (i : Nat) (x : BPort) : (s.setBport i x).regs = s.regs := rfl
@[simp] theorem State.setBport_rdata (s : State) (i : Nat) (x : BPort) : (s.setBport i x).rdata = s.rdata := rfl
@[simp] theorem State.setBport_tports (s : State) (i : Nat) (x : BPort) : (s.setBport i x).tports = s.tports := rfl
@[simp] theorem State.setBport_tlines (s : State) (i : Nat) (x : BPort) : (s.setBport i x).tlines = s.tlines := rfl
@[simp] theorem State.setBport_ptp (s : State) (i : Nat) (x : BPort) : (s.setBport i x).ptp = s.ptp := rfl
@[simp] theorem State.setBport_ptpGo (s : State) (i : Nat) (x : BPort) : (s.setBport i x).ptpGo = s.ptpGo := rfl
@[simp] theorem State.setBport_ptpMark (s : State) (i : Nat) (x : BPort) : (s.setBport i x).ptpMark = s.ptpMark := rfl
@[simp] theorem State.setBport_calReq (s : State) (i : Nat) (x : BPort) : (s.setBport i x).calReq = s.calReq := rfl
@[simp] theorem State.setBport_interval (s : State) (i : Nat) (x : BPort) : (s.setBport i x).interval = s.interval := rfl
@[simp] theorem State.setBport_frames (s : State) (i : Nat) (x : BPort) : (s.setBport i x).frames = s.frames := rfl
@[simp] theorem State.setBport_spine (s : State) (i : Nat) (x : BPort) : (s.setBport i x).spine = s.spine := rfl
@[simp] theorem State.setBport_cells (s : State) (i : Nat) (x : BPort) : (s.setBport i x).cells = s.cells := rfl
@[simp] theorem State.setBport_regions (s : State) (i : Nat) (x : BPort) : (s.setBport i x).regions = s.regions := rfl
@[simp] theorem State.setBport_clus (s : State) (i : Nat) (x : BPort) : (s.setBport i x).clus = s.clus := rfl
@[simp] theorem State.setBport_cfg (s : State) (i : Nat) (x : BPort) : (s.setBport i x).cfg = s.cfg := rfl
@[simp] theorem State.setBport_chans (s : State) (i : Nat) (x : BPort) : (s.setBport i x).chans = s.chans := rfl
@[simp] theorem State.setBport_aports (s : State) (i : Nat) (x : BPort) : (s.setBport i x).aports = s.aports := rfl
@[simp] theorem State.setBport_blines (s : State) (i : Nat) (x : BPort) : (s.setBport i x).blines = s.blines := rfl
@[simp] theorem State.setBport_bsrcs (s : State) (i : Nat) (x : BPort) : (s.setBport i x).bsrcs = s.bsrcs := rfl
@[simp] theorem State.setBport_twins (s : State) (i : Nat) (x : BPort) : (s.setBport i x).twins = s.twins := rfl
@[simp] theorem State.setBport_lanes (s : State) (i : Nat) (x : BPort) : (s.setBport i x).lanes = s.lanes := rfl
@[simp] theorem State.setBport_flights (s : State) (i : Nat) (x : BPort) : (s.setBport i x).flights = s.flights := rfl
@[simp] theorem State.setBport_nextId (s : State) (i : Nat) (x : BPort) : (s.setBport i x).nextId = s.nextId := rfl
@[simp] theorem State.setBport_pairs (s : State) (i : Nat) (x : BPort) : (s.setBport i x).pairs = s.pairs := rfl
@[simp] theorem State.setBport_codePend (s : State) (i : Nat) (x : BPort) : (s.setBport i x).codePend = s.codePend := rfl
@[simp] theorem State.setBport_spareQ (s : State) (i : Nat) (x : BPort) : (s.setBport i x).spareQ = s.spareQ := rfl
@[simp] theorem State.setBport_swapWant (s : State) (i : Nat) (x : BPort) : (s.setBport i x).swapWant = s.swapWant := rfl
@[simp] theorem State.setBport_bmems (s : State) (i : Nat) (x : BPort) : (s.setBport i x).bmems = s.bmems := rfl
@[simp] theorem State.setBport_bbytes (s : State) (i : Nat) (x : BPort) : (s.setBport i x).bbytes = s.bbytes := rfl
@[simp] theorem State.setBport_banks (s : State) (i : Nat) (x : BPort) : (s.setBport i x).banks = s.banks := rfl
@[simp] theorem State.setBport_swords (s : State) (i : Nat) (x : BPort) : (s.setBport i x).swords = s.swords := rfl
@[simp] theorem State.setBport_hops (s : State) (i : Nat) (x : BPort) : (s.setBport i x).hops = s.hops := rfl
@[simp] theorem State.setBport_pins (s : State) (i : Nat) (x : BPort) : (s.setBport i x).pins = s.pins := rfl
@[simp] theorem State.setBport_spinePrevs (s : State) (i : Nat) (x : BPort) : (s.setBport i x).spinePrevs = s.spinePrevs := rfl
@[simp] theorem State.setBport_pads (s : State) (i : Nat) (x : BPort) : (s.setBport i x).pads = s.pads := rfl
@[simp] theorem State.setBport_groups (s : State) (i : Nat) (x : BPort) : (s.setBport i x).groups = s.groups := rfl
@[simp] theorem State.setBport_links (s : State) (i : Nat) (x : BPort) : (s.setBport i x).links = s.links := rfl
@[simp] theorem State.setBport_reasms (s : State) (i : Nat) (x : BPort) : (s.setBport i x).reasms = s.reasms := rfl
@[simp] theorem State.setBport_mgmtIn (s : State) (i : Nat) (x : BPort) : (s.setBport i x).mgmtIn = s.mgmtIn := rfl
@[simp] theorem State.setBport_lateTags (s : State) (i : Nat) (x : BPort) : (s.setBport i x).lateTags = s.lateTags := rfl
@[simp] theorem State.setBport_slices (s : State) (i : Nat) (x : BPort) : (s.setBport i x).slices = s.slices := rfl
@[simp] theorem State.setBport_sweep (s : State) (i : Nat) (x : BPort) : (s.setBport i x).sweep = s.sweep := rfl
@[simp] theorem State.setBport_asyNews (s : State) (i : Nat) (x : BPort) : (s.setBport i x).asyNews = s.asyNews := rfl
@[simp] theorem State.setBport_sliceEnded (s : State) (i : Nat) (x : BPort) : (s.setBport i x).sliceEnded = s.sliceEnded := rfl
@[simp] theorem State.setBport_load (s : State) (i : Nat) (x : BPort) : (s.setBport i x).load = s.load := rfl
@[simp] theorem State.setBport_flash (s : State) (i : Nat) (x : BPort) : (s.setBport i x).flash = s.flash := rfl
@[simp] theorem State.setBport_gold (s : State) (i : Nat) (x : BPort) : (s.setBport i x).gold = s.gold := rfl
@[simp] theorem State.setBport_cparks (s : State) (i : Nat) (x : BPort) : (s.setBport i x).cparks = s.cparks := rfl
@[simp] theorem State.setBport_crcs (s : State) (i : Nat) (x : BPort) : (s.setBport i x).crcs = s.crcs := rfl
@[simp] theorem State.setBport_loadEnded (s : State) (i : Nat) (x : BPort) : (s.setBport i x).loadEnded = s.loadEnded := rfl
@[simp] theorem State.setBport_imgHash (s : State) (i : Nat) (x : BPort) : (s.setBport i x).imgHash = s.imgHash := rfl
@[simp] theorem State.setBport_rimgs (s : State) (i : Nat) (x : BPort) : (s.setBport i x).rimgs = s.rimgs := rfl
@[simp] theorem State.setBport_staged (s : State) (i : Nat) (x : BPort) : (s.setBport i x).staged = s.staged := rfl
@[simp] theorem State.setBport_loadAsked (s : State) (i : Nat) (x : BPort) : (s.setBport i x).loadAsked = s.loadAsked := rfl
@[simp] theorem State.setBport_toldFaults (s : State) (i : Nat) (x : BPort) : (s.setBport i x).toldFaults = s.toldFaults := rfl
@[simp] theorem State.setBport_kslots (s : State) (i : Nat) (x : BPort) : (s.setBport i x).kslots = s.kslots := rfl
@[simp] theorem State.setBport_oslots (s : State) (i : Nat) (x : BPort) : (s.setBport i x).oslots = s.oslots := rfl
@[simp] theorem State.setBport_kcmd (s : State) (i : Nat) (x : BPort) : (s.setBport i x).kcmd = s.kcmd := rfl
@[simp] theorem State.setBport_cutSlots (s : State) (i : Nat) (x : BPort) : (s.setBport i x).cutSlots = s.cutSlots := rfl
@[simp] theorem State.setBport_tkrev (s : State) (i : Nat) (x : BPort) : (s.setBport i x).tkrev = s.tkrev := rfl
@[simp] theorem State.setBport_fwsvn (s : State) (i : Nat) (x : BPort) : (s.setBport i x).fwsvn = s.fwsvn := rfl
@[simp] theorem State.setBport_fw (s : State) (i : Nat) (x : BPort) : (s.setBport i x).fw = s.fw := rfl
@[simp] theorem State.setBport_recovery (s : State) (i : Nat) (x : BPort) : (s.setBport i x).recovery = s.recovery := rfl
@[simp] theorem State.setBport_reports (s : State) (i : Nat) (x : BPort) : (s.setBport i x).reports = s.reports := rfl
@[simp] theorem State.setBport_signed (s : State) (i : Nat) (x : BPort) : (s.setBport i x).signed = s.signed := rfl
@[simp] theorem State.setBport_attests (s : State) (i : Nat) (x : BPort) : (s.setBport i x).attests = s.attests := rfl
@[simp] theorem State.setBport_uarts (s : State) (i : Nat) (x : BPort) : (s.setBport i x).uarts = s.uarts := rfl
@[simp] theorem State.setBport_spi (s : State) (i : Nat) (x : BPort) : (s.setBport i x).spi = s.spi := rfl
@[simp] theorem State.setBport_i2cs (s : State) (i : Nat) (x : BPort) : (s.setBport i x).i2cs = s.i2cs := rfl
@[simp] theorem State.setBport_cores (s : State) (i : Nat) (x : BPort) : (s.setBport i x).cores = s.cores := rfl
@[simp] theorem State.setBport_wdgs (s : State) (i : Nat) (x : BPort) : (s.setBport i x).wdgs = s.wdgs := rfl
@[simp] theorem State.setBport_gexts (s : State) (i : Nat) (x : BPort) : (s.setBport i x).gexts = s.gexts := rfl
@[simp] theorem State.setBport_gkeeps (s : State) (i : Nat) (x : BPort) : (s.setBport i x).gkeeps = s.gkeeps := rfl
@[simp] theorem State.setBport_glines (s : State) (i : Nat) (x : BPort) : (s.setBport i x).glines = s.glines := rfl
@[simp] theorem State.setBport_gheld (s : State) (i : Nat) (x : BPort) : (s.setBport i x).gheld = s.gheld := rfl
@[simp] theorem State.setBport_cmpNews (s : State) (i : Nat) (x : BPort) : (s.setBport i x).cmpNews = s.cmpNews := rfl
@[simp] theorem State.setBport_ptpNews (s : State) (i : Nat) (x : BPort) : (s.setBport i x).ptpNews = s.ptpNews := rfl
@[simp] theorem State.setBport_ptpStamp (s : State) (i : Nat) (x : BPort) : (s.setBport i x).ptpStamp = s.ptpStamp := rfl
@[simp] theorem State.setBport_ppsAt (s : State) (i : Nat) (x : BPort) : (s.setBport i x).ppsAt = s.ppsAt := rfl
@[simp] theorem State.setBport_mem (s : State) (i : Nat) (x : BPort) : (s.setBport i x).mem = s.mem := rfl
@[simp] theorem State.setBport_memEpoch (s : State) (i : Nat) (x : BPort) : (s.setBport i x).memEpoch = s.memEpoch := rfl
@[simp] theorem State.setBport_ix (s : State) (i : Nat) (x : BPort) : (s.setBport i x).ix = s.ix := rfl
@[simp] theorem State.setBport_ixOut (s : State) (i : Nat) (x : BPort) : (s.setBport i x).ixOut = s.ixOut := rfl
@[simp] theorem State.setBport_doms (s : State) (i : Nat) (x : BPort) : (s.setBport i x).doms = s.doms := rfl
@[simp] theorem State.setBport_epoch (s : State) (i : Nat) (x : BPort) : (s.setBport i x).epoch = s.epoch := rfl
@[simp] theorem State.setBport_ups (s : State) (i : Nat) (x : BPort) : (s.setBport i x).ups = s.ups := rfl
@[simp] theorem State.setBport_dns (s : State) (i : Nat) (x : BPort) : (s.setBport i x).dns = s.dns := rfl
@[simp] theorem State.setBport_probes (s : State) (i : Nat) (x : BPort) : (s.setBport i x).probes = s.probes := rfl
@[simp] theorem State.setBport_tapIr (s : State) (i : Nat) (x : BPort) : (s.setBport i x).tapIr = s.tapIr := rfl
@[simp] theorem State.setBport_bscan (s : State) (i : Nat) (x : BPort) : (s.setBport i x).bscan = s.bscan := rfl
@[simp] theorem State.setBport_dbgAcc (s : State) (i : Nat) (x : BPort) : (s.setBport i x).dbgAcc = s.dbgAcc := rfl
@[simp] theorem State.setBport_dbgStatus (s : State) (i : Nat) (x : BPort) : (s.setBport i x).dbgStatus = s.dbgStatus := rfl
@[simp] theorem State.setBport_dbgP (s : State) (i : Nat) (x : BPort) : (s.setBport i x).dbgP = s.dbgP := rfl
@[simp] theorem State.setBport_dbgData (s : State) (i : Nat) (x : BPort) : (s.setBport i x).dbgData = s.dbgData := rfl
@[simp] theorem State.setBport_bcap (s : State) (i : Nat) (x : BPort) : (s.setBport i x).bcap = s.bcap := rfl
@[simp] theorem State.setBport_vin (s : State) (i : Nat) (x : BPort) : (s.setBport i x).vin = s.vin := rfl
@[simp] theorem State.setBport_vbat (s : State) (i : Nat) (x : BPort) : (s.setBport i x).vbat = s.vbat := rfl
@[simp] theorem State.setBport_bbGone (s : State) (i : Nat) (x : BPort) : (s.setBport i x).bbGone = s.bbGone := rfl
@[simp] theorem State.setBport_hot (s : State) (i : Nat) (x : BPort) : (s.setBport i x).hot = s.hot := rfl
@[simp] theorem State.setBport_bootDue (s : State) (i : Nat) (x : BPort) : (s.setBport i x).bootDue = s.bootDue := rfl

@[simp] theorem State.setTwin_twins (s : State) (i : Nat) (x : Option Tok) : (s.setTwin i x).twins = Store.put none s.twins i x := rfl
@[simp] theorem State.twin_setTwin_same (s : State) (i : Nat) (x : Option Tok) : (s.setTwin i x).twin i = x := Store.get_put_same _ _ _ _
theorem State.twin_setTwin_ne (s : State) (i j : Nat) (x : Option Tok) (h : j ≠ i) : (s.setTwin i x).twin j = s.twin j := Store.get_put_ne _ _ _ h
@[simp] theorem State.setTwin_pending (s : State) (i : Nat) (x : Option Tok) : (s.setTwin i x).pending = s.pending := rfl
@[simp] theorem State.setTwin_free (s : State) (i : Nat) (x : Option Tok) : (s.setTwin i x).free = s.free := rfl
@[simp] theorem State.setTwin_time (s : State) (i : Nat) (x : Option Tok) : (s.setTwin i x).time = s.time := rfl
@[simp] theorem State.setTwin_regs (s : State) (i : Nat) (x : Option Tok) : (s.setTwin i x).regs = s.regs := rfl
@[simp] theorem State.setTwin_rdata (s : State) (i : Nat) (x : Option Tok) : (s.setTwin i x).rdata = s.rdata := rfl
@[simp] theorem State.setTwin_tports (s : State) (i : Nat) (x : Option Tok) : (s.setTwin i x).tports = s.tports := rfl
@[simp] theorem State.setTwin_tlines (s : State) (i : Nat) (x : Option Tok) : (s.setTwin i x).tlines = s.tlines := rfl
@[simp] theorem State.setTwin_ptp (s : State) (i : Nat) (x : Option Tok) : (s.setTwin i x).ptp = s.ptp := rfl
@[simp] theorem State.setTwin_ptpGo (s : State) (i : Nat) (x : Option Tok) : (s.setTwin i x).ptpGo = s.ptpGo := rfl
@[simp] theorem State.setTwin_ptpMark (s : State) (i : Nat) (x : Option Tok) : (s.setTwin i x).ptpMark = s.ptpMark := rfl
@[simp] theorem State.setTwin_calReq (s : State) (i : Nat) (x : Option Tok) : (s.setTwin i x).calReq = s.calReq := rfl
@[simp] theorem State.setTwin_interval (s : State) (i : Nat) (x : Option Tok) : (s.setTwin i x).interval = s.interval := rfl
@[simp] theorem State.setTwin_frames (s : State) (i : Nat) (x : Option Tok) : (s.setTwin i x).frames = s.frames := rfl
@[simp] theorem State.setTwin_spine (s : State) (i : Nat) (x : Option Tok) : (s.setTwin i x).spine = s.spine := rfl
@[simp] theorem State.setTwin_cells (s : State) (i : Nat) (x : Option Tok) : (s.setTwin i x).cells = s.cells := rfl
@[simp] theorem State.setTwin_regions (s : State) (i : Nat) (x : Option Tok) : (s.setTwin i x).regions = s.regions := rfl
@[simp] theorem State.setTwin_clus (s : State) (i : Nat) (x : Option Tok) : (s.setTwin i x).clus = s.clus := rfl
@[simp] theorem State.setTwin_cfg (s : State) (i : Nat) (x : Option Tok) : (s.setTwin i x).cfg = s.cfg := rfl
@[simp] theorem State.setTwin_chans (s : State) (i : Nat) (x : Option Tok) : (s.setTwin i x).chans = s.chans := rfl
@[simp] theorem State.setTwin_aports (s : State) (i : Nat) (x : Option Tok) : (s.setTwin i x).aports = s.aports := rfl
@[simp] theorem State.setTwin_blines (s : State) (i : Nat) (x : Option Tok) : (s.setTwin i x).blines = s.blines := rfl
@[simp] theorem State.setTwin_bsrcs (s : State) (i : Nat) (x : Option Tok) : (s.setTwin i x).bsrcs = s.bsrcs := rfl
@[simp] theorem State.setTwin_bports (s : State) (i : Nat) (x : Option Tok) : (s.setTwin i x).bports = s.bports := rfl
@[simp] theorem State.setTwin_lanes (s : State) (i : Nat) (x : Option Tok) : (s.setTwin i x).lanes = s.lanes := rfl
@[simp] theorem State.setTwin_flights (s : State) (i : Nat) (x : Option Tok) : (s.setTwin i x).flights = s.flights := rfl
@[simp] theorem State.setTwin_nextId (s : State) (i : Nat) (x : Option Tok) : (s.setTwin i x).nextId = s.nextId := rfl
@[simp] theorem State.setTwin_pairs (s : State) (i : Nat) (x : Option Tok) : (s.setTwin i x).pairs = s.pairs := rfl
@[simp] theorem State.setTwin_codePend (s : State) (i : Nat) (x : Option Tok) : (s.setTwin i x).codePend = s.codePend := rfl
@[simp] theorem State.setTwin_spareQ (s : State) (i : Nat) (x : Option Tok) : (s.setTwin i x).spareQ = s.spareQ := rfl
@[simp] theorem State.setTwin_swapWant (s : State) (i : Nat) (x : Option Tok) : (s.setTwin i x).swapWant = s.swapWant := rfl
@[simp] theorem State.setTwin_bmems (s : State) (i : Nat) (x : Option Tok) : (s.setTwin i x).bmems = s.bmems := rfl
@[simp] theorem State.setTwin_bbytes (s : State) (i : Nat) (x : Option Tok) : (s.setTwin i x).bbytes = s.bbytes := rfl
@[simp] theorem State.setTwin_banks (s : State) (i : Nat) (x : Option Tok) : (s.setTwin i x).banks = s.banks := rfl
@[simp] theorem State.setTwin_swords (s : State) (i : Nat) (x : Option Tok) : (s.setTwin i x).swords = s.swords := rfl
@[simp] theorem State.setTwin_hops (s : State) (i : Nat) (x : Option Tok) : (s.setTwin i x).hops = s.hops := rfl
@[simp] theorem State.setTwin_pins (s : State) (i : Nat) (x : Option Tok) : (s.setTwin i x).pins = s.pins := rfl
@[simp] theorem State.setTwin_spinePrevs (s : State) (i : Nat) (x : Option Tok) : (s.setTwin i x).spinePrevs = s.spinePrevs := rfl
@[simp] theorem State.setTwin_pads (s : State) (i : Nat) (x : Option Tok) : (s.setTwin i x).pads = s.pads := rfl
@[simp] theorem State.setTwin_groups (s : State) (i : Nat) (x : Option Tok) : (s.setTwin i x).groups = s.groups := rfl
@[simp] theorem State.setTwin_links (s : State) (i : Nat) (x : Option Tok) : (s.setTwin i x).links = s.links := rfl
@[simp] theorem State.setTwin_reasms (s : State) (i : Nat) (x : Option Tok) : (s.setTwin i x).reasms = s.reasms := rfl
@[simp] theorem State.setTwin_mgmtIn (s : State) (i : Nat) (x : Option Tok) : (s.setTwin i x).mgmtIn = s.mgmtIn := rfl
@[simp] theorem State.setTwin_lateTags (s : State) (i : Nat) (x : Option Tok) : (s.setTwin i x).lateTags = s.lateTags := rfl
@[simp] theorem State.setTwin_slices (s : State) (i : Nat) (x : Option Tok) : (s.setTwin i x).slices = s.slices := rfl
@[simp] theorem State.setTwin_sweep (s : State) (i : Nat) (x : Option Tok) : (s.setTwin i x).sweep = s.sweep := rfl
@[simp] theorem State.setTwin_asyNews (s : State) (i : Nat) (x : Option Tok) : (s.setTwin i x).asyNews = s.asyNews := rfl
@[simp] theorem State.setTwin_sliceEnded (s : State) (i : Nat) (x : Option Tok) : (s.setTwin i x).sliceEnded = s.sliceEnded := rfl
@[simp] theorem State.setTwin_load (s : State) (i : Nat) (x : Option Tok) : (s.setTwin i x).load = s.load := rfl
@[simp] theorem State.setTwin_flash (s : State) (i : Nat) (x : Option Tok) : (s.setTwin i x).flash = s.flash := rfl
@[simp] theorem State.setTwin_gold (s : State) (i : Nat) (x : Option Tok) : (s.setTwin i x).gold = s.gold := rfl
@[simp] theorem State.setTwin_cparks (s : State) (i : Nat) (x : Option Tok) : (s.setTwin i x).cparks = s.cparks := rfl
@[simp] theorem State.setTwin_crcs (s : State) (i : Nat) (x : Option Tok) : (s.setTwin i x).crcs = s.crcs := rfl
@[simp] theorem State.setTwin_loadEnded (s : State) (i : Nat) (x : Option Tok) : (s.setTwin i x).loadEnded = s.loadEnded := rfl
@[simp] theorem State.setTwin_imgHash (s : State) (i : Nat) (x : Option Tok) : (s.setTwin i x).imgHash = s.imgHash := rfl
@[simp] theorem State.setTwin_rimgs (s : State) (i : Nat) (x : Option Tok) : (s.setTwin i x).rimgs = s.rimgs := rfl
@[simp] theorem State.setTwin_staged (s : State) (i : Nat) (x : Option Tok) : (s.setTwin i x).staged = s.staged := rfl
@[simp] theorem State.setTwin_loadAsked (s : State) (i : Nat) (x : Option Tok) : (s.setTwin i x).loadAsked = s.loadAsked := rfl
@[simp] theorem State.setTwin_toldFaults (s : State) (i : Nat) (x : Option Tok) : (s.setTwin i x).toldFaults = s.toldFaults := rfl
@[simp] theorem State.setTwin_kslots (s : State) (i : Nat) (x : Option Tok) : (s.setTwin i x).kslots = s.kslots := rfl
@[simp] theorem State.setTwin_oslots (s : State) (i : Nat) (x : Option Tok) : (s.setTwin i x).oslots = s.oslots := rfl
@[simp] theorem State.setTwin_kcmd (s : State) (i : Nat) (x : Option Tok) : (s.setTwin i x).kcmd = s.kcmd := rfl
@[simp] theorem State.setTwin_cutSlots (s : State) (i : Nat) (x : Option Tok) : (s.setTwin i x).cutSlots = s.cutSlots := rfl
@[simp] theorem State.setTwin_tkrev (s : State) (i : Nat) (x : Option Tok) : (s.setTwin i x).tkrev = s.tkrev := rfl
@[simp] theorem State.setTwin_fwsvn (s : State) (i : Nat) (x : Option Tok) : (s.setTwin i x).fwsvn = s.fwsvn := rfl
@[simp] theorem State.setTwin_fw (s : State) (i : Nat) (x : Option Tok) : (s.setTwin i x).fw = s.fw := rfl
@[simp] theorem State.setTwin_recovery (s : State) (i : Nat) (x : Option Tok) : (s.setTwin i x).recovery = s.recovery := rfl
@[simp] theorem State.setTwin_reports (s : State) (i : Nat) (x : Option Tok) : (s.setTwin i x).reports = s.reports := rfl
@[simp] theorem State.setTwin_signed (s : State) (i : Nat) (x : Option Tok) : (s.setTwin i x).signed = s.signed := rfl
@[simp] theorem State.setTwin_attests (s : State) (i : Nat) (x : Option Tok) : (s.setTwin i x).attests = s.attests := rfl
@[simp] theorem State.setTwin_uarts (s : State) (i : Nat) (x : Option Tok) : (s.setTwin i x).uarts = s.uarts := rfl
@[simp] theorem State.setTwin_spi (s : State) (i : Nat) (x : Option Tok) : (s.setTwin i x).spi = s.spi := rfl
@[simp] theorem State.setTwin_i2cs (s : State) (i : Nat) (x : Option Tok) : (s.setTwin i x).i2cs = s.i2cs := rfl
@[simp] theorem State.setTwin_cores (s : State) (i : Nat) (x : Option Tok) : (s.setTwin i x).cores = s.cores := rfl
@[simp] theorem State.setTwin_wdgs (s : State) (i : Nat) (x : Option Tok) : (s.setTwin i x).wdgs = s.wdgs := rfl
@[simp] theorem State.setTwin_gexts (s : State) (i : Nat) (x : Option Tok) : (s.setTwin i x).gexts = s.gexts := rfl
@[simp] theorem State.setTwin_gkeeps (s : State) (i : Nat) (x : Option Tok) : (s.setTwin i x).gkeeps = s.gkeeps := rfl
@[simp] theorem State.setTwin_glines (s : State) (i : Nat) (x : Option Tok) : (s.setTwin i x).glines = s.glines := rfl
@[simp] theorem State.setTwin_gheld (s : State) (i : Nat) (x : Option Tok) : (s.setTwin i x).gheld = s.gheld := rfl
@[simp] theorem State.setTwin_cmpNews (s : State) (i : Nat) (x : Option Tok) : (s.setTwin i x).cmpNews = s.cmpNews := rfl
@[simp] theorem State.setTwin_ptpNews (s : State) (i : Nat) (x : Option Tok) : (s.setTwin i x).ptpNews = s.ptpNews := rfl
@[simp] theorem State.setTwin_ptpStamp (s : State) (i : Nat) (x : Option Tok) : (s.setTwin i x).ptpStamp = s.ptpStamp := rfl
@[simp] theorem State.setTwin_ppsAt (s : State) (i : Nat) (x : Option Tok) : (s.setTwin i x).ppsAt = s.ppsAt := rfl
@[simp] theorem State.setTwin_mem (s : State) (i : Nat) (x : Option Tok) : (s.setTwin i x).mem = s.mem := rfl
@[simp] theorem State.setTwin_memEpoch (s : State) (i : Nat) (x : Option Tok) : (s.setTwin i x).memEpoch = s.memEpoch := rfl
@[simp] theorem State.setTwin_ix (s : State) (i : Nat) (x : Option Tok) : (s.setTwin i x).ix = s.ix := rfl
@[simp] theorem State.setTwin_ixOut (s : State) (i : Nat) (x : Option Tok) : (s.setTwin i x).ixOut = s.ixOut := rfl
@[simp] theorem State.setTwin_doms (s : State) (i : Nat) (x : Option Tok) : (s.setTwin i x).doms = s.doms := rfl
@[simp] theorem State.setTwin_epoch (s : State) (i : Nat) (x : Option Tok) : (s.setTwin i x).epoch = s.epoch := rfl
@[simp] theorem State.setTwin_ups (s : State) (i : Nat) (x : Option Tok) : (s.setTwin i x).ups = s.ups := rfl
@[simp] theorem State.setTwin_dns (s : State) (i : Nat) (x : Option Tok) : (s.setTwin i x).dns = s.dns := rfl
@[simp] theorem State.setTwin_probes (s : State) (i : Nat) (x : Option Tok) : (s.setTwin i x).probes = s.probes := rfl
@[simp] theorem State.setTwin_tapIr (s : State) (i : Nat) (x : Option Tok) : (s.setTwin i x).tapIr = s.tapIr := rfl
@[simp] theorem State.setTwin_bscan (s : State) (i : Nat) (x : Option Tok) : (s.setTwin i x).bscan = s.bscan := rfl
@[simp] theorem State.setTwin_dbgAcc (s : State) (i : Nat) (x : Option Tok) : (s.setTwin i x).dbgAcc = s.dbgAcc := rfl
@[simp] theorem State.setTwin_dbgStatus (s : State) (i : Nat) (x : Option Tok) : (s.setTwin i x).dbgStatus = s.dbgStatus := rfl
@[simp] theorem State.setTwin_dbgP (s : State) (i : Nat) (x : Option Tok) : (s.setTwin i x).dbgP = s.dbgP := rfl
@[simp] theorem State.setTwin_dbgData (s : State) (i : Nat) (x : Option Tok) : (s.setTwin i x).dbgData = s.dbgData := rfl
@[simp] theorem State.setTwin_bcap (s : State) (i : Nat) (x : Option Tok) : (s.setTwin i x).bcap = s.bcap := rfl
@[simp] theorem State.setTwin_vin (s : State) (i : Nat) (x : Option Tok) : (s.setTwin i x).vin = s.vin := rfl
@[simp] theorem State.setTwin_vbat (s : State) (i : Nat) (x : Option Tok) : (s.setTwin i x).vbat = s.vbat := rfl
@[simp] theorem State.setTwin_bbGone (s : State) (i : Nat) (x : Option Tok) : (s.setTwin i x).bbGone = s.bbGone := rfl
@[simp] theorem State.setTwin_hot (s : State) (i : Nat) (x : Option Tok) : (s.setTwin i x).hot = s.hot := rfl
@[simp] theorem State.setTwin_bootDue (s : State) (i : Nat) (x : Option Tok) : (s.setTwin i x).bootDue = s.bootDue := rfl

@[simp] theorem State.setLaneArb_lanes (s : State) (i : Nat) (x : LaneArb) : (s.setLaneArb i x).lanes = Store.put {} s.lanes i x := rfl
@[simp] theorem State.laneArb_setLaneArb_same (s : State) (i : Nat) (x : LaneArb) : (s.setLaneArb i x).laneArb i = x := Store.get_put_same _ _ _ _
theorem State.laneArb_setLaneArb_ne (s : State) (i j : Nat) (x : LaneArb) (h : j ≠ i) : (s.setLaneArb i x).laneArb j = s.laneArb j := Store.get_put_ne _ _ _ h
@[simp] theorem State.setLaneArb_pending (s : State) (i : Nat) (x : LaneArb) : (s.setLaneArb i x).pending = s.pending := rfl
@[simp] theorem State.setLaneArb_free (s : State) (i : Nat) (x : LaneArb) : (s.setLaneArb i x).free = s.free := rfl
@[simp] theorem State.setLaneArb_time (s : State) (i : Nat) (x : LaneArb) : (s.setLaneArb i x).time = s.time := rfl
@[simp] theorem State.setLaneArb_regs (s : State) (i : Nat) (x : LaneArb) : (s.setLaneArb i x).regs = s.regs := rfl
@[simp] theorem State.setLaneArb_rdata (s : State) (i : Nat) (x : LaneArb) : (s.setLaneArb i x).rdata = s.rdata := rfl
@[simp] theorem State.setLaneArb_tports (s : State) (i : Nat) (x : LaneArb) : (s.setLaneArb i x).tports = s.tports := rfl
@[simp] theorem State.setLaneArb_tlines (s : State) (i : Nat) (x : LaneArb) : (s.setLaneArb i x).tlines = s.tlines := rfl
@[simp] theorem State.setLaneArb_ptp (s : State) (i : Nat) (x : LaneArb) : (s.setLaneArb i x).ptp = s.ptp := rfl
@[simp] theorem State.setLaneArb_ptpGo (s : State) (i : Nat) (x : LaneArb) : (s.setLaneArb i x).ptpGo = s.ptpGo := rfl
@[simp] theorem State.setLaneArb_ptpMark (s : State) (i : Nat) (x : LaneArb) : (s.setLaneArb i x).ptpMark = s.ptpMark := rfl
@[simp] theorem State.setLaneArb_calReq (s : State) (i : Nat) (x : LaneArb) : (s.setLaneArb i x).calReq = s.calReq := rfl
@[simp] theorem State.setLaneArb_interval (s : State) (i : Nat) (x : LaneArb) : (s.setLaneArb i x).interval = s.interval := rfl
@[simp] theorem State.setLaneArb_frames (s : State) (i : Nat) (x : LaneArb) : (s.setLaneArb i x).frames = s.frames := rfl
@[simp] theorem State.setLaneArb_spine (s : State) (i : Nat) (x : LaneArb) : (s.setLaneArb i x).spine = s.spine := rfl
@[simp] theorem State.setLaneArb_cells (s : State) (i : Nat) (x : LaneArb) : (s.setLaneArb i x).cells = s.cells := rfl
@[simp] theorem State.setLaneArb_regions (s : State) (i : Nat) (x : LaneArb) : (s.setLaneArb i x).regions = s.regions := rfl
@[simp] theorem State.setLaneArb_clus (s : State) (i : Nat) (x : LaneArb) : (s.setLaneArb i x).clus = s.clus := rfl
@[simp] theorem State.setLaneArb_cfg (s : State) (i : Nat) (x : LaneArb) : (s.setLaneArb i x).cfg = s.cfg := rfl
@[simp] theorem State.setLaneArb_chans (s : State) (i : Nat) (x : LaneArb) : (s.setLaneArb i x).chans = s.chans := rfl
@[simp] theorem State.setLaneArb_aports (s : State) (i : Nat) (x : LaneArb) : (s.setLaneArb i x).aports = s.aports := rfl
@[simp] theorem State.setLaneArb_blines (s : State) (i : Nat) (x : LaneArb) : (s.setLaneArb i x).blines = s.blines := rfl
@[simp] theorem State.setLaneArb_bsrcs (s : State) (i : Nat) (x : LaneArb) : (s.setLaneArb i x).bsrcs = s.bsrcs := rfl
@[simp] theorem State.setLaneArb_bports (s : State) (i : Nat) (x : LaneArb) : (s.setLaneArb i x).bports = s.bports := rfl
@[simp] theorem State.setLaneArb_twins (s : State) (i : Nat) (x : LaneArb) : (s.setLaneArb i x).twins = s.twins := rfl
@[simp] theorem State.setLaneArb_flights (s : State) (i : Nat) (x : LaneArb) : (s.setLaneArb i x).flights = s.flights := rfl
@[simp] theorem State.setLaneArb_nextId (s : State) (i : Nat) (x : LaneArb) : (s.setLaneArb i x).nextId = s.nextId := rfl
@[simp] theorem State.setLaneArb_pairs (s : State) (i : Nat) (x : LaneArb) : (s.setLaneArb i x).pairs = s.pairs := rfl
@[simp] theorem State.setLaneArb_codePend (s : State) (i : Nat) (x : LaneArb) : (s.setLaneArb i x).codePend = s.codePend := rfl
@[simp] theorem State.setLaneArb_spareQ (s : State) (i : Nat) (x : LaneArb) : (s.setLaneArb i x).spareQ = s.spareQ := rfl
@[simp] theorem State.setLaneArb_swapWant (s : State) (i : Nat) (x : LaneArb) : (s.setLaneArb i x).swapWant = s.swapWant := rfl
@[simp] theorem State.setLaneArb_bmems (s : State) (i : Nat) (x : LaneArb) : (s.setLaneArb i x).bmems = s.bmems := rfl
@[simp] theorem State.setLaneArb_bbytes (s : State) (i : Nat) (x : LaneArb) : (s.setLaneArb i x).bbytes = s.bbytes := rfl
@[simp] theorem State.setLaneArb_banks (s : State) (i : Nat) (x : LaneArb) : (s.setLaneArb i x).banks = s.banks := rfl
@[simp] theorem State.setLaneArb_swords (s : State) (i : Nat) (x : LaneArb) : (s.setLaneArb i x).swords = s.swords := rfl
@[simp] theorem State.setLaneArb_hops (s : State) (i : Nat) (x : LaneArb) : (s.setLaneArb i x).hops = s.hops := rfl
@[simp] theorem State.setLaneArb_pins (s : State) (i : Nat) (x : LaneArb) : (s.setLaneArb i x).pins = s.pins := rfl
@[simp] theorem State.setLaneArb_spinePrevs (s : State) (i : Nat) (x : LaneArb) : (s.setLaneArb i x).spinePrevs = s.spinePrevs := rfl
@[simp] theorem State.setLaneArb_pads (s : State) (i : Nat) (x : LaneArb) : (s.setLaneArb i x).pads = s.pads := rfl
@[simp] theorem State.setLaneArb_groups (s : State) (i : Nat) (x : LaneArb) : (s.setLaneArb i x).groups = s.groups := rfl
@[simp] theorem State.setLaneArb_links (s : State) (i : Nat) (x : LaneArb) : (s.setLaneArb i x).links = s.links := rfl
@[simp] theorem State.setLaneArb_reasms (s : State) (i : Nat) (x : LaneArb) : (s.setLaneArb i x).reasms = s.reasms := rfl
@[simp] theorem State.setLaneArb_mgmtIn (s : State) (i : Nat) (x : LaneArb) : (s.setLaneArb i x).mgmtIn = s.mgmtIn := rfl
@[simp] theorem State.setLaneArb_lateTags (s : State) (i : Nat) (x : LaneArb) : (s.setLaneArb i x).lateTags = s.lateTags := rfl
@[simp] theorem State.setLaneArb_slices (s : State) (i : Nat) (x : LaneArb) : (s.setLaneArb i x).slices = s.slices := rfl
@[simp] theorem State.setLaneArb_sweep (s : State) (i : Nat) (x : LaneArb) : (s.setLaneArb i x).sweep = s.sweep := rfl
@[simp] theorem State.setLaneArb_asyNews (s : State) (i : Nat) (x : LaneArb) : (s.setLaneArb i x).asyNews = s.asyNews := rfl
@[simp] theorem State.setLaneArb_sliceEnded (s : State) (i : Nat) (x : LaneArb) : (s.setLaneArb i x).sliceEnded = s.sliceEnded := rfl
@[simp] theorem State.setLaneArb_load (s : State) (i : Nat) (x : LaneArb) : (s.setLaneArb i x).load = s.load := rfl
@[simp] theorem State.setLaneArb_flash (s : State) (i : Nat) (x : LaneArb) : (s.setLaneArb i x).flash = s.flash := rfl
@[simp] theorem State.setLaneArb_gold (s : State) (i : Nat) (x : LaneArb) : (s.setLaneArb i x).gold = s.gold := rfl
@[simp] theorem State.setLaneArb_cparks (s : State) (i : Nat) (x : LaneArb) : (s.setLaneArb i x).cparks = s.cparks := rfl
@[simp] theorem State.setLaneArb_crcs (s : State) (i : Nat) (x : LaneArb) : (s.setLaneArb i x).crcs = s.crcs := rfl
@[simp] theorem State.setLaneArb_loadEnded (s : State) (i : Nat) (x : LaneArb) : (s.setLaneArb i x).loadEnded = s.loadEnded := rfl
@[simp] theorem State.setLaneArb_imgHash (s : State) (i : Nat) (x : LaneArb) : (s.setLaneArb i x).imgHash = s.imgHash := rfl
@[simp] theorem State.setLaneArb_rimgs (s : State) (i : Nat) (x : LaneArb) : (s.setLaneArb i x).rimgs = s.rimgs := rfl
@[simp] theorem State.setLaneArb_staged (s : State) (i : Nat) (x : LaneArb) : (s.setLaneArb i x).staged = s.staged := rfl
@[simp] theorem State.setLaneArb_loadAsked (s : State) (i : Nat) (x : LaneArb) : (s.setLaneArb i x).loadAsked = s.loadAsked := rfl
@[simp] theorem State.setLaneArb_toldFaults (s : State) (i : Nat) (x : LaneArb) : (s.setLaneArb i x).toldFaults = s.toldFaults := rfl
@[simp] theorem State.setLaneArb_kslots (s : State) (i : Nat) (x : LaneArb) : (s.setLaneArb i x).kslots = s.kslots := rfl
@[simp] theorem State.setLaneArb_oslots (s : State) (i : Nat) (x : LaneArb) : (s.setLaneArb i x).oslots = s.oslots := rfl
@[simp] theorem State.setLaneArb_kcmd (s : State) (i : Nat) (x : LaneArb) : (s.setLaneArb i x).kcmd = s.kcmd := rfl
@[simp] theorem State.setLaneArb_cutSlots (s : State) (i : Nat) (x : LaneArb) : (s.setLaneArb i x).cutSlots = s.cutSlots := rfl
@[simp] theorem State.setLaneArb_tkrev (s : State) (i : Nat) (x : LaneArb) : (s.setLaneArb i x).tkrev = s.tkrev := rfl
@[simp] theorem State.setLaneArb_fwsvn (s : State) (i : Nat) (x : LaneArb) : (s.setLaneArb i x).fwsvn = s.fwsvn := rfl
@[simp] theorem State.setLaneArb_fw (s : State) (i : Nat) (x : LaneArb) : (s.setLaneArb i x).fw = s.fw := rfl
@[simp] theorem State.setLaneArb_recovery (s : State) (i : Nat) (x : LaneArb) : (s.setLaneArb i x).recovery = s.recovery := rfl
@[simp] theorem State.setLaneArb_reports (s : State) (i : Nat) (x : LaneArb) : (s.setLaneArb i x).reports = s.reports := rfl
@[simp] theorem State.setLaneArb_signed (s : State) (i : Nat) (x : LaneArb) : (s.setLaneArb i x).signed = s.signed := rfl
@[simp] theorem State.setLaneArb_attests (s : State) (i : Nat) (x : LaneArb) : (s.setLaneArb i x).attests = s.attests := rfl
@[simp] theorem State.setLaneArb_uarts (s : State) (i : Nat) (x : LaneArb) : (s.setLaneArb i x).uarts = s.uarts := rfl
@[simp] theorem State.setLaneArb_spi (s : State) (i : Nat) (x : LaneArb) : (s.setLaneArb i x).spi = s.spi := rfl
@[simp] theorem State.setLaneArb_i2cs (s : State) (i : Nat) (x : LaneArb) : (s.setLaneArb i x).i2cs = s.i2cs := rfl
@[simp] theorem State.setLaneArb_cores (s : State) (i : Nat) (x : LaneArb) : (s.setLaneArb i x).cores = s.cores := rfl
@[simp] theorem State.setLaneArb_wdgs (s : State) (i : Nat) (x : LaneArb) : (s.setLaneArb i x).wdgs = s.wdgs := rfl
@[simp] theorem State.setLaneArb_gexts (s : State) (i : Nat) (x : LaneArb) : (s.setLaneArb i x).gexts = s.gexts := rfl
@[simp] theorem State.setLaneArb_gkeeps (s : State) (i : Nat) (x : LaneArb) : (s.setLaneArb i x).gkeeps = s.gkeeps := rfl
@[simp] theorem State.setLaneArb_glines (s : State) (i : Nat) (x : LaneArb) : (s.setLaneArb i x).glines = s.glines := rfl
@[simp] theorem State.setLaneArb_gheld (s : State) (i : Nat) (x : LaneArb) : (s.setLaneArb i x).gheld = s.gheld := rfl
@[simp] theorem State.setLaneArb_cmpNews (s : State) (i : Nat) (x : LaneArb) : (s.setLaneArb i x).cmpNews = s.cmpNews := rfl
@[simp] theorem State.setLaneArb_ptpNews (s : State) (i : Nat) (x : LaneArb) : (s.setLaneArb i x).ptpNews = s.ptpNews := rfl
@[simp] theorem State.setLaneArb_ptpStamp (s : State) (i : Nat) (x : LaneArb) : (s.setLaneArb i x).ptpStamp = s.ptpStamp := rfl
@[simp] theorem State.setLaneArb_ppsAt (s : State) (i : Nat) (x : LaneArb) : (s.setLaneArb i x).ppsAt = s.ppsAt := rfl
@[simp] theorem State.setLaneArb_mem (s : State) (i : Nat) (x : LaneArb) : (s.setLaneArb i x).mem = s.mem := rfl
@[simp] theorem State.setLaneArb_memEpoch (s : State) (i : Nat) (x : LaneArb) : (s.setLaneArb i x).memEpoch = s.memEpoch := rfl
@[simp] theorem State.setLaneArb_ix (s : State) (i : Nat) (x : LaneArb) : (s.setLaneArb i x).ix = s.ix := rfl
@[simp] theorem State.setLaneArb_ixOut (s : State) (i : Nat) (x : LaneArb) : (s.setLaneArb i x).ixOut = s.ixOut := rfl
@[simp] theorem State.setLaneArb_doms (s : State) (i : Nat) (x : LaneArb) : (s.setLaneArb i x).doms = s.doms := rfl
@[simp] theorem State.setLaneArb_epoch (s : State) (i : Nat) (x : LaneArb) : (s.setLaneArb i x).epoch = s.epoch := rfl
@[simp] theorem State.setLaneArb_ups (s : State) (i : Nat) (x : LaneArb) : (s.setLaneArb i x).ups = s.ups := rfl
@[simp] theorem State.setLaneArb_dns (s : State) (i : Nat) (x : LaneArb) : (s.setLaneArb i x).dns = s.dns := rfl
@[simp] theorem State.setLaneArb_probes (s : State) (i : Nat) (x : LaneArb) : (s.setLaneArb i x).probes = s.probes := rfl
@[simp] theorem State.setLaneArb_tapIr (s : State) (i : Nat) (x : LaneArb) : (s.setLaneArb i x).tapIr = s.tapIr := rfl
@[simp] theorem State.setLaneArb_bscan (s : State) (i : Nat) (x : LaneArb) : (s.setLaneArb i x).bscan = s.bscan := rfl
@[simp] theorem State.setLaneArb_dbgAcc (s : State) (i : Nat) (x : LaneArb) : (s.setLaneArb i x).dbgAcc = s.dbgAcc := rfl
@[simp] theorem State.setLaneArb_dbgStatus (s : State) (i : Nat) (x : LaneArb) : (s.setLaneArb i x).dbgStatus = s.dbgStatus := rfl
@[simp] theorem State.setLaneArb_dbgP (s : State) (i : Nat) (x : LaneArb) : (s.setLaneArb i x).dbgP = s.dbgP := rfl
@[simp] theorem State.setLaneArb_dbgData (s : State) (i : Nat) (x : LaneArb) : (s.setLaneArb i x).dbgData = s.dbgData := rfl
@[simp] theorem State.setLaneArb_bcap (s : State) (i : Nat) (x : LaneArb) : (s.setLaneArb i x).bcap = s.bcap := rfl
@[simp] theorem State.setLaneArb_vin (s : State) (i : Nat) (x : LaneArb) : (s.setLaneArb i x).vin = s.vin := rfl
@[simp] theorem State.setLaneArb_vbat (s : State) (i : Nat) (x : LaneArb) : (s.setLaneArb i x).vbat = s.vbat := rfl
@[simp] theorem State.setLaneArb_bbGone (s : State) (i : Nat) (x : LaneArb) : (s.setLaneArb i x).bbGone = s.bbGone := rfl
@[simp] theorem State.setLaneArb_hot (s : State) (i : Nat) (x : LaneArb) : (s.setLaneArb i x).hot = s.hot := rfl
@[simp] theorem State.setLaneArb_bootDue (s : State) (i : Nat) (x : LaneArb) : (s.setLaneArb i x).bootDue = s.bootDue := rfl

@[simp] theorem State.setPair_pairs (s : State) (i : Nat) (x : PairSt) : (s.setPair i x).pairs = Store.put {} s.pairs i x := rfl
@[simp] theorem State.pair_setPair_same (s : State) (i : Nat) (x : PairSt) : (s.setPair i x).pair i = x := Store.get_put_same _ _ _ _
theorem State.pair_setPair_ne (s : State) (i j : Nat) (x : PairSt) (h : j ≠ i) : (s.setPair i x).pair j = s.pair j := Store.get_put_ne _ _ _ h
@[simp] theorem State.setPair_pending (s : State) (i : Nat) (x : PairSt) : (s.setPair i x).pending = s.pending := rfl
@[simp] theorem State.setPair_free (s : State) (i : Nat) (x : PairSt) : (s.setPair i x).free = s.free := rfl
@[simp] theorem State.setPair_time (s : State) (i : Nat) (x : PairSt) : (s.setPair i x).time = s.time := rfl
@[simp] theorem State.setPair_regs (s : State) (i : Nat) (x : PairSt) : (s.setPair i x).regs = s.regs := rfl
@[simp] theorem State.setPair_rdata (s : State) (i : Nat) (x : PairSt) : (s.setPair i x).rdata = s.rdata := rfl
@[simp] theorem State.setPair_tports (s : State) (i : Nat) (x : PairSt) : (s.setPair i x).tports = s.tports := rfl
@[simp] theorem State.setPair_tlines (s : State) (i : Nat) (x : PairSt) : (s.setPair i x).tlines = s.tlines := rfl
@[simp] theorem State.setPair_ptp (s : State) (i : Nat) (x : PairSt) : (s.setPair i x).ptp = s.ptp := rfl
@[simp] theorem State.setPair_ptpGo (s : State) (i : Nat) (x : PairSt) : (s.setPair i x).ptpGo = s.ptpGo := rfl
@[simp] theorem State.setPair_ptpMark (s : State) (i : Nat) (x : PairSt) : (s.setPair i x).ptpMark = s.ptpMark := rfl
@[simp] theorem State.setPair_calReq (s : State) (i : Nat) (x : PairSt) : (s.setPair i x).calReq = s.calReq := rfl
@[simp] theorem State.setPair_interval (s : State) (i : Nat) (x : PairSt) : (s.setPair i x).interval = s.interval := rfl
@[simp] theorem State.setPair_frames (s : State) (i : Nat) (x : PairSt) : (s.setPair i x).frames = s.frames := rfl
@[simp] theorem State.setPair_spine (s : State) (i : Nat) (x : PairSt) : (s.setPair i x).spine = s.spine := rfl
@[simp] theorem State.setPair_cells (s : State) (i : Nat) (x : PairSt) : (s.setPair i x).cells = s.cells := rfl
@[simp] theorem State.setPair_regions (s : State) (i : Nat) (x : PairSt) : (s.setPair i x).regions = s.regions := rfl
@[simp] theorem State.setPair_clus (s : State) (i : Nat) (x : PairSt) : (s.setPair i x).clus = s.clus := rfl
@[simp] theorem State.setPair_cfg (s : State) (i : Nat) (x : PairSt) : (s.setPair i x).cfg = s.cfg := rfl
@[simp] theorem State.setPair_chans (s : State) (i : Nat) (x : PairSt) : (s.setPair i x).chans = s.chans := rfl
@[simp] theorem State.setPair_aports (s : State) (i : Nat) (x : PairSt) : (s.setPair i x).aports = s.aports := rfl
@[simp] theorem State.setPair_blines (s : State) (i : Nat) (x : PairSt) : (s.setPair i x).blines = s.blines := rfl
@[simp] theorem State.setPair_bsrcs (s : State) (i : Nat) (x : PairSt) : (s.setPair i x).bsrcs = s.bsrcs := rfl
@[simp] theorem State.setPair_bports (s : State) (i : Nat) (x : PairSt) : (s.setPair i x).bports = s.bports := rfl
@[simp] theorem State.setPair_twins (s : State) (i : Nat) (x : PairSt) : (s.setPair i x).twins = s.twins := rfl
@[simp] theorem State.setPair_lanes (s : State) (i : Nat) (x : PairSt) : (s.setPair i x).lanes = s.lanes := rfl
@[simp] theorem State.setPair_flights (s : State) (i : Nat) (x : PairSt) : (s.setPair i x).flights = s.flights := rfl
@[simp] theorem State.setPair_nextId (s : State) (i : Nat) (x : PairSt) : (s.setPair i x).nextId = s.nextId := rfl
@[simp] theorem State.setPair_codePend (s : State) (i : Nat) (x : PairSt) : (s.setPair i x).codePend = s.codePend := rfl
@[simp] theorem State.setPair_spareQ (s : State) (i : Nat) (x : PairSt) : (s.setPair i x).spareQ = s.spareQ := rfl
@[simp] theorem State.setPair_swapWant (s : State) (i : Nat) (x : PairSt) : (s.setPair i x).swapWant = s.swapWant := rfl
@[simp] theorem State.setPair_bmems (s : State) (i : Nat) (x : PairSt) : (s.setPair i x).bmems = s.bmems := rfl
@[simp] theorem State.setPair_bbytes (s : State) (i : Nat) (x : PairSt) : (s.setPair i x).bbytes = s.bbytes := rfl
@[simp] theorem State.setPair_banks (s : State) (i : Nat) (x : PairSt) : (s.setPair i x).banks = s.banks := rfl
@[simp] theorem State.setPair_swords (s : State) (i : Nat) (x : PairSt) : (s.setPair i x).swords = s.swords := rfl
@[simp] theorem State.setPair_hops (s : State) (i : Nat) (x : PairSt) : (s.setPair i x).hops = s.hops := rfl
@[simp] theorem State.setPair_pins (s : State) (i : Nat) (x : PairSt) : (s.setPair i x).pins = s.pins := rfl
@[simp] theorem State.setPair_spinePrevs (s : State) (i : Nat) (x : PairSt) : (s.setPair i x).spinePrevs = s.spinePrevs := rfl
@[simp] theorem State.setPair_pads (s : State) (i : Nat) (x : PairSt) : (s.setPair i x).pads = s.pads := rfl
@[simp] theorem State.setPair_groups (s : State) (i : Nat) (x : PairSt) : (s.setPair i x).groups = s.groups := rfl
@[simp] theorem State.setPair_links (s : State) (i : Nat) (x : PairSt) : (s.setPair i x).links = s.links := rfl
@[simp] theorem State.setPair_reasms (s : State) (i : Nat) (x : PairSt) : (s.setPair i x).reasms = s.reasms := rfl
@[simp] theorem State.setPair_mgmtIn (s : State) (i : Nat) (x : PairSt) : (s.setPair i x).mgmtIn = s.mgmtIn := rfl
@[simp] theorem State.setPair_lateTags (s : State) (i : Nat) (x : PairSt) : (s.setPair i x).lateTags = s.lateTags := rfl
@[simp] theorem State.setPair_slices (s : State) (i : Nat) (x : PairSt) : (s.setPair i x).slices = s.slices := rfl
@[simp] theorem State.setPair_sweep (s : State) (i : Nat) (x : PairSt) : (s.setPair i x).sweep = s.sweep := rfl
@[simp] theorem State.setPair_asyNews (s : State) (i : Nat) (x : PairSt) : (s.setPair i x).asyNews = s.asyNews := rfl
@[simp] theorem State.setPair_sliceEnded (s : State) (i : Nat) (x : PairSt) : (s.setPair i x).sliceEnded = s.sliceEnded := rfl
@[simp] theorem State.setPair_load (s : State) (i : Nat) (x : PairSt) : (s.setPair i x).load = s.load := rfl
@[simp] theorem State.setPair_flash (s : State) (i : Nat) (x : PairSt) : (s.setPair i x).flash = s.flash := rfl
@[simp] theorem State.setPair_gold (s : State) (i : Nat) (x : PairSt) : (s.setPair i x).gold = s.gold := rfl
@[simp] theorem State.setPair_cparks (s : State) (i : Nat) (x : PairSt) : (s.setPair i x).cparks = s.cparks := rfl
@[simp] theorem State.setPair_crcs (s : State) (i : Nat) (x : PairSt) : (s.setPair i x).crcs = s.crcs := rfl
@[simp] theorem State.setPair_loadEnded (s : State) (i : Nat) (x : PairSt) : (s.setPair i x).loadEnded = s.loadEnded := rfl
@[simp] theorem State.setPair_imgHash (s : State) (i : Nat) (x : PairSt) : (s.setPair i x).imgHash = s.imgHash := rfl
@[simp] theorem State.setPair_rimgs (s : State) (i : Nat) (x : PairSt) : (s.setPair i x).rimgs = s.rimgs := rfl
@[simp] theorem State.setPair_staged (s : State) (i : Nat) (x : PairSt) : (s.setPair i x).staged = s.staged := rfl
@[simp] theorem State.setPair_loadAsked (s : State) (i : Nat) (x : PairSt) : (s.setPair i x).loadAsked = s.loadAsked := rfl
@[simp] theorem State.setPair_toldFaults (s : State) (i : Nat) (x : PairSt) : (s.setPair i x).toldFaults = s.toldFaults := rfl
@[simp] theorem State.setPair_kslots (s : State) (i : Nat) (x : PairSt) : (s.setPair i x).kslots = s.kslots := rfl
@[simp] theorem State.setPair_oslots (s : State) (i : Nat) (x : PairSt) : (s.setPair i x).oslots = s.oslots := rfl
@[simp] theorem State.setPair_kcmd (s : State) (i : Nat) (x : PairSt) : (s.setPair i x).kcmd = s.kcmd := rfl
@[simp] theorem State.setPair_cutSlots (s : State) (i : Nat) (x : PairSt) : (s.setPair i x).cutSlots = s.cutSlots := rfl
@[simp] theorem State.setPair_tkrev (s : State) (i : Nat) (x : PairSt) : (s.setPair i x).tkrev = s.tkrev := rfl
@[simp] theorem State.setPair_fwsvn (s : State) (i : Nat) (x : PairSt) : (s.setPair i x).fwsvn = s.fwsvn := rfl
@[simp] theorem State.setPair_fw (s : State) (i : Nat) (x : PairSt) : (s.setPair i x).fw = s.fw := rfl
@[simp] theorem State.setPair_recovery (s : State) (i : Nat) (x : PairSt) : (s.setPair i x).recovery = s.recovery := rfl
@[simp] theorem State.setPair_reports (s : State) (i : Nat) (x : PairSt) : (s.setPair i x).reports = s.reports := rfl
@[simp] theorem State.setPair_signed (s : State) (i : Nat) (x : PairSt) : (s.setPair i x).signed = s.signed := rfl
@[simp] theorem State.setPair_attests (s : State) (i : Nat) (x : PairSt) : (s.setPair i x).attests = s.attests := rfl
@[simp] theorem State.setPair_uarts (s : State) (i : Nat) (x : PairSt) : (s.setPair i x).uarts = s.uarts := rfl
@[simp] theorem State.setPair_spi (s : State) (i : Nat) (x : PairSt) : (s.setPair i x).spi = s.spi := rfl
@[simp] theorem State.setPair_i2cs (s : State) (i : Nat) (x : PairSt) : (s.setPair i x).i2cs = s.i2cs := rfl
@[simp] theorem State.setPair_cores (s : State) (i : Nat) (x : PairSt) : (s.setPair i x).cores = s.cores := rfl
@[simp] theorem State.setPair_wdgs (s : State) (i : Nat) (x : PairSt) : (s.setPair i x).wdgs = s.wdgs := rfl
@[simp] theorem State.setPair_gexts (s : State) (i : Nat) (x : PairSt) : (s.setPair i x).gexts = s.gexts := rfl
@[simp] theorem State.setPair_gkeeps (s : State) (i : Nat) (x : PairSt) : (s.setPair i x).gkeeps = s.gkeeps := rfl
@[simp] theorem State.setPair_glines (s : State) (i : Nat) (x : PairSt) : (s.setPair i x).glines = s.glines := rfl
@[simp] theorem State.setPair_gheld (s : State) (i : Nat) (x : PairSt) : (s.setPair i x).gheld = s.gheld := rfl
@[simp] theorem State.setPair_cmpNews (s : State) (i : Nat) (x : PairSt) : (s.setPair i x).cmpNews = s.cmpNews := rfl
@[simp] theorem State.setPair_ptpNews (s : State) (i : Nat) (x : PairSt) : (s.setPair i x).ptpNews = s.ptpNews := rfl
@[simp] theorem State.setPair_ptpStamp (s : State) (i : Nat) (x : PairSt) : (s.setPair i x).ptpStamp = s.ptpStamp := rfl
@[simp] theorem State.setPair_ppsAt (s : State) (i : Nat) (x : PairSt) : (s.setPair i x).ppsAt = s.ppsAt := rfl
@[simp] theorem State.setPair_mem (s : State) (i : Nat) (x : PairSt) : (s.setPair i x).mem = s.mem := rfl
@[simp] theorem State.setPair_memEpoch (s : State) (i : Nat) (x : PairSt) : (s.setPair i x).memEpoch = s.memEpoch := rfl
@[simp] theorem State.setPair_ix (s : State) (i : Nat) (x : PairSt) : (s.setPair i x).ix = s.ix := rfl
@[simp] theorem State.setPair_ixOut (s : State) (i : Nat) (x : PairSt) : (s.setPair i x).ixOut = s.ixOut := rfl
@[simp] theorem State.setPair_doms (s : State) (i : Nat) (x : PairSt) : (s.setPair i x).doms = s.doms := rfl
@[simp] theorem State.setPair_epoch (s : State) (i : Nat) (x : PairSt) : (s.setPair i x).epoch = s.epoch := rfl
@[simp] theorem State.setPair_ups (s : State) (i : Nat) (x : PairSt) : (s.setPair i x).ups = s.ups := rfl
@[simp] theorem State.setPair_dns (s : State) (i : Nat) (x : PairSt) : (s.setPair i x).dns = s.dns := rfl
@[simp] theorem State.setPair_probes (s : State) (i : Nat) (x : PairSt) : (s.setPair i x).probes = s.probes := rfl
@[simp] theorem State.setPair_tapIr (s : State) (i : Nat) (x : PairSt) : (s.setPair i x).tapIr = s.tapIr := rfl
@[simp] theorem State.setPair_bscan (s : State) (i : Nat) (x : PairSt) : (s.setPair i x).bscan = s.bscan := rfl
@[simp] theorem State.setPair_dbgAcc (s : State) (i : Nat) (x : PairSt) : (s.setPair i x).dbgAcc = s.dbgAcc := rfl
@[simp] theorem State.setPair_dbgStatus (s : State) (i : Nat) (x : PairSt) : (s.setPair i x).dbgStatus = s.dbgStatus := rfl
@[simp] theorem State.setPair_dbgP (s : State) (i : Nat) (x : PairSt) : (s.setPair i x).dbgP = s.dbgP := rfl
@[simp] theorem State.setPair_dbgData (s : State) (i : Nat) (x : PairSt) : (s.setPair i x).dbgData = s.dbgData := rfl
@[simp] theorem State.setPair_bcap (s : State) (i : Nat) (x : PairSt) : (s.setPair i x).bcap = s.bcap := rfl
@[simp] theorem State.setPair_vin (s : State) (i : Nat) (x : PairSt) : (s.setPair i x).vin = s.vin := rfl
@[simp] theorem State.setPair_vbat (s : State) (i : Nat) (x : PairSt) : (s.setPair i x).vbat = s.vbat := rfl
@[simp] theorem State.setPair_bbGone (s : State) (i : Nat) (x : PairSt) : (s.setPair i x).bbGone = s.bbGone := rfl
@[simp] theorem State.setPair_hot (s : State) (i : Nat) (x : PairSt) : (s.setPair i x).hot = s.hot := rfl
@[simp] theorem State.setPair_bootDue (s : State) (i : Nat) (x : PairSt) : (s.setPair i x).bootDue = s.bootDue := rfl

@[simp] theorem State.setSwap_swapWant (s : State) (i : Nat) (x : Option Nat) : (s.setSwap i x).swapWant = Store.put none s.swapWant i x := rfl
@[simp] theorem State.swapOf_setSwap_same (s : State) (i : Nat) (x : Option Nat) : (s.setSwap i x).swapOf i = x := Store.get_put_same _ _ _ _
theorem State.swapOf_setSwap_ne (s : State) (i j : Nat) (x : Option Nat) (h : j ≠ i) : (s.setSwap i x).swapOf j = s.swapOf j := Store.get_put_ne _ _ _ h
@[simp] theorem State.setSwap_pending (s : State) (i : Nat) (x : Option Nat) : (s.setSwap i x).pending = s.pending := rfl
@[simp] theorem State.setSwap_free (s : State) (i : Nat) (x : Option Nat) : (s.setSwap i x).free = s.free := rfl
@[simp] theorem State.setSwap_time (s : State) (i : Nat) (x : Option Nat) : (s.setSwap i x).time = s.time := rfl
@[simp] theorem State.setSwap_regs (s : State) (i : Nat) (x : Option Nat) : (s.setSwap i x).regs = s.regs := rfl
@[simp] theorem State.setSwap_rdata (s : State) (i : Nat) (x : Option Nat) : (s.setSwap i x).rdata = s.rdata := rfl
@[simp] theorem State.setSwap_tports (s : State) (i : Nat) (x : Option Nat) : (s.setSwap i x).tports = s.tports := rfl
@[simp] theorem State.setSwap_tlines (s : State) (i : Nat) (x : Option Nat) : (s.setSwap i x).tlines = s.tlines := rfl
@[simp] theorem State.setSwap_ptp (s : State) (i : Nat) (x : Option Nat) : (s.setSwap i x).ptp = s.ptp := rfl
@[simp] theorem State.setSwap_ptpGo (s : State) (i : Nat) (x : Option Nat) : (s.setSwap i x).ptpGo = s.ptpGo := rfl
@[simp] theorem State.setSwap_ptpMark (s : State) (i : Nat) (x : Option Nat) : (s.setSwap i x).ptpMark = s.ptpMark := rfl
@[simp] theorem State.setSwap_calReq (s : State) (i : Nat) (x : Option Nat) : (s.setSwap i x).calReq = s.calReq := rfl
@[simp] theorem State.setSwap_interval (s : State) (i : Nat) (x : Option Nat) : (s.setSwap i x).interval = s.interval := rfl
@[simp] theorem State.setSwap_frames (s : State) (i : Nat) (x : Option Nat) : (s.setSwap i x).frames = s.frames := rfl
@[simp] theorem State.setSwap_spine (s : State) (i : Nat) (x : Option Nat) : (s.setSwap i x).spine = s.spine := rfl
@[simp] theorem State.setSwap_cells (s : State) (i : Nat) (x : Option Nat) : (s.setSwap i x).cells = s.cells := rfl
@[simp] theorem State.setSwap_regions (s : State) (i : Nat) (x : Option Nat) : (s.setSwap i x).regions = s.regions := rfl
@[simp] theorem State.setSwap_clus (s : State) (i : Nat) (x : Option Nat) : (s.setSwap i x).clus = s.clus := rfl
@[simp] theorem State.setSwap_cfg (s : State) (i : Nat) (x : Option Nat) : (s.setSwap i x).cfg = s.cfg := rfl
@[simp] theorem State.setSwap_chans (s : State) (i : Nat) (x : Option Nat) : (s.setSwap i x).chans = s.chans := rfl
@[simp] theorem State.setSwap_aports (s : State) (i : Nat) (x : Option Nat) : (s.setSwap i x).aports = s.aports := rfl
@[simp] theorem State.setSwap_blines (s : State) (i : Nat) (x : Option Nat) : (s.setSwap i x).blines = s.blines := rfl
@[simp] theorem State.setSwap_bsrcs (s : State) (i : Nat) (x : Option Nat) : (s.setSwap i x).bsrcs = s.bsrcs := rfl
@[simp] theorem State.setSwap_bports (s : State) (i : Nat) (x : Option Nat) : (s.setSwap i x).bports = s.bports := rfl
@[simp] theorem State.setSwap_twins (s : State) (i : Nat) (x : Option Nat) : (s.setSwap i x).twins = s.twins := rfl
@[simp] theorem State.setSwap_lanes (s : State) (i : Nat) (x : Option Nat) : (s.setSwap i x).lanes = s.lanes := rfl
@[simp] theorem State.setSwap_flights (s : State) (i : Nat) (x : Option Nat) : (s.setSwap i x).flights = s.flights := rfl
@[simp] theorem State.setSwap_nextId (s : State) (i : Nat) (x : Option Nat) : (s.setSwap i x).nextId = s.nextId := rfl
@[simp] theorem State.setSwap_pairs (s : State) (i : Nat) (x : Option Nat) : (s.setSwap i x).pairs = s.pairs := rfl
@[simp] theorem State.setSwap_codePend (s : State) (i : Nat) (x : Option Nat) : (s.setSwap i x).codePend = s.codePend := rfl
@[simp] theorem State.setSwap_spareQ (s : State) (i : Nat) (x : Option Nat) : (s.setSwap i x).spareQ = s.spareQ := rfl
@[simp] theorem State.setSwap_bmems (s : State) (i : Nat) (x : Option Nat) : (s.setSwap i x).bmems = s.bmems := rfl
@[simp] theorem State.setSwap_bbytes (s : State) (i : Nat) (x : Option Nat) : (s.setSwap i x).bbytes = s.bbytes := rfl
@[simp] theorem State.setSwap_banks (s : State) (i : Nat) (x : Option Nat) : (s.setSwap i x).banks = s.banks := rfl
@[simp] theorem State.setSwap_swords (s : State) (i : Nat) (x : Option Nat) : (s.setSwap i x).swords = s.swords := rfl
@[simp] theorem State.setSwap_hops (s : State) (i : Nat) (x : Option Nat) : (s.setSwap i x).hops = s.hops := rfl
@[simp] theorem State.setSwap_pins (s : State) (i : Nat) (x : Option Nat) : (s.setSwap i x).pins = s.pins := rfl
@[simp] theorem State.setSwap_spinePrevs (s : State) (i : Nat) (x : Option Nat) : (s.setSwap i x).spinePrevs = s.spinePrevs := rfl
@[simp] theorem State.setSwap_pads (s : State) (i : Nat) (x : Option Nat) : (s.setSwap i x).pads = s.pads := rfl
@[simp] theorem State.setSwap_groups (s : State) (i : Nat) (x : Option Nat) : (s.setSwap i x).groups = s.groups := rfl
@[simp] theorem State.setSwap_links (s : State) (i : Nat) (x : Option Nat) : (s.setSwap i x).links = s.links := rfl
@[simp] theorem State.setSwap_reasms (s : State) (i : Nat) (x : Option Nat) : (s.setSwap i x).reasms = s.reasms := rfl
@[simp] theorem State.setSwap_mgmtIn (s : State) (i : Nat) (x : Option Nat) : (s.setSwap i x).mgmtIn = s.mgmtIn := rfl
@[simp] theorem State.setSwap_lateTags (s : State) (i : Nat) (x : Option Nat) : (s.setSwap i x).lateTags = s.lateTags := rfl
@[simp] theorem State.setSwap_slices (s : State) (i : Nat) (x : Option Nat) : (s.setSwap i x).slices = s.slices := rfl
@[simp] theorem State.setSwap_sweep (s : State) (i : Nat) (x : Option Nat) : (s.setSwap i x).sweep = s.sweep := rfl
@[simp] theorem State.setSwap_asyNews (s : State) (i : Nat) (x : Option Nat) : (s.setSwap i x).asyNews = s.asyNews := rfl
@[simp] theorem State.setSwap_sliceEnded (s : State) (i : Nat) (x : Option Nat) : (s.setSwap i x).sliceEnded = s.sliceEnded := rfl
@[simp] theorem State.setSwap_load (s : State) (i : Nat) (x : Option Nat) : (s.setSwap i x).load = s.load := rfl
@[simp] theorem State.setSwap_flash (s : State) (i : Nat) (x : Option Nat) : (s.setSwap i x).flash = s.flash := rfl
@[simp] theorem State.setSwap_gold (s : State) (i : Nat) (x : Option Nat) : (s.setSwap i x).gold = s.gold := rfl
@[simp] theorem State.setSwap_cparks (s : State) (i : Nat) (x : Option Nat) : (s.setSwap i x).cparks = s.cparks := rfl
@[simp] theorem State.setSwap_crcs (s : State) (i : Nat) (x : Option Nat) : (s.setSwap i x).crcs = s.crcs := rfl
@[simp] theorem State.setSwap_loadEnded (s : State) (i : Nat) (x : Option Nat) : (s.setSwap i x).loadEnded = s.loadEnded := rfl
@[simp] theorem State.setSwap_imgHash (s : State) (i : Nat) (x : Option Nat) : (s.setSwap i x).imgHash = s.imgHash := rfl
@[simp] theorem State.setSwap_rimgs (s : State) (i : Nat) (x : Option Nat) : (s.setSwap i x).rimgs = s.rimgs := rfl
@[simp] theorem State.setSwap_staged (s : State) (i : Nat) (x : Option Nat) : (s.setSwap i x).staged = s.staged := rfl
@[simp] theorem State.setSwap_loadAsked (s : State) (i : Nat) (x : Option Nat) : (s.setSwap i x).loadAsked = s.loadAsked := rfl
@[simp] theorem State.setSwap_toldFaults (s : State) (i : Nat) (x : Option Nat) : (s.setSwap i x).toldFaults = s.toldFaults := rfl
@[simp] theorem State.setSwap_kslots (s : State) (i : Nat) (x : Option Nat) : (s.setSwap i x).kslots = s.kslots := rfl
@[simp] theorem State.setSwap_oslots (s : State) (i : Nat) (x : Option Nat) : (s.setSwap i x).oslots = s.oslots := rfl
@[simp] theorem State.setSwap_kcmd (s : State) (i : Nat) (x : Option Nat) : (s.setSwap i x).kcmd = s.kcmd := rfl
@[simp] theorem State.setSwap_cutSlots (s : State) (i : Nat) (x : Option Nat) : (s.setSwap i x).cutSlots = s.cutSlots := rfl
@[simp] theorem State.setSwap_tkrev (s : State) (i : Nat) (x : Option Nat) : (s.setSwap i x).tkrev = s.tkrev := rfl
@[simp] theorem State.setSwap_fwsvn (s : State) (i : Nat) (x : Option Nat) : (s.setSwap i x).fwsvn = s.fwsvn := rfl
@[simp] theorem State.setSwap_fw (s : State) (i : Nat) (x : Option Nat) : (s.setSwap i x).fw = s.fw := rfl
@[simp] theorem State.setSwap_recovery (s : State) (i : Nat) (x : Option Nat) : (s.setSwap i x).recovery = s.recovery := rfl
@[simp] theorem State.setSwap_reports (s : State) (i : Nat) (x : Option Nat) : (s.setSwap i x).reports = s.reports := rfl
@[simp] theorem State.setSwap_signed (s : State) (i : Nat) (x : Option Nat) : (s.setSwap i x).signed = s.signed := rfl
@[simp] theorem State.setSwap_attests (s : State) (i : Nat) (x : Option Nat) : (s.setSwap i x).attests = s.attests := rfl
@[simp] theorem State.setSwap_uarts (s : State) (i : Nat) (x : Option Nat) : (s.setSwap i x).uarts = s.uarts := rfl
@[simp] theorem State.setSwap_spi (s : State) (i : Nat) (x : Option Nat) : (s.setSwap i x).spi = s.spi := rfl
@[simp] theorem State.setSwap_i2cs (s : State) (i : Nat) (x : Option Nat) : (s.setSwap i x).i2cs = s.i2cs := rfl
@[simp] theorem State.setSwap_cores (s : State) (i : Nat) (x : Option Nat) : (s.setSwap i x).cores = s.cores := rfl
@[simp] theorem State.setSwap_wdgs (s : State) (i : Nat) (x : Option Nat) : (s.setSwap i x).wdgs = s.wdgs := rfl
@[simp] theorem State.setSwap_gexts (s : State) (i : Nat) (x : Option Nat) : (s.setSwap i x).gexts = s.gexts := rfl
@[simp] theorem State.setSwap_gkeeps (s : State) (i : Nat) (x : Option Nat) : (s.setSwap i x).gkeeps = s.gkeeps := rfl
@[simp] theorem State.setSwap_glines (s : State) (i : Nat) (x : Option Nat) : (s.setSwap i x).glines = s.glines := rfl
@[simp] theorem State.setSwap_gheld (s : State) (i : Nat) (x : Option Nat) : (s.setSwap i x).gheld = s.gheld := rfl
@[simp] theorem State.setSwap_cmpNews (s : State) (i : Nat) (x : Option Nat) : (s.setSwap i x).cmpNews = s.cmpNews := rfl
@[simp] theorem State.setSwap_ptpNews (s : State) (i : Nat) (x : Option Nat) : (s.setSwap i x).ptpNews = s.ptpNews := rfl
@[simp] theorem State.setSwap_ptpStamp (s : State) (i : Nat) (x : Option Nat) : (s.setSwap i x).ptpStamp = s.ptpStamp := rfl
@[simp] theorem State.setSwap_ppsAt (s : State) (i : Nat) (x : Option Nat) : (s.setSwap i x).ppsAt = s.ppsAt := rfl
@[simp] theorem State.setSwap_mem (s : State) (i : Nat) (x : Option Nat) : (s.setSwap i x).mem = s.mem := rfl
@[simp] theorem State.setSwap_memEpoch (s : State) (i : Nat) (x : Option Nat) : (s.setSwap i x).memEpoch = s.memEpoch := rfl
@[simp] theorem State.setSwap_ix (s : State) (i : Nat) (x : Option Nat) : (s.setSwap i x).ix = s.ix := rfl
@[simp] theorem State.setSwap_ixOut (s : State) (i : Nat) (x : Option Nat) : (s.setSwap i x).ixOut = s.ixOut := rfl
@[simp] theorem State.setSwap_doms (s : State) (i : Nat) (x : Option Nat) : (s.setSwap i x).doms = s.doms := rfl
@[simp] theorem State.setSwap_epoch (s : State) (i : Nat) (x : Option Nat) : (s.setSwap i x).epoch = s.epoch := rfl
@[simp] theorem State.setSwap_ups (s : State) (i : Nat) (x : Option Nat) : (s.setSwap i x).ups = s.ups := rfl
@[simp] theorem State.setSwap_dns (s : State) (i : Nat) (x : Option Nat) : (s.setSwap i x).dns = s.dns := rfl
@[simp] theorem State.setSwap_probes (s : State) (i : Nat) (x : Option Nat) : (s.setSwap i x).probes = s.probes := rfl
@[simp] theorem State.setSwap_tapIr (s : State) (i : Nat) (x : Option Nat) : (s.setSwap i x).tapIr = s.tapIr := rfl
@[simp] theorem State.setSwap_bscan (s : State) (i : Nat) (x : Option Nat) : (s.setSwap i x).bscan = s.bscan := rfl
@[simp] theorem State.setSwap_dbgAcc (s : State) (i : Nat) (x : Option Nat) : (s.setSwap i x).dbgAcc = s.dbgAcc := rfl
@[simp] theorem State.setSwap_dbgStatus (s : State) (i : Nat) (x : Option Nat) : (s.setSwap i x).dbgStatus = s.dbgStatus := rfl
@[simp] theorem State.setSwap_dbgP (s : State) (i : Nat) (x : Option Nat) : (s.setSwap i x).dbgP = s.dbgP := rfl
@[simp] theorem State.setSwap_dbgData (s : State) (i : Nat) (x : Option Nat) : (s.setSwap i x).dbgData = s.dbgData := rfl
@[simp] theorem State.setSwap_bcap (s : State) (i : Nat) (x : Option Nat) : (s.setSwap i x).bcap = s.bcap := rfl
@[simp] theorem State.setSwap_vin (s : State) (i : Nat) (x : Option Nat) : (s.setSwap i x).vin = s.vin := rfl
@[simp] theorem State.setSwap_vbat (s : State) (i : Nat) (x : Option Nat) : (s.setSwap i x).vbat = s.vbat := rfl
@[simp] theorem State.setSwap_bbGone (s : State) (i : Nat) (x : Option Nat) : (s.setSwap i x).bbGone = s.bbGone := rfl
@[simp] theorem State.setSwap_hot (s : State) (i : Nat) (x : Option Nat) : (s.setSwap i x).hot = s.hot := rfl
@[simp] theorem State.setSwap_bootDue (s : State) (i : Nat) (x : Option Nat) : (s.setSwap i x).bootDue = s.bootDue := rfl

@[simp] theorem State.setBmem_bmems (s : State) (i : Nat) (x : BMem) : (s.setBmem i x).bmems = Store.put {} s.bmems i x := rfl
@[simp] theorem State.bmem_setBmem_same (s : State) (i : Nat) (x : BMem) : (s.setBmem i x).bmem i = x := Store.get_put_same _ _ _ _
theorem State.bmem_setBmem_ne (s : State) (i j : Nat) (x : BMem) (h : j ≠ i) : (s.setBmem i x).bmem j = s.bmem j := Store.get_put_ne _ _ _ h
@[simp] theorem State.setBmem_pending (s : State) (i : Nat) (x : BMem) : (s.setBmem i x).pending = s.pending := rfl
@[simp] theorem State.setBmem_free (s : State) (i : Nat) (x : BMem) : (s.setBmem i x).free = s.free := rfl
@[simp] theorem State.setBmem_time (s : State) (i : Nat) (x : BMem) : (s.setBmem i x).time = s.time := rfl
@[simp] theorem State.setBmem_regs (s : State) (i : Nat) (x : BMem) : (s.setBmem i x).regs = s.regs := rfl
@[simp] theorem State.setBmem_rdata (s : State) (i : Nat) (x : BMem) : (s.setBmem i x).rdata = s.rdata := rfl
@[simp] theorem State.setBmem_tports (s : State) (i : Nat) (x : BMem) : (s.setBmem i x).tports = s.tports := rfl
@[simp] theorem State.setBmem_tlines (s : State) (i : Nat) (x : BMem) : (s.setBmem i x).tlines = s.tlines := rfl
@[simp] theorem State.setBmem_ptp (s : State) (i : Nat) (x : BMem) : (s.setBmem i x).ptp = s.ptp := rfl
@[simp] theorem State.setBmem_ptpGo (s : State) (i : Nat) (x : BMem) : (s.setBmem i x).ptpGo = s.ptpGo := rfl
@[simp] theorem State.setBmem_ptpMark (s : State) (i : Nat) (x : BMem) : (s.setBmem i x).ptpMark = s.ptpMark := rfl
@[simp] theorem State.setBmem_calReq (s : State) (i : Nat) (x : BMem) : (s.setBmem i x).calReq = s.calReq := rfl
@[simp] theorem State.setBmem_interval (s : State) (i : Nat) (x : BMem) : (s.setBmem i x).interval = s.interval := rfl
@[simp] theorem State.setBmem_frames (s : State) (i : Nat) (x : BMem) : (s.setBmem i x).frames = s.frames := rfl
@[simp] theorem State.setBmem_spine (s : State) (i : Nat) (x : BMem) : (s.setBmem i x).spine = s.spine := rfl
@[simp] theorem State.setBmem_cells (s : State) (i : Nat) (x : BMem) : (s.setBmem i x).cells = s.cells := rfl
@[simp] theorem State.setBmem_regions (s : State) (i : Nat) (x : BMem) : (s.setBmem i x).regions = s.regions := rfl
@[simp] theorem State.setBmem_clus (s : State) (i : Nat) (x : BMem) : (s.setBmem i x).clus = s.clus := rfl
@[simp] theorem State.setBmem_cfg (s : State) (i : Nat) (x : BMem) : (s.setBmem i x).cfg = s.cfg := rfl
@[simp] theorem State.setBmem_chans (s : State) (i : Nat) (x : BMem) : (s.setBmem i x).chans = s.chans := rfl
@[simp] theorem State.setBmem_aports (s : State) (i : Nat) (x : BMem) : (s.setBmem i x).aports = s.aports := rfl
@[simp] theorem State.setBmem_blines (s : State) (i : Nat) (x : BMem) : (s.setBmem i x).blines = s.blines := rfl
@[simp] theorem State.setBmem_bsrcs (s : State) (i : Nat) (x : BMem) : (s.setBmem i x).bsrcs = s.bsrcs := rfl
@[simp] theorem State.setBmem_bports (s : State) (i : Nat) (x : BMem) : (s.setBmem i x).bports = s.bports := rfl
@[simp] theorem State.setBmem_twins (s : State) (i : Nat) (x : BMem) : (s.setBmem i x).twins = s.twins := rfl
@[simp] theorem State.setBmem_lanes (s : State) (i : Nat) (x : BMem) : (s.setBmem i x).lanes = s.lanes := rfl
@[simp] theorem State.setBmem_flights (s : State) (i : Nat) (x : BMem) : (s.setBmem i x).flights = s.flights := rfl
@[simp] theorem State.setBmem_nextId (s : State) (i : Nat) (x : BMem) : (s.setBmem i x).nextId = s.nextId := rfl
@[simp] theorem State.setBmem_pairs (s : State) (i : Nat) (x : BMem) : (s.setBmem i x).pairs = s.pairs := rfl
@[simp] theorem State.setBmem_codePend (s : State) (i : Nat) (x : BMem) : (s.setBmem i x).codePend = s.codePend := rfl
@[simp] theorem State.setBmem_spareQ (s : State) (i : Nat) (x : BMem) : (s.setBmem i x).spareQ = s.spareQ := rfl
@[simp] theorem State.setBmem_swapWant (s : State) (i : Nat) (x : BMem) : (s.setBmem i x).swapWant = s.swapWant := rfl
@[simp] theorem State.setBmem_bbytes (s : State) (i : Nat) (x : BMem) : (s.setBmem i x).bbytes = s.bbytes := rfl
@[simp] theorem State.setBmem_banks (s : State) (i : Nat) (x : BMem) : (s.setBmem i x).banks = s.banks := rfl
@[simp] theorem State.setBmem_swords (s : State) (i : Nat) (x : BMem) : (s.setBmem i x).swords = s.swords := rfl
@[simp] theorem State.setBmem_hops (s : State) (i : Nat) (x : BMem) : (s.setBmem i x).hops = s.hops := rfl
@[simp] theorem State.setBmem_pins (s : State) (i : Nat) (x : BMem) : (s.setBmem i x).pins = s.pins := rfl
@[simp] theorem State.setBmem_spinePrevs (s : State) (i : Nat) (x : BMem) : (s.setBmem i x).spinePrevs = s.spinePrevs := rfl
@[simp] theorem State.setBmem_pads (s : State) (i : Nat) (x : BMem) : (s.setBmem i x).pads = s.pads := rfl
@[simp] theorem State.setBmem_groups (s : State) (i : Nat) (x : BMem) : (s.setBmem i x).groups = s.groups := rfl
@[simp] theorem State.setBmem_links (s : State) (i : Nat) (x : BMem) : (s.setBmem i x).links = s.links := rfl
@[simp] theorem State.setBmem_reasms (s : State) (i : Nat) (x : BMem) : (s.setBmem i x).reasms = s.reasms := rfl
@[simp] theorem State.setBmem_mgmtIn (s : State) (i : Nat) (x : BMem) : (s.setBmem i x).mgmtIn = s.mgmtIn := rfl
@[simp] theorem State.setBmem_lateTags (s : State) (i : Nat) (x : BMem) : (s.setBmem i x).lateTags = s.lateTags := rfl
@[simp] theorem State.setBmem_slices (s : State) (i : Nat) (x : BMem) : (s.setBmem i x).slices = s.slices := rfl
@[simp] theorem State.setBmem_sweep (s : State) (i : Nat) (x : BMem) : (s.setBmem i x).sweep = s.sweep := rfl
@[simp] theorem State.setBmem_asyNews (s : State) (i : Nat) (x : BMem) : (s.setBmem i x).asyNews = s.asyNews := rfl
@[simp] theorem State.setBmem_sliceEnded (s : State) (i : Nat) (x : BMem) : (s.setBmem i x).sliceEnded = s.sliceEnded := rfl
@[simp] theorem State.setBmem_load (s : State) (i : Nat) (x : BMem) : (s.setBmem i x).load = s.load := rfl
@[simp] theorem State.setBmem_flash (s : State) (i : Nat) (x : BMem) : (s.setBmem i x).flash = s.flash := rfl
@[simp] theorem State.setBmem_gold (s : State) (i : Nat) (x : BMem) : (s.setBmem i x).gold = s.gold := rfl
@[simp] theorem State.setBmem_cparks (s : State) (i : Nat) (x : BMem) : (s.setBmem i x).cparks = s.cparks := rfl
@[simp] theorem State.setBmem_crcs (s : State) (i : Nat) (x : BMem) : (s.setBmem i x).crcs = s.crcs := rfl
@[simp] theorem State.setBmem_loadEnded (s : State) (i : Nat) (x : BMem) : (s.setBmem i x).loadEnded = s.loadEnded := rfl
@[simp] theorem State.setBmem_imgHash (s : State) (i : Nat) (x : BMem) : (s.setBmem i x).imgHash = s.imgHash := rfl
@[simp] theorem State.setBmem_rimgs (s : State) (i : Nat) (x : BMem) : (s.setBmem i x).rimgs = s.rimgs := rfl
@[simp] theorem State.setBmem_staged (s : State) (i : Nat) (x : BMem) : (s.setBmem i x).staged = s.staged := rfl
@[simp] theorem State.setBmem_loadAsked (s : State) (i : Nat) (x : BMem) : (s.setBmem i x).loadAsked = s.loadAsked := rfl
@[simp] theorem State.setBmem_toldFaults (s : State) (i : Nat) (x : BMem) : (s.setBmem i x).toldFaults = s.toldFaults := rfl
@[simp] theorem State.setBmem_kslots (s : State) (i : Nat) (x : BMem) : (s.setBmem i x).kslots = s.kslots := rfl
@[simp] theorem State.setBmem_oslots (s : State) (i : Nat) (x : BMem) : (s.setBmem i x).oslots = s.oslots := rfl
@[simp] theorem State.setBmem_kcmd (s : State) (i : Nat) (x : BMem) : (s.setBmem i x).kcmd = s.kcmd := rfl
@[simp] theorem State.setBmem_cutSlots (s : State) (i : Nat) (x : BMem) : (s.setBmem i x).cutSlots = s.cutSlots := rfl
@[simp] theorem State.setBmem_tkrev (s : State) (i : Nat) (x : BMem) : (s.setBmem i x).tkrev = s.tkrev := rfl
@[simp] theorem State.setBmem_fwsvn (s : State) (i : Nat) (x : BMem) : (s.setBmem i x).fwsvn = s.fwsvn := rfl
@[simp] theorem State.setBmem_fw (s : State) (i : Nat) (x : BMem) : (s.setBmem i x).fw = s.fw := rfl
@[simp] theorem State.setBmem_recovery (s : State) (i : Nat) (x : BMem) : (s.setBmem i x).recovery = s.recovery := rfl
@[simp] theorem State.setBmem_reports (s : State) (i : Nat) (x : BMem) : (s.setBmem i x).reports = s.reports := rfl
@[simp] theorem State.setBmem_signed (s : State) (i : Nat) (x : BMem) : (s.setBmem i x).signed = s.signed := rfl
@[simp] theorem State.setBmem_attests (s : State) (i : Nat) (x : BMem) : (s.setBmem i x).attests = s.attests := rfl
@[simp] theorem State.setBmem_uarts (s : State) (i : Nat) (x : BMem) : (s.setBmem i x).uarts = s.uarts := rfl
@[simp] theorem State.setBmem_spi (s : State) (i : Nat) (x : BMem) : (s.setBmem i x).spi = s.spi := rfl
@[simp] theorem State.setBmem_i2cs (s : State) (i : Nat) (x : BMem) : (s.setBmem i x).i2cs = s.i2cs := rfl
@[simp] theorem State.setBmem_cores (s : State) (i : Nat) (x : BMem) : (s.setBmem i x).cores = s.cores := rfl
@[simp] theorem State.setBmem_wdgs (s : State) (i : Nat) (x : BMem) : (s.setBmem i x).wdgs = s.wdgs := rfl
@[simp] theorem State.setBmem_gexts (s : State) (i : Nat) (x : BMem) : (s.setBmem i x).gexts = s.gexts := rfl
@[simp] theorem State.setBmem_gkeeps (s : State) (i : Nat) (x : BMem) : (s.setBmem i x).gkeeps = s.gkeeps := rfl
@[simp] theorem State.setBmem_glines (s : State) (i : Nat) (x : BMem) : (s.setBmem i x).glines = s.glines := rfl
@[simp] theorem State.setBmem_gheld (s : State) (i : Nat) (x : BMem) : (s.setBmem i x).gheld = s.gheld := rfl
@[simp] theorem State.setBmem_cmpNews (s : State) (i : Nat) (x : BMem) : (s.setBmem i x).cmpNews = s.cmpNews := rfl
@[simp] theorem State.setBmem_ptpNews (s : State) (i : Nat) (x : BMem) : (s.setBmem i x).ptpNews = s.ptpNews := rfl
@[simp] theorem State.setBmem_ptpStamp (s : State) (i : Nat) (x : BMem) : (s.setBmem i x).ptpStamp = s.ptpStamp := rfl
@[simp] theorem State.setBmem_ppsAt (s : State) (i : Nat) (x : BMem) : (s.setBmem i x).ppsAt = s.ppsAt := rfl
@[simp] theorem State.setBmem_mem (s : State) (i : Nat) (x : BMem) : (s.setBmem i x).mem = s.mem := rfl
@[simp] theorem State.setBmem_memEpoch (s : State) (i : Nat) (x : BMem) : (s.setBmem i x).memEpoch = s.memEpoch := rfl
@[simp] theorem State.setBmem_ix (s : State) (i : Nat) (x : BMem) : (s.setBmem i x).ix = s.ix := rfl
@[simp] theorem State.setBmem_ixOut (s : State) (i : Nat) (x : BMem) : (s.setBmem i x).ixOut = s.ixOut := rfl
@[simp] theorem State.setBmem_doms (s : State) (i : Nat) (x : BMem) : (s.setBmem i x).doms = s.doms := rfl
@[simp] theorem State.setBmem_epoch (s : State) (i : Nat) (x : BMem) : (s.setBmem i x).epoch = s.epoch := rfl
@[simp] theorem State.setBmem_ups (s : State) (i : Nat) (x : BMem) : (s.setBmem i x).ups = s.ups := rfl
@[simp] theorem State.setBmem_dns (s : State) (i : Nat) (x : BMem) : (s.setBmem i x).dns = s.dns := rfl
@[simp] theorem State.setBmem_probes (s : State) (i : Nat) (x : BMem) : (s.setBmem i x).probes = s.probes := rfl
@[simp] theorem State.setBmem_tapIr (s : State) (i : Nat) (x : BMem) : (s.setBmem i x).tapIr = s.tapIr := rfl
@[simp] theorem State.setBmem_bscan (s : State) (i : Nat) (x : BMem) : (s.setBmem i x).bscan = s.bscan := rfl
@[simp] theorem State.setBmem_dbgAcc (s : State) (i : Nat) (x : BMem) : (s.setBmem i x).dbgAcc = s.dbgAcc := rfl
@[simp] theorem State.setBmem_dbgStatus (s : State) (i : Nat) (x : BMem) : (s.setBmem i x).dbgStatus = s.dbgStatus := rfl
@[simp] theorem State.setBmem_dbgP (s : State) (i : Nat) (x : BMem) : (s.setBmem i x).dbgP = s.dbgP := rfl
@[simp] theorem State.setBmem_dbgData (s : State) (i : Nat) (x : BMem) : (s.setBmem i x).dbgData = s.dbgData := rfl
@[simp] theorem State.setBmem_bcap (s : State) (i : Nat) (x : BMem) : (s.setBmem i x).bcap = s.bcap := rfl
@[simp] theorem State.setBmem_vin (s : State) (i : Nat) (x : BMem) : (s.setBmem i x).vin = s.vin := rfl
@[simp] theorem State.setBmem_vbat (s : State) (i : Nat) (x : BMem) : (s.setBmem i x).vbat = s.vbat := rfl
@[simp] theorem State.setBmem_bbGone (s : State) (i : Nat) (x : BMem) : (s.setBmem i x).bbGone = s.bbGone := rfl
@[simp] theorem State.setBmem_hot (s : State) (i : Nat) (x : BMem) : (s.setBmem i x).hot = s.hot := rfl
@[simp] theorem State.setBmem_bootDue (s : State) (i : Nat) (x : BMem) : (s.setBmem i x).bootDue = s.bootDue := rfl

@[simp] theorem State.setBbyte_bbytes (s : State) (i : Nat) (x : Option (Byte × Bool)) : (s.setBbyte i x).bbytes = Store.put none s.bbytes i x := rfl
@[simp] theorem State.bbyte_setBbyte_same (s : State) (i : Nat) (x : Option (Byte × Bool)) : (s.setBbyte i x).bbyte i = x := Store.get_put_same _ _ _ _
theorem State.bbyte_setBbyte_ne (s : State) (i j : Nat) (x : Option (Byte × Bool)) (h : j ≠ i) : (s.setBbyte i x).bbyte j = s.bbyte j := Store.get_put_ne _ _ _ h
@[simp] theorem State.setBbyte_pending (s : State) (i : Nat) (x : Option (Byte × Bool)) : (s.setBbyte i x).pending = s.pending := rfl
@[simp] theorem State.setBbyte_free (s : State) (i : Nat) (x : Option (Byte × Bool)) : (s.setBbyte i x).free = s.free := rfl
@[simp] theorem State.setBbyte_time (s : State) (i : Nat) (x : Option (Byte × Bool)) : (s.setBbyte i x).time = s.time := rfl
@[simp] theorem State.setBbyte_regs (s : State) (i : Nat) (x : Option (Byte × Bool)) : (s.setBbyte i x).regs = s.regs := rfl
@[simp] theorem State.setBbyte_rdata (s : State) (i : Nat) (x : Option (Byte × Bool)) : (s.setBbyte i x).rdata = s.rdata := rfl
@[simp] theorem State.setBbyte_tports (s : State) (i : Nat) (x : Option (Byte × Bool)) : (s.setBbyte i x).tports = s.tports := rfl
@[simp] theorem State.setBbyte_tlines (s : State) (i : Nat) (x : Option (Byte × Bool)) : (s.setBbyte i x).tlines = s.tlines := rfl
@[simp] theorem State.setBbyte_ptp (s : State) (i : Nat) (x : Option (Byte × Bool)) : (s.setBbyte i x).ptp = s.ptp := rfl
@[simp] theorem State.setBbyte_ptpGo (s : State) (i : Nat) (x : Option (Byte × Bool)) : (s.setBbyte i x).ptpGo = s.ptpGo := rfl
@[simp] theorem State.setBbyte_ptpMark (s : State) (i : Nat) (x : Option (Byte × Bool)) : (s.setBbyte i x).ptpMark = s.ptpMark := rfl
@[simp] theorem State.setBbyte_calReq (s : State) (i : Nat) (x : Option (Byte × Bool)) : (s.setBbyte i x).calReq = s.calReq := rfl
@[simp] theorem State.setBbyte_interval (s : State) (i : Nat) (x : Option (Byte × Bool)) : (s.setBbyte i x).interval = s.interval := rfl
@[simp] theorem State.setBbyte_frames (s : State) (i : Nat) (x : Option (Byte × Bool)) : (s.setBbyte i x).frames = s.frames := rfl
@[simp] theorem State.setBbyte_spine (s : State) (i : Nat) (x : Option (Byte × Bool)) : (s.setBbyte i x).spine = s.spine := rfl
@[simp] theorem State.setBbyte_cells (s : State) (i : Nat) (x : Option (Byte × Bool)) : (s.setBbyte i x).cells = s.cells := rfl
@[simp] theorem State.setBbyte_regions (s : State) (i : Nat) (x : Option (Byte × Bool)) : (s.setBbyte i x).regions = s.regions := rfl
@[simp] theorem State.setBbyte_clus (s : State) (i : Nat) (x : Option (Byte × Bool)) : (s.setBbyte i x).clus = s.clus := rfl
@[simp] theorem State.setBbyte_cfg (s : State) (i : Nat) (x : Option (Byte × Bool)) : (s.setBbyte i x).cfg = s.cfg := rfl
@[simp] theorem State.setBbyte_chans (s : State) (i : Nat) (x : Option (Byte × Bool)) : (s.setBbyte i x).chans = s.chans := rfl
@[simp] theorem State.setBbyte_aports (s : State) (i : Nat) (x : Option (Byte × Bool)) : (s.setBbyte i x).aports = s.aports := rfl
@[simp] theorem State.setBbyte_blines (s : State) (i : Nat) (x : Option (Byte × Bool)) : (s.setBbyte i x).blines = s.blines := rfl
@[simp] theorem State.setBbyte_bsrcs (s : State) (i : Nat) (x : Option (Byte × Bool)) : (s.setBbyte i x).bsrcs = s.bsrcs := rfl
@[simp] theorem State.setBbyte_bports (s : State) (i : Nat) (x : Option (Byte × Bool)) : (s.setBbyte i x).bports = s.bports := rfl
@[simp] theorem State.setBbyte_twins (s : State) (i : Nat) (x : Option (Byte × Bool)) : (s.setBbyte i x).twins = s.twins := rfl
@[simp] theorem State.setBbyte_lanes (s : State) (i : Nat) (x : Option (Byte × Bool)) : (s.setBbyte i x).lanes = s.lanes := rfl
@[simp] theorem State.setBbyte_flights (s : State) (i : Nat) (x : Option (Byte × Bool)) : (s.setBbyte i x).flights = s.flights := rfl
@[simp] theorem State.setBbyte_nextId (s : State) (i : Nat) (x : Option (Byte × Bool)) : (s.setBbyte i x).nextId = s.nextId := rfl
@[simp] theorem State.setBbyte_pairs (s : State) (i : Nat) (x : Option (Byte × Bool)) : (s.setBbyte i x).pairs = s.pairs := rfl
@[simp] theorem State.setBbyte_codePend (s : State) (i : Nat) (x : Option (Byte × Bool)) : (s.setBbyte i x).codePend = s.codePend := rfl
@[simp] theorem State.setBbyte_spareQ (s : State) (i : Nat) (x : Option (Byte × Bool)) : (s.setBbyte i x).spareQ = s.spareQ := rfl
@[simp] theorem State.setBbyte_swapWant (s : State) (i : Nat) (x : Option (Byte × Bool)) : (s.setBbyte i x).swapWant = s.swapWant := rfl
@[simp] theorem State.setBbyte_bmems (s : State) (i : Nat) (x : Option (Byte × Bool)) : (s.setBbyte i x).bmems = s.bmems := rfl
@[simp] theorem State.setBbyte_banks (s : State) (i : Nat) (x : Option (Byte × Bool)) : (s.setBbyte i x).banks = s.banks := rfl
@[simp] theorem State.setBbyte_swords (s : State) (i : Nat) (x : Option (Byte × Bool)) : (s.setBbyte i x).swords = s.swords := rfl
@[simp] theorem State.setBbyte_hops (s : State) (i : Nat) (x : Option (Byte × Bool)) : (s.setBbyte i x).hops = s.hops := rfl
@[simp] theorem State.setBbyte_pins (s : State) (i : Nat) (x : Option (Byte × Bool)) : (s.setBbyte i x).pins = s.pins := rfl
@[simp] theorem State.setBbyte_spinePrevs (s : State) (i : Nat) (x : Option (Byte × Bool)) : (s.setBbyte i x).spinePrevs = s.spinePrevs := rfl
@[simp] theorem State.setBbyte_pads (s : State) (i : Nat) (x : Option (Byte × Bool)) : (s.setBbyte i x).pads = s.pads := rfl
@[simp] theorem State.setBbyte_groups (s : State) (i : Nat) (x : Option (Byte × Bool)) : (s.setBbyte i x).groups = s.groups := rfl
@[simp] theorem State.setBbyte_links (s : State) (i : Nat) (x : Option (Byte × Bool)) : (s.setBbyte i x).links = s.links := rfl
@[simp] theorem State.setBbyte_reasms (s : State) (i : Nat) (x : Option (Byte × Bool)) : (s.setBbyte i x).reasms = s.reasms := rfl
@[simp] theorem State.setBbyte_mgmtIn (s : State) (i : Nat) (x : Option (Byte × Bool)) : (s.setBbyte i x).mgmtIn = s.mgmtIn := rfl
@[simp] theorem State.setBbyte_lateTags (s : State) (i : Nat) (x : Option (Byte × Bool)) : (s.setBbyte i x).lateTags = s.lateTags := rfl
@[simp] theorem State.setBbyte_slices (s : State) (i : Nat) (x : Option (Byte × Bool)) : (s.setBbyte i x).slices = s.slices := rfl
@[simp] theorem State.setBbyte_sweep (s : State) (i : Nat) (x : Option (Byte × Bool)) : (s.setBbyte i x).sweep = s.sweep := rfl
@[simp] theorem State.setBbyte_asyNews (s : State) (i : Nat) (x : Option (Byte × Bool)) : (s.setBbyte i x).asyNews = s.asyNews := rfl
@[simp] theorem State.setBbyte_sliceEnded (s : State) (i : Nat) (x : Option (Byte × Bool)) : (s.setBbyte i x).sliceEnded = s.sliceEnded := rfl
@[simp] theorem State.setBbyte_load (s : State) (i : Nat) (x : Option (Byte × Bool)) : (s.setBbyte i x).load = s.load := rfl
@[simp] theorem State.setBbyte_flash (s : State) (i : Nat) (x : Option (Byte × Bool)) : (s.setBbyte i x).flash = s.flash := rfl
@[simp] theorem State.setBbyte_gold (s : State) (i : Nat) (x : Option (Byte × Bool)) : (s.setBbyte i x).gold = s.gold := rfl
@[simp] theorem State.setBbyte_cparks (s : State) (i : Nat) (x : Option (Byte × Bool)) : (s.setBbyte i x).cparks = s.cparks := rfl
@[simp] theorem State.setBbyte_crcs (s : State) (i : Nat) (x : Option (Byte × Bool)) : (s.setBbyte i x).crcs = s.crcs := rfl
@[simp] theorem State.setBbyte_loadEnded (s : State) (i : Nat) (x : Option (Byte × Bool)) : (s.setBbyte i x).loadEnded = s.loadEnded := rfl
@[simp] theorem State.setBbyte_imgHash (s : State) (i : Nat) (x : Option (Byte × Bool)) : (s.setBbyte i x).imgHash = s.imgHash := rfl
@[simp] theorem State.setBbyte_rimgs (s : State) (i : Nat) (x : Option (Byte × Bool)) : (s.setBbyte i x).rimgs = s.rimgs := rfl
@[simp] theorem State.setBbyte_staged (s : State) (i : Nat) (x : Option (Byte × Bool)) : (s.setBbyte i x).staged = s.staged := rfl
@[simp] theorem State.setBbyte_loadAsked (s : State) (i : Nat) (x : Option (Byte × Bool)) : (s.setBbyte i x).loadAsked = s.loadAsked := rfl
@[simp] theorem State.setBbyte_toldFaults (s : State) (i : Nat) (x : Option (Byte × Bool)) : (s.setBbyte i x).toldFaults = s.toldFaults := rfl
@[simp] theorem State.setBbyte_kslots (s : State) (i : Nat) (x : Option (Byte × Bool)) : (s.setBbyte i x).kslots = s.kslots := rfl
@[simp] theorem State.setBbyte_oslots (s : State) (i : Nat) (x : Option (Byte × Bool)) : (s.setBbyte i x).oslots = s.oslots := rfl
@[simp] theorem State.setBbyte_kcmd (s : State) (i : Nat) (x : Option (Byte × Bool)) : (s.setBbyte i x).kcmd = s.kcmd := rfl
@[simp] theorem State.setBbyte_cutSlots (s : State) (i : Nat) (x : Option (Byte × Bool)) : (s.setBbyte i x).cutSlots = s.cutSlots := rfl
@[simp] theorem State.setBbyte_tkrev (s : State) (i : Nat) (x : Option (Byte × Bool)) : (s.setBbyte i x).tkrev = s.tkrev := rfl
@[simp] theorem State.setBbyte_fwsvn (s : State) (i : Nat) (x : Option (Byte × Bool)) : (s.setBbyte i x).fwsvn = s.fwsvn := rfl
@[simp] theorem State.setBbyte_fw (s : State) (i : Nat) (x : Option (Byte × Bool)) : (s.setBbyte i x).fw = s.fw := rfl
@[simp] theorem State.setBbyte_recovery (s : State) (i : Nat) (x : Option (Byte × Bool)) : (s.setBbyte i x).recovery = s.recovery := rfl
@[simp] theorem State.setBbyte_reports (s : State) (i : Nat) (x : Option (Byte × Bool)) : (s.setBbyte i x).reports = s.reports := rfl
@[simp] theorem State.setBbyte_signed (s : State) (i : Nat) (x : Option (Byte × Bool)) : (s.setBbyte i x).signed = s.signed := rfl
@[simp] theorem State.setBbyte_attests (s : State) (i : Nat) (x : Option (Byte × Bool)) : (s.setBbyte i x).attests = s.attests := rfl
@[simp] theorem State.setBbyte_uarts (s : State) (i : Nat) (x : Option (Byte × Bool)) : (s.setBbyte i x).uarts = s.uarts := rfl
@[simp] theorem State.setBbyte_spi (s : State) (i : Nat) (x : Option (Byte × Bool)) : (s.setBbyte i x).spi = s.spi := rfl
@[simp] theorem State.setBbyte_i2cs (s : State) (i : Nat) (x : Option (Byte × Bool)) : (s.setBbyte i x).i2cs = s.i2cs := rfl
@[simp] theorem State.setBbyte_cores (s : State) (i : Nat) (x : Option (Byte × Bool)) : (s.setBbyte i x).cores = s.cores := rfl
@[simp] theorem State.setBbyte_wdgs (s : State) (i : Nat) (x : Option (Byte × Bool)) : (s.setBbyte i x).wdgs = s.wdgs := rfl
@[simp] theorem State.setBbyte_gexts (s : State) (i : Nat) (x : Option (Byte × Bool)) : (s.setBbyte i x).gexts = s.gexts := rfl
@[simp] theorem State.setBbyte_gkeeps (s : State) (i : Nat) (x : Option (Byte × Bool)) : (s.setBbyte i x).gkeeps = s.gkeeps := rfl
@[simp] theorem State.setBbyte_glines (s : State) (i : Nat) (x : Option (Byte × Bool)) : (s.setBbyte i x).glines = s.glines := rfl
@[simp] theorem State.setBbyte_gheld (s : State) (i : Nat) (x : Option (Byte × Bool)) : (s.setBbyte i x).gheld = s.gheld := rfl
@[simp] theorem State.setBbyte_cmpNews (s : State) (i : Nat) (x : Option (Byte × Bool)) : (s.setBbyte i x).cmpNews = s.cmpNews := rfl
@[simp] theorem State.setBbyte_ptpNews (s : State) (i : Nat) (x : Option (Byte × Bool)) : (s.setBbyte i x).ptpNews = s.ptpNews := rfl
@[simp] theorem State.setBbyte_ptpStamp (s : State) (i : Nat) (x : Option (Byte × Bool)) : (s.setBbyte i x).ptpStamp = s.ptpStamp := rfl
@[simp] theorem State.setBbyte_ppsAt (s : State) (i : Nat) (x : Option (Byte × Bool)) : (s.setBbyte i x).ppsAt = s.ppsAt := rfl
@[simp] theorem State.setBbyte_mem (s : State) (i : Nat) (x : Option (Byte × Bool)) : (s.setBbyte i x).mem = s.mem := rfl
@[simp] theorem State.setBbyte_memEpoch (s : State) (i : Nat) (x : Option (Byte × Bool)) : (s.setBbyte i x).memEpoch = s.memEpoch := rfl
@[simp] theorem State.setBbyte_ix (s : State) (i : Nat) (x : Option (Byte × Bool)) : (s.setBbyte i x).ix = s.ix := rfl
@[simp] theorem State.setBbyte_ixOut (s : State) (i : Nat) (x : Option (Byte × Bool)) : (s.setBbyte i x).ixOut = s.ixOut := rfl
@[simp] theorem State.setBbyte_doms (s : State) (i : Nat) (x : Option (Byte × Bool)) : (s.setBbyte i x).doms = s.doms := rfl
@[simp] theorem State.setBbyte_epoch (s : State) (i : Nat) (x : Option (Byte × Bool)) : (s.setBbyte i x).epoch = s.epoch := rfl
@[simp] theorem State.setBbyte_ups (s : State) (i : Nat) (x : Option (Byte × Bool)) : (s.setBbyte i x).ups = s.ups := rfl
@[simp] theorem State.setBbyte_dns (s : State) (i : Nat) (x : Option (Byte × Bool)) : (s.setBbyte i x).dns = s.dns := rfl
@[simp] theorem State.setBbyte_probes (s : State) (i : Nat) (x : Option (Byte × Bool)) : (s.setBbyte i x).probes = s.probes := rfl
@[simp] theorem State.setBbyte_tapIr (s : State) (i : Nat) (x : Option (Byte × Bool)) : (s.setBbyte i x).tapIr = s.tapIr := rfl
@[simp] theorem State.setBbyte_bscan (s : State) (i : Nat) (x : Option (Byte × Bool)) : (s.setBbyte i x).bscan = s.bscan := rfl
@[simp] theorem State.setBbyte_dbgAcc (s : State) (i : Nat) (x : Option (Byte × Bool)) : (s.setBbyte i x).dbgAcc = s.dbgAcc := rfl
@[simp] theorem State.setBbyte_dbgStatus (s : State) (i : Nat) (x : Option (Byte × Bool)) : (s.setBbyte i x).dbgStatus = s.dbgStatus := rfl
@[simp] theorem State.setBbyte_dbgP (s : State) (i : Nat) (x : Option (Byte × Bool)) : (s.setBbyte i x).dbgP = s.dbgP := rfl
@[simp] theorem State.setBbyte_dbgData (s : State) (i : Nat) (x : Option (Byte × Bool)) : (s.setBbyte i x).dbgData = s.dbgData := rfl
@[simp] theorem State.setBbyte_bcap (s : State) (i : Nat) (x : Option (Byte × Bool)) : (s.setBbyte i x).bcap = s.bcap := rfl
@[simp] theorem State.setBbyte_vin (s : State) (i : Nat) (x : Option (Byte × Bool)) : (s.setBbyte i x).vin = s.vin := rfl
@[simp] theorem State.setBbyte_vbat (s : State) (i : Nat) (x : Option (Byte × Bool)) : (s.setBbyte i x).vbat = s.vbat := rfl
@[simp] theorem State.setBbyte_bbGone (s : State) (i : Nat) (x : Option (Byte × Bool)) : (s.setBbyte i x).bbGone = s.bbGone := rfl
@[simp] theorem State.setBbyte_hot (s : State) (i : Nat) (x : Option (Byte × Bool)) : (s.setBbyte i x).hot = s.hot := rfl
@[simp] theorem State.setBbyte_bootDue (s : State) (i : Nat) (x : Option (Byte × Bool)) : (s.setBbyte i x).bootDue = s.bootDue := rfl

@[simp] theorem State.setBank_banks (s : State) (i : Nat) (x : Bank) : (s.setBank i x).banks = Store.put {} s.banks i x := rfl
@[simp] theorem State.bank_setBank_same (s : State) (i : Nat) (x : Bank) : (s.setBank i x).bank i = x := Store.get_put_same _ _ _ _
theorem State.bank_setBank_ne (s : State) (i j : Nat) (x : Bank) (h : j ≠ i) : (s.setBank i x).bank j = s.bank j := Store.get_put_ne _ _ _ h
@[simp] theorem State.setBank_pending (s : State) (i : Nat) (x : Bank) : (s.setBank i x).pending = s.pending := rfl
@[simp] theorem State.setBank_free (s : State) (i : Nat) (x : Bank) : (s.setBank i x).free = s.free := rfl
@[simp] theorem State.setBank_time (s : State) (i : Nat) (x : Bank) : (s.setBank i x).time = s.time := rfl
@[simp] theorem State.setBank_regs (s : State) (i : Nat) (x : Bank) : (s.setBank i x).regs = s.regs := rfl
@[simp] theorem State.setBank_rdata (s : State) (i : Nat) (x : Bank) : (s.setBank i x).rdata = s.rdata := rfl
@[simp] theorem State.setBank_tports (s : State) (i : Nat) (x : Bank) : (s.setBank i x).tports = s.tports := rfl
@[simp] theorem State.setBank_tlines (s : State) (i : Nat) (x : Bank) : (s.setBank i x).tlines = s.tlines := rfl
@[simp] theorem State.setBank_ptp (s : State) (i : Nat) (x : Bank) : (s.setBank i x).ptp = s.ptp := rfl
@[simp] theorem State.setBank_ptpGo (s : State) (i : Nat) (x : Bank) : (s.setBank i x).ptpGo = s.ptpGo := rfl
@[simp] theorem State.setBank_ptpMark (s : State) (i : Nat) (x : Bank) : (s.setBank i x).ptpMark = s.ptpMark := rfl
@[simp] theorem State.setBank_calReq (s : State) (i : Nat) (x : Bank) : (s.setBank i x).calReq = s.calReq := rfl
@[simp] theorem State.setBank_interval (s : State) (i : Nat) (x : Bank) : (s.setBank i x).interval = s.interval := rfl
@[simp] theorem State.setBank_frames (s : State) (i : Nat) (x : Bank) : (s.setBank i x).frames = s.frames := rfl
@[simp] theorem State.setBank_spine (s : State) (i : Nat) (x : Bank) : (s.setBank i x).spine = s.spine := rfl
@[simp] theorem State.setBank_cells (s : State) (i : Nat) (x : Bank) : (s.setBank i x).cells = s.cells := rfl
@[simp] theorem State.setBank_regions (s : State) (i : Nat) (x : Bank) : (s.setBank i x).regions = s.regions := rfl
@[simp] theorem State.setBank_clus (s : State) (i : Nat) (x : Bank) : (s.setBank i x).clus = s.clus := rfl
@[simp] theorem State.setBank_cfg (s : State) (i : Nat) (x : Bank) : (s.setBank i x).cfg = s.cfg := rfl
@[simp] theorem State.setBank_chans (s : State) (i : Nat) (x : Bank) : (s.setBank i x).chans = s.chans := rfl
@[simp] theorem State.setBank_aports (s : State) (i : Nat) (x : Bank) : (s.setBank i x).aports = s.aports := rfl
@[simp] theorem State.setBank_blines (s : State) (i : Nat) (x : Bank) : (s.setBank i x).blines = s.blines := rfl
@[simp] theorem State.setBank_bsrcs (s : State) (i : Nat) (x : Bank) : (s.setBank i x).bsrcs = s.bsrcs := rfl
@[simp] theorem State.setBank_bports (s : State) (i : Nat) (x : Bank) : (s.setBank i x).bports = s.bports := rfl
@[simp] theorem State.setBank_twins (s : State) (i : Nat) (x : Bank) : (s.setBank i x).twins = s.twins := rfl
@[simp] theorem State.setBank_lanes (s : State) (i : Nat) (x : Bank) : (s.setBank i x).lanes = s.lanes := rfl
@[simp] theorem State.setBank_flights (s : State) (i : Nat) (x : Bank) : (s.setBank i x).flights = s.flights := rfl
@[simp] theorem State.setBank_nextId (s : State) (i : Nat) (x : Bank) : (s.setBank i x).nextId = s.nextId := rfl
@[simp] theorem State.setBank_pairs (s : State) (i : Nat) (x : Bank) : (s.setBank i x).pairs = s.pairs := rfl
@[simp] theorem State.setBank_codePend (s : State) (i : Nat) (x : Bank) : (s.setBank i x).codePend = s.codePend := rfl
@[simp] theorem State.setBank_spareQ (s : State) (i : Nat) (x : Bank) : (s.setBank i x).spareQ = s.spareQ := rfl
@[simp] theorem State.setBank_swapWant (s : State) (i : Nat) (x : Bank) : (s.setBank i x).swapWant = s.swapWant := rfl
@[simp] theorem State.setBank_bmems (s : State) (i : Nat) (x : Bank) : (s.setBank i x).bmems = s.bmems := rfl
@[simp] theorem State.setBank_bbytes (s : State) (i : Nat) (x : Bank) : (s.setBank i x).bbytes = s.bbytes := rfl
@[simp] theorem State.setBank_swords (s : State) (i : Nat) (x : Bank) : (s.setBank i x).swords = s.swords := rfl
@[simp] theorem State.setBank_hops (s : State) (i : Nat) (x : Bank) : (s.setBank i x).hops = s.hops := rfl
@[simp] theorem State.setBank_pins (s : State) (i : Nat) (x : Bank) : (s.setBank i x).pins = s.pins := rfl
@[simp] theorem State.setBank_spinePrevs (s : State) (i : Nat) (x : Bank) : (s.setBank i x).spinePrevs = s.spinePrevs := rfl
@[simp] theorem State.setBank_pads (s : State) (i : Nat) (x : Bank) : (s.setBank i x).pads = s.pads := rfl
@[simp] theorem State.setBank_groups (s : State) (i : Nat) (x : Bank) : (s.setBank i x).groups = s.groups := rfl
@[simp] theorem State.setBank_links (s : State) (i : Nat) (x : Bank) : (s.setBank i x).links = s.links := rfl
@[simp] theorem State.setBank_reasms (s : State) (i : Nat) (x : Bank) : (s.setBank i x).reasms = s.reasms := rfl
@[simp] theorem State.setBank_mgmtIn (s : State) (i : Nat) (x : Bank) : (s.setBank i x).mgmtIn = s.mgmtIn := rfl
@[simp] theorem State.setBank_lateTags (s : State) (i : Nat) (x : Bank) : (s.setBank i x).lateTags = s.lateTags := rfl
@[simp] theorem State.setBank_slices (s : State) (i : Nat) (x : Bank) : (s.setBank i x).slices = s.slices := rfl
@[simp] theorem State.setBank_sweep (s : State) (i : Nat) (x : Bank) : (s.setBank i x).sweep = s.sweep := rfl
@[simp] theorem State.setBank_asyNews (s : State) (i : Nat) (x : Bank) : (s.setBank i x).asyNews = s.asyNews := rfl
@[simp] theorem State.setBank_sliceEnded (s : State) (i : Nat) (x : Bank) : (s.setBank i x).sliceEnded = s.sliceEnded := rfl
@[simp] theorem State.setBank_load (s : State) (i : Nat) (x : Bank) : (s.setBank i x).load = s.load := rfl
@[simp] theorem State.setBank_flash (s : State) (i : Nat) (x : Bank) : (s.setBank i x).flash = s.flash := rfl
@[simp] theorem State.setBank_gold (s : State) (i : Nat) (x : Bank) : (s.setBank i x).gold = s.gold := rfl
@[simp] theorem State.setBank_cparks (s : State) (i : Nat) (x : Bank) : (s.setBank i x).cparks = s.cparks := rfl
@[simp] theorem State.setBank_crcs (s : State) (i : Nat) (x : Bank) : (s.setBank i x).crcs = s.crcs := rfl
@[simp] theorem State.setBank_loadEnded (s : State) (i : Nat) (x : Bank) : (s.setBank i x).loadEnded = s.loadEnded := rfl
@[simp] theorem State.setBank_imgHash (s : State) (i : Nat) (x : Bank) : (s.setBank i x).imgHash = s.imgHash := rfl
@[simp] theorem State.setBank_rimgs (s : State) (i : Nat) (x : Bank) : (s.setBank i x).rimgs = s.rimgs := rfl
@[simp] theorem State.setBank_staged (s : State) (i : Nat) (x : Bank) : (s.setBank i x).staged = s.staged := rfl
@[simp] theorem State.setBank_loadAsked (s : State) (i : Nat) (x : Bank) : (s.setBank i x).loadAsked = s.loadAsked := rfl
@[simp] theorem State.setBank_toldFaults (s : State) (i : Nat) (x : Bank) : (s.setBank i x).toldFaults = s.toldFaults := rfl
@[simp] theorem State.setBank_kslots (s : State) (i : Nat) (x : Bank) : (s.setBank i x).kslots = s.kslots := rfl
@[simp] theorem State.setBank_oslots (s : State) (i : Nat) (x : Bank) : (s.setBank i x).oslots = s.oslots := rfl
@[simp] theorem State.setBank_kcmd (s : State) (i : Nat) (x : Bank) : (s.setBank i x).kcmd = s.kcmd := rfl
@[simp] theorem State.setBank_cutSlots (s : State) (i : Nat) (x : Bank) : (s.setBank i x).cutSlots = s.cutSlots := rfl
@[simp] theorem State.setBank_tkrev (s : State) (i : Nat) (x : Bank) : (s.setBank i x).tkrev = s.tkrev := rfl
@[simp] theorem State.setBank_fwsvn (s : State) (i : Nat) (x : Bank) : (s.setBank i x).fwsvn = s.fwsvn := rfl
@[simp] theorem State.setBank_fw (s : State) (i : Nat) (x : Bank) : (s.setBank i x).fw = s.fw := rfl
@[simp] theorem State.setBank_recovery (s : State) (i : Nat) (x : Bank) : (s.setBank i x).recovery = s.recovery := rfl
@[simp] theorem State.setBank_reports (s : State) (i : Nat) (x : Bank) : (s.setBank i x).reports = s.reports := rfl
@[simp] theorem State.setBank_signed (s : State) (i : Nat) (x : Bank) : (s.setBank i x).signed = s.signed := rfl
@[simp] theorem State.setBank_attests (s : State) (i : Nat) (x : Bank) : (s.setBank i x).attests = s.attests := rfl
@[simp] theorem State.setBank_uarts (s : State) (i : Nat) (x : Bank) : (s.setBank i x).uarts = s.uarts := rfl
@[simp] theorem State.setBank_spi (s : State) (i : Nat) (x : Bank) : (s.setBank i x).spi = s.spi := rfl
@[simp] theorem State.setBank_i2cs (s : State) (i : Nat) (x : Bank) : (s.setBank i x).i2cs = s.i2cs := rfl
@[simp] theorem State.setBank_cores (s : State) (i : Nat) (x : Bank) : (s.setBank i x).cores = s.cores := rfl
@[simp] theorem State.setBank_wdgs (s : State) (i : Nat) (x : Bank) : (s.setBank i x).wdgs = s.wdgs := rfl
@[simp] theorem State.setBank_gexts (s : State) (i : Nat) (x : Bank) : (s.setBank i x).gexts = s.gexts := rfl
@[simp] theorem State.setBank_gkeeps (s : State) (i : Nat) (x : Bank) : (s.setBank i x).gkeeps = s.gkeeps := rfl
@[simp] theorem State.setBank_glines (s : State) (i : Nat) (x : Bank) : (s.setBank i x).glines = s.glines := rfl
@[simp] theorem State.setBank_gheld (s : State) (i : Nat) (x : Bank) : (s.setBank i x).gheld = s.gheld := rfl
@[simp] theorem State.setBank_cmpNews (s : State) (i : Nat) (x : Bank) : (s.setBank i x).cmpNews = s.cmpNews := rfl
@[simp] theorem State.setBank_ptpNews (s : State) (i : Nat) (x : Bank) : (s.setBank i x).ptpNews = s.ptpNews := rfl
@[simp] theorem State.setBank_ptpStamp (s : State) (i : Nat) (x : Bank) : (s.setBank i x).ptpStamp = s.ptpStamp := rfl
@[simp] theorem State.setBank_ppsAt (s : State) (i : Nat) (x : Bank) : (s.setBank i x).ppsAt = s.ppsAt := rfl
@[simp] theorem State.setBank_mem (s : State) (i : Nat) (x : Bank) : (s.setBank i x).mem = s.mem := rfl
@[simp] theorem State.setBank_memEpoch (s : State) (i : Nat) (x : Bank) : (s.setBank i x).memEpoch = s.memEpoch := rfl
@[simp] theorem State.setBank_ix (s : State) (i : Nat) (x : Bank) : (s.setBank i x).ix = s.ix := rfl
@[simp] theorem State.setBank_ixOut (s : State) (i : Nat) (x : Bank) : (s.setBank i x).ixOut = s.ixOut := rfl
@[simp] theorem State.setBank_doms (s : State) (i : Nat) (x : Bank) : (s.setBank i x).doms = s.doms := rfl
@[simp] theorem State.setBank_epoch (s : State) (i : Nat) (x : Bank) : (s.setBank i x).epoch = s.epoch := rfl
@[simp] theorem State.setBank_ups (s : State) (i : Nat) (x : Bank) : (s.setBank i x).ups = s.ups := rfl
@[simp] theorem State.setBank_dns (s : State) (i : Nat) (x : Bank) : (s.setBank i x).dns = s.dns := rfl
@[simp] theorem State.setBank_probes (s : State) (i : Nat) (x : Bank) : (s.setBank i x).probes = s.probes := rfl
@[simp] theorem State.setBank_tapIr (s : State) (i : Nat) (x : Bank) : (s.setBank i x).tapIr = s.tapIr := rfl
@[simp] theorem State.setBank_bscan (s : State) (i : Nat) (x : Bank) : (s.setBank i x).bscan = s.bscan := rfl
@[simp] theorem State.setBank_dbgAcc (s : State) (i : Nat) (x : Bank) : (s.setBank i x).dbgAcc = s.dbgAcc := rfl
@[simp] theorem State.setBank_dbgStatus (s : State) (i : Nat) (x : Bank) : (s.setBank i x).dbgStatus = s.dbgStatus := rfl
@[simp] theorem State.setBank_dbgP (s : State) (i : Nat) (x : Bank) : (s.setBank i x).dbgP = s.dbgP := rfl
@[simp] theorem State.setBank_dbgData (s : State) (i : Nat) (x : Bank) : (s.setBank i x).dbgData = s.dbgData := rfl
@[simp] theorem State.setBank_bcap (s : State) (i : Nat) (x : Bank) : (s.setBank i x).bcap = s.bcap := rfl
@[simp] theorem State.setBank_vin (s : State) (i : Nat) (x : Bank) : (s.setBank i x).vin = s.vin := rfl
@[simp] theorem State.setBank_vbat (s : State) (i : Nat) (x : Bank) : (s.setBank i x).vbat = s.vbat := rfl
@[simp] theorem State.setBank_bbGone (s : State) (i : Nat) (x : Bank) : (s.setBank i x).bbGone = s.bbGone := rfl
@[simp] theorem State.setBank_hot (s : State) (i : Nat) (x : Bank) : (s.setBank i x).hot = s.hot := rfl
@[simp] theorem State.setBank_bootDue (s : State) (i : Nat) (x : Bank) : (s.setBank i x).bootDue = s.bootDue := rfl

@[simp] theorem State.setSword_swords (s : State) (i : Nat) (x : Option (Word × BitVec 39)) : (s.setSword i x).swords = Store.put none s.swords i x := rfl
@[simp] theorem State.sword_setSword_same (s : State) (i : Nat) (x : Option (Word × BitVec 39)) : (s.setSword i x).sword i = x := Store.get_put_same _ _ _ _
theorem State.sword_setSword_ne (s : State) (i j : Nat) (x : Option (Word × BitVec 39)) (h : j ≠ i) : (s.setSword i x).sword j = s.sword j := Store.get_put_ne _ _ _ h
@[simp] theorem State.setSword_pending (s : State) (i : Nat) (x : Option (Word × BitVec 39)) : (s.setSword i x).pending = s.pending := rfl
@[simp] theorem State.setSword_free (s : State) (i : Nat) (x : Option (Word × BitVec 39)) : (s.setSword i x).free = s.free := rfl
@[simp] theorem State.setSword_time (s : State) (i : Nat) (x : Option (Word × BitVec 39)) : (s.setSword i x).time = s.time := rfl
@[simp] theorem State.setSword_regs (s : State) (i : Nat) (x : Option (Word × BitVec 39)) : (s.setSword i x).regs = s.regs := rfl
@[simp] theorem State.setSword_rdata (s : State) (i : Nat) (x : Option (Word × BitVec 39)) : (s.setSword i x).rdata = s.rdata := rfl
@[simp] theorem State.setSword_tports (s : State) (i : Nat) (x : Option (Word × BitVec 39)) : (s.setSword i x).tports = s.tports := rfl
@[simp] theorem State.setSword_tlines (s : State) (i : Nat) (x : Option (Word × BitVec 39)) : (s.setSword i x).tlines = s.tlines := rfl
@[simp] theorem State.setSword_ptp (s : State) (i : Nat) (x : Option (Word × BitVec 39)) : (s.setSword i x).ptp = s.ptp := rfl
@[simp] theorem State.setSword_ptpGo (s : State) (i : Nat) (x : Option (Word × BitVec 39)) : (s.setSword i x).ptpGo = s.ptpGo := rfl
@[simp] theorem State.setSword_ptpMark (s : State) (i : Nat) (x : Option (Word × BitVec 39)) : (s.setSword i x).ptpMark = s.ptpMark := rfl
@[simp] theorem State.setSword_calReq (s : State) (i : Nat) (x : Option (Word × BitVec 39)) : (s.setSword i x).calReq = s.calReq := rfl
@[simp] theorem State.setSword_interval (s : State) (i : Nat) (x : Option (Word × BitVec 39)) : (s.setSword i x).interval = s.interval := rfl
@[simp] theorem State.setSword_frames (s : State) (i : Nat) (x : Option (Word × BitVec 39)) : (s.setSword i x).frames = s.frames := rfl
@[simp] theorem State.setSword_spine (s : State) (i : Nat) (x : Option (Word × BitVec 39)) : (s.setSword i x).spine = s.spine := rfl
@[simp] theorem State.setSword_cells (s : State) (i : Nat) (x : Option (Word × BitVec 39)) : (s.setSword i x).cells = s.cells := rfl
@[simp] theorem State.setSword_regions (s : State) (i : Nat) (x : Option (Word × BitVec 39)) : (s.setSword i x).regions = s.regions := rfl
@[simp] theorem State.setSword_clus (s : State) (i : Nat) (x : Option (Word × BitVec 39)) : (s.setSword i x).clus = s.clus := rfl
@[simp] theorem State.setSword_cfg (s : State) (i : Nat) (x : Option (Word × BitVec 39)) : (s.setSword i x).cfg = s.cfg := rfl
@[simp] theorem State.setSword_chans (s : State) (i : Nat) (x : Option (Word × BitVec 39)) : (s.setSword i x).chans = s.chans := rfl
@[simp] theorem State.setSword_aports (s : State) (i : Nat) (x : Option (Word × BitVec 39)) : (s.setSword i x).aports = s.aports := rfl
@[simp] theorem State.setSword_blines (s : State) (i : Nat) (x : Option (Word × BitVec 39)) : (s.setSword i x).blines = s.blines := rfl
@[simp] theorem State.setSword_bsrcs (s : State) (i : Nat) (x : Option (Word × BitVec 39)) : (s.setSword i x).bsrcs = s.bsrcs := rfl
@[simp] theorem State.setSword_bports (s : State) (i : Nat) (x : Option (Word × BitVec 39)) : (s.setSword i x).bports = s.bports := rfl
@[simp] theorem State.setSword_twins (s : State) (i : Nat) (x : Option (Word × BitVec 39)) : (s.setSword i x).twins = s.twins := rfl
@[simp] theorem State.setSword_lanes (s : State) (i : Nat) (x : Option (Word × BitVec 39)) : (s.setSword i x).lanes = s.lanes := rfl
@[simp] theorem State.setSword_flights (s : State) (i : Nat) (x : Option (Word × BitVec 39)) : (s.setSword i x).flights = s.flights := rfl
@[simp] theorem State.setSword_nextId (s : State) (i : Nat) (x : Option (Word × BitVec 39)) : (s.setSword i x).nextId = s.nextId := rfl
@[simp] theorem State.setSword_pairs (s : State) (i : Nat) (x : Option (Word × BitVec 39)) : (s.setSword i x).pairs = s.pairs := rfl
@[simp] theorem State.setSword_codePend (s : State) (i : Nat) (x : Option (Word × BitVec 39)) : (s.setSword i x).codePend = s.codePend := rfl
@[simp] theorem State.setSword_spareQ (s : State) (i : Nat) (x : Option (Word × BitVec 39)) : (s.setSword i x).spareQ = s.spareQ := rfl
@[simp] theorem State.setSword_swapWant (s : State) (i : Nat) (x : Option (Word × BitVec 39)) : (s.setSword i x).swapWant = s.swapWant := rfl
@[simp] theorem State.setSword_bmems (s : State) (i : Nat) (x : Option (Word × BitVec 39)) : (s.setSword i x).bmems = s.bmems := rfl
@[simp] theorem State.setSword_bbytes (s : State) (i : Nat) (x : Option (Word × BitVec 39)) : (s.setSword i x).bbytes = s.bbytes := rfl
@[simp] theorem State.setSword_banks (s : State) (i : Nat) (x : Option (Word × BitVec 39)) : (s.setSword i x).banks = s.banks := rfl
@[simp] theorem State.setSword_hops (s : State) (i : Nat) (x : Option (Word × BitVec 39)) : (s.setSword i x).hops = s.hops := rfl
@[simp] theorem State.setSword_pins (s : State) (i : Nat) (x : Option (Word × BitVec 39)) : (s.setSword i x).pins = s.pins := rfl
@[simp] theorem State.setSword_spinePrevs (s : State) (i : Nat) (x : Option (Word × BitVec 39)) : (s.setSword i x).spinePrevs = s.spinePrevs := rfl
@[simp] theorem State.setSword_pads (s : State) (i : Nat) (x : Option (Word × BitVec 39)) : (s.setSword i x).pads = s.pads := rfl
@[simp] theorem State.setSword_groups (s : State) (i : Nat) (x : Option (Word × BitVec 39)) : (s.setSword i x).groups = s.groups := rfl
@[simp] theorem State.setSword_links (s : State) (i : Nat) (x : Option (Word × BitVec 39)) : (s.setSword i x).links = s.links := rfl
@[simp] theorem State.setSword_reasms (s : State) (i : Nat) (x : Option (Word × BitVec 39)) : (s.setSword i x).reasms = s.reasms := rfl
@[simp] theorem State.setSword_mgmtIn (s : State) (i : Nat) (x : Option (Word × BitVec 39)) : (s.setSword i x).mgmtIn = s.mgmtIn := rfl
@[simp] theorem State.setSword_lateTags (s : State) (i : Nat) (x : Option (Word × BitVec 39)) : (s.setSword i x).lateTags = s.lateTags := rfl
@[simp] theorem State.setSword_slices (s : State) (i : Nat) (x : Option (Word × BitVec 39)) : (s.setSword i x).slices = s.slices := rfl
@[simp] theorem State.setSword_sweep (s : State) (i : Nat) (x : Option (Word × BitVec 39)) : (s.setSword i x).sweep = s.sweep := rfl
@[simp] theorem State.setSword_asyNews (s : State) (i : Nat) (x : Option (Word × BitVec 39)) : (s.setSword i x).asyNews = s.asyNews := rfl
@[simp] theorem State.setSword_sliceEnded (s : State) (i : Nat) (x : Option (Word × BitVec 39)) : (s.setSword i x).sliceEnded = s.sliceEnded := rfl
@[simp] theorem State.setSword_load (s : State) (i : Nat) (x : Option (Word × BitVec 39)) : (s.setSword i x).load = s.load := rfl
@[simp] theorem State.setSword_flash (s : State) (i : Nat) (x : Option (Word × BitVec 39)) : (s.setSword i x).flash = s.flash := rfl
@[simp] theorem State.setSword_gold (s : State) (i : Nat) (x : Option (Word × BitVec 39)) : (s.setSword i x).gold = s.gold := rfl
@[simp] theorem State.setSword_cparks (s : State) (i : Nat) (x : Option (Word × BitVec 39)) : (s.setSword i x).cparks = s.cparks := rfl
@[simp] theorem State.setSword_crcs (s : State) (i : Nat) (x : Option (Word × BitVec 39)) : (s.setSword i x).crcs = s.crcs := rfl
@[simp] theorem State.setSword_loadEnded (s : State) (i : Nat) (x : Option (Word × BitVec 39)) : (s.setSword i x).loadEnded = s.loadEnded := rfl
@[simp] theorem State.setSword_imgHash (s : State) (i : Nat) (x : Option (Word × BitVec 39)) : (s.setSword i x).imgHash = s.imgHash := rfl
@[simp] theorem State.setSword_rimgs (s : State) (i : Nat) (x : Option (Word × BitVec 39)) : (s.setSword i x).rimgs = s.rimgs := rfl
@[simp] theorem State.setSword_staged (s : State) (i : Nat) (x : Option (Word × BitVec 39)) : (s.setSword i x).staged = s.staged := rfl
@[simp] theorem State.setSword_loadAsked (s : State) (i : Nat) (x : Option (Word × BitVec 39)) : (s.setSword i x).loadAsked = s.loadAsked := rfl
@[simp] theorem State.setSword_toldFaults (s : State) (i : Nat) (x : Option (Word × BitVec 39)) : (s.setSword i x).toldFaults = s.toldFaults := rfl
@[simp] theorem State.setSword_kslots (s : State) (i : Nat) (x : Option (Word × BitVec 39)) : (s.setSword i x).kslots = s.kslots := rfl
@[simp] theorem State.setSword_oslots (s : State) (i : Nat) (x : Option (Word × BitVec 39)) : (s.setSword i x).oslots = s.oslots := rfl
@[simp] theorem State.setSword_kcmd (s : State) (i : Nat) (x : Option (Word × BitVec 39)) : (s.setSword i x).kcmd = s.kcmd := rfl
@[simp] theorem State.setSword_cutSlots (s : State) (i : Nat) (x : Option (Word × BitVec 39)) : (s.setSword i x).cutSlots = s.cutSlots := rfl
@[simp] theorem State.setSword_tkrev (s : State) (i : Nat) (x : Option (Word × BitVec 39)) : (s.setSword i x).tkrev = s.tkrev := rfl
@[simp] theorem State.setSword_fwsvn (s : State) (i : Nat) (x : Option (Word × BitVec 39)) : (s.setSword i x).fwsvn = s.fwsvn := rfl
@[simp] theorem State.setSword_fw (s : State) (i : Nat) (x : Option (Word × BitVec 39)) : (s.setSword i x).fw = s.fw := rfl
@[simp] theorem State.setSword_recovery (s : State) (i : Nat) (x : Option (Word × BitVec 39)) : (s.setSword i x).recovery = s.recovery := rfl
@[simp] theorem State.setSword_reports (s : State) (i : Nat) (x : Option (Word × BitVec 39)) : (s.setSword i x).reports = s.reports := rfl
@[simp] theorem State.setSword_signed (s : State) (i : Nat) (x : Option (Word × BitVec 39)) : (s.setSword i x).signed = s.signed := rfl
@[simp] theorem State.setSword_attests (s : State) (i : Nat) (x : Option (Word × BitVec 39)) : (s.setSword i x).attests = s.attests := rfl
@[simp] theorem State.setSword_uarts (s : State) (i : Nat) (x : Option (Word × BitVec 39)) : (s.setSword i x).uarts = s.uarts := rfl
@[simp] theorem State.setSword_spi (s : State) (i : Nat) (x : Option (Word × BitVec 39)) : (s.setSword i x).spi = s.spi := rfl
@[simp] theorem State.setSword_i2cs (s : State) (i : Nat) (x : Option (Word × BitVec 39)) : (s.setSword i x).i2cs = s.i2cs := rfl
@[simp] theorem State.setSword_cores (s : State) (i : Nat) (x : Option (Word × BitVec 39)) : (s.setSword i x).cores = s.cores := rfl
@[simp] theorem State.setSword_wdgs (s : State) (i : Nat) (x : Option (Word × BitVec 39)) : (s.setSword i x).wdgs = s.wdgs := rfl
@[simp] theorem State.setSword_gexts (s : State) (i : Nat) (x : Option (Word × BitVec 39)) : (s.setSword i x).gexts = s.gexts := rfl
@[simp] theorem State.setSword_gkeeps (s : State) (i : Nat) (x : Option (Word × BitVec 39)) : (s.setSword i x).gkeeps = s.gkeeps := rfl
@[simp] theorem State.setSword_glines (s : State) (i : Nat) (x : Option (Word × BitVec 39)) : (s.setSword i x).glines = s.glines := rfl
@[simp] theorem State.setSword_gheld (s : State) (i : Nat) (x : Option (Word × BitVec 39)) : (s.setSword i x).gheld = s.gheld := rfl
@[simp] theorem State.setSword_cmpNews (s : State) (i : Nat) (x : Option (Word × BitVec 39)) : (s.setSword i x).cmpNews = s.cmpNews := rfl
@[simp] theorem State.setSword_ptpNews (s : State) (i : Nat) (x : Option (Word × BitVec 39)) : (s.setSword i x).ptpNews = s.ptpNews := rfl
@[simp] theorem State.setSword_ptpStamp (s : State) (i : Nat) (x : Option (Word × BitVec 39)) : (s.setSword i x).ptpStamp = s.ptpStamp := rfl
@[simp] theorem State.setSword_ppsAt (s : State) (i : Nat) (x : Option (Word × BitVec 39)) : (s.setSword i x).ppsAt = s.ppsAt := rfl
@[simp] theorem State.setSword_mem (s : State) (i : Nat) (x : Option (Word × BitVec 39)) : (s.setSword i x).mem = s.mem := rfl
@[simp] theorem State.setSword_memEpoch (s : State) (i : Nat) (x : Option (Word × BitVec 39)) : (s.setSword i x).memEpoch = s.memEpoch := rfl
@[simp] theorem State.setSword_ix (s : State) (i : Nat) (x : Option (Word × BitVec 39)) : (s.setSword i x).ix = s.ix := rfl
@[simp] theorem State.setSword_ixOut (s : State) (i : Nat) (x : Option (Word × BitVec 39)) : (s.setSword i x).ixOut = s.ixOut := rfl
@[simp] theorem State.setSword_doms (s : State) (i : Nat) (x : Option (Word × BitVec 39)) : (s.setSword i x).doms = s.doms := rfl
@[simp] theorem State.setSword_epoch (s : State) (i : Nat) (x : Option (Word × BitVec 39)) : (s.setSword i x).epoch = s.epoch := rfl
@[simp] theorem State.setSword_ups (s : State) (i : Nat) (x : Option (Word × BitVec 39)) : (s.setSword i x).ups = s.ups := rfl
@[simp] theorem State.setSword_dns (s : State) (i : Nat) (x : Option (Word × BitVec 39)) : (s.setSword i x).dns = s.dns := rfl
@[simp] theorem State.setSword_probes (s : State) (i : Nat) (x : Option (Word × BitVec 39)) : (s.setSword i x).probes = s.probes := rfl
@[simp] theorem State.setSword_tapIr (s : State) (i : Nat) (x : Option (Word × BitVec 39)) : (s.setSword i x).tapIr = s.tapIr := rfl
@[simp] theorem State.setSword_bscan (s : State) (i : Nat) (x : Option (Word × BitVec 39)) : (s.setSword i x).bscan = s.bscan := rfl
@[simp] theorem State.setSword_dbgAcc (s : State) (i : Nat) (x : Option (Word × BitVec 39)) : (s.setSword i x).dbgAcc = s.dbgAcc := rfl
@[simp] theorem State.setSword_dbgStatus (s : State) (i : Nat) (x : Option (Word × BitVec 39)) : (s.setSword i x).dbgStatus = s.dbgStatus := rfl
@[simp] theorem State.setSword_dbgP (s : State) (i : Nat) (x : Option (Word × BitVec 39)) : (s.setSword i x).dbgP = s.dbgP := rfl
@[simp] theorem State.setSword_dbgData (s : State) (i : Nat) (x : Option (Word × BitVec 39)) : (s.setSword i x).dbgData = s.dbgData := rfl
@[simp] theorem State.setSword_bcap (s : State) (i : Nat) (x : Option (Word × BitVec 39)) : (s.setSword i x).bcap = s.bcap := rfl
@[simp] theorem State.setSword_vin (s : State) (i : Nat) (x : Option (Word × BitVec 39)) : (s.setSword i x).vin = s.vin := rfl
@[simp] theorem State.setSword_vbat (s : State) (i : Nat) (x : Option (Word × BitVec 39)) : (s.setSword i x).vbat = s.vbat := rfl
@[simp] theorem State.setSword_bbGone (s : State) (i : Nat) (x : Option (Word × BitVec 39)) : (s.setSword i x).bbGone = s.bbGone := rfl
@[simp] theorem State.setSword_hot (s : State) (i : Nat) (x : Option (Word × BitVec 39)) : (s.setSword i x).hot = s.hot := rfl
@[simp] theorem State.setSword_bootDue (s : State) (i : Nat) (x : Option (Word × BitVec 39)) : (s.setSword i x).bootDue = s.bootDue := rfl

@[simp] theorem State.setHop_hops (s : State) (i : Nat) (x : Hop) : (s.setHop i x).hops = Store.put {} s.hops i x := rfl
@[simp] theorem State.hop_setHop_same (s : State) (i : Nat) (x : Hop) : (s.setHop i x).hop i = x := Store.get_put_same _ _ _ _
theorem State.hop_setHop_ne (s : State) (i j : Nat) (x : Hop) (h : j ≠ i) : (s.setHop i x).hop j = s.hop j := Store.get_put_ne _ _ _ h
@[simp] theorem State.setHop_pending (s : State) (i : Nat) (x : Hop) : (s.setHop i x).pending = s.pending := rfl
@[simp] theorem State.setHop_free (s : State) (i : Nat) (x : Hop) : (s.setHop i x).free = s.free := rfl
@[simp] theorem State.setHop_time (s : State) (i : Nat) (x : Hop) : (s.setHop i x).time = s.time := rfl
@[simp] theorem State.setHop_regs (s : State) (i : Nat) (x : Hop) : (s.setHop i x).regs = s.regs := rfl
@[simp] theorem State.setHop_rdata (s : State) (i : Nat) (x : Hop) : (s.setHop i x).rdata = s.rdata := rfl
@[simp] theorem State.setHop_tports (s : State) (i : Nat) (x : Hop) : (s.setHop i x).tports = s.tports := rfl
@[simp] theorem State.setHop_tlines (s : State) (i : Nat) (x : Hop) : (s.setHop i x).tlines = s.tlines := rfl
@[simp] theorem State.setHop_ptp (s : State) (i : Nat) (x : Hop) : (s.setHop i x).ptp = s.ptp := rfl
@[simp] theorem State.setHop_ptpGo (s : State) (i : Nat) (x : Hop) : (s.setHop i x).ptpGo = s.ptpGo := rfl
@[simp] theorem State.setHop_ptpMark (s : State) (i : Nat) (x : Hop) : (s.setHop i x).ptpMark = s.ptpMark := rfl
@[simp] theorem State.setHop_calReq (s : State) (i : Nat) (x : Hop) : (s.setHop i x).calReq = s.calReq := rfl
@[simp] theorem State.setHop_interval (s : State) (i : Nat) (x : Hop) : (s.setHop i x).interval = s.interval := rfl
@[simp] theorem State.setHop_frames (s : State) (i : Nat) (x : Hop) : (s.setHop i x).frames = s.frames := rfl
@[simp] theorem State.setHop_spine (s : State) (i : Nat) (x : Hop) : (s.setHop i x).spine = s.spine := rfl
@[simp] theorem State.setHop_cells (s : State) (i : Nat) (x : Hop) : (s.setHop i x).cells = s.cells := rfl
@[simp] theorem State.setHop_regions (s : State) (i : Nat) (x : Hop) : (s.setHop i x).regions = s.regions := rfl
@[simp] theorem State.setHop_clus (s : State) (i : Nat) (x : Hop) : (s.setHop i x).clus = s.clus := rfl
@[simp] theorem State.setHop_cfg (s : State) (i : Nat) (x : Hop) : (s.setHop i x).cfg = s.cfg := rfl
@[simp] theorem State.setHop_chans (s : State) (i : Nat) (x : Hop) : (s.setHop i x).chans = s.chans := rfl
@[simp] theorem State.setHop_aports (s : State) (i : Nat) (x : Hop) : (s.setHop i x).aports = s.aports := rfl
@[simp] theorem State.setHop_blines (s : State) (i : Nat) (x : Hop) : (s.setHop i x).blines = s.blines := rfl
@[simp] theorem State.setHop_bsrcs (s : State) (i : Nat) (x : Hop) : (s.setHop i x).bsrcs = s.bsrcs := rfl
@[simp] theorem State.setHop_bports (s : State) (i : Nat) (x : Hop) : (s.setHop i x).bports = s.bports := rfl
@[simp] theorem State.setHop_twins (s : State) (i : Nat) (x : Hop) : (s.setHop i x).twins = s.twins := rfl
@[simp] theorem State.setHop_lanes (s : State) (i : Nat) (x : Hop) : (s.setHop i x).lanes = s.lanes := rfl
@[simp] theorem State.setHop_flights (s : State) (i : Nat) (x : Hop) : (s.setHop i x).flights = s.flights := rfl
@[simp] theorem State.setHop_nextId (s : State) (i : Nat) (x : Hop) : (s.setHop i x).nextId = s.nextId := rfl
@[simp] theorem State.setHop_pairs (s : State) (i : Nat) (x : Hop) : (s.setHop i x).pairs = s.pairs := rfl
@[simp] theorem State.setHop_codePend (s : State) (i : Nat) (x : Hop) : (s.setHop i x).codePend = s.codePend := rfl
@[simp] theorem State.setHop_spareQ (s : State) (i : Nat) (x : Hop) : (s.setHop i x).spareQ = s.spareQ := rfl
@[simp] theorem State.setHop_swapWant (s : State) (i : Nat) (x : Hop) : (s.setHop i x).swapWant = s.swapWant := rfl
@[simp] theorem State.setHop_bmems (s : State) (i : Nat) (x : Hop) : (s.setHop i x).bmems = s.bmems := rfl
@[simp] theorem State.setHop_bbytes (s : State) (i : Nat) (x : Hop) : (s.setHop i x).bbytes = s.bbytes := rfl
@[simp] theorem State.setHop_banks (s : State) (i : Nat) (x : Hop) : (s.setHop i x).banks = s.banks := rfl
@[simp] theorem State.setHop_swords (s : State) (i : Nat) (x : Hop) : (s.setHop i x).swords = s.swords := rfl
@[simp] theorem State.setHop_pins (s : State) (i : Nat) (x : Hop) : (s.setHop i x).pins = s.pins := rfl
@[simp] theorem State.setHop_spinePrevs (s : State) (i : Nat) (x : Hop) : (s.setHop i x).spinePrevs = s.spinePrevs := rfl
@[simp] theorem State.setHop_pads (s : State) (i : Nat) (x : Hop) : (s.setHop i x).pads = s.pads := rfl
@[simp] theorem State.setHop_groups (s : State) (i : Nat) (x : Hop) : (s.setHop i x).groups = s.groups := rfl
@[simp] theorem State.setHop_links (s : State) (i : Nat) (x : Hop) : (s.setHop i x).links = s.links := rfl
@[simp] theorem State.setHop_reasms (s : State) (i : Nat) (x : Hop) : (s.setHop i x).reasms = s.reasms := rfl
@[simp] theorem State.setHop_mgmtIn (s : State) (i : Nat) (x : Hop) : (s.setHop i x).mgmtIn = s.mgmtIn := rfl
@[simp] theorem State.setHop_lateTags (s : State) (i : Nat) (x : Hop) : (s.setHop i x).lateTags = s.lateTags := rfl
@[simp] theorem State.setHop_slices (s : State) (i : Nat) (x : Hop) : (s.setHop i x).slices = s.slices := rfl
@[simp] theorem State.setHop_sweep (s : State) (i : Nat) (x : Hop) : (s.setHop i x).sweep = s.sweep := rfl
@[simp] theorem State.setHop_asyNews (s : State) (i : Nat) (x : Hop) : (s.setHop i x).asyNews = s.asyNews := rfl
@[simp] theorem State.setHop_sliceEnded (s : State) (i : Nat) (x : Hop) : (s.setHop i x).sliceEnded = s.sliceEnded := rfl
@[simp] theorem State.setHop_load (s : State) (i : Nat) (x : Hop) : (s.setHop i x).load = s.load := rfl
@[simp] theorem State.setHop_flash (s : State) (i : Nat) (x : Hop) : (s.setHop i x).flash = s.flash := rfl
@[simp] theorem State.setHop_gold (s : State) (i : Nat) (x : Hop) : (s.setHop i x).gold = s.gold := rfl
@[simp] theorem State.setHop_cparks (s : State) (i : Nat) (x : Hop) : (s.setHop i x).cparks = s.cparks := rfl
@[simp] theorem State.setHop_crcs (s : State) (i : Nat) (x : Hop) : (s.setHop i x).crcs = s.crcs := rfl
@[simp] theorem State.setHop_loadEnded (s : State) (i : Nat) (x : Hop) : (s.setHop i x).loadEnded = s.loadEnded := rfl
@[simp] theorem State.setHop_imgHash (s : State) (i : Nat) (x : Hop) : (s.setHop i x).imgHash = s.imgHash := rfl
@[simp] theorem State.setHop_rimgs (s : State) (i : Nat) (x : Hop) : (s.setHop i x).rimgs = s.rimgs := rfl
@[simp] theorem State.setHop_staged (s : State) (i : Nat) (x : Hop) : (s.setHop i x).staged = s.staged := rfl
@[simp] theorem State.setHop_loadAsked (s : State) (i : Nat) (x : Hop) : (s.setHop i x).loadAsked = s.loadAsked := rfl
@[simp] theorem State.setHop_toldFaults (s : State) (i : Nat) (x : Hop) : (s.setHop i x).toldFaults = s.toldFaults := rfl
@[simp] theorem State.setHop_kslots (s : State) (i : Nat) (x : Hop) : (s.setHop i x).kslots = s.kslots := rfl
@[simp] theorem State.setHop_oslots (s : State) (i : Nat) (x : Hop) : (s.setHop i x).oslots = s.oslots := rfl
@[simp] theorem State.setHop_kcmd (s : State) (i : Nat) (x : Hop) : (s.setHop i x).kcmd = s.kcmd := rfl
@[simp] theorem State.setHop_cutSlots (s : State) (i : Nat) (x : Hop) : (s.setHop i x).cutSlots = s.cutSlots := rfl
@[simp] theorem State.setHop_tkrev (s : State) (i : Nat) (x : Hop) : (s.setHop i x).tkrev = s.tkrev := rfl
@[simp] theorem State.setHop_fwsvn (s : State) (i : Nat) (x : Hop) : (s.setHop i x).fwsvn = s.fwsvn := rfl
@[simp] theorem State.setHop_fw (s : State) (i : Nat) (x : Hop) : (s.setHop i x).fw = s.fw := rfl
@[simp] theorem State.setHop_recovery (s : State) (i : Nat) (x : Hop) : (s.setHop i x).recovery = s.recovery := rfl
@[simp] theorem State.setHop_reports (s : State) (i : Nat) (x : Hop) : (s.setHop i x).reports = s.reports := rfl
@[simp] theorem State.setHop_signed (s : State) (i : Nat) (x : Hop) : (s.setHop i x).signed = s.signed := rfl
@[simp] theorem State.setHop_attests (s : State) (i : Nat) (x : Hop) : (s.setHop i x).attests = s.attests := rfl
@[simp] theorem State.setHop_uarts (s : State) (i : Nat) (x : Hop) : (s.setHop i x).uarts = s.uarts := rfl
@[simp] theorem State.setHop_spi (s : State) (i : Nat) (x : Hop) : (s.setHop i x).spi = s.spi := rfl
@[simp] theorem State.setHop_i2cs (s : State) (i : Nat) (x : Hop) : (s.setHop i x).i2cs = s.i2cs := rfl
@[simp] theorem State.setHop_cores (s : State) (i : Nat) (x : Hop) : (s.setHop i x).cores = s.cores := rfl
@[simp] theorem State.setHop_wdgs (s : State) (i : Nat) (x : Hop) : (s.setHop i x).wdgs = s.wdgs := rfl
@[simp] theorem State.setHop_gexts (s : State) (i : Nat) (x : Hop) : (s.setHop i x).gexts = s.gexts := rfl
@[simp] theorem State.setHop_gkeeps (s : State) (i : Nat) (x : Hop) : (s.setHop i x).gkeeps = s.gkeeps := rfl
@[simp] theorem State.setHop_glines (s : State) (i : Nat) (x : Hop) : (s.setHop i x).glines = s.glines := rfl
@[simp] theorem State.setHop_gheld (s : State) (i : Nat) (x : Hop) : (s.setHop i x).gheld = s.gheld := rfl
@[simp] theorem State.setHop_cmpNews (s : State) (i : Nat) (x : Hop) : (s.setHop i x).cmpNews = s.cmpNews := rfl
@[simp] theorem State.setHop_ptpNews (s : State) (i : Nat) (x : Hop) : (s.setHop i x).ptpNews = s.ptpNews := rfl
@[simp] theorem State.setHop_ptpStamp (s : State) (i : Nat) (x : Hop) : (s.setHop i x).ptpStamp = s.ptpStamp := rfl
@[simp] theorem State.setHop_ppsAt (s : State) (i : Nat) (x : Hop) : (s.setHop i x).ppsAt = s.ppsAt := rfl
@[simp] theorem State.setHop_mem (s : State) (i : Nat) (x : Hop) : (s.setHop i x).mem = s.mem := rfl
@[simp] theorem State.setHop_memEpoch (s : State) (i : Nat) (x : Hop) : (s.setHop i x).memEpoch = s.memEpoch := rfl
@[simp] theorem State.setHop_ix (s : State) (i : Nat) (x : Hop) : (s.setHop i x).ix = s.ix := rfl
@[simp] theorem State.setHop_ixOut (s : State) (i : Nat) (x : Hop) : (s.setHop i x).ixOut = s.ixOut := rfl
@[simp] theorem State.setHop_doms (s : State) (i : Nat) (x : Hop) : (s.setHop i x).doms = s.doms := rfl
@[simp] theorem State.setHop_epoch (s : State) (i : Nat) (x : Hop) : (s.setHop i x).epoch = s.epoch := rfl
@[simp] theorem State.setHop_ups (s : State) (i : Nat) (x : Hop) : (s.setHop i x).ups = s.ups := rfl
@[simp] theorem State.setHop_dns (s : State) (i : Nat) (x : Hop) : (s.setHop i x).dns = s.dns := rfl
@[simp] theorem State.setHop_probes (s : State) (i : Nat) (x : Hop) : (s.setHop i x).probes = s.probes := rfl
@[simp] theorem State.setHop_tapIr (s : State) (i : Nat) (x : Hop) : (s.setHop i x).tapIr = s.tapIr := rfl
@[simp] theorem State.setHop_bscan (s : State) (i : Nat) (x : Hop) : (s.setHop i x).bscan = s.bscan := rfl
@[simp] theorem State.setHop_dbgAcc (s : State) (i : Nat) (x : Hop) : (s.setHop i x).dbgAcc = s.dbgAcc := rfl
@[simp] theorem State.setHop_dbgStatus (s : State) (i : Nat) (x : Hop) : (s.setHop i x).dbgStatus = s.dbgStatus := rfl
@[simp] theorem State.setHop_dbgP (s : State) (i : Nat) (x : Hop) : (s.setHop i x).dbgP = s.dbgP := rfl
@[simp] theorem State.setHop_dbgData (s : State) (i : Nat) (x : Hop) : (s.setHop i x).dbgData = s.dbgData := rfl
@[simp] theorem State.setHop_bcap (s : State) (i : Nat) (x : Hop) : (s.setHop i x).bcap = s.bcap := rfl
@[simp] theorem State.setHop_vin (s : State) (i : Nat) (x : Hop) : (s.setHop i x).vin = s.vin := rfl
@[simp] theorem State.setHop_vbat (s : State) (i : Nat) (x : Hop) : (s.setHop i x).vbat = s.vbat := rfl
@[simp] theorem State.setHop_bbGone (s : State) (i : Nat) (x : Hop) : (s.setHop i x).bbGone = s.bbGone := rfl
@[simp] theorem State.setHop_hot (s : State) (i : Nat) (x : Hop) : (s.setHop i x).hot = s.hot := rfl
@[simp] theorem State.setHop_bootDue (s : State) (i : Nat) (x : Hop) : (s.setHop i x).bootDue = s.bootDue := rfl

@[simp] theorem State.setPin_pins (s : State) (i : Nat) (x : Pin) : (s.setPin i x).pins = Store.put {} s.pins i x := rfl
@[simp] theorem State.pin_setPin_same (s : State) (i : Nat) (x : Pin) : (s.setPin i x).pin i = x := Store.get_put_same _ _ _ _
theorem State.pin_setPin_ne (s : State) (i j : Nat) (x : Pin) (h : j ≠ i) : (s.setPin i x).pin j = s.pin j := Store.get_put_ne _ _ _ h
@[simp] theorem State.setPin_pending (s : State) (i : Nat) (x : Pin) : (s.setPin i x).pending = s.pending := rfl
@[simp] theorem State.setPin_free (s : State) (i : Nat) (x : Pin) : (s.setPin i x).free = s.free := rfl
@[simp] theorem State.setPin_time (s : State) (i : Nat) (x : Pin) : (s.setPin i x).time = s.time := rfl
@[simp] theorem State.setPin_regs (s : State) (i : Nat) (x : Pin) : (s.setPin i x).regs = s.regs := rfl
@[simp] theorem State.setPin_rdata (s : State) (i : Nat) (x : Pin) : (s.setPin i x).rdata = s.rdata := rfl
@[simp] theorem State.setPin_tports (s : State) (i : Nat) (x : Pin) : (s.setPin i x).tports = s.tports := rfl
@[simp] theorem State.setPin_tlines (s : State) (i : Nat) (x : Pin) : (s.setPin i x).tlines = s.tlines := rfl
@[simp] theorem State.setPin_ptp (s : State) (i : Nat) (x : Pin) : (s.setPin i x).ptp = s.ptp := rfl
@[simp] theorem State.setPin_ptpGo (s : State) (i : Nat) (x : Pin) : (s.setPin i x).ptpGo = s.ptpGo := rfl
@[simp] theorem State.setPin_ptpMark (s : State) (i : Nat) (x : Pin) : (s.setPin i x).ptpMark = s.ptpMark := rfl
@[simp] theorem State.setPin_calReq (s : State) (i : Nat) (x : Pin) : (s.setPin i x).calReq = s.calReq := rfl
@[simp] theorem State.setPin_interval (s : State) (i : Nat) (x : Pin) : (s.setPin i x).interval = s.interval := rfl
@[simp] theorem State.setPin_frames (s : State) (i : Nat) (x : Pin) : (s.setPin i x).frames = s.frames := rfl
@[simp] theorem State.setPin_spine (s : State) (i : Nat) (x : Pin) : (s.setPin i x).spine = s.spine := rfl
@[simp] theorem State.setPin_cells (s : State) (i : Nat) (x : Pin) : (s.setPin i x).cells = s.cells := rfl
@[simp] theorem State.setPin_regions (s : State) (i : Nat) (x : Pin) : (s.setPin i x).regions = s.regions := rfl
@[simp] theorem State.setPin_clus (s : State) (i : Nat) (x : Pin) : (s.setPin i x).clus = s.clus := rfl
@[simp] theorem State.setPin_cfg (s : State) (i : Nat) (x : Pin) : (s.setPin i x).cfg = s.cfg := rfl
@[simp] theorem State.setPin_chans (s : State) (i : Nat) (x : Pin) : (s.setPin i x).chans = s.chans := rfl
@[simp] theorem State.setPin_aports (s : State) (i : Nat) (x : Pin) : (s.setPin i x).aports = s.aports := rfl
@[simp] theorem State.setPin_blines (s : State) (i : Nat) (x : Pin) : (s.setPin i x).blines = s.blines := rfl
@[simp] theorem State.setPin_bsrcs (s : State) (i : Nat) (x : Pin) : (s.setPin i x).bsrcs = s.bsrcs := rfl
@[simp] theorem State.setPin_bports (s : State) (i : Nat) (x : Pin) : (s.setPin i x).bports = s.bports := rfl
@[simp] theorem State.setPin_twins (s : State) (i : Nat) (x : Pin) : (s.setPin i x).twins = s.twins := rfl
@[simp] theorem State.setPin_lanes (s : State) (i : Nat) (x : Pin) : (s.setPin i x).lanes = s.lanes := rfl
@[simp] theorem State.setPin_flights (s : State) (i : Nat) (x : Pin) : (s.setPin i x).flights = s.flights := rfl
@[simp] theorem State.setPin_nextId (s : State) (i : Nat) (x : Pin) : (s.setPin i x).nextId = s.nextId := rfl
@[simp] theorem State.setPin_pairs (s : State) (i : Nat) (x : Pin) : (s.setPin i x).pairs = s.pairs := rfl
@[simp] theorem State.setPin_codePend (s : State) (i : Nat) (x : Pin) : (s.setPin i x).codePend = s.codePend := rfl
@[simp] theorem State.setPin_spareQ (s : State) (i : Nat) (x : Pin) : (s.setPin i x).spareQ = s.spareQ := rfl
@[simp] theorem State.setPin_swapWant (s : State) (i : Nat) (x : Pin) : (s.setPin i x).swapWant = s.swapWant := rfl
@[simp] theorem State.setPin_bmems (s : State) (i : Nat) (x : Pin) : (s.setPin i x).bmems = s.bmems := rfl
@[simp] theorem State.setPin_bbytes (s : State) (i : Nat) (x : Pin) : (s.setPin i x).bbytes = s.bbytes := rfl
@[simp] theorem State.setPin_banks (s : State) (i : Nat) (x : Pin) : (s.setPin i x).banks = s.banks := rfl
@[simp] theorem State.setPin_swords (s : State) (i : Nat) (x : Pin) : (s.setPin i x).swords = s.swords := rfl
@[simp] theorem State.setPin_hops (s : State) (i : Nat) (x : Pin) : (s.setPin i x).hops = s.hops := rfl
@[simp] theorem State.setPin_spinePrevs (s : State) (i : Nat) (x : Pin) : (s.setPin i x).spinePrevs = s.spinePrevs := rfl
@[simp] theorem State.setPin_pads (s : State) (i : Nat) (x : Pin) : (s.setPin i x).pads = s.pads := rfl
@[simp] theorem State.setPin_groups (s : State) (i : Nat) (x : Pin) : (s.setPin i x).groups = s.groups := rfl
@[simp] theorem State.setPin_links (s : State) (i : Nat) (x : Pin) : (s.setPin i x).links = s.links := rfl
@[simp] theorem State.setPin_reasms (s : State) (i : Nat) (x : Pin) : (s.setPin i x).reasms = s.reasms := rfl
@[simp] theorem State.setPin_mgmtIn (s : State) (i : Nat) (x : Pin) : (s.setPin i x).mgmtIn = s.mgmtIn := rfl
@[simp] theorem State.setPin_lateTags (s : State) (i : Nat) (x : Pin) : (s.setPin i x).lateTags = s.lateTags := rfl
@[simp] theorem State.setPin_slices (s : State) (i : Nat) (x : Pin) : (s.setPin i x).slices = s.slices := rfl
@[simp] theorem State.setPin_sweep (s : State) (i : Nat) (x : Pin) : (s.setPin i x).sweep = s.sweep := rfl
@[simp] theorem State.setPin_asyNews (s : State) (i : Nat) (x : Pin) : (s.setPin i x).asyNews = s.asyNews := rfl
@[simp] theorem State.setPin_sliceEnded (s : State) (i : Nat) (x : Pin) : (s.setPin i x).sliceEnded = s.sliceEnded := rfl
@[simp] theorem State.setPin_load (s : State) (i : Nat) (x : Pin) : (s.setPin i x).load = s.load := rfl
@[simp] theorem State.setPin_flash (s : State) (i : Nat) (x : Pin) : (s.setPin i x).flash = s.flash := rfl
@[simp] theorem State.setPin_gold (s : State) (i : Nat) (x : Pin) : (s.setPin i x).gold = s.gold := rfl
@[simp] theorem State.setPin_cparks (s : State) (i : Nat) (x : Pin) : (s.setPin i x).cparks = s.cparks := rfl
@[simp] theorem State.setPin_crcs (s : State) (i : Nat) (x : Pin) : (s.setPin i x).crcs = s.crcs := rfl
@[simp] theorem State.setPin_loadEnded (s : State) (i : Nat) (x : Pin) : (s.setPin i x).loadEnded = s.loadEnded := rfl
@[simp] theorem State.setPin_imgHash (s : State) (i : Nat) (x : Pin) : (s.setPin i x).imgHash = s.imgHash := rfl
@[simp] theorem State.setPin_rimgs (s : State) (i : Nat) (x : Pin) : (s.setPin i x).rimgs = s.rimgs := rfl
@[simp] theorem State.setPin_staged (s : State) (i : Nat) (x : Pin) : (s.setPin i x).staged = s.staged := rfl
@[simp] theorem State.setPin_loadAsked (s : State) (i : Nat) (x : Pin) : (s.setPin i x).loadAsked = s.loadAsked := rfl
@[simp] theorem State.setPin_toldFaults (s : State) (i : Nat) (x : Pin) : (s.setPin i x).toldFaults = s.toldFaults := rfl
@[simp] theorem State.setPin_kslots (s : State) (i : Nat) (x : Pin) : (s.setPin i x).kslots = s.kslots := rfl
@[simp] theorem State.setPin_oslots (s : State) (i : Nat) (x : Pin) : (s.setPin i x).oslots = s.oslots := rfl
@[simp] theorem State.setPin_kcmd (s : State) (i : Nat) (x : Pin) : (s.setPin i x).kcmd = s.kcmd := rfl
@[simp] theorem State.setPin_cutSlots (s : State) (i : Nat) (x : Pin) : (s.setPin i x).cutSlots = s.cutSlots := rfl
@[simp] theorem State.setPin_tkrev (s : State) (i : Nat) (x : Pin) : (s.setPin i x).tkrev = s.tkrev := rfl
@[simp] theorem State.setPin_fwsvn (s : State) (i : Nat) (x : Pin) : (s.setPin i x).fwsvn = s.fwsvn := rfl
@[simp] theorem State.setPin_fw (s : State) (i : Nat) (x : Pin) : (s.setPin i x).fw = s.fw := rfl
@[simp] theorem State.setPin_recovery (s : State) (i : Nat) (x : Pin) : (s.setPin i x).recovery = s.recovery := rfl
@[simp] theorem State.setPin_reports (s : State) (i : Nat) (x : Pin) : (s.setPin i x).reports = s.reports := rfl
@[simp] theorem State.setPin_signed (s : State) (i : Nat) (x : Pin) : (s.setPin i x).signed = s.signed := rfl
@[simp] theorem State.setPin_attests (s : State) (i : Nat) (x : Pin) : (s.setPin i x).attests = s.attests := rfl
@[simp] theorem State.setPin_uarts (s : State) (i : Nat) (x : Pin) : (s.setPin i x).uarts = s.uarts := rfl
@[simp] theorem State.setPin_spi (s : State) (i : Nat) (x : Pin) : (s.setPin i x).spi = s.spi := rfl
@[simp] theorem State.setPin_i2cs (s : State) (i : Nat) (x : Pin) : (s.setPin i x).i2cs = s.i2cs := rfl
@[simp] theorem State.setPin_cores (s : State) (i : Nat) (x : Pin) : (s.setPin i x).cores = s.cores := rfl
@[simp] theorem State.setPin_wdgs (s : State) (i : Nat) (x : Pin) : (s.setPin i x).wdgs = s.wdgs := rfl
@[simp] theorem State.setPin_gexts (s : State) (i : Nat) (x : Pin) : (s.setPin i x).gexts = s.gexts := rfl
@[simp] theorem State.setPin_gkeeps (s : State) (i : Nat) (x : Pin) : (s.setPin i x).gkeeps = s.gkeeps := rfl
@[simp] theorem State.setPin_glines (s : State) (i : Nat) (x : Pin) : (s.setPin i x).glines = s.glines := rfl
@[simp] theorem State.setPin_gheld (s : State) (i : Nat) (x : Pin) : (s.setPin i x).gheld = s.gheld := rfl
@[simp] theorem State.setPin_cmpNews (s : State) (i : Nat) (x : Pin) : (s.setPin i x).cmpNews = s.cmpNews := rfl
@[simp] theorem State.setPin_ptpNews (s : State) (i : Nat) (x : Pin) : (s.setPin i x).ptpNews = s.ptpNews := rfl
@[simp] theorem State.setPin_ptpStamp (s : State) (i : Nat) (x : Pin) : (s.setPin i x).ptpStamp = s.ptpStamp := rfl
@[simp] theorem State.setPin_ppsAt (s : State) (i : Nat) (x : Pin) : (s.setPin i x).ppsAt = s.ppsAt := rfl
@[simp] theorem State.setPin_mem (s : State) (i : Nat) (x : Pin) : (s.setPin i x).mem = s.mem := rfl
@[simp] theorem State.setPin_memEpoch (s : State) (i : Nat) (x : Pin) : (s.setPin i x).memEpoch = s.memEpoch := rfl
@[simp] theorem State.setPin_ix (s : State) (i : Nat) (x : Pin) : (s.setPin i x).ix = s.ix := rfl
@[simp] theorem State.setPin_ixOut (s : State) (i : Nat) (x : Pin) : (s.setPin i x).ixOut = s.ixOut := rfl
@[simp] theorem State.setPin_doms (s : State) (i : Nat) (x : Pin) : (s.setPin i x).doms = s.doms := rfl
@[simp] theorem State.setPin_epoch (s : State) (i : Nat) (x : Pin) : (s.setPin i x).epoch = s.epoch := rfl
@[simp] theorem State.setPin_ups (s : State) (i : Nat) (x : Pin) : (s.setPin i x).ups = s.ups := rfl
@[simp] theorem State.setPin_dns (s : State) (i : Nat) (x : Pin) : (s.setPin i x).dns = s.dns := rfl
@[simp] theorem State.setPin_probes (s : State) (i : Nat) (x : Pin) : (s.setPin i x).probes = s.probes := rfl
@[simp] theorem State.setPin_tapIr (s : State) (i : Nat) (x : Pin) : (s.setPin i x).tapIr = s.tapIr := rfl
@[simp] theorem State.setPin_bscan (s : State) (i : Nat) (x : Pin) : (s.setPin i x).bscan = s.bscan := rfl
@[simp] theorem State.setPin_dbgAcc (s : State) (i : Nat) (x : Pin) : (s.setPin i x).dbgAcc = s.dbgAcc := rfl
@[simp] theorem State.setPin_dbgStatus (s : State) (i : Nat) (x : Pin) : (s.setPin i x).dbgStatus = s.dbgStatus := rfl
@[simp] theorem State.setPin_dbgP (s : State) (i : Nat) (x : Pin) : (s.setPin i x).dbgP = s.dbgP := rfl
@[simp] theorem State.setPin_dbgData (s : State) (i : Nat) (x : Pin) : (s.setPin i x).dbgData = s.dbgData := rfl
@[simp] theorem State.setPin_bcap (s : State) (i : Nat) (x : Pin) : (s.setPin i x).bcap = s.bcap := rfl
@[simp] theorem State.setPin_vin (s : State) (i : Nat) (x : Pin) : (s.setPin i x).vin = s.vin := rfl
@[simp] theorem State.setPin_vbat (s : State) (i : Nat) (x : Pin) : (s.setPin i x).vbat = s.vbat := rfl
@[simp] theorem State.setPin_bbGone (s : State) (i : Nat) (x : Pin) : (s.setPin i x).bbGone = s.bbGone := rfl
@[simp] theorem State.setPin_hot (s : State) (i : Nat) (x : Pin) : (s.setPin i x).hot = s.hot := rfl
@[simp] theorem State.setPin_bootDue (s : State) (i : Nat) (x : Pin) : (s.setPin i x).bootDue = s.bootDue := rfl

@[simp] theorem State.setSpinePrev_spinePrevs (s : State) (i : Nat) (x : Frame) : (s.setSpinePrev i x).spinePrevs = Store.put {} s.spinePrevs i x := rfl
@[simp] theorem State.spinePrev_setSpinePrev_same (s : State) (i : Nat) (x : Frame) : (s.setSpinePrev i x).spinePrev i = x := Store.get_put_same _ _ _ _
theorem State.spinePrev_setSpinePrev_ne (s : State) (i j : Nat) (x : Frame) (h : j ≠ i) : (s.setSpinePrev i x).spinePrev j = s.spinePrev j := Store.get_put_ne _ _ _ h
@[simp] theorem State.setSpinePrev_pending (s : State) (i : Nat) (x : Frame) : (s.setSpinePrev i x).pending = s.pending := rfl
@[simp] theorem State.setSpinePrev_free (s : State) (i : Nat) (x : Frame) : (s.setSpinePrev i x).free = s.free := rfl
@[simp] theorem State.setSpinePrev_time (s : State) (i : Nat) (x : Frame) : (s.setSpinePrev i x).time = s.time := rfl
@[simp] theorem State.setSpinePrev_regs (s : State) (i : Nat) (x : Frame) : (s.setSpinePrev i x).regs = s.regs := rfl
@[simp] theorem State.setSpinePrev_rdata (s : State) (i : Nat) (x : Frame) : (s.setSpinePrev i x).rdata = s.rdata := rfl
@[simp] theorem State.setSpinePrev_tports (s : State) (i : Nat) (x : Frame) : (s.setSpinePrev i x).tports = s.tports := rfl
@[simp] theorem State.setSpinePrev_tlines (s : State) (i : Nat) (x : Frame) : (s.setSpinePrev i x).tlines = s.tlines := rfl
@[simp] theorem State.setSpinePrev_ptp (s : State) (i : Nat) (x : Frame) : (s.setSpinePrev i x).ptp = s.ptp := rfl
@[simp] theorem State.setSpinePrev_ptpGo (s : State) (i : Nat) (x : Frame) : (s.setSpinePrev i x).ptpGo = s.ptpGo := rfl
@[simp] theorem State.setSpinePrev_ptpMark (s : State) (i : Nat) (x : Frame) : (s.setSpinePrev i x).ptpMark = s.ptpMark := rfl
@[simp] theorem State.setSpinePrev_calReq (s : State) (i : Nat) (x : Frame) : (s.setSpinePrev i x).calReq = s.calReq := rfl
@[simp] theorem State.setSpinePrev_interval (s : State) (i : Nat) (x : Frame) : (s.setSpinePrev i x).interval = s.interval := rfl
@[simp] theorem State.setSpinePrev_frames (s : State) (i : Nat) (x : Frame) : (s.setSpinePrev i x).frames = s.frames := rfl
@[simp] theorem State.setSpinePrev_spine (s : State) (i : Nat) (x : Frame) : (s.setSpinePrev i x).spine = s.spine := rfl
@[simp] theorem State.setSpinePrev_cells (s : State) (i : Nat) (x : Frame) : (s.setSpinePrev i x).cells = s.cells := rfl
@[simp] theorem State.setSpinePrev_regions (s : State) (i : Nat) (x : Frame) : (s.setSpinePrev i x).regions = s.regions := rfl
@[simp] theorem State.setSpinePrev_clus (s : State) (i : Nat) (x : Frame) : (s.setSpinePrev i x).clus = s.clus := rfl
@[simp] theorem State.setSpinePrev_cfg (s : State) (i : Nat) (x : Frame) : (s.setSpinePrev i x).cfg = s.cfg := rfl
@[simp] theorem State.setSpinePrev_chans (s : State) (i : Nat) (x : Frame) : (s.setSpinePrev i x).chans = s.chans := rfl
@[simp] theorem State.setSpinePrev_aports (s : State) (i : Nat) (x : Frame) : (s.setSpinePrev i x).aports = s.aports := rfl
@[simp] theorem State.setSpinePrev_blines (s : State) (i : Nat) (x : Frame) : (s.setSpinePrev i x).blines = s.blines := rfl
@[simp] theorem State.setSpinePrev_bsrcs (s : State) (i : Nat) (x : Frame) : (s.setSpinePrev i x).bsrcs = s.bsrcs := rfl
@[simp] theorem State.setSpinePrev_bports (s : State) (i : Nat) (x : Frame) : (s.setSpinePrev i x).bports = s.bports := rfl
@[simp] theorem State.setSpinePrev_twins (s : State) (i : Nat) (x : Frame) : (s.setSpinePrev i x).twins = s.twins := rfl
@[simp] theorem State.setSpinePrev_lanes (s : State) (i : Nat) (x : Frame) : (s.setSpinePrev i x).lanes = s.lanes := rfl
@[simp] theorem State.setSpinePrev_flights (s : State) (i : Nat) (x : Frame) : (s.setSpinePrev i x).flights = s.flights := rfl
@[simp] theorem State.setSpinePrev_nextId (s : State) (i : Nat) (x : Frame) : (s.setSpinePrev i x).nextId = s.nextId := rfl
@[simp] theorem State.setSpinePrev_pairs (s : State) (i : Nat) (x : Frame) : (s.setSpinePrev i x).pairs = s.pairs := rfl
@[simp] theorem State.setSpinePrev_codePend (s : State) (i : Nat) (x : Frame) : (s.setSpinePrev i x).codePend = s.codePend := rfl
@[simp] theorem State.setSpinePrev_spareQ (s : State) (i : Nat) (x : Frame) : (s.setSpinePrev i x).spareQ = s.spareQ := rfl
@[simp] theorem State.setSpinePrev_swapWant (s : State) (i : Nat) (x : Frame) : (s.setSpinePrev i x).swapWant = s.swapWant := rfl
@[simp] theorem State.setSpinePrev_bmems (s : State) (i : Nat) (x : Frame) : (s.setSpinePrev i x).bmems = s.bmems := rfl
@[simp] theorem State.setSpinePrev_bbytes (s : State) (i : Nat) (x : Frame) : (s.setSpinePrev i x).bbytes = s.bbytes := rfl
@[simp] theorem State.setSpinePrev_banks (s : State) (i : Nat) (x : Frame) : (s.setSpinePrev i x).banks = s.banks := rfl
@[simp] theorem State.setSpinePrev_swords (s : State) (i : Nat) (x : Frame) : (s.setSpinePrev i x).swords = s.swords := rfl
@[simp] theorem State.setSpinePrev_hops (s : State) (i : Nat) (x : Frame) : (s.setSpinePrev i x).hops = s.hops := rfl
@[simp] theorem State.setSpinePrev_pins (s : State) (i : Nat) (x : Frame) : (s.setSpinePrev i x).pins = s.pins := rfl
@[simp] theorem State.setSpinePrev_pads (s : State) (i : Nat) (x : Frame) : (s.setSpinePrev i x).pads = s.pads := rfl
@[simp] theorem State.setSpinePrev_groups (s : State) (i : Nat) (x : Frame) : (s.setSpinePrev i x).groups = s.groups := rfl
@[simp] theorem State.setSpinePrev_links (s : State) (i : Nat) (x : Frame) : (s.setSpinePrev i x).links = s.links := rfl
@[simp] theorem State.setSpinePrev_reasms (s : State) (i : Nat) (x : Frame) : (s.setSpinePrev i x).reasms = s.reasms := rfl
@[simp] theorem State.setSpinePrev_mgmtIn (s : State) (i : Nat) (x : Frame) : (s.setSpinePrev i x).mgmtIn = s.mgmtIn := rfl
@[simp] theorem State.setSpinePrev_lateTags (s : State) (i : Nat) (x : Frame) : (s.setSpinePrev i x).lateTags = s.lateTags := rfl
@[simp] theorem State.setSpinePrev_slices (s : State) (i : Nat) (x : Frame) : (s.setSpinePrev i x).slices = s.slices := rfl
@[simp] theorem State.setSpinePrev_sweep (s : State) (i : Nat) (x : Frame) : (s.setSpinePrev i x).sweep = s.sweep := rfl
@[simp] theorem State.setSpinePrev_asyNews (s : State) (i : Nat) (x : Frame) : (s.setSpinePrev i x).asyNews = s.asyNews := rfl
@[simp] theorem State.setSpinePrev_sliceEnded (s : State) (i : Nat) (x : Frame) : (s.setSpinePrev i x).sliceEnded = s.sliceEnded := rfl
@[simp] theorem State.setSpinePrev_load (s : State) (i : Nat) (x : Frame) : (s.setSpinePrev i x).load = s.load := rfl
@[simp] theorem State.setSpinePrev_flash (s : State) (i : Nat) (x : Frame) : (s.setSpinePrev i x).flash = s.flash := rfl
@[simp] theorem State.setSpinePrev_gold (s : State) (i : Nat) (x : Frame) : (s.setSpinePrev i x).gold = s.gold := rfl
@[simp] theorem State.setSpinePrev_cparks (s : State) (i : Nat) (x : Frame) : (s.setSpinePrev i x).cparks = s.cparks := rfl
@[simp] theorem State.setSpinePrev_crcs (s : State) (i : Nat) (x : Frame) : (s.setSpinePrev i x).crcs = s.crcs := rfl
@[simp] theorem State.setSpinePrev_loadEnded (s : State) (i : Nat) (x : Frame) : (s.setSpinePrev i x).loadEnded = s.loadEnded := rfl
@[simp] theorem State.setSpinePrev_imgHash (s : State) (i : Nat) (x : Frame) : (s.setSpinePrev i x).imgHash = s.imgHash := rfl
@[simp] theorem State.setSpinePrev_rimgs (s : State) (i : Nat) (x : Frame) : (s.setSpinePrev i x).rimgs = s.rimgs := rfl
@[simp] theorem State.setSpinePrev_staged (s : State) (i : Nat) (x : Frame) : (s.setSpinePrev i x).staged = s.staged := rfl
@[simp] theorem State.setSpinePrev_loadAsked (s : State) (i : Nat) (x : Frame) : (s.setSpinePrev i x).loadAsked = s.loadAsked := rfl
@[simp] theorem State.setSpinePrev_toldFaults (s : State) (i : Nat) (x : Frame) : (s.setSpinePrev i x).toldFaults = s.toldFaults := rfl
@[simp] theorem State.setSpinePrev_kslots (s : State) (i : Nat) (x : Frame) : (s.setSpinePrev i x).kslots = s.kslots := rfl
@[simp] theorem State.setSpinePrev_oslots (s : State) (i : Nat) (x : Frame) : (s.setSpinePrev i x).oslots = s.oslots := rfl
@[simp] theorem State.setSpinePrev_kcmd (s : State) (i : Nat) (x : Frame) : (s.setSpinePrev i x).kcmd = s.kcmd := rfl
@[simp] theorem State.setSpinePrev_cutSlots (s : State) (i : Nat) (x : Frame) : (s.setSpinePrev i x).cutSlots = s.cutSlots := rfl
@[simp] theorem State.setSpinePrev_tkrev (s : State) (i : Nat) (x : Frame) : (s.setSpinePrev i x).tkrev = s.tkrev := rfl
@[simp] theorem State.setSpinePrev_fwsvn (s : State) (i : Nat) (x : Frame) : (s.setSpinePrev i x).fwsvn = s.fwsvn := rfl
@[simp] theorem State.setSpinePrev_fw (s : State) (i : Nat) (x : Frame) : (s.setSpinePrev i x).fw = s.fw := rfl
@[simp] theorem State.setSpinePrev_recovery (s : State) (i : Nat) (x : Frame) : (s.setSpinePrev i x).recovery = s.recovery := rfl
@[simp] theorem State.setSpinePrev_reports (s : State) (i : Nat) (x : Frame) : (s.setSpinePrev i x).reports = s.reports := rfl
@[simp] theorem State.setSpinePrev_signed (s : State) (i : Nat) (x : Frame) : (s.setSpinePrev i x).signed = s.signed := rfl
@[simp] theorem State.setSpinePrev_attests (s : State) (i : Nat) (x : Frame) : (s.setSpinePrev i x).attests = s.attests := rfl
@[simp] theorem State.setSpinePrev_uarts (s : State) (i : Nat) (x : Frame) : (s.setSpinePrev i x).uarts = s.uarts := rfl
@[simp] theorem State.setSpinePrev_spi (s : State) (i : Nat) (x : Frame) : (s.setSpinePrev i x).spi = s.spi := rfl
@[simp] theorem State.setSpinePrev_i2cs (s : State) (i : Nat) (x : Frame) : (s.setSpinePrev i x).i2cs = s.i2cs := rfl
@[simp] theorem State.setSpinePrev_cores (s : State) (i : Nat) (x : Frame) : (s.setSpinePrev i x).cores = s.cores := rfl
@[simp] theorem State.setSpinePrev_wdgs (s : State) (i : Nat) (x : Frame) : (s.setSpinePrev i x).wdgs = s.wdgs := rfl
@[simp] theorem State.setSpinePrev_gexts (s : State) (i : Nat) (x : Frame) : (s.setSpinePrev i x).gexts = s.gexts := rfl
@[simp] theorem State.setSpinePrev_gkeeps (s : State) (i : Nat) (x : Frame) : (s.setSpinePrev i x).gkeeps = s.gkeeps := rfl
@[simp] theorem State.setSpinePrev_glines (s : State) (i : Nat) (x : Frame) : (s.setSpinePrev i x).glines = s.glines := rfl
@[simp] theorem State.setSpinePrev_gheld (s : State) (i : Nat) (x : Frame) : (s.setSpinePrev i x).gheld = s.gheld := rfl
@[simp] theorem State.setSpinePrev_cmpNews (s : State) (i : Nat) (x : Frame) : (s.setSpinePrev i x).cmpNews = s.cmpNews := rfl
@[simp] theorem State.setSpinePrev_ptpNews (s : State) (i : Nat) (x : Frame) : (s.setSpinePrev i x).ptpNews = s.ptpNews := rfl
@[simp] theorem State.setSpinePrev_ptpStamp (s : State) (i : Nat) (x : Frame) : (s.setSpinePrev i x).ptpStamp = s.ptpStamp := rfl
@[simp] theorem State.setSpinePrev_ppsAt (s : State) (i : Nat) (x : Frame) : (s.setSpinePrev i x).ppsAt = s.ppsAt := rfl
@[simp] theorem State.setSpinePrev_mem (s : State) (i : Nat) (x : Frame) : (s.setSpinePrev i x).mem = s.mem := rfl
@[simp] theorem State.setSpinePrev_memEpoch (s : State) (i : Nat) (x : Frame) : (s.setSpinePrev i x).memEpoch = s.memEpoch := rfl
@[simp] theorem State.setSpinePrev_ix (s : State) (i : Nat) (x : Frame) : (s.setSpinePrev i x).ix = s.ix := rfl
@[simp] theorem State.setSpinePrev_ixOut (s : State) (i : Nat) (x : Frame) : (s.setSpinePrev i x).ixOut = s.ixOut := rfl
@[simp] theorem State.setSpinePrev_doms (s : State) (i : Nat) (x : Frame) : (s.setSpinePrev i x).doms = s.doms := rfl
@[simp] theorem State.setSpinePrev_epoch (s : State) (i : Nat) (x : Frame) : (s.setSpinePrev i x).epoch = s.epoch := rfl
@[simp] theorem State.setSpinePrev_ups (s : State) (i : Nat) (x : Frame) : (s.setSpinePrev i x).ups = s.ups := rfl
@[simp] theorem State.setSpinePrev_dns (s : State) (i : Nat) (x : Frame) : (s.setSpinePrev i x).dns = s.dns := rfl
@[simp] theorem State.setSpinePrev_probes (s : State) (i : Nat) (x : Frame) : (s.setSpinePrev i x).probes = s.probes := rfl
@[simp] theorem State.setSpinePrev_tapIr (s : State) (i : Nat) (x : Frame) : (s.setSpinePrev i x).tapIr = s.tapIr := rfl
@[simp] theorem State.setSpinePrev_bscan (s : State) (i : Nat) (x : Frame) : (s.setSpinePrev i x).bscan = s.bscan := rfl
@[simp] theorem State.setSpinePrev_dbgAcc (s : State) (i : Nat) (x : Frame) : (s.setSpinePrev i x).dbgAcc = s.dbgAcc := rfl
@[simp] theorem State.setSpinePrev_dbgStatus (s : State) (i : Nat) (x : Frame) : (s.setSpinePrev i x).dbgStatus = s.dbgStatus := rfl
@[simp] theorem State.setSpinePrev_dbgP (s : State) (i : Nat) (x : Frame) : (s.setSpinePrev i x).dbgP = s.dbgP := rfl
@[simp] theorem State.setSpinePrev_dbgData (s : State) (i : Nat) (x : Frame) : (s.setSpinePrev i x).dbgData = s.dbgData := rfl
@[simp] theorem State.setSpinePrev_bcap (s : State) (i : Nat) (x : Frame) : (s.setSpinePrev i x).bcap = s.bcap := rfl
@[simp] theorem State.setSpinePrev_vin (s : State) (i : Nat) (x : Frame) : (s.setSpinePrev i x).vin = s.vin := rfl
@[simp] theorem State.setSpinePrev_vbat (s : State) (i : Nat) (x : Frame) : (s.setSpinePrev i x).vbat = s.vbat := rfl
@[simp] theorem State.setSpinePrev_bbGone (s : State) (i : Nat) (x : Frame) : (s.setSpinePrev i x).bbGone = s.bbGone := rfl
@[simp] theorem State.setSpinePrev_hot (s : State) (i : Nat) (x : Frame) : (s.setSpinePrev i x).hot = s.hot := rfl
@[simp] theorem State.setSpinePrev_bootDue (s : State) (i : Nat) (x : Frame) : (s.setSpinePrev i x).bootDue = s.bootDue := rfl

@[simp] theorem State.setPad_pads (s : State) (i : Nat) (x : Pad) : (s.setPad i x).pads = Store.put {} s.pads i x := rfl
@[simp] theorem State.padOf_setPad_same (s : State) (i : Nat) (x : Pad) : (s.setPad i x).padOf i = x := Store.get_put_same _ _ _ _
theorem State.padOf_setPad_ne (s : State) (i j : Nat) (x : Pad) (h : j ≠ i) : (s.setPad i x).padOf j = s.padOf j := Store.get_put_ne _ _ _ h
@[simp] theorem State.setPad_pending (s : State) (i : Nat) (x : Pad) : (s.setPad i x).pending = s.pending := rfl
@[simp] theorem State.setPad_free (s : State) (i : Nat) (x : Pad) : (s.setPad i x).free = s.free := rfl
@[simp] theorem State.setPad_time (s : State) (i : Nat) (x : Pad) : (s.setPad i x).time = s.time := rfl
@[simp] theorem State.setPad_regs (s : State) (i : Nat) (x : Pad) : (s.setPad i x).regs = s.regs := rfl
@[simp] theorem State.setPad_rdata (s : State) (i : Nat) (x : Pad) : (s.setPad i x).rdata = s.rdata := rfl
@[simp] theorem State.setPad_tports (s : State) (i : Nat) (x : Pad) : (s.setPad i x).tports = s.tports := rfl
@[simp] theorem State.setPad_tlines (s : State) (i : Nat) (x : Pad) : (s.setPad i x).tlines = s.tlines := rfl
@[simp] theorem State.setPad_ptp (s : State) (i : Nat) (x : Pad) : (s.setPad i x).ptp = s.ptp := rfl
@[simp] theorem State.setPad_ptpGo (s : State) (i : Nat) (x : Pad) : (s.setPad i x).ptpGo = s.ptpGo := rfl
@[simp] theorem State.setPad_ptpMark (s : State) (i : Nat) (x : Pad) : (s.setPad i x).ptpMark = s.ptpMark := rfl
@[simp] theorem State.setPad_calReq (s : State) (i : Nat) (x : Pad) : (s.setPad i x).calReq = s.calReq := rfl
@[simp] theorem State.setPad_interval (s : State) (i : Nat) (x : Pad) : (s.setPad i x).interval = s.interval := rfl
@[simp] theorem State.setPad_frames (s : State) (i : Nat) (x : Pad) : (s.setPad i x).frames = s.frames := rfl
@[simp] theorem State.setPad_spine (s : State) (i : Nat) (x : Pad) : (s.setPad i x).spine = s.spine := rfl
@[simp] theorem State.setPad_cells (s : State) (i : Nat) (x : Pad) : (s.setPad i x).cells = s.cells := rfl
@[simp] theorem State.setPad_regions (s : State) (i : Nat) (x : Pad) : (s.setPad i x).regions = s.regions := rfl
@[simp] theorem State.setPad_clus (s : State) (i : Nat) (x : Pad) : (s.setPad i x).clus = s.clus := rfl
@[simp] theorem State.setPad_cfg (s : State) (i : Nat) (x : Pad) : (s.setPad i x).cfg = s.cfg := rfl
@[simp] theorem State.setPad_chans (s : State) (i : Nat) (x : Pad) : (s.setPad i x).chans = s.chans := rfl
@[simp] theorem State.setPad_aports (s : State) (i : Nat) (x : Pad) : (s.setPad i x).aports = s.aports := rfl
@[simp] theorem State.setPad_blines (s : State) (i : Nat) (x : Pad) : (s.setPad i x).blines = s.blines := rfl
@[simp] theorem State.setPad_bsrcs (s : State) (i : Nat) (x : Pad) : (s.setPad i x).bsrcs = s.bsrcs := rfl
@[simp] theorem State.setPad_bports (s : State) (i : Nat) (x : Pad) : (s.setPad i x).bports = s.bports := rfl
@[simp] theorem State.setPad_twins (s : State) (i : Nat) (x : Pad) : (s.setPad i x).twins = s.twins := rfl
@[simp] theorem State.setPad_lanes (s : State) (i : Nat) (x : Pad) : (s.setPad i x).lanes = s.lanes := rfl
@[simp] theorem State.setPad_flights (s : State) (i : Nat) (x : Pad) : (s.setPad i x).flights = s.flights := rfl
@[simp] theorem State.setPad_nextId (s : State) (i : Nat) (x : Pad) : (s.setPad i x).nextId = s.nextId := rfl
@[simp] theorem State.setPad_pairs (s : State) (i : Nat) (x : Pad) : (s.setPad i x).pairs = s.pairs := rfl
@[simp] theorem State.setPad_codePend (s : State) (i : Nat) (x : Pad) : (s.setPad i x).codePend = s.codePend := rfl
@[simp] theorem State.setPad_spareQ (s : State) (i : Nat) (x : Pad) : (s.setPad i x).spareQ = s.spareQ := rfl
@[simp] theorem State.setPad_swapWant (s : State) (i : Nat) (x : Pad) : (s.setPad i x).swapWant = s.swapWant := rfl
@[simp] theorem State.setPad_bmems (s : State) (i : Nat) (x : Pad) : (s.setPad i x).bmems = s.bmems := rfl
@[simp] theorem State.setPad_bbytes (s : State) (i : Nat) (x : Pad) : (s.setPad i x).bbytes = s.bbytes := rfl
@[simp] theorem State.setPad_banks (s : State) (i : Nat) (x : Pad) : (s.setPad i x).banks = s.banks := rfl
@[simp] theorem State.setPad_swords (s : State) (i : Nat) (x : Pad) : (s.setPad i x).swords = s.swords := rfl
@[simp] theorem State.setPad_hops (s : State) (i : Nat) (x : Pad) : (s.setPad i x).hops = s.hops := rfl
@[simp] theorem State.setPad_pins (s : State) (i : Nat) (x : Pad) : (s.setPad i x).pins = s.pins := rfl
@[simp] theorem State.setPad_spinePrevs (s : State) (i : Nat) (x : Pad) : (s.setPad i x).spinePrevs = s.spinePrevs := rfl
@[simp] theorem State.setPad_groups (s : State) (i : Nat) (x : Pad) : (s.setPad i x).groups = s.groups := rfl
@[simp] theorem State.setPad_links (s : State) (i : Nat) (x : Pad) : (s.setPad i x).links = s.links := rfl
@[simp] theorem State.setPad_reasms (s : State) (i : Nat) (x : Pad) : (s.setPad i x).reasms = s.reasms := rfl
@[simp] theorem State.setPad_mgmtIn (s : State) (i : Nat) (x : Pad) : (s.setPad i x).mgmtIn = s.mgmtIn := rfl
@[simp] theorem State.setPad_lateTags (s : State) (i : Nat) (x : Pad) : (s.setPad i x).lateTags = s.lateTags := rfl
@[simp] theorem State.setPad_slices (s : State) (i : Nat) (x : Pad) : (s.setPad i x).slices = s.slices := rfl
@[simp] theorem State.setPad_sweep (s : State) (i : Nat) (x : Pad) : (s.setPad i x).sweep = s.sweep := rfl
@[simp] theorem State.setPad_asyNews (s : State) (i : Nat) (x : Pad) : (s.setPad i x).asyNews = s.asyNews := rfl
@[simp] theorem State.setPad_sliceEnded (s : State) (i : Nat) (x : Pad) : (s.setPad i x).sliceEnded = s.sliceEnded := rfl
@[simp] theorem State.setPad_load (s : State) (i : Nat) (x : Pad) : (s.setPad i x).load = s.load := rfl
@[simp] theorem State.setPad_flash (s : State) (i : Nat) (x : Pad) : (s.setPad i x).flash = s.flash := rfl
@[simp] theorem State.setPad_gold (s : State) (i : Nat) (x : Pad) : (s.setPad i x).gold = s.gold := rfl
@[simp] theorem State.setPad_cparks (s : State) (i : Nat) (x : Pad) : (s.setPad i x).cparks = s.cparks := rfl
@[simp] theorem State.setPad_crcs (s : State) (i : Nat) (x : Pad) : (s.setPad i x).crcs = s.crcs := rfl
@[simp] theorem State.setPad_loadEnded (s : State) (i : Nat) (x : Pad) : (s.setPad i x).loadEnded = s.loadEnded := rfl
@[simp] theorem State.setPad_imgHash (s : State) (i : Nat) (x : Pad) : (s.setPad i x).imgHash = s.imgHash := rfl
@[simp] theorem State.setPad_rimgs (s : State) (i : Nat) (x : Pad) : (s.setPad i x).rimgs = s.rimgs := rfl
@[simp] theorem State.setPad_staged (s : State) (i : Nat) (x : Pad) : (s.setPad i x).staged = s.staged := rfl
@[simp] theorem State.setPad_loadAsked (s : State) (i : Nat) (x : Pad) : (s.setPad i x).loadAsked = s.loadAsked := rfl
@[simp] theorem State.setPad_toldFaults (s : State) (i : Nat) (x : Pad) : (s.setPad i x).toldFaults = s.toldFaults := rfl
@[simp] theorem State.setPad_kslots (s : State) (i : Nat) (x : Pad) : (s.setPad i x).kslots = s.kslots := rfl
@[simp] theorem State.setPad_oslots (s : State) (i : Nat) (x : Pad) : (s.setPad i x).oslots = s.oslots := rfl
@[simp] theorem State.setPad_kcmd (s : State) (i : Nat) (x : Pad) : (s.setPad i x).kcmd = s.kcmd := rfl
@[simp] theorem State.setPad_cutSlots (s : State) (i : Nat) (x : Pad) : (s.setPad i x).cutSlots = s.cutSlots := rfl
@[simp] theorem State.setPad_tkrev (s : State) (i : Nat) (x : Pad) : (s.setPad i x).tkrev = s.tkrev := rfl
@[simp] theorem State.setPad_fwsvn (s : State) (i : Nat) (x : Pad) : (s.setPad i x).fwsvn = s.fwsvn := rfl
@[simp] theorem State.setPad_fw (s : State) (i : Nat) (x : Pad) : (s.setPad i x).fw = s.fw := rfl
@[simp] theorem State.setPad_recovery (s : State) (i : Nat) (x : Pad) : (s.setPad i x).recovery = s.recovery := rfl
@[simp] theorem State.setPad_reports (s : State) (i : Nat) (x : Pad) : (s.setPad i x).reports = s.reports := rfl
@[simp] theorem State.setPad_signed (s : State) (i : Nat) (x : Pad) : (s.setPad i x).signed = s.signed := rfl
@[simp] theorem State.setPad_attests (s : State) (i : Nat) (x : Pad) : (s.setPad i x).attests = s.attests := rfl
@[simp] theorem State.setPad_uarts (s : State) (i : Nat) (x : Pad) : (s.setPad i x).uarts = s.uarts := rfl
@[simp] theorem State.setPad_spi (s : State) (i : Nat) (x : Pad) : (s.setPad i x).spi = s.spi := rfl
@[simp] theorem State.setPad_i2cs (s : State) (i : Nat) (x : Pad) : (s.setPad i x).i2cs = s.i2cs := rfl
@[simp] theorem State.setPad_cores (s : State) (i : Nat) (x : Pad) : (s.setPad i x).cores = s.cores := rfl
@[simp] theorem State.setPad_wdgs (s : State) (i : Nat) (x : Pad) : (s.setPad i x).wdgs = s.wdgs := rfl
@[simp] theorem State.setPad_gexts (s : State) (i : Nat) (x : Pad) : (s.setPad i x).gexts = s.gexts := rfl
@[simp] theorem State.setPad_gkeeps (s : State) (i : Nat) (x : Pad) : (s.setPad i x).gkeeps = s.gkeeps := rfl
@[simp] theorem State.setPad_glines (s : State) (i : Nat) (x : Pad) : (s.setPad i x).glines = s.glines := rfl
@[simp] theorem State.setPad_gheld (s : State) (i : Nat) (x : Pad) : (s.setPad i x).gheld = s.gheld := rfl
@[simp] theorem State.setPad_cmpNews (s : State) (i : Nat) (x : Pad) : (s.setPad i x).cmpNews = s.cmpNews := rfl
@[simp] theorem State.setPad_ptpNews (s : State) (i : Nat) (x : Pad) : (s.setPad i x).ptpNews = s.ptpNews := rfl
@[simp] theorem State.setPad_ptpStamp (s : State) (i : Nat) (x : Pad) : (s.setPad i x).ptpStamp = s.ptpStamp := rfl
@[simp] theorem State.setPad_ppsAt (s : State) (i : Nat) (x : Pad) : (s.setPad i x).ppsAt = s.ppsAt := rfl
@[simp] theorem State.setPad_mem (s : State) (i : Nat) (x : Pad) : (s.setPad i x).mem = s.mem := rfl
@[simp] theorem State.setPad_memEpoch (s : State) (i : Nat) (x : Pad) : (s.setPad i x).memEpoch = s.memEpoch := rfl
@[simp] theorem State.setPad_ix (s : State) (i : Nat) (x : Pad) : (s.setPad i x).ix = s.ix := rfl
@[simp] theorem State.setPad_ixOut (s : State) (i : Nat) (x : Pad) : (s.setPad i x).ixOut = s.ixOut := rfl
@[simp] theorem State.setPad_doms (s : State) (i : Nat) (x : Pad) : (s.setPad i x).doms = s.doms := rfl
@[simp] theorem State.setPad_epoch (s : State) (i : Nat) (x : Pad) : (s.setPad i x).epoch = s.epoch := rfl
@[simp] theorem State.setPad_ups (s : State) (i : Nat) (x : Pad) : (s.setPad i x).ups = s.ups := rfl
@[simp] theorem State.setPad_dns (s : State) (i : Nat) (x : Pad) : (s.setPad i x).dns = s.dns := rfl
@[simp] theorem State.setPad_probes (s : State) (i : Nat) (x : Pad) : (s.setPad i x).probes = s.probes := rfl
@[simp] theorem State.setPad_tapIr (s : State) (i : Nat) (x : Pad) : (s.setPad i x).tapIr = s.tapIr := rfl
@[simp] theorem State.setPad_bscan (s : State) (i : Nat) (x : Pad) : (s.setPad i x).bscan = s.bscan := rfl
@[simp] theorem State.setPad_dbgAcc (s : State) (i : Nat) (x : Pad) : (s.setPad i x).dbgAcc = s.dbgAcc := rfl
@[simp] theorem State.setPad_dbgStatus (s : State) (i : Nat) (x : Pad) : (s.setPad i x).dbgStatus = s.dbgStatus := rfl
@[simp] theorem State.setPad_dbgP (s : State) (i : Nat) (x : Pad) : (s.setPad i x).dbgP = s.dbgP := rfl
@[simp] theorem State.setPad_dbgData (s : State) (i : Nat) (x : Pad) : (s.setPad i x).dbgData = s.dbgData := rfl
@[simp] theorem State.setPad_bcap (s : State) (i : Nat) (x : Pad) : (s.setPad i x).bcap = s.bcap := rfl
@[simp] theorem State.setPad_vin (s : State) (i : Nat) (x : Pad) : (s.setPad i x).vin = s.vin := rfl
@[simp] theorem State.setPad_vbat (s : State) (i : Nat) (x : Pad) : (s.setPad i x).vbat = s.vbat := rfl
@[simp] theorem State.setPad_bbGone (s : State) (i : Nat) (x : Pad) : (s.setPad i x).bbGone = s.bbGone := rfl
@[simp] theorem State.setPad_hot (s : State) (i : Nat) (x : Pad) : (s.setPad i x).hot = s.hot := rfl
@[simp] theorem State.setPad_bootDue (s : State) (i : Nat) (x : Pad) : (s.setPad i x).bootDue = s.bootDue := rfl

@[simp] theorem State.setGroup_groups (s : State) (i : Nat) (x : Group) : (s.setGroup i x).groups = Store.put {} s.groups i x := rfl
@[simp] theorem State.group_setGroup_same (s : State) (i : Nat) (x : Group) : (s.setGroup i x).group i = x := Store.get_put_same _ _ _ _
theorem State.group_setGroup_ne (s : State) (i j : Nat) (x : Group) (h : j ≠ i) : (s.setGroup i x).group j = s.group j := Store.get_put_ne _ _ _ h
@[simp] theorem State.setGroup_pending (s : State) (i : Nat) (x : Group) : (s.setGroup i x).pending = s.pending := rfl
@[simp] theorem State.setGroup_free (s : State) (i : Nat) (x : Group) : (s.setGroup i x).free = s.free := rfl
@[simp] theorem State.setGroup_time (s : State) (i : Nat) (x : Group) : (s.setGroup i x).time = s.time := rfl
@[simp] theorem State.setGroup_regs (s : State) (i : Nat) (x : Group) : (s.setGroup i x).regs = s.regs := rfl
@[simp] theorem State.setGroup_rdata (s : State) (i : Nat) (x : Group) : (s.setGroup i x).rdata = s.rdata := rfl
@[simp] theorem State.setGroup_tports (s : State) (i : Nat) (x : Group) : (s.setGroup i x).tports = s.tports := rfl
@[simp] theorem State.setGroup_tlines (s : State) (i : Nat) (x : Group) : (s.setGroup i x).tlines = s.tlines := rfl
@[simp] theorem State.setGroup_ptp (s : State) (i : Nat) (x : Group) : (s.setGroup i x).ptp = s.ptp := rfl
@[simp] theorem State.setGroup_ptpGo (s : State) (i : Nat) (x : Group) : (s.setGroup i x).ptpGo = s.ptpGo := rfl
@[simp] theorem State.setGroup_ptpMark (s : State) (i : Nat) (x : Group) : (s.setGroup i x).ptpMark = s.ptpMark := rfl
@[simp] theorem State.setGroup_calReq (s : State) (i : Nat) (x : Group) : (s.setGroup i x).calReq = s.calReq := rfl
@[simp] theorem State.setGroup_interval (s : State) (i : Nat) (x : Group) : (s.setGroup i x).interval = s.interval := rfl
@[simp] theorem State.setGroup_frames (s : State) (i : Nat) (x : Group) : (s.setGroup i x).frames = s.frames := rfl
@[simp] theorem State.setGroup_spine (s : State) (i : Nat) (x : Group) : (s.setGroup i x).spine = s.spine := rfl
@[simp] theorem State.setGroup_cells (s : State) (i : Nat) (x : Group) : (s.setGroup i x).cells = s.cells := rfl
@[simp] theorem State.setGroup_regions (s : State) (i : Nat) (x : Group) : (s.setGroup i x).regions = s.regions := rfl
@[simp] theorem State.setGroup_clus (s : State) (i : Nat) (x : Group) : (s.setGroup i x).clus = s.clus := rfl
@[simp] theorem State.setGroup_cfg (s : State) (i : Nat) (x : Group) : (s.setGroup i x).cfg = s.cfg := rfl
@[simp] theorem State.setGroup_chans (s : State) (i : Nat) (x : Group) : (s.setGroup i x).chans = s.chans := rfl
@[simp] theorem State.setGroup_aports (s : State) (i : Nat) (x : Group) : (s.setGroup i x).aports = s.aports := rfl
@[simp] theorem State.setGroup_blines (s : State) (i : Nat) (x : Group) : (s.setGroup i x).blines = s.blines := rfl
@[simp] theorem State.setGroup_bsrcs (s : State) (i : Nat) (x : Group) : (s.setGroup i x).bsrcs = s.bsrcs := rfl
@[simp] theorem State.setGroup_bports (s : State) (i : Nat) (x : Group) : (s.setGroup i x).bports = s.bports := rfl
@[simp] theorem State.setGroup_twins (s : State) (i : Nat) (x : Group) : (s.setGroup i x).twins = s.twins := rfl
@[simp] theorem State.setGroup_lanes (s : State) (i : Nat) (x : Group) : (s.setGroup i x).lanes = s.lanes := rfl
@[simp] theorem State.setGroup_flights (s : State) (i : Nat) (x : Group) : (s.setGroup i x).flights = s.flights := rfl
@[simp] theorem State.setGroup_nextId (s : State) (i : Nat) (x : Group) : (s.setGroup i x).nextId = s.nextId := rfl
@[simp] theorem State.setGroup_pairs (s : State) (i : Nat) (x : Group) : (s.setGroup i x).pairs = s.pairs := rfl
@[simp] theorem State.setGroup_codePend (s : State) (i : Nat) (x : Group) : (s.setGroup i x).codePend = s.codePend := rfl
@[simp] theorem State.setGroup_spareQ (s : State) (i : Nat) (x : Group) : (s.setGroup i x).spareQ = s.spareQ := rfl
@[simp] theorem State.setGroup_swapWant (s : State) (i : Nat) (x : Group) : (s.setGroup i x).swapWant = s.swapWant := rfl
@[simp] theorem State.setGroup_bmems (s : State) (i : Nat) (x : Group) : (s.setGroup i x).bmems = s.bmems := rfl
@[simp] theorem State.setGroup_bbytes (s : State) (i : Nat) (x : Group) : (s.setGroup i x).bbytes = s.bbytes := rfl
@[simp] theorem State.setGroup_banks (s : State) (i : Nat) (x : Group) : (s.setGroup i x).banks = s.banks := rfl
@[simp] theorem State.setGroup_swords (s : State) (i : Nat) (x : Group) : (s.setGroup i x).swords = s.swords := rfl
@[simp] theorem State.setGroup_hops (s : State) (i : Nat) (x : Group) : (s.setGroup i x).hops = s.hops := rfl
@[simp] theorem State.setGroup_pins (s : State) (i : Nat) (x : Group) : (s.setGroup i x).pins = s.pins := rfl
@[simp] theorem State.setGroup_spinePrevs (s : State) (i : Nat) (x : Group) : (s.setGroup i x).spinePrevs = s.spinePrevs := rfl
@[simp] theorem State.setGroup_pads (s : State) (i : Nat) (x : Group) : (s.setGroup i x).pads = s.pads := rfl
@[simp] theorem State.setGroup_links (s : State) (i : Nat) (x : Group) : (s.setGroup i x).links = s.links := rfl
@[simp] theorem State.setGroup_reasms (s : State) (i : Nat) (x : Group) : (s.setGroup i x).reasms = s.reasms := rfl
@[simp] theorem State.setGroup_mgmtIn (s : State) (i : Nat) (x : Group) : (s.setGroup i x).mgmtIn = s.mgmtIn := rfl
@[simp] theorem State.setGroup_lateTags (s : State) (i : Nat) (x : Group) : (s.setGroup i x).lateTags = s.lateTags := rfl
@[simp] theorem State.setGroup_slices (s : State) (i : Nat) (x : Group) : (s.setGroup i x).slices = s.slices := rfl
@[simp] theorem State.setGroup_sweep (s : State) (i : Nat) (x : Group) : (s.setGroup i x).sweep = s.sweep := rfl
@[simp] theorem State.setGroup_asyNews (s : State) (i : Nat) (x : Group) : (s.setGroup i x).asyNews = s.asyNews := rfl
@[simp] theorem State.setGroup_sliceEnded (s : State) (i : Nat) (x : Group) : (s.setGroup i x).sliceEnded = s.sliceEnded := rfl
@[simp] theorem State.setGroup_load (s : State) (i : Nat) (x : Group) : (s.setGroup i x).load = s.load := rfl
@[simp] theorem State.setGroup_flash (s : State) (i : Nat) (x : Group) : (s.setGroup i x).flash = s.flash := rfl
@[simp] theorem State.setGroup_gold (s : State) (i : Nat) (x : Group) : (s.setGroup i x).gold = s.gold := rfl
@[simp] theorem State.setGroup_cparks (s : State) (i : Nat) (x : Group) : (s.setGroup i x).cparks = s.cparks := rfl
@[simp] theorem State.setGroup_crcs (s : State) (i : Nat) (x : Group) : (s.setGroup i x).crcs = s.crcs := rfl
@[simp] theorem State.setGroup_loadEnded (s : State) (i : Nat) (x : Group) : (s.setGroup i x).loadEnded = s.loadEnded := rfl
@[simp] theorem State.setGroup_imgHash (s : State) (i : Nat) (x : Group) : (s.setGroup i x).imgHash = s.imgHash := rfl
@[simp] theorem State.setGroup_rimgs (s : State) (i : Nat) (x : Group) : (s.setGroup i x).rimgs = s.rimgs := rfl
@[simp] theorem State.setGroup_staged (s : State) (i : Nat) (x : Group) : (s.setGroup i x).staged = s.staged := rfl
@[simp] theorem State.setGroup_loadAsked (s : State) (i : Nat) (x : Group) : (s.setGroup i x).loadAsked = s.loadAsked := rfl
@[simp] theorem State.setGroup_toldFaults (s : State) (i : Nat) (x : Group) : (s.setGroup i x).toldFaults = s.toldFaults := rfl
@[simp] theorem State.setGroup_kslots (s : State) (i : Nat) (x : Group) : (s.setGroup i x).kslots = s.kslots := rfl
@[simp] theorem State.setGroup_oslots (s : State) (i : Nat) (x : Group) : (s.setGroup i x).oslots = s.oslots := rfl
@[simp] theorem State.setGroup_kcmd (s : State) (i : Nat) (x : Group) : (s.setGroup i x).kcmd = s.kcmd := rfl
@[simp] theorem State.setGroup_cutSlots (s : State) (i : Nat) (x : Group) : (s.setGroup i x).cutSlots = s.cutSlots := rfl
@[simp] theorem State.setGroup_tkrev (s : State) (i : Nat) (x : Group) : (s.setGroup i x).tkrev = s.tkrev := rfl
@[simp] theorem State.setGroup_fwsvn (s : State) (i : Nat) (x : Group) : (s.setGroup i x).fwsvn = s.fwsvn := rfl
@[simp] theorem State.setGroup_fw (s : State) (i : Nat) (x : Group) : (s.setGroup i x).fw = s.fw := rfl
@[simp] theorem State.setGroup_recovery (s : State) (i : Nat) (x : Group) : (s.setGroup i x).recovery = s.recovery := rfl
@[simp] theorem State.setGroup_reports (s : State) (i : Nat) (x : Group) : (s.setGroup i x).reports = s.reports := rfl
@[simp] theorem State.setGroup_signed (s : State) (i : Nat) (x : Group) : (s.setGroup i x).signed = s.signed := rfl
@[simp] theorem State.setGroup_attests (s : State) (i : Nat) (x : Group) : (s.setGroup i x).attests = s.attests := rfl
@[simp] theorem State.setGroup_uarts (s : State) (i : Nat) (x : Group) : (s.setGroup i x).uarts = s.uarts := rfl
@[simp] theorem State.setGroup_spi (s : State) (i : Nat) (x : Group) : (s.setGroup i x).spi = s.spi := rfl
@[simp] theorem State.setGroup_i2cs (s : State) (i : Nat) (x : Group) : (s.setGroup i x).i2cs = s.i2cs := rfl
@[simp] theorem State.setGroup_cores (s : State) (i : Nat) (x : Group) : (s.setGroup i x).cores = s.cores := rfl
@[simp] theorem State.setGroup_wdgs (s : State) (i : Nat) (x : Group) : (s.setGroup i x).wdgs = s.wdgs := rfl
@[simp] theorem State.setGroup_gexts (s : State) (i : Nat) (x : Group) : (s.setGroup i x).gexts = s.gexts := rfl
@[simp] theorem State.setGroup_gkeeps (s : State) (i : Nat) (x : Group) : (s.setGroup i x).gkeeps = s.gkeeps := rfl
@[simp] theorem State.setGroup_glines (s : State) (i : Nat) (x : Group) : (s.setGroup i x).glines = s.glines := rfl
@[simp] theorem State.setGroup_gheld (s : State) (i : Nat) (x : Group) : (s.setGroup i x).gheld = s.gheld := rfl
@[simp] theorem State.setGroup_cmpNews (s : State) (i : Nat) (x : Group) : (s.setGroup i x).cmpNews = s.cmpNews := rfl
@[simp] theorem State.setGroup_ptpNews (s : State) (i : Nat) (x : Group) : (s.setGroup i x).ptpNews = s.ptpNews := rfl
@[simp] theorem State.setGroup_ptpStamp (s : State) (i : Nat) (x : Group) : (s.setGroup i x).ptpStamp = s.ptpStamp := rfl
@[simp] theorem State.setGroup_ppsAt (s : State) (i : Nat) (x : Group) : (s.setGroup i x).ppsAt = s.ppsAt := rfl
@[simp] theorem State.setGroup_mem (s : State) (i : Nat) (x : Group) : (s.setGroup i x).mem = s.mem := rfl
@[simp] theorem State.setGroup_memEpoch (s : State) (i : Nat) (x : Group) : (s.setGroup i x).memEpoch = s.memEpoch := rfl
@[simp] theorem State.setGroup_ix (s : State) (i : Nat) (x : Group) : (s.setGroup i x).ix = s.ix := rfl
@[simp] theorem State.setGroup_ixOut (s : State) (i : Nat) (x : Group) : (s.setGroup i x).ixOut = s.ixOut := rfl
@[simp] theorem State.setGroup_doms (s : State) (i : Nat) (x : Group) : (s.setGroup i x).doms = s.doms := rfl
@[simp] theorem State.setGroup_epoch (s : State) (i : Nat) (x : Group) : (s.setGroup i x).epoch = s.epoch := rfl
@[simp] theorem State.setGroup_ups (s : State) (i : Nat) (x : Group) : (s.setGroup i x).ups = s.ups := rfl
@[simp] theorem State.setGroup_dns (s : State) (i : Nat) (x : Group) : (s.setGroup i x).dns = s.dns := rfl
@[simp] theorem State.setGroup_probes (s : State) (i : Nat) (x : Group) : (s.setGroup i x).probes = s.probes := rfl
@[simp] theorem State.setGroup_tapIr (s : State) (i : Nat) (x : Group) : (s.setGroup i x).tapIr = s.tapIr := rfl
@[simp] theorem State.setGroup_bscan (s : State) (i : Nat) (x : Group) : (s.setGroup i x).bscan = s.bscan := rfl
@[simp] theorem State.setGroup_dbgAcc (s : State) (i : Nat) (x : Group) : (s.setGroup i x).dbgAcc = s.dbgAcc := rfl
@[simp] theorem State.setGroup_dbgStatus (s : State) (i : Nat) (x : Group) : (s.setGroup i x).dbgStatus = s.dbgStatus := rfl
@[simp] theorem State.setGroup_dbgP (s : State) (i : Nat) (x : Group) : (s.setGroup i x).dbgP = s.dbgP := rfl
@[simp] theorem State.setGroup_dbgData (s : State) (i : Nat) (x : Group) : (s.setGroup i x).dbgData = s.dbgData := rfl
@[simp] theorem State.setGroup_bcap (s : State) (i : Nat) (x : Group) : (s.setGroup i x).bcap = s.bcap := rfl
@[simp] theorem State.setGroup_vin (s : State) (i : Nat) (x : Group) : (s.setGroup i x).vin = s.vin := rfl
@[simp] theorem State.setGroup_vbat (s : State) (i : Nat) (x : Group) : (s.setGroup i x).vbat = s.vbat := rfl
@[simp] theorem State.setGroup_bbGone (s : State) (i : Nat) (x : Group) : (s.setGroup i x).bbGone = s.bbGone := rfl
@[simp] theorem State.setGroup_hot (s : State) (i : Nat) (x : Group) : (s.setGroup i x).hot = s.hot := rfl
@[simp] theorem State.setGroup_bootDue (s : State) (i : Nat) (x : Group) : (s.setGroup i x).bootDue = s.bootDue := rfl

@[simp] theorem State.setClink_links (s : State) (i : Nat) (x : CLink) : (s.setClink i x).links = Store.put {} s.links i x := rfl
@[simp] theorem State.clink_setClink_same (s : State) (i : Nat) (x : CLink) : (s.setClink i x).clink i = x := Store.get_put_same _ _ _ _
theorem State.clink_setClink_ne (s : State) (i j : Nat) (x : CLink) (h : j ≠ i) : (s.setClink i x).clink j = s.clink j := Store.get_put_ne _ _ _ h
@[simp] theorem State.setClink_pending (s : State) (i : Nat) (x : CLink) : (s.setClink i x).pending = s.pending := rfl
@[simp] theorem State.setClink_free (s : State) (i : Nat) (x : CLink) : (s.setClink i x).free = s.free := rfl
@[simp] theorem State.setClink_time (s : State) (i : Nat) (x : CLink) : (s.setClink i x).time = s.time := rfl
@[simp] theorem State.setClink_regs (s : State) (i : Nat) (x : CLink) : (s.setClink i x).regs = s.regs := rfl
@[simp] theorem State.setClink_rdata (s : State) (i : Nat) (x : CLink) : (s.setClink i x).rdata = s.rdata := rfl
@[simp] theorem State.setClink_tports (s : State) (i : Nat) (x : CLink) : (s.setClink i x).tports = s.tports := rfl
@[simp] theorem State.setClink_tlines (s : State) (i : Nat) (x : CLink) : (s.setClink i x).tlines = s.tlines := rfl
@[simp] theorem State.setClink_ptp (s : State) (i : Nat) (x : CLink) : (s.setClink i x).ptp = s.ptp := rfl
@[simp] theorem State.setClink_ptpGo (s : State) (i : Nat) (x : CLink) : (s.setClink i x).ptpGo = s.ptpGo := rfl
@[simp] theorem State.setClink_ptpMark (s : State) (i : Nat) (x : CLink) : (s.setClink i x).ptpMark = s.ptpMark := rfl
@[simp] theorem State.setClink_calReq (s : State) (i : Nat) (x : CLink) : (s.setClink i x).calReq = s.calReq := rfl
@[simp] theorem State.setClink_interval (s : State) (i : Nat) (x : CLink) : (s.setClink i x).interval = s.interval := rfl
@[simp] theorem State.setClink_frames (s : State) (i : Nat) (x : CLink) : (s.setClink i x).frames = s.frames := rfl
@[simp] theorem State.setClink_spine (s : State) (i : Nat) (x : CLink) : (s.setClink i x).spine = s.spine := rfl
@[simp] theorem State.setClink_cells (s : State) (i : Nat) (x : CLink) : (s.setClink i x).cells = s.cells := rfl
@[simp] theorem State.setClink_regions (s : State) (i : Nat) (x : CLink) : (s.setClink i x).regions = s.regions := rfl
@[simp] theorem State.setClink_clus (s : State) (i : Nat) (x : CLink) : (s.setClink i x).clus = s.clus := rfl
@[simp] theorem State.setClink_cfg (s : State) (i : Nat) (x : CLink) : (s.setClink i x).cfg = s.cfg := rfl
@[simp] theorem State.setClink_chans (s : State) (i : Nat) (x : CLink) : (s.setClink i x).chans = s.chans := rfl
@[simp] theorem State.setClink_aports (s : State) (i : Nat) (x : CLink) : (s.setClink i x).aports = s.aports := rfl
@[simp] theorem State.setClink_blines (s : State) (i : Nat) (x : CLink) : (s.setClink i x).blines = s.blines := rfl
@[simp] theorem State.setClink_bsrcs (s : State) (i : Nat) (x : CLink) : (s.setClink i x).bsrcs = s.bsrcs := rfl
@[simp] theorem State.setClink_bports (s : State) (i : Nat) (x : CLink) : (s.setClink i x).bports = s.bports := rfl
@[simp] theorem State.setClink_twins (s : State) (i : Nat) (x : CLink) : (s.setClink i x).twins = s.twins := rfl
@[simp] theorem State.setClink_lanes (s : State) (i : Nat) (x : CLink) : (s.setClink i x).lanes = s.lanes := rfl
@[simp] theorem State.setClink_flights (s : State) (i : Nat) (x : CLink) : (s.setClink i x).flights = s.flights := rfl
@[simp] theorem State.setClink_nextId (s : State) (i : Nat) (x : CLink) : (s.setClink i x).nextId = s.nextId := rfl
@[simp] theorem State.setClink_pairs (s : State) (i : Nat) (x : CLink) : (s.setClink i x).pairs = s.pairs := rfl
@[simp] theorem State.setClink_codePend (s : State) (i : Nat) (x : CLink) : (s.setClink i x).codePend = s.codePend := rfl
@[simp] theorem State.setClink_spareQ (s : State) (i : Nat) (x : CLink) : (s.setClink i x).spareQ = s.spareQ := rfl
@[simp] theorem State.setClink_swapWant (s : State) (i : Nat) (x : CLink) : (s.setClink i x).swapWant = s.swapWant := rfl
@[simp] theorem State.setClink_bmems (s : State) (i : Nat) (x : CLink) : (s.setClink i x).bmems = s.bmems := rfl
@[simp] theorem State.setClink_bbytes (s : State) (i : Nat) (x : CLink) : (s.setClink i x).bbytes = s.bbytes := rfl
@[simp] theorem State.setClink_banks (s : State) (i : Nat) (x : CLink) : (s.setClink i x).banks = s.banks := rfl
@[simp] theorem State.setClink_swords (s : State) (i : Nat) (x : CLink) : (s.setClink i x).swords = s.swords := rfl
@[simp] theorem State.setClink_hops (s : State) (i : Nat) (x : CLink) : (s.setClink i x).hops = s.hops := rfl
@[simp] theorem State.setClink_pins (s : State) (i : Nat) (x : CLink) : (s.setClink i x).pins = s.pins := rfl
@[simp] theorem State.setClink_spinePrevs (s : State) (i : Nat) (x : CLink) : (s.setClink i x).spinePrevs = s.spinePrevs := rfl
@[simp] theorem State.setClink_pads (s : State) (i : Nat) (x : CLink) : (s.setClink i x).pads = s.pads := rfl
@[simp] theorem State.setClink_groups (s : State) (i : Nat) (x : CLink) : (s.setClink i x).groups = s.groups := rfl
@[simp] theorem State.setClink_reasms (s : State) (i : Nat) (x : CLink) : (s.setClink i x).reasms = s.reasms := rfl
@[simp] theorem State.setClink_mgmtIn (s : State) (i : Nat) (x : CLink) : (s.setClink i x).mgmtIn = s.mgmtIn := rfl
@[simp] theorem State.setClink_lateTags (s : State) (i : Nat) (x : CLink) : (s.setClink i x).lateTags = s.lateTags := rfl
@[simp] theorem State.setClink_slices (s : State) (i : Nat) (x : CLink) : (s.setClink i x).slices = s.slices := rfl
@[simp] theorem State.setClink_sweep (s : State) (i : Nat) (x : CLink) : (s.setClink i x).sweep = s.sweep := rfl
@[simp] theorem State.setClink_asyNews (s : State) (i : Nat) (x : CLink) : (s.setClink i x).asyNews = s.asyNews := rfl
@[simp] theorem State.setClink_sliceEnded (s : State) (i : Nat) (x : CLink) : (s.setClink i x).sliceEnded = s.sliceEnded := rfl
@[simp] theorem State.setClink_load (s : State) (i : Nat) (x : CLink) : (s.setClink i x).load = s.load := rfl
@[simp] theorem State.setClink_flash (s : State) (i : Nat) (x : CLink) : (s.setClink i x).flash = s.flash := rfl
@[simp] theorem State.setClink_gold (s : State) (i : Nat) (x : CLink) : (s.setClink i x).gold = s.gold := rfl
@[simp] theorem State.setClink_cparks (s : State) (i : Nat) (x : CLink) : (s.setClink i x).cparks = s.cparks := rfl
@[simp] theorem State.setClink_crcs (s : State) (i : Nat) (x : CLink) : (s.setClink i x).crcs = s.crcs := rfl
@[simp] theorem State.setClink_loadEnded (s : State) (i : Nat) (x : CLink) : (s.setClink i x).loadEnded = s.loadEnded := rfl
@[simp] theorem State.setClink_imgHash (s : State) (i : Nat) (x : CLink) : (s.setClink i x).imgHash = s.imgHash := rfl
@[simp] theorem State.setClink_rimgs (s : State) (i : Nat) (x : CLink) : (s.setClink i x).rimgs = s.rimgs := rfl
@[simp] theorem State.setClink_staged (s : State) (i : Nat) (x : CLink) : (s.setClink i x).staged = s.staged := rfl
@[simp] theorem State.setClink_loadAsked (s : State) (i : Nat) (x : CLink) : (s.setClink i x).loadAsked = s.loadAsked := rfl
@[simp] theorem State.setClink_toldFaults (s : State) (i : Nat) (x : CLink) : (s.setClink i x).toldFaults = s.toldFaults := rfl
@[simp] theorem State.setClink_kslots (s : State) (i : Nat) (x : CLink) : (s.setClink i x).kslots = s.kslots := rfl
@[simp] theorem State.setClink_oslots (s : State) (i : Nat) (x : CLink) : (s.setClink i x).oslots = s.oslots := rfl
@[simp] theorem State.setClink_kcmd (s : State) (i : Nat) (x : CLink) : (s.setClink i x).kcmd = s.kcmd := rfl
@[simp] theorem State.setClink_cutSlots (s : State) (i : Nat) (x : CLink) : (s.setClink i x).cutSlots = s.cutSlots := rfl
@[simp] theorem State.setClink_tkrev (s : State) (i : Nat) (x : CLink) : (s.setClink i x).tkrev = s.tkrev := rfl
@[simp] theorem State.setClink_fwsvn (s : State) (i : Nat) (x : CLink) : (s.setClink i x).fwsvn = s.fwsvn := rfl
@[simp] theorem State.setClink_fw (s : State) (i : Nat) (x : CLink) : (s.setClink i x).fw = s.fw := rfl
@[simp] theorem State.setClink_recovery (s : State) (i : Nat) (x : CLink) : (s.setClink i x).recovery = s.recovery := rfl
@[simp] theorem State.setClink_reports (s : State) (i : Nat) (x : CLink) : (s.setClink i x).reports = s.reports := rfl
@[simp] theorem State.setClink_signed (s : State) (i : Nat) (x : CLink) : (s.setClink i x).signed = s.signed := rfl
@[simp] theorem State.setClink_attests (s : State) (i : Nat) (x : CLink) : (s.setClink i x).attests = s.attests := rfl
@[simp] theorem State.setClink_uarts (s : State) (i : Nat) (x : CLink) : (s.setClink i x).uarts = s.uarts := rfl
@[simp] theorem State.setClink_spi (s : State) (i : Nat) (x : CLink) : (s.setClink i x).spi = s.spi := rfl
@[simp] theorem State.setClink_i2cs (s : State) (i : Nat) (x : CLink) : (s.setClink i x).i2cs = s.i2cs := rfl
@[simp] theorem State.setClink_cores (s : State) (i : Nat) (x : CLink) : (s.setClink i x).cores = s.cores := rfl
@[simp] theorem State.setClink_wdgs (s : State) (i : Nat) (x : CLink) : (s.setClink i x).wdgs = s.wdgs := rfl
@[simp] theorem State.setClink_gexts (s : State) (i : Nat) (x : CLink) : (s.setClink i x).gexts = s.gexts := rfl
@[simp] theorem State.setClink_gkeeps (s : State) (i : Nat) (x : CLink) : (s.setClink i x).gkeeps = s.gkeeps := rfl
@[simp] theorem State.setClink_glines (s : State) (i : Nat) (x : CLink) : (s.setClink i x).glines = s.glines := rfl
@[simp] theorem State.setClink_gheld (s : State) (i : Nat) (x : CLink) : (s.setClink i x).gheld = s.gheld := rfl
@[simp] theorem State.setClink_cmpNews (s : State) (i : Nat) (x : CLink) : (s.setClink i x).cmpNews = s.cmpNews := rfl
@[simp] theorem State.setClink_ptpNews (s : State) (i : Nat) (x : CLink) : (s.setClink i x).ptpNews = s.ptpNews := rfl
@[simp] theorem State.setClink_ptpStamp (s : State) (i : Nat) (x : CLink) : (s.setClink i x).ptpStamp = s.ptpStamp := rfl
@[simp] theorem State.setClink_ppsAt (s : State) (i : Nat) (x : CLink) : (s.setClink i x).ppsAt = s.ppsAt := rfl
@[simp] theorem State.setClink_mem (s : State) (i : Nat) (x : CLink) : (s.setClink i x).mem = s.mem := rfl
@[simp] theorem State.setClink_memEpoch (s : State) (i : Nat) (x : CLink) : (s.setClink i x).memEpoch = s.memEpoch := rfl
@[simp] theorem State.setClink_ix (s : State) (i : Nat) (x : CLink) : (s.setClink i x).ix = s.ix := rfl
@[simp] theorem State.setClink_ixOut (s : State) (i : Nat) (x : CLink) : (s.setClink i x).ixOut = s.ixOut := rfl
@[simp] theorem State.setClink_doms (s : State) (i : Nat) (x : CLink) : (s.setClink i x).doms = s.doms := rfl
@[simp] theorem State.setClink_epoch (s : State) (i : Nat) (x : CLink) : (s.setClink i x).epoch = s.epoch := rfl
@[simp] theorem State.setClink_ups (s : State) (i : Nat) (x : CLink) : (s.setClink i x).ups = s.ups := rfl
@[simp] theorem State.setClink_dns (s : State) (i : Nat) (x : CLink) : (s.setClink i x).dns = s.dns := rfl
@[simp] theorem State.setClink_probes (s : State) (i : Nat) (x : CLink) : (s.setClink i x).probes = s.probes := rfl
@[simp] theorem State.setClink_tapIr (s : State) (i : Nat) (x : CLink) : (s.setClink i x).tapIr = s.tapIr := rfl
@[simp] theorem State.setClink_bscan (s : State) (i : Nat) (x : CLink) : (s.setClink i x).bscan = s.bscan := rfl
@[simp] theorem State.setClink_dbgAcc (s : State) (i : Nat) (x : CLink) : (s.setClink i x).dbgAcc = s.dbgAcc := rfl
@[simp] theorem State.setClink_dbgStatus (s : State) (i : Nat) (x : CLink) : (s.setClink i x).dbgStatus = s.dbgStatus := rfl
@[simp] theorem State.setClink_dbgP (s : State) (i : Nat) (x : CLink) : (s.setClink i x).dbgP = s.dbgP := rfl
@[simp] theorem State.setClink_dbgData (s : State) (i : Nat) (x : CLink) : (s.setClink i x).dbgData = s.dbgData := rfl
@[simp] theorem State.setClink_bcap (s : State) (i : Nat) (x : CLink) : (s.setClink i x).bcap = s.bcap := rfl
@[simp] theorem State.setClink_vin (s : State) (i : Nat) (x : CLink) : (s.setClink i x).vin = s.vin := rfl
@[simp] theorem State.setClink_vbat (s : State) (i : Nat) (x : CLink) : (s.setClink i x).vbat = s.vbat := rfl
@[simp] theorem State.setClink_bbGone (s : State) (i : Nat) (x : CLink) : (s.setClink i x).bbGone = s.bbGone := rfl
@[simp] theorem State.setClink_hot (s : State) (i : Nat) (x : CLink) : (s.setClink i x).hot = s.hot := rfl
@[simp] theorem State.setClink_bootDue (s : State) (i : Nat) (x : CLink) : (s.setClink i x).bootDue = s.bootDue := rfl

@[simp] theorem State.setReasm_reasms (s : State) (i : Nat) (x : Reasm) : (s.setReasm i x).reasms = Store.put {} s.reasms i x := rfl
@[simp] theorem State.reasm_setReasm_same (s : State) (i : Nat) (x : Reasm) : (s.setReasm i x).reasm i = x := Store.get_put_same _ _ _ _
theorem State.reasm_setReasm_ne (s : State) (i j : Nat) (x : Reasm) (h : j ≠ i) : (s.setReasm i x).reasm j = s.reasm j := Store.get_put_ne _ _ _ h
@[simp] theorem State.setReasm_pending (s : State) (i : Nat) (x : Reasm) : (s.setReasm i x).pending = s.pending := rfl
@[simp] theorem State.setReasm_free (s : State) (i : Nat) (x : Reasm) : (s.setReasm i x).free = s.free := rfl
@[simp] theorem State.setReasm_time (s : State) (i : Nat) (x : Reasm) : (s.setReasm i x).time = s.time := rfl
@[simp] theorem State.setReasm_regs (s : State) (i : Nat) (x : Reasm) : (s.setReasm i x).regs = s.regs := rfl
@[simp] theorem State.setReasm_rdata (s : State) (i : Nat) (x : Reasm) : (s.setReasm i x).rdata = s.rdata := rfl
@[simp] theorem State.setReasm_tports (s : State) (i : Nat) (x : Reasm) : (s.setReasm i x).tports = s.tports := rfl
@[simp] theorem State.setReasm_tlines (s : State) (i : Nat) (x : Reasm) : (s.setReasm i x).tlines = s.tlines := rfl
@[simp] theorem State.setReasm_ptp (s : State) (i : Nat) (x : Reasm) : (s.setReasm i x).ptp = s.ptp := rfl
@[simp] theorem State.setReasm_ptpGo (s : State) (i : Nat) (x : Reasm) : (s.setReasm i x).ptpGo = s.ptpGo := rfl
@[simp] theorem State.setReasm_ptpMark (s : State) (i : Nat) (x : Reasm) : (s.setReasm i x).ptpMark = s.ptpMark := rfl
@[simp] theorem State.setReasm_calReq (s : State) (i : Nat) (x : Reasm) : (s.setReasm i x).calReq = s.calReq := rfl
@[simp] theorem State.setReasm_interval (s : State) (i : Nat) (x : Reasm) : (s.setReasm i x).interval = s.interval := rfl
@[simp] theorem State.setReasm_frames (s : State) (i : Nat) (x : Reasm) : (s.setReasm i x).frames = s.frames := rfl
@[simp] theorem State.setReasm_spine (s : State) (i : Nat) (x : Reasm) : (s.setReasm i x).spine = s.spine := rfl
@[simp] theorem State.setReasm_cells (s : State) (i : Nat) (x : Reasm) : (s.setReasm i x).cells = s.cells := rfl
@[simp] theorem State.setReasm_regions (s : State) (i : Nat) (x : Reasm) : (s.setReasm i x).regions = s.regions := rfl
@[simp] theorem State.setReasm_clus (s : State) (i : Nat) (x : Reasm) : (s.setReasm i x).clus = s.clus := rfl
@[simp] theorem State.setReasm_cfg (s : State) (i : Nat) (x : Reasm) : (s.setReasm i x).cfg = s.cfg := rfl
@[simp] theorem State.setReasm_chans (s : State) (i : Nat) (x : Reasm) : (s.setReasm i x).chans = s.chans := rfl
@[simp] theorem State.setReasm_aports (s : State) (i : Nat) (x : Reasm) : (s.setReasm i x).aports = s.aports := rfl
@[simp] theorem State.setReasm_blines (s : State) (i : Nat) (x : Reasm) : (s.setReasm i x).blines = s.blines := rfl
@[simp] theorem State.setReasm_bsrcs (s : State) (i : Nat) (x : Reasm) : (s.setReasm i x).bsrcs = s.bsrcs := rfl
@[simp] theorem State.setReasm_bports (s : State) (i : Nat) (x : Reasm) : (s.setReasm i x).bports = s.bports := rfl
@[simp] theorem State.setReasm_twins (s : State) (i : Nat) (x : Reasm) : (s.setReasm i x).twins = s.twins := rfl
@[simp] theorem State.setReasm_lanes (s : State) (i : Nat) (x : Reasm) : (s.setReasm i x).lanes = s.lanes := rfl
@[simp] theorem State.setReasm_flights (s : State) (i : Nat) (x : Reasm) : (s.setReasm i x).flights = s.flights := rfl
@[simp] theorem State.setReasm_nextId (s : State) (i : Nat) (x : Reasm) : (s.setReasm i x).nextId = s.nextId := rfl
@[simp] theorem State.setReasm_pairs (s : State) (i : Nat) (x : Reasm) : (s.setReasm i x).pairs = s.pairs := rfl
@[simp] theorem State.setReasm_codePend (s : State) (i : Nat) (x : Reasm) : (s.setReasm i x).codePend = s.codePend := rfl
@[simp] theorem State.setReasm_spareQ (s : State) (i : Nat) (x : Reasm) : (s.setReasm i x).spareQ = s.spareQ := rfl
@[simp] theorem State.setReasm_swapWant (s : State) (i : Nat) (x : Reasm) : (s.setReasm i x).swapWant = s.swapWant := rfl
@[simp] theorem State.setReasm_bmems (s : State) (i : Nat) (x : Reasm) : (s.setReasm i x).bmems = s.bmems := rfl
@[simp] theorem State.setReasm_bbytes (s : State) (i : Nat) (x : Reasm) : (s.setReasm i x).bbytes = s.bbytes := rfl
@[simp] theorem State.setReasm_banks (s : State) (i : Nat) (x : Reasm) : (s.setReasm i x).banks = s.banks := rfl
@[simp] theorem State.setReasm_swords (s : State) (i : Nat) (x : Reasm) : (s.setReasm i x).swords = s.swords := rfl
@[simp] theorem State.setReasm_hops (s : State) (i : Nat) (x : Reasm) : (s.setReasm i x).hops = s.hops := rfl
@[simp] theorem State.setReasm_pins (s : State) (i : Nat) (x : Reasm) : (s.setReasm i x).pins = s.pins := rfl
@[simp] theorem State.setReasm_spinePrevs (s : State) (i : Nat) (x : Reasm) : (s.setReasm i x).spinePrevs = s.spinePrevs := rfl
@[simp] theorem State.setReasm_pads (s : State) (i : Nat) (x : Reasm) : (s.setReasm i x).pads = s.pads := rfl
@[simp] theorem State.setReasm_groups (s : State) (i : Nat) (x : Reasm) : (s.setReasm i x).groups = s.groups := rfl
@[simp] theorem State.setReasm_links (s : State) (i : Nat) (x : Reasm) : (s.setReasm i x).links = s.links := rfl
@[simp] theorem State.setReasm_mgmtIn (s : State) (i : Nat) (x : Reasm) : (s.setReasm i x).mgmtIn = s.mgmtIn := rfl
@[simp] theorem State.setReasm_lateTags (s : State) (i : Nat) (x : Reasm) : (s.setReasm i x).lateTags = s.lateTags := rfl
@[simp] theorem State.setReasm_slices (s : State) (i : Nat) (x : Reasm) : (s.setReasm i x).slices = s.slices := rfl
@[simp] theorem State.setReasm_sweep (s : State) (i : Nat) (x : Reasm) : (s.setReasm i x).sweep = s.sweep := rfl
@[simp] theorem State.setReasm_asyNews (s : State) (i : Nat) (x : Reasm) : (s.setReasm i x).asyNews = s.asyNews := rfl
@[simp] theorem State.setReasm_sliceEnded (s : State) (i : Nat) (x : Reasm) : (s.setReasm i x).sliceEnded = s.sliceEnded := rfl
@[simp] theorem State.setReasm_load (s : State) (i : Nat) (x : Reasm) : (s.setReasm i x).load = s.load := rfl
@[simp] theorem State.setReasm_flash (s : State) (i : Nat) (x : Reasm) : (s.setReasm i x).flash = s.flash := rfl
@[simp] theorem State.setReasm_gold (s : State) (i : Nat) (x : Reasm) : (s.setReasm i x).gold = s.gold := rfl
@[simp] theorem State.setReasm_cparks (s : State) (i : Nat) (x : Reasm) : (s.setReasm i x).cparks = s.cparks := rfl
@[simp] theorem State.setReasm_crcs (s : State) (i : Nat) (x : Reasm) : (s.setReasm i x).crcs = s.crcs := rfl
@[simp] theorem State.setReasm_loadEnded (s : State) (i : Nat) (x : Reasm) : (s.setReasm i x).loadEnded = s.loadEnded := rfl
@[simp] theorem State.setReasm_imgHash (s : State) (i : Nat) (x : Reasm) : (s.setReasm i x).imgHash = s.imgHash := rfl
@[simp] theorem State.setReasm_rimgs (s : State) (i : Nat) (x : Reasm) : (s.setReasm i x).rimgs = s.rimgs := rfl
@[simp] theorem State.setReasm_staged (s : State) (i : Nat) (x : Reasm) : (s.setReasm i x).staged = s.staged := rfl
@[simp] theorem State.setReasm_loadAsked (s : State) (i : Nat) (x : Reasm) : (s.setReasm i x).loadAsked = s.loadAsked := rfl
@[simp] theorem State.setReasm_toldFaults (s : State) (i : Nat) (x : Reasm) : (s.setReasm i x).toldFaults = s.toldFaults := rfl
@[simp] theorem State.setReasm_kslots (s : State) (i : Nat) (x : Reasm) : (s.setReasm i x).kslots = s.kslots := rfl
@[simp] theorem State.setReasm_oslots (s : State) (i : Nat) (x : Reasm) : (s.setReasm i x).oslots = s.oslots := rfl
@[simp] theorem State.setReasm_kcmd (s : State) (i : Nat) (x : Reasm) : (s.setReasm i x).kcmd = s.kcmd := rfl
@[simp] theorem State.setReasm_cutSlots (s : State) (i : Nat) (x : Reasm) : (s.setReasm i x).cutSlots = s.cutSlots := rfl
@[simp] theorem State.setReasm_tkrev (s : State) (i : Nat) (x : Reasm) : (s.setReasm i x).tkrev = s.tkrev := rfl
@[simp] theorem State.setReasm_fwsvn (s : State) (i : Nat) (x : Reasm) : (s.setReasm i x).fwsvn = s.fwsvn := rfl
@[simp] theorem State.setReasm_fw (s : State) (i : Nat) (x : Reasm) : (s.setReasm i x).fw = s.fw := rfl
@[simp] theorem State.setReasm_recovery (s : State) (i : Nat) (x : Reasm) : (s.setReasm i x).recovery = s.recovery := rfl
@[simp] theorem State.setReasm_reports (s : State) (i : Nat) (x : Reasm) : (s.setReasm i x).reports = s.reports := rfl
@[simp] theorem State.setReasm_signed (s : State) (i : Nat) (x : Reasm) : (s.setReasm i x).signed = s.signed := rfl
@[simp] theorem State.setReasm_attests (s : State) (i : Nat) (x : Reasm) : (s.setReasm i x).attests = s.attests := rfl
@[simp] theorem State.setReasm_uarts (s : State) (i : Nat) (x : Reasm) : (s.setReasm i x).uarts = s.uarts := rfl
@[simp] theorem State.setReasm_spi (s : State) (i : Nat) (x : Reasm) : (s.setReasm i x).spi = s.spi := rfl
@[simp] theorem State.setReasm_i2cs (s : State) (i : Nat) (x : Reasm) : (s.setReasm i x).i2cs = s.i2cs := rfl
@[simp] theorem State.setReasm_cores (s : State) (i : Nat) (x : Reasm) : (s.setReasm i x).cores = s.cores := rfl
@[simp] theorem State.setReasm_wdgs (s : State) (i : Nat) (x : Reasm) : (s.setReasm i x).wdgs = s.wdgs := rfl
@[simp] theorem State.setReasm_gexts (s : State) (i : Nat) (x : Reasm) : (s.setReasm i x).gexts = s.gexts := rfl
@[simp] theorem State.setReasm_gkeeps (s : State) (i : Nat) (x : Reasm) : (s.setReasm i x).gkeeps = s.gkeeps := rfl
@[simp] theorem State.setReasm_glines (s : State) (i : Nat) (x : Reasm) : (s.setReasm i x).glines = s.glines := rfl
@[simp] theorem State.setReasm_gheld (s : State) (i : Nat) (x : Reasm) : (s.setReasm i x).gheld = s.gheld := rfl
@[simp] theorem State.setReasm_cmpNews (s : State) (i : Nat) (x : Reasm) : (s.setReasm i x).cmpNews = s.cmpNews := rfl
@[simp] theorem State.setReasm_ptpNews (s : State) (i : Nat) (x : Reasm) : (s.setReasm i x).ptpNews = s.ptpNews := rfl
@[simp] theorem State.setReasm_ptpStamp (s : State) (i : Nat) (x : Reasm) : (s.setReasm i x).ptpStamp = s.ptpStamp := rfl
@[simp] theorem State.setReasm_ppsAt (s : State) (i : Nat) (x : Reasm) : (s.setReasm i x).ppsAt = s.ppsAt := rfl
@[simp] theorem State.setReasm_mem (s : State) (i : Nat) (x : Reasm) : (s.setReasm i x).mem = s.mem := rfl
@[simp] theorem State.setReasm_memEpoch (s : State) (i : Nat) (x : Reasm) : (s.setReasm i x).memEpoch = s.memEpoch := rfl
@[simp] theorem State.setReasm_ix (s : State) (i : Nat) (x : Reasm) : (s.setReasm i x).ix = s.ix := rfl
@[simp] theorem State.setReasm_ixOut (s : State) (i : Nat) (x : Reasm) : (s.setReasm i x).ixOut = s.ixOut := rfl
@[simp] theorem State.setReasm_doms (s : State) (i : Nat) (x : Reasm) : (s.setReasm i x).doms = s.doms := rfl
@[simp] theorem State.setReasm_epoch (s : State) (i : Nat) (x : Reasm) : (s.setReasm i x).epoch = s.epoch := rfl
@[simp] theorem State.setReasm_ups (s : State) (i : Nat) (x : Reasm) : (s.setReasm i x).ups = s.ups := rfl
@[simp] theorem State.setReasm_dns (s : State) (i : Nat) (x : Reasm) : (s.setReasm i x).dns = s.dns := rfl
@[simp] theorem State.setReasm_probes (s : State) (i : Nat) (x : Reasm) : (s.setReasm i x).probes = s.probes := rfl
@[simp] theorem State.setReasm_tapIr (s : State) (i : Nat) (x : Reasm) : (s.setReasm i x).tapIr = s.tapIr := rfl
@[simp] theorem State.setReasm_bscan (s : State) (i : Nat) (x : Reasm) : (s.setReasm i x).bscan = s.bscan := rfl
@[simp] theorem State.setReasm_dbgAcc (s : State) (i : Nat) (x : Reasm) : (s.setReasm i x).dbgAcc = s.dbgAcc := rfl
@[simp] theorem State.setReasm_dbgStatus (s : State) (i : Nat) (x : Reasm) : (s.setReasm i x).dbgStatus = s.dbgStatus := rfl
@[simp] theorem State.setReasm_dbgP (s : State) (i : Nat) (x : Reasm) : (s.setReasm i x).dbgP = s.dbgP := rfl
@[simp] theorem State.setReasm_dbgData (s : State) (i : Nat) (x : Reasm) : (s.setReasm i x).dbgData = s.dbgData := rfl
@[simp] theorem State.setReasm_bcap (s : State) (i : Nat) (x : Reasm) : (s.setReasm i x).bcap = s.bcap := rfl
@[simp] theorem State.setReasm_vin (s : State) (i : Nat) (x : Reasm) : (s.setReasm i x).vin = s.vin := rfl
@[simp] theorem State.setReasm_vbat (s : State) (i : Nat) (x : Reasm) : (s.setReasm i x).vbat = s.vbat := rfl
@[simp] theorem State.setReasm_bbGone (s : State) (i : Nat) (x : Reasm) : (s.setReasm i x).bbGone = s.bbGone := rfl
@[simp] theorem State.setReasm_hot (s : State) (i : Nat) (x : Reasm) : (s.setReasm i x).hot = s.hot := rfl
@[simp] theorem State.setReasm_bootDue (s : State) (i : Nat) (x : Reasm) : (s.setReasm i x).bootDue = s.bootDue := rfl

@[simp] theorem State.setCpark_cparks (s : State) (i : Nat) (x : Nat) : (s.setCpark i x).cparks = Store.put 0 s.cparks i x := rfl
@[simp] theorem State.cpark_setCpark_same (s : State) (i : Nat) (x : Nat) : (s.setCpark i x).cpark i = x := Store.get_put_same _ _ _ _
theorem State.cpark_setCpark_ne (s : State) (i j : Nat) (x : Nat) (h : j ≠ i) : (s.setCpark i x).cpark j = s.cpark j := Store.get_put_ne _ _ _ h
@[simp] theorem State.setCpark_pending (s : State) (i : Nat) (x : Nat) : (s.setCpark i x).pending = s.pending := rfl
@[simp] theorem State.setCpark_free (s : State) (i : Nat) (x : Nat) : (s.setCpark i x).free = s.free := rfl
@[simp] theorem State.setCpark_time (s : State) (i : Nat) (x : Nat) : (s.setCpark i x).time = s.time := rfl
@[simp] theorem State.setCpark_regs (s : State) (i : Nat) (x : Nat) : (s.setCpark i x).regs = s.regs := rfl
@[simp] theorem State.setCpark_rdata (s : State) (i : Nat) (x : Nat) : (s.setCpark i x).rdata = s.rdata := rfl
@[simp] theorem State.setCpark_tports (s : State) (i : Nat) (x : Nat) : (s.setCpark i x).tports = s.tports := rfl
@[simp] theorem State.setCpark_tlines (s : State) (i : Nat) (x : Nat) : (s.setCpark i x).tlines = s.tlines := rfl
@[simp] theorem State.setCpark_ptp (s : State) (i : Nat) (x : Nat) : (s.setCpark i x).ptp = s.ptp := rfl
@[simp] theorem State.setCpark_ptpGo (s : State) (i : Nat) (x : Nat) : (s.setCpark i x).ptpGo = s.ptpGo := rfl
@[simp] theorem State.setCpark_ptpMark (s : State) (i : Nat) (x : Nat) : (s.setCpark i x).ptpMark = s.ptpMark := rfl
@[simp] theorem State.setCpark_calReq (s : State) (i : Nat) (x : Nat) : (s.setCpark i x).calReq = s.calReq := rfl
@[simp] theorem State.setCpark_interval (s : State) (i : Nat) (x : Nat) : (s.setCpark i x).interval = s.interval := rfl
@[simp] theorem State.setCpark_frames (s : State) (i : Nat) (x : Nat) : (s.setCpark i x).frames = s.frames := rfl
@[simp] theorem State.setCpark_spine (s : State) (i : Nat) (x : Nat) : (s.setCpark i x).spine = s.spine := rfl
@[simp] theorem State.setCpark_cells (s : State) (i : Nat) (x : Nat) : (s.setCpark i x).cells = s.cells := rfl
@[simp] theorem State.setCpark_regions (s : State) (i : Nat) (x : Nat) : (s.setCpark i x).regions = s.regions := rfl
@[simp] theorem State.setCpark_clus (s : State) (i : Nat) (x : Nat) : (s.setCpark i x).clus = s.clus := rfl
@[simp] theorem State.setCpark_cfg (s : State) (i : Nat) (x : Nat) : (s.setCpark i x).cfg = s.cfg := rfl
@[simp] theorem State.setCpark_chans (s : State) (i : Nat) (x : Nat) : (s.setCpark i x).chans = s.chans := rfl
@[simp] theorem State.setCpark_aports (s : State) (i : Nat) (x : Nat) : (s.setCpark i x).aports = s.aports := rfl
@[simp] theorem State.setCpark_blines (s : State) (i : Nat) (x : Nat) : (s.setCpark i x).blines = s.blines := rfl
@[simp] theorem State.setCpark_bsrcs (s : State) (i : Nat) (x : Nat) : (s.setCpark i x).bsrcs = s.bsrcs := rfl
@[simp] theorem State.setCpark_bports (s : State) (i : Nat) (x : Nat) : (s.setCpark i x).bports = s.bports := rfl
@[simp] theorem State.setCpark_twins (s : State) (i : Nat) (x : Nat) : (s.setCpark i x).twins = s.twins := rfl
@[simp] theorem State.setCpark_lanes (s : State) (i : Nat) (x : Nat) : (s.setCpark i x).lanes = s.lanes := rfl
@[simp] theorem State.setCpark_flights (s : State) (i : Nat) (x : Nat) : (s.setCpark i x).flights = s.flights := rfl
@[simp] theorem State.setCpark_nextId (s : State) (i : Nat) (x : Nat) : (s.setCpark i x).nextId = s.nextId := rfl
@[simp] theorem State.setCpark_pairs (s : State) (i : Nat) (x : Nat) : (s.setCpark i x).pairs = s.pairs := rfl
@[simp] theorem State.setCpark_codePend (s : State) (i : Nat) (x : Nat) : (s.setCpark i x).codePend = s.codePend := rfl
@[simp] theorem State.setCpark_spareQ (s : State) (i : Nat) (x : Nat) : (s.setCpark i x).spareQ = s.spareQ := rfl
@[simp] theorem State.setCpark_swapWant (s : State) (i : Nat) (x : Nat) : (s.setCpark i x).swapWant = s.swapWant := rfl
@[simp] theorem State.setCpark_bmems (s : State) (i : Nat) (x : Nat) : (s.setCpark i x).bmems = s.bmems := rfl
@[simp] theorem State.setCpark_bbytes (s : State) (i : Nat) (x : Nat) : (s.setCpark i x).bbytes = s.bbytes := rfl
@[simp] theorem State.setCpark_banks (s : State) (i : Nat) (x : Nat) : (s.setCpark i x).banks = s.banks := rfl
@[simp] theorem State.setCpark_swords (s : State) (i : Nat) (x : Nat) : (s.setCpark i x).swords = s.swords := rfl
@[simp] theorem State.setCpark_hops (s : State) (i : Nat) (x : Nat) : (s.setCpark i x).hops = s.hops := rfl
@[simp] theorem State.setCpark_pins (s : State) (i : Nat) (x : Nat) : (s.setCpark i x).pins = s.pins := rfl
@[simp] theorem State.setCpark_spinePrevs (s : State) (i : Nat) (x : Nat) : (s.setCpark i x).spinePrevs = s.spinePrevs := rfl
@[simp] theorem State.setCpark_pads (s : State) (i : Nat) (x : Nat) : (s.setCpark i x).pads = s.pads := rfl
@[simp] theorem State.setCpark_groups (s : State) (i : Nat) (x : Nat) : (s.setCpark i x).groups = s.groups := rfl
@[simp] theorem State.setCpark_links (s : State) (i : Nat) (x : Nat) : (s.setCpark i x).links = s.links := rfl
@[simp] theorem State.setCpark_reasms (s : State) (i : Nat) (x : Nat) : (s.setCpark i x).reasms = s.reasms := rfl
@[simp] theorem State.setCpark_mgmtIn (s : State) (i : Nat) (x : Nat) : (s.setCpark i x).mgmtIn = s.mgmtIn := rfl
@[simp] theorem State.setCpark_lateTags (s : State) (i : Nat) (x : Nat) : (s.setCpark i x).lateTags = s.lateTags := rfl
@[simp] theorem State.setCpark_slices (s : State) (i : Nat) (x : Nat) : (s.setCpark i x).slices = s.slices := rfl
@[simp] theorem State.setCpark_sweep (s : State) (i : Nat) (x : Nat) : (s.setCpark i x).sweep = s.sweep := rfl
@[simp] theorem State.setCpark_asyNews (s : State) (i : Nat) (x : Nat) : (s.setCpark i x).asyNews = s.asyNews := rfl
@[simp] theorem State.setCpark_sliceEnded (s : State) (i : Nat) (x : Nat) : (s.setCpark i x).sliceEnded = s.sliceEnded := rfl
@[simp] theorem State.setCpark_load (s : State) (i : Nat) (x : Nat) : (s.setCpark i x).load = s.load := rfl
@[simp] theorem State.setCpark_flash (s : State) (i : Nat) (x : Nat) : (s.setCpark i x).flash = s.flash := rfl
@[simp] theorem State.setCpark_gold (s : State) (i : Nat) (x : Nat) : (s.setCpark i x).gold = s.gold := rfl
@[simp] theorem State.setCpark_crcs (s : State) (i : Nat) (x : Nat) : (s.setCpark i x).crcs = s.crcs := rfl
@[simp] theorem State.setCpark_loadEnded (s : State) (i : Nat) (x : Nat) : (s.setCpark i x).loadEnded = s.loadEnded := rfl
@[simp] theorem State.setCpark_imgHash (s : State) (i : Nat) (x : Nat) : (s.setCpark i x).imgHash = s.imgHash := rfl
@[simp] theorem State.setCpark_rimgs (s : State) (i : Nat) (x : Nat) : (s.setCpark i x).rimgs = s.rimgs := rfl
@[simp] theorem State.setCpark_staged (s : State) (i : Nat) (x : Nat) : (s.setCpark i x).staged = s.staged := rfl
@[simp] theorem State.setCpark_loadAsked (s : State) (i : Nat) (x : Nat) : (s.setCpark i x).loadAsked = s.loadAsked := rfl
@[simp] theorem State.setCpark_toldFaults (s : State) (i : Nat) (x : Nat) : (s.setCpark i x).toldFaults = s.toldFaults := rfl
@[simp] theorem State.setCpark_kslots (s : State) (i : Nat) (x : Nat) : (s.setCpark i x).kslots = s.kslots := rfl
@[simp] theorem State.setCpark_oslots (s : State) (i : Nat) (x : Nat) : (s.setCpark i x).oslots = s.oslots := rfl
@[simp] theorem State.setCpark_kcmd (s : State) (i : Nat) (x : Nat) : (s.setCpark i x).kcmd = s.kcmd := rfl
@[simp] theorem State.setCpark_cutSlots (s : State) (i : Nat) (x : Nat) : (s.setCpark i x).cutSlots = s.cutSlots := rfl
@[simp] theorem State.setCpark_tkrev (s : State) (i : Nat) (x : Nat) : (s.setCpark i x).tkrev = s.tkrev := rfl
@[simp] theorem State.setCpark_fwsvn (s : State) (i : Nat) (x : Nat) : (s.setCpark i x).fwsvn = s.fwsvn := rfl
@[simp] theorem State.setCpark_fw (s : State) (i : Nat) (x : Nat) : (s.setCpark i x).fw = s.fw := rfl
@[simp] theorem State.setCpark_recovery (s : State) (i : Nat) (x : Nat) : (s.setCpark i x).recovery = s.recovery := rfl
@[simp] theorem State.setCpark_reports (s : State) (i : Nat) (x : Nat) : (s.setCpark i x).reports = s.reports := rfl
@[simp] theorem State.setCpark_signed (s : State) (i : Nat) (x : Nat) : (s.setCpark i x).signed = s.signed := rfl
@[simp] theorem State.setCpark_attests (s : State) (i : Nat) (x : Nat) : (s.setCpark i x).attests = s.attests := rfl
@[simp] theorem State.setCpark_uarts (s : State) (i : Nat) (x : Nat) : (s.setCpark i x).uarts = s.uarts := rfl
@[simp] theorem State.setCpark_spi (s : State) (i : Nat) (x : Nat) : (s.setCpark i x).spi = s.spi := rfl
@[simp] theorem State.setCpark_i2cs (s : State) (i : Nat) (x : Nat) : (s.setCpark i x).i2cs = s.i2cs := rfl
@[simp] theorem State.setCpark_cores (s : State) (i : Nat) (x : Nat) : (s.setCpark i x).cores = s.cores := rfl
@[simp] theorem State.setCpark_wdgs (s : State) (i : Nat) (x : Nat) : (s.setCpark i x).wdgs = s.wdgs := rfl
@[simp] theorem State.setCpark_gexts (s : State) (i : Nat) (x : Nat) : (s.setCpark i x).gexts = s.gexts := rfl
@[simp] theorem State.setCpark_gkeeps (s : State) (i : Nat) (x : Nat) : (s.setCpark i x).gkeeps = s.gkeeps := rfl
@[simp] theorem State.setCpark_glines (s : State) (i : Nat) (x : Nat) : (s.setCpark i x).glines = s.glines := rfl
@[simp] theorem State.setCpark_gheld (s : State) (i : Nat) (x : Nat) : (s.setCpark i x).gheld = s.gheld := rfl
@[simp] theorem State.setCpark_cmpNews (s : State) (i : Nat) (x : Nat) : (s.setCpark i x).cmpNews = s.cmpNews := rfl
@[simp] theorem State.setCpark_ptpNews (s : State) (i : Nat) (x : Nat) : (s.setCpark i x).ptpNews = s.ptpNews := rfl
@[simp] theorem State.setCpark_ptpStamp (s : State) (i : Nat) (x : Nat) : (s.setCpark i x).ptpStamp = s.ptpStamp := rfl
@[simp] theorem State.setCpark_ppsAt (s : State) (i : Nat) (x : Nat) : (s.setCpark i x).ppsAt = s.ppsAt := rfl
@[simp] theorem State.setCpark_mem (s : State) (i : Nat) (x : Nat) : (s.setCpark i x).mem = s.mem := rfl
@[simp] theorem State.setCpark_memEpoch (s : State) (i : Nat) (x : Nat) : (s.setCpark i x).memEpoch = s.memEpoch := rfl
@[simp] theorem State.setCpark_ix (s : State) (i : Nat) (x : Nat) : (s.setCpark i x).ix = s.ix := rfl
@[simp] theorem State.setCpark_ixOut (s : State) (i : Nat) (x : Nat) : (s.setCpark i x).ixOut = s.ixOut := rfl
@[simp] theorem State.setCpark_doms (s : State) (i : Nat) (x : Nat) : (s.setCpark i x).doms = s.doms := rfl
@[simp] theorem State.setCpark_epoch (s : State) (i : Nat) (x : Nat) : (s.setCpark i x).epoch = s.epoch := rfl
@[simp] theorem State.setCpark_ups (s : State) (i : Nat) (x : Nat) : (s.setCpark i x).ups = s.ups := rfl
@[simp] theorem State.setCpark_dns (s : State) (i : Nat) (x : Nat) : (s.setCpark i x).dns = s.dns := rfl
@[simp] theorem State.setCpark_probes (s : State) (i : Nat) (x : Nat) : (s.setCpark i x).probes = s.probes := rfl
@[simp] theorem State.setCpark_tapIr (s : State) (i : Nat) (x : Nat) : (s.setCpark i x).tapIr = s.tapIr := rfl
@[simp] theorem State.setCpark_bscan (s : State) (i : Nat) (x : Nat) : (s.setCpark i x).bscan = s.bscan := rfl
@[simp] theorem State.setCpark_dbgAcc (s : State) (i : Nat) (x : Nat) : (s.setCpark i x).dbgAcc = s.dbgAcc := rfl
@[simp] theorem State.setCpark_dbgStatus (s : State) (i : Nat) (x : Nat) : (s.setCpark i x).dbgStatus = s.dbgStatus := rfl
@[simp] theorem State.setCpark_dbgP (s : State) (i : Nat) (x : Nat) : (s.setCpark i x).dbgP = s.dbgP := rfl
@[simp] theorem State.setCpark_dbgData (s : State) (i : Nat) (x : Nat) : (s.setCpark i x).dbgData = s.dbgData := rfl
@[simp] theorem State.setCpark_bcap (s : State) (i : Nat) (x : Nat) : (s.setCpark i x).bcap = s.bcap := rfl
@[simp] theorem State.setCpark_vin (s : State) (i : Nat) (x : Nat) : (s.setCpark i x).vin = s.vin := rfl
@[simp] theorem State.setCpark_vbat (s : State) (i : Nat) (x : Nat) : (s.setCpark i x).vbat = s.vbat := rfl
@[simp] theorem State.setCpark_bbGone (s : State) (i : Nat) (x : Nat) : (s.setCpark i x).bbGone = s.bbGone := rfl
@[simp] theorem State.setCpark_hot (s : State) (i : Nat) (x : Nat) : (s.setCpark i x).hot = s.hot := rfl
@[simp] theorem State.setCpark_bootDue (s : State) (i : Nat) (x : Nat) : (s.setCpark i x).bootDue = s.bootDue := rfl

@[simp] theorem State.setCrc_crcs (s : State) (i : Nat) (x : Option Word) : (s.setCrc i x).crcs = Store.put none s.crcs i x := rfl
@[simp] theorem State.crcOf_setCrc_same (s : State) (i : Nat) (x : Option Word) : (s.setCrc i x).crcOf i = x := Store.get_put_same _ _ _ _
theorem State.crcOf_setCrc_ne (s : State) (i j : Nat) (x : Option Word) (h : j ≠ i) : (s.setCrc i x).crcOf j = s.crcOf j := Store.get_put_ne _ _ _ h
@[simp] theorem State.setCrc_pending (s : State) (i : Nat) (x : Option Word) : (s.setCrc i x).pending = s.pending := rfl
@[simp] theorem State.setCrc_free (s : State) (i : Nat) (x : Option Word) : (s.setCrc i x).free = s.free := rfl
@[simp] theorem State.setCrc_time (s : State) (i : Nat) (x : Option Word) : (s.setCrc i x).time = s.time := rfl
@[simp] theorem State.setCrc_regs (s : State) (i : Nat) (x : Option Word) : (s.setCrc i x).regs = s.regs := rfl
@[simp] theorem State.setCrc_rdata (s : State) (i : Nat) (x : Option Word) : (s.setCrc i x).rdata = s.rdata := rfl
@[simp] theorem State.setCrc_tports (s : State) (i : Nat) (x : Option Word) : (s.setCrc i x).tports = s.tports := rfl
@[simp] theorem State.setCrc_tlines (s : State) (i : Nat) (x : Option Word) : (s.setCrc i x).tlines = s.tlines := rfl
@[simp] theorem State.setCrc_ptp (s : State) (i : Nat) (x : Option Word) : (s.setCrc i x).ptp = s.ptp := rfl
@[simp] theorem State.setCrc_ptpGo (s : State) (i : Nat) (x : Option Word) : (s.setCrc i x).ptpGo = s.ptpGo := rfl
@[simp] theorem State.setCrc_ptpMark (s : State) (i : Nat) (x : Option Word) : (s.setCrc i x).ptpMark = s.ptpMark := rfl
@[simp] theorem State.setCrc_calReq (s : State) (i : Nat) (x : Option Word) : (s.setCrc i x).calReq = s.calReq := rfl
@[simp] theorem State.setCrc_interval (s : State) (i : Nat) (x : Option Word) : (s.setCrc i x).interval = s.interval := rfl
@[simp] theorem State.setCrc_frames (s : State) (i : Nat) (x : Option Word) : (s.setCrc i x).frames = s.frames := rfl
@[simp] theorem State.setCrc_spine (s : State) (i : Nat) (x : Option Word) : (s.setCrc i x).spine = s.spine := rfl
@[simp] theorem State.setCrc_cells (s : State) (i : Nat) (x : Option Word) : (s.setCrc i x).cells = s.cells := rfl
@[simp] theorem State.setCrc_regions (s : State) (i : Nat) (x : Option Word) : (s.setCrc i x).regions = s.regions := rfl
@[simp] theorem State.setCrc_clus (s : State) (i : Nat) (x : Option Word) : (s.setCrc i x).clus = s.clus := rfl
@[simp] theorem State.setCrc_cfg (s : State) (i : Nat) (x : Option Word) : (s.setCrc i x).cfg = s.cfg := rfl
@[simp] theorem State.setCrc_chans (s : State) (i : Nat) (x : Option Word) : (s.setCrc i x).chans = s.chans := rfl
@[simp] theorem State.setCrc_aports (s : State) (i : Nat) (x : Option Word) : (s.setCrc i x).aports = s.aports := rfl
@[simp] theorem State.setCrc_blines (s : State) (i : Nat) (x : Option Word) : (s.setCrc i x).blines = s.blines := rfl
@[simp] theorem State.setCrc_bsrcs (s : State) (i : Nat) (x : Option Word) : (s.setCrc i x).bsrcs = s.bsrcs := rfl
@[simp] theorem State.setCrc_bports (s : State) (i : Nat) (x : Option Word) : (s.setCrc i x).bports = s.bports := rfl
@[simp] theorem State.setCrc_twins (s : State) (i : Nat) (x : Option Word) : (s.setCrc i x).twins = s.twins := rfl
@[simp] theorem State.setCrc_lanes (s : State) (i : Nat) (x : Option Word) : (s.setCrc i x).lanes = s.lanes := rfl
@[simp] theorem State.setCrc_flights (s : State) (i : Nat) (x : Option Word) : (s.setCrc i x).flights = s.flights := rfl
@[simp] theorem State.setCrc_nextId (s : State) (i : Nat) (x : Option Word) : (s.setCrc i x).nextId = s.nextId := rfl
@[simp] theorem State.setCrc_pairs (s : State) (i : Nat) (x : Option Word) : (s.setCrc i x).pairs = s.pairs := rfl
@[simp] theorem State.setCrc_codePend (s : State) (i : Nat) (x : Option Word) : (s.setCrc i x).codePend = s.codePend := rfl
@[simp] theorem State.setCrc_spareQ (s : State) (i : Nat) (x : Option Word) : (s.setCrc i x).spareQ = s.spareQ := rfl
@[simp] theorem State.setCrc_swapWant (s : State) (i : Nat) (x : Option Word) : (s.setCrc i x).swapWant = s.swapWant := rfl
@[simp] theorem State.setCrc_bmems (s : State) (i : Nat) (x : Option Word) : (s.setCrc i x).bmems = s.bmems := rfl
@[simp] theorem State.setCrc_bbytes (s : State) (i : Nat) (x : Option Word) : (s.setCrc i x).bbytes = s.bbytes := rfl
@[simp] theorem State.setCrc_banks (s : State) (i : Nat) (x : Option Word) : (s.setCrc i x).banks = s.banks := rfl
@[simp] theorem State.setCrc_swords (s : State) (i : Nat) (x : Option Word) : (s.setCrc i x).swords = s.swords := rfl
@[simp] theorem State.setCrc_hops (s : State) (i : Nat) (x : Option Word) : (s.setCrc i x).hops = s.hops := rfl
@[simp] theorem State.setCrc_pins (s : State) (i : Nat) (x : Option Word) : (s.setCrc i x).pins = s.pins := rfl
@[simp] theorem State.setCrc_spinePrevs (s : State) (i : Nat) (x : Option Word) : (s.setCrc i x).spinePrevs = s.spinePrevs := rfl
@[simp] theorem State.setCrc_pads (s : State) (i : Nat) (x : Option Word) : (s.setCrc i x).pads = s.pads := rfl
@[simp] theorem State.setCrc_groups (s : State) (i : Nat) (x : Option Word) : (s.setCrc i x).groups = s.groups := rfl
@[simp] theorem State.setCrc_links (s : State) (i : Nat) (x : Option Word) : (s.setCrc i x).links = s.links := rfl
@[simp] theorem State.setCrc_reasms (s : State) (i : Nat) (x : Option Word) : (s.setCrc i x).reasms = s.reasms := rfl
@[simp] theorem State.setCrc_mgmtIn (s : State) (i : Nat) (x : Option Word) : (s.setCrc i x).mgmtIn = s.mgmtIn := rfl
@[simp] theorem State.setCrc_lateTags (s : State) (i : Nat) (x : Option Word) : (s.setCrc i x).lateTags = s.lateTags := rfl
@[simp] theorem State.setCrc_slices (s : State) (i : Nat) (x : Option Word) : (s.setCrc i x).slices = s.slices := rfl
@[simp] theorem State.setCrc_sweep (s : State) (i : Nat) (x : Option Word) : (s.setCrc i x).sweep = s.sweep := rfl
@[simp] theorem State.setCrc_asyNews (s : State) (i : Nat) (x : Option Word) : (s.setCrc i x).asyNews = s.asyNews := rfl
@[simp] theorem State.setCrc_sliceEnded (s : State) (i : Nat) (x : Option Word) : (s.setCrc i x).sliceEnded = s.sliceEnded := rfl
@[simp] theorem State.setCrc_load (s : State) (i : Nat) (x : Option Word) : (s.setCrc i x).load = s.load := rfl
@[simp] theorem State.setCrc_flash (s : State) (i : Nat) (x : Option Word) : (s.setCrc i x).flash = s.flash := rfl
@[simp] theorem State.setCrc_gold (s : State) (i : Nat) (x : Option Word) : (s.setCrc i x).gold = s.gold := rfl
@[simp] theorem State.setCrc_cparks (s : State) (i : Nat) (x : Option Word) : (s.setCrc i x).cparks = s.cparks := rfl
@[simp] theorem State.setCrc_loadEnded (s : State) (i : Nat) (x : Option Word) : (s.setCrc i x).loadEnded = s.loadEnded := rfl
@[simp] theorem State.setCrc_imgHash (s : State) (i : Nat) (x : Option Word) : (s.setCrc i x).imgHash = s.imgHash := rfl
@[simp] theorem State.setCrc_rimgs (s : State) (i : Nat) (x : Option Word) : (s.setCrc i x).rimgs = s.rimgs := rfl
@[simp] theorem State.setCrc_staged (s : State) (i : Nat) (x : Option Word) : (s.setCrc i x).staged = s.staged := rfl
@[simp] theorem State.setCrc_loadAsked (s : State) (i : Nat) (x : Option Word) : (s.setCrc i x).loadAsked = s.loadAsked := rfl
@[simp] theorem State.setCrc_toldFaults (s : State) (i : Nat) (x : Option Word) : (s.setCrc i x).toldFaults = s.toldFaults := rfl
@[simp] theorem State.setCrc_kslots (s : State) (i : Nat) (x : Option Word) : (s.setCrc i x).kslots = s.kslots := rfl
@[simp] theorem State.setCrc_oslots (s : State) (i : Nat) (x : Option Word) : (s.setCrc i x).oslots = s.oslots := rfl
@[simp] theorem State.setCrc_kcmd (s : State) (i : Nat) (x : Option Word) : (s.setCrc i x).kcmd = s.kcmd := rfl
@[simp] theorem State.setCrc_cutSlots (s : State) (i : Nat) (x : Option Word) : (s.setCrc i x).cutSlots = s.cutSlots := rfl
@[simp] theorem State.setCrc_tkrev (s : State) (i : Nat) (x : Option Word) : (s.setCrc i x).tkrev = s.tkrev := rfl
@[simp] theorem State.setCrc_fwsvn (s : State) (i : Nat) (x : Option Word) : (s.setCrc i x).fwsvn = s.fwsvn := rfl
@[simp] theorem State.setCrc_fw (s : State) (i : Nat) (x : Option Word) : (s.setCrc i x).fw = s.fw := rfl
@[simp] theorem State.setCrc_recovery (s : State) (i : Nat) (x : Option Word) : (s.setCrc i x).recovery = s.recovery := rfl
@[simp] theorem State.setCrc_reports (s : State) (i : Nat) (x : Option Word) : (s.setCrc i x).reports = s.reports := rfl
@[simp] theorem State.setCrc_signed (s : State) (i : Nat) (x : Option Word) : (s.setCrc i x).signed = s.signed := rfl
@[simp] theorem State.setCrc_attests (s : State) (i : Nat) (x : Option Word) : (s.setCrc i x).attests = s.attests := rfl
@[simp] theorem State.setCrc_uarts (s : State) (i : Nat) (x : Option Word) : (s.setCrc i x).uarts = s.uarts := rfl
@[simp] theorem State.setCrc_spi (s : State) (i : Nat) (x : Option Word) : (s.setCrc i x).spi = s.spi := rfl
@[simp] theorem State.setCrc_i2cs (s : State) (i : Nat) (x : Option Word) : (s.setCrc i x).i2cs = s.i2cs := rfl
@[simp] theorem State.setCrc_cores (s : State) (i : Nat) (x : Option Word) : (s.setCrc i x).cores = s.cores := rfl
@[simp] theorem State.setCrc_wdgs (s : State) (i : Nat) (x : Option Word) : (s.setCrc i x).wdgs = s.wdgs := rfl
@[simp] theorem State.setCrc_gexts (s : State) (i : Nat) (x : Option Word) : (s.setCrc i x).gexts = s.gexts := rfl
@[simp] theorem State.setCrc_gkeeps (s : State) (i : Nat) (x : Option Word) : (s.setCrc i x).gkeeps = s.gkeeps := rfl
@[simp] theorem State.setCrc_glines (s : State) (i : Nat) (x : Option Word) : (s.setCrc i x).glines = s.glines := rfl
@[simp] theorem State.setCrc_gheld (s : State) (i : Nat) (x : Option Word) : (s.setCrc i x).gheld = s.gheld := rfl
@[simp] theorem State.setCrc_cmpNews (s : State) (i : Nat) (x : Option Word) : (s.setCrc i x).cmpNews = s.cmpNews := rfl
@[simp] theorem State.setCrc_ptpNews (s : State) (i : Nat) (x : Option Word) : (s.setCrc i x).ptpNews = s.ptpNews := rfl
@[simp] theorem State.setCrc_ptpStamp (s : State) (i : Nat) (x : Option Word) : (s.setCrc i x).ptpStamp = s.ptpStamp := rfl
@[simp] theorem State.setCrc_ppsAt (s : State) (i : Nat) (x : Option Word) : (s.setCrc i x).ppsAt = s.ppsAt := rfl
@[simp] theorem State.setCrc_mem (s : State) (i : Nat) (x : Option Word) : (s.setCrc i x).mem = s.mem := rfl
@[simp] theorem State.setCrc_memEpoch (s : State) (i : Nat) (x : Option Word) : (s.setCrc i x).memEpoch = s.memEpoch := rfl
@[simp] theorem State.setCrc_ix (s : State) (i : Nat) (x : Option Word) : (s.setCrc i x).ix = s.ix := rfl
@[simp] theorem State.setCrc_ixOut (s : State) (i : Nat) (x : Option Word) : (s.setCrc i x).ixOut = s.ixOut := rfl
@[simp] theorem State.setCrc_doms (s : State) (i : Nat) (x : Option Word) : (s.setCrc i x).doms = s.doms := rfl
@[simp] theorem State.setCrc_epoch (s : State) (i : Nat) (x : Option Word) : (s.setCrc i x).epoch = s.epoch := rfl
@[simp] theorem State.setCrc_ups (s : State) (i : Nat) (x : Option Word) : (s.setCrc i x).ups = s.ups := rfl
@[simp] theorem State.setCrc_dns (s : State) (i : Nat) (x : Option Word) : (s.setCrc i x).dns = s.dns := rfl
@[simp] theorem State.setCrc_probes (s : State) (i : Nat) (x : Option Word) : (s.setCrc i x).probes = s.probes := rfl
@[simp] theorem State.setCrc_tapIr (s : State) (i : Nat) (x : Option Word) : (s.setCrc i x).tapIr = s.tapIr := rfl
@[simp] theorem State.setCrc_bscan (s : State) (i : Nat) (x : Option Word) : (s.setCrc i x).bscan = s.bscan := rfl
@[simp] theorem State.setCrc_dbgAcc (s : State) (i : Nat) (x : Option Word) : (s.setCrc i x).dbgAcc = s.dbgAcc := rfl
@[simp] theorem State.setCrc_dbgStatus (s : State) (i : Nat) (x : Option Word) : (s.setCrc i x).dbgStatus = s.dbgStatus := rfl
@[simp] theorem State.setCrc_dbgP (s : State) (i : Nat) (x : Option Word) : (s.setCrc i x).dbgP = s.dbgP := rfl
@[simp] theorem State.setCrc_dbgData (s : State) (i : Nat) (x : Option Word) : (s.setCrc i x).dbgData = s.dbgData := rfl
@[simp] theorem State.setCrc_bcap (s : State) (i : Nat) (x : Option Word) : (s.setCrc i x).bcap = s.bcap := rfl
@[simp] theorem State.setCrc_vin (s : State) (i : Nat) (x : Option Word) : (s.setCrc i x).vin = s.vin := rfl
@[simp] theorem State.setCrc_vbat (s : State) (i : Nat) (x : Option Word) : (s.setCrc i x).vbat = s.vbat := rfl
@[simp] theorem State.setCrc_bbGone (s : State) (i : Nat) (x : Option Word) : (s.setCrc i x).bbGone = s.bbGone := rfl
@[simp] theorem State.setCrc_hot (s : State) (i : Nat) (x : Option Word) : (s.setCrc i x).hot = s.hot := rfl
@[simp] theorem State.setCrc_bootDue (s : State) (i : Nat) (x : Option Word) : (s.setCrc i x).bootDue = s.bootDue := rfl

@[simp] theorem State.setRimg_rimgs (s : State) (i : Nat) (x : Nat) : (s.setRimg i x).rimgs = Store.put 0 s.rimgs i x := rfl
@[simp] theorem State.rimg_setRimg_same (s : State) (i : Nat) (x : Nat) : (s.setRimg i x).rimg i = x := Store.get_put_same _ _ _ _
theorem State.rimg_setRimg_ne (s : State) (i j : Nat) (x : Nat) (h : j ≠ i) : (s.setRimg i x).rimg j = s.rimg j := Store.get_put_ne _ _ _ h
@[simp] theorem State.setRimg_pending (s : State) (i : Nat) (x : Nat) : (s.setRimg i x).pending = s.pending := rfl
@[simp] theorem State.setRimg_free (s : State) (i : Nat) (x : Nat) : (s.setRimg i x).free = s.free := rfl
@[simp] theorem State.setRimg_time (s : State) (i : Nat) (x : Nat) : (s.setRimg i x).time = s.time := rfl
@[simp] theorem State.setRimg_regs (s : State) (i : Nat) (x : Nat) : (s.setRimg i x).regs = s.regs := rfl
@[simp] theorem State.setRimg_rdata (s : State) (i : Nat) (x : Nat) : (s.setRimg i x).rdata = s.rdata := rfl
@[simp] theorem State.setRimg_tports (s : State) (i : Nat) (x : Nat) : (s.setRimg i x).tports = s.tports := rfl
@[simp] theorem State.setRimg_tlines (s : State) (i : Nat) (x : Nat) : (s.setRimg i x).tlines = s.tlines := rfl
@[simp] theorem State.setRimg_ptp (s : State) (i : Nat) (x : Nat) : (s.setRimg i x).ptp = s.ptp := rfl
@[simp] theorem State.setRimg_ptpGo (s : State) (i : Nat) (x : Nat) : (s.setRimg i x).ptpGo = s.ptpGo := rfl
@[simp] theorem State.setRimg_ptpMark (s : State) (i : Nat) (x : Nat) : (s.setRimg i x).ptpMark = s.ptpMark := rfl
@[simp] theorem State.setRimg_calReq (s : State) (i : Nat) (x : Nat) : (s.setRimg i x).calReq = s.calReq := rfl
@[simp] theorem State.setRimg_interval (s : State) (i : Nat) (x : Nat) : (s.setRimg i x).interval = s.interval := rfl
@[simp] theorem State.setRimg_frames (s : State) (i : Nat) (x : Nat) : (s.setRimg i x).frames = s.frames := rfl
@[simp] theorem State.setRimg_spine (s : State) (i : Nat) (x : Nat) : (s.setRimg i x).spine = s.spine := rfl
@[simp] theorem State.setRimg_cells (s : State) (i : Nat) (x : Nat) : (s.setRimg i x).cells = s.cells := rfl
@[simp] theorem State.setRimg_regions (s : State) (i : Nat) (x : Nat) : (s.setRimg i x).regions = s.regions := rfl
@[simp] theorem State.setRimg_clus (s : State) (i : Nat) (x : Nat) : (s.setRimg i x).clus = s.clus := rfl
@[simp] theorem State.setRimg_cfg (s : State) (i : Nat) (x : Nat) : (s.setRimg i x).cfg = s.cfg := rfl
@[simp] theorem State.setRimg_chans (s : State) (i : Nat) (x : Nat) : (s.setRimg i x).chans = s.chans := rfl
@[simp] theorem State.setRimg_aports (s : State) (i : Nat) (x : Nat) : (s.setRimg i x).aports = s.aports := rfl
@[simp] theorem State.setRimg_blines (s : State) (i : Nat) (x : Nat) : (s.setRimg i x).blines = s.blines := rfl
@[simp] theorem State.setRimg_bsrcs (s : State) (i : Nat) (x : Nat) : (s.setRimg i x).bsrcs = s.bsrcs := rfl
@[simp] theorem State.setRimg_bports (s : State) (i : Nat) (x : Nat) : (s.setRimg i x).bports = s.bports := rfl
@[simp] theorem State.setRimg_twins (s : State) (i : Nat) (x : Nat) : (s.setRimg i x).twins = s.twins := rfl
@[simp] theorem State.setRimg_lanes (s : State) (i : Nat) (x : Nat) : (s.setRimg i x).lanes = s.lanes := rfl
@[simp] theorem State.setRimg_flights (s : State) (i : Nat) (x : Nat) : (s.setRimg i x).flights = s.flights := rfl
@[simp] theorem State.setRimg_nextId (s : State) (i : Nat) (x : Nat) : (s.setRimg i x).nextId = s.nextId := rfl
@[simp] theorem State.setRimg_pairs (s : State) (i : Nat) (x : Nat) : (s.setRimg i x).pairs = s.pairs := rfl
@[simp] theorem State.setRimg_codePend (s : State) (i : Nat) (x : Nat) : (s.setRimg i x).codePend = s.codePend := rfl
@[simp] theorem State.setRimg_spareQ (s : State) (i : Nat) (x : Nat) : (s.setRimg i x).spareQ = s.spareQ := rfl
@[simp] theorem State.setRimg_swapWant (s : State) (i : Nat) (x : Nat) : (s.setRimg i x).swapWant = s.swapWant := rfl
@[simp] theorem State.setRimg_bmems (s : State) (i : Nat) (x : Nat) : (s.setRimg i x).bmems = s.bmems := rfl
@[simp] theorem State.setRimg_bbytes (s : State) (i : Nat) (x : Nat) : (s.setRimg i x).bbytes = s.bbytes := rfl
@[simp] theorem State.setRimg_banks (s : State) (i : Nat) (x : Nat) : (s.setRimg i x).banks = s.banks := rfl
@[simp] theorem State.setRimg_swords (s : State) (i : Nat) (x : Nat) : (s.setRimg i x).swords = s.swords := rfl
@[simp] theorem State.setRimg_hops (s : State) (i : Nat) (x : Nat) : (s.setRimg i x).hops = s.hops := rfl
@[simp] theorem State.setRimg_pins (s : State) (i : Nat) (x : Nat) : (s.setRimg i x).pins = s.pins := rfl
@[simp] theorem State.setRimg_spinePrevs (s : State) (i : Nat) (x : Nat) : (s.setRimg i x).spinePrevs = s.spinePrevs := rfl
@[simp] theorem State.setRimg_pads (s : State) (i : Nat) (x : Nat) : (s.setRimg i x).pads = s.pads := rfl
@[simp] theorem State.setRimg_groups (s : State) (i : Nat) (x : Nat) : (s.setRimg i x).groups = s.groups := rfl
@[simp] theorem State.setRimg_links (s : State) (i : Nat) (x : Nat) : (s.setRimg i x).links = s.links := rfl
@[simp] theorem State.setRimg_reasms (s : State) (i : Nat) (x : Nat) : (s.setRimg i x).reasms = s.reasms := rfl
@[simp] theorem State.setRimg_mgmtIn (s : State) (i : Nat) (x : Nat) : (s.setRimg i x).mgmtIn = s.mgmtIn := rfl
@[simp] theorem State.setRimg_lateTags (s : State) (i : Nat) (x : Nat) : (s.setRimg i x).lateTags = s.lateTags := rfl
@[simp] theorem State.setRimg_slices (s : State) (i : Nat) (x : Nat) : (s.setRimg i x).slices = s.slices := rfl
@[simp] theorem State.setRimg_sweep (s : State) (i : Nat) (x : Nat) : (s.setRimg i x).sweep = s.sweep := rfl
@[simp] theorem State.setRimg_asyNews (s : State) (i : Nat) (x : Nat) : (s.setRimg i x).asyNews = s.asyNews := rfl
@[simp] theorem State.setRimg_sliceEnded (s : State) (i : Nat) (x : Nat) : (s.setRimg i x).sliceEnded = s.sliceEnded := rfl
@[simp] theorem State.setRimg_load (s : State) (i : Nat) (x : Nat) : (s.setRimg i x).load = s.load := rfl
@[simp] theorem State.setRimg_flash (s : State) (i : Nat) (x : Nat) : (s.setRimg i x).flash = s.flash := rfl
@[simp] theorem State.setRimg_gold (s : State) (i : Nat) (x : Nat) : (s.setRimg i x).gold = s.gold := rfl
@[simp] theorem State.setRimg_cparks (s : State) (i : Nat) (x : Nat) : (s.setRimg i x).cparks = s.cparks := rfl
@[simp] theorem State.setRimg_crcs (s : State) (i : Nat) (x : Nat) : (s.setRimg i x).crcs = s.crcs := rfl
@[simp] theorem State.setRimg_loadEnded (s : State) (i : Nat) (x : Nat) : (s.setRimg i x).loadEnded = s.loadEnded := rfl
@[simp] theorem State.setRimg_imgHash (s : State) (i : Nat) (x : Nat) : (s.setRimg i x).imgHash = s.imgHash := rfl
@[simp] theorem State.setRimg_staged (s : State) (i : Nat) (x : Nat) : (s.setRimg i x).staged = s.staged := rfl
@[simp] theorem State.setRimg_loadAsked (s : State) (i : Nat) (x : Nat) : (s.setRimg i x).loadAsked = s.loadAsked := rfl
@[simp] theorem State.setRimg_toldFaults (s : State) (i : Nat) (x : Nat) : (s.setRimg i x).toldFaults = s.toldFaults := rfl
@[simp] theorem State.setRimg_kslots (s : State) (i : Nat) (x : Nat) : (s.setRimg i x).kslots = s.kslots := rfl
@[simp] theorem State.setRimg_oslots (s : State) (i : Nat) (x : Nat) : (s.setRimg i x).oslots = s.oslots := rfl
@[simp] theorem State.setRimg_kcmd (s : State) (i : Nat) (x : Nat) : (s.setRimg i x).kcmd = s.kcmd := rfl
@[simp] theorem State.setRimg_cutSlots (s : State) (i : Nat) (x : Nat) : (s.setRimg i x).cutSlots = s.cutSlots := rfl
@[simp] theorem State.setRimg_tkrev (s : State) (i : Nat) (x : Nat) : (s.setRimg i x).tkrev = s.tkrev := rfl
@[simp] theorem State.setRimg_fwsvn (s : State) (i : Nat) (x : Nat) : (s.setRimg i x).fwsvn = s.fwsvn := rfl
@[simp] theorem State.setRimg_fw (s : State) (i : Nat) (x : Nat) : (s.setRimg i x).fw = s.fw := rfl
@[simp] theorem State.setRimg_recovery (s : State) (i : Nat) (x : Nat) : (s.setRimg i x).recovery = s.recovery := rfl
@[simp] theorem State.setRimg_reports (s : State) (i : Nat) (x : Nat) : (s.setRimg i x).reports = s.reports := rfl
@[simp] theorem State.setRimg_signed (s : State) (i : Nat) (x : Nat) : (s.setRimg i x).signed = s.signed := rfl
@[simp] theorem State.setRimg_attests (s : State) (i : Nat) (x : Nat) : (s.setRimg i x).attests = s.attests := rfl
@[simp] theorem State.setRimg_uarts (s : State) (i : Nat) (x : Nat) : (s.setRimg i x).uarts = s.uarts := rfl
@[simp] theorem State.setRimg_spi (s : State) (i : Nat) (x : Nat) : (s.setRimg i x).spi = s.spi := rfl
@[simp] theorem State.setRimg_i2cs (s : State) (i : Nat) (x : Nat) : (s.setRimg i x).i2cs = s.i2cs := rfl
@[simp] theorem State.setRimg_cores (s : State) (i : Nat) (x : Nat) : (s.setRimg i x).cores = s.cores := rfl
@[simp] theorem State.setRimg_wdgs (s : State) (i : Nat) (x : Nat) : (s.setRimg i x).wdgs = s.wdgs := rfl
@[simp] theorem State.setRimg_gexts (s : State) (i : Nat) (x : Nat) : (s.setRimg i x).gexts = s.gexts := rfl
@[simp] theorem State.setRimg_gkeeps (s : State) (i : Nat) (x : Nat) : (s.setRimg i x).gkeeps = s.gkeeps := rfl
@[simp] theorem State.setRimg_glines (s : State) (i : Nat) (x : Nat) : (s.setRimg i x).glines = s.glines := rfl
@[simp] theorem State.setRimg_gheld (s : State) (i : Nat) (x : Nat) : (s.setRimg i x).gheld = s.gheld := rfl
@[simp] theorem State.setRimg_cmpNews (s : State) (i : Nat) (x : Nat) : (s.setRimg i x).cmpNews = s.cmpNews := rfl
@[simp] theorem State.setRimg_ptpNews (s : State) (i : Nat) (x : Nat) : (s.setRimg i x).ptpNews = s.ptpNews := rfl
@[simp] theorem State.setRimg_ptpStamp (s : State) (i : Nat) (x : Nat) : (s.setRimg i x).ptpStamp = s.ptpStamp := rfl
@[simp] theorem State.setRimg_ppsAt (s : State) (i : Nat) (x : Nat) : (s.setRimg i x).ppsAt = s.ppsAt := rfl
@[simp] theorem State.setRimg_mem (s : State) (i : Nat) (x : Nat) : (s.setRimg i x).mem = s.mem := rfl
@[simp] theorem State.setRimg_memEpoch (s : State) (i : Nat) (x : Nat) : (s.setRimg i x).memEpoch = s.memEpoch := rfl
@[simp] theorem State.setRimg_ix (s : State) (i : Nat) (x : Nat) : (s.setRimg i x).ix = s.ix := rfl
@[simp] theorem State.setRimg_ixOut (s : State) (i : Nat) (x : Nat) : (s.setRimg i x).ixOut = s.ixOut := rfl
@[simp] theorem State.setRimg_doms (s : State) (i : Nat) (x : Nat) : (s.setRimg i x).doms = s.doms := rfl
@[simp] theorem State.setRimg_epoch (s : State) (i : Nat) (x : Nat) : (s.setRimg i x).epoch = s.epoch := rfl
@[simp] theorem State.setRimg_ups (s : State) (i : Nat) (x : Nat) : (s.setRimg i x).ups = s.ups := rfl
@[simp] theorem State.setRimg_dns (s : State) (i : Nat) (x : Nat) : (s.setRimg i x).dns = s.dns := rfl
@[simp] theorem State.setRimg_probes (s : State) (i : Nat) (x : Nat) : (s.setRimg i x).probes = s.probes := rfl
@[simp] theorem State.setRimg_tapIr (s : State) (i : Nat) (x : Nat) : (s.setRimg i x).tapIr = s.tapIr := rfl
@[simp] theorem State.setRimg_bscan (s : State) (i : Nat) (x : Nat) : (s.setRimg i x).bscan = s.bscan := rfl
@[simp] theorem State.setRimg_dbgAcc (s : State) (i : Nat) (x : Nat) : (s.setRimg i x).dbgAcc = s.dbgAcc := rfl
@[simp] theorem State.setRimg_dbgStatus (s : State) (i : Nat) (x : Nat) : (s.setRimg i x).dbgStatus = s.dbgStatus := rfl
@[simp] theorem State.setRimg_dbgP (s : State) (i : Nat) (x : Nat) : (s.setRimg i x).dbgP = s.dbgP := rfl
@[simp] theorem State.setRimg_dbgData (s : State) (i : Nat) (x : Nat) : (s.setRimg i x).dbgData = s.dbgData := rfl
@[simp] theorem State.setRimg_bcap (s : State) (i : Nat) (x : Nat) : (s.setRimg i x).bcap = s.bcap := rfl
@[simp] theorem State.setRimg_vin (s : State) (i : Nat) (x : Nat) : (s.setRimg i x).vin = s.vin := rfl
@[simp] theorem State.setRimg_vbat (s : State) (i : Nat) (x : Nat) : (s.setRimg i x).vbat = s.vbat := rfl
@[simp] theorem State.setRimg_bbGone (s : State) (i : Nat) (x : Nat) : (s.setRimg i x).bbGone = s.bbGone := rfl
@[simp] theorem State.setRimg_hot (s : State) (i : Nat) (x : Nat) : (s.setRimg i x).hot = s.hot := rfl
@[simp] theorem State.setRimg_bootDue (s : State) (i : Nat) (x : Nat) : (s.setRimg i x).bootDue = s.bootDue := rfl

@[simp] theorem State.setKslot_kslots (s : State) (i : Nat) (x : KSlot) : (s.setKslot i x).kslots = Store.put {} s.kslots i x := rfl
@[simp] theorem State.kslot_setKslot_same (s : State) (i : Nat) (x : KSlot) : (s.setKslot i x).kslot i = x := Store.get_put_same _ _ _ _
theorem State.kslot_setKslot_ne (s : State) (i j : Nat) (x : KSlot) (h : j ≠ i) : (s.setKslot i x).kslot j = s.kslot j := Store.get_put_ne _ _ _ h
@[simp] theorem State.setKslot_pending (s : State) (i : Nat) (x : KSlot) : (s.setKslot i x).pending = s.pending := rfl
@[simp] theorem State.setKslot_free (s : State) (i : Nat) (x : KSlot) : (s.setKslot i x).free = s.free := rfl
@[simp] theorem State.setKslot_time (s : State) (i : Nat) (x : KSlot) : (s.setKslot i x).time = s.time := rfl
@[simp] theorem State.setKslot_regs (s : State) (i : Nat) (x : KSlot) : (s.setKslot i x).regs = s.regs := rfl
@[simp] theorem State.setKslot_rdata (s : State) (i : Nat) (x : KSlot) : (s.setKslot i x).rdata = s.rdata := rfl
@[simp] theorem State.setKslot_tports (s : State) (i : Nat) (x : KSlot) : (s.setKslot i x).tports = s.tports := rfl
@[simp] theorem State.setKslot_tlines (s : State) (i : Nat) (x : KSlot) : (s.setKslot i x).tlines = s.tlines := rfl
@[simp] theorem State.setKslot_ptp (s : State) (i : Nat) (x : KSlot) : (s.setKslot i x).ptp = s.ptp := rfl
@[simp] theorem State.setKslot_ptpGo (s : State) (i : Nat) (x : KSlot) : (s.setKslot i x).ptpGo = s.ptpGo := rfl
@[simp] theorem State.setKslot_ptpMark (s : State) (i : Nat) (x : KSlot) : (s.setKslot i x).ptpMark = s.ptpMark := rfl
@[simp] theorem State.setKslot_calReq (s : State) (i : Nat) (x : KSlot) : (s.setKslot i x).calReq = s.calReq := rfl
@[simp] theorem State.setKslot_interval (s : State) (i : Nat) (x : KSlot) : (s.setKslot i x).interval = s.interval := rfl
@[simp] theorem State.setKslot_frames (s : State) (i : Nat) (x : KSlot) : (s.setKslot i x).frames = s.frames := rfl
@[simp] theorem State.setKslot_spine (s : State) (i : Nat) (x : KSlot) : (s.setKslot i x).spine = s.spine := rfl
@[simp] theorem State.setKslot_cells (s : State) (i : Nat) (x : KSlot) : (s.setKslot i x).cells = s.cells := rfl
@[simp] theorem State.setKslot_regions (s : State) (i : Nat) (x : KSlot) : (s.setKslot i x).regions = s.regions := rfl
@[simp] theorem State.setKslot_clus (s : State) (i : Nat) (x : KSlot) : (s.setKslot i x).clus = s.clus := rfl
@[simp] theorem State.setKslot_cfg (s : State) (i : Nat) (x : KSlot) : (s.setKslot i x).cfg = s.cfg := rfl
@[simp] theorem State.setKslot_chans (s : State) (i : Nat) (x : KSlot) : (s.setKslot i x).chans = s.chans := rfl
@[simp] theorem State.setKslot_aports (s : State) (i : Nat) (x : KSlot) : (s.setKslot i x).aports = s.aports := rfl
@[simp] theorem State.setKslot_blines (s : State) (i : Nat) (x : KSlot) : (s.setKslot i x).blines = s.blines := rfl
@[simp] theorem State.setKslot_bsrcs (s : State) (i : Nat) (x : KSlot) : (s.setKslot i x).bsrcs = s.bsrcs := rfl
@[simp] theorem State.setKslot_bports (s : State) (i : Nat) (x : KSlot) : (s.setKslot i x).bports = s.bports := rfl
@[simp] theorem State.setKslot_twins (s : State) (i : Nat) (x : KSlot) : (s.setKslot i x).twins = s.twins := rfl
@[simp] theorem State.setKslot_lanes (s : State) (i : Nat) (x : KSlot) : (s.setKslot i x).lanes = s.lanes := rfl
@[simp] theorem State.setKslot_flights (s : State) (i : Nat) (x : KSlot) : (s.setKslot i x).flights = s.flights := rfl
@[simp] theorem State.setKslot_nextId (s : State) (i : Nat) (x : KSlot) : (s.setKslot i x).nextId = s.nextId := rfl
@[simp] theorem State.setKslot_pairs (s : State) (i : Nat) (x : KSlot) : (s.setKslot i x).pairs = s.pairs := rfl
@[simp] theorem State.setKslot_codePend (s : State) (i : Nat) (x : KSlot) : (s.setKslot i x).codePend = s.codePend := rfl
@[simp] theorem State.setKslot_spareQ (s : State) (i : Nat) (x : KSlot) : (s.setKslot i x).spareQ = s.spareQ := rfl
@[simp] theorem State.setKslot_swapWant (s : State) (i : Nat) (x : KSlot) : (s.setKslot i x).swapWant = s.swapWant := rfl
@[simp] theorem State.setKslot_bmems (s : State) (i : Nat) (x : KSlot) : (s.setKslot i x).bmems = s.bmems := rfl
@[simp] theorem State.setKslot_bbytes (s : State) (i : Nat) (x : KSlot) : (s.setKslot i x).bbytes = s.bbytes := rfl
@[simp] theorem State.setKslot_banks (s : State) (i : Nat) (x : KSlot) : (s.setKslot i x).banks = s.banks := rfl
@[simp] theorem State.setKslot_swords (s : State) (i : Nat) (x : KSlot) : (s.setKslot i x).swords = s.swords := rfl
@[simp] theorem State.setKslot_hops (s : State) (i : Nat) (x : KSlot) : (s.setKslot i x).hops = s.hops := rfl
@[simp] theorem State.setKslot_pins (s : State) (i : Nat) (x : KSlot) : (s.setKslot i x).pins = s.pins := rfl
@[simp] theorem State.setKslot_spinePrevs (s : State) (i : Nat) (x : KSlot) : (s.setKslot i x).spinePrevs = s.spinePrevs := rfl
@[simp] theorem State.setKslot_pads (s : State) (i : Nat) (x : KSlot) : (s.setKslot i x).pads = s.pads := rfl
@[simp] theorem State.setKslot_groups (s : State) (i : Nat) (x : KSlot) : (s.setKslot i x).groups = s.groups := rfl
@[simp] theorem State.setKslot_links (s : State) (i : Nat) (x : KSlot) : (s.setKslot i x).links = s.links := rfl
@[simp] theorem State.setKslot_reasms (s : State) (i : Nat) (x : KSlot) : (s.setKslot i x).reasms = s.reasms := rfl
@[simp] theorem State.setKslot_mgmtIn (s : State) (i : Nat) (x : KSlot) : (s.setKslot i x).mgmtIn = s.mgmtIn := rfl
@[simp] theorem State.setKslot_lateTags (s : State) (i : Nat) (x : KSlot) : (s.setKslot i x).lateTags = s.lateTags := rfl
@[simp] theorem State.setKslot_slices (s : State) (i : Nat) (x : KSlot) : (s.setKslot i x).slices = s.slices := rfl
@[simp] theorem State.setKslot_sweep (s : State) (i : Nat) (x : KSlot) : (s.setKslot i x).sweep = s.sweep := rfl
@[simp] theorem State.setKslot_asyNews (s : State) (i : Nat) (x : KSlot) : (s.setKslot i x).asyNews = s.asyNews := rfl
@[simp] theorem State.setKslot_sliceEnded (s : State) (i : Nat) (x : KSlot) : (s.setKslot i x).sliceEnded = s.sliceEnded := rfl
@[simp] theorem State.setKslot_load (s : State) (i : Nat) (x : KSlot) : (s.setKslot i x).load = s.load := rfl
@[simp] theorem State.setKslot_flash (s : State) (i : Nat) (x : KSlot) : (s.setKslot i x).flash = s.flash := rfl
@[simp] theorem State.setKslot_gold (s : State) (i : Nat) (x : KSlot) : (s.setKslot i x).gold = s.gold := rfl
@[simp] theorem State.setKslot_cparks (s : State) (i : Nat) (x : KSlot) : (s.setKslot i x).cparks = s.cparks := rfl
@[simp] theorem State.setKslot_crcs (s : State) (i : Nat) (x : KSlot) : (s.setKslot i x).crcs = s.crcs := rfl
@[simp] theorem State.setKslot_loadEnded (s : State) (i : Nat) (x : KSlot) : (s.setKslot i x).loadEnded = s.loadEnded := rfl
@[simp] theorem State.setKslot_imgHash (s : State) (i : Nat) (x : KSlot) : (s.setKslot i x).imgHash = s.imgHash := rfl
@[simp] theorem State.setKslot_rimgs (s : State) (i : Nat) (x : KSlot) : (s.setKslot i x).rimgs = s.rimgs := rfl
@[simp] theorem State.setKslot_staged (s : State) (i : Nat) (x : KSlot) : (s.setKslot i x).staged = s.staged := rfl
@[simp] theorem State.setKslot_loadAsked (s : State) (i : Nat) (x : KSlot) : (s.setKslot i x).loadAsked = s.loadAsked := rfl
@[simp] theorem State.setKslot_toldFaults (s : State) (i : Nat) (x : KSlot) : (s.setKslot i x).toldFaults = s.toldFaults := rfl
@[simp] theorem State.setKslot_oslots (s : State) (i : Nat) (x : KSlot) : (s.setKslot i x).oslots = s.oslots := rfl
@[simp] theorem State.setKslot_kcmd (s : State) (i : Nat) (x : KSlot) : (s.setKslot i x).kcmd = s.kcmd := rfl
@[simp] theorem State.setKslot_cutSlots (s : State) (i : Nat) (x : KSlot) : (s.setKslot i x).cutSlots = s.cutSlots := rfl
@[simp] theorem State.setKslot_tkrev (s : State) (i : Nat) (x : KSlot) : (s.setKslot i x).tkrev = s.tkrev := rfl
@[simp] theorem State.setKslot_fwsvn (s : State) (i : Nat) (x : KSlot) : (s.setKslot i x).fwsvn = s.fwsvn := rfl
@[simp] theorem State.setKslot_fw (s : State) (i : Nat) (x : KSlot) : (s.setKslot i x).fw = s.fw := rfl
@[simp] theorem State.setKslot_recovery (s : State) (i : Nat) (x : KSlot) : (s.setKslot i x).recovery = s.recovery := rfl
@[simp] theorem State.setKslot_reports (s : State) (i : Nat) (x : KSlot) : (s.setKslot i x).reports = s.reports := rfl
@[simp] theorem State.setKslot_signed (s : State) (i : Nat) (x : KSlot) : (s.setKslot i x).signed = s.signed := rfl
@[simp] theorem State.setKslot_attests (s : State) (i : Nat) (x : KSlot) : (s.setKslot i x).attests = s.attests := rfl
@[simp] theorem State.setKslot_uarts (s : State) (i : Nat) (x : KSlot) : (s.setKslot i x).uarts = s.uarts := rfl
@[simp] theorem State.setKslot_spi (s : State) (i : Nat) (x : KSlot) : (s.setKslot i x).spi = s.spi := rfl
@[simp] theorem State.setKslot_i2cs (s : State) (i : Nat) (x : KSlot) : (s.setKslot i x).i2cs = s.i2cs := rfl
@[simp] theorem State.setKslot_cores (s : State) (i : Nat) (x : KSlot) : (s.setKslot i x).cores = s.cores := rfl
@[simp] theorem State.setKslot_wdgs (s : State) (i : Nat) (x : KSlot) : (s.setKslot i x).wdgs = s.wdgs := rfl
@[simp] theorem State.setKslot_gexts (s : State) (i : Nat) (x : KSlot) : (s.setKslot i x).gexts = s.gexts := rfl
@[simp] theorem State.setKslot_gkeeps (s : State) (i : Nat) (x : KSlot) : (s.setKslot i x).gkeeps = s.gkeeps := rfl
@[simp] theorem State.setKslot_glines (s : State) (i : Nat) (x : KSlot) : (s.setKslot i x).glines = s.glines := rfl
@[simp] theorem State.setKslot_gheld (s : State) (i : Nat) (x : KSlot) : (s.setKslot i x).gheld = s.gheld := rfl
@[simp] theorem State.setKslot_cmpNews (s : State) (i : Nat) (x : KSlot) : (s.setKslot i x).cmpNews = s.cmpNews := rfl
@[simp] theorem State.setKslot_ptpNews (s : State) (i : Nat) (x : KSlot) : (s.setKslot i x).ptpNews = s.ptpNews := rfl
@[simp] theorem State.setKslot_ptpStamp (s : State) (i : Nat) (x : KSlot) : (s.setKslot i x).ptpStamp = s.ptpStamp := rfl
@[simp] theorem State.setKslot_ppsAt (s : State) (i : Nat) (x : KSlot) : (s.setKslot i x).ppsAt = s.ppsAt := rfl
@[simp] theorem State.setKslot_mem (s : State) (i : Nat) (x : KSlot) : (s.setKslot i x).mem = s.mem := rfl
@[simp] theorem State.setKslot_memEpoch (s : State) (i : Nat) (x : KSlot) : (s.setKslot i x).memEpoch = s.memEpoch := rfl
@[simp] theorem State.setKslot_ix (s : State) (i : Nat) (x : KSlot) : (s.setKslot i x).ix = s.ix := rfl
@[simp] theorem State.setKslot_ixOut (s : State) (i : Nat) (x : KSlot) : (s.setKslot i x).ixOut = s.ixOut := rfl
@[simp] theorem State.setKslot_doms (s : State) (i : Nat) (x : KSlot) : (s.setKslot i x).doms = s.doms := rfl
@[simp] theorem State.setKslot_epoch (s : State) (i : Nat) (x : KSlot) : (s.setKslot i x).epoch = s.epoch := rfl
@[simp] theorem State.setKslot_ups (s : State) (i : Nat) (x : KSlot) : (s.setKslot i x).ups = s.ups := rfl
@[simp] theorem State.setKslot_dns (s : State) (i : Nat) (x : KSlot) : (s.setKslot i x).dns = s.dns := rfl
@[simp] theorem State.setKslot_probes (s : State) (i : Nat) (x : KSlot) : (s.setKslot i x).probes = s.probes := rfl
@[simp] theorem State.setKslot_tapIr (s : State) (i : Nat) (x : KSlot) : (s.setKslot i x).tapIr = s.tapIr := rfl
@[simp] theorem State.setKslot_bscan (s : State) (i : Nat) (x : KSlot) : (s.setKslot i x).bscan = s.bscan := rfl
@[simp] theorem State.setKslot_dbgAcc (s : State) (i : Nat) (x : KSlot) : (s.setKslot i x).dbgAcc = s.dbgAcc := rfl
@[simp] theorem State.setKslot_dbgStatus (s : State) (i : Nat) (x : KSlot) : (s.setKslot i x).dbgStatus = s.dbgStatus := rfl
@[simp] theorem State.setKslot_dbgP (s : State) (i : Nat) (x : KSlot) : (s.setKslot i x).dbgP = s.dbgP := rfl
@[simp] theorem State.setKslot_dbgData (s : State) (i : Nat) (x : KSlot) : (s.setKslot i x).dbgData = s.dbgData := rfl
@[simp] theorem State.setKslot_bcap (s : State) (i : Nat) (x : KSlot) : (s.setKslot i x).bcap = s.bcap := rfl
@[simp] theorem State.setKslot_vin (s : State) (i : Nat) (x : KSlot) : (s.setKslot i x).vin = s.vin := rfl
@[simp] theorem State.setKslot_vbat (s : State) (i : Nat) (x : KSlot) : (s.setKslot i x).vbat = s.vbat := rfl
@[simp] theorem State.setKslot_bbGone (s : State) (i : Nat) (x : KSlot) : (s.setKslot i x).bbGone = s.bbGone := rfl
@[simp] theorem State.setKslot_hot (s : State) (i : Nat) (x : KSlot) : (s.setKslot i x).hot = s.hot := rfl
@[simp] theorem State.setKslot_bootDue (s : State) (i : Nat) (x : KSlot) : (s.setKslot i x).bootDue = s.bootDue := rfl

@[simp] theorem State.setOslot_oslots (s : State) (i : Nat) (x : OSlot) : (s.setOslot i x).oslots = Store.put {} s.oslots i x := rfl
@[simp] theorem State.oslot_setOslot_same (s : State) (i : Nat) (x : OSlot) : (s.setOslot i x).oslot i = x := Store.get_put_same _ _ _ _
theorem State.oslot_setOslot_ne (s : State) (i j : Nat) (x : OSlot) (h : j ≠ i) : (s.setOslot i x).oslot j = s.oslot j := Store.get_put_ne _ _ _ h
@[simp] theorem State.setOslot_pending (s : State) (i : Nat) (x : OSlot) : (s.setOslot i x).pending = s.pending := rfl
@[simp] theorem State.setOslot_free (s : State) (i : Nat) (x : OSlot) : (s.setOslot i x).free = s.free := rfl
@[simp] theorem State.setOslot_time (s : State) (i : Nat) (x : OSlot) : (s.setOslot i x).time = s.time := rfl
@[simp] theorem State.setOslot_regs (s : State) (i : Nat) (x : OSlot) : (s.setOslot i x).regs = s.regs := rfl
@[simp] theorem State.setOslot_rdata (s : State) (i : Nat) (x : OSlot) : (s.setOslot i x).rdata = s.rdata := rfl
@[simp] theorem State.setOslot_tports (s : State) (i : Nat) (x : OSlot) : (s.setOslot i x).tports = s.tports := rfl
@[simp] theorem State.setOslot_tlines (s : State) (i : Nat) (x : OSlot) : (s.setOslot i x).tlines = s.tlines := rfl
@[simp] theorem State.setOslot_ptp (s : State) (i : Nat) (x : OSlot) : (s.setOslot i x).ptp = s.ptp := rfl
@[simp] theorem State.setOslot_ptpGo (s : State) (i : Nat) (x : OSlot) : (s.setOslot i x).ptpGo = s.ptpGo := rfl
@[simp] theorem State.setOslot_ptpMark (s : State) (i : Nat) (x : OSlot) : (s.setOslot i x).ptpMark = s.ptpMark := rfl
@[simp] theorem State.setOslot_calReq (s : State) (i : Nat) (x : OSlot) : (s.setOslot i x).calReq = s.calReq := rfl
@[simp] theorem State.setOslot_interval (s : State) (i : Nat) (x : OSlot) : (s.setOslot i x).interval = s.interval := rfl
@[simp] theorem State.setOslot_frames (s : State) (i : Nat) (x : OSlot) : (s.setOslot i x).frames = s.frames := rfl
@[simp] theorem State.setOslot_spine (s : State) (i : Nat) (x : OSlot) : (s.setOslot i x).spine = s.spine := rfl
@[simp] theorem State.setOslot_cells (s : State) (i : Nat) (x : OSlot) : (s.setOslot i x).cells = s.cells := rfl
@[simp] theorem State.setOslot_regions (s : State) (i : Nat) (x : OSlot) : (s.setOslot i x).regions = s.regions := rfl
@[simp] theorem State.setOslot_clus (s : State) (i : Nat) (x : OSlot) : (s.setOslot i x).clus = s.clus := rfl
@[simp] theorem State.setOslot_cfg (s : State) (i : Nat) (x : OSlot) : (s.setOslot i x).cfg = s.cfg := rfl
@[simp] theorem State.setOslot_chans (s : State) (i : Nat) (x : OSlot) : (s.setOslot i x).chans = s.chans := rfl
@[simp] theorem State.setOslot_aports (s : State) (i : Nat) (x : OSlot) : (s.setOslot i x).aports = s.aports := rfl
@[simp] theorem State.setOslot_blines (s : State) (i : Nat) (x : OSlot) : (s.setOslot i x).blines = s.blines := rfl
@[simp] theorem State.setOslot_bsrcs (s : State) (i : Nat) (x : OSlot) : (s.setOslot i x).bsrcs = s.bsrcs := rfl
@[simp] theorem State.setOslot_bports (s : State) (i : Nat) (x : OSlot) : (s.setOslot i x).bports = s.bports := rfl
@[simp] theorem State.setOslot_twins (s : State) (i : Nat) (x : OSlot) : (s.setOslot i x).twins = s.twins := rfl
@[simp] theorem State.setOslot_lanes (s : State) (i : Nat) (x : OSlot) : (s.setOslot i x).lanes = s.lanes := rfl
@[simp] theorem State.setOslot_flights (s : State) (i : Nat) (x : OSlot) : (s.setOslot i x).flights = s.flights := rfl
@[simp] theorem State.setOslot_nextId (s : State) (i : Nat) (x : OSlot) : (s.setOslot i x).nextId = s.nextId := rfl
@[simp] theorem State.setOslot_pairs (s : State) (i : Nat) (x : OSlot) : (s.setOslot i x).pairs = s.pairs := rfl
@[simp] theorem State.setOslot_codePend (s : State) (i : Nat) (x : OSlot) : (s.setOslot i x).codePend = s.codePend := rfl
@[simp] theorem State.setOslot_spareQ (s : State) (i : Nat) (x : OSlot) : (s.setOslot i x).spareQ = s.spareQ := rfl
@[simp] theorem State.setOslot_swapWant (s : State) (i : Nat) (x : OSlot) : (s.setOslot i x).swapWant = s.swapWant := rfl
@[simp] theorem State.setOslot_bmems (s : State) (i : Nat) (x : OSlot) : (s.setOslot i x).bmems = s.bmems := rfl
@[simp] theorem State.setOslot_bbytes (s : State) (i : Nat) (x : OSlot) : (s.setOslot i x).bbytes = s.bbytes := rfl
@[simp] theorem State.setOslot_banks (s : State) (i : Nat) (x : OSlot) : (s.setOslot i x).banks = s.banks := rfl
@[simp] theorem State.setOslot_swords (s : State) (i : Nat) (x : OSlot) : (s.setOslot i x).swords = s.swords := rfl
@[simp] theorem State.setOslot_hops (s : State) (i : Nat) (x : OSlot) : (s.setOslot i x).hops = s.hops := rfl
@[simp] theorem State.setOslot_pins (s : State) (i : Nat) (x : OSlot) : (s.setOslot i x).pins = s.pins := rfl
@[simp] theorem State.setOslot_spinePrevs (s : State) (i : Nat) (x : OSlot) : (s.setOslot i x).spinePrevs = s.spinePrevs := rfl
@[simp] theorem State.setOslot_pads (s : State) (i : Nat) (x : OSlot) : (s.setOslot i x).pads = s.pads := rfl
@[simp] theorem State.setOslot_groups (s : State) (i : Nat) (x : OSlot) : (s.setOslot i x).groups = s.groups := rfl
@[simp] theorem State.setOslot_links (s : State) (i : Nat) (x : OSlot) : (s.setOslot i x).links = s.links := rfl
@[simp] theorem State.setOslot_reasms (s : State) (i : Nat) (x : OSlot) : (s.setOslot i x).reasms = s.reasms := rfl
@[simp] theorem State.setOslot_mgmtIn (s : State) (i : Nat) (x : OSlot) : (s.setOslot i x).mgmtIn = s.mgmtIn := rfl
@[simp] theorem State.setOslot_lateTags (s : State) (i : Nat) (x : OSlot) : (s.setOslot i x).lateTags = s.lateTags := rfl
@[simp] theorem State.setOslot_slices (s : State) (i : Nat) (x : OSlot) : (s.setOslot i x).slices = s.slices := rfl
@[simp] theorem State.setOslot_sweep (s : State) (i : Nat) (x : OSlot) : (s.setOslot i x).sweep = s.sweep := rfl
@[simp] theorem State.setOslot_asyNews (s : State) (i : Nat) (x : OSlot) : (s.setOslot i x).asyNews = s.asyNews := rfl
@[simp] theorem State.setOslot_sliceEnded (s : State) (i : Nat) (x : OSlot) : (s.setOslot i x).sliceEnded = s.sliceEnded := rfl
@[simp] theorem State.setOslot_load (s : State) (i : Nat) (x : OSlot) : (s.setOslot i x).load = s.load := rfl
@[simp] theorem State.setOslot_flash (s : State) (i : Nat) (x : OSlot) : (s.setOslot i x).flash = s.flash := rfl
@[simp] theorem State.setOslot_gold (s : State) (i : Nat) (x : OSlot) : (s.setOslot i x).gold = s.gold := rfl
@[simp] theorem State.setOslot_cparks (s : State) (i : Nat) (x : OSlot) : (s.setOslot i x).cparks = s.cparks := rfl
@[simp] theorem State.setOslot_crcs (s : State) (i : Nat) (x : OSlot) : (s.setOslot i x).crcs = s.crcs := rfl
@[simp] theorem State.setOslot_loadEnded (s : State) (i : Nat) (x : OSlot) : (s.setOslot i x).loadEnded = s.loadEnded := rfl
@[simp] theorem State.setOslot_imgHash (s : State) (i : Nat) (x : OSlot) : (s.setOslot i x).imgHash = s.imgHash := rfl
@[simp] theorem State.setOslot_rimgs (s : State) (i : Nat) (x : OSlot) : (s.setOslot i x).rimgs = s.rimgs := rfl
@[simp] theorem State.setOslot_staged (s : State) (i : Nat) (x : OSlot) : (s.setOslot i x).staged = s.staged := rfl
@[simp] theorem State.setOslot_loadAsked (s : State) (i : Nat) (x : OSlot) : (s.setOslot i x).loadAsked = s.loadAsked := rfl
@[simp] theorem State.setOslot_toldFaults (s : State) (i : Nat) (x : OSlot) : (s.setOslot i x).toldFaults = s.toldFaults := rfl
@[simp] theorem State.setOslot_kslots (s : State) (i : Nat) (x : OSlot) : (s.setOslot i x).kslots = s.kslots := rfl
@[simp] theorem State.setOslot_kcmd (s : State) (i : Nat) (x : OSlot) : (s.setOslot i x).kcmd = s.kcmd := rfl
@[simp] theorem State.setOslot_cutSlots (s : State) (i : Nat) (x : OSlot) : (s.setOslot i x).cutSlots = s.cutSlots := rfl
@[simp] theorem State.setOslot_tkrev (s : State) (i : Nat) (x : OSlot) : (s.setOslot i x).tkrev = s.tkrev := rfl
@[simp] theorem State.setOslot_fwsvn (s : State) (i : Nat) (x : OSlot) : (s.setOslot i x).fwsvn = s.fwsvn := rfl
@[simp] theorem State.setOslot_fw (s : State) (i : Nat) (x : OSlot) : (s.setOslot i x).fw = s.fw := rfl
@[simp] theorem State.setOslot_recovery (s : State) (i : Nat) (x : OSlot) : (s.setOslot i x).recovery = s.recovery := rfl
@[simp] theorem State.setOslot_reports (s : State) (i : Nat) (x : OSlot) : (s.setOslot i x).reports = s.reports := rfl
@[simp] theorem State.setOslot_signed (s : State) (i : Nat) (x : OSlot) : (s.setOslot i x).signed = s.signed := rfl
@[simp] theorem State.setOslot_attests (s : State) (i : Nat) (x : OSlot) : (s.setOslot i x).attests = s.attests := rfl
@[simp] theorem State.setOslot_uarts (s : State) (i : Nat) (x : OSlot) : (s.setOslot i x).uarts = s.uarts := rfl
@[simp] theorem State.setOslot_spi (s : State) (i : Nat) (x : OSlot) : (s.setOslot i x).spi = s.spi := rfl
@[simp] theorem State.setOslot_i2cs (s : State) (i : Nat) (x : OSlot) : (s.setOslot i x).i2cs = s.i2cs := rfl
@[simp] theorem State.setOslot_cores (s : State) (i : Nat) (x : OSlot) : (s.setOslot i x).cores = s.cores := rfl
@[simp] theorem State.setOslot_wdgs (s : State) (i : Nat) (x : OSlot) : (s.setOslot i x).wdgs = s.wdgs := rfl
@[simp] theorem State.setOslot_gexts (s : State) (i : Nat) (x : OSlot) : (s.setOslot i x).gexts = s.gexts := rfl
@[simp] theorem State.setOslot_gkeeps (s : State) (i : Nat) (x : OSlot) : (s.setOslot i x).gkeeps = s.gkeeps := rfl
@[simp] theorem State.setOslot_glines (s : State) (i : Nat) (x : OSlot) : (s.setOslot i x).glines = s.glines := rfl
@[simp] theorem State.setOslot_gheld (s : State) (i : Nat) (x : OSlot) : (s.setOslot i x).gheld = s.gheld := rfl
@[simp] theorem State.setOslot_cmpNews (s : State) (i : Nat) (x : OSlot) : (s.setOslot i x).cmpNews = s.cmpNews := rfl
@[simp] theorem State.setOslot_ptpNews (s : State) (i : Nat) (x : OSlot) : (s.setOslot i x).ptpNews = s.ptpNews := rfl
@[simp] theorem State.setOslot_ptpStamp (s : State) (i : Nat) (x : OSlot) : (s.setOslot i x).ptpStamp = s.ptpStamp := rfl
@[simp] theorem State.setOslot_ppsAt (s : State) (i : Nat) (x : OSlot) : (s.setOslot i x).ppsAt = s.ppsAt := rfl
@[simp] theorem State.setOslot_mem (s : State) (i : Nat) (x : OSlot) : (s.setOslot i x).mem = s.mem := rfl
@[simp] theorem State.setOslot_memEpoch (s : State) (i : Nat) (x : OSlot) : (s.setOslot i x).memEpoch = s.memEpoch := rfl
@[simp] theorem State.setOslot_ix (s : State) (i : Nat) (x : OSlot) : (s.setOslot i x).ix = s.ix := rfl
@[simp] theorem State.setOslot_ixOut (s : State) (i : Nat) (x : OSlot) : (s.setOslot i x).ixOut = s.ixOut := rfl
@[simp] theorem State.setOslot_doms (s : State) (i : Nat) (x : OSlot) : (s.setOslot i x).doms = s.doms := rfl
@[simp] theorem State.setOslot_epoch (s : State) (i : Nat) (x : OSlot) : (s.setOslot i x).epoch = s.epoch := rfl
@[simp] theorem State.setOslot_ups (s : State) (i : Nat) (x : OSlot) : (s.setOslot i x).ups = s.ups := rfl
@[simp] theorem State.setOslot_dns (s : State) (i : Nat) (x : OSlot) : (s.setOslot i x).dns = s.dns := rfl
@[simp] theorem State.setOslot_probes (s : State) (i : Nat) (x : OSlot) : (s.setOslot i x).probes = s.probes := rfl
@[simp] theorem State.setOslot_tapIr (s : State) (i : Nat) (x : OSlot) : (s.setOslot i x).tapIr = s.tapIr := rfl
@[simp] theorem State.setOslot_bscan (s : State) (i : Nat) (x : OSlot) : (s.setOslot i x).bscan = s.bscan := rfl
@[simp] theorem State.setOslot_dbgAcc (s : State) (i : Nat) (x : OSlot) : (s.setOslot i x).dbgAcc = s.dbgAcc := rfl
@[simp] theorem State.setOslot_dbgStatus (s : State) (i : Nat) (x : OSlot) : (s.setOslot i x).dbgStatus = s.dbgStatus := rfl
@[simp] theorem State.setOslot_dbgP (s : State) (i : Nat) (x : OSlot) : (s.setOslot i x).dbgP = s.dbgP := rfl
@[simp] theorem State.setOslot_dbgData (s : State) (i : Nat) (x : OSlot) : (s.setOslot i x).dbgData = s.dbgData := rfl
@[simp] theorem State.setOslot_bcap (s : State) (i : Nat) (x : OSlot) : (s.setOslot i x).bcap = s.bcap := rfl
@[simp] theorem State.setOslot_vin (s : State) (i : Nat) (x : OSlot) : (s.setOslot i x).vin = s.vin := rfl
@[simp] theorem State.setOslot_vbat (s : State) (i : Nat) (x : OSlot) : (s.setOslot i x).vbat = s.vbat := rfl
@[simp] theorem State.setOslot_bbGone (s : State) (i : Nat) (x : OSlot) : (s.setOslot i x).bbGone = s.bbGone := rfl
@[simp] theorem State.setOslot_hot (s : State) (i : Nat) (x : OSlot) : (s.setOslot i x).hot = s.hot := rfl
@[simp] theorem State.setOslot_bootDue (s : State) (i : Nat) (x : OSlot) : (s.setOslot i x).bootDue = s.bootDue := rfl

@[simp] theorem State.setUart_uarts (s : State) (i : Nat) (x : Uart) : (s.setUart i x).uarts = Store.put {} s.uarts i x := rfl
@[simp] theorem State.uart_setUart_same (s : State) (i : Nat) (x : Uart) : (s.setUart i x).uart i = x := Store.get_put_same _ _ _ _
theorem State.uart_setUart_ne (s : State) (i j : Nat) (x : Uart) (h : j ≠ i) : (s.setUart i x).uart j = s.uart j := Store.get_put_ne _ _ _ h
@[simp] theorem State.setUart_pending (s : State) (i : Nat) (x : Uart) : (s.setUart i x).pending = s.pending := rfl
@[simp] theorem State.setUart_free (s : State) (i : Nat) (x : Uart) : (s.setUart i x).free = s.free := rfl
@[simp] theorem State.setUart_time (s : State) (i : Nat) (x : Uart) : (s.setUart i x).time = s.time := rfl
@[simp] theorem State.setUart_regs (s : State) (i : Nat) (x : Uart) : (s.setUart i x).regs = s.regs := rfl
@[simp] theorem State.setUart_rdata (s : State) (i : Nat) (x : Uart) : (s.setUart i x).rdata = s.rdata := rfl
@[simp] theorem State.setUart_tports (s : State) (i : Nat) (x : Uart) : (s.setUart i x).tports = s.tports := rfl
@[simp] theorem State.setUart_tlines (s : State) (i : Nat) (x : Uart) : (s.setUart i x).tlines = s.tlines := rfl
@[simp] theorem State.setUart_ptp (s : State) (i : Nat) (x : Uart) : (s.setUart i x).ptp = s.ptp := rfl
@[simp] theorem State.setUart_ptpGo (s : State) (i : Nat) (x : Uart) : (s.setUart i x).ptpGo = s.ptpGo := rfl
@[simp] theorem State.setUart_ptpMark (s : State) (i : Nat) (x : Uart) : (s.setUart i x).ptpMark = s.ptpMark := rfl
@[simp] theorem State.setUart_calReq (s : State) (i : Nat) (x : Uart) : (s.setUart i x).calReq = s.calReq := rfl
@[simp] theorem State.setUart_interval (s : State) (i : Nat) (x : Uart) : (s.setUart i x).interval = s.interval := rfl
@[simp] theorem State.setUart_frames (s : State) (i : Nat) (x : Uart) : (s.setUart i x).frames = s.frames := rfl
@[simp] theorem State.setUart_spine (s : State) (i : Nat) (x : Uart) : (s.setUart i x).spine = s.spine := rfl
@[simp] theorem State.setUart_cells (s : State) (i : Nat) (x : Uart) : (s.setUart i x).cells = s.cells := rfl
@[simp] theorem State.setUart_regions (s : State) (i : Nat) (x : Uart) : (s.setUart i x).regions = s.regions := rfl
@[simp] theorem State.setUart_clus (s : State) (i : Nat) (x : Uart) : (s.setUart i x).clus = s.clus := rfl
@[simp] theorem State.setUart_cfg (s : State) (i : Nat) (x : Uart) : (s.setUart i x).cfg = s.cfg := rfl
@[simp] theorem State.setUart_chans (s : State) (i : Nat) (x : Uart) : (s.setUart i x).chans = s.chans := rfl
@[simp] theorem State.setUart_aports (s : State) (i : Nat) (x : Uart) : (s.setUart i x).aports = s.aports := rfl
@[simp] theorem State.setUart_blines (s : State) (i : Nat) (x : Uart) : (s.setUart i x).blines = s.blines := rfl
@[simp] theorem State.setUart_bsrcs (s : State) (i : Nat) (x : Uart) : (s.setUart i x).bsrcs = s.bsrcs := rfl
@[simp] theorem State.setUart_bports (s : State) (i : Nat) (x : Uart) : (s.setUart i x).bports = s.bports := rfl
@[simp] theorem State.setUart_twins (s : State) (i : Nat) (x : Uart) : (s.setUart i x).twins = s.twins := rfl
@[simp] theorem State.setUart_lanes (s : State) (i : Nat) (x : Uart) : (s.setUart i x).lanes = s.lanes := rfl
@[simp] theorem State.setUart_flights (s : State) (i : Nat) (x : Uart) : (s.setUart i x).flights = s.flights := rfl
@[simp] theorem State.setUart_nextId (s : State) (i : Nat) (x : Uart) : (s.setUart i x).nextId = s.nextId := rfl
@[simp] theorem State.setUart_pairs (s : State) (i : Nat) (x : Uart) : (s.setUart i x).pairs = s.pairs := rfl
@[simp] theorem State.setUart_codePend (s : State) (i : Nat) (x : Uart) : (s.setUart i x).codePend = s.codePend := rfl
@[simp] theorem State.setUart_spareQ (s : State) (i : Nat) (x : Uart) : (s.setUart i x).spareQ = s.spareQ := rfl
@[simp] theorem State.setUart_swapWant (s : State) (i : Nat) (x : Uart) : (s.setUart i x).swapWant = s.swapWant := rfl
@[simp] theorem State.setUart_bmems (s : State) (i : Nat) (x : Uart) : (s.setUart i x).bmems = s.bmems := rfl
@[simp] theorem State.setUart_bbytes (s : State) (i : Nat) (x : Uart) : (s.setUart i x).bbytes = s.bbytes := rfl
@[simp] theorem State.setUart_banks (s : State) (i : Nat) (x : Uart) : (s.setUart i x).banks = s.banks := rfl
@[simp] theorem State.setUart_swords (s : State) (i : Nat) (x : Uart) : (s.setUart i x).swords = s.swords := rfl
@[simp] theorem State.setUart_hops (s : State) (i : Nat) (x : Uart) : (s.setUart i x).hops = s.hops := rfl
@[simp] theorem State.setUart_pins (s : State) (i : Nat) (x : Uart) : (s.setUart i x).pins = s.pins := rfl
@[simp] theorem State.setUart_spinePrevs (s : State) (i : Nat) (x : Uart) : (s.setUart i x).spinePrevs = s.spinePrevs := rfl
@[simp] theorem State.setUart_pads (s : State) (i : Nat) (x : Uart) : (s.setUart i x).pads = s.pads := rfl
@[simp] theorem State.setUart_groups (s : State) (i : Nat) (x : Uart) : (s.setUart i x).groups = s.groups := rfl
@[simp] theorem State.setUart_links (s : State) (i : Nat) (x : Uart) : (s.setUart i x).links = s.links := rfl
@[simp] theorem State.setUart_reasms (s : State) (i : Nat) (x : Uart) : (s.setUart i x).reasms = s.reasms := rfl
@[simp] theorem State.setUart_mgmtIn (s : State) (i : Nat) (x : Uart) : (s.setUart i x).mgmtIn = s.mgmtIn := rfl
@[simp] theorem State.setUart_lateTags (s : State) (i : Nat) (x : Uart) : (s.setUart i x).lateTags = s.lateTags := rfl
@[simp] theorem State.setUart_slices (s : State) (i : Nat) (x : Uart) : (s.setUart i x).slices = s.slices := rfl
@[simp] theorem State.setUart_sweep (s : State) (i : Nat) (x : Uart) : (s.setUart i x).sweep = s.sweep := rfl
@[simp] theorem State.setUart_asyNews (s : State) (i : Nat) (x : Uart) : (s.setUart i x).asyNews = s.asyNews := rfl
@[simp] theorem State.setUart_sliceEnded (s : State) (i : Nat) (x : Uart) : (s.setUart i x).sliceEnded = s.sliceEnded := rfl
@[simp] theorem State.setUart_load (s : State) (i : Nat) (x : Uart) : (s.setUart i x).load = s.load := rfl
@[simp] theorem State.setUart_flash (s : State) (i : Nat) (x : Uart) : (s.setUart i x).flash = s.flash := rfl
@[simp] theorem State.setUart_gold (s : State) (i : Nat) (x : Uart) : (s.setUart i x).gold = s.gold := rfl
@[simp] theorem State.setUart_cparks (s : State) (i : Nat) (x : Uart) : (s.setUart i x).cparks = s.cparks := rfl
@[simp] theorem State.setUart_crcs (s : State) (i : Nat) (x : Uart) : (s.setUart i x).crcs = s.crcs := rfl
@[simp] theorem State.setUart_loadEnded (s : State) (i : Nat) (x : Uart) : (s.setUart i x).loadEnded = s.loadEnded := rfl
@[simp] theorem State.setUart_imgHash (s : State) (i : Nat) (x : Uart) : (s.setUart i x).imgHash = s.imgHash := rfl
@[simp] theorem State.setUart_rimgs (s : State) (i : Nat) (x : Uart) : (s.setUart i x).rimgs = s.rimgs := rfl
@[simp] theorem State.setUart_staged (s : State) (i : Nat) (x : Uart) : (s.setUart i x).staged = s.staged := rfl
@[simp] theorem State.setUart_loadAsked (s : State) (i : Nat) (x : Uart) : (s.setUart i x).loadAsked = s.loadAsked := rfl
@[simp] theorem State.setUart_toldFaults (s : State) (i : Nat) (x : Uart) : (s.setUart i x).toldFaults = s.toldFaults := rfl
@[simp] theorem State.setUart_kslots (s : State) (i : Nat) (x : Uart) : (s.setUart i x).kslots = s.kslots := rfl
@[simp] theorem State.setUart_oslots (s : State) (i : Nat) (x : Uart) : (s.setUart i x).oslots = s.oslots := rfl
@[simp] theorem State.setUart_kcmd (s : State) (i : Nat) (x : Uart) : (s.setUart i x).kcmd = s.kcmd := rfl
@[simp] theorem State.setUart_cutSlots (s : State) (i : Nat) (x : Uart) : (s.setUart i x).cutSlots = s.cutSlots := rfl
@[simp] theorem State.setUart_tkrev (s : State) (i : Nat) (x : Uart) : (s.setUart i x).tkrev = s.tkrev := rfl
@[simp] theorem State.setUart_fwsvn (s : State) (i : Nat) (x : Uart) : (s.setUart i x).fwsvn = s.fwsvn := rfl
@[simp] theorem State.setUart_fw (s : State) (i : Nat) (x : Uart) : (s.setUart i x).fw = s.fw := rfl
@[simp] theorem State.setUart_recovery (s : State) (i : Nat) (x : Uart) : (s.setUart i x).recovery = s.recovery := rfl
@[simp] theorem State.setUart_reports (s : State) (i : Nat) (x : Uart) : (s.setUart i x).reports = s.reports := rfl
@[simp] theorem State.setUart_signed (s : State) (i : Nat) (x : Uart) : (s.setUart i x).signed = s.signed := rfl
@[simp] theorem State.setUart_attests (s : State) (i : Nat) (x : Uart) : (s.setUart i x).attests = s.attests := rfl
@[simp] theorem State.setUart_spi (s : State) (i : Nat) (x : Uart) : (s.setUart i x).spi = s.spi := rfl
@[simp] theorem State.setUart_i2cs (s : State) (i : Nat) (x : Uart) : (s.setUart i x).i2cs = s.i2cs := rfl
@[simp] theorem State.setUart_cores (s : State) (i : Nat) (x : Uart) : (s.setUart i x).cores = s.cores := rfl
@[simp] theorem State.setUart_wdgs (s : State) (i : Nat) (x : Uart) : (s.setUart i x).wdgs = s.wdgs := rfl
@[simp] theorem State.setUart_gexts (s : State) (i : Nat) (x : Uart) : (s.setUart i x).gexts = s.gexts := rfl
@[simp] theorem State.setUart_gkeeps (s : State) (i : Nat) (x : Uart) : (s.setUart i x).gkeeps = s.gkeeps := rfl
@[simp] theorem State.setUart_glines (s : State) (i : Nat) (x : Uart) : (s.setUart i x).glines = s.glines := rfl
@[simp] theorem State.setUart_gheld (s : State) (i : Nat) (x : Uart) : (s.setUart i x).gheld = s.gheld := rfl
@[simp] theorem State.setUart_cmpNews (s : State) (i : Nat) (x : Uart) : (s.setUart i x).cmpNews = s.cmpNews := rfl
@[simp] theorem State.setUart_ptpNews (s : State) (i : Nat) (x : Uart) : (s.setUart i x).ptpNews = s.ptpNews := rfl
@[simp] theorem State.setUart_ptpStamp (s : State) (i : Nat) (x : Uart) : (s.setUart i x).ptpStamp = s.ptpStamp := rfl
@[simp] theorem State.setUart_ppsAt (s : State) (i : Nat) (x : Uart) : (s.setUart i x).ppsAt = s.ppsAt := rfl
@[simp] theorem State.setUart_mem (s : State) (i : Nat) (x : Uart) : (s.setUart i x).mem = s.mem := rfl
@[simp] theorem State.setUart_memEpoch (s : State) (i : Nat) (x : Uart) : (s.setUart i x).memEpoch = s.memEpoch := rfl
@[simp] theorem State.setUart_ix (s : State) (i : Nat) (x : Uart) : (s.setUart i x).ix = s.ix := rfl
@[simp] theorem State.setUart_ixOut (s : State) (i : Nat) (x : Uart) : (s.setUart i x).ixOut = s.ixOut := rfl
@[simp] theorem State.setUart_doms (s : State) (i : Nat) (x : Uart) : (s.setUart i x).doms = s.doms := rfl
@[simp] theorem State.setUart_epoch (s : State) (i : Nat) (x : Uart) : (s.setUart i x).epoch = s.epoch := rfl
@[simp] theorem State.setUart_ups (s : State) (i : Nat) (x : Uart) : (s.setUart i x).ups = s.ups := rfl
@[simp] theorem State.setUart_dns (s : State) (i : Nat) (x : Uart) : (s.setUart i x).dns = s.dns := rfl
@[simp] theorem State.setUart_probes (s : State) (i : Nat) (x : Uart) : (s.setUart i x).probes = s.probes := rfl
@[simp] theorem State.setUart_tapIr (s : State) (i : Nat) (x : Uart) : (s.setUart i x).tapIr = s.tapIr := rfl
@[simp] theorem State.setUart_bscan (s : State) (i : Nat) (x : Uart) : (s.setUart i x).bscan = s.bscan := rfl
@[simp] theorem State.setUart_dbgAcc (s : State) (i : Nat) (x : Uart) : (s.setUart i x).dbgAcc = s.dbgAcc := rfl
@[simp] theorem State.setUart_dbgStatus (s : State) (i : Nat) (x : Uart) : (s.setUart i x).dbgStatus = s.dbgStatus := rfl
@[simp] theorem State.setUart_dbgP (s : State) (i : Nat) (x : Uart) : (s.setUart i x).dbgP = s.dbgP := rfl
@[simp] theorem State.setUart_dbgData (s : State) (i : Nat) (x : Uart) : (s.setUart i x).dbgData = s.dbgData := rfl
@[simp] theorem State.setUart_bcap (s : State) (i : Nat) (x : Uart) : (s.setUart i x).bcap = s.bcap := rfl
@[simp] theorem State.setUart_vin (s : State) (i : Nat) (x : Uart) : (s.setUart i x).vin = s.vin := rfl
@[simp] theorem State.setUart_vbat (s : State) (i : Nat) (x : Uart) : (s.setUart i x).vbat = s.vbat := rfl
@[simp] theorem State.setUart_bbGone (s : State) (i : Nat) (x : Uart) : (s.setUart i x).bbGone = s.bbGone := rfl
@[simp] theorem State.setUart_hot (s : State) (i : Nat) (x : Uart) : (s.setUart i x).hot = s.hot := rfl
@[simp] theorem State.setUart_bootDue (s : State) (i : Nat) (x : Uart) : (s.setUart i x).bootDue = s.bootDue := rfl

@[simp] theorem State.setI2c_i2cs (s : State) (i : Nat) (x : I2c) : (s.setI2c i x).i2cs = Store.put {} s.i2cs i x := rfl
@[simp] theorem State.i2c_setI2c_same (s : State) (i : Nat) (x : I2c) : (s.setI2c i x).i2c i = x := Store.get_put_same _ _ _ _
theorem State.i2c_setI2c_ne (s : State) (i j : Nat) (x : I2c) (h : j ≠ i) : (s.setI2c i x).i2c j = s.i2c j := Store.get_put_ne _ _ _ h
@[simp] theorem State.setI2c_pending (s : State) (i : Nat) (x : I2c) : (s.setI2c i x).pending = s.pending := rfl
@[simp] theorem State.setI2c_free (s : State) (i : Nat) (x : I2c) : (s.setI2c i x).free = s.free := rfl
@[simp] theorem State.setI2c_time (s : State) (i : Nat) (x : I2c) : (s.setI2c i x).time = s.time := rfl
@[simp] theorem State.setI2c_regs (s : State) (i : Nat) (x : I2c) : (s.setI2c i x).regs = s.regs := rfl
@[simp] theorem State.setI2c_rdata (s : State) (i : Nat) (x : I2c) : (s.setI2c i x).rdata = s.rdata := rfl
@[simp] theorem State.setI2c_tports (s : State) (i : Nat) (x : I2c) : (s.setI2c i x).tports = s.tports := rfl
@[simp] theorem State.setI2c_tlines (s : State) (i : Nat) (x : I2c) : (s.setI2c i x).tlines = s.tlines := rfl
@[simp] theorem State.setI2c_ptp (s : State) (i : Nat) (x : I2c) : (s.setI2c i x).ptp = s.ptp := rfl
@[simp] theorem State.setI2c_ptpGo (s : State) (i : Nat) (x : I2c) : (s.setI2c i x).ptpGo = s.ptpGo := rfl
@[simp] theorem State.setI2c_ptpMark (s : State) (i : Nat) (x : I2c) : (s.setI2c i x).ptpMark = s.ptpMark := rfl
@[simp] theorem State.setI2c_calReq (s : State) (i : Nat) (x : I2c) : (s.setI2c i x).calReq = s.calReq := rfl
@[simp] theorem State.setI2c_interval (s : State) (i : Nat) (x : I2c) : (s.setI2c i x).interval = s.interval := rfl
@[simp] theorem State.setI2c_frames (s : State) (i : Nat) (x : I2c) : (s.setI2c i x).frames = s.frames := rfl
@[simp] theorem State.setI2c_spine (s : State) (i : Nat) (x : I2c) : (s.setI2c i x).spine = s.spine := rfl
@[simp] theorem State.setI2c_cells (s : State) (i : Nat) (x : I2c) : (s.setI2c i x).cells = s.cells := rfl
@[simp] theorem State.setI2c_regions (s : State) (i : Nat) (x : I2c) : (s.setI2c i x).regions = s.regions := rfl
@[simp] theorem State.setI2c_clus (s : State) (i : Nat) (x : I2c) : (s.setI2c i x).clus = s.clus := rfl
@[simp] theorem State.setI2c_cfg (s : State) (i : Nat) (x : I2c) : (s.setI2c i x).cfg = s.cfg := rfl
@[simp] theorem State.setI2c_chans (s : State) (i : Nat) (x : I2c) : (s.setI2c i x).chans = s.chans := rfl
@[simp] theorem State.setI2c_aports (s : State) (i : Nat) (x : I2c) : (s.setI2c i x).aports = s.aports := rfl
@[simp] theorem State.setI2c_blines (s : State) (i : Nat) (x : I2c) : (s.setI2c i x).blines = s.blines := rfl
@[simp] theorem State.setI2c_bsrcs (s : State) (i : Nat) (x : I2c) : (s.setI2c i x).bsrcs = s.bsrcs := rfl
@[simp] theorem State.setI2c_bports (s : State) (i : Nat) (x : I2c) : (s.setI2c i x).bports = s.bports := rfl
@[simp] theorem State.setI2c_twins (s : State) (i : Nat) (x : I2c) : (s.setI2c i x).twins = s.twins := rfl
@[simp] theorem State.setI2c_lanes (s : State) (i : Nat) (x : I2c) : (s.setI2c i x).lanes = s.lanes := rfl
@[simp] theorem State.setI2c_flights (s : State) (i : Nat) (x : I2c) : (s.setI2c i x).flights = s.flights := rfl
@[simp] theorem State.setI2c_nextId (s : State) (i : Nat) (x : I2c) : (s.setI2c i x).nextId = s.nextId := rfl
@[simp] theorem State.setI2c_pairs (s : State) (i : Nat) (x : I2c) : (s.setI2c i x).pairs = s.pairs := rfl
@[simp] theorem State.setI2c_codePend (s : State) (i : Nat) (x : I2c) : (s.setI2c i x).codePend = s.codePend := rfl
@[simp] theorem State.setI2c_spareQ (s : State) (i : Nat) (x : I2c) : (s.setI2c i x).spareQ = s.spareQ := rfl
@[simp] theorem State.setI2c_swapWant (s : State) (i : Nat) (x : I2c) : (s.setI2c i x).swapWant = s.swapWant := rfl
@[simp] theorem State.setI2c_bmems (s : State) (i : Nat) (x : I2c) : (s.setI2c i x).bmems = s.bmems := rfl
@[simp] theorem State.setI2c_bbytes (s : State) (i : Nat) (x : I2c) : (s.setI2c i x).bbytes = s.bbytes := rfl
@[simp] theorem State.setI2c_banks (s : State) (i : Nat) (x : I2c) : (s.setI2c i x).banks = s.banks := rfl
@[simp] theorem State.setI2c_swords (s : State) (i : Nat) (x : I2c) : (s.setI2c i x).swords = s.swords := rfl
@[simp] theorem State.setI2c_hops (s : State) (i : Nat) (x : I2c) : (s.setI2c i x).hops = s.hops := rfl
@[simp] theorem State.setI2c_pins (s : State) (i : Nat) (x : I2c) : (s.setI2c i x).pins = s.pins := rfl
@[simp] theorem State.setI2c_spinePrevs (s : State) (i : Nat) (x : I2c) : (s.setI2c i x).spinePrevs = s.spinePrevs := rfl
@[simp] theorem State.setI2c_pads (s : State) (i : Nat) (x : I2c) : (s.setI2c i x).pads = s.pads := rfl
@[simp] theorem State.setI2c_groups (s : State) (i : Nat) (x : I2c) : (s.setI2c i x).groups = s.groups := rfl
@[simp] theorem State.setI2c_links (s : State) (i : Nat) (x : I2c) : (s.setI2c i x).links = s.links := rfl
@[simp] theorem State.setI2c_reasms (s : State) (i : Nat) (x : I2c) : (s.setI2c i x).reasms = s.reasms := rfl
@[simp] theorem State.setI2c_mgmtIn (s : State) (i : Nat) (x : I2c) : (s.setI2c i x).mgmtIn = s.mgmtIn := rfl
@[simp] theorem State.setI2c_lateTags (s : State) (i : Nat) (x : I2c) : (s.setI2c i x).lateTags = s.lateTags := rfl
@[simp] theorem State.setI2c_slices (s : State) (i : Nat) (x : I2c) : (s.setI2c i x).slices = s.slices := rfl
@[simp] theorem State.setI2c_sweep (s : State) (i : Nat) (x : I2c) : (s.setI2c i x).sweep = s.sweep := rfl
@[simp] theorem State.setI2c_asyNews (s : State) (i : Nat) (x : I2c) : (s.setI2c i x).asyNews = s.asyNews := rfl
@[simp] theorem State.setI2c_sliceEnded (s : State) (i : Nat) (x : I2c) : (s.setI2c i x).sliceEnded = s.sliceEnded := rfl
@[simp] theorem State.setI2c_load (s : State) (i : Nat) (x : I2c) : (s.setI2c i x).load = s.load := rfl
@[simp] theorem State.setI2c_flash (s : State) (i : Nat) (x : I2c) : (s.setI2c i x).flash = s.flash := rfl
@[simp] theorem State.setI2c_gold (s : State) (i : Nat) (x : I2c) : (s.setI2c i x).gold = s.gold := rfl
@[simp] theorem State.setI2c_cparks (s : State) (i : Nat) (x : I2c) : (s.setI2c i x).cparks = s.cparks := rfl
@[simp] theorem State.setI2c_crcs (s : State) (i : Nat) (x : I2c) : (s.setI2c i x).crcs = s.crcs := rfl
@[simp] theorem State.setI2c_loadEnded (s : State) (i : Nat) (x : I2c) : (s.setI2c i x).loadEnded = s.loadEnded := rfl
@[simp] theorem State.setI2c_imgHash (s : State) (i : Nat) (x : I2c) : (s.setI2c i x).imgHash = s.imgHash := rfl
@[simp] theorem State.setI2c_rimgs (s : State) (i : Nat) (x : I2c) : (s.setI2c i x).rimgs = s.rimgs := rfl
@[simp] theorem State.setI2c_staged (s : State) (i : Nat) (x : I2c) : (s.setI2c i x).staged = s.staged := rfl
@[simp] theorem State.setI2c_loadAsked (s : State) (i : Nat) (x : I2c) : (s.setI2c i x).loadAsked = s.loadAsked := rfl
@[simp] theorem State.setI2c_toldFaults (s : State) (i : Nat) (x : I2c) : (s.setI2c i x).toldFaults = s.toldFaults := rfl
@[simp] theorem State.setI2c_kslots (s : State) (i : Nat) (x : I2c) : (s.setI2c i x).kslots = s.kslots := rfl
@[simp] theorem State.setI2c_oslots (s : State) (i : Nat) (x : I2c) : (s.setI2c i x).oslots = s.oslots := rfl
@[simp] theorem State.setI2c_kcmd (s : State) (i : Nat) (x : I2c) : (s.setI2c i x).kcmd = s.kcmd := rfl
@[simp] theorem State.setI2c_cutSlots (s : State) (i : Nat) (x : I2c) : (s.setI2c i x).cutSlots = s.cutSlots := rfl
@[simp] theorem State.setI2c_tkrev (s : State) (i : Nat) (x : I2c) : (s.setI2c i x).tkrev = s.tkrev := rfl
@[simp] theorem State.setI2c_fwsvn (s : State) (i : Nat) (x : I2c) : (s.setI2c i x).fwsvn = s.fwsvn := rfl
@[simp] theorem State.setI2c_fw (s : State) (i : Nat) (x : I2c) : (s.setI2c i x).fw = s.fw := rfl
@[simp] theorem State.setI2c_recovery (s : State) (i : Nat) (x : I2c) : (s.setI2c i x).recovery = s.recovery := rfl
@[simp] theorem State.setI2c_reports (s : State) (i : Nat) (x : I2c) : (s.setI2c i x).reports = s.reports := rfl
@[simp] theorem State.setI2c_signed (s : State) (i : Nat) (x : I2c) : (s.setI2c i x).signed = s.signed := rfl
@[simp] theorem State.setI2c_attests (s : State) (i : Nat) (x : I2c) : (s.setI2c i x).attests = s.attests := rfl
@[simp] theorem State.setI2c_uarts (s : State) (i : Nat) (x : I2c) : (s.setI2c i x).uarts = s.uarts := rfl
@[simp] theorem State.setI2c_spi (s : State) (i : Nat) (x : I2c) : (s.setI2c i x).spi = s.spi := rfl
@[simp] theorem State.setI2c_cores (s : State) (i : Nat) (x : I2c) : (s.setI2c i x).cores = s.cores := rfl
@[simp] theorem State.setI2c_wdgs (s : State) (i : Nat) (x : I2c) : (s.setI2c i x).wdgs = s.wdgs := rfl
@[simp] theorem State.setI2c_gexts (s : State) (i : Nat) (x : I2c) : (s.setI2c i x).gexts = s.gexts := rfl
@[simp] theorem State.setI2c_gkeeps (s : State) (i : Nat) (x : I2c) : (s.setI2c i x).gkeeps = s.gkeeps := rfl
@[simp] theorem State.setI2c_glines (s : State) (i : Nat) (x : I2c) : (s.setI2c i x).glines = s.glines := rfl
@[simp] theorem State.setI2c_gheld (s : State) (i : Nat) (x : I2c) : (s.setI2c i x).gheld = s.gheld := rfl
@[simp] theorem State.setI2c_cmpNews (s : State) (i : Nat) (x : I2c) : (s.setI2c i x).cmpNews = s.cmpNews := rfl
@[simp] theorem State.setI2c_ptpNews (s : State) (i : Nat) (x : I2c) : (s.setI2c i x).ptpNews = s.ptpNews := rfl
@[simp] theorem State.setI2c_ptpStamp (s : State) (i : Nat) (x : I2c) : (s.setI2c i x).ptpStamp = s.ptpStamp := rfl
@[simp] theorem State.setI2c_ppsAt (s : State) (i : Nat) (x : I2c) : (s.setI2c i x).ppsAt = s.ppsAt := rfl
@[simp] theorem State.setI2c_mem (s : State) (i : Nat) (x : I2c) : (s.setI2c i x).mem = s.mem := rfl
@[simp] theorem State.setI2c_memEpoch (s : State) (i : Nat) (x : I2c) : (s.setI2c i x).memEpoch = s.memEpoch := rfl
@[simp] theorem State.setI2c_ix (s : State) (i : Nat) (x : I2c) : (s.setI2c i x).ix = s.ix := rfl
@[simp] theorem State.setI2c_ixOut (s : State) (i : Nat) (x : I2c) : (s.setI2c i x).ixOut = s.ixOut := rfl
@[simp] theorem State.setI2c_doms (s : State) (i : Nat) (x : I2c) : (s.setI2c i x).doms = s.doms := rfl
@[simp] theorem State.setI2c_epoch (s : State) (i : Nat) (x : I2c) : (s.setI2c i x).epoch = s.epoch := rfl
@[simp] theorem State.setI2c_ups (s : State) (i : Nat) (x : I2c) : (s.setI2c i x).ups = s.ups := rfl
@[simp] theorem State.setI2c_dns (s : State) (i : Nat) (x : I2c) : (s.setI2c i x).dns = s.dns := rfl
@[simp] theorem State.setI2c_probes (s : State) (i : Nat) (x : I2c) : (s.setI2c i x).probes = s.probes := rfl
@[simp] theorem State.setI2c_tapIr (s : State) (i : Nat) (x : I2c) : (s.setI2c i x).tapIr = s.tapIr := rfl
@[simp] theorem State.setI2c_bscan (s : State) (i : Nat) (x : I2c) : (s.setI2c i x).bscan = s.bscan := rfl
@[simp] theorem State.setI2c_dbgAcc (s : State) (i : Nat) (x : I2c) : (s.setI2c i x).dbgAcc = s.dbgAcc := rfl
@[simp] theorem State.setI2c_dbgStatus (s : State) (i : Nat) (x : I2c) : (s.setI2c i x).dbgStatus = s.dbgStatus := rfl
@[simp] theorem State.setI2c_dbgP (s : State) (i : Nat) (x : I2c) : (s.setI2c i x).dbgP = s.dbgP := rfl
@[simp] theorem State.setI2c_dbgData (s : State) (i : Nat) (x : I2c) : (s.setI2c i x).dbgData = s.dbgData := rfl
@[simp] theorem State.setI2c_bcap (s : State) (i : Nat) (x : I2c) : (s.setI2c i x).bcap = s.bcap := rfl
@[simp] theorem State.setI2c_vin (s : State) (i : Nat) (x : I2c) : (s.setI2c i x).vin = s.vin := rfl
@[simp] theorem State.setI2c_vbat (s : State) (i : Nat) (x : I2c) : (s.setI2c i x).vbat = s.vbat := rfl
@[simp] theorem State.setI2c_bbGone (s : State) (i : Nat) (x : I2c) : (s.setI2c i x).bbGone = s.bbGone := rfl
@[simp] theorem State.setI2c_hot (s : State) (i : Nat) (x : I2c) : (s.setI2c i x).hot = s.hot := rfl
@[simp] theorem State.setI2c_bootDue (s : State) (i : Nat) (x : I2c) : (s.setI2c i x).bootDue = s.bootDue := rfl

@[simp] theorem State.setCore_cores (s : State) (i : Nat) (x : Core) : (s.setCore i x).cores = Store.put {} s.cores i x := rfl
@[simp] theorem State.core_setCore_same (s : State) (i : Nat) (x : Core) : (s.setCore i x).core i = x := Store.get_put_same _ _ _ _
theorem State.core_setCore_ne (s : State) (i j : Nat) (x : Core) (h : j ≠ i) : (s.setCore i x).core j = s.core j := Store.get_put_ne _ _ _ h
@[simp] theorem State.setCore_pending (s : State) (i : Nat) (x : Core) : (s.setCore i x).pending = s.pending := rfl
@[simp] theorem State.setCore_free (s : State) (i : Nat) (x : Core) : (s.setCore i x).free = s.free := rfl
@[simp] theorem State.setCore_time (s : State) (i : Nat) (x : Core) : (s.setCore i x).time = s.time := rfl
@[simp] theorem State.setCore_regs (s : State) (i : Nat) (x : Core) : (s.setCore i x).regs = s.regs := rfl
@[simp] theorem State.setCore_rdata (s : State) (i : Nat) (x : Core) : (s.setCore i x).rdata = s.rdata := rfl
@[simp] theorem State.setCore_tports (s : State) (i : Nat) (x : Core) : (s.setCore i x).tports = s.tports := rfl
@[simp] theorem State.setCore_tlines (s : State) (i : Nat) (x : Core) : (s.setCore i x).tlines = s.tlines := rfl
@[simp] theorem State.setCore_ptp (s : State) (i : Nat) (x : Core) : (s.setCore i x).ptp = s.ptp := rfl
@[simp] theorem State.setCore_ptpGo (s : State) (i : Nat) (x : Core) : (s.setCore i x).ptpGo = s.ptpGo := rfl
@[simp] theorem State.setCore_ptpMark (s : State) (i : Nat) (x : Core) : (s.setCore i x).ptpMark = s.ptpMark := rfl
@[simp] theorem State.setCore_calReq (s : State) (i : Nat) (x : Core) : (s.setCore i x).calReq = s.calReq := rfl
@[simp] theorem State.setCore_interval (s : State) (i : Nat) (x : Core) : (s.setCore i x).interval = s.interval := rfl
@[simp] theorem State.setCore_frames (s : State) (i : Nat) (x : Core) : (s.setCore i x).frames = s.frames := rfl
@[simp] theorem State.setCore_spine (s : State) (i : Nat) (x : Core) : (s.setCore i x).spine = s.spine := rfl
@[simp] theorem State.setCore_cells (s : State) (i : Nat) (x : Core) : (s.setCore i x).cells = s.cells := rfl
@[simp] theorem State.setCore_regions (s : State) (i : Nat) (x : Core) : (s.setCore i x).regions = s.regions := rfl
@[simp] theorem State.setCore_clus (s : State) (i : Nat) (x : Core) : (s.setCore i x).clus = s.clus := rfl
@[simp] theorem State.setCore_cfg (s : State) (i : Nat) (x : Core) : (s.setCore i x).cfg = s.cfg := rfl
@[simp] theorem State.setCore_chans (s : State) (i : Nat) (x : Core) : (s.setCore i x).chans = s.chans := rfl
@[simp] theorem State.setCore_aports (s : State) (i : Nat) (x : Core) : (s.setCore i x).aports = s.aports := rfl
@[simp] theorem State.setCore_blines (s : State) (i : Nat) (x : Core) : (s.setCore i x).blines = s.blines := rfl
@[simp] theorem State.setCore_bsrcs (s : State) (i : Nat) (x : Core) : (s.setCore i x).bsrcs = s.bsrcs := rfl
@[simp] theorem State.setCore_bports (s : State) (i : Nat) (x : Core) : (s.setCore i x).bports = s.bports := rfl
@[simp] theorem State.setCore_twins (s : State) (i : Nat) (x : Core) : (s.setCore i x).twins = s.twins := rfl
@[simp] theorem State.setCore_lanes (s : State) (i : Nat) (x : Core) : (s.setCore i x).lanes = s.lanes := rfl
@[simp] theorem State.setCore_flights (s : State) (i : Nat) (x : Core) : (s.setCore i x).flights = s.flights := rfl
@[simp] theorem State.setCore_nextId (s : State) (i : Nat) (x : Core) : (s.setCore i x).nextId = s.nextId := rfl
@[simp] theorem State.setCore_pairs (s : State) (i : Nat) (x : Core) : (s.setCore i x).pairs = s.pairs := rfl
@[simp] theorem State.setCore_codePend (s : State) (i : Nat) (x : Core) : (s.setCore i x).codePend = s.codePend := rfl
@[simp] theorem State.setCore_spareQ (s : State) (i : Nat) (x : Core) : (s.setCore i x).spareQ = s.spareQ := rfl
@[simp] theorem State.setCore_swapWant (s : State) (i : Nat) (x : Core) : (s.setCore i x).swapWant = s.swapWant := rfl
@[simp] theorem State.setCore_bmems (s : State) (i : Nat) (x : Core) : (s.setCore i x).bmems = s.bmems := rfl
@[simp] theorem State.setCore_bbytes (s : State) (i : Nat) (x : Core) : (s.setCore i x).bbytes = s.bbytes := rfl
@[simp] theorem State.setCore_banks (s : State) (i : Nat) (x : Core) : (s.setCore i x).banks = s.banks := rfl
@[simp] theorem State.setCore_swords (s : State) (i : Nat) (x : Core) : (s.setCore i x).swords = s.swords := rfl
@[simp] theorem State.setCore_hops (s : State) (i : Nat) (x : Core) : (s.setCore i x).hops = s.hops := rfl
@[simp] theorem State.setCore_pins (s : State) (i : Nat) (x : Core) : (s.setCore i x).pins = s.pins := rfl
@[simp] theorem State.setCore_spinePrevs (s : State) (i : Nat) (x : Core) : (s.setCore i x).spinePrevs = s.spinePrevs := rfl
@[simp] theorem State.setCore_pads (s : State) (i : Nat) (x : Core) : (s.setCore i x).pads = s.pads := rfl
@[simp] theorem State.setCore_groups (s : State) (i : Nat) (x : Core) : (s.setCore i x).groups = s.groups := rfl
@[simp] theorem State.setCore_links (s : State) (i : Nat) (x : Core) : (s.setCore i x).links = s.links := rfl
@[simp] theorem State.setCore_reasms (s : State) (i : Nat) (x : Core) : (s.setCore i x).reasms = s.reasms := rfl
@[simp] theorem State.setCore_mgmtIn (s : State) (i : Nat) (x : Core) : (s.setCore i x).mgmtIn = s.mgmtIn := rfl
@[simp] theorem State.setCore_lateTags (s : State) (i : Nat) (x : Core) : (s.setCore i x).lateTags = s.lateTags := rfl
@[simp] theorem State.setCore_slices (s : State) (i : Nat) (x : Core) : (s.setCore i x).slices = s.slices := rfl
@[simp] theorem State.setCore_sweep (s : State) (i : Nat) (x : Core) : (s.setCore i x).sweep = s.sweep := rfl
@[simp] theorem State.setCore_asyNews (s : State) (i : Nat) (x : Core) : (s.setCore i x).asyNews = s.asyNews := rfl
@[simp] theorem State.setCore_sliceEnded (s : State) (i : Nat) (x : Core) : (s.setCore i x).sliceEnded = s.sliceEnded := rfl
@[simp] theorem State.setCore_load (s : State) (i : Nat) (x : Core) : (s.setCore i x).load = s.load := rfl
@[simp] theorem State.setCore_flash (s : State) (i : Nat) (x : Core) : (s.setCore i x).flash = s.flash := rfl
@[simp] theorem State.setCore_gold (s : State) (i : Nat) (x : Core) : (s.setCore i x).gold = s.gold := rfl
@[simp] theorem State.setCore_cparks (s : State) (i : Nat) (x : Core) : (s.setCore i x).cparks = s.cparks := rfl
@[simp] theorem State.setCore_crcs (s : State) (i : Nat) (x : Core) : (s.setCore i x).crcs = s.crcs := rfl
@[simp] theorem State.setCore_loadEnded (s : State) (i : Nat) (x : Core) : (s.setCore i x).loadEnded = s.loadEnded := rfl
@[simp] theorem State.setCore_imgHash (s : State) (i : Nat) (x : Core) : (s.setCore i x).imgHash = s.imgHash := rfl
@[simp] theorem State.setCore_rimgs (s : State) (i : Nat) (x : Core) : (s.setCore i x).rimgs = s.rimgs := rfl
@[simp] theorem State.setCore_staged (s : State) (i : Nat) (x : Core) : (s.setCore i x).staged = s.staged := rfl
@[simp] theorem State.setCore_loadAsked (s : State) (i : Nat) (x : Core) : (s.setCore i x).loadAsked = s.loadAsked := rfl
@[simp] theorem State.setCore_toldFaults (s : State) (i : Nat) (x : Core) : (s.setCore i x).toldFaults = s.toldFaults := rfl
@[simp] theorem State.setCore_kslots (s : State) (i : Nat) (x : Core) : (s.setCore i x).kslots = s.kslots := rfl
@[simp] theorem State.setCore_oslots (s : State) (i : Nat) (x : Core) : (s.setCore i x).oslots = s.oslots := rfl
@[simp] theorem State.setCore_kcmd (s : State) (i : Nat) (x : Core) : (s.setCore i x).kcmd = s.kcmd := rfl
@[simp] theorem State.setCore_cutSlots (s : State) (i : Nat) (x : Core) : (s.setCore i x).cutSlots = s.cutSlots := rfl
@[simp] theorem State.setCore_tkrev (s : State) (i : Nat) (x : Core) : (s.setCore i x).tkrev = s.tkrev := rfl
@[simp] theorem State.setCore_fwsvn (s : State) (i : Nat) (x : Core) : (s.setCore i x).fwsvn = s.fwsvn := rfl
@[simp] theorem State.setCore_fw (s : State) (i : Nat) (x : Core) : (s.setCore i x).fw = s.fw := rfl
@[simp] theorem State.setCore_recovery (s : State) (i : Nat) (x : Core) : (s.setCore i x).recovery = s.recovery := rfl
@[simp] theorem State.setCore_reports (s : State) (i : Nat) (x : Core) : (s.setCore i x).reports = s.reports := rfl
@[simp] theorem State.setCore_signed (s : State) (i : Nat) (x : Core) : (s.setCore i x).signed = s.signed := rfl
@[simp] theorem State.setCore_attests (s : State) (i : Nat) (x : Core) : (s.setCore i x).attests = s.attests := rfl
@[simp] theorem State.setCore_uarts (s : State) (i : Nat) (x : Core) : (s.setCore i x).uarts = s.uarts := rfl
@[simp] theorem State.setCore_spi (s : State) (i : Nat) (x : Core) : (s.setCore i x).spi = s.spi := rfl
@[simp] theorem State.setCore_i2cs (s : State) (i : Nat) (x : Core) : (s.setCore i x).i2cs = s.i2cs := rfl
@[simp] theorem State.setCore_wdgs (s : State) (i : Nat) (x : Core) : (s.setCore i x).wdgs = s.wdgs := rfl
@[simp] theorem State.setCore_gexts (s : State) (i : Nat) (x : Core) : (s.setCore i x).gexts = s.gexts := rfl
@[simp] theorem State.setCore_gkeeps (s : State) (i : Nat) (x : Core) : (s.setCore i x).gkeeps = s.gkeeps := rfl
@[simp] theorem State.setCore_glines (s : State) (i : Nat) (x : Core) : (s.setCore i x).glines = s.glines := rfl
@[simp] theorem State.setCore_gheld (s : State) (i : Nat) (x : Core) : (s.setCore i x).gheld = s.gheld := rfl
@[simp] theorem State.setCore_cmpNews (s : State) (i : Nat) (x : Core) : (s.setCore i x).cmpNews = s.cmpNews := rfl
@[simp] theorem State.setCore_ptpNews (s : State) (i : Nat) (x : Core) : (s.setCore i x).ptpNews = s.ptpNews := rfl
@[simp] theorem State.setCore_ptpStamp (s : State) (i : Nat) (x : Core) : (s.setCore i x).ptpStamp = s.ptpStamp := rfl
@[simp] theorem State.setCore_ppsAt (s : State) (i : Nat) (x : Core) : (s.setCore i x).ppsAt = s.ppsAt := rfl
@[simp] theorem State.setCore_mem (s : State) (i : Nat) (x : Core) : (s.setCore i x).mem = s.mem := rfl
@[simp] theorem State.setCore_memEpoch (s : State) (i : Nat) (x : Core) : (s.setCore i x).memEpoch = s.memEpoch := rfl
@[simp] theorem State.setCore_ix (s : State) (i : Nat) (x : Core) : (s.setCore i x).ix = s.ix := rfl
@[simp] theorem State.setCore_ixOut (s : State) (i : Nat) (x : Core) : (s.setCore i x).ixOut = s.ixOut := rfl
@[simp] theorem State.setCore_doms (s : State) (i : Nat) (x : Core) : (s.setCore i x).doms = s.doms := rfl
@[simp] theorem State.setCore_epoch (s : State) (i : Nat) (x : Core) : (s.setCore i x).epoch = s.epoch := rfl
@[simp] theorem State.setCore_ups (s : State) (i : Nat) (x : Core) : (s.setCore i x).ups = s.ups := rfl
@[simp] theorem State.setCore_dns (s : State) (i : Nat) (x : Core) : (s.setCore i x).dns = s.dns := rfl
@[simp] theorem State.setCore_probes (s : State) (i : Nat) (x : Core) : (s.setCore i x).probes = s.probes := rfl
@[simp] theorem State.setCore_tapIr (s : State) (i : Nat) (x : Core) : (s.setCore i x).tapIr = s.tapIr := rfl
@[simp] theorem State.setCore_bscan (s : State) (i : Nat) (x : Core) : (s.setCore i x).bscan = s.bscan := rfl
@[simp] theorem State.setCore_dbgAcc (s : State) (i : Nat) (x : Core) : (s.setCore i x).dbgAcc = s.dbgAcc := rfl
@[simp] theorem State.setCore_dbgStatus (s : State) (i : Nat) (x : Core) : (s.setCore i x).dbgStatus = s.dbgStatus := rfl
@[simp] theorem State.setCore_dbgP (s : State) (i : Nat) (x : Core) : (s.setCore i x).dbgP = s.dbgP := rfl
@[simp] theorem State.setCore_dbgData (s : State) (i : Nat) (x : Core) : (s.setCore i x).dbgData = s.dbgData := rfl
@[simp] theorem State.setCore_bcap (s : State) (i : Nat) (x : Core) : (s.setCore i x).bcap = s.bcap := rfl
@[simp] theorem State.setCore_vin (s : State) (i : Nat) (x : Core) : (s.setCore i x).vin = s.vin := rfl
@[simp] theorem State.setCore_vbat (s : State) (i : Nat) (x : Core) : (s.setCore i x).vbat = s.vbat := rfl
@[simp] theorem State.setCore_bbGone (s : State) (i : Nat) (x : Core) : (s.setCore i x).bbGone = s.bbGone := rfl
@[simp] theorem State.setCore_hot (s : State) (i : Nat) (x : Core) : (s.setCore i x).hot = s.hot := rfl
@[simp] theorem State.setCore_bootDue (s : State) (i : Nat) (x : Core) : (s.setCore i x).bootDue = s.bootDue := rfl

@[simp] theorem State.setWdg_wdgs (s : State) (i : Nat) (x : Wdg) : (s.setWdg i x).wdgs = Store.put {} s.wdgs i x := rfl
@[simp] theorem State.wdg_setWdg_same (s : State) (i : Nat) (x : Wdg) : (s.setWdg i x).wdg i = x := Store.get_put_same _ _ _ _
theorem State.wdg_setWdg_ne (s : State) (i j : Nat) (x : Wdg) (h : j ≠ i) : (s.setWdg i x).wdg j = s.wdg j := Store.get_put_ne _ _ _ h
@[simp] theorem State.setWdg_pending (s : State) (i : Nat) (x : Wdg) : (s.setWdg i x).pending = s.pending := rfl
@[simp] theorem State.setWdg_free (s : State) (i : Nat) (x : Wdg) : (s.setWdg i x).free = s.free := rfl
@[simp] theorem State.setWdg_time (s : State) (i : Nat) (x : Wdg) : (s.setWdg i x).time = s.time := rfl
@[simp] theorem State.setWdg_regs (s : State) (i : Nat) (x : Wdg) : (s.setWdg i x).regs = s.regs := rfl
@[simp] theorem State.setWdg_rdata (s : State) (i : Nat) (x : Wdg) : (s.setWdg i x).rdata = s.rdata := rfl
@[simp] theorem State.setWdg_tports (s : State) (i : Nat) (x : Wdg) : (s.setWdg i x).tports = s.tports := rfl
@[simp] theorem State.setWdg_tlines (s : State) (i : Nat) (x : Wdg) : (s.setWdg i x).tlines = s.tlines := rfl
@[simp] theorem State.setWdg_ptp (s : State) (i : Nat) (x : Wdg) : (s.setWdg i x).ptp = s.ptp := rfl
@[simp] theorem State.setWdg_ptpGo (s : State) (i : Nat) (x : Wdg) : (s.setWdg i x).ptpGo = s.ptpGo := rfl
@[simp] theorem State.setWdg_ptpMark (s : State) (i : Nat) (x : Wdg) : (s.setWdg i x).ptpMark = s.ptpMark := rfl
@[simp] theorem State.setWdg_calReq (s : State) (i : Nat) (x : Wdg) : (s.setWdg i x).calReq = s.calReq := rfl
@[simp] theorem State.setWdg_interval (s : State) (i : Nat) (x : Wdg) : (s.setWdg i x).interval = s.interval := rfl
@[simp] theorem State.setWdg_frames (s : State) (i : Nat) (x : Wdg) : (s.setWdg i x).frames = s.frames := rfl
@[simp] theorem State.setWdg_spine (s : State) (i : Nat) (x : Wdg) : (s.setWdg i x).spine = s.spine := rfl
@[simp] theorem State.setWdg_cells (s : State) (i : Nat) (x : Wdg) : (s.setWdg i x).cells = s.cells := rfl
@[simp] theorem State.setWdg_regions (s : State) (i : Nat) (x : Wdg) : (s.setWdg i x).regions = s.regions := rfl
@[simp] theorem State.setWdg_clus (s : State) (i : Nat) (x : Wdg) : (s.setWdg i x).clus = s.clus := rfl
@[simp] theorem State.setWdg_cfg (s : State) (i : Nat) (x : Wdg) : (s.setWdg i x).cfg = s.cfg := rfl
@[simp] theorem State.setWdg_chans (s : State) (i : Nat) (x : Wdg) : (s.setWdg i x).chans = s.chans := rfl
@[simp] theorem State.setWdg_aports (s : State) (i : Nat) (x : Wdg) : (s.setWdg i x).aports = s.aports := rfl
@[simp] theorem State.setWdg_blines (s : State) (i : Nat) (x : Wdg) : (s.setWdg i x).blines = s.blines := rfl
@[simp] theorem State.setWdg_bsrcs (s : State) (i : Nat) (x : Wdg) : (s.setWdg i x).bsrcs = s.bsrcs := rfl
@[simp] theorem State.setWdg_bports (s : State) (i : Nat) (x : Wdg) : (s.setWdg i x).bports = s.bports := rfl
@[simp] theorem State.setWdg_twins (s : State) (i : Nat) (x : Wdg) : (s.setWdg i x).twins = s.twins := rfl
@[simp] theorem State.setWdg_lanes (s : State) (i : Nat) (x : Wdg) : (s.setWdg i x).lanes = s.lanes := rfl
@[simp] theorem State.setWdg_flights (s : State) (i : Nat) (x : Wdg) : (s.setWdg i x).flights = s.flights := rfl
@[simp] theorem State.setWdg_nextId (s : State) (i : Nat) (x : Wdg) : (s.setWdg i x).nextId = s.nextId := rfl
@[simp] theorem State.setWdg_pairs (s : State) (i : Nat) (x : Wdg) : (s.setWdg i x).pairs = s.pairs := rfl
@[simp] theorem State.setWdg_codePend (s : State) (i : Nat) (x : Wdg) : (s.setWdg i x).codePend = s.codePend := rfl
@[simp] theorem State.setWdg_spareQ (s : State) (i : Nat) (x : Wdg) : (s.setWdg i x).spareQ = s.spareQ := rfl
@[simp] theorem State.setWdg_swapWant (s : State) (i : Nat) (x : Wdg) : (s.setWdg i x).swapWant = s.swapWant := rfl
@[simp] theorem State.setWdg_bmems (s : State) (i : Nat) (x : Wdg) : (s.setWdg i x).bmems = s.bmems := rfl
@[simp] theorem State.setWdg_bbytes (s : State) (i : Nat) (x : Wdg) : (s.setWdg i x).bbytes = s.bbytes := rfl
@[simp] theorem State.setWdg_banks (s : State) (i : Nat) (x : Wdg) : (s.setWdg i x).banks = s.banks := rfl
@[simp] theorem State.setWdg_swords (s : State) (i : Nat) (x : Wdg) : (s.setWdg i x).swords = s.swords := rfl
@[simp] theorem State.setWdg_hops (s : State) (i : Nat) (x : Wdg) : (s.setWdg i x).hops = s.hops := rfl
@[simp] theorem State.setWdg_pins (s : State) (i : Nat) (x : Wdg) : (s.setWdg i x).pins = s.pins := rfl
@[simp] theorem State.setWdg_spinePrevs (s : State) (i : Nat) (x : Wdg) : (s.setWdg i x).spinePrevs = s.spinePrevs := rfl
@[simp] theorem State.setWdg_pads (s : State) (i : Nat) (x : Wdg) : (s.setWdg i x).pads = s.pads := rfl
@[simp] theorem State.setWdg_groups (s : State) (i : Nat) (x : Wdg) : (s.setWdg i x).groups = s.groups := rfl
@[simp] theorem State.setWdg_links (s : State) (i : Nat) (x : Wdg) : (s.setWdg i x).links = s.links := rfl
@[simp] theorem State.setWdg_reasms (s : State) (i : Nat) (x : Wdg) : (s.setWdg i x).reasms = s.reasms := rfl
@[simp] theorem State.setWdg_mgmtIn (s : State) (i : Nat) (x : Wdg) : (s.setWdg i x).mgmtIn = s.mgmtIn := rfl
@[simp] theorem State.setWdg_lateTags (s : State) (i : Nat) (x : Wdg) : (s.setWdg i x).lateTags = s.lateTags := rfl
@[simp] theorem State.setWdg_slices (s : State) (i : Nat) (x : Wdg) : (s.setWdg i x).slices = s.slices := rfl
@[simp] theorem State.setWdg_sweep (s : State) (i : Nat) (x : Wdg) : (s.setWdg i x).sweep = s.sweep := rfl
@[simp] theorem State.setWdg_asyNews (s : State) (i : Nat) (x : Wdg) : (s.setWdg i x).asyNews = s.asyNews := rfl
@[simp] theorem State.setWdg_sliceEnded (s : State) (i : Nat) (x : Wdg) : (s.setWdg i x).sliceEnded = s.sliceEnded := rfl
@[simp] theorem State.setWdg_load (s : State) (i : Nat) (x : Wdg) : (s.setWdg i x).load = s.load := rfl
@[simp] theorem State.setWdg_flash (s : State) (i : Nat) (x : Wdg) : (s.setWdg i x).flash = s.flash := rfl
@[simp] theorem State.setWdg_gold (s : State) (i : Nat) (x : Wdg) : (s.setWdg i x).gold = s.gold := rfl
@[simp] theorem State.setWdg_cparks (s : State) (i : Nat) (x : Wdg) : (s.setWdg i x).cparks = s.cparks := rfl
@[simp] theorem State.setWdg_crcs (s : State) (i : Nat) (x : Wdg) : (s.setWdg i x).crcs = s.crcs := rfl
@[simp] theorem State.setWdg_loadEnded (s : State) (i : Nat) (x : Wdg) : (s.setWdg i x).loadEnded = s.loadEnded := rfl
@[simp] theorem State.setWdg_imgHash (s : State) (i : Nat) (x : Wdg) : (s.setWdg i x).imgHash = s.imgHash := rfl
@[simp] theorem State.setWdg_rimgs (s : State) (i : Nat) (x : Wdg) : (s.setWdg i x).rimgs = s.rimgs := rfl
@[simp] theorem State.setWdg_staged (s : State) (i : Nat) (x : Wdg) : (s.setWdg i x).staged = s.staged := rfl
@[simp] theorem State.setWdg_loadAsked (s : State) (i : Nat) (x : Wdg) : (s.setWdg i x).loadAsked = s.loadAsked := rfl
@[simp] theorem State.setWdg_toldFaults (s : State) (i : Nat) (x : Wdg) : (s.setWdg i x).toldFaults = s.toldFaults := rfl
@[simp] theorem State.setWdg_kslots (s : State) (i : Nat) (x : Wdg) : (s.setWdg i x).kslots = s.kslots := rfl
@[simp] theorem State.setWdg_oslots (s : State) (i : Nat) (x : Wdg) : (s.setWdg i x).oslots = s.oslots := rfl
@[simp] theorem State.setWdg_kcmd (s : State) (i : Nat) (x : Wdg) : (s.setWdg i x).kcmd = s.kcmd := rfl
@[simp] theorem State.setWdg_cutSlots (s : State) (i : Nat) (x : Wdg) : (s.setWdg i x).cutSlots = s.cutSlots := rfl
@[simp] theorem State.setWdg_tkrev (s : State) (i : Nat) (x : Wdg) : (s.setWdg i x).tkrev = s.tkrev := rfl
@[simp] theorem State.setWdg_fwsvn (s : State) (i : Nat) (x : Wdg) : (s.setWdg i x).fwsvn = s.fwsvn := rfl
@[simp] theorem State.setWdg_fw (s : State) (i : Nat) (x : Wdg) : (s.setWdg i x).fw = s.fw := rfl
@[simp] theorem State.setWdg_recovery (s : State) (i : Nat) (x : Wdg) : (s.setWdg i x).recovery = s.recovery := rfl
@[simp] theorem State.setWdg_reports (s : State) (i : Nat) (x : Wdg) : (s.setWdg i x).reports = s.reports := rfl
@[simp] theorem State.setWdg_signed (s : State) (i : Nat) (x : Wdg) : (s.setWdg i x).signed = s.signed := rfl
@[simp] theorem State.setWdg_attests (s : State) (i : Nat) (x : Wdg) : (s.setWdg i x).attests = s.attests := rfl
@[simp] theorem State.setWdg_uarts (s : State) (i : Nat) (x : Wdg) : (s.setWdg i x).uarts = s.uarts := rfl
@[simp] theorem State.setWdg_spi (s : State) (i : Nat) (x : Wdg) : (s.setWdg i x).spi = s.spi := rfl
@[simp] theorem State.setWdg_i2cs (s : State) (i : Nat) (x : Wdg) : (s.setWdg i x).i2cs = s.i2cs := rfl
@[simp] theorem State.setWdg_cores (s : State) (i : Nat) (x : Wdg) : (s.setWdg i x).cores = s.cores := rfl
@[simp] theorem State.setWdg_gexts (s : State) (i : Nat) (x : Wdg) : (s.setWdg i x).gexts = s.gexts := rfl
@[simp] theorem State.setWdg_gkeeps (s : State) (i : Nat) (x : Wdg) : (s.setWdg i x).gkeeps = s.gkeeps := rfl
@[simp] theorem State.setWdg_glines (s : State) (i : Nat) (x : Wdg) : (s.setWdg i x).glines = s.glines := rfl
@[simp] theorem State.setWdg_gheld (s : State) (i : Nat) (x : Wdg) : (s.setWdg i x).gheld = s.gheld := rfl
@[simp] theorem State.setWdg_cmpNews (s : State) (i : Nat) (x : Wdg) : (s.setWdg i x).cmpNews = s.cmpNews := rfl
@[simp] theorem State.setWdg_ptpNews (s : State) (i : Nat) (x : Wdg) : (s.setWdg i x).ptpNews = s.ptpNews := rfl
@[simp] theorem State.setWdg_ptpStamp (s : State) (i : Nat) (x : Wdg) : (s.setWdg i x).ptpStamp = s.ptpStamp := rfl
@[simp] theorem State.setWdg_ppsAt (s : State) (i : Nat) (x : Wdg) : (s.setWdg i x).ppsAt = s.ppsAt := rfl
@[simp] theorem State.setWdg_mem (s : State) (i : Nat) (x : Wdg) : (s.setWdg i x).mem = s.mem := rfl
@[simp] theorem State.setWdg_memEpoch (s : State) (i : Nat) (x : Wdg) : (s.setWdg i x).memEpoch = s.memEpoch := rfl
@[simp] theorem State.setWdg_ix (s : State) (i : Nat) (x : Wdg) : (s.setWdg i x).ix = s.ix := rfl
@[simp] theorem State.setWdg_ixOut (s : State) (i : Nat) (x : Wdg) : (s.setWdg i x).ixOut = s.ixOut := rfl
@[simp] theorem State.setWdg_doms (s : State) (i : Nat) (x : Wdg) : (s.setWdg i x).doms = s.doms := rfl
@[simp] theorem State.setWdg_epoch (s : State) (i : Nat) (x : Wdg) : (s.setWdg i x).epoch = s.epoch := rfl
@[simp] theorem State.setWdg_ups (s : State) (i : Nat) (x : Wdg) : (s.setWdg i x).ups = s.ups := rfl
@[simp] theorem State.setWdg_dns (s : State) (i : Nat) (x : Wdg) : (s.setWdg i x).dns = s.dns := rfl
@[simp] theorem State.setWdg_probes (s : State) (i : Nat) (x : Wdg) : (s.setWdg i x).probes = s.probes := rfl
@[simp] theorem State.setWdg_tapIr (s : State) (i : Nat) (x : Wdg) : (s.setWdg i x).tapIr = s.tapIr := rfl
@[simp] theorem State.setWdg_bscan (s : State) (i : Nat) (x : Wdg) : (s.setWdg i x).bscan = s.bscan := rfl
@[simp] theorem State.setWdg_dbgAcc (s : State) (i : Nat) (x : Wdg) : (s.setWdg i x).dbgAcc = s.dbgAcc := rfl
@[simp] theorem State.setWdg_dbgStatus (s : State) (i : Nat) (x : Wdg) : (s.setWdg i x).dbgStatus = s.dbgStatus := rfl
@[simp] theorem State.setWdg_dbgP (s : State) (i : Nat) (x : Wdg) : (s.setWdg i x).dbgP = s.dbgP := rfl
@[simp] theorem State.setWdg_dbgData (s : State) (i : Nat) (x : Wdg) : (s.setWdg i x).dbgData = s.dbgData := rfl
@[simp] theorem State.setWdg_bcap (s : State) (i : Nat) (x : Wdg) : (s.setWdg i x).bcap = s.bcap := rfl
@[simp] theorem State.setWdg_vin (s : State) (i : Nat) (x : Wdg) : (s.setWdg i x).vin = s.vin := rfl
@[simp] theorem State.setWdg_vbat (s : State) (i : Nat) (x : Wdg) : (s.setWdg i x).vbat = s.vbat := rfl
@[simp] theorem State.setWdg_bbGone (s : State) (i : Nat) (x : Wdg) : (s.setWdg i x).bbGone = s.bbGone := rfl
@[simp] theorem State.setWdg_hot (s : State) (i : Nat) (x : Wdg) : (s.setWdg i x).hot = s.hot := rfl
@[simp] theorem State.setWdg_bootDue (s : State) (i : Nat) (x : Wdg) : (s.setWdg i x).bootDue = s.bootDue := rfl

@[simp] theorem State.setGext_gexts (s : State) (i : Nat) (x : Option Bool) : (s.setGext i x).gexts = Store.put none s.gexts i x := rfl
@[simp] theorem State.gext_setGext_same (s : State) (i : Nat) (x : Option Bool) : (s.setGext i x).gext i = x := Store.get_put_same _ _ _ _
theorem State.gext_setGext_ne (s : State) (i j : Nat) (x : Option Bool) (h : j ≠ i) : (s.setGext i x).gext j = s.gext j := Store.get_put_ne _ _ _ h
@[simp] theorem State.setGext_pending (s : State) (i : Nat) (x : Option Bool) : (s.setGext i x).pending = s.pending := rfl
@[simp] theorem State.setGext_free (s : State) (i : Nat) (x : Option Bool) : (s.setGext i x).free = s.free := rfl
@[simp] theorem State.setGext_time (s : State) (i : Nat) (x : Option Bool) : (s.setGext i x).time = s.time := rfl
@[simp] theorem State.setGext_regs (s : State) (i : Nat) (x : Option Bool) : (s.setGext i x).regs = s.regs := rfl
@[simp] theorem State.setGext_rdata (s : State) (i : Nat) (x : Option Bool) : (s.setGext i x).rdata = s.rdata := rfl
@[simp] theorem State.setGext_tports (s : State) (i : Nat) (x : Option Bool) : (s.setGext i x).tports = s.tports := rfl
@[simp] theorem State.setGext_tlines (s : State) (i : Nat) (x : Option Bool) : (s.setGext i x).tlines = s.tlines := rfl
@[simp] theorem State.setGext_ptp (s : State) (i : Nat) (x : Option Bool) : (s.setGext i x).ptp = s.ptp := rfl
@[simp] theorem State.setGext_ptpGo (s : State) (i : Nat) (x : Option Bool) : (s.setGext i x).ptpGo = s.ptpGo := rfl
@[simp] theorem State.setGext_ptpMark (s : State) (i : Nat) (x : Option Bool) : (s.setGext i x).ptpMark = s.ptpMark := rfl
@[simp] theorem State.setGext_calReq (s : State) (i : Nat) (x : Option Bool) : (s.setGext i x).calReq = s.calReq := rfl
@[simp] theorem State.setGext_interval (s : State) (i : Nat) (x : Option Bool) : (s.setGext i x).interval = s.interval := rfl
@[simp] theorem State.setGext_frames (s : State) (i : Nat) (x : Option Bool) : (s.setGext i x).frames = s.frames := rfl
@[simp] theorem State.setGext_spine (s : State) (i : Nat) (x : Option Bool) : (s.setGext i x).spine = s.spine := rfl
@[simp] theorem State.setGext_cells (s : State) (i : Nat) (x : Option Bool) : (s.setGext i x).cells = s.cells := rfl
@[simp] theorem State.setGext_regions (s : State) (i : Nat) (x : Option Bool) : (s.setGext i x).regions = s.regions := rfl
@[simp] theorem State.setGext_clus (s : State) (i : Nat) (x : Option Bool) : (s.setGext i x).clus = s.clus := rfl
@[simp] theorem State.setGext_cfg (s : State) (i : Nat) (x : Option Bool) : (s.setGext i x).cfg = s.cfg := rfl
@[simp] theorem State.setGext_chans (s : State) (i : Nat) (x : Option Bool) : (s.setGext i x).chans = s.chans := rfl
@[simp] theorem State.setGext_aports (s : State) (i : Nat) (x : Option Bool) : (s.setGext i x).aports = s.aports := rfl
@[simp] theorem State.setGext_blines (s : State) (i : Nat) (x : Option Bool) : (s.setGext i x).blines = s.blines := rfl
@[simp] theorem State.setGext_bsrcs (s : State) (i : Nat) (x : Option Bool) : (s.setGext i x).bsrcs = s.bsrcs := rfl
@[simp] theorem State.setGext_bports (s : State) (i : Nat) (x : Option Bool) : (s.setGext i x).bports = s.bports := rfl
@[simp] theorem State.setGext_twins (s : State) (i : Nat) (x : Option Bool) : (s.setGext i x).twins = s.twins := rfl
@[simp] theorem State.setGext_lanes (s : State) (i : Nat) (x : Option Bool) : (s.setGext i x).lanes = s.lanes := rfl
@[simp] theorem State.setGext_flights (s : State) (i : Nat) (x : Option Bool) : (s.setGext i x).flights = s.flights := rfl
@[simp] theorem State.setGext_nextId (s : State) (i : Nat) (x : Option Bool) : (s.setGext i x).nextId = s.nextId := rfl
@[simp] theorem State.setGext_pairs (s : State) (i : Nat) (x : Option Bool) : (s.setGext i x).pairs = s.pairs := rfl
@[simp] theorem State.setGext_codePend (s : State) (i : Nat) (x : Option Bool) : (s.setGext i x).codePend = s.codePend := rfl
@[simp] theorem State.setGext_spareQ (s : State) (i : Nat) (x : Option Bool) : (s.setGext i x).spareQ = s.spareQ := rfl
@[simp] theorem State.setGext_swapWant (s : State) (i : Nat) (x : Option Bool) : (s.setGext i x).swapWant = s.swapWant := rfl
@[simp] theorem State.setGext_bmems (s : State) (i : Nat) (x : Option Bool) : (s.setGext i x).bmems = s.bmems := rfl
@[simp] theorem State.setGext_bbytes (s : State) (i : Nat) (x : Option Bool) : (s.setGext i x).bbytes = s.bbytes := rfl
@[simp] theorem State.setGext_banks (s : State) (i : Nat) (x : Option Bool) : (s.setGext i x).banks = s.banks := rfl
@[simp] theorem State.setGext_swords (s : State) (i : Nat) (x : Option Bool) : (s.setGext i x).swords = s.swords := rfl
@[simp] theorem State.setGext_hops (s : State) (i : Nat) (x : Option Bool) : (s.setGext i x).hops = s.hops := rfl
@[simp] theorem State.setGext_pins (s : State) (i : Nat) (x : Option Bool) : (s.setGext i x).pins = s.pins := rfl
@[simp] theorem State.setGext_spinePrevs (s : State) (i : Nat) (x : Option Bool) : (s.setGext i x).spinePrevs = s.spinePrevs := rfl
@[simp] theorem State.setGext_pads (s : State) (i : Nat) (x : Option Bool) : (s.setGext i x).pads = s.pads := rfl
@[simp] theorem State.setGext_groups (s : State) (i : Nat) (x : Option Bool) : (s.setGext i x).groups = s.groups := rfl
@[simp] theorem State.setGext_links (s : State) (i : Nat) (x : Option Bool) : (s.setGext i x).links = s.links := rfl
@[simp] theorem State.setGext_reasms (s : State) (i : Nat) (x : Option Bool) : (s.setGext i x).reasms = s.reasms := rfl
@[simp] theorem State.setGext_mgmtIn (s : State) (i : Nat) (x : Option Bool) : (s.setGext i x).mgmtIn = s.mgmtIn := rfl
@[simp] theorem State.setGext_lateTags (s : State) (i : Nat) (x : Option Bool) : (s.setGext i x).lateTags = s.lateTags := rfl
@[simp] theorem State.setGext_slices (s : State) (i : Nat) (x : Option Bool) : (s.setGext i x).slices = s.slices := rfl
@[simp] theorem State.setGext_sweep (s : State) (i : Nat) (x : Option Bool) : (s.setGext i x).sweep = s.sweep := rfl
@[simp] theorem State.setGext_asyNews (s : State) (i : Nat) (x : Option Bool) : (s.setGext i x).asyNews = s.asyNews := rfl
@[simp] theorem State.setGext_sliceEnded (s : State) (i : Nat) (x : Option Bool) : (s.setGext i x).sliceEnded = s.sliceEnded := rfl
@[simp] theorem State.setGext_load (s : State) (i : Nat) (x : Option Bool) : (s.setGext i x).load = s.load := rfl
@[simp] theorem State.setGext_flash (s : State) (i : Nat) (x : Option Bool) : (s.setGext i x).flash = s.flash := rfl
@[simp] theorem State.setGext_gold (s : State) (i : Nat) (x : Option Bool) : (s.setGext i x).gold = s.gold := rfl
@[simp] theorem State.setGext_cparks (s : State) (i : Nat) (x : Option Bool) : (s.setGext i x).cparks = s.cparks := rfl
@[simp] theorem State.setGext_crcs (s : State) (i : Nat) (x : Option Bool) : (s.setGext i x).crcs = s.crcs := rfl
@[simp] theorem State.setGext_loadEnded (s : State) (i : Nat) (x : Option Bool) : (s.setGext i x).loadEnded = s.loadEnded := rfl
@[simp] theorem State.setGext_imgHash (s : State) (i : Nat) (x : Option Bool) : (s.setGext i x).imgHash = s.imgHash := rfl
@[simp] theorem State.setGext_rimgs (s : State) (i : Nat) (x : Option Bool) : (s.setGext i x).rimgs = s.rimgs := rfl
@[simp] theorem State.setGext_staged (s : State) (i : Nat) (x : Option Bool) : (s.setGext i x).staged = s.staged := rfl
@[simp] theorem State.setGext_loadAsked (s : State) (i : Nat) (x : Option Bool) : (s.setGext i x).loadAsked = s.loadAsked := rfl
@[simp] theorem State.setGext_toldFaults (s : State) (i : Nat) (x : Option Bool) : (s.setGext i x).toldFaults = s.toldFaults := rfl
@[simp] theorem State.setGext_kslots (s : State) (i : Nat) (x : Option Bool) : (s.setGext i x).kslots = s.kslots := rfl
@[simp] theorem State.setGext_oslots (s : State) (i : Nat) (x : Option Bool) : (s.setGext i x).oslots = s.oslots := rfl
@[simp] theorem State.setGext_kcmd (s : State) (i : Nat) (x : Option Bool) : (s.setGext i x).kcmd = s.kcmd := rfl
@[simp] theorem State.setGext_cutSlots (s : State) (i : Nat) (x : Option Bool) : (s.setGext i x).cutSlots = s.cutSlots := rfl
@[simp] theorem State.setGext_tkrev (s : State) (i : Nat) (x : Option Bool) : (s.setGext i x).tkrev = s.tkrev := rfl
@[simp] theorem State.setGext_fwsvn (s : State) (i : Nat) (x : Option Bool) : (s.setGext i x).fwsvn = s.fwsvn := rfl
@[simp] theorem State.setGext_fw (s : State) (i : Nat) (x : Option Bool) : (s.setGext i x).fw = s.fw := rfl
@[simp] theorem State.setGext_recovery (s : State) (i : Nat) (x : Option Bool) : (s.setGext i x).recovery = s.recovery := rfl
@[simp] theorem State.setGext_reports (s : State) (i : Nat) (x : Option Bool) : (s.setGext i x).reports = s.reports := rfl
@[simp] theorem State.setGext_signed (s : State) (i : Nat) (x : Option Bool) : (s.setGext i x).signed = s.signed := rfl
@[simp] theorem State.setGext_attests (s : State) (i : Nat) (x : Option Bool) : (s.setGext i x).attests = s.attests := rfl
@[simp] theorem State.setGext_uarts (s : State) (i : Nat) (x : Option Bool) : (s.setGext i x).uarts = s.uarts := rfl
@[simp] theorem State.setGext_spi (s : State) (i : Nat) (x : Option Bool) : (s.setGext i x).spi = s.spi := rfl
@[simp] theorem State.setGext_i2cs (s : State) (i : Nat) (x : Option Bool) : (s.setGext i x).i2cs = s.i2cs := rfl
@[simp] theorem State.setGext_cores (s : State) (i : Nat) (x : Option Bool) : (s.setGext i x).cores = s.cores := rfl
@[simp] theorem State.setGext_wdgs (s : State) (i : Nat) (x : Option Bool) : (s.setGext i x).wdgs = s.wdgs := rfl
@[simp] theorem State.setGext_gkeeps (s : State) (i : Nat) (x : Option Bool) : (s.setGext i x).gkeeps = s.gkeeps := rfl
@[simp] theorem State.setGext_glines (s : State) (i : Nat) (x : Option Bool) : (s.setGext i x).glines = s.glines := rfl
@[simp] theorem State.setGext_gheld (s : State) (i : Nat) (x : Option Bool) : (s.setGext i x).gheld = s.gheld := rfl
@[simp] theorem State.setGext_cmpNews (s : State) (i : Nat) (x : Option Bool) : (s.setGext i x).cmpNews = s.cmpNews := rfl
@[simp] theorem State.setGext_ptpNews (s : State) (i : Nat) (x : Option Bool) : (s.setGext i x).ptpNews = s.ptpNews := rfl
@[simp] theorem State.setGext_ptpStamp (s : State) (i : Nat) (x : Option Bool) : (s.setGext i x).ptpStamp = s.ptpStamp := rfl
@[simp] theorem State.setGext_ppsAt (s : State) (i : Nat) (x : Option Bool) : (s.setGext i x).ppsAt = s.ppsAt := rfl
@[simp] theorem State.setGext_mem (s : State) (i : Nat) (x : Option Bool) : (s.setGext i x).mem = s.mem := rfl
@[simp] theorem State.setGext_memEpoch (s : State) (i : Nat) (x : Option Bool) : (s.setGext i x).memEpoch = s.memEpoch := rfl
@[simp] theorem State.setGext_ix (s : State) (i : Nat) (x : Option Bool) : (s.setGext i x).ix = s.ix := rfl
@[simp] theorem State.setGext_ixOut (s : State) (i : Nat) (x : Option Bool) : (s.setGext i x).ixOut = s.ixOut := rfl
@[simp] theorem State.setGext_doms (s : State) (i : Nat) (x : Option Bool) : (s.setGext i x).doms = s.doms := rfl
@[simp] theorem State.setGext_epoch (s : State) (i : Nat) (x : Option Bool) : (s.setGext i x).epoch = s.epoch := rfl
@[simp] theorem State.setGext_ups (s : State) (i : Nat) (x : Option Bool) : (s.setGext i x).ups = s.ups := rfl
@[simp] theorem State.setGext_dns (s : State) (i : Nat) (x : Option Bool) : (s.setGext i x).dns = s.dns := rfl
@[simp] theorem State.setGext_probes (s : State) (i : Nat) (x : Option Bool) : (s.setGext i x).probes = s.probes := rfl
@[simp] theorem State.setGext_tapIr (s : State) (i : Nat) (x : Option Bool) : (s.setGext i x).tapIr = s.tapIr := rfl
@[simp] theorem State.setGext_bscan (s : State) (i : Nat) (x : Option Bool) : (s.setGext i x).bscan = s.bscan := rfl
@[simp] theorem State.setGext_dbgAcc (s : State) (i : Nat) (x : Option Bool) : (s.setGext i x).dbgAcc = s.dbgAcc := rfl
@[simp] theorem State.setGext_dbgStatus (s : State) (i : Nat) (x : Option Bool) : (s.setGext i x).dbgStatus = s.dbgStatus := rfl
@[simp] theorem State.setGext_dbgP (s : State) (i : Nat) (x : Option Bool) : (s.setGext i x).dbgP = s.dbgP := rfl
@[simp] theorem State.setGext_dbgData (s : State) (i : Nat) (x : Option Bool) : (s.setGext i x).dbgData = s.dbgData := rfl
@[simp] theorem State.setGext_bcap (s : State) (i : Nat) (x : Option Bool) : (s.setGext i x).bcap = s.bcap := rfl
@[simp] theorem State.setGext_vin (s : State) (i : Nat) (x : Option Bool) : (s.setGext i x).vin = s.vin := rfl
@[simp] theorem State.setGext_vbat (s : State) (i : Nat) (x : Option Bool) : (s.setGext i x).vbat = s.vbat := rfl
@[simp] theorem State.setGext_bbGone (s : State) (i : Nat) (x : Option Bool) : (s.setGext i x).bbGone = s.bbGone := rfl
@[simp] theorem State.setGext_hot (s : State) (i : Nat) (x : Option Bool) : (s.setGext i x).hot = s.hot := rfl
@[simp] theorem State.setGext_bootDue (s : State) (i : Nat) (x : Option Bool) : (s.setGext i x).bootDue = s.bootDue := rfl

@[simp] theorem State.setGkeep_gkeeps (s : State) (i : Nat) (x : Bool) : (s.setGkeep i x).gkeeps = Store.put false s.gkeeps i x := rfl
@[simp] theorem State.gkeep_setGkeep_same (s : State) (i : Nat) (x : Bool) : (s.setGkeep i x).gkeep i = x := Store.get_put_same _ _ _ _
theorem State.gkeep_setGkeep_ne (s : State) (i j : Nat) (x : Bool) (h : j ≠ i) : (s.setGkeep i x).gkeep j = s.gkeep j := Store.get_put_ne _ _ _ h
@[simp] theorem State.setGkeep_pending (s : State) (i : Nat) (x : Bool) : (s.setGkeep i x).pending = s.pending := rfl
@[simp] theorem State.setGkeep_free (s : State) (i : Nat) (x : Bool) : (s.setGkeep i x).free = s.free := rfl
@[simp] theorem State.setGkeep_time (s : State) (i : Nat) (x : Bool) : (s.setGkeep i x).time = s.time := rfl
@[simp] theorem State.setGkeep_regs (s : State) (i : Nat) (x : Bool) : (s.setGkeep i x).regs = s.regs := rfl
@[simp] theorem State.setGkeep_rdata (s : State) (i : Nat) (x : Bool) : (s.setGkeep i x).rdata = s.rdata := rfl
@[simp] theorem State.setGkeep_tports (s : State) (i : Nat) (x : Bool) : (s.setGkeep i x).tports = s.tports := rfl
@[simp] theorem State.setGkeep_tlines (s : State) (i : Nat) (x : Bool) : (s.setGkeep i x).tlines = s.tlines := rfl
@[simp] theorem State.setGkeep_ptp (s : State) (i : Nat) (x : Bool) : (s.setGkeep i x).ptp = s.ptp := rfl
@[simp] theorem State.setGkeep_ptpGo (s : State) (i : Nat) (x : Bool) : (s.setGkeep i x).ptpGo = s.ptpGo := rfl
@[simp] theorem State.setGkeep_ptpMark (s : State) (i : Nat) (x : Bool) : (s.setGkeep i x).ptpMark = s.ptpMark := rfl
@[simp] theorem State.setGkeep_calReq (s : State) (i : Nat) (x : Bool) : (s.setGkeep i x).calReq = s.calReq := rfl
@[simp] theorem State.setGkeep_interval (s : State) (i : Nat) (x : Bool) : (s.setGkeep i x).interval = s.interval := rfl
@[simp] theorem State.setGkeep_frames (s : State) (i : Nat) (x : Bool) : (s.setGkeep i x).frames = s.frames := rfl
@[simp] theorem State.setGkeep_spine (s : State) (i : Nat) (x : Bool) : (s.setGkeep i x).spine = s.spine := rfl
@[simp] theorem State.setGkeep_cells (s : State) (i : Nat) (x : Bool) : (s.setGkeep i x).cells = s.cells := rfl
@[simp] theorem State.setGkeep_regions (s : State) (i : Nat) (x : Bool) : (s.setGkeep i x).regions = s.regions := rfl
@[simp] theorem State.setGkeep_clus (s : State) (i : Nat) (x : Bool) : (s.setGkeep i x).clus = s.clus := rfl
@[simp] theorem State.setGkeep_cfg (s : State) (i : Nat) (x : Bool) : (s.setGkeep i x).cfg = s.cfg := rfl
@[simp] theorem State.setGkeep_chans (s : State) (i : Nat) (x : Bool) : (s.setGkeep i x).chans = s.chans := rfl
@[simp] theorem State.setGkeep_aports (s : State) (i : Nat) (x : Bool) : (s.setGkeep i x).aports = s.aports := rfl
@[simp] theorem State.setGkeep_blines (s : State) (i : Nat) (x : Bool) : (s.setGkeep i x).blines = s.blines := rfl
@[simp] theorem State.setGkeep_bsrcs (s : State) (i : Nat) (x : Bool) : (s.setGkeep i x).bsrcs = s.bsrcs := rfl
@[simp] theorem State.setGkeep_bports (s : State) (i : Nat) (x : Bool) : (s.setGkeep i x).bports = s.bports := rfl
@[simp] theorem State.setGkeep_twins (s : State) (i : Nat) (x : Bool) : (s.setGkeep i x).twins = s.twins := rfl
@[simp] theorem State.setGkeep_lanes (s : State) (i : Nat) (x : Bool) : (s.setGkeep i x).lanes = s.lanes := rfl
@[simp] theorem State.setGkeep_flights (s : State) (i : Nat) (x : Bool) : (s.setGkeep i x).flights = s.flights := rfl
@[simp] theorem State.setGkeep_nextId (s : State) (i : Nat) (x : Bool) : (s.setGkeep i x).nextId = s.nextId := rfl
@[simp] theorem State.setGkeep_pairs (s : State) (i : Nat) (x : Bool) : (s.setGkeep i x).pairs = s.pairs := rfl
@[simp] theorem State.setGkeep_codePend (s : State) (i : Nat) (x : Bool) : (s.setGkeep i x).codePend = s.codePend := rfl
@[simp] theorem State.setGkeep_spareQ (s : State) (i : Nat) (x : Bool) : (s.setGkeep i x).spareQ = s.spareQ := rfl
@[simp] theorem State.setGkeep_swapWant (s : State) (i : Nat) (x : Bool) : (s.setGkeep i x).swapWant = s.swapWant := rfl
@[simp] theorem State.setGkeep_bmems (s : State) (i : Nat) (x : Bool) : (s.setGkeep i x).bmems = s.bmems := rfl
@[simp] theorem State.setGkeep_bbytes (s : State) (i : Nat) (x : Bool) : (s.setGkeep i x).bbytes = s.bbytes := rfl
@[simp] theorem State.setGkeep_banks (s : State) (i : Nat) (x : Bool) : (s.setGkeep i x).banks = s.banks := rfl
@[simp] theorem State.setGkeep_swords (s : State) (i : Nat) (x : Bool) : (s.setGkeep i x).swords = s.swords := rfl
@[simp] theorem State.setGkeep_hops (s : State) (i : Nat) (x : Bool) : (s.setGkeep i x).hops = s.hops := rfl
@[simp] theorem State.setGkeep_pins (s : State) (i : Nat) (x : Bool) : (s.setGkeep i x).pins = s.pins := rfl
@[simp] theorem State.setGkeep_spinePrevs (s : State) (i : Nat) (x : Bool) : (s.setGkeep i x).spinePrevs = s.spinePrevs := rfl
@[simp] theorem State.setGkeep_pads (s : State) (i : Nat) (x : Bool) : (s.setGkeep i x).pads = s.pads := rfl
@[simp] theorem State.setGkeep_groups (s : State) (i : Nat) (x : Bool) : (s.setGkeep i x).groups = s.groups := rfl
@[simp] theorem State.setGkeep_links (s : State) (i : Nat) (x : Bool) : (s.setGkeep i x).links = s.links := rfl
@[simp] theorem State.setGkeep_reasms (s : State) (i : Nat) (x : Bool) : (s.setGkeep i x).reasms = s.reasms := rfl
@[simp] theorem State.setGkeep_mgmtIn (s : State) (i : Nat) (x : Bool) : (s.setGkeep i x).mgmtIn = s.mgmtIn := rfl
@[simp] theorem State.setGkeep_lateTags (s : State) (i : Nat) (x : Bool) : (s.setGkeep i x).lateTags = s.lateTags := rfl
@[simp] theorem State.setGkeep_slices (s : State) (i : Nat) (x : Bool) : (s.setGkeep i x).slices = s.slices := rfl
@[simp] theorem State.setGkeep_sweep (s : State) (i : Nat) (x : Bool) : (s.setGkeep i x).sweep = s.sweep := rfl
@[simp] theorem State.setGkeep_asyNews (s : State) (i : Nat) (x : Bool) : (s.setGkeep i x).asyNews = s.asyNews := rfl
@[simp] theorem State.setGkeep_sliceEnded (s : State) (i : Nat) (x : Bool) : (s.setGkeep i x).sliceEnded = s.sliceEnded := rfl
@[simp] theorem State.setGkeep_load (s : State) (i : Nat) (x : Bool) : (s.setGkeep i x).load = s.load := rfl
@[simp] theorem State.setGkeep_flash (s : State) (i : Nat) (x : Bool) : (s.setGkeep i x).flash = s.flash := rfl
@[simp] theorem State.setGkeep_gold (s : State) (i : Nat) (x : Bool) : (s.setGkeep i x).gold = s.gold := rfl
@[simp] theorem State.setGkeep_cparks (s : State) (i : Nat) (x : Bool) : (s.setGkeep i x).cparks = s.cparks := rfl
@[simp] theorem State.setGkeep_crcs (s : State) (i : Nat) (x : Bool) : (s.setGkeep i x).crcs = s.crcs := rfl
@[simp] theorem State.setGkeep_loadEnded (s : State) (i : Nat) (x : Bool) : (s.setGkeep i x).loadEnded = s.loadEnded := rfl
@[simp] theorem State.setGkeep_imgHash (s : State) (i : Nat) (x : Bool) : (s.setGkeep i x).imgHash = s.imgHash := rfl
@[simp] theorem State.setGkeep_rimgs (s : State) (i : Nat) (x : Bool) : (s.setGkeep i x).rimgs = s.rimgs := rfl
@[simp] theorem State.setGkeep_staged (s : State) (i : Nat) (x : Bool) : (s.setGkeep i x).staged = s.staged := rfl
@[simp] theorem State.setGkeep_loadAsked (s : State) (i : Nat) (x : Bool) : (s.setGkeep i x).loadAsked = s.loadAsked := rfl
@[simp] theorem State.setGkeep_toldFaults (s : State) (i : Nat) (x : Bool) : (s.setGkeep i x).toldFaults = s.toldFaults := rfl
@[simp] theorem State.setGkeep_kslots (s : State) (i : Nat) (x : Bool) : (s.setGkeep i x).kslots = s.kslots := rfl
@[simp] theorem State.setGkeep_oslots (s : State) (i : Nat) (x : Bool) : (s.setGkeep i x).oslots = s.oslots := rfl
@[simp] theorem State.setGkeep_kcmd (s : State) (i : Nat) (x : Bool) : (s.setGkeep i x).kcmd = s.kcmd := rfl
@[simp] theorem State.setGkeep_cutSlots (s : State) (i : Nat) (x : Bool) : (s.setGkeep i x).cutSlots = s.cutSlots := rfl
@[simp] theorem State.setGkeep_tkrev (s : State) (i : Nat) (x : Bool) : (s.setGkeep i x).tkrev = s.tkrev := rfl
@[simp] theorem State.setGkeep_fwsvn (s : State) (i : Nat) (x : Bool) : (s.setGkeep i x).fwsvn = s.fwsvn := rfl
@[simp] theorem State.setGkeep_fw (s : State) (i : Nat) (x : Bool) : (s.setGkeep i x).fw = s.fw := rfl
@[simp] theorem State.setGkeep_recovery (s : State) (i : Nat) (x : Bool) : (s.setGkeep i x).recovery = s.recovery := rfl
@[simp] theorem State.setGkeep_reports (s : State) (i : Nat) (x : Bool) : (s.setGkeep i x).reports = s.reports := rfl
@[simp] theorem State.setGkeep_signed (s : State) (i : Nat) (x : Bool) : (s.setGkeep i x).signed = s.signed := rfl
@[simp] theorem State.setGkeep_attests (s : State) (i : Nat) (x : Bool) : (s.setGkeep i x).attests = s.attests := rfl
@[simp] theorem State.setGkeep_uarts (s : State) (i : Nat) (x : Bool) : (s.setGkeep i x).uarts = s.uarts := rfl
@[simp] theorem State.setGkeep_spi (s : State) (i : Nat) (x : Bool) : (s.setGkeep i x).spi = s.spi := rfl
@[simp] theorem State.setGkeep_i2cs (s : State) (i : Nat) (x : Bool) : (s.setGkeep i x).i2cs = s.i2cs := rfl
@[simp] theorem State.setGkeep_cores (s : State) (i : Nat) (x : Bool) : (s.setGkeep i x).cores = s.cores := rfl
@[simp] theorem State.setGkeep_wdgs (s : State) (i : Nat) (x : Bool) : (s.setGkeep i x).wdgs = s.wdgs := rfl
@[simp] theorem State.setGkeep_gexts (s : State) (i : Nat) (x : Bool) : (s.setGkeep i x).gexts = s.gexts := rfl
@[simp] theorem State.setGkeep_glines (s : State) (i : Nat) (x : Bool) : (s.setGkeep i x).glines = s.glines := rfl
@[simp] theorem State.setGkeep_gheld (s : State) (i : Nat) (x : Bool) : (s.setGkeep i x).gheld = s.gheld := rfl
@[simp] theorem State.setGkeep_cmpNews (s : State) (i : Nat) (x : Bool) : (s.setGkeep i x).cmpNews = s.cmpNews := rfl
@[simp] theorem State.setGkeep_ptpNews (s : State) (i : Nat) (x : Bool) : (s.setGkeep i x).ptpNews = s.ptpNews := rfl
@[simp] theorem State.setGkeep_ptpStamp (s : State) (i : Nat) (x : Bool) : (s.setGkeep i x).ptpStamp = s.ptpStamp := rfl
@[simp] theorem State.setGkeep_ppsAt (s : State) (i : Nat) (x : Bool) : (s.setGkeep i x).ppsAt = s.ppsAt := rfl
@[simp] theorem State.setGkeep_mem (s : State) (i : Nat) (x : Bool) : (s.setGkeep i x).mem = s.mem := rfl
@[simp] theorem State.setGkeep_memEpoch (s : State) (i : Nat) (x : Bool) : (s.setGkeep i x).memEpoch = s.memEpoch := rfl
@[simp] theorem State.setGkeep_ix (s : State) (i : Nat) (x : Bool) : (s.setGkeep i x).ix = s.ix := rfl
@[simp] theorem State.setGkeep_ixOut (s : State) (i : Nat) (x : Bool) : (s.setGkeep i x).ixOut = s.ixOut := rfl
@[simp] theorem State.setGkeep_doms (s : State) (i : Nat) (x : Bool) : (s.setGkeep i x).doms = s.doms := rfl
@[simp] theorem State.setGkeep_epoch (s : State) (i : Nat) (x : Bool) : (s.setGkeep i x).epoch = s.epoch := rfl
@[simp] theorem State.setGkeep_ups (s : State) (i : Nat) (x : Bool) : (s.setGkeep i x).ups = s.ups := rfl
@[simp] theorem State.setGkeep_dns (s : State) (i : Nat) (x : Bool) : (s.setGkeep i x).dns = s.dns := rfl
@[simp] theorem State.setGkeep_probes (s : State) (i : Nat) (x : Bool) : (s.setGkeep i x).probes = s.probes := rfl
@[simp] theorem State.setGkeep_tapIr (s : State) (i : Nat) (x : Bool) : (s.setGkeep i x).tapIr = s.tapIr := rfl
@[simp] theorem State.setGkeep_bscan (s : State) (i : Nat) (x : Bool) : (s.setGkeep i x).bscan = s.bscan := rfl
@[simp] theorem State.setGkeep_dbgAcc (s : State) (i : Nat) (x : Bool) : (s.setGkeep i x).dbgAcc = s.dbgAcc := rfl
@[simp] theorem State.setGkeep_dbgStatus (s : State) (i : Nat) (x : Bool) : (s.setGkeep i x).dbgStatus = s.dbgStatus := rfl
@[simp] theorem State.setGkeep_dbgP (s : State) (i : Nat) (x : Bool) : (s.setGkeep i x).dbgP = s.dbgP := rfl
@[simp] theorem State.setGkeep_dbgData (s : State) (i : Nat) (x : Bool) : (s.setGkeep i x).dbgData = s.dbgData := rfl
@[simp] theorem State.setGkeep_bcap (s : State) (i : Nat) (x : Bool) : (s.setGkeep i x).bcap = s.bcap := rfl
@[simp] theorem State.setGkeep_vin (s : State) (i : Nat) (x : Bool) : (s.setGkeep i x).vin = s.vin := rfl
@[simp] theorem State.setGkeep_vbat (s : State) (i : Nat) (x : Bool) : (s.setGkeep i x).vbat = s.vbat := rfl
@[simp] theorem State.setGkeep_bbGone (s : State) (i : Nat) (x : Bool) : (s.setGkeep i x).bbGone = s.bbGone := rfl
@[simp] theorem State.setGkeep_hot (s : State) (i : Nat) (x : Bool) : (s.setGkeep i x).hot = s.hot := rfl
@[simp] theorem State.setGkeep_bootDue (s : State) (i : Nat) (x : Bool) : (s.setGkeep i x).bootDue = s.bootDue := rfl

@[simp] theorem State.setGline_glines (s : State) (i : Nat) (x : Option Bool) : (s.setGline i x).glines = Store.put none s.glines i x := rfl
@[simp] theorem State.gline_setGline_same (s : State) (i : Nat) (x : Option Bool) : (s.setGline i x).gline i = x := Store.get_put_same _ _ _ _
theorem State.gline_setGline_ne (s : State) (i j : Nat) (x : Option Bool) (h : j ≠ i) : (s.setGline i x).gline j = s.gline j := Store.get_put_ne _ _ _ h
@[simp] theorem State.setGline_pending (s : State) (i : Nat) (x : Option Bool) : (s.setGline i x).pending = s.pending := rfl
@[simp] theorem State.setGline_free (s : State) (i : Nat) (x : Option Bool) : (s.setGline i x).free = s.free := rfl
@[simp] theorem State.setGline_time (s : State) (i : Nat) (x : Option Bool) : (s.setGline i x).time = s.time := rfl
@[simp] theorem State.setGline_regs (s : State) (i : Nat) (x : Option Bool) : (s.setGline i x).regs = s.regs := rfl
@[simp] theorem State.setGline_rdata (s : State) (i : Nat) (x : Option Bool) : (s.setGline i x).rdata = s.rdata := rfl
@[simp] theorem State.setGline_tports (s : State) (i : Nat) (x : Option Bool) : (s.setGline i x).tports = s.tports := rfl
@[simp] theorem State.setGline_tlines (s : State) (i : Nat) (x : Option Bool) : (s.setGline i x).tlines = s.tlines := rfl
@[simp] theorem State.setGline_ptp (s : State) (i : Nat) (x : Option Bool) : (s.setGline i x).ptp = s.ptp := rfl
@[simp] theorem State.setGline_ptpGo (s : State) (i : Nat) (x : Option Bool) : (s.setGline i x).ptpGo = s.ptpGo := rfl
@[simp] theorem State.setGline_ptpMark (s : State) (i : Nat) (x : Option Bool) : (s.setGline i x).ptpMark = s.ptpMark := rfl
@[simp] theorem State.setGline_calReq (s : State) (i : Nat) (x : Option Bool) : (s.setGline i x).calReq = s.calReq := rfl
@[simp] theorem State.setGline_interval (s : State) (i : Nat) (x : Option Bool) : (s.setGline i x).interval = s.interval := rfl
@[simp] theorem State.setGline_frames (s : State) (i : Nat) (x : Option Bool) : (s.setGline i x).frames = s.frames := rfl
@[simp] theorem State.setGline_spine (s : State) (i : Nat) (x : Option Bool) : (s.setGline i x).spine = s.spine := rfl
@[simp] theorem State.setGline_cells (s : State) (i : Nat) (x : Option Bool) : (s.setGline i x).cells = s.cells := rfl
@[simp] theorem State.setGline_regions (s : State) (i : Nat) (x : Option Bool) : (s.setGline i x).regions = s.regions := rfl
@[simp] theorem State.setGline_clus (s : State) (i : Nat) (x : Option Bool) : (s.setGline i x).clus = s.clus := rfl
@[simp] theorem State.setGline_cfg (s : State) (i : Nat) (x : Option Bool) : (s.setGline i x).cfg = s.cfg := rfl
@[simp] theorem State.setGline_chans (s : State) (i : Nat) (x : Option Bool) : (s.setGline i x).chans = s.chans := rfl
@[simp] theorem State.setGline_aports (s : State) (i : Nat) (x : Option Bool) : (s.setGline i x).aports = s.aports := rfl
@[simp] theorem State.setGline_blines (s : State) (i : Nat) (x : Option Bool) : (s.setGline i x).blines = s.blines := rfl
@[simp] theorem State.setGline_bsrcs (s : State) (i : Nat) (x : Option Bool) : (s.setGline i x).bsrcs = s.bsrcs := rfl
@[simp] theorem State.setGline_bports (s : State) (i : Nat) (x : Option Bool) : (s.setGline i x).bports = s.bports := rfl
@[simp] theorem State.setGline_twins (s : State) (i : Nat) (x : Option Bool) : (s.setGline i x).twins = s.twins := rfl
@[simp] theorem State.setGline_lanes (s : State) (i : Nat) (x : Option Bool) : (s.setGline i x).lanes = s.lanes := rfl
@[simp] theorem State.setGline_flights (s : State) (i : Nat) (x : Option Bool) : (s.setGline i x).flights = s.flights := rfl
@[simp] theorem State.setGline_nextId (s : State) (i : Nat) (x : Option Bool) : (s.setGline i x).nextId = s.nextId := rfl
@[simp] theorem State.setGline_pairs (s : State) (i : Nat) (x : Option Bool) : (s.setGline i x).pairs = s.pairs := rfl
@[simp] theorem State.setGline_codePend (s : State) (i : Nat) (x : Option Bool) : (s.setGline i x).codePend = s.codePend := rfl
@[simp] theorem State.setGline_spareQ (s : State) (i : Nat) (x : Option Bool) : (s.setGline i x).spareQ = s.spareQ := rfl
@[simp] theorem State.setGline_swapWant (s : State) (i : Nat) (x : Option Bool) : (s.setGline i x).swapWant = s.swapWant := rfl
@[simp] theorem State.setGline_bmems (s : State) (i : Nat) (x : Option Bool) : (s.setGline i x).bmems = s.bmems := rfl
@[simp] theorem State.setGline_bbytes (s : State) (i : Nat) (x : Option Bool) : (s.setGline i x).bbytes = s.bbytes := rfl
@[simp] theorem State.setGline_banks (s : State) (i : Nat) (x : Option Bool) : (s.setGline i x).banks = s.banks := rfl
@[simp] theorem State.setGline_swords (s : State) (i : Nat) (x : Option Bool) : (s.setGline i x).swords = s.swords := rfl
@[simp] theorem State.setGline_hops (s : State) (i : Nat) (x : Option Bool) : (s.setGline i x).hops = s.hops := rfl
@[simp] theorem State.setGline_pins (s : State) (i : Nat) (x : Option Bool) : (s.setGline i x).pins = s.pins := rfl
@[simp] theorem State.setGline_spinePrevs (s : State) (i : Nat) (x : Option Bool) : (s.setGline i x).spinePrevs = s.spinePrevs := rfl
@[simp] theorem State.setGline_pads (s : State) (i : Nat) (x : Option Bool) : (s.setGline i x).pads = s.pads := rfl
@[simp] theorem State.setGline_groups (s : State) (i : Nat) (x : Option Bool) : (s.setGline i x).groups = s.groups := rfl
@[simp] theorem State.setGline_links (s : State) (i : Nat) (x : Option Bool) : (s.setGline i x).links = s.links := rfl
@[simp] theorem State.setGline_reasms (s : State) (i : Nat) (x : Option Bool) : (s.setGline i x).reasms = s.reasms := rfl
@[simp] theorem State.setGline_mgmtIn (s : State) (i : Nat) (x : Option Bool) : (s.setGline i x).mgmtIn = s.mgmtIn := rfl
@[simp] theorem State.setGline_lateTags (s : State) (i : Nat) (x : Option Bool) : (s.setGline i x).lateTags = s.lateTags := rfl
@[simp] theorem State.setGline_slices (s : State) (i : Nat) (x : Option Bool) : (s.setGline i x).slices = s.slices := rfl
@[simp] theorem State.setGline_sweep (s : State) (i : Nat) (x : Option Bool) : (s.setGline i x).sweep = s.sweep := rfl
@[simp] theorem State.setGline_asyNews (s : State) (i : Nat) (x : Option Bool) : (s.setGline i x).asyNews = s.asyNews := rfl
@[simp] theorem State.setGline_sliceEnded (s : State) (i : Nat) (x : Option Bool) : (s.setGline i x).sliceEnded = s.sliceEnded := rfl
@[simp] theorem State.setGline_load (s : State) (i : Nat) (x : Option Bool) : (s.setGline i x).load = s.load := rfl
@[simp] theorem State.setGline_flash (s : State) (i : Nat) (x : Option Bool) : (s.setGline i x).flash = s.flash := rfl
@[simp] theorem State.setGline_gold (s : State) (i : Nat) (x : Option Bool) : (s.setGline i x).gold = s.gold := rfl
@[simp] theorem State.setGline_cparks (s : State) (i : Nat) (x : Option Bool) : (s.setGline i x).cparks = s.cparks := rfl
@[simp] theorem State.setGline_crcs (s : State) (i : Nat) (x : Option Bool) : (s.setGline i x).crcs = s.crcs := rfl
@[simp] theorem State.setGline_loadEnded (s : State) (i : Nat) (x : Option Bool) : (s.setGline i x).loadEnded = s.loadEnded := rfl
@[simp] theorem State.setGline_imgHash (s : State) (i : Nat) (x : Option Bool) : (s.setGline i x).imgHash = s.imgHash := rfl
@[simp] theorem State.setGline_rimgs (s : State) (i : Nat) (x : Option Bool) : (s.setGline i x).rimgs = s.rimgs := rfl
@[simp] theorem State.setGline_staged (s : State) (i : Nat) (x : Option Bool) : (s.setGline i x).staged = s.staged := rfl
@[simp] theorem State.setGline_loadAsked (s : State) (i : Nat) (x : Option Bool) : (s.setGline i x).loadAsked = s.loadAsked := rfl
@[simp] theorem State.setGline_toldFaults (s : State) (i : Nat) (x : Option Bool) : (s.setGline i x).toldFaults = s.toldFaults := rfl
@[simp] theorem State.setGline_kslots (s : State) (i : Nat) (x : Option Bool) : (s.setGline i x).kslots = s.kslots := rfl
@[simp] theorem State.setGline_oslots (s : State) (i : Nat) (x : Option Bool) : (s.setGline i x).oslots = s.oslots := rfl
@[simp] theorem State.setGline_kcmd (s : State) (i : Nat) (x : Option Bool) : (s.setGline i x).kcmd = s.kcmd := rfl
@[simp] theorem State.setGline_cutSlots (s : State) (i : Nat) (x : Option Bool) : (s.setGline i x).cutSlots = s.cutSlots := rfl
@[simp] theorem State.setGline_tkrev (s : State) (i : Nat) (x : Option Bool) : (s.setGline i x).tkrev = s.tkrev := rfl
@[simp] theorem State.setGline_fwsvn (s : State) (i : Nat) (x : Option Bool) : (s.setGline i x).fwsvn = s.fwsvn := rfl
@[simp] theorem State.setGline_fw (s : State) (i : Nat) (x : Option Bool) : (s.setGline i x).fw = s.fw := rfl
@[simp] theorem State.setGline_recovery (s : State) (i : Nat) (x : Option Bool) : (s.setGline i x).recovery = s.recovery := rfl
@[simp] theorem State.setGline_reports (s : State) (i : Nat) (x : Option Bool) : (s.setGline i x).reports = s.reports := rfl
@[simp] theorem State.setGline_signed (s : State) (i : Nat) (x : Option Bool) : (s.setGline i x).signed = s.signed := rfl
@[simp] theorem State.setGline_attests (s : State) (i : Nat) (x : Option Bool) : (s.setGline i x).attests = s.attests := rfl
@[simp] theorem State.setGline_uarts (s : State) (i : Nat) (x : Option Bool) : (s.setGline i x).uarts = s.uarts := rfl
@[simp] theorem State.setGline_spi (s : State) (i : Nat) (x : Option Bool) : (s.setGline i x).spi = s.spi := rfl
@[simp] theorem State.setGline_i2cs (s : State) (i : Nat) (x : Option Bool) : (s.setGline i x).i2cs = s.i2cs := rfl
@[simp] theorem State.setGline_cores (s : State) (i : Nat) (x : Option Bool) : (s.setGline i x).cores = s.cores := rfl
@[simp] theorem State.setGline_wdgs (s : State) (i : Nat) (x : Option Bool) : (s.setGline i x).wdgs = s.wdgs := rfl
@[simp] theorem State.setGline_gexts (s : State) (i : Nat) (x : Option Bool) : (s.setGline i x).gexts = s.gexts := rfl
@[simp] theorem State.setGline_gkeeps (s : State) (i : Nat) (x : Option Bool) : (s.setGline i x).gkeeps = s.gkeeps := rfl
@[simp] theorem State.setGline_gheld (s : State) (i : Nat) (x : Option Bool) : (s.setGline i x).gheld = s.gheld := rfl
@[simp] theorem State.setGline_cmpNews (s : State) (i : Nat) (x : Option Bool) : (s.setGline i x).cmpNews = s.cmpNews := rfl
@[simp] theorem State.setGline_ptpNews (s : State) (i : Nat) (x : Option Bool) : (s.setGline i x).ptpNews = s.ptpNews := rfl
@[simp] theorem State.setGline_ptpStamp (s : State) (i : Nat) (x : Option Bool) : (s.setGline i x).ptpStamp = s.ptpStamp := rfl
@[simp] theorem State.setGline_ppsAt (s : State) (i : Nat) (x : Option Bool) : (s.setGline i x).ppsAt = s.ppsAt := rfl
@[simp] theorem State.setGline_mem (s : State) (i : Nat) (x : Option Bool) : (s.setGline i x).mem = s.mem := rfl
@[simp] theorem State.setGline_memEpoch (s : State) (i : Nat) (x : Option Bool) : (s.setGline i x).memEpoch = s.memEpoch := rfl
@[simp] theorem State.setGline_ix (s : State) (i : Nat) (x : Option Bool) : (s.setGline i x).ix = s.ix := rfl
@[simp] theorem State.setGline_ixOut (s : State) (i : Nat) (x : Option Bool) : (s.setGline i x).ixOut = s.ixOut := rfl
@[simp] theorem State.setGline_doms (s : State) (i : Nat) (x : Option Bool) : (s.setGline i x).doms = s.doms := rfl
@[simp] theorem State.setGline_epoch (s : State) (i : Nat) (x : Option Bool) : (s.setGline i x).epoch = s.epoch := rfl
@[simp] theorem State.setGline_ups (s : State) (i : Nat) (x : Option Bool) : (s.setGline i x).ups = s.ups := rfl
@[simp] theorem State.setGline_dns (s : State) (i : Nat) (x : Option Bool) : (s.setGline i x).dns = s.dns := rfl
@[simp] theorem State.setGline_probes (s : State) (i : Nat) (x : Option Bool) : (s.setGline i x).probes = s.probes := rfl
@[simp] theorem State.setGline_tapIr (s : State) (i : Nat) (x : Option Bool) : (s.setGline i x).tapIr = s.tapIr := rfl
@[simp] theorem State.setGline_bscan (s : State) (i : Nat) (x : Option Bool) : (s.setGline i x).bscan = s.bscan := rfl
@[simp] theorem State.setGline_dbgAcc (s : State) (i : Nat) (x : Option Bool) : (s.setGline i x).dbgAcc = s.dbgAcc := rfl
@[simp] theorem State.setGline_dbgStatus (s : State) (i : Nat) (x : Option Bool) : (s.setGline i x).dbgStatus = s.dbgStatus := rfl
@[simp] theorem State.setGline_dbgP (s : State) (i : Nat) (x : Option Bool) : (s.setGline i x).dbgP = s.dbgP := rfl
@[simp] theorem State.setGline_dbgData (s : State) (i : Nat) (x : Option Bool) : (s.setGline i x).dbgData = s.dbgData := rfl
@[simp] theorem State.setGline_bcap (s : State) (i : Nat) (x : Option Bool) : (s.setGline i x).bcap = s.bcap := rfl
@[simp] theorem State.setGline_vin (s : State) (i : Nat) (x : Option Bool) : (s.setGline i x).vin = s.vin := rfl
@[simp] theorem State.setGline_vbat (s : State) (i : Nat) (x : Option Bool) : (s.setGline i x).vbat = s.vbat := rfl
@[simp] theorem State.setGline_bbGone (s : State) (i : Nat) (x : Option Bool) : (s.setGline i x).bbGone = s.bbGone := rfl
@[simp] theorem State.setGline_hot (s : State) (i : Nat) (x : Option Bool) : (s.setGline i x).hot = s.hot := rfl
@[simp] theorem State.setGline_bootDue (s : State) (i : Nat) (x : Option Bool) : (s.setGline i x).bootDue = s.bootDue := rfl

@[simp] theorem State.setMemByte_mem (s : State) (i : Nat) (x : Option Byte) : (s.setMemByte i x).mem = Store.put none s.mem i x := rfl
@[simp] theorem State.memByte_setMemByte_same (s : State) (i : Nat) (x : Option Byte) : (s.setMemByte i x).memByte i = x := Store.get_put_same _ _ _ _
theorem State.memByte_setMemByte_ne (s : State) (i j : Nat) (x : Option Byte) (h : j ≠ i) : (s.setMemByte i x).memByte j = s.memByte j := Store.get_put_ne _ _ _ h
@[simp] theorem State.setMemByte_pending (s : State) (i : Nat) (x : Option Byte) : (s.setMemByte i x).pending = s.pending := rfl
@[simp] theorem State.setMemByte_free (s : State) (i : Nat) (x : Option Byte) : (s.setMemByte i x).free = s.free := rfl
@[simp] theorem State.setMemByte_time (s : State) (i : Nat) (x : Option Byte) : (s.setMemByte i x).time = s.time := rfl
@[simp] theorem State.setMemByte_regs (s : State) (i : Nat) (x : Option Byte) : (s.setMemByte i x).regs = s.regs := rfl
@[simp] theorem State.setMemByte_rdata (s : State) (i : Nat) (x : Option Byte) : (s.setMemByte i x).rdata = s.rdata := rfl
@[simp] theorem State.setMemByte_tports (s : State) (i : Nat) (x : Option Byte) : (s.setMemByte i x).tports = s.tports := rfl
@[simp] theorem State.setMemByte_tlines (s : State) (i : Nat) (x : Option Byte) : (s.setMemByte i x).tlines = s.tlines := rfl
@[simp] theorem State.setMemByte_ptp (s : State) (i : Nat) (x : Option Byte) : (s.setMemByte i x).ptp = s.ptp := rfl
@[simp] theorem State.setMemByte_ptpGo (s : State) (i : Nat) (x : Option Byte) : (s.setMemByte i x).ptpGo = s.ptpGo := rfl
@[simp] theorem State.setMemByte_ptpMark (s : State) (i : Nat) (x : Option Byte) : (s.setMemByte i x).ptpMark = s.ptpMark := rfl
@[simp] theorem State.setMemByte_calReq (s : State) (i : Nat) (x : Option Byte) : (s.setMemByte i x).calReq = s.calReq := rfl
@[simp] theorem State.setMemByte_interval (s : State) (i : Nat) (x : Option Byte) : (s.setMemByte i x).interval = s.interval := rfl
@[simp] theorem State.setMemByte_frames (s : State) (i : Nat) (x : Option Byte) : (s.setMemByte i x).frames = s.frames := rfl
@[simp] theorem State.setMemByte_spine (s : State) (i : Nat) (x : Option Byte) : (s.setMemByte i x).spine = s.spine := rfl
@[simp] theorem State.setMemByte_cells (s : State) (i : Nat) (x : Option Byte) : (s.setMemByte i x).cells = s.cells := rfl
@[simp] theorem State.setMemByte_regions (s : State) (i : Nat) (x : Option Byte) : (s.setMemByte i x).regions = s.regions := rfl
@[simp] theorem State.setMemByte_clus (s : State) (i : Nat) (x : Option Byte) : (s.setMemByte i x).clus = s.clus := rfl
@[simp] theorem State.setMemByte_cfg (s : State) (i : Nat) (x : Option Byte) : (s.setMemByte i x).cfg = s.cfg := rfl
@[simp] theorem State.setMemByte_chans (s : State) (i : Nat) (x : Option Byte) : (s.setMemByte i x).chans = s.chans := rfl
@[simp] theorem State.setMemByte_aports (s : State) (i : Nat) (x : Option Byte) : (s.setMemByte i x).aports = s.aports := rfl
@[simp] theorem State.setMemByte_blines (s : State) (i : Nat) (x : Option Byte) : (s.setMemByte i x).blines = s.blines := rfl
@[simp] theorem State.setMemByte_bsrcs (s : State) (i : Nat) (x : Option Byte) : (s.setMemByte i x).bsrcs = s.bsrcs := rfl
@[simp] theorem State.setMemByte_bports (s : State) (i : Nat) (x : Option Byte) : (s.setMemByte i x).bports = s.bports := rfl
@[simp] theorem State.setMemByte_twins (s : State) (i : Nat) (x : Option Byte) : (s.setMemByte i x).twins = s.twins := rfl
@[simp] theorem State.setMemByte_lanes (s : State) (i : Nat) (x : Option Byte) : (s.setMemByte i x).lanes = s.lanes := rfl
@[simp] theorem State.setMemByte_flights (s : State) (i : Nat) (x : Option Byte) : (s.setMemByte i x).flights = s.flights := rfl
@[simp] theorem State.setMemByte_nextId (s : State) (i : Nat) (x : Option Byte) : (s.setMemByte i x).nextId = s.nextId := rfl
@[simp] theorem State.setMemByte_pairs (s : State) (i : Nat) (x : Option Byte) : (s.setMemByte i x).pairs = s.pairs := rfl
@[simp] theorem State.setMemByte_codePend (s : State) (i : Nat) (x : Option Byte) : (s.setMemByte i x).codePend = s.codePend := rfl
@[simp] theorem State.setMemByte_spareQ (s : State) (i : Nat) (x : Option Byte) : (s.setMemByte i x).spareQ = s.spareQ := rfl
@[simp] theorem State.setMemByte_swapWant (s : State) (i : Nat) (x : Option Byte) : (s.setMemByte i x).swapWant = s.swapWant := rfl
@[simp] theorem State.setMemByte_bmems (s : State) (i : Nat) (x : Option Byte) : (s.setMemByte i x).bmems = s.bmems := rfl
@[simp] theorem State.setMemByte_bbytes (s : State) (i : Nat) (x : Option Byte) : (s.setMemByte i x).bbytes = s.bbytes := rfl
@[simp] theorem State.setMemByte_banks (s : State) (i : Nat) (x : Option Byte) : (s.setMemByte i x).banks = s.banks := rfl
@[simp] theorem State.setMemByte_swords (s : State) (i : Nat) (x : Option Byte) : (s.setMemByte i x).swords = s.swords := rfl
@[simp] theorem State.setMemByte_hops (s : State) (i : Nat) (x : Option Byte) : (s.setMemByte i x).hops = s.hops := rfl
@[simp] theorem State.setMemByte_pins (s : State) (i : Nat) (x : Option Byte) : (s.setMemByte i x).pins = s.pins := rfl
@[simp] theorem State.setMemByte_spinePrevs (s : State) (i : Nat) (x : Option Byte) : (s.setMemByte i x).spinePrevs = s.spinePrevs := rfl
@[simp] theorem State.setMemByte_pads (s : State) (i : Nat) (x : Option Byte) : (s.setMemByte i x).pads = s.pads := rfl
@[simp] theorem State.setMemByte_groups (s : State) (i : Nat) (x : Option Byte) : (s.setMemByte i x).groups = s.groups := rfl
@[simp] theorem State.setMemByte_links (s : State) (i : Nat) (x : Option Byte) : (s.setMemByte i x).links = s.links := rfl
@[simp] theorem State.setMemByte_reasms (s : State) (i : Nat) (x : Option Byte) : (s.setMemByte i x).reasms = s.reasms := rfl
@[simp] theorem State.setMemByte_mgmtIn (s : State) (i : Nat) (x : Option Byte) : (s.setMemByte i x).mgmtIn = s.mgmtIn := rfl
@[simp] theorem State.setMemByte_lateTags (s : State) (i : Nat) (x : Option Byte) : (s.setMemByte i x).lateTags = s.lateTags := rfl
@[simp] theorem State.setMemByte_slices (s : State) (i : Nat) (x : Option Byte) : (s.setMemByte i x).slices = s.slices := rfl
@[simp] theorem State.setMemByte_sweep (s : State) (i : Nat) (x : Option Byte) : (s.setMemByte i x).sweep = s.sweep := rfl
@[simp] theorem State.setMemByte_asyNews (s : State) (i : Nat) (x : Option Byte) : (s.setMemByte i x).asyNews = s.asyNews := rfl
@[simp] theorem State.setMemByte_sliceEnded (s : State) (i : Nat) (x : Option Byte) : (s.setMemByte i x).sliceEnded = s.sliceEnded := rfl
@[simp] theorem State.setMemByte_load (s : State) (i : Nat) (x : Option Byte) : (s.setMemByte i x).load = s.load := rfl
@[simp] theorem State.setMemByte_flash (s : State) (i : Nat) (x : Option Byte) : (s.setMemByte i x).flash = s.flash := rfl
@[simp] theorem State.setMemByte_gold (s : State) (i : Nat) (x : Option Byte) : (s.setMemByte i x).gold = s.gold := rfl
@[simp] theorem State.setMemByte_cparks (s : State) (i : Nat) (x : Option Byte) : (s.setMemByte i x).cparks = s.cparks := rfl
@[simp] theorem State.setMemByte_crcs (s : State) (i : Nat) (x : Option Byte) : (s.setMemByte i x).crcs = s.crcs := rfl
@[simp] theorem State.setMemByte_loadEnded (s : State) (i : Nat) (x : Option Byte) : (s.setMemByte i x).loadEnded = s.loadEnded := rfl
@[simp] theorem State.setMemByte_imgHash (s : State) (i : Nat) (x : Option Byte) : (s.setMemByte i x).imgHash = s.imgHash := rfl
@[simp] theorem State.setMemByte_rimgs (s : State) (i : Nat) (x : Option Byte) : (s.setMemByte i x).rimgs = s.rimgs := rfl
@[simp] theorem State.setMemByte_staged (s : State) (i : Nat) (x : Option Byte) : (s.setMemByte i x).staged = s.staged := rfl
@[simp] theorem State.setMemByte_loadAsked (s : State) (i : Nat) (x : Option Byte) : (s.setMemByte i x).loadAsked = s.loadAsked := rfl
@[simp] theorem State.setMemByte_toldFaults (s : State) (i : Nat) (x : Option Byte) : (s.setMemByte i x).toldFaults = s.toldFaults := rfl
@[simp] theorem State.setMemByte_kslots (s : State) (i : Nat) (x : Option Byte) : (s.setMemByte i x).kslots = s.kslots := rfl
@[simp] theorem State.setMemByte_oslots (s : State) (i : Nat) (x : Option Byte) : (s.setMemByte i x).oslots = s.oslots := rfl
@[simp] theorem State.setMemByte_kcmd (s : State) (i : Nat) (x : Option Byte) : (s.setMemByte i x).kcmd = s.kcmd := rfl
@[simp] theorem State.setMemByte_cutSlots (s : State) (i : Nat) (x : Option Byte) : (s.setMemByte i x).cutSlots = s.cutSlots := rfl
@[simp] theorem State.setMemByte_tkrev (s : State) (i : Nat) (x : Option Byte) : (s.setMemByte i x).tkrev = s.tkrev := rfl
@[simp] theorem State.setMemByte_fwsvn (s : State) (i : Nat) (x : Option Byte) : (s.setMemByte i x).fwsvn = s.fwsvn := rfl
@[simp] theorem State.setMemByte_fw (s : State) (i : Nat) (x : Option Byte) : (s.setMemByte i x).fw = s.fw := rfl
@[simp] theorem State.setMemByte_recovery (s : State) (i : Nat) (x : Option Byte) : (s.setMemByte i x).recovery = s.recovery := rfl
@[simp] theorem State.setMemByte_reports (s : State) (i : Nat) (x : Option Byte) : (s.setMemByte i x).reports = s.reports := rfl
@[simp] theorem State.setMemByte_signed (s : State) (i : Nat) (x : Option Byte) : (s.setMemByte i x).signed = s.signed := rfl
@[simp] theorem State.setMemByte_attests (s : State) (i : Nat) (x : Option Byte) : (s.setMemByte i x).attests = s.attests := rfl
@[simp] theorem State.setMemByte_uarts (s : State) (i : Nat) (x : Option Byte) : (s.setMemByte i x).uarts = s.uarts := rfl
@[simp] theorem State.setMemByte_spi (s : State) (i : Nat) (x : Option Byte) : (s.setMemByte i x).spi = s.spi := rfl
@[simp] theorem State.setMemByte_i2cs (s : State) (i : Nat) (x : Option Byte) : (s.setMemByte i x).i2cs = s.i2cs := rfl
@[simp] theorem State.setMemByte_cores (s : State) (i : Nat) (x : Option Byte) : (s.setMemByte i x).cores = s.cores := rfl
@[simp] theorem State.setMemByte_wdgs (s : State) (i : Nat) (x : Option Byte) : (s.setMemByte i x).wdgs = s.wdgs := rfl
@[simp] theorem State.setMemByte_gexts (s : State) (i : Nat) (x : Option Byte) : (s.setMemByte i x).gexts = s.gexts := rfl
@[simp] theorem State.setMemByte_gkeeps (s : State) (i : Nat) (x : Option Byte) : (s.setMemByte i x).gkeeps = s.gkeeps := rfl
@[simp] theorem State.setMemByte_glines (s : State) (i : Nat) (x : Option Byte) : (s.setMemByte i x).glines = s.glines := rfl
@[simp] theorem State.setMemByte_gheld (s : State) (i : Nat) (x : Option Byte) : (s.setMemByte i x).gheld = s.gheld := rfl
@[simp] theorem State.setMemByte_cmpNews (s : State) (i : Nat) (x : Option Byte) : (s.setMemByte i x).cmpNews = s.cmpNews := rfl
@[simp] theorem State.setMemByte_ptpNews (s : State) (i : Nat) (x : Option Byte) : (s.setMemByte i x).ptpNews = s.ptpNews := rfl
@[simp] theorem State.setMemByte_ptpStamp (s : State) (i : Nat) (x : Option Byte) : (s.setMemByte i x).ptpStamp = s.ptpStamp := rfl
@[simp] theorem State.setMemByte_ppsAt (s : State) (i : Nat) (x : Option Byte) : (s.setMemByte i x).ppsAt = s.ppsAt := rfl
@[simp] theorem State.setMemByte_memEpoch (s : State) (i : Nat) (x : Option Byte) : (s.setMemByte i x).memEpoch = s.memEpoch := rfl
@[simp] theorem State.setMemByte_ix (s : State) (i : Nat) (x : Option Byte) : (s.setMemByte i x).ix = s.ix := rfl
@[simp] theorem State.setMemByte_ixOut (s : State) (i : Nat) (x : Option Byte) : (s.setMemByte i x).ixOut = s.ixOut := rfl
@[simp] theorem State.setMemByte_doms (s : State) (i : Nat) (x : Option Byte) : (s.setMemByte i x).doms = s.doms := rfl
@[simp] theorem State.setMemByte_epoch (s : State) (i : Nat) (x : Option Byte) : (s.setMemByte i x).epoch = s.epoch := rfl
@[simp] theorem State.setMemByte_ups (s : State) (i : Nat) (x : Option Byte) : (s.setMemByte i x).ups = s.ups := rfl
@[simp] theorem State.setMemByte_dns (s : State) (i : Nat) (x : Option Byte) : (s.setMemByte i x).dns = s.dns := rfl
@[simp] theorem State.setMemByte_probes (s : State) (i : Nat) (x : Option Byte) : (s.setMemByte i x).probes = s.probes := rfl
@[simp] theorem State.setMemByte_tapIr (s : State) (i : Nat) (x : Option Byte) : (s.setMemByte i x).tapIr = s.tapIr := rfl
@[simp] theorem State.setMemByte_bscan (s : State) (i : Nat) (x : Option Byte) : (s.setMemByte i x).bscan = s.bscan := rfl
@[simp] theorem State.setMemByte_dbgAcc (s : State) (i : Nat) (x : Option Byte) : (s.setMemByte i x).dbgAcc = s.dbgAcc := rfl
@[simp] theorem State.setMemByte_dbgStatus (s : State) (i : Nat) (x : Option Byte) : (s.setMemByte i x).dbgStatus = s.dbgStatus := rfl
@[simp] theorem State.setMemByte_dbgP (s : State) (i : Nat) (x : Option Byte) : (s.setMemByte i x).dbgP = s.dbgP := rfl
@[simp] theorem State.setMemByte_dbgData (s : State) (i : Nat) (x : Option Byte) : (s.setMemByte i x).dbgData = s.dbgData := rfl
@[simp] theorem State.setMemByte_bcap (s : State) (i : Nat) (x : Option Byte) : (s.setMemByte i x).bcap = s.bcap := rfl
@[simp] theorem State.setMemByte_vin (s : State) (i : Nat) (x : Option Byte) : (s.setMemByte i x).vin = s.vin := rfl
@[simp] theorem State.setMemByte_vbat (s : State) (i : Nat) (x : Option Byte) : (s.setMemByte i x).vbat = s.vbat := rfl
@[simp] theorem State.setMemByte_bbGone (s : State) (i : Nat) (x : Option Byte) : (s.setMemByte i x).bbGone = s.bbGone := rfl
@[simp] theorem State.setMemByte_hot (s : State) (i : Nat) (x : Option Byte) : (s.setMemByte i x).hot = s.hot := rfl
@[simp] theorem State.setMemByte_bootDue (s : State) (i : Nat) (x : Option Byte) : (s.setMemByte i x).bootDue = s.bootDue := rfl

@[simp] theorem State.setDomSt_doms (s : State) (i : Nat) (x : DomSt) : (s.setDomSt i x).doms = Store.put {} s.doms i x := rfl
@[simp] theorem State.domSt_setDomSt_same (s : State) (i : Nat) (x : DomSt) : (s.setDomSt i x).domSt i = x := Store.get_put_same _ _ _ _
theorem State.domSt_setDomSt_ne (s : State) (i j : Nat) (x : DomSt) (h : j ≠ i) : (s.setDomSt i x).domSt j = s.domSt j := Store.get_put_ne _ _ _ h
@[simp] theorem State.setDomSt_pending (s : State) (i : Nat) (x : DomSt) : (s.setDomSt i x).pending = s.pending := rfl
@[simp] theorem State.setDomSt_free (s : State) (i : Nat) (x : DomSt) : (s.setDomSt i x).free = s.free := rfl
@[simp] theorem State.setDomSt_time (s : State) (i : Nat) (x : DomSt) : (s.setDomSt i x).time = s.time := rfl
@[simp] theorem State.setDomSt_regs (s : State) (i : Nat) (x : DomSt) : (s.setDomSt i x).regs = s.regs := rfl
@[simp] theorem State.setDomSt_rdata (s : State) (i : Nat) (x : DomSt) : (s.setDomSt i x).rdata = s.rdata := rfl
@[simp] theorem State.setDomSt_tports (s : State) (i : Nat) (x : DomSt) : (s.setDomSt i x).tports = s.tports := rfl
@[simp] theorem State.setDomSt_tlines (s : State) (i : Nat) (x : DomSt) : (s.setDomSt i x).tlines = s.tlines := rfl
@[simp] theorem State.setDomSt_ptp (s : State) (i : Nat) (x : DomSt) : (s.setDomSt i x).ptp = s.ptp := rfl
@[simp] theorem State.setDomSt_ptpGo (s : State) (i : Nat) (x : DomSt) : (s.setDomSt i x).ptpGo = s.ptpGo := rfl
@[simp] theorem State.setDomSt_ptpMark (s : State) (i : Nat) (x : DomSt) : (s.setDomSt i x).ptpMark = s.ptpMark := rfl
@[simp] theorem State.setDomSt_calReq (s : State) (i : Nat) (x : DomSt) : (s.setDomSt i x).calReq = s.calReq := rfl
@[simp] theorem State.setDomSt_interval (s : State) (i : Nat) (x : DomSt) : (s.setDomSt i x).interval = s.interval := rfl
@[simp] theorem State.setDomSt_frames (s : State) (i : Nat) (x : DomSt) : (s.setDomSt i x).frames = s.frames := rfl
@[simp] theorem State.setDomSt_spine (s : State) (i : Nat) (x : DomSt) : (s.setDomSt i x).spine = s.spine := rfl
@[simp] theorem State.setDomSt_cells (s : State) (i : Nat) (x : DomSt) : (s.setDomSt i x).cells = s.cells := rfl
@[simp] theorem State.setDomSt_regions (s : State) (i : Nat) (x : DomSt) : (s.setDomSt i x).regions = s.regions := rfl
@[simp] theorem State.setDomSt_clus (s : State) (i : Nat) (x : DomSt) : (s.setDomSt i x).clus = s.clus := rfl
@[simp] theorem State.setDomSt_cfg (s : State) (i : Nat) (x : DomSt) : (s.setDomSt i x).cfg = s.cfg := rfl
@[simp] theorem State.setDomSt_chans (s : State) (i : Nat) (x : DomSt) : (s.setDomSt i x).chans = s.chans := rfl
@[simp] theorem State.setDomSt_aports (s : State) (i : Nat) (x : DomSt) : (s.setDomSt i x).aports = s.aports := rfl
@[simp] theorem State.setDomSt_blines (s : State) (i : Nat) (x : DomSt) : (s.setDomSt i x).blines = s.blines := rfl
@[simp] theorem State.setDomSt_bsrcs (s : State) (i : Nat) (x : DomSt) : (s.setDomSt i x).bsrcs = s.bsrcs := rfl
@[simp] theorem State.setDomSt_bports (s : State) (i : Nat) (x : DomSt) : (s.setDomSt i x).bports = s.bports := rfl
@[simp] theorem State.setDomSt_twins (s : State) (i : Nat) (x : DomSt) : (s.setDomSt i x).twins = s.twins := rfl
@[simp] theorem State.setDomSt_lanes (s : State) (i : Nat) (x : DomSt) : (s.setDomSt i x).lanes = s.lanes := rfl
@[simp] theorem State.setDomSt_flights (s : State) (i : Nat) (x : DomSt) : (s.setDomSt i x).flights = s.flights := rfl
@[simp] theorem State.setDomSt_nextId (s : State) (i : Nat) (x : DomSt) : (s.setDomSt i x).nextId = s.nextId := rfl
@[simp] theorem State.setDomSt_pairs (s : State) (i : Nat) (x : DomSt) : (s.setDomSt i x).pairs = s.pairs := rfl
@[simp] theorem State.setDomSt_codePend (s : State) (i : Nat) (x : DomSt) : (s.setDomSt i x).codePend = s.codePend := rfl
@[simp] theorem State.setDomSt_spareQ (s : State) (i : Nat) (x : DomSt) : (s.setDomSt i x).spareQ = s.spareQ := rfl
@[simp] theorem State.setDomSt_swapWant (s : State) (i : Nat) (x : DomSt) : (s.setDomSt i x).swapWant = s.swapWant := rfl
@[simp] theorem State.setDomSt_bmems (s : State) (i : Nat) (x : DomSt) : (s.setDomSt i x).bmems = s.bmems := rfl
@[simp] theorem State.setDomSt_bbytes (s : State) (i : Nat) (x : DomSt) : (s.setDomSt i x).bbytes = s.bbytes := rfl
@[simp] theorem State.setDomSt_banks (s : State) (i : Nat) (x : DomSt) : (s.setDomSt i x).banks = s.banks := rfl
@[simp] theorem State.setDomSt_swords (s : State) (i : Nat) (x : DomSt) : (s.setDomSt i x).swords = s.swords := rfl
@[simp] theorem State.setDomSt_hops (s : State) (i : Nat) (x : DomSt) : (s.setDomSt i x).hops = s.hops := rfl
@[simp] theorem State.setDomSt_pins (s : State) (i : Nat) (x : DomSt) : (s.setDomSt i x).pins = s.pins := rfl
@[simp] theorem State.setDomSt_spinePrevs (s : State) (i : Nat) (x : DomSt) : (s.setDomSt i x).spinePrevs = s.spinePrevs := rfl
@[simp] theorem State.setDomSt_pads (s : State) (i : Nat) (x : DomSt) : (s.setDomSt i x).pads = s.pads := rfl
@[simp] theorem State.setDomSt_groups (s : State) (i : Nat) (x : DomSt) : (s.setDomSt i x).groups = s.groups := rfl
@[simp] theorem State.setDomSt_links (s : State) (i : Nat) (x : DomSt) : (s.setDomSt i x).links = s.links := rfl
@[simp] theorem State.setDomSt_reasms (s : State) (i : Nat) (x : DomSt) : (s.setDomSt i x).reasms = s.reasms := rfl
@[simp] theorem State.setDomSt_mgmtIn (s : State) (i : Nat) (x : DomSt) : (s.setDomSt i x).mgmtIn = s.mgmtIn := rfl
@[simp] theorem State.setDomSt_lateTags (s : State) (i : Nat) (x : DomSt) : (s.setDomSt i x).lateTags = s.lateTags := rfl
@[simp] theorem State.setDomSt_slices (s : State) (i : Nat) (x : DomSt) : (s.setDomSt i x).slices = s.slices := rfl
@[simp] theorem State.setDomSt_sweep (s : State) (i : Nat) (x : DomSt) : (s.setDomSt i x).sweep = s.sweep := rfl
@[simp] theorem State.setDomSt_asyNews (s : State) (i : Nat) (x : DomSt) : (s.setDomSt i x).asyNews = s.asyNews := rfl
@[simp] theorem State.setDomSt_sliceEnded (s : State) (i : Nat) (x : DomSt) : (s.setDomSt i x).sliceEnded = s.sliceEnded := rfl
@[simp] theorem State.setDomSt_load (s : State) (i : Nat) (x : DomSt) : (s.setDomSt i x).load = s.load := rfl
@[simp] theorem State.setDomSt_flash (s : State) (i : Nat) (x : DomSt) : (s.setDomSt i x).flash = s.flash := rfl
@[simp] theorem State.setDomSt_gold (s : State) (i : Nat) (x : DomSt) : (s.setDomSt i x).gold = s.gold := rfl
@[simp] theorem State.setDomSt_cparks (s : State) (i : Nat) (x : DomSt) : (s.setDomSt i x).cparks = s.cparks := rfl
@[simp] theorem State.setDomSt_crcs (s : State) (i : Nat) (x : DomSt) : (s.setDomSt i x).crcs = s.crcs := rfl
@[simp] theorem State.setDomSt_loadEnded (s : State) (i : Nat) (x : DomSt) : (s.setDomSt i x).loadEnded = s.loadEnded := rfl
@[simp] theorem State.setDomSt_imgHash (s : State) (i : Nat) (x : DomSt) : (s.setDomSt i x).imgHash = s.imgHash := rfl
@[simp] theorem State.setDomSt_rimgs (s : State) (i : Nat) (x : DomSt) : (s.setDomSt i x).rimgs = s.rimgs := rfl
@[simp] theorem State.setDomSt_staged (s : State) (i : Nat) (x : DomSt) : (s.setDomSt i x).staged = s.staged := rfl
@[simp] theorem State.setDomSt_loadAsked (s : State) (i : Nat) (x : DomSt) : (s.setDomSt i x).loadAsked = s.loadAsked := rfl
@[simp] theorem State.setDomSt_toldFaults (s : State) (i : Nat) (x : DomSt) : (s.setDomSt i x).toldFaults = s.toldFaults := rfl
@[simp] theorem State.setDomSt_kslots (s : State) (i : Nat) (x : DomSt) : (s.setDomSt i x).kslots = s.kslots := rfl
@[simp] theorem State.setDomSt_oslots (s : State) (i : Nat) (x : DomSt) : (s.setDomSt i x).oslots = s.oslots := rfl
@[simp] theorem State.setDomSt_kcmd (s : State) (i : Nat) (x : DomSt) : (s.setDomSt i x).kcmd = s.kcmd := rfl
@[simp] theorem State.setDomSt_cutSlots (s : State) (i : Nat) (x : DomSt) : (s.setDomSt i x).cutSlots = s.cutSlots := rfl
@[simp] theorem State.setDomSt_tkrev (s : State) (i : Nat) (x : DomSt) : (s.setDomSt i x).tkrev = s.tkrev := rfl
@[simp] theorem State.setDomSt_fwsvn (s : State) (i : Nat) (x : DomSt) : (s.setDomSt i x).fwsvn = s.fwsvn := rfl
@[simp] theorem State.setDomSt_fw (s : State) (i : Nat) (x : DomSt) : (s.setDomSt i x).fw = s.fw := rfl
@[simp] theorem State.setDomSt_recovery (s : State) (i : Nat) (x : DomSt) : (s.setDomSt i x).recovery = s.recovery := rfl
@[simp] theorem State.setDomSt_reports (s : State) (i : Nat) (x : DomSt) : (s.setDomSt i x).reports = s.reports := rfl
@[simp] theorem State.setDomSt_signed (s : State) (i : Nat) (x : DomSt) : (s.setDomSt i x).signed = s.signed := rfl
@[simp] theorem State.setDomSt_attests (s : State) (i : Nat) (x : DomSt) : (s.setDomSt i x).attests = s.attests := rfl
@[simp] theorem State.setDomSt_uarts (s : State) (i : Nat) (x : DomSt) : (s.setDomSt i x).uarts = s.uarts := rfl
@[simp] theorem State.setDomSt_spi (s : State) (i : Nat) (x : DomSt) : (s.setDomSt i x).spi = s.spi := rfl
@[simp] theorem State.setDomSt_i2cs (s : State) (i : Nat) (x : DomSt) : (s.setDomSt i x).i2cs = s.i2cs := rfl
@[simp] theorem State.setDomSt_cores (s : State) (i : Nat) (x : DomSt) : (s.setDomSt i x).cores = s.cores := rfl
@[simp] theorem State.setDomSt_wdgs (s : State) (i : Nat) (x : DomSt) : (s.setDomSt i x).wdgs = s.wdgs := rfl
@[simp] theorem State.setDomSt_gexts (s : State) (i : Nat) (x : DomSt) : (s.setDomSt i x).gexts = s.gexts := rfl
@[simp] theorem State.setDomSt_gkeeps (s : State) (i : Nat) (x : DomSt) : (s.setDomSt i x).gkeeps = s.gkeeps := rfl
@[simp] theorem State.setDomSt_glines (s : State) (i : Nat) (x : DomSt) : (s.setDomSt i x).glines = s.glines := rfl
@[simp] theorem State.setDomSt_gheld (s : State) (i : Nat) (x : DomSt) : (s.setDomSt i x).gheld = s.gheld := rfl
@[simp] theorem State.setDomSt_cmpNews (s : State) (i : Nat) (x : DomSt) : (s.setDomSt i x).cmpNews = s.cmpNews := rfl
@[simp] theorem State.setDomSt_ptpNews (s : State) (i : Nat) (x : DomSt) : (s.setDomSt i x).ptpNews = s.ptpNews := rfl
@[simp] theorem State.setDomSt_ptpStamp (s : State) (i : Nat) (x : DomSt) : (s.setDomSt i x).ptpStamp = s.ptpStamp := rfl
@[simp] theorem State.setDomSt_ppsAt (s : State) (i : Nat) (x : DomSt) : (s.setDomSt i x).ppsAt = s.ppsAt := rfl
@[simp] theorem State.setDomSt_mem (s : State) (i : Nat) (x : DomSt) : (s.setDomSt i x).mem = s.mem := rfl
@[simp] theorem State.setDomSt_memEpoch (s : State) (i : Nat) (x : DomSt) : (s.setDomSt i x).memEpoch = s.memEpoch := rfl
@[simp] theorem State.setDomSt_ix (s : State) (i : Nat) (x : DomSt) : (s.setDomSt i x).ix = s.ix := rfl
@[simp] theorem State.setDomSt_ixOut (s : State) (i : Nat) (x : DomSt) : (s.setDomSt i x).ixOut = s.ixOut := rfl
@[simp] theorem State.setDomSt_epoch (s : State) (i : Nat) (x : DomSt) : (s.setDomSt i x).epoch = s.epoch := rfl
@[simp] theorem State.setDomSt_ups (s : State) (i : Nat) (x : DomSt) : (s.setDomSt i x).ups = s.ups := rfl
@[simp] theorem State.setDomSt_dns (s : State) (i : Nat) (x : DomSt) : (s.setDomSt i x).dns = s.dns := rfl
@[simp] theorem State.setDomSt_probes (s : State) (i : Nat) (x : DomSt) : (s.setDomSt i x).probes = s.probes := rfl
@[simp] theorem State.setDomSt_tapIr (s : State) (i : Nat) (x : DomSt) : (s.setDomSt i x).tapIr = s.tapIr := rfl
@[simp] theorem State.setDomSt_bscan (s : State) (i : Nat) (x : DomSt) : (s.setDomSt i x).bscan = s.bscan := rfl
@[simp] theorem State.setDomSt_dbgAcc (s : State) (i : Nat) (x : DomSt) : (s.setDomSt i x).dbgAcc = s.dbgAcc := rfl
@[simp] theorem State.setDomSt_dbgStatus (s : State) (i : Nat) (x : DomSt) : (s.setDomSt i x).dbgStatus = s.dbgStatus := rfl
@[simp] theorem State.setDomSt_dbgP (s : State) (i : Nat) (x : DomSt) : (s.setDomSt i x).dbgP = s.dbgP := rfl
@[simp] theorem State.setDomSt_dbgData (s : State) (i : Nat) (x : DomSt) : (s.setDomSt i x).dbgData = s.dbgData := rfl
@[simp] theorem State.setDomSt_bcap (s : State) (i : Nat) (x : DomSt) : (s.setDomSt i x).bcap = s.bcap := rfl
@[simp] theorem State.setDomSt_vin (s : State) (i : Nat) (x : DomSt) : (s.setDomSt i x).vin = s.vin := rfl
@[simp] theorem State.setDomSt_vbat (s : State) (i : Nat) (x : DomSt) : (s.setDomSt i x).vbat = s.vbat := rfl
@[simp] theorem State.setDomSt_bbGone (s : State) (i : Nat) (x : DomSt) : (s.setDomSt i x).bbGone = s.bbGone := rfl
@[simp] theorem State.setDomSt_hot (s : State) (i : Nat) (x : DomSt) : (s.setDomSt i x).hot = s.hot := rfl
@[simp] theorem State.setDomSt_bootDue (s : State) (i : Nat) (x : DomSt) : (s.setDomSt i x).bootDue = s.bootDue := rfl

@[simp] theorem State.setUpf_ups (s : State) (i : Nat) (x : Ferry) : (s.setUpf i x).ups = Store.put {} s.ups i x := rfl
@[simp] theorem State.upf_setUpf_same (s : State) (i : Nat) (x : Ferry) : (s.setUpf i x).upf i = x := Store.get_put_same _ _ _ _
theorem State.upf_setUpf_ne (s : State) (i j : Nat) (x : Ferry) (h : j ≠ i) : (s.setUpf i x).upf j = s.upf j := Store.get_put_ne _ _ _ h
@[simp] theorem State.setUpf_pending (s : State) (i : Nat) (x : Ferry) : (s.setUpf i x).pending = s.pending := rfl
@[simp] theorem State.setUpf_free (s : State) (i : Nat) (x : Ferry) : (s.setUpf i x).free = s.free := rfl
@[simp] theorem State.setUpf_time (s : State) (i : Nat) (x : Ferry) : (s.setUpf i x).time = s.time := rfl
@[simp] theorem State.setUpf_regs (s : State) (i : Nat) (x : Ferry) : (s.setUpf i x).regs = s.regs := rfl
@[simp] theorem State.setUpf_rdata (s : State) (i : Nat) (x : Ferry) : (s.setUpf i x).rdata = s.rdata := rfl
@[simp] theorem State.setUpf_tports (s : State) (i : Nat) (x : Ferry) : (s.setUpf i x).tports = s.tports := rfl
@[simp] theorem State.setUpf_tlines (s : State) (i : Nat) (x : Ferry) : (s.setUpf i x).tlines = s.tlines := rfl
@[simp] theorem State.setUpf_ptp (s : State) (i : Nat) (x : Ferry) : (s.setUpf i x).ptp = s.ptp := rfl
@[simp] theorem State.setUpf_ptpGo (s : State) (i : Nat) (x : Ferry) : (s.setUpf i x).ptpGo = s.ptpGo := rfl
@[simp] theorem State.setUpf_ptpMark (s : State) (i : Nat) (x : Ferry) : (s.setUpf i x).ptpMark = s.ptpMark := rfl
@[simp] theorem State.setUpf_calReq (s : State) (i : Nat) (x : Ferry) : (s.setUpf i x).calReq = s.calReq := rfl
@[simp] theorem State.setUpf_interval (s : State) (i : Nat) (x : Ferry) : (s.setUpf i x).interval = s.interval := rfl
@[simp] theorem State.setUpf_frames (s : State) (i : Nat) (x : Ferry) : (s.setUpf i x).frames = s.frames := rfl
@[simp] theorem State.setUpf_spine (s : State) (i : Nat) (x : Ferry) : (s.setUpf i x).spine = s.spine := rfl
@[simp] theorem State.setUpf_cells (s : State) (i : Nat) (x : Ferry) : (s.setUpf i x).cells = s.cells := rfl
@[simp] theorem State.setUpf_regions (s : State) (i : Nat) (x : Ferry) : (s.setUpf i x).regions = s.regions := rfl
@[simp] theorem State.setUpf_clus (s : State) (i : Nat) (x : Ferry) : (s.setUpf i x).clus = s.clus := rfl
@[simp] theorem State.setUpf_cfg (s : State) (i : Nat) (x : Ferry) : (s.setUpf i x).cfg = s.cfg := rfl
@[simp] theorem State.setUpf_chans (s : State) (i : Nat) (x : Ferry) : (s.setUpf i x).chans = s.chans := rfl
@[simp] theorem State.setUpf_aports (s : State) (i : Nat) (x : Ferry) : (s.setUpf i x).aports = s.aports := rfl
@[simp] theorem State.setUpf_blines (s : State) (i : Nat) (x : Ferry) : (s.setUpf i x).blines = s.blines := rfl
@[simp] theorem State.setUpf_bsrcs (s : State) (i : Nat) (x : Ferry) : (s.setUpf i x).bsrcs = s.bsrcs := rfl
@[simp] theorem State.setUpf_bports (s : State) (i : Nat) (x : Ferry) : (s.setUpf i x).bports = s.bports := rfl
@[simp] theorem State.setUpf_twins (s : State) (i : Nat) (x : Ferry) : (s.setUpf i x).twins = s.twins := rfl
@[simp] theorem State.setUpf_lanes (s : State) (i : Nat) (x : Ferry) : (s.setUpf i x).lanes = s.lanes := rfl
@[simp] theorem State.setUpf_flights (s : State) (i : Nat) (x : Ferry) : (s.setUpf i x).flights = s.flights := rfl
@[simp] theorem State.setUpf_nextId (s : State) (i : Nat) (x : Ferry) : (s.setUpf i x).nextId = s.nextId := rfl
@[simp] theorem State.setUpf_pairs (s : State) (i : Nat) (x : Ferry) : (s.setUpf i x).pairs = s.pairs := rfl
@[simp] theorem State.setUpf_codePend (s : State) (i : Nat) (x : Ferry) : (s.setUpf i x).codePend = s.codePend := rfl
@[simp] theorem State.setUpf_spareQ (s : State) (i : Nat) (x : Ferry) : (s.setUpf i x).spareQ = s.spareQ := rfl
@[simp] theorem State.setUpf_swapWant (s : State) (i : Nat) (x : Ferry) : (s.setUpf i x).swapWant = s.swapWant := rfl
@[simp] theorem State.setUpf_bmems (s : State) (i : Nat) (x : Ferry) : (s.setUpf i x).bmems = s.bmems := rfl
@[simp] theorem State.setUpf_bbytes (s : State) (i : Nat) (x : Ferry) : (s.setUpf i x).bbytes = s.bbytes := rfl
@[simp] theorem State.setUpf_banks (s : State) (i : Nat) (x : Ferry) : (s.setUpf i x).banks = s.banks := rfl
@[simp] theorem State.setUpf_swords (s : State) (i : Nat) (x : Ferry) : (s.setUpf i x).swords = s.swords := rfl
@[simp] theorem State.setUpf_hops (s : State) (i : Nat) (x : Ferry) : (s.setUpf i x).hops = s.hops := rfl
@[simp] theorem State.setUpf_pins (s : State) (i : Nat) (x : Ferry) : (s.setUpf i x).pins = s.pins := rfl
@[simp] theorem State.setUpf_spinePrevs (s : State) (i : Nat) (x : Ferry) : (s.setUpf i x).spinePrevs = s.spinePrevs := rfl
@[simp] theorem State.setUpf_pads (s : State) (i : Nat) (x : Ferry) : (s.setUpf i x).pads = s.pads := rfl
@[simp] theorem State.setUpf_groups (s : State) (i : Nat) (x : Ferry) : (s.setUpf i x).groups = s.groups := rfl
@[simp] theorem State.setUpf_links (s : State) (i : Nat) (x : Ferry) : (s.setUpf i x).links = s.links := rfl
@[simp] theorem State.setUpf_reasms (s : State) (i : Nat) (x : Ferry) : (s.setUpf i x).reasms = s.reasms := rfl
@[simp] theorem State.setUpf_mgmtIn (s : State) (i : Nat) (x : Ferry) : (s.setUpf i x).mgmtIn = s.mgmtIn := rfl
@[simp] theorem State.setUpf_lateTags (s : State) (i : Nat) (x : Ferry) : (s.setUpf i x).lateTags = s.lateTags := rfl
@[simp] theorem State.setUpf_slices (s : State) (i : Nat) (x : Ferry) : (s.setUpf i x).slices = s.slices := rfl
@[simp] theorem State.setUpf_sweep (s : State) (i : Nat) (x : Ferry) : (s.setUpf i x).sweep = s.sweep := rfl
@[simp] theorem State.setUpf_asyNews (s : State) (i : Nat) (x : Ferry) : (s.setUpf i x).asyNews = s.asyNews := rfl
@[simp] theorem State.setUpf_sliceEnded (s : State) (i : Nat) (x : Ferry) : (s.setUpf i x).sliceEnded = s.sliceEnded := rfl
@[simp] theorem State.setUpf_load (s : State) (i : Nat) (x : Ferry) : (s.setUpf i x).load = s.load := rfl
@[simp] theorem State.setUpf_flash (s : State) (i : Nat) (x : Ferry) : (s.setUpf i x).flash = s.flash := rfl
@[simp] theorem State.setUpf_gold (s : State) (i : Nat) (x : Ferry) : (s.setUpf i x).gold = s.gold := rfl
@[simp] theorem State.setUpf_cparks (s : State) (i : Nat) (x : Ferry) : (s.setUpf i x).cparks = s.cparks := rfl
@[simp] theorem State.setUpf_crcs (s : State) (i : Nat) (x : Ferry) : (s.setUpf i x).crcs = s.crcs := rfl
@[simp] theorem State.setUpf_loadEnded (s : State) (i : Nat) (x : Ferry) : (s.setUpf i x).loadEnded = s.loadEnded := rfl
@[simp] theorem State.setUpf_imgHash (s : State) (i : Nat) (x : Ferry) : (s.setUpf i x).imgHash = s.imgHash := rfl
@[simp] theorem State.setUpf_rimgs (s : State) (i : Nat) (x : Ferry) : (s.setUpf i x).rimgs = s.rimgs := rfl
@[simp] theorem State.setUpf_staged (s : State) (i : Nat) (x : Ferry) : (s.setUpf i x).staged = s.staged := rfl
@[simp] theorem State.setUpf_loadAsked (s : State) (i : Nat) (x : Ferry) : (s.setUpf i x).loadAsked = s.loadAsked := rfl
@[simp] theorem State.setUpf_toldFaults (s : State) (i : Nat) (x : Ferry) : (s.setUpf i x).toldFaults = s.toldFaults := rfl
@[simp] theorem State.setUpf_kslots (s : State) (i : Nat) (x : Ferry) : (s.setUpf i x).kslots = s.kslots := rfl
@[simp] theorem State.setUpf_oslots (s : State) (i : Nat) (x : Ferry) : (s.setUpf i x).oslots = s.oslots := rfl
@[simp] theorem State.setUpf_kcmd (s : State) (i : Nat) (x : Ferry) : (s.setUpf i x).kcmd = s.kcmd := rfl
@[simp] theorem State.setUpf_cutSlots (s : State) (i : Nat) (x : Ferry) : (s.setUpf i x).cutSlots = s.cutSlots := rfl
@[simp] theorem State.setUpf_tkrev (s : State) (i : Nat) (x : Ferry) : (s.setUpf i x).tkrev = s.tkrev := rfl
@[simp] theorem State.setUpf_fwsvn (s : State) (i : Nat) (x : Ferry) : (s.setUpf i x).fwsvn = s.fwsvn := rfl
@[simp] theorem State.setUpf_fw (s : State) (i : Nat) (x : Ferry) : (s.setUpf i x).fw = s.fw := rfl
@[simp] theorem State.setUpf_recovery (s : State) (i : Nat) (x : Ferry) : (s.setUpf i x).recovery = s.recovery := rfl
@[simp] theorem State.setUpf_reports (s : State) (i : Nat) (x : Ferry) : (s.setUpf i x).reports = s.reports := rfl
@[simp] theorem State.setUpf_signed (s : State) (i : Nat) (x : Ferry) : (s.setUpf i x).signed = s.signed := rfl
@[simp] theorem State.setUpf_attests (s : State) (i : Nat) (x : Ferry) : (s.setUpf i x).attests = s.attests := rfl
@[simp] theorem State.setUpf_uarts (s : State) (i : Nat) (x : Ferry) : (s.setUpf i x).uarts = s.uarts := rfl
@[simp] theorem State.setUpf_spi (s : State) (i : Nat) (x : Ferry) : (s.setUpf i x).spi = s.spi := rfl
@[simp] theorem State.setUpf_i2cs (s : State) (i : Nat) (x : Ferry) : (s.setUpf i x).i2cs = s.i2cs := rfl
@[simp] theorem State.setUpf_cores (s : State) (i : Nat) (x : Ferry) : (s.setUpf i x).cores = s.cores := rfl
@[simp] theorem State.setUpf_wdgs (s : State) (i : Nat) (x : Ferry) : (s.setUpf i x).wdgs = s.wdgs := rfl
@[simp] theorem State.setUpf_gexts (s : State) (i : Nat) (x : Ferry) : (s.setUpf i x).gexts = s.gexts := rfl
@[simp] theorem State.setUpf_gkeeps (s : State) (i : Nat) (x : Ferry) : (s.setUpf i x).gkeeps = s.gkeeps := rfl
@[simp] theorem State.setUpf_glines (s : State) (i : Nat) (x : Ferry) : (s.setUpf i x).glines = s.glines := rfl
@[simp] theorem State.setUpf_gheld (s : State) (i : Nat) (x : Ferry) : (s.setUpf i x).gheld = s.gheld := rfl
@[simp] theorem State.setUpf_cmpNews (s : State) (i : Nat) (x : Ferry) : (s.setUpf i x).cmpNews = s.cmpNews := rfl
@[simp] theorem State.setUpf_ptpNews (s : State) (i : Nat) (x : Ferry) : (s.setUpf i x).ptpNews = s.ptpNews := rfl
@[simp] theorem State.setUpf_ptpStamp (s : State) (i : Nat) (x : Ferry) : (s.setUpf i x).ptpStamp = s.ptpStamp := rfl
@[simp] theorem State.setUpf_ppsAt (s : State) (i : Nat) (x : Ferry) : (s.setUpf i x).ppsAt = s.ppsAt := rfl
@[simp] theorem State.setUpf_mem (s : State) (i : Nat) (x : Ferry) : (s.setUpf i x).mem = s.mem := rfl
@[simp] theorem State.setUpf_memEpoch (s : State) (i : Nat) (x : Ferry) : (s.setUpf i x).memEpoch = s.memEpoch := rfl
@[simp] theorem State.setUpf_ix (s : State) (i : Nat) (x : Ferry) : (s.setUpf i x).ix = s.ix := rfl
@[simp] theorem State.setUpf_ixOut (s : State) (i : Nat) (x : Ferry) : (s.setUpf i x).ixOut = s.ixOut := rfl
@[simp] theorem State.setUpf_doms (s : State) (i : Nat) (x : Ferry) : (s.setUpf i x).doms = s.doms := rfl
@[simp] theorem State.setUpf_epoch (s : State) (i : Nat) (x : Ferry) : (s.setUpf i x).epoch = s.epoch := rfl
@[simp] theorem State.setUpf_dns (s : State) (i : Nat) (x : Ferry) : (s.setUpf i x).dns = s.dns := rfl
@[simp] theorem State.setUpf_probes (s : State) (i : Nat) (x : Ferry) : (s.setUpf i x).probes = s.probes := rfl
@[simp] theorem State.setUpf_tapIr (s : State) (i : Nat) (x : Ferry) : (s.setUpf i x).tapIr = s.tapIr := rfl
@[simp] theorem State.setUpf_bscan (s : State) (i : Nat) (x : Ferry) : (s.setUpf i x).bscan = s.bscan := rfl
@[simp] theorem State.setUpf_dbgAcc (s : State) (i : Nat) (x : Ferry) : (s.setUpf i x).dbgAcc = s.dbgAcc := rfl
@[simp] theorem State.setUpf_dbgStatus (s : State) (i : Nat) (x : Ferry) : (s.setUpf i x).dbgStatus = s.dbgStatus := rfl
@[simp] theorem State.setUpf_dbgP (s : State) (i : Nat) (x : Ferry) : (s.setUpf i x).dbgP = s.dbgP := rfl
@[simp] theorem State.setUpf_dbgData (s : State) (i : Nat) (x : Ferry) : (s.setUpf i x).dbgData = s.dbgData := rfl
@[simp] theorem State.setUpf_bcap (s : State) (i : Nat) (x : Ferry) : (s.setUpf i x).bcap = s.bcap := rfl
@[simp] theorem State.setUpf_vin (s : State) (i : Nat) (x : Ferry) : (s.setUpf i x).vin = s.vin := rfl
@[simp] theorem State.setUpf_vbat (s : State) (i : Nat) (x : Ferry) : (s.setUpf i x).vbat = s.vbat := rfl
@[simp] theorem State.setUpf_bbGone (s : State) (i : Nat) (x : Ferry) : (s.setUpf i x).bbGone = s.bbGone := rfl
@[simp] theorem State.setUpf_hot (s : State) (i : Nat) (x : Ferry) : (s.setUpf i x).hot = s.hot := rfl
@[simp] theorem State.setUpf_bootDue (s : State) (i : Nat) (x : Ferry) : (s.setUpf i x).bootDue = s.bootDue := rfl

@[simp] theorem State.setDnf_dns (s : State) (i : Nat) (x : Ferry) : (s.setDnf i x).dns = Store.put {} s.dns i x := rfl
@[simp] theorem State.dnf_setDnf_same (s : State) (i : Nat) (x : Ferry) : (s.setDnf i x).dnf i = x := Store.get_put_same _ _ _ _
theorem State.dnf_setDnf_ne (s : State) (i j : Nat) (x : Ferry) (h : j ≠ i) : (s.setDnf i x).dnf j = s.dnf j := Store.get_put_ne _ _ _ h
@[simp] theorem State.setDnf_pending (s : State) (i : Nat) (x : Ferry) : (s.setDnf i x).pending = s.pending := rfl
@[simp] theorem State.setDnf_free (s : State) (i : Nat) (x : Ferry) : (s.setDnf i x).free = s.free := rfl
@[simp] theorem State.setDnf_time (s : State) (i : Nat) (x : Ferry) : (s.setDnf i x).time = s.time := rfl
@[simp] theorem State.setDnf_regs (s : State) (i : Nat) (x : Ferry) : (s.setDnf i x).regs = s.regs := rfl
@[simp] theorem State.setDnf_rdata (s : State) (i : Nat) (x : Ferry) : (s.setDnf i x).rdata = s.rdata := rfl
@[simp] theorem State.setDnf_tports (s : State) (i : Nat) (x : Ferry) : (s.setDnf i x).tports = s.tports := rfl
@[simp] theorem State.setDnf_tlines (s : State) (i : Nat) (x : Ferry) : (s.setDnf i x).tlines = s.tlines := rfl
@[simp] theorem State.setDnf_ptp (s : State) (i : Nat) (x : Ferry) : (s.setDnf i x).ptp = s.ptp := rfl
@[simp] theorem State.setDnf_ptpGo (s : State) (i : Nat) (x : Ferry) : (s.setDnf i x).ptpGo = s.ptpGo := rfl
@[simp] theorem State.setDnf_ptpMark (s : State) (i : Nat) (x : Ferry) : (s.setDnf i x).ptpMark = s.ptpMark := rfl
@[simp] theorem State.setDnf_calReq (s : State) (i : Nat) (x : Ferry) : (s.setDnf i x).calReq = s.calReq := rfl
@[simp] theorem State.setDnf_interval (s : State) (i : Nat) (x : Ferry) : (s.setDnf i x).interval = s.interval := rfl
@[simp] theorem State.setDnf_frames (s : State) (i : Nat) (x : Ferry) : (s.setDnf i x).frames = s.frames := rfl
@[simp] theorem State.setDnf_spine (s : State) (i : Nat) (x : Ferry) : (s.setDnf i x).spine = s.spine := rfl
@[simp] theorem State.setDnf_cells (s : State) (i : Nat) (x : Ferry) : (s.setDnf i x).cells = s.cells := rfl
@[simp] theorem State.setDnf_regions (s : State) (i : Nat) (x : Ferry) : (s.setDnf i x).regions = s.regions := rfl
@[simp] theorem State.setDnf_clus (s : State) (i : Nat) (x : Ferry) : (s.setDnf i x).clus = s.clus := rfl
@[simp] theorem State.setDnf_cfg (s : State) (i : Nat) (x : Ferry) : (s.setDnf i x).cfg = s.cfg := rfl
@[simp] theorem State.setDnf_chans (s : State) (i : Nat) (x : Ferry) : (s.setDnf i x).chans = s.chans := rfl
@[simp] theorem State.setDnf_aports (s : State) (i : Nat) (x : Ferry) : (s.setDnf i x).aports = s.aports := rfl
@[simp] theorem State.setDnf_blines (s : State) (i : Nat) (x : Ferry) : (s.setDnf i x).blines = s.blines := rfl
@[simp] theorem State.setDnf_bsrcs (s : State) (i : Nat) (x : Ferry) : (s.setDnf i x).bsrcs = s.bsrcs := rfl
@[simp] theorem State.setDnf_bports (s : State) (i : Nat) (x : Ferry) : (s.setDnf i x).bports = s.bports := rfl
@[simp] theorem State.setDnf_twins (s : State) (i : Nat) (x : Ferry) : (s.setDnf i x).twins = s.twins := rfl
@[simp] theorem State.setDnf_lanes (s : State) (i : Nat) (x : Ferry) : (s.setDnf i x).lanes = s.lanes := rfl
@[simp] theorem State.setDnf_flights (s : State) (i : Nat) (x : Ferry) : (s.setDnf i x).flights = s.flights := rfl
@[simp] theorem State.setDnf_nextId (s : State) (i : Nat) (x : Ferry) : (s.setDnf i x).nextId = s.nextId := rfl
@[simp] theorem State.setDnf_pairs (s : State) (i : Nat) (x : Ferry) : (s.setDnf i x).pairs = s.pairs := rfl
@[simp] theorem State.setDnf_codePend (s : State) (i : Nat) (x : Ferry) : (s.setDnf i x).codePend = s.codePend := rfl
@[simp] theorem State.setDnf_spareQ (s : State) (i : Nat) (x : Ferry) : (s.setDnf i x).spareQ = s.spareQ := rfl
@[simp] theorem State.setDnf_swapWant (s : State) (i : Nat) (x : Ferry) : (s.setDnf i x).swapWant = s.swapWant := rfl
@[simp] theorem State.setDnf_bmems (s : State) (i : Nat) (x : Ferry) : (s.setDnf i x).bmems = s.bmems := rfl
@[simp] theorem State.setDnf_bbytes (s : State) (i : Nat) (x : Ferry) : (s.setDnf i x).bbytes = s.bbytes := rfl
@[simp] theorem State.setDnf_banks (s : State) (i : Nat) (x : Ferry) : (s.setDnf i x).banks = s.banks := rfl
@[simp] theorem State.setDnf_swords (s : State) (i : Nat) (x : Ferry) : (s.setDnf i x).swords = s.swords := rfl
@[simp] theorem State.setDnf_hops (s : State) (i : Nat) (x : Ferry) : (s.setDnf i x).hops = s.hops := rfl
@[simp] theorem State.setDnf_pins (s : State) (i : Nat) (x : Ferry) : (s.setDnf i x).pins = s.pins := rfl
@[simp] theorem State.setDnf_spinePrevs (s : State) (i : Nat) (x : Ferry) : (s.setDnf i x).spinePrevs = s.spinePrevs := rfl
@[simp] theorem State.setDnf_pads (s : State) (i : Nat) (x : Ferry) : (s.setDnf i x).pads = s.pads := rfl
@[simp] theorem State.setDnf_groups (s : State) (i : Nat) (x : Ferry) : (s.setDnf i x).groups = s.groups := rfl
@[simp] theorem State.setDnf_links (s : State) (i : Nat) (x : Ferry) : (s.setDnf i x).links = s.links := rfl
@[simp] theorem State.setDnf_reasms (s : State) (i : Nat) (x : Ferry) : (s.setDnf i x).reasms = s.reasms := rfl
@[simp] theorem State.setDnf_mgmtIn (s : State) (i : Nat) (x : Ferry) : (s.setDnf i x).mgmtIn = s.mgmtIn := rfl
@[simp] theorem State.setDnf_lateTags (s : State) (i : Nat) (x : Ferry) : (s.setDnf i x).lateTags = s.lateTags := rfl
@[simp] theorem State.setDnf_slices (s : State) (i : Nat) (x : Ferry) : (s.setDnf i x).slices = s.slices := rfl
@[simp] theorem State.setDnf_sweep (s : State) (i : Nat) (x : Ferry) : (s.setDnf i x).sweep = s.sweep := rfl
@[simp] theorem State.setDnf_asyNews (s : State) (i : Nat) (x : Ferry) : (s.setDnf i x).asyNews = s.asyNews := rfl
@[simp] theorem State.setDnf_sliceEnded (s : State) (i : Nat) (x : Ferry) : (s.setDnf i x).sliceEnded = s.sliceEnded := rfl
@[simp] theorem State.setDnf_load (s : State) (i : Nat) (x : Ferry) : (s.setDnf i x).load = s.load := rfl
@[simp] theorem State.setDnf_flash (s : State) (i : Nat) (x : Ferry) : (s.setDnf i x).flash = s.flash := rfl
@[simp] theorem State.setDnf_gold (s : State) (i : Nat) (x : Ferry) : (s.setDnf i x).gold = s.gold := rfl
@[simp] theorem State.setDnf_cparks (s : State) (i : Nat) (x : Ferry) : (s.setDnf i x).cparks = s.cparks := rfl
@[simp] theorem State.setDnf_crcs (s : State) (i : Nat) (x : Ferry) : (s.setDnf i x).crcs = s.crcs := rfl
@[simp] theorem State.setDnf_loadEnded (s : State) (i : Nat) (x : Ferry) : (s.setDnf i x).loadEnded = s.loadEnded := rfl
@[simp] theorem State.setDnf_imgHash (s : State) (i : Nat) (x : Ferry) : (s.setDnf i x).imgHash = s.imgHash := rfl
@[simp] theorem State.setDnf_rimgs (s : State) (i : Nat) (x : Ferry) : (s.setDnf i x).rimgs = s.rimgs := rfl
@[simp] theorem State.setDnf_staged (s : State) (i : Nat) (x : Ferry) : (s.setDnf i x).staged = s.staged := rfl
@[simp] theorem State.setDnf_loadAsked (s : State) (i : Nat) (x : Ferry) : (s.setDnf i x).loadAsked = s.loadAsked := rfl
@[simp] theorem State.setDnf_toldFaults (s : State) (i : Nat) (x : Ferry) : (s.setDnf i x).toldFaults = s.toldFaults := rfl
@[simp] theorem State.setDnf_kslots (s : State) (i : Nat) (x : Ferry) : (s.setDnf i x).kslots = s.kslots := rfl
@[simp] theorem State.setDnf_oslots (s : State) (i : Nat) (x : Ferry) : (s.setDnf i x).oslots = s.oslots := rfl
@[simp] theorem State.setDnf_kcmd (s : State) (i : Nat) (x : Ferry) : (s.setDnf i x).kcmd = s.kcmd := rfl
@[simp] theorem State.setDnf_cutSlots (s : State) (i : Nat) (x : Ferry) : (s.setDnf i x).cutSlots = s.cutSlots := rfl
@[simp] theorem State.setDnf_tkrev (s : State) (i : Nat) (x : Ferry) : (s.setDnf i x).tkrev = s.tkrev := rfl
@[simp] theorem State.setDnf_fwsvn (s : State) (i : Nat) (x : Ferry) : (s.setDnf i x).fwsvn = s.fwsvn := rfl
@[simp] theorem State.setDnf_fw (s : State) (i : Nat) (x : Ferry) : (s.setDnf i x).fw = s.fw := rfl
@[simp] theorem State.setDnf_recovery (s : State) (i : Nat) (x : Ferry) : (s.setDnf i x).recovery = s.recovery := rfl
@[simp] theorem State.setDnf_reports (s : State) (i : Nat) (x : Ferry) : (s.setDnf i x).reports = s.reports := rfl
@[simp] theorem State.setDnf_signed (s : State) (i : Nat) (x : Ferry) : (s.setDnf i x).signed = s.signed := rfl
@[simp] theorem State.setDnf_attests (s : State) (i : Nat) (x : Ferry) : (s.setDnf i x).attests = s.attests := rfl
@[simp] theorem State.setDnf_uarts (s : State) (i : Nat) (x : Ferry) : (s.setDnf i x).uarts = s.uarts := rfl
@[simp] theorem State.setDnf_spi (s : State) (i : Nat) (x : Ferry) : (s.setDnf i x).spi = s.spi := rfl
@[simp] theorem State.setDnf_i2cs (s : State) (i : Nat) (x : Ferry) : (s.setDnf i x).i2cs = s.i2cs := rfl
@[simp] theorem State.setDnf_cores (s : State) (i : Nat) (x : Ferry) : (s.setDnf i x).cores = s.cores := rfl
@[simp] theorem State.setDnf_wdgs (s : State) (i : Nat) (x : Ferry) : (s.setDnf i x).wdgs = s.wdgs := rfl
@[simp] theorem State.setDnf_gexts (s : State) (i : Nat) (x : Ferry) : (s.setDnf i x).gexts = s.gexts := rfl
@[simp] theorem State.setDnf_gkeeps (s : State) (i : Nat) (x : Ferry) : (s.setDnf i x).gkeeps = s.gkeeps := rfl
@[simp] theorem State.setDnf_glines (s : State) (i : Nat) (x : Ferry) : (s.setDnf i x).glines = s.glines := rfl
@[simp] theorem State.setDnf_gheld (s : State) (i : Nat) (x : Ferry) : (s.setDnf i x).gheld = s.gheld := rfl
@[simp] theorem State.setDnf_cmpNews (s : State) (i : Nat) (x : Ferry) : (s.setDnf i x).cmpNews = s.cmpNews := rfl
@[simp] theorem State.setDnf_ptpNews (s : State) (i : Nat) (x : Ferry) : (s.setDnf i x).ptpNews = s.ptpNews := rfl
@[simp] theorem State.setDnf_ptpStamp (s : State) (i : Nat) (x : Ferry) : (s.setDnf i x).ptpStamp = s.ptpStamp := rfl
@[simp] theorem State.setDnf_ppsAt (s : State) (i : Nat) (x : Ferry) : (s.setDnf i x).ppsAt = s.ppsAt := rfl
@[simp] theorem State.setDnf_mem (s : State) (i : Nat) (x : Ferry) : (s.setDnf i x).mem = s.mem := rfl
@[simp] theorem State.setDnf_memEpoch (s : State) (i : Nat) (x : Ferry) : (s.setDnf i x).memEpoch = s.memEpoch := rfl
@[simp] theorem State.setDnf_ix (s : State) (i : Nat) (x : Ferry) : (s.setDnf i x).ix = s.ix := rfl
@[simp] theorem State.setDnf_ixOut (s : State) (i : Nat) (x : Ferry) : (s.setDnf i x).ixOut = s.ixOut := rfl
@[simp] theorem State.setDnf_doms (s : State) (i : Nat) (x : Ferry) : (s.setDnf i x).doms = s.doms := rfl
@[simp] theorem State.setDnf_epoch (s : State) (i : Nat) (x : Ferry) : (s.setDnf i x).epoch = s.epoch := rfl
@[simp] theorem State.setDnf_ups (s : State) (i : Nat) (x : Ferry) : (s.setDnf i x).ups = s.ups := rfl
@[simp] theorem State.setDnf_probes (s : State) (i : Nat) (x : Ferry) : (s.setDnf i x).probes = s.probes := rfl
@[simp] theorem State.setDnf_tapIr (s : State) (i : Nat) (x : Ferry) : (s.setDnf i x).tapIr = s.tapIr := rfl
@[simp] theorem State.setDnf_bscan (s : State) (i : Nat) (x : Ferry) : (s.setDnf i x).bscan = s.bscan := rfl
@[simp] theorem State.setDnf_dbgAcc (s : State) (i : Nat) (x : Ferry) : (s.setDnf i x).dbgAcc = s.dbgAcc := rfl
@[simp] theorem State.setDnf_dbgStatus (s : State) (i : Nat) (x : Ferry) : (s.setDnf i x).dbgStatus = s.dbgStatus := rfl
@[simp] theorem State.setDnf_dbgP (s : State) (i : Nat) (x : Ferry) : (s.setDnf i x).dbgP = s.dbgP := rfl
@[simp] theorem State.setDnf_dbgData (s : State) (i : Nat) (x : Ferry) : (s.setDnf i x).dbgData = s.dbgData := rfl
@[simp] theorem State.setDnf_bcap (s : State) (i : Nat) (x : Ferry) : (s.setDnf i x).bcap = s.bcap := rfl
@[simp] theorem State.setDnf_vin (s : State) (i : Nat) (x : Ferry) : (s.setDnf i x).vin = s.vin := rfl
@[simp] theorem State.setDnf_vbat (s : State) (i : Nat) (x : Ferry) : (s.setDnf i x).vbat = s.vbat := rfl
@[simp] theorem State.setDnf_bbGone (s : State) (i : Nat) (x : Ferry) : (s.setDnf i x).bbGone = s.bbGone := rfl
@[simp] theorem State.setDnf_hot (s : State) (i : Nat) (x : Ferry) : (s.setDnf i x).hot = s.hot := rfl
@[simp] theorem State.setDnf_bootDue (s : State) (i : Nat) (x : Ferry) : (s.setDnf i x).bootDue = s.bootDue := rfl

@[simp] theorem State.setProbe_probes (s : State) (i : Nat) (x : Probe) : (s.setProbe i x).probes = Store.put {} s.probes i x := rfl
@[simp] theorem State.probe_setProbe_same (s : State) (i : Nat) (x : Probe) : (s.setProbe i x).probe i = x := Store.get_put_same _ _ _ _
theorem State.probe_setProbe_ne (s : State) (i j : Nat) (x : Probe) (h : j ≠ i) : (s.setProbe i x).probe j = s.probe j := Store.get_put_ne _ _ _ h
@[simp] theorem State.setProbe_pending (s : State) (i : Nat) (x : Probe) : (s.setProbe i x).pending = s.pending := rfl
@[simp] theorem State.setProbe_free (s : State) (i : Nat) (x : Probe) : (s.setProbe i x).free = s.free := rfl
@[simp] theorem State.setProbe_time (s : State) (i : Nat) (x : Probe) : (s.setProbe i x).time = s.time := rfl
@[simp] theorem State.setProbe_regs (s : State) (i : Nat) (x : Probe) : (s.setProbe i x).regs = s.regs := rfl
@[simp] theorem State.setProbe_rdata (s : State) (i : Nat) (x : Probe) : (s.setProbe i x).rdata = s.rdata := rfl
@[simp] theorem State.setProbe_tports (s : State) (i : Nat) (x : Probe) : (s.setProbe i x).tports = s.tports := rfl
@[simp] theorem State.setProbe_tlines (s : State) (i : Nat) (x : Probe) : (s.setProbe i x).tlines = s.tlines := rfl
@[simp] theorem State.setProbe_ptp (s : State) (i : Nat) (x : Probe) : (s.setProbe i x).ptp = s.ptp := rfl
@[simp] theorem State.setProbe_ptpGo (s : State) (i : Nat) (x : Probe) : (s.setProbe i x).ptpGo = s.ptpGo := rfl
@[simp] theorem State.setProbe_ptpMark (s : State) (i : Nat) (x : Probe) : (s.setProbe i x).ptpMark = s.ptpMark := rfl
@[simp] theorem State.setProbe_calReq (s : State) (i : Nat) (x : Probe) : (s.setProbe i x).calReq = s.calReq := rfl
@[simp] theorem State.setProbe_interval (s : State) (i : Nat) (x : Probe) : (s.setProbe i x).interval = s.interval := rfl
@[simp] theorem State.setProbe_frames (s : State) (i : Nat) (x : Probe) : (s.setProbe i x).frames = s.frames := rfl
@[simp] theorem State.setProbe_spine (s : State) (i : Nat) (x : Probe) : (s.setProbe i x).spine = s.spine := rfl
@[simp] theorem State.setProbe_cells (s : State) (i : Nat) (x : Probe) : (s.setProbe i x).cells = s.cells := rfl
@[simp] theorem State.setProbe_regions (s : State) (i : Nat) (x : Probe) : (s.setProbe i x).regions = s.regions := rfl
@[simp] theorem State.setProbe_clus (s : State) (i : Nat) (x : Probe) : (s.setProbe i x).clus = s.clus := rfl
@[simp] theorem State.setProbe_cfg (s : State) (i : Nat) (x : Probe) : (s.setProbe i x).cfg = s.cfg := rfl
@[simp] theorem State.setProbe_chans (s : State) (i : Nat) (x : Probe) : (s.setProbe i x).chans = s.chans := rfl
@[simp] theorem State.setProbe_aports (s : State) (i : Nat) (x : Probe) : (s.setProbe i x).aports = s.aports := rfl
@[simp] theorem State.setProbe_blines (s : State) (i : Nat) (x : Probe) : (s.setProbe i x).blines = s.blines := rfl
@[simp] theorem State.setProbe_bsrcs (s : State) (i : Nat) (x : Probe) : (s.setProbe i x).bsrcs = s.bsrcs := rfl
@[simp] theorem State.setProbe_bports (s : State) (i : Nat) (x : Probe) : (s.setProbe i x).bports = s.bports := rfl
@[simp] theorem State.setProbe_twins (s : State) (i : Nat) (x : Probe) : (s.setProbe i x).twins = s.twins := rfl
@[simp] theorem State.setProbe_lanes (s : State) (i : Nat) (x : Probe) : (s.setProbe i x).lanes = s.lanes := rfl
@[simp] theorem State.setProbe_flights (s : State) (i : Nat) (x : Probe) : (s.setProbe i x).flights = s.flights := rfl
@[simp] theorem State.setProbe_nextId (s : State) (i : Nat) (x : Probe) : (s.setProbe i x).nextId = s.nextId := rfl
@[simp] theorem State.setProbe_pairs (s : State) (i : Nat) (x : Probe) : (s.setProbe i x).pairs = s.pairs := rfl
@[simp] theorem State.setProbe_codePend (s : State) (i : Nat) (x : Probe) : (s.setProbe i x).codePend = s.codePend := rfl
@[simp] theorem State.setProbe_spareQ (s : State) (i : Nat) (x : Probe) : (s.setProbe i x).spareQ = s.spareQ := rfl
@[simp] theorem State.setProbe_swapWant (s : State) (i : Nat) (x : Probe) : (s.setProbe i x).swapWant = s.swapWant := rfl
@[simp] theorem State.setProbe_bmems (s : State) (i : Nat) (x : Probe) : (s.setProbe i x).bmems = s.bmems := rfl
@[simp] theorem State.setProbe_bbytes (s : State) (i : Nat) (x : Probe) : (s.setProbe i x).bbytes = s.bbytes := rfl
@[simp] theorem State.setProbe_banks (s : State) (i : Nat) (x : Probe) : (s.setProbe i x).banks = s.banks := rfl
@[simp] theorem State.setProbe_swords (s : State) (i : Nat) (x : Probe) : (s.setProbe i x).swords = s.swords := rfl
@[simp] theorem State.setProbe_hops (s : State) (i : Nat) (x : Probe) : (s.setProbe i x).hops = s.hops := rfl
@[simp] theorem State.setProbe_pins (s : State) (i : Nat) (x : Probe) : (s.setProbe i x).pins = s.pins := rfl
@[simp] theorem State.setProbe_spinePrevs (s : State) (i : Nat) (x : Probe) : (s.setProbe i x).spinePrevs = s.spinePrevs := rfl
@[simp] theorem State.setProbe_pads (s : State) (i : Nat) (x : Probe) : (s.setProbe i x).pads = s.pads := rfl
@[simp] theorem State.setProbe_groups (s : State) (i : Nat) (x : Probe) : (s.setProbe i x).groups = s.groups := rfl
@[simp] theorem State.setProbe_links (s : State) (i : Nat) (x : Probe) : (s.setProbe i x).links = s.links := rfl
@[simp] theorem State.setProbe_reasms (s : State) (i : Nat) (x : Probe) : (s.setProbe i x).reasms = s.reasms := rfl
@[simp] theorem State.setProbe_mgmtIn (s : State) (i : Nat) (x : Probe) : (s.setProbe i x).mgmtIn = s.mgmtIn := rfl
@[simp] theorem State.setProbe_lateTags (s : State) (i : Nat) (x : Probe) : (s.setProbe i x).lateTags = s.lateTags := rfl
@[simp] theorem State.setProbe_slices (s : State) (i : Nat) (x : Probe) : (s.setProbe i x).slices = s.slices := rfl
@[simp] theorem State.setProbe_sweep (s : State) (i : Nat) (x : Probe) : (s.setProbe i x).sweep = s.sweep := rfl
@[simp] theorem State.setProbe_asyNews (s : State) (i : Nat) (x : Probe) : (s.setProbe i x).asyNews = s.asyNews := rfl
@[simp] theorem State.setProbe_sliceEnded (s : State) (i : Nat) (x : Probe) : (s.setProbe i x).sliceEnded = s.sliceEnded := rfl
@[simp] theorem State.setProbe_load (s : State) (i : Nat) (x : Probe) : (s.setProbe i x).load = s.load := rfl
@[simp] theorem State.setProbe_flash (s : State) (i : Nat) (x : Probe) : (s.setProbe i x).flash = s.flash := rfl
@[simp] theorem State.setProbe_gold (s : State) (i : Nat) (x : Probe) : (s.setProbe i x).gold = s.gold := rfl
@[simp] theorem State.setProbe_cparks (s : State) (i : Nat) (x : Probe) : (s.setProbe i x).cparks = s.cparks := rfl
@[simp] theorem State.setProbe_crcs (s : State) (i : Nat) (x : Probe) : (s.setProbe i x).crcs = s.crcs := rfl
@[simp] theorem State.setProbe_loadEnded (s : State) (i : Nat) (x : Probe) : (s.setProbe i x).loadEnded = s.loadEnded := rfl
@[simp] theorem State.setProbe_imgHash (s : State) (i : Nat) (x : Probe) : (s.setProbe i x).imgHash = s.imgHash := rfl
@[simp] theorem State.setProbe_rimgs (s : State) (i : Nat) (x : Probe) : (s.setProbe i x).rimgs = s.rimgs := rfl
@[simp] theorem State.setProbe_staged (s : State) (i : Nat) (x : Probe) : (s.setProbe i x).staged = s.staged := rfl
@[simp] theorem State.setProbe_loadAsked (s : State) (i : Nat) (x : Probe) : (s.setProbe i x).loadAsked = s.loadAsked := rfl
@[simp] theorem State.setProbe_toldFaults (s : State) (i : Nat) (x : Probe) : (s.setProbe i x).toldFaults = s.toldFaults := rfl
@[simp] theorem State.setProbe_kslots (s : State) (i : Nat) (x : Probe) : (s.setProbe i x).kslots = s.kslots := rfl
@[simp] theorem State.setProbe_oslots (s : State) (i : Nat) (x : Probe) : (s.setProbe i x).oslots = s.oslots := rfl
@[simp] theorem State.setProbe_kcmd (s : State) (i : Nat) (x : Probe) : (s.setProbe i x).kcmd = s.kcmd := rfl
@[simp] theorem State.setProbe_cutSlots (s : State) (i : Nat) (x : Probe) : (s.setProbe i x).cutSlots = s.cutSlots := rfl
@[simp] theorem State.setProbe_tkrev (s : State) (i : Nat) (x : Probe) : (s.setProbe i x).tkrev = s.tkrev := rfl
@[simp] theorem State.setProbe_fwsvn (s : State) (i : Nat) (x : Probe) : (s.setProbe i x).fwsvn = s.fwsvn := rfl
@[simp] theorem State.setProbe_fw (s : State) (i : Nat) (x : Probe) : (s.setProbe i x).fw = s.fw := rfl
@[simp] theorem State.setProbe_recovery (s : State) (i : Nat) (x : Probe) : (s.setProbe i x).recovery = s.recovery := rfl
@[simp] theorem State.setProbe_reports (s : State) (i : Nat) (x : Probe) : (s.setProbe i x).reports = s.reports := rfl
@[simp] theorem State.setProbe_signed (s : State) (i : Nat) (x : Probe) : (s.setProbe i x).signed = s.signed := rfl
@[simp] theorem State.setProbe_attests (s : State) (i : Nat) (x : Probe) : (s.setProbe i x).attests = s.attests := rfl
@[simp] theorem State.setProbe_uarts (s : State) (i : Nat) (x : Probe) : (s.setProbe i x).uarts = s.uarts := rfl
@[simp] theorem State.setProbe_spi (s : State) (i : Nat) (x : Probe) : (s.setProbe i x).spi = s.spi := rfl
@[simp] theorem State.setProbe_i2cs (s : State) (i : Nat) (x : Probe) : (s.setProbe i x).i2cs = s.i2cs := rfl
@[simp] theorem State.setProbe_cores (s : State) (i : Nat) (x : Probe) : (s.setProbe i x).cores = s.cores := rfl
@[simp] theorem State.setProbe_wdgs (s : State) (i : Nat) (x : Probe) : (s.setProbe i x).wdgs = s.wdgs := rfl
@[simp] theorem State.setProbe_gexts (s : State) (i : Nat) (x : Probe) : (s.setProbe i x).gexts = s.gexts := rfl
@[simp] theorem State.setProbe_gkeeps (s : State) (i : Nat) (x : Probe) : (s.setProbe i x).gkeeps = s.gkeeps := rfl
@[simp] theorem State.setProbe_glines (s : State) (i : Nat) (x : Probe) : (s.setProbe i x).glines = s.glines := rfl
@[simp] theorem State.setProbe_gheld (s : State) (i : Nat) (x : Probe) : (s.setProbe i x).gheld = s.gheld := rfl
@[simp] theorem State.setProbe_cmpNews (s : State) (i : Nat) (x : Probe) : (s.setProbe i x).cmpNews = s.cmpNews := rfl
@[simp] theorem State.setProbe_ptpNews (s : State) (i : Nat) (x : Probe) : (s.setProbe i x).ptpNews = s.ptpNews := rfl
@[simp] theorem State.setProbe_ptpStamp (s : State) (i : Nat) (x : Probe) : (s.setProbe i x).ptpStamp = s.ptpStamp := rfl
@[simp] theorem State.setProbe_ppsAt (s : State) (i : Nat) (x : Probe) : (s.setProbe i x).ppsAt = s.ppsAt := rfl
@[simp] theorem State.setProbe_mem (s : State) (i : Nat) (x : Probe) : (s.setProbe i x).mem = s.mem := rfl
@[simp] theorem State.setProbe_memEpoch (s : State) (i : Nat) (x : Probe) : (s.setProbe i x).memEpoch = s.memEpoch := rfl
@[simp] theorem State.setProbe_ix (s : State) (i : Nat) (x : Probe) : (s.setProbe i x).ix = s.ix := rfl
@[simp] theorem State.setProbe_ixOut (s : State) (i : Nat) (x : Probe) : (s.setProbe i x).ixOut = s.ixOut := rfl
@[simp] theorem State.setProbe_doms (s : State) (i : Nat) (x : Probe) : (s.setProbe i x).doms = s.doms := rfl
@[simp] theorem State.setProbe_epoch (s : State) (i : Nat) (x : Probe) : (s.setProbe i x).epoch = s.epoch := rfl
@[simp] theorem State.setProbe_ups (s : State) (i : Nat) (x : Probe) : (s.setProbe i x).ups = s.ups := rfl
@[simp] theorem State.setProbe_dns (s : State) (i : Nat) (x : Probe) : (s.setProbe i x).dns = s.dns := rfl
@[simp] theorem State.setProbe_tapIr (s : State) (i : Nat) (x : Probe) : (s.setProbe i x).tapIr = s.tapIr := rfl
@[simp] theorem State.setProbe_bscan (s : State) (i : Nat) (x : Probe) : (s.setProbe i x).bscan = s.bscan := rfl
@[simp] theorem State.setProbe_dbgAcc (s : State) (i : Nat) (x : Probe) : (s.setProbe i x).dbgAcc = s.dbgAcc := rfl
@[simp] theorem State.setProbe_dbgStatus (s : State) (i : Nat) (x : Probe) : (s.setProbe i x).dbgStatus = s.dbgStatus := rfl
@[simp] theorem State.setProbe_dbgP (s : State) (i : Nat) (x : Probe) : (s.setProbe i x).dbgP = s.dbgP := rfl
@[simp] theorem State.setProbe_dbgData (s : State) (i : Nat) (x : Probe) : (s.setProbe i x).dbgData = s.dbgData := rfl
@[simp] theorem State.setProbe_bcap (s : State) (i : Nat) (x : Probe) : (s.setProbe i x).bcap = s.bcap := rfl
@[simp] theorem State.setProbe_vin (s : State) (i : Nat) (x : Probe) : (s.setProbe i x).vin = s.vin := rfl
@[simp] theorem State.setProbe_vbat (s : State) (i : Nat) (x : Probe) : (s.setProbe i x).vbat = s.vbat := rfl
@[simp] theorem State.setProbe_bbGone (s : State) (i : Nat) (x : Probe) : (s.setProbe i x).bbGone = s.bbGone := rfl
@[simp] theorem State.setProbe_hot (s : State) (i : Nat) (x : Probe) : (s.setProbe i x).hot = s.hot := rfl
@[simp] theorem State.setProbe_bootDue (s : State) (i : Nat) (x : Probe) : (s.setProbe i x).bootDue = s.bootDue := rfl

@[simp] theorem State.rget_rput_same (s : State) (g : Reg) (v : RegVal) : (s.rput g v).rget g = v := Store.get_put_same _ _ _ _
theorem State.rget_rput_ne (s : State) (g h : Reg) (v : RegVal) (hne : h.addr ≠ g.addr) : (s.rput g v).rget h = s.rget h := Store.get_put_ne _ _ _ hne
@[simp] theorem State.rput_pending (s : State) (g : Reg) (v : RegVal) : (s.rput g v).pending = s.pending := rfl
@[simp] theorem State.rput_free (s : State) (g : Reg) (v : RegVal) : (s.rput g v).free = s.free := rfl
@[simp] theorem State.rput_time (s : State) (g : Reg) (v : RegVal) : (s.rput g v).time = s.time := rfl
@[simp] theorem State.rput_rdata (s : State) (g : Reg) (v : RegVal) : (s.rput g v).rdata = s.rdata := rfl
@[simp] theorem State.rput_tports (s : State) (g : Reg) (v : RegVal) : (s.rput g v).tports = s.tports := rfl
@[simp] theorem State.rput_tlines (s : State) (g : Reg) (v : RegVal) : (s.rput g v).tlines = s.tlines := rfl
@[simp] theorem State.rput_ptp (s : State) (g : Reg) (v : RegVal) : (s.rput g v).ptp = s.ptp := rfl
@[simp] theorem State.rput_ptpGo (s : State) (g : Reg) (v : RegVal) : (s.rput g v).ptpGo = s.ptpGo := rfl
@[simp] theorem State.rput_ptpMark (s : State) (g : Reg) (v : RegVal) : (s.rput g v).ptpMark = s.ptpMark := rfl
@[simp] theorem State.rput_calReq (s : State) (g : Reg) (v : RegVal) : (s.rput g v).calReq = s.calReq := rfl
@[simp] theorem State.rput_interval (s : State) (g : Reg) (v : RegVal) : (s.rput g v).interval = s.interval := rfl
@[simp] theorem State.rput_frames (s : State) (g : Reg) (v : RegVal) : (s.rput g v).frames = s.frames := rfl
@[simp] theorem State.rput_spine (s : State) (g : Reg) (v : RegVal) : (s.rput g v).spine = s.spine := rfl
@[simp] theorem State.rput_cells (s : State) (g : Reg) (v : RegVal) : (s.rput g v).cells = s.cells := rfl
@[simp] theorem State.rput_regions (s : State) (g : Reg) (v : RegVal) : (s.rput g v).regions = s.regions := rfl
@[simp] theorem State.rput_clus (s : State) (g : Reg) (v : RegVal) : (s.rput g v).clus = s.clus := rfl
@[simp] theorem State.rput_cfg (s : State) (g : Reg) (v : RegVal) : (s.rput g v).cfg = s.cfg := rfl
@[simp] theorem State.rput_chans (s : State) (g : Reg) (v : RegVal) : (s.rput g v).chans = s.chans := rfl
@[simp] theorem State.rput_aports (s : State) (g : Reg) (v : RegVal) : (s.rput g v).aports = s.aports := rfl
@[simp] theorem State.rput_blines (s : State) (g : Reg) (v : RegVal) : (s.rput g v).blines = s.blines := rfl
@[simp] theorem State.rput_bsrcs (s : State) (g : Reg) (v : RegVal) : (s.rput g v).bsrcs = s.bsrcs := rfl
@[simp] theorem State.rput_bports (s : State) (g : Reg) (v : RegVal) : (s.rput g v).bports = s.bports := rfl
@[simp] theorem State.rput_twins (s : State) (g : Reg) (v : RegVal) : (s.rput g v).twins = s.twins := rfl
@[simp] theorem State.rput_lanes (s : State) (g : Reg) (v : RegVal) : (s.rput g v).lanes = s.lanes := rfl
@[simp] theorem State.rput_flights (s : State) (g : Reg) (v : RegVal) : (s.rput g v).flights = s.flights := rfl
@[simp] theorem State.rput_nextId (s : State) (g : Reg) (v : RegVal) : (s.rput g v).nextId = s.nextId := rfl
@[simp] theorem State.rput_pairs (s : State) (g : Reg) (v : RegVal) : (s.rput g v).pairs = s.pairs := rfl
@[simp] theorem State.rput_codePend (s : State) (g : Reg) (v : RegVal) : (s.rput g v).codePend = s.codePend := rfl
@[simp] theorem State.rput_spareQ (s : State) (g : Reg) (v : RegVal) : (s.rput g v).spareQ = s.spareQ := rfl
@[simp] theorem State.rput_swapWant (s : State) (g : Reg) (v : RegVal) : (s.rput g v).swapWant = s.swapWant := rfl
@[simp] theorem State.rput_bmems (s : State) (g : Reg) (v : RegVal) : (s.rput g v).bmems = s.bmems := rfl
@[simp] theorem State.rput_bbytes (s : State) (g : Reg) (v : RegVal) : (s.rput g v).bbytes = s.bbytes := rfl
@[simp] theorem State.rput_banks (s : State) (g : Reg) (v : RegVal) : (s.rput g v).banks = s.banks := rfl
@[simp] theorem State.rput_swords (s : State) (g : Reg) (v : RegVal) : (s.rput g v).swords = s.swords := rfl
@[simp] theorem State.rput_hops (s : State) (g : Reg) (v : RegVal) : (s.rput g v).hops = s.hops := rfl
@[simp] theorem State.rput_pins (s : State) (g : Reg) (v : RegVal) : (s.rput g v).pins = s.pins := rfl
@[simp] theorem State.rput_spinePrevs (s : State) (g : Reg) (v : RegVal) : (s.rput g v).spinePrevs = s.spinePrevs := rfl
@[simp] theorem State.rput_pads (s : State) (g : Reg) (v : RegVal) : (s.rput g v).pads = s.pads := rfl
@[simp] theorem State.rput_groups (s : State) (g : Reg) (v : RegVal) : (s.rput g v).groups = s.groups := rfl
@[simp] theorem State.rput_links (s : State) (g : Reg) (v : RegVal) : (s.rput g v).links = s.links := rfl
@[simp] theorem State.rput_reasms (s : State) (g : Reg) (v : RegVal) : (s.rput g v).reasms = s.reasms := rfl
@[simp] theorem State.rput_mgmtIn (s : State) (g : Reg) (v : RegVal) : (s.rput g v).mgmtIn = s.mgmtIn := rfl
@[simp] theorem State.rput_lateTags (s : State) (g : Reg) (v : RegVal) : (s.rput g v).lateTags = s.lateTags := rfl
@[simp] theorem State.rput_slices (s : State) (g : Reg) (v : RegVal) : (s.rput g v).slices = s.slices := rfl
@[simp] theorem State.rput_sweep (s : State) (g : Reg) (v : RegVal) : (s.rput g v).sweep = s.sweep := rfl
@[simp] theorem State.rput_asyNews (s : State) (g : Reg) (v : RegVal) : (s.rput g v).asyNews = s.asyNews := rfl
@[simp] theorem State.rput_sliceEnded (s : State) (g : Reg) (v : RegVal) : (s.rput g v).sliceEnded = s.sliceEnded := rfl
@[simp] theorem State.rput_load (s : State) (g : Reg) (v : RegVal) : (s.rput g v).load = s.load := rfl
@[simp] theorem State.rput_flash (s : State) (g : Reg) (v : RegVal) : (s.rput g v).flash = s.flash := rfl
@[simp] theorem State.rput_gold (s : State) (g : Reg) (v : RegVal) : (s.rput g v).gold = s.gold := rfl
@[simp] theorem State.rput_cparks (s : State) (g : Reg) (v : RegVal) : (s.rput g v).cparks = s.cparks := rfl
@[simp] theorem State.rput_crcs (s : State) (g : Reg) (v : RegVal) : (s.rput g v).crcs = s.crcs := rfl
@[simp] theorem State.rput_loadEnded (s : State) (g : Reg) (v : RegVal) : (s.rput g v).loadEnded = s.loadEnded := rfl
@[simp] theorem State.rput_imgHash (s : State) (g : Reg) (v : RegVal) : (s.rput g v).imgHash = s.imgHash := rfl
@[simp] theorem State.rput_rimgs (s : State) (g : Reg) (v : RegVal) : (s.rput g v).rimgs = s.rimgs := rfl
@[simp] theorem State.rput_staged (s : State) (g : Reg) (v : RegVal) : (s.rput g v).staged = s.staged := rfl
@[simp] theorem State.rput_loadAsked (s : State) (g : Reg) (v : RegVal) : (s.rput g v).loadAsked = s.loadAsked := rfl
@[simp] theorem State.rput_toldFaults (s : State) (g : Reg) (v : RegVal) : (s.rput g v).toldFaults = s.toldFaults := rfl
@[simp] theorem State.rput_kslots (s : State) (g : Reg) (v : RegVal) : (s.rput g v).kslots = s.kslots := rfl
@[simp] theorem State.rput_oslots (s : State) (g : Reg) (v : RegVal) : (s.rput g v).oslots = s.oslots := rfl
@[simp] theorem State.rput_kcmd (s : State) (g : Reg) (v : RegVal) : (s.rput g v).kcmd = s.kcmd := rfl
@[simp] theorem State.rput_cutSlots (s : State) (g : Reg) (v : RegVal) : (s.rput g v).cutSlots = s.cutSlots := rfl
@[simp] theorem State.rput_tkrev (s : State) (g : Reg) (v : RegVal) : (s.rput g v).tkrev = s.tkrev := rfl
@[simp] theorem State.rput_fwsvn (s : State) (g : Reg) (v : RegVal) : (s.rput g v).fwsvn = s.fwsvn := rfl
@[simp] theorem State.rput_fw (s : State) (g : Reg) (v : RegVal) : (s.rput g v).fw = s.fw := rfl
@[simp] theorem State.rput_recovery (s : State) (g : Reg) (v : RegVal) : (s.rput g v).recovery = s.recovery := rfl
@[simp] theorem State.rput_reports (s : State) (g : Reg) (v : RegVal) : (s.rput g v).reports = s.reports := rfl
@[simp] theorem State.rput_signed (s : State) (g : Reg) (v : RegVal) : (s.rput g v).signed = s.signed := rfl
@[simp] theorem State.rput_attests (s : State) (g : Reg) (v : RegVal) : (s.rput g v).attests = s.attests := rfl
@[simp] theorem State.rput_uarts (s : State) (g : Reg) (v : RegVal) : (s.rput g v).uarts = s.uarts := rfl
@[simp] theorem State.rput_spi (s : State) (g : Reg) (v : RegVal) : (s.rput g v).spi = s.spi := rfl
@[simp] theorem State.rput_i2cs (s : State) (g : Reg) (v : RegVal) : (s.rput g v).i2cs = s.i2cs := rfl
@[simp] theorem State.rput_cores (s : State) (g : Reg) (v : RegVal) : (s.rput g v).cores = s.cores := rfl
@[simp] theorem State.rput_wdgs (s : State) (g : Reg) (v : RegVal) : (s.rput g v).wdgs = s.wdgs := rfl
@[simp] theorem State.rput_gexts (s : State) (g : Reg) (v : RegVal) : (s.rput g v).gexts = s.gexts := rfl
@[simp] theorem State.rput_gkeeps (s : State) (g : Reg) (v : RegVal) : (s.rput g v).gkeeps = s.gkeeps := rfl
@[simp] theorem State.rput_glines (s : State) (g : Reg) (v : RegVal) : (s.rput g v).glines = s.glines := rfl
@[simp] theorem State.rput_gheld (s : State) (g : Reg) (v : RegVal) : (s.rput g v).gheld = s.gheld := rfl
@[simp] theorem State.rput_cmpNews (s : State) (g : Reg) (v : RegVal) : (s.rput g v).cmpNews = s.cmpNews := rfl
@[simp] theorem State.rput_ptpNews (s : State) (g : Reg) (v : RegVal) : (s.rput g v).ptpNews = s.ptpNews := rfl
@[simp] theorem State.rput_ptpStamp (s : State) (g : Reg) (v : RegVal) : (s.rput g v).ptpStamp = s.ptpStamp := rfl
@[simp] theorem State.rput_ppsAt (s : State) (g : Reg) (v : RegVal) : (s.rput g v).ppsAt = s.ppsAt := rfl
@[simp] theorem State.rput_mem (s : State) (g : Reg) (v : RegVal) : (s.rput g v).mem = s.mem := rfl
@[simp] theorem State.rput_memEpoch (s : State) (g : Reg) (v : RegVal) : (s.rput g v).memEpoch = s.memEpoch := rfl
@[simp] theorem State.rput_ix (s : State) (g : Reg) (v : RegVal) : (s.rput g v).ix = s.ix := rfl
@[simp] theorem State.rput_ixOut (s : State) (g : Reg) (v : RegVal) : (s.rput g v).ixOut = s.ixOut := rfl
@[simp] theorem State.rput_doms (s : State) (g : Reg) (v : RegVal) : (s.rput g v).doms = s.doms := rfl
@[simp] theorem State.rput_epoch (s : State) (g : Reg) (v : RegVal) : (s.rput g v).epoch = s.epoch := rfl
@[simp] theorem State.rput_ups (s : State) (g : Reg) (v : RegVal) : (s.rput g v).ups = s.ups := rfl
@[simp] theorem State.rput_dns (s : State) (g : Reg) (v : RegVal) : (s.rput g v).dns = s.dns := rfl
@[simp] theorem State.rput_probes (s : State) (g : Reg) (v : RegVal) : (s.rput g v).probes = s.probes := rfl
@[simp] theorem State.rput_tapIr (s : State) (g : Reg) (v : RegVal) : (s.rput g v).tapIr = s.tapIr := rfl
@[simp] theorem State.rput_bscan (s : State) (g : Reg) (v : RegVal) : (s.rput g v).bscan = s.bscan := rfl
@[simp] theorem State.rput_dbgAcc (s : State) (g : Reg) (v : RegVal) : (s.rput g v).dbgAcc = s.dbgAcc := rfl
@[simp] theorem State.rput_dbgStatus (s : State) (g : Reg) (v : RegVal) : (s.rput g v).dbgStatus = s.dbgStatus := rfl
@[simp] theorem State.rput_dbgP (s : State) (g : Reg) (v : RegVal) : (s.rput g v).dbgP = s.dbgP := rfl
@[simp] theorem State.rput_dbgData (s : State) (g : Reg) (v : RegVal) : (s.rput g v).dbgData = s.dbgData := rfl
@[simp] theorem State.rput_bcap (s : State) (g : Reg) (v : RegVal) : (s.rput g v).bcap = s.bcap := rfl
@[simp] theorem State.rput_vin (s : State) (g : Reg) (v : RegVal) : (s.rput g v).vin = s.vin := rfl
@[simp] theorem State.rput_vbat (s : State) (g : Reg) (v : RegVal) : (s.rput g v).vbat = s.vbat := rfl
@[simp] theorem State.rput_bbGone (s : State) (g : Reg) (v : RegVal) : (s.rput g v).bbGone = s.bbGone := rfl
@[simp] theorem State.rput_hot (s : State) (g : Reg) (v : RegVal) : (s.rput g v).hot = s.hot := rfl
@[simp] theorem State.rput_bootDue (s : State) (g : Reg) (v : RegVal) : (s.rput g v).bootDue = s.bootDue := rfl

end Sys2Proof.Machine
end

