-- ==== Sys2Proof/Laws/Evolve.lean ====
section
/-! SUPPORT. What a command can do, said once and followed through every operation of the model: `Ev m s t` says that `t` came from `s` by changes to the fields of mask `m` alone, that the stores keep their canonical form, and that no fuse was undone and no counter of the model ran back. -/

namespace Sys2Proof

open Machine

/-- The bit of a field in a mask. -/
def Field.bit (f : Field) : Nat := f.ctorIdx

/-- A mask of fields lies in another. -/
def Sub (a m : Nat) : Prop := a ||| m = m

theorem Sub.refl (m : Nat) : Sub m m := by simp [Sub]

theorem Sub.trans {a b m : Nat} (h : Sub b m) (hab : a ||| b = b) : Sub a m := by
  unfold Sub at *
  rw [← h, ← Nat.or_assoc, hab]

theorem Sub.bit {a m i : Nat} (h : Sub a m) (hi : a.testBit i = true) : m.testBit i = true := by
  unfold Sub at h
  rw [← h, Nat.testBit_or, hi, Bool.true_or]

theorem Sub.no {a m i : Nat} {p : Prop} (h : Sub a m) (hi : a.testBit i = true) (hf : m.testBit i = false) : p := by
  rw [h.bit hi] at hf; cases hf

/-- What `t` may differ from `s` in, what both keep, and what cannot run back. -/
structure Ev (m : Nat) (s t : State) : Prop where
  frame : ∀ f : Field, m.testBit f.bit = false → f.same s t
  canon : Canonical s → Canonical t
  keeps : Irrevocable s t

/-- The same of a meaning's outcome, which is a next state. -/
def EvOut (m : Nat) (s : State) (o : Out) : Prop := ∃ t, o = .next t ∧ Ev m s t

/-- The same of a state that an operation may answer. -/
structure EvOpt (m : Nat) (s : State) (o : Option State) : Prop where
  get : ∀ t, o = some t → Ev m s t

theorem Irrevocable.refl (s : State) : Irrevocable s s :=
  ⟨Nat.le_refl _, Nat.le_refl _, Nat.le_refl _, Nat.le_refl _, id, fun _ h => h, fun _ h => h, fun _ _ h => h⟩

theorem Irrevocable.trans {s t u : State} (h : Irrevocable s t) (k : Irrevocable t u) : Irrevocable s u :=
  ⟨Nat.le_trans h.free k.free, Nat.le_trans h.epoch k.epoch, Nat.le_trans h.memEpoch k.memEpoch, Nat.le_trans h.fwsvn k.fwsvn,
   fun x => k.tkrev (h.tkrev x), fun i x => k.programmed i (h.programmed i x), fun i x => k.ownerRevoked i (h.ownerRevoked i x),
   fun i hi x => k.keyRevoked i hi (h.keyRevoked i hi x)⟩

theorem Ev.refl (m : Nat) (s : State) : Ev m s s :=
  ⟨fun f _ => by cases f <;> rfl, id, Irrevocable.refl s⟩

theorem EvOut.next {m : Nat} {s t : State} (h : Ev m s t) : EvOut m s (.next t) := ⟨t, rfl, h⟩

theorem EvOut.ite {m : Nat} {s : State} {c : Prop} [Decidable c] {a b : Out} (ha : c → EvOut m s a) (hb : ¬c → EvOut m s b) :
    EvOut m s (if c then a else b) := by split <;> simp_all

theorem EvOpt.none {m : Nat} {s : State} : EvOpt m s none := ⟨fun _ h => nomatch h⟩

theorem EvOpt.some {m : Nat} {s t : State} (h : Ev m s t) : EvOpt m s (some t) := ⟨fun _ h' => Option.some.inj h' ▸ h⟩

theorem EvOpt.ite {m : Nat} {s : State} {c : Prop} [Decidable c] {a b : Option State} (ha : c → EvOpt m s a) (hb : ¬c → EvOpt m s b) :
    EvOpt m s (if c then a else b) := by split <;> simp_all

theorem EvOpt.map {m : Nat} {s : State} {f : State → State} {o : Option State} (h : EvOpt m s o) (hf : ∀ t, Ev m s t → Ev m s (f t)) :
    EvOpt m s (o.map f) := ⟨fun t e => by
  cases o with
  | none => cases e
  | some u => cases e; exact hf u (h.get u rfl)⟩

theorem Ev.ite {m : Nat} {s : State} {c : Prop} [Decidable c] {a b : State} (ha : c → Ev m s a) (hb : ¬c → Ev m s b) :
    Ev m s (if c then a else b) := by split <;> simp_all

/-- The same of a state that comes with a value. -/
structure EvPair {β : Type} (m : Nat) (s : State) (x : State × β) : Prop where
  get : Ev m s x.1

theorem EvPair.pair {β : Type} {m : Nat} {s t : State} (b : β) (h : Ev m s t) : EvPair m s (t, b) := ⟨h⟩

theorem EvPair.ite {β : Type} {m : Nat} {s : State} {c : Prop} [Decidable c] {a b : State × β} (ha : c → EvPair m s a) (hb : ¬c → EvPair m s b) :
    EvPair m s (if c then a else b) := by split <;> simp_all

theorem Ev.elim {β : Type} {m : Nat} {s0 s : State} {o : Option β} {f : β → State} (h : Ev m s0 s) (hf : ∀ b, Ev m s0 (f b)) :
    Ev m s0 (o.elim s f) := by cases o <;> simp_all

theorem Ev.getD {m : Nat} {s0 s : State} {o : Option State} (h : Ev m s0 s) (ho : EvOpt m s0 o) : Ev m s0 (o.getD s) := by
  cases o with
  | none => exact h
  | some t => exact ho.get t rfl

theorem Ev.iter {m : Nat} {s0 s : State} (f : State → State) (hf : ∀ s, Ev m s0 s → Ev m s0 (f s)) (k : Nat) (h : Ev m s0 s) :
    Ev m s0 (iter f k s) := by
  induction k generalizing s with
  | zero => exact h
  | succ k ih => exact ih (hf s h)

/-- A change of some fields of a state: outside the mask nothing differs, the stores written keep their form, and nothing runs back. -/
theorem Ev.raw {m : Nat} {s0 s t : State} (h : Ev m s0 s) (hf : ∀ f : Field, m.testBit f.bit = false → f.same s t)
    (hc : Canonical s → Canonical t) (hk : Irrevocable s t) : Ev m s0 t := by
  refine ⟨fun f x => ?_, fun x => hc (h.canon x), h.keeps.trans hk⟩
  have a := h.frame f x
  have b := hf f x
  cases f <;> exact b.trans a

theorem Ev.fold {α : Type} {m : Nat} {s0 s : State} (h : Ev m s0 s) (l : List α) (f : State → α → State)
    (hf : ∀ s a, Ev m s0 s → Ev m s0 (f s a)) : Ev m s0 (l.foldl f s) := by
  induction l generalizing s with
  | nil => exact h
  | cons a t ih => exact ih (hf _ _ h)

theorem Ev.each {α : Type} {m : Nat} {s0 s : State} (h : Ev m s0 s) (l : List α) (f : State → α → State)
    (hf : ∀ s a, Ev m s0 s → Ev m s0 (f s a)) : Ev m s0 (s.each l f) := Ev.fold h l f hf

theorem Ev.setTport {m : Nat} {s0 s : State} (h : Ev m s0 s) (hm : Sub 32 m) (i : Nat) (x : TPort) : Ev m s0 (s.setTport i x) :=
  Ev.raw h (fun f hf => by cases f <;> first | exact hm.no rfl hf | rfl) (fun c => { c with tports := Store.wf_put _ _ _ c.tports }) { Irrevocable.refl s with }

theorem Ev.setTline {m : Nat} {s0 s : State} (h : Ev m s0 s) (hm : Sub 64 m) (i : Nat) (x : TLine) : Ev m s0 (s.setTline i x) :=
  Ev.raw h (fun f hf => by cases f <;> first | exact hm.no rfl hf | rfl) (fun c => { c with tlines := Store.wf_put _ _ _ c.tlines }) { Irrevocable.refl s with }

theorem Ev.setSpine {m : Nat} {s0 s : State} (h : Ev m s0 s) (hm : Sub 8192 m) (i : Nat) (x : Frame) : Ev m s0 (s.setSpine i x) :=
  Ev.raw h (fun f hf => by cases f <;> first | exact hm.no rfl hf | rfl) (fun c => { c with spine := Store.wf_put _ _ _ c.spine }) { Irrevocable.refl s with }

theorem Ev.setCell {m : Nat} {s0 s : State} (h : Ev m s0 s) (hm : Sub 16384 m) (i : Nat) (x : Cell) : Ev m s0 (s.setCell i x) :=
  Ev.raw h (fun f hf => by cases f <;> first | exact hm.no rfl hf | rfl) (fun c => { c with cells := Store.wf_put _ _ _ c.cells }) { Irrevocable.refl s with }

theorem Ev.setRegion {m : Nat} {s0 s : State} (h : Ev m s0 s) (hm : Sub 32768 m) (i : Nat) (x : Region) : Ev m s0 (s.setRegion i x) :=
  Ev.raw h (fun f hf => by cases f <;> first | exact hm.no rfl hf | rfl) (fun c => { c with regions := Store.wf_put _ _ _ c.regions }) { Irrevocable.refl s with }

theorem Ev.setClu {m : Nat} {s0 s : State} (h : Ev m s0 s) (hm : Sub 65536 m) (i : Nat) (x : Clu) : Ev m s0 (s.setClu i x) :=
  Ev.raw h (fun f hf => by cases f <;> first | exact hm.no rfl hf | rfl) (fun c => { c with clus := Store.wf_put _ _ _ c.clus }) { Irrevocable.refl s with }

theorem Ev.setChan {m : Nat} {s0 s : State} (h : Ev m s0 s) (hm : Sub 262144 m) (i : Nat) (x : Chan) : Ev m s0 (s.setChan i x) :=
  Ev.raw h (fun f hf => by cases f <;> first | exact hm.no rfl hf | rfl) (fun c => { c with chans := Store.wf_put _ _ _ c.chans }) { Irrevocable.refl s with }

theorem Ev.setAport {m : Nat} {s0 s : State} (h : Ev m s0 s) (hm : Sub 524288 m) (i : Nat) (x : APort) : Ev m s0 (s.setAport i x) :=
  Ev.raw h (fun f hf => by cases f <;> first | exact hm.no rfl hf | rfl) (fun c => { c with aports := Store.wf_put _ _ _ c.aports }) { Irrevocable.refl s with }

theorem Ev.setBline {m : Nat} {s0 s : State} (h : Ev m s0 s) (hm : Sub 1048576 m) (i : Nat) (x : BLine) : Ev m s0 (s.setBline i x) :=
  Ev.raw h (fun f hf => by cases f <;> first | exact hm.no rfl hf | rfl) (fun c => { c with blines := Store.wf_put _ _ _ c.blines }) { Irrevocable.refl s with }

theorem Ev.setBsrc {m : Nat} {s0 s : State} (h : Ev m s0 s) (hm : Sub 2097152 m) (i : Nat) (x : Option Tok) : Ev m s0 (s.setBsrc i x) :=
  Ev.raw h (fun f hf => by cases f <;> first | exact hm.no rfl hf | rfl) (fun c => { c with bsrcs := Store.wf_put _ _ _ c.bsrcs }) { Irrevocable.refl s with }

theorem Ev.setBport {m : Nat} {s0 s : State} (h : Ev m s0 s) (hm : Sub 4194304 m) (i : Nat) (x : BPort) : Ev m s0 (s.setBport i x) :=
  Ev.raw h (fun f hf => by cases f <;> first | exact hm.no rfl hf | rfl) (fun c => { c with bports := Store.wf_put _ _ _ c.bports }) { Irrevocable.refl s with }

theorem Ev.setTwin {m : Nat} {s0 s : State} (h : Ev m s0 s) (hm : Sub 8388608 m) (i : Nat) (x : Option Tok) : Ev m s0 (s.setTwin i x) :=
  Ev.raw h (fun f hf => by cases f <;> first | exact hm.no rfl hf | rfl) (fun c => { c with twins := Store.wf_put _ _ _ c.twins }) { Irrevocable.refl s with }

theorem Ev.setLaneArb {m : Nat} {s0 s : State} (h : Ev m s0 s) (hm : Sub 16777216 m) (i : Nat) (x : LaneArb) : Ev m s0 (s.setLaneArb i x) :=
  Ev.raw h (fun f hf => by cases f <;> first | exact hm.no rfl hf | rfl) (fun c => { c with lanes := Store.wf_put _ _ _ c.lanes }) { Irrevocable.refl s with }

theorem Ev.setPair {m : Nat} {s0 s : State} (h : Ev m s0 s) (hm : Sub 134217728 m) (i : Nat) (x : PairSt) : Ev m s0 (s.setPair i x) :=
  Ev.raw h (fun f hf => by cases f <;> first | exact hm.no rfl hf | rfl) (fun c => { c with pairs := Store.wf_put _ _ _ c.pairs }) { Irrevocable.refl s with }

theorem Ev.setSwap {m : Nat} {s0 s : State} (h : Ev m s0 s) (hm : Sub 1073741824 m) (i : Nat) (x : Option Nat) : Ev m s0 (s.setSwap i x) :=
  Ev.raw h (fun f hf => by cases f <;> first | exact hm.no rfl hf | rfl) (fun c => { c with swapWant := Store.wf_put _ _ _ c.swapWant }) { Irrevocable.refl s with }

theorem Ev.setBmem {m : Nat} {s0 s : State} (h : Ev m s0 s) (hm : Sub 2147483648 m) (i : Nat) (x : BMem) : Ev m s0 (s.setBmem i x) :=
  Ev.raw h (fun f hf => by cases f <;> first | exact hm.no rfl hf | rfl) (fun c => { c with bmems := Store.wf_put _ _ _ c.bmems }) { Irrevocable.refl s with }

theorem Ev.setBbyte {m : Nat} {s0 s : State} (h : Ev m s0 s) (hm : Sub 4294967296 m) (i : Nat) (x : Option (Byte × Bool)) : Ev m s0 (s.setBbyte i x) :=
  Ev.raw h (fun f hf => by cases f <;> first | exact hm.no rfl hf | rfl) (fun c => { c with bbytes := Store.wf_put _ _ _ c.bbytes }) { Irrevocable.refl s with }

theorem Ev.setBank {m : Nat} {s0 s : State} (h : Ev m s0 s) (hm : Sub 8589934592 m) (i : Nat) (x : Bank) : Ev m s0 (s.setBank i x) :=
  Ev.raw h (fun f hf => by cases f <;> first | exact hm.no rfl hf | rfl) (fun c => { c with banks := Store.wf_put _ _ _ c.banks }) { Irrevocable.refl s with }

theorem Ev.setSword {m : Nat} {s0 s : State} (h : Ev m s0 s) (hm : Sub 17179869184 m) (i : Nat) (x : Option (Word × BitVec 39)) : Ev m s0 (s.setSword i x) :=
  Ev.raw h (fun f hf => by cases f <;> first | exact hm.no rfl hf | rfl) (fun c => { c with swords := Store.wf_put _ _ _ c.swords }) { Irrevocable.refl s with }

theorem Ev.setHop {m : Nat} {s0 s : State} (h : Ev m s0 s) (hm : Sub 34359738368 m) (i : Nat) (x : Hop) : Ev m s0 (s.setHop i x) :=
  Ev.raw h (fun f hf => by cases f <;> first | exact hm.no rfl hf | rfl) (fun c => { c with hops := Store.wf_put _ _ _ c.hops }) { Irrevocable.refl s with }

theorem Ev.setPin {m : Nat} {s0 s : State} (h : Ev m s0 s) (hm : Sub 68719476736 m) (i : Nat) (x : Pin) : Ev m s0 (s.setPin i x) :=
  Ev.raw h (fun f hf => by cases f <;> first | exact hm.no rfl hf | rfl) (fun c => { c with pins := Store.wf_put _ _ _ c.pins }) { Irrevocable.refl s with }

theorem Ev.setSpinePrev {m : Nat} {s0 s : State} (h : Ev m s0 s) (hm : Sub 137438953472 m) (i : Nat) (x : Frame) : Ev m s0 (s.setSpinePrev i x) :=
  Ev.raw h (fun f hf => by cases f <;> first | exact hm.no rfl hf | rfl) (fun c => { c with spinePrevs := Store.wf_put _ _ _ c.spinePrevs }) { Irrevocable.refl s with }

theorem Ev.setPad {m : Nat} {s0 s : State} (h : Ev m s0 s) (hm : Sub 274877906944 m) (i : Nat) (x : Pad) : Ev m s0 (s.setPad i x) :=
  Ev.raw h (fun f hf => by cases f <;> first | exact hm.no rfl hf | rfl) (fun c => { c with pads := Store.wf_put _ _ _ c.pads }) { Irrevocable.refl s with }

theorem Ev.setGroup {m : Nat} {s0 s : State} (h : Ev m s0 s) (hm : Sub 549755813888 m) (i : Nat) (x : Group) : Ev m s0 (s.setGroup i x) :=
  Ev.raw h (fun f hf => by cases f <;> first | exact hm.no rfl hf | rfl) (fun c => { c with groups := Store.wf_put _ _ _ c.groups }) { Irrevocable.refl s with }

theorem Ev.setClink {m : Nat} {s0 s : State} (h : Ev m s0 s) (hm : Sub 1099511627776 m) (i : Nat) (x : CLink) : Ev m s0 (s.setClink i x) :=
  Ev.raw h (fun f hf => by cases f <;> first | exact hm.no rfl hf | rfl) (fun c => { c with links := Store.wf_put _ _ _ c.links }) { Irrevocable.refl s with }

theorem Ev.setReasm {m : Nat} {s0 s : State} (h : Ev m s0 s) (hm : Sub 2199023255552 m) (i : Nat) (x : Reasm) : Ev m s0 (s.setReasm i x) :=
  Ev.raw h (fun f hf => by cases f <;> first | exact hm.no rfl hf | rfl) (fun c => { c with reasms := Store.wf_put _ _ _ c.reasms }) { Irrevocable.refl s with }

theorem Ev.setCpark {m : Nat} {s0 s : State} (h : Ev m s0 s) (hm : Sub 2251799813685248 m) (i : Nat) (x : Nat) : Ev m s0 (s.setCpark i x) :=
  Ev.raw h (fun f hf => by cases f <;> first | exact hm.no rfl hf | rfl) (fun c => { c with cparks := Store.wf_put _ _ _ c.cparks }) { Irrevocable.refl s with }

theorem Ev.setCrc {m : Nat} {s0 s : State} (h : Ev m s0 s) (hm : Sub 4503599627370496 m) (i : Nat) (x : Option Word) : Ev m s0 (s.setCrc i x) :=
  Ev.raw h (fun f hf => by cases f <;> first | exact hm.no rfl hf | rfl) (fun c => { c with crcs := Store.wf_put _ _ _ c.crcs }) { Irrevocable.refl s with }

theorem Ev.setRimg {m : Nat} {s0 s : State} (h : Ev m s0 s) (hm : Sub 36028797018963968 m) (i : Nat) (x : Nat) : Ev m s0 (s.setRimg i x) :=
  Ev.raw h (fun f hf => by cases f <;> first | exact hm.no rfl hf | rfl) (fun c => { c with rimgs := Store.wf_put _ _ _ c.rimgs }) { Irrevocable.refl s with }

theorem Ev.setUart {m : Nat} {s0 s : State} (h : Ev m s0 s) (hm : Sub 1180591620717411303424 m) (i : Nat) (x : Uart) : Ev m s0 (s.setUart i x) :=
  Ev.raw h (fun f hf => by cases f <;> first | exact hm.no rfl hf | rfl) (fun c => { c with uarts := Store.wf_put _ _ _ c.uarts }) { Irrevocable.refl s with }

theorem Ev.setI2c {m : Nat} {s0 s : State} (h : Ev m s0 s) (hm : Sub 4722366482869645213696 m) (i : Nat) (x : I2c) : Ev m s0 (s.setI2c i x) :=
  Ev.raw h (fun f hf => by cases f <;> first | exact hm.no rfl hf | rfl) (fun c => { c with i2cs := Store.wf_put _ _ _ c.i2cs }) { Irrevocable.refl s with }

theorem Ev.setCore {m : Nat} {s0 s : State} (h : Ev m s0 s) (hm : Sub 9444732965739290427392 m) (i : Nat) (x : Core) : Ev m s0 (s.setCore i x) :=
  Ev.raw h (fun f hf => by cases f <;> first | exact hm.no rfl hf | rfl) (fun c => { c with cores := Store.wf_put _ _ _ c.cores }) { Irrevocable.refl s with }

theorem Ev.setWdg {m : Nat} {s0 s : State} (h : Ev m s0 s) (hm : Sub 18889465931478580854784 m) (i : Nat) (x : Wdg) : Ev m s0 (s.setWdg i x) :=
  Ev.raw h (fun f hf => by cases f <;> first | exact hm.no rfl hf | rfl) (fun c => { c with wdgs := Store.wf_put _ _ _ c.wdgs }) { Irrevocable.refl s with }

theorem Ev.setGext {m : Nat} {s0 s : State} (h : Ev m s0 s) (hm : Sub 37778931862957161709568 m) (i : Nat) (x : Option Bool) : Ev m s0 (s.setGext i x) :=
  Ev.raw h (fun f hf => by cases f <;> first | exact hm.no rfl hf | rfl) (fun c => { c with gexts := Store.wf_put _ _ _ c.gexts }) { Irrevocable.refl s with }

theorem Ev.setGkeep {m : Nat} {s0 s : State} (h : Ev m s0 s) (hm : Sub 75557863725914323419136 m) (i : Nat) (x : Bool) : Ev m s0 (s.setGkeep i x) :=
  Ev.raw h (fun f hf => by cases f <;> first | exact hm.no rfl hf | rfl) (fun c => { c with gkeeps := Store.wf_put _ _ _ c.gkeeps }) { Irrevocable.refl s with }

theorem Ev.setGline {m : Nat} {s0 s : State} (h : Ev m s0 s) (hm : Sub 151115727451828646838272 m) (i : Nat) (x : Option Bool) : Ev m s0 (s.setGline i x) :=
  Ev.raw h (fun f hf => by cases f <;> first | exact hm.no rfl hf | rfl) (fun c => { c with glines := Store.wf_put _ _ _ c.glines }) { Irrevocable.refl s with }

theorem Ev.setMemByte {m : Nat} {s0 s : State} (h : Ev m s0 s) (hm : Sub 9671406556917033397649408 m) (i : Nat) (x : Option Byte) : Ev m s0 (s.setMemByte i x) :=
  Ev.raw h (fun f hf => by cases f <;> first | exact hm.no rfl hf | rfl) (fun c => { c with mem := Store.wf_put _ _ _ c.mem }) { Irrevocable.refl s with }

theorem Ev.setDomSt {m : Nat} {s0 s : State} (h : Ev m s0 s) (hm : Sub 154742504910672534362390528 m) (i : Nat) (x : DomSt) : Ev m s0 (s.setDomSt i x) :=
  Ev.raw h (fun f hf => by cases f <;> first | exact hm.no rfl hf | rfl) (fun c => { c with doms := Store.wf_put _ _ _ c.doms }) { Irrevocable.refl s with }

theorem Ev.setUpf {m : Nat} {s0 s : State} (h : Ev m s0 s) (hm : Sub 618970019642690137449562112 m) (i : Nat) (x : Ferry) : Ev m s0 (s.setUpf i x) :=
  Ev.raw h (fun f hf => by cases f <;> first | exact hm.no rfl hf | rfl) (fun c => { c with ups := Store.wf_put _ _ _ c.ups }) { Irrevocable.refl s with }

theorem Ev.setDnf {m : Nat} {s0 s : State} (h : Ev m s0 s) (hm : Sub 1237940039285380274899124224 m) (i : Nat) (x : Ferry) : Ev m s0 (s.setDnf i x) :=
  Ev.raw h (fun f hf => by cases f <;> first | exact hm.no rfl hf | rfl) (fun c => { c with dns := Store.wf_put _ _ _ c.dns }) { Irrevocable.refl s with }

theorem Ev.setProbe {m : Nat} {s0 s : State} (h : Ev m s0 s) (hm : Sub 2475880078570760549798248448 m) (i : Nat) (x : Probe) : Ev m s0 (s.setProbe i x) :=
  Ev.raw h (fun f hf => by cases f <;> first | exact hm.no rfl hf | rfl) (fun c => { c with probes := Store.wf_put _ _ _ c.probes }) { Irrevocable.refl s with }

theorem Ev.rput {m : Nat} {s0 s : State} (h : Ev m s0 s) (hm : Sub 8 m) (g : Reg) (v : RegVal) : Ev m s0 (s.rput g v) :=
  Ev.raw h (fun f hf => by cases f <;> first | exact hm.no rfl hf | rfl) (fun c => { c with regs := Store.rising_put _ _ _ c.regs }) { Irrevocable.refl s with }

theorem Ev.setKslot {m : Nat} {s0 s : State} (h : Ev m s0 s) (hm : Sub 576460752303423488 m) (i : Nat) (x : KSlot)
    (hx : i < 4 → (s.kslot i).st = 2 → x.st = 2) : Ev m s0 (s.setKslot i x) := by
  have k : ∀ j, j < 4 → (s.kslot j).st = 2 → ((s.setKslot i x).kslot j).st = 2 := by
    intro j hj e
    by_cases hji : j = i
    · subst hji; rw [State.kslot_setKslot_same]; exact hx hj e
    · rw [State.kslot_setKslot_ne _ _ _ _ hji]; exact e
  exact Ev.raw h (fun f hf => by cases f <;> first | exact hm.no rfl hf | rfl) (fun c => { c with kslots := Store.wf_put _ _ _ c.kslots })
    { Irrevocable.refl s with keyRevoked := k }

theorem Ev.setOslot {m : Nat} {s0 s : State} (h : Ev m s0 s) (hm : Sub 1152921504606846976 m) (i : Nat) (x : OSlot)
    (hp : (s.oslot i).prog = true → x.prog = true) (hr : (s.oslot i).rev = true → x.rev = true) : Ev m s0 (s.setOslot i x) := by
  have k1 : ∀ j, (s.oslot j).prog = true → ((s.setOslot i x).oslot j).prog = true := by
    intro j e
    by_cases hji : j = i
    · subst hji; rw [State.oslot_setOslot_same]; exact hp e
    · rw [State.oslot_setOslot_ne _ _ _ _ hji]; exact e
  have k2 : ∀ j, (s.oslot j).rev = true → ((s.setOslot i x).oslot j).rev = true := by
    intro j e
    by_cases hji : j = i
    · subst hji; rw [State.oslot_setOslot_same]; exact hr e
    · rw [State.oslot_setOslot_ne _ _ _ _ hji]; exact e
  exact Ev.raw h (fun f hf => by cases f <;> first | exact hm.no rfl hf | rfl) (fun c => { c with oslots := Store.wf_put _ _ _ c.oslots })
    { Irrevocable.refl s with programmed := k1, ownerRevoked := k2 }

theorem Ev.set_free {m : Nat} {s0 s : State} (h : Ev m s0 s) (hm : Sub 2 m) {x_free : Nat} (m_free : s.free ≤ x_free) :
    Ev m s0 { s with free := x_free } :=
  Ev.raw h (fun f hf => by cases f <;> first | exact hm.no rfl hf | rfl) (fun c => { c with  }) { Irrevocable.refl s with free := m_free }

theorem Ev.set_flights {m : Nat} {s0 s : State} (h : Ev m s0 s) (hm : Sub 33554432 m) {x_flights : List Flight} :
    Ev m s0 { s with flights := x_flights } :=
  Ev.raw h (fun f hf => by cases f <;> first | exact hm.no rfl hf | rfl) (fun c => { c with  }) { Irrevocable.refl s with  }

theorem Ev.set_flights_nextId {m : Nat} {s0 s : State} (h : Ev m s0 s) (hm : Sub 100663296 m) {x_flights : List Flight} {x_nextId : Nat} :
    Ev m s0 { s with flights := x_flights, nextId := x_nextId } :=
  Ev.raw h (fun f hf => by cases f <;> first | exact hm.no rfl hf | rfl) (fun c => { c with  }) { Irrevocable.refl s with  }

theorem Ev.set_spareQ {m : Nat} {s0 s : State} (h : Ev m s0 s) (hm : Sub 536870912 m) {x_spareQ : List Nat} :
    Ev m s0 { s with spareQ := x_spareQ } :=
  Ev.raw h (fun f hf => by cases f <;> first | exact hm.no rfl hf | rfl) (fun c => { c with  }) { Irrevocable.refl s with  }

theorem Ev.set_twins {m : Nat} {s0 s : State} (h : Ev m s0 s) (hm : Sub 8388608 m) {x_twins : Store (Option Tok)} (c_twins : Store.wf none s.twins = true → Store.wf none x_twins = true) :
    Ev m s0 { s with twins := x_twins } :=
  Ev.raw h (fun f hf => by cases f <;> first | exact hm.no rfl hf | rfl) (fun c => { c with twins := c_twins c.twins }) { Irrevocable.refl s with  }

theorem Ev.set_toldFaults {m : Nat} {s0 s : State} (h : Ev m s0 s) (hm : Sub 288230376151711744 m) {x_toldFaults : List (Nat × Nat × Nat)} :
    Ev m s0 { s with toldFaults := x_toldFaults } :=
  Ev.raw h (fun f hf => by cases f <;> first | exact hm.no rfl hf | rfl) (fun c => { c with  }) { Irrevocable.refl s with  }

theorem Ev.set_codePend {m : Nat} {s0 s : State} (h : Ev m s0 s) (hm : Sub 268435456 m) {x_codePend : List Nat} :
    Ev m s0 { s with codePend := x_codePend } :=
  Ev.raw h (fun f hf => by cases f <;> first | exact hm.no rfl hf | rfl) (fun c => { c with  }) { Irrevocable.refl s with  }

theorem Ev.set_nextId {m : Nat} {s0 s : State} (h : Ev m s0 s) (hm : Sub 67108864 m) {x_nextId : Nat} :
    Ev m s0 { s with nextId := x_nextId } :=
  Ev.raw h (fun f hf => by cases f <;> first | exact hm.no rfl hf | rfl) (fun c => { c with  }) { Irrevocable.refl s with  }

theorem Ev.set_cfg {m : Nat} {s0 s : State} (h : Ev m s0 s) (hm : Sub 131072 m) {x_cfg : Store Byte} (c_cfg : Store.wf 0#8 s.cfg = true → Store.wf 0#8 x_cfg = true) :
    Ev m s0 { s with cfg := x_cfg } :=
  Ev.raw h (fun f hf => by cases f <;> first | exact hm.no rfl hf | rfl) (fun c => { c with cfg := c_cfg c.cfg }) { Irrevocable.refl s with  }

theorem Ev.set_bbytes {m : Nat} {s0 s : State} (h : Ev m s0 s) (hm : Sub 4294967296 m) {x_bbytes : Store (Option (Byte × Bool))} (c_bbytes : Store.wf none s.bbytes = true → Store.wf none x_bbytes = true) :
    Ev m s0 { s with bbytes := x_bbytes } :=
  Ev.raw h (fun f hf => by cases f <;> first | exact hm.no rfl hf | rfl) (fun c => { c with bbytes := c_bbytes c.bbytes }) { Irrevocable.refl s with  }

theorem Ev.set_epoch {m : Nat} {s0 s : State} (h : Ev m s0 s) (hm : Sub 309485009821345068724781056 m) {x_epoch : Nat} (m_epoch : s.epoch ≤ x_epoch) :
    Ev m s0 { s with epoch := x_epoch } :=
  Ev.raw h (fun f hf => by cases f <;> first | exact hm.no rfl hf | rfl) (fun c => { c with  }) { Irrevocable.refl s with epoch := m_epoch }

theorem Ev.set_swords {m : Nat} {s0 s : State} (h : Ev m s0 s) (hm : Sub 17179869184 m) {x_swords : Store (Option (Word × BitVec 39))} (c_swords : Store.wf none s.swords = true → Store.wf none x_swords = true) :
    Ev m s0 { s with swords := x_swords } :=
  Ev.raw h (fun f hf => by cases f <;> first | exact hm.no rfl hf | rfl) (fun c => { c with swords := c_swords c.swords }) { Irrevocable.refl s with  }

theorem Ev.set_calReq {m : Nat} {s0 s : State} (h : Ev m s0 s) (hm : Sub 1024 m) {x_calReq : Bool} :
    Ev m s0 { s with calReq := x_calReq } :=
  Ev.raw h (fun f hf => by cases f <;> first | exact hm.no rfl hf | rfl) (fun c => { c with  }) { Irrevocable.refl s with  }

theorem Ev.set_ptp_ptpGo_ptpMark {m : Nat} {s0 s : State} (h : Ev m s0 s) (hm : Sub 896 m) {x_ptp : Nat} {x_ptpGo : Bool} {x_ptpMark : Int} :
    Ev m s0 { s with ptp := x_ptp, ptpGo := x_ptpGo, ptpMark := x_ptpMark } :=
  Ev.raw h (fun f hf => by cases f <;> first | exact hm.no rfl hf | rfl) (fun c => { c with  }) { Irrevocable.refl s with  }

theorem Ev.set_time {m : Nat} {s0 s : State} (h : Ev m s0 s) (hm : Sub 4 m) {x_time : Nat} :
    Ev m s0 { s with time := x_time } :=
  Ev.raw h (fun f hf => by cases f <;> first | exact hm.no rfl hf | rfl) (fun c => { c with  }) { Irrevocable.refl s with  }

theorem Ev.set_ptpMark_interval_frames {m : Nat} {s0 s : State} (h : Ev m s0 s) (hm : Sub 6656 m) {x_ptpMark : Int} {x_interval : Nat} {x_frames : List Frame} :
    Ev m s0 { s with ptpMark := x_ptpMark, interval := x_interval, frames := x_frames } :=
  Ev.raw h (fun f hf => by cases f <;> first | exact hm.no rfl hf | rfl) (fun c => { c with  }) { Irrevocable.refl s with  }

theorem Ev.set_rdata {m : Nat} {s0 s : State} (h : Ev m s0 s) (hm : Sub 16 m) {x_rdata : RegVal} :
    Ev m s0 { s with rdata := x_rdata } :=
  Ev.raw h (fun f hf => by cases f <;> first | exact hm.no rfl hf | rfl) (fun c => { c with  }) { Irrevocable.refl s with  }

theorem Ev.set_lateTags {m : Nat} {s0 s : State} (h : Ev m s0 s) (hm : Sub 8796093022208 m) {x_lateTags : List (Nat × Nat)} :
    Ev m s0 { s with lateTags := x_lateTags } :=
  Ev.raw h (fun f hf => by cases f <;> first | exact hm.no rfl hf | rfl) (fun c => { c with  }) { Irrevocable.refl s with  }

theorem Ev.set_mgmtIn {m : Nat} {s0 s : State} (h : Ev m s0 s) (hm : Sub 4398046511104 m) {x_mgmtIn : List (Nat × List Byte)} :
    Ev m s0 { s with mgmtIn := x_mgmtIn } :=
  Ev.raw h (fun f hf => by cases f <;> first | exact hm.no rfl hf | rfl) (fun c => { c with  }) { Irrevocable.refl s with  }

theorem Ev.set_cells_bports_twins {m : Nat} {s0 s : State} (h : Ev m s0 s) (hm : Sub 12599296 m) {x_cells : Store Cell} {x_bports : Store BPort} {x_twins : Store (Option Tok)} (c_cells : Store.wf {} s.cells = true → Store.wf {} x_cells = true) (c_bports : Store.wf {} s.bports = true → Store.wf {} x_bports = true) (c_twins : Store.wf none s.twins = true → Store.wf none x_twins = true) :
    Ev m s0 { s with cells := x_cells, bports := x_bports, twins := x_twins } :=
  Ev.raw h (fun f hf => by cases f <;> first | exact hm.no rfl hf | rfl) (fun c => { c with cells := c_cells c.cells, bports := c_bports c.bports, twins := c_twins c.twins }) { Irrevocable.refl s with  }

theorem Ev.set_regs_spine_regions_clus_chans_aports_blines_bsrcs_lanes_pairs_swapWant_hops_pins_spinePrevs {m : Nat} {s0 s : State} (h : Ev m s0 s) (hm : Sub 241746944008 m) {x_regs : Store RegVal} {x_spine : Store Frame} {x_regions : Store Region} {x_clus : Store Clu} {x_chans : Store Chan} {x_aports : Store APort} {x_blines : Store BLine} {x_bsrcs : Store (Option Tok)} {x_lanes : Store LaneArb} {x_pairs : Store PairSt} {x_swapWant : Store (Option Nat)} {x_hops : Store Hop} {x_pins : Store Pin} {x_spinePrevs : Store Frame} (c_regs : Store.rising none s.regs = true → Store.rising none x_regs = true) (c_spine : Store.wf {} s.spine = true → Store.wf {} x_spine = true) (c_regions : Store.wf {} s.regions = true → Store.wf {} x_regions = true) (c_clus : Store.wf {} s.clus = true → Store.wf {} x_clus = true) (c_chans : Store.wf {} s.chans = true → Store.wf {} x_chans = true) (c_aports : Store.wf {} s.aports = true → Store.wf {} x_aports = true) (c_blines : Store.wf {} s.blines = true → Store.wf {} x_blines = true) (c_bsrcs : Store.wf none s.bsrcs = true → Store.wf none x_bsrcs = true) (c_lanes : Store.wf {} s.lanes = true → Store.wf {} x_lanes = true) (c_pairs : Store.wf {} s.pairs = true → Store.wf {} x_pairs = true) (c_swapWant : Store.wf none s.swapWant = true → Store.wf none x_swapWant = true) (c_hops : Store.wf {} s.hops = true → Store.wf {} x_hops = true) (c_pins : Store.wf {} s.pins = true → Store.wf {} x_pins = true) (c_spinePrevs : Store.wf {} s.spinePrevs = true → Store.wf {} x_spinePrevs = true) :
    Ev m s0 { s with regs := x_regs, spine := x_spine, regions := x_regions, clus := x_clus, chans := x_chans, aports := x_aports, blines := x_blines, bsrcs := x_bsrcs, lanes := x_lanes, pairs := x_pairs, swapWant := x_swapWant, hops := x_hops, pins := x_pins, spinePrevs := x_spinePrevs } :=
  Ev.raw h (fun f hf => by cases f <;> first | exact hm.no rfl hf | rfl) (fun c => { c with regs := c_regs c.regs, spine := c_spine c.spine, regions := c_regions c.regions, clus := c_clus c.clus, chans := c_chans c.chans, aports := c_aports c.aports, blines := c_blines c.blines, bsrcs := c_bsrcs c.bsrcs, lanes := c_lanes c.lanes, pairs := c_pairs c.pairs, swapWant := c_swapWant c.swapWant, hops := c_hops c.hops, pins := c_pins c.pins, spinePrevs := c_spinePrevs c.spinePrevs }) { Irrevocable.refl s with  }

theorem Ev.set_uarts_spi_i2cs {m : Nat} {s0 s : State} (h : Ev m s0 s) (hm : Sub 8264141345021879123968 m) {x_uarts : Store Uart} {x_spi : Spi} {x_i2cs : Store I2c} (c_uarts : Store.wf {} s.uarts = true → Store.wf {} x_uarts = true) (c_i2cs : Store.wf {} s.i2cs = true → Store.wf {} x_i2cs = true) :
    Ev m s0 { s with uarts := x_uarts, spi := x_spi, i2cs := x_i2cs } :=
  Ev.raw h (fun f hf => by cases f <;> first | exact hm.no rfl hf | rfl) (fun c => { c with uarts := c_uarts c.uarts, i2cs := c_i2cs c.i2cs }) { Irrevocable.refl s with  }

theorem Ev.set_regs {m : Nat} {s0 s : State} (h : Ev m s0 s) (hm : Sub 8 m) {x_regs : Store RegVal} (c_regs : Store.rising none s.regs = true → Store.rising none x_regs = true) :
    Ev m s0 { s with regs := x_regs } :=
  Ev.raw h (fun f hf => by cases f <;> first | exact hm.no rfl hf | rfl) (fun c => { c with regs := c_regs c.regs }) { Irrevocable.refl s with  }

theorem Ev.set_spareQ_slices {m : Nat} {s0 s : State} (h : Ev m s0 s) (hm : Sub 17592722915328 m) {x_spareQ : List Nat} {x_slices : List Slice} :
    Ev m s0 { s with spareQ := x_spareQ, slices := x_slices } :=
  Ev.raw h (fun f hf => by cases f <;> first | exact hm.no rfl hf | rfl) (fun c => { c with  }) { Irrevocable.refl s with  }

theorem Ev.set_gold_crcs {m : Nat} {s0 s : State} (h : Ev m s0 s) (hm : Sub 5629499534213120 m) {x_gold : Store Byte} {x_crcs : Store (Option Word)} (c_gold : Store.wf 0#8 s.gold = true → Store.wf 0#8 x_gold = true) (c_crcs : Store.wf none s.crcs = true → Store.wf none x_crcs = true) :
    Ev m s0 { s with gold := x_gold, crcs := x_crcs } :=
  Ev.raw h (fun f hf => by cases f <;> first | exact hm.no rfl hf | rfl) (fun c => { c with gold := c_gold c.gold, crcs := c_crcs c.crcs }) { Irrevocable.refl s with  }

theorem Ev.set_chans_flights {m : Nat} {s0 s : State} (h : Ev m s0 s) (hm : Sub 33816576 m) {x_chans : Store Chan} {x_flights : List Flight} (c_chans : Store.wf {} s.chans = true → Store.wf {} x_chans = true) :
    Ev m s0 { s with chans := x_chans, flights := x_flights } :=
  Ev.raw h (fun f hf => by cases f <;> first | exact hm.no rfl hf | rfl) (fun c => { c with chans := c_chans c.chans }) { Irrevocable.refl s with  }

theorem Ev.set_chans {m : Nat} {s0 s : State} (h : Ev m s0 s) (hm : Sub 262144 m) {x_chans : Store Chan} (c_chans : Store.wf {} s.chans = true → Store.wf {} x_chans = true) :
    Ev m s0 { s with chans := x_chans } :=
  Ev.raw h (fun f hf => by cases f <;> first | exact hm.no rfl hf | rfl) (fun c => { c with chans := c_chans c.chans }) { Irrevocable.refl s with  }

theorem Ev.set_load_loadEnded_cmpNews {m : Nat} {s0 s : State} (h : Ev m s0 s) (hm : Sub 604462919095988818804736 m) {x_load : Option Load} {x_loadEnded : Option Nat} {x_cmpNews : Bool} :
    Ev m s0 { s with load := x_load, loadEnded := x_loadEnded, cmpNews := x_cmpNews } :=
  Ev.raw h (fun f hf => by cases f <;> first | exact hm.no rfl hf | rfl) (fun c => { c with  }) { Irrevocable.refl s with  }

theorem Ev.set_load_loadAsked {m : Nat} {s0 s : State} (h : Ev m s0 s) (hm : Sub 144396663052566528 m) {x_load : Option Load} {x_loadAsked : Bool} :
    Ev m s0 { s with load := x_load, loadAsked := x_loadAsked } :=
  Ev.raw h (fun f hf => by cases f <;> first | exact hm.no rfl hf | rfl) (fun c => { c with  }) { Irrevocable.refl s with  }

theorem Ev.set_load {m : Nat} {s0 s : State} (h : Ev m s0 s) (hm : Sub 281474976710656 m) {x_load : Option Load} :
    Ev m s0 { s with load := x_load } :=
  Ev.raw h (fun f hf => by cases f <;> first | exact hm.no rfl hf | rfl) (fun c => { c with  }) { Irrevocable.refl s with  }

theorem Ev.set_staged {m : Nat} {s0 s : State} (h : Ev m s0 s) (hm : Sub 72057594037927936 m) {x_staged : Option (List Byte)} :
    Ev m s0 { s with staged := x_staged } :=
  Ev.raw h (fun f hf => by cases f <;> first | exact hm.no rfl hf | rfl) (fun c => { c with  }) { Irrevocable.refl s with  }

theorem Ev.set_imgHash {m : Nat} {s0 s : State} (h : Ev m s0 s) (hm : Sub 18014398509481984 m) {x_imgHash : List Byte} :
    Ev m s0 { s with imgHash := x_imgHash } :=
  Ev.raw h (fun f hf => by cases f <;> first | exact hm.no rfl hf | rfl) (fun c => { c with  }) { Irrevocable.refl s with  }

theorem Ev.set_gold {m : Nat} {s0 s : State} (h : Ev m s0 s) (hm : Sub 1125899906842624 m) {x_gold : Store Byte} (c_gold : Store.wf 0#8 s.gold = true → Store.wf 0#8 x_gold = true) :
    Ev m s0 { s with gold := x_gold } :=
  Ev.raw h (fun f hf => by cases f <;> first | exact hm.no rfl hf | rfl) (fun c => { c with gold := c_gold c.gold }) { Irrevocable.refl s with  }

theorem Ev.set_slices {m : Nat} {s0 s : State} (h : Ev m s0 s) (hm : Sub 17592186044416 m) {x_slices : List Slice} :
    Ev m s0 { s with slices := x_slices } :=
  Ev.raw h (fun f hf => by cases f <;> first | exact hm.no rfl hf | rfl) (fun c => { c with  }) { Irrevocable.refl s with  }

theorem Ev.set_chans_aports_blines {m : Nat} {s0 s : State} (h : Ev m s0 s) (hm : Sub 1835008 m) {x_chans : Store Chan} {x_aports : Store APort} {x_blines : Store BLine} (c_chans : Store.wf {} s.chans = true → Store.wf {} x_chans = true) (c_aports : Store.wf {} s.aports = true → Store.wf {} x_aports = true) (c_blines : Store.wf {} s.blines = true → Store.wf {} x_blines = true) :
    Ev m s0 { s with chans := x_chans, aports := x_aports, blines := x_blines } :=
  Ev.raw h (fun f hf => by cases f <;> first | exact hm.no rfl hf | rfl) (fun c => { c with chans := c_chans c.chans, aports := c_aports c.aports, blines := c_blines c.blines }) { Irrevocable.refl s with  }

theorem Ev.set_slices_sliceEnded {m : Nat} {s0 s : State} (h : Ev m s0 s) (hm : Sub 158329674399744 m) {x_slices : List Slice} {x_sliceEnded : Bool} :
    Ev m s0 { s with slices := x_slices, sliceEnded := x_sliceEnded } :=
  Ev.raw h (fun f hf => by cases f <;> first | exact hm.no rfl hf | rfl) (fun c => { c with  }) { Irrevocable.refl s with  }

theorem Ev.set_flash {m : Nat} {s0 s : State} (h : Ev m s0 s) (hm : Sub 562949953421312 m) {x_flash : Store Byte} (c_flash : Store.wf 0#8 s.flash = true → Store.wf 0#8 x_flash = true) :
    Ev m s0 { s with flash := x_flash } :=
  Ev.raw h (fun f hf => by cases f <;> first | exact hm.no rfl hf | rfl) (fun c => { c with flash := c_flash c.flash }) { Irrevocable.refl s with  }

theorem Ev.set_slices_asyNews_sliceEnded {m : Nat} {s0 s : State} (h : Ev m s0 s) (hm : Sub 228698418577408 m) {x_slices : List Slice} {x_asyNews : Bool} {x_sliceEnded : Bool} :
    Ev m s0 { s with slices := x_slices, asyNews := x_asyNews, sliceEnded := x_sliceEnded } :=
  Ev.raw h (fun f hf => by cases f <;> first | exact hm.no rfl hf | rfl) (fun c => { c with  }) { Irrevocable.refl s with  }

theorem Ev.set_sweep {m : Nat} {s0 s : State} (h : Ev m s0 s) (hm : Sub 35184372088832 m) {x_sweep : Nat} :
    Ev m s0 { s with sweep := x_sweep } :=
  Ev.raw h (fun f hf => by cases f <;> first | exact hm.no rfl hf | rfl) (fun c => { c with  }) { Irrevocable.refl s with  }

theorem Ev.set_kcmd {m : Nat} {s0 s : State} (h : Ev m s0 s) (hm : Sub 2305843009213693952 m) {x_kcmd : Option KCmd} :
    Ev m s0 { s with kcmd := x_kcmd } :=
  Ev.raw h (fun f hf => by cases f <;> first | exact hm.no rfl hf | rfl) (fun c => { c with  }) { Irrevocable.refl s with  }

theorem Ev.set_reports_attests {m : Nat} {s0 s : State} (h : Ev m s0 s) (hm : Sub 737869762948382064640 m) {x_reports : List (List Byte)} {x_attests : Nat} :
    Ev m s0 { s with reports := x_reports, attests := x_attests } :=
  Ev.raw h (fun f hf => by cases f <;> first | exact hm.no rfl hf | rfl) (fun c => { c with  }) { Irrevocable.refl s with  }

theorem Ev.set_reports_signed {m : Nat} {s0 s : State} (h : Ev m s0 s) (hm : Sub 442721857769029238784 m) {x_reports : List (List Byte)} {x_signed : Option (List Byte)} :
    Ev m s0 { s with reports := x_reports, signed := x_signed } :=
  Ev.raw h (fun f hf => by cases f <;> first | exact hm.no rfl hf | rfl) (fun c => { c with  }) { Irrevocable.refl s with  }

theorem Ev.set_gheld {m : Nat} {s0 s : State} (h : Ev m s0 s) (hm : Sub 302231454903657293676544 m) {x_gheld : List Nat} :
    Ev m s0 { s with gheld := x_gheld } :=
  Ev.raw h (fun f hf => by cases f <;> first | exact hm.no rfl hf | rfl) (fun c => { c with  }) { Irrevocable.refl s with  }

theorem Ev.set_free_spi {m : Nat} {s0 s : State} (h : Ev m s0 s) (hm : Sub 2361183241434822606850 m) {x_free : Nat} {x_spi : Spi} (m_free : s.free ≤ x_free) :
    Ev m s0 { s with free := x_free, spi := x_spi } :=
  Ev.raw h (fun f hf => by cases f <;> first | exact hm.no rfl hf | rfl) (fun c => { c with  }) { Irrevocable.refl s with free := m_free }

theorem Ev.set_spi {m : Nat} {s0 s : State} (h : Ev m s0 s) (hm : Sub 2361183241434822606848 m) {x_spi : Spi} :
    Ev m s0 { s with spi := x_spi } :=
  Ev.raw h (fun f hf => by cases f <;> first | exact hm.no rfl hf | rfl) (fun c => { c with  }) { Irrevocable.refl s with  }

theorem Ev.set_kcmd_cutSlots {m : Nat} {s0 s : State} (h : Ev m s0 s) (hm : Sub 6917529027641081856 m) {x_kcmd : Option KCmd} {x_cutSlots : List Nat} :
    Ev m s0 { s with kcmd := x_kcmd, cutSlots := x_cutSlots } :=
  Ev.raw h (fun f hf => by cases f <;> first | exact hm.no rfl hf | rfl) (fun c => { c with  }) { Irrevocable.refl s with  }

theorem Ev.set_flash_epoch {m : Nat} {s0 s : State} (h : Ev m s0 s) (hm : Sub 309485009821908018678202368 m) {x_flash : Store Byte} {x_epoch : Nat} (c_flash : Store.wf 0#8 s.flash = true → Store.wf 0#8 x_flash = true) (m_epoch : s.epoch ≤ x_epoch) :
    Ev m s0 { s with flash := x_flash, epoch := x_epoch } :=
  Ev.raw h (fun f hf => by cases f <;> first | exact hm.no rfl hf | rfl) (fun c => { c with flash := c_flash c.flash }) { Irrevocable.refl s with epoch := m_epoch }

theorem Ev.set_bbGone {m : Nat} {s0 s : State} (h : Ev m s0 s) (hm : Sub 2535301200456458802993406410752 m) {x_bbGone : Bool} :
    Ev m s0 { s with bbGone := x_bbGone } :=
  Ev.raw h (fun f hf => by cases f <;> first | exact hm.no rfl hf | rfl) (fun c => { c with  }) { Irrevocable.refl s with  }

theorem Ev.set_vin_vbat_hot {m : Nat} {s0 s : State} (h : Ev m s0 s) (hm : Sub 6972078301255261708231867629568 m) {x_vin : Bool} {x_vbat : Bool} {x_hot : Bool} :
    Ev m s0 { s with vin := x_vin, vbat := x_vbat, hot := x_hot } :=
  Ev.raw h (fun f hf => by cases f <;> first | exact hm.no rfl hf | rfl) (fun c => { c with  }) { Irrevocable.refl s with  }

theorem Ev.set_hot {m : Nat} {s0 s : State} (h : Ev m s0 s) (hm : Sub 5070602400912917605986812821504 m) {x_hot : Bool} :
    Ev m s0 { s with hot := x_hot } :=
  Ev.raw h (fun f hf => by cases f <;> first | exact hm.no rfl hf | rfl) (fun c => { c with  }) { Irrevocable.refl s with  }

theorem Ev.set_regs_hot_bootDue {m : Nat} {s0 s : State} (h : Ev m s0 s) (hm : Sub 15211807202738752817960438464520 m) {x_regs : Store RegVal} {x_hot : Bool} {x_bootDue : Bool} (c_regs : Store.rising none s.regs = true → Store.rising none x_regs = true) :
    Ev m s0 { s with regs := x_regs, hot := x_hot, bootDue := x_bootDue } :=
  Ev.raw h (fun f hf => by cases f <;> first | exact hm.no rfl hf | rfl) (fun c => { c with regs := c_regs c.regs }) { Irrevocable.refl s with  }

theorem Ev.set_vbat {m : Nat} {s0 s : State} (h : Ev m s0 s) (hm : Sub 1267650600228229401496703205376 m) {x_vbat : Bool} :
    Ev m s0 { s with vbat := x_vbat } :=
  Ev.raw h (fun f hf => by cases f <;> first | exact hm.no rfl hf | rfl) (fun c => { c with  }) { Irrevocable.refl s with  }

theorem Ev.set_ptpGo_fw_recovery_glines_gheld_ptpNews_ptpStamp_ppsAt_mem_memEpoch_ix_bootDue {m : Nat} {s0 s : State} (h : Ev m s0 s) (hm : Sub 10141281417610333753539829956864 m) {x_ptpGo : Bool} {x_fw : Option Firmware} {x_recovery : Bool} {x_glines : Store (Option Bool)} {x_gheld : List Nat} {x_ptpNews : Bool} {x_ptpStamp : Option Nat} {x_ppsAt : Option Nat} {x_mem : Store (Option Byte)} {x_memEpoch : Nat} {x_ix : Ix} {x_bootDue : Bool} (c_glines : Store.wf none s.glines = true → Store.wf none x_glines = true) (c_mem : Store.wf none s.mem = true → Store.wf none x_mem = true) (m_memEpoch : s.memEpoch ≤ x_memEpoch) :
    Ev m s0 { s with ptpGo := x_ptpGo, fw := x_fw, recovery := x_recovery, glines := x_glines, gheld := x_gheld, ptpNews := x_ptpNews, ptpStamp := x_ptpStamp, ppsAt := x_ppsAt, mem := x_mem, memEpoch := x_memEpoch, ix := x_ix, bootDue := x_bootDue } :=
  Ev.raw h (fun f hf => by cases f <;> first | exact hm.no rfl hf | rfl) (fun c => { c with glines := c_glines c.glines, mem := c_mem c.mem }) { Irrevocable.refl s with memEpoch := m_memEpoch }

theorem Ev.set_ptpGo {m : Nat} {s0 s : State} (h : Ev m s0 s) (hm : Sub 256 m) {x_ptpGo : Bool} :
    Ev m s0 { s with ptpGo := x_ptpGo } :=
  Ev.raw h (fun f hf => by cases f <;> first | exact hm.no rfl hf | rfl) (fun c => { c with  }) { Irrevocable.refl s with  }

theorem Ev.set_ppsAt {m : Nat} {s0 s : State} (h : Ev m s0 s) (hm : Sub 4835703278458516698824704 m) {x_ppsAt : Option Nat} :
    Ev m s0 { s with ppsAt := x_ppsAt } :=
  Ev.raw h (fun f hf => by cases f <;> first | exact hm.no rfl hf | rfl) (fun c => { c with  }) { Irrevocable.refl s with  }

theorem Ev.set_ptpNews {m : Nat} {s0 s : State} (h : Ev m s0 s) (hm : Sub 1208925819614629174706176 m) {x_ptpNews : Bool} :
    Ev m s0 { s with ptpNews := x_ptpNews } :=
  Ev.raw h (fun f hf => by cases f <;> first | exact hm.no rfl hf | rfl) (fun c => { c with  }) { Irrevocable.refl s with  }

theorem Ev.set_ptpStamp {m : Nat} {s0 s : State} (h : Ev m s0 s) (hm : Sub 2417851639229258349412352 m) {x_ptpStamp : Option Nat} :
    Ev m s0 { s with ptpStamp := x_ptpStamp } :=
  Ev.raw h (fun f hf => by cases f <;> first | exact hm.no rfl hf | rfl) (fun c => { c with  }) { Irrevocable.refl s with  }

theorem Ev.set_dbgAcc {m : Nat} {s0 s : State} (h : Ev m s0 s) (hm : Sub 19807040628566084398385987584 m) {x_dbgAcc : Option DbgAcc} :
    Ev m s0 { s with dbgAcc := x_dbgAcc } :=
  Ev.raw h (fun f hf => by cases f <;> first | exact hm.no rfl hf | rfl) (fun c => { c with  }) { Irrevocable.refl s with  }

theorem Ev.set_asyNews {m : Nat} {s0 s : State} (h : Ev m s0 s) (hm : Sub 70368744177664 m) {x_asyNews : Bool} :
    Ev m s0 { s with asyNews := x_asyNews } :=
  Ev.raw h (fun f hf => by cases f <;> first | exact hm.no rfl hf | rfl) (fun c => { c with  }) { Irrevocable.refl s with  }

theorem Ev.set_cmpNews {m : Nat} {s0 s : State} (h : Ev m s0 s) (hm : Sub 604462909807314587353088 m) {x_cmpNews : Bool} :
    Ev m s0 { s with cmpNews := x_cmpNews } :=
  Ev.raw h (fun f hf => by cases f <;> first | exact hm.no rfl hf | rfl) (fun c => { c with  }) { Irrevocable.refl s with  }

theorem Ev.set_ixOut {m : Nat} {s0 s : State} (h : Ev m s0 s) (hm : Sub 77371252455336267181195264 m) {x_ixOut : List (Endpoint × List Byte)} :
    Ev m s0 { s with ixOut := x_ixOut } :=
  Ev.raw h (fun f hf => by cases f <;> first | exact hm.no rfl hf | rfl) (fun c => { c with  }) { Irrevocable.refl s with  }

theorem Ev.set_ix {m : Nat} {s0 s : State} (h : Ev m s0 s) (hm : Sub 38685626227668133590597632 m) {x_ix : Ix} :
    Ev m s0 { s with ix := x_ix } :=
  Ev.raw h (fun f hf => by cases f <;> first | exact hm.no rfl hf | rfl) (fun c => { c with  }) { Irrevocable.refl s with  }

theorem Ev.set_free_ix {m : Nat} {s0 s : State} (h : Ev m s0 s) (hm : Sub 38685626227668133590597634 m) {x_free : Nat} {x_ix : Ix} (m_free : s.free ≤ x_free) :
    Ev m s0 { s with free := x_free, ix := x_ix } :=
  Ev.raw h (fun f hf => by cases f <;> first | exact hm.no rfl hf | rfl) (fun c => { c with  }) { Irrevocable.refl s with free := m_free }

theorem Ev.set_loadEnded {m : Nat} {s0 s : State} (h : Ev m s0 s) (hm : Sub 9007199254740992 m) {x_loadEnded : Option Nat} :
    Ev m s0 { s with loadEnded := x_loadEnded } :=
  Ev.raw h (fun f hf => by cases f <;> first | exact hm.no rfl hf | rfl) (fun c => { c with  }) { Irrevocable.refl s with  }

theorem Ev.set_staged_ix {m : Nat} {s0 s : State} (h : Ev m s0 s) (hm : Sub 38685626299725727628525568 m) {x_staged : Option (List Byte)} {x_ix : Ix} :
    Ev m s0 { s with staged := x_staged, ix := x_ix } :=
  Ev.raw h (fun f hf => by cases f <;> first | exact hm.no rfl hf | rfl) (fun c => { c with  }) { Irrevocable.refl s with  }

theorem Ev.set_fwsvn {m : Nat} {s0 s : State} (h : Ev m s0 s) (hm : Sub 18446744073709551616 m) {x_fwsvn : Nat} (m_fwsvn : s.fwsvn ≤ x_fwsvn) :
    Ev m s0 { s with fwsvn := x_fwsvn } :=
  Ev.raw h (fun f hf => by cases f <;> first | exact hm.no rfl hf | rfl) (fun c => { c with  }) { Irrevocable.refl s with fwsvn := m_fwsvn }

theorem Ev.set_signed {m : Nat} {s0 s : State} (h : Ev m s0 s) (hm : Sub 295147905179352825856 m) {x_signed : Option (List Byte)} :
    Ev m s0 { s with signed := x_signed } :=
  Ev.raw h (fun f hf => by cases f <;> first | exact hm.no rfl hf | rfl) (fun c => { c with  }) { Irrevocable.refl s with  }

theorem Ev.set_dbgAcc_dbgStatus_dbgP_dbgData {m : Nat} {s0 s : State} (h : Ev m s0 s) (hm : Sub 297105609428491265975789813760 m) {x_dbgAcc : Option DbgAcc} {x_dbgStatus : Nat} {x_dbgP : Bool} {x_dbgData : BitVec 64} :
    Ev m s0 { s with dbgAcc := x_dbgAcc, dbgStatus := x_dbgStatus, dbgP := x_dbgP, dbgData := x_dbgData } :=
  Ev.raw h (fun f hf => by cases f <;> first | exact hm.no rfl hf | rfl) (fun c => { c with  }) { Irrevocable.refl s with  }

theorem Ev.set_dbgAcc_dbgStatus {m : Nat} {s0 s : State} (h : Ev m s0 s) (hm : Sub 59421121885698253195157962752 m) {x_dbgAcc : Option DbgAcc} {x_dbgStatus : Nat} :
    Ev m s0 { s with dbgAcc := x_dbgAcc, dbgStatus := x_dbgStatus } :=
  Ev.raw h (fun f hf => by cases f <;> first | exact hm.no rfl hf | rfl) (fun c => { c with  }) { Irrevocable.refl s with  }

theorem Ev.set_cutSlots_bbGone {m : Nat} {s0 s : State} (h : Ev m s0 s) (hm : Sub 2535301200461070489011833798656 m) {x_cutSlots : List Nat} {x_bbGone : Bool} :
    Ev m s0 { s with cutSlots := x_cutSlots, bbGone := x_bbGone } :=
  Ev.raw h (fun f hf => by cases f <;> first | exact hm.no rfl hf | rfl) (fun c => { c with  }) { Irrevocable.refl s with  }

theorem Ev.set_bootDue {m : Nat} {s0 s : State} (h : Ev m s0 s) (hm : Sub 10141204801825835211973625643008 m) {x_bootDue : Bool} :
    Ev m s0 { s with bootDue := x_bootDue } :=
  Ev.raw h (fun f hf => by cases f <;> first | exact hm.no rfl hf | rfl) (fun c => { c with  }) { Irrevocable.refl s with  }

theorem Ev.set_recovery {m : Nat} {s0 s : State} (h : Ev m s0 s) (hm : Sub 73786976294838206464 m) {x_recovery : Bool} :
    Ev m s0 { s with recovery := x_recovery } :=
  Ev.raw h (fun f hf => by cases f <;> first | exact hm.no rfl hf | rfl) (fun c => { c with  }) { Irrevocable.refl s with  }

theorem Ev.set_fw {m : Nat} {s0 s : State} (h : Ev m s0 s) (hm : Sub 36893488147419103232 m) {x_fw : Option Firmware} :
    Ev m s0 { s with fw := x_fw } :=
  Ev.raw h (fun f hf => by cases f <;> first | exact hm.no rfl hf | rfl) (fun c => { c with  }) { Irrevocable.refl s with  }

theorem Ev.set_bcap {m : Nat} {s0 s : State} (h : Ev m s0 s) (hm : Sub 316912650057057350374175801344 m) {x_bcap : BitVec 2592} :
    Ev m s0 { s with bcap := x_bcap } :=
  Ev.raw h (fun f hf => by cases f <;> first | exact hm.no rfl hf | rfl) (fun c => { c with  }) { Irrevocable.refl s with  }

theorem Ev.set_tapIr {m : Nat} {s0 s : State} (h : Ev m s0 s) (hm : Sub 4951760157141521099596496896 m) {x_tapIr : BitVec 8} :
    Ev m s0 { s with tapIr := x_tapIr } :=
  Ev.raw h (fun f hf => by cases f <;> first | exact hm.no rfl hf | rfl) (fun c => { c with  }) { Irrevocable.refl s with  }

theorem Ev.set_bscan {m : Nat} {s0 s : State} (h : Ev m s0 s) (hm : Sub 9903520314283042199192993792 m) {x_bscan : BitVec 2592} :
    Ev m s0 { s with bscan := x_bscan } :=
  Ev.raw h (fun f hf => by cases f <;> first | exact hm.no rfl hf | rfl) (fun c => { c with  }) { Irrevocable.refl s with  }

theorem Ev.set_dbgStatus_dbgP_dbgData {m : Nat} {s0 s : State} (h : Ev m s0 s) (hm : Sub 277298568799925181577403826176 m) {x_dbgStatus : Nat} {x_dbgP : Bool} {x_dbgData : BitVec 64} :
    Ev m s0 { s with dbgStatus := x_dbgStatus, dbgP := x_dbgP, dbgData := x_dbgData } :=
  Ev.raw h (fun f hf => by cases f <;> first | exact hm.no rfl hf | rfl) (fun c => { c with  }) { Irrevocable.refl s with  }

theorem Ev.set_dbgStatus {m : Nat} {s0 s : State} (h : Ev m s0 s) (hm : Sub 39614081257132168796771975168 m) {x_dbgStatus : Nat} :
    Ev m s0 { s with dbgStatus := x_dbgStatus } :=
  Ev.raw h (fun f hf => by cases f <;> first | exact hm.no rfl hf | rfl) (fun c => { c with  }) { Irrevocable.refl s with  }

theorem Ev.set_epoch_ix_flash {m : Nat} {s0 s : State} (h : Ev m s0 s) (hm : Sub 348170636049576152268800000 m) {x_epoch : Nat} {x_ix : Ix} {x_flash : Store Byte} (m_epoch : s.epoch ≤ x_epoch) (c_flash : Store.wf 0#8 s.flash = true → Store.wf 0#8 x_flash = true) :
    Ev m s0 { s with epoch := x_epoch, ix := x_ix, flash := x_flash } :=
  Ev.raw h (fun f hf => by cases f <;> first | exact hm.no rfl hf | rfl) (fun c => { c with flash := c_flash c.flash }) { Irrevocable.refl s with epoch := m_epoch }

theorem Ev.set_flash_epoch_ix {m : Nat} {s0 s : State} (h : Ev m s0 s) (hm : Sub 348170636049576152268800000 m) {x_flash : Store Byte} {x_epoch : Nat} {x_ix : Ix} (c_flash : Store.wf 0#8 s.flash = true → Store.wf 0#8 x_flash = true) (m_epoch : s.epoch ≤ x_epoch) :
    Ev m s0 { s with flash := x_flash, epoch := x_epoch, ix := x_ix } :=
  Ev.raw h (fun f hf => by cases f <;> first | exact hm.no rfl hf | rfl) (fun c => { c with flash := c_flash c.flash }) { Irrevocable.refl s with epoch := m_epoch }

theorem Ev.set_ix_signed {m : Nat} {s0 s : State} (h : Ev m s0 s) (hm : Sub 38685921375573312943423488 m) {x_ix : Ix} {x_signed : Option (List Byte)} :
    Ev m s0 { s with ix := x_ix, signed := x_signed } :=
  Ev.raw h (fun f hf => by cases f <;> first | exact hm.no rfl hf | rfl) (fun c => { c with  }) { Irrevocable.refl s with  }

theorem Ev.set_signed_ix {m : Nat} {s0 s : State} (h : Ev m s0 s) (hm : Sub 38685921375573312943423488 m) {x_signed : Option (List Byte)} {x_ix : Ix} :
    Ev m s0 { s with signed := x_signed, ix := x_ix } :=
  Ev.raw h (fun f hf => by cases f <;> first | exact hm.no rfl hf | rfl) (fun c => { c with  }) { Irrevocable.refl s with  }

end Sys2Proof
end

