-- ==== Sys2Proof/Laws/EvOps.lean ====
section
/-! SUPPORT. What each operation of Machine/Ops.lean can change, and that it keeps what no command may break (Laws/Evolve.lean). -/

set_option linter.unusedTactic false
set_option linter.unreachableTactic false
set_option linter.unusedVariables false

namespace Sys2Proof

open Machine

namespace Machine

theorem State.rsetf_ev {m : Nat} {s0 : State} {s : State} (a1 : Sys2Proof.Machine.Reg) (a2 : Nat) (a3 : Nat) (a4 : Nat) (h : Ev m s0 s) (hm : Sub 8 m) :
    Ev m s0 (State.rsetf s a1 a2 a3 a4) := by
  unfold State.rsetf
  repeat' (first
    | with_reducible assumption
    | exact Sub.trans hm rfl
    | with_reducible apply Ev.rput
    | with_reducible apply Ev.ite
    | with_reducible apply Ev.fold
    | with_reducible apply Ev.elim
    | with_reducible apply Ev.getD
    | with_reducible apply Ev.iter
    | intro _
    | dsimp only
    | split)

theorem State.rsetb_ev {m : Nat} {s0 : State} {s : State} (a1 : Sys2Proof.Machine.Reg) (a2 : Nat) (a3 : Bool) (h : Ev m s0 s) (hm : Sub 8 m) :
    Ev m s0 (State.rsetb s a1 a2 a3) := by
  unfold State.rsetb
  repeat' (first
    | with_reducible assumption
    | exact Sub.trans hm rfl
    | with_reducible apply Ev.rput
    | with_reducible apply Ev.ite
    | with_reducible apply Ev.fold
    | with_reducible apply Ev.elim
    | with_reducible apply Ev.getD
    | with_reducible apply Ev.iter
    | intro _
    | dsimp only
    | split)

theorem State.sticky_ev {m : Nat} {s0 : State} {s : State} (a1 : Sys2Proof.Machine.Reg) (a2 : Nat) (h : Ev m s0 s) (hm : Sub 8 m) :
    Ev m s0 (State.sticky s a1 a2) := by
  unfold State.sticky
  repeat' (first
    | with_reducible assumption
    | exact Sub.trans hm rfl
    | with_reducible apply State.rsetb_ev
    | with_reducible apply Ev.ite
    | with_reducible apply Ev.fold
    | with_reducible apply Ev.elim
    | with_reducible apply Ev.getD
    | with_reducible apply Ev.iter
    | intro _
    | dsimp only
    | split)

theorem State.count_ev {m : Nat} {s0 : State} {s : State} (a1 : Sys2Proof.Machine.Reg) (a2 : Nat) (a3 : Nat) (a4 : Nat) (h : Ev m s0 s) (hm : Sub 8 m) :
    Ev m s0 (State.count s a1 a2 a3 a4) := by
  unfold State.count
  repeat' (first
    | with_reducible assumption
    | exact Sub.trans hm rfl
    | with_reducible apply State.rsetf_ev
    | with_reducible apply Ev.ite
    | with_reducible apply Ev.fold
    | with_reducible apply Ev.elim
    | with_reducible apply Ev.getD
    | with_reducible apply Ev.iter
    | intro _
    | dsimp only
    | split)

theorem State.violAt_ev {m : Nat} {s0 : State} {s : State} (a1 : Sys2Proof.Machine.Reg) (h : Ev m s0 s) (hm : Sub 8 m) :
    Ev m s0 (State.violAt s a1) := by
  unfold State.violAt
  repeat' (first
    | with_reducible assumption
    | exact Sub.trans hm rfl
    | with_reducible apply State.count_ev
    | with_reducible apply Ev.ite
    | with_reducible apply Ev.fold
    | with_reducible apply Ev.elim
    | with_reducible apply Ev.getD
    | with_reducible apply Ev.iter
    | intro _
    | dsimp only
    | split)

theorem State.viol_ev {m : Nat} {s0 : State} {s : State} (a1 : Sys2Proof.Machine.Blk) (a2 : Nat) (h : Ev m s0 s) (hm : Sub 8 m) :
    Ev m s0 (State.viol s a1 a2) := by
  unfold State.viol
  repeat' (first
    | with_reducible assumption
    | exact Sub.trans hm rfl
    | with_reducible apply State.violAt_ev
    | with_reducible apply Ev.ite
    | with_reducible apply Ev.fold
    | with_reducible apply Ev.elim
    | with_reducible apply Ev.getD
    | with_reducible apply Ev.iter
    | intro _
    | dsimp only
    | split)

theorem State.bumpFree_ev {m : Nat} {s0 : State} {s : State} (h : Ev m s0 s) (hm : Sub 2 m) :
    Ev m s0 (State.bumpFree s) := by
  unfold State.bumpFree
  repeat' (first
    | with_reducible assumption
    | exact Sub.trans hm rfl
    | with_reducible apply Ev.ite
    | with_reducible apply Ev.fold
    | with_reducible apply Ev.elim
    | with_reducible apply Ev.getD
    | with_reducible apply Ev.iter
    | with_reducible exact Nat.le_succ _
    | with_reducible exact Nat.le_refl _
    | with_reducible exact Nat.le_add_right _ _
    | with_reducible exact Nat.le_max_left _ _
    | intro _
    | dsimp only
    | split
    | with_reducible apply Ev.set_free)

theorem State.writePlain_ev {m : Nat} {s0 : State} {s : State} (a1 : Sys2Proof.Machine.Reg) (a2 : Sys2Proof.RegVal) (h : Ev m s0 s) (hm : Sub 8 m) :
    Ev m s0 (State.writePlain s a1 a2) := by
  unfold State.writePlain
  repeat' (first
    | with_reducible assumption
    | exact Sub.trans hm rfl
    | with_reducible apply Ev.rput
    | with_reducible apply Ev.ite
    | with_reducible apply Ev.fold
    | with_reducible apply Ev.elim
    | with_reducible apply Ev.getD
    | with_reducible apply Ev.iter
    | intro _
    | dsimp only
    | split)

theorem State.guarded_ev {m : Nat} {s0 : State} {s : State} (a1 : Sys2Proof.Issuer) (a2 : Sys2Proof.Machine.Blk) (a3 : Nat) (a4 : State → State) (h : Ev m s0 s) (hm : Sub 8 m) (ha4 : ∀ t0, Ev m s0 t0 → Ev m s0 (a4 t0)) :
    Ev m s0 (State.guarded s a1 a2 a3 a4) := by
  unfold State.guarded
  repeat' (first
    | with_reducible assumption
    | exact Sub.trans hm rfl
    | with_reducible apply State.viol_ev
    | with_reducible apply Ev.ite
    | with_reducible apply ha4
    | with_reducible apply Ev.fold
    | with_reducible apply Ev.elim
    | with_reducible apply Ev.getD
    | with_reducible apply Ev.iter
    | intro _
    | dsimp only
    | split)

theorem ok_ev {m : Nat} {s0 : State} {s : State} (h : Ev m s0 s) (hm : Sub 0 m) :
    EvOut m s0 (ok s) := by
  unfold ok
  repeat' (first
    | with_reducible assumption
    | exact Sub.trans hm rfl
    | with_reducible apply EvOut.next
    | with_reducible apply EvOut.ite
    | with_reducible apply Ev.ite
    | with_reducible apply Ev.fold
    | with_reducible apply Ev.elim
    | with_reducible apply Ev.getD
    | with_reducible apply Ev.iter
    | intro _
    | dsimp only
    | split)

end Machine

end Sys2Proof
end

