-- ==== Sys2Proof/Laws/EvPads.lean ====
section
/-! SUPPORT. What each operation of Machine/Pads.lean can change, and that it keeps what no command may break (Laws/Evolve.lean). -/

set_option linter.unusedTactic false
set_option linter.unreachableTactic false
set_option linter.unusedVariables false

namespace Sys2Proof

open Machine

namespace Machine

theorem State.padFollow_ev {m : Nat} {s0 : State} {s : State} (a1 : Nat) (h : Ev m s0 s) (hm : Sub 68719476736 m) :
    Ev m s0 (State.padFollow s a1) := by
  unfold State.padFollow
  repeat' (first
    | with_reducible assumption
    | exact Sub.trans hm rfl
    | with_reducible apply Ev.setPin
    | with_reducible apply Ev.ite
    | with_reducible apply Ev.fold
    | with_reducible apply Ev.elim
    | with_reducible apply Ev.getD
    | with_reducible apply Ev.iter
    | intro _
    | dsimp only
    | split)

theorem State.padsFollow_ev {m : Nat} {s0 : State} {s : State} (a1 : List Nat) (h : Ev m s0 s) (hm : Sub 68719476736 m) :
    Ev m s0 (State.padsFollow s a1) := by
  unfold State.padsFollow
  repeat' (first
    | with_reducible assumption
    | exact Sub.trans hm rfl
    | with_reducible apply Ev.each
    | with_reducible apply State.padFollow_ev
    | with_reducible apply Ev.ite
    | with_reducible apply Ev.fold
    | with_reducible apply Ev.elim
    | with_reducible apply Ev.getD
    | with_reducible apply Ev.iter
    | intro _
    | dsimp only
    | split)

theorem State.drivePin_ev {m : Nat} {s0 : State} {s : State} (a1 : Nat) (a2 : Sys2Proof.Machine.Drive) (a3 : Bool) (h : Ev m s0 s) (hm : Sub 68719476736 m) :
    Ev m s0 (State.drivePin s a1 a2 a3) := by
  unfold State.drivePin
  repeat' (first
    | with_reducible assumption
    | exact Sub.trans hm rfl
    | with_reducible apply State.padFollow_ev
    | with_reducible apply Ev.setPin
    | with_reducible apply Ev.ite
    | with_reducible apply Ev.fold
    | with_reducible apply Ev.elim
    | with_reducible apply Ev.getD
    | with_reducible apply Ev.iter
    | intro _
    | dsimp only
    | split)

theorem State.edgeAt_ev {m : Nat} {s0 : State} {s : State} (a1 : Nat) (a2 : Nat) (a3 : Bool) (h : Ev m s0 s) (hm : Sub 68719476744 m) :
    Ev m s0 (State.edgeAt s a1 a2 a3) := by
  unfold State.edgeAt
  repeat' (first
    | with_reducible assumption
    | exact Sub.trans hm rfl
    | with_reducible apply Ev.setPin
    | with_reducible apply State.sticky_ev
    | with_reducible apply Ev.ite
    | with_reducible apply Ev.fold
    | with_reducible apply Ev.elim
    | with_reducible apply Ev.getD
    | with_reducible apply Ev.iter
    | intro _
    | dsimp only
    | split)

theorem State.driveSoon_ev {m : Nat} {s0 : State} {s : State} (a1 : Nat) (a2 : Sys2Proof.Machine.Drive) (a3 : Bool) (a4 : Bool) (h : Ev m s0 s) (hm : Sub 68719476746 m) :
    Ev m s0 (State.driveSoon s a1 a2 a3 a4) := by
  unfold State.driveSoon
  repeat' (first
    | with_reducible assumption
    | exact Sub.trans hm rfl
    | with_reducible apply State.drivePin_ev
    | with_reducible apply State.bumpFree_ev
    | with_reducible apply State.edgeAt_ev
    | with_reducible apply Ev.ite
    | with_reducible apply Ev.fold
    | with_reducible apply Ev.elim
    | with_reducible apply Ev.getD
    | with_reducible apply Ev.iter
    | intro _
    | dsimp only
    | split)

theorem State.parkPin_ev {m : Nat} {s0 : State} {s : State} (a1 : Nat) (h : Ev m s0 s) (hm : Sub 68719476746 m) :
    Ev m s0 (State.parkPin s a1) := by
  unfold State.parkPin
  repeat' (first
    | with_reducible assumption
    | exact Sub.trans hm rfl
    | with_reducible apply State.driveSoon_ev
    | with_reducible apply Ev.setPin
    | with_reducible apply Ev.ite
    | with_reducible apply Ev.fold
    | with_reducible apply Ev.elim
    | with_reducible apply Ev.getD
    | with_reducible apply Ev.iter
    | intro _
    | dsimp only
    | split)

end Machine

end Sys2Proof
end

