-- ==== Sys2Proof/Laws/EvFaults.lean ====
section
/-! SUPPORT. What each operation of Machine/Faults.lean can change, and that it keeps what no command may break (Laws/Evolve.lean). -/

set_option linter.unusedTactic false
set_option linter.unreachableTactic false
set_option linter.unusedVariables false

namespace Sys2Proof

open Machine

namespace Machine

theorem State.poison_ev {m : Nat} {s0 : State} {s : State} (a1 : Nat) (a2 : Sys2Proof.Machine.PoisonSrc) (h : Ev m s0 s) (hm : Sub 8 m) :
    Ev m s0 (State.poison s a1 a2) := by
  unfold State.poison
  repeat' (first
    | with_reducible assumption
    | exact Sub.trans hm rfl
    | with_reducible apply State.sticky_ev
    | with_reducible apply State.count_ev
    | with_reducible apply Ev.ite
    | with_reducible apply Ev.fold
    | with_reducible apply Ev.elim
    | with_reducible apply Ev.getD
    | with_reducible apply Ev.iter
    | intro _
    | dsimp only
    | split)

theorem State.transient_ev {m : Nat} {s0 : State} {s : State} (a1 : Nat) (h : Ev m s0 s) (hm : Sub 8 m) :
    Ev m s0 (State.transient s a1) := by
  unfold State.transient
  repeat' (first
    | with_reducible assumption
    | exact Sub.trans hm rfl
    | with_reducible apply State.count_ev
    | with_reducible apply Ev.ite
    | with_reducible apply Ev.fold
    | with_reducible apply Ev.elim
    | with_reducible apply Ev.getD
    | with_reducible apply Ev.iter
    | intro _
    | dsimp only
    | split)

theorem State.lasting_ev {m : Nat} {s0 : State} {s : State} (a1 : Nat) (a2 : Nat) (a3 : Nat) (a4 : Nat) (a5 : Nat) (h : Ev m s0 s) (hm : Sub 8 m) :
    Ev m s0 (State.lasting s a1 a2 a3 a4 a5) := by
  unfold State.lasting
  repeat' (first
    | with_reducible assumption
    | exact Sub.trans hm rfl
    | with_reducible apply State.sticky_ev
    | with_reducible apply State.count_ev
    | with_reducible apply Ev.rput
    | with_reducible apply Ev.ite
    | with_reducible apply Ev.fold
    | with_reducible apply Ev.elim
    | with_reducible apply Ev.getD
    | with_reducible apply Ev.iter
    | intro _
    | dsimp only
    | split)

theorem State.noteFault_ev {m : Nat} {s0 : State} {s : State} (a1 : Bool) (a2 : Nat) (a3 : Nat) (a4 : Nat) (a5 : Nat) (a6 : Nat) (h : Ev m s0 s) (hm : Sub 8 m) :
    Ev m s0 (State.noteFault s a1 a2 a3 a4 a5 a6) := by
  unfold State.noteFault
  repeat' (first
    | with_reducible assumption
    | exact Sub.trans hm rfl
    | with_reducible apply State.lasting_ev
    | with_reducible apply Ev.rput
    | with_reducible apply Ev.ite
    | with_reducible apply Ev.fold
    | with_reducible apply Ev.elim
    | with_reducible apply Ev.getD
    | with_reducible apply Ev.iter
    | intro _
    | dsimp only
    | split)

theorem State.sharedFault_ev {m : Nat} {s0 : State} {s : State} (a1 : Nat) (a2 : Nat) (h : Ev m s0 s) (hm : Sub 8 m) :
    Ev m s0 (State.sharedFault s a1 a2) := by
  unfold State.sharedFault
  repeat' (first
    | with_reducible assumption
    | exact Sub.trans hm rfl
    | with_reducible apply State.lasting_ev
    | with_reducible apply Ev.ite
    | with_reducible apply Ev.fold
    | with_reducible apply Ev.elim
    | with_reducible apply Ev.getD
    | with_reducible apply Ev.iter
    | intro _
    | dsimp only
    | split)

theorem State.mapFlight_ev {m : Nat} {s0 : State} {s : State} (a1 : Nat) (a2 : Sys2Proof.Machine.Flight → Sys2Proof.Machine.Flight) (h : Ev m s0 s) (hm : Sub 33554432 m) :
    Ev m s0 (State.mapFlight s a1 a2) := by
  unfold State.mapFlight
  repeat' (first
    | with_reducible assumption
    | exact Sub.trans hm rfl
    | with_reducible apply Ev.ite
    | with_reducible apply Ev.fold
    | with_reducible apply Ev.elim
    | with_reducible apply Ev.getD
    | with_reducible apply Ev.iter
    | intro _
    | dsimp only
    | split
    | with_reducible apply Ev.set_flights)

theorem State.answerFrom_ev {m : Nat} {s0 : State} {s : State} (a1 : Nat) (a2 : Sys2Proof.Machine.Answer) (a3 : Sys2Proof.Machine.PNode) (h : Ev m s0 s) (hm : Sub 33554432 m) :
    Ev m s0 (State.answerFrom s a1 a2 a3) := by
  unfold State.answerFrom
  repeat' (first
    | with_reducible assumption
    | exact Sub.trans hm rfl
    | with_reducible apply State.mapFlight_ev
    | with_reducible apply Ev.ite
    | with_reducible apply Ev.fold
    | with_reducible apply Ev.elim
    | with_reducible apply Ev.getD
    | with_reducible apply Ev.iter
    | intro _
    | dsimp only
    | split)

theorem State.answer_ev {m : Nat} {s0 : State} {s : State} (a1 : Nat) (a2 : Sys2Proof.Machine.Answer) (h : Ev m s0 s) (hm : Sub 33554432 m) :
    Ev m s0 (State.answer s a1 a2) := by
  unfold State.answer
  repeat' (first
    | with_reducible assumption
    | exact Sub.trans hm rfl
    | with_reducible apply State.mapFlight_ev
    | with_reducible apply Ev.ite
    | with_reducible apply Ev.fold
    | with_reducible apply Ev.elim
    | with_reducible apply Ev.getD
    | with_reducible apply Ev.iter
    | intro _
    | dsimp only
    | split)

theorem State.dropFlight_ev {m : Nat} {s0 : State} {s : State} (a1 : Nat) (h : Ev m s0 s) (hm : Sub 33554432 m) :
    Ev m s0 (State.dropFlight s a1) := by
  unfold State.dropFlight
  repeat' (first
    | with_reducible assumption
    | exact Sub.trans hm rfl
    | with_reducible apply Ev.ite
    | with_reducible apply Ev.fold
    | with_reducible apply Ev.elim
    | with_reducible apply Ev.getD
    | with_reducible apply Ev.iter
    | intro _
    | dsimp only
    | split
    | with_reducible apply Ev.set_flights)

theorem State.launch_ev {m : Nat} {s0 : State} {s : State} (a1 : Sys2Proof.Machine.Flight) (h : Ev m s0 s) (hm : Sub 100663296 m) :
    Ev m s0 (State.launch s a1) := by
  unfold State.launch
  repeat' (first
    | with_reducible assumption
    | exact Sub.trans hm rfl
    | with_reducible apply Ev.ite
    | with_reducible apply Ev.fold
    | with_reducible apply Ev.elim
    | with_reducible apply Ev.getD
    | with_reducible apply Ev.iter
    | intro _
    | dsimp only
    | split
    | with_reducible apply Ev.set_flights_nextId)

theorem State.freeLock_ev {m : Nat} {s0 : State} {s : State} (a1 : Nat) (h : Ev m s0 s) (hm : Sub 8589934600 m) :
    Ev m s0 (State.freeLock s a1) := by
  unfold State.freeLock
  repeat' (first
    | with_reducible assumption
    | exact Sub.trans hm rfl
    | with_reducible apply State.rsetb_ev
    | with_reducible apply Ev.setBank
    | with_reducible apply Ev.ite
    | with_reducible apply Ev.fold
    | with_reducible apply Ev.elim
    | with_reducible apply Ev.getD
    | with_reducible apply Ev.iter
    | intro _
    | dsimp only
    | split)

theorem State.breakLock_ev {m : Nat} {s0 : State} {s : State} (a1 : Nat) (h : Ev m s0 s) (hm : Sub 8589934600 m) :
    Ev m s0 (State.breakLock s a1) := by
  unfold State.breakLock
  repeat' (first
    | with_reducible assumption
    | exact Sub.trans hm rfl
    | with_reducible apply State.count_ev
    | with_reducible apply State.sticky_ev
    | with_reducible apply State.freeLock_ev
    | with_reducible apply Ev.setBank
    | with_reducible apply Ev.ite
    | with_reducible apply Ev.fold
    | with_reducible apply Ev.elim
    | with_reducible apply Ev.getD
    | with_reducible apply Ev.iter
    | intro _
    | dsimp only
    | split)

theorem State.breakLocks_ev {m : Nat} {s0 : State} {s : State} (a1 : Sys2Proof.Issuer → Bool) (h : Ev m s0 s) (hm : Sub 8589934600 m) :
    Ev m s0 (State.breakLocks s a1) := by
  unfold State.breakLocks
  repeat' (first
    | with_reducible assumption
    | exact Sub.trans hm rfl
    | with_reducible apply Ev.each
    | with_reducible apply State.breakLock_ev
    | with_reducible apply Ev.ite
    | with_reducible apply Ev.fold
    | with_reducible apply Ev.elim
    | with_reducible apply Ev.getD
    | with_reducible apply Ev.iter
    | intro _
    | dsimp only
    | split)

theorem State.hopRefuse_ev {m : Nat} {s0 : State} {s : State} (a1 : Nat) (h : Ev m s0 s) (hm : Sub 34393292800 m) :
    Ev m s0 (State.hopRefuse s a1) := by
  unfold State.hopRefuse
  repeat' (first
    | with_reducible assumption
    | exact Sub.trans hm rfl
    | with_reducible apply Ev.each
    | with_reducible apply State.answer_ev
    | with_reducible apply Ev.setHop
    | with_reducible apply Ev.ite
    | with_reducible apply Ev.fold
    | with_reducible apply Ev.elim
    | with_reducible apply Ev.getD
    | with_reducible apply Ev.iter
    | intro _
    | dsimp only
    | split)

theorem State.groupStop_ev {m : Nat} {s0 : State} {s : State} (a1 : Nat) (h : Ev m s0 s) (hm : Sub 549755813896 m) :
    Ev m s0 (State.groupStop s a1) := by
  unfold State.groupStop
  repeat' (first
    | with_reducible assumption
    | exact Sub.trans hm rfl
    | with_reducible apply State.rsetb_ev
    | with_reducible apply Ev.setGroup
    | with_reducible apply Ev.ite
    | with_reducible apply Ev.fold
    | with_reducible apply Ev.elim
    | with_reducible apply Ev.getD
    | with_reducible apply Ev.iter
    | intro _
    | dsimp only
    | split)

theorem State.closeGate_ev {m : Nat} {s0 : State} {s : State} (a1 : Nat) (h : Ev m s0 s) (hm : Sub 661458550792 m) :
    Ev m s0 (State.closeGate s a1) := by
  unfold State.closeGate
  repeat' (first
    | with_reducible assumption
    | exact Sub.trans hm rfl
    | with_reducible apply Ev.setRegion
    | with_reducible apply State.breakLocks_ev
    | with_reducible apply Ev.each
    | with_reducible apply State.hopRefuse_ev
    | with_reducible apply Ev.setPin
    | with_reducible apply State.groupStop_ev
    | with_reducible apply Ev.ite
    | with_reducible apply Ev.fold
    | with_reducible apply Ev.elim
    | with_reducible apply Ev.getD
    | with_reducible apply Ev.iter
    | intro _
    | dsimp only
    | split)

theorem State.setHealth_ev {m : Nat} {s0 : State} {s : State} (a1 : Nat) (a2 : Nat) (h : Ev m s0 s) (hm : Sub 8 m) :
    Ev m s0 (State.setHealth s a1 a2) := by
  unfold State.setHealth
  repeat' (first
    | with_reducible assumption
    | exact Sub.trans hm rfl
    | with_reducible apply State.rsetf_ev
    | with_reducible apply Ev.ite
    | with_reducible apply Ev.fold
    | with_reducible apply Ev.elim
    | with_reducible apply Ev.getD
    | with_reducible apply Ev.iter
    | intro _
    | dsimp only
    | split)

theorem State.setSpare_ev {m : Nat} {s0 : State} {s : State} (a1 : Nat) (a2 : Nat) (h : Ev m s0 s) (hm : Sub 8 m) :
    Ev m s0 (State.setSpare s a1 a2) := by
  unfold State.setSpare
  repeat' (first
    | with_reducible assumption
    | exact Sub.trans hm rfl
    | with_reducible apply State.rsetf_ev
    | with_reducible apply Ev.ite
    | with_reducible apply Ev.fold
    | with_reducible apply Ev.elim
    | with_reducible apply Ev.getD
    | with_reducible apply Ev.iter
    | intro _
    | dsimp only
    | split)

theorem State.enterAsh_ev {m : Nat} {s0 : State} {s : State} (a1 : Nat) (h : Ev m s0 s) (hm : Sub 663203381258 m) :
    Ev m s0 (State.enterAsh s a1) := by
  unfold State.enterAsh
  repeat' (first
    | with_reducible assumption
    | exact Sub.trans hm rfl
    | with_reducible apply State.closeGate_ev
    | with_reducible apply State.setHealth_ev
    | with_reducible apply Ev.each
    | with_reducible apply State.parkPin_ev
    | with_reducible apply Ev.setPair
    | with_reducible apply State.sticky_ev
    | with_reducible apply Ev.setSwap
    | with_reducible apply Ev.ite
    | with_reducible apply Ev.fold
    | with_reducible apply Ev.elim
    | with_reducible apply Ev.getD
    | with_reducible apply Ev.iter
    | intro _
    | dsimp only
    | split
    | with_reducible apply Ev.set_spareQ)

theorem State.dropLegs_ev {m : Nat} {s0 : State} {s : State} (a1 : Nat) (h : Ev m s0 s) (hm : Sub 8388608 m) :
    Ev m s0 (State.dropLegs s a1) := by
  unfold State.dropLegs
  repeat' (first
    | with_reducible assumption
    | exact Sub.trans hm rfl
    | with_reducible apply Ev.ite
    | with_reducible apply Ev.fold
    | with_reducible apply Ev.elim
    | with_reducible apply Ev.getD
    | with_reducible apply Ev.iter
    | (intro c; first | with_reducible exact Store.wf_nil _ | with_reducible exact rfl | with_reducible exact Store.wf_put _ _ _ c | with_reducible exact Store.wf_putBytes _ _ c | with_reducible exact Store.wf_keep _ _ c | with_reducible exact Store.wf_mapVals _ _ (Store.wf_iff.1 c).1 | with_reducible exact Store.rising_filter _ c | with_reducible exact Store.rising_put _ _ _ c | with_reducible exact Store.wf_filter _ _ c | with_reducible exact Store.wf_copyRange _ _ c _ | with_reducible exact Store.wf_dup _ _ _ _ c | with_reducible exact c | exact Store.wf_filter _ _ c | exact Store.wf_filter _ _ (Store.wf_filter _ _ c) | exact Store.rising_filter _ c | exact Store.rising_filter _ (Store.rising_filter _ c) | exact Store.wf_put _ _ _ c)
    | intro _
    | dsimp only
    | split
    | with_reducible apply Ev.set_twins)

theorem State.retire_ev {m : Nat} {s0 : State} {s : State} (a1 : Bool) (a2 : Nat) (a3 : Nat) (a4 : Nat) (a5 : Nat) (a6 : Nat) (h : Ev m s0 s) (hm : Sub 679542792 m) :
    Ev m s0 (State.retire s a1 a2 a3 a4 a5 a6) := by
  unfold State.retire
  repeat' (first
    | with_reducible assumption
    | exact Sub.trans hm rfl
    | with_reducible apply State.noteFault_ev
    | with_reducible apply State.dropLegs_ev
    | with_reducible apply Ev.setClu
    | with_reducible apply Ev.setPair
    | with_reducible apply Ev.rput
    | with_reducible apply Ev.ite
    | with_reducible apply Ev.fold
    | with_reducible apply Ev.elim
    | with_reducible apply Ev.getD
    | with_reducible apply Ev.iter
    | intro _
    | dsimp only
    | split
    | with_reducible apply Ev.set_spareQ)

theorem State.clusterAct_ev {m : Nat} {s0 : State} {s : State} (a1 : Bool) (a2 : Nat) (a3 : Nat) (a4 : Nat) (h : Ev m s0 s) (hm : Sub 663211835402 m) :
    Ev m s0 (State.clusterAct s a1 a2 a3 a4) := by
  unfold State.clusterAct
  repeat' (first
    | with_reducible assumption
    | exact Sub.trans hm rfl
    | with_reducible apply State.noteFault_ev
    | with_reducible apply State.enterAsh_ev
    | with_reducible apply State.setHealth_ev
    | with_reducible apply State.setSpare_ev
    | with_reducible apply State.retire_ev
    | with_reducible apply Ev.setSwap
    | with_reducible apply Ev.setClu
    | with_reducible apply Ev.rput
    | with_reducible apply Ev.ite
    | with_reducible apply Ev.fold
    | with_reducible apply Ev.elim
    | with_reducible apply Ev.getD
    | with_reducible apply Ev.iter
    | intro _
    | dsimp only
    | split
    | with_reducible apply Ev.set_spareQ)

theorem State.clusterFault_ev {m : Nat} {s0 : State} {s : State} (a1 : Nat) (a2 : Nat) (a3 : Nat) (h : Ev m s0 s) (hm : Sub 288231039363547146 m) :
    Ev m s0 (State.clusterFault s a1 a2 a3) := by
  unfold State.clusterFault
  repeat' (first
    | with_reducible assumption
    | exact Sub.trans hm rfl
    | with_reducible apply State.lasting_ev
    | with_reducible apply State.clusterAct_ev
    | with_reducible apply Ev.ite
    | with_reducible apply Ev.fold
    | with_reducible apply Ev.elim
    | with_reducible apply Ev.getD
    | with_reducible apply Ev.iter
    | intro _
    | dsimp only
    | split
    | with_reducible apply Ev.set_toldFaults)

theorem State.actTold_ev {m : Nat} {s0 : State} {s : State} (a1 : Nat) (h : Ev m s0 s) (hm : Sub 288231039363547146 m) :
    Ev m s0 (State.actTold s a1) := by
  unfold State.actTold
  repeat' (first
    | with_reducible assumption
    | exact Sub.trans hm rfl
    | with_reducible apply Ev.each
    | with_reducible apply State.clusterAct_ev
    | with_reducible apply Ev.ite
    | with_reducible apply Ev.fold
    | with_reducible apply Ev.elim
    | with_reducible apply Ev.getD
    | with_reducible apply Ev.iter
    | intro _
    | dsimp only
    | split
    | with_reducible apply Ev.set_toldFaults)

end Machine

end Sys2Proof
end

