-- ==== Sys2Proof/Laws/EvRoute.lean ====
section
/-! SUPPORT. What each operation of Machine/Route.lean can change, and that it keeps what no command may break (Laws/Evolve.lean). -/

set_option linter.unusedTactic false
set_option linter.unreachableTactic false
set_option linter.unusedVariables false

namespace Sys2Proof

open Machine

namespace Machine

theorem State.relay_ev {m : Nat} {s0 : State} {s : State} (a1 : Nat) (h : Ev m s0 s) (hm : Sub 262144 m) :
    Ev m s0 (State.relay s a1) := by
  unfold State.relay
  repeat' (first
    | with_reducible assumption
    | exact Sub.trans hm rfl
    | with_reducible apply Ev.each
    | with_reducible apply Ev.setChan
    | with_reducible apply Ev.ite
    | with_reducible apply Ev.fold
    | with_reducible apply Ev.elim
    | with_reducible apply Ev.getD
    | with_reducible apply Ev.iter
    | intro _
    | dsimp only
    | split)

theorem State.feed_ev {m : Nat} {s0 : State} {s : State} (a1 : Sys2Proof.Word) (a2 : Sys2Proof.Tok) (h : Ev m s0 s) (hm : Sub 262144 m) :
    EvOpt m s0 (State.feed s a1 a2) := by
  unfold State.feed
  repeat' (first
    | with_reducible assumption
    | exact Sub.trans hm rfl
    | with_reducible apply EvOpt.some
    | with_reducible exact EvOpt.none
    | with_reducible apply EvOpt.map
    | with_reducible apply EvOpt.ite
    | with_reducible apply Ev.setChan
    | with_reducible apply Ev.ite
    | with_reducible apply Ev.fold
    | with_reducible apply Ev.elim
    | with_reducible apply Ev.getD
    | with_reducible apply Ev.iter
    | intro _
    | dsimp only
    | split)

theorem State.feed_evq {m : Nat} {s0 : State} {t : State} {s : State} {a1 : Sys2Proof.Word} {a2 : Sys2Proof.Tok} (e : (State.feed s a1 a2) = some t) (h : Ev m s0 s) (hm : Sub 262144 m) : Ev m s0 t :=
  (State.feed_ev a1 a2 h hm).get t e

theorem State.codeReport_ev {m : Nat} {s0 : State} {s : State} (a1 : BitVec 17) (a2 : Nat) (a3 : Nat) (a4 : Option Nat) (a5 : Option Nat) (h : Ev m s0 s) (hm : Sub 288231039631982602 m) :
    Ev m s0 (State.codeReport s a1 a2 a3 a4 a5) := by
  unfold State.codeReport
  repeat' (first
    | with_reducible assumption
    | exact Sub.trans hm rfl
    | with_reducible apply State.bumpFree_ev
    | with_reducible apply State.count_ev
    | with_reducible apply State.sticky_ev
    | with_reducible apply State.clusterFault_ev
    | with_reducible apply State.sharedFault_ev
    | with_reducible apply State.transient_ev
    | with_reducible apply Ev.ite
    | with_reducible apply Ev.fold
    | with_reducible apply Ev.elim
    | with_reducible apply Ev.getD
    | with_reducible apply Ev.iter
    | intro _
    | dsimp only
    | split
    | with_reducible apply Ev.set_codePend)

theorem State.feedBad_ev {m : Nat} {s0 : State} {s : State} (a1 : Sys2Proof.Word) (a2 : Sys2Proof.Tok) (a3 : BitVec 17) (h : Ev m s0 s) (hm : Sub 288231039632244746 m) :
    EvOpt m s0 (State.feedBad s a1 a2 a3) := by
  unfold State.feedBad
  repeat' (first
    | with_reducible assumption
    | exact Sub.trans hm rfl
    | with_reducible apply EvOpt.some
    | with_reducible exact EvOpt.none
    | with_reducible apply EvOpt.map
    | with_reducible apply EvOpt.ite
    | with_reducible apply State.codeReport_ev
    | with_reducible apply State.feed_ev
    | with_reducible refine State.feed_evq ‹_› ?_ ?_
    | with_reducible apply Ev.ite
    | with_reducible apply Ev.fold
    | with_reducible apply Ev.elim
    | with_reducible apply Ev.getD
    | with_reducible apply Ev.iter
    | intro _
    | dsimp only
    | split)

theorem State.feedBad_evq {m : Nat} {s0 : State} {t : State} {s : State} {a1 : Sys2Proof.Word} {a2 : Sys2Proof.Tok} {a3 : BitVec 17} (e : (State.feedBad s a1 a2 a3) = some t) (h : Ev m s0 s) (hm : Sub 288231039632244746 m) : Ev m s0 t :=
  (State.feedBad_ev a1 a2 a3 h hm).get t e

theorem State.seen_ev {m : Nat} {s0 : State} {s : State} (a1 : Nat) (a2 : Nat) (a3 : Nat) (a4 : Sys2Proof.Tok) (h : Ev m s0 s) (hm : Sub 2475880078570760549798248456 m) :
    Ev m s0 (State.seen s a1 a2 a3 a4) := by
  unfold State.seen
  repeat' (first
    | with_reducible assumption
    | exact Sub.trans hm rfl
    | with_reducible apply Ev.each
    | with_reducible apply Ev.rput
    | with_reducible apply Ev.setProbe
    | with_reducible apply State.sticky_ev
    | with_reducible apply Ev.ite
    | with_reducible apply Ev.fold
    | with_reducible apply Ev.elim
    | with_reducible apply Ev.getD
    | with_reducible apply Ev.iter
    | intro _
    | dsimp only
    | split)

theorem State.takeFrom_ev {m : Nat} {s0 : State} {s : State} (a1 : Nat) (a2 : Nat) (h : Ev m s0 s) (hm : Sub 2475880078570760549803245576 m) :
    Ev m s0 (State.takeFrom s a1 a2) := by
  unfold State.takeFrom
  repeat' (first
    | with_reducible assumption
    | exact Sub.trans hm rfl
    | with_reducible apply State.seen_ev
    | with_reducible apply Ev.setCell
    | with_reducible apply Ev.setChan
    | with_reducible apply Ev.setAport
    | with_reducible apply Ev.setBport
    | with_reducible apply Ev.ite
    | with_reducible apply Ev.fold
    | with_reducible apply Ev.elim
    | with_reducible apply Ev.getD
    | with_reducible apply Ev.iter
    | intro _
    | dsimp only
    | split)

end Machine

end Sys2Proof
end

