-- ==== Sys2Proof/Laws/EvCell.lean ====
section
/-! SUPPORT. What each operation of Machine/Cell.lean can change, and that it keeps what no command may break (Laws/Evolve.lean). -/

set_option linter.unusedTactic false
set_option linter.unreachableTactic false
set_option linter.unusedVariables false

namespace Sys2Proof

open Machine

namespace Machine

theorem State.resetCell_ev {m : Nat} {s0 : State} {s : State} (a1 : Nat) (h : Ev m s0 s) (hm : Sub 16384 m) :
    Ev m s0 (State.resetCell s a1) := by
  unfold State.resetCell
  repeat' (first
    | with_reducible assumption
    | exact Sub.trans hm rfl
    | with_reducible apply Ev.setCell
    | with_reducible apply Ev.ite
    | with_reducible apply Ev.fold
    | with_reducible apply Ev.elim
    | with_reducible apply Ev.getD
    | with_reducible apply Ev.iter
    | intro _
    | dsimp only
    | split)

theorem execTokenArrival_ev {m : Nat} {s0 : State} (a0 : Fin 34816) (a1 : Fin 4) (a2 : BitVec 17) {s : State} (h : Ev m s0 s) (hm : Sub 2475880078858991589435228170 m) :
    EvOut m s0 (execTokenArrival a0 a1 a2 s) := by
  unfold execTokenArrival
  repeat' (first
    | with_reducible assumption
    | exact Sub.trans hm rfl
    | with_reducible apply EvOut.next
    | with_reducible apply EvOut.ite
    | with_reducible apply ok_ev
    | with_reducible apply State.takeFrom_ev
    | with_reducible apply Ev.setCell
    | with_reducible apply State.codeReport_ev
    | with_reducible apply Ev.ite
    | with_reducible apply Ev.fold
    | with_reducible apply Ev.elim
    | with_reducible apply Ev.getD
    | with_reducible apply Ev.iter
    | intro _
    | dsimp only
    | split)

theorem State.advance_ev {m : Nat} {s0 : State} {s : State} (a1 : Nat) (a2 : Sys2Proof.Machine.Slot) (a3 : Option Sys2Proof.Machine.Link) (h : Ev m s0 s) (hm : Sub 16392 m) :
    Ev m s0 (State.advance s a1 a2 a3) := by
  unfold State.advance
  repeat' (first
    | with_reducible assumption
    | exact Sub.trans hm rfl
    | with_reducible apply Ev.setCell
    | with_reducible apply State.sticky_ev
    | with_reducible apply Ev.ite
    | with_reducible apply Ev.fold
    | with_reducible apply Ev.elim
    | with_reducible apply Ev.getD
    | with_reducible apply Ev.iter
    | intro _
    | dsimp only
    | split)

theorem State.emit_ev {m : Nat} {s0 : State} {s : State} (a1 : Nat) (a2 : Bool) (a3 : Sys2Proof.Tok) (h : Ev m s0 s) (hm : Sub 16384 m) :
    Ev m s0 (State.emit s a1 a2 a3) := by
  unfold State.emit
  repeat' (first
    | with_reducible assumption
    | exact Sub.trans hm rfl
    | with_reducible apply Ev.setCell
    | with_reducible apply Ev.ite
    | with_reducible apply Ev.fold
    | with_reducible apply Ev.elim
    | with_reducible apply Ev.getD
    | with_reducible apply Ev.iter
    | intro _
    | dsimp only
    | split)

theorem State.perform_ev {m : Nat} {s0 : State} {s : State} (a1 : Nat) (a2 : Sys2Proof.Machine.Slot) (a3 : Bool) (a4 : Sys2Proof.Machine.ExecIn → Sys2Proof.Machine.ExecRes) (h : Ev m s0 s) (hm : Sub 16392 m) :
    Ev m s0 (State.perform s a1 a2 a3 a4) := by
  unfold State.perform
  repeat' (first
    | with_reducible assumption
    | exact Sub.trans hm rfl
    | with_reducible apply Ev.setCell
    | with_reducible apply State.emit_ev
    | with_reducible apply State.sticky_ev
    | with_reducible apply State.advance_ev
    | with_reducible apply Ev.ite
    | with_reducible apply Ev.fold
    | with_reducible apply Ev.elim
    | with_reducible apply Ev.getD
    | with_reducible apply Ev.iter
    | intro _
    | dsimp only
    | split)

theorem State.checked_ev {m : Nat} {s0 : State} {s : State} (a1 : Nat) (a2 : Sys2Proof.Check) (a3 : State → State) (h : Ev m s0 s) (hm : Sub 288231039363547146 m) (ha3 : ∀ t0, Ev m s0 t0 → Ev m s0 (a3 t0)) :
    Ev m s0 (State.checked s a1 a2 a3) := by
  unfold State.checked
  repeat' (first
    | with_reducible assumption
    | exact Sub.trans hm rfl
    | with_reducible apply State.transient_ev
    | with_reducible apply State.clusterFault_ev
    | with_reducible apply Ev.ite
    | with_reducible apply ha3
    | with_reducible apply Ev.fold
    | with_reducible apply Ev.elim
    | with_reducible apply Ev.getD
    | with_reducible apply Ev.iter
    | intro _
    | dsimp only
    | split)

theorem State.cellStep_ev {m : Nat} {s0 : State} {s : State} (a1 : Nat) (a2 : Sys2Proof.Check) (a3 : Nat) (a4 : Bool) (a5 : Sys2Proof.Machine.ExecIn → Sys2Proof.Machine.ExecRes) (h : Ev m s0 s) (hm : Sub 288231039363563530 m) :
    Ev m s0 (State.cellStep s a1 a2 a3 a4 a5) := by
  unfold State.cellStep
  repeat' (first
    | with_reducible assumption
    | exact Sub.trans hm rfl
    | with_reducible apply State.checked_ev
    | with_reducible apply State.perform_ev
    | with_reducible apply Ev.ite
    | with_reducible apply Ev.fold
    | with_reducible apply Ev.elim
    | with_reducible apply Ev.getD
    | with_reducible apply Ev.iter
    | intro _
    | dsimp only
    | split)

theorem State.skip_ev {m : Nat} {s0 : State} {s : State} (a1 : Nat) (a2 : Sys2Proof.Machine.Slot) (h : Ev m s0 s) (hm : Sub 16392 m) :
    Ev m s0 (State.skip s a1 a2) := by
  unfold State.skip
  repeat' (first
    | with_reducible assumption
    | exact Sub.trans hm rfl
    | with_reducible apply State.advance_ev
    | with_reducible apply Ev.ite
    | with_reducible apply Ev.fold
    | with_reducible apply Ev.elim
    | with_reducible apply Ev.getD
    | with_reducible apply Ev.iter
    | intro _
    | dsimp only
    | split)

theorem execSkippedStep_ev {m : Nat} {s0 : State} (a0 : Fin 34816) (a1 : Sys2Proof.Check) {s : State} (h : Ev m s0 s) (hm : Sub 288231039363563530 m) :
    EvOut m s0 (execSkippedStep a0 a1 s) := by
  unfold execSkippedStep
  repeat' (first
    | with_reducible assumption
    | exact Sub.trans hm rfl
    | with_reducible apply EvOut.next
    | with_reducible apply EvOut.ite
    | with_reducible apply ok_ev
    | with_reducible apply State.checked_ev
    | with_reducible apply State.skip_ev
    | with_reducible apply Ev.ite
    | with_reducible apply Ev.fold
    | with_reducible apply Ev.elim
    | with_reducible apply Ev.getD
    | with_reducible apply Ev.iter
    | intro _
    | dsimp only
    | split)

theorem execReservedOpcode_ev {m : Nat} {s0 : State} (a0 : Fin 34816) (a1 : Sys2Proof.Check) {s : State} (h : Ev m s0 s) (hm : Sub 288231039363563530 m) :
    EvOut m s0 (execReservedOpcode a0 a1 s) := by
  unfold execReservedOpcode
  repeat' (first
    | with_reducible assumption
    | exact Sub.trans hm rfl
    | with_reducible apply EvOut.next
    | with_reducible apply EvOut.ite
    | with_reducible apply ok_ev
    | with_reducible apply State.checked_ev
    | with_reducible apply State.skip_ev
    | with_reducible apply Ev.ite
    | with_reducible apply Ev.fold
    | with_reducible apply Ev.elim
    | with_reducible apply Ev.getD
    | with_reducible apply Ev.iter
    | intro _
    | dsimp only
    | split)

theorem execCellStall_ev {m : Nat} {s0 : State} (a0 : Fin 34816) (a1 : Bool) {s : State} (h : Ev m s0 s) (hm : Sub 288231039363547146 m) :
    EvOut m s0 (execCellStall a0 a1 s) := by
  unfold execCellStall
  repeat' (first
    | with_reducible assumption
    | exact Sub.trans hm rfl
    | with_reducible apply EvOut.next
    | with_reducible apply EvOut.ite
    | with_reducible apply State.sticky_ev
    | with_reducible apply ok_ev
    | with_reducible apply State.clusterFault_ev
    | with_reducible apply State.transient_ev
    | with_reducible apply Ev.ite
    | with_reducible apply Ev.fold
    | with_reducible apply Ev.elim
    | with_reducible apply Ev.getD
    | with_reducible apply Ev.iter
    | intro _
    | dsimp only
    | split)

theorem execNop_ev {m : Nat} {s0 : State} (a0 : Fin 34816) (a1 : Sys2Proof.Check) {s : State} (h : Ev m s0 s) (hm : Sub 288231039363563530 m) :
    EvOut m s0 (execNop a0 a1 s) := by
  unfold execNop
  repeat' (first
    | with_reducible assumption
    | exact Sub.trans hm rfl
    | with_reducible apply EvOut.next
    | with_reducible apply EvOut.ite
    | with_reducible apply ok_ev
    | with_reducible apply State.cellStep_ev
    | with_reducible apply Ev.ite
    | with_reducible apply Ev.fold
    | with_reducible apply Ev.elim
    | with_reducible apply Ev.getD
    | with_reducible apply Ev.iter
    | intro _
    | dsimp only
    | split)

theorem execMov_ev {m : Nat} {s0 : State} (a0 : Fin 34816) (a1 : Sys2Proof.Check) {s : State} (h : Ev m s0 s) (hm : Sub 288231039363563530 m) :
    EvOut m s0 (execMov a0 a1 s) := by
  unfold execMov
  repeat' (first
    | with_reducible assumption
    | exact Sub.trans hm rfl
    | with_reducible apply EvOut.next
    | with_reducible apply EvOut.ite
    | with_reducible apply ok_ev
    | with_reducible apply State.cellStep_ev
    | with_reducible apply Ev.ite
    | with_reducible apply Ev.fold
    | with_reducible apply Ev.elim
    | with_reducible apply Ev.getD
    | with_reducible apply Ev.iter
    | intro _
    | dsimp only
    | split)

theorem execMovh_ev {m : Nat} {s0 : State} (a0 : Fin 34816) (a1 : Sys2Proof.Check) {s : State} (h : Ev m s0 s) (hm : Sub 288231039363563530 m) :
    EvOut m s0 (execMovh a0 a1 s) := by
  unfold execMovh
  repeat' (first
    | with_reducible assumption
    | exact Sub.trans hm rfl
    | with_reducible apply EvOut.next
    | with_reducible apply EvOut.ite
    | with_reducible apply ok_ev
    | with_reducible apply State.cellStep_ev
    | with_reducible apply Ev.ite
    | with_reducible apply Ev.fold
    | with_reducible apply Ev.elim
    | with_reducible apply Ev.getD
    | with_reducible apply Ev.iter
    | intro _
    | dsimp only
    | split)

theorem execSel_ev {m : Nat} {s0 : State} (a0 : Fin 34816) (a1 : Sys2Proof.Check) {s : State} (h : Ev m s0 s) (hm : Sub 288231039363563530 m) :
    EvOut m s0 (execSel a0 a1 s) := by
  unfold execSel
  repeat' (first
    | with_reducible assumption
    | exact Sub.trans hm rfl
    | with_reducible apply EvOut.next
    | with_reducible apply EvOut.ite
    | with_reducible apply ok_ev
    | with_reducible apply State.cellStep_ev
    | with_reducible apply Ev.ite
    | with_reducible apply Ev.fold
    | with_reducible apply Ev.elim
    | with_reducible apply Ev.getD
    | with_reducible apply Ev.iter
    | intro _
    | dsimp only
    | split)

theorem execPtst_ev {m : Nat} {s0 : State} (a0 : Fin 34816) (a1 : Sys2Proof.Check) {s : State} (h : Ev m s0 s) (hm : Sub 288231039363563530 m) :
    EvOut m s0 (execPtst a0 a1 s) := by
  unfold execPtst
  repeat' (first
    | with_reducible assumption
    | exact Sub.trans hm rfl
    | with_reducible apply EvOut.next
    | with_reducible apply EvOut.ite
    | with_reducible apply ok_ev
    | with_reducible apply State.cellStep_ev
    | with_reducible apply Ev.ite
    | with_reducible apply Ev.fold
    | with_reducible apply Ev.elim
    | with_reducible apply Ev.getD
    | with_reducible apply Ev.iter
    | intro _
    | dsimp only
    | split)

theorem execFtst_ev {m : Nat} {s0 : State} (a0 : Fin 34816) (a1 : Sys2Proof.Check) {s : State} (h : Ev m s0 s) (hm : Sub 288231039363563530 m) :
    EvOut m s0 (execFtst a0 a1 s) := by
  unfold execFtst
  repeat' (first
    | with_reducible assumption
    | exact Sub.trans hm rfl
    | with_reducible apply EvOut.next
    | with_reducible apply EvOut.ite
    | with_reducible apply ok_ev
    | with_reducible apply State.cellStep_ev
    | with_reducible apply Ev.ite
    | with_reducible apply Ev.fold
    | with_reducible apply Ev.elim
    | with_reducible apply Ev.getD
    | with_reducible apply Ev.iter
    | intro _
    | dsimp only
    | split)

theorem execAdd_ev {m : Nat} {s0 : State} (a0 : Fin 34816) (a1 : Sys2Proof.Check) {s : State} (h : Ev m s0 s) (hm : Sub 288231039363563530 m) :
    EvOut m s0 (execAdd a0 a1 s) := by
  unfold execAdd
  repeat' (first
    | with_reducible assumption
    | exact Sub.trans hm rfl
    | with_reducible apply EvOut.next
    | with_reducible apply EvOut.ite
    | with_reducible apply ok_ev
    | with_reducible apply State.cellStep_ev
    | with_reducible apply Ev.ite
    | with_reducible apply Ev.fold
    | with_reducible apply Ev.elim
    | with_reducible apply Ev.getD
    | with_reducible apply Ev.iter
    | intro _
    | dsimp only
    | split)

theorem execAdc_ev {m : Nat} {s0 : State} (a0 : Fin 34816) (a1 : Sys2Proof.Check) {s : State} (h : Ev m s0 s) (hm : Sub 288231039363563530 m) :
    EvOut m s0 (execAdc a0 a1 s) := by
  unfold execAdc
  repeat' (first
    | with_reducible assumption
    | exact Sub.trans hm rfl
    | with_reducible apply EvOut.next
    | with_reducible apply EvOut.ite
    | with_reducible apply ok_ev
    | with_reducible apply State.cellStep_ev
    | with_reducible apply Ev.ite
    | with_reducible apply Ev.fold
    | with_reducible apply Ev.elim
    | with_reducible apply Ev.getD
    | with_reducible apply Ev.iter
    | intro _
    | dsimp only
    | split)

theorem execSub_ev {m : Nat} {s0 : State} (a0 : Fin 34816) (a1 : Sys2Proof.Check) {s : State} (h : Ev m s0 s) (hm : Sub 288231039363563530 m) :
    EvOut m s0 (execSub a0 a1 s) := by
  unfold execSub
  repeat' (first
    | with_reducible assumption
    | exact Sub.trans hm rfl
    | with_reducible apply EvOut.next
    | with_reducible apply EvOut.ite
    | with_reducible apply ok_ev
    | with_reducible apply State.cellStep_ev
    | with_reducible apply Ev.ite
    | with_reducible apply Ev.fold
    | with_reducible apply Ev.elim
    | with_reducible apply Ev.getD
    | with_reducible apply Ev.iter
    | intro _
    | dsimp only
    | split)

theorem execSbc_ev {m : Nat} {s0 : State} (a0 : Fin 34816) (a1 : Sys2Proof.Check) {s : State} (h : Ev m s0 s) (hm : Sub 288231039363563530 m) :
    EvOut m s0 (execSbc a0 a1 s) := by
  unfold execSbc
  repeat' (first
    | with_reducible assumption
    | exact Sub.trans hm rfl
    | with_reducible apply EvOut.next
    | with_reducible apply EvOut.ite
    | with_reducible apply ok_ev
    | with_reducible apply State.cellStep_ev
    | with_reducible apply Ev.ite
    | with_reducible apply Ev.fold
    | with_reducible apply Ev.elim
    | with_reducible apply Ev.getD
    | with_reducible apply Ev.iter
    | intro _
    | dsimp only
    | split)

theorem execNeg_ev {m : Nat} {s0 : State} (a0 : Fin 34816) (a1 : Sys2Proof.Check) {s : State} (h : Ev m s0 s) (hm : Sub 288231039363563530 m) :
    EvOut m s0 (execNeg a0 a1 s) := by
  unfold execNeg
  repeat' (first
    | with_reducible assumption
    | exact Sub.trans hm rfl
    | with_reducible apply EvOut.next
    | with_reducible apply EvOut.ite
    | with_reducible apply ok_ev
    | with_reducible apply State.cellStep_ev
    | with_reducible apply Ev.ite
    | with_reducible apply Ev.fold
    | with_reducible apply Ev.elim
    | with_reducible apply Ev.getD
    | with_reducible apply Ev.iter
    | intro _
    | dsimp only
    | split)

theorem execAbs_ev {m : Nat} {s0 : State} (a0 : Fin 34816) (a1 : Sys2Proof.Check) {s : State} (h : Ev m s0 s) (hm : Sub 288231039363563530 m) :
    EvOut m s0 (execAbs a0 a1 s) := by
  unfold execAbs
  repeat' (first
    | with_reducible assumption
    | exact Sub.trans hm rfl
    | with_reducible apply EvOut.next
    | with_reducible apply EvOut.ite
    | with_reducible apply ok_ev
    | with_reducible apply State.cellStep_ev
    | with_reducible apply Ev.ite
    | with_reducible apply Ev.fold
    | with_reducible apply Ev.elim
    | with_reducible apply Ev.getD
    | with_reducible apply Ev.iter
    | intro _
    | dsimp only
    | split)

theorem execAdds_ev {m : Nat} {s0 : State} (a0 : Fin 34816) (a1 : Sys2Proof.Check) {s : State} (h : Ev m s0 s) (hm : Sub 288231039363563530 m) :
    EvOut m s0 (execAdds a0 a1 s) := by
  unfold execAdds
  repeat' (first
    | with_reducible assumption
    | exact Sub.trans hm rfl
    | with_reducible apply EvOut.next
    | with_reducible apply EvOut.ite
    | with_reducible apply ok_ev
    | with_reducible apply State.cellStep_ev
    | with_reducible apply Ev.ite
    | with_reducible apply Ev.fold
    | with_reducible apply Ev.elim
    | with_reducible apply Ev.getD
    | with_reducible apply Ev.iter
    | intro _
    | dsimp only
    | split)

theorem execSubs_ev {m : Nat} {s0 : State} (a0 : Fin 34816) (a1 : Sys2Proof.Check) {s : State} (h : Ev m s0 s) (hm : Sub 288231039363563530 m) :
    EvOut m s0 (execSubs a0 a1 s) := by
  unfold execSubs
  repeat' (first
    | with_reducible assumption
    | exact Sub.trans hm rfl
    | with_reducible apply EvOut.next
    | with_reducible apply EvOut.ite
    | with_reducible apply ok_ev
    | with_reducible apply State.cellStep_ev
    | with_reducible apply Ev.ite
    | with_reducible apply Ev.fold
    | with_reducible apply Ev.elim
    | with_reducible apply Ev.getD
    | with_reducible apply Ev.iter
    | intro _
    | dsimp only
    | split)

theorem execAddu_ev {m : Nat} {s0 : State} (a0 : Fin 34816) (a1 : Sys2Proof.Check) {s : State} (h : Ev m s0 s) (hm : Sub 288231039363563530 m) :
    EvOut m s0 (execAddu a0 a1 s) := by
  unfold execAddu
  repeat' (first
    | with_reducible assumption
    | exact Sub.trans hm rfl
    | with_reducible apply EvOut.next
    | with_reducible apply EvOut.ite
    | with_reducible apply ok_ev
    | with_reducible apply State.cellStep_ev
    | with_reducible apply Ev.ite
    | with_reducible apply Ev.fold
    | with_reducible apply Ev.elim
    | with_reducible apply Ev.getD
    | with_reducible apply Ev.iter
    | intro _
    | dsimp only
    | split)

theorem execSubu_ev {m : Nat} {s0 : State} (a0 : Fin 34816) (a1 : Sys2Proof.Check) {s : State} (h : Ev m s0 s) (hm : Sub 288231039363563530 m) :
    EvOut m s0 (execSubu a0 a1 s) := by
  unfold execSubu
  repeat' (first
    | with_reducible assumption
    | exact Sub.trans hm rfl
    | with_reducible apply EvOut.next
    | with_reducible apply EvOut.ite
    | with_reducible apply ok_ev
    | with_reducible apply State.cellStep_ev
    | with_reducible apply Ev.ite
    | with_reducible apply Ev.fold
    | with_reducible apply Ev.elim
    | with_reducible apply Ev.getD
    | with_reducible apply Ev.iter
    | intro _
    | dsimp only
    | split)

theorem execMin_ev {m : Nat} {s0 : State} (a0 : Fin 34816) (a1 : Sys2Proof.Check) {s : State} (h : Ev m s0 s) (hm : Sub 288231039363563530 m) :
    EvOut m s0 (execMin a0 a1 s) := by
  unfold execMin
  repeat' (first
    | with_reducible assumption
    | exact Sub.trans hm rfl
    | with_reducible apply EvOut.next
    | with_reducible apply EvOut.ite
    | with_reducible apply ok_ev
    | with_reducible apply State.cellStep_ev
    | with_reducible apply Ev.ite
    | with_reducible apply Ev.fold
    | with_reducible apply Ev.elim
    | with_reducible apply Ev.getD
    | with_reducible apply Ev.iter
    | intro _
    | dsimp only
    | split)

theorem execMax_ev {m : Nat} {s0 : State} (a0 : Fin 34816) (a1 : Sys2Proof.Check) {s : State} (h : Ev m s0 s) (hm : Sub 288231039363563530 m) :
    EvOut m s0 (execMax a0 a1 s) := by
  unfold execMax
  repeat' (first
    | with_reducible assumption
    | exact Sub.trans hm rfl
    | with_reducible apply EvOut.next
    | with_reducible apply EvOut.ite
    | with_reducible apply ok_ev
    | with_reducible apply State.cellStep_ev
    | with_reducible apply Ev.ite
    | with_reducible apply Ev.fold
    | with_reducible apply Ev.elim
    | with_reducible apply Ev.getD
    | with_reducible apply Ev.iter
    | intro _
    | dsimp only
    | split)

theorem execMinu_ev {m : Nat} {s0 : State} (a0 : Fin 34816) (a1 : Sys2Proof.Check) {s : State} (h : Ev m s0 s) (hm : Sub 288231039363563530 m) :
    EvOut m s0 (execMinu a0 a1 s) := by
  unfold execMinu
  repeat' (first
    | with_reducible assumption
    | exact Sub.trans hm rfl
    | with_reducible apply EvOut.next
    | with_reducible apply EvOut.ite
    | with_reducible apply ok_ev
    | with_reducible apply State.cellStep_ev
    | with_reducible apply Ev.ite
    | with_reducible apply Ev.fold
    | with_reducible apply Ev.elim
    | with_reducible apply Ev.getD
    | with_reducible apply Ev.iter
    | intro _
    | dsimp only
    | split)

theorem execMaxu_ev {m : Nat} {s0 : State} (a0 : Fin 34816) (a1 : Sys2Proof.Check) {s : State} (h : Ev m s0 s) (hm : Sub 288231039363563530 m) :
    EvOut m s0 (execMaxu a0 a1 s) := by
  unfold execMaxu
  repeat' (first
    | with_reducible assumption
    | exact Sub.trans hm rfl
    | with_reducible apply EvOut.next
    | with_reducible apply EvOut.ite
    | with_reducible apply ok_ev
    | with_reducible apply State.cellStep_ev
    | with_reducible apply Ev.ite
    | with_reducible apply Ev.fold
    | with_reducible apply Ev.elim
    | with_reducible apply Ev.getD
    | with_reducible apply Ev.iter
    | intro _
    | dsimp only
    | split)

theorem execSats_ev {m : Nat} {s0 : State} (a0 : Fin 34816) (a1 : Sys2Proof.Check) {s : State} (h : Ev m s0 s) (hm : Sub 288231039363563530 m) :
    EvOut m s0 (execSats a0 a1 s) := by
  unfold execSats
  repeat' (first
    | with_reducible assumption
    | exact Sub.trans hm rfl
    | with_reducible apply EvOut.next
    | with_reducible apply EvOut.ite
    | with_reducible apply ok_ev
    | with_reducible apply State.cellStep_ev
    | with_reducible apply Ev.ite
    | with_reducible apply Ev.fold
    | with_reducible apply Ev.elim
    | with_reducible apply Ev.getD
    | with_reducible apply Ev.iter
    | intro _
    | dsimp only
    | split)

theorem execSatu_ev {m : Nat} {s0 : State} (a0 : Fin 34816) (a1 : Sys2Proof.Check) {s : State} (h : Ev m s0 s) (hm : Sub 288231039363563530 m) :
    EvOut m s0 (execSatu a0 a1 s) := by
  unfold execSatu
  repeat' (first
    | with_reducible assumption
    | exact Sub.trans hm rfl
    | with_reducible apply EvOut.next
    | with_reducible apply EvOut.ite
    | with_reducible apply ok_ev
    | with_reducible apply State.cellStep_ev
    | with_reducible apply Ev.ite
    | with_reducible apply Ev.fold
    | with_reducible apply Ev.elim
    | with_reducible apply Ev.getD
    | with_reducible apply Ev.iter
    | intro _
    | dsimp only
    | split)

theorem execClamp_ev {m : Nat} {s0 : State} (a0 : Fin 34816) (a1 : Sys2Proof.Check) {s : State} (h : Ev m s0 s) (hm : Sub 288231039363563530 m) :
    EvOut m s0 (execClamp a0 a1 s) := by
  unfold execClamp
  repeat' (first
    | with_reducible assumption
    | exact Sub.trans hm rfl
    | with_reducible apply EvOut.next
    | with_reducible apply EvOut.ite
    | with_reducible apply ok_ev
    | with_reducible apply State.cellStep_ev
    | with_reducible apply Ev.ite
    | with_reducible apply Ev.fold
    | with_reducible apply Ev.elim
    | with_reducible apply Ev.getD
    | with_reducible apply Ev.iter
    | intro _
    | dsimp only
    | split)

theorem execAndOp_ev {m : Nat} {s0 : State} (a0 : Fin 34816) (a1 : Sys2Proof.Check) {s : State} (h : Ev m s0 s) (hm : Sub 288231039363563530 m) :
    EvOut m s0 (execAndOp a0 a1 s) := by
  unfold execAndOp
  repeat' (first
    | with_reducible assumption
    | exact Sub.trans hm rfl
    | with_reducible apply EvOut.next
    | with_reducible apply EvOut.ite
    | with_reducible apply ok_ev
    | with_reducible apply State.cellStep_ev
    | with_reducible apply Ev.ite
    | with_reducible apply Ev.fold
    | with_reducible apply Ev.elim
    | with_reducible apply Ev.getD
    | with_reducible apply Ev.iter
    | intro _
    | dsimp only
    | split)

theorem execOrOp_ev {m : Nat} {s0 : State} (a0 : Fin 34816) (a1 : Sys2Proof.Check) {s : State} (h : Ev m s0 s) (hm : Sub 288231039363563530 m) :
    EvOut m s0 (execOrOp a0 a1 s) := by
  unfold execOrOp
  repeat' (first
    | with_reducible assumption
    | exact Sub.trans hm rfl
    | with_reducible apply EvOut.next
    | with_reducible apply EvOut.ite
    | with_reducible apply ok_ev
    | with_reducible apply State.cellStep_ev
    | with_reducible apply Ev.ite
    | with_reducible apply Ev.fold
    | with_reducible apply Ev.elim
    | with_reducible apply Ev.getD
    | with_reducible apply Ev.iter
    | intro _
    | dsimp only
    | split)

theorem execXorOp_ev {m : Nat} {s0 : State} (a0 : Fin 34816) (a1 : Sys2Proof.Check) {s : State} (h : Ev m s0 s) (hm : Sub 288231039363563530 m) :
    EvOut m s0 (execXorOp a0 a1 s) := by
  unfold execXorOp
  repeat' (first
    | with_reducible assumption
    | exact Sub.trans hm rfl
    | with_reducible apply EvOut.next
    | with_reducible apply EvOut.ite
    | with_reducible apply ok_ev
    | with_reducible apply State.cellStep_ev
    | with_reducible apply Ev.ite
    | with_reducible apply Ev.fold
    | with_reducible apply Ev.elim
    | with_reducible apply Ev.getD
    | with_reducible apply Ev.iter
    | intro _
    | dsimp only
    | split)

theorem execAndn_ev {m : Nat} {s0 : State} (a0 : Fin 34816) (a1 : Sys2Proof.Check) {s : State} (h : Ev m s0 s) (hm : Sub 288231039363563530 m) :
    EvOut m s0 (execAndn a0 a1 s) := by
  unfold execAndn
  repeat' (first
    | with_reducible assumption
    | exact Sub.trans hm rfl
    | with_reducible apply EvOut.next
    | with_reducible apply EvOut.ite
    | with_reducible apply ok_ev
    | with_reducible apply State.cellStep_ev
    | with_reducible apply Ev.ite
    | with_reducible apply Ev.fold
    | with_reducible apply Ev.elim
    | with_reducible apply Ev.getD
    | with_reducible apply Ev.iter
    | intro _
    | dsimp only
    | split)

theorem execShl_ev {m : Nat} {s0 : State} (a0 : Fin 34816) (a1 : Sys2Proof.Check) {s : State} (h : Ev m s0 s) (hm : Sub 288231039363563530 m) :
    EvOut m s0 (execShl a0 a1 s) := by
  unfold execShl
  repeat' (first
    | with_reducible assumption
    | exact Sub.trans hm rfl
    | with_reducible apply EvOut.next
    | with_reducible apply EvOut.ite
    | with_reducible apply ok_ev
    | with_reducible apply State.cellStep_ev
    | with_reducible apply Ev.ite
    | with_reducible apply Ev.fold
    | with_reducible apply Ev.elim
    | with_reducible apply Ev.getD
    | with_reducible apply Ev.iter
    | intro _
    | dsimp only
    | split)

theorem execShr_ev {m : Nat} {s0 : State} (a0 : Fin 34816) (a1 : Sys2Proof.Check) {s : State} (h : Ev m s0 s) (hm : Sub 288231039363563530 m) :
    EvOut m s0 (execShr a0 a1 s) := by
  unfold execShr
  repeat' (first
    | with_reducible assumption
    | exact Sub.trans hm rfl
    | with_reducible apply EvOut.next
    | with_reducible apply EvOut.ite
    | with_reducible apply ok_ev
    | with_reducible apply State.cellStep_ev
    | with_reducible apply Ev.ite
    | with_reducible apply Ev.fold
    | with_reducible apply Ev.elim
    | with_reducible apply Ev.getD
    | with_reducible apply Ev.iter
    | intro _
    | dsimp only
    | split)

theorem execSar_ev {m : Nat} {s0 : State} (a0 : Fin 34816) (a1 : Sys2Proof.Check) {s : State} (h : Ev m s0 s) (hm : Sub 288231039363563530 m) :
    EvOut m s0 (execSar a0 a1 s) := by
  unfold execSar
  repeat' (first
    | with_reducible assumption
    | exact Sub.trans hm rfl
    | with_reducible apply EvOut.next
    | with_reducible apply EvOut.ite
    | with_reducible apply ok_ev
    | with_reducible apply State.cellStep_ev
    | with_reducible apply Ev.ite
    | with_reducible apply Ev.fold
    | with_reducible apply Ev.elim
    | with_reducible apply Ev.getD
    | with_reducible apply Ev.iter
    | intro _
    | dsimp only
    | split)

theorem execRol_ev {m : Nat} {s0 : State} (a0 : Fin 34816) (a1 : Sys2Proof.Check) {s : State} (h : Ev m s0 s) (hm : Sub 288231039363563530 m) :
    EvOut m s0 (execRol a0 a1 s) := by
  unfold execRol
  repeat' (first
    | with_reducible assumption
    | exact Sub.trans hm rfl
    | with_reducible apply EvOut.next
    | with_reducible apply EvOut.ite
    | with_reducible apply ok_ev
    | with_reducible apply State.cellStep_ev
    | with_reducible apply Ev.ite
    | with_reducible apply Ev.fold
    | with_reducible apply Ev.elim
    | with_reducible apply Ev.getD
    | with_reducible apply Ev.iter
    | intro _
    | dsimp only
    | split)

theorem execRor_ev {m : Nat} {s0 : State} (a0 : Fin 34816) (a1 : Sys2Proof.Check) {s : State} (h : Ev m s0 s) (hm : Sub 288231039363563530 m) :
    EvOut m s0 (execRor a0 a1 s) := by
  unfold execRor
  repeat' (first
    | with_reducible assumption
    | exact Sub.trans hm rfl
    | with_reducible apply EvOut.next
    | with_reducible apply EvOut.ite
    | with_reducible apply ok_ev
    | with_reducible apply State.cellStep_ev
    | with_reducible apply Ev.ite
    | with_reducible apply Ev.fold
    | with_reducible apply Ev.elim
    | with_reducible apply Ev.getD
    | with_reducible apply Ev.iter
    | intro _
    | dsimp only
    | split)

theorem execShlc_ev {m : Nat} {s0 : State} (a0 : Fin 34816) (a1 : Sys2Proof.Check) {s : State} (h : Ev m s0 s) (hm : Sub 288231039363563530 m) :
    EvOut m s0 (execShlc a0 a1 s) := by
  unfold execShlc
  repeat' (first
    | with_reducible assumption
    | exact Sub.trans hm rfl
    | with_reducible apply EvOut.next
    | with_reducible apply EvOut.ite
    | with_reducible apply ok_ev
    | with_reducible apply State.cellStep_ev
    | with_reducible apply Ev.ite
    | with_reducible apply Ev.fold
    | with_reducible apply Ev.elim
    | with_reducible apply Ev.getD
    | with_reducible apply Ev.iter
    | intro _
    | dsimp only
    | split)

theorem execFshr_ev {m : Nat} {s0 : State} (a0 : Fin 34816) (a1 : Sys2Proof.Check) {s : State} (h : Ev m s0 s) (hm : Sub 288231039363563530 m) :
    EvOut m s0 (execFshr a0 a1 s) := by
  unfold execFshr
  repeat' (first
    | with_reducible assumption
    | exact Sub.trans hm rfl
    | with_reducible apply EvOut.next
    | with_reducible apply EvOut.ite
    | with_reducible apply ok_ev
    | with_reducible apply State.cellStep_ev
    | with_reducible apply Ev.ite
    | with_reducible apply Ev.fold
    | with_reducible apply Ev.elim
    | with_reducible apply Ev.getD
    | with_reducible apply Ev.iter
    | intro _
    | dsimp only
    | split)

theorem execClz_ev {m : Nat} {s0 : State} (a0 : Fin 34816) (a1 : Sys2Proof.Check) {s : State} (h : Ev m s0 s) (hm : Sub 288231039363563530 m) :
    EvOut m s0 (execClz a0 a1 s) := by
  unfold execClz
  repeat' (first
    | with_reducible assumption
    | exact Sub.trans hm rfl
    | with_reducible apply EvOut.next
    | with_reducible apply EvOut.ite
    | with_reducible apply ok_ev
    | with_reducible apply State.cellStep_ev
    | with_reducible apply Ev.ite
    | with_reducible apply Ev.fold
    | with_reducible apply Ev.elim
    | with_reducible apply Ev.getD
    | with_reducible apply Ev.iter
    | intro _
    | dsimp only
    | split)

theorem execMul_ev {m : Nat} {s0 : State} (a0 : Fin 34816) (a1 : Sys2Proof.Check) {s : State} (h : Ev m s0 s) (hm : Sub 288231039363563530 m) :
    EvOut m s0 (execMul a0 a1 s) := by
  unfold execMul
  repeat' (first
    | with_reducible assumption
    | exact Sub.trans hm rfl
    | with_reducible apply EvOut.next
    | with_reducible apply EvOut.ite
    | with_reducible apply ok_ev
    | with_reducible apply State.cellStep_ev
    | with_reducible apply Ev.ite
    | with_reducible apply Ev.fold
    | with_reducible apply Ev.elim
    | with_reducible apply Ev.getD
    | with_reducible apply Ev.iter
    | intro _
    | dsimp only
    | split)

theorem execMulh_ev {m : Nat} {s0 : State} (a0 : Fin 34816) (a1 : Sys2Proof.Check) {s : State} (h : Ev m s0 s) (hm : Sub 288231039363563530 m) :
    EvOut m s0 (execMulh a0 a1 s) := by
  unfold execMulh
  repeat' (first
    | with_reducible assumption
    | exact Sub.trans hm rfl
    | with_reducible apply EvOut.next
    | with_reducible apply EvOut.ite
    | with_reducible apply ok_ev
    | with_reducible apply State.cellStep_ev
    | with_reducible apply Ev.ite
    | with_reducible apply Ev.fold
    | with_reducible apply Ev.elim
    | with_reducible apply Ev.getD
    | with_reducible apply Ev.iter
    | intro _
    | dsimp only
    | split)

theorem execMulhu_ev {m : Nat} {s0 : State} (a0 : Fin 34816) (a1 : Sys2Proof.Check) {s : State} (h : Ev m s0 s) (hm : Sub 288231039363563530 m) :
    EvOut m s0 (execMulhu a0 a1 s) := by
  unfold execMulhu
  repeat' (first
    | with_reducible assumption
    | exact Sub.trans hm rfl
    | with_reducible apply EvOut.next
    | with_reducible apply EvOut.ite
    | with_reducible apply ok_ev
    | with_reducible apply State.cellStep_ev
    | with_reducible apply Ev.ite
    | with_reducible apply Ev.fold
    | with_reducible apply Ev.elim
    | with_reducible apply Ev.getD
    | with_reducible apply Ev.iter
    | intro _
    | dsimp only
    | split)

theorem execMulsh_ev {m : Nat} {s0 : State} (a0 : Fin 34816) (a1 : Sys2Proof.Check) {s : State} (h : Ev m s0 s) (hm : Sub 288231039363563530 m) :
    EvOut m s0 (execMulsh a0 a1 s) := by
  unfold execMulsh
  repeat' (first
    | with_reducible assumption
    | exact Sub.trans hm rfl
    | with_reducible apply EvOut.next
    | with_reducible apply EvOut.ite
    | with_reducible apply ok_ev
    | with_reducible apply State.cellStep_ev
    | with_reducible apply Ev.ite
    | with_reducible apply Ev.fold
    | with_reducible apply Ev.elim
    | with_reducible apply Ev.getD
    | with_reducible apply Ev.iter
    | intro _
    | dsimp only
    | split)

theorem execCeq_ev {m : Nat} {s0 : State} (a0 : Fin 34816) (a1 : Sys2Proof.Check) {s : State} (h : Ev m s0 s) (hm : Sub 288231039363563530 m) :
    EvOut m s0 (execCeq a0 a1 s) := by
  unfold execCeq
  repeat' (first
    | with_reducible assumption
    | exact Sub.trans hm rfl
    | with_reducible apply EvOut.next
    | with_reducible apply EvOut.ite
    | with_reducible apply ok_ev
    | with_reducible apply State.cellStep_ev
    | with_reducible apply Ev.ite
    | with_reducible apply Ev.fold
    | with_reducible apply Ev.elim
    | with_reducible apply Ev.getD
    | with_reducible apply Ev.iter
    | intro _
    | dsimp only
    | split)

theorem execCne_ev {m : Nat} {s0 : State} (a0 : Fin 34816) (a1 : Sys2Proof.Check) {s : State} (h : Ev m s0 s) (hm : Sub 288231039363563530 m) :
    EvOut m s0 (execCne a0 a1 s) := by
  unfold execCne
  repeat' (first
    | with_reducible assumption
    | exact Sub.trans hm rfl
    | with_reducible apply EvOut.next
    | with_reducible apply EvOut.ite
    | with_reducible apply ok_ev
    | with_reducible apply State.cellStep_ev
    | with_reducible apply Ev.ite
    | with_reducible apply Ev.fold
    | with_reducible apply Ev.elim
    | with_reducible apply Ev.getD
    | with_reducible apply Ev.iter
    | intro _
    | dsimp only
    | split)

theorem execClt_ev {m : Nat} {s0 : State} (a0 : Fin 34816) (a1 : Sys2Proof.Check) {s : State} (h : Ev m s0 s) (hm : Sub 288231039363563530 m) :
    EvOut m s0 (execClt a0 a1 s) := by
  unfold execClt
  repeat' (first
    | with_reducible assumption
    | exact Sub.trans hm rfl
    | with_reducible apply EvOut.next
    | with_reducible apply EvOut.ite
    | with_reducible apply ok_ev
    | with_reducible apply State.cellStep_ev
    | with_reducible apply Ev.ite
    | with_reducible apply Ev.fold
    | with_reducible apply Ev.elim
    | with_reducible apply Ev.getD
    | with_reducible apply Ev.iter
    | intro _
    | dsimp only
    | split)

theorem execCle_ev {m : Nat} {s0 : State} (a0 : Fin 34816) (a1 : Sys2Proof.Check) {s : State} (h : Ev m s0 s) (hm : Sub 288231039363563530 m) :
    EvOut m s0 (execCle a0 a1 s) := by
  unfold execCle
  repeat' (first
    | with_reducible assumption
    | exact Sub.trans hm rfl
    | with_reducible apply EvOut.next
    | with_reducible apply EvOut.ite
    | with_reducible apply ok_ev
    | with_reducible apply State.cellStep_ev
    | with_reducible apply Ev.ite
    | with_reducible apply Ev.fold
    | with_reducible apply Ev.elim
    | with_reducible apply Ev.getD
    | with_reducible apply Ev.iter
    | intro _
    | dsimp only
    | split)

theorem execCgt_ev {m : Nat} {s0 : State} (a0 : Fin 34816) (a1 : Sys2Proof.Check) {s : State} (h : Ev m s0 s) (hm : Sub 288231039363563530 m) :
    EvOut m s0 (execCgt a0 a1 s) := by
  unfold execCgt
  repeat' (first
    | with_reducible assumption
    | exact Sub.trans hm rfl
    | with_reducible apply EvOut.next
    | with_reducible apply EvOut.ite
    | with_reducible apply ok_ev
    | with_reducible apply State.cellStep_ev
    | with_reducible apply Ev.ite
    | with_reducible apply Ev.fold
    | with_reducible apply Ev.elim
    | with_reducible apply Ev.getD
    | with_reducible apply Ev.iter
    | intro _
    | dsimp only
    | split)

theorem execCge_ev {m : Nat} {s0 : State} (a0 : Fin 34816) (a1 : Sys2Proof.Check) {s : State} (h : Ev m s0 s) (hm : Sub 288231039363563530 m) :
    EvOut m s0 (execCge a0 a1 s) := by
  unfold execCge
  repeat' (first
    | with_reducible assumption
    | exact Sub.trans hm rfl
    | with_reducible apply EvOut.next
    | with_reducible apply EvOut.ite
    | with_reducible apply ok_ev
    | with_reducible apply State.cellStep_ev
    | with_reducible apply Ev.ite
    | with_reducible apply Ev.fold
    | with_reducible apply Ev.elim
    | with_reducible apply Ev.getD
    | with_reducible apply Ev.iter
    | intro _
    | dsimp only
    | split)

theorem execCltu_ev {m : Nat} {s0 : State} (a0 : Fin 34816) (a1 : Sys2Proof.Check) {s : State} (h : Ev m s0 s) (hm : Sub 288231039363563530 m) :
    EvOut m s0 (execCltu a0 a1 s) := by
  unfold execCltu
  repeat' (first
    | with_reducible assumption
    | exact Sub.trans hm rfl
    | with_reducible apply EvOut.next
    | with_reducible apply EvOut.ite
    | with_reducible apply ok_ev
    | with_reducible apply State.cellStep_ev
    | with_reducible apply Ev.ite
    | with_reducible apply Ev.fold
    | with_reducible apply Ev.elim
    | with_reducible apply Ev.getD
    | with_reducible apply Ev.iter
    | intro _
    | dsimp only
    | split)

theorem execCleu_ev {m : Nat} {s0 : State} (a0 : Fin 34816) (a1 : Sys2Proof.Check) {s : State} (h : Ev m s0 s) (hm : Sub 288231039363563530 m) :
    EvOut m s0 (execCleu a0 a1 s) := by
  unfold execCleu
  repeat' (first
    | with_reducible assumption
    | exact Sub.trans hm rfl
    | with_reducible apply EvOut.next
    | with_reducible apply EvOut.ite
    | with_reducible apply ok_ev
    | with_reducible apply State.cellStep_ev
    | with_reducible apply Ev.ite
    | with_reducible apply Ev.fold
    | with_reducible apply Ev.elim
    | with_reducible apply Ev.getD
    | with_reducible apply Ev.iter
    | intro _
    | dsimp only
    | split)

theorem execCgtu_ev {m : Nat} {s0 : State} (a0 : Fin 34816) (a1 : Sys2Proof.Check) {s : State} (h : Ev m s0 s) (hm : Sub 288231039363563530 m) :
    EvOut m s0 (execCgtu a0 a1 s) := by
  unfold execCgtu
  repeat' (first
    | with_reducible assumption
    | exact Sub.trans hm rfl
    | with_reducible apply EvOut.next
    | with_reducible apply EvOut.ite
    | with_reducible apply ok_ev
    | with_reducible apply State.cellStep_ev
    | with_reducible apply Ev.ite
    | with_reducible apply Ev.fold
    | with_reducible apply Ev.elim
    | with_reducible apply Ev.getD
    | with_reducible apply Ev.iter
    | intro _
    | dsimp only
    | split)

theorem execCgeu_ev {m : Nat} {s0 : State} (a0 : Fin 34816) (a1 : Sys2Proof.Check) {s : State} (h : Ev m s0 s) (hm : Sub 288231039363563530 m) :
    EvOut m s0 (execCgeu a0 a1 s) := by
  unfold execCgeu
  repeat' (first
    | with_reducible assumption
    | exact Sub.trans hm rfl
    | with_reducible apply EvOut.next
    | with_reducible apply EvOut.ite
    | with_reducible apply ok_ev
    | with_reducible apply State.cellStep_ev
    | with_reducible apply Ev.ite
    | with_reducible apply Ev.fold
    | with_reducible apply Ev.elim
    | with_reducible apply Ev.getD
    | with_reducible apply Ev.iter
    | intro _
    | dsimp only
    | split)

theorem execTst_ev {m : Nat} {s0 : State} (a0 : Fin 34816) (a1 : Sys2Proof.Check) {s : State} (h : Ev m s0 s) (hm : Sub 288231039363563530 m) :
    EvOut m s0 (execTst a0 a1 s) := by
  unfold execTst
  repeat' (first
    | with_reducible assumption
    | exact Sub.trans hm rfl
    | with_reducible apply EvOut.next
    | with_reducible apply EvOut.ite
    | with_reducible apply ok_ev
    | with_reducible apply State.cellStep_ev
    | with_reducible apply Ev.ite
    | with_reducible apply Ev.fold
    | with_reducible apply Ev.elim
    | with_reducible apply Ev.getD
    | with_reducible apply Ev.iter
    | intro _
    | dsimp only
    | split)

theorem execPlt_ev {m : Nat} {s0 : State} (a0 : Fin 34816) (a1 : Sys2Proof.Check) {s : State} (h : Ev m s0 s) (hm : Sub 288231039363563530 m) :
    EvOut m s0 (execPlt a0 a1 s) := by
  unfold execPlt
  repeat' (first
    | with_reducible assumption
    | exact Sub.trans hm rfl
    | with_reducible apply EvOut.next
    | with_reducible apply EvOut.ite
    | with_reducible apply ok_ev
    | with_reducible apply State.cellStep_ev
    | with_reducible apply Ev.ite
    | with_reducible apply Ev.fold
    | with_reducible apply Ev.elim
    | with_reducible apply Ev.getD
    | with_reducible apply Ev.iter
    | intro _
    | dsimp only
    | split)

theorem execPge_ev {m : Nat} {s0 : State} (a0 : Fin 34816) (a1 : Sys2Proof.Check) {s : State} (h : Ev m s0 s) (hm : Sub 288231039363563530 m) :
    EvOut m s0 (execPge a0 a1 s) := by
  unfold execPge
  repeat' (first
    | with_reducible assumption
    | exact Sub.trans hm rfl
    | with_reducible apply EvOut.next
    | with_reducible apply EvOut.ite
    | with_reducible apply ok_ev
    | with_reducible apply State.cellStep_ev
    | with_reducible apply Ev.ite
    | with_reducible apply Ev.fold
    | with_reducible apply Ev.elim
    | with_reducible apply Ev.getD
    | with_reducible apply Ev.iter
    | intro _
    | dsimp only
    | split)

theorem execPwin_ev {m : Nat} {s0 : State} (a0 : Fin 34816) (a1 : Sys2Proof.Check) {s : State} (h : Ev m s0 s) (hm : Sub 288231039363563530 m) :
    EvOut m s0 (execPwin a0 a1 s) := by
  unfold execPwin
  repeat' (first
    | with_reducible assumption
    | exact Sub.trans hm rfl
    | with_reducible apply EvOut.next
    | with_reducible apply EvOut.ite
    | with_reducible apply ok_ev
    | with_reducible apply State.cellStep_ev
    | with_reducible apply Ev.ite
    | with_reducible apply Ev.fold
    | with_reducible apply Ev.elim
    | with_reducible apply Ev.getD
    | with_reducible apply Ev.iter
    | intro _
    | dsimp only
    | split)

theorem execRd_ev {m : Nat} {s0 : State} (a0 : Fin 34816) (a1 : Sys2Proof.Check) {s : State} (h : Ev m s0 s) (hm : Sub 288231039363563530 m) :
    EvOut m s0 (execRd a0 a1 s) := by
  unfold execRd
  repeat' (first
    | with_reducible assumption
    | exact Sub.trans hm rfl
    | with_reducible apply EvOut.next
    | with_reducible apply EvOut.ite
    | with_reducible apply ok_ev
    | with_reducible apply State.cellStep_ev
    | with_reducible apply Ev.ite
    | with_reducible apply Ev.fold
    | with_reducible apply Ev.elim
    | with_reducible apply Ev.getD
    | with_reducible apply Ev.iter
    | intro _
    | dsimp only
    | split)

theorem execWr_ev {m : Nat} {s0 : State} (a0 : Fin 34816) (a1 : Sys2Proof.Check) {s : State} (h : Ev m s0 s) (hm : Sub 288231039363563530 m) :
    EvOut m s0 (execWr a0 a1 s) := by
  unfold execWr
  repeat' (first
    | with_reducible assumption
    | exact Sub.trans hm rfl
    | with_reducible apply EvOut.next
    | with_reducible apply EvOut.ite
    | with_reducible apply ok_ev
    | with_reducible apply State.cellStep_ev
    | with_reducible apply Ev.ite
    | with_reducible apply Ev.fold
    | with_reducible apply Ev.elim
    | with_reducible apply Ev.getD
    | with_reducible apply Ev.iter
    | intro _
    | dsimp only
    | split)

theorem execMark_ev {m : Nat} {s0 : State} (a0 : Fin 34816) (a1 : Sys2Proof.Check) {s : State} (h : Ev m s0 s) (hm : Sub 288231039363563530 m) :
    EvOut m s0 (execMark a0 a1 s) := by
  unfold execMark
  repeat' (first
    | with_reducible assumption
    | exact Sub.trans hm rfl
    | with_reducible apply EvOut.next
    | with_reducible apply EvOut.ite
    | with_reducible apply ok_ev
    | with_reducible apply State.cellStep_ev
    | with_reducible apply Ev.ite
    | with_reducible apply Ev.fold
    | with_reducible apply Ev.elim
    | with_reducible apply Ev.getD
    | with_reducible apply Ev.iter
    | intro _
    | dsimp only
    | split)

end Machine

end Sys2Proof
end

