-- ==== Sys2Proof/Laws/EvAccess.lean ====
section
/-! SUPPORT. What each operation of Machine/Access.lean can change, and that it keeps what no command may break (Laws/Evolve.lean). -/

set_option linter.unusedTactic false
set_option linter.unreachableTactic false
set_option linter.unusedVariables false

namespace Sys2Proof

open Machine

namespace Machine

theorem State.laneMove_ev {m : Nat} {s0 : State} {s : State} (a1 : Sys2Proof.PlaneLink) (a2 : BitVec 17) (h : Ev m s0 s) (hm : Sub 288231039715868682 m) :
    Ev m s0 (State.laneMove s a1 a2) := by
  unfold State.laneMove
  repeat' (first
    | with_reducible assumption
    | exact Sub.trans hm rfl
    | with_reducible apply State.mapFlight_ev
    | with_reducible apply Ev.setLaneArb
    | with_reducible apply State.codeReport_ev
    | with_reducible apply Ev.ite
    | with_reducible apply Ev.fold
    | with_reducible apply Ev.elim
    | with_reducible apply Ev.getD
    | with_reducible apply Ev.iter
    | intro _
    | dsimp only
    | split
    | with_reducible apply Ev.set_nextId)

theorem State.putReply_ev {m : Nat} {s0 : State} {s : State} (a1 : Nat) (a2 : Sys2Proof.Tok) (h : Ev m s0 s) (hm : Sub 524288 m) :
    Ev m s0 (State.putReply s a1 a2) := by
  unfold State.putReply
  repeat' (first
    | with_reducible assumption
    | exact Sub.trans hm rfl
    | with_reducible apply Ev.setAport
    | with_reducible apply Ev.ite
    | with_reducible apply Ev.fold
    | with_reducible apply Ev.elim
    | with_reducible apply Ev.getD
    | with_reducible apply Ev.iter
    | intro _
    | dsimp only
    | split)

theorem State.answerAtPort_ev {m : Nat} {s0 : State} {s : State} (a1 : Nat) (a2 : Sys2Proof.Machine.AKind) (a3 : Bool) (h : Ev m s0 s) (hm : Sub 524296 m) :
    Ev m s0 (State.answerAtPort s a1 a2 a3) := by
  unfold State.answerAtPort
  repeat' (first
    | with_reducible assumption
    | exact Sub.trans hm rfl
    | with_reducible apply State.viol_ev
    | with_reducible apply State.putReply_ev
    | with_reducible apply Ev.ite
    | with_reducible apply Ev.fold
    | with_reducible apply Ev.elim
    | with_reducible apply Ev.getD
    | with_reducible apply Ev.iter
    | intro _
    | dsimp only
    | split)

theorem execAccessWordSent_ev {m : Nat} {s0 : State} (a0 : Fin 2048) {s : State} (h : Ev m s0 s) (hm : Sub 101187592 m) :
    EvOut m s0 (execAccessWordSent a0 s) := by
  unfold execAccessWordSent
  repeat' (first
    | with_reducible assumption
    | exact Sub.trans hm rfl
    | with_reducible apply EvOut.next
    | with_reducible apply EvOut.ite
    | with_reducible apply ok_ev
    | with_reducible apply Ev.setAport
    | with_reducible apply State.answerAtPort_ev
    | with_reducible apply State.launch_ev
    | with_reducible apply Ev.ite
    | with_reducible apply Ev.fold
    | with_reducible apply Ev.elim
    | with_reducible apply Ev.getD
    | with_reducible apply Ev.iter
    | intro _
    | dsimp only
    | split)

theorem execStageStall_ev {m : Nat} {s0 : State} (a0 : Sys2Proof.StallPlace) (a1 : Bool) {s : State} (h : Ev m s0 s) (hm : Sub 288231039363547146 m) :
    EvOut m s0 (execStageStall a0 a1 s) := by
  unfold execStageStall
  repeat' (first
    | with_reducible assumption
    | exact Sub.trans hm rfl
    | with_reducible apply EvOut.next
    | with_reducible apply EvOut.ite
    | with_reducible apply State.sticky_ev
    | with_reducible apply ok_ev
    | with_reducible apply State.clusterFault_ev
    | with_reducible apply State.transient_ev
    | with_reducible apply State.sharedFault_ev
    | with_reducible apply Ev.ite
    | with_reducible apply Ev.fold
    | with_reducible apply Ev.elim
    | with_reducible apply Ev.getD
    | with_reducible apply Ev.iter
    | intro _
    | dsimp only
    | split)

theorem State.bmTake_ev {m : Nat} {s0 : State} {s : State} (a1 : Nat) (a2 : Nat) (a3 : Sys2Proof.Tok) (h : Ev m s0 s) (hm : Sub 4194304 m) :
    Ev m s0 (State.bmTake s a1 a2 a3) := by
  unfold State.bmTake
  repeat' (first
    | with_reducible assumption
    | exact Sub.trans hm rfl
    | with_reducible apply Ev.setBport
    | with_reducible apply Ev.ite
    | with_reducible apply Ev.fold
    | with_reducible apply Ev.elim
    | with_reducible apply Ev.getD
    | with_reducible apply Ev.iter
    | intro _
    | dsimp only
    | split)

theorem State.tapPut_ev {m : Nat} {s0 : State} {s : State} (a1 : Sys2Proof.Tok) (a2 : Nat) (h : Ev m s0 s) (hm : Sub 68723687424 m) :
    EvOpt m s0 (State.tapPut s a1 a2) := by
  unfold State.tapPut
  repeat' (first
    | with_reducible assumption
    | exact Sub.trans hm rfl
    | with_reducible apply EvOpt.some
    | with_reducible exact EvOpt.none
    | with_reducible apply EvOpt.map
    | with_reducible apply EvOpt.ite
    | with_reducible apply Ev.setPin
    | with_reducible apply Ev.setCell
    | with_reducible apply State.bmTake_ev
    | with_reducible apply Ev.ite
    | with_reducible apply Ev.fold
    | with_reducible apply Ev.elim
    | with_reducible apply Ev.getD
    | with_reducible apply Ev.iter
    | intro _
    | dsimp only
    | split)

theorem State.tapPut_evq {m : Nat} {s0 : State} {t : State} {s : State} {a1 : Sys2Proof.Tok} {a2 : Nat} (e : (State.tapPut s a1 a2) = some t) (h : Ev m s0 s) (hm : Sub 68723687424 m) : Ev m s0 t :=
  (State.tapPut_ev a1 a2 h hm).get t e

theorem State.tapTake_ev {m : Nat} {s0 : State} {s : State} (a1 : Sys2Proof.Tok) (a2 : BitVec 17) (a3 : Nat) (h : Ev m s0 s) (hm : Sub 288231039636193290 m) :
    EvOpt m s0 (State.tapTake s a1 a2 a3) := by
  unfold State.tapTake
  repeat' (first
    | with_reducible assumption
    | exact Sub.trans hm rfl
    | with_reducible apply EvOpt.some
    | with_reducible exact EvOpt.none
    | with_reducible apply EvOpt.map
    | with_reducible apply EvOpt.ite
    | with_reducible apply State.codeReport_ev
    | with_reducible apply State.tapPut_ev
    | with_reducible refine State.tapPut_evq ‹_› ?_ ?_
    | with_reducible apply Ev.ite
    | with_reducible apply Ev.fold
    | with_reducible apply Ev.elim
    | with_reducible apply Ev.getD
    | with_reducible apply Ev.iter
    | intro _
    | dsimp only
    | split)

theorem State.tapTake_evq {m : Nat} {s0 : State} {t : State} {s : State} {a1 : Sys2Proof.Tok} {a2 : BitVec 17} {a3 : Nat} (e : (State.tapTake s a1 a2 a3) = some t) (h : Ev m s0 s) (hm : Sub 288231039636193290 m) : Ev m s0 t :=
  (State.tapTake_ev a1 a2 a3 h hm).get t e

theorem State.tapsTake_ev {m : Nat} {s0 : State} {s : State} (a1 : Sys2Proof.Tok) (a2 : BitVec 17) (a3 : List Nat) (h : Ev m s0 s) (hm : Sub 288231039636193290 m) :
    EvPair m s0 (State.tapsTake s a1 a2 a3) := by
  induction a3 generalizing s with
  | nil => first | exact h | exact EvPair.pair _ h
  | cons x l ih =>
  unfold State.tapsTake
  repeat' (first
    | with_reducible exact (ih ‹_›).get
    | with_reducible apply ih
    | with_reducible refine ⟨(ih ?_).get⟩
    | with_reducible refine ⟨?_⟩
    | with_reducible refine (ih ?_).get
    | with_reducible assumption
    | exact Sub.trans hm rfl
    | with_reducible apply EvPair.pair
    | with_reducible apply EvPair.ite
    | with_reducible apply State.tapTake_ev
    | with_reducible refine State.tapTake_evq ‹_› ?_ ?_
    | with_reducible apply Ev.ite
    | with_reducible apply Ev.fold
    | with_reducible apply Ev.elim
    | with_reducible apply Ev.getD
    | with_reducible apply Ev.iter
    | intro _
    | dsimp only
    | split)

theorem State.tapsTake_evq {m : Nat} {s0 : State} {t : State} {s : State} {a1 : Sys2Proof.Tok} {a2 : BitVec 17} {a3 : List Nat} {b : _} (e : (State.tapsTake s a1 a2 a3) = (t, b)) (h : Ev m s0 s) (hm : Sub 288231039636193290 m) : Ev m s0 t := by
  have := State.tapsTake_ev a1 a2 a3 h hm
  rw [e] at this; exact this.get

theorem State.tapsTake_ev1 {m : Nat} {s0 : State} {s : State} (a1 : Sys2Proof.Tok) (a2 : BitVec 17) (a3 : List Nat) (h : Ev m s0 s) (hm : Sub 288231039636193290 m) : Ev m s0 (State.tapsTake s a1 a2 a3).1 := (State.tapsTake_ev a1 a2 a3 h hm).get

theorem execBroadcastToken_ev {m : Nat} {s0 : State} (a0 : Fin 32) (a1 : Sys2Proof.Coded (Fin 8)) {s : State} (h : Ev m s0 s) (hm : Sub 2475880078858991589437587466 m) :
    EvOut m s0 (execBroadcastToken a0 a1 s) := by
  unfold execBroadcastToken
  repeat' (first
    | with_reducible assumption
    | exact Sub.trans hm rfl
    | with_reducible apply EvOut.next
    | with_reducible apply EvOut.ite
    | with_reducible apply State.tapsTake_ev
    | with_reducible apply State.tapsTake_ev1
    | with_reducible apply State.seen_ev
    | with_reducible apply Ev.setBline
    | with_reducible apply ok_ev
    | with_reducible apply Ev.setBsrc
    | with_reducible apply State.bumpFree_ev
    | with_reducible refine State.tapsTake_evq ‹_› ?_ ?_
    | with_reducible apply Ev.ite
    | with_reducible apply Ev.fold
    | with_reducible apply Ev.elim
    | with_reducible apply Ev.getD
    | with_reducible apply Ev.iter
    | intro _
    | dsimp only
    | split)

theorem State.benUpset_ev {m : Nat} {s0 : State} {s : State} (a1 : Nat) (a2 : Nat) (a3 : Nat) (h : Ev m s0 s) (hm : Sub 131080 m) :
    Ev m s0 (State.benUpset s a1 a2 a3) := by
  unfold State.benUpset
  repeat' (first
    | with_reducible assumption
    | exact Sub.trans hm rfl
    | with_reducible apply State.rsetb_ev
    | with_reducible apply Ev.ite
    | with_reducible apply Ev.fold
    | with_reducible apply Ev.elim
    | with_reducible apply Ev.getD
    | with_reducible apply Ev.iter
    | (intro c; first | with_reducible exact Store.wf_nil _ | with_reducible exact rfl | with_reducible exact Store.wf_put _ _ _ c | with_reducible exact Store.wf_putBytes _ _ c | with_reducible exact Store.wf_keep _ _ c | with_reducible exact Store.wf_mapVals _ _ (Store.wf_iff.1 c).1 | with_reducible exact Store.rising_filter _ c | with_reducible exact Store.rising_put _ _ _ c | with_reducible exact Store.wf_filter _ _ c | with_reducible exact Store.wf_copyRange _ _ c _ | with_reducible exact Store.wf_dup _ _ _ _ c | with_reducible exact c | exact Store.wf_filter _ _ c | exact Store.wf_filter _ _ (Store.wf_filter _ _ c) | exact Store.rising_filter _ c | exact Store.rising_filter _ (Store.rising_filter _ c) | exact Store.wf_put _ _ _ c)
    | intro _
    | dsimp only
    | split
    | with_reducible apply Ev.set_cfg)

theorem execBdup_ev {m : Nat} {s0 : State} (a0 : Fin 32) (a1 : Fin 8) (a2 : Fin 16) {s : State} (h : Ev m s0 s) (hm : Sub 1179656 m) :
    EvOut m s0 (execBdup a0 a1 a2 s) := by
  unfold execBdup
  repeat' (first
    | with_reducible assumption
    | exact Sub.trans hm rfl
    | with_reducible apply EvOut.next
    | with_reducible apply EvOut.ite
    | with_reducible apply State.benUpset_ev
    | with_reducible apply Ev.setBline
    | with_reducible apply ok_ev
    | with_reducible apply State.rsetf_ev
    | with_reducible apply State.sticky_ev
    | with_reducible apply Ev.ite
    | with_reducible apply Ev.fold
    | with_reducible apply Ev.elim
    | with_reducible apply Ev.getD
    | with_reducible apply Ev.iter
    | intro _
    | dsimp only
    | split)

theorem State.breakChans_ev {m : Nat} {s0 : State} {s : State} (a1 : Nat) (h : Ev m s0 s) (hm : Sub 262144 m) :
    Ev m s0 (State.breakChans s a1) := by
  unfold State.breakChans
  repeat' (first
    | with_reducible assumption
    | exact Sub.trans hm rfl
    | with_reducible apply Ev.each
    | with_reducible apply Ev.setChan
    | with_reducible apply Ev.ite
    | with_reducible apply Ev.fold
    | with_reducible apply Ev.elim
    | with_reducible apply Ev.getD
    | with_reducible apply Ev.iter
    | intro _
    | dsimp only
    | split)

theorem State.applyReset_ev {m : Nat} {s0 : State} {s : State} (a1 : Nat) (h : Ev m s0 s) (hm : Sub 8589983752 m) :
    Ev m s0 (State.applyReset s a1) := by
  unfold State.applyReset
  repeat' (first
    | with_reducible assumption
    | exact Sub.trans hm rfl
    | with_reducible apply State.breakLocks_ev
    | with_reducible apply Ev.setRegion
    | with_reducible apply Ev.each
    | with_reducible apply State.resetCell_ev
    | with_reducible apply Ev.ite
    | with_reducible apply Ev.fold
    | with_reducible apply Ev.elim
    | with_reducible apply Ev.getD
    | with_reducible apply Ev.iter
    | intro _
    | dsimp only
    | split)

theorem State.drained_ev {m : Nat} {s0 : State} {s : State} (a1 : Nat) (h : Ev m s0 s) (hm : Sub 8590245896 m) :
    Ev m s0 (State.drained s a1) := by
  unfold State.drained
  repeat' (first
    | with_reducible assumption
    | exact Sub.trans hm rfl
    | with_reducible apply State.breakChans_ev
    | with_reducible apply Ev.setRegion
    | with_reducible apply State.applyReset_ev
    | with_reducible apply Ev.ite
    | with_reducible apply Ev.fold
    | with_reducible apply Ev.elim
    | with_reducible apply Ev.getD
    | with_reducible apply Ev.iter
    | intro _
    | dsimp only
    | split)

theorem execGateDrainComplete_ev {m : Nat} {s0 : State} (a0 : Fin 32) {s : State} (h : Ev m s0 s) (hm : Sub 8590245896 m) :
    EvOut m s0 (execGateDrainComplete a0 s) := by
  unfold execGateDrainComplete
  repeat' (first
    | with_reducible assumption
    | exact Sub.trans hm rfl
    | with_reducible apply EvOut.next
    | with_reducible apply EvOut.ite
    | with_reducible apply ok_ev
    | with_reducible apply State.drained_ev
    | with_reducible apply Ev.ite
    | with_reducible apply Ev.fold
    | with_reducible apply Ev.elim
    | with_reducible apply Ev.getD
    | with_reducible apply Ev.iter
    | intro _
    | dsimp only
    | split)

theorem State.refuseAtPort_ev {m : Nat} {s0 : State} {s : State} (a1 : Nat) (a2 : Nat) (a3 : Nat) (h : Ev m s0 s) (hm : Sub 8 m) :
    Ev m s0 (State.refuseAtPort s a1 a2 a3) := by
  unfold State.refuseAtPort
  repeat' (first
    | with_reducible assumption
    | exact Sub.trans hm rfl
    | with_reducible apply Ev.each
    | with_reducible apply State.count_ev
    | with_reducible apply State.sticky_ev
    | with_reducible apply Ev.ite
    | with_reducible apply Ev.fold
    | with_reducible apply Ev.elim
    | with_reducible apply Ev.getD
    | with_reducible apply Ev.iter
    | intro _
    | dsimp only
    | split)

theorem execGateRefusal_ev {m : Nat} {s0 : State} (a0 : Sys2Proof.Refused) {s : State} (h : Ev m s0 s) (hm : Sub 33816584 m) :
    EvOut m s0 (execGateRefusal a0 s) := by
  unfold execGateRefusal
  repeat' (first
    | with_reducible assumption
    | exact Sub.trans hm rfl
    | with_reducible apply EvOut.next
    | with_reducible apply EvOut.ite
    | with_reducible apply ok_ev
    | with_reducible apply State.count_ev
    | with_reducible apply State.answerFrom_ev
    | with_reducible apply Ev.setChan
    | with_reducible apply State.refuseAtPort_ev
    | with_reducible apply Ev.ite
    | with_reducible apply Ev.fold
    | with_reducible apply Ev.elim
    | with_reducible apply Ev.getD
    | with_reducible apply Ev.iter
    | intro _
    | dsimp only
    | split)

end Machine

end Sys2Proof
end

