-- ==== Sys2Proof/Laws/EvBlockMem.lean ====
section
/-! SUPPORT. What each operation of Machine/BlockMem.lean can change, and that it keeps what no command may break (Laws/Evolve.lean). -/

set_option linter.unusedTactic false
set_option linter.unreachableTactic false
set_option linter.unusedVariables false

namespace Sys2Proof

open Machine

namespace Machine

theorem State.bmPut_ev {m : Nat} {s0 : State} {s : State} (a1 : Nat) (a2 : Nat) (a3 : Sys2Proof.Byte) (a4 : Bool) (h : Ev m s0 s) (hm : Sub 4294967296 m) :
    Ev m s0 (State.bmPut s a1 a2 a3 a4) := by
  unfold State.bmPut
  repeat' (first
    | with_reducible assumption
    | exact Sub.trans hm rfl
    | with_reducible apply Ev.setBbyte
    | with_reducible apply Ev.ite
    | with_reducible apply Ev.fold
    | with_reducible apply Ev.elim
    | with_reducible apply Ev.getD
    | with_reducible apply Ev.iter
    | intro _
    | dsimp only
    | split)

theorem State.bmStore_ev {m : Nat} {s0 : State} {s : State} (a1 : Nat) (a2 : Nat) (a3 : List Sys2Proof.Byte) (h : Ev m s0 s) (hm : Sub 4294967296 m) :
    Ev m s0 (State.bmStore s a1 a2 a3) := by
  induction a3 generalizing s a2 with
  | nil => exact h
  | cons x l ih =>
  unfold State.bmStore
  repeat' (first
    | with_reducible exact (ih ‹_›).get
    | with_reducible apply ih
    | with_reducible refine ⟨(ih ?_).get⟩
    | with_reducible refine ⟨?_⟩
    | with_reducible refine (ih ?_).get
    | with_reducible assumption
    | exact Sub.trans hm rfl
    | with_reducible apply State.bmPut_ev
    | with_reducible apply Ev.ite
    | with_reducible apply Ev.fold
    | with_reducible apply Ev.elim
    | with_reducible apply Ev.getD
    | with_reducible apply Ev.iter
    | intro _
    | dsimp only
    | split)

theorem State.bmStoreRaw_ev {m : Nat} {s0 : State} {s : State} (a1 : Nat) (a2 : Nat) (a3 : List (Sys2Proof.Byte × Bool)) (h : Ev m s0 s) (hm : Sub 4294967296 m) :
    Ev m s0 (State.bmStoreRaw s a1 a2 a3) := by
  induction a3 generalizing s a2 with
  | nil => exact h
  | cons x l ih =>
  unfold State.bmStoreRaw
  repeat' (first
    | with_reducible exact (ih ‹_›).get
    | with_reducible apply ih
    | with_reducible refine ⟨(ih ?_).get⟩
    | with_reducible refine ⟨?_⟩
    | with_reducible refine (ih ?_).get
    | with_reducible assumption
    | exact Sub.trans hm rfl
    | with_reducible apply State.bmPut_ev
    | with_reducible apply Ev.ite
    | with_reducible apply Ev.fold
    | with_reducible apply Ev.elim
    | with_reducible apply Ev.getD
    | with_reducible apply Ev.iter
    | intro _
    | dsimp only
    | split)

theorem State.bmHit_ev {m : Nat} {s0 : State} {s : State} (a1 : Nat) (a2 : Nat) (a3 : Nat) (h : Ev m s0 s) (hm : Sub 4294967296 m) :
    Ev m s0 (State.bmHit s a1 a2 a3) := by
  unfold State.bmHit
  repeat' (first
    | with_reducible assumption
    | exact Sub.trans hm rfl
    | with_reducible apply State.bmPut_ev
    | with_reducible apply Ev.ite
    | with_reducible apply Ev.fold
    | with_reducible apply Ev.elim
    | with_reducible apply Ev.getD
    | with_reducible apply Ev.iter
    | intro _
    | dsimp only
    | split)

theorem State.bmReply_ev {m : Nat} {s0 : State} {s : State} (a1 : Nat) (a2 : List Sys2Proof.Tok) (h : Ev m s0 s) (hm : Sub 4194304 m) :
    Ev m s0 (State.bmReply s a1 a2) := by
  unfold State.bmReply
  repeat' (first
    | with_reducible assumption
    | exact Sub.trans hm rfl
    | with_reducible apply Ev.setBport
    | with_reducible apply Ev.ite
    | with_reducible apply Ev.fold
    | with_reducible apply Ev.elim
    | with_reducible apply Ev.getD
    | with_reducible apply Ev.iter
    | intro _
    | dsimp only
    | split)

theorem State.bmPoison_ev {m : Nat} {s0 : State} {s : State} (a1 : Nat) (h : Ev m s0 s) (hm : Sub 8 m) :
    Ev m s0 (State.bmPoison s a1) := by
  unfold State.bmPoison
  repeat' (first
    | with_reducible assumption
    | exact Sub.trans hm rfl
    | with_reducible apply State.poison_ev
    | with_reducible apply State.sticky_ev
    | with_reducible apply Ev.ite
    | with_reducible apply Ev.fold
    | with_reducible apply Ev.elim
    | with_reducible apply Ev.getD
    | with_reducible apply Ev.iter
    | intro _
    | dsimp only
    | split)

theorem State.bmLasting_ev {m : Nat} {s0 : State} {s : State} (a1 : Nat) (a2 : Nat) (a3 : Bool) (h : Ev m s0 s) (hm : Sub 8 m) :
    Ev m s0 (State.bmLasting s a1 a2 a3) := by
  unfold State.bmLasting
  repeat' (first
    | with_reducible assumption
    | exact Sub.trans hm rfl
    | with_reducible apply State.rsetf_ev
    | with_reducible apply State.count_ev
    | with_reducible apply State.lasting_ev
    | with_reducible apply State.sticky_ev
    | with_reducible apply Ev.ite
    | with_reducible apply Ev.fold
    | with_reducible apply Ev.elim
    | with_reducible apply Ev.getD
    | with_reducible apply Ev.iter
    | intro _
    | dsimp only
    | split)

theorem State.bmReadEntry_ev {m : Nat} {s0 : State} {s : State} (a1 : Nat) (a2 : Nat) (a3 : Nat) (a4 : Bool) (h : Ev m s0 s) (hm : Sub 4294967304 m) :
    EvPair m s0 (State.bmReadEntry s a1 a2 a3 a4) := by
  unfold State.bmReadEntry
  repeat' (first
    | with_reducible assumption
    | exact Sub.trans hm rfl
    | with_reducible apply EvPair.pair
    | with_reducible apply EvPair.ite
    | with_reducible apply State.bmLasting_ev
    | with_reducible apply State.bmStoreRaw_ev
    | with_reducible apply State.count_ev
    | with_reducible apply State.bmStore_ev
    | with_reducible apply Ev.ite
    | with_reducible apply Ev.fold
    | with_reducible apply Ev.elim
    | with_reducible apply Ev.getD
    | with_reducible apply Ev.iter
    | intro _
    | dsimp only
    | split)

theorem State.bmReadEntry_evq {m : Nat} {s0 : State} {t : State} {s : State} {a1 : Nat} {a2 : Nat} {a3 : Nat} {a4 : Bool} {b : _} (e : (State.bmReadEntry s a1 a2 a3 a4) = (t, b)) (h : Ev m s0 s) (hm : Sub 4294967304 m) : Ev m s0 t := by
  have := State.bmReadEntry_ev a1 a2 a3 a4 h hm
  rw [e] at this; exact this.get

theorem State.bmReadEntry_ev1 {m : Nat} {s0 : State} {s : State} (a1 : Nat) (a2 : Nat) (a3 : Nat) (a4 : Bool) (h : Ev m s0 s) (hm : Sub 4294967304 m) : Ev m s0 (State.bmReadEntry s a1 a2 a3 a4).1 := (State.bmReadEntry_ev a1 a2 a3 a4 h hm).get

theorem execBmRead_ev {m : Nat} {s0 : State} (a0 : Fin 2176) (a1 : List (Fin 8 × Fin 9)) (a2 : Bool) {s : State} (h : Ev m s0 s) (hm : Sub 4299161608 m) :
    EvOut m s0 (execBmRead a0 a1 a2 s) := by
  unfold execBmRead
  repeat' (first
    | with_reducible assumption
    | exact Sub.trans hm rfl
    | with_reducible apply EvOut.next
    | with_reducible apply EvOut.ite
    | with_reducible apply ok_ev
    | with_reducible apply State.bmReply_ev
    | with_reducible apply State.bmPoison_ev
    | with_reducible apply State.viol_ev
    | with_reducible apply Ev.each
    | with_reducible apply State.bmHit_ev
    | with_reducible apply State.bmReadEntry_ev
    | with_reducible apply State.bmReadEntry_ev1
    | with_reducible refine State.bmReadEntry_evq ‹_› ?_ ?_
    | with_reducible apply Ev.ite
    | with_reducible apply Ev.fold
    | with_reducible apply Ev.elim
    | with_reducible apply Ev.getD
    | with_reducible apply Ev.iter
    | intro _
    | dsimp only
    | split)

theorem State.bmWriteNow_ev {m : Nat} {s0 : State} {s : State} (a1 : Nat) (h : Ev m s0 s) (hm : Sub 4299161608 m) :
    Ev m s0 (State.bmWriteNow s a1) := by
  unfold State.bmWriteNow
  repeat' (first
    | with_reducible assumption
    | exact Sub.trans hm rfl
    | with_reducible apply Ev.setBport
    | with_reducible apply State.bmPoison_ev
    | with_reducible apply State.viol_ev
    | with_reducible apply State.sticky_ev
    | with_reducible apply State.bmStore_ev
    | with_reducible apply Ev.ite
    | with_reducible apply Ev.fold
    | with_reducible apply Ev.elim
    | with_reducible apply Ev.getD
    | with_reducible apply Ev.iter
    | intro _
    | dsimp only
    | split)

theorem execBmWrite_ev {m : Nat} {s0 : State} (a0 : Fin 2176) {s : State} (h : Ev m s0 s) (hm : Sub 4299161608 m) :
    EvOut m s0 (execBmWrite a0 s) := by
  unfold execBmWrite
  repeat' (first
    | with_reducible assumption
    | exact Sub.trans hm rfl
    | with_reducible apply EvOut.next
    | with_reducible apply EvOut.ite
    | with_reducible apply ok_ev
    | with_reducible apply State.bmWriteNow_ev
    | with_reducible apply Ev.ite
    | with_reducible apply Ev.fold
    | with_reducible apply Ev.elim
    | with_reducible apply Ev.getD
    | with_reducible apply Ev.iter
    | intro _
    | dsimp only
    | split)

theorem State.bmZero_ev {m : Nat} {s0 : State} {s : State} (a1 : Nat) (h : Ev m s0 s) (hm : Sub 6442450944 m) :
    Ev m s0 (State.bmZero s a1) := by
  unfold State.bmZero
  repeat' (first
    | with_reducible assumption
    | exact Sub.trans hm rfl
    | with_reducible apply Ev.setBmem
    | with_reducible apply Ev.ite
    | with_reducible apply Ev.fold
    | with_reducible apply Ev.elim
    | with_reducible apply Ev.getD
    | with_reducible apply Ev.iter
    | (intro c; first | with_reducible exact Store.wf_nil _ | with_reducible exact rfl | with_reducible exact Store.wf_put _ _ _ c | with_reducible exact Store.wf_putBytes _ _ c | with_reducible exact Store.wf_keep _ _ c | with_reducible exact Store.wf_mapVals _ _ (Store.wf_iff.1 c).1 | with_reducible exact Store.rising_filter _ c | with_reducible exact Store.rising_put _ _ _ c | with_reducible exact Store.wf_filter _ _ c | with_reducible exact Store.wf_copyRange _ _ c _ | with_reducible exact Store.wf_dup _ _ _ _ c | with_reducible exact c | exact Store.wf_filter _ _ c | exact Store.wf_filter _ _ (Store.wf_filter _ _ c) | exact Store.rising_filter _ c | exact Store.rising_filter _ (Store.rising_filter _ c) | exact Store.wf_put _ _ _ c)
    | intro _
    | dsimp only
    | split
    | with_reducible apply Ev.set_bbytes)

theorem State.freeCluster_ev {m : Nat} {s0 : State} {s : State} (a1 : Nat) (h : Ev m s0 s) (hm : Sub 81920 m) :
    Ev m s0 (State.freeCluster s a1) := by
  unfold State.freeCluster
  repeat' (first
    | with_reducible assumption
    | exact Sub.trans hm rfl
    | with_reducible apply Ev.setClu
    | with_reducible apply Ev.each
    | with_reducible apply State.resetCell_ev
    | with_reducible apply Ev.ite
    | with_reducible apply Ev.fold
    | with_reducible apply Ev.elim
    | with_reducible apply Ev.getD
    | with_reducible apply Ev.iter
    | intro _
    | dsimp only
    | split)

theorem execBmInitDone_ev {m : Nat} {s0 : State} (a0 : Fin 1088) {s : State} (h : Ev m s0 s) (hm : Sub 6442532872 m) :
    EvOut m s0 (execBmInitDone a0 s) := by
  unfold execBmInitDone
  repeat' (first
    | with_reducible assumption
    | exact Sub.trans hm rfl
    | with_reducible apply EvOut.next
    | with_reducible apply EvOut.ite
    | with_reducible apply State.bmZero_ev
    | with_reducible apply ok_ev
    | with_reducible apply State.freeCluster_ev
    | with_reducible apply State.sticky_ev
    | with_reducible apply Ev.setBmem
    | with_reducible apply Ev.ite
    | with_reducible apply Ev.fold
    | with_reducible apply Ev.elim
    | with_reducible apply Ev.getD
    | with_reducible apply Ev.iter
    | intro _
    | dsimp only
    | split)

end Machine

end Sys2Proof
end

