-- ==== Sys2Proof/Laws/EvPower.lean ====
section
/-! SUPPORT. What each operation of Machine/Power.lean can change, and that it keeps what no command may break (Laws/Evolve.lean). -/

set_option linter.unusedTactic false
set_option linter.unreachableTactic false
set_option linter.unusedVariables false

namespace Sys2Proof

open Machine

namespace Machine

theorem State.domBegin_ev {m : Nat} {s0 : State} {s : State} (a1 : Nat) (a2 : Nat) (h : Ev m s0 s) (hm : Sub 154742504910672534362390536 m) :
    Ev m s0 (State.domBegin s a1 a2) := by
  unfold State.domBegin
  repeat' (first
    | with_reducible assumption
    | exact Sub.trans hm rfl
    | with_reducible apply Ev.setDomSt
    | with_reducible apply State.rsetb_ev
    | with_reducible apply Ev.ite
    | with_reducible apply Ev.fold
    | with_reducible apply Ev.elim
    | with_reducible apply Ev.getD
    | with_reducible apply Ev.iter
    | intro _
    | dsimp only
    | split)

theorem State.domRequest_ev {m : Nat} {s0 : State} {s : State} (a1 : Nat) (a2 : Nat) (h : Ev m s0 s) (hm : Sub 154742504910672534362390536 m) :
    Ev m s0 (State.domRequest s a1 a2) := by
  unfold State.domRequest
  repeat' (first
    | with_reducible assumption
    | exact Sub.trans hm rfl
    | with_reducible apply State.viol_ev
    | with_reducible apply State.sticky_ev
    | with_reducible apply State.rsetf_ev
    | with_reducible apply Ev.setDomSt
    | with_reducible apply State.domBegin_ev
    | with_reducible apply Ev.ite
    | with_reducible apply Ev.fold
    | with_reducible apply Ev.elim
    | with_reducible apply Ev.getD
    | with_reducible apply Ev.iter
    | intro _
    | dsimp only
    | split)

theorem State.domAsk_ev {m : Nat} {s0 : State} {s : State} (a1 : Nat) (a2 : Nat) (a3 : Sys2Proof.Machine.Reg) (h : Ev m s0 s) (hm : Sub 154742504910672534362390536 m) :
    Ev m s0 (State.domAsk s a1 a2 a3) := by
  unfold State.domAsk
  repeat' (first
    | with_reducible assumption
    | exact Sub.trans hm rfl
    | with_reducible apply State.violAt_ev
    | with_reducible apply State.sticky_ev
    | with_reducible apply State.domRequest_ev
    | with_reducible apply Ev.ite
    | with_reducible apply Ev.fold
    | with_reducible apply Ev.elim
    | with_reducible apply Ev.getD
    | with_reducible apply Ev.iter
    | intro _
    | dsimp only
    | split)

theorem State.wakeBase_ev {m : Nat} {s0 : State} {s : State} (a1 : Nat) (h : Ev m s0 s) (hm : Sub 154742504910672534362390536 m) :
    Ev m s0 (State.wakeBase s a1) := by
  unfold State.wakeBase
  repeat' (first
    | with_reducible assumption
    | exact Sub.trans hm rfl
    | with_reducible apply State.rsetb_ev
    | with_reducible apply State.rsetf_ev
    | with_reducible apply Ev.setDomSt
    | with_reducible apply Ev.ite
    | with_reducible apply Ev.fold
    | with_reducible apply Ev.elim
    | with_reducible apply Ev.getD
    | with_reducible apply Ev.iter
    | intro _
    | dsimp only
    | split)

theorem State.flashOn_ev {m : Nat} {s0 : State} {s : State} (h : Ev m s0 s) (hm : Sub 154742504910672534362390536 m) :
    Ev m s0 (State.flashOn s) := by
  unfold State.flashOn
  repeat' (first
    | with_reducible assumption
    | exact Sub.trans hm rfl
    | with_reducible apply State.wakeBase_ev
    | with_reducible apply Ev.ite
    | with_reducible apply Ev.fold
    | with_reducible apply Ev.elim
    | with_reducible apply Ev.getD
    | with_reducible apply Ev.iter
    | intro _
    | dsimp only
    | split)

theorem State.engineOn_ev {m : Nat} {s0 : State} {s : State} (h : Ev m s0 s) (hm : Sub 154742504910672534362390536 m) :
    Ev m s0 (State.engineOn s) := by
  unfold State.engineOn
  repeat' (first
    | with_reducible assumption
    | exact Sub.trans hm rfl
    | with_reducible apply State.wakeBase_ev
    | with_reducible apply Ev.ite
    | with_reducible apply Ev.fold
    | with_reducible apply Ev.elim
    | with_reducible apply Ev.getD
    | with_reducible apply Ev.iter
    | intro _
    | dsimp only
    | split)

theorem State.domRelease_ev {m : Nat} {s0 : State} {s : State} (a1 : Nat) (h : Ev m s0 s) (hm : Sub 154742504910672534362390536 m) :
    Ev m s0 (State.domRelease s a1) := by
  unfold State.domRelease
  repeat' (first
    | with_reducible assumption
    | exact Sub.trans hm rfl
    | with_reducible apply State.domBegin_ev
    | with_reducible apply Ev.ite
    | with_reducible apply Ev.fold
    | with_reducible apply Ev.elim
    | with_reducible apply Ev.getD
    | with_reducible apply Ev.iter
    | intro _
    | dsimp only
    | split)

theorem State.domReleaseAll_ev {m : Nat} {s0 : State} {s : State} (a1 : Nat) (h : Ev m s0 s) (hm : Sub 154742504910672534362390536 m) :
    Ev m s0 (State.domReleaseAll s a1) := by
  unfold State.domReleaseAll
  repeat' (first
    | with_reducible assumption
    | exact Sub.trans hm rfl
    | with_reducible apply Ev.each
    | with_reducible apply State.domRelease_ev
    | with_reducible apply Ev.ite
    | with_reducible apply Ev.fold
    | with_reducible apply Ev.elim
    | with_reducible apply Ev.getD
    | with_reducible apply Ev.iter
    | intro _
    | dsimp only
    | split)

theorem State.domWrite_ev {m : Nat} {s0 : State} {s : State} (a1 : Nat) (a2 : Sys2Proof.Word) (h : Ev m s0 s) (hm : Sub 154742504910672534362390536 m) :
    Ev m s0 (State.domWrite s a1 a2) := by
  unfold State.domWrite
  repeat' (first
    | with_reducible assumption
    | exact Sub.trans hm rfl
    | with_reducible apply State.domRequest_ev
    | with_reducible apply State.rsetb_ev
    | with_reducible apply Ev.ite
    | with_reducible apply Ev.fold
    | with_reducible apply Ev.elim
    | with_reducible apply Ev.getD
    | with_reducible apply Ev.iter
    | intro _
    | dsimp only
    | split)

theorem State.rreqOne_ev {m : Nat} {s0 : State} {s : State} (a1 : Nat) (a2 : Nat) (a3 : Nat) (h : Ev m s0 s) (hm : Sub 154742504910672534362390536 m) :
    Ev m s0 (State.rreqOne s a1 a2 a3) := by
  unfold State.rreqOne
  repeat' (first
    | with_reducible assumption
    | exact Sub.trans hm rfl
    | with_reducible apply State.violAt_ev
    | with_reducible apply Ev.each
    | with_reducible apply State.domAsk_ev
    | with_reducible apply Ev.ite
    | with_reducible apply Ev.fold
    | with_reducible apply Ev.elim
    | with_reducible apply Ev.getD
    | with_reducible apply Ev.iter
    | intro _
    | dsimp only
    | split)

theorem State.rreqWrite_ev {m : Nat} {s0 : State} {s : State} (a1 : Nat) (a2 : Sys2Proof.Word) (h : Ev m s0 s) (hm : Sub 154742504910672534362390536 m) :
    Ev m s0 (State.rreqWrite s a1 a2) := by
  unfold State.rreqWrite
  repeat' (first
    | with_reducible assumption
    | exact Sub.trans hm rfl
    | with_reducible apply State.viol_ev
    | with_reducible apply Ev.each
    | with_reducible apply State.rreqOne_ev
    | with_reducible apply Ev.ite
    | with_reducible apply Ev.fold
    | with_reducible apply Ev.elim
    | with_reducible apply Ev.getD
    | with_reducible apply Ev.iter
    | intro _
    | dsimp only
    | split)

theorem execLmpRreq_ev {m : Nat} {s0 : State} (a0 : Sys2Proof.Issuer) (a1 : Fin 32) (a2 : Sys2Proof.Word) {s : State} (h : Ev m s0 s) (hm : Sub 154742504910672534362390536 m) :
    EvOut m s0 (execLmpRreq a0 a1 a2 s) := by
  unfold execLmpRreq
  repeat' (first
    | with_reducible assumption
    | exact Sub.trans hm rfl
    | with_reducible apply EvOut.next
    | with_reducible apply EvOut.ite
    | with_reducible apply ok_ev
    | with_reducible apply State.rreqWrite_ev
    | with_reducible apply State.viol_ev
    | with_reducible apply Ev.ite
    | with_reducible apply Ev.fold
    | with_reducible apply Ev.elim
    | with_reducible apply Ev.getD
    | with_reducible apply Ev.iter
    | intro _
    | dsimp only
    | split)

theorem State.railSet_ev {m : Nat} {s0 : State} {s : State} (a1 : Nat) (a2 : Nat) (h : Ev m s0 s) (hm : Sub 8 m) :
    Ev m s0 (State.railSet s a1 a2) := by
  unfold State.railSet
  repeat' (first
    | with_reducible assumption
    | exact Sub.trans hm rfl
    | with_reducible apply State.rsetb_ev
    | with_reducible apply State.rsetf_ev
    | with_reducible apply State.viol_ev
    | with_reducible apply Ev.ite
    | with_reducible apply Ev.fold
    | with_reducible apply Ev.elim
    | with_reducible apply Ev.getD
    | with_reducible apply Ev.iter
    | intro _
    | dsimp only
    | split)

theorem execRailWrite_ev {m : Nat} {s0 : State} (a0 : Sys2Proof.Issuer) (a1 : Fin 4) (a2 : Sys2Proof.Word) {s : State} (h : Ev m s0 s) (hm : Sub 8 m) :
    EvOut m s0 (execRailWrite a0 a1 a2 s) := by
  unfold execRailWrite
  repeat' (first
    | with_reducible assumption
    | exact Sub.trans hm rfl
    | with_reducible apply EvOut.next
    | with_reducible apply EvOut.ite
    | with_reducible apply ok_ev
    | with_reducible apply State.guarded_ev
    | with_reducible apply State.railSet_ev
    | with_reducible apply Ev.ite
    | with_reducible apply Ev.fold
    | with_reducible apply Ev.elim
    | with_reducible apply Ev.getD
    | with_reducible apply Ev.iter
    | intro _
    | dsimp only
    | split)

theorem execRailSettled_ev {m : Nat} {s0 : State} (a0 : Fin 4) (a1 : BitVec 10) {s : State} (h : Ev m s0 s) (hm : Sub 8 m) :
    EvOut m s0 (execRailSettled a0 a1 s) := by
  unfold execRailSettled
  repeat' (first
    | with_reducible assumption
    | exact Sub.trans hm rfl
    | with_reducible apply EvOut.next
    | with_reducible apply EvOut.ite
    | with_reducible apply ok_ev
    | with_reducible apply State.rsetb_ev
    | with_reducible apply State.rsetf_ev
    | with_reducible apply Ev.ite
    | with_reducible apply Ev.fold
    | with_reducible apply Ev.elim
    | with_reducible apply Ev.getD
    | with_reducible apply Ev.iter
    | intro _
    | dsimp only
    | split)

theorem execPowerMeasure_ev {m : Nat} {s0 : State} (a0 : BitVec 16) {s : State} (h : Ev m s0 s) (hm : Sub 8 m) :
    EvOut m s0 (execPowerMeasure a0 s) := by
  unfold execPowerMeasure
  repeat' (first
    | with_reducible assumption
    | exact Sub.trans hm rfl
    | with_reducible apply EvOut.next
    | with_reducible apply EvOut.ite
    | with_reducible apply State.rsetf_ev
    | with_reducible apply ok_ev
    | with_reducible apply State.sticky_ev
    | with_reducible apply Ev.ite
    | with_reducible apply Ev.fold
    | with_reducible apply Ev.elim
    | with_reducible apply Ev.getD
    | with_reducible apply Ev.iter
    | intro _
    | dsimp only
    | split)

theorem execTemperatureMeasure_ev {m : Nat} {s0 : State} (a0 : Fin 4) (a1 : BitVec 9) {s : State} (h : Ev m s0 s) (hm : Sub 8 m) :
    EvOut m s0 (execTemperatureMeasure a0 a1 s) := by
  unfold execTemperatureMeasure
  repeat' (first
    | with_reducible assumption
    | exact Sub.trans hm rfl
    | with_reducible apply EvOut.next
    | with_reducible apply EvOut.ite
    | with_reducible apply State.rsetf_ev
    | with_reducible apply ok_ev
    | with_reducible apply State.sticky_ev
    | with_reducible apply Ev.ite
    | with_reducible apply Ev.fold
    | with_reducible apply Ev.elim
    | with_reducible apply Ev.getD
    | with_reducible apply Ev.iter
    | intro _
    | dsimp only
    | split)

end Machine

end Sys2Proof
end

