-- ==== Sys2Proof/Laws/EvScratch.lean ====
section
/-! SUPPORT. What each operation of Machine/Scratch.lean can change, and that it keeps what no command may break (Laws/Evolve.lean). -/

set_option linter.unusedTactic false
set_option linter.unreachableTactic false
set_option linter.unusedVariables false

namespace Sys2Proof

open Machine

namespace Machine

theorem State.powerUp_ev {m : Nat} {s0 : State} {s : State} (h : Ev m s0 s) (hm : Sub 309485009821345068724781056 m) :
    Ev m s0 (State.powerUp s) := by
  unfold State.powerUp
  repeat' (first
    | with_reducible assumption
    | exact Sub.trans hm rfl
    | with_reducible apply Ev.ite
    | with_reducible apply Ev.fold
    | with_reducible apply Ev.elim
    | with_reducible apply Ev.getD
    | with_reducible apply Ev.iter
    | with_reducible exact Nat.le_succ _
    | with_reducible exact Nat.le_refl _
    | with_reducible exact Nat.le_add_right _ _
    | with_reducible exact Nat.le_max_left _ _
    | intro _
    | dsimp only
    | split
    | with_reducible apply Ev.set_epoch)

theorem State.decision_ev {m : Nat} {s0 : State} {s : State} (a1 : Nat) (h : Ev m s0 s) (hm : Sub 8589934600 m) :
    EvPair m s0 (State.decision s a1) := by
  unfold State.decision
  repeat' (first
    | with_reducible assumption
    | exact Sub.trans hm rfl
    | with_reducible apply EvPair.pair
    | with_reducible apply EvPair.ite
    | with_reducible apply State.sticky_ev
    | with_reducible apply Ev.each
    | with_reducible apply State.rsetf_ev
    | with_reducible apply State.count_ev
    | with_reducible apply Ev.setBank
    | with_reducible apply Ev.ite
    | with_reducible apply Ev.fold
    | with_reducible apply Ev.elim
    | with_reducible apply Ev.getD
    | with_reducible apply Ev.iter
    | intro _
    | dsimp only
    | split)

theorem State.decision_evq {m : Nat} {s0 : State} {t : State} {s : State} {a1 : Nat} {b : _} (e : (State.decision s a1) = (t, b)) (h : Ev m s0 s) (hm : Sub 8589934600 m) : Ev m s0 t := by
  have := State.decision_ev a1 h hm
  rw [e] at this; exact this.get

theorem State.decision_ev1 {m : Nat} {s0 : State} {s : State} (a1 : Nat) (h : Ev m s0 s) (hm : Sub 8589934600 m) : Ev m s0 (State.decision s a1).1 := (State.decision_ev a1 h hm).get

theorem State.lockBy_ev {m : Nat} {s0 : State} {s : State} (a1 : Nat) (a2 : Sys2Proof.Machine.Flight) (h : Ev m s0 s) (hm : Sub 8589934600 m) :
    Ev m s0 (State.lockBy s a1 a2) := by
  unfold State.lockBy
  repeat' (first
    | with_reducible assumption
    | exact Sub.trans hm rfl
    | with_reducible apply Ev.setBank
    | with_reducible apply Ev.rput
    | with_reducible apply Ev.ite
    | with_reducible apply Ev.fold
    | with_reducible apply Ev.elim
    | with_reducible apply Ev.getD
    | with_reducible apply Ev.iter
    | intro _
    | dsimp only
    | split)

theorem State.unlockBy_ev {m : Nat} {s0 : State} {s : State} (a1 : Nat) (a2 : Sys2Proof.Machine.Flight) (h : Ev m s0 s) (hm : Sub 8589934600 m) :
    Ev m s0 (State.unlockBy s a1 a2) := by
  unfold State.unlockBy
  repeat' (first
    | with_reducible assumption
    | exact Sub.trans hm rfl
    | with_reducible apply State.freeLock_ev
    | with_reducible apply Ev.ite
    | with_reducible apply Ev.fold
    | with_reducible apply Ev.elim
    | with_reducible apply Ev.getD
    | with_reducible apply Ev.iter
    | intro _
    | dsimp only
    | split)

theorem State.grant_ev {m : Nat} {s0 : State} {s : State} (a1 : Nat) (a2 : Sys2Proof.Machine.Win) (h : Ev m s0 s) (hm : Sub 154742504910672542952325128 m) :
    Ev m s0 (State.grant s a1 a2) := by
  unfold State.grant
  repeat' (first
    | with_reducible assumption
    | exact Sub.trans hm rfl
    | with_reducible apply Ev.rput
    | with_reducible apply State.rsetf_ev
    | with_reducible apply State.count_ev
    | with_reducible apply Ev.setBank
    | with_reducible apply State.lockBy_ev
    | with_reducible apply State.domAsk_ev
    | with_reducible apply Ev.ite
    | with_reducible apply Ev.fold
    | with_reducible apply Ev.elim
    | with_reducible apply Ev.getD
    | with_reducible apply Ev.iter
    | intro _
    | dsimp only
    | split)

theorem State.swPut_ev {m : Nat} {s0 : State} {s : State} (a1 : Nat) (a2 : Nat) (a3 : Sys2Proof.Word) (a4 : BitVec 39) (h : Ev m s0 s) (hm : Sub 17179869184 m) :
    Ev m s0 (State.swPut s a1 a2 a3 a4) := by
  unfold State.swPut
  repeat' (first
    | with_reducible assumption
    | exact Sub.trans hm rfl
    | with_reducible apply Ev.setSword
    | with_reducible apply Ev.ite
    | with_reducible apply Ev.fold
    | with_reducible apply Ev.elim
    | with_reducible apply Ev.getD
    | with_reducible apply Ev.iter
    | intro _
    | dsimp only
    | split)

theorem State.roundOver_ev {m : Nat} {s0 : State} {s : State} (a1 : Nat) (h : Ev m s0 s) (hm : Sub 8589934592 m) :
    Ev m s0 (State.roundOver s a1) := by
  unfold State.roundOver
  repeat' (first
    | with_reducible assumption
    | exact Sub.trans hm rfl
    | with_reducible apply Ev.setBank
    | with_reducible apply Ev.ite
    | with_reducible apply Ev.fold
    | with_reducible apply Ev.elim
    | with_reducible apply Ev.getD
    | with_reducible apply Ev.iter
    | intro _
    | dsimp only
    | split)

theorem State.queueWord_ev {m : Nat} {s0 : State} {s : State} (a1 : Nat) (a2 : Nat) (h : Ev m s0 s) (hm : Sub 8589934592 m) :
    Ev m s0 (State.queueWord s a1 a2) := by
  unfold State.queueWord
  repeat' (first
    | with_reducible assumption
    | exact Sub.trans hm rfl
    | with_reducible apply Ev.setBank
    | with_reducible apply Ev.ite
    | with_reducible apply Ev.fold
    | with_reducible apply Ev.elim
    | with_reducible apply Ev.getD
    | with_reducible apply Ev.iter
    | intro _
    | dsimp only
    | split)

theorem State.maintRound_ev {m : Nat} {s0 : State} {s : State} (a1 : Nat) (h : Ev m s0 s) (hm : Sub 309485009821345094494584832 m) :
    Ev m s0 (State.maintRound s a1) := by
  unfold State.maintRound
  repeat' (first
    | with_reducible assumption
    | exact Sub.trans hm rfl
    | with_reducible apply Ev.setBank
    | with_reducible apply State.powerUp_ev
    | with_reducible apply State.queueWord_ev
    | with_reducible apply Ev.ite
    | with_reducible apply Ev.fold
    | with_reducible apply Ev.elim
    | with_reducible apply Ev.getD
    | with_reducible apply Ev.iter
    | (intro c; first | with_reducible exact Store.wf_nil _ | with_reducible exact rfl | with_reducible exact Store.wf_put _ _ _ c | with_reducible exact Store.wf_putBytes _ _ c | with_reducible exact Store.wf_keep _ _ c | with_reducible exact Store.wf_mapVals _ _ (Store.wf_iff.1 c).1 | with_reducible exact Store.rising_filter _ c | with_reducible exact Store.rising_put _ _ _ c | with_reducible exact Store.wf_filter _ _ c | with_reducible exact Store.wf_copyRange _ _ c _ | with_reducible exact Store.wf_dup _ _ _ _ c | with_reducible exact c | exact Store.wf_filter _ _ c | exact Store.wf_filter _ _ (Store.wf_filter _ _ c) | exact Store.rising_filter _ c | exact Store.rising_filter _ (Store.rising_filter _ c) | exact Store.wf_put _ _ _ c)
    | intro _
    | dsimp only
    | split
    | with_reducible apply Ev.set_swords)

theorem State.maintOver_ev {m : Nat} {s0 : State} {s : State} (a1 : Nat) (h : Ev m s0 s) (hm : Sub 309485009821345094494584832 m) :
    Ev m s0 (State.maintOver s a1) := by
  unfold State.maintOver
  repeat' (first
    | with_reducible assumption
    | exact Sub.trans hm rfl
    | with_reducible apply State.roundOver_ev
    | with_reducible apply State.maintRound_ev
    | with_reducible apply Ev.ite
    | with_reducible apply Ev.fold
    | with_reducible apply Ev.elim
    | with_reducible apply Ev.getD
    | with_reducible apply Ev.iter
    | intro _
    | dsimp only
    | split)

theorem execBankRound_ev {m : Nat} {s0 : State} (a0 : Fin 128) {s : State} (h : Ev m s0 s) (hm : Sub 464227514732017628856975368 m) :
    EvOut m s0 (execBankRound a0 s) := by
  unfold execBankRound
  repeat' (first
    | with_reducible assumption
    | exact Sub.trans hm rfl
    | with_reducible apply EvOut.next
    | with_reducible apply EvOut.ite
    | with_reducible apply State.maintOver_ev
    | with_reducible apply ok_ev
    | with_reducible apply State.decision_ev
    | with_reducible apply State.decision_ev1
    | with_reducible apply Ev.setBank
    | with_reducible apply State.grant_ev
    | with_reducible refine State.decision_evq ‹_› ?_ ?_
    | with_reducible apply Ev.ite
    | with_reducible apply Ev.fold
    | with_reducible apply Ev.elim
    | with_reducible apply Ev.getD
    | with_reducible apply Ev.iter
    | intro _
    | dsimp only
    | split)

theorem State.swRead_ev {m : Nat} {s0 : State} {s : State} (a1 : Nat) (a2 : Nat) (a3 : BitVec 39) (a4 : BitVec 39) (a5 : BitVec 39) (h : Ev m s0 s) (hm : Sub 25769803784 m) :
    EvPair m s0 (State.swRead s a1 a2 a3 a4 a5) := by
  unfold State.swRead
  repeat' (first
    | with_reducible assumption
    | exact Sub.trans hm rfl
    | with_reducible apply EvPair.pair
    | with_reducible apply EvPair.ite
    | with_reducible apply State.swPut_ev
    | with_reducible apply State.sharedFault_ev
    | with_reducible apply State.rsetf_ev
    | with_reducible apply State.count_ev
    | with_reducible apply State.sticky_ev
    | with_reducible apply State.queueWord_ev
    | with_reducible apply Ev.ite
    | with_reducible apply Ev.fold
    | with_reducible apply Ev.elim
    | with_reducible apply Ev.getD
    | with_reducible apply Ev.iter
    | intro _
    | dsimp only
    | split)

theorem State.swRead_evq {m : Nat} {s0 : State} {t : State} {s : State} {a1 : Nat} {a2 : Nat} {a3 : BitVec 39} {a4 : BitVec 39} {a5 : BitVec 39} {b : _} (e : (State.swRead s a1 a2 a3 a4 a5) = (t, b)) (h : Ev m s0 s) (hm : Sub 25769803784 m) : Ev m s0 t := by
  have := State.swRead_ev a1 a2 a3 a4 a5 h hm
  rw [e] at this; exact this.get

theorem State.swRead_ev1 {m : Nat} {s0 : State} {s : State} (a1 : Nat) (a2 : Nat) (a3 : BitVec 39) (a4 : BitVec 39) (a5 : BitVec 39) (h : Ev m s0 s) (hm : Sub 25769803784 m) : Ev m s0 (State.swRead s a1 a2 a3 a4 a5).1 := (State.swRead_ev a1 a2 a3 a4 a5 h hm).get

theorem State.refuseScratch_ev {m : Nat} {s0 : State} {s : State} (a1 : Nat) (a2 : Nat) (a3 : Sys2Proof.Machine.Flight) (h : Ev m s0 s) (hm : Sub 33554440 m) :
    EvOpt m s0 (State.refuseScratch s a1 a2 a3) := by
  unfold State.refuseScratch
  repeat' (first
    | with_reducible assumption
    | exact Sub.trans hm rfl
    | with_reducible apply EvOpt.some
    | with_reducible exact EvOpt.none
    | with_reducible apply EvOpt.map
    | with_reducible apply EvOpt.ite
    | with_reducible apply State.answer_ev
    | with_reducible apply State.poison_ev
    | with_reducible apply State.sticky_ev
    | with_reducible apply State.viol_ev
    | with_reducible apply Ev.ite
    | with_reducible apply Ev.fold
    | with_reducible apply Ev.elim
    | with_reducible apply Ev.getD
    | with_reducible apply Ev.iter
    | intro _
    | dsimp only
    | split)

theorem State.refuseScratch_evq {m : Nat} {s0 : State} {t : State} {s : State} {a1 : Nat} {a2 : Nat} {a3 : Sys2Proof.Machine.Flight} (e : (State.refuseScratch s a1 a2 a3) = some t) (h : Ev m s0 s) (hm : Sub 33554440 m) : Ev m s0 t :=
  (State.refuseScratch_ev a1 a2 a3 h hm).get t e

theorem State.scratchDo_ev {m : Nat} {s0 : State} {s : State} (a1 : Nat) (a2 : Bool) (a3 : Option Nat) (a4 : State → Nat → Nat → Sys2Proof.Machine.Flight → State) (h : Ev m s0 s) (hm : Sub 8623489032 m) (ha4 : ∀ t0 y1 y2 y3, Ev m s0 t0 → Ev m s0 (a4 t0 y1 y2 y3)) :
    Ev m s0 (State.scratchDo s a1 a2 a3 a4) := by
  unfold State.scratchDo
  repeat' (first
    | with_reducible assumption
    | exact Sub.trans hm rfl
    | with_reducible apply State.roundOver_ev
    | with_reducible apply State.answer_ev
    | with_reducible apply State.sticky_ev
    | with_reducible apply State.unlockBy_ev
    | with_reducible apply State.refuseScratch_ev
    | with_reducible refine State.refuseScratch_evq ‹_› ?_ ?_
    | with_reducible apply Ev.ite
    | with_reducible apply ha4
    | with_reducible apply Ev.fold
    | with_reducible apply Ev.elim
    | with_reducible apply Ev.getD
    | with_reducible apply Ev.iter
    | intro _
    | dsimp only
    | split)

theorem execScratchRead_ev {m : Nat} {s0 : State} (a0 : Nat) (a1 : BitVec 39) (a2 : BitVec 39) (a3 : BitVec 39) {s : State} (h : Ev m s0 s) (hm : Sub 25803358216 m) :
    EvOut m s0 (execScratchRead a0 a1 a2 a3 s) := by
  unfold execScratchRead
  repeat' (first
    | with_reducible assumption
    | exact Sub.trans hm rfl
    | with_reducible apply EvOut.next
    | with_reducible apply EvOut.ite
    | with_reducible apply ok_ev
    | with_reducible apply State.scratchDo_ev
    | with_reducible apply State.swRead_ev
    | with_reducible apply State.swRead_ev1
    | with_reducible apply State.answer_ev
    | with_reducible refine State.swRead_evq ‹_› ?_ ?_
    | with_reducible apply Ev.ite
    | with_reducible apply Ev.fold
    | with_reducible apply Ev.elim
    | with_reducible apply Ev.getD
    | with_reducible apply Ev.iter
    | intro _
    | dsimp only
    | split)

theorem execScratchWrite_ev {m : Nat} {s0 : State} (a0 : Nat) {s : State} (h : Ev m s0 s) (hm : Sub 25803358216 m) :
    EvOut m s0 (execScratchWrite a0 s) := by
  unfold execScratchWrite
  repeat' (first
    | with_reducible assumption
    | exact Sub.trans hm rfl
    | with_reducible apply EvOut.next
    | with_reducible apply EvOut.ite
    | with_reducible apply ok_ev
    | with_reducible apply State.scratchDo_ev
    | with_reducible apply State.answer_ev
    | with_reducible apply State.swPut_ev
    | with_reducible apply Ev.ite
    | with_reducible apply Ev.fold
    | with_reducible apply Ev.elim
    | with_reducible apply Ev.getD
    | with_reducible apply Ev.iter
    | intro _
    | dsimp only
    | split)

theorem State.aliasWrite_ev {m : Nat} {s0 : State} {s : State} (a1 : Nat) (a2 : Nat) (a3 : Sys2Proof.Machine.Flight) (a4 : BitVec 39) (a5 : BitVec 39) (a6 : BitVec 39) (a7 : Sys2Proof.Word → Sys2Proof.Word → Sys2Proof.Word) (h : Ev m s0 s) (hm : Sub 25803358216 m) :
    Ev m s0 (State.aliasWrite s a1 a2 a3 a4 a5 a6 a7) := by
  unfold State.aliasWrite
  repeat' (first
    | with_reducible assumption
    | exact Sub.trans hm rfl
    | with_reducible apply State.swRead_ev
    | with_reducible apply State.swRead_ev1
    | with_reducible apply State.answer_ev
    | with_reducible apply State.swPut_ev
    | with_reducible refine State.swRead_evq ‹_› ?_ ?_
    | with_reducible apply Ev.ite
    | with_reducible apply Ev.fold
    | with_reducible apply Ev.elim
    | with_reducible apply Ev.getD
    | with_reducible apply Ev.iter
    | intro _
    | dsimp only
    | split)

theorem execSetAliasWrite_ev {m : Nat} {s0 : State} (a0 : Nat) (a1 : BitVec 39) (a2 : BitVec 39) (a3 : BitVec 39) {s : State} (h : Ev m s0 s) (hm : Sub 25803358216 m) :
    EvOut m s0 (execSetAliasWrite a0 a1 a2 a3 s) := by
  unfold execSetAliasWrite
  repeat' (first
    | with_reducible assumption
    | exact Sub.trans hm rfl
    | with_reducible apply EvOut.next
    | with_reducible apply EvOut.ite
    | with_reducible apply ok_ev
    | with_reducible apply State.scratchDo_ev
    | with_reducible apply State.aliasWrite_ev
    | with_reducible apply Ev.ite
    | with_reducible apply Ev.fold
    | with_reducible apply Ev.elim
    | with_reducible apply Ev.getD
    | with_reducible apply Ev.iter
    | intro _
    | dsimp only
    | split)

theorem execClearAliasWrite_ev {m : Nat} {s0 : State} (a0 : Nat) (a1 : BitVec 39) (a2 : BitVec 39) (a3 : BitVec 39) {s : State} (h : Ev m s0 s) (hm : Sub 25803358216 m) :
    EvOut m s0 (execClearAliasWrite a0 a1 a2 a3 s) := by
  unfold execClearAliasWrite
  repeat' (first
    | with_reducible assumption
    | exact Sub.trans hm rfl
    | with_reducible apply EvOut.next
    | with_reducible apply EvOut.ite
    | with_reducible apply ok_ev
    | with_reducible apply State.scratchDo_ev
    | with_reducible apply State.aliasWrite_ev
    | with_reducible apply Ev.ite
    | with_reducible apply Ev.fold
    | with_reducible apply Ev.elim
    | with_reducible apply Ev.getD
    | with_reducible apply Ev.iter
    | intro _
    | dsimp only
    | split)

theorem State.scrubDo_ev {m : Nat} {s0 : State} {s : State} (a1 : Nat) (a2 : Nat) (a3 : Bool) (a4 : BitVec 39) (a5 : BitVec 39) (a6 : BitVec 39) (h : Ev m s0 s) (hm : Sub 25769803784 m) :
    Ev m s0 (State.scrubDo s a1 a2 a3 a4 a5 a6) := by
  unfold State.scrubDo
  repeat' (first
    | with_reducible assumption
    | exact Sub.trans hm rfl
    | with_reducible apply State.swRead_ev
    | with_reducible apply State.swRead_ev1
    | with_reducible apply State.swPut_ev
    | with_reducible apply Ev.setBank
    | with_reducible apply State.rsetf_ev
    | with_reducible refine State.swRead_evq ‹_› ?_ ?_
    | with_reducible apply Ev.ite
    | with_reducible apply Ev.fold
    | with_reducible apply Ev.elim
    | with_reducible apply Ev.getD
    | with_reducible apply Ev.iter
    | intro _
    | dsimp only
    | split)

theorem execScrubVisit_ev {m : Nat} {s0 : State} (a0 : Fin 128) (a1 : BitVec 39) (a2 : BitVec 39) (a3 : BitVec 39) {s : State} (h : Ev m s0 s) (hm : Sub 25769803784 m) :
    EvOut m s0 (execScrubVisit a0 a1 a2 a3 s) := by
  unfold execScrubVisit
  repeat' (first
    | with_reducible assumption
    | exact Sub.trans hm rfl
    | with_reducible apply EvOut.next
    | with_reducible apply EvOut.ite
    | with_reducible apply ok_ev
    | with_reducible apply State.scrubDo_ev
    | with_reducible apply Ev.setBank
    | with_reducible apply Ev.ite
    | with_reducible apply Ev.fold
    | with_reducible apply Ev.elim
    | with_reducible apply Ev.getD
    | with_reducible apply Ev.iter
    | intro _
    | dsimp only
    | split)

theorem State.handWrite_ev {m : Nat} {s0 : State} {s : State} (a1 : Nat) (a2 : Sys2Proof.Word) (h : Ev m s0 s) (hm : Sub 8589934600 m) :
    Ev m s0 (State.handWrite s a1 a2) := by
  unfold State.handWrite
  repeat' (first
    | with_reducible assumption
    | exact Sub.trans hm rfl
    | with_reducible apply State.viol_ev
    | with_reducible apply Ev.rput
    | with_reducible apply Ev.setBank
    | with_reducible apply State.breakLock_ev
    | with_reducible apply Ev.ite
    | with_reducible apply Ev.fold
    | with_reducible apply Ev.elim
    | with_reducible apply Ev.getD
    | with_reducible apply Ev.iter
    | intro _
    | dsimp only
    | split)

theorem execHandover_ev {m : Nat} {s0 : State} (a0 : Sys2Proof.Issuer) (a1 : Fin 128) (a2 : Sys2Proof.Word) {s : State} (h : Ev m s0 s) (hm : Sub 8589934600 m) :
    EvOut m s0 (execHandover a0 a1 a2 s) := by
  unfold execHandover
  repeat' (first
    | with_reducible assumption
    | exact Sub.trans hm rfl
    | with_reducible apply EvOut.next
    | with_reducible apply EvOut.ite
    | with_reducible apply ok_ev
    | with_reducible apply State.handWrite_ev
    | with_reducible apply State.viol_ev
    | with_reducible apply Ev.ite
    | with_reducible apply Ev.fold
    | with_reducible apply Ev.elim
    | with_reducible apply Ev.getD
    | with_reducible apply Ev.iter
    | intro _
    | dsimp only
    | split)

theorem State.newOwner_ev {m : Nat} {s0 : State} {s : State} (a1 : Nat) (a2 : Sys2Proof.RegVal) (h : Ev m s0 s) (hm : Sub 8 m) :
    Ev m s0 (State.newOwner s a1 a2) := by
  unfold State.newOwner
  repeat' (first
    | with_reducible assumption
    | exact Sub.trans hm rfl
    | with_reducible apply Ev.rput
    | with_reducible apply Ev.ite
    | with_reducible apply Ev.fold
    | with_reducible apply Ev.elim
    | with_reducible apply Ev.getD
    | with_reducible apply Ev.iter
    | intro _
    | dsimp only
    | split)

theorem execHdone_ev {m : Nat} {s0 : State} (a0 : Fin 128) {s : State} (h : Ev m s0 s) (hm : Sub 8589934600 m) :
    EvOut m s0 (execHdone a0 s) := by
  unfold execHdone
  repeat' (first
    | with_reducible assumption
    | exact Sub.trans hm rfl
    | with_reducible apply EvOut.next
    | with_reducible apply EvOut.ite
    | with_reducible apply State.breakLock_ev
    | with_reducible apply State.rsetb_ev
    | with_reducible apply State.newOwner_ev
    | with_reducible apply ok_ev
    | with_reducible apply Ev.setBank
    | with_reducible apply Ev.ite
    | with_reducible apply Ev.fold
    | with_reducible apply Ev.elim
    | with_reducible apply Ev.getD
    | with_reducible apply Ev.iter
    | intro _
    | dsimp only
    | split)

theorem State.prtWrite_ev {m : Nat} {s0 : State} {s : State} (a1 : Nat) (a2 : Nat) (a3 : Sys2Proof.Word) (h : Ev m s0 s) (hm : Sub 8 m) :
    Ev m s0 (State.prtWrite s a1 a2 a3) := by
  unfold State.prtWrite
  repeat' (first
    | with_reducible assumption
    | exact Sub.trans hm rfl
    | with_reducible apply State.viol_ev
    | with_reducible apply State.sticky_ev
    | with_reducible apply Ev.rput
    | with_reducible apply Ev.ite
    | with_reducible apply Ev.fold
    | with_reducible apply Ev.elim
    | with_reducible apply Ev.getD
    | with_reducible apply Ev.iter
    | intro _
    | dsimp only
    | split)

theorem execPrtReqWrite_ev {m : Nat} {s0 : State} (a0 : Sys2Proof.Issuer) (a1 : Fin 128) (a2 : Fin 20) (a3 : Sys2Proof.Word) {s : State} (h : Ev m s0 s) (hm : Sub 8 m) :
    EvOut m s0 (execPrtReqWrite a0 a1 a2 a3 s) := by
  unfold execPrtReqWrite
  repeat' (first
    | with_reducible assumption
    | exact Sub.trans hm rfl
    | with_reducible apply EvOut.next
    | with_reducible apply EvOut.ite
    | with_reducible apply ok_ev
    | with_reducible apply State.prtWrite_ev
    | with_reducible apply State.viol_ev
    | with_reducible apply Ev.ite
    | with_reducible apply Ev.fold
    | with_reducible apply Ev.elim
    | with_reducible apply Ev.getD
    | with_reducible apply Ev.iter
    | intro _
    | dsimp only
    | split)

theorem State.startClear_ev {m : Nat} {s0 : State} {s : State} (a1 : Nat) (h : Ev m s0 s) (hm : Sub 8589934600 m) :
    Ev m s0 (State.startClear s a1) := by
  unfold State.startClear
  repeat' (first
    | with_reducible assumption
    | exact Sub.trans hm rfl
    | with_reducible apply State.rsetb_ev
    | with_reducible apply Ev.setBank
    | with_reducible apply Ev.ite
    | with_reducible apply Ev.fold
    | with_reducible apply Ev.elim
    | with_reducible apply Ev.getD
    | with_reducible apply Ev.iter
    | intro _
    | dsimp only
    | split)

theorem State.scrCtlWrite_ev {m : Nat} {s0 : State} {s : State} (a1 : Nat) (a2 : Sys2Proof.Word) (h : Ev m s0 s) (hm : Sub 8589934600 m) :
    Ev m s0 (State.scrCtlWrite s a1 a2) := by
  unfold State.scrCtlWrite
  repeat' (first
    | with_reducible assumption
    | exact Sub.trans hm rfl
    | with_reducible apply State.startClear_ev
    | with_reducible apply State.writePlain_ev
    | with_reducible apply State.viol_ev
    | with_reducible apply Ev.ite
    | with_reducible apply Ev.fold
    | with_reducible apply Ev.elim
    | with_reducible apply Ev.getD
    | with_reducible apply Ev.iter
    | intro _
    | dsimp only
    | split)

theorem execBankClear_ev {m : Nat} {s0 : State} (a0 : Sys2Proof.Issuer) (a1 : Fin 128) {s : State} (h : Ev m s0 s) (hm : Sub 8589934600 m) :
    EvOut m s0 (execBankClear a0 a1 s) := by
  unfold execBankClear
  repeat' (first
    | with_reducible assumption
    | exact Sub.trans hm rfl
    | with_reducible apply EvOut.next
    | with_reducible apply EvOut.ite
    | with_reducible apply ok_ev
    | with_reducible apply State.scrCtlWrite_ev
    | with_reducible apply State.viol_ev
    | with_reducible apply Ev.ite
    | with_reducible apply Ev.fold
    | with_reducible apply Ev.elim
    | with_reducible apply Ev.getD
    | with_reducible apply Ev.iter
    | intro _
    | dsimp only
    | split)

theorem State.zeroBank_ev {m : Nat} {s0 : State} {s : State} (a1 : Nat) (h : Ev m s0 s) (hm : Sub 25769803776 m) :
    Ev m s0 (State.zeroBank s a1) := by
  unfold State.zeroBank
  repeat' (first
    | with_reducible assumption
    | exact Sub.trans hm rfl
    | with_reducible apply Ev.setBank
    | with_reducible apply Ev.ite
    | with_reducible apply Ev.fold
    | with_reducible apply Ev.elim
    | with_reducible apply Ev.getD
    | with_reducible apply Ev.iter
    | (intro c; first | with_reducible exact Store.wf_nil _ | with_reducible exact rfl | with_reducible exact Store.wf_put _ _ _ c | with_reducible exact Store.wf_putBytes _ _ c | with_reducible exact Store.wf_keep _ _ c | with_reducible exact Store.wf_mapVals _ _ (Store.wf_iff.1 c).1 | with_reducible exact Store.rising_filter _ c | with_reducible exact Store.rising_put _ _ _ c | with_reducible exact Store.wf_filter _ _ c | with_reducible exact Store.wf_copyRange _ _ c _ | with_reducible exact Store.wf_dup _ _ _ _ c | with_reducible exact c | exact Store.wf_filter _ _ c | exact Store.wf_filter _ _ (Store.wf_filter _ _ c) | exact Store.rising_filter _ c | exact Store.rising_filter _ (Store.rising_filter _ c) | exact Store.wf_put _ _ _ c)
    | intro _
    | dsimp only
    | split
    | with_reducible apply Ev.set_swords)

theorem State.applySetOwn_ev {m : Nat} {s0 : State} {s : State} (a1 : Nat) (h : Ev m s0 s) (hm : Sub 8589934600 m) :
    Ev m s0 (State.applySetOwn s a1) := by
  unfold State.applySetOwn
  repeat' (first
    | with_reducible assumption
    | exact Sub.trans hm rfl
    | with_reducible apply Ev.setBank
    | with_reducible apply State.newOwner_ev
    | with_reducible apply Ev.ite
    | with_reducible apply Ev.fold
    | with_reducible apply Ev.elim
    | with_reducible apply Ev.getD
    | with_reducible apply Ev.iter
    | intro _
    | dsimp only
    | split)

theorem execClrdone_ev {m : Nat} {s0 : State} (a0 : Fin 128) {s : State} (h : Ev m s0 s) (hm : Sub 309485009821345094494584840 m) :
    EvOut m s0 (execClrdone a0 s) := by
  unfold execClrdone
  repeat' (first
    | with_reducible assumption
    | exact Sub.trans hm rfl
    | with_reducible apply EvOut.next
    | with_reducible apply EvOut.ite
    | with_reducible apply State.maintOver_ev
    | with_reducible apply ok_ev
    | with_reducible apply State.applySetOwn_ev
    | with_reducible apply State.rsetb_ev
    | with_reducible apply Ev.setBank
    | with_reducible apply Ev.ite
    | with_reducible apply Ev.fold
    | with_reducible apply Ev.elim
    | with_reducible apply Ev.getD
    | with_reducible apply Ev.iter
    | intro _
    | dsimp only
    | split)

end Machine

end Sys2Proof
end

