-- ==== Sys2Proof/Laws/EvPin.lean ====
section
/-! SUPPORT. What each operation of Machine/Pin.lean can change, and that it keeps what no command may break (Laws/Evolve.lean). -/

set_option linter.unusedTactic false
set_option linter.unreachableTactic false
set_option linter.unusedVariables false

namespace Sys2Proof

open Machine

namespace Machine

theorem State.eatPair_ev {m : Nat} {s0 : State} {s : State} (a1 : Nat) (h : Ev m s0 s) (hm : Sub 68719476736 m) :
    Ev m s0 (State.eatPair s a1) := by
  unfold State.eatPair
  repeat' (first
    | with_reducible assumption
    | exact Sub.trans hm rfl
    | with_reducible apply Ev.setPin
    | with_reducible apply Ev.ite
    | with_reducible apply Ev.fold
    | with_reducible apply Ev.elim
    | with_reducible apply Ev.getD
    | with_reducible apply Ev.iter
    | intro _
    | dsimp only
    | split)

theorem State.pairDo_ev {m : Nat} {s0 : State} {s : State} (a1 : Nat) (a2 : Nat → Bool) (a3 : State → Sys2Proof.Tok → Sys2Proof.Tok → State) (h : Ev m s0 s) (hm : Sub 68719476744 m) (ha3 : ∀ t0 y1 y2, Ev m s0 t0 → Ev m s0 (a3 t0 y1 y2)) :
    Ev m s0 (State.pairDo s a1 a2 a3) := by
  unfold State.pairDo
  repeat' (first
    | with_reducible assumption
    | exact Sub.trans hm rfl
    | with_reducible apply State.eatPair_ev
    | with_reducible apply State.viol_ev
    | with_reducible apply Ev.ite
    | with_reducible apply ha3
    | with_reducible apply Ev.fold
    | with_reducible apply Ev.elim
    | with_reducible apply Ev.getD
    | with_reducible apply Ev.iter
    | intro _
    | dsimp only
    | split)

theorem State.arm_ev {m : Nat} {s0 : State} {s : State} (a1 : Nat) (a2 : Sys2Proof.Tok) (a3 : Sys2Proof.Tok) (h : Ev m s0 s) (hm : Sub 68719476744 m) :
    Ev m s0 (State.arm s a1 a2 a3) := by
  unfold State.arm
  repeat' (first
    | with_reducible assumption
    | exact Sub.trans hm rfl
    | with_reducible apply State.count_ev
    | with_reducible apply Ev.setPin
    | with_reducible apply Ev.ite
    | with_reducible apply Ev.fold
    | with_reducible apply Ev.elim
    | with_reducible apply Ev.getD
    | with_reducible apply Ev.iter
    | intro _
    | dsimp only
    | split)

theorem execMarkNop_ev {m : Nat} {s0 : State} (a0 : Fin 768) {s : State} (h : Ev m s0 s) (hm : Sub 68719476744 m) :
    EvOut m s0 (execMarkNop a0 s) := by
  unfold execMarkNop
  repeat' (first
    | with_reducible assumption
    | exact Sub.trans hm rfl
    | with_reducible apply EvOut.next
    | with_reducible apply EvOut.ite
    | with_reducible apply ok_ev
    | with_reducible apply State.pairDo_ev
    | with_reducible apply Ev.ite
    | with_reducible apply Ev.fold
    | with_reducible apply Ev.elim
    | with_reducible apply Ev.getD
    | with_reducible apply Ev.iter
    | intro _
    | dsimp only
    | split)

theorem execMarkLow_ev {m : Nat} {s0 : State} (a0 : Fin 768) {s : State} (h : Ev m s0 s) (hm : Sub 68719476744 m) :
    EvOut m s0 (execMarkLow a0 s) := by
  unfold execMarkLow
  repeat' (first
    | with_reducible assumption
    | exact Sub.trans hm rfl
    | with_reducible apply EvOut.next
    | with_reducible apply EvOut.ite
    | with_reducible apply ok_ev
    | with_reducible apply State.pairDo_ev
    | with_reducible apply State.arm_ev
    | with_reducible apply Ev.ite
    | with_reducible apply Ev.fold
    | with_reducible apply Ev.elim
    | with_reducible apply Ev.getD
    | with_reducible apply Ev.iter
    | intro _
    | dsimp only
    | split)

theorem execMarkHigh_ev {m : Nat} {s0 : State} (a0 : Fin 768) {s : State} (h : Ev m s0 s) (hm : Sub 68719476744 m) :
    EvOut m s0 (execMarkHigh a0 s) := by
  unfold execMarkHigh
  repeat' (first
    | with_reducible assumption
    | exact Sub.trans hm rfl
    | with_reducible apply EvOut.next
    | with_reducible apply EvOut.ite
    | with_reducible apply ok_ev
    | with_reducible apply State.pairDo_ev
    | with_reducible apply State.arm_ev
    | with_reducible apply Ev.ite
    | with_reducible apply Ev.fold
    | with_reducible apply Ev.elim
    | with_reducible apply Ev.getD
    | with_reducible apply Ev.iter
    | intro _
    | dsimp only
    | split)

theorem execMarkToggle_ev {m : Nat} {s0 : State} (a0 : Fin 768) {s : State} (h : Ev m s0 s) (hm : Sub 68719476744 m) :
    EvOut m s0 (execMarkToggle a0 s) := by
  unfold execMarkToggle
  repeat' (first
    | with_reducible assumption
    | exact Sub.trans hm rfl
    | with_reducible apply EvOut.next
    | with_reducible apply EvOut.ite
    | with_reducible apply ok_ev
    | with_reducible apply State.pairDo_ev
    | with_reducible apply State.arm_ev
    | with_reducible apply Ev.ite
    | with_reducible apply Ev.fold
    | with_reducible apply Ev.elim
    | with_reducible apply Ev.getD
    | with_reducible apply Ev.iter
    | intro _
    | dsimp only
    | split)

theorem execMarkFloat_ev {m : Nat} {s0 : State} (a0 : Fin 768) {s : State} (h : Ev m s0 s) (hm : Sub 68719476744 m) :
    EvOut m s0 (execMarkFloat a0 s) := by
  unfold execMarkFloat
  repeat' (first
    | with_reducible assumption
    | exact Sub.trans hm rfl
    | with_reducible apply EvOut.next
    | with_reducible apply EvOut.ite
    | with_reducible apply ok_ev
    | with_reducible apply State.pairDo_ev
    | with_reducible apply State.arm_ev
    | with_reducible apply Ev.ite
    | with_reducible apply Ev.fold
    | with_reducible apply Ev.elim
    | with_reducible apply Ev.getD
    | with_reducible apply Ev.iter
    | intro _
    | dsimp only
    | split)

theorem execMarkPark_ev {m : Nat} {s0 : State} (a0 : Fin 768) {s : State} (h : Ev m s0 s) (hm : Sub 68719476744 m) :
    EvOut m s0 (execMarkPark a0 s) := by
  unfold execMarkPark
  repeat' (first
    | with_reducible assumption
    | exact Sub.trans hm rfl
    | with_reducible apply EvOut.next
    | with_reducible apply EvOut.ite
    | with_reducible apply ok_ev
    | with_reducible apply State.pairDo_ev
    | with_reducible apply State.arm_ev
    | with_reducible apply Ev.ite
    | with_reducible apply Ev.fold
    | with_reducible apply Ev.elim
    | with_reducible apply Ev.getD
    | with_reducible apply Ev.iter
    | intro _
    | dsimp only
    | split)

theorem State.stage_ev {m : Nat} {s0 : State} {s : State} (a1 : Nat) (a2 : Option Sys2Proof.Word) (h : Ev m s0 s) (hm : Sub 68719476736 m) :
    Ev m s0 (State.stage s a1 a2) := by
  unfold State.stage
  repeat' (first
    | with_reducible assumption
    | exact Sub.trans hm rfl
    | with_reducible apply Ev.setPin
    | with_reducible apply Ev.ite
    | with_reducible apply Ev.fold
    | with_reducible apply Ev.elim
    | with_reducible apply Ev.getD
    | with_reducible apply Ev.iter
    | intro _
    | dsimp only
    | split)

theorem execWopen_ev {m : Nat} {s0 : State} (a0 : Fin 768) {s : State} (h : Ev m s0 s) (hm : Sub 68719476744 m) :
    EvOut m s0 (execWopen a0 s) := by
  unfold execWopen
  repeat' (first
    | with_reducible assumption
    | exact Sub.trans hm rfl
    | with_reducible apply EvOut.next
    | with_reducible apply EvOut.ite
    | with_reducible apply ok_ev
    | with_reducible apply State.pairDo_ev
    | with_reducible apply State.stage_ev
    | with_reducible apply Ev.ite
    | with_reducible apply Ev.fold
    | with_reducible apply Ev.elim
    | with_reducible apply Ev.getD
    | with_reducible apply Ev.iter
    | intro _
    | dsimp only
    | split)

theorem execWclose_ev {m : Nat} {s0 : State} (a0 : Fin 768) {s : State} (h : Ev m s0 s) (hm : Sub 68719476744 m) :
    EvOut m s0 (execWclose a0 s) := by
  unfold execWclose
  repeat' (first
    | with_reducible assumption
    | exact Sub.trans hm rfl
    | with_reducible apply EvOut.next
    | with_reducible apply EvOut.ite
    | with_reducible apply ok_ev
    | with_reducible apply State.pairDo_ev
    | with_reducible apply Ev.setPin
    | with_reducible apply Ev.ite
    | with_reducible apply Ev.fold
    | with_reducible apply Ev.elim
    | with_reducible apply Ev.getD
    | with_reducible apply Ev.iter
    | intro _
    | dsimp only
    | split)

theorem State.cancelMarks_ev {m : Nat} {s0 : State} {s : State} (a1 : Nat) (h : Ev m s0 s) (hm : Sub 68719476736 m) :
    Ev m s0 (State.cancelMarks s a1) := by
  unfold State.cancelMarks
  repeat' (first
    | with_reducible assumption
    | exact Sub.trans hm rfl
    | with_reducible apply Ev.setPin
    | with_reducible apply Ev.ite
    | with_reducible apply Ev.fold
    | with_reducible apply Ev.elim
    | with_reducible apply Ev.getD
    | with_reducible apply Ev.iter
    | intro _
    | dsimp only
    | split)

theorem execCancel_ev {m : Nat} {s0 : State} (a0 : Fin 768) {s : State} (h : Ev m s0 s) (hm : Sub 68719476744 m) :
    EvOut m s0 (execCancel a0 s) := by
  unfold execCancel
  repeat' (first
    | with_reducible assumption
    | exact Sub.trans hm rfl
    | with_reducible apply EvOut.next
    | with_reducible apply EvOut.ite
    | with_reducible apply ok_ev
    | with_reducible apply State.pairDo_ev
    | with_reducible apply State.cancelMarks_ev
    | with_reducible apply Ev.ite
    | with_reducible apply Ev.fold
    | with_reducible apply Ev.elim
    | with_reducible apply Ev.getD
    | with_reducible apply Ev.iter
    | intro _
    | dsimp only
    | split)

theorem execMarkReservedAct_ev {m : Nat} {s0 : State} (a0 : Fin 768) {s : State} (h : Ev m s0 s) (hm : Sub 68719476744 m) :
    EvOut m s0 (execMarkReservedAct a0 s) := by
  unfold execMarkReservedAct
  repeat' (first
    | with_reducible assumption
    | exact Sub.trans hm rfl
    | with_reducible apply EvOut.next
    | with_reducible apply EvOut.ite
    | with_reducible apply ok_ev
    | with_reducible apply State.pairDo_ev
    | with_reducible apply State.viol_ev
    | with_reducible apply Ev.ite
    | with_reducible apply Ev.fold
    | with_reducible apply Ev.elim
    | with_reducible apply Ev.getD
    | with_reducible apply Ev.iter
    | intro _
    | dsimp only
    | split)

theorem execPoisonedPair_ev {m : Nat} {s0 : State} (a0 : Fin 768) {s : State} (h : Ev m s0 s) (hm : Sub 68719476746 m) :
    EvOut m s0 (execPoisonedPair a0 s) := by
  unfold execPoisonedPair
  repeat' (first
    | with_reducible assumption
    | exact Sub.trans hm rfl
    | with_reducible apply EvOut.next
    | with_reducible apply EvOut.ite
    | with_reducible apply ok_ev
    | with_reducible apply State.eatPair_ev
    | with_reducible apply State.viol_ev
    | with_reducible apply State.poison_ev
    | with_reducible apply State.count_ev
    | with_reducible apply State.sticky_ev
    | with_reducible apply State.cancelMarks_ev
    | with_reducible apply State.parkPin_ev
    | with_reducible apply Ev.ite
    | with_reducible apply Ev.fold
    | with_reducible apply Ev.elim
    | with_reducible apply Ev.getD
    | with_reducible apply Ev.iter
    | intro _
    | dsimp only
    | split)

theorem State.fireAct_ev {m : Nat} {s0 : State} {s : State} (a1 : Nat) (a2 : Nat) (h : Ev m s0 s) (hm : Sub 68719476736 m) :
    Ev m s0 (State.fireAct s a1 a2) := by
  unfold State.fireAct
  repeat' (first
    | with_reducible assumption
    | exact Sub.trans hm rfl
    | with_reducible apply State.drivePin_ev
    | with_reducible apply Ev.ite
    | with_reducible apply Ev.fold
    | with_reducible apply Ev.elim
    | with_reducible apply Ev.getD
    | with_reducible apply Ev.iter
    | intro _
    | dsimp only
    | split)

theorem State.fire_ev {m : Nat} {s0 : State} {s : State} (a1 : Nat) (a2 : Sys2Proof.Machine.Mark) (a3 : Nat) (h : Ev m s0 s) (hm : Sub 68719476744 m) :
    Ev m s0 (State.fire s a1 a2 a3) := by
  unfold State.fire
  repeat' (first
    | with_reducible assumption
    | exact Sub.trans hm rfl
    | with_reducible apply State.fireAct_ev
    | with_reducible apply State.edgeAt_ev
    | with_reducible apply Ev.setPin
    | with_reducible apply Ev.ite
    | with_reducible apply Ev.fold
    | with_reducible apply Ev.elim
    | with_reducible apply Ev.getD
    | with_reducible apply Ev.iter
    | intro _
    | dsimp only
    | split)

theorem State.dropHead_ev {m : Nat} {s0 : State} {s : State} (a1 : Nat) (h : Ev m s0 s) (hm : Sub 68719476736 m) :
    Ev m s0 (State.dropHead s a1) := by
  unfold State.dropHead
  repeat' (first
    | with_reducible assumption
    | exact Sub.trans hm rfl
    | with_reducible apply Ev.setPin
    | with_reducible apply Ev.ite
    | with_reducible apply Ev.fold
    | with_reducible apply Ev.elim
    | with_reducible apply Ev.getD
    | with_reducible apply Ev.iter
    | intro _
    | dsimp only
    | split)

theorem State.gated_ev {m : Nat} {s0 : State} {s : State} (a1 : Nat) (a2 : Sys2Proof.Machine.Mark) (a3 : Sys2Proof.Word) (a4 : Nat) (h : Ev m s0 s) (hm : Sub 68719476744 m) :
    Ev m s0 (State.gated s a1 a2 a3 a4) := by
  unfold State.gated
  repeat' (first
    | with_reducible assumption
    | exact Sub.trans hm rfl
    | with_reducible apply State.sticky_ev
    | with_reducible apply State.dropHead_ev
    | with_reducible apply State.fire_ev
    | with_reducible apply Ev.ite
    | with_reducible apply Ev.fold
    | with_reducible apply Ev.elim
    | with_reducible apply Ev.getD
    | with_reducible apply Ev.iter
    | intro _
    | dsimp only
    | split)

theorem execMarkEvaluation_ev {m : Nat} {s0 : State} (a0 : Fin 768) (a1 : Fin 20) {s : State} (h : Ev m s0 s) (hm : Sub 68719476744 m) :
    EvOut m s0 (execMarkEvaluation a0 a1 s) := by
  unfold execMarkEvaluation
  repeat' (first
    | with_reducible assumption
    | exact Sub.trans hm rfl
    | with_reducible apply EvOut.next
    | with_reducible apply EvOut.ite
    | with_reducible apply ok_ev
    | with_reducible apply State.gated_ev
    | with_reducible apply State.sticky_ev
    | with_reducible apply State.dropHead_ev
    | with_reducible apply State.count_ev
    | with_reducible apply Ev.setPin
    | with_reducible apply Ev.ite
    | with_reducible apply Ev.fold
    | with_reducible apply Ev.elim
    | with_reducible apply Ev.getD
    | with_reducible apply Ev.iter
    | intro _
    | dsimp only
    | split)

theorem execCaptureEdge_ev {m : Nat} {s0 : State} (a0 : Fin 768) (a1 : Sys2Proof.PadIn) (a2 : Fin 20) (a3 : Bool) (a4 : Bool) {s : State} (h : Ev m s0 s) (hm : Sub 68719476744 m) :
    EvOut m s0 (execCaptureEdge a0 a1 a2 a3 a4 s) := by
  unfold execCaptureEdge
  repeat' (first
    | with_reducible assumption
    | exact Sub.trans hm rfl
    | with_reducible apply EvOut.next
    | with_reducible apply EvOut.ite
    | with_reducible apply Ev.setPin
    | with_reducible apply ok_ev
    | with_reducible apply State.count_ev
    | with_reducible apply State.sticky_ev
    | with_reducible apply Ev.ite
    | with_reducible apply Ev.fold
    | with_reducible apply Ev.elim
    | with_reducible apply Ev.getD
    | with_reducible apply Ev.iter
    | intro _
    | dsimp only
    | split)

theorem State.ownDrive_ev {m : Nat} {s0 : State} {s : State} (a1 : Nat) (h : Ev m s0 s) (hm : Sub 68719476746 m) :
    Ev m s0 (State.ownDrive s a1) := by
  unfold State.ownDrive
  repeat' (first
    | with_reducible assumption
    | exact Sub.trans hm rfl
    | with_reducible apply State.driveSoon_ev
    | with_reducible apply Ev.ite
    | with_reducible apply Ev.fold
    | with_reducible apply Ev.elim
    | with_reducible apply Ev.getD
    | with_reducible apply Ev.iter
    | intro _
    | dsimp only
    | split)

theorem State.fparkSet_ev {m : Nat} {s0 : State} {s : State} (a1 : Nat) (a2 : Bool) (h : Ev m s0 s) (hm : Sub 68719476746 m) :
    Ev m s0 (State.fparkSet s a1 a2) := by
  unfold State.fparkSet
  repeat' (first
    | with_reducible assumption
    | exact Sub.trans hm rfl
    | with_reducible apply State.rsetb_ev
    | with_reducible apply State.parkPin_ev
    | with_reducible apply State.cancelMarks_ev
    | with_reducible apply State.ownDrive_ev
    | with_reducible apply Ev.ite
    | with_reducible apply Ev.fold
    | with_reducible apply Ev.elim
    | with_reducible apply Ev.getD
    | with_reducible apply Ev.iter
    | intro _
    | dsimp only
    | split)

theorem State.windowClear_ev {m : Nat} {s0 : State} {s : State} (a1 : Nat) (h : Ev m s0 s) (hm : Sub 68719476736 m) :
    Ev m s0 (State.windowClear s a1) := by
  unfold State.windowClear
  repeat' (first
    | with_reducible assumption
    | exact Sub.trans hm rfl
    | with_reducible apply Ev.setPin
    | with_reducible apply Ev.ite
    | with_reducible apply Ev.fold
    | with_reducible apply Ev.elim
    | with_reducible apply Ev.getD
    | with_reducible apply Ev.iter
    | intro _
    | dsimp only
    | split)

theorem State.pinCtlWrite_ev {m : Nat} {s0 : State} {s : State} (a1 : Nat) (a2 : Sys2Proof.Word) (h : Ev m s0 s) (hm : Sub 68719476746 m) :
    Ev m s0 (State.pinCtlWrite s a1 a2) := by
  unfold State.pinCtlWrite
  repeat' (first
    | with_reducible assumption
    | exact Sub.trans hm rfl
    | with_reducible apply State.fparkSet_ev
    | with_reducible apply State.cancelMarks_ev
    | with_reducible apply State.windowClear_ev
    | with_reducible apply Ev.ite
    | with_reducible apply Ev.fold
    | with_reducible apply Ev.elim
    | with_reducible apply Ev.getD
    | with_reducible apply Ev.iter
    | intro _
    | dsimp only
    | split)

theorem execFpark_ev {m : Nat} {s0 : State} (a0 : Sys2Proof.Issuer) (a1 : Fin 768) (a2 : Bool) {s : State} (h : Ev m s0 s) (hm : Sub 68719476746 m) :
    EvOut m s0 (execFpark a0 a1 a2 s) := by
  unfold execFpark
  repeat' (first
    | with_reducible assumption
    | exact Sub.trans hm rfl
    | with_reducible apply EvOut.next
    | with_reducible apply EvOut.ite
    | with_reducible apply ok_ev
    | with_reducible apply State.guarded_ev
    | with_reducible apply State.fparkSet_ev
    | with_reducible apply Ev.ite
    | with_reducible apply Ev.fold
    | with_reducible apply Ev.elim
    | with_reducible apply Ev.getD
    | with_reducible apply Ev.iter
    | intro _
    | dsimp only
    | split)

theorem execPinCtlCancel_ev {m : Nat} {s0 : State} (a0 : Sys2Proof.Issuer) (a1 : Fin 768) {s : State} (h : Ev m s0 s) (hm : Sub 68719476744 m) :
    EvOut m s0 (execPinCtlCancel a0 a1 s) := by
  unfold execPinCtlCancel
  repeat' (first
    | with_reducible assumption
    | exact Sub.trans hm rfl
    | with_reducible apply EvOut.next
    | with_reducible apply EvOut.ite
    | with_reducible apply ok_ev
    | with_reducible apply State.guarded_ev
    | with_reducible apply State.cancelMarks_ev
    | with_reducible apply Ev.ite
    | with_reducible apply Ev.fold
    | with_reducible apply Ev.elim
    | with_reducible apply Ev.getD
    | with_reducible apply Ev.iter
    | intro _
    | dsimp only
    | split)

theorem execWclr_ev {m : Nat} {s0 : State} (a0 : Sys2Proof.Issuer) (a1 : Fin 768) {s : State} (h : Ev m s0 s) (hm : Sub 68719476744 m) :
    EvOut m s0 (execWclr a0 a1 s) := by
  unfold execWclr
  repeat' (first
    | with_reducible assumption
    | exact Sub.trans hm rfl
    | with_reducible apply EvOut.next
    | with_reducible apply EvOut.ite
    | with_reducible apply ok_ev
    | with_reducible apply State.guarded_ev
    | with_reducible apply State.windowClear_ev
    | with_reducible apply Ev.ite
    | with_reducible apply Ev.fold
    | with_reducible apply Ev.elim
    | with_reducible apply Ev.getD
    | with_reducible apply Ev.iter
    | intro _
    | dsimp only
    | split)

theorem State.flowPin_ev {m : Nat} {s0 : State} {s : State} (a1 : Nat) (a2 : Bool) (h : Ev m s0 s) (hm : Sub 68719476746 m) :
    Ev m s0 (State.flowPin s a1 a2) := by
  unfold State.flowPin
  repeat' (first
    | with_reducible assumption
    | exact Sub.trans hm rfl
    | with_reducible apply Ev.setPin
    | with_reducible apply State.driveSoon_ev
    | with_reducible apply Ev.ite
    | with_reducible apply Ev.fold
    | with_reducible apply Ev.elim
    | with_reducible apply Ev.getD
    | with_reducible apply Ev.iter
    | intro _
    | dsimp only
    | split)

theorem State.invalidPin_ev {m : Nat} {s0 : State} {s : State} (a1 : Nat) (h : Ev m s0 s) (hm : Sub 68719476746 m) :
    Ev m s0 (State.invalidPin s a1) := by
  unfold State.invalidPin
  repeat' (first
    | with_reducible assumption
    | exact Sub.trans hm rfl
    | with_reducible apply Ev.setPin
    | with_reducible apply State.ownDrive_ev
    | with_reducible apply State.poison_ev
    | with_reducible apply State.sticky_ev
    | with_reducible apply State.parkPin_ev
    | with_reducible apply Ev.ite
    | with_reducible apply Ev.fold
    | with_reducible apply Ev.elim
    | with_reducible apply Ev.getD
    | with_reducible apply Ev.iter
    | intro _
    | dsimp only
    | split)

theorem State.invalidPark_ev {m : Nat} {s0 : State} {s : State} (a1 : Nat) (h : Ev m s0 s) (hm : Sub 68719476746 m) :
    Ev m s0 (State.invalidPark s a1) := by
  unfold State.invalidPark
  repeat' (first
    | with_reducible assumption
    | exact Sub.trans hm rfl
    | with_reducible apply Ev.each
    | with_reducible apply State.invalidPin_ev
    | with_reducible apply Ev.ite
    | with_reducible apply Ev.fold
    | with_reducible apply Ev.elim
    | with_reducible apply Ev.getD
    | with_reducible apply Ev.iter
    | intro _
    | dsimp only
    | split)

theorem State.takeFrame_ev {m : Nat} {s0 : State} {s : State} (a1 : Nat) (a2 : Sys2Proof.Machine.Frame) (h : Ev m s0 s) (hm : Sub 206158438410 m) :
    Ev m s0 (State.takeFrame s a1 a2) := by
  unfold State.takeFrame
  repeat' (first
    | with_reducible assumption
    | exact Sub.trans hm rfl
    | with_reducible apply State.invalidPark_ev
    | with_reducible apply Ev.setSpine
    | with_reducible apply Ev.setSpinePrev
    | with_reducible apply Ev.ite
    | with_reducible apply Ev.fold
    | with_reducible apply Ev.elim
    | with_reducible apply Ev.getD
    | with_reducible apply Ev.iter
    | intro _
    | dsimp only
    | split)

theorem execSpineFrameArrival_ev {m : Nat} {s0 : State} (a0 : Fin 32) (a1 : Nat) {s : State} (h : Ev m s0 s) (hm : Sub 206158438410 m) :
    EvOut m s0 (execSpineFrameArrival a0 a1 s) := by
  unfold execSpineFrameArrival
  repeat' (first
    | with_reducible assumption
    | exact Sub.trans hm rfl
    | with_reducible apply EvOut.next
    | with_reducible apply EvOut.ite
    | with_reducible apply ok_ev
    | with_reducible apply State.takeFrame_ev
    | with_reducible apply Ev.ite
    | with_reducible apply Ev.fold
    | with_reducible apply Ev.elim
    | with_reducible apply Ev.getD
    | with_reducible apply Ev.iter
    | intro _
    | dsimp only
    | split)

theorem execSpineFrameMissing_ev {m : Nat} {s0 : State} (a0 : Fin 32) (a1 : Bool) {s : State} (h : Ev m s0 s) (hm : Sub 206158438410 m) :
    EvOut m s0 (execSpineFrameMissing a0 a1 s) := by
  unfold execSpineFrameMissing
  repeat' (first
    | with_reducible assumption
    | exact Sub.trans hm rfl
    | with_reducible apply EvOut.next
    | with_reducible apply EvOut.ite
    | with_reducible apply State.takeFrame_ev
    | with_reducible apply State.sticky_ev
    | with_reducible apply ok_ev
    | with_reducible apply State.sharedFault_ev
    | with_reducible apply State.transient_ev
    | with_reducible apply Ev.ite
    | with_reducible apply Ev.fold
    | with_reducible apply Ev.elim
    | with_reducible apply Ev.getD
    | with_reducible apply Ev.iter
    | intro _
    | dsimp only
    | split)

end Machine

end Sys2Proof
end

