-- ==== Sys2Proof/Laws/EvHopper.lean ====
section
/-! SUPPORT. What each operation of Machine/Hopper.lean can change, and that it keeps what no command may break (Laws/Evolve.lean). -/

set_option linter.unusedTactic false
set_option linter.unreachableTactic false
set_option linter.unusedVariables false

namespace Sys2Proof

open Machine

namespace Machine

theorem State.flowOut_ev {m : Nat} {s0 : State} {s : State} (a1 : Nat) (h : Ev m s0 s) (hm : Sub 68719476746 m) :
    Ev m s0 (State.flowOut s a1) := by
  unfold State.flowOut
  repeat' (first
    | with_reducible assumption
    | exact Sub.trans hm rfl
    | with_reducible apply State.flowPin_ev
    | with_reducible apply Ev.ite
    | with_reducible apply Ev.fold
    | with_reducible apply Ev.elim
    | with_reducible apply Ev.getD
    | with_reducible apply Ev.iter
    | intro _
    | dsimp only
    | split)

theorem State.hopMarks_ev {m : Nat} {s0 : State} {s : State} (a1 : Nat) (h : Ev m s0 s) (hm : Sub 103079215114 m) :
    Ev m s0 (State.hopMarks s a1) := by
  unfold State.hopMarks
  repeat' (first
    | with_reducible assumption
    | exact Sub.trans hm rfl
    | with_reducible apply State.flowOut_ev
    | with_reducible apply State.sticky_ev
    | with_reducible apply Ev.setHop
    | with_reducible apply Ev.ite
    | with_reducible apply Ev.fold
    | with_reducible apply Ev.elim
    | with_reducible apply Ev.getD
    | with_reducible apply Ev.iter
    | intro _
    | dsimp only
    | split)

theorem State.hopStore_ev {m : Nat} {s0 : State} {s : State} (a1 : Nat) (a2 : Sys2Proof.Tok) (h : Ev m s0 s) (hm : Sub 103079215114 m) :
    Ev m s0 (State.hopStore s a1 a2) := by
  unfold State.hopStore
  repeat' (first
    | with_reducible assumption
    | exact Sub.trans hm rfl
    | with_reducible apply Ev.setHop
    | with_reducible apply State.hopMarks_ev
    | with_reducible apply State.sticky_ev
    | with_reducible apply Ev.ite
    | with_reducible apply Ev.fold
    | with_reducible apply Ev.elim
    | with_reducible apply Ev.getD
    | with_reducible apply Ev.iter
    | intro _
    | dsimp only
    | split)

theorem State.hopPoison_ev {m : Nat} {s0 : State} {s : State} (a1 : Nat) (h : Ev m s0 s) (hm : Sub 8 m) :
    Ev m s0 (State.hopPoison s a1) := by
  unfold State.hopPoison
  repeat' (first
    | with_reducible assumption
    | exact Sub.trans hm rfl
    | with_reducible apply State.poison_ev
    | with_reducible apply State.sticky_ev
    | with_reducible apply Ev.ite
    | with_reducible apply Ev.fold
    | with_reducible apply Ev.elim
    | with_reducible apply Ev.getD
    | with_reducible apply Ev.iter
    | intro _
    | dsimp only
    | split)

theorem State.pushAccess_ev {m : Nat} {s0 : State} {s : State} (a1 : Nat) (h : Ev m s0 s) (hm : Sub 103112769546 m) :
    Ev m s0 (State.pushAccess s a1) := by
  unfold State.pushAccess
  repeat' (first
    | with_reducible assumption
    | exact Sub.trans hm rfl
    | with_reducible apply State.answer_ev
    | with_reducible apply State.hopPoison_ev
    | with_reducible apply State.viol_ev
    | with_reducible apply State.hopStore_ev
    | with_reducible apply Ev.ite
    | with_reducible apply Ev.fold
    | with_reducible apply Ev.elim
    | with_reducible apply Ev.getD
    | with_reducible apply Ev.iter
    | intro _
    | dsimp only
    | split)

theorem State.pushStream_ev {m : Nat} {s0 : State} {s : State} (a1 : Nat) (a2 : BitVec 17) (h : Ev m s0 s) (hm : Sub 288231039632244746 m) :
    Ev m s0 (State.pushStream s a1 a2) := by
  unfold State.pushStream
  repeat' (first
    | with_reducible assumption
    | exact Sub.trans hm rfl
    | with_reducible apply State.codeReport_ev
    | with_reducible apply State.hopStore_ev
    | with_reducible apply Ev.setChan
    | with_reducible apply Ev.ite
    | with_reducible apply Ev.fold
    | with_reducible apply Ev.elim
    | with_reducible apply Ev.getD
    | with_reducible apply Ev.iter
    | intro _
    | dsimp only
    | split)

theorem execHopperPush_ev {m : Nat} {s0 : State} (a0 : Sys2Proof.Coded Sys2Proof.PushFrom) {s : State} (h : Ev m s0 s) (hm : Sub 288231039632244746 m) :
    EvOut m s0 (execHopperPush a0 s) := by
  unfold execHopperPush
  repeat' (first
    | with_reducible assumption
    | exact Sub.trans hm rfl
    | with_reducible apply EvOut.next
    | with_reducible apply EvOut.ite
    | with_reducible apply ok_ev
    | with_reducible apply State.pushAccess_ev
    | with_reducible apply State.pushStream_ev
    | with_reducible apply Ev.ite
    | with_reducible apply Ev.fold
    | with_reducible apply Ev.elim
    | with_reducible apply Ev.getD
    | with_reducible apply Ev.iter
    | intro _
    | dsimp only
    | split)

theorem execPendingPushAccepted_ev {m : Nat} {s0 : State} (a0 : Nat) {s : State} (h : Ev m s0 s) (hm : Sub 103112769546 m) :
    EvOut m s0 (execPendingPushAccepted a0 s) := by
  unfold execPendingPushAccepted
  repeat' (first
    | with_reducible assumption
    | exact Sub.trans hm rfl
    | with_reducible apply EvOut.next
    | with_reducible apply EvOut.ite
    | with_reducible apply ok_ev
    | with_reducible apply State.pushAccess_ev
    | with_reducible apply Ev.ite
    | with_reducible apply Ev.fold
    | with_reducible apply Ev.elim
    | with_reducible apply Ev.getD
    | with_reducible apply Ev.iter
    | intro _
    | dsimp only
    | split)

theorem State.hopDeliver_ev {m : Nat} {s0 : State} {s : State} (a1 : Nat) (a2 : BitVec 35) (a3 : Bool) (h : Ev m s0 s) (hm : Sub 103079215114 m) :
    EvPair m s0 (State.hopDeliver s a1 a2 a3) := by
  unfold State.hopDeliver
  repeat' (first
    | with_reducible assumption
    | exact Sub.trans hm rfl
    | with_reducible apply EvPair.pair
    | with_reducible apply EvPair.ite
    | with_reducible apply Ev.setHop
    | with_reducible apply State.sharedFault_ev
    | with_reducible apply State.count_ev
    | with_reducible apply State.sticky_ev
    | with_reducible apply State.hopMarks_ev
    | with_reducible apply Ev.ite
    | with_reducible apply Ev.fold
    | with_reducible apply Ev.elim
    | with_reducible apply Ev.getD
    | with_reducible apply Ev.iter
    | intro _
    | dsimp only
    | split)

theorem State.hopDeliver_evq {m : Nat} {s0 : State} {t : State} {s : State} {a1 : Nat} {a2 : BitVec 35} {a3 : Bool} {b : _} (e : (State.hopDeliver s a1 a2 a3) = (t, b)) (h : Ev m s0 s) (hm : Sub 103079215114 m) : Ev m s0 t := by
  have := State.hopDeliver_ev a1 a2 a3 h hm
  rw [e] at this; exact this.get

theorem State.hopDeliver_ev1 {m : Nat} {s0 : State} {s : State} (a1 : Nat) (a2 : BitVec 35) (a3 : Bool) (h : Ev m s0 s) (hm : Sub 103079215114 m) : Ev m s0 (State.hopDeliver s a1 a2 a3).1 := (State.hopDeliver_ev a1 a2 a3 h hm).get

theorem State.popPeek_ev {m : Nat} {s0 : State} {s : State} (a1 : Nat) (a2 : BitVec 35) (h : Ev m s0 s) (hm : Sub 34359738368 m) :
    EvPair m s0 (State.popPeek s a1 a2) := by
  unfold State.popPeek
  repeat' (first
    | with_reducible assumption
    | exact Sub.trans hm rfl
    | with_reducible apply EvPair.pair
    | with_reducible apply EvPair.ite
    | with_reducible apply Ev.setHop
    | with_reducible apply Ev.ite
    | with_reducible apply Ev.fold
    | with_reducible apply Ev.elim
    | with_reducible apply Ev.getD
    | with_reducible apply Ev.iter
    | intro _
    | dsimp only
    | split)

theorem State.popPeek_evq {m : Nat} {s0 : State} {t : State} {s : State} {a1 : Nat} {a2 : BitVec 35} {b : _} (e : (State.popPeek s a1 a2) = (t, b)) (h : Ev m s0 s) (hm : Sub 34359738368 m) : Ev m s0 t := by
  have := State.popPeek_ev a1 a2 h hm
  rw [e] at this; exact this.get

theorem State.popPeek_ev1 {m : Nat} {s0 : State} {s : State} (a1 : Nat) (a2 : BitVec 35) (h : Ev m s0 s) (hm : Sub 34359738368 m) : Ev m s0 (State.popPeek s a1 a2).1 := (State.popPeek_ev a1 a2 h hm).get

theorem execHopperPop_ev {m : Nat} {s0 : State} (a0 : Nat) (a1 : BitVec 35) (a2 : Bool) {s : State} (h : Ev m s0 s) (hm : Sub 103112769546 m) :
    EvOut m s0 (execHopperPop a0 a1 a2 s) := by
  unfold execHopperPop
  repeat' (first
    | with_reducible assumption
    | exact Sub.trans hm rfl
    | with_reducible apply EvOut.next
    | with_reducible apply EvOut.ite
    | with_reducible apply ok_ev
    | with_reducible apply State.answer_ev
    | with_reducible apply State.hopPoison_ev
    | with_reducible apply State.viol_ev
    | with_reducible apply State.popPeek_ev
    | with_reducible apply State.popPeek_ev1
    | with_reducible apply State.hopDeliver_ev
    | with_reducible apply State.hopDeliver_ev1
    | with_reducible apply Ev.setHop
    | with_reducible refine State.popPeek_evq ‹_› ?_ ?_
    | with_reducible refine State.hopDeliver_evq ‹_› ?_ ?_
    | with_reducible apply Ev.ite
    | with_reducible apply Ev.fold
    | with_reducible apply Ev.elim
    | with_reducible apply Ev.getD
    | with_reducible apply Ev.iter
    | intro _
    | dsimp only
    | split)

theorem execPendingPopServed_ev {m : Nat} {s0 : State} (a0 : Fin 256) (a1 : BitVec 35) (a2 : Bool) {s : State} (h : Ev m s0 s) (hm : Sub 103112769546 m) :
    EvOut m s0 (execPendingPopServed a0 a1 a2 s) := by
  unfold execPendingPopServed
  repeat' (first
    | with_reducible assumption
    | exact Sub.trans hm rfl
    | with_reducible apply EvOut.next
    | with_reducible apply EvOut.ite
    | with_reducible apply ok_ev
    | with_reducible apply State.hopDeliver_ev
    | with_reducible apply State.hopDeliver_ev1
    | with_reducible apply Ev.setHop
    | with_reducible apply State.answer_ev
    | with_reducible refine State.hopDeliver_evq ‹_› ?_ ?_
    | with_reducible apply Ev.ite
    | with_reducible apply Ev.fold
    | with_reducible apply Ev.elim
    | with_reducible apply Ev.getD
    | with_reducible apply Ev.iter
    | intro _
    | dsimp only
    | split)

theorem State.hopCmd_ev {m : Nat} {s0 : State} {s : State} (a1 : Nat) (a2 : Nat → Bool) (a3 : State → Nat → State) (h : Ev m s0 s) (hm : Sub 33554440 m) (ha3 : ∀ t0 y1, Ev m s0 t0 → Ev m s0 (a3 t0 y1)) :
    Ev m s0 (State.hopCmd s a1 a2 a3) := by
  unfold State.hopCmd
  repeat' (first
    | with_reducible assumption
    | exact Sub.trans hm rfl
    | with_reducible apply State.answer_ev
    | with_reducible apply State.hopPoison_ev
    | with_reducible apply State.viol_ev
    | with_reducible apply Ev.ite
    | with_reducible apply ha3
    | with_reducible apply Ev.fold
    | with_reducible apply Ev.elim
    | with_reducible apply Ev.getD
    | with_reducible apply Ev.iter
    | intro _
    | dsimp only
    | split)

theorem State.inHeld_ev {m : Nat} {s0 : State} {s : State} (a1 : Nat) (a2 : Sys2Proof.Machine.Hop → Sys2Proof.Machine.Hop) (h : Ev m s0 s) (hm : Sub 103079215114 m) :
    Ev m s0 (State.inHeld s a1 a2) := by
  unfold State.inHeld
  repeat' (first
    | with_reducible assumption
    | exact Sub.trans hm rfl
    | with_reducible apply State.hopMarks_ev
    | with_reducible apply Ev.setHop
    | with_reducible apply State.viol_ev
    | with_reducible apply Ev.ite
    | with_reducible apply Ev.fold
    | with_reducible apply Ev.elim
    | with_reducible apply Ev.getD
    | with_reducible apply Ev.iter
    | intro _
    | dsimp only
    | split)

theorem execHopperMark_ev {m : Nat} {s0 : State} (a0 : Nat) {s : State} (h : Ev m s0 s) (hm : Sub 103112769546 m) :
    EvOut m s0 (execHopperMark a0 s) := by
  unfold execHopperMark
  repeat' (first
    | with_reducible assumption
    | exact Sub.trans hm rfl
    | with_reducible apply EvOut.next
    | with_reducible apply EvOut.ite
    | with_reducible apply ok_ev
    | with_reducible apply State.hopCmd_ev
    | with_reducible apply State.inHeld_ev
    | with_reducible apply Ev.ite
    | with_reducible apply Ev.fold
    | with_reducible apply Ev.elim
    | with_reducible apply Ev.getD
    | with_reducible apply Ev.iter
    | intro _
    | dsimp only
    | split)

theorem execRewind_ev {m : Nat} {s0 : State} (a0 : Nat) {s : State} (h : Ev m s0 s) (hm : Sub 103112769546 m) :
    EvOut m s0 (execRewind a0 s) := by
  unfold execRewind
  repeat' (first
    | with_reducible assumption
    | exact Sub.trans hm rfl
    | with_reducible apply EvOut.next
    | with_reducible apply EvOut.ite
    | with_reducible apply ok_ev
    | with_reducible apply State.hopCmd_ev
    | with_reducible apply State.inHeld_ev
    | with_reducible apply Ev.ite
    | with_reducible apply Ev.fold
    | with_reducible apply Ev.elim
    | with_reducible apply Ev.getD
    | with_reducible apply Ev.iter
    | intro _
    | dsimp only
    | split)

theorem execRelease_ev {m : Nat} {s0 : State} (a0 : Nat) {s : State} (h : Ev m s0 s) (hm : Sub 103112769546 m) :
    EvOut m s0 (execRelease a0 s) := by
  unfold execRelease
  repeat' (first
    | with_reducible assumption
    | exact Sub.trans hm rfl
    | with_reducible apply EvOut.next
    | with_reducible apply EvOut.ite
    | with_reducible apply ok_ev
    | with_reducible apply State.hopCmd_ev
    | with_reducible apply State.inHeld_ev
    | with_reducible apply Ev.ite
    | with_reducible apply Ev.fold
    | with_reducible apply Ev.elim
    | with_reducible apply Ev.getD
    | with_reducible apply Ev.iter
    | intro _
    | dsimp only
    | split)

theorem execReleasem_ev {m : Nat} {s0 : State} (a0 : Nat) {s : State} (h : Ev m s0 s) (hm : Sub 103112769546 m) :
    EvOut m s0 (execReleasem a0 s) := by
  unfold execReleasem
  repeat' (first
    | with_reducible assumption
    | exact Sub.trans hm rfl
    | with_reducible apply EvOut.next
    | with_reducible apply EvOut.ite
    | with_reducible apply ok_ev
    | with_reducible apply State.hopCmd_ev
    | with_reducible apply State.inHeld_ev
    | with_reducible apply Ev.ite
    | with_reducible apply Ev.fold
    | with_reducible apply Ev.elim
    | with_reducible apply Ev.getD
    | with_reducible apply Ev.iter
    | intro _
    | dsimp only
    | split)

theorem State.hopFlush_ev {m : Nat} {s0 : State} {s : State} (a1 : Nat) (h : Ev m s0 s) (hm : Sub 103079215114 m) :
    Ev m s0 (State.hopFlush s a1) := by
  unfold State.hopFlush
  repeat' (first
    | with_reducible assumption
    | exact Sub.trans hm rfl
    | with_reducible apply Ev.setHop
    | with_reducible apply State.hopMarks_ev
    | with_reducible apply State.count_ev
    | with_reducible apply State.sticky_ev
    | with_reducible apply Ev.ite
    | with_reducible apply Ev.fold
    | with_reducible apply Ev.elim
    | with_reducible apply Ev.getD
    | with_reducible apply Ev.iter
    | intro _
    | dsimp only
    | split)

theorem State.hopCtlWrite_ev {m : Nat} {s0 : State} {s : State} (a1 : Nat) (a2 : Sys2Proof.Word) (h : Ev m s0 s) (hm : Sub 103079215114 m) :
    Ev m s0 (State.hopCtlWrite s a1 a2) := by
  unfold State.hopCtlWrite
  repeat' (first
    | with_reducible assumption
    | exact Sub.trans hm rfl
    | with_reducible apply State.hopFlush_ev
    | with_reducible apply Ev.ite
    | with_reducible apply Ev.fold
    | with_reducible apply Ev.elim
    | with_reducible apply Ev.getD
    | with_reducible apply Ev.iter
    | intro _
    | dsimp only
    | split)

theorem execFlush_ev {m : Nat} {s0 : State} (a0 : Sys2Proof.FlushFrom) {s : State} (h : Ev m s0 s) (hm : Sub 103112769546 m) :
    EvOut m s0 (execFlush a0 s) := by
  unfold execFlush
  repeat' (first
    | with_reducible assumption
    | exact Sub.trans hm rfl
    | with_reducible apply EvOut.next
    | with_reducible apply EvOut.ite
    | with_reducible apply ok_ev
    | with_reducible apply State.hopCmd_ev
    | with_reducible apply State.hopFlush_ev
    | with_reducible apply State.guarded_ev
    | with_reducible apply Ev.ite
    | with_reducible apply Ev.fold
    | with_reducible apply Ev.elim
    | with_reducible apply Ev.getD
    | with_reducible apply Ev.iter
    | intro _
    | dsimp only
    | split)

theorem execHopperCmdNop_ev {m : Nat} {s0 : State} (a0 : Nat) {s : State} (h : Ev m s0 s) (hm : Sub 33554440 m) :
    EvOut m s0 (execHopperCmdNop a0 s) := by
  unfold execHopperCmdNop
  repeat' (first
    | with_reducible assumption
    | exact Sub.trans hm rfl
    | with_reducible apply EvOut.next
    | with_reducible apply EvOut.ite
    | with_reducible apply ok_ev
    | with_reducible apply State.hopCmd_ev
    | with_reducible apply Ev.ite
    | with_reducible apply Ev.fold
    | with_reducible apply Ev.elim
    | with_reducible apply Ev.getD
    | with_reducible apply Ev.iter
    | intro _
    | dsimp only
    | split)

theorem execHopperReservedCmd_ev {m : Nat} {s0 : State} (a0 : Nat) {s : State} (h : Ev m s0 s) (hm : Sub 33554440 m) :
    EvOut m s0 (execHopperReservedCmd a0 s) := by
  unfold execHopperReservedCmd
  repeat' (first
    | with_reducible assumption
    | exact Sub.trans hm rfl
    | with_reducible apply EvOut.next
    | with_reducible apply EvOut.ite
    | with_reducible apply ok_ev
    | with_reducible apply State.hopCmd_ev
    | with_reducible apply State.viol_ev
    | with_reducible apply Ev.ite
    | with_reducible apply Ev.fold
    | with_reducible apply Ev.elim
    | with_reducible apply Ev.getD
    | with_reducible apply Ev.iter
    | intro _
    | dsimp only
    | split)

theorem State.hopWmSet_ev {m : Nat} {s0 : State} {s : State} (a1 : Nat) (a2 : Sys2Proof.Word) (h : Ev m s0 s) (hm : Sub 103079215114 m) :
    Ev m s0 (State.hopWmSet s a1 a2) := by
  unfold State.hopWmSet
  repeat' (first
    | with_reducible assumption
    | exact Sub.trans hm rfl
    | with_reducible apply State.hopMarks_ev
    | with_reducible apply State.writePlain_ev
    | with_reducible apply Ev.ite
    | with_reducible apply Ev.fold
    | with_reducible apply Ev.elim
    | with_reducible apply Ev.getD
    | with_reducible apply Ev.iter
    | intro _
    | dsimp only
    | split)

theorem execHopWmWrite_ev {m : Nat} {s0 : State} (a0 : Sys2Proof.Issuer) (a1 : Fin 256) (a2 : Sys2Proof.Word) {s : State} (h : Ev m s0 s) (hm : Sub 103079215114 m) :
    EvOut m s0 (execHopWmWrite a0 a1 a2 s) := by
  unfold execHopWmWrite
  repeat' (first
    | with_reducible assumption
    | exact Sub.trans hm rfl
    | with_reducible apply EvOut.next
    | with_reducible apply EvOut.ite
    | with_reducible apply ok_ev
    | with_reducible apply State.guarded_ev
    | with_reducible apply State.hopWmSet_ev
    | with_reducible apply Ev.ite
    | with_reducible apply Ev.fold
    | with_reducible apply Ev.elim
    | with_reducible apply Ev.getD
    | with_reducible apply Ev.iter
    | intro _
    | dsimp only
    | split)

end Machine

end Sys2Proof
end

