-- ==== Sys2Proof/Laws/EvTally.lean ====
section
/-! SUPPORT. What each operation of Machine/Tally.lean can change, and that it keeps what no command may break (Laws/Evolve.lean). -/

set_option linter.unusedTactic false
set_option linter.unreachableTactic false
set_option linter.unusedVariables false

namespace Sys2Proof

open Machine

namespace Machine

theorem State.piCount_ev {m : Nat} {s0 : State} {s : State} (a1 : Nat) (a2 : ℤ) (h : Ev m s0 s) (hm : Sub 32 m) :
    Ev m s0 (State.piCount s a1 a2) := by
  unfold State.piCount
  repeat' (first
    | with_reducible assumption
    | exact Sub.trans hm rfl
    | with_reducible apply Ev.setTport
    | with_reducible apply Ev.ite
    | with_reducible apply Ev.fold
    | with_reducible apply Ev.elim
    | with_reducible apply Ev.getD
    | with_reducible apply Ev.iter
    | intro _
    | dsimp only
    | split)

theorem State.deliver_ev {m : Nat} {s0 : State} {s : State} (a1 : Nat) (a2 : Sys2Proof.Machine.Meas) (h : Ev m s0 s) (hm : Sub 64 m) :
    Ev m s0 (State.deliver s a1 a2) := by
  unfold State.deliver
  repeat' (first
    | with_reducible assumption
    | exact Sub.trans hm rfl
    | with_reducible apply Ev.each
    | with_reducible apply Ev.setTline
    | with_reducible apply Ev.ite
    | with_reducible apply Ev.fold
    | with_reducible apply Ev.elim
    | with_reducible apply Ev.getD
    | with_reducible apply Ev.iter
    | intro _
    | dsimp only
    | split)

theorem State.zeroCross_ev {m : Nat} {s0 : State} {s : State} (a1 : Nat) (a2 : Nat) (a3 : ℤ) (h : Ev m s0 s) (hm : Sub 104 m) :
    Ev m s0 (State.zeroCross s a1 a2 a3) := by
  unfold State.zeroCross
  repeat' (first
    | with_reducible assumption
    | exact Sub.trans hm rfl
    | with_reducible apply State.sticky_ev
    | with_reducible apply State.count_ev
    | with_reducible apply State.piCount_ev
    | with_reducible apply Ev.each
    | with_reducible apply Ev.setTline
    | with_reducible apply Ev.ite
    | with_reducible apply Ev.fold
    | with_reducible apply Ev.elim
    | with_reducible apply Ev.getD
    | with_reducible apply Ev.iter
    | intro _
    | dsimp only
    | split)

theorem State.counts_ev {m : Nat} {s0 : State} {s : State} (a1 : Nat) (a2 : ℤ) (a3 : ℤ) (h : Ev m s0 s) (hm : Sub 96 m) :
    Ev m s0 (State.counts s a1 a2 a3) := by
  unfold State.counts
  repeat' (first
    | with_reducible assumption
    | exact Sub.trans hm rfl
    | with_reducible apply State.piCount_ev
    | with_reducible apply State.deliver_ev
    | with_reducible apply Ev.ite
    | with_reducible apply Ev.fold
    | with_reducible apply Ev.elim
    | with_reducible apply Ev.getD
    | with_reducible apply Ev.iter
    | intro _
    | dsimp only
    | split)

theorem execPhaseInputEdge_ev {m : Nat} {s0 : State} (a0 : Fin 16) (a1 : BitVec 4) (a2 : Sys2Proof.Seen) (a3 : Bool) {s : State} (h : Ev m s0 s) (hm : Sub 106 m) :
    EvOut m s0 (execPhaseInputEdge a0 a1 a2 a3 s) := by
  unfold execPhaseInputEdge
  repeat' (first
    | with_reducible assumption
    | exact Sub.trans hm rfl
    | with_reducible apply EvOut.next
    | with_reducible apply EvOut.ite
    | with_reducible apply Ev.setTport
    | with_reducible apply ok_ev
    | with_reducible apply State.count_ev
    | with_reducible apply State.sticky_ev
    | with_reducible apply State.counts_ev
    | with_reducible apply State.bumpFree_ev
    | with_reducible apply State.zeroCross_ev
    | with_reducible apply Ev.ite
    | with_reducible apply Ev.fold
    | with_reducible apply Ev.elim
    | with_reducible apply Ev.getD
    | with_reducible apply Ev.iter
    | intro _
    | dsimp only
    | split)

theorem State.unlock_ev {m : Nat} {s0 : State} {s : State} (a1 : Nat) (h : Ev m s0 s) (hm : Sub 72 m) :
    Ev m s0 (State.unlock s a1) := by
  unfold State.unlock
  repeat' (first
    | with_reducible assumption
    | exact Sub.trans hm rfl
    | with_reducible apply State.sticky_ev
    | with_reducible apply Ev.setTline
    | with_reducible apply Ev.ite
    | with_reducible apply Ev.fold
    | with_reducible apply Ev.elim
    | with_reducible apply Ev.getD
    | with_reducible apply Ev.iter
    | intro _
    | dsimp only
    | split)

theorem State.acquire_ev {m : Nat} {s0 : State} {s : State} (a1 : Nat) (h : Ev m s0 s) (hm : Sub 72 m) :
    Ev m s0 (State.acquire s a1) := by
  unfold State.acquire
  repeat' (first
    | with_reducible assumption
    | exact Sub.trans hm rfl
    | with_reducible apply State.unlock_ev
    | with_reducible apply Ev.setTline
    | with_reducible apply Ev.ite
    | with_reducible apply Ev.fold
    | with_reducible apply Ev.elim
    | with_reducible apply Ev.getD
    | with_reducible apply Ev.iter
    | intro _
    | dsimp only
    | split)

theorem execIndexEdge_ev {m : Nat} {s0 : State} (a0 : Fin 16) (a1 : Sys2Proof.Seen) {s : State} (h : Ev m s0 s) (hm : Sub 104 m) :
    EvOut m s0 (execIndexEdge a0 a1 s) := by
  unfold execIndexEdge
  repeat' (first
    | with_reducible assumption
    | exact Sub.trans hm rfl
    | with_reducible apply EvOut.next
    | with_reducible apply EvOut.ite
    | with_reducible apply ok_ev
    | with_reducible apply Ev.setTport
    | with_reducible apply State.count_ev
    | with_reducible apply State.sticky_ev
    | with_reducible apply Ev.each
    | with_reducible apply State.unlock_ev
    | with_reducible apply Ev.setTline
    | with_reducible apply Ev.ite
    | with_reducible apply Ev.fold
    | with_reducible apply Ev.elim
    | with_reducible apply Ev.getD
    | with_reducible apply Ev.iter
    | intro _
    | dsimp only
    | split)

theorem State.ssiClock_ev {m : Nat} {s0 : State} {s : State} (a1 : Nat) (a2 : Bool) (h : Ev m s0 s) (hm : Sub 32 m) :
    Ev m s0 (State.ssiClock s a1 a2) := by
  unfold State.ssiClock
  repeat' (first
    | with_reducible assumption
    | exact Sub.trans hm rfl
    | with_reducible apply Ev.setTport
    | with_reducible apply Ev.ite
    | with_reducible apply Ev.fold
    | with_reducible apply Ev.elim
    | with_reducible apply Ev.getD
    | with_reducible apply Ev.iter
    | intro _
    | dsimp only
    | split)

theorem execSsiRequest_ev {m : Nat} {s0 : State} (a0 : Fin 16) (a1 : Nat) (a2 : Bool) {s : State} (h : Ev m s0 s) (hm : Sub 40 m) :
    EvOut m s0 (execSsiRequest a0 a1 a2 s) := by
  unfold execSsiRequest
  repeat' (first
    | with_reducible assumption
    | exact Sub.trans hm rfl
    | with_reducible apply EvOut.next
    | with_reducible apply EvOut.ite
    | with_reducible apply Ev.setTport
    | with_reducible apply State.ssiClock_ev
    | with_reducible apply ok_ev
    | with_reducible apply State.sticky_ev
    | with_reducible apply Ev.ite
    | with_reducible apply Ev.fold
    | with_reducible apply Ev.elim
    | with_reducible apply Ev.getD
    | with_reducible apply Ev.iter
    | intro _
    | dsimp only
    | split)

theorem State.sample_ev {m : Nat} {s0 : State} {s : State} (a1 : Nat) (a2 : Sys2Proof.Word) (a3 : ℤ) (h : Ev m s0 s) (hm : Sub 96 m) :
    Ev m s0 (State.sample s a1 a2 a3) := by
  unfold State.sample
  repeat' (first
    | with_reducible assumption
    | exact Sub.trans hm rfl
    | with_reducible apply Ev.setTport
    | with_reducible apply State.deliver_ev
    | with_reducible apply Ev.ite
    | with_reducible apply Ev.fold
    | with_reducible apply Ev.elim
    | with_reducible apply Ev.getD
    | with_reducible apply Ev.iter
    | intro _
    | dsimp only
    | split)

theorem execSsiFrame_ev {m : Nat} {s0 : State} (a0 : Fin 16) (a1 : Sys2Proof.Word) (a2 : Bool) {s : State} (h : Ev m s0 s) (hm : Sub 104 m) :
    EvOut m s0 (execSsiFrame a0 a1 a2 s) := by
  unfold execSsiFrame
  repeat' (first
    | with_reducible assumption
    | exact Sub.trans hm rfl
    | with_reducible apply EvOut.next
    | with_reducible apply EvOut.ite
    | with_reducible apply Ev.setTport
    | with_reducible apply State.ssiClock_ev
    | with_reducible apply ok_ev
    | with_reducible apply State.sticky_ev
    | with_reducible apply State.sample_ev
    | with_reducible apply Ev.ite
    | with_reducible apply Ev.fold
    | with_reducible apply Ev.elim
    | with_reducible apply Ev.getD
    | with_reducible apply Ev.iter
    | intro _
    | dsimp only
    | split)

theorem execFabricStreamMeasurement_ev {m : Nat} {s0 : State} (a0 : Fin 128) (a1 : Nat) {s : State} (h : Ev m s0 s) (hm : Sub 618970019642690137449562216 m) :
    EvOut m s0 (execFabricStreamMeasurement a0 a1 s) := by
  unfold execFabricStreamMeasurement
  repeat' (first
    | with_reducible assumption
    | exact Sub.trans hm rfl
    | with_reducible apply EvOut.next
    | with_reducible apply EvOut.ite
    | with_reducible apply ok_ev
    | with_reducible apply Ev.setUpf
    | with_reducible apply State.sticky_ev
    | with_reducible apply State.sample_ev
    | with_reducible apply Ev.ite
    | with_reducible apply Ev.fold
    | with_reducible apply Ev.elim
    | with_reducible apply Ev.getD
    | with_reducible apply Ev.iter
    | intro _
    | dsimp only
    | split)

theorem State.piWrite_ev {m : Nat} {s0 : State} {s : State} (a1 : Nat) (a2 : Nat) (a3 : Sys2Proof.Word) (h : Ev m s0 s) (hm : Sub 104 m) :
    Ev m s0 (State.piWrite s a1 a2 a3) := by
  unfold State.piWrite
  repeat' (first
    | with_reducible assumption
    | exact Sub.trans hm rfl
    | with_reducible apply State.writePlain_ev
    | with_reducible apply State.viol_ev
    | with_reducible apply Ev.rput
    | with_reducible apply Ev.setTport
    | with_reducible apply State.ssiClock_ev
    | with_reducible apply Ev.each
    | with_reducible apply State.acquire_ev
    | with_reducible apply Ev.ite
    | with_reducible apply Ev.fold
    | with_reducible apply Ev.elim
    | with_reducible apply Ev.getD
    | with_reducible apply Ev.iter
    | intro _
    | dsimp only
    | split)

theorem execTlyPortCfgWrite_ev {m : Nat} {s0 : State} (a0 : Sys2Proof.Issuer) (a1 : Fin 16) (a2 : Fin 9) (a3 : Sys2Proof.Word) {s : State} (h : Ev m s0 s) (hm : Sub 104 m) :
    EvOut m s0 (execTlyPortCfgWrite a0 a1 a2 a3 s) := by
  unfold execTlyPortCfgWrite
  repeat' (first
    | with_reducible assumption
    | exact Sub.trans hm rfl
    | with_reducible apply EvOut.next
    | with_reducible apply EvOut.ite
    | with_reducible apply ok_ev
    | with_reducible apply State.guarded_ev
    | with_reducible apply State.piWrite_ev
    | with_reducible apply Ev.ite
    | with_reducible apply Ev.fold
    | with_reducible apply Ev.elim
    | with_reducible apply Ev.getD
    | with_reducible apply Ev.iter
    | intro _
    | dsimp only
    | split)

theorem State.diffWrite_ev {m : Nat} {s0 : State} {s : State} (a1 : Sys2Proof.Word) (h : Ev m s0 s) (hm : Sub 8 m) :
    Ev m s0 (State.diffWrite s a1) := by
  unfold State.diffWrite
  repeat' (first
    | with_reducible assumption
    | exact Sub.trans hm rfl
    | with_reducible apply Ev.each
    | with_reducible apply State.viol_ev
    | with_reducible apply State.rsetb_ev
    | with_reducible apply Ev.ite
    | with_reducible apply Ev.fold
    | with_reducible apply Ev.elim
    | with_reducible apply Ev.getD
    | with_reducible apply Ev.iter
    | intro _
    | dsimp only
    | split)

theorem execTlyDiffWrite_ev {m : Nat} {s0 : State} (a0 : Sys2Proof.Issuer) (a1 : Sys2Proof.Word) {s : State} (h : Ev m s0 s) (hm : Sub 8 m) :
    EvOut m s0 (execTlyDiffWrite a0 a1 s) := by
  unfold execTlyDiffWrite
  repeat' (first
    | with_reducible assumption
    | exact Sub.trans hm rfl
    | with_reducible apply EvOut.next
    | with_reducible apply EvOut.ite
    | with_reducible apply ok_ev
    | with_reducible apply State.guarded_ev
    | with_reducible apply State.diffWrite_ev
    | with_reducible apply Ev.ite
    | with_reducible apply Ev.fold
    | with_reducible apply Ev.elim
    | with_reducible apply Ev.getD
    | with_reducible apply Ev.iter
    | intro _
    | dsimp only
    | split)

theorem State.tlyCtlWrite_ev {m : Nat} {s0 : State} {s : State} (a1 : Sys2Proof.Word) (h : Ev m s0 s) (hm : Sub 1032 m) :
    Ev m s0 (State.tlyCtlWrite s a1) := by
  unfold State.tlyCtlWrite
  repeat' (first
    | with_reducible assumption
    | exact Sub.trans hm rfl
    | with_reducible apply State.writePlain_ev
    | with_reducible apply Ev.ite
    | with_reducible apply Ev.fold
    | with_reducible apply Ev.elim
    | with_reducible apply Ev.getD
    | with_reducible apply Ev.iter
    | intro _
    | dsimp only
    | split
    | with_reducible apply Ev.set_calReq)

theorem execCalrun_ev {m : Nat} {s0 : State} (a0 : Sys2Proof.Issuer) {s : State} (h : Ev m s0 s) (hm : Sub 1032 m) :
    EvOut m s0 (execCalrun a0 s) := by
  unfold execCalrun
  repeat' (first
    | with_reducible assumption
    | exact Sub.trans hm rfl
    | with_reducible apply EvOut.next
    | with_reducible apply EvOut.ite
    | with_reducible apply ok_ev
    | with_reducible apply State.guarded_ev
    | with_reducible apply State.tlyCtlWrite_ev
    | with_reducible apply Ev.ite
    | with_reducible apply Ev.fold
    | with_reducible apply Ev.elim
    | with_reducible apply Ev.getD
    | with_reducible apply Ev.iter
    | intro _
    | dsimp only
    | split)

theorem execReflock_ev {m : Nat} {s0 : State} {s : State} (h : Ev m s0 s) (hm : Sub 8 m) :
    EvOut m s0 (execReflock s) := by
  unfold execReflock
  repeat' (first
    | with_reducible assumption
    | exact Sub.trans hm rfl
    | with_reducible apply EvOut.next
    | with_reducible apply EvOut.ite
    | with_reducible apply ok_ev
    | with_reducible apply State.sticky_ev
    | with_reducible apply Ev.ite
    | with_reducible apply Ev.fold
    | with_reducible apply Ev.elim
    | with_reducible apply Ev.getD
    | with_reducible apply Ev.iter
    | intro _
    | dsimp only
    | split)

theorem execSpineCalibration_ev {m : Nat} {s0 : State} (a0 : Fin 301) {s : State} (h : Ev m s0 s) (hm : Sub 1032 m) :
    EvOut m s0 (execSpineCalibration a0 s) := by
  unfold execSpineCalibration
  repeat' (first
    | with_reducible assumption
    | exact Sub.trans hm rfl
    | with_reducible apply EvOut.next
    | with_reducible apply EvOut.ite
    | with_reducible apply ok_ev
    | with_reducible apply State.sticky_ev
    | with_reducible apply State.rsetf_ev
    | with_reducible apply Ev.ite
    | with_reducible apply Ev.fold
    | with_reducible apply Ev.elim
    | with_reducible apply Ev.getD
    | with_reducible apply Ev.iter
    | intro _
    | dsimp only
    | split
    | with_reducible apply Ev.set_calReq)

theorem State.ptpTick_ev {m : Nat} {s0 : State} {s : State} (h : Ev m s0 s) (hm : Sub 896 m) :
    Ev m s0 (State.ptpTick s) := by
  unfold State.ptpTick
  repeat' (first
    | with_reducible assumption
    | exact Sub.trans hm rfl
    | with_reducible apply Ev.ite
    | with_reducible apply Ev.fold
    | with_reducible apply Ev.elim
    | with_reducible apply Ev.getD
    | with_reducible apply Ev.iter
    | intro _
    | dsimp only
    | split
    | with_reducible apply Ev.set_ptp_ptpGo_ptpMark)

theorem State.lineTick_ev {m : Nat} {s0 : State} {s : State} (a1 : Nat) (h : Ev m s0 s) (hm : Sub 74 m) :
    EvPair m s0 (State.lineTick s a1) := by
  unfold State.lineTick
  repeat' (first
    | with_reducible assumption
    | exact Sub.trans hm rfl
    | with_reducible apply EvPair.pair
    | with_reducible apply EvPair.ite
    | with_reducible apply State.acquire_ev
    | with_reducible apply Ev.setTline
    | with_reducible apply State.bumpFree_ev
    | with_reducible apply State.sticky_ev
    | with_reducible apply Ev.ite
    | with_reducible apply Ev.fold
    | with_reducible apply Ev.elim
    | with_reducible apply Ev.getD
    | with_reducible apply Ev.iter
    | intro _
    | dsimp only
    | split)

theorem State.lineTick_evq {m : Nat} {s0 : State} {t : State} {s : State} {a1 : Nat} {b : _} (e : (State.lineTick s a1) = (t, b)) (h : Ev m s0 s) (hm : Sub 74 m) : Ev m s0 t := by
  have := State.lineTick_ev a1 h hm
  rw [e] at this; exact this.get

theorem State.lineTick_ev1 {m : Nat} {s0 : State} {s : State} (a1 : Nat) (h : Ev m s0 s) (hm : Sub 74 m) : Ev m s0 (State.lineTick s a1).1 := (State.lineTick_ev a1 h hm).get

theorem State.linesTick_ev {m : Nat} {s0 : State} {s : State} (a1 : List Nat) (h : Ev m s0 s) (hm : Sub 74 m) :
    EvPair m s0 (State.linesTick s a1) := by
  induction a1 generalizing s with
  | nil => first | exact h | exact EvPair.pair _ h
  | cons x l ih =>
  unfold State.linesTick
  repeat' (first
    | with_reducible exact (ih ‹_›).get
    | with_reducible apply ih
    | with_reducible refine ⟨(ih ?_).get⟩
    | with_reducible refine ⟨?_⟩
    | with_reducible refine (ih ?_).get
    | with_reducible assumption
    | exact Sub.trans hm rfl
    | with_reducible apply EvPair.pair
    | with_reducible apply EvPair.ite
    | with_reducible apply State.lineTick_ev
    | with_reducible apply State.lineTick_ev1
    | with_reducible refine State.lineTick_evq ‹_› ?_ ?_
    | with_reducible apply Ev.ite
    | with_reducible apply Ev.fold
    | with_reducible apply Ev.elim
    | with_reducible apply Ev.getD
    | with_reducible apply Ev.iter
    | intro _
    | dsimp only
    | split)

theorem State.linesTick_evq {m : Nat} {s0 : State} {t : State} {s : State} {a1 : List Nat} {b : _} (e : (State.linesTick s a1) = (t, b)) (h : Ev m s0 s) (hm : Sub 74 m) : Ev m s0 t := by
  have := State.linesTick_ev a1 h hm
  rw [e] at this; exact this.get

theorem State.linesTick_ev1 {m : Nat} {s0 : State} {s : State} (a1 : List Nat) (h : Ev m s0 s) (hm : Sub 74 m) : Ev m s0 (State.linesTick s a1).1 := (State.linesTick_ev a1 h hm).get

theorem State.wdgTick_ev {m : Nat} {s0 : State} {s : State} (h : Ev m s0 s) (hm : Sub 18889465931478580854784 m) :
    Ev m s0 (State.wdgTick s) := by
  unfold State.wdgTick
  repeat' (first
    | with_reducible assumption
    | exact Sub.trans hm rfl
    | with_reducible apply Ev.each
    | with_reducible apply Ev.setWdg
    | with_reducible apply Ev.ite
    | with_reducible apply Ev.fold
    | with_reducible apply Ev.elim
    | with_reducible apply Ev.getD
    | with_reducible apply Ev.iter
    | intro _
    | dsimp only
    | split)

theorem execSpineTick_ev {m : Nat} {s0 : State} {s : State} (h : Ev m s0 s) (hm : Sub 18889465931478580861902 m) :
    EvOut m s0 (execSpineTick s) := by
  unfold execSpineTick
  repeat' (first
    | with_reducible assumption
    | exact Sub.trans hm rfl
    | with_reducible apply EvOut.next
    | with_reducible apply EvOut.ite
    | with_reducible apply State.wdgTick_ev
    | with_reducible apply State.ptpTick_ev
    | with_reducible apply State.linesTick_ev
    | with_reducible apply State.linesTick_ev1
    | with_reducible apply ok_ev
    | with_reducible refine State.linesTick_evq ‹_› ?_ ?_
    | with_reducible apply Ev.ite
    | with_reducible apply Ev.fold
    | with_reducible apply Ev.elim
    | with_reducible apply Ev.getD
    | with_reducible apply Ev.iter
    | intro _
    | dsimp only
    | split
    | with_reducible apply Ev.set_time
    | with_reducible apply Ev.set_ptpMark_interval_frames)

theorem execStandstillTimeout_ev {m : Nat} {s0 : State} (a0 : Fin 8) {s : State} (h : Ev m s0 s) (hm : Sub 72 m) :
    EvOut m s0 (execStandstillTimeout a0 s) := by
  unfold execStandstillTimeout
  repeat' (first
    | with_reducible assumption
    | exact Sub.trans hm rfl
    | with_reducible apply EvOut.next
    | with_reducible apply EvOut.ite
    | with_reducible apply Ev.setTline
    | with_reducible apply ok_ev
    | with_reducible apply State.unlock_ev
    | with_reducible apply Ev.ite
    | with_reducible apply Ev.fold
    | with_reducible apply Ev.elim
    | with_reducible apply Ev.getD
    | with_reducible apply Ev.iter
    | intro _
    | dsimp only
    | split)

theorem State.insertCount_ev {m : Nat} {s0 : State} {s : State} (a1 : Nat) (a2 : Nat) (h : Ev m s0 s) (hm : Sub 96 m) :
    Ev m s0 (State.insertCount s a1 a2) := by
  unfold State.insertCount
  repeat' (first
    | with_reducible assumption
    | exact Sub.trans hm rfl
    | with_reducible apply State.piCount_ev
    | with_reducible apply Ev.setTline
    | with_reducible apply Ev.ite
    | with_reducible apply Ev.fold
    | with_reducible apply Ev.elim
    | with_reducible apply Ev.getD
    | with_reducible apply Ev.iter
    | intro _
    | dsimp only
    | split)

theorem execMissingPulse_ev {m : Nat} {s0 : State} (a0 : Fin 8) {s : State} (h : Ev m s0 s) (hm : Sub 104 m) :
    EvOut m s0 (execMissingPulse a0 s) := by
  unfold execMissingPulse
  repeat' (first
    | with_reducible assumption
    | exact Sub.trans hm rfl
    | with_reducible apply EvOut.next
    | with_reducible apply EvOut.ite
    | with_reducible apply State.insertCount_ev
    | with_reducible apply Ev.setTline
    | with_reducible apply State.count_ev
    | with_reducible apply State.sticky_ev
    | with_reducible apply ok_ev
    | with_reducible apply State.unlock_ev
    | with_reducible apply Ev.ite
    | with_reducible apply Ev.fold
    | with_reducible apply Ev.elim
    | with_reducible apply Ev.getD
    | with_reducible apply Ev.iter
    | intro _
    | dsimp only
    | split)

theorem State.plCtlWrite_ev {m : Nat} {s0 : State} {s : State} (a1 : Nat) (a2 : Sys2Proof.Word) (h : Ev m s0 s) (hm : Sub 72 m) :
    Ev m s0 (State.plCtlWrite s a1 a2) := by
  unfold State.plCtlWrite
  repeat' (first
    | with_reducible assumption
    | exact Sub.trans hm rfl
    | with_reducible apply State.writePlain_ev
    | with_reducible apply Ev.setTline
    | with_reducible apply Ev.ite
    | with_reducible apply Ev.fold
    | with_reducible apply Ev.elim
    | with_reducible apply Ev.getD
    | with_reducible apply Ev.iter
    | intro _
    | dsimp only
    | split)

theorem execLineEnable_ev {m : Nat} {s0 : State} (a0 : Sys2Proof.Issuer) (a1 : Fin 8) (a2 : Sys2Proof.Word) {s : State} (h : Ev m s0 s) (hm : Sub 72 m) :
    EvOut m s0 (execLineEnable a0 a1 a2 s) := by
  unfold execLineEnable
  repeat' (first
    | with_reducible assumption
    | exact Sub.trans hm rfl
    | with_reducible apply EvOut.next
    | with_reducible apply EvOut.ite
    | with_reducible apply ok_ev
    | with_reducible apply State.guarded_ev
    | with_reducible apply State.plCtlWrite_ev
    | with_reducible apply Ev.ite
    | with_reducible apply Ev.fold
    | with_reducible apply Ev.elim
    | with_reducible apply Ev.getD
    | with_reducible apply Ev.iter
    | intro _
    | dsimp only
    | split)

theorem execCommit_ev {m : Nat} {s0 : State} (a0 : Sys2Proof.Issuer) (a1 : Fin 8) {s : State} (h : Ev m s0 s) (hm : Sub 72 m) :
    EvOut m s0 (execCommit a0 a1 s) := by
  unfold execCommit
  repeat' (first
    | with_reducible assumption
    | exact Sub.trans hm rfl
    | with_reducible apply EvOut.next
    | with_reducible apply EvOut.ite
    | with_reducible apply ok_ev
    | with_reducible apply State.guarded_ev
    | with_reducible apply State.plCtlWrite_ev
    | with_reducible apply Ev.ite
    | with_reducible apply Ev.fold
    | with_reducible apply Ev.elim
    | with_reducible apply Ev.getD
    | with_reducible apply Ev.iter
    | intro _
    | dsimp only
    | split)

theorem State.applyStaged_ev {m : Nat} {s0 : State} {s : State} (a1 : Nat) (h : Ev m s0 s) (hm : Sub 72 m) :
    Ev m s0 (State.applyStaged s a1) := by
  unfold State.applyStaged
  repeat' (first
    | with_reducible assumption
    | exact Sub.trans hm rfl
    | with_reducible apply Ev.setTline
    | with_reducible apply State.acquire_ev
    | with_reducible apply Ev.ite
    | with_reducible apply Ev.fold
    | with_reducible apply Ev.elim
    | with_reducible apply Ev.getD
    | with_reducible apply Ev.iter
    | intro _
    | dsimp only
    | split)

theorem execCommitApply_ev {m : Nat} {s0 : State} (a0 : Fin 8) {s : State} (h : Ev m s0 s) (hm : Sub 72 m) :
    EvOut m s0 (execCommitApply a0 s) := by
  unfold execCommitApply
  repeat' (first
    | with_reducible assumption
    | exact Sub.trans hm rfl
    | with_reducible apply EvOut.next
    | with_reducible apply EvOut.ite
    | with_reducible apply ok_ev
    | with_reducible apply State.applyStaged_ev
    | with_reducible apply Ev.ite
    | with_reducible apply Ev.fold
    | with_reducible apply Ev.elim
    | with_reducible apply Ev.getD
    | with_reducible apply Ev.iter
    | intro _
    | dsimp only
    | split)

theorem State.holdWrite_ev {m : Nat} {s0 : State} {s : State} (a1 : Nat) (a2 : Sys2Proof.Word) (h : Ev m s0 s) (hm : Sub 72 m) :
    Ev m s0 (State.holdWrite s a1 a2) := by
  unfold State.holdWrite
  repeat' (first
    | with_reducible assumption
    | exact Sub.trans hm rfl
    | with_reducible apply State.writePlain_ev
    | with_reducible apply Ev.setTline
    | with_reducible apply Ev.ite
    | with_reducible apply Ev.fold
    | with_reducible apply Ev.elim
    | with_reducible apply Ev.getD
    | with_reducible apply Ev.iter
    | intro _
    | dsimp only
    | split)

theorem execHold_ev {m : Nat} {s0 : State} (a0 : Sys2Proof.Issuer) (a1 : Fin 8) (a2 : Sys2Proof.Word) {s : State} (h : Ev m s0 s) (hm : Sub 72 m) :
    EvOut m s0 (execHold a0 a1 a2 s) := by
  unfold execHold
  repeat' (first
    | with_reducible assumption
    | exact Sub.trans hm rfl
    | with_reducible apply EvOut.next
    | with_reducible apply EvOut.ite
    | with_reducible apply ok_ev
    | with_reducible apply State.guarded_ev
    | with_reducible apply State.holdWrite_ev
    | with_reducible apply Ev.ite
    | with_reducible apply Ev.fold
    | with_reducible apply Ev.elim
    | with_reducible apply Ev.getD
    | with_reducible apply Ev.iter
    | intro _
    | dsimp only
    | split)

end Machine

end Sys2Proof
end

