-- ==== Sys2Proof/Laws/EvFerries.lean ====
section
/-! SUPPORT. What each operation of Machine/Ferries.lean can change, and that it keeps what no command may break (Laws/Evolve.lean). -/

set_option linter.unusedTactic false
set_option linter.unreachableTactic false
set_option linter.unusedVariables false

namespace Sys2Proof

open Machine

namespace Machine

theorem State.ferryCode_ev {m : Nat} {s0 : State} {s : State} (a1 : Nat) (a2 : BitVec 17) (h : Ev m s0 s) (hm : Sub 288231039631982602 m) :
    Ev m s0 (State.ferryCode s a1 a2) := by
  unfold State.ferryCode
  repeat' (first
    | with_reducible assumption
    | exact Sub.trans hm rfl
    | with_reducible apply State.codeReport_ev
    | with_reducible apply Ev.ite
    | with_reducible apply Ev.fold
    | with_reducible apply Ev.elim
    | with_reducible apply Ev.getD
    | with_reducible apply Ev.iter
    | intro _
    | dsimp only
    | split)

theorem execUpFerryToken_ev {m : Nat} {s0 : State} (a0 : Sys2Proof.Coded (Fin 128)) {s : State} (h : Ev m s0 s) (hm : Sub 618970019930921177081806858 m) :
    EvOut m s0 (execUpFerryToken a0 s) := by
  unfold execUpFerryToken
  repeat' (first
    | with_reducible assumption
    | exact Sub.trans hm rfl
    | with_reducible apply EvOut.next
    | with_reducible apply EvOut.ite
    | with_reducible apply ok_ev
    | with_reducible apply State.ferryCode_ev
    | with_reducible apply Ev.setChan
    | with_reducible apply Ev.setUpf
    | with_reducible apply Ev.ite
    | with_reducible apply Ev.fold
    | with_reducible apply Ev.elim
    | with_reducible apply Ev.getD
    | with_reducible apply Ev.iter
    | intro _
    | dsimp only
    | split)

theorem pulseIn_ev {m : Nat} {s0 : State} {s : State} (a1 : Sys2Proof.Machine.Ferry) (a2 : Sys2Proof.Machine.Reg) (a3 : Bool) (a4 : State → Sys2Proof.Machine.Ferry → State) (h : Ev m s0 s) (hm : Sub 8 m) (ha4 : ∀ t0 y1, Ev m s0 t0 → Ev m s0 (a4 t0 y1)) :
    Ev m s0 (pulseIn s a1 a2 a3 a4) := by
  unfold pulseIn
  repeat' (first
    | with_reducible assumption
    | exact Sub.trans hm rfl
    | with_reducible apply State.sticky_ev
    | with_reducible apply State.rsetf_ev
    | with_reducible apply Ev.ite
    | with_reducible apply ha4
    | with_reducible apply Ev.fold
    | with_reducible apply Ev.elim
    | with_reducible apply Ev.getD
    | with_reducible apply Ev.iter
    | intro _
    | dsimp only
    | split)

theorem execPulseToken_ev {m : Nat} {s0 : State} (a0 : Sys2Proof.Coded (Fin 128)) {s : State} (h : Ev m s0 s) (hm : Sub 618970019930921177081806858 m) :
    EvOut m s0 (execPulseToken a0 s) := by
  unfold execPulseToken
  repeat' (first
    | with_reducible assumption
    | exact Sub.trans hm rfl
    | with_reducible apply EvOut.next
    | with_reducible apply EvOut.ite
    | with_reducible apply ok_ev
    | with_reducible apply pulseIn_ev
    | with_reducible apply State.ferryCode_ev
    | with_reducible apply Ev.setChan
    | with_reducible apply Ev.setUpf
    | with_reducible apply Ev.ite
    | with_reducible apply Ev.fold
    | with_reducible apply Ev.elim
    | with_reducible apply Ev.getD
    | with_reducible apply Ev.iter
    | intro _
    | dsimp only
    | split)

theorem pulseNext_ev {m : Nat} {s0 : State} {s : State} (a1 : Sys2Proof.Machine.Ferry) (a2 : Sys2Proof.Machine.Reg) (a3 : State → Sys2Proof.Machine.Ferry → State) (h : Ev m s0 s) (hm : Sub 8 m) (ha3 : ∀ t0 y1, Ev m s0 t0 → Ev m s0 (a3 t0 y1)) :
    Ev m s0 (pulseNext s a1 a2 a3) := by
  unfold pulseNext
  repeat' (first
    | with_reducible assumption
    | exact Sub.trans hm rfl
    | with_reducible apply State.rsetf_ev
    | with_reducible apply Ev.ite
    | with_reducible apply ha3
    | with_reducible apply Ev.fold
    | with_reducible apply Ev.elim
    | with_reducible apply Ev.getD
    | with_reducible apply Ev.iter
    | intro _
    | dsimp only
    | split)

theorem State.upCross_ev {m : Nat} {s0 : State} {s : State} (a1 : Nat) (h : Ev m s0 s) (hm : Sub 618970019642690137449562120 m) :
    Ev m s0 (State.upCross s a1) := by
  unfold State.upCross
  repeat' (first
    | with_reducible assumption
    | exact Sub.trans hm rfl
    | with_reducible apply Ev.rput
    | with_reducible apply Ev.setUpf
    | with_reducible apply pulseNext_ev
    | with_reducible apply Ev.ite
    | with_reducible apply Ev.fold
    | with_reducible apply Ev.elim
    | with_reducible apply Ev.getD
    | with_reducible apply Ev.iter
    | intro _
    | dsimp only
    | split)

theorem State.dnCross_ev {m : Nat} {s0 : State} {s : State} (a1 : Nat) (h : Ev m s0 s) (hm : Sub 1237940039285380274899124224 m) :
    Ev m s0 (State.dnCross s a1) := by
  unfold State.dnCross
  repeat' (first
    | with_reducible assumption
    | exact Sub.trans hm rfl
    | with_reducible apply Ev.setDnf
    | with_reducible apply Ev.ite
    | with_reducible apply Ev.fold
    | with_reducible apply Ev.elim
    | with_reducible apply Ev.getD
    | with_reducible apply Ev.iter
    | intro _
    | dsimp only
    | split)

theorem execFerryTransferComplete_ev {m : Nat} {s0 : State} (a0 : Sys2Proof.FerryRef) {s : State} (h : Ev m s0 s) (hm : Sub 1856910058928070412348686344 m) :
    EvOut m s0 (execFerryTransferComplete a0 s) := by
  unfold execFerryTransferComplete
  repeat' (first
    | with_reducible assumption
    | exact Sub.trans hm rfl
    | with_reducible apply EvOut.next
    | with_reducible apply EvOut.ite
    | with_reducible apply ok_ev
    | with_reducible apply State.upCross_ev
    | with_reducible apply State.dnCross_ev
    | with_reducible apply Ev.ite
    | with_reducible apply Ev.fold
    | with_reducible apply Ev.elim
    | with_reducible apply Ev.getD
    | with_reducible apply Ev.iter
    | intro _
    | dsimp only
    | split)

theorem execUnsettled_ev {m : Nat} {s0 : State} (a0 : Sys2Proof.FerryRef) {s : State} (h : Ev m s0 s) (hm : Sub 8 m) :
    EvOut m s0 (execUnsettled a0 s) := by
  unfold execUnsettled
  repeat' (first
    | with_reducible assumption
    | exact Sub.trans hm rfl
    | with_reducible apply EvOut.next
    | with_reducible apply EvOut.ite
    | with_reducible apply ok_ev
    | with_reducible apply State.sticky_ev
    | with_reducible apply Ev.ite
    | with_reducible apply Ev.fold
    | with_reducible apply Ev.elim
    | with_reducible apply Ev.getD
    | with_reducible apply Ev.iter
    | intro _
    | dsimp only
    | split)

theorem State.pulseGo_ev {m : Nat} {s0 : State} {s : State} (a1 : Nat) (a2 : Sys2Proof.Word) (h : Ev m s0 s) (hm : Sub 1237940039285380274899124232 m) :
    Ev m s0 (State.pulseGo s a1 a2) := by
  unfold State.pulseGo
  repeat' (first
    | with_reducible assumption
    | exact Sub.trans hm rfl
    | with_reducible apply pulseIn_ev
    | with_reducible apply Ev.setDnf
    | with_reducible apply Ev.ite
    | with_reducible apply Ev.fold
    | with_reducible apply Ev.elim
    | with_reducible apply Ev.getD
    | with_reducible apply Ev.iter
    | intro _
    | dsimp only
    | split)

theorem execPulseWrite_ev {m : Nat} {s0 : State} (a0 : Sys2Proof.Issuer) (a1 : Fin 128) (a2 : Sys2Proof.Word) {s : State} (h : Ev m s0 s) (hm : Sub 1237940039285380274899124232 m) :
    EvOut m s0 (execPulseWrite a0 a1 a2 s) := by
  unfold execPulseWrite
  repeat' (first
    | with_reducible assumption
    | exact Sub.trans hm rfl
    | with_reducible apply EvOut.next
    | with_reducible apply EvOut.ite
    | with_reducible apply ok_ev
    | with_reducible apply State.guarded_ev
    | with_reducible apply State.pulseGo_ev
    | with_reducible apply Ev.ite
    | with_reducible apply Ev.fold
    | with_reducible apply Ev.elim
    | with_reducible apply Ev.getD
    | with_reducible apply Ev.iter
    | intro _
    | dsimp only
    | split)

theorem State.rxPop_ev {m : Nat} {s0 : State} {s : State} (a1 : Nat) (h : Ev m s0 s) (hm : Sub 8 m) :
    Ev m s0 (State.rxPop s a1) := by
  unfold State.rxPop
  repeat' (first
    | with_reducible assumption
    | exact Sub.trans hm rfl
    | with_reducible apply Ev.rput
    | with_reducible apply Ev.ite
    | with_reducible apply Ev.fold
    | with_reducible apply Ev.elim
    | with_reducible apply Ev.getD
    | with_reducible apply Ev.iter
    | intro _
    | dsimp only
    | split)

theorem execRxRead_ev {m : Nat} {s0 : State} (a0 : Sys2Proof.Issuer) (a1 : Fin 128) {s : State} (h : Ev m s0 s) (hm : Sub 24 m) :
    EvOut m s0 (execRxRead a0 a1 s) := by
  unfold execRxRead
  repeat' (first
    | with_reducible assumption
    | exact Sub.trans hm rfl
    | with_reducible apply EvOut.next
    | with_reducible apply EvOut.ite
    | with_reducible apply ok_ev
    | with_reducible apply State.rxPop_ev
    | with_reducible apply Ev.ite
    | with_reducible apply Ev.fold
    | with_reducible apply Ev.elim
    | with_reducible apply Ev.getD
    | with_reducible apply Ev.iter
    | intro _
    | dsimp only
    | split
    | with_reducible apply Ev.set_rdata)

theorem State.txPut_ev {m : Nat} {s0 : State} {s : State} (a1 : Nat) (a2 : BitVec 64) (h : Ev m s0 s) (hm : Sub 1237940039285380274899124232 m) :
    Ev m s0 (State.txPut s a1 a2) := by
  unfold State.txPut
  repeat' (first
    | with_reducible assumption
    | exact Sub.trans hm rfl
    | with_reducible apply Ev.setDnf
    | with_reducible apply State.sticky_ev
    | with_reducible apply Ev.ite
    | with_reducible apply Ev.fold
    | with_reducible apply Ev.elim
    | with_reducible apply Ev.getD
    | with_reducible apply Ev.iter
    | intro _
    | dsimp only
    | split)

theorem execTxWrite_ev {m : Nat} {s0 : State} (a0 : Sys2Proof.Issuer) (a1 : Fin 128) (a2 : BitVec 64) {s : State} (h : Ev m s0 s) (hm : Sub 1237940039285380274899124232 m) :
    EvOut m s0 (execTxWrite a0 a1 a2 s) := by
  unfold execTxWrite
  repeat' (first
    | with_reducible assumption
    | exact Sub.trans hm rfl
    | with_reducible apply EvOut.next
    | with_reducible apply EvOut.ite
    | with_reducible apply ok_ev
    | with_reducible apply State.guarded_ev
    | with_reducible apply State.txPut_ev
    | with_reducible apply Ev.ite
    | with_reducible apply Ev.fold
    | with_reducible apply Ev.elim
    | with_reducible apply Ev.getD
    | with_reducible apply Ev.iter
    | intro _
    | dsimp only
    | split)

theorem State.upCfg_ev {m : Nat} {s0 : State} {s : State} (a1 : Nat) (a2 : Sys2Proof.Word) (h : Ev m s0 s) (hm : Sub 8 m) :
    Ev m s0 (State.upCfg s a1 a2) := by
  unfold State.upCfg
  repeat' (first
    | with_reducible assumption
    | exact Sub.trans hm rfl
    | with_reducible apply Ev.rput
    | with_reducible apply State.viol_ev
    | with_reducible apply Ev.ite
    | with_reducible apply Ev.fold
    | with_reducible apply Ev.elim
    | with_reducible apply Ev.getD
    | with_reducible apply Ev.iter
    | intro _
    | dsimp only
    | split)

theorem State.dnCfg_ev {m : Nat} {s0 : State} {s : State} (a1 : Nat) (a2 : Sys2Proof.Word) (h : Ev m s0 s) (hm : Sub 8 m) :
    Ev m s0 (State.dnCfg s a1 a2) := by
  unfold State.dnCfg
  repeat' (first
    | with_reducible assumption
    | exact Sub.trans hm rfl
    | with_reducible apply Ev.rput
    | with_reducible apply State.viol_ev
    | with_reducible apply Ev.ite
    | with_reducible apply Ev.fold
    | with_reducible apply Ev.elim
    | with_reducible apply Ev.getD
    | with_reducible apply Ev.iter
    | intro _
    | dsimp only
    | split)

theorem execFerryCfgWrite_ev {m : Nat} {s0 : State} (a0 : Sys2Proof.Issuer) (a1 : Sys2Proof.FerryRef) (a2 : Sys2Proof.Word) {s : State} (h : Ev m s0 s) (hm : Sub 8 m) :
    EvOut m s0 (execFerryCfgWrite a0 a1 a2 s) := by
  unfold execFerryCfgWrite
  repeat' (first
    | with_reducible assumption
    | exact Sub.trans hm rfl
    | with_reducible apply EvOut.next
    | with_reducible apply EvOut.ite
    | with_reducible apply ok_ev
    | with_reducible apply State.guarded_ev
    | with_reducible apply State.upCfg_ev
    | with_reducible apply State.dnCfg_ev
    | with_reducible apply Ev.ite
    | with_reducible apply Ev.fold
    | with_reducible apply Ev.elim
    | with_reducible apply Ev.getD
    | with_reducible apply Ev.iter
    | intro _
    | dsimp only
    | split)

end Machine

end Sys2Proof
end

