-- ==== Sys2Proof/Laws/EvChoval.lean ====
section
/-! SUPPORT. What each operation of Machine/Choval.lean can change, and that it keeps what no command may break (Laws/Evolve.lean). -/

set_option linter.unusedTactic false
set_option linter.unreachableTactic false
set_option linter.unusedVariables false

namespace Sys2Proof

open Machine

namespace Machine

theorem State.unreach_ev {m : Nat} {s0 : State} {s : State} (h : Ev m s0 s) (hm : Sub 8 m) :
    Ev m s0 (State.unreach s) := by
  unfold State.unreach
  repeat' (first
    | with_reducible assumption
    | exact Sub.trans hm rfl
    | with_reducible apply State.count_ev
    | with_reducible apply State.sticky_ev
    | with_reducible apply Ev.ite
    | with_reducible apply Ev.fold
    | with_reducible apply Ev.elim
    | with_reducible apply Ev.getD
    | with_reducible apply Ev.iter
    | intro _
    | dsimp only
    | split)

theorem State.dropMsg_ev {m : Nat} {s0 : State} {s : State} (h : Ev m s0 s) (hm : Sub 8 m) :
    Ev m s0 (State.dropMsg s) := by
  unfold State.dropMsg
  repeat' (first
    | with_reducible assumption
    | exact Sub.trans hm rfl
    | with_reducible apply State.count_ev
    | with_reducible apply Ev.ite
    | with_reducible apply Ev.fold
    | with_reducible apply Ev.elim
    | with_reducible apply Ev.getD
    | with_reducible apply Ev.iter
    | intro _
    | dsimp only
    | split)

theorem State.queueMsg_ev {m : Nat} {s0 : State} {s : State} (a1 : Nat) (a2 : Nat) (a3 : Sys2Proof.Machine.Msg) (h : Ev m s0 s) (hm : Sub 1099511627776 m) :
    Ev m s0 (State.queueMsg s a1 a2 a3) := by
  unfold State.queueMsg
  repeat' (first
    | with_reducible assumption
    | exact Sub.trans hm rfl
    | with_reducible apply Ev.setClink
    | with_reducible apply Ev.ite
    | with_reducible apply Ev.fold
    | with_reducible apply Ev.elim
    | with_reducible apply Ev.getD
    | with_reducible apply Ev.iter
    | intro _
    | dsimp only
    | split)

theorem State.takeReply_ev {m : Nat} {s0 : State} {s : State} (a1 : Sys2Proof.Machine.Msg) (a2 : Sys2Proof.Machine.AKind) (h : Ev m s0 s) (hm : Sub 8796126576648 m) :
    Ev m s0 (State.takeReply s a1 a2) := by
  unfold State.takeReply
  repeat' (first
    | with_reducible assumption
    | exact Sub.trans hm rfl
    | with_reducible apply State.count_ev
    | with_reducible apply State.answer_ev
    | with_reducible apply Ev.ite
    | with_reducible apply Ev.fold
    | with_reducible apply Ev.elim
    | with_reducible apply Ev.getD
    | with_reducible apply Ev.iter
    | intro _
    | dsimp only
    | split
    | with_reducible apply Ev.set_lateTags)

theorem State.sendReply_ev {m : Nat} {s0 : State} {s : State} (a1 : Nat) (a2 : Sys2Proof.Machine.Msg) (h : Ev m s0 s) (hm : Sub 9895638204424 m) :
    Ev m s0 (State.sendReply s a1 a2) := by
  unfold State.sendReply
  repeat' (first
    | with_reducible assumption
    | exact Sub.trans hm rfl
    | with_reducible apply State.takeReply_ev
    | with_reducible apply State.queueMsg_ev
    | with_reducible apply State.dropMsg_ev
    | with_reducible apply State.viol_ev
    | with_reducible apply Ev.ite
    | with_reducible apply Ev.fold
    | with_reducible apply Ev.elim
    | with_reducible apply Ev.getD
    | with_reducible apply Ev.iter
    | intro _
    | dsimp only
    | split)

theorem State.notSent_ev {m : Nat} {s0 : State} {s : State} (a1 : Nat) (a2 : Sys2Proof.Machine.Msg) (h : Ev m s0 s) (hm : Sub 9895638204424 m) :
    Ev m s0 (State.notSent s a1 a2) := by
  unfold State.notSent
  repeat' (first
    | with_reducible assumption
    | exact Sub.trans hm rfl
    | with_reducible apply State.sendReply_ev
    | with_reducible apply State.unreach_ev
    | with_reducible apply State.dropMsg_ev
    | with_reducible apply Ev.ite
    | with_reducible apply Ev.fold
    | with_reducible apply Ev.elim
    | with_reducible apply Ev.getD
    | with_reducible apply Ev.iter
    | intro _
    | dsimp only
    | split)

theorem State.forward_ev {m : Nat} {s0 : State} {s : State} (a1 : Option Nat) (a2 : Nat) (a3 : Sys2Proof.Machine.Msg) (h : Ev m s0 s) (hm : Sub 9895638204424 m) :
    Ev m s0 (State.forward s a1 a2 a3) := by
  unfold State.forward
  repeat' (first
    | with_reducible assumption
    | exact Sub.trans hm rfl
    | with_reducible apply State.viol_ev
    | with_reducible apply State.sendReply_ev
    | with_reducible apply State.notSent_ev
    | with_reducible apply State.dropMsg_ev
    | with_reducible apply State.queueMsg_ev
    | with_reducible apply Ev.ite
    | with_reducible apply Ev.fold
    | with_reducible apply Ev.elim
    | with_reducible apply Ev.getD
    | with_reducible apply Ev.iter
    | intro _
    | dsimp only
    | split)

theorem State.giveUp_ev {m : Nat} {s0 : State} {s : State} (a1 : Sys2Proof.Machine.Flight) (h : Ev m s0 s) (hm : Sub 8796126576648 m) :
    Ev m s0 (State.giveUp s a1) := by
  unfold State.giveUp
  repeat' (first
    | with_reducible assumption
    | exact Sub.trans hm rfl
    | with_reducible apply State.answer_ev
    | with_reducible apply State.unreach_ev
    | with_reducible apply Ev.ite
    | with_reducible apply Ev.fold
    | with_reducible apply Ev.elim
    | with_reducible apply Ev.getD
    | with_reducible apply Ev.iter
    | intro _
    | dsimp only
    | split
    | with_reducible apply Ev.set_lateTags)

theorem State.forwardFlight_ev {m : Nat} {s0 : State} {s : State} (a1 : Nat) (h : Ev m s0 s) (hm : Sub 9895638204424 m) :
    Ev m s0 (State.forwardFlight s a1) := by
  unfold State.forwardFlight
  repeat' (first
    | with_reducible assumption
    | exact Sub.trans hm rfl
    | with_reducible apply State.answer_ev
    | with_reducible apply State.viol_ev
    | with_reducible apply State.unreach_ev
    | with_reducible apply State.queueMsg_ev
    | with_reducible apply State.mapFlight_ev
    | with_reducible apply Ev.ite
    | with_reducible apply Ev.fold
    | with_reducible apply Ev.elim
    | with_reducible apply Ev.getD
    | with_reducible apply Ev.iter
    | intro _
    | dsimp only
    | split
    | with_reducible apply Ev.set_lateTags)

theorem State.popMsg_ev {m : Nat} {s0 : State} {s : State} (a1 : Nat) (a2 : Nat) (a3 : Option Sys2Proof.Machine.Msg) (h : Ev m s0 s) (hm : Sub 1099511627776 m) :
    Ev m s0 (State.popMsg s a1 a2 a3) := by
  unfold State.popMsg
  repeat' (first
    | with_reducible assumption
    | exact Sub.trans hm rfl
    | with_reducible apply Ev.setClink
    | with_reducible apply Ev.ite
    | with_reducible apply Ev.fold
    | with_reducible apply Ev.elim
    | with_reducible apply Ev.getD
    | with_reducible apply Ev.iter
    | intro _
    | dsimp only
    | split)

theorem State.streamTake_ev {m : Nat} {s0 : State} {s : State} (a1 : Nat) (a2 : List Sys2Proof.Word) (a3 : Sys2Proof.Word) (h : Ev m s0 s) (hm : Sub 1237940039285380274899124224 m) :
    EvPair m s0 (State.streamTake s a1 a2 a3) := by
  induction a2 generalizing s a3 with
  | nil => exact EvPair.pair _ h
  | cons x l ih =>
  unfold State.streamTake
  repeat' (first
    | with_reducible exact (ih _ (Ev.setDnf h (Sub.trans hm rfl) _ _)).get
    | with_reducible refine (ih _ ?_).get
    | with_reducible refine ⟨(ih _ ?_).get⟩
    | with_reducible exact (ih ‹_›).get
    | with_reducible apply ih
    | with_reducible refine ⟨(ih ?_).get⟩
    | with_reducible refine ⟨?_⟩
    | with_reducible refine (ih ?_).get
    | with_reducible assumption
    | exact Sub.trans hm rfl
    | with_reducible apply EvPair.pair
    | with_reducible apply EvPair.ite
    | with_reducible apply Ev.setDnf
    | with_reducible apply Ev.ite
    | with_reducible apply Ev.fold
    | with_reducible apply Ev.elim
    | with_reducible apply Ev.getD
    | with_reducible apply Ev.iter
    | intro _
    | dsimp only
    | split)

theorem State.streamTake_evq {m : Nat} {s0 : State} {t : State} {s : State} {a1 : Nat} {a2 : List Sys2Proof.Word} {a3 : Sys2Proof.Word} {b : _} (e : (State.streamTake s a1 a2 a3) = (t, b)) (h : Ev m s0 s) (hm : Sub 1237940039285380274899124224 m) : Ev m s0 t := by
  have := State.streamTake_ev a1 a2 a3 h hm
  rw [e] at this; exact this.get

theorem State.streamTake_ev1 {m : Nat} {s0 : State} {s : State} (a1 : Nat) (a2 : List Sys2Proof.Word) (a3 : Sys2Proof.Word) (h : Ev m s0 s) (hm : Sub 1237940039285380274899124224 m) : Ev m s0 (State.streamTake s a1 a2 a3).1 := (State.streamTake_ev a1 a2 a3 h hm).get

theorem State.streamMsg_ev {m : Nat} {s0 : State} {s : State} (a1 : Nat) (a2 : Nat) (a3 : Sys2Proof.Machine.Msg) (h : Ev m s0 s) (hm : Sub 1237940039285381374410752008 m) :
    Ev m s0 (State.streamMsg s a1 a2 a3) := by
  unfold State.streamMsg
  repeat' (first
    | with_reducible assumption
    | exact Sub.trans hm rfl
    | with_reducible apply State.sticky_ev
    | with_reducible apply State.popMsg_ev
    | with_reducible apply State.streamTake_ev
    | with_reducible apply State.streamTake_ev1
    | with_reducible refine State.streamTake_evq ‹_› ?_ ?_
    | with_reducible apply Ev.ite
    | with_reducible apply Ev.fold
    | with_reducible apply Ev.elim
    | with_reducible apply Ev.getD
    | with_reducible apply Ev.iter
    | intro _
    | dsimp only
    | split)

theorem State.phaseMeasure_ev {m : Nat} {s0 : State} {s : State} (a1 : Nat) (a2 : Nat) (a3 : ℤ) (a4 : ℤ) (h : Ev m s0 s) (hm : Sub 64 m) :
    Ev m s0 (State.phaseMeasure s a1 a2 a3 a4) := by
  unfold State.phaseMeasure
  repeat' (first
    | with_reducible assumption
    | exact Sub.trans hm rfl
    | with_reducible apply Ev.each
    | with_reducible apply Ev.setTline
    | with_reducible apply Ev.ite
    | with_reducible apply Ev.fold
    | with_reducible apply Ev.elim
    | with_reducible apply Ev.getD
    | with_reducible apply Ev.iter
    | intro _
    | dsimp only
    | split)

theorem State.phaseMsg_ev {m : Nat} {s0 : State} {s : State} (a1 : Nat) (a2 : Sys2Proof.Machine.Msg) (a3 : Nat) (h : Ev m s0 s) (hm : Sub 1099511627848 m) :
    Ev m s0 (State.phaseMsg s a1 a2 a3) := by
  unfold State.phaseMsg
  repeat' (first
    | with_reducible assumption
    | exact Sub.trans hm rfl
    | with_reducible apply Ev.setClink
    | with_reducible apply Ev.rput
    | with_reducible apply State.phaseMeasure_ev
    | with_reducible apply Ev.ite
    | with_reducible apply Ev.fold
    | with_reducible apply Ev.elim
    | with_reducible apply Ev.getD
    | with_reducible apply Ev.iter
    | intro _
    | dsimp only
    | split)

theorem State.mgmtMsg_ev {m : Nat} {s0 : State} {s : State} (a1 : Sys2Proof.Machine.Msg) (h : Ev m s0 s) (hm : Sub 6597069766656 m) :
    Ev m s0 (State.mgmtMsg s a1) := by
  unfold State.mgmtMsg
  repeat' (first
    | with_reducible assumption
    | exact Sub.trans hm rfl
    | with_reducible apply Ev.setReasm
    | with_reducible apply Ev.ite
    | with_reducible apply Ev.fold
    | with_reducible apply Ev.elim
    | with_reducible apply Ev.getD
    | with_reducible apply Ev.iter
    | intro _
    | dsimp only
    | split
    | with_reducible apply Ev.set_mgmtIn)

theorem State.deliverMsg_ev {m : Nat} {s0 : State} {s : State} (a1 : Nat) (a2 : Nat) (a3 : Sys2Proof.Machine.Msg) (a4 : Nat) (h : Ev m s0 s) (hm : Sub 1237940039285396767674204232 m) :
    Ev m s0 (State.deliverMsg s a1 a2 a3 a4) := by
  unfold State.deliverMsg
  repeat' (first
    | with_reducible assumption
    | exact Sub.trans hm rfl
    | with_reducible apply State.popMsg_ev
    | with_reducible apply State.launch_ev
    | with_reducible apply State.takeReply_ev
    | with_reducible apply State.streamMsg_ev
    | with_reducible apply State.phaseMsg_ev
    | with_reducible apply State.mgmtMsg_ev
    | with_reducible apply Ev.ite
    | with_reducible apply Ev.fold
    | with_reducible apply Ev.elim
    | with_reducible apply Ev.getD
    | with_reducible apply Ev.iter
    | intro _
    | dsimp only
    | split)

theorem State.forwardFront_ev {m : Nat} {s0 : State} {s : State} (a1 : Nat) (a2 : Nat) (h : Ev m s0 s) (hm : Sub 1237940039285396767674204232 m) :
    Ev m s0 (State.forwardFront s a1 a2) := by
  unfold State.forwardFront
  repeat' (first
    | with_reducible assumption
    | exact Sub.trans hm rfl
    | with_reducible apply State.popMsg_ev
    | with_reducible apply State.deliverMsg_ev
    | with_reducible apply State.dropMsg_ev
    | with_reducible apply State.forward_ev
    | with_reducible apply Ev.ite
    | with_reducible apply Ev.fold
    | with_reducible apply Ev.elim
    | with_reducible apply Ev.getD
    | with_reducible apply Ev.iter
    | intro _
    | dsimp only
    | split)

theorem State.deliverFront_ev {m : Nat} {s0 : State} {s : State} (a1 : Nat) (a2 : Nat) (a3 : Nat) (h : Ev m s0 s) (hm : Sub 1237940039285396767674204232 m) :
    Ev m s0 (State.deliverFront s a1 a2 a3) := by
  unfold State.deliverFront
  repeat' (first
    | with_reducible assumption
    | exact Sub.trans hm rfl
    | with_reducible apply State.deliverMsg_ev
    | with_reducible apply Ev.ite
    | with_reducible apply Ev.fold
    | with_reducible apply Ev.elim
    | with_reducible apply Ev.getD
    | with_reducible apply Ev.iter
    | intro _
    | dsimp only
    | split)

theorem execReadMessage_ev {m : Nat} {s0 : State} (a0 : Fin 32) (a1 : Fin 4) {s : State} (h : Ev m s0 s) (hm : Sub 1237940039285396767674204232 m) :
    EvOut m s0 (execReadMessage a0 a1 s) := by
  unfold execReadMessage
  repeat' (first
    | with_reducible assumption
    | exact Sub.trans hm rfl
    | with_reducible apply EvOut.next
    | with_reducible apply EvOut.ite
    | with_reducible apply ok_ev
    | with_reducible apply State.deliverFront_ev
    | with_reducible apply Ev.ite
    | with_reducible apply Ev.fold
    | with_reducible apply Ev.elim
    | with_reducible apply Ev.getD
    | with_reducible apply Ev.iter
    | intro _
    | dsimp only
    | split)

theorem execWriteMessage_ev {m : Nat} {s0 : State} (a0 : Fin 32) (a1 : Fin 4) {s : State} (h : Ev m s0 s) (hm : Sub 1237940039285396767674204232 m) :
    EvOut m s0 (execWriteMessage a0 a1 s) := by
  unfold execWriteMessage
  repeat' (first
    | with_reducible assumption
    | exact Sub.trans hm rfl
    | with_reducible apply EvOut.next
    | with_reducible apply EvOut.ite
    | with_reducible apply ok_ev
    | with_reducible apply State.deliverFront_ev
    | with_reducible apply Ev.ite
    | with_reducible apply Ev.fold
    | with_reducible apply Ev.elim
    | with_reducible apply Ev.getD
    | with_reducible apply Ev.iter
    | intro _
    | dsimp only
    | split)

theorem execRdrsp_ev {m : Nat} {s0 : State} (a0 : Fin 32) (a1 : Fin 4) {s : State} (h : Ev m s0 s) (hm : Sub 1237940039285396767674204232 m) :
    EvOut m s0 (execRdrsp a0 a1 s) := by
  unfold execRdrsp
  repeat' (first
    | with_reducible assumption
    | exact Sub.trans hm rfl
    | with_reducible apply EvOut.next
    | with_reducible apply EvOut.ite
    | with_reducible apply ok_ev
    | with_reducible apply State.deliverFront_ev
    | with_reducible apply Ev.ite
    | with_reducible apply Ev.fold
    | with_reducible apply Ev.elim
    | with_reducible apply Ev.getD
    | with_reducible apply Ev.iter
    | intro _
    | dsimp only
    | split)

theorem execWrdone_ev {m : Nat} {s0 : State} (a0 : Fin 32) (a1 : Fin 4) {s : State} (h : Ev m s0 s) (hm : Sub 1237940039285396767674204232 m) :
    EvOut m s0 (execWrdone a0 a1 s) := by
  unfold execWrdone
  repeat' (first
    | with_reducible assumption
    | exact Sub.trans hm rfl
    | with_reducible apply EvOut.next
    | with_reducible apply EvOut.ite
    | with_reducible apply ok_ev
    | with_reducible apply State.deliverFront_ev
    | with_reducible apply Ev.ite
    | with_reducible apply Ev.fold
    | with_reducible apply Ev.elim
    | with_reducible apply Ev.getD
    | with_reducible apply Ev.iter
    | intro _
    | dsimp only
    | split)

theorem execStreamMessage_ev {m : Nat} {s0 : State} (a0 : Fin 32) (a1 : Fin 4) {s : State} (h : Ev m s0 s) (hm : Sub 1237940039285396767674204232 m) :
    EvOut m s0 (execStreamMessage a0 a1 s) := by
  unfold execStreamMessage
  repeat' (first
    | with_reducible assumption
    | exact Sub.trans hm rfl
    | with_reducible apply EvOut.next
    | with_reducible apply EvOut.ite
    | with_reducible apply ok_ev
    | with_reducible apply State.deliverFront_ev
    | with_reducible apply Ev.ite
    | with_reducible apply Ev.fold
    | with_reducible apply Ev.elim
    | with_reducible apply Ev.getD
    | with_reducible apply Ev.iter
    | intro _
    | dsimp only
    | split)

theorem execPhaseMessage_ev {m : Nat} {s0 : State} (a0 : Fin 32) {s : State} (h : Ev m s0 s) (hm : Sub 1237940039285396767674204232 m) :
    EvOut m s0 (execPhaseMessage a0 s) := by
  unfold execPhaseMessage
  repeat' (first
    | with_reducible assumption
    | exact Sub.trans hm rfl
    | with_reducible apply EvOut.next
    | with_reducible apply EvOut.ite
    | with_reducible apply ok_ev
    | with_reducible apply State.deliverFront_ev
    | with_reducible apply Ev.ite
    | with_reducible apply Ev.fold
    | with_reducible apply Ev.elim
    | with_reducible apply Ev.getD
    | with_reducible apply Ev.iter
    | intro _
    | dsimp only
    | split)

theorem execMgmtReassemblyTimeout_ev {m : Nat} {s0 : State} (a0 : Fin 4096) {s : State} (h : Ev m s0 s) (hm : Sub 2199023255552 m) :
    EvOut m s0 (execMgmtReassemblyTimeout a0 s) := by
  unfold execMgmtReassemblyTimeout
  repeat' (first
    | with_reducible assumption
    | exact Sub.trans hm rfl
    | with_reducible apply EvOut.next
    | with_reducible apply EvOut.ite
    | with_reducible apply ok_ev
    | with_reducible apply Ev.setReasm
    | with_reducible apply Ev.ite
    | with_reducible apply Ev.fold
    | with_reducible apply Ev.elim
    | with_reducible apply Ev.getD
    | with_reducible apply Ev.iter
    | intro _
    | dsimp only
    | split)

theorem execRemoteTimeout_ev {m : Nat} {s0 : State} (a0 : Nat) {s : State} (h : Ev m s0 s) (hm : Sub 8796126576648 m) :
    EvOut m s0 (execRemoteTimeout a0 s) := by
  unfold execRemoteTimeout
  repeat' (first
    | with_reducible assumption
    | exact Sub.trans hm rfl
    | with_reducible apply EvOut.next
    | with_reducible apply EvOut.ite
    | with_reducible apply ok_ev
    | with_reducible apply State.giveUp_ev
    | with_reducible apply State.count_ev
    | with_reducible apply State.sticky_ev
    | with_reducible apply Ev.ite
    | with_reducible apply Ev.fold
    | with_reducible apply Ev.elim
    | with_reducible apply Ev.getD
    | with_reducible apply Ev.iter
    | intro _
    | dsimp only
    | split)

theorem State.sysidSet_ev {m : Nat} {s0 : State} {s : State} (a1 : Sys2Proof.Word) (h : Ev m s0 s) (hm : Sub 8 m) :
    Ev m s0 (State.sysidSet s a1) := by
  unfold State.sysidSet
  repeat' (first
    | with_reducible assumption
    | exact Sub.trans hm rfl
    | with_reducible apply State.writePlain_ev
    | with_reducible apply State.viol_ev
    | with_reducible apply Ev.ite
    | with_reducible apply Ev.fold
    | with_reducible apply Ev.elim
    | with_reducible apply Ev.getD
    | with_reducible apply Ev.iter
    | intro _
    | dsimp only
    | split)

theorem execSysidWrite_ev {m : Nat} {s0 : State} (a0 : Sys2Proof.Issuer) (a1 : Sys2Proof.Word) {s : State} (h : Ev m s0 s) (hm : Sub 8 m) :
    EvOut m s0 (execSysidWrite a0 a1 s) := by
  unfold execSysidWrite
  repeat' (first
    | with_reducible assumption
    | exact Sub.trans hm rfl
    | with_reducible apply EvOut.next
    | with_reducible apply EvOut.ite
    | with_reducible apply ok_ev
    | with_reducible apply State.guarded_ev
    | with_reducible apply State.sysidSet_ev
    | with_reducible apply Ev.ite
    | with_reducible apply Ev.fold
    | with_reducible apply Ev.elim
    | with_reducible apply Ev.getD
    | with_reducible apply Ev.iter
    | intro _
    | dsimp only
    | split)

theorem State.phaseOut_ev {m : Nat} {s0 : State} {s : State} (a1 : Nat) (a2 : Nat) (a3 : Bool) (h : Ev m s0 s) (hm : Sub 1099511627776 m) :
    Ev m s0 (State.phaseOut s a1 a2 a3) := by
  unfold State.phaseOut
  repeat' (first
    | with_reducible assumption
    | exact Sub.trans hm rfl
    | with_reducible apply State.queueMsg_ev
    | with_reducible apply Ev.setClink
    | with_reducible apply Ev.ite
    | with_reducible apply Ev.fold
    | with_reducible apply Ev.elim
    | with_reducible apply Ev.getD
    | with_reducible apply Ev.iter
    | intro _
    | dsimp only
    | split)

theorem execPhaseSend_ev {m : Nat} {s0 : State} (a0 : Fin 32) {s : State} (h : Ev m s0 s) (hm : Sub 1099511627776 m) :
    EvOut m s0 (execPhaseSend a0 s) := by
  unfold execPhaseSend
  repeat' (first
    | with_reducible assumption
    | exact Sub.trans hm rfl
    | with_reducible apply EvOut.next
    | with_reducible apply EvOut.ite
    | with_reducible apply ok_ev
    | with_reducible apply State.phaseOut_ev
    | with_reducible apply Ev.each
    | with_reducible apply Ev.ite
    | with_reducible apply Ev.fold
    | with_reducible apply Ev.elim
    | with_reducible apply Ev.getD
    | with_reducible apply Ev.iter
    | intro _
    | dsimp only
    | split)

theorem execPhaseCoast_ev {m : Nat} {s0 : State} (a0 : Fin 8) {s : State} (h : Ev m s0 s) (hm : Sub 64 m) :
    EvOut m s0 (execPhaseCoast a0 s) := by
  unfold execPhaseCoast
  repeat' (first
    | with_reducible assumption
    | exact Sub.trans hm rfl
    | with_reducible apply EvOut.next
    | with_reducible apply EvOut.ite
    | with_reducible apply ok_ev
    | with_reducible apply Ev.setTline
    | with_reducible apply Ev.ite
    | with_reducible apply Ev.fold
    | with_reducible apply Ev.elim
    | with_reducible apply Ev.getD
    | with_reducible apply Ev.iter
    | intro _
    | dsimp only
    | split)

theorem execHoldoverExpiry_ev {m : Nat} {s0 : State} (a0 : Fin 8) {s : State} (h : Ev m s0 s) (hm : Sub 72 m) :
    EvOut m s0 (execHoldoverExpiry a0 s) := by
  unfold execHoldoverExpiry
  repeat' (first
    | with_reducible assumption
    | exact Sub.trans hm rfl
    | with_reducible apply EvOut.next
    | with_reducible apply EvOut.ite
    | with_reducible apply ok_ev
    | with_reducible apply State.unlock_ev
    | with_reducible apply Ev.ite
    | with_reducible apply Ev.fold
    | with_reducible apply Ev.elim
    | with_reducible apply Ev.getD
    | with_reducible apply Ev.iter
    | intro _
    | dsimp only
    | split)

end Machine

end Sys2Proof
end

