-- ==== Sys2Proof/Laws/EvLinks.lean ====
section
/-! SUPPORT. What each operation of Machine/Links.lean can change, and that it keeps what no command may break (Laws/Evolve.lean). -/

set_option linter.unusedTactic false
set_option linter.unreachableTactic false
set_option linter.unusedVariables false

namespace Sys2Proof

open Machine

namespace Machine

theorem State.setLstate_ev {m : Nat} {s0 : State} {s : State} (a1 : Nat) (a2 : Nat) (h : Ev m s0 s) (hm : Sub 8 m) :
    Ev m s0 (State.setLstate s a1 a2) := by
  unfold State.setLstate
  repeat' (first
    | with_reducible assumption
    | exact Sub.trans hm rfl
    | with_reducible apply State.rsetf_ev
    | with_reducible apply Ev.ite
    | with_reducible apply Ev.fold
    | with_reducible apply Ev.elim
    | with_reducible apply Ev.getD
    | with_reducible apply Ev.iter
    | intro _
    | dsimp only
    | split)

theorem State.reroute_ev {m : Nat} {s0 : State} {s : State} (a1 : Nat) (a2 : Nat) (a3 : Sys2Proof.Machine.Msg) (h : Ev m s0 s) (hm : Sub 9895638204424 m) :
    Ev m s0 (State.reroute s a1 a2 a3) := by
  unfold State.reroute
  repeat' (first
    | with_reducible assumption
    | exact Sub.trans hm rfl
    | with_reducible apply State.forward_ev
    | with_reducible apply Ev.ite
    | with_reducible apply Ev.fold
    | with_reducible apply Ev.elim
    | with_reducible apply Ev.getD
    | with_reducible apply Ev.iter
    | intro _
    | dsimp only
    | split
    | with_reducible apply Ev.set_flights)

theorem State.handBack_ev {m : Nat} {s0 : State} {s : State} (a1 : Nat) (h : Ev m s0 s) (hm : Sub 9904228139016 m) :
    Ev m s0 (State.handBack s a1) := by
  unfold State.handBack
  repeat' (first
    | with_reducible assumption
    | exact Sub.trans hm rfl
    | with_reducible apply Ev.rput
    | with_reducible apply Ev.setClink
    | with_reducible apply Ev.each
    | with_reducible apply State.reroute_ev
    | with_reducible apply State.giveUp_ev
    | with_reducible apply State.notSent_ev
    | with_reducible apply State.breakLock_ev
    | with_reducible apply State.rsetb_ev
    | with_reducible apply Ev.ite
    | with_reducible apply Ev.fold
    | with_reducible apply Ev.elim
    | with_reducible apply Ev.getD
    | with_reducible apply Ev.iter
    | intro _
    | dsimp only
    | split)

theorem State.linkStop_ev {m : Nat} {s0 : State} {s : State} (a1 : Nat) (a2 : Nat) (h : Ev m s0 s) (hm : Sub 9904228139016 m) :
    Ev m s0 (State.linkStop s a1 a2) := by
  unfold State.linkStop
  repeat' (first
    | with_reducible assumption
    | exact Sub.trans hm rfl
    | with_reducible apply State.rsetf_ev
    | with_reducible apply State.setLstate_ev
    | with_reducible apply State.sticky_ev
    | with_reducible apply State.rsetb_ev
    | with_reducible apply State.handBack_ev
    | with_reducible apply Ev.ite
    | with_reducible apply Ev.fold
    | with_reducible apply Ev.elim
    | with_reducible apply Ev.getD
    | with_reducible apply Ev.iter
    | intro _
    | dsimp only
    | split)

theorem State.toDetect_ev {m : Nat} {s0 : State} {s : State} (a1 : Nat) (h : Ev m s0 s) (hm : Sub 1099511627784 m) :
    Ev m s0 (State.toDetect s a1) := by
  unfold State.toDetect
  repeat' (first
    | with_reducible assumption
    | exact Sub.trans hm rfl
    | with_reducible apply State.rsetf_ev
    | with_reducible apply State.rsetb_ev
    | with_reducible apply State.setLstate_ev
    | with_reducible apply Ev.setClink
    | with_reducible apply Ev.ite
    | with_reducible apply Ev.fold
    | with_reducible apply Ev.elim
    | with_reducible apply Ev.getD
    | with_reducible apply Ev.iter
    | intro _
    | dsimp only
    | split)

theorem State.linkStart_ev {m : Nat} {s0 : State} {s : State} (a1 : Nat) (h : Ev m s0 s) (hm : Sub 1099511627784 m) :
    Ev m s0 (State.linkStart s a1) := by
  unfold State.linkStart
  repeat' (first
    | with_reducible assumption
    | exact Sub.trans hm rfl
    | with_reducible apply State.toDetect_ev
    | with_reducible apply Ev.ite
    | with_reducible apply Ev.fold
    | with_reducible apply Ev.elim
    | with_reducible apply Ev.getD
    | with_reducible apply Ev.iter
    | intro _
    | dsimp only
    | split)

theorem State.toRetrain_ev {m : Nat} {s0 : State} {s : State} (a1 : Nat) (h : Ev m s0 s) (hm : Sub 1099511627784 m) :
    Ev m s0 (State.toRetrain s a1) := by
  unfold State.toRetrain
  repeat' (first
    | with_reducible assumption
    | exact Sub.trans hm rfl
    | with_reducible apply State.count_ev
    | with_reducible apply State.setLstate_ev
    | with_reducible apply Ev.setClink
    | with_reducible apply Ev.ite
    | with_reducible apply Ev.fold
    | with_reducible apply Ev.elim
    | with_reducible apply Ev.getD
    | with_reducible apply Ev.iter
    | intro _
    | dsimp only
    | split)

theorem State.lastingFrame_ev {m : Nat} {s0 : State} {s : State} (a1 : Nat) (h : Ev m s0 s) (hm : Sub 1099511627784 m) :
    Ev m s0 (State.lastingFrame s a1) := by
  unfold State.lastingFrame
  repeat' (first
    | with_reducible assumption
    | exact Sub.trans hm rfl
    | with_reducible apply State.toRetrain_ev
    | with_reducible apply State.count_ev
    | with_reducible apply State.sticky_ev
    | with_reducible apply Ev.ite
    | with_reducible apply Ev.fold
    | with_reducible apply Ev.elim
    | with_reducible apply Ev.getD
    | with_reducible apply Ev.iter
    | intro _
    | dsimp only
    | split)

theorem State.takeCredits_ev {m : Nat} {s0 : State} {s : State} (a1 : Nat) (a2 : Sys2Proof.Word) (h : Ev m s0 s) (hm : Sub 1099511627784 m) :
    Ev m s0 (State.takeCredits s a1 a2) := by
  unfold State.takeCredits
  repeat' (first
    | with_reducible assumption
    | exact Sub.trans hm rfl
    | with_reducible apply Ev.each
    | with_reducible apply State.rsetf_ev
    | with_reducible apply Ev.setClink
    | with_reducible apply Ev.ite
    | with_reducible apply Ev.fold
    | with_reducible apply Ev.elim
    | with_reducible apply Ev.getD
    | with_reducible apply Ev.iter
    | intro _
    | dsimp only
    | split)

theorem State.badFrame_ev {m : Nat} {s0 : State} {s : State} (a1 : Nat) (a2 : Bool) (h : Ev m s0 s) (hm : Sub 1099511627784 m) :
    Ev m s0 (State.badFrame s a1 a2) := by
  unfold State.badFrame
  repeat' (first
    | with_reducible assumption
    | exact Sub.trans hm rfl
    | with_reducible apply State.sticky_ev
    | with_reducible apply State.lastingFrame_ev
    | with_reducible apply Ev.setClink
    | with_reducible apply Ev.ite
    | with_reducible apply Ev.fold
    | with_reducible apply Ev.elim
    | with_reducible apply Ev.getD
    | with_reducible apply Ev.iter
    | intro _
    | dsimp only
    | split)

theorem State.badHeaders_ev {m : Nat} {s0 : State} {s : State} (a1 : Nat) (a2 : Nat) (a3 : Nat) (h : Ev m s0 s) (hm : Sub 8 m) :
    Ev m s0 (State.badHeaders s a1 a2 a3) := by
  unfold State.badHeaders
  repeat' (first
    | with_reducible assumption
    | exact Sub.trans hm rfl
    | with_reducible apply State.count_ev
    | with_reducible apply Ev.ite
    | with_reducible apply Ev.fold
    | with_reducible apply Ev.elim
    | with_reducible apply Ev.getD
    | with_reducible apply Ev.iter
    | intro _
    | dsimp only
    | split)

theorem State.acceptFrame_ev {m : Nat} {s0 : State} {s : State} (a1 : Nat) (a2 : List Sys2Proof.Word) (a3 : Bool) (a4 : Nat) (h : Ev m s0 s) (hm : Sub 1099511627784 m) :
    Ev m s0 (State.acceptFrame s a1 a2 a3 a4) := by
  unfold State.acceptFrame
  repeat' (first
    | with_reducible assumption
    | exact Sub.trans hm rfl
    | with_reducible apply Ev.setClink
    | with_reducible apply State.count_ev
    | with_reducible apply State.sticky_ev
    | with_reducible apply Ev.ite
    | with_reducible apply Ev.fold
    | with_reducible apply Ev.elim
    | with_reducible apply Ev.getD
    | with_reducible apply Ev.iter
    | intro _
    | dsimp only
    | split)

theorem State.frameIn_ev {m : Nat} {s0 : State} {s : State} (a1 : Nat) (a2 : List Sys2Proof.Word) (a3 : Bool) (a4 : Bool) (a5 : Nat) (h : Ev m s0 s) (hm : Sub 1099511627784 m) :
    Ev m s0 (State.frameIn s a1 a2 a3 a4 a5) := by
  unfold State.frameIn
  repeat' (first
    | with_reducible assumption
    | exact Sub.trans hm rfl
    | with_reducible apply State.badFrame_ev
    | with_reducible apply State.takeCredits_ev
    | with_reducible apply Ev.setClink
    | with_reducible apply State.acceptFrame_ev
    | with_reducible apply State.sticky_ev
    | with_reducible apply Ev.ite
    | with_reducible apply Ev.fold
    | with_reducible apply Ev.elim
    | with_reducible apply Ev.getD
    | with_reducible apply Ev.iter
    | intro _
    | dsimp only
    | split)

theorem execFrameReceive_ev {m : Nat} {s0 : State} (a0 : Fin 32) (a1 : List Sys2Proof.Word) (a2 : Sys2Proof.FrameHeads) (a3 : Nat) {s : State} (h : Ev m s0 s) (hm : Sub 1099511627784 m) :
    EvOut m s0 (execFrameReceive a0 a1 a2 a3 s) := by
  unfold execFrameReceive
  repeat' (first
    | with_reducible assumption
    | exact Sub.trans hm rfl
    | with_reducible apply EvOut.next
    | with_reducible apply EvOut.ite
    | with_reducible apply ok_ev
    | with_reducible apply State.frameIn_ev
    | with_reducible apply State.badHeaders_ev
    | with_reducible apply Ev.ite
    | with_reducible apply Ev.fold
    | with_reducible apply Ev.elim
    | with_reducible apply Ev.getD
    | with_reducible apply Ev.iter
    | intro _
    | dsimp only
    | split)

theorem execReplayTimeout_ev {m : Nat} {s0 : State} (a0 : Fin 32) {s : State} (h : Ev m s0 s) (hm : Sub 1099511627784 m) :
    EvOut m s0 (execReplayTimeout a0 s) := by
  unfold execReplayTimeout
  repeat' (first
    | with_reducible assumption
    | exact Sub.trans hm rfl
    | with_reducible apply EvOut.next
    | with_reducible apply EvOut.ite
    | with_reducible apply ok_ev
    | with_reducible apply State.lastingFrame_ev
    | with_reducible apply Ev.setClink
    | with_reducible apply Ev.ite
    | with_reducible apply Ev.fold
    | with_reducible apply Ev.elim
    | with_reducible apply Ev.getD
    | with_reducible apply Ev.iter
    | intro _
    | dsimp only
    | split)

theorem State.pullStream_ev {m : Nat} {s0 : State} {s : State} (a1 : Nat) (a2 : Nat) (h : Ev m s0 s) (hm : Sub 618970019642691236961189888 m) :
    Ev m s0 (State.pullStream s a1 a2) := by
  unfold State.pullStream
  repeat' (first
    | with_reducible assumption
    | exact Sub.trans hm rfl
    | with_reducible apply State.queueMsg_ev
    | with_reducible apply Ev.setUpf
    | with_reducible apply Ev.ite
    | with_reducible apply Ev.fold
    | with_reducible apply Ev.elim
    | with_reducible apply Ev.getD
    | with_reducible apply Ev.iter
    | intro _
    | dsimp only
    | split)

theorem State.sendWords_ev {m : Nat} {s0 : State} {s : State} (a1 : Nat) (a2 : Nat) (a3 : Nat) (a4 : Nat) (a5 : List Sys2Proof.Word) (h : Ev m s0 s) (hm : Sub 1099511627776 m) :
    Ev m s0 (State.sendWords s a1 a2 a3 a4 a5) := by
  unfold State.sendWords
  repeat' (first
    | with_reducible assumption
    | exact Sub.trans hm rfl
    | with_reducible apply Ev.setClink
    | with_reducible apply Ev.ite
    | with_reducible apply Ev.fold
    | with_reducible apply Ev.elim
    | with_reducible apply Ev.getD
    | with_reducible apply Ev.iter
    | intro _
    | dsimp only
    | split)

theorem State.sendNew_ev {m : Nat} {s0 : State} {s : State} (a1 : Nat) (a2 : Nat) (a3 : Nat) (h : Ev m s0 s) (hm : Sub 1099511627784 m) :
    Ev m s0 (State.sendNew s a1 a2 a3) := by
  unfold State.sendNew
  repeat' (first
    | with_reducible assumption
    | exact Sub.trans hm rfl
    | with_reducible apply Ev.setClink
    | with_reducible apply State.rsetf_ev
    | with_reducible apply State.sendWords_ev
    | with_reducible apply Ev.ite
    | with_reducible apply Ev.fold
    | with_reducible apply Ev.elim
    | with_reducible apply Ev.getD
    | with_reducible apply Ev.iter
    | intro _
    | dsimp only
    | split)

theorem State.sendReplay_ev {m : Nat} {s0 : State} {s : State} (a1 : Nat) (a2 : Nat) (a3 : Nat) (h : Ev m s0 s) (hm : Sub 1099511627776 m) :
    Ev m s0 (State.sendReplay s a1 a2 a3) := by
  unfold State.sendReplay
  repeat' (first
    | with_reducible assumption
    | exact Sub.trans hm rfl
    | with_reducible apply Ev.setClink
    | with_reducible apply State.sendWords_ev
    | with_reducible apply Ev.ite
    | with_reducible apply Ev.fold
    | with_reducible apply Ev.elim
    | with_reducible apply Ev.getD
    | with_reducible apply Ev.iter
    | intro _
    | dsimp only
    | split)

theorem execFrameBoundary_ev {m : Nat} {s0 : State} (a0 : Fin 32) (a1 : Nat) {s : State} (h : Ev m s0 s) (hm : Sub 618970019642691236961189896 m) :
    EvOut m s0 (execFrameBoundary a0 a1 s) := by
  unfold execFrameBoundary
  repeat' (first
    | with_reducible assumption
    | exact Sub.trans hm rfl
    | with_reducible apply EvOut.next
    | with_reducible apply EvOut.ite
    | with_reducible apply ok_ev
    | with_reducible apply Ev.setClink
    | with_reducible apply Ev.each
    | with_reducible apply State.pullStream_ev
    | with_reducible apply State.sendReplay_ev
    | with_reducible apply State.sendNew_ev
    | with_reducible apply State.sendWords_ev
    | with_reducible apply Ev.ite
    | with_reducible apply Ev.fold
    | with_reducible apply Ev.elim
    | with_reducible apply Ev.getD
    | with_reducible apply Ev.iter
    | intro _
    | dsimp only
    | split)

theorem State.lockDone_ev {m : Nat} {s0 : State} {s : State} (a1 : Nat) (h : Ev m s0 s) (hm : Sub 8 m) :
    Ev m s0 (State.lockDone s a1) := by
  unfold State.lockDone
  repeat' (first
    | with_reducible assumption
    | exact Sub.trans hm rfl
    | with_reducible apply State.setLstate_ev
    | with_reducible apply Ev.ite
    | with_reducible apply Ev.fold
    | with_reducible apply Ev.elim
    | with_reducible apply Ev.getD
    | with_reducible apply Ev.iter
    | intro _
    | dsimp only
    | split)

theorem execBlockLock_ev {m : Nat} {s0 : State} (a0 : Fin 32) (a1 : Fin 2) {s : State} (h : Ev m s0 s) (hm : Sub 8 m) :
    EvOut m s0 (execBlockLock a0 a1 s) := by
  unfold execBlockLock
  repeat' (first
    | with_reducible assumption
    | exact Sub.trans hm rfl
    | with_reducible apply EvOut.next
    | with_reducible apply EvOut.ite
    | with_reducible apply ok_ev
    | with_reducible apply State.lockDone_ev
    | with_reducible apply State.rsetb_ev
    | with_reducible apply Ev.ite
    | with_reducible apply Ev.fold
    | with_reducible apply Ev.elim
    | with_reducible apply Ev.getD
    | with_reducible apply Ev.iter
    | intro _
    | dsimp only
    | split)

theorem execBlockLockLoss_ev {m : Nat} {s0 : State} (a0 : Fin 32) (a1 : Fin 2) (a2 : Sys2Proof.LostHeaders) {s : State} (h : Ev m s0 s) (hm : Sub 1099511627784 m) :
    EvOut m s0 (execBlockLockLoss a0 a1 a2 s) := by
  unfold execBlockLockLoss
  repeat' (first
    | with_reducible assumption
    | exact Sub.trans hm rfl
    | with_reducible apply EvOut.next
    | with_reducible apply EvOut.ite
    | with_reducible apply ok_ev
    | with_reducible apply State.count_ev
    | with_reducible apply State.rsetb_ev
    | with_reducible apply State.toRetrain_ev
    | with_reducible apply Ev.ite
    | with_reducible apply Ev.fold
    | with_reducible apply Ev.elim
    | with_reducible apply Ev.getD
    | with_reducible apply Ev.iter
    | intro _
    | dsimp only
    | split)

theorem execSignalDetect_ev {m : Nat} {s0 : State} (a0 : Fin 32) (a1 : BitVec 2) {s : State} (h : Ev m s0 s) (hm : Sub 1099511627784 m) :
    EvOut m s0 (execSignalDetect a0 a1 s) := by
  unfold execSignalDetect
  repeat' (first
    | with_reducible assumption
    | exact Sub.trans hm rfl
    | with_reducible apply EvOut.next
    | with_reducible apply EvOut.ite
    | with_reducible apply ok_ev
    | with_reducible apply State.setLstate_ev
    | with_reducible apply State.lockDone_ev
    | with_reducible apply Ev.setClink
    | with_reducible apply Ev.ite
    | with_reducible apply Ev.fold
    | with_reducible apply Ev.elim
    | with_reducible apply Ev.getD
    | with_reducible apply Ev.iter
    | intro _
    | dsimp only
    | split)

theorem execLockTimeout_ev {m : Nat} {s0 : State} (a0 : Fin 32) {s : State} (h : Ev m s0 s) (hm : Sub 1099511627784 m) :
    EvOut m s0 (execLockTimeout a0 s) := by
  unfold execLockTimeout
  repeat' (first
    | with_reducible assumption
    | exact Sub.trans hm rfl
    | with_reducible apply EvOut.next
    | with_reducible apply EvOut.ite
    | with_reducible apply ok_ev
    | with_reducible apply State.toDetect_ev
    | with_reducible apply State.setLstate_ev
    | with_reducible apply Ev.ite
    | with_reducible apply Ev.fold
    | with_reducible apply Ev.elim
    | with_reducible apply Ev.getD
    | with_reducible apply Ev.iter
    | intro _
    | dsimp only
    | split)

theorem execAlignComplete_ev {m : Nat} {s0 : State} (a0 : Fin 32) (a1 : BitVec 2) (a2 : Bool) {s : State} (h : Ev m s0 s) (hm : Sub 1099511627784 m) :
    EvOut m s0 (execAlignComplete a0 a1 a2 s) := by
  unfold execAlignComplete
  repeat' (first
    | with_reducible assumption
    | exact Sub.trans hm rfl
    | with_reducible apply EvOut.next
    | with_reducible apply EvOut.ite
    | with_reducible apply State.rsetb_ev
    | with_reducible apply State.setLstate_ev
    | with_reducible apply ok_ev
    | with_reducible apply Ev.setClink
    | with_reducible apply Ev.ite
    | with_reducible apply Ev.fold
    | with_reducible apply Ev.elim
    | with_reducible apply Ev.getD
    | with_reducible apply Ev.iter
    | intro _
    | dsimp only
    | split)

theorem State.fallBack_ev {m : Nat} {s0 : State} {s : State} (a1 : Nat) (h : Ev m s0 s) (hm : Sub 1099511627784 m) :
    Ev m s0 (State.fallBack s a1) := by
  unfold State.fallBack
  repeat' (first
    | with_reducible assumption
    | exact Sub.trans hm rfl
    | with_reducible apply Ev.setClink
    | with_reducible apply State.toDetect_ev
    | with_reducible apply Ev.ite
    | with_reducible apply Ev.fold
    | with_reducible apply Ev.elim
    | with_reducible apply Ev.getD
    | with_reducible apply Ev.iter
    | intro _
    | dsimp only
    | split)

theorem execAlignLimit_ev {m : Nat} {s0 : State} (a0 : Fin 32) {s : State} (h : Ev m s0 s) (hm : Sub 1099511627784 m) :
    EvOut m s0 (execAlignLimit a0 s) := by
  unfold execAlignLimit
  repeat' (first
    | with_reducible assumption
    | exact Sub.trans hm rfl
    | with_reducible apply EvOut.next
    | with_reducible apply EvOut.ite
    | with_reducible apply ok_ev
    | with_reducible apply State.fallBack_ev
    | with_reducible apply Ev.ite
    | with_reducible apply Ev.fold
    | with_reducible apply Ev.elim
    | with_reducible apply Ev.getD
    | with_reducible apply Ev.iter
    | intro _
    | dsimp only
    | split)

theorem execNegotiateTimeout_ev {m : Nat} {s0 : State} (a0 : Fin 32) {s : State} (h : Ev m s0 s) (hm : Sub 1099511627784 m) :
    EvOut m s0 (execNegotiateTimeout a0 s) := by
  unfold execNegotiateTimeout
  repeat' (first
    | with_reducible assumption
    | exact Sub.trans hm rfl
    | with_reducible apply EvOut.next
    | with_reducible apply EvOut.ite
    | with_reducible apply ok_ev
    | with_reducible apply State.fallBack_ev
    | with_reducible apply Ev.ite
    | with_reducible apply Ev.fold
    | with_reducible apply Ev.elim
    | with_reducible apply Ev.getD
    | with_reducible apply Ev.iter
    | intro _
    | dsimp only
    | split)

theorem State.dupCheck_ev {m : Nat} {s0 : State} {s : State} (a1 : Nat) (a2 : Nat) (h : Ev m s0 s) (hm : Sub 9904228139016 m) :
    Ev m s0 (State.dupCheck s a1 a2) := by
  unfold State.dupCheck
  repeat' (first
    | with_reducible assumption
    | exact Sub.trans hm rfl
    | with_reducible apply Ev.setClink
    | with_reducible apply Ev.each
    | with_reducible apply State.rsetf_ev
    | with_reducible apply State.sticky_ev
    | with_reducible apply State.breakLock_ev
    | with_reducible apply State.reroute_ev
    | with_reducible apply Ev.ite
    | with_reducible apply Ev.fold
    | with_reducible apply Ev.elim
    | with_reducible apply Ev.getD
    | with_reducible apply Ev.iter
    | intro _
    | dsimp only
    | split)

theorem State.toActive_ev {m : Nat} {s0 : State} {s : State} (a1 : Nat) (a2 : List Sys2Proof.Word) (h : Ev m s0 s) (hm : Sub 9904228139016 m) :
    Ev m s0 (State.toActive s a1 a2) := by
  unfold State.toActive
  repeat' (first
    | with_reducible assumption
    | exact Sub.trans hm rfl
    | with_reducible apply State.linkStop_ev
    | with_reducible apply Ev.setClink
    | with_reducible apply State.rsetf_ev
    | with_reducible apply State.sticky_ev
    | with_reducible apply State.handBack_ev
    | with_reducible apply State.setLstate_ev
    | with_reducible apply Ev.ite
    | with_reducible apply Ev.fold
    | with_reducible apply Ev.elim
    | with_reducible apply Ev.getD
    | with_reducible apply Ev.iter
    | intro _
    | dsimp only
    | split)

theorem State.trainIn_ev {m : Nat} {s0 : State} {s : State} (a1 : Nat) (a2 : List Sys2Proof.Word) (h : Ev m s0 s) (hm : Sub 9904228139016 m) :
    Ev m s0 (State.trainIn s a1 a2) := by
  unfold State.trainIn
  repeat' (first
    | with_reducible assumption
    | exact Sub.trans hm rfl
    | with_reducible apply State.dupCheck_ev
    | with_reducible apply Ev.rput
    | with_reducible apply State.fallBack_ev
    | with_reducible apply State.linkStop_ev
    | with_reducible apply State.sticky_ev
    | with_reducible apply Ev.setClink
    | with_reducible apply State.toActive_ev
    | with_reducible apply Ev.ite
    | with_reducible apply Ev.fold
    | with_reducible apply Ev.elim
    | with_reducible apply Ev.getD
    | with_reducible apply Ev.iter
    | intro _
    | dsimp only
    | split)

theorem execTrainFrameReceived_ev {m : Nat} {s0 : State} (a0 : Fin 32) (a1 : Sys2Proof.TrainIn) {s : State} (h : Ev m s0 s) (hm : Sub 9904228139016 m) :
    EvOut m s0 (execTrainFrameReceived a0 a1 s) := by
  unfold execTrainFrameReceived
  repeat' (first
    | with_reducible assumption
    | exact Sub.trans hm rfl
    | with_reducible apply EvOut.next
    | with_reducible apply EvOut.ite
    | with_reducible apply ok_ev
    | with_reducible apply State.badHeaders_ev
    | with_reducible apply State.sticky_ev
    | with_reducible apply State.trainIn_ev
    | with_reducible apply Ev.ite
    | with_reducible apply Ev.fold
    | with_reducible apply Ev.elim
    | with_reducible apply Ev.getD
    | with_reducible apply Ev.iter
    | intro _
    | dsimp only
    | split)

theorem execLaneTestComplete_ev {m : Nat} {s0 : State} (a0 : Fin 32) (a1 : Fin 2) (a2 : Bool) {s : State} (h : Ev m s0 s) (hm : Sub 9904228139016 m) :
    EvOut m s0 (execLaneTestComplete a0 a1 a2 s) := by
  unfold execLaneTestComplete
  repeat' (first
    | with_reducible assumption
    | exact Sub.trans hm rfl
    | with_reducible apply EvOut.next
    | with_reducible apply EvOut.ite
    | with_reducible apply ok_ev
    | with_reducible apply Ev.setClink
    | with_reducible apply State.sticky_ev
    | with_reducible apply State.rsetb_ev
    | with_reducible apply State.linkStop_ev
    | with_reducible apply Ev.ite
    | with_reducible apply Ev.fold
    | with_reducible apply Ev.elim
    | with_reducible apply Ev.getD
    | with_reducible apply Ev.iter
    | intro _
    | dsimp only
    | split)

theorem execDowntmo_ev {m : Nat} {s0 : State} (a0 : Fin 32) {s : State} (h : Ev m s0 s) (hm : Sub 9904228139016 m) :
    EvOut m s0 (execDowntmo a0 s) := by
  unfold execDowntmo
  repeat' (first
    | with_reducible assumption
    | exact Sub.trans hm rfl
    | with_reducible apply EvOut.next
    | with_reducible apply EvOut.ite
    | with_reducible apply ok_ev
    | with_reducible apply State.linkStop_ev
    | with_reducible apply Ev.ite
    | with_reducible apply Ev.fold
    | with_reducible apply Ev.elim
    | with_reducible apply Ev.getD
    | with_reducible apply Ev.iter
    | intro _
    | dsimp only
    | split)

theorem State.retrainGo_ev {m : Nat} {s0 : State} {s : State} (a1 : Nat) (a2 : Bool) (h : Ev m s0 s) (hm : Sub 1099511627784 m) :
    Ev m s0 (State.retrainGo s a1 a2) := by
  unfold State.retrainGo
  repeat' (first
    | with_reducible assumption
    | exact Sub.trans hm rfl
    | with_reducible apply State.rsetf_ev
    | with_reducible apply State.toRetrain_ev
    | with_reducible apply State.toDetect_ev
    | with_reducible apply Ev.ite
    | with_reducible apply Ev.fold
    | with_reducible apply Ev.elim
    | with_reducible apply Ev.getD
    | with_reducible apply Ev.iter
    | intro _
    | dsimp only
    | split)

theorem State.linkCtl_ev {m : Nat} {s0 : State} {s : State} (a1 : Nat) (a2 : Sys2Proof.Word) (h : Ev m s0 s) (hm : Sub 9904228139016 m) :
    Ev m s0 (State.linkCtl s a1 a2) := by
  unfold State.linkCtl
  repeat' (first
    | with_reducible assumption
    | exact Sub.trans hm rfl
    | with_reducible apply State.writePlain_ev
    | with_reducible apply State.linkStop_ev
    | with_reducible apply State.retrainGo_ev
    | with_reducible apply State.linkStart_ev
    | with_reducible apply Ev.ite
    | with_reducible apply Ev.fold
    | with_reducible apply Ev.elim
    | with_reducible apply Ev.getD
    | with_reducible apply Ev.iter
    | intro _
    | dsimp only
    | split)

theorem execLinkEnable_ev {m : Nat} {s0 : State} (a0 : Sys2Proof.Issuer) (a1 : Fin 32) {s : State} (h : Ev m s0 s) (hm : Sub 9904228139016 m) :
    EvOut m s0 (execLinkEnable a0 a1 s) := by
  unfold execLinkEnable
  repeat' (first
    | with_reducible assumption
    | exact Sub.trans hm rfl
    | with_reducible apply EvOut.next
    | with_reducible apply EvOut.ite
    | with_reducible apply ok_ev
    | with_reducible apply State.guarded_ev
    | with_reducible apply State.linkCtl_ev
    | with_reducible apply Ev.ite
    | with_reducible apply Ev.fold
    | with_reducible apply Ev.elim
    | with_reducible apply Ev.getD
    | with_reducible apply Ev.iter
    | intro _
    | dsimp only
    | split)

theorem execLinkDisable_ev {m : Nat} {s0 : State} (a0 : Sys2Proof.Issuer) (a1 : Fin 32) {s : State} (h : Ev m s0 s) (hm : Sub 9904228139016 m) :
    EvOut m s0 (execLinkDisable a0 a1 s) := by
  unfold execLinkDisable
  repeat' (first
    | with_reducible assumption
    | exact Sub.trans hm rfl
    | with_reducible apply EvOut.next
    | with_reducible apply EvOut.ite
    | with_reducible apply ok_ev
    | with_reducible apply State.guarded_ev
    | with_reducible apply State.linkCtl_ev
    | with_reducible apply Ev.ite
    | with_reducible apply Ev.fold
    | with_reducible apply Ev.elim
    | with_reducible apply Ev.getD
    | with_reducible apply Ev.iter
    | intro _
    | dsimp only
    | split)

theorem execRetrain_ev {m : Nat} {s0 : State} (a0 : Sys2Proof.Issuer) (a1 : Fin 32) (a2 : Bool) {s : State} (h : Ev m s0 s) (hm : Sub 1099511627784 m) :
    EvOut m s0 (execRetrain a0 a1 a2 s) := by
  unfold execRetrain
  repeat' (first
    | with_reducible assumption
    | exact Sub.trans hm rfl
    | with_reducible apply EvOut.next
    | with_reducible apply EvOut.ite
    | with_reducible apply ok_ev
    | with_reducible apply State.guarded_ev
    | with_reducible apply State.retrainGo_ev
    | with_reducible apply Ev.ite
    | with_reducible apply Ev.fold
    | with_reducible apply Ev.elim
    | with_reducible apply Ev.getD
    | with_reducible apply Ev.iter
    | intro _
    | dsimp only
    | split)

end Machine

end Sys2Proof
end

