-- ==== Sys2Proof/Laws/EvIoBank.lean ====
section
/-! SUPPORT. What each operation of Machine/IoBank.lean can change, and that it keeps what no command may break (Laws/Evolve.lean). -/

set_option linter.unusedTactic false
set_option linter.unreachableTactic false
set_option linter.unusedVariables false

namespace Sys2Proof

open Machine

namespace Machine

theorem execSupply_ev {m : Nat} {s0 : State} (a0 : Fin 24) {s : State} (h : Ev m s0 s) (hm : Sub 68719476744 m) :
    EvOut m s0 (execSupply a0 s) := by
  unfold execSupply
  repeat' (first
    | with_reducible assumption
    | exact Sub.trans hm rfl
    | with_reducible apply EvOut.next
    | with_reducible apply EvOut.ite
    | with_reducible apply ok_ev
    | with_reducible apply State.padsFollow_ev
    | with_reducible apply State.sticky_ev
    | with_reducible apply Ev.each
    | with_reducible apply Ev.ite
    | with_reducible apply Ev.fold
    | with_reducible apply Ev.elim
    | with_reducible apply Ev.getD
    | with_reducible apply Ev.iter
    | intro _
    | dsimp only
    | split)

theorem execSerialFrameReceived_ev {m : Nat} {s0 : State} (a0 : Fin 48) (a1 : BitVec 36) {s : State} (h : Ev m s0 s) (hm : Sub 549755813896 m) :
    EvOut m s0 (execSerialFrameReceived a0 a1 s) := by
  unfold execSerialFrameReceived
  repeat' (first
    | with_reducible assumption
    | exact Sub.trans hm rfl
    | with_reducible apply EvOut.next
    | with_reducible apply EvOut.ite
    | with_reducible apply ok_ev
    | with_reducible apply Ev.setGroup
    | with_reducible apply State.count_ev
    | with_reducible apply State.sticky_ev
    | with_reducible apply Ev.ite
    | with_reducible apply Ev.fold
    | with_reducible apply Ev.elim
    | with_reducible apply Ev.getD
    | with_reducible apply Ev.iter
    | intro _
    | dsimp only
    | split)

theorem execAlign_ev {m : Nat} {s0 : State} (a0 : Fin 48) {s : State} (h : Ev m s0 s) (hm : Sub 8 m) :
    EvOut m s0 (execAlign a0 s) := by
  unfold execAlign
  repeat' (first
    | with_reducible assumption
    | exact Sub.trans hm rfl
    | with_reducible apply EvOut.next
    | with_reducible apply EvOut.ite
    | with_reducible apply ok_ev
    | with_reducible apply State.rsetb_ev
    | with_reducible apply Ev.ite
    | with_reducible apply Ev.fold
    | with_reducible apply Ev.elim
    | with_reducible apply Ev.getD
    | with_reducible apply Ev.iter
    | intro _
    | dsimp only
    | split)

theorem execSyncerr_ev {m : Nat} {s0 : State} (a0 : Fin 48) {s : State} (h : Ev m s0 s) (hm : Sub 8 m) :
    EvOut m s0 (execSyncerr a0 s) := by
  unfold execSyncerr
  repeat' (first
    | with_reducible assumption
    | exact Sub.trans hm rfl
    | with_reducible apply EvOut.next
    | with_reducible apply EvOut.ite
    | with_reducible apply ok_ev
    | with_reducible apply State.count_ev
    | with_reducible apply State.sticky_ev
    | with_reducible apply State.rsetb_ev
    | with_reducible apply Ev.ite
    | with_reducible apply Ev.fold
    | with_reducible apply Ev.elim
    | with_reducible apply Ev.getD
    | with_reducible apply Ev.iter
    | intro _
    | dsimp only
    | split)

theorem State.sends_ev {m : Nat} {s0 : State} {s : State} (a1 : Nat) (a2 : BitVec 36) (h : Ev m s0 s) (hm : Sub 549755813888 m) :
    Ev m s0 (State.sends s a1 a2) := by
  unfold State.sends
  repeat' (first
    | with_reducible assumption
    | exact Sub.trans hm rfl
    | with_reducible apply Ev.setGroup
    | with_reducible apply Ev.ite
    | with_reducible apply Ev.fold
    | with_reducible apply Ev.elim
    | with_reducible apply Ev.getD
    | with_reducible apply Ev.iter
    | intro _
    | dsimp only
    | split)

theorem execSerialWordTransmit_ev {m : Nat} {s0 : State} (a0 : Sys2Proof.Coded (Fin 48)) {s : State} (h : Ev m s0 s) (hm : Sub 288231039632244746 m) :
    EvOut m s0 (execSerialWordTransmit a0 s) := by
  unfold execSerialWordTransmit
  repeat' (first
    | with_reducible assumption
    | exact Sub.trans hm rfl
    | with_reducible apply EvOut.next
    | with_reducible apply EvOut.ite
    | with_reducible apply ok_ev
    | with_reducible apply State.bumpFree_ev
    | with_reducible apply State.sends_ev
    | with_reducible apply State.codeReport_ev
    | with_reducible apply Ev.setChan
    | with_reducible apply Ev.ite
    | with_reducible apply Ev.fold
    | with_reducible apply Ev.elim
    | with_reducible apply Ev.getD
    | with_reducible apply Ev.iter
    | intro _
    | dsimp only
    | split)

theorem execPadSwitchComplete_ev {m : Nat} {s0 : State} (a0 : Fin 768) {s : State} (h : Ev m s0 s) (hm : Sub 343597383680 m) :
    EvOut m s0 (execPadSwitchComplete a0 s) := by
  unfold execPadSwitchComplete
  repeat' (first
    | with_reducible assumption
    | exact Sub.trans hm rfl
    | with_reducible apply EvOut.next
    | with_reducible apply EvOut.ite
    | with_reducible apply ok_ev
    | with_reducible apply State.padFollow_ev
    | with_reducible apply Ev.setPad
    | with_reducible apply Ev.setPin
    | with_reducible apply Ev.ite
    | with_reducible apply Ev.fold
    | with_reducible apply Ev.elim
    | with_reducible apply Ev.getD
    | with_reducible apply Ev.iter
    | intro _
    | dsimp only
    | split)

end Machine

end Sys2Proof
end

