-- ==== Sys2Proof/Laws/EvMoves.lean ====
section
/-! SUPPORT. What each operation of Machine/Moves.lean can change, and that it keeps what no command may break (Laws/Evolve.lean). -/

set_option linter.unusedTactic false
set_option linter.unreachableTactic false
set_option linter.unusedVariables false

namespace Sys2Proof

open Machine

namespace Machine

theorem State.deliverOut_ev {m : Nat} {s0 : State} {s : State} (a1 : Nat) (a2 : Nat) (a3 : Sys2Proof.Tok) (h : Ev m s0 s) (hm : Sub 2883584 m) :
    EvOpt m s0 (State.deliverOut s a1 a2 a3) := by
  unfold State.deliverOut
  repeat' (first
    | with_reducible assumption
    | exact Sub.trans hm rfl
    | with_reducible apply EvOpt.some
    | with_reducible exact EvOpt.none
    | with_reducible apply EvOpt.map
    | with_reducible apply EvOpt.ite
    | with_reducible apply Ev.setAport
    | with_reducible apply State.feed_ev
    | with_reducible apply Ev.setBsrc
    | with_reducible refine State.feed_evq ‹_› ?_ ?_
    | with_reducible apply Ev.ite
    | with_reducible apply Ev.fold
    | with_reducible apply Ev.elim
    | with_reducible apply Ev.getD
    | with_reducible apply Ev.iter
    | intro _
    | dsimp only
    | split)

theorem State.deliverOut_evq {m : Nat} {s0 : State} {t : State} {s : State} {a1 : Nat} {a2 : Nat} {a3 : Sys2Proof.Tok} (e : (State.deliverOut s a1 a2 a3) = some t) (h : Ev m s0 s) (hm : Sub 2883584 m) : Ev m s0 t :=
  (State.deliverOut_ev a1 a2 a3 h hm).get t e

theorem State.intoSink_ev {m : Nat} {s0 : State} {s : State} (a1 : Nat) (a2 : Nat) (a3 : Sys2Proof.Tok) (h : Ev m s0 s) (hm : Sub 15466496 m) :
    EvOpt m s0 (State.intoSink s a1 a2 a3) := by
  unfold State.intoSink
  repeat' (first
    | with_reducible assumption
    | exact Sub.trans hm rfl
    | with_reducible apply EvOpt.some
    | with_reducible exact EvOpt.none
    | with_reducible apply EvOpt.map
    | with_reducible apply EvOpt.ite
    | with_reducible apply State.bmTake_ev
    | with_reducible apply Ev.setTwin
    | with_reducible apply State.deliverOut_ev
    | with_reducible refine State.deliverOut_evq ‹_› ?_ ?_
    | with_reducible apply Ev.ite
    | with_reducible apply Ev.fold
    | with_reducible apply Ev.elim
    | with_reducible apply Ev.getD
    | with_reducible apply Ev.iter
    | intro _
    | dsimp only
    | split)

theorem State.intoSink_evq {m : Nat} {s0 : State} {t : State} {s : State} {a1 : Nat} {a2 : Nat} {a3 : Sys2Proof.Tok} (e : (State.intoSink s a1 a2 a3) = some t) (h : Ev m s0 s) (hm : Sub 15466496 m) : Ev m s0 t :=
  (State.intoSink_ev a1 a2 a3 h hm).get t e

theorem State.sinkTake_ev {m : Nat} {s0 : State} {s : State} (a1 : Nat) (a2 : Nat) (a3 : BitVec 17) (h : Ev m s0 s) (hm : Sub 2475880078858991589437325322 m) :
    Ev m s0 (State.sinkTake s a1 a2 a3) := by
  unfold State.sinkTake
  repeat' (first
    | with_reducible assumption
    | exact Sub.trans hm rfl
    | with_reducible apply State.takeFrom_ev
    | with_reducible apply State.intoSink_ev
    | with_reducible apply State.codeReport_ev
    | with_reducible refine State.intoSink_evq ‹_› ?_ ?_
    | with_reducible apply Ev.ite
    | with_reducible apply Ev.fold
    | with_reducible apply Ev.elim
    | with_reducible apply Ev.getD
    | with_reducible apply Ev.iter
    | intro _
    | dsimp only
    | split)

theorem State.stageMove_ev {m : Nat} {s0 : State} {s : State} (a1 : Sys2Proof.Word) (a2 : Nat) (a3 : BitVec 17) (h : Ev m s0 s) (hm : Sub 288231039632244746 m) :
    Ev m s0 (State.stageMove s a1 a2 a3) := by
  unfold State.stageMove
  repeat' (first
    | with_reducible assumption
    | exact Sub.trans hm rfl
    | with_reducible apply State.codeReport_ev
    | with_reducible apply Ev.setChan
    | with_reducible apply Ev.ite
    | with_reducible apply Ev.fold
    | with_reducible apply Ev.elim
    | with_reducible apply Ev.getD
    | with_reducible apply Ev.iter
    | intro _
    | dsimp only
    | split)

theorem State.pinTake_ev {m : Nat} {s0 : State} {s : State} (a1 : Nat) (a2 : Bool) (a3 : BitVec 17) (h : Ev m s0 s) (hm : Sub 288231039632244746 m) :
    Ev m s0 (State.pinTake s a1 a2 a3) := by
  unfold State.pinTake
  repeat' (first
    | with_reducible assumption
    | exact Sub.trans hm rfl
    | with_reducible apply Ev.setChan
    | with_reducible apply Ev.setPin
    | with_reducible apply State.codeReport_ev
    | with_reducible apply Ev.ite
    | with_reducible apply Ev.fold
    | with_reducible apply Ev.elim
    | with_reducible apply Ev.getD
    | with_reducible apply Ev.iter
    | intro _
    | dsimp only
    | split)

theorem State.capGive_ev {m : Nat} {s0 : State} {s : State} (a1 : Nat) (a2 : BitVec 17) (h : Ev m s0 s) (hm : Sub 288231039632244746 m) :
    Ev m s0 (State.capGive s a1 a2) := by
  unfold State.capGive
  repeat' (first
    | with_reducible assumption
    | exact Sub.trans hm rfl
    | with_reducible apply State.feedBad_ev
    | with_reducible apply Ev.rput
    | with_reducible apply Ev.setPin
    | with_reducible refine State.feedBad_evq ‹_› ?_ ?_
    | with_reducible apply Ev.ite
    | with_reducible apply Ev.fold
    | with_reducible apply Ev.elim
    | with_reducible apply Ev.getD
    | with_reducible apply Ev.iter
    | intro _
    | dsimp only
    | split)

theorem State.hopGive_ev {m : Nat} {s0 : State} {s : State} (a1 : Nat) (a2 : BitVec 35) (a3 : Bool) (a4 : BitVec 17) (h : Ev m s0 s) (hm : Sub 288231039632244746 m) :
    Ev m s0 (State.hopGive s a1 a2 a3 a4) := by
  unfold State.hopGive
  repeat' (first
    | with_reducible assumption
    | exact Sub.trans hm rfl
    | with_reducible apply State.hopDeliver_ev
    | with_reducible apply State.hopDeliver_ev1
    | with_reducible apply State.feedBad_ev
    | with_reducible refine State.hopDeliver_evq ‹_› ?_ ?_
    | with_reducible refine State.feedBad_evq ‹_› ?_ ?_
    | with_reducible apply Ev.ite
    | with_reducible apply Ev.fold
    | with_reducible apply Ev.elim
    | with_reducible apply Ev.getD
    | with_reducible apply Ev.iter
    | intro _
    | dsimp only
    | split)

theorem State.dnGive_ev {m : Nat} {s0 : State} {s : State} (a1 : Nat) (a2 : BitVec 17) (h : Ev m s0 s) (hm : Sub 1237940039573611314531368970 m) :
    Ev m s0 (State.dnGive s a1 a2) := by
  unfold State.dnGive
  repeat' (first
    | with_reducible assumption
    | exact Sub.trans hm rfl
    | with_reducible apply State.feedBad_ev
    | with_reducible apply pulseNext_ev
    | with_reducible apply Ev.setDnf
    | with_reducible refine State.feedBad_evq ‹_› ?_ ?_
    | with_reducible apply Ev.ite
    | with_reducible apply Ev.fold
    | with_reducible apply Ev.elim
    | with_reducible apply Ev.getD
    | with_reducible apply Ev.iter
    | intro _
    | dsimp only
    | split)

theorem State.serialGive_ev {m : Nat} {s0 : State} {s : State} (a1 : Nat) (a2 : BitVec 17) (h : Ev m s0 s) (hm : Sub 288231039632244746 m) :
    Ev m s0 (State.serialGive s a1 a2) := by
  unfold State.serialGive
  repeat' (first
    | with_reducible assumption
    | exact Sub.trans hm rfl
    | with_reducible apply State.feedBad_ev
    | with_reducible apply Ev.setGroup
    | with_reducible refine State.feedBad_evq ‹_› ?_ ?_
    | with_reducible apply Ev.ite
    | with_reducible apply Ev.fold
    | with_reducible apply Ev.elim
    | with_reducible apply Ev.getD
    | with_reducible apply Ev.iter
    | intro _
    | dsimp only
    | split)

theorem execTokenMove_ev {m : Nat} {s0 : State} (a0 : Sys2Proof.Move) (a1 : BitVec 17) {s : State} (h : Ev m s0 s) (hm : Sub 3713820118144371864420335626 m) :
    EvOut m s0 (execTokenMove a0 a1 s) := by
  unfold execTokenMove
  repeat' (first
    | with_reducible assumption
    | exact Sub.trans hm rfl
    | with_reducible apply EvOut.next
    | with_reducible apply EvOut.ite
    | with_reducible apply ok_ev
    | with_reducible apply State.laneMove_ev
    | with_reducible apply State.sinkTake_ev
    | with_reducible apply State.stageMove_ev
    | with_reducible apply State.pinTake_ev
    | with_reducible apply State.capGive_ev
    | with_reducible apply State.hopGive_ev
    | with_reducible apply State.dnGive_ev
    | with_reducible apply State.serialGive_ev
    | with_reducible apply Ev.ite
    | with_reducible apply Ev.fold
    | with_reducible apply Ev.elim
    | with_reducible apply Ev.getD
    | with_reducible apply Ev.iter
    | intro _
    | dsimp only
    | split)

end Machine

end Sys2Proof
end

