-- ==== Sys2Proof/Laws/EvPowerChange.lean ====
section
/-! SUPPORT. What each operation of Machine/PowerChange.lean can change, and that it keeps what no command may break (Laws/Evolve.lean). -/

set_option linter.unusedTactic false
set_option linter.unreachableTactic false
set_option linter.unusedVariables false

namespace Sys2Proof

open Machine

namespace Machine

theorem State.clearLatches_ev {m : Nat} {s0 : State} {s : State} (a1 : Nat) (h : Ev m s0 s) (hm : Sub 131072 m) :
    Ev m s0 (State.clearLatches s a1) := by
  unfold State.clearLatches
  repeat' (first
    | with_reducible assumption
    | exact Sub.trans hm rfl
    | with_reducible apply Ev.ite
    | with_reducible apply Ev.fold
    | with_reducible apply Ev.elim
    | with_reducible apply Ev.getD
    | with_reducible apply Ev.iter
    | (intro c; first | with_reducible exact Store.wf_nil _ | with_reducible exact rfl | with_reducible exact Store.wf_put _ _ _ c | with_reducible exact Store.wf_putBytes _ _ c | with_reducible exact Store.wf_keep _ _ c | with_reducible exact Store.wf_mapVals _ _ (Store.wf_iff.1 c).1 | with_reducible exact Store.rising_filter _ c | with_reducible exact Store.rising_put _ _ _ c | with_reducible exact Store.wf_filter _ _ c | with_reducible exact Store.wf_copyRange _ _ c _ | with_reducible exact Store.wf_dup _ _ _ _ c | with_reducible exact c | exact Store.wf_filter _ _ c | exact Store.wf_filter _ _ (Store.wf_filter _ _ c) | exact Store.rising_filter _ c | exact Store.rising_filter _ (Store.rising_filter _ c) | exact Store.wf_put _ _ _ c)
    | intro _
    | dsimp only
    | split
    | with_reducible apply Ev.set_cfg)

theorem State.emptyCluster_ev {m : Nat} {s0 : State} {s : State} (a1 : Nat) (h : Ev m s0 s) (hm : Sub 12599296 m) :
    Ev m s0 (State.emptyCluster s a1) := by
  unfold State.emptyCluster
  repeat' (first
    | with_reducible assumption
    | exact Sub.trans hm rfl
    | with_reducible apply Ev.ite
    | with_reducible apply Ev.fold
    | with_reducible apply Ev.elim
    | with_reducible apply Ev.getD
    | with_reducible apply Ev.iter
    | (intro c; first | with_reducible exact Store.wf_nil _ | with_reducible exact rfl | with_reducible exact Store.wf_put _ _ _ c | with_reducible exact Store.wf_putBytes _ _ c | with_reducible exact Store.wf_keep _ _ c | with_reducible exact Store.wf_mapVals _ _ (Store.wf_iff.1 c).1 | with_reducible exact Store.rising_filter _ c | with_reducible exact Store.rising_put _ _ _ c | with_reducible exact Store.wf_filter _ _ c | with_reducible exact Store.wf_copyRange _ _ c _ | with_reducible exact Store.wf_dup _ _ _ _ c | with_reducible exact c | exact Store.wf_filter _ _ c | exact Store.wf_filter _ _ (Store.wf_filter _ _ c) | exact Store.rising_filter _ c | exact Store.rising_filter _ (Store.rising_filter _ c) | exact Store.wf_put _ _ _ c)
    | intro _
    | dsimp only
    | split
    | with_reducible apply Ev.set_cells_bports_twins)

theorem State.emptyPorts_ev {m : Nat} {s0 : State} {s : State} (a1 : Nat) (a2 : Nat) (h : Ev m s0 s) (hm : Sub 2621440 m) :
    Ev m s0 (State.emptyPorts s a1 a2) := by
  unfold State.emptyPorts
  repeat' (first
    | with_reducible assumption
    | exact Sub.trans hm rfl
    | with_reducible apply Ev.setBsrc
    | with_reducible apply Ev.each
    | with_reducible apply Ev.setAport
    | with_reducible apply Ev.ite
    | with_reducible apply Ev.fold
    | with_reducible apply Ev.elim
    | with_reducible apply Ev.getD
    | with_reducible apply Ev.iter
    | intro _
    | dsimp only
    | split)

theorem State.latch_ev {m : Nat} {s0 : State} {s : State} (a1 : Nat) (a2 : Nat) (a3 : Nat) (a4 : List Sys2Proof.Byte) (h : Ev m s0 s) (hm : Sub 131072 m) :
    Ev m s0 (State.latch s a1 a2 a3 a4) := by
  unfold State.latch
  repeat' (first
    | with_reducible assumption
    | exact Sub.trans hm rfl
    | with_reducible apply Ev.ite
    | with_reducible apply Ev.fold
    | with_reducible apply Ev.elim
    | with_reducible apply Ev.getD
    | with_reducible apply Ev.iter
    | (intro c; first | with_reducible exact Store.wf_nil _ | with_reducible exact rfl | with_reducible exact Store.wf_put _ _ _ c | with_reducible exact Store.wf_putBytes _ _ c | with_reducible exact Store.wf_keep _ _ c | with_reducible exact Store.wf_mapVals _ _ (Store.wf_iff.1 c).1 | with_reducible exact Store.rising_filter _ c | with_reducible exact Store.rising_put _ _ _ c | with_reducible exact Store.wf_filter _ _ c | with_reducible exact Store.wf_copyRange _ _ c _ | with_reducible exact Store.wf_dup _ _ _ _ c | with_reducible exact c | exact Store.wf_filter _ _ c | exact Store.wf_filter _ _ (Store.wf_filter _ _ c) | exact Store.rising_filter _ c | exact Store.rising_filter _ (Store.rising_filter _ c) | exact Store.wf_put _ _ _ c)
    | intro _
    | dsimp only
    | split
    | with_reducible apply Ev.set_cfg)

theorem State.bmFrame_ev {m : Nat} {s0 : State} {s : State} (a1 : Nat) (a2 : Nat) (a3 : List Sys2Proof.Byte) (h : Ev m s0 s) (hm : Sub 4294967296 m) :
    Ev m s0 (State.bmFrame s a1 a2 a3) := by
  unfold State.bmFrame
  repeat' (first
    | with_reducible assumption
    | exact Sub.trans hm rfl
    | with_reducible apply State.bmStore_ev
    | with_reducible apply Ev.ite
    | with_reducible apply Ev.fold
    | with_reducible apply Ev.elim
    | with_reducible apply Ev.getD
    | with_reducible apply Ev.iter
    | intro _
    | dsimp only
    | split)

theorem State.cellUnstick_ev {m : Nat} {s0 : State} {s : State} (a1 : Nat) (h : Ev m s0 s) (hm : Sub 8 m) :
    Ev m s0 (State.cellUnstick s a1) := by
  unfold State.cellUnstick
  repeat' (first
    | with_reducible assumption
    | exact Sub.trans hm rfl
    | with_reducible apply Ev.rput
    | with_reducible apply Ev.ite
    | with_reducible apply Ev.fold
    | with_reducible apply Ev.elim
    | with_reducible apply Ev.getD
    | with_reducible apply Ev.iter
    | intro _
    | dsimp only
    | split)

theorem State.cellFramed_ev {m : Nat} {s0 : State} {s : State} (a1 : Nat) (h : Ev m s0 s) (hm : Sub 16392 m) :
    Ev m s0 (State.cellFramed s a1) := by
  unfold State.cellFramed
  repeat' (first
    | with_reducible assumption
    | exact Sub.trans hm rfl
    | with_reducible apply State.cellUnstick_ev
    | with_reducible apply State.resetCell_ev
    | with_reducible apply Ev.ite
    | with_reducible apply Ev.fold
    | with_reducible apply Ev.elim
    | with_reducible apply Ev.getD
    | with_reducible apply Ev.iter
    | intro _
    | dsimp only
    | split)

theorem State.restoreLatches_ev {m : Nat} {s0 : State} {s : State} (a1 : Nat) (a2 : Nat) (a3 : Nat) (h : Ev m s0 s) (hm : Sub 154742504910672534362537992 m) :
    Ev m s0 (State.restoreLatches s a1 a2 a3) := by
  unfold State.restoreLatches
  repeat' (first
    | with_reducible assumption
    | exact Sub.trans hm rfl
    | with_reducible apply Ev.each
    | with_reducible apply State.engineOn_ev
    | with_reducible apply State.cellFramed_ev
    | with_reducible apply Ev.ite
    | with_reducible apply Ev.fold
    | with_reducible apply Ev.elim
    | with_reducible apply Ev.getD
    | with_reducible apply Ev.iter
    | (intro c; first | with_reducible exact Store.wf_nil _ | with_reducible exact rfl | with_reducible exact Store.wf_put _ _ _ c | with_reducible exact Store.wf_putBytes _ _ c | with_reducible exact Store.wf_keep _ _ c | with_reducible exact Store.wf_mapVals _ _ (Store.wf_iff.1 c).1 | with_reducible exact Store.rising_filter _ c | with_reducible exact Store.rising_put _ _ _ c | with_reducible exact Store.wf_filter _ _ c | with_reducible exact Store.wf_copyRange _ _ c _ | with_reducible exact Store.wf_dup _ _ _ _ c | with_reducible exact c | exact Store.wf_filter _ _ c | exact Store.wf_filter _ _ (Store.wf_filter _ _ c) | exact Store.rising_filter _ c | exact Store.rising_filter _ (Store.rising_filter _ c) | exact Store.wf_put _ _ _ c)
    | intro _
    | dsimp only
    | split
    | with_reducible apply Ev.set_cfg)

theorem State.restoreData_ev {m : Nat} {s0 : State} {s : State} (a1 : Nat) (a2 : Nat) (a3 : Nat) (h : Ev m s0 s) (hm : Sub 4294967296 m) :
    Ev m s0 (State.restoreData s a1 a2 a3) := by
  unfold State.restoreData
  repeat' (first
    | with_reducible assumption
    | exact Sub.trans hm rfl
    | with_reducible apply Ev.each
    | with_reducible apply State.bmFrame_ev
    | with_reducible apply Ev.ite
    | with_reducible apply Ev.fold
    | with_reducible apply Ev.elim
    | with_reducible apply Ev.getD
    | with_reducible apply Ev.iter
    | intro _
    | dsimp only
    | split)

theorem State.restoreCluster_ev {m : Nat} {s0 : State} {s : State} (a1 : Nat) (h : Ev m s0 s) (hm : Sub 154742504910672540805054472 m) :
    Ev m s0 (State.restoreCluster s a1) := by
  unfold State.restoreCluster
  repeat' (first
    | with_reducible assumption
    | exact Sub.trans hm rfl
    | with_reducible apply State.restoreData_ev
    | with_reducible apply State.restoreLatches_ev
    | with_reducible apply Ev.setClu
    | with_reducible apply Ev.each
    | with_reducible apply State.rsetb_ev
    | with_reducible apply Ev.setBmem
    | with_reducible apply Ev.ite
    | with_reducible apply Ev.fold
    | with_reducible apply Ev.elim
    | with_reducible apply Ev.getD
    | with_reducible apply Ev.iter
    | intro _
    | dsimp only
    | split)

theorem State.breakOf_ev {m : Nat} {s0 : State} {s : State} (a1 : Nat) (h : Ev m s0 s) (hm : Sub 8589934600 m) :
    Ev m s0 (State.breakOf s a1) := by
  unfold State.breakOf
  repeat' (first
    | with_reducible assumption
    | exact Sub.trans hm rfl
    | with_reducible apply State.breakLocks_ev
    | with_reducible apply Ev.ite
    | with_reducible apply Ev.fold
    | with_reducible apply Ev.elim
    | with_reducible apply Ev.getD
    | with_reducible apply Ev.iter
    | intro _
    | dsimp only
    | split)

theorem State.dropTaps_ev {m : Nat} {s0 : State} {s : State} (a1 : Nat) (h : Ev m s0 s) (hm : Sub 1048576 m) :
    Ev m s0 (State.dropTaps s a1) := by
  unfold State.dropTaps
  repeat' (first
    | with_reducible assumption
    | exact Sub.trans hm rfl
    | with_reducible apply Ev.each
    | with_reducible apply Ev.setBline
    | with_reducible apply Ev.ite
    | with_reducible apply Ev.fold
    | with_reducible apply Ev.elim
    | with_reducible apply Ev.getD
    | with_reducible apply Ev.iter
    | intro _
    | dsimp only
    | split)

theorem State.cluChange_ev {m : Nat} {s0 : State} {s : State} (a1 : Nat) (a2 : Nat) (a3 : Nat) (h : Ev m s0 s) (hm : Sub 464227514732017618136023048 m) :
    Ev m s0 (State.cluChange s a1 a2 a3) := by
  unfold State.cluChange
  repeat' (first
    | with_reducible assumption
    | exact Sub.trans hm rfl
    | with_reducible apply State.dropTaps_ev
    | with_reducible apply State.breakOf_ev
    | with_reducible apply Ev.each
    | with_reducible apply State.emptyCluster_ev
    | with_reducible apply State.clearLatches_ev
    | with_reducible apply State.cellUnstick_ev
    | with_reducible apply State.rsetb_ev
    | with_reducible apply Ev.setBmem
    | with_reducible apply State.emptyPorts_ev
    | with_reducible apply Ev.setClu
    | with_reducible apply State.powerUp_ev
    | with_reducible apply State.restoreCluster_ev
    | with_reducible apply Ev.ite
    | with_reducible apply Ev.fold
    | with_reducible apply Ev.elim
    | with_reducible apply Ev.getD
    | with_reducible apply Ev.iter
    | (intro c; first | with_reducible exact Store.wf_nil _ | with_reducible exact rfl | with_reducible exact Store.wf_put _ _ _ c | with_reducible exact Store.wf_putBytes _ _ c | with_reducible exact Store.wf_keep _ _ c | with_reducible exact Store.wf_mapVals _ _ (Store.wf_iff.1 c).1 | with_reducible exact Store.rising_filter _ c | with_reducible exact Store.rising_put _ _ _ c | with_reducible exact Store.wf_filter _ _ c | with_reducible exact Store.wf_copyRange _ _ c _ | with_reducible exact Store.wf_dup _ _ _ _ c | with_reducible exact c | exact Store.wf_filter _ _ c | exact Store.wf_filter _ _ (Store.wf_filter _ _ c) | exact Store.rising_filter _ c | exact Store.rising_filter _ (Store.rising_filter _ c) | exact Store.wf_put _ _ _ c)
    | intro _
    | dsimp only
    | split
    | with_reducible apply Ev.set_bbytes)

theorem State.bankChange_ev {m : Nat} {s0 : State} {s : State} (a1 : Nat) (a2 : Nat) (a3 : Nat) (h : Ev m s0 s) (hm : Sub 309485009821345094494584832 m) :
    Ev m s0 (State.bankChange s a1 a2 a3) := by
  unfold State.bankChange
  repeat' (first
    | with_reducible assumption
    | exact Sub.trans hm rfl
    | with_reducible apply State.maintOver_ev
    | with_reducible apply Ev.setBank
    | with_reducible apply State.powerUp_ev
    | with_reducible apply Ev.ite
    | with_reducible apply Ev.fold
    | with_reducible apply Ev.elim
    | with_reducible apply Ev.getD
    | with_reducible apply Ev.iter
    | (intro c; first | with_reducible exact Store.wf_nil _ | with_reducible exact rfl | with_reducible exact Store.wf_put _ _ _ c | with_reducible exact Store.wf_putBytes _ _ c | with_reducible exact Store.wf_keep _ _ c | with_reducible exact Store.wf_mapVals _ _ (Store.wf_iff.1 c).1 | with_reducible exact Store.rising_filter _ c | with_reducible exact Store.rising_put _ _ _ c | with_reducible exact Store.wf_filter _ _ c | with_reducible exact Store.wf_copyRange _ _ c _ | with_reducible exact Store.wf_dup _ _ _ _ c | with_reducible exact c | exact Store.wf_filter _ _ c | exact Store.wf_filter _ _ (Store.wf_filter _ _ c) | exact Store.rising_filter _ c | exact Store.rising_filter _ (Store.rising_filter _ c) | exact Store.wf_put _ _ _ c)
    | intro _
    | dsimp only
    | split
    | with_reducible apply Ev.set_swords)

theorem State.ioChange_ev {m : Nat} {s0 : State} {s : State} (a1 : Nat) (a2 : Nat) (h : Ev m s0 s) (hm : Sub 618475290632 m) :
    Ev m s0 (State.ioChange s a1 a2) := by
  unfold State.ioChange
  repeat' (first
    | with_reducible assumption
    | exact Sub.trans hm rfl
    | with_reducible apply Ev.each
    | with_reducible apply State.groupStop_ev
    | with_reducible apply State.padsFollow_ev
    | with_reducible apply Ev.ite
    | with_reducible apply Ev.fold
    | with_reducible apply Ev.elim
    | with_reducible apply Ev.getD
    | with_reducible apply Ev.iter
    | intro _
    | dsimp only
    | split)

theorem State.linkChange_ev {m : Nat} {s0 : State} {s : State} (a1 : Nat) (a2 : Nat) (a3 : Nat) (h : Ev m s0 s) (hm : Sub 9904228139016 m) :
    Ev m s0 (State.linkChange s a1 a2 a3) := by
  unfold State.linkChange
  repeat' (first
    | with_reducible assumption
    | exact Sub.trans hm rfl
    | with_reducible apply State.linkStop_ev
    | with_reducible apply State.rsetb_ev
    | with_reducible apply State.toRetrain_ev
    | with_reducible apply State.toDetect_ev
    | with_reducible apply State.linkStart_ev
    | with_reducible apply Ev.ite
    | with_reducible apply Ev.fold
    | with_reducible apply Ev.elim
    | with_reducible apply Ev.getD
    | with_reducible apply Ev.iter
    | intro _
    | dsimp only
    | split)

theorem State.dieCold_ev {m : Nat} {s0 : State} {s : State} (a1 : Nat) (h : Ev m s0 s) (hm : Sub 250336878600 m) :
    Ev m s0 (State.dieCold s a1) := by
  unfold State.dieCold
  repeat' (first
    | with_reducible assumption
    | exact Sub.trans hm rfl
    | with_reducible apply Ev.each
    | with_reducible apply State.breakLocks_ev
    | with_reducible apply Ev.setBank
    | with_reducible apply Ev.ite
    | with_reducible apply Ev.fold
    | with_reducible apply Ev.elim
    | with_reducible apply Ev.getD
    | with_reducible apply Ev.iter
    | (intro c; first | with_reducible exact Store.wf_nil _ | with_reducible exact rfl | with_reducible exact Store.wf_put _ _ _ c | with_reducible exact Store.wf_putBytes _ _ c | with_reducible exact Store.wf_keep _ _ c | with_reducible exact Store.wf_mapVals _ _ (Store.wf_iff.1 c).1 | with_reducible exact Store.rising_filter _ c | with_reducible exact Store.rising_put _ _ _ c | with_reducible exact Store.wf_filter _ _ c | with_reducible exact Store.wf_copyRange _ _ c _ | with_reducible exact Store.wf_dup _ _ _ _ c | with_reducible exact c | exact Store.wf_filter _ _ c | exact Store.wf_filter _ _ (Store.wf_filter _ _ c) | exact Store.rising_filter _ c | exact Store.rising_filter _ (Store.rising_filter _ c) | exact Store.wf_put _ _ _ c)
    | intro _
    | dsimp only
    | split
    | with_reducible apply Ev.set_regs_spine_regions_clus_chans_aports_blines_bsrcs_lanes_pairs_swapWant_hops_pins_spinePrevs)

theorem State.serialReset_ev {m : Nat} {s0 : State} {s : State} (h : Ev m s0 s) (hm : Sub 8264141345021879123968 m) :
    Ev m s0 (State.serialReset s) := by
  unfold State.serialReset
  repeat' (first
    | with_reducible assumption
    | exact Sub.trans hm rfl
    | with_reducible apply Ev.ite
    | with_reducible apply Ev.fold
    | with_reducible apply Ev.elim
    | with_reducible apply Ev.getD
    | with_reducible apply Ev.iter
    | (intro c; first | with_reducible exact Store.wf_nil _ | with_reducible exact rfl | with_reducible exact Store.wf_put _ _ _ c | with_reducible exact Store.wf_putBytes _ _ c | with_reducible exact Store.wf_keep _ _ c | with_reducible exact Store.wf_mapVals _ _ (Store.wf_iff.1 c).1 | with_reducible exact Store.rising_filter _ c | with_reducible exact Store.rising_put _ _ _ c | with_reducible exact Store.wf_filter _ _ c | with_reducible exact Store.wf_copyRange _ _ c _ | with_reducible exact Store.wf_dup _ _ _ _ c | with_reducible exact c | exact Store.wf_filter _ _ c | exact Store.wf_filter _ _ (Store.wf_filter _ _ c) | exact Store.rising_filter _ c | exact Store.rising_filter _ (Store.rising_filter _ c) | exact Store.wf_put _ _ _ c)
    | intro _
    | dsimp only
    | split
    | with_reducible apply Ev.set_uarts_spi_i2cs)

theorem State.baseChange_ev {m : Nat} {s0 : State} {s : State} (a1 : Nat) (a2 : Nat) (h : Ev m s0 s) (hm : Sub 17708874310761169551368 m) :
    Ev m s0 (State.baseChange s a1 a2) := by
  unfold State.baseChange
  repeat' (first
    | with_reducible assumption
    | exact Sub.trans hm rfl
    | with_reducible apply State.rsetb_ev
    | with_reducible apply Ev.setCore
    | with_reducible apply State.serialReset_ev
    | with_reducible apply Ev.ite
    | with_reducible apply Ev.fold
    | with_reducible apply Ev.elim
    | with_reducible apply Ev.getD
    | with_reducible apply Ev.iter
    | (intro c; first | with_reducible exact Store.wf_nil _ | with_reducible exact rfl | with_reducible exact Store.wf_put _ _ _ c | with_reducible exact Store.wf_putBytes _ _ c | with_reducible exact Store.wf_keep _ _ c | with_reducible exact Store.wf_mapVals _ _ (Store.wf_iff.1 c).1 | with_reducible exact Store.rising_filter _ c | with_reducible exact Store.rising_put _ _ _ c | with_reducible exact Store.wf_filter _ _ c | with_reducible exact Store.wf_copyRange _ _ c _ | with_reducible exact Store.wf_dup _ _ _ _ c | with_reducible exact c | exact Store.wf_filter _ _ c | exact Store.wf_filter _ _ (Store.wf_filter _ _ c) | exact Store.rising_filter _ c | exact Store.rising_filter _ (Store.rising_filter _ c) | exact Store.wf_put _ _ _ c)
    | intro _
    | dsimp only
    | split
    | with_reducible apply Ev.set_regs)

theorem State.domApply_ev {m : Nat} {s0 : State} {s : State} (a1 : Nat) (a2 : Nat) (h : Ev m s0 s) (hm : Sub 464245223606339083622670344 m) :
    Ev m s0 (State.domApply s a1 a2) := by
  unfold State.domApply
  repeat' (first
    | with_reducible assumption
    | exact Sub.trans hm rfl
    | with_reducible apply State.rsetb_ev
    | with_reducible apply State.rsetf_ev
    | with_reducible apply State.cluChange_ev
    | with_reducible apply State.bankChange_ev
    | with_reducible apply State.ioChange_ev
    | with_reducible apply State.linkChange_ev
    | with_reducible apply State.dieCold_ev
    | with_reducible apply State.baseChange_ev
    | with_reducible apply Ev.ite
    | with_reducible apply Ev.fold
    | with_reducible apply Ev.elim
    | with_reducible apply Ev.getD
    | with_reducible apply Ev.iter
    | intro _
    | dsimp only
    | split)

theorem State.domDone_ev {m : Nat} {s0 : State} {s : State} (a1 : Nat) (h : Ev m s0 s) (hm : Sub 464245223606339083622670344 m) :
    Ev m s0 (State.domDone s a1) := by
  unfold State.domDone
  repeat' (first
    | with_reducible assumption
    | exact Sub.trans hm rfl
    | with_reducible apply State.domRelease_ev
    | with_reducible apply Ev.setDomSt
    | with_reducible apply State.rsetb_ev
    | with_reducible apply State.domApply_ev
    | with_reducible apply Ev.ite
    | with_reducible apply Ev.fold
    | with_reducible apply Ev.elim
    | with_reducible apply Ev.getD
    | with_reducible apply Ev.iter
    | intro _
    | dsimp only
    | split)

theorem State.lightOne_ev {m : Nat} {s0 : State} {s : State} (a1 : Nat) (h : Ev m s0 s) (hm : Sub 464245223606339083622670344 m) :
    Ev m s0 (State.lightOne s a1) := by
  unfold State.lightOne
  repeat' (first
    | with_reducible assumption
    | exact Sub.trans hm rfl
    | with_reducible apply State.domApply_ev
    | with_reducible apply State.rsetb_ev
    | with_reducible apply Ev.setDomSt
    | with_reducible apply Ev.ite
    | with_reducible apply Ev.fold
    | with_reducible apply Ev.elim
    | with_reducible apply Ev.getD
    | with_reducible apply Ev.iter
    | intro _
    | dsimp only
    | split)

theorem State.light_ev {m : Nat} {s0 : State} {s : State} (a1 : Nat) (h : Ev m s0 s) (hm : Sub 464245223606339083622670344 m) :
    Ev m s0 (State.light s a1) := by
  unfold State.light
  repeat' (first
    | with_reducible assumption
    | exact Sub.trans hm rfl
    | with_reducible apply State.lightOne_ev
    | with_reducible apply Ev.ite
    | with_reducible apply Ev.fold
    | with_reducible apply Ev.elim
    | with_reducible apply Ev.getD
    | with_reducible apply Ev.iter
    | intro _
    | dsimp only
    | split)

end Machine

end Sys2Proof
end

