-- ==== Sys2Proof/Laws/EvCompositor.lean ====
section
/-! SUPPORT. What each operation of Machine/Compositor.lean can change, and that it keeps what no command may break (Laws/Evolve.lean). -/

set_option linter.unusedTactic false
set_option linter.unreachableTactic false
set_option linter.unusedVariables false

namespace Sys2Proof

open Machine

namespace Machine

theorem State.setPhase_ev {m : Nat} {s0 : State} {s : State} (a1 : Nat) (h : Ev m s0 s) (hm : Sub 8 m) :
    Ev m s0 (State.setPhase s a1) := by
  unfold State.setPhase
  repeat' (first
    | with_reducible assumption
    | exact Sub.trans hm rfl
    | with_reducible apply State.rsetf_ev
    | with_reducible apply Ev.ite
    | with_reducible apply Ev.fold
    | with_reducible apply Ev.elim
    | with_reducible apply Ev.getD
    | with_reducible apply Ev.iter
    | intro _
    | dsimp only
    | split)

theorem State.stopRecovery_ev {m : Nat} {s0 : State} {s : State} (a1 : Nat) (h : Ev m s0 s) (hm : Sub 17593930874880 m) :
    Ev m s0 (State.stopRecovery s a1) := by
  unfold State.stopRecovery
  repeat' (first
    | with_reducible assumption
    | exact Sub.trans hm rfl
    | with_reducible apply Ev.setSwap
    | with_reducible apply Ev.each
    | with_reducible apply Ev.setPair
    | with_reducible apply Ev.ite
    | with_reducible apply Ev.fold
    | with_reducible apply Ev.elim
    | with_reducible apply Ev.getD
    | with_reducible apply Ev.iter
    | intro _
    | dsimp only
    | split
    | with_reducible apply Ev.set_spareQ_slices)

theorem State.quarantine_ev {m : Nat} {s0 : State} {s : State} (a1 : Nat) (h : Ev m s0 s) (hm : Sub 18530267349000 m) :
    Ev m s0 (State.quarantine s a1) := by
  unfold State.quarantine
  repeat' (first
    | with_reducible assumption
    | exact Sub.trans hm rfl
    | with_reducible apply State.stopRecovery_ev
    | with_reducible apply State.closeGate_ev
    | with_reducible apply State.rsetb_ev
    | with_reducible apply State.parkPads_ev
    | with_reducible apply Ev.setRegion
    | with_reducible apply State.applyReset_ev
    | with_reducible apply Ev.ite
    | with_reducible apply Ev.fold
    | with_reducible apply Ev.elim
    | with_reducible apply Ev.getD
    | with_reducible apply Ev.iter
    | intro _
    | dsimp only
    | split)

theorem State.emptyHoppers_ev {m : Nat} {s0 : State} {s : State} (a1 : Nat) (h : Ev m s0 s) (hm : Sub 34359738368 m) :
    Ev m s0 (State.emptyHoppers s a1) := by
  unfold State.emptyHoppers
  repeat' (first
    | with_reducible assumption
    | exact Sub.trans hm rfl
    | with_reducible apply Ev.each
    | with_reducible apply Ev.setHop
    | with_reducible apply Ev.ite
    | with_reducible apply Ev.fold
    | with_reducible apply Ev.elim
    | with_reducible apply Ev.getD
    | with_reducible apply Ev.iter
    | intro _
    | dsimp only
    | split)

theorem State.dropGold_ev {m : Nat} {s0 : State} {s : State} (a1 : Nat) (h : Ev m s0 s) (hm : Sub 5629499534213120 m) :
    Ev m s0 (State.dropGold s a1) := by
  unfold State.dropGold
  repeat' (first
    | with_reducible assumption
    | exact Sub.trans hm rfl
    | with_reducible apply Ev.ite
    | with_reducible apply Ev.fold
    | with_reducible apply Ev.elim
    | with_reducible apply Ev.getD
    | with_reducible apply Ev.iter
    | (intro c; first | with_reducible exact Store.wf_nil _ | with_reducible exact rfl | with_reducible exact Store.wf_put _ _ _ c | with_reducible exact Store.wf_putBytes _ _ c | with_reducible exact Store.wf_keep _ _ c | with_reducible exact Store.wf_mapVals _ _ (Store.wf_iff.1 c).1 | with_reducible exact Store.rising_filter _ c | with_reducible exact Store.rising_put _ _ _ c | with_reducible exact Store.wf_filter _ _ c | with_reducible exact Store.wf_copyRange _ _ c _ | with_reducible exact Store.wf_dup _ _ _ _ c | with_reducible exact c | exact Store.wf_filter _ _ c | exact Store.wf_filter _ _ (Store.wf_filter _ _ c) | exact Store.rising_filter _ c | exact Store.rising_filter _ (Store.rising_filter _ c) | exact Store.wf_put _ _ _ c)
    | intro _
    | dsimp only
    | split
    | with_reducible apply Ev.set_gold_crcs)

theorem State.putBank_ev {m : Nat} {s0 : State} {s : State} (a1 : Nat) (a2 : List Sys2Proof.Byte) (h : Ev m s0 s) (hm : Sub 8589934600 m) :
    Ev m s0 (State.putBank s a1 a2) := by
  unfold State.putBank
  repeat' (first
    | with_reducible assumption
    | exact Sub.trans hm rfl
    | with_reducible apply Ev.rput
    | with_reducible apply Ev.each
    | with_reducible apply State.rsetb_ev
    | with_reducible apply State.prtWrite_ev
    | with_reducible apply State.breakLock_ev
    | with_reducible apply State.newOwner_ev
    | with_reducible apply Ev.setBank
    | with_reducible apply State.startClear_ev
    | with_reducible apply State.applySetOwn_ev
    | with_reducible apply Ev.ite
    | with_reducible apply Ev.fold
    | with_reducible apply Ev.elim
    | with_reducible apply Ev.getD
    | with_reducible apply Ev.iter
    | intro _
    | dsimp only
    | split)

theorem State.putControl_ev {m : Nat} {s0 : State} {s : State} (a1 : Nat) (a2 : List Sys2Proof.Byte) (h : Ev m s0 s) (hm : Sub 8589934600 m) :
    Ev m s0 (State.putControl s a1 a2) := by
  unfold State.putControl
  repeat' (first
    | with_reducible assumption
    | exact Sub.trans hm rfl
    | with_reducible apply Ev.rput
    | with_reducible apply Ev.each
    | with_reducible apply State.putBank_ev
    | with_reducible apply Ev.ite
    | with_reducible apply Ev.fold
    | with_reducible apply Ev.elim
    | with_reducible apply Ev.getD
    | with_reducible apply Ev.iter
    | intro _
    | dsimp only
    | split)

theorem State.putPins_ev {m : Nat} {s0 : State} {s : State} (a1 : Nat) (a2 : List Sys2Proof.Byte) (h : Ev m s0 s) (hm : Sub 8 m) :
    Ev m s0 (State.putPins s a1 a2) := by
  unfold State.putPins
  repeat' (first
    | with_reducible assumption
    | exact Sub.trans hm rfl
    | with_reducible apply Ev.each
    | with_reducible apply Ev.rput
    | with_reducible apply Ev.ite
    | with_reducible apply Ev.fold
    | with_reducible apply Ev.elim
    | with_reducible apply Ev.getD
    | with_reducible apply Ev.iter
    | intro _
    | dsimp only
    | split)

theorem State.putBen_ev {m : Nat} {s0 : State} {s : State} (a1 : Nat) (a2 : List Sys2Proof.Byte) (h : Ev m s0 s) (hm : Sub 8 m) :
    Ev m s0 (State.putBen s a1 a2) := by
  unfold State.putBen
  repeat' (first
    | with_reducible assumption
    | exact Sub.trans hm rfl
    | with_reducible apply Ev.each
    | with_reducible apply Ev.rput
    | with_reducible apply Ev.ite
    | with_reducible apply Ev.fold
    | with_reducible apply Ev.elim
    | with_reducible apply Ev.getD
    | with_reducible apply Ev.iter
    | intro _
    | dsimp only
    | split)

theorem State.clearPlan_ev {m : Nat} {s0 : State} {s : State} (a1 : Nat) (h : Ev m s0 s) (hm : Sub 131080 m) :
    Ev m s0 (State.clearPlan s a1) := by
  unfold State.clearPlan
  repeat' (first
    | with_reducible assumption
    | exact Sub.trans hm rfl
    | with_reducible apply Ev.each
    | with_reducible apply State.putPins_ev
    | with_reducible apply State.putBen_ev
    | with_reducible apply Ev.ite
    | with_reducible apply Ev.fold
    | with_reducible apply Ev.elim
    | with_reducible apply Ev.getD
    | with_reducible apply Ev.iter
    | (intro c; first | with_reducible exact Store.wf_nil _ | with_reducible exact rfl | with_reducible exact Store.wf_put _ _ _ c | with_reducible exact Store.wf_putBytes _ _ c | with_reducible exact Store.wf_keep _ _ c | with_reducible exact Store.wf_mapVals _ _ (Store.wf_iff.1 c).1 | with_reducible exact Store.rising_filter _ c | with_reducible exact Store.rising_put _ _ _ c | with_reducible exact Store.wf_filter _ _ c | with_reducible exact Store.wf_copyRange _ _ c _ | with_reducible exact Store.wf_dup _ _ _ _ c | with_reducible exact c | exact Store.wf_filter _ _ c | exact Store.wf_filter _ _ (Store.wf_filter _ _ c) | exact Store.rising_filter _ c | exact Store.rising_filter _ (Store.rising_filter _ c) | exact Store.wf_put _ _ _ c)
    | intro _
    | dsimp only
    | split
    | with_reducible apply Ev.set_cfg)

theorem State.clearControl_ev {m : Nat} {s0 : State} {s : State} (a1 : Nat) (h : Ev m s0 s) (hm : Sub 8590065672 m) :
    Ev m s0 (State.clearControl s a1) := by
  unfold State.clearControl
  repeat' (first
    | with_reducible assumption
    | exact Sub.trans hm rfl
    | with_reducible apply State.putControl_ev
    | with_reducible apply Ev.ite
    | with_reducible apply Ev.fold
    | with_reducible apply Ev.elim
    | with_reducible apply Ev.getD
    | with_reducible apply Ev.iter
    | (intro c; first | with_reducible exact Store.wf_nil _ | with_reducible exact rfl | with_reducible exact Store.wf_put _ _ _ c | with_reducible exact Store.wf_putBytes _ _ c | with_reducible exact Store.wf_keep _ _ c | with_reducible exact Store.wf_mapVals _ _ (Store.wf_iff.1 c).1 | with_reducible exact Store.rising_filter _ c | with_reducible exact Store.rising_put _ _ _ c | with_reducible exact Store.wf_filter _ _ c | with_reducible exact Store.wf_copyRange _ _ c _ | with_reducible exact Store.wf_dup _ _ _ _ c | with_reducible exact c | exact Store.wf_filter _ _ c | exact Store.wf_filter _ _ (Store.wf_filter _ _ c) | exact Store.rising_filter _ c | exact Store.rising_filter _ (Store.rising_filter _ c) | exact Store.wf_put _ _ _ c)
    | intro _
    | dsimp only
    | split
    | with_reducible apply Ev.set_cfg)

theorem State.clearDesign_ev {m : Nat} {s0 : State} {s : State} (a1 : Nat) (a2 : Bool) (h : Ev m s0 s) (hm : Sub 5629606958645256 m) :
    Ev m s0 (State.clearDesign s a1 a2) := by
  unfold State.clearDesign
  repeat' (first
    | with_reducible assumption
    | exact Sub.trans hm rfl
    | with_reducible apply Ev.each
    | with_reducible apply State.bmWriteNow_ev
    | with_reducible apply State.emptyCluster_ev
    | with_reducible apply State.clearLatches_ev
    | with_reducible apply State.clearPlan_ev
    | with_reducible apply State.emptyPorts_ev
    | with_reducible apply State.emptyHoppers_ev
    | with_reducible apply Ev.setBline
    | with_reducible apply Ev.setPin
    | with_reducible apply Ev.setRegion
    | with_reducible apply State.dropGold_ev
    | with_reducible apply State.rsetb_ev
    | with_reducible apply Ev.ite
    | with_reducible apply Ev.fold
    | with_reducible apply Ev.elim
    | with_reducible apply Ev.getD
    | with_reducible apply Ev.iter
    | (intro c; first | with_reducible exact Store.wf_nil _ | with_reducible exact rfl | with_reducible exact Store.wf_put _ _ _ c | with_reducible exact Store.wf_putBytes _ _ c | with_reducible exact Store.wf_keep _ _ c | with_reducible exact Store.wf_mapVals _ _ (Store.wf_iff.1 c).1 | with_reducible exact Store.rising_filter _ c | with_reducible exact Store.rising_put _ _ _ c | with_reducible exact Store.wf_filter _ _ c | with_reducible exact Store.wf_copyRange _ _ c _ | with_reducible exact Store.wf_dup _ _ _ _ c | with_reducible exact c | exact Store.wf_filter _ _ c | exact Store.wf_filter _ _ (Store.wf_filter _ _ c) | exact Store.rising_filter _ c | exact Store.rising_filter _ (Store.rising_filter _ c) | exact Store.wf_put _ _ _ c)
    | intro _
    | dsimp only
    | split
    | with_reducible apply Ev.set_chans_flights)

theorem State.clearRegion_ev {m : Nat} {s0 : State} {s : State} (a1 : Nat) (a2 : Bool) (h : Ev m s0 s) (hm : Sub 5629615548579848 m) :
    Ev m s0 (State.clearRegion s a1 a2) := by
  unfold State.clearRegion
  repeat' (first
    | with_reducible assumption
    | exact Sub.trans hm rfl
    | with_reducible apply State.clearControl_ev
    | with_reducible apply State.clearDesign_ev
    | with_reducible apply Ev.ite
    | with_reducible apply Ev.fold
    | with_reducible apply Ev.elim
    | with_reducible apply Ev.getD
    | with_reducible apply Ev.iter
    | intro _
    | dsimp only
    | split)

theorem State.unloadRegion_ev {m : Nat} {s0 : State} {s : State} (a1 : Nat) (h : Ev m s0 s) (hm : Sub 464245223611968583156883464 m) :
    Ev m s0 (State.unloadRegion s a1) := by
  unfold State.unloadRegion
  repeat' (first
    | with_reducible assumption
    | exact Sub.trans hm rfl
    | with_reducible apply State.setHealth_ev
    | with_reducible apply State.clearDesign_ev
    | with_reducible apply Ev.each
    | with_reducible apply State.domApply_ev
    | with_reducible apply State.rsetb_ev
    | with_reducible apply Ev.setDomSt
    | with_reducible apply Ev.ite
    | with_reducible apply Ev.fold
    | with_reducible apply Ev.elim
    | with_reducible apply Ev.getD
    | with_reducible apply Ev.iter
    | intro _
    | dsimp only
    | split)

theorem State.setMap_ev {m : Nat} {s0 : State} {s : State} (a1 : Nat) (a2 : Nat) (a3 : Nat) (h : Ev m s0 s) (hm : Sub 8 m) :
    Ev m s0 (State.setMap s a1 a2 a3) := by
  unfold State.setMap
  repeat' (first
    | with_reducible assumption
    | exact Sub.trans hm rfl
    | with_reducible apply State.rsetf_ev
    | with_reducible apply Ev.ite
    | with_reducible apply Ev.fold
    | with_reducible apply Ev.elim
    | with_reducible apply Ev.getD
    | with_reducible apply Ev.iter
    | intro _
    | dsimp only
    | split)

theorem State.setSpares_ev {m : Nat} {s0 : State} {s : State} (a1 : Nat) (a2 : Nat) (a3 : Nat) (h : Ev m s0 s) (hm : Sub 8 m) :
    Ev m s0 (State.setSpares s a1 a2 a3) := by
  unfold State.setSpares
  repeat' (first
    | with_reducible assumption
    | exact Sub.trans hm rfl
    | with_reducible apply Ev.rput
    | with_reducible apply Ev.ite
    | with_reducible apply Ev.fold
    | with_reducible apply Ev.elim
    | with_reducible apply Ev.getD
    | with_reducible apply Ev.iter
    | intro _
    | dsimp only
    | split)

theorem State.mapRegion_ev {m : Nat} {s0 : State} {s : State} (a1 : Nat) (a2 : Bool) (h : Ev m s0 s) (hm : Sub 65544 m) :
    EvOpt m s0 (State.mapRegion s a1 a2) := by
  unfold State.mapRegion
  repeat' (first
    | with_reducible assumption
    | exact Sub.trans hm rfl
    | with_reducible apply EvOpt.some
    | with_reducible exact EvOpt.none
    | with_reducible apply EvOpt.map
    | with_reducible apply EvOpt.ite
    | with_reducible apply Ev.each
    | with_reducible apply State.setMap_ev
    | with_reducible apply Ev.setClu
    | with_reducible apply State.setSpares_ev
    | with_reducible apply State.rsetf_ev
    | with_reducible apply Ev.ite
    | with_reducible apply Ev.fold
    | with_reducible apply Ev.elim
    | with_reducible apply Ev.getD
    | with_reducible apply Ev.iter
    | intro _
    | dsimp only
    | split)

theorem State.mapRegion_evq {m : Nat} {s0 : State} {t : State} {s : State} {a1 : Nat} {a2 : Bool} (e : (State.mapRegion s a1 a2) = some t) (h : Ev m s0 s) (hm : Sub 65544 m) : Ev m s0 t :=
  (State.mapRegion_ev a1 a2 h hm).get t e

theorem State.applyCpark_ev {m : Nat} {s0 : State} {s : State} (a1 : List Sys2Proof.Byte) (a2 : List Nat) (h : Ev m s0 s) (hm : Sub 2251868533161984 m) :
    Ev m s0 (State.applyCpark s a1 a2) := by
  unfold State.applyCpark
  repeat' (first
    | with_reducible assumption
    | exact Sub.trans hm rfl
    | with_reducible apply Ev.each
    | with_reducible apply State.padFollow_ev
    | with_reducible apply Ev.setCpark
    | with_reducible apply Ev.ite
    | with_reducible apply Ev.fold
    | with_reducible apply Ev.elim
    | with_reducible apply Ev.getD
    | with_reducible apply Ev.iter
    | intro _
    | dsimp only
    | split)

theorem State.matchChannels_ev {m : Nat} {s0 : State} {s : State} (a1 : Sys2Proof.Machine.Load) (h : Ev m s0 s) (hm : Sub 262152 m) :
    Ev m s0 (State.matchChannels s a1) := by
  unfold State.matchChannels
  repeat' (first
    | with_reducible assumption
    | exact Sub.trans hm rfl
    | with_reducible apply Ev.each
    | with_reducible apply Ev.setChan
    | with_reducible apply State.rsetf_ev
    | with_reducible apply Ev.ite
    | with_reducible apply Ev.fold
    | with_reducible apply Ev.elim
    | with_reducible apply Ev.getD
    | with_reducible apply Ev.iter
    | (intro c; first | with_reducible exact Store.wf_nil _ | with_reducible exact rfl | with_reducible exact Store.wf_put _ _ _ c | with_reducible exact Store.wf_putBytes _ _ c | with_reducible exact Store.wf_keep _ _ c | with_reducible exact Store.wf_mapVals _ _ (Store.wf_iff.1 c).1 | with_reducible exact Store.rising_filter _ c | with_reducible exact Store.rising_put _ _ _ c | with_reducible exact Store.wf_filter _ _ c | with_reducible exact Store.wf_copyRange _ _ c _ | with_reducible exact Store.wf_dup _ _ _ _ c | with_reducible exact c | exact Store.wf_filter _ _ c | exact Store.wf_filter _ _ (Store.wf_filter _ _ c) | exact Store.rising_filter _ c | exact Store.rising_filter _ (Store.rising_filter _ c) | exact Store.wf_put _ _ _ c)
    | intro _
    | dsimp only
    | split
    | with_reducible apply Ev.set_chans)

theorem State.loadOver_ev {m : Nat} {s0 : State} {s : State} (a1 : Sys2Proof.Machine.Load) (a2 : Nat) (a3 : Sys2Proof.Word) (h : Ev m s0 s) (hm : Sub 155346967829768523181195272 m) :
    Ev m s0 (State.loadOver s a1 a2 a3) := by
  unfold State.loadOver
  repeat' (first
    | with_reducible assumption
    | exact Sub.trans hm rfl
    | with_reducible apply State.rsetb_ev
    | with_reducible apply Ev.rput
    | with_reducible apply State.rsetf_ev
    | with_reducible apply State.setPhase_ev
    | with_reducible apply Ev.each
    | with_reducible apply State.domReleaseAll_ev
    | with_reducible apply Ev.ite
    | with_reducible apply Ev.fold
    | with_reducible apply Ev.elim
    | with_reducible apply Ev.getD
    | with_reducible apply Ev.iter
    | intro _
    | dsimp only
    | split
    | with_reducible apply Ev.set_load_loadEnded_cmpNews)

theorem State.loadDone_ev {m : Nat} {s0 : State} {s : State} (a1 : Sys2Proof.Machine.Load) (h : Ev m s0 s) (hm : Sub 155346968154028359563706378 m) :
    Ev m s0 (State.loadDone s a1) := by
  unfold State.loadDone
  repeat' (first
    | with_reducible assumption
    | exact Sub.trans hm rfl
    | with_reducible apply Ev.each
    | with_reducible apply Ev.setRegion
    | with_reducible apply State.rsetb_ev
    | with_reducible apply State.setHealth_ev
    | with_reducible apply Ev.setRimg
    | with_reducible apply Ev.rput
    | with_reducible apply State.loadOver_ev
    | with_reducible apply State.actTold_ev
    | with_reducible apply Ev.ite
    | with_reducible apply Ev.fold
    | with_reducible apply Ev.elim
    | with_reducible apply Ev.getD
    | with_reducible apply Ev.iter
    | intro _
    | dsimp only
    | split)

theorem State.unconfigure_ev {m : Nat} {s0 : State} {s : State} (h : Ev m s0 s) (hm : Sub 464245223611968583156883464 m) :
    Ev m s0 (State.unconfigure s) := by
  unfold State.unconfigure
  repeat' (first
    | with_reducible assumption
    | exact Sub.trans hm rfl
    | with_reducible apply Ev.each
    | with_reducible apply State.unloadRegion_ev
    | with_reducible apply State.rsetb_ev
    | with_reducible apply Ev.rput
    | with_reducible apply Ev.ite
    | with_reducible apply Ev.fold
    | with_reducible apply Ev.elim
    | with_reducible apply Ev.getD
    | with_reducible apply Ev.iter
    | intro _
    | dsimp only
    | split)

theorem State.loadStop_ev {m : Nat} {s0 : State} {s : State} (a1 : Sys2Proof.Machine.Load) (h : Ev m s0 s) (hm : Sub 5629499534245888 m) :
    Ev m s0 (State.loadStop s a1) := by
  unfold State.loadStop
  repeat' (first
    | with_reducible assumption
    | exact Sub.trans hm rfl
    | with_reducible apply Ev.each
    | with_reducible apply State.dropGold_ev
    | with_reducible apply Ev.setRegion
    | with_reducible apply Ev.ite
    | with_reducible apply Ev.fold
    | with_reducible apply Ev.elim
    | with_reducible apply Ev.getD
    | with_reducible apply Ev.iter
    | intro _
    | dsimp only
    | split)

theorem State.loadFail_ev {m : Nat} {s0 : State} {s : State} (a1 : Sys2Proof.Machine.Load) (a2 : Nat) (a3 : Sys2Proof.Word) (h : Ev m s0 s) (hm : Sub 464849686531064571975688200 m) :
    Ev m s0 (State.loadFail s a1 a2 a3) := by
  unfold State.loadFail
  repeat' (first
    | with_reducible assumption
    | exact Sub.trans hm rfl
    | with_reducible apply State.loadStop_ev
    | with_reducible apply State.unconfigure_ev
    | with_reducible apply State.loadOver_ev
    | with_reducible apply State.matchChannels_ev
    | with_reducible apply Ev.ite
    | with_reducible apply Ev.fold
    | with_reducible apply Ev.elim
    | with_reducible apply Ev.getD
    | with_reducible apply Ev.iter
    | intro _
    | dsimp only
    | split)

theorem State.loadBegin_ev {m : Nat} {s0 : State} {s : State} (a1 : Sys2Proof.Machine.Load) (h : Ev m s0 s) (hm : Sub 154742505055087727682306056 m) :
    Ev m s0 (State.loadBegin s a1) := by
  unfold State.loadBegin
  repeat' (first
    | with_reducible assumption
    | exact Sub.trans hm rfl
    | with_reducible apply State.rsetb_ev
    | with_reducible apply State.engineOn_ev
    | with_reducible apply Ev.rput
    | with_reducible apply State.setPhase_ev
    | with_reducible apply State.rsetf_ev
    | with_reducible apply Ev.each
    | with_reducible apply State.quarantine_ev
    | with_reducible apply State.emptyHoppers_ev
    | with_reducible apply Ev.ite
    | with_reducible apply Ev.fold
    | with_reducible apply Ev.elim
    | with_reducible apply Ev.getD
    | with_reducible apply Ev.iter
    | intro _
    | dsimp only
    | split
    | with_reducible apply Ev.set_load_loadAsked)

theorem State.loadStage_ev {m : Nat} {s0 : State} {s : State} (a1 : Sys2Proof.Machine.Load) (h : Ev m s0 s) (hm : Sub 2533343509872648 m) :
    Ev m s0 (State.loadStage s a1) := by
  unfold State.loadStage
  repeat' (first
    | with_reducible assumption
    | exact Sub.trans hm rfl
    | with_reducible apply State.setPhase_ev
    | with_reducible apply State.applyCpark_ev
    | with_reducible apply Ev.ite
    | with_reducible apply Ev.fold
    | with_reducible apply Ev.elim
    | with_reducible apply Ev.getD
    | with_reducible apply Ev.iter
    | intro _
    | dsimp only
    | split
    | with_reducible apply Ev.set_load)

theorem State.loadGolden_ev {m : Nat} {s0 : State} {s : State} (h : Ev m s0 s) (hm : Sub 464849686677449427466051592 m) :
    Ev m s0 (State.loadGolden s) := by
  unfold State.loadGolden
  repeat' (first
    | with_reducible assumption
    | exact Sub.trans hm rfl
    | with_reducible apply State.loadBegin_ev
    | with_reducible apply State.flashOn_ev
    | with_reducible apply State.loadFail_ev
    | with_reducible apply State.loadStage_ev
    | with_reducible apply Ev.ite
    | with_reducible apply Ev.fold
    | with_reducible apply Ev.elim
    | with_reducible apply Ev.getD
    | with_reducible apply Ev.iter
    | intro _
    | dsimp only
    | split)

theorem State.loadEnd_ev {m : Nat} {s0 : State} {s : State} (a1 : Sys2Proof.Machine.Load) (a2 : Nat) (a3 : Sys2Proof.Word) (h : Ev m s0 s) (hm : Sub 464849686677449427466051592 m) :
    Ev m s0 (State.loadEnd s a1 a2 a3) := by
  unfold State.loadEnd
  repeat' (first
    | with_reducible assumption
    | exact Sub.trans hm rfl
    | with_reducible apply State.loadGolden_ev
    | with_reducible apply State.rsetf_ev
    | with_reducible apply State.matchChannels_ev
    | with_reducible apply State.loadStop_ev
    | with_reducible apply State.loadFail_ev
    | with_reducible apply Ev.ite
    | with_reducible apply Ev.fold
    | with_reducible apply Ev.elim
    | with_reducible apply Ev.getD
    | with_reducible apply Ev.iter
    | intro _
    | dsimp only
    | split)

theorem State.loadStart_ev {m : Nat} {s0 : State} {s : State} (a1 : Sys2Proof.Machine.Load) (h : Ev m s0 s) (hm : Sub 464849686677449427466051592 m) :
    Ev m s0 (State.loadStart s a1) := by
  unfold State.loadStart
  repeat' (first
    | with_reducible assumption
    | exact Sub.trans hm rfl
    | with_reducible apply State.loadBegin_ev
    | with_reducible apply State.loadEnd_ev
    | with_reducible apply State.loadStage_ev
    | with_reducible apply Ev.ite
    | with_reducible apply Ev.fold
    | with_reducible apply Ev.elim
    | with_reducible apply Ev.getD
    | with_reducible apply Ev.iter
    | intro _
    | dsimp only
    | split)

theorem State.sourceUsed_ev {m : Nat} {s0 : State} {s : State} (a1 : Sys2Proof.Source) (h : Ev m s0 s) (hm : Sub 154742504982730128400318472 m) :
    Ev m s0 (State.sourceUsed s a1) := by
  unfold State.sourceUsed
  repeat' (first
    | with_reducible assumption
    | exact Sub.trans hm rfl
    | with_reducible apply State.flashOn_ev
    | with_reducible apply Ev.ite
    | with_reducible apply Ev.fold
    | with_reducible apply Ev.elim
    | with_reducible apply Ev.getD
    | with_reducible apply Ev.iter
    | intro _
    | dsimp only
    | split
    | with_reducible apply Ev.set_staged)

theorem State.fullLoad_ev {m : Nat} {s0 : State} {s : State} (a1 : Sys2Proof.Source) (h : Ev m s0 s) (hm : Sub 464849686749507021503979528 m) :
    Ev m s0 (State.fullLoad s a1) := by
  unfold State.fullLoad
  repeat' (first
    | with_reducible assumption
    | exact Sub.trans hm rfl
    | with_reducible apply State.loadStart_ev
    | with_reducible apply State.sourceUsed_ev
    | with_reducible apply Ev.ite
    | with_reducible apply Ev.fold
    | with_reducible apply Ev.elim
    | with_reducible apply Ev.getD
    | with_reducible apply Ev.iter
    | intro _
    | dsimp only
    | split)

theorem State.partialLoad_ev {m : Nat} {s0 : State} {s : State} (a1 : Nat) (a2 : Sys2Proof.Source) (h : Ev m s0 s) (hm : Sub 464849686749507021503979528 m) :
    Ev m s0 (State.partialLoad s a1 a2) := by
  unfold State.partialLoad
  repeat' (first
    | with_reducible assumption
    | exact Sub.trans hm rfl
    | with_reducible apply State.loadStart_ev
    | with_reducible apply State.sourceUsed_ev
    | with_reducible apply Ev.ite
    | with_reducible apply Ev.fold
    | with_reducible apply Ev.elim
    | with_reducible apply Ev.getD
    | with_reducible apply Ev.iter
    | intro _
    | dsimp only
    | split)

theorem State.framesDone_ev {m : Nat} {s0 : State} {s : State} (a1 : Sys2Proof.Machine.Load) (h : Ev m s0 s) (hm : Sub 281477124194312 m) :
    Ev m s0 (State.framesDone s a1) := by
  unfold State.framesDone
  repeat' (first
    | with_reducible assumption
    | exact Sub.trans hm rfl
    | with_reducible apply State.setPhase_ev
    | with_reducible apply Ev.each
    | with_reducible apply State.rsetb_ev
    | with_reducible apply Ev.setBmem
    | with_reducible apply Ev.ite
    | with_reducible apply Ev.fold
    | with_reducible apply Ev.elim
    | with_reducible apply Ev.getD
    | with_reducible apply Ev.iter
    | intro _
    | dsimp only
    | split
    | with_reducible apply Ev.set_load)

theorem State.prepare_ev {m : Nat} {s0 : State} {s : State} (a1 : Sys2Proof.Machine.Load) (a2 : Nat) (h : Ev m s0 s) (hm : Sub 464245223611968583156883464 m) :
    EvPair m s0 (State.prepare s a1 a2) := by
  unfold State.prepare
  repeat' (first
    | with_reducible assumption
    | exact Sub.trans hm rfl
    | with_reducible apply EvPair.pair
    | with_reducible apply EvPair.ite
    | with_reducible apply State.drained_ev
    | with_reducible apply State.mapRegion_ev
    | with_reducible apply State.unloadRegion_ev
    | with_reducible apply Ev.each
    | with_reducible apply State.light_ev
    | with_reducible refine State.mapRegion_evq ‹_› ?_ ?_
    | with_reducible apply Ev.ite
    | with_reducible apply Ev.fold
    | with_reducible apply Ev.elim
    | with_reducible apply Ev.getD
    | with_reducible apply Ev.iter
    | intro _
    | dsimp only
    | split)

theorem State.prepare_evq {m : Nat} {s0 : State} {t : State} {s : State} {a1 : Sys2Proof.Machine.Load} {a2 : Nat} {b : _} (e : (State.prepare s a1 a2) = (t, b)) (h : Ev m s0 s) (hm : Sub 464245223611968583156883464 m) : Ev m s0 t := by
  have := State.prepare_ev a1 a2 h hm
  rw [e] at this; exact this.get

theorem State.prepare_ev1 {m : Nat} {s0 : State} {s : State} (a1 : Sys2Proof.Machine.Load) (a2 : Nat) (h : Ev m s0 s) (hm : Sub 464245223611968583156883464 m) : Ev m s0 (State.prepare s a1 a2).1 := (State.prepare_ev a1 a2 h hm).get

theorem State.prepareAll_ev {m : Nat} {s0 : State} {s : State} (a1 : Sys2Proof.Machine.Load) (a2 : List Nat) (h : Ev m s0 s) (hm : Sub 464245223611968583156883464 m) :
    EvPair m s0 (State.prepareAll s a1 a2) := by
  induction a2 generalizing s with
  | nil => first | exact h | exact EvPair.pair _ h
  | cons x l ih =>
  unfold State.prepareAll
  repeat' (first
    | with_reducible exact (ih ‹_›).get
    | with_reducible apply ih
    | with_reducible refine ⟨(ih ?_).get⟩
    | with_reducible refine ⟨?_⟩
    | with_reducible refine (ih ?_).get
    | with_reducible assumption
    | exact Sub.trans hm rfl
    | with_reducible apply EvPair.pair
    | with_reducible apply EvPair.ite
    | with_reducible apply State.prepare_ev
    | with_reducible apply State.prepare_ev1
    | with_reducible refine State.prepare_evq ‹_› ?_ ?_
    | with_reducible apply Ev.ite
    | with_reducible apply Ev.fold
    | with_reducible apply Ev.elim
    | with_reducible apply Ev.getD
    | with_reducible apply Ev.iter
    | intro _
    | dsimp only
    | split)

theorem State.prepareAll_evq {m : Nat} {s0 : State} {t : State} {s : State} {a1 : Sys2Proof.Machine.Load} {a2 : List Nat} {b : _} (e : (State.prepareAll s a1 a2) = (t, b)) (h : Ev m s0 s) (hm : Sub 464245223611968583156883464 m) : Ev m s0 t := by
  have := State.prepareAll_ev a1 a2 h hm
  rw [e] at this; exact this.get

theorem State.prepareAll_ev1 {m : Nat} {s0 : State} {s : State} (a1 : Sys2Proof.Machine.Load) (a2 : List Nat) (h : Ev m s0 s) (hm : Sub 464245223611968583156883464 m) : Ev m s0 (State.prepareAll s a1 a2).1 := (State.prepareAll_ev a1 a2 h hm).get

theorem State.stageDone_ev {m : Nat} {s0 : State} {s : State} (h : Ev m s0 s) (hm : Sub 464849686695463825975533576 m) :
    Ev m s0 (State.stageDone s) := by
  unfold State.stageDone
  repeat' (first
    | with_reducible assumption
    | exact Sub.trans hm rfl
    | with_reducible apply State.loadEnd_ev
    | with_reducible apply Ev.each
    | with_reducible apply State.unloadRegion_ev
    | with_reducible apply State.drained_ev
    | with_reducible apply State.prepareAll_ev
    | with_reducible apply State.prepareAll_ev1
    | with_reducible apply State.light_ev
    | with_reducible apply State.framesDone_ev
    | with_reducible apply State.setPhase_ev
    | with_reducible refine State.prepareAll_evq ‹_› ?_ ?_
    | with_reducible apply Ev.ite
    | with_reducible apply Ev.fold
    | with_reducible apply Ev.elim
    | with_reducible apply Ev.getD
    | with_reducible apply Ev.iter
    | intro _
    | dsimp only
    | split
    | with_reducible apply Ev.set_imgHash
    | with_reducible apply Ev.set_load)

theorem State.stash_ev {m : Nat} {s0 : State} {s : State} (a1 : Nat) (a2 : Nat) (a3 : Nat) (a4 : List Sys2Proof.Byte) (h : Ev m s0 s) (hm : Sub 5629499534213120 m) :
    Ev m s0 (State.stash s a1 a2 a3 a4) := by
  unfold State.stash
  repeat' (first
    | with_reducible assumption
    | exact Sub.trans hm rfl
    | with_reducible apply Ev.setCrc
    | with_reducible apply Ev.ite
    | with_reducible apply Ev.fold
    | with_reducible apply Ev.elim
    | with_reducible apply Ev.getD
    | with_reducible apply Ev.iter
    | (intro c; first | with_reducible exact Store.wf_nil _ | with_reducible exact rfl | with_reducible exact Store.wf_put _ _ _ c | with_reducible exact Store.wf_putBytes _ _ c | with_reducible exact Store.wf_keep _ _ c | with_reducible exact Store.wf_mapVals _ _ (Store.wf_iff.1 c).1 | with_reducible exact Store.rising_filter _ c | with_reducible exact Store.rising_put _ _ _ c | with_reducible exact Store.wf_filter _ _ c | with_reducible exact Store.wf_copyRange _ _ c _ | with_reducible exact Store.wf_dup _ _ _ _ c | with_reducible exact c | exact Store.wf_filter _ _ c | exact Store.wf_filter _ _ (Store.wf_filter _ _ c) | exact Store.rising_filter _ c | exact Store.rising_filter _ (Store.rising_filter _ c) | exact Store.wf_put _ _ _ c)
    | intro _
    | dsimp only
    | split
    | with_reducible apply Ev.set_gold)

theorem State.putLogic_ev {m : Nat} {s0 : State} {s : State} (a1 : Nat) (a2 : Nat) (a3 : List Sys2Proof.Byte) (h : Ev m s0 s) (hm : Sub 147464 m) :
    Ev m s0 (State.putLogic s a1 a2 a3) := by
  unfold State.putLogic
  repeat' (first
    | with_reducible assumption
    | exact Sub.trans hm rfl
    | with_reducible apply State.latch_ev
    | with_reducible apply Ev.each
    | with_reducible apply State.cellFramed_ev
    | with_reducible apply Ev.ite
    | with_reducible apply Ev.fold
    | with_reducible apply Ev.elim
    | with_reducible apply Ev.getD
    | with_reducible apply Ev.iter
    | intro _
    | dsimp only
    | split)

theorem State.putIoBank_ev {m : Nat} {s0 : State} {s : State} (a1 : Nat) (a2 : List Sys2Proof.Byte) (h : Ev m s0 s) (hm : Sub 464245223606339083622670344 m) :
    Ev m s0 (State.putIoBank s a1 a2) := by
  unfold State.putIoBank
  repeat' (first
    | with_reducible assumption
    | exact Sub.trans hm rfl
    | with_reducible apply Ev.each
    | with_reducible apply Ev.rput
    | with_reducible apply State.domApply_ev
    | with_reducible apply State.padsFollow_ev
    | with_reducible apply Ev.ite
    | with_reducible apply Ev.fold
    | with_reducible apply Ev.elim
    | with_reducible apply Ev.getD
    | with_reducible apply Ev.iter
    | intro _
    | dsimp only
    | split)

theorem State.putStreams_ev {m : Nat} {s0 : State} {s : State} (a1 : Nat) (a2 : List Sys2Proof.Byte) (h : Ev m s0 s) (hm : Sub 1856910058928070412348817416 m) :
    Ev m s0 (State.putStreams s a1 a2) := by
  unfold State.putStreams
  repeat' (first
    | with_reducible assumption
    | exact Sub.trans hm rfl
    | with_reducible apply State.latch_ev
    | with_reducible apply Ev.each
    | with_reducible apply Ev.rput
    | with_reducible apply Ev.setUpf
    | with_reducible apply Ev.setDnf
    | with_reducible apply Ev.ite
    | with_reducible apply Ev.fold
    | with_reducible apply Ev.elim
    | with_reducible apply Ev.getD
    | with_reducible apply Ev.iter
    | intro _
    | dsimp only
    | split)

theorem State.putCluster_ev {m : Nat} {s0 : State} {s : State} (a1 : Nat) (a2 : Sys2Proof.Word) (a3 : List Sys2Proof.Byte) (h : Ev m s0 s) (hm : Sub 4295114760 m) :
    Ev m s0 (State.putCluster s a1 a2 a3) := by
  unfold State.putCluster
  repeat' (first
    | with_reducible assumption
    | exact Sub.trans hm rfl
    | with_reducible apply State.putLogic_ev
    | with_reducible apply State.bmFrame_ev
    | with_reducible apply Ev.ite
    | with_reducible apply Ev.fold
    | with_reducible apply Ev.elim
    | with_reducible apply Ev.getD
    | with_reducible apply Ev.iter
    | intro _
    | dsimp only
    | split)

theorem State.putFrame_ev {m : Nat} {s0 : State} {s : State} (a1 : Sys2Proof.Word) (a2 : List Sys2Proof.Byte) (h : Ev m s0 s) (hm : Sub 2321155282540038995505569800 m) :
    Ev m s0 (State.putFrame s a1 a2) := by
  unfold State.putFrame
  repeat' (first
    | with_reducible assumption
    | exact Sub.trans hm rfl
    | with_reducible apply State.stash_ev
    | with_reducible apply Ev.each
    | with_reducible apply State.putCluster_ev
    | with_reducible apply State.latch_ev
    | with_reducible apply State.putBen_ev
    | with_reducible apply State.putPins_ev
    | with_reducible apply State.putControl_ev
    | with_reducible apply State.putIoBank_ev
    | with_reducible apply State.putStreams_ev
    | with_reducible apply Ev.ite
    | with_reducible apply Ev.fold
    | with_reducible apply Ev.elim
    | with_reducible apply Ev.getD
    | with_reducible apply Ev.iter
    | intro _
    | dsimp only
    | split)

theorem State.confirmSlice_ev {m : Nat} {s0 : State} {s : State} (a1 : Nat) (h : Ev m s0 s) (hm : Sub 17592186044416 m) :
    Ev m s0 (State.confirmSlice s a1) := by
  unfold State.confirmSlice
  repeat' (first
    | with_reducible assumption
    | exact Sub.trans hm rfl
    | with_reducible apply Ev.ite
    | with_reducible apply Ev.fold
    | with_reducible apply Ev.elim
    | with_reducible apply Ev.getD
    | with_reducible apply Ev.iter
    | intro _
    | dsimp only
    | split
    | with_reducible apply Ev.set_slices)

theorem State.noneLeft_ev {m : Nat} {s0 : State} {s : State} (a1 : Sys2Proof.Machine.Load) (a2 : Nat) (h : Ev m s0 s) (hm : Sub 464245223611968583156883464 m) :
    EvPair m s0 (State.noneLeft s a1 a2) := by
  unfold State.noneLeft
  repeat' (first
    | with_reducible assumption
    | exact Sub.trans hm rfl
    | with_reducible apply EvPair.pair
    | with_reducible apply EvPair.ite
    | with_reducible apply State.unloadRegion_ev
    | with_reducible apply Ev.ite
    | with_reducible apply Ev.fold
    | with_reducible apply Ev.elim
    | with_reducible apply Ev.getD
    | with_reducible apply Ev.iter
    | intro _
    | dsimp only
    | split)

theorem State.noneLeft_evq {m : Nat} {s0 : State} {t : State} {s : State} {a1 : Sys2Proof.Machine.Load} {a2 : Nat} {b : _} (e : (State.noneLeft s a1 a2) = (t, b)) (h : Ev m s0 s) (hm : Sub 464245223611968583156883464 m) : Ev m s0 t := by
  have := State.noneLeft_ev a1 a2 h hm
  rw [e] at this; exact this.get

theorem State.noneLeft_ev1 {m : Nat} {s0 : State} {s : State} (a1 : Sys2Proof.Machine.Load) (a2 : Nat) (h : Ev m s0 s) (hm : Sub 464245223611968583156883464 m) : Ev m s0 (State.noneLeft s a1 a2).1 := (State.noneLeft_ev a1 a2 h hm).get

theorem State.verifySwap_ev {m : Nat} {s0 : State} {s : State} (a1 : Sys2Proof.Machine.Load) (a2 : Sys2Proof.Word) (a3 : Bool) (h : Ev m s0 s) (hm : Sub 464245223611986175342927880 m) :
    EvPair m s0 (State.verifySwap s a1 a2 a3) := by
  unfold State.verifySwap
  repeat' (first
    | with_reducible assumption
    | exact Sub.trans hm rfl
    | with_reducible apply EvPair.pair
    | with_reducible apply EvPair.ite
    | with_reducible apply State.light_ev
    | with_reducible apply State.rsetf_ev
    | with_reducible apply State.setSpares_ev
    | with_reducible apply State.setMap_ev
    | with_reducible apply State.setHealth_ev
    | with_reducible apply State.confirmSlice_ev
    | with_reducible apply State.clearLatches_ev
    | with_reducible apply State.noneLeft_ev
    | with_reducible apply State.noneLeft_ev1
    | with_reducible refine State.noneLeft_evq ‹_› ?_ ?_
    | with_reducible apply Ev.ite
    | with_reducible apply Ev.fold
    | with_reducible apply Ev.elim
    | with_reducible apply Ev.getD
    | with_reducible apply Ev.iter
    | intro _
    | dsimp only
    | split)

theorem State.verifySwap_evq {m : Nat} {s0 : State} {t : State} {s : State} {a1 : Sys2Proof.Machine.Load} {a2 : Sys2Proof.Word} {a3 : Bool} {b : _} (e : (State.verifySwap s a1 a2 a3) = (t, b)) (h : Ev m s0 s) (hm : Sub 464245223611986175342927880 m) : Ev m s0 t := by
  have := State.verifySwap_ev a1 a2 a3 h hm
  rw [e] at this; exact this.get

theorem State.verifySwap_ev1 {m : Nat} {s0 : State} {s : State} (a1 : Sys2Proof.Machine.Load) (a2 : Sys2Proof.Word) (a3 : Bool) (h : Ev m s0 s) (hm : Sub 464245223611986175342927880 m) : Ev m s0 (State.verifySwap s a1 a2 a3).1 := (State.verifySwap_ev a1 a2 a3 h hm).get

theorem State.frameNext_ev {m : Nat} {s0 : State} {s : State} (a1 : Sys2Proof.Machine.Load) (h : Ev m s0 s) (hm : Sub 281477124194312 m) :
    Ev m s0 (State.frameNext s a1) := by
  unfold State.frameNext
  repeat' (first
    | with_reducible assumption
    | exact Sub.trans hm rfl
    | with_reducible apply State.framesDone_ev
    | with_reducible apply Ev.ite
    | with_reducible apply Ev.fold
    | with_reducible apply Ev.elim
    | with_reducible apply Ev.getD
    | with_reducible apply Ev.iter
    | intro _
    | dsimp only
    | split
    | with_reducible apply Ev.set_load)

theorem State.frameAgain_ev {m : Nat} {s0 : State} {s : State} (a1 : Sys2Proof.Machine.Load) (a2 : Nat) (a3 : Nat) (a4 : Sys2Proof.Verify) (h : Ev m s0 s) (hm : Sub 464245223612250058133594120 m) :
    Ev m s0 (State.frameAgain s a1 a2 a3 a4) := by
  unfold State.frameAgain
  repeat' (first
    | with_reducible assumption
    | exact Sub.trans hm rfl
    | with_reducible apply State.putCluster_ev
    | with_reducible apply State.frameNext_ev
    | with_reducible apply State.count_ev
    | with_reducible apply State.noneLeft_ev
    | with_reducible apply State.noneLeft_ev1
    | with_reducible refine State.noneLeft_evq ‹_› ?_ ?_
    | with_reducible apply Ev.ite
    | with_reducible apply Ev.fold
    | with_reducible apply Ev.elim
    | with_reducible apply Ev.getD
    | with_reducible apply Ev.iter
    | intro _
    | dsimp only
    | split)

theorem State.frameRefused_ev {m : Nat} {s0 : State} {s : State} (a1 : Sys2Proof.Machine.Load) (a2 : Nat) (a3 : Sys2Proof.Word) (h : Ev m s0 s) (hm : Sub 464849686677449427466051592 m) :
    Ev m s0 (State.frameRefused s a1 a2 a3) := by
  unfold State.frameRefused
  repeat' (first
    | with_reducible assumption
    | exact Sub.trans hm rfl
    | with_reducible apply State.loadEnd_ev
    | with_reducible apply State.viol_ev
    | with_reducible apply Ev.ite
    | with_reducible apply Ev.fold
    | with_reducible apply Ev.elim
    | with_reducible apply Ev.getD
    | with_reducible apply Ev.iter
    | intro _
    | dsimp only
    | split)

theorem State.frameStep_ev {m : Nat} {s0 : State} {s : State} (a1 : Sys2Proof.Machine.Load) (a2 : Sys2Proof.Verify) (h : Ev m s0 s) (hm : Sub 2321759745605519839814737928 m) :
    Ev m s0 (State.frameStep s a1 a2) := by
  unfold State.frameStep
  repeat' (first
    | with_reducible assumption
    | exact Sub.trans hm rfl
    | with_reducible apply State.frameNext_ev
    | with_reducible apply State.frameRefused_ev
    | with_reducible apply State.putFrame_ev
    | with_reducible apply State.clearRegion_ev
    | with_reducible apply State.rsetf_ev
    | with_reducible apply State.count_ev
    | with_reducible apply State.verifySwap_ev
    | with_reducible apply State.verifySwap_ev1
    | with_reducible apply State.loadEnd_ev
    | with_reducible apply Ev.rput
    | with_reducible refine State.verifySwap_evq ‹_› ?_ ?_
    | with_reducible apply Ev.ite
    | with_reducible apply Ev.fold
    | with_reducible apply Ev.elim
    | with_reducible apply Ev.getD
    | with_reducible apply Ev.iter
    | intro _
    | dsimp only
    | split)

theorem State.frameWrite_ev {m : Nat} {s0 : State} {s : State} (a1 : Sys2Proof.Verify) (h : Ev m s0 s) (hm : Sub 2321759745605519839814737928 m) :
    Ev m s0 (State.frameWrite s a1) := by
  unfold State.frameWrite
  repeat' (first
    | with_reducible assumption
    | exact Sub.trans hm rfl
    | with_reducible apply State.frameAgain_ev
    | with_reducible apply State.frameStep_ev
    | with_reducible apply Ev.ite
    | with_reducible apply Ev.fold
    | with_reducible apply Ev.elim
    | with_reducible apply Ev.getD
    | with_reducible apply Ev.iter
    | intro _
    | dsimp only
    | split)

theorem State.memoryInit_ev {m : Nat} {s0 : State} {s : State} (h : Ev m s0 s) (hm : Sub 281474977005576 m) :
    Ev m s0 (State.memoryInit s) := by
  unfold State.memoryInit
  repeat' (first
    | with_reducible assumption
    | exact Sub.trans hm rfl
    | with_reducible apply State.matchChannels_ev
    | with_reducible apply Ev.each
    | with_reducible apply Ev.setRegion
    | with_reducible apply State.setPhase_ev
    | with_reducible apply Ev.ite
    | with_reducible apply Ev.fold
    | with_reducible apply Ev.elim
    | with_reducible apply Ev.getD
    | with_reducible apply Ev.iter
    | intro _
    | dsimp only
    | split
    | with_reducible apply Ev.set_load)

theorem State.releasePin_ev {m : Nat} {s0 : State} {s : State} (a1 : Nat) (h : Ev m s0 s) (hm : Sub 343597383690 m) :
    Ev m s0 (State.releasePin s a1) := by
  unfold State.releasePin
  repeat' (first
    | with_reducible assumption
    | exact Sub.trans hm rfl
    | with_reducible apply State.padTo_ev
    | with_reducible apply State.parkPin_ev
    | with_reducible apply State.invalidPin_ev
    | with_reducible apply State.driveSoon_ev
    | with_reducible apply Ev.ite
    | with_reducible apply Ev.fold
    | with_reducible apply Ev.elim
    | with_reducible apply Ev.getD
    | with_reducible apply Ev.iter
    | intro _
    | dsimp only
    | split)

theorem State.dropProbe_ev {m : Nat} {s0 : State} {s : State} (a1 : Nat) (h : Ev m s0 s) (hm : Sub 8 m) :
    Ev m s0 (State.dropProbe s a1) := by
  unfold State.dropProbe
  repeat' (first
    | with_reducible assumption
    | exact Sub.trans hm rfl
    | with_reducible apply Ev.each
    | with_reducible apply State.rsetb_ev
    | with_reducible apply Ev.ite
    | with_reducible apply Ev.fold
    | with_reducible apply Ev.elim
    | with_reducible apply Ev.getD
    | with_reducible apply Ev.iter
    | intro _
    | dsimp only
    | split)

theorem State.startStep_ev {m : Nat} {s0 : State} {s : State} (a1 : Nat) (a2 : Nat) (h : Ev m s0 s) (hm : Sub 901943181322 m) :
    Ev m s0 (State.startStep s a1 a2) := by
  unfold State.startStep
  repeat' (first
    | with_reducible assumption
    | exact Sub.trans hm rfl
    | with_reducible apply Ev.setRegion
    | with_reducible apply Ev.each
    | with_reducible apply State.flowOut_ev
    | with_reducible apply State.releasePin_ev
    | with_reducible apply State.dropProbe_ev
    | with_reducible apply State.groupStop_ev
    | with_reducible apply State.applyReset_ev
    | with_reducible apply Ev.ite
    | with_reducible apply Ev.fold
    | with_reducible apply Ev.elim
    | with_reducible apply Ev.getD
    | with_reducible apply Ev.iter
    | intro _
    | dsimp only
    | split)

theorem State.runSteps_ev {m : Nat} {s0 : State} {s : State} (a1 : Sys2Proof.Machine.Load) (a2 : List Nat) (h : Ev m s0 s) (hm : Sub 901943181322 m) :
    EvPair m s0 (State.runSteps s a1 a2) := by
  induction a2 generalizing s with
  | nil => first | exact h | exact EvPair.pair _ h
  | cons x l ih =>
  unfold State.runSteps
  repeat' (first
    | with_reducible exact (ih ‹_›).get
    | with_reducible apply ih
    | with_reducible refine ⟨(ih ?_).get⟩
    | with_reducible refine ⟨?_⟩
    | with_reducible refine (ih ?_).get
    | with_reducible assumption
    | exact Sub.trans hm rfl
    | with_reducible apply EvPair.pair
    | with_reducible apply EvPair.ite
    | with_reducible apply Ev.each
    | with_reducible apply State.startStep_ev
    | with_reducible apply Ev.ite
    | with_reducible apply Ev.fold
    | with_reducible apply Ev.elim
    | with_reducible apply Ev.getD
    | with_reducible apply Ev.iter
    | intro _
    | dsimp only
    | split)

theorem State.runSteps_evq {m : Nat} {s0 : State} {t : State} {s : State} {a1 : Sys2Proof.Machine.Load} {a2 : List Nat} {b : _} (e : (State.runSteps s a1 a2) = (t, b)) (h : Ev m s0 s) (hm : Sub 901943181322 m) : Ev m s0 t := by
  have := State.runSteps_ev a1 a2 h hm
  rw [e] at this; exact this.get

theorem State.runSteps_ev1 {m : Nat} {s0 : State} {s : State} (a1 : Sys2Proof.Machine.Load) (a2 : List Nat) (h : Ev m s0 s) (hm : Sub 901943181322 m) : Ev m s0 (State.runSteps s a1 a2).1 := (State.runSteps_ev a1 a2 h hm).get

theorem State.startUp_ev {m : Nat} {s0 : State} {s : State} (h : Ev m s0 s) (hm : Sub 155346968154028634441629706 m) :
    Ev m s0 (State.startUp s) := by
  unfold State.startUp
  repeat' (first
    | with_reducible assumption
    | exact Sub.trans hm rfl
    | with_reducible apply State.runSteps_ev
    | with_reducible apply State.runSteps_ev1
    | with_reducible apply State.loadDone_ev
    | with_reducible refine State.runSteps_evq ‹_› ?_ ?_
    | with_reducible apply Ev.ite
    | with_reducible apply Ev.fold
    | with_reducible apply Ev.elim
    | with_reducible apply Ev.getD
    | with_reducible apply Ev.iter
    | intro _
    | dsimp only
    | split
    | with_reducible apply Ev.set_load)

theorem State.startTimeout_ev {m : Nat} {s0 : State} {s : State} (h : Ev m s0 s) (hm : Sub 464849686677449427466051592 m) :
    Ev m s0 (State.startTimeout s) := by
  unfold State.startTimeout
  repeat' (first
    | with_reducible assumption
    | exact Sub.trans hm rfl
    | with_reducible apply State.loadEnd_ev
    | with_reducible apply Ev.ite
    | with_reducible apply Ev.fold
    | with_reducible apply Ev.elim
    | with_reducible apply Ev.getD
    | with_reducible apply Ev.iter
    | intro _
    | dsimp only
    | split)

theorem State.loadAbort_ev {m : Nat} {s0 : State} {s : State} (h : Ev m s0 s) (hm : Sub 464849686677449427466051592 m) :
    Ev m s0 (State.loadAbort s) := by
  unfold State.loadAbort
  repeat' (first
    | with_reducible assumption
    | exact Sub.trans hm rfl
    | with_reducible apply State.loadEnd_ev
    | with_reducible apply Ev.ite
    | with_reducible apply Ev.fold
    | with_reducible apply Ev.elim
    | with_reducible apply Ev.getD
    | with_reducible apply Ev.iter
    | intro _
    | dsimp only
    | split)

theorem State.cmpCtl_ev {m : Nat} {s0 : State} {s : State} (a1 : Sys2Proof.Word) (h : Ev m s0 s) (hm : Sub 464849686677449427466051592 m) :
    Ev m s0 (State.cmpCtl s a1) := by
  unfold State.cmpCtl
  repeat' (first
    | with_reducible assumption
    | exact Sub.trans hm rfl
    | with_reducible apply State.loadAbort_ev
    | with_reducible apply Ev.ite
    | with_reducible apply Ev.fold
    | with_reducible apply Ev.elim
    | with_reducible apply Ev.getD
    | with_reducible apply Ev.iter
    | intro _
    | dsimp only
    | split)

end Machine

end Sys2Proof
end

