-- ==== Sys2Proof/Laws/EvTinker.lean ====
section
/-! SUPPORT. What each operation of Machine/Tinker.lean can change, and that it keeps what no command may break (Laws/Evolve.lean). -/

set_option linter.unusedTactic false
set_option linter.unreachableTactic false
set_option linter.unusedVariables false

namespace Sys2Proof

open Machine

namespace Machine

theorem State.flipLatch_ev {m : Nat} {s0 : State} {s : State} (a1 : Nat) (a2 : Nat) (a3 : Nat) (a4 : Nat) (h : Ev m s0 s) (hm : Sub 131072 m) :
    Ev m s0 (State.flipLatch s a1 a2 a3 a4) := by
  unfold State.flipLatch
  repeat' (first
    | with_reducible assumption
    | exact Sub.trans hm rfl
    | with_reducible apply Ev.ite
    | with_reducible apply Ev.fold
    | with_reducible apply Ev.elim
    | with_reducible apply Ev.getD
    | with_reducible apply Ev.iter
    | (intro c; first | with_reducible exact Store.wf_nil _ | with_reducible exact rfl | with_reducible exact Store.wf_put _ _ _ c | with_reducible exact Store.wf_putBytes _ _ c | with_reducible exact Store.wf_keep _ _ c | with_reducible exact Store.wf_mapVals _ _ (Store.wf_iff.1 c).1 | with_reducible exact Store.rising_filter _ c | with_reducible exact Store.rising_put _ _ _ c | with_reducible exact Store.wf_filter _ _ c | with_reducible exact Store.wf_copyRange _ _ c _ | with_reducible exact Store.wf_dup _ _ _ _ c | with_reducible exact c | exact Store.wf_filter _ _ c | exact Store.wf_filter _ _ (Store.wf_filter _ _ c) | exact Store.rising_filter _ c | exact Store.rising_filter _ (Store.rising_filter _ c) | exact Store.wf_put _ _ _ c)
    | intro _
    | dsimp only
    | split
    | with_reducible apply Ev.set_cfg)

theorem State.rewrite_ev {m : Nat} {s0 : State} {s : State} (a1 : Nat) (a2 : Nat) (a3 : Nat) (h : Ev m s0 s) (hm : Sub 131080 m) :
    Ev m s0 (State.rewrite s a1 a2 a3) := by
  unfold State.rewrite
  repeat' (first
    | with_reducible assumption
    | exact Sub.trans hm rfl
    | with_reducible apply State.latch_ev
    | with_reducible apply State.putBen_ev
    | with_reducible apply State.putPins_ev
    | with_reducible apply Ev.ite
    | with_reducible apply Ev.fold
    | with_reducible apply Ev.elim
    | with_reducible apply Ev.getD
    | with_reducible apply Ev.iter
    | intro _
    | dsimp only
    | split)

theorem execConfigCheckError_ev {m : Nat} {s0 : State} (a0 : Sys2Proof.CfgPlace) (a1 : Bool) {s : State} (h : Ev m s0 s) (hm : Sub 288231039363678218 m) :
    EvOut m s0 (execConfigCheckError a0 a1 s) := by
  unfold execConfigCheckError
  repeat' (first
    | with_reducible assumption
    | exact Sub.trans hm rfl
    | with_reducible apply EvOut.next
    | with_reducible apply EvOut.ite
    | with_reducible apply ok_ev
    | with_reducible apply State.clusterFault_ev
    | with_reducible apply State.flipLatch_ev
    | with_reducible apply State.transient_ev
    | with_reducible apply State.rewrite_ev
    | with_reducible apply State.sharedFault_ev
    | with_reducible apply Ev.ite
    | with_reducible apply Ev.fold
    | with_reducible apply Ev.elim
    | with_reducible apply Ev.getD
    | with_reducible apply Ev.iter
    | intro _
    | dsimp only
    | split)

theorem State.comparePass_ev {m : Nat} {s0 : State} {s : State} (a1 : Nat) (a2 : Nat) (a3 : Nat) (a4 : List Nat) (a5 : Nat) (a6 : Sys2Proof.Tok) (h : Ev m s0 s) (hm : Sub 2475880078570760549813731336 m) :
    Ev m s0 (State.comparePass s a1 a2 a3 a4 a5 a6) := by
  unfold State.comparePass
  repeat' (first
    | with_reducible assumption
    | exact Sub.trans hm rfl
    | with_reducible apply State.deliverOut_ev
    | with_reducible apply Ev.each
    | with_reducible apply State.takeFrom_ev
    | with_reducible apply Ev.setTwin
    | with_reducible refine State.deliverOut_evq ‹_› ?_ ?_
    | with_reducible apply Ev.ite
    | with_reducible apply Ev.fold
    | with_reducible apply Ev.elim
    | with_reducible apply Ev.getD
    | with_reducible apply Ev.iter
    | intro _
    | dsimp only
    | split)

theorem execCompareStage_ev {m : Nat} {s0 : State} (a0 : Fin 32) (a1 : Fin 8) (a2 : Fin 41) (a3 : Bool) (a4 : Bool) {s : State} (h : Ev m s0 s) (hm : Sub 2475880078570760549947949064 m) :
    EvOut m s0 (execCompareStage a0 a1 a2 a3 a4 s) := by
  unfold execCompareStage
  repeat' (first
    | with_reducible assumption
    | exact Sub.trans hm rfl
    | with_reducible apply EvOut.next
    | with_reducible apply EvOut.ite
    | with_reducible apply ok_ev
    | with_reducible apply State.comparePass_ev
    | with_reducible apply State.transient_ev
    | with_reducible apply Ev.setPair
    | with_reducible apply Ev.ite
    | with_reducible apply Ev.fold
    | with_reducible apply Ev.elim
    | with_reducible apply Ev.getD
    | with_reducible apply Ev.iter
    | intro _
    | dsimp only
    | split)

theorem execMissingTwin_ev {m : Nat} {s0 : State} (a0 : Fin 32) (a1 : Fin 8) (a2 : Fin 41) {s : State} (h : Ev m s0 s) (hm : Sub 134217728 m) :
    EvOut m s0 (execMissingTwin a0 a1 a2 s) := by
  unfold execMissingTwin
  repeat' (first
    | with_reducible assumption
    | exact Sub.trans hm rfl
    | with_reducible apply EvOut.next
    | with_reducible apply EvOut.ite
    | with_reducible apply ok_ev
    | with_reducible apply Ev.setPair
    | with_reducible apply Ev.ite
    | with_reducible apply Ev.fold
    | with_reducible apply Ev.elim
    | with_reducible apply Ev.getD
    | with_reducible apply Ev.iter
    | intro _
    | dsimp only
    | split)

theorem State.holdPair_ev {m : Nat} {s0 : State} {s : State} (a1 : Nat) (a2 : Nat) (a3 : Bool) (h : Ev m s0 s) (hm : Sub 65536 m) :
    Ev m s0 (State.holdPair s a1 a2 a3) := by
  unfold State.holdPair
  repeat' (first
    | with_reducible assumption
    | exact Sub.trans hm rfl
    | with_reducible apply Ev.each
    | with_reducible apply Ev.setClu
    | with_reducible apply Ev.ite
    | with_reducible apply Ev.fold
    | with_reducible apply Ev.elim
    | with_reducible apply Ev.getD
    | with_reducible apply Ev.iter
    | intro _
    | dsimp only
    | split)

theorem State.mismatchAsh_ev {m : Nat} {s0 : State} {s : State} (a1 : Nat) (a2 : Nat) (a3 : Nat) (h : Ev m s0 s) (hm : Sub 663203381258 m) :
    Ev m s0 (State.mismatchAsh s a1 a2 a3) := by
  unfold State.mismatchAsh
  repeat' (first
    | with_reducible assumption
    | exact Sub.trans hm rfl
    | with_reducible apply State.enterAsh_ev
    | with_reducible apply State.lasting_ev
    | with_reducible apply Ev.ite
    | with_reducible apply Ev.fold
    | with_reducible apply Ev.elim
    | with_reducible apply Ev.getD
    | with_reducible apply Ev.iter
    | intro _
    | dsimp only
    | split)

theorem execEvidenceWindowExpiry_ev {m : Nat} {s0 : State} (a0 : Fin 32) (a1 : Fin 8) {s : State} (h : Ev m s0 s) (hm : Sub 464245223606339084159541258 m) :
    EvOut m s0 (execEvidenceWindowExpiry a0 a1 s) := by
  unfold execEvidenceWindowExpiry
  repeat' (first
    | with_reducible assumption
    | exact Sub.trans hm rfl
    | with_reducible apply EvOut.next
    | with_reducible apply EvOut.ite
    | with_reducible apply ok_ev
    | with_reducible apply State.retire_ev
    | with_reducible apply State.mismatchAsh_ev
    | with_reducible apply State.bumpFree_ev
    | with_reducible apply State.setSpare_ev
    | with_reducible apply State.holdPair_ev
    | with_reducible apply Ev.setPair
    | with_reducible apply State.count_ev
    | with_reducible apply State.rsetf_ev
    | with_reducible apply State.light_ev
    | with_reducible apply Ev.ite
    | with_reducible apply Ev.fold
    | with_reducible apply Ev.elim
    | with_reducible apply Ev.getD
    | with_reducible apply Ev.iter
    | intro _
    | dsimp only
    | split
    | with_reducible apply Ev.set_spareQ)

theorem State.voteDone_ev {m : Nat} {s0 : State} {s : State} (a1 : Nat) (a2 : Nat) (h : Ev m s0 s) (hm : Sub 663211835402 m) :
    Ev m s0 (State.voteDone s a1 a2) := by
  unfold State.voteDone
  repeat' (first
    | with_reducible assumption
    | exact Sub.trans hm rfl
    | with_reducible apply State.enterAsh_ev
    | with_reducible apply State.sticky_ev
    | with_reducible apply State.lasting_ev
    | with_reducible apply State.bumpFree_ev
    | with_reducible apply State.retire_ev
    | with_reducible apply Ev.setPair
    | with_reducible apply Ev.ite
    | with_reducible apply Ev.fold
    | with_reducible apply Ev.elim
    | with_reducible apply Ev.getD
    | with_reducible apply Ev.iter
    | intro _
    | dsimp only
    | split)

theorem execSpareFramesWritten_ev {m : Nat} {s0 : State} (a0 : Fin 32) {s : State} (h : Ev m s0 s) (hm : Sub 464245223606339084159541258 m) :
    EvOut m s0 (execSpareFramesWritten a0 s) := by
  unfold execSpareFramesWritten
  repeat' (first
    | with_reducible assumption
    | exact Sub.trans hm rfl
    | with_reducible apply EvOut.next
    | with_reducible apply EvOut.ite
    | with_reducible apply ok_ev
    | with_reducible apply State.voteDone_ev
    | with_reducible apply State.restoreLatches_ev
    | with_reducible apply State.light_ev
    | with_reducible apply Ev.setPair
    | with_reducible apply Ev.ite
    | with_reducible apply Ev.fold
    | with_reducible apply Ev.elim
    | with_reducible apply Ev.getD
    | with_reducible apply Ev.iter
    | intro _
    | dsimp only
    | split
    | with_reducible apply Ev.set_spareQ)

theorem State.copyMems_ev {m : Nat} {s0 : State} {s : State} (a1 : Nat) (a2 : Nat) (h : Ev m s0 s) (hm : Sub 6442450944 m) :
    Ev m s0 (State.copyMems s a1 a2) := by
  unfold State.copyMems
  repeat' (first
    | with_reducible assumption
    | exact Sub.trans hm rfl
    | with_reducible apply Ev.each
    | with_reducible apply Ev.setBmem
    | with_reducible apply Ev.ite
    | with_reducible apply Ev.fold
    | with_reducible apply Ev.elim
    | with_reducible apply Ev.getD
    | with_reducible apply Ev.iter
    | (intro c; first | with_reducible exact Store.wf_nil _ | with_reducible exact rfl | with_reducible exact Store.wf_put _ _ _ c | with_reducible exact Store.wf_putBytes _ _ c | with_reducible exact Store.wf_keep _ _ c | with_reducible exact Store.wf_mapVals _ _ (Store.wf_iff.1 c).1 | with_reducible exact Store.rising_filter _ c | with_reducible exact Store.rising_put _ _ _ c | with_reducible exact Store.wf_filter _ _ c | with_reducible exact Store.wf_copyRange _ _ c _ | with_reducible exact Store.wf_dup _ _ _ _ c | with_reducible exact c | exact Store.wf_filter _ _ c | exact Store.wf_filter _ _ (Store.wf_filter _ _ c) | exact Store.rising_filter _ c | exact Store.rising_filter _ (Store.rising_filter _ c) | exact Store.wf_put _ _ _ c)
    | intro _
    | dsimp only
    | split
    | with_reducible apply Ev.set_bbytes)

theorem State.copyCells_ev {m : Nat} {s0 : State} {s : State} (a1 : Nat) (a2 : Nat) (h : Ev m s0 s) (hm : Sub 14434304 m) :
    Ev m s0 (State.copyCells s a1 a2) := by
  unfold State.copyCells
  repeat' (first
    | with_reducible assumption
    | exact Sub.trans hm rfl
    | with_reducible apply Ev.each
    | with_reducible apply Ev.setCell
    | with_reducible apply Ev.setBport
    | with_reducible apply Ev.ite
    | with_reducible apply Ev.fold
    | with_reducible apply Ev.elim
    | with_reducible apply Ev.getD
    | with_reducible apply Ev.iter
    | (intro c; first | with_reducible exact Store.wf_nil _ | with_reducible exact rfl | with_reducible exact Store.wf_put _ _ _ c | with_reducible exact Store.wf_putBytes _ _ c | with_reducible exact Store.wf_keep _ _ c | with_reducible exact Store.wf_mapVals _ _ (Store.wf_iff.1 c).1 | with_reducible exact Store.rising_filter _ c | with_reducible exact Store.rising_put _ _ _ c | with_reducible exact Store.wf_filter _ _ c | with_reducible exact Store.wf_copyRange _ _ c _ | with_reducible exact Store.wf_dup _ _ _ _ c | with_reducible exact c | exact Store.wf_filter _ _ c | exact Store.wf_filter _ _ (Store.wf_filter _ _ c) | exact Store.rising_filter _ c | exact Store.rising_filter _ (Store.rising_filter _ c) | exact Store.wf_put _ _ _ c)
    | intro _
    | dsimp only
    | split
    | with_reducible apply Ev.set_cells_bports_twins
    | with_reducible apply Ev.set_chans_aports_blines)

theorem execMemoryCopyComplete_ev {m : Nat} {s0 : State} (a0 : Fin 32) {s : State} (h : Ev m s0 s) (hm : Sub 6576668672 m) :
    EvOut m s0 (execMemoryCopyComplete a0 s) := by
  unfold execMemoryCopyComplete
  repeat' (first
    | with_reducible assumption
    | exact Sub.trans hm rfl
    | with_reducible apply EvOut.next
    | with_reducible apply EvOut.ite
    | with_reducible apply ok_ev
    | with_reducible apply Ev.setPair
    | with_reducible apply State.copyMems_ev
    | with_reducible apply Ev.ite
    | with_reducible apply Ev.fold
    | with_reducible apply Ev.elim
    | with_reducible apply Ev.getD
    | with_reducible apply Ev.iter
    | intro _
    | dsimp only
    | split)

theorem syncHold_ev {m : Nat} {s0 : State} (a0 : Fin 32) {s : State} (h : Ev m s0 s) (hm : Sub 154742504910690133139603464 m) :
    EvOut m s0 (syncHold a0 s) := by
  unfold syncHold
  repeat' (first
    | with_reducible assumption
    | exact Sub.trans hm rfl
    | with_reducible apply EvOut.next
    | with_reducible apply EvOut.ite
    | with_reducible apply ok_ev
    | with_reducible apply Ev.setClu
    | with_reducible apply State.copyCells_ev
    | with_reducible apply State.copyMems_ev
    | with_reducible apply State.setSpare_ev
    | with_reducible apply Ev.setPair
    | with_reducible apply State.setMap_ev
    | with_reducible apply State.domReleaseAll_ev
    | with_reducible apply State.confirmSlice_ev
    | with_reducible apply State.relay_ev
    | with_reducible apply Ev.ite
    | with_reducible apply Ev.fold
    | with_reducible apply Ev.elim
    | with_reducible apply Ev.getD
    | with_reducible apply Ev.iter
    | intro _
    | dsimp only
    | split)

theorem unpairedSwap_ev {m : Nat} {s0 : State} (a0 : Fin 32) {s : State} (h : Ev m s0 s) (hm : Sub 464245223606356676345585672 m) :
    EvOut m s0 (unpairedSwap a0 s) := by
  unfold unpairedSwap
  repeat' (first
    | with_reducible assumption
    | exact Sub.trans hm rfl
    | with_reducible apply EvOut.next
    | with_reducible apply EvOut.ite
    | with_reducible apply ok_ev
    | with_reducible apply State.restoreLatches_ev
    | with_reducible apply State.light_ev
    | with_reducible apply Ev.setClu
    | with_reducible apply State.copyCells_ev
    | with_reducible apply State.copyMems_ev
    | with_reducible apply Ev.setSwap
    | with_reducible apply State.relay_ev
    | with_reducible apply State.setMap_ev
    | with_reducible apply State.breakLocks_ev
    | with_reducible apply State.domReleaseAll_ev
    | with_reducible apply State.confirmSlice_ev
    | with_reducible apply State.setSpare_ev
    | with_reducible apply Ev.ite
    | with_reducible apply Ev.fold
    | with_reducible apply Ev.elim
    | with_reducible apply Ev.getD
    | with_reducible apply Ev.iter
    | intro _
    | dsimp only
    | split
    | with_reducible apply Ev.set_spareQ)

theorem execTnkAsh_ev {m : Nat} {s0 : State} (a0 : Sys2Proof.Issuer) (a1 : Fin 32) {s : State} (h : Ev m s0 s) (hm : Sub 663203381258 m) :
    EvOut m s0 (execTnkAsh a0 a1 s) := by
  unfold execTnkAsh
  repeat' (first
    | with_reducible assumption
    | exact Sub.trans hm rfl
    | with_reducible apply EvOut.next
    | with_reducible apply EvOut.ite
    | with_reducible apply ok_ev
    | with_reducible apply State.guarded_ev
    | with_reducible apply State.enterAsh_ev
    | with_reducible apply Ev.ite
    | with_reducible apply Ev.fold
    | with_reducible apply Ev.elim
    | with_reducible apply Ev.getD
    | with_reducible apply Ev.iter
    | intro _
    | dsimp only
    | split)

theorem State.scrubOne_ev {m : Nat} {s0 : State} {s : State} (a1 : Nat) (a2 : Nat × Nat × Nat × Nat) (h : Ev m s0 s) (hm : Sub 288231039363678218 m) :
    Ev m s0 (State.scrubOne s a1 a2) := by
  unfold State.scrubOne
  repeat' (first
    | with_reducible assumption
    | exact Sub.trans hm rfl
    | with_reducible apply State.clusterFault_ev
    | with_reducible apply State.rewrite_ev
    | with_reducible apply State.sharedFault_ev
    | with_reducible apply Ev.ite
    | with_reducible apply Ev.fold
    | with_reducible apply Ev.elim
    | with_reducible apply Ev.getD
    | with_reducible apply Ev.iter
    | intro _
    | dsimp only
    | split)

theorem execFrameScrub_ev {m : Nat} {s0 : State} (a0 : Fin 32) (a1 : Bool) {s : State} (h : Ev m s0 s) (hm : Sub 288231039363678218 m) :
    EvOut m s0 (execFrameScrub a0 a1 s) := by
  unfold execFrameScrub
  repeat' (first
    | with_reducible assumption
    | exact Sub.trans hm rfl
    | with_reducible apply EvOut.next
    | with_reducible apply EvOut.ite
    | with_reducible apply ok_ev
    | with_reducible apply State.transient_ev
    | with_reducible apply Ev.each
    | with_reducible apply State.scrubOne_ev
    | with_reducible apply State.rsetf_ev
    | with_reducible apply Ev.ite
    | with_reducible apply Ev.fold
    | with_reducible apply Ev.elim
    | with_reducible apply Ev.getD
    | with_reducible apply Ev.iter
    | intro _
    | dsimp only
    | split)

theorem State.testBegin_ev {m : Nat} {s0 : State} {s : State} (a1 : Nat) (a2 : Nat) (h : Ev m s0 s) (hm : Sub 8589934592 m) :
    Ev m s0 (State.testBegin s a1 a2) := by
  unfold State.testBegin
  repeat' (first
    | with_reducible assumption
    | exact Sub.trans hm rfl
    | with_reducible apply Ev.setBank
    | with_reducible apply Ev.ite
    | with_reducible apply Ev.fold
    | with_reducible apply Ev.elim
    | with_reducible apply Ev.getD
    | with_reducible apply Ev.iter
    | intro _
    | dsimp only
    | split)

theorem State.sliceStart_ev {m : Nat} {s0 : State} {s : State} (a1 : Sys2Proof.Machine.Slice) (h : Ev m s0 s) (hm : Sub 464245223606497413297070088 m) :
    Ev m s0 (State.sliceStart s a1) := by
  unfold State.sliceStart
  repeat' (first
    | with_reducible assumption
    | exact Sub.trans hm rfl
    | with_reducible apply State.light_ev
    | with_reducible apply State.testBegin_ev
    | with_reducible apply Ev.ite
    | with_reducible apply Ev.fold
    | with_reducible apply Ev.elim
    | with_reducible apply Ev.getD
    | with_reducible apply Ev.iter
    | intro _
    | dsimp only
    | split
    | with_reducible apply Ev.set_slices_sliceEnded)

theorem State.sliceAsk_ev {m : Nat} {s0 : State} {s : State} (a1 : Nat) (a2 : Nat) (h : Ev m s0 s) (hm : Sub 464245223606497413297070088 m) :
    Ev m s0 (State.sliceAsk s a1 a2) := by
  unfold State.sliceAsk
  repeat' (first
    | with_reducible assumption
    | exact Sub.trans hm rfl
    | with_reducible apply State.viol_ev
    | with_reducible apply State.sliceStart_ev
    | with_reducible apply Ev.ite
    | with_reducible apply Ev.fold
    | with_reducible apply Ev.elim
    | with_reducible apply Ev.getD
    | with_reducible apply Ev.iter
    | intro _
    | dsimp only
    | split)

theorem execSliceRequest_ev {m : Nat} {s0 : State} (a0 : Sys2Proof.Issuer) (a1 : Fin 8) (a2 : Fin 1024) {s : State} (h : Ev m s0 s) (hm : Sub 464245223606497413297070088 m) :
    EvOut m s0 (execSliceRequest a0 a1 a2 s) := by
  unfold execSliceRequest
  repeat' (first
    | with_reducible assumption
    | exact Sub.trans hm rfl
    | with_reducible apply EvOut.next
    | with_reducible apply EvOut.ite
    | with_reducible apply ok_ev
    | with_reducible apply State.guarded_ev
    | with_reducible apply State.sliceAsk_ev
    | with_reducible apply Ev.rput
    | with_reducible apply Ev.ite
    | with_reducible apply Ev.fold
    | with_reducible apply Ev.elim
    | with_reducible apply Ev.getD
    | with_reducible apply Ev.iter
    | intro _
    | dsimp only
    | split)

theorem State.sliceLeaves_ev {m : Nat} {s0 : State} {s : State} (a1 : Nat) (a2 : Nat) (h : Ev m s0 s) (hm : Sub 309485009821345375827673088 m) :
    Ev m s0 (State.sliceLeaves s a1 a2) := by
  unfold State.sliceLeaves
  repeat' (first
    | with_reducible assumption
    | exact Sub.trans hm rfl
    | with_reducible apply State.powerUp_ev
    | with_reducible apply State.emptyCluster_ev
    | with_reducible apply State.clearLatches_ev
    | with_reducible apply Ev.each
    | with_reducible apply Ev.setBmem
    | with_reducible apply State.zeroBank_ev
    | with_reducible apply State.padTo_ev
    | with_reducible apply Ev.ite
    | with_reducible apply Ev.fold
    | with_reducible apply Ev.elim
    | with_reducible apply Ev.getD
    | with_reducible apply Ev.iter
    | (intro c; first | with_reducible exact Store.wf_nil _ | with_reducible exact rfl | with_reducible exact Store.wf_put _ _ _ c | with_reducible exact Store.wf_putBytes _ _ c | with_reducible exact Store.wf_keep _ _ c | with_reducible exact Store.wf_mapVals _ _ (Store.wf_iff.1 c).1 | with_reducible exact Store.rising_filter _ c | with_reducible exact Store.rising_put _ _ _ c | with_reducible exact Store.wf_filter _ _ c | with_reducible exact Store.wf_copyRange _ _ c _ | with_reducible exact Store.wf_dup _ _ _ _ c | with_reducible exact c | exact Store.wf_filter _ _ c | exact Store.wf_filter _ _ (Store.wf_filter _ _ c) | exact Store.rising_filter _ c | exact Store.rising_filter _ (Store.rising_filter _ c) | exact Store.wf_put _ _ _ c)
    | intro _
    | dsimp only
    | split
    | with_reducible apply Ev.set_bbytes)

theorem State.putRecord_ev {m : Nat} {s0 : State} {s : State} (a1 : Nat) (a2 : List Sys2Proof.Byte) (h : Ev m s0 s) (hm : Sub 154742504911235484315811848 m) :
    Ev m s0 (State.putRecord s a1 a2) := by
  unfold State.putRecord
  repeat' (first
    | with_reducible assumption
    | exact Sub.trans hm rfl
    | with_reducible apply State.flashOn_ev
    | with_reducible apply Ev.ite
    | with_reducible apply Ev.fold
    | with_reducible apply Ev.elim
    | with_reducible apply Ev.getD
    | with_reducible apply Ev.iter
    | (intro c; first | with_reducible exact Store.wf_nil _ | with_reducible exact rfl | with_reducible exact Store.wf_put _ _ _ c | with_reducible exact Store.wf_putBytes _ _ c | with_reducible exact Store.wf_keep _ _ c | with_reducible exact Store.wf_mapVals _ _ (Store.wf_iff.1 c).1 | with_reducible exact Store.rising_filter _ c | with_reducible exact Store.rising_put _ _ _ c | with_reducible exact Store.wf_filter _ _ c | with_reducible exact Store.wf_copyRange _ _ c _ | with_reducible exact Store.wf_dup _ _ _ _ c | with_reducible exact c | exact Store.wf_filter _ _ c | exact Store.wf_filter _ _ (Store.wf_filter _ _ c) | exact Store.rising_filter _ c | exact Store.rising_filter _ (Store.rising_filter _ c) | exact Store.wf_put _ _ _ c)
    | intro _
    | dsimp only
    | split
    | with_reducible apply Ev.set_flash)

theorem State.faultMark_ev {m : Nat} {s0 : State} {s : State} (a1 : Nat) (a2 : Nat) (a3 : Bool) (h : Ev m s0 s) (hm : Sub 154742504911235484315811848 m) :
    Ev m s0 (State.faultMark s a1 a2 a3) := by
  unfold State.faultMark
  repeat' (first
    | with_reducible assumption
    | exact Sub.trans hm rfl
    | with_reducible apply State.putRecord_ev
    | with_reducible apply Ev.ite
    | with_reducible apply Ev.fold
    | with_reducible apply Ev.elim
    | with_reducible apply Ev.getD
    | with_reducible apply Ev.iter
    | intro _
    | dsimp only
    | split)

theorem State.markFailed_ev {m : Nat} {s0 : State} {s : State} (a1 : Nat) (a2 : Nat) (h : Ev m s0 s) (hm : Sub 464245223606902033576091656 m) :
    Ev m s0 (State.markFailed s a1 a2) := by
  unfold State.markFailed
  repeat' (first
    | with_reducible assumption
    | exact Sub.trans hm rfl
    | with_reducible apply State.faultMark_ev
    | with_reducible apply State.sticky_ev
    | with_reducible apply State.lasting_ev
    | with_reducible apply State.setHealth_ev
    | with_reducible apply State.setSpare_ev
    | with_reducible apply State.domApply_ev
    | with_reducible apply State.sharedFault_ev
    | with_reducible apply Ev.ite
    | with_reducible apply Ev.fold
    | with_reducible apply Ev.elim
    | with_reducible apply Ev.getD
    | with_reducible apply Ev.iter
    | intro _
    | dsimp only
    | split)

theorem State.spareBack_ev {m : Nat} {s0 : State} {s : State} (a1 : Nat) (h : Ev m s0 s) (hm : Sub 65544 m) :
    Ev m s0 (State.spareBack s a1) := by
  unfold State.spareBack
  repeat' (first
    | with_reducible assumption
    | exact Sub.trans hm rfl
    | with_reducible apply Ev.setClu
    | with_reducible apply State.setHealth_ev
    | with_reducible apply State.setSpares_ev
    | with_reducible apply Ev.ite
    | with_reducible apply Ev.fold
    | with_reducible apply Ev.elim
    | with_reducible apply Ev.getD
    | with_reducible apply Ev.iter
    | intro _
    | dsimp only
    | split)

theorem State.sliceOver_ev {m : Nat} {s0 : State} {s : State} (a1 : Sys2Proof.Machine.Slice) (a2 : Nat) (a3 : Sys2Proof.Word) (h : Ev m s0 s) (hm : Sub 228698418577416 m) :
    Ev m s0 (State.sliceOver s a1 a2 a3) := by
  unfold State.sliceOver
  repeat' (first
    | with_reducible assumption
    | exact Sub.trans hm rfl
    | with_reducible apply Ev.rput
    | with_reducible apply Ev.ite
    | with_reducible apply Ev.fold
    | with_reducible apply Ev.elim
    | with_reducible apply Ev.getD
    | with_reducible apply Ev.iter
    | intro _
    | dsimp only
    | split
    | with_reducible apply Ev.set_slices_asyNews_sliceEnded)

theorem State.sliceRun_ev {m : Nat} {s0 : State} {s : State} (a1 : Sys2Proof.Machine.Slice) (a2 : Bool) (a3 : Sys2Proof.Word) (h : Ev m s0 s) (hm : Sub 464245223607131006872576008 m) :
    Ev m s0 (State.sliceRun s a1 a2 a3) := by
  unfold State.sliceRun
  repeat' (first
    | with_reducible assumption
    | exact Sub.trans hm rfl
    | with_reducible apply State.testBegin_ev
    | with_reducible apply State.sliceOver_ev
    | with_reducible apply State.sliceLeaves_ev
    | with_reducible apply State.count_ev
    | with_reducible apply State.spareBack_ev
    | with_reducible apply State.markFailed_ev
    | with_reducible apply Ev.ite
    | with_reducible apply Ev.fold
    | with_reducible apply Ev.elim
    | with_reducible apply Ev.getD
    | with_reducible apply Ev.iter
    | intro _
    | dsimp only
    | split
    | with_reducible apply Ev.set_slices)

theorem State.sliceEnd_ev {m : Nat} {s0 : State} {s : State} (a1 : Nat) (a2 : Nat) (a3 : Sys2Proof.Word) (a4 : Bool) (h : Ev m s0 s) (hm : Sub 464245223607131006872576010 m) :
    Ev m s0 (State.sliceEnd s a1 a2 a3 a4) := by
  unfold State.sliceEnd
  repeat' (first
    | with_reducible assumption
    | exact Sub.trans hm rfl
    | with_reducible apply State.maintOver_ev
    | with_reducible apply State.bumpFree_ev
    | with_reducible apply State.sliceOver_ev
    | with_reducible apply State.sliceRun_ev
    | with_reducible apply Ev.ite
    | with_reducible apply Ev.fold
    | with_reducible apply Ev.elim
    | with_reducible apply Ev.getD
    | with_reducible apply Ev.iter
    | intro _
    | dsimp only
    | split)

theorem State.sliceDrop_ev {m : Nat} {s0 : State} {s : State} (a1 : Nat) (h : Ev m s0 s) (hm : Sub 309485009821574074246250506 m) :
    Ev m s0 (State.sliceDrop s a1) := by
  unfold State.sliceDrop
  repeat' (first
    | with_reducible assumption
    | exact Sub.trans hm rfl
    | with_reducible apply State.bumpFree_ev
    | with_reducible apply State.sliceOver_ev
    | with_reducible apply State.sliceLeaves_ev
    | with_reducible apply Ev.ite
    | with_reducible apply Ev.fold
    | with_reducible apply Ev.elim
    | with_reducible apply Ev.getD
    | with_reducible apply Ev.iter
    | intro _
    | dsimp only
    | split)

theorem execSliceAbandon_ev {m : Nat} {s0 : State} (a0 : Fin 544) {s : State} (h : Ev m s0 s) (hm : Sub 309485009821574074246250506 m) :
    EvOut m s0 (execSliceAbandon a0 s) := by
  unfold execSliceAbandon
  repeat' (first
    | with_reducible assumption
    | exact Sub.trans hm rfl
    | with_reducible apply EvOut.next
    | with_reducible apply EvOut.ite
    | with_reducible apply ok_ev
    | with_reducible apply State.sliceDrop_ev
    | with_reducible apply Ev.ite
    | with_reducible apply Ev.fold
    | with_reducible apply Ev.elim
    | with_reducible apply Ev.getD
    | with_reducible apply Ev.iter
    | intro _
    | dsimp only
    | split)

theorem execBackgroundSlice_ev {m : Nat} {s0 : State} {s : State} (h : Ev m s0 s) (hm : Sub 464245223606532597669158920 m) :
    EvOut m s0 (execBackgroundSlice s) := by
  unfold execBackgroundSlice
  repeat' (first
    | with_reducible assumption
    | exact Sub.trans hm rfl
    | with_reducible apply EvOut.next
    | with_reducible apply EvOut.ite
    | with_reducible apply ok_ev
    | with_reducible apply State.sliceStart_ev
    | with_reducible apply Ev.ite
    | with_reducible apply Ev.fold
    | with_reducible apply Ev.elim
    | with_reducible apply Ev.getD
    | with_reducible apply Ev.iter
    | intro _
    | dsimp only
    | split
    | with_reducible apply Ev.set_sweep)

theorem State.powerUpSweep_ev {m : Nat} {s0 : State} {s : State} (a1 : List (Nat × Nat)) (a2 : List (Nat × Nat)) (h : Ev m s0 s) (hm : Sub 464245223607131006872576010 m) :
    Ev m s0 (State.powerUpSweep s a1 a2) := by
  unfold State.powerUpSweep
  repeat' (first
    | with_reducible assumption
    | exact Sub.trans hm rfl
    | with_reducible apply Ev.each
    | with_reducible apply State.bumpFree_ev
    | with_reducible apply State.sliceRun_ev
    | with_reducible apply State.rsetb_ev
    | with_reducible apply Ev.ite
    | with_reducible apply Ev.fold
    | with_reducible apply Ev.elim
    | with_reducible apply Ev.getD
    | with_reducible apply Ev.iter
    | intro _
    | dsimp only
    | split)

end Machine

end Sys2Proof
end

