-- ==== Sys2Proof/Laws/EvLocksmith.lean ====
section
/-! SUPPORT. What each operation of Machine/Locksmith.lean can change, and that it keeps what no command may break (Laws/Evolve.lean). -/

set_option linter.unusedTactic false
set_option linter.unreachableTactic false
set_option linter.unusedVariables false

namespace Sys2Proof

open Machine

namespace Machine

theorem State.clearKload_ev {m : Nat} {s0 : State} {s : State} (h : Ev m s0 s) (hm : Sub 8 m) :
    Ev m s0 (State.clearKload s) := by
  unfold State.clearKload
  repeat' (first
    | with_reducible assumption
    | exact Sub.trans hm rfl
    | with_reducible apply Ev.each
    | with_reducible apply Ev.rput
    | with_reducible apply Ev.ite
    | with_reducible apply Ev.fold
    | with_reducible apply Ev.elim
    | with_reducible apply Ev.getD
    | with_reducible apply Ev.iter
    | intro _
    | dsimp only
    | split)

theorem State.kcmdDo_ev {m : Nat} {s0 : State} {s : State} (a1 : Nat) (a2 : Nat) (h : Ev m s0 s) (hm : Sub 4035225266123964424 m) :
    Ev m s0 (State.kcmdDo s a1 a2) := by
  unfold State.kcmdDo
  repeat' (first
    | (intro hj he; have hz := (by assumption : ¬(!s.kcmdOk _ a2) = true); simp [State.kcmdOk] at hz; first | rfl | (exfalso; omega))
    | with_reducible assumption
    | exact Sub.trans hm rfl
    | with_reducible apply State.clearKload_ev
    | with_reducible apply State.viol_ev
    | with_reducible apply Ev.setKslot
    | with_reducible apply Ev.setOslot
    | with_reducible apply Ev.ite
    | with_reducible apply Ev.fold
    | with_reducible apply Ev.elim
    | with_reducible apply Ev.getD
    | with_reducible apply Ev.iter
    | intro _
    | dsimp only
    | split
    | with_reducible apply Ev.set_kcmd)

theorem State.kcmdBy_ev {m : Nat} {s0 : State} {s : State} (a1 : Sys2Proof.Issuer) (a2 : Nat) (a3 : Nat) (h : Ev m s0 s) (hm : Sub 4035225266123964424 m) :
    Ev m s0 (State.kcmdBy s a1 a2 a3) := by
  unfold State.kcmdBy
  repeat' (first
    | with_reducible assumption
    | exact Sub.trans hm rfl
    | with_reducible apply State.kcmdDo_ev
    | with_reducible apply State.viol_ev
    | with_reducible apply Ev.ite
    | with_reducible apply Ev.fold
    | with_reducible apply Ev.elim
    | with_reducible apply Ev.getD
    | with_reducible apply Ev.iter
    | intro _
    | dsimp only
    | split)

theorem execKcmdWrite_ev {m : Nat} {s0 : State} (a0 : Sys2Proof.Issuer) (a1 : Fin 8) {s : State} (h : Ev m s0 s) (hm : Sub 4035225266123964424 m) :
    EvOut m s0 (execKcmdWrite a0 a1 s) := by
  unfold execKcmdWrite
  repeat' (first
    | with_reducible assumption
    | exact Sub.trans hm rfl
    | with_reducible apply EvOut.next
    | with_reducible apply EvOut.ite
    | with_reducible apply ok_ev
    | with_reducible apply State.kcmdBy_ev
    | with_reducible apply Ev.ite
    | with_reducible apply Ev.fold
    | with_reducible apply Ev.elim
    | with_reducible apply Ev.getD
    | with_reducible apply Ev.iter
    | intro _
    | dsimp only
    | split)

theorem execKcmdErase_ev {m : Nat} {s0 : State} (a0 : Sys2Proof.Issuer) (a1 : Fin 8) {s : State} (h : Ev m s0 s) (hm : Sub 4035225266123964424 m) :
    EvOut m s0 (execKcmdErase a0 a1 s) := by
  unfold execKcmdErase
  repeat' (first
    | with_reducible assumption
    | exact Sub.trans hm rfl
    | with_reducible apply EvOut.next
    | with_reducible apply EvOut.ite
    | with_reducible apply ok_ev
    | with_reducible apply State.kcmdBy_ev
    | with_reducible apply Ev.ite
    | with_reducible apply Ev.fold
    | with_reducible apply Ev.elim
    | with_reducible apply Ev.getD
    | with_reducible apply Ev.iter
    | intro _
    | dsimp only
    | split)

theorem execKcmdRevoke_ev {m : Nat} {s0 : State} (a0 : Sys2Proof.Issuer) (a1 : Fin 8) {s : State} (h : Ev m s0 s) (hm : Sub 4035225266123964424 m) :
    EvOut m s0 (execKcmdRevoke a0 a1 s) := by
  unfold execKcmdRevoke
  repeat' (first
    | with_reducible assumption
    | exact Sub.trans hm rfl
    | with_reducible apply EvOut.next
    | with_reducible apply EvOut.ite
    | with_reducible apply ok_ev
    | with_reducible apply State.kcmdBy_ev
    | with_reducible apply Ev.ite
    | with_reducible apply Ev.fold
    | with_reducible apply Ev.elim
    | with_reducible apply Ev.getD
    | with_reducible apply Ev.iter
    | intro _
    | dsimp only
    | split)

theorem execKcmdOwner_ev {m : Nat} {s0 : State} (a0 : Sys2Proof.Issuer) (a1 : Fin 8) {s : State} (h : Ev m s0 s) (hm : Sub 4035225266123964424 m) :
    EvOut m s0 (execKcmdOwner a0 a1 s) := by
  unfold execKcmdOwner
  repeat' (first
    | with_reducible assumption
    | exact Sub.trans hm rfl
    | with_reducible apply EvOut.next
    | with_reducible apply EvOut.ite
    | with_reducible apply ok_ev
    | with_reducible apply State.kcmdBy_ev
    | with_reducible apply Ev.ite
    | with_reducible apply Ev.fold
    | with_reducible apply Ev.elim
    | with_reducible apply Ev.getD
    | with_reducible apply Ev.iter
    | intro _
    | dsimp only
    | split)

theorem execKcmdRevokeOwner_ev {m : Nat} {s0 : State} (a0 : Sys2Proof.Issuer) (a1 : Fin 8) {s : State} (h : Ev m s0 s) (hm : Sub 4035225266123964424 m) :
    EvOut m s0 (execKcmdRevokeOwner a0 a1 s) := by
  unfold execKcmdRevokeOwner
  repeat' (first
    | with_reducible assumption
    | exact Sub.trans hm rfl
    | with_reducible apply EvOut.next
    | with_reducible apply EvOut.ite
    | with_reducible apply ok_ev
    | with_reducible apply State.kcmdBy_ev
    | with_reducible apply Ev.ite
    | with_reducible apply Ev.fold
    | with_reducible apply Ev.elim
    | with_reducible apply Ev.getD
    | with_reducible apply Ev.iter
    | intro _
    | dsimp only
    | split)

theorem execKcmdReserved_ev {m : Nat} {s0 : State} (a0 : Sys2Proof.Issuer) (a1 : Fin 11) (a2 : Fin 8) {s : State} (h : Ev m s0 s) (hm : Sub 4035225266123964424 m) :
    EvOut m s0 (execKcmdReserved a0 a1 a2 s) := by
  unfold execKcmdReserved
  repeat' (first
    | with_reducible assumption
    | exact Sub.trans hm rfl
    | with_reducible apply EvOut.next
    | with_reducible apply EvOut.ite
    | with_reducible apply ok_ev
    | with_reducible apply State.kcmdBy_ev
    | with_reducible apply Ev.ite
    | with_reducible apply Ev.fold
    | with_reducible apply Ev.elim
    | with_reducible apply Ev.getD
    | with_reducible apply Ev.iter
    | intro _
    | dsimp only
    | split)

theorem State.efuseDone_ev {m : Nat} {s0 : State} {s : State} (h : Ev m s0 s) (hm : Sub 4035225266123964416 m) :
    Ev m s0 (State.efuseDone s) := by
  unfold State.efuseDone
  repeat' (first
    | (intro hj he; first | rfl | (exact absurd he ‹_›) | exact he)
    | (intro he; exact he)
    | with_reducible assumption
    | exact Sub.trans hm rfl
    | with_reducible apply Ev.setKslot
    | with_reducible apply Ev.setOslot
    | with_reducible apply Ev.ite
    | with_reducible apply Ev.fold
    | with_reducible apply Ev.elim
    | with_reducible apply Ev.getD
    | with_reducible apply Ev.iter
    | intro _
    | dsimp only
    | split
    | with_reducible apply Ev.set_kcmd)

theorem State.eraseSlots_ev {m : Nat} {s0 : State} {s : State} (h : Ev m s0 s) (hm : Sub 576460752303423488 m) :
    Ev m s0 (State.eraseSlots s) := by
  unfold State.eraseSlots State.each
  simp only [List.foldl_cons, List.foldl_nil]
  repeat' (first
    | with_reducible assumption
    | exact Sub.trans hm rfl
    | with_reducible apply Ev.setKslot
    | (intro hj; exfalso; revert hj; decide))

theorem State.tamperErase_ev {m : Nat} {s0 : State} {s : State} (h : Ev m s0 s) (hm : Sub 464849687253910179769475082 m) :
    Ev m s0 (State.tamperErase s) := by
  unfold State.tamperErase
  repeat' (first
    | with_reducible assumption
    | exact Sub.trans hm rfl
    | with_reducible apply State.sticky_ev
    | with_reducible apply State.eraseSlots_ev
    | with_reducible apply State.loadEnd_ev
    | with_reducible apply Ev.each
    | with_reducible apply State.enterAsh_ev
    | with_reducible apply State.dropGold_ev
    | with_reducible apply Ev.ite
    | with_reducible apply Ev.fold
    | with_reducible apply Ev.elim
    | with_reducible apply Ev.getD
    | with_reducible apply Ev.iter
    | intro _
    | dsimp only
    | split)

theorem State.attest_ev {m : Nat} {s0 : State} {s : State} (a1 : List Sys2Proof.Byte) (h : Ev m s0 s) (hm : Sub 737869762948382064648 m) :
    Ev m s0 (State.attest s a1) := by
  unfold State.attest
  repeat' (first
    | with_reducible assumption
    | exact Sub.trans hm rfl
    | with_reducible apply Ev.rput
    | with_reducible apply State.rsetb_ev
    | with_reducible apply Ev.ite
    | with_reducible apply Ev.fold
    | with_reducible apply Ev.elim
    | with_reducible apply Ev.getD
    | with_reducible apply Ev.iter
    | intro _
    | dsimp only
    | split
    | with_reducible apply Ev.set_reports_attests)

theorem State.signDone_ev {m : Nat} {s0 : State} {s : State} (h : Ev m s0 s) (hm : Sub 442721857769029238792 m) :
    Ev m s0 (State.signDone s) := by
  unfold State.signDone
  repeat' (first
    | with_reducible assumption
    | exact Sub.trans hm rfl
    | with_reducible apply State.rsetb_ev
    | with_reducible apply Ev.ite
    | with_reducible apply Ev.fold
    | with_reducible apply Ev.elim
    | with_reducible apply Ev.getD
    | with_reducible apply Ev.iter
    | intro _
    | dsimp only
    | split
    | with_reducible apply Ev.set_reports_signed)

theorem State.debugSeen_ev {m : Nat} {s0 : State} {s : State} (h : Ev m s0 s) (hm : Sub 8 m) :
    Ev m s0 (State.debugSeen s) := by
  unfold State.debugSeen
  repeat' (first
    | with_reducible assumption
    | exact Sub.trans hm rfl
    | with_reducible apply State.rsetb_ev
    | with_reducible apply Ev.ite
    | with_reducible apply Ev.fold
    | with_reducible apply Ev.elim
    | with_reducible apply Ev.getD
    | with_reducible apply Ev.iter
    | intro _
    | dsimp only
    | split)

end Machine

end Sys2Proof
end

