-- ==== Sys2Proof/Laws/EvGpio.lean ====
section
/-! SUPPORT. What each operation of Machine/Gpio.lean can change, and that it keeps what no command may break (Laws/Evolve.lean). -/

set_option linter.unusedTactic false
set_option linter.unreachableTactic false
set_option linter.unusedVariables false

namespace Sys2Proof

open Machine

namespace Machine

theorem State.gpioDo_ev {m : Nat} {s0 : State} {s : State} (a1 : State → State) (h : Ev m s0 s) (hm : Sub 75557863725914323419136 m) (ha1 : ∀ t0, Ev m s0 t0 → Ev m s0 (a1 t0)) :
    Ev m s0 (State.gpioDo s a1) := by
  unfold State.gpioDo
  repeat' (first
    | with_reducible assumption
    | exact Sub.trans hm rfl
    | with_reducible apply Ev.each
    | with_reducible apply Ev.setGkeep
    | with_reducible apply Ev.ite
    | with_reducible apply ha1
    | with_reducible apply Ev.fold
    | with_reducible apply Ev.elim
    | with_reducible apply Ev.getD
    | with_reducible apply Ev.iter
    | intro _
    | dsimp only
    | split)

theorem execGpioSet_ev {m : Nat} {s0 : State} (a0 : Sys2Proof.Issuer) (a1 : Fin 4) (a2 : Sys2Proof.Word) {s : State} (h : Ev m s0 s) (hm : Sub 75557863725914323419144 m) :
    EvOut m s0 (execGpioSet a0 a1 a2 s) := by
  unfold execGpioSet
  repeat' (first
    | with_reducible assumption
    | exact Sub.trans hm rfl
    | with_reducible apply EvOut.next
    | with_reducible apply EvOut.ite
    | with_reducible apply ok_ev
    | with_reducible apply State.guarded_ev
    | with_reducible apply State.gpioDo_ev
    | with_reducible apply Ev.rput
    | with_reducible apply Ev.ite
    | with_reducible apply Ev.fold
    | with_reducible apply Ev.elim
    | with_reducible apply Ev.getD
    | with_reducible apply Ev.iter
    | intro _
    | dsimp only
    | split)

theorem execGpioClr_ev {m : Nat} {s0 : State} (a0 : Sys2Proof.Issuer) (a1 : Fin 4) (a2 : Sys2Proof.Word) {s : State} (h : Ev m s0 s) (hm : Sub 75557863725914323419144 m) :
    EvOut m s0 (execGpioClr a0 a1 a2 s) := by
  unfold execGpioClr
  repeat' (first
    | with_reducible assumption
    | exact Sub.trans hm rfl
    | with_reducible apply EvOut.next
    | with_reducible apply EvOut.ite
    | with_reducible apply ok_ev
    | with_reducible apply State.guarded_ev
    | with_reducible apply State.gpioDo_ev
    | with_reducible apply Ev.rput
    | with_reducible apply Ev.ite
    | with_reducible apply Ev.fold
    | with_reducible apply Ev.elim
    | with_reducible apply Ev.getD
    | with_reducible apply Ev.iter
    | intro _
    | dsimp only
    | split)

theorem State.privDo_ev {m : Nat} {s0 : State} {s : State} (a1 : Nat) (a2 : BitVec 64) (a3 : Sys2Proof.RegVal → Sys2Proof.RegVal → Sys2Proof.RegVal) (h : Ev m s0 s) (hm : Sub 75557863725914323419144 m) :
    Ev m s0 (State.privDo s a1 a2 a3) := by
  unfold State.privDo
  repeat' (first
    | with_reducible assumption
    | exact Sub.trans hm rfl
    | with_reducible apply State.gpioDo_ev
    | with_reducible apply Ev.each
    | with_reducible apply Ev.rput
    | with_reducible apply Ev.ite
    | with_reducible apply Ev.fold
    | with_reducible apply Ev.elim
    | with_reducible apply Ev.getD
    | with_reducible apply Ev.iter
    | intro _
    | dsimp only
    | split)

theorem execPrivset_ev {m : Nat} {s0 : State} (a0 : Fin 4) (a1 : BitVec 64) {s : State} (h : Ev m s0 s) (hm : Sub 75557863725914323419144 m) :
    EvOut m s0 (execPrivset a0 a1 s) := by
  unfold execPrivset
  repeat' (first
    | with_reducible assumption
    | exact Sub.trans hm rfl
    | with_reducible apply EvOut.next
    | with_reducible apply EvOut.ite
    | with_reducible apply ok_ev
    | with_reducible apply State.privDo_ev
    | with_reducible apply Ev.ite
    | with_reducible apply Ev.fold
    | with_reducible apply Ev.elim
    | with_reducible apply Ev.getD
    | with_reducible apply Ev.iter
    | intro _
    | dsimp only
    | split)

theorem execPrivclr_ev {m : Nat} {s0 : State} (a0 : Fin 4) (a1 : BitVec 64) {s : State} (h : Ev m s0 s) (hm : Sub 75557863725914323419144 m) :
    EvOut m s0 (execPrivclr a0 a1 s) := by
  unfold execPrivclr
  repeat' (first
    | with_reducible assumption
    | exact Sub.trans hm rfl
    | with_reducible apply EvOut.next
    | with_reducible apply EvOut.ite
    | with_reducible apply ok_ev
    | with_reducible apply State.privDo_ev
    | with_reducible apply Ev.ite
    | with_reducible apply Ev.fold
    | with_reducible apply Ev.elim
    | with_reducible apply Ev.getD
    | with_reducible apply Ev.iter
    | intro _
    | dsimp only
    | split)

theorem execPrivout_ev {m : Nat} {s0 : State} (a0 : Fin 4) (a1 : BitVec 64) {s : State} (h : Ev m s0 s) (hm : Sub 75557863725914323419144 m) :
    EvOut m s0 (execPrivout a0 a1 s) := by
  unfold execPrivout
  repeat' (first
    | with_reducible assumption
    | exact Sub.trans hm rfl
    | with_reducible apply EvOut.next
    | with_reducible apply EvOut.ite
    | with_reducible apply ok_ev
    | with_reducible apply State.privDo_ev
    | with_reducible apply Ev.ite
    | with_reducible apply Ev.fold
    | with_reducible apply Ev.elim
    | with_reducible apply Ev.getD
    | with_reducible apply Ev.iter
    | intro _
    | dsimp only
    | split)

theorem State.gpioFunc_ev {m : Nat} {s0 : State} {s : State} (a1 : Nat) (a2 : Sys2Proof.Word) (h : Ev m s0 s) (hm : Sub 75557863725914323419144 m) :
    Ev m s0 (State.gpioFunc s a1 a2) := by
  unfold State.gpioFunc
  repeat' (first
    | with_reducible assumption
    | exact Sub.trans hm rfl
    | with_reducible apply State.gpioDo_ev
    | with_reducible apply State.writePlain_ev
    | with_reducible apply Ev.ite
    | with_reducible apply Ev.fold
    | with_reducible apply Ev.elim
    | with_reducible apply Ev.getD
    | with_reducible apply Ev.iter
    | intro _
    | dsimp only
    | split)

theorem execGpioFuncChange_ev {m : Nat} {s0 : State} (a0 : Sys2Proof.Issuer) (a1 : Fin 4) (a2 : Sys2Proof.Word) {s : State} (h : Ev m s0 s) (hm : Sub 75557863725914323419144 m) :
    EvOut m s0 (execGpioFuncChange a0 a1 a2 s) := by
  unfold execGpioFuncChange
  repeat' (first
    | with_reducible assumption
    | exact Sub.trans hm rfl
    | with_reducible apply EvOut.next
    | with_reducible apply EvOut.ite
    | with_reducible apply ok_ev
    | with_reducible apply State.guarded_ev
    | with_reducible apply State.gpioFunc_ev
    | with_reducible apply Ev.ite
    | with_reducible apply Ev.fold
    | with_reducible apply Ev.elim
    | with_reducible apply Ev.getD
    | with_reducible apply Ev.iter
    | intro _
    | dsimp only
    | split)

theorem State.gpioLevel_ev {m : Nat} {s0 : State} {s : State} (a1 : Sys2Proof.Word) (h : Ev m s0 s) (hm : Sub 377789318629571617095688 m) :
    Ev m s0 (State.gpioLevel s a1) := by
  unfold State.gpioLevel
  repeat' (first
    | with_reducible assumption
    | exact Sub.trans hm rfl
    | with_reducible apply State.gpioDo_ev
    | with_reducible apply Ev.rput
    | with_reducible apply Ev.ite
    | with_reducible apply Ev.fold
    | with_reducible apply Ev.elim
    | with_reducible apply Ev.getD
    | with_reducible apply Ev.iter
    | intro _
    | dsimp only
    | split
    | with_reducible apply Ev.set_gheld)

theorem execGpioLevelChange_ev {m : Nat} {s0 : State} (a0 : Sys2Proof.Issuer) (a1 : Sys2Proof.Word) {s : State} (h : Ev m s0 s) (hm : Sub 377789318629571617095688 m) :
    EvOut m s0 (execGpioLevelChange a0 a1 s) := by
  unfold execGpioLevelChange
  repeat' (first
    | with_reducible assumption
    | exact Sub.trans hm rfl
    | with_reducible apply EvOut.next
    | with_reducible apply EvOut.ite
    | with_reducible apply ok_ev
    | with_reducible apply State.guarded_ev
    | with_reducible apply State.gpioLevel_ev
    | with_reducible apply Ev.ite
    | with_reducible apply Ev.fold
    | with_reducible apply Ev.elim
    | with_reducible apply Ev.getD
    | with_reducible apply Ev.iter
    | intro _
    | dsimp only
    | split)

theorem execGpioLevelHoldEnd_ev {m : Nat} {s0 : State} (a0 : Fin 4) {s : State} (h : Ev m s0 s) (hm : Sub 302231454903657293676544 m) :
    EvOut m s0 (execGpioLevelHoldEnd a0 s) := by
  unfold execGpioLevelHoldEnd
  repeat' (first
    | with_reducible assumption
    | exact Sub.trans hm rfl
    | with_reducible apply EvOut.next
    | with_reducible apply EvOut.ite
    | with_reducible apply ok_ev
    | with_reducible apply Ev.ite
    | with_reducible apply Ev.fold
    | with_reducible apply Ev.elim
    | with_reducible apply Ev.getD
    | with_reducible apply Ev.iter
    | intro _
    | dsimp only
    | split
    | with_reducible apply Ev.set_gheld)

theorem execPinInterruptEdge_ev {m : Nat} {s0 : State} (a0 : Fin 16) (a1 : Bool) (a2 : Fin 64) {s : State} (h : Ev m s0 s) (hm : Sub 188894659314785808547848 m) :
    EvOut m s0 (execPinInterruptEdge a0 a1 a2 s) := by
  unfold execPinInterruptEdge
  repeat' (first
    | with_reducible assumption
    | exact Sub.trans hm rfl
    | with_reducible apply EvOut.next
    | with_reducible apply EvOut.ite
    | with_reducible apply Ev.setGext
    | with_reducible apply ok_ev
    | with_reducible apply Ev.setGline
    | with_reducible apply State.rsetb_ev
    | with_reducible apply Ev.rput
    | with_reducible apply Ev.ite
    | with_reducible apply Ev.fold
    | with_reducible apply Ev.elim
    | with_reducible apply Ev.getD
    | with_reducible apply Ev.iter
    | intro _
    | dsimp only
    | split)

theorem State.intWrite_ev {m : Nat} {s0 : State} {s : State} (a1 : Nat) (a2 : Sys2Proof.Word) (h : Ev m s0 s) (hm : Sub 151115727451828646838280 m) :
    Ev m s0 (State.intWrite s a1 a2) := by
  unfold State.intWrite
  repeat' (first
    | with_reducible assumption
    | exact Sub.trans hm rfl
    | with_reducible apply State.writePlain_ev
    | with_reducible apply Ev.setGline
    | with_reducible apply Ev.ite
    | with_reducible apply Ev.fold
    | with_reducible apply Ev.elim
    | with_reducible apply Ev.getD
    | with_reducible apply Ev.iter
    | intro _
    | dsimp only
    | split)

theorem State.pendClear_ev {m : Nat} {s0 : State} {s : State} (a1 : Sys2Proof.Word) (h : Ev m s0 s) (hm : Sub 8 m) :
    Ev m s0 (State.pendClear s a1) := by
  unfold State.pendClear
  repeat' (first
    | with_reducible assumption
    | exact Sub.trans hm rfl
    | with_reducible apply State.writePlain_ev
    | with_reducible apply Ev.ite
    | with_reducible apply Ev.fold
    | with_reducible apply Ev.elim
    | with_reducible apply Ev.getD
    | with_reducible apply Ev.iter
    | intro _
    | dsimp only
    | split)

theorem execMachineTimer_ev {m : Nat} {s0 : State} (a0 : Fin 4) {s : State} (h : Ev m s0 s) (hm : Sub 9444732965739290427392 m) :
    EvOut m s0 (execMachineTimer a0 s) := by
  unfold execMachineTimer
  repeat' (first
    | with_reducible assumption
    | exact Sub.trans hm rfl
    | with_reducible apply EvOut.next
    | with_reducible apply EvOut.ite
    | with_reducible apply ok_ev
    | with_reducible apply Ev.setCore
    | with_reducible apply Ev.ite
    | with_reducible apply Ev.fold
    | with_reducible apply Ev.elim
    | with_reducible apply Ev.getD
    | with_reducible apply Ev.iter
    | intro _
    | dsimp only
    | split)

theorem State.msip_ev {m : Nat} {s0 : State} {s : State} (a1 : Nat) (a2 : Sys2Proof.Word) (h : Ev m s0 s) (hm : Sub 9444732965739290427400 m) :
    Ev m s0 (State.msip s a1 a2) := by
  unfold State.msip
  repeat' (first
    | with_reducible assumption
    | exact Sub.trans hm rfl
    | with_reducible apply State.writePlain_ev
    | with_reducible apply Ev.setCore
    | with_reducible apply Ev.ite
    | with_reducible apply Ev.fold
    | with_reducible apply Ev.elim
    | with_reducible apply Ev.getD
    | with_reducible apply Ev.iter
    | intro _
    | dsimp only
    | split)

theorem execMsipWrite_ev {m : Nat} {s0 : State} (a0 : Sys2Proof.Issuer) (a1 : Fin 4) (a2 : Sys2Proof.Word) {s : State} (h : Ev m s0 s) (hm : Sub 9444732965739290427400 m) :
    EvOut m s0 (execMsipWrite a0 a1 a2 s) := by
  unfold execMsipWrite
  repeat' (first
    | with_reducible assumption
    | exact Sub.trans hm rfl
    | with_reducible apply EvOut.next
    | with_reducible apply EvOut.ite
    | with_reducible apply ok_ev
    | with_reducible apply State.guarded_ev
    | with_reducible apply State.msip_ev
    | with_reducible apply Ev.ite
    | with_reducible apply Ev.fold
    | with_reducible apply Ev.elim
    | with_reducible apply Ev.getD
    | with_reducible apply Ev.iter
    | intro _
    | dsimp only
    | split)

end Machine

end Sys2Proof
end

