-- ==== Sys2Proof/Laws/EvSerial.lean ====
section
/-! SUPPORT. What each operation of Machine/Serial.lean can change, and that it keeps what no command may break (Laws/Evolve.lean). -/

set_option linter.unusedTactic false
set_option linter.unreachableTactic false
set_option linter.unusedVariables false

namespace Sys2Proof

open Machine

namespace Machine

theorem State.uartRun_ev {m : Nat} {s0 : State} {s : State} (a1 : Nat) (h : Ev m s0 s) (hm : Sub 1180591620717411303426 m) :
    Ev m s0 (State.uartRun s a1) := by
  unfold State.uartRun
  repeat' (first
    | with_reducible assumption
    | exact Sub.trans hm rfl
    | with_reducible apply Ev.setUart
    | with_reducible apply Ev.ite
    | with_reducible apply Ev.fold
    | with_reducible apply Ev.elim
    | with_reducible apply Ev.getD
    | with_reducible apply Ev.iter
    | with_reducible exact Nat.le_succ _
    | with_reducible exact Nat.le_refl _
    | with_reducible exact Nat.le_add_right _ _
    | with_reducible exact Nat.le_max_left _ _
    | intro _
    | dsimp only
    | split
    | with_reducible apply Ev.set_free)

theorem State.spiRun_ev {m : Nat} {s0 : State} {s : State} (h : Ev m s0 s) (hm : Sub 2361183241434822606850 m) :
    Ev m s0 (State.spiRun s) := by
  unfold State.spiRun
  repeat' (first
    | with_reducible assumption
    | exact Sub.trans hm rfl
    | with_reducible apply Ev.ite
    | with_reducible apply Ev.fold
    | with_reducible apply Ev.elim
    | with_reducible apply Ev.getD
    | with_reducible apply Ev.iter
    | with_reducible exact Nat.le_succ _
    | with_reducible exact Nat.le_refl _
    | with_reducible exact Nat.le_add_right _ _
    | with_reducible exact Nat.le_max_left _ _
    | intro _
    | dsimp only
    | split
    | with_reducible apply Ev.set_free_spi)

theorem State.i2cRun_ev {m : Nat} {s0 : State} {s : State} (a1 : Nat) (h : Ev m s0 s) (hm : Sub 4722366482869645213698 m) :
    Ev m s0 (State.i2cRun s a1) := by
  unfold State.i2cRun
  repeat' (first
    | with_reducible assumption
    | exact Sub.trans hm rfl
    | with_reducible apply Ev.setI2c
    | with_reducible apply Ev.ite
    | with_reducible apply Ev.fold
    | with_reducible apply Ev.elim
    | with_reducible apply Ev.getD
    | with_reducible apply Ev.iter
    | with_reducible exact Nat.le_succ _
    | with_reducible exact Nat.le_refl _
    | with_reducible exact Nat.le_add_right _ _
    | with_reducible exact Nat.le_max_left _ _
    | intro _
    | dsimp only
    | split
    | with_reducible apply Ev.set_free)

theorem State.serialRun_ev {m : Nat} {s0 : State} {s : State} (h : Ev m s0 s) (hm : Sub 8264141345021879123970 m) :
    Ev m s0 (State.serialRun s) := by
  unfold State.serialRun
  repeat' (first
    | with_reducible assumption
    | exact Sub.trans hm rfl
    | with_reducible apply State.i2cRun_ev
    | with_reducible apply State.spiRun_ev
    | with_reducible apply State.uartRun_ev
    | with_reducible apply Ev.ite
    | with_reducible apply Ev.fold
    | with_reducible apply Ev.elim
    | with_reducible apply Ev.getD
    | with_reducible apply Ev.iter
    | intro _
    | dsimp only
    | split)

theorem State.serialDo_ev {m : Nat} {s0 : State} {s : State} (a1 : Sys2Proof.Config.SerialOp) (h : Ev m s0 s) (hm : Sub 8264141345021879123968 m) :
    EvPair m s0 (State.serialDo s a1) := by
  unfold State.serialDo
  repeat' (first
    | with_reducible assumption
    | exact Sub.trans hm rfl
    | with_reducible apply EvPair.pair
    | with_reducible apply EvPair.ite
    | with_reducible apply Ev.setUart
    | with_reducible apply Ev.setI2c
    | with_reducible apply Ev.ite
    | with_reducible apply Ev.fold
    | with_reducible apply Ev.elim
    | with_reducible apply Ev.getD
    | with_reducible apply Ev.iter
    | intro _
    | dsimp only
    | split
    | with_reducible apply Ev.set_spi)

theorem State.serialDo_evq {m : Nat} {s0 : State} {t : State} {s : State} {a1 : Sys2Proof.Config.SerialOp} {b : _} (e : (State.serialDo s a1) = (t, b)) (h : Ev m s0 s) (hm : Sub 8264141345021879123968 m) : Ev m s0 t := by
  have := State.serialDo_ev a1 h hm
  rw [e] at this; exact this.get

theorem State.serialDo_ev1 {m : Nat} {s0 : State} {s : State} (a1 : Sys2Proof.Config.SerialOp) (h : Ev m s0 s) (hm : Sub 8264141345021879123968 m) : Ev m s0 (State.serialDo s a1).1 := (State.serialDo_ev a1 h hm).get

theorem State.serialRead_ev {m : Nat} {s0 : State} {s : State} (a1 : Nat) (a2 : Sys2Proof.Width) (a3 : Bool) (h : Ev m s0 s) (hm : Sub 8264141345021879123970 m) :
    EvPair m s0 (State.serialRead s a1 a2 a3) := by
  unfold State.serialRead
  repeat' (first
    | with_reducible assumption
    | exact Sub.trans hm rfl
    | with_reducible apply EvPair.pair
    | with_reducible apply EvPair.ite
    | with_reducible apply State.bumpFree_ev
    | with_reducible apply State.serialDo_ev
    | with_reducible apply State.serialDo_ev1
    | with_reducible apply State.serialRun_ev
    | with_reducible refine State.serialDo_evq ‹_› ?_ ?_
    | with_reducible apply Ev.ite
    | with_reducible apply Ev.fold
    | with_reducible apply Ev.elim
    | with_reducible apply Ev.getD
    | with_reducible apply Ev.iter
    | intro _
    | dsimp only
    | split)

theorem State.serialRead_evq {m : Nat} {s0 : State} {t : State} {s : State} {a1 : Nat} {a2 : Sys2Proof.Width} {a3 : Bool} {b : _} (e : (State.serialRead s a1 a2 a3) = (t, b)) (h : Ev m s0 s) (hm : Sub 8264141345021879123970 m) : Ev m s0 t := by
  have := State.serialRead_ev a1 a2 a3 h hm
  rw [e] at this; exact this.get

theorem State.serialRead_ev1 {m : Nat} {s0 : State} {s : State} (a1 : Nat) (a2 : Sys2Proof.Width) (a3 : Bool) (h : Ev m s0 s) (hm : Sub 8264141345021879123970 m) : Ev m s0 (State.serialRead s a1 a2 a3).1 := (State.serialRead_ev a1 a2 a3 h hm).get

theorem State.serialWrite_ev {m : Nat} {s0 : State} {s : State} (a1 : Nat) (a2 : BitVec 64) (h : Ev m s0 s) (hm : Sub 8264141345021879123970 m) :
    Ev m s0 (State.serialWrite s a1 a2) := by
  unfold State.serialWrite
  repeat' (first
    | with_reducible assumption
    | exact Sub.trans hm rfl
    | with_reducible apply State.serialDo_ev
    | with_reducible apply State.serialDo_ev1
    | with_reducible apply State.serialRun_ev
    | with_reducible refine State.serialDo_evq ‹_› ?_ ?_
    | with_reducible apply Ev.ite
    | with_reducible apply Ev.fold
    | with_reducible apply Ev.elim
    | with_reducible apply Ev.getD
    | with_reducible apply Ev.iter
    | intro _
    | dsimp only
    | split)

end Machine

end Sys2Proof
end

