-- ==== Sys2Proof/Laws/EvResets.lean ====
section
/-! SUPPORT. What each operation of Machine/Resets.lean can change, and that it keeps what no command may break (Laws/Evolve.lean). -/

set_option linter.unusedTactic false
set_option linter.unreachableTactic false
set_option linter.unusedVariables false

namespace Sys2Proof

open Machine

namespace Machine

theorem State.cutFuse_ev {m : Nat} {s0 : State} {s : State} (h : Ev m s0 s) (hm : Sub 8070450532247928834 m) :
    Ev m s0 (State.cutFuse s) := by
  unfold State.cutFuse
  repeat' (first
    | (intro he; first | exact he | (change (s.oslot _).prog = true at he; rw [he]; rfl))
    | with_reducible assumption
    | exact Sub.trans hm rfl
    | with_reducible apply State.bumpFree_ev
    | with_reducible apply Ev.setOslot
    | with_reducible apply Ev.ite
    | with_reducible apply Ev.fold
    | with_reducible apply Ev.elim
    | with_reducible apply Ev.getD
    | with_reducible apply Ev.iter
    | intro _
    | dsimp only
    | split
    | with_reducible apply Ev.set_kcmd_cutSlots
    | with_reducible apply Ev.set_kcmd)

theorem State.cutFlash_ev {m : Nat} {s0 : State} {s : State} (h : Ev m s0 s) (hm : Sub 309485009821908018678202368 m) :
    Ev m s0 (State.cutFlash s) := by
  unfold State.cutFlash
  repeat' (first
    | with_reducible assumption
    | exact Sub.trans hm rfl
    | with_reducible apply Ev.each
    | with_reducible apply Ev.ite
    | with_reducible apply Ev.fold
    | with_reducible apply Ev.elim
    | with_reducible apply Ev.getD
    | with_reducible apply Ev.iter
    | (intro c; first | with_reducible exact Store.wf_nil _ | with_reducible exact rfl | with_reducible exact Store.wf_put _ _ _ c | with_reducible exact Store.wf_putBytes _ _ c | with_reducible exact Store.wf_keep _ _ c | with_reducible exact Store.wf_mapVals _ _ (Store.wf_iff.1 c).1 | with_reducible exact Store.rising_filter _ c | with_reducible exact Store.rising_put _ _ _ c | with_reducible exact Store.wf_filter _ _ c | with_reducible exact Store.wf_copyRange _ _ c _ | with_reducible exact Store.wf_dup _ _ _ _ c | with_reducible exact c | exact Store.wf_filter _ _ c | exact Store.wf_filter _ _ (Store.wf_filter _ _ c) | exact Store.rising_filter _ c | exact Store.rising_filter _ (Store.rising_filter _ c) | exact Store.wf_put _ _ _ c)
    | with_reducible exact Nat.le_succ _
    | with_reducible exact Nat.le_refl _
    | with_reducible exact Nat.le_add_right _ _
    | with_reducible exact Nat.le_max_left _ _
    | intro _
    | dsimp only
    | split
    | with_reducible apply Ev.set_flash_epoch)

theorem State.allCold_ev {m : Nat} {s0 : State} {s : State} (h : Ev m s0 s) (hm : Sub 8 m) :
    Ev m s0 (State.allCold s) := by
  unfold State.allCold
  repeat' (first
    | with_reducible assumption
    | exact Sub.trans hm rfl
    | with_reducible apply Ev.each
    | with_reducible apply State.rsetf_ev
    | with_reducible apply Ev.ite
    | with_reducible apply Ev.fold
    | with_reducible apply Ev.elim
    | with_reducible apply Ev.getD
    | with_reducible apply Ev.iter
    | intro _
    | dsimp only
    | split)

theorem State.afterReset_ev {m : Nat} {s0 : State} {s : State} (h : Ev m s0 s) (hm : Sub 10774952692874550966161778933740 m) :
    Ev m s0 (State.afterReset s) := by
  exact Ev.raw h (fun f hf => by cases f <;> first | exact hm.no rfl hf | rfl) (fun c => by
        unfold State.afterReset
        constructor <;> dsimp only <;> first | with_reducible exact Store.wf_nil _ | exact (rfl : Store.rising none [] = true) | with_reducible rfl | with_reducible exact c.flash | with_reducible exact c.kslots | with_reducible exact c.oslots | with_reducible exact c.gexts | with_reducible exact Store.wf_mapVals _ _ (Store.wf_iff.1 c.pins).1)
        ⟨Nat.le_refl _, Nat.le_succ _, Nat.le_succ _, Nat.le_refl _, id, fun _ h => h, fun _ h => h, fun _ _ h => h⟩

theorem State.resetTo_ev {m : Nat} {s0 : State} {s : State} (a1 : Bool) (h : Ev m s0 s) (hm : Sub 10774952692880316136634766589934 m) :
    Ev m s0 (State.resetTo s a1) := by
  unfold State.resetTo
  repeat' (first
    | with_reducible assumption
    | exact Sub.trans hm rfl
    | with_reducible apply State.cutFlash_ev
    | with_reducible apply State.cutFuse_ev
    | with_reducible apply State.afterReset_ev
    | with_reducible apply State.rsetb_ev
    | with_reducible apply Ev.rput
    | with_reducible apply State.allCold_ev
    | with_reducible apply Ev.ite
    | with_reducible apply Ev.fold
    | with_reducible apply Ev.elim
    | with_reducible apply Ev.getD
    | with_reducible apply Ev.iter
    | intro _
    | dsimp only
    | split)

theorem State.packageReset_ev {m : Nat} {s0 : State} {s : State} (h : Ev m s0 s) (hm : Sub 10774952692880316136634766589934 m) :
    Ev m s0 (State.packageReset s) := by
  unfold State.packageReset
  repeat' (first
    | with_reducible assumption
    | exact Sub.trans hm rfl
    | with_reducible apply State.resetTo_ev
    | with_reducible apply Ev.ite
    | with_reducible apply Ev.fold
    | with_reducible apply Ev.elim
    | with_reducible apply Ev.getD
    | with_reducible apply Ev.iter
    | intro _
    | dsimp only
    | split)

theorem State.batteryLost_ev {m : Nat} {s0 : State} {s : State} (h : Ev m s0 s) (hm : Sub 2535301200457035263745709834248 m) :
    Ev m s0 (State.batteryLost s) := by
  unfold State.batteryLost
  repeat' (first
    | with_reducible assumption
    | exact Sub.trans hm rfl
    | with_reducible apply State.rsetb_ev
    | with_reducible apply State.eraseSlots_ev
    | with_reducible apply Ev.ite
    | with_reducible apply Ev.fold
    | with_reducible apply Ev.elim
    | with_reducible apply Ev.getD
    | with_reducible apply Ev.iter
    | intro _
    | dsimp only
    | split
    | with_reducible apply Ev.set_bbGone)

theorem execPowerOnReset_ev {m : Nat} {s0 : State} (a0 : Bool) (a1 : Bool) {s : State} (h : Ev m s0 s) (hm : Sub 20282332194592613108612344053742 m) :
    EvOut m s0 (execPowerOnReset a0 a1 s) := by
  unfold execPowerOnReset
  repeat' (first
    | with_reducible assumption
    | exact Sub.trans hm rfl
    | with_reducible apply EvOut.next
    | with_reducible apply EvOut.ite
    | with_reducible apply State.resetTo_ev
    | with_reducible apply ok_ev
    | with_reducible apply State.batteryLost_ev
    | with_reducible apply Ev.ite
    | with_reducible apply Ev.fold
    | with_reducible apply Ev.elim
    | with_reducible apply Ev.getD
    | with_reducible apply Ev.iter
    | intro _
    | dsimp only
    | split
    | with_reducible apply Ev.set_vin_vbat_hot)

theorem execVinDipPackageReset_ev {m : Nat} {s0 : State} {s : State} (h : Ev m s0 s) (hm : Sub 10774952692880316136634766589934 m) :
    EvOut m s0 (execVinDipPackageReset s) := by
  unfold execVinDipPackageReset
  repeat' (first
    | with_reducible assumption
    | exact Sub.trans hm rfl
    | with_reducible apply EvOut.next
    | with_reducible apply EvOut.ite
    | with_reducible apply ok_ev
    | with_reducible apply State.packageReset_ev
    | with_reducible apply Ev.ite
    | with_reducible apply Ev.fold
    | with_reducible apply Ev.elim
    | with_reducible apply Ev.getD
    | with_reducible apply Ev.iter
    | intro _
    | dsimp only
    | split)

theorem execPrstNAssert_ev {m : Nat} {s0 : State} {s : State} (h : Ev m s0 s) (hm : Sub 10774952692880316136634766589934 m) :
    EvOut m s0 (execPrstNAssert s) := by
  unfold execPrstNAssert
  repeat' (first
    | with_reducible assumption
    | exact Sub.trans hm rfl
    | with_reducible apply EvOut.next
    | with_reducible apply EvOut.ite
    | with_reducible apply ok_ev
    | with_reducible apply State.packageReset_ev
    | with_reducible apply Ev.ite
    | with_reducible apply Ev.fold
    | with_reducible apply Ev.elim
    | with_reducible apply Ev.getD
    | with_reducible apply Ev.iter
    | intro _
    | dsimp only
    | split)

theorem execThermalTrip_ev {m : Nat} {s0 : State} (a0 : Fin 4) (a1 : BitVec 9) {s : State} (h : Ev m s0 s) (hm : Sub 15845555093793233742621579411438 m) :
    EvOut m s0 (execThermalTrip a0 a1 s) := by
  unfold execThermalTrip
  repeat' (first
    | with_reducible assumption
    | exact Sub.trans hm rfl
    | with_reducible apply EvOut.next
    | with_reducible apply EvOut.ite
    | with_reducible apply ok_ev
    | with_reducible apply State.packageReset_ev
    | with_reducible apply Ev.ite
    | with_reducible apply Ev.fold
    | with_reducible apply Ev.elim
    | with_reducible apply Ev.getD
    | with_reducible apply Ev.iter
    | intro _
    | dsimp only
    | split
    | with_reducible apply Ev.set_hot)

theorem execThermalTripRelease_ev {m : Nat} {s0 : State} {s : State} (h : Ev m s0 s) (hm : Sub 15211807202738752817960438464520 m) :
    EvOut m s0 (execThermalTripRelease s) := by
  unfold execThermalTripRelease
  repeat' (first
    | with_reducible assumption
    | exact Sub.trans hm rfl
    | with_reducible apply EvOut.next
    | with_reducible apply EvOut.ite
    | with_reducible apply ok_ev
    | with_reducible apply Ev.ite
    | with_reducible apply Ev.fold
    | with_reducible apply Ev.elim
    | with_reducible apply Ev.getD
    | with_reducible apply Ev.iter
    | (intro c; first | with_reducible exact Store.wf_nil _ | with_reducible exact rfl | with_reducible exact Store.wf_put _ _ _ c | with_reducible exact Store.wf_putBytes _ _ c | with_reducible exact Store.wf_keep _ _ c | with_reducible exact Store.wf_mapVals _ _ (Store.wf_iff.1 c).1 | with_reducible exact Store.rising_filter _ c | with_reducible exact Store.rising_put _ _ _ c | with_reducible exact Store.wf_filter _ _ c | with_reducible exact Store.wf_copyRange _ _ c _ | with_reducible exact Store.wf_dup _ _ _ _ c | with_reducible exact c | exact Store.wf_filter _ _ c | exact Store.wf_filter _ _ (Store.wf_filter _ _ c) | exact Store.rising_filter _ c | exact Store.rising_filter _ (Store.rising_filter _ c) | exact Store.wf_put _ _ _ c)
    | intro _
    | dsimp only
    | split
    | with_reducible apply Ev.set_regs_hot_bootDue)

theorem execVbatLoss_ev {m : Nat} {s0 : State} {s : State} (h : Ev m s0 s) (hm : Sub 3802951800685264665242413039624 m) :
    EvOut m s0 (execVbatLoss s) := by
  unfold execVbatLoss
  repeat' (first
    | with_reducible assumption
    | exact Sub.trans hm rfl
    | with_reducible apply EvOut.next
    | with_reducible apply EvOut.ite
    | with_reducible apply ok_ev
    | with_reducible apply State.batteryLost_ev
    | with_reducible apply Ev.ite
    | with_reducible apply Ev.fold
    | with_reducible apply Ev.elim
    | with_reducible apply Ev.getD
    | with_reducible apply Ev.iter
    | intro _
    | dsimp only
    | split
    | with_reducible apply Ev.set_vbat)

theorem State.setHalted_ev {m : Nat} {s0 : State} {s : State} (a1 : Nat) (a2 : Bool) (h : Ev m s0 s) (hm : Sub 8 m) :
    Ev m s0 (State.setHalted s a1 a2) := by
  unfold State.setHalted
  repeat' (first
    | with_reducible assumption
    | exact Sub.trans hm rfl
    | with_reducible apply State.rsetb_ev
    | with_reducible apply Ev.ite
    | with_reducible apply Ev.fold
    | with_reducible apply Ev.elim
    | with_reducible apply Ev.getD
    | with_reducible apply Ev.iter
    | intro _
    | dsimp only
    | split)

theorem State.haltCore_ev {m : Nat} {s0 : State} {s : State} (a1 : Nat) (a2 : Nat) (h : Ev m s0 s) (hm : Sub 9444732965739290427400 m) :
    Ev m s0 (State.haltCore s a1 a2) := by
  unfold State.haltCore
  repeat' (first
    | with_reducible assumption
    | exact Sub.trans hm rfl
    | with_reducible apply State.debugSeen_ev
    | with_reducible apply Ev.setCore
    | with_reducible apply State.rsetf_ev
    | with_reducible apply State.setHalted_ev
    | with_reducible apply Ev.ite
    | with_reducible apply Ev.fold
    | with_reducible apply Ev.elim
    | with_reducible apply Ev.getD
    | with_reducible apply Ev.iter
    | intro _
    | dsimp only
    | split)

theorem State.coreReset_ev {m : Nat} {s0 : State} {s : State} (a1 : Nat) (h : Ev m s0 s) (hm : Sub 9444732965739290427402 m) :
    Ev m s0 (State.coreReset s a1) := by
  unfold State.coreReset
  repeat' (first
    | with_reducible assumption
    | exact Sub.trans hm rfl
    | with_reducible apply State.setHalted_ev
    | with_reducible apply Ev.setCore
    | with_reducible apply State.bumpFree_ev
    | with_reducible apply State.haltCore_ev
    | with_reducible apply Ev.ite
    | with_reducible apply Ev.fold
    | with_reducible apply Ev.elim
    | with_reducible apply Ev.getD
    | with_reducible apply Ev.iter
    | intro _
    | dsimp only
    | split)

theorem State.blockReset_ev {m : Nat} {s0 : State} {s : State} (a1 : Nat) (a2 : Nat) (a3 : List Nat) (h : Ev m s0 s) (hm : Sub 8 m) :
    Ev m s0 (State.blockReset s a1 a2 a3) := by
  unfold State.blockReset
  repeat' (first
    | with_reducible assumption
    | exact Sub.trans hm rfl
    | with_reducible apply Ev.ite
    | with_reducible apply Ev.fold
    | with_reducible apply Ev.elim
    | with_reducible apply Ev.getD
    | with_reducible apply Ev.iter
    | (intro c; first | with_reducible exact Store.wf_nil _ | with_reducible exact rfl | with_reducible exact Store.wf_put _ _ _ c | with_reducible exact Store.wf_putBytes _ _ c | with_reducible exact Store.wf_keep _ _ c | with_reducible exact Store.wf_mapVals _ _ (Store.wf_iff.1 c).1 | with_reducible exact Store.rising_filter _ c | with_reducible exact Store.rising_put _ _ _ c | with_reducible exact Store.wf_filter _ _ c | with_reducible exact Store.wf_copyRange _ _ c _ | with_reducible exact Store.wf_dup _ _ _ _ c | with_reducible exact c | exact Store.wf_filter _ _ c | exact Store.wf_filter _ _ (Store.wf_filter _ _ c) | exact Store.rising_filter _ c | exact Store.rising_filter _ (Store.rising_filter _ c) | exact Store.wf_put _ _ _ c)
    | intro _
    | dsimp only
    | split
    | with_reducible apply Ev.set_regs)

theorem State.wdgReset_ev {m : Nat} {s0 : State} {s : State} (a1 : Nat) (h : Ev m s0 s) (hm : Sub 18889465931478580854792 m) :
    Ev m s0 (State.wdgReset s a1) := by
  unfold State.wdgReset
  repeat' (first
    | with_reducible assumption
    | exact Sub.trans hm rfl
    | with_reducible apply Ev.setWdg
    | with_reducible apply State.blockReset_ev
    | with_reducible apply Ev.ite
    | with_reducible apply Ev.fold
    | with_reducible apply Ev.elim
    | with_reducible apply Ev.getD
    | with_reducible apply Ev.iter
    | intro _
    | dsimp only
    | split)

theorem State.complexReset_ev {m : Nat} {s0 : State} {s : State} (h : Ev m s0 s) (hm : Sub 10141746361744340860360200282378 m) :
    Ev m s0 (State.complexReset s) := by
  unfold State.complexReset
  repeat' (first
    | with_reducible assumption
    | exact Sub.trans hm rfl
    | with_reducible apply State.loadAbort_ev
    | with_reducible apply State.breakLocks_ev
    | with_reducible apply State.gpioDo_ev
    | with_reducible apply State.blockReset_ev
    | with_reducible apply Ev.each
    | with_reducible apply State.wdgReset_ev
    | with_reducible apply State.coreReset_ev
    | with_reducible apply State.serialReset_ev
    | with_reducible apply Ev.ite
    | with_reducible apply Ev.fold
    | with_reducible apply Ev.elim
    | with_reducible apply Ev.getD
    | with_reducible apply Ev.iter
    | (intro c; first | with_reducible exact Store.wf_nil _ | with_reducible exact rfl | with_reducible exact Store.wf_put _ _ _ c | with_reducible exact Store.wf_putBytes _ _ c | with_reducible exact Store.wf_keep _ _ c | with_reducible exact Store.wf_mapVals _ _ (Store.wf_iff.1 c).1 | with_reducible exact Store.rising_filter _ c | with_reducible exact Store.rising_put _ _ _ c | with_reducible exact Store.wf_filter _ _ c | with_reducible exact Store.wf_copyRange _ _ c _ | with_reducible exact Store.wf_dup _ _ _ _ c | with_reducible exact c | exact Store.wf_filter _ _ c | exact Store.wf_filter _ _ (Store.wf_filter _ _ c) | exact Store.rising_filter _ c | exact Store.rising_filter _ (Store.rising_filter _ c) | exact Store.wf_put _ _ _ c)
    | with_reducible exact Nat.le_succ _
    | with_reducible exact Nat.le_refl _
    | with_reducible exact Nat.le_add_right _ _
    | with_reducible exact Nat.le_max_left _ _
    | intro _
    | dsimp only
    | split
    | with_reducible apply Ev.set_ptpGo_fw_recovery_glines_gheld_ptpNews_ptpStamp_ppsAt_mem_memEpoch_ix_bootDue)

theorem State.wdgLoad_ev {m : Nat} {s0 : State} {s : State} (a1 : Nat) (h : Ev m s0 s) (hm : Sub 18889465931478580854784 m) :
    Ev m s0 (State.wdgLoad s a1) := by
  unfold State.wdgLoad
  repeat' (first
    | with_reducible assumption
    | exact Sub.trans hm rfl
    | with_reducible apply Ev.setWdg
    | with_reducible apply Ev.ite
    | with_reducible apply Ev.fold
    | with_reducible apply Ev.elim
    | with_reducible apply Ev.getD
    | with_reducible apply Ev.iter
    | intro _
    | dsimp only
    | split)

theorem State.wdgCtl_ev {m : Nat} {s0 : State} {s : State} (a1 : Nat) (a2 : Sys2Proof.Word) (h : Ev m s0 s) (hm : Sub 18889465931478580854792 m) :
    Ev m s0 (State.wdgCtl s a1 a2) := by
  unfold State.wdgCtl
  repeat' (first
    | with_reducible assumption
    | exact Sub.trans hm rfl
    | with_reducible apply State.rsetb_ev
    | with_reducible apply State.writePlain_ev
    | with_reducible apply State.wdgLoad_ev
    | with_reducible apply Ev.ite
    | with_reducible apply Ev.fold
    | with_reducible apply Ev.elim
    | with_reducible apply Ev.getD
    | with_reducible apply Ev.iter
    | intro _
    | dsimp only
    | split)

theorem execWatchdogEnable_ev {m : Nat} {s0 : State} (a0 : Sys2Proof.Issuer) (a1 : Fin 5) (a2 : Sys2Proof.Word) {s : State} (h : Ev m s0 s) (hm : Sub 18889465931478580854792 m) :
    EvOut m s0 (execWatchdogEnable a0 a1 a2 s) := by
  unfold execWatchdogEnable
  repeat' (first
    | with_reducible assumption
    | exact Sub.trans hm rfl
    | with_reducible apply EvOut.next
    | with_reducible apply EvOut.ite
    | with_reducible apply ok_ev
    | with_reducible apply State.wdgCtl_ev
    | with_reducible apply State.viol_ev
    | with_reducible apply Ev.ite
    | with_reducible apply Ev.fold
    | with_reducible apply Ev.elim
    | with_reducible apply Ev.getD
    | with_reducible apply Ev.iter
    | intro _
    | dsimp only
    | split)

theorem State.wdgKick_ev {m : Nat} {s0 : State} {s : State} (a1 : Nat) (a2 : Nat) (h : Ev m s0 s) (hm : Sub 18889465931478580854792 m) :
    Ev m s0 (State.wdgKick s a1 a2) := by
  unfold State.wdgKick
  repeat' (first
    | with_reducible assumption
    | exact Sub.trans hm rfl
    | with_reducible apply Ev.setWdg
    | with_reducible apply State.wdgLoad_ev
    | with_reducible apply State.viol_ev
    | with_reducible apply Ev.ite
    | with_reducible apply Ev.fold
    | with_reducible apply Ev.elim
    | with_reducible apply Ev.getD
    | with_reducible apply Ev.iter
    | intro _
    | dsimp only
    | split)

theorem execWatchdogKick_ev {m : Nat} {s0 : State} (a0 : Sys2Proof.Issuer) (a1 : Fin 5) (a2 : BitVec 8) {s : State} (h : Ev m s0 s) (hm : Sub 18889465931478580854792 m) :
    EvOut m s0 (execWatchdogKick a0 a1 a2 s) := by
  unfold execWatchdogKick
  repeat' (first
    | with_reducible assumption
    | exact Sub.trans hm rfl
    | with_reducible apply EvOut.next
    | with_reducible apply EvOut.ite
    | with_reducible apply ok_ev
    | with_reducible apply State.wdgKick_ev
    | with_reducible apply State.viol_ev
    | with_reducible apply Ev.ite
    | with_reducible apply Ev.fold
    | with_reducible apply Ev.elim
    | with_reducible apply Ev.getD
    | with_reducible apply Ev.iter
    | intro _
    | dsimp only
    | split)

theorem execWatchdogWarn_ev {m : Nat} {s0 : State} (a0 : Fin 5) {s : State} (h : Ev m s0 s) (hm : Sub 18889465931478580854792 m) :
    EvOut m s0 (execWatchdogWarn a0 s) := by
  unfold execWatchdogWarn
  repeat' (first
    | with_reducible assumption
    | exact Sub.trans hm rfl
    | with_reducible apply EvOut.next
    | with_reducible apply EvOut.ite
    | with_reducible apply ok_ev
    | with_reducible apply State.sticky_ev
    | with_reducible apply Ev.setWdg
    | with_reducible apply Ev.ite
    | with_reducible apply Ev.fold
    | with_reducible apply Ev.elim
    | with_reducible apply Ev.getD
    | with_reducible apply Ev.iter
    | intro _
    | dsimp only
    | split)

theorem State.wdgExpire_ev {m : Nat} {s0 : State} {s : State} (a1 : Nat) (h : Ev m s0 s) (hm : Sub 10774952692880316136634766589934 m) :
    Ev m s0 (State.wdgExpire s a1) := by
  unfold State.wdgExpire
  repeat' (first
    | with_reducible assumption
    | exact Sub.trans hm rfl
    | with_reducible apply State.sticky_ev
    | with_reducible apply State.complexReset_ev
    | with_reducible apply State.wdgReset_ev
    | with_reducible apply State.coreReset_ev
    | with_reducible apply State.packageReset_ev
    | with_reducible apply Ev.ite
    | with_reducible apply Ev.fold
    | with_reducible apply Ev.elim
    | with_reducible apply Ev.getD
    | with_reducible apply Ev.iter
    | intro _
    | dsimp only
    | split)

theorem execWatchdogExpiry_ev {m : Nat} {s0 : State} (a0 : Fin 5) {s : State} (h : Ev m s0 s) (hm : Sub 10774952692880316136634766589934 m) :
    EvOut m s0 (execWatchdogExpiry a0 s) := by
  unfold execWatchdogExpiry
  repeat' (first
    | with_reducible assumption
    | exact Sub.trans hm rfl
    | with_reducible apply EvOut.next
    | with_reducible apply EvOut.ite
    | with_reducible apply ok_ev
    | with_reducible apply State.wdgExpire_ev
    | with_reducible apply Ev.ite
    | with_reducible apply Ev.fold
    | with_reducible apply Ev.elim
    | with_reducible apply Ev.getD
    | with_reducible apply Ev.iter
    | intro _
    | dsimp only
    | split)

theorem execManagementPortLink_ev {m : Nat} {s0 : State} (a0 : Bool) (a1 : Bool) (a2 : Bool) {s : State} (h : Ev m s0 s) (hm : Sub 8 m) :
    EvOut m s0 (execManagementPortLink a0 a1 a2 s) := by
  unfold execManagementPortLink
  repeat' (first
    | with_reducible assumption
    | exact Sub.trans hm rfl
    | with_reducible apply EvOut.next
    | with_reducible apply EvOut.ite
    | with_reducible apply ok_ev
    | with_reducible apply Ev.rput
    | with_reducible apply Ev.ite
    | with_reducible apply Ev.fold
    | with_reducible apply Ev.elim
    | with_reducible apply Ev.getD
    | with_reducible apply Ev.iter
    | intro _
    | dsimp only
    | split)

theorem execDownshift_ev {m : Nat} {s0 : State} {s : State} (h : Ev m s0 s) (hm : Sub 8 m) :
    EvOut m s0 (execDownshift s) := by
  unfold execDownshift
  repeat' (first
    | with_reducible assumption
    | exact Sub.trans hm rfl
    | with_reducible apply EvOut.next
    | with_reducible apply EvOut.ite
    | with_reducible apply ok_ev
    | with_reducible apply Ev.rput
    | with_reducible apply Ev.ite
    | with_reducible apply Ev.fold
    | with_reducible apply Ev.elim
    | with_reducible apply Ev.getD
    | with_reducible apply Ev.iter
    | intro _
    | dsimp only
    | split)

theorem State.phyRestart_ev {m : Nat} {s0 : State} {s : State} (h : Ev m s0 s) (hm : Sub 8 m) :
    Ev m s0 (State.phyRestart s) := by
  unfold State.phyRestart
  repeat' (first
    | with_reducible assumption
    | exact Sub.trans hm rfl
    | with_reducible apply Ev.rput
    | with_reducible apply Ev.ite
    | with_reducible apply Ev.fold
    | with_reducible apply Ev.elim
    | with_reducible apply Ev.getD
    | with_reducible apply Ev.iter
    | intro _
    | dsimp only
    | split)

theorem execPhyRestart_ev {m : Nat} {s0 : State} (a0 : Sys2Proof.Issuer) {s : State} (h : Ev m s0 s) (hm : Sub 8 m) :
    EvOut m s0 (execPhyRestart a0 s) := by
  unfold execPhyRestart
  repeat' (first
    | with_reducible assumption
    | exact Sub.trans hm rfl
    | with_reducible apply EvOut.next
    | with_reducible apply EvOut.ite
    | with_reducible apply ok_ev
    | with_reducible apply State.guarded_ev
    | with_reducible apply State.phyRestart_ev
    | with_reducible apply Ev.ite
    | with_reducible apply Ev.fold
    | with_reducible apply Ev.elim
    | with_reducible apply Ev.getD
    | with_reducible apply Ev.iter
    | intro _
    | dsimp only
    | split)

theorem execPtpStep_ev {m : Nat} {s0 : State} (a0 : Sys2Proof.Issuer) {s : State} (h : Ev m s0 s) (hm : Sub 264 m) :
    EvOut m s0 (execPtpStep a0 s) := by
  unfold execPtpStep
  repeat' (first
    | with_reducible assumption
    | exact Sub.trans hm rfl
    | with_reducible apply EvOut.next
    | with_reducible apply EvOut.ite
    | with_reducible apply ok_ev
    | with_reducible apply State.guarded_ev
    | with_reducible apply Ev.ite
    | with_reducible apply Ev.fold
    | with_reducible apply Ev.elim
    | with_reducible apply Ev.getD
    | with_reducible apply Ev.iter
    | intro _
    | dsimp only
    | split
    | with_reducible apply Ev.set_ptpGo)

theorem execPpsOutput_ev {m : Nat} {s0 : State} {s : State} (h : Ev m s0 s) (hm : Sub 4835703278458516698824704 m) :
    EvOut m s0 (execPpsOutput s) := by
  unfold execPpsOutput
  repeat' (first
    | with_reducible assumption
    | exact Sub.trans hm rfl
    | with_reducible apply EvOut.next
    | with_reducible apply EvOut.ite
    | with_reducible apply ok_ev
    | with_reducible apply Ev.ite
    | with_reducible apply Ev.fold
    | with_reducible apply Ev.elim
    | with_reducible apply Ev.getD
    | with_reducible apply Ev.iter
    | intro _
    | dsimp only
    | split
    | with_reducible apply Ev.set_ppsAt)

theorem execPpsInputCapture_ev {m : Nat} {s0 : State} (a0 : Fin 11) {s : State} (h : Ev m s0 s) (hm : Sub 1246704751477586336415752 m) :
    EvOut m s0 (execPpsInputCapture a0 s) := by
  unfold execPpsInputCapture
  repeat' (first
    | with_reducible assumption
    | exact Sub.trans hm rfl
    | with_reducible apply EvOut.next
    | with_reducible apply EvOut.ite
    | with_reducible apply Ev.setGext
    | with_reducible apply ok_ev
    | with_reducible apply Ev.rput
    | with_reducible apply Ev.ite
    | with_reducible apply Ev.fold
    | with_reducible apply Ev.elim
    | with_reducible apply Ev.getD
    | with_reducible apply Ev.iter
    | intro _
    | dsimp only
    | split
    | with_reducible apply Ev.set_ptpNews)

theorem execPtpEventTimestamp_ev {m : Nat} {s0 : State} (a0 : Fin 33) {s : State} (h : Ev m s0 s) (hm : Sub 2417851639229258349412352 m) :
    EvOut m s0 (execPtpEventTimestamp a0 s) := by
  unfold execPtpEventTimestamp
  repeat' (first
    | with_reducible assumption
    | exact Sub.trans hm rfl
    | with_reducible apply EvOut.next
    | with_reducible apply EvOut.ite
    | with_reducible apply ok_ev
    | with_reducible apply Ev.ite
    | with_reducible apply Ev.fold
    | with_reducible apply Ev.elim
    | with_reducible apply Ev.getD
    | with_reducible apply Ev.iter
    | intro _
    | dsimp only
    | split
    | with_reducible apply Ev.set_ptpStamp)

end Machine

end Sys2Proof
end

