-- ==== Sys2Proof/Laws/EvDebugOps.lean ====
section
/-! SUPPORT. What each operation of Machine/DebugOps.lean can change, and that it keeps what no command may break (Laws/Evolve.lean). -/

set_option linter.unusedTactic false
set_option linter.unreachableTactic false
set_option linter.unusedVariables false

namespace Sys2Proof

open Machine

namespace Machine

theorem State.debugOnly_ev {m : Nat} {s0 : State} {s : State} (a1 : Sys2Proof.Issuer) (a2 : State → State) (h : Ev m s0 s) (hm : Sub 8 m) (ha2 : ∀ t0, Ev m s0 t0 → Ev m s0 (a2 t0)) :
    Ev m s0 (State.debugOnly s a1 a2) := by
  unfold State.debugOnly
  repeat' (first
    | with_reducible assumption
    | exact Sub.trans hm rfl
    | with_reducible apply State.viol_ev
    | with_reducible apply Ev.ite
    | with_reducible apply ha2
    | with_reducible apply Ev.fold
    | with_reducible apply Ev.elim
    | with_reducible apply Ev.getD
    | with_reducible apply Ev.iter
    | intro _
    | dsimp only
    | split)

theorem State.haltNow_ev {m : Nat} {s0 : State} {s : State} (a1 : Nat) (a2 : Nat) (h : Ev m s0 s) (hm : Sub 9444732965739290427400 m) :
    Ev m s0 (State.haltNow s a1 a2) := by
  unfold State.haltNow
  repeat' (first
    | with_reducible assumption
    | exact Sub.trans hm rfl
    | with_reducible apply State.haltCore_ev
    | with_reducible apply Ev.ite
    | with_reducible apply Ev.fold
    | with_reducible apply Ev.elim
    | with_reducible apply Ev.getD
    | with_reducible apply Ev.iter
    | intro _
    | dsimp only
    | split)

theorem State.resume_ev {m : Nat} {s0 : State} {s : State} (a1 : Nat) (h : Ev m s0 s) (hm : Sub 9444732965739290427400 m) :
    Ev m s0 (State.resume s a1) := by
  unfold State.resume
  repeat' (first
    | with_reducible assumption
    | exact Sub.trans hm rfl
    | with_reducible apply State.haltCore_ev
    | with_reducible apply State.setHalted_ev
    | with_reducible apply Ev.ite
    | with_reducible apply Ev.fold
    | with_reducible apply Ev.elim
    | with_reducible apply Ev.getD
    | with_reducible apply Ev.iter
    | intro _
    | dsimp only
    | split)

theorem State.coreCtl_ev {m : Nat} {s0 : State} {s : State} (a1 : Nat) (a2 : Sys2Proof.Word) (h : Ev m s0 s) (hm : Sub 9444732965739290427400 m) :
    Ev m s0 (State.coreCtl s a1 a2) := by
  unfold State.coreCtl
  repeat' (first
    | with_reducible assumption
    | exact Sub.trans hm rfl
    | with_reducible apply State.writePlain_ev
    | with_reducible apply Ev.setCore
    | with_reducible apply State.resume_ev
    | with_reducible apply Ev.ite
    | with_reducible apply Ev.fold
    | with_reducible apply Ev.elim
    | with_reducible apply Ev.getD
    | with_reducible apply Ev.iter
    | intro _
    | dsimp only
    | split)

theorem State.feedStart_ev {m : Nat} {s0 : State} {s : State} (a1 : Nat) (a2 : Sys2Proof.Word) (a3 : Bool) (h : Ev m s0 s) (hm : Sub 8 m) :
    EvPair m s0 (State.feedStart s a1 a2 a3) := by
  unfold State.feedStart
  repeat' (first
    | with_reducible assumption
    | exact Sub.trans hm rfl
    | with_reducible apply EvPair.pair
    | with_reducible apply EvPair.ite
    | with_reducible apply State.viol_ev
    | with_reducible apply State.sticky_ev
    | with_reducible apply Ev.ite
    | with_reducible apply Ev.fold
    | with_reducible apply Ev.elim
    | with_reducible apply Ev.getD
    | with_reducible apply Ev.iter
    | intro _
    | dsimp only
    | split)

theorem State.feedStart_evq {m : Nat} {s0 : State} {t : State} {s : State} {a1 : Nat} {a2 : Sys2Proof.Word} {a3 : Bool} {b : _} (e : (State.feedStart s a1 a2 a3) = (t, b)) (h : Ev m s0 s) (hm : Sub 8 m) : Ev m s0 t := by
  have := State.feedStart_ev a1 a2 a3 h hm
  rw [e] at this; exact this.get

theorem State.feedStart_ev1 {m : Nat} {s0 : State} {s : State} (a1 : Nat) (a2 : Sys2Proof.Word) (a3 : Bool) (h : Ev m s0 s) (hm : Sub 8 m) : Ev m s0 (State.feedStart s a1 a2 a3).1 := (State.feedStart_ev a1 a2 a3 h hm).get

theorem State.breakLockCmd_ev {m : Nat} {s0 : State} {s : State} (a1 : Nat) (h : Ev m s0 s) (hm : Sub 8589934600 m) :
    Ev m s0 (State.breakLockCmd s a1) := by
  unfold State.breakLockCmd
  repeat' (first
    | with_reducible assumption
    | exact Sub.trans hm rfl
    | with_reducible apply State.rsetb_ev
    | with_reducible apply State.breakLock_ev
    | with_reducible apply Ev.ite
    | with_reducible apply Ev.fold
    | with_reducible apply Ev.elim
    | with_reducible apply Ev.getD
    | with_reducible apply Ev.iter
    | intro _
    | dsimp only
    | split)

theorem State.brkWrite_ev {m : Nat} {s0 : State} {s : State} (a1 : Sys2Proof.Word) (h : Ev m s0 s) (hm : Sub 8589934600 m) :
    Ev m s0 (State.brkWrite s a1) := by
  unfold State.brkWrite
  repeat' (first
    | with_reducible assumption
    | exact Sub.trans hm rfl
    | with_reducible apply State.writePlain_ev
    | with_reducible apply State.breakLockCmd_ev
    | with_reducible apply Ev.ite
    | with_reducible apply Ev.fold
    | with_reducible apply Ev.elim
    | with_reducible apply Ev.getD
    | with_reducible apply Ev.iter
    | intro _
    | dsimp only
    | split)

theorem State.setFrozen_ev {m : Nat} {s0 : State} {s : State} (a1 : Nat) (a2 : Bool) (a3 : Bool) (h : Ev m s0 s) (hm : Sub 32768 m) :
    Ev m s0 (State.setFrozen s a1 a2 a3) := by
  unfold State.setFrozen
  repeat' (first
    | with_reducible assumption
    | exact Sub.trans hm rfl
    | with_reducible apply Ev.setRegion
    | with_reducible apply Ev.ite
    | with_reducible apply Ev.fold
    | with_reducible apply Ev.elim
    | with_reducible apply Ev.getD
    | with_reducible apply Ev.iter
    | intro _
    | dsimp only
    | split)

theorem State.freezeWrite_ev {m : Nat} {s0 : State} {s : State} (a1 : Sys2Proof.Word) (h : Ev m s0 s) (hm : Sub 32776 m) :
    Ev m s0 (State.freezeWrite s a1) := by
  unfold State.freezeWrite
  repeat' (first
    | with_reducible assumption
    | exact Sub.trans hm rfl
    | with_reducible apply Ev.each
    | with_reducible apply State.writePlain_ev
    | with_reducible apply State.setFrozen_ev
    | with_reducible apply Ev.ite
    | with_reducible apply Ev.fold
    | with_reducible apply Ev.elim
    | with_reducible apply Ev.getD
    | with_reducible apply Ev.iter
    | intro _
    | dsimp only
    | split)

theorem State.freezeDone_ev {m : Nat} {s0 : State} {s : State} (a1 : Nat) (h : Ev m s0 s) (hm : Sub 32768 m) :
    Ev m s0 (State.freezeDone s a1) := by
  unfold State.freezeDone
  repeat' (first
    | with_reducible assumption
    | exact Sub.trans hm rfl
    | with_reducible apply State.setFrozen_ev
    | with_reducible apply Ev.ite
    | with_reducible apply Ev.fold
    | with_reducible apply Ev.elim
    | with_reducible apply Ev.getD
    | with_reducible apply Ev.iter
    | intro _
    | dsimp only
    | split)

theorem State.detach_ev {m : Nat} {s0 : State} {s : State} (h : Ev m s0 s) (hm : Sub 19807050073299050412554354696 m) :
    Ev m s0 (State.detach s) := by
  unfold State.detach
  repeat' (first
    | with_reducible assumption
    | exact Sub.trans hm rfl
    | with_reducible apply Ev.rput
    | with_reducible apply State.rsetb_ev
    | with_reducible apply Ev.each
    | with_reducible apply State.setFrozen_ev
    | with_reducible apply Ev.setCore
    | with_reducible apply State.setHalted_ev
    | with_reducible apply State.probeMove_ev
    | with_reducible apply Ev.ite
    | with_reducible apply Ev.fold
    | with_reducible apply Ev.elim
    | with_reducible apply Ev.getD
    | with_reducible apply Ev.iter
    | intro _
    | dsimp only
    | split
    | with_reducible apply Ev.set_dbgAcc)

theorem State.dbgCtl_ev {m : Nat} {s0 : State} {s : State} (a1 : Sys2Proof.Word) (h : Ev m s0 s) (hm : Sub 19807050073299050412554354696 m) :
    Ev m s0 (State.dbgCtl s a1) := by
  unfold State.dbgCtl
  repeat' (first
    | with_reducible assumption
    | exact Sub.trans hm rfl
    | with_reducible apply State.writePlain_ev
    | with_reducible apply State.detach_ev
    | with_reducible apply Ev.ite
    | with_reducible apply Ev.fold
    | with_reducible apply Ev.elim
    | with_reducible apply Ev.getD
    | with_reducible apply Ev.iter
    | intro _
    | dsimp only
    | split)

theorem execHalt_ev {m : Nat} {s0 : State} (a0 : Fin 4) (a1 : Fin 8) {s : State} (h : Ev m s0 s) (hm : Sub 9444732965739290427400 m) :
    EvOut m s0 (execHalt a0 a1 s) := by
  unfold execHalt
  repeat' (first
    | with_reducible assumption
    | exact Sub.trans hm rfl
    | with_reducible apply EvOut.next
    | with_reducible apply EvOut.ite
    | with_reducible apply ok_ev
    | with_reducible apply State.haltNow_ev
    | with_reducible apply Ev.ite
    | with_reducible apply Ev.fold
    | with_reducible apply Ev.elim
    | with_reducible apply Ev.getD
    | with_reducible apply Ev.iter
    | intro _
    | dsimp only
    | split)

theorem execBreakLock_ev {m : Nat} {s0 : State} (a0 : Sys2Proof.Issuer) (a1 : Fin 32) (a2 : Fin 4) {s : State} (h : Ev m s0 s) (hm : Sub 8589934600 m) :
    EvOut m s0 (execBreakLock a0 a1 a2 s) := by
  unfold execBreakLock
  repeat' (first
    | with_reducible assumption
    | exact Sub.trans hm rfl
    | with_reducible apply EvOut.next
    | with_reducible apply EvOut.ite
    | with_reducible apply ok_ev
    | with_reducible apply State.debugOnly_ev
    | with_reducible apply State.brkWrite_ev
    | with_reducible apply Ev.ite
    | with_reducible apply Ev.fold
    | with_reducible apply Ev.elim
    | with_reducible apply Ev.getD
    | with_reducible apply Ev.iter
    | intro _
    | dsimp only
    | split)

theorem execFreeze_ev {m : Nat} {s0 : State} (a0 : Sys2Proof.Issuer) (a1 : Sys2Proof.Word) {s : State} (h : Ev m s0 s) (hm : Sub 32776 m) :
    EvOut m s0 (execFreeze a0 a1 s) := by
  unfold execFreeze
  repeat' (first
    | with_reducible assumption
    | exact Sub.trans hm rfl
    | with_reducible apply EvOut.next
    | with_reducible apply EvOut.ite
    | with_reducible apply ok_ev
    | with_reducible apply State.debugOnly_ev
    | with_reducible apply State.freezeWrite_ev
    | with_reducible apply Ev.ite
    | with_reducible apply Ev.fold
    | with_reducible apply Ev.elim
    | with_reducible apply Ev.getD
    | with_reducible apply Ev.iter
    | intro _
    | dsimp only
    | split)

theorem execFreezeComplete_ev {m : Nat} {s0 : State} (a0 : Fin 32) {s : State} (h : Ev m s0 s) (hm : Sub 32768 m) :
    EvOut m s0 (execFreezeComplete a0 s) := by
  unfold execFreezeComplete
  repeat' (first
    | with_reducible assumption
    | exact Sub.trans hm rfl
    | with_reducible apply EvOut.next
    | with_reducible apply EvOut.ite
    | with_reducible apply ok_ev
    | with_reducible apply State.freezeDone_ev
    | with_reducible apply Ev.ite
    | with_reducible apply Ev.fold
    | with_reducible apply Ev.elim
    | with_reducible apply Ev.getD
    | with_reducible apply Ev.iter
    | intro _
    | dsimp only
    | split)

end Machine

end Sys2Proof
end

