-- ==== Sys2Proof/Laws/EvLive.lean ====
section
/-! SUPPORT. What each operation of Machine/Live.lean can change, and that it keeps what no command may break (Laws/Evolve.lean). -/

set_option linter.unusedTactic false
set_option linter.unreachableTactic false
set_option linter.unusedVariables false

namespace Sys2Proof

open Machine

namespace Machine

theorem State.readDone_ev {m : Nat} {s0 : State} {s : State} (a1 : Sys2Proof.Issuer) (a2 : Sys2Proof.Machine.Reg) (h : Ev m s0 s) (hm : Sub 1813388729492312506236936 m) :
    Ev m s0 (State.readDone s a1 a2) := by
  unfold State.readDone
  repeat' (first
    | with_reducible assumption
    | exact Sub.trans hm rfl
    | with_reducible apply State.rxPop_ev
    | with_reducible apply Ev.rput
    | with_reducible apply Ev.ite
    | with_reducible apply Ev.fold
    | with_reducible apply Ev.elim
    | with_reducible apply Ev.getD
    | with_reducible apply Ev.iter
    | intro _
    | dsimp only
    | split
    | with_reducible apply Ev.set_asyNews
    | with_reducible apply Ev.set_cmpNews
    | with_reducible apply Ev.set_ptpNews)

theorem State.regRead_ev {m : Nat} {s0 : State} {s : State} (a1 : Sys2Proof.Issuer) (a2 : Sys2Proof.Machine.Reg) (a3 : Sys2Proof.Width) (a4 : Bool) (h : Ev m s0 s) (hm : Sub 1813388729492312506236936 m) :
    EvPair m s0 (State.regRead s a1 a2 a3 a4) := by
  unfold State.regRead
  repeat' (first
    | with_reducible assumption
    | exact Sub.trans hm rfl
    | with_reducible apply EvPair.pair
    | with_reducible apply EvPair.ite
    | with_reducible apply State.viol_ev
    | with_reducible apply State.readDone_ev
    | with_reducible apply Ev.ite
    | with_reducible apply Ev.fold
    | with_reducible apply Ev.elim
    | with_reducible apply Ev.getD
    | with_reducible apply Ev.iter
    | intro _
    | dsimp only
    | split)

theorem State.regRead_evq {m : Nat} {s0 : State} {t : State} {s : State} {a1 : Sys2Proof.Issuer} {a2 : Sys2Proof.Machine.Reg} {a3 : Sys2Proof.Width} {a4 : Bool} {b : _} (e : (State.regRead s a1 a2 a3 a4) = (t, b)) (h : Ev m s0 s) (hm : Sub 1813388729492312506236936 m) : Ev m s0 t := by
  have := State.regRead_ev a1 a2 a3 a4 h hm
  rw [e] at this; exact this.get

theorem State.regRead_ev1 {m : Nat} {s0 : State} {s : State} (a1 : Sys2Proof.Issuer) (a2 : Sys2Proof.Machine.Reg) (a3 : Sys2Proof.Width) (a4 : Bool) (h : Ev m s0 s) (hm : Sub 1813388729492312506236936 m) : Ev m s0 (State.regRead s a1 a2 a3 a4).1 := (State.regRead_ev a1 a2 a3 a4 h hm).get

end Machine

end Sys2Proof
end

