-- ==== Sys2Proof/Laws/EvBus.lean ====
section
/-! SUPPORT. What each operation of Machine/Bus.lean can change, and that it keeps what no command may break (Laws/Evolve.lean). -/

set_option linter.unusedTactic false
set_option linter.unreachableTactic false
set_option linter.unusedVariables false

namespace Sys2Proof

open Machine

namespace Machine

theorem State.gpioWrite_ev {m : Nat} {s0 : State} {s : State} (a1 : Nat) (a2 : Sys2Proof.Word) (h : Ev m s0 s) (hm : Sub 528905046081400263933960 m) :
    Ev m s0 (State.gpioWrite s a1 a2) := by
  unfold State.gpioWrite
  repeat' (first
    | with_reducible assumption
    | exact Sub.trans hm rfl
    | with_reducible apply State.gpioDo_ev
    | with_reducible apply Ev.rput
    | with_reducible apply State.gpioFunc_ev
    | with_reducible apply State.writePlain_ev
    | with_reducible apply State.gpioLevel_ev
    | with_reducible apply State.intWrite_ev
    | with_reducible apply State.pendClear_ev
    | with_reducible apply Ev.ite
    | with_reducible apply Ev.fold
    | with_reducible apply Ev.elim
    | with_reducible apply Ev.getD
    | with_reducible apply Ev.iter
    | intro _
    | dsimp only
    | split)

theorem State.lmpWrite_ev {m : Nat} {s0 : State} {s : State} (a1 : Nat) (a2 : Sys2Proof.Word) (h : Ev m s0 s) (hm : Sub 154742504910672534362390536 m) :
    Ev m s0 (State.lmpWrite s a1 a2) := by
  unfold State.lmpWrite
  repeat' (first
    | with_reducible assumption
    | exact Sub.trans hm rfl
    | with_reducible apply State.railSet_ev
    | with_reducible apply State.domWrite_ev
    | with_reducible apply State.writePlain_ev
    | with_reducible apply Ev.ite
    | with_reducible apply Ev.fold
    | with_reducible apply Ev.elim
    | with_reducible apply Ev.getD
    | with_reducible apply Ev.iter
    | intro _
    | dsimp only
    | split)

theorem State.lsmWrite_ev {m : Nat} {s0 : State} {s : State} (a1 : Nat) (a2 : Sys2Proof.Word) (h : Ev m s0 s) (hm : Sub 4035225266123964424 m) :
    Ev m s0 (State.lsmWrite s a1 a2) := by
  unfold State.lsmWrite
  repeat' (first
    | with_reducible assumption
    | exact Sub.trans hm rfl
    | with_reducible apply State.kcmdDo_ev
    | with_reducible apply Ev.rput
    | with_reducible apply State.writePlain_ev
    | with_reducible apply Ev.ite
    | with_reducible apply Ev.fold
    | with_reducible apply Ev.elim
    | with_reducible apply Ev.getD
    | with_reducible apply Ev.iter
    | intro _
    | dsimp only
    | split)

theorem State.asyWrite_ev {m : Nat} {s0 : State} {s : State} (a1 : Nat) (a2 : Sys2Proof.Word) (h : Ev m s0 s) (hm : Sub 464245223606497413297070088 m) :
    Ev m s0 (State.asyWrite s a1 a2) := by
  unfold State.asyWrite
  repeat' (first
    | with_reducible assumption
    | exact Sub.trans hm rfl
    | with_reducible apply Ev.rput
    | with_reducible apply State.sliceAsk_ev
    | with_reducible apply State.writePlain_ev
    | with_reducible apply Ev.ite
    | with_reducible apply Ev.fold
    | with_reducible apply Ev.elim
    | with_reducible apply Ev.getD
    | with_reducible apply Ev.iter
    | intro _
    | dsimp only
    | split)

theorem State.macWrite_ev {m : Nat} {s0 : State} {s : State} (a1 : Nat) (a2 : BitVec 64) (h : Ev m s0 s) (hm : Sub 264 m) :
    Ev m s0 (State.macWrite s a1 a2) := by
  unfold State.macWrite
  repeat' (first
    | with_reducible assumption
    | exact Sub.trans hm rfl
    | with_reducible apply State.writePlain_ev
    | with_reducible apply State.phyRestart_ev
    | with_reducible apply Ev.rput
    | with_reducible apply Ev.ite
    | with_reducible apply Ev.fold
    | with_reducible apply Ev.elim
    | with_reducible apply Ev.getD
    | with_reducible apply Ev.iter
    | intro _
    | dsimp only
    | split
    | with_reducible apply Ev.set_ptpGo)

theorem State.bankW1c_ev {m : Nat} {s0 : State} {s : State} (a1 : Nat) (a2 : Nat) (a3 : Sys2Proof.Word) (h : Ev m s0 s) (hm : Sub 68719476744 m) :
    Ev m s0 (State.bankW1c s a1 a2 a3) := by
  unfold State.bankW1c
  repeat' (first
    | with_reducible assumption
    | exact Sub.trans hm rfl
    | with_reducible apply State.writePlain_ev
    | with_reducible apply State.padsFollow_ev
    | with_reducible apply Ev.ite
    | with_reducible apply Ev.fold
    | with_reducible apply Ev.elim
    | with_reducible apply Ev.getD
    | with_reducible apply Ev.iter
    | intro _
    | dsimp only
    | split)

theorem State.wdgWrite_ev {m : Nat} {s0 : State} {s : State} (a1 : Nat) (a2 : Sys2Proof.Word) (h : Ev m s0 s) (hm : Sub 18889465931478580854792 m) :
    Ev m s0 (State.wdgWrite s a1 a2) := by
  unfold State.wdgWrite
  repeat' (first
    | with_reducible assumption
    | exact Sub.trans hm rfl
    | with_reducible apply State.wdgCtl_ev
    | with_reducible apply State.wdgKick_ev
    | with_reducible apply State.writePlain_ev
    | with_reducible apply Ev.ite
    | with_reducible apply Ev.fold
    | with_reducible apply Ev.elim
    | with_reducible apply Ev.getD
    | with_reducible apply Ev.iter
    | intro _
    | dsimp only
    | split)

theorem State.irqWrite_ev {m : Nat} {s0 : State} {s : State} (a1 : Nat) (a2 : BitVec 64) (h : Ev m s0 s) (hm : Sub 9444732965739290427400 m) :
    Ev m s0 (State.irqWrite s a1 a2) := by
  unfold State.irqWrite
  repeat' (first
    | with_reducible assumption
    | exact Sub.trans hm rfl
    | with_reducible apply State.msip_ev
    | with_reducible apply State.writePlain_ev
    | with_reducible apply Ev.ite
    | with_reducible apply Ev.fold
    | with_reducible apply Ev.elim
    | with_reducible apply Ev.getD
    | with_reducible apply Ev.iter
    | intro _
    | dsimp only
    | split)

theorem State.tnkWrite_ev {m : Nat} {s0 : State} {s : State} (a1 : Nat) (a2 : Nat) (a3 : Sys2Proof.Word) (h : Ev m s0 s) (hm : Sub 663203381258 m) :
    Ev m s0 (State.tnkWrite s a1 a2 a3) := by
  unfold State.tnkWrite
  repeat' (first
    | with_reducible assumption
    | exact Sub.trans hm rfl
    | with_reducible apply State.writePlain_ev
    | with_reducible apply State.enterAsh_ev
    | with_reducible apply Ev.ite
    | with_reducible apply Ev.fold
    | with_reducible apply Ev.elim
    | with_reducible apply Ev.getD
    | with_reducible apply Ev.iter
    | intro _
    | dsimp only
    | split)

theorem State.sbankWrite_ev {m : Nat} {s0 : State} {s : State} (a1 : Sys2Proof.Issuer) (a2 : Nat) (a3 : Nat) (a4 : Sys2Proof.Word) (h : Ev m s0 s) (hm : Sub 8589934600 m) :
    Ev m s0 (State.sbankWrite s a1 a2 a3 a4) := by
  unfold State.sbankWrite
  repeat' (first
    | with_reducible assumption
    | exact Sub.trans hm rfl
    | with_reducible apply State.viol_ev
    | with_reducible apply State.handWrite_ev
    | with_reducible apply State.scrCtlWrite_ev
    | with_reducible apply State.writePlain_ev
    | with_reducible apply State.prtWrite_ev
    | with_reducible apply State.guarded_ev
    | with_reducible apply Ev.ite
    | with_reducible apply Ev.fold
    | with_reducible apply Ev.elim
    | with_reducible apply Ev.getD
    | with_reducible apply Ev.iter
    | intro _
    | dsimp only
    | split)

theorem State.hopWrite_ev {m : Nat} {s0 : State} {s : State} (a1 : Nat) (a2 : Nat) (a3 : Sys2Proof.Word) (h : Ev m s0 s) (hm : Sub 103079215114 m) :
    Ev m s0 (State.hopWrite s a1 a2 a3) := by
  unfold State.hopWrite
  repeat' (first
    | with_reducible assumption
    | exact Sub.trans hm rfl
    | with_reducible apply State.hopCtlWrite_ev
    | with_reducible apply State.hopWmSet_ev
    | with_reducible apply State.writePlain_ev
    | with_reducible apply Ev.ite
    | with_reducible apply Ev.fold
    | with_reducible apply Ev.elim
    | with_reducible apply Ev.getD
    | with_reducible apply Ev.iter
    | intro _
    | dsimp only
    | split)

theorem State.upWrite_ev {m : Nat} {s0 : State} {s : State} (a1 : Nat) (a2 : Nat) (a3 : Sys2Proof.Word) (h : Ev m s0 s) (hm : Sub 8 m) :
    Ev m s0 (State.upWrite s a1 a2 a3) := by
  unfold State.upWrite
  repeat' (first
    | with_reducible assumption
    | exact Sub.trans hm rfl
    | with_reducible apply State.upCfg_ev
    | with_reducible apply State.writePlain_ev
    | with_reducible apply Ev.ite
    | with_reducible apply Ev.fold
    | with_reducible apply Ev.elim
    | with_reducible apply Ev.getD
    | with_reducible apply Ev.iter
    | intro _
    | dsimp only
    | split)

theorem State.dnWrite_ev {m : Nat} {s0 : State} {s : State} (a1 : Nat) (a2 : Nat) (a3 : BitVec 64) (h : Ev m s0 s) (hm : Sub 1237940039285380274899124232 m) :
    Ev m s0 (State.dnWrite s a1 a2 a3) := by
  unfold State.dnWrite
  repeat' (first
    | with_reducible assumption
    | exact Sub.trans hm rfl
    | with_reducible apply State.dnCfg_ev
    | with_reducible apply State.txPut_ev
    | with_reducible apply State.pulseGo_ev
    | with_reducible apply State.writePlain_ev
    | with_reducible apply Ev.ite
    | with_reducible apply Ev.fold
    | with_reducible apply Ev.elim
    | with_reducible apply Ev.getD
    | with_reducible apply Ev.iter
    | intro _
    | dsimp only
    | split)

theorem State.dbgWrite_ev {m : Nat} {s0 : State} {s : State} (a1 : Sys2Proof.Machine.Reg) (a2 : BitVec 64) (h : Ev m s0 s) (hm : Sub 19807050073299050421144289288 m) :
    Ev m s0 (State.dbgWrite s a1 a2) := by
  unfold State.dbgWrite
  repeat' (first
    | with_reducible assumption
    | exact Sub.trans hm rfl
    | with_reducible apply State.dbgCtl_ev
    | with_reducible apply State.freezeWrite_ev
    | with_reducible apply State.brkWrite_ev
    | with_reducible apply State.coreCtl_ev
    | with_reducible apply State.feedStart_ev
    | with_reducible apply State.feedStart_ev1
    | with_reducible apply State.probeMove_ev
    | with_reducible apply State.writePlain_ev
    | with_reducible refine State.feedStart_evq ‹_› ?_ ?_
    | with_reducible apply Ev.ite
    | with_reducible apply Ev.fold
    | with_reducible apply Ev.elim
    | with_reducible apply Ev.getD
    | with_reducible apply Ev.iter
    | intro _
    | dsimp only
    | split)

theorem State.regPut_ev {m : Nat} {s0 : State} {s : State} (a1 : Sys2Proof.Issuer) (a2 : Sys2Proof.Machine.Reg) (a3 : BitVec 64) (h : Ev m s0 s) (hm : Sub 21510378153076292983208273258 m) :
    Ev m s0 (State.regPut s a1 a2 a3) := by
  unfold State.regPut
  repeat' (first
    | with_reducible assumption
    | exact Sub.trans hm rfl
    | with_reducible apply State.guarded_ev
    | with_reducible apply State.gpioWrite_ev
    | with_reducible apply State.lmpWrite_ev
    | with_reducible apply State.tlyCtlWrite_ev
    | with_reducible apply State.diffWrite_ev
    | with_reducible apply State.writePlain_ev
    | with_reducible apply State.piWrite_ev
    | with_reducible apply State.plCtlWrite_ev
    | with_reducible apply State.holdWrite_ev
    | with_reducible apply State.cmpCtl_ev
    | with_reducible apply State.lsmWrite_ev
    | with_reducible apply State.viol_ev
    | with_reducible apply State.asyWrite_ev
    | with_reducible apply State.sysidSet_ev
    | with_reducible apply State.linkCtl_ev
    | with_reducible apply State.macWrite_ev
    | with_reducible apply State.upWrite_ev
    | with_reducible apply State.dnWrite_ev
    | with_reducible apply State.bankW1c_ev
    | with_reducible apply State.debugOnly_ev
    | with_reducible apply State.dbgWrite_ev
    | with_reducible apply State.wdgWrite_ev
    | with_reducible apply State.irqWrite_ev
    | with_reducible apply State.tnkWrite_ev
    | with_reducible apply State.sbankWrite_ev
    | with_reducible apply State.hopWrite_ev
    | with_reducible apply State.rreqWrite_ev
    | with_reducible apply State.pinCtlWrite_ev
    | with_reducible apply Ev.ite
    | with_reducible apply Ev.fold
    | with_reducible apply Ev.elim
    | with_reducible apply Ev.getD
    | with_reducible apply Ev.iter
    | intro _
    | dsimp only
    | split)

theorem State.regWrite_ev {m : Nat} {s0 : State} {s : State} (a1 : Sys2Proof.Issuer) (a2 : Sys2Proof.Machine.Reg) (a3 : Sys2Proof.Width) (a4 : BitVec 64) (h : Ev m s0 s) (hm : Sub 21510378153076292983208273258 m) :
    Ev m s0 (State.regWrite s a1 a2 a3 a4) := by
  unfold State.regWrite
  repeat' (first
    | with_reducible assumption
    | exact Sub.trans hm rfl
    | with_reducible apply State.viol_ev
    | with_reducible apply State.regPut_ev
    | with_reducible apply Ev.ite
    | with_reducible apply Ev.fold
    | with_reducible apply Ev.elim
    | with_reducible apply Ev.getD
    | with_reducible apply Ev.iter
    | intro _
    | dsimp only
    | split)

theorem State.rsvdViol_ev {m : Nat} {s0 : State} {s : State} (a1 : Sys2Proof.Machine.Blk) (a2 : Nat) (a3 : Sys2Proof.Issuer) (a4 : Bool) (h : Ev m s0 s) (hm : Sub 8 m) :
    Ev m s0 (State.rsvdViol s a1 a2 a3 a4) := by
  unfold State.rsvdViol
  repeat' (first
    | with_reducible assumption
    | exact Sub.trans hm rfl
    | with_reducible apply State.viol_ev
    | with_reducible apply Ev.ite
    | with_reducible apply Ev.fold
    | with_reducible apply Ev.elim
    | with_reducible apply Ev.getD
    | with_reducible apply Ev.iter
    | intro _
    | dsimp only
    | split)

theorem State.readbackRead_ev {m : Nat} {s0 : State} {s : State} (a1 : Nat) (a2 : Nat) (a3 : Sys2Proof.Width) (h : Ev m s0 s) (hm : Sub 8 m) :
    EvPair m s0 (State.readbackRead s a1 a2 a3) := by
  unfold State.readbackRead
  repeat' (first
    | with_reducible assumption
    | exact Sub.trans hm rfl
    | with_reducible apply EvPair.pair
    | with_reducible apply EvPair.ite
    | with_reducible apply State.viol_ev
    | with_reducible apply Ev.ite
    | with_reducible apply Ev.fold
    | with_reducible apply Ev.elim
    | with_reducible apply Ev.getD
    | with_reducible apply Ev.iter
    | intro _
    | dsimp only
    | split)

theorem State.readbackRead_evq {m : Nat} {s0 : State} {t : State} {s : State} {a1 : Nat} {a2 : Nat} {a3 : Sys2Proof.Width} {b : _} (e : (State.readbackRead s a1 a2 a3) = (t, b)) (h : Ev m s0 s) (hm : Sub 8 m) : Ev m s0 t := by
  have := State.readbackRead_ev a1 a2 a3 h hm
  rw [e] at this; exact this.get

theorem State.readbackRead_ev1 {m : Nat} {s0 : State} {s : State} (a1 : Nat) (a2 : Nat) (a3 : Sys2Proof.Width) (h : Ev m s0 s) (hm : Sub 8 m) : Ev m s0 (State.readbackRead s a1 a2 a3).1 := (State.readbackRead_ev a1 a2 a3 h hm).get

theorem State.pushRead_ev {m : Nat} {s0 : State} {s : State} (a1 : Nat) (a2 : Sys2Proof.Width) (h : Ev m s0 s) (hm : Sub 8 m) :
    EvPair m s0 (State.pushRead s a1 a2) := by
  unfold State.pushRead
  repeat' (first
    | with_reducible assumption
    | exact Sub.trans hm rfl
    | with_reducible apply EvPair.pair
    | with_reducible apply EvPair.ite
    | with_reducible apply State.viol_ev
    | with_reducible apply Ev.ite
    | with_reducible apply Ev.fold
    | with_reducible apply Ev.elim
    | with_reducible apply Ev.getD
    | with_reducible apply Ev.iter
    | intro _
    | dsimp only
    | split)

theorem State.pushRead_evq {m : Nat} {s0 : State} {t : State} {s : State} {a1 : Nat} {a2 : Sys2Proof.Width} {b : _} (e : (State.pushRead s a1 a2) = (t, b)) (h : Ev m s0 s) (hm : Sub 8 m) : Ev m s0 t := by
  have := State.pushRead_ev a1 a2 h hm
  rw [e] at this; exact this.get

theorem State.pushRead_ev1 {m : Nat} {s0 : State} {s : State} (a1 : Nat) (a2 : Sys2Proof.Width) (h : Ev m s0 s) (hm : Sub 8 m) : Ev m s0 (State.pushRead s a1 a2).1 := (State.pushRead_ev a1 a2 h hm).get

theorem State.memWrite_ev {m : Nat} {s0 : State} {s : State} (a1 : Nat) (a2 : Nat) (a3 : Nat) (h : Ev m s0 s) (hm : Sub 9671406556917033397649408 m) :
    Ev m s0 (State.memWrite s a1 a2 a3) := by
  unfold State.memWrite
  repeat' (first
    | with_reducible assumption
    | exact Sub.trans hm rfl
    | with_reducible apply Ev.each
    | with_reducible apply Ev.setMemByte
    | with_reducible apply Ev.ite
    | with_reducible apply Ev.fold
    | with_reducible apply Ev.elim
    | with_reducible apply Ev.getD
    | with_reducible apply Ev.iter
    | intro _
    | dsimp only
    | split)

theorem State.privWrite_ev {m : Nat} {s0 : State} {s : State} (a1 : Nat) (a2 : Nat) (a3 : BitVec 64) (h : Ev m s0 s) (hm : Sub 75557863725914323419144 m) :
    Ev m s0 (State.privWrite s a1 a2 a3) := by
  unfold State.privWrite
  repeat' (first
    | with_reducible assumption
    | exact Sub.trans hm rfl
    | with_reducible apply State.privDo_ev
    | with_reducible apply Ev.ite
    | with_reducible apply Ev.fold
    | with_reducible apply Ev.elim
    | with_reducible apply Ev.getD
    | with_reducible apply Ev.iter
    | intro _
    | dsimp only
    | split)

theorem State.busRead_ev {m : Nat} {s0 : State} {s : State} (a1 : Sys2Proof.Issuer) (a2 : Nat) (a3 : Sys2Proof.Width) (a4 : Bool) (h : Ev m s0 s) (hm : Sub 1821652870837334385360906 m) :
    EvPair m s0 (State.busRead s a1 a2 a3 a4) := by
  unfold State.busRead
  repeat' (first
    | with_reducible assumption
    | exact Sub.trans hm rfl
    | with_reducible apply EvPair.pair
    | with_reducible apply EvPair.ite
    | with_reducible apply State.regRead_ev
    | with_reducible apply State.regRead_ev1
    | with_reducible apply State.rsvdViol_ev
    | with_reducible apply State.viol_ev
    | with_reducible apply State.bumpFree_ev
    | with_reducible apply State.serialRead_ev
    | with_reducible apply State.serialRead_ev1
    | with_reducible refine State.regRead_evq ‹_› ?_ ?_
    | with_reducible refine State.serialRead_evq ‹_› ?_ ?_
    | with_reducible apply Ev.ite
    | with_reducible apply Ev.fold
    | with_reducible apply Ev.elim
    | with_reducible apply Ev.getD
    | with_reducible apply Ev.iter
    | intro _
    | dsimp only
    | split)

theorem State.busRead_evq {m : Nat} {s0 : State} {t : State} {s : State} {a1 : Sys2Proof.Issuer} {a2 : Nat} {a3 : Sys2Proof.Width} {a4 : Bool} {b : _} (e : (State.busRead s a1 a2 a3 a4) = (t, b)) (h : Ev m s0 s) (hm : Sub 1821652870837334385360906 m) : Ev m s0 t := by
  have := State.busRead_ev a1 a2 a3 a4 h hm
  rw [e] at this; exact this.get

theorem State.busRead_ev1 {m : Nat} {s0 : State} {s : State} (a1 : Sys2Proof.Issuer) (a2 : Nat) (a3 : Sys2Proof.Width) (a4 : Bool) (h : Ev m s0 s) (hm : Sub 1821652870837334385360906 m) : Ev m s0 (State.busRead s a1 a2 a3 a4).1 := (State.busRead_ev a1 a2 a3 a4 h hm).get

theorem State.busWrite_ev {m : Nat} {s0 : State} {s : State} (a1 : Sys2Proof.Issuer) (a2 : Nat) (a3 : Sys2Proof.Width) (a4 : BitVec 64) (h : Ev m s0 s) (hm : Sub 21520049559633210016605922666 m) :
    Ev m s0 (State.busWrite s a1 a2 a3 a4) := by
  unfold State.busWrite
  repeat' (first
    | with_reducible assumption
    | exact Sub.trans hm rfl
    | with_reducible apply State.regWrite_ev
    | with_reducible apply State.rsvdViol_ev
    | with_reducible apply State.privWrite_ev
    | with_reducible apply State.viol_ev
    | with_reducible apply State.memWrite_ev
    | with_reducible apply State.serialWrite_ev
    | with_reducible apply Ev.ite
    | with_reducible apply Ev.fold
    | with_reducible apply Ev.elim
    | with_reducible apply Ev.getD
    | with_reducible apply Ev.iter
    | intro _
    | dsimp only
    | split)

theorem State.gatePoison_ev {m : Nat} {s0 : State} {s : State} (a1 : Nat) (a2 : Sys2Proof.Machine.Flight) (h : Ev m s0 s) (hm : Sub 33554440 m) :
    Ev m s0 (State.gatePoison s a1 a2) := by
  unfold State.gatePoison
  repeat' (first
    | with_reducible assumption
    | exact Sub.trans hm rfl
    | with_reducible apply State.answer_ev
    | with_reducible apply State.poison_ev
    | with_reducible apply Ev.ite
    | with_reducible apply Ev.fold
    | with_reducible apply Ev.elim
    | with_reducible apply Ev.getD
    | with_reducible apply Ev.iter
    | intro _
    | dsimp only
    | split)

theorem State.flightRead_ev {m : Nat} {s0 : State} {s : State} (a1 : Sys2Proof.Machine.Flight) (h : Ev m s0 s) (hm : Sub 1813388729492312539791368 m) :
    Ev m s0 (State.flightRead s a1) := by
  unfold State.flightRead
  repeat' (first
    | with_reducible assumption
    | exact Sub.trans hm rfl
    | with_reducible apply State.answer_ev
    | with_reducible apply State.hopPoison_ev
    | with_reducible apply State.pushRead_ev
    | with_reducible apply State.pushRead_ev1
    | with_reducible apply State.gatePoison_ev
    | with_reducible apply State.readbackRead_ev
    | with_reducible apply State.readbackRead_ev1
    | with_reducible apply State.regRead_ev
    | with_reducible apply State.regRead_ev1
    | with_reducible apply State.rsvdViol_ev
    | with_reducible apply State.viol_ev
    | with_reducible refine State.pushRead_evq ‹_› ?_ ?_
    | with_reducible refine State.readbackRead_evq ‹_› ?_ ?_
    | with_reducible refine State.regRead_evq ‹_› ?_ ?_
    | with_reducible apply Ev.ite
    | with_reducible apply Ev.fold
    | with_reducible apply Ev.elim
    | with_reducible apply Ev.getD
    | with_reducible apply Ev.iter
    | intro _
    | dsimp only
    | split)

theorem State.flightWrite_ev {m : Nat} {s0 : State} {s : State} (a1 : Sys2Proof.Machine.Flight) (h : Ev m s0 s) (hm : Sub 21510378153076292983208273258 m) :
    Ev m s0 (State.flightWrite s a1) := by
  unfold State.flightWrite
  repeat' (first
    | with_reducible assumption
    | exact Sub.trans hm rfl
    | with_reducible apply State.gatePoison_ev
    | with_reducible apply State.answer_ev
    | with_reducible apply State.viol_ev
    | with_reducible apply State.regWrite_ev
    | with_reducible apply State.rsvdViol_ev
    | with_reducible apply Ev.ite
    | with_reducible apply Ev.fold
    | with_reducible apply Ev.elim
    | with_reducible apply Ev.getD
    | with_reducible apply Ev.iter
    | intro _
    | dsimp only
    | split)

theorem State.toFabric_ev {m : Nat} {s0 : State} {s : State} (a1 : Sys2Proof.Issuer) (a2 : Nat) (a3 : Sys2Proof.Width) (a4 : Sys2Proof.Machine.AKind) (a5 : Sys2Proof.Word) (a6 : Bool) (h : Ev m s0 s) (hm : Sub 100663296 m) :
    Ev m s0 (State.toFabric s a1 a2 a3 a4 a5 a6) := by
  unfold State.toFabric
  repeat' (first
    | with_reducible assumption
    | exact Sub.trans hm rfl
    | with_reducible apply State.launch_ev
    | with_reducible apply Ev.ite
    | with_reducible apply Ev.fold
    | with_reducible apply Ev.elim
    | with_reducible apply Ev.getD
    | with_reducible apply Ev.iter
    | intro _
    | dsimp only
    | split)

theorem execRegisterRead_ev {m : Nat} {s0 : State} (a0 : Sys2Proof.RegAccess) {s : State} (h : Ev m s0 s) (hm : Sub 1821652870837334486024218 m) :
    EvOut m s0 (execRegisterRead a0 s) := by
  unfold execRegisterRead
  repeat' (first
    | with_reducible assumption
    | exact Sub.trans hm rfl
    | with_reducible apply EvOut.next
    | with_reducible apply EvOut.ite
    | with_reducible apply ok_ev
    | with_reducible apply State.flightRead_ev
    | with_reducible apply State.toFabric_ev
    | with_reducible apply State.busRead_ev
    | with_reducible apply State.busRead_ev1
    | with_reducible refine State.busRead_evq ‹_› ?_ ?_
    | with_reducible apply Ev.ite
    | with_reducible apply Ev.fold
    | with_reducible apply Ev.elim
    | with_reducible apply Ev.getD
    | with_reducible apply Ev.iter
    | intro _
    | dsimp only
    | split
    | with_reducible apply Ev.set_rdata)

theorem State.registerWrite_ev {m : Nat} {s0 : State} {s : State} (a1 : Sys2Proof.RegAccess) (a2 : BitVec 64) (h : Ev m s0 s) (hm : Sub 21520049559633210016673031530 m) :
    Ev m s0 (State.registerWrite s a1 a2) := by
  unfold State.registerWrite
  repeat' (first
    | with_reducible assumption
    | exact Sub.trans hm rfl
    | with_reducible apply State.flightWrite_ev
    | with_reducible apply State.toFabric_ev
    | with_reducible apply State.busWrite_ev
    | with_reducible apply Ev.ite
    | with_reducible apply Ev.fold
    | with_reducible apply Ev.elim
    | with_reducible apply Ev.getD
    | with_reducible apply Ev.iter
    | intro _
    | dsimp only
    | split)

theorem State.fenceCheck_ev {m : Nat} {s0 : State} {s : State} (a1 : Nat) (h : Ev m s0 s) (hm : Sub 9444732965739290427392 m) :
    Ev m s0 (State.fenceCheck s a1) := by
  unfold State.fenceCheck
  repeat' (first
    | with_reducible assumption
    | exact Sub.trans hm rfl
    | with_reducible apply Ev.setCore
    | with_reducible apply Ev.ite
    | with_reducible apply Ev.fold
    | with_reducible apply Ev.elim
    | with_reducible apply Ev.getD
    | with_reducible apply Ev.iter
    | intro _
    | dsimp only
    | split)

theorem State.coreLoadEnd_ev {m : Nat} {s0 : State} {s : State} (a1 : Nat) (a2 : Sys2Proof.RegVal) (h : Ev m s0 s) (hm : Sub 9444732965739290427416 m) :
    Ev m s0 (State.coreLoadEnd s a1 a2) := by
  unfold State.coreLoadEnd
  repeat' (first
    | with_reducible assumption
    | exact Sub.trans hm rfl
    | with_reducible apply State.rsetb_ev
    | with_reducible apply Ev.setCore
    | with_reducible apply State.haltNow_ev
    | with_reducible apply Ev.ite
    | with_reducible apply Ev.fold
    | with_reducible apply Ev.elim
    | with_reducible apply Ev.getD
    | with_reducible apply Ev.iter
    | intro _
    | dsimp only
    | split
    | with_reducible apply Ev.set_rdata)

theorem State.fstat_ev {m : Nat} {s0 : State} {s : State} (a1 : Nat) (a2 : Nat) (h : Ev m s0 s) (hm : Sub 8 m) :
    Ev m s0 (State.fstat s a1 a2) := by
  unfold State.fstat
  repeat' (first
    | with_reducible assumption
    | exact Sub.trans hm rfl
    | with_reducible apply State.rsetf_ev
    | with_reducible apply State.sticky_ev
    | with_reducible apply Ev.ite
    | with_reducible apply Ev.fold
    | with_reducible apply Ev.elim
    | with_reducible apply Ev.getD
    | with_reducible apply Ev.iter
    | intro _
    | dsimp only
    | split)

theorem accessReply_ev {m : Nat} {s0 : State} (a0 : Nat) {s : State} (h : Ev m s0 s) (hm : Sub 9444732975634929156120 m) :
    EvOut m s0 (accessReply a0 s) := by
  unfold accessReply
  repeat' (first
    | with_reducible assumption
    | exact Sub.trans hm rfl
    | with_reducible apply EvOut.next
    | with_reducible apply EvOut.ite
    | with_reducible apply ok_ev
    | with_reducible apply State.dropFlight_ev
    | with_reducible apply State.putReply_ev
    | with_reducible apply State.refuseAtPort_ev
    | with_reducible apply State.fstat_ev
    | with_reducible apply State.fenceCheck_ev
    | with_reducible apply State.coreLoadEnd_ev
    | with_reducible apply State.sendReply_ev
    | with_reducible apply Ev.ite
    | with_reducible apply Ev.fold
    | with_reducible apply Ev.elim
    | with_reducible apply Ev.getD
    | with_reducible apply Ev.iter
    | intro _
    | dsimp only
    | split)

theorem State.completionReport_ev {m : Nat} {s0 : State} {s : State} (a1 : Nat) (h : Ev m s0 s) (hm : Sub 9444732975634928631816 m) :
    Ev m s0 (State.completionReport s a1) := by
  unfold State.completionReport
  repeat' (first
    | with_reducible assumption
    | exact Sub.trans hm rfl
    | with_reducible apply State.dropFlight_ev
    | with_reducible apply State.refuseAtPort_ev
    | with_reducible apply State.fenceCheck_ev
    | with_reducible apply State.sendReply_ev
    | with_reducible apply Ev.ite
    | with_reducible apply Ev.fold
    | with_reducible apply Ev.elim
    | with_reducible apply Ev.getD
    | with_reducible apply Ev.iter
    | intro _
    | dsimp only
    | split)

theorem State.coreLoad_ev {m : Nat} {s0 : State} {s : State} (a1 : Nat) (a2 : Nat) (a3 : Sys2Proof.Width) (h : Ev m s0 s) (hm : Sub 9444732965739391090712 m) :
    Ev m s0 (State.coreLoad s a1 a2 a3) := by
  unfold State.coreLoad
  repeat' (first
    | with_reducible assumption
    | exact Sub.trans hm rfl
    | with_reducible apply State.viol_ev
    | with_reducible apply Ev.setCore
    | with_reducible apply State.toFabric_ev
    | with_reducible apply Ev.ite
    | with_reducible apply Ev.fold
    | with_reducible apply Ev.elim
    | with_reducible apply Ev.getD
    | with_reducible apply Ev.iter
    | intro _
    | dsimp only
    | split
    | with_reducible apply Ev.set_rdata)

theorem State.coreStore_ev {m : Nat} {s0 : State} {s : State} (a1 : Nat) (a2 : Nat) (a3 : Sys2Proof.Width) (a4 : BitVec 64) (h : Ev m s0 s) (hm : Sub 100663304 m) :
    Ev m s0 (State.coreStore s a1 a2 a3 a4) := by
  unfold State.coreStore
  repeat' (first
    | with_reducible assumption
    | exact Sub.trans hm rfl
    | with_reducible apply State.viol_ev
    | with_reducible apply State.toFabric_ev
    | with_reducible apply Ev.ite
    | with_reducible apply Ev.fold
    | with_reducible apply Ev.elim
    | with_reducible apply Ev.getD
    | with_reducible apply Ev.iter
    | intro _
    | dsimp only
    | split)

theorem execCoreFabricLoad_ev {m : Nat} {s0 : State} (a0 : Fin 4) (a1 : BitVec 64) (a2 : Sys2Proof.Width) {s : State} (h : Ev m s0 s) (hm : Sub 9444732965739391090712 m) :
    EvOut m s0 (execCoreFabricLoad a0 a1 a2 s) := by
  unfold execCoreFabricLoad
  repeat' (first
    | with_reducible assumption
    | exact Sub.trans hm rfl
    | with_reducible apply EvOut.next
    | with_reducible apply EvOut.ite
    | with_reducible apply ok_ev
    | with_reducible apply State.coreLoad_ev
    | with_reducible apply Ev.ite
    | with_reducible apply Ev.fold
    | with_reducible apply Ev.elim
    | with_reducible apply Ev.getD
    | with_reducible apply Ev.iter
    | intro _
    | dsimp only
    | split)

theorem execCoreFabricStore_ev {m : Nat} {s0 : State} (a0 : Fin 4) (a1 : BitVec 64) (a2 : Sys2Proof.Width) (a3 : BitVec 64) {s : State} (h : Ev m s0 s) (hm : Sub 100663304 m) :
    EvOut m s0 (execCoreFabricStore a0 a1 a2 a3 s) := by
  unfold execCoreFabricStore
  repeat' (first
    | with_reducible assumption
    | exact Sub.trans hm rfl
    | with_reducible apply EvOut.next
    | with_reducible apply EvOut.ite
    | with_reducible apply ok_ev
    | with_reducible apply State.coreStore_ev
    | with_reducible apply Ev.ite
    | with_reducible apply Ev.fold
    | with_reducible apply Ev.elim
    | with_reducible apply Ev.getD
    | with_reducible apply Ev.iter
    | intro _
    | dsimp only
    | split)

theorem execCoreFence_ev {m : Nat} {s0 : State} (a0 : Fin 4) {s : State} (h : Ev m s0 s) (hm : Sub 9444732965739290427392 m) :
    EvOut m s0 (execCoreFence a0 s) := by
  unfold execCoreFence
  repeat' (first
    | with_reducible assumption
    | exact Sub.trans hm rfl
    | with_reducible apply EvOut.next
    | with_reducible apply EvOut.ite
    | with_reducible apply ok_ev
    | with_reducible apply Ev.setCore
    | with_reducible apply Ev.ite
    | with_reducible apply Ev.fold
    | with_reducible apply Ev.elim
    | with_reducible apply Ev.getD
    | with_reducible apply Ev.iter
    | intro _
    | dsimp only
    | split)

theorem State.loadTimeout_ev {m : Nat} {s0 : State} {s : State} (a1 : Nat) (h : Ev m s0 s) (hm : Sub 9444732965739290427416 m) :
    Ev m s0 (State.loadTimeout s a1) := by
  unfold State.loadTimeout
  repeat' (first
    | with_reducible assumption
    | exact Sub.trans hm rfl
    | with_reducible apply State.coreLoadEnd_ev
    | with_reducible apply State.fstat_ev
    | with_reducible apply Ev.ite
    | with_reducible apply Ev.fold
    | with_reducible apply Ev.elim
    | with_reducible apply Ev.getD
    | with_reducible apply Ev.iter
    | intro _
    | dsimp only
    | split)

theorem State.feedIn_ev {m : Nat} {s0 : State} {s : State} (a1 : Nat) (a2 : Sys2Proof.Word) (a3 : Sys2Proof.FedEffect) (h : Ev m s0 s) (hm : Sub 21521258485452895014591915386 m) :
    Ev m s0 (State.feedIn s a1 a2 a3) := by
  unfold State.feedIn
  repeat' (first
    | with_reducible assumption
    | exact Sub.trans hm rfl
    | with_reducible apply State.feedStart_ev
    | with_reducible apply State.feedStart_ev1
    | with_reducible apply State.coreLoad_ev
    | with_reducible apply State.rsetb_ev
    | with_reducible apply State.busRead_ev
    | with_reducible apply State.busRead_ev1
    | with_reducible apply State.coreStore_ev
    | with_reducible apply State.busWrite_ev
    | with_reducible apply Ev.rput
    | with_reducible refine State.feedStart_evq ‹_› ?_ ?_
    | with_reducible refine State.busRead_evq ‹_› ?_ ?_
    | with_reducible apply Ev.ite
    | with_reducible apply Ev.fold
    | with_reducible apply Ev.elim
    | with_reducible apply Ev.getD
    | with_reducible apply Ev.iter
    | intro _
    | dsimp only
    | split
    | with_reducible apply Ev.set_rdata)

end Machine

end Sys2Proof
end

