-- ==== Sys2Proof/Laws/EvIxPacket.lean ====
section
/-! SUPPORT. What each operation of Machine/IxPacket.lean can change, and that it keeps what no command may break (Laws/Evolve.lean). -/

set_option linter.unusedTactic false
set_option linter.unreachableTactic false
set_option linter.unusedVariables false

namespace Sys2Proof

open Machine

namespace Machine

theorem State.sendMgmt_ev {m : Nat} {s0 : State} {s : State} (a1 : Nat) (a2 : List Sys2Proof.Byte) (h : Ev m s0 s) (hm : Sub 14293684715528 m) :
    Ev m s0 (State.sendMgmt s a1 a2) := by
  unfold State.sendMgmt
  repeat' (first
    | with_reducible assumption
    | exact Sub.trans hm rfl
    | with_reducible apply Ev.each
    | with_reducible apply State.forward_ev
    | with_reducible apply Ev.ite
    | with_reducible apply Ev.fold
    | with_reducible apply Ev.elim
    | with_reducible apply Ev.getD
    | with_reducible apply Ev.iter
    | intro _
    | dsimp only
    | split
    | with_reducible apply Ev.set_mgmtIn)

theorem State.ixSend_ev {m : Nat} {s0 : State} {s : State} (a1 : Sys2Proof.Endpoint) (a2 : List Sys2Proof.Byte) (h : Ev m s0 s) (hm : Sub 77371252455350560865910792 m) :
    Ev m s0 (State.ixSend s a1 a2) := by
  unfold State.ixSend
  repeat' (first
    | with_reducible assumption
    | exact Sub.trans hm rfl
    | with_reducible apply State.sendMgmt_ev
    | with_reducible apply Ev.ite
    | with_reducible apply Ev.fold
    | with_reducible apply Ev.elim
    | with_reducible apply Ev.getD
    | with_reducible apply Ev.iter
    | intro _
    | dsimp only
    | split
    | with_reducible apply Ev.set_ixOut)

theorem State.setSession_ev {m : Nat} {s0 : State} {s : State} (a1 : Sys2Proof.Machine.Session) (h : Ev m s0 s) (hm : Sub 38685626227668133590597632 m) :
    Ev m s0 (State.setSession s a1) := by
  unfold State.setSession
  repeat' (first
    | with_reducible assumption
    | exact Sub.trans hm rfl
    | with_reducible apply Ev.ite
    | with_reducible apply Ev.fold
    | with_reducible apply Ev.elim
    | with_reducible apply Ev.getD
    | with_reducible apply Ev.iter
    | intro _
    | dsimp only
    | split
    | with_reducible apply Ev.set_ix)

theorem State.closeSession_ev {m : Nat} {s0 : State} {s : State} (a1 : Nat) (h : Ev m s0 s) (hm : Sub 38685626227668133590597632 m) :
    Ev m s0 (State.closeSession s a1) := by
  unfold State.closeSession
  repeat' (first
    | with_reducible assumption
    | exact Sub.trans hm rfl
    | with_reducible apply Ev.ite
    | with_reducible apply Ev.fold
    | with_reducible apply Ev.elim
    | with_reducible apply Ev.getD
    | with_reducible apply Ev.iter
    | intro _
    | dsimp only
    | split
    | with_reducible apply Ev.set_ix)

theorem State.ixReply_ev {m : Nat} {s0 : State} {s : State} (a1 : Sys2Proof.Machine.Req) (a2 : Nat) (a3 : Nat) (a4 : List Sys2Proof.Byte) (h : Ev m s0 s) (hm : Sub 116056878683018694456508424 m) :
    Ev m s0 (State.ixReply s a1 a2 a3 a4) := by
  unfold State.ixReply
  repeat' (first
    | with_reducible assumption
    | exact Sub.trans hm rfl
    | with_reducible apply State.ixSend_ev
    | with_reducible apply State.setSession_ev
    | with_reducible apply Ev.ite
    | with_reducible apply Ev.fold
    | with_reducible apply Ev.elim
    | with_reducible apply Ev.getD
    | with_reducible apply Ev.iter
    | intro _
    | dsimp only
    | split)

theorem State.ixTell_ev {m : Nat} {s0 : State} {s : State} (a1 : Sys2Proof.Endpoint) (a2 : Nat) (a3 : Sys2Proof.Machine.Pkt) (a4 : Nat) (a5 : List Sys2Proof.Byte) (h : Ev m s0 s) (hm : Sub 77371252455350560865910792 m) :
    Ev m s0 (State.ixTell s a1 a2 a3 a4 a5) := by
  unfold State.ixTell
  repeat' (first
    | with_reducible assumption
    | exact Sub.trans hm rfl
    | with_reducible apply State.ixSend_ev
    | with_reducible apply Ev.ite
    | with_reducible apply Ev.fold
    | with_reducible apply Ev.elim
    | with_reducible apply Ev.getD
    | with_reducible apply Ev.iter
    | intro _
    | dsimp only
    | split)

theorem State.ixWait_ev {m : Nat} {s0 : State} {s : State} (a1 : Sys2Proof.Machine.Req) (a2 : Sys2Proof.Machine.IxWait) (h : Ev m s0 s) (hm : Sub 38685626227668133590597632 m) :
    Ev m s0 (State.ixWait s a1 a2) := by
  unfold State.ixWait
  repeat' (first
    | with_reducible assumption
    | exact Sub.trans hm rfl
    | with_reducible apply State.setSession_ev
    | with_reducible apply Ev.ite
    | with_reducible apply Ev.fold
    | with_reducible apply Ev.elim
    | with_reducible apply Ev.getD
    | with_reducible apply Ev.iter
    | intro _
    | dsimp only
    | split)

theorem State.ixDrop_ev {m : Nat} {s0 : State} {s : State} (h : Ev m s0 s) (hm : Sub 38685626227668133590597632 m) :
    Ev m s0 (State.ixDrop s) := by
  unfold State.ixDrop
  repeat' (first
    | with_reducible assumption
    | exact Sub.trans hm rfl
    | with_reducible apply Ev.ite
    | with_reducible apply Ev.fold
    | with_reducible apply Ev.elim
    | with_reducible apply Ev.getD
    | with_reducible apply Ev.iter
    | intro _
    | dsimp only
    | split
    | with_reducible apply Ev.set_ix)

theorem State.addLost_ev {m : Nat} {s0 : State} {s : State} (a1 : Nat) (a2 : Sys2Proof.RegVal) (h : Ev m s0 s) (hm : Sub 38685626227668133590597632 m) :
    Ev m s0 (State.addLost s a1 a2) := by
  unfold State.addLost
  repeat' (first
    | with_reducible assumption
    | exact Sub.trans hm rfl
    | with_reducible apply Ev.ite
    | with_reducible apply Ev.fold
    | with_reducible apply Ev.elim
    | with_reducible apply Ev.getD
    | with_reducible apply Ev.iter
    | intro _
    | dsimp only
    | split
    | with_reducible apply Ev.set_ix)

theorem State.ixRead_ev {m : Nat} {s0 : State} {s : State} (a1 : Sys2Proof.Machine.Reg) (h : Ev m s0 s) (hm : Sub 40499014957160446096834568 m) :
    EvPair m s0 (State.ixRead s a1) := by
  unfold State.ixRead
  repeat' (first
    | with_reducible assumption
    | exact Sub.trans hm rfl
    | with_reducible apply EvPair.pair
    | with_reducible apply EvPair.ite
    | with_reducible apply State.regRead_ev
    | with_reducible apply State.regRead_ev1
    | with_reducible apply State.addLost_ev
    | with_reducible refine State.regRead_evq ‹_› ?_ ?_
    | with_reducible apply Ev.ite
    | with_reducible apply Ev.fold
    | with_reducible apply Ev.elim
    | with_reducible apply Ev.getD
    | with_reducible apply Ev.iter
    | intro _
    | dsimp only
    | split)

theorem State.ixRead_evq {m : Nat} {s0 : State} {t : State} {s : State} {a1 : Sys2Proof.Machine.Reg} {b : _} (e : (State.ixRead s a1) = (t, b)) (h : Ev m s0 s) (hm : Sub 40499014957160446096834568 m) : Ev m s0 t := by
  have := State.ixRead_ev a1 h hm
  rw [e] at this; exact this.get

theorem State.ixRead_ev1 {m : Nat} {s0 : State} {s : State} (a1 : Sys2Proof.Machine.Reg) (h : Ev m s0 s) (hm : Sub 40499014957160446096834568 m) : Ev m s0 (State.ixRead s a1).1 := (State.ixRead_ev a1 h hm).get

theorem State.ixReads_ev {m : Nat} {s0 : State} {s : State} (a1 : List Sys2Proof.Machine.Reg) (h : Ev m s0 s) (hm : Sub 40499014957160446096834568 m) :
    EvPair m s0 (State.ixReads s a1) := by
  induction a1 generalizing s with
  | nil => exact EvPair.pair _ h
  | cons x l ih =>
  unfold State.ixReads
  refine EvPair.pair _ (ih ?_).get
  repeat' (first
    | with_reducible assumption
    | exact Sub.trans hm rfl
    | with_reducible apply EvPair.pair
    | with_reducible apply EvPair.ite
    | with_reducible apply State.ixRead_ev
    | with_reducible apply State.ixRead_ev1
    | with_reducible refine State.ixRead_evq ‹_› ?_ ?_
    | with_reducible apply Ev.ite
    | with_reducible apply Ev.fold
    | with_reducible apply Ev.elim
    | with_reducible apply Ev.getD
    | with_reducible apply Ev.iter
    | intro _
    | dsimp only
    | split)
  repeat' (first | with_reducible assumption | exact Sub.trans hm rfl | with_reducible apply Ev.ite | with_reducible apply State.addLost_ev | with_reducible apply State.readDone_ev | with_reducible apply State.viol_ev | with_reducible apply State.regRead_ev1 | intro _ | with_reducible exact (State.ixRead_ev _ h (Sub.trans hm rfl)).get)

theorem State.ixReads_evq {m : Nat} {s0 : State} {t : State} {s : State} {a1 : List Sys2Proof.Machine.Reg} {b : _} (e : (State.ixReads s a1) = (t, b)) (h : Ev m s0 s) (hm : Sub 40499014957160446096834568 m) : Ev m s0 t := by
  have := State.ixReads_ev a1 h hm
  rw [e] at this; exact this.get

theorem State.ixReads_ev1 {m : Nat} {s0 : State} {s : State} (a1 : List Sys2Proof.Machine.Reg) (h : Ev m s0 s) (hm : Sub 40499014957160446096834568 m) : Ev m s0 (State.ixReads s a1).1 := (State.ixReads_ev a1 h hm).get

theorem State.ixPut_ev {m : Nat} {s0 : State} {s : State} (a1 : Sys2Proof.Machine.Reg) (a2 : Nat) (h : Ev m s0 s) (hm : Sub 21510378153076292983208273258 m) :
    Ev m s0 (State.ixPut s a1 a2) := by
  unfold State.ixPut
  repeat' (first
    | with_reducible assumption
    | exact Sub.trans hm rfl
    | with_reducible apply State.regWrite_ev
    | with_reducible apply Ev.ite
    | with_reducible apply Ev.fold
    | with_reducible apply Ev.elim
    | with_reducible apply Ev.getD
    | with_reducible apply Ev.iter
    | intro _
    | dsimp only
    | split)

theorem State.ixReplyRegs_ev {m : Nat} {s0 : State} {s : State} (a1 : Sys2Proof.Machine.Req) (a2 : Nat) (a3 : Nat) (a4 : List Sys2Proof.Machine.Reg) (h : Ev m s0 s) (hm : Sub 117870267412511006962745352 m) :
    Ev m s0 (State.ixReplyRegs s a1 a2 a3 a4) := by
  unfold State.ixReplyRegs
  repeat' (first
    | with_reducible assumption
    | exact Sub.trans hm rfl
    | with_reducible apply State.ixReads_ev
    | with_reducible apply State.ixReads_ev1
    | with_reducible apply State.ixReply_ev
    | with_reducible refine State.ixReads_evq ‹_› ?_ ?_
    | with_reducible apply Ev.ite
    | with_reducible apply Ev.fold
    | with_reducible apply Ev.elim
    | with_reducible apply Ev.getD
    | with_reducible apply Ev.iter
    | intro _
    | dsimp only
    | split)

theorem State.badParam_ev {m : Nat} {s0 : State} {s : State} (a1 : Sys2Proof.Machine.Req) (a2 : Nat) (h : Ev m s0 s) (hm : Sub 116056878683018694456508424 m) :
    Ev m s0 (State.badParam s a1 a2) := by
  unfold State.badParam
  repeat' (first
    | with_reducible assumption
    | exact Sub.trans hm rfl
    | with_reducible apply State.ixReply_ev
    | with_reducible apply Ev.ite
    | with_reducible apply Ev.fold
    | with_reducible apply Ev.elim
    | with_reducible apply Ev.getD
    | with_reducible apply Ev.iter
    | intro _
    | dsimp only
    | split)

theorem State.ixBusRead_ev {m : Nat} {s0 : State} {s : State} (a1 : Nat) (a2 : Bool) (h : Ev m s0 s) (hm : Sub 40507279098505467975958538 m) :
    EvPair m s0 (State.ixBusRead s a1 a2) := by
  unfold State.ixBusRead
  repeat' (first
    | with_reducible assumption
    | exact Sub.trans hm rfl
    | with_reducible apply EvPair.pair
    | with_reducible apply EvPair.ite
    | with_reducible apply State.busRead_ev
    | with_reducible apply State.busRead_ev1
    | with_reducible apply State.addLost_ev
    | with_reducible refine State.busRead_evq ‹_› ?_ ?_
    | with_reducible apply Ev.ite
    | with_reducible apply Ev.fold
    | with_reducible apply Ev.elim
    | with_reducible apply Ev.getD
    | with_reducible apply Ev.iter
    | intro _
    | dsimp only
    | split)

theorem State.ixBusRead_evq {m : Nat} {s0 : State} {t : State} {s : State} {a1 : Nat} {a2 : Bool} {b : _} (e : (State.ixBusRead s a1 a2) = (t, b)) (h : Ev m s0 s) (hm : Sub 40507279098505467975958538 m) : Ev m s0 t := by
  have := State.ixBusRead_ev a1 a2 h hm
  rw [e] at this; exact this.get

theorem State.ixBusRead_ev1 {m : Nat} {s0 : State} {s : State} (a1 : Nat) (a2 : Bool) (h : Ev m s0 s) (hm : Sub 40507279098505467975958538 m) : Ev m s0 (State.ixBusRead s a1 a2).1 := (State.ixBusRead_ev a1 a2 h hm).get

end Machine

end Sys2Proof
end

