-- ==== Sys2Proof/Laws/EvIxOps.lean ====
section
/-! SUPPORT. What each operation of Machine/IxOps.lean can change, and that it keeps what no command may break (Laws/Evolve.lean). -/

set_option linter.unusedTactic false
set_option linter.unreachableTactic false
set_option linter.unusedVariables false

namespace Sys2Proof

open Machine

namespace Machine

theorem State.ixHello_ev {m : Nat} {s0 : State} {s : State} (a1 : Sys2Proof.Machine.Req) (h : Ev m s0 s) (hm : Sub 116056878683018694456508424 m) :
    Ev m s0 (State.ixHello s a1) := by
  unfold State.ixHello
  repeat' (first
    | with_reducible assumption
    | exact Sub.trans hm rfl
    | with_reducible apply State.ixReply_ev
    | with_reducible apply Ev.ite
    | with_reducible apply Ev.fold
    | with_reducible apply Ev.elim
    | with_reducible apply Ev.getD
    | with_reducible apply Ev.iter
    | intro _
    | dsimp only
    | split)

theorem State.grantControl_ev {m : Nat} {s0 : State} {s : State} (a1 : Nat) (h : Ev m s0 s) (hm : Sub 38685626227668133590597632 m) :
    Ev m s0 (State.grantControl s a1) := by
  unfold State.grantControl
  repeat' (first
    | with_reducible assumption
    | exact Sub.trans hm rfl
    | with_reducible apply State.closeSession_ev
    | with_reducible apply State.setSession_ev
    | with_reducible apply Ev.ite
    | with_reducible apply Ev.fold
    | with_reducible apply Ev.elim
    | with_reducible apply Ev.getD
    | with_reducible apply Ev.iter
    | intro _
    | dsimp only
    | split)

theorem State.addSession_ev {m : Nat} {s0 : State} {s : State} (a1 : Sys2Proof.Machine.Session) (h : Ev m s0 s) (hm : Sub 38685626227668133590597634 m) :
    Ev m s0 (State.addSession s a1) := by
  unfold State.addSession
  repeat' (first
    | with_reducible exact Nat.le_add_right _ _
    | with_reducible assumption
    | exact Sub.trans hm rfl
    | with_reducible apply Ev.ite
    | with_reducible apply Ev.fold
    | with_reducible apply Ev.elim
    | with_reducible apply Ev.getD
    | with_reducible apply Ev.iter
    | with_reducible exact Nat.le_succ _
    | with_reducible exact Nat.le_refl _
    | with_reducible exact Nat.le_add_right _ _
    | with_reducible exact Nat.le_max_left _ _
    | intro _
    | dsimp only
    | split
    | with_reducible apply Ev.set_free_ix)

theorem State.ixOpen_ev {m : Nat} {s0 : State} {s : State} (a1 : Sys2Proof.Machine.Req) (h : Ev m s0 s) (hm : Sub 116056878683018694456508426 m) :
    Ev m s0 (State.ixOpen s a1) := by
  unfold State.ixOpen
  repeat' (first
    | with_reducible assumption
    | exact Sub.trans hm rfl
    | with_reducible apply State.ixReply_ev
    | with_reducible apply State.badParam_ev
    | with_reducible apply State.bumpFree_ev
    | with_reducible apply State.addSession_ev
    | with_reducible apply State.grantControl_ev
    | with_reducible apply Ev.ite
    | with_reducible apply Ev.fold
    | with_reducible apply Ev.elim
    | with_reducible apply Ev.getD
    | with_reducible apply Ev.iter
    | intro _
    | dsimp only
    | split)

theorem State.ixProve_ev {m : Nat} {s0 : State} {s : State} (a1 : Sys2Proof.Machine.Req) (h : Ev m s0 s) (hm : Sub 270799383593691228818898952 m) :
    Ev m s0 (State.ixProve s a1) := by
  unfold State.ixProve
  repeat' (first
    | with_reducible assumption
    | exact Sub.trans hm rfl
    | with_reducible apply State.ixReply_ev
    | with_reducible apply State.flashOn_ev
    | with_reducible apply State.closeSession_ev
    | with_reducible apply State.grantControl_ev
    | with_reducible apply Ev.ite
    | with_reducible apply Ev.fold
    | with_reducible apply Ev.elim
    | with_reducible apply Ev.getD
    | with_reducible apply Ev.iter
    | intro _
    | dsimp only
    | split)

theorem State.ixClose_ev {m : Nat} {s0 : State} {s : State} (a1 : Sys2Proof.Machine.Req) (h : Ev m s0 s) (hm : Sub 116056878683018694456508424 m) :
    Ev m s0 (State.ixClose s a1) := by
  unfold State.ixClose
  repeat' (first
    | with_reducible assumption
    | exact Sub.trans hm rfl
    | with_reducible apply State.closeSession_ev
    | with_reducible apply State.ixReply_ev
    | with_reducible apply Ev.ite
    | with_reducible apply Ev.fold
    | with_reducible apply Ev.elim
    | with_reducible apply Ev.getD
    | with_reducible apply Ev.iter
    | intro _
    | dsimp only
    | split)

theorem State.ixKeepalive_ev {m : Nat} {s0 : State} {s : State} (a1 : Sys2Proof.Machine.Req) (h : Ev m s0 s) (hm : Sub 116056878683018694456508424 m) :
    Ev m s0 (State.ixKeepalive s a1) := by
  unfold State.ixKeepalive
  repeat' (first
    | with_reducible assumption
    | exact Sub.trans hm rfl
    | with_reducible apply State.ixReply_ev
    | with_reducible apply Ev.ite
    | with_reducible apply Ev.fold
    | with_reducible apply Ev.elim
    | with_reducible apply Ev.getD
    | with_reducible apply Ev.iter
    | intro _
    | dsimp only
    | split)

theorem State.ixRelay_ev {m : Nat} {s0 : State} {s : State} (a1 : Sys2Proof.Machine.Req) (h : Ev m s0 s) (hm : Sub 116056878683018694456508424 m) :
    Ev m s0 (State.ixRelay s a1) := by
  unfold State.ixRelay
  repeat' (first
    | with_reducible assumption
    | exact Sub.trans hm rfl
    | with_reducible apply State.badParam_ev
    | with_reducible apply State.sendMgmt_ev
    | with_reducible apply State.ixWait_ev
    | with_reducible apply Ev.ite
    | with_reducible apply Ev.fold
    | with_reducible apply Ev.elim
    | with_reducible apply Ev.getD
    | with_reducible apply Ev.iter
    | intro _
    | dsimp only
    | split)

theorem State.ixIdentity_ev {m : Nat} {s0 : State} {s : State} (a1 : Sys2Proof.Machine.Req) (h : Ev m s0 s) (hm : Sub 116056878683018694456508424 m) :
    Ev m s0 (State.ixIdentity s a1) := by
  unfold State.ixIdentity
  repeat' (first
    | with_reducible assumption
    | exact Sub.trans hm rfl
    | with_reducible apply State.ixReply_ev
    | with_reducible apply Ev.ite
    | with_reducible apply Ev.fold
    | with_reducible apply Ev.elim
    | with_reducible apply Ev.getD
    | with_reducible apply Ev.iter
    | intro _
    | dsimp only
    | split)

theorem State.ixHealth_ev {m : Nat} {s0 : State} {s : State} (a1 : Sys2Proof.Machine.Req) (h : Ev m s0 s) (hm : Sub 117870267412511006962745352 m) :
    Ev m s0 (State.ixHealth s a1) := by
  unfold State.ixHealth
  repeat' (first
    | with_reducible assumption
    | exact Sub.trans hm rfl
    | with_reducible apply State.ixReads_ev
    | with_reducible apply State.ixReads_ev1
    | with_reducible apply State.ixReply_ev
    | with_reducible refine State.ixReads_evq ‹_› ?_ ?_
    | with_reducible apply Ev.ite
    | with_reducible apply Ev.fold
    | with_reducible apply Ev.elim
    | with_reducible apply Ev.getD
    | with_reducible apply Ev.iter
    | intro _
    | dsimp only
    | split)

theorem State.ixViolRead_ev {m : Nat} {s0 : State} {s : State} (a1 : Sys2Proof.Machine.Req) (h : Ev m s0 s) (hm : Sub 116056878683018694456508424 m) :
    Ev m s0 (State.ixViolRead s a1) := by
  unfold State.ixViolRead
  repeat' (first
    | with_reducible assumption
    | exact Sub.trans hm rfl
    | with_reducible apply State.ixReply_ev
    | with_reducible apply Ev.ite
    | with_reducible apply Ev.fold
    | with_reducible apply Ev.elim
    | with_reducible apply Ev.getD
    | with_reducible apply Ev.iter
    | intro _
    | dsimp only
    | split)

theorem State.ixViolClear_ev {m : Nat} {s0 : State} {s : State} (a1 : Sys2Proof.Machine.Req) (h : Ev m s0 s) (hm : Sub 116056878683018694456508424 m) :
    Ev m s0 (State.ixViolClear s a1) := by
  unfold State.ixViolClear
  repeat' (first
    | with_reducible assumption
    | exact Sub.trans hm rfl
    | with_reducible apply State.ixReply_ev
    | with_reducible apply Ev.each
    | with_reducible apply State.rsetf_ev
    | with_reducible apply Ev.ite
    | with_reducible apply Ev.fold
    | with_reducible apply Ev.elim
    | with_reducible apply Ev.getD
    | with_reducible apply Ev.iter
    | intro _
    | dsimp only
    | split)

theorem State.ixLoad_ev {m : Nat} {s0 : State} {s : State} (a1 : Sys2Proof.Machine.Req) (h : Ev m s0 s) (hm : Sub 582115491252200818241167368 m) :
    Ev m s0 (State.ixLoad s a1) := by
  unfold State.ixLoad
  repeat' (first
    | with_reducible assumption
    | exact Sub.trans hm rfl
    | with_reducible apply State.badParam_ev
    | with_reducible apply State.ixReplyRegs_ev
    | with_reducible apply State.sourceUsed_ev
    | with_reducible apply State.ixWait_ev
    | with_reducible apply State.partialLoad_ev
    | with_reducible apply State.fullLoad_ev
    | with_reducible apply Ev.ite
    | with_reducible apply Ev.fold
    | with_reducible apply Ev.elim
    | with_reducible apply Ev.getD
    | with_reducible apply Ev.iter
    | intro _
    | dsimp only
    | split
    | with_reducible apply Ev.set_loadEnded)

theorem State.ixPushBegin_ev {m : Nat} {s0 : State} {s : State} (a1 : Sys2Proof.Machine.Req) (h : Ev m s0 s) (hm : Sub 425541888576421357219217416 m) :
    Ev m s0 (State.ixPushBegin s a1) := by
  unfold State.ixPushBegin
  repeat' (first
    | with_reducible assumption
    | exact Sub.trans hm rfl
    | with_reducible apply State.badParam_ev
    | with_reducible apply State.ixReply_ev
    | with_reducible apply State.powerUp_ev
    | with_reducible apply Ev.ite
    | with_reducible apply Ev.fold
    | with_reducible apply Ev.elim
    | with_reducible apply Ev.getD
    | with_reducible apply Ev.iter
    | intro _
    | dsimp only
    | split
    | with_reducible apply Ev.set_staged_ix)

theorem State.ixPushData_ev {m : Nat} {s0 : State} {s : State} (a1 : Sys2Proof.Machine.Req) (h : Ev m s0 s) (hm : Sub 116056878683018694456508424 m) :
    Ev m s0 (State.ixPushData s a1) := by
  unfold State.ixPushData
  repeat' (first
    | with_reducible assumption
    | exact Sub.trans hm rfl
    | with_reducible apply State.badParam_ev
    | with_reducible apply State.ixReply_ev
    | with_reducible apply Ev.ite
    | with_reducible apply Ev.fold
    | with_reducible apply Ev.elim
    | with_reducible apply Ev.getD
    | with_reducible apply Ev.iter
    | intro _
    | dsimp only
    | split
    | with_reducible apply Ev.set_ix)

theorem State.program_ev {m : Nat} {s0 : State} {s : State} (a1 : Sys2Proof.Machine.Req) (a2 : Nat) (a3 : List Sys2Proof.Byte) (h : Ev m s0 s) (hm : Sub 193428131138340667952988168 m) :
    Ev m s0 (State.program s a1 a2 a3) := by
  unfold State.program
  repeat' (first
    | with_reducible assumption
    | exact Sub.trans hm rfl
    | with_reducible apply State.ixWait_ev
    | with_reducible apply State.flashOn_ev
    | with_reducible apply Ev.ite
    | with_reducible apply Ev.fold
    | with_reducible apply Ev.elim
    | with_reducible apply Ev.getD
    | with_reducible apply Ev.iter
    | intro _
    | dsimp only
    | split
    | with_reducible apply Ev.set_ix)

theorem State.stageImage_ev {m : Nat} {s0 : State} {s : State} (a1 : List Sys2Proof.Byte) (h : Ev m s0 s) (hm : Sub 72057594037927936 m) :
    Ev m s0 (State.stageImage s a1) := by
  unfold State.stageImage
  repeat' (first
    | with_reducible assumption
    | exact Sub.trans hm rfl
    | with_reducible apply Ev.ite
    | with_reducible apply Ev.fold
    | with_reducible apply Ev.elim
    | with_reducible apply Ev.getD
    | with_reducible apply Ev.iter
    | intro _
    | dsimp only
    | split
    | with_reducible apply Ev.set_staged)

theorem State.endPush_ev {m : Nat} {s0 : State} {s : State} (h : Ev m s0 s) (hm : Sub 38685626227668133590597632 m) :
    Ev m s0 (State.endPush s) := by
  unfold State.endPush
  repeat' (first
    | with_reducible assumption
    | exact Sub.trans hm rfl
    | with_reducible apply Ev.ite
    | with_reducible apply Ev.fold
    | with_reducible apply Ev.elim
    | with_reducible apply Ev.getD
    | with_reducible apply Ev.iter
    | intro _
    | dsimp only
    | split
    | with_reducible apply Ev.set_ix)

theorem State.ixPushEnd_ev {m : Nat} {s0 : State} {s : State} (a1 : Sys2Proof.Machine.Req) (h : Ev m s0 s) (hm : Sub 272612772395241135363063818 m) :
    Ev m s0 (State.ixPushEnd s a1) := by
  unfold State.ixPushEnd
  repeat' (first
    | with_reducible assumption
    | exact Sub.trans hm rfl
    | with_reducible apply State.badParam_ev
    | with_reducible apply State.ixReply_ev
    | with_reducible apply State.endPush_ev
    | with_reducible apply State.program_ev
    | with_reducible apply State.bumpFree_ev
    | with_reducible apply State.ixReplyRegs_ev
    | with_reducible apply State.stageImage_ev
    | with_reducible apply Ev.ite
    | with_reducible apply Ev.fold
    | with_reducible apply Ev.elim
    | with_reducible apply Ev.getD
    | with_reducible apply Ev.iter
    | intro _
    | dsimp only
    | split)

theorem State.ixAbort_ev {m : Nat} {s0 : State} {s : State} (a1 : Sys2Proof.Machine.Req) (h : Ev m s0 s) (hm : Sub 21627643957578986779945461098 m) :
    Ev m s0 (State.ixAbort s a1) := by
  unfold State.ixAbort
  repeat' (first
    | with_reducible assumption
    | exact Sub.trans hm rfl
    | with_reducible apply State.ixReplyRegs_ev
    | with_reducible apply State.ixPut_ev
    | with_reducible apply Ev.ite
    | with_reducible apply Ev.fold
    | with_reducible apply Ev.elim
    | with_reducible apply Ev.getD
    | with_reducible apply Ev.iter
    | intro _
    | dsimp only
    | split)

theorem State.ixRecordWrite_ev {m : Nat} {s0 : State} {s : State} (a1 : Sys2Proof.Machine.Req) (h : Ev m s0 s) (hm : Sub 116056878683018694456508424 m) :
    Ev m s0 (State.ixRecordWrite s a1) := by
  unfold State.ixRecordWrite
  repeat' (first
    | with_reducible assumption
    | exact Sub.trans hm rfl
    | with_reducible apply State.badParam_ev
    | with_reducible apply State.ixReply_ev
    | with_reducible apply Ev.ite
    | with_reducible apply Ev.fold
    | with_reducible apply Ev.elim
    | with_reducible apply Ev.getD
    | with_reducible apply Ev.iter
    | intro _
    | dsimp only
    | split
    | with_reducible apply Ev.set_ix)

theorem State.ixRecordCommit_ev {m : Nat} {s0 : State} {s : State} (a1 : Sys2Proof.Machine.Req) (h : Ev m s0 s) (hm : Sub 270799383593691228818898952 m) :
    Ev m s0 (State.ixRecordCommit s a1) := by
  unfold State.ixRecordCommit
  repeat' (first
    | with_reducible assumption
    | exact Sub.trans hm rfl
    | with_reducible apply State.badParam_ev
    | with_reducible apply State.ixReply_ev
    | with_reducible apply State.program_ev
    | with_reducible apply Ev.ite
    | with_reducible apply Ev.fold
    | with_reducible apply Ev.elim
    | with_reducible apply Ev.getD
    | with_reducible apply Ev.iter
    | intro _
    | dsimp only
    | split)

theorem State.ixRecordRead_ev {m : Nat} {s0 : State} {s : State} (a1 : Sys2Proof.Machine.Req) (h : Ev m s0 s) (hm : Sub 270799383593691228818898952 m) :
    Ev m s0 (State.ixRecordRead s a1) := by
  unfold State.ixRecordRead
  repeat' (first
    | with_reducible assumption
    | exact Sub.trans hm rfl
    | with_reducible apply State.badParam_ev
    | with_reducible apply State.ixReply_ev
    | with_reducible apply State.flashOn_ev
    | with_reducible apply Ev.ite
    | with_reducible apply Ev.fold
    | with_reducible apply Ev.elim
    | with_reducible apply Ev.getD
    | with_reducible apply Ev.iter
    | intro _
    | dsimp only
    | split)

theorem State.ixPowerSet_ev {m : Nat} {s0 : State} {s : State} (a1 : Sys2Proof.Machine.Req) (h : Ev m s0 s) (hm : Sub 21626435031759301782026577258 m) :
    Ev m s0 (State.ixPowerSet s a1) := by
  unfold State.ixPowerSet
  repeat' (first
    | with_reducible assumption
    | exact Sub.trans hm rfl
    | with_reducible apply State.badParam_ev
    | with_reducible apply State.ixWait_ev
    | with_reducible apply State.ixPut_ev
    | with_reducible apply Ev.ite
    | with_reducible apply Ev.fold
    | with_reducible apply Ev.elim
    | with_reducible apply Ev.getD
    | with_reducible apply Ev.iter
    | intro _
    | dsimp only
    | split)

theorem State.ixPowerGet_ev {m : Nat} {s0 : State} {s : State} (a1 : Sys2Proof.Machine.Req) (h : Ev m s0 s) (hm : Sub 116056878683018694456508424 m) :
    Ev m s0 (State.ixPowerGet s a1) := by
  unfold State.ixPowerGet
  repeat' (first
    | with_reducible assumption
    | exact Sub.trans hm rfl
    | with_reducible apply State.badParam_ev
    | with_reducible apply State.ixReply_ev
    | with_reducible apply Ev.ite
    | with_reducible apply Ev.fold
    | with_reducible apply Ev.elim
    | with_reducible apply Ev.getD
    | with_reducible apply Ev.iter
    | intro _
    | dsimp only
    | split)

theorem State.ixRailSet_ev {m : Nat} {s0 : State} {s : State} (a1 : Sys2Proof.Machine.Req) (h : Ev m s0 s) (hm : Sub 21626435031759301782026577258 m) :
    Ev m s0 (State.ixRailSet s a1) := by
  unfold State.ixRailSet
  repeat' (first
    | with_reducible assumption
    | exact Sub.trans hm rfl
    | with_reducible apply State.badParam_ev
    | with_reducible apply State.ixPut_ev
    | with_reducible apply State.ixReply_ev
    | with_reducible apply Ev.ite
    | with_reducible apply Ev.fold
    | with_reducible apply Ev.elim
    | with_reducible apply Ev.getD
    | with_reducible apply Ev.iter
    | intro _
    | dsimp only
    | split)

theorem State.ixPortSet_ev {m : Nat} {s0 : State} {s : State} (a1 : Sys2Proof.Machine.Req) (h : Ev m s0 s) (hm : Sub 21627643957578986779945461098 m) :
    Ev m s0 (State.ixPortSet s a1) := by
  unfold State.ixPortSet
  repeat' (first
    | with_reducible assumption
    | exact Sub.trans hm rfl
    | with_reducible apply State.badParam_ev
    | with_reducible apply State.ixPut_ev
    | with_reducible apply Ev.each
    | with_reducible apply State.ixReplyRegs_ev
    | with_reducible apply Ev.ite
    | with_reducible apply Ev.fold
    | with_reducible apply Ev.elim
    | with_reducible apply Ev.getD
    | with_reducible apply Ev.iter
    | intro _
    | dsimp only
    | split)

theorem State.ixLineSet_ev {m : Nat} {s0 : State} {s : State} (a1 : Sys2Proof.Machine.Req) (h : Ev m s0 s) (hm : Sub 21627643957578986779945461098 m) :
    Ev m s0 (State.ixLineSet s a1) := by
  unfold State.ixLineSet
  repeat' (first
    | with_reducible assumption
    | exact Sub.trans hm rfl
    | with_reducible apply State.badParam_ev
    | with_reducible apply Ev.each
    | with_reducible apply State.ixPut_ev
    | with_reducible apply State.ixReplyRegs_ev
    | with_reducible apply Ev.ite
    | with_reducible apply Ev.fold
    | with_reducible apply Ev.elim
    | with_reducible apply Ev.getD
    | with_reducible apply Ev.iter
    | intro _
    | dsimp only
    | split)

theorem State.ixLineGet_ev {m : Nat} {s0 : State} {s : State} (a1 : Sys2Proof.Machine.Req) (h : Ev m s0 s) (hm : Sub 21627643957578986779945461098 m) :
    Ev m s0 (State.ixLineGet s a1) := by
  unfold State.ixLineGet
  repeat' (first
    | with_reducible assumption
    | exact Sub.trans hm rfl
    | with_reducible apply State.badParam_ev
    | with_reducible apply State.ixReads_ev
    | with_reducible apply State.ixReads_ev1
    | with_reducible apply State.ixPut_ev
    | with_reducible apply State.ixRead_ev
    | with_reducible apply State.ixRead_ev1
    | with_reducible apply State.ixReply_ev
    | with_reducible refine State.ixReads_evq ‹_› ?_ ?_
    | with_reducible refine State.ixRead_evq ‹_› ?_ ?_
    | with_reducible apply Ev.ite
    | with_reducible apply Ev.fold
    | with_reducible apply Ev.elim
    | with_reducible apply Ev.getD
    | with_reducible apply Ev.iter
    | intro _
    | dsimp only
    | split
    | with_reducible apply Ev.set_ix)

theorem State.ixWaitLock_ev {m : Nat} {s0 : State} {s : State} (a1 : Sys2Proof.Machine.Req) (h : Ev m s0 s) (hm : Sub 116056878683018694456508424 m) :
    Ev m s0 (State.ixWaitLock s a1) := by
  unfold State.ixWaitLock
  repeat' (first
    | with_reducible assumption
    | exact Sub.trans hm rfl
    | with_reducible apply State.badParam_ev
    | with_reducible apply State.ixWait_ev
    | with_reducible apply Ev.ite
    | with_reducible apply Ev.fold
    | with_reducible apply Ev.elim
    | with_reducible apply Ev.getD
    | with_reducible apply Ev.iter
    | intro _
    | dsimp only
    | split)

theorem State.ixFaultRead_ev {m : Nat} {s0 : State} {s : State} (a1 : Sys2Proof.Machine.Req) (h : Ev m s0 s) (hm : Sub 117870267412511006962745352 m) :
    Ev m s0 (State.ixFaultRead s a1) := by
  unfold State.ixFaultRead
  repeat' (first
    | with_reducible assumption
    | exact Sub.trans hm rfl
    | with_reducible apply State.ixReplyRegs_ev
    | with_reducible apply Ev.ite
    | with_reducible apply Ev.fold
    | with_reducible apply Ev.elim
    | with_reducible apply Ev.getD
    | with_reducible apply Ev.iter
    | intro _
    | dsimp only
    | split)

theorem State.ixFaultClear_ev {m : Nat} {s0 : State} {s : State} (a1 : Sys2Proof.Machine.Req) (h : Ev m s0 s) (hm : Sub 21626435031759864731979998570 m) :
    Ev m s0 (State.ixFaultClear s a1) := by
  unfold State.ixFaultClear
  repeat' (first
    | with_reducible assumption
    | exact Sub.trans hm rfl
    | with_reducible apply State.badParam_ev
    | with_reducible apply State.ixReply_ev
    | with_reducible apply State.faultMark_ev
    | with_reducible apply State.ixPut_ev
    | with_reducible apply Ev.ite
    | with_reducible apply Ev.fold
    | with_reducible apply Ev.elim
    | with_reducible apply Ev.getD
    | with_reducible apply Ev.iter
    | intro _
    | dsimp only
    | split)

theorem State.ixSliceRun_ev {m : Nat} {s0 : State} {s : State} (a1 : Sys2Proof.Machine.Req) (h : Ev m s0 s) (hm : Sub 21626435031759301782026577258 m) :
    Ev m s0 (State.ixSliceRun s a1) := by
  unfold State.ixSliceRun
  repeat' (first
    | with_reducible assumption
    | exact Sub.trans hm rfl
    | with_reducible apply State.badParam_ev
    | with_reducible apply State.ixReply_ev
    | with_reducible apply State.ixWait_ev
    | with_reducible apply State.ixPut_ev
    | with_reducible apply Ev.ite
    | with_reducible apply Ev.fold
    | with_reducible apply Ev.elim
    | with_reducible apply Ev.getD
    | with_reducible apply Ev.iter
    | intro _
    | dsimp only
    | split)

theorem State.ixAsh_ev {m : Nat} {s0 : State} {s : State} (a1 : Sys2Proof.Machine.Req) (h : Ev m s0 s) (hm : Sub 116056878683018694523617288 m) :
    Ev m s0 (State.ixAsh s a1) := by
  unfold State.ixAsh
  repeat' (first
    | with_reducible assumption
    | exact Sub.trans hm rfl
    | with_reducible apply State.badParam_ev
    | with_reducible apply State.ixWait_ev
    | with_reducible apply State.toFabric_ev
    | with_reducible apply Ev.ite
    | with_reducible apply Ev.fold
    | with_reducible apply Ev.elim
    | with_reducible apply Ev.getD
    | with_reducible apply Ev.iter
    | intro _
    | dsimp only
    | split)

theorem State.ixReset_ev {m : Nat} {s0 : State} {s : State} (a1 : Sys2Proof.Machine.Req) (h : Ev m s0 s) (hm : Sub 116056878683018694456508424 m) :
    Ev m s0 (State.ixReset s a1) := by
  unfold State.ixReset
  repeat' (first
    | with_reducible assumption
    | exact Sub.trans hm rfl
    | with_reducible apply State.badParam_ev
    | with_reducible apply State.ixReply_ev
    | with_reducible apply Ev.ite
    | with_reducible apply Ev.fold
    | with_reducible apply Ev.elim
    | with_reducible apply Ev.getD
    | with_reducible apply Ev.iter
    | intro _
    | dsimp only
    | split
    | with_reducible apply Ev.set_ix)

theorem State.ixLinkCtl_ev {m : Nat} {s0 : State} {s : State} (a1 : Sys2Proof.Machine.Req) (h : Ev m s0 s) (hm : Sub 21627643957578986779945461098 m) :
    Ev m s0 (State.ixLinkCtl s a1) := by
  unfold State.ixLinkCtl
  repeat' (first
    | with_reducible assumption
    | exact Sub.trans hm rfl
    | with_reducible apply State.badParam_ev
    | with_reducible apply State.ixReplyRegs_ev
    | with_reducible apply State.ixPut_ev
    | with_reducible apply Ev.ite
    | with_reducible apply Ev.fold
    | with_reducible apply Ev.elim
    | with_reducible apply Ev.getD
    | with_reducible apply Ev.iter
    | intro _
    | dsimp only
    | split)

theorem State.readRun_ev {m : Nat} {s0 s : State} (addr : Nat) (w64 : Bool) (k : Nat) (got : List (BitVec 64 × Bool)) (h : Ev m s0 s) (hm : Sub 40507279098505468076621834 m) :
    Ev m s0 (s.readRun addr w64 k got).st := by
  induction k generalizing s addr got with
  | zero => exact h
  | succ k ih =>
  unfold State.readRun
  repeat' (first
    | with_reducible assumption
    | exact Sub.trans hm rfl
    | with_reducible apply ih
    | with_reducible apply State.toFabric_ev
    | with_reducible apply State.ixBusRead_ev1
    | dsimp only
    | split)

theorem State.ixReadOn_ev {m : Nat} {s0 : State} {s : State} (a1 : Sys2Proof.Machine.Req) (a2 : Nat) (a3 : Bool) (a4 : Nat) (a5 : List (BitVec 64 × Bool)) (a6 : Bool) (h : Ev m s0 s) (hm : Sub 117878531553856028908978186 m) :
    Ev m s0 (State.ixReadOn s a1 a2 a3 a4 a5 a6) := by
  unfold State.ixReadOn
  repeat' (first
    | with_reducible apply State.readRun_ev
    | with_reducible assumption
    | exact Sub.trans hm rfl
    | with_reducible apply State.ixReply_ev
    | with_reducible apply State.ixWait_ev
    | with_reducible apply Ev.ite
    | with_reducible apply Ev.fold
    | with_reducible apply Ev.elim
    | with_reducible apply Ev.getD
    | with_reducible apply Ev.iter
    | intro _
    | dsimp only
    | split)

theorem State.ixReadCmd_ev {m : Nat} {s0 : State} {s : State} (a1 : Sys2Proof.Machine.Req) (h : Ev m s0 s) (hm : Sub 117878531553856028908978186 m) :
    Ev m s0 (State.ixReadCmd s a1) := by
  unfold State.ixReadCmd
  repeat' (first
    | with_reducible assumption
    | exact Sub.trans hm rfl
    | with_reducible apply State.badParam_ev
    | with_reducible apply State.ixReadOn_ev
    | with_reducible apply Ev.ite
    | with_reducible apply Ev.fold
    | with_reducible apply Ev.elim
    | with_reducible apply Ev.getD
    | with_reducible apply Ev.iter
    | intro _
    | dsimp only
    | split)

theorem State.writeRun_ev {m : Nat} {s0 : State} {s : State} (a1 : Bool) (a2 : Nat) (a3 : Nat) (a4 : List Sys2Proof.Byte) (a5 : List Nat × Nat) (h : Ev m s0 s) (hm : Sub 21520049559633210016673031530 m) :
    EvPair m s0 (State.writeRun s a1 a2 a3 a4 a5) := by
  induction a2 generalizing s a3 a4 a5 with
  | zero => exact EvPair.pair _ h
  | succ k ih =>
  unfold State.writeRun
  obtain ⟨ids, done, refused⟩ := a5
  repeat' (first
    | with_reducible refine ⟨(ih _ _ _ ?_).get⟩
    | with_reducible refine (ih _ _ _ ?_).get
    | with_reducible assumption
    | exact Sub.trans hm rfl
    | with_reducible apply EvPair.pair
    | with_reducible apply EvPair.ite
    | with_reducible apply State.toFabric_ev
    | with_reducible apply State.busWrite_ev
    | with_reducible apply Ev.ite
    | with_reducible apply Ev.fold
    | with_reducible apply Ev.elim
    | with_reducible apply Ev.getD
    | with_reducible apply Ev.iter
    | intro _
    | dsimp only
    | split)

theorem State.writeRun_evq {m : Nat} {s0 : State} {t : State} {s : State} {a1 : Bool} {a2 : Nat} {a3 : Nat} {a4 : List Sys2Proof.Byte} {a5 : List Nat × Nat} {b : _} (e : (State.writeRun s a1 a2 a3 a4 a5) = (t, b)) (h : Ev m s0 s) (hm : Sub 21520049559633210016673031530 m) : Ev m s0 t := by
  have := State.writeRun_ev a1 a2 a3 a4 a5 h hm
  rw [e] at this; exact this.get

theorem State.writeRun_ev1 {m : Nat} {s0 : State} {s : State} (a1 : Bool) (a2 : Nat) (a3 : Nat) (a4 : List Sys2Proof.Byte) (a5 : List Nat × Nat) (h : Ev m s0 s) (hm : Sub 21520049559633210016673031530 m) : Ev m s0 (State.writeRun s a1 a2 a3 a4 a5).1 := (State.writeRun_ev a1 a2 a3 a4 a5 h hm).get

theorem State.ixWriteCmd_ev {m : Nat} {s0 : State} {s : State} (a1 : Sys2Proof.Machine.Req) (h : Ev m s0 s) (hm : Sub 21636106438316218815491335530 m) :
    Ev m s0 (State.ixWriteCmd s a1) := by
  unfold State.ixWriteCmd
  repeat' (first
    | with_reducible assumption
    | exact Sub.trans hm rfl
    | with_reducible apply State.badParam_ev
    | with_reducible apply State.ixReply_ev
    | with_reducible apply State.writeRun_ev
    | with_reducible apply State.writeRun_ev1
    | with_reducible apply State.ixWait_ev
    | with_reducible refine State.writeRun_evq ‹_› ?_ ?_
    | with_reducible apply Ev.ite
    | with_reducible apply Ev.fold
    | with_reducible apply Ev.elim
    | with_reducible apply Ev.getD
    | with_reducible apply Ev.iter
    | intro _
    | dsimp only
    | split)

theorem State.hopFirst_ev {m : Nat} {s0 : State} {s : State} (a1 : Sys2Proof.Machine.Req) (a2 : Nat) (a3 : Sys2Proof.Machine.HopTodo) (h : Ev m s0 s) (hm : Sub 38685626227668133691260928 m) :
    Ev m s0 (State.hopFirst s a1 a2 a3) := by
  unfold State.hopFirst
  repeat' (first
    | with_reducible assumption
    | exact Sub.trans hm rfl
    | with_reducible apply State.ixWait_ev
    | with_reducible apply State.toFabric_ev
    | with_reducible apply Ev.ite
    | with_reducible apply Ev.fold
    | with_reducible apply Ev.elim
    | with_reducible apply Ev.getD
    | with_reducible apply Ev.iter
    | intro _
    | dsimp only
    | split)

theorem State.hopPopped_ev {m : Nat} {s0 : State} {s : State} (a1 : Sys2Proof.Machine.Req) (a2 : Bool) (a3 : List Sys2Proof.Tok) (h : Ev m s0 s) (hm : Sub 116056878683018694456508424 m) :
    Ev m s0 (State.hopPopped s a1 a2 a3) := by
  unfold State.hopPopped
  repeat' (first
    | with_reducible assumption
    | exact Sub.trans hm rfl
    | with_reducible apply State.ixReply_ev
    | with_reducible apply Ev.ite
    | with_reducible apply Ev.fold
    | with_reducible apply Ev.elim
    | with_reducible apply Ev.getD
    | with_reducible apply Ev.iter
    | intro _
    | dsimp only
    | split)

theorem State.hopPopOn_ev {m : Nat} {s0 : State} {s : State} (a1 : Sys2Proof.Machine.Req) (a2 : Nat) (a3 : Nat) (a4 : List Sys2Proof.Tok) (h : Ev m s0 s) (hm : Sub 116056878683018694523617288 m) :
    Ev m s0 (State.hopPopOn s a1 a2 a3 a4) := by
  unfold State.hopPopOn
  repeat' (first
    | with_reducible assumption
    | exact Sub.trans hm rfl
    | with_reducible apply State.hopPopped_ev
    | with_reducible apply State.ixWait_ev
    | with_reducible apply State.toFabric_ev
    | with_reducible apply Ev.ite
    | with_reducible apply Ev.fold
    | with_reducible apply Ev.elim
    | with_reducible apply Ev.getD
    | with_reducible apply Ev.iter
    | intro _
    | dsimp only
    | split)

theorem State.ixHopPop_ev {m : Nat} {s0 : State} {s : State} (a1 : Sys2Proof.Machine.Req) (h : Ev m s0 s) (hm : Sub 116056878683018694523617288 m) :
    Ev m s0 (State.ixHopPop s a1) := by
  unfold State.ixHopPop
  repeat' (first
    | with_reducible assumption
    | exact Sub.trans hm rfl
    | with_reducible apply State.badParam_ev
    | with_reducible apply State.hopFirst_ev
    | with_reducible apply Ev.ite
    | with_reducible apply Ev.fold
    | with_reducible apply Ev.elim
    | with_reducible apply Ev.getD
    | with_reducible apply Ev.iter
    | intro _
    | dsimp only
    | split)

theorem State.hopPushed_ev {m : Nat} {s0 : State} {s : State} (a1 : Sys2Proof.Machine.Req) (a2 : Bool) (a3 : Nat) (h : Ev m s0 s) (hm : Sub 116056878683018694456508424 m) :
    Ev m s0 (State.hopPushed s a1 a2 a3) := by
  unfold State.hopPushed
  repeat' (first
    | with_reducible assumption
    | exact Sub.trans hm rfl
    | with_reducible apply State.ixReply_ev
    | with_reducible apply Ev.ite
    | with_reducible apply Ev.fold
    | with_reducible apply Ev.elim
    | with_reducible apply Ev.getD
    | with_reducible apply Ev.iter
    | intro _
    | dsimp only
    | split)

theorem State.hopPushOn_ev {m : Nat} {s0 : State} {s : State} (a1 : Sys2Proof.Machine.Req) (a2 : Nat) (a3 : List Sys2Proof.Word) (a4 : Nat) (h : Ev m s0 s) (hm : Sub 116056878683018694523617288 m) :
    Ev m s0 (State.hopPushOn s a1 a2 a3 a4) := by
  unfold State.hopPushOn
  repeat' (first
    | with_reducible assumption
    | exact Sub.trans hm rfl
    | with_reducible apply State.hopPushed_ev
    | with_reducible apply State.ixWait_ev
    | with_reducible apply State.toFabric_ev
    | with_reducible apply Ev.ite
    | with_reducible apply Ev.fold
    | with_reducible apply Ev.elim
    | with_reducible apply Ev.getD
    | with_reducible apply Ev.iter
    | intro _
    | dsimp only
    | split)

theorem State.ixHopPush_ev {m : Nat} {s0 : State} {s : State} (a1 : Sys2Proof.Machine.Req) (h : Ev m s0 s) (hm : Sub 116056878683018694523617288 m) :
    Ev m s0 (State.ixHopPush s a1) := by
  unfold State.ixHopPush
  repeat' (first
    | with_reducible assumption
    | exact Sub.trans hm rfl
    | with_reducible apply State.badParam_ev
    | with_reducible apply State.hopFirst_ev
    | with_reducible apply Ev.ite
    | with_reducible apply Ev.fold
    | with_reducible apply Ev.elim
    | with_reducible apply Ev.getD
    | with_reducible apply Ev.iter
    | intro _
    | dsimp only
    | split)

theorem State.ixHopCmd_ev {m : Nat} {s0 : State} {s : State} (a1 : Sys2Proof.Machine.Req) (h : Ev m s0 s) (hm : Sub 116056878683018694523617288 m) :
    Ev m s0 (State.ixHopCmd s a1) := by
  unfold State.ixHopCmd
  repeat' (first
    | with_reducible assumption
    | exact Sub.trans hm rfl
    | with_reducible apply State.badParam_ev
    | with_reducible apply State.ixWait_ev
    | with_reducible apply State.toFabric_ev
    | with_reducible apply Ev.ite
    | with_reducible apply Ev.fold
    | with_reducible apply Ev.elim
    | with_reducible apply Ev.getD
    | with_reducible apply Ev.iter
    | intro _
    | dsimp only
    | split)

theorem State.hopStatRead_ev {m : Nat} {s0 : State} {s : State} (a1 : Sys2Proof.Machine.Req) (a2 : Nat) (a3 : Sys2Proof.Machine.HopTodo) (a4 : Nat) (a5 : Bool) (h : Ev m s0 s) (hm : Sub 116056878683018694523617288 m) :
    Ev m s0 (State.hopStatRead s a1 a2 a3 a4 a5) := by
  unfold State.hopStatRead
  repeat' (first
    | with_reducible assumption
    | exact Sub.trans hm rfl
    | with_reducible apply State.hopPopped_ev
    | with_reducible apply State.hopPopOn_ev
    | with_reducible apply State.hopPushed_ev
    | with_reducible apply State.hopPushOn_ev
    | with_reducible apply State.ixReply_ev
    | with_reducible apply Ev.ite
    | with_reducible apply Ev.fold
    | with_reducible apply Ev.elim
    | with_reducible apply Ev.getD
    | with_reducible apply Ev.iter
    | intro _
    | dsimp only
    | split)

theorem State.ixGoOn_ev {m : Nat} {s0 : State} {s : State} (a1 : Sys2Proof.Machine.Req) (a2 : Sys2Proof.Machine.IxWait) (a3 : Sys2Proof.Machine.Answer) (h : Ev m s0 s) (hm : Sub 117878531553856028908978186 m) :
    Ev m s0 (State.ixGoOn s a1 a2 a3) := by
  unfold State.ixGoOn
  repeat' (first
    | with_reducible assumption
    | exact Sub.trans hm rfl
    | with_reducible apply State.ixReadOn_ev
    | with_reducible apply State.hopStatRead_ev
    | with_reducible apply State.hopPopped_ev
    | with_reducible apply State.hopPopOn_ev
    | with_reducible apply State.hopPushed_ev
    | with_reducible apply State.hopPushOn_ev
    | with_reducible apply State.hopFirst_ev
    | with_reducible apply State.ixReplyRegs_ev
    | with_reducible apply Ev.ite
    | with_reducible apply Ev.fold
    | with_reducible apply Ev.elim
    | with_reducible apply Ev.getD
    | with_reducible apply Ev.iter
    | intro _
    | dsimp only
    | split)

theorem State.ixAttest_ev {m : Nat} {s0 : State} {s : State} (a1 : Sys2Proof.Machine.Req) (h : Ev m s0 s) (hm : Sub 38686364097431081972662280 m) :
    Ev m s0 (State.ixAttest s a1) := by
  unfold State.ixAttest
  repeat' (first
    | with_reducible assumption
    | exact Sub.trans hm rfl
    | with_reducible apply State.attest_ev
    | with_reducible apply State.ixWait_ev
    | with_reducible apply Ev.ite
    | with_reducible apply Ev.fold
    | with_reducible apply Ev.elim
    | with_reducible apply Ev.getD
    | with_reducible apply Ev.iter
    | intro _
    | dsimp only
    | split
    | with_reducible apply Ev.set_ix)

theorem State.ixCert_ev {m : Nat} {s0 : State} {s : State} (a1 : Sys2Proof.Machine.Req) (h : Ev m s0 s) (hm : Sub 270799383593691228818898952 m) :
    Ev m s0 (State.ixCert s a1) := by
  unfold State.ixCert
  repeat' (first
    | with_reducible assumption
    | exact Sub.trans hm rfl
    | with_reducible apply State.badParam_ev
    | with_reducible apply State.ixReply_ev
    | with_reducible apply State.flashOn_ev
    | with_reducible apply Ev.ite
    | with_reducible apply Ev.fold
    | with_reducible apply Ev.elim
    | with_reducible apply Ev.getD
    | with_reducible apply Ev.iter
    | intro _
    | dsimp only
    | split)

theorem State.ixKeyStatus_ev {m : Nat} {s0 : State} {s : State} (a1 : Sys2Proof.Machine.Req) (h : Ev m s0 s) (hm : Sub 117870267412511006962745352 m) :
    Ev m s0 (State.ixKeyStatus s a1) := by
  unfold State.ixKeyStatus
  repeat' (first
    | with_reducible assumption
    | exact Sub.trans hm rfl
    | with_reducible apply State.ixReplyRegs_ev
    | with_reducible apply Ev.ite
    | with_reducible apply Ev.fold
    | with_reducible apply Ev.elim
    | with_reducible apply Ev.getD
    | with_reducible apply Ev.iter
    | intro _
    | dsimp only
    | split)

theorem State.kloadPut_ev {m : Nat} {s0 : State} {s : State} (a1 : Nat) (h : Ev m s0 s) (hm : Sub 21510378153076292983208273258 m) :
    Ev m s0 (State.kloadPut s a1) := by
  unfold State.kloadPut
  repeat' (first
    | with_reducible assumption
    | exact Sub.trans hm rfl
    | with_reducible apply Ev.each
    | with_reducible apply State.ixPut_ev
    | with_reducible apply Ev.ite
    | with_reducible apply Ev.fold
    | with_reducible apply Ev.elim
    | with_reducible apply Ev.getD
    | with_reducible apply Ev.iter
    | intro _
    | dsimp only
    | split)

theorem State.ixKcmd_ev {m : Nat} {s0 : State} {s : State} (a1 : Sys2Proof.Machine.Req) (a2 : Nat) (a3 : Nat) (h : Ev m s0 s) (hm : Sub 21626435031759301782026577258 m) :
    Ev m s0 (State.ixKcmd s a1 a2 a3) := by
  unfold State.ixKcmd
  repeat' (first
    | with_reducible assumption
    | exact Sub.trans hm rfl
    | with_reducible apply State.ixPut_ev
    | with_reducible apply State.ixWait_ev
    | with_reducible apply State.ixReply_ev
    | with_reducible apply Ev.ite
    | with_reducible apply Ev.fold
    | with_reducible apply Ev.elim
    | with_reducible apply Ev.getD
    | with_reducible apply Ev.iter
    | intro _
    | dsimp only
    | split)

theorem State.ixKeyWrite_ev {m : Nat} {s0 : State} {s : State} (a1 : Sys2Proof.Machine.Req) (h : Ev m s0 s) (hm : Sub 21626435031759301782026577258 m) :
    Ev m s0 (State.ixKeyWrite s a1) := by
  unfold State.ixKeyWrite
  repeat' (first
    | with_reducible assumption
    | exact Sub.trans hm rfl
    | with_reducible apply State.ixReply_ev
    | with_reducible apply State.badParam_ev
    | with_reducible apply State.ixKcmd_ev
    | with_reducible apply State.kloadPut_ev
    | with_reducible apply Ev.ite
    | with_reducible apply Ev.fold
    | with_reducible apply Ev.elim
    | with_reducible apply Ev.getD
    | with_reducible apply Ev.iter
    | intro _
    | dsimp only
    | split)

theorem State.ixKeyCmd_ev {m : Nat} {s0 : State} {s : State} (a1 : Sys2Proof.Machine.Req) (h : Ev m s0 s) (hm : Sub 21626435031759301782026577258 m) :
    Ev m s0 (State.ixKeyCmd s a1) := by
  unfold State.ixKeyCmd
  repeat' (first
    | with_reducible assumption
    | exact Sub.trans hm rfl
    | with_reducible apply State.badParam_ev
    | with_reducible apply State.ixKcmd_ev
    | with_reducible apply State.kloadPut_ev
    | with_reducible apply Ev.ite
    | with_reducible apply Ev.fold
    | with_reducible apply Ev.elim
    | with_reducible apply Ev.getD
    | with_reducible apply Ev.iter
    | intro _
    | dsimp only
    | split)

theorem State.ixSvnRaise_ev {m : Nat} {s0 : State} {s : State} (a1 : Sys2Proof.Machine.Req) (h : Ev m s0 s) (hm : Sub 117870285859255080672296968 m) :
    Ev m s0 (State.ixSvnRaise s a1) := by
  unfold State.ixSvnRaise
  repeat' (first
    | with_reducible assumption
    | exact Sub.trans hm rfl
    | with_reducible apply State.badParam_ev
    | with_reducible apply State.ixReplyRegs_ev
    | with_reducible apply Ev.ite
    | with_reducible apply Ev.fold
    | with_reducible apply Ev.elim
    | with_reducible apply Ev.getD
    | with_reducible apply Ev.iter
    | with_reducible exact Nat.le_succ _
    | with_reducible exact Nat.le_refl _
    | with_reducible exact Nat.le_add_right _ _
    | with_reducible exact Nat.le_max_left _ _
    | intro _
    | dsimp only
    | split
    | with_reducible apply Ev.set_fwsvn)

end Machine

end Sys2Proof
end

