-- ==== Sys2Proof/Laws/EvIxRows.lean ====
section
/-! SUPPORT. What each operation of Machine/IxRows.lean can change, and that it keeps what no command may break (Laws/Evolve.lean). -/

set_option linter.unusedTactic false
set_option linter.unreachableTactic false
set_option linter.unusedVariables false

namespace Sys2Proof

open Machine

namespace Machine

theorem State.ixPerform_ev {m : Nat} {s0 : State} {s : State} (a1 : Sys2Proof.Machine.Req) (h : Ev m s0 s) (hm : Sub 21637316120525031379493184874 m) :
    Ev m s0 (State.ixPerform s a1) := by
  unfold State.ixPerform
  repeat' (first
    | with_reducible assumption
    | exact Sub.trans hm rfl
    | with_reducible apply State.ixHello_ev
    | with_reducible apply State.ixOpen_ev
    | with_reducible apply State.ixProve_ev
    | with_reducible apply State.ixClose_ev
    | with_reducible apply State.ixKeepalive_ev
    | with_reducible apply State.ixRelay_ev
    | with_reducible apply State.ixIdentity_ev
    | with_reducible apply State.ixHealth_ev
    | with_reducible apply State.ixViolRead_ev
    | with_reducible apply State.ixViolClear_ev
    | with_reducible apply State.ixLoad_ev
    | with_reducible apply State.ixPushBegin_ev
    | with_reducible apply State.ixPushData_ev
    | with_reducible apply State.ixPushEnd_ev
    | with_reducible apply State.ixAbort_ev
    | with_reducible apply State.ixRecordWrite_ev
    | with_reducible apply State.ixRecordCommit_ev
    | with_reducible apply State.ixRecordRead_ev
    | with_reducible apply State.ixPowerSet_ev
    | with_reducible apply State.ixPowerGet_ev
    | with_reducible apply State.ixRailSet_ev
    | with_reducible apply State.ixPortSet_ev
    | with_reducible apply State.ixLineSet_ev
    | with_reducible apply State.ixLineGet_ev
    | with_reducible apply State.ixWaitLock_ev
    | with_reducible apply State.ixFaultRead_ev
    | with_reducible apply State.ixFaultClear_ev
    | with_reducible apply State.ixSliceRun_ev
    | with_reducible apply State.ixAsh_ev
    | with_reducible apply State.ixReset_ev
    | with_reducible apply State.ixLinkCtl_ev
    | with_reducible apply State.ixReadCmd_ev
    | with_reducible apply State.ixWriteCmd_ev
    | with_reducible apply State.ixHopPop_ev
    | with_reducible apply State.ixHopPush_ev
    | with_reducible apply State.ixHopCmd_ev
    | with_reducible apply State.ixAttest_ev
    | with_reducible apply State.ixCert_ev
    | with_reducible apply State.ixKeyStatus_ev
    | with_reducible apply State.ixKeyWrite_ev
    | with_reducible apply State.ixKeyCmd_ev
    | with_reducible apply State.ixSvnRaise_ev
    | with_reducible apply Ev.ite
    | with_reducible apply Ev.fold
    | with_reducible apply Ev.elim
    | with_reducible apply Ev.getD
    | with_reducible apply Ev.iter
    | intro _
    | dsimp only
    | split)

theorem State.ixRequest_ev {m : Nat} {s0 : State} {s : State} (a1 : Sys2Proof.Machine.Req) (a2 : Sys2Proof.Machine.Pkt) (a3 : Bool) (h : Ev m s0 s) (hm : Sub 21637316120525031379493184874 m) :
    Ev m s0 (State.ixRequest s a1 a2 a3) := by
  unfold State.ixRequest
  repeat' (first
    | with_reducible assumption
    | exact Sub.trans hm rfl
    | with_reducible apply State.ixReply_ev
    | with_reducible apply State.ixPerform_ev
    | with_reducible apply Ev.ite
    | with_reducible apply Ev.fold
    | with_reducible apply Ev.elim
    | with_reducible apply Ev.getD
    | with_reducible apply Ev.iter
    | intro _
    | dsimp only
    | split)

theorem State.ixDrain_ev {m : Nat} {s0 : State} {s : State} (a1 : Nat) (a2 : Nat) (h : Ev m s0 s) (hm : Sub 21637316120525031379493184874 m) :
    Ev m s0 (State.ixDrain s a1 a2) := by
  induction a2 generalizing s with
  | zero => exact h
  | succ k ih =>
  unfold State.ixDrain
  repeat' (first
    | with_reducible apply ih
    | with_reducible assumption
    | exact Sub.trans hm rfl
    | with_reducible apply State.setSession_ev
    | with_reducible apply State.ixRequest_ev
    | with_reducible apply Ev.ite
    | with_reducible apply Ev.fold
    | with_reducible apply Ev.elim
    | with_reducible apply Ev.getD
    | with_reducible apply Ev.iter
    | intro _
    | dsimp only
    | split)

theorem State.ixSeq_ev {m : Nat} {s0 : State} {s : State} (a1 : Sys2Proof.Machine.Session) (a2 : List Sys2Proof.Byte) (a3 : Sys2Proof.Machine.Pkt) (h : Ev m s0 s) (hm : Sub 21637316120525031379493184874 m) :
    Ev m s0 (State.ixSeq s a1 a2 a3) := by
  unfold State.ixSeq
  repeat' (first
    | with_reducible assumption
    | exact Sub.trans hm rfl
    | with_reducible apply State.ixTell_ev
    | with_reducible apply State.ixDrain_ev
    | with_reducible apply State.setSession_ev
    | with_reducible apply State.ixSend_ev
    | with_reducible apply Ev.ite
    | with_reducible apply Ev.fold
    | with_reducible apply Ev.elim
    | with_reducible apply Ev.getD
    | with_reducible apply Ev.iter
    | intro _
    | dsimp only
    | split)

theorem State.ixTake_ev {m : Nat} {s0 : State} {s : State} (a1 : Sys2Proof.Endpoint) (a2 : List Sys2Proof.Byte) (h : Ev m s0 s) (hm : Sub 21637316120525031379493184874 m) :
    Ev m s0 (State.ixTake s a1 a2) := by
  unfold State.ixTake
  repeat' (first
    | with_reducible assumption
    | exact Sub.trans hm rfl
    | with_reducible apply State.ixDrop_ev
    | with_reducible apply State.ixTell_ev
    | with_reducible apply State.ixRequest_ev
    | with_reducible apply State.ixSeq_ev
    | with_reducible apply Ev.ite
    | with_reducible apply Ev.fold
    | with_reducible apply Ev.elim
    | with_reducible apply Ev.getD
    | with_reducible apply Ev.iter
    | intro _
    | dsimp only
    | split)

theorem State.ixDone_ev {m : Nat} {s0 : State} {s : State} (a1 : Sys2Proof.Machine.Session) (a2 : Sys2Proof.Machine.Running) (h : Ev m s0 s) (hm : Sub 117870267421518206217486344 m) :
    EvOpt m s0 (State.ixDone s a1 a2) := by
  unfold State.ixDone
  repeat' (first
    | with_reducible assumption
    | exact Sub.trans hm rfl
    | with_reducible apply EvOpt.some
    | with_reducible exact EvOpt.none
    | with_reducible apply EvOpt.map
    | with_reducible apply EvOpt.ite
    | with_reducible apply State.ixReplyRegs_ev
    | with_reducible apply State.ixReply_ev
    | with_reducible apply Ev.ite
    | with_reducible apply Ev.fold
    | with_reducible apply Ev.elim
    | with_reducible apply Ev.getD
    | with_reducible apply Ev.iter
    | intro _
    | dsimp only
    | split
    | with_reducible apply Ev.set_loadEnded
    | with_reducible apply Ev.set_mgmtIn)

theorem State.ixDone_evq {m : Nat} {s0 : State} {t : State} {s : State} {a1 : Sys2Proof.Machine.Session} {a2 : Sys2Proof.Machine.Running} (e : (State.ixDone s a1 a2) = some t) (h : Ev m s0 s) (hm : Sub 117870267421518206217486344 m) : Ev m s0 t :=
  (State.ixDone_ev a1 a2 h hm).get t e

theorem State.ixSettleOne_ev {m : Nat} {s0 : State} {s : State} (a1 : Nat) (h : Ev m s0 s) (hm : Sub 21637316120525031379493184874 m) :
    Ev m s0 (State.ixSettleOne s a1) := by
  unfold State.ixSettleOne
  repeat' (first
    | with_reducible assumption
    | exact Sub.trans hm rfl
    | with_reducible apply State.ixDone_ev
    | with_reducible apply State.ixDrain_ev
    | with_reducible refine State.ixDone_evq ‹_› ?_ ?_
    | with_reducible apply Ev.ite
    | with_reducible apply Ev.fold
    | with_reducible apply Ev.elim
    | with_reducible apply Ev.getD
    | with_reducible apply Ev.iter
    | intro _
    | dsimp only
    | split)

theorem State.ixPass_ev {m : Nat} {s0 : State} {s : State} (h : Ev m s0 s) (hm : Sub 21637316120525031379493184874 m) :
    Ev m s0 (State.ixPass s) := by
  unfold State.ixPass
  repeat' (first
    | with_reducible assumption
    | exact Sub.trans hm rfl
    | with_reducible apply Ev.each
    | with_reducible apply State.ixSettleOne_ev
    | with_reducible apply Ev.ite
    | with_reducible apply Ev.fold
    | with_reducible apply Ev.elim
    | with_reducible apply Ev.getD
    | with_reducible apply Ev.iter
    | intro _
    | dsimp only
    | split)

theorem State.ixSettle_ev {m : Nat} {s0 : State} {s : State} (h : Ev m s0 s) (hm : Sub 21637316120525031379493184874 m) :
    Ev m s0 (State.ixSettle s) := by
  unfold State.ixSettle
  repeat' (first
    | with_reducible assumption
    | exact Sub.trans hm rfl
    | with_reducible apply State.ixPass_ev
    | with_reducible apply Ev.ite
    | with_reducible apply Ev.fold
    | with_reducible apply Ev.elim
    | with_reducible apply Ev.getD
    | with_reducible apply Ev.iter
    | intro _
    | dsimp only
    | split)


theorem State.ixArrival_evq {m : Nat} {s0 : State} {t : State} {s : State} {a : Arrival} {p : Endpoint} {b : List Byte} (e : s.ixArrival a = some (p, b, t)) (h : Ev m s0 s) (hm : Sub 4398046511104 m) : Ev m s0 t := by
  unfold State.ixArrival at e
  repeat' (first
    | cases e
    | (split at e)
    | with_reducible assumption
    | with_reducible apply Ev.set_mgmtIn
    | exact Sub.trans hm rfl)
theorem State.ixRow_ev {m : Nat} {s0 : State} {s : State} (a1 : Nat) (a2 : Sys2Proof.Arrival) (h : Ev m s0 s) (hm : Sub 21637316120525031379493184874 m) :
    EvOut m s0 (State.ixRow s a1 a2) := by
  unfold State.ixRow
  repeat' (first
    | with_reducible refine State.ixArrival_evq ‹_› ?_ ?_
    | with_reducible assumption
    | exact Sub.trans hm rfl
    | with_reducible apply EvOut.next
    | with_reducible apply EvOut.ite
    | with_reducible apply ok_ev
    | with_reducible apply State.ixSettle_ev
    | with_reducible apply State.ixTake_ev
    | with_reducible apply Ev.ite
    | with_reducible apply Ev.fold
    | with_reducible apply Ev.elim
    | with_reducible apply Ev.getD
    | with_reducible apply Ev.iter
    | intro _
    | dsimp only
    | split)

theorem execIxHello_ev {m : Nat} {s0 : State} (a0 : Sys2Proof.Arrival) {s : State} (h : Ev m s0 s) (hm : Sub 21637316120525031379493184874 m) :
    EvOut m s0 (execIxHello a0 s) := by
  unfold execIxHello
  repeat' (first
    | with_reducible assumption
    | exact Sub.trans hm rfl
    | with_reducible apply EvOut.next
    | with_reducible apply EvOut.ite
    | with_reducible apply State.ixRow_ev
    | with_reducible apply Ev.ite
    | with_reducible apply Ev.fold
    | with_reducible apply Ev.elim
    | with_reducible apply Ev.getD
    | with_reducible apply Ev.iter
    | intro _
    | dsimp only
    | split)

theorem execIxOpen_ev {m : Nat} {s0 : State} (a0 : Sys2Proof.Arrival) {s : State} (h : Ev m s0 s) (hm : Sub 21637316120525031379493184874 m) :
    EvOut m s0 (execIxOpen a0 s) := by
  unfold execIxOpen
  repeat' (first
    | with_reducible assumption
    | exact Sub.trans hm rfl
    | with_reducible apply EvOut.next
    | with_reducible apply EvOut.ite
    | with_reducible apply State.ixRow_ev
    | with_reducible apply Ev.ite
    | with_reducible apply Ev.fold
    | with_reducible apply Ev.elim
    | with_reducible apply Ev.getD
    | with_reducible apply Ev.iter
    | intro _
    | dsimp only
    | split)

theorem execIxProve_ev {m : Nat} {s0 : State} (a0 : Sys2Proof.Arrival) {s : State} (h : Ev m s0 s) (hm : Sub 21637316120525031379493184874 m) :
    EvOut m s0 (execIxProve a0 s) := by
  unfold execIxProve
  repeat' (first
    | with_reducible assumption
    | exact Sub.trans hm rfl
    | with_reducible apply EvOut.next
    | with_reducible apply EvOut.ite
    | with_reducible apply State.ixRow_ev
    | with_reducible apply Ev.ite
    | with_reducible apply Ev.fold
    | with_reducible apply Ev.elim
    | with_reducible apply Ev.getD
    | with_reducible apply Ev.iter
    | intro _
    | dsimp only
    | split)

theorem execIxClose_ev {m : Nat} {s0 : State} (a0 : Sys2Proof.Arrival) {s : State} (h : Ev m s0 s) (hm : Sub 21637316120525031379493184874 m) :
    EvOut m s0 (execIxClose a0 s) := by
  unfold execIxClose
  repeat' (first
    | with_reducible assumption
    | exact Sub.trans hm rfl
    | with_reducible apply EvOut.next
    | with_reducible apply EvOut.ite
    | with_reducible apply State.ixRow_ev
    | with_reducible apply Ev.ite
    | with_reducible apply Ev.fold
    | with_reducible apply Ev.elim
    | with_reducible apply Ev.getD
    | with_reducible apply Ev.iter
    | intro _
    | dsimp only
    | split)

theorem execIxKeepalive_ev {m : Nat} {s0 : State} (a0 : Sys2Proof.Arrival) {s : State} (h : Ev m s0 s) (hm : Sub 21637316120525031379493184874 m) :
    EvOut m s0 (execIxKeepalive a0 s) := by
  unfold execIxKeepalive
  repeat' (first
    | with_reducible assumption
    | exact Sub.trans hm rfl
    | with_reducible apply EvOut.next
    | with_reducible apply EvOut.ite
    | with_reducible apply State.ixRow_ev
    | with_reducible apply Ev.ite
    | with_reducible apply Ev.fold
    | with_reducible apply Ev.elim
    | with_reducible apply Ev.getD
    | with_reducible apply Ev.iter
    | intro _
    | dsimp only
    | split)

theorem execIxRelay_ev {m : Nat} {s0 : State} (a0 : Sys2Proof.Arrival) {s : State} (h : Ev m s0 s) (hm : Sub 21637316120525031379493184874 m) :
    EvOut m s0 (execIxRelay a0 s) := by
  unfold execIxRelay
  repeat' (first
    | with_reducible assumption
    | exact Sub.trans hm rfl
    | with_reducible apply EvOut.next
    | with_reducible apply EvOut.ite
    | with_reducible apply State.ixRow_ev
    | with_reducible apply Ev.ite
    | with_reducible apply Ev.fold
    | with_reducible apply Ev.elim
    | with_reducible apply Ev.getD
    | with_reducible apply Ev.iter
    | intro _
    | dsimp only
    | split)

theorem execIxIdentity_ev {m : Nat} {s0 : State} (a0 : Sys2Proof.Arrival) {s : State} (h : Ev m s0 s) (hm : Sub 21637316120525031379493184874 m) :
    EvOut m s0 (execIxIdentity a0 s) := by
  unfold execIxIdentity
  repeat' (first
    | with_reducible assumption
    | exact Sub.trans hm rfl
    | with_reducible apply EvOut.next
    | with_reducible apply EvOut.ite
    | with_reducible apply State.ixRow_ev
    | with_reducible apply Ev.ite
    | with_reducible apply Ev.fold
    | with_reducible apply Ev.elim
    | with_reducible apply Ev.getD
    | with_reducible apply Ev.iter
    | intro _
    | dsimp only
    | split)

theorem execIxHealth_ev {m : Nat} {s0 : State} (a0 : Sys2Proof.Arrival) {s : State} (h : Ev m s0 s) (hm : Sub 21637316120525031379493184874 m) :
    EvOut m s0 (execIxHealth a0 s) := by
  unfold execIxHealth
  repeat' (first
    | with_reducible assumption
    | exact Sub.trans hm rfl
    | with_reducible apply EvOut.next
    | with_reducible apply EvOut.ite
    | with_reducible apply State.ixRow_ev
    | with_reducible apply Ev.ite
    | with_reducible apply Ev.fold
    | with_reducible apply Ev.elim
    | with_reducible apply Ev.getD
    | with_reducible apply Ev.iter
    | intro _
    | dsimp only
    | split)

theorem execIxViolRead_ev {m : Nat} {s0 : State} (a0 : Sys2Proof.Arrival) {s : State} (h : Ev m s0 s) (hm : Sub 21637316120525031379493184874 m) :
    EvOut m s0 (execIxViolRead a0 s) := by
  unfold execIxViolRead
  repeat' (first
    | with_reducible assumption
    | exact Sub.trans hm rfl
    | with_reducible apply EvOut.next
    | with_reducible apply EvOut.ite
    | with_reducible apply State.ixRow_ev
    | with_reducible apply Ev.ite
    | with_reducible apply Ev.fold
    | with_reducible apply Ev.elim
    | with_reducible apply Ev.getD
    | with_reducible apply Ev.iter
    | intro _
    | dsimp only
    | split)

theorem execIxViolClear_ev {m : Nat} {s0 : State} (a0 : Sys2Proof.Arrival) {s : State} (h : Ev m s0 s) (hm : Sub 21637316120525031379493184874 m) :
    EvOut m s0 (execIxViolClear a0 s) := by
  unfold execIxViolClear
  repeat' (first
    | with_reducible assumption
    | exact Sub.trans hm rfl
    | with_reducible apply EvOut.next
    | with_reducible apply EvOut.ite
    | with_reducible apply State.ixRow_ev
    | with_reducible apply Ev.ite
    | with_reducible apply Ev.fold
    | with_reducible apply Ev.elim
    | with_reducible apply Ev.getD
    | with_reducible apply Ev.iter
    | intro _
    | dsimp only
    | split)

theorem execIxLoad_ev {m : Nat} {s0 : State} (a0 : Sys2Proof.Arrival) {s : State} (h : Ev m s0 s) (hm : Sub 21637316120525031379493184874 m) :
    EvOut m s0 (execIxLoad a0 s) := by
  unfold execIxLoad
  repeat' (first
    | with_reducible assumption
    | exact Sub.trans hm rfl
    | with_reducible apply EvOut.next
    | with_reducible apply EvOut.ite
    | with_reducible apply State.ixRow_ev
    | with_reducible apply Ev.ite
    | with_reducible apply Ev.fold
    | with_reducible apply Ev.elim
    | with_reducible apply Ev.getD
    | with_reducible apply Ev.iter
    | intro _
    | dsimp only
    | split)

theorem execIxPushBegin_ev {m : Nat} {s0 : State} (a0 : Sys2Proof.Arrival) {s : State} (h : Ev m s0 s) (hm : Sub 21637316120525031379493184874 m) :
    EvOut m s0 (execIxPushBegin a0 s) := by
  unfold execIxPushBegin
  repeat' (first
    | with_reducible assumption
    | exact Sub.trans hm rfl
    | with_reducible apply EvOut.next
    | with_reducible apply EvOut.ite
    | with_reducible apply State.ixRow_ev
    | with_reducible apply Ev.ite
    | with_reducible apply Ev.fold
    | with_reducible apply Ev.elim
    | with_reducible apply Ev.getD
    | with_reducible apply Ev.iter
    | intro _
    | dsimp only
    | split)

theorem execIxPushData_ev {m : Nat} {s0 : State} (a0 : Sys2Proof.Arrival) {s : State} (h : Ev m s0 s) (hm : Sub 21637316120525031379493184874 m) :
    EvOut m s0 (execIxPushData a0 s) := by
  unfold execIxPushData
  repeat' (first
    | with_reducible assumption
    | exact Sub.trans hm rfl
    | with_reducible apply EvOut.next
    | with_reducible apply EvOut.ite
    | with_reducible apply State.ixRow_ev
    | with_reducible apply Ev.ite
    | with_reducible apply Ev.fold
    | with_reducible apply Ev.elim
    | with_reducible apply Ev.getD
    | with_reducible apply Ev.iter
    | intro _
    | dsimp only
    | split)

theorem execIxPushEnd_ev {m : Nat} {s0 : State} (a0 : Sys2Proof.Arrival) {s : State} (h : Ev m s0 s) (hm : Sub 21637316120525031379493184874 m) :
    EvOut m s0 (execIxPushEnd a0 s) := by
  unfold execIxPushEnd
  repeat' (first
    | with_reducible assumption
    | exact Sub.trans hm rfl
    | with_reducible apply EvOut.next
    | with_reducible apply EvOut.ite
    | with_reducible apply State.ixRow_ev
    | with_reducible apply Ev.ite
    | with_reducible apply Ev.fold
    | with_reducible apply Ev.elim
    | with_reducible apply Ev.getD
    | with_reducible apply Ev.iter
    | intro _
    | dsimp only
    | split)

theorem execIxAbort_ev {m : Nat} {s0 : State} (a0 : Sys2Proof.Arrival) {s : State} (h : Ev m s0 s) (hm : Sub 21637316120525031379493184874 m) :
    EvOut m s0 (execIxAbort a0 s) := by
  unfold execIxAbort
  repeat' (first
    | with_reducible assumption
    | exact Sub.trans hm rfl
    | with_reducible apply EvOut.next
    | with_reducible apply EvOut.ite
    | with_reducible apply State.ixRow_ev
    | with_reducible apply Ev.ite
    | with_reducible apply Ev.fold
    | with_reducible apply Ev.elim
    | with_reducible apply Ev.getD
    | with_reducible apply Ev.iter
    | intro _
    | dsimp only
    | split)

theorem execIxRecordWrite_ev {m : Nat} {s0 : State} (a0 : Sys2Proof.Arrival) {s : State} (h : Ev m s0 s) (hm : Sub 21637316120525031379493184874 m) :
    EvOut m s0 (execIxRecordWrite a0 s) := by
  unfold execIxRecordWrite
  repeat' (first
    | with_reducible assumption
    | exact Sub.trans hm rfl
    | with_reducible apply EvOut.next
    | with_reducible apply EvOut.ite
    | with_reducible apply State.ixRow_ev
    | with_reducible apply Ev.ite
    | with_reducible apply Ev.fold
    | with_reducible apply Ev.elim
    | with_reducible apply Ev.getD
    | with_reducible apply Ev.iter
    | intro _
    | dsimp only
    | split)

theorem execIxRecordCommit_ev {m : Nat} {s0 : State} (a0 : Sys2Proof.Arrival) {s : State} (h : Ev m s0 s) (hm : Sub 21637316120525031379493184874 m) :
    EvOut m s0 (execIxRecordCommit a0 s) := by
  unfold execIxRecordCommit
  repeat' (first
    | with_reducible assumption
    | exact Sub.trans hm rfl
    | with_reducible apply EvOut.next
    | with_reducible apply EvOut.ite
    | with_reducible apply State.ixRow_ev
    | with_reducible apply Ev.ite
    | with_reducible apply Ev.fold
    | with_reducible apply Ev.elim
    | with_reducible apply Ev.getD
    | with_reducible apply Ev.iter
    | intro _
    | dsimp only
    | split)

theorem execIxRecordRead_ev {m : Nat} {s0 : State} (a0 : Sys2Proof.Arrival) {s : State} (h : Ev m s0 s) (hm : Sub 21637316120525031379493184874 m) :
    EvOut m s0 (execIxRecordRead a0 s) := by
  unfold execIxRecordRead
  repeat' (first
    | with_reducible assumption
    | exact Sub.trans hm rfl
    | with_reducible apply EvOut.next
    | with_reducible apply EvOut.ite
    | with_reducible apply State.ixRow_ev
    | with_reducible apply Ev.ite
    | with_reducible apply Ev.fold
    | with_reducible apply Ev.elim
    | with_reducible apply Ev.getD
    | with_reducible apply Ev.iter
    | intro _
    | dsimp only
    | split)

theorem execIxPowerSet_ev {m : Nat} {s0 : State} (a0 : Sys2Proof.Arrival) {s : State} (h : Ev m s0 s) (hm : Sub 21637316120525031379493184874 m) :
    EvOut m s0 (execIxPowerSet a0 s) := by
  unfold execIxPowerSet
  repeat' (first
    | with_reducible assumption
    | exact Sub.trans hm rfl
    | with_reducible apply EvOut.next
    | with_reducible apply EvOut.ite
    | with_reducible apply State.ixRow_ev
    | with_reducible apply Ev.ite
    | with_reducible apply Ev.fold
    | with_reducible apply Ev.elim
    | with_reducible apply Ev.getD
    | with_reducible apply Ev.iter
    | intro _
    | dsimp only
    | split)

theorem execIxPowerGet_ev {m : Nat} {s0 : State} (a0 : Sys2Proof.Arrival) {s : State} (h : Ev m s0 s) (hm : Sub 21637316120525031379493184874 m) :
    EvOut m s0 (execIxPowerGet a0 s) := by
  unfold execIxPowerGet
  repeat' (first
    | with_reducible assumption
    | exact Sub.trans hm rfl
    | with_reducible apply EvOut.next
    | with_reducible apply EvOut.ite
    | with_reducible apply State.ixRow_ev
    | with_reducible apply Ev.ite
    | with_reducible apply Ev.fold
    | with_reducible apply Ev.elim
    | with_reducible apply Ev.getD
    | with_reducible apply Ev.iter
    | intro _
    | dsimp only
    | split)

theorem execIxRailSet_ev {m : Nat} {s0 : State} (a0 : Sys2Proof.Arrival) {s : State} (h : Ev m s0 s) (hm : Sub 21637316120525031379493184874 m) :
    EvOut m s0 (execIxRailSet a0 s) := by
  unfold execIxRailSet
  repeat' (first
    | with_reducible assumption
    | exact Sub.trans hm rfl
    | with_reducible apply EvOut.next
    | with_reducible apply EvOut.ite
    | with_reducible apply State.ixRow_ev
    | with_reducible apply Ev.ite
    | with_reducible apply Ev.fold
    | with_reducible apply Ev.elim
    | with_reducible apply Ev.getD
    | with_reducible apply Ev.iter
    | intro _
    | dsimp only
    | split)

theorem execIxPortSet_ev {m : Nat} {s0 : State} (a0 : Sys2Proof.Arrival) {s : State} (h : Ev m s0 s) (hm : Sub 21637316120525031379493184874 m) :
    EvOut m s0 (execIxPortSet a0 s) := by
  unfold execIxPortSet
  repeat' (first
    | with_reducible assumption
    | exact Sub.trans hm rfl
    | with_reducible apply EvOut.next
    | with_reducible apply EvOut.ite
    | with_reducible apply State.ixRow_ev
    | with_reducible apply Ev.ite
    | with_reducible apply Ev.fold
    | with_reducible apply Ev.elim
    | with_reducible apply Ev.getD
    | with_reducible apply Ev.iter
    | intro _
    | dsimp only
    | split)

theorem execIxLineSet_ev {m : Nat} {s0 : State} (a0 : Sys2Proof.Arrival) {s : State} (h : Ev m s0 s) (hm : Sub 21637316120525031379493184874 m) :
    EvOut m s0 (execIxLineSet a0 s) := by
  unfold execIxLineSet
  repeat' (first
    | with_reducible assumption
    | exact Sub.trans hm rfl
    | with_reducible apply EvOut.next
    | with_reducible apply EvOut.ite
    | with_reducible apply State.ixRow_ev
    | with_reducible apply Ev.ite
    | with_reducible apply Ev.fold
    | with_reducible apply Ev.elim
    | with_reducible apply Ev.getD
    | with_reducible apply Ev.iter
    | intro _
    | dsimp only
    | split)

theorem execIxLineGet_ev {m : Nat} {s0 : State} (a0 : Sys2Proof.Arrival) {s : State} (h : Ev m s0 s) (hm : Sub 21637316120525031379493184874 m) :
    EvOut m s0 (execIxLineGet a0 s) := by
  unfold execIxLineGet
  repeat' (first
    | with_reducible assumption
    | exact Sub.trans hm rfl
    | with_reducible apply EvOut.next
    | with_reducible apply EvOut.ite
    | with_reducible apply State.ixRow_ev
    | with_reducible apply Ev.ite
    | with_reducible apply Ev.fold
    | with_reducible apply Ev.elim
    | with_reducible apply Ev.getD
    | with_reducible apply Ev.iter
    | intro _
    | dsimp only
    | split)

theorem execIxWaitLock_ev {m : Nat} {s0 : State} (a0 : Sys2Proof.Arrival) {s : State} (h : Ev m s0 s) (hm : Sub 21637316120525031379493184874 m) :
    EvOut m s0 (execIxWaitLock a0 s) := by
  unfold execIxWaitLock
  repeat' (first
    | with_reducible assumption
    | exact Sub.trans hm rfl
    | with_reducible apply EvOut.next
    | with_reducible apply EvOut.ite
    | with_reducible apply State.ixRow_ev
    | with_reducible apply Ev.ite
    | with_reducible apply Ev.fold
    | with_reducible apply Ev.elim
    | with_reducible apply Ev.getD
    | with_reducible apply Ev.iter
    | intro _
    | dsimp only
    | split)

theorem execIxFaultRead_ev {m : Nat} {s0 : State} (a0 : Sys2Proof.Arrival) {s : State} (h : Ev m s0 s) (hm : Sub 21637316120525031379493184874 m) :
    EvOut m s0 (execIxFaultRead a0 s) := by
  unfold execIxFaultRead
  repeat' (first
    | with_reducible assumption
    | exact Sub.trans hm rfl
    | with_reducible apply EvOut.next
    | with_reducible apply EvOut.ite
    | with_reducible apply State.ixRow_ev
    | with_reducible apply Ev.ite
    | with_reducible apply Ev.fold
    | with_reducible apply Ev.elim
    | with_reducible apply Ev.getD
    | with_reducible apply Ev.iter
    | intro _
    | dsimp only
    | split)

theorem execIxFaultClear_ev {m : Nat} {s0 : State} (a0 : Sys2Proof.Arrival) {s : State} (h : Ev m s0 s) (hm : Sub 21637316120525031379493184874 m) :
    EvOut m s0 (execIxFaultClear a0 s) := by
  unfold execIxFaultClear
  repeat' (first
    | with_reducible assumption
    | exact Sub.trans hm rfl
    | with_reducible apply EvOut.next
    | with_reducible apply EvOut.ite
    | with_reducible apply State.ixRow_ev
    | with_reducible apply Ev.ite
    | with_reducible apply Ev.fold
    | with_reducible apply Ev.elim
    | with_reducible apply Ev.getD
    | with_reducible apply Ev.iter
    | intro _
    | dsimp only
    | split)

theorem execIxSliceRun_ev {m : Nat} {s0 : State} (a0 : Sys2Proof.Arrival) {s : State} (h : Ev m s0 s) (hm : Sub 21637316120525031379493184874 m) :
    EvOut m s0 (execIxSliceRun a0 s) := by
  unfold execIxSliceRun
  repeat' (first
    | with_reducible assumption
    | exact Sub.trans hm rfl
    | with_reducible apply EvOut.next
    | with_reducible apply EvOut.ite
    | with_reducible apply State.ixRow_ev
    | with_reducible apply Ev.ite
    | with_reducible apply Ev.fold
    | with_reducible apply Ev.elim
    | with_reducible apply Ev.getD
    | with_reducible apply Ev.iter
    | intro _
    | dsimp only
    | split)

theorem execIxAsh_ev {m : Nat} {s0 : State} (a0 : Sys2Proof.Arrival) {s : State} (h : Ev m s0 s) (hm : Sub 21637316120525031379493184874 m) :
    EvOut m s0 (execIxAsh a0 s) := by
  unfold execIxAsh
  repeat' (first
    | with_reducible assumption
    | exact Sub.trans hm rfl
    | with_reducible apply EvOut.next
    | with_reducible apply EvOut.ite
    | with_reducible apply State.ixRow_ev
    | with_reducible apply Ev.ite
    | with_reducible apply Ev.fold
    | with_reducible apply Ev.elim
    | with_reducible apply Ev.getD
    | with_reducible apply Ev.iter
    | intro _
    | dsimp only
    | split)

theorem execIxReset_ev {m : Nat} {s0 : State} (a0 : Sys2Proof.Arrival) {s : State} (h : Ev m s0 s) (hm : Sub 21637316120525031379493184874 m) :
    EvOut m s0 (execIxReset a0 s) := by
  unfold execIxReset
  repeat' (first
    | with_reducible assumption
    | exact Sub.trans hm rfl
    | with_reducible apply EvOut.next
    | with_reducible apply EvOut.ite
    | with_reducible apply State.ixRow_ev
    | with_reducible apply Ev.ite
    | with_reducible apply Ev.fold
    | with_reducible apply Ev.elim
    | with_reducible apply Ev.getD
    | with_reducible apply Ev.iter
    | intro _
    | dsimp only
    | split)

theorem execIxLinkCtl_ev {m : Nat} {s0 : State} (a0 : Sys2Proof.Arrival) {s : State} (h : Ev m s0 s) (hm : Sub 21637316120525031379493184874 m) :
    EvOut m s0 (execIxLinkCtl a0 s) := by
  unfold execIxLinkCtl
  repeat' (first
    | with_reducible assumption
    | exact Sub.trans hm rfl
    | with_reducible apply EvOut.next
    | with_reducible apply EvOut.ite
    | with_reducible apply State.ixRow_ev
    | with_reducible apply Ev.ite
    | with_reducible apply Ev.fold
    | with_reducible apply Ev.elim
    | with_reducible apply Ev.getD
    | with_reducible apply Ev.iter
    | intro _
    | dsimp only
    | split)

theorem execIxRead_ev {m : Nat} {s0 : State} (a0 : Sys2Proof.Arrival) {s : State} (h : Ev m s0 s) (hm : Sub 21637316120525031379493184874 m) :
    EvOut m s0 (execIxRead a0 s) := by
  unfold execIxRead
  repeat' (first
    | with_reducible assumption
    | exact Sub.trans hm rfl
    | with_reducible apply EvOut.next
    | with_reducible apply EvOut.ite
    | with_reducible apply State.ixRow_ev
    | with_reducible apply Ev.ite
    | with_reducible apply Ev.fold
    | with_reducible apply Ev.elim
    | with_reducible apply Ev.getD
    | with_reducible apply Ev.iter
    | intro _
    | dsimp only
    | split)

theorem execIxWrite_ev {m : Nat} {s0 : State} (a0 : Sys2Proof.Arrival) {s : State} (h : Ev m s0 s) (hm : Sub 21637316120525031379493184874 m) :
    EvOut m s0 (execIxWrite a0 s) := by
  unfold execIxWrite
  repeat' (first
    | with_reducible assumption
    | exact Sub.trans hm rfl
    | with_reducible apply EvOut.next
    | with_reducible apply EvOut.ite
    | with_reducible apply State.ixRow_ev
    | with_reducible apply Ev.ite
    | with_reducible apply Ev.fold
    | with_reducible apply Ev.elim
    | with_reducible apply Ev.getD
    | with_reducible apply Ev.iter
    | intro _
    | dsimp only
    | split)

theorem execIxHopPop_ev {m : Nat} {s0 : State} (a0 : Sys2Proof.Arrival) {s : State} (h : Ev m s0 s) (hm : Sub 21637316120525031379493184874 m) :
    EvOut m s0 (execIxHopPop a0 s) := by
  unfold execIxHopPop
  repeat' (first
    | with_reducible assumption
    | exact Sub.trans hm rfl
    | with_reducible apply EvOut.next
    | with_reducible apply EvOut.ite
    | with_reducible apply State.ixRow_ev
    | with_reducible apply Ev.ite
    | with_reducible apply Ev.fold
    | with_reducible apply Ev.elim
    | with_reducible apply Ev.getD
    | with_reducible apply Ev.iter
    | intro _
    | dsimp only
    | split)

theorem execIxHopPush_ev {m : Nat} {s0 : State} (a0 : Sys2Proof.Arrival) {s : State} (h : Ev m s0 s) (hm : Sub 21637316120525031379493184874 m) :
    EvOut m s0 (execIxHopPush a0 s) := by
  unfold execIxHopPush
  repeat' (first
    | with_reducible assumption
    | exact Sub.trans hm rfl
    | with_reducible apply EvOut.next
    | with_reducible apply EvOut.ite
    | with_reducible apply State.ixRow_ev
    | with_reducible apply Ev.ite
    | with_reducible apply Ev.fold
    | with_reducible apply Ev.elim
    | with_reducible apply Ev.getD
    | with_reducible apply Ev.iter
    | intro _
    | dsimp only
    | split)

theorem execIxHopCmd_ev {m : Nat} {s0 : State} (a0 : Sys2Proof.Arrival) {s : State} (h : Ev m s0 s) (hm : Sub 21637316120525031379493184874 m) :
    EvOut m s0 (execIxHopCmd a0 s) := by
  unfold execIxHopCmd
  repeat' (first
    | with_reducible assumption
    | exact Sub.trans hm rfl
    | with_reducible apply EvOut.next
    | with_reducible apply EvOut.ite
    | with_reducible apply State.ixRow_ev
    | with_reducible apply Ev.ite
    | with_reducible apply Ev.fold
    | with_reducible apply Ev.elim
    | with_reducible apply Ev.getD
    | with_reducible apply Ev.iter
    | intro _
    | dsimp only
    | split)

theorem execIxAttest_ev {m : Nat} {s0 : State} (a0 : Sys2Proof.Arrival) {s : State} (h : Ev m s0 s) (hm : Sub 21637316120525031379493184874 m) :
    EvOut m s0 (execIxAttest a0 s) := by
  unfold execIxAttest
  repeat' (first
    | with_reducible assumption
    | exact Sub.trans hm rfl
    | with_reducible apply EvOut.next
    | with_reducible apply EvOut.ite
    | with_reducible apply State.ixRow_ev
    | with_reducible apply Ev.ite
    | with_reducible apply Ev.fold
    | with_reducible apply Ev.elim
    | with_reducible apply Ev.getD
    | with_reducible apply Ev.iter
    | intro _
    | dsimp only
    | split)

theorem execIxCert_ev {m : Nat} {s0 : State} (a0 : Sys2Proof.Arrival) {s : State} (h : Ev m s0 s) (hm : Sub 21637316120525031379493184874 m) :
    EvOut m s0 (execIxCert a0 s) := by
  unfold execIxCert
  repeat' (first
    | with_reducible assumption
    | exact Sub.trans hm rfl
    | with_reducible apply EvOut.next
    | with_reducible apply EvOut.ite
    | with_reducible apply State.ixRow_ev
    | with_reducible apply Ev.ite
    | with_reducible apply Ev.fold
    | with_reducible apply Ev.elim
    | with_reducible apply Ev.getD
    | with_reducible apply Ev.iter
    | intro _
    | dsimp only
    | split)

theorem execIxKeyStatus_ev {m : Nat} {s0 : State} (a0 : Sys2Proof.Arrival) {s : State} (h : Ev m s0 s) (hm : Sub 21637316120525031379493184874 m) :
    EvOut m s0 (execIxKeyStatus a0 s) := by
  unfold execIxKeyStatus
  repeat' (first
    | with_reducible assumption
    | exact Sub.trans hm rfl
    | with_reducible apply EvOut.next
    | with_reducible apply EvOut.ite
    | with_reducible apply State.ixRow_ev
    | with_reducible apply Ev.ite
    | with_reducible apply Ev.fold
    | with_reducible apply Ev.elim
    | with_reducible apply Ev.getD
    | with_reducible apply Ev.iter
    | intro _
    | dsimp only
    | split)

theorem execIxKeyWrite_ev {m : Nat} {s0 : State} (a0 : Sys2Proof.Arrival) {s : State} (h : Ev m s0 s) (hm : Sub 21637316120525031379493184874 m) :
    EvOut m s0 (execIxKeyWrite a0 s) := by
  unfold execIxKeyWrite
  repeat' (first
    | with_reducible assumption
    | exact Sub.trans hm rfl
    | with_reducible apply EvOut.next
    | with_reducible apply EvOut.ite
    | with_reducible apply State.ixRow_ev
    | with_reducible apply Ev.ite
    | with_reducible apply Ev.fold
    | with_reducible apply Ev.elim
    | with_reducible apply Ev.getD
    | with_reducible apply Ev.iter
    | intro _
    | dsimp only
    | split)

theorem execIxKeyCmd_ev {m : Nat} {s0 : State} (a0 : Sys2Proof.Arrival) {s : State} (h : Ev m s0 s) (hm : Sub 21637316120525031379493184874 m) :
    EvOut m s0 (execIxKeyCmd a0 s) := by
  unfold execIxKeyCmd
  repeat' (first
    | with_reducible assumption
    | exact Sub.trans hm rfl
    | with_reducible apply EvOut.next
    | with_reducible apply EvOut.ite
    | with_reducible apply State.ixRow_ev
    | with_reducible apply Ev.ite
    | with_reducible apply Ev.fold
    | with_reducible apply Ev.elim
    | with_reducible apply Ev.getD
    | with_reducible apply Ev.iter
    | intro _
    | dsimp only
    | split)

theorem execIxSvnRaise_ev {m : Nat} {s0 : State} (a0 : Sys2Proof.Arrival) {s : State} (h : Ev m s0 s) (hm : Sub 21637316120525031379493184874 m) :
    EvOut m s0 (execIxSvnRaise a0 s) := by
  unfold execIxSvnRaise
  repeat' (first
    | with_reducible assumption
    | exact Sub.trans hm rfl
    | with_reducible apply EvOut.next
    | with_reducible apply EvOut.ite
    | with_reducible apply State.ixRow_ev
    | with_reducible apply Ev.ite
    | with_reducible apply Ev.fold
    | with_reducible apply Ev.elim
    | with_reducible apply Ev.getD
    | with_reducible apply Ev.iter
    | intro _
    | dsimp only
    | split)

theorem execIxDropped_ev {m : Nat} {s0 : State} (a0 : Sys2Proof.Arrival) {s : State} (h : Ev m s0 s) (hm : Sub 21637316120525031379493184874 m) :
    EvOut m s0 (execIxDropped a0 s) := by
  unfold execIxDropped
  repeat' (first
    | with_reducible refine State.ixArrival_evq ‹_› ?_ ?_
    | with_reducible assumption
    | exact Sub.trans hm rfl
    | with_reducible apply EvOut.next
    | with_reducible apply EvOut.ite
    | with_reducible apply ok_ev
    | with_reducible apply State.ixSettle_ev
    | with_reducible apply State.ixDrop_ev
    | with_reducible apply Ev.ite
    | with_reducible apply Ev.fold
    | with_reducible apply Ev.elim
    | with_reducible apply Ev.getD
    | with_reducible apply Ev.iter
    | intro _
    | dsimp only
    | split)

theorem execIxBadOpcode_ev {m : Nat} {s0 : State} (a0 : Sys2Proof.Arrival) {s : State} (h : Ev m s0 s) (hm : Sub 21637316120525031379493184874 m) :
    EvOut m s0 (execIxBadOpcode a0 s) := by
  unfold execIxBadOpcode
  repeat' (first
    | with_reducible refine State.ixArrival_evq ‹_› ?_ ?_
    | with_reducible assumption
    | exact Sub.trans hm rfl
    | with_reducible apply EvOut.next
    | with_reducible apply EvOut.ite
    | with_reducible apply ok_ev
    | with_reducible apply State.ixSettle_ev
    | with_reducible apply State.ixTake_ev
    | with_reducible apply Ev.ite
    | with_reducible apply Ev.fold
    | with_reducible apply Ev.elim
    | with_reducible apply Ev.getD
    | with_reducible apply Ev.iter
    | intro _
    | dsimp only
    | split)

theorem execSessionIdleTimeout_ev {m : Nat} {s0 : State} (a0 : BitVec 16) {s : State} (h : Ev m s0 s) (hm : Sub 38685626227668133590597632 m) :
    EvOut m s0 (execSessionIdleTimeout a0 s) := by
  unfold execSessionIdleTimeout
  repeat' (first
    | with_reducible assumption
    | exact Sub.trans hm rfl
    | with_reducible apply EvOut.next
    | with_reducible apply EvOut.ite
    | with_reducible apply ok_ev
    | with_reducible apply State.closeSession_ev
    | with_reducible apply Ev.ite
    | with_reducible apply Ev.fold
    | with_reducible apply Ev.elim
    | with_reducible apply Ev.getD
    | with_reducible apply Ev.iter
    | intro _
    | dsimp only
    | split)

theorem execSequenceGapTimeout_ev {m : Nat} {s0 : State} (a0 : BitVec 16) {s : State} (h : Ev m s0 s) (hm : Sub 38685626227668133590597632 m) :
    EvOut m s0 (execSequenceGapTimeout a0 s) := by
  unfold execSequenceGapTimeout
  repeat' (first
    | with_reducible assumption
    | exact Sub.trans hm rfl
    | with_reducible apply EvOut.next
    | with_reducible apply EvOut.ite
    | with_reducible apply ok_ev
    | with_reducible apply State.setSession_ev
    | with_reducible apply Ev.ite
    | with_reducible apply Ev.fold
    | with_reducible apply Ev.elim
    | with_reducible apply Ev.getD
    | with_reducible apply Ev.iter
    | intro _
    | dsimp only
    | split)

theorem execRelayTimeout_ev {m : Nat} {s0 : State} (a0 : BitVec 16) {s : State} (h : Ev m s0 s) (hm : Sub 21637316120525031379493184874 m) :
    EvOut m s0 (execRelayTimeout a0 s) := by
  unfold execRelayTimeout
  repeat' (first
    | with_reducible assumption
    | exact Sub.trans hm rfl
    | with_reducible apply EvOut.next
    | with_reducible apply EvOut.ite
    | with_reducible apply ok_ev
    | with_reducible apply State.ixSettle_ev
    | with_reducible apply State.ixReply_ev
    | with_reducible apply Ev.ite
    | with_reducible apply Ev.fold
    | with_reducible apply Ev.elim
    | with_reducible apply Ev.getD
    | with_reducible apply Ev.iter
    | intro _
    | dsimp only
    | split)

theorem execWaitLockDone_ev {m : Nat} {s0 : State} (a0 : BitVec 16) {s : State} (h : Ev m s0 s) (hm : Sub 21637316120525031379493184874 m) :
    EvOut m s0 (execWaitLockDone a0 s) := by
  unfold execWaitLockDone
  repeat' (first
    | with_reducible assumption
    | exact Sub.trans hm rfl
    | with_reducible apply EvOut.next
    | with_reducible apply EvOut.ite
    | with_reducible apply ok_ev
    | with_reducible apply State.ixSettle_ev
    | with_reducible apply State.ixReply_ev
    | with_reducible apply Ev.ite
    | with_reducible apply Ev.fold
    | with_reducible apply Ev.elim
    | with_reducible apply Ev.getD
    | with_reducible apply Ev.iter
    | intro _
    | dsimp only
    | split)

theorem execWaitLockLimit_ev {m : Nat} {s0 : State} (a0 : BitVec 16) {s : State} (h : Ev m s0 s) (hm : Sub 21637316120525031379493184874 m) :
    EvOut m s0 (execWaitLockLimit a0 s) := by
  unfold execWaitLockLimit
  repeat' (first
    | with_reducible assumption
    | exact Sub.trans hm rfl
    | with_reducible apply EvOut.next
    | with_reducible apply EvOut.ite
    | with_reducible apply ok_ev
    | with_reducible apply State.ixSettle_ev
    | with_reducible apply State.ixReply_ev
    | with_reducible apply Ev.ite
    | with_reducible apply Ev.fold
    | with_reducible apply Ev.elim
    | with_reducible apply Ev.getD
    | with_reducible apply Ev.iter
    | intro _
    | dsimp only
    | split)

theorem execResetDelayExpiry_ev {m : Nat} {s0 : State} {s : State} (h : Ev m s0 s) (hm : Sub 10774952692880316136634766589934 m) :
    EvOut m s0 (execResetDelayExpiry s) := by
  unfold execResetDelayExpiry
  repeat' (first
    | with_reducible assumption
    | exact Sub.trans hm rfl
    | with_reducible apply EvOut.next
    | with_reducible apply EvOut.ite
    | with_reducible apply ok_ev
    | with_reducible apply State.complexReset_ev
    | with_reducible apply State.packageReset_ev
    | with_reducible apply Ev.ite
    | with_reducible apply Ev.fold
    | with_reducible apply Ev.elim
    | with_reducible apply Ev.getD
    | with_reducible apply Ev.iter
    | intro _
    | dsimp only
    | split
    | with_reducible apply Ev.set_ix)

theorem State.flashPut_ev {m : Nat} {s0 : State} {s : State} (a1 : Nat) (a2 : List Sys2Proof.Byte) (h : Ev m s0 s) (hm : Sub 309485009821908018678202368 m) :
    Ev m s0 (State.flashPut s a1 a2) := by
  unfold State.flashPut
  repeat' (first
    | with_reducible assumption
    | exact Sub.trans hm rfl
    | with_reducible apply Ev.ite
    | with_reducible apply Ev.fold
    | with_reducible apply Ev.elim
    | with_reducible apply Ev.getD
    | with_reducible apply Ev.iter
    | (intro c; first | with_reducible exact Store.wf_nil _ | with_reducible exact rfl | with_reducible exact Store.wf_put _ _ _ c | with_reducible exact Store.wf_putBytes _ _ c | with_reducible exact Store.wf_keep _ _ c | with_reducible exact Store.wf_mapVals _ _ (Store.wf_iff.1 c).1 | with_reducible exact Store.rising_filter _ c | with_reducible exact Store.rising_put _ _ _ c | with_reducible exact Store.wf_filter _ _ c | with_reducible exact Store.wf_copyRange _ _ c _ | with_reducible exact Store.wf_dup _ _ _ _ c | with_reducible exact c | exact Store.wf_filter _ _ c | exact Store.wf_filter _ _ (Store.wf_filter _ _ c) | exact Store.rising_filter _ c | exact Store.rising_filter _ (Store.rising_filter _ c) | exact Store.wf_put _ _ _ c)
    | with_reducible exact Nat.le_succ _
    | with_reducible exact Nat.le_refl _
    | with_reducible exact Nat.le_add_right _ _
    | with_reducible exact Nat.le_max_left _ _
    | intro _
    | dsimp only
    | split
    | with_reducible apply Ev.set_flash_epoch)

theorem State.setJobs_ev {m : Nat} {s0 : State} {s : State} (a1 : List Sys2Proof.Machine.FlashJob) (h : Ev m s0 s) (hm : Sub 38685626227668133590597632 m) :
    Ev m s0 (State.setJobs s a1) := by
  unfold State.setJobs
  repeat' (first
    | with_reducible assumption
    | exact Sub.trans hm rfl
    | with_reducible apply Ev.ite
    | with_reducible apply Ev.fold
    | with_reducible apply Ev.elim
    | with_reducible apply Ev.getD
    | with_reducible apply Ev.iter
    | intro _
    | dsimp only
    | split
    | with_reducible apply Ev.set_ix)

theorem State.flashDone_ev {m : Nat} {s0 : State} {s : State} (a1 : Bool) (h : Ev m s0 s) (hm : Sub 10775030064151794677727960760302 m) :
    Ev m s0 (State.flashDone s a1) := by
  unfold State.flashDone
  repeat' (first
    | with_reducible assumption
    | exact Sub.trans hm rfl
    | with_reducible apply State.setJobs_ev
    | with_reducible apply State.flashPut_ev
    | with_reducible apply State.ixReply_ev
    | with_reducible apply State.ixReplyRegs_ev
    | with_reducible apply State.packageReset_ev
    | with_reducible apply State.ixSettle_ev
    | with_reducible apply Ev.ite
    | with_reducible apply Ev.fold
    | with_reducible apply Ev.elim
    | with_reducible apply Ev.getD
    | with_reducible apply Ev.iter
    | intro _
    | dsimp only
    | split)

theorem execFlashProgramComplete_ev {m : Nat} {s0 : State} (a0 : Bool) {s : State} (h : Ev m s0 s) (hm : Sub 10775030064151794677727960760302 m) :
    EvOut m s0 (execFlashProgramComplete a0 s) := by
  unfold execFlashProgramComplete
  repeat' (first
    | with_reducible assumption
    | exact Sub.trans hm rfl
    | with_reducible apply EvOut.next
    | with_reducible apply EvOut.ite
    | with_reducible apply ok_ev
    | with_reducible apply State.flashDone_ev
    | with_reducible apply Ev.ite
    | with_reducible apply Ev.fold
    | with_reducible apply Ev.elim
    | with_reducible apply Ev.getD
    | with_reducible apply Ev.iter
    | intro _
    | dsimp only
    | split)

theorem State.signNext_ev {m : Nat} {s0 : State} {s : State} (h : Ev m s0 s) (hm : Sub 38685626227668133590597632 m) :
    Ev m s0 (State.signNext s) := by
  unfold State.signNext
  repeat' (first
    | with_reducible assumption
    | exact Sub.trans hm rfl
    | with_reducible apply Ev.ite
    | with_reducible apply Ev.fold
    | with_reducible apply Ev.elim
    | with_reducible apply Ev.getD
    | with_reducible apply Ev.iter
    | intro _
    | dsimp only
    | split
    | with_reducible apply Ev.set_ix)

theorem State.takeSigned_ev {m : Nat} {s0 : State} {s : State} (h : Ev m s0 s) (hm : Sub 295147905179352825856 m) :
    Ev m s0 (State.takeSigned s) := by
  unfold State.takeSigned
  repeat' (first
    | with_reducible assumption
    | exact Sub.trans hm rfl
    | with_reducible apply Ev.ite
    | with_reducible apply Ev.fold
    | with_reducible apply Ev.elim
    | with_reducible apply Ev.getD
    | with_reducible apply Ev.iter
    | intro _
    | dsimp only
    | split
    | with_reducible apply Ev.set_signed)

theorem State.signEnd_ev {m : Nat} {s0 : State} {s : State} (h : Ev m s0 s) (hm : Sub 116057321404876463485747208 m) :
    Ev m s0 (State.signEnd s) := by
  unfold State.signEnd
  repeat' (first
    | with_reducible assumption
    | exact Sub.trans hm rfl
    | with_reducible apply State.signDone_ev
    | with_reducible apply State.signNext_ev
    | with_reducible apply State.ixReply_ev
    | with_reducible apply State.takeSigned_ev
    | with_reducible apply Ev.ite
    | with_reducible apply Ev.fold
    | with_reducible apply Ev.elim
    | with_reducible apply Ev.getD
    | with_reducible apply Ev.iter
    | intro _
    | dsimp only
    | split)

theorem execNotarySignComplete_ev {m : Nat} {s0 : State} {s : State} (h : Ev m s0 s) (hm : Sub 21637316415672936558846010730 m) :
    EvOut m s0 (execNotarySignComplete s) := by
  unfold execNotarySignComplete
  repeat' (first
    | with_reducible assumption
    | exact Sub.trans hm rfl
    | with_reducible apply EvOut.next
    | with_reducible apply EvOut.ite
    | with_reducible apply ok_ev
    | with_reducible apply State.ixSettle_ev
    | with_reducible apply State.signEnd_ev
    | with_reducible apply Ev.ite
    | with_reducible apply Ev.fold
    | with_reducible apply Ev.elim
    | with_reducible apply Ev.getD
    | with_reducible apply Ev.iter
    | intro _
    | dsimp only
    | split)

theorem State.ixAnswer_ev {m : Nat} {s0 : State} {s : State} (a1 : Nat) (a2 : Sys2Proof.Machine.Answer) (h : Ev m s0 s) (hm : Sub 117878531553856028908978186 m) :
    Ev m s0 (State.ixAnswer s a1 a2) := by
  unfold State.ixAnswer
  repeat' (first
    | with_reducible assumption
    | exact Sub.trans hm rfl
    | with_reducible apply State.ixGoOn_ev
    | with_reducible apply Ev.ite
    | with_reducible apply Ev.fold
    | with_reducible apply Ev.elim
    | with_reducible apply Ev.getD
    | with_reducible apply Ev.iter
    | intro _
    | dsimp only
    | split)

theorem State.writeDone_ev {m : Nat} {s0 : State} {s : State} (a1 : Nat) (a2 : Bool) (h : Ev m s0 s) (hm : Sub 38685626227668133590597632 m) :
    Ev m s0 (State.writeDone s a1 a2) := by
  unfold State.writeDone
  repeat' (first
    | with_reducible assumption
    | exact Sub.trans hm rfl
    | with_reducible apply Ev.ite
    | with_reducible apply Ev.fold
    | with_reducible apply Ev.elim
    | with_reducible apply Ev.getD
    | with_reducible apply Ev.iter
    | intro _
    | dsimp only
    | split
    | with_reducible apply Ev.set_ix)

theorem State.dbgAnswer_ev {m : Nat} {s0 : State} {s : State} (a1 : Nat) (a2 : Sys2Proof.Machine.Answer) (h : Ev m s0 s) (hm : Sub 297105609428491265975789813760 m) :
    Ev m s0 (State.dbgAnswer s a1 a2) := by
  unfold State.dbgAnswer
  repeat' (first
    | with_reducible assumption
    | exact Sub.trans hm rfl
    | with_reducible apply Ev.ite
    | with_reducible apply Ev.fold
    | with_reducible apply Ev.elim
    | with_reducible apply Ev.getD
    | with_reducible apply Ev.iter
    | intro _
    | dsimp only
    | split
    | with_reducible apply Ev.set_dbgAcc_dbgStatus_dbgP_dbgData
    | with_reducible apply Ev.set_dbgAcc_dbgStatus)

theorem settled_ev {m : Nat} {s0 : State} {o : Out} (h : EvOut m s0 o) (hm : Sub 21637316120525031379493184874 m) : EvOut m s0 (settled o) := by
  obtain ⟨t, rfl, h⟩ := h
  exact EvOut.next (State.ixSettle_ev h hm)

theorem execAccessReply_ev {m : Nat} {s0 : State} (a0 : Nat) {s : State} (h : Ev m s0 s) (hm : Sub 298935884920450212956897011066 m) :
    EvOut m s0 (execAccessReply a0 s) := by
  unfold execAccessReply
  repeat' (first
    | with_reducible apply settled_ev
    | with_reducible assumption
    | exact Sub.trans hm rfl
    | with_reducible apply EvOut.next
    | with_reducible apply EvOut.ite
    | with_reducible apply ok_ev
    | with_reducible apply State.dropFlight_ev
    | with_reducible apply State.fstat_ev
    | with_reducible apply State.ixSettle_ev
    | with_reducible apply State.ixAnswer_ev
    | with_reducible apply State.dbgAnswer_ev
    | with_reducible apply settled_ev
    | with_reducible apply accessReply_ev
    | with_reducible apply Ev.ite
    | with_reducible apply Ev.fold
    | with_reducible apply Ev.elim
    | with_reducible apply Ev.getD
    | with_reducible apply Ev.iter
    | intro _
    | dsimp only
    | split
    | with_reducible apply Ev.set_rdata)

theorem execAccessCompletionReport_ev {m : Nat} {s0 : State} (a0 : Nat) {s : State} (h : Ev m s0 s) (hm : Sub 298935884920450212956897011050 m) :
    EvOut m s0 (execAccessCompletionReport a0 s) := by
  unfold execAccessCompletionReport
  repeat' (first
    | with_reducible assumption
    | exact Sub.trans hm rfl
    | with_reducible apply EvOut.next
    | with_reducible apply EvOut.ite
    | with_reducible apply ok_ev
    | with_reducible apply State.ixSettle_ev
    | with_reducible apply State.ixAnswer_ev
    | with_reducible apply State.writeDone_ev
    | with_reducible apply State.dropFlight_ev
    | with_reducible apply State.dbgAnswer_ev
    | with_reducible apply State.completionReport_ev
    | with_reducible apply Ev.ite
    | with_reducible apply Ev.fold
    | with_reducible apply Ev.elim
    | with_reducible apply Ev.getD
    | with_reducible apply Ev.iter
    | intro _
    | dsimp only
    | split)

theorem execFtmo_ev {m : Nat} {s0 : State} (a0 : Fin 4) {s : State} (h : Ev m s0 s) (hm : Sub 21637316120525031379493184890 m) :
    EvOut m s0 (execFtmo a0 s) := by
  unfold execFtmo
  repeat' (first
    | with_reducible assumption
    | exact Sub.trans hm rfl
    | with_reducible apply EvOut.next
    | with_reducible apply EvOut.ite
    | with_reducible apply ok_ev
    | with_reducible apply State.ixSettle_ev
    | with_reducible apply State.loadTimeout_ev
    | with_reducible apply State.ixAnswer_ev
    | with_reducible apply State.fstat_ev
    | with_reducible apply Ev.ite
    | with_reducible apply Ev.fold
    | with_reducible apply Ev.elim
    | with_reducible apply Ev.getD
    | with_reducible apply Ev.iter
    | intro _
    | dsimp only
    | split)

end Machine

end Sys2Proof
end

