-- ==== Sys2Proof/Laws/EvLoadRows.lean ====
section
/-! SUPPORT. What each operation of Machine/LoadRows.lean can change, and that it keeps what no command may break (Laws/Evolve.lean). -/

set_option linter.unusedTactic false
set_option linter.unreachableTactic false
set_option linter.unusedVariables false

namespace Sys2Proof

open Machine

namespace Machine

theorem execRegisterWrite_ev {m : Nat} {s0 : State} (a0 : Sys2Proof.RegAccess) (a1 : BitVec 64) {s : State} (h : Ev m s0 s) (hm : Sub 21637316120525031379493184874 m) :
    EvOut m s0 (execRegisterWrite a0 a1 s) := by
  unfold execRegisterWrite
  repeat' (first
    | with_reducible assumption
    | exact Sub.trans hm rfl
    | with_reducible apply EvOut.next
    | with_reducible apply EvOut.ite
    | with_reducible apply ok_ev
    | with_reducible apply State.ixSettle_ev
    | with_reducible apply State.registerWrite_ev
    | with_reducible apply Ev.ite
    | with_reducible apply Ev.fold
    | with_reducible apply Ev.elim
    | with_reducible apply Ev.getD
    | with_reducible apply Ev.iter
    | intro _
    | dsimp only
    | split)

theorem execFullLoad_ev {m : Nat} {s0 : State} (a0 : Sys2Proof.Source) {s : State} (h : Ev m s0 s) (hm : Sub 21637316120525031379493184874 m) :
    EvOut m s0 (execFullLoad a0 s) := by
  unfold execFullLoad
  repeat' (first
    | with_reducible assumption
    | exact Sub.trans hm rfl
    | with_reducible apply EvOut.next
    | with_reducible apply EvOut.ite
    | with_reducible apply ok_ev
    | with_reducible apply State.ixSettle_ev
    | with_reducible apply State.fullLoad_ev
    | with_reducible apply Ev.ite
    | with_reducible apply Ev.fold
    | with_reducible apply Ev.elim
    | with_reducible apply Ev.getD
    | with_reducible apply Ev.iter
    | intro _
    | dsimp only
    | split)

theorem execPartialLoad_ev {m : Nat} {s0 : State} (a0 : Fin 32) (a1 : Sys2Proof.Source) {s : State} (h : Ev m s0 s) (hm : Sub 21637316120525031379493184874 m) :
    EvOut m s0 (execPartialLoad a0 a1 s) := by
  unfold execPartialLoad
  repeat' (first
    | with_reducible assumption
    | exact Sub.trans hm rfl
    | with_reducible apply EvOut.next
    | with_reducible apply EvOut.ite
    | with_reducible apply ok_ev
    | with_reducible apply State.ixSettle_ev
    | with_reducible apply State.partialLoad_ev
    | with_reducible apply Ev.ite
    | with_reducible apply Ev.fold
    | with_reducible apply Ev.elim
    | with_reducible apply Ev.getD
    | with_reducible apply Ev.iter
    | intro _
    | dsimp only
    | split)

theorem execStagingComplete_ev {m : Nat} {s0 : State} {s : State} (h : Ev m s0 s) (hm : Sub 21637316120543045778002666858 m) :
    EvOut m s0 (execStagingComplete s) := by
  unfold execStagingComplete
  repeat' (first
    | with_reducible assumption
    | exact Sub.trans hm rfl
    | with_reducible apply EvOut.next
    | with_reducible apply EvOut.ite
    | with_reducible apply ok_ev
    | with_reducible apply State.ixSettle_ev
    | with_reducible apply State.stageDone_ev
    | with_reducible apply Ev.ite
    | with_reducible apply Ev.fold
    | with_reducible apply Ev.elim
    | with_reducible apply Ev.getD
    | with_reducible apply Ev.iter
    | intro _
    | dsimp only
    | split)

theorem execFrameWrite_ev {m : Nat} {s0 : State} (a0 : Sys2Proof.Verify) {s : State} (h : Ev m s0 s) (hm : Sub 22256286140167721516942746986 m) :
    EvOut m s0 (execFrameWrite a0 s) := by
  unfold execFrameWrite
  repeat' (first
    | with_reducible assumption
    | exact Sub.trans hm rfl
    | with_reducible apply EvOut.next
    | with_reducible apply EvOut.ite
    | with_reducible apply ok_ev
    | with_reducible apply State.ixSettle_ev
    | with_reducible apply State.frameWrite_ev
    | with_reducible apply Ev.ite
    | with_reducible apply Ev.fold
    | with_reducible apply Ev.elim
    | with_reducible apply Ev.getD
    | with_reducible apply Ev.iter
    | intro _
    | dsimp only
    | split)

theorem execMemoryInitComplete_ev {m : Nat} {s0 : State} {s : State} (h : Ev m s0 s) (hm : Sub 21637316120525031379493184874 m) :
    EvOut m s0 (execMemoryInitComplete s) := by
  unfold execMemoryInitComplete
  repeat' (first
    | with_reducible assumption
    | exact Sub.trans hm rfl
    | with_reducible apply EvOut.next
    | with_reducible apply EvOut.ite
    | with_reducible apply ok_ev
    | with_reducible apply State.ixSettle_ev
    | with_reducible apply State.memoryInit_ev
    | with_reducible apply Ev.ite
    | with_reducible apply Ev.fold
    | with_reducible apply Ev.elim
    | with_reducible apply Ev.getD
    | with_reducible apply Ev.iter
    | intro _
    | dsimp only
    | split)

theorem execStartUpSequence_ev {m : Nat} {s0 : State} {s : State} (h : Ev m s0 s) (hm : Sub 21637316120849290552663860586 m) :
    EvOut m s0 (execStartUpSequence s) := by
  unfold execStartUpSequence
  repeat' (first
    | with_reducible assumption
    | exact Sub.trans hm rfl
    | with_reducible apply EvOut.next
    | with_reducible apply EvOut.ite
    | with_reducible apply ok_ev
    | with_reducible apply State.ixSettle_ev
    | with_reducible apply State.startUp_ev
    | with_reducible apply Ev.ite
    | with_reducible apply Ev.fold
    | with_reducible apply Ev.elim
    | with_reducible apply Ev.getD
    | with_reducible apply Ev.iter
    | intro _
    | dsimp only
    | split)

theorem execStartupWaitLock_ev {m : Nat} {s0 : State} {s : State} (h : Ev m s0 s) (hm : Sub 21637316120849290552663860586 m) :
    EvOut m s0 (execStartupWaitLock s) := by
  unfold execStartupWaitLock
  repeat' (first
    | with_reducible assumption
    | exact Sub.trans hm rfl
    | with_reducible apply EvOut.next
    | with_reducible apply EvOut.ite
    | with_reducible apply ok_ev
    | with_reducible apply State.ixSettle_ev
    | with_reducible apply State.startUp_ev
    | with_reducible apply Ev.ite
    | with_reducible apply Ev.fold
    | with_reducible apply Ev.elim
    | with_reducible apply Ev.getD
    | with_reducible apply Ev.iter
    | intro _
    | dsimp only
    | split)

theorem execStartupTimeout_ev {m : Nat} {s0 : State} {s : State} (h : Ev m s0 s) (hm : Sub 21637316120525031379493184874 m) :
    EvOut m s0 (execStartupTimeout s) := by
  unfold execStartupTimeout
  repeat' (first
    | with_reducible assumption
    | exact Sub.trans hm rfl
    | with_reducible apply EvOut.next
    | with_reducible apply EvOut.ite
    | with_reducible apply ok_ev
    | with_reducible apply State.ixSettle_ev
    | with_reducible apply State.startTimeout_ev
    | with_reducible apply Ev.ite
    | with_reducible apply Ev.fold
    | with_reducible apply Ev.elim
    | with_reducible apply Ev.getD
    | with_reducible apply Ev.iter
    | intro _
    | dsimp only
    | split)

theorem execCmpAbort_ev {m : Nat} {s0 : State} (a0 : Sys2Proof.Issuer) {s : State} (h : Ev m s0 s) (hm : Sub 21637316120525031379493184874 m) :
    EvOut m s0 (execCmpAbort a0 s) := by
  unfold execCmpAbort
  repeat' (first
    | with_reducible assumption
    | exact Sub.trans hm rfl
    | with_reducible apply EvOut.next
    | with_reducible apply EvOut.ite
    | with_reducible apply ok_ev
    | with_reducible apply State.ixSettle_ev
    | with_reducible apply State.guarded_ev
    | with_reducible apply State.loadAbort_ev
    | with_reducible apply Ev.ite
    | with_reducible apply Ev.fold
    | with_reducible apply Ev.elim
    | with_reducible apply Ev.getD
    | with_reducible apply Ev.iter
    | intro _
    | dsimp only
    | split)

theorem execSliceComplete_ev {m : Nat} {s0 : State} (a0 : Fin 8) (a1 : Fin 1024) (a2 : Sys2Proof.Word) {s : State} (h : Ev m s0 s) (hm : Sub 21637316120525031379493184874 m) :
    EvOut m s0 (execSliceComplete a0 a1 a2 s) := by
  unfold execSliceComplete
  repeat' (first
    | with_reducible assumption
    | exact Sub.trans hm rfl
    | with_reducible apply EvOut.next
    | with_reducible apply EvOut.ite
    | with_reducible apply ok_ev
    | with_reducible apply State.ixSettle_ev
    | with_reducible apply State.sliceEnd_ev
    | with_reducible apply Ev.ite
    | with_reducible apply Ev.fold
    | with_reducible apply Ev.elim
    | with_reducible apply Ev.getD
    | with_reducible apply Ev.iter
    | intro _
    | dsimp only
    | split)

theorem execSliceBudgetExceeded_ev {m : Nat} {s0 : State} (a0 : Fin 8) (a1 : Fin 1024) (a2 : Sys2Proof.Word) {s : State} (h : Ev m s0 s) (hm : Sub 21637316120525031379493184874 m) :
    EvOut m s0 (execSliceBudgetExceeded a0 a1 a2 s) := by
  unfold execSliceBudgetExceeded
  repeat' (first
    | with_reducible assumption
    | exact Sub.trans hm rfl
    | with_reducible apply EvOut.next
    | with_reducible apply EvOut.ite
    | with_reducible apply ok_ev
    | with_reducible apply State.ixSettle_ev
    | with_reducible apply State.sliceEnd_ev
    | with_reducible apply Ev.ite
    | with_reducible apply Ev.fold
    | with_reducible apply Ev.elim
    | with_reducible apply Ev.getD
    | with_reducible apply Ev.iter
    | intro _
    | dsimp only
    | split)

theorem execSynchronisationHold_ev {m : Nat} {s0 : State} (a0 : Fin 32) {s : State} (h : Ev m s0 s) (hm : Sub 21637316120525031379493184874 m) :
    EvOut m s0 (execSynchronisationHold a0 s) := by
  unfold execSynchronisationHold
  repeat' (first
    | with_reducible apply settled_ev
    | with_reducible assumption
    | exact Sub.trans hm rfl
    | with_reducible apply EvOut.next
    | with_reducible apply EvOut.ite
    | with_reducible apply settled_ev
    | with_reducible apply syncHold_ev
    | with_reducible apply Ev.ite
    | with_reducible apply Ev.fold
    | with_reducible apply Ev.elim
    | with_reducible apply Ev.getD
    | with_reducible apply Ev.iter
    | intro _
    | dsimp only
    | split)

theorem execUnpairedSwap_ev {m : Nat} {s0 : State} (a0 : Fin 32) {s : State} (h : Ev m s0 s) (hm : Sub 21637316120525031379493184874 m) :
    EvOut m s0 (execUnpairedSwap a0 s) := by
  unfold execUnpairedSwap
  repeat' (first
    | with_reducible apply settled_ev
    | with_reducible assumption
    | exact Sub.trans hm rfl
    | with_reducible apply EvOut.next
    | with_reducible apply EvOut.ite
    | with_reducible apply settled_ev
    | with_reducible apply unpairedSwap_ev
    | with_reducible apply Ev.ite
    | with_reducible apply Ev.fold
    | with_reducible apply Ev.elim
    | with_reducible apply Ev.getD
    | with_reducible apply Ev.iter
    | intro _
    | dsimp only
    | split)

theorem execEfuseProgramComplete_ev {m : Nat} {s0 : State} {s : State} (h : Ev m s0 s) (hm : Sub 21637316120525031379493184874 m) :
    EvOut m s0 (execEfuseProgramComplete s) := by
  unfold execEfuseProgramComplete
  repeat' (first
    | with_reducible assumption
    | exact Sub.trans hm rfl
    | with_reducible apply EvOut.next
    | with_reducible apply EvOut.ite
    | with_reducible apply ok_ev
    | with_reducible apply State.ixSettle_ev
    | with_reducible apply State.efuseDone_ev
    | with_reducible apply Ev.ite
    | with_reducible apply Ev.fold
    | with_reducible apply Ev.elim
    | with_reducible apply Ev.getD
    | with_reducible apply Ev.iter
    | intro _
    | dsimp only
    | split)

theorem execTamper_ev {m : Nat} {s0 : State} {s : State} (h : Ev m s0 s) (hm : Sub 21637316120525031379493184874 m) :
    EvOut m s0 (execTamper s) := by
  unfold execTamper
  repeat' (first
    | with_reducible assumption
    | exact Sub.trans hm rfl
    | with_reducible apply EvOut.next
    | with_reducible apply EvOut.ite
    | with_reducible apply ok_ev
    | with_reducible apply State.ixSettle_ev
    | with_reducible apply State.tamperErase_ev
    | with_reducible apply Ev.ite
    | with_reducible apply Ev.fold
    | with_reducible apply Ev.elim
    | with_reducible apply Ev.getD
    | with_reducible apply Ev.iter
    | intro _
    | dsimp only
    | split)

theorem execDomainRequest_ev {m : Nat} {s0 : State} (a0 : Sys2Proof.Issuer) (a1 : Fin 748) (a2 : Sys2Proof.Word) {s : State} (h : Ev m s0 s) (hm : Sub 21637316120525031379493184874 m) :
    EvOut m s0 (execDomainRequest a0 a1 a2 s) := by
  unfold execDomainRequest
  repeat' (first
    | with_reducible assumption
    | exact Sub.trans hm rfl
    | with_reducible apply EvOut.next
    | with_reducible apply EvOut.ite
    | with_reducible apply ok_ev
    | with_reducible apply State.ixSettle_ev
    | with_reducible apply State.guarded_ev
    | with_reducible apply State.domWrite_ev
    | with_reducible apply Ev.ite
    | with_reducible apply Ev.fold
    | with_reducible apply Ev.elim
    | with_reducible apply Ev.getD
    | with_reducible apply Ev.iter
    | intro _
    | dsimp only
    | split)

theorem execDomainChangeComplete_ev {m : Nat} {s0 : State} (a0 : Fin 748) {s : State} (h : Ev m s0 s) (hm : Sub 21637316120525031379493184874 m) :
    EvOut m s0 (execDomainChangeComplete a0 s) := by
  unfold execDomainChangeComplete
  repeat' (first
    | with_reducible assumption
    | exact Sub.trans hm rfl
    | with_reducible apply EvOut.next
    | with_reducible apply EvOut.ite
    | with_reducible apply ok_ev
    | with_reducible apply State.ixSettle_ev
    | with_reducible apply State.domDone_ev
    | with_reducible apply Ev.ite
    | with_reducible apply Ev.fold
    | with_reducible apply Ev.elim
    | with_reducible apply Ev.getD
    | with_reducible apply Ev.iter
    | intro _
    | dsimp only
    | split)

theorem execMgmtMessage_ev {m : Nat} {s0 : State} (a0 : Fin 32) {s : State} (h : Ev m s0 s) (hm : Sub 21637316120525033578516440426 m) :
    EvOut m s0 (execMgmtMessage a0 s) := by
  unfold execMgmtMessage
  repeat' (first
    | with_reducible assumption
    | exact Sub.trans hm rfl
    | with_reducible apply EvOut.next
    | with_reducible apply EvOut.ite
    | with_reducible apply ok_ev
    | with_reducible apply State.ixSettle_ev
    | with_reducible apply State.deliverFront_ev
    | with_reducible apply Ev.ite
    | with_reducible apply Ev.fold
    | with_reducible apply Ev.elim
    | with_reducible apply Ev.getD
    | with_reducible apply Ev.iter
    | intro _
    | dsimp only
    | split)

theorem execForwarding_ev {m : Nat} {s0 : State} (a0 : Sys2Proof.Forward) {s : State} (h : Ev m s0 s) (hm : Sub 21637316120525033578516440426 m) :
    EvOut m s0 (execForwarding a0 s) := by
  unfold execForwarding
  repeat' (first
    | with_reducible assumption
    | exact Sub.trans hm rfl
    | with_reducible apply EvOut.next
    | with_reducible apply EvOut.ite
    | with_reducible apply ok_ev
    | with_reducible apply State.ixSettle_ev
    | with_reducible apply State.forwardFront_ev
    | with_reducible apply State.forwardFlight_ev
    | with_reducible apply Ev.ite
    | with_reducible apply Ev.fold
    | with_reducible apply Ev.elim
    | with_reducible apply Ev.getD
    | with_reducible apply Ev.iter
    | intro _
    | dsimp only
    | split)

theorem execResume_ev {m : Nat} {s0 : State} (a0 : Sys2Proof.Issuer) (a1 : Fin 4) {s : State} (h : Ev m s0 s) (hm : Sub 21637316120525031379493184874 m) :
    EvOut m s0 (execResume a0 a1 s) := by
  unfold execResume
  repeat' (first
    | with_reducible assumption
    | exact Sub.trans hm rfl
    | with_reducible apply EvOut.next
    | with_reducible apply EvOut.ite
    | with_reducible apply ok_ev
    | with_reducible apply State.ixSettle_ev
    | with_reducible apply State.debugOnly_ev
    | with_reducible apply State.resume_ev
    | with_reducible apply Ev.ite
    | with_reducible apply Ev.fold
    | with_reducible apply Ev.elim
    | with_reducible apply Ev.getD
    | with_reducible apply Ev.iter
    | intro _
    | dsimp only
    | split)

theorem execDetach_ev {m : Nat} {s0 : State} (a0 : Sys2Proof.Issuer) {s : State} (h : Ev m s0 s) (hm : Sub 21637316120525031379493184874 m) :
    EvOut m s0 (execDetach a0 s) := by
  unfold execDetach
  repeat' (first
    | with_reducible assumption
    | exact Sub.trans hm rfl
    | with_reducible apply EvOut.next
    | with_reducible apply EvOut.ite
    | with_reducible apply ok_ev
    | with_reducible apply State.ixSettle_ev
    | with_reducible apply State.debugOnly_ev
    | with_reducible apply State.detach_ev
    | with_reducible apply Ev.ite
    | with_reducible apply Ev.fold
    | with_reducible apply Ev.elim
    | with_reducible apply Ev.getD
    | with_reducible apply Ev.iter
    | intro _
    | dsimp only
    | split)

end Machine

end Sys2Proof
end

