-- ==== Sys2Proof/Laws/EvBoot.lean ====
section
/-! SUPPORT. What each operation of Machine/Boot.lean can change, and that it keeps what no command may break (Laws/Evolve.lean). -/

set_option linter.unusedTactic false
set_option linter.unreachableTactic false
set_option linter.unusedVariables false

namespace Sys2Proof

open Machine

namespace Machine

theorem State.applyStraps_ev {m : Nat} {s0 : State} {s : State} (h : Ev m s0 s) (hm : Sub 464245223606339083622670344 m) :
    Ev m s0 (State.applyStraps s) := by
  unfold State.applyStraps
  repeat' (first
    | with_reducible assumption
    | exact Sub.trans hm rfl
    | with_reducible apply Ev.each
    | with_reducible apply State.rsetf_ev
    | with_reducible apply Ev.rput
    | with_reducible apply State.domApply_ev
    | with_reducible apply Ev.ite
    | with_reducible apply Ev.fold
    | with_reducible apply Ev.elim
    | with_reducible apply Ev.getD
    | with_reducible apply Ev.iter
    | intro _
    | dsimp only
    | split)

theorem State.keyCheck_ev {m : Nat} {s0 : State} {s : State} (h : Ev m s0 s) (hm : Sub 2535301200461646949764137222152 m) :
    Ev m s0 (State.keyCheck s) := by
  unfold State.keyCheck
  repeat' (first
    | (intro _ he; exact absurd he ‹_›)
    | with_reducible assumption
    | exact Sub.trans hm rfl
    | with_reducible apply Ev.each
    | with_reducible apply Ev.setKslot
    | with_reducible apply State.sticky_ev
    | with_reducible apply Ev.ite
    | with_reducible apply Ev.fold
    | with_reducible apply Ev.elim
    | with_reducible apply Ev.getD
    | with_reducible apply Ev.iter
    | intro _
    | dsimp only
    | split
    | with_reducible apply Ev.set_cutSlots_bbGone)

theorem State.restoreFaults_ev {m : Nat} {s0 : State} {s : State} (h : Ev m s0 s) (hm : Sub 464245223606339083622670344 m) :
    Ev m s0 (State.restoreFaults s) := by
  unfold State.restoreFaults
  repeat' (first
    | with_reducible assumption
    | exact Sub.trans hm rfl
    | with_reducible apply Ev.each
    | with_reducible apply Ev.rput
    | with_reducible apply State.domApply_ev
    | with_reducible apply Ev.ite
    | with_reducible apply Ev.fold
    | with_reducible apply Ev.elim
    | with_reducible apply Ev.getD
    | with_reducible apply Ev.iter
    | intro _
    | dsimp only
    | split)

theorem State.applySystem_ev {m : Nat} {s0 : State} {s : State} (h : Ev m s0 s) (hm : Sub 21510378153076292983208273258 m) :
    Ev m s0 (State.applySystem s) := by
  unfold State.applySystem
  repeat' (first
    | with_reducible assumption
    | exact Sub.trans hm rfl
    | with_reducible apply State.ixPut_ev
    | with_reducible apply Ev.each
    | with_reducible apply Ev.ite
    | with_reducible apply Ev.fold
    | with_reducible apply Ev.elim
    | with_reducible apply Ev.getD
    | with_reducible apply Ev.iter
    | intro _
    | dsimp only
    | split)

theorem State.bootChecks_ev {m : Nat} {s0 : State} {s : State} (h : Ev m s0 s) (hm : Sub 12676970247511088500821385535496 m) :
    Ev m s0 (State.bootChecks s) := by
  unfold State.bootChecks
  repeat' (first
    | with_reducible assumption
    | exact Sub.trans hm rfl
    | with_reducible apply State.applyStraps_ev
    | with_reducible apply State.keyCheck_ev
    | with_reducible apply Ev.ite
    | with_reducible apply Ev.fold
    | with_reducible apply Ev.elim
    | with_reducible apply Ev.getD
    | with_reducible apply Ev.iter
    | intro _
    | dsimp only
    | split
    | with_reducible apply Ev.set_bootDue)

theorem State.recoveryUart_ev {m : Nat} {s0 : State} {s : State} (h : Ev m s0 s) (hm : Sub 1180591620717411303424 m) :
    Ev m s0 (State.recoveryUart s) := by
  unfold State.recoveryUart
  repeat' (first
    | with_reducible assumption
    | exact Sub.trans hm rfl
    | with_reducible apply Ev.setUart
    | with_reducible apply Ev.ite
    | with_reducible apply Ev.fold
    | with_reducible apply Ev.elim
    | with_reducible apply Ev.getD
    | with_reducible apply Ev.iter
    | intro _
    | dsimp only
    | split)

theorem execBootSequence_ev {m : Nat} {s0 : State} (a0 : Sys2Proof.SweepFails) {s : State} (h : Ev m s0 s) (hm : Sub 12698016380550663091729622623594 m) :
    EvOut m s0 (execBootSequence a0 s) := by
  unfold execBootSequence
  repeat' (first
    | with_reducible assumption
    | exact Sub.trans hm rfl
    | with_reducible apply EvOut.next
    | with_reducible apply EvOut.ite
    | with_reducible apply ok_ev
    | with_reducible apply State.bootChecks_ev
    | with_reducible apply State.flashOn_ev
    | with_reducible apply State.recoveryUart_ev
    | with_reducible apply State.loadStart_ev
    | with_reducible apply State.applySystem_ev
    | with_reducible apply State.restoreFaults_ev
    | with_reducible apply State.rsetb_ev
    | with_reducible apply State.powerUpSweep_ev
    | with_reducible apply Ev.ite
    | with_reducible apply Ev.fold
    | with_reducible apply Ev.elim
    | with_reducible apply Ev.getD
    | with_reducible apply Ev.iter
    | intro _
    | dsimp only
    | split
    | with_reducible apply Ev.set_recovery
    | with_reducible apply Ev.set_fw)

end Machine

end Sys2Proof
end

