-- ==== Sys2Proof/Laws/EvDebug.lean ====
section
/-! SUPPORT. What each operation of Machine/Debug.lean can change, and that it keeps what no command may break (Laws/Evolve.lean). -/

set_option linter.unusedTactic false
set_option linter.unreachableTactic false
set_option linter.unusedVariables false

namespace Sys2Proof

open Machine

namespace Machine

theorem State.scanPad_ev {m : Nat} {s0 : State} {s : State} (a1 : Nat) (h : Ev m s0 s) (hm : Sub 68719476736 m) :
    Ev m s0 (State.scanPad s a1) := by
  unfold State.scanPad
  repeat' (first
    | with_reducible assumption
    | exact Sub.trans hm rfl
    | with_reducible apply Ev.setPin
    | with_reducible apply Ev.ite
    | with_reducible apply Ev.fold
    | with_reducible apply Ev.elim
    | with_reducible apply Ev.getD
    | with_reducible apply Ev.iter
    | intro _
    | dsimp only
    | split)

theorem State.scanBack_ev {m : Nat} {s0 : State} {s : State} (a1 : Nat) (h : Ev m s0 s) (hm : Sub 274877906944 m) :
    Ev m s0 (State.scanBack s a1) := by
  unfold State.scanBack
  repeat' (first
    | with_reducible assumption
    | exact Sub.trans hm rfl
    | with_reducible apply Ev.setPad
    | with_reducible apply Ev.ite
    | with_reducible apply Ev.fold
    | with_reducible apply Ev.elim
    | with_reducible apply Ev.getD
    | with_reducible apply Ev.iter
    | intro _
    | dsimp only
    | split)

theorem State.scanCapture_ev {m : Nat} {s0 : State} {s : State} (h : Ev m s0 s) (hm : Sub 316912650057057350374175801346 m) :
    Ev m s0 (State.scanCapture s) := by
  unfold State.scanCapture
  repeat' (first
    | with_reducible assumption
    | exact Sub.trans hm rfl
    | with_reducible apply State.bumpFree_ev
    | with_reducible apply Ev.ite
    | with_reducible apply Ev.fold
    | with_reducible apply Ev.elim
    | with_reducible apply Ev.getD
    | with_reducible apply Ev.iter
    | intro _
    | dsimp only
    | split
    | with_reducible apply Ev.set_bcap)

theorem State.tapTo_ev {m : Nat} {s0 : State} {s : State} (a1 : BitVec 8) (h : Ev m s0 s) (hm : Sub 4951835715005247357517299712 m) :
    Ev m s0 (State.tapTo s a1) := by
  unfold State.tapTo
  repeat' (first
    | with_reducible assumption
    | exact Sub.trans hm rfl
    | with_reducible apply State.gpioDo_ev
    | with_reducible apply Ev.each
    | with_reducible apply State.scanPad_ev
    | with_reducible apply State.scanBack_ev
    | with_reducible apply Ev.ite
    | with_reducible apply Ev.fold
    | with_reducible apply Ev.elim
    | with_reducible apply Ev.getD
    | with_reducible apply Ev.iter
    | intro _
    | dsimp only
    | split
    | with_reducible apply Ev.set_tapIr)

theorem execTapInstruction_ev {m : Nat} {s0 : State} (a0 : BitVec 8) {s : State} (h : Ev m s0 s) (hm : Sub 4951835715005247357517299720 m) :
    EvOut m s0 (execTapInstruction a0 s) := by
  unfold execTapInstruction
  repeat' (first
    | with_reducible assumption
    | exact Sub.trans hm rfl
    | with_reducible apply EvOut.next
    | with_reducible apply EvOut.ite
    | with_reducible apply State.tapTo_ev
    | with_reducible apply ok_ev
    | with_reducible apply State.debugSeen_ev
    | with_reducible apply State.rsetb_ev
    | with_reducible apply Ev.ite
    | with_reducible apply Ev.fold
    | with_reducible apply Ev.elim
    | with_reducible apply Ev.getD
    | with_reducible apply Ev.iter
    | intro _
    | dsimp only
    | split)

theorem execTrstN_ev {m : Nat} {s0 : State} {s : State} (h : Ev m s0 s) (hm : Sub 4951835715005247357517299720 m) :
    EvOut m s0 (execTrstN s) := by
  unfold execTrstN
  repeat' (first
    | with_reducible assumption
    | exact Sub.trans hm rfl
    | with_reducible apply EvOut.next
    | with_reducible apply EvOut.ite
    | with_reducible apply ok_ev
    | with_reducible apply State.rsetb_ev
    | with_reducible apply State.tapTo_ev
    | with_reducible apply Ev.ite
    | with_reducible apply Ev.fold
    | with_reducible apply Ev.elim
    | with_reducible apply Ev.getD
    | with_reducible apply Ev.iter
    | intro _
    | dsimp only
    | split)

theorem execBoundaryRegisterUpdate_ev {m : Nat} {s0 : State} (a0 : BitVec 2592) {s : State} (h : Ev m s0 s) (hm : Sub 326816245929204118556411691010 m) :
    EvOut m s0 (execBoundaryRegisterUpdate a0 s) := by
  unfold execBoundaryRegisterUpdate
  repeat' (first
    | with_reducible assumption
    | exact Sub.trans hm rfl
    | with_reducible apply EvOut.next
    | with_reducible apply EvOut.ite
    | with_reducible apply ok_ev
    | with_reducible apply State.scanCapture_ev
    | with_reducible apply State.gpioDo_ev
    | with_reducible apply Ev.each
    | with_reducible apply State.scanPad_ev
    | with_reducible apply Ev.ite
    | with_reducible apply Ev.fold
    | with_reducible apply Ev.elim
    | with_reducible apply Ev.getD
    | with_reducible apply Ev.iter
    | intro _
    | dsimp only
    | split
    | with_reducible apply Ev.set_bscan)

theorem State.dbgWait_ev {m : Nat} {s0 : State} {s : State} (a1 : Nat) (a2 : Bool) (a3 : Sys2Proof.Machine.AKind) (a4 : Sys2Proof.Word) (a5 : Bool) (h : Ev m s0 s) (hm : Sub 59421121885698253195258626048 m) :
    Ev m s0 (State.dbgWait s a1 a2 a3 a4 a5) := by
  unfold State.dbgWait
  repeat' (first
    | with_reducible assumption
    | exact Sub.trans hm rfl
    | with_reducible apply State.toFabric_ev
    | with_reducible apply Ev.ite
    | with_reducible apply Ev.fold
    | with_reducible apply Ev.elim
    | with_reducible apply Ev.getD
    | with_reducible apply Ev.iter
    | intro _
    | dsimp only
    | split
    | with_reducible apply Ev.set_dbgAcc_dbgStatus)

theorem State.dbgRead_ev {m : Nat} {s0 : State} {s : State} (a1 : Nat) (a2 : Bool) (a3 : Bool) (h : Ev m s0 s) (hm : Sub 297107431081362103310275837962 m) :
    Ev m s0 (State.dbgRead s a1 a2 a3) := by
  unfold State.dbgRead
  repeat' (first
    | with_reducible assumption
    | exact Sub.trans hm rfl
    | with_reducible apply State.dbgWait_ev
    | with_reducible apply State.busRead_ev
    | with_reducible apply State.busRead_ev1
    | with_reducible refine State.busRead_evq ‹_› ?_ ?_
    | with_reducible apply Ev.ite
    | with_reducible apply Ev.fold
    | with_reducible apply Ev.elim
    | with_reducible apply Ev.getD
    | with_reducible apply Ev.iter
    | intro _
    | dsimp only
    | split
    | with_reducible apply Ev.set_dbgStatus_dbgP_dbgData)

theorem execDbgaccRead_ev {m : Nat} {s0 : State} (a0 : BitVec 64) (a1 : Bool) {s : State} (h : Ev m s0 s) (hm : Sub 297107431081362103310275837962 m) :
    EvOut m s0 (execDbgaccRead a0 a1 s) := by
  unfold execDbgaccRead
  repeat' (first
    | with_reducible assumption
    | exact Sub.trans hm rfl
    | with_reducible apply EvOut.next
    | with_reducible apply EvOut.ite
    | with_reducible apply ok_ev
    | with_reducible apply State.dbgRead_ev
    | with_reducible apply Ev.ite
    | with_reducible apply Ev.fold
    | with_reducible apply Ev.elim
    | with_reducible apply Ev.getD
    | with_reducible apply Ev.iter
    | intro _
    | dsimp only
    | split)

theorem execDbgaccConsumingRead_ev {m : Nat} {s0 : State} (a0 : BitVec 64) (a1 : Bool) {s : State} (h : Ev m s0 s) (hm : Sub 298935884920450212956897011050 m) :
    EvOut m s0 (execDbgaccConsumingRead a0 a1 s) := by
  unfold execDbgaccConsumingRead
  repeat' (first
    | with_reducible assumption
    | exact Sub.trans hm rfl
    | with_reducible apply EvOut.next
    | with_reducible apply EvOut.ite
    | with_reducible apply ok_ev
    | with_reducible apply State.ixSettle_ev
    | with_reducible apply State.dbgRead_ev
    | with_reducible apply Ev.ite
    | with_reducible apply Ev.fold
    | with_reducible apply Ev.elim
    | with_reducible apply Ev.getD
    | with_reducible apply Ev.iter
    | intro _
    | dsimp only
    | split)

theorem execDbgaccWrite_ev {m : Nat} {s0 : State} (a0 : BitVec 64) (a1 : Bool) (a2 : BitVec 64) {s : State} (h : Ev m s0 s) (hm : Sub 61251397377657200176265160042 m) :
    EvOut m s0 (execDbgaccWrite a0 a1 a2 s) := by
  unfold execDbgaccWrite
  repeat' (first
    | with_reducible assumption
    | exact Sub.trans hm rfl
    | with_reducible apply EvOut.next
    | with_reducible apply EvOut.ite
    | with_reducible apply ok_ev
    | with_reducible apply State.dbgWait_ev
    | with_reducible apply State.ixSettle_ev
    | with_reducible apply State.busWrite_ev
    | with_reducible apply Ev.ite
    | with_reducible apply Ev.fold
    | with_reducible apply Ev.elim
    | with_reducible apply Ev.getD
    | with_reducible apply Ev.iter
    | intro _
    | dsimp only
    | split
    | with_reducible apply Ev.set_dbgStatus)

theorem execDbgaccTimeout_ev {m : Nat} {s0 : State} {s : State} (h : Ev m s0 s) (hm : Sub 297105609428491265975789813760 m) :
    EvOut m s0 (execDbgaccTimeout s) := by
  unfold execDbgaccTimeout
  repeat' (first
    | with_reducible assumption
    | exact Sub.trans hm rfl
    | with_reducible apply EvOut.next
    | with_reducible apply EvOut.ite
    | with_reducible apply ok_ev
    | with_reducible apply Ev.ite
    | with_reducible apply Ev.fold
    | with_reducible apply Ev.elim
    | with_reducible apply Ev.getD
    | with_reducible apply Ev.iter
    | intro _
    | dsimp only
    | split
    | with_reducible apply Ev.set_dbgAcc_dbgStatus_dbgP_dbgData)

theorem execFeed_ev {m : Nat} {s0 : State} (a0 : Sys2Proof.Issuer) (a1 : Fin 4) (a2 : Sys2Proof.Word) (a3 : Sys2Proof.FedEffect) {s : State} (h : Ev m s0 s) (hm : Sub 21637316120525031379493184890 m) :
    EvOut m s0 (execFeed a0 a1 a2 a3 s) := by
  unfold execFeed
  repeat' (first
    | with_reducible assumption
    | exact Sub.trans hm rfl
    | with_reducible apply EvOut.next
    | with_reducible apply EvOut.ite
    | with_reducible apply ok_ev
    | with_reducible apply State.ixSettle_ev
    | with_reducible apply State.debugOnly_ev
    | with_reducible apply State.feedIn_ev
    | with_reducible apply Ev.ite
    | with_reducible apply Ev.fold
    | with_reducible apply Ev.elim
    | with_reducible apply Ev.getD
    | with_reducible apply Ev.iter
    | intro _
    | dsimp only
    | split)

end Machine

end Sys2Proof
end

