-- ==== Sys2Proof/Laws/EvDispatch.lean ====
section
/-! SUPPORT. What each operation of Machine/Dispatch.lean can change, and that it keeps what no command may break (Laws/Evolve.lean). -/

set_option linter.unusedTactic false
set_option linter.unreachableTactic false
set_option linter.unusedVariables false

namespace Sys2Proof

open Machine

namespace Machine

/-- Every command answers a next state, keeps the stores canonical, leaves the queue alone and undoes nothing that cannot be undone. -/
theorem exec_ev {m : Nat} {s0 s : State} (c : Instr) (hev : Ev m s0 s) (hsub : Sub 20282409603642447051910396510206 m) : EvOut m s0 (exec c s) := by
  cases c with
  | powerOnReset rise vbat => exact execPowerOnReset_ev rise vbat hev (hsub.trans rfl)
  | vinDipPackageReset => exact execVinDipPackageReset_ev hev (hsub.trans rfl)
  | prstNAssert => exact execPrstNAssert_ev hev (hsub.trans rfl)
  | thermalTrip d t => exact execThermalTrip_ev d t hev (hsub.trans rfl)
  | thermalTripRelease => exact execThermalTripRelease_ev hev (hsub.trans rfl)
  | bootSequence fails => exact execBootSequence_ev fails hev (hsub.trans rfl)
  | registerWrite w v => exact execRegisterWrite_ev w v hev (hsub.trans rfl)
  | calrun iss => exact execCalrun_ev iss hev (hsub.trans rfl)
  | spineCalibration skew => exact execSpineCalibration_ev skew hev (hsub.trans rfl)
  | reflock => exact execReflock_ev hev (hsub.trans rfl)
  | phaseInputEdge p lv ts two => exact execPhaseInputEdge_ev p lv ts two hev (hsub.trans rfl)
  | indexEdge p ts => exact execIndexEdge_ev p ts hev (hsub.trans rfl)
  | ssiRequest p ts dataHigh => exact execSsiRequest_ev p ts dataHigh hev (hsub.trans rfl)
  | ssiFrame p bits returned => exact execSsiFrame_ev p bits returned hev (hsub.trans rfl)
  | fabricStreamMeasurement n ts => exact execFabricStreamMeasurement_ev n ts hev (hsub.trans rfl)
  | tlyPortCfgWrite iss p off v => exact execTlyPortCfgWrite_ev iss p off v hev (hsub.trans rfl)
  | tlyDiffWrite iss v => exact execTlyDiffWrite_ev iss v hev (hsub.trans rfl)
  | spineTick => exact execSpineTick_ev hev (hsub.trans rfl)
  | standstillTimeout l => exact execStandstillTimeout_ev l hev (hsub.trans rfl)
  | missingPulse l => exact execMissingPulse_ev l hev (hsub.trans rfl)
  | spineFrameArrival r k => exact execSpineFrameArrival_ev r k hev (hsub.trans rfl)
  | spineFrameMissing r lasting => exact execSpineFrameMissing_ev r lasting hev (hsub.trans rfl)
  | lineEnable iss l v => exact execLineEnable_ev iss l v hev (hsub.trans rfl)
  | commit iss l => exact execCommit_ev iss l hev (hsub.trans rfl)
  | commitApply l => exact execCommitApply_ev l hev (hsub.trans rfl)
  | hold iss l v => exact execHold_ev iss l v hev (hsub.trans rfl)
  | tokenArrival x j bad => exact execTokenArrival_ev x j bad hev (hsub.trans rfl)
  | nop x ck => exact execNop_ev x ck hev (hsub.trans rfl)
  | mov x ck => exact execMov_ev x ck hev (hsub.trans rfl)
  | movh x ck => exact execMovh_ev x ck hev (hsub.trans rfl)
  | sel x ck => exact execSel_ev x ck hev (hsub.trans rfl)
  | ptst x ck => exact execPtst_ev x ck hev (hsub.trans rfl)
  | ftst x ck => exact execFtst_ev x ck hev (hsub.trans rfl)
  | add x ck => exact execAdd_ev x ck hev (hsub.trans rfl)
  | adc x ck => exact execAdc_ev x ck hev (hsub.trans rfl)
  | sub x ck => exact execSub_ev x ck hev (hsub.trans rfl)
  | sbc x ck => exact execSbc_ev x ck hev (hsub.trans rfl)
  | neg x ck => exact execNeg_ev x ck hev (hsub.trans rfl)
  | abs x ck => exact execAbs_ev x ck hev (hsub.trans rfl)
  | adds x ck => exact execAdds_ev x ck hev (hsub.trans rfl)
  | subs x ck => exact execSubs_ev x ck hev (hsub.trans rfl)
  | addu x ck => exact execAddu_ev x ck hev (hsub.trans rfl)
  | subu x ck => exact execSubu_ev x ck hev (hsub.trans rfl)
  | min x ck => exact execMin_ev x ck hev (hsub.trans rfl)
  | max x ck => exact execMax_ev x ck hev (hsub.trans rfl)
  | minu x ck => exact execMinu_ev x ck hev (hsub.trans rfl)
  | maxu x ck => exact execMaxu_ev x ck hev (hsub.trans rfl)
  | sats x ck => exact execSats_ev x ck hev (hsub.trans rfl)
  | satu x ck => exact execSatu_ev x ck hev (hsub.trans rfl)
  | clamp x ck => exact execClamp_ev x ck hev (hsub.trans rfl)
  | andOp x ck => exact execAndOp_ev x ck hev (hsub.trans rfl)
  | orOp x ck => exact execOrOp_ev x ck hev (hsub.trans rfl)
  | xorOp x ck => exact execXorOp_ev x ck hev (hsub.trans rfl)
  | andn x ck => exact execAndn_ev x ck hev (hsub.trans rfl)
  | shl x ck => exact execShl_ev x ck hev (hsub.trans rfl)
  | shr x ck => exact execShr_ev x ck hev (hsub.trans rfl)
  | sar x ck => exact execSar_ev x ck hev (hsub.trans rfl)
  | rol x ck => exact execRol_ev x ck hev (hsub.trans rfl)
  | ror x ck => exact execRor_ev x ck hev (hsub.trans rfl)
  | shlc x ck => exact execShlc_ev x ck hev (hsub.trans rfl)
  | fshr x ck => exact execFshr_ev x ck hev (hsub.trans rfl)
  | clz x ck => exact execClz_ev x ck hev (hsub.trans rfl)
  | mul x ck => exact execMul_ev x ck hev (hsub.trans rfl)
  | mulh x ck => exact execMulh_ev x ck hev (hsub.trans rfl)
  | mulhu x ck => exact execMulhu_ev x ck hev (hsub.trans rfl)
  | mulsh x ck => exact execMulsh_ev x ck hev (hsub.trans rfl)
  | ceq x ck => exact execCeq_ev x ck hev (hsub.trans rfl)
  | cne x ck => exact execCne_ev x ck hev (hsub.trans rfl)
  | clt x ck => exact execClt_ev x ck hev (hsub.trans rfl)
  | cle x ck => exact execCle_ev x ck hev (hsub.trans rfl)
  | cgt x ck => exact execCgt_ev x ck hev (hsub.trans rfl)
  | cge x ck => exact execCge_ev x ck hev (hsub.trans rfl)
  | cltu x ck => exact execCltu_ev x ck hev (hsub.trans rfl)
  | cleu x ck => exact execCleu_ev x ck hev (hsub.trans rfl)
  | cgtu x ck => exact execCgtu_ev x ck hev (hsub.trans rfl)
  | cgeu x ck => exact execCgeu_ev x ck hev (hsub.trans rfl)
  | tst x ck => exact execTst_ev x ck hev (hsub.trans rfl)
  | plt x ck => exact execPlt_ev x ck hev (hsub.trans rfl)
  | pge x ck => exact execPge_ev x ck hev (hsub.trans rfl)
  | pwin x ck => exact execPwin_ev x ck hev (hsub.trans rfl)
  | rd x ck => exact execRd_ev x ck hev (hsub.trans rfl)
  | wr x ck => exact execWr_ev x ck hev (hsub.trans rfl)
  | mark x ck => exact execMark_ev x ck hev (hsub.trans rfl)
  | reservedOpcode x ck => exact execReservedOpcode_ev x ck hev (hsub.trans rfl)
  | skippedStep x ck => exact execSkippedStep_ev x ck hev (hsub.trans rfl)
  | cellStall x lasting => exact execCellStall_ev x lasting hev (hsub.trans rfl)
  | tokenMove m bad => exact execTokenMove_ev m bad hev (hsub.trans rfl)
  | stageStall w lasting => exact execStageStall_ev w lasting hev (hsub.trans rfl)
  | accessWordSent lp => exact execAccessWordSent_ev lp hev (hsub.trans rfl)
  | accessReply id => exact execAccessReply_ev id hev (hsub.trans rfl)
  | accessCompletionReport id => exact execAccessCompletionReport_ev id hev (hsub.trans rfl)
  | broadcastToken r b => exact execBroadcastToken_ev r b hev (hsub.trans rfl)
  | bdup r b lc => exact execBdup_ev r b lc hev (hsub.trans rfl)
  | gateClose r => exact execGateClose_ev r hev (hsub.trans rfl)
  | gateDrainComplete r => exact execGateDrainComplete_ev r hev (hsub.trans rfl)
  | gateRefusal w => exact execGateRefusal_ev w hev (hsub.trans rfl)
  | coreFabricLoad c addr w => exact execCoreFabricLoad_ev c addr w hev (hsub.trans rfl)
  | coreFabricStore c addr w v => exact execCoreFabricStore_ev c addr w v hev (hsub.trans rfl)
  | coreFence c => exact execCoreFence_ev c hev (hsub.trans rfl)
  | ftmo c => exact execFtmo_ev c hev (hsub.trans rfl)
  | bmRead q hits glitch => exact execBmRead_ev q hits glitch hev (hsub.trans rfl)
  | bmWrite q => exact execBmWrite_ev q hev (hsub.trans rfl)
  | bmInitDone b => exact execBmInitDone_ev b hev (hsub.trans rfl)
  | scratchRead id hits g1 g2 => exact execScratchRead_ev id hits g1 g2 hev (hsub.trans rfl)
  | scratchWrite id => exact execScratchWrite_ev id hev (hsub.trans rfl)
  | setAliasWrite id hits g1 g2 => exact execSetAliasWrite_ev id hits g1 g2 hev (hsub.trans rfl)
  | clearAliasWrite id hits g1 g2 => exact execClearAliasWrite_ev id hits g1 g2 hev (hsub.trans rfl)
  | bankRound b => exact execBankRound_ev b hev (hsub.trans rfl)
  | scrubVisit b hits g1 g2 => exact execScrubVisit_ev b hits g1 g2 hev (hsub.trans rfl)
  | handover iss b v => exact execHandover_ev iss b v hev (hsub.trans rfl)
  | hdone b => exact execHdone_ev b hev (hsub.trans rfl)
  | prtReqWrite iss b n v => exact execPrtReqWrite_ev iss b n v hev (hsub.trans rfl)
  | bankClear iss b => exact execBankClear_ev iss b hev (hsub.trans rfl)
  | clrdone b => exact execClrdone_ev b hev (hsub.trans rfl)
  | hopperPush w => exact execHopperPush_ev w hev (hsub.trans rfl)
  | pendingPushAccepted id => exact execPendingPushAccepted_ev id hev (hsub.trans rfl)
  | hopperPop id hits glitch => exact execHopperPop_ev id hits glitch hev (hsub.trans rfl)
  | pendingPopServed h hits glitch => exact execPendingPopServed_ev h hits glitch hev (hsub.trans rfl)
  | hopperMark id => exact execHopperMark_ev id hev (hsub.trans rfl)
  | rewind id => exact execRewind_ev id hev (hsub.trans rfl)
  | release id => exact execRelease_ev id hev (hsub.trans rfl)
  | releasem id => exact execReleasem_ev id hev (hsub.trans rfl)
  | flush w => exact execFlush_ev w hev (hsub.trans rfl)
  | hopperCmdNop id => exact execHopperCmdNop_ev id hev (hsub.trans rfl)
  | hopperReservedCmd id => exact execHopperReservedCmd_ev id hev (hsub.trans rfl)
  | hopWmWrite iss h v => exact execHopWmWrite_ev iss h v hev (hsub.trans rfl)
  | markNop p => exact execMarkNop_ev p hev (hsub.trans rfl)
  | markLow p => exact execMarkLow_ev p hev (hsub.trans rfl)
  | markHigh p => exact execMarkHigh_ev p hev (hsub.trans rfl)
  | markToggle p => exact execMarkToggle_ev p hev (hsub.trans rfl)
  | markFloat p => exact execMarkFloat_ev p hev (hsub.trans rfl)
  | markPark p => exact execMarkPark_ev p hev (hsub.trans rfl)
  | wopen p => exact execWopen_ev p hev (hsub.trans rfl)
  | wclose p => exact execWclose_ev p hev (hsub.trans rfl)
  | cancel p => exact execCancel_ev p hev (hsub.trans rfl)
  | markReservedAct p => exact execMarkReservedAct_ev p hev (hsub.trans rfl)
  | poisonedPair p => exact execPoisonedPair_ev p hev (hsub.trans rfl)
  | markEvaluation p m => exact execMarkEvaluation_ev p m hev (hsub.trans rfl)
  | captureEdge p level n before slow => exact execCaptureEdge_ev p level n before slow hev (hsub.trans rfl)
  | fpark iss p on => exact execFpark_ev iss p on hev (hsub.trans rfl)
  | pinCtlCancel iss p => exact execPinCtlCancel_ev iss p hev (hsub.trans rfl)
  | wclr iss p => exact execWclr_ev iss p hev (hsub.trans rfl)
  | supply b => exact execSupply_ev b hev (hsub.trans rfl)
  | serialFrameReceived n f => exact execSerialFrameReceived_ev n f hev (hsub.trans rfl)
  | align n => exact execAlign_ev n hev (hsub.trans rfl)
  | syncerr n => exact execSyncerr_ev n hev (hsub.trans rfl)
  | serialWordTransmit n => exact execSerialWordTransmit_ev n hev (hsub.trans rfl)
  | padSwitchComplete p => exact execPadSwitchComplete_ev p hev (hsub.trans rfl)
  | blockLock l k => exact execBlockLock_ev l k hev (hsub.trans rfl)
  | blockLockLoss l k bad => exact execBlockLockLoss_ev l k bad hev (hsub.trans rfl)
  | frameReceive l ws hdrBad ts => exact execFrameReceive_ev l ws hdrBad ts hev (hsub.trans rfl)
  | replayTimeout l => exact execReplayTimeout_ev l hev (hsub.trans rfl)
  | frameBoundary l ts => exact execFrameBoundary_ev l ts hev (hsub.trans rfl)
  | readMessage l cls => exact execReadMessage_ev l cls hev (hsub.trans rfl)
  | writeMessage l cls => exact execWriteMessage_ev l cls hev (hsub.trans rfl)
  | rdrsp l cls => exact execRdrsp_ev l cls hev (hsub.trans rfl)
  | wrdone l cls => exact execWrdone_ev l cls hev (hsub.trans rfl)
  | streamMessage l cls => exact execStreamMessage_ev l cls hev (hsub.trans rfl)
  | phaseMessage l => exact execPhaseMessage_ev l hev (hsub.trans rfl)
  | mgmtMessage l => exact execMgmtMessage_ev l hev (hsub.trans rfl)
  | mgmtReassemblyTimeout pkg => exact execMgmtReassemblyTimeout_ev pkg hev (hsub.trans rfl)
  | linkEnable iss l => exact execLinkEnable_ev iss l hev (hsub.trans rfl)
  | linkDisable iss l => exact execLinkDisable_ev iss l hev (hsub.trans rfl)
  | signalDetect l lanes => exact execSignalDetect_ev l lanes hev (hsub.trans rfl)
  | lockTimeout l => exact execLockTimeout_ev l hev (hsub.trans rfl)
  | alignComplete l pol swap => exact execAlignComplete_ev l pol swap hev (hsub.trans rfl)
  | alignLimit l => exact execAlignLimit_ev l hev (hsub.trans rfl)
  | trainFrameReceived l ws => exact execTrainFrameReceived_ev l ws hev (hsub.trans rfl)
  | negotiateTimeout l => exact execNegotiateTimeout_ev l hev (hsub.trans rfl)
  | retrain iss l readmit => exact execRetrain_ev iss l readmit hev (hsub.trans rfl)
  | laneTestComplete l k pass => exact execLaneTestComplete_ev l k pass hev (hsub.trans rfl)
  | downtmo l => exact execDowntmo_ev l hev (hsub.trans rfl)
  | sysidWrite iss v => exact execSysidWrite_ev iss v hev (hsub.trans rfl)
  | forwarding w => exact execForwarding_ev w hev (hsub.trans rfl)
  | remoteTimeout id => exact execRemoteTimeout_ev id hev (hsub.trans rfl)
  | phaseSend l => exact execPhaseSend_ev l hev (hsub.trans rfl)
  | phaseCoast n => exact execPhaseCoast_ev n hev (hsub.trans rfl)
  | holdoverExpiry n => exact execHoldoverExpiry_ev n hev (hsub.trans rfl)
  | configCheckError w again => exact execConfigCheckError_ev w again hev (hsub.trans rfl)
  | compareStage r j k glitch late => exact execCompareStage_ev r j k glitch late hev (hsub.trans rfl)
  | missingTwin r j k => exact execMissingTwin_ev r j k hev (hsub.trans rfl)
  | evidenceWindowExpiry r j => exact execEvidenceWindowExpiry_ev r j hev (hsub.trans rfl)
  | spareFramesWritten r => exact execSpareFramesWritten_ev r hev (hsub.trans rfl)
  | memoryCopyComplete r => exact execMemoryCopyComplete_ev r hev (hsub.trans rfl)
  | synchronisationHold r => exact execSynchronisationHold_ev r hev (hsub.trans rfl)
  | unpairedSwap r => exact execUnpairedSwap_ev r hev (hsub.trans rfl)
  | tnkAsh iss r => exact execTnkAsh_ev iss r hev (hsub.trans rfl)
  | frameScrub r glitch => exact execFrameScrub_ev r glitch hev (hsub.trans rfl)
  | sliceRequest iss kind index => exact execSliceRequest_ev iss kind index hev (hsub.trans rfl)
  | sliceComplete kind index sig => exact execSliceComplete_ev kind index sig hev (hsub.trans rfl)
  | sliceBudgetExceeded kind index sig => exact execSliceBudgetExceeded_ev kind index sig hev (hsub.trans rfl)
  | sliceAbandon g => exact execSliceAbandon_ev g hev (hsub.trans rfl)
  | backgroundSlice => unfold exec; exact execBackgroundSlice_ev hev (hsub.trans rfl)
  | fullLoad src => exact execFullLoad_ev src hev (hsub.trans rfl)
  | partialLoad r src => exact execPartialLoad_ev r src hev (hsub.trans rfl)
  | stagingComplete => exact execStagingComplete_ev hev (hsub.trans rfl)
  | frameWrite v => exact execFrameWrite_ev v hev (hsub.trans rfl)
  | memoryInitComplete => exact execMemoryInitComplete_ev hev (hsub.trans rfl)
  | startUpSequence => exact execStartUpSequence_ev hev (hsub.trans rfl)
  | startupWaitLock => exact execStartupWaitLock_ev hev (hsub.trans rfl)
  | startupTimeout => exact execStartupTimeout_ev hev (hsub.trans rfl)
  | cmpAbort iss => exact execCmpAbort_ev iss hev (hsub.trans rfl)
  | kcmdWrite iss slot => exact execKcmdWrite_ev iss slot hev (hsub.trans rfl)
  | kcmdErase iss slot => exact execKcmdErase_ev iss slot hev (hsub.trans rfl)
  | kcmdRevoke iss slot => exact execKcmdRevoke_ev iss slot hev (hsub.trans rfl)
  | kcmdOwner iss slot => exact execKcmdOwner_ev iss slot hev (hsub.trans rfl)
  | kcmdRevokeOwner iss slot => exact execKcmdRevokeOwner_ev iss slot hev (hsub.trans rfl)
  | kcmdReserved iss k slot => exact execKcmdReserved_ev iss k slot hev (hsub.trans rfl)
  | efuseProgramComplete => exact execEfuseProgramComplete_ev hev (hsub.trans rfl)
  | tamper => exact execTamper_ev hev (hsub.trans rfl)
  | notarySignComplete => exact execNotarySignComplete_ev hev (hsub.trans rfl)
  | msipWrite iss c v => exact execMsipWrite_ev iss c v hev (hsub.trans rfl)
  | gpioSet iss x v => exact execGpioSet_ev iss x v hev (hsub.trans rfl)
  | gpioClr iss x v => exact execGpioClr_ev iss x v hev (hsub.trans rfl)
  | privset c v => exact execPrivset_ev c v hev (hsub.trans rfl)
  | privclr c v => exact execPrivclr_ev c v hev (hsub.trans rfl)
  | privout c v => exact execPrivout_ev c v hev (hsub.trans rfl)
  | gpioFuncChange iss x v => exact execGpioFuncChange_ev iss x v hev (hsub.trans rfl)
  | gpioLevelChange iss v => exact execGpioLevelChange_ev iss v hev (hsub.trans rfl)
  | pinInterruptEdge n level ago => exact execPinInterruptEdge_ev n level ago hev (hsub.trans rfl)
  | machineTimer c => exact execMachineTimer_ev c hev (hsub.trans rfl)
  | watchdogEnable iss j v => exact execWatchdogEnable_ev iss j v hev (hsub.trans rfl)
  | watchdogKick iss j key => exact execWatchdogKick_ev iss j key hev (hsub.trans rfl)
  | watchdogWarn j => exact execWatchdogWarn_ev j hev (hsub.trans rfl)
  | watchdogExpiry j => exact execWatchdogExpiry_ev j hev (hsub.trans rfl)
  | ptpStep iss => exact execPtpStep_ev iss hev (hsub.trans rfl)
  | ppsOutput => exact execPpsOutput_ev hev (hsub.trans rfl)
  | ppsInputCapture err => exact execPpsInputCapture_ev err hev (hsub.trans rfl)
  | ptpEventTimestamp err => exact execPtpEventTimestamp_ev err hev (hsub.trans rfl)
  | downshift => exact execDownshift_ev hev (hsub.trans rfl)
  | phyRestart iss => exact execPhyRestart_ev iss hev (hsub.trans rfl)
  | ixHello a => exact execIxHello_ev a hev (hsub.trans rfl)
  | ixOpen a => exact execIxOpen_ev a hev (hsub.trans rfl)
  | ixProve a => exact execIxProve_ev a hev (hsub.trans rfl)
  | ixClose a => exact execIxClose_ev a hev (hsub.trans rfl)
  | ixKeepalive a => exact execIxKeepalive_ev a hev (hsub.trans rfl)
  | ixRelay a => exact execIxRelay_ev a hev (hsub.trans rfl)
  | relayTimeout sid => exact execRelayTimeout_ev sid hev (hsub.trans rfl)
  | ixIdentity a => exact execIxIdentity_ev a hev (hsub.trans rfl)
  | ixHealth a => exact execIxHealth_ev a hev (hsub.trans rfl)
  | ixViolRead a => exact execIxViolRead_ev a hev (hsub.trans rfl)
  | ixViolClear a => exact execIxViolClear_ev a hev (hsub.trans rfl)
  | ixLoad a => exact execIxLoad_ev a hev (hsub.trans rfl)
  | ixPushBegin a => exact execIxPushBegin_ev a hev (hsub.trans rfl)
  | ixPushData a => exact execIxPushData_ev a hev (hsub.trans rfl)
  | ixPushEnd a => exact execIxPushEnd_ev a hev (hsub.trans rfl)
  | ixAbort a => exact execIxAbort_ev a hev (hsub.trans rfl)
  | ixRecordWrite a => exact execIxRecordWrite_ev a hev (hsub.trans rfl)
  | ixRecordCommit a => exact execIxRecordCommit_ev a hev (hsub.trans rfl)
  | ixRecordRead a => exact execIxRecordRead_ev a hev (hsub.trans rfl)
  | ixPowerSet a => exact execIxPowerSet_ev a hev (hsub.trans rfl)
  | ixPowerGet a => exact execIxPowerGet_ev a hev (hsub.trans rfl)
  | ixRailSet a => exact execIxRailSet_ev a hev (hsub.trans rfl)
  | ixPortSet a => exact execIxPortSet_ev a hev (hsub.trans rfl)
  | ixLineSet a => exact execIxLineSet_ev a hev (hsub.trans rfl)
  | ixLineGet a => exact execIxLineGet_ev a hev (hsub.trans rfl)
  | ixWaitLock a => exact execIxWaitLock_ev a hev (hsub.trans rfl)
  | waitLockDone sid => exact execWaitLockDone_ev sid hev (hsub.trans rfl)
  | waitLockLimit sid => exact execWaitLockLimit_ev sid hev (hsub.trans rfl)
  | ixFaultRead a => exact execIxFaultRead_ev a hev (hsub.trans rfl)
  | ixFaultClear a => exact execIxFaultClear_ev a hev (hsub.trans rfl)
  | ixSliceRun a => exact execIxSliceRun_ev a hev (hsub.trans rfl)
  | ixAsh a => exact execIxAsh_ev a hev (hsub.trans rfl)
  | ixReset a => exact execIxReset_ev a hev (hsub.trans rfl)
  | resetDelayExpiry => exact execResetDelayExpiry_ev hev (hsub.trans rfl)
  | ixLinkCtl a => exact execIxLinkCtl_ev a hev (hsub.trans rfl)
  | ixRead a => exact execIxRead_ev a hev (hsub.trans rfl)
  | ixWrite a => exact execIxWrite_ev a hev (hsub.trans rfl)
  | ixHopPop a => exact execIxHopPop_ev a hev (hsub.trans rfl)
  | ixHopPush a => exact execIxHopPush_ev a hev (hsub.trans rfl)
  | ixHopCmd a => exact execIxHopCmd_ev a hev (hsub.trans rfl)
  | ixAttest a => exact execIxAttest_ev a hev (hsub.trans rfl)
  | ixCert a => exact execIxCert_ev a hev (hsub.trans rfl)
  | ixKeyStatus a => exact execIxKeyStatus_ev a hev (hsub.trans rfl)
  | ixKeyWrite a => exact execIxKeyWrite_ev a hev (hsub.trans rfl)
  | ixKeyCmd a => exact execIxKeyCmd_ev a hev (hsub.trans rfl)
  | ixSvnRaise a => exact execIxSvnRaise_ev a hev (hsub.trans rfl)
  | sessionIdleTimeout sid => exact execSessionIdleTimeout_ev sid hev (hsub.trans rfl)
  | sequenceGapTimeout sid => exact execSequenceGapTimeout_ev sid hev (hsub.trans rfl)
  | domainRequest iss n v => exact execDomainRequest_ev iss n v hev (hsub.trans rfl)
  | domainChangeComplete n => exact execDomainChangeComplete_ev n hev (hsub.trans rfl)
  | lmpRreq iss r v => exact execLmpRreq_ev iss r v hev (hsub.trans rfl)
  | railWrite iss d v => exact execRailWrite_ev iss d v hev (hsub.trans rfl)
  | railSettled d mv => exact execRailSettled_ev d mv hev (hsub.trans rfl)
  | powerMeasure p => exact execPowerMeasure_ev p hev (hsub.trans rfl)
  | temperatureMeasure d t => exact execTemperatureMeasure_ev d t hev (hsub.trans rfl)
  | upFerryToken n => exact execUpFerryToken_ev n hev (hsub.trans rfl)
  | ferryTransferComplete w => exact execFerryTransferComplete_ev w hev (hsub.trans rfl)
  | unsettled w => exact execUnsettled_ev w hev (hsub.trans rfl)
  | pulseToken n => exact execPulseToken_ev n hev (hsub.trans rfl)
  | pulseWrite iss n v => exact execPulseWrite_ev iss n v hev (hsub.trans rfl)
  | rxRead iss n => exact execRxRead_ev iss n hev (hsub.trans rfl)
  | txWrite iss n v => exact execTxWrite_ev iss n v hev (hsub.trans rfl)
  | ferryCfgWrite iss w v => exact execFerryCfgWrite_ev iss w v hev (hsub.trans rfl)
  | tapInstruction ir => exact execTapInstruction_ev ir hev (hsub.trans rfl)
  | trstN => exact execTrstN_ev hev (hsub.trans rfl)
  | dbgaccRead addr w64 => exact execDbgaccRead_ev addr w64 hev (hsub.trans rfl)
  | dbgaccWrite addr w64 v => exact execDbgaccWrite_ev addr w64 v hev (hsub.trans rfl)
  | dbgaccConsumingRead addr w64 => exact execDbgaccConsumingRead_ev addr w64 hev (hsub.trans rfl)
  | dbgaccTimeout => exact execDbgaccTimeout_ev hev (hsub.trans rfl)
  | halt c cause => exact execHalt_ev c cause hev (hsub.trans rfl)
  | resume iss c => exact execResume_ev iss c hev (hsub.trans rfl)
  | feed iss c insn eff => exact execFeed_ev iss c insn eff hev (hsub.trans rfl)
  | breakLock iss r b => exact execBreakLock_ev iss r b hev (hsub.trans rfl)
  | freeze iss v => exact execFreeze_ev iss v hev (hsub.trans rfl)
  | freezeComplete r => exact execFreezeComplete_ev r hev (hsub.trans rfl)
  | detach iss => exact execDetach_ev iss hev (hsub.trans rfl)
  | registerRead w => exact execRegisterRead_ev w hev (hsub.trans rfl)
  | vbatLoss => exact execVbatLoss_ev hev (hsub.trans rfl)
  | flashProgramComplete good => exact execFlashProgramComplete_ev good hev (hsub.trans rfl)
  | managementPortLink up gig mdix => exact execManagementPortLink_ev up gig mdix hev (hsub.trans rfl)
  | gpioLevelHoldEnd x => exact execGpioLevelHoldEnd_ev x hev (hsub.trans rfl)
  | ixDropped a => exact execIxDropped_ev a hev (hsub.trans rfl)
  | ixBadOpcode a => exact execIxBadOpcode_ev a hev (hsub.trans rfl)
  | boundaryRegisterUpdate v => exact execBoundaryRegisterUpdate_ev v hev (hsub.trans rfl)

end Machine

end Sys2Proof
end

