-- ==== Sys2Proof/Laws/Fields.lean ====
section
/-! SUPPORT. Bit fields after a write of one field (R4), and what the named register operations of Machine/Ops.lean do to the registers: the one written, and every other. -/

namespace Sys2Proof.Machine

/-! Fields of a value. -/

theorem getLsbD_maskOf (n lo len j : Nat) : (maskOf n lo len).getLsbD j = (decide (j < n) && decide (lo ≤ j ∧ j < lo + len)) := by
  unfold maskOf
  rw [BitVec.getLsbD_ofNat, Nat.testBit_shiftLeft, Nat.testBit_two_pow_sub_one]
  by_cases h1 : lo ≤ j
  · by_cases h2 : j < lo + len
    · have : j - lo < len := by omega
      simp [h1, h2, this]
    · have : ¬ j - lo < len := by omega
      simp [h1, h2, this]
  · simp [h1]

theorem getLsbD_setFld {n : Nat} (v : BitVec n) (lo len x j : Nat) :
    (setFld v lo len x).getLsbD j = if lo ≤ j ∧ j < lo + len then decide (j < n) && x.testBit (j - lo) else v.getLsbD j := by
  unfold setFld
  rw [BitVec.getLsbD_or, BitVec.getLsbD_and, BitVec.getLsbD_not, getLsbD_maskOf, BitVec.getLsbD_ofNat, Nat.testBit_shiftLeft, Nat.testBit_mod_two_pow]
  by_cases hj : j < n
  · by_cases h : lo ≤ j ∧ j < lo + len
    · have : j - lo < len := by omega
      simp [hj, h, this]
    · by_cases h1 : lo ≤ j
      · have : ¬ j - lo < len := by omega
        simp [hj, h, this]
      · simp [hj, h1]
  · simp [hj, BitVec.getLsbD_of_ge v j (by omega)]

/-- A bit outside the written field. -/
theorem bit_setFld {n : Nat} (v : BitVec n) (lo len x j : Nat) (h : j < lo ∨ lo + len ≤ j) : bit (setFld v lo len x) j = bit v j := by
  unfold bit; rw [getLsbD_setFld, if_neg (by omega)]

theorem bit_setBit_self {n : Nat} (v : BitVec n) (i : Nat) (b : Bool) (h : i < n) : bit (setBit v i b) i = b := by
  unfold bit setBit; rw [getLsbD_setFld, if_pos (by omega)]; cases b <;> simp [h]

theorem bit_setBit_ne {n : Nat} (v : BitVec n) (i j : Nat) (b : Bool) (h : j ≠ i) : bit (setBit v i b) j = bit v j :=
  bit_setFld _ _ _ _ _ (by omega)

theorem testBit_fld {n : Nat} (v : BitVec n) (lo len j : Nat) : (fld v lo len).testBit j = (decide (j < len) && v.getLsbD (lo + j)) := by
  unfold fld; rw [Nat.testBit_mod_two_pow, Nat.testBit_shiftRight]; rfl

/-- The written field reads as what was written, modulo its size. -/
theorem fld_setFld_self {n : Nat} (v : BitVec n) (lo len x : Nat) (h : lo + len ≤ n) : fld (setFld v lo len x) lo len = x % 2 ^ len := by
  apply Nat.eq_of_testBit_eq; intro j
  rw [testBit_fld, getLsbD_setFld, Nat.testBit_mod_two_pow]
  by_cases hj : j < len
  · rw [if_pos (by omega)]; simp [hj]; intro; omega
  · simp [hj]

/-- A field apart from the written one. -/
theorem fld_setFld_ne {n : Nat} (v : BitVec n) (lo len x lo' len' : Nat) (h : lo' + len' ≤ lo ∨ lo + len ≤ lo') :
    fld (setFld v lo len x) lo' len' = fld v lo' len' := by
  apply Nat.eq_of_testBit_eq; intro j
  rw [testBit_fld, testBit_fld, getLsbD_setFld]
  by_cases hj : j < len'
  · rw [if_neg (by omega)]
  · simp [hj]

theorem fld_lt {n : Nat} (v : BitVec n) (lo len : Nat) : fld v lo len < 2 ^ len := Nat.mod_lt _ (Nat.two_pow_pos _)

theorem fld_eq_bit {n : Nat} (v : BitVec n) (i : Nat) : fld v i 1 = b2n (bit v i) := by
  apply Nat.eq_of_testBit_eq; intro j
  rw [testBit_fld]
  cases j with
  | zero => unfold bit b2n; cases v.getLsbD i <;> simp_all
  | succ j => unfold b2n; cases bit v i <;> simp [Nat.testBit_succ]

theorem satAdd_eq (top a b : Nat) : satAdd top a b = min top (a + b) := by unfold satAdd; split <;> omega

/-! Registers. -/

@[simp] theorem State.rf_rput_same (s : State) (g : Reg) (v : RegVal) (lo len : Nat) : (s.rput g v).rf g lo len = fld v lo len := by
  unfold State.rf; rw [State.rget_rput_same]
@[simp] theorem State.rb_rput_same (s : State) (g : Reg) (v : RegVal) (i : Nat) : (s.rput g v).rb g i = bit v i := by
  unfold State.rb; rw [State.rget_rput_same]
theorem State.rf_rput_ne (s : State) (g h : Reg) (v : RegVal) (lo len : Nat) (hne : h.addr ≠ g.addr) : (s.rput g v).rf h lo len = s.rf h lo len := by
  unfold State.rf; rw [State.rget_rput_ne _ _ _ _ hne]
theorem State.rb_rput_ne (s : State) (g h : Reg) (v : RegVal) (i : Nat) (hne : h.addr ≠ g.addr) : (s.rput g v).rb h i = s.rb h i := by
  unfold State.rb; rw [State.rget_rput_ne _ _ _ _ hne]

theorem State.rb_rsetb_self (s : State) (g : Reg) (i : Nat) (b : Bool) (h : i < 64) : (s.rsetb g i b).rb g i = b := by
  unfold State.rsetb; rw [State.rb_rput_same]; exact bit_setBit_self _ _ _ h
theorem State.rb_rsetb_bit (s : State) (g : Reg) (i j : Nat) (b : Bool) (h : j ≠ i) : (s.rsetb g i b).rb g j = s.rb g j := by
  unfold State.rsetb; rw [State.rb_rput_same]; exact bit_setBit_ne _ _ _ _ h
theorem State.rf_rsetb (s : State) (g : Reg) (i : Nat) (b : Bool) (lo len : Nat) (h : lo + len ≤ i ∨ i + 1 ≤ lo) : (s.rsetb g i b).rf g lo len = s.rf g lo len := by
  unfold State.rsetb; rw [State.rf_rput_same]; exact fld_setFld_ne _ _ _ _ _ _ h
theorem State.rf_rsetf_self (s : State) (g : Reg) (lo len x : Nat) (h : lo + len ≤ 64) : (s.rsetf g lo len x).rf g lo len = x % 2 ^ len := by
  unfold State.rsetf; rw [State.rf_rput_same]; exact fld_setFld_self _ _ _ _ h
theorem State.rf_rsetf_ne (s : State) (g : Reg) (lo len x lo' len' : Nat) (h : lo' + len' ≤ lo ∨ lo + len ≤ lo') :
    (s.rsetf g lo len x).rf g lo' len' = s.rf g lo' len' := by
  unfold State.rsetf; rw [State.rf_rput_same]; exact fld_setFld_ne _ _ _ _ _ _ h
theorem State.rb_rsetf (s : State) (g : Reg) (lo len x i : Nat) (h : i < lo ∨ lo + len ≤ i) : (s.rsetf g lo len x).rb g i = s.rb g i := by
  unfold State.rsetf; rw [State.rb_rput_same]; exact bit_setFld _ _ _ _ _ h
theorem State.rget_rsetb_ne (s : State) (g h : Reg) (i : Nat) (b : Bool) (hne : h.addr ≠ g.addr) : (s.rsetb g i b).rget h = s.rget h :=
  State.rget_rput_ne _ _ _ _ hne
theorem State.rget_rsetf_ne (s : State) (g h : Reg) (lo len x : Nat) (hne : h.addr ≠ g.addr) : (s.rsetf g lo len x).rget h = s.rget h :=
  State.rget_rput_ne _ _ _ _ hne

theorem State.rb_sticky_self (s : State) (g : Reg) (i : Nat) (h : i < 64) : (s.sticky g i).rb g i = true := State.rb_rsetb_self s g i true h
theorem State.rb_sticky_bit (s : State) (g : Reg) (i j : Nat) (h : j ≠ i) : (s.sticky g i).rb g j = s.rb g j := State.rb_rsetb_bit s g i j true h
theorem State.rget_sticky_ne (s : State) (g h : Reg) (i : Nat) (hne : h.addr ≠ g.addr) : (s.sticky g i).rget h = s.rget h :=
  State.rget_rput_ne _ _ _ _ hne
theorem State.rf_sticky (s : State) (g : Reg) (i lo len : Nat) (h : lo + len ≤ i ∨ i + 1 ≤ lo) : (s.sticky g i).rf g lo len = s.rf g lo len :=
  State.rf_rsetb s g i true lo len h

/-- A saturating counter after a count. -/
theorem State.rf_count_self (s : State) (g : Reg) (lo len k : Nat) (h : lo + len ≤ 64) :
    (s.count g lo len k).rf g lo len = min (2 ^ len - 1) (s.rf g lo len + k) := by
  unfold State.count
  rw [State.rf_rsetf_self _ _ _ _ _ h, satAdd_eq]
  have := Nat.two_pow_pos len
  exact Nat.mod_eq_of_lt (by omega)
theorem State.rf_count_ne (s : State) (g : Reg) (lo len k lo' len' : Nat) (h : lo' + len' ≤ lo ∨ lo + len ≤ lo') :
    (s.count g lo len k).rf g lo' len' = s.rf g lo' len' := State.rf_rsetf_ne _ _ _ _ _ _ _ h
theorem State.rb_count (s : State) (g : Reg) (lo len k i : Nat) (h : i < lo ∨ lo + len ≤ i) : (s.count g lo len k).rb g i = s.rb g i :=
  State.rb_rsetf _ _ _ _ _ _ h
theorem State.rget_count_ne (s : State) (g h : Reg) (lo len k : Nat) (hne : h.addr ≠ g.addr) : (s.count g lo len k).rget h = s.rget h :=
  State.rget_rput_ne _ _ _ _ hne

end Sys2Proof.Machine
end

