-- ==== Sys2Proof/WellFormed.lean ====
section
/-! DEFINITION. Which commands are well formed: the conditions on operands that their types do not say already. A meaning answers for an ill-formed command too; what it does there stands for nothing in the manual. -/

namespace Sys2Proof

/-- R32, R186, R304: an issuer that exists: one of four cores, a port of a cluster of the package, or a logical port of a package of the system. -/
def Issuer.wf : Issuer → Bool
  | .core c => decide (c < 4)
  | .ixz => true
  | .debug => true
  | .port r lc p => decide (r < 32) && decide (lc < 16) && decide (p < 4)
  | .remote pkg r lp => decide (pkg < 4096) && decide (r < 32) && decide (lp < 64)

/-- R10, R393: an access of an issuer that exists, at an address of 64 bits. -/
def RegAccess.wf : RegAccess → Bool
  | .flight _ => true
  | .direct iss addr _ => iss.wf && decide (addr < 2 ^ 64)

/-- R209: HOP_CTL.FLUSH is written by an issuer that exists. -/
def FlushFrom.wf : FlushFrom → Bool
  | .flight _ => true
  | .ctl iss _ => iss.wf

/-- R422, R425, R427: a datagram or a mailbox write is shorter than 65,536 bytes. -/
def Arrival.wf : Arrival → Bool
  | .udp _ _ _ b => decide (b.length < 65536)
  | .mailbox _ b => decide (b.length < 65536)
  | .uart b => decide (b.length < 65536)
  | .choval => true

/-- R135, R139, R140: a link that exists: between two neighbouring switches of a region's 5 by 4 mesh or of a die's 4 by 2 mesh, at a die-mesh
switch, or a seam between neighbouring dies of the ring or to the base die. -/
def PlaneLink.wf : PlaneLink → Bool
  | .mesh r a b => decide (r < 32 ∧ a < 20 ∧ b < 20) &&
      ((decide (a / 5 = b / 5) && (a + 1 == b || b + 1 == a)) || a + 5 == b || b + 5 == a)
  | .out r => decide (r < 32)
  | .into r => decide (r < 32)
  | .die d a b => decide (d < 4 ∧ a < 8 ∧ b < 8) && ((decide (a / 4 = b / 4) && (a + 1 == b || b + 1 == a)) || a + 4 == b || b + 4 == a)
  | .seam d e => decide (d < 4 ∧ e < 4) && (e == (d + 1) % 4 || d == (e + 1) % 4)
  | .toBase d => decide (d < 4)
  | .fromBase d => decide (d < 4)

/-- A token's move over a link that exists. -/
def Move.wf : Move → Bool
  | .lane l => l.wf
  | _ => true

/-- R473: a fed load or store has an address of 64 bits. -/
def FedEffect.wf : FedEffect → Bool
  | .inside => true
  | .load addr _ => decide (addr < 2 ^ 64)
  | .store addr _ _ => decide (addr < 2 ^ 64)
  | .scratch _ => true
  | .trap => true

/-- R336: an element that a slice tests, by kind and index: 544 clusters, 128 scratch banks (kinds 1 and 2), 32 links, 24 I/O banks. -/
def elementWf (e : Nat × Nat) : Bool :=
  match e.1 with
  | 0 => decide (e.2 < 544)
  | 1 => decide (e.2 < 128)
  | 2 => decide (e.2 < 128)
  | 3 => decide (e.2 < 32)
  | 4 => decide (e.2 < 24)
  | _ => false

/-- Elements that exist, none twice. -/
def SweepFails.wf (f : SweepFails) : Bool := f.lasting.all elementWf && decide f.lasting.Nodup && f.once.all elementWf && decide f.once.Nodup

/-- R268: the headers in no frame are among the invalid ones. -/
def LostHeaders.wf (h : LostHeaders) : Bool := decide (h.fresh ≤ h.bad)

/-- R289: a training frame has 16 words. -/
def TrainIn.wf (t : TrainIn) : Bool := decide (t.ws.length = 16)

/-- The command's operands name something the part has: issuers and elements that exist, frames of 16 words (R271), distinct flips, session
values that are not zero (R428). -/
def Instr.wf (i : Instr) : Bool :=
  match i with
  | .powerOnReset _ _ => true
  | .vinDipPackageReset => true
  | .prstNAssert => true
  | .thermalTrip _ _ => true
  | .thermalTripRelease => true
  | .bootSequence fails => fails.wf
  | .registerWrite w _ => w.wf
  | .calrun iss => iss.wf
  | .spineCalibration _ => true
  | .reflock => true
  | .phaseInputEdge _ _ _ _ => true
  | .indexEdge _ _ => true
  | .ssiRequest _ _ _ => true
  | .ssiFrame _ _ _ => true
  | .fabricStreamMeasurement _ _ => true
  | .tlyPortCfgWrite iss _ _ _ => iss.wf
  | .tlyDiffWrite iss _ => iss.wf
  | .spineTick => true
  | .standstillTimeout _ => true
  | .missingPulse _ => true
  | .spineFrameArrival _ _ => true
  | .spineFrameMissing _ _ => true
  | .lineEnable iss _ _ => iss.wf
  | .commit iss _ => iss.wf
  | .commitApply _ => true
  | .hold iss _ _ => iss.wf
  | .tokenArrival _ _ _ => true
  | .nop _ _ => true
  | .mov _ _ => true
  | .movh _ _ => true
  | .sel _ _ => true
  | .ptst _ _ => true
  | .ftst _ _ => true
  | .add _ _ => true
  | .adc _ _ => true
  | .sub _ _ => true
  | .sbc _ _ => true
  | .neg _ _ => true
  | .abs _ _ => true
  | .adds _ _ => true
  | .subs _ _ => true
  | .addu _ _ => true
  | .subu _ _ => true
  | .min _ _ => true
  | .max _ _ => true
  | .minu _ _ => true
  | .maxu _ _ => true
  | .sats _ _ => true
  | .satu _ _ => true
  | .clamp _ _ => true
  | .andOp _ _ => true
  | .orOp _ _ => true
  | .xorOp _ _ => true
  | .andn _ _ => true
  | .shl _ _ => true
  | .shr _ _ => true
  | .sar _ _ => true
  | .rol _ _ => true
  | .ror _ _ => true
  | .shlc _ _ => true
  | .fshr _ _ => true
  | .clz _ _ => true
  | .mul _ _ => true
  | .mulh _ _ => true
  | .mulhu _ _ => true
  | .mulsh _ _ => true
  | .ceq _ _ => true
  | .cne _ _ => true
  | .clt _ _ => true
  | .cle _ _ => true
  | .cgt _ _ => true
  | .cge _ _ => true
  | .cltu _ _ => true
  | .cleu _ _ => true
  | .cgtu _ _ => true
  | .cgeu _ _ => true
  | .tst _ _ => true
  | .plt _ _ => true
  | .pge _ _ => true
  | .pwin _ _ => true
  | .rd _ _ => true
  | .wr _ _ => true
  | .mark _ _ => true
  | .reservedOpcode _ _ => true
  | .skippedStep _ _ => true
  | .cellStall _ _ => true
  | .tokenMove m _ => m.wf
  | .stageStall _ _ => true
  | .accessWordSent _ => true
  | .accessReply _ => true
  | .accessCompletionReport _ => true
  | .broadcastToken _ _ => true
  | .bdup _ _ _ => true
  | .gateClose _ => true
  | .gateDrainComplete _ => true
  | .gateRefusal _ => true
  | .coreFabricLoad _ _ _ => true
  | .coreFabricStore _ _ _ _ => true
  | .coreFence _ => true
  | .ftmo _ => true
  | .bmRead _ hits _ => decide hits.Nodup
  | .bmWrite _ => true
  | .bmInitDone _ => true
  | .scratchRead _ _ _ _ => true
  | .scratchWrite _ => true
  | .setAliasWrite _ _ _ _ => true
  | .clearAliasWrite _ _ _ _ => true
  | .bankRound _ => true
  | .scrubVisit _ _ _ _ => true
  | .handover iss _ _ => iss.wf
  | .hdone _ => true
  | .prtReqWrite iss _ _ _ => iss.wf
  | .bankClear iss _ => iss.wf
  | .clrdone _ => true
  | .hopperPush _ => true
  | .pendingPushAccepted _ => true
  | .hopperPop _ _ _ => true
  | .pendingPopServed _ _ _ => true
  | .hopperMark _ => true
  | .rewind _ => true
  | .release _ => true
  | .releasem _ => true
  | .flush w => w.wf
  | .hopperCmdNop _ => true
  | .hopperReservedCmd _ => true
  | .hopWmWrite iss _ _ => iss.wf
  | .markNop _ => true
  | .markLow _ => true
  | .markHigh _ => true
  | .markToggle _ => true
  | .markFloat _ => true
  | .markPark _ => true
  | .wopen _ => true
  | .wclose _ => true
  | .cancel _ => true
  | .markReservedAct _ => true
  | .poisonedPair _ => true
  | .markEvaluation _ _ => true
  | .captureEdge _ _ _ _ _ => true
  | .fpark iss _ _ => iss.wf
  | .pinCtlCancel iss _ => iss.wf
  | .wclr iss _ => iss.wf
  | .supply _ => true
  | .serialFrameReceived _ _ => true
  | .align _ => true
  | .syncerr _ => true
  | .serialWordTransmit _ => true
  | .padSwitchComplete _ => true
  | .blockLock _ _ => true
  | .blockLockLoss _ _ bad => bad.wf
  | .frameReceive _ ws _ _ => decide (ws.length = 16)
  | .replayTimeout _ => true
  | .frameBoundary _ _ => true
  | .readMessage _ _ => true
  | .writeMessage _ _ => true
  | .rdrsp _ _ => true
  | .wrdone _ _ => true
  | .streamMessage _ _ => true
  | .phaseMessage _ => true
  | .mgmtMessage _ => true
  | .mgmtReassemblyTimeout _ => true
  | .linkEnable iss _ => iss.wf
  | .linkDisable iss _ => iss.wf
  | .signalDetect _ _ => true
  | .lockTimeout _ => true
  | .alignComplete _ _ _ => true
  | .alignLimit _ => true
  | .trainFrameReceived _ ws => ws.wf
  | .negotiateTimeout _ => true
  | .retrain iss _ _ => iss.wf
  | .laneTestComplete _ _ _ => true
  | .downtmo _ => true
  | .sysidWrite iss _ => iss.wf
  | .forwarding _ => true
  | .remoteTimeout _ => true
  | .phaseSend _ => true
  | .phaseCoast _ => true
  | .holdoverExpiry _ => true
  | .configCheckError _ _ => true
  | .compareStage _ _ _ _ _ => true
  | .missingTwin _ _ _ => true
  | .evidenceWindowExpiry _ _ => true
  | .spareFramesWritten _ => true
  | .memoryCopyComplete _ => true
  | .synchronisationHold _ => true
  | .unpairedSwap _ => true
  | .tnkAsh iss _ => iss.wf
  | .frameScrub _ _ => true
  | .sliceRequest iss _ _ => iss.wf
  | .sliceComplete _ _ _ => true
  | .sliceBudgetExceeded _ _ _ => true
  | .sliceAbandon _ => true
  | .backgroundSlice => true
  | .fullLoad _ => true
  | .partialLoad _ _ => true
  | .stagingComplete => true
  | .frameWrite _ => true
  | .memoryInitComplete => true
  | .startUpSequence => true
  | .startupWaitLock => true
  | .startupTimeout => true
  | .cmpAbort iss => iss.wf
  | .kcmdWrite iss _ => iss.wf
  | .kcmdErase iss _ => iss.wf
  | .kcmdRevoke iss _ => iss.wf
  | .kcmdOwner iss _ => iss.wf
  | .kcmdRevokeOwner iss _ => iss.wf
  | .kcmdReserved iss _ _ => iss.wf
  | .efuseProgramComplete => true
  | .tamper => true
  | .notarySignComplete => true
  | .msipWrite iss _ _ => iss.wf
  | .gpioSet iss _ _ => iss.wf
  | .gpioClr iss _ _ => iss.wf
  | .privset _ _ => true
  | .privclr _ _ => true
  | .privout _ _ => true
  | .gpioFuncChange iss _ _ => iss.wf
  | .gpioLevelChange iss _ => iss.wf
  | .pinInterruptEdge _ _ _ => true
  | .machineTimer _ => true
  | .watchdogEnable iss _ _ => iss.wf
  | .watchdogKick iss _ _ => iss.wf
  | .watchdogWarn _ => true
  | .watchdogExpiry _ => true
  | .ptpStep iss => iss.wf
  | .ppsOutput => true
  | .ppsInputCapture _ => true
  | .ptpEventTimestamp _ => true
  | .downshift => true
  | .phyRestart iss => iss.wf
  | .ixHello a => a.wf
  | .ixOpen a => a.wf
  | .ixProve a => a.wf
  | .ixClose a => a.wf
  | .ixKeepalive a => a.wf
  | .ixRelay a => a.wf
  | .relayTimeout sid => decide (sid ≠ 0)
  | .ixIdentity a => a.wf
  | .ixHealth a => a.wf
  | .ixViolRead a => a.wf
  | .ixViolClear a => a.wf
  | .ixLoad a => a.wf
  | .ixPushBegin a => a.wf
  | .ixPushData a => a.wf
  | .ixPushEnd a => a.wf
  | .ixAbort a => a.wf
  | .ixRecordWrite a => a.wf
  | .ixRecordCommit a => a.wf
  | .ixRecordRead a => a.wf
  | .ixPowerSet a => a.wf
  | .ixPowerGet a => a.wf
  | .ixRailSet a => a.wf
  | .ixPortSet a => a.wf
  | .ixLineSet a => a.wf
  | .ixLineGet a => a.wf
  | .ixWaitLock a => a.wf
  | .waitLockDone sid => decide (sid ≠ 0)
  | .waitLockLimit sid => decide (sid ≠ 0)
  | .ixFaultRead a => a.wf
  | .ixFaultClear a => a.wf
  | .ixSliceRun a => a.wf
  | .ixAsh a => a.wf
  | .ixReset a => a.wf
  | .resetDelayExpiry => true
  | .ixLinkCtl a => a.wf
  | .ixRead a => a.wf
  | .ixWrite a => a.wf
  | .ixHopPop a => a.wf
  | .ixHopPush a => a.wf
  | .ixHopCmd a => a.wf
  | .ixAttest a => a.wf
  | .ixCert a => a.wf
  | .ixKeyStatus a => a.wf
  | .ixKeyWrite a => a.wf
  | .ixKeyCmd a => a.wf
  | .ixSvnRaise a => a.wf
  | .sessionIdleTimeout sid => decide (sid ≠ 0)
  | .sequenceGapTimeout sid => decide (sid ≠ 0)
  | .domainRequest iss _ _ => iss.wf
  | .domainChangeComplete _ => true
  | .lmpRreq iss _ _ => iss.wf
  | .railWrite iss _ _ => iss.wf
  | .railSettled _ _ => true
  | .powerMeasure _ => true
  | .temperatureMeasure _ _ => true
  | .upFerryToken _ => true
  | .ferryTransferComplete _ => true
  | .unsettled _ => true
  | .pulseToken _ => true
  | .pulseWrite iss _ _ => iss.wf
  | .rxRead iss _ => iss.wf
  | .txWrite iss _ _ => iss.wf
  | .ferryCfgWrite iss _ _ => iss.wf
  | .tapInstruction _ => true
  | .trstN => true
  | .dbgaccRead _ _ => true
  | .dbgaccWrite _ _ _ => true
  | .dbgaccConsumingRead _ _ => true
  | .dbgaccTimeout => true
  | .halt _ _ => true
  | .resume iss _ => iss.wf
  | .feed iss _ _ eff => iss.wf && eff.wf
  | .breakLock iss _ _ => iss.wf
  | .freeze iss _ => iss.wf
  | .freezeComplete _ => true
  | .detach iss => iss.wf
  | .registerRead w => w.wf
  | .vbatLoss => true
  | .flashProgramComplete _ => true
  | .managementPortLink _ _ _ => true
  | .gpioLevelHoldEnd _ => true
  | .ixDropped a => a.wf
  | .ixBadOpcode a => a.wf
  | .boundaryRegisterUpdate _ => true

end Sys2Proof
end

