-- ==== Sys2Proof/Tests/Slice0.lean ====
section
/-! SUPPORT. Tests: each check of well-formedness refuses an ill-formed command; and for each statement with hypotheses states and operands that
meet them, at values where its cases meet, with what one command then does. -/

namespace Sys2Proof.Tests
open Sys2Proof Sys2Proof.Machine

set_option Elab.async false

/-- The state after a command. -/
def after (c : Instr) (s : State) : State :=
  match exec c s with
  | .next t => t
  | .fault _ => s
  | .refused _ => s

/-- The command leaves registers, cells, flights and lines as they are. -/
abbrev idle (c : Instr) (s : State) : Prop :=
  (after c s).regs = s.regs ∧ (after c s).cells = s.cells ∧ (after c s).flights = s.flights ∧ (after c s).tlines = s.tlines

/-- Region r runs: its gate open, its domains lit. -/
def running (r : Nat) (s : State) : State :=
  (s.setRegion r { gate := false, reset := false, loaded := true, out := true }).rput (lmpDom (728 + r / 8)) 0

/-- Domain n is Lit. -/
def lit (n : Nat) (s : State) : State := s.rput (lmpDom n) 0

/-- Latch bytes of a frame. -/
def latched (kind elem index b : Nat) (l : List Byte) (s : State) : State :=
  { s with cfg := Store.putBytes s.cfg (cfgKey kind elem index b) l }

/-! Well-formedness: each check refuses. -/

theorem test_wf_issuer : (Instr.lmpRreq (.core 4) 0 0).wf = false ∧ (Instr.lmpRreq (.port 32 0 0) 0 0).wf = false ∧ (Instr.lmpRreq (.port 0 16 0) 0 0).wf = false ∧ (Instr.lmpRreq (.port 0 0 4) 0 0).wf = false ∧ (Instr.lmpRreq (.remote 4096 0 0) 0 0).wf = false ∧
    (Instr.lmpRreq (.remote 0 32 0) 0 0).wf = false ∧ (Instr.lmpRreq (.remote 0 0 64) 0 0).wf = false ∧ (Instr.lmpRreq (.remote 4095 31 63) 0 0).wf = true ∧ (Instr.lmpRreq .debug 0 0).wf = true := by decide
theorem test_wf_access : (Instr.registerRead (.direct .ixz (2 ^ 64) .b32)).wf = false ∧ (Instr.registerRead (.direct (.core 9) 0 .b32)).wf = false ∧ (Instr.registerRead (.direct .ixz (2 ^ 64 - 1) .b32)).wf = true ∧ (FlushFrom.ctl (.core 4) 0).wf = false := by decide
theorem test_wf_arrival : (Arrival.mailbox 0 (List.replicate 3 0)).wf = true ∧ (Arrival.choval).wf = true ∧ ∀ b : List Byte, 65536 ≤ b.length → (Instr.ixHello (.mailbox 0 b)).wf = false ∧ (Instr.ixHello (.udp 0 0 false b)).wf = false ∧ (Instr.ixHello (.uart b)).wf = false :=
  ⟨by decide, by decide, fun b h => ⟨decide_eq_false (Nat.not_lt.mpr h), decide_eq_false (Nat.not_lt.mpr h), decide_eq_false (Nat.not_lt.mpr h)⟩⟩
theorem test_wf_links : (PlaneLink.mesh 0 4 5).wf = false ∧ (PlaneLink.mesh 0 0 1).wf = true ∧ (PlaneLink.mesh 32 0 1).wf = false ∧ (PlaneLink.out 32).wf = false ∧ (PlaneLink.into 32).wf = false ∧ (PlaneLink.die 0 3 4).wf = false ∧ (PlaneLink.die 0 0 4).wf = true ∧ (PlaneLink.seam 0 2).wf = false ∧
    (PlaneLink.seam 3 0).wf = true ∧ (PlaneLink.toBase 4).wf = false ∧ (PlaneLink.fromBase 4).wf = false ∧ (Move.lane (.out 32)).wf = false := by decide
theorem test_wf_fed : (FedEffect.load (2 ^ 64) .b32).wf = false ∧ (FedEffect.store (2 ^ 64) .b32 0).wf = false ∧ FedEffect.trap.wf = true := by decide
theorem test_wf_elements : (Instr.bootSequence ⟨[(0, 544)], []⟩).wf = false ∧ (Instr.bootSequence ⟨[(1, 128)], []⟩).wf = false ∧ (Instr.bootSequence ⟨[], [(3, 32)]⟩).wf = false ∧ (Instr.bootSequence ⟨[(4, 24)], []⟩).wf = false ∧ (Instr.bootSequence ⟨[(5, 0)], []⟩).wf = false ∧ (Instr.bootSequence ⟨[(2, 7), (2, 7)], []⟩).wf = false ∧
    (Instr.bootSequence ⟨[(0, 543), (2, 127)], [(3, 31)]⟩).wf = true := by decide
theorem test_wf_own : (Instr.bmRead 0 [0, 0] false).wf = false ∧ (Instr.blockLockLoss 0 0 ⟨3, 4⟩).wf = false ∧ (Instr.blockLockLoss 0 0 ⟨4, 4⟩).wf = true ∧ (Instr.frameReceive 0 (List.replicate 15 0) ⟨0, 0, false⟩ 0).wf = false ∧ (Instr.trainFrameReceived 0 ⟨List.replicate 17 0, 0, 0⟩).wf = false ∧
    (Instr.relayTimeout 0).wf = false ∧ (Instr.waitLockDone 0).wf = false ∧ (Instr.waitLockLimit 0).wf = false ∧ (Instr.sessionIdleTimeout 0).wf = false ∧ (Instr.sequenceGapTimeout 0).wf = false ∧ (Instr.sequenceGapTimeout 1).wf = true ∧
    (Instr.tokenMove (.lane (.toBase 4)) 0).wf = false ∧ (Instr.flush (.ctl (.core 4) 0)).wf = false ∧ (Instr.flush (.flight 3)).wf = true := by decide
/-! The block as a whole. -/

theorem test_StepTakesTheFront : ({ State.reset with pending := [.reflock] } : State).pending = .reflock :: [] ∧
    step { State.reset with pending := [.reflock] } = exec .reflock State.reset := by exact ⟨rfl, rfl⟩
theorem test_step_idles : State.reset.pending = [] ∧ step State.reset = .next State.reset := ⟨rfl, rfl⟩
theorem test_StepsKeepForm : Canonical State.reset ∧ step State.reset = .next State.reset := by
  refine ⟨?_, rfl⟩; constructor <;> decide
theorem test_FusesStayBlown : step { State.reset with fwsvn := 3, tkrev := true } = .next { State.reset with fwsvn := 3, tkrev := true } := rfl

/-- An access of the fabric sets out; then reserved space of the core view, a wrong width, a key register, a plain read and write. -/
theorem test_read_fabric : DirectTaken State.reset .ixz 0x100804004 false ∧ (placeOf 0x100804004).region = some 0 ∧
    (after (.registerRead (.direct .ixz 0x100804004 .b32)) State.reset).flights.map (fun f => (f.id, f.tc, f.addr)) = [(State.reset.nextId, 3, 0x100804004)] :=
  ⟨⟨.inl rfl, .inr (by decide)⟩, by decide, by decide⟩
theorem test_read_nowhere : DirectTaken State.reset (.core 3) 0x1FFFFFFC false ∧ placeOf 0x1FFFFFFC = .nowhere ∧
    (after (.registerRead (.direct (.core 3) 0x1FFFFFFC .b32)) State.reset).rf (irqReg 0x38) 0 16 = 1 :=
  ⟨⟨.inr (.inr ⟨3, rfl, by decide⟩), .inr (by decide)⟩, by decide, by decide⟩
theorem test_read_width : placeOf 0x20000000 = .reg (gpioReg 0) ∧ (placeOf 0x20000000).region = none ∧ ((gpioReg 0).info.getD {}).width = .b32 ∧
    (after (.registerRead (.direct .ixz 0x20000000 .b64)) State.reset).rf (violOf .gpio 0) 0 16 = 1 ∧
    (after (.registerRead (.direct (.core 0) 0x20000000 .b8)) State.reset).rf (violOf .gpio 0) 0 16 = 1 := by decide
theorem test_read_key : placeOf 0x20040020 = .reg (lsmReg 0x20) ∧ State.reset.keyRead .ixz (lsmReg 0x20) = true ∧
    (after (.registerRead (.direct .ixz 0x20040020 .b32)) State.reset).rf (lsmReg 0x10) 0 16 = 1 := by decide
theorem test_read_plain : State.reset.keyRead (.core 0) (gpioReg 0) = false ∧ (after (.registerRead (.direct (.core 0) 0x20000000 .b32)) State.reset).rdata = 0 := by
  decide
theorem test_read_not : ¬ DirectTaken State.reset .debug 0x20000000 false ∧ idle (.registerRead (.direct .debug 0x20000000 .b32)) State.reset :=
  ⟨by simp [DirectTaken], by decide⟩
theorem test_write_fabric : DirectTaken State.reset .debug 0x100804004 true ∧
    ((after (.registerWrite (.direct .debug 0x100804004 .b32) 1) State.reset).flights.map (·.data.d)) = [1] := ⟨⟨.inr (.inl ⟨rfl, rfl⟩), .inr (by decide)⟩, by decide⟩
theorem test_write_width : (after (.registerWrite (.direct .ixz 0x20000000 .b64) 1) State.reset).rf (violOf .gpio 0) 0 16 = 1 := by decide
theorem test_write_plain : placeOf 0x20050080 = .reg ⟨.tnkBase, 0, 0x80⟩ ∧ (placeOf 0x20050080).region = none ∧
    (after (.registerWrite (.direct .ixz 0x20050080 .b32) 2) (State.reset.rput ⟨.tnkBase, 0, 0x80⟩ 6)).rget ⟨.tnkBase, 0, 0x80⟩ = 4 := by decide

/-- An access in flight at the register gate of region 0. -/
def inFlight (f : Flight) : State := { running 0 State.reset with flights := [f] }
def rd : Flight := { id := 7, iss := .ixz, addr := 0x100804004, kind := .read }
theorem test_flight_read : (inFlight rd).flight 7 = some rd ∧ placeOf rd.addr = .reg (meshReg 0 4) ∧ (placeOf rd.addr).region = some 0 ∧ (inFlight rd).gateReady rd = true ∧
    ((after (.registerRead (.flight 7)) (inFlight rd)).flights.map (·.ans)) = [some (.word {})] := by decide +kernel
theorem test_flight_poison : (inFlight { rd with poison := true }).gateReady { rd with poison := true } = true ∧
    ((after (.registerRead (.flight 7)) (inFlight { rd with poison := true })).flights.map (·.ans)) = [some (.word { p := true })] := by decide
theorem test_flight_wide : ((after (.registerRead (.flight 7)) (inFlight { rd with w := .b64 })).rf (meshReg 0 8) 0 16,
    (after (.registerRead (.flight 7)) (inFlight { rd with w := .b64 })).rf (violOf .mesh 0) 0 16) = (0, 1) := by decide
theorem test_flight_write : (inFlight { rd with kind := .write }).gateReady { rd with kind := .write } = true ∧
    ((after (.registerWrite (.flight 7) 0) (inFlight { rd with kind := .write })).flights.map (·.ans)) = [some .done] := by decide
theorem test_flight_window : let f := { rd with addr := 0x1008FFFFC }
    placeOf f.addr = .win 0 ∧ (inFlight f).gateReady f = true ∧ (after (.registerRead (.flight 7)) (inFlight f)).rf ⟨.tnk, 0, 0x28⟩ 0 16 = 1 := by decide
theorem test_flight_other : idle (.registerRead (.flight 7)) (inFlight { rd with kind := .write }) := by decide
/-! Cells. -/

/-- Cell 1 of region 0 enabled and not held, slot 0 with the opcode, SRCA IA, SRCB IB, DST W0, no outputs and IMM; a token in IA and in IB, and
cin = 1 with word 1 on the carry link in. -/
def cellState (op imm : Nat) (a b : Word) : State :=
  let w := op * 2 ^ 40 + 1 * 2 ^ 32 + 4 * 2 ^ 28 + imm
  let s := latched 0 0 0 128 (leBytes 6 w) (latched 0 0 0 (128 + 64) [1] (lit 0 (running 0 State.reset)))
  (s.setCell 0 { link := some ⟨true, 1, false⟩ }).setCell 1 { s0 := some { d := a }, s1 := some { d := b } }

/-- The same with its next step's opcode ready, said of every opcode at once. -/
theorem test_cells_ready : ∀ e ∈ cellOps, StepReady (cellState e.1 0 5 6) 1 e.1 := by simp only [StepReady]; decide
theorem test_cells_wait : ∀ e ∈ cellOps, ¬ StepReady ((cellState e.1 0 5 6).setCell 1 {}) 1 e.1 := by simp only [StepReady]; decide
theorem test_nop : ((after (.nop 1 .clean) (cellState 0x00 0x0 0x5 0x6)).cell 1).w0 = 0 ∧ ((after (.nop 1 .clean) (cellState 0x00 0x0 0x5 0x6)).cell 1).steps = 1 ∧ ((after (.nop 1 .clean) (cellState 0x00 0x0 0x5 0x6)).cell 1).s0 = none := by decide
theorem test_mov : ((after (.mov 1 .clean) (cellState 0x01 0x0 0x12345678 0x6)).cell 1).w0 = 0x12345678 := by decide
theorem test_movh : ((after (.movh 1 .clean) (cellState 0x02 0x1234 0xAAAA5678 0x6)).cell 1).w0 = 0x12345678 := by decide
theorem test_sel : ((after (.sel 1 .clean) (cellState 0x03 0x0 0x7 0x9)).cell 1).w0 = 7 := by decide
theorem test_ptst : ((after (.ptst 1 .clean) (cellState 0x04 0x0 0x7 0x9)).cell 1).w0 = 0 ∧ ((after (.ptst 1 .clean) (cellState 0x04 0x0 0x7 0x9)).cell 1).cp = false := by decide
theorem test_ftst : ((after (.ftst 1 .clean) (cellState 0x05 0x0 0x7 0x9)).cell 1).w0 = 0 ∧ ((after (.ftst 1 .clean) (cellState 0x05 0x0 0x7 0x9)).cell 1).cp = false := by decide
theorem test_add : ((after (.add 1 .clean) (cellState 0x10 0x0 0xFFFFFFFF 0x2)).cell 1).w0 = 1 := by decide
theorem test_adc : ((after (.adc 1 .clean) (cellState 0x11 0x0 0xFFFFFFFF 0x0)).cell 1).w0 = 0 ∧ ((after (.adc 1 .clean) (cellState 0x11 0x0 0xFFFFFFFF 0x0)).cell 1).cp = true := by decide
theorem test_sub : ((after (.sub 1 .clean) (cellState 0x12 0x0 0x3 0x5)).cell 1).w0 = 0xFFFFFFFE := by decide
theorem test_sbc : ((after (.sbc 1 .clean) (cellState 0x13 0x0 0x5 0x3)).cell 1).w0 = 2 ∧ ((after (.sbc 1 .clean) (cellState 0x13 0x0 0x5 0x3)).cell 1).cp = true := by decide
theorem test_neg : ((after (.neg 1 .clean) (cellState 0x14 0x0 0x80000000 0x0)).cell 1).w0 = 0x80000000 := by decide
theorem test_abs : ((after (.abs 1 .clean) (cellState 0x15 0x0 0x80000000 0x0)).cell 1).w0 = 0x7FFFFFFF := by decide
theorem test_adds : ((after (.adds 1 .clean) (cellState 0x16 0x0 0x7FFFFFFF 0x1)).cell 1).w0 = 0x7FFFFFFF := by decide
theorem test_subs : ((after (.subs 1 .clean) (cellState 0x17 0x0 0x80000000 0x1)).cell 1).w0 = 0x80000000 := by decide
theorem test_addu : ((after (.addu 1 .clean) (cellState 0x18 0x0 0xFFFFFFFF 0x1)).cell 1).w0 = 0xFFFFFFFF := by decide
theorem test_subu : ((after (.subu 1 .clean) (cellState 0x19 0x0 0x1 0x2)).cell 1).w0 = 0 := by decide
theorem test_min : ((after (.min 1 .clean) (cellState 0x20 0x0 0xFFFFFFFF 0x1)).cell 1).w0 = 0xFFFFFFFF := by decide
theorem test_max : ((after (.max 1 .clean) (cellState 0x21 0x0 0xFFFFFFFF 0x1)).cell 1).w0 = 1 := by decide
theorem test_minu : ((after (.minu 1 .clean) (cellState 0x22 0x0 0xFFFFFFFF 0x1)).cell 1).w0 = 1 := by decide
theorem test_maxu : ((after (.maxu 1 .clean) (cellState 0x23 0x0 0xFFFFFFFF 0x1)).cell 1).w0 = 0xFFFFFFFF := by decide
theorem test_sats : ((after (.sats 1 .clean) (cellState 0x24 0x0 0x80 0x8)).cell 1).w0 = 127 := by decide
theorem test_satu : ((after (.satu 1 .clean) (cellState 0x25 0x0 0xFFFFFFFF 0x20)).cell 1).w0 = 0 := by decide
theorem test_clamp : ((after (.clamp 1 .clean) (cellState 0x26 0x0 0x80000000 0x80000000)).cell 1).w0 = 0x80000001 := by decide
theorem test_andOp : ((after (.andOp 1 .clean) (cellState 0x30 0x0 0xC 0xA)).cell 1).w0 = 8 := by decide
theorem test_orOp : ((after (.orOp 1 .clean) (cellState 0x31 0x0 0xC 0xA)).cell 1).w0 = 14 := by decide
theorem test_xorOp : ((after (.xorOp 1 .clean) (cellState 0x32 0x0 0xC 0xA)).cell 1).w0 = 6 := by decide
theorem test_andn : ((after (.andn 1 .clean) (cellState 0x33 0x0 0xC 0xA)).cell 1).w0 = 4 := by decide
theorem test_shl : ((after (.shl 1 .clean) (cellState 0x34 0x0 0x80000001 0x21)).cell 1).w0 = 2 := by decide
theorem test_shr : ((after (.shr 1 .clean) (cellState 0x35 0x0 0x80000000 0x1F)).cell 1).w0 = 1 := by decide
theorem test_sar : ((after (.sar 1 .clean) (cellState 0x36 0x0 0x80000000 0x1F)).cell 1).w0 = 0xFFFFFFFF := by decide
theorem test_rol : ((after (.rol 1 .clean) (cellState 0x37 0x0 0x80000001 0x4)).cell 1).w0 = 0x18 := by decide
theorem test_ror : ((after (.ror 1 .clean) (cellState 0x38 0x0 0x80000001 0x4)).cell 1).w0 = 0x18000000 := by decide
theorem test_shlc : ((after (.shlc 1 .clean) (cellState 0x39 0x0 0x1 0x4)).cell 1).w0 = 0x11 := by decide
theorem test_fshr : ((after (.fshr 1 .clean) (cellState 0x3A 0x4 0x10 0x1)).cell 1).w0 = 0x10000001 := by decide
theorem test_clz : ((after (.clz 1 .clean) (cellState 0x3B 0x0 0x0 0x0)).cell 1).w0 = 32 := by decide
theorem test_mul : ((after (.mul 1 .clean) (cellState 0x40 0x0 0xFFFFFFFF 0x3)).cell 1).w0 = 0xFFFFFFFD := by decide
theorem test_mulh : ((after (.mulh 1 .clean) (cellState 0x41 0x0 0xFFFFFFFF 0x3)).cell 1).w0 = 0xFFFFFFFF := by decide
theorem test_mulhu : ((after (.mulhu 1 .clean) (cellState 0x42 0x0 0xFFFFFFFF 0x3)).cell 1).w0 = 2 := by decide
theorem test_mulsh : ((after (.mulsh 1 .clean) (cellState 0x43 0x50 0x18000 0x3)).cell 1).w0 = 5 := by decide
theorem test_ceq : ((after (.ceq 1 .clean) (cellState 0x50 0x0 0x5 0x5)).cell 1).w0 = 1 ∧ ((after (.ceq 1 .clean) (cellState 0x50 0x0 0x5 0x5)).cell 1).cp = true := by decide
theorem test_cne : ((after (.cne 1 .clean) (cellState 0x51 0x0 0x5 0x5)).cell 1).w0 = 0 ∧ ((after (.cne 1 .clean) (cellState 0x51 0x0 0x5 0x5)).cell 1).cp = false := by decide
theorem test_clt : ((after (.clt 1 .clean) (cellState 0x52 0x0 0xFFFFFFFF 0x0)).cell 1).w0 = 1 ∧ ((after (.clt 1 .clean) (cellState 0x52 0x0 0xFFFFFFFF 0x0)).cell 1).cp = true := by decide
theorem test_cle : ((after (.cle 1 .clean) (cellState 0x53 0x0 0x5 0x5)).cell 1).w0 = 1 ∧ ((after (.cle 1 .clean) (cellState 0x53 0x0 0x5 0x5)).cell 1).cp = true := by decide
theorem test_cgt : ((after (.cgt 1 .clean) (cellState 0x54 0x0 0x5 0x5)).cell 1).w0 = 0 ∧ ((after (.cgt 1 .clean) (cellState 0x54 0x0 0x5 0x5)).cell 1).cp = false := by decide
theorem test_cge : ((after (.cge 1 .clean) (cellState 0x55 0x0 0x5 0x5)).cell 1).w0 = 1 ∧ ((after (.cge 1 .clean) (cellState 0x55 0x0 0x5 0x5)).cell 1).cp = true := by decide
theorem test_cltu : ((after (.cltu 1 .clean) (cellState 0x56 0x0 0xFFFFFFFF 0x0)).cell 1).w0 = 0 ∧ ((after (.cltu 1 .clean) (cellState 0x56 0x0 0xFFFFFFFF 0x0)).cell 1).cp = false := by decide
theorem test_cleu : ((after (.cleu 1 .clean) (cellState 0x57 0x0 0x0 0xFFFFFFFF)).cell 1).w0 = 1 ∧ ((after (.cleu 1 .clean) (cellState 0x57 0x0 0x0 0xFFFFFFFF)).cell 1).cp = true := by decide
theorem test_cgtu : ((after (.cgtu 1 .clean) (cellState 0x58 0x0 0xFFFFFFFF 0x0)).cell 1).w0 = 1 ∧ ((after (.cgtu 1 .clean) (cellState 0x58 0x0 0xFFFFFFFF 0x0)).cell 1).cp = true := by decide
theorem test_cgeu : ((after (.cgeu 1 .clean) (cellState 0x59 0x0 0x0 0xFFFFFFFF)).cell 1).w0 = 0 ∧ ((after (.cgeu 1 .clean) (cellState 0x59 0x0 0x0 0xFFFFFFFF)).cell 1).cp = false := by decide
theorem test_tst : ((after (.tst 1 .clean) (cellState 0x5A 0x0 0x4 0x3)).cell 1).w0 = 0 ∧ ((after (.tst 1 .clean) (cellState 0x5A 0x0 0x4 0x3)).cell 1).cp = false := by decide
theorem test_plt : ((after (.plt 1 .clean) (cellState 0x5C 0x0 0x0 0x80000000)).cell 1).w0 = 1 ∧ ((after (.plt 1 .clean) (cellState 0x5C 0x0 0x0 0x80000000)).cell 1).cp = true := by decide
theorem test_pge : ((after (.pge 1 .clean) (cellState 0x5D 0x0 0x7FFFFFFF 0x0)).cell 1).w0 = 1 ∧ ((after (.pge 1 .clean) (cellState 0x5D 0x0 0x7FFFFFFF 0x0)).cell 1).cp = true := by decide
theorem test_pwin : ((after (.pwin 1 .clean) (cellState 0x5E 0xA 0xA 0x0)).cell 1).w0 = 0 ∧ ((after (.pwin 1 .clean) (cellState 0x5E 0xA 0xA 0x0)).cell 1).cp = false := by decide
theorem test_rd : ((after (.rd 1 .clean) (cellState 0x60 0x25 0xAA123456 0x0)).cell 1).w0 = 0x25123456 := by decide
theorem test_wr : ((after (.wr 1 .clean) (cellState 0x61 0x3 0x4 0x9)).cell 1).w0 = 0x43000004 := by decide
theorem test_mark : ((after (.mark 1 .clean) (cellState 0x62 0x2001 0x1234 0x0)).cell 1).w0 = 0x1234 := by decide

/-- A step whose PRED skips it, a reserved opcode, and tokens to arrive at an empty slot. -/
def predState : State := latched 0 0 0 130 [4] (cellState 0x01 0 5 6)
theorem test_skippedStep : predState.operandsReady 1 (predState.slotNow 1) = true ∧ opDefined (predState.slotNow 1).op = true ∧
    (predState.cell 1).runs (predState.slotNow 1) = false ∧ ((after (.skippedStep 1 .clean) predState).cell 1).steps = 1 := by decide
theorem test_reservedOpcode : (cellState 0x5B 0 5 6).operandsReady 1 ((cellState 0x5B 0 5 6).slotNow 1) = true ∧ opDefined ((cellState 0x5B 0 5 6).slotNow 1).op = false ∧
    ((after (.reservedOpcode 1 .clean) (cellState 0x5B 0 5 6)).cell 1).steps = 1 := by decide
/-- Input IA of cell 1 selects OX of cell 0, which holds a token. -/
def arriving : State :=
  let s := latched 0 0 0 (128 + 0x41) [0] (cellState 0x01 0 5 6)
  (s.setCell 0 { ox := { tok := some { d := 42 } } }).setCell 1 {}
theorem test_tokenArrival : arriving.cellEn 1 = true ∧ arriving.cluHeld 0 = false ∧ (arriving.cell 1).port 0 = none ∧ arriving.offered 0 4 = some { d := 42 } ∧
    ((after (.tokenArrival 1 0 0) arriving).cell 1).s0 = some { d := 42 } := by decide
theorem test_transient : (after (.mov 1 .transient) (cellState 0x01 0 5 6)).rf (tnkErr 0) 16 16 = 1 := by decide
theorem test_cellStall : (cellState 0x01 0 5 6).fired 1 = true ∧ (after (.cellStall 1 false) (cellState 0x01 0 5 6)).rb (cellStat 1) 31 = true ∧
    State.reset.fired 1 = false ∧ idle (.cellStall 1 false) State.reset := by decide
/-- A SEL whose operand not selected, the carry link in, has P = 1. -/
def selState : State :=
  let s := latched 0 0 0 132 [0x0A] (cellState 0x03 0 5 6)
  s.setCell 0 { link := some ⟨false, 1, true⟩ }
theorem test_sel_clean : ((after (.sel 1 .clean) selState).cell 1).w0 = 5 ∧ bit ((after (.sel 1 .clean) selState).cell 1).wp 0 = false := by decide
/-! The Tally. -/

/-- The reference locked; port 0 enabled with a TYPE and more of CFG, NUM = 1,000 and DEN = 3; line 0 runs and follows it. -/
def tally (typ cfg : Nat) : State :=
  let s := (State.reset.rput tlyStat 1).rput (piReg 0 0) (BitVec.ofNat 64 (2 ^ 31 + typ * 2 ^ 24 + cfg))
  ((s.rput (piReg 0 8) 1000).rput (piReg 0 4) 0x30000).setTline 0 { run := true }
theorem test_edge_forward : (tally 1 0).piActive 0 = true ∧ (tally 1 0).piType 0 = 1 ∧ ((after (.phaseInputEdge 0 1 ⟨100, 1⟩ false) (tally 1 0)).tport 0).count = 1 ∧
    ((after (.phaseInputEdge 0 1 ⟨100, 1⟩ false) (tally 1 0)).tport 0).pos = 333 ∧ ((after (.phaseInputEdge 0 1 ⟨100, 1⟩ false) (tally 1 0)).tport 0).rem = 1 := by decide
theorem test_edge_back : ((after (.phaseInputEdge 0 2 ⟨100, 1⟩ false) (tally 1 0)).tport 0).count = 0xFFFFFFFF ∧ (((after (.phaseInputEdge 0 2 ⟨100, 1⟩ false) (tally 1 0)).tline 0).meas.map (·.ts)) = some 100 := by decide
theorem test_edge_illegal : ((after (.phaseInputEdge 0 3 ⟨100, 1⟩ false) (tally 1 0)).tport 0).count = 2 ∧ (after (.phaseInputEdge 0 3 ⟨100, 1⟩ false) (tally 1 0)).rf (piReg 0 0x28) 8 8 = 2 := by decide
theorem test_edge_direction : (tally 2 0).piType 0 = 2 ∧ ((after (.phaseInputEdge 0 1 ⟨100, 1⟩ false) (tally 2 0)).tport 0).count = 0xFFFFFFFF ∧
    ((after (.phaseInputEdge 0 3 ⟨100, 1⟩ false) (tally 2 0)).tport 0).count = 1 := by decide
theorem test_edge_pulse : (tally 3 0).piType 0 = 3 ∧ ((after (.phaseInputEdge 0 1 ⟨100, 1⟩ false) (tally 3 0)).tport 0).count = 1 := by decide
theorem test_edge_zero : (tally 4 0).piType 0 = 4 ∧ ((after (.phaseInputEdge 0 1 ⟨100, 1⟩ false) (tally 4 0)).tport 0).count = 1 ∧
    (((after (.phaseInputEdge 0 1 ⟨100, 1⟩ false) (tally 4 0)).tline 0).meas.map (·.ts)) = some 100 := by decide
theorem test_edge_off : idle (.phaseInputEdge 0 1 ⟨100, 1⟩ false) State.reset ∧ (tally 0 0).piType 0 = 0 ∧ ((after (.phaseInputEdge 0 1 ⟨100, 1⟩ false) (tally 0 0)).tport 0).lv = 1 ∧
    ((after (.phaseInputEdge 0 1 ⟨100, 1⟩ false) (tally 0 0)).tport 0).count = 0 := by decide
/-- R36: FLEN 8: seven samples do not move the levels, eight do. -/
theorem test_edge_filter : let s := (tally 3 0).rput (piReg 0 4) 0x30008
    Accepted s 0 1 7 0 ∧ ((after (.phaseInputEdge 0 1 ⟨100, 7⟩ false) s).tport 0).lv = 0 ∧ Accepted s 0 1 8 1 ∧ ((after (.phaseInputEdge 0 1 ⟨100, 8⟩ false) s).tport 0).count = 1 := by
  simp only [Accepted]; decide
theorem test_edge_twice : ((after (.phaseInputEdge 0 0 ⟨100, 1⟩ true) (tally 3 0)).rb (piReg 0 0x24) 15) = true := by decide
/-- Line 0 is locked and moves, and its last pulse was a sample ago. -/
def early : State := (tally 4 0).setTline 0 { run := true, locked := true, omega := 1, edgeTs := 99 }
theorem test_edge_early : PulseIsEarly early 0 0 100 ∧ ((after (.phaseInputEdge 0 1 ⟨100, 1⟩ false) early).tport 0).count = 0 ∧
    (after (.phaseInputEdge 0 1 ⟨100, 1⟩ false) early).rf (piReg 0 0x28) 16 8 = 1 := by simp only [PulseIsEarly]; decide

/-- ZMODE 0 to 3, ZREF 10 and ZTOL 0 against position 0: a difference of 10; and within ZTOL = 10. -/
def indexed (zm ztol : Nat) : State := (tally 1 (zm * 2 ^ 14)).rput (piReg 0 0xC) (BitVec.ofNat 64 (ztol * 2 ^ 16 + 10))
theorem test_indexEdge_off : idle (.indexEdge 0 ⟨5, 1⟩) (indexed 0 0) ∧ idle (.indexEdge 0 ⟨5, 1⟩) (indexed 2 10) := by decide
theorem test_indexEdge_unlock : (after (.indexEdge 0 ⟨5, 1⟩) (indexed 1 0)).rb (piReg 0 0x24) 13 = true ∧ ((after (.indexEdge 0 ⟨5, 1⟩) (indexed 1 0)).tport 0).zcorr = 0 := by decide
theorem test_indexEdge_jump : ((after (.indexEdge 0 ⟨5, 1⟩) (indexed 2 0)).tport 0).zcorr = 10 ∧ ((after (.indexEdge 0 ⟨5, 1⟩) (indexed 2 0)).tline 0).theta = 655360 := by decide
theorem test_indexEdge_slew : ((after (.indexEdge 0 ⟨5, 1⟩) (indexed 3 0)).tline 0).slewLeft = 655360 ∧ ((after (.indexEdge 0 ⟨5, 1⟩) (indexed 3 0)).tline 0).theta = 0 := by decide

/-- An SSI port of 8 bits. -/
def ssi : State := (tally 5 0).rput (piReg 0 0x10) 8
def burst : State := ssi.setTport 0 { burst := some 77 }
theorem test_ssiRequest : ssi.piActive 0 = true ∧ ssi.piType 0 = 5 ∧ ssi.rf (piReg 0 0x10) 0 6 = 8 ∧ ((after (.ssiRequest 0 77 false) ssi).tport 0).burst = some 77 ∧
    (after (.ssiRequest 0 77 false) ssi).rb (piReg 0 0x24) 9 = true := by decide
theorem test_ssiFrame : (burst.tport 0).burst = some 77 ∧ (burst.tport 0).low = false ∧ ((after (.ssiFrame 0 0x1FF true) burst).tport 0).count = 0xFF ∧
    (((after (.ssiFrame 0 0x1FF true) burst).tline 0).meas.map (·.ts)) = some 77 := by decide
theorem test_ssiFrame_error : (after (.ssiFrame 0 0x1FF false) burst).rb (piReg 0 0x24) 9 = true ∧ ((after (.ssiFrame 0 0x1FF false) burst).tport 0).burst = none := by decide
/-- Up-ferry 0 is enabled with DEST = 0b11 to port 0 and holds a token. -/
def streamed (k : Tok) : State := ((tally 6 0).rput ⟨.fryUp, 0, 0⟩ 0xE0000000).setUpf 0 { q := [k] }
theorem test_fabricStream : ((streamed { d := 9 }).upf 0).q = [{ d := 9 }] ∧ (streamed { d := 9 }).rb ⟨.fryUp, 0, 0⟩ 31 = true ∧ (streamed { d := 9 }).rf ⟨.fryUp, 0, 0⟩ 29 2 = 3 ∧
    ((after (.fabricStreamMeasurement 0 5) (streamed { d := 9 })).upf 0).q = [] ∧ (((after (.fabricStreamMeasurement 0 5) (streamed { d := 9 })).tline 0).meas.map (·.ts)) = some 5 := by decide
theorem test_fabricStream_poison : (after (.fabricStreamMeasurement 0 5) (streamed { p := true })).rb (piReg 0 0x24) 10 = true := by decide

theorem test_tlyPortCfgWrite : mgmtIssuer .ixz = true ∧ State.reset.piEn 15 = false ∧ (after (.tlyPortCfgWrite .ixz 15 2 1234) State.reset).rf (piReg 15 8) 0 32 = 1234 ∧
    (after (.tlyPortCfgWrite .ixz 15 0 0x89000000) State.reset).piEn 15 = true ∧ (after (.tlyPortCfgWrite .ixz 15 0 0x89000000) State.reset).piType 15 = 0 := by decide
theorem test_tlyPortCfgWrite_on : (tally 1 0).piEn 0 = true ∧ (after (.tlyPortCfgWrite .ixz 0 2 5) (tally 1 0)).rf (violOf .tlyPi 0) 0 16 = 1 ∧
    (after (.tlyPortCfgWrite .ixz 0 2 1000) (tally 1 0)).rf (violOf .tlyPi 0) 0 16 = 0 := by decide
theorem test_tlyDiffWrite : (tally 1 0).piEn 0 = true ∧ (tally 1 0).piEn 7 = false ∧ (tally 1 0).piEn 15 = false ∧ (after (.tlyDiffWrite .ixz 0x81) (tally 1 0)).rb tlyDiff 7 = true ∧
    (after (.tlyDiffWrite .ixz 0x81) (tally 1 0)).rb tlyDiff 0 = false := by decide
theorem test_calrun : (after (.calrun (.core 3)) State.reset).calReq = true := by decide
theorem test_spineCalibration : (tally 1 0).rb tlyStat 0 = true ∧ (after (.spineCalibration 300) (tally 1 0)).rf tlyStat 16 16 = 300 := by decide
theorem test_spineCalibration_off : idle (.spineCalibration 300) State.reset ∧ idle (.spineCalibration 300) ((State.reset.rput tlyStat 3).rput ⟨.tly, 0, 0⟩ 3) := by decide
theorem test_reflock : (after .reflock State.reset).rb tlyStat 0 = true := by decide
theorem test_tally_other : mgmtIssuer (.port 0 0 0) = false ∧ (after (.calrun (.port 0 0 0)) State.reset).rf (violOf .tly 0) 0 16 = 1 := by decide

theorem test_lineEnable : (after (.lineEnable .ixz 7 0xC0000000) State.reset).rb (plReg 7 0) 31 = true ∧ ((after (.lineEnable .ixz 7 0xC0000000) State.reset).tline 7).commit = true := by decide
theorem test_commit : ((after (.commit .ixz 0) State.reset).tline 0).commit = true := by decide
/-- COMMIT asked for on line 0, with SRC = 1 staged, and with nothing changed. -/
def staged1 : State := ((State.reset.rput tlyStat 1).rput (plReg 0 0) 0x01400000).setTline 0 { commit := true, acq := 3, valid := true }
def staged0 : State := (State.reset.rput tlyStat 1).setTline 0 { commit := true, acq := 3, valid := true }
theorem test_commitApply : (staged1.tline 0).commit = true ∧ staged1.rf (plReg 0 0) 24 4 ≠ fld (staged1.tline 0).ctl 24 4 ∧ ((after (.commitApply 0) staged1).tline 0).acq = 0 ∧
    ((after (.commitApply 0) staged0).tline 0).acq = 3 := by decide
theorem test_commitApply_none : (State.reset.tline 7).commit = false ∧ idle (.commitApply 7) State.reset := by decide
theorem test_hold : ((after (.hold .ixz 0 1) State.reset).tline 0).held.isSome = true ∧ ((after (.hold .ixz 0 0) (after (.hold .ixz 0 1) State.reset)).tline 0).held = none := by decide

/-- A line of a sampled source without a measurement, acquiring and later; and with one. -/
def ticking (acq : Nat) (m : Option Meas) : State := ((tally 6 0).rput (plReg 0 0) 0x80400000).setTline 0 { run := true, acq := acq, omega := 5, alpha := 2, meas := m }
theorem test_spineTick_coast : (ticking 2 none).rb tlyStat 0 = true ∧ ((ticking 2 none).tline 0).run = true ∧ (ticking 2 none).rb (plReg 0 0) 31 = true ∧
    isSampled ((ticking 2 none).piType 0) = true ∧ ((ticking 2 none).tline 0).meas = none ∧ ((ticking 2 none).tline 0).slewLeft = 0 := by decide
theorem test_spineTick_acquire : ((after .spineTick (ticking 0 (some ⟨655360, 0, false, true⟩))).tline 0).valid = true ∧
    ((after .spineTick (ticking 0 (some ⟨655360, 0, false, true⟩))).tline 0).omega = 0 := by decide
theorem test_spineTick_time : (after .spineTick (tally 1 0)).time = 4 ∧ ((after .spineTick (tally 1 0)).frames.map (·.lines.length)) = [8] ∧ State.reset.rb tlyStat 0 = false ∧ idle .spineTick State.reset := by decide
theorem test_standstill : isSampled ((ticking 2 none).piType 0) = true ∧ fld ((ticking 2 none).tline 0).still 0 16 ≠ 0 ∧ ((after (.standstillTimeout 0) (ticking 2 none)).tline 0).stillF = true ∧
    idle (.standstillTimeout 0) (ticking 0 none) := by decide
/-- A locked line of a zero-crossing port, MISSMAX = 3. -/
def locked4 (misses : Nat) : State := (tally 4 0).setTline 0 { run := true, locked := true, misses := misses }
theorem test_missingPulse : fld ((locked4 0).tline 0).still 16 8 = 3 ∧ ((after (.missingPulse 0) (locked4 1)).tline 0).locked = true ∧ ((after (.missingPulse 0) (locked4 2)).tline 0).locked = false ∧
    (after (.missingPulse 0) (locked4 1)).rf (piReg 0 0x28) 24 8 = 1 ∧ idle (.missingPulse 0) (tally 4 0) := by decide
/-- The frame of interval 9 is on its way to the regions. -/
def framed : State := { State.reset with frames := [⟨9, [{ ph := 7, step := 1, valid := true }]⟩] }
theorem test_spineFrameArrival : (framed.frames.find? (fun f => f.interval == 9)).isSome = true ∧ (framed.spineOf 31).interval < 9 ∧ ((after (.spineFrameArrival 31 9) framed).spineOf 31).interval = 9 := by decide +kernel
theorem test_spineFrameMissing : ((after (.spineFrameMissing 31 false) (after (.spineFrameArrival 31 9) framed)).spineOf 31).lines.map (·.ph) = [8] ∧
    (after (.spineFrameMissing 31 false) framed).rf (tnkErr 31) 16 16 = 1 := by decide +kernel
/-! Channels, access ports, gates, core accesses. -/

/-- A channel of region 0 from its cluster 0 to its pin cell 0, with a token in its first stage; and one to region 1, whose gate comes after its first stages. -/
def chan0 : State := (running 0 State.reset).setChan (chKey (epPort 0 0 0 0)) { snk := epPin 0 0 0, stages := [some { d := 5 }, none] }
theorem test_tokenMove : (chan0.chan (chKey (epPort 0 0 0 0))).stages[0]? = some (some { d := 5 }) ∧ (chan0.chan (chKey (epPort 0 0 0 0))).stages[1]? = some none ∧
    ((after (.tokenMove (.stage (epPort 0 0 0 0) 0) 0) chan0).chan (chKey (epPort 0 0 0 0))).stages = [none, some { d := 5 }] := by decide
theorem test_tokenMove_code : (after (.tokenMove (.stage (epPort 0 0 0 0) 0) 3) chan0).rb (meshReg 0 0) 30 = true ∧
    ((after (.tokenMove (.stage (epPort 0 0 0 0) 0) 3) chan0).chan (chKey (epPort 0 0 0 0))).stages.map (fun t => t.map (·.p)) = [none, some true] := by decide
def toRegion1 : State :=
  (running 0 State.reset).setChan (chKey (epPort 0 0 0 0)) { snk := epPin 1 0 0, gate := 1, stages := [some { d := 5 }, none] }
theorem test_tokenMove_gate : (toRegion1.region (epRegion (epPin 1 0 0))).gate = true ∧ (after (.tokenMove (.stage (epPort 0 0 0 0) 0) 0) toRegion1).chans = toRegion1.chans := by decide
theorem test_gateRefusal_stream : (toRegion1.chan (chKey (epPort 0 0 0 0))).connected = true ∧ (after (.gateRefusal (.stream (epPort 0 0 0 0))) toRegion1).rf (meshReg 1 4) 0 16 = 1 := by decide
/-- Channel 0 of port 0 of cluster 0, in mode 1, selects OX of cell 0 (code 0), which holds a token. -/
def sending : State :=
  ((latched 0 0 16 0x3C [1] (lit 0 (running 0 State.reset))).setCell 0 { ox := { tok := some { d := 6 } } }).setChan (chKey (epPort 0 0 0 0)) { snk := epPin 0 0 0, stages := [none, none] }
theorem test_tokenMove_sink : sending.logicalOf 0 = some 0 ∧ sending.paired 0 = false ∧ sending.portMode 0 0 = 1 ∧ sending.twin (gsink 0 272) = none ∧
    sending.offered 0 272 = some { d := 6 } ∧ sending.sel 0 272 < 128 ∧ ((after (.tokenMove (.sink 0 272) 0) sending).chan (chKey (epPort 0 0 0 0))).stages = [some { d := 6 }, none] := by decide
/-- Two accesses before one link of the access plane, in an open die: the Vermilion one goes first. -/
def crossing : State := { lit 728 State.reset with flights := [{ id := 1, tc := 1, path := [.out 0] }, { id := 2, tc := 0, path := [.out 0, .into 1] }] }
theorem test_tokenMove_lane : (crossing.laneNext (.out 0)).map (·.id) = some 2 ∧ ((after (.tokenMove (.lane (.out 0)) 0) crossing).flights.map (fun f => (f.id, f.path.length))) = [(1, 1), (2, 1)] ∧
    ((after (.tokenMove (.lane (.out 0)) 4) crossing).flights.map (·.poison)) = [false, true] ∧ crossing.mayCross (.into 1) { id := 2, tc := 0, path := [.into 1] } = false := by decide
theorem test_tokenMove_nothing : State.reset.offered 543 304 = none ∧ idle (.tokenMove (.sink 543 304) 0) State.reset := by decide

/-- Access port 0 of region 0's cluster 0, entry 0 of whose table names region 0 of this package, with an access word. -/
def porting (w : Word) (data : Option Tok) (wr : Bool) : State :=
  let s := latched 0 0 17 0 [0, 0, 0, 0xC0] (lit 0 (running 0 State.reset))
  (s.setRegion 0 { s.region 0 with writes := wr }).setAport 0 { req := some { d := w }, data := data }
theorem test_accessWordSent_read : (porting 0x804004 none false).route 0 0 0x804004 = some (none, 0x100804004) ∧ (porting 0x804004 none false).outReads 0 = 0 ∧
    ((after (.accessWordSent 0) (porting 0x804004 none false)).flights.map (fun f => (f.kind, f.addr))) = [(.read, 0x100804004)] := by decide
theorem test_accessWordSent_write : ((after (.accessWordSent 0) (porting 0x40804000 (some { d := 9 }) true)).flights.map (fun f => (f.kind, f.data.d))) = [(.write, 9)] := by decide
theorem test_accessWordSent_wait : (after (.accessWordSent 0) (porting 0x40804000 none true)).flights = [] ∧ (after (.accessWordSent 0) (porting 0x40804000 (some {}) false)).flights = [] := by decide
theorem test_accessWordSent_full : (let s := { porting 0x804004 none false with flights := List.replicate 16 { id := 1, iss := lpIssuer 0, lp := 0, kind := .read } }
    decide (s.outReads 0 = 16) && decide ((after (.accessWordSent 0) s).flights.length = 16)) = true := by decide
theorem test_accessWordSent_none : (porting 0x1F000000 none false).route 0 0 0x1F000000 = none ∧ (after (.accessWordSent 0) (porting 0x1F000000 none false)).rf (violOf .mesh 0) 0 16 = 1 := by decide
/-- A read of logical port 0 that has its answer; code 168 of a cell input of cluster 0. -/
def answered (k : AKind) (a : Answer) : State :=
  { latched 0 0 0 0x41 [168] (lit 0 (running 0 State.reset)) with flights := [{ id := 3, iss := .port 0 0 0, lp := 0, kind := k, addr := 0x100804004, ans := some a }] }
theorem test_accessReply : (answered .read (.word { d := 8 })).portTakes 0 = true ∧ (answered .read (.word { d := 8 })).wanted ((answered .read (.word { d := 8 })).members 0 0) 168 ≠ [] ∧
    (answered .read (.word { d := 8 })).ix.sessions = [] ∧ ((after (.accessReply 3) (answered .read (.word { d := 8 }))).aport 0).rep.tok = some { d := 8 } := by decide
theorem test_accessReply_quarantined : ((after (.accessReply 3) (answered .read .quarantined)).aport 0).rep.tok = some { p := true } ∧
    (after (.accessReply 3) (answered .read .quarantined)).rb ⟨.port, 0, 0⟩ 31 = true := by decide
theorem test_accessCompletionReport : (after (.accessCompletionReport 3) (answered .write .done)).flights = [] ∧
    (after (.accessCompletionReport 3) (answered .write .quarantined)).rb ⟨.port, 0, 0⟩ 31 = true := by decide

theorem test_gateClose : ((running 31 State.reset).region 31).gate = false ∧ ((after (.gateClose 31) (running 31 State.reset)).region 31).gate = true ∧
    ((after (.gateClose 31) (running 31 State.reset)).region 31).drain = true ∧ (State.reset.region 0).gate = true := by decide +kernel
theorem test_gateDrainComplete : ((after (.gateDrainComplete 0) (State.reset.setRegion 0 { gate := true, drain := true })).region 0).held = true ∧
    (State.reset.region 0).drain = false ∧ idle (.gateDrainComplete 0) State.reset := by decide
theorem test_gateRefusal : ({ id := 1, addr := 0x101804000 } : Flight).external = true ∧ (State.reset.region (addrRegion 0x101804000)).gate = true ∧
    ((after (.gateRefusal (.flight 1)) { State.reset with flights := [{ id := 1, addr := 0x101804000, path := [.into 1] }] }).flights.map (·.ans)) = [some .quarantined] := by decide
/-- Line 7 of region 0 serves logical cluster 15, which offers a token. -/
def casting : State := ((lit 15 (running 0 State.reset)).rput (meshReg 0 0x1C) 0x80000000).setBsrc 15 (some { d := 4 })
theorem test_broadcastToken : casting.lineSource 0 7 = some 15 ∧ (casting.bline 7).tok = none ∧ (after (.broadcastToken 0 ⟨7, 0⟩) casting).bsrc 15 = none ∧
    ((after (.broadcastToken 0 ⟨7, 0⟩) casting).bline 7).src = some 15 ∧ State.reset.lineSource 0 7 = none := by decide
theorem test_bdup : casting.benBit 0 7 15 = true ∧ ((List.range 16).filter (fun c => c != 0 && casting.benBit 0 7 c)) = [15] ∧ (after (.bdup 0 7 0) casting).rb (meshReg 0 0) 29 = true ∧
    (after (.bdup 0 7 0) casting).rf (meshReg 0 0) 26 3 = 7 ∧ ((List.range 16).filter (fun c => c != 0 && State.reset.benBit 0 7 c)) = [] := by decide
theorem test_stageStall : (after (.stageStall (.port 543 3) false) State.reset).rb ⟨.port, 2175, 0⟩ 29 = true ∧ (after (.stageStall (.mesh 31) true) State.reset).rb tnkAlarm 31 = true := by decide

/-- Core 0 runs; core 3 does not. -/
def core0 : State := lit 732 State.reset
theorem test_coreFabricLoad : core0.coreFree 0 = true ∧ (placeOf 0x137FFFFFF).region = some 31 ∧ (placeOf 0x108000000).region = none ∧
    ((after (.coreFabricLoad 0 0x100000000 .b32) core0).core 0).load = some 0 ∧ (after (.coreFabricLoad 0 0x108000000 .b32) core0).rf (violOf .irq 0) 0 16 = 1 := by decide
theorem test_coreFabricStore : ((after (.coreFabricStore 0 0x100000000 .b32 7) core0).flights.map (·.data.d)) = [7] ∧
    (let s := { core0 with flights := List.replicate 16 { iss := .core 0, kind := .write } }
     (after (.coreFabricStore 0 0x100000000 .b32 7) s).flights.length) = 16 := by decide
theorem test_coreFence : ((after (.coreFence 0) (after (.coreFabricStore 0 0x100000000 .b32 7) core0)).core 0).fence = true ∧ ((after (.coreFence 0) core0).core 0).fence = false := by decide
theorem test_core_off : State.reset.coreFree 3 = false ∧ idle (.coreFabricLoad 3 0x100000000 .b32) State.reset := by decide
/-- Core 0 waits for load 0. -/
def loading : State := after (.coreFabricLoad 0 0x100804004 .b32) core0
theorem test_ftmo : (loading.core 0).load.isSome = true ∧ (loading.core 0).haltReq = false ∧ (after (.ftmo 0) loading).rb (irqReg 0x34) 31 = true ∧ ((after (.ftmo 0) loading).core 0).load = none := by decide
theorem test_accessReply_core : (let s := { loading with flights := loading.flights.map (fun f => { f with ans := some (.word { d := 11, p := true }), path := [] }) }
    ((after (.accessReply 0) s).rdata, (after (.accessReply 0) s).rb (irqReg 0x34) 30)) = (11, true) := by decide
/-! Block memories. -/

/-- Port 0 of memory 0 of cluster 0 at ×32, an input of cell 0 selecting its replies (code 172); a request and data at it, and at port 1 of the same memory. -/
def bm (w : Word) (p : Bool) (data : List Tok) (other : Option Tok) : State :=
  let s := latched 0 0 16 0x34 [0x0A] (latched 0 0 0 0x41 [172] (lit 0 (running 0 State.reset)))
  ((s.setRegion 0 { s.region 0 with writes := true }).setBport 0 { req := some { d := w, p := p }, data := data }).setBport 1 { req := other, data := [{ d := 99 }] }
/-- Bytes 0..3 stored, byte 0 with wrong parity. -/
def marred : State := (((((bm 0 false [] none).setBbyte 0 (some (1, true))).setBbyte 1 (some (2, false))).setBbyte 2 (some (3, false))).setBbyte 3 (some (4, false)))
theorem test_bmRead : (bm 0 false [] none).bmWidth 0 = 2 ∧ bmForbidden 0 2 = false ∧ (marred.bmEntry 0 0 4).any (·.2) = true ∧ marred.twinOf 0 = none ∧
    ((after (.bmRead 0 [] false) marred).bport 0).rep = [{ d := 0x04030201, p := true }] ∧ (after (.bmRead 0 [] false) marred).rb (bmReg 0 4) 30 = true := by decide
theorem test_bmRead_glitch : (((marred.setBbyte 0 (some (1, false))).bmEntry 0 0 4).any (·.2)) = false ∧
    (after (.bmRead 0 [] true) (marred.setBbyte 0 (some (1, false)))).rf (bmReg 0 8) 0 8 = 1 := by decide
theorem test_bmRead_poison : ((after (.bmRead 0 [] false) (bm 0 true [] none)).bport 0).rep = [{ p := true }] ∧ (after (.bmRead 0 [] false) (bm 0 true [] none)).rb tnkPalarm 0 = true := by decide
theorem test_bmRead_forbidden : bmForbidden 0x4000 2 = true ∧ bmForbidden 0x3FFC 2 = false ∧ (after (.bmRead 0 [] false) (bm 0x4000 false [] none)).rf (bmReg 0 0xC) 0 16 = 1 := by decide
/-- Clusters 0 and 1 paired. -/
def marredPair : State := ((marred.rput ⟨.tnk, 0, 0⟩ 0x80000000).setBbyte 32768 (some (7, false)))
theorem test_bmRead_twin : (marredPair.twinOf 0).isSome = true ∧ ((((marredPair.setBbyte 32769 (some (8, false))).setBbyte 32770 (some (9, false))).setBbyte 32771 (some (10, false))).bmEntry 2 0 4).any (·.2) = false := by decide
theorem test_bmWrite : fld (0x40000000 : Word) 30 2 = 1 ∧ (bm 0x40000004 false [{ d := 0x04030201 }] none).bmPendingRead 1 = none ∧
    ((List.range 6).map (fun i => ((after (.bmWrite 0) (bm 0x40000004 false [{ d := 0x04030201 }] none)).bmGet 0 (4 + i)).1)).take 4 = [1, 2, 3, 4] := by decide
theorem test_bmWrite_waits : (after (.bmWrite 0) (bm 0x40000000 false [] none)).bports = (bm 0x40000000 false [] none).bports ∧
    (bm 0x40000000 false [{}] (some { d := 0 })).bmPendingRead 1 = some (0, 4) ∧
    (after (.bmWrite 0) (bm 0x40000000 false [{}] (some { d := 0 }))).bports = (bm 0x40000000 false [{}] (some { d := 0 })).bports := by decide
theorem test_bmWrite_collides : ((bm 0x40000000 false [{}] (some { d := 0x40000000 })).bmPending 1).isSome = true ∧
    (after (.bmWrite 0) (bm 0x40000000 false [{}] (some { d := 0x40000000 }))).rb (bmReg 0 4) 31 = true := by decide
theorem test_bmWrite_poison : (after (.bmWrite 0) (bm 0x40000000 false [{ p := true }] none)).rb (bmReg 0 4) 29 = true := by decide
theorem test_bmWrite_forbidden : bmForbidden 0x40004000 2 = true ∧ (after (.bmWrite 0) (bm 0x40004000 false [{}] none)).rf (bmReg 0 0xC) 0 16 = 1 := by decide
theorem test_bmInitDone : ((State.reset.setBmem 1087 { busy := true }).bmem 1087).busy = true ∧ ((after (.bmInitDone 1087) (State.reset.setBmem 1087 { busy := true })).bmem 1087).busy = false ∧
    (after (.bmInitDone 1087) (State.reset.setBmem 1087 { busy := true })).rb (bmReg 1087 4) 28 = true ∧ (State.reset.bmem 0).busy = false := by decide
/-! Scratch. -/

/-- Bank 0 Lit, word 0 = 0x0F stored with a flipped-bits pattern, and an access of a kind, issuer and view in flight; granted or not. -/
def bank (k : AKind) (view : Nat) (err : BitVec 39) (granted poison : Bool) (off : Nat) : State :=
  let s := (lit 544 (running 0 State.reset)).setSword 0 (some (0x0F, err))
  let f : Flight := { id := 2, iss := .debug, kind := k, addr := 0x100000000 + view * 0x200000 + off, data := { d := 0xFC }, poison := poison }
  { (if granted then s.setBank 0 { s.bank 0 with cur := some { who := .flight 2, req := 17, tc := 3, e := 0 } } else s) with flights := [f] }
theorem test_scratchRead : (((bank .read 0 0 true false 0).flight 2).map (fun f => (f.scratch, (bank .read 0 0 true false 0).enters f))) = some (some (0, 0, 0), true) ∧
    (bank .read 0 0 true false 0).dom (bankDom 0) = 0 ∧ ((after (.scratchRead 2 0 0 0) (bank .read 0 0 true false 0)).flights.map (·.ans)) = [some (.word { d := 0x0F })] := by decide
theorem test_scratchRead_transient : popCount (1 : BitVec 39) = 1 ∧ (after (.scratchRead 2 0 1 0) (bank .read 0 0 true false 0)).rf (sb 0 0x10) 0 16 = 1 := by decide
theorem test_scratchRead_single : ((after (.scratchRead 2 1 0 0) (bank .read 0 0 true false 0)).bank 0).scrubQ = [0] ∧
    ((after (.scratchRead 2 1 0 0) (bank .read 0 0 true false 0)).flights.map (·.ans)) = [some (.word { d := 0x0F })] := by decide
theorem test_scratchRead_double : popCount (3 : BitVec 39) = 2 ∧ (after (.scratchRead 2 3 0 0) (bank .read 0 0 true false 0)).rb (sb 0 0xC) 31 = true := by decide
theorem test_scratchRead_poison : ((bank .read 0 0 false true 0).bank 0).cur = none ∧ (after (.scratchRead 2 0 0 0) (bank .read 0 0 false true 0)).rb (sb 0 0xC) 29 = true := by decide
theorem test_scratchRead_forbidden : (after (.scratchRead 2 0 0 0) (bank .read 0 0 false false 2)).rf (violOf .sbank 0) 0 16 = 1 ∧ (bank .read 0 0 false false 0).handing 0 = false ∧
    (bank .read 0 0 false false 0).ownerPermits 0 .debug = true ∧ ((after (.scratchRead 2 0 0 0) (bank .read 0 0 false false 0)).flights.map (·.ans)) = [none] := by decide
theorem test_scratchWrite : (after (.scratchWrite 2) (bank .write 0 5 true false 0)).swGet 0 0 = (0xFC, 0) := by decide
theorem test_setAliasWrite : (after (.setAliasWrite 2 0 0 0) (bank .write 1 0 true false 0)).swGet 0 0 = (0xFF, 0) ∧ (after (.setAliasWrite 2 3 0 0) (bank .write 1 0 true false 0)).swGet 0 0 = (0x0F, 3) := by decide
theorem test_clearAliasWrite : (after (.clearAliasWrite 2 0 0 0) (bank .write 2 0 true false 0)).swGet 0 0 = (0x03, 0) ∧
    (after (.clearAliasWrite 2 3 0 0) (bank .write 2 0 true false 0)).swGet 0 0 = (0x0F, 3) := by decide

theorem test_bankRound : ((bank .read 0 0 false false 0).bank 0).cur = none ∧ (bank .read 0 0 false false 0).nextWin 0 = none ∧ (bank .read 0 0 false false 0).candidates 0 ≠ [] ∧
    ((after (.bankRound 0) (bank .read 0 0 false false 0)).bank 0).cur.map (·.who) = some (.flight 2) ∧ State.reset.candidates 127 = [] ∧ ((after (.bankRound 127) State.reset).bank 127).cur = none := by decide
/-- The next round is decided for a locking write of core 1. -/
def decided : State :=
  let s := lit 544 (running 0 State.reset)
  { s.setBank 0 { next := some { who := .flight 2, req := 19, tc := 3, e := 15 } } with flights := [{ id := 2, iss := .core 1, kind := .write, addr := 0x100000000, lock := true }] }
theorem test_bankRound_lock : decided.nextWin 0 = some { who := .flight 2, req := 19, tc := 3, e := 15 } ∧ (after (.bankRound 0) decided).rf (sb 0 0x24) 19 3 = 7 ∧
    (after (.bankRound 0) decided).rf (sb 0 0x24) 25 5 = 19 ∧ ((after (.bankRound 0) decided).bank 0).lock = some (.core 1) := by decide
/-- Word 0 is queued for the scrub; the scrub holds the round or does not. -/
def scrubbed (granted : Bool) : State :=
  let s := bank .read 0 1 false false 0
  s.setBank 0 { scrubQ := [0], cur := if granted then some { who := .scrub } else none }
theorem test_scrubVisit : (scrubbed true).scrubWord 0 = some (0, true) ∧ (after (.scrubVisit 0 0 0 0) (scrubbed true)).swGet 0 0 = (0x0F, 0) ∧
    ((after (.scrubVisit 0 0 0 0) (scrubbed false)).bank 0).scrubOffer = true := by decide

/-- Bank 127 with an owner field that accepts the management complex, and a handover to the same under way. -/
def owned : State := State.reset
theorem test_handover : owned.bankAccepts 127 .debug = true ∧ owned.handing 127 = false ∧ (after (.handover .debug 127 0x90000000) owned).handing 127 = true ∧
    (after (.handover .debug 127 0x90000000) owned).rf (sb 127 4) 26 3 = 4 ∧ (after (.handover .debug 127 0x94000000) owned).rf (violOf .sbank 127) 0 16 = 1 := by decide
theorem test_hdone : (after (.handover .debug 127 0x80000000) owned).handReady 127 = true ∧ (after (.hdone 127) (after (.handover .debug 127 0x80000000) owned)).rb (sb 127 0xC) 26 = true ∧
    (after (.hdone 127) (after (.handover .debug 127 0x80000000) owned)).rf (sb 127 0xC) 0 16 = 1 ∧ idle (.hdone 127) owned := by decide
/-- Two requesters have VEN. -/
def vens : State := ((State.reset.rput (prtReq 127 0) 0x80000000).rput (prtReq 127 1) 0x80000000)
theorem test_prtReqWrite : (after (.prtReqWrite .debug 127 19 0x80000007) vens).rb (sb 127 0x28) 30 = true ∧ (after (.prtReqWrite .debug 127 1 0x80000007) vens).rf (prtReq 127 1) 0 3 = 6 ∧
    (after (.prtReqWrite .debug 127 1 0x80000007) vens).rb (sb 127 0x28) 30 = false := by decide
theorem test_bankClear : owned.rf (sb 127 0) 29 3 = 0 ∧ ((after (.bankClear .debug 127) owned).bank 127).clearing = true ∧
    (after (.bankClear .debug 127) (owned.rput (sb 127 0) 0x20000000)).rf (violOf .sbank 127) 0 16 = 1 := by decide
/-- A clear of bank 0 under way, its rounds done or a round in progress; the whole bank zero but the last row. -/
def clearingBank (pos rows : Nat) (cur : Option Win) : State := (bank .read 0 1 false false 0).setBank 0 { clearing := true, clearPos := pos, zeroRows := rows, cur := cur }
theorem test_clrdone : (clearingBank 16384 16384 none).dom (bankDom 0) = 0 ∧ (after (.clrdone 0) (clearingBank 16384 16384 none)).rb (sb 0 0xC) 27 = true ∧
    idle (.clrdone 0) (clearingBank 16383 16383 none) := by decide
theorem test_bankRound_clear : ((after (.bankRound 0) (clearingBank 0 0 (some { who := .slice, req := 19, tc := 3, e := 0 }))).bank 0).clearPos = 1 ∧
    (after (.bankRound 0) (clearingBank 0 0 (some { who := .slice, req := 19, tc := 3, e := 0 }))).swGet 0 0 = (0, 0) := by decide
theorem test_bank_other : State.reset.bankAccepts 0 (.port 9 0 0) = false ∧ (after (.bankClear (.port 9 0 0) 0) State.reset).rf (violOf .sbank 0) 0 16 = 1 := by decide

/-! Hoppers. -/

/-- Hopper 0 of region 0 (MODE bits of HOP_CFG given) with words and held pops, and an access to its PUSH or POP in flight. -/
def hop (cfg : RegVal) (k : Hop) (kind : AKind) (pop poison : Bool) (d : Word) : State :=
  { ((running 0 State.reset).rput (hopReg 0 0) cfg).setHop 0 k with
    flights := [{ id := 2, iss := .ixz, kind := kind, addr := 0x100900000 + (if pop then 4 else 0), data := { d := d }, poison := poison }] }
def words (n : Nat) : List HWord := (List.range n).map (fun i => { d := BitVec.ofNat 32 (i + 1) })
theorem test_hopperPush : ((hop 0 {} .write false false 7).hopAccess 2 .write false).map (·.2) = some 0 ∧ (hop 0 {} .write false false 7).hopPStream 0 = false ∧
    ((after (.hopperPush ⟨.flight 2, 0⟩) (hop 0 { fpend := true } .write false false 7)).hop 0).words = [{ d := 7, f := true }] := by decide
theorem test_hopperPush_bounds : ((after (.hopperPush ⟨.flight 2, 0⟩) (hop 0 { words := words 63 } .write false false 7)).hop 0).words.length = 64 ∧
    (after (.hopperPush ⟨.flight 2, 0⟩) (hop 0 { words := words 63 } .write false false 7)).rb (hopReg 0 8) 27 = true ∧
    ((after (.hopperPush ⟨.flight 2, 0⟩) (hop 0 { words := words 64 } .write false false 7)).flights.map (·.ans)) = [none] := by decide
theorem test_hopperPush_poison : (after (.hopperPush ⟨.flight 2, 0⟩) (hop 0 {} .write false true 7)).rb (hopReg 0 8) 29 = true := by decide
theorem test_pendingPushAccepted : ((after (.pendingPushAccepted 2) (hop 0 { words := words 63 } .write false false 7)).hop 0).words.length = 64 := by decide
theorem test_hopperPop : ((hop 0 {} .read true false 0).hopAccess 2 .read true).map (·.2) = some 0 ∧ (hop 0 {} .read true false 0).hopCStream 0 = false ∧
    ((after (.hopperPop 2 0 false) (hop 0 { words := words 2 } .read true false 0)).hop 0).words = [{ d := 2 }] ∧
    ((after (.hopperPop 2 0 false) (hop 0 { words := words 2 } .read true false 0)).flights.map (·.ans)) = [some (.word { d := 1 })] := by decide
theorem test_hopperPop_waits : ((after (.hopperPop 2 0 false) (hop 0 {} .read true false 0)).hop 0).pops = [2] ∧
    ((after (.hopperPop 2 0 false) (hop 0 { pops := [5, 6, 7] } .read true false 0)).hop 0).pops = [5, 6, 7, 2] ∧
    ((after (.hopperPop 2 0 false) (hop 0 { pops := [5, 6, 7, 8] } .read true false 0)).hop 0).pops = [5, 6, 7, 8] := by decide
theorem test_pendingPopServed : ((after (.pendingPopServed 0 0 false) (hop 0 { words := words 1, pops := [2] } .read true false 0)).hop 0).pops = [] ∧
    ((after (.pendingPopServed 0 0 false) (hop 0 { words := words 1, pops := [2] } .read true false 0)).flights.map (·.ans)) = [some (.word { d := 1 })] := by decide
def heldMode : RegVal := 4
theorem test_hop_modes : (hop heldMode {} .write true false 0).hopHeld 0 = true ∧ (hop 0 {} .write true false 0).hopHeld 0 = false ∧ (hop 1 {} .write true false 0).hopPStream 0 = true ∧
    (hop 2 {} .write true false 0).hopCStream 0 = true := by decide
theorem test_hopperPush_stream : (after (.hopperPush ⟨.flight 2, 0⟩) (hop 1 {} .write false false 7)).rf (hopReg 0 0x18) 0 16 = 1 ∧
    (after (.hopperPop 2 0 false) (hop 2 {} .read true false 7)).rf (hopReg 0 0x18) 0 16 = 1 := by decide
theorem test_hopperPop_debug : (let s := hop 0 {} .read true false 0
    let s := { s with flights := s.flights.map (fun f => { f with iss := .debug }) }
    (after (.hopperPop 2 0 false) s).flights.map (·.ans)) = [some (.word {})] := by decide
/-- A channel ends at hopper 0's producer side and one begins at its consumer side. -/
def streamHop : State := ((hop 3 { words := words 1 } .read true false 0).setChan 99 { snk := epHop 0 0 false, stages := [some { d := 8 }] }).setChan (chKey (epHop 0 0 true)) { snk := epPin 0 0 0, stages := [none] }
theorem test_hopper_channels : streamHop.chanInto (epHop 0 0 false) = some 99 ∧ (streamHop.chan 99).last = some { d := 8 } ∧
    ((after (.hopperPush ⟨.stream 0, 0⟩) streamHop).hop 0).words = [{ d := 1 }, { d := 8 }] ∧
    ((after (.tokenMove (.hopOut 0 0 false) 0) streamHop).chan (chKey (epHop 0 0 true))).stages = [some { d := 1 }] := by decide
theorem test_hopperMark : ((after (.hopperMark 2) (hop heldMode { words := words 3, cur := 2 } .write true false 0x10000000)).hop 0).mpos = 2 := by decide
theorem test_rewind : ((after (.rewind 2) (hop heldMode { words := words 3, cur := 2, mpos := 1 } .write true false 0x20000000)).hop 0).cur = 1 := by decide
theorem test_release : ((after (.release 2) (hop heldMode { words := words 3, cur := 2 } .write true false 0x30000000)).hop 0).words = [{ d := 3 }] := by decide
theorem test_releasem : ((after (.releasem 2) (hop heldMode { words := words 3, cur := 2, mpos := 1 } .write true false 0x40000000)).hop 0).words.length = 2 ∧
    ((after (.releasem 2) (hop heldMode { words := words 3, cur := 2, mpos := 1 } .write true false 0x40000000)).hop 0).cur = 1 := by decide
theorem test_hop_plain : (after (.rewind 2) (hop 0 { words := words 3 } .write true false 0x20000000)).rf (hopReg 0 0x18) 0 16 = 1 ∧
    (after (.hopperReservedCmd 2) (hop 0 {} .write true false 0x60000000)).rf (hopReg 0 0x18) 0 16 = 1 ∧ (after (.hopperReservedCmd 2) (hop 0 {} .write true false 0xF0000000)).rf (hopReg 0 0x18) 0 16 = 1 ∧
    ((after (.hopperCmdNop 2) (hop 0 {} .write true false 0)).flights.map (·.ans)) = [some .done] := by decide
theorem test_flush : ((after (.flush (.flight 2)) (hop heldMode { words := words 3 } .write true false 0x50000000)).hop 0).words = [] ∧
    ((after (.flush (.ctl .ixz 0)) (hop 0 { words := words 3 } .write true false 0)).hop 0).fpend = true ∧ (after (.flush (.ctl (.port 0 0 0) 0)) State.reset).rf (violOf .hop 0) 0 16 = 1 := by decide
theorem test_hop_cmd_poison : (after (.rewind 2) (hop heldMode { words := words 1 } .write true true 0x20000000)).rb (hopReg 0 8) 29 = true ∧
    (after (.rewind 2) (hop heldMode { words := words 1, cur := 1, pops := [2] } .write true true 0x20000000)).hop 0 = { words := words 1, cur := 1, pops := [2] } := by decide
theorem test_hopWmWrite : (after (.hopWmWrite .ixz 255 0x007F0001) State.reset).rf (hopReg 255 0xC) 16 7 = 127 ∧ ((after (.hopWmWrite .ixz 0 0x00010000) (hop 0 { words := words 1 } .read true false 0)).hop 0).high = true := by decide
/-! I/O banks, serial groups, pins. -/

theorem test_supply : (lit 672 State.reset).dom 672 = 0 ∧ (after (.supply 0) (lit 672 State.reset)).rb (bankReg 0 0x1C) 31 = true ∧ (after (.supply 0) (lit 672 State.reset)).rb tnkAlarm 1 = true ∧
    (after (.supply 0) (lit 672 State.reset)).rb tnkAlarm 2 = false ∧ State.reset.dom 695 ≠ 0 := by decide +kernel
def switching : State := State.reset.setPad 767 { coming := some .cell }
theorem test_padSwitchComplete : (switching.padOf 767).coming = some .cell ∧ ((after (.padSwitchComplete 767) switching).padOf 767).owner = .cell ∧ (State.reset.padOf 0).coming = none := by decide
/-- Group 0 (bank 0, region 0) enabled, receiving or transmitting, aligned or not. -/
def group (tx al : Bool) (g : Group) : State :=
  ((((lit 672 (running 0 State.reset)).rput (bankReg 0 0xC) (if tx then 0xC000 else 0x8000)).rput (bankReg 0 0x1C) (if al then 1 else 0))).setGroup 0 g
theorem test_serial_receive : (group false true {}).groupRuns 0 false = true ∧ (group false true {}).aligned 0 = true ∧
    ((after (.serialFrameReceived 0 0x900000005) (group false true { invalid := 3 })).group 0) = { rx := [{ d := 5, f := true }], valid := 1 } ∧
    ((after (.serialFrameReceived 0 0x800000005) (group false true { rx := [{}] })).group 0).rx.length = 2 ∧
    (after (.serialFrameReceived 0 0x800000005) (group false true { rx := [{}, {}] })).rb (bankReg 0 0x1C) 29 = true := by decide
theorem test_serial_headers : ((after (.serialFrameReceived 0 0xC00000000) (group false true { valid := 9 })).group 0) = { invalid := 1 } ∧
    ((after (.serialFrameReceived 0 0x400000000) (group false true {})).group 0) = { valid := 1 } ∧ ((after (.serialFrameReceived 0 0x800000000) (group false false {})).group 0) = { valid := 1 } := by decide
theorem test_align : (after (.align 0) (group false false { valid := 16 })).aligned 0 = true ∧ (after (.align 0) (group false false { valid := 15 })).aligned 0 = false := by decide
theorem test_syncerr : (after (.syncerr 0) (group false true { invalid := 4 })).aligned 0 = false ∧ (after (.syncerr 0) (group false true { invalid := 3 })).aligned 0 = true := by decide
theorem test_serialWordTransmit : (group true false {}).groupRuns 0 true = true ∧
    (((after (.serialWordTransmit ⟨0, 0⟩) ((group true false {}).setChan 9 { snk := epGroup 0, stages := [some { d := 5, p := true }] })).group 0).sent) = some 0xA00000005 ∧
    (group true false {}).chanInto (epGroup 0) = none ∧ State.reset.groupRuns 47 true = false ∧ State.reset.groupRuns 47 false = false := by decide
theorem test_serial_move : ((after (.tokenMove (.serial 0 0) 0) ((group false true { rx := [{ d := 5 }] }).setChan (chKey (epGroup 0)) { snk := epPin 0 0 0, stages := [none] })).group 0).rx = [] := by decide

/-- Pin 0 in a FUNC with more of PIN_CFG, its outputs released, a pair at MT and MC and armed marks. -/
def pin (fn cfg : Nat) (cmd : Word) (poison : Bool) (q : List Mark) : State :=
  ((running 0 State.reset).rput (pinReg 0 0) (BitVec.ofNat 64 (fn * 2 ^ 29 + cfg))).setPin 0 { mt := some { d := 0x1234 }, mc := some { d := cmd, p := poison }, q := q }
theorem test_pairAt : (pin 1 0 0x1000 false []).pairAt 0 = some ({ d := 0x1234 }, { d := 0x1000 }) ∧ (pin 1 0 0x1000 false []).pinFunc 0 = 1 ∧ (pin 3 0 0x1000 false []).pinFunc 0 = 3 ∧
    (pin 1 0 0x1000 false [{}, {}, {}, {}]).pairAt 0 = none ∧ (pin 1 0 0x1000 false []).fparked 0 = false := by decide
theorem test_markLow : ((after (.markLow 0) (pin 1 0 0x1000 false [{}])).pin 0).q = [{}, { target := 0x1234, cmd := 0x1000 }] := by decide
theorem test_markHigh : ((after (.markHigh 0) (pin 1 0 0x2000 false [])).pin 0).q = [{ target := 0x1234, cmd := 0x2000 }] := by decide
theorem test_markToggle : ((after (.markToggle 0) (pin 1 0 0x3000 false [])).pin 0).q.length = 1 ∧ ((after (.markToggle 0) (pin 1 0 0x1000 false [])).pin 0).q.length = 0 := by decide
theorem test_markFloat : ((after (.markFloat 0) (pin 3 0 0x4000 false [])).pin 0).q.length = 1 := by decide
theorem test_markPark : ((after (.markPark 0) (pin 1 0 0x5000 false [])).pin 0).q.length = 1 ∧ (after (.markPark 0) (pin 0 0 0x5000 false [])).rf (pinReg 0 0x24) 0 16 = 1 ∧
    (after (.markPark 0) (pin 2 0 0x5000 false [])).rf (pinReg 0 0x24) 0 16 = 1 := by decide
theorem test_mark_parkinv : (pin 1 0x400000 0x1000 false []).rb (pinReg 0 0) 22 = true ∧ ((pin 1 0x400000 0x1000 false []).pinLine 0).valid = false ∧
    (after (.markLow 0) (pin 1 0x400000 0x1000 false [])).rf (pinReg 0 0x20) 24 8 = 1 := by decide
theorem test_mark_fparked : ((pin 1 0 0x1000 false []).rput (pinReg 0 4) 0x80000000).fparked 0 = true ∧
    ((after (.markLow 0) ((pin 1 0 0x1000 false []).rput (pinReg 0 4) 0x80000000)).pin 0).q = [] := by decide
theorem test_markNop : ((after (.markNop 0) (pin 1 0 0 false [])).pin 0) = {} := by decide
theorem test_wopen : ((after (.wopen 0) (pin 2 0 0x8000 false [])).pin 0).staged = some 0x1234 := by decide
theorem test_wclose : ((after (.wclose 0) (pin 1 0 0x9000 false [])).pin 0).wclose = 0x1234 ∧ ((after (.wclose 0) (pin 1 0 0x9000 false [])).pin 0).wopen = 0 := by decide
theorem test_cancel : ((after (.cancel 0) (pin 1 0 0xA000 false [{}])).pin 0).q = [] := by decide
theorem test_markReservedAct : (after (.markReservedAct 0) (pin 1 0 0x6000 false [])).rf (pinReg 0 0x24) 0 16 = 1 ∧ (after (.markReservedAct 0) (pin 1 0 0xB000 false [])).rf (pinReg 0 0x24) 0 16 = 1 := by decide
theorem test_poisonedPair : (after (.poisonedPair 0) (pin 1 0 0x1000 true [{}])).rb (pinReg 0 8) 31 = true ∧ ((after (.poisonedPair 0) (pin 1 0 0x1000 true [{}])).pin 0).q = [] ∧
    ((after (.poisonedPair 0) (pin 1 0 0x1000 true [{}])).pin 0).parked = true ∧ (after (.poisonedPair 0) (pin 4 0 0x1000 true [])).rf (pinReg 0 0x24) 0 16 = 1 ∧
    (after (.poisonedPair 0) (pin 2 0 0x8000 true [])).rb (pinReg 0 8) 31 = true ∧ ((after (.markLow 0) (pin 1 0 0x1000 true [])).pin 0).mt.isSome = true := by decide
theorem test_move_pin : ((after (.tokenMove (.pin 0 true) 0) (((running 0 State.reset).setPin 0 {}).setChan 9 { snk := epPin 0 0 1, stages := [some { d := 5 }] })).pin 0).mc = some { d := 5 } := by decide

/-- Pin 0 in Mark with an armed mark, line 0 of the frame of interval 2 at 0x100 pu with a step of `step` / 256 pu. -/
def armed (cmd : BitVec 16) (target : Word) (valid : Bool) (step : BitVec 16) (jump : Bool) : State :=
  let f : LFrame := { ph := 0x10000, step := step, valid := valid, jump := jump, dir := decide (step.toInt < 0) }
  (((running 0 State.reset).rput (pinReg 0 0) 0x20000000).setPin 0 { q := [{ target := target, cmd := cmd }] }).setSpine 0 ⟨2, [f]⟩
theorem test_mark_immediate : ((armed 0x1800 0 false 0 false).region 0).out = true ∧ (armed 0x1800 0 false 0 false).pinFunc 0 = 1 ∧
    ((after (.markEvaluation 0 7) (armed 0x1800 0 false 0 false)).pin 0).edge = some 47 ∧ ((after (.markEvaluation 0 7) (armed 0x1800 0 false 0 false)).pin 0).drv = .low := by decide
theorem test_mark_invalid : ((after (.markEvaluation 0 0) (armed 0x1000 0x100 false 0x200 false)).pin 0).q.length = 1 := by decide
theorem test_mark_crossing : ((armed 0x1000 0x100 true 0x200 false).pinLine 0).reach 0x100 = some 0 ∧ ((armed 0x1000 0x101 true 0x200 false).pinLine 0).reach 0x101 = some 10 ∧
    ((armed 0x1000 0x102 true 0x200 false).pinLine 0).reach 0x102 = none ∧
    ((after (.markEvaluation 0 0) (armed 0x1000 0x101 true 0x200 false)).pin 0).edge = some 50 ∧ ((after (.markEvaluation 0 0) (armed 0x1000 0x102 true 0x200 false)).pin 0).q.map (·.seen) = [true] := by decide
theorem test_mark_backward : ((after (.markEvaluation 0 0) (armed 0x1000 0xFF true 0xFE00 false)).pin 0).edge = some 50 := by decide
theorem test_mark_late : ((armed 0x1000 0xFF true 0x200 false).pinLine 0).behind 0xFF = true ∧ (after (.markEvaluation 0 0) (armed 0x1000 0xFF true 0x200 false)).rb (pinReg 0 8) 29 = true ∧
    ((after (.markEvaluation 0 0) (armed 0x1000 0xFF true 0x200 false)).pin 0).q = [] ∧ ((after (.markEvaluation 0 3) (armed 0x1400 0xFF true 0x200 false)).pin 0).edge = some 43 := by decide
theorem test_mark_jumped : ((armed 0x1000 0x80 true 0x200 true).pinLine 0).skipped ((armed 0x1000 0x80 true 0x200 true).pinLinePrev 0) 0x80 0x1000 = true ∧
    ((after (.markEvaluation 0 3) (armed 0x1400 0x80 true 0x200 true)).pin 0).edge = some 40 := by decide
theorem test_mark_gated : ((armed 0x1880 0 false 0 false).rput (pinReg 0 0) 0x20020000).inWindow 0 0 = false ∧
    (after (.markEvaluation 0 0) ((armed 0x1880 0 false 0 false).rput (pinReg 0 0) 0x20020000)).rb (pinReg 0 8) 28 = true := by decide
theorem test_mark_held : (State.reset.region 31).out = false ∧ idle (.markEvaluation 767 0) State.reset := by decide

/-- Pin 0 in Capture with both edges selected and CFMT, line 0 at 0x100 pu and a step of 5 pu; captures waiting. -/
def capturing (fmt : Nat) (valid : Bool) (caps : List (Word × List Tok)) : State :=
  (((running 0 State.reset).rput (pinReg 0 0) (BitVec.ofNat 64 (2 * 2 ^ 29 + 3 * 2 ^ 20 + fmt * 2 ^ 18))).setPin 0 { caps := caps }).setSpine 0 ⟨2, [{ ph := 0x10000, step := 1280, valid := valid }]⟩
theorem test_captureEdge : (capturing 0 true []).pinFunc 0 = 2 ∧ ((capturing 0 true []).rf (pinReg 0 0) 20 2).testBit 0 = true ∧
    ((after (.captureEdge 0 ⟨true, none⟩ 7 false false) (capturing 0 true [])).pin 0).caps = [(0x101, [{ d := 0x101 }])] ∧
    ((after (.captureEdge 0 ⟨true, none⟩ 8 true false) (capturing 2 true [])).pin 0).caps = [(0x101, [{ d := 0x101 }, { d := 0x41000000 }])] ∧
    ((after (.captureEdge 0 ⟨true, none⟩ 7 false true) (capturing 1 true [])).pin 0).caps = [(0x101, [{ d := 0xC1000101 }])] := by decide
theorem test_captureEdge_full : ((after (.captureEdge 0 ⟨true, none⟩ 7 false false) (capturing 0 true [(0, []), (0, []), (0, [])])).pin 0).caps.length = 4 ∧
    (after (.captureEdge 0 ⟨true, none⟩ 7 false false) (capturing 0 true [(0, []), (0, []), (0, []), (0, [])])).rb (pinReg 0 8) 26 = true := by decide
theorem test_captureEdge_invalid : ((after (.captureEdge 0 ⟨true, none⟩ 7 false false) (capturing 0 false [])).pin 0).caps = [(0, [{ p := true }])] ∧
    ((after (.captureEdge 0 ⟨true, none⟩ 7 false false) State.reset).pin 0).pad = true := by decide
theorem test_move_cap : ((after (.tokenMove (.cap 0) 0) ((capturing 0 true [(5, [{ d := 5 }])]).setChan (chKey (epPin 0 0 2)) { snk := epPin 0 1 0, stages := [none] })).pin 0).caps = [] ∧
    (after (.tokenMove (.cap 0) 0) ((capturing 0 true [(5, [{ d := 5 }])]).setChan (chKey (epPin 0 0 2)) { snk := epPin 0 1 0, stages := [none] })).rget (pinReg 0 0x1C) = 5 := by decide
theorem test_fpark : (after (.fpark .ixz 0 true) (armed 0x1000 0 true 0 false)).fparked 0 = true ∧ ((after (.fpark .ixz 0 true) (armed 0x1000 0 true 0 false)).pin 0).q = [] ∧
    ((after (.fpark .ixz 0 true) (armed 0x1000 0 true 0 false)).pin 0).parked = true ∧ (after (.fpark (.port 0 0 0) 0 true) State.reset).rf (violOf .pin 0) 0 16 = 1 := by decide
theorem test_pinCtlCancel : ((after (.pinCtlCancel .ixz 0) (armed 0x1000 0 true 0 false)).pin 0).q = [] := by decide
theorem test_wclr : ((after (.wclr .ixz 0) (State.reset.setPin 0 { wopen := 1, wclose := 2, staged := some 3 })).pin 0) = {} := by decide
/-! Ferries. -/

/-- Up-ferry 0 with CFG, STAT, RX and its state; the channel to it ends in a token. -/
def upWith (cfg stat rx : RegVal) (f : Ferry) : State :=
  ((((State.reset.setChan 9 { snk := epSeam 0 0, stages := [some { d := 5, p := true }] }).rput (upReg 0 0) cfg).rput (upReg 0 4) stat).rput (upReg 0 8) rx).setUpf 0 f
theorem test_upFerryToken : (upWith 0xA0000000 0 0 {}).upHead 0 = some (9, { d := 5, p := true }) ∧ kindOf ((upWith 0xA0000000 0 0 {}).rget (upReg 0 0)) true = .word ∧
    kindOf 0x20000000 true = .off ∧ kindOf 0xE0000000 true = .latest ∧ kindOf 0xA4000000 true = .latest ∧ kindOf 0xB0000000 true = .stream ∧ kindOf 0xA8000000 true = .pulse ∧
    ((after (.upFerryToken ⟨0, 0⟩) (upWith 0xA0000000 0 0 {})).upf 0).q = [{ d := 5, p := true }] ∧ State.reset.upHead 127 = none := by decide
theorem test_upFerryToken_room : ((after (.upFerryToken ⟨0, 0⟩) (upWith 0xA0000000 0 0 { q := [{}] })).upf 0).q = [{}] ∧
    ((after (.upFerryToken ⟨0, 0⟩) (upWith 0xB0000000 0 0 { q := List.replicate 7 {} })).upf 0).q.length = 8 ∧ ((after (.upFerryToken ⟨0, 0⟩) (upWith 0xB0000000 0 0 { q := List.replicate 8 {} })).upf 0).q.length = 8 ∧
    ((after (.upFerryToken ⟨0, 0⟩) (upWith 0xE0000000 0 0 { q := [{}] })).upf 0).q = [{ d := 5, p := true }] ∧
    ((after (.upFerryToken ⟨0, 0⟩) (upWith 0 0 0 {})).chan 9).stages = [none] := by decide
theorem test_pulseToken : ((after (.pulseToken ⟨0, 0⟩) (upWith 0xA8000000 0 0 {})).upf 0).xfer = some (1, true) ∧ (after (.pulseToken ⟨0, 0⟩) (upWith 0xA8000000 14 0 { xfer := some (1, false) })).rget (upReg 0 4) = 15 ∧
    (after (.pulseToken ⟨0, 0⟩) (upWith 0xA8000000 15 0 { xfer := some (1, false) })).rget (upReg 0 4) = 0x4000000F ∧ ((after (.pulseToken ⟨0, 0⟩) (upWith 0xA0000000 0 0 {})).upf 0).xfer = none := by decide
theorem test_transfer_up : (after (.ferryTransferComplete (.up 0)) (upWith 0xA0000000 0 0 { q := [{ d := 7, p := true }, {}] })).rget (upReg 0 8) = 0x500000007 ∧
    ((after (.ferryTransferComplete (.up 0)) (upWith 0xB0000000 0 0x400000001 { q := [{ d := 7 }] })).upf 0).q.length = 1 ∧
    (after (.ferryTransferComplete (.up 0)) (upWith 0xA4000000 0 0x400000001 { q := [{ d := 7 }] })).rget (upReg 0 8) = 0x400000007 := by decide
theorem test_transfer_pulse : (after (.ferryTransferComplete (.up 0)) (upWith 0xA8000000 3 0 { xfer := some (1, true), cntP := true })).rget (upReg 0 8) = 0xD00000000 ∧
    ((after (.ferryTransferComplete (.up 0)) (upWith 0xA8000000 3 0 { xfer := some (1, true), cntP := true })).upf 0) = { xfer := some (3, true) } ∧
    (after (.ferryTransferComplete (.up 0)) (upWith 0xA8000000 3 0 { xfer := some (1, true) })).rf (upReg 0 4) 0 4 = 0 ∧
    ((after (.ferryTransferComplete (.up 0)) (upWith 0xA8000000 0 0 { xfer := some (15, true) })).upf 0) = {} := by decide
theorem test_rxRead : (after (.rxRead .ixz 0) (upWith 0xA0000000 0 0x400000007 {})).rdata = 0x400000007 ∧ (after (.rxRead .ixz 0) (upWith 0xA0000000 0 0x400000007 {})).rget (upReg 0 8) = 0 ∧
    (after (.rxRead .debug 0) (upWith 0xA0000000 0 0x400000007 {})).rget (upReg 0 8) = 0x400000007 ∧ (after (.rxRead .ixz 0) (upWith 0xA4000000 0 0x400000007 {})).rget (upReg 0 8) = 0x400000007 := by decide
theorem test_unsettled : (after (.unsettled (.up 0)) (upWith 0xA4000000 0 0 {})).rb (upReg 0 4) 31 = true ∧ (after (.unsettled (.up 0)) (upWith 0xA0000000 0 0 {})).rb (upReg 0 4) 31 = false ∧
    (after (.unsettled (.dn 127)) (State.reset.rput (dnReg 127 0) 0xA4000000)).rb (dnReg 127 4) 31 = true := by decide

/-- Down-ferry 0, the first stage of its channel free. -/
def dnWith (cfg stat : RegVal) (f : Ferry) : State :=
  (((State.reset.setChan (chKey (epSeam 0 0)) { snk := epPin 0 0 0, stages := [none, none] }).rput (dnReg 0 0) cfg).rput (dnReg 0 4) stat).setDnf 0 f
theorem test_txWrite : mgmtIssuer (.core 0) = true ∧ (dnWith 0xA0000000 0 {}).rf (dnReg 0 0) 29 2 = 1 ∧ kindOf 0xA0000000 false = .word ∧
    ((after (.txWrite (.core 0) 0 0x300000005) (dnWith 0xA0000000 0 {})).dnf 0).q = [{ d := 5, p := true, f := true }] ∧
    (after (.txWrite (.core 0) 0 5) (dnWith 0xA0000000 0 { q := [{}] })).rb (dnReg 0 4) 29 = true ∧
    ((after (.txWrite (.core 0) 0 5) (dnWith 0xB0000000 0 { q := List.replicate 7 {} })).dnf 0).q.length = 8 ∧
    ((after (.txWrite (.core 0) 0 5) (dnWith 0xA4000000 0 { q := [{}] })).dnf 0).q = [{ d := 5 }] ∧ ((after (.txWrite (.core 0) 0 5) (dnWith 0xC0000000 0 {})).dnf 0).q = [] := by decide
theorem test_pulseWrite : ((after (.pulseWrite .ixz 0 1) (dnWith 0xA8000000 0 {})).dnf 0).xfer = some (1, false) ∧ (after (.pulseWrite .ixz 0 1) (dnWith 0xA8000000 15 { xfer := some (1, false) })).rget (dnReg 0 4) = 0x4000000F ∧
    ((after (.pulseWrite .ixz 0 2) (dnWith 0xA8000000 0 {})).dnf 0).xfer = none := by decide
theorem test_ferry_issuer : mgmtIssuer (.port 0 0 0) = false ∧ (after (.txWrite (.port 0 0 0) 0 5) State.reset).rf ⟨.fry, 0, 4⟩ 0 16 = 1 ∧ (after (.pulseWrite (.port 0 0 0) 0 5) State.reset).rf ⟨.fry, 0, 4⟩ 0 16 = 1 ∧
    (after (.ferryCfgWrite (.port 0 0 0) (.up 127) 5) State.reset).rf ⟨.fry, 0, 4⟩ 0 16 = 1 := by decide
theorem test_transfer_down : ((after (.ferryTransferComplete (.dn 0)) (dnWith 0xA0000000 0 { q := [{ d := 5 }] })).dnf 0).crossed = true ∧ ((after (.ferryTransferComplete (.dn 0)) (dnWith 0xA0000000 0 {})).dnf 0).crossed = false := by decide
theorem test_move_down : ((after (.tokenMove (.down 0) 0) (dnWith 0xA0000000 0 { q := [{ d := 5 }, { d := 6 }], crossed := true })).chan (chKey (epSeam 0 0))).stages = [some { d := 5 }, none] ∧
    ((after (.tokenMove (.down 0) 0) (dnWith 0xA0000000 0 { q := [{ d := 5 }, { d := 6 }], crossed := true })).dnf 0) = { q := [{ d := 6 }] } ∧
    ((after (.tokenMove (.down 0) 0) (dnWith 0xA0000000 0 { q := [{ d := 5 }] })).dnf 0) = { q := [{ d := 5 }] } := by decide
theorem test_move_down_pulse : ((after (.tokenMove (.down 0) 0) (dnWith 0xA8000000 2 { xfer := some (4, false), crossed := true })).chan (chKey (epSeam 0 0))).stages = [some { d := 4 }, none] ∧
    ((after (.tokenMove (.down 0) 0) (dnWith 0xA8000000 2 { xfer := some (4, false), crossed := true })).dnf 0) = { xfer := some (2, false) } := by decide
theorem test_tap_ferry : idle (.ferryTransferComplete (.tap 3)) State.reset ∧ idle (.unsettled (.tap 0)) State.reset := by decide

theorem test_ferryCfgWrite : (after (.ferryCfgWrite .ixz (.up 0) 0xFFFFFFFF) State.reset).rget (upReg 0 0) = 0xFC0F0000 ∧ (after (.ferryCfgWrite .ixz (.dn 0) 0xBFFFFFFF) State.reset).rget (dnReg 0 0) = 0xBC000000 := by decide
theorem test_ferryCfgWrite_enabled : (after (.ferryCfgWrite .ixz (.up 0) 0x20000000) (upWith 0xA0000000 0 0 {})).rget (upReg 0 0) = 0x20000000 ∧
    (after (.ferryCfgWrite .ixz (.up 0) 0xA4000000) (upWith 0xA0000000 0 0 {})).rget (upReg 0 0) = 0xA0000000 ∧ (after (.ferryCfgWrite .ixz (.up 0) 0xA4000000) (upWith 0xA0000000 0 0 {})).rf ⟨.fry, 0, 4⟩ 0 16 = 1 := by decide
theorem test_ferryCfgWrite_image : (after (.ferryCfgWrite .ixz (.dn 0) 0) (dnWith 0xC0000000 0 {})).rf ⟨.fry, 0, 4⟩ 0 16 = 1 ∧ (after (.ferryCfgWrite .ixz (.dn 0) 0xC0000000) State.reset).rget (dnReg 0 0) = 0 := by decide
theorem test_ferryCfgWrite_port : (after (.ferryCfgWrite .ixz (.up 1) 0xE0030000) (upWith 0xE0030000 0 0 {})).rget (upReg 1 0) = 0 ∧
    (after (.ferryCfgWrite .ixz (.up 1) 0xE0040000) (upWith 0xE0030000 0 0 {})).rget (upReg 1 0) = 0xE0040000 := by decide
/-! Choval links. -/

/-- Link 0, Lit, in a state, with what it holds. -/
def link (st : Nat) (k : CLink) : State := ((lit 696 State.reset).rsetf (chl 0 4) 0 3 st).setClink 0 k
/-- A frame's words 0 and 1, its message words, and its CRC. -/
def frame (w0 w1 : Word) (ms : List Word) : List Word := withCrc ([w0, w1] ++ ms)
def got (w0 : Word) (ms : List Word) (k : CLink) : State := after (.frameReceive 0 (frame w0 0 ms) ⟨0, 0, false⟩ 9) (link 5 k)
theorem test_frameReceive_bad : (link 5 {}).lstate 0 = 5 ∧ ((after (.frameReceive 0 [] ⟨1, 0, true⟩ 0) (link 5 {})).clink 0) = { nak := 1, fails := 1 } ∧ (after (.frameReceive 0 [] ⟨1, 0, true⟩ 0) (link 5 {})).rb (chl 0 4) 31 = true ∧
    (after (.frameReceive 0 [] ⟨1, 0, true⟩ 0) (link 5 { fails := 1, nak := 2 })).lstate 0 = 6 ∧ (after (.frameReceive 0 [] ⟨1, 0, true⟩ 0) (link 5 { fails := 1, nak := 2 })).rf (chl 0 0x14) 16 8 = 1 ∧
    (after (.frameReceive 0 [] ⟨1, 0, true⟩ 0) (link 5 { fails := 1, nak := 2 })).clink 0 = { nak := 2, fails := 0, rephase := 2, resume := true } ∧ idle (.frameReceive 31 [] ⟨1, 0, true⟩ 0) State.reset := by decide
theorem test_frameReceive_crc : crcOk (frame 0x10000000 0 [0x30001002, 0, 7]) = true ∧ crcOk (0 :: frame 0x10000000 0 []) = false ∧
    (after (.frameReceive 0 (0 :: frame 0x10000000 0 []) ⟨0, 0, false⟩ 0) (link 5 {})).rb (chl 0 4) 31 = true := by decide +kernel
theorem test_frameReceive : (got 0x10000000 [0x31001002, 0, 7] { rxSeq := 0, nak := 2 }).clink 0 = { rxSeq := 1, nak := 0, rx := [⟨0, [⟨3, 1, 2, 0, [7], none⟩], 9⟩] } := by decide +kernel
theorem test_frameReceive_prot : ((got 0x10000001 [0x32001002, 0, 7, 8] {}).clink 0).rx = [] ∧ (got 0x10000001 [0x32001002, 0, 7, 8] {}).rb (chl 0 4) 27 = true ∧ ((got 0x10000001 [0x32001002, 0, 7, 8] {}).clink 0).freed = 0x00010000 ∧
    (got 0x20000000 [] {}).rb (chl 0 4) 27 = true ∧ (got 0xE0000000 [] {}).rb (chl 0 4) 27 = true ∧ ((got 0xF0000000 [] {}).clink 0) = {} := by decide +kernel
theorem test_frameReceive_seq : ((got 0x10010000 [] {}).clink 0).nak = 1 ∧ ((got 0x10010000 [] {}).clink 0).rxSeq = 0 ∧ ((got 0x1FFF0000 [] {}).clink 0).nak = 0 ∧ ((got 0x10000000 [] { rxSeq := 4095 }).clink 0).nak = 1 ∧
    ((got 0x1FFF0000 [] { rxSeq := 4095 }).clink 0).rxSeq = 0 ∧ seqAfter 2047 0 = true ∧ seqAfter 2048 0 = false := by decide +kernel
def sentTwo : CLink := { retry := [⟨4095, 0, [], false⟩, ⟨0, 1, [], false⟩], nextSeq := 1 }
theorem test_frameReceive_ack : ((got 0x0000FFF0 [] sentTwo).clink 0).retry = [⟨0, 1, [], false⟩] ∧ ((got 0 [] sentTwo).clink 0).retry = [] ∧ ((got 0x00000050 [] sentTwo).clink 0).retry.length = 2 ∧
    ((got 0x0000FFF8 [] sentTwo).clink 0).replay = some (0, 0) ∧ ((got 0x0000FFF0 [] sentTwo).clink 0).replay = none := by decide +kernel
theorem test_frameReceive_credit : (after (.frameReceive 0 (frame 0 0x01000002 []) ⟨0, 0, false⟩ 0) (link 5 { peerFreed := 0x000000FF })).rf (chl 0 0x10) 0 8 = 3 ∧
    (after (.frameReceive 0 (frame 0 0x01000002 []) ⟨0, 0, false⟩ 0) (link 5 { peerFreed := 0x000000FF })).rf (chl 0 0x10) 24 8 = 1 ∧ (link 5 {}).rf (chl 0 0x10) 0 32 = 0 := by decide +kernel

/-- Link 0 ACTIVE, with credits of every class but the third. -/
def sender (k : CLink) : State := (link 5 k).rput (chl 0 0x10) 0x01010001
def sent (k : CLink) : CLink := (after (.frameBoundary 0 5) (sender k)).clink 0
theorem test_frameBoundary_dark : State.reset.linkLit 31 = false ∧ idle (.frameBoundary 31 0) State.reset ∧ idle (.frameBoundary 0 0) (link 0 {}) ∧ idle (.frameBoundary 0 0) (link 7 {}) := by decide
theorem test_frameBoundary_train : (link 1 {}).linkLit 0 = true ∧ crcOk ((after (.frameBoundary 0 0) (link 1 {})).clink 0).tx = true ∧ fld (nth 0 ((after (.frameBoundary 0 0) (link 4 { train := [0] })).clink 0).tx 0) 24 8 = 0xF5 ∧
    fld (nth 0 ((after (.frameBoundary 0 0) (link 6 { rephase := 2, resume := true })).clink 0).tx 0) 15 17 = 0x1E401 ∧ nth 0 ((after (.frameBoundary 0 0) (link 2 {})).clink 0).tx 3 = 0x08303010 := by decide +kernel
theorem test_frameBoundary_idle : fld (nth 0 (sent {}).tx 0) 0 32 = 0x0000FFF0 ∧ (sent { nak := 1, rxSeq := 5, freed := 9 }).nak = 2 ∧ (sent { nak := 1, rxSeq := 5, freed := 9 }).tx.take 2 = [0x00000048, 9] ∧ crcOk (sent {}).tx = true := by decide +kernel
def msgOfClass (c : Nat) : Nat × Msg := (c, ⟨3, 1, 2, 0, [7], none⟩)
theorem test_frameBoundary_new : (sender { txq := [msgOfClass 1, msgOfClass 0] }).classReady 0 0 = true ∧ (sent { txq := [msgOfClass 1, msgOfClass 0] }).txq = [msgOfClass 1] ∧
    (sent { txq := [msgOfClass 1, msgOfClass 0], nextSeq := 4095 }).nextSeq = 0 ∧ (sent { txq := [msgOfClass 0] }).retry.map (fun f => (f.seq, f.cls)) = [(0, 0)] ∧ fld (nth 0 (sent { txq := [msgOfClass 3] }).tx 0) 0 32 = 0x1000FFF3 := by decide +kernel
theorem test_frameBoundary_turn : (sender { turn := 2, turnUsed := 1, txq := [msgOfClass 1, msgOfClass 3] }).weight 0 3 = 1 ∧
    (sent { turn := 2, turnUsed := 1, txq := [msgOfClass 1, msgOfClass 3] }).txq = [msgOfClass 3] ∧ (sent { turn := 2, turnUsed := 0, txq := [msgOfClass 1, msgOfClass 3] }).txq = [msgOfClass 1] ∧
    (sent { txq := [msgOfClass 2] }).txq = [msgOfClass 2] ∧ (sender { txq := [msgOfClass 2] }).classReady 0 2 = false := by decide +kernel
theorem test_frameBoundary_replay : (sent { sentTwo with replay := some (4095, 4095) }).replay = some (0, 4095) ∧ (sent { sentTwo with replay := some (0, 4095) }).replay = none ∧
    (sent { sentTwo with replay := some (4095, 4095) }).retry.map (·.again) = [true, false] ∧ fld (nth 0 (sent { sentTwo with replay := some (4095, 4095) }).tx 0) 16 16 = 0x1FFF := by decide +kernel
/-- Channel 15 of link 0 is mapped to up-ferry 127, which holds 12 tokens. -/
def mapped : State := let o := 4 * (2 * 15)
  latched 10 0 (o / 512) (o % 512) [0, 0, 0xC0, 0x9F] (((link 5 {}).rput (upReg 127 0) 0xB0000000).setUpf 127 { q := List.replicate 12 {} })
theorem test_frameBoundary_stream : bit (mapped.streamMap 0 15 0) 31 = true ∧ mapFerry (mapped.streamMap 0 15 0) = 127 ∧ ((after (.frameBoundary 0 0) mapped).upf 127).q.length = 2 := by decide +kernel
theorem test_replayTimeout : ((after (.replayTimeout 0) (link 5 sentTwo)).clink 0).replay = some (4095, 4095) ∧ (after (.replayTimeout 0) (link 5 { retry := [⟨7, 0, [], true⟩] })).lstate 0 = 6 ∧
    (after (.replayTimeout 0) (link 6 { retry := [⟨7, 0, [], true⟩] })).rb (chl 0 4) 30 = true ∧ (after (.replayTimeout 0) (link 6 sentTwo)).clink 0 = sentTwo ∧ idle (.replayTimeout 31) State.reset := by decide

/-- Link 0 training, lanes permitted. -/
def train (st : Nat) (k : CLink) : State := (link st k).rput (chl 0 0) 0x83000000
theorem test_signalDetect : (train 1 {}).usable 0 = 3 ∧ (after (.signalDetect 0 2) (train 1 {})).lstate 0 = 2 ∧ ((after (.signalDetect 0 2) (train 1 {})).clink 0).signal = 2 ∧ (after (.signalDetect 0 0) (train 1 {})).lstate 0 = 1 := by decide
theorem test_blockLock : (after (.blockLock 0 1) (train 2 { signal := 2 })).lstate 0 = 3 ∧ (after (.blockLock 0 0) (train 2 { signal := 3 })).lstate 0 = 2 ∧ (after (.blockLock 0 0) (train 2 { signal := 3 })).locked 0 = 1 ∧
    (after (.blockLock 0 0) (train 7 {})).locked 0 = 0 := by decide
theorem test_blockLockLoss : (after (.blockLockLoss 0 1 ⟨16, 16⟩) ((train 5 {}).rsetf (chl 0 4) 8 2 2)).lstate 0 = 6 ∧ (after (.blockLockLoss 0 0 ⟨16, 16⟩) ((train 5 {}).rsetf (chl 0 4) 8 2 2)).lstate 0 = 5 ∧
    (after (.blockLockLoss 0 1 ⟨15, 15⟩) ((train 5 {}).rsetf (chl 0 4) 8 2 2)).lstate 0 = 5 ∧ (after (.blockLockLoss 0 1 ⟨64, 60⟩) (train 1 {})).rf (chl 0 0x18) 16 8 = 60 := by decide
theorem test_lockTimeout : (after (.lockTimeout 0) (train 2 { signal := 3 })).lstate 0 = 1 ∧ (after (.lockTimeout 0) ((train 2 { signal := 3 }).rput (chl 0 0x18) 0x8000)).lstate 0 = 3 ∧ (after (.lockTimeout 0) (train 3 {})).lstate 0 = 3 := by decide
theorem test_alignComplete : (after (.alignComplete 0 2 true) (train 3 {})).lstate 0 = 4 ∧ (after (.alignComplete 0 2 true) (train 3 {})).rget (chl 0 0x18) = 0x60002000 ∧ ((after (.alignComplete 0 0 false) (train 6 { rephase := 3 })).clink 0).rephase = 4 ∧
    (after (.alignComplete 0 2 true) (train 4 {})).rget (chl 0 0x18) = 0 := by decide
theorem test_alignLimit : (after (.alignLimit 0) (train 3 {})).lstate 0 = 1 ∧ ((after (.alignLimit 0) (train 6 { rephase := 3 })).clink 0).rephase = 2 ∧ (after (.alignLimit 0) (train 4 {})).lstate 0 = 4 := by decide
theorem test_negotiateTimeout : (after (.negotiateTimeout 0) (train 4 {})).lstate 0 = 1 ∧ ((after (.negotiateTimeout 0) (train 6 { rephase := 4 })).clink 0).rephase = 2 ∧ (after (.negotiateTimeout 0) (train 3 {})).lstate 0 = 3 := by decide
theorem test_laneTestComplete : ((after (.laneTestComplete 0 0 true) (train 6 { rephase := 2 })).clink 0).rephase = 2 ∧ ((after (.laneTestComplete 0 0 true) (train 6 { rephase := 2, passed := 2 })).clink 0).rephase = 3 ∧
    (after (.laneTestComplete 0 1 false) (train 6 { rephase := 2 })).rf (chl 0 4) 6 2 = 2 ∧ ((after (.laneTestComplete 0 1 false) (train 6 { rephase := 2, passed := 1 })).clink 0).rephase = 3 ∧
    (after (.laneTestComplete 0 1 false) ((train 6 { rephase := 2 }).rsetf (chl 0 4) 6 2 1)).lstate 0 = 7 := by decide +kernel
theorem test_downtmo : (after (.downtmo 0) (train 6 { rephase := 2 })).lstate 0 = 7 ∧ (after (.downtmo 0) (train 6 { rephase := 2 })).rb (chl 0 4) 26 = true ∧ idle (.downtmo 31) State.reset := by decide +kernel

/-- A TRAIN frame: TSTATE, RESUME, the versions and VSEL, package, link and lanes, credits, NEXTSEQ. -/
def trainer (ts : Nat) (resume : Bool) (vmax vmin vsel pkg next : Nat) : List Word :=
  withCrc [BitVec.ofNat 32 (15 * 2 ^ 28 + ts * 2 ^ 24 + (if resume then 2 ^ 15 else 0)), BitVec.ofNat 32 (vmax * 2 ^ 24 + vmin * 2 ^ 16 + vsel * 2 ^ 8),
    BitVec.ofNat 32 (pkg * 2 ^ 20 + 3 * 2 ^ 15 + 3 * 2 ^ 13), 0x08303010, BitVec.ofNat 32 (next * 2 ^ 20)]
def trained (st : Nat) (k : CLink) (ws : List Word) : State := after (.trainFrameReceived 0 ⟨ws, 0, 0⟩) ((train st k).rput (chl 0 0x18) 0x80008000)
/-- The peer's TSTATE 5 frame twice received. -/
def twice (t : List Word) : CLink := { train := setFld (nth 0 t 0) 16 8 0 :: (t.drop 1).take 14, same := 2 }
theorem test_trainFrame_outside : (train 5 {}).inPhase 0 3 = false ∧ (train 6 { rephase := 3 }).inPhase 0 3 = true ∧ (trained 5 {} []).rb (chl 0 4) 31 = false ∧ (trained 4 {} [1]).rb (chl 0 4) 31 = true := by decide +kernel
theorem test_trainFrame_id : (trained 3 {} (trainer 3 false 1 1 0 0xFFF 0)).rf (chl 0 8) 20 12 = 0xFFF ∧ (trained 3 {} (trainer 3 false 1 1 0 0xFFF 0)).rf (chl 0 8) 15 5 = 3 ∧ ((trained 3 {} (trainer 3 false 1 1 0 0xFFF 0)).clink 0).isolated = false ∧
    ((trained 3 {} (trainer 3 false 1 1 0 0 0)).clink 0).isolated = true ∧ (trained 3 {} (trainer 3 false 1 1 0 0 0)).rb sysStat 31 = true := by decide +kernel
theorem test_trainFrame_detect : (trained 4 {} (trainer 1 false 1 1 0 7 0)).lstate 0 = 1 ∧ ((trained 6 { rephase := 4 } (trainer 1 false 1 1 0 7 0)).clink 0).rephase = 2 := by decide +kernel
theorem test_trainFrame_version : State.reset.rf (chvReg 0) 0 16 = 0x101 ∧ (trained 4 {} (trainer 4 false 3 2 0 7 0)).lstate 0 = 7 ∧ (trained 4 {} (trainer 4 false 3 2 0 7 0)).rb (chl 0 4) 28 = true ∧
    (trained 4 {} (trainer 4 false 3 1 1 7 0)).lstate 0 = 4 ∧ ((trained 4 {} (trainer 4 false 3 1 1 7 0)).clink 0).same = 1 := by decide +kernel
theorem test_trainFrame_active : (trained 4 (twice (trainer 5 false 1 1 1 7 0)) (trainer 5 false 1 1 1 7 0)).lstate 0 = 5 ∧ (trained 4 (twice (trainer 5 false 1 1 1 7 0)) (trainer 5 false 1 1 1 7 0)).rf (chl 0 4) 16 4 = 1 ∧
    (trained 4 (twice (trainer 5 false 1 1 1 7 0)) (trainer 5 false 1 1 1 7 0)).rf (chl 0 0x10) 0 32 = 0x08303010 ∧
    (trained 4 { twice (trainer 5 false 1 1 1 7 0) with same := 1 } (trainer 5 false 1 1 1 7 0)).lstate 0 = 4 := by decide +kernel
theorem test_trainFrame_resume : let k := { twice (trainer 5 true 1 1 1 7 0) with retry := sentTwo.retry, nextSeq := 1, rephase := 4, resume := true, rxSeq := 9 }
    ((trained 6 k (trainer 5 true 1 1 1 7 0)).clink 0).retry = [⟨0, 1, [], false⟩] ∧ ((trained 6 k (trainer 5 true 1 1 1 7 0)).clink 0).replay = some (0, 0) ∧ ((trained 6 k (trainer 5 true 1 1 1 7 0)).clink 0).rxSeq = 9 ∧
    k.windowHolds 1 = true ∧ k.windowHolds 2 = false := by decide +kernel
theorem test_trainFrame_fresh : let t := trainer 5 true 1 1 1 7 0
    let u := trained 4 { twice t with retry := sentTwo.retry, nextSeq := 1, rxSeq := 9 } t
    (u.clink 0).retry = [] ∧ (u.clink 0).rxSeq = 0 ∧ u.rb (chl 0 4) 26 = true := by decide +kernel

theorem test_linkEnable : (after (.linkEnable .ixz 0) (link 0 {})).lstate 0 = 1 ∧ (after (.linkEnable .ixz 0) (link 0 {})).rb (chl 0 0) 31 = true ∧ (after (.linkEnable .ixz 31) State.reset).lstate 31 = 0 ∧
    (after (.linkEnable .ixz 0) (link 5 { nextSeq := 4 })).clink 0 = { nextSeq := 4 } ∧ (after (.linkEnable .ixz 0) ((link 0 {}).rput ⟨.asy, 0, 0x190⟩ 1)).lstate 0 = 0 := by decide
theorem test_linkDisable : (after (.linkDisable .ixz 0) (train 5 { nextSeq := 4, txq := [] })).lstate 0 = 0 ∧ ((after (.linkDisable .ixz 0) (train 5 { nextSeq := 4 })).clink 0).nextSeq = 0 ∧ (after (.linkDisable .ixz 0) (train 0 {})).rb (chl 0 0) 31 = false := by decide +kernel
theorem test_linkStop_answers : (let s := { train 5 {} with flights := [{ id := 3, sent := some (0, 7) }, { id := 4 }] }
    (after (.linkDisable .ixz 0) s).flights.map (·.ans)) = [some .unreachable, none] := by decide +kernel
theorem test_retrain : (after (.retrain .ixz 0 false) (train 5 {})).lstate 0 = 6 ∧ (after (.retrain .ixz 0 true) ((train 7 {}).rsetf (chl 0 4) 6 2 3)).lstate 0 = 1 ∧ (after (.retrain .ixz 0 true) ((train 7 {}).rsetf (chl 0 4) 6 2 3)).rf (chl 0 4) 6 2 = 0 ∧
    (after (.retrain .ixz 0 true) (train 6 {})).lstate 0 = 6 := by decide
theorem test_link_issuer : (after (.linkEnable (.port 0 0 0) 0) State.reset).rf (chvReg 4) 0 16 = 1 ∧ (after (.linkDisable (.port 0 0 0) 0) State.reset).rf (chvReg 4) 0 16 = 1 ∧ (after (.retrain (.port 0 0 0) 0 true) State.reset).rf (chvReg 4) 0 16 = 1 := by decide
/-! Messages between packages. -/

/-- Link 0 ACTIVE with one received frame of a class, and what else it holds. -/
def inbox (c : Nat) (ms : List Msg) : State := link 5 { rx := [⟨c, ms, 1000⟩] }
theorem test_readMessage : ((inbox 3 [⟨1, 0, 9, 0x00115000, [0x80804004], none⟩]).clink 0).rx = [] ++ ⟨3, [⟨1, 0, 9, 0x00115000, [0x80804004], none⟩], 1000⟩ :: [] ∧ (inbox 3 []).ownPkg = 0 ∧
    ((after (.readMessage 0 3) (inbox 3 [⟨1, 0, 9, 0x00115000, [0x80804004], none⟩])).flights.map (fun f => (f.kind, f.addr, f.lock, f.poison, f.tc))) = [(.read, 0x100804004, true, true, 3)] ∧
    ((after (.readMessage 0 3) (inbox 3 [⟨1, 0, 9, 0x00115000, [0x80804004], none⟩])).clink 0).rx = [] ∧ ((after (.readMessage 0 3) (inbox 3 [⟨1, 0, 9, 0x00115000, [0x80804004], none⟩])).clink 0).freed = 1 := by decide
theorem test_writeMessage : ((after (.writeMessage 0 0) (inbox 0 [⟨2, 0, 9, 0xC8000000, [0x7C804000, 7], none⟩, {}])).flights.map (fun f => (f.kind, f.addr, f.data.d, f.iss))) = [(.write, 0x137804000, 7, .remote 9 25 (portWordLp 0xC8000000))] ∧
    (((after (.writeMessage 0 0) (inbox 0 [⟨2, 0, 9, 0xC8000000, [0x7C804000, 7], none⟩, {}])).clink 0).rx.map (·.msgs.length)) = [1] := by decide
/-- An access of logical port 65 that has left on link 0 with TAG 5. -/
def gone (k : AKind) (ms : List Msg) : State := { inbox 0 ms with flights := [{ id := 4, lp := 65, kind := k, pkg := some 9, sent := some (0, 5) }] }
theorem test_rdrsp : portWordLp 0x08205000 = 65 ∧ ((gone .read []).recordOf 0x08205000 .read).isSome = true ∧ ((gone .read []).recordOf 0x08206000 .read).isSome = false ∧
    ((after (.rdrsp 0 0) (gone .read [⟨3, 0, 9, 0x08305000, [7], none⟩])).flights.map (·.ans)) = [some (.word { d := 7, p := true })] ∧
    ((after (.rdrsp 0 0) (gone .read [⟨3, 0, 9, 0x08205100, [7], none⟩])).flights.map (·.ans)) = [some .quarantined] ∧ (after (.rdrsp 0 0) (gone .write [⟨3, 0, 9, 0x08205000, [7], none⟩])).rf sysErr 24 8 = 1 := by decide
theorem test_wrdone : ((after (.wrdone 0 0) (gone .write [⟨4, 0, 9, 0x08205000, [], none⟩])).flights.map (·.ans)) = [some .done] ∧ ((after (.wrdone 0 0) (gone .write [⟨4, 0, 9, 0x08205200, [], none⟩])).flights.map (·.ans)) = [some .unreachable] ∧
    (after (.wrdone 0 0) (gone .read [⟨4, 0, 9, 0x08205000, [], none⟩])).rf sysErr 24 8 = 1 := by decide
/-- Inbound channel 15 of link 0 is mapped to down-ferry 0 with a CFG and tokens waiting. -/
def streamIn (cfg : RegVal) (q : List Tok) (ws : List Word) : State :=
  let o := 4 * (2 * 15 + 1)
  latched 10 0 (o / 512) (o % 512) [0, 0, 0, 0x80] (((inbox 1 [⟨5, 0, 9, 0xF0000007, ws, none⟩]).rput (dnReg 0 0) cfg).setDnf 0 { q := q })
theorem test_streamMessage : bit ((streamIn 0 [] []).streamMap 0 15 1) 31 = true ∧ mapFerry ((streamIn 0 [] []).streamMap 0 15 1) = 0 ∧ kindOf ((streamIn 0xD0000000 [] []).rget (dnReg 0 0)) false = .stream ∧
    ((after (.streamMessage 0 1) (streamIn 0xD0000000 [] [5, 6])).dnf 0).q = [{ d := 5, p := true, f := true }, { d := 6, p := true }] ∧ ((after (.streamMessage 0 1) (streamIn 0xD0000000 [] [5, 6])).clink 0).rx = [] := by decide +kernel
theorem test_streamMessage_part : ((after (.streamMessage 0 1) (streamIn 0xD0000000 (List.replicate 7 {}) [5, 6])).dnf 0).q.length = 8 ∧
    (((after (.streamMessage 0 1) (streamIn 0xD0000000 (List.replicate 7 {}) [5, 6])).clink 0).rx.flatMap (·.msgs)) = [⟨5, 0, 9, 0xF0000001, [6], none⟩] := by decide +kernel
theorem test_streamMessage_latest : ((after (.streamMessage 0 1) (streamIn 0xC4000000 [{}] [5, 6])).dnf 0).q = [{ d := 6, p := true }] ∧ (after (.streamMessage 0 1) (inbox 1 [⟨5, 0, 9, 0, [5], none⟩])).rb (chl 0 4) 27 = true := by decide +kernel
theorem test_remote_none : State.reset.front 31 3 = none ∧ idle (.rdrsp 31 3) State.reset ∧ (after (.rdrsp 0 0) (inbox 0 [⟨3, 1, 9, 0, [7], none⟩])).clink 0 = (inbox 0 [⟨3, 1, 9, 0, [7], none⟩]).clink 0 := by decide
theorem test_remoteTimeout : ((gone .read []).flight 4).isSome = true ∧ ((after (.remoteTimeout 4) (gone .read [])).flights.map (·.ans)) = [some .unreachable] ∧ (after (.remoteTimeout 4) (gone .read [])).rb sysStat 29 = true ∧
    idle (.remoteTimeout 4) State.reset := by decide

/-- The route entry of package 9; links 0 and 1 in given states. -/
def routed (e : RegVal) (a b : Nat) (s : State) : State := (((s.rput (chvReg 0x4024) e).rsetf (chl 0 4) 0 3 a).rsetf (chl 1 4) 0 3 b)
theorem test_lookup : State.reset.lookup 4095 = .invalid ∧ (routed 0x80000000 5 0 State.reset).lookup 9 = .via 0 ∧ (routed 0xC0000100 0 6 State.reset).lookup 9 = .via 1 ∧ (routed 0xC0000100 7 5 State.reset).lookup 9 = .via 1 ∧
    (routed 0xC0000100 3 5 State.reset).lookup 9 = .unreachable ∧ (routed 0x80000100 0 5 State.reset).lookup 9 = .unreachable ∧ (routed 0xC0000100 0 4 State.reset).lookup 9 = .unreachable := by decide
def onward (m : Msg) (e : RegVal) (b : Nat) : State := routed e 5 b (inbox 2 [m])
theorem test_forwarding_drop : ((after (.forwarding (.link 0 2)) (onward ⟨5, 9, 3, 0, [1], none⟩ 0x80000001 5)).rf sysErr 8 8 = 1) ∧ (after (.forwarding (.link 0 2)) (onward ⟨3, 9, 3, 0, [1], none⟩ 0x80000000 5)).rf sysErr 8 8 = 1 ∧
    (after (.forwarding (.link 0 2)) (onward ⟨3, 9, 3, 0, [1], none⟩ 0x80000001 3)).rf sysErr 8 8 = 1 ∧ (after (.forwarding (.link 0 2)) (onward ⟨3, 9, 3, 0, [1], none⟩ 0 5)).rf (chvReg 4) 0 16 = 1 := by decide
theorem test_forwarding_on : ((after (.forwarding (.link 0 2)) (onward ⟨3, 9, 3, 0, [1], none⟩ 0x80000001 5)).clink 1).txq = [(2, ⟨3, 9, 3, 0, [1], some 0⟩)] ∧ ((after (.forwarding (.link 0 2)) (onward ⟨3, 9, 3, 0, [1], none⟩ 0x80000001 5)).clink 0).freed = 0x100 := by decide
theorem test_forwarding_invalid : let s := (onward ⟨1, 8, 9, 0x08205000, [1], none⟩ 0x80000001 5)
    s.lookup 8 = .invalid ∧ s.lookup 9 = .via 1 ∧ ((after (.forwarding (.link 0 2)) s).clink 1).txq = [(2, ⟨3, 9, 0, 0x08205000, [0], none⟩)] ∧ (after (.forwarding (.link 0 2)) s).rf (chvReg 4) 0 16 = 1 := by decide
theorem test_forwarding_unreachable : let s := (onward ⟨2, 8, 9, 0x08205000, [1, 2], none⟩ 0x80000001 5).rput (chvReg 0x4020) 0x8000001F
    s.lookup 8 = .unreachable ∧ ((after (.forwarding (.link 0 2)) s).clink 1).txq = [(2, ⟨4, 9, 0, 0x08205200, [], none⟩)] ∧ (after (.forwarding (.link 0 2)) s).rb sysStat 30 = true := by decide
theorem test_forwarding_own : ((after (.forwarding (.link 0 2)) (inbox 2 [⟨1, 0, 9, 0, [4], none⟩])).flights.map (·.addr)) = [0x100000004] ∧
    ((after (.forwarding (.link 0 2)) (link 5 { rx := [⟨2, [⟨1, 0, 9, 0, [4], none⟩], 0⟩], isolated := true })).clink 0).rx = [] := by decide
/-- An access of logical port 65 to package 9. -/
def leaving (n : Nat) (s : State) : State :=
  { s with flights := { id := 4, lp := 65, kind := .write, tc := 3, pkg := some 9, addr := 0x100804004, data := { d := 7 }, lock := true } ::
      List.replicate n { id := 5, lp := 65, pkg := some 9, sent := some (0, 0) } }
theorem test_forwarding_leaves : ((after (.forwarding (.flight 4)) (leaving 1 (routed 0x80000000 5 0 State.reset))).clink 0).txq = [(3, ⟨2, 9, 0, 0x08201000, [0x80804004, 7], none⟩)] ∧ portWordLp 0x08201000 = 65 ∧
    ((after (.forwarding (.flight 4)) (leaving 1 (routed 0x80000000 5 0 State.reset))).flights.map (·.sent)) = [some (0, 1), some (0, 0)] := by decide
theorem test_forwarding_answers : ((after (.forwarding (.flight 4)) (leaving 0 State.reset)).flights.map (·.ans)) = [some .done] ∧ (after (.forwarding (.flight 4)) (leaving 0 State.reset)).rf (chvReg 4) 0 16 = 1 ∧
    ((after (.forwarding (.flight 4)) (leaving 0 (routed 0x80000000 0 0 State.reset))).flights.map (·.ans)) = [some .unreachable] := by decide
/-- Part of an MGMT packet of 46 bytes from package 9. -/
def mgmt (frag plen last : Nat) (ws : List Word) (r : Reasm) : State :=
  (inbox 3 [⟨7, 0, 9, BitVec.ofNat 32 (plen * 2 ^ 16 + frag * 2 ^ 8 + last * 2 ^ 7), ws, none⟩]).setReasm 9 r
def firstPart : Reasm := (after (.mgmtMessage 0) (mgmt 0 46 0 (List.replicate 11 0x01020304) {})).reasm 9
theorem test_mgmtMessage : firstPart.next = 1 ∧ firstPart.plen = 46 ∧ firstPart.bytes.length = 44 ∧ ((after (.mgmtMessage 0) (mgmt 1 46 1 [0x0000A1A0] firstPart)).mgmtIn.map (fun e => (e.1, e.2.length, e.2.drop 44))) = [(9, 46, [0xA0, 0xA1])] ∧
    (after (.mgmtMessage 0) (mgmt 1 46 1 [0x0000A1A0] firstPart)).reasm 9 = {} := by decide
theorem test_mgmtMessage_order : (after (.mgmtMessage 0) (mgmt 2 46 1 [0] firstPart)).reasm 9 = {} ∧ (after (.mgmtMessage 0) (mgmt 2 46 1 [0] firstPart)).mgmtIn = [] ∧ (after (.mgmtMessage 0) (mgmt 1 46 1 [0, 0] firstPart)).mgmtIn = [] ∧
    (after (.mgmtMessage 0) (mgmt 0 46 0 [0] firstPart)).reasm 9 = {} := by decide
theorem test_mgmtReassemblyTimeout : (after (.mgmtReassemblyTimeout 4095) (State.reset.setReasm 4095 { plen := 9 })).reasm 4095 = {} := by decide
theorem test_sysidWrite : (after (.sysidWrite .ixz 0xFFFFF) State.reset).ownPkg = 0xFFF ∧ (after (.sysidWrite .ixz 5) ((State.reset).rsetf (chl 31 4) 0 3 7)).ownPkg = 0 ∧
    (after (.sysidWrite .ixz 5) ((State.reset).rsetf (chl 31 4) 0 3 7)).rf (chvReg 4) 0 16 = 1 := by decide

/-- A PHASE message with VALID: line 0 of the peer at phase 0x12345678_9ABC, TX time 500, and an echo. -/
def phase (echo hold : Word) (k : CLink) : State := link 5 { k with rx := [⟨0, [⟨6, 0, 9, 0x10000000, [0x00001234, 0x56780000, 0, 500, 0, echo, 0, hold], none⟩], 1000⟩] }
theorem test_phaseMessage : ((after (.phaseMessage 0) (phase 400 200 { sentTx := [400] })).clink 0).rtts = [400] ∧ ((after (.phaseMessage 0) (phase 400 200 { sentTx := [400] })).clink 0).echo = some (500, 1000) ∧
    (after (.phaseMessage 0) (phase 400 200 { sentTx := [400] })).rb (chvReg 0xA00) 31 = false ∧ ((after (.phaseMessage 0) (phase 401 200 { sentTx := [400] })).clink 0).rtts = [] := by decide
theorem test_phaseMessage_delay : (after (.phaseMessage 0) (phase 400 200 { sentTx := [400], rtts := List.replicate 16 400 })).rget (chvReg 0xA00) = 0x8003D090 ∧
    ((after (.phaseMessage 0) (phase 400 200 { sentTx := [400], rtts := List.replicate 16 400 })).clink 0).rtts.length = 16 := by decide
theorem test_phaseMessage_line : let s := (((phase 400 200 { sentTx := [400], rtts := List.replicate 16 400 }).rput tlyStat 1 |>.rput (chvReg 0xA00) 0x80000000 |>.rput (piReg 0 0) 0x88000000).setTline 0 { run := true, coast := true })
    s.piActive 0 = true ∧ s.piType 0 = 8 ∧ ((after (.phaseMessage 0) s).tline 0).coast = false ∧ (((after (.phaseMessage 0) s).tline 0).meas.map (fun x => (x.m, x.ts))) = some (0x12345678 * 65536, 800) := by decide
theorem test_phaseMessage_none : State.reset.front 31 0 = none ∧ idle (.phaseMessage 31) State.reset := by decide
def phaser (v : RegVal) : State := ((link 5 {}).rput (chvReg 0x980) v).rsetf (chl 0 8) 20 12 7
theorem test_phaseSend : ((after (.phaseSend 0) (phaser 0x81000000)).clink 0).txq.map (fun e => (e.1, e.2.typ, e.2.dpkg, fld e.2.h1 29 3)) = [(0, 6, 7, 0), (0, 6, 7, 7)] ∧
    ((after (.phaseSend 0) (phaser 0x00800000)).clink 0).txq.map (fun e => fld e.2.h1 28 4) = [0] ∧ ((after (.phaseSend 0) (phaser 0x007FFFFF)).clink 0).txq = [] ∧ idle (.phaseSend 31) State.reset := by decide
def sysLine (co : Bool) : State := ((State.reset.rput tlyStat 1).rput (piReg 0 0) 0x88000000).setTline 7 { run := true, coast := co, locked := true }
theorem test_phaseCoast : ((after (.phaseCoast 7) (sysLine false)).tline 7).coast = true ∧ ((after (.phaseCoast 7) ((sysLine false).rput tlyStat 0)).tline 7).coast = false ∧ idle (.phaseCoast 0) State.reset := by decide
theorem test_holdoverExpiry : ((after (.holdoverExpiry 7) (sysLine true)).tline 7).locked = false ∧ (after (.holdoverExpiry 7) (sysLine true)).rb (plReg 7 0x2C) 15 = true ∧ ((after (.holdoverExpiry 7) (sysLine false)).tline 7).locked = true := by decide
/-! The Tinker and the Assayer. -/

/-- Region 0 runs with its clusters Lit, its TNK_CFG (bit 31 PAIRED, bit 30 UNPSWAP), its TNK_HEALTH, and the DRAM Lit. -/
def tk (cfg health : RegVal) : State :=
  (((((List.range 17).foldl (fun s g => lit g s) (running 0 State.reset)).rput ⟨.tnk, 0, 0⟩ cfg).rput (tnkHealth 0) health).rput (lmpDom 737) 0).rput tnkAlarm 0
/-- TNK_HEALTH with STATE, SPARE, PAIR and the spare at 16. -/
def hl (st sp pair : Nat) : RegVal := BitVec.ofNat 64 (st * 2 ^ 30 + sp * 2 ^ 27 + pair * 2 ^ 24 + 16)
theorem test_tk : (tk 0 (hl 0 0 0)).health 0 = 0 ∧ (tk 0 (hl 0 0 0)).sparePhy 0 = 16 ∧ (tk 0 (hl 0 0 0)).logicalOf 5 = some 5 ∧ (tk 0 (hl 0 0 0)).logicalOf 16 = none ∧
    (tk 0x80000000 (hl 0 0 0)).paired 0 = true ∧ (tk 0x80000000 (hl 0 0 0)).memberOf 0 2 1 = 5 ∧ (tk 0 (hl 0 0 0)).underLoad 0 = false ∧ ({ tk 0 0 with load := some {} } : State).underLoad 0 = true := by decide +kernel
theorem test_configCheckError : (after (.configCheckError (.cluster 5 1 9) false) (tk 0 (hl 0 0 0))).rf (tnkErr 0) 16 16 = 1 ∧ (after (.configCheckError (.pin 0 9) false) (tk 0 (hl 0 0 0))).rf (tnkErr 0) 16 16 = 1 ∧
    (after (.configCheckError (.mesh 0 7 9) true) ((tk 0 (hl 0 0 0)).setCrc (cfgKey 2 0 7 0) (some 0))).rb tnkAlarm 0 = true ∧ ((tk 0 (hl 0 0 0)).setCrc (cfgKey 3 0 0 0) (some 0)).crcOf (cfgKey 3 0 0 0) = some 0 := by decide +kernel
theorem test_fault_retires : let u := after (.configCheckError (.cluster 5 1 4095) true) (tk 0x80000000 (hl 0 0 0))
    (u.clu 5).hold = true ∧ (u.pair 2).trusted = some 0 ∧ u.health 0 = 1 ∧ u.spareSt 0 = 1 ∧ u.spareQ = [0] ∧ u.rf (tnkEvent 0) 17 6 = 7 ∧ u.rf (tnkEvent 0) 23 5 = 5 ∧ u.rf (tnkHealth 0) 24 3 = 2 := by decide +kernel
theorem test_fault_swaps : let u := after (.configCheckError (.cluster 5 16 0) true) (tk 0x40000000 (hl 0 0 0))
    (u.clu 5).hold = true ∧ u.swapOf 0 = some 5 ∧ u.spareQ = [0] ∧ u.rf (tnkEvent 0) 0 2 = 1 ∧ u.rf (tnkEvent 0) 17 6 = 0 := by decide +kernel
theorem test_fault_ash : (after (.configCheckError (.cluster 5 0 0) true) (tk 0 (hl 0 0 0))).health 0 = 2 ∧ ((after (.configCheckError (.cluster 5 0 0) true) (tk 0x40000000 (hl 0 2 0))).region 0).gate = true ∧
    (after (.configCheckError (.cluster 5 0 0) true) (tk 0x40000000 (hl 1 1 0))).health 0 = 2 ∧ (after (.configCheckError (.cluster 5 0 0) true) (tk 0x40000000 (hl 2 0 0))).rf (tnkEvent 0) 0 2 = 3 := by decide +kernel
theorem test_fault_spare : (after (.configCheckError (.cluster 16 0 0) true) (tk 0 (hl 0 0 0))).spareSt 0 = 4 ∧
    (after (.configCheckError (.cluster 16 0 0) true) { tk 0 (hl 0 0 0) with load := some {} }).toldFaults = [(16, 4, 0)] := by decide +kernel

/-- Pair 0 of region 0 (clusters 0 and 1): access words of both at port 0's REQ compare stage, and what the sources of both offer. -/
def twins (a b : Option Tok) (p : PairSt) : State := ((((latched 0 1 16 0x3C [2] (latched 0 0 16 0x3C [2] (tk 0x80000000 (hl 0 0 0))))).setTwin (gsink 0 264) a).setTwin (gsink 1 264) b).setPair 0 p
/-- Both members' sinks select cell 0's OX of their own cluster, which holds tokens. -/
def resampled (a b : Tok) : State :=
  (((latched 0 1 18 0 [0] (latched 0 0 18 0 [0] (twins (some { d := 1 }) (some { d := 2 }) {}))).setCell 0 { ox := { tok := some a } }).setCell 64 { ox := { tok := some b } })
theorem test_compareStage : let s := twins (some { d := 5 }) (some { d := 5 }) {}
    (s.deliverOut 0 264 { d := 5 }).isSome = true ∧ ((after (.compareStage 0 0 0 false false) s).aport 0).req = some { d := 5 } ∧ (after (.compareStage 0 0 0 false false) s).twin (gsink 0 264) = none ∧
    (after (.compareStage 0 0 0 true false) s).rf (tnkErr 0) 16 16 = 1 ∧ (after (.compareStage 0 0 0 false true) (s.setAport 0 { req := some {} })).twin (gsink 1 264) = some { d := 5 } := by decide +kernel
theorem test_compareStage_differ : ((after (.compareStage 0 0 0 false false) (twins (some { d := 5 }) (some { d := 6 }) {})).pair 0).mism = some 264 ∧
    ((after (.compareStage 0 0 0 false false) (twins (some { d := 5 }) (some { d := 5 }) { mism := some 265 })).aport 0).req = none ∧
    ((after (.compareStage 0 0 0 false false) (twins (some { d := 5 }) none { trusted := some 0 })).aport 0).req = some { d := 5 } ∧ idle (.compareStage 0 0 0 false false) (tk 0 (hl 0 0 0)) := by decide +kernel
theorem test_missingTwin : ((after (.missingTwin 0 0 0) (twins (some { d := 5 }) none {})).pair 0) = { mism := some 264, offered := some 0 } ∧ ((after (.missingTwin 0 0 0) (twins none (some { d := 5 }) {})).pair 0).offered = some 1 ∧
    ((after (.missingTwin 0 0 0) ((twins none (some { d := 5 }) {}).setRegion 0 { (twins none (some { d := 5 }) {}).region 0 with frozen := true })).pair 0) = {} := by decide +kernel
theorem test_evidence : ((after (.evidenceWindowExpiry 0 0) (twins (some { d := 5 }) none { mism := some 264, offered := some 0 })).clu 1).hold = true ∧
    ((after (.evidenceWindowExpiry 0 0) (twins none none { mism := some 264, offered := some 1 })).pair 0).trusted = some 1 ∧
    (after (.evidenceWindowExpiry 0 0) ((twins none none { mism := some 264, offered := some 1 }).rput (tnkHealth 0) (hl 0 3 0))).health 0 = 2 := by decide +kernel
theorem test_vote : let u := after (.evidenceWindowExpiry 0 0) (twins none none { mism := some 264 })
    (u.pair 0).vote = true ∧ u.spareSt 0 = 3 ∧ (u.clu 0).hold = true ∧ (u.clu 1).hold = true ∧ u.rf (tnkErr 0) 4 4 = 1 ∧ idle (.evidenceWindowExpiry 31 7) State.reset := by decide +kernel
theorem test_tnkAsh : (after (.tnkAsh .ixz 31) State.reset).health 31 = 2 ∧ ((after (.tnkAsh .ixz 0) ((tk 0 (hl 0 0 0)).setPin 0 { q := [{}] })).pin 0).q = [] ∧ (after (.tnkAsh (.port 0 0 0) 31) State.reset).rf ⟨.tnk, 31, 0x28⟩ 0 16 = 1 := by decide +kernel
/-- Region 0 with or without a design; the scrub runs, or does not; a CRC kept for its mesh frame 0. -/
def scrubbing (en ld : Bool) (c : Word) : State :=
  let s := ((running 0 State.reset).setCrc (cfgKey 2 0 0 0) (some c)).rput ⟨.tnk, 0, 8⟩ (if en then 0x40000000 else 0)
  s.setRegion 0 { s.region 0 with loaded := ld }
theorem test_frameScrub : (after (.frameScrub 0 true) (scrubbing true false 0)).rf (tnkErr 0) 16 16 = 1 ∧ (after (.frameScrub 0 false) (scrubbing true false 0)).rf ⟨.tnk, 0, 0x14⟩ 0 16 = 1 ∧
    (after (.frameScrub 0 true) (scrubbing false true 0)).rf (tnkErr 0) 16 16 = 0 ∧ (scrubbing true true 5).crcOf (cfgKey 2 0 0 0) = some 5 ∧ (2, 0, 0, 0) ∈ (scrubbing true true 5).scrubFrames 0 := by decide +kernel
/-- One of two CRCs is not the frame's. -/
theorem test_frameScrub_fault : ∃ c : Word, (scrubbing true true c).crcOf (cfgKey 2 0 0 0) = some c ∧ crc32 ((scrubbing true true c).cfgBytes 2 0 0 0 512) ≠ c := by
  have h : ∀ c, (scrubbing true true c).cfgBytes 2 0 0 0 512 = (scrubbing true true 0).cfgBytes 2 0 0 0 512 := fun _ => rfl
  have k : ∀ c, (scrubbing true true c).crcOf (cfgKey 2 0 0 0) = some c := fun _ => rfl
  refine ⟨crc32 ((scrubbing true true 0).cfgBytes 2 0 0 0 512) + 1, k _, ?_⟩
  rw [h]; exact (by simp : ∀ x : Word, x ≠ x + 1) _

/-- Region 0 with SPARE SYNC or VOTE for pair 0, its turn come. -/
def recovery (spare : Nat) (p : PairSt) : State := { (tk 0x80000000 (hl (if spare = 1 then 1 else 0) spare 0)).setPair 0 p with spareQ := [0, 3] }
/-- One latch of cluster 1 differs from the staging copy's. -/
def differing : State := latched 0 1 0 130 [9] (recovery 3 { vote := true })
theorem test_spareFrames : let u := after (.spareFramesWritten 0) (recovery 1 { trusted := some 1 })
    (u.pair 0).frames = true ∧ u.spareQ = [3] ∧ idle (.spareFramesWritten 3) (recovery 1 { trusted := some 1 }) ∧ idle (.spareFramesWritten 0) ((recovery 1 { trusted := some 1 }).rput (lmpDom 737) 0x80000000) := by decide +kernel
theorem test_vote_done : (differing.sameFrames 0 16) = true ∧ (differing.sameFrames 1 16) = false ∧ ((after (.spareFramesWritten 0) differing).pair 0).trusted = some 0 ∧ ((after (.spareFramesWritten 0) differing).clu 1).hold = true := by decide +kernel
def copying (copied : Bool) : State := ((((recovery 1 { trusted := some 1, frames := true, copied := copied }).setClu 0 { hold := true }).setBbyte 32768 (some (7, false))).setCell 64 { w0 := 9, ox := { tok := some { d := 3 } } })
theorem test_memoryCopy : (copying false).recovering 0 = some (0, 1, 0) ∧ ((after (.memoryCopyComplete 0) (copying false)).pair 0).copied = true ∧ (after (.memoryCopyComplete 0) (copying false)).bbyte (32 * 16384) = some (7, false) ∧
    ((after (.memoryCopyComplete 0) (recovery 1 {})).pair 0).copied = false := by decide +kernel
theorem test_syncHold : let u := after (.synchronisationHold 0) (copying true)
    u.spareSt 0 = 2 ∧ u.physOf 0 0 = 16 ∧ (u.cell 1024).w0 = 9 ∧ (u.cell 1024).ox.tok = some { d := 3 } ∧ (after (.synchronisationHold 0) (copying false)).spareSt 0 = 1 ∧
    (after (.synchronisationHold 0) ((copying true).rput (asyReg 8) 0x40000000)).slices = [] ∧ (after (.synchronisationHold 0) ((copying true).rput (asyReg 8) 0)).slices.map (fun x => (x.kind, x.index, x.confirm)) = [(0, 0, some 0)] := by decide +kernel
def swapped : State := { (((tk 0x40000000 (hl 1 1 0)).setSwap 0 (some 5)).setClu 5 { hold := true }).setCell 320 { w1 := 4 } with spareQ := [0] }
theorem test_unpairedSwap : let u := after (.unpairedSwap 0) swapped
    u.physOf 0 5 = 16 ∧ u.spareSt 0 = 2 ∧ u.swapOf 0 = none ∧ (u.cell 1024).w1 = 4 ∧ u.clu 16 = {} ∧ (after (.unpairedSwap 0) { swapped with spareQ := [1, 0] }).spareSt 0 = 1 := by decide +kernel

/-- The Assayer with references, slices under way, and region 0's cluster 16 its spare. -/
def assay (l : List Slice) (h : RegVal) : State := { (tk 0x40000000 h).rput (asyReg 8) 0 with slices := l }
theorem test_sliceRequest : (assay [] (hl 0 0 0)).sliceEligible 0 16 = true ∧ (assay [] (hl 0 0 0)).sliceRuns 0 = true ∧ (after (.sliceRequest .ixz 0 16) (assay [] (hl 0 0 0))).slices = [{ kind := 0, index := 16 }] ∧
    (after (.sliceRequest .ixz 0 5) (assay [] (hl 0 0 0))).rf (asyReg 0x18) 0 16 = 1 ∧ (after (.sliceRequest .ixz 3 31) ((assay [] 0).rput (asyReg 8) 0x40000000)).slices = [] ∧ (after (.sliceRequest .ixz 2 127) ((assay [] 0).rput (asyReg 8) 0x40000000)).slices.length = 1 ∧
    (after (.sliceRequest (.port 0 0 0) 0 16) (assay [] (hl 0 0 0))).rf (asyReg 0x18) 0 16 = 1 ∧ (after (.sliceRequest .ixz 7 1023) (assay [] 0)).rf (asyReg 4) 0 10 = 1023 := by decide +kernel
theorem test_sliceEnds : (assay [{ kind := 3, index := 31 }] 0).runningOn 3 31 = some { kind := 3, index := 31 } ∧ (after (.sliceBudgetExceeded 3 31 0) (assay [{ kind := 3, index := 31 }] 0)).slices = [{ kind := 3, index := 31, again := true }] ∧
    (after (.sliceBudgetExceeded 3 31 0) (assay [{ kind := 3, index := 31, again := true }] 0)).rb (asyReg 0x190) 31 = true ∧ (after (.sliceBudgetExceeded 3 31 0) (assay [{ kind := 3, index := 31, again := true }] 0)).rf (asyReg 0xC) 30 2 = 2 ∧
    (assay [{ kind := 3, index := 31 }] 0).runningOn 3 30 = none := by decide +kernel
/-- A slice of kind 2 on bank 0, whose run has visited every word or not, with nonzero syndromes. -/
def banked (again : Bool) (pos bad : Nat) : State := (assay [{ kind := 2, index := 0, again := again }] 0).setBank 0 { testPos := pos, testBad := bad }
theorem test_sliceComplete : (after (.sliceComplete 2 0 0) (banked false 131072 0)).slices = [] ∧ (after (.sliceComplete 2 0 0) (banked true 131072 0)).rf (asyReg 0x14) 0 16 = 1 ∧ (after (.sliceComplete 2 0 0) (banked false 131072 3)).slices = [{ kind := 2, index := 0, again := true }] ∧
    (after (.sliceComplete 2 0 0) (banked true 131072 3)).rb (asyReg 0x180) 0 = true ∧ (after (.sliceComplete 2 0 0) (banked false 131071 3)).slices = [{ kind := 2, index := 0 }] ∧ (after (.sliceComplete 2 0 0) (banked true 131072 3)).rget (asyReg 0x10) = 3 := by decide +kernel
theorem test_slice_owned : (after (.sliceComplete 1 0 0) ((assay [{ kind := 1, index := 0 }] 0).rput (sb 0 0) 0x20000000)).slices = [] := by decide +kernel
theorem test_sliceAbandon : (after (.sliceAbandon 16) (assay [{ kind := 0, index := 16, background := true }] (hl 1 1 0))).slices = [] ∧
    (after (.sliceAbandon 16) (assay [{ kind := 0, index := 16 }] (hl 1 1 0))).slices.length = 1 := by decide +kernel
theorem test_backgroundSlice : (after .backgroundSlice ((assay [] (hl 0 0 0)).rput (asyReg 0) 0x40000000)).slices = [{ kind := 0, index := 16, background := true }] ∧ (after .backgroundSlice ((assay [] (hl 0 0 0)).rput (asyReg 0) 0x40000000)).sweep = 17 ∧
    (after .backgroundSlice ((assay [] (hl 0 0 0)).rput (asyReg 0) 0)).slices = [] := by decide +kernel
/-! Loads and keys. -/

/-- A header without its CRC: kind, region, start-up word, lock wait word, frames. -/
def header (kind reg start lockw n : Nat) : List Byte :=
  [0x58, 0x4E, 0x49, 0x4D, 1, 0, 0x32, 0, 4, 0xA1] ++ leBytes 2 kind ++ leBytes 4 reg ++ leBytes 4 start ++ leBytes 4 lockw ++ leBytes 8 0 ++ leBytes 4 n ++ List.replicate 92 0#8
/-- A header with its CRC. -/
def sealed (b : List Byte) : List Byte := b.take 124 ++ leBytes 4 (crc32 (b.take 124)).toNat
theorem leBytes_crc (w : Word) : ofLE (leBytes 4 w.toNat) = w.toNat := by
  have := w.isLt
  simp [leBytes, ofLE, BitVec.toNat_ofNat]; omega
theorem sealed_crc (b : List Byte) (h : b.length = 128) : (crc32 (slice (sealed b) 0 0x7C)).toNat = leAt (sealed b) 0x7C 4 := by
  have h1 : slice (sealed b) 0 0x7C = b.take 124 := by simp [slice, sealed, h]
  have h2 : slice (sealed b) 0x7C 4 = leBytes 4 (crc32 (b.take 124)).toNat := by
    simp [slice, sealed, h, leBytes]
  rw [h1, leAt, h2, leBytes_crc]
theorem sealed_slice (b : List Byte) (off len : Nat) (h : b.length = 128) (k : off + len ≤ 124) : slice (sealed b) off len = slice b off len := by
  simp only [slice, sealed]
  rw [List.drop_append_of_le_length (by simp [h]; omega), List.take_append_of_le_length (by simp [h]; omega), List.drop_take, List.take_take]
  congr 1; omega
theorem sealed_header (b : List Byte) (part : Option Nat) (h : b.length = 128)
    (ok : (match part with | none => leAt b 0x0A 1 == 0 && leAt b 0x0C 4 == 0 | some r => leAt b 0x0A 1 == 1 && leAt b 0x0C 4 == r) = true ∧ slice b 0 4 = [0x58, 0x4E, 0x49, 0x4D] ∧ leAt b 4 2 = 1 ∧
      imgStartup b < 256 ∧ (List.range 4).all (fun c => (startupCodes (imgStartup b)).contains c) = true ∧ leAt b 6 2 = 0x32 ∧ leAt b 8 1 = 4 ∧ leAt b 9 1 = 0xA1) : imgHeader (sealed b) part = none := by
  have h1 := sealed_crc b h
  have e (off len : Nat) (k : off + len ≤ 124) : leAt (sealed b) off len = leAt b off len := by simp [leAt, sealed_slice b off len h k]
  obtain ⟨o1, o2, o3, o4, o5, o6, o7, o8⟩ := ok
  have o4' : ¬ 256 ≤ imgStartup b := by omega
  simp only [imgStartup] at o4' o5
  unfold imgHeader
  simp only [h1, imgStartup, e 4 2 (by decide), e 0x0A 1 (by decide), e 0x0C 4 (by decide), e 0x10 4 (by decide), e 6 2 (by decide), e 8 1 (by decide), e 9 1 (by decide), sealed_slice b 0 4 h (by decide), o2, o3, o5, o6, o7, o8]
  cases part <;> simp_all
theorem test_header_full : imgHeader (sealed (header 0 0 0xE4 0 0)) none = none := sealed_header _ _ rfl (by decide)
theorem test_header_part : imgHeader (sealed (header 1 31 0x1B 0 5)) (some 31) = none := sealed_header _ _ rfl (by decide)
theorem test_header_bad : imgHeader [] none = some 0x10 ∧ imgHeader [] (some 0) = some 0x10 := by decide +kernel
theorem test_loadRequest : State.reset.load = none ∧ ({ State.reset with staged := some [] } : State).sourceImage .staged = [] ∧ (after (.fullLoad .staged) { State.reset with load := some {} }).load = some {} ∧
    (after (.partialLoad 31 .staged) { State.reset with staged := some [] }).loadEnded = some 0x10 := by decide +kernel
/-- A load of an image under way. -/
def under (l : Load) : State := { (State.reset.rput (lmpDom 737) 0) with load := some l }
theorem test_stagingComplete : (under { phase := 2, image := [] }).imgChecks [] = some 0x12 ∧ (under { phase := 2, part := some 3 }).loadDrains { phase := 2, part := some 3 } = false ∧
    (after .stagingComplete (under { phase := 3, part := some 3 })).load = some { phase := 3, part := some 3 } ∧
    ((under { phase := 2, part := some 3 }).rput (lmpDom 737) 0x80000000).dramLit = false := by decide +kernel
theorem test_stagingComplete_boot : imgHeader ((under {}).slotImage 1) none = some 0x10 ∧ (under { phase := 2, boot := true }).imgChecks [] = some 0x12 := by decide +kernel
theorem test_cmpAbort : let u := after (.cmpAbort .ixz) (under { phase := 3, part := some 3, started := [3] })
    u.load = none ∧ u.rf (cmpReg 0) 0 8 = 2 ∧ (u.region 3).loaded = false ∧ (after (.cmpAbort (.port 0 0 0)) (under {})).rf (cmpReg 0x28) 0 16 = 1 ∧ (after (.cmpAbort .ixz) State.reset).loadEnded = none := by decide +kernel
/-- Lines 0 and 7 to wait for, 5 ms at most; and the frame of region 3 with line 0 locked. -/
def waiting (mask ms : Nat) (steps : List Nat) : State :=
  { (under { phase := 5, part := some 3, steps := steps, image := header 1 3 0xE4 (mask * 2 ^ 24 + ms) 0 }) with spine := [(3, ⟨2, [{ lock := true }]⟩)] }
theorem test_linesLocked : (waiting 1 5 [0, 1, 2, 3]).linesLocked { part := some 3, image := header 1 3 0xE4 0x1000005 0 } = true ∧ (waiting 0x80 5 []).linesLocked { part := some 3, image := header 1 3 0xE4 0x80000005 0 } = false := by decide +kernel
theorem test_startupTimeout : (after .startupTimeout (waiting 0x80 5 [0, 1])).loadEnded = some 0x30 ∧ (after .startupTimeout (waiting 0x80 0 [0, 1])).loadEnded = none ∧ (after .startupTimeout (waiting 1 5 [0, 1])).loadEnded = none ∧
    (after .startupTimeout (waiting 0x80 5 [1, 0])).loadEnded = none := by decide +kernel
theorem test_startUp : let u := after .startUpSequence (waiting 1 5 [0, 2, 3])
    u.loadEnded = some 0 ∧ (u.region 3).gate = false ∧ (u.region 3).reset = false ∧ (u.region 3).writes = true ∧ (after .startUpSequence (waiting 0x80 5 [0, 1])).load.map (·.steps) = some [0, 1] := by decide +kernel
theorem test_startupWaitLock : (after .startupWaitLock (waiting 1 5 [0])).loadEnded = some 0 ∧ (after .startupWaitLock (waiting 1 5 [1, 0, 2, 3])).loadEnded = none ∧ (after .startupWaitLock (waiting 0x80 5 [0, 1, 2, 3])).loadEnded = none := by decide +kernel
/-- An image of one frame, and the load of it at its frame. -/
def oneFrame (a : Nat) (p : List Byte) : List Byte := header 1 0 0xE4 0 1 ++ leBytes 4 a ++ leBytes 4 0 ++ p
def framing (a : Nat) (p : List Byte) (l : Load) : State := under { l with phase := 3, part := some 0, image := oneFrame a p }
theorem test_frameWrite_mesh : let s := framing 0x20000007 (3 :: List.replicate 511 0) { started := [0] }
    (after (.frameWrite .good) s).load.map (fun l => (l.phase, l.next, l.started)) = some (4, 1, [0]) ∧ (after (.frameWrite .good) s).cfgLE 2 0 7 0 1 = 3 ∧ (after (.frameWrite .transient) s).rf (cmpReg 0x24) 16 8 = 1 := by decide +kernel
theorem test_frameWrite_check : frameCheck { part := some 0, image := oneFrame 0x20800000 [] } 0 = some 0x20 ∧ frameCheck { part := some 0, image := oneFrame 0x50000000 [] } 0 = some 0x22 ∧
    frameCheck { part := some 0, image := oneFrame 0x20000000 (List.replicate 512 3) } 0 = some 0x21 ∧ frameCheck { part := some 0, image := oneFrame 0x00000012 [] } 0 = some 0x22 ∧ frameCheck { image := oneFrame 0x20000007 [] } 0 = none := by decide +kernel
theorem test_frameWrite_swap : let s := (framing 0x00280011 (List.replicate 512 0) { started := [0] }).rput (tnkHealth 0) 16
    s.physOf 0 5 = 5 ∧ frameCheck { part := some 0, image := oneFrame 0x00280011 (List.replicate 512 0) } 0 = none ∧ (after (.frameWrite (.lasting true)) s).physOf 0 5 = 16 ∧ (s.rsetf (tnkHealth 0) 27 3 4).spareSt 0 = 4 := by decide +kernel
theorem test_frameWrite_redo : let s := framing 0x00280011 (List.replicate 512 0) { started := [0], next := 1, redo := [(0, 16)] }
    (after (.frameWrite .good) s).load.map (fun l => (l.phase, l.redo)) = some (4, []) := by decide +kernel
theorem test_frameWrite_skip : (after (.frameWrite .good) (framing 0x00280011 [] { noSpare := [0] })).load.map (fun l => (l.phase, l.next)) = some (4, 1) ∧ (after (.frameWrite .good) { framing 0x00280011 [] {} with load := none }).load = none := by decide +kernel
theorem test_memoryInit : (after .memoryInitComplete (under { phase := 4, part := some 0, image := header 1 0 0x1B 0 0 })).load.map (fun l => (l.phase, l.steps)) = some (5, [3, 2, 1, 0]) ∧
    (after .memoryInitComplete ((under { phase := 4, part := some 0 }).setBmem 31 { busy := true })).load.map (·.phase) = some 4 := by decide +kernel
/-! Keys, reports, resets, watchdogs, GPIO, the management port. -/

def keyed (i : Nat) (x : KSlot) : State := State.reset.setKslot i x
theorem test_kcmd_battery : complexIssuer .ixz = true ∧ complexIssuer (.port 0 0 0) = false ∧ (after (.kcmdWrite .ixz 7) (State.reset.rput (lsmReg 0x20) 5)).kslot 7 = { st := 1, key := 5 } ∧
    (after (.kcmdErase .ixz 7) (keyed 7 { st := 1, key := 5 })).kslot 7 = {} ∧ (after (.kcmdWrite .ixz 7) (State.reset.rput (lsmReg 0x3C) 5)).rget (lsmReg 0x3C) = 0 := by decide +kernel
theorem test_kcmd_fuse : (after (.kcmdWrite .ixz 3) (State.reset.rput (lsmReg 0x20) 5)).kcmd = some ⟨1, 3, 5⟩ ∧ (after (.kcmdRevoke .ixz 3) (keyed 3 { st := 3 })).kslot 3 = { st := 2 } ∧ (after (.kcmdRevoke .ixz 0) (keyed 0 { st := 2 })).rf (lsmReg 0x10) 0 16 = 1 ∧
    (after (.kcmdWrite .ixz 0) (keyed 0 { st := 1 })).rf (lsmReg 0x10) 0 16 = 1 ∧ (after (.kcmdErase .ixz 3) State.reset).rf (lsmReg 0x10) 0 16 = 1 ∧ (after (.kcmdReserved .ixz 10 0) State.reset).rf (lsmReg 0x10) 0 16 = 1 ∧
    (after (.kcmdWrite (.port 0 0 0) 7) State.reset).rf (lsmReg 0x10) 0 16 = 1 := by decide +kernel
theorem test_kcmd_owner : (after (.kcmdOwner .ixz 7) State.reset).kcmd = some ⟨4, 3, 0⟩ ∧ ((after (.kcmdRevokeOwner .ixz 1) (State.reset.setOslot 1 { prog := true })).oslot 1).rev = true ∧ (after (.kcmdOwner .ixz 1) (State.reset.setOslot 1 { prog := true })).kcmd = none ∧
    (after (.kcmdRevokeOwner .ixz 1) (State.reset.setOslot 1 { prog := true, rev := true })).rf (lsmReg 0x10) 0 16 = 1 := by decide +kernel
def fusing (c : KCmd) : State := { keyed 0 { st := 2 } with kcmd := some c }
theorem test_efuseProgramComplete : (after .efuseProgramComplete (fusing ⟨1, 3, 5⟩)).kslot 3 = { st := 1, key := 5 } ∧ (after .efuseProgramComplete (fusing ⟨1, 0, 5⟩)).kslot 0 = { st := 2 } ∧
    ((after .efuseProgramComplete (fusing ⟨4, 3, 5⟩)).oslot 3) = { prog := true, digest := 5 } ∧ (after .efuseProgramComplete (keyed 0 {})).kcmd = none := by decide +kernel
/-- The tamper pin counts; TSTOP; region 3 holds an encrypted design; slots 3 and 4 hold keys. -/
def tampered (ten tstop vin : Bool) : State :=
  { (((keyed 3 { st := 1 }).setKslot 4 { st := 1 }).rput (lsmReg 4) (if ten then (if tstop then 0xC0000000 else 0x80000000) else 0)).rput (cmpReg 0x14) 8 with vin := vin, vbat := true }
theorem test_tamper : ((after .tamper (tampered true false true)).kslot 4) = {} ∧ ((after .tamper (tampered true false true)).kslot 3).st = 1 ∧ (after .tamper (tampered true true false)).rb (lsmReg 0) 31 = true ∧
    ((after .tamper (tampered false true true)).kslot 4).st = 1 ∧ (after .tamper (tampered true true true)).health 3 = 2 := by decide +kernel
theorem test_tamper_load : imgEnc (List.replicate 11 0 ++ [1]) = true ∧ imgEnc [] = false := by decide +kernel
def signing : State := { State.reset with reports := [[1], [2]], ix := { State.reset.ix with signQ := [4, 5] } }
theorem test_notarySign : (after .notarySignComplete signing).reports = [[2]] ∧ (after .notarySignComplete signing).ix.signQ = [5] ∧ (after .notarySignComplete signing).rb (ntyReg 0) 30 = true ∧ signing.session 4 = none ∧ (after .notarySignComplete State.reset).reports = [] := by decide +kernel

theorem test_powerOnReset : (after (.powerOnReset true true) { State.reset with hot := true, vin := false, fwsvn := 3 }).vin = true ∧ (after (.powerOnReset true true) { State.reset with fwsvn := 3 }).fwsvn = 3 ∧ (after (.powerOnReset false false) (keyed 7 { st := 1 })).kslot 7 = {} ∧
    (after (.powerOnReset false false) (keyed 3 { st := 1 })).kslot 3 = { st := 1 } := by decide +kernel
theorem test_packageReset : (after .vinDipPackageReset ((State.reset.rput wdgStat 9).setKslot 7 { st := 1 })).rget wdgStat = 9 ∧ (after .prstNAssert (keyed 7 { st := 1 })).kslot 7 = { st := 1 } ∧ (after .prstNAssert (fusing ⟨1, 3, 5⟩)).cutSlots = [3] ∧
    (after .prstNAssert { State.reset with cells := [(0, { w0 := 1 })] }).cells = [] := by decide +kernel
theorem test_thermalTrip : (after (.thermalTrip 3 122) State.reset).hot = true ∧ (after (.thermalTrip 0 121) State.reset).hot = false ∧ (after (.thermalTrip 0 0x1FF) State.reset).hot = false := by decide +kernel
theorem test_thermalTripRelease : (after .thermalTripRelease { State.reset with hot := true }).hot = false ∧ (after .thermalTripRelease { State.reset with hot := true, bootDue := false }).bootDue = true ∧ (after .thermalTripRelease { State.reset with bootDue := false }).bootDue = false := by decide +kernel
theorem test_vbatLoss : (after .vbatLoss { keyed 7 { st := 1 } with vin := false }).kslot 7 = {} ∧ (after .vbatLoss { keyed 7 { st := 1 } with vin := true }).kslot 7 = { st := 1 } ∧ (after .vbatLoss { State.reset with vin := false }).rb (lsmReg 4) 31 = true := by decide +kernel
/-- The boot is due, with eFuse slot 3 cut short; the power-up sweep kept out by NOREF. -/
def booting (due asked : Bool) : State := { lit 732 (State.reset.rput (asyReg 8) 0x40000000) with bootDue := due, loadAsked := asked, cutSlots := [3], vin := true }
theorem test_boot_ready : (booting true true).coreRuns 0 = true ∧ (booting true true).bootDue = true ∧ (booting true true).hot = false ∧ imgHeader ((booting true false).slotImage 1) none = some 0x10 ∧ (booting true false).load = none := by decide +kernel
theorem test_boot_not : (after (.bootSequence ⟨[], []⟩) (booting false true)).cutSlots = [3] := by decide +kernel

def dog (i cfg warn : Nat) (w : Wdg) : State := ((lit 732 (lit 733 State.reset)).rput (wdgReg i 0) (BitVec.ofNat 64 cfg) |>.rput (wdgReg i 0xC) (BitVec.ofNat 64 warn)).setWdg i w
theorem test_watchdogEnable : wdgAccepts 0 (.core 0) = true ∧ wdgAccepts 4 (.port 0 0 0) = false ∧ (after (.watchdogEnable (.core 0) 0 5) (dog 0 0 0 {})).rb (wdgReg 0 0) 31 = true ∧ ((after (.watchdogEnable (.core 0) 0 5) (dog 0 0 0 {})).wdg 0).left = 1000 ∧
    ((after (.watchdogEnable (.core 0) 0 5) (dog 0 0x80000000 0 { left := 7 })).wdg 0).left = 7 ∧ (after (.watchdogEnable (.port 0 0 0) 4 5) State.reset).rf ⟨.wdg, 0, 0x84⟩ 0 16 = 1 ∧ ((after (.watchdogEnable (.core 0) 0 0) (dog 0 0 0 {})).wdg 0).left = 200 := by decide +kernel
theorem test_watchdogKick : ((after (.watchdogKick (.core 0) 0 0x5A) (dog 0 5 0 {})).wdg 0).armed = true ∧ (after (.watchdogKick (.core 0) 0 0xA5) (dog 0 5 0 { armed := true })).wdg 0 = { armed := false, left := 1000 } ∧
    ((after (.watchdogKick (.core 0) 0 0xA4) (dog 0 5 0 { armed := true })).wdg 0).armed = false ∧ (after (.watchdogKick (.core 0) 0 0xA5) (dog 0 5 0 {})).rf ⟨.wdg, 0, 0x84⟩ 0 16 = 1 := by decide +kernel
theorem test_watchdogWarn : (dog 1 0x80000005 3 {}).wdgRuns 1 = true ∧ (after (.watchdogWarn 1) (dog 1 0x80000005 3 {})).rb wdgStat 6 = true ∧ ((after (.watchdogWarn 1) (dog 1 0x80000005 3 {})).wdg 1).left = 600 ∧ (after (.watchdogWarn 1) (dog 1 0x80000005 0 {})).rb wdgStat 6 = false ∧
    (dog 1 5 3 {}).wdgRuns 1 = false := by decide +kernel
theorem test_watchdogExpiry : ((after (.watchdogExpiry 1) ((dog 1 0x80000005 0 {}).setCore 1 { timer := true })).core 1) = {} ∧ (after (.watchdogExpiry 1) (dog 1 0x80000005 0 {})).rb wdgStat 1 = true ∧ (after (.watchdogExpiry 4) (dog 4 0xC0000005 0 {})).rb wdgStat 4 = true ∧
    (after (.watchdogExpiry 0) (dog 0 0x80000005 0 {})).bootDue = true ∧ (after (.watchdogExpiry 4) ((dog 4 0x80000005 0 {}).setWdg 2 { left := 5 })).wdg 2 = {} ∧ (after (.watchdogExpiry 3) (dog 3 5 0 {})).rb wdgStat 3 = false ∧
    ((dog 1 0x80000005 0 {}).rput (dbgCore 1 0) 0x10000000).rb (dbgCore 1 0) 28 = true := by decide +kernel

theorem test_gpioSet : (after (.gpioSet .ixz 3 0xFFFF8001) (State.reset.rput (portReg 3 0) 2)).rget (portReg 3 0) = 0x8003 ∧ (after (.gpioClr .ixz 3 0xFFFF8001) (State.reset.rput (portReg 3 0) 0x8003)).rget (portReg 3 0) = 2 ∧
    (after (.gpioSet (.port 0 0 0) 3 1) State.reset).rf (gpioReg 0x184) 0 16 = 1 ∧ (after (.gpioFuncChange .ixz 3 0xFFFFFFFF) State.reset).rget (portReg 3 0x18) = 0xFFFFFFFF := by decide +kernel
theorem test_gpioLevel : (after (.gpioLevelChange .ixz 0x3) ((State.reset.rput (gpioReg 0x80) 0))).rf (gpioReg 0x80) 0 2 = 2 ∧ (after (.gpioLevelChange .ixz 0x80) ((State.reset.rput (gpioReg 0x80) 0))).gheld = [3] ∧ (after (.gpioLevelHoldEnd 3) { State.reset with gheld := [1, 3] }).gheld = [1] := by decide +kernel
def private1 (v : Nat) : State := (State.reset.rput (portReg 1 0x14) 0xC).rput (portReg 1 0) (BitVec.ofNat 64 v)
theorem test_priv : (private1 0).rf (portReg 1 0x14) 2 2 = 3 ∧ (after (.privset 3 0x30000) (private1 0)).rget (portReg 1 0) = 2 ∧ (after (.privset 0 0x30000) (private1 0)).rget (portReg 1 0) = 1 ∧ (after (.privclr 3 0x30000) (private1 3)).rget (portReg 1 0) = 1 ∧
    (after (.privout 3 0) (private1 3)).rget (portReg 1 0) = 1 := by decide +kernel
def line15 (en : Bool) (mode : Nat) : State := State.reset.rput (intReg 15) (BitVec.ofNat 64 (b2n en * 2 ^ 31 + mode * 2 ^ 28 + 3 * 2 ^ 24))
theorem test_pinInterruptEdge : (after (.pinInterruptEdge 15 true 0) (line15 true 0)).rb (gpioReg 0x180) 15 = true ∧ (after (.pinInterruptEdge 15 false 0) (line15 true 0)).rb (gpioReg 0x180) 15 = false ∧ (after (.pinInterruptEdge 15 false 63) { line15 true 4 with time := 1000000 }).rb (gpioReg 0x180) 15 = true ∧
    (after (.pinInterruptEdge 15 true 0) ((line15 true 4).rput (gpioReg 0x180) 0x8000)).rb (gpioReg 0x180) 15 = false ∧ (after (.pinInterruptEdge 15 true 0) (line15 true 5)).gext 63 = some true ∧ (after (.pinInterruptEdge 15 true 0) (line15 false 0)).gline 15 = none ∧
    (after (.pinInterruptEdge 15 false 0) ((line15 true 0).rput (gpioReg 0x180) 0x8000)).rb (gpioReg 0x180) 15 = true := by decide +kernel
theorem test_machineTimer : ((after (.machineTimer 3) (State.reset.rput (irqReg 0x120) 0)).core 3).timer = true ∧ ((after (.machineTimer 3) (State.reset.rput (irqReg 0x120) 0xFFFFFFFFFFFFFFFF)).core 3).timer = false := by decide +kernel
theorem test_msip : (after (.msipWrite .ixz 3 1) State.reset).rb (irqReg 0x2C) 0 = true ∧ ((after (.msipWrite .ixz 3 1) State.reset).core 3).started = true ∧ (after (.msipWrite (.port 0 0 0) 3 1) State.reset).rf (irqReg 0x38) 0 16 = 1 ∧ ((after (.msipWrite .ixz 3 0) State.reset).core 3).started = false := by decide +kernel

/-- The management port's domain Lit, with PHY_CTL's gigabit offer and PTP_CTL. -/
def mac (gig : Bool) (stat ctl : RegVal) : State := ((lit 742 State.reset).rput (macReg 4) (if gig then 0x80000000 else 0) |>.rput (macReg 0) stat).rput (macReg 0x28) ctl
theorem test_managementPortLink : (after (.managementPortLink true true true) (mac true 0 0)).rf (macReg 0) 29 2 = 2 ∧ (after (.managementPortLink true true true) (mac true 0x08000000 0)).rb (macReg 0) 31 = false ∧ (after (.managementPortLink true false false) (mac false 0x08000000 0)).rf (macReg 0) 27 5 = 0x15 ∧
    (after (.managementPortLink false false false) (mac true 0xD0000000 0)).rget (macReg 0) = 0 ∧ (after (.managementPortLink true false false) ((mac true 0 0).rput (lmpDom 742) 0x80000000)).rb (macReg 0) 31 = false := by decide +kernel
theorem test_downshift : (after .downshift (mac true 0xD0000000 0)).rget (macReg 0) = 0x08000000 ∧ (after .downshift (mac false 0xD0000000 0)).rget (macReg 0) = 0xD0000000 ∧ (after (.phyRestart .ixz) (mac true 0x08000000 0)).rget (macReg 0) = 0 ∧
    (after (.phyRestart (.port 0 0 0)) State.reset).rf (macReg 0x38) 0 16 = 1 ∧ (after (.ptpStep .ixz) State.reset).ptpGo = true ∧ (after (.ptpStep (.port 0 0 0)) State.reset).rf (macReg 0x38) 0 16 = 1 := by decide +kernel
def clocked (stat ctl : RegVal) : State := { mac true stat ctl with ptp := 3000000000 * 2 ^ 32 }
theorem test_pps : (clocked 0 0x60000000).ptpNs = 3000000000 ∧ (after .ppsOutput (clocked 0 0x40000000)).ppsAt = some 3000000000 ∧ (after .ppsOutput (clocked 0 0)).ppsAt = none ∧
    ((after (.ppsInputCapture 10) ((clocked 0 0x20000000).rput (portReg 1 0x18) 4)).rget (macReg 0x30)).toNat = 3000000005 ∧ (after (.ppsInputCapture 0) (clocked 0 0x20000000)).ptpNews = false ∧ (after (.ppsInputCapture 0) (clocked 0 0)).gext 17 = some true := by decide +kernel
theorem test_ptpEvent : (after (.ptpEventTimestamp 32) (clocked 0xA0000000 0)).ptpStamp = some 3000000016 ∧ (after (.ptpEventTimestamp 0) (clocked 0 0)).ptpStamp = none ∧ (clocked 0xC0000000 0).rf (macReg 0) 29 2 = 2 := by decide +kernel
/-! Power, the test access port, debug. -/

/-- Cluster domain n's die has its mesh Lit; the domain's own register and its change. -/
def domed (n : Nat) (w : RegVal) (d : DomSt) : State := (lit 728 (State.reset.rput (lmpDom n) w)).setDomSt n d
theorem test_domainRequest : (after (.domainRequest (.port 0 0 0) 3 0) State.reset).rf (lmpReg 0xC) 0 16 = 1 ∧ ((after (.domainRequest .ixz 3 0x08000000) (domed 3 0x80000000 {})).domSt 3).target = some 0 ∧ (after (.domainRequest .ixz 3 0x08000000) (domed 3 0x80000000 {})).rb (lmpDom 3) 27 = true ∧
    ((after (.domainRequest .ixz 3 0) (State.reset.rput (lmpDom 728) 0x80000000)).domSt 3).target = none ∧ (after (.domainRequest .ixz 3 0) (State.reset.rput (lmpDom 728) 0x80000000)).rb (lmpReg 4) 29 = true ∧ ((after (.domainRequest .ixz 3 0x10000000) (domed 3 0x80000000 { target := some 0 })).domSt 3) = { target := some 0, wait := some 1 } ∧
    (after (.domainRequest .ixz 3 0x30000000) (domed 3 0 {})).rb (lmpReg 4) 29 = true ∧ (after (.domainRequest .ixz 747 0x30000000) State.reset).rf (lmpReg 0xC) 0 16 = 1 := by decide +kernel
theorem test_domainChange_none : (after (.domainChangeComplete 3) (domed 3 0 {})) = domed 3 0 {} := by decide +kernel
theorem test_domainChange : (after (.domainChangeComplete 3) (domed 3 0 { target := some 1 })).dom 3 = 1 ∧ (after (.domainChangeComplete 3) (domed 3 0 { target := some 1 })).domSt 3 = {} ∧
    (after (.domainChangeComplete 3) (((domed 3 0x80000000 { target := some 0 }).setRegion 0 { loaded := true }).rput (lmpDom 737) 0x80000000)).dom 3 = 2 ∧ (State.reset.rput (lmpDom 737) 0x80000000).dom 737 ≠ 0 ∧
    ((after (.domainChangeComplete 3) { domed 3 0 { target := some 2 } with cells := [(195, { w0 := 1 })] }).cell 195) = {} ∧ ((after (.domainChangeComplete 3) { domed 3 0 { target := some 1 } with cells := [(195, { w0 := 1 })] }).cells) = [(195, { w0 := 1 })] ∧
    ((after (.domainChangeComplete 3) (domed 3 0 { target := some 1, wait := some 0 })).domSt 3).target = some 0 := by decide +kernel
theorem test_domainChange_bank : ((after (.domainChangeComplete 545) ((domed 545 0 { target := some 1 }).setBank 1 { cur := some { who := .scrub } })).dom 545) = 0 ∧ (after (.domainChangeComplete 545) (domed 545 0 { target := some 1 })).dom 545 = 1 ∧
    ((after (.domainChangeComplete 545) ((domed 545 0 { target := some 1 }).setBank 1 { cur := some { who := .slice } })).dom 545) = 1 ∧
    ((after (.domainChangeComplete 545) { domed 545 0 { target := some 2 } with swords := [(131072, some (1, 0))] }).sword 131072) = none := by decide +kernel
theorem test_domainChange_level : (after (.domainChangeComplete 672) ((domed 672 0x80000000 { target := some 0 }).rput ⟨.pinBank, 0, 0⟩ 0x700)).dom 672 = 2 ∧ (after (.domainChangeComplete 672) (domed 672 0x80000000 { target := some 0 })).dom 672 = 0 := by decide +kernel
def asked (hold pair : Bool) : State := (((domed 2 (if hold then 0x88000000 else 0x80000000) {}).rput (lmpDom 3) 0x80000000).rput ⟨.tnk, 0, 0⟩ (if pair then 0x80000000 else 0)).rput (lmpReg 0) 1
theorem test_lmpRreq : ((after (.lmpRreq (.port 0 9 0) 0 4) (asked false false)).domSt 2).target = some 0 ∧ (after (.lmpRreq (.port 1 9 0) 0 4) (asked false false)).rf ⟨.rreq, 0, 8⟩ 0 16 = 1 ∧ (after (.lmpRreq .ixz 0 0x80000004) (asked false false)).rf ⟨.rreq, 0, 8⟩ 0 16 = 1 ∧
    idle (.lmpRreq .ixz 0 0) (asked false false) ∧ (after (.lmpRreq .ixz 0 4) (asked true false)).rb (lmpReg 4) 29 = true ∧ (after (.lmpRreq .ixz 0 4) (asked true false)).rf ⟨.rreq, 0, 8⟩ 0 16 = 1 := by decide +kernel
theorem test_lmpRreq_pair : (after (.lmpRreq .ixz 0 8) (asked false true)).rf ⟨.rreq, 0, 8⟩ 0 16 = 1 ∧ ((after (.lmpRreq .ixz 0 4) (asked false true)).domSt 3).target = some 0 ∧ (asked false true).gOf 0 2 = 2 ∧ (asked false true).gOf 0 3 = 3 ∧
    (((asked false true).setPair 1 { trusted := some 1 }).retired 2 = true ∧ ((asked false true).setPair 1 { trusted := some 1 }).retired 3 = false ∧ ((after (.lmpRreq .ixz 0 4) ((asked false true).setPair 1 { trusted := some 1 })).domSt 3).target = some 0 ∧
    ((after (.lmpRreq .ixz 0 4) ((asked false true).setPair 1 { trusted := some 1 })).domSt 2).target = none) := by decide +kernel
theorem test_rail : (after (.railWrite .ixz 3 (BitVec.ofNat 32 (554 * 65536))) State.reset).rf (lmpReg 0x1C) 16 10 = 550 ∧ (after (.railWrite .ixz 3 (BitVec.ofNat 32 (549 * 65536))) State.reset).rf (lmpReg 0xC) 0 16 = 1 ∧ (after (.railWrite .ixz 3 (BitVec.ofNat 32 (850 * 65536))) State.reset).rf (lmpReg 0x1C) 16 10 = 850 ∧
    (after (.railWrite (.port 0 0 0) 3 (BitVec.ofNat 32 (600 * 65536))) State.reset).rf (lmpReg 0xC) 0 16 = 1 ∧ (after (.railSettled 3 710) (State.reset.rput (lmpReg 0x1C) (BitVec.ofNat 64 (2 ^ 31 + 700 * 65536)))).rget (lmpReg 0x1C) = BitVec.ofNat 64 (700 * 65536 + 710) ∧
    (after (.railSettled 3 711) (State.reset.rput (lmpReg 0x1C) (BitVec.ofNat 64 (2 ^ 31 + 700 * 65536)))).rb (lmpReg 0x1C) 31 = true := by decide +kernel
theorem test_measures : (after (.powerMeasure 501) (State.reset.rput (lmpReg 0) (BitVec.ofNat 64 (500 * 65536)))).rb (lmpReg 4) 31 = true ∧ (after (.powerMeasure 500) (State.reset.rput (lmpReg 0) (BitVec.ofNat 64 (500 * 65536)))).rb (lmpReg 4) 31 = false ∧
    (after (.temperatureMeasure 3 115) State.reset).rb (lmpReg 0x2C) 31 = true ∧ (after (.temperatureMeasure 3 114) State.reset).rb (lmpReg 4) 30 = false ∧ (after (.temperatureMeasure 3 0x1FF) State.reset).rget (lmpReg 0x2C) = 0x1FF := by decide +kernel

/-- The TAP at an instruction; I/O bank 0 Lit. -/
def tap (ir : BitVec 8) : State := { (domed 672 0 {}).rput ⟨.pinBank, 0, 0⟩ 0 with tapIr := ir }
theorem test_tapInstruction : (after (.tapInstruction 0x10) (tap 2)).rb (dbgReg 4) 31 = true ∧ (after (.tapInstruction 0xFF) (tap 2)).rb (dbgReg 4) 31 = false ∧ (after .trstN ((tap 0x10).rput (dbgReg 4) 0x80000000)).rb (dbgReg 4) 31 = false ∧
    (tap 0).scanned = true ∧ (tap 0).dom 672 = 0 ∧ { tap 0 with bscan := 6 }.scanDrive 0 = some true ∧ (tap 2).scanned = false ∧ ({ tap 0 with bscan := 6 }.scanPad 0).pin 0 = { (tap 0).pin 0 with pad := true } ∧ (((tap 2).scanBack 5).padOf 5).coming = some .park := by decide +kernel
theorem test_boundary : (tap 1).tapIr = 1 ∧ { tap 0 with bscan := 2 }.scanDrive 0 = none ∧ (after (.boundaryRegisterUpdate 6) (tap 2)).bscan = 0 := by decide +kernel
theorem test_dbgacc_not : ((tap 2).dbgAcc = none ∧ idle (.dbgaccRead 0x20000000 false) (tap 2)) ∧ idle (.dbgaccWrite 0x20000000 false 1) { tap 0x10 with dbgAcc := some ⟨true, 0⟩ } ∧ ((tap 0x10).rput (lmpDom 737) 0x80000000).dramLit = false := by decide +kernel
theorem test_dbgacc_fabric : ((after (.dbgaccRead 0x100804004 false) (tap 0x10)).flights.map (fun f => (f.quiet, f.kind)) = [(true, .read)] ∧ (after (.dbgaccConsumingRead 0x100804004 false) (tap 0x10)).flights.map (·.quiet) = [false]) ∧
    (after (.dbgaccWrite 0x100804004 false 7) (tap 0x10)).flights.map (·.data.d) = [7] ∧ (after (.dbgaccRead 0x100804004 false) (tap 0x10)).dbgAcc = some ⟨true, State.reset.nextId⟩ ∧ (after (.dbgaccRead 0xF100804004 false) (tap 0x10)).dbgStatus = 1 := by decide +kernel
theorem test_dbgacc_base : (after (.dbgaccRead 0x1FFFFFFC false) (tap 0x10)).rf (irqReg 0x38) 0 16 = 1 ∧ (after (.dbgaccWrite 0x1FFFFFFC false 7) (tap 0x10)).rf (irqReg 0x38) 0 16 = 1 ∧ (after (.dbgaccRead 0x20000000 true) (tap 0x10)).rf (violOf .gpio 0) 0 16 = 1 ∧
    (after (.dbgaccRead 0x20040020 false) (tap 0x10)).rf (lsmReg 0x10) 0 16 = 1 ∧ (after (.dbgaccRead 0x20000000 false) ((tap 0x10).rput (gpioReg 0) 5)).dbgData = 5 ∧ (after (.dbgaccConsumingRead 0x20000000 false) ((tap 0x10).rput (gpioReg 0) 5)).dbgData = 5 ∧
    (after (.dbgaccWrite 0x20050080 false 2) ((tap 0x10).rput ⟨.tnkBase, 0, 0x80⟩ 6)).rget ⟨.tnkBase, 0, 0x80⟩ = 4 := by decide +kernel
def dbgFl (k : AKind) (a : Answer) : State := { tap 0x10 with flights := [{ id := 5, iss := .debug, lp := 4096, tc := 3, kind := k, addr := 0x100804004, data := {}, ans := some a }], dbgAcc := some ⟨k == .read, 5⟩ }
theorem test_dbgacc_answer : (after (.accessReply 5) (dbgFl .read (.word { d := 9, p := true }))).dbgData = 9 ∧ (after (.accessReply 5) (dbgFl .read (.word { d := 9, p := true }))).dbgP = true ∧ (after (.accessReply 5) (dbgFl .read .quarantined)).dbgStatus = 3 ∧
    (after (.accessCompletionReport 5) (dbgFl .write .done)).dbgAcc = none ∧ (after (.accessReply 5) { dbgFl .read (.word { d := 9 }) with dbgAcc := some ⟨true, 6⟩ }).dbgAcc = some ⟨true, 6⟩ ∧ (after (.accessCompletionReport 5) { dbgFl .write .done with dbgAcc := none }).flights = [] := by decide +kernel
theorem test_dbgaccTimeout : (after .dbgaccTimeout (dbgFl .read (.word {}))).dbgStatus = 2 ∧ (after .dbgaccTimeout (dbgFl .read (.word {}))).dbgAcc = none ∧ (after .dbgaccTimeout { tap 0x10 with dbgStatus := 1 }).dbgStatus = 1 := by decide +kernel

/-- Core 1 Lit, halted or not, its CTL and STAT, and what it does. -/
def cored (h : Bool) (ctl stat : RegVal) (c : Core) : State := (((lit 733 State.reset).rput (dbgReg 4) (if h then 2 else 0)).rput (dbgCore 1 0) ctl |>.rput (dbgCore 1 4) stat).setCore 1 c
theorem test_halt : (after (.halt 1 3) (cored false 0 0 { haltReq := true })).coreHalted 1 = true ∧ (after (.halt 1 3) (cored false 0 0 {})).coreHalted 1 = false ∧ (after (.halt 1 2) (cored false 0 0 {})).rf (dbgCore 1 4) 0 3 = 2 ∧ (after (.halt 1 7) (cored false 0 0 {})).coreHalted 1 = false ∧
    (after (.halt 1 1) (cored false 0 0 { load := some 3 })).coreHalted 1 = false ∧ (after (.halt 1 1) (cored true 0 0 {})).rf (dbgCore 1 4) 0 3 = 0 := by decide +kernel
theorem test_debugOnly : (after (.resume .ixz 1) State.reset).rf (dbgReg 8) 0 16 = 1 ∧ (after (.feed (.core 0) 1 0 .inside) State.reset).rf (dbgReg 8) 0 16 = 1 ∧ (after (.detach (.port 0 0 0)) State.reset).rf (dbgReg 8) 0 16 = 1 ∧ (after (.breakLock .ixz 3 2) State.reset).rf (dbgReg 8) 0 16 = 1 ∧ (after (.freeze .ixz 3) State.reset).rf (dbgReg 8) 0 16 = 1 := by decide +kernel
theorem test_resume : (after (.resume .debug 1) (cored true 0 0x80000000 {})).coreHalted 1 = false ∧ (after (.resume .debug 1) (cored true 0 0x80000000 {})).rb (dbgCore 1 4) 31 = false ∧ (after (.resume .debug 1) (cored true 0x20000000 0 {})).rf (dbgCore 1 4) 0 3 = 4 ∧ idle (.resume .debug 1) (cored false 0 0 {}) := by decide +kernel
theorem test_feed : (after (.feed .debug 1 0x13 .inside) (cored false 0 0 {})).rf (dbgReg 8) 0 16 = 1 ∧ (after (.feed .debug 1 0x13 .inside) (cored true 0 0x20000000 {})).rf (dbgReg 8) 0 16 = 1 ∧ (after (.feed .debug 1 0x6F .inside) (cored true 0 0 {})).rb (dbgCore 1 4) 30 = true ∧ (after (.feed .debug 1 0x13 .trap) (cored true 0 0 {})).rb (dbgCore 1 4) 30 = true ∧
    fedBarred 0x73 = true ∧ fedBarred 0x10500073 = true ∧ fedBarred 0xA001 = true ∧ fedBarred 0x9002 = true ∧ fedBarred 0x13 = false ∧ idle (.feed .debug 1 0x13 .inside) (cored true 0 0 {}) ∧ (after (.feed .debug 1 0x13 (.scratch 7)) (cored true 0 0 {})).rget (dbgCore 1 0x10) = 7 := by decide +kernel
theorem test_feed_access : (after (.feed .debug 1 0x3 (.load 0x20000000 .b32)) ((cored true 0 0 {}).rput (gpioReg 0) 5)).rdata = 5 ∧ ((after (.feed .debug 1 0x3 (.load 0x100804004 .b32)) (cored true 0 0 {})).core 1).load = some State.reset.nextId ∧ (after (.feed .debug 1 0x3 (.load 0x100804004 .b32)) (cored true 0 0 {})).rb (dbgCore 1 4) 29 = true ∧
    (after (.feed .debug 1 0x23 (.store 0x100804004 .b32 7)) (cored true 0 0 {})).flights.map (·.data.d) = [7] ∧ (after (.feed .debug 1 0x23 (.store 0x20050080 .b32 2)) ((cored true 0 0 {}).rput ⟨.tnkBase, 0, 0x80⟩ 6)).rget ⟨.tnkBase, 0, 0x80⟩ = 4 := by decide +kernel
theorem test_breakLock : (after (.breakLock .debug 3 2) State.reset).rb (dbgReg 0x18) 30 = true ∧ (after (.breakLock .debug 3 2) State.reset).rf (dbgReg 0x18) 0 7 = 14 ∧ ((after (.breakLock .debug 3 2) (State.reset.setBank 14 { lock := some .ixz })).bank 14).broke = true ∧
    (after (.breakLock .debug 3 2) (State.reset.setBank 14 { lock := some .ixz })).rb (sb 14 0x20) 30 = true := by decide +kernel
theorem test_freeze : ((after (.freeze .debug 0x80000001) (running 0 State.reset)).region 0).frozen = true ∧ ((after (.freeze .debug 0x80000001) (running 0 State.reset)).region 31).frozen = false ∧ (State.reset.region 31).gate = true ∧ ((after (.freeze .debug 0) ((running 0 State.reset).setRegion 0 { gate := false, frozen := true, frozenDone := true })).region 0).frozenDone = false := by decide +kernel
theorem test_freezeComplete : ((after (.freezeComplete 0) ((running 0 State.reset).rput (dbgReg 0x10) 1)).region 0).frozenDone = true ∧ ((after (.freezeComplete 0) (running 0 State.reset)).region 0).frozenDone = false ∧ ((after (.freezeComplete 0) (State.reset.rput (dbgReg 0x10) 1)).region 0).frozenDone = false := by decide +kernel
/-! Ixzento. -/

/-- The firmware runs on core 0, Lit. -/
def served (ix : Ix) : State := { lit 732 State.reset with fw := some { ver := 1, svn := 9 }, recovery := false, bootDue := false, hot := false, vin := true, ix := ix }
/-- A session on the mailbox, its next SEQ 7. -/
def sess (control : Bool) (minor : Nat) : Session := { id := 3, ep := .mailbox 1, control := control, minor := minor, expect := 7 }
/-- A request of session 3, or of another. -/
def pk (minor op : Nat) (seq : Word) (sid : Nat) (p : List Byte) : List Byte := mkPkt (0x0100 + minor) op 0 seq sid p
/-- The state after a request in turn of a CONTROL session in version 1.2. -/
def took (c : Arrival → Instr) (op : Nat) (p : List Byte) (s : State) : State := after (c (.mailbox 1 (pk 2 op 7 3 p))) { s with ix := { s.ix with sessions := [sess true 2] } }
/-- STATUS and DETAIL of the packet sent last. -/
def told (u : State) : Option (Nat × Nat) := u.ixOut.getLast?.map (fun e => (beAt e.2 16 1, beAt e.2 17 1))
/-- What the request of session 3 waits for. -/
def held (u : State) : Option IxWait := ((u.session 3).bind (·.run)).map (·.wait)
def plain : State := served {}

theorem test_PacketsReadBack : parsePkt (mkPkt 65535 255 255 0xFFFFFFFF 65535 [1, 2]) = some ⟨255, 255, 255, 255, 0xFFFFFFFF, 2, 65535, [1, 2]⟩ := by decide +kernel
theorem test_SessionValuesFresh : freshId [1, 2] 65536 1 = 3 ∧ freshId [] 65536 0 = 1 ∧ freshId [1] 65536 65535 = 65535 := by decide +kernel

/-- A request in turn, and one that each other case of a row answers. -/
theorem test_InTurn : InTurn (served { sessions := [sess true 2] }) (.mailbox 1 (pk 2 0x10 7 3 [])) 0x10 (served { sessions := [sess true 2] }) (sess true 2) ⟨1, 2, 0x10, 0, 7, 0, 3, []⟩ := by
  refine ⟨pk 2 0x10 7 3 [], ?_, ?_, rfl, rfl, rfl, rfl, ?_, rfl, ?_, ?_, rfl, rfl, rfl⟩ <;> decide +kernel
theorem test_InTurn_all : (∀ op ∈ [0x31, 0x95], (pk 2 op 7 3 [1, 2, 3, 4]).length = 20) ∧ (after (.ixPowerSet (.mailbox 1 (pk 2 0x50 7 3 []))) (served { sessions := [sess false 2] })).ixOut.length = 1 ∧
    told (after (.ixPowerSet (.mailbox 1 (pk 2 0x50 7 3 [0, 0, 0, 0]))) (served { sessions := [sess false 2] })) = some (0x0A, 0) ∧ told (took .ixPowerSet 0x50 [] plain) = some (5, 0) ∧
    told (after (.ixSvnRaise (.mailbox 1 (pk 1 0x95 7 3 [1, 254, 0, 0]))) (served { sessions := [sess true 1] })) = some (4, 0) := by decide +kernel
theorem test_Row0 : (plain.ixArrival (.mailbox 1 (pk 0 0 1 0 []))).map (fun e => e.2.1) = some (pk 0 0 1 0 []) ∧ plain.session 0 = none ∧ told (after (.ixHello (.mailbox 1 (pk 0 0 1 0 []))) plain) = some (0, 0) ∧ told (took .ixHello 0 [] plain) = some (0, 0) := by decide +kernel

theorem test_arrivals : ({ plain with fw := none } : State).ixArrival (.mailbox 1 []) = none ∧ plain.ixArrival (.udp 1 2 true []) = none ∧ plain.ixArrival (.uart []) = none ∧ plain.ixArrival .choval = none ∧ (({ plain with recovery := true } : State).ixArrival (.mailbox 1 [])) = none ∧
    (({ plain with mgmtIn := [(5, [9])] } : State).ixArrival .choval).map (fun e => (e.1, e.2.1)) = some (.choval 5, [9]) := by decide +kernel
theorem test_dropped : (after (.ixDropped (.mailbox 1 [1])) plain).ix.dropped = 1 ∧ (after (.ixDropped (.mailbox 1 (mkPkt 0x0100 4 0x80 7 3 []))) plain).ix.dropped = 1 ∧ (after (.ixDropped (.mailbox 1 (pk 0 4 7 3 []))) plain).ix.dropped = 0 ∧ told (after (.ixBadOpcode (.mailbox 1 (pk 0 0x7F 7 0 []))) plain) = some (4, 0) ∧
    told (took .ixBadOpcode 0x7F [] plain) = some (4, 0) ∧ told (after (.ixKeepalive (.mailbox 1 (mkPkt 0x0200 4 0 7 3 []))) plain) = some (3, 0) := by decide +kernel
theorem test_keepalive : told (after (.ixKeepalive (.mailbox 2 (pk 2 4 7 3 []))) (served { sessions := [sess true 2] })) = some (7, 0) ∧ told (after (.ixKeepalive (.mailbox 1 (pk 1 4 7 3 []))) (served { sessions := [sess true 2] })) = some (3, 0) ∧ told (took .ixKeepalive 4 [] plain) = some (0, 0) ∧
    ((after (.ixKeepalive (.mailbox 1 (pk 2 4 14 3 []))) (served { sessions := [sess true 2] })).session 3).map (·.held.length) = some 1 ∧ told (after (.ixKeepalive (.mailbox 1 (pk 2 4 15 3 []))) (served { sessions := [sess true 2] })) = some (9, 0) ∧
    told (after (.ixKeepalive (.mailbox 1 (pk 2 4 6 3 []))) (served { sessions := [sess true 2] })) = some (9, 0) ∧ told (after (.ixKeepalive (.mailbox 1 (pk 2 4 6 3 []))) (served { sessions := [{ sess true 2 with run := some ⟨8, 6, .sign⟩ }] })) = some (1, 0) ∧
    (after (.ixKeepalive (.mailbox 1 (pk 2 4 6 3 []))) (served { sessions := [{ sess true 2 with replies := [(6, [9])] }] })).ixOut = [(.mailbox 1, [9])] := by decide +kernel
/-- Session 3 with a request that runs. -/
def running3 (op : Nat) (w : IxWait) : State := served { sessions := [{ sess true 2 with run := some ⟨op, 6, w⟩ }] }
theorem test_timeouts : (after (.sessionIdleTimeout 3) (served { sessions := [sess true 2], push := some { session := 3, dest := 0, total := 4 } })).ix.push = none ∧ ((after (.sequenceGapTimeout 3) (served { sessions := [{ sess true 2 with held := [pk 2 4 9 3 []] }] })).session 3).map (·.held) = some [] ∧
    told (after (.relayTimeout 3) (running3 8 (.relay 5 9))) = some (0x0C, 0) ∧ told (after (.waitLockLimit 3) (running3 0x64 (.lock 1))) = some (0x0B, 0) ∧ plain.lockedOf 0 = 0 ∧ told (after (.waitLockDone 3) (running3 0x64 (.lock 0))) = some (0, 0) ∧ plain.lockedOf 1 = 0 ∧
    (after (.waitLockDone 3) (running3 0x64 (.lock 1))).ixOut = [] ∧ (after (.relayTimeout 3) (running3 0x64 (.lock 1))).ixOut = [] := by decide +kernel
theorem test_resetDelay : (after .resetDelayExpiry (served { resetDue := some 1 })).fw = none ∧ (after .resetDelayExpiry plain).fw.isSome = true ∧ (after .resetDelayExpiry (served { resetDue := some 0 })).bootDue = true := by decide +kernel
theorem test_flashProgram : told (after (.flashProgramComplete true) { running3 0x33 .flash with ix := { (running3 0x33 .flash).ix with jobs := [⟨3, 5, [1, 2, 3, 4]⟩] } }) = some (0, 0) ∧ told (after (.flashProgramComplete false) { running3 0x37 .flash with ix := { (running3 0x37 .flash).ix with jobs := [⟨3, 5, [1, 2, 3, 4]⟩] } }) = some (0x0D, 0) ∧
    told (after (.flashProgramComplete true) { running3 0x37 .flash with ix := { (running3 0x37 .flash).ix with jobs := [⟨3, 5, [1, 2, 3, 4]⟩] } }) = some (0, 0) ∧ ((after (.flashProgramComplete true) (served { jobs := [⟨3, 5, [1, 2]⟩] })).flash) = [(5, 1), (6, 2)] ∧
    (after (.flashProgramComplete true) { served { jobs := [⟨3, 5, [1, 2]⟩] } with recovery := true, fw := none }).bootDue = true := by decide +kernel
theorem test_settles : told ({ running3 0x30 .load with loadEnded := some 0 } : State).ixSettle = some (0, 0) ∧ told ({ running3 0x30 .load with loadEnded := some 2 } : State).ixSettle = some (0x10, 2) ∧ (running3 0x30 .load).ixSettle = running3 0x30 .load ∧ told (running3 0x72 (.slice 1 5)).ixSettle = some (0, 0) ∧
    told (running3 0x50 (.domain 5)).ixSettle = some (0, 0) ∧ told (running3 0x93 (.fuse 3 false)).ixSettle = some (0, 0) ∧ told (running3 0x81 (.write [] 1 true)).ixSettle = some (0x11, 0) ∧
    told ({ running3 8 (.relay 5 9) with mgmtIn := [(5, mkPkt 0x0100 4 0x80 9 3 [])] } : State).ixSettle = some (0, 0) := by decide +kernel

/-- OPEN: HVMIN, HVMAX and MODE. -/
def opens (lo hi mode : Byte) (s : State) : State := after (.ixOpen (.mailbox 1 (pk 0 1 1 0 [1, lo, 1, hi, mode, 0, 0, 0]))) s
theorem test_open : told (opens 3 3 0 plain) = some (3, 0) ∧ told (opens 0 2 3 plain) = some (6, 4) ∧ told (opens 0 2 1 (served { sessions := [sess true 2] })) = some (2, 0) ∧ told (opens 0 2 0 (served { sessions := (List.range 8).map (fun i => { sess false 2 with id := i + 1 }) })) = some (8, 0) := by decide +kernel
theorem test_prove : ((sess false 2).challenge = none ∧ ({ sess false 2 with challenge := some [], takeover := true } : Session).takeover = true) ∧ plain.session 3 = none ∧ (served { sessions := [sess false 2, { sess true 2 with id := 4 }] }).controller.map (·.id) = some 4 := by decide +kernel
theorem test_close : (took .ixClose 3 [] plain).ix.sessions = [] ∧ told (took .ixClose 3 [] plain) = some (0, 0) := by decide +kernel
theorem test_relay : held (took .ixRelay 8 ([0, 0, 0, 0] ++ mkPkt 0x0100 4 0 9 5 []) plain) = some (.relay 0 9) ∧ told (took .ixRelay 8 ([0x10, 0, 0, 0] ++ mkPkt 0x0100 4 0 9 5 []) plain) = some (6, 0) := by decide +kernel

theorem test_load : told (took .ixLoad 0x30 [2, 0, 0, 0] plain) = some (6, 0) ∧ told (took .ixLoad 0x30 [0, 4, 0, 0] plain) = some (6, 1) ∧ told (took .ixLoad 0x30 [1, 0xFF, 32, 0] plain) = some (6, 2) ∧ told (took .ixLoad 0x30 [0, 0xFF, 0, 2] plain) = some (6, 3) ∧
    told (took .ixLoad 0x30 [0, 0xFF, 0, 0] { plain with load := some {} }) = some (2, 1) ∧ plain.imgCode (plain.sourceImage .staged) none = 0x10 ∧ told (took .ixLoad 0x30 [0, 0xFF, 0, 1] plain) = some (0x10, 0x10) := by decide +kernel
def pushing (sid dest total : Nat) : State := served { push := some { session := sid, dest := dest, total := total } }
theorem test_push : told (took .ixPushBegin 0x31 [4, 0, 0, 0, 0, 0, 0, 0] plain) = some (6, 0) ∧ told (took .ixPushBegin 0x31 [0xFF, 0, 0, 0, 2, 0, 0, 1] plain) = some (6, 4) ∧ (took .ixPushBegin 0x31 [0xFF, 0, 0, 0, 2, 0, 0, 0] plain).ix.push.map (·.total) = some 0x02000000 ∧
    told (took .ixPushBegin 0x31 [0, 0, 0, 0, 0, 0, 0, 4] (pushing 3 0 4)) = some (2, 0) ∧ told (took .ixPushData 0x32 [0, 0, 0, 0, 5] plain) = some (6, 0) ∧ told (took .ixPushData 0x32 [0, 0, 0, 4, 5] (pushing 3 0 4)) = some (6, 0) ∧ told (took .ixPushData 0x32 [0, 0, 0, 0, 5] (pushing 9 0 4)) = some (6, 0) ∧
    (took .ixPushData 0x32 [0, 0, 0, 3, 5] (pushing 3 0 4)).ix.push.map (fun p => Store.get none p.bytes 3) = some (some 5) := by decide +kernel
theorem test_pushEnd_not : told (took .ixPushEnd 0x33 (List.replicate 32 0) plain) = some (6, 0) ∧ told (took .ixAbort 0x34 [] plain) = some (0, 0) ∧ (took .ixAbort 0x34 [] { plain with load := some {} }).load = none := by decide +kernel
theorem test_records : told (took .ixRecordWrite 0x36 [4, 0, 0, 0, 0, 0, 0, 0] plain) = some (6, 0) ∧ told (took .ixRecordWrite 0x36 [3, 0, 0, 0, 0, 0, 0, 0] plain) = some (0x0A, 0) ∧ told (took .ixRecordWrite 0x36 [0, 0, 0, 0, 0, 0, 1, 0x20, 5] plain) = some (6, 4) ∧
    Store.get none (took .ixRecordWrite 0x36 [0, 0, 0, 0, 0, 0, 1, 0x1F, 5] plain).ix.recs 287 = some 5 ∧ told (took .ixRecordCommit 0x37 [4, 0, 0, 0, 0, 0, 0, 0] plain) = some (6, 0) ∧ told (took .ixRecordCommit 0x37 [0, 0, 0, 0, 0, 0, 1, 0x21] plain) = some (6, 4) ∧
    told (took .ixRecordRead 0x38 [4, 0, 0, 0, 0, 0, 0, 0, 0, 0, 0, 0] plain) = some (6, 0) ∧ told (took .ixRecordRead 0x38 [3, 0, 0, 0, 0, 0, 0, 93, 0, 0, 0, 0] plain) = some (6, 4) ∧ told (took .ixRecordRead 0x38 [3, 0, 0, 0, 0, 0, 0, 92, 0, 1, 0, 0] plain) = some (6, 8) ∧
    told (took .ixRecordRead 0x38 [3, 0, 0, 0, 0, 0, 0, 91, 0, 1, 0, 0] plain) = some (0, 0) := by decide +kernel

theorem test_power_opcodes : told (took .ixPowerSet 0x50 [2, 0xEC, 0, 0] plain) = some (6, 0) ∧ told (took .ixPowerSet 0x50 [2, 0xEB, 3, 0] plain) = some (6, 2) ∧ told (took .ixPowerSet 0x50 [2, 0xE3, 0, 0] plain) = some (0, 0) ∧ held (took .ixPowerSet 0x50 [0, 3, 0, 0] (lit 728 { plain with regs := (plain.rput (lmpDom 3) 0x80000000).regs })) = some (.domain 3) ∧
    told (took .ixPowerGet 0x51 [2, 0xEC, 0, 0] plain) = some (6, 0) ∧ told (took .ixPowerGet 0x51 [2, 0xEB, 0, 2] plain) = some (6, 2) ∧ told (took .ixPowerGet 0x51 [2, 0xEB, 0, 1] plain) = some (0, 0) ∧ told (took .ixRailSet 0x52 [4, 0, 2, 0x26] plain) = some (6, 0) ∧ told (took .ixRailSet 0x52 [3, 0, 2, 0x25] plain) = some (6, 2) ∧
    (took .ixRailSet 0x52 [3, 0, 3, 0x52] plain).rf (lmpReg 0x1C) 16 10 = 850 := by decide +kernel
theorem test_phase_opcodes : told (took .ixPortSet 0x60 (16 :: List.replicate 39 0) plain) = some (6, 0) ∧ told (took .ixPortSet 0x60 (15 :: List.replicate 39 0) plain) = some (0, 0) ∧ told (took .ixLineSet 0x61 (8 :: List.replicate 27 0) plain) = some (6, 0) ∧ told (took .ixLineSet 0x61 (7 :: List.replicate 27 0) plain) = some (0, 0) ∧
    told (took .ixLineGet 0x62 [8, 0, 0, 0] plain) = some (6, 0) ∧ told (took .ixLineGet 0x62 [7, 1, 0, 0] plain) = some (0, 0) ∧ told (took .ixWaitLock 0x64 [1, 0, 0, 0] plain) = some (6, 2) ∧ told (took .ixWaitLock 0x64 [1, 0, 0xEA, 0x61] plain) = some (6, 2) ∧ held (took .ixWaitLock 0x64 [1, 0, 0xEA, 0x60] plain) = some (.lock 1) := by decide +kernel
theorem test_fault_opcodes : told (took .ixFaultRead 0x70 [] plain) = some (0, 0) ∧ told (took .ixFaultClear 0x71 [5, 0, 0, 0] plain) = some (6, 0) ∧ told (took .ixFaultClear 0x71 [1, 0, 0, 128] plain) = some (6, 2) ∧ (took .ixFaultClear 0x71 [1, 0, 0, 127] (plain.rput (asyReg 0x18C) 0xC0000000)).rget (asyReg 0x18C) = 0x40000000 ∧
    told (took .ixSliceRun 0x72 [5, 0, 0, 0] plain) = some (6, 0) ∧ told (took .ixAsh 0x73 [32, 0, 0, 0] plain) = some (6, 0) ∧ held (took .ixAsh 0x73 [31, 0, 0, 0] plain) = some (.ash State.reset.nextId 31) ∧ told (took .ixReset 0x74 [2, 0, 0, 0] plain) = some (6, 0) ∧ (took .ixReset 0x74 [1, 0, 0, 0] plain).ix.resetDue = some 1 ∧
    told (took .ixLinkCtl 0x75 [32, 0, 0, 0] plain) = some (6, 0) ∧ told (took .ixLinkCtl 0x75 [31, 4, 0, 0] plain) = some (6, 1) ∧ (took .ixLinkCtl 0x75 [31, 1, 0, 0] plain).rb (chl 31 0) 31 = true := by decide +kernel

theorem test_read : told (took .ixRead 0x80 [0, 0, 0, 0, 0x20, 0, 0, 0, 5, 0, 0, 1] plain) = some (6, 8) ∧ told (took .ixRead 0x80 [0, 0, 0, 0, 0x20, 0, 0, 0, 4, 0, 1, 1] plain) = some (6, 10) ∧ told (took .ixRead 0x80 [0, 0, 0, 0, 0x1F, 0, 0, 0, 4, 0, 0, 1] plain) = some (6, 0) ∧ told (took .ixRead 0x80 [0, 0, 0, 0, 0x20, 0, 0, 0, 4, 0, 0, 0] plain) = some (0, 0) ∧
    held (took .ixRead 0x80 [0, 0, 0, 1, 0, 0x80, 0x40, 4, 4, 0, 0, 2] plain) = some (.read State.reset.nextId 0x100804008 false 1 [] false) ∧ told (took .ixRead 0x80 [0, 0, 0, 0, 0x20, 0, 0, 0, 4, 0, 0, 1] plain) = some (0, 0) := by decide +kernel
theorem test_write : told (took .ixWrite 0x81 [0, 0, 0, 0, 0x20, 0, 0, 0, 5, 0, 0, 0] plain) = some (6, 8) ∧ told (took .ixWrite 0x81 [0, 0, 0, 0, 0x20, 0, 0, 0, 4, 0, 0, 0, 1] plain) = some (6, 12) ∧ told (took .ixWrite 0x81 [0, 0, 0, 0, 0x1F, 0, 0, 0, 4, 0, 0, 0] plain) = some (6, 0) ∧
    told (took .ixWrite 0x81 [0, 0, 0, 0, 0x20, 4, 0, 0x20, 4, 0, 0, 0, 1, 2, 3, 4] plain) = some (0x0A, 0) ∧ held (took .ixWrite 0x81 [0, 0, 0, 1, 0, 0x80, 0x40, 4, 4, 0, 0, 0, 1, 2, 3, 4] plain) = some (.write [State.reset.nextId] 0 false) ∧
    told (took .ixWrite 0x81 [0, 0, 0, 0, 0x20, 5, 0, 0x80, 4, 0, 0, 0, 0, 0, 0, 2] (plain.rput ⟨.tnkBase, 0, 0x80⟩ 6)) = some (0, 0) := by decide +kernel
theorem test_hop_opcodes : told (took .ixHopPop 0x83 [4, 0, 0, 1] plain) = some (6, 0) ∧ told (took .ixHopPop 0x83 [3, 8, 0, 1] plain) = some (6, 1) ∧ told (took .ixHopPop 0x83 [3, 7, 8, 1] plain) = some (6, 2) ∧ told (took .ixHopPop 0x83 [3, 7, 7, 0] plain) = some (6, 3) ∧ told (took .ixHopPop 0x83 [3, 7, 7, 65] plain) = some (6, 3) ∧
    held (took .ixHopPop 0x83 [3, 7, 7, 64] plain) = some (.hopStat State.reset.nextId 255 (.pop 64)) ∧ told (took .ixHopPush 0x84 [3, 7, 7, 0, 1] plain) = some (6, 4) ∧ held (took .ixHopPush 0x84 [0, 0, 1, 0, 0, 0, 0, 9] plain) = some (.hopStat State.reset.nextId 1 (.push [9])) ∧
    told (took .ixHopCmd 0x85 [3, 7, 7, 16] plain) = some (6, 3) ∧ held (took .ixHopCmd 0x85 [3, 7, 7, 15] plain) = some (.hopCmd State.reset.nextId 255) := by decide +kernel
theorem test_security_opcodes : held (took .ixAttest 0x90 (List.replicate 32 0) plain) = some .sign ∧ told (took .ixKeyStatus 0x92 [] plain) = some (0, 0) ∧ told (took .ixKeyWrite 0x93 (8 :: List.replicate 35 0) plain) = some (6, 0) ∧
    ((took .ixKeyWrite 0x93 ([7, 0, 0, 0] ++ List.replicate 31 0 ++ [5]) plain).kslot 7) = { st := 1, key := 5 } ∧ told (took .ixKeyWrite 0x93 (0 :: List.replicate 35 0) (plain.setKslot 0 { st := 1 })) = some (0x13, 1) ∧ told (took .ixKeyCmd 0x94 (6 :: List.replicate 35 0) plain) = some (6, 0) ∧ told (took .ixKeyCmd 0x94 (2 :: 8 :: List.replicate 34 0) plain) = some (6, 1) ∧
    told (took .ixKeyCmd 0x94 (2 :: 3 :: List.replicate 34 0) plain) = some (0x13, 0) ∧ told (took .ixKeyCmd 0x94 (3 :: 3 :: List.replicate 34 0) (plain.setKslot 3 { st := 1 })) = some (0, 0) ∧ held (took .ixKeyCmd 0x94 (4 :: 1 :: List.replicate 34 0) plain) = some (.fuse 1 true) ∧
    told (took .ixSvnRaise 0x95 [0, 255, 0, 0] plain) = some (6, 0) ∧ told (took .ixSvnRaise 0x95 [10, 245, 0, 0] plain) = some (6, 0) ∧ told (took .ixSvnRaise 0x95 [9, 245, 0, 0] plain) = some (6, 1) ∧ (took .ixSvnRaise 0x95 [9, 246, 0, 0] plain).fwsvn = 9 := by decide +kernel
/-- The answer of access 5, for which the request of session 3 waits. -/
def answers (k : AKind) (a : Answer) (op : Nat) (w : IxWait) : State := after (if k = .read then .accessReply 5 else .accessCompletionReport 5)
  { running3 op w with flights := [{ id := 5, iss := .ixz, lp := 4096, tc := 3, kind := k, addr := 0x100804004, data := {}, ans := some a }] }
theorem test_answers_waiter : ({ running3 0x80 (.read 5 0 false 0 [] false) with flights := [] } : State).waiter 5 = some ({ sess true 2 with run := some ⟨0x80, 6, .read 5 0 false 0 [] false⟩ }, ⟨0x80, 6, .read 5 0 false 0 [] false⟩) ∧ (running3 0x81 (.write [5] 0 false)).waiter 5 = none := by decide +kernel
theorem test_answers_read : told (answers .read (.word { d := 7, p := true }) 0x80 (.read 5 0 false 0 [] false)) = some (0, 0) ∧ (answers .read (.word { d := 7, p := true }) 0x80 (.read 5 0 false 0 [] false)).rb (irqReg 0x34) 30 = true ∧ told (answers .read .quarantined 0x80 (.read 5 0 false 0 [] false)) = some (0x11, 0) ∧
    held (answers .read (.word { d := 7 }) 0x80 (.read 5 0x100804004 false 1 [] false)) = some (.read State.reset.nextId 0x100804008 false 0 [(7, false)] false) := by decide +kernel
theorem test_answers_hopper : held (answers .read (.word { d := 0x82 }) 0x83 (.hopStat 5 1 (.pop 64))) = some (.hopPop State.reset.nextId 1 0 []) ∧ told (answers .read (.word { d := 0x81 }) 0x83 (.hopStat 5 1 (.pop 64))) = some (0, 0) ∧ told (answers .read .quarantined 0x83 (.hopStat 5 1 (.pop 64))) = some (0x11, 0) ∧
    held (answers .read (.word { d := 63 }) 0x84 (.hopStat 5 1 (.push [7, 8]))) = some (.hopPush State.reset.nextId 1 [] 0) ∧ told (answers .read (.word { d := 64 }) 0x84 (.hopStat 5 1 (.push [7, 8]))) = some (0, 0) ∧ told (answers .read (.word {}) 0x85 (.hopStat 5 1 (.show false))) = some (0, 0) ∧
    told (answers .read (.word {}) 0x83 (.hopPop 5 1 0 [])) = some (0, 0) ∧ held (answers .read (.word {}) 0x83 (.hopPop 5 1 1 [])) = some (.hopPop State.reset.nextId 1 0 [{}]) ∧ told (answers .write .done 0x84 (.hopPush 5 1 [] 1)) = some (0, 0) ∧
    held (answers .write .done 0x84 (.hopPush 5 1 [7] 1)) = some (.hopPush State.reset.nextId 1 [] 2) ∧ held (answers .write .done 0x85 (.hopCmd 5 1)) = some (.hopStat State.reset.nextId 1 (.show false)) ∧ told (answers .write .done 0x73 (.ash 5 1)) = some (0, 0) := by decide +kernel
theorem test_answers_write : told (answers .write .done 0x81 (.write [5] 0 false)) = some (0, 0) ∧ held (answers .write .done 0x81 (.write [5, 6] 0 false)) = some (.write [6] 1 false) ∧ (answers .read (.word { d := 7 }) 0x10 .sign).rdata = 7 ∧ told (after (.ftmo 0) (running3 0x80 (.read 5 0 false 0 [] false))) = some (0, 0) := by decide +kernel

end Sys2Proof.Tests
end

section
/-! The cell's step (R75 to R83): what `State.perform` and `State.advance` make of the cell, its west neighbour and its status register,
said once for every opcode as `Stepped`. -/

namespace Sys2Proof

open Machine

/-! Frames. -/

/-- A change that stays in the mask's fields leaves every field out of the mask alone. -/
theorem Ev.only {m : Nat} {s t : State} (h : Ev m s t) {l : List Field} (hl : ∀ f, f ∉ l → m.testBit f.bit = false) : Only l s t :=
  fun f hf => h.frame f (hl f hf)

/-- 16392 is the mask of the fields `cells` and `regs`, the two that a cell's step writes. -/
theorem testBit_stepMask (f : Field) (hf : f ∉ [Field.cells, .regs]) : Nat.testBit 16392 f.bit = false := by
  cases f with
  | cells => exact absurd (by simp) hf
  | regs => exact absurd (by simp) hf
  | _ => rfl

namespace Machine

@[simp] theorem State.rget_setCell (s : State) (x : Nat) (c : Cell) (g : Reg) : (s.setCell x c).rget g = s.rget g := rfl
@[simp] theorem State.routed_setCell (s : State) (x : Nat) (c : Cell) (y : Nat) (oy : Bool) : (s.setCell x c).routed y oy = s.routed y oy := rfl

/-! A sticky bit set under a condition (R84). -/

@[simp] theorem State.cell_stickyIf (s : State) (c : Bool) (g : Reg) (i y : Nat) :
    (if c then s.sticky g i else s).cell y = s.cell y := by cases c <;> rfl

theorem State.rb_stickyIf (s : State) (c : Bool) (g : Reg) {i : Nat} (j : Nat) (hi : i < 64) :
    (if c then s.sticky g i else s).rb g j = (s.rb g j || (c && decide (j = i))) := by
  cases c with
  | false => simp
  | true =>
    by_cases hj : j = i
    · subst hj; simp [State.rb_sticky_self s g j hi]
    · simp [State.rb_sticky_bit s g i j hj, hj]

theorem State.rget_stickyIf_ne (s : State) (c : Bool) {g h : Reg} (i : Nat) (hne : h.addr ≠ g.addr) :
    (if c then s.sticky g i else s).rget h = s.rget h := by
  cases c with
  | false => rfl
  | true => exact State.rget_sticky_ne s g h i hne

/-! Registers W0..W3 and the operand slots of a cell. -/

/-- A write of Wk, field by field. -/
theorem Cell.setW_eq (c : Cell) (k : Nat) (v : Word) (p : Bool) :
    c.setW k v p = { c with
      wp := setBit c.wp k p
      w0 := if k = 0 then v else c.w0
      w1 := if k = 1 then v else c.w1
      w2 := if k = 2 then v else c.w2
      w3 := if k < 3 then c.w3 else v } := by
  rcases k with _ | _ | _ | k <;> simp [Cell.setW]

theorem Cell.wreg_setW (c : Cell) {k j : Nat} (v : Word) (p : Bool) (hk : k < 4) (hj : j < 4) :
    (c.setW k v p).wreg j = if k = j then v else c.wreg j := by
  rw [Cell.setW_eq]
  rcases j with _ | _ | _ | j
  · rfl
  · rfl
  · rfl
  · have h3 : k < 3 ↔ ¬ k = j + 3 := by omega
    simp [Cell.wreg, h3]

theorem Cell.bit_wp_setW (c : Cell) {k : Nat} (j : Nat) (v : Word) (p : Bool) (hk : k < 4) :
    bit (c.setW k v p).wp j = if k = j then p else bit c.wp j := by
  have hwp : (c.setW k v p).wp = setBit c.wp k p := by rw [Cell.setW_eq]
  rw [hwp]
  split
  · next h => subst h; exact bit_setBit_self _ _ _ hk
  · next h => exact bit_setBit_ne _ _ _ _ (Ne.symm h)

/-- A cell whose operand slots `l` have been emptied. -/
def Cell.emptied (c : Cell) (l : List Nat) : Cell :=
  { c with
    s0 := if 0 ∈ l then none else c.s0
    s1 := if 1 ∈ l then none else c.s1
    s2 := if 2 ∈ l then none else c.s2
    s3 := if 3 ∈ l then none else c.s3 }

theorem Cell.emptied_cons (c : Cell) {k : Nat} (l : List Nat) (hk : k < 4) : (c.setPort k none).emptied l = c.emptied (k :: l) := by
  have h : k = 0 ∨ k = 1 ∨ k = 2 ∨ k = 3 := by omega
  rcases h with rfl | rfl | rfl | rfl <;> simp [Cell.emptied, Cell.setPort]

/-- The consumption of R77 is the emptying of the consumed slots. -/
theorem Cell.foldl_setPort_none (c : Cell) {l : List Nat} (hl : ∀ k ∈ l, k < 4) :
    l.foldl (fun c k => c.setPort k none) c = c.emptied l := by
  induction l generalizing c with
  | nil => simp [Cell.emptied]
  | cons k t ih =>
    rw [List.foldl_cons, ih _ (fun j hj => hl j (List.mem_cons_of_mem _ hj))]
    exact Cell.emptied_cons c t (hl k List.mem_cons_self)

theorem Cell.port_emptied (c : Cell) (l : List Nat) {k : Nat} (hk : k < 4) :
    (c.emptied l).port k = if k ∈ l then none else c.port k := by
  have h : k = 0 ∨ k = 1 ∨ k = 2 ∨ k = 3 := by omega
  rcases h with rfl | rfl | rfl | rfl <;> rfl

theorem Slot.mem_consumes (i : Slot) (k : Nat) : k ∈ i.consumes ↔ k < 4 ∧ i.hold = false ∧ (i.sa = k ∨ i.sb = k) := by
  unfold Slot.consumes
  cases i.hold <;> simp [List.mem_dedup, eq_comm, and_comm]

/-- A property that no absent token has holds of a consumed token exactly when it holds at a port the slot names and does not hold back. -/
theorem Slot.any_consumed (i : Slot) (c : Cell) (q : Tok → Bool) (hq : q {} = false) :
    (i.consumes.filterMap c.port).any q = (i.hold == false && [i.sa, i.sb].any (fun k => decide (k < 4) && q ((c.port k).getD {}))) := by
  have hport (k : Nat) : (∃ t, c.port k = some t ∧ q t = true) ↔ q ((c.port k).getD {}) = true := by
    cases c.port k with
    | none => simpa using hq
    | some t => simp
  have hcons : (∃ k, k ∈ i.consumes ∧ q ((c.port k).getD {}) = true) ↔
      i.hold = false ∧ ((i.sa < 4 ∧ q ((c.port i.sa).getD {}) = true) ∨ (i.sb < 4 ∧ q ((c.port i.sb).getD {}) = true)) := by
    simp only [Slot.mem_consumes]
    constructor
    · rintro ⟨k, ⟨hk, hh, rfl | rfl⟩, hq⟩
      · exact ⟨hh, .inl ⟨hk, hq⟩⟩
      · exact ⟨hh, .inr ⟨hk, hq⟩⟩
    · rintro ⟨hh, ⟨hk, hq⟩ | ⟨hk, hq⟩⟩
      · exact ⟨_, ⟨hk, hh, .inl rfl⟩, hq⟩
      · exact ⟨_, ⟨hk, hh, .inr rfl⟩, hq⟩
  rw [Bool.eq_iff_iff]
  calc (i.consumes.filterMap c.port).any q = true
      ↔ ∃ k, k ∈ i.consumes ∧ ∃ t, c.port k = some t ∧ q t = true := by
        simp only [List.any_eq_true, List.mem_filterMap]
        exact ⟨fun ⟨t, ⟨k, hk, ht⟩, hq⟩ => ⟨k, hk, t, ht, hq⟩, fun ⟨k, hk, t, ht, hq⟩ => ⟨t, ⟨k, hk, ht⟩, hq⟩⟩
    _ ↔ _ := by
        simp only [hport, hcons]
        simp

/-! The advance of a step: consumption, the carry value, the slot pointer and the step counter. -/

/-- The cell after the advance of its step (R75, R77, R78, R85). -/
def Cell.advanced (c : Cell) (x : Nat) (i : Slot) (out : Option Link) : Cell :=
  { c.emptied i.consumes with
    slot := if i.last = true ∨ 7 ≤ c.slot then 0 else c.slot + 1
    steps := c.steps + 1
    link := if i.carry = true ∧ x % 8 ≠ 7 then out else c.link }

/-- The cells after an advance, before the sticky bits of the consumed tokens. -/
def State.advanceCells (s : State) (x : Nat) (i : Slot) (out : Option Link) : State :=
  let s1 := s.setCell x ((s.cell x).advanced x i out)
  if i.readsLink = true ∧ x % 8 ≠ 0 then s1.setCell (x - 1) { s1.cell (x - 1) with link := none } else s1

theorem State.advance_eq (s : State) (x : Nat) (i : Slot) (out : Option Link) :
    s.advance x i out =
      let eaten := i.consumes.filterMap (s.cell x).port
      let s1 := s.advanceCells x i out
      let s2 := if eaten.any (·.p) then s1.sticky (cellStat x) 29 else s1
      if eaten.any (·.f) then s2.sticky (cellStat x) 28 else s2 := by
  have hc : { i.consumes.foldl (fun c k => c.setPort k none) (s.cell x) with
        slot := if i.last || decide (7 ≤ (s.cell x).slot) then 0 else (s.cell x).slot + 1
        steps := (s.cell x).steps + 1
        link := if i.carry && x % 8 != 7 then out else (s.cell x).link } = (s.cell x).advanced x i out := by
    rw [Cell.foldl_setPort_none _ (fun k hk => ((i.mem_consumes k).mp hk).1)]
    simp [Cell.advanced]
  unfold State.advance State.advanceCells
  simp only [hc]
  simp

theorem State.advanceCells_self (s : State) {x : Nat} (i : Slot) (out : Option Link) :
    (s.advanceCells x i out).cell x = (s.cell x).advanced x i out := by
  unfold State.advanceCells
  dsimp only
  split
  · next h => rw [State.cell_setCell_ne _ _ _ _ (by omega), State.cell_setCell_same]
  · exact State.cell_setCell_same _ _ _

theorem State.advanceCells_west (s : State) {x : Nat} (i : Slot) (out : Option Link) (hx : x % 8 ≠ 0) :
    (s.advanceCells x i out).cell (x - 1) =
      if i.readsLink = true then { s.cell (x - 1) with link := none } else s.cell (x - 1) := by
  have hne : x - 1 ≠ x := by omega
  unfold State.advanceCells
  by_cases hl : i.readsLink = true <;> simp [hl, hx, State.cell_setCell_ne _ _ _ _ hne]

theorem State.advanceCells_ne (s : State) {x y : Nat} (i : Slot) (out : Option Link) (hy : y ≠ x) (hw : x % 8 = 0 ∨ y + 1 ≠ x) :
    (s.advanceCells x i out).cell y = s.cell y := by
  unfold State.advanceCells
  dsimp only
  split
  · next h => rw [State.cell_setCell_ne _ _ _ _ (by omega), State.cell_setCell_ne _ _ _ _ hy]
  · exact State.cell_setCell_ne _ _ _ _ hy

theorem State.rget_advanceCells (s : State) (x : Nat) (i : Slot) (out : Option Link) (g : Reg) :
    (s.advanceCells x i out).rget g = s.rget g := by
  unfold State.advanceCells
  dsimp only
  split <;> rfl

/-- The sticky bits of an advance leave the cells alone. -/
theorem State.cell_advance (s : State) (x : Nat) (i : Slot) (out : Option Link) (y : Nat) :
    (s.advance x i out).cell y = (s.advanceCells x i out).cell y := by
  rw [State.advance_eq]
  dsimp only
  rw [State.cell_stickyIf, State.cell_stickyIf]

/-- R84: PRECV and FRECV, set by the tokens consumed, are the only bits of the cell's status an advance writes. -/
theorem State.rb_advance (s : State) (x : Nat) (i : Slot) (out : Option Link) (b : Nat) :
    (s.advance x i out).rb (cellStat x) b = (s.rb (cellStat x) b ||
      ((i.consumes.filterMap (s.cell x).port).any (·.p) && decide (b = 29)) ||
      ((i.consumes.filterMap (s.cell x).port).any (·.f) && decide (b = 28))) := by
  have hb : (s.advanceCells x i out).rb (cellStat x) b = s.rb (cellStat x) b := by
    unfold State.rb; rw [State.rget_advanceCells]
  rw [State.advance_eq]
  dsimp only
  rw [State.rb_stickyIf _ _ _ _ (by omega), State.rb_stickyIf _ _ _ _ (by omega), hb]

theorem State.rget_advance_ne (s : State) (x : Nat) (i : Slot) (out : Option Link) {g : Reg} (hg : g.addr ≠ (cellStat x).addr) :
    (s.advance x i out).rget g = s.rget g := by
  rw [State.advance_eq]
  dsimp only
  rw [State.rget_stickyIf_ne _ _ _ hg, State.rget_stickyIf_ne _ _ _ hg, State.rget_advanceCells]

end Machine

/-! The whole step. -/

/-- What a step has made of cell `x` before its advance: its register and predicate are written and its outputs sent, and the
operand slots, the carry links, the slot pointer and every other cell are as they were (R75, R81 to R84). -/
structure Wrote (s u : State) (x : Nat) (i : Slot) (e : CellEffect) : Prop where
  word : ∀ k < 4, (u.cell x).wreg k = if e.mute = false ∧ i.dst = 4 + k then e.r else (s.cell x).wreg k
  wordP : ∀ k < 4, bit (u.cell x).wp k = if e.mute = false ∧ i.dst = 4 + k then e.p else bit (s.cell x).wp k
  cp : (u.cell x).cp = e.cp.getD (s.cell x).cp
  cpp : (u.cell x).cpp = if e.cp.isSome then e.p else (s.cell x).cpp
  ox : (u.cell x).ox = if i.ox = true ∧ e.mute = false ∧ s.routed x false = true then { tok := some ⟨e.r, e.p, e.f⟩ } else (s.cell x).ox
  oy : (u.cell x).oy = if i.oy = true ∧ e.mute = false ∧ s.routed x true = true then { tok := some ⟨e.oy, e.p, e.f⟩ } else (s.cell x).oy
  port : (u.cell x).port = (s.cell x).port
  slot : (u.cell x).slot = (s.cell x).slot
  steps : (u.cell x).steps = (s.cell x).steps
  link : (u.cell x).link = (s.cell x).link
  others : ∀ y, y ≠ x → u.cell y = s.cell y
  stat : ∀ b, u.rb (cellStat x) b = (s.rb (cellStat x) b || ((e.p && ((!e.mute && (i.ox || i.oy)) || i.carry)) && decide (b = 30)))
  regs : KeepRegs [cellStat x] s u

/-- A step that has written what it writes is a whole step once it advances. -/
theorem Wrote.stepped {s u : State} {x : Nat} {i : Slot} {e : CellEffect} (h : Wrote s u x i e)
    (ho : Only [.cells, .regs] s (u.advance x i (some ⟨e.c, e.lw, e.p⟩))) :
    Stepped s (u.advance x i (some ⟨e.c, e.lw, e.p⟩)) x i e := by
  have hcell := (u.cell_advance x i (some ⟨e.c, e.lw, e.p⟩) x).trans (u.advanceCells_self i _)
  have hstat (b : Nat) := (u.rb_advance x i (some ⟨e.c, e.lw, e.p⟩) b).trans (by
    rw [h.stat, i.any_consumed _ _ rfl, i.any_consumed _ _ rfl, h.port])
  constructor
  case only => exact ho
  case word => rw [hcell]; exact h.word
  case wordP => rw [hcell]; exact h.wordP
  case cp => rw [hcell]; exact h.cp
  case cpp => rw [hcell]; exact h.cpp
  case ox => rw [hcell]; exact h.ox
  case oy => rw [hcell]; exact h.oy
  case steps => rw [hcell, ← h.steps]; rfl
  case slot => rw [hcell, ← h.slot]; rfl
  case link => rw [hcell, ← h.link]; rfl
  case ports =>
    intro k hk
    rw [hcell, ← h.port]
    refine ((u.cell x).port_emptied i.consumes hk).trans ?_
    simp only [i.mem_consumes, hk, true_and]
  case west =>
    intro hx
    rw [u.cell_advance, u.advanceCells_west i _ hx, h.others _ (by omega)]
  case others =>
    intro y hy hw
    rw [u.cell_advance, u.advanceCells_ne i _ hy hw, h.others y hy]
  case precv => rw [hstat]; simp
  case frecv => rw [hstat]; simp
  case pemit => rw [hstat]; simp
  case stat =>
    intro b h28 h29 h30
    rw [hstat]; simp [h28, h29, h30]
  case regs =>
    intro g hg
    rw [u.rget_advance_ne x i _ (hg _ List.mem_cons_self), h.regs g hg]

namespace Machine

/-! The writes and emissions of a carried-out step. -/

/-- A cell that has sent a token on OY (true) or OX. -/
def Cell.sent (c : Cell) (oy : Bool) (t : Tok) : Cell := if oy then { c with oy := { tok := some t } } else { c with ox := { tok := some t } }

theorem State.emitIf_eq (s : State) (x : Nat) (oy c : Bool) (t : Tok) :
    (if c then s.emit x oy t else s) = if c = true ∧ s.routed x oy = true then s.setCell x ((s.cell x).sent oy t) else s := by
  cases c <;> simp [State.emit, Cell.sent]

theorem State.cell_emitIf_self (s : State) (x : Nat) (oy c : Bool) (t : Tok) :
    (if c then s.emit x oy t else s).cell x = if c = true ∧ s.routed x oy = true then (s.cell x).sent oy t else s.cell x := by
  rw [State.emitIf_eq]
  split <;> simp

theorem State.cell_emitIf_ne (s : State) {x y : Nat} (oy c : Bool) (t : Tok) (hy : y ≠ x) :
    (if c then s.emit x oy t else s).cell y = s.cell y := by
  rw [State.emitIf_eq]
  split
  · exact State.cell_setCell_ne _ _ _ _ hy
  · rfl

theorem State.rget_emitIf (s : State) (x : Nat) (oy c : Bool) (t : Tok) (g : Reg) :
    (if c then s.emit x oy t else s).rget g = s.rget g := by
  rw [State.emitIf_eq]
  split <;> rfl

theorem State.routed_emitIf (s : State) (x : Nat) (oy c : Bool) (t : Tok) (y : Nat) (o : Bool) :
    (if c then s.emit x oy t else s).routed y o = s.routed y o := by
  rw [State.emitIf_eq]
  split <;> rfl

/-- A cell whose step has written its register and its predicate (R81, R82, R108). -/
def Cell.written (c : Cell) (i : Slot) (e : CellEffect) : Cell :=
  let c1 := if !e.mute && decide (4 ≤ i.dst ∧ i.dst ≤ 7) then c.setW (i.dst - 4) e.r e.p else c
  match e.cp with
  | some v => { c1 with cp := v, cpp := e.p }
  | none => c1

/-- The write of a step, field by field: W0..W3 with their P bits, CP and CPP, and nothing else of the cell. -/
theorem Cell.written_eq (c : Cell) (i : Slot) (e : CellEffect) :
    c.written i e = { c with
      w0 := (c.written i e).w0
      w1 := (c.written i e).w1
      w2 := (c.written i e).w2
      w3 := (c.written i e).w3
      wp := (c.written i e).wp
      cp := e.cp.getD c.cp
      cpp := if e.cp.isSome then e.p else c.cpp } := by
  unfold Cell.written
  dsimp only
  rw [Cell.setW_eq]
  generalize (!e.mute && decide (4 ≤ i.dst ∧ i.dst ≤ 7)) = b
  cases e.cp <;> cases b <;> rfl

/-- R102: DST names Wk. -/
theorem Slot.dst_iff (i : Slot) (mute : Bool) {k : Nat} (hk : k < 4) :
    (mute = false ∧ i.dst = 4 + k) ↔ ((!mute && decide (4 ≤ i.dst ∧ i.dst ≤ 7)) = true ∧ i.dst - 4 = k) := by
  simp only [Bool.and_eq_true, Bool.not_eq_true', decide_eq_true_eq]
  constructor
  · rintro ⟨hm, hd⟩
    exact ⟨⟨hm, by omega⟩, by omega⟩
  · rintro ⟨⟨hm, hd⟩, hk⟩
    exact ⟨hm, by omega⟩

theorem Cell.wreg_written (c : Cell) (i : Slot) (e : CellEffect) {k : Nat} (hk : k < 4) :
    (c.written i e).wreg k = if e.mute = false ∧ i.dst = 4 + k then e.r else c.wreg k := by
  have h1 : (c.written i e).wreg k = (if !e.mute && decide (4 ≤ i.dst ∧ i.dst ≤ 7) then c.setW (i.dst - 4) e.r e.p else c).wreg k := by
    unfold Cell.written
    cases e.cp <;> rfl
  rw [h1, if_congr (i.dst_iff e.mute hk) rfl rfl, ite_and]
  split
  · next hw =>
    have hd : i.dst - 4 < 4 := by simp at hw; omega
    exact c.wreg_setW e.r e.p hd hk
  · rfl

theorem Cell.bit_wp_written (c : Cell) (i : Slot) (e : CellEffect) {k : Nat} (hk : k < 4) :
    bit (c.written i e).wp k = if e.mute = false ∧ i.dst = 4 + k then e.p else bit c.wp k := by
  have h1 : (c.written i e).wp = (if !e.mute && decide (4 ≤ i.dst ∧ i.dst ≤ 7) then c.setW (i.dst - 4) e.r e.p else c).wp := by
    unfold Cell.written
    cases e.cp <;> rfl
  rw [h1, if_congr (i.dst_iff e.mute hk) rfl rfl, ite_and]
  split
  · next hw =>
    have hd : i.dst - 4 < 4 := by simp at hw; omega
    exact c.bit_wp_setW k e.r e.p hd
  · rfl

/-- What an opcode gives, with the sideband its step adds, as the effect of the step. -/
def ExecRes.effect (e : ExecRes) (p f : Bool) : CellEffect :=
  { r := e.r, oy := e.oy.getD e.r, c := e.c, lw := e.lw, p := p, f := f, cp := e.cp, mute := e.mute }

/-- What the opcode in slot `i` of cell `x` computes from. -/
def State.execIn (s : State) (x : Nat) (i : Slot) (signed : Bool) : ExecIn :=
  let a := s.opnd x i signed i.sa
  let b := s.opnd x i signed i.sb
  let l := (s.linkIn x).getD {}
  ⟨a.d, b.d, a.p, a.f, i.imm, i.readsLink && l.c, if i.readsLink then l.w else 0, (s.cell x).cp⟩

/-- The effect of the step of slot `i` of cell `x`, whose opcode computes `f` (R81, R83, R106). -/
def State.stepEffect (s : State) (x : Nat) (i : Slot) (signed : Bool) (f : ExecIn → ExecRes) : CellEffect :=
  let a := s.opnd x i signed i.sa
  let b := s.opnd x i signed i.sb
  let e := f (s.execIn x i signed)
  e.effect (resultP i e a.p b.p (i.readsLink && ((s.linkIn x).getD {}).p) (s.cell x).cpp) (a.f || b.f)

/-- A step's writes and emissions, before its advance. -/
def State.written (s : State) (x : Nat) (i : Slot) (e : CellEffect) : State :=
  let s1 := s.setCell x ((s.cell x).written i e)
  let s2 := if i.ox && !e.mute then s1.emit x false ⟨e.r, e.p, e.f⟩ else s1
  let s3 := if i.oy && !e.mute then s2.emit x true ⟨e.oy, e.p, e.f⟩ else s2
  if e.p && ((i.ox && !e.mute) || (i.oy && !e.mute) || i.carry) then s3.sticky (cellStat x) 30 else s3

/-- A carried-out step writes and sends, then advances. -/
theorem State.perform_eq (s : State) (x : Nat) (i : Slot) (signed : Bool) (f : ExecIn → ExecRes) :
    s.perform x i signed f =
      (s.written x i (s.stepEffect x i signed f)).advance x i
        (some ⟨(s.stepEffect x i signed f).c, (s.stepEffect x i signed f).lw, (s.stepEffect x i signed f).p⟩) := rfl

theorem State.cell_written_self (s : State) (x : Nat) (i : Slot) (e : CellEffect) :
    (s.written x i e).cell x = { (s.cell x).written i e with
      ox := if i.ox = true ∧ e.mute = false ∧ s.routed x false = true then { tok := some ⟨e.r, e.p, e.f⟩ } else (s.cell x).ox
      oy := if i.oy = true ∧ e.mute = false ∧ s.routed x true = true then { tok := some ⟨e.oy, e.p, e.f⟩ } else (s.cell x).oy } := by
  unfold State.written
  dsimp only
  rw [State.cell_stickyIf, State.cell_emitIf_self, State.cell_emitIf_self, State.routed_emitIf, State.routed_setCell,
    State.routed_setCell, State.cell_setCell_same, Cell.written_eq]
  simp only [Bool.and_eq_true, Bool.not_eq_true', and_assoc]
  split <;> split <;> rfl

theorem State.cell_written_ne (s : State) {x y : Nat} (i : Slot) (e : CellEffect) (hy : y ≠ x) :
    (s.written x i e).cell y = s.cell y := by
  unfold State.written
  dsimp only
  rw [State.cell_stickyIf, State.cell_emitIf_ne _ _ _ _ hy, State.cell_emitIf_ne _ _ _ _ hy, State.cell_setCell_ne _ _ _ _ hy]

/-- R84: PEMIT, set by a poisoned result that leaves the cell, is the only bit of the cell's status that the writes and emissions set. -/
theorem State.rb_written (s : State) (x : Nat) (i : Slot) (e : CellEffect) (b : Nat) :
    (s.written x i e).rb (cellStat x) b =
      (s.rb (cellStat x) b || ((e.p && ((i.ox && !e.mute) || (i.oy && !e.mute) || i.carry)) && decide (b = 30))) := by
  unfold State.written
  dsimp only
  rw [State.rb_stickyIf _ _ _ _ (by omega)]
  unfold State.rb
  rw [State.rget_emitIf, State.rget_emitIf, State.rget_setCell]

theorem State.rget_written_ne (s : State) (x : Nat) (i : Slot) (e : CellEffect) {g : Reg} (hg : g.addr ≠ (cellStat x).addr) :
    (s.written x i e).rget g = s.rget g := by
  unfold State.written
  dsimp only
  rw [State.rget_stickyIf_ne _ _ _ hg, State.rget_emitIf, State.rget_emitIf, State.rget_setCell]

theorem State.written_wrote (s : State) (x : Nat) (i : Slot) (e : CellEffect) : Wrote s (s.written x i e) x i e := by
  have hcell := s.cell_written_self x i e
  constructor
  case word => intro k hk; rw [hcell]; exact (s.cell x).wreg_written i e hk
  case wordP => intro k hk; rw [hcell]; exact (s.cell x).bit_wp_written i e hk
  case cp => rw [hcell, Cell.written_eq]
  case cpp => rw [hcell, Cell.written_eq]
  case ox => rw [hcell]
  case oy => rw [hcell]
  case port => rw [hcell, Cell.written_eq]; rfl
  case slot => rw [hcell, Cell.written_eq]
  case steps => rw [hcell, Cell.written_eq]
  case link => rw [hcell, Cell.written_eq]
  case others => exact fun y hy => s.cell_written_ne i e hy
  case stat =>
    intro b
    have hp : ((i.ox && !e.mute) || (i.oy && !e.mute) || i.carry) = ((!e.mute && (i.ox || i.oy)) || i.carry) := by
      cases e.mute <;> simp
    rw [s.rb_written, hp]
  case regs => exact fun g hg => s.rget_written_ne x i e (hg _ List.mem_cons_self)

/-- R75 to R83: a carried-out step, whatever its opcode. -/
theorem State.perform_stepped (s : State) (x : Nat) (i : Slot) (signed : Bool) (f : ExecIn → ExecRes) :
    Stepped s (s.perform x i signed f) x i (s.stepEffect x i signed f) := by
  have ho := (State.perform_ev x i signed f (Ev.refl 16392 s) (Sub.refl _)).only testBit_stepMask
  rw [s.perform_eq] at ho ⊢
  exact (s.written_wrote x i _).stepped ho

/-- A ready slot of the command's opcode takes its step. -/
theorem State.cellStep_eq_perform {s : State} {x op : Nat} (h : StepReady s x op) (signed : Bool) (f : ExecIn → ExecRes) :
    s.cellStep x .clean op signed f = s.perform x (s.slotNow x) signed f := by
  obtain ⟨hop, hready, hruns, hout, hfence⟩ := h
  unfold State.cellStep
  simp only [hop, hready, hruns, hout, hfence]
  rfl

/-- R106: for an opcode that neither selects nor tests a sideband, P of the result is that of R81 over all it reads. -/
theorem State.stepEffect_eq {s : State} {x : Nat} {signed : Bool} {f : ExecIn → ExecRes}
    (htook : ∀ y, (f y).took = none) (hclean : ∀ y, (f y).clean = false) :
    s.stepEffect x (s.slotNow x) signed f =
      (f (s.execIn x (s.slotNow x) signed)).effect (poisonOf s x signed) (flagOf s x signed) := by
  unfold State.stepEffect resultP
  simp only [htook, hclean]
  rfl

end Machine

end Sys2Proof
end

section
/-! The opcodes of R110 to R114: the rules by which an opcode's own arithmetic gives its `Steps`, each computation of Machine/Flags.lean in
the words of its statement, and the statements. -/

namespace Sys2Proof

open Machine

/-- The rule of an opcode: its command is the cell's step with `f`, which neither selects nor tests a sideband, and what `f` computes
from the operands is the effect stated. -/
theorem Steps.of_alu {op : Nat} {signed : Bool} {c : Fin 34816 → Check → Instr} {eff : State → Nat → Word → Word → Bool → Bool → CellEffect}
    (f : ExecIn → ExecRes)
    (heff : ∀ s x p fl, (s.slotNow x).op = op →
      (f (s.execIn x (s.slotNow x) signed)).effect p fl = eff s x (opA s x signed) (opB s x signed) p fl)
    (hc : ∀ x s, exec (c x .clean) s = .next (s.cellStep x.val .clean op signed f) := by intros; rfl)
    (htook : ∀ y, (f y).took = none := by intros; rfl) (hclean : ∀ y, (f y).clean = false := by intros; rfl) :
    Steps op signed c eff := by
  intro x s h
  refine ⟨_, hc x s, ?_⟩
  rw [State.cellStep_eq_perform h, ← heff s x _ _ h.1, ← State.stepEffect_eq htook hclean]
  exact s.perform_stepped x (s.slotNow x) signed f

/-- The rule of an opcode whose result is its link word and comes from the operands and the slot's IMM alone (R107). -/
theorem Steps.of_plain {op : Nat} {signed : Bool} {c : Fin 34816 → Check → Instr} {g : State → Nat → Word → Word → Word}
    (f : ExecIn → Word) (hg : ∀ s x, f (s.execIn x (s.slotNow x) signed) = g s x (opA s x signed) (opB s x signed))
    (hc : ∀ x s, exec (c x .clean) s = .next (s.cellStep x.val .clean op signed (fun y => plain (f y))) := by intros; rfl) :
    Steps op signed c (fun s x a b p fl => .of (g s x a b) p fl) :=
  Steps.of_alu (fun y => plain (f y)) (fun s x p fl _ => congrArg (CellEffect.of · p fl) (hg s x)) hc

/-- The rule of a compare opcode: its verdict is CP and the result (R108). -/
theorem Steps.of_verdict {op : Nat} {signed : Bool} {c : Fin 34816 → Check → Instr} {g : State → Nat → Word → Word → Bool}
    (f : ExecIn → Bool) (hg : ∀ s x, f (s.execIn x (s.slotNow x) signed) = g s x (opA s x signed) (opB s x signed))
    (hc : ∀ x s, exec (c x .clean) s = .next (s.cellStep x.val .clean op signed (fun y => verdict (f y))) := by intros; rfl) :
    Steps op signed c (fun s x a b p fl => .test (g s x a b) p fl) :=
  Steps.of_alu (fun y => verdict (f y)) (fun s x p fl _ => congrArg (CellEffect.test · p fl) (hg s x)) hc

namespace Machine

/-! R8: the phase order in terms of d = a - b. -/

theorem phaseLater_eq (a b : Word) : phaseLater a b = decide (1 ≤ (a - b).toNat ∧ (a - b).toNat ≤ 0x7FFFFFFF) := by
  have hd : ((a - b).toNat ≠ 0 ∧ (a - b).toNat < 0x80000000) ↔ (1 ≤ (a - b).toNat ∧ (a - b).toNat ≤ 0x7FFFFFFF) := by omega
  exact (Bool.decide_and _ _).symm.trans (decide_eq_decide.mpr hd)

theorem phaseEarlier_eq (a b : Word) :
    phaseEarlier a b = decide (a ≠ b ∧ ¬ (1 ≤ (a - b).toNat ∧ (a - b).toNat ≤ 0x7FFFFFFF)) := by
  have h0 : a = b ↔ (a - b).toNat = 0 := by bv_omega
  have hd : 0x80000000 ≤ (a - b).toNat ↔ a ≠ b ∧ ¬ (1 ≤ (a - b).toNat ∧ (a - b).toNat ≤ 0x7FFFFFFF) := by rw [ne_eq, h0]; omega
  exact decide_eq_decide.mpr hd

end Machine

/-- Settles O10: each compare opcode is a verdict on its operands, and the phase opcodes read R8's half ring. -/
theorem compareOpcodes : Obligations.CompareOpcodes := by
  unfold Obligations.CompareOpcodes
  refine ⟨?ceq, ?cne, ?clt, ?cle, ?cgt, ?cge, ?cltu, ?cleu, ?cgtu, ?cgeu, ?tst, ?plt, ?pge, ?pwin, rfl, rfl⟩
  case ceq => exact .of_verdict (fun y => decide (y.a = y.b)) (fun _ _ => rfl)
  case cne => exact .of_verdict (fun y => decide (y.a ≠ y.b)) (fun _ _ => rfl)
  case clt => exact .of_verdict (fun y => decide (y.a.toInt < y.b.toInt)) (fun _ _ => rfl)
  case cle => exact .of_verdict (fun y => decide (y.a.toInt ≤ y.b.toInt)) (fun _ _ => rfl)
  case cgt => exact .of_verdict (fun y => decide (y.b.toInt < y.a.toInt)) (fun _ _ => rfl)
  case cge => exact .of_verdict (fun y => decide (y.b.toInt ≤ y.a.toInt)) (fun _ _ => rfl)
  case cltu => exact .of_verdict (fun y => decide (y.a.toNat < y.b.toNat)) (fun _ _ => rfl)
  case cleu => exact .of_verdict (fun y => decide (y.a.toNat ≤ y.b.toNat)) (fun _ _ => rfl)
  case cgtu => exact .of_verdict (fun y => decide (y.b.toNat < y.a.toNat)) (fun _ _ => rfl)
  case cgeu => exact .of_verdict (fun y => decide (y.b.toNat ≤ y.a.toNat)) (fun _ _ => rfl)
  case tst => exact .of_verdict (fun y => decide (y.a &&& y.b ≠ 0)) (fun _ _ => rfl)
  case plt => exact .of_verdict (fun y => phaseEarlier y.a y.b) (fun s x => phaseEarlier_eq (opA s x false) (opB s x false))
  case pge =>
    refine .of_verdict (fun y => decide (y.a = y.b) || phaseLater y.a y.b) (fun s x => ?_)
    rw [phaseLater_eq, ← Bool.decide_or]; rfl
  case pwin => exact .of_verdict (fun y => decide ((y.a - y.b).toNat < y.i.toNat)) (fun _ _ => rfl)

namespace Machine

/-! Minimum, maximum and the limits. -/

theorem ite_le_eq_ite_lt {α β : Type} [LinearOrder β] (k : α → β) (a b : α) :
    (if k a ≤ k b then a else b) = if k b < k a then b else a := by
  simp only [← not_lt, ite_not]

theorem ite_le_eq_ite_lt_of_injective {α β : Type} [LinearOrder β] {k : α → β} (hk : Function.Injective k) (a b : α) :
    (if k a ≤ k b then b else a) = if k a < k b then b else a := by
  rcases lt_trichotomy (k a) (k b) with h | h | h
  · simp [h, h.le]
  · simp [hk h]
  · simp [h.not_ge, h.not_gt]

theorem fld_zero {n : Nat} (v : BitVec n) (len : Nat) : fld v 0 len = v.toNat % 2 ^ len := by simp [fld]

theorem satN_eq (b : Word) : satN b = if b.toNat % 64 = 0 ∨ 32 < b.toNat % 64 then 32 else b.toNat % 64 := by
  simp [satN, fld_zero]

end Machine

/-- Settles O7: the two spellings of a choice between a and b agree also where they tie, and n of SATS and SATU is satN. -/
theorem limitOpcodes : Obligations.LimitOpcodes := by
  unfold Obligations.LimitOpcodes
  refine ⟨?min, ?max, ?minu, ?maxu, ?sats, ?satu, ?clamp⟩
  case min => exact .of_plain (fun y => if y.a.toInt ≤ y.b.toInt then y.a else y.b) (fun _ _ => ite_le_eq_ite_lt BitVec.toInt _ _)
  case max =>
    exact .of_plain (fun y => if y.a.toInt ≤ y.b.toInt then y.b else y.a)
      (fun _ _ => ite_le_eq_ite_lt_of_injective (fun _ _ => BitVec.eq_of_toInt_eq) _ _)
  case minu => exact .of_plain (fun y => if y.a.toNat ≤ y.b.toNat then y.a else y.b) (fun _ _ => ite_le_eq_ite_lt BitVec.toNat _ _)
  case maxu =>
    exact .of_plain (fun y => if y.a.toNat ≤ y.b.toNat then y.b else y.a)
      (fun _ _ => ite_le_eq_ite_lt_of_injective (fun _ _ => BitVec.eq_of_toNat_eq) _ _)
  case sats =>
    refine .of_plain (fun y => limit y.a.toInt (-(2 ^ (satN y.b - 1))) (2 ^ (satN y.b - 1) - 1)) (fun s x => ?_)
    rw [satN_eq]; rfl
  case satu =>
    refine .of_plain (fun y => limit y.a.toInt 0 (2 ^ satN y.b - 1)) (fun s x => ?_)
    rw [satN_eq]; rfl
  case clamp =>
    exact .of_plain (fun y =>
      let l : Int := if y.b = 0x80000000#32 then 0x7FFFFFFF else iabs y.b.toInt
      limit y.a.toInt (-l) l) (fun _ _ => rfl)

namespace Machine

/-! Shifts. -/

/-- The bits a left shift moves out are the upper word of the 64-bit product. -/
theorem shiftedOut_eq (a : Word) {n : Nat} (hn : n < 32) : shiftedOut a n = BitVec.ofNat 32 (a.toNat * 2 ^ n / 2 ^ 32) := by
  have ha := a.isLt
  unfold shiftedOut
  split
  · next h => subst h; simp [Nat.div_eq_of_lt ha]
  · apply BitVec.eq_of_toNat_eq
    have hp : (2 : Nat) ^ 32 = 2 ^ (32 - n) * 2 ^ n := by rw [← Nat.pow_add]; congr 1; omega
    have hq : a.toNat * 2 ^ n / 2 ^ 32 = a.toNat / 2 ^ (32 - n) := by rw [hp, Nat.mul_div_mul_right _ _ (Nat.two_pow_pos n)]
    rw [BitVec.toNat_ushiftRight, BitVec.toNat_ofNat, hq, Nat.shiftRight_eq_div_pow]
    exact (Nat.mod_eq_of_lt (lt_of_le_of_lt (Nat.div_le_self _ _) ha)).symm

theorem aluShl_eq (y : ExecIn) :
    aluShl y = { r := y.a <<< (y.b.toNat % 32), lw := BitVec.ofNat 32 (y.a.toNat * 2 ^ (y.b.toNat % 32) / 2 ^ 32) } := by
  unfold aluShl
  simp only [fld_zero]
  rw [← shiftedOut_eq y.a (Nat.mod_lt _ (by omega))]; rfl

theorem aluShlc_eq (y : ExecIn) :
    aluShlc y = { r := (y.a <<< (y.b.toNat % 32)) ||| y.win, lw := BitVec.ofNat 32 (y.a.toNat * 2 ^ (y.b.toNat % 32) / 2 ^ 32) } := by
  unfold aluShlc
  simp only [fld_zero]
  rw [← shiftedOut_eq y.a (Nat.mod_lt _ (by omega))]; rfl

theorem rotateLeft_eq (a : Word) {n : Nat} (hn : n < 32) : a.rotateLeft n = (a <<< n) ||| (a >>> (32 - n)) :=
  BitVec.rotateLeft_def.trans (by rw [Nat.mod_eq_of_lt hn])

theorem rotateRight_eq (a : Word) {n : Nat} (hn : n < 32) : a.rotateRight n = (a >>> n) ||| (a <<< (32 - n)) :=
  BitVec.rotateRight_def.trans (by rw [Nat.mod_eq_of_lt hn])

/-- A funnel shift of the pair b : a as a division of its number. -/
theorem funnel_eq (a b : Word) (n : Nat) :
    ((b ++ a) >>> n).setWidth 32 = BitVec.ofNat 32 ((b.toNat * 2 ^ 32 + a.toNat) / 2 ^ n) := by
  apply BitVec.eq_of_toNat_eq
  rw [BitVec.toNat_setWidth, BitVec.toNat_ushiftRight, BitVec.toNat_append, BitVec.toNat_ofNat,
    ← Nat.shiftLeft_add_eq_or_of_lt a.isLt, Nat.shiftLeft_eq, Nat.shiftRight_eq_div_pow]

theorem Slot.readsLink_of_op {i : Slot} (h : opReadsLink i.op = true) : i.readsLink = true := by
  simp [Slot.readsLink, h]

theorem State.execIn_cin {s : State} {x : Nat} {i : Slot} (h : i.readsLink = true) (signed : Bool) :
    (s.execIn x i signed).cin = ((s.linkIn x).getD {}).c := by
  simp [State.execIn, h]

theorem State.execIn_win {s : State} {x : Nat} {i : Slot} (h : i.readsLink = true) (signed : Bool) :
    (s.execIn x i signed).win = ((s.linkIn x).getD {}).w := by
  simp [State.execIn, h]

end Machine

/-- Settles O8: each shift amount is below 32, so the bits SHL and SHLC move out are the upper word of the widened product, a rotation is two shifts,
and FSHR divides the number of the pair. -/
theorem logicOpcodes : Obligations.LogicOpcodes := by
  unfold Obligations.LogicOpcodes
  refine ⟨?and, ?or, ?xor, ?andn, ?shl, ?shr, ?sar, ?rol, ?ror, ?shlc, ?fshr, ?clz⟩
  case and => exact .of_plain (fun y => y.a &&& y.b) (fun _ _ => rfl)
  case or => exact .of_plain (fun y => y.a ||| y.b) (fun _ _ => rfl)
  case xor => exact .of_plain (fun y => y.a ^^^ y.b) (fun _ _ => rfl)
  case andn => exact .of_plain (fun y => y.a &&& ~~~y.b) (fun _ _ => rfl)
  case shl =>
    refine .of_alu aluShl (fun s x p fl _ => ?_)
    rw [aluShl_eq]; rfl
  case shr =>
    refine .of_plain (fun y => y.a >>> fld y.b 0 5) (fun s x => ?_)
    rw [fld_zero]; rfl
  case sar =>
    refine .of_plain (fun y => y.a.sshiftRight (fld y.b 0 5)) (fun s x => ?_)
    rw [fld_zero]; rfl
  case rol =>
    refine .of_plain (fun y => y.a.rotateLeft (fld y.b 0 5)) (fun s x => ?_)
    rw [rotateLeft_eq _ (fld_lt _ 0 5), fld_zero]; rfl
  case ror =>
    refine .of_plain (fun y => y.a.rotateRight (fld y.b 0 5)) (fun s x => ?_)
    rw [rotateRight_eq _ (fld_lt _ 0 5), fld_zero]; rfl
  case shlc =>
    refine .of_alu aluShlc (fun s x p fl hop => ?_)
    have hlink : (s.slotNow x).readsLink = true := Slot.readsLink_of_op (hop ▸ rfl)
    rw [aluShlc_eq, State.execIn_win hlink]; rfl
  case fshr =>
    refine .of_plain (fun y => ((y.b ++ y.a) >>> fld y.i 0 5).setWidth 32) (fun s x => ?_)
    rw [funnel_eq, fld_zero]; rfl
  case clz => exact .of_plain (fun y => BitVec.ofNat 32 (if y.a = 0 then 32 else 31 - y.a.toNat.log2)) (fun _ _ => rfl)

namespace Machine

/-! Sums, differences and the carry of bit 31. -/

theorem sumC_eq (a b : Word) (c : Bool) :
    sumC a b c = (a + b + BitVec.ofNat 32 (b2n c), decide (2 ^ 32 ≤ a.toNat + b.toNat + b2n c)) := by
  simp [sumC, BitVec.ofNat_add]

/-- A difference is the sum with the complement and the carry, R110's SUB and SBC. -/
theorem sumC_not (a b : Word) (c : Bool) :
    sumC a (~~~b) c = (a - b - 1 + BitVec.ofNat 32 (b2n c), decide (b.toNat + 1 ≤ a.toNat + b2n c)) := by
  have hb : (~~~b).toNat = 2 ^ 32 - 1 - b.toNat := BitVec.toNat_not
  have hlt := b.isLt
  have hc : (2 ^ 32 ≤ a.toNat + (~~~b).toNat + b2n c) ↔ b.toNat + 1 ≤ a.toNat + b2n c := by omega
  have hr : a + ~~~b = a - b - 1 := by rw [BitVec.not_eq_neg_add]; bv_omega
  rw [sumC_eq, hr, decide_eq_decide.mpr hc]

theorem aluAdd_eq (y : ExecIn) : aluAdd y = { plain (y.a + y.b) with c := decide (2 ^ 32 ≤ y.a.toNat + y.b.toNat) } := by
  have h : y.a + y.b + BitVec.ofNat 32 (b2n false) = y.a + y.b := BitVec.add_zero _
  rw [← h]
  unfold aluAdd
  rw [sumC_eq]; rfl

theorem aluAdc_eq (y : ExecIn) :
    aluAdc y =
      { plain (y.a + y.b + BitVec.ofNat 32 (b2n y.cin)) with
        c := decide (2 ^ 32 ≤ y.a.toNat + y.b.toNat + b2n y.cin)
        cp := some (decide (2 ^ 32 ≤ y.a.toNat + y.b.toNat + b2n y.cin)) } := by
  unfold aluAdc
  rw [sumC_eq]; rfl

theorem aluSub_eq (y : ExecIn) : aluSub y = { plain (y.a - y.b) with c := decide (y.b.toNat ≤ y.a.toNat) } := by
  have hr : y.a - y.b - 1 + BitVec.ofNat 32 (b2n true) = y.a - y.b := BitVec.sub_add_cancel _ _
  have hc : y.b.toNat + 1 ≤ y.a.toNat + b2n true ↔ y.b.toNat ≤ y.a.toNat := Nat.add_le_add_iff_right
  unfold aluSub
  rw [sumC_not, hr, decide_eq_decide.mpr hc]; rfl

theorem aluSbc_eq (y : ExecIn) :
    aluSbc y =
      { plain (y.a - y.b - 1 + BitVec.ofNat 32 (b2n y.cin)) with
        c := decide (y.b.toNat + 1 ≤ y.a.toNat + b2n y.cin)
        cp := some (decide (y.b.toNat + 1 ≤ y.a.toNat + b2n y.cin)) } := by
  unfold aluSbc
  rw [sumC_not]; rfl

theorem aluMulsh_eq (y : ExecIn) :
    aluMulsh y = plain (satS32 ((y.a.toInt * y.b.toInt +
      (if y.i.toNat / 64 % 2 = 1 ∧ 0 < y.i.toNat % 64 then (2 : Int) ^ (y.i.toNat % 64 - 1) else 0)) / 2 ^ (y.i.toNat % 64))) := by
  have hb : bit y.i 6 = decide (y.i.toNat / 64 % 2 = 1) := Nat.testBit_eq_decide_div_mod_eq
  unfold aluMulsh
  simp only [fld_zero, hb, Bool.and_eq_true, decide_eq_true_eq]
  rfl

theorem satAdd_word (a b : Word) :
    BitVec.ofNat 32 (satAdd 0xFFFFFFFF a.toNat b.toNat) = if a.toNat + b.toNat < 2 ^ 32 then a + b else 0xFFFFFFFF#32 := by
  have h : a.toNat + b.toNat ≤ 0xFFFFFFFF ↔ a.toNat + b.toNat < 2 ^ 32 := by omega
  unfold satAdd
  simp only [h]
  split
  · simp [BitVec.ofNat_add]
  · rfl

theorem satSub_word (a b : Word) : BitVec.ofNat 32 (a.toNat - b.toNat) = if b.toNat ≤ a.toNat then a - b else 0 := by
  split <;> bv_omega

theorem bit31_eq (a : Word) : bit a 31 = decide (a.toInt < 0) :=
  a.msb_eq_getLsbD_last.symm.trans a.msb_eq_toInt

end Machine

/-- Settles O9: SUB and SBC are the sum with the complement, ADC and SBC read the carry link by their opcode, and MULSH rounds the exact product
(log entry 148). -/
theorem arithmeticOpcodes : Obligations.ArithmeticOpcodes := by
  unfold Obligations.ArithmeticOpcodes
  refine ⟨⟨?add, ?adc, ?sub, ?sbc, ?neg, ?abs, ?adds, ?subs, ?addu, ?subu⟩, ?mul, ?mulh, ?mulhu, ?mulsh⟩
  case add =>
    refine .of_alu aluAdd (fun s x p fl _ => ?_)
    rw [aluAdd_eq]; rfl
  case adc =>
    refine .of_alu aluAdc (fun s x p fl hop => ?_)
    have hlink : (s.slotNow x).readsLink = true := Slot.readsLink_of_op (hop ▸ rfl)
    rw [aluAdc_eq, State.execIn_cin hlink]; rfl
  case sub =>
    refine .of_alu aluSub (fun s x p fl _ => ?_)
    rw [aluSub_eq]; rfl
  case sbc =>
    refine .of_alu aluSbc (fun s x p fl hop => ?_)
    have hlink : (s.slotNow x).readsLink = true := Slot.readsLink_of_op (hop ▸ rfl)
    rw [aluSbc_eq, State.execIn_cin hlink]; rfl
  case neg => exact .of_plain (fun y => 0 - y.a) (fun _ _ => rfl)
  case abs =>
    refine .of_plain (fun y => if y.a = 0x80000000#32 then 0x7FFFFFFF#32 else if bit y.a 31 then 0 - y.a else y.a) (fun s x => ?_)
    simp only [bit31_eq, decide_eq_true_eq]; rfl
  case adds => exact .of_plain (fun y => satS32 (y.a.toInt + y.b.toInt)) (fun _ _ => rfl)
  case subs => exact .of_plain (fun y => satS32 (y.a.toInt - y.b.toInt)) (fun _ _ => rfl)
  case addu => exact .of_plain (fun y => BitVec.ofNat 32 (satAdd 0xFFFFFFFF y.a.toNat y.b.toNat)) (fun _ _ => satAdd_word _ _)
  case subu => exact .of_plain (fun y => BitVec.ofNat 32 (y.a.toNat - y.b.toNat)) (fun _ _ => satSub_word _ _)
  case mul => exact .of_plain (fun y => y.a * y.b) (fun _ _ => rfl)
  case mulh => exact .of_plain (fun y => BitVec.ofInt 32 (y.a.toInt * y.b.toInt / 2 ^ 32)) (fun _ _ => rfl)
  case mulhu => exact .of_plain (fun y => BitVec.ofNat 32 (y.a.toNat * y.b.toNat / 2 ^ 32)) (fun _ _ => rfl)
  case mulsh =>
    refine .of_alu aluMulsh (fun s x p fl _ => ?_)
    rw [aluMulsh_eq]; rfl

end Sys2Proof
end

section
/-! The block as a whole: what every step is, answers and keeps, from the one law of exec (`exec_ev`), and the rule by which an `Ev` law gives the
frame `Only` a statement asks for. -/

namespace Sys2Proof

open Machine

/-- The mask of a list of fields. -/
def fieldMask (l : List Field) : Nat := l.foldr (fun f m => 2 ^ f.bit ||| m) 0

theorem Field.bit_injective : Function.Injective Field.bit :=
  Function.LeftInverse.injective (g := Field.ofNat) Field.ofNat_ctorIdx

theorem testBit_fieldMask {l : List Field} {f : Field} (hf : f ∉ l) : (fieldMask l).testBit f.bit = false := by
  induction l with
  | nil => exact Nat.zero_testBit _
  | cons g t ih =>
    rw [List.mem_cons, not_or] at hf
    obtain ⟨hg, ht⟩ := hf
    have hne : ¬ g.bit = f.bit := fun h => hg (Field.bit_injective h.symm)
    change (2 ^ g.bit ||| fieldMask t).testBit f.bit = false
    rw [Nat.testBit_or, ih ht, Bool.or_false, Nat.testBit_two_pow, decide_eq_false hne]

/-- What an operation's law allows, as the frame of a statement. -/
theorem Ev.only_mask {l : List Field} {s t : State} (h : Ev (fieldMask l) s t) : Only l s t :=
  h.only (fun _ hf => testBit_fieldMask hf)

theorem Only.refl (l : List Field) (s : State) : Only l s s := fun f _ => by cases f <;> rfl

theorem Only.trans {l : List Field} {s t u : State} (h : Only l s t) (k : Only l t u) : Only l s u := by
  intro f hf
  have a := h f hf
  have b := k f hf
  cases f <;> exact Eq.trans b a

theorem Only.mono {l k : List Field} {s t : State} (h : Only l s t) (hl : l ⊆ k) : Only k s t := fun f hf => h f (fun hm => hf (hl hm))

/-- The fields any command may write: all but the queue. -/
theorem execMask_pending : Nat.testBit 20282409603642447051910396510206 Field.pending.bit = false := rfl

theorem exec_answers (c : Instr) (s : State) : ∃ t, exec c s = .next t ∧ Ev 20282409603642447051910396510206 s t :=
  exec_ev c (Ev.refl _ s) (Sub.refl _)

/-- A step is an idling, or the front command run on the queue's rest. -/
theorem step_cases {s t : State} (h : step s = .next t) :
    t = s ∨ ∃ c q, s.pending = c :: q ∧ exec c { s with pending := q } = .next t := by
  unfold step at h
  split at h
  · exact .inl (by injection h with h; exact h.symm)
  · next c q hq => exact .inr ⟨c, q, hq, h⟩

/-- The law of a step: the stores keep their form and nothing irrevocable is undone. -/
theorem step_keeps {s t : State} (h : step s = .next t) : (Canonical s → Canonical t) ∧ Irrevocable s t := by
  rcases step_cases h with rfl | ⟨c, q, -, hc⟩
  · exact ⟨id, Irrevocable.refl _⟩
  · obtain ⟨u, hu, hev⟩ := exec_answers c { s with pending := q }
    obtain rfl : u = t := by rw [hc] at hu; injection hu with hu; exact hu.symm
    exact ⟨fun hs => hev.canon { hs with }, { hev.keeps with }⟩

/-- Settles O4: the law of exec, on the queue's rest. -/
theorem stepsKeepForm : Obligations.StepsKeepForm := by
  unfold Obligations.StepsKeepForm
  exact fun s t hs h => (step_keeps h).1 hs

/-- Settles O5: what `Irrevocable` says of a step. -/
theorem fusesStayBlown : Obligations.FusesStayBlown := by
  unfold Obligations.FusesStayBlown
  intro s t h
  obtain ⟨-, -, -, hsvn, htk, hprog, hown, hkey⟩ := (step_keeps h).2
  exact ⟨hsvn, htk, fun i => ⟨hprog i, hown i⟩, hkey⟩

/-- Settles O3: exec answers on every path, and the queue is no field it may write. -/
theorem commandsAnswer : Obligations.CommandsAnswer := by
  unfold Obligations.CommandsAnswer
  intro c s
  obtain ⟨t, ht, hev⟩ := exec_answers c s
  exact ⟨t, ht, hev.frame .pending execMask_pending⟩

/-- Settles O1: the two cases of a step. -/
theorem stepTakesTheFront : Obligations.StepTakesTheFront := by
  unfold Obligations.StepTakesTheFront step
  refine ⟨fun c q s h => ?_, fun s h => ?_⟩ <;> rw [h]

/-- Settles O2: an unlisted key reads as the default, and nothing is listed at reset. -/
theorem resetState : Obligations.ResetState := by
  unfold Obligations.ResetState
  refine ⟨?canonical, rfl, fun g => rfl, fun r => rfl, rfl, rfl, rfl⟩
  case canonical => constructor <;> rfl

/-- The rule of an opcode whose command is the cell's step with `f`, its sideband included. -/
theorem Steps.of_effect {op : Nat} {signed : Bool} {c : Fin 34816 → Check → Instr} {eff : State → Nat → Word → Word → Bool → Bool → CellEffect}
    (f : ExecIn → ExecRes)
    (heff : ∀ s x, s.stepEffect x (s.slotNow x) signed f =
      eff s x (opA s x signed) (opB s x signed) (poisonOf s x signed) (flagOf s x signed))
    (hc : ∀ x s, exec (c x .clean) s = .next (s.cellStep x.val .clean op signed f) := by intros; rfl) :
    Steps op signed c eff := by
  intro x s h
  refine ⟨_, hc x s, ?_⟩
  rw [State.cellStep_eq_perform h, ← heff]
  exact s.perform_stepped x (s.slotNow x) signed f

/-- R109: P of a selection is that of the operand taken, with CPP. -/
theorem State.stepEffect_sel (s : State) (x : Nat) :
    s.stepEffect x (s.slotNow x) true aluSel =
      .of (if (s.cell x).cp then opB s x true else opA s x true)
        ((s.opnd x (s.slotNow x) true (if (s.cell x).cp then (s.slotNow x).sb else (s.slotNow x).sa)).p || (s.cell x).cpp) (flagOf s x true) := by
  unfold State.stepEffect resultP opA opB flagOf State.execIn aluSel ExecRes.effect
  cases h : (s.cell x).cp <;> simp [CellEffect.of, plain]

/-- R116: the fields of an access word in place. -/
theorem accessWord_eq (op : Nat) (i : BitVec 16) (a : Word) :
    accessWord op i a = BitVec.ofNat 32 (op * 2 ^ 30 + i.toNat / 32 % 2 * 2 ^ 29 + i.toNat % 32 * 2 ^ 24 + a.toNat % 2 ^ 24) := by
  simp [accessWord, fld, Nat.shiftRight_eq_div_pow]

/-- Settles O11: SEL, PTST and FTST have a sideband of their own, and RD and WR form their access word by fields. -/
theorem moveAndPairOpcodes : Obligations.MoveAndPairOpcodes := by
  unfold Obligations.MoveAndPairOpcodes
  refine ⟨⟨?nop, ?mov, ?movh, ?sel, ?ptst, ?ftst⟩, ?rd, ?wr, ?mark⟩
  case nop => exact .of_alu aluNop (fun _ _ _ _ _ => rfl)
  case mov => exact .of_plain (fun y => y.a) (fun _ _ => rfl)
  case movh => exact .of_plain (fun y => (y.i.setWidth 32 <<< 16) ||| (y.a &&& 0xFFFF#32)) (fun _ _ => rfl)
  case sel => exact .of_effect aluSel (fun s x => State.stepEffect_sel s x)
  case ptst => exact .of_effect aluPtst (fun _ _ => rfl)
  case ftst => exact .of_effect aluFtst (fun _ _ => rfl)
  case rd =>
    refine .of_plain (fun y => accessWord 0 y.i y.a) (fun s x => ?_)
    rw [accessWord_eq]; rfl
  case wr =>
    refine .of_alu aluWr (fun s x p fl _ => ?_)
    unfold aluWr
    rw [accessWord_eq]; rfl
  case mark => exact .of_alu aluMark (fun _ _ _ _ _ => rfl)

/-! Session values (R428). -/

/-- The search for a session value ends at the first value of the ring that is free, or has tried `k` that are not. -/
theorem freshId_spec (used : List Nat) (k : Nat) {x : Nat} (hx : x < 65536) :
    (∃ j < k, freshId used k x = (x + j) % 65536 ∧ (x + j) % 65536 ≠ 0 ∧ (x + j) % 65536 ∉ used) ∨
    ∀ j < k, (x + j) % 65536 = 0 ∨ (x + j) % 65536 ∈ used := by
  induction k generalizing x with
  | zero => exact .inr (fun j hj => absurd hj (Nat.not_lt_zero j))
  | succ k ih =>
    have hx0 : (x + 0) % 65536 = x := Nat.mod_eq_of_lt hx
    by_cases hb : x = 0 ∨ x ∈ used
    · have hnext (j : Nat) : ((x + 1) % 65536 + j) % 65536 = (x + (j + 1)) % 65536 := by omega
      have hf : freshId used (k + 1) x = freshId used k ((x + 1) % 65536) := by simp [freshId, hb]
      rcases ih (x := (x + 1) % 65536) (Nat.mod_lt _ (by decide)) with ⟨j, hj, he⟩ | hall
      · rw [hnext] at he
        exact .inl ⟨j + 1, by omega, hf ▸ he⟩
      · refine .inr (fun j hj => ?_)
        cases j with
        | zero => rw [hx0]; exact hb
        | succ j => rw [← hnext]; exact hall j (by omega)
    · have hf : freshId used (k + 1) x = x := by simp [freshId, hb]
      obtain ⟨h0, hu⟩ := not_or.mp hb
      exact .inl ⟨0, by omega, by rw [hf, hx0], by rwa [hx0], by rwa [hx0]⟩

/-- Fewer than 65,535 used values leave one of the ring free. -/
theorem exists_free_value (used : List Nat) (x : Nat) (hu : used.length ≤ 65534) :
    ¬ ∀ j < 65536, (x + j) % 65536 = 0 ∨ (x + j) % 65536 ∈ used := by
  intro hall
  have hsub : Finset.range 65536 ⊆ (0 :: used).toFinset := by
    intro v hv
    have hv' : v < 65536 := Finset.mem_range.mp hv
    have hmod : (x + (v + (65536 - x % 65536)) % 65536) % 65536 = v := by omega
    have := hall ((v + (65536 - x % 65536)) % 65536) (Nat.mod_lt _ (by decide))
    rw [hmod] at this
    simpa using this
  have hcard := (Finset.card_le_card hsub).trans (List.toFinset_card_le _)
  rw [Finset.card_range, List.length_cons] at hcard
  omega

/-- Settles O59: the search cannot try every value of the ring in vain. -/
theorem sessionValuesFresh : Obligations.SessionValuesFresh := by
  unfold Obligations.SessionValuesFresh
  intro used x hu hx
  rcases freshId_spec used 65536 hx with ⟨j, -, he, h0, hmem⟩ | hall
  · dsimp only
    rw [he]
    exact ⟨h0, Nat.mod_lt _ (by decide), hmem⟩
  · exact absurd hall (exists_free_value used x hu)

/-! Packets (R422 to R424). -/

theorem leBytes_length (k x : Nat) : (leBytes k x).length = k := by
  induction k generalizing x with
  | zero => rfl
  | succ k ih => rw [leBytes, List.length_cons, ih]

theorem be_length (k x : Nat) : (be k x).length = k := by
  rw [be, beBytes, List.length_reverse, leBytes_length]

theorem ofLE_leBytes (k x : Nat) : ofLE (leBytes k x) = x % 256 ^ k := by
  induction k generalizing x with
  | zero => simp [leBytes, ofLE, Nat.mod_one]
  | succ k ih =>
    rw [leBytes, ofLE, ih, BitVec.toNat_ofNat, Nat.pow_succ' (m := 256), Nat.mod_mul]

/-- Bytes written big-endian read back as the number, modulo their range. -/
theorem ofBE_be (k x : Nat) : ofBE (be k x) = x % 256 ^ k := by
  rw [ofBE, be, beBytes, List.reverse_reverse, ofLE_leBytes]

/-- A field of a byte string, behind the bytes before it. -/
theorem beAt_append (a b c : List Byte) {off len : Nat} (ha : a.length = off) (hb : b.length = len) : beAt (a ++ (b ++ c)) off len = ofBE b := by
  subst ha hb
  simp [beAt, slice]

/-- R422: the bytes of a header that its CRC covers. -/
def hdrBytes (ver op flags : Nat) (seq : Word) (len sid : Nat) : List Byte :=
  [0x58#8, 0x4E#8] ++ (be 1 (ver / 256) ++ (be 1 (ver % 256) ++ (be 1 op ++ (be 1 flags ++ (be 4 seq.toNat ++ (be 2 len ++ be 2 sid))))))

theorem hdrBytes_length (ver op flags : Nat) (seq : Word) (len sid : Nat) : (hdrBytes ver op flags seq len sid).length = 14 := rfl

theorem mkPkt_eq (ver op flags : Nat) (seq : Word) (sid : Nat) (p : List Byte) :
    mkPkt ver op flags seq sid p =
      hdrBytes ver op flags seq p.length sid ++ (be 2 (crc16 (hdrBytes ver op flags seq p.length sid)).toNat ++ p) := by
  have hh : [0x58#8, 0x4E#8] ++ be 2 ver ++ be 1 op ++ be 1 flags ++ be 4 seq.toNat ++ be 2 p.length ++ be 2 sid =
      hdrBytes ver op flags seq p.length sid := by
    have hver : be 2 ver = be 1 (ver / 256) ++ be 1 (ver % 256) := by
      have hb : BitVec.ofNat 8 ver = BitVec.ofNat 8 (ver % 256) := BitVec.eq_of_toNat_eq (by simp)
      change [_, BitVec.ofNat 8 ver] = _
      rw [hb]; rfl
    rw [hver]; rfl
  unfold mkPkt
  rw [hh, List.append_assoc]

/-- A field of the header reads as the number written there, modulo its range: `a` the bytes before it, `c` those after. -/
theorem beAt_field {l : List Byte} {off len : Nat} (a : List Byte) (x : Nat) (c : List Byte) (hl : l = a ++ (be len x ++ c)) (ha : a.length = off) :
    beAt l off len = x % 256 ^ len := by
  rw [hl, beAt_append a _ c ha (be_length len x), ofBE_be]

/-- Settles O60: each field stands in the header at its place, and the CRC is over the bytes before it. -/
theorem packetsReadBack : Obligations.PacketsReadBack := by
  unfold Obligations.PacketsReadBack
  intro ver op flags sid seq p hver hop hflags hsid hp
  have hlen := hdrBytes_length ver op flags seq p.length sid
  have hcrc (h : List Byte) : (crc16 h).toNat % 256 ^ 2 = (crc16 h).toNat := Nat.mod_eq_of_lt (crc16 h).isLt
  have htake : (mkPkt ver op flags seq sid p).take 14 = hdrBytes ver op flags seq p.length sid := by
    rw [mkPkt_eq, List.take_left' hlen]
  have hdrop : (mkPkt ver op flags seq sid p).drop 16 = p := by
    rw [mkPkt_eq, ← List.append_assoc, List.drop_left' (by rw [List.length_append, hlen, be_length])]
  have hsum : beAt (mkPkt ver op flags seq sid p) 14 2 = (crc16 (hdrBytes ver op flags seq p.length sid)).toNat := by
    rw [beAt_field _ _ _ (mkPkt_eq ver op flags seq sid p) hlen, hcrc]
  have field {off len : Nat} (a : List Byte) (x : Nat) (c : List Byte) (hx : x < 256 ^ len) (ha : a.length = off)
      (h : hdrBytes ver op flags seq p.length sid = a ++ (be len x ++ c)) : beAt (mkPkt ver op flags seq sid p) off len = x := by
    rw [beAt_field a x (c ++ _) (by rw [mkPkt_eq, h, List.append_assoc, List.append_assoc]) ha, Nat.mod_eq_of_lt hx]
  have f1 := field (off := 2) (len := 1) [_, _] (ver / 256) _ (by omega : _ < 256 ^ 1) rfl rfl
  have f2 : beAt (mkPkt ver op flags seq sid p) 3 1 = ver % 256 := field [_, _, _] (ver % 256) _ (Nat.mod_lt _ (by decide)) rfl rfl
  have f3 := field (off := 4) (len := 1) [_, _, _, _] op _ (by omega : _ < 256 ^ 1) rfl rfl
  have f4 := field (off := 5) (len := 1) [_, _, _, _, _] flags _ (by omega : _ < 256 ^ 1) rfl rfl
  have f5 := field (off := 6) (len := 4) [_, _, _, _, _, _] seq.toNat _ (seq.isLt : _ < 256 ^ 4) rfl rfl
  have f6 := field (off := 10) (len := 2) [_, _, _, _, _, _, _, _, _, _] p.length _ (by omega : _ < 256 ^ 2) rfl rfl
  have f7 := field (off := 12) (len := 2) [_, _, _, _, _, _, _, _, _, _, _, _] sid [] (by omega : _ < 256 ^ 2) rfl (List.append_nil _).symm
  have hgood : ¬ ((mkPkt ver op flags seq sid p).length < 16 ∨ slice (mkPkt ver op flags seq sid p) 0 2 ≠ [0x58, 0x4E] ∨
      (crc16 ((mkPkt ver op flags seq sid p).take 14)).toNat ≠ beAt (mkPkt ver op flags seq sid p) 14 2) := by
    rw [htake, hsum]
    rintro (h | h | h)
    · rw [mkPkt_eq, List.length_append, List.length_append, hlen, be_length] at h; omega
    · exact h rfl
    · exact h rfl
  unfold parsePkt
  rw [if_neg hgood, hdrop, f1, f2, f3, f4, f5, f6, f7, BitVec.ofNat_toNat, BitVec.setWidth_eq]

end Sys2Proof
end

section
/-! Rules about the words of the statements: what a command does (`Does`), which registers are kept (`KeepRegs`), what a list of updates leaves
(`State.each`), and the addresses of registers of one block. -/

namespace Sys2Proof

open Machine

theorem Does.of_eq {c : Instr} {s t : State} {P : State → Prop} (h : exec c s = .next t) (hp : P t) : Does c s P := ⟨t, h, hp⟩

/-- The frame of a command from the law of its meaning. -/
theorem EvOut.only {l : List Field} {s t : State} {o : Out} (h : EvOut (fieldMask l) s o) (ho : o = .next t) : Only l s t := by
  obtain ⟨u, hu, hev⟩ := h
  rw [hu] at ho
  injection ho with ho
  exact ho ▸ hev.only_mask

theorem KeepRegs.refl (l : List Reg) (s : State) : KeepRegs l s s := fun _ _ => rfl

theorem KeepRegs.of_regs {l : List Reg} {s t : State} (h : t.regs = s.regs) : KeepRegs l s t := fun g _ => by
  unfold State.rget
  rw [h]

theorem KeepRegs.trans {l : List Reg} {s t u : State} (h : KeepRegs l s t) (k : KeepRegs l t u) : KeepRegs l s u :=
  fun g hg => (k g hg).trans (h g hg)

theorem KeepRegs.mono {l k : List Reg} {s t : State} (h : KeepRegs l s t) (hl : l ⊆ k) : KeepRegs k s t :=
  fun g hg => h g (fun x hx => hg x (hl hx))

/-- Registers kept up to a state stay kept when its registers' store is that of the next. -/
theorem KeepRegs.then_regs {l : List Reg} {s t u : State} (h : KeepRegs l s t) (hr : u.regs = t.regs) : KeepRegs l s u :=
  h.trans (.of_regs hr)

/-- A write to a listed register. -/
theorem KeepRegs.rput {l : List Reg} {s t : State} (h : KeepRegs l s t) {g : Reg} (v : RegVal) (hg : g ∈ l) : KeepRegs l s (t.rput g v) :=
  fun k hk => (State.rget_rput_ne _ _ _ _ (hk g hg)).trans (h k hk)

theorem KeepRegs.rsetf {l : List Reg} {s t : State} (h : KeepRegs l s t) {g : Reg} (lo len x : Nat) (hg : g ∈ l) : KeepRegs l s (t.rsetf g lo len x) :=
  h.rput _ hg

theorem KeepRegs.rsetb {l : List Reg} {s t : State} (h : KeepRegs l s t) {g : Reg} (i : Nat) (b : Bool) (hg : g ∈ l) : KeepRegs l s (t.rsetb g i b) :=
  h.rput _ hg

theorem KeepRegs.sticky {l : List Reg} {s t : State} (h : KeepRegs l s t) {g : Reg} (i : Nat) (hg : g ∈ l) : KeepRegs l s (t.sticky g i) :=
  h.rput _ hg

theorem KeepRegs.count {l : List Reg} {s t : State} (h : KeepRegs l s t) {g : Reg} (lo len n : Nat) (hg : g ∈ l) : KeepRegs l s (t.count g lo len n) :=
  h.rput _ hg

theorem KeepRegs.ite {l : List Reg} {s t u : State} {c : Prop} [Decidable c] (ht : KeepRegs l s t) (hu : KeepRegs l s u) :
    KeepRegs l s (if c then t else u) := by split <;> assumption

theorem KeepRegs.each {α : Type} {l : List Reg} {s t : State} {as : List α} {f : State → α → State} (h : KeepRegs l s t)
    (hf : ∀ u, ∀ a ∈ as, KeepRegs l s u → KeepRegs l s (f u a)) : KeepRegs l s (t.each as f) := by
  induction as generalizing t with
  | nil => exact h
  | cons a as ih => exact ih (hf t a List.mem_cons_self h) (fun u b hb => hf u b (List.mem_cons_of_mem _ hb))

namespace Machine

/-- What every update of a list leaves alone, the list leaves alone. -/
theorem State.each_inv {α β : Type} (φ : State → β) {f : State → α → State} (hf : ∀ s a, φ (f s a) = φ s) (s : State) (l : List α) :
    φ (s.each l f) = φ s := by
  induction l generalizing s with
  | nil => rfl
  | cons a l ih => exact (ih (f s a)).trans (hf s a)

/-- Updates of distinct keys: the part `get` that belongs to key `k` is updated once if `k` is in the list, by what it holds; `F` may depend on
what all updates leave alone. -/
theorem State.each_at {β γ : Type} (get : State → β) (φ : State → γ) (F : γ → β → β) {f : State → Nat → State} {l : List Nat} {k : Nat}
    (hφ : ∀ s, ∀ a ∈ l, φ (f s a) = φ s) (hself : ∀ s, k ∈ l → get (f s k) = F (φ s) (get s)) (hne : ∀ s, ∀ a ∈ l, a ≠ k → get (f s a) = get s)
    (s : State) (hl : l.Nodup) : get (s.each l f) = if k ∈ l then F (φ s) (get s) else get s := by
  induction l generalizing s with
  | nil => rfl
  | cons a l ih =>
    obtain ⟨ha, hl⟩ := List.nodup_cons.mp hl
    have h := ih (fun s b hb => hφ s b (List.mem_cons_of_mem _ hb)) (fun s hk => hself s (List.mem_cons_of_mem _ hk))
      (fun s b hb => hne s b (List.mem_cons_of_mem _ hb)) (f s a) hl
    rw [hφ s a List.mem_cons_self] at h
    refine h.trans ?_
    by_cases hka : a = k
    · subst hka; simp [ha, hself s List.mem_cons_self]
    · rw [hne s a List.mem_cons_self hka]; simp [Ne.symm hka]

end Machine

end Sys2Proof
end

section
/-! The Tally's lines (R50, R51, R65, R66): what a plain write, a field, an unlock and a new acquisition leave, and the statement of the line registers. -/

namespace Sys2Proof

open Machine

namespace Machine

/-! Plain writes (R10) and fields bit by bit (R4). -/

theorem bit_setWidth {n m : Nat} (v : BitVec n) (j : Nat) (hj : j < m) : bit (v.setWidth m) j = bit v j := by
  simp [bit, hj]

/-- Equal bits make equal fields. -/
theorem fld_congr {n m : Nat} {v : BitVec n} {w : BitVec m} {lo lo' len : Nat} (h : ∀ j < len, bit v (lo + j) = bit w (lo' + j)) :
    fld v lo len = fld w lo' len := by
  apply Nat.eq_of_testBit_eq
  intro j
  rw [testBit_fld, testBit_fld]
  by_cases hj : j < len
  · exact congrArg _ (h j hj)
  · simp [hj]

/-- R10: what a write of `v` by an accepted issuer makes of each bit. -/
theorem RegInfo.bit_write (i : RegInfo) (old v : RegVal) (j : Nat) :
    bit (i.write old v) j = ((if bit i.rw j then bit v j else bit old j) && !(bit i.w1c j && bit v j)) := by
  unfold RegInfo.write bit
  simp only [BitVec.getLsbD_and, BitVec.getLsbD_or, BitVec.getLsbD_not]
  by_cases hj : j < 64
  · cases i.rw.getLsbD j <;> simp [hj, Bool.or_comm]
  · simp [BitVec.getLsbD_of_ge _ j (Nat.le_of_not_lt hj)]

theorem State.writePlain_eq (s : State) {g : Reg} {i : RegInfo} (v : RegVal) (hi : g.info = some i) :
    s.writePlain g v = s.rput g (i.write (s.rget g) v) := by
  unfold State.writePlain
  rw [hi]

/-- A bit of a register's RW mask takes the value written. -/
theorem State.rb_writePlain_rw (s : State) {g : Reg} {i : RegInfo} (v : RegVal) {j : Nat} (hi : g.info = some i) (hrw : bit i.rw j = true)
    (hw1c : bit i.w1c j = false) : (s.writePlain g v).rb g j = bit v j := by
  rw [s.writePlain_eq v hi, State.rb_rput_same, RegInfo.bit_write, hrw, hw1c]
  simp

/-- A field of a register's RW mask takes the value written. -/
theorem State.rf_writePlain_rw (s : State) {g : Reg} {i : RegInfo} (v : RegVal) {lo len : Nat} (hi : g.info = some i)
    (hrw : ∀ j < len, bit i.rw (lo + j) = true) (hw1c : ∀ j < len, bit i.w1c (lo + j) = false) : (s.writePlain g v).rf g lo len = fld v lo len := by
  refine fld_congr (fun j hj => ?_)
  exact s.rb_writePlain_rw v hi (hrw j hj) (hw1c j hj)

theorem State.rget_writePlain_ne (s : State) {g h : Reg} (v : RegVal) (hne : h.addr ≠ g.addr) : (s.writePlain g v).rget h = s.rget h := by
  unfold State.writePlain
  split
  · exact State.rget_rput_ne _ _ _ _ hne
  · rfl

/-! Unlocking and acquiring (R50, R51). -/

/-- A line that has unlocked. -/
def TLine.unlocked (n : TLine) : TLine := { n with locked := false, inTol := 0, outTol := 0 }

/-- A line whose acquisition begins again. -/
def TLine.acquiring (n : TLine) : TLine :=
  { n.unlocked with acq := 0, valid := false, stillF := false, coast := false, edge := none, slewLeft := 0, misses := 0, meas := none }

theorem State.tline_setTline (s : State) (i k : Nat) (x : TLine) : (s.setTline i x).tline k = if k = i then x else s.tline k :=
  Store.get_put _ _ _ _ _

theorem State.tline_unlock (s : State) (l k : Nat) : (s.unlock l).tline k = if k = l then (s.tline k).unlocked else s.tline k := by
  have hs : (if (s.tline l).locked then s.sticky (plReg l 0x2C) 15 else s).tline k = s.tline k := by split <;> rfl
  refine (State.tline_setTline _ l k (s.tline l).unlocked).trans ?_
  rw [hs]
  split
  · next h => subst h; rfl
  · rfl

/-- R51: LOCKLOST is set of a line that was locked, and is the one register an unlock writes. -/
theorem State.rget_unlock (s : State) (l : Nat) (g : Reg) :
    (s.unlock l).rget g = (if (s.tline l).locked then s.sticky (plReg l 0x2C) 15 else s).rget g := by
  unfold State.unlock
  rfl

theorem State.keepRegs_unlock (s : State) (l : Nat) : KeepRegs [plReg l 0x2C] s (s.unlock l) := by
  intro g hg
  rw [State.rget_unlock]
  exact State.rget_stickyIf_ne s _ 15 (hg _ List.mem_cons_self)

theorem State.tline_acquire (s : State) (l k : Nat) : (s.acquire l).tline k = if k = l then (s.tline k).acquiring else s.tline k := by
  have hl : (s.unlock l).tline l = (s.tline l).unlocked := by rw [State.tline_unlock, if_pos rfl]
  unfold State.acquire
  dsimp only
  rw [hl]
  refine (State.tline_setTline _ l k (s.tline l).acquiring).trans ?_
  rw [State.tline_unlock]
  split
  · next h => subst h; rfl
  · rfl

theorem State.keepRegs_acquire (s : State) (l : Nat) : KeepRegs [plReg l 0x2C] s (s.acquire l) :=
  (s.keepRegs_unlock l).then_regs rfl

/-! Writes to a line's registers (R65, R66). -/

theorem State.guarded_mgmt {iss : Issuer} (h : mgmtIssuer iss = true) (s : State) (b : Blk) (i : Nat) (f : State → State) :
    s.guarded iss b i f = f s := by unfold State.guarded; rw [if_pos h]

theorem State.guarded_other {iss : Issuer} (h : mgmtIssuer iss = false) (s : State) (b : Blk) (i : Nat) (f : State → State) :
    s.guarded iss b i f = s.viol b i := by unfold State.guarded; rw [h]; rfl

/-- The registers after a write to CTL are those of the plain write. -/
theorem State.rget_plCtlWrite (s : State) (l : Nat) (v : Word) (g : Reg) :
    (s.plCtlWrite l v).rget g = (s.writePlain (plReg l 0) (v.setWidth 64)).rget g := by
  unfold State.plCtlWrite
  dsimp only
  split <;> rfl

theorem State.tline_plCtlWrite (s : State) (l : Nat) (v : Word) (k : Nat) :
    (s.plCtlWrite l v).tline k = if k = l then { s.tline k with commit := (s.tline l).commit || bit v 30 } else s.tline k := by
  have hw (k : Nat) : (s.writePlain (plReg l 0) (v.setWidth 64)).tline k = s.tline k := by
    rw [s.writePlain_eq _ rfl]; rfl
  unfold State.plCtlWrite
  dsimp only
  by_cases hb : bit v 30 = true
  · rw [if_pos hb, hb, Bool.or_true]
    split
    · next h => subst h; rw [State.tline_setTline_same, hw]
    · next h => rw [State.tline_setTline_ne _ _ _ _ h, hw]
  · rw [if_neg hb, hw, Bool.eq_false_of_not_eq_true hb, Bool.or_false]
    split
    · next h => subst h; rfl
    · rfl

theorem State.keepRegs_plCtlWrite (s : State) (l : Nat) (v : Word) : KeepRegs [plReg l 0] s (s.plCtlWrite l v) := by
  intro g hg
  rw [State.rget_plCtlWrite]
  exact s.rget_writePlain_ne _ (hg _ List.mem_cons_self)

/-- R65: CTL's masks. -/
theorem info_plCtl (l : Nat) : (plReg l 0).info = some { rw := 0x8FC00000, wo := 0x40000000, rst := 0x00400000 } := rfl

/-- The RW fields of CTL take the value written. -/
theorem State.rf_plCtlWrite (s : State) (l : Nat) (v : Word) {lo len : Nat} (hrw : ∀ j < len, bit (0x8FC00000 : RegVal) (lo + j) = true)
    (hlo : lo + len ≤ 64) : (s.plCtlWrite l v).rf (plReg l 0) lo len = fld v lo len := by
  unfold State.rf
  rw [State.rget_plCtlWrite]
  exact (s.rf_writePlain_rw _ (info_plCtl l) hrw (fun _ _ => BitVec.getLsbD_zero)).trans
    (fld_congr (fun j hj => bit_setWidth v _ (by omega)))

theorem State.rb_plCtlWrite (s : State) (l : Nat) (v : Word) {i : Nat} (hrw : bit (0x8FC00000 : RegVal) i = true) (hi : i < 64) :
    (s.plCtlWrite l v).rb (plReg l 0) i = bit v i := by
  unfold State.rb
  rw [State.rget_plCtlWrite]
  exact (s.rb_writePlain_rw _ (info_plCtl l) hrw BitVec.getLsbD_zero).trans (bit_setWidth v _ hi)

/-- R65: a bare COMMIT is written with the stored fields as they stand, and COMMIT. -/
theorem bit_commitWord (v : RegVal) {j : Nat} (hj : j < 32) :
    bit (BitVec.ofNat 32 (0x40000000 + (v &&& 0x8FC00000).toNat)) j = (decide (j = 30) || (bit v j && bit (0x8FC00000 : RegVal) j)) := by
  have hor : BitVec.ofNat 32 (0x40000000 + (v &&& 0x8FC00000).toNat) = 0x40000000#32 ||| (v.setWidth 32 &&& 0x8FC00000#32) := by
    have hd : 0x40000000#32 &&& (v.setWidth 32 &&& 0x8FC00000#32) = 0 := by
      rw [BitVec.and_comm (v.setWidth 32), ← BitVec.and_assoc]
      simp
    rw [← BitVec.add_eq_or_of_and_eq_zero _ _ hd]
    apply BitVec.eq_of_toNat_eq
    simp only [BitVec.toNat_ofNat, BitVec.toNat_add, BitVec.toNat_and, BitVec.toNat_setWidth]
    have hle : v.toNat &&& 0x8FC00000 = (v.toNat % 2 ^ 32) &&& 0x8FC00000 := by
      apply Nat.eq_of_testBit_eq
      intro i
      simp only [Nat.testBit_and, Nat.testBit_mod_two_pow]
      by_cases hi : i < 32
      · simp [hi]
      · have : Nat.testBit 0x8FC00000 i = false := Nat.testBit_lt_two_pow (lt_of_lt_of_le (by decide) (Nat.pow_le_pow_right (by decide) (Nat.le_of_not_lt hi)))
        simp [this]
    change (0x40000000 + (v.toNat &&& 0x8FC00000)) % 2 ^ 32 = _
    rw [hle]
  rw [hor]
  unfold bit
  rw [BitVec.getLsbD_or, BitVec.getLsbD_and, BitVec.getLsbD_setWidth]
  have h30 : (0x40000000#32).getLsbD j = decide (j = 30) := by
    interval_cases j <;> rfl
  have hmask : (0x8FC00000#32).getLsbD j = (0x8FC00000 : RegVal).getLsbD j := by
    interval_cases j <;> rfl
  rw [h30, hmask]
  simp [hj]

/-- R66: the line after a write to HOLD. -/
theorem State.tline_holdWrite (s : State) (l : Nat) (v : Word) (k : Nat) :
    (s.holdWrite l v).tline k =
      if k = l then { s.tline l with held := if bit v 0 then some ((s.tline l).held.getD (s.lineView l)) else none } else s.tline k := by
  refine (State.tline_setTline _ l k _).trans ?_
  rw [s.writePlain_eq _ rfl]; rfl

/-- R65: the line whose staged values have been applied. -/
def State.appliedLine (s : State) (l : Nat) : TLine :=
  let n := s.tline l
  { n with
    ctl := s.rget (plReg l 0), gain := s.rget (plReg l 4), lock := s.rget (plReg l 8), still := s.rget (plReg l 0xC)
    offs := s.rget (plReg l 0x10), slew := s.rget (plReg l 0x14), commit := false
    jump := n.jump || decide (s.rget (plReg l 0x10) ≠ n.offs)
    mcnt := if s.rf (plReg l 0) 24 4 = fld n.ctl 24 4 then n.mcnt else 0 }

/-- R65: an applied change of SRC or INV starts acquisition again. -/
def State.restarts (s : State) (l : Nat) : Prop :=
  s.rf (plReg l 0) 24 4 ≠ fld (s.tline l).ctl 24 4 ∨ s.rb (plReg l 0) 23 ≠ bit (s.tline l).ctl 23

theorem State.applyStaged_restarts {s : State} {l : Nat} (h : s.restarts l) : s.applyStaged l = (s.setTline l (s.appliedLine l)).acquire l :=
  if_pos h

theorem State.applyStaged_goesOn {s : State} {l : Nat} (h : ¬ s.restarts l) : s.applyStaged l = s.setTline l (s.appliedLine l) :=
  if_neg h

end Machine

/-- Settles O16: each write is its plain write, and a staged value reaches the running line in COMMIT_APPLY alone. -/
theorem tallyLineRegisters : Obligations.TallyLineRegisters := by
  unfold Obligations.TallyLineRegisters
  refine ⟨?enable, ?commit, ?apply, ?hold, ?other⟩
  case enable =>
    intro iss l v s hiss
    have ho : Only [.regs, .tlines] s (s.plCtlWrite l v) := (State.plCtlWrite_ev _ _ (Ev.refl _ s) (by rfl)).only_mask
    refine .of_eq (congrArg Host.Outcome.next (s.guarded_mgmt hiss _ _ _)) ⟨?_, ?_, ?_, ?_, ?_, ?_, ho⟩
    · exact s.rb_plCtlWrite l v rfl (by decide)
    · exact s.rf_plCtlWrite l v (by decide) (by decide)
    · exact s.rb_plCtlWrite l v rfl (by decide)
    · exact s.rb_plCtlWrite l v rfl (by decide)
    · exact s.tline_plCtlWrite l v
    · exact s.keepRegs_plCtlWrite l v
  case commit =>
    intro iss l s hiss
    have hbit {j : Nat} (hj : j < 32) (hm : bit (0x8FC00000 : RegVal) j = true) (h30 : j ≠ 30) :=
      (bit_commitWord (s.rget (plReg l 0)) hj).trans (by rw [hm, Bool.and_true, decide_eq_false h30, Bool.false_or])
    have h30 := bit_commitWord (s.rget (plReg l 0)) (j := 30) (by decide)
    refine .of_eq (congrArg Host.Outcome.next (s.guarded_mgmt hiss _ _ _)) ⟨fun k => ?_, s.keepRegs_plCtlWrite l _, ?_, ?_, ?_⟩
    · rw [State.tline_plCtlWrite, h30, decide_eq_true rfl, Bool.true_or, Bool.or_true]
    · refine (s.rf_plCtlWrite l _ (by decide) (by decide)).trans (fld_congr (fun j hj => ?_))
      have hm : bit (0x8FC00000 : RegVal) (22 + j) = true := by interval_cases j <;> rfl
      exact hbit (by omega) hm (by omega)
    · exact (s.rb_plCtlWrite l _ rfl (by decide)).trans (hbit (by decide) rfl (by decide))
    · exact (State.plCtlWrite_ev _ _ (Ev.refl _ s) (by rfl)).only_mask
  case apply =>
    intro l s
    refine ⟨fun h => ?_, fun hrun hcommit => ?_⟩
    · exact if_neg (by rcases h with h | h <;> simp [State.tallyRuns, h])
    · have ho : Only [.regs, .tlines] s (s.applyStaged l) := (State.applyStaged_ev _ (Ev.refl _ s) (by rfl)).only_mask
      refine .of_eq (if_pos (by simp [State.tallyRuns, hrun, hcommit])) ?_
      have hset := s.tline_setTline_same l (s.appliedLine l)
      have hne {k : Nat} (hk : k ≠ l) := s.tline_setTline_ne l k (s.appliedLine l) hk
      by_cases hr : s.restarts l
      · rw [State.applyStaged_restarts hr] at ho ⊢
        have hl : ((s.setTline l (s.appliedLine l)).acquire l).tline l = (s.appliedLine l).acquiring := by
          rw [State.tline_acquire, if_pos rfl, hset]
        refine ⟨?_, ?_, ?_, ?_, ?_, ?_, ?_, ?_, ?_, ?_, fun hoffs => ?_, fun _ => ⟨?_, ?_, ?_⟩, fun h => absurd hr h, fun k hk => ?_, ?_, ho⟩
        iterate 10 rw [hl]; rfl
        · rw [hl]; simp [TLine.acquiring, TLine.unlocked, State.appliedLine, Ne.symm hoffs]
        iterate 3 rw [hl]; rfl
        · rw [State.tline_acquire, if_neg hk, hne hk]
        · exact (KeepRegs.of_regs rfl).trans (State.keepRegs_acquire _ l)
      · rw [State.applyStaged_goesOn hr] at ho ⊢
        refine ⟨?_, ?_, ?_, ?_, ?_, ?_, ?_, ?_, ?_, ?_, fun hoffs => ?_, fun h => absurd h hr, fun _ => ⟨?_, ?_, ?_, .of_regs rfl⟩, fun k hk => hne hk,
          .of_regs rfl, ho⟩
        iterate 10 rw [hset]; rfl
        · rw [hset]; simp [State.appliedLine, Ne.symm hoffs]
        iterate 3 rw [hset]; rfl
  case hold =>
    intro iss l v s hiss
    have hl := s.tline_holdWrite l v l
    rw [if_pos rfl] at hl
    have hreg (g : Reg) : (s.holdWrite l v).rget g = (s.writePlain (plReg l 0x30) (v.setWidth 64)).rget g := rfl
    have hshown : (s.holdWrite l v).lineShown l = ((s.holdWrite l v).tline l).held.getD ((s.holdWrite l v).lineView l) := rfl
    refine .of_eq (congrArg Host.Outcome.next (s.guarded_mgmt hiss _ _ _))
      ⟨fun hv => ?_, fun hv hh => ?_, fun x hv hh => ?_, ?_, fun k hk => ?_, ?_, fun g hg => ?_, ?_⟩
    · rw [hl, hv]; rfl
    · rw [hshown, hl, hv, hh]; rfl
    · rw [hshown, hl, hv, hh]; rfl
    · exact (s.rb_writePlain_rw (g := plReg l 0x30) _ rfl rfl rfl).trans (bit_setWidth v _ (by decide))
    · rw [State.tline_holdWrite, if_neg hk]
    · rw [hl]
    · rw [hreg]; exact s.rget_writePlain_ne _ (hg _ List.mem_cons_self)
    · exact (State.holdWrite_ev _ _ (Ev.refl _ s) (by rfl)).only_mask
  case other =>
    intro iss s hiss
    refine ⟨fun p off v => ?_, fun v => ?_, ?_, fun l v => ?_, fun l => ?_, fun l v => ?_⟩
    all_goals exact congrArg Host.Outcome.next (s.guarded_other hiss _ _ _)

end Sys2Proof
end

section
/-! The Tally's sampled sources (R35, R40, R42, R45) and its port registers. -/

namespace Sys2Proof

open Machine

/-- A state that lists, at port 0's COND register, the register's own Reset value; its port 0 is enabled. -/
def condListed : State := { regs := [(0x20020100, 0x80000000), (0x20020104, 0x00010000)] }

/-- Refutes O15: a write of COND that would change no field is taken, and storing its Reset value takes the listed entry out. The reserved register
⟨tly, 0, 0x104⟩ lies at the same address and has another Reset value, so it reads 0x10000 before and 0 after: a register outside the listed ones has
changed (`KeepRegs` asks for every `Reg` by its address). -/
theorem not_tallyPortRegisters : ¬ Obligations.TallyPortRegisters := by
  unfold Obligations.TallyPortRegisters
  rintro ⟨-, hon, -⟩
  have hen : condListed.piEn (0 : Fin 16) = true := by decide
  obtain ⟨t, ht, hkeep, -, -⟩ := hon .ixz 0 1 0x00010000 condListed rfl hen (by decide)
  have hexec : exec (.tlyPortCfgWrite .ixz 0 1 0x00010000) condListed = .next (condListed.piWrite 0 4 0x00010000) := rfl
  obtain rfl : condListed.piWrite 0 4 0x00010000 = t := by rw [hexec] at ht; injection ht
  have hread := hkeep ⟨.tly, 0, 0x104⟩ (by decide)
  exact absurd hread (by decide)

namespace Machine

/-! Measurements (R39, R40, R49). -/

theorem portDen_eq (s : State) (p : Nat) : portDen s p = s.piDen p := by
  unfold portDen State.piDen atLeast1
  dsimp only
  split <;> rfl

theorem portNum_eq (s : State) (p : Nat) : portNum s p = s.piNum p := rfl

theorem State.piDen_pos (s : State) (p : Nat) : 0 < s.piDen p := by
  unfold State.piDen atLeast1
  split <;> omega

/-- Log entry 12: an open rounding is one of the two neighbours. -/
theorem roundOpen_near (x : Int) {d : Nat} (hd : 0 < d) : (roundOpen x d * d - x).natAbs < d := by
  have hpos : 0 < (d : Int) := by omega
  have hdm := Int.mul_ediv_add_emod x d
  have h0 := Int.emod_nonneg x hpos.ne'
  have h1 := Int.emod_lt_of_pos x hpos
  have hc : x / (d : Int) * d = d * (x / d) := Int.mul_comm _ _
  unfold roundOpen
  split
  · next hz => rw [hc]; omega
  · split
    · rw [Int.add_mul, hc]; omega
    · rw [hc]; omega

/-- R8: a half-range difference lies in the half range and differs from `d` by whole turns. -/
theorem halfRange32 (d : Int) : -(2 ^ 31) ≤ halfRange 32 d ∧ halfRange 32 d < 2 ^ 31 ∧ (halfRange 32 d - d) % 2 ^ 32 = 0 := by
  unfold halfRange
  dsimp only
  split <;> omega

theorem State.mem_linesOf (s : State) (p l : Nat) : l ∈ s.linesOf p ↔ l < 8 ∧ (s.tline l).run = true ∧ fld (s.tline l).ctl 24 4 = p := by
  simp [State.linesOf]

theorem State.linesOf_nodup (s : State) (p : Nat) : (s.linesOf p).Nodup := List.nodup_range.filter _

/-- R49: a delivery is the latest measurement of each line of the port. -/
theorem State.tline_deliver (s : State) (p : Nat) (m : Meas) (l : Nat) :
    (s.deliver p m).tline l = if l ∈ s.linesOf p then { s.tline l with meas := some m } else s.tline l := by
  refine State.each_at (fun s => s.tline l) (fun _ => ()) (fun _ n => { n with meas := some m }) (fun _ _ _ => rfl) (fun s _ => ?_)
    (fun s a _ ha => ?_) s (s.linesOf_nodup p)
  · exact State.tline_setTline_same _ _ _
  · exact State.tline_setTline_ne _ _ _ _ (Ne.symm ha)

theorem State.tport_deliver (s : State) (p : Nat) (m : Meas) (q : Nat) : (s.deliver p m).tport q = s.tport q :=
  State.each_inv (f := fun s l => s.setTline l { s.tline l with meas := some m }) (fun s => s.tport q) (fun _ _ => rfl) s _

theorem State.regs_deliver (s : State) (p : Nat) (m : Meas) : (s.deliver p m).regs = s.regs :=
  State.each_inv (f := fun s l => s.setTline l { s.tline l with meas := some m }) State.regs (fun _ _ => rfl) s _

/-- R40: the phase word a sample of `raw` gives port p. -/
def State.sampleWord (s : State) (p : Nat) (raw : Word) : Int :=
  let short : Int := roundOpen ((raw.toNat : Int) * s.piNum p) (s.piDen p) % 2 ^ 32
  if (s.tport p).first then short else (s.tport p).word + halfRange 32 (short - (s.tport p).word)

theorem State.sample_eq (s : State) (p : Nat) (raw : Word) (ts : Int) :
    s.sample p raw ts = (s.setTport p { s.tport p with word := s.sampleWord p raw, first := false }).deliver p
      ⟨s.sampleWord p raw * 65536, ts, false, (s.tport p).first || decide (s.sampleWord p raw ≠ (s.tport p).word)⟩ := rfl

theorem State.tport_setTport (s : State) (i k : Nat) (x : TPort) : (s.setTport i x).tport k = if k = i then x else s.tport k :=
  Store.get_put _ _ _ _ _

theorem State.tport_sample (s : State) (p : Nat) (raw : Word) (ts : Int) (q : Nat) :
    (s.sample p raw ts).tport q = if q = p then { s.tport p with word := s.sampleWord p raw, first := false } else s.tport q := by
  rw [State.sample_eq, State.tport_deliver, State.tport_setTport]

theorem State.regs_sample (s : State) (p : Nat) (raw : Word) (ts : Int) : (s.sample p raw ts).regs = s.regs := by
  rw [State.sample_eq, State.regs_deliver]; rfl

/-- R40, in the words of the statement; `u` is `s` after changes to the port that leave its word. -/
theorem State.sample_sampled {s u : State} {p : Nat} (raw : Word) (ts : Int) (hregs : u.regs = s.regs) (hlines : u.tlines = s.tlines)
    (hfirst : (u.tport p).first = (s.tport p).first) (hword : (u.tport p).word = (s.tport p).word) :
    Sampled s (u.sample p raw ts) p raw ts := by
  have hnum : u.piNum p = s.piNum p := by unfold State.piNum State.rf State.rget; rw [hregs]
  have hden : u.piDen p = s.piDen p := by unfold State.piDen State.rf State.rget; rw [hregs]
  have hline (l : Nat) : u.tline l = s.tline l := by unfold State.tline; rw [hlines]
  have hnear := roundOpen_near ((raw.toNat : Int) * s.piNum p) (s.piDen_pos p)
  refine ⟨u.sampleWord p raw, roundOpen ((raw.toNat : Int) * s.piNum p) (s.piDen p), ?_, ?_, ?_, ?_, ?_, fun l => ?_⟩
  · rw [portDen_eq, portNum_eq]; exact hnear
  · unfold State.sampleWord
    rw [hnum, hden]
    have hh := halfRange32 (roundOpen ((raw.toNat : Int) * s.piNum p) (s.piDen p) % 2 ^ 32 - (u.tport p).word)
    dsimp only
    split <;> omega
  · unfold State.sampleWord
    rw [hnum, hden, hfirst, hword]
    have hh := halfRange32 (roundOpen ((raw.toNat : Int) * s.piNum p) (s.piDen p) % 2 ^ 32 - (s.tport p).word)
    dsimp only
    split <;> omega
  · rw [State.tport_sample, if_pos rfl]
  · rw [State.tport_sample, if_pos rfl]
  · rw [State.sample_eq, State.tline_deliver]
    have hmem : l ∈ (u.setTport p { u.tport p with word := u.sampleWord p raw, first := false }).linesOf p ↔
        l < 8 ∧ (s.tline l).run = true ∧ fld (s.tline l).ctl 24 4 = p := by
      rw [State.mem_linesOf]; exact hline l ▸ Iff.rfl
    have hl : (u.setTport p { u.tport p with word := u.sampleWord p raw, first := false }).tline l = s.tline l := hline l
    rw [if_congr hmem rfl rfl, hl, hfirst, hword]

/-! Gray code (R42). -/

/-- A word with itself shifted. -/
def shiftXor (k : Nat) (v : Word) : Word := v ^^^ (v >>> k)

theorem shiftXor_comm (j k : Nat) (v : Word) : shiftXor j (shiftXor k v) = shiftXor k (shiftXor j v) := by
  unfold shiftXor
  ext i
  simp only [BitVec.getElem_xor, BitVec.getElem_ushiftRight, BitVec.getLsbD_xor, BitVec.getLsbD_ushiftRight]
  rw [Nat.add_left_comm]
  cases v[i] <;> cases v.getLsbD (k + i) <;> cases v.getLsbD (j + i) <;> simp

theorem shiftXor_self {k m : Nat} (hm : m = 2 * k) (v : Word) : shiftXor k (shiftXor k v) = shiftXor m v := by
  subst hm
  unfold shiftXor
  ext i
  simp only [BitVec.getElem_xor, BitVec.getElem_ushiftRight, BitVec.getLsbD_xor, BitVec.getLsbD_ushiftRight]
  rw [← Nat.add_assoc, ← Nat.two_mul]
  cases v[i] <;> cases v.getLsbD (k + i) <;> simp

theorem shiftXor_lt {v : Word} {n : Nat} (k : Nat) (h : v.toNat < 2 ^ n) : (shiftXor k v).toNat < 2 ^ n := by
  unfold shiftXor
  rw [BitVec.toNat_xor, BitVec.toNat_ushiftRight]
  exact Nat.xor_lt_two_pow h (lt_of_le_of_lt (Nat.shiftRight_le _ _) h)

theorem grayDecode_eq (v : Word) : grayDecode v = shiftXor 16 (shiftXor 8 (shiftXor 4 (shiftXor 2 (shiftXor 1 v)))) := rfl

/-- The decoding undoes the coding: each doubling of the shift squares, and a shift by 32 is none. -/
theorem shiftXor_grayDecode (v : Word) : shiftXor 1 (grayDecode v) = v := by
  have h32 : shiftXor 32 v = v := by
    unfold shiftXor
    rw [BitVec.ushiftRight_eq_zero (by decide), BitVec.xor_zero]
  rw [grayDecode_eq, shiftXor_comm 1 16, shiftXor_comm 1 8, shiftXor_comm 1 4, shiftXor_comm 1 2, shiftXor_self (m := 2) rfl,
    shiftXor_self (m := 4) rfl, shiftXor_self (m := 8) rfl, shiftXor_self (m := 16) rfl, shiftXor_self (m := 32) rfl, h32]

theorem grayDecode_lt {v : Word} {n : Nat} (h : v.toNat < 2 ^ n) : (grayDecode v).toNat < 2 ^ n :=
  shiftXor_lt _ (shiftXor_lt _ (shiftXor_lt _ (shiftXor_lt _ (shiftXor_lt _ h))))

/-! The SSI clock (R35) and the pins' levels (R41). -/

theorem bit_piLevels (s : State) (p : Nat) (x : BitVec 4) {k : Nat} (hk : k < 4) :
    bit (s.piLevels p x) k = (bit x k != s.rb (piReg p 0) (16 + k)) := by
  have hpol : (BitVec.ofNat 4 (s.rf (piReg p 0) 16 4)).getLsbD k = s.rb (piReg p 0) (16 + k) := by
    rw [BitVec.getLsbD_ofNat, State.rf, testBit_fld]
    simp [hk, State.rb, bit]
  unfold State.piLevels bit
  rw [BitVec.getLsbD_xor, hpol]

theorem bit_setBit (v : BitVec 4) (i k : Nat) (b : Bool) (hi : i < 4) : bit (setBit v i b) k = if k = i then b else bit v k := by
  split
  · next h => subst h; exact bit_setBit_self _ _ _ hi
  · next h => exact bit_setBit_ne _ _ _ _ h

/-- R35: the port's own level on pin 0 reads as driven; the other pins keep theirs. -/
theorem bit_piLevels_clock (s t : State) (p : Nat) (x : BitVec 4) (high : Bool) {k : Nat} (hk : k < 4) (hr : t.rget (piReg p 0) = s.rget (piReg p 0)) :
    bit (s.piLevels p (setBit x 0 (high != t.rb (piReg p 0) 16))) k = if k = 0 then high else bit (s.piLevels p x) k := by
  have hrb : t.rb (piReg p 0) 16 = s.rb (piReg p 0) 16 := by unfold State.rb; rw [hr]
  rw [bit_piLevels _ _ _ hk, bit_piLevels _ _ _ hk, bit_setBit _ _ _ _ (by decide), hrb]
  split
  · next h => subst h; cases high <;> cases s.rb (piReg p 0) 16 <;> rfl
  · rfl

/-- R42: the frame lengths an SSI port samples with. -/
theorem State.ssiBits_eq (s : State) (p : Nat) :
    s.ssiBits p = if 8 ≤ s.rf (piReg p 0x10) 0 6 ∧ s.rf (piReg p 0x10) 0 6 ≤ 32 then some (s.rf (piReg p 0x10) 0 6) else none := rfl

/-- The port after a burst begins. -/
def State.burstPort (s : State) (p ts : Nat) (high : Bool) : TPort :=
  { s.tport p with lv := setBit (s.tport p).lv 0 (false != s.rb (piReg p 0) 16), burst := some ((ts : Int) - s.rf (piReg p 0x14) 0 16), low := !high }

/-- The port after a burst's frame. -/
def State.idlePort (s : State) (p : Nat) : TPort :=
  { s.tport p with lv := setBit (s.tport p).lv 0 (true != s.rb (piReg p 0) 16), burst := none, low := false }

theorem State.setTport_setTport (s : State) (p : Nat) (x y : TPort) (q : Nat) :
    ((s.setTport p x).setTport p y).tport q = (s.setTport p y).tport q := by
  rw [State.tport_setTport, State.tport_setTport, State.tport_setTport]
  split <;> rfl

end Machine


theorem exec_ssiRequest {p : Fin 16} {ts : Nat} {high : Bool} {s : State} (hrun : s.rb tlyStat 0 = true) (hact : s.piActive p = true)
    (htype : s.piType p = 5) (h8 : 8 ≤ s.rf (piReg p 0x10) 0 6) (h32 : s.rf (piReg p 0x10) 0 6 ≤ 32) :
    ∃ u : State, (∀ q, u.tport q = if q = p.val then s.burstPort p ts high else s.tport q) ∧ u.regs = s.regs ∧
      exec (.ssiRequest p ts high) s = .next (if high then u else u.sticky (piReg p 0x24) 9) := by
  have hlat : s.piLat p = s.rf (piReg p 0x14) 0 16 := by unfold State.piLat; rw [htype]; rfl
  have hport : (s.ssiClock p false).tport p = { s.tport p with lv := setBit (s.tport p).lv 0 (false != s.rb (piReg p 0) 16) } :=
    s.tport_setTport_same _ _
  refine ⟨(s.ssiClock p false).setTport p (s.burstPort p ts high), fun q => ?_, rfl, ?_⟩
  · unfold State.ssiClock
    rw [State.setTport_setTport, State.tport_setTport]
  · have hc : (s.tallyRuns && s.piDrives p && (s.ssiBits p).isSome) = true := by
      simp [State.tallyRuns, State.piDrives, hrun, hact, htype, State.ssiBits_eq, h8, h32]
    refine (if_pos hc).trans ?_
    rw [hport, hlat]
    cases high <;> rfl

/-- R42: the value of a frame of port p, after any conversion from Gray code. -/
def frameValue (s : State) (p : Nat) (bits : Word) : Word :=
  let v := bits &&& BitVec.ofNat 32 (2 ^ s.rf (piReg p 0x10) 0 6 - 1)
  if s.rb (piReg p 0x10) 7 then grayDecode v else v

theorem toNat_lowBits (bits : Word) {n : Nat} (hn : n ≤ 32) : (bits &&& BitVec.ofNat 32 (2 ^ n - 1)).toNat = bits.toNat % 2 ^ n := by
  have hpow : 2 ^ n ≤ 2 ^ 32 := Nat.pow_le_pow_right (by decide) hn
  have hpos := Nat.two_pow_pos n
  rw [BitVec.toNat_and, BitVec.toNat_ofNat, Nat.mod_eq_of_lt (by omega), Nat.and_two_pow_sub_one_eq_mod]

theorem frameValue_lt (s : State) (p : Nat) (bits : Word) (hn : s.rf (piReg p 0x10) 0 6 ≤ 32) :
    (frameValue s p bits).toNat < 2 ^ s.rf (piReg p 0x10) 0 6 := by
  have hlow : (bits &&& BitVec.ofNat 32 (2 ^ s.rf (piReg p 0x10) 0 6 - 1)).toNat < 2 ^ s.rf (piReg p 0x10) 0 6 := by
    rw [toNat_lowBits bits hn]; exact Nat.mod_lt _ (Nat.two_pow_pos _)
  unfold frameValue
  dsimp only
  split
  · exact grayDecode_lt hlow
  · exact hlow

/-- R42: coding the value again gives the frame's bits. -/
theorem frameValue_coded (s : State) (p : Nat) (bits : Word) (hn : s.rf (piReg p 0x10) 0 6 ≤ 32) :
    (if s.rb (piReg p 0x10) 7 then frameValue s p bits ^^^ (frameValue s p bits >>> 1) else frameValue s p bits).toNat =
      bits.toNat % 2 ^ s.rf (piReg p 0x10) 0 6 := by
  rw [← toNat_lowBits bits hn]
  unfold frameValue
  dsimp only
  split
  · exact congrArg BitVec.toNat (shiftXor_grayDecode _)
  · rfl

theorem exec_ssiFrame {p : Fin 16} {bits : Word} {back : Bool} {s : State} {ts : Int} (hrun : s.rb tlyStat 0 = true) (hact : s.piActive p = true)
    (htype : s.piType p = 5) (h8 : 8 ≤ s.rf (piReg p 0x10) 0 6) (h32 : s.rf (piReg p 0x10) 0 6 ≤ 32) (hburst : (s.tport p).burst = some ts) :
    ∃ u : State, (∀ q, u.tport q = if q = p.val then s.idlePort p else s.tport q) ∧ u.regs = s.regs ∧ u.tlines = s.tlines ∧
      exec (.ssiFrame p bits back) s = .next (if (s.tport p).low then u else if back = false then u.sticky (piReg p 0x24) 9
        else (u.setTport p { u.tport p with count := frameValue s p bits }).sample p (frameValue s p bits) ts) := by
  have hport : (s.ssiClock p true).tport p = { s.tport p with lv := setBit (s.tport p).lv 0 (true != s.rb (piReg p 0) 16) } :=
    s.tport_setTport_same _ _
  refine ⟨(s.ssiClock p true).setTport p (s.idlePort p), fun q => ?_, rfl, rfl, ?_⟩
  · unfold State.ssiClock
    rw [State.setTport_setTport, State.tport_setTport]
  · have hbits : s.ssiBits p = some (s.rf (piReg p 0x10) 0 6) := by rw [State.ssiBits_eq, if_pos ⟨h8, h32⟩]
    have hc : (!s.tallyRuns || !s.piDrives p) = false := by simp [State.tallyRuns, State.piDrives, hrun, hact, htype]
    change execSsiFrame p bits back s = _
    unfold execSsiFrame
    simp only [hburst, hbits, hc, hport]
    cases (s.tport p).low <;> cases back <;> rfl

/-- Settles O14: the SSI clock is the port's own level on pin 0, a sample's word lies within half a turn of the last, and the Gray decoding undoes
the coding. -/
theorem sampledSources : Obligations.SampledSources := by
  unfold Obligations.SampledSources
  refine ⟨?request, ?frame, ?stream⟩
  case request =>
    intro p ts high s
    refine ⟨fun hno => ?_, fun ⟨hrun, hact, htype, h8, h32⟩ => ?_⟩
    · refine if_neg (fun hc => hno ?_)
      simpa [State.tallyRuns, State.piDrives, State.ssiBits_eq, and_assoc] using hc
    · obtain ⟨u, hport, hregs, hexec⟩ := exec_ssiRequest (ts := ts) (high := high) hrun hact htype h8 h32
      have ho := (execSsiRequest_ev p ts high (Ev.refl (fieldMask [.tports, .regs]) s) (by rfl)).only hexec
      have hself := (hport p).trans (if_pos rfl)
      have hrget (g : Reg) : u.rget g = s.rget g := by unfold State.rget; rw [hregs]
      have hportu (q : Nat) : (if high then u else u.sticky (piReg p 0x24) 9).tport q = u.tport q := by cases high <;> rfl
      have hrb (b : Nat) : (if high then u else u.sticky (piReg p 0x24) 9).rb (piReg p 0x24) b = (s.rb (piReg p 0x24) b || (!high && decide (b = 9))) := by
        have hu : u.rb (piReg p 0x24) b = s.rb (piReg p 0x24) b := by unfold State.rb; rw [hrget]
        have h := u.rb_stickyIf (!high) (piReg p 0x24) b (i := 9) (by decide)
        rw [hu] at h
        cases high <;> exact h
      refine .of_eq hexec ⟨?_, fun k hk => ?_, fun q hq => ?_, ?_, fun b hb => ?_, fun g hg => ?_, ho⟩
      · rw [hportu, hself]; rfl
      · rw [hportu, hself]
        refine (bit_piLevels_clock s s p (s.tport p).lv false hk rfl).trans ?_
        by_cases h0 : k = 0 <;> simp [h0]
      · rw [hportu, hport, if_neg hq]
      · rw [hrb]; simp
      · rw [hrb]; simp [hb]
      · have hne := hg _ List.mem_cons_self
        rw [← hrget]
        cases high
        · exact State.rget_sticky_ne _ _ _ _ hne
        · rfl
  case frame =>
    intro p bits back s ts
    refine ⟨fun hno => ?_, fun ⟨hrun, hact, htype, h8, h32, hburst⟩ => ?_⟩
    · unfold exec execSsiFrame
      simp only [hno]
    · obtain ⟨u, hport, hregs, hlines, hexec⟩ := exec_ssiFrame (bits := bits) (back := back) hrun hact htype h8 h32 hburst
      have ho := (execSsiFrame_ev p bits back (Ev.refl (fieldMask [.tports, .tlines, .regs]) s) (by rfl)).only hexec
      have hself := (hport p).trans (if_pos rfl)
      have hrget (g : Reg) : u.rget g = s.rget g := by unfold State.rget; rw [hregs]
      have hclock : ∀ k < 4, bit (s.piLevels p (s.idlePort p).lv) k = (decide (k = 0) || bit (s.piLevels p (s.tport p).lv) k) := fun k hk => by
        refine (bit_piLevels_clock s s p (s.tport p).lv true hk rfl).trans ?_
        by_cases h0 : k = 0 <;> simp [h0]
      refine .of_eq hexec ?_
      by_cases hlow : (s.tport p).low = true
      · rw [if_pos hlow] at ho ⊢
        refine ⟨by rw [hself]; rfl, by rw [hself]; rfl, by rw [hself]; exact hclock, fun q hq => by rw [hport, if_neg hq], .of_regs hregs, ho,
          fun _ => ⟨hlines, by rw [hself]; rfl, by rw [hself]; rfl, ?_⟩, fun h => absurd (hlow.symm.trans h) (by decide)⟩
        unfold State.rb
        rw [hrget, hlow]; simp
      · rw [if_neg hlow] at ho ⊢
        by_cases hback : back = false
        · rw [if_pos hback] at ho ⊢
          have hports (q : Nat) : (u.sticky (piReg p 0x24) 9).tport q = u.tport q := rfl
          refine ⟨by rw [hports, hself]; rfl, by rw [hports, hself]; rfl, by rw [hports, hself]; exact hclock, fun q hq => by rw [hports, hport, if_neg hq],
            (KeepRegs.of_regs hregs).sticky 9 List.mem_cons_self, ho,
            fun _ => ⟨hlines, by rw [hports, hself]; rfl, by rw [hports, hself]; rfl, ?_⟩, fun _ h => absurd (hback.symm.trans h) (by decide)⟩
          rw [State.rb_sticky_self _ _ _ (by decide), Bool.eq_false_of_not_eq_true hlow]; simp
        · rw [if_neg hback] at ho ⊢
          have hcount := (u.tport_setTport_same p { u.tport p with count := frameValue s p bits })
          rw [hself] at hcount
          have hp (q : Nat) : ((u.setTport p { u.tport p with count := frameValue s p bits }).sample p (frameValue s p bits) ts).tport q =
              if q = p.val then { s.idlePort p with
                count := frameValue s p bits, first := false
                word := (u.setTport p { u.tport p with count := frameValue s p bits }).sampleWord p (frameValue s p bits) } else s.tport q := by
            rw [State.tport_sample, hself, hcount, State.tport_setTport, hport]
            split <;> rfl
          have hps := (hp p).trans (if_pos rfl)
          have hkeep : KeepRegs [] s ((u.setTport p { u.tport p with count := frameValue s p bits }).sample p (frameValue s p bits) ts) :=
            .of_regs ((State.regs_sample _ _ _ _).trans hregs)
          refine ⟨by rw [hps]; rfl, by rw [hps]; rfl, by rw [hps]; exact hclock, fun q hq => by rw [hp, if_neg hq], hkeep.mono (List.nil_subset _), ho,
            fun h => absurd h (by simp [hlow, hback]), fun _ _ => ⟨hkeep, ?_⟩⟩
          rw [hps]
          refine ⟨State.sample_sampled _ _ hregs hlines ?_ ?_, frameValue_lt s p bits h32, frameValue_coded s p bits h32⟩
          · rw [hself, hcount]; rfl
          · rw [hself, hcount]; rfl
  case stream =>
    intro n ts s
    dsimp only
    have htally : s.tallyRuns = s.rb tlyStat 0 := rfl
    refine ⟨fun hno => ?_, fun ⟨hen, hdest, hrun⟩ k rest hq => ?_⟩
    · change execFabricStreamMeasurement n ts s = _
      unfold execFabricStreamMeasurement
      dsimp only
      split
      · rfl
      · next k rest hq =>
        refine if_neg (fun hc => hno.elim (fun h => absurd (hq.symm.trans h) (List.cons_ne_nil _ _)) (fun h => h ?_))
        simpa [htally, and_assoc] using hc
    · have hc : (s.rb ⟨.fryUp, n, 0⟩ 31 && decide (s.rf ⟨.fryUp, n, 0⟩ 29 2 = 3) && s.tallyRuns) = true := by simp [htally, hen, hdest, hrun]
      let u := s.setUpf n { s.upf n with q := [] }
      let p := s.rf ⟨.fryUp, n, 0⟩ 16 4
      have hexec : exec (.fabricStreamMeasurement n ts) s = .next (if (s.piActive p && decide (s.piType p = 6)) = true then
          (if k.p then u.sticky (piReg p 0x24) 10 else u.sample p k.d ((ts : Int) - s.piLat p)) else u) := by
        change execFabricStreamMeasurement n ts s = _
        unfold execFabricStreamMeasurement
        simp only [hq, hc]
        cases s.piActive p && decide (s.piType p = 6) <;> cases k.p <;> rfl
      have ho := (execFabricStreamMeasurement_ev n ts (Ev.refl (fieldMask [.tports, .tlines, .regs, .ups]) s) (by rfl)).only hexec
      have hself : u.upf n = { s.upf n with q := [] } := s.upf_setUpf_same _ _
      have hne (m : Nat) (hm : m ≠ n.val) : u.upf m = s.upf m := s.upf_setUpf_ne _ _ _ hm
      refine .of_eq hexec ?_
      by_cases hact : s.piActive p = true ∧ s.piType p = 6
      · have hc' : (s.piActive p && decide (s.piType p = 6)) = true := by simp [hact]
        have hlat : s.piLat p = s.rf (piReg p 0x14) 0 16 := by unfold State.piLat; rw [hact.2]; rfl
        rw [if_pos hc'] at ho ⊢
        by_cases hp : k.p = true
        · rw [if_pos hp] at ho ⊢
          exact ⟨hself, hne, ho, fun h => absurd hact h, fun _ _ => ⟨fun _ => ⟨State.rb_sticky_self _ _ _ (by decide),
            (KeepRegs.of_regs rfl : KeepRegs _ s u).sticky 10 List.mem_cons_self, rfl, rfl⟩, fun h => absurd (hp.symm.trans h) (by decide)⟩⟩
        · rw [if_neg hp] at ho ⊢
          have hups : (u.sample p k.d ((ts : Int) - s.piLat p)).ups = u.ups := by
            rw [State.sample_eq]
            exact State.each_inv (f := fun s l => s.setTline l { s.tline l with meas := some _ }) State.ups (fun _ _ => rfl) _ _
          have hupf (m : Nat) : (u.sample p k.d ((ts : Int) - s.piLat p)).upf m = u.upf m := by unfold State.upf; rw [hups]
          refine ⟨(hupf n).trans hself, fun m hm => (hupf m).trans (hne m hm), ho, fun h => absurd hact h, fun _ _ => ⟨fun h => absurd h hp, fun _ =>
            ⟨.of_regs (State.regs_sample _ _ _ _), ?_, fun q hq => ?_⟩⟩⟩
          · rw [← hlat]; exact State.sample_sampled _ _ rfl rfl rfl rfl
          · rw [State.tport_sample, if_neg hq]; rfl
      · have hc' : ¬ (s.piActive p && decide (s.piType p = 6)) = true := by simpa using hact
        rw [if_neg hc'] at ho ⊢
        exact ⟨hself, hne, ho, fun _ => ⟨.of_regs rfl, rfl, rfl⟩, fun h1 h2 => absurd ⟨h1, h2⟩ hact⟩

end Sys2Proof
end

section
/-! Edges of the Tally's ports (R36 to R43, R54 to R57): what counting, a delivery and a zero crossing leave, and the statement of the edges. -/

namespace Sys2Proof

open Machine

namespace Machine

/-! Accepted levels (R36). -/

theorem State.bit_piAccept (s : State) (p : Nat) (lv : BitVec 4) (held : Nat) {k : Nat} (hk : k < 4) :
    bit (s.piAccept p lv held) k =
      if s.piFilter p k ≤ held ∧ ¬ (k = 0 ∧ s.piDrives p = true) then bit lv k else bit (s.tport p).lv k := by
  have hstep (c : Prop) [Decidable c] (v : BitVec 4) (i : Nat) (hi : i < 4) (b : Bool) :
      bit (if c then setBit v i b else v) k = if c ∧ k = i then b else bit v k := by
    by_cases hc : c
    · simp [hc, bit_setBit _ _ _ _ hi]
    · simp [hc]
  unfold State.piAccept
  have hr : List.range 4 = [0, 1, 2, 3] := rfl
  rw [hr]
  simp only [List.foldl_cons, List.foldl_nil]
  rw [hstep _ _ 3 (by decide), hstep _ _ 2 (by decide), hstep _ _ 1 (by decide), hstep _ _ 0 (by decide)]
  have h : k = 0 ∨ k = 1 ∨ k = 2 ∨ k = 3 := by omega
  rcases h with rfl | rfl | rfl | rfl <;> simp

theorem eq_of_bits {v w : BitVec 4} (h : ∀ k < 4, bit v k = bit w k) : v = w :=
  BitVec.eq_of_getLsbD_eq h

/-- The accepted levels are those of the statement. -/
theorem State.piAccept_eq {s : State} {p : Nat} {lv acc : BitVec 4} {held : Nat} (h : Accepted s p lv held acc) : s.piAccept p lv held = acc := by
  refine eq_of_bits (fun k hk => ?_)
  have hf : s.piFilter p k = s.rf (piReg p 4) (if k = 2 ∧ s.piType p = 1 then 8 else 0) 6 := by
    unfold State.piFilter
    split <;> rfl
  have hd : s.piDrives p = true ↔ s.piActive p = true ∧ s.piType p = 5 := by simp [State.piDrives]
  rw [s.bit_piAccept p lv held hk, h k hk, hf]
  exact if_congr (by rw [hd]) rfl rfl

/-! Counting and delivering (R39, R49). -/

/-- A state on the way of an edge: port p has the accepted levels, and of the registers its status and its counters may have changed. -/
structure Accepting (s u : State) (p : Nat) (acc : BitVec 4) : Prop where
  port : u.tport p = { s.tport p with lv := acc }
  others : ∀ q, q ≠ p → u.tport q = s.tport q
  lines : ∀ l, u.tline l = s.tline l
  regs : KeepRegs [piReg p 0x24, piReg p 0x28] s u

theorem piReg_addr (p off : Nat) : (piReg p off).addr = 0x20020100 + 0x40 * p + off := rfl

theorem Accepting.rget {s u : State} {p : Nat} {acc : BitVec 4} (h : Accepting s u p acc) {off : Nat} (hoff : off < 0x24) :
    u.rget (piReg p off) = s.rget (piReg p off) := by
  refine h.regs _ (fun x hx => ?_)
  simp only [List.mem_cons, List.not_mem_nil, or_false] at hx
  rcases hx with rfl | rfl <;> simp only [piReg_addr] <;> omega

theorem Accepting.piNum {s u : State} {p : Nat} {acc : BitVec 4} (h : Accepting s u p acc) : u.piNum p = s.piNum p := by
  unfold State.piNum State.rf; rw [h.rget (by decide)]

theorem Accepting.piDen {s u : State} {p : Nat} {acc : BitVec 4} (h : Accepting s u p acc) : u.piDen p = s.piDen p := by
  unfold State.piDen State.rf; rw [h.rget (by decide)]

theorem Accepting.linesOf {s u : State} {p : Nat} {acc : BitVec 4} (h : Accepting s u p acc) (q : Nat) : u.linesOf q = s.linesOf q := by
  unfold State.linesOf
  simp only [h.lines]

/-- The levels of a port replaced. -/
def State.setLevels (s : State) (p : Nat) (acc : BitVec 4) : State := s.setTport p { s.tport p with lv := acc }

theorem State.setLevels_accepting (s : State) (p : Nat) (acc : BitVec 4) : Accepting s (s.setLevels p acc) p acc :=
  ⟨s.tport_setTport_same _ _, fun _ hq => s.tport_setTport_ne _ _ _ hq, fun _ => rfl, .of_regs rfl⟩

theorem Accepting.sticky {s u : State} {p : Nat} {acc : BitVec 4} (h : Accepting s u p acc) (i : Nat) : Accepting s (u.sticky (piReg p 0x24) i) p acc :=
  ⟨h.port, h.others, h.lines, h.regs.sticky i List.mem_cons_self⟩

theorem Accepting.count {s u : State} {p : Nat} {acc : BitVec 4} (h : Accepting s u p acc) (lo len n : Nat) :
    Accepting s (u.count (piReg p 0x28) lo len n) p acc :=
  ⟨h.port, h.others, h.lines, h.regs.count lo len n (List.mem_cons_of_mem _ List.mem_cons_self)⟩

theorem State.tport_piCount_ne (s : State) {p q : Nat} (n : Int) (hq : q ≠ p) : (s.piCount p n).tport q = s.tport q := s.tport_setTport_ne _ _ _ hq

theorem State.tline_piCount (s : State) (p : Nat) (n : Int) (l : Nat) : (s.piCount p n).tline l = s.tline l := rfl

theorem State.linesOf_piCount (s : State) (p : Nat) (n : Int) (q : Nat) : (s.piCount p n).linesOf q = s.linesOf q := rfl

/-- R39: a division with remainder of the counts' pu. -/
theorem Accepting.piCount_counted {s u t : State} {p : Nat} {acc : BitVec 4} (h : Accepting s u p acc) (n : Int)
    (ht : t.tport p = (u.piCount p n).tport p) : Counted s t p n ∧ (t.tport p).lv = acc := by
  have hd : 0 < (s.piDen p : Int) := by have := s.piDen_pos p; omega
  have hx := Int.mul_ediv_add_emod (((s.tport p).rem : Int) + n * s.piNum p) (s.piDen p)
  have h0 := Int.emod_nonneg (((s.tport p).rem : Int) + n * s.piNum p) hd.ne'
  have h1 := Int.emod_lt_of_pos (((s.tport p).rem : Int) + n * s.piNum p) hd
  have hport : t.tport p = { s.tport p with
      lv := acc, pos := (s.tport p).pos + (((s.tport p).rem : Int) + n * s.piNum p) / s.piDen p
      rem := ((((s.tport p).rem : Int) + n * s.piNum p) % s.piDen p).toNat, count := (s.tport p).count + BitVec.ofInt 32 n
      down := if n = 0 then (s.tport p).down else decide (n < 0) } := by
    rw [ht]
    refine (u.tport_setTport_same p _).trans ?_
    rw [h.port, h.piNum, h.piDen]
  unfold Counted
  rw [portDen_eq, portNum_eq, hport]
  refine ⟨⟨?_, ?_, rfl, rfl⟩, rfl⟩
  · dsimp only
    rw [Int.toNat_of_nonneg h0, Int.add_mul, Int.mul_comm (_ / _)]
    omega
  · dsimp only
    rw [Int.toNat_of_nonneg h0]
    exact h1

/-- R39, R54, in the words of the statement: counting sources count and deliver. -/
theorem Accepting.counts {s u : State} {p : Nat} {acc : BitVec 4} (h : Accepting s u p acc) (n ts : Int) :
    Counted s (u.counts p n ts) p n ∧ Delivered s (u.counts p n ts) p ts n ∧ ((u.counts p n ts).tport p).lv = acc ∧
      (∀ q, q ≠ p → (u.counts p n ts).tport q = s.tport q) ∧ (u.counts p n ts).regs = u.regs := by
  have hport (q : Nat) : (u.counts p n ts).tport q = (u.piCount p n).tport q := State.tport_deliver _ _ _ _
  have hregs : (u.counts p n ts).regs = u.regs := State.regs_deliver _ _ _
  obtain ⟨hc, hlv⟩ := h.piCount_counted n (hport p)
  refine ⟨hc, fun l => ?_, hlv, fun q hq => ?_, hregs⟩
  · have hpos : (u.counts p n ts).piPos p = (u.piCount p n).piPos p := by
      unfold State.piPos State.piPosBy State.piDen State.piNum State.rf State.rget
      rw [hport, hregs]; rfl
    refine (State.tline_deliver _ _ _ l).trans ?_
    rw [State.linesOf_piCount, h.linesOf, State.tline_piCount, h.lines, hpos]
    exact if_congr (s.mem_linesOf p l) rfl rfl
  · rw [hport, u.tport_piCount_ne n hq, h.others q hq]

/-! A pulse of a zero-crossing port (R43, R57). -/

theorem iabs_eq (x : Int) : iabs x = (x.natAbs : Int) := by unfold iabs; split <;> omega

theorem Accepting.pulseEarly {s u : State} {p : Nat} {acc : BitVec 4} (h : Accepting s u p acc) (l : Nat) (ts : Int) :
    u.pulseEarly p l ts = true ↔ PulseIsEarly s p l ts := by
  unfold State.pulseEarly PulseIsEarly
  simp only [h.lines, h.piNum, h.piDen, iabs_eq, portDen_eq, portNum_eq, Bool.and_eq_true, decide_eq_true_eq, and_assoc]

/-- The lines of the port that find the pulse early. -/
def State.earlyLines (s : State) (p : Nat) (ts : Int) : List Nat := (s.linesOf p).filter (fun l => s.pulseEarly p l ts)

theorem Accepting.mem_earlyLines {s u : State} {p : Nat} {acc : BitVec 4} (h : Accepting s u p acc) (ts : Int) (l : Nat) :
    l ∈ u.earlyLines p ts ↔ (l < 8 ∧ (s.tline l).run = true ∧ fld (s.tline l).ctl 24 4 = p) ∧ PulseIsEarly s p l ts := by
  unfold State.earlyLines
  rw [List.mem_filter, h.linesOf, s.mem_linesOf, h.pulseEarly]

/-- A discarded pulse is counted and reported. -/
def State.reportEarly (s : State) (p : Nat) : State := (s.count (piReg p 0x28) 16 8 1).sticky (piReg p 0x24) 11

/-- The line of a pulse it uses, or leaves out as early. -/
def TLine.pulsed (n : TLine) (u : State) (p k : Nat) (ts : Int) (early : Bool) : TLine :=
  if early then { n with mcnt := n.mcnt - k }
  else { n with meas := some ⟨u.piPosBy p n.mcnt, ts, false, true⟩, coast := false, misses := 0, edgeTs := ts }

/-- The lines' part of a pulse that the port counts. -/
def State.pulseLines (u : State) (p k : Nat) (ts : Int) (early : List Nat) : State :=
  u.each (u.linesOf p) (fun s l => s.setTline l ((s.tline l).pulsed u p k ts (early.contains l)))

theorem State.zeroCross_eq (s : State) (p k : Nat) (ts : Int) :
    s.zeroCross p k ts =
      if !(s.earlyLines p ts).isEmpty && decide (s.earlyLines p ts = s.linesOf p) then s.reportEarly p
      else if (s.earlyLines p ts).isEmpty then (s.piCount p k).pulseLines p k ts (s.earlyLines p ts)
      else ((s.piCount p k).pulseLines p k ts (s.earlyLines p ts)).reportEarly p := by
  have hbody : (fun (u : State) l => if (s.earlyLines p ts).contains l then u.setTline l { u.tline l with mcnt := (u.tline l).mcnt - k }
        else u.setTline l { u.tline l with meas := some ⟨(s.piCount p k).piPosBy p (u.tline l).mcnt, ts, false, true⟩, coast := false, misses := 0, edgeTs := ts }) =
      fun u l => u.setTline l ((u.tline l).pulsed (s.piCount p k) p k ts ((s.earlyLines p ts).contains l)) := by
    funext u l
    unfold TLine.pulsed
    split <;> rfl
  unfold State.pulseLines
  rw [State.linesOf_piCount, ← hbody]
  rfl

theorem State.tline_pulseLines (u : State) (p k : Nat) (ts : Int) (early : List Nat) (l : Nat) :
    (u.pulseLines p k ts early).tline l = if l ∈ u.linesOf p then (u.tline l).pulsed u p k ts (early.contains l) else u.tline l :=
  State.each_at (f := fun s l => s.setTline l ((s.tline l).pulsed u p k ts (early.contains l))) (fun s => s.tline l) (fun _ => ())
    (fun _ n => n.pulsed u p k ts (early.contains l)) (fun _ _ _ => rfl) (fun s _ => s.tline_setTline_same _ _)
    (fun s _ _ ha => s.tline_setTline_ne _ _ _ (Ne.symm ha)) u (u.linesOf_nodup p)

theorem State.tport_pulseLines (u : State) (p k : Nat) (ts : Int) (early : List Nat) (q : Nat) : (u.pulseLines p k ts early).tport q = u.tport q :=
  State.each_inv (f := fun s l => s.setTline l ((s.tline l).pulsed u p k ts (early.contains l))) (fun s => s.tport q) (fun _ _ => rfl) u _

theorem State.regs_pulseLines (u : State) (p k : Nat) (ts : Int) (early : List Nat) : (u.pulseLines p k ts early).regs = u.regs :=
  State.each_inv (f := fun s l => s.setTline l ((s.tline l).pulsed u p k ts (early.contains l))) State.regs (fun _ _ => rfl) u _

/-- What a pulse leaves of the ports and the registers, whatever its lines find. -/
theorem Accepting.zeroCross_frame {s u : State} {p : Nat} {acc : BitVec 4} (h : Accepting s u p acc) (k : Nat) (ts : Int) :
    ((u.zeroCross p k ts).tport p).lv = acc ∧ (∀ q, q ≠ p → (u.zeroCross p k ts).tport q = s.tport q) ∧
      KeepRegs [piReg p 0x24, piReg p 0x28] s (u.zeroCross p k ts) ∧
      (∀ j ≠ 11, (u.zeroCross p k ts).rb (piReg p 0x24) j = u.rb (piReg p 0x24) j) := by
  have hport (t : State) (q : Nat) : (t.reportEarly p).tport q = t.tport q := rfl
  have hkeep {t : State} (ht : KeepRegs [piReg p 0x24, piReg p 0x28] s t) : KeepRegs [piReg p 0x24, piReg p 0x28] s (t.reportEarly p) :=
    (ht.count 16 8 1 (by simp)).sticky 11 List.mem_cons_self
  have hrb (t : State) {j : Nat} (hj : j ≠ 11) : (t.reportEarly p).rb (piReg p 0x24) j = t.rb (piReg p 0x24) j := by
    unfold State.reportEarly
    rw [State.rb_sticky_bit _ _ _ _ hj]
    unfold State.rb
    rw [State.rget_count_ne _ _ _ _ _ _ (by simp only [piReg_addr]; omega)]
  have hregs := (u.piCount p k).regs_pulseLines p k ts (u.earlyLines p ts)
  have hlv := (h.piCount_counted k (t := (u.piCount p k).pulseLines p k ts (u.earlyLines p ts)) (State.tport_pulseLines _ _ _ _ _ _)).2
  have hoth (q : Nat) (hq : q ≠ p) : ((u.piCount p k).pulseLines p k ts (u.earlyLines p ts)).tport q = s.tport q := by
    rw [State.tport_pulseLines, u.tport_piCount_ne k hq, h.others q hq]
  have hrget (g : Reg) : ((u.piCount p k).pulseLines p k ts (u.earlyLines p ts)).rget g = u.rget g := by unfold State.rget; rw [hregs]; rfl
  have hall : KeepRegs [piReg p 0x24, piReg p 0x28] s ((u.piCount p k).pulseLines p k ts (u.earlyLines p ts)) :=
    fun g hg => (hrget g).trans (h.regs g hg)
  have hlines (j : Nat) : ((u.piCount p k).pulseLines p k ts (u.earlyLines p ts)).rb (piReg p 0x24) j = u.rb (piReg p 0x24) j := by
    unfold State.rb; rw [hrget]
  rw [State.zeroCross_eq]
  split
  · exact ⟨by rw [hport, h.port], fun q hq => h.others q hq, hkeep h.regs, fun j hj => hrb u hj⟩
  · split
    · exact ⟨hlv, hoth, hall, fun j _ => hlines j⟩
    · exact ⟨hlv, hoth, hkeep hall, fun j hj => (hrb _ hj).trans (hlines j)⟩

end Machine

namespace Machine

section
variable {p : Fin 16} {lv acc : BitVec 4} {ts held : Nat} {s : State} (two : Bool)
  (hrun : s.rb tlyStat 0 = true) (hacc : Accepted s p lv held acc) (hact : s.piActive p = true)

/-- The clock's time of an edge less the port's latency (R36). -/
def State.edgeTime (s : State) (p ts : Nat) : Int := (ts : Int) - s.piLat p

theorem State.edgeTime_eq {s : State} {p : Nat} (ts : Nat) (h : s.piType p ≠ 8) : s.edgeTime p ts = (ts : Int) - s.rf (piReg p 0x14) 0 16 := by
  unfold State.edgeTime State.piLat; rw [if_neg h]

include hrun hacc in
theorem exec_edge_inactive (hact : s.piActive p = false) : exec (.phaseInputEdge p lv ⟨ts, held⟩ two) s = .next (s.setLevels p acc) := by
  have hr : s.tallyRuns = true := hrun
  change execPhaseInputEdge p lv ⟨ts, held⟩ two s = _
  unfold execPhaseInputEdge
  simp only [s.piAccept_eq hacc, hr, hact]
  rfl

include hrun hacc hact in
theorem exec_edge_other (htype : s.piType p = 0 ∨ 5 ≤ s.piType p) : exec (.phaseInputEdge p lv ⟨ts, held⟩ two) s = .next (s.setLevels p acc) := by
  have hr : s.tallyRuns = true := hrun
  change execPhaseInputEdge p lv ⟨ts, held⟩ two s = _
  unfold execPhaseInputEdge
  simp only [s.piAccept_eq hacc, hr, hact]
  change (match s.piType p with | 1 => _ | 2 => _ | 3 => _ | 4 => _ | _ => _) = _
  split
  iterate 4 omega
  rfl

/-- R41, R55: a quadrature port. -/
def State.illegalEdge (s : State) (p : Nat) (acc : BitVec 4) (ts : Nat) : State :=
  (((((s.setLevels p acc).sticky (piReg p 0x24) 15).sticky (piReg p 0x24) 14).count (piReg p 0x28) 8 8 2).count (piReg p 0x28) 0 8 2).counts p
    (if (s.tport p).down then -2 else 2) (s.edgeTime p ts)

include hrun hacc hact in
theorem exec_edge_quad (htype : s.piType p = 1) :
    exec (.phaseInputEdge p lv ⟨ts, held⟩ two) s =
      let a := bit (s.piLevels p (s.tport p).lv) 0
      let b := bit (s.piLevels p (s.tport p).lv) 1
      let a' := bit (s.piLevels p acc) 0
      let b' := bit (s.piLevels p acc) 1
      if (a != a' && b != b') || (two && decide (s.rf (piReg p 4) 0 6 ≤ held)) then .next (s.illegalEdge p acc ts)
      else if a != a' || b != b' then .next ((s.setLevels p acc).counts p (if quadBack a b a' b' != s.rb (piReg p 0) 13 then -1 else 1) (s.edgeTime p ts))
      else .next (s.setLevels p acc) := by
  have hr : s.tallyRuns = true := hrun
  change execPhaseInputEdge p lv ⟨ts, held⟩ two s = _
  unfold execPhaseInputEdge
  simp only [s.piAccept_eq hacc, hr, hact, htype]
  rfl

include hrun hacc hact in
theorem exec_edge_step (htype : s.piType p = 2) :
    exec (.phaseInputEdge p lv ⟨ts, held⟩ two) s =
      let n : Int := if (!bit (s.piLevels p acc) 1) != s.rb (piReg p 0) 13 then -1 else 1
      if two && decide (s.rf (piReg p 4) 0 6 ≤ held) then
        .next (((s.setLevels p acc).sticky (piReg p 0x24) 15).counts p (n * (s.secondEdge : Int)) (s.edgeTime p ts)).bumpFree
      else if !bit (s.piLevels p (s.tport p).lv) 0 && bit (s.piLevels p acc) 0 then .next ((s.setLevels p acc).counts p n (s.edgeTime p ts))
      else .next (s.setLevels p acc) := by
  have hr : s.tallyRuns = true := hrun
  change execPhaseInputEdge p lv ⟨ts, held⟩ two s = _
  unfold execPhaseInputEdge
  simp only [s.piAccept_eq hacc, hr, hact, htype]
  rfl

include hrun hacc hact in
theorem exec_edge_up (htype : s.piType p = 3) :
    exec (.phaseInputEdge p lv ⟨ts, held⟩ two) s =
      if two && decide (s.rf (piReg p 4) 0 6 ≤ held) then
        .next (((s.setLevels p acc).sticky (piReg p 0x24) 15).counts p (s.secondEdge : Int) (s.edgeTime p ts)).bumpFree
      else if !bit (s.piLevels p (s.tport p).lv) 0 && bit (s.piLevels p acc) 0 then .next ((s.setLevels p acc).counts p 1 (s.edgeTime p ts))
      else .next (s.setLevels p acc) := by
  have hr : s.tallyRuns = true := hrun
  change execPhaseInputEdge p lv ⟨ts, held⟩ two s = _
  unfold execPhaseInputEdge
  simp only [s.piAccept_eq hacc, hr, hact, htype]
  rfl

include hrun hacc hact in
theorem exec_edge_cross (htype : s.piType p = 4) :
    exec (.phaseInputEdge p lv ⟨ts, held⟩ two) s =
      let a := bit (s.piLevels p (s.tport p).lv) 0
      let a' := bit (s.piLevels p acc) 0
      if two && decide (s.rf (piReg p 4) 0 6 ≤ held) then
        .next (((s.setLevels p acc).sticky (piReg p 0x24) 15).zeroCross p s.secondEdge (s.edgeTime p ts)).bumpFree
      else if (!a && a') || (s.rb (piReg p 0) 12 && a && !a') then .next ((s.setLevels p acc).zeroCross p 1 (s.edgeTime p ts))
      else .next (s.setLevels p acc) := by
  have hr : s.tallyRuns = true := hrun
  change execPhaseInputEdge p lv ⟨ts, held⟩ two s = _
  unfold execPhaseInputEdge
  simp only [s.piAccept_eq hacc, hr, hact, htype]
  rfl

end

theorem State.setLevels_ev {m : Nat} (s : State) (p : Nat) (acc : BitVec 4) (hm : Sub 32 m) : Ev m s (s.setLevels p acc) :=
  Ev.setTport (Ev.refl m s) hm _ _

theorem State.rget_of_regs {s t : State} (h : t.regs = s.regs) (g : Reg) : t.rget g = s.rget g := by unfold State.rget; rw [h]

theorem State.rb_of_regs {s t : State} (h : t.regs = s.regs) (g : Reg) (i : Nat) : t.rb g i = s.rb g i := by unfold State.rb State.rget; rw [h]

theorem State.rf_of_regs {s t : State} (h : t.regs = s.regs) (g : Reg) (lo len : Nat) : t.rf g lo len = s.rf g lo len := by
  unfold State.rf State.rget; rw [h]

theorem State.rb_count_ne (s : State) {g h : Reg} (lo len n i : Nat) (hne : h.addr ≠ g.addr) : (s.count g lo len n).rb h i = s.rb h i := by
  unfold State.rb; rw [State.rget_count_ne _ _ _ _ _ _ hne]

theorem State.rf_sticky_ne (s : State) {g h : Reg} (i lo len : Nat) (hne : h.addr ≠ g.addr) : (s.sticky g i).rf h lo len = s.rf h lo len := by
  unfold State.rf; rw [State.rget_sticky_ne _ _ _ _ hne]

/-- R41: which transitions count backward. -/
theorem quadBack_eq : ∀ a b a' b' : Bool, quadBack a b a' b' =
    decide ((a, b, a', b') ∉ [(false, false, true, false), (true, false, true, true), (true, true, false, true), (false, true, false, false)]) := by
  decide

theorem one_of_two_moves : ∀ a b a' b' : Bool, (a ≠ a' ∧ b = b') ∨ (a = a' ∧ b ≠ b') →
    ((a != a' && b != b') = false ∧ (a != a' || b != b') = true) := by decide

theorem both_move : ∀ a b a' b' : Bool, a ≠ a' ∧ b ≠ b' → (a != a' && b != b') = true := by decide

theorem rises : ∀ a a' : Bool, a = false → a' = true → (!a && a') = true := by decide

theorem not_rises : ∀ a a' : Bool, ¬ (a = false ∧ a' = true) → (!a && a') = false := by decide

/-- R37: the second of two edges counts or does not. -/
theorem State.secondEdge_cases (s : State) : (s.secondEdge : Int) = 1 ∨ (s.secondEdge : Int) = 2 := by
  unfold State.secondEdge b2n
  split
  · exact .inr rfl
  · exact .inl rfl

/-- R55: the reports of an illegal transition. -/
theorem State.illegalEdge_regs (s : State) (p : Nat) (acc : BitVec 4) (ts : Nat) :
    (s.illegalEdge p acc ts).rb (piReg p 0x24) 14 = true ∧ (s.illegalEdge p acc ts).rb (piReg p 0x24) 15 = true ∧
      (s.illegalEdge p acc ts).rf (piReg p 0x28) 8 8 = min 255 (s.rf (piReg p 0x28) 8 8 + 2) ∧
      (s.illegalEdge p acc ts).rf (piReg p 0x28) 0 8 = min 255 (s.rf (piReg p 0x28) 0 8 + 2) := by
  have hne : (piReg p 0x24).addr ≠ (piReg p 0x28).addr := by simp only [piReg_addr]; omega
  have hregs : (s.illegalEdge p acc ts).regs =
      (((((s.setLevels p acc).sticky (piReg p 0x24) 15).sticky (piReg p 0x24) 14).count (piReg p 0x28) 8 8 2).count (piReg p 0x28) 0 8 2).regs :=
    State.regs_deliver _ _ _
  rw [State.rb_of_regs hregs, State.rb_of_regs hregs, State.rf_of_regs hregs, State.rf_of_regs hregs]
  refine ⟨?_, ?_, ?_, ?_⟩
  · rw [State.rb_count_ne _ _ _ _ _ hne, State.rb_count_ne _ _ _ _ _ hne, State.rb_sticky_self _ _ _ (by decide)]
  · rw [State.rb_count_ne _ _ _ _ _ hne, State.rb_count_ne _ _ _ _ _ hne, State.rb_sticky_bit _ _ _ _ (by decide), State.rb_sticky_self _ _ _ (by decide)]
  · rw [State.rf_count_ne _ _ _ _ _ _ _ (by decide), State.rf_count_self _ _ _ _ _ (by decide), State.rf_sticky_ne _ _ _ _ hne.symm,
      State.rf_sticky_ne _ _ _ _ hne.symm]
    rfl
  · rw [State.rf_count_self _ _ _ _ _ (by decide), State.rf_count_ne _ _ _ _ _ _ _ (by decide), State.rf_sticky_ne _ _ _ _ hne.symm,
      State.rf_sticky_ne _ _ _ _ hne.symm]
    rfl

theorem State.illegalEdge_accepting (s : State) (p : Nat) (acc : BitVec 4) :
    Accepting s (((((s.setLevels p acc).sticky (piReg p 0x24) 15).sticky (piReg p 0x24) 14).count (piReg p 0x28) 8 8 2).count (piReg p 0x28) 0 8 2) p acc :=
  ((((s.setLevels_accepting p acc).sticky 15).sticky 14).count 8 8 2).count 0 8 2

/-! A zero crossing in the words of the statement (R57). -/

/-- The pulse that every line of the port finds early. -/
theorem Accepting.zeroCross_discards {s u : State} {p : Nat} {acc : BitVec 4} (h : Accepting s u p acc) (k : Nat) (ts : Int)
    (hsome : ∃ l, (l < 8 ∧ (s.tline l).run = true ∧ fld (s.tline l).ctl 24 4 = p) ∧ PulseIsEarly s p l ts)
    (hall : ∀ l, (l < 8 ∧ (s.tline l).run = true ∧ fld (s.tline l).ctl 24 4 = p) → PulseIsEarly s p l ts) :
    u.zeroCross p k ts = u.reportEarly p := by
  obtain ⟨l, hl⟩ := hsome
  have hne : u.earlyLines p ts ≠ [] := List.ne_nil_of_mem ((h.mem_earlyLines ts l).mpr hl)
  have heq : u.earlyLines p ts = u.linesOf p := List.filter_eq_self.mpr (fun l hl => by
    rw [h.linesOf, s.mem_linesOf] at hl
    exact (h.pulseEarly l ts).mpr (hall l hl))
  rw [State.zeroCross_eq, if_pos]
  rw [Bool.and_eq_true, decide_eq_true heq, Bool.not_eq_true', List.isEmpty_eq_false_iff]
  exact ⟨hne, rfl⟩

/-- The pulse that the port counts. -/
theorem Accepting.zeroCross_counts {s u : State} {p : Nat} {acc : BitVec 4} (h : Accepting s u p acc) (k : Nat) (ts : Int)
    (huse : (∀ l, ¬ (l < 8 ∧ (s.tline l).run = true ∧ fld (s.tline l).ctl 24 4 = p)) ∨
      ∃ l, (l < 8 ∧ (s.tline l).run = true ∧ fld (s.tline l).ctl 24 4 = p) ∧ ¬ PulseIsEarly s p l ts) :
    u.zeroCross p k ts = if (u.earlyLines p ts).isEmpty then (u.piCount p k).pulseLines p k ts (u.earlyLines p ts)
      else ((u.piCount p k).pulseLines p k ts (u.earlyLines p ts)).reportEarly p := by
  rw [State.zeroCross_eq, if_neg]
  rw [Bool.and_eq_true, decide_eq_true_eq, Bool.not_eq_true', List.isEmpty_eq_false_iff]
  rintro ⟨hne, heq⟩
  rcases huse with hnone | ⟨l, hl, hlate⟩
  · obtain ⟨l, hl⟩ := List.exists_mem_of_ne_nil _ hne
    exact hnone l ((h.mem_earlyLines ts l).mp hl).1
  · have hmem : l ∈ u.earlyLines p ts := by rw [heq, h.linesOf, s.mem_linesOf]; exact hl
    exact hlate ((h.mem_earlyLines ts l).mp hmem).2

/-- What a counted pulse makes of the port and of each line. -/
theorem Accepting.zeroCross_lines {s u : State} {p : Nat} {acc : BitVec 4} (h : Accepting s u p acc) (k : Nat) (ts : Int)
    (huse : (∀ l, ¬ (l < 8 ∧ (s.tline l).run = true ∧ fld (s.tline l).ctl 24 4 = p)) ∨
      ∃ l, (l < 8 ∧ (s.tline l).run = true ∧ fld (s.tline l).ctl 24 4 = p) ∧ ¬ PulseIsEarly s p l ts) :
    Counted s (u.zeroCross p k ts) p k ∧
      (∀ l, (u.zeroCross p k ts).tline l = if l ∈ s.linesOf p then (s.tline l).pulsed (u.zeroCross p k ts) p k ts ((u.earlyLines p ts).contains l)
        else s.tline l) ∧
      ((∀ l, l ∉ u.earlyLines p ts) → (u.zeroCross p k ts).regs = u.regs) := by
  have hport (c : Bool) (t : State) (q : Nat) : (if c then t else t.reportEarly p).tport q = t.tport q := by cases c <;> rfl
  have hline (c : Bool) (t : State) (l : Nat) : (if c then t else t.reportEarly p).tline l = t.tline l := by cases c <;> rfl
  have hframe := h.zeroCross_frame k ts
  have hpos (n : Int) : (u.zeroCross p k ts).piPosBy p n = (u.piCount p k).piPosBy p n := by
    have hkeep (off : Nat) (hoff : off < 0x24) : (u.zeroCross p k ts).rget (piReg p off) = u.rget (piReg p off) := by
      rw [h.rget hoff, hframe.2.2.1]
      intro x hx
      simp only [List.mem_cons, List.not_mem_nil, or_false] at hx
      rcases hx with rfl | rfl <;> simp only [piReg_addr] <;> omega
    have hnum : (u.zeroCross p k ts).piNum p = (u.piCount p k).piNum p := by unfold State.piNum State.rf; rw [hkeep 8 (by decide)]; rfl
    have hden : (u.zeroCross p k ts).piDen p = (u.piCount p k).piDen p := by unfold State.piDen State.rf; rw [hkeep 4 (by decide)]; rfl
    have hp : (u.zeroCross p k ts).tport p = (u.piCount p k).tport p := by
      rw [h.zeroCross_counts k ts huse, hport, State.tport_pulseLines]
    unfold State.piPosBy
    rw [hnum, hden, hp]
  have heq := h.zeroCross_counts k ts huse
  refine ⟨(h.piCount_counted k ?_).1, fun l => ?_, fun hnone => ?_⟩
  · rw [heq, hport, State.tport_pulseLines]
  · have hl : (u.zeroCross p k ts).tline l = if l ∈ s.linesOf p then (s.tline l).pulsed (u.piCount p k) p k ts ((u.earlyLines p ts).contains l)
        else s.tline l := by
      rw [heq, hline, State.tline_pulseLines, State.linesOf_piCount, h.linesOf, State.tline_piCount, h.lines]
    rw [hl]
    unfold TLine.pulsed
    rw [hpos]
  · have hnil : u.earlyLines p ts = [] := List.eq_nil_iff_forall_not_mem.mpr hnone
    rw [heq, hnil]
    exact State.regs_pulseLines _ _ _ _ _

end Machine

/-! The three outcomes of an edge in the words of the statement: levels alone, counts, and counts of two edges in one sample. -/

theorem edge_idle {c : Instr} {s : State} {p : Nat} {acc : BitVec 4} (h : exec c s = .next (s.setLevels p acc)) :
    Does c s (fun t => (t.tport p).lv = acc ∧ (∀ q, q ≠ p → t.tport q = s.tport q) ∧ Only [.tports, .tlines, .regs] s t ∧
      (∀ l, t.tline l = s.tline l) ∧ KeepRegs [] s t ∧ t.tport p = { s.tport p with lv := acc }) := by
  have hu := s.setLevels_accepting p acc
  exact .of_eq h ⟨by rw [hu.port], hu.others, (s.setLevels_ev p acc (by rfl)).only_mask, hu.lines, .of_regs rfl, hu.port⟩

theorem edge_counted {c : Instr} {s : State} {p : Nat} {acc : BitVec 4} {n ts : Int} (h : exec c s = .next ((s.setLevels p acc).counts p n ts)) :
    Does c s (fun t => (t.tport p).lv = acc ∧ (∀ q, q ≠ p → t.tport q = s.tport q) ∧ Only [.tports, .tlines, .regs] s t ∧
      Counted s t p n ∧ Delivered s t p ts n ∧ KeepRegs [] s t) := by
  obtain ⟨hc, hd, hlv, hoth, hregs⟩ := (s.setLevels_accepting p acc).counts n ts
  exact .of_eq h ⟨hlv, hoth, (State.counts_ev p n ts (s.setLevels_ev p acc (by rfl)) (by rfl)).only_mask, hc, hd, .of_regs hregs⟩

theorem edge_counted_twice {c : Instr} {s : State} {p : Nat} {acc : BitVec 4} {n ts : Int}
    (h : exec c s = .next (((s.setLevels p acc).sticky (piReg p 0x24) 15).counts p n ts).bumpFree) :
    Does c s (fun t => (t.tport p).lv = acc ∧ (∀ q, q ≠ p → t.tport q = s.tport q) ∧ t.rb (piReg p 0x24) 15 = true ∧
      Only [.tports, .tlines, .regs, .free] s t ∧ Counted s t p n ∧ Delivered s t p ts n ∧ KeepRegs [piReg p 0x24] s t) := by
  obtain ⟨hc, hd, hlv, hoth, hregs⟩ := ((s.setLevels_accepting p acc).sticky 15).counts n ts
  have hrb : (((s.setLevels p acc).sticky (piReg p 0x24) 15).counts p n ts).bumpFree.rb (piReg p 0x24) 15 = true :=
    (State.rb_of_regs hregs _ _).trans (State.rb_sticky_self _ _ _ (by decide))
  have hk : KeepRegs [piReg p 0x24] s ((s.setLevels p acc).sticky (piReg p 0x24) 15) := (KeepRegs.of_regs rfl).sticky 15 List.mem_cons_self
  exact .of_eq h ⟨hlv, hoth, hrb,
    (State.bumpFree_ev (State.counts_ev p n ts (State.sticky_ev _ _ (s.setLevels_ev p acc (by rfl)) (by rfl)) (by rfl)) (by rfl)).only_mask,
    hc, hd, hk.then_regs hregs⟩

/-- R55, in the words of the statement. -/
theorem illegalEdge_spec (s : State) (p ts : Nat) (acc : BitVec 4) :
    ((s.illegalEdge p acc ts).tport p).lv = acc ∧ (∀ q, q ≠ p → (s.illegalEdge p acc ts).tport q = s.tport q) ∧
      Ev (fieldMask [.tports, .tlines, .regs]) s (s.illegalEdge p acc ts) ∧
      Counted s (s.illegalEdge p acc ts) p (if (s.tport p).down then -2 else 2) ∧
      Delivered s (s.illegalEdge p acc ts) p (s.edgeTime p ts) (if (s.tport p).down then -2 else 2) ∧
      KeepRegs [piReg p 0x24, piReg p 0x28] s (s.illegalEdge p acc ts) := by
  have hu := s.illegalEdge_accepting p acc
  obtain ⟨hc, hd, hlv, hoth, hregs⟩ := hu.counts (if (s.tport p).down then -2 else 2) (s.edgeTime p ts)
  refine ⟨hlv, hoth, ?_, hc, hd, hu.regs.then_regs hregs⟩
  exact State.counts_ev _ _ _ (State.count_ev _ _ _ _ (State.count_ev _ _ _ _ (State.sticky_ev _ _ (State.sticky_ev _ _ (s.setLevels_ev p acc (by rfl))
    (by rfl)) (by rfl)) (by rfl)) (by rfl)) (by rfl)

/-- R57, in the words of the statement: a pulse found early by every line. -/
theorem cross_discarded {c : Instr} {s : State} {p : Nat} {acc : BitVec 4} {ts : Int} (h : exec c s = .next ((s.setLevels p acc).zeroCross p 1 ts))
    (hsome : ∃ l, (l < 8 ∧ (s.tline l).run = true ∧ fld (s.tline l).ctl 24 4 = p) ∧ PulseIsEarly s p l ts)
    (hall : ∀ l, (l < 8 ∧ (s.tline l).run = true ∧ fld (s.tline l).ctl 24 4 = p) → PulseIsEarly s p l ts) :
    Does c s (fun t => (t.tport p).lv = acc ∧ (∀ q, q ≠ p → t.tport q = s.tport q) ∧ Only [.tports, .tlines, .regs] s t ∧
      t.tport p = { s.tport p with lv := acc } ∧ (∀ l, t.tline l = s.tline l) ∧ t.rb (piReg p 0x24) 11 = true ∧
      t.rf (piReg p 0x28) 16 8 = min 255 (s.rf (piReg p 0x28) 16 8 + 1) ∧ KeepRegs [piReg p 0x24, piReg p 0x28] s t) := by
  have hu := s.setLevels_accepting p acc
  have hne : (piReg p 0x28).addr ≠ (piReg p 0x24).addr := by simp only [piReg_addr]; omega
  have ho := (State.zeroCross_ev p 1 ts (s.setLevels_ev p acc (by rfl)) (by rfl) : Ev (fieldMask [.tports, .tlines, .regs]) s _).only_mask
  obtain ⟨hlv, hoth, hkeep, -⟩ := hu.zeroCross_frame 1 ts
  have heq := hu.zeroCross_discards 1 ts hsome hall
  refine .of_eq h ⟨hlv, hoth, ho, ?_, ?_, ?_, ?_, hkeep⟩
  · rw [heq]; exact hu.port
  · rw [heq]; exact hu.lines
  · rw [heq]; exact State.rb_sticky_self _ _ _ (by decide)
  · rw [heq]
    refine (State.rf_sticky_ne _ _ _ _ hne).trans ?_
    rw [State.rf_count_self _ _ _ _ _ (by decide)]; rfl

/-- R57, in the words of the statement: a pulse that the port counts. -/
theorem cross_counted {c : Instr} {s : State} {p : Nat} {acc : BitVec 4} {ts : Int} (h : exec c s = .next ((s.setLevels p acc).zeroCross p 1 ts))
    (huse : (∀ l, ¬ (l < 8 ∧ (s.tline l).run = true ∧ fld (s.tline l).ctl 24 4 = p)) ∨
      ∃ l, (l < 8 ∧ (s.tline l).run = true ∧ fld (s.tline l).ctl 24 4 = p) ∧ ¬ PulseIsEarly s p l ts) :
    let on (l : Nat) : Prop := l < 8 ∧ (s.tline l).run = true ∧ fld (s.tline l).ctl 24 4 = p
    Does c s (fun t => (t.tport p).lv = acc ∧ (∀ q, q ≠ p → t.tport q = s.tport q) ∧ Only [.tports, .tlines, .regs] s t ∧
      Counted s t p 1 ∧ (∀ l, ¬ on l → t.tline l = s.tline l) ∧
      (∀ l, on l → PulseIsEarly s p l ts → t.tline l = { s.tline l with mcnt := (s.tline l).mcnt - 1 }) ∧
      (∀ l, on l → ¬ PulseIsEarly s p l ts → t.tline l =
        { s.tline l with coast := false, misses := 0, edgeTs := ts, meas := some ⟨t.piPosBy p (s.tline l).mcnt, ts, false, true⟩ }) ∧
      ((∀ l, on l → ¬ PulseIsEarly s p l ts) → KeepRegs [] s t) ∧ KeepRegs [piReg p 0x24, piReg p 0x28] s t) := by
  intro on
  have hu := s.setLevels_accepting p acc
  have ho := (State.zeroCross_ev p 1 ts (s.setLevels_ev p acc (by rfl)) (by rfl) : Ev (fieldMask [.tports, .tlines, .regs]) s _).only_mask
  obtain ⟨hlv, hoth, hkeep, -⟩ := hu.zeroCross_frame 1 ts
  obtain ⟨hc, hline, hregs⟩ := hu.zeroCross_lines 1 ts huse
  refine .of_eq h ⟨hlv, hoth, ho, hc, fun l hl => ?_, fun l hl he => ?_, fun l hl he => ?_, fun hnone => ?_, hkeep⟩
  · rw [hline, if_neg (fun hm => hl ((s.mem_linesOf p l).mp hm))]
  · rw [hline, if_pos ((s.mem_linesOf p l).mpr hl), List.contains_iff_mem.mpr ((hu.mem_earlyLines ts l).mpr ⟨hl, he⟩)]; rfl
  · have hnot : ((s.setLevels p acc).earlyLines p ts).contains l = false :=
      Bool.eq_false_of_not_eq_true (fun hm => he ((hu.mem_earlyLines ts l).mp (List.contains_iff_mem.mp hm)).2)
    rw [hline, if_pos ((s.mem_linesOf p l).mpr hl), hnot]; rfl
  · refine (KeepRegs.of_regs rfl : KeepRegs [] s (s.setLevels p acc)).then_regs (hregs (fun l hm => ?_))
    obtain ⟨hl, he⟩ := (hu.mem_earlyLines ts l).mp hm
    exact hnone l hl he

namespace Machine

/-! INDEX_EDGE (R56). -/

/-- The port after its Z pin has been accepted high. -/
def State.zSeen (s : State) (p : Nat) : State := s.setLevels p (setBit (s.tport p).lv 2 (!s.rb (piReg p 0) 18))

/-- R56: what the index edge finds between the port's position and ZREF. -/
def State.zDiff (s : State) (p : Nat) : Int :=
  halfRange 16 ((s.rf (piReg p 0xC) 0 16 : Int) - ((s.tport p).pos + (s.tport p).zcorr) % 65536)

/-- R56: the counts that were lost. -/
def State.zLost (s : State) (p : Nat) : Nat :=
  let x := iabs (s.zDiff p) * s.piDen p
  if (s.piNum p : Int) = 0 then (Config.openQuot x 0).toNat else ((2 * x + s.piNum p) / (2 * (s.piNum p : Int))).toNat

/-- The index error reported. -/
def State.zReported (s : State) (p : Nat) : State := ((s.zSeen p).sticky (piReg p 0x24) 13).count (piReg p 0x28) 0 8 (s.zLost p)

/-- The port's correction taken (ZMODE 2 and 3). -/
def State.zCorrected (s : State) (p : Nat) : State :=
  (s.zReported p).setTport p { (s.zReported p).tport p with zcorr := (s.tport p).zcorr + s.zDiff p }

/-- R56: a line under ZMODE 2. -/
def TLine.zJump (d : Int) (n : TLine) : TLine :=
  { n with theta := n.theta + BitVec.ofInt 64 (n.inv (d * 65536)), edge := n.edge.map (· + n.inv (d * 65536)), jump := true, meas := n.measBy (d * 65536) }

/-- R56: a line under ZMODE 3. -/
def TLine.zSlew (d : Int) (n : TLine) : TLine :=
  { n with slewLeft := n.slewLeft + n.inv (d * 65536), edge := n.edge.map (· + n.inv (d * 65536)), meas := n.measBy (d * 65536) }

/-- R56: the lines of the port changed. -/
def State.zLines (s : State) (p : Nat) (f : TLine → TLine) : State := s.each (s.linesOf p) (fun s l => s.setTline l (f (s.tline l)))

theorem State.tline_zLines (s : State) (p : Nat) (f : TLine → TLine) (l : Nat) :
    (s.zLines p f).tline l = if l ∈ s.linesOf p then f (s.tline l) else s.tline l :=
  State.each_at (f := fun s l => s.setTline l (f (s.tline l))) (fun s => s.tline l) (fun _ => ()) (fun _ n => f n) (fun _ _ _ => rfl)
    (fun s _ => s.tline_setTline_same _ _) (fun s _ _ ha => s.tline_setTline_ne _ _ _ (Ne.symm ha)) s (s.linesOf_nodup p)

theorem State.tport_zLines (s : State) (p : Nat) (f : TLine → TLine) (q : Nat) : (s.zLines p f).tport q = s.tport q :=
  State.each_inv (f := fun s l => s.setTline l (f (s.tline l))) (fun s => s.tport q) (fun _ _ => rfl) s _

theorem State.regs_zLines (s : State) (p : Nat) (f : TLine → TLine) : (s.zLines p f).regs = s.regs :=
  State.each_inv (f := fun s l => s.setTline l (f (s.tline l))) State.regs (fun _ _ => rfl) s _

section
variable {p : Fin 16} {ts held : Nat} {s : State} (hrun : s.rb tlyStat 0 = true) (hact : s.piActive p = true) (htype : s.piType p = 1)
  (hheld : s.rf (piReg p 4) 8 6 ≤ held)

include hrun hact htype hheld in
theorem exec_indexEdge : exec (.indexEdge p ⟨ts, held⟩) s =
    if s.rf (piReg p 0) 14 2 = 0 then .next (s.zSeen p)
    else if iabs (s.zDiff p) ≤ (s.rf (piReg p 0xC) 16 16 : Int) then .next (s.zSeen p)
    else match s.rf (piReg p 0) 14 2 with
      | 1 => .next ((s.zReported p).each ((s.zSeen p).linesOf p) State.unlock)
      | 2 => .next ((s.zCorrected p).zLines p (TLine.zJump (s.zDiff p)))
      | _ => .next ((s.zCorrected p).zLines p (TLine.zSlew (s.zDiff p))) := by
  have hr : s.tallyRuns = true := hrun
  have hfil : s.piFilter p 2 = s.rf (piReg p 4) 8 6 := by unfold State.piFilter; rw [if_pos ⟨rfl, htype⟩]
  have hlt : ¬ held < s.rf (piReg p 4) 8 6 := by omega
  have hport : (s.zSeen p).tport p = { s.tport p with lv := setBit (s.tport p).lv 2 (!s.rb (piReg p 0) 18) } := s.tport_setTport_same _ _
  change execIndexEdge p ⟨ts, held⟩ s = _
  unfold execIndexEdge
  simp only [hr, hact, htype, hfil, hlt]
  unfold State.zSeen State.setLevels at hport
  rw [hport]
  rfl

end

end Machine

namespace Machine

theorem State.zSeen_accepting (s : State) (p : Nat) : Accepting s (s.zSeen p) p (setBit (s.tport p).lv 2 (!s.rb (piReg p 0) 18)) :=
  s.setLevels_accepting p _

theorem State.zReported_accepting (s : State) (p : Nat) : Accepting s (s.zReported p) p (setBit (s.tport p).lv 2 (!s.rb (piReg p 0) 18)) :=
  ((s.zSeen_accepting p).sticky 13).count 0 8 _

theorem State.zSeen_ev {m : Nat} (s : State) (p : Nat) (hm : Sub 32 m) : Ev m s (s.zSeen p) := s.setLevels_ev p _ hm

theorem State.zReported_regs (s : State) (p : Nat) :
    (s.zReported p).rb (piReg p 0x24) 13 = true ∧ (s.zReported p).rf (piReg p 0x28) 0 8 = min 255 (s.rf (piReg p 0x28) 0 8 + s.zLost p) := by
  have hne : (piReg p 0x24).addr ≠ (piReg p 0x28).addr := by simp only [piReg_addr]; omega
  unfold State.zReported
  rw [State.rb_count_ne _ _ _ _ _ hne, State.rb_sticky_self _ _ _ (by decide), State.rf_count_self _ _ _ _ _ (by decide), State.rf_sticky_ne _ _ _ _ hne.symm]
  exact ⟨rfl, rfl⟩

/-- R56: the lost counts, rounded to the nearest. -/
theorem State.zLost_near (s : State) (p : Nat) (h : 0 < portNum s p) :
    2 * (((s.zLost p : Int) * portNum s p - (s.zDiff p).natAbs * portDen s p).natAbs : Int) ≤ portNum s p := by
  rw [portNum_eq] at h ⊢
  rw [portDen_eq]
  have hx : 0 ≤ ((s.zDiff p).natAbs : Int) * s.piDen p := by positivity
  generalize hxd : ((s.zDiff p).natAbs : Int) * s.piDen p = x at hx
  have hq : 0 ≤ (2 * x + s.piNum p) / (2 * (s.piNum p : Int)) := Int.ediv_nonneg (by omega) (by omega)
  have hlost : (s.zLost p : Int) = (2 * x + s.piNum p) / (2 * (s.piNum p : Int)) := by
    unfold State.zLost
    dsimp only
    rw [iabs_eq, hxd, if_neg (by omega), Int.toNat_of_nonneg hq]
  have hdm := Int.mul_ediv_add_emod (2 * x + s.piNum p) (2 * (s.piNum p : Int))
  have h0 := Int.emod_nonneg (2 * x + s.piNum p) (show (2 * (s.piNum p : Int)) ≠ 0 by omega)
  have h1 := Int.emod_lt_of_pos (2 * x + s.piNum p) (show 0 < 2 * (s.piNum p : Int) by omega)
  rw [hlost]
  generalize (2 * x + s.piNum p) / (2 * (s.piNum p : Int)) = q at *
  have hqn : 2 * (s.piNum p : Int) * q = 2 * (q * s.piNum p) := by rw [Int.mul_assoc, Int.mul_comm (s.piNum p : Int) q]
  omega

theorem plReg_addr (l off : Nat) : (plReg l off).addr = 0x20020800 + 0x40 * l + off := rfl

/-- R51: what the unlocking of the port's lines leaves of a line and of its status. -/
theorem State.unlockLines_at (s : State) (p l : Nat) :
    (((s.each (s.linesOf p) State.unlock).tline l), (s.each (s.linesOf p) State.unlock).rb (plReg l 0x2C) 15) =
      if l ∈ s.linesOf p then ((s.tline l).unlocked, s.rb (plReg l 0x2C) 15 || (s.tline l).locked) else (s.tline l, s.rb (plReg l 0x2C) 15) := by
  refine State.each_at (fun s => (s.tline l, s.rb (plReg l 0x2C) 15)) (fun _ => ()) (fun _ x => (x.1.unlocked, x.2 || x.1.locked)) (fun _ _ _ => rfl)
    (fun s _ => ?_) (fun s a _ ha => ?_) s (s.linesOf_nodup p)
  · have hrb : (s.unlock l).rb (plReg l 0x2C) 15 = (s.rb (plReg l 0x2C) 15 || (s.tline l).locked) := by
      unfold State.rb
      rw [State.rget_unlock]
      have h := s.rb_stickyIf (s.tline l).locked (plReg l 0x2C) (i := 15) 15 (by decide)
      rw [decide_eq_true rfl, Bool.and_true] at h
      exact h
    dsimp only
    rw [State.tline_unlock, if_pos rfl, hrb]
  · have hne : (plReg l 0x2C).addr ≠ (plReg a 0x2C).addr := by
      simp only [plReg_addr]
      omega
    have hrb : (s.unlock a).rb (plReg l 0x2C) 15 = s.rb (plReg l 0x2C) 15 := by
      unfold State.rb
      rw [s.keepRegs_unlock a _ (by simpa using hne)]
    rw [State.tline_unlock, if_neg (Ne.symm ha), hrb]

theorem State.tline_unlockLines (s : State) (p l : Nat) :
    (s.each (s.linesOf p) State.unlock).tline l = if l ∈ s.linesOf p then (s.tline l).unlocked else s.tline l :=
  (congrArg Prod.fst (s.unlockLines_at p l)).trans (apply_ite Prod.fst _ _ _)

theorem State.rb_unlockLines (s : State) {p l : Nat} (hl : l ∈ s.linesOf p) :
    (s.each (s.linesOf p) State.unlock).rb (plReg l 0x2C) 15 = (s.rb (plReg l 0x2C) 15 || (s.tline l).locked) :=
  (congrArg Prod.snd (s.unlockLines_at p l)).trans (by rw [if_pos hl])

/-- The unlocking of lines writes no register of a port. -/
theorem State.rget_unlockLines (s : State) {p off : Nat} (hp : p < 16) (hoff : off < 0x40) :
    (s.each (s.linesOf p) State.unlock).rget (piReg p off) = s.rget (piReg p off) := by
  refine State.each_inv (fun s => s.rget (piReg p off)) (fun s a => s.keepRegs_unlock a _ ?_) s _
  simp only [List.mem_singleton, forall_eq, piReg_addr, plReg_addr]
  omega

theorem State.tport_unlock (s : State) (l q : Nat) : (s.unlock l).tport q = s.tport q := by
  have h : ∀ c : Bool, (if c then s.sticky (plReg l 0x2C) 15 else s).tport q = s.tport q := fun c => by cases c <;> rfl
  exact h _

/-- The registers that an index error under ZMODE 1, 2 or 3 may write. -/
def zRegs (p : Nat) : List Reg := [piReg p 0x24, piReg p 0x28] ++ (List.range 8).map (fun l => plReg l 0x2C)

theorem State.unlockLines_keeps {s u : State} {p : Nat} (h : KeepRegs (zRegs p) s u) : KeepRegs (zRegs p) s (u.each (u.linesOf p) State.unlock) := by
  refine h.each (fun t a ha ht => ht.trans ((t.keepRegs_unlock a).mono ?_))
  have ha8 := ((u.mem_linesOf p a).mp ha).1
  simpa [zRegs] using Or.inr (Or.inr ⟨a, ha8, rfl⟩)

theorem zRegs_of_accepting {s u : State} {p : Nat} {acc : BitVec 4} (h : Accepting s u p acc) : KeepRegs (zRegs p) s u :=
  h.regs.mono (List.subset_append_left _ _)

end Machine

/-- R56, in the words of the statement: ZMODE 1 unlocks, 2 jumps and 3 slews the port's lines. -/
theorem indexEdge_beyond {p : Fin 16} {ts held : Nat} {s : State} (hrun : s.rb tlyStat 0 = true) (hact : s.piActive p = true)
    (htype : s.piType p = 1) (hheld : s.rf (piReg p 4) 8 6 ≤ held) (hz : s.rf (piReg p 0) 14 2 ≠ 0)
    (hd : s.rf (piReg p 0xC) 16 16 < (s.zDiff p).natAbs) :
    let zm := s.rf (piReg p 0) 14 2
    let d := s.zDiff p
    let on (l : Nat) : Prop := l ∈ s.linesOf p
    let sgn (l : Nat) : Int := if bit (s.tline l).ctl 23 then -1 else 1
    ∃ t, exec (.indexEdge p ⟨ts, held⟩) s = .next t ∧
      t.tport p = { s.tport p with lv := setBit (s.tport p).lv 2 (!s.rb (piReg p 0) 18), zcorr := (s.tport p).zcorr + (if zm = 1 then 0 else d) } ∧
      (∀ q, q ≠ p.val → t.tport q = s.tport q) ∧ (∀ l, ¬ on l → t.tline l = s.tline l) ∧
      t.rb (piReg p 0x24) 13 = true ∧ t.rf (piReg p 0x28) 0 8 = min 255 (s.rf (piReg p 0x28) 0 8 + s.zLost p) ∧ KeepRegs (zRegs p) s t ∧
      (∀ l, on l → (t.tline l).locked = (decide (zm ≠ 1) && (s.tline l).locked) ∧ (t.tline l).valid = (s.tline l).valid ∧
        (zm = 1 → t.rb (plReg l 0x2C) 15 = (s.rb (plReg l 0x2C) 15 || (s.tline l).locked)) ∧
        (zm ≠ 1 → (t.tline l).meas = (s.tline l).meas.map (fun x => { x with m := x.m + d * 65536 })) ∧
        (zm = 2 → (t.tline l).theta = (s.tline l).theta + BitVec.ofInt 64 (sgn l * (d * 65536)) ∧ (t.tline l).jump = true) ∧
        (zm = 3 → (t.tline l).theta = (s.tline l).theta ∧ (t.tline l).slewLeft = (s.tline l).slewLeft + sgn l * (d * 65536))) := by
  intro zm d on sgn
  have hrep := s.zReported_accepting p
  obtain ⟨h13, hlost⟩ := s.zReported_regs p
  have hinv (l : Nat) (x : Int) : (s.tline l).inv x = sgn l * x := by
    change (if bit (s.tline l).ctl 23 then -x else x) = (if bit (s.tline l).ctl 23 then -1 else 1) * x
    split <;> omega
  have hexec := exec_indexEdge (ts := ts) hrun hact htype hheld
  rw [if_neg hz, if_neg (by rw [iabs_eq]; omega)] at hexec
  have hcport (q : Nat) : (s.zCorrected p).tport q = if q = p.val then
      { s.tport p with lv := setBit (s.tport p).lv 2 (!s.rb (piReg p 0) 18), zcorr := (s.tport p).zcorr + d } else s.tport q := by
    unfold State.zCorrected
    rw [State.tport_setTport, hrep.port]
    split
    · rfl
    · next hq => exact hrep.others q hq
  have hclines : (s.zCorrected p).linesOf p = s.linesOf p := hrep.linesOf p
  have hcline (l : Nat) : (s.zCorrected p).tline l = s.tline l := hrep.lines l
  have changed (f : TLine → TLine) (l : Nat) : ((s.zCorrected p).zLines p f).tline l = if on l then f (s.tline l) else s.tline l := by
    rw [State.tline_zLines, hclines, hcline]
  have hregs (f : TLine → TLine) : ((s.zCorrected p).zLines p f).regs = (s.zReported p).regs := State.regs_zLines _ _ _
  have hlt : zm < 4 := fld_lt _ _ _
  by_cases h1 : zm = 1
  · have heq : s.rf (piReg p 0) 14 2 = 1 := h1
    rw [heq] at hexec
    have hlines : (s.zSeen p).linesOf p = (s.zReported p).linesOf p := rfl
    have hrbr (l : Nat) : (s.zReported p).rb (plReg l 0x2C) 15 = s.rb (plReg l 0x2C) 15 := by
      unfold State.rb
      rw [hrep.regs]
      have hp := p.isLt
      simp only [List.mem_cons, List.not_mem_nil, or_false, forall_eq_or_imp, forall_eq, piReg_addr, plReg_addr]
      omega
    have hline (l : Nat) := (s.zReported p).tline_unlockLines p l
    have hport (q : Nat) : ((s.zReported p).each ((s.zReported p).linesOf p) State.unlock).tport q = (s.zReported p).tport q :=
      State.each_inv (fun s => s.tport q) (fun s l => s.tport_unlock l q) _ _
    have hreg {off : Nat} (hoff : off < 0x40) := (s.zReported p).rget_unlockLines p.isLt hoff
    simp only [hrep.lines, hrep.linesOf] at hline
    rw [hlines] at hexec
    refine ⟨_, hexec, ?_, fun q hq => ?_, fun l hl => (hline l).trans (if_neg hl), ?_, ?_, State.unlockLines_keeps (zRegs_of_accepting hrep),
      fun l hl => ⟨?_, ?_, fun _ => ?_, fun h => absurd h1 h, fun h => ?_, fun h => ?_⟩⟩
    · rw [hport, hrep.port, if_pos h1, Int.add_zero]
    · rw [hport, hrep.others q hq]
    · unfold State.rb; rw [hreg (by decide)]; exact h13
    · unfold State.rf; rw [hreg (by decide)]; exact hlost
    · rw [hrep.linesOf, hline, if_pos hl]; simp [h1, TLine.unlocked]
    · rw [hrep.linesOf, hline, if_pos hl]; rfl
    · rw [State.rb_unlockLines _ (by rw [hrep.linesOf]; exact hl), hrbr, hrep.lines]
    · exact absurd (h1.symm.trans h) (by decide)
    · exact absurd (h1.symm.trans h) (by decide)
  · have hsel : ∃ f : TLine → TLine, exec (.indexEdge p ⟨ts, held⟩) s = .next ((s.zCorrected p).zLines p f) ∧
        (∀ n, (f n).locked = n.locked ∧ (f n).valid = n.valid ∧ (f n).meas = n.measBy (d * 65536)) ∧
        (zm = 2 → f = TLine.zJump d) ∧ (zm = 3 → f = TLine.zSlew d) := by
      by_cases h2 : zm = 2
      · have heq : s.rf (piReg p 0) 14 2 = 2 := h2
        rw [heq] at hexec
        exact ⟨_, hexec, fun n => ⟨rfl, rfl, rfl⟩, fun _ => rfl, fun h => absurd (h2.symm.trans h) (by decide)⟩
      · have h3 : zm = 3 := by have : zm ≠ 0 := hz; omega
        have heq : s.rf (piReg p 0) 14 2 = 3 := h3
        rw [heq] at hexec
        exact ⟨_, hexec, fun n => ⟨rfl, rfl, rfl⟩, fun h => absurd h h2, fun _ => rfl⟩
    obtain ⟨f, hf, hsame, hjump, hslew⟩ := hsel
    have hon {l : Nat} (hl : on l) := (changed f l).trans (if_pos hl)
    refine ⟨_, hf, ?_, fun q hq => ?_, fun l hl => (changed f l).trans (if_neg hl), ?_, ?_, (zRegs_of_accepting hrep).then_regs (hregs f), fun l hl =>
      ⟨?_, ?_, fun h => absurd h h1, fun _ => ?_, fun h => ?_, fun h => ?_⟩⟩
    · rw [State.tport_zLines, hcport, if_pos rfl, if_neg h1]
    · rw [State.tport_zLines, hcport, if_neg hq]
    · rw [State.rb_of_regs (hregs f)]; exact h13
    · rw [State.rf_of_regs (hregs f)]; exact hlost
    · rw [hon hl, (hsame _).1]; simp [h1]
    · rw [hon hl, (hsame _).2.1]
    · rw [hon hl, (hsame _).2.2]; rfl
    · rw [hon hl, hjump h]; exact ⟨by rw [← hinv]; rfl, rfl⟩
    · rw [hon hl, hslew h]; exact ⟨rfl, by rw [← hinv]; rfl⟩

/-- Settles O13: each type of port is one equation of exec; its counts are a division with remainder, and a pulse splits the lines into those that
find it early and those that do not. -/
theorem phaseEdges : Obligations.PhaseEdges := by
  unfold Obligations.PhaseEdges
  refine ⟨?edge, ?index⟩
  case edge =>
    intro p lv ts held s
    refine ⟨fun hstop two => ?stopped, fun hrun acc hacc => ?_⟩
    case stopped =>
      have hr : s.tallyRuns = false := hstop
      change execPhaseInputEdge p lv ⟨ts, held⟩ two s = _
      unfold execPhaseInputEdge
      simp only [hr]
      rfl
    intro a b a' b' inv at_ dir on after twice illegal
    have time {n : Nat} (hn : s.piType p = n) (h8 : n ≠ 8) : s.edgeTime p ts = at_ := s.edgeTime_eq ts (hn ▸ h8)
    have hboth (h : s.rf (piReg p 4) 0 6 ≤ held) : (true && decide (s.rf (piReg p 4) 0 6 ≤ held)) = true := by simp [h]
    refine ⟨fun hidle => edge_idle ?_, fun hact => ⟨fun ht hmove => edge_counted ?_, fun ht => ⟨fun hmove => ?_, fun hh => ?_⟩,
      fun ht => ⟨fun h0 h1 => edge_counted ?_, fun hh => ?_⟩, fun ht => ⟨fun h0 h1 => edge_counted ?_, fun hh => ?_⟩, fun ht hh => ?_,
      fun ht hmove => ⟨fun ⟨hsome, hall⟩ => cross_discarded ?_ hsome hall, fun huse => cross_counted ?_ huse⟩⟩⟩
    case refine_1 =>
      cases hact : s.piActive p with
      | false => exact exec_edge_inactive false hrun hacc hact
      | true =>
        rcases hidle with h | h | h | ⟨ht, ha, hb⟩ | ⟨ht | ht, hn⟩ | ⟨ht, hn, hm⟩
        · exact absurd (hact.symm.trans h) (by decide)
        · exact exec_edge_other false hrun hacc hact (.inl h)
        · exact exec_edge_other false hrun hacc hact (.inr h)
        · refine (exec_edge_quad false hrun hacc hact ht).trans ?_
          change (if (a != a' && b != b') || _ then _ else if a != a' || b != b' then _ else _) = _
          rw [ha, hb]; simp
        · refine (exec_edge_step false hrun hacc hact ht).trans ?_
          change (if _ then _ else if !a && a' then _ else _) = _
          rw [not_rises _ _ hn]; rfl
        · refine (exec_edge_up false hrun hacc hact ht).trans ?_
          change (if _ then _ else if !a && a' then _ else _) = _
          rw [not_rises _ _ hn]; rfl
        · refine (exec_edge_cross false hrun hacc hact ht).trans ?_
          change (if _ then _ else if (!a && a') || (s.rb (piReg p 0) 12 && a && !a') then _ else _) = _
          rw [not_rises _ _ hn, if_neg (by simp), if_neg]
          simpa using hm
    case refine_2 =>
      refine (exec_edge_quad false hrun hacc hact ht).trans ?_
      obtain ⟨h1, h2⟩ := one_of_two_moves a b a' b' hmove
      change (if (a != a' && b != b') || _ then _ else if a != a' || b != b' then _ else _) = _
      rw [h1, h2, time ht (by decide), quadBack_eq]; rfl
    case refine_3 =>
      obtain ⟨hlv, hoth, hev, hc, hd, hkeep⟩ := illegalEdge_spec s p ts acc
      obtain ⟨h14, h15, hcnt, hlost⟩ := s.illegalEdge_regs p acc ts
      refine .of_eq ((exec_edge_quad false hrun hacc hact ht).trans (if_pos ?_)) ⟨hlv, hoth, hev.only_mask, hc, time ht (by decide) ▸ hd, h14, h15, hcnt, hlost, hkeep⟩
      rw [both_move a b a' b' hmove]; rfl
    case refine_4 =>
      obtain ⟨hlv, hoth, hev, hc, hd, hkeep⟩ := illegalEdge_spec s p ts acc
      obtain ⟨h14, h15, hcnt, hlost⟩ := s.illegalEdge_regs p acc ts
      refine .of_eq ((exec_edge_quad true hrun hacc hact ht).trans (if_pos ?_))
        ⟨hlv, hoth, h15, hev.only_mask.mono (by simp), hc, time ht (by decide) ▸ hd, h14, h15, hcnt, hlost, hkeep⟩
      rw [hboth hh, Bool.or_true]
    case refine_5 =>
      refine (exec_edge_step false hrun hacc hact ht).trans ?_
      change (if _ then _ else if !a && a' then _ else _) = _
      rw [rises _ _ h0 h1, time ht (by decide)]; rfl
    case refine_6 =>
      obtain ⟨t, he, hlv, hoth, hrb, ho, hc, hd, hk⟩ := edge_counted_twice ((exec_edge_step true hrun hacc hact ht).trans (if_pos (hboth hh)))
      exact ⟨t, he, hlv, hoth, hrb, ho, _, s.secondEdge_cases, hc, time ht (by decide) ▸ hd, hk⟩
    case refine_7 =>
      refine (exec_edge_up false hrun hacc hact ht).trans ?_
      change (if _ then _ else if !a && a' then _ else _) = _
      rw [rises _ _ h0 h1, time ht (by decide)]; rfl
    case refine_8 =>
      obtain ⟨t, he, hlv, hoth, hrb, ho, hc, hd, hk⟩ := edge_counted_twice ((exec_edge_up true hrun hacc hact ht).trans (if_pos (hboth hh)))
      exact ⟨t, he, hlv, hoth, hrb, ho, _, s.secondEdge_cases, hc, time ht (by decide) ▸ hd, hk⟩
    case refine_9 =>
      obtain ⟨hlv, hoth, hkeep, hrb⟩ := ((s.setLevels_accepting p acc).sticky 15).zeroCross_frame s.secondEdge (s.edgeTime p ts)
      refine .of_eq ((exec_edge_cross true hrun hacc hact ht).trans (if_pos (hboth hh))) ⟨hlv, hoth, ?_, ?_, hkeep⟩
      · exact (hrb 15 (by decide)).trans (State.rb_sticky_self _ _ _ (by decide))
      · exact (State.bumpFree_ev (State.zeroCross_ev _ _ _ (State.sticky_ev _ _ (s.setLevels_ev p acc (by rfl)) (by rfl)) (by rfl)) (by rfl)).only_mask
    all_goals
      refine (exec_edge_cross false hrun hacc hact ht).trans ?_
      change (if _ then _ else if (!a && a') || (s.rb (piReg p 0) 12 && a && !a') then _ else _) = _
      rw [if_neg (by simp), if_pos, time ht (by decide)]
      rcases hmove with ⟨h0, h1⟩ | ⟨hb, h0, h1⟩
      · rw [rises _ _ h0 h1]; rfl
      · rw [hb, h0, h1]; rfl
  case index =>
    intro p ts held s taken zm d on sgn
    have hon (l : Nat) : l ∈ s.linesOf p ↔ on l := s.mem_linesOf p l
    refine ⟨fun hno => ?_, fun htaken => ?_⟩
    · change execIndexEdge p ⟨ts, held⟩ s = _
      unfold execIndexEdge
      refine if_pos ?_
      by_contra hc
      refine hno ?_
      have hfil : s.piType p = 1 → s.piFilter p 2 = s.rf (piReg p 4) 8 6 := fun h => if_pos ⟨rfl, h⟩
      simp only [Bool.or_eq_true, Bool.not_eq_true', decide_eq_true_eq, not_or, Bool.not_eq_false, not_not, not_lt] at hc
      obtain ⟨⟨⟨hr, ha⟩, ht⟩, hf⟩ := hc
      exact ⟨hr, ha, ht, hfil ht ▸ hf⟩
    · obtain ⟨hrun, hact, htype, hheld⟩ := htaken
      have hlv (k : Nat) (hk : k < 4) : bit (s.piLevels p (setBit (s.tport p).lv 2 (!s.rb (piReg p 0) 18))) k =
          (decide (k = 2) || bit (s.piLevels p (s.tport p).lv) k) := by
        rw [bit_piLevels _ _ _ hk, bit_piLevels _ _ _ hk, bit_setBit _ _ _ _ (by decide)]
        by_cases h2 : k = 2
        · subst h2; simp
        · simp [h2]
      have hev := execIndexEdge_ev p ⟨ts, held⟩ (Ev.refl (fieldMask [.tports, .tlines, .regs]) s) (by rfl)
      by_cases hin : zm = 0 ∨ d.natAbs ≤ s.rf (piReg p 0xC) 16 16
      · have hexec : exec (.indexEdge p ⟨ts, held⟩) s = .next (s.zSeen p) := by
          refine (exec_indexEdge hrun hact htype hheld).trans ?_
          split
          · rfl
          · next hz => exact if_pos (by have := hin.resolve_left hz; rw [iabs_eq]; exact Int.ofNat_le.mpr this)
        have hz := s.zSeen_accepting p
        refine .of_eq hexec ⟨hev.only hexec, by rw [hz.port], fun k hk => by rw [hz.port]; exact hlv k hk, hz.others, fun l _ => hz.lines l,
          fun _ => ⟨.of_regs rfl, by rw [hz.port], hz.lines⟩, fun h0 hlt => ?_⟩
        exact absurd (hin.resolve_left h0) (Nat.not_le.mpr hlt)
      · obtain ⟨hz, hd⟩ := not_or.mp hin
        obtain ⟨t, hexec, hport, hoth, hoff, h13, hlost, hkeep, hlines⟩ :=
          indexEdge_beyond (ts := ts) hrun hact htype hheld hz (Nat.not_le.mp hd)
        refine .of_eq hexec ⟨hev.only hexec, by rw [hport], fun k hk => by rw [hport]; exact hlv k hk, hoth, fun l hl => hoff l (mt (hon l).mp hl),
          fun h => absurd h hin, fun _ _ => ⟨h13, fun hnum => ⟨_, s.zLost_near p hnum, hlost⟩, by rw [hport]; rfl, hkeep,
            fun l hl => hlines l ((hon l).mpr hl)⟩⟩

end Sys2Proof
end

section
/-! Clean tokens given to a channel (R124, R125, R357), violation counters (R33), and the statement of the down-ferries (R457, R460 to R464). -/

namespace Sys2Proof

open Machine

namespace Machine

/-! The report of a clean token (R125). -/

@[simp] theorem garble_clean (free : BitVec 64) (t : Tok) : garble 0 free t = t := if_pos rfl

theorem State.codeReport_clean (s : State) (key r : Nat) (g port : Option Nat) :
    s.codeReport 0 key r g port = if s.codePending key then { s.transient r with codePend := s.codePend.filter (· != key) } else s := by
  unfold State.codeReport
  exact if_neg (by simp)

/-- The report of a clean token writes the registers and the record of code errors alone. -/
theorem State.codeReport_clean_frame {β : Type} (φ : State → β) (hφ : ∀ s regs pend, φ { s with regs := regs, codePend := pend } = φ s) (s : State)
    (key r : Nat) (g port : Option Nat) : φ (s.codeReport 0 key r g port) = φ s := by
  rw [State.codeReport_clean]
  split
  · exact hφ s (s.transient r).regs _
  · rfl

theorem State.keepRegs_codeReport_clean (s : State) (key r : Nat) (g port : Option Nat) : KeepRegs [tnkErr r] s (s.codeReport 0 key r g port) := by
  rw [State.codeReport_clean]
  split
  · exact (KeepRegs.refl _ s).count 16 16 1 List.mem_cons_self
  · exact .refl _ s

/-! A clean token given to the first stage of a channel. -/

theorem State.chan_setChan (s : State) (i k : Nat) (x : Chan) : (s.setChan i x).chan k = if k = i then x else s.chan k :=
  Store.get_put _ _ _ _ _

/-- The state after the first stage of the channel of source `src` took the clean token `t`. -/
def State.fed (s : State) (src : Word) (t : Tok) : State :=
  (s.setChan (chKey src) ((s.chan (chKey src)).push t)).codeReport 0 (placeKey 2 (chKey src)) (epRegion src) none none

theorem State.feedBad_clean {s : State} {src : Word} (t : Tok) {st : List (Option Tok)} (hst : (s.chan (chKey src)).stages = none :: st)
    (hb : (s.chan (chKey src)).broken = false) : s.feedBad src t 0 = some (s.fed src t) := by
  simp [State.feedBad, State.feed, State.fed, garble, Chan.connected, Chan.room, hst, hb]

theorem State.feedBad_full {s : State} {src : Word} (t : Tok) (bad : BitVec 17) (hne : (s.chan (chKey src)).stages ≠ [])
    (hroom : (s.chan (chKey src)).broken = true ∨ (s.chan (chKey src)).room = false) : s.feedBad src t bad = none := by
  have h : (s.chan (chKey src)).connected = true := by simpa [Chan.connected] using hne
  have h2 : ((s.chan (chKey src)).broken || !(s.chan (chKey src)).room) = true := by
    rcases hroom with h | h <;> simp [h]
  simp [State.feedBad, State.feed, h, h2]

theorem State.chan_fed (s : State) (src : Word) (t : Tok) (k : Nat) :
    (s.fed src t).chan k = if k = chKey src then (s.chan k).push t else s.chan k := by
  refine (State.codeReport_clean_frame (fun u => u.chan k) (fun _ _ _ => rfl) _ _ _ _ _).trans ?_
  rw [State.chan_setChan]
  split
  · next h => subst h; rfl
  · rfl

theorem State.stages_fed {s : State} {src : Word} (t : Tok) {st : List (Option Tok)} (hst : (s.chan (chKey src)).stages = none :: st) :
    ((s.fed src t).chan (chKey src)).stages = some t :: st := by
  rw [State.chan_fed, if_pos rfl, Chan.push, hst]

theorem State.chan_fed_ne (s : State) (src : Word) (t : Tok) {k : Nat} (h : k ≠ chKey src) : (s.fed src t).chan k = s.chan k := by
  rw [State.chan_fed, if_neg h]

theorem State.keepRegs_fed (s : State) (src : Word) (t : Tok) : KeepRegs [tnkErr (epRegion src)] s (s.fed src t) := by
  have hput : KeepRegs [tnkErr (epRegion src)] s (s.setChan (chKey src) ((s.chan (chKey src)).push t)) := .of_regs rfl
  exact hput.trans (State.keepRegs_codeReport_clean _ _ _ _ _)

/-- What a token given to a channel leaves alone. -/
theorem State.fed_frame {β : Type} (φ : State → β) (hφ : ∀ s chans regs pend, φ { s with chans := chans, regs := regs, codePend := pend } = φ s)
    (s : State) (src : Word) (t : Tok) : φ (s.fed src t) = φ s :=
  (State.codeReport_clean_frame φ (fun u regs pend => hφ u u.chans regs pend) _ _ _ _ _).trans (hφ s _ s.regs s.codePend)

theorem ok_congr {s t : State} (h : s = t) : ok s = ok t := congrArg ok h

/-! Violations counted (R33). -/

theorem State.violAt_countsAt (s : State) (g : Reg) : CountsAt g s (s.violAt g) :=
  ⟨State.rf_count_self _ _ _ _ _ (by decide),
   fun i hi => State.rb_count _ _ _ _ _ _ (Or.inr hi), (KeepRegs.refl _ s).count _ _ _ List.mem_cons_self,
   (State.violAt_ev (m := fieldMask [.regs]) g (Ev.refl _ s) (by rfl)).only_mask⟩

theorem State.violAt_countedAt {s t : State} {g : Reg} {l : List Field} (ht : t = s.violAt g) (hl : Field.regs ∈ l) : CountedAt g l s t := by
  subst ht
  obtain ⟨h1, -, h3, h4⟩ := s.violAt_countsAt g
  exact ⟨h1, h3, h4.mono (by simpa using hl)⟩

end Machine

end Sys2Proof
end

section
/-! The down-ferries (R457, R460 to R464): what a write to TX or PULSE, a crossing and a token given to the channel make of a ferry. -/

namespace Sys2Proof

open Machine

namespace Machine

theorem State.dnf_setDnf (s : State) (i k : Nat) (x : Ferry) : (s.setDnf i x).dnf k = if k = i then x else s.dnf k :=
  Store.get_put _ _ _ _ _

/-! TX (R464). -/

/-- The token a write to TX gives. -/
def txTok (v : BitVec 64) : Tok := ⟨v.setWidth 32, bit v 32, bit v 33⟩

theorem txTok_eq (v : BitVec 64) : txTok v = { d := v.extractLsb' 0 32, p := bit v 32, f := bit v 33 } := by
  have h : v.setWidth 32 = v.extractLsb' 0 32 := by
    ext i hi
    simp
  simp [txTok, h]

theorem State.txPut_refused {s : State} {n : Nat} (v : BitVec 64)
    (h : ¬ s.rf (dnReg n 0) 29 2 = 1 ∨ kindOf (s.rget (dnReg n 0)) false = .off ∨ kindOf (s.rget (dnReg n 0)) false = .pulse) : s.txPut n v = s := by
  by_cases hd : s.rf (dnReg n 0) 29 2 = 1
  · unfold State.txPut
    refine (if_neg (Decidable.not_not.mpr hd)).trans ?_
    rcases h with h | h | h
    · exact absurd hd h
    all_goals simp only [h]
  · exact if_pos hd

variable {s : State} {n : Nat} (v : BitVec 64) (hd : s.rf (dnReg n 0) 29 2 = 1)
include hd

theorem State.txPut_latest (hk : kindOf (s.rget (dnReg n 0)) false = .latest) : s.txPut n v = s.setDnf n { s.dnf n with q := [txTok v] } := by
  unfold State.txPut
  refine (if_neg (Decidable.not_not.mpr hd)).trans ?_
  simp only [hk]
  rfl

theorem State.txPut_room (hk : kindOf (s.rget (dnReg n 0)) false = .word ∨ kindOf (s.rget (dnReg n 0)) false = .stream)
    (hq : (s.dnf n).q.length < if kindOf (s.rget (dnReg n 0)) false = .word then 1 else 8) :
    s.txPut n v = s.setDnf n { s.dnf n with q := (s.dnf n).q ++ [txTok v] } := by
  unfold State.txPut
  refine (if_neg (Decidable.not_not.mpr hd)).trans ?_
  rcases hk with hk | hk <;> rw [hk] at hq <;> simp only [hk] <;> exact if_pos hq

theorem State.txPut_full (hk : kindOf (s.rget (dnReg n 0)) false = .word ∨ kindOf (s.rget (dnReg n 0)) false = .stream)
    (hq : (if kindOf (s.rget (dnReg n 0)) false = .word then 1 else 8) ≤ (s.dnf n).q.length) : s.txPut n v = s.sticky (dnReg n 4) 29 := by
  unfold State.txPut
  refine (if_neg (Decidable.not_not.mpr hd)).trans ?_
  rcases hk with hk | hk <;> rw [hk] at hq <;> simp only [hk] <;> exact if_neg (Nat.not_lt.mpr hq)

end Machine
open Machine

/-- What storing a ferry leaves. -/
theorem setDnf_holds (s : State) (n : Nat) (f : Ferry) :
    (s.setDnf n f).dnf n = f ∧ (∀ m, m ≠ n → (s.setDnf n f).dnf m = s.dnf m) ∧ KeepRegs [] s (s.setDnf n f) ∧ Only [.regs, .dns] s (s.setDnf n f) :=
  ⟨s.dnf_setDnf_same n f, fun _ hm => s.dnf_setDnf_ne _ _ _ hm, .of_regs rfl,
    ((Ev.refl (fieldMask [.regs, .dns]) s).setDnf (by rfl) n f).only_mask⟩

/-- What setting a sticky bit leaves. -/
theorem sticky_sets (s : State) (g : Reg) {i : Nat} (hi : i < 64) :
    (s.sticky g i).rb g i = true ∧ (∀ j, j ≠ i → (s.sticky g i).rb g j = s.rb g j) ∧ KeepRegs [g] s (s.sticky g i) ∧ Only [.regs] s (s.sticky g i) :=
  ⟨s.rb_sticky_self g i hi, fun _ hj => s.rb_sticky_bit _ _ _ hj, (KeepRegs.refl _ s).sticky i List.mem_cons_self,
    (State.sticky_ev (m := fieldMask [.regs]) g i (Ev.refl _ s) (by rfl)).only_mask⟩

/-! Pulses (R462). -/

/-- What one pulse makes of a ferry, by `get` and `set` of it in a state that `s` has become but for the registers `more`. -/
theorem pulseIn_pulsed {s u : State} {f : Ferry} {stat : Reg} {more : List Reg} (p : Bool) {n : Nat} (hf : u.dnf n = f) (hu : KeepRegs more s u)
    (hstat : u.rget stat = s.rget stat) :
    let t := pulseIn u f stat p (fun s f => s.setDnf n f)
    Pulsed s t f (t.dnf n) stat more p ∧ ∀ m, m ≠ n → t.dnf m = u.dnf m := by
  have hrf : u.rf stat 0 4 = s.rf stat 0 4 := congrArg (fun v => fld v 0 4) hstat
  have hrb : u.rb stat 30 = s.rb stat 30 := congrArg (fun v => bit v 30) hstat
  have hmore : KeepRegs (stat :: more) s u := hu.mono (List.subset_cons_self _ _)
  cases hx : f.xfer with
  | none =>
    have ht : pulseIn u f stat p (fun s f => s.setDnf n f) = u.setDnf n { f with xfer := some (1, p) } := by unfold pulseIn; rw [hx]
    rw [ht]
    refine ⟨⟨fun _ => ⟨State.dnf_setDnf_same _ _ _, hu.then_regs rfl⟩, ?_, ?_⟩, fun m hm => State.dnf_setDnf_ne _ _ _ _ hm⟩
    · exact fun h => absurd hx h
    · exact fun h => absurd hx h
  | some x =>
    by_cases hc : s.rf stat 0 4 = 15
    · have ht : pulseIn u f stat p (fun s f => s.setDnf n f) = u.sticky stat 30 := by unfold pulseIn; rw [hx]; exact if_pos (hrf.trans hc)
      rw [ht]
      refine ⟨⟨fun h => ?_, fun _ h => ?_, fun _ _ => ⟨hf, ?_, u.rb_sticky_self _ _ (by decide), hmore.sticky 30 List.mem_cons_self⟩⟩, fun _ _ => rfl⟩
      · cases hx.symm.trans h
      · omega
      · rw [u.rf_sticky _ _ _ _ (by decide), hrf, hc]
    · have ht : pulseIn u f stat p (fun s f => s.setDnf n f) = (u.rsetf stat 0 4 (s.rf stat 0 4 + 1)).setDnf n { f with cntP := f.cntP || p } := by
        unfold pulseIn; rw [hx, hrf]; exact if_neg hc
      rw [ht]
      refine ⟨⟨fun h => ?_, fun _ h => ⟨State.dnf_setDnf_same _ _ _, ?_, ?_, (hmore.rsetf 0 4 _ List.mem_cons_self).then_regs rfl⟩, fun _ h => absurd h hc⟩,
        fun m hm => State.dnf_setDnf_ne _ _ _ _ hm⟩
      · cases hx.symm.trans h
      · refine (u.rf_rsetf_self stat 0 4 _ (by decide)).trans (Nat.mod_eq_of_lt ?_)
        omega
      · exact (u.rb_rsetf stat 0 4 _ 30 (by decide)).trans hrb

/-- The transfer of a pulse ferry accepted in a state whose STAT is that of `s`. -/
theorem pulseNext_next {s u : State} (f : Ferry) {stat : Reg} {more : List Reg} (n : Nat) (hu : KeepRegs more s u) (hstat : u.rget stat = s.rget stat) :
    let t := pulseNext u f stat (fun s f => s.setDnf n f)
    NextPulse s t f (t.dnf n) stat ∧ KeepRegs (stat :: more) s t ∧ (∀ m, m ≠ n → t.dnf m = u.dnf m) ∧ t.chans = u.chans := by
  have hrf : u.rf stat 0 4 = s.rf stat 0 4 := congrArg (fun v => fld v 0 4) hstat
  have hmore : KeepRegs (stat :: more) s u := hu.mono (List.subset_cons_self _ _)
  by_cases hc : s.rf stat 0 4 = 0
  · have ht : pulseNext u f stat (fun s f => s.setDnf n f) = u.setDnf n { f with xfer := none, crossed := false } := by
      unfold pulseNext; exact if_pos (hrf.trans hc)
    rw [ht]
    exact ⟨⟨fun _ => State.dnf_setDnf_same _ _ _, fun h => absurd hc h, hrf.trans hc⟩, hmore.then_regs rfl,
      fun m hm => State.dnf_setDnf_ne _ _ _ _ hm, rfl⟩
  · have ht : pulseNext u f stat (fun s f => s.setDnf n f) =
        (u.rsetf stat 0 4 0).setDnf n { f with xfer := some (s.rf stat 0 4, f.cntP), cntP := false, crossed := false } := by
      unfold pulseNext; rw [hrf]; exact if_neg hc
    rw [ht]
    exact ⟨⟨fun h => absurd h hc, fun _ => State.dnf_setDnf_same _ _ _, u.rf_rsetf_self stat 0 4 0 (by decide)⟩,
      (hmore.rsetf 0 4 0 List.mem_cons_self).then_regs rfl, fun m hm => State.dnf_setDnf_ne _ _ _ _ hm, rfl⟩

/-! The moves into the channel. -/

theorem epRegion_epSeam (n : Fin 128) : epRegion (epSeam (n.val / 32) (n.val % 32)) = n.val / 32 * 8 := by
  revert n; decide

theorem dnReg_addr (n off : Nat) : (dnReg n off).addr = 0x20092000 + 0x20 * n + off := rfl

theorem tnkErr_addr (r : Nat) : (tnkErr r).addr = 0x100800010 + 0x10000000 * (r / 8) + 0x1000000 * (r % 8) := by
  simp only [tnkErr, Reg.addr, Blk.base, winBase]
  omega

theorem dnReg_ne_tnkErr (n : Fin 128) {off : Nat} (h : off < 0x20) (r : Nat) : (dnReg n off).addr ≠ (tnkErr r).addr := by
  rw [dnReg_addr, tnkErr_addr]
  omega

section Gives
variable {s : State} {n : Fin 128} {more : List (Option Tok)} (hcross : (s.dnf n).crossed = true) (hoff : kindOf (s.rget (dnReg n 0)) false ≠ .off)
  (hst : (s.chan (chKey (epSeam (n.val / 32) (n.val % 32)))).stages = none :: more)
  (hb : (s.chan (chKey (epSeam (n.val / 32) (n.val % 32)))).broken = false)
include hcross hoff hst hb

theorem State.dnGive_count {x : Nat} {p : Bool} (hx : (s.dnf n).xfer = some (x, p)) :
    s.dnGive n 0 = pulseNext (s.fed (epSeam (n.val / 32) (n.val % 32)) { d := BitVec.ofNat 32 x }) (s.dnf n) (dnReg n 4) (fun s f => s.setDnf n f) := by
  unfold State.dnGive
  refine (if_neg (by simp [hcross, hoff])).trans ?_
  simp only [hx, State.feedBad_clean _ hst hb]

theorem State.dnGive_word {t : Tok} {q : List Tok} (hx : (s.dnf n).xfer = none) (hq : (s.dnf n).q = t :: q) :
    s.dnGive n 0 = (s.fed (epSeam (n.val / 32) (n.val % 32)) t).setDnf n { s.dnf n with q := q, crossed := false } := by
  unfold State.dnGive
  refine (if_neg (by simp [hcross, hoff])).trans ?_
  simp only [hx, hq, State.feedBad_clean _ hst hb]

end Gives

theorem State.dnGive_waits {s : State} {n : Nat} (h : (s.dnf n).crossed = false) (bad : BitVec 17) : s.dnGive n bad = s := by
  unfold State.dnGive
  exact if_pos (by simp [h])

theorem State.pulseGo_pulse {s : State} {n : Nat} {w : Word} (hd : s.rf (dnReg n 0) 29 2 = 1) (hk : kindOf (s.rget (dnReg n 0)) false = .pulse)
    (hw : bit w 0 = true) : s.pulseGo n w = pulseIn s (s.dnf n) (dnReg n 4) false (fun s f => s.setDnf n f) := by
  unfold State.pulseGo
  exact if_pos (by simpa [hk, hw, State.rf] using hd)

theorem State.pulseGo_refused {s : State} {n : Nat} {w : Word}
    (h : ¬ s.rf (dnReg n 0) 29 2 = 1 ∨ kindOf (s.rget (dnReg n 0)) false ≠ .pulse ∨ bit w 0 = false) : s.pulseGo n w = s := by
  unfold State.pulseGo
  refine if_neg ?_
  rcases h with h | h | h
  · simpa [State.rf] using fun _ _ => h
  · simp [h]
  · simp [h]

theorem State.dnCross_held {s : State} {n : Nat} (h : (s.dnf n).q ≠ [] ∨ (s.dnf n).xfer ≠ none) : s.dnCross n = s.setDnf n { s.dnf n with crossed := true } := by
  unfold State.dnCross
  refine if_neg ?_
  rcases h with h | h <;> simp [h]

/-- Settles O32. Each write, crossing and move is one of the equations above; the frame comes from the law of its meaning. -/
theorem downFerries : Obligations.DownFerries := by
  unfold Obligations.DownFerries
  refine ⟨fun iss n v s hiss => ⟨fun h => ?_, fun hd hk => ?_, fun hd hk hq => ?_, fun hd hk hq => ?_, fun w hd hk hw => ?_, fun w h => ?_⟩,
    fun iss n v w s hiss => ⟨?_, ?_⟩, fun n s h => ?_, fun n s more hcross hoff hst hb => ⟨fun x p hx => ?_, fun t q hx hq => ?_⟩,
    fun n s h bad => ok_congr (State.dnGive_waits h bad), fun n s => ⟨fun hk => ?_, fun hk => ?_⟩, fun x s => ⟨rfl, rfl⟩⟩
  · exact ok_congr ((s.guarded_mgmt hiss _ _ _).trans (State.txPut_refused v h))
  · refine .of_eq (ok_congr ((s.guarded_mgmt hiss _ _ _).trans (State.txPut_latest v hd hk))) ?_
    rw [txTok_eq]
    exact setDnf_holds _ _ _
  · refine .of_eq (ok_congr ((s.guarded_mgmt hiss _ _ _).trans (State.txPut_room v hd hk hq))) ?_
    rw [txTok_eq]
    exact setDnf_holds _ _ _
  · exact .of_eq (ok_congr ((s.guarded_mgmt hiss _ _ _).trans (State.txPut_full v hd hk hq))) (sticky_sets s _ (by decide))
  · have hexec := ok_congr ((s.guarded_mgmt hiss .fryDn n.val (fun s => s.pulseGo n.val w)).trans (State.pulseGo_pulse hd hk hw))
    obtain ⟨hp, ho⟩ := pulseIn_pulsed (stat := dnReg n 4) (f := s.dnf n) false rfl (.refl [] s) rfl
    exact .of_eq hexec ⟨hp, ho, (execPulseWrite_ev iss n w (Ev.refl (fieldMask [.regs, .dns]) s) (by rfl)).only hexec⟩
  · exact ok_congr ((s.guarded_mgmt hiss _ _ _).trans (State.pulseGo_refused h))
  · exact .of_eq (ok_congr (s.guarded_other hiss _ _ _)) (s.violAt_countsAt _)
  · exact .of_eq (ok_congr (s.guarded_other hiss _ _ _)) (s.violAt_countsAt _)
  · exact .of_eq (ok_congr (State.dnCross_held h)) ⟨s.dnf_setDnf_same _ _, fun _ hm => s.dnf_setDnf_ne _ _ _ hm,
      ((Ev.refl (fieldMask [.dns]) s).setDnf (by rfl) _ _).only_mask⟩
  · have hregs := epRegion_epSeam n ▸ s.keepRegs_fed (epSeam (n.val / 32) (n.val % 32)) { d := BitVec.ofNat 32 x }
    obtain ⟨hnext, hkeep, hother, hchan⟩ := pulseNext_next (stat := dnReg n 4) (s.dnf n) n hregs
      (hregs _ (fun g hg => by rw [List.mem_singleton.mp hg]; exact dnReg_ne_tnkErr n (by decide) _))
    have hch (k : Nat) : (pulseNext (s.fed (epSeam (n.val / 32) (n.val % 32)) { d := BitVec.ofNat 32 x }) (s.dnf n) (dnReg n 4) (fun s f => s.setDnf n f)).chan k =
        (s.fed (epSeam (n.val / 32) (n.val % 32)) { d := BitVec.ofNat 32 x }).chan k := by unfold State.chan; rw [hchan]
    refine .of_eq (ok_congr (State.dnGive_count hcross hoff hst hb hx)) ⟨⟨?_, fun k hk => ?_, fun m hm => ?_⟩, hnext, hkeep⟩
    · rw [hch, State.stages_fed _ hst]
    · rw [hch, State.chan_fed_ne _ _ _ hk]
    · rw [hother m hm]
      exact s.fed_frame (fun u => u.dnf m) (fun _ _ _ _ => rfl) _ _
  · refine .of_eq (ok_congr (State.dnGive_word hcross hoff hst hb hx hq))
      ⟨⟨State.stages_fed t hst, fun k hk => State.chan_fed_ne _ _ _ hk, fun m hm => ?_⟩, State.dnf_setDnf_same _ _ _, ?_⟩
    · rw [State.dnf_setDnf_ne _ _ _ _ hm]
      exact s.fed_frame (fun u => u.dnf m) (fun _ _ _ _ => rfl) _ _
    · exact KeepRegs.then_regs (epRegion_epSeam n ▸ s.keepRegs_fed _ t) rfl
  · exact .of_eq (if_pos hk) (sticky_sets s _ (by decide))
  · exact if_neg hk

end Sys2Proof
end

section
/-! What a reset leaves of a state whose pin store is not in its canonical form: the statements of the resets and of the watchdogs. -/

namespace Sys2Proof

open Machine

/-- A state that lists pin 0 twice, first with a mark token and a low pad: `pin 0` reads the first entry. Watchdog 4 runs with RST = 1. -/
def pinTwice : State := { pins := [(0, { mt := some {} }), (0, { pad := true })], regs := [((wdgReg 4 0).addr, 0xC0000000)] }

/-- The first entry keeps nothing over a reset and goes, so the second is read afterwards. -/
theorem pinTwice_reset : pinTwice.packageReset.pin 0 = { pad := true } ∧ (pinTwice.sticky wdgStat 4).packageReset.pin 0 = { pad := true } := by
  decide

/-- Refutes O47: a package reset keeps of each listed pin its pad and drops the entries that are then at their defaults. Of a pin listed twice the
first entry can go and the second come to light: the pad of pin 0 was low (`pinTwice`), and reads high after the reset. -/
theorem not_resetsAndBoot : ¬ Obligations.ResetsAndBoot := by
  unfold Obligations.ResetsAndBoot
  rintro ⟨-, hdip, -⟩
  obtain ⟨⟨t, ht, hreset⟩, -⟩ := hdip pinTwice
  have hexec : exec .vinDipPackageReset pinTwice = .next pinTwice.packageReset := rfl
  obtain rfl : pinTwice.packageReset = t := by rw [hexec] at ht; injection ht
  have hpin := hreset.pins 0
  rw [pinTwice_reset.1] at hpin
  exact absurd hpin (by decide)

/-- Refutes O48: with RST = 1 the expiry of watchdog 4 resets the package, and what is said of the pads fails as in O47, on the state `pinTwice`. -/
theorem not_watchdogs : ¬ Obligations.Watchdogs := by
  unfold Obligations.Watchdogs
  rintro ⟨-, -, hexpiry⟩
  obtain ⟨-, -, -, -, hpackage, -⟩ := hexpiry 4 pinTwice
  obtain ⟨t, ht, hreset, -⟩ := hpackage (by decide) rfl (by decide)
  have hexec : exec (.watchdogExpiry 4) pinTwice = .next (pinTwice.sticky wdgStat 4).packageReset := rfl
  obtain rfl : (pinTwice.sticky wdgStat 4).packageReset = t := by rw [hexec] at ht; injection ht
  have hpin := hreset.pins 0
  rw [pinTwice_reset.2] at hpin
  exact absurd hpin (by decide)

end Sys2Proof
end

section
/-! The GPIO block, its interrupt lines and the timers (R398 to R406, R417 to R419). -/

namespace Sys2Proof

open Machine

namespace Machine

/-! Sums of single bits, and registers bit by bit. -/

/-- The number with bit `q` set where `c q`, for `q < n`. -/
def bitSum (c : Nat → Bool) (n : Nat) : Nat := (List.range n).foldl (fun a q => a + (if c q then 2 ^ q else 0)) 0

theorem bitSum_succ (c : Nat → Bool) (n : Nat) : bitSum c (n + 1) = bitSum c n + if c n then 2 ^ n else 0 := by
  simp [bitSum, List.range_succ]

theorem bitSum_lt (c : Nat → Bool) (n : Nat) : bitSum c n < 2 ^ n := by
  induction n with
  | zero => simp [bitSum]
  | succ n ih =>
    rw [bitSum_succ, Nat.pow_succ]
    split <;> omega

theorem testBit_bitSum (c : Nat → Bool) (n j : Nat) : (bitSum c n).testBit j = (decide (j < n) && c j) := by
  induction n with
  | zero => simp [bitSum]
  | succ n ih =>
    rw [bitSum_succ]
    by_cases hc : c n = true
    · rw [if_pos hc, Nat.add_comm]
      by_cases hj : j = n
      · subst hj
        rw [Nat.testBit_two_pow_add_eq, ih]
        simp [hc]
      · by_cases hlt : j < n
        · rw [Nat.testBit_two_pow_add_gt hlt, ih]
          simp [hlt, Nat.lt_succ_of_lt hlt]
        · have hsum : 2 ^ n + bitSum c n < 2 ^ j :=
            calc 2 ^ n + bitSum c n < 2 ^ (n + 1) := by rw [Nat.pow_succ]; have := bitSum_lt c n; omega
              _ ≤ 2 ^ j := Nat.pow_le_pow_right (by decide) (by omega)
          rw [Nat.testBit_lt_two_pow hsum]
          simp [show ¬ j < n + 1 by omega]
    · rw [if_neg hc, Nat.add_zero, ih]
      by_cases hj : j = n
      · subst hj; simp [hc]
      · congr 1
        simp only [decide_eq_decide]
        omega

theorem bit_or {n : Nat} (v w : BitVec n) (j : Nat) : bit (v ||| w) j = (bit v j || bit w j) := BitVec.getLsbD_or

theorem bit_and {n : Nat} (v w : BitVec n) (j : Nat) : bit (v &&& w) j = (bit v j && bit w j) := BitVec.getLsbD_and

theorem bit_not {n : Nat} (v : BitVec n) {j : Nat} (hj : j < n) : bit (~~~v) j = !bit v j := by
  simp [bit, hj]

theorem bit_ofNat64 (x : Nat) {j : Nat} (hj : j < 64) : bit (BitVec.ofNat 64 x) j = x.testBit j := by
  rw [bit, BitVec.getLsbD_ofNat]
  simp [hj]

theorem bit_ge {n : Nat} (v : BitVec n) {j : Nat} (hj : n ≤ j) : bit v j = false := BitVec.getLsbD_of_ge _ _ hj

theorem bit_lowMask {j : Nat} (hj : j < 64) : bit (0xFFFF : RegVal) j = decide (j < 16) := by
  revert j; decide

theorem gpioReg_addr (off : Nat) : (gpioReg off).addr = 0x20000000 + off := rfl

theorem portReg_addr (x off : Nat) : (portReg x off).addr = 0x20000000 + (0x20 * x + off) := rfl

/-! A change of the block (R253, R398). -/

/-- The keeper of pad `i` after a change of the block in state `s`. -/
theorem State.gkeep_gpioDo (s : State) (f : State → State) (hf : ∀ i, (f s).gkeep i = s.gkeep i) (i : Nat) :
    (s.gpioDo f).gkeep i = if i < 64 ∧ (s.gdrive (i / 16) (i % 16)).isSome = true then s.gpad (i / 16) (i % 16) else s.gkeep i := by
  have h := State.each_at (get := fun t => t.gkeep i) (φ := fun _ => ())
    (F := fun _ b => if (s.gdrive (i / 16) (i % 16)).isSome then s.gpad (i / 16) (i % 16) else b)
    (f := fun t i => if (s.gdrive (i / 16) (i % 16)).isSome then t.setGkeep i (s.gpad (i / 16) (i % 16)) else t) (l := List.range 64) (k := i)
    (fun _ _ _ => rfl) (fun t _ => by split <;> simp)
    (fun t a _ ha => by split <;> [exact State.gkeep_setGkeep_ne _ _ _ _ (Ne.symm ha); rfl]) (f s) List.nodup_range
  refine h.trans ?_
  rw [hf i]
  by_cases hi : i < 64 <;> simp [hi]

theorem State.regs_gpioDo (s : State) (f : State → State) : (s.gpioDo f).regs = (f s).regs :=
  State.each_inv (f := fun t i => if (s.gdrive (i / 16) (i % 16)).isSome then t.setGkeep i (s.gpad (i / 16) (i % 16)) else t) State.regs
    (fun t a => by split <;> rfl) (f s) _

theorem State.gheld_gpioDo (s : State) (f : State → State) : (s.gpioDo f).gheld = (f s).gheld :=
  State.each_inv (f := fun t i => if (s.gdrive (i / 16) (i % 16)).isSome then t.setGkeep i (s.gpad (i / 16) (i % 16)) else t) State.gheld
    (fun t a => by split <;> rfl) (f s) _

/-- A pad that is driven has the level that drives it. -/
theorem State.gpad_driven {s : State} {x q : Nat} {b : Bool} (h : s.gdrive x q = some b) : s.gpad x q = b := by
  have hscan : s.scanned = false := by
    by_contra hs
    unfold State.gdrive at h
    simp [hs] at h
  unfold State.gpad
  simp [hscan, h]

theorem State.keepersFollow_gpioDo (s : State) (f : State → State) (hf : ∀ i, (f s).gkeep i = s.gkeep i) : KeepersFollow s (s.gpioDo f) := by
  intro i hi
  rw [s.gkeep_gpioDo f hf]
  cases hd : s.gdrive (i / 16) (i % 16) with
  | some b => simp [hi, s.gpad_driven hd]
  | none => simp

/-- What a change of the block that writes registers `l` leaves. -/
theorem gpioDo_keeps (s : State) (f : State → State) (hf : ∀ i, (f s).gkeep i = s.gkeep i) {l : List Reg} (hl : KeepRegs l s (f s)) :
    KeepersFollow s (s.gpioDo f) ∧ KeepRegs l s (s.gpioDo f) := ⟨s.keepersFollow_gpioDo f hf, hl.then_regs (s.regs_gpioDo f)⟩

/-! SET, CLR, FUNC and LEVEL (R398 to R401). -/

section Writes
variable (s : State) (x : Nat) (v : Word)

/-- The change of the block by a write of `w` to register `g`. -/
theorem gpioDo_rput (g : Reg) (w : RegVal) :
    (∀ j, (s.gpioDo (fun s => s.rput g w)).rb g j = bit w j) ∧ KeepersFollow s (s.gpioDo (fun s => s.rput g w)) ∧
      KeepRegs [g] s (s.gpioDo (fun s => s.rput g w)) := by
  obtain ⟨hfollow, hkeep⟩ := gpioDo_keeps s (fun s => s.rput g w) (fun _ => rfl) ((KeepRegs.refl _ s).rput w List.mem_cons_self)
  refine ⟨fun j => ?_, hfollow, hkeep⟩
  rw [State.rb_of_regs (s.regs_gpioDo _), State.rb_rput_same]

theorem bit_setOut {j : Nat} (hj : j < 64) :
    bit (s.rget (portReg x 0) ||| (v.setWidth 64 &&& 0xFFFF)) j = (s.rb (portReg x 0) j || (decide (j < 16) && v.getLsbD j)) := by
  rw [bit_or, bit_and, bit_setWidth _ _ hj, bit_lowMask hj, Bool.and_comm]
  rfl

theorem bit_clrOut {j : Nat} (hj : j < 64) :
    bit (s.rget (portReg x 0) &&& ~~~(v.setWidth 64 &&& 0xFFFF)) j = (s.rb (portReg x 0) j && !(decide (j < 16) && v.getLsbD j)) := by
  rw [bit_and, bit_not _ hj, bit_and, bit_setWidth _ _ hj, bit_lowMask hj, Bool.and_comm (bit v j)]
  rfl

theorem info_portFunc {x : Nat} (hx : x < 4) : (portReg x 0x18).info = some { rw := 0xFFFFFFFF, rst := if x = 0 then 0x5 else 0 } := by
  obtain rfl | rfl | rfl | rfl : x = 0 ∨ x = 1 ∨ x = 2 ∨ x = 3 := by omega
  all_goals rfl

theorem bit_lowWord {j : Nat} (hj : j < 64) : bit (0xFFFFFFFF : RegVal) j = decide (j < 32) := by
  revert j; decide

theorem bit_funcWrite {x : Nat} (hx : x < 4) (v : Word) {j : Nat} (hj : j < 64) :
    (s.writePlain (portReg x 0x18) (v.setWidth 64)).rb (portReg x 0x18) j = if j < 32 then v.getLsbD j else s.rb (portReg x 0x18) j := by
  rw [s.writePlain_eq _ (info_portFunc hx), State.rb_rput_same, RegInfo.bit_write, bit_lowWord hj, bit_setWidth _ _ hj]
  by_cases h : j < 32 <;> simp [h, bit, State.rb]

end Writes

/-! LEVEL (R398). -/

/-- The value a write of `v` stores in GPI_CFG. -/
def levelOf (v : Word) : RegVal := (List.range 4).foldl (fun a x => a + put (2 * x) (min (fld v (2 * x) 2) 2)) 0

/-- Four fields of two bits read back. -/
theorem fields_of_quads {a b c d : Nat} (ha : a < 4) (hb : b < 4) (hc : c < 4) (hd : d < 4) :
    let x := a + 4 * b + 16 * c + 64 * d
    x % 4 = a ∧ x / 4 % 4 = b ∧ x / 16 % 4 = c ∧ x / 64 % 4 = d := by
  omega

theorem fld_levelOf (v : Word) {p : Nat} (hp : p < 4) : fld (levelOf v) (2 * p) 2 = min (fld v (2 * p) 2) 2 := by
  have hlt (k : Nat) : min (fld v k 2) 2 < 4 := Nat.lt_of_le_of_lt (Nat.min_le_right _ _) (by decide)
  obtain ⟨hq0, hq1, hq2, hq3⟩ := fields_of_quads (hlt 0) (hlt 2) (hlt 4) (hlt 6)
  have hnum : (levelOf v).toNat = min (fld v 0 2) 2 + 4 * min (fld v 2 2) 2 + 16 * min (fld v 4 2) 2 + 64 * min (fld v 6 2) 2 := by
    have h0 := hlt 0
    have h2 := hlt 2
    have h4 := hlt 4
    have h6 := hlt 6
    simp only [levelOf, List.range, List.range.loop, List.foldl, put, BitVec.toNat_add, BitVec.toNat_ofNat, Nat.shiftLeft_eq]
    generalize min (fld v 0 2) 2 = a at *
    generalize min (fld v 2 2) 2 = b at *
    generalize min (fld v 4 2) 2 = c at *
    generalize min (fld v 6 2) 2 = d at *
    simp
    omega
  unfold fld at *
  rw [hnum, Nat.shiftRight_eq_div_pow]
  obtain rfl | rfl | rfl | rfl : p = 0 ∨ p = 1 ∨ p = 2 ∨ p = 3 := by omega
  · exact (congrArg (· % 4) (Nat.div_one _)).trans hq0
  · exact hq1
  · exact hq2
  · exact hq3

/-- The ports whose LEVEL a write of `v` changes. -/
def State.moved (s : State) (v : Word) : List Nat :=
  (List.range 4).filter (fun x => decide (fld (levelOf v) (2 * x) 2 ≠ s.rf (gpioReg 0x80) (2 * x) 2))

theorem State.mem_moved (s : State) (v : Word) (p : Nat) : p ∈ s.moved v ↔ p < 4 ∧ min (fld v (2 * p) 2) 2 ≠ s.rf (gpioReg 0x80) (2 * p) 2 := by
  simp only [State.moved, List.mem_filter, List.mem_range, decide_eq_true_eq]
  exact and_congr_right (fun hp => by rw [fld_levelOf v hp])

def State.levelWrite (s : State) (v : Word) : State := { s.rput (gpioReg 0x80) (levelOf v) with gheld := (s.gheld ++ s.moved v).eraseDups }

theorem State.gpioLevel_eq (s : State) (v : Word) : s.gpioLevel v = s.gpioDo (fun s => s.levelWrite v) := rfl

/-! Private writes (R400, R418). -/

/-- The pins of port `x` that core `c` owns. -/
theorem State.bit_owned (s : State) (c x : Nat) {j : Nat} (hj : j < 64) :
    bit (s.owned c x) j = (decide (j < 16) && decide (s.rf (portReg x 0x14) (2 * j) 2 = c)) := by
  have h : (s.owned c x) = BitVec.ofNat 64 (bitSum (fun q => decide (s.rf (portReg x 0x14) (2 * q) 2 = c)) 16) := by
    simp [State.owned, bitSum]
  rw [h, bit_ofNat64 _ hj, testBit_bitSum]

/-- The value of port `x`'s OUT after a private write. -/
def State.privOut (s : State) (c : Nat) (v : BitVec 64) (f : RegVal → RegVal → RegVal) (x : Nat) : RegVal :=
  (s.rget (portReg x 0) &&& ~~~s.owned c x) ||| (f (s.rget (portReg x 0)) (BitVec.ofNat 64 (fld v (16 * x) 16)) &&& s.owned c x)

def State.privPort (s : State) (c : Nat) (v : BitVec 64) (f : RegVal → RegVal → RegVal) (x : Nat) : State := s.rput (portReg x 0) (s.privOut c v f x)

theorem State.privDo_eq (s : State) (c : Nat) (v : BitVec 64) (f : RegVal → RegVal → RegVal) :
    s.privDo c v f = s.gpioDo (fun s => s.each (List.range 4) (fun s x => s.privPort c v f x)) := rfl

theorem portReg_zero_mem {x : Nat} (hx : x < 4) : portReg x 0 ∈ [portReg 0 0, portReg 1 0, portReg 2 0, portReg 3 0] := by
  obtain rfl | rfl | rfl | rfl : x = 0 ∨ x = 1 ∨ x = 2 ∨ x = 3 := by omega
  all_goals simp

theorem State.keepRegs_privPorts (s : State) (c : Nat) (v : BitVec 64) (f : RegVal → RegVal → RegVal) :
    KeepRegs [portReg 0 0, portReg 1 0, portReg 2 0, portReg 3 0] s (s.each (List.range 4) (fun s x => s.privPort c v f x)) :=
  (KeepRegs.refl _ s).each (fun _ _ hx hu => hu.rput _ (portReg_zero_mem (List.mem_range.mp hx)))

/-- Each port's OUT is written once, by what OUT and OWN of that port hold. -/
theorem State.rget_privPorts (s : State) (c : Nat) (v : BitVec 64) (f : RegVal → RegVal → RegVal) {x : Nat} (hx : x < 4) :
    (s.each (List.range 4) (fun s x => s.privPort c v f x)).rget (portReg x 0) = s.privOut c v f x := by
  have hown (t : State) (a : Nat) : (t.privPort c v f a).rget (portReg x 0x14) = t.rget (portReg x 0x14) :=
    State.rget_rput_ne _ (portReg a 0) _ _ (by rw [portReg_addr, portReg_addr]; omega)
  have h := State.each_at (get := fun t => t.rget (portReg x 0)) (φ := fun t => t.rget (portReg x 0x14))
    (F := fun own out =>
      let m : RegVal := BitVec.ofNat 64 ((List.range 16).foldl (fun a q => a + (if fld own (2 * q) 2 = c then 2 ^ q else 0)) 0)
      (out &&& ~~~m) ||| (f out (BitVec.ofNat 64 (fld v (16 * x) 16)) &&& m))
    (f := fun s x => s.privPort c v f x) (l := List.range 4) (k := x) (fun t a _ => hown t a) (fun t _ => State.rget_rput_same _ _ _)
    (fun t a _ ha => State.rget_rput_ne _ (portReg a 0) _ _ (by rw [portReg_addr, portReg_addr]; omega)) s List.nodup_range
  rw [if_pos (List.mem_range.mpr hx)] at h
  exact h

/-- A private write whose effect on each bit is `g`. -/
theorem privDo_writes (s : State) (c : Nat) (v : BitVec 64) {f : RegVal → RegVal → RegVal} {g : Bool → Bool → Bool}
    (hf : ∀ a b j, j < 64 → bit (f a b) j = g (bit a j) (bit b j)) :
    (∀ x < 4, ∀ j < 16, (s.rf (portReg x 0x14) (2 * j) 2 = c → (s.privDo c v f).rb (portReg x 0) j = g (s.rb (portReg x 0) j) (v.getLsbD (16 * x + j))) ∧
      (¬ s.rf (portReg x 0x14) (2 * j) 2 = c → (s.privDo c v f).rb (portReg x 0) j = s.rb (portReg x 0) j)) ∧
    KeepersFollow s (s.privDo c v f) ∧ KeepRegs [portReg 0 0, portReg 1 0, portReg 2 0, portReg 3 0] s (s.privDo c v f) := by
  rw [State.privDo_eq]
  refine ⟨fun x hx j hj => ?_, gpioDo_keeps s _ (fun i => ?_) (s.keepRegs_privPorts c v f)⟩
  · have h64 : j < 64 := by omega
    have hbit : (s.gpioDo (fun s => s.each (List.range 4) (fun s x => s.privPort c v f x))).rb (portReg x 0) j = bit (s.privOut c v f x) j := by
      rw [State.rb_of_regs (s.regs_gpioDo _), State.rb, s.rget_privPorts c v f hx]
    have hword : bit (BitVec.ofNat 64 (fld v (16 * x) 16)) j = v.getLsbD (16 * x + j) := by
      rw [bit_ofNat64 _ h64, testBit_fld]
      simp [hj]
    rw [hbit, State.privOut, bit_or, bit_and, bit_and, bit_not _ h64, hf _ _ j h64, s.bit_owned c x h64, hword]
    constructor
    · intro h; simp [hj, h, State.rb]
    · intro h; simp [h, State.rb]
  · exact State.each_inv (f := fun s x => s.privPort c v f x) (fun t => t.gkeep i) (fun _ _ => rfl) s _

/-! Interrupt lines (R404). -/

theorem intPend_ne_stamp {n : Nat} (hn : n < 16) : (gpioReg (0x140 + 4 * n)).addr ≠ (gpioReg 0x180).addr := by
  rw [gpioReg_addr, gpioReg_addr]
  omega

/-- The state after line `n` accepted a level of its pin. -/
def State.lineTook (s : State) (n : Nat) (level : Bool) : State :=
  (s.setGext (16 * s.rf (intReg n) 24 2 + n) (some level)).setGline n (some level)

/-- A line's edge makes it pending, with its stamp. -/
def State.lineHit (s : State) (n : Nat) (level : Bool) (ago : Nat) : State :=
  ((s.lineTook n level).rput (gpioReg (0x140 + 4 * n)) (BitVec.ofNat 64 ((s.mtime - ago) % 2 ^ 32))).rsetb (gpioReg 0x180) n true

section Line
variable (s : State) (n : Fin 16) (level : Bool) (ago : Fin 64)

theorem exec_pinEdge_off (h : s.rb (intReg n) 31 = false ∨ 5 ≤ s.rf (intReg n) 28 3) :
    exec (.pinInterruptEdge n level ago) s = .next (s.setGext (16 * s.rf (intReg n) 24 2 + n) (some level)) :=
  if_pos (by simpa using h)

variable (hon : s.rb (intReg n) 31 = true) (hm : s.rf (intReg n) 28 3 < 5)
include hon hm

theorem exec_pinEdge_hit (hh : (level = true ∧ (s.rf (intReg n) 28 3 = 0 ∨ s.rf (intReg n) 28 3 = 3)) ∨
    (level = false ∧ (s.rf (intReg n) 28 3 = 1 ∨ s.rf (intReg n) 28 3 = 4)) ∨ s.rf (intReg n) 28 3 = 2) :
    exec (.pinInterruptEdge n level ago) s = .next (s.lineHit n level ago) := by
  refine (if_neg (by simpa [hon] using hm)).trans (ok_congr (if_pos ?_))
  rcases hh with ⟨rfl, h | h⟩ | ⟨rfl, h | h⟩ | h <;> rw [h] <;> rfl

theorem exec_pinEdge_miss (hh : ¬ ((level = true ∧ (s.rf (intReg n) 28 3 = 0 ∨ s.rf (intReg n) 28 3 = 3)) ∨
    (level = false ∧ (s.rf (intReg n) 28 3 = 1 ∨ s.rf (intReg n) 28 3 = 4)) ∨ s.rf (intReg n) 28 3 = 2)) :
    exec (.pinInterruptEdge n level ago) s =
      .next (if 3 ≤ s.rf (intReg n) 28 3 then (s.lineTook n level).rsetb (gpioReg 0x180) n false else s.lineTook n level) := by
  refine (if_neg (by simpa [hon] using hm)).trans (ok_congr (if_neg ?_))
  have hmode : s.rf (intReg n) 28 3 = 0 ∨ s.rf (intReg n) 28 3 = 1 ∨ s.rf (intReg n) 28 3 = 2 ∨ s.rf (intReg n) 28 3 = 3 ∨ s.rf (intReg n) 28 3 = 4 := by omega
  rcases hmode with h | h | h | h | h <;> rw [h] at hh ⊢ <;> cases level <;> simp at hh ⊢

end Line

/-! MSIP (R395, R406). -/

theorem info_msip (c : Fin 4) : (irqReg (0x20 + 4 * c)).info = some { rw := 0x1 } := by
  revert c; decide

theorem State.msip_writes (s : State) (c : Nat) (v : Word) :
    (s.msip c v).core c = { s.core c with started := (s.core c).started || v.getLsbD 0 } ∧ (∀ k, k ≠ c → (s.msip c v).core k = s.core k) ∧
    (s.msip c v).regs = (s.writePlain (irqReg (0x20 + 4 * c)) (v.setWidth 64)).regs := by
  have hcore (k : Nat) : (s.writePlain (irqReg (0x20 + 4 * c)) (v.setWidth 64)).core k = s.core k := by
    unfold State.writePlain; split <;> rfl
  unfold State.msip
  by_cases hv : bit v 0 = true
  · have hv' : v.getLsbD 0 = true := hv
    simp only [hv, hv', hcore, if_true, Bool.or_true]
    exact ⟨State.core_setCore_same _ _ _, fun k hk => (State.core_setCore_ne _ _ _ _ hk).trans (hcore k), rfl⟩
  · have hv' : v.getLsbD 0 = false := by simpa [bit] using hv
    simp only [hv, hv', hcore, Bool.or_false, Bool.false_eq_true, if_false]
    exact ⟨trivial, fun _ _ => trivial, trivial⟩

end Machine
open Machine

/-- The pads and lines of a state in which line `n` accepted a level. -/
theorem lineTook_took (s : State) (n : Nat) (level : Bool) :
    (s.lineTook n level).gext (16 * s.rf (intReg n) 24 2 + n) = some level ∧
    (∀ i, i ≠ 16 * s.rf (intReg n) 24 2 + n → (s.lineTook n level).gext i = s.gext i) ∧ (s.lineTook n level).gline n = some level ∧
    ∀ k, k ≠ n → (s.lineTook n level).gline k = s.gline k :=
  ⟨State.gext_setGext_same s _ (some level), fun _ hi => State.gext_setGext_ne s _ _ (some level) hi, State.gline_setGline_same _ _ _, fun _ hk => State.gline_setGline_ne _ _ _ _ hk⟩

/-- Settles O49. GPIO and private writes are changes of the block by one write of a register, or four; the interrupt line's cases are the branches of its
command. -/
theorem gpioAndInterrupts : Obligations.GpioAndInterrupts := by
  unfold Obligations.GpioAndInterrupts
  refine ⟨fun iss x v s => ⟨fun hiss c hc => ?_, fun hiss => ⟨?_, ?_, ?_, ?_⟩⟩, fun c v s => ⟨?_, ?_, ?_⟩, fun x s => ?_, fun n level ago s => ⟨fun h => ?_, fun hon hm hh => ?_, fun hon hm hh => ?_⟩,
    fun c s => ?_, fun iss c v s => ⟨fun hiss => ?_, fun hiss => ?_⟩⟩
  · have hviol : exec c s = .next (s.violAt (gpioReg 0x184)) := by
      simp only [List.mem_cons, List.not_mem_nil, or_false] at hc
      rcases hc with rfl | rfl | rfl | rfl
      all_goals exact ok_congr (s.guarded_other hiss .gpio 0 _)
    exact .of_eq hviol (State.violAt_countedAt rfl (by simp))
  · have hexec := ok_congr (s.guarded_mgmt hiss .gpio 0 (fun s => s.gpioDo (fun s => s.rput (portReg x 0) (s.rget (portReg x 0) ||| (v.setWidth 64 &&& 0xFFFF)))))
    obtain ⟨hbit, hfollow, hkeep⟩ := gpioDo_rput s (portReg x 0) (s.rget (portReg x 0) ||| (v.setWidth 64 &&& 0xFFFF))
    exact .of_eq hexec ⟨fun j hj => (hbit j).trans (bit_setOut s x v hj), hfollow, hkeep, (execGpioSet_ev iss x v (Ev.refl (fieldMask [.regs, .gkeeps]) s) (by rfl)).only hexec⟩
  · have hexec := ok_congr (s.guarded_mgmt hiss .gpio 0 (fun s => s.gpioDo (fun s => s.rput (portReg x 0) (s.rget (portReg x 0) &&& ~~~(v.setWidth 64 &&& 0xFFFF)))))
    obtain ⟨hbit, hfollow, hkeep⟩ := gpioDo_rput s (portReg x 0) (s.rget (portReg x 0) &&& ~~~(v.setWidth 64 &&& 0xFFFF))
    exact .of_eq hexec ⟨fun j hj => (hbit j).trans (bit_clrOut s x v hj), hfollow, hkeep, (execGpioClr_ev iss x v (Ev.refl (fieldMask [.regs, .gkeeps]) s) (by rfl)).only hexec⟩
  · have hexec := ok_congr (s.guarded_mgmt hiss .gpio 0 (fun s => s.gpioFunc x v))
    obtain ⟨hfollow, hkeep⟩ := gpioDo_keeps s (fun s => s.writePlain (portReg x 0x18) (v.setWidth 64))
      (fun i => by rw [s.writePlain_eq _ (info_portFunc x.isLt)]; rfl) (l := [portReg x 0x18]) (fun g hg => s.rget_writePlain_ne _ (hg _ List.mem_cons_self))
    refine .of_eq hexec ⟨fun j hj => ?_, hfollow, hkeep, (execGpioFuncChange_ev iss x v (Ev.refl (fieldMask [.regs, .gkeeps]) s) (by rfl)).only hexec⟩
    exact (State.rb_of_regs (s.regs_gpioDo _) _ _).trans (bit_funcWrite s x.isLt v hj)
  · have hexec := ok_congr (s.guarded_mgmt hiss .gpio 0 (fun s => s.gpioLevel v))
    rw [State.gpioLevel_eq] at hexec
    obtain ⟨hfollow, hkeep⟩ := gpioDo_keeps s (fun s => s.levelWrite v) (fun _ => rfl) (l := [gpioReg 0x80]) (((KeepRegs.refl _ s).rput _ List.mem_cons_self).then_regs rfl)
    refine .of_eq hexec ⟨fun p hp => ?_, fun p => ?_, hfollow, hkeep, (execGpioLevelChange_ev iss v (Ev.refl (fieldMask [.regs, .gkeeps, .gheld]) s) (by rfl)).only hexec⟩
    · rw [State.rf_of_regs (s.regs_gpioDo _)]
      exact (State.rf_rput_same s _ _ _ _).trans (fld_levelOf v hp)
    · rw [s.gheld_gpioDo, State.levelWrite, List.mem_eraseDups, List.mem_append, s.mem_moved]
  · exact .of_eq rfl (privDo_writes s c v (fun a b j _ => bit_or a b j) |>.imp id (fun ⟨h1, h2⟩ => ⟨h1, h2,
      (execPrivset_ev c v (Ev.refl (fieldMask [.regs, .gkeeps]) s) (by rfl)).only rfl⟩))
  · exact .of_eq rfl (privDo_writes s c v (g := fun o w => o && !w) (fun a b j hj => by rw [bit_and, bit_not _ hj]) |>.imp id (fun ⟨h1, h2⟩ => ⟨h1, h2,
      (execPrivclr_ev c v (Ev.refl (fieldMask [.regs, .gkeeps]) s) (by rfl)).only rfl⟩))
  · exact .of_eq rfl (privDo_writes s c v (g := fun _ w => w) (fun a b j _ => rfl) |>.imp id (fun ⟨h1, h2⟩ => ⟨h1, h2,
      (execPrivout_ev c v (Ev.refl (fieldMask [.regs, .gkeeps]) s) (by rfl)).only rfl⟩))
  · exact .of_eq rfl ⟨rfl, (execGpioLevelHoldEnd_ev x (Ev.refl (fieldMask [.gheld]) s) (by rfl)).only rfl⟩
  · have hexec := exec_pinEdge_off s n level ago h
    exact .of_eq hexec ⟨⟨State.gext_setGext_same s _ _, fun i hi => State.gext_setGext_ne s _ _ _ hi⟩,
      ((Ev.refl (fieldMask [.gexts]) s).setGext (by rfl) _ _).only_mask⟩
  · have hexec := exec_pinEdge_hit s n level ago hon hm hh
    obtain ⟨hpad, hpads, hline, hlines⟩ := lineTook_took s n level
    refine .of_eq hexec ⟨⟨⟨hpad, hpads⟩, hline, hlines, fun b hb => ?_⟩, ?_, ?_, ?_, (execPinInterruptEdge_ev n level ago (Ev.refl (fieldMask [.regs, .gexts, .glines]) s) (by rfl)).only hexec⟩
    · exact (State.rb_rsetb_bit _ _ _ _ _ hb).trans (State.rb_rput_ne _ _ _ _ _ (intPend_ne_stamp n.isLt).symm)
    · exact State.rb_rsetb_self _ _ _ _ (by omega)
    · have hstamp : (s.lineHit n level ago).rget (gpioReg (0x140 + 4 * n)) = BitVec.ofNat 64 ((s.mtime - ago) % 2 ^ 32) :=
        (State.rget_rput_ne _ _ _ _ (intPend_ne_stamp n.isLt)).trans (State.rget_rput_same _ _ _)
      rw [hstamp, BitVec.toNat_ofNat]
      omega
    · exact ((KeepRegs.of_regs (t := s.lineTook n level) rfl).rput _ List.mem_cons_self).rsetb _ _ (by simp)
  · have hexec := exec_pinEdge_miss s n level ago hon hm hh
    obtain ⟨hpad, hpads, hline, hlines⟩ := lineTook_took s n level
    have honly := (execPinInterruptEdge_ev n level ago (Ev.refl (fieldMask [.regs, .gexts, .glines]) s) (by rfl)).only hexec
    by_cases h3 : 3 ≤ s.rf (intReg n) 28 3
    · rw [if_pos h3] at hexec honly
      refine .of_eq hexec ⟨⟨⟨hpad, hpads⟩, hline, hlines, fun b hb => State.rb_rsetb_bit _ _ _ _ _ hb⟩, ?_,
        (KeepRegs.of_regs (t := s.lineTook n level) rfl).rsetb _ _ List.mem_cons_self, honly⟩
      rw [State.rb_rsetb_self _ _ _ _ (by omega)]
      simp [h3]
    · rw [if_neg h3] at hexec honly
      refine .of_eq hexec ⟨⟨⟨hpad, hpads⟩, hline, hlines, fun b hb => rfl⟩, ?_, .of_regs rfl, honly⟩
      simp [Nat.lt_of_not_le h3]
      rfl
  · exact .of_eq rfl ⟨State.core_setCore_same _ _ _, fun k hk => State.core_setCore_ne _ _ _ _ hk, (execMachineTimer_ev c (Ev.refl (fieldMask [.cores]) s) (by rfl)).only rfl⟩
  · exact .of_eq (ok_congr (s.guarded_other hiss .irq 0 _)) (State.violAt_countedAt rfl (by simp))
  · have hexec := ok_congr (s.guarded_mgmt hiss .irq 0 (fun s => s.msip c v))
    obtain ⟨hcore, hcores, hregs⟩ := s.msip_writes c v
    refine .of_eq hexec ⟨?_, hcore, hcores, KeepRegs.then_regs (fun g hg => s.rget_writePlain_ne _ (hg _ List.mem_cons_self)) hregs,
      (execMsipWrite_ev iss c v (Ev.refl (fieldMask [.regs, .cores]) s) (by rfl)).only hexec⟩
    rw [State.rb_of_regs hregs, s.rb_writePlain_rw _ (info_msip c) (by decide) (by decide), bit_setWidth _ _ (by decide)]
    rfl

end Sys2Proof
end

section
/-! The management port and the 1588 clock (R412 to R415, R421). -/

namespace Sys2Proof

open Machine

namespace Machine

theorem bit_putB {i : Nat} (hi : i < 64) (v : Bool) (j : Nat) : bit (putB i v) j = (decide (j = i) && v) := by
  by_cases hj : j < 64
  · cases v
    · rw [putB, put, bit_ofNat64 _ hj]; simp [b2n]
    · rw [putB, put, bit_ofNat64 _ hj, b2n, if_pos rfl, Nat.one_shiftLeft, Nat.testBit_two_pow]
      simp [eq_comm]
  · rw [bit_ge _ (Nat.le_of_not_lt hj)]
    simp [show j ≠ i by omega]

theorem rput_leaves (s : State) (g : Reg) (v : RegVal) : KeepRegs [g] s (s.rput g v) ∧ Only [.regs] s (s.rput g v) :=
  ⟨(KeepRegs.refl _ s).rput v List.mem_cons_self, ((Ev.refl (fieldMask [.regs]) s).rput (by rfl) g v).only_mask⟩

/-! The link (R412, R447). -/

/-- What MGT_STAT shows of a link that is up. -/
def linkUp (gig mdix down : Bool) : RegVal := putB 31 true + put 29 (if gig then 2 else 1) + putB 28 mdix + putB 27 down

theorem linkUp_fields (gig mdix down : Bool) :
    bit (linkUp gig mdix down) 31 = true ∧ fld (linkUp gig mdix down) 29 2 = (if gig then 2 else 1) ∧ bit (linkUp gig mdix down) 28 = mdix ∧
    bit (linkUp gig mdix down) 27 = down ∧ fld (linkUp gig mdix down) 0 27 = 0 := by
  revert gig mdix down; decide

theorem exec_linkUp {gig mdix : Bool} {s : State} (h : ¬ (s.dom 742 ≠ 0 ∨ (gig = true ∧ (s.rb (macReg 4) 31 = false ∨ s.rb (macReg 0) 27 = true)))) :
    exec (.managementPortLink true gig mdix) s = .next (s.rput (macReg 0) (linkUp gig mdix (s.rb (macReg 0) 27))) := by
  refine if_neg ?_
  simpa [State.macLit, State.rb, and_imp, not_or] using h

theorem exec_linkRefused {gig mdix : Bool} {s : State} (h : s.dom 742 ≠ 0 ∨ (gig = true ∧ (s.rb (macReg 4) 31 = false ∨ s.rb (macReg 0) 27 = true))) :
    exec (.managementPortLink true gig mdix) s = .next s := by
  refine if_pos ?_
  simpa [State.macLit, State.rb] using h

/-! The 1588 clock (R413 to R415). -/

theorem toNat_ofInt_near {n e : Nat} {k : Nat} (hn : k ≤ n) (he : e ≤ 2 * k) (h : n + k < 2 ^ 64) :
    (BitVec.ofInt 64 ((n : Int) + e - k)).toNat + k = n + e := by
  rw [BitVec.toNat_ofInt]
  omega

theorem State.gfunc_pps (s : State) : (s.gfunc 1 1 == 1) = decide (s.rf (portReg 1 0x18) 2 2 = 1) := by
  unfold State.gfunc
  split
  · next h => simp [show s.rf (portReg 1 0x18) 2 2 = 1 from h]
  · next h => simp [show s.rf (portReg 1 0x18) 2 2 = 2 from h]
  · next h1 h2 => simp [show s.rf (portReg 1 0x18) 2 2 ≠ 1 from h1]

/-- The clock recorded at an edge on PB1. -/
def State.ppsCaptured (s : State) (err : Nat) : State :=
  { (s.setGext 17 (some true)).rput (macReg 0x30) (BitVec.ofInt 64 ((s.ptpNs : Int) + err - 5)) with ptpNews := true }

theorem exec_ppsCapture {err : Fin 11} {s : State} (hon : s.rb (macReg 0x28) 29 = true) (hf : s.rf (portReg 1 0x18) 2 2 = 1) :
    exec (.ppsInputCapture err) s = .next (s.ppsCaptured err) := by
  refine ok_congr (if_pos ?_)
  rw [hon, s.gfunc_pps, hf]
  rfl

theorem exec_ppsIgnored {err : Fin 11} {s : State} (h : s.rb (macReg 0x28) 29 = false ∨ s.rf (portReg 1 0x18) 2 2 ≠ 1) :
    exec (.ppsInputCapture err) s = .next (s.setGext 17 (some true)) := by
  refine ok_congr (if_neg ?_)
  rw [s.gfunc_pps]
  rcases h with h | h <;> simp [h]

/-- The error of an event's timestamp. -/
def stampErr (gig : Bool) (err : Nat) : Int :=
  if gig then (if (err : Int) - 16 < -4 then -4 else if 4 < (err : Int) - 16 then 4 else (err : Int) - 16) else (err : Int) - 16

theorem stampErr_bounds (gig : Bool) {err : Nat} (h : err < 33) :
    -16 ≤ stampErr gig err ∧ stampErr gig err ≤ 16 ∧ (gig = true → -4 ≤ stampErr gig err ∧ stampErr gig err ≤ 4) := by
  unfold stampErr
  split
  · split
    · omega
    · split <;> omega
  · next hg => simp [hg]; omega

theorem exec_ptpEvent {err : Fin 33} {s : State} (hup : s.rb (macReg 0) 31 = true) :
    exec (.ptpEventTimestamp err) s =
      .next { s with ptpStamp := some (((s.ptpNs : Int) + stampErr (decide (s.rf (macReg 0) 29 2 = 2)) err) % 2 ^ 64).toNat } := by
  refine ok_congr ((if_pos hup).trans ?_)
  unfold stampErr
  simp only [decide_eq_true_eq]

end Machine
open Machine

/-- Settles O50, each clause from the command's branch. -/
theorem managementPort : Obligations.ManagementPort := by
  unfold Obligations.ManagementPort
  refine ⟨fun up gig mdix s => ⟨fun hup => ?_, fun hup href => ?_, fun hup href => ?_, fun hdom hoff => ?_, fun h => ?_⟩,
    fun iss s => ⟨fun hiss => ⟨?_, ?_⟩, fun hiss => ⟨?_, ?_⟩⟩, fun s => ⟨fun h => ?_, fun h => ?_⟩, fun err s => ⟨fun h => ?_, fun hon hf h5 h64 => ?_⟩,
    fun err s => ⟨fun h => ?_, fun hup h16 h64 => ?_⟩⟩
  · subst hup
    have hexec : exec (.managementPortLink false gig mdix) s = .next (s.rput (macReg 0) (putB 27 (s.rb (macReg 0) 27))) := rfl
    refine .of_eq hexec ⟨fun b => ?_, rput_leaves s _ _⟩
    exact (State.rb_rput_same _ _ _ _).trans (bit_putB (by decide) _ _)
  · subst hup
    exact exec_linkRefused href
  · subst hup
    obtain ⟨h31, h29, h28, h27, h0⟩ := linkUp_fields gig mdix (s.rb (macReg 0) 27)
    refine .of_eq (exec_linkUp href) ⟨(State.rb_rput_same _ _ _ _).trans h31, (State.rf_rput_same _ _ _ _ _).trans h29,
      (State.rb_rput_same _ _ _ _).trans h28, (State.rb_rput_same _ _ _ _).trans h27, (State.rf_rput_same _ _ _ _ _).trans h0, rput_leaves s _ _⟩
  · have hexec : exec .downshift s = .next (s.rput (macReg 0) (putB 27 true)) := ok_congr (if_pos (by simp [State.macLit, hdom, hoff]))
    refine .of_eq hexec ⟨fun b => ?_, rput_leaves s _ _⟩
    rw [State.rb_rput_same, bit_putB (by decide), Bool.and_true]
  · refine ok_congr (if_neg ?_)
    rcases h with h | h <;> simp [State.macLit, h]
  · exact .of_eq (ok_congr (s.guarded_other hiss .mac 0 _)) (State.violAt_countedAt rfl (by simp))
  · exact .of_eq (ok_congr (s.guarded_other hiss .mac 0 _)) (State.violAt_countedAt rfl (by simp))
  · exact .of_eq (ok_congr (s.guarded_mgmt hiss .mac 0 State.phyRestart)) ⟨State.rget_rput_same s (macReg 0) 0, rput_leaves s _ _⟩
  · have hexec := ok_congr (s.guarded_mgmt hiss .mac 0 (fun s => { s with ptpGo := true }))
    exact .of_eq hexec ⟨rfl, ((Ev.refl (fieldMask [.ptpGo]) s).set_ptpGo (by rfl)).only_mask⟩
  · exact ok_congr (if_neg (by simp [h]))
  · have hexec : exec .ppsOutput s = .next { s with ppsAt := some (s.ptpNs - s.ptpNs % 1000000000) } := ok_congr (if_pos h)
    refine .of_eq hexec ⟨⟨s.ptpNs / 1000000000, ?_, ?_, ?_⟩, (execPpsOutput_ev (Ev.refl (fieldMask [.ppsAt]) s) (by rfl)).only hexec⟩
    · exact congrArg some (by omega)
    all_goals omega
  · exact .of_eq (exec_ppsIgnored h) ⟨s.gext_setGext_same _ _, fun i hi => s.gext_setGext_ne _ _ _ hi, ((Ev.refl (fieldMask [.gexts]) s).setGext (by rfl) _ _).only_mask⟩
  · have hexec := exec_ppsCapture (err := err) hon hf
    have hread : (s.ppsCaptured err).rget (macReg 0x30) = BitVec.ofInt 64 ((s.ptpNs : Int) + err - 5) := State.rget_rput_same _ _ _
    refine .of_eq hexec ⟨?_, rfl, s.gext_setGext_same 17 (some true), fun i hi => s.gext_setGext_ne 17 _ (some true) hi,
      ((KeepRegs.of_regs (t := s.setGext 17 (some true)) rfl).rput _ List.mem_cons_self).then_regs rfl, (execPpsInputCapture_ev err (Ev.refl (fieldMask [.regs, .gexts, .ptpNews]) s) (by rfl)).only hexec⟩
    rw [hread]
    exact toNat_ofInt_near h5 (Nat.le_of_lt_succ err.isLt) h64
  · exact ok_congr (if_neg (by simp [h]))
  · have hexec := exec_ptpEvent (err := err) hup
    obtain ⟨hlo, hhi, hgig⟩ := stampErr_bounds (decide (s.rf (macReg 0) 29 2 = 2)) err.isLt
    refine .of_eq hexec ⟨⟨_, rfl, ?_, ?_, fun h2 => ?_⟩, (execPtpEventTimestamp_ev err (Ev.refl (fieldMask [.ptpStamp]) s) (by rfl)).only hexec⟩
    · omega
    · omega
    · have := hgig (by simp [h2])
      omega

end Sys2Proof
end

section
/-! One move of a token (R124, R125, R129, R131, R136, R137, R148, R357): along a channel, out of a cell into a channel, and over a link of the access plane. -/

namespace Sys2Proof

open Machine

namespace Machine

/-! The report of a token at a place that is no cluster sink (R125, R318). -/

theorem meshReg_addr (r off : Nat) : (meshReg r off).addr = 0x100804000 + 0x10000000 * (r / 8) + 0x1000000 * (r % 8) + off := by
  simp only [meshReg, Reg.addr, Blk.base, winBase]
  omega

theorem tnkReg_addr (r off : Nat) : (⟨.tnk, r, off⟩ : Reg).addr = 0x100800000 + 0x10000000 * (r / 8) + 0x1000000 * (r % 8) + off := by
  simp only [Reg.addr, Blk.base, winBase]
  omega

/-- The fields the report of a clean token may write. -/
theorem State.codeReport_clean_ev {m : Nat} {s0 s : State} (key r : Nat) (g port : Option Nat) (h : Ev m s0 s) (hm : Sub (fieldMask [.regs, .codePend]) m) :
    Ev m s0 (s.codeReport 0 key r g port) := by
  rw [State.codeReport_clean]
  split
  · exact (h.rput (Sub.trans hm rfl) _ _).set_codePend (Sub.trans hm rfl)
  · exact h

/-- A lasting fault leaves every register outside the Tinker's alone. -/
theorem State.rget_sharedFault (s : State) (r src : Nat) {g : Reg} (hev : g.addr ≠ (tnkEvent r).addr) (herr : g.addr ≠ (tnkErr r).addr)
    (hal : g.addr ≠ tnkAlarm.addr) : (s.sharedFault r src).rget g = s.rget g := by
  unfold State.sharedFault State.lasting
  exact (State.rget_rput_ne _ _ _ _ hal).trans ((State.rget_count_ne _ _ _ _ _ _ herr).trans (State.rget_rput_ne _ _ _ _ hev))

theorem State.rget_sharedFault_mesh (s : State) (r src q : Nat) {off : Nat} (hoff : off < 0x1000) : (s.sharedFault r src).rget (meshReg q off) = s.rget (meshReg q off) := by
  refine s.rget_sharedFault r src ?_ ?_ ?_
  · rw [meshReg_addr, tnkEvent, tnkReg_addr]; omega
  · rw [meshReg_addr, tnkErr, tnkReg_addr]; omega
  · rw [meshReg_addr, show tnkAlarm.addr = 0x20050080 from rfl]; omega

/-- The report writes the registers, the record of code errors and the counter of free values alone. -/
theorem State.codeReport_frame {β : Type} (φ : State → β) (hφ : ∀ s regs pend free, φ { s with regs := regs, codePend := pend, free := free } = φ s)
    (s : State) (bad : BitVec 17) (key r : Nat) : φ (s.codeReport bad key r none none) = φ s := by
  have hput (s : State) (g : Reg) (v : RegVal) : φ (s.rput g v) = φ s := hφ s (s.rput g v).regs s.codePend s.free
  have hpend (s : State) (p : List Nat) : φ { s with codePend := p } = φ s := hφ s s.regs p s.free
  have hshared (s : State) : φ (s.sharedFault r 7) = φ s := (hput _ _ _).trans ((hput _ _ _).trans (hput _ _ _))
  have hbump (s : State) : φ s.bumpFree = φ s := hφ s s.regs s.codePend s.bumpFree.free
  have hnoted : φ ((s.sticky ⟨.mesh, r, 0⟩ 30).count ⟨.mesh, r, 8⟩ 0 16 1).bumpFree = φ s := (hbump _).trans ((hput _ _ _).trans (hput _ _ _))
  unfold State.codeReport
  dsimp only
  split
  · rw [if_neg (by simp)]
    split
    · exact (hshared _).trans ((hpend _ _).trans hnoted)
    · exact (hpend _ _).trans hnoted
  · split
    · exact (hpend _ _).trans (hput _ _ _)
    · rfl

/-- R125: a code error is noted in its region's mesh registers. -/
theorem State.codeReport_faulty (s : State) {bad : BitVec 17} (hbad : bad ≠ 0) (key r : Nat) :
    (s.codeReport bad key r none none).rb (meshReg r 0) 30 = true ∧
    (s.codeReport bad key r none none).rf (meshReg r 8) 0 16 = min 0xFFFF (s.rf (meshReg r 8) 0 16 + 1) := by
  let s1 := (s.sticky (meshReg r 0) 30).count (meshReg r 8) 0 16 1
  have hne : (meshReg r 0).addr ≠ (meshReg r 8).addr := by rw [meshReg_addr, meshReg_addr]; omega
  have hbit : s1.rb (meshReg r 0) 30 = true := (State.rb_count_ne _ _ _ _ _ hne).trans (State.rb_sticky_self _ _ _ (by decide))
  have hcount : s1.rf (meshReg r 8) 0 16 = min 0xFFFF (s.rf (meshReg r 8) 0 16 + 1) := by
    rw [State.rf_count_self _ _ _ _ _ (by decide), State.rf_sticky_ne _ _ _ _ hne.symm]
    rfl
  have hregs : ∀ off < 0x1000, (s.codeReport bad key r none none).rget (meshReg r off) = s1.rget (meshReg r off) := by
    intro off hoff
    unfold State.codeReport
    dsimp only
    rw [if_pos hbad, if_neg (by simp)]
    split
    · exact State.rget_sharedFault_mesh _ _ _ _ hoff
    · rfl
  exact ⟨(congrArg (fun v => bit v 30) (hregs 0 (by decide))).trans hbit, (congrArg (fun v => fld v 0 16) (hregs 8 (by decide))).trans hcount⟩

theorem garble_faulty {bad : BitVec 17} (hbad : bad ≠ 0) (free : BitVec 64) (t : Tok) : (garble bad free t).p = true := by
  unfold garble
  rw [if_neg hbad]

/-! Along a channel (R124, R147, R148). -/

theorem Chan.settle_owesNot {c : Chan} (h : c.owes = false) : c.settle = c := if_neg (by simp [h])

/-- A break token can enter the first stage alone. -/
theorem Chan.settle_stages (c : Chan) {j : Nat} (hj : j ≠ 0) : c.settle.stages[j]? = c.stages[j]? := by
  unfold Chan.settle
  split
  · unfold Chan.push
    obtain ⟨j, rfl⟩ := Nat.exists_eq_succ_of_ne_zero hj
    cases c.stages with
    | nil => rfl
    | cons a l => cases a <;> rfl
  · rfl

/-- The stages after a move from stage `i` to the next. -/
theorem shifted_stages {l : List (Option Tok)} {i : Nat} {x : Option Tok} (hi : i + 1 < l.length) (j : Nat) :
    ((l.set (i + 1) x).set i none)[j]? = if j = i then some none else if j = i + 1 then some x else l[j]? := by
  rw [List.getElem?_set, List.getElem?_set]
  by_cases h1 : i = j
  · subst h1; simp; omega
  · by_cases h2 : i + 1 = j
    · subst h2; simp [hi]
    · simp [h1, h2, Ne.symm h1, Ne.symm h2]

/-- The channel after a move of the token of stage `i`, received as `t`. -/
def Chan.moved (c : Chan) (i : Nat) (t : Tok) : Chan := Chan.shift { c with stages := c.stages.set i (some t) } i

section Moved
variable {c : Chan} {i : Nat} (t : Tok) (hn : c.stages[i + 1]? = some none)
include hn

theorem Chan.moved_unsettled (j : Nat) :
    (((c.stages.set i (some t)).set (i + 1) (((c.stages.set i (some t))[i]?).getD none)).set i none)[j]? =
      if j = i then some none else if j = i + 1 then some (some t) else c.stages[j]? := by
  have hlen : i + 1 < c.stages.length := by
    by_contra h
    rw [List.getElem?_eq_none (by omega)] at hn
    cases hn
  have hget : ((c.stages.set i (some t))[i]?).getD none = some t := by
    rw [List.getElem?_set_self (by omega)]; rfl
  rw [hget, shifted_stages (by simpa using hlen), List.getElem?_set]
  by_cases h1 : j = i
  · simp [h1]
  · simp [h1, Ne.symm h1]

theorem Chan.moved_next : (c.moved i t).stages[i + 1]? = some (some t) := by
  rw [Chan.moved, Chan.shift, Chan.settle_stages _ (by omega)]
  exact (c.moved_unsettled t hn _).trans (by simp)

theorem Chan.moved_here (h : i ≠ 0 ∨ c.owes = false) : (c.moved i t).stages[i]? = some none := by
  rcases h with h | h
  · rw [Chan.moved, Chan.shift, Chan.settle_stages _ h]
    exact (c.moved_unsettled t hn _).trans (by simp)
  · have hs : c.moved i t = { c with stages := ((c.stages.set i (some t)).set (i + 1) (((c.stages.set i (some t))[i]?).getD none)).set i none } :=
      Chan.settle_owesNot h
    rw [hs]
    exact (c.moved_unsettled t hn _).trans (by simp)

theorem Chan.moved_other {j : Nat} (h0 : j ≠ 0) (h1 : j ≠ i) (h2 : j ≠ i + 1) : (c.moved i t).stages[j]? = c.stages[j]? := by
  rw [Chan.moved, Chan.shift, Chan.settle_stages _ h0]
  exact (c.moved_unsettled t hn _).trans (by simp [h1, h2])

end Moved

section StageMove
variable {ch : Word} {i : Nat} {s : State} {t : Tok} (bad : BitVec 17) (hi : (s.chan (chKey ch)).stages[i]? = some (some t))
  (hn : (s.chan (chKey ch)).stages[i + 1]? = some none)
include hi hn

theorem State.stageMove_shut (h : (s.region (epRegion (s.chan (chKey ch)).snk)).gate = true ∧ i + 1 = (s.chan (chKey ch)).gate) :
    s.stageMove ch i bad = s := by
  unfold State.stageMove
  simp only [hi, hn]
  exact if_pos (by simp [h])

theorem State.stageMove_open (h : ¬ ((s.region (epRegion (s.chan (chKey ch)).snk)).gate = true ∧ i + 1 = (s.chan (chKey ch)).gate)) :
    s.stageMove ch i bad = (s.setChan (chKey ch) ((s.chan (chKey ch)).moved i (garble bad s.freeNow t))).codeReport bad
      (placeKey 0 (64 * chKey ch + i)) (((s.chanRegions ch (s.chan (chKey ch)).snk)[i + 1]?).getD (epRegion ch)) none none := by
  unfold State.stageMove
  simp only [hi, hn]
  exact if_neg (by simpa using h)

end StageMove

/-! Out of a cell into a channel (R129, R131, R357). -/

/-- What a channel's source gives: the first stage takes the token. -/
theorem State.feed_room {s : State} {src : Word} (t : Tok) {st : List (Option Tok)} (hst : (s.chan (chKey src)).stages = none :: st)
    (hb : (s.chan (chKey src)).broken = false) : s.feed src t = some (s.setChan (chKey src) ((s.chan (chKey src)).push t)) := by
  simp [State.feed, Chan.connected, Chan.room, hst, hb]

/-- Taps and probes write registers and probes alone (R476, R477). -/
theorem State.seen_frame {β : Type} (φ : State → β) (hput : ∀ s g v, φ (State.rput s g v) = φ s) (hprobe : ∀ s k p, φ (State.setProbe s k p) = φ s)
    (s : State) (r lc code : Nat) (t : Tok) : φ (s.seen r lc code t) = φ s := by
  unfold State.seen
  refine (State.each_inv φ (fun s k => ?_) _ _).trans (State.each_inv φ (fun s k => hput s _ _) s _)
  dsimp only
  split
  · exact (hput _ _ _).trans (hprobe s k _)
  · exact hprobe s k _

/-- A cell after sink `me` took the token of its output `oy`. -/
def Cell.given (c : Cell) (oy : Bool) (me : Nat) (wanted : List Nat) : Cell :=
  if oy then { c with oy := c.oy.took me wanted } else { c with ox := c.ox.took me wanted }

/-- What takes a cell's token is shown to taps and probes, and its output stage notes the sink (R129). -/
theorem State.takeFrom_cell {s : State} {g k : Nat} (hcode : s.sel g k < 128) :
    ∃ u : State, u.cells = s.cells ∧ u.chans = s.chans ∧ s.takeFrom g k = u.setCell (g * 64 + s.sel g k / 2)
      ((s.cell (g * 64 + s.sel g k / 2)).given (s.sel g k % 2 == 1) (gsink g k) (s.wanted [g] (s.sel g k))) := by
  have hcell (code : Nat) (c : Cell) (me : Nat) (w : List Nat) :
      (if code % 2 = 0 then { c with ox := c.ox.took me w } else { c with oy := c.oy.took me w }) = c.given (code % 2 == 1) me w := by
    unfold Cell.given
    by_cases h : code % 2 = 0
    · simp [h]
    · simp [show code % 2 = 1 by omega]
  unfold State.takeFrom
  simp only [if_pos hcode, hcell]
  split
  · exact ⟨_, State.seen_frame State.cells (fun _ _ _ => rfl) (fun _ _ _ => rfl) _ _ _ _ _,
      State.seen_frame State.chans (fun _ _ _ => rfl) (fun _ _ _ => rfl) _ _ _ _ _, rfl⟩
  · exact ⟨s, rfl, rfl, rfl⟩

theorem gsink_inj {g k n : Nat} : gsink g k = gsink g n ↔ k = n := by
  unfold gsink
  omega

/-- The stage is free once every sink that selects it has taken the token. -/
theorem OStage.took_eq (o : OStage) (s : State) (g k code : Nat) :
    o.took (gsink g k) (s.wanted [g] code) = if (s.sinksOf g code).all (fun n => n == k || o.taken.contains (gsink g n)) then {}
      else { o with taken := gsink g k :: o.taken } := by
  have hall : (s.wanted [g] code).all (fun n => (gsink g k :: o.taken).contains n) = (s.sinksOf g code).all (fun n => n == k || o.taken.contains (gsink g n)) := by
    simp only [State.wanted, List.flatMap_cons, List.flatMap_nil, List.append_nil, List.all_map]
    congr 1
    funext n
    rw [Function.comp_apply, List.contains_cons]
    congr 1
    simp [gsink_inj]
  unfold OStage.took
  dsimp only
  rw [hall]

theorem Cell.given_stage (c : Cell) (oy : Bool) (me : Nat) (wanted : List Nat) :
    (if oy then (c.given oy me wanted).oy else (c.given oy me wanted).ox) = (if oy then c.oy else c.ox).took me wanted := by
  cases oy <;> rfl

/-- What is left where a sink takes a cell's token into channel `key`. -/
theorem State.takenReport_leaves {s : State} {g k : Nat} (hcode : s.sel g k < 128) (key : Nat) (c : Chan) (r : Nat) (gg port : Option Nat) :
    let v := ((s.setChan key c).takeFrom g k).codeReport 0 (gsink g k) r gg port
    (∀ q, v.chan q = if q = key then c else s.chan q) ∧
    v.ostage (g * 64 + s.sel g k / 2) (s.sel g k % 2 == 1) =
      (if (s.sinksOf g (s.sel g k)).all (fun n => n == k || (s.ostage (g * 64 + s.sel g k / 2) (s.sel g k % 2 == 1)).taken.contains (gsink g n)) then {}
       else { s.ostage (g * 64 + s.sel g k / 2) (s.sel g k % 2 == 1) with
              taken := gsink g k :: (s.ostage (g * 64 + s.sel g k / 2) (s.sel g k % 2 == 1)).taken }) ∧
    ∀ x, x ≠ g * 64 + s.sel g k / 2 → v.cell x = s.cell x := by
  obtain ⟨u, hcells, hchans, htake⟩ := State.takeFrom_cell (s := s.setChan key c) (g := g) (k := k) hcode
  intro v
  have hv : v = (u.setCell (g * 64 + s.sel g k / 2) ((s.cell (g * 64 + s.sel g k / 2)).given (s.sel g k % 2 == 1) (gsink g k) (s.wanted [g] (s.sel g k)))).codeReport
      0 (gsink g k) r gg port := congrArg (fun t => State.codeReport t 0 (gsink g k) r gg port) htake
  have hcell (x : Nat) : v.cell x = if x = g * 64 + s.sel g k / 2 then
      (s.cell x).given (s.sel g k % 2 == 1) (gsink g k) (s.wanted [g] (s.sel g k)) else s.cell x := by
    rw [hv]
    refine (State.codeReport_clean_frame (fun t => t.cell x) (fun _ _ _ => rfl) _ _ _ _ _).trans ((Store.get_put _ _ _ _ _).trans ?_)
    rw [hcells]
    split
    · next h => subst h; rfl
    · rfl
  refine ⟨fun q => ?_, ?_, fun x hx => ?_⟩
  · rw [hv]
    refine (State.codeReport_clean_frame (fun t => t.chan q) (fun _ _ _ => rfl) _ _ _ _ _).trans ?_
    unfold State.chan State.setCell
    rw [hchans]
    exact State.chan_setChan s _ _ _
  · rw [← OStage.took_eq, State.ostage, hcell, if_pos rfl, Cell.given_stage]
    rfl
  · rw [hcell, if_neg hx]

section CellGive
variable {g : Fin 544} {p : Fin 4} {j : Fin 8} {s : State} {t : Tok} {lc : Nat} {rest : List (Option Tok)}

/-- The channel that leads away from sink `272 + 8 * p + j`. -/
theorem State.sinkTake_gives (hlit : s.cluLit g = true) (hlc : s.logicalOf g = some lc) (hpair : s.paired (g.val / 17) = false) (hmode : s.portMode g p = 1)
    (htwin : s.twin (gsink g (272 + 8 * p.val + j.val)) = none) (hoff : s.offered g (272 + 8 * p.val + j.val) = some t)
    (hst : (s.chan (chKey (epPort (g.val / 17) lc p j))).stages = none :: rest)
    (hb : (s.chan (chKey (epPort (g.val / 17) lc p j))).broken = false) :
    s.sinkTake g (272 + 8 * p.val + j.val) 0 =
      ((s.setChan (chKey (epPort (g.val / 17) lc p j)) ((s.chan (chKey (epPort (g.val / 17) lc p j))).push t)).takeFrom g (272 + 8 * p.val + j.val)).codeReport 0
        (gsink g (272 + 8 * p.val + j.val)) (g / 17) (some g) (s.portOfSink g (272 + 8 * p.val + j.val)) := by
  have hret : s.retired g = false := by unfold State.retired; simp only [hlc, hpair, Bool.false_and]
  have hcmp : s.compares g = false := by unfold State.compares; simp only [hlc, hpair, Bool.false_and]
  have hlead : s.lead (g.val / 17) lc = lc := by unfold State.lead; simp [hpair]
  have hport : (272 + 8 * p.val + j.val - 272) / 8 = p.val := by omega
  have hchan : (272 + 8 * p.val + j.val - 272) % 8 = j.val := by omega
  have hdeliver : s.deliverOut g (272 + 8 * p.val + j.val) t = s.feed (epPort (g.val / 17) lc p j) t := by
    unfold State.deliverOut
    simp only [hlc, hlead]
    rw [if_neg (by omega), if_pos (by omega), hport, hchan]
    exact if_pos (by simp [State.streamPort, hmode])
  have hinto : s.intoSink g (272 + 8 * p.val + j.val) t = some (s.setChan (chKey (epPort (g.val / 17) lc p j)) ((s.chan (chKey (epPort (g.val / 17) lc p j))).push t)) := by
    unfold State.intoSink
    rw [if_neg (by rw [hlit]; simp; omega), if_neg (by omega), if_neg (by simp [hret]), if_neg (by simp [hcmp, htwin]), hdeliver, State.feed_room t hst hb]
  unfold State.sinkTake
  simp only [hoff, hret, Bool.false_and, garble_clean, hinto, hcmp]
  rfl

end CellGive

/-! Over a link of the access plane (R136, R137). -/

theorem State.mayCross_iff (s : State) (l : PlaneLink) (x : Flight) :
    s.mayCross l x = true ↔ x.path.head? = some l ∧ (∀ y ∈ s.flights, y.here = some l → y.tc ≠ x.tc) ∧
      (∀ q, l = .into q → (s.region q).gate = true → x.ans ≠ none) ∧ ∀ d ∈ linkDies l, s.dom (dieDom d) = 0 := by
  unfold State.mayCross
  simp only [Bool.and_eq_true, Bool.not_eq_true', beq_iff_eq, List.any_eq_false, List.all_eq_true, decide_eq_true_eq, and_assoc]
  refine and_congr_right (fun hpath => and_congr (by simp) (and_congr_left (fun _ => ?_)))
  obtain ⟨rest, hrest⟩ : ∃ rest, x.path = l :: rest := List.head?_eq_some_iff.mp hpath
  unfold State.atShutGate
  rw [hrest]
  cases l with
  | into q => simp [Option.isSome_iff_ne_none]
  | _ => simp

theorem nextInput_mem {last : Nat} {l : List Flight} {f : Flight} (h : nextInput last l = some f) : f ∈ l := by
  cases l with
  | nil => cases h
  | cons a l =>
    have hfold : ∀ (l : List Flight) (a : Flight),
        l.foldl (fun a x => if (x.inputKey + 65535 - last) % 65536 < (a.inputKey + 65535 - last) % 65536 then x else a) a ∈ a :: l := by
      intro l
      induction l with
      | nil => exact fun a => List.mem_cons_self
      | cons b l ih =>
        intro a
        rw [List.foldl_cons]
        rcases List.mem_cons.mp (ih _) with h | h
        · rw [h]
          split <;> simp
        · exact List.mem_cons_of_mem _ (List.mem_cons_of_mem _ h)
    injection h with h
    exact h ▸ hfold l a

theorem nextInput_none {last : Nat} {l : List Flight} (h : nextInput last l = none) : l = [] := by
  cases l with
  | nil => rfl
  | cons a l => cases h

/-- R137: what is served next may cross, and is of the Vermilion class if any such may. -/
theorem State.laneNext_serves {s : State} {l : PlaneLink} {f : Flight} (h : s.laneNext l = some f) :
    f ∈ s.flights ∧ s.mayCross l f = true ∧ (f.tc = 0 ∨ ∀ x ∈ s.flights, s.mayCross l x = true → x.tc ≠ 0) := by
  unfold State.laneNext at h
  dsimp only at h
  split at h
  · next f' hf =>
    injection h with h
    subst h
    obtain ⟨hready, h0⟩ := List.mem_filter.mp (nextInput_mem hf)
    obtain ⟨hmem, hmay⟩ := List.mem_filter.mp hready
    exact ⟨hmem, hmay, Or.inl (by simpa using h0)⟩
  · next hnone =>
    obtain ⟨c, -, hfind⟩ := List.exists_of_findSome?_eq_some h
    obtain ⟨hmem, hmay⟩ := List.mem_filter.mp (List.mem_of_find?_eq_some hfind)
    refine ⟨hmem, hmay, Or.inr (fun x hx hxmay h0 => ?_)⟩
    have : x ∈ (s.flights.filter (s.mayCross l)).filter (fun f => decide (f.tc = 0)) := by simp [hx, hxmay, h0]
    rw [nextInput_none hnone] at this
    cases this

theorem State.laneNext_none {s : State} {l : PlaneLink} (h : ∀ x ∈ s.flights, s.mayCross l x = false) : s.laneNext l = none := by
  have hready : s.flights.filter (s.mayCross l) = [] := List.filter_eq_nil_iff.mpr (fun x hx => by simp [h x hx])
  unfold State.laneNext
  rw [hready]
  rfl

/-- An access or answer that crosses link `l`. -/
def Flight.crossed (x f : Flight) (s : State) (l : PlaneLink) (bad : BitVec 17) : Flight :=
  { x.garbled bad s.freeNow with path := f.path.drop 1, here := if (f.path.drop 1).isEmpty then none else some l,
                                 arr := if (f.path.drop 1).isEmpty then s.nextId else x.arr }

/-- The state after `f` crossed link `l`, before its receiver's report. -/
def State.crossedBy (s : State) (l : PlaneLink) (f : Flight) (bad : BitVec 17) : State :=
  { (s.mapFlight f.id (fun x => x.crossed f s l bad)).setLaneArb (linkKey l)
      (if f.tc = 0 then { s.laneArb (linkKey l) with vin := f.inputKey } else { s.laneArb (linkKey l) with turn := f.tc % 3 }) with nextId := s.nextId + 1 }

theorem State.laneMove_next {s : State} {l : PlaneLink} {f : Flight} (h : s.laneNext l = some f) (bad : BitVec 17) :
    s.laneMove l bad = (s.crossedBy l f bad).codeReport bad (placeKey 4 (4 * linkKey l + f.tc)) (nth 0 (linkRegions l).reverse 0) none none := by
  unfold State.laneMove
  rw [h]
  rfl

theorem Flight.garbled_id (f : Flight) (bad : BitVec 17) (free : BitVec 64) : (f.garbled bad free).id = f.id := by
  unfold Flight.garbled
  split
  · rfl
  · split <;> rfl

theorem Flight.garbled_poison {f : Flight} {bad : BitVec 17} (hbad : bad ≠ 0) (hans : f.ans = none) (free : BitVec 64) : (f.garbled bad free).poison = true := by
  unfold Flight.garbled
  rw [if_neg hbad, hans]

end Machine
open Machine

/-- Settles O18. A move along a channel and one over a link are the equations above; out of a cell, the token enters the channel and the cell's stage
notes the sink. -/
theorem routeMoves : Obligations.RouteMoves := by
  unfold Obligations.RouteMoves
  refine ⟨fun ch i bad s t hi hn => ⟨fun hshut => ?_, fun hopen => ?_⟩, fun g p j s t lc rest hlit hlc hpair hmode htwin hoff hcode hst hb => ?_,
    fun g k bad s hoff => ?_, fun l bad s => ⟨fun hnone => ?_, s.mayCross_iff l, fun f hf => ?_⟩⟩
  · exact ok_congr (State.stageMove_shut bad hi hn hshut)
  · have hexec := ok_congr (State.stageMove_open bad hi hn hopen)
    refine .of_eq hexec ?_
    have hframe : ∀ k, ((s.setChan (chKey ch) ((s.chan (chKey ch)).moved i (garble bad s.freeNow t))).codeReport bad (placeKey 0 (64 * chKey ch + i))
        (((s.chanRegions ch (s.chan (chKey ch)).snk)[i + 1]?).getD (epRegion ch)) none none).chan k =
        if k = chKey ch then (s.chan (chKey ch)).moved i (garble bad s.freeNow t) else s.chan k := fun k =>
      (State.codeReport_frame (fun u => u.chan k) (fun _ _ _ _ => rfl) _ _ _ _).trans (State.chan_setChan _ _ _ _)
    refine ⟨⟨garble bad s.freeNow t, ?_, fun h => ?_, fun h => garble_faulty h _ _⟩, fun h => ?_, fun j h0 h1 h2 => ?_, fun k hk => ?_, fun h => ?_, fun h => ⟨?_, ?_⟩⟩
    · rw [hframe, if_pos rfl, Chan.moved_next _ hn]
    · rw [h, garble_clean]
    · rw [hframe, if_pos rfl, Chan.moved_here _ hn h]
    · rw [hframe, if_pos rfl, Chan.moved_other _ hn h0 h1 h2]
    · rw [hframe, if_neg hk]
    · exact State.codeReport_faulty _ h _ _
    · subst h
      have hput : KeepRegs [tnkErr (((s.chanRegions ch (s.chan (chKey ch)).snk)[i + 1]?).getD (epRegion ch))] s
          (s.setChan (chKey ch) ((s.chan (chKey ch)).moved i (garble 0 s.freeNow t))) := .of_regs rfl
      exact hput.trans (State.keepRegs_codeReport_clean _ _ _ _ _)
    · subst h
      exact (State.codeReport_clean_ev _ _ _ _ ((Ev.refl (fieldMask [.regs, .chans, .codePend]) s).setChan (by rfl) _ _) (by rfl)).only_mask
  · have hexec := ok_congr (State.sinkTake_gives hlit hlc hpair hmode htwin hoff hst hb)
    obtain ⟨hchan, hstage, hcell⟩ := State.takenReport_leaves (s := s) (g := g) (k := 272 + 8 * p.val + j.val) hcode (chKey (epPort (g.val / 17) lc p j))
      ((s.chan (chKey (epPort (g.val / 17) lc p j))).push t) (g / 17) (some g.val) (s.portOfSink g (272 + 8 * p.val + j.val))
    refine .of_eq hexec ⟨?_, fun q hq => ?_, hstage, hcell⟩
    · rw [hchan, if_pos rfl, Chan.push, hst]
    · rw [hchan, if_neg hq]
  · have h : s.sinkTake g k bad = s := by unfold State.sinkTake; rw [hoff]
    exact ok_congr h
  · have h : s.laneMove l bad = s := by unfold State.laneMove; rw [State.laneNext_none hnone]
    exact ok_congr h
  · obtain ⟨hmem, hmay, hclass⟩ := State.laneNext_serves hf
    have hexec := ok_congr (State.laneMove_next hf bad)
    have hflights : ((s.crossedBy l f bad).codeReport bad (placeKey 4 (4 * linkKey l + f.tc)) (nth 0 (linkRegions l).reverse 0) none none).flights =
        s.flights.map (fun x => if x.id == f.id then x.crossed f s l bad else x) := State.codeReport_frame State.flights (fun _ _ _ _ => rfl) _ _ _ _
    refine ⟨hmem, hmay, hclass, .of_eq hexec ⟨State.codeReport_frame State.nextId (fun _ _ _ _ => rfl) _ _ _ _, fun x hx hid => ?_, fun h => ⟨?_, ?_⟩, fun h hans => ?_⟩⟩
    · rw [hflights] at hx
      obtain ⟨y, -, rfl⟩ := List.mem_map.mp hx
      by_cases hy : y.id = f.id
      · simp [hy, Flight.crossed]
      · simp [hy] at hid
    · rw [hflights, h]
      rfl
    · subst h
      exact (State.codeReport_clean_ev _ _ _ _ ((((Ev.refl (fieldMask [.flights, .nextId, .lanes, .regs, .codePend]) s).set_flights (by rfl)).setLaneArb
        (by rfl) _ _).set_nextId (by rfl)) (by rfl)).only_mask
    · refine ⟨f.crossed f s l bad, ?_, Flight.garbled_id _ _ _, Flight.garbled_poison h hans _⟩
      rw [hflights]
      exact List.mem_map.mpr ⟨f, hmem, by simp⟩

end Sys2Proof
end

section
/-! Access ports (R116 to R118, R132, R134, R136, R148, R156): the words a port takes, what it sends, and the answers that come back to it. -/

namespace Sys2Proof

open Machine

theorem DoesThen.of_eq {c : Instr} {s u : State} {P : State → Prop} (h : exec c s = .next u.ixSettle) (hp : P u) : DoesThen c s P := ⟨u, hp, h⟩

namespace Machine

/-- What each update of a list establishes and none undoes holds of every entry at the end. -/
theorem State.each_sets {α : Type} (P : α → State → Prop) {f : State → α → State} (hset : ∀ s a, P a (f s a)) (hkeep : ∀ s a b, P b s → P b (f s a))
    (s : State) (l : List α) : ∀ a ∈ l, P a (s.each l f) := by
  have hall : ∀ (l : List α) (s : State) (b : α), P b s → P b (s.each l f) := by
    intro l
    induction l with
    | nil => exact fun _ _ h => h
    | cons a l ih => exact fun s b h => ih (f s a) b (hkeep s a b h)
  induction l generalizing s with
  | nil => exact fun _ h => nomatch h
  | cons a l ih =>
    intro b hb
    rcases List.mem_cons.mp hb with rfl | hb
    · exact hall l _ _ (hset s b)
    · exact ih (f s a) b hb

theorem State.aport_setAport (s : State) (i k : Nat) (x : APort) : (s.setAport i x).aport k = if k = i then x else s.aport k :=
  Store.get_put _ _ _ _ _

/-! Access words (R132, R134). -/

/-- The limit of what a port has outstanding. -/
theorem overLimit_iff (isW : Bool) (writes reads : Nat) :
    ((isW && decide (32 ≤ writes)) || (!isW && decide (16 ≤ reads))) = true ↔ if isW then 32 ≤ writes else 16 ≤ reads := by
  cases isW <;> simp

section Word
variable {lp : Fin 2048} {s : State} {w : Tok} (hreq : (s.aport lp).req = some w)
include hreq

/-- A word with its data: what its route and the port's limits make of it. -/
theorem exec_accessWord (hready : (decide (fld w.d 30 2 = 1) && ((s.aport lp).data.isNone || !(s.region (lpR lp)).writes)) = false) :
    let isW : Bool := decide (fld w.d 30 2 = 1)
    let data : Tok := if isW then (s.aport lp).data.getD {} else {}
    let s1 := s.setAport lp { s.aport lp with req := none, data := if isW then none else (s.aport lp).data }
    exec (.accessWordSent lp) s = match s.route (s.portG lp) (lpP lp) w.d with
      | none =>
        if !isW && ((s.aport lp).rep.tok.isSome || decide (0 < s.outReads lp)) then ok s
        else ok (s1.answerAtPort lp (if isW then .write else .read) (w.p || (isW && data.p)))
      | some (pkg, addr) =>
        if (isW && decide (32 ≤ s.outWrites lp)) || (!isW && decide (16 ≤ s.outReads lp)) then ok s
        else ok (s1.launch { iss := lpIssuer lp, lp := lp, cell := s.feeder lp, cls := distance (lpR lp) (pkg, addr),
                             tc := s.portClass (s.portG lp) (lpP lp), kind := if isW then .write else .read, lock := bit w.d 29,
                             poison := w.p || (isW && data.p), pkg := pkg, addr := addr, data := data }) := by
  intro isW data s1
  change execAccessWordSent lp s = _
  unfold execAccessWordSent
  simp only [hreq]
  exact if_neg (Bool.eq_false_iff.mp hready)

theorem exec_accessWord_waits (hwait : (decide (fld w.d 30 2 = 1) && ((s.aport lp).data.isNone || !(s.region (lpR lp)).writes)) = true) :
    exec (.accessWordSent lp) s = .next s := by
  change execAccessWordSent lp s = _
  unfold execAccessWordSent
  simp only [hreq]
  exact if_pos hwait

end Word

/-! A word that leads nowhere (R118). -/

theorem meshViol_eq (r : Nat) : violOf .mesh r = meshReg r 0xC := rfl

/-- Counting a refused word changes nothing that says which sinks select a port's REPLY. -/
theorem State.members_meshViol (s : State) (r q lc : Nat) (hlc : lc < 16) : (s.viol .mesh r).members q lc = s.members q lc := by
  have hreg (off : Nat) (hoff : off < 0x1000) : (s.viol .mesh r).rget ⟨.tnk, q, off⟩ = s.rget ⟨.tnk, q, off⟩ := by
    refine State.rget_count_ne _ _ _ _ _ _ ?_
    rw [meshViol_eq, meshReg_addr, tnkReg_addr]
    omega
  have hgOf (k : Nat) (hk : k < 17) : (s.viol .mesh r).gOf q k = s.gOf q k := by
    unfold State.gOf State.physOf State.rf
    rw [hreg _ (by omega)]
  have hpaired : (s.viol .mesh r).paired q = s.paired q := by
    unfold State.paired State.rb
    rw [hreg 0 (by decide)]
  have hpair (k : Nat) : (s.viol .mesh r).pair k = s.pair k := rfl
  unfold State.members
  rw [hpaired, hpair, hgOf _ (by omega), hgOf _ (by omega), hgOf _ (by omega)]

theorem lpC_lt (lp : Nat) : lpC lp < 16 := Nat.mod_lt _ (by decide)

/-- R118: what a port's own answer leaves, after it took the word. -/
theorem State.answerAtPort_leaves (s : State) (lp : Nat) (isW poisoned : Bool) :
    let u := s.answerAtPort lp (if isW then .write else .read) poisoned
    u.flights = s.flights ∧ (u.aport lp).req = (s.aport lp).req ∧ (isW = true → (u.aport lp).rep = (s.aport lp).rep) ∧
    (isW = false → s.wanted (s.members (lpR lp) (lpC lp)) (168 + lpP lp) ≠ [] → (u.aport lp).rep = { tok := some { p := poisoned } }) ∧
    KeepRegs [violOf .mesh (lpR lp)] s u ∧
    u.rf (violOf .mesh (lpR lp)) 0 16 = (if poisoned then s.rf (violOf .mesh (lpR lp)) 0 16 else min 0xFFFF (s.rf (violOf .mesh (lpR lp)) 0 16 + 1)) := by
  let s1 := if poisoned then s else s.viol .mesh (lpR lp)
  have hflights : s1.flights = s.flights := by dsimp only [s1]; split <;> rfl
  have haport : s1.aport lp = s.aport lp := by dsimp only [s1]; split <;> rfl
  have hmembers : s1.members (lpR lp) (lpC lp) = s.members (lpR lp) (lpC lp) := by
    dsimp only [s1]; split
    · rfl
    · exact s.members_meshViol _ _ _ (lpC_lt lp)
  have hwanted : s1.wanted (s1.members (lpR lp) (lpC lp)) (168 + lpP lp) = s.wanted (s.members (lpR lp) (lpC lp)) (168 + lpP lp) := by
    rw [hmembers]; dsimp only [s1]; split <;> rfl
  have hkeep : KeepRegs [violOf .mesh (lpR lp)] s s1 := by
    dsimp only [s1]; split
    · exact .refl _ s
    · exact (s.violAt_countsAt _).2.2.1
  have hcount : s1.rf (violOf .mesh (lpR lp)) 0 16 = (if poisoned then s.rf (violOf .mesh (lpR lp)) 0 16 else min 0xFFFF (s.rf (violOf .mesh (lpR lp)) 0 16 + 1)) := by
    dsimp only [s1]; split
    · rfl
    · exact (s.violAt_countsAt _).1
  cases isW with
  | true => exact ⟨hflights, congrArg APort.req haport, fun _ => congrArg APort.rep haport, fun h => Bool.noConfusion h, hkeep, hcount⟩
  | false =>
    have hput : s.answerAtPort lp (if false = true then .write else .read) poisoned =
        if (s.wanted (s.members (lpR lp) (lpC lp)) (168 + lpP lp)).isEmpty then s1 else s1.setAport lp { s1.aport lp with rep := { tok := some { p := poisoned } } } := by
      rw [← hwanted]; rfl
    intro u
    by_cases hempty : s.wanted (s.members (lpR lp) (lpC lp)) (168 + lpP lp) = []
    · have hu : u = s1 := hput.trans (if_pos (by rw [hempty]; rfl))
      rw [hu]
      exact ⟨hflights, congrArg APort.req haport, fun h => (by cases h), fun _ h => absurd hempty h, hkeep, hcount⟩
    · have hu : u = s1.setAport lp { s1.aport lp with rep := { tok := some { p := poisoned } } } := hput.trans (if_neg (by simpa using hempty))
      rw [hu]
      refine ⟨hflights, ?_, fun h => (by cases h), fun _ _ => ?_, hkeep.then_regs rfl, hcount⟩
      · rw [State.aport_setAport_same, haport]
      · rw [State.aport_setAport_same]

/-! Answers that come back (R117, R134, R148). -/

theorem portReg_addr' (i off : Nat) : (⟨.port, i, off⟩ : Reg).addr = 0x100A40000 + 0x10000000 * (i / 68 / 8) + 0x1000000 * (i / 68 % 8) + 0x100 * (i % 68 / 4) + 0x40 * (i % 4) + off := by
  simp only [Reg.addr, Blk.base, winBase]
  omega

theorem port_status_ne_count (i k : Nat) : (⟨.port, i, 0⟩ : Reg).addr ≠ (⟨.port, k, 4⟩ : Reg).addr := by
  rw [portReg_addr', portReg_addr']
  omega

/-- A register is read by its address and its Reset value. -/
theorem State.rget_congr {s : State} {g k : Reg} (ha : g.addr = k.addr) (hr : g.reset = k.reset) : s.rget g = s.rget k := by
  unfold State.rget
  rw [ha, hr]

/-- One cluster's port notes a refusal. -/
def State.noteRefusal (s : State) (p g : Nat) : State := (s.sticky ⟨.port, g * 4 + p, 0⟩ 31).count ⟨.port, g * 4 + p, 4⟩ 0 16 1

theorem State.refuseAtPort_notes (s : State) (r lc p : Nat) : ∀ g ∈ s.members r lc, (s.refuseAtPort r lc p).rb ⟨.port, g * 4 + p, 0⟩ 31 = true := by
  refine State.each_sets (fun g t => t.rb ⟨.port, g * 4 + p, 0⟩ 31 = true) (f := fun s g => s.noteRefusal p g) (fun s g => ?_) (fun s g k h => ?_) s _
  · exact (State.rb_count_ne _ _ _ _ _ (port_status_ne_count _ _)).trans (State.rb_sticky_self _ _ _ (by decide))
  · refine (State.rb_count_ne _ _ _ _ _ (port_status_ne_count _ _)).trans ?_
    by_cases hk : (⟨.port, k * 4 + p, 0⟩ : Reg).addr = (⟨.port, g * 4 + p, 0⟩ : Reg).addr
    · rw [State.rb, State.rget_congr hk rfl]
      exact State.rb_sticky_self _ _ _ (by decide)
    · exact (State.rb_rput_ne _ _ _ _ _ hk).trans h

/-- Noting a refusal writes registers alone. -/
theorem State.refuseAtPort_frame {β : Type} (φ : State → β) (hφ : ∀ s g v, φ (State.rput s g v) = φ s) (s : State) (r lc p : Nat) :
    φ (s.refuseAtPort r lc p) = φ s :=
  State.each_inv (f := fun s g => s.noteRefusal p g) φ (fun _ _ => (hφ _ _ _).trans (hφ _ _ _)) s _

/-- A reply that leaves at its port. -/
def State.replied (s : State) (id : Nat) (f : Flight) (a : Answer) (r lc p : Nat) : State :=
  if a = .quarantined then ((s.dropFlight id).putReply f.lp a.tok).refuseAtPort r lc p else (s.dropFlight id).putReply f.lp a.tok

/-- A report that ends at its port. -/
def State.reported (s : State) (id : Nat) (a : Answer) (r lc p : Nat) : State :=
  if a = .quarantined then (s.dropFlight id).refuseAtPort r lc p else s.dropFlight id

section Answers
variable {id r lc p : Nat} {s : State} {f : Flight} {a : Answer} (hf : s.flight id = some f) (hiss : f.iss = .port r lc p) (hans : f.ans = some a)
  (hpath : f.path = []) (horphan : f.orphan = false) (htakes : s.portTakes f.lp = true)
include hf hiss hans hpath horphan htakes

theorem exec_accessReply (hkind : f.kind = .read) (hfirst : s.firstRead f = true) (hrep : (s.aport f.lp).rep.tok = none) :
    exec (.accessReply id) s = .next (s.replied id f a r lc p).ixSettle := by
  change execAccessReply id s = _
  unfold execAccessReply accessReply
  simp only [hf, hiss, hkind, hans, hpath, horphan, hfirst, hrep, htakes]
  rfl

theorem exec_accessReport (hkind : f.kind = .write) : exec (.accessCompletionReport id) s = .next (s.reported id a r lc p).ixSettle := by
  change execAccessCompletionReport id s = _
  unfold execAccessCompletionReport State.completionReport
  simp only [hf, hiss, hkind, hans, hpath, horphan, htakes]
  rfl

end Answers

/-- With no session open Ixzento has nothing to answer. -/
theorem State.ixSettle_noSessions (s : State) (h : s.ix.sessions = []) : s.ixSettle = s := by
  have hpass : s.ixPass = s := by unfold State.ixPass; rw [h]; rfl
  have hiter (n : Nat) : iter State.ixPass n s = s := by
    induction n with
    | zero => rfl
    | succ n ih => rw [iter, hpass, ih]
  unfold State.ixSettle
  rw [hiter, ite_self]

/-- Which clusters serve a logical number is read from the registers and the pairs. -/
theorem State.members_of_regs {s u : State} (hr : u.regs = s.regs) (hp : u.pairs = s.pairs) (r lc : Nat) : u.members r lc = s.members r lc := by
  unfold State.members State.paired State.gOf State.physOf State.pair State.rb State.rf State.rget
  rw [hr, hp]

theorem State.regs_putReply (s : State) (lp : Nat) (t : Tok) : (s.putReply lp t).regs = s.regs := by
  unfold State.putReply; split <;> rfl

theorem State.flights_putReply (s : State) (lp : Nat) (t : Tok) : (s.putReply lp t).flights = s.flights := by
  unfold State.putReply; split <;> rfl

theorem State.putReply_wanted {s : State} {lp : Nat} (t : Tok) (h : s.wanted (s.members (lpR lp) (lpC lp)) (168 + lpP lp) ≠ []) :
    s.putReply lp t = s.setAport lp { s.aport lp with rep := { tok := some t } } := if_neg (by simpa using h)

end Machine
open Machine

/-- Settles O19. A word's cases are the branches of its command; an answer leaves flight, enters REPLY and, where it is a refusal, is noted. -/
theorem accessPorts : Obligations.AccessPorts := by
  unfold Obligations.AccessPorts
  refine ⟨fun lp s w => ?_, fun id r lc p s f a hf hiss hkind hans hpath horphan hfirst hrep htakes hwanted => ?_,
    fun id r lc p s f a hf hiss hkind hans hpath horphan htakes => ?_, fun id s f hf hpath => ⟨?_, ?_⟩, fun s h => ?_⟩
  · intro a g isW d taken hreq
    refine ⟨fun hW hwait => ?_, fun hready => ?_⟩
    · refine exec_accessWord_waits hreq ?_
      have hW' : decide (fld w.d 30 2 = 1) = true := hW
      rcases hwait with h | h
      · simp [hW', show (s.aport lp).data = none from h]
      · simp [hW', h]
    · have hword := exec_accessWord hreq (by
        cases hW : isW with
        | false => simp [show decide (fld w.d 30 2 = 1) = false from hW]
        | true =>
          obtain ⟨hdata, hwrites⟩ := hready hW
          have hdata' : (s.aport lp).data.isNone = false := by simpa [Option.isSome_iff_ne_none] using hdata
          simp [hdata', hwrites])
      refine ⟨fun pkg addr hroute hlimit => ?_, fun pkg addr hroute hlimit => ?_, fun hroute hr hbusy => ?_, fun hroute hfree => ?_⟩
      · rw [hword, hroute]
        exact if_pos ((overLimit_iff isW _ _).mpr hlimit)
      · have hexec := hword
        rw [hroute] at hexec
        replace hexec := hexec.trans (if_neg (fun h => hlimit ((overLimit_iff isW _ _).mp h)))
        exact .of_eq hexec ⟨s.aport_setAport_same _ _, ⟨rfl, rfl⟩, fun q hq => s.aport_setAport_ne _ _ _ hq, .of_regs rfl,
          ((((Ev.refl (fieldMask [.aports, .flights, .nextId]) s).setAport (by rfl) _ _).set_flights_nextId (by rfl))).only_mask⟩
      · rw [hword, hroute]
        exact if_pos (by rw [show decide (fld w.d 30 2 = 1) = false from hr]; simpa using hbusy)
      · have hexec := hword
        rw [hroute] at hexec
        have hnot : ¬ (!isW && ((s.aport lp).rep.tok.isSome || decide (0 < s.outReads lp))) = true := by
          rcases hfree with h | ⟨h1, h2⟩
          · simp [h]
          · simp [show (s.aport lp).rep.tok = none from h1, h2]
        replace hexec := hexec.trans (if_neg hnot)
        obtain ⟨hflights, hreq', hrep, hrepR, hkeep, hcount⟩ := (s.setAport lp taken).answerAtPort_leaves lp isW (w.p || (isW && d.p))
        have hself : (s.setAport lp taken).aport lp = taken := s.aport_setAport_same _ _
        rw [hself] at hreq' hrep
        refine .of_eq hexec ⟨hflights, hreq', hrep, fun h hw => ?_, (KeepRegs.of_regs rfl).trans hkeep, hcount,
          (execAccessWordSent_ev lp (Ev.refl (fieldMask [.regs, .aports, .flights, .nextId]) s) (by rfl)).only hexec⟩
        have hp : (w.p || (isW && d.p)) = w.p := by rw [show isW = false from h]; simp
        exact (hrepR h hw).trans (by rw [hp])
  · have hput := (s.dropFlight id).putReply_wanted a.tok hwanted
    have hregs := (s.dropFlight id).regs_putReply f.lp a.tok
    have hflights := (s.dropFlight id).flights_putReply f.lp a.tok
    have hrep' : ((((s.dropFlight id).putReply f.lp a.tok).aport f.lp).rep = { tok := some a.tok }) ∧
        ∀ q, q ≠ f.lp → ((s.dropFlight id).putReply f.lp a.tok).aport q = s.aport q := by
      rw [hput]
      exact ⟨congrArg APort.rep (State.aport_setAport_same _ _ _), fun q hq => State.aport_setAport_ne _ _ _ _ hq⟩
    have honly := Ev.only_mask (State.putReply_ev f.lp a.tok (State.dropFlight_ev id (Ev.refl (fieldMask [.regs, .aports, .flights]) s) (by rfl)) (by rfl))
    refine .of_eq (exec_accessReply hf hiss hans hpath horphan htakes hkind hfirst hrep) ?_
    unfold State.replied
    by_cases hq : a = .quarantined
    · rw [if_pos hq]
      refine ⟨(State.refuseAtPort_frame State.flights (fun _ _ _ => rfl) _ _ _ _).trans hflights,
        (congrArg APort.rep (State.refuseAtPort_frame (fun t => t.aport f.lp) (fun _ _ _ => rfl) _ _ _ _)).trans hrep'.1,
        fun q h => (State.refuseAtPort_frame (fun t => t.aport q) (fun _ _ _ => rfl) _ _ _ _).trans (hrep'.2 q h), fun h => absurd hq h, fun _ => ⟨by rw [hq]; rfl, ?_⟩,
        honly.trans (State.refuseAtPort_ev r lc p (Ev.refl (fieldMask [.regs, .aports, .flights]) _) (by rfl)).only_mask⟩
      have hnotes := State.refuseAtPort_notes ((s.dropFlight id).putReply f.lp a.tok) r lc p
      rwa [State.members_of_regs hregs (by rw [hput]; rfl)] at hnotes
    · rw [if_neg hq]
      exact ⟨hflights, hrep'.1, hrep'.2, fun _ => .of_regs hregs, fun h => absurd h hq, honly⟩
  · have honly := Ev.only_mask (State.dropFlight_ev id (Ev.refl (fieldMask [.regs, .flights]) s) (by rfl))
    refine .of_eq (exec_accessReport hf hiss hans hpath horphan htakes hkind) ?_
    unfold State.reported
    by_cases hq : a = .quarantined
    · rw [if_pos hq]
      exact ⟨State.refuseAtPort_frame State.flights (fun _ _ _ => rfl) _ _ _ _, fun h => absurd hq h, fun _ => (s.dropFlight id).refuseAtPort_notes r lc p,
        honly.trans (State.refuseAtPort_ev r lc p (Ev.refl (fieldMask [.regs, .flights]) _) (by rfl)).only_mask⟩
    · rw [if_neg hq]
      exact ⟨rfl, fun _ => .of_regs rfl, fun h => absurd h hq, honly⟩
  · exact (by change execAccessReply id s = _; unfold execAccessReply; simp [hf, hpath])
  · exact (by change execAccessCompletionReport id s = _; unfold execAccessCompletionReport; simp [hf, hpath])
  · exact s.ixSettle_noSessions h

end Sys2Proof
end

section
/-! A management core's accesses to the fabric (R136, R160, R393, R394, R396). -/

namespace Sys2Proof

open Machine

namespace Machine

theorem dbgCore_addr (c off : Nat) : (dbgCore c off).addr = 0x200A0040 + 0x20 * c + off := rfl

theorem irqReg_addr (off : Nat) : (irqReg off).addr = 0x200D0000 + off := rfl

theorem State.core_setCore (s : State) (i k : Nat) (x : Core) : (s.setCore i x).core k = if k = i then x else s.core k :=
  Store.get_put _ _ _ _ _

/-! What a core asks for (R160, R394). -/

theorem State.coreFree_iff (s : State) (c : Nat) : s.coreFree c = true ↔ s.coreRuns c = true ∧ (s.core c).load = none ∧ (s.core c).fence = false := by
  simp [State.coreFree, and_assoc]

theorem exec_coreLoad {c : Fin 4} {addr : BitVec 64} {w : Width} {s : State} (hfree : s.coreFree c = true) (ha : 0x100000000 ≤ addr.toNat) :
    exec (.coreFabricLoad c addr w) s = .next (s.coreLoad c addr.toNat w) := ok_congr (if_pos (by simp [hfree, ha]))

theorem exec_coreStore {c : Fin 4} {addr v : BitVec 64} {w : Width} {s : State} (hfree : s.coreFree c = true) (ha : 0x100000000 ≤ addr.toNat) :
    exec (.coreFabricStore c addr w v) s = .next (s.coreStore c addr.toNat w v) := ok_congr (if_pos (by simp [hfree, ha]))

theorem inFabric_of_none {a : Nat} (h : (placeOf a).region = none) : inFabric a = false := by unfold inFabric; rw [h]; rfl

/-- A FENCE waits for the core's accesses that are in flight. -/
theorem exec_coreFence {c : Fin 4} {s : State} (hfree : s.coreFree c = true) :
    ∃ t, exec (.coreFence c) s = .next t ∧
      (∀ k, t.core k = if k = c then { s.core c with fence := s.flights.any (ofCore c) } else s.core k) ∧ Only [.cores] s t := by
  by_cases hany : s.flights.any (ofCore c) = true
  · refine ⟨_, ok_congr (if_pos (by simp only [hfree, hany]; rfl)), fun k => ?_, ((Ev.refl (fieldMask [.cores]) s).setCore (by rfl) _ _).only_mask⟩
    rw [hany, State.core_setCore]
  · refine ⟨_, ok_congr (if_neg (by simp [hany])), fun k => ?_, .refl _ s⟩
    have hany' : s.flights.any (ofCore c) = false := by simpa using hany
    have hfence : (s.core c).fence = false := ((s.coreFree_iff c).mp hfree).2.2
    split
    · next h => rw [h, hany', ← hfence]
    · rfl

/-! The end of a load (R394, R473). -/

theorem irqReg_ne_dbgCore (off : Nat) (c k : Nat) (hc : c < 100) (hk : k < 0x20) (ho : off < 0x1000) : (irqReg off).addr ≠ (dbgCore c k).addr := by
  rw [irqReg_addr, dbgCore_addr]
  omega

theorem State.coreLoadEnd_eq {s : State} {c : Nat} (d : RegVal) (h : (s.core c).haltReq = false) :
    s.coreLoadEnd c d = ({ s with rdata := d }.setCore c { s.core c with load := none }).rsetb (dbgCore c 4) 29 false := by
  unfold State.coreLoadEnd
  refine if_neg ?_
  have hcore : ((({ s with rdata := d }.setCore c { s.core c with load := none }).rsetb (dbgCore c 4) 29 false).core c) = { s.core c with load := none } :=
    State.core_setCore_same _ _ _
  rw [hcore]
  simp [h]

theorem State.coreLoadEnd_leaves {s : State} {c : Nat} (d : RegVal) (h : (s.core c).haltReq = false) :
    (s.coreLoadEnd c d).rdata = d ∧ ((s.coreLoadEnd c d).core c).load = none ∧ (∀ k, k ≠ c → (s.coreLoadEnd c d).core k = s.core k) ∧
    (s.coreLoadEnd c d).flights = s.flights ∧ KeepRegs [dbgCore c 4] s (s.coreLoadEnd c d) ∧ Only [.regs, .rdata, .cores] s (s.coreLoadEnd c d) := by
  rw [State.coreLoadEnd_eq d h]
  have hregs : KeepRegs [dbgCore c 4] s ({ s with rdata := d }.setCore c { s.core c with load := none }) := .of_regs rfl
  exact ⟨rfl, congrArg Core.load (State.core_setCore_same _ _ _), fun k hk => State.core_setCore_ne _ _ _ _ hk, rfl, hregs.rsetb 29 false List.mem_cons_self,
    ((((Ev.refl (fieldMask [.regs, .rdata, .cores]) s).set_rdata (by rfl)).setCore (by rfl) _ _).rput (by rfl) _ _).only_mask⟩

/-- What MGT_FSTAT records. -/
theorem State.fstat_records (s : State) {c i : Nat} (hc : c < 4) (hi : i < 64) (hi28 : i < 28 ∨ 30 ≤ i) :
    (s.fstat c i).rb (irqReg 0x34) i = true ∧ (s.fstat c i).rf (irqReg 0x34) 28 2 = c ∧ KeepRegs [irqReg 0x34] s (s.fstat c i) := by
  refine ⟨?_, ?_, ((KeepRegs.refl _ s).sticky _ List.mem_cons_self).rsetf _ _ _ List.mem_cons_self⟩
  · exact (State.rb_rsetf _ _ _ _ _ _ (by omega)).trans (State.rb_sticky_self _ _ _ hi)
  · exact (State.rf_rsetf_self _ _ _ _ _ (by decide)).trans (Nat.mod_eq_of_lt hc)

/-- A waiting FENCE of a core changes nothing but its core. -/
theorem State.fenceCheck_leaves (s : State) (c : Nat) :
    (s.fenceCheck c).rdata = s.rdata ∧ ((s.fenceCheck c).core c).load = (s.core c).load ∧ (s.fenceCheck c).regs = s.regs ∧ (s.fenceCheck c).flights = s.flights := by
  unfold State.fenceCheck
  split
  · exact ⟨rfl, by rw [State.core_setCore_same], rfl, rfl⟩
  · exact ⟨rfl, rfl, rfl, rfl⟩

/-- The state after core `c`'s load `id` returned `w`. -/
def State.loadReturned (s : State) (id c : Nat) (w : Tok) : State :=
  ((if w.p then (s.dropFlight id).fstat c 30 else s.dropFlight id).coreLoadEnd c (w.d.setWidth 64)).fenceCheck c

theorem exec_loadReply {id c : Nat} {s : State} {f : Flight} {w : Tok} (hf : s.flight id = some f) (hiss : f.iss = .core c) (hkind : f.kind = .read)
    (hans : f.ans = some (.word w)) (hpath : f.path = []) (hload : (s.core c).load = some id) :
    exec (.accessReply id) s = .next (s.loadReturned id c w).ixSettle := by
  change execAccessReply id s = _
  unfold execAccessReply accessReply
  simp only [hf, hiss, hkind, hans, hpath, hload]
  rfl

end Machine
open Machine

/-- Settles O21. Loads, stores and fences are the branches of their commands; a load ends by a reply or by FTMO in the same way. -/
theorem coreFabricAccesses : Obligations.CoreFabricAccesses := by
  unfold Obligations.CoreFabricAccesses
  refine ⟨fun c addr w s ha hfree => ⟨fun hout => ?_, fun hin => ?_⟩, fun c addr v w s ha hfree => ⟨fun hout => ?_, fun hin hfull => ?_, fun hin hroom => ?_⟩,
    fun c s hfree => ?_, fun c s hbusy => ⟨fun addr w => ?_, fun addr w v => ?_, ?_⟩, fun c s hload hhalt => ?_,
    fun c id s f w hf hiss hkind hans hpath hload hhalt => ?_⟩
  · have hexec : exec (.coreFabricLoad c addr w) s = .next { s.viol .irq 0 with rdata := 0 } :=
      (exec_coreLoad hfree ha).trans (ok_congr (if_pos (by rw [inFabric_of_none hout]; rfl)))
    obtain ⟨hcount, -, hkeep, honly⟩ := s.violAt_countsAt (violOf .irq 0)
    exact .of_eq hexec ⟨rfl, hcount, hkeep.then_regs rfl, (honly.mono (by simp)).trans ((Ev.refl (fieldMask [.regs, .rdata]) _).set_rdata (by rfl)).only_mask⟩
  · have hexec : exec (.coreFabricLoad c addr w) s = .next ((s.toFabric (.core c) addr.toNat w .read 0 false).setCore c { s.core c with load := some s.nextId }) :=
      (exec_coreLoad hfree ha).trans (ok_congr (if_neg (by rw [inFabric, hin]; simp)))
    exact .of_eq hexec ⟨⟨rfl, rfl⟩, State.core_setCore_same _ _ _, fun k hk => State.core_setCore_ne _ _ _ _ hk,
      ((State.toFabric_ev _ _ _ _ _ _ (Ev.refl (fieldMask [.flights, .nextId, .cores]) s) (by rfl)).setCore (by rfl) _ _).only_mask⟩
  · exact (exec_coreStore hfree ha).trans (ok_congr (if_pos (by rw [inFabric_of_none hout]; rfl)))
  · exact (exec_coreStore hfree ha).trans (ok_congr ((if_neg (by rw [inFabric, hin]; simp)).trans (if_pos hfull)))
  · have hexec : exec (.coreFabricStore c addr w v) s = .next (s.toFabric (.core c) addr.toNat w .write (v.setWidth 32) false) :=
      (exec_coreStore hfree ha).trans (ok_congr ((if_neg (by rw [inFabric, hin]; simp)).trans (if_neg (Nat.not_le.mpr hroom))))
    exact .of_eq hexec ⟨⟨rfl, rfl⟩, (State.toFabric_ev _ _ _ _ _ _ (Ev.refl (fieldMask [.flights, .nextId]) s) (by rfl)).only_mask⟩
  · obtain ⟨t, hexec, hcore, honly⟩ := exec_coreFence hfree
    exact .of_eq hexec ⟨(hcore c).trans (if_pos rfl), fun k hk => (hcore k).trans (if_neg hk), honly⟩
  · exact ok_congr (if_neg (by simp [hbusy]))
  · exact ok_congr (if_neg (by simp [hbusy]))
  · exact ok_congr (if_neg (by simp [hbusy]))
  · have hexec : exec (.ftmo c) s = .next (s.loadTimeout c).ixSettle := if_pos hload
    obtain ⟨hbit, hcore, hkeep⟩ := s.fstat_records (c := c) (i := 31) c.isLt (by decide) (by decide)
    obtain ⟨hrdata, hload', hcores, hflights, hregs, honly⟩ := State.coreLoadEnd_leaves (s := s.fstat c 31) (c := c) 0 hhalt
    have hread := hregs (irqReg 0x34) (fun g hg => by
      rw [List.mem_singleton.mp hg]; exact irqReg_ne_dbgCore 0x34 c 4 (by omega) (by decide) (by decide))
    exact .of_eq hexec ⟨hrdata, hload', (congrArg (fun v => bit v 31) hread).trans hbit, (congrArg (fun v => fld v 28 2) hread).trans hcore, hflights, hcores,
      (hkeep.mono (by simp)).trans (hregs.mono (by simp)), (Ev.only_mask (State.fstat_ev c 31 (Ev.refl (fieldMask [.regs, .rdata, .cores]) s) (by rfl))).trans honly⟩
  · have hhalt' : ((if w.p then (s.dropFlight id).fstat c 30 else s.dropFlight id).core c).haltReq = false := by
      split <;> exact hhalt
    obtain ⟨hrdata, hload', -, hflights, hregs, -⟩ := State.coreLoadEnd_leaves (w.d.setWidth 64) hhalt'
    have hread := hregs (irqReg 0x34) (fun g hg => by
      rw [List.mem_singleton.mp hg]; exact irqReg_ne_dbgCore 0x34 c 4 (by omega) (by decide) (by decide))
    refine .of_eq (exec_loadReply hf hiss hkind hans hpath hload) ?_
    unfold State.loadReturned
    obtain ⟨hrdata2, hcore2, hregs2, hflights2⟩ := State.fenceCheck_leaves
      ((if w.p then (s.dropFlight id).fstat c 30 else s.dropFlight id).coreLoadEnd c (w.d.setWidth 64)) c
    refine ⟨hrdata2.trans hrdata, hcore2.trans hload', fun hp => ?_, hflights2.trans (hflights.trans ?_)⟩
    · rw [State.rb_of_regs hregs2, State.rb, hread, hp]
      exact ((s.dropFlight id).fstat_records c.isLt (by decide) (by decide)).1
    · split <;> rfl

end Sys2Proof
end

section
/-! Block memory (R166 to R173, R328, R368): what stored bytes read, the reads and writes of a port, and the end of an initialisation. -/

namespace Sys2Proof

open Machine

namespace Machine

/-! Stored bytes (R167, R173). -/

theorem bmKey_inj {b o c a : Nat} (ho : o < 16384) (ha : a < 16384) : 16384 * c + a = 16384 * b + o ↔ c = b ∧ a = o := by omega

theorem State.bmGet_bmPut (s : State) (b o : Nat) (v : Byte) (bad : Bool) (c a : Nat) (ho : o < 16384) (ha : a < 16384) :
    (s.bmPut b o v bad).bmGet c a = if c = b ∧ a = o then (v, bad) else s.bmGet c a := by
  have hbyte : (s.bmPut b o v bad).bbyte (16384 * c + a) =
      if 16384 * c + a = 16384 * b + o then (if (s.bmem b).base = 0 ∧ v = 0 ∧ bad = false then none else some (v, bad)) else s.bbyte (16384 * c + a) :=
    Store.get_put _ _ _ _ _
  have hmem : (s.bmPut b o v bad).bmem c = s.bmem c := rfl
  unfold State.bmGet
  rw [hbyte, hmem]
  by_cases h : c = b ∧ a = o
  · obtain ⟨rfl, rfl⟩ := h
    rw [if_pos (rfl : 16384 * c + a = 16384 * c + a), if_pos (⟨rfl, rfl⟩ : c = c ∧ a = a)]
    by_cases hz : (s.bmem c).base = 0 ∧ v = 0 ∧ bad = false
    · obtain ⟨hb, rfl, rfl⟩ := hz
      simp [hb]
    · rw [if_neg hz]
  · rw [if_neg (fun he => h ((bmKey_inj ho ha).mp he)), if_neg h]

theorem State.bmGet_bmStore (s : State) (b o : Nat) (l : List Byte) (c a : Nat) (ho : o + l.length ≤ 16384) (ha : a < 16384) :
    (s.bmStore b o l).bmGet c a = if c = b ∧ o ≤ a ∧ a < o + l.length then (nth 0 l (a - o), false) else s.bmGet c a := by
  induction l generalizing s o with
  | nil => rw [if_neg (by rw [List.length_nil]; omega)]; rfl
  | cons v l ih =>
    rw [List.length_cons] at ho ⊢
    rw [State.bmStore, ih _ _ (by omega), State.bmGet_bmPut _ _ _ _ _ _ _ (by omega) ha]
    by_cases hc : c = b
    · rcases Nat.lt_trichotomy a o with h | h | h
      · rw [if_neg (by omega), if_neg (by omega), if_neg (by omega)]
      · subst h
        rw [if_neg (by omega), if_pos ⟨hc, rfl⟩, if_pos (by omega), Nat.sub_self]
        rfl
      · by_cases hlt : a < o + (l.length + 1)
        · obtain ⟨k, hk⟩ : ∃ k, a - o = k + 1 := ⟨a - o - 1, by omega⟩
          rw [if_pos (by omega), if_pos (by omega), hk, show a - (o + 1) = k by omega]
          rfl
        · rw [if_neg (by omega), if_neg (by omega), if_neg (by omega)]
    · rw [if_neg (fun h => hc h.1), if_neg (fun h => hc h.1), if_neg (fun h => hc h.1)]

theorem State.bmGet_of_bytes {s u : State} (hb : u.bbytes = s.bbytes) (hm : u.bmems = s.bmems) (c a : Nat) : u.bmGet c a = s.bmGet c a := by
  unfold State.bmGet State.bbyte State.bmem
  rw [hb, hm]

/-- Stored bytes are one part of the state. -/
theorem State.bmStore_frame {β : Type} (φ : State → β) (hφ : ∀ s bytes, φ { s with bbytes := bytes } = φ s) (s : State) (b o : Nat) (l : List Byte) :
    φ (s.bmStore b o l) = φ s := by
  induction l generalizing s o with
  | nil => rfl
  | cons v l ih => exact (ih _ _).trans (hφ s (s.bmPut b o v false).bbytes)

theorem State.bmStoreRaw_frame {β : Type} (φ : State → β) (hφ : ∀ s bytes, φ { s with bbytes := bytes } = φ s) (s : State) (b o : Nat) (l : List (Byte × Bool)) :
    φ (s.bmStoreRaw b o l) = φ s := by
  induction l generalizing s o with
  | nil => rfl
  | cons v l ih => exact (ih _ _).trans (hφ s (s.bmPut b o v.1 v.2).bbytes)

theorem bmWidth_lt (s : State) (q : Nat) : s.bmWidth q < 4 := by
  unfold State.bmWidth
  dsimp only
  split <;> omega

/-- An access that is not forbidden stays within the memory. -/
theorem bmForbidden_fits {w : Word} {lg : Nat} (hlg : lg < 4) (h : bmForbidden w lg = false) : fld w 0 14 + 2 ^ lg ≤ 16384 := by
  have h' := of_decide_eq_false h
  simp only [not_or, Decidable.not_not] at h'
  obtain ⟨-, hhigh, halign⟩ := h'
  have h24 : fld w 0 24 = fld w 0 14 + 2 ^ 14 * fld w 14 10 := by
    unfold fld
    simp only [Nat.shiftRight_eq_div_pow]
    omega
  rw [hhigh, Nat.mul_zero, Nat.add_zero] at h24
  rw [h24] at halign
  have hlt : fld w 0 14 < 2 ^ 14 := fld_lt _ _ _
  obtain rfl | rfl | rfl | rfl : lg = 0 ∨ lg = 1 ∨ lg = 2 ∨ lg = 3 := by omega
  all_goals omega

/-! Replies (R70, R165, R167). -/

theorem State.bport_setBport (s : State) (i k : Nat) (x : BPort) : (s.setBport i x).bport k = if k = i then x else s.bport k :=
  Store.get_put _ _ _ _ _

/-- The port after it gave the reply `l`. -/
def State.bmReplied (s : State) (q : Nat) (l : List Tok) : BPort :=
  { s.bport q with req := none, data := [], taken := [], rep := if (s.sinksOf (q / 4) (172 + q % 4)).isEmpty then [] else l }

/-- A reply given in a state whose ports and latches are those of `s`. -/
theorem State.bmReply_answers {s u : State} (q : Nat) (l : List Tok) (hports : u.bports = s.bports) (hcfg : u.cfg = s.cfg) :
    (u.bmReply q l).bport q = s.bmReplied q l ∧ ∀ k, k ≠ q → (u.bmReply q l).bport k = s.bport k := by
  have hport (k : Nat) : u.bport k = s.bport k := by unfold State.bport; rw [hports]
  have hsinks : u.sinksOf (q / 4) (172 + q % 4) = s.sinksOf (q / 4) (172 + q % 4) := by
    unfold State.sinksOf State.sel State.cfgLE State.cfgBytes
    rw [hcfg]
  refine ⟨?_, fun k hk => (State.bport_setBport _ _ _ _).trans ((if_neg hk).trans (hport k))⟩
  refine (State.bport_setBport _ _ _ _).trans ((if_pos rfl).trans ?_)
  rw [hsinks]
  rfl

@[simp] theorem State.rb_bmReply (s : State) (q : Nat) (l : List Tok) (g : Reg) (i : Nat) : (s.bmReply q l).rb g i = s.rb g i := State.rb_of_regs rfl g i

@[simp] theorem State.rf_bmReply (s : State) (q : Nat) (l : List Tok) (g : Reg) (lo len : Nat) : (s.bmReply q l).rf g lo len = s.rf g lo len :=
  State.rf_of_regs rfl g lo len

@[simp] theorem State.bmGet_bmReply (s : State) (q : Nat) (l : List Tok) (b a : Nat) : (s.bmReply q l).bmGet b a = s.bmGet b a :=
  State.bmGet_of_bytes rfl rfl b a

theorem bmReg_addr (b off : Nat) : (bmReg b off).addr =
    0x100A50000 + 0x10000000 * (b / 34 / 8) + 0x1000000 * (b / 34 % 8) + 0x100 * (b % 34 / 2) + 0x40 * (b % 2) + off := by
  simp only [bmReg, Reg.addr, Blk.base, winBase]
  omega

/-! Reads (R166, R167, R170, R171, R328). -/

/-- The tokens of a reply that carries no bytes. -/
def blankTokens (lg : Nat) (p : Bool) : List Tok := if lg = 3 then [{ p := p }, { p := p }] else [{ p := p }]

/-- A read that is performed, its entry's bytes flipped at `hits`. -/
def State.bmPerformed (s : State) (q : Nat) (w : Tok) (hits : List (Fin 8 × Fin 9)) (glitch : Bool) : State :=
  let s1 := s.each (hits.filter (fun h => decide (h.1.val < 2 ^ s.bmWidth q))) (fun s h => s.bmHit (q / 2) (fld w.d 0 14 + h.1.val) h.2.val)
  (s1.bmReadEntry q (fld w.d 0 14) (s.bmWidth q) glitch).1.bmReply q (s1.bmReadEntry q (fld w.d 0 14) (s.bmWidth q) glitch).2

section Read
variable {q : Fin 2176} {s : State} {w : Tok} (hits : List (Fin 8 × Fin 9)) (glitch : Bool) (hreq : (s.bport q).req = some w) (hop : fld w.d 30 2 ≠ 1)
  (hrep : (s.bport q).rep = [])
include hreq hop hrep

theorem exec_bmRead : exec (.bmRead q hits glitch) s =
    if w.p then ok ((s.bmPoison q).bmReply q (blankTokens (s.bmWidth q) true))
    else if bmForbidden w.d (s.bmWidth q) then ok ((s.viol .bm (q / 2)).bmReply q (blankTokens (s.bmWidth q) false))
    else ok (s.bmPerformed q w hits glitch) := by
  change execBmRead q hits glitch s = _
  unfold execBmRead
  simp only [hreq]
  refine (if_neg (by simp [hop, hrep])).trans ?_
  rfl

end Read

/-- What a poisoned access at a block memory port leaves. -/
theorem State.bmPoison_leaves (s : State) {q : Nat} (hq : q / 68 < 64) :
    (s.bmPoison q).rb (bmReg (q / 2) 4) 29 = true ∧ (s.bmPoison q).rb tnkPalarm (q / 68) = true ∧
    (s.bmPoison q).rf (tnkPois (q / 68)) 16 8 = min 255 (s.rf (tnkPois (q / 68)) 16 8 + 1) ∧
    KeepRegs [bmReg (q / 2) 4, tnkPois (q / 68), tnkHealth (q / 68), tnkPalarm] s (s.bmPoison q) := by
  have hpb : (tnkPois (q / 68)).addr ≠ (bmReg (q / 2) 4).addr := by rw [tnkPois, tnkReg_addr, bmReg_addr]; omega
  have hhb : (tnkHealth (q / 68)).addr ≠ (bmReg (q / 2) 4).addr := by rw [tnkHealth, tnkReg_addr, bmReg_addr]; omega
  have hab : tnkPalarm.addr ≠ (bmReg (q / 2) 4).addr := by rw [bmReg_addr, show tnkPalarm.addr = 0x2005008C from rfl]; omega
  have hph : (tnkPois (q / 68)).addr ≠ (tnkHealth (q / 68)).addr := by rw [tnkPois, tnkHealth, tnkReg_addr, tnkReg_addr]; omega
  have hpa : (tnkPois (q / 68)).addr ≠ tnkPalarm.addr := by rw [tnkPois, tnkReg_addr, show tnkPalarm.addr = 0x2005008C from rfl]; omega
  unfold State.bmPoison State.poison
  refine ⟨?_, State.rb_sticky_self _ _ _ hq, ?_, ?_⟩
  · rw [State.sticky, State.rsetb, State.rb_rput_ne _ _ _ _ _ hab.symm, State.sticky, State.rsetb, State.rb_rput_ne _ _ _ _ _ hhb.symm, State.rb_count_ne _ _ _ _ _ hpb.symm]
    exact State.rb_sticky_self _ _ _ (by decide)
  · rw [State.rf_sticky_ne _ _ _ _ hpa, State.rf_sticky_ne _ _ _ _ hph]
    exact (State.rf_count_self _ _ 16 8 1 (by decide)).trans (congrArg (fun n => min 255 (n + 1)) (State.rf_sticky_ne _ _ _ _ hpb))
  · exact ((((KeepRegs.refl _ s).sticky _ (by simp)).count _ _ _ (by simp)).sticky _ (by simp)).sticky _ (by simp)

/-- What a lasting parity error leaves (R170). -/
theorem State.bmLasting_leaves (s : State) (b : Nat) {o : Nat} (ho : o < 2 ^ 14) (hb : b / 34 < 64) :
    (∀ d, (s.bmLasting b o d).rf (bmReg b 8) 8 8 = min 255 (s.rf (bmReg b 8) 8 8 + 1)) ∧
    (s.bmLasting b o true).rb (bmReg b 4) 30 = true ∧ (s.bmLasting b o true).rf (bmReg b 4) 0 14 = o ∧ (s.bmLasting b o true).rb tnkAlarm (b / 34) = true ∧
    (s.bmLasting b o false).rb (bmReg b 4) 30 = s.rb (bmReg b 4) 30 ∧ KeepRegs [bmReg b 4, bmReg b 8] s (s.bmLasting b o false) := by
  have h48 : (bmReg b 4).addr ≠ (bmReg b 8).addr := by rw [bmReg_addr, bmReg_addr]; omega
  have hbm (off : Nat) (hoff : off < 0x40) (u : State) : (u.lasting (b / 34) 8 (b / 2 % 17) 0 3).rget (bmReg b off) = u.rget (bmReg b off) := by
    have h1 : (bmReg b off).addr ≠ (tnkEvent (b / 34)).addr := by rw [tnkEvent, tnkReg_addr, bmReg_addr]; omega
    have h2 : (bmReg b off).addr ≠ (tnkErr (b / 34)).addr := by rw [tnkErr, tnkReg_addr, bmReg_addr]; omega
    have h3 : (bmReg b off).addr ≠ tnkAlarm.addr := by rw [bmReg_addr, show tnkAlarm.addr = 0x20050080 from rfl]; omega
    exact (State.rget_rput_ne _ _ _ _ h3).trans ((State.rget_count_ne _ _ _ _ _ _ h2).trans (State.rget_rput_ne _ _ _ _ h1))
  let s1 := (s.count (bmReg b 8) 8 8 1).rsetf (bmReg b 4) 0 14 o
  have hcount : s1.rf (bmReg b 8) 8 8 = min 255 (s.rf (bmReg b 8) 8 8 + 1) :=
    (State.rf_rput_ne _ _ _ _ _ _ h48.symm).trans (State.rf_count_self _ _ _ _ _ (by decide))
  have hoff : s1.rf (bmReg b 4) 0 14 = o := (State.rf_rsetf_self _ _ _ _ _ (by decide)).trans (Nat.mod_eq_of_lt ho)
  refine ⟨fun d => ?_, ?_, ?_, State.rb_sticky_self _ _ _ hb, ?_, ?_⟩
  · cases d with
    | false => exact hcount
    | true => exact (congrArg (fun v => fld v 8 8) (hbm 8 (by decide) _)).trans ((State.rf_sticky_ne _ _ _ _ h48.symm).trans hcount)
  · exact (congrArg (fun v => bit v 30) (hbm 4 (by decide) _)).trans (State.rb_sticky_self _ _ _ (by decide))
  · exact (congrArg (fun v => fld v 0 14) (hbm 4 (by decide) _)).trans ((State.rf_sticky _ _ _ _ _ (by decide)).trans hoff)
  · exact (State.rb_rsetf _ _ _ _ _ _ (by decide)).trans (State.rb_count_ne _ _ _ _ _ h48)
  · exact ((KeepRegs.refl _ s).count _ _ _ (by simp)).rsetf _ _ _ (by simp)

/-- A lasting parity error writes registers alone. -/
theorem State.bmLasting_frame {β : Type} (φ : State → β) (hφ : ∀ s g v, φ (State.rput s g v) = φ s) (s : State) (b o : Nat) (d : Bool) :
    φ (s.bmLasting b o d) = φ s := by
  have h1 : φ ((s.count (bmReg b 8) 8 8 1).rsetf (bmReg b 4) 0 14 o) = φ s := (hφ _ _ _).trans (hφ _ _ _)
  cases d with
  | false => exact h1
  | true => exact (hφ _ _ _).trans ((hφ _ _ _).trans ((hφ _ _ _).trans ((hφ _ _ _).trans h1)))

/-! Where a read's bytes come from (R170, R328). -/

section Entry
variable {s : State} {q o lg : Nat} (glitch : Bool)

theorem State.bmReadEntry_good (h : (s.bmEntry (q / 2) o (2 ^ lg)).any (·.2) = false) :
    s.bmReadEntry q o lg glitch = (if glitch then s.count (bmReg (q / 2) 8) 0 8 1 else s, bmTokens (s.bmEntry (q / 2) o (2 ^ lg))) := by
  unfold State.bmReadEntry
  exact if_neg (by simp [h])

variable (h : (s.bmEntry (q / 2) o (2 ^ lg)).any (·.2) = true)
include h

theorem State.bmReadEntry_alone (ht : s.twinOf (q / 4) = none) :
    s.bmReadEntry q o lg glitch = (s.bmLasting (q / 2) o true, bmTokens (s.bmEntry (q / 2) o (2 ^ lg))) := by
  unfold State.bmReadEntry
  refine (if_pos h).trans ?_
  rw [ht]

theorem State.bmReadEntry_twin {g : Nat} (ht : s.twinOf (q / 4) = some g) (hg : (s.bmEntry (g * 2 + q / 2 % 2) o (2 ^ lg)).any (·.2) = false) :
    s.bmReadEntry q o lg glitch =
      (((s.bmStore (q / 2) o ((s.bmEntry (g * 2 + q / 2 % 2) o (2 ^ lg)).map (·.1))).bmLasting (q / 2) o false).count (tnkErr (q / 2 / 34)) 0 4 1,
        bmTokens (s.bmEntry (g * 2 + q / 2 % 2) o (2 ^ lg))) := by
  unfold State.bmReadEntry
  refine (if_pos h).trans ?_
  rw [ht]
  exact if_neg (by simp [hg])

theorem State.bmReadEntry_both {g : Nat} (ht : s.twinOf (q / 4) = some g) (hg : (s.bmEntry (g * 2 + q / 2 % 2) o (2 ^ lg)).any (·.2) = true) :
    s.bmReadEntry q o lg glitch = ((s.bmStoreRaw (q / 2) o (s.bmEntry (g * 2 + q / 2 % 2) o (2 ^ lg))).bmLasting (q / 2) o true,
      bmTokens (s.bmEntry (g * 2 + q / 2 % 2) o (2 ^ lg))) := by
  unfold State.bmReadEntry
  refine (if_pos h).trans ?_
  rw [ht]
  exact if_pos hg

end Entry

/-- An entry without parity errors, stored elsewhere, reads the same. -/
theorem State.bmGet_copied (s : State) (b c o n : Nat) (hfit : o + n ≤ 16384) (h : (s.bmEntry c o n).any (·.2) = false) {i : Nat} (hi : i < n) :
    (s.bmStore b o ((s.bmEntry c o n).map (·.1))).bmGet b (o + i) = s.bmGet c (o + i) := by
  have hlen : ((s.bmEntry c o n).map (·.1)).length = n := by simp [State.bmEntry]
  have hclean : (s.bmGet c (o + i)).2 = false := by
    have := List.any_eq_false.mp h (s.bmGet c (o + i)) (List.mem_map.mpr ⟨i, List.mem_range.mpr hi, rfl⟩)
    simpa using this
  have hbyte : nth 0 ((s.bmEntry c o n).map (·.1)) i = (s.bmGet c (o + i)).1 := by
    simp [nth, State.bmEntry, List.getElem?_range hi]
  rw [State.bmGet_bmStore _ _ _ _ _ _ (by rw [hlen]; exact hfit) (by omega), hlen, if_pos (by omega), Nat.add_sub_cancel_left, hbyte]
  exact Prod.ext rfl hclean.symm

/-! What a read leaves (R170, R328), before its reply. -/

section Leaves
variable {s : State} {q o lg : Nat} (glitch : Bool) (hq : q < 2176) (ho : o < 2 ^ 14)

theorem State.bmReadEntry_good_leaves (h : (s.bmEntry (q / 2) o (2 ^ lg)).any (·.2) = false) :
    let u := (s.bmReadEntry q o lg glitch).1
    u.rf (bmReg (q / 2) 8) 0 8 = (if glitch then min 255 (s.rf (bmReg (q / 2) 8) 0 8 + 1) else s.rf (bmReg (q / 2) 8) 0 8) ∧
    KeepRegs [bmReg (q / 2) 8] s u ∧ Only [.regs] s u := by
  rw [State.bmReadEntry_good glitch h]
  cases glitch with
  | false => exact ⟨rfl, .refl _ s, .refl _ s⟩
  | true => exact ⟨State.rf_count_self _ _ _ _ _ (by decide), (KeepRegs.refl _ s).count _ _ _ List.mem_cons_self,
      (State.count_ev _ _ _ _ (Ev.refl (fieldMask [.regs]) s) (by rfl)).only_mask⟩

variable (h : (s.bmEntry (q / 2) o (2 ^ lg)).any (·.2) = true)
include hq ho h

theorem State.bmReadEntry_alone_leaves (ht : s.twinOf (q / 4) = none) :
    let u := (s.bmReadEntry q o lg glitch).1
    u.rb (bmReg (q / 2) 4) 30 = true ∧ u.rf (bmReg (q / 2) 4) 0 14 = o ∧ u.rf (bmReg (q / 2) 8) 8 8 = min 255 (s.rf (bmReg (q / 2) 8) 8 8 + 1) ∧
    u.rb tnkAlarm (q / 68) = true ∧ Only [.regs] s u := by
  obtain ⟨hcount, hflag, hoff, halarm, -, -⟩ := s.bmLasting_leaves (q / 2) ho (by omega)
  rw [State.bmReadEntry_alone glitch h ht]
  rw [show q / 2 / 34 = q / 68 by omega] at halarm
  exact ⟨hflag, hoff, hcount true, halarm, (State.bmLasting_ev _ _ _ (Ev.refl (fieldMask [.regs]) s) (by rfl)).only_mask⟩

theorem State.bmReadEntry_both_leaves {g : Nat} (ht : s.twinOf (q / 4) = some g) (hg : (s.bmEntry (g * 2 + q / 2 % 2) o (2 ^ lg)).any (·.2) = true) :
    let u := (s.bmReadEntry q o lg glitch).1
    u.rb (bmReg (q / 2) 4) 30 = true ∧ u.rf (bmReg (q / 2) 8) 8 8 = min 255 (s.rf (bmReg (q / 2) 8) 8 8 + 1) ∧
    u.rb tnkAlarm (q / 68) = true ∧ Only [.regs, .bbytes] s u := by
  let v := s.bmStoreRaw (q / 2) o (s.bmEntry (g * 2 + q / 2 % 2) o (2 ^ lg))
  have hregs : v.regs = s.regs := State.bmStoreRaw_frame State.regs (fun _ _ => rfl) _ _ _ _
  obtain ⟨hcount, hflag, -, halarm, -, -⟩ := v.bmLasting_leaves (q / 2) ho (by omega)
  rw [State.bmReadEntry_both glitch h ht hg]
  rw [show q / 2 / 34 = q / 68 by omega] at halarm
  refine ⟨hflag, (hcount true).trans (by rw [State.rf_of_regs hregs]), halarm, ?_⟩
  exact (State.bmLasting_ev _ _ _ (State.bmStoreRaw_ev _ _ _ (Ev.refl (fieldMask [.regs, .bbytes]) s) (by rfl)) (by rfl)).only_mask

theorem State.bmReadEntry_twin_leaves (hfit : o + 2 ^ lg ≤ 16384) {g : Nat} (ht : s.twinOf (q / 4) = some g)
    (hg : (s.bmEntry (g * 2 + q / 2 % 2) o (2 ^ lg)).any (·.2) = false) :
    let u := (s.bmReadEntry q o lg glitch).1
    (∀ i < 2 ^ lg, u.bmGet (q / 2) (o + i) = s.bmGet (g * 2 + q / 2 % 2) (o + i)) ∧ u.rf (bmReg (q / 2) 8) 8 8 = min 255 (s.rf (bmReg (q / 2) 8) 8 8 + 1) ∧
    u.rb (bmReg (q / 2) 4) 30 = s.rb (bmReg (q / 2) 4) 30 ∧ KeepRegs [bmReg (q / 2) 4, bmReg (q / 2) 8, tnkErr (q / 68)] s u ∧ Only [.regs, .bbytes] s u := by
  let v := s.bmStore (q / 2) o ((s.bmEntry (g * 2 + q / 2 % 2) o (2 ^ lg)).map (·.1))
  have hregs : v.regs = s.regs := State.bmStore_frame State.regs (fun _ _ => rfl) _ _ _ _
  obtain ⟨hcount, -, -, -, hflag, hkeep⟩ := v.bmLasting_leaves (q / 2) ho (by omega)
  have h4 : (bmReg (q / 2) 4).addr ≠ (tnkErr (q / 2 / 34)).addr := by rw [tnkErr, tnkReg_addr, bmReg_addr]; omega
  have h8 : (bmReg (q / 2) 8).addr ≠ (tnkErr (q / 2 / 34)).addr := by rw [tnkErr, tnkReg_addr, bmReg_addr]; omega
  rw [State.bmReadEntry_twin glitch h ht hg]
  have hbytes (i : Nat) : ((v.bmLasting (q / 2) o false).count (tnkErr (q / 2 / 34)) 0 4 1).bmGet (q / 2) (o + i) = v.bmGet (q / 2) (o + i) :=
    State.bmGet_of_bytes (s := v) (State.bmLasting_frame State.bbytes (fun _ _ _ => rfl) v _ _ _) (State.bmLasting_frame State.bmems (fun _ _ _ => rfl) v _ _ _) _ _
  refine ⟨fun i hi => (hbytes i).trans (s.bmGet_copied (q / 2) _ o (2 ^ lg) hfit hg hi), ?_, ?_, ?_, ?_⟩
  · exact (State.rf_rput_ne _ _ _ _ _ _ h8).trans ((hcount false).trans (by rw [State.rf_of_regs hregs]))
  · exact (State.rb_rput_ne _ _ _ _ _ h4).trans (hflag.trans (State.rb_of_regs hregs _ _))
  · rw [show q / 68 = q / 2 / 34 by omega]
    exact ((KeepRegs.of_regs hregs).trans (hkeep.mono (by simp))).count _ _ _ (by simp)
  · exact (State.count_ev _ _ _ _ (State.bmLasting_ev _ _ _ (State.bmStore_ev _ _ _ (Ev.refl (fieldMask [.regs, .bbytes]) s) (by rfl)) (by rfl)) (by rfl)).only_mask

end Leaves

/-- A reply given after a read that left ports and latches alone. -/
theorem State.bmReply_only {s u : State} {l : List Field} (hu : Only l s u) (hl : Field.bports ∉ l ∧ Field.cfg ∉ l) (q : Nat) (ts : List Tok) :
    ((u.bmReply q ts).bport q = s.bmReplied q ts ∧ ∀ k, k ≠ q → (u.bmReply q ts).bport k = s.bport k) ∧ Only (.bports :: l) s (u.bmReply q ts) := by
  refine ⟨State.bmReply_answers q ts (hu .bports hl.1) (hu .cfg hl.2), (hu.mono (List.subset_cons_self _ _)).trans ?_⟩
  exact (State.bmReply_ev q ts (Ev.refl (fieldMask [.bports]) u) (by rfl)).only_mask.mono (by simp)

/-! Writes (R167, R171, R172, R368). -/

/-- The port after its write was taken. -/
def State.bmCleared (s : State) (q : Nat) : State := s.setBport q { s.bport q with req := none, data := [] }

theorem State.bmCleared_port {s u : State} (q : Nat) (hports : u.bports = s.bports) :
    (u.bmCleared q).bport q = { s.bport q with req := none, data := [] } ∧ ∀ k, k ≠ q → (u.bmCleared q).bport k = s.bport k := by
  have hport (k : Nat) : u.bport k = s.bport k := by unfold State.bport; rw [hports]
  refine ⟨(State.bport_setBport _ _ _ _).trans ((if_pos rfl).trans ?_), fun k hk => (State.bport_setBport _ _ _ _).trans ((if_neg hk).trans (hport k))⟩
  rw [hport]

@[simp] theorem State.rb_bmCleared (s : State) (q : Nat) (g : Reg) (i : Nat) : (s.bmCleared q).rb g i = s.rb g i := State.rb_of_regs rfl g i

@[simp] theorem State.rf_bmCleared (s : State) (q : Nat) (g : Reg) (lo len : Nat) : (s.bmCleared q).rf g lo len = s.rf g lo len := State.rf_of_regs rfl g lo len

/-- The bytes a write of the port's tokens stores. -/
def writeBytes (dat : List Tok) : List Byte := dat.flatMap (fun k => leBytes 4 k.d.toNat)

theorem length_writeBytes (dat : List Tok) : (writeBytes dat).length = 4 * dat.length := by
  induction dat with
  | nil => rfl
  | cons t dat ih =>
    rw [writeBytes, List.flatMap_cons, List.length_append, leBytes_length, List.length_cons, ← writeBytes, ih]
    omega

/-- The state after the bytes `l` were stored from offset `o`, in the memory and where a mirror follows it. -/
def State.bmStored (s : State) (q o : Nat) (l : List Byte) : State :=
  match s.mirror (q / 4) with
  | some g => (s.bmStore (q / 2) o l).bmStore (g * 2 + q % 4 / 2) o l
  | none => s.bmStore (q / 2) o l

/-- WCOL, set where a waiting write of the other port has other data (R172). -/
def State.bmCollided (s : State) (q o : Nat) (l : List Byte) : State :=
  match s.bmPending (otherPort q) with
  | some (o', l') => if collide o l o' l' then s.sticky (bmReg (q / 2) 4) 31 else s
  | none => s

section Write
variable {q : Fin 2176} {s : State} {w : Tok} (hreq : (s.bport q).req = some w) (hop : fld w.d 30 2 = 1)
include hreq hop

omit hop in
theorem exec_bmWrite_waits (h : ¬ ((if s.bmWidth q = 3 then 2 else 1) ≤ (s.bport q).data.length ∧ (s.region (q / 68)).writes = true)) :
    exec (.bmWrite q) s = .next s := by
  refine ok_congr ?_
  by_cases hw : (s.region (q / 68)).writes = true
  · refine (if_pos hw).trans ?_
    unfold State.bmWriteNow
    simp only [hreq]
    exact if_pos (by
      have hlt : (s.bport q).data.length < if s.bmWidth q = 3 then 2 else 1 := Nat.lt_of_not_le (fun hle => h ⟨hle, hw⟩)
      rw [decide_eq_true hlt, Bool.or_true])
  · exact if_neg hw

variable (hfull : (if s.bmWidth q = 3 then 2 else 1) ≤ (s.bport q).data.length ∧ (s.region (q / 68)).writes = true)
include hfull

theorem exec_bmWrite : exec (.bmWrite q) s = ok (
    if w.p || (s.bport q).data.any (·.p) then (s.bmPoison q).bmCleared q
    else match s.bmPending q with
      | none => (s.viol .bm (q / 2)).bmCleared q
      | some (o, l) =>
        if (match s.bmPendingRead (otherPort q) with
          | some (o', n) => decide (o < o' + n) && decide (o' < o + l.length)
          | none => false) then s
        else
          let s2 := (s.bmCollided q o l).bmStore (q / 2) o l
          (match s.mirror (q / 4) with
            | some g' => s2.bmStore (g' * 2 + q % 4 / 2) o l
            | none => s2).bmCleared q) := by
  obtain ⟨hlen, hwr⟩ := hfull
  refine ok_congr ((if_pos hwr).trans ?_)
  unfold State.bmWriteNow
  simp only [hreq]
  refine (if_neg ?_).trans ?_
  · rw [decide_eq_false (by simpa using hop), decide_eq_false (Nat.not_lt.mpr hlen)]
    simp
  · rfl

end Write

/-- The write a port has pending, and none where it is forbidden. -/
theorem State.bmPending_clean {s : State} {q : Nat} {w : Tok} (hreq : (s.bport q).req = some w) (hop : fld w.d 30 2 = 1) (hp : w.p = false)
    (hd : (s.bport q).data.any (·.p) = false) (hf : bmForbidden w.d (s.bmWidth q) = false)
    (hlen : (s.bport q).data.length = if s.bmWidth q = 3 then 2 else 1) :
    s.bmPending q = some (fld w.d 0 14, (writeBytes (s.bport q).data).take (2 ^ s.bmWidth q)) := by
  unfold State.bmPending
  simp only [hreq]
  exact if_pos ⟨hop, hlen, by simp [hp], by rw [hd]; rfl, by rw [hf]; rfl⟩

theorem State.bmPending_forbidden {s : State} {q : Nat} {w : Tok} (hreq : (s.bport q).req = some w) (hf : bmForbidden w.d (s.bmWidth q) = true) :
    s.bmPending q = none := by
  unfold State.bmPending
  simp only [hreq]
  exact if_neg (fun h => by simp [hf] at h)

/-- The state after a write of the bytes `l` at offset `o` was stored. -/
def State.bmWritten (s : State) (q o : Nat) (l : List Byte) : State :=
  match s.mirror (q / 4) with
  | some g' => ((s.bmCollided q o l).bmStore (q / 2) o l).bmStore (g' * 2 + q % 4 / 2) o l
  | none => (s.bmCollided q o l).bmStore (q / 2) o l

/-- WCOL is a register's. -/
theorem State.bmCollided_frame {β : Type} (φ : State → β) (hφ : ∀ s g v, φ (State.rput s g v) = φ s) (s : State) (q o : Nat) (l : List Byte) :
    φ (s.bmCollided q o l) = φ s := by
  unfold State.bmCollided
  split
  · split
    · exact hφ _ _ _
    · rfl
  · rfl

theorem State.bmWritten_frame {β : Type} (φ : State → β) (hφ : ∀ s bytes, φ { s with bbytes := bytes } = φ s) (s : State) (q o : Nat) (l : List Byte) :
    φ (s.bmWritten q o l) = φ (s.bmCollided q o l) := by
  unfold State.bmWritten
  split
  · exact (State.bmStore_frame φ hφ _ _ _ _).trans (State.bmStore_frame φ hφ _ _ _ _)
  · exact State.bmStore_frame φ hφ _ _ _ _

/-- What every byte reads after a write. -/
theorem State.bmGet_bmWritten (s : State) (q o : Nat) (l : List Byte) (hfit : o + l.length ≤ 16384) (c : Nat) {a : Nat} (ha : a < 16384) :
    (s.bmWritten q o l).bmGet c a = if (c = q / 2 ∨ ∃ g', s.mirror (q / 4) = some g' ∧ c = g' * 2 + q % 4 / 2) ∧ o ≤ a ∧ a < o + l.length
      then (nth 0 l (a - o), false) else s.bmGet c a := by
  have hcol : (s.bmCollided q o l).bmGet c a = s.bmGet c a :=
    State.bmGet_of_bytes (State.bmCollided_frame State.bbytes (fun _ _ _ => rfl) _ _ _ _) (State.bmCollided_frame State.bmems (fun _ _ _ => rfl) _ _ _ _) c a
  unfold State.bmWritten
  cases hm : s.mirror (q / 4) with
  | none =>
    refine (State.bmGet_bmStore _ _ _ _ _ _ hfit ha).trans ?_
    rw [hcol]
    simp
  | some g' =>
    refine (State.bmGet_bmStore _ _ _ _ _ _ hfit ha).trans ?_
    rw [State.bmGet_bmStore _ _ _ _ _ _ hfit ha, hcol]
    by_cases h1 : c = g' * 2 + q % 4 / 2 ∧ o ≤ a ∧ a < o + l.length
    · rw [if_pos h1, if_pos ⟨Or.inr ⟨g', rfl, h1.1⟩, h1.2⟩]
    · rw [if_neg h1]
      refine if_congr ⟨fun h => ⟨Or.inl h.1, h.2⟩, ?_⟩ rfl rfl
      rintro ⟨h | ⟨g, hg, h⟩, hin⟩
      · exact ⟨h, hin⟩
      · injection hg with hg
        exact absurd ⟨hg ▸ h, hin⟩ h1

/-- WCOL of the memory after a write. -/
theorem State.bmCollided_flag (s : State) (q o : Nat) (l : List Byte) :
    (s.bmPending (otherPort q) = none → s.bmCollided q o l = s) ∧
    (∀ o' l', s.bmPending (otherPort q) = some (o', l') →
      (s.bmCollided q o l).rb (bmReg (q / 2) 4) 31 = (s.rb (bmReg (q / 2) 4) 31 || collide o l o' l')) := by
  unfold State.bmCollided
  refine ⟨fun h => by rw [h], fun o' l' h => ?_⟩
  rw [h]
  dsimp only
  cases hc : collide o l o' l' with
  | true => exact (State.rb_sticky_self _ _ _ (by decide)).trans (Bool.or_true _).symm
  | false => exact (Bool.or_false _).symm

/-! The end of an initialisation (R173, R444). -/

theorem Store.get_filter {α : Type} (d : α) (m : Store α) (p : Nat → Bool) (k : Nat) :
    Store.get d (m.filter (fun e => p e.1)) k = if p k then Store.get d m k else d := by
  induction m with
  | nil => simp [Store.get]
  | cons e m ih =>
    rw [List.filter_cons]
    by_cases hk : k = e.1
    · subst hk
      by_cases hp : p e.1 = true
      · simp [hp, Store.get]
      · simp only [hp, Bool.false_eq_true, if_false, ih]
    · by_cases hp : p e.1 = true
      · simp only [hp, if_true, Store.get, hk, if_false, ih]
      · simp only [hp, Bool.false_eq_true, if_false, ih, Store.get, hk]

theorem State.bmem_setBmem (s : State) (i k : Nat) (x : BMem) : (s.setBmem i x).bmem k = if k = i then x else s.bmem k :=
  Store.get_put _ _ _ _ _

theorem State.bmem_bmZero (s : State) (b c : Nat) : (s.bmZero b).bmem c = if c = b then { s.bmem b with base := 0 } else s.bmem c :=
  s.bmem_setBmem _ _ _

/-- A cleared memory holds zero everywhere, and the others hold what they held. -/
theorem State.bmGet_bmZero (s : State) (b c : Nat) {a : Nat} (ha : a < 16384) : (s.bmZero b).bmGet c a = if c = b then (0, false) else s.bmGet c a := by
  have hbyte : (s.bmZero b).bbyte (16384 * c + a) = if c ≠ b then s.bbyte (16384 * c + a) else none := by
    refine (Store.get_filter none s.bbytes (fun k => k / 16384 != b) _).trans ?_
    rw [show (16384 * c + a) / 16384 = c by omega]
    simp [State.bbyte]
  unfold State.bmGet
  rw [hbyte, State.bmem_bmZero]
  by_cases h : c = b
  · subst h; simp
  · simp [h]

/-- The memory after its INIT mode. -/
def State.bmInited (s : State) (b : Nat) : State :=
  let s1 := if s.bmClears b then s.bmZero b else s
  s1.setBmem b { s1.bmem b with busy := false, cold := false }

theorem State.bmGet_setBmem {s : State} {b : Nat} {x : BMem} (h : x.base = (s.bmem b).base) (c a : Nat) : (s.setBmem b x).bmGet c a = s.bmGet c a := by
  have hbase : ((s.setBmem b x).bmem c).base = (s.bmem c).base := by
    rw [State.bmem_setBmem]
    split
    · next hc => rw [h, hc]
    · rfl
  unfold State.bmGet
  rw [hbase]
  rfl

theorem State.bmInited_leaves (s : State) (b : Nat) :
    ((s.bmInited b).bmem b).busy = false ∧ ((s.bmInited b).bmem b).cold = false ∧ (∀ c, c ≠ b → (s.bmInited b).bmem c = s.bmem c) ∧
    ∀ c a, a < 16384 → (s.bmInited b).bmGet c a = if c = b ∧ s.bmClears b = true then (0, false) else s.bmGet c a := by
  refine ⟨?_, ?_, fun c hc => ?_, fun c a ha => ?_⟩
  · exact congrArg BMem.busy (State.bmem_setBmem _ _ _ _ |>.trans (if_pos rfl))
  · exact congrArg BMem.cold (State.bmem_setBmem _ _ _ _ |>.trans (if_pos rfl))
  · refine (State.bmem_setBmem _ _ _ _).trans ((if_neg hc).trans ?_)
    split
    · rw [State.bmem_bmZero, if_neg hc]
    · rfl
  · unfold State.bmInited
    dsimp only
    rw [State.bmGet_setBmem (by rfl)]
    by_cases hz : s.bmClears b = true
    · rw [if_pos hz, State.bmGet_bmZero _ _ _ ha]
      simp [hz]
    · simp [hz]

/-- Set-reset released writes cells and the cluster's switches alone. -/
theorem State.freeCluster_frame {β : Type} (φ : State → β) (hcell : ∀ s x, φ (State.resetCell s x) = φ s) (hclu : ∀ s g c, φ (State.setClu s g c) = φ s)
    (s : State) (g : Nat) : φ (s.freeCluster g) = φ s := by
  unfold State.freeCluster
  split
  · exact (hclu _ _ _).trans (State.each_inv (f := fun s n => s.resetCell (g * 64 + n)) φ (fun _ _ => hcell _ _) s _)
  · rfl

theorem State.clu_freeCluster (s : State) {g k : Nat} (h : k ≠ g) : (s.freeCluster g).clu k = s.clu k := by
  unfold State.freeCluster
  split
  · exact (State.clu_setClu_ne _ _ _ _ h).trans (State.each_inv (f := fun s n => s.resetCell (g * 64 + n)) (fun t => t.clu k) (fun _ _ => rfl) s _)
  · rfl

/-! The clauses of a write and of an initialisation. -/

section WriteClauses
variable {q : Fin 2176} {s : State} {w : Tok} (hreq : (s.bport q).req = some w) (hop : fld w.d 30 2 = 1)
  (hfull : (if s.bmWidth q = 3 then 2 else 1) ≤ (s.bport q).data.length ∧ (s.region (q / 68)).writes = true)
include hreq hop hfull

theorem exec_bmWrite_poisoned (hp : w.p = true ∨ (s.bport q).data.any (·.p) = true) : exec (.bmWrite q) s = .next ((s.bmPoison q).bmCleared q) := by
  rw [exec_bmWrite hreq hop hfull, if_pos (by rcases hp with h | h <;> simp only [h, Bool.true_or, Bool.or_true])]

variable (hp : w.p = false) (hd : (s.bport q).data.any (·.p) = false)
include hp hd

theorem exec_bmWrite_forbidden (hf : bmForbidden w.d (s.bmWidth q) = true) : exec (.bmWrite q) s = .next ((s.viol .bm (q / 2)).bmCleared q) := by
  rw [exec_bmWrite hreq hop hfull, if_neg (by rw [hp, hd]; simp), State.bmPending_forbidden hreq hf]

variable (hf : bmForbidden w.d (s.bmWidth q) = false) (hlen : (s.bport q).data.length = if s.bmWidth q = 3 then 2 else 1)
include hf hlen

omit hfull in
omit hreq hop hp hd hf in
/-- The bytes of a complete write are as many as the port is wide. -/
theorem length_storedBytes : ((writeBytes (s.bport q).data).take (2 ^ s.bmWidth q)).length = 2 ^ s.bmWidth q := by
  rw [List.length_take, length_writeBytes, hlen]
  have h := bmWidth_lt s q
  obtain h | h | h | h : s.bmWidth q = 0 ∨ s.bmWidth q = 1 ∨ s.bmWidth q = 2 ∨ s.bmWidth q = 3 := by omega
  all_goals rw [h]; rfl

theorem exec_bmWrite_afterRead (hfirst : ∃ o n, s.bmPendingRead (otherPort q) = some (o, n) ∧ fld w.d 0 14 < o + n ∧ o < fld w.d 0 14 + 2 ^ s.bmWidth q) :
    exec (.bmWrite q) s = .next s := by
  obtain ⟨o, n, hread, h1, h2⟩ := hfirst
  rw [exec_bmWrite hreq hop hfull, if_neg (by rw [hp, hd]; simp), State.bmPending_clean hreq hop hp hd hf hlen, hread]
  refine congrArg ok (if_pos ?_)
  rw [length_storedBytes hlen]
  simp [h1, h2]

theorem exec_bmWrite_stores (hfirst : ¬ ∃ o n, s.bmPendingRead (otherPort q) = some (o, n) ∧ fld w.d 0 14 < o + n ∧ o < fld w.d 0 14 + 2 ^ s.bmWidth q) :
    exec (.bmWrite q) s = .next ((s.bmWritten q (fld w.d 0 14) ((writeBytes (s.bport q).data).take (2 ^ s.bmWidth q))).bmCleared q) := by
  rw [exec_bmWrite hreq hop hfull, if_neg (by rw [hp, hd]; simp), State.bmPending_clean hreq hop hp hd hf hlen]
  refine congrArg ok (if_neg ?_)
  cases hread : s.bmPendingRead (otherPort q) with
  | none => simp
  | some e =>
    obtain ⟨o, n⟩ := e
    intro h
    simp only [Bool.and_eq_true, decide_eq_true_eq] at h
    rw [length_storedBytes hlen] at h
    exact hfirst ⟨o, n, hread, h⟩

end WriteClauses

/-- What is left where a write was stored. -/
theorem State.bmWritten_leaves (s : State) (q : Fin 2176) (o : Nat) (l : List Byte) (hfit : o + l.length ≤ 16384) :
    let t := (s.bmWritten q o l).bmCleared q
    (t.bport q = { s.bport q with req := none, data := [] } ∧ ∀ k : Nat, k ≠ q → t.bport k = s.bport k) ∧
    (∀ i < l.length, t.bmGet (q / 2) (o + i) = (nth 0 l i, false)) ∧
    (∀ a < 16384, a < o ∨ o + l.length ≤ a → t.bmGet (q / 2) a = s.bmGet (q / 2) a) ∧
    (∀ b a, a < 16384 → b ≠ q.val / 2 → (∀ g', s.mirror (q / 4) = some g' → b ≠ g' * 2 + q.val % 4 / 2) → t.bmGet b a = s.bmGet b a) ∧
    t.regs = (s.bmCollided q o l).regs ∧ Only [.regs, .bports, .bbytes] s t := by
  have hget (c a : Nat) : ((s.bmWritten q o l).bmCleared q).bmGet c a = (s.bmWritten q o l).bmGet c a := State.bmGet_of_bytes rfl rfl c a
  have hports : (s.bmWritten q o l).bports = s.bports :=
    (State.bmWritten_frame State.bports (fun _ _ => rfl) _ _ _ _).trans (State.bmCollided_frame State.bports (fun _ _ _ => rfl) _ _ _ _)
  have hev : Ev (fieldMask [.regs, .bports, .bbytes]) s (s.bmWritten q o l) := by
    have hcol : Ev (fieldMask [.regs, .bports, .bbytes]) s (s.bmCollided q o l) := by
      unfold State.bmCollided
      split
      · exact Ev.ite (fun _ => State.sticky_ev _ _ (Ev.refl _ s) (by rfl)) (fun _ => Ev.refl _ s)
      · exact Ev.refl _ s
    unfold State.bmWritten
    split
    · exact State.bmStore_ev _ _ _ (State.bmStore_ev _ _ _ hcol (by rfl)) (by rfl)
    · exact State.bmStore_ev _ _ _ hcol (by rfl)
  refine ⟨State.bmCleared_port _ hports, fun i hi => ?_, fun a ha hout => ?_, fun b a ha hb hm => ?_, ?_, (hev.setBport (by rfl) _ _).only_mask⟩
  · rw [hget, s.bmGet_bmWritten q o l hfit _ (by omega), if_pos ⟨Or.inl rfl, by omega⟩, Nat.add_sub_cancel_left]
  · rw [hget, s.bmGet_bmWritten q o l hfit _ ha, if_neg (by omega)]
  · rw [hget, s.bmGet_bmWritten q o l hfit _ ha, if_neg]
    rintro ⟨h | ⟨g, hg, h⟩, -⟩
    · exact hb h
    · exact hm g hg h
  · exact State.bmWritten_frame State.regs (fun _ _ => rfl) _ _ _ _

theorem nth_take {α : Type} (d : α) (l : List α) {n i : Nat} (h : i < n) : nth d (l.take n) i = nth d l i := by
  unfold nth
  rw [List.getElem?_take_of_lt h]

/-- What the end of a running initialisation leaves. -/
theorem State.bmInitDone_leaves (s : State) (b : Nat) :
    let t := ((s.bmInited b).sticky (bmReg b 4) 28).freeCluster (b / 2)
    (t.bmem b).busy = false ∧ (t.bmem b).cold = false ∧ t.rb (bmReg b 4) 28 = true ∧
    (∀ a < 16384, t.bmGet b a = if s.bmClears b then (0, false) else s.bmGet b a) ∧
    (∀ c a, a < 16384 → c ≠ b → t.bmGet c a = s.bmGet c a ∧ t.bmem c = s.bmem c) ∧
    (∀ g, g ≠ b / 2 → t.clu g = s.clu g) ∧ KeepRegs [bmReg b 4] s t := by
  intro t
  obtain ⟨hbusy, hcold, hmem, hget⟩ := s.bmInited_leaves b
  have hmem' (c : Nat) : t.bmem c = (s.bmInited b).bmem c := State.freeCluster_frame (fun t => t.bmem c) (fun _ _ => rfl) (fun _ _ _ => rfl) _ _
  have hbytes : t.bbytes = (s.bmInited b).bbytes := State.freeCluster_frame State.bbytes (fun _ _ => rfl) (fun _ _ _ => rfl) _ _
  have hmems : t.bmems = (s.bmInited b).bmems := State.freeCluster_frame State.bmems (fun _ _ => rfl) (fun _ _ _ => rfl) _ _
  have hregs : t.regs = ((s.bmInited b).sticky (bmReg b 4) 28).regs := State.freeCluster_frame State.regs (fun _ _ => rfl) (fun _ _ _ => rfl) _ _
  have hclu (g : Nat) : (s.bmInited b).clu g = s.clu g := by
    unfold State.bmInited; dsimp only; split <;> rfl
  have hinit : (s.bmInited b).regs = s.regs := by
    unfold State.bmInited; dsimp only; split <;> rfl
  refine ⟨?_, ?_, ?_, fun a ha => ?_, fun c a ha hc => ⟨?_, ?_⟩, fun g hg => ?_, ?_⟩
  · rw [hmem', hbusy]
  · rw [hmem', hcold]
  · rw [State.rb_of_regs hregs]
    exact State.rb_sticky_self _ _ _ (by decide)
  · rw [State.bmGet_of_bytes hbytes hmems, hget b a ha]
    simp
  · rw [State.bmGet_of_bytes hbytes hmems, hget c a ha, if_neg (fun h => hc h.1)]
  · rw [hmem', hmem c hc]
  · exact (State.clu_freeCluster _ hg).trans (hclu g)
  · exact ((KeepRegs.of_regs hinit).sticky 28 List.mem_cons_self).then_regs hregs

end Machine
open Machine

/-- Settles O22. Reads and writes by their branches: the reply is given in a state whose ports and latches are those of before, and what each byte
reads comes from the laws of stored bytes. -/
theorem blockMemory : Obligations.BlockMemory := by
  unfold Obligations.BlockMemory
  refine ⟨fun q glitch s w => ?_, fun q s w => ?_, fun b s => ⟨fun hb => ?_, fun hb => ?_⟩⟩
  · intro lg o e zero answers hreq hop hrep
    have hexec := exec_bmRead [] glitch hreq hop hrep
    have hq : q.val / 2 / 34 = q.val / 68 := by omega
    refine ⟨fun hp => ?_, fun hp hf => ?_, fun hp hf => ⟨fun i k hi => ?_, fun hgood => ?_, fun hbad ht => ?_, fun g hbad ht hgood => ?_, fun g hbad ht hbad' => ?_⟩⟩
    · rw [if_pos hp] at hexec
      obtain ⟨hdrop, halarm, hcount, hkeep⟩ := s.bmPoison_leaves (q := q) (by omega)
      refine .of_eq hexec ⟨State.bmReply_answers (u := s.bmPoison q) q _ rfl rfl, ?_, ?_, ?_, hkeep.then_regs rfl, ?_⟩
      · rwa [State.rb_bmReply]
      · rwa [State.rb_bmReply]
      · rwa [State.rf_bmReply]
      · exact (State.bmReply_ev _ _ (State.bmPoison_ev q (Ev.refl (fieldMask [.regs, .bports]) s) (by rfl)) (by rfl)).only_mask
    · rw [if_neg (by simp [hp]), if_pos hf] at hexec
      obtain ⟨hcount, -, hkeep, -⟩ := s.violAt_countsAt (violOf .bm (q / 2))
      refine .of_eq hexec ⟨State.bmReply_answers (u := s.viol .bm (q / 2)) q _ rfl rfl, ?_, hkeep.then_regs rfl,
        (State.bmReply_ev _ _ (State.viol_ev _ _ (Ev.refl (fieldMask [.regs, .bports]) s) (by rfl)) (by rfl)).only_mask⟩
      rwa [State.rf_bmReply]
    · have h := exec_bmRead (s := s.bmHit (q / 2) (o + i) k) [] glitch hreq hop hrep
      have h1 := exec_bmRead [(i, k)] glitch hreq hop hrep
      have hwidth : (s.bmHit (q / 2) (o + i) k).bmWidth q = s.bmWidth q := rfl
      rw [hwidth, if_neg (by simp [hp]), if_neg (by simpa using hf)] at h
      rw [if_neg (by simp [hp]), if_neg (by simpa using hf)] at h1
      rw [h1, h]
      unfold State.bmPerformed
      rw [hwidth, List.filter_cons, if_pos (by simpa using hi)]
      rfl
    all_goals rw [if_neg (by simp [hp]), if_neg (by simpa using hf)] at hexec
    all_goals
      have hperf : s.bmPerformed q w [] glitch = (s.bmReadEntry q o lg glitch).1.bmReply q (s.bmReadEntry q o lg glitch).2 := rfl
      rw [hperf] at hexec
    · have htok : (s.bmReadEntry q o lg glitch).2 = bmTokens e := congrArg Prod.snd (State.bmReadEntry_good glitch hgood)
      obtain ⟨hcount, hkeep, honly⟩ := State.bmReadEntry_good_leaves glitch hgood
      obtain ⟨hans, honly'⟩ := State.bmReply_only honly (by simp) q (bmTokens e)
      rw [htok] at hexec
      exact .of_eq hexec ⟨hans, by rwa [State.rf_bmReply], hkeep.then_regs rfl, honly'.mono (by simp)⟩
    · have htok : (s.bmReadEntry q o lg glitch).2 = bmTokens e := congrArg Prod.snd (State.bmReadEntry_alone glitch hbad ht)
      obtain ⟨hflag, hoff, hcount, halarm, honly⟩ := State.bmReadEntry_alone_leaves glitch q.isLt (fld_lt _ _ _) hbad ht
      obtain ⟨hans, honly'⟩ := State.bmReply_only honly (by simp) q (bmTokens e)
      rw [htok] at hexec
      exact .of_eq hexec ⟨hans, by rwa [State.rb_bmReply], by rwa [State.rf_bmReply], by rwa [State.rf_bmReply], by rwa [State.rb_bmReply], honly'.mono (by simp)⟩
    · have htok : (s.bmReadEntry q o lg glitch).2 = bmTokens (s.bmEntry (g * 2 + q / 2 % 2) o (2 ^ lg)) :=
        congrArg Prod.snd (State.bmReadEntry_twin glitch hbad ht hgood)
      obtain ⟨hget, hcount, hflag, hkeep, honly⟩ := State.bmReadEntry_twin_leaves glitch q.isLt (fld_lt _ _ _) hbad
        (bmForbidden_fits (bmWidth_lt s q) hf) ht hgood
      obtain ⟨hans, honly'⟩ := State.bmReply_only honly (by simp) q (bmTokens (s.bmEntry (g * 2 + q / 2 % 2) o (2 ^ lg)))
      rw [htok] at hexec
      exact .of_eq hexec ⟨hans, fun i hi => by rw [State.bmGet_bmReply]; exact hget i hi, by rwa [State.rf_bmReply], by rwa [State.rb_bmReply],
        hkeep.then_regs rfl, honly'.mono (by simp)⟩
    · have htok : (s.bmReadEntry q o lg glitch).2 = bmTokens (s.bmEntry (g * 2 + q / 2 % 2) o (2 ^ lg)) :=
        congrArg Prod.snd (State.bmReadEntry_both glitch hbad ht hbad')
      obtain ⟨hflag, hcount, halarm, honly⟩ := State.bmReadEntry_both_leaves glitch q.isLt (fld_lt _ _ _) hbad ht hbad'
      obtain ⟨hans, honly'⟩ := State.bmReply_only honly (by simp) q (bmTokens (s.bmEntry (g * 2 + q / 2 % 2) o (2 ^ lg)))
      rw [htok] at hexec
      exact .of_eq hexec ⟨hans, by rwa [State.rb_bmReply], by rwa [State.rf_bmReply], by rwa [State.rb_bmReply], honly'.mono (by simp)⟩
  · intro lg dat cleared full hreq hop
    refine ⟨fun h => exec_bmWrite_waits hreq h, fun h hp => ?_, fun h hp hd hf => ?_, ?_⟩
    · have hexec := exec_bmWrite_poisoned hreq hop h hp
      obtain ⟨hdrop, halarm, -, -⟩ := s.bmPoison_leaves (q := q) (by omega)
      refine .of_eq hexec ⟨State.bmCleared_port (u := s.bmPoison q) q rfl, ?_, ?_,
        (Ev.setBport (State.bmPoison_ev q (Ev.refl (fieldMask [.regs, .bports]) s) (by rfl)) (by rfl) _ _).only_mask⟩
      · rwa [State.rb_bmCleared]
      · rwa [State.rb_bmCleared]
    · have hexec := exec_bmWrite_forbidden hreq hop h hp hd hf
      obtain ⟨hcount, -, hkeep, -⟩ := s.violAt_countsAt (violOf .bm (q / 2))
      refine .of_eq hexec ⟨State.bmCleared_port (u := s.viol .bm (q / 2)) q rfl, ?_, hkeep.then_regs rfl,
        (Ev.setBport (State.viol_ev _ _ (Ev.refl (fieldMask [.regs, .bports]) s) (by rfl)) (by rfl) _ _).only_mask⟩
      rwa [State.rf_bmCleared]
    · intro readsFirst
      refine ⟨fun h hp hd hf hlen hfirst => exec_bmWrite_afterRead hreq hop h hp hd hf hlen hfirst, fun h hp hd hf hlen hfirst => ?_⟩
      have hexec := exec_bmWrite_stores hreq hop h hp hd hf hlen hfirst
      have hn := length_storedBytes (q := q) hlen
      have hfit := bmForbidden_fits (bmWidth_lt s q) hf
      obtain ⟨hport, hin, hout, hothers, hregs, honly⟩ := s.bmWritten_leaves q (fld w.d 0 14) ((writeBytes (s.bport q).data).take (2 ^ s.bmWidth q)) (by rw [hn]; exact hfit)
      obtain ⟨hnone, hsome⟩ := s.bmCollided_flag q (fld w.d 0 14) ((writeBytes (s.bport q).data).take (2 ^ s.bmWidth q))
      rw [hn] at hin hout
      refine .of_eq hexec ⟨hport, fun i hi => ?_, hout, hothers, fun h0 => ?_, fun o' l' h0 => ?_, honly⟩
      · rw [hin i hi, nth_take _ _ hi]
        rfl
      · exact .of_regs (hregs.trans (congrArg State.regs (hnone h0)))
      · exact (State.rb_of_regs hregs _ _).trans (hsome o' l' h0)
  · exact if_neg (by simp [hb])
  · have hexec : exec (.bmInitDone b) s = .next (((s.bmInited b).sticky (bmReg b 4) 28).freeCluster (b / 2)) := if_pos hb
    obtain ⟨h1, h2, h3, h4, h5, h6, h7⟩ := s.bmInitDone_leaves b
    exact .of_eq hexec ⟨h1, h2, h3, h4, h5, h6, h7, (execBmInitDone_ev b (Ev.refl (fieldMask [.regs, .cells, .clus, .bmems, .bbytes]) s) (by rfl)).only hexec⟩

end Sys2Proof
end

section
/-! A scratch access whose issuer is no port of the package: where its answer goes is read from a register that the access itself changes. -/

namespace Sys2Proof

open Machine

/-- A read of word 0 of bank 0 that holds its round at the Lit bank. Its issuer names logical cluster 4088, which the package does not have: the number
of the cluster that serves it is read at the address of the bank's count of transient errors. -/
def strayRead : Flight := { id := 2, iss := .port 0 4088 0, kind := .read, addr := 0x100000000 }

/-- Bank 0 and its die Lit, `strayRead` in its round. -/
def strayReading : State :=
  { banks := [(0, { cur := some { who := .flight 2, req := 16, tc := 1, e := 0 } })], flights := [strayRead],
    regs := [((lmpDom 544).addr, 0), ((lmpDom 728).addr, 0)] }

/-- The state after the read, whose first of two reads alone was upset. -/
def strayReadDone : State :=
  (((strayReading.count (sb 0 0x10) 0 16 1).answer 2 (.word {})).unlockBy 0 strayRead).roundOver 0

theorem exec_strayRead : exec (.scratchRead 2 0 1 0) strayReading = .next strayReadDone := rfl

/-- Refutes O23: the transient error is counted before the answer sets out, and in `strayReading` that count is read as the place the answer goes to, so
the answer does not go where the issuer was when the command began. -/
theorem not_scratchAccesses : ¬ Obligations.ScratchAccesses := by
  unfold Obligations.ScratchAccesses
  rintro ⟨hread, -⟩
  have hat : AtBank strayReading 2 strayRead .read 0 0 0 := ⟨rfl, by decide, by decide, rfl⟩
  have hround : GrantedLit strayReading 2 0 := ⟨rfl, rfl⟩
  obtain ⟨t, ht, -, -, -, -, -, -, htransient, -⟩ := hread 2 0 0 0 strayRead 0 1 0 strayReading hat hround
  obtain rfl : strayReadDone = t := by rw [exec_strayRead] at ht; injection ht
  obtain ⟨hans, -⟩ := htransient (by decide) (by decide) (by decide)
  exact absurd (congrArg (List.map Flight.path) hans) (by decide)

end Sys2Proof
end

section
/-! Scratch storage (R176 to R182): what stored words read, the read with its one retry, and the Porter's rounds (R188 to R192, R198). -/

namespace Sys2Proof

open Machine

namespace Machine

theorem sb_addr (b off : Nat) : (sb b off).addr = 0x100801000 + 0x10000000 * (b / 4 / 8) + 0x1000000 * (b / 4 % 8) + 0x100 * (b % 4) + off := by
  simp only [sb, Reg.addr, Blk.base, winBase]
  omega

/-- Two registers of one bank. -/
theorem sb_ne {b off off' : Nat} (h : off ≠ off') : (sb b off).addr ≠ (sb b off').addr := by
  rw [sb_addr, sb_addr]
  omega

theorem State.bank_setBank (s : State) (i k : Nat) (x : Bank) : (s.setBank i x).bank k = if k = i then x else s.bank k := Store.get_put _ _ _ _ _

/-! Error patterns (R179). -/

/-- A pattern of no ones is zero. -/
theorem popCount_eq_zero {n : Nat} {v : BitVec n} (h : popCount v = 0) : v = 0 := by
  refine BitVec.eq_of_getLsbD_eq (fun i hi => ?_)
  have hnil := List.filter_eq_nil_iff.mp (List.eq_nil_of_length_eq_zero h) i (List.mem_range.mpr hi)
  rw [Bool.eq_false_of_not_eq_true hnil]
  exact BitVec.getLsbD_zero.symm

/-- A pattern of a single one names its place. -/
theorem popCount_eq_one {n : Nat} {v : BitVec n} (h : popCount v = 1) : ((1 <<< v.toNat.log2 : Nat) : BitVec n) = v := by
  obtain ⟨i, hi⟩ := List.length_eq_one_iff.mp h
  have hmem (j : Nat) (hj : j < n) : v.getLsbD j = decide (j = i) := by
    have hone : j ∈ (List.range n).filter (fun i => v.getLsbD i) ↔ j ∈ [i] := by rw [hi]
    rw [List.mem_filter, List.mem_singleton, and_iff_right (List.mem_range.mpr hj)] at hone
    exact (Bool.eq_iff_iff).mpr (hone.trans decide_eq_true_iff.symm)
  have hin : i < n := by
    have hone : i ∈ (List.range n).filter (fun i => v.getLsbD i) := by rw [hi]; exact List.mem_cons_self
    exact List.mem_range.mp (List.mem_filter.mp hone).1
  have htwo : v = BitVec.twoPow n i := by
    refine BitVec.eq_of_getLsbD_eq (fun j hj => ?_)
    rw [hmem j hj, BitVec.getLsbD_twoPow]
    simp [hin, eq_comm]
  have htoNat : v.toNat = 2 ^ i := by rw [htwo, BitVec.toNat_twoPow_of_lt hin]
  rw [htoNat, Nat.log2_two_pow, Nat.one_shiftLeft, ← htoNat]
  exact (BitVec.ofNat_toNat n v).trans (BitVec.setWidth_eq v)

theorem synOf_clean {p : BitVec 39} (h : popCount p = 0) : synOf p = .clean := by
  unfold synOf; rw [h]; rfl

theorem synOf_single {p : BitVec 39} (h : popCount p = 1) : synOf p = .single p.toNat.log2 := by
  unfold synOf; rw [h]; rfl

theorem synOf_double {p : BitVec 39} (h : popCount p = 2) : synOf p = .uncorrectable := by
  unfold synOf; rw [h]; rfl

/-! Stored words (R176, R197). -/

/-- The base, the rows a clear has passed and the place a clear has come to: what of a bank says how its unwritten words read. -/
def Bank.ground (k : Bank) : Nat × Nat × Nat := (k.base, k.zeroRows, k.clearPos)

theorem State.swGet_congr {s u : State} {b w c x : Nat} (hw : u.sword (131072 * b + w) = s.sword (131072 * c + x)) (hkey : 131072 * b + w = 131072 * c + x)
    (hbase : u.swBase b w = s.swBase c x) : u.swGet b w = s.swGet c x := by
  unfold State.swGet
  rw [hw, hbase, hkey]

theorem State.swBase_of_ground {s u : State} {b : Nat} (h : (u.bank b).ground = (s.bank b).ground) (w : Nat) : u.swBase b w = s.swBase b w := by
  obtain ⟨hbase, hrest⟩ := Prod.mk.inj h
  obtain ⟨hrows, -⟩ := Prod.mk.inj hrest
  unfold State.swBase
  rw [hbase, hrows]

theorem State.swGet_of_swords {s u : State} (hw : u.swords = s.swords) {b : Nat} (h : (u.bank b).ground = (s.bank b).ground) (w : Nat) :
    u.swGet b w = s.swGet b w :=
  State.swGet_congr (by unfold State.sword; rw [hw]) rfl (State.swBase_of_ground h w)

theorem State.swGet_swPut_self (s : State) (b w : Nat) (d : Word) (e : BitVec 39) : (s.swPut b w d e).swGet b w = (d, e) := by
  have hw : (s.swPut b w d e).sword (131072 * b + w) = if s.swBase b w = 0 ∧ d = 0 ∧ e = 0 then none else some (d, e) := s.sword_setSword_same _ _
  have hbase : (s.swPut b w d e).swBase b w = s.swBase b w := rfl
  unfold State.swGet
  rw [hw, hbase]
  by_cases hz : s.swBase b w = 0 ∧ d = 0 ∧ e = 0
  · obtain ⟨h0, rfl, rfl⟩ := hz
    simp [h0]
  · rw [if_neg hz]

theorem State.swGet_swPut_ne (s : State) {b w c x : Nat} (d : Word) (e : BitVec 39) (h : 131072 * c + x ≠ 131072 * b + w) :
    (s.swPut b w d e).swGet c x = s.swGet c x :=
  State.swGet_congr (s.sword_setSword_ne _ _ _ h) rfl rfl

/-! The read with its retry (R180). -/

/-- A shared fault writes registers alone. -/
theorem State.sharedFault_frame {β : Type} (φ : State → β) (hput : ∀ s g v, φ (State.rput s g v) = φ s) (s : State) (r src : Nat) :
    φ (s.sharedFault r src) = φ s := by
  let s1 := s.rput (tnkEvent r) (put 28 src + put 23 31 + put 17 0 + put 0 3)
  let s2 := s1.count (tnkErr r) 8 8 1
  exact (hput s2 _ _).trans ((hput s1 _ _).trans (hput s _ _))

/-- The state after the bits `hits` of a stored word flipped. -/
def State.swHit (s : State) (b w : Nat) (hits : BitVec 39) : State :=
  if hits = 0 then s else s.swPut b w (s.swGet b w).1 ((s.swGet b w).2 ^^^ hits)

theorem State.swHit_frame {β : Type} (φ : State → β) (hφ : ∀ s words, φ { s with swords := words } = φ s) (s : State) (b w : Nat) (hits : BitVec 39) :
    φ (s.swHit b w hits) = φ s := by
  unfold State.swHit
  split
  · rfl
  · exact hφ s _

theorem State.swGet_swHit_self (s : State) (b w : Nat) (hits : BitVec 39) :
    (s.swHit b w hits).swGet b w = ((s.swGet b w).1, (s.swGet b w).2 ^^^ hits) := by
  unfold State.swHit
  split
  · next h => rw [h]; exact Prod.ext rfl BitVec.xor_zero.symm
  · exact s.swGet_swPut_self _ _ _ _

theorem State.swGet_swHit_ne (s : State) {b w c x : Nat} (hits : BitVec 39) (h : 131072 * c + x ≠ 131072 * b + w) : (s.swHit b w hits).swGet c x = s.swGet c x := by
  unfold State.swHit
  split
  · rfl
  · exact s.swGet_swPut_ne _ _ h

/-- An error that stays is told: its kind in the status, its count, its place, and the region's alarm. -/
def State.swTell (s : State) (b w stat lo : Nat) : State :=
  (((s.sticky (sb b 0xC) stat).count (sb b 0x10) lo 8 1).rsetf (sb b 0x14) 0 19 (4 * w)).sharedFault (b / 4) 9

theorem State.swTell_frame {β : Type} (φ : State → β) (hput : ∀ s g v, φ (State.rput s g v) = φ s) (s : State) (b w stat lo : Nat) :
    φ (s.swTell b w stat lo) = φ s := by
  let s1 := s.sticky (sb b 0xC) stat
  let s2 := s1.count (sb b 0x10) lo 8 1
  let s3 := s2.rsetf (sb b 0x14) 0 19 (4 * w)
  have h3 : φ s3 = φ s := (hput s2 _ _).trans ((hput s1 _ _).trans (hput s _ _))
  exact (State.sharedFault_frame φ hput s3 _ _).trans h3

section SwRead
variable (s : State) (b w : Nat) (hits g1 g2 : BitVec 39)

/-- Whatever a read meets, the stored word is left with its hits, and beside registers and the scrub's queue nothing changes. -/
theorem State.swRead_state : ∃ u : State, (s.swRead b w hits g1 g2).1 = u ∧
    (u = s.swHit b w hits ∨ u = (s.swHit b w hits).count (sb b 0x10) 0 16 1 ∨ u = ((s.swHit b w hits).swTell b w 30 16).queueWord b w ∨
      u = (s.swHit b w hits).swTell b w 31 24) := by
  refine ⟨_, rfl, ?_⟩
  unfold State.swRead State.swHit
  dsimp only
  cases synOf ((s.swGet b w).2 ^^^ hits ^^^ g1) with
  | clean => exact .inl rfl
  | single i =>
    cases synOf ((s.swGet b w).2 ^^^ hits ^^^ g2) with
    | clean => exact .inr (.inl rfl)
    | single j =>
      dsimp only
      split
      · exact .inr (.inr (.inl rfl))
      · exact .inr (.inr (.inr rfl))
    | uncorrectable => exact .inr (.inr (.inr rfl))
  | uncorrectable =>
    cases synOf ((s.swGet b w).2 ^^^ hits ^^^ g2) with
    | clean => exact .inr (.inl rfl)
    | single j => exact .inr (.inr (.inr rfl))
    | uncorrectable => exact .inr (.inr (.inr rfl))

/-- What no write of a register, of a stored word or of a bank changes, a read leaves. -/
theorem State.swRead_frame {β : Type} (φ : State → β) (hput : ∀ s g v, φ (State.rput s g v) = φ s) (hword : ∀ s words, φ { s with swords := words } = φ s)
    (hbank : ∀ s : State, φ (s.queueWord b w) = φ s) : φ (s.swRead b w hits g1 g2).1 = φ s := by
  have htell := State.swTell_frame φ hput (s.swHit b w hits) b w
  obtain ⟨u, hu, h⟩ := s.swRead_state b w hits g1 g2
  rw [hu]
  rcases h with rfl | rfl | rfl | rfl
  · exact State.swHit_frame φ hword _ _ _ _
  · exact (hput (s.swHit b w hits) _ _).trans (State.swHit_frame φ hword _ _ _ _)
  · exact (hbank ((s.swHit b w hits).swTell b w 30 16)).trans ((htell _ _).trans (State.swHit_frame φ hword _ _ _ _))
  · exact (htell _ _).trans (State.swHit_frame φ hword _ _ _ _)

theorem State.swords_swRead : (s.swRead b w hits g1 g2).1.swords = (s.swHit b w hits).swords := by
  obtain ⟨u, hu, h⟩ := s.swRead_state b w hits g1 g2
  rw [hu]
  have htell := State.swTell_frame State.swords (fun _ _ _ => rfl) (s.swHit b w hits) b w
  rcases h with rfl | rfl | rfl | rfl
  · rfl
  · rfl
  · exact htell 30 16
  · exact htell 31 24

theorem State.bank_queueWord (c : Nat) : ∃ q, (s.queueWord b w).bank c = { s.bank c with scrubQ := q } := by
  refine ⟨if c = b then (if (s.bank b).scrubQ.contains w then (s.bank b).scrubQ else (s.bank b).scrubQ ++ [w]) else (s.bank c).scrubQ, ?_⟩
  refine (State.bank_setBank _ _ _ _).trans ?_
  split
  · next h => subst h; rfl
  · rfl

/-- A part of a bank other than the scrub's queue. -/
theorem State.swRead_bank {β : Type} (π : Bank → β) (hπ : ∀ k q, π { k with scrubQ := q } = π k) (c : Nat) :
    π ((s.swRead b w hits g1 g2).1.bank c) = π (s.bank c) :=
  s.swRead_frame b w hits g1 g2 (fun u => π (u.bank c)) (fun _ _ _ => rfl) (fun _ _ => rfl) (fun u => by
    obtain ⟨q, hq⟩ := u.bank_queueWord b w c
    exact (congrArg π hq).trans (hπ _ _))

theorem State.swGet_swRead (c x : Nat) : (s.swRead b w hits g1 g2).1.swGet c x = (s.swHit b w hits).swGet c x :=
  State.swGet_of_swords (s.swords_swRead b w hits g1 g2) ((s.swRead_bank b w hits g1 g2 Bank.ground (fun _ _ => rfl) c).trans
    (State.swHit_frame (fun u => (u.bank c).ground) (fun _ _ => rfl) s b w hits).symm) x

/-- The word a clean pattern gives. -/
theorem xor_clean {p : BitVec 39} (h : popCount p = 0) (d : Word) : d ^^^ p.setWidth 32 = d := by
  rw [popCount_eq_zero h]
  simp

variable {s b w hits g1 g2}

theorem State.swRead_clean (h : popCount ((s.swGet b w).2 ^^^ hits ^^^ g1) = 0) :
    s.swRead b w hits g1 g2 = (s.swHit b w hits, ⟨(s.swGet b w).1, false, false⟩) := by
  unfold State.swRead State.swHit
  simp only [synOf_clean h, xor_clean h]

theorem State.swRead_fixed (h1 : popCount ((s.swGet b w).2 ^^^ hits ^^^ g1) = 1)
    (h2 : (s.swGet b w).2 ^^^ hits ^^^ g2 = (s.swGet b w).2 ^^^ hits ^^^ g1) :
    s.swRead b w hits g1 g2 = (((s.swHit b w hits).swTell b w 30 16).queueWord b w, ⟨(s.swGet b w).1, true, false⟩) := by
  unfold State.swRead State.swHit State.swTell
  simp only [h2, synOf_single h1, popCount_eq_one h1, BitVec.xor_self, BitVec.setWidth_zero, BitVec.xor_zero]
  rw [if_pos trivial]

end SwRead

end Machine

end Sys2Proof
end

section
/-! The Porter's rounds, locks and the scrub (R182, R188, R189, R192, R198): what a decision and a grant leave. -/

namespace Sys2Proof

open Machine

namespace Machine

/-! What the Porter leaves (R188, R189). -/

/-- The other banks and every stored word are left, and of bank `b` what says how its unwritten words read. -/
structure PorterFrame (b : Nat) (s t : State) : Prop where
  others : ∀ k, k ≠ b → t.bank k = s.bank k
  ground : (t.bank b).ground = (s.bank b).ground
  words : t.swords = s.swords

theorem PorterFrame.refl (b : Nat) (s : State) : PorterFrame b s s := ⟨fun _ _ => rfl, rfl, rfl⟩

theorem PorterFrame.trans {b : Nat} {s t u : State} (h : PorterFrame b s t) (k : PorterFrame b t u) : PorterFrame b s u :=
  ⟨fun c hc => (k.others c hc).trans (h.others c hc), k.ground.trans h.ground, k.words.trans h.words⟩

theorem PorterFrame.of_same {b : Nat} {s t : State} (hb : t.banks = s.banks) (hw : t.swords = s.swords) : PorterFrame b s t := by
  have hbank (k : Nat) : t.bank k = s.bank k := by unfold State.bank; rw [hb]
  exact ⟨fun k _ => hbank k, congrArg _ (hbank b), hw⟩

theorem PorterFrame.setBank {b : Nat} {s t : State} (h : PorterFrame b s t) (x : Bank) (hx : x.ground = (t.bank b).ground) : PorterFrame b s (t.setBank b x) :=
  h.trans ⟨fun _ hk => t.bank_setBank_ne _ _ _ hk, (congrArg _ (t.bank_setBank_same b x)).trans hx, rfl⟩

theorem PorterFrame.swGet {b : Nat} {s t : State} (h : PorterFrame b s t) (c w : Nat) : t.swGet c w = s.swGet c w := by
  by_cases hc : c = b
  · subst hc; exact State.swGet_of_swords h.words h.ground w
  · exact State.swGet_of_swords h.words (congrArg _ (h.others c hc)) w

/-- The registers a decision writes. -/
def decisionRegs (b : Nat) : List Reg := sb b 0x28 :: (List.range 20).map (prtReq b)

/-- The registers of bank b that a decision leaves alone. -/
theorem sb_not_decision {b off : Nat} (h28 : off ≠ 0x28) (hprt : off < 0x80) : ∀ x ∈ decisionRegs b, (sb b off).addr ≠ x.addr := by
  intro x hx
  rcases List.mem_cons.mp hx with rfl | hx
  · exact sb_ne h28
  · obtain ⟨n, -, rfl⟩ := List.mem_map.mp hx
    exact sb_ne (by omega)

/-- The registers of a decision with winner `w`. -/
def State.decided (s : State) (b : Nat) (l : List Win) (w : Win) : State :=
  (if l.any (fun x => x.tc == 0 && decide (x.req < 18) && x.e != 14) then s.sticky (sb b 0x28) 31 else s).each (List.range 20) (fun t n =>
    if n = w.req then t.rsetf (prtReq b n) 16 6 0
    else if s.offersAny b n then t.count (prtReq b n) 16 6 1 else t)

theorem State.decided_frame {β : Type} (φ : State → β) (hput : ∀ s g v, φ (State.rput s g v) = φ s) (s : State) (b : Nat) (l : List Win) (w : Win) :
    φ (s.decided b l w) = φ s := by
  refine (State.each_inv φ (fun u n => ?_) _ _).trans ?_
  · split
    · exact hput u _ _
    · split
      · exact hput u _ _
      · rfl
  · split
    · exact hput s _ _
    · rfl

theorem State.decided_keeps (s : State) (b : Nat) (l : List Win) (w : Win) : KeepRegs (decisionRegs b) s (s.decided b l w) := by
  refine KeepRegs.each (.ite ((KeepRegs.refl _ s).sticky _ List.mem_cons_self) (.refl _ s)) (fun u n hn hu => ?_)
  have hmem : prtReq b n ∈ decisionRegs b := List.mem_cons_of_mem _ (List.mem_map.mpr ⟨n, hn, rfl⟩)
  exact .ite (hu.rsetf _ _ _ hmem) (.ite (hu.count _ _ _ hmem) hu)

/-- What a decision writes of its bank beside the next winner: the last winner at its e, and the rotation of the winner's classes. -/
def Bank.won (k : Bank) (w : Win) : Bank :=
  { k with last := Store.put 19 k.last w.e w.req
           classRot := if w.tc = 0 ∨ 18 ≤ w.req then k.classRot else Store.put 0 k.classRot w.req (w.tc % 3) }

theorem State.decision_none {s : State} {b : Nat} (h : s.candidates b = []) : s.decision b = (s, none) := by
  unfold State.decision
  rw [h]

theorem State.decision_some {s : State} {b : Nat} {c : Win} {l : List Win} (h : s.candidates b = c :: l) :
    s.decision b = ((s.decided b (c :: l) (l.foldl (s.better b) c)).setBank b
      (((s.decided b (c :: l) (l.foldl (s.better b) c)).bank b).won (l.foldl (s.better b) c)), some (l.foldl (s.better b) c)) := by
  unfold State.decision
  rw [h]
  rfl

/-- A decision's bank, but for the last winners and the rotation. -/
theorem State.decision_leaves (s : State) (b : Nat) :
    (∃ last rot, (s.decision b).1.bank b = { s.bank b with last := last, classRot := rot }) ∧ PorterFrame b s (s.decision b).1 ∧
    KeepRegs (decisionRegs b) s (s.decision b).1 := by
  cases h : s.candidates b with
  | nil =>
    rw [State.decision_none h]
    exact ⟨⟨_, _, rfl⟩, .refl b s, .refl _ s⟩
  | cons c l =>
    let w := l.foldl (s.better b) c
    let u := s.decided b (c :: l) w
    have hbank : u.bank b = s.bank b := State.decided_frame (fun u => u.bank b) (fun _ _ _ => rfl) _ _ _ _
    have hsame : PorterFrame b s u :=
      .of_same (State.decided_frame State.banks (fun _ _ _ => rfl) _ _ _ _) (State.decided_frame State.swords (fun _ _ _ => rfl) _ _ _ _)
    rw [State.decision_some h]
    refine ⟨⟨_, _, (u.bank_setBank_same b _).trans (congrArg (fun k : Bank => k.won w) hbank)⟩, hsame.setBank _ rfl, ?_⟩
    exact (s.decided_keeps b _ w).then_regs rfl

/-- R189: the better of two candidates is one of them, and of the higher e. -/
theorem State.better_spec (s : State) (b : Nat) (x y : Win) : (s.better b x y = x ∨ s.better b x y = y) ∧ x.e ≤ (s.better b x y).e ∧ y.e ≤ (s.better b x y).e := by
  unfold State.better
  split
  · exact ⟨.inr rfl, by omega, Nat.le_refl _⟩
  · split
    · exact ⟨.inl rfl, Nat.le_refl _, by omega⟩
    · split
      · exact ⟨.inr rfl, by omega, Nat.le_refl _⟩
      · exact ⟨.inl rfl, Nat.le_refl _, by omega⟩

/-- R189: the winner is a candidate of the highest e. -/
theorem State.winner_best (s : State) (b : Nat) (c : Win) (l : List Win) :
    l.foldl (s.better b) c ∈ c :: l ∧ ∀ x ∈ c :: l, x.e ≤ (l.foldl (s.better b) c).e := by
  induction l generalizing c with
  | nil => exact ⟨List.mem_cons_self, fun x hx => by rw [List.mem_singleton.mp hx]; exact Nat.le_refl _⟩
  | cons y l ih =>
    obtain ⟨hone, hx, hy⟩ := s.better_spec b c y
    obtain ⟨hmem, hbest⟩ := ih (s.better b c y)
    rw [List.foldl_cons]
    have htop := hbest _ List.mem_cons_self
    refine ⟨?_, fun z hz => ?_⟩
    · rcases List.mem_cons.mp hmem with he | hin
      · rw [he]
        rcases hone with h | h <;> rw [h] <;> simp
      · exact List.mem_cons_of_mem _ (List.mem_cons_of_mem _ hin)
    · rcases List.mem_cons.mp hz with rfl | hz
      · exact hx.trans htop
      · rcases List.mem_cons.mp hz with rfl | hz
        · exact hy.trans htop
        · exact hbest z (List.mem_cons_of_mem _ hz)

/-! Grants (R188, R192, R194, R197). -/

/-- PRT_GRANT of a grant. -/
def grantWord (broke locked : Bool) (req tc e n : Nat) : RegVal :=
  putB 31 broke + putB 30 locked + put 25 req + put 23 tc + putB 22 (e == 13) + put 19 (e / 2) + put 0 ((n + 1) % 65536)

theorem toNat_put_mod (lo x : Nat) : (put lo x).toNat = x * 2 ^ lo % 2 ^ 64 := by
  rw [put, BitVec.toNat_ofNat, Nat.shiftLeft_eq]

theorem toNat_add_put {v : RegVal} {m : Nat} (h : v.toNat = m % 2 ^ 64) (lo x : Nat) : (v + put lo x).toNat = (m + x * 2 ^ lo) % 2 ^ 64 := by
  rw [BitVec.toNat_add, h, toNat_put_mod, ← Nat.add_mod]

/-- The value of PRT_GRANT's fields. -/
def grantNat (a b q t u w n : Nat) : Nat := a * 2 ^ 31 + b * 2 ^ 30 + q * 2 ^ 25 + t * 2 ^ 23 + u * 2 ^ 22 + w * 2 ^ 19 + n

theorem grantNat_fields {a b q t u w n : Nat} (ha : a < 2) (hb : b < 2) (hq : q < 2 ^ 5) (ht : t < 2 ^ 2) (hu : u < 2) (hw : w < 2 ^ 3) (hn : n < 2 ^ 16) :
    let x := grantNat a b q t u w n
    x < 2 ^ 64 ∧ x / 2 ^ 25 % 2 ^ 5 = q ∧ x / 2 ^ 23 % 2 ^ 2 = t ∧ x / 2 ^ 19 % 2 ^ 3 = w ∧ x / 2 ^ 0 % 2 ^ 16 = n ∧ x / 2 ^ 31 % 2 = a := by
  unfold grantNat
  omega

theorem toNat_grantPuts (a b q t u w n : Nat) (h : grantNat a b q t u w n < 2 ^ 64) :
    (put 31 a + put 30 b + put 25 q + put 23 t + put 22 u + put 19 w + put 0 n).toNat = grantNat a b q t u w n := by
  have hsum := toNat_add_put (toNat_add_put (toNat_add_put (toNat_add_put (toNat_add_put (toNat_add_put (toNat_put_mod 31 a) 30 b) 25 q) 23 t) 22 u) 19 w) 0 n
  rw [Nat.pow_zero, Nat.mul_one] at hsum
  exact hsum.trans (Nat.mod_eq_of_lt h)

theorem grantWord_fields (broke locked : Bool) {req tc e : Nat} (n : Nat) (hreq : req < 20) (htc : tc < 4) (he : e < 16) :
    let v := grantWord broke locked req tc e n
    fld v 25 5 = req ∧ fld v 23 2 = tc ∧ fld v 19 3 = e / 2 ∧ fld v 0 16 = (n + 1) % 65536 ∧ bit v 31 = broke := by
  have hb (b : Bool) : b2n b < 2 := by cases b <;> decide
  have hw : e / 2 < 2 ^ 3 := by omega
  have hn : (n + 1) % 65536 < 2 ^ 16 := Nat.mod_lt _ (by decide)
  obtain ⟨hlt, hq, ht, hw, hn, ha⟩ := grantNat_fields (hb broke) (hb locked) (Nat.lt_trans hreq (by decide)) htc (hb (e == 13)) hw hn
  have hval : (grantWord broke locked req tc e n).toNat = _ := toNat_grantPuts _ _ _ _ _ _ _ hlt
  have hbroke : bit (grantWord broke locked req tc e n) 31 = decide (b2n broke = 1) := by
    unfold bit
    rw [BitVec.getLsbD, hval, Nat.testBit_eq_decide_div_mod_eq, ha]
  dsimp only
  unfold fld
  rw [hval, Nat.shiftRight_eq_div_pow, Nat.shiftRight_eq_div_pow, Nat.shiftRight_eq_div_pow, Nat.shiftRight_eq_div_pow]
  exact ⟨hq, ht, hw, hn, hbroke.trans (by cases broke <;> rfl)⟩

/-- The access a winner names. -/
def State.flightOf (s : State) (w : Win) : Option Flight := match w.who with | .flight id => s.flight id | _ => none

/-- The grant but for the lock and the waking of the bank. -/
def State.grantNoted (s : State) (b : Nat) (w : Win) : State :=
  let locked := match s.flightOf w with | some f => f.lock && f.iss != Issuer.debug | none => false
  let s1 := s.rput (sb b 0x24) (grantWord (s.bank b).broke locked w.req w.tc w.e (fld (s.rget (sb b 0x24)) 0 16))
  let s2 := if (s.bank b).broke then s1.rsetf (sb b 0x28) 25 5 w.req else s1
  let s3 := if w.e = 13 then s2.count (sb b 0x28) 0 8 1 else s2
  s3.setBank b { s3.bank b with cur := some w, next := none, broke := false }

/-- The grant but for the waking of the bank. -/
def State.grantLocked (s : State) (b : Nat) (w : Win) : State :=
  match s.flightOf w with | some f => (s.grantNoted b w).lockBy b f | none => s.grantNoted b w

theorem State.grant_eq (s : State) (b : Nat) (w : Win) : s.grant b w =
    let u := s.grantLocked b w
    if u.dom (bankDom b) = 1 ∧ u.rb (sb b 8) 2 ∧ w.req < 18 ∧ !(u.bank b).waking then
      (u.setBank b { u.bank b with waking := true }).domAsk (bankDom b) 0 (violOf .lmp 0)
    else u := rfl

theorem State.grantNoted_leaves (s : State) (b : Nat) (w : Win) :
    (s.grantNoted b w).bank b = { s.bank b with cur := some w, next := none, broke := false } ∧ PorterFrame b s (s.grantNoted b w) ∧
    KeepRegs [sb b 0x24, sb b 0x28] s (s.grantNoted b w) ∧
    ∃ locked, (s.grantNoted b w).rget (sb b 0x24) = grantWord (s.bank b).broke locked w.req w.tc w.e (fld (s.rget (sb b 0x24)) 0 16) := by
  let locked := match s.flightOf w with | some f => f.lock && f.iss != Issuer.debug | none => false
  let s1 := s.rput (sb b 0x24) (grantWord (s.bank b).broke locked w.req w.tc w.e (fld (s.rget (sb b 0x24)) 0 16))
  let s2 := if (s.bank b).broke then s1.rsetf (sb b 0x28) 25 5 w.req else s1
  let s3 := if w.e = 13 then s2.count (sb b 0x28) 0 8 1 else s2
  have hframe {β : Type} (φ : State → β) (hput : ∀ s g v, φ (State.rput s g v) = φ s) : φ s3 = φ s := by
    have h2 : φ s2 = φ s1 := by
      dsimp only [s2]
      split
      · exact hput s1 _ _
      · rfl
    have h3 : φ s3 = φ s2 := by
      dsimp only [s3]
      split
      · exact hput s2 _ _
      · rfl
    exact h3.trans (h2.trans (hput s _ _))
  have hk1 : KeepRegs [sb b 0x28] s1 s3 := by
    have h2 : KeepRegs [sb b 0x28] s1 s2 := .ite ((KeepRegs.refl _ s1).rsetf _ _ _ (by simp)) (.refl _ s1)
    exact .ite (h2.count _ _ _ (by simp)) h2
  have hbank : s3.bank b = s.bank b := hframe (fun u => u.bank b) (fun _ _ _ => rfl)
  have hnoted : s.grantNoted b w = s3.setBank b { s3.bank b with cur := some w, next := none, broke := false } := rfl
  rw [hnoted]
  refine ⟨(s3.bank_setBank_same b _).trans (by rw [hbank]), ?_, ?_, locked, ?_⟩
  · exact (PorterFrame.of_same (hframe State.banks (fun _ _ _ => rfl)) (hframe State.swords (fun _ _ _ => rfl))).setBank _ rfl
  · have hput : KeepRegs [sb b 0x24, sb b 0x28] s s1 := (KeepRegs.refl _ s).rput _ (by simp)
    exact (hput.trans (hk1.mono (by simp))).then_regs rfl
  · exact (hk1 (sb b 0x24) (by simpa using sb_ne (by decide))).trans (s.rget_rput_same _ _)

/-- A grant's lock: of the bank its holder changes, and the lock register. -/
theorem State.lockBy_leaves (s : State) (b : Nat) (f : Flight) :
    (∃ lk lin, (s.lockBy b f).bank b = { s.bank b with lock := lk, lockIn := lin }) ∧ PorterFrame b s (s.lockBy b f) ∧ KeepRegs [sb b 0x20] s (s.lockBy b f) := by
  unfold State.lockBy
  dsimp only
  split
  · let k : Bank := { s.bank b with lock := some f.iss, lockIn := f.from_.map (·.2.2) }
    have hput : PorterFrame b s (s.setBank b k) := (PorterFrame.refl b s).setBank _ rfl
    refine ⟨⟨_, _, s.bank_setBank_same b k⟩, hput.trans (.of_same rfl rfl), ?_⟩
    exact KeepRegs.rput (t := s.setBank b k) (.of_regs rfl) _ (by simp)
  · exact ⟨⟨_, _, rfl⟩, .refl b s, .refl _ s⟩

theorem State.lockBy_free {s : State} {b : Nat} {f : Flight} (hiss : f.iss ≠ .debug) (hlock : (s.bank b).lock = none) :
    ((s.lockBy b f).bank b).lock = (if f.lock then some f.iss else none) ∧ (s.lockBy b f).rb (sb b 0x20) 31 = (f.lock || s.rb (sb b 0x20) 31) := by
  unfold State.lockBy
  cases hf : f.lock with
  | false => exact ⟨hlock, rfl⟩
  | true =>
    dsimp only
    rw [if_pos (by simp [hiss, hlock])]
    refine ⟨congrArg Bank.lock (s.bank_setBank_same b _), (State.rb_rput_same _ _ _ _).trans ?_⟩
    rw [bit_setFld _ _ _ _ _ (by decide), bit_setFld _ _ _ _ _ (by decide), bit_setFld _ _ _ _ _ (by decide), bit_setBit_self _ _ _ (by decide)]
    rfl

/-- R443: what a request of a domain writes: registers of the Lamplighter, and the domain. -/
theorem State.domAsk_frame {β : Type} (φ : State → β) (hput : ∀ s v off, off < 0x10000 → φ (State.rput s ⟨.lmp, 0, off⟩ v) = φ s)
    (hdom : ∀ s n x, φ (State.setDomSt s n x) = φ s) (s : State) {n : Nat} (hn : n < 1024) (st : Nat) : φ (s.domAsk n st (violOf .lmp 0)) = φ s := by
  have hrefuse : φ ((s.sticky (lmpReg 4) 29).violAt (violOf .lmp 0)) = φ s := (hput (s.sticky (lmpReg 4) 29) _ 0xC (by decide)).trans (hput s _ 4 (by decide))
  unfold State.domAsk State.domRequest
  dsimp only
  split
  · exact hrefuse
  · split
    · exact hrefuse
    · have h1 : φ (s.rsetf (lmpDom n) 28 2 st) = φ s := hput s _ (0x1000 + 4 * n) (by omega)
      split
      · exact (hdom _ _ _).trans h1
      · unfold State.domBegin
        split
        · exact (hdom _ _ _).trans h1
        · exact (hput ((s.rsetf (lmpDom n) 28 2 st).setDomSt n { target := some st }) _ (0x1000 + 4 * n) (by omega)).trans ((hdom _ _ _).trans h1)

/-- Of the fabric's registers it writes none. -/
theorem State.rget_domAsk (s : State) {n : Nat} (hn : n < 1024) (st : Nat) {g : Reg} (hg : 0x100000000 ≤ g.addr) :
    (s.domAsk n st (violOf .lmp 0)).rget g = s.rget g := by
  have hlmp (off : Nat) (hoff : off < 0x10000) (u : State) (v : RegVal) : (u.rput ⟨.lmp, 0, off⟩ v).rget g = u.rget g :=
    State.rget_rput_ne _ _ _ _ (by rw [show (⟨.lmp, 0, off⟩ : Reg).addr = 0x20010000 + off from rfl]; omega)
  exact State.domAsk_frame (fun u => u.rget g) (fun u v k hk => hlmp k hk u v) (fun _ _ _ => rfl) s hn st

theorem sb_high (b off : Nat) : 0x100000000 ≤ (sb b off).addr := by
  rw [sb_addr]
  omega

/-- A grant's last step, which wakes a banked bank. -/
theorem State.grant_woken (s : State) {b : Nat} (hb : b < 128) (w : Win) :
    (∃ wk, (s.grant b w).bank b = { (s.grantLocked b w).bank b with waking := wk }) ∧ PorterFrame b (s.grantLocked b w) (s.grant b w) ∧
    ∀ off, (s.grant b w).rget (sb b off) = (s.grantLocked b w).rget (sb b off) := by
  rw [State.grant_eq]
  dsimp only
  split
  · let u := s.grantLocked b w
    let v := u.setBank b { u.bank b with waking := true }
    have hn : bankDom b < 1024 := by unfold bankDom; omega
    have hbanks : (v.domAsk (bankDom b) 0 (violOf .lmp 0)).banks = v.banks :=
      State.domAsk_frame State.banks (fun _ _ _ _ => rfl) (fun _ _ _ => rfl) v hn 0
    have hwords : (v.domAsk (bankDom b) 0 (violOf .lmp 0)).swords = v.swords :=
      State.domAsk_frame State.swords (fun _ _ _ _ => rfl) (fun _ _ _ => rfl) v hn 0
    have hput : PorterFrame b u v := (PorterFrame.refl b u).setBank _ rfl
    refine ⟨⟨true, ?_⟩, hput.trans (.of_same hbanks hwords), fun off => v.rget_domAsk hn 0 (sb_high b off)⟩
    have hbank : (v.domAsk (bankDom b) 0 (violOf .lmp 0)).bank b = v.bank b := by unfold State.bank; rw [hbanks]
    exact hbank.trans (u.bank_setBank_same b _)
  · exact ⟨⟨_, rfl⟩, .refl b _, fun _ => rfl⟩

theorem State.grantLocked_leaves (s : State) (b : Nat) (w : Win) :
    (∃ lk lin, (s.grantLocked b w).bank b = { s.bank b with cur := some w, next := none, broke := false, lock := lk, lockIn := lin }) ∧
    PorterFrame b s (s.grantLocked b w) ∧ (s.grantLocked b w).rget (sb b 0x24) = (s.grantNoted b w).rget (sb b 0x24) := by
  obtain ⟨hbank, hframe, -, -⟩ := s.grantNoted_leaves b w
  unfold State.grantLocked
  cases s.flightOf w with
  | none => exact ⟨⟨_, _, hbank⟩, hframe, rfl⟩
  | some f =>
    obtain ⟨⟨lk, lin, hl⟩, hf, hk⟩ := (s.grantNoted b w).lockBy_leaves b f
    dsimp only
    refine ⟨⟨lk, lin, hl.trans (by rw [hbank])⟩, hframe.trans hf, hk _ (by simpa using sb_ne (by decide))⟩

/-- The round of `w` granted, and the next one decided. -/
def State.rounded (s : State) (b : Nat) (w : Win) : State :=
  ((s.grant b w).decision b).1.setBank b { ((s.grant b w).decision b).1.bank b with next := ((s.grant b w).decision b).2 }

/-- A granted round's bank: what the decision after it leaves of the grant's. -/
theorem State.rounded_bank (s : State) (b : Nat) (w : Win) :
    ∃ nx last rot, (s.rounded b w).bank b = { (s.grant b w).bank b with next := nx, last := last, classRot := rot } := by
  obtain ⟨⟨last, rot, hd⟩, -, -⟩ := (s.grant b w).decision_leaves b
  refine ⟨((s.grant b w).decision b).2, last, rot, ?_⟩
  exact (State.bank_setBank_same _ b _).trans (by rw [hd])

theorem State.rget_rounded (s : State) (b : Nat) (w : Win) {off : Nat} (h28 : off ≠ 0x28) (hprt : off < 0x80) :
    (s.rounded b w).rget (sb b off) = (s.grant b w).rget (sb b off) :=
  ((s.grant b w).decision_leaves b).2.2 _ (sb_not_decision h28 hprt)

theorem State.rounded_frame (s : State) {b : Nat} (hb : b < 128) (w : Win) : PorterFrame b s (s.rounded b w) := by
  obtain ⟨-, hd, -⟩ := (s.grant b w).decision_leaves b
  exact (((s.grantLocked_leaves b w).2.1.trans (s.grant_woken hb w).2.1).trans hd).setBank _ rfl

/-- R188, R194: the granted round stands, a broken lock is told once, and PRT_GRANT shows requester and class. -/
theorem State.rounded_shows (s : State) {b : Nat} (hb : b < 128) {w : Win} (hreq : w.req < 20) (htc : w.tc < 4) (he : w.e < 16) :
    let t := s.rounded b w
    (t.bank b).cur = some w ∧ t.rf (sb b 0x24) 25 5 = w.req ∧ t.rf (sb b 0x24) 23 2 = w.tc ∧ t.rf (sb b 0x24) 19 3 = w.e / 2 ∧
    t.rf (sb b 0x24) 0 16 = (s.rf (sb b 0x24) 0 16 + 1) % 65536 ∧ t.rb (sb b 0x24) 31 = (s.bank b).broke ∧ (t.bank b).broke = false := by
  obtain ⟨nx, last, rot, hround⟩ := s.rounded_bank b w
  obtain ⟨⟨wk, hwoken⟩, -, hregs⟩ := s.grant_woken hb w
  obtain ⟨⟨lk, lin, hlocked⟩, -, hreg⟩ := s.grantLocked_leaves b w
  obtain ⟨-, -, -, locked, hword⟩ := s.grantNoted_leaves b w
  rw [hwoken, hlocked] at hround
  have hget : (s.rounded b w).rget (sb b 0x24) = grantWord (s.bank b).broke locked w.req w.tc w.e (s.rf (sb b 0x24) 0 16) :=
    (s.rget_rounded b w (by decide) (by decide)).trans ((hregs 0x24).trans (hreg.trans hword))
  obtain ⟨h1, h2, h3, h4, h5⟩ := grantWord_fields (s.bank b).broke locked (s.rf (sb b 0x24) 0 16) hreq htc he
  dsimp only
  unfold State.rf State.rb at *
  rw [hget, hround]
  exact ⟨rfl, h1, h2, h3, h4, h5, rfl⟩

/-- R192: the granted access's lock. -/
theorem State.rounded_lock (s : State) {b : Nat} (hb : b < 128) {w : Win} {f : Flight} (hf : s.flightOf w = some f) (hiss : f.iss ≠ .debug)
    (hlock : (s.bank b).lock = none) :
    ((s.rounded b w).bank b).lock = (if f.lock then some f.iss else none) ∧ (s.rounded b w).rb (sb b 0x20) 31 = (f.lock || s.rb (sb b 0x20) 31) := by
  obtain ⟨nx, last, rot, hround⟩ := s.rounded_bank b w
  obtain ⟨⟨wk, hwoken⟩, -, hregs⟩ := s.grant_woken hb w
  obtain ⟨hbank, -, hkeep, -⟩ := s.grantNoted_leaves b w
  have hlocked : s.grantLocked b w = (s.grantNoted b w).lockBy b f := by unfold State.grantLocked; rw [hf]
  obtain ⟨hl, hr⟩ := State.lockBy_free (s := s.grantNoted b w) (b := b) hiss (by rw [hbank]; exact hlock)
  rw [hround, hwoken, hlocked]
  refine ⟨hl, ?_⟩
  have h20 : (s.grantNoted b w).rb (sb b 0x20) 31 = s.rb (sb b 0x20) 31 :=
    congrArg (fun v => bit v 31) (hkeep _ (by simp only [List.mem_cons, List.not_mem_nil, or_false]; rintro x (rfl | rfl) <;> exact sb_ne (by decide)))
  have hget : (s.rounded b w).rb (sb b 0x20) 31 = ((s.grantNoted b w).lockBy b f).rb (sb b 0x20) 31 := by
    rw [← hlocked]
    exact congrArg (fun v => bit v 31) ((s.rget_rounded b w (by decide) (by decide)).trans (hregs 0x20))
  exact hget.trans (hr.trans (by rw [h20]))

end Machine

open Machine

/-! BANK_ROUND. -/

section Round
variable {b : Fin 128} {s : State}

theorem State.maintOver_other (h : ((s.bank b).cur.map (·.who)) ≠ some .slice) : s.maintOver b = s := if_neg h

/-- A round granted from the state `u` in which the one before is over. -/
theorem exec_bankRound {u : State} (hu : s.maintOver b = u) (hcur : (u.bank b).cur = none) :
    exec (.bankRound b) s = match u.nextWin b with
      | some w => ok (u.rounded b w)
      | none => match ((u.setBank b { u.bank b with next := none }).decision b).2 with
        | some w => ok (((u.setBank b { u.bank b with next := none }).decision b).1.rounded b w)
        | none => ok ((u.setBank b { u.bank b with next := none }).decision b).1 := by
  subst hu
  refine (if_neg (by simp [hcur])).trans ?_
  cases (s.maintOver b).nextWin b with
  | some w => rfl
  | none => cases (((s.maintOver b).setBank b { (s.maintOver b).bank b with next := none }).decision b).2 <;> rfl

end Round

/-! A round of a clear (R198). -/

namespace Machine

/-- The state after a clear's round at bank `b`, the round over. -/
def State.clearRound (s : State) (b : Nat) : State :=
  let k := s.bank b
  let s1 := s.setBank b { k with clearPos := k.clearPos + 1, zeroRows := max k.zeroRows (k.clearPos + 1) }
  { s1 with swords := s1.swords.filter (fun e => !(e.1 / 131072 == b && e.1 % 16384 == k.clearPos)) }.roundOver b

theorem State.maintOver_clear {s : State} {b : Nat} (hdom : s.dom (bankDom b) = 0) (hcur : ((s.bank b).cur.map (·.who)) = some .slice)
    (hclear : (s.bank b).clearing = true) : s.maintOver b = s.clearRound b := by
  have hmaint : s.maint b = some .clear := if_pos hclear
  have hround : (if s.dom (bankDom b) = 0 then s.maintRound b else s) = s.maintRound b := if_pos hdom
  refine (if_pos hcur).trans ?_
  rw [hround]
  unfold State.maintRound
  rw [hmaint]
  rfl

theorem State.bank_clearRound_self (s : State) (b : Nat) : (s.clearRound b).bank b =
    { s.bank b with clearPos := (s.bank b).clearPos + 1, zeroRows := max (s.bank b).zeroRows ((s.bank b).clearPos + 1), cur := none } := by
  let k : Bank := { s.bank b with clearPos := (s.bank b).clearPos + 1, zeroRows := max (s.bank b).zeroRows ((s.bank b).clearPos + 1) }
  have h : (s.setBank b k).bank b = k := s.bank_setBank_same b k
  refine (State.bank_setBank_same _ b _).trans ?_
  exact congrArg (fun x : Bank => { x with cur := none }) h

theorem State.bank_clearRound_ne (s : State) {b c : Nat} (h : c ≠ b) : (s.clearRound b).bank c = s.bank c :=
  (State.bank_setBank_ne _ _ _ _ h).trans (s.bank_setBank_ne _ _ _ h)

theorem State.sword_clearRound (s : State) (b i : Nat) :
    (s.clearRound b).sword i = if i / 131072 = b ∧ i % 16384 = (s.bank b).clearPos then none else s.sword i := by
  refine (Store.get_filter none s.swords (fun i => !(i / 131072 == b && i % 16384 == (s.bank b).clearPos)) i).trans ?_
  by_cases h : i / 131072 = b ∧ i % 16384 = (s.bank b).clearPos
  · rw [if_pos h, if_neg (by simp [h.1, h.2])]
  · rw [if_neg h, if_pos (by rcases not_and_or.mp h with h | h <;> simp [h])]
    rfl

/-- R198: the round writes zero with right check bits to the next word of each sub-bank, and leaves the others. -/
theorem State.swGet_clearRound_self {s : State} {b : Nat} (hrows : (s.bank b).clearPos ≤ (s.bank b).zeroRows) {w : Nat} (hw : w < 131072) :
    (s.clearRound b).swGet b w = if w % 16384 = (s.bank b).clearPos then (0, 0) else s.swGet b w := by
  have hword := s.sword_clearRound b (131072 * b + w)
  have hbase : (s.clearRound b).swBase b w = if w % 16384 < max (s.bank b).zeroRows ((s.bank b).clearPos + 1) then 0 else (s.bank b).base := by
    unfold State.swBase
    rw [State.bank_clearRound_self]
  by_cases h : w % 16384 = (s.bank b).clearPos
  · rw [if_pos (by omega)] at hword
    rw [if_pos (by omega)] at hbase
    unfold State.swGet
    rw [hword, hbase, if_pos h]
    rfl
  · rw [if_neg (by omega)] at hword
    rw [if_neg h]
    refine State.swGet_congr hword rfl (hbase.trans ?_)
    unfold State.swBase
    by_cases hz : w % 16384 < (s.bank b).zeroRows
    · rw [if_pos hz, if_pos (by omega)]
    · rw [if_neg hz, if_neg (by omega)]

theorem State.swGet_clearRound_ne {s : State} {b c : Nat} (h : c ≠ b) {w : Nat} (hw : w < 131072) : (s.clearRound b).swGet c w = s.swGet c w := by
  have hword := s.sword_clearRound b (131072 * c + w)
  rw [if_neg (by omega)] at hword
  refine State.swGet_congr hword rfl ?_
  unfold State.swBase
  rw [State.bank_clearRound_ne _ h]

/-! The scrub (R182). -/

/-- The bank after a scrub visit of word `w`. -/
def Bank.scrubbed (k : Bank) (w : Nat) (q : Bool) : Bank :=
  { k with cur := none, scrubOffer := false, scrubQ := k.scrubQ.filter (· != w), scrubPos := if q then k.scrubPos else (w + 1) % 131072 }

/-- The words after a scrub's read, and its rewrite of a corrected one. -/
def State.scrubRead (s : State) (b w : Nat) (hits g1 g2 : BitVec 39) : State :=
  if (s.swRead b w hits g1 g2).2.fixed then (s.swRead b w hits g1 g2).1.swPut b w (s.swRead b w hits g1 g2).2.d 0 else (s.swRead b w hits g1 g2).1

section Scrub
variable (s : State) (b w : Nat) (q : Bool) (hits g1 g2 : BitVec 39)

/-- The state after the words were read, the visit over. -/
def State.scrubOver (u : State) (b w : Nat) (q : Bool) : State :=
  let v := u.setBank b ((u.bank b).scrubbed w q)
  if !q && w == 131071 then v.rsetf (sb b 0x18) 0 16 (v.rf (sb b 0x18) 0 16 + 1) else v

theorem State.scrubOver_leaves (u : State) (b w : Nat) (q : Bool) : (u.scrubOver b w q).bank b = (u.bank b).scrubbed w q ∧
    ∀ k, (u.scrubOver b w q).swGet b k = u.swGet b k := by
  let v := u.setBank b ((u.bank b).scrubbed w q)
  have hv : v.bank b = (u.bank b).scrubbed w q := u.bank_setBank_same b _
  have hground : (v.bank b).ground = (u.bank b).ground := by rw [hv]; rfl
  unfold State.scrubOver
  dsimp only
  split
  · exact ⟨hv, fun k => State.swGet_of_swords (s := u) (u := v.rsetf _ _ _ _) rfl hground k⟩
  · exact ⟨hv, fun k => State.swGet_of_swords (s := u) (u := v) rfl hground k⟩

theorem State.scrubDo_eq : s.scrubDo b w q hits g1 g2 = (s.scrubRead b w hits g1 g2).scrubOver b w q := rfl

theorem State.scrubRead_bank {β : Type} (π : Bank → β) (hπ : ∀ k l, π { k with scrubQ := l } = π k) : π ((s.scrubRead b w hits g1 g2).bank b) = π (s.bank b) := by
  have h := s.swRead_bank b w hits g1 g2 π hπ b
  unfold State.scrubRead
  split <;> exact h

theorem State.swGet_scrubRead_ne {k : Nat} (h : k ≠ w) : (s.scrubRead b w hits g1 g2).swGet b k = s.swGet b k := by
  have hkey : 131072 * b + k ≠ 131072 * b + w := by omega
  have hread := (s.swGet_swRead b w hits g1 g2 b k).trans (s.swGet_swHit_ne hits hkey)
  unfold State.scrubRead
  split
  · exact (State.swGet_swPut_ne _ _ _ hkey).trans hread
  · exact hread

end Scrub

end Machine

/-- Settles O24. The Porter's frame (`PorterFrame`) holds of a decision, of a lock taken and of a waking; so a round's cases are those of `exec_bankRound`. -/
theorem porterRounds : Obligations.PorterRounds := by
  unfold Obligations.PorterRounds
  refine ⟨fun b s => ⟨fun w hw hwho => ?_, fun w hcur hnext hreq htc he => ?_, fun hcur hnext => ⟨fun hnone => ?_, fun hsome => ?_⟩⟩,
    fun b s w id f hcur hnext hwho hf hiss hlock => ?_, fun b s hdom hcur hclear hpos hrows => ?_,
    fun b hits g1 g2 s => ⟨fun hdom => ?_, fun hdom hcur => ?_, fun w q hdom hcur hword hw => ?_⟩⟩
  · have hidle : s.maintOver b = s := State.maintOver_other (by simpa [hw] using hwho)
    refine (if_pos (show ((s.maintOver b).bank b).cur.isSome = true by rw [hidle, hw]; rfl)).trans ?_
    exact ok_congr hidle
  · have hidle : s.maintOver b = s := State.maintOver_other (by simp [hcur])
    have hexec : exec (.bankRound b) s = .next (s.rounded b w) := (exec_bankRound hidle hcur).trans (by rw [hnext])
    obtain ⟨h1, h2, h3, h4, h5, h6, h7⟩ := s.rounded_shows b.isLt hreq htc he
    exact .of_eq hexec ⟨h1, h2, h3, h4, h5, h6, h7, (s.rounded_frame b.isLt w).others⟩
  · have hidle : s.maintOver b = s := State.maintOver_other (by simp [hcur])
    let u := s.setBank b { s.bank b with next := none }
    have hexec : exec (.bankRound b) s = .next u := by
      refine (exec_bankRound hidle hcur).trans ?_
      rw [hnext, State.decision_none hnone]
    have hu : u.bank b = { s.bank b with next := none } := s.bank_setBank_same b _
    refine .of_eq hexec ⟨by rw [hu]; exact hcur, .of_regs rfl, ((Ev.refl (fieldMask [.banks]) s).setBank (by rfl) _ _).only_mask⟩
  · have hidle : s.maintOver b = s := State.maintOver_other (by simp [hcur])
    let u := s.setBank b { s.bank b with next := none }
    obtain ⟨c, l, hc⟩ := List.exists_cons_of_ne_nil hsome
    let w := l.foldl (u.better b) c
    have hdec : (u.decision b).2 = some w := by rw [State.decision_some hc]
    have hexec : exec (.bankRound b) s = .next ((u.decision b).1.rounded b w) := by
      refine (exec_bankRound hidle hcur).trans ?_
      rw [hnext]
      dsimp only
      rw [hdec]
    obtain ⟨hmem, hbest⟩ := u.winner_best b c l
    refine .of_eq hexec ⟨w, ?_, ?_, fun x hx => ?_⟩
    · obtain ⟨nx, last, rot, hround⟩ := (u.decision b).1.rounded_bank b w
      obtain ⟨⟨wk, hwoken⟩, -, -⟩ := (u.decision b).1.grant_woken b.isLt w
      obtain ⟨⟨lk, lin, hlocked⟩, -, -⟩ := (u.decision b).1.grantLocked_leaves b w
      rw [hround, hwoken, hlocked]
    · rw [hc]; exact hmem
    · rw [hc] at hx; exact hbest x hx
  · have hidle : s.maintOver b = s := State.maintOver_other (by simp [hcur])
    have hexec : exec (.bankRound b) s = .next (s.rounded b w) := (exec_bankRound hidle hcur).trans (by rw [hnext])
    have hof : s.flightOf w = some f := by unfold State.flightOf; rw [hwho]; exact hf
    exact .of_eq hexec (s.rounded_lock b.isLt hof hiss hlock)
  · obtain ⟨t, hexec, hframe⟩ : ∃ t, exec (.bankRound b) s = .next t ∧ PorterFrame b (s.clearRound b) t := by
      have hover := State.maintOver_clear hdom hcur hclear
      have hself := s.bank_clearRound_self b
      have hnow := exec_bankRound hover (by rw [hself])
      let u := (s.clearRound b).setBank b { (s.clearRound b).bank b with next := none }
      have hput : PorterFrame b (s.clearRound b) u := (PorterFrame.refl b _).setBank _ rfl
      have hdec : PorterFrame b (s.clearRound b) (u.decision b).1 := hput.trans (u.decision_leaves b).2.1
      cases hnext : (s.clearRound b).nextWin b with
      | some w =>
        rw [hnext] at hnow
        exact ⟨_, hnow, State.rounded_frame _ b.isLt w⟩
      | none =>
        rw [hnext] at hnow
        cases hwin : (u.decision b).2 with
        | some w =>
          dsimp only at hnow
          rw [hwin] at hnow
          exact ⟨_, hnow, hdec.trans (State.rounded_frame _ b.isLt w)⟩
        | none =>
          dsimp only at hnow
          rw [hwin] at hnow
          exact ⟨_, hnow, hdec⟩
    refine .of_eq hexec ⟨?_, fun w hw => (hframe.swGet b w).trans (State.swGet_clearRound_self hrows hw),
      fun c w hc hw => (hframe.swGet c w).trans (State.swGet_clearRound_ne hc hw)⟩
    have hpos' := congrArg (fun p : Nat × Nat × Nat => p.2.2) hframe.ground
    exact hpos'.trans (congrArg Bank.clearPos (s.bank_clearRound_self b))
  · exact if_pos hdom
  · let k : Bank := { s.bank b with scrubOffer := (s.scrubWord b).isSome }
    have hexec : exec (.scrubVisit b hits g1 g2) s = .next (s.setBank b k) := (if_neg (by simpa using hdom)).trans (if_neg hcur)
    have hbank : (s.setBank b k).bank b = k := s.bank_setBank_same b k
    refine .of_eq hexec ⟨by rw [hbank], ?_, fun c hc => s.bank_setBank_ne _ _ _ hc, .of_regs rfl, ((Ev.refl (fieldMask [.banks]) s).setBank (by rfl) _ _).only_mask⟩
    rw [hbank]
    change (s.scrubWord b).isSome = true ↔ _
    unfold State.scrubWord
    cases hq : (s.bank b).scrubQ with
    | cons w q => simp
    | nil => cases hen : s.rb (sb b 8) 0 <;> simp
  · have hexec : exec (.scrubVisit b hits g1 g2) s = .next ((s.scrubRead b w hits g1 g2).scrubOver b w q) := by
      refine ((if_neg (by simpa using hdom)).trans (if_pos hcur)).trans ?_
      rw [hword]
      exact ok_congr (s.scrubDo_eq b w q hits g1 g2)
    obtain ⟨hbank, hget⟩ := (s.scrubRead b w hits g1 g2).scrubOver_leaves b w q
    refine .of_eq hexec ⟨?_, ?_, ?_, fun hq => ?_, fun h1 h2 => ?_, fun h1 => ?_, fun k hk hne => ?_, ?_⟩
    · rw [hbank]; rfl
    · rw [hbank]; rfl
    · rw [hbank]; simp [Bank.scrubbed]
    · rw [hbank, hq]; rfl
    · rw [hget]
      unfold State.scrubRead
      rw [State.swRead_fixed h1 h2]
      exact State.swGet_swPut_self _ _ _ _ _
    · rw [hget]
      unfold State.scrubRead
      rw [State.swRead_clean h1]
      exact s.swGet_swHit_self b w hits
    · rw [hget]; exact s.swGet_scrubRead_ne b w hits g1 g2 hne
    · exact (execScrubVisit_ev _ _ _ _ (Ev.refl (fieldMask [.regs, .banks, .swords]) s) (by rfl)).only hexec

end Sys2Proof
end

section
/-! The bank's controls (R183 to R185, R190, R191, R198, R200): handovers, ownership, requesters and clears. -/

namespace Sys2Proof

open Machine

namespace Machine

/-! A broken lock (R192, R194). -/

theorem State.breakLock_leaves (s : State) (b : Nat) :
    ((s.breakLock b).bank b).lock = none ∧ (s.breakLock b).rget (sb b 0) = s.rget (sb b 0) ∧ (s.breakLock b).rget (sb b 4) = s.rget (sb b 4) ∧
    (s.breakLock b).rget (sb b 0xC) = s.rget (sb b 0xC) ∧ (s.breakLock b).ownPkg = s.ownPkg ∧ ((s.breakLock b).bank b).before = (s.bank b).before := by
  cases h : (s.bank b).lock with
  | none =>
    have hidle : s.breakLock b = s := by unfold State.breakLock; rw [h]
    rw [hidle]
    exact ⟨h, rfl, rfl, rfl, rfl, rfl⟩
  | some iss =>
    let k : Bank := { s.bank b with lock := none }
    let u := s.setBank b k
    let u1 := u.rsetb (sb b 0x20) 31 false
    let u2 := u1.sticky (sb b 0x20) 30
    let u3 := u2.count (sb b 0x28) 8 8 1
    have hu : u3.bank b = k := s.bank_setBank_same b k
    have hget (g : Reg) (h20 : g.addr ≠ (sb b 0x20).addr) (h28 : g.addr ≠ (sb b 0x28).addr) : u3.rget g = s.rget g :=
      (State.rget_count_ne u2 _ _ _ _ _ h28).trans ((State.rget_rput_ne u1 _ _ _ h20).trans (State.rget_rput_ne u _ _ _ h20))
    have hpkg : u3.ownPkg = s.ownPkg := by
      unfold State.ownPkg State.rf
      have haddr : (⟨.chv, 0, 0x900⟩ : Reg).addr = 0x20070900 := rfl
      rw [hget _ (by rw [haddr, sb_addr]; omega) (by rw [haddr, sb_addr]; omega)]
    have hbank : (u3.setBank b { u3.bank b with broke := true }).bank b = { k with broke := true } := (u3.bank_setBank_same b _).trans (by rw [hu])
    have hbreak : s.breakLock b = u3.setBank b { u3.bank b with broke := true } := by unfold State.breakLock; rw [h]; rfl
    rw [hbreak]
    refine ⟨(congrArg Bank.lock hbank).trans rfl, hget _ (sb_ne (by decide)) (sb_ne (by decide)), hget _ (sb_ne (by decide)) (sb_ne (by decide)),
      hget _ (sb_ne (by decide)) (sb_ne (by decide)), hpkg, (congrArg Bank.before hbank).trans rfl⟩

/-- The next owner's permission is read from SCR_HAND and the package's number. -/
theorem State.nextPermits_congr {s u : State} {b : Nat} (hreg : u.rget (sb b 4) = s.rget (sb b 4)) (hpkg : u.ownPkg = s.ownPkg) (iss : Issuer) :
    u.nextPermits b iss = s.nextPermits b iss := by
  unfold State.nextPermits State.permits
  rw [hreg, hpkg]

/-! Handovers (R185). -/

/-- SCR_HAND after GO. -/
def handWord (v : Word) : RegVal := (v.setWidth 64 &&& 0x1CFFFF8F) ||| 0x20000000

theorem handWord_bit (v : Word) : bit (handWord v) 29 = true := by
  simp [handWord, bit]

theorem handWord_fld (v : Word) {lo len : Nat} (hm : ∀ j < len, bit (0x1CFFFF8F : RegVal) (lo + j) = true) (hlo : lo + len ≤ 29) :
    fld (handWord v) lo len = fld v lo len := by
  refine fld_congr (fun j hj => ?_)
  have hk : lo + j < 64 := by omega
  have hpend : bit (0x20000000 : RegVal) (lo + j) = false := by
    have hlt : lo + j < 29 := by omega
    revert hlt
    generalize lo + j = i
    intro hlt
    interval_cases i <;> rfl
  rw [handWord, bit_or, bit_and, hpend, hm j hj, bit_setWidth _ _ hk, Bool.and_true, Bool.or_false]

/-- The bank's state right after GO. -/
def State.handStarted (s : State) (b : Nat) (v : Word) : State :=
  let s1 := s.rput (sb b 4) (handWord v)
  let k := s1.bank b
  let inRound := [k.cur, k.next].filterMap (fun w => match w with
    | some w => match w.who with | .flight id => some id | _ => none
    | none => none)
  s1.setBank b { k with before := inRound ++ (s.waiting b).map (·.id), force := bit v 30 }

section Hand
variable {s : State} {b : Nat} {v : Word}

theorem State.handWrite_refused (h : ¬ (bit v 31 = true ∧ fld v 26 3 ≤ 4 ∧ s.handing b = false)) : s.handWrite b v = s.viol .sbank b := by
  refine if_pos ?_
  cases h31 : bit v 31
  · simp
  · cases hh : s.handing b
    · have h4 : 4 < fld v 26 3 := by
        by_contra hle
        exact h ⟨h31, by omega, hh⟩
      simp [h4]
    · simp

theorem State.handWrite_starts (h31 : bit v 31 = true) (h4 : fld v 26 3 ≤ 4) (hh : s.handing b = false) :
    s.handWrite b v = match (s.bank b).lock with
      | some h => if bit v 30 && !(s.handStarted b v).nextPermits b h then (s.handStarted b v).breakLock b else s.handStarted b v
      | none => s.handStarted b v :=
  if_neg (by simp [h31, hh, h4])

end Hand

/-! A new owner (R185 step 5). -/

theorem ownOfHand_fld (v : RegVal) : fld (ownOfHand v) 29 3 = fld v 26 3 ∧ fld (ownOfHand v) 12 12 = fld v 12 12 ∧ fld (ownOfHand v) 10 2 = fld v 10 2 ∧
    fld (ownOfHand v) 7 3 = fld v 7 3 ∧ fld (ownOfHand v) 0 4 = fld v 0 4 := by
  have hput (j : Nat) (hj : j < 64) : bit (put 29 (fld v 26 3)) j = (decide (29 ≤ j) && (fld v 26 3).testBit (j - 29)) := by
    rw [put, bit_ofNat64 _ hj, Nat.testBit_shiftLeft]
  have hmask (j : Nat) (hj : j < 24) (hm : bit (0xFFFF8F : RegVal) j = true) : bit (ownOfHand v) j = bit v j := by
    rw [ownOfHand, bit_or, bit_and, hput j (by omega), hm, decide_eq_false (by omega)]
    simp
  refine ⟨?_, fld_congr (fun j hj => hmask _ (by omega) ?_), fld_congr (fun j hj => hmask _ (by omega) ?_), fld_congr (fun j hj => hmask _ (by omega) ?_),
    fld_congr (fun j hj => hmask _ (by omega) ?_)⟩
  · apply Nat.eq_of_testBit_eq
    intro j
    rw [testBit_fld]
    change (decide (j < 3) && bit (ownOfHand v) (29 + j)) = _
    by_cases hj : j < 3
    · have hm : bit (0xFFFF8F : RegVal) (29 + j) = false := by interval_cases j <;> rfl
      rw [ownOfHand, bit_or, bit_and, hput _ (by omega), hm, Nat.add_sub_cancel_left]
      simp [hj]
    · rw [Nat.testBit_lt_two_pow (lt_of_lt_of_le (fld_lt v 26 3) (Nat.pow_le_pow_right (by decide) (Nat.le_of_not_lt hj)))]
      simp [hj]
  all_goals interval_cases j <;> rfl

theorem State.newOwner_leaves (s : State) (b : Nat) (own : RegVal) :
    (s.newOwner b own).rget (sb b 0) = own ∧ (s.newOwner b own).rb (sb b 0xC) 26 = true ∧
    (s.newOwner b own).rf (sb b 0xC) 0 16 = (s.rf (sb b 0xC) 0 16 + 1) % 65536 ∧ (s.newOwner b own).rb (sb b 0xC) 27 = s.rb (sb b 0xC) 27 := by
  let v := setFld (setBit (s.rget (sb b 0xC)) 26 true) 0 16 (fld (s.rget (sb b 0xC)) 0 16 + 1)
  have hst : (s.newOwner b own).rget (sb b 0xC) = v := State.rget_rput_same _ _ _
  refine ⟨?_, ?_, ?_, ?_⟩
  · exact (State.rget_rput_ne (s.rput (sb b 0) own) _ _ _ (sb_ne (by decide))).trans (s.rget_rput_same _ _)
  · unfold State.rb
    rw [hst, bit_setFld _ _ _ _ _ (by decide), bit_setBit_self _ _ _ (by decide)]
  · unfold State.rf
    rw [hst, fld_setFld_self _ _ _ _ (by decide)]
    rfl
  · unfold State.rb
    rw [hst, bit_setFld _ _ _ _ _ (by decide), bit_setBit_ne _ _ _ _ (by decide)]

/-! GO (R185 steps 1 to 3). -/

theorem State.handStarted_bank (s : State) (b : Nat) (v : Word) :
    ((s.handStarted b v).bank b).lock = (s.bank b).lock ∧ ∀ f ∈ s.waiting b, f.id ∈ ((s.handStarted b v).bank b).before := by
  have hbank := State.bank_setBank_same (s.rput (sb b 4) (handWord v)) b
  refine ⟨(congrArg Bank.lock (hbank _)).trans rfl, fun f hf => ?_⟩
  rw [show ((s.handStarted b v).bank b).before = _ ++ (s.waiting b).map (·.id) from congrArg Bank.before (hbank _)]
  exact List.mem_append_right _ (List.mem_map.mpr ⟨f, hf, rfl⟩)

/-- R185: what SCR_HAND shows of a handover under way, which leaves the owner. -/
structure HandShown (s t : State) (b : Nat) (v : Word) : Prop where
  pend : t.handing b = true
  owner : t.rf (sb b 4) 26 3 = fld v 26 3
  pkg : t.rf (sb b 4) 12 12 = fld v 12 12
  die : t.rf (sb b 4) 10 2 = fld v 10 2
  region : t.rf (sb b 4) 7 3 = fld v 7 3
  cluster : t.rf (sb b 4) 0 4 = fld v 0 4
  kept : t.rget (sb b 0) = s.rget (sb b 0)

theorem State.handStarted_shows {s t : State} {b : Nat} {v : Word} (h4 : t.rget (sb b 4) = (s.handStarted b v).rget (sb b 4))
    (h0 : t.rget (sb b 0) = (s.handStarted b v).rget (sb b 0)) : HandShown s t b v := by
  have hword : t.rget (sb b 4) = handWord v := h4.trans (s.rget_rput_same _ _)
  have hfld {lo len : Nat} (hm : ∀ j < len, bit (0x1CFFFF8F : RegVal) (lo + j) = true) (hlo : lo + len ≤ 29) : t.rf (sb b 4) lo len = fld v lo len :=
    (congrArg (fun w => fld w lo len) hword).trans (handWord_fld v hm hlo)
  exact ⟨(congrArg (fun w => bit w 29) hword).trans (handWord_bit v), hfld (by decide) (by decide), hfld (by decide) (by decide), hfld (by decide) (by decide),
    hfld (by decide) (by decide), hfld (by decide) (by decide), h0.trans (s.rget_rput_ne _ _ _ (sb_ne (by decide)))⟩

/-- R185: with FORCE the lock of a holder that the next owner does not permit is broken; any other stands. -/
theorem State.handWrite_shows {s : State} {b : Nat} {v : Word} (h31 : bit v 31 = true) (h4 : fld v 26 3 ≤ 4) (hh : s.handing b = false) :
    let t := s.handWrite b v
    HandShown s t b v ∧ (bit v 30 = false → (t.bank b).lock = (s.bank b).lock) ∧
    (∀ h, (s.bank b).lock = some h → bit v 30 = true → t.nextPermits b h = false → (t.bank b).lock = none) ∧ ∀ f ∈ s.waiting b, f.id ∈ (t.bank b).before := by
  obtain ⟨hlock, hbefore⟩ := s.handStarted_bank b v
  obtain ⟨hfree, h0, h4', -, hpkg, hbf⟩ := (s.handStarted b v).breakLock_leaves b
  dsimp only
  rw [State.handWrite_starts h31 h4 hh]
  cases hx : (s.bank b).lock with
  | none => exact ⟨State.handStarted_shows rfl rfl, fun _ => hlock.trans hx, fun x hn => (by cases hn), hbefore⟩
  | some x =>
    dsimp only
    split
    · next hc =>
      rw [Bool.and_eq_true] at hc
      refine ⟨State.handStarted_shows h4' h0, fun hno => ?_, fun _ _ _ _ => hfree, fun f hf => by rw [hbf]; exact hbefore f hf⟩
      rw [hc.1] at hno
      cases hno
    · next hc =>
      refine ⟨State.handStarted_shows rfl rfl, fun _ => hlock.trans hx, fun y hy hforce hperm => absurd ?_ hc, hbefore⟩
      obtain rfl := Option.some.inj hy
      rw [hforce, hperm]
      rfl

/-! HDONE (R185 steps 4 and 5). -/

/-- The lock before OWNER changes: of a holder that the next owner does not permit it is broken. -/
def State.lockCleared (s : State) (b : Nat) : State :=
  match (s.bank b).lock with
  | some h => if s.nextPermits b h then s else s.breakLock b
  | none => s

theorem State.lockCleared_leaves (s : State) (b : Nat) : (∀ x, ((s.lockCleared b).bank b).lock = some x → s.nextPermits b x = true) ∧
    (s.lockCleared b).rget (sb b 4) = s.rget (sb b 4) ∧ (s.lockCleared b).rget (sb b 0xC) = s.rget (sb b 0xC) := by
  obtain ⟨hfree, -, h4, hC, -, -⟩ := s.breakLock_leaves b
  unfold State.lockCleared
  cases hx : (s.bank b).lock with
  | none => exact ⟨fun x h => (by rw [hx] at h; cases h), rfl, rfl⟩
  | some y =>
    dsimp only
    split
    · next hp => exact ⟨fun x h => (by rw [hx] at h; cases h; exact hp), rfl, rfl⟩
    · exact ⟨fun x h => (by rw [hfree] at h; cases h), h4, hC⟩

/-- The registers once the handover is complete. -/
def State.handedRegs (s : State) (b : Nat) : State :=
  ((s.lockCleared b).newOwner b (ownOfHand ((s.lockCleared b).rget (sb b 4)))).rsetb (sb b 4) 29 false

theorem State.handedRegs_shows (s : State) (b : Nat) : let t := s.handedRegs b
    t.rb (sb b 4) 29 = false ∧ t.rb (sb b 0xC) 26 = true ∧ t.rf (sb b 0xC) 0 16 = (s.rf (sb b 0xC) 0 16 + 1) % 65536 ∧
    t.rget (sb b 0) = ownOfHand (s.rget (sb b 4)) := by
  obtain ⟨-, h4, hC⟩ := s.lockCleared_leaves b
  let u := s.lockCleared b
  obtain ⟨hown, h26, hgen, -⟩ := u.newOwner_leaves b (ownOfHand (u.rget (sb b 4)))
  have hne (off : Nat) (hoff : off ≠ 4) : (s.handedRegs b).rget (sb b off) = (u.newOwner b (ownOfHand (u.rget (sb b 4)))).rget (sb b off) :=
    State.rget_rput_ne _ _ _ _ (sb_ne hoff)
  refine ⟨State.rb_rsetb_self _ _ _ _ (by decide), ?_, ?_, ?_⟩
  · exact (congrArg (fun v => bit v 26) (hne 0xC (by decide))).trans h26
  · refine (congrArg (fun v => fld v 0 16) (hne 0xC (by decide))).trans (hgen.trans ?_)
    exact congrArg (fun v => (fld v 0 16 + 1) % 65536) hC
  · exact (hne 0 (by decide)).trans (hown.trans (congrArg ownOfHand h4))

theorem State.bank_handedRegs (s : State) (b : Nat) : (s.handedRegs b).bank b = (s.lockCleared b).bank b := rfl

/-! Requesters (R190). -/

theorem State.prtWrite_third {s : State} {b n : Nat} {v : Word} (h31 : bit v 31 = true)
    (h : 2 ≤ ((List.range 20).filter (fun m => m != n && s.rb (prtReq b m) 31)).length) : s.prtWrite b n v = (s.sticky (sb b 0x28) 30).viol .sbank b :=
  if_pos (by simpa [h31] using h)

/-- PRT_REQn after a write: VEN, WAIT and PRI of the value, of which 7 is 6, and the wait count as it was. -/
def prtWord (old : RegVal) (v : Word) : RegVal :=
  setFld (setFld (setBit old 31 (bit v 31)) 8 6 (fld v 8 6)) 0 3 (if fld v 0 3 = 7 then 6 else fld v 0 3)

theorem prtWord_fields (old : RegVal) (v : Word) : bit (prtWord old v) 31 = bit v 31 ∧ fld (prtWord old v) 8 6 = fld v 8 6 ∧
    fld (prtWord old v) 0 3 = min 6 (fld v 0 3) ∧ fld (prtWord old v) 16 6 = fld old 16 6 := by
  have h6 : fld v 8 6 < 2 ^ 6 := fld_lt _ _ _
  have h3 : fld v 0 3 < 2 ^ 3 := fld_lt _ _ _
  unfold prtWord
  refine ⟨?_, ?_, ?_, ?_⟩
  · rw [bit_setFld _ _ _ _ _ (by decide), bit_setFld _ _ _ _ _ (by decide), bit_setBit_self _ _ _ (by decide)]
  · rw [fld_setFld_ne _ _ _ _ _ _ (by decide), fld_setFld_self _ _ _ _ (by decide), Nat.mod_eq_of_lt h6]
  · rw [fld_setFld_self _ _ _ _ (by decide)]
    split <;> omega
  · rw [fld_setFld_ne _ _ _ _ _ _ (by decide), fld_setFld_ne _ _ _ _ _ _ (by decide), setBit, fld_setFld_ne _ _ _ _ _ _ (by decide)]

theorem State.prtWrite_done {s : State} {b n : Nat} {v : Word}
    (h : ¬ (bit v 31 = true ∧ 2 ≤ ((List.range 20).filter (fun m => m != n && s.rb (prtReq b m) 31)).length)) :
    s.prtWrite b n v = s.rput (prtReq b n) (prtWord (s.rget (prtReq b n)) v) :=
  if_neg (by simpa using h)

/-! Clears (R198). -/

/-- What a clear's write of SCR_CTL stores: the other fields as they stand. -/
theorem bit_clearWord (s : State) (b : Nat) {j : Nat} (hj : j < 32) :
    bit (BitVec.ofNat 32 (s.rf (sb b 8) 0 3 ||| 2)) j = ((decide (j < 3) && s.rb (sb b 8) j) || decide (j = 1)) := by
  unfold bit
  rw [BitVec.getLsbD_ofNat, decide_eq_true hj, Bool.true_and, Nat.testBit_or, State.rf, testBit_fld, show (2 : Nat) = 2 ^ 1 from rfl, Nat.testBit_two_pow, Nat.zero_add]
  simp [State.rb, bit, eq_comm]

theorem State.scrCtlWrite_clear {s : State} {b : Nat} (h : s.rf (sb b 0) 29 3 = 0) :
    s.scrCtlWrite b (BitVec.ofNat 32 (s.rf (sb b 8) 0 3 ||| 2)) =
      (s.writePlain (sb b 8) ((BitVec.ofNat 32 (s.rf (sb b 8) 0 3 ||| 2)).setWidth 64)).startClear b :=
  (if_pos (by rw [bit_clearWord s b (by decide)]; simp)).trans (if_pos h)

theorem State.scrCtlWrite_owned {s : State} {b : Nat} (h : s.rf (sb b 0) 29 3 ≠ 0) :
    s.scrCtlWrite b (BitVec.ofNat 32 (s.rf (sb b 8) 0 3 ||| 2)) = s.viol .sbank b :=
  (if_pos (by rw [bit_clearWord s b (by decide)]; simp)).trans (if_neg h)

/-- What SCR_CTL holds of the fields that a clear's write leaves as they are. -/
theorem State.rb_clearWrite (s : State) (b : Nat) {j : Nat} (hj : j = 0 ∨ j = 2) :
    (s.writePlain (sb b 8) ((BitVec.ofNat 32 (s.rf (sb b 8) 0 3 ||| 2)).setWidth 64)).rb (sb b 8) j = s.rb (sb b 8) j := by
  have hinfo : (sb b 8).info = some { rw := 0x5, wo := 0x2, rst := 0x5 } := rfl
  have hmask : bit (0x5 : RegVal) j = true := by rcases hj with rfl | rfl <;> rfl
  refine (s.rb_writePlain_rw _ hinfo hmask BitVec.getLsbD_zero).trans ?_
  rw [bit_setWidth _ _ (by omega), bit_clearWord s b (by omega)]
  rcases hj with rfl | rfl <;> simp

/-- A bank whose clear has ended. -/
def State.clearEnded (u : State) (b : Nat) : State :=
  (u.setBank b { u.bank b with base := 0, zeroRows := 0, clearing := false }).rsetb (sb b 0xC) 27 true

theorem State.clearEnded_bank (u : State) (b : Nat) : (u.clearEnded b).bank b = { u.bank b with base := 0, zeroRows := 0, clearing := false } :=
  u.bank_setBank_same b _

/-- An owner that a load left for the bank. -/
def ownSet (w : Word) : RegVal := w.setWidth 64 &&& 0xE0FFFF8F

theorem fld_ownSet (w : Word) : fld (ownSet w) 29 3 = fld w 29 3 := by
  refine fld_congr (fun j hj => ?_)
  have hm : bit (0xE0FFFF8F : RegVal) (29 + j) = true := by interval_cases j <;> rfl
  rw [ownSet, bit_and, hm, Bool.and_true, bit_setWidth _ _ (by omega)]

theorem State.applySetOwn_none {u : State} {b : Nat} (h : (u.bank b).setOwn = none) : u.applySetOwn b = u := by
  unfold State.applySetOwn
  rw [h]

theorem State.applySetOwn_some {u : State} {b : Nat} {w : Word} (h : (u.bank b).setOwn = some w) :
    u.applySetOwn b = if fld (ownSet w) 29 3 = 0 then u.setBank b { u.bank b with setOwn := none }
      else (u.setBank b { u.bank b with setOwn := none }).newOwner b (ownSet w) := by
  unfold State.applySetOwn
  rw [h]
  rfl

/-- R373: the owner that a load left is applied, and only that. -/
theorem State.applySetOwn_leaves (u : State) (b : Nat) : let t := u.applySetOwn b
    t.bank b = { u.bank b with setOwn := none } ∧ (∀ c, c ≠ b → t.bank c = u.bank c) ∧ t.swords = u.swords ∧ t.rb (sb b 0xC) 27 = u.rb (sb b 0xC) 27 ∧
    ∀ w, (u.bank b).setOwn = some w → fld w 29 3 ≠ 0 → t.rf (sb b 0) 29 3 = fld w 29 3 ∧ t.rb (sb b 0xC) 26 = true := by
  cases h : (u.bank b).setOwn with
  | none =>
    rw [State.applySetOwn_none h]
    exact ⟨by rw [← h], fun _ _ => rfl, rfl, rfl, fun w hw => by cases hw⟩
  | some w =>
    have hself := u.bank_setBank_same b { u.bank b with setOwn := none }
    rw [State.applySetOwn_some h]
    dsimp only
    split
    · next h0 =>
      refine ⟨hself, fun c hc => u.bank_setBank_ne _ _ _ hc, rfl, rfl, fun x hx hne => absurd ?_ hne⟩
      cases hx
      rwa [fld_ownSet] at h0
    · obtain ⟨hown, h26, -, h27⟩ := (u.setBank b { u.bank b with setOwn := none }).newOwner_leaves b (ownSet w)
      refine ⟨hself, fun c hc => u.bank_setBank_ne _ _ _ hc, rfl, h27, fun x hx _ => ⟨?_, h26⟩⟩
      cases hx
      exact (congrArg (fun v => fld v 29 3) hown).trans (fld_ownSet w)

/-- No round of requester 19 begins or ends a clear, or writes a register. -/
theorem State.maintRound_leaves (s : State) (b : Nat) : (s.maintRound b).regs = s.regs ∧ ((s.maintRound b).bank b).clearing = (s.bank b).clearing := by
  have hset (u : State) (k : Bank) (hu : k.clearing = (s.bank b).clearing) : ((u.setBank b k).bank b).clearing = (s.bank b).clearing :=
    (congrArg Bank.clearing (u.bank_setBank_same b k)).trans hu
  unfold State.maintRound
  cases s.maint b with
  | none => exact ⟨rfl, rfl⟩
  | some m =>
    cases m with
    | clear => exact ⟨rfl, hset s _ rfl⟩
    | march =>
      dsimp only
      split
      · exact ⟨rfl, hset s.powerUp { s.bank b with base := s.epoch + 1, zeroRows := 0, testPos := 1 } rfl⟩
      · exact ⟨rfl, hset s _ rfl⟩
    | read =>
      let k : Bank := { s.bank b with testPos := (s.bank b).testPos + 1, testBad := (s.bank b).testBad + b2n (synOf (s.swGet b (s.bank b).testPos).2 != .clean) }
      have hk : ((s.setBank b k).bank b).clearing = (s.bank b).clearing := hset s k rfl
      dsimp only
      split
      · obtain ⟨q, hq⟩ := (s.setBank b k).bank_queueWord b (s.bank b).testPos b
        exact ⟨rfl, (congrArg Bank.clearing hq).trans hk⟩
      · exact ⟨rfl, hk⟩

theorem State.maintOver_leaves (s : State) (b : Nat) : (s.maintOver b).regs = s.regs ∧ ((s.maintOver b).bank b).clearing = (s.bank b).clearing := by
  unfold State.maintOver
  split
  · obtain ⟨hregs, hclear⟩ : (if s.dom (bankDom b) = 0 then s.maintRound b else s).regs = s.regs ∧
        ((if s.dom (bankDom b) = 0 then s.maintRound b else s).bank b).clearing = (s.bank b).clearing := by
      split
      · exact s.maintRound_leaves b
      · exact ⟨rfl, rfl⟩
    exact ⟨hregs, (congrArg Bank.clearing (State.bank_setBank_same _ b _)).trans hclear⟩
  · exact ⟨rfl, rfl⟩

theorem State.dom_of_regs {s u : State} (h : u.regs = s.regs) (n : Nat) : u.dom n = s.dom n := by
  unfold State.dom
  exact State.rf_of_regs h _ _ _

theorem State.clearRound_only (s : State) (b : Nat) : Only [.regs, .banks, .swords] s (s.clearRound b) :=
  (State.roundOver_ev b (((Ev.refl (fieldMask [.regs, .banks, .swords]) s).setBank (by rfl) _ _).set_swords (by rfl) (fun h => Store.wf_filter _ _ h)) (by rfl)).only_mask

/-- R198, R373: the state once a clear has ended from `u`, and an owner that a load left is applied. -/
theorem State.clearEnded_leaves (u : State) (b : Nat) : let t := (u.clearEnded b).applySetOwn b
    (t.bank b).clearing = false ∧ (t.bank b).setOwn = none ∧ t.rb (sb b 0xC) 27 = true ∧ (∀ c w, c ≠ b → t.swGet c w = u.swGet c w) ∧
    (∀ w < 131072, 16384 ≤ (u.bank b).zeroRows → t.swGet b w = u.swGet b w) ∧ ((u.bank b).setOwn = none → KeepRegs [sb b 0xC] u t) ∧
    (∀ w, (u.bank b).setOwn = some w → fld w 29 3 ≠ 0 → t.rf (sb b 0) 29 3 = fld w 29 3 ∧ t.rb (sb b 0xC) 26 = true) ∧ Only [.regs, .banks] u t := by
  obtain ⟨hbank, hothers, hwords, h27, hown⟩ := (u.clearEnded b).applySetOwn_leaves b
  have hended := u.clearEnded_bank b
  have hset : ((u.clearEnded b).bank b).setOwn = (u.bank b).setOwn := by rw [hended]
  rw [hended] at hbank
  dsimp only
  refine ⟨by rw [hbank], by rw [hbank], h27.trans (State.rb_rsetb_self _ _ _ _ (by decide)), fun c w hc => ?_, fun w hw hrows => ?_, fun hnone => ?_,
    fun w hw => hown w (hset.trans hw), ?_⟩
  · refine State.swGet_of_swords (s := u) (u := (u.clearEnded b).applySetOwn b) hwords (congrArg Bank.ground ?_) w
    exact (hothers c hc).trans (State.bank_setBank_ne _ _ _ _ hc)
  · refine State.swGet_congr (by unfold State.sword; rw [hwords]; rfl) rfl ?_
    unfold State.swBase
    rw [hbank, if_pos (by omega : w % 16384 < (u.bank b).zeroRows)]
    exact ite_self 0
  · rw [State.applySetOwn_none (hset.trans hnone)]
    exact KeepRegs.rsetb (t := u.setBank b { u.bank b with base := 0, zeroRows := 0, clearing := false }) (.of_regs rfl) _ _ (by simp)
  · exact (State.applySetOwn_ev _ (State.rsetb_ev _ _ _ ((Ev.refl (fieldMask [.regs, .banks]) u).setBank (by rfl) _ _) (by rfl)) (by rfl)).only_mask

end Machine

open Machine

theorem exec_hdone {b : Fin 128} {s : State} (hh : s.handing b = true) (hready : s.handReady b = true) :
    exec (.hdone b) s = .next ((s.handedRegs b).setBank b { (s.handedRegs b).bank b with before := [], force := false }) :=
  if_pos (by simp [hh, hready])

theorem exec_clrdone_waits {b : Fin 128} {s : State} (h : ((s.maintOver b).bank b).clearing = false ∨ s.dom (bankDom b) ≠ 0 ∨ ((s.maintOver b).bank b).clearPos < 16384) :
    exec (.clrdone b) s = .next s := by
  have hdom := State.dom_of_regs (s.maintOver_leaves b).1 (bankDom b)
  refine if_neg ?_
  rcases h with h | h | h
  · simp [h]
  · simp [hdom, h]
  · simp [Nat.not_le.mpr h]

theorem exec_clrdone {b : Fin 128} {s : State} (hclear : (s.bank b).clearing = true) (hdom : s.dom (bankDom b) = 0)
    (hpos : 16384 ≤ ((s.maintOver b).bank b).clearPos) : exec (.clrdone b) s = .next (((s.maintOver b).clearEnded b).applySetOwn b) := by
  obtain ⟨hregs, hcl⟩ := s.maintOver_leaves b
  have hdom' := (State.dom_of_regs hregs (bankDom b)).trans hdom
  exact if_pos (by simp [hcl, hclear, hpos, hdom'])

/-- Settles O25. A handover's lock is broken or stands (`handWrite_shows`, `lockCleared_leaves`); a clear ends the same whether its last round has just
been performed or not (`clearEnded_leaves`). -/
theorem bankControls : Obligations.BankControls := by
  unfold Obligations.BankControls
  refine ⟨fun iss b v s => ⟨fun h => ?_, fun h => ?_⟩, fun b s => ⟨fun h => ?_, fun hh hready => ?_⟩, fun iss b n v s hiss => ⟨fun h => ?_, fun h => ?_⟩,
    fun iss b s hiss => ⟨fun h => ?_, fun h => ?_⟩, fun b s => ⟨fun h => ?_, fun hclear hdom hpos => ?_⟩, fun iss b s hiss => ⟨fun n v => ?_, ?_⟩⟩
  · by_cases hacc : s.bankAccepts b iss = true
    · exact ok_congr ((if_pos hacc).trans (State.handWrite_refused (fun hg => h ⟨hacc, hg⟩)))
    · exact ok_congr (if_neg hacc)
  · obtain ⟨hacc, h31, h4, hh⟩ := h
    have hexec : exec (.handover iss b v) s = .next (s.handWrite b v) := ok_congr (if_pos hacc)
    obtain ⟨⟨f1, f2, f3, f4, f5, f6, f7⟩, hstays, hbroken, hbefore⟩ := State.handWrite_shows h31 h4 hh
    exact .of_eq hexec ⟨f1, f2, f3, f4, f5, f6, f7, hstays, hbroken, hbefore, (execHandover_ev _ _ _ (Ev.refl (fieldMask [.regs, .banks]) s) (by rfl)).only hexec⟩
  · refine if_neg ?_
    rcases h with h | h <;> simp [h]
  · obtain ⟨hpend, hdone, hgen, hown⟩ := s.handedRegs_shows b
    obtain ⟨hlock, -, -⟩ := s.lockCleared_leaves b
    obtain ⟨f1, f2, f3, f4, f5⟩ := ownOfHand_fld (s.rget (sb b 4))
    have hbank := (s.handedRegs b).bank_setBank_same b { (s.handedRegs b).bank b with before := [], force := false }
    have hexec := exec_hdone hh hready
    refine .of_eq hexec ⟨hpend, hdone, hgen, (congrArg (fun v => fld v 29 3) hown).trans f1, (congrArg (fun v => fld v 12 12) hown).trans f2,
      (congrArg (fun v => fld v 10 2) hown).trans f3, (congrArg (fun v => fld v 7 3) hown).trans f4, (congrArg (fun v => fld v 0 4) hown).trans f5,
      fun x hx => hlock x ?_, (congrArg Bank.before hbank).trans rfl, (execHdone_ev _ (Ev.refl (fieldMask [.regs, .banks]) s) (by rfl)).only hexec⟩
    rw [hbank] at hx
    exact hx
  · have hexec : exec (.prtReqWrite iss b n v) s = .next ((s.sticky (sb b 0x28) 30).viol .sbank b) :=
      ok_congr ((if_pos hiss).trans (State.prtWrite_third h.1 h.2))
    have h28 : (sb b 0x28).addr ≠ (violOf .sbank b).addr := sb_ne (by decide)
    have hprt : prtReq b n = sb b (0x80 + 4 * n.val) := rfl
    refine .of_eq hexec ⟨?_, ?_, ?_, ?_, (execPrtReqWrite_ev _ _ _ _ (Ev.refl (fieldMask [.regs]) s) (by rfl)).only hexec⟩
    · exact (State.rb_count_ne _ _ _ _ _ h28).trans (State.rb_sticky_self _ _ _ (by decide))
    · rw [hprt]
      exact (State.rget_count_ne _ _ _ _ _ _ (sb_ne (by omega))).trans (State.rget_sticky_ne _ _ _ _ (sb_ne (by omega)))
    · exact (State.rf_count_self _ _ _ _ _ (by decide)).trans (congrArg (fun k => min 0xFFFF (k + 1)) (State.rf_sticky_ne _ _ _ _ h28.symm))
    · exact ((KeepRegs.refl _ s).sticky _ (by simp)).count _ _ _ (by simp)
  · have hexec : exec (.prtReqWrite iss b n v) s = .next (s.rput (prtReq b n) (prtWord (s.rget (prtReq b n)) v)) :=
      ok_congr ((if_pos hiss).trans (State.prtWrite_done h))
    obtain ⟨h31, h8, h0, h16⟩ := prtWord_fields (s.rget (prtReq b n)) v
    exact .of_eq hexec ⟨(State.rb_rput_same _ _ _ _).trans h31, (State.rf_rput_same _ _ _ _ _).trans h8, (State.rf_rput_same _ _ _ _ _).trans h0,
      (State.rf_rput_same _ _ _ _ _).trans h16, rput_leaves s _ _⟩
  · exact ok_congr ((if_pos hiss).trans (State.scrCtlWrite_owned h))
  · let u := s.writePlain (sb b 8) ((BitVec.ofNat 32 (s.rf (sb b 8) 0 3 ||| 2)).setWidth 64)
    have hexec : exec (.bankClear iss b) s = .next (u.startClear b) := ok_congr ((if_pos hiss).trans (State.scrCtlWrite_clear h))
    have hbank : (u.startClear b).bank b = { u.bank b with clearing := true, clearPos := 0 } := u.bank_setBank_same b _
    have h8 (j : Nat) (hj : j = 0 ∨ j = 2) : (u.startClear b).rb (sb b 8) j = s.rb (sb b 8) j :=
      (State.rb_rput_ne (u.setBank b { u.bank b with clearing := true, clearPos := 0 }) _ _ _ _ (sb_ne (by decide))).trans (s.rb_clearWrite b hj)
    refine .of_eq hexec ⟨(congrArg Bank.clearing hbank).trans rfl, (congrArg Bank.clearPos hbank).trans rfl, State.rb_rsetb_self _ _ _ _ (by decide), h8 0 (.inl rfl),
      h8 2 (.inr rfl), fun g hg => ?_, (execBankClear_ev _ _ (Ev.refl (fieldMask [.regs, .banks]) s) (by rfl)).only hexec⟩
    exact (State.rget_rput_ne (u.setBank b { u.bank b with clearing := true, clearPos := 0 }) _ _ _ (hg _ (by simp))).trans
      (s.rget_writePlain_ne _ (hg _ (by simp)))
  · refine exec_clrdone_waits ?_
    rcases h with h | h | ⟨hslice, h⟩
    · exact .inl ((s.maintOver_leaves b).2.trans h)
    · exact .inr (.inl h)
    · rw [State.maintOver_other hslice]
      exact .inr (.inr h)
  · by_cases hslice : ((s.bank b).cur.map (·.who)) = some .slice
    · have hover := State.maintOver_clear hdom hslice hclear
      have hself := s.bank_clearRound_self b
      rw [if_pos (by simp [hslice])] at hpos
      have hexec := exec_clrdone hclear hdom (by rw [hover, hself]; exact hpos)
      rw [hover] at hexec
      obtain ⟨f1, f2, f3, f4, -, f6, f7, f8⟩ := (s.clearRound b).clearEnded_leaves b
      rw [hself] at f6 f7
      refine .of_eq hexec ⟨f1, f3, fun hno => absurd hslice hno, fun c w hc hw => (f4 c w hc).trans (State.swGet_clearRound_ne hc hw),
        fun hnone => (KeepRegs.of_regs (l := [sb b 0xC]) (s := s) rfl).trans (f6 hnone), fun w hw => ⟨f2, f7 w hw⟩, ?_⟩
      exact s.clearRound_only b |>.trans (f8.mono (by simp))
    · have hidle := State.maintOver_other hslice
      rw [if_neg (by simpa using hslice)] at hpos
      have hexec := exec_clrdone hclear hdom (by rw [hidle]; exact hpos)
      rw [hidle] at hexec
      obtain ⟨f1, f2, f3, f4, f5, f6, f7, f8⟩ := s.clearEnded_leaves b
      exact .of_eq hexec ⟨f1, f3, fun _ hrows w hw => f5 w hw hrows, fun c w hc _ => f4 c w hc, f6, fun w hw => ⟨f2, f7 w hw⟩, f8.mono (by simp)⟩
  · exact ok_congr (if_neg (by simp [hiss]))
  · exact ok_congr (if_neg (by simp [hiss]))

end Sys2Proof
end

section
/-! A push whose issuer is no port of the package: where its answer goes is read from a register that the push itself changes. -/

namespace Sys2Proof

open Machine

/-- A push to hopper 0. Its issuer names logical cluster 8192, which the package does not have: the number of the cluster that serves it is read at the
address of the hopper's violation count. -/
def strayPush : Flight := { id := 2, iss := .port 0 8192 0, kind := .write, addr := 0x100900000 }

/-- The die Lit, `strayPush` ready at hopper 0, whose producer side is bound to STREAM. -/
def strayPushing : State := { flights := [strayPush], regs := [((lmpDom 728).addr, 0), ((hopReg 0 0).addr, 1)] }

theorem exec_strayPush : exec (.pendingPushAccepted 2) strayPushing = .next ((strayPushing.viol .hop 0).answer 2 .done) := rfl

/-- Refutes O26: a push to a STREAM side is counted before its answer sets out, and in `strayPushing` that count is read as the place the answer goes to,
so the answer does not go where the issuer was when the command began. -/
theorem not_hopperPushPop : ¬ Obligations.HopperPushPop := by
  unfold Obligations.HopperPushPop
  rintro ⟨hpush, -⟩
  have haccess : strayPushing.hopAccess 2 .write false = some (strayPush, 0) := by decide
  obtain ⟨-, hstream, -⟩ := hpush 2 0 strayPush strayPushing haccess 0 (.pendingPushAccepted 2) (by simp)
  obtain ⟨t, ht, hans, -⟩ := hstream rfl (by decide)
  obtain rfl : (strayPushing.viol .hop 0).answer 2 .done = t := by rw [exec_strayPush] at ht; injection ht
  exact absurd (congrArg (List.map Flight.path) hans) (by decide)

end Sys2Proof
end

section
/-! I/O banks (R251, R253, R264) and serial groups (R257 to R259, R262): pads that follow, frames received and frames sent. -/

namespace Sys2Proof

open Machine

namespace Machine

/-! Pads (R253, R264). -/

theorem State.pin_setPin (s : State) (i k : Nat) (x : Pin) : (s.setPin i x).pin k = if k = i then x else s.pin k := Store.get_put _ _ _ _ _

theorem State.padOf_setPad (s : State) (i k : Nat) (x : Pad) : (s.setPad i x).padOf k = if k = i then x else s.padOf k := Store.get_put _ _ _ _ _

theorem State.group_setGroup (s : State) (i k : Nat) (x : Group) : (s.setGroup i x).group k = if k = i then x else s.group k := Store.get_put _ _ _ _ _

theorem State.padFollow_stays {s : State} {p : Nat} (h : ((s.padOf p).coming.isSome || s.scanned) = true) : s.padFollow p = s := if_pos h

theorem State.padFollow_moves {s : State} {p : Nat} (h : ((s.padOf p).coming.isSome || s.scanned) = false) :
    s.padFollow p = s.setPin p { s.pin p with pad := (s.cellDrives p).getD (s.restLevel p) } := if_neg (by simp [h])

/-- A pad that follows is the one part of the state that changes. -/
theorem State.padFollow_frame {β : Type} (φ : State → β) (hφ : ∀ s pins, φ { s with pins := pins } = φ s) (s : State) (p : Nat) : φ (s.padFollow p) = φ s := by
  unfold State.padFollow
  split
  · rfl
  · exact hφ s _

theorem State.padsFollow_frame {β : Type} (φ : State → β) (hφ : ∀ s pins, φ { s with pins := pins } = φ s) (s : State) (l : List Nat) : φ (s.padsFollow l) = φ s :=
  State.each_inv φ (State.padFollow_frame φ hφ) s l

theorem State.pin_padFollow_ne (s : State) {p q : Nat} (h : q ≠ p) : (s.padFollow p).pin q = s.pin q := by
  unfold State.padFollow
  split
  · rfl
  · exact s.pin_setPin_ne _ _ _ h

/-- A pad nothing drives rests. -/
theorem State.cellDrives_off {s : State} {p : Nat} (h : s.padFollows p = false) : s.cellDrives p = none := by
  unfold State.cellDrives
  simp [h]

/-- A pin once its pad rests. -/
def State.rested (s : State) (p : Nat) : Pin :=
  { s.pin p with pad := if ((s.padOf p).coming.isSome || s.scanned) = true then (s.pin p).pad else s.restLevel p }

theorem State.pin_padFollow_rests {s : State} {p : Nat} (h : s.padFollows p = false) : (s.padFollow p).pin p = s.rested p := by
  unfold State.rested
  cases hc : ((s.padOf p).coming.isSome || s.scanned) with
  | true => rw [State.padFollow_stays hc]; rfl
  | false =>
    rw [State.padFollow_moves hc, State.pin_setPin_same, State.cellDrives_off h]
    rfl

/-- The level a pad rests at is its own pin's. -/
theorem State.restLevel_pin (s : State) (pins : Store Pin) (p : Nat) (h : ({ s with pins := pins } : State).pin p = s.pin p) :
    ({ s with pins := pins } : State).restLevel p = s.restLevel p := by
  unfold State.restLevel
  rw [h]
  rfl

/-- Pads of which nothing drives one rest, each at its own level. -/
theorem State.pin_padsFollow {s : State} {l : List Nat} (hl : l.Nodup) (hoff : ∀ p ∈ l, s.padFollows p = false) (p : Nat) :
    (s.padsFollow l).pin p = if p ∈ l then s.rested p else s.pin p := by
  induction l generalizing s with
  | nil => rfl
  | cons a l ih =>
    obtain ⟨ha, hl⟩ := List.nodup_cons.mp hl
    have hstep : (s.padFollow a).padsFollow l = s.padsFollow (a :: l) := rfl
    have hoff' : ∀ q ∈ l, (s.padFollow a).padFollows q = false := fun q hq =>
      (State.padFollow_frame (fun u => u.padFollows q) (fun _ _ => rfl) s a).trans (hoff q (List.mem_cons_of_mem _ hq))
    rw [← hstep, ih hl hoff']
    by_cases hpa : p = a
    · subst hpa
      rw [if_neg ha, if_pos List.mem_cons_self]
      exact State.pin_padFollow_rests (hoff p List.mem_cons_self)
    · have hpin := s.pin_padFollow_ne hpa
      have hrested : (s.padFollow a).rested p = s.rested p := by
        cases hc : ((s.padOf a).coming.isSome || s.scanned) with
        | true => rw [State.padFollow_stays hc]
        | false =>
          rw [State.padFollow_moves hc] at hpin ⊢
          unfold State.rested
          rw [hpin, show State.restLevel (s.setPin a _) p = s.restLevel p from s.restLevel_pin _ p hpin]
          rfl
      simp [hpa, hrested, hpin]

/-! SUPPLY (R251). -/

/-- The package pins of a bank. -/
def bankPins (b : Nat) : List Nat := (List.range 32).map (32 * b + ·)

theorem mem_bankPins {b p : Nat} : p ∈ bankPins b ↔ p / 32 = b := by
  simp only [bankPins, List.mem_map, List.mem_range]
  exact ⟨fun ⟨i, hi, hp⟩ => by omega, fun h => ⟨p % 32, by omega, by omega⟩⟩

theorem nodup_bankPins (b : Nat) : (bankPins b).Nodup := List.Nodup.map (fun x y h => by simpa using h) List.nodup_range

/-- The regions with pins in a bank. -/
def bankRegions (b : Nat) : List Nat := (List.range 32).filter (fun r => decide (r * 24 < 32 * b + 32) && decide (32 * b < r * 24 + 24))

theorem mem_bankRegions {b r : Nat} : r ∈ bankRegions b ↔ r < 32 ∧ r * 24 < 32 * b + 32 ∧ 32 * b < r * 24 + 24 := by
  simp [bankRegions]

/-- Sticky bits set one by one. -/
theorem State.rb_stickies (s : State) (g : Reg) {l : List Nat} (hl : ∀ r ∈ l, r < 64) (i : Nat) :
    (s.each l (fun s r => s.sticky g r)).rb g i = (decide (i ∈ l) || s.rb g i) := by
  induction l generalizing s with
  | nil => simp [State.each]
  | cons a l ih =>
    refine (ih (s.sticky g a) (fun r hr => hl r (List.mem_cons_of_mem _ hr))).trans ?_
    by_cases hia : i = a
    · subst hia
      simp [s.rb_sticky_self g i (hl i List.mem_cons_self)]
    · rw [s.rb_sticky_bit _ _ _ hia]
      simp [hia]

theorem State.stickies_frame {β : Type} (φ : State → β) (hφ : ∀ s g v, φ (State.rput s g v) = φ s) (s : State) (g : Reg) (l : List Nat) :
    φ (s.each l (fun s r => s.sticky g r)) = φ s := State.each_inv φ (fun u _ => hφ u g _) s l

theorem bankReg_addr (b off : Nat) : (bankReg b off).addr = 0x20098000 + 0x40 * b + off := rfl

/-- SUPPLY set, before the pads let go. -/
def State.supplyOff (s : State) (b : Nat) : State := s.sticky (bankReg b 0x1C) 31

theorem State.rget_supplyOff_ne (s : State) (b : Nat) {g : Reg} (h : g.addr ≠ (bankReg b 0x1C).addr) : (s.supplyOff b).rget g = s.rget g :=
  State.rget_sticky_ne _ _ _ _ h

/-- A fault of the rail turns the drivers off, and leaves where a pad rests. -/
theorem State.padFollows_supplyOff (s : State) {b p : Nat} (hp : p / 32 = b) : (s.supplyOff b).padFollows p = false := by
  have hoff : (s.supplyOff b).driversOn p = false := by
    unfold State.driversOn
    rw [hp, State.supplyOff, State.rb_sticky_self _ _ _ (by decide)]
    simp
  unfold State.padFollows
  simp [hoff]

theorem State.pairKind_congr {s u : State} (p : Nat) (h4 : u.rget (bankReg (p / 32) 4) = s.rget (bankReg (p / 32) 4))
    (hC : u.rget (bankReg (p / 16 / 2) 0xC) = s.rget (bankReg (p / 16 / 2) 0xC)) : u.pairKind p = s.pairKind p := by
  unfold State.pairKind State.pairMode State.groupSplit State.groupOn State.groupSplit State.serWidth State.serCfg State.rf
  simp only [h4, hC]

theorem State.restLevel_supplyOff (s : State) (b : Nat) {p : Nat} (hp : p < 768) : (s.supplyOff b).restLevel p = s.restLevel p := by
  have hbank (c off : Nat) (hoff : off < 0x1C) : (s.supplyOff b).rget (bankReg c off) = s.rget (bankReg c off) := by
    refine s.rget_supplyOff_ne b ?_
    rw [bankReg_addr, bankReg_addr]
    omega
  have hdom : (s.supplyOff b).dom (672 + p / 32) = s.dom (672 + p / 32) := by
    unfold State.dom State.rf
    rw [s.rget_supplyOff_ne b (by rw [bankReg_addr]; simp only [Reg.addr, Blk.base]; omega)]
  have hkind : (s.supplyOff b).pairKind p = s.pairKind p := State.pairKind_congr p (hbank _ 4 (by decide)) (hbank _ 0xC (by decide))
  have hpull : (s.supplyOff b).pullOf p = s.pullOf p := by
    unfold State.pullOf State.rf
    rw [hbank _ _ (by split <;> omega)]
    rfl
  unfold State.restLevel State.rb
  rw [hdom, hkind, hpull, hbank _ 8 (by decide)]
  rfl

/-- R251: the state after SUPPLY. -/
def State.supplied (s : State) (b : Nat) : State :=
  ((s.supplyOff b).padsFollow (bankPins b)).each (bankRegions b) (fun s r => s.sticky tnkAlarm r)

/-! The frames of a group (R257 to R259). -/

/-- A 36-bit frame of a header and 34 bits. -/
theorem fld_frame (h : BitVec 2) (x : BitVec 34) : fld ((h ++ x).setWidth 36) 34 2 = h.toNat := by
  have hx := x.isLt
  have hh := h.isLt
  unfold fld
  rw [BitVec.toNat_setWidth, BitVec.toNat_append, Nat.shiftLeft_eq, Nat.shiftRight_eq_div_pow, Nat.mul_comm, ← Nat.two_pow_add_eq_or_of_lt hx]
  omega

/-- R257: the frame that carries a token. -/
def wordFrame (t : Tok) : BitVec 36 := (2#2 ++ (BitVec.ofBool t.p ++ (BitVec.ofBool t.f ++ t.d))).setWidth 36

theorem wordFrame_fields (t : Tok) :
    fld (wordFrame t) 34 2 = 2 ∧ bit (wordFrame t) 33 = t.p ∧ bit (wordFrame t) 32 = t.f ∧ (wordFrame t).extractLsb' 0 32 = t.d := by
  have hbits (i : Nat) (hi : i < 36) : (wordFrame t).getLsbD i =
      if i < 32 then t.d.getLsbD i else if i = 32 then t.f else if i = 33 then t.p else (2#2).getLsbD (i - 34) := by
    simp only [wordFrame, BitVec.getLsbD_setWidth, BitVec.getLsbD_append, BitVec.getLsbD_ofBool, decide_eq_true hi, Bool.true_and]
    by_cases h32 : i < 32
    · rw [if_pos h32, if_pos (by omega), if_pos (by omega), if_pos h32]
    obtain rfl | rfl | h : i = 32 ∨ i = 33 ∨ 34 ≤ i := by omega
    · simp
    · simp
    · rw [if_neg h32, if_neg (by omega), if_neg (by omega), if_neg (by omega), if_neg (by omega)]
  refine ⟨fld_frame 2#2 _, hbits 33 (by decide), hbits 32 (by decide), BitVec.eq_of_getLsbD_eq (fun i hi => ?_)⟩
  rw [BitVec.getLsbD_extractLsb', hbits _ (by omega), Nat.zero_add, if_pos hi, decide_eq_true hi, Bool.true_and]

/-- The header of an idle frame. -/
theorem fld_idleFrame (x : BitVec 64) : fld ((1#2 ++ (x.setWidth 34)).setWidth 36 : BitVec 36) 34 2 = 1 := fld_frame 1#2 _

/-- The group's pads carry a frame. -/
def State.reaches (s : State) (n : Nat) : Prop := s.driversOn (groupPin n + 2) = true ∧ s.lowPair (groupPin n + 2) = false

/-- What of a frame sent the group's pads carry. -/
theorem State.sends_leaves (s : State) (n : Nat) (f : BitVec 36) :
    (s.sends n f).group n = { s.group n with sent := ((s.sends n f).group n).sent } ∧ (¬ s.reaches n → ((s.sends n f).group n).sent = none) ∧
    (s.reaches n → ((s.sends n f).group n).sent = some f) ∧ ∀ m, m ≠ n → (s.sends n f).group m = s.group m := by
  have hself : (s.sends n f).group n = { s.group n with sent := if s.driversOn (groupPin n + 2) && !s.lowPair (groupPin n + 2) then some f else none } :=
    s.group_setGroup_same n _
  refine ⟨by rw [hself], fun h => ?_, fun h => ?_, fun m hm => s.group_setGroup_ne _ _ _ hm⟩
  · rw [hself]
    refine if_neg (fun hc => h ?_)
    rwa [Bool.and_eq_true, Bool.not_eq_true'] at hc
  · rw [hself]
    exact if_pos (by rw [h.1, h.2]; rfl)

section Transmit
variable {n : Fin 48} {s : State} (bad : BitVec 17)

/-- The state after an idle frame. -/
def State.idleSent (s : State) (n : Nat) : State := (s.sends n ((1#2 ++ (s.freeNow.setWidth 34)).setWidth 36)).bumpFree

/-- The state after the frame of the token `t` at the end of channel `ch`. -/
def State.wordSent (s : State) (n ch : Nat) (t : Tok) (bad : BitVec 17) : State :=
  ((s.setChan ch (s.chan ch).pop).sends n (wordFrame (garble bad s.freeNow t))).codeReport bad (placeKey 6 n) (groupRegion n) none none

theorem exec_serialTransmit_off (h : ¬ (s.groupOn n = true ∧ (s.serCfg n).testBit 14 = true ∧ s.dom (672 + n / 2) = 0)) :
    exec (.serialWordTransmit ⟨n, bad⟩) s = .next s := by
  refine if_pos ?_
  dsimp only
  rw [not_and_or, not_and_or] at h
  rcases h with h | h | h <;> simp [h]

variable (hon : s.groupOn n = true) (hdir : (s.serCfg n).testBit 14 = true) (hdom : s.dom (672 + n / 2) = 0)
include hon hdir hdom

theorem State.groupRuns_out : s.groupRuns n true = (s.region (groupRegion n)).out := by
  unfold State.groupRuns
  rw [hon, hdir, hdom]
  simp

theorem exec_serialTransmit : exec (.serialWordTransmit ⟨n, bad⟩) s =
    if (s.region (groupRegion n)).out then
      match s.chanInto (epGroup n) with
      | none => ok (s.idleSent n)
      | some ch => match (s.chan ch).last with
        | none => ok (s.idleSent n)
        | some t => ok (s.wordSent n ch t bad)
    else ok (s.idleSent n) := by
  refine (if_neg (by simp [hon, hdir, hdom])).trans ?_
  dsimp only
  rw [State.groupRuns_out hon hdir hdom]
  cases hout : (s.region (groupRegion n)).out with
  | false => rfl
  | true =>
    cases hch : s.chanInto (epGroup n) with
    | none => rfl
    | some ch => cases hl : (s.chan ch).last <;> rfl

theorem exec_serialTransmit_idle (h : (s.region (groupRegion n)).out = false ∨ (∀ ch, s.chanInto (epGroup n) = some ch → (s.chan ch).last = none)) :
    exec (.serialWordTransmit ⟨n, bad⟩) s = .next (s.idleSent n) := by
  rw [exec_serialTransmit bad hon hdir hdom]
  cases hout : (s.region (groupRegion n)).out with
  | false => rfl
  | true =>
    cases hch : s.chanInto (epGroup n) with
    | none => rfl
    | some ch =>
      rw [hout] at h
      have hlast := (h.resolve_left (by simp)) ch hch
      simp only [if_true, hlast]

end Transmit

/-! PAD_SWITCH_COMPLETE (R264). -/

/-- The pin once its new owner has it, before the pad follows. -/
def State.switched (s : State) (p : Nat) (o : Owner) : State :=
  (s.setPin p { s.pin p with pad := (s.padOf p).kept }).setPad p { s.padOf p with owner := o, coming := none }

theorem State.switched_leaves (s : State) (p : Nat) (o : Owner) : let v := s.switched p o
    v.padOf p = { s.padOf p with owner := o, coming := none } ∧ v.pin p = { s.pin p with pad := (s.padOf p).kept } ∧
    ∀ q, q ≠ p → v.padOf q = s.padOf q ∧ v.pin q = s.pin q :=
  ⟨State.padOf_setPad_same _ _ _, s.pin_setPin_same p _, fun _ hq => ⟨State.padOf_setPad_ne _ _ _ _ hq, s.pin_setPin_ne _ _ _ hq⟩⟩

/-- What drives a pad does not depend on the pads' levels. -/
theorem State.cellDrives_padFollow (s : State) (p q : Nat) : (s.padFollow p).cellDrives q = s.cellDrives q := by
  have hdrv (k : Nat) : ((s.padFollow p).pin k).drv = (s.pin k).drv := by
    by_cases hk : k = p
    · subst hk
      unfold State.padFollow
      split
      · rfl
      · rw [State.pin_setPin_same]
    · rw [s.pin_padFollow_ne hk]
  have hframe {β : Type} (φ : State → β) (hφ : ∀ s pins, φ { s with pins := pins } = φ s) : φ (s.padFollow p) = φ s := State.padFollow_frame φ hφ s p
  unfold State.cellDrives
  dsimp only
  rw [hframe (fun u => u.driverCell q) (fun _ _ => rfl), hframe (fun u => u.padFollows q) (fun _ _ => rfl), hdrv,
    hframe (fun u => u.drivenLevel (s.driverCell q) (s.pin (s.driverCell q)).drv) (fun _ _ => rfl)]

end Machine

open Machine

theorem exec_padSwitchComplete {p : Fin 768} {s : State} {o : Owner} (h : (s.padOf p).coming = some o) :
    exec (.padSwitchComplete p) s = .next ((s.switched p o).padFollow p) := by
  change execPadSwitchComplete p s = _
  unfold execPadSwitchComplete
  dsimp only
  rw [h]
  rfl

/-- R264: the new function takes the pad. -/
theorem padSwitchComplete_does {p : Fin 768} {s : State} {o : Owner} (h : (s.padOf p).coming = some o) :
    Does (.padSwitchComplete p) s (fun u =>
    u.padOf p = { s.padOf p with owner := o, coming := none } ∧ (∀ q, q ≠ p.val → u.padOf q = s.padOf q ∧ u.pin q = s.pin q) ∧
    u.pin p = { s.pin p with pad := (u.pin p).pad } ∧
    (s.scanned = true → (u.pin p).pad = (s.padOf p).kept) ∧
    (s.scanned = false → (∀ l, u.cellDrives p = some l → (u.pin p).pad = l) ∧
      (u.cellDrives p = none → (∀ l, (s.pin p).ext = some l → (u.pin p).pad = l) ∧
        ((s.pin p).ext = none → ¬ (s.pairKind p ≠ 0 ∧ p.val % 2 = 0 ∧ s.rb (bankReg (p / 32) 8) (p % 32 / 2) = true) →
          (u.pin p).pad = (if s.dom (672 + p / 32) ≠ 0 then (s.padOf p).kept else if u.pullOf p = 1 then true else if u.pullOf p = 2 then false else (s.padOf p).kept)))) ∧
    KeepRegs [] s u ∧ Only [.pins, .pads] s u) := by
  let v := s.switched p o
  obtain ⟨hpad, hpin, hne⟩ := s.switched_leaves p o
  have hframe {β : Type} (φ : State → β) (hφ : ∀ s pins, φ { s with pins := pins } = φ s) : φ (v.padFollow p) = φ v := State.padFollow_frame φ hφ v p
  have hexec := exec_padSwitchComplete h
  have hcoming : ((v.padOf p).coming.isSome || v.scanned) = s.scanned := by rw [hpad]; rfl
  have hregs : (v.padFollow p).regs = s.regs := hframe State.regs (fun _ _ => rfl)
  have hpadOf (q : Nat) : (v.padFollow p).padOf q = v.padOf q := hframe (fun u => u.padOf q) (fun _ _ => rfl)
  have honly := (execPadSwitchComplete_ev _ (Ev.refl (fieldMask [.pins, .pads]) s) (by rfl)).only hexec
  have hdrives := v.cellDrives_padFollow p p
  have hpull : (v.padFollow p).pullOf p = v.pullOf p := hframe (fun u => u.pullOf p) (fun _ _ => rfl)
  refine .of_eq hexec ⟨(hpadOf p).trans hpad, fun q hq => ⟨(hpadOf q).trans (hne q hq).1, (v.pin_padFollow_ne hq).trans (hne q hq).2⟩, ?_, fun hscan => ?_,
    fun hscan => ⟨fun l hl => ?_, fun hnone => ⟨fun l hl => ?_, fun hext hterm => ?_⟩⟩, .of_regs hregs, honly⟩
  · cases hc : s.scanned with
    | true => rw [State.padFollow_stays (hcoming.trans hc), hpin]
    | false => rw [State.padFollow_moves (hcoming.trans hc), State.pin_setPin_same, hpin]
  · rw [State.padFollow_stays (hcoming.trans hscan), hpin]
  · rw [hdrives] at hl
    rw [State.padFollow_moves (hcoming.trans hscan), State.pin_setPin_same, hl]
    rfl
  · rw [hdrives] at hnone
    rw [State.padFollow_moves (hcoming.trans hscan), State.pin_setPin_same, hnone]
    change v.restLevel p = l
    unfold State.restLevel
    rw [hpin]
    simp only [hl]
  · rw [hdrives] at hnone
    rw [hpull, State.padFollow_moves (hcoming.trans hscan), State.pin_setPin_same, hnone]
    change v.restLevel p = _
    unfold State.restLevel
    rw [hpin]
    simp only [hext]
    by_cases hdom : s.dom (672 + p.val / 32) = 0
    · rw [if_neg (not_not.mpr hdom)]
      refine (if_neg (not_not.mpr hdom)).trans ((if_neg hterm).trans ?_)
      split
      · next hp => rw [if_pos hp]
      · next hp => rw [if_neg (by omega), if_pos hp]
      · next h1 h2 => rw [if_neg h1, if_neg h2]
    · rw [if_pos hdom]
      exact if_pos hdom


theorem exec_supply {b : Fin 24} {s : State} (h : s.dom (672 + b) = 0) : exec (.supply b) s = .next (s.supplied b) := if_neg (by simpa using h)

theorem supply_does {b : Fin 24} {s : State} (hdom : s.dom (672 + b) = 0) : Does (.supply b) s (fun u => u.rb (bankReg b 0x1C) 31 = true ∧
    (∀ i, i ≠ 31 → u.rb (bankReg b 0x1C) i = s.rb (bankReg b 0x1C) i) ∧ (∀ p : Fin 768, p.val / 32 = b → u.rb tnkAlarm (p.val / 24) = true) ∧
    (∀ r < 32, (∀ p : Fin 768, p.val / 32 = b → p.val / 24 ≠ r) → u.rb tnkAlarm r = s.rb tnkAlarm r) ∧
    (∀ p : Fin 768, p.val / 32 = b → u.padFollows p = false ∧ u.pin p = { s.pin p with pad := (u.pin p).pad } ∧
      ((s.padOf p).coming = none → s.scanned = false → (u.pin p).pad = s.restLevel p)) ∧
    KeepKeys State.pin (fun p => p / 32 = b.val) s u ∧ KeepRegs [bankReg b 0x1C, tnkAlarm] s u ∧ Only [.regs, .pins] s u) := by
  let v := s.supplyOff b
  let w := v.padsFollow (bankPins b)
  have hwregs : w.regs = v.regs := State.padsFollow_frame State.regs (fun _ _ => rfl) v _
  have hne : (bankReg b 0x1C).addr ≠ tnkAlarm.addr := by rw [bankReg_addr, show tnkAlarm.addr = 0x20050080 from rfl]; omega
  have halarms : KeepRegs [tnkAlarm] w (s.supplied b) := KeepRegs.each (.refl _ w) (fun u r _ hu => hu.sticky r (by simp))
  have hstat (i : Nat) : (s.supplied b).rb (bankReg b 0x1C) i = v.rb (bankReg b 0x1C) i :=
    (congrArg (fun x => bit x i) (halarms _ (by simpa using hne))).trans (State.rb_of_regs hwregs _ _)
  have halarm (r : Nat) : (s.supplied b).rb tnkAlarm r = (decide (r ∈ bankRegions b) || s.rb tnkAlarm r) := by
    refine (w.rb_stickies tnkAlarm (fun r hr => ?_) r).trans ?_
    · have := (mem_bankRegions.mp hr).1
      omega
    · rw [State.rb_of_regs hwregs]
      exact congrArg (fun x => decide (r ∈ bankRegions b) || bit x r) (s.rget_supplyOff_ne b hne.symm)
  have hoff (p : Nat) (hp : p ∈ bankPins b) : v.padFollows p = false := s.padFollows_supplyOff (mem_bankPins.mp hp)
  have hpin (p : Nat) : (s.supplied b).pin p = if p ∈ bankPins b then v.rested p else v.pin p :=
    (State.stickies_frame (fun u => u.pin p) (fun _ _ _ => rfl) w tnkAlarm (bankRegions b)).trans (State.pin_padsFollow (nodup_bankPins b) hoff p)
  have hexec := exec_supply hdom
  refine .of_eq hexec ⟨(hstat 31).trans (State.rb_sticky_self _ _ _ (by decide)), fun i hi => (hstat i).trans (State.rb_sticky_bit _ _ _ _ hi), fun p hp => ?_,
    fun r hr h => ?_, fun p hp => ⟨?_, ?_, fun hcoming hscan => ?_⟩, fun p hp => ?_, ?_, ?_⟩
  · rw [halarm, decide_eq_true (mem_bankRegions.mpr ⟨by omega, by omega, by omega⟩), Bool.true_or]
  · have hnot : r ∉ bankRegions b := fun hm => by
      obtain ⟨-, h1, h2⟩ := mem_bankRegions.mp hm
      by_cases hlow : r * 24 ≤ 32 * b.val
      · exact h ⟨32 * b.val, by omega⟩ (by dsimp only; omega) (by dsimp only; omega)
      · exact h ⟨r * 24, by omega⟩ (by dsimp only; omega) (by dsimp only; omega)
    rw [halarm, decide_eq_false hnot, Bool.false_or]
  · have hdrivers : (s.supplied b).driversOn p = false := by
      unfold State.driversOn
      rw [hp, hstat, show v.rb (bankReg b 0x1C) 31 = true from State.rb_sticky_self _ _ _ (by decide)]
      simp
    unfold State.padFollows
    simp [hdrivers]
  · rw [hpin, if_pos (mem_bankPins.mpr hp)]
    rfl
  · rw [hpin, if_pos (mem_bankPins.mpr hp)]
    refine (if_neg ?_).trans (s.restLevel_supplyOff b p.isLt)
    change ¬ ((s.padOf p).coming.isSome || s.scanned) = true
    rw [hcoming, hscan]
    simp
  · rw [hpin, if_neg (fun h => hp (mem_bankPins.mp h))]
    rfl
  · have hset : KeepRegs [bankReg b 0x1C, tnkAlarm] s v := (KeepRegs.refl _ s).sticky _ (by simp)
    exact (hset.then_regs hwregs).trans (halarms.mono (by simp))
  · exact (execSupply_ev _ (Ev.refl (fieldMask [.regs, .pins]) s) (by rfl)).only hexec

/-! Receiving groups (R257 to R259). -/

section Receive
variable {n : Fin 48} {f : BitVec 36} {s : State} (hrun : s.groupRuns n false = true)
include hrun

theorem exec_frame_invalid (h : fld f 34 2 = 0 ∨ fld f 34 2 = 3) :
    exec (.serialFrameReceived n f) s = .next (s.setGroup n { s.group n with valid := 0, invalid := (s.group n).invalid + 1 }) :=
  (if_neg (by simp [hrun])).trans (if_pos h)

theorem exec_frame_header (h : fld f 34 2 = 1 ∨ (fld f 34 2 = 2 ∧ s.aligned n = false)) :
    exec (.serialFrameReceived n f) s = .next (s.setGroup n { s.group n with valid := (s.group n).valid + 1, invalid := 0 }) := by
  refine (if_neg (by simp [hrun])).trans ((if_neg ?_).trans (if_pos ?_))
  · rcases h with h | ⟨h, -⟩ <;> rw [h] <;> decide
  · rcases h with h | ⟨-, h⟩ <;> simp [h]

theorem exec_frame_lost (h : fld f 34 2 = 2) (hal : s.aligned n = true) (hfull : 2 ≤ (s.group n).rx.length) :
    exec (.serialFrameReceived n f) s = .next (((s.setGroup n { s.group n with valid := (s.group n).valid + 1, invalid := 0 }).sticky
      (bankReg (n / 2) 0x1C) (29 + n % 2)).count (bankReg (n / 2) 0x20) 0 8 1) :=
  (if_neg (by simp [hrun])).trans ((if_neg (by rw [h]; decide)).trans ((if_neg (by simp [h, hal])).trans (if_pos hfull)))

theorem exec_frame_word (h : fld f 34 2 = 2) (hal : s.aligned n = true) (hroom : (s.group n).rx.length < 2) :
    exec (.serialFrameReceived n f) s = .next (s.setGroup n { s.group n with
      valid := (s.group n).valid + 1, invalid := 0, rx := (s.group n).rx ++ [⟨f.setWidth 32, bit f 33, bit f 32⟩] }) :=
  (if_neg (by simp [hrun])).trans ((if_neg (by rw [h]; decide)).trans ((if_neg (by simp [h, hal])).trans (if_neg (by omega))))

end Receive

/-- A group changed, and nothing else. -/
theorem setGroup_leaves (s : State) (n : Nat) (k : Group) : (s.setGroup n k).group n = k ∧ (∀ m, m ≠ n → (s.setGroup n k).group m = s.group m) ∧
    KeepRegs [] s (s.setGroup n k) ∧ Only [.regs, .groups] s (s.setGroup n k) :=
  ⟨s.group_setGroup_same n k, fun _ hm => s.group_setGroup_ne _ _ _ hm, .of_regs rfl, ((Ev.refl (fieldMask [.regs, .groups]) s).setGroup (by rfl) _ _).only_mask⟩

theorem bankStat_ne_errs (b : Nat) : (bankReg b 0x1C).addr ≠ (bankReg b 0x20).addr := by
  rw [bankReg_addr, bankReg_addr]
  omega

/-- A group that is off, or of a bank that is not Lit, does nothing. -/
theorem exec_group_off {n : Fin 48} (f : BitVec 36) {s : State} (h : s.groupRuns n false = false) :
    exec (.serialFrameReceived n f) s = .next s ∧ exec (.align n) s = .next s ∧ exec (.syncerr n) s = .next s :=
  ⟨if_pos (by simp [h]), if_neg (by simp [h]), if_neg (by simp [h])⟩

theorem State.serialGive_unaligned {s : State} {n : Nat} (h : s.aligned n = false) (bad : BitVec 17) : s.serialGive n bad = s := if_pos (by simp [h])

theorem State.serialGive_clean {s : State} {n : Nat} {t : Tok} {rest : List Tok} {more : List (Option Tok)} (hal : s.aligned n = true)
    (hrx : (s.group n).rx = t :: rest) (hst : (s.chan (chKey (epGroup n))).stages = none :: more) (hb : (s.chan (chKey (epGroup n))).broken = false) :
    s.serialGive n 0 = (s.fed (epGroup n) t).setGroup n { s.group n with rx := rest } := by
  unfold State.serialGive
  refine (if_neg (by simp [hal])).trans ?_
  simp only [hrx, State.feedBad_clean t hst hb]

/-- Settles O28. Pads rest one by one (`pin_padsFollow`); the clauses on a group are the branches of its commands. -/
theorem ioBanks : Obligations.IoBanks := by
  unfold Obligations.IoBanks
  refine ⟨⟨fun b s hdom => supply_does hdom, fun b s hdom => if_pos hdom, fun p s o h => padSwitchComplete_does h, fun p s h => ?_⟩,
    fun n f s hrun => ⟨fun h => ?_, fun h => ?_, fun h hal hroom => ?_, fun h hal hfull => ?_⟩,
    fun n s hrun => ⟨fun h => ?_, fun h => ?_, fun hal h => ?_, fun h => ?_⟩, fun n bad s => ⟨fun h => exec_serialTransmit_off bad h, ?_, ?_⟩,
    fun n f s h => exec_group_off f h, fun b g bad s h => ok_congr (State.serialGive_unaligned h bad), ?_⟩
  · change execPadSwitchComplete p s = _
    unfold execPadSwitchComplete
    simp only [h]
  · exact .of_eq (exec_frame_invalid hrun h) (setGroup_leaves s n _)
  · exact .of_eq (exec_frame_header hrun h) (setGroup_leaves s n _)
  · exact .of_eq (exec_frame_word hrun h hal hroom) (setGroup_leaves s n _)
  · have hexec := exec_frame_lost hrun h hal hfull
    have hne := bankStat_ne_errs (n / 2)
    let u := s.setGroup n { s.group n with valid := (s.group n).valid + 1, invalid := 0 }
    have hkeep : KeepRegs [bankReg (n / 2) 0x1C, bankReg (n / 2) 0x20] s u := .of_regs rfl
    refine .of_eq hexec ⟨s.group_setGroup_same n _, fun m hm => s.group_setGroup_ne _ _ _ hm, ?_, ?_, (hkeep.sticky _ (by simp)).count _ _ _ (by simp),
      (execSerialFrameReceived_ev _ _ (Ev.refl (fieldMask [.regs, .groups]) s) (by rfl)).only hexec⟩
    · exact (State.rb_count_ne (u.sticky (bankReg (n / 2) 0x1C) (29 + n % 2)) _ _ _ _ hne).trans (u.rb_sticky_self _ _ (by omega))
    · exact (State.rf_count_self (u.sticky (bankReg (n / 2) 0x1C) (29 + n % 2)) _ _ _ _ (by decide)).trans
        (congrArg (fun k => min 255 (k + 1)) (State.rf_sticky_ne u _ _ _ hne.symm))
  · have hexec : exec (.align n) s = .next (s.rsetb (bankReg (n / 2) 0x1C) (n % 2) true) := if_pos (by simp [hrun, h])
    exact .of_eq hexec ⟨State.rb_rsetb_self _ _ _ _ (by omega), fun i hi => State.rb_rsetb_bit _ _ _ _ _ (fun he => hi (Fin.ext he)), rput_leaves s _ _⟩
  · exact if_neg (by simp [Nat.not_le.mpr h])
  · let g := bankReg (n / 2) 0x1C
    let u := s.rsetb g (n % 2) false
    let v := u.sticky g (27 + n % 2)
    have hexec : exec (.syncerr n) s = .next (v.count (bankReg (n / 2) 0x20) 8 8 1) := if_pos (by simp [hrun, hal, h])
    have hne := bankStat_ne_errs (n / 2)
    refine .of_eq hexec ⟨?_, ?_, ?_, (((KeepRegs.refl _ s).rsetb _ _ (by simp [g])).sticky _ (by simp [g])).count _ _ _ (by simp),
      (execSyncerr_ev _ (Ev.refl (fieldMask [.regs]) s) (by rfl)).only hexec⟩
    · exact (State.rb_count_ne v _ _ _ _ hne).trans ((State.rb_sticky_bit u _ _ _ (by omega)).trans (State.rb_rsetb_self _ _ _ _ (by omega)))
    · exact (State.rb_count_ne v _ _ _ _ hne).trans (u.rb_sticky_self _ _ (by omega))
    · exact (State.rf_count_self v _ _ _ _ (by decide)).trans (congrArg (fun k => min 255 (k + 1))
        ((State.rf_sticky_ne u _ _ _ hne.symm).trans (State.rf_rput_ne s _ _ _ _ _ hne.symm)))
  · refine if_neg ?_
    rcases h with h | h
    · simp [h]
    · simp [Nat.not_le.mpr h]
  · intro ch t ⟨hon, hdir, hdom⟩ hout hch hlast
    have hexec : exec (.serialWordTransmit ⟨n, bad⟩) s = .next (s.wordSent n ch t bad) := by
      rw [exec_serialTransmit bad hon hdir hdom]
      simp only [hout, if_true, hch, hlast]
    let u := s.setChan ch (s.chan ch).pop
    have hframe {β : Type} (φ : State → β) (hφ : ∀ s regs pend free, φ { s with regs := regs, codePend := pend, free := free } = φ s) :
        φ (s.wordSent n ch t bad) = φ (u.sends n (wordFrame (garble bad s.freeNow t))) := State.codeReport_frame φ hφ _ bad _ _
    have hgroup (m : Nat) : (s.wordSent n ch t bad).group m = (u.sends n (wordFrame (garble bad s.freeNow t))).group m := hframe (fun v => v.group m) (fun _ _ _ _ => rfl)
    obtain ⟨hself, hno, hyes, hne⟩ := u.sends_leaves n (wordFrame (garble bad s.freeNow t))
    obtain ⟨f1, f2, f3, f4⟩ := wordFrame_fields (garble bad s.freeNow t)
    refine .of_eq hexec ⟨?_, fun k hk => ?_, fun m hm => (hgroup m).trans (hne m hm), ?_, fun h => ?_, fun h => ⟨wordFrame (garble bad s.freeNow t), ?_, f1, fun hbad => ?_, fun hbad => ?_⟩,
      fun hbad => ?_⟩
    · exact (hframe (fun v => v.chan ch) (fun _ _ _ _ => rfl)).trans (s.chan_setChan_same ch _)
    · exact (hframe (fun v => v.chan k) (fun _ _ _ _ => rfl)).trans (s.chan_setChan_ne _ _ _ hk)
    · rw [hgroup]; exact hself
    · rw [hgroup]; exact hno h
    · rw [hgroup]; exact hyes h
    · rw [hbad, garble_clean] at f2 f3 f4
      rw [hbad, garble_clean]
      exact ⟨f2, f3, f4⟩
    · rw [f2, garble_faulty hbad]
    · subst hbad
      exact (State.codeReport_clean_ev _ _ _ _ (State.sends_ev _ _ ((Ev.refl (fieldMask [.regs, .chans, .groups, .codePend]) s).setChan (by rfl) _ _) (by rfl)) (by rfl)).only_mask
  · intro ⟨hon, hdir, hdom⟩ h
    have hexec := exec_serialTransmit_idle bad hon hdir hdom h
    obtain ⟨hself, hno, hyes, hne⟩ := s.sends_leaves n ((1#2 ++ (s.freeNow.setWidth 34)).setWidth 36)
    exact .of_eq hexec ⟨hself, hno, fun hr => ⟨_, hyes hr, fld_idleFrame s.freeNow⟩, hne,
      (State.bumpFree_ev (State.sends_ev _ _ (Ev.refl (fieldMask [.free, .groups]) s) (by rfl)) (by rfl)).only_mask⟩
  · intro b g s t rest more
    dsimp only
    intro hal hrx hst hb
    have hexec : exec (.tokenMove (.serial b g) 0) s = .next ((s.fed (epGroup (2 * b.val + g.val)) t).setGroup (2 * b.val + g.val) { s.group (2 * b.val + g.val) with rx := rest }) :=
      ok_congr (State.serialGive_clean hal hrx hst hb)
    refine .of_eq hexec ⟨State.group_setGroup_same _ _ _, State.stages_fed t hst, fun k hk => State.chan_fed_ne s _ t hk, fun m hm => ?_⟩
    exact (State.group_setGroup_ne _ _ _ _ hm).trans (State.fed_frame (fun u => u.group m) (fun _ _ _ _ => rfl) s _ t)

end Sys2Proof
end

section
/-! Captures, and the pin cell's controls (R225, R234, R236, R238 to R242, R245, R248). -/

namespace Sys2Proof

open Machine

namespace Machine

theorem pinReg_addr (p off : Nat) : (pinReg p off).addr = 0x100806000 + 0x10000000 * (p / 24 / 8) + 0x1000000 * (p / 24 % 8) + 0x40 * (p % 24) + off := by
  simp only [pinReg, Reg.addr, Blk.base, winBase]
  omega

theorem pinReg_ne {p off off' : Nat} (h : off ≠ off') : (pinReg p off).addr ≠ (pinReg p off').addr := by
  rw [pinReg_addr, pinReg_addr]
  omega

/-! What a pin cell drives (R225, R232, R253, R255). -/

/-- A pin but for the level of its pad. -/
def Pin.but (k : Pin) (pad : Bool) : Pin := { k with pad := pad }

theorem State.pin_padFollow (s : State) (p q : Nat) : (s.padFollow p).pin q = (s.pin q).but ((s.padFollow p).pin q).pad := by
  by_cases h : q = p
  · subst h
    unfold State.padFollow
    split
    · rfl
    · rw [State.pin_setPin_same]
      rfl
  · rw [s.pin_padFollow_ne h]
    rfl

/-- The pin that drives `d`, before its pad follows. -/
def Pin.driving (k : Pin) (d : Drive) (parked : Bool) : Pin :=
  { k with drv := d, parked := parked, lvl := match d with | .low => false | .high => true | _ => k.lvl }

theorem State.drivePin_eq (s : State) (p : Nat) (d : Drive) (parked : Bool) : s.drivePin p d parked =
    let s1 := (s.setPin p ((s.pin p).driving d parked)).padFollow p
    if s1.pairKind p = 1 ∧ p % 2 = 0 then s1.padFollow (p + 1) else s1 := rfl

/-- The pads change, and the driver; of the other pins the complement's pad alone. -/
theorem State.drivePin_leaves (s : State) (p : Nat) (d : Drive) (parked : Bool) : let u := s.drivePin p d parked
    u.pin p = ((s.pin p).driving d parked).but (u.pin p).pad ∧ OthersStay s u p ∧ u.regs = s.regs := by
  let s1 := (s.setPin p ((s.pin p).driving d parked)).padFollow p
  have hself : s1.pin p = ((s.pin p).driving d parked).but (s1.pin p).pad := by
    have h := (s.setPin p ((s.pin p).driving d parked)).pin_padFollow p p
    rwa [State.pin_setPin_same] at h
  have hne (q : Nat) (hq : q ≠ p) : s1.pin q = s.pin q := (State.pin_padFollow_ne _ hq).trans (s.pin_setPin_ne _ _ _ hq)
  have hregs : s1.regs = s.regs := State.padFollow_frame State.regs (fun _ _ => rfl) _ p
  have hkind : s1.pairKind p = s.pairKind p := State.padFollow_frame (fun u => u.pairKind p) (fun _ _ => rfl) _ p
  rw [State.drivePin_eq]
  change let u := if s1.pairKind p = 1 ∧ p % 2 = 0 then s1.padFollow (p + 1) else s1; _
  dsimp only
  split
  · next hc =>
    have hself' : (s1.padFollow (p + 1)).pin p = s1.pin p := s1.pin_padFollow_ne (by omega)
    refine ⟨by rw [hself']; exact hself, fun q hq => ⟨?_, fun hpair => ?_⟩, (State.padFollow_frame State.regs (fun _ _ => rfl) s1 _).trans hregs⟩
    · rw [s1.pin_padFollow (p + 1) q, hne q hq]
      rfl
    · refine (s1.pin_padFollow_ne (fun he => hpair ⟨?_, he⟩)).trans (hne q hq)
      rw [← hkind]
      exact hc.1
  · exact ⟨hself, fun q hq => ⟨by rw [hne q hq], fun _ => hne q hq⟩, hregs⟩

/-- The state after the edge of pin p was placed. -/
theorem State.edgeAt_leaves (s : State) (p pos : Nat) (mark : Bool) : let u := s.edgeAt p pos mark
    (∃ e, u.pin p = { s.pin p with edge := e }) ∧ (∀ q, q ≠ p → u.pin q = s.pin q) ∧ KeepRegs [pinReg p 8] s u := by
  let lim := match (s.pin p).edge with | some e => e + 4 | none => 0
  let v := s.setPin p { s.pin p with edge := some (max pos lim) }
  have hv : v.pin p = { s.pin p with edge := some (max pos lim) } := s.pin_setPin_same p _
  have hne (q : Nat) (hq : q ≠ p) : v.pin q = s.pin q := s.pin_setPin_ne _ _ _ hq
  have hedge : s.edgeAt p pos mark = if mark && decide (pos < lim) then v.sticky (pinReg p 8) 27 else v := rfl
  have hkeep : KeepRegs [pinReg p 8] s v := .of_regs rfl
  rw [hedge]
  split
  · exact ⟨⟨_, hv⟩, hne, hkeep.sticky _ (by simp)⟩
  · exact ⟨⟨_, hv⟩, hne, hkeep⟩

/-- Pin p drives `d` soon: of its cell the driver, and perhaps the place of the edge. -/
theorem State.driveSoon_leaves (s : State) {p : Nat} (hp : p < 768) (d : Drive) (parked mark : Bool) : let u := s.driveSoon p d parked mark
    (u.pin p).drv = d ∧ (u.pin p).parked = parked ∧ (u.pin p).q = (s.pin p).q ∧ OthersStay s u p ∧ KeepRegs [pinReg p 8] s u := by
  unfold State.driveSoon
  split
  · obtain ⟨hself, hothers, hregs⟩ := s.drivePin_leaves p d parked
    dsimp only at hself ⊢
    rw [hself]
    exact ⟨rfl, rfl, rfl, hothers, .of_regs hregs⟩
  · let pos := (s.spineOf (pinRegion p)).interval * 20 + s.freeNow.toNat % 20
    let v := (s.edgeAt p pos mark).bumpFree
    obtain ⟨⟨e, hedge⟩, hne, hkeep⟩ := s.edgeAt_leaves p pos mark
    have hv : v.pin p = { s.pin p with edge := e } := hedge
    have hvne (q : Nat) (hq : q ≠ p) : v.pin q = s.pin q := hne q hq
    obtain ⟨hself, hothers, hregs⟩ := v.drivePin_leaves p d parked
    have hkind : v.pairKind p = s.pairKind p := by
      have hbank (b off : Nat) (hb : b < 24) (hoff : off < 0x40) : v.rget (bankReg b off) = s.rget (bankReg b off) := hkeep _ (by
        simp only [List.mem_singleton, forall_eq, bankReg_addr, pinReg_addr]
        omega)
      exact State.pairKind_congr p (hbank _ _ (by omega) (by decide)) (hbank _ _ (by omega) (by decide))
    change let u := v.drivePin p d parked; _
    dsimp only at hself ⊢
    rw [hself, hv]
    refine ⟨rfl, rfl, rfl, fun q hq => ⟨?_, fun hpair => ?_⟩, (hkeep.then_regs rfl).then_regs hregs⟩
    · rw [(hothers q hq).1, hvne q hq]
    · exact ((hothers q hq).2 (by rwa [hkind])).trans (hvne q hq)

/-! Captures (R236 to R242). -/

/-- The state once the pad has its new pin `c`, a slow edge is told, and that the line is invalid. -/
def State.capTold (s : State) (p : Nat) (c : Pin) (slow invalid : Bool) : State :=
  let s0 := s.setPin p c
  let sA := if slow then (s0.sticky (pinReg p 8) 25).count (pinReg p 0x20) 16 8 1 else s0
  if invalid then sA.sticky (pinReg p 8) 30 else sA

/-- The pin of an edge: the level of its pad, and what drives it from outside from then on. -/
def State.capPin (s : State) (p : Nat) (level : Bool) (ext : Option Bool) : Pin := { s.pin p with pad := level, ext := ext }

/-- R242: what is told of a slow edge. -/
def SlowTold (s u : State) (p : Nat) : Prop :=
  u.rb (pinReg p 8) 25 = true ∧ u.rf (pinReg p 0x20) 16 8 = min 255 (s.rf (pinReg p 0x20) 16 8 + 1)

section Told
variable (s : State) (p : Nat) (c : Pin) (slow invalid : Bool)

theorem State.capTold_pin : (s.capTold p c slow invalid).pin p = c ∧ (∀ q, q ≠ p → (s.capTold p c slow invalid).pin q = s.pin q) ∧
    KeepRegs [pinReg p 8, pinReg p 0x20] s (s.capTold p c slow invalid) := by
  have hself := s.pin_setPin_same p c
  have hne (q : Nat) (hq : q ≠ p) := s.pin_setPin_ne p q c hq
  have hkeep : KeepRegs [pinReg p 8, pinReg p 0x20] s (s.setPin p c) := .of_regs rfl
  have hslow := (hkeep.sticky (g := pinReg p 8) 25 (by simp)).count (g := pinReg p 0x20) 16 8 1 (by simp)
  cases slow <;> cases invalid
  · exact ⟨hself, hne, hkeep⟩
  · exact ⟨hself, hne, hkeep.sticky _ (by simp)⟩
  · exact ⟨hself, hne, hslow⟩
  · exact ⟨hself, hne, hslow.sticky _ (by simp)⟩

theorem State.capTold_slow : SlowTold s (s.capTold p c true invalid) p := by
  let u := s.setPin p c
  let v := u.sticky (pinReg p 8) 25
  let w := v.count (pinReg p 0x20) 16 8 1
  have hne : (pinReg p 8).addr ≠ (pinReg p 0x20).addr := pinReg_ne (by decide)
  have h25 : w.rb (pinReg p 8) 25 = true := (v.rb_count_ne _ _ _ _ hne).trans (u.rb_sticky_self _ _ (by decide))
  have h16 : w.rf (pinReg p 0x20) 16 8 = min 255 (s.rf (pinReg p 0x20) 16 8 + 1) :=
    (v.rf_count_self _ _ _ _ (by decide)).trans (congrArg (fun k => min 255 (k + 1)) (u.rf_sticky_ne _ _ _ hne.symm))
  cases invalid with
  | false => exact ⟨h25, h16⟩
  | true => exact ⟨(w.rb_sticky_bit _ _ _ (by decide)).trans h25, (w.rf_sticky_ne _ _ _ hne.symm).trans h16⟩

theorem State.capTold_invalid : (s.capTold p c slow true).rb (pinReg p 8) 30 = true := State.rb_sticky_self _ _ _ (by decide)

theorem State.rf_capTold_lost : (s.capTold p c slow invalid).rf (pinReg p 0x20) 8 8 = s.rf (pinReg p 0x20) 8 8 := by
  let u := s.setPin p c
  let v := u.sticky (pinReg p 8) 25
  have hne : (pinReg p 0x20).addr ≠ (pinReg p 8).addr := pinReg_ne (by decide)
  have hslow : (v.count (pinReg p 0x20) 16 8 1).rf (pinReg p 0x20) 8 8 = s.rf (pinReg p 0x20) 8 8 :=
    (v.rf_count_ne _ _ _ _ _ _ (by decide)).trans (u.rf_sticky_ne _ _ _ hne)
  cases slow <;> cases invalid
  · rfl
  · exact u.rf_sticky_ne _ _ _ hne
  · exact hslow
  · exact (State.rf_sticky_ne _ _ _ _ hne).trans hslow

/-- Neither the pad's level nor what is told of an edge says where the window lies. -/
theorem State.inWindow_capTold (hopen : c.wopen = (s.pin p).wopen) (hclose : c.wclose = (s.pin p).wclose) (x : Word) :
    (s.capTold p c slow invalid).inWindow p x = s.inWindow p x := by
  obtain ⟨hself, -, hkeep⟩ := s.capTold_pin p c slow invalid
  have hreg : (s.capTold p c slow invalid).rget (pinReg p 0) = s.rget (pinReg p 0) :=
    hkeep _ (by simp only [List.mem_cons, List.not_mem_nil, or_false]; rintro x (rfl | rfl) <;> exact pinReg_ne (by decide))
  unfold State.inWindow State.rb
  dsimp only
  rw [hself, hreg, hopen, hclose]

end Told

/-- The next sequence number is used. -/
def State.capCounted (u : State) (p : Nat) : State := u.setPin p { u.pin p with seq := ((u.pin p).seq + 1) % 64 }

/-- R240: the capture is lost, or waits with these tokens. -/
def State.capKept (u : State) (p : Nat) (x : Word) (toks : List Tok) : State :=
  if 4 ≤ (u.pin p).caps.length then ((u.capCounted p).sticky (pinReg p 8) 26).count (pinReg p 0x20) 8 8 1
  else (u.capCounted p).setPin p { (u.capCounted p).pin p with caps := (u.pin p).caps ++ [(x, toks)] }

theorem State.capCounted_leaves (u : State) (p : Nat) : (u.capCounted p).pin p = { u.pin p with seq := ((u.pin p).seq + 1) % 64 } ∧
    (u.capCounted p).regs = u.regs := ⟨u.pin_setPin_same p _, rfl⟩

/-- R241: with four waiting the capture is lost. -/
theorem State.capKept_lost {u : State} {p : Nat} (h : 4 ≤ (u.pin p).caps.length) (x : Word) (toks : List Tok) : let v := u.capKept p x toks
    v.pin p = { u.pin p with seq := ((u.pin p).seq + 1) % 64 } ∧ v.rb (pinReg p 8) 26 = true ∧
    v.rf (pinReg p 0x20) 8 8 = min 255 (u.rf (pinReg p 0x20) 8 8 + 1) ∧ (∀ i, i ≠ 26 → v.rb (pinReg p 8) i = u.rb (pinReg p 8) i) ∧
    v.rf (pinReg p 0x20) 16 8 = u.rf (pinReg p 0x20) 16 8 := by
  obtain ⟨hpin, hregs⟩ := u.capCounted_leaves p
  let a := u.capCounted p
  let b := a.sticky (pinReg p 8) 26
  have hkept : u.capKept p x toks = b.count (pinReg p 0x20) 8 8 1 := if_pos h
  have hne : (pinReg p 8).addr ≠ (pinReg p 0x20).addr := pinReg_ne (by decide)
  have hrf (lo : Nat) : b.rf (pinReg p 0x20) lo 8 = u.rf (pinReg p 0x20) lo 8 := (a.rf_sticky_ne _ _ _ hne.symm).trans (State.rf_of_regs hregs _ _ _)
  dsimp only
  rw [hkept]
  refine ⟨hpin, (b.rb_count_ne _ _ _ _ hne).trans (a.rb_sticky_self _ _ (by decide)), ?_, fun i hi => ?_, ?_⟩
  · exact (b.rf_count_self _ _ _ _ (by decide)).trans (congrArg (fun k => min 255 (k + 1)) (hrf 8))
  · exact (b.rb_count_ne _ _ _ _ hne).trans ((a.rb_sticky_bit _ _ _ hi).trans (State.rb_of_regs hregs _ _))
  · exact (b.rf_count_ne _ _ _ _ _ _ (by decide)).trans (hrf 16)

theorem State.capKept_waits {u : State} {p : Nat} (h : (u.pin p).caps.length < 4) (x : Word) (toks : List Tok) : let v := u.capKept p x toks
    v.pin p = { u.pin p with seq := ((u.pin p).seq + 1) % 64, caps := (u.pin p).caps ++ [(x, toks)] } ∧ v.regs = u.regs := by
  obtain ⟨hpin, hregs⟩ := u.capCounted_leaves p
  have hkept : u.capKept p x toks = (u.capCounted p).setPin p { (u.capCounted p).pin p with caps := (u.pin p).caps ++ [(x, toks)] } := if_neg (by omega)
  dsimp only
  rw [hkept]
  exact ⟨((u.capCounted p).pin_setPin_same p _).trans (by rw [hpin]), hregs⟩

/-- What an edge on an invalid line delivers. -/
def State.blindTokens (s : State) (p : Nat) : List Tok := (captureTokens (s.rf (pinReg p 0) 18 2) 0 false false 0).map (fun _ => { p := true })

/-- The timestamp of a capture (R238, R242). -/
def State.capStamp (s : State) (p n : Nat) (before : Bool) : Word :=
  if before then (if n = 0 then (s.pinLinePrev p).stamp 19 else (s.pinLine p).stamp (n - 1)) else (s.pinLine p).stamp n

end Machine

open Machine

section Capture
variable {p : Fin 768} {level : Bool} {n : Fin 20} {before slow : Bool} {ext : Option Bool} {s : State}

theorem exec_capture_unwanted (h : ¬ ((s.region (pinRegion p)).out = true ∧ (s.pinFunc p = 2 ∨ s.pinFunc p = 3) ∧
      (s.rf (pinReg p 0) 20 2).testBit (if level then 0 else 1) = true ∧ (s.padOf p).coming = none)) :
    exec (.captureEdge p ⟨level, ext⟩ n before slow) s = .next (s.setPin p { s.pin p with pad := level, ext := ext }) := by
  refine if_pos ?_
  dsimp only
  rw [not_and_or, not_and_or, not_and_or] at h
  rcases h with h | h | h | h
  · simp [h]
  · simp only [not_or] at h
    simp [h.1, h.2]
  · simp only [Bool.not_eq_true] at h
    simp [h]
  · simp [Option.isSome_iff_ne_none, h]

variable (h : (s.region (pinRegion p)).out = true ∧ (s.pinFunc p = 2 ∨ s.pinFunc p = 3) ∧
  (s.rf (pinReg p 0) 20 2).testBit (if level then 0 else 1) = true ∧ (s.padOf p).coming = none)
include h

theorem exec_capture : exec (.captureEdge p ⟨level, ext⟩ n before slow) s =
    let u := s.capTold p (s.capPin p level ext) slow (!(s.pinLine p).valid)
    let fmt := s.rf (pinReg p 0) 18 2
    if !(!(s.pinLine p).valid) && !u.inWindow p (s.capStamp p n before) then ok u
    else ok (u.capKept p (if !(s.pinLine p).valid then 0 else s.capStamp p n before)
      (if !(s.pinLine p).valid then (captureTokens fmt 0 false false 0).map (fun _ => { p := true })
        else captureTokens fmt (s.capStamp p n before) level slow (((u.pin p).seq + 1) % 64))) := by
  obtain ⟨hout, hfn, hedge, hpad⟩ := h
  refine (if_neg ?_).trans ?_
  · dsimp only
    rw [hout, hedge, hpad]
    rcases hfn with h | h <;> simp [h]
  · let u := s.capTold p (s.capPin p level ext) slow (!(s.pinLine p).valid)
    by_cases hw : (!(!(s.pinLine p).valid) && !u.inWindow p (s.capStamp p n before)) = true
    · exact (if_pos hw).trans (if_pos hw).symm
    · refine (if_neg hw).trans ((if_neg hw).trans ?_).symm
      unfold State.capKept
      by_cases hfull : 4 ≤ (u.pin p).caps.length
      · exact (ok_congr (if_pos hfull)).trans (if_pos hfull).symm
      · exact (ok_congr (if_neg hfull)).trans (if_neg hfull).symm

theorem exec_capture_outside (hvalid : (s.pinLine p).valid = true) (hin : s.inWindow p (s.capStamp p n before) = false) :
    exec (.captureEdge p ⟨level, ext⟩ n before slow) s = .next (s.capTold p (s.capPin p level ext) slow false) := by
  rw [exec_capture h, hvalid]
  exact if_pos (by simp [s.inWindow_capTold p (s.capPin p level ext) slow false rfl rfl, hin])

theorem exec_capture_inside (hvalid : (s.pinLine p).valid = true) (hin : s.inWindow p (s.capStamp p n before) = true) :
    exec (.captureEdge p ⟨level, ext⟩ n before slow) s = .next ((s.capTold p (s.capPin p level ext) slow false).capKept p (s.capStamp p n before)
      (captureTokens (s.rf (pinReg p 0) 18 2) (s.capStamp p n before) level slow (((s.pin p).seq + 1) % 64))) := by
  have hseq : ((s.capTold p (s.capPin p level ext) slow false).pin p).seq = (s.pin p).seq := by rw [(s.capTold_pin p _ slow false).1]; rfl
  rw [exec_capture h, hvalid]
  refine (if_neg (by simp [s.inWindow_capTold p (s.capPin p level ext) slow false rfl rfl, hin])).trans ?_
  rw [← hseq]
  rfl

theorem exec_capture_blind (hvalid : (s.pinLine p).valid = false) :
    exec (.captureEdge p ⟨level, ext⟩ n before slow) s = .next ((s.capTold p (s.capPin p level ext) slow true).capKept p 0 (s.blindTokens p)) := by
  rw [exec_capture h, hvalid]
  exact if_neg (by simp)

omit h in
/-- A slow edge is told, and nothing else of an edge on a valid line. -/
theorem capTold_tells (c : Pin) : (slow = true → SlowTold s (s.capTold p c slow false) p) ∧ (slow = false → KeepRegs [] s (s.capTold p c slow false)) := by
  refine ⟨fun h => ?_, fun h => ?_⟩ <;> subst h
  · exact s.capTold_slow p c false
  · exact .of_regs rfl

omit h in
/-- The frame of a capture, whatever becomes of it. -/
theorem capture_only {u : State} (hexec : exec (.captureEdge p ⟨level, ext⟩ n before slow) s = .next u) : Only [.regs, .pins] s u :=
  (execCaptureEdge_ev _ _ _ _ _ (Ev.refl (fieldMask [.regs, .pins]) s) (by rfl)).only hexec

end Capture

/-! The controls (R234, R245, R248). -/

namespace Machine

theorem State.rb_fpark (s : State) (p : Nat) (on : Bool) : (s.rsetb (pinReg p 4) 31 on).fparked p = on := State.rb_rsetb_self _ _ _ _ (by decide)

theorem epRegion_epPin (p : Fin 768) : epRegion (epPin (pinRegion p) (p % 24) 2) = pinRegion p := by
  have hp := p.isLt
  unfold epRegion epPin pinRegion fld
  simp only [BitVec.toNat_ofNat, Nat.shiftRight_eq_div_pow]
  omega

/-- The registers a change of FPARK writes. -/
theorem State.keepRegs_fpark (s : State) (p : Nat) (on : Bool) : KeepRegs [pinReg p 4, pinReg p 8] s (s.rsetb (pinReg p 4) 31 on) :=
  (KeepRegs.refl _ s).rsetb _ _ (by simp)

end Machine

/-- What a change of FPARK leaves besides FPARK itself (R245). -/
structure FparkLeaves (s u : State) (p : Nat) (on : Bool) : Prop where
  shown : u.fparked p = on
  keeps : KeepRegs [pinReg p 4, pinReg p 8] s u
  others : OthersStay s u p

namespace Machine

theorem State.fparked_of_keeps {s u : State} {p : Nat} {on : Bool} (h : KeepRegs [pinReg p 8] (s.rsetb (pinReg p 4) 31 on) u) : u.fparked p = on :=
  (congrArg (fun v => bit v 31) (h (pinReg p 4) (by simpa using pinReg_ne (by decide)))).trans (s.rb_fpark p on)

section Fpark
variable (s : State) {p : Nat} (hp : p < 768)

theorem State.fparkSet_same (on : Bool) (h : on = s.fparked p ∨ (on = false ∧ ((s.region (pinRegion p)).out = false ∨ (s.pin p).inv = true))) :
    s.fparkSet p on = s.rsetb (pinReg p 4) 31 on := by
  unfold State.fparkSet
  rcases h with h | ⟨h, h'⟩
  · dsimp only
    cases hf : s.fparked p <;> rw [hf] at h <;> subst h
    · exact (if_neg (by simp)).trans (if_neg (by simp))
    · exact (if_neg (by simp)).trans (if_neg (by simp))
  · subst h
    rcases h' with h' | h' <;> exact (if_neg (by simp)).trans (if_neg (by simp [h']))

theorem State.fparkSet_park (h : s.fparked p = false) :
    s.fparkSet p true = if (s.region (pinRegion p)).out then (s.rsetb (pinReg p 4) 31 true).parkPin p else (s.rsetb (pinReg p 4) 31 true).cancelMarks p :=
  if_pos (by simp [h])

theorem State.fparkSet_release (h : s.fparked p = true) (hout : (s.region (pinRegion p)).out = true) (hinv : (s.pin p).inv = false) :
    s.fparkSet p false = (s.rsetb (pinReg p 4) 31 false).ownDrive p :=
  by
    unfold State.fparkSet
    dsimp only
    exact (if_neg (by simp)).trans (if_pos (by simp [h, hout, hinv]))

/-- A pin that drives soon after FPARK changed. -/
theorem fparkLeaves_driven {v u : State} {p : Nat} {on : Bool} (hp : p < 768) (hv : v.regs = (s.rsetb (pinReg p 4) 31 on).regs)
    (hothers : ∀ q, q ≠ p → v.pin q = s.pin q) (d : Drive) (parked mark : Bool) (hu : u = v.driveSoon p d parked mark) :
    FparkLeaves s u p on ∧ (u.pin p).drv = d ∧ (u.pin p).parked = parked ∧ (u.pin p).q = (v.pin p).q := by
  subst hu
  obtain ⟨hdrv, hparked, hq, hstay, hkeep⟩ := v.driveSoon_leaves hp d parked mark
  have hset : KeepRegs [pinReg p 8] (s.rsetb (pinReg p 4) 31 on) v := .of_regs hv
  have hkind : v.pairKind p = s.pairKind p := by
    have hbank (b off : Nat) (hb : b < 24) (hoff : off < 0x40) : v.rget (bankReg b off) = s.rget (bankReg b off) := by
      refine (hset _ ?_).trans (s.rget_rput_ne _ _ _ ?_)
      · simp only [List.mem_singleton, forall_eq, bankReg_addr, pinReg_addr]
        omega
      · rw [bankReg_addr, pinReg_addr]
        omega
    exact State.pairKind_congr p (hbank _ _ (by omega) (by decide)) (hbank _ _ (by omega) (by decide))
  refine ⟨⟨State.fparked_of_keeps (hset.trans hkeep), ?_, fun q hq => ⟨?_, fun hpair => ?_⟩⟩, hdrv, hparked, hq⟩
  · exact (s.keepRegs_fpark p on).trans ((hset.trans hkeep).mono (by simp))
  · rw [(hstay q hq).1, hothers q hq]
  · exact ((hstay q hq).2 (by rwa [hkind])).trans (hothers q hq)

include hp

omit hp in
theorem State.rget_fpark_bank (on : Bool) {b off : Nat} (hb : b < 24) (hoff : off < 0x40) :
    (s.rsetb (pinReg p 4) 31 on).rget (bankReg b off) = s.rget (bankReg b off) := by
  refine s.rget_rput_ne _ _ _ ?_
  rw [bankReg_addr, pinReg_addr]
  omega

/-- What the pin cell does, and its PARK value, do not depend on FPARK. -/
theorem State.pinFunc_fpark (on : Bool) : (s.rsetb (pinReg p 4) 31 on).pinFunc p = s.pinFunc p ∧ (s.rsetb (pinReg p 4) 31 on).parkOf p = s.parkOf p := by
  have h0 : (s.rsetb (pinReg p 4) 31 on).rget ⟨.pin, p, 0⟩ = s.rget ⟨.pin, p, 0⟩ := s.rget_rput_ne _ _ _ (pinReg_ne (off := 0) (by decide))
  have hkind : (s.rsetb (pinReg p 4) 31 on).pairKind p = s.pairKind p :=
    State.pairKind_congr p (s.rget_fpark_bank on (by omega) (by decide)) (s.rget_fpark_bank on (by omega) (by decide))
  refine ⟨?_, ?_⟩
  · unfold State.pinFunc State.rf
    rw [h0, hkind]
  · unfold State.parkOf State.rf
    rw [h0]

/-- R245: FPARK set parks a released pin and discards its marks. -/
theorem fparkSet_park_leaves (h : s.fparked p = false) : let u := s.fparkSet p true
    FparkLeaves s u p true ∧ (u.pin p).q = [] ∧ ((s.region (pinRegion p)).out = true → (u.pin p).drv = s.parkOf p ∧ (u.pin p).parked = true) := by
  let s1 := s.rsetb (pinReg p 4) 31 true
  let v := s1.setPin p { s1.pin p with q := [] }
  have hv : v.pin p = { s.pin p with q := [] } := s1.pin_setPin_same p _
  have hne (q : Nat) (hq : q ≠ p) : v.pin q = s.pin q := s1.pin_setPin_ne _ _ _ hq
  dsimp only
  rw [State.fparkSet_park s h]
  split
  · obtain ⟨hleaves, hdrv, hparked, hq⟩ := fparkLeaves_driven s (on := true) (v := v) (u := s1.parkPin p) hp rfl hne (s1.parkOf p) true false rfl
    exact ⟨hleaves, hq.trans (congrArg Pin.q hv), fun _ => ⟨hdrv.trans (s.pinFunc_fpark hp true).2, hparked⟩⟩
  · next hout =>
    refine ⟨⟨s.rb_fpark p true, (s.keepRegs_fpark p true).then_regs rfl, fun q hq => ⟨?_, fun _ => hne q hq⟩⟩, congrArg Pin.q hv, fun ho => absurd ho hout⟩
    rw [show (s1.cancelMarks p).pin q = s.pin q from hne q hq]

/-- R245: a pin released takes its function's pad back. -/
theorem fparkSet_release_leaves (h : s.fparked p = true) (hout : (s.region (pinRegion p)).out = true) (hinv : (s.pin p).inv = false) :
    let u := s.fparkSet p false
    FparkLeaves s u p false ∧ (s.pinFunc p = 2 → (u.pin p).drv = .float ∧ (u.pin p).parked = false) ∧
    (s.pinFunc p = 4 → (u.pin p).drv = (if (s.pin p).flow then .high else .low) ∧ (u.pin p).parked = false) ∧
    (s.pinFunc p ≠ 2 → s.pinFunc p ≠ 4 → u.pins = s.pins) := by
  let s1 := s.rsetb (pinReg p 4) 31 false
  have hdriven (u : State) := fparkLeaves_driven s (on := false) (v := s1) (u := u) hp rfl (fun _ _ => rfl)
  dsimp only
  rw [State.fparkSet_release s h hout hinv]
  unfold State.ownDrive
  rw [(s.pinFunc_fpark hp false).1]
  split
  · next h2 =>
    obtain ⟨hleaves, hdrv, hparked, -⟩ := hdriven _ .float false false rfl
    exact ⟨hleaves, fun _ => ⟨hdrv, hparked⟩, fun h4 => by omega, fun hn => absurd h2 hn⟩
  · next h4 =>
    obtain ⟨hleaves, hdrv, hparked, -⟩ := hdriven _ (if (s1.pin p).flow then .high else .low) false true rfl
    exact ⟨hleaves, fun h2 => by omega, fun _ => ⟨hdrv, hparked⟩, fun _ hn => absurd h4 hn⟩
  · next h2 h4 =>
    exact ⟨⟨s.rb_fpark p false, s.keepRegs_fpark p false, fun _ _ => ⟨rfl, fun _ => rfl⟩⟩, fun h => absurd h h2, fun h => absurd h h4, fun _ _ => rfl⟩

end Fpark

end Machine

/-- Settles O31. An edge is told first (`capTold`), then lost or kept (`capKept`); a change of FPARK drives the pin anew or leaves it (`FparkLeaves`). -/
theorem capturesAndControls : Obligations.CapturesAndControls := by
  unfold Obligations.CapturesAndControls
  refine ⟨fun p level n before slow ext s => ?_, fun ts level amb seq _ => ⟨rfl, rfl, rfl, rfl⟩, fun p s ts t more rest st => ?_,
    fun iss p on s hiss => ?_, fun iss p s hiss => ⟨?_, ?_⟩, fun iss p s hiss => ⟨fun on => ?_, ?_, ?_⟩⟩
  · intro c f stamp ts wanted tells
    have hpin (invalid : Bool) : (s.capTold p c slow invalid).pin p = c := (s.capTold_pin p c slow invalid).1
    have hlen (invalid : Bool) : ((s.capTold p c slow invalid).pin p).caps.length = c.caps.length := by rw [hpin]
    obtain ⟨htells, hkeeps⟩ := capTold_tells (p := p) (slow := slow) (s := s) c
    refine ⟨fun hno => ?_, fun hw hvalid hwin => ?_, fun hw hvalid hwin hfull => ?_, fun hw hvalid hwin hroom => ?_, fun hw hvalid hfull => ?_, fun hw hvalid hroom => ?_⟩
    · exact .of_eq (exec_capture_unwanted hno) ⟨s.pin_setPin_same p _, .of_regs rfl, fun q hq => s.pin_setPin_ne _ _ _ hq,
        ((Ev.refl (fieldMask [.pins]) s).setPin (by rfl) _ _).only_mask⟩
    · have hexec := exec_capture_outside (slow := slow) (ext := ext) hw hvalid hwin
      exact .of_eq hexec ⟨hpin false, htells, hkeeps, (s.capTold_pin p c slow false).2.1, capture_only hexec⟩
    · have hexec := exec_capture_inside (slow := slow) (ext := ext) hw hvalid hwin
      obtain ⟨f1, f2, f3, f4, f5⟩ := State.capKept_lost (u := s.capTold p c slow false) (p := p) (hfull.trans_eq (hlen false).symm) ts
        (captureTokens (s.rf (pinReg p 0) 18 2) ts level slow (((s.pin p).seq + 1) % 64))
      rw [hpin] at f1
      refine .of_eq hexec ⟨f1, fun hs => ?_, f2, f3.trans (by rw [s.rf_capTold_lost]), capture_only hexec⟩
      exact ⟨(f4 25 (by decide)).trans (htells hs).1, f5.trans (htells hs).2⟩
    · have hexec := exec_capture_inside (slow := slow) (ext := ext) hw hvalid hwin
      obtain ⟨f1, f2⟩ := State.capKept_waits (u := s.capTold p c slow false) (p := p) ((hlen false).trans_lt hroom) ts
        (captureTokens (s.rf (pinReg p 0) 18 2) ts level slow (((s.pin p).seq + 1) % 64))
      rw [hpin] at f1
      refine .of_eq hexec ⟨f1, fun hs => ?_, fun hs => (hkeeps hs).then_regs f2, capture_only hexec⟩
      exact ⟨(State.rb_of_regs f2 _ _).trans (htells hs).1, (State.rf_of_regs f2 _ _ _).trans (htells hs).2⟩
    · have hexec := exec_capture_blind (n := n) (before := before) (slow := slow) (ext := ext) hw hvalid
      obtain ⟨f1, f2, f3, f4, -⟩ := State.capKept_lost (u := s.capTold p c slow true) (p := p) (hfull.trans_eq (hlen true).symm) 0 (s.blindTokens p)
      rw [hpin] at f1
      exact .of_eq hexec ⟨f1, (f4 30 (by decide)).trans (s.capTold_invalid p c slow), f2, f3.trans (by rw [s.rf_capTold_lost])⟩
    · have hexec := exec_capture_blind (n := n) (before := before) (slow := slow) (ext := ext) hw hvalid
      obtain ⟨f1, f2⟩ := State.capKept_waits (u := s.capTold p c slow true) (p := p) ((hlen true).trans_lt hroom) 0 (s.blindTokens p)
      rw [hpin] at f1
      refine .of_eq hexec ⟨(State.rb_of_regs f2 _ _).trans (s.capTold_invalid p c slow), (congrArg Pin.seq f1).trans rfl, s.blindTokens p, (congrArg Pin.caps f1).trans rfl, ?_, fun t ht => ?_⟩
      · unfold State.blindTokens captureTokens
        split <;> simp
      · obtain ⟨-, -, rfl⟩ := List.mem_map.mp ht
        rfl
  · dsimp only
    intro hcaps hst hb
    let k : Pin := { s.pin p with caps := if more.isEmpty then rest else (ts, more) :: rest }
    let v := (s.fed (epPin (pinRegion p) (p % 24) 2) t).setPin p k
    have hexec : exec (.tokenMove (.cap p) 0) s = .next (v.rput (pinReg p 0x1C) (ts.setWidth 64)) := by
      refine ok_congr ?_
      unfold State.capGive
      simp only [hcaps, State.feedBad_clean t hst hb]
      rfl
    have hpin : v.pin p = k := State.pin_setPin_same _ _ _
    have hkeep : KeepRegs [pinReg p 0x1C, tnkErr (pinRegion p)] s v :=
      KeepRegs.then_regs ((epRegion_epPin p ▸ s.keepRegs_fed (epPin (pinRegion p) (p % 24) 2) t).mono (by simp)) rfl
    refine .of_eq hexec ⟨State.stages_fed t hst, v.rget_rput_same _ _, ?_, hkeep.rput _ (by simp), fun j hj => State.chan_fed_ne s _ t hj⟩
    refine (congrArg Pin.caps hpin).trans ?_
    cases more <;> rfl
  · have hexec : exec (.fpark iss p on) s = .next (s.fparkSet p on) := ok_congr (s.guarded_mgmt hiss .pin p.val (fun s => s.fparkSet p.val on))
    have honly : Only [.free, .regs, .pins] s (s.fparkSet p on) := (execFpark_ev _ _ _ (Ev.refl (fieldMask [.free, .regs, .pins]) s) (by rfl)).only hexec
    by_cases hsame : on = s.fparked p ∨ (on = false ∧ ((s.region (pinRegion p)).out = false ∨ (s.pin p).inv = true))
    · have hset := State.fparkSet_same s on hsame
      rw [hset] at hexec honly
      refine .of_eq hexec ⟨s.rb_fpark p on, fun h1 h2 => ?_, fun h1 h2 _ => ?_, fun _ => rfl, fun h1 h2 h3 h4 => ?_, s.keepRegs_fpark p on, fun _ _ => ⟨rfl, fun _ => rfl⟩, honly⟩
      · simp [h1, h2] at hsame
      · simp [h1, h2] at hsame
      · simp [h1, h2, h3, h4] at hsame
    · cases on with
      | true =>
        have hf : s.fparked p = false := by simpa using hsame
        obtain ⟨⟨f1, f2, f3⟩, hq, hpark⟩ := fparkSet_park_leaves s p.isLt hf
        exact .of_eq hexec ⟨f1, fun _ _ => hq, fun _ _ => hpark, fun h => absurd h hsame, (by intro h; cases h), f2, f3, honly⟩
      | false =>
        rw [not_or] at hsame
        obtain ⟨hf, hrest⟩ := hsame
        have hf : s.fparked p = true := by simpa using hf
        have hout : (s.region (pinRegion p)).out = true := by
          cases h : (s.region (pinRegion p)).out
          · exact absurd ⟨rfl, .inl h⟩ hrest
          · rfl
        have hinv : (s.pin p).inv = false := by
          cases h : (s.pin p).inv
          · rfl
          · exact absurd ⟨rfl, .inr h⟩ hrest
        obtain ⟨⟨f1, f2, f3⟩, h2, h4, hn⟩ := fparkSet_release_leaves s p.isLt hf hout hinv
        refine .of_eq hexec ⟨f1, (by intro h; cases h), (by intro h; cases h), fun h => ?_, fun _ _ _ _ => ⟨h2, h4, hn⟩, f2, f3, honly⟩
        rcases h with h | ⟨-, h⟩
        · rw [hf] at h; cases h
        · simp [hout, hinv] at h
  · have hexec := ok_congr (s.guarded_mgmt hiss .pin p.val (fun s => s.cancelMarks p.val))
    exact .of_eq hexec ⟨s.pin_setPin_same p _, fun q hq => s.pin_setPin_ne _ _ _ hq, .of_regs rfl,
      ((Ev.refl (fieldMask [.regs, .pins]) s).setPin (by rfl) _ _).only_mask⟩
  · have hexec := ok_congr (s.guarded_mgmt hiss .pin p.val (fun s => s.windowClear p.val))
    exact .of_eq hexec ⟨s.pin_setPin_same p _, fun q hq => s.pin_setPin_ne _ _ _ hq, .of_regs rfl,
      ((Ev.refl (fieldMask [.regs, .pins]) s).setPin (by rfl) _ _).only_mask⟩
  · exact ok_congr (s.guarded_other hiss _ _ _)
  · exact ok_congr (s.guarded_other hiss _ _ _)
  · exact ok_congr (s.guarded_other hiss _ _ _)

end Sys2Proof
end

section
/-! Frames received on an active link (R268, R271 to R281): the state of a link, its retry buffer, its credits, and what each kind of frame does. -/

namespace Sys2Proof

open Machine

namespace Machine

/-! The registers of a link, and its state. -/

theorem chl_addr (l off : Nat) : (chl l off).addr = 0x20070100 + 0x40 * l + off := rfl

theorem chl_ne (l : Nat) {a b : Nat} (h : a ≠ b) : (chl l a).addr ≠ (chl l b).addr := by simp only [chl_addr]; omega

theorem State.lstate_of_rget {s u : State} {l : Nat} (h : u.rget (chl l 4) = s.rget (chl l 4)) : u.lstate l = s.lstate l := by
  unfold State.lstate State.rf
  rw [h]

theorem State.rf_of_rget {s u : State} {g : Reg} (h : u.rget g = s.rget g) (lo len : Nat) : u.rf g lo len = s.rf g lo len := by
  unfold State.rf
  rw [h]

theorem State.rb_of_rget {s u : State} {g : Reg} (h : u.rget g = s.rget g) (i : Nat) : u.rb g i = s.rb g i := by
  unfold State.rb
  rw [h]

theorem State.setLstate_frame {β : Type} (φ : State → β) (hφ : ∀ s g v, φ (State.rput s g v) = φ s) (s : State) (l st : Nat) :
    φ (s.setLstate l st) = φ s := by
  unfold State.setLstate
  split
  · exact hφ s _ _
  · exact (hφ _ _ _).trans (hφ s _ _)

theorem State.rget_setLstate_ne (s : State) {l st : Nat} {g : Reg} (h : g.addr ≠ (chl l 4).addr) : (s.setLstate l st).rget g = s.rget g := by
  unfold State.setLstate
  split
  · exact State.rget_rput_ne _ _ _ _ h
  · exact (State.rget_rput_ne _ _ _ _ h).trans (State.rget_rput_ne _ _ _ _ h)

/-- A link's state, once set, is read back. -/
theorem State.lstate_setLstate (s : State) {l st : Nat} (h : st < 8) : (s.setLstate l st).lstate l = st := by
  have hset : (s.rsetf (chl l 4) 0 3 st).rf (chl l 4) 0 3 = st := by
    rw [State.rf_rsetf_self _ _ _ _ _ (by decide)]
    exact Nat.mod_eq_of_lt (by omega)
  unfold State.setLstate State.lstate
  split
  · exact hset
  · exact (State.rf_rsetf_ne _ _ _ _ _ _ _ (by decide)).trans hset

/-- STAT's other bits stay when its STATE is set. -/
theorem State.rb_setLstate (s : State) {l st i : Nat} (h : 3 ≤ i ∧ i < 16 ∨ 20 ≤ i) : (s.setLstate l st).rb (chl l 4) i = s.rb (chl l 4) i := by
  have hset := s.rb_rsetf (chl l 4) 0 3 st i (by omega)
  unfold State.setLstate
  split
  · exact hset
  · exact (State.rb_rsetf _ _ _ _ _ _ (by omega)).trans hset

theorem State.rf_setLstate (s : State) {l st lo len : Nat} (h : 3 ≤ lo ∧ lo + len ≤ 16 ∨ 20 ≤ lo) : (s.setLstate l st).rf (chl l 4) lo len = s.rf (chl l 4) lo len := by
  have hset := s.rf_rsetf_ne (chl l 4) 0 3 st lo len (by omega)
  unfold State.setLstate
  split
  · exact hset
  · exact (State.rf_rsetf_ne _ _ _ _ _ _ _ (by omega)).trans hset

/-- The link's domain is none of its registers. -/
theorem linkDom_ne (l off : Nat) : (⟨.lmp, 0, 0x1000 + 4 * linkDom l⟩ : Reg).addr ≠ (chl l off).addr := by
  show 0x20010000 + (0x1000 + 4 * (696 + l)) ≠ 0x20070100 + 0x40 * l + off
  omega

theorem State.linkLit_of_rget {s u : State} {l : Nat} (h : u.rget ⟨.lmp, 0, 0x1000 + 4 * linkDom l⟩ = s.rget ⟨.lmp, 0, 0x1000 + 4 * linkDom l⟩) :
    u.linkLit l = s.linkLit l := by
  unfold State.linkLit State.dom State.rf
  rw [h]

theorem State.keepRegs_setLstate (s : State) (l st : Nat) : KeepRegs [chl l 4] s (s.setLstate l st) :=
  fun _ hg => s.rget_setLstate_ne (hg _ List.mem_cons_self)

theorem State.clink_sticky (s : State) (g : Reg) (i m : Nat) : (s.sticky g i).clink m = s.clink m := rfl

/-! RETRAIN (R276, R288). -/

theorem State.toRetrain_eq (s : State) (l : Nat) : s.toRetrain l =
    ((s.setLstate l 6).count (chl l 0x14) 24 8 1).setClink l
      { s.clink l with rephase := 2, passed := 0, resume := true, train := [], same := 0, replay := none } := by
  have h : ((s.setLstate l 6).count (chl l 0x14) 24 8 1).clink l = s.clink l := s.setLstate_frame (fun u => u.clink l) (fun _ _ _ => rfl) l 6
  rw [← h]
  rfl

theorem State.clink_toRetrain_ne (s : State) {l m : Nat} (h : m ≠ l) : (s.toRetrain l).clink m = s.clink m := by
  rw [State.toRetrain_eq, State.clink_setClink_ne _ _ _ _ h]
  exact s.setLstate_frame (fun u => u.clink m) (fun _ _ _ => rfl) l 6

theorem State.keepRegs_toRetrain (s : State) (l : Nat) : KeepRegs [chl l 4, chl l 0x14] s (s.toRetrain l) := by
  rw [State.toRetrain_eq]
  exact ((((s.keepRegs_setLstate l 6).mono (by simp)).count 24 8 1 (by simp))).then_regs rfl

/-- STAT keeps all but STATE and VER. -/
theorem State.rb_toRetrain (s : State) {l i : Nat} (h : 3 ≤ i ∧ i < 16 ∨ 20 ≤ i) : (s.toRetrain l).rb (chl l 4) i = s.rb (chl l 4) i := by
  rw [State.toRetrain_eq]
  exact (State.rb_of_rget (State.rget_count_ne (s.setLstate l 6) (chl l 0x14) (chl l 4) 24 8 1 (chl_ne l (by decide))) i).trans (s.rb_setLstate h)

/-- The other counts of a link stay when a retrain is counted. -/
theorem State.rf_toRetrain (s : State) {l lo len : Nat} (h : lo + len ≤ 24) : (s.toRetrain l).rf (chl l 0x14) lo len = s.rf (chl l 0x14) lo len := by
  rw [State.toRetrain_eq]
  exact ((s.setLstate l 6).rf_count_ne (chl l 0x14) 24 8 1 lo len (by omega)).trans (State.rf_of_rget (s.rget_setLstate_ne (chl_ne l (by decide))) _ _)

theorem State.toRetrain_retrains (s : State) (l : Nat) : Retrains s (s.toRetrain l) l (s.clink l) := by
  let v := s.setLstate l 6
  have hst : (v.count (chl l 0x14) 24 8 1).lstate l = 6 :=
    (State.lstate_of_rget (v.rget_count_ne (chl l 0x14) (chl l 4) 24 8 1 (chl_ne l (by decide)))).trans (s.lstate_setLstate (by decide))
  have hcnt : (v.count (chl l 0x14) 24 8 1).rf (chl l 0x14) 24 8 = min 255 (s.rf (chl l 0x14) 24 8 + 1) := by
    rw [← State.rf_of_rget (s.rget_setLstate_ne (st := 6) (g := chl l 0x14) (chl_ne l (by decide))) 24 8]
    exact v.rf_count_self (chl l 0x14) 24 8 1 (by decide)
  rw [State.toRetrain_eq]
  exact ⟨hst, hcnt, State.clink_setClink_same _ _ _⟩

/-! The headers of a frame (R268). -/

theorem State.keepRegs_badHeaders (s : State) (l b0 b1 : Nat) : KeepRegs [chl l 0x18] s (s.badHeaders l b0 b1) :=
  ((KeepRegs.refl _ s).count _ _ _ (by simp)).count _ _ _ (by simp)

theorem State.lstate_badHeaders (s : State) (l b0 b1 : Nat) : (s.badHeaders l b0 b1).lstate l = s.lstate l :=
  State.lstate_of_rget (s.keepRegs_badHeaders l b0 b1 _ (by simpa using chl_ne l (by decide)))

theorem State.linkLit_badHeaders (s : State) (l b0 b1 : Nat) : (s.badHeaders l b0 b1).linkLit l = s.linkLit l :=
  State.linkLit_of_rget (s.keepRegs_badHeaders l b0 b1 _ (by simpa using linkDom_ne l 0x18))

theorem State.clink_badHeaders (s : State) (l b0 b1 m : Nat) : (s.badHeaders l b0 b1).clink m = s.clink m := rfl

/-- The counts of the invalid headers of both lanes. -/
theorem State.rf_badHeaders (s : State) (l b0 b1 : Nat) :
    (s.badHeaders l b0 b1).rf (chl l 0x18) 0 8 = min 255 (s.rf (chl l 0x18) 0 8 + b0) ∧
    (s.badHeaders l b0 b1).rf (chl l 0x18) 16 8 = min 255 (s.rf (chl l 0x18) 16 8 + b1) := by
  let v := s.count (chl l 0x18) 0 8 b0
  constructor
  · exact (v.rf_count_ne (chl l 0x18) 16 8 b1 0 8 (by decide)).trans (s.rf_count_self (chl l 0x18) 0 8 b0 (by decide))
  · rw [← s.rf_count_ne (chl l 0x18) 0 8 b0 16 8 (by decide)]
    exact v.rf_count_self (chl l 0x18) 16 8 b1 (by decide)

theorem State.rb_badHeaders (s : State) (l b0 b1 : Nat) {i : Nat} (h : 8 ≤ i ∧ i < 16 ∨ 24 ≤ i) :
    (s.badHeaders l b0 b1).rb (chl l 0x18) i = s.rb (chl l 0x18) i :=
  ((s.count (chl l 0x18) 0 8 b0).rb_count (chl l 0x18) 16 8 b1 i (by omega)).trans (s.rb_count (chl l 0x18) 0 8 b0 i (by omega))

end Machine

/-- What every frame received on link l leaves: the other links, all registers but the link's, and the headers it counts. -/
def FrameLeaves (s u : State) (l b0 b1 : Nat) : Prop :=
  (∀ m, m ≠ l → u.clink m = s.clink m) ∧ KeepRegs [chl l 4, chl l 0x10, chl l 0x14, chl l 0x18] s u ∧ Only [.regs, .links] s u ∧
  u.rf (chl l 0x18) 0 8 = min 255 (s.rf (chl l 0x18) 0 8 + b0) ∧ u.rf (chl l 0x18) 16 8 = min 255 (s.rf (chl l 0x18) 16 8 + b1) ∧
  (∀ i, 8 ≤ i → i < 16 ∨ 24 ≤ i → u.rb (chl l 0x18) i = s.rb (chl l 0x18) i)

/-- A frame whose headers are counted, and that goes on with the other registers of its link. -/
theorem FrameLeaves.of_headers {s u : State} {l b0 b1 : Nat} (hclink : ∀ m, m ≠ l → u.clink m = s.clink m)
    (hkeep : KeepRegs [chl l 4, chl l 0x10, chl l 0x14] (s.badHeaders l b0 b1) u) (honly : Only [.regs, .links] s u) : FrameLeaves s u l b0 b1 := by
  have h18 : u.rget (chl l 0x18) = (s.badHeaders l b0 b1).rget (chl l 0x18) := by
    refine hkeep _ (fun g hg => ?_)
    simp only [List.mem_cons, List.not_mem_nil, or_false] at hg
    obtain rfl | rfl | rfl := hg <;> exact chl_ne l (by decide)
  obtain ⟨h0, h1⟩ := s.rf_badHeaders l b0 b1
  exact ⟨hclink, ((s.keepRegs_badHeaders l b0 b1).mono (by simp)).trans (hkeep.mono (by simp)), honly, (State.rf_of_rget h18 _ _).trans h0,
    (State.rf_of_rget h18 _ _).trans h1, fun i h8 hi => (State.rb_of_rget h18 i).trans (s.rb_badHeaders l b0 b1 (by omega))⟩

namespace Machine

/-! A damaged frame (R274, R276). -/

/-- A damaged frame that is not the replay of one that failed: it owes a NAK. -/
theorem State.badFrame_first {s : State} {l : Nat} {again : Bool} (h : again = false ∨ (s.clink l).fails = 0) :
    s.badFrame l again = (s.sticky (chl l 4) 31).setClink l { (s.clink l).oweNak with fails := 1 } := by
  refine if_neg (fun hc => ?_)
  obtain ⟨ha, hf⟩ := (Bool.and_eq_true _ _).mp hc
  have hf : 1 ≤ (s.clink l).fails := of_decide_eq_true hf
  rcases h with h | h
  · rw [ha] at h; cases h
  · omega

/-- CRCERR noted, and what the link owes. -/
theorem State.owing_leaves (s : State) (l : Nat) (k : CLink) :
    let u := (s.sticky (chl l 4) 31).setClink l k
    u.rb (chl l 4) 31 = true ∧ u.lstate l = s.lstate l ∧ u.clink l = k ∧ (∀ m, m ≠ l → u.clink m = s.clink m) ∧ KeepRegs [chl l 4] s u :=
  ⟨s.rb_sticky_self (chl l 4) 31 (by decide), s.rf_sticky (chl l 4) 31 0 3 (by decide), (s.sticky (chl l 4) 31).clink_setClink_same l k,
    fun m hm => (s.sticky (chl l 4) 31).clink_setClink_ne l m k hm, ((KeepRegs.refl [chl l 4] s).sticky 31 (by simp)).then_regs rfl⟩

/-- The link as it stands before a lasting fault of its frames takes it to RETRAIN. -/
def State.lastingFrom (s : State) (l : Nat) : State :=
  (((s.sticky (chl l 4) 31).setClink l { (s.clink l).oweNak with fails := 0 }).sticky (chl l 4) 30).count (chl l 0x14) 16 8 1

theorem State.badFrame_again {s : State} {l : Nat} (h : (s.clink l).fails ≠ 0) : s.badFrame l true = (s.lastingFrom l).toRetrain l :=
  if_pos ((Bool.and_eq_true _ _).mpr ⟨rfl, decide_eq_true (show 1 ≤ (s.clink l).fails by omega)⟩)

theorem State.rb_lastingFrom (s : State) {l i : Nat} (h : i = 30 ∨ i = 31) : (s.lastingFrom l).rb (chl l 4) i = true := by
  refine (State.rb_of_rget (State.rget_count_ne _ _ _ _ _ _ (chl_ne l (by decide))) i).trans ?_
  rcases h with rfl | rfl
  · exact State.rb_sticky_self _ _ _ (by decide)
  · exact (State.rb_sticky_bit _ _ _ _ (by decide)).trans (State.rb_sticky_self s _ _ (by decide))

theorem State.rf_lastingFrom (s : State) (l : Nat) :
    (s.lastingFrom l).rf (chl l 0x14) 16 8 = min 255 (s.rf (chl l 0x14) 16 8 + 1) ∧ (s.lastingFrom l).rf (chl l 0x14) 24 8 = s.rf (chl l 0x14) 24 8 := by
  let v := ((s.sticky (chl l 4) 31).setClink l { (s.clink l).oweNak with fails := 0 }).sticky (chl l 4) 30
  have hv : v.rget (chl l 0x14) = s.rget (chl l 0x14) :=
    (State.rget_sticky_ne ((s.sticky (chl l 4) 31).setClink l { (s.clink l).oweNak with fails := 0 }) _ _ _ (chl_ne l (by decide))).trans
      (State.rget_sticky_ne s _ _ _ (chl_ne l (by decide)))
  constructor
  · refine (State.rf_count_self v _ _ _ _ (by decide)).trans ?_
    rw [State.rf_of_rget hv]
    rfl
  · exact (State.rf_count_ne v _ _ _ _ _ _ (by decide)).trans (State.rf_of_rget hv _ _)

theorem State.keepRegs_lastingFrom (s : State) (l : Nat) : KeepRegs [chl l 4, chl l 0x14] s (s.lastingFrom l) :=
  (((((KeepRegs.refl _ s).sticky 31 (by simp)).then_regs
    (u := (s.sticky (chl l 4) 31).setClink l { (s.clink l).oweNak with fails := 0 }) rfl).sticky 30 (by simp)).count 16 8 1 (by simp))

theorem State.clink_lastingFrom (s : State) (l : Nat) : (s.lastingFrom l).clink l = { (s.clink l).oweNak with fails := 0 } :=
  State.clink_setClink_same (s.sticky (chl l 4) 31) _ _

theorem State.clink_lastingFrom_ne (s : State) {l m : Nat} (h : m ≠ l) : (s.lastingFrom l).clink m = s.clink m :=
  State.clink_setClink_ne (s.sticky (chl l 4) 31) _ _ _ h

end Machine

open Machine

section
variable {l : Fin 32} {ws : List Word} {bad0 bad1 : Fin 9} {again : Bool} {ts : Nat} {s : State}

/-- A frame received while the link is ACTIVE and Lit is taken after its headers are counted. -/
theorem exec_frameReceive (hst : s.lstate l = 5) (hlit : s.linkLit l = true) : exec (.frameReceive l ws ⟨bad0, bad1, again⟩ ts) s =
    .next ((s.badHeaders l bad0 bad1).frameIn l ws (decide (bad0.val + bad1.val ≠ 0)) again ts) := if_pos ⟨hst, hlit⟩

theorem frameReceive_leaves {u : State} (hexec : exec (.frameReceive l ws ⟨bad0, bad1, again⟩ ts) s = .next u) (hclink : ∀ m, m ≠ l.val → u.clink m = s.clink m)
    (hkeep : KeepRegs [chl l 4, chl l 0x10, chl l 0x14] (s.badHeaders l bad0 bad1) u) : FrameLeaves s u l bad0 bad1 :=
  .of_headers hclink hkeep ((execFrameReceive_ev l ws ⟨bad0, bad1, again⟩ ts (Ev.refl (fieldMask [.regs, .links]) s) (by rfl)).only hexec)

theorem State.frameIn_damaged {v : State} {l : Nat} {hdrBad : Bool} (hst : v.lstate l = 5) (hlit : v.linkLit l = true) (hbad : hdrBad = true ∨ crcOk ws = false) :
    v.frameIn l ws hdrBad again ts = v.badFrame l again := by
  unfold State.frameIn
  rcases hbad with hb | hb <;> simp [hst, hlit, hb]

theorem damaged_iff : ¬ (bad0 = 0 ∧ bad1 = 0 ∧ crcOk ws = true) ↔ decide (bad0.val + bad1.val ≠ 0) = true ∨ crcOk ws = false := by
  have h (b : Fin 9) : b = 0 ↔ b.val = 0 := Fin.ext_iff
  rw [h, h, decide_eq_true_eq]
  cases crcOk ws with
  | true => simp only [and_true, Bool.true_eq_false, or_false]; omega
  | false => simp

/-- R274, R276: a damaged frame. -/
theorem frameReceive_damaged (hst : s.lstate l = 5) (hlit : s.linkLit l = true) (hbad : ¬ (bad0 = 0 ∧ bad1 = 0 ∧ crcOk ws = true)) :
    Does (.frameReceive l ws ⟨bad0, bad1, again⟩ ts) s (fun u => u.rb (chl l 4) 31 = true ∧ FrameLeaves s u l bad0 bad1 ∧
      (again = false ∨ (s.clink l).fails = 0 → u.lstate l = 5 ∧ u.clink l = { s.clink l with nak := if (s.clink l).nak = 2 then 2 else 1, fails := 1 }) ∧
      (again = true → (s.clink l).fails ≠ 0 → u.rb (chl l 4) 30 = true ∧ u.rf (chl l 0x14) 16 8 = min 255 (s.rf (chl l 0x14) 16 8 + 1) ∧
        Retrains s u l { s.clink l with nak := if (s.clink l).nak = 2 then 2 else 1, fails := 0 })) := by
  let v := s.badHeaders l bad0 bad1
  have hvst : v.lstate l = 5 := (s.lstate_badHeaders l bad0 bad1).trans hst
  have hvlit : v.linkLit l = true := (s.linkLit_badHeaders l bad0 bad1).trans hlit
  have hexec : exec (.frameReceive l ws ⟨bad0, bad1, again⟩ ts) s = .next (v.badFrame l again) :=
    (exec_frameReceive hst hlit).trans (congrArg ok (State.frameIn_damaged hvst hvlit (damaged_iff.mp hbad)))
  have hk : v.clink l = s.clink l := s.clink_badHeaders l bad0 bad1 l
  have hkne (m : Nat) : v.clink m = s.clink m := s.clink_badHeaders l bad0 bad1 m
  by_cases hc : again = false ∨ (s.clink l).fails = 0
  · have hbf := State.badFrame_first (s := v) (l := l) (again := again) (hk.symm ▸ hc)
    rw [hbf] at hexec
    obtain ⟨h31, h5, hself, hother, hkeep⟩ := v.owing_leaves l { (v.clink l).oweNak with fails := 1 }
    rw [hk] at hself
    exact .of_eq hexec ⟨h31, frameReceive_leaves hexec (fun m hm => (hother m hm).trans (hkne m)) (hkeep.mono (by simp)),
      fun _ => ⟨h5.trans hvst, hself⟩, fun ha hf => absurd hc (by simp [ha, hf])⟩
  · obtain ⟨hagain, hfails⟩ := not_or.mp hc
    obtain rfl : again = true := by simpa using hagain
    rw [State.badFrame_again (s := v) hfails] at hexec
    have hret := (v.lastingFrom l).toRetrain_retrains l
    obtain ⟨h16, h24⟩ := v.rf_lastingFrom l
    have hs : ∀ lo len, v.rf (chl l 0x14) lo len = s.rf (chl l 0x14) lo len := fun lo len =>
      State.rf_of_rget (s.keepRegs_badHeaders l bad0 bad1 _ (by simpa using chl_ne l (by decide))) lo len
    rw [v.clink_lastingFrom l] at hret
    obtain ⟨hst6, hcnt, hk⟩ := hret
    rw [h24, hs] at hcnt
    rw [hs] at h16
    refine .of_eq hexec ⟨((v.lastingFrom l).rb_toRetrain (by decide)).trans (v.rb_lastingFrom (.inr rfl)),
      frameReceive_leaves hexec (fun m hm => ((v.lastingFrom l).clink_toRetrain_ne hm).trans (v.clink_lastingFrom_ne hm))
        (((v.keepRegs_lastingFrom l).mono (by simp)).trans (((v.lastingFrom l).keepRegs_toRetrain l).mono (by simp))), fun h => absurd h hc,
      fun _ _ => ⟨((v.lastingFrom l).rb_toRetrain (by decide)).trans (v.rb_lastingFrom (.inl rfl)), ((v.lastingFrom l).rf_toRetrain (by decide)).trans h16,
        hst6, hcnt, hk⟩⟩

end

namespace Machine

/-! The retry buffer (R275). -/

/-- The link after a good frame's ACK and NAK. -/
def CLink.replied (k : CLink) (w0 : Word) : CLink := if bit w0 3 then (k.acked (fld w0 4 12)).naked (fld w0 4 12) else k.acked (fld w0 4 12)

/-- A replay is all that a NAK starts. -/
theorem CLink.startReplay_eq (k : CLink) : ∃ p, k.startReplay = { k with replay := p } := by
  unfold CLink.startReplay
  split <;> exact ⟨_, rfl⟩

theorem CLink.naked_eq (k : CLink) (a : Nat) : ∃ p, k.naked a = { k with replay := p } := by
  unfold CLink.naked
  split
  · split
    · exact ⟨_, rfl⟩
    · exact k.startReplay_eq
  · exact k.startReplay_eq

theorem CLink.acked_eq (k : CLink) (a : Nat) : ∃ p, k.acked a = { k with retry := (k.acked a).retry, replay := p } := by
  unfold CLink.acked
  split <;> exact ⟨_, rfl⟩

/-- An ACK and a NAK change the retry buffer, by the ACK, and the replay. -/
theorem CLink.replied_eq (k : CLink) (w0 : Word) : ∃ p, k.replied w0 = { k with retry := (k.acked (fld w0 4 12)).retry, replay := p } := by
  obtain ⟨p, hp⟩ := k.acked_eq (fld w0 4 12)
  unfold CLink.replied
  split
  · obtain ⟨q, hq⟩ := (k.acked (fld w0 4 12)).naked_eq (fld w0 4 12)
    exact ⟨q, hq.trans (by rw [hp])⟩
  · exact ⟨p, hp⟩

theorem CLink.acked_none {k : CLink} {a : Nat} (h : ∀ f ∈ k.retry, f.seq ≠ a) : k.acked a = k :=
  if_neg (by simpa using h)

theorem CLink.retry_acked {k : CLink} {a : Nat} {pre post : List TxFrame} {f : TxFrame} (hk : k.retry = pre ++ f :: post) (hf : f.seq = a)
    (hpre : ∀ g ∈ pre, g.seq ≠ a) : (k.acked a).retry = post := by
  have hany : k.retry.any (fun f => f.seq == a) = true := by simp [hk, hf]
  have hdrop : k.retry.dropWhile (fun f => f.seq != a) = f :: post := by
    rw [hk, List.dropWhile_append_of_pos (by simpa using hpre)]
    simp [hf]
  unfold CLink.acked
  rw [if_pos hany, hdrop]
  rfl

theorem CLink.replay_acked {k : CLink} {a : Nat} (h : k.replay = none) : (k.acked a).replay = none := by
  unfold CLink.acked
  split
  · simp [h]
  · exact h

theorem CLink.replay_startReplay {k : CLink} {f : TxFrame} {rest : List TxFrame} (h : k.retry = f :: rest) : k.startReplay.replay = some (f.seq, f.seq) := by
  unfold CLink.startReplay
  rw [h]

theorem CLink.naked_idle {k : CLink} {a : Nat} (h : k.replay = none) : k.naked a = k.startReplay := by
  unfold CLink.naked
  rw [h]

theorem CLink.naked_running {k : CLink} {a n st : Nat} (h : k.replay = some (n, st)) (hst : seqAfter ((a + 1) % 4096) st = true) : k.naked a = k := by
  unfold CLink.naked
  rw [h]
  exact if_pos hst

/-- What a good frame's ACK and NAK make of the retry buffer and of the replay. -/
def RetryReplied (k k1 : CLink) (w0 : Word) : Prop :=
  (∀ pre f post, k.retry = pre ++ f :: post → f.seq = fld w0 4 12 → (∀ g ∈ pre, g.seq ≠ fld w0 4 12) → k1.retry = post) ∧
  ((∀ f ∈ k.retry, f.seq ≠ fld w0 4 12) → k1.retry = k.retry) ∧
  (bit w0 3 = true → k.replay = none → ∀ f rest, k1.retry = f :: rest → k1.replay = some (f.seq, f.seq)) ∧
  (bit w0 3 = true → (∀ f ∈ k.retry, f.seq ≠ fld w0 4 12) → ∀ n st, k.replay = some (n, st) → seqAfter ((fld w0 4 12 + 1) % 4096) st = true → k1.replay = some (n, st)) ∧
  (bit w0 3 = false → k.replay = none → k1.replay = none)

theorem CLink.replied_replies (k : CLink) (w0 : Word) : RetryReplied k (k.replied w0) w0 := by
  obtain ⟨p, hp⟩ := k.replied_eq w0
  have hretry : (k.replied w0).retry = (k.acked (fld w0 4 12)).retry := by rw [hp]
  refine ⟨fun pre f post hk hf hpre => ?_, fun h => ?_, fun h3 hnone f rest hr => ?_, fun h3 h n st hn hst => ?_, fun h3 hnone => ?_⟩
  · rw [hretry]
    exact CLink.retry_acked hk hf hpre
  · rw [hretry, CLink.acked_none h]
  · rw [hretry] at hr
    rw [CLink.replied, if_pos h3, CLink.naked_idle (CLink.replay_acked hnone)]
    exact CLink.replay_startReplay hr
  · rw [CLink.replied, if_pos h3, CLink.acked_none h, CLink.naked_running hn hst, hn]
  · rw [CLink.replied, if_neg (by simp [h3])]
    exact CLink.replay_acked hnone

/-! Credits (R278). -/

/-- Credits returned to a class. -/
def State.credit (l : Nat) (x : Nat → Nat) (s : State) (c : Nat) : State :=
  s.rsetf (chl l 0x10) (24 - 8 * c) 8 (s.rf (chl l 0x10) (24 - 8 * c) 8 + x c)

/-- Credits returned to every class. -/
def State.credits (s : State) (l : Nat) (x : Nat → Nat) : State := s.each (List.range 4) (State.credit l x)

theorem State.rf_credit_self (l : Nat) (x : Nat → Nat) (s : State) {c : Nat} :
    (s.credit l x c).rf (chl l 0x10) (24 - 8 * c) 8 = (s.rf (chl l 0x10) (24 - 8 * c) 8 + x c) % 256 := s.rf_rsetf_self _ _ _ _ (by omega)

theorem State.rf_credit_ne (l : Nat) (x : Nat → Nat) (s : State) {a c : Nat} (ha : a < 4) (hc : c < 4) (hac : a ≠ c) :
    (s.credit l x a).rf (chl l 0x10) (24 - 8 * c) 8 = s.rf (chl l 0x10) (24 - 8 * c) 8 := s.rf_rsetf_ne _ _ _ _ _ _ (by omega)

/-- The credits of each class, one field for each. -/
theorem State.rf_credits (s : State) (l : Nat) (x : Nat → Nat) {c : Nat} (hc : c < 4) :
    (s.credits l x).rf (chl l 0x10) (24 - 8 * c) 8 = (s.rf (chl l 0x10) (24 - 8 * c) 8 + x c) % 256 :=
  (State.each_at (fun u => u.rf (chl l 0x10) (24 - 8 * c) 8) (fun _ => ()) (fun _ y => (y + x c) % 256) (f := State.credit l x) (k := c) (fun _ _ _ => rfl)
    (fun u _ => State.rf_credit_self l x u) (fun u _ ha hac => State.rf_credit_ne l x u (List.mem_range.mp ha) hc hac) s List.nodup_range).trans
    (if_pos (List.mem_range.mpr hc))

theorem State.clink_credits (s : State) (l : Nat) (x : Nat → Nat) (m : Nat) : (s.credits l x).clink m = s.clink m :=
  State.each_inv (fun u => u.clink m) (f := State.credit l x) (fun _ _ => rfl) s (List.range 4)

theorem State.keepRegs_credits (s : State) (l : Nat) (x : Nat → Nat) : KeepRegs [chl l 0x10] s (s.credits l x) :=
  (KeepRegs.refl _ s).each (fun _ _ _ hu => hu.rput _ (by simp))

/-- The credits that the running counts `w` return, after the counts `old`. -/
def returned (w old : Word) (c : Nat) : Nat := (fld w (24 - 8 * c) 8 + 256 - fld old (24 - 8 * c) 8) % 256

theorem State.takeCredits_eq (s : State) (l : Nat) (w : Word) : s.takeCredits l w =
    (s.credits l (returned w (s.clink l).peerFreed)).setClink l
      { (s.credits l (returned w (s.clink l).peerFreed)).clink l with peerFreed := w } := rfl

theorem State.takeCredits_leaves (s : State) (l : Nat) (w : Word) :
    (s.takeCredits l w).clink l = { s.clink l with peerFreed := w } ∧ (∀ m, m ≠ l → (s.takeCredits l w).clink m = s.clink m) ∧
    KeepRegs [chl l 0x10] s (s.takeCredits l w) := by
  rw [State.takeCredits_eq]
  have hkeep := s.keepRegs_credits l (returned w (s.clink l).peerFreed)
  have hv := s.clink_credits l (returned w (s.clink l).peerFreed)
  generalize s.credits l (returned w (s.clink l).peerFreed) = v at hkeep hv ⊢
  exact ⟨(v.clink_setClink_same l _).trans (by rw [hv]), fun m hm => (v.clink_setClink_ne l m _ hm).trans (hv m), hkeep.then_regs rfl⟩

theorem State.rf_takeCredits (s : State) (l : Nat) (w : Word) {q : Nat} (hq : q < 4) : (s.takeCredits l w).rf (chl l 0x10) (8 * q) 8 =
    (s.rf (chl l 0x10) (8 * q) 8 + (fld w (8 * q) 8 + 256 - fld (s.clink l).peerFreed (8 * q) 8)) % 256 := by
  have h := s.rf_credits l (returned w (s.clink l).peerFreed) (c := 3 - q) (by omega)
  unfold returned at h
  rw [show 24 - 8 * (3 - q) = 8 * q by omega, Nat.add_mod_mod] at h
  rw [← h, State.takeCredits_eq]
  unfold returned
  generalize s.credits l _ = v
  rfl

/-- A good frame's ACK, NAK and running counts taken, before what it carries. -/
def State.replyTaken (s : State) (l : Nat) (ws : List Word) : State :=
  (s.setClink l ((s.clink l).replied (nth 0 ws 0))).takeCredits l (nth 0 ws 1)

theorem State.replyTaken_leaves (s : State) (l : Nat) (ws : List Word) :
    (s.replyTaken l ws).clink l = { (s.clink l).replied (nth 0 ws 0) with peerFreed := nth 0 ws 1 } ∧
    (∀ m, m ≠ l → (s.replyTaken l ws).clink m = s.clink m) ∧ KeepRegs [chl l 0x10] s (s.replyTaken l ws) := by
  let v := s.setClink l ((s.clink l).replied (nth 0 ws 0))
  obtain ⟨hself, hother, hkeep⟩ := v.takeCredits_leaves l (nth 0 ws 1)
  rw [show v.clink l = _ from s.clink_setClink_same l _] at hself
  exact ⟨hself, fun m hm => (hother m hm).trans (s.clink_setClink_ne l m _ hm), hkeep⟩

theorem State.rf_replyTaken (s : State) (l : Nat) (ws : List Word) {q : Nat} (hq : q < 4) : (s.replyTaken l ws).rf (chl l 0x10) (8 * q) 8 =
    (s.rf (chl l 0x10) (8 * q) 8 + (fld (nth 0 ws 1) (8 * q) 8 + 256 - fld (s.clink l).peerFreed (8 * q) 8)) % 256 := by
  let v := s.setClink l ((s.clink l).replied (nth 0 ws 0))
  have h := v.rf_takeCredits l (nth 0 ws 1) hq
  obtain ⟨p, hp⟩ := (s.clink l).replied_eq (nth 0 ws 0)
  have hfreed : (v.clink l).peerFreed = (s.clink l).peerFreed := by
    rw [show v.clink l = _ from s.clink_setClink_same l _, hp]
  rw [hfreed] at h
  exact h

/-! What a good frame carries (R271 to R281). -/

theorem State.frameIn_train {s : State} {l : Nat} {ws : List Word} {again : Bool} {ts : Nat} (hst : s.lstate l = 5) (hlit : s.linkLit l = true)
    (hcrc : crcOk ws = true) (hft : fld (nth 0 ws 0) 28 4 = 15) : s.frameIn l ws false again ts = s := by
  unfold State.frameIn
  rw [if_neg (by simp [hst, hlit]), if_neg (by simp [hcrc]), if_pos hft]

/-- A good frame other than TRAIN. -/
theorem State.frameIn_good {s : State} {l : Nat} {ws : List Word} {again : Bool} {ts : Nat} (hst : s.lstate l = 5) (hlit : s.linkLit l = true)
    (hcrc : crcOk ws = true) (hft : fld (nth 0 ws 0) 28 4 ≠ 15) : s.frameIn l ws false again ts =
    if fld (nth 0 ws 0) 28 4 = 0 then s.replyTaken l ws
    else if fld (nth 0 ws 0) 28 4 = 1 then
      if fld (nth 0 ws 0) 16 12 = (s.clink l).rxSeq then (s.replyTaken l ws).acceptFrame l ws again ts
      else if seqAfter (fld (nth 0 ws 0) 16 12) (s.clink l).rxSeq then (s.replyTaken l ws).setClink l ((s.replyTaken l ws).clink l).oweNak
      else s.replyTaken l ws
    else (s.replyTaken l ws).sticky (chl l 4) 27 := by
  obtain ⟨p, hp⟩ := (s.clink l).replied_eq (nth 0 ws 0)
  have hseq : ((s.clink l).replied (nth 0 ws 0)).rxSeq = (s.clink l).rxSeq := by rw [hp]
  rw [← hseq]
  unfold State.frameIn
  rw [if_neg (by simp [hst, hlit]), if_neg (by simp [hcrc]), if_neg hft]
  rfl

/-! A MSG frame accepted (R274, R277, R280, R281). -/

/-- The messages of a frame. -/
def frameMsgs (ws : List Word) : List (Msg × Bool) := parseMsgs (fld (nth 0 ws 0) 0 2) 13 ((ws.drop 2).take 13)

/-- The link with a frame's messages in order waiting, or its buffer freed at once. -/
def CLink.accepted (k : CLink) (ws : List Word) (ts : Nat) : CLink :=
  let good := ((frameMsgs ws).filter (·.2)).map (·.1)
  { k with rxSeq := (k.rxSeq + 1) % 4096, nak := if k.nak = 1 then 1 else 0, fails := 0,
           rx := if good.isEmpty then k.rx else k.rx ++ [⟨fld (nth 0 ws 0) 0 2, good, ts⟩],
           freed := if good.isEmpty then freeOne k.freed (fld (nth 0 ws 0) 0 2) else k.freed }

theorem CLink.accepted_ordered (k : CLink) {ws : List Word} (ts : Nat) (h : ∀ m ∈ frameMsgs ws, m.2 = true) (hne : frameMsgs ws ≠ []) :
    (k.accepted ws ts).rx = k.rx ++ [⟨fld (nth 0 ws 0) 0 2, (frameMsgs ws).map (·.1), ts⟩] ∧ (k.accepted ws ts).freed = k.freed := by
  have hall : (frameMsgs ws).filter (·.2) = frameMsgs ws := List.filter_eq_self.mpr h
  simp [CLink.accepted, hall, hne]

theorem CLink.accepted_disordered (k : CLink) {ws : List Word} (ts : Nat) (h : ∀ m ∈ frameMsgs ws, m.2 = false) :
    (k.accepted ws ts).rx = k.rx ∧ (k.accepted ws ts).freed = freeOne k.freed (fld (nth 0 ws 0) 0 2) := by
  have hnone : (frameMsgs ws).filter (·.2) = [] := List.filter_eq_nil_iff.mpr (fun m hm => by simp [h m hm])
  simp [CLink.accepted, hnone]

/-- A transient error of a frame that failed once is counted. -/
def State.transientFrame (s : State) (l : Nat) (c : Bool) : State := if c then s.count (chl l 0x14) 0 16 1 else s

theorem State.acceptFrame_eq (s : State) (l : Nat) (ws : List Word) (again : Bool) (ts : Nat) : s.acceptFrame l ws again ts =
    let v := (s.setClink l ((s.clink l).accepted ws ts)).transientFrame l (again && (s.clink l).fails == 1)
    if (frameMsgs ws).all (·.2) then v else v.sticky (chl l 4) 27 := rfl

theorem State.transientFrame_leaves (s : State) (l : Nat) (c : Bool) : (∀ m, (s.transientFrame l c).clink m = s.clink m) ∧
    KeepRegs [chl l 0x14] s (s.transientFrame l c) ∧
    (s.transientFrame l c).rf (chl l 0x14) 0 16 = if c = true then min 0xFFFF (s.rf (chl l 0x14) 0 16 + 1) else s.rf (chl l 0x14) 0 16 := by
  cases c with
  | false => exact ⟨fun _ => rfl, .refl _ _, rfl⟩
  | true => exact ⟨fun _ => rfl, (KeepRegs.refl _ s).count 0 16 1 (by simp), s.rf_count_self (chl l 0x14) 0 16 1 (by decide)⟩

/-- What the content of a good frame on link l leaves, after its ACK, NAK and counts. -/
structure CarriedLeaves (v u : State) (l : Nat) : Prop where
  lstate : u.lstate l = v.lstate l
  retry : (u.clink l).retry = (v.clink l).retry
  replay : (u.clink l).replay = (v.clink l).replay
  peerFreed : (u.clink l).peerFreed = (v.clink l).peerFreed
  nextSeq : (u.clink l).nextSeq = (v.clink l).nextSeq
  txq : (u.clink l).txq = (v.clink l).txq
  others : ∀ m, m ≠ l → u.clink m = v.clink m
  regs : KeepRegs [chl l 4, chl l 0x14] v u

theorem CarriedLeaves.refl (v : State) (l : Nat) : CarriedLeaves v v l := ⟨rfl, rfl, rfl, rfl, rfl, rfl, fun _ _ => rfl, .refl _ _⟩

/-- PROT noted (R281). -/
theorem CarriedLeaves.sticky {v u : State} {l : Nat} (h : CarriedLeaves v u l) : CarriedLeaves v (u.sticky (chl l 4) 27) l :=
  ⟨(u.rf_sticky (chl l 4) 27 0 3 (by decide)).trans h.lstate, h.retry, h.replay, h.peerFreed, h.nextSeq, h.txq, h.others, h.regs.sticky 27 (by simp)⟩

theorem State.acceptFrame_carried (s : State) (l : Nat) (ws : List Word) (again : Bool) (ts : Nat) :
    CarriedLeaves s (s.acceptFrame l ws again ts) l ∧ (s.acceptFrame l ws again ts).clink l = (s.clink l).accepted ws ts ∧
    (s.acceptFrame l ws again ts).rb (chl l 4) 27 = (s.rb (chl l 4) 27 || !(frameMsgs ws).all (·.2)) ∧
    (s.acceptFrame l ws again ts).rf (chl l 0x14) 0 16 =
      if again = true ∧ (s.clink l).fails = 1 then min 0xFFFF (s.rf (chl l 0x14) 0 16 + 1) else s.rf (chl l 0x14) 0 16 := by
  rw [State.acceptFrame_eq]
  let x := s.setClink l ((s.clink l).accepted ws ts)
  obtain ⟨hclink, hkeep, hcnt⟩ := x.transientFrame_leaves l (again && (s.clink l).fails == 1)
  show CarriedLeaves s (if (frameMsgs ws).all (·.2) then x.transientFrame l _ else (x.transientFrame l _).sticky (chl l 4) 27) l ∧ _
  generalize x.transientFrame l (again && (s.clink l).fails == 1) = v at hclink hkeep hcnt ⊢
  have hself : v.clink l = (s.clink l).accepted ws ts := (hclink l).trans (s.clink_setClink_same l _)
  have h4 : v.rget (chl l 4) = s.rget (chl l 4) := hkeep _ (by simpa using chl_ne l (by decide))
  have hv : CarriedLeaves s v l := ⟨State.lstate_of_rget h4, by rw [hself]; rfl, by rw [hself]; rfl, by rw [hself]; rfl, by rw [hself]; rfl,
    by rw [hself]; rfl, fun m hm => (hclink m).trans (s.clink_setClink_ne l m _ hm), fun g hg => hkeep g (fun k hk => hg k (List.mem_cons_of_mem _ hk))⟩
  have hcnt' : v.rf (chl l 0x14) 0 16 = if again = true ∧ (s.clink l).fails = 1 then min 0xFFFF (s.rf (chl l 0x14) 0 16 + 1) else s.rf (chl l 0x14) 0 16 := by
    rw [show x.rf (chl l 0x14) 0 16 = s.rf (chl l 0x14) 0 16 from rfl] at hcnt
    simpa using hcnt
  cases hall : (frameMsgs ws).all (·.2) with
  | true => exact ⟨hv, hself, by simpa using State.rb_of_rget h4 27, hcnt'⟩
  | false =>
    refine ⟨hv.sticky, hself, by simpa using v.rb_sticky_self (chl l 4) 27 (by decide), ?_⟩
    exact (State.rf_of_rget (v.rget_sticky_ne (chl l 4) (chl l 0x14) 27 (chl_ne l (by decide))) 0 16).trans hcnt'

/-- R274: a NAK is owed for a frame beyond the one expected. -/
theorem State.oweNak_carried (s : State) (l : Nat) : CarriedLeaves s (s.setClink l (s.clink l).oweNak) l ∧
    (s.setClink l (s.clink l).oweNak).clink l = (s.clink l).oweNak := by
  have h := s.clink_setClink_same l (s.clink l).oweNak
  exact ⟨⟨rfl, by rw [h]; rfl, by rw [h]; rfl, by rw [h]; rfl, by rw [h]; rfl, by rw [h]; rfl, fun m hm => s.clink_setClink_ne l m _ hm, .refl _ _⟩, h⟩

end Machine

open Machine

section
variable {l : Fin 32} {ws : List Word} {bad0 bad1 : Fin 9} {again : Bool} {ts : Nat} {s : State}

/-- The state with a good frame's headers counted and its ACK, NAK and counts taken. -/
def Machine.State.framed (s : State) (l : Nat) (ws : List Word) : State := (s.badHeaders l 0 0).replyTaken l ws

theorem framed_leaves (s : State) (l : Nat) (ws : List Word) :
    (s.framed l ws).clink l = { (s.clink l).replied (nth 0 ws 0) with peerFreed := nth 0 ws 1 } ∧ (∀ m, m ≠ l → (s.framed l ws).clink m = s.clink m) ∧
    KeepRegs [chl l 0x10] (s.badHeaders l 0 0) (s.framed l ws) := by
  obtain ⟨hself, hother, hkeep⟩ := (s.badHeaders l 0 0).replyTaken_leaves l ws
  exact ⟨hself, hother, hkeep⟩

theorem rget_framed (s : State) (l : Nat) (ws : List Word) {off : Nat} (h10 : off ≠ 0x10) (h18 : off ≠ 0x18) :
    (s.framed l ws).rget (chl l off) = s.rget (chl l off) := by
  obtain ⟨-, -, hkeep⟩ := framed_leaves s l ws
  exact (hkeep _ (by simpa using chl_ne l h10)).trans (s.keepRegs_badHeaders l 0 0 _ (by simpa using chl_ne l h18))

/-- What every good frame but TRAIN does, whatever it carries: `v` to `u`. -/
theorem framed_carried {s u : State} {l : Nat} (hst : s.lstate l = 5) (h : CarriedLeaves (s.framed l ws) u l) :
    u.lstate l = 5 ∧ (u.clink l).peerFreed = nth 0 ws 1 ∧ (u.clink l).nextSeq = (s.clink l).nextSeq ∧ (u.clink l).txq = (s.clink l).txq ∧
    (∀ q < 4, u.rf (chl l 0x10) (8 * q) 8 =
      (s.rf (chl l 0x10) (8 * q) 8 + (fld (nth 0 ws 1) (8 * q) 8 + 256 - fld (s.clink l).peerFreed (8 * q) 8)) % 256) ∧
    RetryReplied (s.clink l) (u.clink l) (nth 0 ws 0) := by
  obtain ⟨hself, -, hkeep⟩ := framed_leaves s l ws
  obtain ⟨p, hp⟩ := (s.clink l).replied_eq (nth 0 ws 0)
  have h10 : u.rget (chl l 0x10) = (s.framed l ws).rget (chl l 0x10) := h.regs _ (fun g hg => by
    simp only [List.mem_cons, List.not_mem_nil, or_false] at hg
    obtain rfl | rfl := hg <;> exact chl_ne l (by decide))
  have hs10 : (s.badHeaders l 0 0).rget (chl l 0x10) = s.rget (chl l 0x10) := s.keepRegs_badHeaders l 0 0 _ (by simpa using chl_ne l (by decide))
  refine ⟨h.lstate.trans ((State.lstate_of_rget (rget_framed s l ws (by decide) (by decide))).trans hst), by rw [h.peerFreed, hself],
    by rw [h.nextSeq, hself, hp], by rw [h.txq, hself, hp], fun q hq => ?_, ?_⟩
  · refine (State.rf_of_rget h10 _ _).trans (((s.badHeaders l 0 0).rf_replyTaken l ws hq).trans ?_)
    rw [State.rf_of_rget hs10]
    rfl
  · have hrep := (s.clink l).replied_replies (nth 0 ws 0)
    unfold RetryReplied at hrep ⊢
    rw [h.retry, h.replay, hself]
    exact hrep

/-- The headers of a good frame are all valid. -/
theorem exec_frameReceive_good (hst : s.lstate l = 5) (hlit : s.linkLit l = true) (hcrc : crcOk ws = true) (hft : fld (nth 0 ws 0) 28 4 ≠ 15) :
    exec (.frameReceive l ws ⟨0, 0, again⟩ ts) s = .next (
      if fld (nth 0 ws 0) 28 4 = 0 then s.framed l ws
      else if fld (nth 0 ws 0) 28 4 = 1 then
        if fld (nth 0 ws 0) 16 12 = (s.clink l).rxSeq then (s.framed l ws).acceptFrame l ws again ts
        else if seqAfter (fld (nth 0 ws 0) 16 12) (s.clink l).rxSeq then (s.framed l ws).setClink l ((s.framed l ws).clink l).oweNak
        else s.framed l ws
      else (s.framed l ws).sticky (chl l 4) 27) :=
  (exec_frameReceive hst hlit).trans (congrArg ok (State.frameIn_good ((s.lstate_badHeaders l 0 0).trans hst) ((s.linkLit_badHeaders l 0 0).trans hlit) hcrc hft))

/-- R271: a TRAIN frame is not taken by an active link. -/
theorem frameReceive_train (hst : s.lstate l = 5) (hlit : s.linkLit l = true) (hcrc : crcOk ws = true) (hft : fld (nth 0 ws 0) 28 4 = 15) :
    Does (.frameReceive l ws ⟨0, 0, again⟩ ts) s (fun u => u.clink l = s.clink l ∧ FrameLeaves s u l 0 0) := by
  have hexec : exec (.frameReceive l ws ⟨0, 0, again⟩ ts) s = .next (s.badHeaders l 0 0) := (exec_frameReceive hst hlit).trans
    (congrArg ok (State.frameIn_train ((s.lstate_badHeaders l 0 0).trans hst) ((s.linkLit_badHeaders l 0 0).trans hlit) hcrc hft))
  exact .of_eq hexec ⟨s.clink_badHeaders l 0 0 l, frameReceive_leaves hexec (fun m _ => s.clink_badHeaders l 0 0 m) (.refl _ _)⟩

/-- What a good frame but TRAIN does by what it carries. -/
def FrameCarries (s u : State) (l : Nat) (ws : List Word) (again : Bool) (ts : Nat) : Prop :=
  let w0 := nth 0 ws 0
  let k := s.clink l
  let ms := frameMsgs ws
  (2 ≤ fld w0 28 4 → u.rb (chl l 4) 27 = true ∧ (u.clink l).rx = k.rx ∧ (u.clink l).rxSeq = k.rxSeq) ∧
  (fld w0 28 4 = 0 → u.rb (chl l 4) 27 = s.rb (chl l 4) 27 ∧ (u.clink l).rx = k.rx ∧ (u.clink l).rxSeq = k.rxSeq ∧ (u.clink l).nak = k.nak) ∧
  (fld w0 28 4 = 1 → fld w0 16 12 = k.rxSeq → (u.clink l).rxSeq = (k.rxSeq + 1) % 4096 ∧ (u.clink l).nak = (if k.nak = 1 then 1 else 0) ∧ (u.clink l).fails = 0 ∧
    ((∀ m ∈ ms, m.2 = true) → ms ≠ [] → (u.clink l).rx = k.rx ++ [⟨fld w0 0 2, ms.map (·.1), ts⟩] ∧ (u.clink l).freed = k.freed ∧ u.rb (chl l 4) 27 = s.rb (chl l 4) 27) ∧
    ((∀ m ∈ ms, m.2 = false) → (u.clink l).rx = k.rx ∧ (u.clink l).freed = freeOne k.freed (fld w0 0 2)) ∧
    ((∃ m ∈ ms, m.2 = false) → u.rb (chl l 4) 27 = true) ∧
    u.rf (chl l 0x14) 0 16 = (if again = true ∧ k.fails = 1 then min 0xFFFF (s.rf (chl l 0x14) 0 16 + 1) else s.rf (chl l 0x14) 0 16)) ∧
  (fld w0 28 4 = 1 → fld w0 16 12 ≠ k.rxSeq → (u.clink l).rxSeq = k.rxSeq ∧ (u.clink l).rx = k.rx ∧
    (u.clink l).nak = (if seqAfter (fld w0 16 12) k.rxSeq = true ∧ k.nak ≠ 2 then 1 else k.nak))

/-- A frame accepted, seen from before it came. -/
theorem acceptFrame_carries (hft : fld (nth 0 ws 0) 28 4 = 1) (hseq : fld (nth 0 ws 0) 16 12 = (s.clink l).rxSeq) :
    FrameCarries s ((s.framed l ws).acceptFrame l ws again ts) l ws again ts := by
  obtain ⟨hself, -, -⟩ := framed_leaves s l ws
  obtain ⟨p, hp⟩ := (s.clink l).replied_eq (nth 0 ws 0)
  obtain ⟨-, hclink, h27, hcnt⟩ := (s.framed l ws).acceptFrame_carried l ws again ts
  rw [hp] at hself
  have h4 := State.rb_of_rget (rget_framed s l ws (off := 4) (by decide) (by decide)) 27
  have h14 := State.rf_of_rget (rget_framed s l ws (off := 0x14) (by decide) (by decide)) 0 16
  rw [h4] at h27
  rw [h14, hself] at hcnt
  refine ⟨fun h => by omega, fun h => by omega, fun _ _ => ⟨by rw [hclink, hself]; rfl, by rw [hclink, hself]; rfl, by rw [hclink]; rfl, fun hall hne => ?_,
    fun hnone => ?_, fun hsome => ?_, hcnt⟩, fun _ h => absurd hseq h⟩
  · obtain ⟨hrx, hfreed⟩ := CLink.accepted_ordered ((s.framed l ws).clink l) ts hall hne
    rw [hclink, hrx, hfreed, h27, hself]
    exact ⟨rfl, rfl, by rw [List.all_eq_true.mpr hall]; simp⟩
  · obtain ⟨hrx, hfreed⟩ := CLink.accepted_disordered ((s.framed l ws).clink l) ts hnone
    rw [hclink, hrx, hfreed, hself]
    exact ⟨rfl, rfl⟩
  · obtain ⟨m, hm, hb⟩ := hsome
    rw [h27, Bool.or_eq_true]
    exact .inr (by simpa using ⟨m.1, by rw [← hb]; exact hm⟩)

/-- A frame not accepted leaves what waits on the link; `n` is the NAK owed after it. -/
theorem framed_rx (s : State) (l : Nat) (ws : List Word) : ((s.framed l ws).clink l).rx = (s.clink l).rx ∧ ((s.framed l ws).clink l).rxSeq = (s.clink l).rxSeq ∧
    ((s.framed l ws).clink l).nak = (s.clink l).nak := by
  obtain ⟨hself, -, -⟩ := framed_leaves s l ws
  obtain ⟨p, hp⟩ := (s.clink l).replied_eq (nth 0 ws 0)
  rw [hself, hp]
  exact ⟨rfl, rfl, rfl⟩

theorem CLink.nak_oweNak (k : CLink) : k.oweNak.nak = if k.nak ≠ 2 then 1 else k.nak := by
  unfold CLink.oweNak
  by_cases h : k.nak = 2 <;> simp [h]

/-- R271 to R281: a good frame but TRAIN. -/
theorem frameReceive_good (hst : s.lstate l = 5) (hlit : s.linkLit l = true) (hcrc : crcOk ws = true) (hft : fld (nth 0 ws 0) 28 4 ≠ 15) :
    ∃ u, exec (.frameReceive l ws ⟨0, 0, again⟩ ts) s = .next u ∧ CarriedLeaves (s.framed l ws) u l ∧ FrameCarries s u l ws again ts := by
  have hexec := exec_frameReceive_good (again := again) (ts := ts) hst hlit hcrc hft
  obtain ⟨hrx, hseq, hnak⟩ := framed_rx s l ws
  refine ⟨_, hexec, ?_⟩
  have h4 := State.rb_of_rget (rget_framed s l ws (off := 4) (by decide) (by decide)) 27
  by_cases h0 : fld (nth 0 ws 0) 28 4 = 0
  · rw [if_pos h0]
    exact ⟨.refl _ _, fun h => by omega, fun _ => ⟨h4, hrx, hseq, hnak⟩, fun h => by omega, fun h => by omega⟩
  rw [if_neg h0]
  by_cases h1 : fld (nth 0 ws 0) 28 4 = 1
  · rw [if_pos h1]
    by_cases hs : fld (nth 0 ws 0) 16 12 = (s.clink l).rxSeq
    · rw [if_pos hs]
      exact ⟨((s.framed l ws).acceptFrame_carried l ws again ts).1, acceptFrame_carries h1 hs⟩
    rw [if_neg hs]
    by_cases hafter : seqAfter (fld (nth 0 ws 0) 16 12) (s.clink l).rxSeq = true
    · rw [if_pos hafter]
      obtain ⟨hcarried, hself⟩ := (s.framed l ws).oweNak_carried l
      refine ⟨hcarried, fun h => by omega, fun h => absurd h h0, fun _ h => absurd h hs, fun _ _ => ⟨?_, ?_, ?_⟩⟩
      · rw [hself]; exact hseq
      · rw [hself]; exact hrx
      · rw [hself, CLink.nak_oweNak, hnak]
        simp only [hafter, true_and]
    · rw [if_neg hafter]
      exact ⟨.refl _ _, fun h => by omega, fun h => absurd h h0, fun _ h => absurd h hs, fun _ _ => ⟨hseq, hrx, hnak.trans (if_neg (fun h => hafter h.1)).symm⟩⟩
  · rw [if_neg h1]
    have hv := (s.framed l ws).clink_sticky (chl l 4) 27 l
    exact ⟨(CarriedLeaves.refl _ _).sticky, fun _ => ⟨(s.framed l ws).rb_sticky_self (chl l 4) 27 (by decide), by rw [hv]; exact hrx, by rw [hv]; exact hseq⟩, fun h => absurd h h0,
      fun h => absurd h h1, fun h => absurd h h1⟩

end

/-- Settles O34: each branch of the frame's reception, its headers counted first; a good frame's ACK, NAK and counts are taken before what it carries. -/
theorem framesReceived : Obligations.FramesReceived := by
  unfold Obligations.FramesReceived
  refine ⟨fun l ws bad0 bad1 again ts s hst hlit => ⟨fun hbad => frameReceive_damaged hst hlit hbad, ?_, ?_⟩, fun l ws bad0 bad1 again ts s h => ?_⟩
  · rintro ⟨rfl, rfl, hcrc⟩ hft
    exact frameReceive_train hst hlit hcrc hft
  · rintro ⟨rfl, rfl, hcrc⟩ hft
    obtain ⟨u, hexec, hcarried, hcarries⟩ := frameReceive_good (again := again) (ts := ts) hst hlit hcrc hft
    obtain ⟨h5, hpeer, hnext, htxq, hcredits, hretry, hsame, hnak, hrunning, hidle⟩ := framed_carried hst hcarried
    obtain ⟨-, hother, hkeep⟩ := framed_leaves s l ws
    exact .of_eq hexec ⟨frameReceive_leaves hexec (fun m hm => (hcarried.others m hm).trans (hother m hm))
      ((hkeep.mono (by simp)).trans (hcarried.regs.mono (by simp))), h5, hpeer, hnext, htxq, hcredits, hretry, hsame, hnak, hrunning, hidle, hcarries⟩
  · exact if_neg (fun hc => by
      obtain ⟨h5, hlit⟩ := hc
      rcases h with h | h
      · exact h h5
      · rw [h] at hlit; cases hlit)

end Sys2Proof
end

section
/-! What a link that stops hands back (R287, R303, R305, R306): messages sent on, requests answered, locks broken; a link that enters DETECT. -/

namespace Sys2Proof

open Machine

namespace Machine

/-! Messages sent on (R299 to R306). -/

theorem chvReg_addr (off : Nat) : (chvReg off).addr = 0x20070000 + off := rfl

/-- The registers in which the forwarding stage reports. -/
def sendRegs : List Reg := [chvReg 4, sysStat, sysErr]

/-- Messages are added to usable links, and the forwarding stage's reports; nothing else of the links and registers changes. -/
def Sends (s u : State) : Prop :=
  KeepRegs sendRegs s u ∧ ∀ j, ∃ x, u.clink j = { s.clink j with txq := (s.clink j).txq ++ x } ∧ (j < 32 → s.linkUsable j = false → x = [])

theorem Sends.of_clink {s u : State} (hkeep : KeepRegs sendRegs s u) (h : ∀ j, u.clink j = s.clink j) : Sends s u :=
  ⟨hkeep, fun j => ⟨[], by rw [h j, List.append_nil], fun _ _ => rfl⟩⟩

theorem Sends.refl (s : State) : Sends s s := .of_clink (.refl _ _) (fun _ => rfl)

/-- A register of a link, or of the route table, is none of the reports. -/
theorem chl_ne_sendRegs {l off : Nat} (h : 0x40 * l + off < 0x808) : ∀ g ∈ sendRegs, (chl l off).addr ≠ g.addr := by
  have h4 : (chvReg 4).addr = 0x20070004 := rfl
  have hstat : sysStat.addr = 0x20070908 := rfl
  have herr : sysErr.addr = 0x2007090C := rfl
  intro g hg
  simp only [sendRegs, List.mem_cons, List.not_mem_nil, or_false] at hg
  obtain rfl | rfl | rfl := hg <;> (simp only [chl_addr, h4, hstat, herr]; omega)

theorem chvReg_ne_sendRegs {off : Nat} (h4 : off ≠ 4) (h8 : off ≠ 0x908) (hC : off ≠ 0x90C) : ∀ g ∈ sendRegs, (chvReg off).addr ≠ g.addr := by
  have hstat : sysStat.addr = 0x20070908 := rfl
  have herr : sysErr.addr = 0x2007090C := rfl
  intro g hg
  simp only [sendRegs, List.mem_cons, List.not_mem_nil, or_false] at hg
  obtain rfl | rfl | rfl := hg <;> (simp only [chvReg_addr, hstat, herr]; omega)

theorem Sends.ownPkg {s u : State} (h : Sends s u) : u.ownPkg = s.ownPkg :=
  State.rf_of_rget (h.1 (chvReg 0x900) (chvReg_ne_sendRegs (by decide) (by decide) (by decide))) 0 12

/-- Which links are usable is not changed by what is sent. -/
theorem Sends.linkUsable {s u : State} (h : Sends s u) {j : Nat} (hj : j < 32) : u.linkUsable j = s.linkUsable j := by
  obtain ⟨x, hx, -⟩ := h.2 j
  have hst : u.lstate j = s.lstate j := State.lstate_of_rget (h.1 _ (chl_ne_sendRegs (by omega)))
  unfold State.linkUsable
  rw [hst, hx]

theorem Sends.trans {s u t : State} (h : Sends s u) (k : Sends u t) : Sends s t := by
  refine ⟨h.1.trans k.1, fun j => ?_⟩
  obtain ⟨x, hx, hx0⟩ := h.2 j
  obtain ⟨y, hy, hy0⟩ := k.2 j
  refine ⟨x ++ y, by rw [hy, hx, List.append_assoc], fun hj hu => ?_⟩
  rw [hx0 hj hu, hy0 hj ((h.linkUsable hj).trans hu)]
  rfl

theorem Sends.each {α : Type} {s u : State} {f : State → α → State} (hf : ∀ v a, Sends v (f v a)) (h : Sends s u) (l : List α) : Sends s (u.each l f) := by
  induction l generalizing u with
  | nil => exact h
  | cons a l ih => exact ih (h.trans (hf u a))

theorem Sends.viol (s : State) : Sends s (s.viol .chv 0) := .of_clink ((KeepRegs.refl _ s).count (g := violOf .chv 0) 0 16 1 (show chvReg 4 ∈ sendRegs by simp [sendRegs])) (fun _ => rfl)

theorem Sends.unreach (s : State) : Sends s s.unreach :=
  .of_clink (((KeepRegs.refl _ s).sticky 30 (by simp [sendRegs])).count 0 8 1 (by simp [sendRegs])) (fun _ => rfl)

theorem Sends.dropMsg (s : State) : Sends s s.dropMsg := .of_clink ((KeepRegs.refl _ s).count 8 8 1 (by simp [sendRegs])) (fun _ => rfl)

theorem Sends.answer (s : State) (id : Nat) (a : Answer) : Sends s (s.answer id a) := .of_clink (.of_regs rfl) (fun _ => rfl)

/-- The route table leads to usable links only (R300). -/
theorem State.linkUsable_of_lookup {s : State} {p l : Nat} (h : s.lookup p = .via l) : s.linkUsable l = true ∧ l < 32 := by
  unfold State.lookup at h
  dsimp only at h
  split at h
  · cases h
  split at h
  · next hu => injection h with h; exact h ▸ ⟨hu, fld_lt _ 0 5⟩
  split at h
  · next hu =>
    injection h with h
    rw [Bool.and_eq_true] at hu
    exact h ▸ ⟨hu.2, fld_lt _ 8 5⟩
  · cases h

theorem Sends.queueMsg {s : State} {p l : Nat} (h : s.lookup p = .via l) (cls : Nat) (m : Msg) : Sends s (s.queueMsg l cls m) := by
  obtain ⟨hu, -⟩ := State.linkUsable_of_lookup h
  refine ⟨.of_regs rfl, fun j => ?_⟩
  by_cases hj : j = l
  · subst hj
    exact ⟨[(cls, m)], s.clink_setClink_same j _, fun _ hn => by rw [hu] at hn; cases hn⟩
  · exact ⟨[], (s.clink_setClink_ne l j _ hj).trans (by rw [List.append_nil]), fun _ _ => rfl⟩

theorem Sends.takeReply (s : State) (m : Msg) (k : AKind) : Sends s (s.takeReply m k) := by
  unfold State.takeReply
  split
  · exact .of_clink (((KeepRegs.refl _ s).count (g := sysErr) 24 8 1 (by simp [sendRegs])).then_regs rfl) (fun _ => rfl)
  · exact .answer s _ _

theorem Sends.sendReply (s : State) (cls : Nat) (m : Msg) : Sends s (s.sendReply cls m) := by
  unfold State.sendReply
  split
  · exact .takeReply s _ _
  split
  · next h => exact .queueMsg h cls m
  · exact .dropMsg s
  · exact .viol s

theorem Sends.notSent (s : State) (cls : Nat) (m : Msg) : Sends s (s.notSent cls m) := by
  unfold State.notSent
  split
  · exact (Sends.unreach s).trans (.sendReply _ _ _)
  · exact .dropMsg s

theorem Sends.forward (s : State) (inl : Option Nat) (cls : Nat) (m : Msg) : Sends s (s.forward inl cls m) := by
  unfold State.forward
  split
  · dsimp only
    split
    · exact (Sends.viol s).trans (.sendReply _ _ _)
    · exact .viol s
  · exact .notSent s cls m
  · next h =>
    split
    · exact .dropMsg s
    · exact .queueMsg h cls _

/-- The links and registers of a state whose accesses in flight change. -/
theorem Sends.of_flights {s u v : State} (h : Sends s u) (hregs : v.regs = u.regs) (hlinks : v.links = u.links) : Sends s v :=
  h.trans (.of_clink (.of_regs hregs) (fun j => by unfold State.clink; rw [hlinks]))

theorem Sends.reroute (s : State) (l cls : Nat) (m : Msg) : Sends s (s.reroute l cls m) := by
  have h := Sends.forward s m.inl cls m
  unfold State.reroute
  dsimp only
  split
  · split
    · exact h.of_flights rfl rfl
    · exact h
  · exact h

theorem Sends.giveUp (s : State) (f : Flight) : Sends s (s.giveUp f) := by
  have h := (Sends.unreach s).trans (.answer s.unreach f.id .unreachable)
  unfold State.giveUp
  dsimp only
  split
  · exact h.of_flights rfl rfl
  · exact h

/-! Requests that a link that stops leaves unanswered (R305, R306). -/

/-- The access `id` is answered UNREACHABLE. -/
def GivenUp (s : State) (id : Nat) : Prop := ∃ g ∈ s.flights, g.id = id ∧ g.ans = some .unreachable

theorem State.flights_giveUp (s : State) (f : Flight) : ∃ p : Flight → List PlaneLink, (s.giveUp f).flights = s.flights.map (fun x =>
    if x.id == f.id then { x with ans := some .unreachable, path := p x, here := none } else x) := by
  unfold State.giveUp
  dsimp only
  split <;> exact ⟨fun x => planePath (s.unreach.flightEnd x) (s.unreach.issuerNode x), rfl⟩

theorem GivenUp.giveUp {s : State} {id : Nat} (h : GivenUp s id) (f : Flight) : GivenUp (s.giveUp f) id := by
  obtain ⟨g, hg, hid, hans⟩ := h
  obtain ⟨p, hf⟩ := s.flights_giveUp f
  unfold GivenUp
  rw [hf]
  refine ⟨_, List.mem_map_of_mem hg, ?_⟩
  split
  · exact ⟨hid, rfl⟩
  · exact ⟨hid, hans⟩

theorem givenUp_giveUp {s : State} {f : Flight} (h : ∃ g ∈ s.flights, g.id = f.id) : GivenUp (s.giveUp f) f.id := by
  obtain ⟨g, hg, hid⟩ := h
  obtain ⟨p, hf⟩ := s.flights_giveUp f
  unfold GivenUp
  rw [hf]
  refine ⟨_, List.mem_map_of_mem hg, ?_⟩
  rw [if_pos (by simpa using hid)]
  exact ⟨hid, rfl⟩

theorem flights_ids_giveUp {s : State} {id : Nat} (h : ∃ g ∈ s.flights, g.id = id) (f : Flight) : ∃ g ∈ (s.giveUp f).flights, g.id = id := by
  obtain ⟨g, hg, hid⟩ := h
  obtain ⟨p, hf⟩ := s.flights_giveUp f
  rw [hf]
  refine ⟨_, List.mem_map_of_mem hg, ?_⟩
  split <;> exact hid

theorem GivenUp.each {s : State} {id : Nat} (h : GivenUp s id) (fs : List Flight) : GivenUp (s.each fs State.giveUp) id := by
  induction fs generalizing s with
  | nil => exact h
  | cons a fs ih => exact ih (h.giveUp a)

theorem givenUp_each {s : State} {fs : List Flight} {f : Flight} (hf : f ∈ fs) (h : ∃ g ∈ s.flights, g.id = f.id) : GivenUp (s.each fs State.giveUp) f.id := by
  induction fs generalizing s with
  | nil => cases hf
  | cons a fs ih =>
    rcases List.mem_cons.mp hf with rfl | hf
    · exact (givenUp_giveUp h).each fs
    · exact ih hf (flights_ids_giveUp h a)

/-- A request of another package is answered, or a message dropped, without an answer to an access of this one. -/
theorem State.flights_notSent {s : State} {cls : Nat} {m : Msg} (h : m.isRequest = false ∨ m.spkg ≠ s.ownPkg) : (s.notSent cls m).flights = s.flights := by
  unfold State.notSent
  split
  · next hr =>
    rcases h with h | h
    · rw [h] at hr; cases hr
    have hpkg : s.unreach.ownPkg = s.ownPkg := (Sends.unreach s).ownPkg
    have hd : (replyMsg s.ownPkg m.spkg m.h1 m.akind .unreachable).dpkg = m.spkg := by unfold replyMsg; cases m.akind <;> rfl
    unfold State.sendReply
    rw [if_neg (by rw [hd, hpkg]; exact h)]
    split <;> rfl
  · rfl

/-! What a link hands back (R306, R308). -/

/-- The registers in which a link that stops breaks locks. -/
def lockRegs : List Reg := (List.range 128).flatMap (fun b => [sb b 0x20, sb b 0x28])

/-- A register of the base die is none of a scratch bank's. -/
theorem base_ne_lockRegs {g : Reg} (h : g.addr < 0x100000000) : ∀ k ∈ lockRegs, g.addr ≠ k.addr := by
  intro k hk
  obtain ⟨b, -, hk⟩ := List.mem_flatMap.mp hk
  have hge : ∀ off, 0x100000000 ≤ (sb b off).addr := fun off => by simp only [sb_addr]; omega
  simp only [List.mem_cons, List.not_mem_nil, or_false] at hk
  rcases hk with rfl | rfl
  · exact fun he => absurd (hge 0x20) (by omega)
  · exact fun he => absurd (hge 0x28) (by omega)

theorem State.keepRegs_breakLock (s : State) {b : Nat} (hb : b < 128) : KeepRegs lockRegs s (s.breakLock b) := by
  have h20 : sb b 0x20 ∈ lockRegs := List.mem_flatMap.mpr ⟨b, List.mem_range.mpr hb, by simp⟩
  have h28 : sb b 0x28 ∈ lockRegs := List.mem_flatMap.mpr ⟨b, List.mem_range.mpr hb, by simp⟩
  cases h : (s.bank b).lock with
  | none =>
    rw [show s.breakLock b = s by unfold State.breakLock; rw [h]]
    exact .refl _ _
  | some i =>
    let u := s.setBank b { s.bank b with lock := none }
    have hu : KeepRegs lockRegs s (((u.rsetb (sb b 0x20) 31 false).sticky (sb b 0x20) 30).count (sb b 0x28) 8 8 1) :=
      (((KeepRegs.of_regs (t := u) rfl).rsetb 31 false h20).sticky 30 h20).count 8 8 1 h28
    unfold State.breakLock
    rw [h]
    exact hu.then_regs rfl

theorem State.breakLock_frame {β : Type} (φ : State → β) (hput : ∀ s g v, φ (State.rput s g v) = φ s) (hbank : ∀ s b x, φ (State.setBank s b x) = φ s)
    (s : State) (b : Nat) : φ (s.breakLock b) = φ s := by
  unfold State.breakLock
  split
  · rfl
  · exact (hbank _ _ _).trans ((hput _ _ _).trans ((hput _ _ _).trans ((hput _ _ _).trans (hbank s b _))))

/-- The locks of the holders whose accesses arrive on link l break (R308). -/
def State.linkLocks (s : State) (l : Nat) : State := s.each (List.range 128) (fun s b => if (s.bank b).lockIn = some l then s.breakLock b else s)

theorem State.keepRegs_linkLocks (s : State) (l : Nat) : KeepRegs lockRegs s (s.linkLocks l) :=
  (KeepRegs.refl _ s).each (fun _ _ hb hu => (hu.trans (KeepRegs.ite (State.keepRegs_breakLock _ (List.mem_range.mp hb)) (.refl _ _))))

theorem State.linkLocks_frame {β : Type} (φ : State → β) (hput : ∀ s g v, φ (State.rput s g v) = φ s) (hbank : ∀ s b x, φ (State.setBank s b x) = φ s)
    (s : State) (l : Nat) : φ (s.linkLocks l) = φ s :=
  State.each_inv φ (fun u b => by
    split
    · exact u.breakLock_frame φ hput hbank b
    · rfl) s _

/-- An access of this package on link l that no message waiting there still carries. -/
def State.unsent (s : State) (own l : Nat) (q : List (Nat × Msg)) : List Flight :=
  s.flights.filter (fun f => f.ans.isNone && (f.sent.map (·.1)) == some l && !q.any (fun e =>
    e.2.isRequest && e.2.spkg == own && portWordLp e.2.h1 == f.lp && e.2.akind == f.kind && some (l, fld e.2.h1 12 8) == f.sent))

/-- A message of a frame that was not acknowledged: another package's request is answered, any other discarded. -/
def State.retrySent (s : State) (cls : Nat) (e : Msg × Bool) : State := if e.1.isRequest && e.1.spkg == s.ownPkg then s else s.notSent cls e.1

def State.frameSent (s : State) (f : TxFrame) : State := s.each (parseMsgs f.cls 13 f.words) (fun s e => s.retrySent f.cls e)

/-- A link with nothing on it. -/
def State.emptied (s : State) (l : Nat) : State := (s.setClink l { isolated := (s.clink l).isolated, jumps := (s.clink l).jumps }).rput (chl l 0x10) 0

def State.rerouted (s : State) (l : Nat) : State := (s.emptied l).each (s.clink l).txq (fun s e => s.reroute l e.1 e.2)

def State.unanswered (s : State) (l : Nat) : State := (s.rerouted l).each ((s.rerouted l).unsent s.ownPkg l (s.clink l).txq) State.giveUp

def State.unacked (s : State) (l : Nat) : State :=
  (s.unanswered l).each (s.clink l).retry State.frameSent

theorem State.handBack_eq (s : State) (l : Nat) : s.handBack l = ((s.unacked l).linkLocks l).rsetb (chvReg (0xA00 + 4 * l)) 31 false := by
  unfold State.handBack State.linkLocks State.unacked State.unanswered State.rerouted State.unsent State.emptied State.frameSent State.retrySent
  rfl

theorem Sends.retrySent (s : State) (cls : Nat) (e : Msg × Bool) : Sends s (s.retrySent cls e) := by
  unfold State.retrySent
  split
  · exact .refl s
  · exact .notSent s _ _

theorem State.flights_retrySent (s : State) (cls : Nat) (e : Msg × Bool) : (s.retrySent cls e).flights = s.flights := by
  unfold State.retrySent
  split
  · rfl
  · next h =>
    refine State.flights_notSent ?_
    cases hr : e.1.isRequest with
    | false => exact .inl rfl
    | true => exact .inr (by simpa [hr] using h)

theorem Sends.rerouted (s : State) (l : Nat) : Sends (s.emptied l) (s.rerouted l) :=
  Sends.each (f := fun s (e : Nat × Msg) => s.reroute l e.1 e.2) (fun v e => .reroute v l e.1 e.2) (.refl _) _

theorem Sends.unanswered (s : State) (l : Nat) : Sends (s.emptied l) (s.unanswered l) := by
  have h : ∀ x, Sends (s.emptied l) ((s.rerouted l).each x State.giveUp) := fun x => Sends.each Sends.giveUp (Sends.rerouted s l) x
  unfold State.unanswered
  exact h _

theorem State.sends_frameSent (s : State) (f : TxFrame) : Sends s (s.frameSent f) := by
  unfold State.frameSent
  exact Sends.each (fun w e => Sends.retrySent w f.cls e) (Sends.refl s) _

theorem State.flights_frameSent (s : State) (f : TxFrame) : (s.frameSent f).flights = s.flights := by
  unfold State.frameSent
  exact State.each_inv (fun u => u.flights) (fun w e => w.flights_retrySent f.cls e) s _

theorem Sends.unacked (s : State) (l : Nat) : Sends (s.emptied l) (s.unacked l) := by
  have h : ∀ fs, Sends (s.unanswered l) ((s.unanswered l).each fs State.frameSent) := fun fs => Sends.each State.sends_frameSent (Sends.refl _) fs
  unfold State.unacked
  exact (Sends.unanswered s l).trans (h _)

theorem State.flights_unacked (s : State) (l : Nat) : (s.unacked l).flights = (s.unanswered l).flights := by
  have h : ∀ fs, ((s.unanswered l).each fs State.frameSent).flights = (s.unanswered l).flights := fun fs =>
    State.each_inv (fun u => u.flights) State.flights_frameSent _ fs
  unfold State.unacked
  exact h _

/-- Each request of this package that left on the link is answered UNREACHABLE, if no message waited there. -/
theorem State.unacked_givenUp {s : State} {l : Nat} (hq : (s.clink l).txq = []) {f : Flight} (hf : f ∈ s.flights) (hans : f.ans = none)
    {t : Nat} (hsent : f.sent = some (l, t)) : GivenUp (s.unacked l) f.id := by
  have hr : s.rerouted l = s.emptied l := by unfold State.rerouted; rw [hq]; rfl
  have hmem : f ∈ (s.rerouted l).unsent s.ownPkg l (s.clink l).txq := by
    rw [hr, hq]
    exact List.mem_filter.mpr ⟨hf, by simp [hans, hsent]⟩
  have hg : GivenUp (s.unanswered l) f.id := by
    unfold State.unanswered
    exact givenUp_each hmem ⟨f, by rw [hr]; exact hf, rfl⟩
  unfold GivenUp
  rw [s.flights_unacked l]
  exact hg

/-- What a link that hands back everything leaves. -/
structure HandsBack (s u : State) (l : Nat) : Prop where
  clink : ∃ x, u.clink l = { isolated := (s.clink l).isolated, jumps := (s.clink l).jumps, txq := x } ∧ (s.linkUsable l = false → x = [])
  regs : KeepRegs ([chl l 0x10, chvReg (0xA00 + 4 * l)] ++ sendRegs ++ lockRegs) s u
  credits : u.rf (chl l 0x10) 0 32 = 0
  delay : u.rb (chvReg (0xA00 + 4 * l)) 31 = false
  givenUp : (s.clink l).txq = [] → ∀ f ∈ s.flights, f.ans = none → (∃ t, f.sent = some (l, t)) → GivenUp u f.id

theorem State.handBack_handsBack (s : State) {l : Nat} (hl : l < 32) : HandsBack s (s.handBack l) l := by
  have hsends := Sends.unacked s l
  have hempty : (s.emptied l).clink l = { isolated := (s.clink l).isolated, jumps := (s.clink l).jumps } := s.clink_setClink_same l _
  have hput : KeepRegs [chl l 0x10] s (s.emptied l) := (KeepRegs.of_regs (t := s.setClink l _) rfl).rput 0 (by simp)
  have hgiven := fun hq f hf hans t => s.unacked_givenUp (l := l) hq (f := f) hf hans (t := t)
  rw [State.handBack_eq]
  generalize s.unacked l = v at hsends hgiven ⊢
  have hlocks := v.keepRegs_linkLocks l
  have hclink : (v.linkLocks l).clink l = v.clink l := State.linkLocks_frame (fun u => u.clink l) (fun _ _ _ => rfl) (fun _ _ _ => rfl) v l
  have hflights : (v.linkLocks l).flights = v.flights := State.linkLocks_frame (fun u => u.flights) (fun _ _ _ => rfl) (fun _ _ _ => rfl) v l
  generalize v.linkLocks l = w at hlocks hclink hflights ⊢
  constructor
  case clink =>
    obtain ⟨x, hx, hx0⟩ := hsends.2 l
    refine ⟨x, hclink.trans (by rw [hx, hempty]; rfl), fun hu => hx0 hl ?_⟩
    have hst : (s.emptied l).lstate l = s.lstate l := State.lstate_of_rget (hput _ (by simpa using chl_ne l (by decide)))
    unfold State.linkUsable at hu ⊢
    rw [hst, hempty]
    exact hu
  case regs =>
    refine KeepRegs.rsetb (((hput.mono ?_).trans (hsends.1.mono ?_)).trans (hlocks.mono ?_)) 31 false (by simp)
    · simp
    · exact fun g hg => List.mem_append_left _ (List.mem_append_right _ hg)
    · exact fun g hg => List.mem_append_right _ hg
  case credits =>
    have hA : (chl l 0x10).addr ≠ (chvReg (0xA00 + 4 * l)).addr := by simp only [chl_addr, chvReg_addr]; omega
    have h1 := w.rget_rsetb_ne (chvReg (0xA00 + 4 * l)) (chl l 0x10) 31 false hA
    have h2 := hlocks (chl l 0x10) (base_ne_lockRegs (by simp only [chl_addr]; omega))
    have h3 := hsends.1 (chl l 0x10) (chl_ne_sendRegs (by omega))
    refine (State.rf_of_rget (h1.trans (h2.trans h3)) 0 32).trans ?_
    exact ((s.setClink l { isolated := (s.clink l).isolated, jumps := (s.clink l).jumps }).rf_rput_same (chl l 0x10) 0 0 32).trans (by decide)
  case delay => exact w.rb_rsetb_self _ 31 false (by decide)
  case givenUp =>
    intro hq f hf hans ⟨t, ht⟩
    obtain ⟨g, hg, hid, hga⟩ := hgiven hq f hf hans t ht
    exact ⟨g, hflights.symm ▸ hg, hid, hga⟩

/-! A link that stops (R287, R306). -/

/-- The link's lanes let go. -/
def State.unlocked (s : State) (l : Nat) : State := (s.rsetb (chl l 0x18) 15 false).rsetb (chl l 0x18) 31 false

theorem State.locked_unlocked (s : State) (l : Nat) : (s.unlocked l).locked l = 0 := by
  let v := s.rsetb (chl l 0x18) 15 false
  have h15 : (s.unlocked l).rb (chl l 0x18) 15 = false :=
    (v.rb_rsetb_bit (chl l 0x18) 31 15 false (by decide)).trans (s.rb_rsetb_self (chl l 0x18) 15 false (by decide))
  have h31 : (s.unlocked l).rb (chl l 0x18) 31 = false := v.rb_rsetb_self (chl l 0x18) 31 false (by decide)
  unfold State.locked
  rw [h15, h31]
  rfl

theorem State.keepRegs_unlocked (s : State) (l : Nat) : KeepRegs [chl l 0x18] s (s.unlocked l) :=
  ((KeepRegs.refl _ s).rsetb 15 false (by simp)).rsetb 31 false (by simp)

theorem State.locked_of_rget {s u : State} {l : Nat} (h : u.rget (chl l 0x18) = s.rget (chl l 0x18)) : u.locked l = s.locked l := by
  unfold State.locked
  rw [State.rb_of_rget h, State.rb_of_rget h]

/-- DOWNED set if the link was ACTIVE or in RETRAIN. -/
def State.downed (s : State) (l : Nat) (c : Prop) [Decidable c] : State := if c then s.sticky (chl l 4) 26 else s

/-- STAT of a link that stops, its lanes let go. -/
def State.stopped (s : State) (l st : Nat) : State :=
  (((s.setLstate l st).rsetf (chl l 4) 8 2 0).downed l (s.lstate l = 5 ∨ s.lstate l = 6)).unlocked l

theorem State.linkStop_eq (s : State) (l st : Nat) : s.linkStop l st = (s.stopped l st).handBack l := rfl

theorem State.keepRegs_downed (s : State) (l : Nat) (c : Prop) [Decidable c] : KeepRegs [chl l 4] s (s.downed l c) := by
  unfold State.downed
  exact KeepRegs.ite ((KeepRegs.refl _ s).sticky 26 (by simp)) (.refl _ _)

theorem State.rf_downed (s : State) (l : Nat) (c : Prop) [Decidable c] {lo len : Nat} (h : lo + len ≤ 26 ∨ 27 ≤ lo) :
    (s.downed l c).rf (chl l 4) lo len = s.rf (chl l 4) lo len := by
  unfold State.downed
  split
  · exact s.rf_sticky _ _ _ _ (by omega)
  · rfl

theorem State.rb_downed (s : State) (l : Nat) (c : Prop) [Decidable c] {i : Nat} (h : i ≠ 26) : (s.downed l c).rb (chl l 4) i = s.rb (chl l 4) i := by
  unfold State.downed
  split
  · exact s.rb_sticky_bit _ _ _ h
  · rfl

theorem State.downed_rb (s : State) (l : Nat) {c : Prop} [Decidable c] (h : c) : (s.downed l c).rb (chl l 4) 26 = true := by
  unfold State.downed
  rw [if_pos h]
  exact s.rb_sticky_self _ _ (by decide)

theorem State.keepRegs_stopped (s : State) (l st : Nat) : KeepRegs [chl l 4, chl l 0x18] s (s.stopped l st) := by
  let v := (s.setLstate l st).rsetf (chl l 4) 8 2 0
  have hv : KeepRegs [chl l 4, chl l 0x18] s v := ((s.keepRegs_setLstate l st).mono (by simp)).rsetf 8 2 0 (by simp)
  exact (hv.trans ((v.keepRegs_downed l _).mono (by simp))).trans ((State.keepRegs_unlocked _ l).mono (by simp))

/-- STAT of a link that stops: its state, no lane, DOWNED; its other bits stay. -/
theorem State.stopped_stat (s : State) {l st : Nat} (hst : st < 8) :
    (s.stopped l st).lstate l = st ∧ (s.stopped l st).rf (chl l 4) 8 2 = 0 ∧ (s.lstate l = 5 ∨ s.lstate l = 6 → (s.stopped l st).rb (chl l 4) 26 = true) ∧
    (s.stopped l st).locked l = 0 ∧ (∀ i, 3 ≤ i ∧ i < 8 ∨ 27 ≤ i → (s.stopped l st).rb (chl l 4) i = s.rb (chl l 4) i) ∧
    (s.stopped l st).rf (chl l 4) 6 2 = s.rf (chl l 4) 6 2 := by
  let v := s.setLstate l st
  let w := v.rsetf (chl l 4) 8 2 0
  let d := w.downed l (s.lstate l = 5 ∨ s.lstate l = 6)
  have h4 : (d.unlocked l).rget (chl l 4) = d.rget (chl l 4) := d.keepRegs_unlocked l _ (by simpa using chl_ne l (by decide))
  refine ⟨?_, ?_, fun h => (State.rb_of_rget h4 26).trans (w.downed_rb l h), d.locked_unlocked l, fun i hi => ?_, ?_⟩
  · exact (State.lstate_of_rget h4).trans ((w.rf_downed l _ (by decide)).trans ((v.rf_rsetf_ne (chl l 4) 8 2 0 0 3 (by decide)).trans (s.lstate_setLstate hst)))
  · exact (State.rf_of_rget h4 8 2).trans ((w.rf_downed l _ (by decide)).trans (v.rf_rsetf_self (chl l 4) 8 2 0 (by decide)))
  · exact (State.rb_of_rget h4 i).trans ((w.rb_downed l _ (by omega)).trans ((v.rb_rsetf (chl l 4) 8 2 0 i (by omega)).trans (s.rb_setLstate (by omega))))
  · exact (State.rf_of_rget h4 6 2).trans ((w.rf_downed l _ (by decide)).trans ((v.rf_rsetf_ne (chl l 4) 8 2 0 6 2 (by decide)).trans (s.rf_setLstate (by decide))))

theorem State.stopped_frame {β : Type} (φ : State → β) (hφ : ∀ s g v, φ (State.rput s g v) = φ s) (s : State) (l st : Nat) : φ (s.stopped l st) = φ s := by
  let w := (s.setLstate l st).rsetf (chl l 4) 8 2 0
  have hw : φ w = φ s := (hφ _ _ _).trans (s.setLstate_frame φ hφ l st)
  have hd : φ (w.downed l (s.lstate l = 5 ∨ s.lstate l = 6)) = φ w := by
    unfold State.downed
    split
    · exact hφ w _ _
    · rfl
  exact (hφ _ _ _).trans ((hφ _ _ _).trans (hd.trans hw))

/-- The registers that a link which stops hands back with are none of its STAT, LANE and CTL. -/
theorem HandsBack.rget {s u : State} {l : Nat} (h : HandsBack s u l) (hl : l < 32) {off : Nat} (hoff : off < 0x40) (hne : off ≠ 0x10) :
    u.rget (chl l off) = s.rget (chl l off) := by
  refine h.regs _ (fun g hg => ?_)
  rcases List.mem_append.mp hg with hg | hg
  · rcases List.mem_append.mp hg with hg | hg
    · simp only [List.mem_cons, List.not_mem_nil, or_false] at hg
      rcases hg with rfl | rfl
      · exact chl_ne l hne
      · simp only [chl_addr, chvReg_addr]; omega
    · exact chl_ne_sendRegs (by omega) g hg
  · exact base_ne_lockRegs (by simp only [chl_addr]; omega) g hg

/-- R287, R294, R305, R306: a link that enters DOWN or FAILED, seen from a state `s` with the same link and accesses. -/
theorem State.linkStop_stops {s v : State} {l st : Nat} (hl : l < 32) (hst : st = 0 ∨ st = 7) (hlst : v.lstate l = s.lstate l) (hlink : v.clink l = s.clink l)
    (hflights : v.flights = s.flights) : StopsLink s (v.linkStop l st) l st := by
  obtain ⟨h3, h8, h26, hlocked, -, -⟩ := v.stopped_stat (l := l) (st := st) (by omega)
  have hclink : (v.stopped l st).clink l = s.clink l := (v.stopped_frame (fun u => u.clink l) (fun _ _ _ => rfl) l st).trans hlink
  have hfl : (v.stopped l st).flights = s.flights := (v.stopped_frame (fun u => u.flights) (fun _ _ _ => rfl) l st).trans hflights
  have hb := (v.stopped l st).handBack_handsBack hl
  rw [State.linkStop_eq]
  generalize v.stopped l st = w at *
  obtain ⟨x, hx, hx0⟩ := hb.clink
  have hu : w.linkUsable l = false := by
    unfold State.linkUsable
    rcases hst with rfl | rfl <;> simp [h3]
  rw [hx0 hu] at hx
  refine ⟨(State.lstate_of_rget (hb.rget hl (by decide) (by decide))).trans h3, (State.rf_of_rget (hb.rget hl (by decide) (by decide)) 8 2).trans h8,
    (State.locked_of_rget (hb.rget hl (by decide) (by decide))).trans hlocked,
    fun h => (State.rb_of_rget (hb.rget hl (by decide) (by decide)) 26).trans (h26 (by rw [hlst]; exact h)), by rw [hx], by rw [hx], by rw [hx], by rw [hx], by rw [hx],
    hb.delay, hb.credits, fun hq f hf hans hsent => hb.givenUp (hclink.symm ▸ hq) f (hfl.symm ▸ hf) hans hsent⟩

/-- STAT's other bits, and what is of the link no more than a register elsewhere, stay when it stops. -/
theorem State.rb_linkStop (s : State) {l st i : Nat} (hl : l < 32) (hst : st < 8) (hi : 3 ≤ i ∧ i < 8 ∨ 27 ≤ i) : (s.linkStop l st).rb (chl l 4) i = s.rb (chl l 4) i := by
  obtain ⟨-, -, -, -, h, -⟩ := s.stopped_stat (l := l) hst
  exact (State.rb_of_rget ((s.stopped l st).handBack_handsBack hl |>.rget hl (by decide) (by decide)) i).trans (h i hi)

/-- A register of the Tinker's stays when a link stops. -/
theorem State.rget_linkStop_base (s : State) {l st : Nat} (hl : l < 32) : (s.linkStop l st).rget ⟨.tnkBase, 0, 0x84⟩ = s.rget ⟨.tnkBase, 0, 0x84⟩ := by
  have ha : (⟨.tnkBase, 0, 0x84⟩ : Reg).addr = 0x20050084 := rfl
  have h4 : (chvReg 4).addr = 0x20070004 := rfl
  have hstat : sysStat.addr = 0x20070908 := rfl
  have herr : sysErr.addr = 0x2007090C := rfl
  refine (((s.stopped l st).handBack_handsBack hl).regs _ (fun g hg => ?_)).trans (s.keepRegs_stopped l st _ (fun g hg => ?_))
  · rcases List.mem_append.mp hg with hg | hg
    · simp only [sendRegs, List.mem_append, List.mem_cons, List.not_mem_nil, or_false] at hg
      obtain (rfl | rfl) | rfl | rfl | rfl := hg <;> (simp only [ha, chl_addr, chvReg_addr, hstat, herr]; omega)
    · exact base_ne_lockRegs (by rw [ha]; omega) g hg
  · simp only [List.mem_cons, List.not_mem_nil, or_false] at hg
    obtain rfl | rfl := hg <;> (simp only [ha, chl_addr]; omega)

theorem State.usable_of {s u : State} {l : Nat} (h0 : u.rf (chl l 0) 24 2 = s.rf (chl l 0) 24 2) (h4 : u.rf (chl l 4) 6 2 = s.rf (chl l 4) 6 2) :
    u.usable l = s.usable l := by
  unfold State.usable
  rw [h0, h4]

theorem State.usable_linkStop (s : State) {l st : Nat} (hl : l < 32) (hst : st < 8) : (s.linkStop l st).usable l = s.usable l := by
  obtain ⟨-, -, -, -, -, h6⟩ := s.stopped_stat (l := l) hst
  have hb := (s.stopped l st).handBack_handsBack hl
  refine State.usable_of (State.rf_of_rget ((hb.rget hl (by decide) (by decide)).trans (s.keepRegs_stopped l st _ ?_)) 24 2)
    ((State.rf_of_rget (hb.rget hl (by decide) (by decide)) 6 2).trans h6)
  simpa using ⟨chl_ne l (by decide), chl_ne l (by decide)⟩

/-! DETECT (R287). -/

/-- Retired lanes are taken back by a training from DOWN (R288). -/
def State.readmitted (s : State) (l : Nat) : State := if s.lstate l = 0 then s.rsetf (chl l 4) 6 2 0 else s

theorem State.toDetect_eq (s : State) (l : Nat) : s.toDetect l = (((s.readmitted l).setLstate l 1).unlocked l).setClink l
    { (((s.readmitted l).setLstate l 1).unlocked l).clink l with signal := 0, train := [], same := 0, isolated := false } := rfl

theorem State.keepRegs_readmitted (s : State) (l : Nat) : KeepRegs [chl l 4] s (s.readmitted l) := by
  unfold State.readmitted
  exact KeepRegs.ite ((KeepRegs.refl _ s).rsetf 6 2 0 (by simp)) (.refl _ _)

theorem State.readmitted_frame {β : Type} (φ : State → β) (hφ : ∀ s g v, φ (State.rput s g v) = φ s) (s : State) (l : Nat) : φ (s.readmitted l) = φ s := by
  unfold State.readmitted
  split
  · exact hφ s _ _
  · rfl

/-- What a link that enters DETECT leaves, seen from a state `s` with the same link. -/
theorem State.toDetect_detects {s v : State} {l : Nat} (hlink : v.clink l = s.clink l) : Detects s (v.toDetect l) l ∧
    (∀ m, m ≠ l → (v.toDetect l).clink m = v.clink m) ∧ KeepRegs [chl l 4, chl l 0x18] v (v.toDetect l) := by
  have hk1 := v.keepRegs_readmitted l
  have hc1 (m : Nat) : (v.readmitted l).clink m = v.clink m := v.readmitted_frame (fun u => u.clink m) (fun _ _ _ => rfl) l
  rw [State.toDetect_eq]
  generalize v.readmitted l = r at hk1 hc1 ⊢
  have hk2 := r.keepRegs_setLstate l 1
  have hc2 (m : Nat) : (r.setLstate l 1).clink m = v.clink m := (r.setLstate_frame (fun u => u.clink m) (fun _ _ _ => rfl) l 1).trans (hc1 m)
  have h1 : (r.setLstate l 1).lstate l = 1 := r.lstate_setLstate (by decide)
  generalize r.setLstate l 1 = x at hk2 hc2 h1 ⊢
  have hk3 := x.keepRegs_unlocked l
  have hc (m : Nat) : (x.unlocked l).clink m = v.clink m := hc2 m
  have h4 : (x.unlocked l).lstate l = 1 := (State.lstate_of_rget (hk3 _ (by simpa using chl_ne l (by decide)))).trans h1
  have hlocked := x.locked_unlocked l
  generalize x.unlocked l = y at hk3 hc h4 hlocked ⊢
  refine ⟨⟨h4, hlocked, (y.clink_setClink_same l _).trans (by rw [hc, hlink])⟩, fun m hm => (y.clink_setClink_ne l m _ hm).trans (hc m), ?_⟩
  exact (((hk1.mono (by simp)).trans (hk2.mono (by simp))).trans (hk3.mono (by simp))).then_regs rfl

end Machine

end Sys2Proof
end

section
/-! The states of link training (R268, R270, R287, R288): signal, block lock, alignment, the lane test and the limits. -/

namespace Sys2Proof

open Machine

namespace Machine

/-! Block lock. -/

theorem State.bit_locked (s : State) (l : Nat) (j : Fin 2) : bit (s.locked l) j = s.rb (chl l 0x18) (15 + 16 * j.val) := by
  unfold State.locked
  cases j using Fin.cases with
  | zero =>
    show _ = s.rb (chl l 0x18) 15
    generalize s.rb (chl l 0x18) 15 = a
    generalize s.rb (chl l 0x18) 31 = b
    cases a <;> cases b <;> decide
  | succ j =>
    obtain rfl : j = 0 := Subsingleton.elim _ _
    show _ = s.rb (chl l 0x18) 31
    generalize s.rb (chl l 0x18) 15 = a
    generalize s.rb (chl l 0x18) 31 = b
    cases a <;> cases b <;> decide

/-- A lane's block lock set or let go. -/
theorem State.setLock_leaves (s : State) (l : Nat) (j : Fin 2) (b : Bool) :
    bit ((s.rsetb (chl l 0x18) (15 + 16 * j.val) b).locked l) j = b ∧
    (∀ i : Fin 2, i ≠ j → bit ((s.rsetb (chl l 0x18) (15 + 16 * j.val) b).locked l) i = bit (s.locked l) i) := by
  constructor
  · rw [State.bit_locked]
    exact s.rb_rsetb_self (chl l 0x18) _ b (by omega)
  · intro i hi
    rw [State.bit_locked, State.bit_locked]
    exact s.rb_rsetb_bit (chl l 0x18) _ _ b (by have := Fin.val_ne_of_ne hi; omega)

/-- R287: LOCK is over once every lane that shows signal is locked. -/
def LockOver (s : State) (l : Nat) : Prop := s.lstate l = 2 ∧ (s.clink l).signal ≠ 0 ∧ (s.clink l).signal &&& s.locked l = (s.clink l).signal

theorem State.lockDone_over {s : State} {l : Nat} (h : LockOver s l) : s.lockDone l = s.setLstate l 3 := if_pos h

theorem State.lockDone_not {s : State} {l : Nat} (h : ¬ LockOver s l) : s.lockDone l = s := if_neg h

theorem State.locked_setLstate (s : State) (l st : Nat) : (s.setLstate l st).locked l = s.locked l :=
  State.locked_of_rget (s.rget_setLstate_ne (chl_ne l (by decide)))

theorem State.clink_setLstate (s : State) (l st m : Nat) : (s.setLstate l st).clink m = s.clink m := s.setLstate_frame (fun u => u.clink m) (fun _ _ _ => rfl) l st

theorem State.lockDone_leaves (s : State) (l : Nat) : (s.lockDone l).locked l = s.locked l ∧ (∀ m, (s.lockDone l).clink m = s.clink m) ∧
    KeepRegs [chl l 4] s (s.lockDone l) ∧ (LockOver s l → (s.lockDone l).lstate l = 3) ∧ (¬ LockOver s l → (s.lockDone l).lstate l = s.lstate l) := by
  by_cases h : LockOver s l
  · rw [State.lockDone_over h]
    exact ⟨s.locked_setLstate l 3, s.clink_setLstate l 3, s.keepRegs_setLstate l 3, fun _ => s.lstate_setLstate (by decide), fun hn => absurd h hn⟩
  · rw [State.lockDone_not h]
    exact ⟨rfl, fun _ => rfl, .refl _ _, fun hp => absurd hp h, fun _ => rfl⟩

end Machine

/-- What an event of training on link l leaves alone. -/
def LinkEvent (s u : State) (l : Nat) (regs : List Reg) : Prop :=
  (∀ m, m ≠ l → u.clink m = s.clink m) ∧ KeepRegs regs s u ∧ Only [.regs, .links] s u

section
variable {l : Fin 32} {s : State}

/-! Signal (R287). -/

/-- The lanes that show signal noted in LOCK. -/
theorem signal_noted {v : State} {sig : BitVec 2} (hst : v.lstate l = 2) :
    let u := (v.setClink l { v.clink l with signal := sig }).lockDone l
    u.lstate l = (if sig ≠ 0 ∧ sig &&& v.locked l = sig then 3 else 2) ∧ u.locked l = v.locked l ∧ u.clink l = { v.clink l with signal := sig } ∧
    (∀ m, m ≠ l.val → u.clink m = v.clink m) ∧ KeepRegs [chl l 4] v u := by
  let w := v.setClink l { v.clink l with signal := sig }
  have hw : w.clink l = { v.clink l with signal := sig } := v.clink_setClink_same l _
  obtain ⟨hlocked, hclink, hkeep, hover, hnot⟩ := w.lockDone_leaves l
  refine ⟨?_, hlocked, (hclink l).trans hw, fun m hm => (hclink m).trans (v.clink_setClink_ne l m _ hm), (KeepRegs.of_regs rfl).trans hkeep⟩
  by_cases h : sig ≠ 0 ∧ sig &&& v.locked l = sig
  · rw [if_pos h]
    exact hover ⟨hst, by rw [hw]; exact h.1, by rw [hw]; exact h.2⟩
  · rw [if_neg h]
    refine (hnot (fun ho => h ?_)).trans hst
    obtain ⟨-, h1, h2⟩ := ho
    rw [hw] at h1 h2
    exact ⟨h1, h2⟩

theorem signalDetect_spec {lanes : BitVec 2} (hlit : s.linkLit l = true) (h : s.lstate l = 1 ∧ lanes &&& s.usable l ≠ 0 ∨ s.lstate l = 2) :
    Does (.signalDetect l lanes) s (fun u =>
      u.lstate l = (if lanes &&& s.usable l ≠ 0 ∧ (lanes &&& s.usable l) &&& s.locked l = lanes &&& s.usable l then 3 else 2) ∧ u.locked l = s.locked l ∧
      u.clink l = { s.clink l with signal := lanes &&& s.usable l } ∧ LinkEvent s u l [chl l 4]) := by
  rcases h with h | h
  · let v := s.setLstate l 2
    have hexec : exec (.signalDetect l lanes) s = .next ((v.setClink l { v.clink l with signal := lanes &&& s.usable l }).lockDone l) :=
      (if_neg (by simp [hlit])).trans (if_pos h)
    obtain ⟨h1, h2, h3, h4, h5⟩ := signal_noted (v := v) (sig := lanes &&& s.usable l) (s.lstate_setLstate (by decide))
    rw [show v.locked l = s.locked l from s.locked_setLstate l 2] at h1 h2
    rw [show v.clink l = s.clink l from s.clink_setLstate l 2 l] at h3
    exact .of_eq hexec ⟨h1, h2, h3, fun m hm => (h4 m hm).trans (s.clink_setLstate l 2 m), (s.keepRegs_setLstate l 2).trans h5,
      (execSignalDetect_ev l lanes (Ev.refl (fieldMask [.regs, .links]) s) (by rfl)).only hexec⟩
  · have hexec : exec (.signalDetect l lanes) s = .next ((s.setClink l { s.clink l with signal := lanes &&& s.usable l }).lockDone l) :=
      (if_neg (by simp [hlit])).trans ((if_neg (fun hc => by rw [h] at hc; cases hc.1)).trans (if_pos h))
    obtain ⟨h1, h2, h3, h4, h5⟩ := signal_noted (v := s) (sig := lanes &&& s.usable l) h
    exact .of_eq hexec ⟨h1, h2, h3, h4, h5, (execSignalDetect_ev l lanes (Ev.refl (fieldMask [.regs, .links]) s) (by rfl)).only hexec⟩

theorem signalDetect_idle {lanes : BitVec 2} (h2 : s.lstate l ≠ 2) (h1 : s.lstate l ≠ 1 ∨ lanes &&& s.usable l = 0) :
    exec (.signalDetect l lanes) s = .next s := by
  by_cases hlit : s.linkLit l = true
  · exact (if_neg (by simp [hlit])).trans ((if_neg (fun hc => h1.elim (fun h => h hc.1) (fun h => hc.2 h))).trans (if_neg h2))
  · exact if_pos (by simpa using hlit)

/-! Block lock (R268, R287). -/

theorem exec_blockLock_idle {j : Fin 2} (h : s.lstate l = 0 ∨ s.lstate l = 7) : exec (.blockLock l j) s = .next s := if_pos (h.elim .inl (fun h => .inr (.inl h)))

theorem blockLock_spec {j : Fin 2} (hlit : s.linkLit l = true) (h0 : s.lstate l ≠ 0) (h7 : s.lstate l ≠ 7) :
    Does (.blockLock l j) s (fun u => bit (u.locked l) j = true ∧ (∀ i : Fin 2, i ≠ j → bit (u.locked l) i = bit (s.locked l) i) ∧ u.clink l = s.clink l ∧
      LinkEvent s u l [chl l 4, chl l 0x18] ∧
      u.lstate l = if s.lstate l = 2 ∧ (s.clink l).signal ≠ 0 ∧ (s.clink l).signal &&& u.locked l = (s.clink l).signal then 3 else s.lstate l) := by
  let v := s.rsetb (chl l 0x18) (15 + 16 * j.val) true
  have hexec : exec (.blockLock l j) s = .next (v.lockDone l) := if_neg (by simp [h0, h7, hlit])
  obtain ⟨hj, hi⟩ := s.setLock_leaves l j true
  obtain ⟨hlocked, hclink, hkeep, hover, hnot⟩ := v.lockDone_leaves l
  have hst : v.lstate l = s.lstate l := State.lstate_of_rget (s.rget_rsetb_ne _ _ _ _ (chl_ne l (by decide)))
  refine .of_eq hexec ⟨by rw [hlocked]; exact hj, fun i h => by rw [hlocked]; exact hi i h, hclink l, ⟨fun m _ => hclink m,
    ((KeepRegs.refl _ s).rsetb _ true (by simp)).trans (hkeep.mono (by simp)), (execBlockLock_ev l j (Ev.refl (fieldMask [.regs, .links]) s) (by rfl)).only hexec⟩, ?_⟩
  rw [hlocked, ← hst]
  by_cases h : LockOver v l
  · exact (hover h).trans (if_pos h).symm
  · exact (hnot h).trans (if_neg h).symm

/-- Headers of no frame counted on a lane. -/
def Machine.State.freshHeaders (s : State) (l : Nat) (j : Fin 2) (n : Nat) : State := s.count (chl l 0x18) (16 * j.val) 8 n

theorem freshHeaders_leaves (s : State) (l : Nat) (j : Fin 2) (n : Nat) :
    (s.freshHeaders l j n).rf (chl l 0x18) (16 * j.val) 8 = min 255 (s.rf (chl l 0x18) (16 * j.val) 8 + n) ∧
    (∀ i : Fin 2, bit ((s.freshHeaders l j n).locked l) i = bit (s.locked l) i) ∧ KeepRegs [chl l 0x18] s (s.freshHeaders l j n) := by
  refine ⟨s.rf_count_self _ _ _ _ (by omega), fun i => ?_, (KeepRegs.refl _ s).count _ _ _ (by simp)⟩
  rw [State.bit_locked, State.bit_locked]
  exact s.rb_count (chl l 0x18) _ _ _ _ (by omega)

/-- What a lane's bad headers leave in every case, whether its lock is lost or not. -/
theorem lockLost_leaves (s : State) (l : Nat) (j : Fin 2) (n : Nat) :
    let u := (s.freshHeaders l j n).rsetb (chl l 0x18) (15 + 16 * j.val) false
    u.rf (chl l 0x18) (16 * j.val) 8 = min 255 (s.rf (chl l 0x18) (16 * j.val) 8 + n) ∧ bit (u.locked l) j = false ∧
    (∀ i : Fin 2, i ≠ j → bit (u.locked l) i = bit (s.locked l) i) ∧ KeepRegs [chl l 0x18] s u := by
  obtain ⟨hcnt, hlocked, hkeep⟩ := freshHeaders_leaves s l j n
  obtain ⟨hj, hi⟩ := (s.freshHeaders l j n).setLock_leaves l j false
  exact ⟨((s.freshHeaders l j n).rf_rsetb (chl l 0x18) _ false _ _ (by omega)).trans hcnt, hj, fun i h => (hi i h).trans (hlocked i), hkeep.rsetb _ false (by simp)⟩

theorem blockLockLoss_idle {j : Fin 2} {bad fresh : Fin 65} (h : s.lstate l = 0 ∨ s.lstate l = 7) : exec (.blockLockLoss l j ⟨bad, fresh⟩) s = .next s :=
  if_pos (h.elim .inl (fun h => .inr (.inl h)))

theorem blockLockLoss_spec {j : Fin 2} {bad fresh : Fin 65} (hlit : s.linkLit l = true) (h0 : s.lstate l ≠ 0) (h7 : s.lstate l ≠ 7) :
    Does (.blockLockLoss l j ⟨bad, fresh⟩) s (fun u => u.rf (chl l 0x18) (16 * j.val) 8 = min 255 (s.rf (chl l 0x18) (16 * j.val) 8 + fresh.val) ∧
      LinkEvent s u l [chl l 4, chl l 0x14, chl l 0x18] ∧
      bit (u.locked l) j = (if 16 ≤ bad.val then false else bit (s.locked l) j) ∧ (∀ i : Fin 2, i ≠ j → bit (u.locked l) i = bit (s.locked l) i) ∧
      (16 ≤ bad.val → s.lstate l = 5 → s.rb (chl l 4) (8 + j.val) = true → Retrains s u l (s.clink l)) ∧
      (bad.val < 16 ∨ s.lstate l ≠ 5 ∨ s.rb (chl l 4) (8 + j.val) = false → u.lstate l = s.lstate l ∧ u.clink l = s.clink l)) := by
  let v := s.freshHeaders l j fresh.val
  obtain ⟨hcnt, hlocked, hkeep⟩ := freshHeaders_leaves s l j fresh.val
  have hgo : ¬ (s.lstate l = 0 ∨ s.lstate l = 7 ∨ !s.linkLit l) := by simp [h0, h7, hlit]
  by_cases hbad : bad.val < 16
  · have hexec : exec (.blockLockLoss l j ⟨bad, fresh⟩) s = .next v := (if_neg hgo).trans (if_pos hbad)
    refine .of_eq hexec ⟨hcnt, ⟨fun _ _ => rfl, hkeep.mono (by simp), (execBlockLockLoss_ev l j ⟨bad, fresh⟩ (Ev.refl (fieldMask [.regs, .links]) s) (by rfl)).only hexec⟩,
      ?_, fun i _ => hlocked i, fun h => absurd h (by omega), fun _ => ⟨State.lstate_of_rget (hkeep _ (by simpa using chl_ne l (by decide))), rfl⟩⟩
    rw [if_neg (by omega)]
    exact hlocked j
  let w := v.rsetb (chl l 0x18) (15 + 16 * j.val) false
  obtain ⟨hcnt, hj, hi, hkeep⟩ := lockLost_leaves s l j fresh.val
  have h4 : w.rget (chl l 4) = s.rget (chl l 4) := hkeep _ (by simpa using chl_ne l (by decide))
  have h14 : w.rget (chl l 0x14) = s.rget (chl l 0x14) := hkeep _ (by simpa using chl_ne l (by decide))
  by_cases hc : s.lstate l = 5 ∧ s.rb (chl l 4) (8 + j.val) = true
  · have hexec : exec (.blockLockLoss l j ⟨bad, fresh⟩) s = .next (w.toRetrain l) := by
      refine (if_neg hgo).trans ((if_neg hbad).trans (if_pos ?_))
      show (decide (s.lstate l = 5) && w.rb (chl l 4) (8 + j.val)) = true
      rw [State.rb_of_rget h4, hc.1, hc.2]
      rfl
    have h18 : (w.toRetrain l).rget (chl l 0x18) = w.rget (chl l 0x18) := w.keepRegs_toRetrain l _ (by simpa using ⟨chl_ne l (by decide), chl_ne l (by decide)⟩)
    obtain ⟨hr1, hr2, hr3⟩ := w.toRetrain_retrains l
    rw [State.rf_of_rget h14] at hr2
    refine .of_eq hexec ⟨(State.rf_of_rget h18 _ _).trans hcnt, ⟨fun m hm => w.clink_toRetrain_ne hm, (hkeep.mono (by simp)).trans ((w.keepRegs_toRetrain l).mono (by simp)),
      (execBlockLockLoss_ev l j ⟨bad, fresh⟩ (Ev.refl (fieldMask [.regs, .links]) s) (by rfl)).only hexec⟩, ?_, fun i h => ?_, fun _ _ _ => ⟨hr1, hr2, hr3⟩, fun h => ?_⟩
    · rw [State.locked_of_rget h18, if_pos (by omega)]
      exact hj
    · rw [State.locked_of_rget h18]
      exact hi i h
    · rcases h with h | h | h
      · exact absurd h hbad
      · exact absurd hc.1 h
      · rw [hc.2] at h; cases h
  · have hexec : exec (.blockLockLoss l j ⟨bad, fresh⟩) s = .next w := by
      refine (if_neg hgo).trans ((if_neg hbad).trans (if_neg ?_))
      show ¬ (decide (s.lstate l = 5) && w.rb (chl l 4) (8 + j.val)) = true
      rw [State.rb_of_rget h4]
      simpa using hc
    refine .of_eq hexec ⟨hcnt, ⟨fun _ _ => rfl, hkeep.mono (by simp), (execBlockLockLoss_ev l j ⟨bad, fresh⟩ (Ev.refl (fieldMask [.regs, .links]) s) (by rfl)).only hexec⟩,
      ?_, hi, fun _ h5 h8 => absurd ⟨h5, h8⟩ hc, fun _ => ⟨State.lstate_of_rget h4, rfl⟩⟩
    rw [if_pos (by omega)]
    exact hj

/-! The limits, and alignment (R270, R287). -/

theorem detects_event {c : Instr} (hexec : exec c s = .next (s.toDetect l)) (honly : Only [.regs, .links] s (s.toDetect l)) :
    Does c s (fun u => Detects s u l ∧ LinkEvent s u l [chl l 4, chl l 0x18]) := by
  obtain ⟨hd, hother, hkeep⟩ := State.toDetect_detects (s := s) (v := s) (l := l) rfl
  exact .of_eq hexec ⟨hd, hother, hkeep, honly⟩

theorem exec_lockTimeout (hlit : s.linkLit l = true) (h : s.lstate l = 2) : exec (.lockTimeout l) s =
    .next (if s.locked l &&& (s.clink l).signal = 0 then s.toDetect l else s.setLstate l 3) := if_pos ⟨h, hlit⟩

theorem lockTimeout_idle (h : s.lstate l ≠ 2) : exec (.lockTimeout l) s = .next s := if_neg (fun hc => h hc.1)

theorem lockTimeout_none (hlit : s.linkLit l = true) (h : s.lstate l = 2) (h0 : s.locked l &&& (s.clink l).signal = 0) :
    Does (.lockTimeout l) s (fun u => Detects s u l ∧ LinkEvent s u l [chl l 4, chl l 0x18]) := by
  have hexec : exec (.lockTimeout l) s = .next (s.toDetect l) := (exec_lockTimeout hlit h).trans (ok_congr (if_pos h0))
  exact detects_event hexec ((execLockTimeout_ev l (Ev.refl (fieldMask [.regs, .links]) s) (by rfl)).only hexec)

theorem lockTimeout_some (hlit : s.linkLit l = true) (h : s.lstate l = 2) (h0 : s.locked l &&& (s.clink l).signal ≠ 0) :
    Does (.lockTimeout l) s (fun u => u.lstate l = 3 ∧ u.clink l = s.clink l ∧ u.locked l = s.locked l ∧ LinkEvent s u l [chl l 4]) := by
  have hexec : exec (.lockTimeout l) s = .next (s.setLstate l 3) := (exec_lockTimeout hlit h).trans (ok_congr (if_neg h0))
  exact .of_eq hexec ⟨s.lstate_setLstate (by decide), s.clink_setLstate l 3 l, s.locked_setLstate l 3, fun m _ => s.clink_setLstate l 3 m, s.keepRegs_setLstate l 3,
    (execLockTimeout_ev l (Ev.refl (fieldMask [.regs, .links]) s) (by rfl)).only hexec⟩

/-- Lane identity and polarity found. -/
def Machine.State.laneAligned (s : State) (l : Nat) (pol : BitVec 2) (swap : Bool) : State :=
  (((s.rsetb (chl l 0x18) 14 (bit pol 0)).rsetb (chl l 0x18) 30 (bit pol 1)).rsetb (chl l 0x18) 13 swap).rsetb (chl l 0x18) 29 swap

theorem laneAligned_leaves (s : State) (l : Nat) (pol : BitVec 2) (swap : Bool) :
    (s.laneAligned l pol swap).rb (chl l 0x18) 14 = bit pol 0 ∧ (s.laneAligned l pol swap).rb (chl l 0x18) 30 = bit pol 1 ∧ (s.laneAligned l pol swap).rb (chl l 0x18) 13 = swap ∧
    (s.laneAligned l pol swap).rb (chl l 0x18) 29 = swap ∧ (s.laneAligned l pol swap).locked l = s.locked l ∧ KeepRegs [chl l 0x18] s (s.laneAligned l pol swap) := by
  let g := chl l 0x18
  let v1 := s.rsetb g 14 (bit pol 0)
  let v2 := v1.rsetb g 30 (bit pol 1)
  let v3 := v2.rsetb g 13 swap
  have hbit (i : Nat) (h14 : i ≠ 14) (h30 : i ≠ 30) (h13 : i ≠ 13) (h29 : i ≠ 29) : (s.laneAligned l pol swap).rb g i = s.rb g i :=
    (v3.rb_rsetb_bit g 29 i swap h29).trans ((v2.rb_rsetb_bit g 13 i swap h13).trans ((v1.rb_rsetb_bit g 30 i _ h30).trans (s.rb_rsetb_bit g 14 i _ h14)))
  refine ⟨?_, ?_, ?_, v3.rb_rsetb_self g 29 swap (by decide), ?_, ?_⟩
  · exact (v3.rb_rsetb_bit g 29 14 swap (by decide)).trans ((v2.rb_rsetb_bit g 13 14 swap (by decide)).trans ((v1.rb_rsetb_bit g 30 14 _ (by decide)).trans
      (s.rb_rsetb_self g 14 _ (by decide))))
  · exact (v3.rb_rsetb_bit g 29 30 swap (by decide)).trans ((v2.rb_rsetb_bit g 13 30 swap (by decide)).trans (v1.rb_rsetb_self g 30 _ (by decide)))
  · exact (v3.rb_rsetb_bit g 29 13 swap (by decide)).trans (v2.rb_rsetb_self g 13 swap (by decide))
  · unfold State.locked
    rw [hbit 15 (by decide) (by decide) (by decide) (by decide), hbit 31 (by decide) (by decide) (by decide) (by decide)]
  · exact ((((KeepRegs.refl _ s).rsetb 14 _ (by simp)).rsetb 30 _ (by simp)).rsetb 13 _ (by simp)).rsetb 29 _ (by simp)

theorem alignComplete_spec {pol : BitVec 2} {swap : Bool} (h : s.inPhase l 3 = true) :
    Does (.alignComplete l pol swap) s (fun u => u.rb (chl l 0x18) 14 = bit pol 0 ∧ u.rb (chl l 0x18) 30 = bit pol 1 ∧ u.rb (chl l 0x18) 13 = swap ∧
      u.rb (chl l 0x18) 29 = swap ∧ u.locked l = s.locked l ∧ u.lstate l = (if s.lstate l = 6 then 6 else 4) ∧
      u.clink l = { s.clink l with rephase := if s.lstate l = 6 then 4 else 0, train := [], same := 0 } ∧ LinkEvent s u l [chl l 4, chl l 0x18]) := by
  let v := s.laneAligned l pol swap
  obtain ⟨h14, h30, h13, h29, hlocked, hkeep⟩ := laneAligned_leaves s l pol swap
  have hst : v.lstate l = s.lstate l := State.lstate_of_rget (hkeep _ (by simpa using chl_ne l (by decide)))
  let w := if v.lstate l = 6 then v else v.setLstate l 4
  have hexec : exec (.alignComplete l pol swap) s =
      .next (w.setClink l { w.clink l with rephase := if v.lstate l = 6 then 4 else 0, train := [], same := 0 }) := if_pos h
  have hw : w.rget (chl l 0x18) = v.rget (chl l 0x18) ∧ (∀ m, w.clink m = s.clink m) ∧ KeepRegs [chl l 4] v w ∧ w.lstate l = if s.lstate l = 6 then 6 else 4 := by
    by_cases h6 : s.lstate l = 6
    · have hwv : w = v := if_pos (hst.trans h6)
      rw [hwv, if_pos h6]
      exact ⟨rfl, fun _ => rfl, .refl _ _, hst.trans h6⟩
    · have hwv : w = v.setLstate l 4 := if_neg (by rw [hst]; exact h6)
      rw [hwv, if_neg h6]
      exact ⟨v.rget_setLstate_ne (chl_ne l (by decide)), v.clink_setLstate l 4, v.keepRegs_setLstate l 4, v.lstate_setLstate (by decide)⟩
  obtain ⟨h18, hclink, hkw, hstw⟩ := hw
  have honly := (execAlignComplete_ev l pol swap (Ev.refl (fieldMask [.regs, .links]) s) (by rfl)).only hexec
  rw [hst] at hexec honly
  generalize w = x at *
  refine .of_eq hexec ⟨(State.rb_of_rget h18 14).trans h14, (State.rb_of_rget h18 30).trans h30, (State.rb_of_rget h18 13).trans h13, (State.rb_of_rget h18 29).trans h29,
    (State.locked_of_rget h18).trans hlocked, hstw, (x.clink_setClink_same l _).trans (by rw [hclink]), fun m hm => (x.clink_setClink_ne l m _ hm).trans (hclink m), ?_, honly⟩
  exact ((hkeep.mono (by simp)).trans (hkw.mono (by simp))).then_regs rfl

/-- R287: a limit passes in a training: back to DETECT, or to the lane test of a retrain. -/
theorem fallBack_spec {c : Instr} (hexec : exec c s = .next (s.fallBack l)) (hev : Only [.regs, .links] s (s.fallBack l)) :
    (s.lstate l = 6 → Does c s (fun u => u.clink l = { s.clink l with rephase := 2, passed := 0, train := [], same := 0 } ∧ LinkEvent s u l [])) ∧
    (s.lstate l ≠ 6 → Does c s (fun u => Detects s u l ∧ LinkEvent s u l [chl l 4, chl l 0x18])) := by
  refine ⟨fun h => ?_, fun h => ?_⟩
  · rw [show s.fallBack l = _ from if_pos h] at hexec hev
    exact .of_eq hexec ⟨s.clink_setClink_same l _, fun m hm => s.clink_setClink_ne l m _ hm, .of_regs rfl, hev⟩
  · rw [show s.fallBack l = _ from if_neg h] at hexec hev
    exact detects_event hexec hev

/-! The lane test (R288). -/

theorem laneTest_idle {j : Fin 2} {pass : Bool} (h : ¬ (s.lstate l = 6 ∧ (s.clink l).rephase = 2 ∧ bit (s.usable l) j = true)) :
    exec (.laneTestComplete l j pass) s = .next s := by
  refine if_pos ?_
  simp only [not_and_or, Bool.not_eq_true] at h
  rcases h with h | h | h
  · exact .inl h
  · exact .inr (.inl h)
  · exact .inr (.inr (.inl (by simp [h])))

/-- The lane test's result noted. -/
def Machine.State.laneTested (s : State) (l : Nat) (j : Fin 2) : Bool → State
  | true => s.setClink l { s.clink l with passed := setBit (s.clink l).passed j.val true }
  | false => ((s.rsetb (chl l 4) (6 + j.val) true).sticky (chl l 4) 29).sticky ⟨.tnkBase, 0, 0x84⟩ l

theorem exec_laneTest {j : Fin 2} {pass : Bool} (hlit : s.linkLit l = true) (h6 : s.lstate l = 6) (h2 : (s.clink l).rephase = 2)
    (hj : bit (s.usable l) j = true) : exec (.laneTestComplete l j pass) s =
      if (s.laneTested l j pass).usable l = 0 then ok ((s.laneTested l j pass).linkStop l 7)
      else if (s.laneTested l j pass).usable l &&& ((s.laneTested l j pass).clink l).passed = (s.laneTested l j pass).usable l then
        ok ((s.laneTested l j pass).setClink l { (s.laneTested l j pass).clink l with rephase := 3 })
      else ok (s.laneTested l j pass) := by
  have hgo : ¬ (s.lstate l ≠ 6 ∨ (s.clink l).rephase ≠ 2 ∨ (!bit (s.usable l) j.val) = true ∨ (!s.linkLit l) = true) := by simp [hlit, h6, h2, hj]
  cases pass with
  | true => exact if_neg hgo
  | false => exact if_neg hgo

/-- A lane that passed. -/
theorem laneTest_passes {j : Fin 2} (hlit : s.linkLit l = true) (h6 : s.lstate l = 6) (h2 : (s.clink l).rephase = 2) (hj : bit (s.usable l) j = true) :
    Does (.laneTestComplete l j true) s (fun u =>
      u.clink l = { s.clink l with passed := setBit (s.clink l).passed j true, rephase := if s.usable l &&& setBit (s.clink l).passed j true = s.usable l then 3 else 2 } ∧
      LinkEvent s u l []) := by
  let k : CLink := { s.clink l with passed := setBit (s.clink l).passed j.val true }
  let v := s.setClink l k
  have hv : v.clink l = k := s.clink_setClink_same l k
  have hexec := exec_laneTest (pass := true) hlit h6 h2 hj
  rw [show s.laneTested l j true = v from rfl] at hexec
  have hne : v.usable l ≠ 0 := fun h0 => by
    have : bit (v.usable l) j = true := hj
    rw [h0] at this
    simp [bit] at this
  rw [if_neg hne] at hexec
  have hev : ∀ k', Only [.regs, .links] s (v.setClink l k') := fun k' => (((Ev.refl (fieldMask [.regs, .links]) s).setClink (by rfl) l k).setClink (by rfl) l k').only_mask
  by_cases hdone : s.usable l &&& setBit (s.clink l).passed j.val true = s.usable l
  · rw [if_pos (show v.usable l &&& (v.clink l).passed = v.usable l by rw [hv]; exact hdone)] at hexec
    refine .of_eq hexec ⟨(v.clink_setClink_same l _).trans (by rw [hv, if_pos hdone]),
      fun m hm => (v.clink_setClink_ne l m _ hm).trans (s.clink_setClink_ne l m k hm), .of_regs rfl, hev _⟩
  · rw [if_neg (show ¬ v.usable l &&& (v.clink l).passed = v.usable l by rw [hv]; exact hdone)] at hexec
    refine .of_eq hexec ⟨hv.trans (congrArg (fun n => { s.clink l with passed := setBit (s.clink l).passed j.val true, rephase := n }) (h2.trans (if_neg hdone).symm)), fun m hm => s.clink_setClink_ne l m k hm, .of_regs rfl, ?_⟩
    exact ((Ev.refl (fieldMask [.regs, .links]) s).setClink (by rfl) l k).only_mask

/-- A lane that failed is retired, and the Tinker told. -/
theorem laneRetired_leaves (s : State) (l : Fin 32) (j : Fin 2) : let v := s.laneTested l j false
    v.rb (chl l 4) (6 + j.val) = true ∧ v.rb (chl l 4) 29 = true ∧ v.rb ⟨.tnkBase, 0, 0x84⟩ l = true ∧ bit (v.usable l) j = false ∧ v.lstate l = s.lstate l ∧
    KeepRegs [chl l 4, ⟨.tnkBase, 0, 0x84⟩] s v ∧ Only [.regs, .links] s v := by
  let g := chl l 4
  let w1 := s.rsetb g (6 + j.val) true
  let w2 := w1.sticky g 29
  have hne : g.addr ≠ (⟨.tnkBase, 0, 0x84⟩ : Reg).addr := by
    show 0x20070100 + 0x40 * l.val + 4 ≠ 0x20050084
    omega
  have hg : (s.laneTested l j false).rget g = w2.rget g := w2.rget_sticky_ne ⟨.tnkBase, 0, 0x84⟩ g l hne
  have hj : (s.laneTested l j false).rb g (6 + j.val) = true :=
    (State.rb_of_rget hg _).trans ((w1.rb_sticky_bit g 29 _ (by omega)).trans (s.rb_rsetb_self g _ true (by omega)))
  refine ⟨hj, (State.rb_of_rget hg _).trans (w1.rb_sticky_self g 29 (by decide)), w2.rb_sticky_self ⟨.tnkBase, 0, 0x84⟩ l (by omega), ?_,
    (State.lstate_of_rget hg).trans ((w1.rf_sticky g 29 0 3 (by decide)).trans (s.rf_rsetb g (6 + j.val) true 0 3 (by omega))),
    (((KeepRegs.refl _ s).rsetb _ true (by simp)).sticky 29 (by simp)).sticky l (by simp), ?_⟩
  · have hf : (BitVec.ofNat 2 ((s.laneTested l j false).rf g 6 2)).getLsbD j.val = true := by
      rw [BitVec.getLsbD_ofNat, show (s.laneTested l j false).rf g 6 2 = fld _ 6 2 from rfl, testBit_fld]
      simpa using ⟨Nat.le_of_lt_succ j.isLt, hj⟩
    show (BitVec.getLsbD (_ &&& ~~~ _) _) = false
    rw [BitVec.getLsbD_and, BitVec.getLsbD_not, hf]
    simp
  · exact ((((Ev.refl (fieldMask [.regs, .links]) s).rput (by rfl) g _).rput (by rfl) g _).rput (by rfl) ⟨.tnkBase, 0, 0x84⟩ _).only_mask

theorem laneTest_fails {j : Fin 2} (hlit : s.linkLit l = true) (h6 : s.lstate l = 6) (h2 : (s.clink l).rephase = 2) (hj : bit (s.usable l) j = true) :
    Does (.laneTestComplete l j false) s (fun u => u.rb (chl l 4) (6 + j.val) = true ∧ u.rb (chl l 4) 29 = true ∧ u.rb ⟨.tnkBase, 0, 0x84⟩ l = true ∧
      bit (u.usable l) j = false ∧ (u.usable l = 0 → StopsLink s u l 7) ∧
      (u.usable l ≠ 0 → u.lstate l = 6 ∧ u.clink l = { s.clink l with rephase := if u.usable l &&& (s.clink l).passed = u.usable l then 3 else 2 } ∧
        LinkEvent s u l [chl l 4, ⟨.tnkBase, 0, 0x84⟩])) := by
  have hexec := exec_laneTest (pass := false) hlit h6 h2 hj
  have hclink (m : Nat) : (s.laneTested l j false).clink m = s.clink m := rfl
  have hflights : (s.laneTested l j false).flights = s.flights := rfl
  obtain ⟨hr, h29, h84, hu, hst, hkeep, honly⟩ := laneRetired_leaves s l j
  generalize s.laneTested l j false = v at hexec hclink hflights hr h29 h84 hu hst hkeep honly
  by_cases h0 : v.usable l = 0
  · rw [if_pos h0] at hexec
    have hus : (v.linkStop l 7).usable l = v.usable l := v.usable_linkStop l.isLt (by decide)
    refine .of_eq hexec ⟨(v.rb_linkStop l.isLt (by decide) (by omega)).trans hr, (v.rb_linkStop l.isLt (by decide) (by decide)).trans h29, ?_, by rw [hus]; exact hu,
      fun _ => State.linkStop_stops l.isLt (.inr rfl) hst (hclink l) hflights, fun hn => absurd (hus.trans h0) hn⟩
    exact (State.rb_of_rget (v.rget_linkStop_base l.isLt) l).trans h84
  rw [if_neg h0] at hexec
  by_cases hdone : v.usable l &&& (s.clink l).passed = v.usable l
  · rw [hclink, if_pos hdone] at hexec
    refine .of_eq hexec ⟨hr, h29, h84, hu, fun hn => absurd hn h0, fun _ => ⟨hst.trans h6, ?_, fun m hm => (v.clink_setClink_ne l m _ hm).trans (hclink m), hkeep.then_regs rfl, ?_⟩⟩
    · exact (v.clink_setClink_same l _).trans (congrArg (fun n => { s.clink l with rephase := n }) (if_pos hdone).symm)
    · exact honly.trans ((Ev.refl (fieldMask [.regs, .links]) v).setClink (by rfl) l _).only_mask
  · rw [hclink, if_neg hdone] at hexec
    exact .of_eq hexec ⟨hr, h29, h84, hu, fun hn => absurd hn h0, fun _ => ⟨hst.trans h6, by rw [hclink, if_neg hdone, ← h2], fun m _ => hclink m, hkeep, honly⟩⟩

end

/-- Nothing of a link's training happens while its domain is not Lit (R294). -/
theorem training_dark {l : Fin 32} {s : State} (h : s.linkLit l = false) (lanes pol : BitVec 2) (swap pass : Bool) (j : Fin 2) (bad fresh : Fin 65) :
    ∀ c ∈ [Instr.signalDetect l lanes, .blockLock l j, .blockLockLoss l j ⟨bad, fresh⟩, .lockTimeout l, .alignComplete l pol swap, .alignLimit l,
      .negotiateTimeout l, .laneTestComplete l j pass, .downtmo l], exec c s = .next s := by
  have hphase (n : Nat) : ¬ s.inPhase l n = true := by simp [State.inPhase, h]
  intro c hc
  simp only [List.mem_cons, List.not_mem_nil, or_false] at hc
  rcases hc with rfl | rfl | rfl | rfl | rfl | rfl | rfl | rfl | rfl
  · exact if_pos (by simp [h])
  · exact if_pos (by simp [h])
  · exact if_pos (by simp [h])
  · exact if_neg (by simp [h])
  · exact if_neg (hphase 3)
  · exact if_neg (hphase 3)
  · exact if_neg (hphase 4)
  · exact if_pos (by simp [h])
  · exact if_neg (by simp [h])

/-- Settles O36: each event of training by its guards, with a link that stops handing back what it held. -/
theorem linkTraining : Obligations.LinkTraining := by
  unfold Obligations.LinkTraining
  intro l s
  refine ⟨training_dark, fun hlit => ⟨fun lanes => ⟨signalDetect_spec hlit, signalDetect_idle⟩, fun j => ⟨exec_blockLock_idle, blockLock_spec hlit⟩,
    fun j bad fresh => ⟨blockLockLoss_idle, blockLockLoss_spec hlit⟩, lockTimeout_idle, lockTimeout_none hlit, lockTimeout_some hlit,
    fun pol swap => ⟨alignComplete_spec, fun h => if_neg (by simp [h])⟩, fun h => ?_, fun h => if_neg (by simp [h]), fun h => ?_, fun h => if_neg (by simp [h]),
    fun j => ⟨fun pass => laneTest_idle, fun ⟨h6, h2, hj⟩ => laneTest_passes hlit h6 h2 hj, fun ⟨h6, h2, hj⟩ => laneTest_fails hlit h6 h2 hj⟩,
    fun h => ?_, fun h => if_neg (fun hc => h hc.1)⟩⟩
  · have hexec : exec (.alignLimit l) s = .next (s.fallBack l) := if_pos h
    exact fallBack_spec hexec ((execAlignLimit_ev l (Ev.refl (fieldMask [.regs, .links]) s) (by rfl)).only hexec)
  · have hexec : exec (.negotiateTimeout l) s = .next (s.fallBack l) := if_pos h
    exact fallBack_spec hexec ((execNegotiateTimeout_ev l (Ev.refl (fieldMask [.regs, .links]) s) (by rfl)).only hexec)
  · have hexec : exec (.downtmo l) s = .next (s.linkStop l 7) := if_pos ⟨h, hlit⟩
    exact .of_eq hexec (State.linkStop_stops l.isLt (.inr rfl) rfl rfl rfl)

end Sys2Proof
end

section
/-! TRAIN frames and CHV_CTL (R289): a frame that is not TRAIN, received in training. -/

namespace Sys2Proof

open Machine

namespace Machine

theorem length_withCrc (ws : List Word) : (withCrc ws).length = 16 := by
  simp [withCrc]
  omega

/-- The CRC of a frame's first fifteen words is that of those words alone. -/
theorem frameCrc_append {w : List Word} (hw : w.length = 15) (c : Word) : frameCrc (w ++ [c]) = frameCrc w := by
  have hbytes : frameBytes (w ++ [c]) 15 = frameBytes w 15 := by
    unfold frameBytes
    rw [List.flatMap_congr]
    intro i hi
    have hi : i < w.length := by rw [hw]; exact List.mem_range.mp hi
    simp [nth, List.getElem?_append_left hi]
  unfold frameCrc
  rw [hbytes]

/-- R271: what a frame is completed with is its CRC. -/
theorem crcOk_withCrc (ws : List Word) : crcOk (withCrc ws) = true := by
  have hlen : ((ws ++ List.replicate (15 - ws.length) 0).take 15).length = 15 := by simp; omega
  unfold withCrc
  dsimp only
  generalize (ws ++ List.replicate (15 - ws.length) (0 : Word)).take 15 = w at hlen
  refine decide_eq_true ((frameCrc_append hlen _).trans ?_)
  simp [nth, ← hlen]

end Machine

/-- Link 0 in ALIGN, its domain Lit; the state lists, at the link's LANE register, the register's own Reset value. -/
def laneListed : State := { regs := [(0x20011AE0, 0), (0x20070104, 3), (0x20070118, 0)] }

/-- A good frame of zero words, which is IDLE. -/
def zeroFrame : List Word := withCrc []

theorem fld_zeroFrame : fld (nth 0 zeroFrame 0) 28 4 ≠ 15 := by simp [zeroFrame, withCrc, nth, fld]

/-- In training, a good frame other than TRAIN has its headers counted. -/
theorem exec_trainFrame_other {l : Fin 32} {ws : List Word} {s : State} (hphase : s.inPhase l 3 = true ∨ s.inPhase l 4 = true) (hcrc : crcOk ws = true)
    (hft : fld (nth 0 ws 0) 28 4 ≠ 15) : exec (.trainFrameReceived l ⟨ws, 0, 0⟩) s = .next (s.badHeaders l 0 0) := by
  have hin : ¬ (!(s.inPhase l 3 || s.inPhase l 4)) = true := by simpa [or_iff_not_imp_left] using hphase
  have hgood : ¬ ((0 : Fin 9).val + (0 : Fin 9).val ≠ 0 ∨ (!crcOk ws) = true) := by simp [hcrc]
  exact (if_neg hin).trans ((if_neg hgood).trans (if_pos hft))

/-- Refutes O37: a good frame other than TRAIN counts no header, and storing the count takes the listed entry of LANE out. The register
⟨tlyPi, 0x1400, 0x18⟩ lies at the same address and has another Reset value, so it reads 0 before and 0xF4240 after: a register has changed (`KeepRegs`
asks for every `Reg` by its address). -/
theorem not_linkNegotiationAndControl : ¬ Obligations.LinkNegotiationAndControl := by
  unfold Obligations.LinkNegotiationAndControl
  rintro ⟨htrain, -⟩
  obtain ⟨-, -, hother, -⟩ := htrain 0 zeroFrame laneListed
  have halign : laneListed.inPhase (0 : Fin 32) 3 = true := by decide
  obtain ⟨t, ht, hkeep, -⟩ := hother (.inl halign) (crcOk_withCrc []) fld_zeroFrame
  obtain rfl : laneListed.badHeaders 0 0 0 = t := by
    rw [exec_trainFrame_other (ws := zeroFrame) (.inl halign) (crcOk_withCrc []) fld_zeroFrame] at ht
    injection ht
  have hread := hkeep ⟨.tlyPi, 0x1400, 0x18⟩ (by simp)
  exact absurd hread (by decide)

end Sys2Proof
end

section
/-! The address word of an access to another package (R282): what an address outside the fabric makes of it. -/

namespace Sys2Proof

open Machine

/-- An access whose address lies above the fabric's windows, at the base seam of its die; link 0, which its package's route entry names, is ACTIVE. -/
def strayAccess : Flight := { pkg := some 0, addr := 0x140000000 }

def strayLeaving : State := { regs := [(0x20070104, 5), (0x20074000, 0x80000000)], flights := [strayAccess] }

/-- Refutes O39: the address word of an access to another package has LOCK in bit 31 and the region's die in the bits below; the die number of an address
above 0x13FFFFFFF is 4, which sets bit 31 of the word of an access without LOCK. -/
theorem not_forwarding : ¬ Obligations.Forwarding := by
  unfold Obligations.Forwarding
  rintro ⟨-, -, hflight, -⟩
  have hahead : ¬ ∃ x ∈ strayLeaving.flights, (x.arr < strayAccess.arr ∨ x.arr = strayAccess.arr ∧ x.id < strayAccess.id) ∧ x.path = [] ∧ x.ans = none ∧
      x.sent = none ∧ x.tc = strayAccess.tc ∧ lpR x.lp / 8 = lpR strayAccess.lp / 8 ∧ ∃ q, x.pkg = some q ∧ strayLeaving.lookup q = .via 0 := by
    rintro ⟨x, hx, hlt, -⟩
    obtain rfl : x = strayAccess := by simpa [strayLeaving] using hx
    omega
  obtain ⟨-, -, -, hvia⟩ := hflight 0 0 strayLeaving strayAccess rfl rfl rfl rfl rfl
  obtain ⟨u, ⟨tag, m, -, -, -, -, -, -, -, -, -, -, -, -, -, -, hlock, -⟩, -⟩ := hvia 0 (by decide) (by decide) hahead
  exact absurd hlock (by decide)

end Sys2Proof
end

section
/-! Messages for this package (R282 to R284, R305): the front of a class, requests performed, replies taken, streams and late replies. -/

namespace Sys2Proof

open Machine

namespace Machine

/-! The front of a class. -/

theorem RxFrame.pop_front {c : Nat} {pre post : List RxFrame} {x : RxFrame} (hpre : ∀ g ∈ pre, g.cls ≠ c) (hx : x.cls = c) (f : List Msg → List Msg) :
    RxFrame.pop c f (pre ++ x :: post) =
      (pre ++ (if f x.msgs = [] then [] else [{ x with msgs := f x.msgs }]) ++ post, decide (f x.msgs = [])) := by
  induction pre with
  | nil =>
    simp only [List.nil_append, RxFrame.pop, if_pos hx]
    cases f x.msgs <;> simp
  | cons g pre ih =>
    have hg : ¬ g.cls = c := hpre g List.mem_cons_self
    have ih := ih (fun k hk => hpre k (List.mem_cons_of_mem _ hk))
    simp only [List.cons_append, RxFrame.pop, if_neg hg, ih]

end Machine

section
variable {l c : Nat} {s : State} {m : Msg} {ts : Nat} {rx : List RxFrame} {freed : Word}

theorem AtFront.front (h : AtFront s l c m ts rx freed) : s.front l c = some (m, ts) := by
  obtain ⟨pre, f, post, ms, hrx, hpre, hcls, hms, hts, -, -⟩ := h
  have hfind : (s.clink l).rx.find? (fun f => f.cls == c) = some f := by
    rw [hrx, List.find?_append, List.find?_eq_none.mpr (by simpa using hpre)]
    simp [hcls]
  unfold State.front
  rw [hfind]
  simp [hms, hts]

/-- The front message taken onward, whatever else has changed. -/
theorem AtFront.popMsg (h : AtFront s l c m ts rx freed) {v : State} (hv : v.clink l = s.clink l) :
    (v.popMsg l c none).clink l = { s.clink l with rx := rx, freed := freed } ∧ (∀ j, j ≠ l → (v.popMsg l c none).clink j = v.clink j) := by
  obtain ⟨pre, f, post, ms, hrx, hpre, hcls, hms, -, hout, hfreed⟩ := h
  have hpop : RxFrame.pop c (fun ms => ms.drop 1) (s.clink l).rx = (rx, decide (ms = [])) := by
    rw [hrx, RxFrame.pop_front hpre hcls, hms, hout]
    rfl
  have hk : v.popMsg l c none = v.setClink l { s.clink l with rx := rx, freed := freed } := by
    unfold State.popMsg
    dsimp only
    rw [hv, hpop, hfreed]
    simp
  rw [hk]
  exact ⟨v.clink_setClink_same l _, fun j hj => v.clink_setClink_ne l j _ hj⟩

/-- The front message replaced by what is left of it. -/
theorem AtFront.popMsg_left (h : AtFront s l c m ts rx freed) {v : State} (hv : v.clink l = s.clink l) (m' : Msg) :
    (v.popMsg l c (some m')).front l c = some (m', ts) ∧ (v.popMsg l c (some m')).regs = v.regs ∧ (v.popMsg l c (some m')).dns = v.dns := by
  obtain ⟨pre, f, post, ms, hrx, hpre, hcls, hms, hts, -, -⟩ := h
  have hpop : RxFrame.pop c (fun ms => m' :: ms.drop 1) (s.clink l).rx = (pre ++ { f with msgs := m' :: ms } :: post, false) := by
    rw [hrx, RxFrame.pop_front hpre hcls, hms]
    simp
  have hk : v.popMsg l c (some m') = v.setClink l { s.clink l with rx := pre ++ { f with msgs := m' :: ms } :: post } := by
    unfold State.popMsg
    dsimp only
    rw [hv, hpop]
    simp
  rw [hk]
  refine ⟨?_, rfl, rfl⟩
  have hfind : (pre ++ { f with msgs := m' :: ms } :: post).find? (fun f => f.cls == c) = some { f with msgs := m' :: ms } := by
    rw [List.find?_append, List.find?_eq_none.mpr (by simpa using hpre)]
    simp [hcls]
  unfold State.front
  rw [v.clink_setClink_same l]
  dsimp only
  rw [hfind]
  simp [hts]

end

namespace Machine

theorem State.popMsg_frame {β : Type} (φ : State → β) (hφ : ∀ s l x, φ (State.setClink s l x) = φ s) (s : State) (l c : Nat) (left : Option Msg) :
    φ (s.popMsg l c left) = φ s := hφ s l _

theorem State.deliverFront_eq {s : State} {l c typ : Nat} {m : Msg} {ts : Nat} (hfront : s.front l c = some (m, ts)) (htyp : m.typ = typ) (hpkg : m.dpkg = s.ownPkg)
    (hiso : (s.clink l).isolated = false) : s.deliverFront l c typ = s.deliverMsg l c m ts := by
  unfold State.deliverFront
  rw [hfront]
  exact if_pos ⟨htyp, hpkg, by simp [hiso]⟩

theorem State.deliverFront_idle {s : State} {l c typ : Nat}
    (h : ∀ m ts, s.front l c = some (m, ts) → m.typ ≠ typ ∨ m.dpkg ≠ s.ownPkg ∨ (s.clink l).isolated = true) : s.deliverFront l c typ = s := by
  unfold State.deliverFront
  split
  · next m ts hm =>
    refine if_neg (fun ⟨ht, hp, hi⟩ => ?_)
    rcases h m ts hm with hn | hn | hn
    · exact hn ht
    · exact hn hp
    · rw [hn] at hi; cases hi
  · rfl

/-! Requests (R283). -/

theorem portWordLp_region (h : Word) : portWordLp h / 64 = fld h 30 2 * 8 + fld h 27 3 := by
  have h1 := fld_lt h 23 4
  have h2 := fld_lt h 21 2
  unfold portWordLp
  omega

theorem winBase_word (a : Word) : winBase (fld a 29 2 * 8 + fld a 26 3) = 0x100000000 + 0x10000000 * fld a 29 2 + 0x1000000 * fld a 26 3 := by
  have h := fld_lt a 26 3
  unfold winBase
  omega

/-! Places of the access plane: what they depend on. -/

/-- The configuration that places a port is unchanged. -/
def SamePlaces (s u : State) : Prop := (∀ r off, u.rget ⟨.tnk, r, off⟩ = s.rget ⟨.tnk, r, off⟩) ∧ u.pairs = s.pairs

theorem SamePlaces.issuerNode {s u : State} (h : SamePlaces s u) (f : Flight) : u.issuerNode f = s.issuerNode f := by
  have hphys (r lc : Nat) : u.physOf r lc = s.physOf r lc := State.rf_of_rget (h.1 r _) _ _
  have hpaired (r : Nat) : u.paired r = s.paired r := State.rb_of_rget (h.1 r 0) 31
  have hpair (j : Nat) : u.pair j = s.pair j := by unfold State.pair; rw [h.2]
  unfold State.issuerNode State.members State.lead State.gOf
  simp only [hphys, hpaired, hpair]

theorem SamePlaces.flightEnd {s u : State} (h : SamePlaces s u) (f : Flight) : u.flightEnd f = s.flightEnd f := by
  unfold State.flightEnd
  simp only [h.issuerNode]

/-- Registers of the base die place no port. -/
theorem SamePlaces.of_keep {s u : State} {l : List Reg} (h : KeepRegs l s u) (hl : ∀ g ∈ l, g.addr < 0x100000000) (hp : u.pairs = s.pairs) : SamePlaces s u := by
  refine ⟨fun r off => h _ (fun g hg => ?_), hp⟩
  have hge : 0x100000000 ≤ (⟨.tnk, r, off⟩ : Reg).addr := by
    show 0x100000000 ≤ 0x800000 + winBase r + off
    unfold winBase
    omega
  have := hl g hg
  omega

/-- An answer given after changes that move no port. -/
theorem SamePlaces.answered {s u : State} (h : SamePlaces s u) (hf : u.flights = s.flights) (id : Nat) (a : Answer) : Answered id a s (u.answer id a) := by
  unfold Answered State.answer State.mapFlight
  simp only [h.flightEnd, h.issuerNode, hf]

theorem State.answer_answered (s : State) (id : Nat) (a : Answer) : Answered id a s (s.answer id a) := rfl

end Machine

section
variable {l : Fin 32} {c : Fin 4} {s : State} {m : Msg} {ts : Nat} {rx : List RxFrame} {freed : Word}

/-- A message for this package leaves the front of its class, in the link's state and elsewhere. -/
def TakenFrom (s u : State) (l : Nat) (rx : List RxFrame) (freed : Word) : Prop :=
  u.clink l = { s.clink l with rx := rx, freed := freed } ∧ ∀ j, j ≠ l → u.clink j = s.clink j

theorem AtFront.taken (h : AtFront s l c m ts rx freed) {v : State} (hv : v.links = s.links) : TakenFrom s (v.popMsg l c none) l rx freed := by
  have hc (j : Nat) : v.clink j = s.clink j := by unfold State.clink; rw [hv]
  obtain ⟨hself, hother⟩ := h.popMsg (hc l)
  exact ⟨hself, fun j hj => (hother j hj).trans (hc j)⟩

/-- A READ or WRITE sets out as an access of requester 16. -/
theorem AtFront.issues (h : AtFront s l c m ts rx freed) (kind : AKind) (hkind : m.akind = kind) :
    let u := (s.launch (m.flight c l)).popMsg l c none
    TakenFrom s u l rx freed ∧ KeepRegs [] s u ∧
    SetsOut {
      iss := .remote m.spkg (fld m.h1 30 2 * 8 + fld m.h1 27 3) (portWordLp m.h1), lp := 4096, tc := c, kind := kind, lock := bit (nth 0 m.words 0) 31,
      poison := bit m.h1 20, addr := 0x100000000 + 0x10000000 * fld (nth 0 m.words 0) 29 2 + 0x1000000 * fld (nth 0 m.words 0) 26 3 +
        (if fld (nth 0 m.words 0) 24 2 = 0 then fld (nth 0 m.words 0) 0 24 else 0x600000), data := { d := nth 0 m.words 1 }, from_ := some (m.spkg, m.h1, l.val) } s u := by
  refine ⟨h.taken rfl, .of_regs rfl, ?_⟩
  rw [← portWordLp_region, ← winBase_word, ← hkind]
  exact ⟨rfl, rfl⟩

theorem readMessage_issues (h : AtFront s l c m ts rx freed) (hpkg : m.dpkg = s.ownPkg) (hiso : (s.clink l).isolated = false) (ht : m.typ = 1) :
    exec (.readMessage l c) s = .next ((s.launch (m.flight c l)).popMsg l c none) := by
  refine ok_congr ((State.deliverFront_eq h.front ht hpkg hiso).trans ?_)
  unfold State.deliverMsg
  rw [ht]
  rfl

theorem writeMessage_issues (h : AtFront s l c m ts rx freed) (hpkg : m.dpkg = s.ownPkg) (hiso : (s.clink l).isolated = false) (ht : m.typ = 2) :
    exec (.writeMessage l c) s = .next ((s.launch (m.flight c l)).popMsg l c none) := by
  refine ok_congr ((State.deliverFront_eq h.front ht hpkg hiso).trans ?_)
  unfold State.deliverMsg
  rw [ht]
  rfl

theorem exec_rdrsp (h : AtFront s l c m ts rx freed) (hpkg : m.dpkg = s.ownPkg) (hiso : (s.clink l).isolated = false) (ht : m.typ = 3) :
    exec (.rdrsp l c) s = .next ((s.takeReply m .read).popMsg l c none) := by
  refine ok_congr ((State.deliverFront_eq h.front ht hpkg hiso).trans ?_)
  unfold State.deliverMsg
  rw [ht]
  rfl

theorem exec_wrdone (h : AtFront s l c m ts rx freed) (hpkg : m.dpkg = s.ownPkg) (hiso : (s.clink l).isolated = false) (ht : m.typ = 4) :
    exec (.wrdone l c) s = .next ((s.takeReply m .write).popMsg l c none) := by
  refine ok_congr ((State.deliverFront_eq h.front ht hpkg hiso).trans ?_)
  unfold State.deliverMsg
  rw [ht]
  rfl

/-! Replies (R283, R305). -/

/-- What a reply's STATUS answers an access with. -/
def replyAnswer (m : Msg) (k : AKind) : Answer :=
  if fld m.h1 8 4 = 1 then .quarantined else if fld m.h1 8 4 = 2 then .unreachable
  else match k with | .read => .word { d := nth 0 m.words 0, p := bit m.h1 20 } | .write => .done

theorem takeReply_recorded {k : AKind} {f : Flight} (h : s.recordOf m.h1 k = some f) : s.takeReply m k = s.answer f.id (replyAnswer m k) := by
  unfold State.takeReply replyAnswer
  rw [h]
  dsimp only
  split
  · next hst => rw [if_pos hst]
  · next hst => rw [if_neg (by omega), if_pos hst]
  · next h1 h2 => exact congrArg (s.answer f.id) ((if_neg h1).trans (if_neg h2)).symm

theorem AtFront.answers (h : AtFront s l c m ts rx freed) {k : AKind} {f : Flight} (hr : s.recordOf m.h1 k = some f) :
    let u := (s.takeReply m k).popMsg l c none
    Answered f.id (replyAnswer m k) s u ∧ TakenFrom s u l rx freed ∧ KeepRegs [] s u := by
  rw [takeReply_recorded hr]
  exact ⟨rfl, h.taken rfl, .of_regs rfl⟩

/-- A late reply is counted, and its TAG is free again. -/
theorem AtFront.late (h : AtFront s l c m ts rx freed) {k : AKind} (hr : s.recordOf m.h1 k = none) :
    let u := (s.takeReply m k).popMsg l c none
    u.flights = s.flights ∧ u.lateTags = s.lateTags.erase (portWordLp m.h1, fld m.h1 12 8) ∧ TakenFrom s u l rx freed ∧
    u.rf sysErr 24 8 = min 255 (s.rf sysErr 24 8 + 1) ∧ KeepRegs [sysErr] s u := by
  have ht : s.takeReply m k = { s.count sysErr 24 8 1 with lateTags := s.lateTags.erase (portWordLp m.h1, fld m.h1 12 8) } := by
    unfold State.takeReply
    rw [hr]
  rw [ht]
  exact ⟨rfl, rfl, h.taken rfl, s.rf_count_self sysErr 24 8 1 (by decide), ((KeepRegs.refl _ s).count 24 8 1 (by simp)).then_regs rfl⟩

end

namespace Machine

/-! Streams (R284). -/

/-- The tokens of a STREAM message's words, with their P and F bits. -/
def streamToks : List Word → Word → List Tok
  | [], _ => []
  | w :: t, b => ⟨w, bit b 0, bit b 1⟩ :: streamToks t (b >>> 2)

theorem length_streamToks (ws : List Word) (b : Word) : (streamToks ws b).length = ws.length := by
  induction ws generalizing b with
  | nil => rfl
  | cons w t ih => simp [streamToks, ih]

theorem getElem_streamToks {ws : List Word} {b : Word} {i : Nat} (hi : i < ws.length) :
    (streamToks ws b)[i]'(by rw [length_streamToks]; exact hi) = ⟨ws[i], bit b (2 * i), bit b (2 * i + 1)⟩ := by
  induction ws generalizing b i with
  | nil => cases hi
  | cons w t ih =>
    cases i with
    | zero => rfl
    | succ i =>
      have h := ih (b := b >>> 2) (i := i) (by simpa using hi)
      simp only [streamToks, List.getElem_cons_succ, h]
      simp only [bit, BitVec.getLsbD_ushiftRight]
      rw [show 2 + 2 * i = 2 * (i + 1) by omega, show 2 + (2 * i + 1) = 2 * (i + 1) + 1 by omega]

/-- A STREAM message's tokens, from the low bits of its port word. -/
theorem streamToks_eq {ws : List Word} {h : Word} (hlen : ws.length ≤ 10) :
    streamToks ws (h &&& 0xFFFFF#32) = (ws.zip (List.range 10)).map (fun e => ({ d := e.1, p := bit h (2 * e.2), f := bit h (2 * e.2 + 1) } : Tok)) := by
  have hmask : ∀ j < 20, bit (h &&& 0xFFFFF#32) j = bit h j := fun j hj => by
    have hone : bit 0xFFFFF#32 j = true := by
      have : ∀ j < 20, bit 0xFFFFF#32 j = true := by decide
      exact this j hj
    rw [bit_and, hone, Bool.and_true]
  refine List.ext_getElem (by simp [length_streamToks, hlen]) (fun i hi _ => ?_)
  have hi' : i < ws.length := by rwa [length_streamToks] at hi
  rw [getElem_streamToks hi', hmask _ (by omega), hmask _ (by omega)]
  simp

theorem State.streamTake_frame {β : Type} (φ : State → β) (hφ : ∀ s i x, φ (State.setDnf s i x) = φ s) (s : State) (n : Nat) (ws : List Word) (b : Word) :
    φ (s.streamTake n ws b).1 = φ s := by
  induction ws generalizing s b with
  | nil => rfl
  | cons w t ih =>
    unfold State.streamTake
    dsimp only
    split
    · exact (ih _ _).trans (hφ s n _)
    · rfl

section
variable {n : Nat}

theorem FKind.room_stream : FKind.room .stream = 8 := rfl

/-- A stream ferry takes the tokens it has room for, in order. -/
theorem State.streamTake_stream (s : State) (ws : List Word) (b : Word) (hk : kindOf (s.rget (dnReg n 0)) false = .stream) (hq : (s.dnf n).q.length ≤ 8) :
    ((s.streamTake n ws b).1.dnf n = { s.dnf n with q := (s.dnf n).q ++ (streamToks ws b).take (8 - (s.dnf n).q.length) }) ∧
    (s.streamTake n ws b).2.1 = ws.drop (8 - (s.dnf n).q.length) ∧ (s.streamTake n ws b).2.2 = b >>> (2 * min ws.length (8 - (s.dnf n).q.length)) := by
  induction ws generalizing s b with
  | nil => exact ⟨by simp [State.streamTake, streamToks], by simp [State.streamTake], by simp [State.streamTake]⟩
  | cons w t ih =>
    by_cases hroom : (s.dnf n).q.length < 8
    · let u := s.setDnf n { s.dnf n with q := (s.dnf n).q ++ [⟨w, bit b 0, bit b 1⟩] }
      have hu : u.dnf n = { s.dnf n with q := (s.dnf n).q ++ [⟨w, bit b 0, bit b 1⟩] } := s.dnf_setDnf_same n _
      have hstep : s.streamTake n (w :: t) b = u.streamTake n t (b >>> 2) := by
        conv_lhs => unfold State.streamTake
        dsimp only
        rw [hk, if_pos (.inr (by rw [FKind.room_stream]; exact hroom)), if_neg (by simp)]
      obtain ⟨m, hm⟩ : ∃ m, 8 - (s.dnf n).q.length = m + 1 := ⟨7 - (s.dnf n).q.length, by omega⟩
      have hlen : 8 - (u.dnf n).q.length = m := by rw [hu]; simp; omega
      obtain ⟨h1, h2, h3⟩ := ih u (b >>> 2) hk (by rw [hu]; simp; omega)
      rw [hlen] at h1 h2 h3
      rw [hstep, h1, h2, h3, hm, hu]
      refine ⟨by simp [streamToks], by simp, ?_⟩
      rw [← BitVec.shiftRight_add]
      congr 1
      simp only [List.length_cons]
      omega
    · have hstep : s.streamTake n (w :: t) b = (s, w :: t, b) := by
        unfold State.streamTake
        dsimp only
        rw [hk, if_neg (by rw [FKind.room_stream]; simp [hroom])]
      have h0 : 8 - (s.dnf n).q.length = 0 := by omega
      rw [hstep, h0]
      exact ⟨by simp, rfl, by simp⟩

/-- A ferry in latest-value mode takes every token, and holds the last. -/
theorem State.streamTake_latest (s : State) (ws : List Word) (b : Word) (hk : kindOf (s.rget (dnReg n 0)) false = .latest) :
    (s.streamTake n ws b).2.1 = [] ∧ ∀ t, (streamToks ws b).getLast? = some t → (s.streamTake n ws b).1.dnf n = { s.dnf n with q := [t] } := by
  induction ws generalizing s b with
  | nil => exact ⟨rfl, fun t ht => by cases ht⟩
  | cons w t ih =>
    let u := s.setDnf n { s.dnf n with q := [⟨w, bit b 0, bit b 1⟩] }
    have hu : u.dnf n = { s.dnf n with q := [⟨w, bit b 0, bit b 1⟩] } := s.dnf_setDnf_same n _
    have hstep : s.streamTake n (w :: t) b = u.streamTake n t (b >>> 2) := by
      conv_lhs => unfold State.streamTake
      dsimp only
      rw [hk, if_pos (.inl rfl), if_pos rfl]
    obtain ⟨h1, h2⟩ := ih u (b >>> 2) hk
    rw [hstep]
    refine ⟨h1, fun x hx => ?_⟩
    cases hr : (streamToks t (b >>> 2)).getLast? with
    | none =>
      have ht : t = [] := by
        have := List.getLast?_eq_none_iff.mp hr
        simpa [length_streamToks] using congrArg List.length this
      subst ht
      have hx' : (⟨w, bit b 0, bit b 1⟩ : Tok) = x := by simpa [streamToks] using hx
      rw [← hx']
      exact hu
    | some y =>
      have hy : y = x := by
        rw [streamToks, List.getLast?_cons, hr] at hx
        simpa using hx
      rw [h2 y hr, hu, hy]

end

end Machine

section
variable {l : Fin 32} {c : Fin 4} {s : State} {m : Msg} {ts : Nat} {rx : List RxFrame} {freed : Word}

theorem exec_stream (h : AtFront s l c m ts rx freed) (hpkg : m.dpkg = s.ownPkg) (hiso : (s.clink l).isolated = false) (ht : m.typ = 5) :
    exec (.streamMessage l c) s = .next (s.streamMsg l c m) := by
  refine ok_congr ((State.deliverFront_eq h.front ht hpkg hiso).trans ?_)
  unfold State.deliverMsg
  rw [ht]
  rfl

/-- A STREAM message of an unmapped channel is discarded, with PROT. -/
theorem AtFront.unmapped (h : AtFront s l c m ts rx freed) (hmap : bit (s.streamMap l (fld m.h1 28 4) 1) 31 = false) :
    TakenFrom s (s.streamMsg l c m) l rx freed ∧ (s.streamMsg l c m).rb (chl l 4) 27 = true ∧ KeepRegs [chl l 4] s (s.streamMsg l c m) ∧
    Only [.regs, .links] s (s.streamMsg l c m) := by
  let v := s.popMsg l c none
  have hv : s.streamMsg l c m = v.sticky (chl l 4) 27 := if_pos (by simp [hmap])
  obtain ⟨hself, hother⟩ := h.taken (v := s) rfl
  rw [hv]
  refine ⟨⟨hself, hother⟩, v.rb_sticky_self (chl l 4) 27 (by decide), (KeepRegs.of_regs (t := v) rfl).sticky 27 (by simp), ?_⟩
  exact ((State.popMsg_ev l c none (Ev.refl (fieldMask [.regs, .links]) s) (by rfl)).rput (by rfl) (chl l 4) _).only_mask

/-- The tokens of a STREAM message given to the ferry its channel maps to. -/
def Machine.State.streamGiven (s : State) (l : Nat) (m : Msg) : State × List Word × Word :=
  s.streamTake (mapFerry (s.streamMap l (fld m.h1 28 4) 1)) m.words (m.h1 &&& 0xFFFFF#32)

/-- What is left of a STREAM message. -/
def streamLeft (m : Msg) (left : List Word) (b : Word) : Msg :=
  { m with words := left, h1 := (m.h1 &&& 0xF0000000#32) ||| (b &&& 0xFFFFF#32) }

theorem streamMsg_mapped (s : State) (l c : Nat) (m : Msg) (hmap : bit (s.streamMap l (fld m.h1 28 4) 1) 31 = true) :
    s.streamMsg l c m = (s.streamGiven l m).1.popMsg l c
      (if (s.streamGiven l m).2.1.isEmpty then none else some (streamLeft m (s.streamGiven l m).2.1 (s.streamGiven l m).2.2)) := if_neg (by simp [hmap])

/-- Giving tokens to a ferry leaves the links and the registers, and taking the message leaves the ferry. -/
theorem streamGiven_leaves (s : State) (l : Nat) (m : Msg) : (s.streamGiven l m).1.links = s.links ∧ (s.streamGiven l m).1.regs = s.regs ∧
    ∀ (c : Nat) (left : Option Msg), Only [.links, .dns] s ((s.streamGiven l m).1.popMsg l c left) :=
  ⟨State.streamTake_frame (fun u => u.links) (fun _ _ _ => rfl) s _ _ _, State.streamTake_frame (fun u => u.regs) (fun _ _ _ => rfl) s _ _ _,
    fun c left => (State.popMsg_ev l c left (State.streamTake_ev1 _ _ _ (Ev.refl (fieldMask [.links, .dns]) s) (by rfl)) (by rfl)).only_mask⟩

/-- A STREAM message all of whose tokens are taken. -/
theorem AtFront.streamed (h : AtFront s l c m ts rx freed) (hmap : bit (s.streamMap l (fld m.h1 28 4) 1) 31 = true) (hall : (s.streamGiven l m).2.1 = []) :
    TakenFrom s (s.streamMsg l c m) l rx freed ∧
    (∀ n, (s.streamMsg l c m).dnf n = (s.streamGiven l m).1.dnf n) ∧ KeepRegs [] s (s.streamMsg l c m) ∧ Only [.links, .dns] s (s.streamMsg l c m) := by
  obtain ⟨hlinks, hregs, honly⟩ := streamGiven_leaves s l m
  have hv : s.streamMsg l c m = (s.streamGiven l m).1.popMsg l c none := by
    rw [streamMsg_mapped s l c m hmap, hall]
    rfl
  rw [hv]
  exact ⟨h.taken hlinks, fun n => rfl, (KeepRegs.of_regs hregs).then_regs rfl, honly c none⟩

/-- R284: a STREAM message that a stream ferry has room for. -/
theorem AtFront.streamed_all (h : AtFront s l c m ts rx freed) (hmap : bit (s.streamMap l (fld m.h1 28 4) 1) 31 = true)
    (hk : kindOf (s.rget (dnReg (mapFerry (s.streamMap l (fld m.h1 28 4) 1)) 0)) false = .stream)
    (hroom : (s.dnf (mapFerry (s.streamMap l (fld m.h1 28 4) 1))).q.length + m.words.length ≤ 8) :
    TakenFrom s (s.streamMsg l c m) l rx freed ∧ (s.streamMsg l c m).dnf (mapFerry (s.streamMap l (fld m.h1 28 4) 1)) =
      { s.dnf (mapFerry (s.streamMap l (fld m.h1 28 4) 1)) with
        q := (s.dnf (mapFerry (s.streamMap l (fld m.h1 28 4) 1))).q ++ streamToks m.words (m.h1 &&& 0xFFFFF#32) } ∧
    KeepRegs [] s (s.streamMsg l c m) ∧ Only [.links, .dns] s (s.streamMsg l c m) := by
  obtain ⟨h1, h2, -⟩ := s.streamTake_stream m.words (m.h1 &&& 0xFFFFF#32) hk (by omega)
  rw [List.drop_eq_nil_of_le (by omega)] at h2
  rw [List.take_of_length_le (by rw [length_streamToks]; omega)] at h1
  obtain ⟨htaken, hdnf, hkeep, honly⟩ := h.streamed hmap h2
  exact ⟨htaken, (hdnf _).trans h1, hkeep, honly⟩

theorem bit_streamLeft (h b : Word) {i : Nat} (hi : i < 20) : bit ((h &&& 0xF0000000#32) ||| (b &&& 0xFFFFF#32)) i = bit b i := by
  have hlow : ∀ j < 20, bit 0xF0000000#32 j = false ∧ bit 0xFFFFF#32 j = true := by decide
  obtain ⟨h0, h1⟩ := hlow i hi
  rw [bit_or, bit_and, bit_and, h0, h1]
  simp

theorem fld_streamLeft (h b : Word) : fld ((h &&& 0xF0000000#32) ||| (b &&& 0xFFFFF#32)) 28 4 = fld h 28 4 := by
  refine Nat.eq_of_testBit_eq (fun j => ?_)
  rw [testBit_fld, testBit_fld]
  by_cases hj : j < 4
  · have hhigh : ∀ k < 4, bit 0xF0000000#32 (28 + k) = true ∧ bit 0xFFFFF#32 (28 + k) = false := by decide
    obtain ⟨h1, h0⟩ := hhigh j hj
    show (_ && bit _ _) = (_ && bit _ _)
    rw [bit_or, bit_and, bit_and, h0, h1]
    simp
  · simp [hj]

/-- R284: a STREAM message that a stream ferry has room for only in part: the rest waits at the front. -/
theorem AtFront.streamed_part (h : AtFront s l c m ts rx freed) (ht : m.typ = 5) (hmap : bit (s.streamMap l (fld m.h1 28 4) 1) 31 = true)
    (hk : kindOf (s.rget (dnReg (mapFerry (s.streamMap l (fld m.h1 28 4) 1)) 0)) false = .stream)
    (hq : (s.dnf (mapFerry (s.streamMap l (fld m.h1 28 4) 1))).q.length ≤ 8)
    (hfull : 8 < (s.dnf (mapFerry (s.streamMap l (fld m.h1 28 4) 1))).q.length + m.words.length) :
    let n := mapFerry (s.streamMap l (fld m.h1 28 4) 1)
    let room := 8 - (s.dnf n).q.length
    (s.streamMsg l c m).dnf n = { s.dnf n with q := (s.dnf n).q ++ (streamToks m.words (m.h1 &&& 0xFFFFF#32)).take room } ∧
    KeepRegs [] s (s.streamMsg l c m) ∧ Only [.links, .dns] s (s.streamMsg l c m) ∧
    ∃ m', s.front l c = some (m, ts) ∧ (s.streamMsg l c m).front l c = some (m', ts) ∧ m'.words = m.words.drop room ∧ fld m'.h1 28 4 = fld m.h1 28 4 ∧
      m'.dpkg = m.dpkg ∧ m'.typ = 5 ∧ ∀ i, i + 2 * room < 20 → bit m'.h1 i = bit m.h1 (i + 2 * room) := by
  intro n room
  have hroom : room < m.words.length := by
    show 8 - (s.dnf (mapFerry (s.streamMap l (fld m.h1 28 4) 1))).q.length < m.words.length
    omega
  obtain ⟨h1, h2, h3⟩ := s.streamTake_stream (n := n) m.words (m.h1 &&& 0xFFFFF#32) hk hq
  obtain ⟨hlinks, hregs, honly⟩ := streamGiven_leaves s l m
  have hleft : (s.streamGiven l m).2.1 = m.words.drop room := h2
  have hbits : (s.streamGiven l m).2.2 = (m.h1 &&& 0xFFFFF#32) >>> (2 * room) := by
    refine h3.trans ?_
    rw [Nat.min_eq_right hroom.le]
  have hne : (m.words.drop room).isEmpty = false := by
    rw [List.isEmpty_eq_false_iff, ne_eq, List.drop_eq_nil_iff]
    exact hroom.not_ge
  let m' := streamLeft m (m.words.drop room) ((m.h1 &&& 0xFFFFF#32) >>> (2 * room))
  have hv : s.streamMsg l c m = (s.streamGiven l m).1.popMsg l c (some m') := by
    rw [streamMsg_mapped s l c m hmap, hleft, hbits, hne]
    rfl
  have hclink : (s.streamGiven l m).1.clink l = s.clink l := by unfold State.clink; rw [hlinks]
  obtain ⟨hfront, hpregs, -⟩ := h.popMsg_left hclink m'
  rw [hv]
  refine ⟨h1, .of_regs (hpregs.trans hregs), honly c (some m'), m', h.front, hfront, rfl, fld_streamLeft _ _, rfl, ht, fun i hi => ?_⟩
  refine (bit_streamLeft _ _ (by omega)).trans ?_
  have hone : ∀ j < 20, bit 0xFFFFF#32 j = true := by decide
  have hshift : bit ((m.h1 &&& 0xFFFFF#32) >>> (2 * room)) i = bit (m.h1 &&& 0xFFFFF#32) (2 * room + i) := BitVec.getLsbD_ushiftRight ..
  rw [hshift, bit_and, hone _ (by omega), Bool.and_true, Nat.add_comm]

/-- R284: a STREAM message for a ferry in latest-value mode. -/
theorem AtFront.streamed_latest (h : AtFront s l c m ts rx freed) (hmap : bit (s.streamMap l (fld m.h1 28 4) 1) 31 = true)
    (hk : kindOf (s.rget (dnReg (mapFerry (s.streamMap l (fld m.h1 28 4) 1)) 0)) false = .latest) {t : Tok}
    (hlast : (streamToks m.words (m.h1 &&& 0xFFFFF#32)).getLast? = some t) :
    TakenFrom s (s.streamMsg l c m) l rx freed ∧ (s.streamMsg l c m).dnf (mapFerry (s.streamMap l (fld m.h1 28 4) 1)) =
      { s.dnf (mapFerry (s.streamMap l (fld m.h1 28 4) 1)) with q := [t] } ∧ Only [.links, .dns] s (s.streamMsg l c m) := by
  obtain ⟨h1, h2⟩ := s.streamTake_latest m.words (m.h1 &&& 0xFFFFF#32) hk
  obtain ⟨htaken, hdnf, -, honly⟩ := h.streamed hmap h1
  exact ⟨htaken, (hdnf _).trans (h2 t hlast), honly⟩

end

/-! No reply (R305). -/

theorem flight_id {s : State} {id : Nat} {f : Flight} (h : s.flight id = some f) : f.id = id := by
  have := List.find?_some h
  simpa using this

theorem remoteTimeout_idle {s : State} {id : Nat} (h : ∀ f, s.flight id = some f → f.sent = none ∨ f.ans ≠ none) : exec (.remoteTimeout id) s = .next s := by
  show execRemoteTimeout id s = ok s
  unfold execRemoteTimeout
  split
  · next f hf =>
    refine if_neg ?_
    rcases h f hf with h | h
    · simp [h]
    · simp [Option.isNone_iff_eq_none, h]
  · rfl

/-- The registers of a request that had no reply. -/
def Machine.State.overdue (s : State) : State := ((s.sticky sysStat 29).count sysErr 16 8 1).unreach

theorem overdue_shows (s : State) : s.overdue.rb sysStat 29 = true ∧ s.overdue.rb sysStat 30 = true ∧
    s.overdue.rf sysErr 16 8 = min 255 (s.rf sysErr 16 8 + 1) ∧ KeepRegs [sysStat, sysErr] s s.overdue := by
  have hne : sysStat.addr ≠ sysErr.addr := by decide
  let v1 := s.sticky sysStat 29
  let v2 := v1.count sysErr 16 8 1
  let v3 := v2.sticky sysStat 30
  have h2 : v2.rget sysStat = v1.rget sysStat := v1.rget_count_ne sysErr sysStat 16 8 1 hne
  have h4 : s.overdue.rget sysStat = v3.rget sysStat := v3.rget_count_ne sysErr sysStat 0 8 1 hne
  have he : v3.rget sysErr = v2.rget sysErr := v2.rget_sticky_ne sysStat sysErr 30 hne.symm
  have h0 : v1.rget sysErr = s.rget sysErr := s.rget_sticky_ne sysStat sysErr 29 hne.symm
  refine ⟨?_, ?_, ?_, ?_⟩
  · exact (State.rb_of_rget h4 29).trans ((v2.rb_sticky_bit sysStat 30 29 (by decide)).trans ((State.rb_of_rget h2 29).trans (s.rb_sticky_self sysStat 29 (by decide))))
  · exact (State.rb_of_rget h4 30).trans (v2.rb_sticky_self sysStat 30 (by decide))
  · refine (v3.rf_count_ne sysErr 0 8 1 16 8 (by decide)).trans ((State.rf_of_rget he 16 8).trans ((v1.rf_count_self sysErr 16 8 1 (by decide)).trans ?_))
    rw [State.rf_of_rget h0]
    rfl
  · exact ((((KeepRegs.refl _ s).sticky 29 (by simp)).count 16 8 1 (by simp)).sticky 30 (by simp)).count 0 8 1 (by simp)

theorem remoteTimeout_spec {s : State} {id : Nat} {f : Flight} (hf : s.flight id = some f) (hsent : f.sent.isSome = true) (hans : f.ans = none) :
    Does (.remoteTimeout id) s (fun u => Answered id .unreachable s u ∧ (∀ l t, f.sent = some (l, t) → u.lateTags = s.lateTags ++ [(f.lp, t)]) ∧
      u.rb sysStat 29 = true ∧ u.rb sysStat 30 = true ∧ u.rf sysErr 16 8 = min 255 (s.rf sysErr 16 8 + 1) ∧ KeepRegs [sysStat, sysErr] s u ∧
      Only [.regs, .flights, .lateTags] s u) := by
  obtain ⟨x, hx⟩ := Option.isSome_iff_exists.mp hsent
  let u : State := { s.overdue.answer f.id .unreachable with lateTags := s.lateTags ++ [(f.lp, x.2)] }
  have hexec : exec (.remoteTimeout id) s = .next u := by
    show execRemoteTimeout id s = ok u
    unfold execRemoteTimeout
    rw [hf]
    dsimp only
    rw [if_pos (by simp [hsent, hans])]
    unfold State.giveUp
    rw [hx]
    rfl
  obtain ⟨h29, h30, herr, hkeep⟩ := overdue_shows s
  have hplaces : SamePlaces s s.overdue := .of_keep hkeep (fun g hg => by
    simp only [List.mem_cons, List.not_mem_nil, or_false] at hg
    obtain rfl | rfl := hg <;> decide) rfl
  have hanswered := hplaces.answered rfl id .unreachable
  refine .of_eq hexec ⟨?_, fun l t ht => ?_, h29, h30, herr, hkeep.then_regs rfl,
    (execRemoteTimeout_ev id (Ev.refl (fieldMask [.regs, .flights, .lateTags]) s) (by rfl)).only hexec⟩
  · rw [← flight_id hf] at hanswered ⊢
    exact hanswered
  · rw [hx] at ht
    injection ht with ht
    rw [show u.lateTags = s.lateTags ++ [(f.lp, x.2)] from rfl, ht]

/-- Settles O38: the front message by its type, with what its class holds after it; and a request that had no reply. -/
theorem remoteMessages : Obligations.RemoteMessages := by
  unfold Obligations.RemoteMessages
  refine ⟨fun l c s m ts rx freed h hpkg hiso => ⟨fun ht => ?_, fun ht => ?_, fun f ht hr => ?_, fun f ht hr => ?_, fun ht hr => ?_, fun ht hr => ?_, fun ht => ?_⟩,
    fun l c s h => ?_, fun id s f => remoteTimeout_spec, fun id s => remoteTimeout_idle⟩
  · obtain ⟨htaken, hkeep, hsets⟩ := h.issues .read (by simp [Msg.akind, ht])
    exact .of_eq (readMessage_issues h hpkg hiso ht) ⟨htaken, hkeep, hsets⟩
  · obtain ⟨htaken, hkeep, hsets⟩ := h.issues .write (by simp [Msg.akind, ht])
    exact .of_eq (writeMessage_issues h hpkg hiso ht) ⟨htaken, hkeep, hsets⟩
  · exact .of_eq (exec_rdrsp h hpkg hiso ht) (h.answers hr)
  · exact .of_eq (exec_wrdone h hpkg hiso ht) (h.answers hr)
  · exact .of_eq (exec_rdrsp h hpkg hiso ht) (h.late hr)
  · exact .of_eq (exec_wrdone h hpkg hiso ht) (h.late hr)
  · have hexec := exec_stream h hpkg hiso ht
    refine ⟨fun hmap => .of_eq hexec (h.unmapped hmap), fun hmap hlen hk => ⟨fun hroom => ?_, fun hq hfull => ?_⟩, fun hmap hk hlen t hlast => ?_⟩
    · rw [← streamToks_eq hlen]
      exact .of_eq hexec (h.streamed_all hmap hk hroom)
    · rw [← streamToks_eq hlen]
      exact .of_eq hexec (h.streamed_part ht hmap hk hq hfull)
    · rw [← streamToks_eq hlen] at hlast
      exact .of_eq hexec (h.streamed_latest hmap hk hlast)
  · have hidle (typ : Nat) : s.deliverFront l c typ = s := State.deliverFront_idle (fun m ts hm => .inr (h m ts hm))
    exact ⟨ok_congr (hidle 1), ok_congr (hidle 2), ok_congr (hidle 3), ok_congr (hidle 4), ok_congr (hidle 5)⟩

end Sys2Proof
end

section
/-! The system phase lines (R285, R310 to R312): PHASE messages received and sent, measurements of the lines that follow a link, coast and holdover. -/

namespace Sys2Proof

open Machine

namespace Machine

/-! Measurements of the lines of a link (R311, R312). -/

/-- A line with a measurement of phase m at ts. -/
def TLine.phased (t : TLine) (m ts : Int) : TLine := { t with meas := some ⟨m, ts, false, true⟩, coast := false, edgeTs := ts }

/-- The lines of port p measured. -/
def State.portPhased (s : State) (p : Nat) (m ts : Int) : State := s.each (s.linesOf p) (fun s n => s.setTline n ((s.tline n).phased m ts))

theorem State.portPhased_frame {β : Type} (φ : State → β) (hφ : ∀ s i x, φ (State.setTline s i x) = φ s) (s : State) (p : Nat) (m ts : Int) :
    φ (s.portPhased p m ts) = φ s := State.each_inv φ (fun u n => hφ u n _) s _

theorem State.tline_portPhased (s : State) (p : Nat) (m ts : Int) (k : Nat) :
    (s.portPhased p m ts).tline k = if k ∈ s.linesOf p then (s.tline k).phased m ts else s.tline k :=
  State.each_at (fun u => u.tline k) (fun _ => ()) (fun _ t => t.phased m ts) (f := fun s n => s.setTline n ((s.tline n).phased m ts)) (fun _ _ _ => rfl)
    (fun u _ => u.tline_setTline_same k _) (fun u a _ hne => u.tline_setTline_ne a k _ (Ne.symm hne)) s (s.linesOf_nodup p)

/-- A line is measured if its port is among those of the link; it follows one port only. -/
theorem State.tline_portsPhased (s : State) (ports : List Nat) (m ts : Int) {k : Nat} (hk : k < 8) :
    (s.each ports (fun s p => s.portPhased p m ts)).tline k =
      if (s.tline k).run = true ∧ fld (s.tline k).ctl 24 4 ∈ ports then (s.tline k).phased m ts else s.tline k := by
  induction ports generalizing s with
  | nil => simp [State.each]
  | cons p ports ih =>
    have hone := s.tline_portPhased p m ts k
    simp only [State.mem_linesOf, hk, true_and] at hone
    refine (ih (s.portPhased p m ts)).trans ?_
    rw [hone]
    by_cases hrun : (s.tline k).run = true
    · by_cases hp : fld (s.tline k).ctl 24 4 = p
      · simp [hrun, hp, TLine.phased]
      · simp [hrun, hp]
    · simp [hrun]

/-- The ports that take a link's phase line. -/
def State.phasePorts (s : State) (l line : Nat) : List Nat :=
  (List.range 16).filter (fun p => s.piActive p && s.piType p == 8 && s.rf (piReg p 0) 0 8 == l && s.rf (chvReg (0xA80 + 4 * p)) 0 3 == line)

theorem State.phaseMeasure_eq (s : State) (l line : Nat) (m ts : Int) :
    s.phaseMeasure l line m ts = if !s.tallyRuns then s else s.each (s.phasePorts l line) (fun s p => s.portPhased p m ts) := rfl

theorem State.phaseMeasure_frame {β : Type} (φ : State → β) (hφ : ∀ s i x, φ (State.setTline s i x) = φ s) (s : State) (l line : Nat) (m ts : Int) :
    φ (s.phaseMeasure l line m ts) = φ s := by
  rw [State.phaseMeasure_eq]
  split
  · rfl
  · exact State.each_inv φ (fun u p => u.portPhased_frame φ hφ p m ts) s _

/-- Line k follows link l's phase line. -/
def FollowsLink (s : State) (l line k : Nat) : Prop :=
  s.tallyRuns = true ∧ (s.tline k).run = true ∧ s.piActive (fld (s.tline k).ctl 24 4) = true ∧ s.piType (fld (s.tline k).ctl 24 4) = 8 ∧
  s.rf (piReg (fld (s.tline k).ctl 24 4) 0) 0 8 = l ∧ s.rf (chvReg (0xA80 + 4 * fld (s.tline k).ctl 24 4)) 0 3 = line

theorem State.tline_phaseMeasure (s : State) (l line : Nat) (m ts : Int) {k : Nat} (hk : k < 8) :
    (FollowsLink s l line k → (s.phaseMeasure l line m ts).tline k = (s.tline k).phased m ts) ∧
    (¬ FollowsLink s l line k → (s.phaseMeasure l line m ts).tline k = s.tline k) := by
  have hp : fld (s.tline k).ctl 24 4 < 16 := fld_lt _ 24 4
  have hmem : fld (s.tline k).ctl 24 4 ∈ s.phasePorts l line ↔ s.piActive (fld (s.tline k).ctl 24 4) = true ∧ s.piType (fld (s.tline k).ctl 24 4) = 8 ∧
      s.rf (piReg (fld (s.tline k).ctl 24 4) 0) 0 8 = l ∧ s.rf (chvReg (0xA80 + 4 * fld (s.tline k).ctl 24 4)) 0 3 = line := by
    simp [State.phasePorts, hp, and_assoc]
  rw [State.phaseMeasure_eq]
  cases hrun : s.tallyRuns with
  | false => exact ⟨fun h => absurd h.1 (by simp [hrun]), fun _ => rfl⟩
  | true =>
    have hall := s.tline_portsPhased (s.phasePorts l line) m ts hk
    constructor
    · rintro ⟨-, h⟩
      exact hall.trans (if_pos ⟨h.1, hmem.mpr h.2⟩)
    · intro h
      exact hall.trans (if_neg (fun hn => h ⟨hrun, hn.1, hmem.mp hn.2⟩))

/-! A PHASE message received (R285, R311). -/

def msgWord (m : Msg) (i : Nat) : Word := nth 0 m.words i

/-- R311: the echo is valid: a time this link sent. -/
def CLink.phaseGood (k : CLink) (m : Msg) : Bool := msgWord m 7 != 0xFFFFFFFF#32 && k.sentTx.contains (time64 (msgWord m 5) (msgWord m 6))

/-- The round trips after a PHASE message. -/
def CLink.trips (k : CLink) (m : Msg) (rx : Nat) : List Nat :=
  if k.phaseGood m then
    (k.rtts ++ [((rx : Int) - (time64 (msgWord m 5) (msgWord m 6) : Int) - ((msgWord m 7).toNat : Int)).toNat]).drop (k.rtts.length + 1 - 16)
  else k.rtts

def CLink.phased (k : CLink) (m : Msg) (rx : Nat) : CLink := { k with echo := some (time64 (msgWord m 3) (msgWord m 4), rx), rtts := k.trips m rx }

/-- CHV_DLY of a link with its round trips. -/
def CLink.delayReg (k : CLink) : RegVal := putB 31 (decide (k.rtts.length = 16)) + put 0 (k.delayPs.toNat % 2 ^ 24)

def dlyReg (l : Nat) : Reg := chvReg (0xA00 + 4 * l)

/-- A PHASE message's echo and round trip kept. -/
def State.phaseSeen (s : State) (l : Nat) (m : Msg) (rx : Nat) : State :=
  if (s.clink l).phaseGood m then (s.setClink l ((s.clink l).phased m rx)).rput (dlyReg l) ((s.clink l).phased m rx).delayReg
  else s.setClink l ((s.clink l).phased m rx)

/-- The input delay of a link: half the mean round trip, with ASYM, in Tally time. -/
def State.delayIn (s : State) (l : Nat) (k : CLink) : Int :=
  roundOpen ((k.rtts.foldl (· + ·) 0 : Nat) * 625 + 16 * (BitVec.ofNat 16 (s.rf (chvReg (0x980 + 4 * l)) 0 16)).toInt) 20000

theorem State.phaseMsg_eq (s : State) (l : Nat) (m : Msg) (rx : Nat) : s.phaseMsg l m rx =
    if bit m.h1 28 && s.rb (dlyReg l) 31 then
      (s.phaseSeen l m rx).phaseMeasure l (fld m.h1 29 3) (((msgWord m 0).toNat * 65536 + fld (msgWord m 1) 16 16 : Nat) * 65536)
        ((rx : Int) - (s.phaseSeen l m rx).delayIn l ((s.clink l).phased m rx))
    else s.phaseSeen l m rx := rfl

theorem State.phaseSeen_leaves (s : State) (l : Nat) (m : Msg) (rx : Nat) :
    (s.phaseSeen l m rx).clink l = (s.clink l).phased m rx ∧ (∀ j, j ≠ l → (s.phaseSeen l m rx).clink j = s.clink j) ∧ KeepRegs [dlyReg l] s (s.phaseSeen l m rx) ∧
    (s.phaseSeen l m rx).tlines = s.tlines ∧ ((s.clink l).phaseGood m = true → (s.phaseSeen l m rx).rget (dlyReg l) = ((s.clink l).phased m rx).delayReg) ∧
    ((s.clink l).phaseGood m = false → KeepRegs [] s (s.phaseSeen l m rx)) := by
  let v := s.setClink l ((s.clink l).phased m rx)
  have hself : v.clink l = (s.clink l).phased m rx := s.clink_setClink_same l _
  have hother (j : Nat) (hj : j ≠ l) : v.clink j = s.clink j := s.clink_setClink_ne l j _ hj
  unfold State.phaseSeen
  cases hg : (s.clink l).phaseGood m with
  | true => exact ⟨hself, hother, (KeepRegs.of_regs (t := v) rfl).rput _ (by simp), rfl, fun _ => v.rget_rput_same _ _, fun h => (by cases h)⟩
  | false => exact ⟨hself, hother, .of_regs rfl, rfl, fun h => (by cases h), fun _ => .of_regs rfl⟩

/-- The Tally's registers and the phase lines' are none of the links' delays. -/
theorem FollowsLink.phaseSeen {s u : State} {l : Nat} (hl : l < 32) (hkeep : KeepRegs [dlyReg l] s u) (ht : u.tlines = s.tlines) (i line k : Nat) :
    FollowsLink u i line k ↔ FollowsLink s i line k := by
  have htl : u.tline k = s.tline k := by unfold State.tline; rw [ht]
  have hp : fld (s.tline k).ctl 24 4 < 16 := fld_lt _ 24 4
  have hdly : (dlyReg l).addr = 0x20070A00 + 4 * l := by simp only [dlyReg, chvReg_addr]; omega
  have hpi (off : Nat) (hoff : off < 0x40) : u.rget (piReg (fld (s.tline k).ctl 24 4) off) = s.rget (piReg (fld (s.tline k).ctl 24 4) off) :=
    hkeep _ (by simp only [List.mem_cons, List.not_mem_nil, or_false, forall_eq, piReg_addr, hdly]; omega)
  have htly (off : Nat) (hoff : off < 0x40) : u.rget ⟨.tly, 0, off⟩ = s.rget ⟨.tly, 0, off⟩ := by
    refine hkeep _ (fun g hg => ?_)
    obtain rfl := List.mem_singleton.mp hg
    rw [hdly]
    show 0x20020000 + off ≠ _
    omega
  have hline : u.rget (chvReg (0xA80 + 4 * fld (s.tline k).ctl 24 4)) = s.rget (chvReg (0xA80 + 4 * fld (s.tline k).ctl 24 4)) :=
    hkeep _ (by simp only [List.mem_cons, List.not_mem_nil, or_false, forall_eq, chvReg_addr, hdly]; omega)
  have htype : u.piType (fld (s.tline k).ctl 24 4) = s.piType (fld (s.tline k).ctl 24 4) := State.rf_of_rget (hpi 0 (by decide)) 24 4
  have hact : u.piActive (fld (s.tline k).ctl 24 4) = s.piActive (fld (s.tline k).ctl 24 4) := by
    unfold State.piActive State.piEn State.piHeldOff
    rw [htype, State.rb_of_rget (hpi 0 (by decide)), State.rb_of_rget (g := tlyDiff) (htly 0xC (by decide))]
  unfold FollowsLink
  rw [htl, hact, htype, State.rf_of_rget (hpi 0 (by decide)), State.rf_of_rget hline, show u.tallyRuns = s.tallyRuns from State.rb_of_rget (g := tlyStat) (htly 4 (by decide)) 0]

theorem State.delayIn_of {s u : State} {l : Nat} (hkeep : KeepRegs [dlyReg l] s u) (k : CLink) : u.delayIn l k = s.delayIn l k := by
  have h : u.rget (chvReg (0x980 + 4 * l)) = s.rget (chvReg (0x980 + 4 * l)) :=
    hkeep _ (by simp only [List.mem_cons, List.not_mem_nil, or_false, forall_eq, dlyReg, chvReg_addr]; omega)
  unfold State.delayIn
  rw [State.rf_of_rget h]

/-- CHV_DLY shows its VALID bit and the delay, in 24 bits. -/
theorem bit_delayReg (k : CLink) : bit k.delayReg 31 = decide (k.rtts.length = 16) := by
  have hlt : k.delayPs.toNat % 2 ^ 24 < 2 ^ 24 := Nat.mod_lt _ (by decide)
  unfold CLink.delayReg putB put
  generalize k.delayPs.toNat % 2 ^ 24 = x at hlt
  rw [Nat.shiftLeft_zero, ← BitVec.ofNat_add, bit, BitVec.getLsbD_ofNat]
  cases decide (k.rtts.length = 16) with
  | true => simp [b2n, Nat.testBit_eq_decide_div_mod_eq]; omega
  | false => simp [b2n, Nat.testBit_eq_decide_div_mod_eq]; omega

theorem fld_delayReg (k : CLink) : fld k.delayReg 0 24 = k.delayPs.toNat % 2 ^ 24 := by
  have hlt : k.delayPs.toNat % 2 ^ 24 < 2 ^ 24 := Nat.mod_lt _ (by decide)
  unfold CLink.delayReg putB put
  generalize k.delayPs.toNat % 2 ^ 24 = x at hlt
  rw [Nat.shiftLeft_zero, ← BitVec.ofNat_add, fld_zero, BitVec.toNat_ofNat]
  cases decide (k.rtts.length = 16) with
  | true => simp [b2n]; omega
  | false => simp [b2n]; omega

/-- The averaged delay is half the mean of the round trips, rounded to one of its neighbours. -/
theorem delayPs_bounds (k : CLink) {n : Nat} (hn : k.rtts.foldl (· + ·) 0 = n) (hlt : (n * 625) / 16 + 1 < 2 ^ 24) :
    (n * 625) / 16 ≤ k.delayPs.toNat % 2 ^ 24 ∧ k.delayPs.toNat % 2 ^ 24 ≤ (n * 625 + 15) / 16 := by
  have hnear := roundOpen_near ((n : Int) * 625) (d := 16) (by decide)
  have hd : k.delayPs = roundOpen ((n : Int) * 625) 16 := by unfold CLink.delayPs; rw [hn]
  rw [← hd] at hnear
  rw [Nat.mod_eq_of_lt (by omega)]
  omega

end Machine

/-- The words of the statement: what a PHASE message shows. -/
theorem time64_eq (lo hi : Word) : time64 lo hi = lo.toNat + 2 ^ 32 * hi.toNat := by unfold time64; omega

theorem phaseGood_iff (k : CLink) (m : Msg) : k.phaseGood m = true ↔
    (nth 0 m.words 7).toNat ≠ 0xFFFFFFFF ∧ (nth 0 m.words 5).toNat + 2 ^ 32 * (nth 0 m.words 6).toNat ∈ k.sentTx := by
  have h7 : msgWord m 7 ≠ 0xFFFFFFFF#32 ↔ (nth 0 m.words 7).toNat ≠ 0xFFFFFFFF := not_congr BitVec.toNat_inj.symm
  unfold CLink.phaseGood
  rw [Bool.and_eq_true, bne_iff_ne, h7, List.contains_iff_mem, time64_eq]
  rfl

theorem fld_high (w : Word) : fld w 16 16 = w.toNat / 65536 := by
  have := w.isLt
  unfold fld
  rw [Nat.shiftRight_eq_div_pow]
  omega

/-- The measurement a PHASE message with VALID gives. -/
def phaseMeas (m : Msg) : Int := (((msgWord m 0).toNat * 65536 + fld (msgWord m 1) 16 16 : Nat) : Int) * 65536

section
variable {l : Fin 32} {s : State} {m : Msg} {rx : Nat} {fs : List RxFrame} {freed : Word}

/-- The state after a PHASE message. -/
def Machine.State.phaseTaken (s : State) (l : Nat) (m : Msg) (rx : Nat) : State := (s.phaseMsg l m rx).popMsg l 0 none

theorem exec_phaseMessage (h : AtFront s l 0 m rx fs freed) (hpkg : m.dpkg = s.ownPkg) (hiso : (s.clink l).isolated = false) (ht : m.typ = 6) :
    exec (.phaseMessage l) s = .next (s.phaseTaken l m rx) := by
  refine ok_congr ((State.deliverFront_eq h.front ht hpkg hiso).trans ?_)
  unfold State.deliverMsg
  rw [ht]
  rfl

/-- Whatever lines are measured, the link and the registers are those of the message seen. -/
theorem phaseMsg_frame {β : Type} (φ : State → β) (hφ : ∀ s i x, φ (State.setTline s i x) = φ s) (s : State) (l : Nat) (m : Msg) (rx : Nat) :
    φ (s.phaseMsg l m rx) = φ (s.phaseSeen l m rx) := by
  rw [State.phaseMsg_eq]
  split
  · exact State.phaseMeasure_frame φ hφ _ _ _ _ _
  · rfl

theorem phaseTaken_link (h : AtFront s l 0 m rx fs freed) :
    (s.phaseTaken l m rx).clink l = { (s.clink l).phased m rx with rx := fs, freed := freed } ∧ (∀ j, j ≠ l.val → (s.phaseTaken l m rx).clink j = s.clink j) ∧
    (s.phaseTaken l m rx).regs = (s.phaseSeen l m rx).regs := by
  obtain ⟨pre, f, post, ms, hrx, hpre, hcls, hms, hts, hout, hfreed⟩ := h
  obtain ⟨hself, hother, -⟩ := s.phaseSeen_leaves l m rx
  have hv (j : Nat) : (s.phaseMsg l m rx).clink j = (s.phaseSeen l m rx).clink j := phaseMsg_frame (fun u => u.clink j) (fun _ _ _ => rfl) s l m rx
  have hregs : (s.phaseMsg l m rx).regs = (s.phaseSeen l m rx).regs := phaseMsg_frame (fun u => u.regs) (fun _ _ _ => rfl) s l m rx
  unfold State.phaseTaken
  generalize s.phaseMsg l m rx = v at hv hregs ⊢
  have hfront : AtFront v l 0 m rx fs freed := by
    refine ⟨pre, f, post, ms, ?_, hpre, hcls, hms, hts, hout, ?_⟩
    · rw [hv, hself]; exact hrx
    · rw [hv, hself]; exact hfreed
  obtain ⟨hk, hko⟩ := hfront.popMsg (v := v) rfl
  rw [hv, hself] at hk
  exact ⟨hk, fun j hj => (hko j hj).trans ((hv j).trans (hother j hj)), (State.popMsg_frame (fun u => u.regs) (fun _ _ _ => rfl) v l 0 none).trans hregs⟩

theorem tline_phaseTaken (s : State) (l : Nat) (m : Msg) (rx n : Nat) : (s.phaseTaken l m rx).tline n = (s.phaseMsg l m rx).tline n := rfl

/-- No line is measured without VALID, or before 16 round trips stand. -/
theorem phaseTaken_unmeasured (h : bit m.h1 28 = false ∨ s.rb (dlyReg l) 31 = false) (n : Nat) : (s.phaseTaken l m rx).tline n = s.tline n := by
  obtain ⟨-, -, -, htl, -⟩ := s.phaseSeen_leaves l m rx
  have hno : s.phaseMsg l m rx = s.phaseSeen l m rx := by
    rw [State.phaseMsg_eq]
    refine if_neg (fun hc => ?_)
    obtain ⟨h1, h2⟩ := (Bool.and_eq_true _ _).mp hc
    rcases h with h | h
    · rw [h] at h1; cases h1
    · rw [h] at h2; cases h2
  rw [tline_phaseTaken, hno]
  unfold State.tline
  rw [htl]

theorem phaseTaken_measured (h28 : bit m.h1 28 = true) (h31 : s.rb (dlyReg l) 31 = true) {n : Nat} (hn : n < 8) :
    (¬ FollowsLink s l (fld m.h1 29 3) n → (s.phaseTaken l m rx).tline n = s.tline n) ∧
    (FollowsLink s l (fld m.h1 29 3) n → (s.phaseTaken l m rx).tline n =
      (s.tline n).phased (phaseMeas m) ((rx : Int) - s.delayIn l ((s.clink l).phased m rx))) := by
  obtain ⟨-, -, hkeep, htl, -⟩ := s.phaseSeen_leaves l m rx
  have hyes := (s.phaseMsg_eq l m rx).trans (if_pos (by rw [h28, h31]; rfl))
  rw [tline_phaseTaken, hyes, State.delayIn_of hkeep]
  obtain ⟨hm, hnm⟩ := (s.phaseSeen l m rx).tline_phaseMeasure l (fld m.h1 29 3) (phaseMeas m) ((rx : Int) - s.delayIn l ((s.clink l).phased m rx)) hn
  rw [FollowsLink.phaseSeen l.isLt hkeep htl] at hm hnm
  have ht : (s.phaseSeen l m rx).tline n = s.tline n := by unfold State.tline; rw [htl]
  rw [ht] at hm hnm
  exact ⟨hnm, hm⟩

/-- The delay taken off an arrival is within one unit of half the mean round trip, with ASYM. -/
theorem delayIn_bounds (s : State) (l : Nat) (k : CLink) {n : Nat} (hn : k.rtts.foldl (· + ·) 0 = n) :
    s.delayIn l k * 20000 ≤ (n : Int) * 625 + 16 * (BitVec.ofNat 16 (s.rf (chvReg (0x980 + 4 * l)) 0 16)).toInt + 20000 ∧
    (n : Int) * 625 + 16 * (BitVec.ofNat 16 (s.rf (chvReg (0x980 + 4 * l)) 0 16)).toInt ≤ s.delayIn l k * 20000 + 20000 := by
  have hnear := roundOpen_near ((n : Int) * 625 + 16 * (BitVec.ofNat 16 (s.rf (chvReg (0x980 + 4 * l)) 0 16)).toInt) (d := 20000) (by decide)
  unfold State.delayIn
  rw [hn]
  push_cast at hnear ⊢
  omega

end

namespace Machine

/-! PHASE messages made ready (R310). -/

/-- Whether line n jumped since the link last sent it. -/
def State.phaseJumped (s : State) (l n : Nat) : Bool := decide (Store.get 0 (s.clink l).jumps n ≠ (s.tline n).jumps)

/-- The port word of line n's message. -/
def phaseWord (n : Nat) (valid locked jumped : Bool) : Word := BitVec.ofNat 32 (n * 2 ^ 29 + b2n valid * 2 ^ 28 + b2n locked * 2 ^ 27 + b2n jumped * 2 ^ 26)

theorem phaseWord_fields {n : Nat} (hn : n < 8) (valid locked jumped : Bool) : fld (phaseWord n valid locked jumped) 29 3 = n ∧
    bit (phaseWord n valid locked jumped) 28 = valid ∧ bit (phaseWord n valid locked jumped) 27 = locked ∧ bit (phaseWord n valid locked jumped) 26 = jumped := by
  have hfin : ∀ (k : Fin 8) (a b c : Bool), fld (phaseWord k.val a b c) 29 3 = k.val ∧ bit (phaseWord k.val a b c) 28 = a ∧ bit (phaseWord k.val a b c) 27 = b ∧
      bit (phaseWord k.val a b c) 26 = c := by decide
  exact hfin ⟨n, hn⟩ valid locked jumped

/-- The message of line n. -/
def State.phaseHead (s : State) (l n : Nat) (valid : Bool) : Msg :=
  .of 6 (s.rf (chl l 8) 20 12) s.ownPkg (phaseWord n (valid && (s.tline n).valid) (s.tline n).locked (s.phaseJumped l n)) (List.replicate 8 0)

theorem State.phaseOut_eq (s : State) (l n : Nat) (valid : Bool) :
    s.phaseOut l n valid = (s.setClink l { s.clink l with jumps := Store.put 0 (s.clink l).jumps n (s.tline n).jumps }).queueMsg l 0 (s.phaseHead l n valid) := rfl

theorem State.clink_phaseOut (s : State) (l n : Nat) (valid : Bool) :
    (s.phaseOut l n valid).clink l = { s.clink l with jumps := Store.put 0 (s.clink l).jumps n (s.tline n).jumps, txq := (s.clink l).txq ++ [(0, s.phaseHead l n valid)] } ∧
    (∀ j, j ≠ l → (s.phaseOut l n valid).clink j = s.clink j) := by
  let v := s.setClink l { s.clink l with jumps := Store.put 0 (s.clink l).jumps n (s.tline n).jumps }
  have hv : v.clink l = { s.clink l with jumps := Store.put 0 (s.clink l).jumps n (s.tline n).jumps } := s.clink_setClink_same l _
  rw [State.phaseOut_eq]
  refine ⟨(v.clink_setClink_same l _).trans ?_, fun j hj => (v.clink_setClink_ne l j _ hj).trans (s.clink_setClink_ne l j _ hj)⟩
  rw [hv]

/-- The messages of several lines, each with what its own line shows. -/
theorem State.txq_phasesOut {s v : State} {l : Nat} (ns : List Nat) (hnodup : ns.Nodup) (hregs : v.regs = s.regs) (hlines : v.tlines = s.tlines)
    (hjumps : ∀ n ∈ ns, Store.get 0 (v.clink l).jumps n = Store.get 0 (s.clink l).jumps n) :
    ((v.each ns (fun u n => u.phaseOut l n true)).clink l).txq = (v.clink l).txq ++ ns.map (fun n => (0, s.phaseHead l n true)) := by
  induction ns generalizing v with
  | nil => simp [State.each]
  | cons n ns ih =>
    obtain ⟨hn, hnodup⟩ := List.nodup_cons.mp hnodup
    obtain ⟨hself, -⟩ := v.clink_phaseOut l n true
    have hline (k : Nat) : v.tline k = s.tline k := by unfold State.tline; rw [hlines]
    have hhead : v.phaseHead l n true = s.phaseHead l n true := by
      unfold State.phaseHead State.phaseJumped State.ownPkg
      rw [hline, hjumps n List.mem_cons_self, State.rf_of_regs hregs, State.rf_of_regs hregs]
    refine (ih (v := v.phaseOut l n true) hnodup hregs hlines (fun k hk => ?_)).trans ?_
    · have hne : k ≠ n := fun h => hn (h ▸ hk)
      rw [hself, ← hjumps k (List.mem_cons_of_mem _ hk)]
      exact Store.get_put_ne _ _ _ hne
    · rw [hself, hhead]
      simp

end Machine

section
variable {l : Fin 32} {s : State}

/-- The lines a link sends. -/
def Machine.State.phaseLines (s : State) (l : Nat) : List Nat := (List.range 8).filter (fun n => bit (s.rget (chvReg (0x980 + 4 * l))) (24 + n))

theorem phaseLines_nil (s : State) (l : Nat) : s.phaseLines l = [] ↔ fld (s.rget (chvReg (0x980 + 4 * l))) 24 8 = 0 := by
  unfold State.phaseLines
  generalize s.rget (chvReg (0x980 + 4 * l)) = v
  rw [List.filter_eq_nil_iff]
  constructor
  · intro h
    refine Nat.eq_of_testBit_eq (fun j => ?_)
    rw [testBit_fld, Nat.zero_testBit]
    by_cases hj : j < 8
    · simpa [bit, hj] using h j (List.mem_range.mpr hj)
    · simp [hj]
  · intro h n hn
    have ht := testBit_fld v 24 8 n
    rw [h, Nat.zero_testBit] at ht
    have hn : n < 8 := List.mem_range.mp hn
    simp only [hn, decide_true, Bool.true_and] at ht
    exact fun hb => absurd (ht.trans hb) (by decide)

/-- What PHASE_SEND leaves: messages added to the link, and nothing elsewhere. -/
theorem phasesOut_leaves (s : State) (l : Nat) (ns : List Nat) : (∀ j, j ≠ l → (s.each ns (fun u n => u.phaseOut l n true)).clink j = s.clink j) ∧
    KeepRegs [] s (s.each ns (fun u n => u.phaseOut l n true)) :=
  ⟨fun j hj => State.each_inv (fun u => u.clink j) (fun u n => (u.clink_phaseOut l n true).2 j hj) s ns,
    .of_regs (State.each_inv (fun u => u.regs) (f := fun u n => u.phaseOut l n true) (fun _ _ => rfl) s ns)⟩

theorem phaseHead_tells (s : State) (l : Nat) {n : Nat} (hn : n < 8) (valid : Bool) : (s.phaseHead l n valid).typ = 6 ∧
    (s.phaseHead l n valid).dpkg = s.rf (chl l 8) 20 12 ∧ (s.phaseHead l n valid).spkg = s.ownPkg ∧ fld (s.phaseHead l n valid).h1 29 3 = n ∧
    bit (s.phaseHead l n valid).h1 28 = (valid && (s.tline n).valid) ∧ bit (s.phaseHead l n valid).h1 27 = (s.tline n).locked ∧
    bit (s.phaseHead l n valid).h1 26 = s.phaseJumped l n :=
  ⟨rfl, rfl, rfl, phaseWord_fields hn _ _ _⟩

theorem phaseSend_idle (h : s.lstate l ≠ 5 ∨ (s.clink l).isolated = true ∨ (s.phaseLines l = [] ∧ bit (s.rget (chvReg (0x980 + 4 * l.val))) 23 = false)) :
    exec (.phaseSend l) s = .next s := by
  by_cases hgo : s.lstate l ≠ 5 ∨ (s.clink l).isolated = true
  · exact if_pos hgo
  · obtain ⟨h5, hiso⟩ := not_or.mp hgo
    rcases h with h | h | ⟨hnil, h23⟩
    · exact absurd h h5
    · exact absurd h hiso
    · exact (if_neg hgo).trans ((if_pos ((phaseLines_nil s l).mp hnil)).trans (if_neg (by simp [h23])))

theorem exec_phaseSend_lines (h5 : s.lstate l = 5) (hiso : (s.clink l).isolated = false) (hne : s.phaseLines l ≠ []) :
    exec (.phaseSend l) s = .next (s.each (s.phaseLines l) (fun u n => u.phaseOut l n true)) :=
  (if_neg (by simp [h5, hiso])).trans (if_neg (fun h => hne ((phaseLines_nil s l).mpr h)))

theorem exec_phaseSend_echo (h5 : s.lstate l = 5) (hiso : (s.clink l).isolated = false) (hnil : s.phaseLines l = [])
    (h23 : bit (s.rget (chvReg (0x980 + 4 * l.val))) 23 = true) : exec (.phaseSend l) s = .next (s.phaseOut l 0 false) :=
  (if_neg (by simp [h5, hiso])).trans ((if_pos ((phaseLines_nil s l).mp hnil)).trans (if_pos h23))

/-! Coast and holdover (R312). -/

theorem systemLine_iff (s : State) (n : Nat) : s.systemLine n = true ↔
    s.tallyRuns = true ∧ (s.tline n).run = true ∧ s.piType (fld (s.tline n).ctl 24 4) = 8 := by
  simp [State.systemLine, and_assoc]

theorem phaseCoast_spec {n : Fin 8} (h : s.systemLine n = true) : Does (.phaseCoast n) s (fun u => u.tline n = { s.tline n with coast := true } ∧
    (∀ m, m ≠ n.val → u.tline m = s.tline m) ∧ KeepRegs [] s u ∧ Only [.tlines] s u) := by
  have hexec : exec (.phaseCoast n) s = .next (s.setTline n { s.tline n with coast := true }) := if_pos h
  exact .of_eq hexec ⟨s.tline_setTline_same n _, fun m hm => s.tline_setTline_ne n m _ hm, .of_regs rfl,
    (execPhaseCoast_ev n (Ev.refl (fieldMask [.tlines]) s) (by rfl)).only hexec⟩

theorem holdoverExpiry_spec {n : Fin 8} (h : s.systemLine n = true) (hc : (s.tline n).coast = true) :
    Does (.holdoverExpiry n) s (fun u => (u.tline n).locked = false ∧ (u.tline n).valid = (s.tline n).valid ∧ (u.tline n).coast = true ∧
      (∀ m, m ≠ n.val → u.tline m = s.tline m) ∧ u.rb (plReg n 0x2C) 15 = (s.rb (plReg n 0x2C) 15 || (s.tline n).locked) ∧
      KeepRegs [plReg n 0x2C] s u ∧ Only [.regs, .tlines] s u) := by
  have hexec : exec (.holdoverExpiry n) s = .next (s.unlock n) := if_pos (by rw [h, hc]; rfl)
  have hself : (s.unlock n).tline n = (s.tline n).unlocked := by rw [State.tline_unlock, if_pos rfl]
  refine .of_eq hexec ⟨by rw [hself]; rfl, by rw [hself]; rfl, by rw [hself]; exact hc, fun m hm => by rw [State.tline_unlock, if_neg hm], ?_, s.keepRegs_unlock n,
    (execHoldoverExpiry_ev n (Ev.refl (fieldMask [.regs, .tlines]) s) (by rfl)).only hexec⟩
  rw [State.rb_of_rget (s.rget_unlock n (plReg n 0x2C))]
  cases hl : (s.tline n).locked with
  | true => simpa using s.rb_sticky_self (plReg n 0x2C) 15 (by decide)
  | false => simp

end

section
variable {l : Fin 32} {s : State}

/-- R285, R311: a PHASE message at the front of its class. -/
theorem phaseMessage_spec {m : Msg} {rx : Nat} {fs : List RxFrame} {freed : Word} (h : AtFront s l 0 m rx fs freed) :
    let u := s.phaseTaken l m rx
    let sum := (u.clink l).rtts.foldl (· + ·) 0
    ((s.clink l).phaseGood m = true → (u.clink l).rtts = (s.clink l).trips m rx ∧ u.rb (dlyReg l) 31 = decide ((u.clink l).rtts.length = 16) ∧
      ((sum * 625) / 16 + 1 < 2 ^ 24 → (sum * 625) / 16 ≤ u.rf (dlyReg l) 0 24 ∧ u.rf (dlyReg l) 0 24 ≤ (sum * 625 + 15) / 16)) ∧
    ((s.clink l).phaseGood m = false → (u.clink l).rtts = (s.clink l).rtts ∧ KeepRegs [] s u) := by
  obtain ⟨hself, -, hregs⟩ := phaseTaken_link h
  obtain ⟨-, -, -, -, hdly, hnone⟩ := s.phaseSeen_leaves l m rx
  have hrtts : ((s.phaseTaken l m rx).clink l).rtts = ((s.clink l).phased m rx).rtts := by rw [hself]
  refine ⟨fun hg => ?_, fun hg => ?_⟩
  · have hreg := (State.rget_of_regs hregs (dlyReg l)).trans (hdly hg)
    refine ⟨hrtts, ?_, fun hlt => ?_⟩
    · rw [hrtts, State.rb, hreg]
      exact bit_delayReg _
    · rw [State.rf, hreg, fld_delayReg]
      exact delayPs_bounds _ (by rw [hrtts]) hlt
  · refine ⟨hrtts.trans ?_, (hnone hg).then_regs hregs⟩
    show (s.clink l).trips m rx = _
    unfold CLink.trips
    rw [hg]
    rfl

/-- The trips of a message with a valid echo. -/
theorem trips_good {k : CLink} {m : Msg} (rx : Nat) (hg : k.phaseGood m = true) : k.trips m rx =
    (k.rtts ++ [((rx : Int) - (((nth 0 m.words 5).toNat + 2 ^ 32 * (nth 0 m.words 6).toNat : Nat) : Int) - (((nth 0 m.words 7).toNat : Nat) : Int)).toNat]).drop
      (k.rtts.length + 1 - 16) := by
  unfold CLink.trips
  rw [if_pos hg, time64_eq]
  rfl

end

/-- Settles O40: a PHASE message as seen by its link and by the lines that follow it; the messages made ready; coast and holdover. -/
theorem systemPhase : Obligations.SystemPhase := by
  unfold Obligations.SystemPhase
  refine ⟨fun l s m rx fs freed h hpkg hiso ht => ?_, fun l s h => ok_congr (State.deliverFront_idle (fun m ts hm => h m ts hm)), fun l s => ?_, fun n s => ?_⟩
  · obtain ⟨hself, hother, hregs⟩ := phaseTaken_link h
    obtain ⟨-, -, hkeep, -⟩ := s.phaseSeen_leaves l m rx
    obtain ⟨hgood, hbad⟩ := phaseMessage_spec h
    refine .of_eq (exec_phaseMessage h hpkg hiso ht) ⟨by rw [hself], by rw [hself], ?_, hother, hkeep.then_regs hregs, fun hg => ?_, fun hg => ?_,
      fun hno n => phaseTaken_unmeasured hno n, fun h28 h31 n hn => ?_⟩
    · rw [hself, ← time64_eq]
      rfl
    · have hg := (phaseGood_iff (s.clink l) m).mpr hg
      obtain ⟨htrips, hbit, hsum⟩ := hgood hg
      exact ⟨htrips.trans (trips_good rx hg), hbit, hsum⟩
    · exact hbad (by rw [← Bool.not_eq_true, phaseGood_iff]; exact hg)
    · obtain ⟨hnot, hmine⟩ := phaseTaken_measured (rx := rx) h28 h31 hn
      refine ⟨hnot, fun hm => ?_⟩
      rw [hmine hm]
      have hsum : ((s.clink l).phased m rx).rtts.foldl (· + ·) 0 = ((s.phaseTaken l m rx).clink l).rtts.foldl (· + ·) 0 := by rw [hself]
      obtain ⟨h1, h2⟩ := delayIn_bounds s l ((s.clink l).phased m rx) hsum
      refine ⟨rfl, rfl, _, rfl, ?_, ?_, ?_⟩
      · show phaseMeas m = _
        rw [phaseMeas, fld_high]
        rfl
      · simp only [sub_sub_cancel]
        exact h1
      · simp only [sub_sub_cancel]
        exact h2
  · refine ⟨phaseSend_idle, fun h5 hiso hne => ?_, fun h5 hiso hnil h23 => ?_⟩
    · have hexec := exec_phaseSend_lines h5 hiso hne
      obtain ⟨hother, hkeep⟩ := phasesOut_leaves s l (s.phaseLines l)
      refine .of_eq hexec ⟨⟨hother, hkeep, (execPhaseSend_ev l (Ev.refl (fieldMask [.links]) s) (by rfl)).only hexec⟩,
        (s.phaseLines l).map (fun n => (0, s.phaseHead l n true)), State.txq_phasesOut _ (List.nodup_range.filter _) rfl rfl (fun _ _ => rfl), by rw [List.length_map]; rfl,
        fun j n hj => ⟨_, by rw [List.getElem?_map]; exact congrArg (Option.map _) hj, rfl, ?_⟩⟩
      have hn : n < 8 := List.mem_range.mp (List.mem_filter.mp (List.mem_of_getElem? hj)).1
      exact phaseHead_tells s l hn true
    · have hexec := exec_phaseSend_echo h5 hiso hnil h23
      obtain ⟨hself, hother⟩ := s.clink_phaseOut l 0 false
      exact .of_eq hexec ⟨⟨hother, .of_regs rfl, (execPhaseSend_ev l (Ev.refl (fieldMask [.links]) s) (by rfl)).only hexec⟩, _, by rw [hself], rfl,
        phaseHead_tells s l (show 0 < 8 by decide) false⟩
  · have hiff := systemLine_iff s n
    refine ⟨fun h => phaseCoast_spec (hiff.mpr h), fun h => if_neg (fun hn => h (hiff.mp hn)), fun h hc => holdoverExpiry_spec (hiff.mpr h) hc, fun h => if_neg (fun hn => ?_)⟩
    obtain ⟨h1, h2⟩ := (Bool.and_eq_true _ _).mp hn
    rcases h with h | h
    · exact h (hiff.mp h1)
    · rw [h] at h2; cases h2

end Sys2Proof
end

section
/-! The frame scrub (R334): a frame held in the latches of another region's cluster. -/

namespace Sys2Proof

open Machine

/-- Region 0 is loaded and scrubbed; its logical cluster 0 is mapped to number 20, a cluster of region 1, which is Lit and under load; the CRC kept of
that cluster's first frame is `c`. -/
def strayMapped : State :=
  { regs := [(0x20011050, 0), (0x100800008, 0x40000000), (0x100800018, 0x03020114)], regions := [(0, { loaded := true })],
    load := some { part := some 1 } }

def strayScrub (c : Word) : State := { strayMapped with crcs := [(cfgKey 0 0 0 0, some c)] }

/-- The frame of the cluster outside the region. -/
def strayFrame : Nat × Nat × Nat × Nat := (0, 0, 0, 20)

/-- The other frames of the pass, of which no CRC is kept. -/
def strayRest : List (Nat × Nat × Nat × Nat) :=
  (List.range 17).map (fun i => (0, 0, i + 1, 20)) ++ (List.range 8).map (fun i => (2, 0, i, 0)) ++ [(3, 0, 0, 0), (4, 0, 0, 0)]

/-- The frames of a logical cluster that are scrubbed. -/
def strayFramesOf (lc : Nat) : List (Nat × Nat × Nat × Nat) :=
  if strayMapped.cluLit (strayMapped.gOf 0 lc) && !strayMapped.retired (strayMapped.gOf 0 lc) && !(strayMapped.clu (strayMapped.gOf 0 lc)).hold then
    (List.range 18).map (fun i => (0, strayMapped.goldElem 0 lc, i, strayMapped.gOf 0 lc))
  else []

theorem scrubFrames_stray (c : Word) : (strayScrub c).scrubFrames 0 = strayFrame :: strayRest := by
  have hcold : ∀ lc ∈ (List.range 15).map (· + 1), strayFramesOf lc = [] := by
    intro lc hlc
    have hoff : ∀ lc ∈ (List.range 15).map (· + 1), strayMapped.cluLit (strayMapped.gOf 0 lc) = false := by decide
    unfold strayFramesOf
    rw [hoff lc hlc]
    rfl
  have hclusters : (List.range 16).flatMap strayFramesOf = strayFramesOf 0 := by
    rw [show List.range 16 = 0 :: (List.range 15).map (· + 1) from rfl, List.flatMap_cons, List.flatMap_eq_nil_iff.mpr hcold, List.append_nil]
  have hframes : strayFramesOf 0 = strayFrame :: (List.range 17).map (fun i => (0, 0, i + 1, 20)) := by decide
  show (List.range 16).flatMap strayFramesOf ++ _ ++ _ = _
  rw [hclusters, hframes]
  rfl

theorem scrubOne_unkept {s : State} {r : Nat} {f : Nat × Nat × Nat × Nat} (h : s.crcOf (cfgKey f.1 f.2.1 f.2.2.1 0) = none) : s.scrubOne r f = s := by
  obtain ⟨kind, e, i, x⟩ := f
  unfold State.scrubOne
  dsimp only at h ⊢
  rw [h]

/-- Frames of which no CRC is kept are passed over. -/
theorem scrub_unkept {s : State} {r : Nat} {fs : List (Nat × Nat × Nat × Nat)} (h : ∀ f ∈ fs, s.crcOf (cfgKey f.1 f.2.1 f.2.2.1 0) = none) :
    s.each fs (fun s f => s.scrubOne r f) = s := by
  induction fs with
  | nil => rfl
  | cons f fs ih =>
    have hstep : s.scrubOne r f = s := scrubOne_unkept (h f List.mem_cons_self)
    show (s.scrubOne r f).each fs _ = s
    rw [hstep]
    exact ih (fun g hg => h g (List.mem_cons_of_mem _ hg))

theorem scrub_first {s v : State} {r : Nat} {f : Nat × Nat × Nat × Nat} {fs : List (Nat × Nat × Nat × Nat)} (hf : s.scrubOne r f = v)
    (h : ∀ g ∈ fs, v.crcOf (cfgKey g.1 g.2.1 g.2.2.1 0) = none) : s.each (f :: fs) (fun s f => s.scrubOne r f) = v := by
  subst hf
  exact scrub_unkept h

/-- The state after the frame's cluster is reported, in its own region. -/
def strayFound (c : Word) : State := (strayScrub c).clusterFault 20 5 0

theorem cfgBytes_stray (c : Word) : (strayScrub c).cfgBytes 0 20 0 0 512 = State.cfgBytes {} 0 20 0 0 512 := rfl

/-- Some kept CRC is not the frame's. -/
theorem exists_wrongCrc : ∃ c, crc32 ((strayScrub c).cfgBytes 0 20 0 0 512) ≠ c := by
  simp only [cfgBytes_stray]
  generalize crc32 _ = x
  exact ⟨x + 1, by simp⟩

theorem scrubOne_stray {c : Word} (h : crc32 ((strayScrub c).cfgBytes 0 20 0 0 512) ≠ c) : (strayScrub c).scrubOne 0 strayFrame = strayFound c :=
  (if_neg h).trans (if_pos rfl)

/-- One pass over a region that is loaded and not under load. -/
theorem exec_frameScrub {r : Fin 32} {s v : State} (hon : s.rb ⟨.tnk, r, 8⟩ 30 = true) (hload : (s.region r).loaded = true) (hunder : s.underLoad r = false)
    (hpass : s.each (s.scrubFrames r) (fun s f => s.scrubOne r f) = v) :
    exec (.frameScrub r false) s = .next (v.rsetf ⟨.tnk, r, 0x14⟩ 0 16 (v.rf ⟨.tnk, r, 0x14⟩ 0 16 + 1)) := by
  subst hpass
  show execFrameScrub r false s = ok _
  unfold execFrameScrub
  dsimp only
  rw [if_neg (by simp [hon]), if_neg Bool.false_ne_true, if_pos (by simp [hload, hunder])]

theorem strayScrub_runs (c : Word) : (strayScrub c).rb ⟨.tnk, (0 : Fin 32), 8⟩ 30 = true ∧ ((strayScrub c).region (0 : Fin 32)).loaded = true ∧
    (strayScrub c).underLoad (0 : Fin 32) = false := by
  have h : strayMapped.rb ⟨.tnk, (0 : Fin 32), 8⟩ 30 = true := by decide
  exact ⟨h, rfl, rfl⟩

theorem scrubbed_stray {c : Word} (h : crc32 ((strayScrub c).cfgBytes 0 20 0 0 512) ≠ c) :
    (strayScrub c).each ((strayScrub c).scrubFrames 0) (fun s f => s.scrubOne 0 f) = strayFound c := by
  have hrest : ∀ f ∈ strayRest, (strayFound c).crcOf (cfgKey f.1 f.2.1 f.2.2.1 0) = none := by
    intro f hf
    have hkey : ∀ f ∈ strayRest, cfgKey 0 0 0 0 ≠ cfgKey f.1 f.2.1 f.2.2.1 0 := by decide
    exact if_neg (hkey f hf).symm
  rw [scrubFrames_stray]
  exact scrub_first (scrubOne_stray h) hrest

/-- The faults to act on after the load. -/
def told (s : State) (es : List (Nat × Nat × Nat)) : State := { s with toldFaults := es }

theorem told_regs (s : State) (es : List (Nat × Nat × Nat)) : (told s es).regs = s.regs := rfl

/-- A fault recorded under load raises its own region's alarm bit alone. -/
theorem rb_clusterFault_underLoad {s : State} {g r : Nat} (hunder : s.underLoad (g / 17) = true) (hne : r ≠ g / 17)
    (herr : tnkAlarm.addr ≠ (tnkErr (g / 17)).addr) (hevent : tnkAlarm.addr ≠ (tnkEvent (g / 17)).addr) (src cell : Nat) :
    (s.clusterFault g src cell).rb tnkAlarm r = s.rb tnkAlarm r := by
  have hstep : s.clusterFault g src cell =
      told (s.lasting (g / 17) src (g % 17) cell 3) (s.toldFaults ++ [(g, src, cell)]) := if_pos hunder
  rw [hstep, State.rb_of_regs (told_regs _ _)]
  unfold State.lasting
  rw [State.rb_sticky_bit _ _ _ _ hne, State.rb_count_ne _ _ _ _ _ herr, State.rb_rput_ne _ _ _ _ _ hevent]

/-- The alarm of the region scrubbed stays clear. -/
theorem quiet_stray (c : Word) :
    ((strayFound c).rsetf ⟨.tnk, 0, 0x14⟩ 0 16 ((strayFound c).rf ⟨.tnk, 0, 0x14⟩ 0 16 + 1)).rb tnkAlarm 0 = false := by
  have hunder : (strayScrub c).underLoad (20 / 17) = true := rfl
  have hclear : strayMapped.rb tnkAlarm 0 = false := by decide
  refine (State.rb_rput_ne _ _ _ _ _ (by decide)).trans ?_
  exact (rb_clusterFault_underLoad hunder (by decide) (by decide) (by decide) 5 0).trans hclear

/-- The pass meets a bad frame. -/
theorem bad_stray {c : Word} (h : crc32 ((strayScrub c).cfgBytes 0 20 0 0 512) ≠ c) : ∃ f ∈ (strayScrub c).scrubFrames 0,
    ∃ c', (strayScrub c).crcOf (cfgKey f.1 f.2.1 f.2.2.1 0) = some c' ∧ crc32 ((strayScrub c).cfgBytes f.1 f.2.2.2 f.2.2.1 0 512) ≠ c' := by
  have hkept : (strayScrub c).crcOf (cfgKey 0 0 0 0) = some c :=
    (if_pos rfl : (if cfgKey 0 0 0 0 = cfgKey 0 0 0 0 then some c else none) = some c)
  rw [scrubFrames_stray]
  exact ⟨strayFrame, List.mem_cons_self, c, hkept, h⟩

/-- Refutes O41: a logical cluster of region 0 whose PHYS field holds 20 lies in region 1, so the fault of its frame is recorded, and its alarm raised,
for region 1: the scrub of region 0 meets a bad frame and leaves bit 0 of TNK_ALARM clear. -/
theorem not_faultsFound : ¬ Obligations.FaultsFound := by
  unfold Obligations.FaultsFound
  rintro ⟨-, -, -, -, -, -, -, hscrub⟩
  obtain ⟨c, hbad⟩ := exists_wrongCrc
  obtain ⟨hon, hload, hunder⟩ := strayScrub_runs c
  have hpass := scrubbed_stray hbad
  have hquiet := quiet_stray c
  have hmet := bad_stray hbad
  generalize strayFound c = v at hpass hquiet
  generalize strayScrub c = s at hon hload hunder hpass hmet
  obtain ⟨-, hdo⟩ := hscrub 0 false s
  obtain ⟨t, ht, -, -, -, -, halarm⟩ := hdo hon
  rw [exec_frameScrub hon hload hunder hpass] at ht
  injection ht with ht
  have hraised := halarm ⟨hload, hunder⟩ hmet
  rw [← ht] at hraised
  exact absurd (hquiet.symm.trans hraised) (by decide)

end Sys2Proof
end

section
/-! The end of a load of a region that is none of the 32 (R361, R374), and commands of which Ixzento, not running, takes no note. -/

namespace Sys2Proof

open Machine

namespace Machine

/-- What Ixzento does never starts it: the thermal hold is none of its own. -/
theorem State.ixSettle_keeps_off {u : State} (h : u.ixSettle.hot = true) : u.ixSettle = u := by
  have hframe := (State.ixSettle_ev (Ev.refl 21637316120525031379493184874 u) (by rfl)).frame .hot rfl
  have hhot : u.hot = true := hframe.symm.trans h
  have hruns : u.ixRuns = false := by
    unfold State.ixRuns
    rw [hhot, Bool.not_true, Bool.and_false, Bool.false_and, Bool.false_and]
  unfold State.ixSettle
  rw [hruns]
  rfl

end Machine

open Machine

/-- In a thermal hold, what Ixzento takes note of is the command's own effect. -/
theorem DoesThen.own_effect {c : Instr} {s t : State} {P : State → Prop} (h : DoesThen c s P) (hexec : exec c s = .next t) (hhot : t.hot = true) : P t := by
  obtain ⟨u, hu, ht⟩ := h
  rw [hexec] at ht
  injection ht with ht
  subst ht
  rwa [State.ixSettle_keeps_off hhot]

/-- A load of region number 1867, which is none, in its last phase, with a request waiting for domain 31744; the address of that domain's register is
CMP_STAT's. -/
def strayLoad : State := { load := some { part := some 1867, phase := 5 }, doms := [(31744, { wait := some 1 })], hot := true }

/-- The state its abort leaves. -/
def strayAborted : State :=
  { regs := [(0x20030000, 0x4000002)], doms := [(31744, { target := some 1 })], hot := true, loadEnded := some 2, cmpNews := true }

theorem exec_strayAbort : exec (.cmpAbort .debug) strayLoad = .next strayAborted := by
  have habort : strayLoad.guarded .debug .cmp 0 State.loadAbort = strayAborted := rfl
  show ok (strayLoad.guarded .debug .cmp 0 State.loadAbort).ixSettle = _
  rw [habort]
  rfl

/-- Refutes O44: a load whose PART is 1867 applies, when it is aborted, a request that waits for a domain whose register has CMP_STAT's address; the
change sets bit 26 there, so CMP_STAT.PHASE is 4 and not 0. -/
theorem not_loadRequests : ¬ Obligations.LoadRequests := by
  unfold Obligations.LoadRequests
  rintro ⟨-, -, habort, -⟩
  obtain ⟨-, -, hends⟩ := habort .debug strayLoad
  obtain ⟨⟨-, -, -, -, hphase, -⟩, -, -⟩ := (hends rfl _ rfl).own_effect exec_strayAbort rfl
  exact absurd hphase (by decide)

end Sys2Proof
end

section
/-! The tamper erase (R380) of a load of a region that is none of the 32. -/

namespace Sys2Proof

open Machine

/-- A load of an encrypted image for region number 1867, which is none, in its last phase, with a request waiting for domain 31744; the address of that
domain's register is CMP_STAT's. -/
def strayEncrypted : State :=
  { load := some { part := some 1867, phase := 5, image := List.replicate 11 0 ++ [1] }, doms := [(31744, { wait := some 1 })], hot := true, vin := true }

/-- The state the tamper erase leaves. -/
def strayTampered : State :=
  { regs := [(0x20030000, 0x4000014), (0x20040000, 0x80000000)], doms := [(31744, { target := some 1 })], hot := true, vin := true, loadEnded := some 0x14, cmpNews := true }

theorem exec_strayTamper : exec .tamper strayEncrypted = .next strayTampered := by
  have herase : strayEncrypted.tamperErase = strayTampered := rfl
  have hon : (strayEncrypted.rb (lsmReg 4) 31 && (strayEncrypted.vin || strayEncrypted.vbat)) = true := by decide
  show ok (if _ then strayEncrypted.tamperErase.ixSettle else strayEncrypted) = _
  rw [if_pos hon, herase]
  rfl

/-- Refutes O46: the tamper erase ends a load whose PART is 1867, and the request it then applies is for a domain whose register has CMP_STAT's address;
the change sets bit 26 there, so CMP_STAT.PHASE is 4 and not 0. -/
theorem not_keysAndReports : ¬ Obligations.KeysAndReports := by
  unfold Obligations.KeysAndReports
  rintro ⟨-, -, htamper, -⟩
  obtain ⟨-, -, -, hends, -⟩ := htamper strayEncrypted
  have hon : strayEncrypted.rb (lsmReg 4) 31 = true := by decide
  obtain ⟨-, -, -, -, -, hphase, -⟩ := (hends ⟨hon, .inl rfl⟩ rfl _ rfl rfl (.inl rfl)).own_effect exec_strayTamper rfl
  exact absurd hphase (by decide)

end Sys2Proof
end

section
/-! A power domain that goes Cold, and a number beyond the domains whose register has a cell's address (R93, R442). -/

namespace Sys2Proof

open Machine

/-- No domain's number; the address of the register it would have is CELL_STAT's of cell 0. -/
def cellDom : Nat := 942128128

theorem rget_cellDom (u : State) : u.rget (lmpDom cellDom) = u.rget (cellStat 0) := rfl

theorem dom_cellDom {u : State} (h : u.rf (cellStat 0) 28 4 = 0) : u.dom cellDom = 0 := by
  show fld (u.rget (lmpDom cellDom)) 30 2 = 0
  unfold State.rf at h
  rw [rget_cellDom]
  generalize u.rget (cellStat 0) = v at h ⊢
  unfold fld at h ⊢
  omega

/-- Cluster 0, Lit, is to go Cold; bit 30 of cell 0's CELL_STAT is set. -/
def coolingCluster : State := { regs := [(0x20011000, 0), (4305453056, 0x40000000)], doms := [(0, { target := some 2 })] }

/-- Refutes O51: when cluster 0 goes Cold its cells' sticky bits are cleared, and so is field [31:30] of the register that number 942128128, which is no
domain, would have. -/
theorem not_powerDomainsAndRails : ¬ Obligations.PowerDomainsAndRails := by
  unfold Obligations.PowerDomainsAndRails
  rintro ⟨-, hchange, -⟩
  obtain ⟨-, -, -, hdone⟩ := hchange 0 coolingCluster
  have hlit : coolingCluster.dom 0 = 0 := by decide
  obtain ⟨u, ⟨-, -, hothers, hcold, -⟩, -⟩ := hdone 2 rfl (by decide) (fun ⟨hbank, _⟩ => absurd hbank (by decide))
    (fun ⟨_, hdark, _⟩ => absurd (hlit.symm.trans hdark) (by decide)) (fun ⟨hio, _⟩ => absurd hio (by decide))
  obtain ⟨hcells, -⟩ := hcold (by decide) rfl (by rw [show coolingCluster.dom (0 : Fin 748).val = 0 from hlit]; decide)
  have hclear : u.dom cellDom = 0 := dom_cellDom (hcells 0 rfl).2
  have hkept := (hothers cellDom (by decide) (by decide)).2
  have hset : coolingCluster.dom cellDom = 1 := by decide
  omega

end Sys2Proof
end

section
/-! A delayed reset of the package (R436), from a state whose pin store is not in its canonical form. -/

namespace Sys2Proof

open Machine

/-- The firmware runs, with a package reset due, and pin 0 is listed twice, as in `pinTwice`. -/
def pinTwiceDue : State :=
  { pins := [(0, { mt := some {} }), (0, { pad := true })], fw := some {}, vin := true, bootDue := false, ix := { resetDue := some 1 } }

/-- The state without the reset's delay. -/
def pinTwiceNow : State := { pinTwiceDue with ix := {} }

theorem pinTwiceDue_runs : pinTwiceDue.ixRuns = true := by decide

theorem pinTwiceDue_pin : pinTwiceDue.pin 0 = { mt := some {} } := rfl

theorem pinTwiceNow_reset : pinTwiceNow.packageReset.pin 0 = { pad := true } := by decide

theorem exec_delayedReset : exec .resetDelayExpiry pinTwiceDue = .next pinTwiceNow.packageReset := by
  show ok (if !pinTwiceDue.ixRuns then pinTwiceDue else if 1 = 0 then pinTwiceNow.complexReset else pinTwiceNow.packageReset) = _
  rw [pinTwiceDue_runs, if_neg (by decide), if_neg (by decide)]

/-- Refutes O54: the package reset of RESET fails what is said of the pads as in O47, on the state `pinTwiceDue`. -/
theorem not_packetsAndTimeouts : ¬ Obligations.PacketsAndTimeouts := by
  unfold Obligations.PacketsAndTimeouts
  rintro ⟨-, -, -, -, -, hexpiry, -⟩
  obtain ⟨-, -, hpackage⟩ := hexpiry pinTwiceDue
  obtain ⟨t, ht, hreset⟩ := hpackage 1 pinTwiceDue_runs rfl (by decide)
  obtain rfl : pinTwiceNow.packageReset = t := by
    rw [exec_delayedReset] at ht
    injection ht
  have hpin := pinTwiceNow_reset.symm.trans (hreset.pins 0)
  rw [pinTwiceDue_pin] at hpin
  exact absurd hpin (by decide)

end Sys2Proof
end

section
/-! Ixzento's requests: a request taken in turn is performed and answered, and nothing else of its session's queue runs (R423, R428 to R435). -/

namespace Sys2Proof

open Machine

namespace Machine

/-- No open session of this value holds a request. -/
def NoHeld (sid : Nat) (s : State) : Prop := ∀ x ∈ s.ix.sessions, x.id = sid → x.held = []

/-- The request's session is open, and it is the one that the request says; none of its requests runs or is held. -/
def Serves (s : State) (q : Req) : Prop :=
  q.sid ≠ 0 ∧ NoHeld q.sid s ∧ ∃ x, s.session q.sid = some x ∧ x.id = q.sid ∧ x.run = none ∧ x.ep = q.ep ∧ x.minor = q.minor

variable {s t : State} {q : Req} {sid : Nat}

theorem State.session_of_sessions (h : t.ix.sessions = s.ix.sessions) (j : Nat) : t.session j = s.session j := by
  unfold State.session
  rw [h]

theorem State.session_of_ix (h : t.ix = s.ix) (j : Nat) : t.session j = s.session j := State.session_of_sessions (congrArg Ix.sessions h) j

theorem Serves.of_sessions (h : t.ix.sessions = s.ix.sessions) (hs : Serves s q) : Serves t q := by
  unfold Serves NoHeld at *
  rw [State.session_of_sessions h, h]
  exact hs

theorem Serves.of_ix (h : t.ix = s.ix) (hs : Serves s q) : Serves t q := hs.of_sessions (congrArg Ix.sessions h)

theorem session_id {x : Session} (h : s.session sid = some x) : x.id = sid := by
  have hx := List.find?_some h
  exact beq_iff_eq.mp hx

theorem session_mem {x : Session} (h : s.session sid = some x) : x ∈ s.ix.sessions := List.mem_of_find?_eq_some h

/-! A session replaced. -/

theorem find?_map_replace (l : List Session) (y : Session) (j : Nat) :
    (l.map (fun z => if z.id = y.id then y else z)).find? (fun x => x.id == j) =
      if j = y.id then (l.find? (fun x => x.id == j)).map (fun _ => y) else l.find? (fun x => x.id == j) := by
  induction l with
  | nil => simp
  | cons z l ih =>
    by_cases hz : z.id = y.id <;> by_cases hj : j = y.id
    · simp [hz, hj]
    · have hne : y.id ≠ j := fun h => hj h.symm
      simp only [List.map_cons, if_pos hz, List.find?_cons]
      rw [beq_false_of_ne hne, beq_false_of_ne (by rw [hz]; exact hne), ih]
    · have hne : z.id ≠ j := fun h => hz (h.trans hj)
      simp only [List.map_cons, if_neg hz, List.find?_cons]
      rw [beq_false_of_ne hne, ih]
    · simp only [List.map_cons, if_neg hz, List.find?_cons]
      rw [ih, if_neg hj, if_neg hj]

theorem State.session_setSession (s : State) (y : Session) (j : Nat) :
    (s.setSession y).session j = if j = y.id then (s.session j).map (fun _ => y) else s.session j :=
  find?_map_replace s.ix.sessions y j

theorem State.setSession_setSession (s : State) {x y : Session} (h : x.id = y.id) : (s.setSession x).setSession y = s.setSession y := by
  have hlist : (s.ix.sessions.map (fun z => if z.id = x.id then x else z)).map (fun z => if z.id = y.id then y else z) =
      s.ix.sessions.map (fun z => if z.id = y.id then y else z) := by
    rw [List.map_map]
    refine List.map_congr_left fun z _ => ?_
    by_cases hz : z.id = x.id
    · simp [hz, h]
    · simp [← h, hz]
  unfold State.setSession
  dsimp only
  rw [hlist]

theorem noHeld_setSession {y : Session} (h : NoHeld sid s) (hy : y.id = sid → y.held = []) : NoHeld sid (s.setSession y) := by
  intro z hz hid
  obtain ⟨x, hx, hxz⟩ := List.mem_map.mp hz
  by_cases heq : x.id = y.id
  · rw [if_pos heq] at hxz
    subst hxz
    exact hy hid
  · rw [if_neg heq] at hxz
    subst hxz
    exact h x hx hid

/-! Replies and waits. -/

theorem State.ixSend_ix (s : State) (ep : Endpoint) (b : List Byte) : (s.ixSend ep b).ix = s.ix :=
  (State.ixSend_ev ep b (Ev.refl 77371252455350560865910792 s) (by rfl)).frame .ix rfl

theorem State.session_ixSend (s : State) (ep : Endpoint) (b : List Byte) (j : Nat) : (s.ixSend ep b).session j = s.session j :=
  State.session_of_ix (s.ixSend_ix ep b) j

theorem NoHeld.of_sessions (h : t.ix.sessions = s.ix.sessions) (hs : NoHeld sid s) : NoHeld sid t := by
  unfold NoHeld
  rw [h]
  exact hs

theorem NoHeld.of_ix (h : t.ix = s.ix) (hs : NoHeld sid s) : NoHeld sid t := hs.of_sessions (congrArg Ix.sessions h)

@[simp] theorem noHeld_ixSend (ep : Endpoint) (b : List Byte) (h : NoHeld sid s) : NoHeld sid (s.ixSend ep b) := h.of_ix (s.ixSend_ix ep b)

@[simp] theorem noHeld_ixReply (q : Req) (st det : Nat) (res : List Byte) (h : NoHeld sid s) : NoHeld sid (s.ixReply q st det res) := by
  unfold State.ixReply
  split
  · next x hx =>
    refine noHeld_ixSend _ _ (noHeld_setSession h fun hid => ?_)
    exact h x (session_mem hx) hid
  · split
    · exact noHeld_ixSend _ _ h
    · exact h

@[simp] theorem noHeld_badParam (q : Req) (off : Nat) (h : NoHeld sid s) : NoHeld sid (s.badParam q off) := noHeld_ixReply q stBadParam off [] h

@[simp] theorem noHeld_ixWait (q : Req) (w : IxWait) (h : NoHeld sid s) : NoHeld sid (s.ixWait q w) := by
  unfold State.ixWait
  split
  · next x hx => exact noHeld_setSession h fun hid => h x (session_mem hx) hid
  · exact h

@[simp] theorem noHeld_closeSession (j : Nat) (h : NoHeld sid s) : NoHeld sid (s.closeSession j) := fun x hx hid => h x (List.mem_filter.mp hx).1 hid

theorem only_setSession (s : State) (y : Session) : Only [.ix] s (s.setSession y) :=
  (State.setSession_ev y (Ev.refl (fieldMask [.ix]) s) (by rfl)).only_mask

/-- A reply to a request of an open session. -/
theorem ixReply_replied {x : Session} (hx : s.session q.sid = some x) (hep : x.ep = q.ep) (hminor : x.minor = q.minor) (st det : Nat) (res : List Byte) :
    Replied s q st det res (s.ixReply q st det res) := by
  have hid : x.id = q.sid := session_id hx
  let b := replyPkt (if st = stBadVersion then 0x0100 else 0x0100 + q.minor) q.op q.seq q.sid st det res
  let y : Session := { x with replies := ((q.seq, b) :: x.replies).take 16, run := none }
  have hu : s.ixReply q st det res = (s.setSession y).ixSend q.ep b := by
    unfold State.ixReply
    rw [hx]
    dsimp only [y, b]
    rw [hep, hminor]
  refine ⟨s.setSession y, hu, only_setSession s y, rfl, fun j hj => ?_, fun z hz => ?_, fun hnone => ?_⟩
  · rw [State.session_setSession, if_neg (fun h => hj (h.trans hid))]
  · rw [hx] at hz
    injection hz with hz
    rw [State.session_setSession, if_pos hid.symm, hx, ← hz]
    rfl
  · rw [hx] at hnone
    cases hnone

/-- A reply to a request of session 0. -/
theorem ixReply_replied_zero (hx : s.session 0 = none) (hsid : q.sid = 0) (hminor : q.minor = 0) (st det : Nat) (res : List Byte) :
    Replied s q st det res (s.ixReply q st det res) := by
  have hnone : s.session q.sid = none := by rw [hsid]; exact hx
  have hu : s.ixReply q st det res = s.ixSend q.ep (replyPkt (if st = stBadVersion then 0x0100 else 0x0100 + q.minor) q.op q.seq q.sid st det res) := by
    unfold State.ixReply
    rw [hnone, hsid, hminor]
    simp
  refine ⟨s, hu, .refl _ _, rfl, fun _ _ => rfl, fun z hz => ?_, fun _ => rfl⟩
  rw [hnone] at hz
  cases hz

theorem Serves.replied (h : Serves s q) (st det : Nat) (res : List Byte) : Replied s q st det res (s.ixReply q st det res) := by
  obtain ⟨-, -, x, hx, -, -, hep, hminor⟩ := h
  exact ixReply_replied hx hep hminor st det res

theorem Serves.badParam (h : Serves s q) (off : Nat) : BadParam s q off (s.badParam q off) := h.replied stBadParam off []

/-- A request that goes on running. -/
theorem ixWait_waits {x : Session} (hx : s.session q.sid = some x) (w : IxWait) : Waits s q w (s.ixWait q w) := by
  have hid : x.id = q.sid := session_id hx
  have hu : s.ixWait q w = s.setSession { x with run := some ⟨q.op, q.seq, w⟩ } := by
    unfold State.ixWait
    rw [hx]
  rw [hu]
  refine ⟨only_setSession s _, rfl, fun j hj => ?_, fun z hz => ?_⟩
  · rw [State.session_setSession, if_neg (fun h => hj (h.trans hid))]
  · rw [hx] at hz
    injection hz with hz
    rw [State.session_setSession, if_pos hid.symm, hx, ← hz]
    rfl

theorem Serves.waits (h : Serves s q) (w : IxWait) : Waits s q w (s.ixWait q w) := by
  obtain ⟨-, -, x, hx, -⟩ := h
  exact ixWait_waits hx w

theorem Serves.noHeld (h : Serves s q) : NoHeld q.sid s := h.2.1

/-! A request in turn. -/

/-- A session that holds no request has none to run. -/
theorem ixDrain_quiet (h : NoHeld sid s) (n : Nat) : s.ixDrain sid n = s := by
  cases n with
  | zero => rfl
  | succ n =>
    unfold State.ixDrain
    split
    · rfl
    · next x hx =>
      have hheld : x.held = [] := h x (session_mem hx) (session_id hx)
      split
      · rfl
      · rw [hheld]
        rfl

theorem parsePkt_seq {b : List Byte} {k : Pkt} (h : parsePkt b = some k) : k.seq = BitVec.ofNat 32 (beAt b 6 4) := by
  unfold parsePkt at h
  split at h
  · cases h
  · injection h with h
    rw [← h]

theorem pktOp_of_parse {b : List Byte} {k : Pkt} (h : parsePkt b = some k) (hreply : k.isReply = false) : pktOp b = some k.op := by
  have hdrop : pktDropped b = false := by
    unfold pktDropped
    rw [h]
    dsimp only
    rw [hreply, Bool.and_false]
  unfold pktOp
  rw [hdrop, if_neg Bool.false_ne_true, h]
  rfl

theorem Session.held_expect (x : Session) (h : x.held = []) (e : Word) : { x with held := [], expect := e } = { x with expect := e } := by
  cases x
  subst h
  rfl

/-- A request in turn, alone in its session's queue, is checked and performed. -/
theorem ixSeq_turned {s : State} {x : Session} {b : List Byte} {k : Pkt} (hx : s.session k.sid = some x) (hparse : parsePkt b = some k) (hseq : k.seq = x.expect)
    (hrun : x.run = none) (hheld : x.held = []) : s.ixSeq x b k = ((turned s x).ixRequest (reqOf x k) k x.control).ixDrain x.id 8 := by
  have hid : x.id = k.sid := session_id hx
  have hd : (k.seq - x.expect).toNat < 8 := by
    rw [hseq, BitVec.sub_self]
    decide
  let y : Session := { x with held := [b] }
  have hy : (s.setSession y).session x.id = some y := by
    rw [State.session_setSession, if_pos rfl, hid, hx]
    rfl
  have hseqb : BitVec.ofNat 32 (beAt b 6 4) = y.expect := (parsePkt_seq hparse).symm.trans hseq
  have hnext : (s.setSession y).setSession { y with held := y.held.filter (· != b), expect := y.expect + 1 } = turned s x := by
    have hnone : y.held.filter (· != b) = [] := by simp [y]
    rw [hnone]
    exact (State.setSession_setSession s (x := y) (y := { y with held := [], expect := y.expect + 1 }) rfl).trans
      (congrArg s.setSession (x.held_expect hheld (x.expect + 1)))
  unfold State.ixSeq
  dsimp only
  rw [if_pos hd, hheld, if_neg (by simp), List.nil_append]
  show (s.setSession y).ixDrain x.id 9 = _
  unfold State.ixDrain
  rw [hy]
  dsimp only
  rw [if_neg (by simp [y, hrun])]
  rw [show y.held.find? (fun b => decide (BitVec.ofNat 32 (beAt b 6 4) = y.expect)) = some b from List.find?_cons_of_pos (decide_eq_true hseqb)]
  dsimp only
  rw [hparse]
  dsimp only
  rw [hnext, hid]
  rfl

theorem noHeld_turned (s : State) {x : Session} (hheld : x.held = []) (hid : x.id = sid) : NoHeld sid (turned s x) := by
  intro z hz hzid
  obtain ⟨y, hy, hyz⟩ := List.mem_map.mp hz
  by_cases heq : y.id = x.id
  · rw [if_pos heq] at hyz
    rw [← hyz]
    exact hheld
  · rw [if_neg heq] at hyz
    exact absurd (hyz ▸ hzid.trans hid.symm) heq

theorem serves_turned {s : State} {x : Session} {k : Pkt} (hx : s.session k.sid = some x) (hsid : k.sid ≠ 0) (hrun : x.run = none) (hheld : x.held = []) :
    Serves (turned s x) (reqOf x k) := by
  have hid : x.id = k.sid := session_id hx
  refine ⟨hsid, noHeld_turned s hheld hid, { x with expect := x.expect + 1 }, ?_, hid, hrun, rfl, rfl⟩
  show (s.setSession _).session k.sid = _
  rw [State.session_setSession, if_pos hid.symm, hx]
  rfl

/-- An arrival in turn: what is performed. -/
theorem ixRow_turned {a : Arrival} {op : Nat} {s s1 : State} {x : Session} {k : Pkt} (h : InTurn s a op s1 x k) :
    s.ixRow op a = ok (((turned s1 x).ixRequest (reqOf x k) k x.control).ixDrain x.id 8).ixSettle := by
  obtain ⟨b, harr, hparse, hop, hmaj, hmin, hlen, hmax, hreply, hsid, hx, hseq, hrun, hheld⟩ := h
  unfold State.ixRow
  rw [harr]
  dsimp only
  rw [if_pos (by rw [pktOp_of_parse hparse hreply, hop])]
  congr 2
  unfold State.ixTake
  rw [hparse]
  dsimp only
  rw [hx]
  dsimp only
  rw [if_pos rfl]
  dsimp only
  rw [if_neg (not_not.mpr hmaj), if_neg (by omega), if_neg (by rw [hreply]; decide), if_neg hsid, if_neg (not_not.mpr hmin), ixSeq_turned hx hparse hseq hrun hheld]

theorem turned_recovery (s : State) (x : Session) : (turned s x).recovery = s.recovery := rfl

variable {c : Arrival → Instr} {op since mode lo hi : Nat} {P : State → Req → State → Prop} {f : State → Req → State}

theorem perform_of_op (hperform : ∀ s sid ep seq minor p, State.ixPerform s ⟨sid, ep, op, seq, minor, p⟩ = f s ⟨sid, ep, op, seq, minor, p⟩) {s : State} {q : Req}
    (h : q.op = op) : s.ixPerform q = f s q := by
  obtain ⟨sid, ep, qop, seq, minor, p⟩ := q
  obtain rfl : qop = op := h
  exact hperform s sid ep seq minor p

/-- What a row of the opcode table says follows from what its operation does to a request that is served. -/
theorem row_of_perform (f : State → Req → State) (hexec : ∀ a s, exec (c a) s = s.ixRow op a) (hentry : ixEntry op = some (since, mode))
    (hlen : ∀ n, lenOk op n = true ↔ lo ≤ n ∧ n ≤ hi) (hperform : ∀ s sid ep seq minor p, State.ixPerform s ⟨sid, ep, op, seq, minor, p⟩ = f s ⟨sid, ep, op, seq, minor, p⟩)
    (hspec : ∀ v q, Serves v q → lo ≤ q.p.length → q.p.length ≤ hi → P v q (f v q) ∧ NoHeld q.sid (f v q)) : Row c op since mode lo hi P := by
  intro a s s1 x k h
  obtain ⟨b, -, -, hop, -, -, -, -, -, hsid, hx, -, hrun, hheld⟩ := id h
  have hserves := serves_turned hx hsid hrun hheld
  have hid : x.id = (reqOf x k).sid := session_id hx
  have hdone (Q : State → Prop) {u : State} (hreq : (turned s1 x).ixRequest (reqOf x k) k x.control = u) (hu : Q u) (hquiet : NoHeld (reqOf x k).sid u) :
      DoesThen (c a) s Q := by
    refine .of_eq (u := u) ?_ hu
    rw [hexec, ixRow_turned h, hreq, hid, ixDrain_quiet hquiet]
  have hknown : (turned s1 x).opKnown k (reqOf x k).minor = true ↔ since ≤ x.minor ∧ (s1.recovery = true → recoveryOp k = true) := by
    unfold State.opKnown
    rw [hop, hentry, turned_recovery]
    dsimp only [reqOf]
    rw [Bool.and_eq_true]
    refine and_congr decide_eq_true_iff ?_
    cases s1.recovery <;> simp
  have hreply (st det : Nat) : Replied (turned s1 x) (reqOf x k) st det [] ((turned s1 x).ixReply (reqOf x k) st det []) ∧
      NoHeld (reqOf x k).sid ((turned s1 x).ixReply (reqOf x k) st det []) :=
    ⟨hserves.replied st det [], noHeld_ixReply _ _ _ _ hserves.noHeld⟩
  have hrequest : (turned s1 x).ixRequest (reqOf x k) k x.control =
      if !(turned s1 x).opKnown k (reqOf x k).minor then (turned s1 x).ixReply (reqOf x k) stBadOpcode 0 []
      else if mode = 2 ∧ !x.control then (turned s1 x).ixReply (reqOf x k) stDenied 0 []
      else if !lenOk op k.params.length then (turned s1 x).ixReply (reqOf x k) stBadLength 0 []
      else f (turned s1 x) (reqOf x k) := by
    unfold State.ixRequest
    rw [hop, hentry]
    dsimp only
    rw [perform_of_op hperform hop]
  refine ⟨fun hkn hmode hlo hhi => ?_, fun hkn => ?_, fun hkn hmode hcontrol => ?_, fun hkn hmode hbad => ?_⟩
  · obtain ⟨hP, hquiet⟩ := hspec (turned s1 x) (reqOf x k) hserves hlo hhi
    refine hdone _ ?_ hP hquiet
    rw [hrequest, if_neg (by simp [hknown.mpr hkn]), if_neg (fun ⟨h2, hc⟩ => by simp [hmode h2] at hc), if_neg (by simp [(hlen _).mpr ⟨hlo, hhi⟩])]
  · refine hdone _ ?_ (hreply stBadOpcode 0).1 (hreply stBadOpcode 0).2
    rw [hrequest, if_pos (by simpa using mt hknown.mp hkn)]
  · refine hdone _ ?_ (hreply stDenied 0).1 (hreply stDenied 0).2
    rw [hrequest, if_neg (by simp [hknown.mpr hkn]), if_pos ⟨hmode, by simp [hcontrol]⟩]
  · refine hdone _ ?_ (hreply stBadLength 0).1 (hreply stBadLength 0).2
    rw [hrequest, if_neg (by simp [hknown.mpr hkn]), if_neg (fun ⟨h2, hc⟩ => by simp [hmode h2] at hc),
      if_pos (by simpa using mt (hlen _).mp (by omega))]

end Machine
end Sys2Proof
end

section
/-! Registers read for a reply, and the flash die lit at an access (R435, R447). -/

namespace Sys2Proof

open Machine

namespace Machine

variable {s t : State} {q : Req}

/-! Reads of registers that no read changes. -/

/-- The sources of interrupts that a read clears, as given. -/
def State.withNews (s : State) (a b : Bool) : State := { s with asyNews := a, cmpNews := b }

/-- Only the pending interrupts show the sources. -/
theorem State.live_withNews (s : State) (a b : Bool) {g : Reg} (h : g.blk ≠ .irq) : (s.withNews a b).live g = s.live g := by
  obtain ⟨blk, idx, off⟩ := g
  cases blk
  case irq => exact absurd rfl h
  all_goals rfl

theorem State.shown_withNews (s : State) (a b : Bool) {g : Reg} (h : g.blk ≠ .irq) : (s.withNews a b).shown g = s.shown g := by
  unfold State.shown
  rw [State.live_withNews s a b h]

theorem State.withNews_withNews (s : State) (a b c d : Bool) : (s.withNews a b).withNews c d = s.withNews c d := rfl

theorem State.withNews_self (s : State) : s.withNews s.asyNews s.cmpNews = s := rfl

theorem State.only_withNews (s : State) (a b : Bool) : Only [.cmpNews, .asyNews] s (s.withNews a b) := by
  intro f hf
  cases f
  case cmpNews => exact absurd List.mem_cons_self hf
  case asyNews => exact absurd (List.mem_cons_of_mem _ List.mem_cons_self) hf
  all_goals rfl

/-- A register of 32 bits that is not a key's, shows no sources, and of which a read clears nothing. -/
def plainRead (g : Reg) : Bool :=
  (match g.info with | some i => !i.w64 && i.rc == 0 | none => false) && !(g.blk == .lsm && decide (0x20 ≤ g.off) && decide (g.off < 0x40)) &&
    g.blk != .fryUp && g.blk != .mac && g.blk != .irq && !(g.blk == .tlyPi && g.off == 0x28)

theorem readDone_plain {g : Reg} {i : RegInfo} (hinfo : g.info = some i) (hrc : i.rc = 0) (hup : g.blk ≠ .fryUp) (hmac : g.blk ≠ .mac) :
    ∃ a b, s.readDone .ixz g = s.withNews a b := by
  unfold State.readDone
  split
  · next heq _ => exact absurd heq hup
  · exact ⟨false, s.cmpNews, rfl⟩
  · exact ⟨s.asyNews, false, rfl⟩
  · next heq _ => exact absurd heq hmac
  · rw [hinfo]
    dsimp only
    rw [if_pos hrc]
    exact ⟨s.asyNews, s.cmpNews, rfl⟩

theorem ixRead_plain {g : Reg} (h : plainRead g = true) : ∃ a b, s.ixRead g = (s.withNews a b, (s.shown g).toNat) := by
  unfold plainRead at h
  simp only [Bool.and_eq_true, Bool.not_eq_true', bne_iff_ne, ne_eq] at h
  obtain ⟨⟨⟨⟨⟨hinfo, hkey⟩, hup⟩, hmac⟩, -⟩, hlost⟩ := h
  cases hg : g.info with
  | none => rw [hg] at hinfo; cases hinfo
  | some i =>
    rw [hg] at hinfo
    simp only [Bool.and_eq_true, Bool.not_eq_true', beq_iff_eq] at hinfo
    obtain ⟨hw, hrc⟩ := hinfo
    obtain ⟨a, b, hdone⟩ := readDone_plain (s := s) hg hrc hup hmac
    have hnokey : s.keyRead .ixz g = false := by
      unfold State.keyRead
      rw [hkey, Bool.false_and]
    have hwidth : (i.width != Width.b32) = false := by
      unfold RegInfo.width
      rw [hw]
      rfl
    have hread : s.regRead .ixz g .b32 false = (s.withNews a b, s.shown g) := by
      unfold State.regRead
      rw [hg]
      dsimp only
      rw [hwidth, hnokey, hdone]
      rfl
    refine ⟨a, b, ?_⟩
    unfold State.ixRead
    rw [hread]
    dsimp only
    rw [if_neg (fun ⟨h1, h2⟩ => by simp [h1, h2] at hlost)]

theorem blk_of_plainRead {g : Reg} (h : plainRead g = true) : g.blk ≠ .irq := by
  unfold plainRead at h
  simp only [Bool.and_eq_true, bne_iff_ne, ne_eq] at h
  exact h.1.2

theorem ixReads_plain {gs : List Reg} (h : gs.all plainRead = true) :
    ∃ a b, s.ixReads gs = (s.withNews a b, gs.flatMap (fun g => be 4 (s.shown g).toNat)) := by
  induction gs generalizing s with
  | nil => exact ⟨s.asyNews, s.cmpNews, rfl⟩
  | cons g gs ih =>
    obtain ⟨hg, hgs⟩ := Bool.and_eq_true_iff.mp h
    obtain ⟨a, b, hread⟩ := ixRead_plain (s := s) hg
    obtain ⟨c, d, hreads⟩ := ih (s := s.withNews a b) hgs
    refine ⟨c, d, ?_⟩
    unfold State.ixReads
    rw [hread]
    dsimp only
    rw [hreads]
    have hshown : gs.flatMap (fun g => be 4 ((s.withNews a b).shown g).toNat) = gs.flatMap (fun g => be 4 (s.shown g).toNat) :=
      List.flatMap_congr fun g hmem => by rw [State.shown_withNews s a b (blk_of_plainRead (List.all_eq_true.mp hgs g hmem))]
    rw [hshown, State.withNews_withNews]
    rfl

theorem Serves.withNews (h : Serves s q) (a b : Bool) : Serves (s.withNews a b) q := h.of_ix rfl

/-- A reply whose results are registers that no read changes. -/
theorem Serves.repliedReads (h : Serves s q) {gs : List Reg} (hplain : gs.all plainRead = true) (st det : Nat) (extra : List Byte) :
    RepliedRegs s q st det gs extra ((s.ixReads gs).1.ixReply q st det ((s.ixReads gs).2 ++ extra)) := by
  obtain ⟨a, b, hreads⟩ := ixReads_plain (s := s) hplain
  rw [hreads]
  exact ⟨s.withNews a b, s.only_withNews a b, (h.withNews a b).replied _ _ _⟩

theorem Serves.repliedRegs (h : Serves s q) {gs : List Reg} (hplain : gs.all plainRead = true) (st det : Nat) :
    RepliedRegs s q st det gs [] (s.ixReplyRegs q st det gs) := by
  have hreply : s.ixReplyRegs q st det gs = (s.ixReads gs).1.ixReply q st det ((s.ixReads gs).2 ++ []) := by
    rw [List.append_nil]
    rfl
  rw [hreply]
  exact h.repliedReads hplain st det []

theorem ixReads_ix {gs : List Reg} (h : gs.all plainRead = true) : (s.ixReads gs).1.ix = s.ix := by
  obtain ⟨a, b, hreads⟩ := ixReads_plain (s := s) h
  rw [hreads]
  rfl

theorem noHeld_ixReplyRegs {sid : Nat} {gs : List Reg} (hplain : gs.all plainRead = true) (q : Req) (st det : Nat) (h : NoHeld sid s) :
    NoHeld sid (s.ixReplyRegs q st det gs) := by
  unfold State.ixReplyRegs
  exact noHeld_ixReply _ _ _ _ (h.of_ix (ixReads_ix hplain))

/-! The flash die. -/

theorem State.flashOn_ix (s : State) : s.flashOn.ix = s.ix :=
  (State.flashOn_ev (Ev.refl 154742504910672534362390536 s) (by rfl)).frame .ix rfl

theorem Serves.flashOn (h : Serves s q) : Serves s.flashOn q := h.of_ix s.flashOn_ix

theorem State.flashOn_lit (s : State) : FlashLit s s.flashOn [] := by
  have honly := (State.flashOn_ev (Ev.refl (fieldMask [.regs, .doms]) s) (by rfl)).only_mask
  unfold State.flashOn State.wakeBase at honly ⊢
  split at honly
  · next h =>
    rw [if_pos h]
    exact ⟨h, fun _ _ => rfl, .refl _ _, honly⟩
  · next h =>
    rw [if_neg h]
    refine ⟨?_, fun n hn => ?_, ?_, honly⟩
    · show State.rf _ (lmpDom 738) 30 2 = 0
      rw [State.rf_rsetb _ _ _ _ _ _ (by decide), State.rf_rsetf_self _ _ _ _ _ (by decide)]
      rfl
    · exact State.domSt_setDomSt_ne s 738 n {} hn
    · exact (((KeepRegs.of_regs rfl).rsetb 26 false List.mem_cons_self).rsetf 30 2 0 List.mem_cons_self).rsetb 25 false List.mem_cons_self

theorem flashLit_mono {u : State} {l k : List Field} (h : FlashLit s u l) (hl : l ⊆ k) : FlashLit s u k := by
  obtain ⟨hdom, hdoms, hregs, honly⟩ := h
  exact ⟨hdom, hdoms, hregs, honly.mono (List.cons_subset_cons _ (List.cons_subset_cons _ hl))⟩

/-- What leaves the registers and domains alone after the flash die is lit. -/
theorem flashLit_trans_only {u w : State} {l : List Field} (h : FlashLit s u l) (honly : Only l u w) (hr : .regs ∉ l) (hd : .doms ∉ l) :
    FlashLit s w l := by
  obtain ⟨hdom, hst, hkeep, hframe⟩ := h
  have hregs : w.regs = u.regs := honly .regs hr
  have hdoms : w.doms = u.doms := honly .doms hd
  refine ⟨?_, fun n hn => ?_, hkeep.then_regs hregs, hframe.trans (honly.mono fun f hf => List.mem_cons_of_mem _ (List.mem_cons_of_mem _ hf))⟩
  · unfold State.dom at hdom ⊢
    rw [State.rf_of_regs hregs]
    exact hdom
  · have heq := hst n hn
    unfold State.domSt at heq ⊢
    rw [hdoms]
    exact heq

end Machine
end Sys2Proof
end

section
/-! O55: Ixzento's session and query opcodes. -/

namespace Sys2Proof

open Machine

namespace Machine

variable {s v : State} {q : Req} {sid : Nat}

/-- Replies in the request's session go to its endpoint, in its version: of an open session, or of session 0. -/
def Answers (s : State) (q : Req) : Prop := ∀ w : State, w.session q.sid = s.session q.sid → ∀ st det res, Replied w q st det res (w.ixReply q st det res)

theorem Serves.answers (h : Serves s q) : Answers s q := by
  obtain ⟨-, -, x, hx, -, -, hep, hminor⟩ := h
  intro w hw st det res
  exact ixReply_replied (hw.trans hx) hep hminor st det res

theorem answers_zero (hx : s.session 0 = none) (hsid : q.sid = 0) (hminor : q.minor = 0) : Answers s q := by
  intro w hw st det res
  rw [hsid, hx] at hw
  exact ixReply_replied_zero hw hsid hminor st det res

/-! Session 0. -/

/-- What the table says of an opcode of session 0 follows from what its operation does. -/
theorem row0_of_perform {c : Arrival → Instr} {op n : Nat} {P : State → Req → State → Prop} (f : State → Req → State) (hexec : ∀ a s, exec (c a) s = s.ixRow op a)
    (hop : op ≤ 1) (hentry : ixEntry op = some (0, 0)) (hlen : lenOk op n = true) (hn : n ≤ 1436) 
    (hperform : ∀ s sid ep seq minor p, State.ixPerform s ⟨sid, ep, op, seq, minor, p⟩ = f s ⟨sid, ep, op, seq, minor, p⟩)
    (hspec : ∀ v q, Answers v q → q.p.length = n → P v q (f v q)) : Row0 c op n P := by
  intro a s s1 ep b k harr hparse hkop hmaj hklen hreply hsid hx hparams
  let q : Req := ⟨0, ep, op, k.seq, 0, k.params⟩
  have hrec : recoveryOp k = true := by
    unfold recoveryOp
    rw [hkop]
    obtain rfl | rfl : op = 0 ∨ op = 1 := by omega
    · rfl
    · rfl
  have hknown (m : Nat) : s1.opKnown k m = true := by
    unfold State.opKnown
    rw [hkop, hentry, hrec, Bool.or_true, Bool.and_true]
    exact decide_eq_true (Nat.zero_le m)
  refine .of_eq (u := f s1 q) ?_ (hspec s1 q (answers_zero hx rfl rfl) hparams)
  rw [hexec]
  unfold State.ixRow
  rw [harr]
  dsimp only
  rw [if_pos (by rw [pktOp_of_parse hparse hreply, hkop])]
  congr 2
  unfold State.ixTake
  rw [hparse]
  dsimp only
  rw [hsid, hx]
  dsimp only
  rw [if_neg (not_not.mpr hmaj), if_neg (by omega), if_neg (by rw [hreply]; decide), if_pos rfl, if_neg (by simp [hknown]), if_neg (by omega)]
  unfold State.ixRequest
  rw [hkop, hentry]
  dsimp only
  rw [if_neg (by simp [hknown]), if_neg (by simp), hparams, if_neg (by simp [hlen])]
  exact hperform s1 0 ep k.seq 0 k.params

/-! Sessions added and closed. -/

theorem State.session_addSession (s : State) {x : Session} {j : Nat} (h : x.id ≠ j) : (s.addSession x).session j = s.session j := by
  show (s.ix.sessions ++ [x]).find? (fun y => y.id == j) = _
  rw [List.find?_append, List.find?_cons, beq_false_of_ne h]
  exact Option.or_none

theorem State.session_addSession_new (s : State) {x : Session} (h : s.session x.id = none) : (s.addSession x).session x.id = some x := by
  show (s.ix.sessions ++ [x]).find? (fun y => y.id == x.id) = _
  unfold State.session at h
  rw [List.find?_append, h, List.find?_cons, beq_self_eq_true]
  rfl

theorem State.session_closeSession_self (s : State) (j : Nat) : (s.closeSession j).session j = none := by
  refine List.find?_eq_none.mpr fun x hx => ?_
  have hne := (List.mem_filter.mp hx).2
  simpa using hne

theorem State.session_closeSession (s : State) {i j : Nat} (h : i ≠ j) : (s.closeSession j).session i = s.session i := by
  show (s.ix.sessions.filter (fun x => x.id != j)).find? (fun x => x.id == i) = _
  rw [List.find?_filter]
  unfold State.session
  congr 1
  funext x
  by_cases hx : x.id = i
  · simp [hx, h]
  · simp [hx]

theorem noHeld_addSession {x : Session} (h : NoHeld sid s) (hx : x.held = []) : NoHeld sid (s.addSession x) := by
  intro y hy hid
  rcases List.mem_append.mp hy with hy | hy
  · exact h y hy hid
  · rw [List.mem_singleton.mp hy]
    exact hx

theorem noHeld_grantControl {j : Nat} (h : NoHeld sid s) : NoHeld sid (s.grantControl j) := by
  have hclosed : ∀ o : Option Session, NoHeld sid (match o with | some c => if c.id = j then s else s.closeSession c.id | none => s) := by
    intro o
    cases o with
    | none => exact h
    | some c =>
      dsimp only
      split
      · exact h
      · exact noHeld_closeSession _ h
  unfold State.grantControl
  have hs1 := hclosed s.controller
  dsimp only at hs1 ⊢
  split
  · next x hx => exact noHeld_setSession hs1 fun hid => hs1 x (session_mem hx) hid
  · exact hs1

theorem map_replace_absent (l : List Session) (y : Session) (h : l.find? (fun x => x.id == y.id) = none) :
    l.map (fun z => if z.id = y.id then y else z) = l := by
  have hid : ∀ z ∈ l, (if z.id = y.id then y else z) = id z := by
    intro z hz
    have hne := List.find?_eq_none.mp h z hz
    exact if_neg (by simpa using hne)
  rw [List.map_congr_left hid, List.map_id]

/-- Control granted to a session just added, where no session has it. -/
theorem grantControl_added (s : State) {x : Session} (hnew : s.session x.id = none) (hnone : s.controller = none) (hx : x.control = false) :
    ((s.addSession x).grantControl x.id).ix = { (s.addSession x).ix with sessions := s.ix.sessions ++ [{ x with control := true, challenge := none, takeover := false }] } ∧
    Only [.ix] (s.addSession x) ((s.addSession x).grantControl x.id) := by
  have hcontroller : (s.addSession x).controller = none := by
    show (s.ix.sessions ++ [x]).find? (fun y => y.control) = none
    unfold State.controller at hnone
    rw [List.find?_append, hnone, List.find?_cons, hx]
    rfl
  have hgrant : (s.addSession x).grantControl x.id = (s.addSession x).setSession { x with control := true, challenge := none, takeover := false } := by
    unfold State.grantControl
    rw [hcontroller]
    dsimp only
    rw [State.session_addSession_new s hnew]
  rw [hgrant]
  refine ⟨?_, only_setSession _ _⟩
  unfold State.setSession State.addSession
  dsimp only
  rw [List.map_append, map_replace_absent s.ix.sessions { x with control := true, challenge := none, takeover := false } hnew]
  simp

/-! OPEN. -/

/-- The session that OPEN adds, before control is granted. -/
def State.opened (s : State) (q : Req) : Session :=
  { id := freshId s.ix.used 65536 (s.freeNow.toNat % 65536), ep := q.ep, minor := min (beAt q.p 2 2) s.ixTop % 256, expect := q.seq + 1,
    takeover := decide (beAt q.p 4 1 = 2),
    challenge := if decide (beAt q.p 4 1 ≠ 0) && s.needsProof q.ep then some s.bumpFree.challengeBytes else none }

theorem challengeBytes_length (s : State) : s.challengeBytes.length = 32 := by
  simp [State.challengeBytes, be_length, List.length_flatMap]

theorem only_opened (s : State) (x : Session) : Only [.free, .ix] s (s.bumpFree.addSession x) :=
  (State.addSession_ev x (State.bumpFree_ev (Ev.refl (fieldMask [.free, .ix]) s) (by rfl)) (by rfl)).only_mask

theorem topOf_eq (s : State) : topOf s = s.ixTop := rfl

/-- What OPEN leaves, past its refusals. -/
theorem ixOpen_opened (hlow : ¬ min (beAt q.p 2 2) s.ixTop < max (beAt q.p 0 2) 0x0100) (hmode : beAt q.p 4 1 ≤ 2) (hbusy : ¬ (beAt q.p 4 1 = 1 ∧ s.controller.isSome = true))
    (hfull : ¬ s.maxSessions ≤ s.ix.sessions.length) :
    s.ixOpen q =
      (if decide (beAt q.p 4 1 ≠ 0) && !(decide (beAt q.p 4 1 ≠ 0) && s.needsProof q.ep) then (s.bumpFree.addSession (s.opened q)).grantControl (s.opened q).id
        else s.bumpFree.addSession (s.opened q)).ixReply q stOk 0
      (be 2 (s.opened q).id ++ be 2 (min (beAt q.p 2 2) s.ixTop) ++ be 1 (b2n (decide (beAt q.p 4 1 ≠ 0) && !(decide (beAt q.p 4 1 ≠ 0) && s.needsProof q.ep))) ++ be 3 0 ++
        (s.opened q).challenge.getD (List.replicate 32 0)) := by
  unfold State.ixOpen
  dsimp only
  rw [if_neg hlow, if_neg (by omega), if_neg hbusy, if_neg hfull]
  rfl

theorem needsProof_eq (s : State) (ep : Endpoint) :
    s.needsProof ep = match ep with | .udp _ _ => !(s.lsmOpen && s.noKeys) | .uart => !(s.lsmOpen && s.noKeys) | _ => false := by
  cases ep <;> rfl

theorem ixOpen_opens (h : Answers s q) : Opens s q (s.ixOpen q) := by
  have hself := h s rfl
  unfold Opens
  dsimp only
  rw [topOf_eq]
  refine ⟨fun hlow => ?_, fun hlow hmode => ?_, fun hlow hbusy => ?_, fun hlow hmode hbusy hfull => ?_, fun hlow hmode hbusy hfull hid hnew hne => ?_⟩
  · unfold State.ixOpen
    dsimp only
    rw [if_pos hlow]
    exact hself _ _ _
  · unfold State.ixOpen
    dsimp only
    rw [if_neg hlow, if_pos hmode]
    exact hself _ _ _
  · unfold State.ixOpen
    dsimp only
    rw [if_neg hlow, if_neg (by omega), if_pos (show _ ∧ s.controller.isSome = true from hbusy)]
    exact hself _ _ _
  · unfold State.ixOpen
    dsimp only
    rw [if_neg hlow, if_neg (by omega), if_neg (show ¬ (_ ∧ s.controller.isSome = true) from hbusy), if_pos (show s.maxSessions ≤ _ from hfull)]
    exact hself _ _ _
  · have hopened := ixOpen_opened hlow hmode hbusy hfull
    have hadd : (s.bumpFree.addSession (s.opened q)).session q.sid = s.session q.sid := State.session_addSession s.bumpFree hne
    have hfree : (s.bumpFree.addSession (s.opened q)).free = s.free + 5 := rfl
    refine ⟨fun hzero => ?_, fun hpos hproof => ?_, fun hpos hproof hnone => ?_⟩
    · have hdec : decide (beAt q.p 4 1 ≠ 0) = false := by simp [hzero]
      have hx : s.opened q = { id := freshId s.ix.used 65536 (s.freeNow.toNat % 65536), ep := q.ep, minor := min (beAt q.p 2 2) s.ixTop % 256, expect := q.seq + 1 } := by
        unfold State.opened
        rw [hdec, hzero]
        rfl
      rw [hopened, hdec, Bool.false_and, if_neg Bool.false_ne_true, hx]
      rw [hx] at hadd hfree
      exact ⟨_, ⟨hfree, rfl, only_opened s _⟩, rfl, h _ hadd _ _ _⟩
    · have hdec : decide (beAt q.p 4 1 ≠ 0) = true := decide_eq_true (by omega)
      have hneeds : s.needsProof q.ep = true := (needsProof_eq s q.ep).trans hproof
      have hx : s.opened q = { id := freshId s.ix.used 65536 (s.freeNow.toNat % 65536), ep := q.ep, minor := min (beAt q.p 2 2) s.ixTop % 256, expect := q.seq + 1, takeover := decide (beAt q.p 4 1 = 2), challenge := some s.bumpFree.challengeBytes } := by
        unfold State.opened
        rw [hdec, hneeds]
        rfl
      rw [hopened, hdec, hneeds, Bool.true_and, Bool.true_and, if_neg (by decide), hx]
      rw [hx] at hadd hfree
      exact ⟨_, _, ⟨hfree, rfl, only_opened s _⟩, rfl, challengeBytes_length _, h _ hadd _ _ _⟩
    · have hdec : decide (beAt q.p 4 1 ≠ 0) = true := decide_eq_true (by omega)
      have hneeds : s.needsProof q.ep = false := (needsProof_eq s q.ep).trans hproof
      have hchal : (s.opened q).challenge = none := by
        unfold State.opened
        rw [hdec, hneeds]
        rfl
      obtain ⟨hix, honly⟩ := grantControl_added s.bumpFree (x := s.opened q) hnew hnone rfl
      have hsession : ((s.bumpFree.addSession (s.opened q)).grantControl (s.opened q).id).session q.sid = s.session q.sid := by
        unfold State.session
        rw [hix]
        dsimp only
        rw [List.find?_append, List.find?_cons, show ((s.opened q).id == q.sid) = false from beq_false_of_ne hne]
        exact Option.or_none
      rw [hopened, hdec, hneeds, if_pos (by rfl), hchal]
      refine ⟨_, ⟨?_, ?_, ?_⟩, ?_, h _ hsession _ _ _⟩
      · exact (honly .free (by decide)).trans hfree
      · rw [hix]
        rfl
      · exact (only_opened _ _).trans (honly.mono (by simp))
      · rw [hix]
        rfl

theorem noHeld_ixOpen (q : Req) (h : NoHeld sid s) : NoHeld sid (s.ixOpen q) := by
  have hadd (x : Session) (hx : x.held = []) : NoHeld sid (s.bumpFree.addSession x) := noHeld_addSession (s := s.bumpFree) h hx
  unfold State.ixOpen
  dsimp only
  split
  · exact noHeld_ixReply _ _ _ _ h
  split
  · exact noHeld_badParam _ _ h
  split
  · exact noHeld_ixReply _ _ _ _ h
  split
  · exact noHeld_ixReply _ _ _ _ h
  refine noHeld_ixReply _ _ _ _ ?_
  split
  · exact noHeld_grantControl (hadd _ rfl)
  · exact hadd _ rfl

/-! PROVE. -/

theorem ownerKeys_flashOn (s : State) : s.flashOn.ownerKeys = s.ownerKeys := by
  have honly := (State.flashOn_lit s).2.2.2
  unfold State.ownerKeys State.record State.flashBytes State.oslot
  rw [honly .flash (by decide), honly .oslots (by decide)]

theorem controller_flashOn (s : State) : s.flashOn.controller = s.controller := by
  unfold State.controller
  rw [s.flashOn_ix]

theorem session_flashOn (s : State) (j : Nat) : s.flashOn.session j = s.session j := State.session_of_ix s.flashOn_ix j

/-- A proof in the parameters that some owner key accepts (R430). -/
def Proven (s : State) (q : Req) (c : List Byte) : Prop :=
  ∃ k ∈ s.ownerKeys, rsaOk k (beAt q.p 0 384) (sha256 (c ++ be 8 Config.devid.toNat ++ be 2 q.sid)) = true

theorem ixProve_none {y : Session} (hy : s.session q.sid = some y) (hc : y.challenge = none) :
    s.ixProve q = s.ixReply q stOk 0 (be 1 (b2n y.control) ++ be 3 0) := by
  unfold State.ixProve
  rw [hy]
  dsimp only
  rw [hc]

theorem ixProve_some {y : Session} {c : List Byte} (hy : s.session q.sid = some y) (hc : y.challenge = some c) :
    (¬ Proven s q c → s.ixProve q = (s.flashOn.ixReply q stDenied 0 []).closeSession q.sid) ∧
    (Proven s q c → s.controller.isSome = true → y.takeover = false → s.ixProve q = s.flashOn.ixReply q stBusy 0 []) ∧
    (Proven s q c → s.controller = none ∨ y.takeover = true → s.ixProve q = (s.flashOn.grantControl q.sid).ixReply q stOk 0 (be 1 1 ++ be 3 0)) := by
  have hany : (s.flashOn.ownerKeys.any (fun k => rsaOk k (beAt q.p 0 384) (sha256 (c ++ be 8 Config.devid.toNat ++ be 2 q.sid)))) = true ↔ Proven s q c := by
    rw [ownerKeys_flashOn, List.any_eq_true]
    rfl
  unfold State.ixProve
  rw [hy]
  dsimp only
  rw [hc]
  dsimp only
  rw [controller_flashOn]
  refine ⟨fun hbad => ?_, fun hgood hother htake => ?_, fun hgood hother => ?_⟩
  · rw [if_pos (by simpa using mt hany.mp hbad)]
  · rw [if_neg (by simpa using hany.mpr hgood), if_pos (by simp [hother, htake])]
  · rw [if_neg (by simpa using hany.mpr hgood), if_neg]
    rcases hother with hnone | htake
    · simp [hnone]
    · simp [htake]

/-- A session with CONTROL. -/
def Session.controls (y : Session) : Session := { y with control := true, challenge := none, takeover := false }

theorem Session.controls_id (y : Session) : y.controls.id = y.id := rfl

theorem grantControl_free {y : Session} (hy : s.session sid = some y) (hnone : s.controller = none) : s.grantControl sid = s.setSession y.controls := by
  unfold State.grantControl
  rw [hnone]
  dsimp only
  rw [hy]
  rfl

theorem grantControl_taken {y o : Session} (hy : s.session sid = some y) (ho : s.controller = some o) (hne : o.id ≠ sid) :
    s.grantControl sid = (s.closeSession o.id).setSession y.controls := by
  unfold State.grantControl
  rw [ho]
  dsimp only
  rw [if_neg hne, State.session_closeSession s hne.symm, hy]
  rfl

theorem only_closeSession (s : State) (j : Nat) : Only [.ix] s (s.closeSession j) :=
  (State.closeSession_ev j (Ev.refl (fieldMask [.ix]) s) (by rfl)).only_mask

/-- What PROVE says of a session (R430). -/
theorem ixProve_proves (h : Serves s q) {y : Session} (hy : s.session q.sid = some y) :
    (y.challenge = none → Replied s q stOk 0 (be 1 (if y.control then 1 else 0) ++ be 3 0) (s.ixProve q)) ∧
    (∀ c, y.challenge = some c →
      (¬ Proven s q c → ∃ v1 w, FlashLit s v1 [] ∧ Replied v1 q stDenied 0 [] w ∧ s.ixProve q = w.closeSession q.sid ∧ (s.ixProve q).session q.sid = none) ∧
      (Proven s q c → s.controller.isSome = true → y.takeover = false → ∃ v1, FlashLit s v1 [] ∧ Replied v1 q stBusy 0 [] (s.ixProve q)) ∧
      (Proven s q c → s.controller = none → ∃ w, FlashLit s w [.ix] ∧ w.session q.sid = some y.controls ∧ (∀ j, j ≠ q.sid → w.session j = s.session j) ∧
        Replied w q stOk 0 (be 1 1 ++ be 3 0) (s.ixProve q)) ∧
      (∀ o, Proven s q c → s.controller = some o → y.takeover = true → o.id ≠ q.sid →
        ∃ w, FlashLit s w [.ix] ∧ w.session o.id = none ∧ w.session q.sid = some y.controls ∧ Replied w q stOk 0 (be 1 1 ++ be 3 0) (s.ixProve q))) := by
  obtain ⟨-, -, x, hx, hid, -, hep, hminor⟩ := id h
  obtain rfl : x = y := by
    rw [hx] at hy
    injection hy
  have hlit : FlashLit s s.flashOn [.ix] := flashLit_mono s.flashOn_lit (List.nil_subset _)
  have hfy : s.flashOn.session q.sid = some x := (session_flashOn s _).trans hx
  refine ⟨fun hc => ?_, fun c hc => ?_⟩
  · rw [ixProve_none hx hc]
    cases x.control <;> exact h.replied _ _ _
  · obtain ⟨hdenied, hbusy, hgranted⟩ := ixProve_some hx hc
    refine ⟨fun hbad => ?_, fun hgood hother htake => ?_, fun hgood hnone => ?_, fun o hgood ho htake hne => ?_⟩
    · rw [hdenied hbad]
      exact ⟨s.flashOn, _, s.flashOn_lit, h.flashOn.replied _ _ _, rfl, State.session_closeSession_self _ _⟩
    · rw [hbusy hgood hother htake]
      exact ⟨s.flashOn, s.flashOn_lit, h.flashOn.replied _ _ _⟩
    · rw [hgranted hgood (.inl hnone), grantControl_free hfy ((controller_flashOn s).trans hnone)]
      have hself : (s.flashOn.setSession x.controls).session q.sid = some x.controls := by
        rw [State.session_setSession, Session.controls_id, if_pos hid.symm, hfy]
        rfl
      refine ⟨s.flashOn.setSession x.controls, flashLit_trans_only hlit (only_setSession _ _) (by decide) (by decide), hself, fun j hj => ?_, ixReply_replied hself hep hminor _ _ _⟩
      rw [State.session_setSession, if_neg (fun hj' => hj (hj'.trans hid)), session_flashOn]
    · rw [hgranted hgood (.inr htake), grantControl_taken hfy ((controller_flashOn s).trans ho) hne]
      have hself : ((s.flashOn.closeSession o.id).setSession x.controls).session q.sid = some x.controls := by
        rw [State.session_setSession, Session.controls_id, if_pos hid.symm, State.session_closeSession _ hne.symm, hfy]
        rfl
      refine ⟨(s.flashOn.closeSession o.id).setSession x.controls, 
        flashLit_trans_only hlit ((only_closeSession s.flashOn o.id).trans (only_setSession (s.flashOn.closeSession o.id) x.controls)) (by decide) (by decide), ?_, hself,
        ixReply_replied hself hep hminor _ _ _⟩
      have hother : o.id ≠ x.controls.id := fun hj => hne (hj.trans hid)
      exact (State.session_setSession _ _ _).trans ((if_neg hother).trans (State.session_closeSession_self s.flashOn o.id))

theorem noHeld_flashOn (h : NoHeld sid s) : NoHeld sid s.flashOn := h.of_ix s.flashOn_ix

theorem noHeld_ixProve (q : Req) (h : NoHeld sid s) : NoHeld sid (s.ixProve q) := by
  have hf := noHeld_flashOn h
  unfold State.ixProve
  split
  · exact h
  · split
    · exact noHeld_ixReply _ _ _ _ h
    · dsimp only
      split
      · exact noHeld_closeSession _ (noHeld_ixReply _ _ _ _ hf)
      split
      · exact noHeld_ixReply _ _ _ _ hf
      · exact noHeld_ixReply _ _ _ _ (noHeld_grantControl hf)

/-! RELAY, and the queries. -/

theorem noHeld_sendMgmt (pkg : Nat) (b : List Byte) (h : NoHeld sid s) : NoHeld sid (s.sendMgmt pkg b) :=
  h.of_ix ((State.sendMgmt_ev pkg b (Ev.refl 77371252455350560865910792 s) (by rfl)).frame .ix rfl)

theorem ixRelay_spec (h : Serves s q) :
    ((4096 ≤ beAt q.p 0 2 → BadParam s q 0 (s.ixRelay q)) ∧
      (beAt q.p 0 2 < 4096 → ∃ w, Waits s q (.relay (beAt q.p 0 2) (beAt q.p 10 4)) w ∧ s.ixRelay q = w.sendMgmt (beAt q.p 0 2) (q.p.drop 4))) ∧
    NoHeld q.sid (s.ixRelay q) := by
  unfold State.ixRelay
  dsimp only
  split
  · next hbig => exact ⟨⟨fun _ => h.badParam 0, fun hlt => by omega⟩, noHeld_badParam _ _ h.noHeld⟩
  · next hsmall => exact ⟨⟨fun hge => absurd hge hsmall, fun _ => ⟨_, h.waits _, rfl⟩⟩, noHeld_sendMgmt _ _ (noHeld_ixWait _ _ h.noHeld)⟩

/-- The registers of HEALTH. -/
def healthRegs : List Reg :=
  (List.range 32).map (fun r => (⟨.tnkBase, 0, 4 * r⟩ : Reg)) ++ [cmpReg 0, cmpReg 0x10, cmpReg 0x18, cmpReg 0x14, asyReg 8, lsmReg 0, ntyReg 0, wdgStat]

theorem healthRegs_plain : healthRegs.all plainRead = true := by decide

theorem ixHealth_spec (h : Serves s q) : RepliedRegs s q stOk 0 healthRegs (be 4 s.ix.dropped) (s.ixHealth q) ∧ NoHeld q.sid (s.ixHealth q) := by
  have hix : (s.ixReads healthRegs).1.ix = s.ix := ixReads_ix healthRegs_plain
  have hreply : s.ixHealth q = (s.ixReads healthRegs).1.ixReply q stOk 0 ((s.ixReads healthRegs).2 ++ be 4 (s.ixReads healthRegs).1.ix.dropped) := rfl
  rw [hreply, hix]
  exact ⟨h.repliedReads healthRegs_plain _ _ _, noHeld_ixReply _ _ _ _ (h.noHeld.of_ix hix)⟩

/-! Violation counters. -/

/-- The counts that VIOL_CLEAR clears, up to a place of the list. -/
theorem rf_cleared (gs : List Reg) (hreset : ∀ g ∈ gs, g.reset = 0) (s : State) (g : Reg) (hg : g.reset = 0) (h : g ∈ gs ∨ s.rf g 0 16 = 0) :
    (s.each gs (fun s g => s.rsetf g 0 16 0)).rf g 0 16 = 0 := by
  induction gs generalizing s with
  | nil => exact h.resolve_left List.not_mem_nil
  | cons a gs ih =>
    refine ih (fun b hb => hreset b (List.mem_cons_of_mem _ hb)) (s.rsetf a 0 16 0) ?_
    by_cases haddr : g.addr = a.addr
    · refine .inr ?_
      have hsame : (s.rsetf a 0 16 0).rget g = (s.rsetf a 0 16 0).rget a := by
        unfold State.rget
        rw [haddr, hg, hreset a List.mem_cons_self]
      unfold State.rf
      rw [hsame]
      exact State.rf_rsetf_self s a 0 16 0 (by decide)
    · rcases h with hmem | hzero
      · exact .inl ((List.mem_cons.mp hmem).resolve_left (fun heq => haddr (congrArg Reg.addr heq)))
      · exact .inr ((State.rf_of_rget (State.rget_rsetf_ne s a g 0 16 0 haddr) 0 16).trans hzero)

theorem violOf_reset (b : Blk) (i : Nat) : (violOf b i).reset = 0 := by cases b <;> rfl

/-- Every counter of the list is some block's. -/
theorem forall_violAll {Q : Reg → Prop} (h : ∀ b i, Q (violOf b i)) : ∀ g ∈ violAll, Q g := by
  have hregion (r : Nat) : ∀ g ∈ [violOf .tnk r] ++ (List.range 4).map (fun b => violOf .sbank (r * 4 + b)) ++
      (List.range 8).map (fun h => violOf .hop (r * 8 + h)) ++ [violOf .rreq r, violOf .mesh r] ++
      (List.range 24).map (fun p => violOf .pin (r * 24 + p)) ++ (List.range 34).map (fun m => violOf .bm (r * 34 + m)), Q g := by
    simp only [List.forall_mem_append, List.forall_mem_cons, List.forall_mem_map]
    simp [h]
  intro g hg
  simp only [violAll, List.mem_append] at hg
  rcases hg with ((hg | hg) | hg) | hg
  · revert g
    simp [h]
  · obtain ⟨i, -, rfl⟩ := List.mem_map.mp hg
    exact h _ _
  · revert g
    simp [h]
  · obtain ⟨r, -, hr⟩ := List.mem_flatMap.mp hg
    exact hregion r g (by simpa only [List.mem_append] using hr)

theorem violAll_reset : ∀ g ∈ violAll, g.reset = 0 := forall_violAll violOf_reset

theorem State.each_mem_inv {α : Type} {P : State → Prop} {f : State → α → State} {l : List α} {s : State} (h : P s) (hf : ∀ u, ∀ a ∈ l, P u → P (f u a)) : P (s.each l f) := by
  induction l generalizing s with
  | nil => exact h
  | cons a l ih => exact ih (hf s a List.mem_cons_self h) fun u b hb => hf u b (List.mem_cons_of_mem _ hb)

theorem cleared_frame (s : State) : KeepRegs violAll s (s.each violAll (fun s g => s.rsetf g 0 16 0)) ∧ Only [.regs] s (s.each violAll (fun s g => s.rsetf g 0 16 0)) := by
  refine State.each_mem_inv (P := fun u => KeepRegs violAll s u ∧ Only [.regs] s u) ⟨.refl _ _, .refl _ _⟩ fun u g hg ⟨hkeep, honly⟩ => ?_
  exact ⟨hkeep.rsetf 0 16 0 hg, honly.trans (State.rsetf_ev g 0 16 0 (Ev.refl (fieldMask [.regs]) u) (by rfl)).only_mask⟩

theorem ixViolClear_spec (h : Serves s q) :
    (∃ w, (∀ g ∈ violAll, w.rf g 0 16 = 0) ∧ KeepRegs violAll s w ∧ Only [.regs] s w ∧ Replied w q stOk 0 [] (s.ixViolClear q)) ∧ NoHeld q.sid (s.ixViolClear q) := by
  obtain ⟨hkeep, honly⟩ := cleared_frame s
  have hix := honly .ix (by decide)
  exact ⟨⟨_, fun g hg => rf_cleared violAll violAll_reset s g (violAll_reset g hg) (.inl hg), hkeep, honly, (h.of_ix hix).replied _ _ _⟩,
    noHeld_ixReply _ _ _ _ (h.noHeld.of_ix hix)⟩

/-! CLOSE. -/

theorem ixClose_spec (h : Serves s q) :
    (∃ w, Replied s q stOk 0 [] w ∧ (s.ixClose q).session q.sid = none ∧ (∀ j, j ≠ q.sid → (s.ixClose q).session j = w.session j) ∧
      (s.ixClose q).ix.push = (if (w.ix.push.map (·.session)) = some q.sid then none else w.ix.push) ∧ Only [.ix] w (s.ixClose q)) ∧ NoHeld q.sid (s.ixClose q) := by
  refine ⟨⟨s.ixReply q stOk 0 [], h.replied _ _ _, State.session_closeSession_self _ _, fun j hj => State.session_closeSession _ hj, ?_, only_closeSession _ _⟩,
    noHeld_closeSession _ (noHeld_ixReply _ _ _ _ h.noHeld)⟩
  show (match (s.ixReply q stOk 0 []).ix.push with | some p => if p.session = q.sid then none else some p | none => none) = _
  cases (s.ixReply q stOk 0 []).ix.push with
  | none => rfl
  | some p => simp

end Machine

open Machine

/-- A reply alone: what the table says of it, and that it leaves nothing to run. -/
theorem reply_row {s : State} {q : Req} (h : Serves s q) (st det : Nat) (res : List Byte) :
    Replied s q st det res (s.ixReply q st det res) ∧ NoHeld q.sid (s.ixReply q st det res) :=
  ⟨h.replied st det res, noHeld_ixReply _ _ _ _ h.noHeld⟩

/-- Settles O55: each opcode's row follows from its operation (`row_of_perform`, `row0_of_perform`). -/
theorem sessionsAndQueries : Obligations.SessionsAndQueries := by
  unfold Obligations.SessionsAndQueries
  refine ⟨?_, ?_, ?_, ?_, ?_, ?_, ?_, ?_, ?_, ?_, ?_, ?_⟩
  · exact row0_of_perform State.ixHello (fun _ _ => rfl) (by decide) rfl rfl (by decide) (fun _ _ _ _ _ _ => rfl) fun v q h _ => h v rfl _ _ _
  · exact row_of_perform State.ixHello (fun _ _ => rfl) rfl (fun n => by show (n == 0) = true ↔ _; simp) (fun _ _ _ _ _ _ => rfl)
      fun v q h _ _ => reply_row h _ _ _
  · exact row0_of_perform State.ixOpen (fun _ _ => rfl) (by decide) rfl rfl (by decide) (fun _ _ _ _ _ _ => rfl) fun v q h _ => ixOpen_opens h
  · exact row_of_perform State.ixOpen (fun _ _ => rfl) rfl (fun n => by simp [lenOk, ixLens]) (fun _ _ _ _ _ _ => rfl)
      fun v q h _ _ => ⟨ixOpen_opens h.answers, noHeld_ixOpen q h.noHeld⟩
  · exact row_of_perform State.ixProve (fun _ _ => rfl) rfl (fun n => by simp [lenOk, ixLens]) (fun _ _ _ _ _ _ => rfl)
      fun v q h _ _ => ⟨fun y hy => ixProve_proves h hy, noHeld_ixProve q h.noHeld⟩
  · exact row_of_perform State.ixClose (fun _ _ => rfl) rfl (fun n => by show (n == 0) = true ↔ _; simp) (fun _ _ _ _ _ _ => rfl)
      fun v q h _ _ => ixClose_spec h
  · exact row_of_perform State.ixKeepalive (fun _ _ => rfl) rfl (fun n => by show (n == 0) = true ↔ _; simp) (fun _ _ _ _ _ _ => rfl)
      fun v q h _ _ => reply_row h _ _ _
  · exact row_of_perform State.ixRelay (fun _ _ => rfl) rfl (fun n => by simp [lenOk, ixLens]) (fun _ _ _ _ _ _ => rfl)
      fun v q h _ _ => ixRelay_spec h
  · exact row_of_perform State.ixIdentity (fun _ _ => rfl) rfl (fun n => by show (n == 0) = true ↔ _; simp) (fun _ _ _ _ _ _ => rfl)
      fun v q h _ _ => reply_row h _ _ _
  · exact row_of_perform State.ixHealth (fun _ _ => rfl) rfl (fun n => by show (n == 0) = true ↔ _; simp) (fun _ _ _ _ _ _ => rfl)
      fun v q h _ _ => ixHealth_spec h
  · exact row_of_perform State.ixViolRead (fun _ _ => rfl) rfl (fun n => by simp [lenOk, ixLens]) (fun _ _ _ _ _ _ => rfl)
      fun v q h _ _ => reply_row h _ _ _
  · exact row_of_perform State.ixViolClear (fun _ _ => rfl) rfl (fun n => by show (n == 0) = true ↔ _; simp) (fun _ _ _ _ _ _ => rfl)
      fun v q h _ _ => ixViolClear_spec h

end Sys2Proof
end

section
/-! O43: the Assayer's slices. What lighting a bank, marking an element and ending a slice leave of the Assayer's registers and of its slices. -/

namespace Sys2Proof

open Machine

namespace Machine

variable {s t u : State}

/-! The Assayer's registers. -/

/-- The Assayer's registers read as before. -/
def AsyKept (s u : State) : Prop := ∀ off, off < 0x1000 → u.rget (asyReg off) = s.rget (asyReg off)

theorem asyReg_addr (off : Nat) : (asyReg off).addr = 0x20060000 + off := rfl

theorem lmpDom_addr (n : Nat) : (lmpDom n).addr = 0x20011000 + 4 * n := by
  show 0x20010000 + (0x1000 + 4 * n) = _
  omega

/-- A register outside the Assayer's block. -/
def Outside (g : Reg) : Prop := g.addr < 0x20060000 ∨ 0x20061000 ≤ g.addr

theorem outside_lmpDom {n : Nat} (h : n < 748) : Outside (lmpDom n) := by
  unfold Outside
  rw [lmpDom_addr]
  omega

theorem outside_tnk (r off : Nat) : Outside ⟨.tnk, r, off⟩ := by
  unfold Outside
  simp only [Reg.addr, Blk.base, winBase]
  omega

theorem AsyKept.refl (s : State) : AsyKept s s := fun _ _ => rfl

theorem AsyKept.trans (h : AsyKept s t) (k : AsyKept t u) : AsyKept s u := fun off hoff => (k off hoff).trans (h off hoff)

theorem AsyKept.of_regs (h : u.regs = s.regs) : AsyKept s u := fun _ _ => State.rget_of_regs h _

theorem AsyKept.then_regs (h : AsyKept s t) (hr : u.regs = t.regs) : AsyKept s u := h.trans (.of_regs hr)

theorem AsyKept.rput (h : AsyKept s t) {g : Reg} (hg : Outside g) (v : RegVal) : AsyKept s (t.rput g v) := by
  refine h.trans fun off hoff => State.rget_rput_ne _ _ _ _ ?_
  rw [asyReg_addr]
  unfold Outside at hg
  omega

theorem AsyKept.each {α : Type} {f : State → α → State} (hf : ∀ u a, AsyKept u (f u a)) (l : List α) (s : State) : AsyKept s (s.each l f) := by
  induction l generalizing s with
  | nil => exact .refl s
  | cons a l ih => exact (hf s a).trans (ih (f s a))

theorem AsyKept.rf (h : AsyKept s u) {off : Nat} (hoff : off < 0x1000) (lo len : Nat) : u.rf (asyReg off) lo len = s.rf (asyReg off) lo len :=
  State.rf_of_rget (h off hoff) lo len

theorem AsyKept.rb (h : AsyKept s u) {off : Nat} (hoff : off < 0x1000) (i : Nat) : u.rb (asyReg off) i = s.rb (asyReg off) i :=
  State.rb_of_rget (h off hoff) i

/-! Domains of scratch banks and I/O banks. -/

theorem bankReg_outside {n : Nat} (h : n < 24) (off : Nat) (hoff : off < 0x40) : Outside (bankReg n off) := by
  unfold Outside
  rw [bankReg_addr]
  omega

theorem groupStop_asy {n : Nat} (h : n / 2 < 24) (s : State) : AsyKept s (s.groupStop n) :=
  AsyKept.rput (.of_regs rfl) (bankReg_outside h 0x1C (by decide)) _

theorem ioChange_asy {n : Nat} (h : n < 24) (s : State) (st : Nat) : AsyKept s (s.ioChange n st) := by
  unfold State.ioChange
  split
  · refine ((AsyKept.refl s).trans (groupStop_asy (n := 2 * n) (by omega) s)).trans (groupStop_asy (n := 2 * n + 1) (by omega) _)
  · exact .of_regs (State.padsFollow_frame State.regs (fun _ _ => rfl) s _)

theorem bankChange_regs (s : State) (b was st : Nat) : (s.bankChange b was st).regs = s.regs :=
  (State.bankChange_ev b was st (Ev.refl 309485009821345094494584832 s) (by rfl)).frame .regs rfl

/-- A scratch bank, an I/O bank, or a die's spine and mesh that is lit. -/
def LightDom (n st : Nat) : Prop := (544 ≤ n ∧ n < 696) ∨ (728 ≤ n ∧ n < 732 ∧ st ≠ 2)

theorem domApply_asy {n st : Nat} (h : LightDom n st) (s : State) : AsyKept s (s.domApply n st) := by
  unfold LightDom at h
  let s1 := (s.rsetf (lmpDom n) 30 2 st).rsetb (lmpDom n) 25 (s.emulates && decide (st ≠ 0))
  have hout : Outside (lmpDom n) := outside_lmpDom (by omega)
  have h1 : AsyKept s s1 := ((AsyKept.refl s).rput hout _).rput hout _
  show AsyKept s (if s.dom n = st then s1 else if n < 544 then s1.cluChange n (s.dom n) st else if n < 672 then s1.bankChange (n - 544) (s.dom n) st
    else if n < 696 then s1.ioChange (n - 672) st else if n < 728 then s1.linkChange (n - 696) (s.dom n) st
    else if n < 732 then (if st = 2 then s1.dieCold (n - 728) else s1) else s1.baseChange (n - 732) st)
  by_cases hsame : s.dom n = st
  · rw [if_pos hsame]
    exact h1
  rw [if_neg hsame, if_neg (by omega)]
  by_cases hbank : n < 672
  · rw [if_pos hbank]
    exact h1.then_regs (bankChange_regs s1 _ _ _)
  rw [if_neg hbank]
  by_cases hio : n < 696
  · rw [if_pos hio]
    exact h1.trans (ioChange_asy (by omega) s1 st)
  · rw [if_neg hio, if_neg (by omega), if_pos (by omega), if_neg (by omega)]
    exact h1

theorem lightOne_asy {n : Nat} (h : LightDom n 0) (s : State) : AsyKept s (s.lightOne n) := by
  have hout : Outside (lmpDom n) := outside_lmpDom (by unfold LightDom at h; omega)
  unfold State.lightOne
  split
  · exact .refl s
  · have h1 : AsyKept s ((s.setDomSt n {}).rsetb (lmpDom n) 26 false) := AsyKept.rput (t := s.setDomSt n {}) (.of_regs rfl) hout _
    exact h1.trans (domApply_asy h _)

theorem light_asy {n : Nat} (h : 544 ≤ n) (h' : n < 696) (s : State) : AsyKept s (s.light n) := by
  have hone (s : State) : AsyKept s (s.lightOne n) := lightOne_asy (.inl ⟨h, h'⟩) s
  unfold State.light
  split
  · exact .refl s
  · split
    · next m hm =>
      unfold meshOf at hm
      rw [if_neg (by omega)] at hm
      split at hm
      · injection hm with hm
        exact (lightOne_asy (.inr ⟨by omega, by omega, by decide⟩) s).trans (hone _)
      · cases hm
    · exact hone s

theorem light_only (s : State) (n : Nat) {f : Field} (hf : Nat.testBit 464245223606339083622670344 f.bit = false) : f.same s (s.light n) :=
  (State.light_ev n (Ev.refl 464245223606339083622670344 s) (by rfl)).frame f hf

/-! Which elements a slice may run on. -/

theorem dom_rput_ne (s : State) {g : Reg} (v : RegVal) {n : Nat} (h : (lmpDom n).addr ≠ g.addr) : (s.rput g v).dom n = s.dom n :=
  State.rf_rput_ne _ _ _ _ _ _ h

theorem asyReg_ne_lmpDom {n off : Nat} (h : n < 748) (_hoff : off < 0x1000) : (lmpDom n).addr ≠ (asyReg off).addr := by
  rw [lmpDom_addr, asyReg_addr]
  omega

theorem asyReg_ne_tnk (r off off' : Nat) (hoff : off' < 0x1000) : (⟨.tnk, r, off⟩ : Reg).addr ≠ (asyReg off').addr := by
  rw [asyReg_addr]
  simp only [Reg.addr, Blk.base, winBase]
  omega

theorem logicalOf_rput_asy (s : State) {off : Nat} (hoff : off < 0x1000) (v : RegVal) (g : Nat) : (s.rput (asyReg off) v).logicalOf g = s.logicalOf g := by
  have hphys (lc : Nat) : (s.rput (asyReg off) v).physOf (g / 17) lc = s.physOf (g / 17) lc :=
    State.rf_rput_ne _ _ _ _ _ _ (asyReg_ne_tnk _ _ _ hoff)
  unfold State.logicalOf
  simp only [hphys]

theorem sliceEligible_rput_asy (s : State) {off : Nat} (hoff : off < 0x1000) (v : RegVal) (kind index : Nat) :
    (s.rput (asyReg off) v).sliceEligible kind index = s.sliceEligible kind index := by
  unfold State.sliceEligible
  by_cases hlt : index < sliceCount kind
  swap
  · rw [decide_eq_false hlt, Bool.false_and, Bool.false_and]
  congr 1
  match kind with
  | 0 =>
    have hdom : (s.rput (asyReg off) v).cluLit index = s.cluLit index :=
      congrArg (fun n => decide (n = 0)) (dom_rput_ne s v (asyReg_ne_lmpDom (by simp only [sliceCount] at hlt; omega) hoff))
    rw [hdom, logicalOf_rput_asy s hoff]
    rfl
  | 1 =>
    have hne : (sb index 0).addr ≠ (asyReg off).addr := by
      rw [sb_addr, asyReg_addr]
      omega
    simp only [State.rf_rput_ne _ _ _ _ _ _ hne]
  | 2 => rfl
  | 3 =>
    simp only [sliceCount] at hlt
    have hstate : (s.rput (asyReg off) v).lstate index = s.lstate index :=
      State.rf_rput_ne _ _ _ _ _ _ (by rw [chl_addr, asyReg_addr]; omega)
    simp only [hstate, dom_rput_ne s v (asyReg_ne_lmpDom (n := 696 + index) (by omega) hoff)]
  | n + 4 => rfl

theorem sliceRuns_rput_asy (s : State) (v : RegVal) (kind : Nat) : (s.rput (asyReg 4) v).sliceRuns kind = s.sliceRuns kind := by
  unfold State.sliceRuns
  rw [State.rb_rput_ne _ _ _ _ _ (by decide)]

/-! A slice taken on. -/

theorem testBegin_leaves (s : State) (kind index : Nat) : (s.testBegin kind index).regs = s.regs ∧ (s.testBegin kind index).slices = s.slices ∧ (s.testBegin kind index).sweep = s.sweep ∧
    Only [.banks] s (s.testBegin kind index) ∧ (kind = 1 ∨ kind = 2 → ((s.testBegin kind index).bank index).testPos = 0 ∧ ((s.testBegin kind index).bank index).testBad = 0) := by
  have honly : Only [.banks] s (s.testBegin kind index) := (State.testBegin_ev kind index (Ev.refl (fieldMask [.banks]) s) (by rfl)).only_mask
  refine ⟨honly .regs (by decide), honly .slices (by decide), honly .sweep (by decide), honly, fun hbank => ?_⟩
  unfold State.testBegin
  rw [if_pos hbank, State.bank_setBank_same]
  exact ⟨rfl, rfl⟩

/-- A slice added to those asked for. -/
def State.addSlice (s : State) (x : Slice) : State := { s with slices := s.slices ++ [x], sliceEnded := if x.background then s.sliceEnded else false }

theorem only_addSlice (s : State) (x : Slice) : Only [.slices, .sliceEnded] s (s.addSlice x) := by
  intro f hf
  cases f
  case slices => exact absurd List.mem_cons_self hf
  case sliceEnded => exact absurd (List.mem_cons_of_mem _ List.mem_cons_self) hf
  all_goals rfl

/-- The bank that a slice needs, lit. -/
def State.sliceLit (s : State) (x : Slice) : State :=
  match x.kind with
  | 1 => s.light (bankDom x.index)
  | 2 => s
  | 4 => s.light (672 + x.index)
  | _ => s

theorem sliceStart_eq (s : State) (x : Slice) : s.sliceStart x = ((s.sliceLit x).addSlice x).testBegin x.kind x.index := by
  rfl

theorem sliceLit_leaves (s : State) {x : Slice} (h : x.index < sliceCount x.kind) : AsyKept s (s.sliceLit x) ∧ (s.sliceLit x).slices = s.slices ∧ (s.sliceLit x).sweep = s.sweep := by
  unfold State.sliceLit
  split
  · next hk =>
    rw [hk] at h
    simp only [sliceCount] at h
    exact ⟨light_asy (by unfold bankDom; omega) (by unfold bankDom; omega) s, light_only s _ (f := .slices) rfl, light_only s _ (f := .sweep) rfl⟩
  · exact ⟨.refl s, rfl, rfl⟩
  · next hk =>
    rw [hk] at h
    simp only [sliceCount] at h
    exact ⟨light_asy (by omega) (by omega) s, light_only s _ (f := .slices) rfl, light_only s _ (f := .sweep) rfl⟩
  · exact ⟨.refl s, rfl, rfl⟩

theorem sliceStart_leaves (s : State) {x : Slice} (h : x.index < sliceCount x.kind) :
    AsyKept s (s.sliceStart x) ∧ (s.sliceStart x).slices = s.slices ++ [x] ∧ (s.sliceStart x).sweep = s.sweep := by
  obtain ⟨hasy, hslices, hsweep⟩ := sliceLit_leaves s h
  have honly := only_addSlice (s.sliceLit x) x
  obtain ⟨hregs', hslices', hsweep', -⟩ := testBegin_leaves ((s.sliceLit x).addSlice x) x.kind x.index
  rw [sliceStart_eq]
  refine ⟨(hasy.then_regs (honly .regs (by decide))).then_regs hregs', ?_, hsweep'.trans ((honly .sweep (by decide)).trans hsweep)⟩
  rw [hslices', ← hslices]
  rfl

theorem sliceStart_quiet (s : State) {x : Slice} (h1 : x.kind ≠ 1) (h4 : x.kind ≠ 4) :
    (s.sliceStart x).regs = s.regs ∧ Only [.slices, .sliceEnded, .banks] s (s.sliceStart x) := by
  have hlit : s.sliceLit x = s := by
    unfold State.sliceLit
    split
    · next hk => exact absurd hk h1
    · rfl
    · next hk => exact absurd hk h4
    · rfl
  obtain ⟨hregs, -, -, hbanks, -⟩ := testBegin_leaves (s.addSlice x) x.kind x.index
  rw [sliceStart_eq, hlit]
  exact ⟨hregs, ((only_addSlice s x).mono (by simp)).trans (hbanks.mono (by simp))⟩

/-- ASY_REQ as a request leaves it. -/
def State.sliceAsked (s : State) (kind index : Nat) : State := s.rput (asyReg 4) (put 28 kind + put 0 index)

theorem toNat_resWord {res kind index : Nat} (hr : res < 4) (hk : kind < 8) (hi : index < 1024) :
    (put 30 res + put 27 kind + put 0 index).toNat = res * 2 ^ 30 + kind * 2 ^ 27 + index := by
  have hsum := toNat_add_put (toNat_add_put (toNat_put_mod 30 res) 27 kind) 0 index
  rw [Nat.pow_zero, Nat.mul_one] at hsum
  exact hsum.trans (Nat.mod_eq_of_lt (by omega))

theorem toNat_askWord {kind index : Nat} (hk : kind < 8) (hi : index < 1024) : (put 28 kind + put 0 index).toNat = kind * 2 ^ 28 + index := by
  have hsum := toNat_add_put (toNat_put_mod 28 kind) 0 index
  rw [Nat.pow_zero, Nat.mul_one] at hsum
  exact hsum.trans (Nat.mod_eq_of_lt (by omega))

theorem sliceAsked_fields (s : State) {kind index : Nat} (hk : kind < 8) (hi : index < 1024) :
    (s.sliceAsked kind index).rf (asyReg 4) 28 3 = kind ∧ (s.sliceAsked kind index).rf (asyReg 4) 0 10 = index := by
  unfold State.sliceAsked
  rw [State.rf_rput_same, State.rf_rput_same]
  unfold fld
  rw [toNat_askWord hk hi, Nat.shiftRight_eq_div_pow, Nat.shiftRight_eq_div_pow]
  omega

theorem keepRegs_sliceAsked (s : State) (kind index : Nat) : KeepRegs [asyReg 4] s (s.sliceAsked kind index) := (KeepRegs.refl _ s).rput _ List.mem_cons_self

theorem only_sliceAsked (s : State) (kind index : Nat) : Only [.regs] s (s.sliceAsked kind index) :=
  (rput_leaves s (asyReg 4) _).2

/-- A slice's request (R336, R344). -/
theorem sliceAsk_spec (s : State) {kind index : Nat} (hk : kind < 8) (hi : index < 1024) :
    let u := (s.sliceAsked kind index).sliceAsk kind index
    let asked : Prop := u.rf (asyReg 4) 28 3 = kind ∧ u.rf (asyReg 4) 0 10 = index
    (s.sliceEligible kind index = false → asked ∧ u.rf (asyReg 0x18) 0 16 = min 0xFFFF (s.rf (asyReg 0x18) 0 16 + 1) ∧ KeepRegs [asyReg 4, asyReg 0x18] s u ∧ Only [.regs] s u) ∧
    (s.sliceEligible kind index = true → s.sliceRuns kind = false → asked ∧ KeepRegs [asyReg 4] s u ∧ Only [.regs] s u) ∧
    (s.sliceEligible kind index = true → s.sliceRuns kind = true → asked ∧ u.slices = s.slices ++ [{ kind := kind, index := index }] ∧
      (kind ≠ 1 → kind ≠ 4 → KeepRegs [asyReg 4] s u ∧ Only [.regs, .slices, .sliceEnded, .banks] s u)) := by
  have hel := sliceEligible_rput_asy s (off := 4) (by decide) (put 28 kind + put 0 index) kind index
  have hrun := sliceRuns_rput_asy s (put 28 kind + put 0 index) kind
  have hkeep := keepRegs_sliceAsked s kind index
  have honly := only_sliceAsked s kind index
  obtain ⟨hfk, hfi⟩ := sliceAsked_fields s hk hi
  have hold : (s.sliceAsked kind index).rf (asyReg 0x18) 0 16 = s.rf (asyReg 0x18) 0 16 := State.rf_rput_ne _ _ _ _ _ _ (by decide)
  have hslices : (s.sliceAsked kind index).slices = s.slices := rfl
  change (s.sliceAsked kind index).sliceEligible kind index = _ at hel
  change (s.sliceAsked kind index).sliceRuns kind = _ at hrun
  dsimp only
  generalize s.sliceAsked kind index = v at hel hrun hkeep honly hfk hfi hold hslices ⊢
  unfold State.sliceAsk
  rw [hel, hrun]
  refine ⟨fun hno => ?_, fun hyes hno => ?_, fun hyes hruns => ?_⟩
  · rw [hno, if_pos (by decide)]
    obtain ⟨hcount, -, hregs, hframe⟩ := v.violAt_countsAt (asyReg 0x18)
    have h4 : (v.violAt (asyReg 0x18)).rget (asyReg 4) = v.rget (asyReg 4) := hregs _ (by simp; decide)
    exact ⟨⟨(State.rf_of_rget h4 28 3).trans hfk, (State.rf_of_rget h4 0 10).trans hfi⟩, hcount.trans (by rw [hold]),
      (hkeep.mono (by simp)).trans (hregs.mono (by simp)), honly.trans hframe⟩
  · rw [hyes, hno, if_neg (by decide), if_pos (by decide)]
    exact ⟨⟨hfk, hfi⟩, hkeep, honly⟩
  · have hlt : index < sliceCount kind := by
      unfold State.sliceEligible at hyes
      exact of_decide_eq_true (Bool.and_eq_true_iff.mp hyes).1
    rw [hyes, hruns, if_neg (by decide), if_neg (by decide)]
    let x : Slice := { kind := kind, index := index }
    obtain ⟨hasy, hnew, -⟩ := sliceStart_leaves v (x := x) hlt
    refine ⟨⟨(hasy.rf (by decide) 28 3).trans hfk, (hasy.rf (by omega) 0 10).trans hfi⟩, hnew.trans (by rw [hslices]), fun h1 h4 => ?_⟩
    obtain ⟨hregs, hframe⟩ := sliceStart_quiet v (x := x) h1 h4
    exact ⟨hkeep.then_regs hregs, (honly.mono (by simp)).trans (hframe.mono (by simp))⟩

end Machine
end Sys2Proof
end

section
/-! O43: the ends of the Assayer's slices, and its background sweep. -/

namespace Sys2Proof

open Machine

namespace Machine

variable {s t u v : State}

/-! What a slice's end shows. -/

/-- ASY_RES, ASY_SIG, the slices and the interrupt as the end of slice x with a result and a signature leaves them (R344). -/
def Shows (s : State) (x : Slice) (res : Nat) (sig : Word) (u : State) : Prop :=
  (u.rf (asyReg 0xC) 30 2 = res ∧ u.rf (asyReg 0xC) 27 3 = x.kind % 8 ∧ u.rf (asyReg 0xC) 0 10 = x.index % 1024 ∧
    u.slices = s.slices.filter (fun y => y != x) ∧ u.asyNews = true) ∧ u.rf (asyReg 0x10) 0 32 = sig.toNat

theorem Shows.of_kept {x : Slice} {res : Nat} {sig : Word} (h : Shows s x res sig t) (hres : u.rget (asyReg 0xC) = t.rget (asyReg 0xC)) (hsig : u.rget (asyReg 0x10) = t.rget (asyReg 0x10))
    (hslices : u.slices = t.slices) (hnews : u.asyNews = t.asyNews) : Shows s x res sig u := by
  obtain ⟨⟨h1, h2, h3, h4, h5⟩, h6⟩ := h
  exact ⟨⟨(State.rf_of_rget hres _ _).trans h1, (State.rf_of_rget hres _ _).trans h2, (State.rf_of_rget hres _ _).trans h3, hslices.trans h4, hnews.trans h5⟩, (State.rf_of_rget hsig _ _).trans h6⟩

theorem Shows.asyKept {x : Slice} {res : Nat} {sig : Word} (h : Shows s x res sig t) (hk : AsyKept t u) (hslices : u.slices = t.slices) (hnews : u.asyNews = t.asyNews) : Shows s x res sig u :=
  h.of_kept (hk _ (by decide)) (hk _ (by decide)) hslices hnews

theorem Shows.count {x : Slice} {res : Nat} {sig : Word} (h : Shows s x res sig t) (lo len : Nat) : Shows s x res sig (t.count (asyReg 0x14) lo len 1) :=
  h.of_kept (State.rget_count_ne _ _ _ _ _ _ (by decide)) (State.rget_count_ne _ _ _ _ _ _ (by decide)) rfl rfl

/-- The slice taken from those asked for, and the interrupt raised. -/
def State.dropSlice (s : State) (x : Slice) : State :=
  { s with slices := s.slices.filter (· != x), asyNews := true, sliceEnded := s.sliceEnded || (!x.background && x.confirm.isNone) }

theorem sliceOver_shows (s : State) {x : Slice} {res : Nat} (sig : Word) (hr : res < 4) (hk : x.kind < 8) (hi : x.index < 1024) :
    Shows s x res sig (s.sliceOver x res sig) ∧ KeepRegs [asyReg 0xC, asyReg 0x10] s (s.sliceOver x res sig) := by
  change Shows s x res sig (((s.dropSlice x).rput (asyReg 0xC) (put 30 res + put 27 x.kind + put 0 x.index)).rput (asyReg 0x10) (sig.setWidth 64)) ∧
    KeepRegs _ s (((s.dropSlice x).rput (asyReg 0xC) (put 30 res + put 27 x.kind + put 0 x.index)).rput (asyReg 0x10) (sig.setWidth 64))
  have hword := toNat_resWord hr hk hi
  have hres (lo len : Nat) : (((s.dropSlice x).rput (asyReg 0xC) (put 30 res + put 27 x.kind + put 0 x.index)).rput (asyReg 0x10) (sig.setWidth 64)).rf (asyReg 0xC) lo len =
      (res * 2 ^ 30 + x.kind * 2 ^ 27 + x.index) / 2 ^ lo % 2 ^ len := by
    rw [State.rf_rput_ne _ _ _ _ _ _ (by decide), State.rf_rput_same, fld, hword, Nat.shiftRight_eq_div_pow]
  refine ⟨⟨⟨?_, ?_, ?_, rfl, rfl⟩, ?_⟩, ?_⟩
  · rw [hres]
    omega
  · rw [hres]
    omega
  · rw [hres]
    omega
  · rw [State.rf_rput_same, fld, BitVec.toNat_setWidth, Nat.shiftRight_zero]
    omega
  · have hdrop : KeepRegs [asyReg 0xC, asyReg 0x10] s (s.dropSlice x) := .of_regs rfl
    exact (hdrop.rput _ List.mem_cons_self).rput _ (List.mem_cons_of_mem _ List.mem_cons_self)

theorem sliceLeaves_leaves (s : State) (kind index : Nat) : (s.sliceLeaves kind index).regs = s.regs ∧ (s.sliceLeaves kind index).slices = s.slices :=
  have h := State.sliceLeaves_ev kind index (Ev.refl 309485009821345375827673088 s) (by rfl)
  ⟨h.frame .regs rfl, h.frame .slices rfl⟩

/-- A slice over, its element left as R339 says. -/
def State.sliceDone (s : State) (x : Slice) (res : Nat) (sig : Word) : State := (s.sliceLeaves x.kind x.index).sliceOver x res sig

theorem sliceDone_shows (s : State) {x : Slice} {res : Nat} (sig : Word) (hr : res < 4) (hk : x.kind < 8) (hi : x.index < 1024) :
    Shows s x res sig (s.sliceDone x res sig) ∧ KeepRegs [asyReg 0xC, asyReg 0x10] s (s.sliceDone x res sig) := by
  obtain ⟨hregs, hslices⟩ := sliceLeaves_leaves s x.kind x.index
  obtain ⟨⟨⟨h1, h2, h3, h4, h5⟩, h6⟩, hkeep⟩ := sliceOver_shows (s.sliceLeaves x.kind x.index) sig hr hk hi
  exact ⟨⟨⟨h1, h2, h3, h4.trans (by rw [hslices]), h5⟩, h6⟩, KeepRegs.trans (.of_regs hregs) hkeep⟩

/-! A run that passes. -/

/-- A slice that passed: a pass after a failure is counted as transient. -/
def State.slicePassed (s : State) (x : Slice) (sig : Word) : State :=
  if x.again then (s.sliceDone x (b2n x.again) sig).count (asyReg 0x14) 0 16 1 else s.sliceDone x (b2n x.again) sig

theorem sliceRun_pass (s : State) (x : Slice) (sig : Word) :
    s.sliceRun x true sig = if x.confirm.isSome then (s.slicePassed x sig).spareBack x.index else s.slicePassed x sig := rfl

theorem slicePassed_shows (s : State) {x : Slice} (sig : Word) (hk : x.kind < 8) (hi : x.index < 1024) :
    Shows s x (if x.again then 1 else 0) sig (s.slicePassed x sig) ∧
      (s.slicePassed x sig).rf (asyReg 0x14) 0 16 = (if x.again then min 0xFFFF (s.rf (asyReg 0x14) 0 16 + 1) else s.rf (asyReg 0x14) 0 16) ∧
      (s.slicePassed x sig).rf (asyReg 0x14) 16 16 = s.rf (asyReg 0x14) 16 16 ∧ KeepRegs [asyReg 0xC, asyReg 0x10, asyReg 0x14] s (s.slicePassed x sig) := by
  obtain ⟨hshows, hkeep⟩ := sliceDone_shows s (x := x) (res := b2n x.again) sig (by cases x.again <;> decide) hk hi
  have hold : (s.sliceDone x (b2n x.again) sig).rget (asyReg 0x14) = s.rget (asyReg 0x14) := hkeep _ (by simp; decide)
  have hkeep' : KeepRegs [asyReg 0xC, asyReg 0x10, asyReg 0x14] s (s.sliceDone x (b2n x.again) sig) := hkeep.mono (by simp)
  unfold State.slicePassed
  cases hagain : x.again with
  | true =>
    rw [hagain] at hshows hold hkeep'
    rw [if_pos rfl, if_pos rfl, if_pos rfl]
    refine ⟨hshows.count _ _, (State.rf_count_self _ _ _ _ _ (by decide)).trans ?_, (State.rf_count_ne _ _ _ _ _ _ _ (by decide)).trans (State.rf_of_rget hold _ _), hkeep'.count _ _ _ (by simp)⟩
    rw [State.rf_of_rget hold]
    rfl
  | false =>
    rw [hagain] at hshows hold hkeep'
    rw [if_neg (by decide), if_neg (by decide), if_neg (by decide)]
    exact ⟨hshows, State.rf_of_rget hold _ _, State.rf_of_rget hold _ _, hkeep'⟩

/-- The confirmation slice of a retired cluster that passed gives the spare back (R329). -/
theorem spareBack_gives (s : State) (g : Nat) (hspare : s.spareSt (g / 17) = 2) (hhealth : s.health (g / 17) = 1) :
    let u := s.spareBack g
    u.health (g / 17) = 0 ∧ u.spareSt (g / 17) = 0 ∧ u.sparePhy (g / 17) = g % 17 ∧ u.clu g = {} ∧ AsyKept s u ∧ u.slices = s.slices ∧ u.asyNews = s.asyNews := by
  have hback : s.spareBack g = ((s.setClu g {}).setSpares (g / 17) 0 (g % 17)).setHealth (g / 17) 0 := if_pos ⟨hspare, hhealth⟩
  have hlt : g % 17 < 17 := Nat.mod_lt _ (by decide)
  have hfields (lo len : Nat) (h : lo + len ≤ 30) : (((s.setClu g {}).setSpares (g / 17) 0 (g % 17)).setHealth (g / 17) 0).rf (tnkHealth (g / 17)) lo len =
      fld (setFld (setFld (setFld (s.rget (tnkHealth (g / 17))) 27 3 0) 0 5 (g % 17)) 24 3 0) lo len :=
    (State.rf_rsetf_ne _ _ _ _ _ _ _ (.inl h)).trans (State.rf_rput_same _ _ _ _ _)
  dsimp only
  rw [hback]
  refine ⟨State.rf_rsetf_self _ _ _ _ _ (by decide), ?_, ?_, s.clu_setClu_same g {}, ?_, rfl, rfl⟩
  · refine (hfields 27 3 (by decide)).trans ?_
    rw [fld_setFld_ne _ _ _ _ _ _ (by decide), fld_setFld_ne _ _ _ _ _ _ (by decide), fld_setFld_self _ _ _ _ (by decide)]
    rfl
  · refine (hfields 0 5 (by decide)).trans ?_
    rw [fld_setFld_ne _ _ _ _ _ _ (by decide), fld_setFld_self _ _ _ _ (by decide)]
    omega
  · exact (AsyKept.rput (t := s.setClu g {}) (.of_regs rfl) (outside_tnk _ _) _).rput (outside_tnk _ _) _

/-! A run that fails. -/

/-- The slice noted as running for the second time. -/
def State.rerunSlice (s : State) (x : Slice) : State := { s with slices := s.slices.map (fun y => if y = x then { x with again := true } else y) }

theorem only_rerunSlice (s : State) (x : Slice) : Only [.slices] s (s.rerunSlice x) := by
  intro f hf
  cases f
  case slices => exact absurd List.mem_cons_self hf
  all_goals rfl

theorem asyKept_flashOn (s : State) : AsyKept s s.flashOn := fun off hoff =>
  s.flashOn_lit.2.2.1 _ (by simpa using asyReg_ne_lmpDom (n := 738) (by decide) hoff |>.symm)

theorem asyKept_putRecord (s : State) (id : Nat) (b : List Byte) : AsyKept s (s.putRecord id b) := by
  have hflash (contents : Store Byte) : AsyKept s { s with flash := contents } := .of_regs rfl
  exact (hflash _).trans (asyKept_flashOn _)

theorem asyKept_faultMark (s : State) (kind index : Nat) (set : Bool) : AsyKept s (s.faultMark kind index set) := asyKept_putRecord s 3 _

theorem outside_tnkAlarm : Outside tnkAlarm := by
  unfold Outside
  simp only [tnkAlarm, Reg.addr, Blk.base]
  omega

theorem asyKept_lasting (s : State) (r src phys cell outcome : Nat) : AsyKept s (s.lasting r src phys cell outcome) := by
  unfold State.lasting
  exact (((AsyKept.refl s).rput (outside_tnk _ _) _).rput (outside_tnk _ _) _).rput outside_tnkAlarm _

/-- A free spare that fails is marked so, and its region is no longer Celadon (log entry 172). -/
def State.spareFailed (s : State) (r phys : Nat) : State :=
  if s.sparePhy r = phys ∧ s.spareSt r = 0 then (if s.health r = 0 then (s.setSpare r 4).setHealth r 1 else s.setSpare r 4) else s

theorem asyKept_spareFailed (s : State) (r phys : Nat) : AsyKept s (s.spareFailed r phys) := by
  have hspare : AsyKept s (s.setSpare r 4) := (AsyKept.refl s).rput (outside_tnk r 4) _
  unfold State.spareFailed
  split
  · split
    · exact hspare.rput (outside_tnk r 4) _
    · exact hspare
  · exact .refl s

/-- What an element marked FAILED brings with it, besides its marks (R331, R338). -/
def State.failedElement (s : State) (kind index : Nat) : State :=
  match kind with
  | 0 => (s.lasting (index / 17) 11 (index % 17) 0 3).spareFailed (index / 17) (index % 17)
  | 1 => (s.sharedFault (index / 4) 11).domApply (bankDom index) 2
  | 2 => (s.sharedFault (index / 4) 11).domApply (bankDom index) 2
  | 3 => s
  | _ => s.domApply (672 + index) 2

theorem markFailed_eq (s : State) (kind index : Nat) :
    s.markFailed kind index = ((s.sticky (failBit kind index).1 (failBit kind index).2).faultMark kind index true).failedElement kind index := rfl

/-- The kinds of slice, with their elements (R336). -/
theorem kind_of_sliceCount {kind index : Nat} (h : index < sliceCount kind) :
    (kind = 0 ∧ index < 544) ∨ (kind = 1 ∧ index < 128) ∨ (kind = 2 ∧ index < 128) ∨ (kind = 3 ∧ index < 32) ∨ (kind = 4 ∧ index < 24) := by
  unfold sliceCount at h
  split at h
  all_goals omega

theorem asyKept_failedElement (s : State) {kind index : Nat} (h : index < sliceCount kind) : AsyKept s (s.failedElement kind index) := by
  have hbank (h : index < 128) : AsyKept s ((s.sharedFault (index / 4) 11).domApply (bankDom index) 2) :=
    (asyKept_lasting s _ _ _ _ _).trans (domApply_asy (.inl (by unfold bankDom; omega)) _)
  rcases kind_of_sliceCount h with ⟨rfl, h⟩ | ⟨rfl, h⟩ | ⟨rfl, h⟩ | ⟨rfl, h⟩ | ⟨rfl, h⟩
  · exact (asyKept_lasting s _ _ _ _ _).trans (asyKept_spareFailed _ _ _)
  · exact hbank h
  · exact hbank h
  · exact .refl s
  · exact domApply_asy (.inl (by omega)) s

/-- The FAILED marks of the elements lie past the Assayer's other registers. -/
theorem failBit_place {kind index : Nat} (h : index < sliceCount kind) :
    ∃ off, 0x100 ≤ off ∧ off < 0x1000 ∧ (failBit kind index).1 = asyReg off ∧ (failBit kind index).2 < 64 := by
  rcases kind_of_sliceCount h with ⟨rfl, h⟩ | ⟨rfl, h⟩ | ⟨rfl, h⟩ | ⟨rfl, h⟩ | ⟨rfl, h⟩
  · exact ⟨0x100 + 4 * (index / 32), by omega, by omega, rfl, (Nat.mod_lt index (by decide)).trans (by decide)⟩
  · exact ⟨0x180 + 4 * (index / 32), by omega, by omega, rfl, (Nat.mod_lt index (by decide)).trans (by decide)⟩
  · exact ⟨0x180 + 4 * (index / 32), by omega, by omega, rfl, (Nat.mod_lt index (by decide)).trans (by decide)⟩
  · exact ⟨0x190, by decide, by decide, rfl, by show index < 64; omega⟩
  · exact ⟨0x194, by decide, by decide, rfl, by show index < 64; omega⟩

theorem markFailed_marks (s : State) {kind index : Nat} (h : index < sliceCount kind) :
    let u := s.markFailed kind index
    u.rb (failBit kind index).1 (failBit kind index).2 = true ∧ (∀ off, off < 0x100 → u.rget (asyReg off) = s.rget (asyReg off)) ∧ u.slices = s.slices ∧ u.asyNews = s.asyNews := by
  obtain ⟨off, hlow, hhigh, hreg, hbit⟩ := failBit_place h
  have hev := State.markFailed_ev kind index (Ev.refl 464245223606902033576091656 s) (by rfl)
  have hkept : AsyKept (s.sticky (asyReg off) (failBit kind index).2) (s.markFailed kind index) := by
    rw [markFailed_eq, hreg]
    exact (asyKept_faultMark _ _ _ _).trans (asyKept_failedElement _ h)
  refine ⟨?_, fun off' hoff => ?_, hev.frame .slices rfl, hev.frame .asyNews rfl⟩
  · rw [hreg]
    exact (hkept.rb hhigh _).trans (State.rb_sticky_self _ _ _ hbit)
  · refine (hkept off' (by omega)).trans (State.rget_sticky_ne _ _ _ _ ?_)
    rw [asyReg_addr, asyReg_addr]
    omega

theorem sliceRun_fail (s : State) {x : Slice} (h : x.again = true) (sig : Word) :
    s.sliceRun x false sig = ((s.sliceDone x 2 sig).count (asyReg 0x14) 16 16 1).markFailed x.kind x.index := by
  unfold State.sliceRun
  rw [h]
  rfl

/-- A second failure of a slice is lasting (R338). -/
theorem sliceRun_lasting (s : State) {x : Slice} (sig : Word) (hk : x.kind < 8) (hi : x.index < 1024) (hcount : x.index < sliceCount x.kind) (hagain : x.again = true) :
    let u := s.sliceRun x false sig
    Shows s x 2 sig u ∧ u.rf (asyReg 0x14) 16 16 = min 0xFFFF (s.rf (asyReg 0x14) 16 16 + 1) ∧ u.rb (failBit x.kind x.index).1 (failBit x.kind x.index).2 = true := by
  obtain ⟨hshows, hkeep⟩ := sliceDone_shows s (x := x) (res := 2) sig (by decide) hk hi
  have hold : (s.sliceDone x 2 sig).rget (asyReg 0x14) = s.rget (asyReg 0x14) := hkeep _ (by simp; decide)
  obtain ⟨hmark, hlow, hslices, hnews⟩ := markFailed_marks ((s.sliceDone x 2 sig).count (asyReg 0x14) 16 16 1) hcount
  dsimp only
  rw [sliceRun_fail s hagain]
  refine ⟨(hshows.count 16 16).of_kept (hlow _ (by decide)) (hlow _ (by decide)) hslices hnews, ?_, hmark⟩
  refine (State.rf_of_rget (hlow 0x14 (by decide)) _ _).trans ((State.rf_count_self _ _ _ _ _ (by decide)).trans ?_)
  rw [State.rf_of_rget hold]
  rfl

/-- A first failure runs again (R337). -/
theorem sliceRun_again (s : State) {x : Slice} (sig : Word) (h : x.again = false) :
    let u := s.sliceRun x false sig
    u.slices = s.slices.map (fun y => if y = x then { x with again := true } else y) ∧ KeepRegs [] s u ∧ Only [.slices, .banks] s u ∧
      (x.kind = 1 ∨ x.kind = 2 → (u.bank x.index).testPos = 0 ∧ (u.bank x.index).testBad = 0) := by
  have hrun : s.sliceRun x false sig = (s.rerunSlice x).testBegin x.kind x.index := by
    unfold State.sliceRun
    rw [h]
    rfl
  obtain ⟨hregs, hslices, -, honly, hbank⟩ := testBegin_leaves (s.rerunSlice x) x.kind x.index
  dsimp only
  rw [hrun]
  exact ⟨hslices, .of_regs hregs, ((only_rerunSlice s x).mono (by simp)).trans (honly.mono (by simp)), hbank⟩

/-! The ends of runs. -/

theorem running_of_runningOn {kind index : Nat} {x : Slice} (h : s.runningOn kind index = some x) : x.kind = kind ∧ x.index = index := by
  have hx := List.find?_some h
  simpa only [Bool.and_eq_true, beq_iff_eq] using hx

theorem sliceEnd_none {kind index : Nat} (sig : Word) (late : Bool) (h : s.runningOn kind index = none) : s.sliceEnd kind index sig late = s := by
  unfold State.sliceEnd
  rw [h]

/-- The end of a run where the bank's round is not the slice's own. -/
theorem sliceEnd_some {kind index : Nat} (sig : Word) (late : Bool) {x : Slice} (h : s.runningOn kind index = some x)
    (hcur : kind = 1 ∨ kind = 2 → ((s.bank index).cur.map (·.who)) ≠ some .slice) :
    s.sliceEnd kind index sig late =
      if kind = 1 ∧ s.rf (sb index 0) 29 3 ≠ 0 then (s.sliceOver x 3 (s.freeNow.setWidth 32)).bumpFree
      else if !late && s.testLeft kind index then s
      else s.sliceRun x (!late && s.sliceSig kind index sig == (if kind = 2 then 0 else Config.sliceRef kind)) (s.sliceSig kind index sig) := by
  have hover : (if kind = 1 ∨ kind = 2 then s.maintOver index else s) = s := by
    split
    · next hbank => exact if_neg (hcur hbank)
    · rfl
  unfold State.sliceEnd
  rw [h]
  dsimp only
  rw [hover]

/-- A background slice whose spare a swap needs is abandoned (R339). -/
theorem sliceDrop_needed {g : Nat} {x : Slice} (hx : s.runningOn 0 g = some x) (hg : g < 544) (hback : x.background = true) (hphy : s.sparePhy (g / 17) = g % 17)
    (hneed : (s.swapOf (g / 17)).isSome = true ∨ s.spareSt (g / 17) = 1 ∨ s.spareSt (g / 17) = 3) :
    let u := s.sliceDrop g
    u.slices = s.slices.filter (fun y => y != x) ∧ u.rf (asyReg 0xC) 30 2 = 3 ∧ u.rf (asyReg 0xC) 27 3 = 0 ∧ u.rf (asyReg 0xC) 0 10 = g ∧ u.rget (asyReg 0x14) = s.rget (asyReg 0x14) := by
  obtain ⟨hkind, hindex⟩ := running_of_runningOn hx
  have hdrop : s.sliceDrop g = ((s.sliceLeaves 0 g).sliceOver x 3 (s.freeNow.setWidth 32)).bumpFree := by
    unfold State.sliceDrop
    rw [hx]
    refine if_pos ?_
    simpa [hback, hphy, or_assoc] using hneed
  obtain ⟨⟨⟨hres, hk, hi, hslices, -⟩, -⟩, hkeep⟩ := sliceDone_shows s (x := x) (res := 3) (s.freeNow.setWidth 32) (by decide) (by omega) (by omega)
  unfold State.sliceDone at hres hk hi hslices hkeep
  rw [hkind, hindex] at hres hk hi hslices hkeep
  dsimp only
  rw [hdrop]
  exact ⟨hslices, hres, hk, hi.trans (by omega), hkeep _ (by simp; decide)⟩

theorem sliceDrop_other {g : Nat} (h : ∀ x, s.runningOn 0 g = some x → x.background = false ∨
    ¬ (s.sparePhy (g / 17) = g % 17 ∧ ((s.swapOf (g / 17)).isSome = true ∨ s.spareSt (g / 17) = 1 ∨ s.spareSt (g / 17) = 3))) : s.sliceDrop g = s := by
  unfold State.sliceDrop
  split
  · rfl
  · next x hx =>
    refine if_neg ?_
    rcases h x hx with hback | hneed
    · simp [hback]
    · simp only [Bool.and_eq_true, Bool.or_eq_true, beq_iff_eq, or_assoc]
      exact fun hall => hneed ⟨hall.1.2, hall.2⟩

/-! The background sweep. -/

/-- The element of the sweep k places on. -/
def State.sweepAt (s : State) (k : Nat) : Nat × Nat := nth (0, 0) sweepList ((s.sweep + k) % sweepList.length)

/-- The first element of the sweep that may take a slice (R340). -/
def State.sweepNext (s : State) : Option Nat :=
  ((List.range sweepList.length).map (fun i => (s.sweep + i) % sweepList.length)).find? (fun i => s.sweepable (nth (0, 0) sweepList i))

theorem find?_range_map_none {n : Nat} {f : Nat → Nat} {p : Nat → Bool} (h : ∀ k < n, p (f k) = false) : ((List.range n).map f).find? p = none := by
  rw [List.find?_map, List.find?_eq_none.mpr, Option.map_none]
  exact fun k hk => Bool.not_eq_true _ ▸ h k (List.mem_range.mp hk)

theorem find?_range_map_some {n k : Nat} {f : Nat → Nat} {p : Nat → Bool} (hk : k < n) (hyes : p (f k) = true) (hno : ∀ i < k, p (f i) = false) :
    ((List.range n).map f).find? p = some (f k) := by
  rw [List.find?_map, List.find?_range_eq_some (p := p ∘ f) |>.mpr ⟨hyes, List.mem_range.mpr hk, fun i hi => by rw [Function.comp_apply, hno i hi]; rfl⟩, Option.map_some]

theorem sweepNext_none (h : ∀ k < sweepList.length, s.sweepable (s.sweepAt k) = false) : s.sweepNext = none := find?_range_map_none h

theorem sweepNext_some {k : Nat} (hk : k < sweepList.length) (hyes : s.sweepable (s.sweepAt k) = true) (hno : ∀ i < k, s.sweepable (s.sweepAt i) = false) :
    s.sweepNext = some ((s.sweep + k) % sweepList.length) := by
  unfold State.sweepAt at hyes hno
  unfold State.sweepNext
  generalize sweepList.length = n at hk hyes hno ⊢
  exact find?_range_map_some (f := fun i => (s.sweep + i) % n) (p := fun i => s.sweepable (nth (0, 0) sweepList i)) hk hyes hno

/-- The sweep moved on. -/
def State.sweepTo (s : State) (n : Nat) : State := { s with sweep := n }

/-- The sweep moved on, and a background slice taken on. -/
def State.sweepStart (s : State) (n : Nat) (e : Nat × Nat) : State := (s.sweepTo n).sliceStart { kind := e.1, index := e.2, background := true }

theorem sweepStart_starts (s : State) (n : Nat) {e : Nat × Nat} (h : s.sweepable e = true) :
    (s.sweepStart n e).slices = s.slices ++ [{ kind := e.1, index := e.2, background := true }] ∧ (s.sweepStart n e).sweep = n := by
  have helig : e.2 < sliceCount e.1 := by
    unfold State.sweepable State.sliceEligible at h
    simp only [Bool.and_eq_true, decide_eq_true_eq] at h
    exact h.1.1.1.1.1.1
  exact (sliceStart_leaves (s.sweepTo n) (x := { kind := e.1, index := e.2, background := true }) helig).2

theorem exec_backgroundSlice_off (h : s.rb (asyReg 0) 30 = false ∨ 16 ≤ s.running.length) : exec .backgroundSlice s = .next s := by
  change execBackgroundSlice s = _
  unfold execBackgroundSlice
  exact if_pos (by simpa using h)

theorem exec_backgroundSlice_none (h : s.sweepNext = none) : exec .backgroundSlice s = .next s := by
  change execBackgroundSlice s = _
  unfold State.sweepNext at h
  unfold execBackgroundSlice
  dsimp only
  rw [h]
  split
  · rfl
  · rfl

theorem exec_backgroundSlice_some {n : Nat} (hen : s.rb (asyReg 0) 30 = true) (hlt : s.running.length < 16) (h : s.sweepNext = some n) :
    exec .backgroundSlice s = .next (s.sweepStart ((n + 1) % sweepList.length) (nth (0, 0) sweepList n)) := by
  change execBackgroundSlice s = _
  unfold State.sweepNext at h
  unfold execBackgroundSlice
  dsimp only
  rw [h, if_neg (by simpa [hen] using hlt)]
  rfl

end Machine

/-- Settles O43: a slice's request, its runs and its ends, and the background sweep. -/
theorem assayerSlices : Obligations.AssayerSlices := by
  unfold Obligations.AssayerSlices
  refine ⟨fun iss kind index s => ?_, fun kind index sig s => ?_, fun g s => ?_, fun s => ?_⟩
  · obtain ⟨hno, hwait, hgo⟩ := sliceAsk_spec s kind.isLt index.isLt
    have hexec (h : mgmtIssuer iss = true) : exec (.sliceRequest iss kind index) s = .next ((s.sliceAsked kind index).sliceAsk kind index) :=
      ok_congr (s.guarded_mgmt h _ _ _)
    refine ⟨fun h => .of_eq (ok_congr (s.guarded_other h _ _ _)) (s.violAt_countsAt _), fun h hel => .of_eq (hexec h) (hno hel),
      fun h hel hrun => .of_eq (hexec h) (hwait hel hrun), fun h hel hrun => .of_eq (hexec h) ?_⟩
    obtain ⟨hasked, hslices, hquiet⟩ := hgo hel hrun
    exact ⟨hasked, hslices, fun h1 h4 => hquiet (Fin.val_ne_of_ne h1) (Fin.val_ne_of_ne h4)⟩
  · intro fin
    have hfin (late : Bool) (c : Instr) (hexec : exec c s = .next (s.sliceEnd kind index sig late).ixSettle) : fin late c := by
      unfold fin
      intro sg pass onBank owned left
      refine ⟨fun hnone => .of_eq hexec (sliceEnd_none sig late hnone), fun x hx hcur => ?_⟩
      intro shows signs
      obtain ⟨hkind, hindex⟩ := running_of_runningOn hx
      have hk8 : x.kind < 8 := hkind ▸ kind.isLt
      have hi : x.index < 1024 := hindex ▸ index.isLt
      rw [sliceEnd_some sig late hx hcur] at hexec
      refine ⟨fun ho => ?_, fun ho hl => ?_, fun ho hl => ?_⟩
      · obtain ⟨⟨hshows, -⟩, hkeep⟩ := sliceOver_shows s (x := x) (res := 3) (s.freeNow.setWidth 32) (by decide) hk8 hi
        rw [if_pos ho] at hexec
        exact .of_eq hexec ⟨hshows, hkeep⟩
      · obtain ⟨hlate, hbank, hpos⟩ := hl
        rw [if_neg ho, if_pos (by rw [hlate, State.testLeft, decide_eq_true hbank, decide_eq_true hpos]; rfl)] at hexec
        exact .of_eq hexec rfl
      · have hnleft : ¬ (!late && s.testLeft kind index) = true := by
          unfold State.testLeft
          simpa only [Bool.and_eq_true, Bool.not_eq_true', decide_eq_true_eq] using hl
        rw [if_neg ho, if_neg hnleft] at hexec
        have hpass : (!late && sg == (if kind.val = 2 then 0 else Config.sliceRef kind)) = true ↔ pass := by
          simp only [Bool.and_eq_true, Bool.not_eq_true', beq_iff_eq, pass]
        change exec c s = .next (s.sliceRun x (!late && sg == (if kind.val = 2 then 0 else Config.sliceRef kind)) sg).ixSettle at hexec
        refine ⟨fun hp hagain => ?_, fun hp _ hconf => ?_, fun hp hk0 hconf hspare hhealth => ?_, fun hp hcount hagain => ?_⟩
        · rw [Bool.eq_false_iff.mpr (hpass.not.mpr hp)] at hexec
          obtain ⟨hslices, hkeep, honly, hbank⟩ := sliceRun_again s sg hagain
          rw [hkind, hindex] at hbank
          exact .of_eq hexec ⟨hslices, hkeep, honly, hbank⟩
        · rw [hpass.mpr hp, sliceRun_pass, hconf, if_neg (by decide)] at hexec
          obtain ⟨⟨hshows, hsigns⟩, h0, h16, -⟩ := slicePassed_shows s sg hk8 hi
          exact .of_eq hexec ⟨hshows, hsigns, h0, h16⟩
        · rw [hpass.mpr hp, sliceRun_pass, if_pos (Option.isSome_iff_ne_none.mpr hconf)] at hexec
          obtain ⟨hshows, -, -, hkeep⟩ := slicePassed_shows s sg hk8 hi
          have htnk : (s.slicePassed x sg).rget (tnkHealth (x.index / 17)) = s.rget (tnkHealth (x.index / 17)) :=
            hkeep _ (by simpa using ⟨asyReg_ne_tnk _ _ _ (by decide), asyReg_ne_tnk _ _ _ (by decide), asyReg_ne_tnk _ _ _ (by decide)⟩)
          obtain ⟨hh, hs, hp, hc, hkept, hslices, hnews⟩ := spareBack_gives (s.slicePassed x sg) x.index ((State.rf_of_rget htnk _ _).trans hspare) ((State.rf_of_rget htnk _ _).trans hhealth)
          obtain ⟨hshows', hsigns⟩ := hshows.asyKept hkept hslices hnews
          exact .of_eq hexec ⟨hshows', hsigns, hh, hs, hp, hc⟩
        · rw [Bool.eq_false_iff.mpr (hpass.not.mpr hp)] at hexec
          obtain ⟨⟨hshows, hsigns⟩, h16, hmark⟩ := sliceRun_lasting s sg hk8 hi hcount hagain
          exact .of_eq hexec ⟨hshows, hsigns, h16, hmark⟩
    exact ⟨hfin false _ rfl, hfin true _ rfl⟩
  · refine ⟨fun x hx hback hneed _ _ => .of_eq rfl (sliceDrop_needed hx g.isLt hback hneed.1 hneed.2), fun h => ?_⟩
    exact ok_congr (sliceDrop_other h)
  · intro n at_
    refine ⟨fun h => ?_, fun k hk hen hlt hyes hno => ?_⟩
    · rcases h with h | h | h
      · exact exec_backgroundSlice_off (.inl h)
      · exact exec_backgroundSlice_off (.inr h)
      · exact exec_backgroundSlice_none (sweepNext_none h)
    · have hnext := sweepNext_some hk hyes hno
      exact .of_eq (exec_backgroundSlice_some hen hlt hnext) (sweepStart_starts s _ hyes)

end Sys2Proof
end

section
/-! O53: halts, resumes and instructions fed, lock breaks, freezes, and detaching the debugger. -/

namespace Sys2Proof

open Machine

namespace Machine

variable {s t u : State}

/-! The debug block's registers. -/

theorem dbgReg_addr (off : Nat) : (dbgReg off).addr = 0x200A0000 + off := rfl

theorem dbgTap_addr (k : Nat) : (⟨.dbgTap, k, 0⟩ : Reg).addr = 0x200A0100 + 0x10 * k := rfl

theorem probeSel_addr (k : Nat) : (probeSel k).addr = 0x200A0200 + 8 * k := rfl

theorem probePin_addr (k : Nat) : (probePin k).addr = 0x200A0200 + 8 * k + 4 := rfl

theorem ntyReg_addr (off : Nat) : (ntyReg off).addr = 0x20048000 + off := rfl

theorem dbgReg_ne_dbgCore {off c off' : Nat} (h : off < 0x40) : (dbgReg off).addr ≠ (dbgCore c off').addr := by
  rw [dbgReg_addr, dbgCore_addr]
  omega

theorem State.core_of_cores (h : u.cores = s.cores) (c : Nat) : u.core c = s.core c := by
  unfold State.core
  rw [h]

theorem State.region_of_regions (h : u.regions = s.regions) (r : Nat) : u.region r = s.region r := by
  unfold State.region
  rw [h]

/-! Halting and resuming a core (R472, R473). -/

theorem setHalted_leaves (s : State) {c : Nat} (hc : c < 4) (h : Bool) :
    let u := s.setHalted c h
    u.coreHalted c = h ∧ u.rb (dbgCore c 4) 31 = h ∧ (∀ k, k ≠ c → u.coreHalted k = s.coreHalted k) ∧ KeepRegs [dbgReg 4, dbgCore c 4] s u ∧ Only [.regs] s u := by
  have hne : (dbgReg 4).addr ≠ (dbgCore c 4).addr := dbgReg_ne_dbgCore (by decide)
  have hhalted (k : Nat) : (s.setHalted c h).coreHalted k = (s.rsetb (dbgReg 4) c h).rb (dbgReg 4) k := State.rb_rput_ne _ _ _ _ _ hne
  have hself : (s.setHalted c h).rb (dbgCore c 4) 31 = h := State.rb_rsetb_self (s.rsetb (dbgReg 4) c h) (dbgCore c 4) 31 h (by decide)
  refine ⟨(hhalted c).trans (State.rb_rsetb_self s (dbgReg 4) c h (by omega)), hself, fun k hk => (hhalted k).trans (State.rb_rsetb_bit s (dbgReg 4) c k h hk), ?_,
    (State.setHalted_ev c h (Ev.refl (fieldMask [.regs]) s) (by rfl)).only_mask⟩
  exact ((KeepRegs.refl _ s).rsetb _ _ List.mem_cons_self).rsetb _ _ (List.mem_cons_of_mem _ List.mem_cons_self)

/-- A core's entry replaced, and DEBUG_SEEN set. -/
def State.coreSeen (s : State) (c : Nat) (x : Core) : State := (s.setCore c x).debugSeen

theorem coreSeen_leaves (s : State) (c : Nat) (x : Core) :
    let u := s.coreSeen c x
    (∀ k, u.core k = if k = c then x else s.core k) ∧ u.rb (ntyReg 0) 31 = true ∧ KeepRegs [ntyReg 0] s u := by
  refine ⟨fun k => ?_, State.rb_rsetb_self (s.setCore c x) (ntyReg 0) 31 true (by decide), ?_⟩
  · exact (State.core_of_cores (State.rput_cores (s.setCore c x) (ntyReg 0) _) k).trans (s.core_setCore c k x)
  · exact (KeepRegs.of_regs (s.setCore_regs c x)).rsetb _ _ List.mem_cons_self

/-- A core halted, with its cause. -/
def State.haltNoted (s : State) (c cause : Nat) : State := (s.setHalted c true).rsetf (dbgCore c 4) 0 3 cause

theorem haltNoted_leaves (s : State) {c cause : Nat} (hc : c < 4) (hcause : cause < 8) :
    let u := s.haltNoted c cause
    u.coreHalted c = true ∧ u.rb (dbgCore c 4) 31 = true ∧ u.rf (dbgCore c 4) 0 3 = cause ∧ (∀ k, k ≠ c → u.coreHalted k = s.coreHalted k) ∧ KeepRegs [dbgReg 4, dbgCore c 4] s u ∧ u.cores = s.cores := by
  obtain ⟨hon, hbit, hother, hkeep, honly⟩ := setHalted_leaves s hc true
  have hcores := honly .cores (by decide)
  unfold State.haltNoted
  generalize s.setHalted c true = v at hon hbit hother hkeep hcores ⊢
  have hhalted (k : Nat) : (v.rsetf (dbgCore c 4) 0 3 cause).coreHalted k = v.coreHalted k := State.rb_rput_ne _ _ _ _ _ (dbgReg_ne_dbgCore (by decide))
  exact ⟨(hhalted c).trans hon, (State.rb_rsetf v (dbgCore c 4) 0 3 cause 31 (.inr (by decide))).trans hbit,
    (State.rf_rsetf_self v (dbgCore c 4) 0 3 cause (by decide)).trans (Nat.mod_eq_of_lt hcause), fun k hk => (hhalted k).trans (hother k hk), hkeep.rsetf _ _ _ (by simp), hcores⟩

/-- R472: a core that halts notes why. -/
theorem haltCore_halted (s : State) {c cause : Nat} (hc : c < 4) (hcause : cause < 8) : Halted s (s.haltCore c cause) c cause := by
  have honly : Only [.regs, .cores] s (s.haltCore c cause) := (State.haltCore_ev c cause (Ev.refl (fieldMask [.regs, .cores]) s) (by rfl)).only_mask
  obtain ⟨hon, hbit, hwhy, hother, hkeep, hcores⟩ := haltNoted_leaves s hc hcause
  change Only _ s ((s.haltNoted c cause).coreSeen c { s.core c with haltReq := false }) at honly
  change Halted s ((s.haltNoted c cause).coreSeen c { s.core c with haltReq := false }) c cause
  generalize s.haltNoted c cause = v at hon hbit hwhy hother hkeep hcores honly ⊢
  obtain ⟨hcore, hseen, hnty⟩ := coreSeen_leaves v c { s.core c with haltReq := false }
  generalize v.coreSeen c { s.core c with haltReq := false } = u at hcore hseen hnty honly ⊢
  have hstat : u.rget (dbgCore c 4) = v.rget (dbgCore c 4) := hnty _ (by simpa [dbgCore_addr, ntyReg_addr] using by omega)
  have hctl : u.rget (dbgReg 4) = v.rget (dbgReg 4) := hnty _ (by simp [dbgReg_addr, ntyReg_addr])
  exact ⟨(State.rb_of_rget hctl c).trans hon, (State.rb_of_rget hstat 31).trans hbit, (State.rf_of_rget hstat 0 3).trans hwhy, (hcore c).trans (if_pos rfl), hseen,
    fun k hk => ⟨(hcore k).trans ((if_neg hk).trans (State.core_of_cores hcores k)), (State.rb_of_rget hctl k).trans (hother k hk)⟩, (hkeep.mono (by simp)).trans (hnty.mono (by simp)), honly⟩

/-- R472: when a core halts at an instruction boundary. -/
theorem haltNow_can {c cause : Nat} (hhalted : s.coreHalted c = false) (hload : (s.core c).load = none) (hdom : s.dom (732 + c) = 0)
    (hcause : (cause = 3 ∧ (s.core c).haltReq = true) ∨ cause = 1 ∨ cause = 2) : s.haltNow c cause = s.haltCore c cause := by
  unfold State.haltNow
  rw [if_neg (by simp [hhalted, hload, hdom])]
  rcases hcause with ⟨rfl, hreq⟩ | h12
  · rw [if_pos rfl, if_pos hreq]
  · rw [if_neg (by omega), if_pos h12]

theorem haltNow_cannot {c cause : Nat} (h : ¬ (s.coreHalted c = false ∧ (s.core c).load = none ∧ s.dom (732 + c) = 0 ∧ ((cause = 3 ∧ (s.core c).haltReq = true) ∨ cause = 1 ∨ cause = 2))) :
    s.haltNow c cause = s := by
  unfold State.haltNow
  split
  · rfl
  next hrun =>
  have hidle : s.coreHalted c = false ∧ (s.core c).load = none ∧ s.dom (732 + c) = 0 := by simpa [and_assoc] using hrun
  obtain ⟨hhalted, hload, hdom⟩ := hidle
  have hcause : ¬ ((cause = 3 ∧ (s.core c).haltReq = true) ∨ cause = 1 ∨ cause = 2) := fun hc => h ⟨hhalted, hload, hdom, hc⟩
  split
  · next h3 =>
    split
    · next hreq => exact absurd (.inl ⟨h3, hreq⟩) hcause
    · rfl
  · split
    · next h12 => exact absurd (.inr h12) hcause
    · rfl

theorem debugOnly_debug (s : State) (f : State → State) : s.debugOnly .debug f = f s := if_pos rfl

theorem debugOnly_other {iss : Issuer} (h : iss ≠ .debug) (s : State) (f : State → State) : s.debugOnly iss f = s.violAt (dbgReg 8) := if_neg h

theorem debugOnly_counts {iss : Issuer} (h : iss ≠ .debug) (s : State) (f : State → State) : CountedAt (dbgReg 8) [.regs] s (s.debugOnly iss f) := by
  rw [debugOnly_other h]
  exact State.violAt_countedAt rfl (by simp)

/-! Detaching (R478, R479): each stage of it clears its own bits, and leaves those of the stages before. -/

/-- The access, a debugger attached and the freeze requests let go. -/
def State.letGo (s : State) : State := ({ s with dbgAcc := none }.rsetb (dbgReg 4) 31 false).rput (dbgReg 0x10) 0

theorem letGo_leaves (s : State) : s.letGo.dbgAcc = none ∧ s.letGo.rb (dbgReg 4) 31 = false ∧ s.letGo.rget (dbgReg 0x10) = 0 := by
  have hacc : ({ s with dbgAcc := none } : State).dbgAcc = none := rfl
  unfold State.letGo
  generalize ({ s with dbgAcc := none } : State) = v at hacc ⊢
  have hfreed : ((v.rsetb (dbgReg 4) 31 false).rput (dbgReg 0x10) 0).dbgAcc = v.dbgAcc := rfl
  refine ⟨hfreed.trans hacc, ?_, State.rget_rput_same (v.rsetb (dbgReg 4) 31 false) (dbgReg 0x10) 0⟩
  exact (State.rb_rput_ne (v.rsetb (dbgReg 4) 31 false) (dbgReg 0x10) (dbgReg 4) 0 31 (by decide)).trans (State.rb_rsetb_self v (dbgReg 4) 31 false (by decide))

/-- Every region let go. -/
def State.thaw (s : State) : State := s.each (List.range 32) (fun s r => s.setFrozen r false false)

theorem thaw_leaves (s : State) : s.thaw.regs = s.regs ∧ s.thaw.dbgAcc = s.dbgAcc ∧ ∀ r < 32, (s.thaw.region r).frozen = false ∧ (s.thaw.region r).frozenDone = false := by
  have hregs (u : State) (r : Nat) : (u.setFrozen r false false).regs = u.regs := State.setRegion_regs u r _
  have hacc (u : State) (r : Nat) : (u.setFrozen r false false).dbgAcc = u.dbgAcc := State.setRegion_dbgAcc u r _
  refine ⟨State.each_inv State.regs hregs s (List.range 32), State.each_inv State.dbgAcc hacc s (List.range 32), fun r hr => ?_⟩
  refine State.each_sets (fun r u => (u.region r).frozen = false ∧ (u.region r).frozenDone = false) (f := fun s r => s.setFrozen r false false) (fun u a => ?_) (fun u a b h => ?_) s
    (List.range 32) r (List.mem_range.mpr hr)
  · unfold State.setFrozen
    rw [State.region_setRegion_same]
    exact ⟨rfl, rfl⟩
  · unfold State.setFrozen
    by_cases hab : b = a
    · rw [hab, State.region_setRegion_same]
      exact ⟨rfl, rfl⟩
    · rwa [State.region_setRegion_ne _ _ _ _ hab]

/-- A core let go: no longer halted, nor asked to halt. -/
def State.freeCore (s : State) (c : Nat) : State := (s.setHalted c false).setCore c { s.core c with haltReq := false }

/-- Core c is neither halted nor asked to halt. -/
def CoreFreed (c : Nat) (s : State) : Prop := c < 4 → s.coreHalted c = false ∧ (s.core c).haltReq = false

theorem coreHalted_freeCore (s : State) (c k : Nat) : (s.freeCore c).coreHalted k = (s.rsetb (dbgReg 4) c false).rb (dbgReg 4) k :=
  (State.rb_of_regs (State.setCore_regs (s.setHalted c false) c _) (dbgReg 4) k).trans (State.rb_rput_ne (s.rsetb (dbgReg 4) c false) _ _ _ _ (dbgReg_ne_dbgCore (by decide)))

theorem freeCore_freed (s : State) (c : Nat) : CoreFreed c (s.freeCore c) := fun hc =>
  ⟨(coreHalted_freeCore s c c).trans (State.rb_rsetb_self _ _ _ _ (by omega)), congrArg Core.haltReq (((s.setHalted c false).core_setCore c c _).trans (if_pos rfl))⟩

theorem freeCore_keeps (s : State) (c k : Nat) (h : CoreFreed k s) : CoreFreed k (s.freeCore c) := by
  by_cases hk : k = c
  · exact hk ▸ freeCore_freed s c
  · intro hlt
    obtain ⟨hhalted, hreq⟩ := h hlt
    have hcore : (s.freeCore c).core k = s.core k := ((s.setHalted c false).core_setCore c k _).trans ((if_neg hk).trans (State.core_of_cores rfl k))
    exact ⟨(coreHalted_freeCore s c k).trans ((State.rb_rsetb_bit _ _ _ _ _ hk).trans hhalted), hcore ▸ hreq⟩

/-- Every core let go. -/
def State.freeCores (s : State) : State := s.each (List.range 4) State.freeCore

theorem freeCores_leaves (s : State) : (∀ c < 4, s.freeCores.coreHalted c = false ∧ (s.freeCores.core c).haltReq = false) ∧ s.freeCores.rb (dbgReg 4) 31 = s.rb (dbgReg 4) 31 ∧
    s.freeCores.rget (dbgReg 0x10) = s.rget (dbgReg 0x10) ∧ s.freeCores.dbgAcc = s.dbgAcc ∧ s.freeCores.regions = s.regions := by
  refine ⟨fun c hc => State.each_sets CoreFreed freeCore_freed freeCore_keeps s (List.range 4) c (List.mem_range.mpr hc) hc, ?_, ?_, State.each_inv State.dbgAcc (f := State.freeCore) (fun _ _ => rfl) s (List.range 4),
    State.each_inv State.regions (f := State.freeCore) (fun _ _ => rfl) s (List.range 4)⟩
  · refine State.each_mem_inv (P := fun u => u.rb (dbgReg 4) 31 = s.rb (dbgReg 4) 31) rfl fun u c hc h => ?_
    have hc := List.mem_range.mp hc
    exact (coreHalted_freeCore u c 31).trans ((State.rb_rsetb_bit _ _ _ _ _ (by omega)).trans h)
  · refine State.each_inv (fun u => u.rget (dbgReg 0x10)) (fun u c => ?_) s _
    refine (State.rget_of_regs (State.setCore_regs (u.setHalted c false) c _) _).trans ((State.rget_rput_ne _ _ _ _ (dbgReg_ne_dbgCore (by decide))).trans ?_)
    exact State.rget_rsetb_ne _ _ _ _ _ (by decide)

/-- A tap disabled. -/
def State.tapOff (s : State) (t : Nat) : State := s.rsetb ⟨.dbgTap, t, 0⟩ 31 false

/-- Every tap disabled. -/
def State.tapsOff (s : State) : State := s.each (List.range 4) State.tapOff

theorem rb_rsetb_false_keeps {g h : Reg} {i : Nat} (hi : i < 64) (hgh : h = g ∨ h.addr ≠ g.addr) (hoff : s.rb h i = false) : (s.rsetb g i false).rb h i = false := by
  rcases hgh with rfl | hne
  · exact State.rb_rsetb_self _ _ _ _ hi
  · exact (State.rb_rput_ne _ _ _ _ _ hne).trans hoff

theorem tapsOff_leaves (s : State) : (∀ k < 4, s.tapsOff.rb ⟨.dbgTap, k, 0⟩ 31 = false) ∧ (∀ g : Reg, g.addr < 0x200A0100 → s.tapsOff.rget g = s.rget g) ∧
    s.tapsOff.dbgAcc = s.dbgAcc ∧ s.tapsOff.regions = s.regions ∧ s.tapsOff.cores = s.cores := by
  refine ⟨fun k hk => ?_, fun g hg => ?_, State.each_inv State.dbgAcc (f := State.tapOff) (fun _ _ => rfl) s (List.range 4), State.each_inv State.regions (f := State.tapOff) (fun _ _ => rfl) s (List.range 4), State.each_inv State.cores (f := State.tapOff) (fun _ _ => rfl) s (List.range 4)⟩
  · refine State.each_sets (fun k u => u.rb ⟨.dbgTap, k, 0⟩ 31 = false) (f := State.tapOff) (fun u a => State.rb_rsetb_self _ _ _ _ (by decide))
      (fun u a b h => rb_rsetb_false_keeps (by decide) ?_ h) s (List.range 4) k (List.mem_range.mpr hk)
    by_cases hab : b = a
    · exact .inl (by rw [hab])
    · refine .inr ?_
      rw [dbgTap_addr, dbgTap_addr]
      omega
  · refine State.each_inv (fun u => u.rget g) (f := State.tapOff) (fun u t => State.rget_rsetb_ne _ _ _ _ _ ?_) s _
    rw [dbgTap_addr]
    omega

/-- A probe disabled. -/
def State.probeDrop (s : State) (k : Nat) : State := (s.rsetb (probeSel k) 31 false).probeMove k

theorem probeMove_regs (s : State) (k : Nat) {g : Reg} (hg : g.addr ≠ (probePin k).addr) : (s.probeMove k).rget g = s.rget g := by
  have hpad (u : State) (p : Nat) (o : Owner) : (u.padTo p o).rget g = u.rget g :=
    State.rget_of_regs ((State.padTo_ev p o (Ev.refl 274877906944 u) (by rfl)).frame .regs rfl) g
  have hpin : (s.rsetb (probePin k) 30 (s.rb (probeSel k) 31 && s.probeBad k)).rget g = s.rget g := State.rget_rsetb_ne _ _ _ _ _ hg
  unfold State.probeMove
  dsimp only
  generalize s.rsetb (probePin k) 30 (s.rb (probeSel k) 31 && s.probeBad k) = v at hpin ⊢
  split
  · exact hpin
  · cases v.probeHas k with
    | none =>
      cases s.probeWants k with
      | none => exact hpin
      | some q => exact (hpad v q _).trans hpin
    | some p =>
      cases s.probeWants k with
      | none => exact (hpad v p _).trans hpin
      | some q => exact (hpad _ q _).trans ((hpad v p _).trans hpin)

theorem probeDrop_regs (s : State) (k : Nat) {g : Reg} (hg : g.addr ≠ (probePin k).addr) : (s.probeDrop k).rget g = (s.rsetb (probeSel k) 31 false).rget g := probeMove_regs _ _ hg

/-- Every probe disabled. -/
def State.probesOff (s : State) : State := s.each (List.range 16) State.probeDrop

theorem probesOff_leaves (s : State) : (∀ k < 16, s.probesOff.rb (probeSel k) 31 = false) ∧ (∀ g : Reg, g.addr < 0x200A0200 → s.probesOff.rget g = s.rget g) ∧
    s.probesOff.dbgAcc = s.dbgAcc ∧ s.probesOff.regions = s.regions ∧ s.probesOff.cores = s.cores := by
  have honly (u : State) (k : Nat) : Only [.regs, .pads] u (u.probeDrop k) :=
    (State.probeMove_ev k (State.rsetb_ev (probeSel k) 31 false (Ev.refl (fieldMask [.regs, .pads]) u) (by rfl)) (by rfl)).only_mask
  have hsel (u : State) (a b : Nat) : (u.probeDrop a).rb (probeSel b) 31 = (u.rsetb (probeSel a) 31 false).rb (probeSel b) 31 :=
    State.rb_of_rget (probeDrop_regs u a (by rw [probeSel_addr, probePin_addr]; omega)) 31
  refine ⟨fun k hk => ?_, fun g hg => ?_, State.each_inv State.dbgAcc (f := State.probeDrop) (fun u k => honly u k .dbgAcc (by decide)) s (List.range 16), State.each_inv State.regions (f := State.probeDrop) (fun u k => honly u k .regions (by decide)) s (List.range 16),
    State.each_inv State.cores (f := State.probeDrop) (fun u k => honly u k .cores (by decide)) s (List.range 16)⟩
  · refine State.each_sets (fun k u => u.rb (probeSel k) 31 = false) (fun u a => (hsel u a a).trans (State.rb_rsetb_self _ _ _ _ (by decide)))
      (fun u a b h => (hsel u a b).trans (rb_rsetb_false_keeps (by decide) ?_ h)) s (List.range 16) k (List.mem_range.mpr hk)
    by_cases hab : b = a
    · exact .inl (by rw [hab])
    · refine .inr ?_
      rw [probeSel_addr, probeSel_addr]
      omega
  · refine State.each_inv (fun u => u.rget g) (fun u k => (probeDrop_regs u k (by rw [probePin_addr]; omega)).trans (State.rget_rsetb_ne _ _ _ _ _ ?_)) s _
    rw [probeSel_addr]
    omega

/-- A domain's emulated state real. -/
def State.realOne (s : State) (n : Nat) : State := s.rsetb (lmpDom n) 25 false

/-- Every emulated state real. -/
def State.realAgain (s : State) : State := s.each (List.range 748) State.realOne

theorem realAgain_leaves (s : State) : (∀ n < 748, s.realAgain.rb (lmpDom n) 25 = false) ∧ (∀ g : Reg, 0x200A0000 ≤ g.addr → s.realAgain.rget g = s.rget g) ∧
    s.realAgain.dbgAcc = s.dbgAcc ∧ s.realAgain.regions = s.regions ∧ s.realAgain.cores = s.cores := by
  refine ⟨fun n hn => ?_, fun g hg => ?_, State.each_inv State.dbgAcc (f := State.realOne) (fun _ _ => rfl) s (List.range 748), State.each_inv State.regions (f := State.realOne) (fun _ _ => rfl) s (List.range 748), State.each_inv State.cores (f := State.realOne) (fun _ _ => rfl) s (List.range 748)⟩
  · refine State.each_sets (fun n u => u.rb (lmpDom n) 25 = false) (f := State.realOne) (fun u a => State.rb_rsetb_self _ _ _ _ (by decide))
      (fun u a b h => rb_rsetb_false_keeps (by decide) ?_ h) s (List.range 748) n (List.mem_range.mpr hn)
    by_cases hab : b = a
    · exact .inl (by rw [hab])
    · refine .inr ?_
      rw [lmpDom_addr, lmpDom_addr]
      omega
  · refine State.each_mem_inv (P := fun u => u.rget g = s.rget g) rfl fun u n hn h => (State.rget_rsetb_ne _ _ _ _ _ ?_).trans h
    have hn := List.mem_range.mp hn
    rw [lmpDom_addr]
    omega

theorem detach_eq (s : State) : s.detach = s.letGo.thaw.freeCores.tapsOff.probesOff.realAgain := rfl

/-- Everything the debugger held is let go. -/
theorem detach_frees (s : State) :
    let u := s.detach
    u.dbgAcc = none ∧ u.rb (dbgReg 4) 31 = false ∧ u.rget (dbgReg 0x10) = 0 ∧ (∀ r < 32, (u.region r).frozen = false ∧ (u.region r).frozenDone = false) ∧
    (∀ c < 4, u.coreHalted c = false ∧ (u.core c).haltReq = false) ∧ (∀ k < 4, u.rb ⟨.dbgTap, k, 0⟩ 31 = false) ∧ (∀ k < 16, u.rb (probeSel k) 31 = false) ∧ (∀ n < 748, u.rb (lmpDom n) 25 = false) := by
  dsimp only
  rw [detach_eq]
  obtain ⟨hacc1, hattached1, hfreeze1⟩ := letGo_leaves s
  generalize s.letGo = u1 at hacc1 hattached1 hfreeze1 ⊢
  obtain ⟨hregs2, hacc2, hthaw⟩ := thaw_leaves u1
  generalize u1.thaw = u2 at hregs2 hacc2 hthaw ⊢
  obtain ⟨hcores, hattached3, hfreeze3, hacc3, hregions3⟩ := freeCores_leaves u2
  generalize u2.freeCores = u3 at hcores hattached3 hfreeze3 hacc3 hregions3 ⊢
  obtain ⟨htaps, hlow4, hacc4, hregions4, hcores4⟩ := tapsOff_leaves u3
  generalize u3.tapsOff = u4 at htaps hlow4 hacc4 hregions4 hcores4 ⊢
  obtain ⟨hprobes, hlow5, hacc5, hregions5, hcores5⟩ := probesOff_leaves u4
  generalize u4.probesOff = u5 at hprobes hlow5 hacc5 hregions5 hcores5 ⊢
  obtain ⟨hreal, hhigh6, hacc6, hregions6, hcores6⟩ := realAgain_leaves u5
  generalize u5.realAgain = u at hreal hhigh6 hacc6 hregions6 hcores6 ⊢
  have hread {g : Reg} (hge : 0x200A0000 ≤ g.addr) (hlt : g.addr < 0x200A0100) : u.rget g = u3.rget g :=
    (hhigh6 g hge).trans ((hlow5 g (by omega)).trans (hlow4 g hlt))
  have hattached : u.rget (dbgReg 4) = u3.rget (dbgReg 4) := hread (by rw [dbgReg_addr]; omega) (by rw [dbgReg_addr]; omega)
  have hfreeze : u.rget (dbgReg 0x10) = u3.rget (dbgReg 0x10) := hread (by rw [dbgReg_addr]; omega) (by rw [dbgReg_addr]; omega)
  have hregion (r : Nat) : u.region r = u2.region r :=
    State.region_of_regions (hregions6.trans (hregions5.trans (hregions4.trans hregions3))) r
  have hcore (c : Nat) : u.core c = u3.core c := State.core_of_cores (hcores6.trans (hcores5.trans hcores4)) c
  refine ⟨hacc6.trans (hacc5.trans (hacc4.trans (hacc3.trans (hacc2.trans hacc1)))), ?_, ?_, fun r hr => ?_, fun c hc => ?_, fun k hk => ?_, fun k hk => ?_, hreal⟩
  · exact (State.rb_of_rget hattached 31).trans (hattached3.trans ((State.rb_of_regs hregs2 _ _).trans hattached1))
  · exact hfreeze.trans (hfreeze3.trans ((State.rget_of_regs hregs2 _).trans hfreeze1))
  · rw [hregion]
    exact hthaw r hr
  · obtain ⟨hhalted, hreq⟩ := hcores c hc
    exact ⟨(State.rb_of_rget hattached c).trans hhalted, by rw [hcore]; exact hreq⟩
  · have htap : u.rget ⟨.dbgTap, k, 0⟩ = u4.rget ⟨.dbgTap, k, 0⟩ := (hhigh6 _ (by rw [dbgTap_addr]; omega)).trans (hlow5 _ (by rw [dbgTap_addr]; omega))
    exact (State.rb_of_rget htap 31).trans (htaps k hk)
  · exact (State.rb_of_rget (hhigh6 _ (by rw [probeSel_addr]; omega)) 31).trans (hprobes k hk)

/-! Breaking a lock (R474). -/

/-- A bank's lock broken: what of the bank and of its registers changes. -/
theorem breakLock_breaks (s : State) (n : Nat) :
    let u := s.breakLock n
    (u.bank n).lock = none ∧ (∀ k, k ≠ n → u.bank k = s.bank k) ∧ (∀ g : Reg, g.addr ≠ (sb n 0x20).addr → g.addr ≠ (sb n 0x28).addr → u.rget g = s.rget g) ∧
    ((s.bank n).lock = none → u = s) ∧ ((s.bank n).lock ≠ none → (u.bank n).broke = true ∧ u.rb (sb n 0x20) 30 = true) := by
  cases hlock : (s.bank n).lock with
  | none =>
    have hidle : s.breakLock n = s := by
      unfold State.breakLock
      rw [hlock]
    dsimp only
    rw [hidle]
    exact ⟨hlock, fun _ _ => rfl, fun _ _ _ => rfl, fun _ => rfl, fun h => absurd rfl h⟩
  | some iss =>
    let u1 := (s.setBank n { s.bank n with lock := none }).rsetb (sb n 0x20) 31 false
    let u2 := u1.sticky (sb n 0x20) 30
    let u3 := u2.count (sb n 0x28) 8 8 1
    have hbreak : s.breakLock n = u3.setBank n { u3.bank n with broke := true } := by
      unfold State.breakLock
      rw [hlock]
      rfl
    have hfreed : (s.setBank n { s.bank n with lock := none }).bank n = { s.bank n with lock := none } := s.bank_setBank_same n _
    have hbank (k : Nat) : (s.breakLock n).bank k = if k = n then { u3.bank n with broke := true } else u3.bank k := hbreak ▸ u3.bank_setBank n k _
    have hold (k : Nat) (hk : k ≠ n) : u3.bank k = s.bank k := s.bank_setBank_ne n k _ hk
    have hregs : (s.breakLock n).regs = u3.regs := hbreak ▸ u3.setBank_regs n _
    refine ⟨?_, fun k hk => ((hbank k).trans (if_neg hk)).trans (hold k hk), fun g h20 h28 => ?_, fun h => absurd h (by simp), fun _ => ⟨?_, ?_⟩⟩
    · exact (congrArg Bank.lock ((hbank n).trans (if_pos rfl))).trans (congrArg Bank.lock hfreed)
    · exact (State.rget_of_regs hregs g).trans ((State.rget_count_ne u2 _ g _ _ _ h28).trans ((State.rget_sticky_ne u1 _ g _ h20).trans
        ((State.rget_rsetb_ne (s.setBank n _) _ g _ _ h20).trans (State.rget_of_regs (s.setBank_regs n _) g))))
    · exact congrArg Bank.broke ((hbank n).trans (if_pos rfl))
    · refine (State.rb_of_regs hregs _ _).trans ((State.rb_of_rget (State.rget_count_ne u2 _ (sb n 0x20) _ _ _ (sb_ne (by decide))) _).trans ?_)
      exact State.rb_sticky_self u1 (sb n 0x20) 30 (by decide)

/-- The word that DBG_BRKLOCK is written with to break the lock of bank b of region r. -/
def brkWord (r b : Nat) : Word := BitVec.ofNat 32 (2 ^ 31 + 4 * r + b)

theorem brkWord_fields {r b : Nat} (hr : r < 32) (hb : b < 4) :
    bit (brkWord r b) 31 = true ∧ fld (brkWord r b) 2 5 * 4 + fld (brkWord r b) 0 2 = r * 4 + b ∧ fld ((brkWord r b).setWidth 64 : RegVal) 0 7 = 4 * r + b := by
  have hval : (brkWord r b).toNat = 2 ^ 31 + 4 * r + b := by
    unfold brkWord
    rw [BitVec.toNat_ofNat, Nat.mod_eq_of_lt (by omega)]
  refine ⟨?_, ?_, ?_⟩
  · unfold bit
    rw [BitVec.getLsbD, hval, Nat.testBit_eq_decide_div_mod_eq]
    exact decide_eq_true (by omega)
  · unfold fld
    rw [hval, Nat.shiftRight_eq_div_pow, Nat.shiftRight_eq_div_pow]
    omega
  · unfold fld
    rw [BitVec.toNat_setWidth, hval, Nat.shiftRight_eq_div_pow]
    omega

theorem info_brk : (dbgReg 0x18).info = some { rw := 0x7F, wo := 0x80000000, ro := 0x40000000 } := rfl

theorem dbgReg_ne_sb {off n off' : Nat} (h : off < 0x40) : (dbgReg off).addr ≠ (sb n off').addr := by
  rw [dbgReg_addr, sb_addr]
  omega

/-- DBG_BRKLOCK with the word written. -/
def State.brkAsked (s : State) (v : Word) : State := s.writePlain (dbgReg 0x18) (v.setWidth 64)

theorem brkAsked_leaves (s : State) {r b : Nat} (hr : r < 32) (hb : b < 4) :
    let u := s.brkAsked (brkWord r b)
    u.rf (dbgReg 0x18) 0 7 = 4 * r + b ∧ KeepRegs [dbgReg 0x18] s u ∧ Only [.regs] s u :=
  ⟨(s.rf_writePlain_rw _ info_brk (lo := 0) (len := 7) (by decide) (by decide)).trans (brkWord_fields hr hb).2.2, fun _ hg => s.rget_writePlain_ne _ (hg _ List.mem_cons_self),
    (State.writePlain_ev (dbgReg 0x18) _ (Ev.refl (fieldMask [.regs]) s) (by rfl)).only_mask⟩

theorem brkWrite_eq (s : State) {v : Word} (hgo : bit v 31 = true) : s.brkWrite v = (s.brkAsked v).breakLockCmd (fld v 2 5 * 4 + fld v 0 2) := if_pos hgo

theorem State.bank_of_banks (h : u.banks = s.banks) (k : Nat) : u.bank k = s.bank k := by
  unfold State.bank
  rw [h]

/-- R474: DBG_BRKLOCK written with GO = 1. -/
theorem brkWrite_breaks (s : State) {r b : Nat} (hr : r < 32) (hb : b < 4) :
    let n := r * 4 + b
    let t := s.brkWrite (brkWord r b)
    t.rf (dbgReg 0x18) 0 7 = 4 * r + b ∧ t.rb (dbgReg 0x18) 30 = (s.bank n).lock.isNone ∧ (t.bank n).lock = none ∧ (∀ k : Nat, k ≠ n → t.bank k = s.bank k) ∧
      ((s.bank n).lock = none → t.bank n = s.bank n ∧ KeepRegs [dbgReg 0x18] s t) ∧ ((s.bank n).lock ≠ none → (t.bank n).broke = true ∧ t.rb (sb n 0x20) 30 = true) ∧ Only [.regs, .banks] s t := by
  obtain ⟨hgo, hn, -⟩ := brkWord_fields hr hb
  have honly : Only [.regs, .banks] s (s.brkWrite (brkWord r b)) := (State.brkWrite_ev _ (Ev.refl (fieldMask [.regs, .banks]) s) (by rfl)).only_mask
  obtain ⟨hfield, hkeep, hasked⟩ := brkAsked_leaves s hr hb
  dsimp only
  rw [brkWrite_eq s hgo, hn] at honly ⊢
  generalize s.brkAsked (brkWord r b) = u at hfield hkeep hasked honly ⊢
  have hbanks (k : Nat) : u.bank k = s.bank k := State.bank_of_banks (hasked .banks (by decide)) k
  generalize r * 4 + b = n at honly ⊢
  obtain ⟨hlock, hother, hregs, hnone, hsome⟩ := breakLock_breaks u n
  rw [hbanks] at hnone hsome
  unfold State.breakLockCmd at honly ⊢
  dsimp only at honly ⊢
  rw [hbanks] at honly ⊢
  generalize u.breakLock n = v at hlock hother hregs hnone hsome honly ⊢
  have h18 : v.rget (dbgReg 0x18) = u.rget (dbgReg 0x18) := hregs _ (dbgReg_ne_sb (by decide)) (dbgReg_ne_sb (by decide))
  refine ⟨?_, State.rb_rsetb_self v _ _ _ (by decide), hlock, fun k hk => (hother k hk).trans (hbanks k), fun h => ?_, fun h => ?_, honly⟩
  · exact (State.rf_rsetb v (dbgReg 0x18) 30 _ 0 7 (.inl (by decide))).trans ((State.rf_of_rget h18 0 7).trans hfield)
  · have hv := hnone h
    subst hv
    exact ⟨hbanks _, hkeep.rsetb _ _ List.mem_cons_self⟩
  · obtain ⟨hbroke, hbit⟩ := hsome h
    exact ⟨hbroke, (State.rb_rput_ne v _ _ _ _ (dbgReg_ne_sb (by decide)).symm).trans hbit⟩

/-! Freezing (R475). -/

/-- What a freeze request makes of a region that waits or not. -/
def Region.asked (on waits : Bool) (x : Region) : Region :=
  if on then (if waits || x.frozen then x else { x with frozen := true, frozenDone := false }) else { x with frozen := false, frozenDone := false }

/-- A freeze request at one region. -/
def State.freezeOne (v : Word) (s : State) (r : Nat) : State :=
  if bit v r then (if s.freezeWaits r || (s.region r).frozen then s else s.setFrozen r true false) else s.setFrozen r false false

theorem freezeOne_self (v : Word) (s : State) (r : Nat) : (s.freezeOne v r).region r = (s.region r).asked (bit v r) (s.freezeWaits r) := by
  unfold State.freezeOne Region.asked State.setFrozen
  split
  · split
    · rfl
    · exact s.region_setRegion_same r _
  · exact s.region_setRegion_same r _

theorem freezeOne_ne (v : Word) (s : State) {r k : Nat} (h : r ≠ k) : (s.freezeOne v r).region k = s.region k := by
  unfold State.freezeOne State.setFrozen
  split
  · split
    · rfl
    · exact s.region_setRegion_ne r k _ h.symm
  · exact s.region_setRegion_ne r k _ h.symm

theorem freezeOne_only (v : Word) (s : State) (r : Nat) : Only [.regions] s (s.freezeOne v r) := by
  have hset (on : Bool) : Only [.regions] s (s.setFrozen r on false) := (State.setFrozen_ev r on false (Ev.refl (fieldMask [.regions]) s) (by rfl)).only_mask
  unfold State.freezeOne
  split
  · split
    · exact .refl _ s
    · exact hset true
  · exact hset false

/-- Whether a region is under load or swaps; a freeze request changes neither. -/
def State.busyRegion (s : State) (r : Nat) : Bool := s.underLoad r || s.swapping r

theorem busyRegion_congr (hload : u.load = s.load) (hswap : u.swapWant = s.swapWant) {r : Nat} (hhealth : u.rget (tnkHealth r) = s.rget (tnkHealth r)) : u.busyRegion r = s.busyRegion r := by
  unfold State.busyRegion State.underLoad State.swapping State.swapOf State.health State.spareSt
  rw [hload, hswap, State.rf_of_rget hhealth, State.rf_of_rget hhealth]

theorem freezeWaits_eq (s : State) (r : Nat) : s.freezeWaits r = ((s.region r).gate || s.busyRegion r) := Bool.or_assoc _ _ _

theorem info_freeze : (dbgReg 0x10).info = some { rw := 0xFFFFFFFF } := rfl

/-- R475: DBG_FREEZE written. -/
theorem freezeWrite_freezes (s : State) (v : Word) :
    let t := s.freezeWrite v
    t.rf (dbgReg 0x10) 0 32 = v.toNat ∧ (∀ r < 32, t.region r = (s.region r).asked (v.getLsbD r) (s.freezeWaits r)) ∧ (∀ r, 32 ≤ r → t.region r = s.region r) ∧ KeepRegs [dbgReg 0x10] s t ∧
      Only [.regs, .regions] s t := by
  let u := s.writePlain (dbgReg 0x10) (v.setWidth 64)
  have hwrite : s.freezeWrite v = u.each (List.range 32) (State.freezeOne v) := rfl
  have hev := State.writePlain_ev (dbgReg 0x10) (v.setWidth 64) (Ev.refl (fieldMask [.regs]) s) (by rfl)
  have honly : Only [.regs] s u := hev.only_mask
  have hkeep : KeepRegs [dbgReg 0x10] s u := fun g hg => s.rget_writePlain_ne _ (hg _ List.mem_cons_self)
  have hfield : u.rf (dbgReg 0x10) 0 32 = v.toNat := by
    refine (s.rf_writePlain_rw _ info_freeze (lo := 0) (len := 32) (by decide) (by decide)).trans ?_
    unfold fld
    have hlt : v.toNat < 2 ^ 32 := v.isLt
    rw [BitVec.toNat_setWidth, Nat.shiftRight_zero, Nat.mod_eq_of_lt (hlt.trans (by decide)), Nat.mod_eq_of_lt hlt]
  dsimp only
  rw [hwrite]
  clear_value u
  have hregs : (u.each (List.range 32) (State.freezeOne v)).regs = u.regs := State.each_inv State.regs (fun s r => freezeOne_only v s r .regs (by decide)) u _
  have hregion (r : Nat) : u.region r = s.region r := State.region_of_regions (honly .regions (by decide)) r
  have hbusy (r : Nat) : u.busyRegion r = s.busyRegion r := by
    refine busyRegion_congr (honly .load (by decide)) (honly .swapWant (by decide)) (hkeep _ ?_)
    simp only [List.mem_singleton, forall_eq, tnkHealth, dbgReg, Reg.addr, Blk.base, winBase]
    omega
  have hat (k : Nat) : (u.each (List.range 32) (State.freezeOne v)).region k = if k ∈ List.range 32 then (s.region k).asked (bit v k) (s.freezeWaits k) else s.region k := by
    rw [freezeWaits_eq, ← hregion, ← hbusy]
    refine State.each_at (fun s => s.region k) (fun s => s.busyRegion k) (fun y x => x.asked (bit v k) (x.gate || y)) (fun s a _ => ?_) (fun s _ => ?_) (fun s a _ ha => freezeOne_ne v s ha) u List.nodup_range
    · have h := freezeOne_only v s a
      exact busyRegion_congr (h .load (by decide)) (h .swapWant (by decide)) (State.rget_of_regs (h .regs (by decide)) _)
    · rw [freezeOne_self, freezeWaits_eq]
  refine ⟨(State.rf_of_regs hregs _ _ _).trans hfield, fun r hr => (hat r).trans (if_pos (List.mem_range.mpr hr)),
    fun r hr => (hat r).trans (if_neg (by rw [List.mem_range]; omega)), hkeep.then_regs hregs, (honly.mono (by simp)).trans ?_⟩
  exact State.each_mem_inv (P := fun w => Only [.regs, .regions] u w) (.refl _ u) fun w a _ h => h.trans ((freezeOne_only v w a).mono (by simp))

/-- R475: a region whose cells are all held. -/
theorem freezeDone_held {r : Nat} (h : s.rb (dbgReg 0x10) r = true ∧ ((s.region r).frozen = true ∨ s.freezeWaits r = false)) : s.freezeDone r = s.setFrozen r true true := by
  unfold State.freezeDone
  exact if_pos (by simpa using h)

theorem freezeDone_other {r : Nat} (h : ¬ (s.rb (dbgReg 0x10) r = true ∧ ((s.region r).frozen = true ∨ s.freezeWaits r = false))) : s.freezeDone r = s := by
  unfold State.freezeDone
  exact if_neg (by simpa using h)

theorem setFrozen_freezes (s : State) (r : Nat) : (s.setFrozen r true true).region r = { s.region r with frozen := true, frozenDone := true } ∧ (∀ q : Nat, q ≠ r → (s.setFrozen r true true).region q = s.region q) ∧
    Only [.regions] s (s.setFrozen r true true) :=
  ⟨s.region_setRegion_same r _, fun q hq => s.region_setRegion_ne r q _ hq, (State.setFrozen_ev r true true (Ev.refl (fieldMask [.regions]) s) (by rfl)).only_mask⟩

/-! Resuming and feeding a core (R473). -/

theorem resume_running {c : Nat} (h : s.coreHalted c = false) : s.resume c = s := by
  unfold State.resume
  rw [h]
  rfl

theorem resume_steps {c : Nat} (h : s.coreHalted c = true) (hstep : s.rb (dbgCore c 0) 29 = true) : s.resume c = s.haltCore c 4 := by
  unfold State.resume
  rw [h, hstep]
  rfl

theorem resume_goes {c : Nat} (h : s.coreHalted c = true) (hstep : s.rb (dbgCore c 0) 29 = false) : s.resume c = s.setHalted c false := by
  unfold State.resume
  rw [h, hstep]
  rfl

/-- What a fed instruction that executes does outside the core. -/
def State.fedDoes (s : State) (c : Nat) : FedEffect → State
  | .inside => s
  | .trap => s
  | .load addr w =>
    if 0x100000000 ≤ addr then (s.coreLoad c addr w).rsetb (dbgCore c 4) 29 ((s.coreLoad c addr w).core c).load.isSome
    else { (s.busRead (.core c) addr w false).1 with rdata := (s.busRead (.core c) addr w false).2 }
  | .store addr w v => if 0x100000000 ≤ addr then s.coreStore c addr w v else s.busWrite (.core c) addr w v
  | .scratch v => s.rput (dbgCore c 0x10) v

theorem feedIn_busy {c : Nat} (insn : Word) (eff : FedEffect) (h : ¬ (s.coreHalted c = true ∧ s.rb (dbgCore c 4) 29 = false)) : s.feedIn c insn eff = s.violAt (dbgReg 8) := by
  have hbusy : (!s.coreHalted c || s.rb (dbgCore c 4) 29) = true := by
    rw [Bool.or_eq_true, Bool.not_eq_true']
    by_contra hno
    rw [not_or, Bool.not_eq_false, Bool.not_eq_true] at hno
    exact h hno
  unfold State.feedIn State.feedStart
  rw [hbusy]
  rfl

theorem feedIn_ready {c : Nat} (insn : Word) (eff : FedEffect) (h : s.coreHalted c = true ∧ s.rb (dbgCore c 4) 29 = false) :
    s.feedIn c insn eff = if (decide (eff = .trap) || fedBarred insn) = true then s.sticky (dbgCore c 4) 30 else s.fedDoes c eff := by
  unfold State.feedIn State.feedStart
  rw [h.1, h.2, if_neg (by decide)]
  by_cases hbar : (decide (eff = .trap) || fedBarred insn) = true
  · rw [if_pos hbar, if_pos hbar]
    rfl
  · rw [if_neg hbar, if_neg hbar]
    cases eff <;> rfl

/-- A fed load from the fabric (R473): the core waits for its reply. -/
theorem fedLoad_sets {c addr : Nat} (w : Width) (ha : 0x100000000 ≤ addr) (hin : inFabric addr = true) :
    let u := s.fedDoes c (.load addr w)
    u.rb (dbgCore c 4) 29 = true ∧ SetsOut { iss := .core c, lp := 4096, tc := 3, kind := .read, addr := addr, data := {}, w := w } s u ∧ u.core c = { s.core c with load := some s.nextId } ∧
      KeepRegs [dbgCore c 4] s u := by
  have hload : s.coreLoad c addr w = (s.toFabric (.core c) addr w .read 0 false).setCore c { s.core c with load := some s.nextId } := by
    unfold State.coreLoad
    exact if_neg (by simp [hin])
  have hout : SetsOut { iss := .core c, lp := 4096, tc := 3, kind := .read, addr := addr, data := {}, w := w } s (s.toFabric (.core c) addr w .read 0 false) := ⟨rfl, rfl⟩
  have hregs : (s.toFabric (.core c) addr w .read 0 false).regs = s.regs := (State.toFabric_ev _ _ _ _ _ _ (Ev.refl (fieldMask [.flights, .nextId]) s) (by rfl)).only_mask .regs (by decide)
  have hdoes : s.fedDoes c (.load addr w) = (s.coreLoad c addr w).rsetb (dbgCore c 4) 29 ((s.coreLoad c addr w).core c).load.isSome := if_pos ha
  dsimp only
  rw [hdoes, hload]
  generalize s.toFabric (.core c) addr w .read 0 false = v at hout hregs ⊢
  have hcore : (v.setCore c { s.core c with load := some s.nextId }).core c = { s.core c with load := some s.nextId } := v.core_setCore_same c _
  have hkeep : KeepRegs [dbgCore c 4] s (v.setCore c { s.core c with load := some s.nextId }) := .of_regs ((v.setCore_regs c _).trans hregs)
  have hout' : SetsOut { iss := .core c, lp := 4096, tc := 3, kind := .read, addr := addr, data := {}, w := w } s (v.setCore c { s.core c with load := some s.nextId }) := hout
  rw [hcore]
  generalize v.setCore c { s.core c with load := some s.nextId } = x at hcore hkeep hout' ⊢
  exact ⟨State.rb_rsetb_self x _ _ _ (by decide), hout', hcore, hkeep.rsetb _ _ List.mem_cons_self⟩

/-- A fed store to the fabric, while fewer than sixteen are posted. -/
theorem fedStore_sets {c addr : Nat} (w : Width) (v : BitVec 64) (ha : 0x100000000 ≤ addr) (hin : inFabric addr = true)
    (hroom : (s.flights.filter (fun f => f.iss == .core c && f.kind == .write)).length < 16) :
    let u := s.fedDoes c (.store addr w v)
    SetsOut { iss := .core c, lp := 4096, tc := 3, kind := .write, addr := addr, data := { d := v.setWidth 32 }, w := w } s u ∧ Only [.flights, .nextId] s u := by
  have hdoes : s.fedDoes c (.store addr w v) = s.toFabric (.core c) addr w .write (v.setWidth 32) false := by
    refine (if_pos ha).trans ?_
    unfold State.coreStore
    rw [if_neg (by simp [hin]), if_neg (Nat.not_le.mpr hroom)]
  dsimp only
  rw [hdoes]
  exact ⟨⟨rfl, rfl⟩, (State.toFabric_ev _ _ _ _ _ _ (Ev.refl (fieldMask [.flights, .nextId]) s) (by rfl)).only_mask⟩

end Machine

/-- Settles O53: halting, resuming and feeding a core, breaking a lock, freezing regions, and detaching. -/
theorem haltsAndFreezes : Obligations.HaltsAndFreezes := by
  unfold Obligations.HaltsAndFreezes
  refine ⟨fun c cause s => ?_, fun iss c insn eff r b v s hiss => ?_, fun c s => ?_, fun c insn eff s => ?_, fun r b s => ?_, fun v s => ?_, fun r s => ?_, fun s => ?_⟩
  · exact ⟨fun ⟨hhalted, hload, hdom, hcause⟩ => .of_eq (ok_congr (haltNow_can hhalted hload hdom hcause)) (haltCore_halted s c.isLt cause.isLt),
      fun hno => ok_congr (haltNow_cannot hno)⟩
  · exact ⟨.of_eq rfl (debugOnly_counts hiss s _), .of_eq rfl (debugOnly_counts hiss s _), .of_eq rfl (debugOnly_counts hiss s _),
      .of_eq rfl (debugOnly_counts hiss s _), .of_eq rfl (debugOnly_counts hiss s _)⟩
  · refine ⟨fun h => .of_eq rfl (resume_running h), fun h hstep => .of_eq rfl ?_, fun h hstep => .of_eq rfl ?_⟩
    · rw [debugOnly_debug, resume_steps h hstep]
      exact haltCore_halted s c.isLt (by decide)
    · rw [debugOnly_debug, resume_goes h hstep]
      exact setHalted_leaves s c.isLt false
  · intro f ready runs
    have hexec (u : State) (h : s.feedIn c insn eff = u) : exec f s = .next u.ixSettle := h ▸ rfl
    have hruns (h : runs) (ht : eff ≠ .trap) : s.feedIn c insn eff = s.fedDoes c eff := by
      rw [feedIn_ready insn eff h.1, if_neg (by rw [h.2, decide_eq_false ht]; decide)]
    refine ⟨fun h => ?_, fun h hbar => ?_, fun h heff => ?_, fun h x heff => ?_, fun h a w s1 x heff ha hbus => ?_, fun h a w x heff ha => ?_, fun h a w heff ha hin => ?_,
      fun h a w x heff ha hin hroom => ?_⟩
    · exact .of_eq (hexec _ (feedIn_busy insn eff h)) (State.violAt_countedAt rfl (by simp))
    · refine .of_eq (hexec _ ((feedIn_ready insn eff h).trans (if_pos (by simpa using hbar)))) ?_
      exact ⟨State.rb_sticky_self _ _ _ (by decide), fun j hj => State.rb_sticky_bit _ _ _ _ hj, (KeepRegs.refl _ s).sticky _ List.mem_cons_self,
        (State.sticky_ev (dbgCore c 4) 30 (Ev.refl (fieldMask [.regs]) s) (by rfl)).only_mask⟩
    all_goals
      subst heff
      have hdoes := hexec _ (hruns h (fun ht => nomatch ht))
    · exact .of_eq hdoes rfl
    · exact .of_eq hdoes ⟨State.rget_rput_same _ _ _, rput_leaves _ _ _⟩
    · have hnear : s.fedDoes c (.load a w) = { s1 with rdata := x } := (if_neg (Nat.not_le.mpr ha)).trans (by rw [hbus])
      rw [hnear] at hdoes
      exact .of_eq hdoes ⟨rfl, ((Ev.refl (fieldMask [.rdata]) s1).set_rdata (by rfl)).only_mask⟩
    · exact .of_eq hdoes (if_neg (Nat.not_le.mpr ha))
    · exact .of_eq hdoes (fedLoad_sets w ha hin)
    · exact .of_eq hdoes (fedStore_sets w x ha hin hroom)
  · exact .of_eq (ok_congr (debugOnly_debug s _)) (brkWrite_breaks s r.isLt b.isLt)
  · exact .of_eq (ok_congr (debugOnly_debug s _)) (freezeWrite_freezes s v)
  · exact ⟨fun h => .of_eq (ok_congr (freezeDone_held h)) (setFrozen_freezes s r), fun h => ok_congr (freezeDone_other h)⟩
  · exact .of_eq rfl (detach_frees s)

end Sys2Proof
end

section
/-! O52: the test access port, the boundary register and debug accesses. -/

namespace Sys2Proof

open Machine

namespace Machine

variable {s t u : State}

/-! Pads taken by a boundary-scan instruction, and given back (R469). -/

/-- A pin whose pad a boundary scan drives. -/
def Pin.scanned (x : Pin) (lit : Bool) (b : Option Bool) : Pin := if lit then { x with pad := b.getD x.pad } else x

theorem scanPad_self (s : State) (p : Nat) : (s.scanPad p).pin p = (s.pin p).scanned (decide (s.dom (672 + p / 32) = 0)) (s.scanDrive (3 * p)) := by
  unfold State.scanPad Pin.scanned
  by_cases hdom : s.dom (672 + p / 32) = 0
  · rw [if_neg (not_not.mpr hdom), if_pos (decide_eq_true hdom)]
    cases s.scanDrive (3 * p) with
    | none => rfl
    | some b => exact State.pin_setPin_same _ _ _
  · rw [if_pos hdom, decide_eq_false hdom]
    rfl

theorem scanPad_leaves (s : State) (a : Nat) : Only [.pins] s (s.scanPad a) ∧ ∀ p, a ≠ p → (s.scanPad a).pin p = s.pin p := by
  refine ⟨(State.scanPad_ev a (Ev.refl (fieldMask [.pins]) s) (by rfl)).only_mask, fun p hp => ?_⟩
  unfold State.scanPad
  split
  · rfl
  · split
    · exact State.pin_setPin_ne _ _ _ _ hp.symm
    · rfl

/-- What a boundary scan reads of the state besides the pins. -/
def State.scanSource (s : State) (p : Nat) : Bool × Option Bool := (decide (s.dom (672 + p / 32) = 0), s.scanDrive (3 * p))

theorem scanSource_congr (hregs : u.regs = s.regs) (hir : u.tapIr = s.tapIr) (hscan : u.bscan = s.bscan) (p : Nat) : u.scanSource p = s.scanSource p := by
  unfold State.scanSource State.scanDrive
  rw [State.dom_of_regs hregs, hir, hscan]

/-- Every Lit pad with cells taken. -/
def State.scanAll (s : State) : State := s.each (List.range 768) State.scanPad

theorem scanAll_scans (s : State) : Only [.pins] s s.scanAll ∧ ∀ p < 768, s.dom (672 + p / 32) = 0 → (s.scanAll.pin p).pad = (s.scanDrive (3 * p)).getD (s.pin p).pad := by
  refine ⟨State.each_mem_inv (P := fun w => Only [.pins] s w) (.refl _ s) fun w a _ h => h.trans (scanPad_leaves w a).1, fun p hp hdom => ?_⟩
  have hat := State.each_at (fun s => s.pin p) (fun s => s.scanSource p) (fun y x => Pin.scanned x y.1 y.2) (f := State.scanPad) (l := List.range 768) (k := p)
    (fun s a _ => scanSource_congr ((scanPad_leaves s a).1 .regs (by decide)) ((scanPad_leaves s a).1 .tapIr (by decide)) ((scanPad_leaves s a).1 .bscan (by decide)) p)
    (fun s _ => scanPad_self s p) (fun s a _ ha => (scanPad_leaves s a).2 p ha) s List.nodup_range
  rw [if_pos (List.mem_range.mpr hp)] at hat
  unfold State.scanAll
  rw [hat]
  unfold State.scanSource Pin.scanned
  rw [if_pos (decide_eq_true hdom)]

/-- A pad's owner, and the one that comes. -/
def State.padOwners (s : State) (p : Nat) : Option Owner × Owner := ((s.padOf p).coming, (s.padOf p).owner)

theorem scanBack_self (s : State) (p : Nat) :
    (s.scanBack p).padOwners p = if s.dom (672 + p / 32) = 0 then (some ((s.padOwners p).1.getD (s.padOwners p).2), (s.padOwners p).2) else s.padOwners p := by
  unfold State.scanBack
  by_cases hdom : s.dom (672 + p / 32) = 0
  · rw [if_neg (not_not.mpr hdom), if_pos hdom]
    unfold State.padOwners
    rw [State.padOf_setPad_same]
  · rw [if_pos hdom, if_neg hdom]

theorem scanBack_leaves (s : State) (a : Nat) : Only [.pads] s (s.scanBack a) ∧ ∀ p, a ≠ p → (s.scanBack a).padOwners p = s.padOwners p := by
  refine ⟨(State.scanBack_ev a (Ev.refl (fieldMask [.pads]) s) (by rfl)).only_mask, fun p hp => ?_⟩
  unfold State.scanBack State.padOwners
  split
  · rfl
  · rw [State.padOf_setPad_ne _ _ _ _ hp.symm]

theorem scanBack_each (s : State) {l : List Nat} (hl : l.Nodup) :
    Only [.pads] s (s.each l State.scanBack) ∧ ∀ p ∈ l, s.dom (672 + p / 32) = 0 → ((s.each l State.scanBack).padOf p).coming = some ((s.padOf p).coming.getD (s.padOf p).owner) := by
  refine ⟨State.each_mem_inv (P := fun w => Only [.pads] s w) (.refl _ s) fun w a _ h => h.trans (scanBack_leaves w a).1, fun p hp hdom => ?_⟩
  have hat := State.each_at (fun s => s.padOwners p) (fun s => s.dom (672 + p / 32)) (fun n x => if n = 0 then (some (x.1.getD x.2), x.2) else x) (f := State.scanBack) (l := l) (k := p)
    (fun s a _ => State.dom_of_regs ((scanBack_leaves s a).1 .regs (by decide)) _) (fun s _ => scanBack_self s p) (fun s a _ ha => (scanBack_leaves s a).2 p ha) s hl
  rw [if_pos hp, if_pos hdom] at hat
  exact congrArg Prod.fst hat

/-- Every Lit pad with cells given back. -/
def State.scanEnd (s : State) : State := s.each (List.range 768) State.scanBack

theorem scanEnd_gives (s : State) : Only [.pads] s s.scanEnd ∧ ∀ p < 768, s.dom (672 + p / 32) = 0 → (s.scanEnd.padOf p).coming = some ((s.padOf p).coming.getD (s.padOf p).owner) := by
  obtain ⟨honly, hback⟩ := scanBack_each s (l := List.range 768) List.nodup_range
  exact ⟨honly, fun p hp => hback p (List.mem_range.mpr hp)⟩

/-! Selecting an instruction (R468, R469). -/

/-- The instruction register set. -/
def State.setTapIr (s : State) (ir : BitVec 8) : State := { s with tapIr := ir }

theorem only_setTapIr (s : State) (ir : BitVec 8) : Only [.tapIr] s (s.setTapIr ir) := ((Ev.refl (fieldMask [.tapIr]) s).set_tapIr (by rfl)).only_mask

/-- The pads after the TAP selects an instruction, which `t` holds: taken, given back, or left alone. -/
def PadsMoved (s t : State) : Prop :=
  (t.scanned = true → (∀ p < 768, s.dom (672 + p / 32) = 0 → (t.pin p).pad = (t.scanDrive (3 * p)).getD (s.pin p).pad) ∧ t.pads = s.pads) ∧
  (t.scanned = false → s.scanned = true → (∀ p < 768, s.dom (672 + p / 32) = 0 → (t.padOf p).coming = some ((s.padOf p).coming.getD (s.padOf p).owner)) ∧ t.pins = s.pins) ∧
  (t.scanned = false → s.scanned = false → t.pads = s.pads ∧ t.pins = s.pins)

theorem scanned_of_tapIr (h : u.tapIr = s.tapIr) : u.scanned = s.scanned := by
  unfold State.scanned
  rw [h]

theorem State.pin_of_pins (h : u.pins = s.pins) (p : Nat) : u.pin p = s.pin p := by
  unfold State.pin
  rw [h]

theorem State.padOf_of_pads (h : u.pads = s.pads) (p : Nat) : u.padOf p = s.padOf p := by
  unfold State.padOf
  rw [h]

theorem State.scanDrive_congr (hir : u.tapIr = s.tapIr) (hscan : u.bscan = s.bscan) (i : Nat) : u.scanDrive i = s.scanDrive i := by
  unfold State.scanDrive
  rw [hir, hscan]

/-- The pads follow an instruction alone: what the registers take besides does not matter. -/
theorem padsMoved_then (h : PadsMoved s t) (honly : Only [.regs] t u) : PadsMoved s u := by
  have hscanned := scanned_of_tapIr (honly .tapIr (by decide))
  have hpads : u.pads = t.pads := honly .pads (by decide)
  have hpins : u.pins = t.pins := honly .pins (by decide)
  unfold PadsMoved at h ⊢
  rw [hscanned, hpads, hpins]
  simp only [State.pin_of_pins hpins, State.padOf_of_pads hpads, State.scanDrive_congr (honly .tapIr (by decide)) (honly .bscan (by decide))]
  exact h

theorem keepersFollow_then (h : KeepersFollow s t) (hk : u.gkeeps = t.gkeeps) : KeepersFollow s u := by
  have hkeep (i : Nat) : u.gkeep i = t.gkeep i := by
    unfold State.gkeep
    rw [hk]
  intro i hi
  rw [hkeep]
  exact h i hi

theorem tapTo_moves (s : State) (ir : BitVec 8) :
    let t := s.tapTo ir
    t.tapIr = ir ∧ PadsMoved s t ∧ KeepersFollow s t ∧ t.regs = s.regs ∧ Only [.pins, .pads, .gkeeps, .tapIr] s t := by
  let f : State → State := fun s => s.setTapIr ir
  have hkeepers : KeepersFollow s (s.gpioDo f) := s.keepersFollow_gpioDo f (fun _ => rfl)
  have hgkeeps : Only [.gkeeps] (s.setTapIr ir) (s.gpioDo f) := by
    refine State.each_mem_inv (P := fun w => Only [.gkeeps] (s.setTapIr ir) w) (.refl _ _) fun w a _ h => ?_
    split
    · exact h.trans ((Ev.refl (fieldMask [.gkeeps]) w).setGkeep (by rfl) _ _).only_mask
    · exact h
  have honly : Only [.gkeeps, .tapIr] s (s.gpioDo f) := ((only_setTapIr s ir).mono (by simp)).trans (hgkeeps.mono (by simp))
  have hir : (s.gpioDo f).tapIr = ir := hgkeeps .tapIr (by decide)
  have htap : s.tapTo ir = if (s.gpioDo f).scanned then (s.gpioDo f).scanAll else if s.scanned then (s.gpioDo f).scanEnd else s.gpioDo f := rfl
  dsimp only
  rw [htap]
  clear_value f
  generalize s.gpioDo f = v at hkeepers honly hir ⊢
  have hregs : v.regs = s.regs := honly .regs (by decide)
  have hpads : v.pads = s.pads := honly .pads (by decide)
  have hpins : v.pins = s.pins := honly .pins (by decide)
  have hdom (n : Nat) : v.dom n = s.dom n := State.dom_of_regs hregs n
  split
  · next hon =>
    obtain ⟨hall, hpad⟩ := scanAll_scans v
    have hscanned : v.scanAll.scanned = true := (scanned_of_tapIr (hall .tapIr (by decide))).trans hon
    refine ⟨(hall .tapIr (by decide)).trans hir, ⟨fun _ => ⟨fun p hp hlit => ?_, (hall .pads (by decide)).trans hpads⟩, fun hoff => absurd (hscanned.symm.trans hoff) (by decide),
      fun hoff => absurd (hscanned.symm.trans hoff) (by decide)⟩, keepersFollow_then hkeepers (hall .gkeeps (by decide)), (hall .regs (by decide)).trans hregs, (honly.mono (by simp)).trans (hall.mono (by simp))⟩
    rw [hpad p hp ((hdom _).trans hlit), State.scanDrive_congr (hall .tapIr (by decide)) (hall .bscan (by decide)), State.pin_of_pins hpins]
  · next hoff =>
    have hoff : v.scanned = false := Bool.eq_false_iff.mpr hoff
    split
    · next hwas =>
      obtain ⟨hall, hback⟩ := scanEnd_gives v
      have hscanned : v.scanEnd.scanned = false := (scanned_of_tapIr (hall .tapIr (by decide))).trans hoff
      refine ⟨(hall .tapIr (by decide)).trans hir, ⟨fun hon => absurd (hscanned.symm.trans hon) (by decide), fun _ _ => ⟨fun p hp hlit => ?_, (hall .pins (by decide)).trans hpins⟩,
        fun _ hno => absurd (hwas.symm.trans hno) (by decide)⟩, keepersFollow_then hkeepers (hall .gkeeps (by decide)), (hall .regs (by decide)).trans hregs, (honly.mono (by simp)).trans (hall.mono (by simp))⟩
      rw [hback p hp ((hdom _).trans hlit), State.padOf_of_pads hpads]
    · next hwas =>
      exact ⟨hir, ⟨fun hon => absurd (hoff.symm.trans hon) (by decide), fun _ hyes => absurd hyes hwas, fun _ _ => ⟨hpads, hpins⟩⟩, hkeepers, hregs, honly.mono (by simp)⟩

/-! The boundary register (R469). -/

/-- The boundary register scanned. -/
def State.setBscan (s : State) (v : BitVec 2592) : State := { s with bscan := v }

theorem only_setBscan (s : State) (v : BitVec 2592) : Only [.bscan] s (s.setBscan v) := ((Ev.refl (fieldMask [.bscan]) s).set_bscan (by rfl)).only_mask

theorem scanCapture_captures (s : State) : (∀ i < 2592, s.scanCapture.bcap.getLsbD i = s.scanCell i) ∧ Only [.free, .bcap] s s.scanCapture := by
  refine ⟨fun i hi => ?_, (State.scanCapture_ev (Ev.refl (fieldMask [.free, .bcap]) s) (by rfl)).only_mask⟩
  have hcap : s.scanCapture.bcap = BitVec.ofNat 2592 (bitSum s.scanCell 2592) := rfl
  rw [hcap, BitVec.getLsbD_ofNat, testBit_bitSum, decide_eq_true hi, Bool.true_and, Bool.true_and]

/-- R469: a scan under EXTEST drives the pads by what it leaves in the register. -/
theorem exec_boundary_sample (v : BitVec 2592) (h : s.tapIr = 1) : exec (.boundaryRegisterUpdate v) s = .next (s.scanCapture.setBscan v) := if_pos h

theorem exec_boundary_extest (v : BitVec 2592) (h : s.tapIr = 0) : exec (.boundaryRegisterUpdate v) s = .next (s.scanCapture.gpioDo (fun s => s.setBscan v)).scanAll :=
  (if_neg (by rw [h]; decide)).trans (if_pos h)

theorem exec_boundary_other (v : BitVec 2592) (h0 : s.tapIr ≠ 0) (h1 : s.tapIr ≠ 1) : exec (.boundaryRegisterUpdate v) s = .next s := (if_neg h1).trans (if_neg h0)

theorem only_gpioDo (s : State) (f : State → State) : Only [.gkeeps] (f s) (s.gpioDo f) := by
  refine State.each_mem_inv (P := fun w => Only [.gkeeps] (f s) w) (.refl _ _) fun w a _ h => ?_
  split
  · exact h.trans ((Ev.refl (fieldMask [.gkeeps]) w).setGkeep (by rfl) _ _).only_mask
  · exact h

theorem boundary_samples (s : State) (v : BitVec 2592) : let t := s.scanCapture.setBscan v
    (t.bscan = v ∧ ∀ i < 2592, t.bcap.getLsbD i = s.scanCell i) ∧ Only [.free, .bscan, .bcap] s t := by
  obtain ⟨hcells, honly⟩ := scanCapture_captures s
  dsimp only
  generalize s.scanCapture = w at hcells honly ⊢
  exact ⟨⟨rfl, hcells⟩, (honly.mono (by simp)).trans ((only_setBscan w v).mono (by simp))⟩

theorem boundary_drives {v : BitVec 2592} (h : s.tapIr = 0) : let t := (s.scanCapture.gpioDo (fun s => s.setBscan v)).scanAll
    (t.bscan = v ∧ ∀ i < 2592, t.bcap.getLsbD i = s.scanCell i) ∧
    (∀ p < 768, s.dom (672 + p / 32) = 0 → (t.pin p).pad = if v.getLsbD (3 * p + 2) then v.getLsbD (3 * p + 1) else (s.pin p).pad) ∧ Only [.free, .bscan, .bcap, .pins, .gkeeps] s t := by
  obtain ⟨⟨hscan, hcells⟩, honly⟩ := boundary_samples s v
  have hgpio := only_gpioDo s.scanCapture (fun s => s.setBscan v)
  dsimp only at hgpio ⊢
  generalize s.scanCapture.setBscan v = w at hscan hcells honly hgpio
  generalize s.scanCapture.gpioDo (fun s => s.setBscan v) = x at hgpio ⊢
  obtain ⟨hall, hpad⟩ := scanAll_scans x
  have hx : Only [.free, .bscan, .bcap, .gkeeps] s x := (honly.mono (by simp)).trans (hgpio.mono (by simp))
  have hbscan : x.bscan = v := (hgpio .bscan (by decide)).trans hscan
  have hdrive (i : Nat) : x.scanDrive i = if v.getLsbD (i + 2) then some (v.getLsbD (i + 1)) else none := by
    unfold State.scanDrive
    rw [hbscan, (hx .tapIr (by decide) : x.tapIr = s.tapIr), h]
    rfl
  refine ⟨⟨(hall .bscan (by decide)).trans hbscan, fun i hi => ?_⟩, fun p hp hlit => ?_, (hx.mono (by simp)).trans (hall.mono (by simp))⟩
  · rw [(hall .bcap (by decide) : x.scanAll.bcap = x.bcap), (hgpio .bcap (by decide) : x.bcap = w.bcap)]
    exact hcells i hi
  · rw [hpad p hp ((State.dom_of_regs (hx .regs (by decide)) _).trans hlit), hdrive, State.pin_of_pins (hx .pins (by decide))]
    split
    · rfl
    · rfl

/-! Debug accesses (R470, R471). -/

/-- The result of a debug read. -/
def State.dbgGives (s : State) (d : BitVec 64) : State := { s with dbgStatus := 0, dbgP := false, dbgData := d }

/-- A debug write done. -/
def State.dbgDone (s : State) : State := { s with dbgStatus := 0 }

theorem only_dbgGives (s : State) (d : BitVec 64) : Only [.dbgStatus, .dbgP, .dbgData] s (s.dbgGives d) :=
  ((Ev.refl (fieldMask [.dbgStatus, .dbgP, .dbgData]) s).set_dbgStatus_dbgP_dbgData (by rfl)).only_mask

theorem only_dbgDone (s : State) : Only [.dbgStatus] s s.dbgDone := ((Ev.refl (fieldMask [.dbgStatus]) s).set_dbgStatus (by rfl)).only_mask

/-- A debug access may start (R447, R470). -/
def DbgFree (s : State) (a : Nat) : Prop := s.tapIr = 0x10 ∧ s.dbgAcc = none ∧ (s.dramLit = true ∨ ¬ (0x40000000 ≤ a ∧ a < 0x60000000))

theorem dbgFree_iff (s : State) (a : Nat) : s.dbgFree a = true ↔ DbgFree s a := by
  unfold State.dbgFree isDram DbgFree
  rw [Bool.and_eq_true, Bool.and_eq_true, Bool.or_eq_true, Bool.not_eq_true', decide_eq_true_eq, decide_eq_false_iff_not, Option.isNone_iff_eq_none, and_assoc]

section Accesses

variable (addr : BitVec 64) (w64 : Bool) (v : BitVec 64)

theorem dbg_waits (h : ¬ DbgFree s (addr.toNat % 2 ^ 36)) :
    exec (.dbgaccRead addr w64) s = .next s ∧ exec (.dbgaccConsumingRead addr w64) s = .next s.ixSettle ∧ exec (.dbgaccWrite addr w64 v) s = .next s := by
  have hfree : (!s.dbgFree (addr.toNat % 2 ^ 36)) = true := by
    rw [Bool.not_eq_true', Bool.eq_false_iff]
    exact fun hf => h ((dbgFree_iff s _).mp hf)
  have hread (consume : Bool) : s.dbgRead (addr.toNat % 2 ^ 36) w64 consume = s := if_pos hfree
  exact ⟨ok_congr (hread false), ok_congr (congrArg State.ixSettle (hread true)), if_pos hfree⟩

theorem dbgRead_fabric {a : Nat} (h : DbgFree s a) (hin : inFabric a = true) (consume : Bool) : s.dbgRead a w64 consume = s.dbgWait a w64 .read 0 (!consume) := by
  unfold State.dbgRead
  rw [if_neg (by rw [(dbgFree_iff s a).mpr h]; decide), if_pos hin]

theorem dbgRead_base {a : Nat} (h : DbgFree s a) (hin : inFabric a = false) (consume : Bool) :
    s.dbgRead a w64 consume = (s.busRead .debug a (width64 w64) consume).1.dbgGives (s.busRead .debug a (width64 w64) consume).2 := by
  unfold State.dbgRead
  rw [if_neg (by rw [(dbgFree_iff s a).mpr h]; decide), if_neg (by rw [hin]; decide)]
  rfl

theorem dbgWrite_fabric (h : DbgFree s (addr.toNat % 2 ^ 36)) (hin : inFabric (addr.toNat % 2 ^ 36) = true) :
    exec (.dbgaccWrite addr w64 v) s = .next (s.dbgWait (addr.toNat % 2 ^ 36) w64 .write (v.setWidth 32) false) :=
  (if_neg (by rw [(dbgFree_iff s _).mpr h]; decide)).trans (if_pos hin)

theorem dbgWrite_base (h : DbgFree s (addr.toNat % 2 ^ 36)) (hin : inFabric (addr.toNat % 2 ^ 36) = false) :
    exec (.dbgaccWrite addr w64 v) s = .next (s.busWrite .debug (addr.toNat % 2 ^ 36) (width64 w64) v).dbgDone.ixSettle :=
  (if_neg (by rw [(dbgFree_iff s _).mpr h]; decide)).trans (if_neg (by rw [hin]; decide))

end Accesses

/-- A debug access to the fabric sets out in the Sepia class. -/
theorem dbgWait_goes (s : State) (a : Nat) (w64 : Bool) (k : AKind) (d : Word) (quiet : Bool) :
    let t := s.dbgWait a w64 k d quiet
    SetsOut { iss := .debug, lp := 4096, tc := 3, kind := k, addr := a, data := { d := d }, w := width64 w64, quiet := quiet } s t ∧ t.dbgAcc = some ⟨k == .read, s.nextId⟩ ∧ t.dbgStatus = 1 ∧
      Only [.flights, .nextId, .dbgAcc, .dbgStatus] s t :=
  ⟨⟨rfl, rfl⟩, rfl, rfl, (State.dbgWait_ev a w64 k d quiet (Ev.refl (fieldMask [.flights, .nextId, .dbgAcc, .dbgStatus]) s) (by rfl)).only_mask⟩

/-- The answer of the debug access that waits for it. -/
theorem dbgAnswer_read {id : Nat} (a : Answer) (h : s.dbgAcc = some ⟨true, id⟩) :
    let t := s.dbgAnswer id a
    t.flights = s.flights ∧ t.dbgAcc = none ∧ t.dbgStatus = (if a = .quarantined then 3 else 0) ∧ t.dbgP = a.tok.p ∧ t.dbgData = a.tok.d.setWidth 64 ∧
      Only [.dbgAcc, .dbgStatus, .dbgP, .dbgData] s t := by
  have honly : Only [.dbgAcc, .dbgStatus, .dbgP, .dbgData] s (s.dbgAnswer id a) := (State.dbgAnswer_ev id a (Ev.refl (fieldMask [.dbgAcc, .dbgStatus, .dbgP, .dbgData]) s) (by rfl)).only_mask
  unfold State.dbgAnswer at honly ⊢
  rw [h] at honly ⊢
  dsimp only at honly ⊢
  rw [if_neg (not_not.mpr rfl), if_pos rfl] at honly ⊢
  exact ⟨rfl, rfl, rfl, rfl, rfl, honly⟩

theorem dbgAnswer_write {id : Nat} (a : Answer) (h : s.dbgAcc = some ⟨false, id⟩) :
    let t := s.dbgAnswer id a
    t.flights = s.flights ∧ t.dbgAcc = none ∧ t.dbgStatus = (if a = .quarantined then 3 else 0) ∧ Only [.dbgAcc, .dbgStatus] s t := by
  have hanswer : s.dbgAnswer id a = { s with dbgAcc := none, dbgStatus := if a = .quarantined then 3 else 0 } := by
    unfold State.dbgAnswer
    rw [h]
    dsimp only
    rw [if_neg (not_not.mpr rfl), if_neg (by decide)]
  dsimp only
  rw [hanswer]
  exact ⟨rfl, rfl, rfl, ((Ev.refl (fieldMask [.dbgAcc, .dbgStatus]) s).set_dbgAcc_dbgStatus (by rfl)).only_mask⟩

theorem dbgAnswer_other {id : Nat} (a : Answer) (h : ∀ x, s.dbgAcc = some x → x.id ≠ id) : s.dbgAnswer id a = s := by
  unfold State.dbgAnswer
  split
  · next x hx => exact if_pos (h x hx)
  · rfl

theorem exec_dbgReply {id : Nat} {f : Flight} {a : Answer} (hf : s.flight id = some f) (hpath : f.path = []) (hiss : f.iss = .debug) (hans : f.ans = some a) (hkind : f.kind = .read) :
    exec (.accessReply id) s = .next ((s.dropFlight id).dbgAnswer id a) := by
  change execAccessReply id s = _
  unfold execAccessReply
  rw [hf]
  dsimp only
  rw [hpath, hiss, hans, hkind]
  rfl

theorem exec_dbgReport {id : Nat} {f : Flight} {a : Answer} (hf : s.flight id = some f) (hpath : f.path = []) (hiss : f.iss = .debug) (hans : f.ans = some a) (hkind : f.kind = .write) :
    exec (.accessCompletionReport id) s = .next ((s.dropFlight id).dbgAnswer id a) := by
  change execAccessCompletionReport id s = _
  unfold execAccessCompletionReport
  rw [hf]
  dsimp only
  rw [hpath, hiss, hans, hkind]
  rfl

theorem only_dropFlight (s : State) (id : Nat) : Only [.flights] s (s.dropFlight id) := (State.dropFlight_ev id (Ev.refl (fieldMask [.flights]) s) (by rfl)).only_mask

/-! Registers as the debug port reads and writes them (R10, R471). -/

theorem RegInfo.bit_shown (i : RegInfo) (v : RegVal) {j : Nat} : bit (i.shown v) j = (bit v j && (bit i.rw j || bit i.w1c j || bit i.rc j || bit i.ro j)) := by
  unfold RegInfo.shown
  rw [bit_and, bit_or, bit_or, bit_or]

theorem RegInfo.bit_consumed (i : RegInfo) (v : RegVal) {j : Nat} (hj : j < 64) : bit (i.consumed v) j = (bit v j && !bit i.rc j) := by
  unfold RegInfo.consumed
  rw [bit_and, bit_not _ hj]

theorem shown_info {g : Reg} {i : RegInfo} (hi : g.info = some i) : s.shown g = i.shown (s.live g) := by
  unfold State.shown
  rw [hi]

/-- What a read shows of a register, and what one that consumes leaves. -/
theorem shown_readBits {g : Reg} {i : RegInfo} (hi : g.info = some i) {old new : RegVal} (hnew : ∀ j < 64, bit new j = (bit old j && !bit i.rc j)) :
    ReadBits i (s.live g) old (s.shown g) new := by
  rw [shown_info hi]
  exact ⟨fun j _ => i.bit_shown _, hnew⟩

theorem keyRead_blk {g : Reg} {iss : Issuer} (h : s.keyRead iss g = true) : g.blk = .lsm := by
  unfold State.keyRead at h
  simp only [Bool.and_eq_true, beq_iff_eq] at h
  exact h.1.1.1

/-- R389, R11: a read of the wrong width, or of a key register, gives zero and is counted. -/
theorem regRead_refused {g : Reg} {i : RegInfo} {iss : Issuer} {w : Width} (quiet : Bool) (hi : g.info = some i) (h : w ≠ i.width ∨ s.keyRead iss g = true) :
    s.regRead iss g w quiet = (s.violAt (violOf g.blk g.idx), 0) := by
  unfold State.regRead
  rw [hi]
  dsimp only
  refine if_pos ?_
  rw [Bool.or_eq_true, bne_iff_ne]
  exact h.imp_left Ne.symm

theorem regRead_taken {g : Reg} {i : RegInfo} {iss : Issuer} {w : Width} (quiet : Bool) (hi : g.info = some i) (hw : w = i.width) (hkey : s.keyRead iss g = false) :
    s.regRead iss g w quiet = (if quiet then s else s.readDone iss g, s.shown g) := by
  unfold State.regRead
  rw [hi]
  dsimp only
  refine if_neg ?_
  rw [hkey, Bool.or_false, bne_iff_ne]
  exact not_not.mpr hw.symm

/-- R10: a read that consumes clears the RC fields, where the register pops nothing and shows no source. -/
theorem readDone_clears {g : Reg} {i : RegInfo} {iss : Issuer} (hi : g.info = some i) (hup : g.blk ≠ .fryUp) (hasy : (g.blk, g.off) ≠ (.asy, 0xC)) (hcmp : (g.blk, g.off) ≠ (.cmp, 0))
    (hmac : (g.blk, g.off) ≠ (.mac, 0x30)) : s.readDone iss g = if i.rc = 0 then s else s.rput g (i.consumed (s.rget g)) := by
  unfold State.readDone
  split
  · next hb _ => exact absurd hb hup
  · next hb ho => exact absurd (by rw [hb, ho]) hasy
  · next hb ho => exact absurd (by rw [hb, ho]) hcmp
  · next hb ho => exact absurd (by rw [hb, ho]) hmac
  · rw [hi]

theorem readDone_leaves {g : Reg} (i : RegInfo) :
    let u := if i.rc = 0 then s else s.rput g (i.consumed (s.rget g))
    (∀ j < 64, bit (u.rget g) j = (bit (s.rget g) j && !bit i.rc j)) ∧ KeepRegs [g] s u ∧ Only [.regs] s u := by
  dsimp only
  split
  · next hrc =>
    refine ⟨fun j _ => ?_, .refl _ s, .refl _ s⟩
    rw [hrc, show bit (0 : RegVal) j = false from BitVec.getLsbD_zero, Bool.not_false, Bool.and_true]
  · refine ⟨fun j hj => ?_, rput_leaves s g _⟩
    rw [State.rget_rput_same]
    exact i.bit_consumed _ hj

/-- R10: a plain write sets the RW fields and clears the W1C bits written 1. -/
theorem writePlain_writes {g : Reg} {i : RegInfo} (hi : g.info = some i) (v : RegVal) :
    WrittenBits i (s.rget g) v ((s.writePlain g v).rget g) ∧ KeepRegs [g] s (s.writePlain g v) ∧ Only [.regs] s (s.writePlain g v) := by
  rw [s.writePlain_eq v hi]
  refine ⟨fun j _ => ?_, rput_leaves s g _⟩
  rw [State.rget_rput_same]
  exact i.bit_write _ _ j

theorem regWrite_plain {g : Reg} {i : RegInfo} {iss : Issuer} {w : Width} (hiss : mgmtIssuer iss = true) (v : RegVal) (hi : g.info = some i) (hw : w = i.width) (hg : g.blk ∈ [Blk.tnkBase, .fry]) :
    s.regWrite iss g w v = s.writePlain g v := by
  unfold State.regWrite
  rw [hi]
  dsimp only
  rw [if_neg (by rw [bne_iff_ne]; exact not_not.mpr hw.symm)]
  unfold State.regPut
  rcases List.mem_cons.mp hg with hb | hb
  · rw [hb]
    exact s.guarded_mgmt hiss _ _ _
  · rw [List.mem_singleton.mp hb]
    exact s.guarded_mgmt hiss _ _ _

/-- The result of a debug read at the base die, with what the read itself changed. -/
theorem dbgGives_counted {g : Reg} (d : BitVec 64) : CountedAt g [.regs, .dbgStatus, .dbgP, .dbgData] s ((s.violAt g).dbgGives d) := by
  obtain ⟨hcount, -, hkeep, honly⟩ := s.violAt_countsAt g
  have hgives := only_dbgGives (s.violAt g) d
  have hregs : ((s.violAt g).dbgGives d).regs = (s.violAt g).regs := hgives .regs (by decide)
  exact ⟨(State.rf_of_regs hregs _ _ _).trans hcount, hkeep.then_regs hregs, (honly.mono (by simp)).trans (hgives.mono (by simp))⟩

theorem dbgDone_counted {g : Reg} : CountedAt g [.regs, .dbgStatus] s (s.violAt g).dbgDone := by
  obtain ⟨hcount, -, hkeep, honly⟩ := s.violAt_countsAt g
  have hdone := only_dbgDone (s.violAt g)
  have hregs : (s.violAt g).dbgDone.regs = (s.violAt g).regs := hdone .regs (by decide)
  exact ⟨(State.rf_of_regs hregs _ _ _).trans hcount, hkeep.then_regs hregs, (honly.mono (by simp)).trans (hdone.mono (by simp))⟩

end Machine

/-- Settles O52: the TAP's instructions, the boundary register, and the accesses of the debug port. -/
theorem testAccessPort : Obligations.TestAccessPort := by
  unfold Obligations.TestAccessPort
  refine ⟨fun ir s => ?_, fun v s => ?_, fun addr w64 v s => ?_, fun id s f a hf hpath hiss hans => ?_, fun s => ⟨fun h => ?_, fun h => ?_⟩⟩
  · intro scan back moved
    refine ⟨?_, ?_⟩
    · obtain ⟨hir, hmoved, hkeepers, hregs, honly⟩ := tapTo_moves s ir
      have hexec : exec (.tapInstruction ir) s = .next (if ir = 0x02 ∨ ir = 0xFF then s.tapTo ir else ((s.tapTo ir).rsetb (dbgReg 4) 31 true).rsetb (ntyReg 0) 31 true) := rfl
      generalize s.tapTo ir = u at hir hmoved hkeepers hregs honly hexec
      by_cases hquiet : ir = 0x02 ∨ ir = 0xFF
      · rw [if_pos hquiet] at hexec
        exact .of_eq hexec ⟨hir, hmoved, hkeepers, fun _ => .of_regs hregs, fun h2 h255 => absurd hquiet (not_or.mpr ⟨h2, h255⟩), .of_regs hregs, honly.mono (by simp)⟩
      · rw [if_neg hquiet] at hexec
        have hset : Only [.regs] u ((u.rsetb (dbgReg 4) 31 true).rsetb (ntyReg 0) 31 true) :=
          (State.rsetb_ev _ _ _ (State.rsetb_ev _ _ _ (Ev.refl (fieldMask [.regs]) u) (by rfl)) (by rfl)).only_mask
        have hkeep : KeepRegs [dbgReg 4, ntyReg 0] s ((u.rsetb (dbgReg 4) 31 true).rsetb (ntyReg 0) 31 true) :=
          ((KeepRegs.of_regs hregs).rsetb _ _ List.mem_cons_self).rsetb _ _ (by simp)
        have hseen : ((u.rsetb (dbgReg 4) 31 true).rsetb (ntyReg 0) 31 true).rb (dbgReg 4) 31 = true :=
          (State.rb_rput_ne (u.rsetb (dbgReg 4) 31 true) _ _ _ _ (by rw [dbgReg_addr, ntyReg_addr]; omega)).trans (State.rb_rsetb_self u _ _ _ (by decide))
        exact .of_eq hexec ⟨(hset .tapIr (by decide)).trans hir, padsMoved_then hmoved hset, keepersFollow_then hkeepers (hset .gkeeps (by decide)), fun h => absurd h hquiet,
          fun _ _ => ⟨hseen, State.rb_rsetb_self (u.rsetb (dbgReg 4) 31 true) _ _ _ (by decide)⟩, hkeep, (honly.mono (by simp)).trans (hset.mono (by simp))⟩
    · obtain ⟨hir, hmoved, -, hregs, honly⟩ := tapTo_moves s 0x02
      have hexec : exec .trstN s = .next ((s.tapTo 0x02).rsetb (dbgReg 4) 31 false) := rfl
      generalize s.tapTo 0x02 = u at hir hmoved hregs honly hexec
      have hset : Only [.regs] u (u.rsetb (dbgReg 4) 31 false) := (State.rsetb_ev _ _ _ (Ev.refl (fieldMask [.regs]) u) (by rfl)).only_mask
      exact .of_eq hexec ⟨(hset .tapIr (by decide)).trans hir, padsMoved_then hmoved hset, State.rb_rsetb_self u _ _ _ (by decide), (KeepRegs.of_regs hregs).rsetb _ _ List.mem_cons_self,
        (honly.mono (by simp)).trans (hset.mono (by simp))⟩
  · exact ⟨fun h => .of_eq (exec_boundary_sample v h) (boundary_samples s v), fun h => .of_eq (exec_boundary_extest v h) (boundary_drives h), fun h0 h1 => exec_boundary_other v h0 h1⟩
  · intro a w free gives result goes
    have hgives (u : State) (d : BitVec 64) (h : u.dbgAcc = none) : gives d (u.dbgGives d) := ⟨rfl, rfl, rfl, h⟩
    refine ⟨fun h => ?_, fun hfree hregion => ?_, fun hfree hplace => ?_, fun hfree g i hplace hregion hi => ⟨fun hw => ?_, fun hw hkey => ?_, fun hw hkey => ⟨?_, fun hup hasy hcmp hmac => ?_⟩, fun hw hg => ?_⟩⟩
    · obtain ⟨hquiet, hconsume, hwrite⟩ := dbg_waits addr w64 v h
      exact ⟨hquiet, .of_eq hconsume rfl, hwrite⟩
    · exact ⟨.of_eq (ok_congr (dbgRead_fabric w64 hfree hregion false)) (dbgWait_goes s a w64 .read 0 true),
        .of_eq (ok_congr (congrArg State.ixSettle (dbgRead_fabric w64 hfree hregion true))) (dbgWait_goes s a w64 .read 0 false),
        .of_eq (dbgWrite_fabric addr w64 v hfree hregion) (dbgWait_goes s a w64 .write (v.setWidth 32) false)⟩
    · have hin : inFabric a = false := inFabric_of_none (by rw [hplace]; rfl)
      have hbus : s.busRead .debug a w false = (s.violAt (irqReg 0x38), 0) := by
        unfold State.busRead
        rw [hplace]
        rfl
      have hwrite : s.busWrite .debug a w v = s.violAt (irqReg 0x38) := by
        unfold State.busWrite
        rw [hplace]
        rfl
      refine ⟨.of_eq (ok_congr (dbgRead_base w64 hfree hin false)) ?_, .of_eq (dbgWrite_base addr w64 v hfree hin) ?_⟩
      · change gives 0 ((s.busRead .debug a w false).1.dbgGives (s.busRead .debug a w false).2) ∧ CountedAt _ _ s ((s.busRead .debug a w false).1.dbgGives (s.busRead .debug a w false).2)
        rw [hbus]
        exact ⟨hgives _ _ hfree.2.1, dbgGives_counted 0⟩
      · change (s.busWrite .debug a w v).dbgDone.dbgStatus = 0 ∧ CountedAt _ _ s (s.busWrite .debug a w v).dbgDone
        rw [hwrite]
        exact ⟨rfl, dbgDone_counted⟩
    all_goals
      have hin : inFabric a = false := inFabric_of_none hregion
      have hbus (consume : Bool) : s.busRead .debug a w consume = s.regRead .debug g w (quietRead .debug consume) := by
        unfold State.busRead
        rw [hplace]
        exact if_neg (by rw [hin]; decide)
      have hread (consume : Bool) {u : State} {d : BitVec 64} (h : s.regRead .debug g w (quietRead .debug consume) = (u, d)) : s.dbgRead a w64 consume = u.dbgGives d := by
        rw [dbgRead_base w64 hfree hin consume]
        change (s.busRead .debug a w consume).1.dbgGives (s.busRead .debug a w consume).2 = _
        rw [hbus, h]
    · exact .of_eq (ok_congr (hread false (regRead_refused _ hi (.inl hw)))) ⟨hgives _ _ hfree.2.1, dbgGives_counted 0⟩
    · have hblk := keyRead_blk hkey
      have hviol : violOf g.blk g.idx = lsmReg 0x10 := by
        rw [hblk]
        rfl
      refine .of_eq (ok_congr (hread false (regRead_refused _ hi (.inr hkey)))) ⟨hgives _ _ hfree.2.1, ?_⟩
      rw [hviol]
      exact dbgGives_counted 0
    · let e : RegVal := s.rget g &&& ~~~i.rc
      have he (j : Nat) (hj : j < 64) : bit e j = (bit (s.rget g) j && !bit i.rc j) := i.bit_consumed _ hj
      exact .of_eq (ok_congr (hread false (regRead_taken _ hi hw hkey))) ⟨s.shown g, e, shown_readBits hi he, hgives s _ hfree.2.1, only_dbgGives s _⟩
    · have hdone := readDone_clears (s := s) (iss := .debug) hi hup hasy hcmp hmac
      obtain ⟨hbits, hkeep, honly⟩ := readDone_leaves (s := s) (g := g) i
      have htaken := regRead_taken (s := s) (iss := .debug) false hi hw hkey
      rw [hdone, if_neg (by decide)] at htaken
      generalize (if i.rc = 0 then s else s.rput g (i.consumed (s.rget g))) = u at hbits hkeep honly htaken
      have hset := only_dbgGives u (s.shown g)
      have hregs : (u.dbgGives (s.shown g)).regs = u.regs := hset .regs (by decide)
      refine .of_eq (ok_congr (congrArg State.ixSettle (hread true htaken))) ⟨s.shown g, ?_, hgives u _ ((honly .dbgAcc (by decide)).trans hfree.2.1), hkeep.then_regs hregs, ?_⟩
      · rw [State.rget_of_regs hregs]
        exact shown_readBits hi hbits
      · exact (honly.mono (by simp)).trans (hset.mono (by simp [result]))
    · obtain ⟨hbits, hkeep, honly⟩ := writePlain_writes (s := s) hi v
      have hwrite : s.busWrite .debug a w v = s.writePlain g v := by
        unfold State.busWrite
        rw [hplace]
        exact (if_neg (by rw [hin]; decide)).trans (regWrite_plain rfl v hi hw hg)
      refine .of_eq (dbgWrite_base addr w64 v hfree hin) ?_
      change WrittenBits i _ v ((s.busWrite .debug a w v).dbgDone.rget g) ∧ (s.busWrite .debug a w v).dbgDone.dbgStatus = 0 ∧ KeepRegs [g] s (s.busWrite .debug a w v).dbgDone ∧
        Only [.regs, .dbgStatus] s (s.busWrite .debug a w v).dbgDone
      rw [hwrite]
      generalize s.writePlain g v = u at hbits hkeep honly
      have hset := only_dbgDone u
      have hregs : u.dbgDone.regs = u.regs := hset .regs (by decide)
      rw [State.rget_of_regs hregs]
      exact ⟨hbits, rfl, hkeep.then_regs hregs, (honly.mono (by simp)).trans (hset.mono (by simp))⟩
  · intro gone st
    have hdrop := only_dropFlight s id
    have hflights : (s.dropFlight id).flights = s.flights.filter (fun x => x.id != id) := rfl
    have hacc : (s.dropFlight id).dbgAcc = s.dbgAcc := rfl
    refine ⟨fun hkind => ?_, fun hkind => ?_⟩
    · have hexec := exec_dbgReply hf hpath hiss hans hkind
      generalize s.dropFlight id = u at hdrop hflights hacc hexec
      refine ⟨fun hwait => ?_, fun hother => ?_⟩
      · obtain ⟨hfl, hnone, hst, hp, hd, honly⟩ := dbgAnswer_read a (hacc.trans hwait)
        exact .of_eq hexec ⟨hfl.trans hflights, hnone, hst, hp, hd, (hdrop.mono (by simp)).trans (honly.mono (by simp))⟩
      · rw [dbgAnswer_other a (hacc ▸ hother)] at hexec
        exact .of_eq hexec ⟨hflights, hdrop⟩
    · have hexec := exec_dbgReport hf hpath hiss hans hkind
      generalize s.dropFlight id = u at hdrop hflights hacc hexec
      refine ⟨fun hwait => ?_, fun hother => ?_⟩
      · obtain ⟨hfl, hnone, hst, honly⟩ := dbgAnswer_write a (hacc.trans hwait)
        exact .of_eq hexec ⟨hfl.trans hflights, hnone, hst, (hdrop.mono (by simp)).trans (honly.mono (by simp))⟩
      · rw [dbgAnswer_other a (hacc ▸ hother)] at hexec
        exact .of_eq hexec ⟨hflights, hdrop⟩
  · exact ok_congr (if_neg (by rw [h]; decide))
  · exact .of_eq (ok_congr (if_pos (Option.isSome_iff_ne_none.mpr h))) ⟨rfl, rfl, rfl, rfl,
      ((Ev.refl (fieldMask [.dbgAcc, .dbgStatus, .dbgP, .dbgData]) s).set_dbgAcc_dbgStatus_dbgP_dbgData (by rfl)).only_mask⟩

end Sys2Proof
end

section
/-! O57: Ixzento's register writes, and its power and phase opcodes. -/

namespace Sys2Proof

open Machine

namespace Machine

variable {s t u v w : State} {q : Req} {sid : Nat}

/-! Register writes of Ixzento (R435). -/

/-- The word that a write of 32 bits carries. -/
def ixWord (x : Nat) : Word := (BitVec.ofNat 64 (x % 2 ^ 32)).setWidth 32

theorem toNat_ixWord {x : Nat} (h : x < 2 ^ 32) : (ixWord x).toNat = x := by
  unfold ixWord
  rw [BitVec.toNat_setWidth, BitVec.toNat_ofNat]
  omega

theorem fld_ixWord {x : Nat} (h : x < 2 ^ 32) (lo len : Nat) : fld (ixWord x) lo len = x / 2 ^ lo % 2 ^ len := by
  unfold fld
  rw [toNat_ixWord h, Nat.shiftRight_eq_div_pow]

theorem bit_ixWord {x : Nat} (h : x < 2 ^ 32) (j : Nat) : bit (ixWord x) j = x.testBit j := by
  unfold bit
  rw [BitVec.getLsbD, toNat_ixWord h]

theorem ixPut_eq {g : Reg} {i : RegInfo} (x : Nat) (hi : g.info = some i) (hw : i.w64 = false) : s.ixPut g x = s.regPut .ixz g (BitVec.ofNat 64 (x % 2 ^ 32)) := by
  unfold State.ixPut State.regWrite
  rw [hi]
  dsimp only
  refine if_neg ?_
  unfold RegInfo.width
  rw [hw]
  decide

theorem State.ixPut_ix (s : State) (g : Reg) (x : Nat) : (s.ixPut g x).ix = s.ix := (State.ixPut_ev g x (Ev.refl 21510378153076292983208273258 s) (by rfl)).frame .ix rfl

theorem Serves.ixPut (h : Serves s q) (g : Reg) (x : Nat) : Serves (s.ixPut g x) q := h.of_ix (s.ixPut_ix g x)

/-- Registers written one after another leave Ixzento's own state alone. -/
theorem ixWrites_ix {l : List (Reg × Nat)} (h : IxWrites v l w) : w.ix = v.ix := by
  have hfold (l : List (Reg × Nat)) (u : State) : (l.foldl (fun s e => s.regWrite .ixz e.1 .b32 (BitVec.ofNat 64 (e.2 % 2 ^ 32))) u).ix = u.ix := by
    induction l generalizing u with
    | nil => rfl
    | cons e l ih => exact (ih _).trans (u.ixPut_ix e.1 e.2)
  rw [h]
  exact hfold l v

/-- Writes followed by a reply of registers. -/
theorem Serves.writesRegs (h : Serves v q) {l : List (Reg × Nat)} {gs : List Reg} (hw : IxWrites v l w) (hplain : gs.all plainRead = true) (st det : Nat) :
    RepliedRegs w q st det gs [] (w.ixReplyRegs q st det gs) ∧ NoHeld q.sid (w.ixReplyRegs q st det gs) := by
  have hserves : Serves w q := h.of_ix (ixWrites_ix hw)
  exact ⟨hserves.repliedRegs hplain st det, noHeld_ixReplyRegs hplain q st det hserves.noHeld⟩

theorem badParam_row (h : Serves s q) (off : Nat) : BadParam s q off (s.badParam q off) ∧ NoHeld q.sid (s.badParam q off) := ⟨h.badParam off, noHeld_badParam q off h.noHeld⟩

/-! A request for a domain's state (R441 to R443). -/

/-- A state that reads as another in every register of a domain and in every register outside the domains. -/
def SameDoms (s u : State) : Prop :=
  (∀ m, u.rget (lmpDom m) = s.rget (lmpDom m)) ∧ (∀ g : Reg, g.addr < 0x20011000 ∨ 0x20011BB0 ≤ g.addr → u.rget g = s.rget g) ∧ Only [.regs] s u

theorem lmpDom_ne {m n : Nat} (h : m ≠ n) : (lmpDom m).addr ≠ (lmpDom n).addr := by
  rw [lmpDom_addr, lmpDom_addr]
  omega

/-- HOLDM written as it stands. -/
theorem sameDoms_holdm (s : State) {n : Nat} (hn : n < 748) : SameDoms s (s.rsetb (lmpDom n) 27 (s.rb (lmpDom n) 27)) := by
  refine ⟨fun m => ?_, fun g hg => State.rget_rsetb_ne _ _ _ _ _ ?_, (State.rsetb_ev _ _ _ (Ev.refl (fieldMask [.regs]) s) (by rfl)).only_mask⟩
  · by_cases hm : m = n
    · rw [hm]
      refine BitVec.eq_of_getLsbD_eq fun j hj => ?_
      change (s.rsetb (lmpDom n) 27 (s.rb (lmpDom n) 27)).rb (lmpDom n) j = s.rb (lmpDom n) j
      by_cases hj27 : j = 27
      · rw [hj27]
        exact State.rb_rsetb_self _ _ _ _ (by decide)
      · exact State.rb_rsetb_bit _ _ _ _ _ hj27
    · exact State.rget_rsetb_ne _ _ _ _ _ (lmpDom_ne hm)
  · rw [lmpDom_addr]
    omega

theorem SameDoms.dom (h : SameDoms s u) (m : Nat) : u.dom m = s.dom m := State.rf_of_rget (h.1 m) 30 2

theorem SameDoms.domSt (h : SameDoms s u) (m : Nat) : u.domSt m = s.domSt m := by
  unfold State.domSt
  rw [(h.2.2 .doms (by decide) : u.doms = s.doms)]

theorem SameDoms.asy (h : SameDoms s u) {off : Nat} (hoff : off < 0x1000) : u.rget (asyReg off) = s.rget (asyReg off) := by
  refine h.2.1 _ (.inr ?_)
  rw [asyReg_addr]
  omega

theorem SameDoms.domFailed (h : SameDoms s u) {n : Nat} (hn : n < 748) : u.domFailed n = s.domFailed n := by
  have hbank (i : Nat) : u.rb ⟨.asy, 0, 0x180 + 4 * ((n - 544) / 32)⟩ i = s.rb ⟨.asy, 0, 0x180 + 4 * ((n - 544) / 32)⟩ i := State.rb_of_rget (h.asy (by omega)) i
  have hio (i : Nat) : u.rb ⟨.asy, 0, 0x194⟩ i = s.rb ⟨.asy, 0, 0x194⟩ i := State.rb_of_rget (h.asy (by decide)) i
  unfold State.domFailed
  rw [hbank, hio]

theorem SameDoms.domAllows (h : SameDoms s u) {n : Nat} (hn : n < 748) (st : Nat) : u.domAllows n st = s.domAllows n st := by
  have hreleased (k : Nat) : u.bankReleased k = s.bankReleased k := by
    unfold State.bankReleased
    simp only [State.padOf_of_pads (h.2.2 .pads (by decide) : u.pads = s.pads)]
  have hcold : u.fabricCold = s.fabricCold := by
    unfold State.fabricCold
    simp only [h.dom]
  have hlevel : n < 696 → u.levelReserved (n - 672) = s.levelReserved (n - 672) := fun hlt => by
    unfold State.levelReserved
    rw [State.rf_of_rget (h.2.1 _ (.inr ?_))]
    simp only [Reg.addr, Blk.base]
    omega
  unfold State.domAllows
  simp only [h.domFailed hn, h.dom, hreleased, hcold]
  split
  · rfl
  · split
    · next hlt => rw [hlevel hlt]
    · rfl

theorem SameDoms.domHeld (h : SameDoms s u) (n st : Nat) : u.domHeld n st = s.domHeld n st := by
  have hload (r : Nat) : u.underLoad r = s.underLoad r := by
    unfold State.underLoad
    rw [(h.2.2 .load (by decide) : u.load = s.load)]
  have hhealth (r : Nat) : u.rget (tnkHealth r) = s.rget (tnkHealth r) := by
    refine h.2.1 _ (.inr ?_)
    simp only [tnkHealth, Reg.addr, Blk.base, winBase]
    omega
  have hswap (r : Nat) : u.swapping r = s.swapping r := by
    unfold State.swapping State.swapOf State.health State.spareSt
    rw [(h.2.2 .swapWant (by decide) : u.swapWant = s.swapWant), State.rf_of_rget (hhealth r), State.rf_of_rget (hhealth r)]
  unfold State.domHeld
  simp only [hload, hswap]

theorem requested_of_sameDoms (h : SameDoms s u) {n st : Nat} (hn : n < 748) (hkeep : KeepRegs [lmpDom n] s u) (hr : Requested u w n st) : Requested s w n st := by
  have h4 : u.rget (lmpReg 4) = s.rget (lmpReg 4) := h.2.1 _ (.inl (by decide))
  have hC : u.rget (lmpReg 0xC) = s.rget (lmpReg 0xC) := h.2.1 _ (.inl (by decide))
  unfold Requested at hr ⊢
  simp only [h.dom, h.domSt, h.domHeld, h.domAllows hn, h4, hC, State.rf_of_rget hC, State.rb_of_rget (h.1 n)] at hr
  obtain ⟨hdom, hdoms, hkept, honly, hno, hyes⟩ := hr
  exact ⟨hdom, hdoms, (hkeep.mono (by simp)).trans hkept, (h.2.2.mono (by simp)).trans honly, hno, hyes⟩

/-- The request of a state noted in STATE's request field. -/
def State.domNoted (s : State) (n st : Nat) : State := s.rsetf (lmpDom n) 28 2 st

theorem domNoted_leaves (s : State) {n st : Nat} (hst : st < 4) :
    let u := s.domNoted n st
    u.rf (lmpDom n) 28 2 = st ∧ u.dom n = s.dom n ∧ (∀ i, i < 28 → u.rb (lmpDom n) i = s.rb (lmpDom n) i) ∧ KeepRegs [lmpDom n] s u ∧ Only [.regs] s u :=
  ⟨(State.rf_rsetf_self _ _ _ _ _ (by decide)).trans (Nat.mod_eq_of_lt hst), State.rf_rsetf_ne _ _ _ _ _ _ _ (.inr (by decide)), fun _ hi => State.rb_rsetf _ _ _ _ _ _ (.inl hi),
    (KeepRegs.refl _ s).rsetf _ _ _ List.mem_cons_self, (State.rsetf_ev _ _ _ _ (Ev.refl (fieldMask [.regs]) s) (by rfl)).only_mask⟩

theorem domHeld_congr (hload : u.load = s.load) (hswap : u.swapWant = s.swapWant) (hhealth : ∀ r, u.rget (tnkHealth r) = s.rget (tnkHealth r)) (n st : Nat) : u.domHeld n st = s.domHeld n st := by
  unfold State.domHeld State.underLoad State.swapping State.swapOf State.health State.spareSt
  rw [hload, hswap]
  simp only [State.rf_of_rget (hhealth _)]

/-- What a request sets besides: what the domain then waits for, or changes to. -/
def State.domTaken (s : State) (n st : Nat) : State :=
  if (s.domSt n).target.isSome || s.domHeld n st then s.setDomSt n { s.domSt n with wait := some st } else s.domBegin n st

/-- What a request leaves of a domain whose request field shows it. -/
theorem domTaken_takes (s : State) (n st : Nat) :
    let u := s.domTaken n st
    let waits : Prop := (s.domSt n).target ≠ none ∨ s.domHeld n st = true
    (∀ k : Nat, k ≠ n → u.domSt k = s.domSt k) ∧ KeepRegs [lmpDom n] s u ∧ (∀ i, i ≠ 26 → u.rb (lmpDom n) i = s.rb (lmpDom n) i) ∧
    (waits → u.domSt n = { s.domSt n with wait := some st } ∧ u.rb (lmpDom n) 26 = s.rb (lmpDom n) 26) ∧
    (¬ waits → s.dom n = st → u.domSt n = {} ∧ u.rb (lmpDom n) 26 = s.rb (lmpDom n) 26) ∧
    (¬ waits → s.dom n ≠ st → u.domSt n = { target := some st } ∧ u.rb (lmpDom n) 26 = true) := by
  have hset (x : DomSt) : (s.setDomSt n x).domSt n = x ∧ (∀ k, k ≠ n → (s.setDomSt n x).domSt k = s.domSt k) ∧ (s.setDomSt n x).regs = s.regs :=
    ⟨s.domSt_setDomSt_same n x, fun k hk => s.domSt_setDomSt_ne n k x hk, rfl⟩
  have hcond : ((s.domSt n).target.isSome || s.domHeld n st) = true ↔ (s.domSt n).target ≠ none ∨ s.domHeld n st = true := by
    rw [Bool.or_eq_true, Option.isSome_iff_ne_none]
  intro u waits
  by_cases hw : waits
  · have hu : u = s.setDomSt n { s.domSt n with wait := some st } := if_pos (hcond.mpr hw)
    obtain ⟨hsame, hother, hregs⟩ := hset { s.domSt n with wait := some st }
    rw [hu]
    exact ⟨hother, .of_regs hregs, fun i _ => State.rb_of_regs hregs _ i, fun _ => ⟨hsame, State.rb_of_regs hregs _ _⟩, fun h => absurd hw h, fun h => absurd hw h⟩
  · have hu : u = s.domBegin n st := if_neg (mt hcond.mp hw)
    unfold State.domBegin at hu
    by_cases hst : s.dom n = st
    · rw [if_pos hst] at hu
      obtain ⟨hsame, hother, hregs⟩ := hset {}
      rw [hu]
      exact ⟨hother, .of_regs hregs, fun i _ => State.rb_of_regs hregs _ i, fun h => absurd h hw, fun _ _ => ⟨hsame, State.rb_of_regs hregs _ _⟩, fun _ h => absurd hst h⟩
    · rw [if_neg hst] at hu
      obtain ⟨hsame, hother, hregs⟩ := hset { target := some st }
      rw [hu]
      generalize s.setDomSt n { target := some st } = v at hsame hother hregs ⊢
      have hbegun (k : Nat) : (v.rsetb (lmpDom n) 26 true).domSt k = v.domSt k := rfl
      exact ⟨fun k hk => (hbegun k).trans (hother k hk), (KeepRegs.of_regs hregs).rsetb _ _ List.mem_cons_self,
        fun i hi => (State.rb_rsetb_bit _ _ _ _ _ hi).trans (State.rb_of_regs hregs _ _), fun h => absurd h hw, fun _ h => absurd h hst,
        fun _ _ => ⟨(hbegun n).trans hsame, State.rb_rsetb_self _ _ _ _ (by decide)⟩⟩

theorem domRequest_eq (s : State) (n st : Nat) :
    s.domRequest n st = if !s.domAllows n st then (s.sticky (lmpReg 4) 29).violAt (lmpReg 0xC) else (s.domNoted n st).domTaken n st := rfl

/-- R441 to R443: a request for a domain's state, in full; HOLDM stays. -/
theorem domRequest_requested (s : State) {n st : Nat} (hn : n < 748) (hst : st < 4) :
    Requested s (s.domRequest n st) n st ∧ (s.domRequest n st).rb (lmpDom n) 27 = s.rb (lmpDom n) 27 := by
  have honly : Only [.regs, .doms] s (s.domRequest n st) := (State.domRequest_ev n st (Ev.refl (fieldMask [.regs, .doms]) s) (by rfl)).only_mask
  rw [domRequest_eq] at honly ⊢
  have h4 : (lmpReg 4).addr ≠ (lmpDom n).addr := by
    rw [lmpDom_addr]
    exact fun h => absurd (show 0x20010004 = _ from h) (by omega)
  have hC : (lmpReg 0xC).addr ≠ (lmpDom n).addr := by
    rw [lmpDom_addr]
    exact fun h => absurd (show 0x2001000C = _ from h) (by omega)
  cases hallow : s.domAllows n st with
  | false =>
    rw [hallow, if_pos (by decide)] at honly
    rw [if_pos (by decide)]
    have hkeep : KeepRegs [lmpReg 4, lmpReg 0xC] s ((s.sticky (lmpReg 4) 29).violAt (lmpReg 0xC)) :=
      ((KeepRegs.refl _ s).sticky _ List.mem_cons_self).count _ _ _ (by simp)
    have hdom : ((s.sticky (lmpReg 4) 29).violAt (lmpReg 0xC)).rget (lmpDom n) = s.rget (lmpDom n) := hkeep _ (by simpa using ⟨h4.symm, hC.symm⟩)
    have hrefused : ((s.sticky (lmpReg 4) 29).violAt (lmpReg 0xC)).rb (lmpReg 4) 29 = true :=
      (State.rb_of_rget (State.rget_count_ne (s.sticky (lmpReg 4) 29) _ _ _ _ _ (by decide)) _).trans (State.rb_sticky_self _ _ _ (by decide))
    have hcount : ((s.sticky (lmpReg 4) 29).violAt (lmpReg 0xC)).rf (lmpReg 0xC) 0 16 = min 0xFFFF (s.rf (lmpReg 0xC) 0 16 + 1) :=
      ((s.sticky (lmpReg 4) 29).violAt_countsAt (lmpReg 0xC)).1.trans (by rw [State.rf_of_rget (State.rget_sticky_ne s _ _ _ (by decide))])
    exact ⟨⟨State.rf_of_rget hdom _ _, fun _ _ => rfl, hkeep.mono (by simp), honly, fun _ => ⟨hrefused, hcount, rfl⟩, fun h => Bool.noConfusion (hallow.symm.trans h)⟩, State.rb_of_rget hdom 27⟩
  | true =>
    rw [hallow, if_neg (by decide)] at honly
    rw [if_neg (by decide)]
    obtain ⟨hfield, hdom, hbits, hnoted, hnote⟩ := domNoted_leaves s (n := n) hst
    generalize s.domNoted n st = v at hfield hdom hbits hnoted hnote honly ⊢
    obtain ⟨hother, hkeep, hrest, hwait, hidle, hbegin⟩ := domTaken_takes v n st
    generalize v.domTaken n st = u at hother hkeep hrest hwait hidle hbegin honly ⊢
    have hst' (k : Nat) : v.domSt k = s.domSt k := by
      unfold State.domSt
      rw [(hnote .doms (by decide) : v.doms = s.doms)]
    have hheld : v.domHeld n st = s.domHeld n st := domHeld_congr (hnote .load (by decide)) (hnote .swapWant (by decide)) (fun r => hnoted _ (by
      simp only [List.mem_singleton, forall_eq, lmpDom_addr]
      simp only [tnkHealth, Reg.addr, Blk.base, winBase]
      omega)) n st
    have hfields (lo len : Nat) (h : lo + len ≤ 26 ∨ 27 ≤ lo) : u.rf (lmpDom n) lo len = v.rf (lmpDom n) lo len :=
      fld_congr fun j hj => hrest (lo + j) (by omega)
    have hall := hnoted.trans hkeep
    rw [hst', hheld] at hwait hidle hbegin
    rw [hbits 26 (by decide)] at hwait hidle
    rw [hdom] at hidle hbegin
    refine ⟨⟨(hfields 30 2 (by decide)).trans hdom, fun k hk => (hother k hk).trans (hst' k), hall.mono (by simp), honly, fun h => Bool.noConfusion (hallow.symm.trans h), fun _ => ?_⟩,
      (hrest 27 (by decide)).trans (hbits 27 (by decide))⟩
    exact ⟨(hfields 28 2 (by decide)).trans hfield, hall _ (by simpa using h4), hall _ (by simpa using hC), hwait, hidle, hbegin⟩

/-! POWER_SET, POWER_GET and RAIL_SET. -/

theorem info_lmpDom {n : Nat} (h : n < 748) : (lmpDom n).info = some { rw := 0x38000000, ro := 0xC6000000, rst := if 728 ≤ n then 0 else 0xA0000000 } := by
  change infoLmp (0x1000 + 4 * n) = _
  unfold infoLmp
  rw [if_neg (by omega), if_neg (by omega), if_neg (by omega), if_neg (by omega), if_neg (by simp; omega), if_neg (by simp; omega), if_pos (by simp; omega)]
  dsimp only
  rw [show (0x1000 + 4 * n - 0x1000) / 4 = n by omega]

theorem regPut_lmp (off x : Nat) : s.regPut .ixz (lmpReg off) (BitVec.ofNat 64 (x % 2 ^ 32)) = s.lmpWrite off (ixWord x) :=
  State.guarded_mgmt (iss := .ixz) rfl s .lmp 0 (fun s => s.lmpWrite off (ixWord x))

theorem ixPut_lmpDom {n : Nat} (h : n < 748) (x : Nat) : s.ixPut (lmpDom n) x = s.domWrite n (ixWord x) := by
  rw [ixPut_eq x (info_lmpDom h) rfl]
  refine (regPut_lmp (0x1000 + 4 * n) x).trans ?_
  unfold State.lmpWrite
  rw [if_neg (by omega), if_pos (by omega), show (0x1000 + 4 * n - 0x1000) / 4 = n by omega]

theorem holdmWord_fields (b : Bool) {st : Nat} (hst : st < 4) : bit (ixWord (b2n b * 2 ^ 27 + st * 2 ^ 28)) 27 = b ∧ fld (ixWord (b2n b * 2 ^ 27 + st * 2 ^ 28)) 28 2 = st := by
  have hb : b2n b < 2 := by cases b <;> decide
  have hlt : b2n b * 2 ^ 27 + st * 2 ^ 28 < 2 ^ 32 := by omega
  rw [bit_ixWord hlt, fld_ixWord hlt, Nat.testBit_eq_decide_div_mod_eq]
  refine ⟨?_, by omega⟩
  cases b with
  | false =>
    have h0 : b2n false = 0 := rfl
    exact decide_eq_false (by rw [h0]; omega)
  | true =>
    have h1 : b2n true = 1 := rfl
    exact decide_eq_true (by rw [h1]; omega)

/-- POWER_SET's write: the request, HOLDM kept. -/
theorem powerSet_requests (s : State) {n st : Nat} (hn : n < 748) (hst : st ≤ 2) :
    Requested s (s.ixPut (lmpDom n) (b2n (s.rb (lmpDom n) 27) * 2 ^ 27 + st * 2 ^ 28)) n st ∧
      (s.ixPut (lmpDom n) (b2n (s.rb (lmpDom n) 27) * 2 ^ 27 + st * 2 ^ 28)).rb (lmpDom n) 27 = s.rb (lmpDom n) 27 := by
  obtain ⟨hholdm, hfield⟩ := holdmWord_fields (s.rb (lmpDom n) 27) (st := st) (by omega)
  have hsame := sameDoms_holdm s hn
  have hkeep : KeepRegs [lmpDom n] s (s.rsetb (lmpDom n) 27 (s.rb (lmpDom n) 27)) := (KeepRegs.refl _ s).rsetb _ _ List.mem_cons_self
  rw [ixPut_lmpDom hn]
  unfold State.domWrite
  rw [hholdm, hfield]
  generalize s.rsetb (lmpDom n) 27 (s.rb (lmpDom n) 27) = v at hsame hkeep ⊢
  obtain ⟨hreq, hbit⟩ := domRequest_requested v hn (st := st) (by omega)
  exact ⟨requested_of_sameDoms hsame hn hkeep hreq, hbit.trans (State.rb_of_rget (hsame.1 n) 27)⟩

theorem waits_row (h : Serves s q) (w : IxWait) : Waits s q w (s.ixWait q w) ∧ NoHeld q.sid (s.ixWait q w) := ⟨h.waits w, noHeld_ixWait q w h.noHeld⟩

theorem ixPowerSet_spec (h : Serves v q) :
    (let n := beAt q.p 0 2
    let st := beAt q.p 2 1
    (748 ≤ n → BadParam v q 0 (v.ixPowerSet q)) ∧ (n < 748 → 2 < st → BadParam v q 2 (v.ixPowerSet q)) ∧
    (n < 748 → st ≤ 2 → ∃ w, Requested v w n st ∧ w.rb (lmpDom n) 27 = v.rb (lmpDom n) 27 ∧ Waits w q (.domain n) (v.ixPowerSet q))) ∧ NoHeld q.sid (v.ixPowerSet q) := by
  unfold State.ixPowerSet
  dsimp only
  by_cases hn : 748 ≤ beAt q.p 0 2
  · rw [if_pos hn]
    obtain ⟨hbad, hheld⟩ := badParam_row h 0
    exact ⟨⟨fun _ => hbad, fun hlt => absurd hn (by omega), fun hlt => absurd hn (by omega)⟩, hheld⟩
  rw [if_neg hn]
  by_cases hst : 2 < beAt q.p 2 1
  · rw [if_pos hst]
    obtain ⟨hbad, hheld⟩ := badParam_row h 2
    exact ⟨⟨fun hge => absurd hge hn, fun _ _ => hbad, fun _ hle => absurd hst (by omega)⟩, hheld⟩
  rw [if_neg hst]
  obtain ⟨hreq, hbit⟩ := powerSet_requests v (n := beAt q.p 0 2) (st := beAt q.p 2 1) (by omega) (by omega)
  obtain ⟨hwaits, hheld⟩ := waits_row (h.ixPut (lmpDom (beAt q.p 0 2)) (b2n (v.rb (lmpDom (beAt q.p 0 2)) 27) * 2 ^ 27 + beAt q.p 2 1 * 2 ^ 28)) (.domain (beAt q.p 0 2))
  exact ⟨⟨fun hge => absurd hge hn, fun _ hlt => absurd hlt hst, fun _ _ => ⟨_, hreq, hbit, hwaits⟩⟩, hheld⟩

/-- Two bits of each state, four states to a byte. -/
theorem packStates_packs (k : Nat) (l : List Nat) (hl : ∀ x ∈ l, x < 4) :
    (packStates k l).length = k ∧ ∀ i, i / 4 < k → (nth 0 (packStates k l) (i / 4)).toNat / 4 ^ (3 - i % 4) % 4 = nth 0 l i := by
  induction k generalizing l with
  | zero => exact ⟨rfl, fun i hi => absurd hi (by omega)⟩
  | succ k ih =>
    obtain ⟨hlen, hbits⟩ := ih (l.drop 4) (fun x hx => hl x (List.mem_of_mem_drop hx))
    refine ⟨congrArg Nat.succ hlen, fun i hi => ?_⟩
    have hlt (j : Nat) : nth 0 l j < 4 := by
      unfold nth
      cases hj : l[j]? with
      | none => decide
      | some x => exact hl x (List.mem_of_getElem? hj)
    by_cases hfirst : i < 4
    · have h0 := hlt 0
      have h1 := hlt 1
      have h2 := hlt 2
      have h3 := hlt 3
      have hdiv : i / 4 = 0 := by omega
      rw [hdiv]
      change (BitVec.ofNat 8 (64 * nth 0 l 0 + 16 * nth 0 l 1 + 4 * nth 0 l 2 + nth 0 l 3)).toNat / _ % 4 = _
      have hbyte : 64 * nth 0 l 0 + 16 * nth 0 l 1 + 4 * nth 0 l 2 + nth 0 l 3 < 2 ^ 8 := by omega
      rw [BitVec.toNat_ofNat, Nat.mod_eq_of_lt hbyte]
      obtain rfl | rfl | rfl | rfl : i = 0 ∨ i = 1 ∨ i = 2 ∨ i = 3 := by omega
      · show _ / 64 % 4 = _
        omega
      · show _ / 16 % 4 = _
        omega
      · show _ / 4 % 4 = _
        omega
      · show _ / 1 % 4 = _
        omega
    · have hi4 : i / 4 = (i - 4) / 4 + 1 := by omega
      have hrest := hbits (i - 4) (by omega)
      have hmod : (i - 4) % 4 = i % 4 := by omega
      rw [hmod] at hrest
      rw [hi4]
      refine hrest.trans ?_
      unfold nth
      rw [List.getElem?_drop, show 4 + (i - 4) = i by omega]

theorem ixPowerGet_spec (h : Serves v q) :
    (let first := beAt q.p 0 2
    let n := beAt q.p 2 2
    (748 ≤ first → BadParam v q 0 (v.ixPowerGet q)) ∧ (first < 748 → 748 < first + n → BadParam v q 2 (v.ixPowerGet q)) ∧
    (first < 748 → first + n ≤ 748 → ∃ res, Replied v q stOk 0 res (v.ixPowerGet q) ∧ res.length = (n + 3) / 4 ∧ ∀ i < n, (nth 0 res (i / 4)).toNat / 4 ^ (3 - i % 4) % 4 = v.dom (first + i))) ∧
    NoHeld q.sid (v.ixPowerGet q) := by
  unfold State.ixPowerGet
  dsimp only
  by_cases hfirst : 748 ≤ beAt q.p 0 2
  · rw [if_pos hfirst]
    obtain ⟨hbad, hheld⟩ := badParam_row h 0
    exact ⟨⟨fun _ => hbad, fun hlt => absurd hfirst (by omega), fun hlt => absurd hfirst (by omega)⟩, hheld⟩
  rw [if_neg hfirst]
  by_cases hn : 748 < beAt q.p 0 2 + beAt q.p 2 2
  · rw [if_pos hn]
    obtain ⟨hbad, hheld⟩ := badParam_row h 2
    exact ⟨⟨fun hge => absurd hge hfirst, fun _ _ => hbad, fun _ hle => absurd hn (by omega)⟩, hheld⟩
  rw [if_neg hn]
  obtain ⟨hlen, hbits⟩ := packStates_packs ((beAt q.p 2 2 + 3) / 4) ((List.range (beAt q.p 2 2)).map (fun i => v.dom (beAt q.p 0 2 + i))) (fun x hx => by
    obtain ⟨i, -, rfl⟩ := List.mem_map.mp hx
    exact fld_lt _ _ _)
  refine ⟨⟨fun hge => absurd hge hfirst, fun _ hlt => absurd hlt hn, fun _ _ => ⟨_, h.replied _ _ _, hlen, fun i hi => (hbits i (by omega)).trans ?_⟩⟩, noHeld_ixReply _ _ _ _ h.noHeld⟩
  unfold nth
  rw [List.getElem?_map, List.getElem?_range hi]
  rfl

theorem info_rail {d : Nat} (h : d ≤ 3) : (lmpReg (0x10 + 4 * d)).info = some { rw := 0x03FF0000, ro := 0x800003FF, rst := 0x02EE0000 } := by
  change infoLmp (0x10 + 4 * d) = _
  unfold infoLmp
  rw [if_neg (by omega), if_neg (by omega), if_neg (by omega), if_neg (by omega), if_pos (by simp; omega)]

/-- RAIL_SET's write (R448). -/
theorem railSet_sets (s : State) {d mv : Nat} (hd : d ≤ 3) (hlow : 550 ≤ mv) (hhigh : mv ≤ 850) :
    let g := lmpReg (0x10 + 4 * d)
    let w := s.ixPut g (mv * 2 ^ 16)
    w.rf g 16 10 = mv - mv % 5 ∧ KeepRegs [g] s w ∧ Only [.regs] s w := by
  have hput : s.ixPut (lmpReg (0x10 + 4 * d)) (mv * 2 ^ 16) = s.railSet d mv := by
    rw [ixPut_eq _ (info_rail hd) rfl]
    refine (regPut_lmp (0x10 + 4 * d) (mv * 2 ^ 16)).trans ?_
    unfold State.lmpWrite
    rw [if_pos (by omega), fld_ixWord (by omega), show (0x10 + 4 * d - 0x10) / 4 = d by omega, show mv * 2 ^ 16 / 2 ^ 16 % 2 ^ 10 = mv by omega]
  have hset : s.railSet d mv = (s.rsetf (lmpReg (0x10 + 4 * d)) 16 10 (mv - mv % 5)).rsetb (lmpReg (0x10 + 4 * d)) 31 (decide (s.rf (lmpReg (0x10 + 4 * d)) 0 10 ≠ mv - mv % 5)) := if_pos ⟨hlow, hhigh⟩
  dsimp only
  rw [hput]
  refine ⟨?_, ?_, (State.railSet_ev d mv (Ev.refl (fieldMask [.regs]) s) (by rfl)).only_mask⟩
  · rw [hset]
    exact (State.rf_rsetb _ _ _ _ _ _ (.inl (by decide))).trans ((State.rf_rsetf_self _ _ _ _ _ (by decide)).trans (Nat.mod_eq_of_lt (by omega)))
  · rw [hset]
    exact ((KeepRegs.refl _ s).rsetf _ _ _ List.mem_cons_self).rsetb _ _ List.mem_cons_self

theorem ixRailSet_spec (h : Serves v q) :
    (let d := beAt q.p 0 1
    let mv := beAt q.p 2 2
    let g := lmpReg (0x10 + 4 * d)
    (3 < d → BadParam v q 0 (v.ixRailSet q)) ∧ (d ≤ 3 → mv < 550 ∨ 850 < mv → BadParam v q 2 (v.ixRailSet q)) ∧
    (d ≤ 3 → 550 ≤ mv → mv ≤ 850 → ∃ w, w.rf g 16 10 = mv - mv % 5 ∧ KeepRegs [g] v w ∧ Only [.regs] v w ∧ Replied w q stOk 0 (be 2 (mv - mv % 5) ++ be 2 0) (v.ixRailSet q))) ∧
    NoHeld q.sid (v.ixRailSet q) := by
  unfold State.ixRailSet
  dsimp only
  by_cases hd : 3 < beAt q.p 0 1
  · rw [if_pos hd]
    obtain ⟨hbad, hheld⟩ := badParam_row h 0
    exact ⟨⟨fun _ => hbad, fun hle => absurd hd (by omega), fun hle => absurd hd (by omega)⟩, hheld⟩
  rw [if_neg hd]
  by_cases hmv : beAt q.p 2 2 < 550 ∨ 850 < beAt q.p 2 2
  · rw [if_pos hmv]
    obtain ⟨hbad, hheld⟩ := badParam_row h 2
    exact ⟨⟨fun hlt => absurd hlt hd, fun _ _ => hbad, fun _ _ _ => absurd hmv (by omega)⟩, hheld⟩
  rw [if_neg hmv]
  obtain ⟨hfield, hkeep, honly⟩ := railSet_sets v (d := beAt q.p 0 1) (mv := beAt q.p 2 2) (by omega) (by omega) (by omega)
  have hserves := h.ixPut (lmpReg (0x10 + 4 * beAt q.p 0 1)) (beAt q.p 2 2 * 2 ^ 16)
  generalize v.ixPut (lmpReg (0x10 + 4 * beAt q.p 0 1)) (beAt q.p 2 2 * 2 ^ 16) = w at hfield hkeep honly hserves ⊢
  rw [hfield]
  exact ⟨⟨fun hlt => absurd hlt hd, fun _ hbad => absurd hbad hmv, fun _ _ _ => ⟨w, hfield, hkeep, honly, hserves.replied _ _ _⟩⟩, noHeld_ixReply _ _ _ _ hserves.noHeld⟩

/-! PORT_SET and LINE_SET. -/

/-- The writes of PORT_SET. -/
def portWrites (v : State) (q : Req) (n : Nat) : List (Reg × Nat) :=
  let p (i : Nat) : Nat := beAt q.p (4 * i) 4
  [(piReg n 0, (v.rget (piReg n 0)).toNat % 2 ^ 31), (piReg n 4, p 2), (piReg n 8, p 3), (piReg n 0xC, p 4), (piReg n 0x10, p 5), (piReg n 0x14, p 6), (piReg n 0x18, p 7), (piReg n 0x20, p 8),
    (piReg n 0x1C, p 9), (piReg n 0, p 1)]

/-- Registers written in order. -/
def State.writeAll (s : State) (l : List (Reg × Nat)) : State := l.foldl (fun s e => s.regWrite .ixz e.1 .b32 (BitVec.ofNat 64 (e.2 % 2 ^ 32))) s

theorem ixPortSet_eq (h : ¬ 15 < beAt q.p 0 1) :
    v.ixPortSet q = (v.writeAll (portWrites v q (beAt q.p 0 1))).ixReplyRegs q stOk 0 [piReg (beAt q.p 0 1) 0x24] := if_neg h

/-- The writes of LINE_SET. -/
def lineWrites (q : Req) (n : Nat) : List (Reg × Nat) :=
  let p (i : Nat) : Nat := beAt q.p (4 * i) 4
  let ctl := p 1 % 2 ^ 30
  [(plReg n 4, p 2), (plReg n 8, p 3), (plReg n 0xC, p 4), (plReg n 0x10, p 5), (plReg n 0x14, p 6), (plReg n 0, ctl), (plReg n 0, ctl + 2 ^ 30), (plReg n 0, ctl + p 1 / 2 ^ 31 * 2 ^ 31)]

/-- A line's registers written: its staged fields, then CTL three times. -/
def State.lineSet (s : State) (n : Nat) (p : Nat → Nat) (c0 c1 c2 : Nat) : State :=
  ((((((((s.ixPut (plReg n 4) (p 2)).ixPut (plReg n 8) (p 3)).ixPut (plReg n 0xC) (p 4)).ixPut (plReg n 0x10) (p 5)).ixPut (plReg n 0x14) (p 6)).ixPut (plReg n 0) c0).ixPut (plReg n 0) c1).ixPut (plReg n 0) c2)

theorem lineSet_writes (s : State) (n : Nat) (p : Nat → Nat) (c0 c1 c2 : Nat) :
    s.lineSet n p c0 c1 c2 = s.writeAll [(plReg n 4, p 2), (plReg n 8, p 3), (plReg n 0xC, p 4), (plReg n 0x10, p 5), (plReg n 0x14, p 6), (plReg n 0, c0), (plReg n 0, c1), (plReg n 0, c2)] := rfl

theorem ixLineSet_eq (h : ¬ 7 < beAt q.p 0 1) :
    v.ixLineSet q = (v.writeAll (lineWrites q (beAt q.p 0 1))).ixReplyRegs q stOk 0 [plReg (beAt q.p 0 1) 0x2C] := by
  have hset : v.ixLineSet q = (v.lineSet (beAt q.p 0 1) q.word (q.word 1 % 2 ^ 30) (q.word 1 % 2 ^ 30 + 2 ^ 30) (q.word 1 % 2 ^ 30 + q.word 1 / 2 ^ 31 * 2 ^ 31)).ixReplyRegs q stOk 0 [plReg (beAt q.p 0 1) 0x2C] := if_neg h
  rw [hset, lineSet_writes]
  rfl

theorem ixPortSet_spec (h : Serves v q) :
    (let n := beAt q.p 0 1
    (15 < n → BadParam v q 0 (v.ixPortSet q)) ∧ (n ≤ 15 → ∃ w, IxWrites v (portWrites v q n) w ∧ RepliedRegs w q stOk 0 [piReg n 0x24] [] (v.ixPortSet q))) ∧ NoHeld q.sid (v.ixPortSet q) := by
  dsimp only
  by_cases hn : 15 < beAt q.p 0 1
  · have hbad : v.ixPortSet q = v.badParam q 0 := if_pos hn
    rw [hbad]
    exact ⟨⟨fun _ => h.badParam 0, fun hle => absurd hn (by omega)⟩, noHeld_badParam q 0 h.noHeld⟩
  · obtain ⟨hreplied, hheld⟩ := h.writesRegs (l := portWrites v q (beAt q.p 0 1)) (gs := [piReg (beAt q.p 0 1) 0x24]) rfl rfl stOk 0
    rw [ixPortSet_eq hn]
    exact ⟨⟨fun hlt => absurd hlt hn, fun _ => ⟨_, rfl, hreplied⟩⟩, hheld⟩

theorem ixLineSet_spec (h : Serves v q) :
    (let n := beAt q.p 0 1
    (7 < n → BadParam v q 0 (v.ixLineSet q)) ∧ (n ≤ 7 → ∃ w, IxWrites v (lineWrites q n) w ∧ RepliedRegs w q stOk 0 [plReg n 0x2C] [] (v.ixLineSet q))) ∧ NoHeld q.sid (v.ixLineSet q) := by
  dsimp only
  by_cases hn : 7 < beAt q.p 0 1
  · have hbad : v.ixLineSet q = v.badParam q 0 := if_pos hn
    rw [hbad]
    exact ⟨⟨fun _ => h.badParam 0, fun hle => absurd hn (by omega)⟩, noHeld_badParam q 0 h.noHeld⟩
  · obtain ⟨hreplied, hheld⟩ := h.writesRegs (l := lineWrites q (beAt q.p 0 1)) (gs := [plReg (beAt q.p 0 1) 0x2C]) rfl rfl stOk 0
    rw [ixLineSet_eq hn]
    exact ⟨⟨fun hlt => absurd hlt hn, fun _ => ⟨_, rfl, hreplied⟩⟩, hheld⟩

end Machine
end Sys2Proof
end

section
/-! O57: Ixzento's LINE_GET, and its fault and test opcodes. -/

namespace Sys2Proof

open Machine

namespace Machine

variable {s t u v w : State} {q : Req} {sid p : Nat}

/-! LINE_GET (R65, R66). -/

theorem ixPut_hold (s : State) (n x : Nat) : s.ixPut (plReg n 0x30) x = s.holdWrite n (ixWord x) :=
  (ixPut_eq x rfl rfl).trans (State.guarded_mgmt (iss := .ixz) rfl s .tlyPl n (fun s => s.holdWrite n (ixWord x)))

theorem ixPut_hold_keeps (s : State) (n x : Nat) : KeepRegs [plReg n 0x30] s (s.ixPut (plReg n 0x30) x) := by
  rw [ixPut_hold]
  have hwrite : KeepRegs [plReg n 0x30] s (s.writePlain (plReg n 0x30) ((ixWord x).setWidth 64)) := fun g hg => s.rget_writePlain_ne _ (hg _ List.mem_cons_self)
  exact hwrite.then_regs rfl

theorem ixPut_piStat (s : State) (p x : Nat) : KeepRegs [piReg p 0x24] s (s.ixPut (piReg p 0x24) x) := by
  have hput : s.ixPut (piReg p 0x24) x = s.writePlain (piReg p 0x24) (BitVec.ofNat 64 (x % 2 ^ 32)) :=
    (ixPut_eq x rfl rfl).trans (State.guarded_mgmt (iss := .ixz) rfl s .tlyPi p (fun s => s.writePlain (piReg p 0x24) (BitVec.ofNat 64 (x % 2 ^ 32))))
  rw [hput]
  exact fun g hg => s.rget_writePlain_ne _ (hg _ List.mem_cons_self)

/-- What a read of LOST shows: its 32 bits. -/
theorem fld_shown_lost (s : State) (p : Nat) {i : Nat} (hi : i < 4) : fld (s.shown (piReg p 0x28)) (8 * i) 8 = fld (s.rget (piReg p 0x28)) (8 * i) 8 := by
  have hshown : s.shown (piReg p 0x28) = ({ rc := 0xFFFFFFFF } : RegInfo).shown (s.rget (piReg p 0x28)) := rfl
  refine fld_congr fun j hj => ?_
  rw [hshown, RegInfo.bit_shown]
  have hmask : bit (0xFFFFFFFF : RegVal) (8 * i + j) = true := by
    rw [bit_lowWord (by omega)]
    exact decide_eq_true (by omega)
  have hzero : bit (0 : RegVal) (8 * i + j) = false := BitVec.getLsbD_zero
  dsimp only
  rw [hmask, hzero]
  simp

/-- A read of LOST clears it, and its counts are added to Ixzento's copy. -/
theorem ixRead_lost (s : State) (p : Nat) : (s.ixRead (piReg p 0x28)).1 =
    (s.rput (piReg p 0x28) (({ rc := 0xFFFFFFFF } : RegInfo).consumed (s.rget (piReg p 0x28)))).addLost p (s.shown (piReg p 0x28)) := rfl

theorem lost_cleared (s : State) (p : Nat) : fld (({ rc := 0xFFFFFFFF } : RegInfo).consumed (s.rget (piReg p 0x28))) 0 32 = 0 := by
  refine Nat.eq_of_testBit_eq fun j => ?_
  rw [testBit_fld, Nat.zero_testBit]
  by_cases hj : j < 32
  · have hbit := RegInfo.bit_consumed { rc := 0xFFFFFFFF } (s.rget (piReg p 0x28)) (j := j) (by omega)
    have hmask : bit (0xFFFFFFFF : RegVal) j = true := by
      rw [bit_lowWord (by omega)]
      exact decide_eq_true hj
    dsimp only at hbit
    rw [hmask, Bool.not_true, Bool.and_false] at hbit
    rw [Nat.zero_add]
    exact (congrArg (decide (j < 32) && ·) hbit).trans (Bool.and_false _)
  · rw [decide_eq_false hj, Bool.false_and]

/-- The counts of LOST added to a copy of them, each to at most 255. -/
def lostSum (old r : RegVal) (i : Nat) : Nat := min 255 (fld old (8 * i) 8 + fld r (8 * i) 8)

/-- The copy of LOST after a read of it. -/
def lostNew (old r : RegVal) : RegVal := (List.range 4).foldl (fun a i => a + put (8 * i) (satAdd 255 (fld old (8 * i) 8) (fld r (8 * i) 8))) 0

theorem satAdd_lost (old r : RegVal) (i : Nat) : satAdd 255 (fld old (8 * i) 8) (fld r (8 * i) 8) = lostSum old r i := by
  unfold satAdd lostSum
  split <;> omega

theorem lostNew_congr (old : RegVal) {r r' : RegVal} (h : ∀ i < 4, fld r (8 * i) 8 = fld r' (8 * i) 8) : lostNew old r = lostNew old r' := by
  unfold lostNew
  refine List.foldl_ext _ _ _ fun a i hi => ?_
  rw [h i (List.mem_range.mp hi)]

theorem lostNew_eq (old r : RegVal) : lostNew old r = 0 + put 0 (lostSum old r 0) + put 8 (lostSum old r 1) + put 16 (lostSum old r 2) + put 24 (lostSum old r 3) := by
  unfold lostNew
  simp only [List.range, List.range.loop, List.foldl, satAdd_lost]

theorem toNat_counts {a b c d : Nat} (ha : a < 256) (hb : b < 256) (hc : c < 256) (hd : d < 256) :
    (0 + put 0 a + put 8 b + put 16 c + put 24 d).toNat = a + 2 ^ 8 * b + 2 ^ 16 * c + 2 ^ 24 * d := by
  have hsum := toNat_add_put (toNat_add_put (toNat_add_put (toNat_add_put (v := 0) (m := 0) rfl 0 a) 8 b) 16 c) 24 d
  rw [Nat.pow_zero, Nat.mul_one, Nat.zero_add, Nat.mul_comm b, Nat.mul_comm c, Nat.mul_comm d] at hsum
  exact hsum.trans (Nat.mod_eq_of_lt (by omega))

theorem lostSum_lt (old r : RegVal) (i : Nat) : lostSum old r i < 256 := by
  unfold lostSum
  omega

theorem toNat_lostNew (old r : RegVal) : (lostNew old r).toNat = lostSum old r 0 + 2 ^ 8 * lostSum old r 1 + 2 ^ 16 * lostSum old r 2 + 2 ^ 24 * lostSum old r 3 := by
  rw [lostNew_eq]
  exact toNat_counts (lostSum_lt _ _ _) (lostSum_lt _ _ _) (lostSum_lt _ _ _) (lostSum_lt _ _ _)

/-- Ixzento's copy of a port's LOST set. -/
def State.setLost (s : State) (p : Nat) (x : RegVal) : State := { s with ix := { s.ix with lost := Store.put 0 s.ix.lost p x } }

theorem setLost_sets (s : State) (p : Nat) (x : RegVal) :
    Store.get 0 (s.setLost p x).ix.lost p = x ∧ (s.setLost p x).regs = s.regs ∧ (s.setLost p x).ix.sessions = s.ix.sessions := ⟨Store.get_put_same _ _ _ _, rfl, rfl⟩

theorem addLost_eq (s : State) (p : Nat) (r : RegVal) : s.addLost p r = s.setLost p (lostNew (Store.get 0 s.ix.lost p) r) := rfl

/-- The line's values and its port's STAT have been read: LOST and the copy of it are as before. -/
def State.LineRead (s u : State) (p : Nat) : Prop := u.rget (piReg p 0x28) = s.rget (piReg p 0x28) ∧ u.ix = s.ix

theorem State.LineRead.hold (h : s.LineRead u p) (n x : Nat) : s.LineRead (u.ixPut (plReg n 0x30) x) p := by
  refine ⟨(ixPut_hold_keeps u n x _ ?_).trans h.1, (u.ixPut_ix _ x).trans h.2⟩
  simp only [List.mem_singleton, forall_eq, plReg_addr, piReg_addr]
  omega

theorem State.LineRead.withNews (h : s.LineRead u p) (a b : Bool) : s.LineRead (u.withNews a b) p := h

theorem rput_ix (s : State) (g : Reg) (x : RegVal) : (s.rput g x).ix = s.ix := rfl

/-- LOST read: the copy has its counts added, and it is cleared. -/
theorem lost_read (h : s.LineRead u p) :
    let w := (u.ixRead (piReg p 0x28)).1
    w.rf (piReg p 0x28) 0 32 = 0 ∧ Store.get 0 w.ix.lost p = lostNew (Store.get 0 s.ix.lost p) (s.rget (piReg p 0x28)) ∧ w.ix.sessions = s.ix.sessions := by
  have hcleared := lost_cleared u p
  have hshown : lostNew (Store.get 0 s.ix.lost p) (u.shown (piReg p 0x28)) = lostNew (Store.get 0 s.ix.lost p) (s.rget (piReg p 0x28)) :=
    lostNew_congr _ fun i hi => by rw [fld_shown_lost u p hi, h.1]
  dsimp only
  rw [ixRead_lost]
  generalize RegInfo.consumed { rc := 0xFFFFFFFF } (u.rget (piReg p 0x28)) = x at hcleared ⊢
  have hix := (rput_ix u (piReg p 0x28) x).trans h.2
  have hreg : (u.rput (piReg p 0x28) x).rget (piReg p 0x28) = x := State.rget_rput_same _ _ _
  generalize u.rput (piReg p 0x28) x = y at hix hreg ⊢
  rw [addLost_eq, hix, hshown]
  obtain ⟨hcopy, hregs, hsessions⟩ := setLost_sets y p (lostNew (Store.get 0 s.ix.lost p) (s.rget (piReg p 0x28)))
  refine ⟨?_, hcopy, hsessions.trans (congrArg Ix.sessions hix)⟩
  rw [State.rf_of_regs hregs, State.rf, hreg]
  exact hcleared

/-- What a LINE_GET's CLEAR zeroes. -/
def State.lostClear (s : State) (p : Nat) : State := (s.ixPut (piReg p 0x24) 0xFE00).setLost p 0

theorem lostClear_clears (s : State) {p : Nat} :
    (s.lostClear p).rf (piReg p 0x28) 0 32 = s.rf (piReg p 0x28) 0 32 ∧ Store.get 0 (s.lostClear p).ix.lost p = 0 ∧ (s.lostClear p).ix.sessions = s.ix.sessions := by
  have hkeep := ixPut_piStat s p 0xFE00 (piReg p 0x28) (by
    simp only [List.mem_singleton, forall_eq, piReg_addr]
    omega)
  have hix := s.ixPut_ix (piReg p 0x24) 0xFE00
  obtain ⟨hcopy, hregs, hsessions⟩ := setLost_sets (s.ixPut (piReg p 0x24) 0xFE00) p 0
  exact ⟨(State.rf_of_regs hregs (piReg p 0x28) 0 32).trans (State.rf_of_rget hkeep 0 32), hcopy, hsessions.trans (congrArg Ix.sessions hix)⟩

/-- The registers of a line that LINE_GET reads. -/
def lineGroup (n : Nat) : List Reg := [plReg n 0x18, plReg n 0x1C, plReg n 0x20, plReg n 0x24, plReg n 0x28, plReg n 0x2C]

/-- The state in which LINE_GET reads LOST. -/
def State.lineHeld (s : State) (n p : Nat) : State := (((((s.ixPut (plReg n 0x30) 1).ixReads (lineGroup n)).1).ixPut (plReg n 0x30) 0).ixRead (piReg p 0x24)).1

theorem lineHeld_reads (s : State) (n p : Nat) : s.LineRead (s.lineHeld n p) p ∧ ((s.ixPut (plReg n 0x30) 1).ixReads (lineGroup n)).2.length = 24 := by
  have hstart : s.LineRead s p := ⟨rfl, rfl⟩
  have hplain : (lineGroup n).all plainRead = true := rfl
  unfold State.lineHeld
  obtain ⟨a, b, hreads⟩ := ixReads_plain (s := s.ixPut (plReg n 0x30) 1) hplain
  rw [hreads]
  obtain ⟨c, d, hread⟩ := ixRead_plain (s := (((s.ixPut (plReg n 0x30) 1).withNews a b)).ixPut (plReg n 0x30) 0) (g := piReg p 0x24) rfl
  rw [hread]
  refine ⟨(((hstart.hold n 1).withNews a b).hold n 0).withNews c d, ?_⟩
  rw [List.length_flatMap]
  simp only [be_length]
  rfl

/-- The state after LINE_GET's reads. -/
def State.lineGot (s : State) (n p : Nat) : State := (((s.lineHeld n p).ixRead (piReg p 0x28)).1.ixRead (piReg p 0x2C)).1

theorem lineGot_gives (s : State) (n p : Nat) :
    (s.lineGot n p).rf (piReg p 0x28) 0 32 = 0 ∧ Store.get 0 (s.lineGot n p).ix.lost p = lostNew (Store.get 0 s.ix.lost p) (s.rget (piReg p 0x28)) ∧
    (s.lineGot n p).ix.sessions = s.ix.sessions := by
  have hlost := lost_read (lineHeld_reads s n p).1
  unfold State.lineGot
  obtain ⟨a, b, hread⟩ := ixRead_plain (s := ((s.lineHeld n p).ixRead (piReg p 0x28)).1) (g := piReg p 0x2C) rfl
  rw [hread]
  exact hlost

/-- The bytes of LINE_GET's reply. -/
def State.lineBytes (s : State) (n p : Nat) : List Byte :=
  ((s.ixPut (plReg n 0x30) 1).ixReads (lineGroup n)).2 ++ be 4 (((((s.ixPut (plReg n 0x30) 1).ixReads (lineGroup n)).1).ixPut (plReg n 0x30) 0).ixRead (piReg p 0x24)).2 ++
    be 4 (Store.get 0 (s.lineGot n p).ix.lost p).toNat ++ be 4 (((s.lineHeld n p).ixRead (piReg p 0x28)).1.ixRead (piReg p 0x2C)).2

theorem ixLineGet_eq (h : ¬ 7 < beAt q.p 0 1) :
    let n := beAt q.p 0 1
    let p := fld (v.tline n).ctl 24 4
    v.ixLineGet q = (if (beAt q.p 1 1).testBit 0 then (v.lineGot n p).lostClear p else v.lineGot n p).ixReply q stOk 0 (v.lineBytes n p) := by
  dsimp only
  unfold State.ixLineGet State.lineBytes State.lineGot State.lineHeld lineGroup
  dsimp only
  rw [if_neg h]
  generalize fld (v.tline (beAt q.p 0 1)).ctl 24 4 = p
  generalize (v.ixPut (plReg (beAt q.p 0 1) 0x30) 1).ixReads _ = r1
  obtain ⟨s1, b1⟩ := r1
  dsimp only
  generalize (s1.ixPut (plReg (beAt q.p 0 1) 0x30) 0).ixRead (piReg p 0x24) = r2
  obtain ⟨s2, stat⟩ := r2
  dsimp only
  generalize s2.ixRead (piReg p 0x28) = r3
  obtain ⟨s3, lost⟩ := r3
  dsimp only
  generalize s3.ixRead (piReg p 0x2C) = r4
  obtain ⟨s4, count⟩ := r4
  rfl

theorem ixLineGet_spec (h : Serves v q) :
    (let n := beAt q.p 0 1
    let port := fld (v.tline n).ctl 24 4
    let old := Store.get 0 v.ix.lost port
    let sum (i : Nat) : Nat := min 255 (fld old (8 * i) 8 + fld (v.rget (piReg port 0x28)) (8 * i) 8)
    (7 < n → BadParam v q 0 (v.ixLineGet q)) ∧
    (n ≤ 7 → ∃ w head stat cnt lost, Replied w q stOk 0 (head ++ be 4 stat ++ be 4 lost ++ be 4 cnt) (v.ixLineGet q) ∧ head.length = 24 ∧ lost = sum 0 + 2 ^ 8 * sum 1 + 2 ^ 16 * sum 2 + 2 ^ 24 * sum 3 ∧
      w.rf (piReg port 0x28) 0 32 = 0 ∧ (Store.get 0 w.ix.lost port).toNat = (if (beAt q.p 1 1) % 2 = 1 then 0 else lost))) ∧ NoHeld q.sid (v.ixLineGet q) := by
  dsimp only
  by_cases hn : 7 < beAt q.p 0 1
  · have hbad : v.ixLineGet q = v.badParam q 0 := if_pos hn
    rw [hbad]
    exact ⟨⟨fun _ => h.badParam 0, fun hle => absurd hn (by omega)⟩, noHeld_badParam q 0 h.noHeld⟩
  · rw [ixLineGet_eq hn]
    have hlen := (lineHeld_reads v (beAt q.p 0 1) (fld (v.tline (beAt q.p 0 1)).ctl 24 4)).2
    unfold State.lineBytes
    generalize fld (v.tline (beAt q.p 0 1)).ctl 24 4 = p at hlen ⊢
    obtain ⟨hzero, hcopy, hsessions⟩ := lineGot_gives v (beAt q.p 0 1) p
    generalize v.lineGot (beAt q.p 0 1) p = w at hzero hcopy hsessions ⊢
    have hlost := (congrArg BitVec.toNat hcopy).trans (toNat_lostNew _ _)
    obtain ⟨hczero, hccopy, hcsessions⟩ := lostClear_clears w (p := p)
    by_cases hclear : (beAt q.p 1 1).testBit 0 = true
    · have hodd : beAt q.p 1 1 % 2 = 1 := by simpa [Nat.testBit_zero] using hclear
      have hserves : Serves (w.lostClear p) q := h.of_sessions (hcsessions.trans hsessions)
      rw [if_pos hclear]
      exact ⟨⟨fun hlt => absurd hlt hn, fun _ => ⟨w.lostClear p, _, _, _, _, hserves.replied _ _ _, hlen, hlost, hczero.trans hzero, (congrArg BitVec.toNat hccopy).trans (if_pos hodd).symm⟩⟩,
        noHeld_ixReply _ _ _ _ hserves.noHeld⟩
    · have heven : ¬ beAt q.p 1 1 % 2 = 1 := by simpa [Nat.testBit_zero] using hclear
      have hserves : Serves w q := h.of_sessions hsessions
      rw [if_neg hclear]
      exact ⟨⟨fun hlt => absurd hlt hn, fun _ => ⟨w, _, _, _, _, hserves.replied _ _ _, hlen, hlost, hzero, (if_neg heven).symm⟩⟩, noHeld_ixReply _ _ _ _ hserves.noHeld⟩

end Machine
end Sys2Proof
end

section
/-! O57: Ixzento's WAIT_LOCK, and its fault and test opcodes. -/

namespace Sys2Proof

open Machine

namespace Machine

variable {s t u v w : State} {q : Req} {sid : Nat}

theorem ixWaitLock_spec (h : Serves v q) :
    (let limit := beAt q.p 2 2
    (limit = 0 ∨ 60000 < limit → BadParam v q 2 (v.ixWaitLock q)) ∧ (limit ≠ 0 → limit ≤ 60000 → Waits v q (.lock (beAt q.p 0 1)) (v.ixWaitLock q))) ∧ NoHeld q.sid (v.ixWaitLock q) := by
  unfold State.ixWaitLock
  dsimp only
  by_cases hlimit : beAt q.p 2 2 = 0 ∨ 60000 < beAt q.p 2 2
  · rw [if_pos hlimit]
    exact ⟨⟨fun _ => h.badParam 2, fun _ _ => absurd hlimit (by omega)⟩, noHeld_badParam q 2 h.noHeld⟩
  · rw [if_neg hlimit]
    exact ⟨⟨fun hbad => absurd hbad hlimit, fun _ _ => h.waits _⟩, noHeld_ixWait q _ h.noHeld⟩

/-! FAULT_READ and FAULT_CLEAR. -/

/-- The fault maps. -/
def faultMaps : List Reg := (List.range 17).map (fun i => asyReg (0x100 + 4 * i)) ++ (List.range 4).map (fun i => asyReg (0x180 + 4 * i)) ++ [asyReg 0x190, asyReg 0x194]

theorem ixFaultRead_spec (h : Serves v q) : RepliedRegs v q stOk 0 faultMaps [] (v.ixFaultRead q) ∧ NoHeld q.sid (v.ixFaultRead q) := by
  have hplain : faultMaps.all plainRead = true := by decide
  exact ⟨h.repliedRegs hplain stOk 0, noHeld_ixReplyRegs hplain q stOk 0 h.noHeld⟩

/-- A FAILED mark is a bit that a write of 1 clears (R344). -/
theorem failBit_info {kind index : Nat} (h : index < sliceCount kind) :
    ∃ off m, 0x100 ≤ off ∧ off < 0x1000 ∧ (failBit kind index).1 = asyReg off ∧ (asyReg off).info = some { w1c := m } ∧ (failBit kind index).2 < 32 ∧ bit m (failBit kind index).2 = true := by
  have hlow {j : Nat} (hj : j < 32) : bit (0xFFFFFFFF : RegVal) j = true := (bit_lowWord (by omega)).trans (decide_eq_true hj)
  have hbanks : ∀ j < 24, bit (0x00FFFFFF : RegVal) j = true := by decide
  have hclusters {i : Nat} (hi : i < 544) : (asyReg (0x100 + 4 * (i / 32))).info = some { w1c := 0xFFFFFFFF } := by
    change infoAsy (0x100 + 4 * (i / 32)) = _
    unfold infoAsy
    rw [if_neg (by omega), if_neg (by omega), if_neg (by omega), if_neg (by omega), if_neg (by omega), if_neg (by omega), if_neg (by omega), if_pos (by simp; omega)]
  have hscratch {i : Nat} (hi : i < 128) : (asyReg (0x180 + 4 * (i / 32))).info = some { w1c := 0xFFFFFFFF } := by
    change infoAsy (0x180 + 4 * (i / 32)) = _
    unfold infoAsy
    rw [if_neg (by omega), if_neg (by omega), if_neg (by omega), if_neg (by omega), if_neg (by omega), if_neg (by omega), if_neg (by omega), if_neg (by simp; omega), if_pos (by simp; omega)]
  rcases kind_of_sliceCount h with ⟨rfl, h⟩ | ⟨rfl, h⟩ | ⟨rfl, h⟩ | ⟨rfl, h⟩ | ⟨rfl, h⟩
  · exact ⟨_, _, by omega, by omega, rfl, hclusters h, Nat.mod_lt index (by decide), hlow (Nat.mod_lt index (by decide))⟩
  · exact ⟨_, _, by omega, by omega, rfl, hscratch h, Nat.mod_lt index (by decide), hlow (Nat.mod_lt index (by decide))⟩
  · exact ⟨_, _, by omega, by omega, rfl, hscratch h, Nat.mod_lt index (by decide), hlow (Nat.mod_lt index (by decide))⟩
  · exact ⟨0x190, _, by decide, by decide, rfl, rfl, h, hlow h⟩
  · exact ⟨0x194, _, by decide, by decide, rfl, rfl, Nat.lt_trans (show index < 24 from h) (by decide), hbanks index h⟩

theorem ixPut_asy {off : Nat} {i : RegInfo} (hi : (asyReg off).info = some i) (hw : i.w64 = false) (x : Nat) : s.ixPut (asyReg off) x = s.asyWrite off (ixWord x) :=
  (ixPut_eq x hi hw).trans (State.guarded_mgmt (iss := .ixz) rfl s .asy 0 (fun s => s.asyWrite off (ixWord x)))

/-- FAULT_CLEAR's write clears the mark alone. -/
theorem mark_cleared (s : State) {kind index : Nat} (h : index < sliceCount kind) :
    let g := (failBit kind index).1
    let b := (failBit kind index).2
    let w := s.ixPut g (2 ^ b)
    w.rb g b = false ∧ (∀ j, j ≠ b → w.rb g j = s.rb g j) ∧ KeepRegs [g] s w ∧ Only [.regs] s w := by
  obtain ⟨off, m, hlow, hhigh, hreg, hinfo, hb, hm⟩ := failBit_info h
  dsimp only
  rw [hreg]
  generalize (failBit kind index).2 = b at hb hm ⊢
  have hput : s.ixPut (asyReg off) (2 ^ b) = s.writePlain (asyReg off) ((ixWord (2 ^ b)).setWidth 64) := by
    rw [ixPut_asy hinfo rfl]
    exact if_neg (by omega)
  obtain ⟨-, hkeep, honly⟩ := writePlain_writes (s := s) hinfo ((ixWord (2 ^ b)).setWidth 64)
  have hbit (j : Nat) (hj : j < 64) : (s.writePlain (asyReg off) ((ixWord (2 ^ b)).setWidth 64)).rb (asyReg off) j = (s.rb (asyReg off) j && !(bit m j && decide (b = j))) := by
    rw [s.writePlain_eq _ hinfo, State.rb, State.rget_rput_same, RegInfo.bit_write, bit_setWidth _ _ hj, bit_ixWord (Nat.pow_lt_pow_right (by decide) hb), Nat.testBit_two_pow]
    have hzero : bit (0 : RegVal) j = false := BitVec.getLsbD_zero
    dsimp only
    rw [hzero]
    rfl
  rw [hput]
  refine ⟨?_, fun j hj => ?_, hkeep, honly⟩
  · rw [hbit b (by omega), hm, decide_eq_true rfl]
    exact Bool.and_false _
  · by_cases h64 : j < 64
    · rw [hbit j h64, decide_eq_false (Ne.symm hj), Bool.and_false]
      exact Bool.and_true _
    · exact (BitVec.getLsbD_of_ge _ j (by omega)).trans (BitVec.getLsbD_of_ge _ j (by omega)).symm

/-- The fault record is written, at the flash die. -/
theorem faultMark_leaves (s : State) (kind index : Nat) (set : Bool) :
    (s.faultMark kind index set).dom 738 = 0 ∧ KeepRegs [lmpDom 738] s (s.faultMark kind index set) ∧ Only [.regs, .flash, .doms] s (s.faultMark kind index set) := by
  refine ⟨?_, ?_, (State.faultMark_ev kind index set (Ev.refl (fieldMask [.regs, .flash, .doms]) s) (by rfl)).only_mask⟩
  · exact (State.flashOn_lit _).1
  · have hregs (contents : Store Byte) : ({ s with flash := contents } : State).regs = s.regs := rfl
    exact (KeepRegs.of_regs (hregs _)).trans (State.flashOn_lit _).2.2.1

theorem ixFaultClear_eq (hk : ¬ 4 < beAt q.p 0 1) (hi : ¬ sliceCount (beAt q.p 0 1) ≤ beAt q.p 2 2) :
    v.ixFaultClear q = ((v.ixPut (failBit (beAt q.p 0 1) (beAt q.p 2 2)).1 (2 ^ (failBit (beAt q.p 0 1) (beAt q.p 2 2)).2)).faultMark (beAt q.p 0 1) (beAt q.p 2 2) false).ixReply q stOk 0 [] :=
  (if_neg hk).trans (if_neg hi)

theorem ixFaultClear_spec (h : Serves v q) :
    (let kind := beAt q.p 0 1
    let i := beAt q.p 2 2
    let g := (failBit kind i).1
    let b := (failBit kind i).2
    (4 < kind → BadParam v q 0 (v.ixFaultClear q)) ∧ (kind ≤ 4 → sliceCount kind ≤ i → BadParam v q 2 (v.ixFaultClear q)) ∧
    (kind ≤ 4 → i < sliceCount kind → ∃ w, w.rb g b = false ∧ (∀ j, j ≠ b → w.rb g j = v.rb g j) ∧ w.dom 738 = 0 ∧ KeepRegs [g, lmpDom 738] v w ∧ Only [.regs, .flash, .doms] v w ∧
      Replied w q stOk 0 [] (v.ixFaultClear q))) ∧ NoHeld q.sid (v.ixFaultClear q) := by
  dsimp only
  by_cases hk : 4 < beAt q.p 0 1
  · have hbad : v.ixFaultClear q = v.badParam q 0 := if_pos hk
    rw [hbad]
    exact ⟨⟨fun _ => h.badParam 0, fun hle => absurd hk (by omega), fun hle => absurd hk (by omega)⟩, noHeld_badParam q 0 h.noHeld⟩
  by_cases hi : sliceCount (beAt q.p 0 1) ≤ beAt q.p 2 2
  · have hbad : v.ixFaultClear q = v.badParam q 2 := (if_neg hk).trans (if_pos hi)
    rw [hbad]
    exact ⟨⟨fun hlt => absurd hlt hk, fun _ _ => h.badParam 2, fun _ hlt => absurd hi (by omega)⟩, noHeld_badParam q 2 h.noHeld⟩
  rw [ixFaultClear_eq hk hi]
  generalize beAt q.p 0 1 = kind at hk hi ⊢
  generalize beAt q.p 2 2 = i at hi ⊢
  obtain ⟨off, m, hlow, hhigh, hreg, -⟩ := failBit_info (Nat.lt_of_not_le hi)
  obtain ⟨hclear, hrest, hkeep, honly⟩ := mark_cleared v (Nat.lt_of_not_le hi)
  have hserves := h.ixPut (failBit kind i).1 (2 ^ (failBit kind i).2)
  rw [hreg] at hclear hrest hkeep honly hserves ⊢
  generalize v.ixPut (asyReg off) (2 ^ (failBit kind i).2) = w at hclear hrest hkeep honly hserves ⊢
  obtain ⟨hlit, hkept, hframe⟩ := faultMark_leaves w kind i false
  have hasy := asyKept_faultMark w kind i false
  generalize w.faultMark kind i false = x at hlit hkept hframe hasy ⊢
  have hdone : Serves x q := hserves.of_ix (hframe .ix (by decide))
  exact ⟨⟨fun hlt => absurd hlt hk, fun _ hle => absurd hle hi, fun _ _ => ⟨x, (hasy.rb hhigh _).trans hclear, fun j hj => (hasy.rb hhigh j).trans (hrest j hj), hlit,
    (hkeep.mono (by simp)).trans (hkept.mono (by simp)), (honly.mono (by simp)).trans hframe, hdone.replied _ _ _⟩⟩, noHeld_ixReply _ _ _ _ hdone.noHeld⟩

/-! SLICE_RUN. -/

theorem askMask {kind index : Nat} (hk : kind < 8) (hi : index < 1024) : (2 ^ 28 * (8 + kind) + index) &&& (2 ^ 28 * 7 + (2 ^ 10 - 1)) = 2 ^ 28 * kind + index := by
  have hkinds : ∀ k < 8, (8 + k) &&& 7 = k := by decide
  refine Nat.eq_of_testBit_eq fun j => ?_
  rw [Nat.testBit_and, Nat.testBit_two_pow_mul_add _ (by omega), Nat.testBit_two_pow_mul_add _ (by decide), Nat.testBit_two_pow_mul_add _ (by omega)]
  by_cases hj : j < 28
  · rw [if_pos hj, if_pos hj, if_pos hj, Nat.testBit_two_pow_sub_one]
    by_cases hj' : j < 10
    · rw [decide_eq_true hj', Bool.and_true]
    · rw [Nat.testBit_lt_two_pow ((show index < 2 ^ 10 from hi).trans_le (Nat.pow_le_pow_right (by decide) (show 10 ≤ j by omega))), Bool.false_and]
  · rw [if_neg hj, if_neg hj, if_neg hj, ← Nat.testBit_and, hkinds kind hk]

/-- What SLICE_RUN writes: the kind and the element. -/
theorem askWord_eq {kind index : Nat} (hk : kind < 8) (hi : index < 1024) :
    (ixWord (2 ^ 31 + kind * 2 ^ 28 + index)).setWidth 64 &&& (0x700003FF : RegVal) = put 28 kind + put 0 index := by
  refine BitVec.eq_of_toNat_eq ?_
  rw [BitVec.toNat_and, BitVec.toNat_setWidth, toNat_ixWord (by omega), toNat_askWord hk hi, Nat.mod_eq_of_lt (by omega)]
  have hmask := askMask hk hi
  rw [show 2 ^ 28 * (8 + kind) + index = 2 ^ 31 + kind * 2 ^ 28 + index by omega, show 2 ^ 28 * kind + index = kind * 2 ^ 28 + index by omega] at hmask
  exact hmask

/-- SLICE_RUN's write asks for the slice (R344). -/
theorem ixPut_slice (s : State) {kind index : Nat} (hk : kind < 8) (hi : index < 1024) :
    s.ixPut (asyReg 4) (2 ^ 31 + kind * 2 ^ 28 + index) = (s.sliceAsked kind index).sliceAsk kind index := by
  have hgo : bit (ixWord (2 ^ 31 + kind * 2 ^ 28 + index)) 31 = true := by
    rw [bit_ixWord (by omega), show 2 ^ 31 + kind * 2 ^ 28 + index = 2 ^ 31 * 1 + (kind * 2 ^ 28 + index) by omega, Nat.testBit_two_pow_mul_add _ (by omega)]
    rfl
  have hkind : fld (ixWord (2 ^ 31 + kind * 2 ^ 28 + index)) 28 3 = kind := by
    rw [fld_ixWord (by omega)]
    omega
  have hindex : fld (ixWord (2 ^ 31 + kind * 2 ^ 28 + index)) 0 10 = index := by
    rw [fld_ixWord (by omega)]
    omega
  have hword := askWord_eq hk hi
  rw [ixPut_asy (off := 4) (i := { rw := 0x700003FF, wo := 0x80000000 }) rfl rfl]
  generalize ixWord (2 ^ 31 + kind * 2 ^ 28 + index) = x at hgo hkind hindex hword ⊢
  unfold State.asyWrite State.sliceAsked
  rw [if_pos rfl]
  dsimp only
  rw [if_pos hgo, hkind, hindex, hword]

theorem sliceAsk_ix (s : State) (kind index : Nat) : ((s.sliceAsked kind index).sliceAsk kind index).ix = s.ix :=
  (State.sliceAsk_ev kind index (Ev.refl 464245223606497413297070088 (s.sliceAsked kind index)) (by rfl)).frame .ix rfl

theorem sliceRun_busy (s : State) : s.slices.any (fun x => !x.background && x.confirm.isNone) = true ↔ ∃ x ∈ s.slices, x.background = false ∧ x.confirm = none := by
  rw [List.any_eq_true]
  simp only [Bool.and_eq_true, Bool.not_eq_true', Option.isNone_iff_eq_none]

theorem ixSliceRun_spec (h : Serves v q) :
    (let kind := beAt q.p 0 1
    let i := beAt q.p 2 2
    let can : Prop := kind ≤ 4 ∧ v.sliceRuns kind = true
    let busy : Prop := ∃ x ∈ v.slices, x.background = false ∧ x.confirm = none
    (¬ can → BadParam v q 0 (v.ixSliceRun q)) ∧ (can → v.sliceEligible kind i = false → BadParam v q 2 (v.ixSliceRun q)) ∧
    (can → v.sliceEligible kind i = true → busy → Replied v q stBusy 0 [] (v.ixSliceRun q)) ∧
    (can → v.sliceEligible kind i = true → ¬ busy → ∃ w, w.slices = v.slices ++ [{ kind := kind, index := i }] ∧ w.rf (asyReg 4) 28 3 = kind ∧ w.rf (asyReg 4) 0 10 = i ∧
      Waits w q (.slice kind i) (v.ixSliceRun q))) ∧ NoHeld q.sid (v.ixSliceRun q) := by
  unfold State.ixSliceRun
  dsimp only
  generalize beAt q.p 0 1 = kind
  generalize beAt q.p 2 2 = i
  have hcan : (4 < kind ∨ (!v.sliceRuns kind) = true) ↔ ¬ (kind ≤ 4 ∧ v.sliceRuns kind = true) := by
    rw [Bool.not_eq_true', not_and_or, Bool.not_eq_true, Nat.not_le]
  by_cases hc : kind ≤ 4 ∧ v.sliceRuns kind = true
  swap
  · rw [if_pos (hcan.mpr hc)]
    exact ⟨⟨fun _ => h.badParam 0, fun hyes => absurd hyes hc, fun hyes => absurd hyes hc, fun hyes => absurd hyes hc⟩, noHeld_badParam q 0 h.noHeld⟩
  rw [if_neg (fun hno => hcan.mp hno hc)]
  cases hel : v.sliceEligible kind i with
  | false =>
    rw [if_pos (by decide)]
    exact ⟨⟨fun hno => absurd hc hno, fun _ _ => h.badParam 2, nofun, nofun⟩, noHeld_badParam q 2 h.noHeld⟩
  | true =>
    rw [if_neg (by decide)]
    by_cases hbusy : ∃ x ∈ v.slices, x.background = false ∧ x.confirm = none
    · rw [if_pos ((sliceRun_busy v).mpr hbusy)]
      exact ⟨⟨fun hno => absurd hc hno, nofun, fun _ _ _ => h.replied _ _ _, fun _ _ hno => absurd hbusy hno⟩, noHeld_ixReply _ _ _ _ h.noHeld⟩
    · rw [if_neg (mt (sliceRun_busy v).mp hbusy)]
      have hcount : i < sliceCount kind := by
        unfold State.sliceEligible at hel
        exact of_decide_eq_true (Bool.and_eq_true_iff.mp hel).1
      have hi : i < 1024 := by
        rcases kind_of_sliceCount hcount with ⟨-, hi⟩ | ⟨-, hi⟩ | ⟨-, hi⟩ | ⟨-, hi⟩ | ⟨-, hi⟩ <;> omega
      obtain ⟨-, -, hasked⟩ := sliceAsk_spec v (kind := kind) (index := i) (by omega) hi
      obtain ⟨⟨hkind, hindex⟩, hslices, -⟩ := hasked hel hc.2
      rw [ixPut_slice v (by omega) hi]
      have hserves : Serves ((v.sliceAsked kind i).sliceAsk kind i) q := h.of_ix (sliceAsk_ix v kind i)
      exact ⟨⟨fun hno => absurd hc hno, nofun, fun _ _ hyes => absurd hyes hbusy, fun _ _ _ => ⟨_, hslices, hkind, hindex, hserves.waits _⟩⟩, noHeld_ixWait q _ hserves.noHeld⟩

/-! ASH, RESET and LINK_CTL. -/

theorem ixSends (s : State) (addr : Nat) (wd : Width) (k : AKind) (d : Word) : IxSends s addr wd k d (s.toFabric .ixz addr wd k d false) :=
  ⟨⟨rfl, rfl⟩, (State.toFabric_ev .ixz addr wd k d false (Ev.refl (fieldMask [.flights, .nextId]) s) (by rfl)).only_mask⟩

theorem Serves.toFabric (h : Serves s q) (addr : Nat) (wd : Width) (k : AKind) (d : Word) : Serves (s.toFabric .ixz addr wd k d false) q :=
  h.of_ix ((ixSends s addr wd k d).2 .ix (by decide))

theorem ixAsh_spec (h : Serves v q) :
    (let r := beAt q.p 0 1
    (31 < r → BadParam v q 0 (v.ixAsh q)) ∧
    (r ≤ 31 → ∃ w, IxSends v (⟨.tnk, r, 8⟩ : Reg).addr .b32 .write (BitVec.ofNat 32 (2 ^ 31 + (if v.rb ⟨.tnk, r, 8⟩ 30 then 2 ^ 30 else 0))) w ∧ Waits w q (.ash v.nextId r) (v.ixAsh q))) ∧
    NoHeld q.sid (v.ixAsh q) := by
  unfold State.ixAsh
  dsimp only
  generalize beAt q.p 0 1 = r
  by_cases hr : 31 < r
  · rw [if_pos hr]
    exact ⟨⟨fun _ => h.badParam 0, fun hle => absurd hr (by omega)⟩, noHeld_badParam q 0 h.noHeld⟩
  · have hauto : b2n (v.rb ⟨.tnk, r, 8⟩ 30) * 2 ^ 30 = if v.rb ⟨.tnk, r, 8⟩ 30 then 2 ^ 30 else 0 := by
      cases v.rb ⟨.tnk, r, 8⟩ 30 <;> rfl
    rw [if_neg hr, hauto]
    have hserves := h.toFabric (⟨.tnk, r, 8⟩ : Reg).addr .b32 .write (BitVec.ofNat 32 (2 ^ 31 + (if v.rb ⟨.tnk, r, 8⟩ 30 then 2 ^ 30 else 0)))
    exact ⟨⟨fun hlt => absurd hlt hr, fun _ => ⟨_, ixSends v _ _ _ _, hserves.waits _⟩⟩, noHeld_ixWait q _ hserves.noHeld⟩

/-- A reset that will act (R436). -/
def State.resetSet (s : State) (t : Nat) : State := { s with ix := { s.ix with resetDue := some t } }

theorem only_resetSet (s : State) (t : Nat) : Only [.ix] s (s.resetSet t) := by
  intro f hf
  cases f
  case ix => exact absurd List.mem_cons_self hf
  all_goals rfl

theorem ixReset_spec (h : Serves v q) :
    (let t := beAt q.p 0 1
    (1 < t → BadParam v q 0 (v.ixReset q)) ∧ (t ≤ 1 → ∃ w, w.ix = { v.ix with resetDue := some t } ∧ Only [.ix] v w ∧ Replied w q stOk 0 [] (v.ixReset q))) ∧ NoHeld q.sid (v.ixReset q) := by
  dsimp only
  by_cases ht : 1 < beAt q.p 0 1
  · have hbad : v.ixReset q = v.badParam q 0 := if_pos ht
    rw [hbad]
    exact ⟨⟨fun _ => h.badParam 0, fun hle => absurd ht (by omega)⟩, noHeld_badParam q 0 h.noHeld⟩
  · have hset : v.ixReset q = (v.resetSet (beAt q.p 0 1)).ixReply q stOk 0 [] := if_neg ht
    have hserves : Serves (v.resetSet (beAt q.p 0 1)) q := h.of_sessions rfl
    rw [hset]
    exact ⟨⟨fun hlt => absurd hlt ht, fun _ => ⟨_, rfl, only_resetSet v _, hserves.replied _ _ _⟩⟩, noHeld_ixReply _ _ _ _ hserves.noHeld⟩

/-- The word that LINK_CTL writes, of CTL's value and its EN: the EN, RETRAIN and READMIT fields by the action. -/
def linkWord (c act : Nat) (en : Bool) : Nat :=
  c % 2 ^ 29 + (if act = 1 ∨ (2 ≤ act ∧ en = true) then 2 ^ 31 else 0) + (if 2 ≤ act then 2 ^ 30 else 0) + (if act = 3 then 2 ^ 29 else 0)

theorem fields_of_flags {c x y z : Nat} (hc : c < 2 ^ 29) (hx : x < 2) (hy : y < 2) (hz : z < 2) :
    let w := c + 2 ^ 31 * x + 2 ^ 30 * y + 2 ^ 29 * z
    w < 2 ^ 32 ∧ w % 2 ^ 29 = c ∧ w / 2 ^ 31 = x ∧ w / 2 ^ 30 % 2 = y ∧ w / 2 ^ 29 % 2 = z := by
  omega

/-- A word of a low part and three flags above it. -/
theorem flagged_fields (c : Nat) (a b d : Prop) [Decidable a] [Decidable b] [Decidable d] :
    let x := c % 2 ^ 29 + (if a then 2 ^ 31 else 0) + (if b then 2 ^ 30 else 0) + (if d then 2 ^ 29 else 0)
    x < 2 ^ 32 ∧ x % 2 ^ 29 = c % 2 ^ 29 ∧ (x / 2 ^ 31 = 1 ↔ a) ∧ (x / 2 ^ 30 % 2 = 1 ↔ b) ∧ (x / 2 ^ 29 % 2 = 1 ↔ d) := by
  have hflag (p : Prop) [Decidable p] (k : Nat) : (if p then 2 ^ k else 0) = 2 ^ k * (if p then 1 else 0) := by split <;> simp
  have hbit (p : Prop) [Decidable p] : (if p then 1 else 0) < 2 := by split <;> decide
  have hone (p : Prop) [Decidable p] : (if p then 1 else 0) = 1 ↔ p := by simp
  obtain ⟨hlt, hlow, ha, hb, hd⟩ := fields_of_flags (Nat.mod_lt c (Nat.two_pow_pos 29)) (hbit a) (hbit b) (hbit d)
  dsimp only
  rw [hflag a, hflag b, hflag d, ha, hb, hd]
  exact ⟨hlt, hlow, hone a, hone b, hone d⟩

theorem linkWord_fields (c act : Nat) (en : Bool) :
    let x := linkWord c act en
    x < 2 ^ 32 ∧ x % 2 ^ 29 = c % 2 ^ 29 ∧ (x / 2 ^ 31 = 1 ↔ act = 1 ∨ (2 ≤ act ∧ en = true)) ∧ (x / 2 ^ 30 % 2 = 1 ↔ 2 ≤ act) ∧ (x / 2 ^ 29 % 2 = 1 ↔ act = 3) :=
  flagged_fields c (act = 1 ∨ (2 ≤ act ∧ en = true)) (2 ≤ act) (act = 3)

theorem ixLinkCtl_eq (hl : ¬ 31 < beAt q.p 0 1) (hact : ¬ 3 < beAt q.p 1 1) :
    v.ixLinkCtl q = (v.ixPut (chl (beAt q.p 0 1) 0) (linkWord (v.rget (chl (beAt q.p 0 1) 0)).toNat (beAt q.p 1 1) (v.rb (chl (beAt q.p 0 1) 0) 31))).ixReplyRegs q stOk 0 [chl (beAt q.p 0 1) 4] := by
  unfold State.ixLinkCtl linkWord
  dsimp only
  rw [if_neg hl, if_neg hact]
  generalize beAt q.p 1 1 = act at hact
  obtain rfl | rfl | rfl | rfl : act = 0 ∨ act = 1 ∨ act = 2 ∨ act = 3 := by omega
  · simp
  · simp
  · cases v.rb (chl (beAt q.p 0 1) 0) 31 <;> simp [b2n]
  · cases v.rb (chl (beAt q.p 0 1) 0) 31 <;> simp [b2n]

theorem ixLinkCtl_spec (h : Serves v q) :
    (let l := beAt q.p 0 1
    let act := beAt q.p 1 1
    let g := chl l 0
    (31 < l → BadParam v q 0 (v.ixLinkCtl q)) ∧ (l ≤ 31 → 3 < act → BadParam v q 1 (v.ixLinkCtl q)) ∧
    (l ≤ 31 → act ≤ 3 → ∃ w x, IxWrites v [(g, x)] w ∧ x < 2 ^ 32 ∧ x % 2 ^ 29 = (v.rget g).toNat % 2 ^ 29 ∧ (x / 2 ^ 31 = 1 ↔ act = 1 ∨ (2 ≤ act ∧ v.rb g 31 = true)) ∧ (x / 2 ^ 30 % 2 = 1 ↔ 2 ≤ act) ∧
      (x / 2 ^ 29 % 2 = 1 ↔ act = 3) ∧ RepliedRegs w q stOk 0 [chl l 4] [] (v.ixLinkCtl q))) ∧ NoHeld q.sid (v.ixLinkCtl q) := by
  dsimp only
  by_cases hl : 31 < beAt q.p 0 1
  · have hbad : v.ixLinkCtl q = v.badParam q 0 := if_pos hl
    rw [hbad]
    exact ⟨⟨fun _ => h.badParam 0, fun hle => absurd hl (by omega), fun hle => absurd hl (by omega)⟩, noHeld_badParam q 0 h.noHeld⟩
  by_cases hact : 3 < beAt q.p 1 1
  · have hbad : v.ixLinkCtl q = v.badParam q 1 := (if_neg hl).trans (if_pos hact)
    rw [hbad]
    exact ⟨⟨fun hlt => absurd hlt hl, fun _ _ => h.badParam 1, fun _ hle => absurd hact (by omega)⟩, noHeld_badParam q 1 h.noHeld⟩
  rw [ixLinkCtl_eq hl hact]
  obtain ⟨hlt, hlow, hen, hretrain, hreadmit⟩ := linkWord_fields (v.rget (chl (beAt q.p 0 1) 0)).toNat (beAt q.p 1 1) (v.rb (chl (beAt q.p 0 1) 0) 31)
  generalize linkWord (v.rget (chl (beAt q.p 0 1) 0)).toNat (beAt q.p 1 1) (v.rb (chl (beAt q.p 0 1) 0) 31) = x at hlt hlow hen hretrain hreadmit ⊢
  have hwrites : IxWrites v [(chl (beAt q.p 0 1) 0, x)] (v.ixPut (chl (beAt q.p 0 1) 0) x) := rfl
  obtain ⟨hreplied, hheld⟩ := h.writesRegs hwrites (gs := [chl (beAt q.p 0 1) 4]) rfl stOk 0
  exact ⟨⟨fun hgt => absurd hgt hl, fun _ hgt => absurd hgt hact, fun _ _ => ⟨_, x, hwrites, hlt, hlow, hen, hretrain, hreadmit, hreplied⟩⟩, hheld⟩

end Machine

/-- Settles O57: each opcode of the power, phase, and fault and test groups does to a request in turn what its row of the table says. -/
theorem powerPhaseAndFaultOpcodes : Obligations.PowerPhaseAndFaultOpcodes := by
  unfold Obligations.PowerPhaseAndFaultOpcodes
  refine ⟨?_, ?_, ?_, ?_, ?_, ?_, ?_, ?_, ?_, ?_, ?_, ?_, ?_⟩
  · exact row_of_perform State.ixPowerSet (fun _ _ => rfl) rfl (fun n => by simp [lenOk, ixLens]) (fun _ _ _ _ _ _ => rfl) fun v q h _ _ => ixPowerSet_spec h
  · exact row_of_perform State.ixPowerGet (fun _ _ => rfl) rfl (fun n => by simp [lenOk, ixLens]) (fun _ _ _ _ _ _ => rfl) fun v q h _ _ => ixPowerGet_spec h
  · exact row_of_perform State.ixRailSet (fun _ _ => rfl) rfl (fun n => by simp [lenOk, ixLens]) (fun _ _ _ _ _ _ => rfl) fun v q h _ _ => ixRailSet_spec h
  · exact row_of_perform State.ixPortSet (fun _ _ => rfl) rfl (fun n => by simp [lenOk, ixLens]) (fun _ _ _ _ _ _ => rfl) fun v q h _ _ => ixPortSet_spec h
  · exact row_of_perform State.ixLineSet (fun _ _ => rfl) rfl (fun n => by simp [lenOk, ixLens]) (fun _ _ _ _ _ _ => rfl) fun v q h _ _ => ixLineSet_spec h
  · exact row_of_perform State.ixLineGet (fun _ _ => rfl) rfl (fun n => by simp [lenOk, ixLens]) (fun _ _ _ _ _ _ => rfl) fun v q h _ _ => ixLineGet_spec h
  · exact row_of_perform State.ixWaitLock (fun _ _ => rfl) rfl (fun n => by simp [lenOk, ixLens]) (fun _ _ _ _ _ _ => rfl) fun v q h _ _ => ixWaitLock_spec h
  · exact row_of_perform State.ixFaultRead (fun _ _ => rfl) rfl (fun n => by simp [lenOk, ixLens]) (fun _ _ _ _ _ _ => rfl) fun v q h _ _ => ixFaultRead_spec h
  · exact row_of_perform State.ixFaultClear (fun _ _ => rfl) rfl (fun n => by simp [lenOk, ixLens]) (fun _ _ _ _ _ _ => rfl) fun v q h _ _ => ixFaultClear_spec h
  · exact row_of_perform State.ixSliceRun (fun _ _ => rfl) rfl (fun n => by simp [lenOk, ixLens]) (fun _ _ _ _ _ _ => rfl) fun v q h _ _ => ixSliceRun_spec h
  · exact row_of_perform State.ixAsh (fun _ _ => rfl) rfl (fun n => by simp [lenOk, ixLens]) (fun _ _ _ _ _ _ => rfl) fun v q h _ _ => ixAsh_spec h
  · exact row_of_perform State.ixReset (fun _ _ => rfl) rfl (fun n => by simp [lenOk, ixLens]) (fun _ _ _ _ _ _ => rfl) fun v q h _ _ => ixReset_spec h
  · exact row_of_perform State.ixLinkCtl (fun _ _ => rfl) rfl (fun n => by simp [lenOk, ixLens]) (fun _ _ _ _ _ _ => rfl) fun v q h _ _ => ixLinkCtl_spec h

end Sys2Proof
end

section
/-! O58: how a request of Ixzento that waits for an access goes on at its answer (R394, R435, R436). -/

namespace Sys2Proof

open Machine

namespace Machine

variable {s t u v w : State} {q : Req} {id : Nat} {f : Flight} {a : Answer} {x : Session} {r : Running}

/-! A request that runs. -/

/-- The request's session is open, and it is the one that the request says. -/
def Runs (s : State) (q : Req) : Prop := ∃ x, s.session q.sid = some x ∧ x.ep = q.ep ∧ x.minor = q.minor

theorem Runs.replied (h : Runs s q) (st det : Nat) (res : List Byte) : Replied s q st det res (s.ixReply q st det res) := by
  obtain ⟨x, hx, hep, hminor⟩ := h
  exact ixReply_replied hx hep hminor st det res

theorem Runs.waits (h : Runs s q) (w : IxWait) : Waits s q w (s.ixWait q w) := by
  obtain ⟨x, hx, -⟩ := h
  exact ixWait_waits hx w

theorem Runs.of_ix (h : Runs s q) (hix : t.ix = s.ix) : Runs t q := by
  unfold Runs at *
  rw [State.session_of_ix hix]
  exact h

theorem runs_req (h : s.session x.id = some x) (r : Running) : Runs s (x.req r) := ⟨x, h, rfl, rfl⟩

theorem Serves.runs (h : Serves s q) : Runs s q := by
  obtain ⟨-, -, x, hx, -, -, hep, hminor⟩ := h
  exact ⟨x, hx, hep, hminor⟩

theorem Runs.toFabric (h : Runs s q) (addr : Nat) (wd : Width) (k : AKind) (d : Word) : Runs (s.toFabric .ixz addr wd k d false) q :=
  h.of_ix ((ixSends s addr wd k d).2 .ix (by decide))

/-- An access sets out, and the request waits for it. -/
theorem Runs.sends (h : Runs s q) (addr : Nat) (wd : Width) (k : AKind) (d : Word) (wt : IxWait) :
    ∃ t, IxSends s addr wd k d t ∧ Waits t q wt ((s.toFabric .ixz addr wd k d false).ixWait q wt) :=
  ⟨_, ixSends s addr wd k d, (h.toFabric addr wd k d).waits wt⟩

/-! A mask of flags. -/

/-- Bit `i` set for each entry that has the flag, from place `k` on. -/
theorem testBit_foldl_mask {α : Type} (f : α → Bool) (l : List α) (k m i : Nat) (hm : m < 2 ^ k) :
    (((List.range' k l.length).zip l).foldl (fun a e => a + (if f e.2 then 2 ^ e.1 else 0)) m).testBit i = if i < k then m.testBit i else (l[i - k]?.map f).getD false := by
  induction l generalizing k m with
  | nil =>
    by_cases hi : i < k
    · rw [if_pos hi]
      rfl
    · rw [if_neg hi]
      exact Nat.testBit_lt_two_pow (hm.trans_le (Nat.pow_le_pow_right (by decide) (by omega)))
  | cons x l ih =>
    have hsum : m + (if f x then 2 ^ k else 0) = 2 ^ k * (if f x then 1 else 0) + m := by
      cases f x <;> simp [Nat.add_comm]
    have hlt : m + (if f x then 2 ^ k else 0) < 2 ^ (k + 1) := by
      rw [Nat.pow_succ]
      split <;> omega
    have hcons : ((List.range' k (x :: l).length).zip (x :: l)).foldl (fun a e => a + (if f e.2 then 2 ^ e.1 else 0)) m =
        ((List.range' (k + 1) l.length).zip l).foldl (fun a e => a + (if f e.2 then 2 ^ e.1 else 0)) (m + (if f x then 2 ^ k else 0)) := rfl
    rw [hcons, ih (k + 1) _ hlt, hsum, Nat.testBit_two_pow_mul_add _ hm]
    rcases Nat.lt_trichotomy i k with hi | rfl | hi
    · rw [if_pos (by omega), if_pos hi, if_pos hi]
    · rw [if_pos (Nat.lt_succ_self i), if_neg (Nat.lt_irrefl i), if_neg (Nat.lt_irrefl i), Nat.sub_self, List.getElem?_cons_zero, Option.map_some, Option.getD_some]
      cases f x <;> rfl
    · rw [if_neg (by omega), if_neg (by omega), show i - k = (i - (k + 1)) + 1 by omega, List.getElem?_cons_succ]

theorem testBit_mask {α : Type} (f : α → Bool) (l : List α) (i : Nat) :
    (((List.range l.length).zip l).foldl (fun (a : Nat) (e : Nat × α) => a + (if f e.2 then 2 ^ e.1 else 0)) 0).testBit i = (l[i]?.map f).getD false := by
  rw [List.range_eq_range', testBit_foldl_mask f l 0 0 i (by decide), if_neg (by omega)]
  rfl

/-! The steps of READ and of the hopper opcodes. -/

/-- The PMASK of a READ's reply. -/
def readMask (got : List (BitVec 64 × Bool)) : Nat := ((List.range got.length).zip got).foldl (fun a e => a + (if e.2.2 then 2 ^ e.1 else 0)) 0

theorem testBit_readMask (got : List (BitVec 64 × Bool)) (i : Nat) : (readMask got).testBit i = (got[i]?.map (·.2)).getD false := testBit_mask (fun e : BitVec 64 × Bool => e.2) got i

theorem ixReadOn_ends (s : State) (q : Req) (addr : Nat) (w64 : Bool) (got : List (BitVec 64 × Bool)) (ref : Bool) :
    s.ixReadOn q addr w64 0 got ref = s.ixReply q (quarStatus ref) 0 (got.flatMap (fun e => be (if w64 then 8 else 4) e.1.toNat) ++ be 32 (readMask got)) := rfl

theorem ixReadOn_fabric (s : State) (q : Req) {addr : Nat} (w64 : Bool) {n : Nat} (got : List (BitVec 64 × Bool)) (ref : Bool) (h : ((placeOf addr).region).isSome = true) (hn : 1 ≤ n) :
    s.ixReadOn q addr w64 n got ref =
      (s.toFabric .ixz addr (width64 w64) .read 0 false).ixWait q (.read s.nextId (addr + if w64 then 8 else 4) w64 (n - 1) got ref) := by
  obtain ⟨m, rfl⟩ : ∃ m, n = m + 1 := ⟨n - 1, by omega⟩
  have hrun : s.readRun addr w64 (m + 1) got = ⟨s.toFabric .ixz addr (width64 w64) .read 0 false, got, some (s.nextId, m)⟩ := if_pos h
  unfold State.ixReadOn
  rw [hrun]
  dsimp only
  rw [show m + 1 - m = 1 by omega, Nat.one_mul, Nat.add_sub_cancel]

theorem popped (h : Runs s q) (refused : Bool) (got : List Tok) : Popped s q (quarStatus refused) got (s.hopPopped q refused got) :=
  ⟨tokMask (·.p) got, tokMask (·.f) got, fun i => ⟨testBit_mask (fun t : Tok => t.p) got i, testBit_mask (fun t : Tok => t.f) got i⟩, h.replied _ _ _⟩

theorem hopAddr_pop (h : Nat) : hopAddr h true = hopAt h 4 := by
  unfold hopAddr hopAt winBase
  rw [if_pos rfl]
  omega

theorem hopAddr_push (h : Nat) : hopAddr h false = hopAt h 0 := by
  unfold hopAddr hopAt winBase
  rw [if_neg (by decide)]
  omega

theorem hopPopOn_ends (h : Runs s q) (hop : Nat) (got : List Tok) : Popped s q stOk got (s.hopPopOn q hop 0 got) := popped h false got

theorem hopPopOn_goes (h : Runs s q) (hop : Nat) {n : Nat} (got : List Tok) (hn : 1 ≤ n) :
    ∃ t, IxSends s (hopAt hop 4) .b32 .read 0 t ∧ Waits t q (.hopPop s.nextId hop (n - 1) got) (s.hopPopOn q hop n got) := by
  have hon : s.hopPopOn q hop n got = (s.toFabric .ixz (hopAddr hop true) .b32 .read 0 false).ixWait q (.hopPop s.nextId hop (n - 1) got) := if_neg (by omega)
  rw [hon, hopAddr_pop]
  exact h.sends _ _ _ _ _

theorem hopPushOn_ends (h : Runs s q) (hop done : Nat) : Replied s q stOk 0 (be 1 done ++ be 3 0) (s.hopPushOn q hop [] done) := h.replied _ _ _

theorem hopPushOn_goes (h : Runs s q) (hop : Nat) (e : Word) (rest : List Word) (done : Nat) :
    ∃ t, IxSends s (hopAt hop 0) .b32 .write e t ∧ Waits t q (.hopPush s.nextId hop rest done) (s.hopPushOn q hop (e :: rest) done) := by
  have hon : s.hopPushOn q hop (e :: rest) done = (s.toFabric .ixz (hopAddr hop false) .b32 .write e false).ixWait q (.hopPush s.nextId hop rest done) := rfl
  rw [hon, hopAddr_push]
  exact h.sends _ _ _ _ _

theorem hopFirst_goes (h : Runs s q) (hop : Nat) (todo : HopTodo) :
    ∃ t, IxSends s (hopReg hop 8).addr .b32 .read 0 t ∧ Waits t q (.hopStat s.nextId hop todo) (s.hopFirst q hop todo) := h.sends _ _ _ _ _

/-- A read of a word of TNK's report: no read of it changes anything. -/
theorem ixRead_tnkBase (s : State) (off : Nat) : s.ixRead ⟨.tnkBase, 0, off⟩ = (s, (s.shown ⟨.tnkBase, 0, off⟩).toNat) := by
  by_cases hinfo : (⟨.tnkBase, 0, off⟩ : Reg).info = none
  · have hread : s.regRead .ixz ⟨.tnkBase, 0, off⟩ .b32 false = (s, 0) := by
      unfold State.regRead
      rw [hinfo]
    have hshown : s.shown ⟨.tnkBase, 0, off⟩ = 0 := by
      unfold State.shown
      rw [hinfo]
    unfold State.ixRead
    rw [hread, hshown]
    rfl
  · have hplain : ∃ i, (⟨.tnkBase, 0, off⟩ : Reg).info = some i ∧ i.w64 = false ∧ i.rc = 0 := by
      change infoTnkBase off ≠ none at hinfo
      change ∃ i, infoTnkBase off = some i ∧ _
      unfold infoTnkBase at hinfo ⊢
      repeat' split
      · exact ⟨_, rfl, rfl, rfl⟩
      · exact ⟨_, rfl, rfl, rfl⟩
      · exact ⟨_, rfl, rfl, rfl⟩
      · exact ⟨_, rfl, rfl, rfl⟩
      · exact ⟨_, rfl, rfl, rfl⟩
      · simp_all
    obtain ⟨i, hi, hw, hrc⟩ := hplain
    have htaken := regRead_taken (s := s) (iss := .ixz) (w := .b32) false hi (by unfold RegInfo.width; rw [hw]; rfl) rfl
    rw [readDone_clears hi nofun nofun nofun nofun, if_pos hrc, if_neg (by decide)] at htaken
    unfold State.ixRead
    rw [htaken]
    rfl

theorem ashReplied (h : Runs s q) (st off : Nat) : RepliedRegs s q st 0 [⟨.tnkBase, 0, off⟩] [] (s.ixReplyRegs q st 0 [⟨.tnkBase, 0, off⟩]) := by
  have hreads : s.ixReads [⟨.tnkBase, 0, off⟩] = (s, be 4 (s.shown ⟨.tnkBase, 0, off⟩).toNat ++ []) := by
    unfold State.ixReads
    rw [ixRead_tnkBase]
    rfl
  unfold State.ixReplyRegs
  rw [hreads]
  refine ⟨s, .refl _ _, ?_⟩
  rw [List.flatMap_cons, List.flatMap_nil, List.append_nil, List.append_nil]
  exact h.replied _ _ _

/-! An answer taken. -/

/-- Ixzento takes the answer of a read: MGT_FSTAT shows its P (R394). -/
def State.answerTaken (s : State) (id : Nat) (a : Answer) : State := if a.tok.p then (s.dropFlight id).fstat 0 30 else s.dropFlight id

theorem answerTaken_leaves (s : State) (id : Nat) (a : Answer) :
    let v := s.answerTaken id a
    v.flights = s.flights.filter (fun y => y.id != id) ∧ (a.tok.p = true → v.rb (irqReg 0x34) 30 = true) ∧ KeepRegs (if a.tok.p then [irqReg 0x34] else []) s v ∧ Only [.flights, .regs] s v := by
  have hdrop := only_dropFlight s id
  have hflights : (s.dropFlight id).flights = s.flights.filter (fun y => y.id != id) := rfl
  have hregs : (s.dropFlight id).regs = s.regs := hdrop .regs (by decide)
  unfold State.answerTaken
  dsimp only
  generalize s.dropFlight id = v at hdrop hflights hregs ⊢
  cases hp : a.tok.p with
  | false => exact ⟨hflights, nofun, .of_regs hregs, hdrop.mono (by simp)⟩
  | true =>
    obtain ⟨hbit, -, hkeep⟩ := v.fstat_records (c := 0) (i := 30) (by decide) (by decide) (by decide)
    have honly : Only [.regs] v (v.fstat 0 30) := (State.fstat_ev 0 30 (Ev.refl (fieldMask [.regs]) v) (by rfl)).only_mask
    exact ⟨(honly .flights (by decide)).trans hflights, fun _ => hbit, (KeepRegs.of_regs hregs).trans hkeep, (hdrop.mono (by simp)).trans (honly.mono (by simp))⟩

theorem waiter_of_ix (h : t.ix = s.ix) (id : Nat) : t.waiter id = s.waiter id := by
  unfold State.waiter
  rw [h]

theorem ixAnswer_some (hw : s.waiter id = some (x, r)) (a : Answer) : s.ixAnswer id a = s.ixGoOn (x.req r) r.wait a := by
  unfold State.ixAnswer
  rw [hw]

theorem ixAnswer_none (hw : s.waiter id = none) (a : Answer) : s.ixAnswer id a = s := by
  unfold State.ixAnswer
  rw [hw]

/-- What the read returned, kept for its issuer. -/
def State.setRdata (s : State) (d : RegVal) : State := { s with rdata := d }

theorem exec_ixReply (hf : s.flight id = some f) (hpath : f.path = []) (hiss : f.iss = .ixz) (hans : f.ans = some a) (hkind : f.kind = .read) :
    exec (.accessReply id) s = .next ((if (s.waiter id).isSome then s.answerTaken id a else (s.answerTaken id a).setRdata (a.tok.d.setWidth 64)).ixAnswer id a).ixSettle := by
  change execAccessReply id s = _
  unfold execAccessReply
  rw [hf]
  dsimp only
  rw [hpath, hiss, hans, hkind]
  rfl

theorem exec_ixReport (hf : s.flight id = some f) (hpath : f.path = []) (hiss : f.iss = .ixz) (hans : f.ans = some a) (hkind : f.kind = .write) :
    exec (.accessCompletionReport id) s = .next (((s.dropFlight id).writeDone id (a == .quarantined)).ixAnswer id a).ixSettle := by
  change execAccessCompletionReport id s = _
  unfold execAccessCompletionReport
  rw [hf]
  dsimp only
  rw [hpath, hiss, hans, hkind]
  rfl

/-- A read that a request waits for: the request goes on. -/
theorem reply_goesOn (hf : s.flight id = some f) (hpath : f.path = []) (hiss : f.iss = .ixz) (hans : f.ans = some a) (hkind : f.kind = .read) (hw : s.waiter id = some (x, r)) :
    exec (.accessReply id) s = .next ((s.answerTaken id a).ixGoOn (x.req r) r.wait a).ixSettle := by
  have hix : (s.answerTaken id a).ix = s.ix := (answerTaken_leaves s id a).2.2.2 .ix (by decide)
  rw [exec_ixReply hf hpath hiss hans hkind, hw, if_pos (show (some (x, r)).isSome = true from rfl), ixAnswer_some ((waiter_of_ix hix id).trans hw)]

/-- No WRITE waits for the access. -/
theorem writeDone_other (s : State) {refused : Bool} (h : ∀ y ∈ s.ix.sessions, ∀ p ids n b, y.run = some p → p.wait = .write ids n b → id ∉ ids) : s.writeDone id refused = s := by
  have hone : ∀ y ∈ s.ix.sessions, ({ y with run := y.run.map (fun r => { r with wait := writeAnswer id refused r.wait }) } : Session) = y := by
    intro y hy
    cases hrun : y.run with
    | none =>
      rw [Option.map_none, ← hrun]
    | some p =>
      have hwait : writeAnswer id refused p.wait = p.wait := by
        unfold writeAnswer
        split
        · next ids n b hp =>
          rw [if_neg (by simpa using h y hy p ids n b hrun hp), hp]
        · rfl
      rw [Option.map_some, hwait, ← hrun]
  have hlist : s.ix.sessions.map (fun y => ({ y with run := y.run.map (fun r => { r with wait := writeAnswer id refused r.wait }) } : Session)) = s.ix.sessions :=
    (List.map_congr_left hone).trans (List.map_id _)
  unfold State.writeDone
  rw [hlist]

/-- A write that a request other than WRITE waits for: the request goes on. -/
theorem report_goesOn (hf : s.flight id = some f) (hpath : f.path = []) (hiss : f.iss = .ixz) (hans : f.ans = some a) (hkind : f.kind = .write) (hw : s.waiter id = some (x, r))
    (h : ∀ y ∈ s.ix.sessions, ∀ p ids n b, y.run = some p → p.wait = .write ids n b → id ∉ ids) :
    exec (.accessCompletionReport id) s = .next ((s.dropFlight id).ixGoOn (x.req r) r.wait a).ixSettle := by
  have hdone : (s.dropFlight id).writeDone id (a == .quarantined) = s.dropFlight id := writeDone_other (s.dropFlight id) h
  have hix : (s.dropFlight id).ix = s.ix := rfl
  rw [exec_ixReport hf hpath hiss hans hkind, hdone, ixAnswer_some ((waiter_of_ix hix id).trans hw)]

theorem hopReg_ne_fstat (h off : Nat) : (hopReg h off).addr ≠ (irqReg 0x34).addr := by
  simp only [hopReg, irqReg, Reg.addr, Blk.base, winBase]
  omega

theorem answerTaken_stream (s : State) (id : Nat) (a : Answer) (h : Nat) : (s.answerTaken id a).hopCStream h = s.hopCStream h := by
  obtain ⟨-, -, hkeep, -⟩ := answerTaken_leaves s id a
  refine State.rb_of_rget (hkeep _ fun g hg => ?_) 1
  cases hp : a.tok.p with
  | false =>
    rw [hp] at hg
    cases hg
  | true =>
    rw [hp] at hg
    rw [List.mem_singleton.mp hg]
    exact hopReg_ne_fstat h 0

end Machine
end Sys2Proof
end

section
/-! O58: the answers that requests of Ixzento wait for, wait by wait. -/

namespace Sys2Proof

open Machine

namespace Machine

variable {s t u v w : State} {q : Req} {id : Nat} {f : Flight} {a : Answer} {x : Session} {r : Running}

/-- A read that a request waits for: what the request does from then on. -/
theorem reads_of (hf : s.flight id = some f) (hpath : f.path = []) (hiss : f.iss = .ixz) (hans : f.ans = some a) (hw : s.waiter id = some (x, r)) (hkind : f.kind = .read)
    {P : State → State → Prop} (h : P (s.answerTaken id a) ((s.answerTaken id a).ixGoOn (x.req r) r.wait a)) :
    DoesThen (.accessReply id) s (fun u => ∃ v, v.flights = s.flights.filter (fun y => y.id != id) ∧ (a.tok.p = true → v.rb (irqReg 0x34) 30 = true) ∧
      KeepRegs (if a.tok.p then [irqReg 0x34] else []) s v ∧ Only [.flights, .regs] s v ∧ P v u) := by
  obtain ⟨hflights, hbit, hkeep, honly⟩ := answerTaken_leaves s id a
  exact .of_eq (u := (s.answerTaken id a).ixGoOn (x.req r) r.wait a) (reply_goesOn hf hpath hiss hans hkind hw) ⟨_, hflights, hbit, hkeep, honly, h⟩

/-- A write that a request other than WRITE waits for: what the request does from then on. -/
theorem written_of (hf : s.flight id = some f) (hpath : f.path = []) (hiss : f.iss = .ixz) (hans : f.ans = some a) (hw : s.waiter id = some (x, r)) (hkind : f.kind = .write)
    (hother : ∀ y ∈ s.ix.sessions, ∀ p ids n b, y.run = some p → p.wait = .write ids n b → id ∉ ids)
    {P : State → State → Prop} (h : P (s.dropFlight id) ((s.dropFlight id).ixGoOn (x.req r) r.wait a)) :
    DoesThen (.accessCompletionReport id) s (fun u => ∃ v, v.flights = s.flights.filter (fun y => y.id != id) ∧ Only [.flights] s v ∧ P v u) :=
  .of_eq (u := (s.dropFlight id).ixGoOn (x.req r) r.wait a) (report_goesOn hf hpath hiss hans hkind hw hother) ⟨_, rfl, only_dropFlight s id, h⟩

/-! What each wait does with an answer. -/

theorem quar_iff : (a == .quarantined) = true ↔ a = .quarantined := beq_iff_eq

theorem goOn_read (h : Runs v q) (id addr : Nat) (w64 : Bool) (n : Nat) (got : List (BitVec 64 × Bool)) (ref : Bool) (a : Answer) :
    let u := v.ixGoOn q (.read id addr w64 n got ref) a
    let w := if w64 then 8 else 4
    let all := got ++ [(a.tok.d.setWidth 64, a.tok.p)]
    (n = 0 → ∃ m : Nat, (∀ i, m.testBit i = (all[i]?.map (·.2)).getD false) ∧ Replied v q (quarStatus (ref || a == .quarantined)) 0 (all.flatMap (fun e => be w e.1.toNat) ++ be 32 m) u) ∧
    (1 ≤ n → ((placeOf addr).region).isSome = true → ∃ t, IxSends v addr (width64 w64) .read 0 t ∧ Waits t q (.read v.nextId (addr + w) w64 (n - 1) all (ref || a == .quarantined)) u) := by
  have hon : v.ixGoOn q (.read id addr w64 n got ref) a = v.ixReadOn q addr w64 n (got ++ [(a.tok.d.setWidth 64, a.tok.p)]) (ref || a == .quarantined) := rfl
  dsimp only
  rw [hon]
  refine ⟨fun hn => ?_, fun hn hin => ?_⟩
  · rw [hn, ixReadOn_ends]
    exact ⟨_, testBit_readMask _, h.replied _ _ _⟩
  · rw [ixReadOn_fabric v q w64 _ _ hin hn]
    exact h.sends _ _ _ _ _

theorem goOn_hopStat_pop (h : Runs v q) (id hop n : Nat) (a : Answer) :
    let u := v.ixGoOn q (.hopStat id hop (.pop n)) a
    let room := min n (a.tok.d.toNat % 128 - a.tok.d.toNat / 128 % 128)
    (a = .quarantined ∨ room = 0 → Popped v q (quarStatus (a == .quarantined)) [] u) ∧
    (a ≠ .quarantined → 1 ≤ room → ∃ t, IxSends v (hopAt hop 4) .b32 .read 0 t ∧ Waits t q (.hopPop v.nextId hop (room - 1) []) u) := by
  have hon : v.ixGoOn q (.hopStat id hop (.pop n)) a =
      if a == .quarantined then v.hopPopped q true [] else v.hopPopOn q hop (min n (a.tok.d.toNat % 128 - a.tok.d.toNat / 128 % 128)) [] := rfl
  dsimp only
  generalize min n (a.tok.d.toNat % 128 - a.tok.d.toNat / 128 % 128) = room at hon ⊢
  rw [hon]
  by_cases hq : a = .quarantined
  · rw [if_pos (quar_iff.mpr hq), quar_iff.mpr hq]
    exact ⟨fun _ => popped h true [], fun hno => absurd hq hno⟩
  · rw [if_neg (mt quar_iff.mp hq), beq_false_of_ne hq]
    refine ⟨fun hz => ?_, fun _ hroom => hopPopOn_goes h hop [] hroom⟩
    rw [hz.resolve_left hq]
    exact popped h false []

theorem goOn_hopStat_push (h : Runs v q) (id hop : Nat) (l : List Word) (a : Answer) :
    let u := v.ixGoOn q (.hopStat id hop (.push l)) a
    let put := l.take (64 - a.tok.d.toNat % 128)
    (a = .quarantined ∨ put = [] → Replied v q (quarStatus (a == .quarantined)) 0 (be 1 0 ++ be 3 0) u) ∧
    (a ≠ .quarantined → ∀ e rest, put = e :: rest → ∃ t, IxSends v (hopAt hop 0) .b32 .write e t ∧ Waits t q (.hopPush v.nextId hop rest 0) u) := by
  have hon : v.ixGoOn q (.hopStat id hop (.push l)) a = if a == .quarantined then v.hopPushed q true 0 else v.hopPushOn q hop (l.take (64 - a.tok.d.toNat % 128)) 0 := rfl
  dsimp only
  generalize l.take (64 - a.tok.d.toNat % 128) = put at hon ⊢
  rw [hon]
  by_cases hq : a = .quarantined
  · rw [if_pos (quar_iff.mpr hq), quar_iff.mpr hq]
    exact ⟨fun _ => h.replied _ _ _, fun hno => absurd hq hno⟩
  · rw [if_neg (mt quar_iff.mp hq), beq_false_of_ne hq]
    refine ⟨fun hz => ?_, fun _ e rest hcons => ?_⟩
    · rw [hz.resolve_left hq]
      exact hopPushOn_ends h hop 0
    · rw [hcons]
      exact hopPushOn_goes h hop e rest 0

theorem goOn_hopStat_show (h : Runs v q) (id hop : Nat) (b : Bool) (a : Answer) :
    Replied v q (quarStatus (b || a == .quarantined)) 0 (be 4 a.tok.d.toNat) (v.ixGoOn q (.hopStat id hop (.show b)) a) := by
  have hon : v.ixGoOn q (.hopStat id hop (.show b)) a = v.ixReply q (quarStatus (a == .quarantined || b)) 0 (be 4 a.tok.d.toNat) := rfl
  rw [hon, Bool.or_comm]
  exact h.replied _ _ _

theorem goOn_hopPop (h : Runs v q) (id hop n : Nat) (got : List Tok) (a : Answer) :
    let u := v.ixGoOn q (.hopPop id hop n got) a
    (a = .quarantined ∨ v.hopCStream hop = true → Popped v q (quarStatus (a == .quarantined)) got u) ∧
    (a ≠ .quarantined → v.hopCStream hop = false → n = 0 → Popped v q stOk (got ++ [a.tok]) u) ∧
    (a ≠ .quarantined → v.hopCStream hop = false → 1 ≤ n → ∃ t, IxSends v (hopAt hop 4) .b32 .read 0 t ∧ Waits t q (.hopPop v.nextId hop (n - 1) (got ++ [a.tok])) u) := by
  have hon : v.ixGoOn q (.hopPop id hop n got) a =
      if a == .quarantined || v.hopCStream hop then v.hopPopped q (a == .quarantined) got else v.hopPopOn q hop n (got ++ [a.tok]) := rfl
  have hend : (a == .quarantined || v.hopCStream hop) = true ↔ a = .quarantined ∨ v.hopCStream hop = true := by rw [Bool.or_eq_true, quar_iff]
  dsimp only
  rw [hon]
  by_cases he : a = .quarantined ∨ v.hopCStream hop = true
  · rw [if_pos (hend.mpr he)]
    have hno (hq : a ≠ .quarantined) (hs : v.hopCStream hop = false) : False := he.elim hq fun h1 => Bool.noConfusion (hs.symm.trans h1)
    exact ⟨fun _ => popped h _ got, fun hq hs => (hno hq hs).elim, fun hq hs => (hno hq hs).elim⟩
  · rw [if_neg (mt hend.mp he)]
    refine ⟨fun hyes => absurd hyes he, fun _ _ hn => ?_, fun _ _ hn => hopPopOn_goes h hop _ hn⟩
    rw [hn]
    exact hopPopOn_ends h hop _

theorem goOn_hopPush (h : Runs v q) (id hop : Nat) (l : List Word) (n : Nat) (a : Answer) :
    let u := v.ixGoOn q (.hopPush id hop l n) a
    (a = .quarantined ∨ v.hopPStream hop = true → Replied v q (quarStatus (a == .quarantined)) 0 (be 1 n ++ be 3 0) u) ∧
    (a ≠ .quarantined → v.hopPStream hop = false → l = [] → Replied v q stOk 0 (be 1 (n + 1) ++ be 3 0) u) ∧
    (a ≠ .quarantined → v.hopPStream hop = false → ∀ e rest, l = e :: rest → ∃ t, IxSends v (hopAt hop 0) .b32 .write e t ∧ Waits t q (.hopPush v.nextId hop rest (n + 1)) u) := by
  have hon : v.ixGoOn q (.hopPush id hop l n) a = if a == .quarantined || v.hopPStream hop then v.hopPushed q (a == .quarantined) n else v.hopPushOn q hop l (n + 1) := rfl
  have hend : (a == .quarantined || v.hopPStream hop) = true ↔ a = .quarantined ∨ v.hopPStream hop = true := by rw [Bool.or_eq_true, quar_iff]
  dsimp only
  rw [hon]
  by_cases he : a = .quarantined ∨ v.hopPStream hop = true
  · rw [if_pos (hend.mpr he)]
    have hno (hq : a ≠ .quarantined) (hs : v.hopPStream hop = false) : False := he.elim hq fun h1 => Bool.noConfusion (hs.symm.trans h1)
    exact ⟨fun _ => h.replied _ _ _, fun hq hs => (hno hq hs).elim, fun hq hs => (hno hq hs).elim⟩
  · rw [if_neg (mt hend.mp he)]
    refine ⟨fun hyes => absurd hyes he, fun _ _ hl => ?_, fun _ _ e rest hcons => ?_⟩
    · rw [hl]
      exact hopPushOn_ends h hop (n + 1)
    · rw [hcons]
      exact hopPushOn_goes h hop e rest (n + 1)

/-! A READ's access that has no answer in time. -/

theorem exec_ixTimeout (hx : s.ix.sessions = [x]) (hrun : x.run = some r) (hacc : r.wait.access = some (id, true)) (hload : (s.core 0).load = none) :
    exec (.ftmo 0) s = .next ((s.fstat 0 31).ixGoOn (x.req r) r.wait (.word {})).ixSettle := by
  have hix : (s.fstat 0 31).ix = s.ix := (State.fstat_ev 0 31 (Ev.refl (fieldMask [.regs]) s) (by rfl)).frame .ix rfl
  have hwaiter : s.waiter id = some (x, r) := by
    unfold State.waiter
    rw [hx, List.find?_cons_of_pos]
    · dsimp only
      rw [hrun]
      rfl
    · rw [hrun]
      dsimp only
      rw [hacc]
      simp
  change execFtmo 0 s = _
  unfold execFtmo
  rw [if_neg (by rw [show ((0 : Fin 4).val) = 0 from rfl, hload]; decide), if_neg (by decide), hx]
  simp only [List.findSome?_cons, hrun, Option.bind_some, hacc]
  rw [ixAnswer_some ((waiter_of_ix hix id).trans hwaiter)]

theorem nth_append_right {α : Type} (d : α) (l m : List α) (i : Nat) : nth d (l ++ m) (l.length + i) = nth d m i := by
  unfold nth
  rw [List.getElem?_append_right (by omega), Nat.add_sub_cancel_left]

theorem nth_append_left {α : Type} (d : α) {l : List α} (m : List α) {i : Nat} (h : i < l.length) : nth d (l ++ m) i = nth d l i := by
  unfold nth
  rw [List.getElem?_append_left h]

/-- The values of a READ whose last is 0. -/
theorem readZero_values (got : List (BitVec 64 × Bool)) (w64 : Bool) (m : List Byte) :
    let w := if w64 then 8 else 4
    let res := (got ++ [((({} : Tok).d.setWidth 64 : BitVec 64), false)]).flatMap (fun e => be w e.1.toNat) ++ m
    res.take (got.length * w) = got.flatMap (fun e => be w e.1.toNat) ∧ (∀ i < w, nth 1 res (got.length * w + i) = 0) := by
  dsimp only
  have hlen (k : Nat) : (got.flatMap (fun e => be k e.1.toNat)).length = got.length * k := by
    rw [List.length_flatMap]
    simp [be_length]
  have hzero : ∀ i < (if w64 then 8 else 4), nth (1 : Byte) (be (if w64 then 8 else 4) 0) i = 0 := by
    cases w64
    · decide
    · decide
  rw [List.flatMap_append, List.append_assoc, ← hlen]
  refine ⟨List.take_left, fun i hi => ?_⟩
  rw [nth_append_right, List.flatMap_cons, List.flatMap_nil, List.append_nil, nth_append_left _ _ (by rw [be_length]; exact hi)]
  exact hzero i hi

theorem ixAnswers (hf : s.flight id = some f) (hpath : f.path = []) (hiss : f.iss = .ixz) (hans : f.ans = some a) (hw : s.waiter id = some (x, r)) (hx : s.session x.id = some x)
    (hrun : x.run = some r) : IxAnswers id s f a x r := by
  have hread : Runs (s.answerTaken id a) (x.req r) := (runs_req hx r).of_ix ((answerTaken_leaves s id a).2.2.2 .ix (by decide))
  have hwrite : Runs (s.dropFlight id) (x.req r) := runs_req hx r
  have hreads {P : State → State → Prop} {wt : IxWait} (hwt : r.wait = wt) (h : P (s.answerTaken id a) ((s.answerTaken id a).ixGoOn (x.req r) wt a)) (hkind : f.kind = .read) :=
    reads_of (P := P) hf hpath hiss hans hw hkind (hwt ▸ h)
  have hwritten {P : State → State → Prop} {wt : IxWait} (hwt : r.wait = wt) (h : P (s.dropFlight id) ((s.dropFlight id).ixGoOn (x.req r) wt a)) (hkind : f.kind = .write)
      (hother : ∀ y ∈ s.ix.sessions, ∀ p ids n b, y.run = some p → p.wait = .write ids n b → id ∉ ids) :=
    written_of (P := P) hf hpath hiss hans hw hkind hother (hwt ▸ h)
  unfold IxAnswers
  refine ⟨fun addr w64 n got ref hwt => ?_, fun h d hwt => ⟨fun n hd => ?_, fun l hd => ?_, fun b hd => ?_⟩, fun h n got hwt => ?_, fun h l n hwt => ?_, fun h hwt => ?_, fun k hwt => ?_,
    fun addr w64 got ref hwt hone hload => ?_⟩
  · exact hreads hwt (goOn_read hread id addr w64 n got ref a)
  · exact hreads (hwt.trans (by rw [hd])) (goOn_hopStat_pop hread id h n a)
  · exact hreads (hwt.trans (by rw [hd])) (goOn_hopStat_push hread id h l a)
  · exact hreads (hwt.trans (by rw [hd])) (goOn_hopStat_show hread id h b a)
  · have hgo := goOn_hopPop hread id h n got a
    rw [answerTaken_stream] at hgo
    exact hreads hwt hgo
  · exact hwritten hwt (goOn_hopPush hwrite id h l n a)
  · exact hwritten hwt (hopFirst_goes hwrite h (.show (a == .quarantined)))
  · exact hwritten hwt (ashReplied hwrite (quarStatus (a == .quarantined)) (4 * k))
  · obtain ⟨hbit, -, hkeep⟩ := s.fstat_records (c := 0) (i := 31) (by decide) (by decide) (by decide)
    have honly : Only [.regs] s (s.fstat 0 31) := (State.fstat_ev 0 31 (Ev.refl (fieldMask [.regs]) s) (by rfl)).only_mask
    have hruns : Runs (s.fstat 0 31) (x.req r) := (runs_req hx r).of_ix (honly .ix (by decide))
    have hexec := exec_ixTimeout hone hrun (id := id) (by rw [hwt]; rfl) hload
    rw [hwt] at hexec
    obtain ⟨hends, -⟩ := goOn_read hruns id addr w64 0 got ref (.word {})
    obtain ⟨m, -, hreplied⟩ := hends rfl
    obtain ⟨htake, hzero⟩ := readZero_values got w64 (be 32 m)
    have hst : quarStatus (ref || (Answer.word {} == .quarantined)) = if ref then stQuarantined else stOk := by
      cases ref <;> rfl
    rw [hst] at hreplied
    exact .of_eq hexec ⟨_, _, _, hbit, hkeep, honly, rfl, htake, hzero, hreplied⟩

/-! Accesses that no request waits for, but a WRITE. -/

/-- A session whose WRITE hears of an access performed or refused. -/
def Session.told (x : Session) (id : Nat) (refused : Bool) : Session := { x with run := x.run.map (fun r => { r with wait := writeAnswer id refused r.wait }) }

theorem only_writeDone (s : State) (id : Nat) (refused : Bool) : Only [.ix] s (s.writeDone id refused) := (State.writeDone_ev id refused (Ev.refl (fieldMask [.ix]) s) (by rfl)).only_mask

theorem session_writeDone (s : State) (id : Nat) (refused : Bool) (j : Nat) : (s.writeDone id refused).session j = (s.session j).map (Session.told · id refused) := by
  show (s.ix.sessions.map (Session.told · id refused)).find? (fun x => x.id == j) = _
  rw [List.find?_map]
  rfl

theorem writeAnswer_access (id : Nat) (refused : Bool) (wt : IxWait) : (writeAnswer id refused wt).access = wt.access := by
  unfold writeAnswer
  split
  · split <;> rfl
  · rfl

theorem waiter_none_iff (s : State) (id : Nat) : s.waiter id = none ↔ ∀ x ∈ s.ix.sessions, ∀ r, x.run = some r → r.wait.access.map (·.1) ≠ some id := by
  unfold State.waiter
  split
  · next x hx =>
    have hyes := List.find?_some hx
    cases hrun : x.run with
    | none =>
      rw [hrun] at hyes
      cases hyes
    | some r =>
      rw [hrun] at hyes
      rw [Option.map_some]
      exact ⟨nofun, fun hno => absurd (beq_iff_eq.mp hyes) (hno x (List.mem_of_find?_eq_some hx) r hrun)⟩
  · next hnone =>
    refine ⟨fun _ x hx r hrun heq => ?_, fun _ => rfl⟩
    have hno := List.find?_eq_none.mp hnone x hx
    rw [hrun] at hno
    exact hno (beq_iff_eq.mpr heq)

theorem waiter_writeDone (s : State) (id : Nat) (refused : Bool) (h : s.waiter id = none) : (s.writeDone id refused).waiter id = none := by
  rw [waiter_none_iff] at h ⊢
  intro y hy r hr
  obtain ⟨x, hx, rfl⟩ := List.mem_map.mp hy
  obtain ⟨p, hp, rfl⟩ := Option.map_eq_some_iff.mp hr
  rw [writeAnswer_access]
  exact h x hx p hp

theorem told_write {ids : List Nat} {n : Nat} {b : Bool} (hrun : x.run = some r) (hwt : r.wait = .write ids n b) (hid : id ∈ ids) (a : Answer) :
    x.told id (a == .quarantined) =
      { x with run := some { r with wait := .write (ids.filter (· != id)) (if a = .quarantined then n else n + 1) (b || a == .quarantined) } } := by
  have hanswer : writeAnswer id (a == .quarantined) (.write ids n b) = .write (ids.filter (· != id)) (if a = .quarantined then n else n + 1) (b || a == .quarantined) := by
    have hin : ids.contains id = true := List.contains_iff_mem.mpr hid
    unfold writeAnswer
    dsimp only
    rw [if_pos hin]
    simp only [beq_iff_eq]
  unfold Session.told
  rw [hrun, Option.map_some, hwt, hanswer]

theorem report_unwaited (hf : s.flight id = some f) (hpath : f.path = []) (hiss : f.iss = .ixz) (hans : f.ans = some a) (hkind : f.kind = .write) (hw : s.waiter id = none) :
    DoesThen (.accessCompletionReport id) s (fun u => u.flights = s.flights.filter (fun y => y.id != id) ∧ u.ix = { s.ix with sessions := u.ix.sessions } ∧ Only [.flights, .ix] s u ∧
      ∀ j x r ids n b, s.session j = some x → x.run = some r → r.wait = .write ids n b → id ∈ ids →
        u.session j = some { x with run := some { r with wait := .write (ids.filter (· != id)) (if a = .quarantined then n else n + 1) (b || a == .quarantined) } }) := by
  have hdrop := only_dropFlight s id
  have hflights : (s.dropFlight id).flights = s.flights.filter (fun y => y.id != id) := rfl
  have hwaiter : (s.dropFlight id).waiter id = none := (waiter_of_ix (hdrop .ix (by decide)) id).trans hw
  have hsession (j : Nat) : (s.dropFlight id).session j = s.session j := rfl
  have hix : (s.dropFlight id).ix = s.ix := rfl
  have hexec := exec_ixReport hf hpath hiss hans hkind
  generalize s.dropFlight id = v at hdrop hflights hwaiter hsession hix hexec
  rw [ixAnswer_none (waiter_writeDone v id _ hwaiter)] at hexec
  have honly := only_writeDone v id (a == .quarantined)
  refine .of_eq (u := v.writeDone id (a == .quarantined)) hexec ⟨(honly .flights (by decide)).trans hflights, ?_, (hdrop.mono (by simp)).trans (honly.mono (by simp)), ?_⟩
  · rw [← hix]
    rfl
  · intro j x r ids n b hx hrun hwt hid
    rw [session_writeDone, hsession, hx, Option.map_some, told_write hrun hwt hid]

theorem reply_unwaited (hf : s.flight id = some f) (hpath : f.path = []) (hiss : f.iss = .ixz) (hans : f.ans = some a) (hkind : f.kind = .read) (hw : s.waiter id = none) :
    DoesThen (.accessReply id) s (fun u => u.flights = s.flights.filter (fun y => y.id != id) ∧ u.rdata = a.tok.d.setWidth 64 ∧
      KeepRegs (if a.tok.p then [irqReg 0x34] else []) s u ∧ Only [.flights, .regs, .rdata] s u) := by
  obtain ⟨hflights, -, hkeep, honly⟩ := answerTaken_leaves s id a
  have hexec := exec_ixReply hf hpath hiss hans hkind
  have hix := honly .ix (by decide)
  rw [hw, if_neg (by decide)] at hexec
  generalize s.answerTaken id a = v at hflights hkeep honly hexec hix
  have hset : Only [.rdata] v (v.setRdata (a.tok.d.setWidth 64)) := ((Ev.refl (fieldMask [.rdata]) v).set_rdata (by rfl)).only_mask
  rw [ixAnswer_none ((waiter_of_ix ((hset .ix (by decide)).trans hix) id).trans hw)] at hexec
  exact .of_eq hexec ⟨(hset .flights (by decide)).trans hflights, rfl, hkeep.then_regs (hset .regs (by decide)), (honly.mono (by simp)).trans (hset.mono (by simp))⟩

end Machine
end Sys2Proof
end

section
/-! O58: Ixzento's READ, WRITE and hopper opcodes. -/

namespace Sys2Proof

open Machine

namespace Machine

variable {s t u v w : State} {q : Req}

/-! READ. -/

/-- R435: where READ and WRITE reach. -/
def Reach (a n : Nat) : Prop := (0x20000000 ≤ a ∧ a + n ≤ 0x200E0000) ∨ (0x100000000 ≤ a ∧ a + n ≤ 0x140000000)

theorem ixReach_iff (a n : Nat) : ixReach a n = true ↔ Reach a n := by
  unfold ixReach Reach
  rw [Bool.or_eq_true, decide_eq_true_iff, decide_eq_true_iff]

/-- The bytes of a value of READ and WRITE. -/
theorem wide_width {n : Nat} (h : n = 4 ∨ n = 8) : width64 (n == 8) = (if n = 8 then Width.b64 else .b32) ∧ (if (n == 8) = true then 8 else 4) = n := by
  rcases h with rfl | rfl
  · exact ⟨rfl, rfl⟩
  · exact ⟨rfl, rfl⟩

theorem ixBusRead_sessions (s : State) (addr : Nat) (w64 : Bool) : (s.ixBusRead addr w64).1.ix.sessions = s.ix.sessions := by
  have hev : Ev 1821652870837334385360906 s (s.busRead .ixz addr (width64 w64) false).1 :=
    (State.busRead_ev .ixz addr (width64 w64) false (Ev.refl 1821652870837334385360906 s) (by rfl)).get
  have hread := hev.frame .ix rfl
  have hlost (u : State) (p : Nat) (d : RegVal) : (u.addLost p d).ix.sessions = u.ix.sessions := by
    rw [addLost_eq]
    exact (setLost_sets u p _).2.2
  unfold State.ixBusRead
  generalize s.busRead .ixz addr (width64 w64) false = o at hread ⊢
  obtain ⟨u, d⟩ := o
  dsimp only at hread ⊢
  split
  · split
    · exact (hlost u _ d).trans (congrArg Ix.sessions hread)
    · exact congrArg Ix.sessions hread
  · exact congrArg Ix.sessions hread

theorem readRun_sessions (s : State) (addr : Nat) (w64 : Bool) (n : Nat) (got : List (BitVec 64 × Bool)) : (s.readRun addr w64 n got).st.ix.sessions = s.ix.sessions := by
  induction n generalizing s addr got with
  | zero => rfl
  | succ n ih =>
    unfold State.readRun
    split
    · exact congrArg Ix.sessions ((ixSends s addr (width64 w64) .read 0).2 .ix (by decide))
    · exact (ih _ _ _).trans (ixBusRead_sessions s addr w64)

theorem noHeld_ixReadOn (h : NoHeld q.sid s) (addr : Nat) (w64 : Bool) (n : Nat) (got : List (BitVec 64 × Bool)) (ref : Bool) : NoHeld q.sid (s.ixReadOn q addr w64 n got ref) := by
  have hrun := h.of_sessions (readRun_sessions s addr w64 n got)
  unfold State.ixReadOn
  dsimp only
  split
  · exact noHeld_ixReply _ _ _ _ hrun
  · exact noHeld_ixWait _ _ hrun

/-- READ of a register of the base die: a read as any other, which consumes. -/
theorem ixBusRead_reg {g : Reg} {i : RegInfo} {a : Nat} {w64 : Bool} (hplace : placeOf a = .reg g) (hi : g.info = some i) (hregion : (placeOf a).region = none) (hw : i.width = width64 w64)
    (hkey : s.keyRead .ixz g = false) (hup : g.blk ≠ .fryUp) (hasy : g.blk ≠ .asy) (hcmp : g.blk ≠ .cmp) (hmac : g.blk ≠ .mac) (hlost : g.blk ≠ .tlyPi) :
    s.ixBusRead a w64 = (if i.rc = 0 then s else s.rput g (i.consumed (s.rget g)), s.shown g) := by
  have hne {b : Blk} {off : Nat} (hb : g.blk ≠ b) : (g.blk, g.off) ≠ (b, off) := fun heq => hb (congrArg Prod.fst heq)
  have htaken := regRead_taken (s := s) (iss := .ixz) (w := width64 w64) false hi hw.symm hkey
  rw [readDone_clears hi hup (hne hasy) (hne hcmp) (hne hmac), if_neg (by decide)] at htaken
  have hbus : s.busRead .ixz a (width64 w64) false = s.regRead .ixz g (width64 w64) false := by
    unfold State.busRead
    rw [hplace]
    exact if_neg (by rw [inFabric_of_none hregion]; decide)
  unfold State.ixBusRead
  rw [hbus, htaken, hplace]
  dsimp only
  rw [if_neg fun hl => hlost hl.1]

theorem ixReadOn_base {a : Nat} {w64 : Bool} {d : BitVec 64} (hregion : (placeOf a).region = none) (hread : s.ixBusRead a w64 = (t, d)) :
    s.ixReadOn q a w64 1 [] false = t.ixReply q stOk 0 (be (if w64 then 8 else 4) d.toNat ++ be 32 0) := by
  have hrun : s.readRun a w64 1 [] = ⟨t, [(d, false)], none⟩ := by
    unfold State.readRun
    rw [inFabric_of_none hregion, if_neg (by decide), hread]
    rfl
  unfold State.ixReadOn
  rw [hrun]
  dsimp only
  unfold readBytes
  rw [List.flatMap_cons, List.flatMap_nil, List.append_nil]
  rfl

theorem ixReadCmd_spec (h : Serves v q) :
    (let a := beAt q.p 0 8
    let w := beAt q.p 8 1
    let n := beAt q.p 10 2
    let u := v.ixReadCmd q
    let wide : Width := if w = 8 then .b64 else .b32
    (w ≠ 4 → w ≠ 8 → BadParam v q 8 u) ∧ (w = 4 ∨ w = 8 → 1024 < n * w → BadParam v q 10 u) ∧ (w = 4 ∨ w = 8 → n * w ≤ 1024 → ¬ Reach a (max 1 (n * w)) → BadParam v q 0 u) ∧
    (w = 4 ∨ w = 8 → Reach a 1 → n = 0 → Replied v q stOk 0 (be 32 0) u) ∧
    (w = 4 ∨ w = 8 → n * w ≤ 1024 → Reach a (n * w) → 1 ≤ n → ((placeOf a).region).isSome = true →
      ∃ t, IxSends v a wide .read 0 t ∧ Waits t q (.read v.nextId (a + w) (w == 8) (n - 1) [] false) u) ∧
    (w = 4 ∨ w = 8 → Reach a w → n = 1 →
      (∀ g i, placeOf a = .reg g → g.info = some i → (placeOf a).region = none → i.width = wide → v.keyRead .ixz g = false →
        g.blk ≠ .fryUp → g.blk ≠ .asy → g.blk ≠ .cmp → g.blk ≠ .mac → g.blk ≠ .tlyPi →
        ∃ t d, ReadBits i (v.live g) (v.rget g) d (t.rget g) ∧ KeepRegs [g] v t ∧ Only [.regs] v t ∧ Replied t q stOk 0 (be w d.toNat ++ be 32 0) u))) ∧
    NoHeld q.sid (v.ixReadCmd q) := by
  unfold State.ixReadCmd
  dsimp only
  generalize beAt q.p 0 8 = a
  generalize beAt q.p 8 1 = w
  generalize beAt q.p 10 2 = n
  by_cases hw : w = 4 ∨ w = 8
  swap
  · obtain ⟨h4, h8⟩ := not_or.mp hw
    rw [if_pos ⟨h4, h8⟩]
    obtain ⟨hbad, hheld⟩ := badParam_row h 8
    exact ⟨⟨fun _ _ => hbad, fun hyes => absurd hyes hw, fun hyes => absurd hyes hw, fun hyes => absurd hyes hw, fun hyes => absurd hyes hw, fun hyes => absurd hyes hw⟩, hheld⟩
  have hnot : ¬ (w ≠ 4 ∧ w ≠ 8) := fun hno => hw.elim hno.1 hno.2
  rw [if_neg hnot]
  by_cases hlen : 1024 < n * w
  · rw [if_pos hlen]
    obtain ⟨hbad, hheld⟩ := badParam_row h 10
    have hpos (hn : n ≤ 1) : False := by
      have hle : n * w ≤ 1 * 8 := Nat.mul_le_mul hn (by omega)
      omega
    exact ⟨⟨fun h4 h8 => absurd ⟨h4, h8⟩ hnot, fun _ _ => hbad, fun _ hle => absurd hlen (by omega), fun _ _ hn => (hpos (by omega)).elim, fun _ hle => absurd hlen (by omega),
      fun _ _ hn => (hpos (by omega)).elim⟩, hheld⟩
  rw [if_neg hlen]
  by_cases hreach : Reach a (max 1 (n * w))
  swap
  · rw [if_pos (by rw [Bool.not_eq_true', ← Bool.not_eq_true, ixReach_iff]; exact hreach)]
    obtain ⟨hbad, hheld⟩ := badParam_row h 0
    have hother (hn : 1 ≤ n) (hr : Reach a (n * w)) : False := by
      have hle : 1 * 1 ≤ n * w := Nat.mul_le_mul hn (by omega)
      exact hreach (by rwa [Nat.max_eq_right (by omega)])
    exact ⟨⟨fun h4 h8 => absurd ⟨h4, h8⟩ hnot, fun _ hgt => absurd hgt hlen, fun _ _ _ => hbad, fun _ hr hn => absurd (by rw [hn, Nat.zero_mul]; exact hr) hreach,
      fun _ _ hr hn => (hother hn hr).elim, fun _ hr hn => (hother (by omega) (by rw [hn, Nat.one_mul]; exact hr)).elim⟩, hheld⟩
  rw [if_neg (by rw [(ixReach_iff _ _).mpr hreach]; decide)]
  obtain ⟨hwide, hbytes⟩ := wide_width hw
  refine ⟨⟨fun h4 h8 => absurd ⟨h4, h8⟩ hnot, fun _ hgt => absurd hgt hlen, fun _ _ hno => absurd hreach hno, fun _ _ hn => ?_, fun _ _ _ hn hin => ?_, fun _ _ hn g i hplace hi hregion hwidth hkey hup hasy hcmp hmac hlost => ?_⟩,
    noHeld_ixReadOn h.noHeld _ _ _ _ _⟩
  · rw [hn, ixReadOn_ends]
    exact h.replied _ _ _
  · rw [ixReadOn_fabric v q _ _ _ hin hn, hwide, hbytes]
    exact h.runs.sends _ _ _ _ _
  · have hread := ixBusRead_reg (s := v) hplace hi hregion (hwidth.trans hwide.symm) hkey hup hasy hcmp hmac hlost
    obtain ⟨hbits, hkeep, honly⟩ := readDone_leaves (s := v) (g := g) i
    generalize (if i.rc = 0 then v else v.rput g (i.consumed (v.rget g))) = t at hread hbits hkeep honly
    have hserves : Serves t q := h.of_ix (honly .ix (by decide))
    rw [hn, ixReadOn_base hregion hread, hbytes]
    exact ⟨t, _, shown_readBits hi hbits, hkeep, honly, hserves.replied _ _ _⟩

/-! WRITE. -/

theorem writeRun_ix (s : State) (w64 : Bool) (n addr : Nat) (b : List Byte) (acc : List Nat × Nat) : (s.writeRun w64 n addr b acc).1.ix = s.ix := by
  induction n generalizing s addr b acc with
  | zero => rfl
  | succ n ih =>
    obtain ⟨ids, done⟩ := acc
    unfold State.writeRun
    dsimp only
    split
    · exact (ih _ _ _ _).trans ((ixSends s addr (width64 w64) .write _).2 .ix (by decide))
    · exact (ih _ _ _ _).trans ((State.busWrite_ev .ixz addr (width64 w64) _ (Ev.refl 21520049559633210016605922666 s) (by rfl)).frame .ix rfl)

theorem writeRun_fabric {addr : Nat} (w64 : Bool) (b : List Byte) (h : ((placeOf addr).region).isSome = true) :
    s.writeRun w64 1 addr b ([], 0) =
      (s.toFabric .ixz addr (width64 w64) .write ((BitVec.ofNat 64 (beAt b 0 (if w64 then 8 else 4))).setWidth 32) false, ([s.nextId], 0)) := if_pos h

theorem writeRun_base {addr : Nat} (w64 : Bool) (b : List Byte) (h : (placeOf addr).region = none) :
    s.writeRun w64 1 addr b ([], 0) = (s.busWrite .ixz addr (width64 w64) (BitVec.ofNat 64 (beAt b 0 (if w64 then 8 else 4))), ([], 1)) := if_neg (by rw [inFabric_of_none h]; decide)

/-- The write's values, performed or sent, and the wait for what was sent. -/
def State.ixWrites (s : State) (q : Req) (a : Nat) (w64 : Bool) (n : Nat) (b : List Byte) : State :=
  (s.writeRun w64 n a b ([], 0)).1.ixWait q (.write (s.writeRun w64 n a b ([], 0)).2.1 (s.writeRun w64 n a b ([], 0)).2.2 false)

theorem ixWriteCmd_spec (h : Serves v q) :
    (let a := beAt q.p 0 8
    let w := beAt q.p 8 1
    let b := q.p.drop 12
    let u := v.ixWriteCmd q
    let wide : Width := if w = 8 then .b64 else .b32
    (w ≠ 4 → w ≠ 8 → BadParam v q 8 u) ∧ (w = 4 ∨ w = 8 → b.length % w ≠ 0 → BadParam v q 12 u) ∧ (w = 4 ∨ w = 8 → b.length % w = 0 → ¬ Reach a (max 1 b.length) → BadParam v q 0 u) ∧
    (w = 4 ∨ w = 8 → b.length % w = 0 → Reach a (max 1 b.length) → a < 0x20050000 → 0x20040000 < a + b.length → Replied v q stDenied 0 [] u) ∧
    (w = 4 ∨ w = 8 → b.length = w → Reach a w → ¬ (a < 0x20050000 ∧ 0x20040000 < a + w) →
      (((placeOf a).region).isSome = true → ∃ t, IxSends v a wide .write (BitVec.ofNat 32 (beAt b 0 w)) t ∧ Waits t q (.write [v.nextId] 0 false) u) ∧
      (∀ g i, placeOf a = .reg g → g.info = some i → (placeOf a).region = none → i.width = wide → g.blk ∈ [Blk.tnkBase, .fry] →
        ∃ t, WrittenBits i (v.rget g) (BitVec.ofNat 64 (beAt b 0 w)) (t.rget g) ∧ KeepRegs [g] v t ∧ Only [.regs] v t ∧ Waits t q (.write [] 1 false) u))) ∧
    NoHeld q.sid (v.ixWriteCmd q) := by
  have hcmd : v.ixWriteCmd q = if beAt q.p 8 1 ≠ 4 ∧ beAt q.p 8 1 ≠ 8 then v.badParam q 8
      else if (q.p.drop 12).length % beAt q.p 8 1 ≠ 0 then v.badParam q 12
      else if !ixReach (beAt q.p 0 8) (max 1 (q.p.drop 12).length) then v.badParam q 0
      else if beAt q.p 0 8 < 0x20050000 ∧ 0x20040000 < beAt q.p 0 8 + (q.p.drop 12).length then v.ixReply q stDenied 0 []
      else v.ixWrites q (beAt q.p 0 8) (beAt q.p 8 1 == 8) ((q.p.drop 12).length / beAt q.p 8 1) (q.p.drop 12) := rfl
  rw [hcmd]
  dsimp only
  generalize beAt q.p 0 8 = a
  generalize beAt q.p 8 1 = w
  generalize q.p.drop 12 = b
  by_cases hw : w = 4 ∨ w = 8
  swap
  · obtain ⟨h4, h8⟩ := not_or.mp hw
    rw [if_pos ⟨h4, h8⟩]
    obtain ⟨hbad, hheld⟩ := badParam_row h 8
    exact ⟨⟨fun _ _ => hbad, fun hyes => absurd hyes hw, fun hyes => absurd hyes hw, fun hyes => absurd hyes hw, fun hyes => absurd hyes hw⟩, hheld⟩
  have hnot : ¬ (w ≠ 4 ∧ w ≠ 8) := fun hno => hw.elim hno.1 hno.2
  rw [if_neg hnot]
  by_cases hmod : b.length % w = 0
  swap
  · rw [if_pos hmod]
    obtain ⟨hbad, hheld⟩ := badParam_row h 12
    exact ⟨⟨fun h4 h8 => absurd ⟨h4, h8⟩ hnot, fun _ _ => hbad, fun _ hyes => absurd hyes hmod, fun _ hyes => absurd hyes hmod, fun _ hlen => absurd (by rw [hlen, Nat.mod_self]) hmod⟩, hheld⟩
  rw [if_neg (not_not.mpr hmod)]
  have hmax (hlen : b.length = w) : max 1 b.length = w := by omega
  by_cases hreach : Reach a (max 1 b.length)
  swap
  · rw [if_pos (by rw [Bool.not_eq_true', ← Bool.not_eq_true, ixReach_iff]; exact hreach)]
    obtain ⟨hbad, hheld⟩ := badParam_row h 0
    exact ⟨⟨fun h4 h8 => absurd ⟨h4, h8⟩ hnot, fun _ hne => absurd hmod hne, fun _ _ _ => hbad, fun _ _ hr => absurd hr hreach, fun _ hlen hr => absurd (by rw [hmax hlen]; exact hr) hreach⟩, hheld⟩
  rw [if_neg (by rw [(ixReach_iff _ _).mpr hreach]; decide)]
  by_cases hlsm : a < 0x20050000 ∧ 0x20040000 < a + b.length
  · rw [if_pos hlsm]
    exact ⟨⟨fun h4 h8 => absurd ⟨h4, h8⟩ hnot, fun _ hne => absurd hmod hne, fun _ _ hno => absurd hreach hno, fun _ _ _ _ _ => h.replied _ _ _, fun _ hlen _ hno => absurd (by rw [← hlen]; exact hlsm) hno⟩,
      noHeld_ixReply _ _ _ _ h.noHeld⟩
  rw [if_neg hlsm]
  obtain ⟨hwide, hbytes⟩ := wide_width hw
  refine ⟨⟨fun h4 h8 => absurd ⟨h4, h8⟩ hnot, fun _ hne => absurd hmod hne, fun _ _ hno => absurd hreach hno, fun _ _ _ hlow hhigh => absurd ⟨hlow, hhigh⟩ hlsm, fun _ hlen _ _ => ⟨fun hin => ?_, fun g i hplace hi hregion hwidth hblk => ?_⟩⟩,
    noHeld_ixWait q _ (h.noHeld.of_ix (writeRun_ix v _ _ _ _ _))⟩
  all_goals
    unfold State.ixWrites
    rw [hlen, Nat.div_self (by omega)]
  · rw [writeRun_fabric (w == 8) b hin, hwide, hbytes, BitVec.setWidth_ofNat_of_le (by decide)]
    exact h.runs.sends _ _ _ _ _
  · have hwrite : v.busWrite .ixz a (width64 (w == 8)) (BitVec.ofNat 64 (beAt b 0 w)) = v.writePlain g (BitVec.ofNat 64 (beAt b 0 w)) := by
      unfold State.busWrite
      rw [hplace]
      exact (if_neg (by rw [inFabric_of_none hregion]; decide)).trans (regWrite_plain rfl _ hi (hwide.trans hwidth.symm) hblk)
    obtain ⟨hbits, hkeep, honly⟩ := writePlain_writes (s := v) hi (BitVec.ofNat 64 (beAt b 0 w))
    rw [writeRun_base (w == 8) b hregion, hbytes, hwrite]
    have hserves : Serves (v.writePlain g (BitVec.ofNat 64 (beAt b 0 w))) q := h.of_ix (honly .ix (by decide))
    exact ⟨_, hbits, hkeep, honly, hserves.waits _⟩

/-! The hopper opcodes. -/

/-- R435: the offset of the first of DIE, REGION and HOP that is out of range. -/
def HopBad (q : Req) (o : Nat) : Prop :=
  (3 < beAt q.p 0 1 ∧ o = 0) ∨ (beAt q.p 0 1 ≤ 3 ∧ 7 < beAt q.p 1 1 ∧ o = 1) ∨ (beAt q.p 0 1 ≤ 3 ∧ beAt q.p 1 1 ≤ 7 ∧ 7 < beAt q.p 2 1 ∧ o = 2)

/-- R435: the hopper that DIE, REGION and HOP name. -/
def HopGood (q : Req) (h : Nat) : Prop :=
  beAt q.p 0 1 ≤ 3 ∧ beAt q.p 1 1 ≤ 7 ∧ beAt q.p 2 1 ≤ 7 ∧ h = (beAt q.p 0 1 * 8 + beAt q.p 1 1) * 8 + beAt q.p 2 1

/-- DIE, REGION and HOP, read. -/
theorem hop_cases (q : Req) : (∃ o, q.hop = .inl o ∧ (∀ o', HopBad q o' → o' = o) ∧ ∀ h, ¬ HopGood q h) ∨ (∃ h, q.hop = .inr h ∧ (∀ o, ¬ HopBad q o) ∧ ∀ h', HopGood q h' → h' = h) := by
  unfold Req.hop HopBad HopGood
  dsimp only
  generalize beAt q.p 0 1 = d
  generalize beAt q.p 1 1 = r
  generalize beAt q.p 2 1 = h
  by_cases hd : 3 < d
  · exact .inl ⟨0, if_pos hd, fun o ho => by omega, fun h ho => by omega⟩
  by_cases hr : 7 < r
  · exact .inl ⟨1, (if_neg hd).trans (if_pos hr), fun o ho => by omega, fun h ho => by omega⟩
  by_cases hh : 7 < h
  · exact .inl ⟨2, (if_neg hd).trans ((if_neg hr).trans (if_pos hh)), fun o ho => by omega, fun h ho => by omega⟩
  · exact .inr ⟨_, (if_neg hd).trans ((if_neg hr).trans (if_neg hh)), fun o ho => by omega, fun h' ho => ho.2.2.2⟩

/-- An opcode on a hopper: BAD_PARAM where none is named, and else what the opcode does with the one named. -/
theorem hop_row {u : State} {f : Nat → State} {P : Nat → State → Prop} (h : Serves v q) (hu : u = match q.hop with | .inl o => v.badParam q o | .inr n => f n)
    (hf : ∀ n, P n (f n) ∧ NoHeld q.sid (f n)) : (∀ o, HopBad q o → BadParam v q o u) ∧ (∀ n, HopGood q n → P n u) ∧ NoHeld q.sid u := by
  rcases hop_cases q with ⟨o, heq, hbad, hnone⟩ | ⟨n, heq, hbad, hgood⟩
  · rw [hu, heq]
    exact ⟨fun o' ho => hbad o' ho ▸ h.badParam o, fun n hn => absurd hn (hnone n), noHeld_badParam q o h.noHeld⟩
  · rw [hu, heq]
    exact ⟨fun o' ho => absurd ho (hbad o'), fun n' hn => hgood n' hn ▸ (hf n).1, (hf n).2⟩

theorem ixHopPop_spec (h : Serves v q) :
    (let n := beAt q.p 3 1
    (∀ o, HopBad q o → BadParam v q o (v.ixHopPop q)) ∧ (∀ h, HopGood q h → n = 0 ∨ 64 < n → BadParam v q 3 (v.ixHopPop q)) ∧
    (∀ h, HopGood q h → 1 ≤ n → n ≤ 64 → ∃ t, IxSends v (hopReg h 8).addr .b32 .read 0 t ∧ Waits t q (.hopStat v.nextId h (.pop n)) (v.ixHopPop q))) ∧ NoHeld q.sid (v.ixHopPop q) := by
  dsimp only
  let P (hop : Nat) (u : State) : Prop := (beAt q.p 3 1 = 0 ∨ 64 < beAt q.p 3 1 → BadParam v q 3 u) ∧
    (1 ≤ beAt q.p 3 1 → beAt q.p 3 1 ≤ 64 → ∃ t, IxSends v (hopReg hop 8).addr .b32 .read 0 t ∧ Waits t q (.hopStat v.nextId hop (.pop (beAt q.p 3 1))) u)
  obtain ⟨hbad, hgood, hheld⟩ := hop_row (u := v.ixHopPop q) (P := P) h rfl fun hop => by
    by_cases hn : beAt q.p 3 1 = 0 ∨ 64 < beAt q.p 3 1
    · rw [if_pos hn]
      exact ⟨⟨fun _ => h.badParam 3, fun hlow hhigh => absurd hn (by omega)⟩, noHeld_badParam q 3 h.noHeld⟩
    · rw [if_neg hn]
      exact ⟨⟨fun hyes => absurd hyes hn, fun _ _ => hopFirst_goes h.runs hop _⟩, noHeld_ixWait q _ (h.toFabric _ _ _ _).noHeld⟩
  exact ⟨⟨hbad, fun hop hn => (hgood hop hn).1, fun hop hn => (hgood hop hn).2⟩, hheld⟩

/-- The words that HOP_PUSH carries. -/
def pushWords (b : List Byte) : List Word := (List.range (b.length / 4)).map (fun i => BitVec.ofNat 32 (beAt b (4 * i) 4))

theorem pushWords_words (b : List Byte) : (pushWords b).length = b.length / 4 ∧ ∀ i < (pushWords b).length, nth 0 (pushWords b) i = BitVec.ofNat 32 (beAt b (4 * i) 4) := by
  have hlen : (pushWords b).length = b.length / 4 := by
    unfold pushWords
    rw [List.length_map, List.length_range]
  refine ⟨hlen, fun i hi => ?_⟩
  unfold nth pushWords
  rw [List.getElem?_map, List.getElem?_range (hlen ▸ hi)]
  rfl

theorem ixHopPush_spec (h : Serves v q) :
    (let b := q.p.drop 4
    (∀ o, HopBad q o → BadParam v q o (v.ixHopPush q)) ∧ (∀ h, HopGood q h → b.length % 4 ≠ 0 → BadParam v q 4 (v.ixHopPush q)) ∧
    (∀ h, HopGood q h → b.length % 4 = 0 → ∃ t l, IxSends v (hopReg h 8).addr .b32 .read 0 t ∧ Waits t q (.hopStat v.nextId h (.push l)) (v.ixHopPush q) ∧
      l.length = b.length / 4 ∧ ∀ i < l.length, nth 0 l i = BitVec.ofNat 32 (beAt b (4 * i) 4))) ∧ NoHeld q.sid (v.ixHopPush q) := by
  dsimp only
  let P (hop : Nat) (u : State) : Prop := ((q.p.drop 4).length % 4 ≠ 0 → BadParam v q 4 u) ∧
    ((q.p.drop 4).length % 4 = 0 → ∃ t l, IxSends v (hopReg hop 8).addr .b32 .read 0 t ∧ Waits t q (.hopStat v.nextId hop (.push l)) u ∧
      l.length = (q.p.drop 4).length / 4 ∧ ∀ i < l.length, nth 0 l i = BitVec.ofNat 32 (beAt (q.p.drop 4) (4 * i) 4))
  obtain ⟨hbad, hgood, hheld⟩ := hop_row (u := v.ixHopPush q) (P := P) h rfl fun hop => by
    by_cases hn : (q.p.drop 4).length % 4 = 0
    · obtain ⟨t, hsends, hwaits⟩ := hopFirst_goes h.runs hop (.push (pushWords (q.p.drop 4)))
      rw [if_neg (not_not.mpr hn)]
      exact ⟨⟨fun hne => absurd hn hne, fun _ => ⟨t, _, hsends, hwaits, pushWords_words _⟩⟩, noHeld_ixWait q _ (h.toFabric _ _ _ _).noHeld⟩
    · rw [if_pos hn]
      exact ⟨⟨fun _ => h.badParam 4, fun hyes => absurd hyes hn⟩, noHeld_badParam q 4 h.noHeld⟩
  exact ⟨⟨hbad, fun hop hn => (hgood hop hn).1, fun hop hn => (hgood hop hn).2⟩, hheld⟩

theorem ixHopCmd_spec (h : Serves v q) :
    (let c := beAt q.p 3 1
    (∀ o, HopBad q o → BadParam v q o (v.ixHopCmd q)) ∧ (∀ h, HopGood q h → 15 < c → BadParam v q 3 (v.ixHopCmd q)) ∧
    (∀ h, HopGood q h → c ≤ 15 → ∃ t, IxSends v (hopAt h 4) .b32 .write (BitVec.ofNat 32 (c * 2 ^ 28)) t ∧ Waits t q (.hopCmd v.nextId h) (v.ixHopCmd q))) ∧ NoHeld q.sid (v.ixHopCmd q) := by
  dsimp only
  let P (hop : Nat) (u : State) : Prop := (15 < beAt q.p 3 1 → BadParam v q 3 u) ∧
    (beAt q.p 3 1 ≤ 15 → ∃ t, IxSends v (hopAt hop 4) .b32 .write (BitVec.ofNat 32 (beAt q.p 3 1 * 2 ^ 28)) t ∧ Waits t q (.hopCmd v.nextId hop) u)
  obtain ⟨hbad, hgood, hheld⟩ := hop_row (u := v.ixHopCmd q) (P := P) h rfl fun hop => by
    by_cases hn : 15 < beAt q.p 3 1
    · rw [if_pos hn]
      exact ⟨⟨fun _ => h.badParam 3, fun hle => absurd hn (by omega)⟩, noHeld_badParam q 3 h.noHeld⟩
    · rw [if_neg hn, hopAddr_pop]
      exact ⟨⟨fun hgt => absurd hgt hn, fun _ => h.runs.sends _ _ _ _ _⟩, noHeld_ixWait q _ (h.toFabric _ _ _ _).noHeld⟩
  exact ⟨⟨hbad, fun hop hn => (hgood hop hn).1, fun hop hn => (hgood hop hn).2⟩, hheld⟩

end Machine
end Sys2Proof
end

section
/-! O58: Ixzento's security and attestation opcodes. -/

namespace Sys2Proof

open Machine

namespace Machine

variable {s t u v w : State} {q : Req}

/-! ATTEST, CERT, KEY_STATUS and SVN_RAISE. -/

/-- The request is noted for the signing engine. -/
def State.signQueued (s : State) (sid : Nat) : State := { s with ix := { s.ix with signQ := s.ix.signQ ++ [sid] } }

theorem only_signQueued (s : State) (sid : Nat) : Only [.ix] s (s.signQueued sid) := by
  intro f hf
  cases f
  case ix => exact absurd List.mem_cons_self hf
  all_goals rfl

theorem ntyReg_ne {a b : Nat} (h : a ≠ b) : (ntyReg a).addr ≠ (ntyReg b).addr := by
  rw [ntyReg_addr, ntyReg_addr]
  omega

/-- A report and its number added (R387). -/
def State.reportAdded (s : State) (b : List Byte) : State := { s with attests := s.attests + 1, reports := s.reports ++ [b] }

theorem attest_leaves (s : State) (nonce : List Byte) :
    let w := s.attest nonce
    w.attests = s.attests + 1 ∧ w.reports = s.reports ++ [s.report nonce (s.attests + 1)] ∧ w.rb (ntyReg 0) 30 = true ∧ w.rf (ntyReg 0xC) 0 32 = (s.attests + 1) % 2 ^ 32 ∧ w.ix = s.ix ∧
    KeepRegs [ntyReg 0, ntyReg 0xC] s w ∧ Only [.regs, .reports, .attests] s w := by
  have hattest : s.attest nonce = ((s.reportAdded (s.report nonce (s.attests + 1))).rsetb (ntyReg 0) 30 true).rput (ntyReg 0xC) (BitVec.ofNat 64 ((s.attests + 1) % 2 ^ 32)) := rfl
  have honly : Only [.regs, .reports, .attests] s (s.attest nonce) := (State.attest_ev nonce (Ev.refl (fieldMask [.regs, .reports, .attests]) s) (by rfl)).only_mask
  have hreported : (s.reportAdded (s.report nonce (s.attests + 1))).attests = s.attests + 1 ∧ (s.reportAdded (s.report nonce (s.attests + 1))).reports = s.reports ++ [s.report nonce (s.attests + 1)] ∧
    (s.reportAdded (s.report nonce (s.attests + 1))).regs = s.regs := ⟨rfl, rfl, rfl⟩
  rw [hattest] at honly
  dsimp only
  rw [hattest]
  generalize s.reportAdded (s.report nonce (s.attests + 1)) = x at honly hreported ⊢
  obtain ⟨hattests, hreports, hregs⟩ := hreported
  have hput : Only [.regs] x ((x.rsetb (ntyReg 0) 30 true).rput (ntyReg 0xC) (BitVec.ofNat 64 ((s.attests + 1) % 2 ^ 32))) :=
    (State.rsetb_ev _ _ _ (Ev.refl (fieldMask [.regs]) x) (by rfl)).only_mask.trans (rput_leaves _ _ _).2
  refine ⟨(hput .attests (by decide)).trans hattests, (hput .reports (by decide)).trans hreports, ?_, ?_, honly .ix (by decide), ?_, honly⟩
  · exact (State.rb_rput_ne (x.rsetb (ntyReg 0) 30 true) _ _ _ _ (ntyReg_ne (by decide))).trans (State.rb_rsetb_self x _ _ _ (by decide))
  · rw [State.rf_rput_same]
    unfold fld
    rw [BitVec.toNat_ofNat, Nat.shiftRight_eq_div_pow]
    omega
  · exact ((KeepRegs.of_regs hregs).rsetb _ _ List.mem_cons_self).rput _ (by simp)

theorem ixAttest_spec (h : Serves v q) :
    (∃ w, w.attests = v.attests + 1 ∧ w.reports = v.reports ++ [v.report q.p (v.attests + 1)] ∧ w.rb (ntyReg 0) 30 = true ∧ w.rf (ntyReg 0xC) 0 32 = (v.attests + 1) % 2 ^ 32 ∧
    w.ix = { v.ix with signQ := v.ix.signQ ++ [q.sid] } ∧ KeepRegs [ntyReg 0, ntyReg 0xC] v w ∧ Only [.regs, .reports, .attests, .ix] v w ∧ Waits w q .sign (v.ixAttest q)) ∧ NoHeld q.sid (v.ixAttest q) := by
  have hattest : v.ixAttest q = ((v.attest q.p).signQueued q.sid).ixWait q .sign := rfl
  rw [hattest]
  obtain ⟨hattests, hreports, hbusy, hcount, hix, hkeep, honly⟩ := attest_leaves v q.p
  generalize v.attest q.p = x at hattests hreports hbusy hcount hix hkeep honly ⊢
  have hset := only_signQueued x q.sid
  have hqueued : (x.signQueued q.sid).ix = { v.ix with signQ := v.ix.signQ ++ [q.sid] } := by
    rw [← hix]
    rfl
  have hregs : (x.signQueued q.sid).regs = x.regs := hset .regs (by decide)
  have hserves : Serves (x.signQueued q.sid) q := h.of_sessions (by rw [hqueued])
  exact ⟨⟨_, (hset .attests (by decide)).trans hattests, (hset .reports (by decide)).trans hreports, (State.rb_of_regs hregs _ _).trans hbusy, (State.rf_of_regs hregs _ _ _).trans hcount, hqueued,
    hkeep.then_regs hregs, (honly.mono (by simp)).trans (hset.mono (by simp)), hserves.waits _⟩, noHeld_ixWait q _ hserves.noHeld⟩

theorem ixCert_spec (h : Serves v q) :
    (let off := beAt q.p 0 4
    let n := beAt q.p 4 2
    (Config.certLen < off → BadParam v q 0 (v.ixCert q)) ∧ (off ≤ Config.certLen → 1024 < n → BadParam v q 4 (v.ixCert q)) ∧
    (off ≤ Config.certLen → n ≤ 1024 → ∃ w, FlashLit v w [] ∧
      Replied w q stOk 0 (be 4 Config.certLen ++ (List.range (min n (Config.certLen - off))).map (fun i => Config.certByte (off + i))) (v.ixCert q))) ∧ NoHeld q.sid (v.ixCert q) := by
  unfold State.ixCert
  dsimp only
  by_cases hoff : Config.certLen < beAt q.p 0 4
  · rw [if_pos hoff]
    exact ⟨⟨fun _ => h.badParam 0, fun hle => absurd hoff (Nat.not_lt.mpr hle), fun hle => absurd hoff (Nat.not_lt.mpr hle)⟩, noHeld_badParam q 0 h.noHeld⟩
  rw [if_neg hoff]
  by_cases hn : 1024 < beAt q.p 4 2
  · rw [if_pos hn]
    exact ⟨⟨fun hgt => absurd hgt hoff, fun _ _ => h.badParam 4, fun _ hle => absurd hn (Nat.not_lt.mpr hle)⟩, noHeld_badParam q 4 h.noHeld⟩
  · rw [if_neg hn]
    exact ⟨⟨fun hgt => absurd hgt hoff, fun _ hgt => absurd hgt hn, fun _ _ => ⟨_, v.flashOn_lit, h.flashOn.replied _ _ _⟩⟩, noHeld_ixReply _ _ _ _ h.flashOn.noHeld⟩

/-- The registers of KEY_STATUS's reply. -/
def keyRegs : List Reg := [lsmReg 0, lsmReg 0xC] ++ (List.range 8).map (fun i => lsmReg (0x40 + 4 * i))

theorem ixKeyStatus_spec (h : Serves v q) : RepliedRegs v q stOk 0 keyRegs [] (v.ixKeyStatus q) ∧ NoHeld q.sid (v.ixKeyStatus q) := by
  have hplain : keyRegs.all plainRead = true := by decide
  exact ⟨h.repliedRegs hplain stOk 0, noHeld_ixReplyRegs hplain q stOk 0 h.noHeld⟩

/-- FWSVN bits blown (R384). -/
def State.svnRaised (s : State) (t : Nat) : State := { s with fwsvn := max s.fwsvn t }

theorem ixSvnRaise_spec (h : Serves v q) :
    (let t := beAt q.p 0 1
    let out : Prop := t = 0 ∨ 63 < t ∨ (v.fw.getD {}).svn < t
    (out → BadParam v q 0 (v.ixSvnRaise q)) ∧ (¬ out → beAt q.p 1 1 ≠ 255 - t → BadParam v q 1 (v.ixSvnRaise q)) ∧
    (¬ out → beAt q.p 1 1 = 255 - t → ∃ w, w.fwsvn = max v.fwsvn t ∧ Only [.fwsvn] v w ∧ RepliedRegs w q stOk 0 [lsmReg 0xC] [] (v.ixSvnRaise q))) ∧ NoHeld q.sid (v.ixSvnRaise q) := by
  dsimp only
  by_cases hout : beAt q.p 0 1 = 0 ∨ 63 < beAt q.p 0 1 ∨ (v.fw.getD {}).svn < beAt q.p 0 1
  · have hbad : v.ixSvnRaise q = v.badParam q 0 := if_pos hout
    rw [hbad]
    exact ⟨⟨fun _ => h.badParam 0, fun hno => absurd hout hno, fun hno => absurd hout hno⟩, noHeld_badParam q 0 h.noHeld⟩
  by_cases hkey : beAt q.p 1 1 = 255 - beAt q.p 0 1
  · have hraise : v.ixSvnRaise q = (v.svnRaised (beAt q.p 0 1)).ixReplyRegs q stOk 0 [lsmReg 0xC] := (if_neg hout).trans (if_neg (not_not.mpr hkey))
    have honly : Only [.fwsvn] v (v.svnRaised (beAt q.p 0 1)) := ((Ev.refl (fieldMask [.fwsvn]) v).set_fwsvn (by rfl) (Nat.le_max_left _ _)).only_mask
    have hserves : Serves (v.svnRaised (beAt q.p 0 1)) q := h.of_ix rfl
    rw [hraise]
    exact ⟨⟨fun hyes => absurd hyes hout, fun _ hne => absurd hkey hne, fun _ _ => ⟨_, rfl, honly, hserves.repliedRegs rfl stOk 0⟩⟩, noHeld_ixReplyRegs rfl q stOk 0 hserves.noHeld⟩
  · have hbad : v.ixSvnRaise q = v.badParam q 1 := (if_neg hout).trans (if_pos hkey)
    rw [hbad]
    exact ⟨⟨fun hyes => absurd hyes hout, fun _ _ => h.badParam 1, fun _ hyes => absurd hyes hkey⟩, noHeld_badParam q 1 h.noHeld⟩

/-! The key registers (R377). -/

/-- The register LSM_KLOADn. -/
def kloadReg (n : Nat) : Reg := lsmReg (0x20 + 4 * n)

theorem kloadReg_addr (n : Nat) : (kloadReg n).addr = 0x20040020 + 4 * n := by
  show 0x20040000 + (0x20 + 4 * n) = _
  omega

theorem kloadReg_ne {m n : Nat} (h : m ≠ n) : (kloadReg m).addr ≠ (kloadReg n).addr := by
  rw [kloadReg_addr, kloadReg_addr]
  omega

theorem lsmViol_ne (n : Nat) : (lsmReg 0x10).addr ≠ (kloadReg n).addr := by
  rw [kloadReg_addr]
  exact fun h => absurd (show 0x20040010 = _ from h) (by omega)

theorem ixPut_lsm {off : Nat} {i : RegInfo} (hi : (lsmReg off).info = some i) (hw : i.w64 = false) (x : Nat) : s.ixPut (lsmReg off) x = s.lsmWrite off (ixWord x) :=
  (ixPut_eq x hi hw).trans (show (if complexIssuer .ixz then s.lsmWrite off (ixWord x) else s.viol .lsm 0) = s.lsmWrite off (ixWord x) from if_pos rfl)

theorem ixPut_kload {n : Nat} (h : n < 8) (x : Nat) : s.ixPut (kloadReg n) x = s.rput (kloadReg n) ((ixWord x).setWidth 64) := by
  have hinfo : (lsmReg (0x20 + 4 * n)).info = some { wo := 0xFFFFFFFF } := by
    change infoLsm (0x20 + 4 * n) = _
    unfold infoLsm
    rw [if_neg (by omega), if_neg (by omega), if_neg (by omega), if_neg (by omega), if_neg (by omega), if_pos (by simp; omega)]
  refine (ixPut_lsm hinfo rfl x).trans ?_
  exact (if_neg (by omega)).trans (if_pos ⟨by omega, by omega⟩)

theorem kloadPut_eq (s : State) (x : Nat) : s.kloadPut x = s.each (List.range 8) (fun s n => s.rput (kloadReg n) ((ixWord (x / 2 ^ (32 * n))).setWidth 64)) := by
  unfold State.kloadPut
  exact List.foldl_ext _ _ s fun u n hn => ixPut_kload (List.mem_range.mp hn) _

theorem only_each {α : Type} {l : List Field} {f : State → α → State} (h : ∀ u a, Only l u (f u a)) (s : State) (as : List α) : Only l s (s.each as f) := by
  induction as generalizing s with
  | nil => exact .refl _ s
  | cons a as ih => exact (h s a).trans (ih (f s a))

/-- Registers LSM_KLOAD0..7 put, each its value. -/
theorem kloads_put (s : State) (val : Nat → RegVal) :
    let u := s.each (List.range 8) (fun s n => s.rput (kloadReg n) (val n))
    (∀ n < 8, u.rget (kloadReg n) = val n) ∧ u.rget (lsmReg 0x10) = s.rget (lsmReg 0x10) ∧ Only [.regs] s u := by
  refine ⟨fun n hn => ?_, ?_, ?_⟩
  · exact (State.each_sets (fun n u => u.rget (kloadReg n) = val n) (fun u m => State.rget_rput_same _ _ _) (fun u m k hk => by
      by_cases heq : k = m
      · rw [heq]
        exact State.rget_rput_same _ _ _
      · exact (State.rget_rput_ne _ _ _ _ (kloadReg_ne heq)).trans hk) s (List.range 8)) n (List.mem_range.mpr hn)
  · exact State.each_inv (fun u => u.rget (lsmReg 0x10)) (fun u n => State.rget_rput_ne _ _ _ _ (lsmViol_ne n)) s _
  · exact only_each (fun u n => (rput_leaves u _ _).2) s (List.range 8)

theorem sum_digits (x b k : Nat) : (List.range k).foldl (fun a n => a + x / b ^ n % b * b ^ n) 0 = x % b ^ k := by
  induction k with
  | zero => simp [Nat.mod_one]
  | succ k ih => rw [List.range_succ, List.foldl_append, ih, List.foldl_cons, List.foldl_nil, Nat.mod_pow_succ, Nat.mul_comm]

/-- What KLOAD holds after a value was written to it. -/
theorem kload_kloadPut (s : State) (x : Nat) : (s.kloadPut x).kload = BitVec.ofNat 256 x := by
  obtain ⟨hregs, -, -⟩ := kloads_put s (fun n => (ixWord (x / 2 ^ (32 * n))).setWidth 64)
  rw [← kloadPut_eq] at hregs
  have hfield (n : Nat) (hn : n < 8) : (s.kloadPut x).rf (kloadReg n) 0 32 = x / (2 ^ 32) ^ n % 2 ^ 32 := by
    unfold State.rf fld
    rw [hregs n hn, BitVec.toNat_setWidth, ← Nat.pow_mul]
    unfold ixWord
    rw [BitVec.toNat_setWidth, BitVec.toNat_ofNat, Nat.shiftRight_zero]
    generalize x / 2 ^ (32 * n) = y
    omega
  have hsum : (List.range 8).foldl (fun a n => a + (s.kloadPut x).rf (lsmReg (0x20 + 4 * n)) 0 32 * 2 ^ (32 * n)) 0 = x % (2 ^ 32) ^ 8 := by
    rw [← sum_digits x (2 ^ 32) 8]
    refine List.foldl_ext _ _ _ fun a n hn => ?_
    rw [← hfield n (List.mem_range.mp hn), ← Nat.pow_mul]
    rfl
  unfold State.kload
  rw [hsum]
  refine BitVec.eq_of_toNat_eq ?_
  rw [BitVec.toNat_ofNat, BitVec.toNat_ofNat, ← Nat.pow_mul, Nat.mod_mod]

/-- KLOAD written: nothing else changes. -/
theorem kloadPut_leaves (s : State) (x : Nat) : (s.kloadPut x).rget (lsmReg 0x10) = s.rget (lsmReg 0x10) ∧ Only [.regs] s (s.kloadPut x) := by
  rw [kloadPut_eq]
  exact (kloads_put s _).2

theorem clearKload_leaves (s : State) : (∀ n < 8, s.clearKload.rget (kloadReg n) = 0) ∧ s.clearKload.rget (lsmReg 0x10) = s.rget (lsmReg 0x10) ∧ Only [.regs] s s.clearKload :=
  kloads_put s (fun _ => 0)

/-! A key command (R377). -/

theorem State.kslot_of_kslots (h : t.kslots = s.kslots) (i : Nat) : t.kslot i = s.kslot i := by
  unfold State.kslot
  rw [h]

theorem State.oslot_of_oslots (h : t.oslots = s.oslots) (i : Nat) : t.oslot i = s.oslot i := by
  unfold State.oslot
  rw [h]

theorem kcmdOk_congr (h : Only [.regs] s t) (cmd slot : Nat) : t.kcmdOk cmd slot = s.kcmdOk cmd slot := by
  have hload (i : Nat) : t.loadSlot i = s.loadSlot i := by
    unfold State.loadSlot
    rw [(h .load (by decide) : t.load = s.load)]
  have hkcmd : t.kcmd = s.kcmd := h .kcmd (by decide)
  unfold State.kcmdOk
  simp only [hload, hkcmd, State.kslot_of_kslots (h .kslots (by decide)), State.oslot_of_oslots (h .oslots (by decide))]

/-- An eFuse programme set going. -/
def State.setKcmd (s : State) (k : KCmd) : State := { s with kcmd := some k }

theorem only_setKcmd (s : State) (k : KCmd) : Only [.kcmd] s (s.setKcmd k) := ((Ev.refl (fieldMask [.kcmd]) s).set_kcmd (by rfl)).only_mask

theorem only_setKslot (s : State) (i : Nat) (k : KSlot) : Only [.kslots] s (s.setKslot i k) := by
  intro f hf
  cases f
  case kslots => exact absurd List.mem_cons_self hf
  all_goals rfl

theorem only_setOslot (s : State) (i : Nat) (o : OSlot) : Only [.oslots] s (s.setOslot i o) := by
  intro f hf
  cases f
  case oslots => exact absurd List.mem_cons_self hf
  all_goals rfl

/-- A command that the Locksmith ignores: KLOAD is cleared, and it is counted. -/
theorem kcmdDo_refused {cmd slot : Nat} (h : s.kcmdOk cmd slot = false) :
    (s.kcmdDo cmd slot).rf (lsmReg 0x10) 0 16 = min 0xFFFF (s.rf (lsmReg 0x10) 0 16 + 1) ∧ Only [.regs] s (s.kcmdDo cmd slot) := by
  obtain ⟨-, hviol, honly⟩ := clearKload_leaves s
  have hdo : s.kcmdDo cmd slot = s.clearKload.violAt (lsmReg 0x10) := if_pos (by rw [h]; rfl)
  obtain ⟨hcount, -, -, hframe⟩ := s.clearKload.violAt_countsAt (lsmReg 0x10)
  rw [hdo]
  exact ⟨hcount.trans (by rw [State.rf_of_rget hviol]), honly.trans hframe⟩

/-- What a command that is performed does, by its CMD. -/
def State.keyDone (s : State) (cmd slot : Nat) (key : BitVec 256) : State :=
  match cmd with
  | 1 => if slot < 4 then s.setKcmd ⟨1, slot, key⟩ else s.setKslot slot { st := 1, key := key }
  | 2 => s.setKslot slot {}
  | 3 => s.setKslot slot { st := 2 }
  | 4 => s.setKcmd ⟨4, slot % 4, key⟩
  | _ => s.setOslot (slot % 4) { s.oslot (slot % 4) with rev := true }

theorem kcmdDo_taken {cmd slot : Nat} (h : s.kcmdOk cmd slot = true) : s.kcmdDo cmd slot = s.clearKload.keyDone cmd slot s.kload := by
  unfold State.kcmdDo
  dsimp only
  rw [if_neg (by rw [h]; decide)]
  rfl

theorem keyDone_does (s : State) (cmd slot : Nat) (key : BitVec 256) :
    let w := s.keyDone cmd slot key
    (cmd = 1 → 4 ≤ slot → w.kslot slot = { st := 1, key := key }) ∧ (cmd = 1 → slot < 4 → w.kcmd = some ⟨1, slot, key⟩) ∧ (cmd = 2 → w.kslot slot = {}) ∧ (cmd = 3 → w.kslot slot = { st := 2 }) ∧
    (cmd = 4 → w.kcmd = some ⟨4, slot % 4, key⟩) ∧ (cmd = 5 → w.oslot (slot % 4) = { s.oslot (slot % 4) with rev := true }) ∧ Only [.kslots, .kcmd, .oslots] s w ∧ (cmd = 1 → Only [.kslots, .kcmd] s w) := by
  unfold State.keyDone
  split
  · by_cases hslot : slot < 4
    · rw [if_pos hslot]
      exact ⟨fun _ hge => absurd hslot (by omega), fun _ _ => rfl, nofun, nofun, nofun, nofun, (only_setKcmd s _).mono (by simp), fun _ => (only_setKcmd s _).mono (by simp)⟩
    · rw [if_neg hslot]
      exact ⟨fun _ _ => s.kslot_setKslot_same slot _, fun _ hlt => absurd hlt hslot, nofun, nofun, nofun, nofun, (only_setKslot s _ _).mono (by simp), fun _ => (only_setKslot s _ _).mono (by simp)⟩
  · exact ⟨nofun, nofun, fun _ => s.kslot_setKslot_same slot _, nofun, nofun, nofun, (only_setKslot s _ _).mono (by simp), nofun⟩
  · exact ⟨nofun, nofun, nofun, fun _ => s.kslot_setKslot_same slot _, nofun, nofun, (only_setKslot s _ _).mono (by simp), nofun⟩
  · exact ⟨nofun, nofun, nofun, nofun, fun _ => rfl, nofun, (only_setKcmd s _).mono (by simp), nofun⟩
  · next h1 h2 h3 h4 =>
    exact ⟨fun h => absurd h h1, fun h => absurd h h1, fun h => absurd h h2, fun h => absurd h h3, fun h => absurd h h4, fun _ => s.oslot_setOslot_same _ _, (only_setOslot s _ _).mono (by simp),
      fun h => absurd h h1⟩

/-- Ixzento's write of LSM_KCMD. -/
theorem ixPut_kcmd {cmd slot : Nat} (hc : cmd < 16) (hs : slot < 8) : s.ixPut (lsmReg 8) (cmd * 2 ^ 28 + slot) = s.kcmdDo cmd slot := by
  have hword : fld (ixWord (cmd * 2 ^ 28 + slot)) 28 4 = cmd ∧ fld (ixWord (cmd * 2 ^ 28 + slot)) 0 3 = slot := by
    rw [fld_ixWord (by omega), fld_ixWord (by omega)]
    omega
  rw [ixPut_lsm (off := 8) (i := { wo := 0xFFFFFFFF }) rfl rfl]
  have hwrite : s.lsmWrite 8 (ixWord (cmd * 2 ^ 28 + slot)) = s.kcmdDo (fld (ixWord (cmd * 2 ^ 28 + slot)) 28 4) (fld (ixWord (cmd * 2 ^ 28 + slot)) 0 3) := if_pos rfl
  rw [hwrite, hword.1, hword.2]

theorem kcmdDo_ix (s : State) (cmd slot : Nat) : (s.kcmdDo cmd slot).ix = s.ix := (State.kcmdDo_ev cmd slot (Ev.refl 4035225266123964424 s) (by rfl)).frame .ix rfl

/-- A key command of Ixzento: KEY_FAIL where it is ignored, and else the wait for its programme. -/
theorem ixKcmd_spec (h : Serves s q) {cmd slot : Nat} (hc : cmd < 16) (hs : slot < 8) :
    (s.kcmdOk cmd slot = false → Replied (s.kcmdDo cmd slot) q stKeyFail (s.kslot slot).st [] (s.ixKcmd q cmd slot)) ∧
    (s.kcmdOk cmd slot = true → Waits (s.kcmdDo cmd slot) q (.fuse slot (decide (cmd = 4 ∨ cmd = 5))) (s.ixKcmd q cmd slot)) ∧ NoHeld q.sid (s.ixKcmd q cmd slot) := by
  have hserves : Serves (s.kcmdDo cmd slot) q := h.of_ix (kcmdDo_ix s cmd slot)
  have hcmd : s.ixKcmd q cmd slot =
      if s.kcmdOk cmd slot then (s.kcmdDo cmd slot).ixWait q (.fuse slot (decide (cmd = 4 ∨ cmd = 5))) else (s.kcmdDo cmd slot).ixReply q stKeyFail (s.kslot slot).st [] := by
    rw [← ixPut_kcmd hc hs]
    rfl
  rw [hcmd]
  cases s.kcmdOk cmd slot with
  | false => exact ⟨fun _ => hserves.replied _ _ _, nofun, noHeld_ixReply _ _ _ _ hserves.noHeld⟩
  | true => exact ⟨nofun, fun _ => hserves.waits _, noHeld_ixWait q _ hserves.noHeld⟩

/-- What a key command leaves of a state in which only KLOAD has been written. -/
theorem keyCommand (h : Only [.regs] v s) (hviol : s.rget (lsmReg 0x10) = v.rget (lsmReg 0x10)) (cmd slot : Nat) :
    let w := s.kcmdDo cmd slot
    (v.kcmdOk cmd slot = false → w.rf (lsmReg 0x10) 0 16 = min 0xFFFF (v.rf (lsmReg 0x10) 0 16 + 1) ∧ Only [.regs] v w) ∧
    (v.kcmdOk cmd slot = true → w = s.clearKload.keyDone cmd slot s.kload ∧ Only [.regs] v s.clearKload ∧ ∀ n < 8, s.clearKload.rget (kloadReg n) = 0) := by
  have hok := kcmdOk_congr h cmd slot
  obtain ⟨hzero, -, honly⟩ := clearKload_leaves s
  refine ⟨fun hno => ?_, fun hyes => ⟨kcmdDo_taken (hok.trans hyes), h.trans honly, hzero⟩⟩
  obtain ⟨hcount, hframe⟩ := kcmdDo_refused (hok.trans hno)
  exact ⟨hcount.trans (by rw [State.rf_of_rget hviol]), h.trans hframe⟩

theorem isMailbox_iff (ep : Endpoint) : isMailbox ep = true ↔ ∃ h, ep = .mailbox h := by
  cases ep with
  | mailbox h => exact ⟨fun _ => ⟨h, rfl⟩, fun _ => rfl⟩
  | udp a p => exact ⟨nofun, fun ⟨_, h⟩ => nomatch h⟩
  | choval p => exact ⟨nofun, fun ⟨_, h⟩ => nomatch h⟩
  | uart => exact ⟨nofun, fun ⟨_, h⟩ => nomatch h⟩

theorem ixKeyWrite_spec (h : Serves v q) :
    (let slot := beAt q.p 0 1
    let key : BitVec 256 := BitVec.ofNat 256 (beAt q.p 4 32)
    let box : Prop := ∃ h, q.ep = .mailbox h
    let u := v.ixKeyWrite q
    (¬ box → Replied v q stDenied 0 [] u) ∧ (box → 7 < slot → BadParam v q 0 u) ∧
    (box → slot ≤ 7 → v.kcmdOk 1 slot = false → ∃ w, w.rf (lsmReg 0x10) 0 16 = min 0xFFFF (v.rf (lsmReg 0x10) 0 16 + 1) ∧ Only [.regs] v w ∧ Replied w q stKeyFail (v.kslot slot).st [] u) ∧
    (box → slot ≤ 7 → v.kcmdOk 1 slot = true → ∃ w, (4 ≤ slot → w.kslot slot = { st := 1, key := key }) ∧ (slot < 4 → w.kcmd = some ⟨1, slot, key⟩) ∧ (∀ j < 8, w.rget (lsmReg (0x20 + 4 * j)) = 0) ∧
      Only [.regs, .kslots, .kcmd] v w ∧ Waits w q (.fuse slot false) u)) ∧ NoHeld q.sid (v.ixKeyWrite q) := by
  dsimp only
  by_cases hbox : ∃ h, q.ep = .mailbox h
  swap
  · have hdenied : v.ixKeyWrite q = v.ixReply q stDenied 0 [] := if_pos (by rw [Bool.not_eq_true', ← Bool.not_eq_true, isMailbox_iff]; exact hbox)
    rw [hdenied]
    exact ⟨⟨fun _ => h.replied _ _ _, fun hyes => absurd hyes hbox, fun hyes => absurd hyes hbox, fun hyes => absurd hyes hbox⟩, noHeld_ixReply _ _ _ _ h.noHeld⟩
  have hyes : ¬ (!isMailbox q.ep) = true := by
    rw [(isMailbox_iff q.ep).mpr hbox]
    decide
  by_cases hslot : 7 < beAt q.p 0 1
  · have hbad : v.ixKeyWrite q = v.badParam q 0 := (if_neg hyes).trans (if_pos hslot)
    rw [hbad]
    exact ⟨⟨fun hno => absurd hbox hno, fun _ _ => h.badParam 0, fun _ hle => absurd hslot (by omega), fun _ hle => absurd hslot (by omega)⟩, noHeld_badParam q 0 h.noHeld⟩
  have hcmd : v.ixKeyWrite q = (v.kloadPut (beAt q.p 4 32)).ixKcmd q 1 (beAt q.p 0 1) := (if_neg hyes).trans (if_neg hslot)
  rw [hcmd]
  obtain ⟨hviol, honly⟩ := kloadPut_leaves v (beAt q.p 4 32)
  have hkey := kload_kloadPut v (beAt q.p 4 32)
  generalize v.kloadPut (beAt q.p 4 32) = s at hviol honly hkey ⊢
  have hok := kcmdOk_congr honly 1 (beAt q.p 0 1)
  have hst : s.kslot (beAt q.p 0 1) = v.kslot (beAt q.p 0 1) := State.kslot_of_kslots (honly .kslots (by decide)) _
  have hserves : Serves s q := h.of_ix (honly .ix (by decide))
  obtain ⟨hfail, hwait, hheld⟩ := ixKcmd_spec hserves (cmd := 1) (slot := beAt q.p 0 1) (by decide) (by omega)
  obtain ⟨hrefused, htaken⟩ := keyCommand honly hviol 1 (beAt q.p 0 1)
  rw [hok, hst] at hfail
  rw [hok] at hwait
  refine ⟨⟨fun hno => absurd hbox hno, fun _ hgt => absurd hgt hslot, fun _ _ hno => ?_, fun _ _ hdone => ?_⟩, hheld⟩
  · exact ⟨_, (hrefused hno).1, (hrefused hno).2, hfail hno⟩
  · obtain ⟨hw, hcleared, hzero⟩ := htaken hdone
    obtain ⟨hset, hprogram, -, -, -, -, -, hframe⟩ := keyDone_does s.clearKload 1 (beAt q.p 0 1) s.kload
    rw [hkey] at hw hset hprogram hframe
    have hregs := hframe rfl .regs (by decide)
    have hwaits := hwait hdone
    rw [hw] at hwaits
    exact ⟨_, hset rfl, hprogram rfl, fun j hj => (State.rget_of_regs hregs _).trans (hzero j hj), (hcleared.mono (by simp)).trans ((hframe rfl).mono (by simp)), hwaits⟩

theorem ixKeyCmd_spec (h : Serves v q) :
    (let cmd := beAt q.p 0 1
    let slot := beAt q.p 1 1
    let fits : Prop := 2 ≤ cmd ∧ cmd ≤ 5 ∧ slot ≤ 7
    let u := v.ixKeyCmd q
    (cmd < 2 ∨ 5 < cmd → BadParam v q 0 u) ∧ (2 ≤ cmd → cmd ≤ 5 → 7 < slot → BadParam v q 1 u) ∧
    (fits → v.kcmdOk cmd slot = false → ∃ w, w.rf (lsmReg 0x10) 0 16 = min 0xFFFF (v.rf (lsmReg 0x10) 0 16 + 1) ∧ Only [.regs] v w ∧ Replied w q stKeyFail (v.kslot slot).st [] u) ∧
    (fits → v.kcmdOk cmd slot = true → ∃ w, (cmd = 2 → w.kslot slot = {}) ∧ (cmd = 3 → w.kslot slot = { st := 2 }) ∧ (cmd = 4 → w.kcmd = some ⟨4, slot % 4, BitVec.ofNat 256 (beAt q.p 4 32)⟩) ∧
      (cmd = 5 → w.oslot (slot % 4) = { v.oslot (slot % 4) with rev := true }) ∧ Only [.regs, .kslots, .kcmd, .oslots] v w ∧ Waits w q (.fuse slot (decide (cmd = 4 ∨ cmd = 5))) u)) ∧ NoHeld q.sid (v.ixKeyCmd q) := by
  dsimp only
  by_cases hcmd : beAt q.p 0 1 < 2 ∨ 5 < beAt q.p 0 1
  · have hbad : v.ixKeyCmd q = v.badParam q 0 := if_pos hcmd
    rw [hbad]
    exact ⟨⟨fun _ => h.badParam 0, fun _ _ => absurd hcmd (by omega), fun hf => absurd hcmd (by omega), fun hf => absurd hcmd (by omega)⟩, noHeld_badParam q 0 h.noHeld⟩
  by_cases hslot : 7 < beAt q.p 1 1
  · have hbad : v.ixKeyCmd q = v.badParam q 1 := (if_neg hcmd).trans (if_pos hslot)
    rw [hbad]
    exact ⟨⟨fun hyes => absurd hyes hcmd, fun _ _ _ => h.badParam 1, fun hf => absurd hslot (by omega), fun hf => absurd hslot (by omega)⟩, noHeld_badParam q 1 h.noHeld⟩
  have hrow : v.ixKeyCmd q = (if beAt q.p 0 1 = 4 then v.kloadPut (beAt q.p 4 32) else v).ixKcmd q (beAt q.p 0 1) (beAt q.p 1 1) := (if_neg hcmd).trans (if_neg hslot)
  have hput : ∃ s, (if beAt q.p 0 1 = 4 then v.kloadPut (beAt q.p 4 32) else v) = s ∧ s.rget (lsmReg 0x10) = v.rget (lsmReg 0x10) ∧ Only [.regs] v s ∧
      (beAt q.p 0 1 = 4 → s.kload = BitVec.ofNat 256 (beAt q.p 4 32)) := by
    by_cases h4 : beAt q.p 0 1 = 4
    · rw [if_pos h4]
      obtain ⟨hviol, honly⟩ := kloadPut_leaves v (beAt q.p 4 32)
      exact ⟨_, rfl, hviol, honly, fun _ => kload_kloadPut v _⟩
    · rw [if_neg h4]
      exact ⟨v, rfl, rfl, .refl _ v, fun hyes => absurd hyes h4⟩
  obtain ⟨s, hs, hviol, honly, hkey⟩ := hput
  rw [hrow, hs]
  generalize beAt q.p 0 1 = cmd at *
  generalize beAt q.p 1 1 = slot at *
  have hok := kcmdOk_congr honly cmd slot
  have hst : s.kslot slot = v.kslot slot := State.kslot_of_kslots (honly .kslots (by decide)) _
  have hserves : Serves s q := h.of_ix (honly .ix (by decide))
  obtain ⟨hfail, hwait, hheld⟩ := ixKcmd_spec hserves (cmd := cmd) (slot := slot) (by omega) (by omega)
  obtain ⟨hrefused, htaken⟩ := keyCommand honly hviol cmd slot
  rw [hok, hst] at hfail
  rw [hok] at hwait
  refine ⟨⟨fun hyes => absurd hyes hcmd, fun _ _ hgt => absurd hgt hslot, fun _ hno => ?_, fun _ hdone => ?_⟩, hheld⟩
  · exact ⟨_, (hrefused hno).1, (hrefused hno).2, hfail hno⟩
  · obtain ⟨hw, hcleared, -⟩ := htaken hdone
    obtain ⟨-, -, herase, hrevoke, hprogram, howner, hframe, -⟩ := keyDone_does s.clearKload cmd slot s.kload
    have hold : s.clearKload.oslot (slot % 4) = v.oslot (slot % 4) := State.oslot_of_oslots (hcleared .oslots (by decide)) _
    have hwaits := hwait hdone
    rw [hw] at hwaits
    exact ⟨_, herase, hrevoke, fun h4 => (hprogram h4).trans (by rw [hkey h4]), fun h5 => (howner h5).trans (by rw [hold]), (hcleared.mono (by simp)).trans (hframe.mono (by simp)), hwaits⟩

end Machine

/-- Settles O58: each opcode of the memory, hopper, and security and attestation groups does to a request in turn what its row of the table says, and a request that waits for an access
goes on at its answer as IxAnswers says. -/
theorem memoryAndSecurityOpcodes : Obligations.MemoryAndSecurityOpcodes := by
  unfold Obligations.MemoryAndSecurityOpcodes
  refine ⟨?_, ?_, ?_, ?_, ?_, ?_, ?_, ?_, ?_, ?_, ?_, fun id s f a hf hpath hiss hans => ⟨fun x r hw hx hrun => ?_, fun hkind hw => ?_, fun hkind hw => ?_⟩⟩
  · exact row_of_perform State.ixReadCmd (fun _ _ => rfl) rfl (fun n => by simp [lenOk, ixLens]) (fun _ _ _ _ _ _ => rfl) fun v q h _ _ => ixReadCmd_spec h
  · exact row_of_perform State.ixWriteCmd (fun _ _ => rfl) rfl (fun n => by simp [lenOk, ixLens]) (fun _ _ _ _ _ _ => rfl) fun v q h _ _ => ixWriteCmd_spec h
  · exact row_of_perform State.ixHopPop (fun _ _ => rfl) rfl (fun n => by simp [lenOk, ixLens]) (fun _ _ _ _ _ _ => rfl) fun v q h _ _ => ixHopPop_spec h
  · exact row_of_perform State.ixHopPush (fun _ _ => rfl) rfl (fun n => by simp [lenOk, ixLens]) (fun _ _ _ _ _ _ => rfl) fun v q h _ _ => ixHopPush_spec h
  · exact row_of_perform State.ixHopCmd (fun _ _ => rfl) rfl (fun n => by simp [lenOk, ixLens]) (fun _ _ _ _ _ _ => rfl) fun v q h _ _ => ixHopCmd_spec h
  · exact row_of_perform State.ixAttest (fun _ _ => rfl) rfl (fun n => by simp [lenOk, ixLens]) (fun _ _ _ _ _ _ => rfl) fun v q h _ _ => ixAttest_spec h
  · exact row_of_perform State.ixCert (fun _ _ => rfl) rfl (fun n => by simp [lenOk, ixLens]) (fun _ _ _ _ _ _ => rfl) fun v q h _ _ => ixCert_spec h
  · exact row_of_perform State.ixKeyStatus (fun _ _ => rfl) rfl (fun n => by simp [lenOk, ixLens]) (fun _ _ _ _ _ _ => rfl) fun v q h _ _ => ixKeyStatus_spec h
  · exact row_of_perform State.ixKeyWrite (fun _ _ => rfl) rfl (fun n => by simp [lenOk, ixLens]) (fun _ _ _ _ _ _ => rfl) fun v q h _ _ => ixKeyWrite_spec h
  · exact row_of_perform State.ixKeyCmd (fun _ _ => rfl) rfl (fun n => by simp [lenOk, ixLens]) (fun _ _ _ _ _ _ => rfl) fun v q h _ _ => ixKeyCmd_spec h
  · exact row_of_perform State.ixSvnRaise (fun _ _ => rfl) rfl (fun n => by simp [lenOk, ixLens]) (fun _ _ _ _ _ _ => rfl) fun v q h _ _ => ixSvnRaise_spec h
  · exact ixAnswers hf hpath hiss hans hw hx hrun
  · exact report_unwaited hf hpath hiss hans hkind hw
  · exact reply_unwaited hf hpath hiss hans hkind hw

end Sys2Proof
end

section
/-! What Ixzento has sent stays sent: every operation of Ixzento's leaves the packets at its endpoints, and adds behind them (R425 to R433). -/

namespace Sys2Proof

open Machine

namespace Machine

/-- The packets that `s` has sent are the first that `t` has. -/
def Says (s t : State) : Prop := s.ixOut <+: t.ixOut

variable {s t u v : State}

/-- The mask of every part of the state but the packets sent. -/
def silentMask : Nat := 20282332232399215087680070090751

theorem Says.refl (s : State) : Says s s := List.prefix_refl _

theorem Says.trans (h : Says s t) (k : Says t u) : Says s u := List.IsPrefix.trans h k

theorem Says.of_eq (h : Says s t) (hout : u.ixOut = t.ixOut) : Says s u := by
  unfold Says
  rw [hout]
  exact h

theorem Says.silent (h : Says s t) (hev : Ev silentMask t u) : Says s u := h.of_eq (hev.frame .ixOut (by rfl))

theorem Says.ite {c : Prop} [Decidable c] {a b : State} (ha : Says s a) (hb : Says s b) : Says s (if c then a else b) := by
  split
  · exact ha
  · exact hb

theorem Says.each {α : Type} {f : State → α → State} (hf : ∀ u a, Says u (f u a)) (s : State) (l : List α) : Says s (s.each l f) := by
  induction l generalizing s with
  | nil => exact .refl s
  | cons a l ih => exact (hf s a).trans (ih (f s a))

/-! Replies and waits. -/

theorem Says.send (h : Says s t) (ep : Endpoint) (b : List Byte) : Says s (t.ixSend ep b) := by
  cases ep with
  | choval pkg => exact h.silent (State.sendMgmt_ev pkg b (Ev.refl _ t) (by rfl))
  | udp a p => exact h.trans (List.prefix_append _ _)
  | mailbox n => exact h.trans (List.prefix_append _ _)
  | uart => exact h.trans (List.prefix_append _ _)

theorem Says.reply (h : Says s t) (q : Req) (st det : Nat) (res : List Byte) : Says s (t.ixReply q st det res) := by
  unfold State.ixReply
  split
  · exact (h.of_eq (u := t.setSession _) rfl).send _ _
  · exact .ite (h.send _ _) h

theorem Says.badParam (h : Says s t) (q : Req) (off : Nat) : Says s (t.badParam q off) := h.reply q stBadParam off []

theorem Says.wait (h : Says s t) (q : Req) (w : IxWait) : Says s (t.ixWait q w) := h.silent (State.ixWait_ev q w (Ev.refl _ t) (by rfl))

theorem Says.reads (h : Says s t) (gs : List Reg) : Says s (t.ixReads gs).1 := h.silent (State.ixReads_ev gs (Ev.refl silentMask t) (by rfl)).get

theorem Says.read (h : Says s t) (g : Reg) : Says s (t.ixRead g).1 := h.silent (State.ixRead_ev g (Ev.refl silentMask t) (by rfl)).get

theorem Says.replyRegs (h : Says s t) (q : Req) (st det : Nat) (gs : List Reg) : Says s (t.ixReplyRegs q st det gs) := (h.reads gs).reply q st det _

theorem Says.put (h : Says s t) (g : Reg) (x : Nat) : Says s (t.ixPut g x) := h.silent (State.ixPut_ev g x (Ev.refl _ t) (by rfl))

theorem Says.flashOn (h : Says s t) : Says s t.flashOn := h.silent (State.flashOn_ev (Ev.refl _ t) (by rfl))

theorem Says.toFabric (h : Says s t) (addr : Nat) (wd : Width) (k : AKind) (d : Word) : Says s (t.toFabric .ixz addr wd k d false) :=
  h.silent (State.toFabric_ev .ixz addr wd k d false (Ev.refl _ t) (by rfl))

/-! The session and query groups. -/

theorem says_ixOpen (s : State) (q : Req) : Says s (s.ixOpen q) := by
  have h := Says.refl s
  have hadded (x : Session) : Says s (s.bumpFree.addSession x) := h.of_eq rfl
  unfold State.ixOpen
  dsimp only
  refine .ite (h.reply _ _ _ _) (.ite (h.badParam _ _) (.ite (h.reply _ _ _ _) (.ite (h.reply _ _ _ _) (.reply (.ite ?_ (hadded _)) _ _ _ _))))
  exact (hadded _).silent (State.grantControl_ev _ (Ev.refl _ _) (by rfl))

theorem says_ixProve (s : State) (q : Req) : Says s (s.ixProve q) := by
  have h := Says.refl s
  unfold State.ixProve
  split
  · exact h
  · split
    · exact h.reply _ _ _ _
    · refine .ite ((h.flashOn.reply _ _ _ _).of_eq rfl) (.ite (h.flashOn.reply _ _ _ _) (.reply ?_ _ _ _ _))
      exact h.flashOn.silent (State.grantControl_ev _ (Ev.refl _ _) (by rfl))

theorem says_ixClose (s : State) (q : Req) : Says s (s.ixClose q) := ((Says.refl s).reply q stOk 0 []).of_eq rfl

theorem says_ixRelay (s : State) (q : Req) : Says s (s.ixRelay q) := by
  have h := Says.refl s
  exact .ite (h.badParam _ _) ((h.wait _ _).silent (State.sendMgmt_ev _ _ (Ev.refl _ _) (by rfl)))

theorem says_ixHealth (s : State) (q : Req) : Says s (s.ixHealth q) := by
  unfold State.ixHealth
  dsimp only
  exact ((Says.refl s).reads _).reply _ _ _ _

theorem says_ixViolClear (s : State) (q : Req) : Says s (s.ixViolClear q) :=
  .reply (Says.each (fun u g => (Says.refl u).silent (State.rsetf_ev g 0 16 0 (Ev.refl _ u) (by rfl))) s violAll) _ _ _ _

/-! The configuration group. -/

theorem says_ixLoad (s : State) (q : Req) : Says s (s.ixLoad q) := by
  have h := Says.refl s
  have hused (so : Source) : Says s (s.sourceUsed so) := h.silent (State.sourceUsed_ev so (Ev.refl _ s) (by rfl))
  have hcleared : Says s { s with loadEnded := none } := h.of_eq rfl
  unfold State.ixLoad
  dsimp only
  refine .ite (h.badParam _ _) (.ite (h.badParam _ _) (.ite (h.badParam _ _) (.ite (h.badParam _ _) (.ite (h.replyRegs _ _ _ _) (.ite ((hused _).replyRegs _ _ _ _) (.wait (.ite ?_ ?_) _ _))))))
  · exact hcleared.silent (State.partialLoad_ev _ _ (Ev.refl _ _) (by rfl))
  · exact hcleared.silent (State.fullLoad_ev _ (Ev.refl _ _) (by rfl))

theorem says_ixPushBegin (s : State) (q : Req) : Says s (s.ixPushBegin q) := by
  have h := Says.refl s
  unfold State.ixPushBegin
  dsimp only
  refine .ite (h.badParam _ _) (.ite (h.badParam _ _) (.ite (h.reply _ _ _ _) (Says.reply ?_ _ _ _ _)))
  exact h.of_eq rfl

theorem says_ixPushData (s : State) (q : Req) : Says s (s.ixPushData q) := by
  have h := Says.refl s
  unfold State.ixPushData
  dsimp only
  split
  · refine .ite (h.badParam _ _) (Says.reply ?_ _ _ _ _)
    exact h.of_eq rfl
  · exact h.badParam _ _

theorem says_program (h : Says s t) (q : Req) (off : Nat) (b : List Byte) : Says s (t.program q off b) := h.silent (State.program_ev q off b (Ev.refl _ t) (by rfl))

theorem says_ixPushEnd (s : State) (q : Req) : Says s (s.ixPushEnd q) := by
  have h := Says.refl s
  have hended : Says s s.endPush := h.of_eq rfl
  unfold State.ixPushEnd
  dsimp only
  split
  · exact h.badParam _ _
  · refine .ite (h.badParam _ _) (.ite (h.reply _ _ _ _) (.ite (.ite (says_program hended _ _ _) ((hended.replyRegs _ _ _ _).of_eq rfl))
      (.ite (hended.replyRegs _ _ _ _) (.ite ?_ (says_program hended _ _ _)))))
    exact (hended.of_eq (u := s.endPush.stageImage _) rfl).replyRegs _ _ _ _

theorem says_ixRecordWrite (s : State) (q : Req) : Says s (s.ixRecordWrite q) := by
  have h := Says.refl s
  unfold State.ixRecordWrite
  refine .ite (h.badParam _ _) (.ite (h.reply _ _ _ _) (.ite (h.badParam _ _) (Says.reply ?_ _ _ _ _)))
  exact h.of_eq rfl

theorem says_ixRecordCommit (s : State) (q : Req) : Says s (s.ixRecordCommit q) := by
  have h := Says.refl s
  unfold State.ixRecordCommit
  exact .ite (h.badParam _ _) (.ite (h.reply _ _ _ _) (.ite (h.badParam _ _) (says_program h _ _ _)))

theorem says_ixRecordRead (s : State) (q : Req) : Says s (s.ixRecordRead q) := by
  have h := Says.refl s
  unfold State.ixRecordRead
  exact .ite (h.badParam _ _) (.ite (h.badParam _ _) (.ite (h.badParam _ _) (h.flashOn.reply _ _ _ _)))

/-! The power, phase and fault groups. -/

theorem says_ixPowerSet (s : State) (q : Req) : Says s (s.ixPowerSet q) := by
  have h := Says.refl s
  unfold State.ixPowerSet
  exact .ite (h.badParam _ _) (.ite (h.badParam _ _) ((h.put _ _).wait _ _))

theorem says_ixPowerGet (s : State) (q : Req) : Says s (s.ixPowerGet q) := by
  have h := Says.refl s
  unfold State.ixPowerGet
  exact .ite (h.badParam _ _) (.ite (h.badParam _ _) (h.reply _ _ _ _))

theorem says_ixRailSet (s : State) (q : Req) : Says s (s.ixRailSet q) := by
  have h := Says.refl s
  unfold State.ixRailSet
  exact .ite (h.badParam _ _) (.ite (h.badParam _ _) ((h.put _ _).reply _ _ _ _))

theorem says_puts (h : Says s t) (gs : List (Nat × Nat)) (g : Nat → Reg) (x : Nat → Nat) : Says s (t.each gs (fun s e => s.ixPut (g e.1) (x e.2))) :=
  h.trans (Says.each (fun u e => (Says.refl u).put (g e.1) (x e.2)) t gs)

theorem says_ixPortSet (s : State) (q : Req) : Says s (s.ixPortSet q) := by
  have h := Says.refl s
  unfold State.ixPortSet
  dsimp only
  exact .ite (h.badParam _ _) (((says_puts (h.put _ _) _ _ _).put _ _).replyRegs _ _ _ _)

theorem says_ixLineSet (s : State) (q : Req) : Says s (s.ixLineSet q) := by
  have h := Says.refl s
  unfold State.ixLineSet
  dsimp only
  exact .ite (h.badParam _ _) (((((says_puts h _ _ _).put _ _).put _ _).put _ _).replyRegs _ _ _ _)

theorem says_ixLineGet (s : State) (q : Req) : Says s (s.ixLineGet q) := by
  have h := Says.refl s
  by_cases hn : 7 < beAt q.p 0 1
  · have hbad : s.ixLineGet q = s.badParam q 0 := if_pos hn
    rw [hbad]
    exact h.badParam q 0
  · have hgot (n p : Nat) : Says s (s.lineGot n p) := (((((h.put _ _).reads _).put _ _).read _).read _).read _
    have hclear (n p : Nat) : Says s ((s.lineGot n p).lostClear p) := ((hgot n p).put (piReg p 0x24) 0xFE00).of_eq rfl
    rw [ixLineGet_eq hn]
    exact .reply (.ite (hclear _ _) (hgot _ _)) _ _ _ _

theorem says_ixWaitLock (s : State) (q : Req) : Says s (s.ixWaitLock q) := by
  have h := Says.refl s
  exact .ite (h.badParam _ _) (h.wait _ _)

theorem says_ixFaultClear (s : State) (q : Req) : Says s (s.ixFaultClear q) := by
  have h := Says.refl s
  unfold State.ixFaultClear
  exact .ite (h.badParam _ _) (.ite (h.badParam _ _) (.reply ((h.put _ _).silent (State.faultMark_ev _ _ _ (Ev.refl _ _) (by rfl))) _ _ _ _))

theorem says_ixSliceRun (s : State) (q : Req) : Says s (s.ixSliceRun q) := by
  have h := Says.refl s
  unfold State.ixSliceRun
  exact .ite (h.badParam _ _) (.ite (h.badParam _ _) (.ite (h.reply _ _ _ _) ((h.put _ _).wait _ _)))

theorem says_ixAsh (s : State) (q : Req) : Says s (s.ixAsh q) := by
  have h := Says.refl s
  unfold State.ixAsh
  exact .ite (h.badParam _ _) ((h.toFabric _ _ _ _).wait _ _)

theorem says_ixReset (s : State) (q : Req) : Says s (s.ixReset q) := by
  have h := Says.refl s
  unfold State.ixReset
  refine .ite (h.badParam _ _) (Says.reply ?_ _ _ _ _)
  exact h.of_eq rfl

theorem says_ixLinkCtl (s : State) (q : Req) : Says s (s.ixLinkCtl q) := by
  have h := Says.refl s
  unfold State.ixLinkCtl
  exact .ite (h.badParam _ _) (.ite (h.badParam _ _) ((h.put _ _).replyRegs _ _ _ _))

/-! The memory, hopper and security groups. -/

theorem says_ixReadOn (s : State) (q : Req) (addr : Nat) (w64 : Bool) (n : Nat) (got : List (BitVec 64 × Bool)) (ref : Bool) : Says s (s.ixReadOn q addr w64 n got ref) := by
  have hrun : Says s (s.readRun addr w64 n got).st := (Says.refl s).silent (State.readRun_ev addr w64 n got (Ev.refl _ s) (by rfl))
  unfold State.ixReadOn
  dsimp only
  split
  · exact hrun.reply _ _ _ _
  · exact hrun.wait _ _

theorem says_ixReadCmd (s : State) (q : Req) : Says s (s.ixReadCmd q) := by
  have h := Says.refl s
  exact .ite (h.badParam _ _) (.ite (h.badParam _ _) (.ite (h.badParam _ _) (says_ixReadOn s _ _ _ _ _ _)))

theorem says_ixWriteCmd (s : State) (q : Req) : Says s (s.ixWriteCmd q) := by
  have h := Says.refl s
  have hrun (w64 : Bool) (n a : Nat) (b : List Byte) : Says s (s.writeRun w64 n a b ([], 0)).1 := h.silent (State.writeRun_ev w64 n a b ([], 0) (Ev.refl silentMask s) (by rfl)).get
  exact .ite (h.badParam _ _) (.ite (h.badParam _ _) (.ite (h.badParam _ _) (.ite (h.reply _ _ _ _) ((hrun _ _ _ _).wait _ _))))

theorem says_hopFirst (h : Says s t) (q : Req) (hop : Nat) (todo : HopTodo) : Says s (t.hopFirst q hop todo) := (h.toFabric _ _ _ _).wait _ _

theorem says_ixHopPop (s : State) (q : Req) : Says s (s.ixHopPop q) := by
  have h := Says.refl s
  unfold State.ixHopPop
  dsimp only
  split
  · exact h.badParam _ _
  · exact .ite (h.badParam _ _) (says_hopFirst h _ _ _)

theorem says_ixHopPush (s : State) (q : Req) : Says s (s.ixHopPush q) := by
  have h := Says.refl s
  unfold State.ixHopPush
  dsimp only
  split
  · exact h.badParam _ _
  · exact .ite (h.badParam _ _) (says_hopFirst h _ _ _)

theorem says_ixHopCmd (s : State) (q : Req) : Says s (s.ixHopCmd q) := by
  have h := Says.refl s
  unfold State.ixHopCmd
  dsimp only
  split
  · exact h.badParam _ _
  · exact .ite (h.badParam _ _) ((h.toFabric _ _ _ _).wait _ _)

theorem says_ixAttest (s : State) (q : Req) : Says s (s.ixAttest q) := by
  have hattest : Says s (s.attest q.p) := (Says.refl s).silent (State.attest_ev q.p (Ev.refl _ s) (by rfl))
  exact (hattest.of_eq (u := (s.attest q.p).signQueued q.sid) rfl).wait _ _

theorem says_ixCert (s : State) (q : Req) : Says s (s.ixCert q) := by
  have h := Says.refl s
  unfold State.ixCert
  exact .ite (h.badParam _ _) (.ite (h.badParam _ _) (h.flashOn.reply _ _ _ _))

theorem says_ixKcmd (h : Says s t) (q : Req) (cmd slot : Nat) : Says s (t.ixKcmd q cmd slot) := by
  unfold State.ixKcmd
  exact .ite ((h.put _ _).wait _ _) ((h.put _ _).reply _ _ _ _)

theorem says_kloadPut (s : State) (x : Nat) : Says s (s.kloadPut x) := (Says.refl s).silent (State.kloadPut_ev x (Ev.refl _ s) (by rfl))

theorem says_ixKeyWrite (s : State) (q : Req) : Says s (s.ixKeyWrite q) := by
  have h := Says.refl s
  unfold State.ixKeyWrite
  exact .ite (h.reply _ _ _ _) (.ite (h.badParam _ _) (says_ixKcmd (says_kloadPut s _) _ _ _))

theorem says_ixKeyCmd (s : State) (q : Req) : Says s (s.ixKeyCmd q) := by
  have h := Says.refl s
  unfold State.ixKeyCmd
  exact .ite (h.badParam _ _) (.ite (h.badParam _ _) (says_ixKcmd (.ite (says_kloadPut s _) h) _ _ _))

theorem says_ixSvnRaise (s : State) (q : Req) : Says s (s.ixSvnRaise q) := by
  have h := Says.refl s
  unfold State.ixSvnRaise
  refine .ite (h.badParam _ _) (.ite (h.badParam _ _) (Says.replyRegs ?_ _ _ _ _))
  exact h.of_eq rfl

/-! Requests in turn, and what Ixzento takes note of. -/

theorem says_ixPerform (s : State) (q : Req) : Says s (s.ixPerform q) := by
  have h := Says.refl s
  unfold State.ixPerform
  split
  · exact h.reply _ _ _ _
  · exact says_ixOpen s q
  · exact says_ixProve s q
  · exact says_ixClose s q
  · exact h.reply _ _ _ _
  · exact says_ixRelay s q
  · exact h.reply _ _ _ _
  · exact says_ixHealth s q
  · exact h.reply _ _ _ _
  · exact says_ixViolClear s q
  · exact says_ixLoad s q
  · exact says_ixPushBegin s q
  · exact says_ixPushData s q
  · exact says_ixPushEnd s q
  · exact (h.put _ _).replyRegs _ _ _ _
  · exact says_ixRecordWrite s q
  · exact says_ixRecordCommit s q
  · exact says_ixRecordRead s q
  · exact says_ixPowerSet s q
  · exact says_ixPowerGet s q
  · exact says_ixRailSet s q
  · exact says_ixPortSet s q
  · exact says_ixLineSet s q
  · exact says_ixLineGet s q
  · exact says_ixWaitLock s q
  · exact h.replyRegs _ _ _ _
  · exact says_ixFaultClear s q
  · exact says_ixSliceRun s q
  · exact says_ixAsh s q
  · exact says_ixReset s q
  · exact says_ixLinkCtl s q
  · exact says_ixReadCmd s q
  · exact says_ixWriteCmd s q
  · exact says_ixHopPop s q
  · exact says_ixHopPush s q
  · exact says_ixHopCmd s q
  · exact says_ixAttest s q
  · exact says_ixCert s q
  · exact h.replyRegs _ _ _ _
  · exact says_ixKeyWrite s q
  · exact says_ixKeyCmd s q
  · exact says_ixSvnRaise s q
  · exact h

theorem says_ixRequest (s : State) (q : Req) (k : Pkt) (control : Bool) : Says s (s.ixRequest q k control) := by
  have h := Says.refl s
  unfold State.ixRequest
  split
  · exact h.reply _ _ _ _
  · exact .ite (h.reply _ _ _ _) (.ite (h.reply _ _ _ _) (.ite (h.reply _ _ _ _) (says_ixPerform s q)))

theorem says_ixDrain (s : State) (sid n : Nat) : Says s (s.ixDrain sid n) := by
  induction n generalizing s with
  | zero => exact .refl s
  | succ n ih =>
    unfold State.ixDrain
    split
    · exact .refl s
    · refine .ite (.refl s) ?_
      split
      · exact .refl s
      · split
        · exact .refl s
        · refine (Says.trans ?_ (says_ixRequest _ _ _ _)).trans (ih _)
          exact (Says.refl s).of_eq rfl

theorem says_ixDone {x : Session} {r : Running} (h : s.ixDone x r = some t) : Says s t := by
  have hs := Says.refl s
  unfold State.ixDone at h
  dsimp only at h
  split at h
  · split at h
    · injection h with h
      rw [← h]
      refine Says.replyRegs ?_ _ _ _ _
      exact hs.of_eq rfl
    · cases h
  · cases h
  · split at h
    · cases h
    · injection h with h
      exact h ▸ hs.replyRegs _ _ _ _
  · split at h
    · injection h with h
      exact h ▸ hs.reply _ _ _ _
    · cases h
  · cases h
  · split at h
    · cases h
    · injection h with h
      exact h ▸ hs.reply _ _ _ _
  · split at h
    · cases h
    · injection h with h
      exact h ▸ hs.replyRegs _ _ _ _
  · split at h
    · injection h with h
      have htaken : Says s { s with mgmtIn := s.mgmtIn.drop 1 } := hs.of_eq rfl
      exact h ▸ .ite (htaken.reply _ _ _ _) (htaken.reply _ _ _ _)
    · cases h
  · cases h
  · cases h
  · cases h
  · cases h
  · cases h
  · cases h
  · split at h
    · injection h with h
      exact h ▸ hs.reply _ _ _ _
    · cases h

theorem says_ixSettleOne (s : State) (sid : Nat) : Says s (s.ixSettleOne sid) := by
  have hdone (x : Session) (r : Running) : Says s ((s.ixDone x r).getD s) := by
    cases hd : s.ixDone x r with
    | none => exact .refl s
    | some t => exact says_ixDone hd
  unfold State.ixSettleOne
  dsimp only
  refine Says.trans ?_ (says_ixDrain _ sid 9)
  split
  · split
    · exact hdone _ _
    · exact .refl s
  · exact .refl s

theorem says_ixPass (s : State) : Says s s.ixPass := Says.each says_ixSettleOne s _

theorem says_iter {f : State → State} (hf : ∀ u, Says u (f u)) (n : Nat) (s : State) : Says s (iter f n s) := by
  induction n generalizing s with
  | zero => exact .refl s
  | succ n ih => exact (hf s).trans (ih (f s))

/-- What Ixzento takes note of leaves what it has sent. -/
theorem says_ixSettle (s : State) : Says s s.ixSettle := .ite (says_iter says_ixPass 80 s) (.refl s)

end Machine
end Sys2Proof
end

section
/-! ABORT of a load of a region that is none of the 32 (R361, R374, R437): its reply shows the CMP_STAT it leaves. -/

namespace Sys2Proof

open Machine

namespace Machine

/-- Packets with the same header fields and different parameters differ. -/
theorem mkPkt_params {ver op flags sid : Nat} {seq : Word} {a b : List Byte} (h : mkPkt ver op flags seq sid a = mkPkt ver op flags seq sid b) : a = b := by
  have hdrop (p : List Byte) : (mkPkt ver op flags seq sid p).drop 16 = p := by
    rw [mkPkt_eq, ← List.append_assoc, List.drop_left' (by rw [List.length_append, hdrBytes_length, be_length])]
  rw [← hdrop a, h, hdrop]

theorem replyPkt_results {ver op sid st det : Nat} {seq : Word} {a b : List Byte} (h : replyPkt ver op seq sid st det a = replyPkt ver op seq sid st det b) : a = b :=
  List.append_cancel_left (mkPkt_params h)

/-- No bit of a field that reads 0 is set. -/
theorem bit_of_fld_zero {n : Nat} {v : BitVec n} {lo len : Nat} (h : fld v lo len = 0) {i : Nat} (hi : i < len) : bit v (lo + i) = false := by
  have hbit : (fld v lo len).testBit i = bit v (lo + i) := by
    unfold fld bit
    rw [Nat.testBit_mod_two_pow, Nat.testBit_shiftRight, decide_eq_true hi, Bool.true_and, BitVec.testBit_toNat]
  rw [← hbit, h, Nat.zero_testBit]

/-- A read of CMP_STAT shows no bit of PHASE that the register does not hold. -/
theorem shown_phase {s : State} (h : s.rf (cmpReg 0) 24 4 = 0) : bit (s.shown (cmpReg 0)) 26 = false := by
  have hlive : s.live (cmpReg 0) = s.rget (cmpReg 0) := rfl
  obtain ⟨i, hi⟩ := Option.isSome_iff_exists.mp (show (cmpReg 0).info.isSome = true by decide)
  rw [shown_info hi, RegInfo.bit_shown, hlive, bit_of_fld_zero (lo := 24) h (show 2 < 4 by decide), Bool.false_and]

end Machine

open Machine

/-- A CONTROL session in version 1.0. -/
def straySession : Session := { id := 3, ep := .mailbox 0, control := true, expect := 7 }

/-- Its ABORT. -/
def strayAsk : List Byte := mkPkt 0x0100 0x34 0 7 3 []

/-- The firmware runs, with the load and the waiting request of `strayLoad`. -/
def strayServed : State :=
  { load := some { part := some 1867, phase := 5 }, doms := [(31744, { wait := some 1 })], fw := some {}, vin := true, bootDue := false, ix := { sessions := [straySession] } }

theorem strayAsk_inTurn : InTurn strayServed (.mailbox 0 strayAsk) 0x34 strayServed straySession ⟨1, 0, 0x34, 0, 7, 0, 3, []⟩ := by
  have hparse : parsePkt strayAsk = some ⟨1, 0, 0x34, 0, 7, 0, 3, []⟩ :=
    packetsReadBack 0x0100 0x34 0 3 7 [] (by decide) (by decide) (by decide) (by decide) (by decide)
  exact ⟨strayAsk, rfl, hparse, rfl, rfl, rfl, rfl, by decide, rfl, by decide, rfl, rfl, rfl, rfl⟩

/-- The packets sent, where a command answers a next state. -/
def outOf : Out → List (Endpoint × List Byte)
  | .next u => u.ixOut
  | _ => []

theorem strayAsk_answer : outOf (exec (.ixAbort (.mailbox 0 strayAsk)) strayServed) = [(.mailbox 0, replyPkt 0x0100 0x34 7 3 stOk 0 (be 4 0x4000002))] := by
  decide +kernel

/-- Refutes O56: as in `not_loadRequests`, the abort of the load of region 1867 leaves CMP_STAT.PHASE = 4, and the reply of ABORT shows it. -/
theorem not_loadsPushesAndRecords : ¬ Obligations.LoadsPushesAndRecords := by
  unfold Obligations.LoadsPushesAndRecords
  rintro ⟨-, -, -, -, habort, -⟩
  obtain ⟨hperform, -⟩ := habort _ _ _ _ _ strayAsk_inTurn
  obtain ⟨u, ⟨-, hends⟩, hexec⟩ := hperform ⟨Nat.zero_le _, fun h => absurd h (by decide)⟩ (fun _ => rfl) (by decide) (by decide)
  obtain ⟨w, ⟨-, -, -, -, hphase, -⟩, w', hnews, v, hsent, -⟩ := hends _ rfl
  have hpre : u.ixOut <+: [(.mailbox 0, replyPkt 0x0100 0x34 7 3 stOk 0 (be 4 0x4000002))] := by
    rw [← strayAsk_answer, hexec]
    exact says_ixSettle u
  have hlast : u.ixOut = v.ixOut ++ [(.mailbox 0, replyPkt 0x0100 0x34 7 3 stOk 0 (be 4 (w.shown (cmpReg 0)).toNat))] := by
    rw [hsent]
    rfl
  have hmem := hpre.subset (hlast ▸ List.mem_append_right v.ixOut (List.mem_singleton_self _))
  have hreply := replyPkt_results (Prod.mk.inj (List.mem_singleton.mp hmem)).2
  have hstat : (w.shown (cmpReg 0)).toNat % 256 ^ 4 = 0x4000002 := by
    rw [← ofBE_be, hreply]
    decide
  have hset : bit (w.shown (cmpReg 0)) 26 = true := by
    have hlow : ((w.shown (cmpReg 0)).toNat % 2 ^ 32).testBit 26 = true := hstat ▸ by decide
    rwa [Nat.testBit_mod_two_pow, decide_eq_true (by decide), Bool.true_and, BitVec.testBit_toNat] at hlow
  exact absurd (hset.symm.trans (shown_phase hphase)) (by decide)

end Sys2Proof
end
